-- ==== Sys2Proof/Word.lean ====
section
/-! DEFINITION. The words of the GY-6416 and their plainest arithmetic: registers are 32 bits (00, Registers), memories are
bytes, multi-byte fields of structures in memory are little-endian (R3). -/

namespace Sys2Proof

/-- A device register, a helm register. -/
abbrev Word := BitVec 32

/-- A byte of host memory or of a helm memory. -/
abbrev Byte := BitVec 8

/-- The byte at index `i` of a number, little-endian (R3). -/
def byteOf (v i : Nat) : Byte := BitVec.ofNat 8 (v / 2 ^ (8 * i))

/-- The `len` bytes of a number, lowest first (R3). -/
def toBytes (v len : Nat) : List Byte := (List.range len).map (byteOf v)

/-- The number that bytes spell, lowest first (R3). -/
def ofBytes : List Byte → Nat
  | [] => 0
  | b :: bs => b.toNat + 256 * ofBytes bs

/-- The field of `w` bits at bit `lo` of a number. -/
def bitsAt (v lo w : Nat) : Nat := v / 2 ^ lo % 2 ^ w

/-- Bit `i` of a number. -/
def bitAt (v i : Nat) : Bool := v / 2 ^ i % 2 == 1

/-- The signed value of the low `w` bits of a number. -/
def signedOf (v w : Nat) : Int :=
  let m := v % 2 ^ w
  if m < 2 ^ (w - 1) then (m : Int) else (m : Int) - 2 ^ w

/-- A signed value written in `w` bits. -/
def encodeSigned (v : Int) (w : Nat) : Nat := (v % (2 ^ w : Int)).toNat

/-- A signed value limited to what `w` bits hold. -/
def saturateSigned (v : Int) (w : Nat) : Int := max (-(2 ^ (w - 1) : Int)) (min v ((2 ^ (w - 1) : Int) - 1))

end Sys2Proof
end

