-- ==== Sys2Proof/Syntax.lean ====
section
/-! DEFINITION. The commands of the block, one constructor per row of spec/opcode_table.json, in the table's order. The operands
are what the row's rule says the command carries: the index it names, the value it writes, the fields of the frame it
receives, the time it was measured at. -/

namespace Sys2Proof

/-- A command of the GY-6416. Each constructor is one row of the table of operations and events. -/
inductive Instr where
  /-- MERIDIAN (R12). At each meridian the controller applies hand-over, removals, appearances, counter reloads and NODE_ABSENT completions, then starts the marker and the tick's legs. -/
  | meridian
  /-- LATCH_POINT (R11). At M−128 ns the controller latches every committed chart edit and shadow register set for hand-over at the next meridian. -/
  | latchPoint
  /-- HANDOVER_WHILE_STOPPED (R11). While CHT_STATUS.RUNNING is 0, an accepted COMMIT of any block hands over 1 µs after acceptance. -/
  | handoverWhileStopped (block : Nat)
  /-- MERID_OUT_PPS_PULSE (R53). In PPS_MODE, MERID_OUT rises at each chronometer second. -/
  | meridOutPpsPulse
  /-- OUTBOUND_LEG_START (R10). The chart executor starts an outbound leg at its charted slot from its source. -/
  | outboundLegStart (i : Nat) (second : Bool)
  /-- LEG_ENCODE_START (R246). At the start of slot START−2 the controller fixes and begins encoding an outbound leg's payload. -/
  | legEncodeStart (i : Nat)
  /-- INBOUND_LEG_RECEIVE (R14). An inbound leg frame arrives in its range and is checked, stored on success and completed. -/
  | inboundLegReceive (prev : Bool) (i : Nat) (second : Bool) (t : Nat) (pos : Int) (frame : List Byte)
  /-- INBOUND_LEG_TIMEOUT (R168). A range ends with no frame begun and the leg completes with TIMEOUT. -/
  | inboundLegTimeout (prev : Bool) (i : Nat) (second : Bool) (t : Nat)
  /-- STRAY_FRAME (R169). An inbound KIND 0 frame outside every active range is discarded and counted in CHT_STRAY_CNT. -/
  | strayFrame (p : Nat) (pos : Int) (frame : List Byte)
  /-- PI_FULL_AT_SLOT (R255). With no counted leg active, the header is written and the full cause raised at slot N−4. -/
  | piFullAtSlot (i : Nat)
  /-- PI_HALF_AT_SLOT (R256). The half cause is raised at the start of slot HALF_SLOT if not raised earlier. -/
  | piHalfAtSlot (i : Nat)
  /-- PI_STAMP_COMPLETION (R257). The STAMP read completes; on a match the stream reads the active regions and routes. -/
  | piStampCompletion (i : Nat)
  /-- PI_REGION_READ_COMPLETION (R258). Read data arrives and is written into the legs' working buffers. -/
  | piRegionReadCompletion (i k : Nat)
  /-- PI_READ_FAULT (R264). A process-image read ends in completion timeout or UR and its page is unsupplied. -/
  | piReadFault (i : Nat) (stamp : Bool) (k how : Nat)
  /-- TASK_DISPATCH (R238). A ready task executes its first instruction 24 ns after it is ready and its helm available. -/
  | taskDispatch (h : Nat)
  /-- LATEST_FINISH (R17). At the start of a task's latest-finish slot an unfinished task is marked LATE and its legs hold. -/
  | latestFinish (t : Nat)
  /-- HELM_INSTRUCTION (R213). A helm executes one RV32IMAFC instruction in its fixed cycle count. -/
  | helmInstruction (h more ecc row : Nat)
  /-- HELM_INTERRUPT_TAKEN (R350). A helm in background takes its raised ICU request line as a machine external interrupt. -/
  | helmInterruptTaken (h : Nat)
  /-- GY_LIN (R221). Copies an inbound leg's payload into DTCM and returns its status word. -/
  | gyLin (h ecc row : Nat)
  /-- GY_LOUT (R222). Writes DTCM into an outbound leg's working buffer if accepted, or returns LATE or BAD_ENTRY. -/
  | gyLout (h ecc row : Nat)
  /-- GY_LSTAT (R221). Returns the status word of an inbound leg. -/
  | gyLstat (h ecc row : Nat)
  /-- GY_SIG (R223). Decrements the counter of a named task. -/
  | gySig (h ecc row : Nat)
  /-- GY_SEMTRY (R242). Takes a free semaphore and returns 1, or returns 0 at once. -/
  | gySemtry (h ecc row : Nat)
  /-- GY_SEMTAKE (R242). Background waits for a semaphore. -/
  | gySemtake (h ecc row : Nat)
  /-- SEMAPHORE_TAKEN (R242). A waiting GY.SEMTAKE takes the semaphore once it is freed. -/
  | semaphoreTaken (h : Nat)
  /-- GY_SEMREL (R242). Frees a semaphore that the same helm holds. -/
  | gySemrel (h ecc row : Nat)
  /-- GY_DONE (R224). Ends the running task. -/
  | gyDone (h ecc row : Nat)
  /-- GY_WFT (R224). Stops background until the next dispatch or interrupt. -/
  | gyWft (h ecc row : Nat)
  /-- GY_FCLMP (R225). Clamps fs1 to ±|fs2|, giving +0.0 and NV on a NaN. -/
  | gyFclmp (h ecc row : Nat)
  /-- SEMAPHORE_OVERHOLD (R243). A semaphore held for HOLD_LIMIT × 16 cycles sets OVERHOLD. -/
  | semaphoreOverhold (n : Nat)
  /-- HLM_ENABLE (R227). Writing HLM_CTRL.ENABLE = 1 moves an OFF helm to ENABLING or sets PENDING_ENABLE. -/
  | hlmEnable (h : Nat)
  /-- HLM_DISABLE (R227). Writing HLM_CTRL.ENABLE = 0 moves the helm to DISABLING, OFF from ENABLING or ERROR, or clears PENDING_ENABLE. -/
  | hlmDisable (h : Nat)
  /-- HELM_ENABLING_DONE (R227). 64 helm cycles after entry to ENABLING the helm reaches ON and background starts. -/
  | helmEnablingDone (h : Nat)
  /-- TCM_FABRIC_WRITE (R216). A fabric write reaches a TCM; ITCM writes are refused unless the helm is OFF. -/
  | tcmFabricWrite (h : Nat) (itcm : Bool) (off : Nat) (bs : List Byte)
  /-- TSK_WRITE (R232). TSK_CMD.WRITE writes the staged descriptor if the task is disabled and the fields are valid. -/
  | tskWrite
  /-- TSK_ENABLE (R232). TSK_CMD.ENABLE enables the task from the next meridian. -/
  | tskEnable
  /-- TSK_DISABLE (R232). TSK_CMD.DISABLE disables the task from the next meridian. -/
  | tskDisable
  /-- TSK_KICK (R234). TSK_CMD.KICK decrements the counter of task INDEX. -/
  | tskKick
  /-- TSK_CLEAR_STATS (R250). TSK_CMD.CLEAR_STATS zeroes words 1–3 of the task's state record. -/
  | tskClearStats
  /-- TSK_DESC_SNAPSHOT (R250). A read of TSK_DESC[0] snapshots all eight descriptor words. -/
  | tskDescSnapshot
  /-- TSK_STATE_SNAPSHOT (R250). A read of TSK_STATE[0] snapshots the state record. -/
  | tskStateSnapshot
  /-- CHR_TIME_SNAPSHOT (R24). A read of CHR_TIME_LO snapshots time and tick number for the other four registers. -/
  | chrTimeSnapshot
  /-- CHR_RATE_TRIM_WRITE (R23). Manager software trims the time PLL rate, clamped and ignored while the servo owns it. -/
  | chrRateTrimWrite (v : Nat)
  /-- CHR_COMMIT (R57). CHR_COMMIT.COMMIT commits CHR_STEP and CHR_SSC for hand-over at a meridian. -/
  | chrCommit
  /-- TIME_IN_EDGE (R50). A TIME_IN rising edge is timestamped and used to discipline the chronometer or discarded as an outlier. -/
  | timeInEdge (t8 : Nat)
  /-- PPS_MISSED (R54). An expected PPS edge is missing; two in a row enter DEAD_RECKONING. -/
  | ppsMissed
  /-- SYNC_FRAME_SEND (R46). At each multiple of 65,536 ns a ROOT or FOLLOW controller sends a sync frame on SYNC_DN. -/
  | syncFrameSend
  /-- SYNC_FRAME_RECEIVE (R47). A FOLLOW controller takes a sync frame, steers its phase and forwards DEPTH + 1. -/
  | syncFrameReceive (a b c arrival : Nat) (consecutive : Bool)
  /-- SYNC_PERIOD_MISSED (R54). A sync period passes with no valid frame; two in a row enter DEAD_RECKONING. -/
  | syncPeriodMissed
  /-- HOLDOVER_SECOND (R55). Each second of DEAD_RECKONING raises EST_NS by PPB. -/
  | holdoverSecond
  /-- LFIX_REQ_SEND (R42). Every REFRESH_MS the controller starts a link fix on each root-port link. -/
  | lfixReqSend (lane t1 : Nat)
  /-- LFIX_REQ_RECEIVE (R33). The downstream end records t2 and answers with LFIX_RESP. -/
  | lfixReqReceive (n word t2 t3 : Nat)
  /-- LFIX_RESP_RECEIVE (R35). U records t4, computes round, dn, up and theta and filters the round. -/
  | lfixRespReceive (lane a b t4 : Nat)
  /-- LINK_FIX_FAIL (R34). No LFIX_RESP arrives within one tick plus 8,192 ns and the fix fails. -/
  | linkFixFail (lane : Nat)
  /-- HUB_TIMING_POLL (R42). Every REPORT_MS the controller reads READ_TIMING from each hub. -/
  | hubTimingPoll (hub : Nat)
  /-- BEARING_STALE (R43). A bearing whose AGE exceeds its bound becomes STALE and TIME_DEGRADED is posted. -/
  | bearingStale (a : Nat)
  /-- NODE_MARKER_RECEIVE (R41). A node takes its local meridian from the marker and applies due bearings and configurations. -/
  | nodeMarkerReceive (d word arrival : Nat) (samples : List (Nat × List Byte))
  /-- HUB_MARKER_FORWARD (R36). A hub forwards the marker on its downstream ports, adding its residence to CORR. -/
  | hubMarkerForward (d up word arrival : Nat) (residences : List (Nat × Nat))
  /-- HUB_DOWNSTREAM_FORWARD (R104). A hub forwards a downstream frame by its header address and route table. -/
  | hubDownstreamForward (d up arrival residence : Nat) (frame : List Byte)
  /-- HUB_UPSTREAM_FORWARD (R106). A hub forwards an upstream frame with fixed residence, discarding the loser of a collision. -/
  | hubUpstreamForward (d p start : Nat) (frame : List Byte) (ties : List Nat)
  /-- HUB_PORT_UP (R108). A hub fixes a newly up downstream link and moves the port to UNADDRESSED on success. -/
  | hubPortUp (d p : Nat) (good : Bool) (t1 t4 turn ns frac resUp : Nat)
  /-- LNK_ENABLE (R87). Writing LNK_CTRL.ENABLE = 1 starts DETECT or sets PENDING_ENABLE. -/
  | lnkEnable (n : Nat)
  /-- LNK_DISABLE (R87). Writing LNK_CTRL.ENABLE = 0 sends 8 LINK_OFF DISABLE and electrical idle. -/
  | lnkDisable (n : Nat)
  /-- LANE_DISABLED (R87). A DISABLING lane reaches OFF and a pending enable starts DETECT. -/
  | laneDisabled (n : Nat)
  /-- LANE_LOCK (R77). The receiver finds symbol or block lock by bit-slip. -/
  | laneLock (n offset commas run : Nat)
  /-- LANE_LOCK_LOSS (R89). Loss of lock in UP sends the lane to RETRAIN. -/
  | laneLockLoss (n : Nat)
  /-- TRAIN_RECEIVE (R74). A TRAIN ordered set advances DETECT, ALIGN, RETRAIN or CONFIRM by its flags. -/
  | trainReceive (n word : Nat)
  /-- CAPS_RECEIVE (R78). A CAPS ordered set is taken for the capability exchange and target generation. -/
  | capsReceive (n word : Nat)
  /-- LEGACY_DETECT (R78). After 2 ms of TRAIN without CAPS the peer is taken as a legacy G1 node. -/
  | legacyDetect (n : Nat)
  /-- GEN_GO_RECEIVE (R80). D counts GEN_GO down and holds electrical idle before the target generation. -/
  | genGoReceive (n word : Nat)
  /-- GEN_SWITCH_IDLE_END (R80). The 2 µs idle ends and both ends send TRAIN at the target generation. -/
  | genSwitchIdleEnd (n : Nat)
  /-- EQ_REQ_RECEIVE (R81). The transmitter applies the requested de-emphasis and answers with ACK. -/
  | eqReqReceive (n word : Nat)
  /-- EQ_SWEEP_DONE (R81). The fixed equalization schedule ends and the end chooses its setting or EQ_FAIL. -/
  | eqSweepDone (n : Nat) (eyes : List Nat)
  /-- TRAINING_TIMEOUT (R74). A training state times out, failing the attempt or falling back a generation. -/
  | trainingTimeout (n : Nat)
  /-- ATTEMPT_IDLE_END (R85). After 10 ms of idle the lane returns to DETECT. -/
  | attemptIdleEnd (n : Nat)
  /-- CODE_ERROR (R88). An invalid code is counted and THRESH in the window starts RETRAIN. -/
  | codeError (n code : Nat) (rd : Bool)
  /-- TYPE_ERROR (R67). An unknown control block type counts TYPE_ERR and is treated as IDLE. -/
  | typeError (n block : Nat)
  /-- FRAME_ERROR (R73). A control code inside a frame ends it, or a stray data code is discarded, counting FRAME_ERR. -/
  | frameError (n : Nat) (inside : Bool) (pos : Int)
  /-- RETRAIN_RECEIVE (R89). A received RETRAIN sends an UP lane to RETRAIN or, if full, to DETECT. -/
  | retrainReceive (n word : Nat)
  /-- LNK_RETRAIN (R89). Writing LNK_CTRL.RETRAIN starts a fast retrain. -/
  | lnkRetrain (n : Nat)
  /-- LNK_FULL_RETRAIN (R89). Writing LNK_CTRL.FULL_RETRAIN sends the lane to DETECT. -/
  | lnkFullRetrain (n : Nat)
  /-- LANE_LOST (R90). No signal for 10 µs without LINK_OFF, or a RETRAIN timeout, loses the lane and reports it to the tree logic. -/
  | laneLost (n : Nat)
  /-- LINK_OFF_RECEIVE (R93). LINK_OFF LOW_POWER sends D to LOW_POWER; LINK_OFF DISABLE from D is taken as a lost lane. -/
  | linkOffReceive (n word : Nat)
  /-- LNK_LOW_POWER (R93). Writing LNK_CTRL.LOW_POWER sends 8 LINK_OFF LOW_POWER and enters LOW_POWER. -/
  | lnkLowPower (n : Nat)
  /-- LNK_WAKE_REMOTE (R94). Writing LNK_CTRL.WAKE_REMOTE starts foghorn bursts. -/
  | lnkWakeRemote (n : Nat)
  /-- FOGHORN_BURST (R94). Every 1 ms a waking end sends one burst, giving up after 200. -/
  | foghornBurst (n : Nat)
  /-- FOGHORN_DETECT (R95). The detector declares a foghorn, sets FOGHORN_SEEN and signals a wake. -/
  | foghornDetect (n : Nat)
  /-- LNK_SLIP (R77). Writing LNK_ALIGN.SLIP moves the boundary one UI in software mode. -/
  | lnkSlip (n : Nat)
  /-- ENUM_START (R115). The tree logic starts enumerating the next queued location of a tree. -/
  | enumStart (p : Nat)
  /-- ENUM_REQUEST_DONE (R118). An enumeration request completes and the next step of Table 04-6 begins. -/
  | enumRequestDone (p gen : Nat) (legacy : Bool)
  /-- ENUM_STEP_TIMEOUT (R120). An enumeration request times out after ENUM_STEP_US and is retried or fails. -/
  | enumStepTimeout (p : Nat)
  /-- TRE_NODE_WRITE (R134). TRE_NODE_CMD.WRITE writes the staged words to a FREE or ABSENT entry. -/
  | treNodeWrite
  /-- TRE_NODE_FORGET (R134). TRE_NODE_CMD.FORGET moves an ABSENT entry to FREE. -/
  | treNodeForget
  /-- TRE_NODE_QUARANTINE (R134). TRE_NODE_CMD.QUARANTINE quarantines an ACTIVE or SUSPECT node at the next meridian. -/
  | treNodeQuarantine
  /-- TRE_NODE_RELEASE (R132). TRE_NODE_CMD.RELEASE returns a quarantined node to ACTIVE at the next meridian. -/
  | treNodeRelease
  /-- TRE_NODE_DATA_SNAPSHOT (R137). A read of TRE_NODE_DATA[0] snapshots the four words of the entry. -/
  | treNodeDataSnapshot
  /-- TRE_ENUM_RETRY (R120). Writing TRE_ENUM_RETRY queues again every failed location of the named trees. -/
  | treEnumRetry (mask : Nat)
  /-- REQ_GET_DESCRIPTOR (R113). A node returns its node or pipe descriptors. -/
  | reqGetDescriptor (d : Nat) (desc : List Byte) (pipes : List (List Byte))
  /-- REQ_GET_STATUS (R203). A node returns HALTED and its configuration flags. -/
  | reqGetStatus (d : Nat)
  /-- REQ_CLEAR_HALT (R203). A node clears the halt of a pipe and resets its counters. -/
  | reqClearHalt (d : Nat)
  /-- REQ_SET_ADDRESS (R187). A node adopts a new address after sending STATUS. -/
  | reqSetAddress (d : Nat)
  /-- REQ_SET_CONFIG (R205). A node takes its pipe enables and inbound leg schedule for the apply tick. -/
  | reqSetConfig (d : Nat)
  /-- REQ_SET_BEARING (R204). A node takes DELAY_DN, ADVANCE_UP and the reference time for the apply tick. -/
  | reqSetBearing (d : Nat)
  /-- REQ_SET_ROUTE (R103). A hub writes one route-table entry. -/
  | reqSetRoute (d : Nat)
  /-- REQ_SET_PORT_GATE (R102). A hub opens, closes or confirms the gate of a downstream port. -/
  | reqSetPortGate (d : Nat)
  /-- REQ_CLEAR_PORT_CHANGE (R110). A hub clears CHANGE bits when the SEQ matches. -/
  | reqClearPortChange (d : Nat)
  /-- REQ_READ_TIMING (R36). A hub returns its per-port timing records. -/
  | reqReadTiming (d : Nat)
  /-- CHT_EDIT_OPEN (R154). Writing EDIT_OPEN = 1 opens the shadow to edits. -/
  | chtEditOpen
  /-- CHT_EDIT_CLOSE (R154). Writing EDIT_OPEN = 0 without COMMIT discards the edits by replay. -/
  | chtEditClose
  /-- SHADOW_WRITE (R155). A write to the chart's shadowed set is checked against the whole shadow within 96 ns. -/
  | shadowWrite (what idx word v : Nat)
  /-- SAFE_VALUE_WRITE (R526). A write to the safe-value aperture writes the shadow entry's safe value. -/
  | safeValueWrite (off v : Nat)
  /-- CHT_COMMIT (R156). CHT_COMMIT.COMMIT is accepted and locks the shadow, or is refused at once. -/
  | chtCommit
  /-- REPLAY_DONE (R158). The replay of changed entries into the new shadow ends and REPLAYING clears. -/
  | replayDone
  /-- CHT_RUN (R26). Writing CHT_CTRL.RUN starts the executor toward its first meridian, or stops it at the next meridian. -/
  | chtRun (run : Bool)
  /-- ADMIT_BATCH (R161). The controller writes fetched admissions and releases into the shadow and commits the batch. -/
  | admitBatch
  /-- PACKET_SEND (R177). The transfer engine starts an outbound packet in free slots. -/
  | packetSend (c slot : Nat)
  /-- GRANT_SEND (R178). The controller sends a grant for inbound slots of the current tick. -/
  | grantSend (c slot r n : Nat) (room : Bool)
  /-- CONVERSATION_START (R208). A queued conversation becomes ACTIVE or completes at once when halted, absent or controller-only. -/
  | conversationStart (c : Nat)
  /-- DATA_RECEIVE (R190). The controller classifies an inbound DATA packet and stores or discards it. -/
  | dataReceive (port : Nat) (pos : Int) (frame : List Byte) (room : Bool)
  /-- HANDSHAKE_RECEIVE (R192). The controller acts on an ACK, NAK or WAIT from a node. -/
  | handshakeReceive (port : Nat) (pos : Int) (frame : List Byte)
  /-- GRANT_UNANSWERED (R197). The accepting slots of a grant pass with no frame and retries are counted. -/
  | grantUnanswered (port : Nat)
  /-- HANDSHAKE_GRANT_TIMER (R195). 8 µs after the oldest unacknowledged packet a handshake grant is issued. -/
  | handshakeGrantTimer (c : Nat)
  /-- WAIT_BACKOFF_END (R198). After 8 µs and a new tick a WAIT-backed-off pipe is granted again. -/
  | waitBackoffEnd (c : Nat)
  /-- WAIT_TIMEOUT (R198). A pipe answering only WAIT for 1,000 ms completes its transfer with TIMEOUT. -/
  | waitTimeout (c : Nat)
  /-- TRANSFER_ABORT (R200). At the next packet boundary an abort sends ABORT and a handshake grant. -/
  | transferAbort (c slot : Nat)
  /-- BACKPRESSURE_RELEASE (R210). Room returns and a BACKOFF conversation resumes. -/
  | backpressureRelease (c : Nat)
  /-- NODE_GRANT_RECEIVE (R184). A node answers a valid grant per Table 06-5. -/
  | nodeGrantReceive (d : Nat) (frame : List Byte) (ended credit : Nat) (wait : Bool) (fresh : List (List Byte))
  /-- NODE_DATA_RECEIVE (R190). A node classifies an outbound DATA packet. -/
  | nodeDataReceive (d : Nat) (frame : List Byte)
  /-- NODE_SETUP_RECEIVE (R207). A node abandons any pipe 0 transfer and begins the request. -/
  | nodeSetupReceive (d : Nat) (frame : List Byte)
  /-- NODE_ABORT_RECEIVE (R200). A node discards its partial transfer, resets counters and answers ACK 0. -/
  | nodeAbortReceive (d : Nat) (frame : List Byte)
  /-- NODE_HANDSHAKE_RECEIVE (R207). A node acts on an ACK or WAIT from the controller. -/
  | nodeHandshakeReceive (d : Nat) (frame : List Byte)
  /-- DMA_PI_CFG_WRITE (R263). Writes process-image SIZE, HALF_SLOT and ENABLE, refused outside the allowed state. -/
  | dmaPiCfgWrite (v : Nat)
  /-- DMA_PI_BASE_WRITE (R263). Writes the page-set base, refused while enabled or active. -/
  | dmaPiBaseWrite (hi : Bool) (v : Nat)
  /-- DMA_ROUTE_CONFIG (R262). Configures a route while disabled, refused on bad length or buffers. -/
  | dmaRouteConfig (reg v : Nat)
  /-- DMA_CH_CONFIG (R271). Writes channel configuration only while OFF, with the owner share check. -/
  | dmaChConfig (c reg v : Nat)
  /-- DMA_CH_ENABLE (R270). Writing DMA_CH_CTRL.ENABLE = 1 starts ENABLING or sets PENDING_ENABLE. -/
  | dmaChEnable (c : Nat)
  /-- DMA_CH_DISABLE (R270). Writing ENABLE = 0 moves the channel to DISABLING or out of ERROR. -/
  | dmaChDisable (c : Nat)
  /-- DMA_CH_ENABLED (R270). 16 CORE cycles after ENABLING the channel is ON and idle. -/
  | dmaChEnabled (c : Nat)
  /-- DMA_CH_START (R273). START begins a chain from DMA_CH_HEAD. -/
  | dmaChStart (c : Nat)
  /-- DMA_CH_RESUME (R273). RESUME re-reads NEXT of the last descriptor and continues if now valid. -/
  | dmaChResume (c : Nat)
  /-- DMA_CH_ABORT (R277). ABORT stops the chain at the next beat boundary. -/
  | dmaChAbort (c : Nat)
  /-- DESCRIPTOR_FETCH_COMPLETE (R274). A fetched descriptor is checked and started, or completed with BAD_ENTRY. -/
  | descriptorFetchComplete (c parity : Nat)
  /-- BURST_ISSUE (R267). An engine chooses and issues its next burst by requester class. -/
  | burstIssue (wr : Bool) (beats ce : Nat)
  /-- DMA_DATA_COMPLETE (R276). A burst's data completes; an OP 0b00 descriptor completes at its last byte. -/
  | dmaDataComplete (c : Nat)
  /-- FLUSH_READ_COMPLETE (R276). The zero-length flush read completes an OP 0b01 descriptor. -/
  | flushReadComplete (c : Nat)
  /-- DMA_COMPLETION_TIMEOUT (R278). A completion timeout or UR halts the channel in ERROR with a fault status. -/
  | dmaCompletionTimeout (c how : Nat)
  /-- SQ_TAIL_DOORBELL (R287). An SQ tail doorbell is checked and moves the tail or puts the SQ in ERROR. -/
  | sqTailDoorbell (fn slot q v : Nat)
  /-- CQ_HEAD_DOORBELL (R288). A CQ head doorbell is checked and moves the head or puts the CQ in ERROR. -/
  | cqHeadDoorbell (fn slot q v : Nat)
  /-- SQ_FETCH (R294). The queue manager fetches the next SQ entry when bounds allow. -/
  | sqFetch
  /-- SQ_ENTRY_READ_COMPLETE (R306). A fetched entry arrives, takes a tag and is checked before its command acts. -/
  | sqEntryReadComplete (sq : Nat)
  /-- SQ_FETCH_FAULT (R305). An SQ entry read faults and the SQ enters ERROR FETCH_FAULT. -/
  | sqFetchFault (sq how : Nat)
  /-- KEEPER_CHECK_DONE (R475). The Keeper finishes the keyed check of a critical command, passing it or failing with AUTH_FAILED or COUNTER_STALE. -/
  | keeperCheckDone (tag : Nat)
  /-- QM_SQ_ENABLE (R303). QM_SQ_CTRL.ENABLE = 1 starts ENABLING, is refused, or sets PENDING_ENABLE. -/
  | qmSqEnable
  /-- QM_SQ_DISABLE (R303). QM_SQ_CTRL.ENABLE = 0 stops fetching and starts DISABLING. -/
  | qmSqDisable
  /-- QM_CQ_ENABLE (R303). QM_CQ_CTRL.ENABLE = 1 starts ENABLING or is refused. -/
  | qmCqEnable
  /-- QM_CQ_DISABLE (R304). QM_CQ_CTRL.ENABLE = 0 starts DISABLING, discarding held entries when leaving ERROR. -/
  | qmCqDisable
  /-- QUEUE_ENABLED (R303). An ENABLING queue reaches ON with indices 0. -/
  | queueEnabled (isCq : Bool) (n : Nat)
  /-- QUEUE_DISABLED (R303). A DISABLING queue reaches OFF once nothing is outstanding or held. -/
  | queueDisabled (isCq : Bool) (n : Nat)
  /-- QM_CACHE_INVAL (R296). Writing QM_CACHE_INVAL invalidates fragment caches of one or all instances. -/
  | qmCacheInval (all : Bool) (i : Nat)
  /-- NOP (R306). Completes at once. -/
  | nop (tag : Nat)
  /-- CREATE_SQ (R303). Creates an SQ and completes on reaching ON. -/
  | createSq (tag : Nat)
  /-- DELETE_SQ (R303). Deletes an SQ and completes on reaching OFF. -/
  | deleteSq (tag : Nat)
  /-- CREATE_CQ (R303). Creates a CQ and completes on reaching ON. -/
  | createCq (tag : Nat)
  /-- DELETE_CQ (R303). Deletes a CQ and completes on reaching OFF. -/
  | deleteCq (tag : Nat)
  /-- WAIT_IDLE (R310). Completes when the named instance has nothing outstanding or held. -/
  | waitIdle (tag : Nat)
  /-- WAIT_IDLE_TIMEOUT (R310). TIMEOUT_MS elapses and WAIT_IDLE completes with TIMEOUT. -/
  | waitIdleTimeout (tag : Nat)
  /-- INVALIDATE (R296). Invalidates one cached fragment table or all of the issuer's. -/
  | invalidate (tag : Nat)
  /-- ABORT (R311). Aborts the named command or channel of the issuer. -/
  | abort (tag : Nat)
  /-- ADMIT (R162). Asks for a new leg, placed by FIXED or SEARCH in the next batch. -/
  | admitLeg (tag : Nat)
  /-- RELEASE (R163). Gives up a leg at its batch's hand-over. -/
  | release (tag : Nat)
  /-- CHART_EDIT_OPEN (R312). Writes EDIT_OPEN = 1. -/
  | chartEditOpen (tag : Nat)
  /-- CHART_EDIT_WRITE_ENTRY (R312). Writes a shadow entry and returns CHT_CHECK. -/
  | chartEditWriteEntry (tag : Nat)
  /-- CHART_EDIT_WRITE_SAFE (R312). Reads a safe value from host memory into the shadow. -/
  | chartEditWriteSafe (tag : Nat)
  /-- CHART_EDIT_DISCARD (R312). Writes EDIT_OPEN = 0, discarding the edits. -/
  | chartEditDiscard (tag : Nat)
  /-- CHART_EDIT_COMMIT (R312). Commits the shadow and completes at hand-over or refusal. -/
  | chartEditCommit (tag : Nat)
  /-- CHART_EDIT_SET_N (R312). Writes N of CHT_TICK_LEN. -/
  | chartEditSetN (tag : Nat)
  /-- CHART_EDIT_SET_RESERVE (R312). Writes PERCENT of a port's CHT_RESERVE. -/
  | chartEditSetReserve (tag : Nat)
  /-- NODE_OP_WRITE (R134). Writes a node-table entry as TRE_NODE_CMD.WRITE does. -/
  | nodeOpWrite (tag : Nat)
  /-- NODE_OP_FORGET (R134). Moves an ABSENT entry to FREE. -/
  | nodeOpForget (tag : Nat)
  /-- NODE_OP_QUARANTINE (R134). Quarantines a node at the next meridian. -/
  | nodeOpQuarantine (tag : Nat)
  /-- NODE_OP_RELEASE (R132). Releases a quarantined node at the next meridian. -/
  | nodeOpRelease (tag : Nat)
  /-- NODE_OP_READ (R306). Writes a 16-byte node-table entry to DATA. -/
  | nodeOpRead (tag : Nat)
  /-- NODE_OP_ENUM_RETRY (R120). Queues again the failed locations of the named trees. -/
  | nodeOpEnumRetry (tag : Nat)
  /-- TASK_OP_WRITE (R232). Writes one of the issuer's task descriptors. -/
  | taskOpWrite (tag : Nat)
  /-- TASK_OP_ENABLE (R232). Enables a task from the next meridian. -/
  | taskOpEnable (tag : Nat)
  /-- TASK_OP_DISABLE (R232). Disables a task from the next meridian. -/
  | taskOpDisable (tag : Nat)
  /-- TASK_OP_KICK (R234). Decrements a task's counter. -/
  | taskOpKick (tag : Nat)
  /-- TASK_OP_READ_STATE (R306). Writes a task's 16-byte state record to DATA. -/
  | taskOpReadState (tag : Nat)
  /-- BULK_OUT (R194). Starts an outbound bulk transfer to a node pipe. -/
  | bulkOut (tag : Nat)
  /-- BULK_IN (R194). Starts an inbound bulk transfer from a node pipe. -/
  | bulkIn (tag : Nat)
  /-- CONTROL (R201). Starts a three-stage control transfer on pipe 0. -/
  | control (tag : Nat)
  /-- DMA (R308). Starts a channel chain and completes when the chain ends. -/
  | dma (tag : Nat)
  /-- BIND_INSTANCE (R317). Binds an OFF instance to a function, slot, PASID and vectors. -/
  | bindInstance (tag : Nat)
  /-- SET_SHARES (R321). Sets the selected shares of an instance. -/
  | setShares (tag : Nat)
  /-- INSTANCE_CTRL_ENABLE (R329). Enables an instance, completing on reaching ON. -/
  | instanceCtrlEnable (tag : Nat)
  /-- INSTANCE_CTRL_DISABLE (R330). Starts DISABLING of an instance. -/
  | instanceCtrlDisable (tag : Nat)
  /-- INSTANCE_CTRL_HOLD (R333). Sets HOLD from the next meridian. -/
  | instanceCtrlHold (tag : Nat)
  /-- INSTANCE_CTRL_UNHOLD (R333). Clears HOLD from the next meridian. -/
  | instanceCtrlUnhold (tag : Nat)
  /-- INSTANCE_CTRL_FAIL (R331). Sends an ON instance to ERROR with cause MANAGER. -/
  | instanceCtrlFail (tag : Nat)
  /-- QUIESCE (R333). Holds, disables SQs, aborts channels and completes when the instance is quiesced. -/
  | quiesce (tag : Nat)
  /-- QUIESCE_TIMEOUT (R333). TIMEOUT_MS elapses and QUIESCE completes with TIMEOUT. -/
  | quiesceTimeout (tag : Nat)
  /-- RESET_INSTANCE (R334). Wipes a quiesced instance, or completes NOT_QUIESCED. -/
  | resetInstance (tag : Nat)
  /-- RESET_INSTANCE_FORCE (R336). Ends an instance's work at once and wipes it at the next meridian. -/
  | resetInstanceForce (tag : Nat)
  /-- LOGBOOK_START (R339). Starts an instance's logbook. -/
  | logbookStart (tag : Nat)
  /-- LOGBOOK_SYNC (R342). Completes once every earlier write is logged and clears the filter. -/
  | logbookSync (tag : Nat)
  /-- LOGBOOK_STOP (R339). Stops logging after every issued write is logged. -/
  | logbookStop (tag : Nat)
  /-- READ_INSTANCE (R338). Writes eight words of instance state to DATA. -/
  | readInstance (tag : Nat)
  /-- INS_ENABLE (R329). Writing INS_CTRL.ENABLE = 1 starts ENABLING with its binding checks. -/
  | insEnable
  /-- INS_DISABLE (R330). Writing INS_CTRL.ENABLE = 0 starts DISABLING. -/
  | insDisable
  /-- INS_HOLD_WRITE (R333). Writing INS_CTRL.HOLD sets or clears HOLD from the next meridian. -/
  | insHoldWrite (v : Bool)
  /-- INS_FAIL (R331). Writing INS_CTRL.FAIL sends the instance to ERROR. -/
  | insFail
  /-- INS_BIND_WRITE (R344). Writes to INS_BIND, INS_PASID or INS_VEC, refused unless the instance is OFF. -/
  | insBindWrite (reg v : Nat)
  /-- INSTANCE_ENABLED (R329). An ENABLING instance reaches ON within 16 CORE cycles. -/
  | instanceEnabled (i : Nat)
  /-- INSTANCE_QUIESCED (R330). A DISABLING instance becomes quiesced, is wiped and moves to OFF. -/
  | instanceQuiesced (i : Nat)
  /-- BUS_MASTER_DISABLE (R331). Bus Master Enable written 0 sends the function's instances to ERROR. -/
  | busMasterDisable (fn : Nat)
  /-- VF_FLR (R337). An FLR of a VF wipes every instance bound to it. -/
  | vfFlr (fn : Nat)
  /-- ICU_CLAIM (R353). A target read of ICU_CLAIM returns and puts in service its highest eligible source. -/
  | icuClaim (t : Nat)
  /-- ICU_COMPLETE (R355). A write of ICU_COMPLETE ends a source's service and re-samples level sources. -/
  | icuComplete (t src : Nat) (noCause : Bool)
  /-- ICU_SRC_CFG_WRITE (R357). Writes a source's configuration, refusing protected fields unless masked and not in service. -/
  | icuSrcCfgWrite (src v : Nat)
  /-- ICU_MASK_WRITE (R354). Masking or unmasking sources hides or presents them again. -/
  | icuMaskWrite (w v : Nat)
  /-- ICU_TIMER_ARM (R358). A write of TIMER_LO arms the target's timer. -/
  | icuTimerArm (t lo : Nat)
  /-- ICU_TIMER_FIRE (R358). The chronometer reaches the armed value and TIMER[t] pulses. -/
  | icuTimerFire (t : Nat)
  /-- ICU_SOFT_SET (R359). A write of ICU_SOFT_SET gives SOFT sources an edge. -/
  | icuSoftSet (v : Nat)
  /-- ICU_LEVEL_CHANGE (R352). A level source's input changes its pending bit. -/
  | icuLevelChange (src : Nat) (level : Bool)
  /-- ICU_EDGE (R352). An edge on an edge source sets pending, merges or counts toward COAL_LOG. -/
  | icuEdge (src : Nat)
  /-- HIC_VECTOR_TIMER (R364). A vector's timer reaches TIME × 256 ns and the vector fires. -/
  | hicVectorTimer (fn vec : Nat)
  /-- HIC_FLUSH (R364). Writing HIC_VEC_CTRL.FLUSH fires a vector with pending events. -/
  | hicFlush
  /-- MSIX_UNMASK (R365). Clearing a vector's masks sends the pending message and clears the PBA bit. -/
  | msixUnmask (fn vec : Nat) (whole : Bool)
  /-- HIC_INS_CFG_WRITE (R363). Writes of HIC_INS_PI or HIC_INS_ERR are refused outside the instance's range or state. -/
  | hicInsCfgWrite (err : Bool) (v : Nat)
  /-- PWC_GET_CAPS (R378). The source answers GET_CAPS with CAPS within 2 ms. -/
  | pwcGetCaps (p : Nat) (levels : List Bool)
  /-- PWC_REQUEST (R378). The source checks a REQUEST and answers ACCEPT or REJECT. -/
  | pwcRequest (p : Nat) (levels : List Bool)
  /-- PWC_ACK_RECEIVE (R380). An ACK is taken; the sink's ACK of ACCEPT starts TRANSITION and the stage writes. -/
  | pwcAckReceive (e begin : Nat) (levels : List Bool)
  /-- PWC_ACK_TIMEOUT (R375). No ACK in 40 µs resends the message, at most twice. -/
  | pwcAckTimeout (e : Nat)
  /-- PWC_KEEP_ALIVE (R382). KEEP_ALIVE from the sink restarts the contract's expiry. -/
  | pwcKeepAlive (p : Nat) (levels : List Bool)
  /-- PWC_BEAT (R381). A beat during a transition lets the source send PS_READY after it. -/
  | pwcBeat (p tenths : Nat)
  /-- PWC_SWAP_REQ (R388). The source answers SWAP_REQ LOCAL with ACCEPT, or CABLE by raising PEN. -/
  | pwcSwapReq (p : Nat) (levels : List Bool)
  /-- PWC_LOCAL_READY (R388). The source lowers PEN, arms the contract and enters LOCAL. -/
  | pwcLocalReady (p : Nat) (levels : List Bool)
  /-- PWC_REDUCE_ANSWER (R383). ACCEPT or REJECT of REDUCE sets the new limit or reverts to default. -/
  | pwcReduceAnswer (p : Nat) (levels : List Bool)
  /-- PWC_CAPS (R378). A sink takes the source's CAPS. -/
  | pwcCaps (d : Nat) (levels : List Bool) (ask : Nat)
  /-- PWC_ACCEPT (R381). A sink acknowledges ACCEPT and enters TRANSITION. -/
  | pwcAccept (d : Nat) (levels : List Bool)
  /-- PWC_PS_READY (R381). A sink takes the new contract as in force. -/
  | pwcPsReady (d : Nat) (levels : List Bool) (arm : Nat)
  /-- PWC_REDUCE (R383). A sink lowers its draw within 10 ms and answers ACCEPT. -/
  | pwcReduce (d : Nat) (levels : List Bool)
  /-- PWC_PING (R391). A sink acknowledges PING. -/
  | pwcPing (d : Nat) (levels : List Bool)
  /-- PWC_FAST_SWAP_LOW (R389). A PWC low of 4 µs at a LOCAL source raises PEN and posts FAST_SWAP. -/
  | pwcFastSwapLow (p tenths : Nat)
  /-- PWC_STUCK (R389). PWC held low 1 ms outside LOCAL sets PWC_STUCK. -/
  | pwcStuck (p : Nat)
  /-- VOUT_POLL (R380). A 250 µs READ_VOUT poll; two readings in range send PS_READY. -/
  | voutPoll (p vout iout : Nat)
  /-- TRANSITION_TIMEOUT (R380). No PS_READY within TRANS_MS sends the port to FAULT. -/
  | transitionTimeout (p : Nat)
  /-- CONTRACT_EXPIRY (R382). 1,500 ms of silence reverts the port to default and posts EXPIRED. -/
  | contractExpiry (p : Nat)
  /-- REDUCE_TIMEOUT (R383). No answer to REDUCE in 10 ms reverts the port to default. -/
  | reduceTimeout (p : Nat)
  /-- SWAPPING_TIMEOUT (R393). No LOCAL_READY within 10 ms returns the port to CONTRACT. -/
  | swappingTimeout (p : Nat)
  /-- PFAULT_ASSERT (R386). PFAULT# low makes the controller read STATUS_WORD and fault reporting ports. -/
  | pfaultAssert (low : Bool) (words : List Nat)
  /-- PWC_SILENCE (R390). 50 µs of silence in TRANSITION with a power fault or droop loses the sink. -/
  | pwcSilence (p : Nat)
  /-- PING_TIMEOUT (R391). Three unanswered PINGs after lane loss lose the sink. -/
  | pingTimeout (p : Nat)
  /-- REARM_EXPIRY (R386). After REARM the port clears faults and re-applies the default contract. -/
  | rearmExpiry (p : Nat)
  /-- PMBUS_TIMEOUT (R561). A device holding SCL low 25 ms fails its transaction. -/
  | pmbusTimeout (target : Nat)
  /-- CPW_ENABLE (R387). Writing CPW_PORT_CTRL.ENABLE = 1 starts ENABLING or sets PENDING_ENABLE. -/
  | cpwEnable (p : Nat)
  /-- CPW_DISABLE (R387). Writing ENABLE = 0 lowers PEN and starts DISABLING. -/
  | cpwDisable (p : Nat)
  /-- CPW_ENABLED (R387). The stage writes complete, PEN rises and the port is ON in DEFAULT. -/
  | cpwEnabled (p : Nat)
  /-- CPW_DISCHARGED (R387). After the 10 ms discharge the port reaches OFF. -/
  | cpwDischarged (p : Nat)
  /-- CPW_FORCE_DEFAULT (R382). Writing FORCE_DEFAULT reverts the port to the default contract. -/
  | cpwForceDefault (p : Nat)
  /-- POWER_PORT_ENABLE (R387). Enables a port's power output. -/
  | powerPortEnable (tag : Nat)
  /-- POWER_PORT_DISABLE (R387). Disables a port's power output. -/
  | powerPortDisable (tag : Nat)
  /-- POWER_PORT_FORCE_DEFAULT (R382). Reverts a port to the default contract. -/
  | powerPortForceDefault (tag : Nat)
  /-- POWER_PORT_REDUCE (R383). Sends REDUCE to the sink. -/
  | powerPortReduce (tag : Nat)
  /-- POWER_PORT_SET_LIMIT (R398). Sets the port's VMAX and IMAX. -/
  | powerPortSetLimit (tag : Nat)
  /-- POWER_BUDGET (R398). Sets the cable-power budget limit. -/
  | powerBudget (tag : Nat)
  /-- POWER_READ (R398). Writes the port's registers to DATA. -/
  | powerRead (tag : Nat)
  /-- POWER_STATE_S1 (R406). Enters S1 at its meridian. -/
  | powerStateS1 (tag : Nat)
  /-- POWER_STATE_S2 (R407). Starts entry to S2. -/
  | powerStateS2 (tag : Nat)
  /-- POWER_STATE_S3 (R407). Starts entry to S3, refused while instances are not OFF. -/
  | powerStateS3 (tag : Nat)
  /-- PWR_STATE_CTRL_S0 (R408). Writing TARGET 0 in S1 wakes with cause COMMAND. -/
  | pwrStateCtrlS0
  /-- PWR_STATE_CTRL_S1 (R406). Writing TARGET 1 enters S1. -/
  | pwrStateCtrlS1
  /-- PWR_STATE_CTRL_S2 (R407). Writing TARGET 2 starts entry to S2. -/
  | pwrStateCtrlS2
  /-- PWR_STATE_CTRL_S3 (R407). Writing TARGET 3 starts entry to S3. -/
  | pwrStateCtrlS3
  /-- ENTRY_IDLE_REACHED (R407). No command is outstanding and the entry stops ticks, sends LINK_OFF and reverts ports. -/
  | entryIdleReached
  /-- ENTRY_IDLE_TIMEOUT (R407). IDLE_MS elapses and the entry is aborted with TIMEOUT. -/
  | entryIdleTimeout
  /-- ENTRY_REVERSIONS_DONE (R407). Every reversion ends; the bank copy runs and the command completes. -/
  | entryReversionsDone
  /-- PME_TURN_OFF (R407). PME_Turn_Off is answered and the device latches pads and switches domains off. -/
  | pmeTurnOff
  /-- LINK_WAIT_TIMEOUT (R407). No PME_Turn_Off within LINK_WAIT_MS and the entry goes on. -/
  | linkWaitTimeout
  /-- S1_HOST_WRITE (R406). A host write in S1 returns the controller to S0 at the next meridian. -/
  | s1HostWrite
  /-- WAKE_DECLARE (R408). A wake source declares in S2 or S3 and the wake sequence starts. -/
  | wakeDeclare (cause index : Nat)
  /-- WAKE_STEP_DONE (R410). A wake step's rail or domains report good and the next step starts. -/
  | wakeStepDone (zeroOk : Bool)
  /-- WAKE_STEP_TIMEOUT (R411). A wake step times out, lowering its rail for a retry or entering WAKE_FAULT. -/
  | wakeStepTimeout
  /-- WAKE_RETRY_WAIT (R411). After 1.0 ms the failed step is carried out once more. -/
  | wakeRetryWait
  /-- PWR_PAD_RELEASE (R413). Writing a group bit releases its latched pads. -/
  | pwrPadRelease (v : Nat)
  /-- PWR_DOM_CTRL (R416). Switches domains D3–D9 on or off, refusing off while a function is not OFF. -/
  | pwrDomCtrl (v : Nat)
  /-- DOMAIN_IDLE_OFF (R416). An AUTO domain whose functions have been OFF for 1 ms is switched off. -/
  | domainIdleOff (d : Nat)
  /-- OFF_DOMAIN_ACCESS (R417). An access to an off domain switches it on and stalls. -/
  | offDomainAccess (tcm write : Bool) (off v : Nat)
  /-- DOMAIN_GOOD (R417). The domain reports good and the stalled access completes. -/
  | domainGood (d : Nat)
  /-- DOMAIN_GOOD_TIMEOUT (R417). No good within twice the time: reads return 0, writes drop, DOM_FAULT. -/
  | domainGoodTimeout (d : Nat)
  /-- PWR_OP_VSEL (R419). Writing VSEL starts a VDD_CORE change or is refused. -/
  | pwrOpVsel (v : Nat)
  /-- PWR_OP_COMMIT (R419). Commits FSEL for hand-over, refused above the confirmed VSEL. -/
  | pwrOpCommit
  /-- VOLTAGE_CONFIRM (R401). Two READ_VOUT results within ±2 % confirm a new rail level. -/
  | voltageConfirm (rail v1 v2 : Nat)
  /-- VOLTAGE_TIMEOUT (R419). An unconfirmed voltage change after 2.0 ms sets OP_FAULT and restores VSEL. -/
  | voltageTimeout
  /-- OPERATING_POINT (R420). Changes the operating point in the enforced order. -/
  | operatingPoint (tag : Nat)
  /-- DOMAIN_ON (R416). Switches a domain on. -/
  | domainOn (tag : Nat)
  /-- DOMAIN_OFF (R416). Switches a domain off. -/
  | domainOff (tag : Nat)
  /-- DOMAIN_AUTO_ON (R416). Sets automatic off for a domain. -/
  | domainAutoOn (tag : Nat)
  /-- DOMAIN_AUTO_OFF (R416). Clears automatic off for a domain. -/
  | domainAutoOff (tag : Nat)
  /-- PAIR_CTRL_ENABLE (R435). Writing PAIR_CTRL.ENABLE switches the pair function and MIRROR. -/
  | pairCtrlEnable (v : Bool)
  /-- PAIR_ROLE_ENABLE (R435). Enables the pair function, completing on leaving ELECT. -/
  | pairRoleEnable (tag : Nat)
  /-- PAIR_ROLE_DISABLE (R435). Disables the pair function, completing at OFF. -/
  | pairRoleDisable (tag : Nat)
  /-- PAIR_ROLE_SWAP (R440). Sends a SWAP claim for a planned hand-over. -/
  | pairRoleSwap (tag : Nat)
  /-- MBEACON_RECEIVE (R430). The standby takes the beacon as its meridian and acts on STOP and HANDOVER. -/
  | mbeaconReceive (word arrival : Nat)
  /-- MCLAIM_RECEIVE (R435). A claim pair is taken for election, copy or swap. -/
  | mclaimReceive (a b : Nat) (consecutive : Bool)
  /-- CLAIM_SEND_TIMER (R435). Every 100 µs in ELECT the controller sends a CLAIM. -/
  | claimSendTimer
  /-- ELECT_TIMEOUT (R435). ELECT_MS elapses unclaimed and the controller becomes PRIMARY alone. -/
  | electTimeout
  /-- MIRROR_FRAME_SEND (R429). The primary sends waiting records in a mirror frame. -/
  | mirrorFrameSend (slot : Nat)
  /-- MIRROR_FRAME_RECEIVE (R431). The standby applies the records of a mirror frame. -/
  | mirrorFrameReceive (bytes : List Byte)
  /-- ROLE_IN_EDGE (R434). An edge on ROLE_IN marks the partner alive in the tick. -/
  | roleInEdge (t : Nat)
  /-- TAKEOVER_CHECK (R437). At M+48 ns the standby checks for MBEACON and ROLE_IN and arms the watchdog. -/
  | takeoverCheck
  /-- TAKEOVER (R437). At M+64 ns the watchdog fires and the standby sends the marker and becomes PRIMARY. -/
  | takeover
  /-- ORPHAN_TIMEOUT (R435). ROLE_IN not alive for ORPHAN_MS returns MIRROR_LOST to ELECT. -/
  | orphanTimeout
  /-- MIRROR_DOWN_TIMEOUT (R435). MIRROR not UP for 10 ms returns SYNCING to ELECT. -/
  | mirrorDownTimeout
  /-- HANDOVER_TIMEOUT (R444). No hand-over within 10 ms completes SWAP with TIMEOUT. -/
  | handoverTimeout
  /-- POWER_ON_RESET (R446). VDD_AON rising resets everything. -/
  | powerOnReset (straps : Nat)
  /-- RESET_PIN (R446). RESET# low for 1 µs makes a COLD reset. -/
  | resetPin
  /-- PERST_ASSERT (R446). PERST# makes a HOST reset, an S3 wake or a COLD reset in WAKE_FAULT. -/
  | perstAssert
  /-- NVM_WARM_RESET (R446). Writing NVM_CTRL.WARM_RESET makes a WARM reset. -/
  | nvmWarmReset
  /-- RESET_END (R447). The reset interval ends and power-up or the Keeper's boot begins. -/
  | resetEnd (straps : Nat)
  /-- KEEPER_BOOT (R454). The Keeper reads OTP, flash and the boot descriptor and chooses a slot. -/
  | keeperBoot (answers : Bool) (sizeMib : Nat)
  /-- SLOT_VERIFIED (R455). The slot's signature, key, SVN and life cycle are checked. -/
  | slotVerified (answers : Bool)
  /-- SECTION_APPLIED (R455). A section whose hash and tag match is applied. -/
  | sectionApplied (answers : Bool)
  /-- HALT_PIN_LOW (R464). HALT# low for 200 ns latches cause PIN. -/
  | haltPinLow
  /-- HALT_ASSERT (R464). Writing NVM_CTRL.HALT_ASSERT sets or clears cause SW. -/
  | haltAssert (v : Bool)
  /-- HALT_CLEAR (R465). NVM_CTRL.HALT_CLEAR clears the latched causes. -/
  | haltClear
  /-- NVM_HOST_ATTACH (R468). Writing HOST_ATTACH blocks helm fabric writes to BAR0. -/
  | nvmHostAttach (v : Bool)
  /-- WDT_KICK (R466). Writing 0x0000_6416 to NVM_WDT_KICK restarts the watchdog. -/
  | wdtKick (v : Nat)
  /-- WDT_EXPIRY (R466). PERIOD_MS without a kick latches WDT. -/
  | wdtExpiry
  /-- PCIE_CONFIG_READY (R467). The configuration space becomes ready after PERST# and power-good. -/
  | pcieConfigReady
  /-- KEY_WRITE (R482). Programs one OTP key slot and reads it back. -/
  | keyWrite (tag : Nat)
  /-- KEY_SELECT (R483). Makes a higher command key active. -/
  | keySelect (tag : Nat)
  /-- KEY_REVOKE (R483). Sets a key's revocation bit. -/
  | keyRevoke (tag : Nat)
  /-- SVN_ADVANCE (R484). Raises the OTP SVN floor. -/
  | svnAdvance (tag : Nat)
  /-- FLASH_WRITE (R486). Erases, programs and compares flash outside protected ranges. -/
  | flashWrite (tag : Nat)
  /-- IMAGE_VERIFY (R486). Reads and checks a slot without applying it. -/
  | imageVerify (tag : Nat)
  /-- IMAGE_ACTIVATE (R486). Verifies a slot, writes NVM_BOOT_SEL and schedules a WARM reset. -/
  | imageActivate (tag : Nat)
  /-- IMAGE_ACTIVATE_RESET (R486). 1 ms after IMAGE_ACTIVATE the WARM reset is made. -/
  | imageActivateReset
  /-- LIFE_CYCLE (R488). Accepts a permitted life-cycle transition. -/
  | lifeCycle (tag : Nat)
  /-- LIFE_CYCLE_APPLY (R489). 1 ms later the state bit is programmed, keys destroyed and a full zeroization and COLD reset follow. -/
  | lifeCycleApply
  /-- ZEROIZE (R491). Accepts a zeroization request. -/
  | zeroize (tag : Nat)
  /-- ZEROIZE_APPLY (R491). 1 ms later all work stops, memory is zeroized and a COLD reset follows. -/
  | zeroizeApply
  /-- COUNTER_READ (R477). Returns the counter floor. -/
  | counterRead (tag : Nat)
  /-- JOURNAL_WRITE_DONE (R479). A journal record write finishes and the waiting check completes. -/
  | journalWriteDone (ok : Bool)
  /-- LOCKOUT_EXPIRY (R478). An instance's 1,000 ms lockout ends. -/
  | lockoutExpiry (i : Nat)
  /-- SEC_CRIT_EXTRA_ADD (R472). Writing SEC_CRIT_EXTRA.ADD makes command groups critical. -/
  | secCritExtraAdd (v : Nat)
  /-- WEAR_WINDOW_START (R497). A 24-hour window begins and window counts return to 0. -/
  | wearWindowStart
  /-- AGE_MEASURE (R497). Hourly ring-oscillator and loopback eye measurements update AGE and EYE_LOSS. -/
  | ageMeasure (kind unit value : Nat)
  /-- SWAP_AT_QUIESCE (R499). A pending unit reaching its quiesce point, or at once when set, is swapped for a spare. -/
  | swapAtQuiesce (kind unit row : Nat)
  /-- HELM_SWAP_DONE (R500). The TCM copy ends and the spare takes the logical helm number. -/
  | helmSwapDone (h : Nat) (reload : Bool)
  /-- ROW_REPAIR_DONE (R501). A row copy ends and the row is mapped onto its spare. -/
  | rowRepairDone (array row : Nat)
  /-- REPAIR_BURN (R504). The Keeper programs a completed swap into the next OTP repair entry. -/
  | repairBurn (readback : List Byte)
  /-- ALMANAC_SAVE_TIMER (R507). Every SAVE_MIN minutes the Keeper writes a new almanac record. -/
  | almanacSaveTimer
  /-- RECORD_WRITE_DONE (R507). An almanac record write completes or sets SAVE_FAULT. -/
  | recordWriteDone (ok : Bool)
  /-- ALM_SWAP (R509). Requests a swap of a unit. -/
  | almSwap (tag : Nat)
  /-- ALM_BURN (R509). Burns unburned swaps into OTP. -/
  | almBurn (tag : Nat)
  /-- ALM_READ (R509). Writes a unit's almanac data to DATA. -/
  | almRead (tag : Nat)
  /-- ALM_SAVE (R509). Writes an almanac record now. -/
  | almSave (tag : Nat)
  /-- PF_FLR (R520). An FLR of PF0 acts as a HOST reset with the link kept up. -/
  | pfFlr
  /-- VF_ENABLE_CLEAR (R521). Clearing VF Enable wipes every VF-bound instance. -/
  | vfEnableClear
  /-- POISONED_WRITE (R523). A poisoned write to a BAR is dropped and logged. -/
  | poisonedWrite (fn : Nat)
  /-- BAR_BAD_ACCESS (R514). An access of refused size or alignment completes with Unsupported Request. -/
  | barBadAccess (fn : Nat) (read : Bool)
  /-- VIEW_ERR_CAUSE_WRITE (R515). A W1C write to VIEW_ERR_CAUSE clears the bound instance's HIC_ERR_CAUSE bits. -/
  | viewErrCauseWrite (fn slot v : Nat)
  /-- BEARING_ASYM_WRITE (R525). A write of word 2 in the bearing aperture sets ASYM. -/
  | bearingAsymWrite (a v : Nat)
  /-- REGISTER_WRITE (R4). A write to a register with no row of its own acts by its field access types. -/
  | registerWrite (origin space : Nat) (write : Bool) (off v : Nat)
  /-- NODE_LEG_RECEIVE (R142). A node receives an outbound leg frame, discards it if its SEQ differs from the last marker's TICK and otherwise acts on its payload. -/
  | nodeLegReceive (d : Nat) (frame : List Byte)
  /-- HUB_LINK_FIX (R36). A hub starts a link fix on each active downstream link at least once every 100 ms. -/
  | hubLinkFix (d p : Nat) (good : Bool) (t1 t4 turn ns frac : Nat)
  /-- AUX_LINK_FIX (R46). The controller starts a link fix on its SYNC link, or the standby on MIRROR, and takes the result for domain or pair timing. -/
  | auxLinkFix (lane t1 : Nat)
  /-- SINK_SUPPLY_FAIL (R389). A sink in LOCAL whose own supply falls below its threshold pulls PWC low within 2 µs for 6–10 µs. -/
  | sinkSupplyFail (d : Nat)
  /-- SINK_VBUS_CHANGE (R394). VBUS appearing moves a sink from UNPOWERED to DEFAULT, and VBUS lost moves it from any state to UNPOWERED. -/
  | sinkVbusChange (d : Nat) (present : Bool)
  /-- SINK_KEEP_ALIVE_TIMER (R382). Every 500 ms a sink in CONTRACT or LOCAL sends KEEP_ALIVE. -/
  | sinkKeepAliveTimer (d : Nat)
  /-- SINK_BEAT_TIMER (R381). Every 20 µs during a transition a sink sends a 1 µs beat on PWC. -/
  | sinkBeatTimer (d : Nat)
  /-- PWC_REJECT (R384). A sink that receives REJECT abandons its request and may send it again no sooner than 10 ms later. -/
  | pwcReject (d : Nat) (levels : List Bool)
  /-- NODE_PIPE_HALT (R209). A node refuses further traffic on a bulk pipe, moves it to HALTED and answers STALL from then on. -/
  | nodePipeHalt (d pipe : Nat)
  /-- HUB_OVERTEMP (R110). A hub's over-temperature condition sets FLAGS OVERTEMP, its CHANGE bit 0 and increments SEQ. -/
  | hubOvertemp (d : Nat)
  /-- PMBUS_TRANSACTION_DONE (R385). A PMBus transaction to a stage or regulator ends, acknowledged or not, and the next write of its sequence or STAGE_ERR follows. -/
  | pmbusTransactionDone (target : Nat) (ack : Bool) (value : Nat)
  /-- FLASH_OPERATION_DONE (R486). A flash erase, program or whole-slot read ends and FLASH_WRITE or IMAGE_VERIFY completes. -/
  | flashOperationDone
  /-- FLASH_BUSY_TIMEOUT (R492). Flash busy for 5 s completes FLASH_WRITE or ALM_SAVE with TIMEOUT. -/
  | flashBusyTimeout
  /-- OTP_PROGRAM_DONE (R482). OTP programming and readback of a key slot, selected bit, revocation bit or SVN floor ends and the command completes. -/
  | otpProgramDone (readback : List Byte)
  /-- BULK_DATA_READ_FAULT (R307). A host read of bulk or control data or a safe value ends in completion timeout, UR or poison, aborting the transfer or command with DMA_READ_FAULT. -/
  | bulkDataReadFault (tag : Nat)
  /-- LANE_SIGNAL_CHANGE (R90). A lane receiver gains or loses signal, setting or clearing LOS and starting the DETECT timeout or the 10 µs loss count. -/
  | laneSignalChange (n : Nat) (signal : Bool)
  /-- PCIE_LINK_STATE_CHANGE (R467). The host link comes up, goes down or trains degraded, setting the GBL_PCIE_EVENT bits. -/
  | pcieLinkStateChange (up : Bool) (speed width : Nat)
  /-- CONFIG_SPACE_WRITE (R517). A host configuration write sets NumVFs, VF Enable, PASID Enable, MSI-X Enable or a function's D-state with the effects the manual gives. -/
  | configSpaceWrite (fn off : Nat) (write : Bool) (be v : Nat)
  deriving DecidableEq, Repr

end Sys2Proof
end

