-- ==== Sys2Proof/Config.lean ====
section
/-! DEFINITION. What the spec leaves open: the free values. None has a body, so nothing in Lean can prove or evaluate a value
of one, and a statement about one holds whatever it is. -/

namespace Sys2Proof.Config

/-- The free value the machine takes for its `n`-th value that the spec does not state (the counter is
`State.free`, which each such step reads and advances). -/
opaque freeValue : Nat → Nat

/-- A byte of a helm memory that has been without power: undefined (R416), by generation and address. -/
opaque freeByte : Nat → Byte

/-- The trim the servo takes for a time constant (TCONST), the offset it works to remove in 2^-16 ns, and the trim it had (R51, R23): the spec gives
no control law. -/
opaque servoTrim : Nat → Int → Int → Int

/-! What the RISC-V Privileged Architecture leaves to the implementation of a helm, and the spec does not say (notes/assumptions/70). -/

/-- Whether mtval takes the value the architecture describes for an exception code, or 0. -/
opaque mtvalWritten : Nat → Bool
/-- What mvendorid, marchid and mimpid read as, by CSR number. -/
opaque helmIdCsr : Nat → BitVec 32

end Sys2Proof.Config
end

