-- ==== Sys2Proof/Machine/Fields.lean ====
section
/-! DEFINITION. The register fields of the device, one constant per field of the spec's register tables
(18 R531 Table 18-12 names every register; the tables it points at give each field's place, access type and reset
value). A reserved field is not listed: it reads 0 and ignores writes (R5). The constants carry the manual's names,
`Fld.<REGISTER>.<FIELD>`. -/

namespace Sys2Proof.Machine

/-- The access types of Table 00-6 (R4). -/
inductive Access where
  | ro | rw | w1c | wo | rc | rwl | rws
  deriving DecidableEq, Repr

/-- Which index register selects the context that a register acts on; `none` for a register found at its own offset. -/
inductive Sel where
  | none | pi | route | qmIns | sq | cq | ins | hicIns | hicVec
  deriving DecidableEq, Repr

/-- One field of a register: its row in the tables, the offset of element 0 in BAR0, the stride and number of
elements of an indexed register, the selector of its context, its lowest bit, its width and its access type. -/
structure Field where
  row : Nat
  off : Nat
  stride : Nat
  count : Nat
  sel : Sel
  lo : Nat
  w : Nat
  acc : Access
  deriving DecidableEq, Repr

/-- How a field's reset value depends on the element or context `n`. -/
inductive Rst where
  | const (v : Nat)
  | index
  | i0 (first others : Nat)
  | below (limit others : Nat)
  | sense
  | list (vs : List Nat)
  deriving DecidableEq, Repr


/-! ### CHR_CTRL at 0x02000, Table 02-11 of file 02 -/

/-- [3:3] RW, reset 0. Enables MERID_OUT under R53. -/
def Fld.CHR_CTRL.MERID_OUT_EN : Field := ⟨0, 0x02000, 0x0, 1, .none, 3, 1, .rw⟩
/-- [2:2] RW, reset 0. Enables TIME_IN discipline under R50. -/
def Fld.CHR_CTRL.PPS_EN : Field := ⟨1, 0x02000, 0x0, 1, .none, 2, 1, .rw⟩
/-- [1:1] RW, reset 0. Aligns meridians to the grid under R26. -/
def Fld.CHR_CTRL.MERID_ALIGN : Field := ⟨2, 0x02000, 0x0, 1, .none, 1, 1, .rw⟩
/-- [0:0] RW, reset 0. The servo owns CHR_RATE_TRIM while a reference is configured. -/
def Fld.CHR_CTRL.SERVO_EN : Field := ⟨3, 0x02000, 0x0, 1, .none, 0, 1, .rw⟩

/-! ### CHR_STATUS at 0x02004, Table 02-12 of file 02 -/

/-- [13:13] W1C, reset 0. A write to CHR_STEP or CHR_SSC was ignored while locked. -/
def Fld.CHR_STATUS.SHADOW_BUSY : Field := ⟨4, 0x02004, 0x0, 1, .none, 13, 1, .w1c⟩
/-- [12:12] W1C, reset 0. Sync loss under R54. -/
def Fld.CHR_STATUS.SYNC_LOST : Field := ⟨5, 0x02004, 0x0, 1, .none, 12, 1, .w1c⟩
/-- [11:11] W1C, reset 0. A PPS edge was discarded under R50. -/
def Fld.CHR_STATUS.PPS_OUTLIER : Field := ⟨6, 0x02004, 0x0, 1, .none, 11, 1, .w1c⟩
/-- [10:10] W1C, reset 0. An expected PPS edge was missing. -/
def Fld.CHR_STATUS.PPS_MISSED : Field := ⟨7, 0x02004, 0x0, 1, .none, 10, 1, .w1c⟩
/-- [9:9] W1C, reset 0. A step with a nonzero amount was handed over under R57. -/
def Fld.CHR_STATUS.STEP_DONE : Field := ⟨8, 0x02004, 0x0, 1, .none, 9, 1, .w1c⟩
/-- [8:8] W1C, reset 0. SSC was refused or stopped under R31. -/
def Fld.CHR_STATUS.SSC_BLOCKED : Field := ⟨9, 0x02004, 0x0, 1, .none, 8, 1, .w1c⟩
/-- [7:6] RO, reset 0. Step count, modulo 4. -/
def Fld.CHR_STATUS.EPOCH : Field := ⟨10, 0x02004, 0x0, 1, .none, 6, 2, .ro⟩
/-- [5:5] RO, reset 0. SSC is running. -/
def Fld.CHR_STATUS.SSC_ACTIVE : Field := ⟨11, 0x02004, 0x0, 1, .none, 5, 1, .ro⟩
/-- [4:4] RO, reset 0. Holdover limit reached. -/
def Fld.CHR_STATUS.DEGRADED : Field := ⟨12, 0x02004, 0x0, 1, .none, 4, 1, .ro⟩
/-- [2:0] RO, reset 0. 0 FREE, 1 ACQUIRING, 2 LOCKED, 3 DEAD_RECKONING; others reserved. -/
def Fld.CHR_STATUS.TIME_STATE : Field := ⟨13, 0x02004, 0x0, 1, .none, 0, 3, .ro⟩

/-! ### CHR_TIME_LO at 0x02008, Table 02-13 of file 02 -/

/-- [31:0] RO, reset 0. Chronometer nanoseconds [31:0]; a read takes the snapshot of R24. -/
def Fld.CHR_TIME_LO.NS_LO : Field := ⟨14, 0x02008, 0x0, 1, .none, 0, 32, .ro⟩

/-! ### CHR_TIME_HI at 0x0200C, Table 02-14 of file 02 -/

/-- [31:0] RO, reset 0. Snapshot nanoseconds [63:32]. -/
def Fld.CHR_TIME_HI.NS_HI : Field := ⟨15, 0x0200C, 0x0, 1, .none, 0, 32, .ro⟩

/-! ### CHR_TIME_FRAC at 0x02010, Table 02-15 of file 02 -/

/-- [15:0] RO, reset 0. Snapshot fraction, unit 2^−16 ns. -/
def Fld.CHR_TIME_FRAC.FRAC : Field := ⟨16, 0x02010, 0x0, 1, .none, 0, 16, .ro⟩

/-! ### CHR_TICK_LO at 0x02014, Table 02-16 of file 02 -/

/-- [31:0] RO, reset 0. Snapshot tick number [31:0]. -/
def Fld.CHR_TICK_LO.TICK_LO : Field := ⟨17, 0x02014, 0x0, 1, .none, 0, 32, .ro⟩

/-! ### CHR_TICK_HI at 0x02018, Table 02-17 of file 02 -/

/-- [31:0] RO, reset 0. Snapshot tick number [63:32]. -/
def Fld.CHR_TICK_HI.TICK_HI : Field := ⟨18, 0x02018, 0x0, 1, .none, 0, 32, .ro⟩

/-! ### CHR_RATE_TRIM at 0x0201C, Table 02-18 of file 02 -/

/-- [31:0] RW, reset 0. Signed, unit 2^−32, clamped to ±429,497 under R23. -/
def Fld.CHR_RATE_TRIM.TRIM : Field := ⟨19, 0x0201C, 0x0, 1, .none, 0, 32, .rw⟩

/-! ### CHR_STEP_LO at 0x02020, Table 02-19 of file 02 -/

/-- [31:5] RWL, reset 0. Step amount, nanoseconds [31:5]. Cleared at hand-over under R57. -/
def Fld.CHR_STEP_LO.STEP_LO : Field := ⟨20, 0x02020, 0x0, 1, .none, 5, 27, .rwl⟩

/-! ### CHR_STEP_HI at 0x02024, Table 02-20 of file 02 -/

/-- [31:0] RWL, reset 0. Step amount, nanoseconds [63:32], signed. Cleared at hand-over. -/
def Fld.CHR_STEP_HI.STEP_HI : Field := ⟨21, 0x02024, 0x0, 1, .none, 0, 32, .rwl⟩

/-! ### CHR_SSC at 0x02028, Table 02-21 of file 02 -/

/-- [13:8] RWL, reset 0. Depth in units of 0.01 %; 51–63 act as 50. -/
def Fld.CHR_SSC.SSC_DEPTH : Field := ⟨22, 0x02028, 0x0, 1, .none, 8, 6, .rwl⟩
/-- [0:0] RWL, reset 0. Down-spread under R30 and R31. -/
def Fld.CHR_SSC.SSC_EN : Field := ⟨23, 0x02028, 0x0, 1, .none, 0, 1, .rwl⟩

/-! ### CHR_COMMIT at 0x0202C, Table 02-22 of file 02 -/

/-- [1:1] RO, reset 0. 1 from COMMIT until hand-over. -/
def Fld.CHR_COMMIT.PENDING : Field := ⟨24, 0x0202C, 0x0, 1, .none, 1, 1, .ro⟩
/-- [0:0] WO, reset 0. Writing 1 commits CHR_STEP and CHR_SSC under R11. -/
def Fld.CHR_COMMIT.COMMIT : Field := ⟨25, 0x0202C, 0x0, 1, .none, 0, 1, .wo⟩

/-! ### CHR_MERID_OUT_CFG at 0x02030, Table 02-23 of file 02 -/

/-- [24:24] RW, reset 0. 1: pulse at each chronometer second. -/
def Fld.CHR_MERID_OUT_CFG.PPS_MODE : Field := ⟨26, 0x02030, 0x0, 1, .none, 24, 1, .rw⟩
/-- [23:16] RW, reset 1. High time in slots; 0 acts as 1. -/
def Fld.CHR_MERID_OUT_CFG.WIDTH : Field := ⟨27, 0x02030, 0x0, 1, .none, 16, 8, .rw⟩
/-- [15:0] RW, reset 1. Pulse every DIVIDER meridians; 0 acts as 1. -/
def Fld.CHR_MERID_OUT_CFG.DIVIDER : Field := ⟨28, 0x02030, 0x0, 1, .none, 0, 16, .rw⟩

/-! ### CHR_PPS_CFG at 0x02034, Table 02-24 of file 02 -/

/-- [17:16] RW, reset 0b01. Servo time constant: 0b00 1 s, 0b01 4 s, 0b10 16 s, 0b11 64 s. -/
def Fld.CHR_PPS_CFG.TCONST : Field := ⟨29, 0x02034, 0x0, 1, .none, 16, 2, .rw⟩
/-- [15:0] RW, reset 1,000. Acceptance window in ns; 0 acts as 1. -/
def Fld.CHR_PPS_CFG.WINDOW : Field := ⟨30, 0x02034, 0x0, 1, .none, 0, 16, .rw⟩

/-! ### CHR_PPS_OFFSET at 0x02038, Table 02-25 of file 02 -/

/-- [31:0] RW, reset 0. Signed, in ns. The nanosecond value at which a TIME_IN edge is placed. -/
def Fld.CHR_PPS_OFFSET.OFFSET : Field := ⟨31, 0x02038, 0x0, 1, .none, 0, 32, .rw⟩

/-! ### CHR_PPS_ERROR at 0x0203C, Table 02-26 of file 02 -/

/-- [31:0] RO, reset 0. Signed error of the last accepted edge, unit 2^−8 ns, saturating. -/
def Fld.CHR_PPS_ERROR.ERROR : Field := ⟨32, 0x0203C, 0x0, 1, .none, 0, 32, .ro⟩

/-! ### CHR_SYNC_CFG at 0x02040, Table 02-27 of file 02 -/

/-- [1:0] RW, reset 0b00. 0b00 OFF, 0b01 ROOT, 0b10 FOLLOW; 0b11 acts as OFF. -/
def Fld.CHR_SYNC_CFG.ROLE : Field := ⟨33, 0x02040, 0x0, 1, .none, 0, 2, .rw⟩

/-! ### CHR_SYNC_ASYM at 0x02044, Table 02-28 of file 02 -/

/-- [15:0] RW, reset 0. Asymmetry a of the SYNC_UP link, signed, unit 2^−12 ns. -/
def Fld.CHR_SYNC_ASYM.ASYM : Field := ⟨34, 0x02044, 0x0, 1, .none, 0, 16, .rw⟩

/-! ### CHR_SYNC_STATUS at 0x02048, Table 02-29 of file 02 -/

/-- [31:16] RO, reset 0. Last offset against SYNC_UP, signed, unit 2^−8 ns, saturating. -/
def Fld.CHR_SYNC_STATUS.OFFSET : Field := ⟨35, 0x02048, 0x0, 1, .none, 16, 16, .ro⟩
/-- [11:11] RO, reset 0. Set under R48. -/
def Fld.CHR_SYNC_STATUS.DEPTH_LIMIT : Field := ⟨36, 0x02048, 0x0, 1, .none, 11, 1, .ro⟩
/-- [10:10] RO, reset 0. Time PLL locked to SYNC_UP. -/
def Fld.CHR_SYNC_STATUS.UP_LOCKED : Field := ⟨37, 0x02048, 0x0, 1, .none, 10, 1, .ro⟩
/-- [9:0] RO, reset 0. This controller's depth in the domain. -/
def Fld.CHR_SYNC_STATUS.DEPTH : Field := ⟨38, 0x02048, 0x0, 1, .none, 0, 10, .ro⟩

/-! ### CHR_HOLDOVER at 0x0204C, Table 02-30 of file 02 -/

/-- [31:0] RO, reset 0. Holdover error estimate in ns, saturating. -/
def Fld.CHR_HOLDOVER.EST_NS : Field := ⟨39, 0x0204C, 0x0, 1, .none, 0, 32, .ro⟩

/-! ### CHR_HOLDOVER_CFG at 0x02050, Table 02-30 of file 02 -/

/-- [31:16] RW, reset 1,000. Degrade limit in ns. -/
def Fld.CHR_HOLDOVER_CFG.LIMIT_NS : Field := ⟨40, 0x02050, 0x0, 1, .none, 16, 16, .rw⟩
/-- [15:0] RW, reset 100. REFCLK holdover stability in ppb. -/
def Fld.CHR_HOLDOVER_CFG.PPB : Field := ⟨41, 0x02050, 0x0, 1, .none, 0, 16, .rw⟩

/-! ### CHR_FIX_CFG at 0x02054, Table 02-30 of file 02 -/

/-- [25:16] RW, reset 1,000. Hub report period in ms; 0 acts as 1, values above 1,000 act as 1,000. -/
def Fld.CHR_FIX_CFG.REPORT_MS : Field := ⟨42, 0x02054, 0x0, 1, .none, 16, 10, .rw⟩
/-- [9:0] RW, reset 100. Root-link fix period in ms; 0 acts as 1, values above 1,000 act as 1,000. -/
def Fld.CHR_FIX_CFG.REFRESH_MS : Field := ⟨43, 0x02054, 0x0, 1, .none, 0, 10, .rw⟩

/-! ### LNK_CTRL at 0x04000, Table 03-11 of file 03 -/

/-- [5:5] WO, reset 0. Sends foghorn from LOW_POWER under R94. -/
def Fld.LNK_CTRL.WAKE_REMOTE : Field := ⟨44, 0x04000, 0x100, 19, .none, 5, 1, .wo⟩
/-- [4:4] WO, reset 0. Full retrain under R89. -/
def Fld.LNK_CTRL.FULL_RETRAIN : Field := ⟨45, 0x04000, 0x100, 19, .none, 4, 1, .wo⟩
/-- [3:3] WO, reset 0. Fast retrain under R89. -/
def Fld.LNK_CTRL.RETRAIN : Field := ⟨46, 0x04000, 0x100, 19, .none, 3, 1, .wo⟩
/-- [2:2] RW, reset 0. Arms the foghorn detector under R95. -/
def Fld.LNK_CTRL.FOGHORN_WAKE : Field := ⟨47, 0x04000, 0x100, 19, .none, 2, 1, .rw⟩
/-- [1:1] WO, reset 0. Sends LINK_OFF LOW_POWER under R93; ignored on SYNC_UP and for D ends. -/
def Fld.LNK_CTRL.LOW_POWER : Field := ⟨48, 0x04000, 0x100, 19, .none, 1, 1, .wo⟩
/-- [0:0] RW, reset 0. Enables the lane under R87. -/
def Fld.LNK_CTRL.ENABLE : Field := ⟨49, 0x04000, 0x100, 19, .none, 0, 1, .rw⟩

/-! ### LNK_CFG at 0x04004, Table 03-12 of file 03 -/

/-- [15:12] RW, reset 8. Failed attempts before ERROR; 0 is no limit. -/
def Fld.LNK_CFG.MAX_ATTEMPTS : Field := ⟨50, 0x04004, 0x100, 19, .none, 12, 4, .rw⟩
/-- [11:11] RW, reset 0. Software bit-slip under R77. -/
def Fld.LNK_CFG.SW_ALIGN : Field := ⟨51, 0x04004, 0x100, 19, .none, 11, 1, .rw⟩
/-- [10:10] RW, reset 0. Skips the sweep and uses LNK_EQ_CFG. -/
def Fld.LNK_CFG.EQ_FIXED : Field := ⟨52, 0x04004, 0x100, 19, .none, 10, 1, .rw⟩
/-- [9:8] RW, reset 0b11. 0b01 G1, 0b10 G2, 0b11 G3; 0b00 acts as G1. RO 0b11 for n = 16–18. -/
def Fld.LNK_CFG.MAX_GEN : Field := ⟨53, 0x04004, 0x100, 19, .none, 8, 2, .rw⟩

/-! ### LNK_STATUS at 0x04008, Table 03-13 of file 03 -/

/-- [31:28] RO, reset 0. 0 OFF, 1 ENABLING, 2 ON, 3 DISABLING, 4 ERROR. -/
def Fld.LNK_STATUS.FUNC_STATE : Field := ⟨54, 0x04008, 0x100, 19, .none, 28, 4, .ro⟩
/-- [27:27] RO, reset 0. Under R87. -/
def Fld.LNK_STATUS.PENDING_ENABLE : Field := ⟨55, 0x04008, 0x100, 19, .none, 27, 1, .ro⟩
/-- [23:20] RO, reset 0. Consecutive failed attempts, saturating. -/
def Fld.LNK_STATUS.ATTEMPTS : Field := ⟨56, 0x04008, 0x100, 19, .none, 20, 4, .ro⟩
/-- [19:18] RO, reset 0. Current generation, encoded as MAX_GEN; 0 when not trained. -/
def Fld.LNK_STATUS.GEN : Field := ⟨57, 0x04008, 0x100, 19, .none, 18, 2, .ro⟩
/-- [17:17] RO, reset 0. Peer is a legacy G1 node under R78. -/
def Fld.LNK_STATUS.LEGACY : Field := ⟨58, 0x04008, 0x100, 19, .none, 17, 1, .ro⟩
/-- [16:16] RO, reset 0. Receiver sees no signal. -/
def Fld.LNK_STATUS.LOS : Field := ⟨59, 0x04008, 0x100, 19, .none, 16, 1, .ro⟩
/-- [11:8] RO, reset 0. Peer KIND from CAPS. -/
def Fld.LNK_STATUS.PEER_KIND : Field := ⟨60, 0x04008, 0x100, 19, .none, 8, 4, .ro⟩
/-- [7:6] RO, reset 0. Peer MAX_GEN. -/
def Fld.LNK_STATUS.PEER_MAX_GEN : Field := ⟨61, 0x04008, 0x100, 19, .none, 6, 2, .ro⟩
/-- [5:5] RO, reset 0. Peer answers LFIX_REQ. -/
def Fld.LNK_STATUS.PEER_FIX : Field := ⟨62, 0x04008, 0x100, 19, .none, 5, 1, .ro⟩
/-- [4:4] RO, reset 0. Peer obeys EQ_REQ. -/
def Fld.LNK_STATUS.PEER_EQ : Field := ⟨63, 0x04008, 0x100, 19, .none, 4, 1, .ro⟩
/-- [3:0] RO, reset 0. Training state code of Table 03-6. -/
def Fld.LNK_STATUS.STATE : Field := ⟨64, 0x04008, 0x100, 19, .none, 0, 4, .ro⟩

/-! ### LNK_EQ_CFG at 0x04010, Table 03-14 of file 03 -/

/-- [12:8] RW, reset 0. De-emphasis in −0.5 dB steps, used at G1 and with EQ_FIXED; 13–31 act as 12. -/
def Fld.LNK_EQ_CFG.TX_DEEMPH : Field := ⟨65, 0x04010, 0x100, 19, .none, 8, 5, .rw⟩
/-- [3:0] RW, reset 7. CTLE peaking in dB, used with EQ_FIXED. -/
def Fld.LNK_EQ_CFG.RX_CTLE : Field := ⟨66, 0x04010, 0x100, 19, .none, 0, 4, .rw⟩

/-! ### LNK_EQ_RESULT at 0x04014, Table 03-15 of file 03 -/

/-- [21:16] RO, reset 0. Chosen opening in 1/64 UI. -/
def Fld.LNK_EQ_RESULT.EYE : Field := ⟨67, 0x04014, 0x100, 19, .none, 16, 6, .ro⟩
/-- [15:14] RO, reset 0. Steps down in the last bring-up. -/
def Fld.LNK_EQ_RESULT.FALLBACKS : Field := ⟨68, 0x04014, 0x100, 19, .none, 14, 2, .ro⟩
/-- [12:8] RO, reset 0. De-emphasis applied at this transmitter, as the peer requested. -/
def Fld.LNK_EQ_RESULT.TX_DEEMPH : Field := ⟨69, 0x04014, 0x100, 19, .none, 8, 5, .ro⟩
/-- [3:0] RO, reset 0. Chosen CTLE in dB. -/
def Fld.LNK_EQ_RESULT.RX_CTLE : Field := ⟨70, 0x04014, 0x100, 19, .none, 0, 4, .ro⟩

/-! ### LNK_ALIGN at 0x04018, Table 03-16 of file 03 -/

/-- [23:17] RO, reset 0. Current bit offset, 0–9 at G1 and G2, 0–65 at G3. -/
def Fld.LNK_ALIGN.OFFSET : Field := ⟨71, 0x04018, 0x100, 19, .none, 17, 7, .ro⟩
/-- [16:16] RO, reset 0. Symbol or block lock held. -/
def Fld.LNK_ALIGN.LOCKED : Field := ⟨72, 0x04018, 0x100, 19, .none, 16, 1, .ro⟩
/-- [15:8] RO, reset 0. Commas, or valid sync headers at G3, in the last 1.024 µs window, saturating. -/
def Fld.LNK_ALIGN.COMMAS : Field := ⟨73, 0x04018, 0x100, 19, .none, 8, 8, .ro⟩
/-- [0:0] WO, reset 0. Moves the boundary one UI later when SW_ALIGN is 1. -/
def Fld.LNK_ALIGN.SLIP : Field := ⟨74, 0x04018, 0x100, 19, .none, 0, 1, .wo⟩

/-! ### LNK_ERR_CNT at 0x0401C, Table 03-17 of file 03 -/

/-- [31:16] RC, reset 0. Under R88, saturating at 65,535. -/
def Fld.LNK_ERR_CNT.CODE_ERR : Field := ⟨75, 0x0401C, 0x100, 19, .none, 16, 16, .rc⟩
/-- [15:8] RC, reset 0. Saturating at 255. -/
def Fld.LNK_ERR_CNT.TYPE_ERR : Field := ⟨76, 0x0401C, 0x100, 19, .none, 8, 8, .rc⟩
/-- [7:0] RC, reset 0. Saturating at 255. -/
def Fld.LNK_ERR_CNT.FRAME_ERR : Field := ⟨77, 0x0401C, 0x100, 19, .none, 0, 8, .rc⟩

/-! ### LNK_ERR_CFG at 0x04020, Table 03-17 of file 03 -/

/-- [25:16] RW, reset 1,000. Window in µs; 0 acts as 1. -/
def Fld.LNK_ERR_CFG.WINDOW_US : Field := ⟨78, 0x04020, 0x100, 19, .none, 16, 10, .rw⟩
/-- [15:0] RW, reset 64. Code errors per window that start RETRAIN; 0 turns the trigger off. -/
def Fld.LNK_ERR_CFG.THRESH : Field := ⟨79, 0x04020, 0x100, 19, .none, 0, 16, .rw⟩

/-! ### LNK_EVENT at 0x04024, Table 03-18 of file 03 -/

/-- [7:7] W1C, reset 0. Under R97. -/
def Fld.LNK_EVENT.CDR_SWAPPED : Field := ⟨80, 0x04024, 0x100, 19, .none, 7, 1, .w1c⟩
/-- [6:6] W1C, reset 0. Under R95 and Table 03-9. -/
def Fld.LNK_EVENT.FOGHORN_SEEN : Field := ⟨81, 0x04024, 0x100, 19, .none, 6, 1, .w1c⟩
/-- [5:5] W1C, reset 0. Under R78. -/
def Fld.LNK_EVENT.MISWIRED : Field := ⟨82, 0x04024, 0x100, 19, .none, 5, 1, .w1c⟩
/-- [4:4] W1C, reset 0. Under R85. -/
def Fld.LNK_EVENT.ATTEMPT_FAILED : Field := ⟨83, 0x04024, 0x100, 19, .none, 4, 1, .w1c⟩
/-- [3:3] W1C, reset 0. Under R83. -/
def Fld.LNK_EVENT.FALLBACK : Field := ⟨84, 0x04024, 0x100, 19, .none, 3, 1, .w1c⟩
/-- [2:2] W1C, reset 0. Under R90. -/
def Fld.LNK_EVENT.LANE_LOST : Field := ⟨85, 0x04024, 0x100, 19, .none, 2, 1, .w1c⟩
/-- [1:1] W1C, reset 0. RETRAIN ended in UP. -/
def Fld.LNK_EVENT.RETRAINED : Field := ⟨86, 0x04024, 0x100, 19, .none, 1, 1, .w1c⟩
/-- [0:0] W1C, reset 0. Entered UP from CONFIRM. -/
def Fld.LNK_EVENT.LINK_UP : Field := ⟨87, 0x04024, 0x100, 19, .none, 0, 1, .w1c⟩

/-! ### LNK_CDR_MAP at 0x04028, Table 03-19 of file 03 -/

/-- [4:0] RO, reset n. Slice serving the lane under R96. -/
def Fld.LNK_CDR_MAP.SLICE : Field := ⟨88, 0x04028, 0x100, 19, .none, 0, 5, .ro⟩

/-! ### LNK_TRAIN_TIME at 0x0402C, Table 03-19 of file 03 -/

/-- [19:0] RO, reset 0. Duration of the last bring-up that reached UP, in µs, from the later end's first TRAIN, saturating. -/
def Fld.LNK_TRAIN_TIME.US : Field := ⟨89, 0x0402C, 0x100, 19, .none, 0, 20, .ro⟩

/-! ### TRE_CTRL at 0x06000, Table 04-14 of file 04 -/

/-- [1:1] RW, reset 1. Enables rules 1 and 2 of R117. -/
def Fld.TRE_CTRL.STICKY : Field := ⟨90, 0x06000, 0x0, 1, .none, 1, 1, .rw⟩
/-- [0:0] RW, reset 0. Enumeration runs under R115. -/
def Fld.TRE_CTRL.ENUM_EN : Field := ⟨91, 0x06000, 0x0, 1, .none, 0, 1, .rw⟩

/-! ### TRE_CFG at 0x06004, Table 04-15 of file 04 -/

/-- [27:24] RW, reset 0. Interval exponent of status legs under R112; 10–15 act as 9. -/
def Fld.TRE_CFG.HUB_INTERVAL : Field := ⟨92, 0x06004, 0x0, 1, .none, 24, 4, .rw⟩
/-- [23:20] RW, reset 3. Retries per request under R120. -/
def Fld.TRE_CFG.ENUM_RETRIES : Field := ⟨93, 0x06004, 0x0, 1, .none, 20, 4, .rw⟩
/-- [15:0] RW, reset 1,000. Request timeout in µs; 0 acts as 1. -/
def Fld.TRE_CFG.ENUM_STEP_US : Field := ⟨94, 0x06004, 0x0, 1, .none, 0, 16, .rw⟩

/-! ### TRE_STATUS at 0x06008, Table 04-16 of file 04 -/

/-- [31:16] RO, reset 0. Bit p: a failed location waits in the tree of root port p. -/
def Fld.TRE_STATUS.ENUM_FAILED : Field := ⟨95, 0x06008, 0x0, 1, .none, 16, 16, .ro⟩
/-- [15:0] RO, reset 0. Bit p: enumeration in progress in the tree of root port p. -/
def Fld.TRE_STATUS.ENUMERATING : Field := ⟨96, 0x06008, 0x0, 1, .none, 0, 16, .ro⟩

/-! ### TRE_COUNT at 0x0600C, Table 04-17 of file 04 -/

/-- [27:16] RO, reset 0. Entries of addresses 1–4,094 in ABSENT. -/
def Fld.TRE_COUNT.ABSENT : Field := ⟨97, 0x0600C, 0x0, 1, .none, 16, 12, .ro⟩
/-- [11:0] RO, reset 0. Entries of addresses 1–4,094 in ADDRESSED, ACTIVE, SUSPECT or QUARANTINE. Entry 0, which describes the controller, is not counted. -/
def Fld.TRE_COUNT.PRESENT : Field := ⟨98, 0x0600C, 0x0, 1, .none, 0, 12, .ro⟩

/-! ### TRE_EVENT at 0x06010, Table 04-18 of file 04 -/

/-- [8:8] W1C, reset 0. A hub status leg reported ROUTE_MISS. -/
def Fld.TRE_EVENT.ROUTE_MISS : Field := ⟨99, 0x06010, 0x0, 1, .none, 8, 1, .w1c⟩
/-- [7:7] W1C, reset 0. A hub status leg reported COLLISION. -/
def Fld.TRE_EVENT.COLLISION : Field := ⟨100, 0x06010, 0x0, 1, .none, 7, 1, .w1c⟩
/-- [6:6] W1C, reset 0. Under R101. -/
def Fld.TRE_EVENT.DEPTH_EXCEEDED : Field := ⟨101, 0x06010, 0x0, 1, .none, 6, 1, .w1c⟩
/-- [5:5] W1C, reset 0. Under R117. -/
def Fld.TRE_EVENT.ADDR_FULL : Field := ⟨102, 0x06010, 0x0, 1, .none, 5, 1, .w1c⟩
/-- [4:4] W1C, reset 0. Under R120. -/
def Fld.TRE_EVENT.ENUM_FAILED : Field := ⟨103, 0x06010, 0x0, 1, .none, 4, 1, .w1c⟩
/-- [3:3] W1C, reset 0. Under R129. -/
def Fld.TRE_EVENT.SUSPECT : Field := ⟨104, 0x06010, 0x0, 1, .none, 3, 1, .w1c⟩
/-- [2:2] W1C, reset 0. A node entered QUARANTINE. -/
def Fld.TRE_EVENT.QUARANTINE : Field := ⟨105, 0x06010, 0x0, 1, .none, 2, 1, .w1c⟩
/-- [1:1] W1C, reset 0. A node became ABSENT. -/
def Fld.TRE_EVENT.DETACH : Field := ⟨106, 0x06010, 0x0, 1, .none, 1, 1, .w1c⟩
/-- [0:0] W1C, reset 0. An ATTACH was posted. -/
def Fld.TRE_EVENT.ATTACH : Field := ⟨107, 0x06010, 0x0, 1, .none, 0, 1, .w1c⟩

/-! ### TRE_NODE_INDEX at 0x06014, Table 04-19 of file 04 -/

/-- [11:0] RW, reset 0. Entry addressed by TRE_NODE_DATA and TRE_NODE_CMD. -/
def Fld.TRE_NODE_INDEX.INDEX : Field := ⟨108, 0x06014, 0x0, 1, .none, 0, 12, .rw⟩

/-! ### TRE_NODE_DATA at 0x06018, Table 04-20 of file 04 -/

/-- [31:0] RW, reset 0. Read: word k of entry INDEX. A read of DATA[0] takes a snapshot of all four words, which reads of DATA[1]–DATA[3] return. Write: stages word k for WRITE. -/
def Fld.TRE_NODE_DATA.DATA : Field := ⟨109, 0x06018, 0x4, 4, .none, 0, 32, .rw⟩

/-! ### TRE_NODE_CMD at 0x06028, Table 04-21 of file 04 -/

/-- [3:3] WO, reset 0. Under R134. -/
def Fld.TRE_NODE_CMD.QUARANTINE : Field := ⟨110, 0x06028, 0x0, 1, .none, 3, 1, .wo⟩
/-- [2:2] WO, reset 0. Under R132. -/
def Fld.TRE_NODE_CMD.RELEASE : Field := ⟨111, 0x06028, 0x0, 1, .none, 2, 1, .wo⟩
/-- [1:1] WO, reset 0. Under R134. -/
def Fld.TRE_NODE_CMD.FORGET : Field := ⟨112, 0x06028, 0x0, 1, .none, 1, 1, .wo⟩
/-- [0:0] WO, reset 0. Under R134. -/
def Fld.TRE_NODE_CMD.WRITE : Field := ⟨113, 0x06028, 0x0, 1, .none, 0, 1, .wo⟩

/-! ### TRE_NODE_STATUS at 0x0602C, Table 04-21 of file 04 -/

/-- [2:2] W1C, reset 0. The last command was applied. -/
def Fld.TRE_NODE_STATUS.DONE : Field := ⟨114, 0x0602C, 0x0, 1, .none, 2, 1, .w1c⟩
/-- [1:1] W1C, reset 0. The last command was refused. -/
def Fld.TRE_NODE_STATUS.REFUSED : Field := ⟨115, 0x0602C, 0x0, 1, .none, 1, 1, .w1c⟩
/-- [0:0] RO, reset 0. A command is in progress; a command written while BUSY is refused. -/
def Fld.TRE_NODE_STATUS.BUSY : Field := ⟨116, 0x0602C, 0x0, 1, .none, 0, 1, .ro⟩

/-! ### TRE_ENUM_RETRY at 0x06030, Table 04-22 of file 04 -/

/-- [15:0] WO, reset 0. Bit p: queue again every failed location in the tree of root port p. -/
def Fld.TRE_ENUM_RETRY.PORTS : Field := ⟨117, 0x06030, 0x0, 1, .none, 0, 16, .wo⟩

/-! ### TRE_ENUM_STATE at 0x06040, Table 04-23 of file 04 -/

/-- [31:28] RO, reset 0. Current step of Table 04-6; 0 when idle. -/
def Fld.TRE_ENUM_STATE.STEP : Field := ⟨118, 0x06040, 0x4, 16, .none, 28, 4, .ro⟩
/-- [23:16] RO, reset 0. Status of the last failed enumeration in this tree. -/
def Fld.TRE_ENUM_STATE.LAST_STATUS : Field := ⟨119, 0x06040, 0x4, 16, .none, 16, 8, .ro⟩
/-- [15:12] RO, reset 0. Port of the location in progress or last failed; 0 for the root port. -/
def Fld.TRE_ENUM_STATE.HUB_PORT : Field := ⟨120, 0x06040, 0x4, 16, .none, 12, 4, .ro⟩
/-- [11:0] RO, reset 0. Parent hub address of that location; 0 for the root port. -/
def Fld.TRE_ENUM_STATE.PARENT : Field := ⟨121, 0x06040, 0x4, 16, .none, 0, 12, .ro⟩

/-! ### CHT_CTRL at 0x08000, Table 05-16 of file 05 -/

/-- [2:2] RW, reset 1. Admission batches run under R161. -/
def Fld.CHT_CTRL.ADMIT_EN : Field := ⟨122, 0x08000, 0x0, 1, .none, 2, 1, .rw⟩
/-- [1:1] RWL, reset 0. Opens the shadow to edits under R154. -/
def Fld.CHT_CTRL.EDIT_OPEN : Field := ⟨123, 0x08000, 0x0, 1, .none, 1, 1, .rwl⟩
/-- [0:0] RW, reset 0. 1: the chart executor runs, and the first meridian follows R26. 0: the executor stops at the next meridian, and no further marker is sent. -/
def Fld.CHT_CTRL.RUN : Field := ⟨124, 0x08000, 0x0, 1, .none, 0, 1, .rw⟩

/-! ### CHT_STATUS at 0x08004, Table 05-17 of file 05 -/

/-- [11:11] W1C, reset 0. Under R156. -/
def Fld.CHT_STATUS.COMMIT_REFUSED : Field := ⟨125, 0x08004, 0x0, 1, .none, 11, 1, .w1c⟩
/-- [10:10] W1C, reset 0. Under R154. -/
def Fld.CHT_STATUS.EDIT_CLOSED : Field := ⟨126, 0x08004, 0x0, 1, .none, 10, 1, .w1c⟩
/-- [9:9] W1C, reset 0. Under R157. -/
def Fld.CHT_STATUS.SHADOW_BUSY : Field := ⟨127, 0x08004, 0x0, 1, .none, 9, 1, .w1c⟩
/-- [4:4] RO, reset 1. Under R155. -/
def Fld.CHT_STATUS.SHADOW_VALID : Field := ⟨128, 0x08004, 0x0, 1, .none, 4, 1, .ro⟩
/-- [3:3] RO, reset 0. Under R158. -/
def Fld.CHT_STATUS.REPLAYING : Field := ⟨129, 0x08004, 0x0, 1, .none, 3, 1, .ro⟩
/-- [2:2] RO, reset 0. From an accepted COMMIT until hand-over or refusal. -/
def Fld.CHT_STATUS.PENDING : Field := ⟨130, 0x08004, 0x0, 1, .none, 2, 1, .ro⟩
/-- [1:1] RO, reset 0. The executor is running ticks. -/
def Fld.CHT_STATUS.RUNNING : Field := ⟨131, 0x08004, 0x0, 1, .none, 1, 1, .ro⟩
/-- [0:0] RO, reset 0. 0 A, 1 B. -/
def Fld.CHT_STATUS.ACTIVE_BANK : Field := ⟨132, 0x08004, 0x0, 1, .none, 0, 1, .ro⟩

/-! ### CHT_COMMIT at 0x08008, Table 05-18 of file 05 -/

/-- [0:0] WO, reset 0. Writing 1 commits the chart's shadowed set under R156. -/
def Fld.CHT_COMMIT.COMMIT : Field := ⟨133, 0x08008, 0x0, 1, .none, 0, 1, .wo⟩

/-! ### CHT_TICK_LEN at 0x0800C, Table 05-19 of file 05 -/

/-- [30:16] RO, reset 31,250. Tick length in force. -/
def Fld.CHT_TICK_LEN.ACTIVE_N : Field := ⟨134, 0x0800C, 0x0, 1, .none, 16, 15, .ro⟩
/-- [14:0] RWL, reset 31,250. Shadow tick length under R138. -/
def Fld.CHT_TICK_LEN.N : Field := ⟨135, 0x0800C, 0x0, 1, .none, 0, 15, .rwl⟩

/-! ### CHT_CHECK at 0x08010, Table 05-20 of file 05 -/

/-- [31:28] RO, reset 0. Code of Table 05-6. -/
def Fld.CHT_CHECK.REASON : Field := ⟨136, 0x08010, 0x0, 1, .none, 28, 4, .ro⟩
/-- [13:0] RO, reset 0. Entry of the failure reported under R155; 0 for NONE, TICK and BUFFER. -/
def Fld.CHT_CHECK.INDEX : Field := ⟨137, 0x08010, 0x0, 1, .none, 0, 14, .ro⟩

/-! ### CHT_COUNT at 0x08014, Table 05-20 of file 05 -/

/-- [30:16] RO, reset 0. Legs in the shadow. -/
def Fld.CHT_COUNT.SHADOW : Field := ⟨138, 0x08014, 0x0, 1, .none, 16, 15, .ro⟩
/-- [14:0] RO, reset 0. Legs in the active bank. -/
def Fld.CHT_COUNT.ACTIVE : Field := ⟨139, 0x08014, 0x0, 1, .none, 0, 15, .ro⟩

/-! ### CHT_LEG_BUF at 0x08018, Table 05-21 of file 05 -/

/-- [21:0] RO, reset 0. Leg-buffer allotment of the shadow under R159. -/
def Fld.CHT_LEG_BUF.BYTES : Field := ⟨140, 0x08018, 0x0, 1, .none, 0, 22, .ro⟩

/-! ### CHT_COMMIT_SEQ at 0x0801C, Table 05-21 of file 05 -/

/-- [15:0] RO, reset 0. Hand-overs since cold reset, modulo 65,536. -/
def Fld.CHT_COMMIT_SEQ.SEQ : Field := ⟨141, 0x0801C, 0x0, 1, .none, 0, 16, .ro⟩

/-! ### CHT_ADMIT at 0x08020, Table 05-21 of file 05 -/

/-- [16:16] RO, reset 0. A batch is being written or awaits hand-over. -/
def Fld.CHT_ADMIT.BUSY : Field := ⟨142, 0x08020, 0x0, 1, .none, 16, 1, .ro⟩
/-- [12:0] RO, reset 0. Requests fetched and not yet in a batch, saturating. -/
def Fld.CHT_ADMIT.WAITING : Field := ⟨143, 0x08020, 0x0, 1, .none, 0, 13, .ro⟩

/-! ### CHT_EVENT at 0x08024, Table 05-22 of file 05 -/

/-- [7:7] W1C, reset 0. Under R169. -/
def Fld.CHT_EVENT.STRAY : Field := ⟨144, 0x08024, 0x0, 1, .none, 7, 1, .w1c⟩
/-- [6:6] W1C, reset 0. A hold policy was applied under R165. -/
def Fld.CHT_EVENT.HELD : Field := ⟨145, 0x08024, 0x0, 1, .none, 6, 1, .w1c⟩
/-- [5:5] W1C, reset 0. An inbound frame overran its range. -/
def Fld.CHT_EVENT.OVERRUN : Field := ⟨146, 0x08024, 0x0, 1, .none, 5, 1, .w1c⟩
/-- [4:4] W1C, reset 0. An inbound leg ended SHORT. -/
def Fld.CHT_EVENT.SHORT : Field := ⟨147, 0x08024, 0x0, 1, .none, 4, 1, .w1c⟩
/-- [3:3] W1C, reset 0. An inbound leg ended TIMEOUT. -/
def Fld.CHT_EVENT.MISS : Field := ⟨148, 0x08024, 0x0, 1, .none, 3, 1, .w1c⟩
/-- [2:2] W1C, reset 0. Under R152. -/
def Fld.CHT_EVENT.PATH_TOO_SLOW : Field := ⟨149, 0x08024, 0x0, 1, .none, 2, 1, .w1c⟩
/-- [1:1] W1C, reset 0. A COMMIT was refused. -/
def Fld.CHT_EVENT.REFUSED : Field := ⟨150, 0x08024, 0x0, 1, .none, 1, 1, .w1c⟩
/-- [0:0] W1C, reset 0. A hand-over took place. -/
def Fld.CHT_EVENT.COMMITTED : Field := ⟨151, 0x08024, 0x0, 1, .none, 0, 1, .w1c⟩

/-! ### CHT_RESERVE at 0x08040, Table 05-23 of file 05 -/

/-- [6:0] RWL, reset 85. Reserve of R146; values above 95 act as 95. -/
def Fld.CHT_RESERVE.PERCENT : Field := ⟨152, 0x08040, 0x4, 16, .none, 0, 7, .rwl⟩

/-! ### CHT_PEAK at 0x08080, Table 05-24 of file 05 -/

/-- [31:16] RO, reset 0. Most inbound slots reserved in any tick by the active chart. -/
def Fld.CHT_PEAK.IN_PEAK : Field := ⟨153, 0x08080, 0x4, 16, .none, 16, 16, .ro⟩
/-- [15:0] RO, reset 0. Most outbound slots reserved in any tick by the active chart. -/
def Fld.CHT_PEAK.OUT_PEAK : Field := ⟨154, 0x08080, 0x4, 16, .none, 0, 16, .ro⟩

/-! ### CHT_MISS_CNT at 0x08100, Table 05-25 of file 05 -/

/-- [31:0] RC, reset 0. TIMEOUT endings, saturating. -/
def Fld.CHT_MISS_CNT.COUNT : Field := ⟨155, 0x08100, 0x4, 16, .none, 0, 32, .rc⟩

/-! ### CHT_SHORT_CNT at 0x08140, Table 05-25 of file 05 -/

/-- [31:0] RC, reset 0. SHORT endings other than overruns, saturating. -/
def Fld.CHT_SHORT_CNT.COUNT : Field := ⟨156, 0x08140, 0x4, 16, .none, 0, 32, .rc⟩

/-! ### CHT_HELD_CNT at 0x08180, Table 05-25 of file 05 -/

/-- [31:0] RC, reset 0. Outbound legs held or not sent, saturating. -/
def Fld.CHT_HELD_CNT.COUNT : Field := ⟨157, 0x08180, 0x4, 16, .none, 0, 32, .rc⟩

/-! ### CHT_OVERRUN_CNT at 0x081C0, Table 05-25 of file 05 -/

/-- [31:0] RC, reset 0. Overruns, saturating. -/
def Fld.CHT_OVERRUN_CNT.COUNT : Field := ⟨158, 0x081C0, 0x4, 16, .none, 0, 32, .rc⟩

/-! ### CHT_STRAY_CNT at 0x08200, Table 05-25 of file 05 -/

/-- [31:0] RC, reset 0. Stray frames, saturating. -/
def Fld.CHT_STRAY_CNT.COUNT : Field := ⟨159, 0x08200, 0x4, 16, .none, 0, 32, .rc⟩

/-! ### HLM_CTRL at 0x0C000, Table 07-15 of file 07 -/

/-- [0:0] RW, reset 0. Switches the helm under R227. -/
def Fld.HLM_CTRL.ENABLE : Field := ⟨160, 0x0C000, 0x40, 18, .none, 0, 1, .rw⟩

/-! ### HLM_STATUS at 0x0C004, Table 07-16 of file 07 -/

/-- [31:28] RO, reset 0. 0 OFF, 1 ENABLING, 2 ON, 3 DISABLING, 4 ERROR. -/
def Fld.HLM_STATUS.FUNC_STATE : Field := ⟨161, 0x0C004, 0x40, 18, .none, 28, 4, .ro⟩
/-- [27:27] RO, reset 0. Under R227. -/
def Fld.HLM_STATUS.PENDING_ENABLE : Field := ⟨162, 0x0C004, 0x40, 18, .none, 27, 1, .ro⟩
/-- [26:26] RO, reset 0. Bank 1 is executing. -/
def Fld.HLM_STATUS.IN_TASK : Field := ⟨163, 0x0C004, 0x40, 18, .none, 26, 1, .ro⟩
/-- [25:24] RO, reset 0. PRIO of the running task. -/
def Fld.HLM_STATUS.PRIO : Field := ⟨164, 0x0C004, 0x40, 18, .none, 24, 2, .ro⟩
/-- [23:12] RO, reset 0. Running task number. -/
def Fld.HLM_STATUS.TASK : Field := ⟨165, 0x0C004, 0x40, 18, .none, 12, 12, .ro⟩
/-- [11:11] RO, reset 0. The helm holds a NOPREEMPT semaphore. -/
def Fld.HLM_STATUS.NOPREEMPT_HELD : Field := ⟨166, 0x0C004, 0x40, 18, .none, 11, 1, .ro⟩
/-- [10:9] RO, reset 0. Save frames in use, 0–3. -/
def Fld.HLM_STATUS.DEPTH : Field := ⟨167, 0x0C004, 0x40, 18, .none, 9, 2, .ro⟩
/-- [4:0] RO, reset h for h = 0–15; 31 for h = 16 and 17. Logical helm number; 31 for a spare not in use; 30 for a helm retired under R495. -/
def Fld.HLM_STATUS.LOGICAL : Field := ⟨168, 0x0C004, 0x40, 18, .none, 0, 5, .ro⟩

/-! ### HLM_EVENT at 0x0C008, Table 07-17 of file 07 -/

/-- [6:6] W1C, reset 0. Under R243. -/
def Fld.HLM_EVENT.OVERHOLD : Field := ⟨169, 0x0C008, 0x40, 18, .none, 6, 1, .w1c⟩
/-- [5:5] W1C, reset 0. Under R216. -/
def Fld.HLM_EVENT.LOAD_REFUSED : Field := ⟨170, 0x0C008, 0x40, 18, .none, 5, 1, .w1c⟩
/-- [4:4] W1C, reset 0. Under R217. -/
def Fld.HLM_EVENT.ECC_FATAL : Field := ⟨171, 0x0C008, 0x40, 18, .none, 4, 1, .w1c⟩
/-- [3:3] W1C, reset 0. Under R217. -/
def Fld.HLM_EVENT.ECC_CORRECTED : Field := ⟨172, 0x0C008, 0x40, 18, .none, 3, 1, .w1c⟩
/-- [2:2] W1C, reset 0. Under R228. -/
def Fld.HLM_EVENT.TASK_TRAP : Field := ⟨173, 0x0C008, 0x40, 18, .none, 2, 1, .w1c⟩
/-- [1:1] W1C, reset 0. The helm entered ERROR under R229. -/
def Fld.HLM_EVENT.ERROR : Field := ⟨174, 0x0C008, 0x40, 18, .none, 1, 1, .w1c⟩
/-- [0:0] W1C, reset 0. The helm reached ON. -/
def Fld.HLM_EVENT.ENABLED : Field := ⟨175, 0x0C008, 0x40, 18, .none, 0, 1, .w1c⟩

/-! ### HLM_TRAP at 0x0C00C, Table 07-18 of file 07 -/

/-- [31:20] RO, reset 0. Task of the last task trap. -/
def Fld.HLM_TRAP.TASK : Field := ⟨176, 0x0C00C, 0x40, 18, .none, 20, 12, .ro⟩
/-- [4:0] RO, reset 0. mcause exception code of that trap. -/
def Fld.HLM_TRAP.CAUSE : Field := ⟨177, 0x0C00C, 0x40, 18, .none, 0, 5, .ro⟩

/-! ### HLM_TRAP_PC at 0x0C010, Table 07-18 of file 07 -/

/-- [31:0] RO, reset 0. mepc of that trap. -/
def Fld.HLM_TRAP_PC.PC : Field := ⟨178, 0x0C010, 0x40, 18, .none, 0, 32, .ro⟩

/-! ### HLM_LOAD at 0x0C014, Table 07-18 of file 07 -/

/-- [31:16] RC, reset 0. Most reflex-busy time in one tick since the last read, in 32 ns units, saturating. -/
def Fld.HLM_LOAD.PEAK : Field := ⟨179, 0x0C014, 0x40, 18, .none, 16, 16, .rc⟩
/-- [15:0] RO, reset 0. Reflex-busy time of the last tick, dispatch included, in 32 ns units rounded up. -/
def Fld.HLM_LOAD.LAST : Field := ⟨180, 0x0C014, 0x40, 18, .none, 0, 16, .ro⟩

/-! ### HLM_RESET_VEC at 0x0C018, Table 07-18 of file 07 -/

/-- [31:0] RW, reset 0x0000_0000. Background start address under R227. -/
def Fld.HLM_RESET_VEC.VECTOR : Field := ⟨181, 0x0C018, 0x40, 18, .none, 0, 32, .rw⟩

/-! ### TSK_CTRL at 0x0E000, Table 07-19 of file 07 -/

/-- [0:0] RW, reset 0. 1: tasks are armed at meridians. 0: from the next meridian nothing is armed. -/
def Fld.TSK_CTRL.RUN : Field := ⟨182, 0x0E000, 0x0, 1, .none, 0, 1, .rw⟩

/-! ### TSK_STATUS at 0x0E004, Table 07-19 of file 07 -/

/-- [28:16] RO, reset 0. Tasks enabled. -/
def Fld.TSK_STATUS.ENABLED : Field := ⟨183, 0x0E004, 0x0, 1, .none, 16, 13, .ro⟩
/-- [12:0] RO, reset 0. Tasks ready and waiting. -/
def Fld.TSK_STATUS.READY : Field := ⟨184, 0x0E004, 0x0, 1, .none, 0, 13, .ro⟩

/-! ### TSK_EVENT at 0x0E008, Table 07-19 of file 07 -/

/-- [5:5] W1C, reset 0. A TSK_CMD was refused. -/
def Fld.TSK_EVENT.CMD_REFUSED : Field := ⟨185, 0x0E008, 0x0, 1, .none, 5, 1, .w1c⟩
/-- [4:4] W1C, reset 0. Under R243. -/
def Fld.TSK_EVENT.OVERHOLD : Field := ⟨186, 0x0E008, 0x0, 1, .none, 4, 1, .w1c⟩
/-- [3:3] W1C, reset 0. An event counted in EXTRA_CNT. -/
def Fld.TSK_EVENT.EXTRA : Field := ⟨187, 0x0E008, 0x0, 1, .none, 3, 1, .w1c⟩
/-- [2:2] W1C, reset 0. Under R245. -/
def Fld.TSK_EVENT.SKIPPED : Field := ⟨188, 0x0E008, 0x0, 1, .none, 2, 1, .w1c⟩
/-- [1:1] W1C, reset 0. Under R228. -/
def Fld.TSK_EVENT.TRAP : Field := ⟨189, 0x0E008, 0x0, 1, .none, 1, 1, .w1c⟩
/-- [0:0] W1C, reset 0. A task was marked LATE. -/
def Fld.TSK_EVENT.LATE : Field := ⟨190, 0x0E008, 0x0, 1, .none, 0, 1, .w1c⟩

/-! ### TSK_INDEX at 0x0E00C, Table 07-19 of file 07 -/

/-- [11:0] RW, reset 0. Task addressed by TSK_DESC, TSK_CMD and TSK_STATE. -/
def Fld.TSK_INDEX.INDEX : Field := ⟨191, 0x0E00C, 0x0, 1, .none, 0, 12, .rw⟩

/-! ### TSK_LATE_TOTAL at 0x0E050, Table 07-19 of file 07 -/

/-- [31:0] RC, reset 0. LATE markings of all tasks, saturating. -/
def Fld.TSK_LATE_TOTAL.COUNT : Field := ⟨192, 0x0E050, 0x0, 1, .none, 0, 32, .rc⟩

/-! ### TSK_DESC at 0x0E010, Table 07-20 of file 07 -/

/-- [31:0] RW, reset 0. Read: word k of descriptor INDEX. A read of k = 0 takes a snapshot of all eight words. Write: stages word k for WRITE. -/
def Fld.TSK_DESC.DATA : Field := ⟨193, 0x0E010, 0x4, 8, .none, 0, 32, .rw⟩

/-! ### TSK_CMD at 0x0E030, Table 07-20 of file 07 -/

/-- [4:4] WO, reset 0. Decrements the counter of task INDEX under R234. -/
def Fld.TSK_CMD.KICK : Field := ⟨194, 0x0E030, 0x0, 1, .none, 4, 1, .wo⟩
/-- [3:3] WO, reset 0. Zeroes words 1–3 of the task's state record. -/
def Fld.TSK_CMD.CLEAR_STATS : Field := ⟨195, 0x0E030, 0x0, 1, .none, 3, 1, .wo⟩
/-- [2:2] WO, reset 0. Under R232. -/
def Fld.TSK_CMD.DISABLE : Field := ⟨196, 0x0E030, 0x0, 1, .none, 2, 1, .wo⟩
/-- [1:1] WO, reset 0. Under R232. -/
def Fld.TSK_CMD.ENABLE : Field := ⟨197, 0x0E030, 0x0, 1, .none, 1, 1, .wo⟩
/-- [0:0] WO, reset 0. Under R232. -/
def Fld.TSK_CMD.WRITE : Field := ⟨198, 0x0E030, 0x0, 1, .none, 0, 1, .wo⟩

/-! ### TSK_CMD_STATUS at 0x0E034, Table 07-20 of file 07 -/

/-- [2:2] W1C, reset 0. The last command was applied. -/
def Fld.TSK_CMD_STATUS.DONE : Field := ⟨199, 0x0E034, 0x0, 1, .none, 2, 1, .w1c⟩
/-- [1:1] W1C, reset 0. The last command was refused. -/
def Fld.TSK_CMD_STATUS.REFUSED : Field := ⟨200, 0x0E034, 0x0, 1, .none, 1, 1, .w1c⟩
/-- [0:0] RO, reset 0. A command is in progress; a command written while BUSY is refused. -/
def Fld.TSK_CMD_STATUS.BUSY : Field := ⟨201, 0x0E034, 0x0, 1, .none, 0, 1, .ro⟩

/-! ### TSK_STATE at 0x0E040, Table 07-20 of file 07 -/

/-- [31:0] RO, reset 0. Word k of the state record of Table 07-21 for task INDEX. A read of k = 0 takes a snapshot. -/
def Fld.TSK_STATE.DATA : Field := ⟨202, 0x0E040, 0x4, 4, .none, 0, 32, .ro⟩

/-! ### TSK_SEM_CFG at 0x0E100, Table 07-22 of file 07 -/

/-- [31:31] RW, reset 0. Under R243. -/
def Fld.TSK_SEM_CFG.NOPREEMPT : Field := ⟨203, 0x0E100, 0x4, 64, .none, 31, 1, .rw⟩
/-- [30:30] RW, reset 0. Tasks of any owner may use the semaphore. -/
def Fld.TSK_SEM_CFG.SHARED : Field := ⟨204, 0x0E100, 0x4, 64, .none, 30, 1, .rw⟩
/-- [27:16] RW, reset 0. Instance whose tasks may use it. -/
def Fld.TSK_SEM_CFG.OWNER : Field := ⟨205, 0x0E100, 0x4, 64, .none, 16, 12, .rw⟩
/-- [15:0] RW, reset 0. In units of 16 helm cycles; 0 means no limit. -/
def Fld.TSK_SEM_CFG.HOLD_LIMIT : Field := ⟨206, 0x0E100, 0x4, 64, .none, 0, 16, .rw⟩

/-! ### TSK_SEM_STATE at 0x0E200, Table 07-22 of file 07 -/

/-- [31:31] RO, reset 0. The semaphore is taken. -/
def Fld.TSK_SEM_STATE.HELD : Field := ⟨207, 0x0E200, 0x4, 64, .none, 31, 1, .ro⟩
/-- [30:30] RO, reset 0. The holder is a task. -/
def Fld.TSK_SEM_STATE.BY_TASK : Field := ⟨208, 0x0E200, 0x4, 64, .none, 30, 1, .ro⟩
/-- [24:20] RO, reset 0. Physical helm of the holder. -/
def Fld.TSK_SEM_STATE.HELM : Field := ⟨209, 0x0E200, 0x4, 64, .none, 20, 5, .ro⟩
/-- [11:0] RO, reset 0. Holding task, when BY_TASK is 1. -/
def Fld.TSK_SEM_STATE.TASK : Field := ⟨210, 0x0E200, 0x4, 64, .none, 0, 12, .ro⟩

/-! ### DMA_CTRL at 0x10000, Table 08-10 of file 08 -/

/-- [15:0] RW, reset 64. Starvation guard of R267; 0 turns it off. -/
def Fld.DMA_CTRL.AGE_US : Field := ⟨211, 0x10000, 0x0, 1, .none, 0, 16, .rw⟩

/-! ### DMA_STATUS at 0x10004, Table 08-10 of file 08 -/

/-- [24:16] RO, reset 0. Staging in use, in KiB, rounded up. -/
def Fld.DMA_STATUS.STAGE_KIB : Field := ⟨212, 0x10004, 0x0, 1, .none, 16, 9, .ro⟩
/-- [9:0] RO, reset 0. Non-posted requests outstanding, 0–512. -/
def Fld.DMA_STATUS.NP_USED : Field := ⟨213, 0x10004, 0x0, 1, .none, 0, 10, .ro⟩

/-! ### DMA_EVENT at 0x10008, Table 08-10 of file 08 -/

/-- [4:4] W1C, reset 0. A requester waited for staging. -/
def Fld.DMA_EVENT.STAGE_STALL : Field := ⟨214, 0x10008, 0x0, 1, .none, 4, 1, .w1c⟩
/-- [3:3] W1C, reset 0. A requester waited under R266. -/
def Fld.DMA_EVENT.NP_STALL : Field := ⟨215, 0x10008, 0x0, 1, .none, 3, 1, .w1c⟩
/-- [2:2] W1C, reset 0. A channel entered ERROR. -/
def Fld.DMA_EVENT.CH_FAULT : Field := ⟨216, 0x10008, 0x0, 1, .none, 2, 1, .w1c⟩
/-- [1:1] W1C, reset 0. A page missed its latch point. -/
def Fld.DMA_EVENT.PI_LATE : Field := ⟨217, 0x10008, 0x0, 1, .none, 1, 1, .w1c⟩
/-- [0:0] W1C, reset 0. Under R264. -/
def Fld.DMA_EVENT.PI_FAULT : Field := ⟨218, 0x10008, 0x0, 1, .none, 0, 1, .w1c⟩

/-! ### DMA_STALL_CNT at 0x1000C, Table 08-10 of file 08 -/

/-- [31:16] RC, reset 0. Waits under R266, saturating. -/
def Fld.DMA_STALL_CNT.NP : Field := ⟨219, 0x1000C, 0x0, 1, .none, 16, 16, .rc⟩
/-- [15:0] RC, reset 0. Waits under R265, saturating. -/
def Fld.DMA_STALL_CNT.STAGE : Field := ⟨220, 0x1000C, 0x0, 1, .none, 0, 16, .rc⟩

/-! ### DMA_PI_INDEX at 0x10100, Table 08-11 of file 08 -/

/-- [11:0] RW, reset 0. Instance addressed by 0x10104–0x10120. -/
def Fld.DMA_PI_INDEX.INSTANCE : Field := ⟨221, 0x10100, 0x0, 1, .none, 0, 12, .rw⟩

/-! ### DMA_PI_BASE_LO at 0x10104, Table 08-11 of file 08 -/

/-- [31:12] RW, reset 0. Page-set base [31:12], a multiple of S. -/
def Fld.DMA_PI_BASE_LO.BASE_LO : Field := ⟨222, 0x10104, 0x0, 1, .pi, 12, 20, .rw⟩

/-! ### DMA_PI_BASE_HI at 0x10108, Table 08-11 of file 08 -/

/-- [31:0] RW, reset 0. Page-set base [63:32]. -/
def Fld.DMA_PI_BASE_HI.BASE_HI : Field := ⟨223, 0x10108, 0x0, 1, .pi, 0, 32, .rw⟩

/-! ### DMA_PI_CFG at 0x1010C, Table 08-11 of file 08 -/

/-- [22:8] RW, reset 0. Under R256; 0 turns the half cause off. -/
def Fld.DMA_PI_CFG.HALF_SLOT : Field := ⟨224, 0x1010C, 0x0, 1, .pi, 8, 15, .rw⟩
/-- [7:4] RW, reset 0. Page size 4 KiB × 2^SIZE; 12–15 act as 11. -/
def Fld.DMA_PI_CFG.SIZE : Field := ⟨225, 0x1010C, 0x0, 1, .pi, 4, 4, .rw⟩
/-- [0:0] RW, reset 0. Under R263. -/
def Fld.DMA_PI_CFG.ENABLE : Field := ⟨226, 0x1010C, 0x0, 1, .pi, 0, 1, .rw⟩

/-! ### DMA_PI_PASID at 0x10110, Table 08-11 of file 08 -/

/-- [31:31] RW, reset 0. Use PASID on page accesses. -/
def Fld.DMA_PI_PASID.PASID_EN : Field := ⟨227, 0x10110, 0x0, 1, .pi, 31, 1, .rw⟩
/-- [19:0] RW, reset 0. PASID value. -/
def Fld.DMA_PI_PASID.PASID : Field := ⟨228, 0x10110, 0x0, 1, .pi, 0, 20, .rw⟩

/-! ### DMA_PI_STATUS at 0x10114, Table 08-12 of file 08 -/

/-- [6:6] W1C, reset 0. Under R264. -/
def Fld.DMA_PI_STATUS.WRITE_FAULT : Field := ⟨229, 0x10114, 0x0, 1, .pi, 6, 1, .w1c⟩
/-- [5:5] W1C, reset 0. A STAMP read did not return n+2. -/
def Fld.DMA_PI_STATUS.STAMP_MISS : Field := ⟨230, 0x10114, 0x0, 1, .pi, 5, 1, .w1c⟩
/-- [4:4] W1C, reset 0. Under R253. -/
def Fld.DMA_PI_STATUS.UNMAPPED : Field := ⟨231, 0x10114, 0x0, 1, .pi, 4, 1, .w1c⟩
/-- [3:3] W1C, reset 0. Under R262 and R263. -/
def Fld.DMA_PI_STATUS.CFG_REFUSED : Field := ⟨232, 0x10114, 0x0, 1, .pi, 3, 1, .w1c⟩
/-- [2:2] W1C, reset 0. A page missed its latch point. -/
def Fld.DMA_PI_STATUS.LATE : Field := ⟨233, 0x10114, 0x0, 1, .pi, 2, 1, .w1c⟩
/-- [1:1] W1C, reset 0. Under R264. -/
def Fld.DMA_PI_STATUS.READ_FAULT : Field := ⟨234, 0x10114, 0x0, 1, .pi, 1, 1, .w1c⟩
/-- [0:0] RO, reset 0. The process image is enabled in the current tick. -/
def Fld.DMA_PI_STATUS.ACTIVE : Field := ⟨235, 0x10114, 0x0, 1, .pi, 0, 1, .ro⟩

/-! ### DMA_PI_MISS_CNT at 0x10118, Table 08-12 of file 08 -/

/-- [31:0] RC, reset 0. Pages unsupplied by stamp, saturating. -/
def Fld.DMA_PI_MISS_CNT.COUNT : Field := ⟨236, 0x10118, 0x0, 1, .pi, 0, 32, .rc⟩

/-! ### DMA_PI_LATE_CNT at 0x1011C, Table 08-12 of file 08 -/

/-- [31:0] RC, reset 0. Pages unsupplied by time, saturating. -/
def Fld.DMA_PI_LATE_CNT.COUNT : Field := ⟨237, 0x1011C, 0x0, 1, .pi, 0, 32, .rc⟩

/-! ### DMA_PI_FAULT_CNT at 0x10120, Table 08-12 of file 08 -/

/-- [31:0] RC, reset 0. Pages unsupplied by fault, saturating. -/
def Fld.DMA_PI_FAULT_CNT.COUNT : Field := ⟨238, 0x10120, 0x0, 1, .pi, 0, 32, .rc⟩

/-! ### DMA_ROUTE_INDEX at 0x10200, Table 08-13 of file 08 -/

/-- [5:0] RW, reset 0. Route addressed by 0x10204–0x1020C. -/
def Fld.DMA_ROUTE_INDEX.ROUTE : Field := ⟨239, 0x10200, 0x0, 1, .none, 0, 6, .rw⟩

/-! ### DMA_ROUTE_SRC at 0x10204, Table 08-13 of file 08 -/

/-- [31:20] RW, reset 0. Instance whose outbound pages are read. -/
def Fld.DMA_ROUTE_SRC.OWNER : Field := ⟨240, 0x10204, 0x0, 1, .route, 20, 12, .rw⟩
/-- [19:0] RW, reset 0. Source offset in 8-byte units. -/
def Fld.DMA_ROUTE_SRC.OFFSET : Field := ⟨241, 0x10204, 0x0, 1, .route, 0, 20, .rw⟩

/-! ### DMA_ROUTE_DST at 0x10208, Table 08-13 of file 08 -/

/-- [31:16] RW, reset 0. DTCM byte offset for odd ticks, a multiple of 8. -/
def Fld.DMA_ROUTE_DST.BUF1 : Field := ⟨242, 0x10208, 0x0, 1, .route, 16, 16, .rw⟩
/-- [15:0] RW, reset 0. DTCM byte offset for even ticks, a multiple of 8. -/
def Fld.DMA_ROUTE_DST.BUF0 : Field := ⟨243, 0x10208, 0x0, 1, .route, 0, 16, .rw⟩

/-! ### DMA_ROUTE_CFG at 0x1020C, Table 08-13 of file 08 -/

/-- [31:31] RW, reset 0. The route runs under R261. -/
def Fld.DMA_ROUTE_CFG.ENABLE : Field := ⟨244, 0x1020C, 0x0, 1, .route, 31, 1, .rw⟩
/-- [19:16] RW, reset 0. Logical helm. -/
def Fld.DMA_ROUTE_CFG.HELM : Field := ⟨245, 0x1020C, 0x0, 1, .route, 16, 4, .rw⟩
/-- [12:0] RW, reset 8. Bytes, 8–4,096. -/
def Fld.DMA_ROUTE_CFG.LENGTH : Field := ⟨246, 0x1020C, 0x0, 1, .route, 0, 13, .rw⟩

/-! ### DMA_CH_CTRL at 0x11000, Table 08-14 of file 08 -/

/-- [3:3] WO, reset 0. Under R277. -/
def Fld.DMA_CH_CTRL.ABORT : Field := ⟨247, 0x11000, 0x40, 68, .none, 3, 1, .wo⟩
/-- [2:2] WO, reset 0. Under R273. -/
def Fld.DMA_CH_CTRL.RESUME : Field := ⟨248, 0x11000, 0x40, 68, .none, 2, 1, .wo⟩
/-- [1:1] WO, reset 0. Under R273. -/
def Fld.DMA_CH_CTRL.START : Field := ⟨249, 0x11000, 0x40, 68, .none, 1, 1, .wo⟩
/-- [0:0] RW, reset 0. Under R270. -/
def Fld.DMA_CH_CTRL.ENABLE : Field := ⟨250, 0x11000, 0x40, 68, .none, 0, 1, .rw⟩

/-! ### DMA_CH_CFG at 0x11004, Table 08-14 of file 08 -/

/-- [31:20] RW, reset 0. Owning instance. -/
def Fld.DMA_CH_CFG.OWNER : Field := ⟨251, 0x11004, 0x40, 68, .none, 20, 12, .rw⟩
/-- [19:18] RW, reset 0. Priority class, 0–3. -/
def Fld.DMA_CH_CFG.CLASS : Field := ⟨252, 0x11004, 0x40, 68, .none, 18, 2, .rw⟩

/-! ### DMA_CH_STATUS at 0x11008, Table 08-15 of file 08 -/

/-- [31:28] RO, reset 0. 0 OFF, 1 ENABLING, 2 ON, 3 DISABLING, 4 ERROR. -/
def Fld.DMA_CH_STATUS.FUNC_STATE : Field := ⟨253, 0x11008, 0x40, 68, .none, 28, 4, .ro⟩
/-- [27:27] RO, reset 0. Under R270. -/
def Fld.DMA_CH_STATUS.PENDING_ENABLE : Field := ⟨254, 0x11008, 0x40, 68, .none, 27, 1, .ro⟩
/-- [26:26] RO, reset 0. A chain is in progress. -/
def Fld.DMA_CH_STATUS.RUNNING : Field := ⟨255, 0x11008, 0x40, 68, .none, 26, 1, .ro⟩
/-- [25:25] RO, reset 0. The last chain stopped under R275; cleared by START. -/
def Fld.DMA_CH_STATUS.CHAIN_LIMIT : Field := ⟨256, 0x11008, 0x40, 68, .none, 25, 1, .ro⟩
/-- [23:16] RO, reset 0. Status of the last descriptor written back. -/
def Fld.DMA_CH_STATUS.LAST_STATUS : Field := ⟨257, 0x11008, 0x40, 68, .none, 16, 8, .ro⟩
/-- [10:8] RO, reset 0. Bursts in flight, 0–4. -/
def Fld.DMA_CH_STATUS.IN_FLIGHT : Field := ⟨258, 0x11008, 0x40, 68, .none, 8, 3, .ro⟩
/-- [6:0] RO, reset c for c = 0–63; 127 for c = 64–67. Logical channel; 127 for a spare not in use; 126 for a channel retired under R495. -/
def Fld.DMA_CH_STATUS.LOGICAL : Field := ⟨259, 0x11008, 0x40, 68, .none, 0, 7, .ro⟩

/-! ### DMA_CH_EVENT at 0x1100C, Table 08-15 of file 08 -/

/-- [7:7] W1C, reset 0. The channel reached ON. -/
def Fld.DMA_CH_EVENT.ENABLED : Field := ⟨260, 0x1100C, 0x40, 68, .none, 7, 1, .w1c⟩
/-- [6:6] W1C, reset 0. Under R271. -/
def Fld.DMA_CH_EVENT.CFG_REFUSED : Field := ⟨261, 0x1100C, 0x40, 68, .none, 6, 1, .w1c⟩
/-- [5:5] W1C, reset 0. Under R275. -/
def Fld.DMA_CH_EVENT.CHAIN_LIMIT : Field := ⟨262, 0x1100C, 0x40, 68, .none, 5, 1, .w1c⟩
/-- [4:4] W1C, reset 0. Under R278. -/
def Fld.DMA_CH_EVENT.FAULT : Field := ⟨263, 0x1100C, 0x40, 68, .none, 4, 1, .w1c⟩
/-- [3:3] W1C, reset 0. BAD_ENTRY or BAD_FRAGMENT under R274. -/
def Fld.DMA_CH_EVENT.BAD_DESC : Field := ⟨264, 0x1100C, 0x40, 68, .none, 3, 1, .w1c⟩
/-- [2:2] W1C, reset 0. Under R277. -/
def Fld.DMA_CH_EVENT.ABORTED : Field := ⟨265, 0x1100C, 0x40, 68, .none, 2, 1, .w1c⟩
/-- [1:1] W1C, reset 0. Under R276. -/
def Fld.DMA_CH_EVENT.CHAIN_END : Field := ⟨266, 0x1100C, 0x40, 68, .none, 1, 1, .w1c⟩
/-- [0:0] W1C, reset 0. Under R276. -/
def Fld.DMA_CH_EVENT.DESC_DONE : Field := ⟨267, 0x1100C, 0x40, 68, .none, 0, 1, .w1c⟩

/-! ### DMA_CH_HEAD_LO at 0x11010, Table 08-16 of file 08 -/

/-- [31:5] RW, reset 0. First descriptor [31:5]. -/
def Fld.DMA_CH_HEAD_LO.HEAD_LO : Field := ⟨268, 0x11010, 0x40, 68, .none, 5, 27, .rw⟩

/-! ### DMA_CH_HEAD_HI at 0x11014, Table 08-16 of file 08 -/

/-- [31:0] RW, reset 0. First descriptor [63:32]. -/
def Fld.DMA_CH_HEAD_HI.HEAD_HI : Field := ⟨269, 0x11014, 0x40, 68, .none, 0, 32, .rw⟩

/-! ### DMA_CH_CUR_LO at 0x11018, Table 08-16 of file 08 -/

/-- [31:0] RO, reset 0. Descriptor in progress or last handled [31:0]. -/
def Fld.DMA_CH_CUR_LO.CUR_LO : Field := ⟨270, 0x11018, 0x40, 68, .none, 0, 32, .ro⟩

/-! ### DMA_CH_CUR_HI at 0x1101C, Table 08-16 of file 08 -/

/-- [31:0] RO, reset 0. The same, [63:32]. -/
def Fld.DMA_CH_CUR_HI.CUR_HI : Field := ⟨271, 0x1101C, 0x40, 68, .none, 0, 32, .ro⟩

/-! ### DMA_CH_RESIDUE at 0x11020, Table 08-16 of file 08 -/

/-- [23:0] RO, reset 0. Residue of the last write-back. -/
def Fld.DMA_CH_RESIDUE.RESIDUE : Field := ⟨272, 0x11020, 0x40, 68, .none, 0, 24, .ro⟩

/-! ### DMA_CH_CHAIN_LIMIT at 0x11024, Table 08-16 of file 08 -/

/-- [24:0] RW, reset 65,536. 1 to 16,777,216 under R275. -/
def Fld.DMA_CH_CHAIN_LIMIT.LIMIT : Field := ⟨273, 0x11024, 0x40, 68, .none, 0, 25, .rw⟩

/-! ### DMA_CH_WIN_BASE at 0x11028, Table 08-16 of file 08 -/

/-- [31:0] RW, reset 0. First device address the channel may reach. -/
def Fld.DMA_CH_WIN_BASE.BASE : Field := ⟨274, 0x11028, 0x40, 68, .none, 0, 32, .rw⟩

/-! ### DMA_CH_WIN_LIMIT at 0x1102C, Table 08-16 of file 08 -/

/-- [31:0] RW, reset 0. First device address beyond the window; BASE = LIMIT is empty. -/
def Fld.DMA_CH_WIN_LIMIT.LIMIT : Field := ⟨275, 0x1102C, 0x40, 68, .none, 0, 32, .rw⟩

/-! ### DMA_CH_PASID at 0x11030, Table 08-16 of file 08 -/

/-- [31:31] RW, reset 0. Use PASID. -/
def Fld.DMA_CH_PASID.PASID_EN : Field := ⟨276, 0x11030, 0x40, 68, .none, 31, 1, .rw⟩
/-- [19:0] RW, reset 0. PASID value. -/
def Fld.DMA_CH_PASID.PASID : Field := ⟨277, 0x11030, 0x40, 68, .none, 0, 20, .rw⟩

/-! ### DMA_CH_COUNT at 0x11034, Table 08-16 of file 08 -/

/-- [24:0] RO, reset 0. Descriptors fetched under R275, saturating. -/
def Fld.DMA_CH_COUNT.FETCHED : Field := ⟨278, 0x11034, 0x40, 68, .none, 0, 25, .ro⟩

/-! ### QM_CTRL at 0x14000, Table 09-12 of file 09 -/

/-- [0:0] RW, reset 1. 0: no SQ is fetched. Doorbells are still checked. -/
def Fld.QM_CTRL.FETCH_EN : Field := ⟨279, 0x14000, 0x0, 1, .none, 0, 1, .rw⟩

/-! ### QM_STATUS at 0x14004, Table 09-12 of file 09 -/

/-- [31:31] RO, reset 0. An invalidation under R296 is in progress. -/
def Fld.QM_STATUS.INVAL_BUSY : Field := ⟨280, 0x14004, 0x0, 1, .none, 31, 1, .ro⟩
/-- [13:0] RO, reset 0. Entries in the holding store, 0–8,192. -/
def Fld.QM_STATUS.HELD : Field := ⟨281, 0x14004, 0x0, 1, .none, 0, 14, .ro⟩

/-! ### QM_EVENT at 0x14008, Table 09-12 of file 09 -/

/-- [7:7] W1C, reset 0. Under R303 and R314. -/
def Fld.QM_EVENT.CFG_REFUSED : Field := ⟨282, 0x14008, 0x0, 1, .none, 7, 1, .w1c⟩
/-- [6:6] W1C, reset 0. Under R286. -/
def Fld.QM_EVENT.STRAY_DOORBELL : Field := ⟨283, 0x14008, 0x0, 1, .none, 6, 1, .w1c⟩
/-- [5:5] W1C, reset 0. The device holding store was full. -/
def Fld.QM_EVENT.HOLD_FULL : Field := ⟨284, 0x14008, 0x0, 1, .none, 5, 1, .w1c⟩
/-- [4:4] W1C, reset 0. An instance entered OVER_SHARE. -/
def Fld.QM_EVENT.OVER_SHARE : Field := ⟨285, 0x14008, 0x0, 1, .none, 4, 1, .w1c⟩
/-- [3:3] W1C, reset 0. A CQ entered BACKPRESSURE. -/
def Fld.QM_EVENT.BACKPRESSURE : Field := ⟨286, 0x14008, 0x0, 1, .none, 3, 1, .w1c⟩
/-- [2:2] W1C, reset 0. A CQ entered ERROR. -/
def Fld.QM_EVENT.CQ_ERROR : Field := ⟨287, 0x14008, 0x0, 1, .none, 2, 1, .w1c⟩
/-- [1:1] W1C, reset 0. An SQ entered ERROR. -/
def Fld.QM_EVENT.SQ_ERROR : Field := ⟨288, 0x14008, 0x0, 1, .none, 1, 1, .w1c⟩
/-- [0:0] W1C, reset 0. An event was counted under R293. -/
def Fld.QM_EVENT.EVENT_OVERFLOW : Field := ⟨289, 0x14008, 0x0, 1, .none, 0, 1, .w1c⟩

/-! ### QM_TAGS at 0x1400C, Table 09-12 of file 09 -/

/-- [16:0] RO, reset 0. Transfer tags in use, 0–65,536. -/
def Fld.QM_TAGS.USED : Field := ⟨290, 0x1400C, 0x0, 1, .none, 0, 17, .ro⟩

/-! ### QM_TAG_STALL at 0x14010, Table 09-12 of file 09 -/

/-- [31:0] RC, reset 0. Pauses at bound k of R299, saturating. -/
def Fld.QM_TAG_STALL.COUNT : Field := ⟨291, 0x14010, 0x4, 4, .none, 0, 32, .rc⟩

/-! ### QM_CACHE_INVAL at 0x14020, Table 09-12 of file 09 -/

/-- [12:12] WO, reset 0. Invalidates the fragment cache of every instance. -/
def Fld.QM_CACHE_INVAL.ALL : Field := ⟨292, 0x14020, 0x0, 1, .none, 12, 1, .wo⟩
/-- [11:0] WO, reset 0. Invalidates the fragment cache of this instance when ALL is 0. -/
def Fld.QM_CACHE_INVAL.INSTANCE : Field := ⟨293, 0x14020, 0x0, 1, .none, 0, 12, .wo⟩

/-! ### QM_INS_INDEX at 0x14024, Table 09-13 of file 09 -/

/-- [11:0] RW, reset 0. Instance addressed by QM_INS_STATUS. -/
def Fld.QM_INS_INDEX.INSTANCE : Field := ⟨294, 0x14024, 0x0, 1, .none, 0, 12, .rw⟩

/-! ### QM_INS_STATUS at 0x14028, Table 09-13 of file 09 -/

/-- [31:31] RO, reset 0. Under R300. -/
def Fld.QM_INS_STATUS.OVER_SHARE : Field := ⟨295, 0x14028, 0x0, 1, .qmIns, 31, 1, .ro⟩
/-- [30:30] RO, reset 1. No command outstanding and nothing held, as in R310. -/
def Fld.QM_INS_STATUS.IDLE : Field := ⟨296, 0x14028, 0x0, 1, .qmIns, 30, 1, .ro⟩
/-- [16:0] RO, reset 0. Tags held by the instance. -/
def Fld.QM_INS_STATUS.TAGS_USED : Field := ⟨297, 0x14028, 0x0, 1, .qmIns, 0, 17, .ro⟩

/-! ### QM_SQ_INDEX at 0x14030, Table 09-14 of file 09 -/

/-- [13:0] RW, reset 0. Global SQ context. -/
def Fld.QM_SQ_INDEX.SQ : Field := ⟨298, 0x14030, 0x0, 1, .none, 0, 14, .rw⟩

/-! ### QM_SQ_CTRL at 0x14034, Table 09-14 of file 09 -/

/-- [1:1] RW, reset 0. Fetch mode under R295: 0 EXACT, 1 CACHED. -/
def Fld.QM_SQ_CTRL.CACHED : Field := ⟨299, 0x14034, 0x0, 1, .sq, 1, 1, .rw⟩
/-- [0:0] RW, reset 0. Under R303. -/
def Fld.QM_SQ_CTRL.ENABLE : Field := ⟨300, 0x14034, 0x0, 1, .sq, 0, 1, .rw⟩

/-! ### QM_SQ_CFG at 0x14038, Table 09-14 of file 09 -/

/-- [31:20] RW, reset 0. Owning instance. -/
def Fld.QM_SQ_CFG.OWNER : Field := ⟨301, 0x14038, 0x0, 1, .sq, 20, 12, .rw⟩
/-- [19:12] RW, reset 0. The instance's SQ number. -/
def Fld.QM_SQ_CFG.Q : Field := ⟨302, 0x14038, 0x0, 1, .sq, 12, 8, .rw⟩
/-- [11:4] RW, reset 0. Bound CQ, by the instance's number. Q 0 requires 0. -/
def Fld.QM_SQ_CFG.CQ : Field := ⟨303, 0x14038, 0x0, 1, .sq, 4, 8, .rw⟩
/-- [3:0] RW, reset 4. 4–15; 0–3 act as 4. -/
def Fld.QM_SQ_CFG.SIZE_LOG : Field := ⟨304, 0x14038, 0x0, 1, .sq, 0, 4, .rw⟩

/-! ### QM_SQ_BASE_LO at 0x1403C, Table 09-14 of file 09 -/

/-- [31:12] RW, reset 0. Ring base [31:12]. -/
def Fld.QM_SQ_BASE_LO.BASE_LO : Field := ⟨305, 0x1403C, 0x0, 1, .sq, 12, 20, .rw⟩

/-! ### QM_SQ_BASE_HI at 0x14040, Table 09-14 of file 09 -/

/-- [31:0] RW, reset 0. Ring base [63:32]. -/
def Fld.QM_SQ_BASE_HI.BASE_HI : Field := ⟨306, 0x14040, 0x0, 1, .sq, 0, 32, .rw⟩

/-! ### QM_SQ_STATUS at 0x14044, Table 09-15 of file 09 -/

/-- [31:28] RO, reset 0. 0 OFF, 1 ENABLING, 2 ON, 3 DISABLING, 4 ERROR. -/
def Fld.QM_SQ_STATUS.FUNC_STATE : Field := ⟨307, 0x14044, 0x0, 1, .sq, 28, 4, .ro⟩
/-- [27:27] RO, reset 0. Under R303. -/
def Fld.QM_SQ_STATUS.PENDING_ENABLE : Field := ⟨308, 0x14044, 0x0, 1, .sq, 27, 1, .ro⟩
/-- [26:24] RO, reset 0. 0 none, 1 DOORBELL, 2 FETCH_FAULT. -/
def Fld.QM_SQ_STATUS.ERR_KIND : Field := ⟨309, 0x14044, 0x0, 1, .sq, 24, 3, .ro⟩
/-- [22:20] RO, reset 0. 0 none, 1 POOL, 2 SHARE, 3 SQ_LIMIT, 4 CQ, 5 CRIT_HALF. -/
def Fld.QM_SQ_STATUS.PAUSE : Field := ⟨310, 0x14044, 0x0, 1, .sq, 20, 3, .ro⟩
/-- [8:0] RO, reset 0. Commands outstanding, 0–256. -/
def Fld.QM_SQ_STATUS.OUTSTANDING : Field := ⟨311, 0x14044, 0x0, 1, .sq, 0, 9, .ro⟩

/-! ### QM_SQ_INDICES at 0x14048, Table 09-15 of file 09 -/

/-- [31:16] RO, reset 0. Current tail. -/
def Fld.QM_SQ_INDICES.TAIL : Field := ⟨312, 0x14048, 0x0, 1, .sq, 16, 16, .ro⟩
/-- [15:0] RO, reset 0. Current head. -/
def Fld.QM_SQ_INDICES.HEAD : Field := ⟨313, 0x14048, 0x0, 1, .sq, 0, 16, .ro⟩

/-! ### QM_SQ_ERR at 0x1404C, Table 09-15 of file 09 -/

/-- [15:0] RO, reset 0. Doorbell value or entry index latched under R287 or R305. -/
def Fld.QM_SQ_ERR.INDEX : Field := ⟨314, 0x1404C, 0x0, 1, .sq, 0, 16, .ro⟩

/-! ### QM_CQ_INDEX at 0x14060, Table 09-16 of file 09 -/

/-- [13:0] RW, reset 0. Global CQ context. -/
def Fld.QM_CQ_INDEX.CQ : Field := ⟨315, 0x14060, 0x0, 1, .none, 0, 14, .rw⟩

/-! ### QM_CQ_CTRL at 0x14064, Table 09-16 of file 09 -/

/-- [26:16] RW, reset 0. MSI-X vector of the owner's function, 0–2,047. -/
def Fld.QM_CQ_CTRL.VECTOR : Field := ⟨316, 0x14064, 0x0, 1, .cq, 16, 11, .rw⟩
/-- [1:1] RW, reset 0. Under R292. -/
def Fld.QM_CQ_CTRL.IRQ_EN : Field := ⟨317, 0x14064, 0x0, 1, .cq, 1, 1, .rw⟩
/-- [0:0] RW, reset 0. Under R303. -/
def Fld.QM_CQ_CTRL.ENABLE : Field := ⟨318, 0x14064, 0x0, 1, .cq, 0, 1, .rw⟩

/-! ### QM_CQ_CFG at 0x14068, Table 09-16 of file 09 -/

/-- [31:20] RW, reset 0. Owning instance. -/
def Fld.QM_CQ_CFG.OWNER : Field := ⟨319, 0x14068, 0x0, 1, .cq, 20, 12, .rw⟩
/-- [19:12] RW, reset 0. The instance's CQ number. -/
def Fld.QM_CQ_CFG.Q : Field := ⟨320, 0x14068, 0x0, 1, .cq, 12, 8, .rw⟩
/-- [3:0] RW, reset 4. 4–15; 0–3 act as 4. -/
def Fld.QM_CQ_CFG.SIZE_LOG : Field := ⟨321, 0x14068, 0x0, 1, .cq, 0, 4, .rw⟩

/-! ### QM_CQ_BASE_LO at 0x1406C, Table 09-16 of file 09 -/

/-- [31:12] RW, reset 0. Ring base [31:12]. -/
def Fld.QM_CQ_BASE_LO.BASE_LO : Field := ⟨322, 0x1406C, 0x0, 1, .cq, 12, 20, .rw⟩

/-! ### QM_CQ_BASE_HI at 0x14070, Table 09-16 of file 09 -/

/-- [31:0] RW, reset 0. Ring base [63:32]. -/
def Fld.QM_CQ_BASE_HI.BASE_HI : Field := ⟨323, 0x14070, 0x0, 1, .cq, 0, 32, .rw⟩

/-! ### QM_CQ_STATUS at 0x14074, Table 09-16 of file 09 -/

/-- [31:28] RO, reset 0. 0 OFF, 1 ENABLING, 2 ON, 3 DISABLING, 4 ERROR. -/
def Fld.QM_CQ_STATUS.FUNC_STATE : Field := ⟨324, 0x14074, 0x0, 1, .cq, 28, 4, .ro⟩
/-- [27:27] RO, reset 0. Under R303. -/
def Fld.QM_CQ_STATUS.PENDING_ENABLE : Field := ⟨325, 0x14074, 0x0, 1, .cq, 27, 1, .ro⟩
/-- [26:24] RO, reset 0. 0 none, 1 DOORBELL, 2 WRITE_FAULT. -/
def Fld.QM_CQ_STATUS.ERR_KIND : Field := ⟨326, 0x14074, 0x0, 1, .cq, 24, 3, .ro⟩
/-- [23:23] RO, reset 0. The ring holds S entries. -/
def Fld.QM_CQ_STATUS.FULL : Field := ⟨327, 0x14074, 0x0, 1, .cq, 23, 1, .ro⟩
/-- [22:22] RO, reset 0. Under R302. -/
def Fld.QM_CQ_STATUS.BACKPRESSURE : Field := ⟨328, 0x14074, 0x0, 1, .cq, 22, 1, .ro⟩
/-- [21:16] RO, reset 0. Entries in the holding store, 0–32. -/
def Fld.QM_CQ_STATUS.HELD : Field := ⟨329, 0x14074, 0x0, 1, .cq, 16, 6, .ro⟩
/-- [7:0] RO, reset 0. Entries discarded under R304; cleared when the CQ enters ENABLING. -/
def Fld.QM_CQ_STATUS.DISCARDED : Field := ⟨330, 0x14074, 0x0, 1, .cq, 0, 8, .ro⟩

/-! ### QM_CQ_INDICES at 0x14078, Table 09-16 of file 09 -/

/-- [31:16] RO, reset 0. Current tail. -/
def Fld.QM_CQ_INDICES.TAIL : Field := ⟨331, 0x14078, 0x0, 1, .cq, 16, 16, .ro⟩
/-- [15:0] RO, reset 0. Current head. -/
def Fld.QM_CQ_INDICES.HEAD : Field := ⟨332, 0x14078, 0x0, 1, .cq, 0, 16, .ro⟩

/-! ### QM_CQ_ERR at 0x1407C, Table 09-16 of file 09 -/

/-- [15:0] RO, reset 0. Doorbell value or entry index latched under R288 or R305. -/
def Fld.QM_CQ_ERR.INDEX : Field := ⟨333, 0x1407C, 0x0, 1, .cq, 0, 16, .ro⟩

/-! ### INS_INDEX at 0x18000, Table 10-8 of file 10 -/

/-- [11:0] RW, reset 0. Instance addressed by 0x18008–0x1803C, INS_SHARE_HOLD included. -/
def Fld.INS_INDEX.INSTANCE : Field := ⟨334, 0x18000, 0x0, 1, .none, 0, 12, .rw⟩

/-! ### INS_EVENT at 0x18004, Table 10-8 of file 10 -/

/-- [5:5] W1C, reset 0. Under R341. -/
def Fld.INS_EVENT.LOG_LOST : Field := ⟨335, 0x18004, 0x0, 1, .none, 5, 1, .w1c⟩
/-- [4:4] W1C, reset 0. Under R329 and R344. -/
def Fld.INS_EVENT.CFG_REFUSED : Field := ⟨336, 0x18004, 0x0, 1, .none, 4, 1, .w1c⟩
/-- [3:3] W1C, reset 0. Under R337. -/
def Fld.INS_EVENT.FLR_WIPED : Field := ⟨337, 0x18004, 0x0, 1, .none, 3, 1, .w1c⟩
/-- [2:2] W1C, reset 0. An instance was wiped under R335. -/
def Fld.INS_EVENT.WIPED : Field := ⟨338, 0x18004, 0x0, 1, .none, 2, 1, .w1c⟩
/-- [1:1] W1C, reset 0. An instance entered ERROR. -/
def Fld.INS_EVENT.ERROR : Field := ⟨339, 0x18004, 0x0, 1, .none, 1, 1, .w1c⟩
/-- [0:0] W1C, reset 0. An instance reached ON. -/
def Fld.INS_EVENT.ENABLED : Field := ⟨340, 0x18004, 0x0, 1, .none, 0, 1, .w1c⟩

/-! ### INS_CTRL at 0x18008, Table 10-8 of file 10 -/

/-- [2:2] WO, reset 0. Under R331; ignored when INS_INDEX names I0. -/
def Fld.INS_CTRL.FAIL : Field := ⟨341, 0x18008, 0x0, 1, .ins, 2, 1, .wo⟩
/-- [1:1] RW, reset 0. Under R333. -/
def Fld.INS_CTRL.HOLD : Field := ⟨342, 0x18008, 0x0, 1, .ins, 1, 1, .rw⟩
/-- [0:0] RW, reset 1 for I0, 0 others. Under R329. -/
def Fld.INS_CTRL.ENABLE : Field := ⟨343, 0x18008, 0x0, 1, .ins, 0, 1, .rw⟩

/-! ### INS_STATUS at 0x1800C, Table 10-9 of file 10 -/

/-- [31:28] RO, reset 2 for I0, 0 others. 0 OFF, 1 ENABLING, 2 ON, 3 DISABLING, 4 ERROR. -/
def Fld.INS_STATUS.FUNC_STATE : Field := ⟨344, 0x1800C, 0x0, 1, .ins, 28, 4, .ro⟩
/-- [27:27] RO, reset 0. Under R329. -/
def Fld.INS_STATUS.PENDING_ENABLE : Field := ⟨345, 0x1800C, 0x0, 1, .ins, 27, 1, .ro⟩
/-- [26:26] RO, reset 0. Under R333. -/
def Fld.INS_STATUS.QUIESCED : Field := ⟨346, 0x1800C, 0x0, 1, .ins, 26, 1, .ro⟩
/-- [25:25] RO, reset 0. HOLD is in force. -/
def Fld.INS_STATUS.HOLDING : Field := ⟨347, 0x1800C, 0x0, 1, .ins, 25, 1, .ro⟩
/-- [24:23] RO, reset 0. 0 none, 1 BUS_MASTER, 2 ADMIN_CQ, 3 MANAGER. -/
def Fld.INS_STATUS.ERR_CAUSE : Field := ⟨348, 0x1800C, 0x0, 1, .ins, 23, 2, .ro⟩
/-- [22:22] RO, reset 0. QM_INS_STATUS.OVER_SHARE. -/
def Fld.INS_STATUS.TAG_OVER : Field := ⟨349, 0x1800C, 0x0, 1, .ins, 22, 1, .ro⟩
/-- [21:21] RO, reset 0. Legs owned not below LEG_QUOTA. -/
def Fld.INS_STATUS.LEG_OVER : Field := ⟨350, 0x1800C, 0x0, 1, .ins, 21, 1, .ro⟩
/-- [20:20] RO, reset 0. Channels owned above CH_SHARE. -/
def Fld.INS_STATUS.CH_OVER : Field := ⟨351, 0x1800C, 0x0, 1, .ins, 20, 1, .ro⟩
/-- [19:19] RO, reset 0. Held entries at HOLD_MAX. -/
def Fld.INS_STATUS.HOLD_FULL : Field := ⟨352, 0x1800C, 0x0, 1, .ins, 19, 1, .ro⟩
/-- [5:5] RO, reset 0. A task of the instance is running or preempted. -/
def Fld.INS_STATUS.TASK_RUN : Field := ⟨353, 0x1800C, 0x0, 1, .ins, 5, 1, .ro⟩
/-- [4:4] RO, reset 0. The process image is active. -/
def Fld.INS_STATUS.PI_ACTIVE : Field := ⟨354, 0x1800C, 0x0, 1, .ins, 4, 1, .ro⟩
/-- [3:3] RO, reset 0. An owned channel is running. -/
def Fld.INS_STATUS.CH_BUSY : Field := ⟨355, 0x1800C, 0x0, 1, .ins, 3, 1, .ro⟩
/-- [2:2] RO, reset 0. Commands outstanding or entries held. -/
def Fld.INS_STATUS.BUSY : Field := ⟨356, 0x1800C, 0x0, 1, .ins, 2, 1, .ro⟩
/-- [1:1] RO, reset 0. An SQ of the instance is not OFF. -/
def Fld.INS_STATUS.SQ_ON : Field := ⟨357, 0x1800C, 0x0, 1, .ins, 1, 1, .ro⟩

/-! ### INS_BIND at 0x18010, Table 10-9 of file 10 -/

/-- [27:20] RW, reset 0. Table 10-1. -/
def Fld.INS_BIND.FUNCTION : Field := ⟨358, 0x18010, 0x0, 1, .ins, 20, 8, .rw⟩
/-- [11:0] RW, reset 0. Table 10-1. -/
def Fld.INS_BIND.SLOT : Field := ⟨359, 0x18010, 0x0, 1, .ins, 0, 12, .rw⟩

/-! ### INS_PASID at 0x18014, Table 10-9 of file 10 -/

/-- [31:31] RW, reset 0. Table 10-1. -/
def Fld.INS_PASID.PASID_EN : Field := ⟨360, 0x18014, 0x0, 1, .ins, 31, 1, .rw⟩
/-- [19:0] RW, reset 0. Table 10-1. -/
def Fld.INS_PASID.PASID : Field := ⟨361, 0x18014, 0x0, 1, .ins, 0, 20, .rw⟩

/-! ### INS_VEC at 0x18018, Table 10-9 of file 10 -/

/-- [27:16] RW, reset 64 for I0, 0 others. Table 10-1. -/
def Fld.INS_VEC.VEC_COUNT : Field := ⟨362, 0x18018, 0x0, 1, .ins, 16, 12, .rw⟩
/-- [10:0] RW, reset 0. Table 10-1. -/
def Fld.INS_VEC.VEC_BASE : Field := ⟨363, 0x18018, 0x0, 1, .ins, 0, 11, .rw⟩

/-! ### INS_SHARE_TAG at 0x1801C, Table 10-10 of file 10 -/

/-- [16:0] RW, reset 65,536 for I0, 0 others. Table 10-2; values above 65,536 act as 65,536. -/
def Fld.INS_SHARE_TAG.TAG_SHARE : Field := ⟨364, 0x1801C, 0x0, 1, .ins, 0, 17, .rw⟩

/-! ### INS_SHARE_LEG at 0x18020, Table 10-10 of file 10 -/

/-- [14:0] RW, reset 16,384 for I0, 0 others. Table 10-2; values above 16,384 act as 16,384. -/
def Fld.INS_SHARE_LEG.LEG_QUOTA : Field := ⟨365, 0x18020, 0x0, 1, .ins, 0, 15, .rw⟩

/-! ### INS_SHARE_CH at 0x18024, Table 10-10 of file 10 -/

/-- [22:16] RO, reset 0. Channels owned. -/
def Fld.INS_SHARE_CH.CH_OWNED : Field := ⟨366, 0x18024, 0x0, 1, .ins, 16, 7, .ro⟩
/-- [6:0] RW, reset 64 for I0, 0 others. Table 10-2; values above 64 act as 64. -/
def Fld.INS_SHARE_CH.CH_SHARE : Field := ⟨367, 0x18024, 0x0, 1, .ins, 0, 7, .rw⟩

/-! ### INS_SHARE_BW at 0x18028, Table 10-10 of file 10 -/

/-- [27:16] RW, reset 0. Table 10-2. -/
def Fld.INS_SHARE_BW.BULK_SLOTS : Field := ⟨368, 0x18028, 0x0, 1, .ins, 16, 12, .rw⟩
/-- [6:0] RW, reset 8. Table 10-2; 0 acts as 1, values above 64 act as 64. -/
def Fld.INS_SHARE_BW.FETCH_BURST : Field := ⟨369, 0x18028, 0x0, 1, .ins, 0, 7, .rw⟩

/-! ### INS_SHARE_HOLD at 0x1803C, Table 10-10 of file 10 -/

/-- [13:0] RW, reset 8,192 for I0, 256 others. Table 10-2; below 32 acts as 32, above 8,192 acts as 8,192. -/
def Fld.INS_SHARE_HOLD.HOLD_MAX : Field := ⟨370, 0x1803C, 0x0, 1, .ins, 0, 14, .rw⟩

/-! ### INS_LOG_BASE_LO at 0x1802C, Table 10-10 of file 10 -/

/-- [31:12] RW, reset 0. Ring base [31:12]. -/
def Fld.INS_LOG_BASE_LO.BASE_LO : Field := ⟨371, 0x1802C, 0x0, 1, .ins, 12, 20, .rw⟩

/-! ### INS_LOG_BASE_HI at 0x18030, Table 10-10 of file 10 -/

/-- [31:0] RW, reset 0. Ring base [63:32]. -/
def Fld.INS_LOG_BASE_HI.BASE_HI : Field := ⟨372, 0x18030, 0x0, 1, .ins, 0, 32, .rw⟩

/-! ### INS_LOG_CFG at 0x18034, Table 10-10 of file 10 -/

/-- [31:31] RO, reset 0. The logbook runs. -/
def Fld.INS_LOG_CFG.RUNNING : Field := ⟨373, 0x18034, 0x0, 1, .ins, 31, 1, .ro⟩
/-- [30:30] RO, reset 0. Under R341. -/
def Fld.INS_LOG_CFG.LOST : Field := ⟨374, 0x18034, 0x0, 1, .ins, 30, 1, .ro⟩
/-- [20:5] RO, reset 0. Writes not logged since LOST, saturating. -/
def Fld.INS_LOG_CFG.UNLOGGED : Field := ⟨375, 0x18034, 0x0, 1, .ins, 5, 16, .ro⟩
/-- [4:0] RW, reset 10. 10–20; written only while RUNNING is 0. -/
def Fld.INS_LOG_CFG.SIZE_LOG : Field := ⟨376, 0x18034, 0x0, 1, .ins, 0, 5, .rw⟩

/-! ### INS_LOG_IDX at 0x18038, Table 10-10 of file 10 -/

/-- [20:0] RW, reset 0. Head, written by manager software; the tail is read through READ_INSTANCE. -/
def Fld.INS_LOG_IDX.HEAD : Field := ⟨377, 0x18038, 0x0, 1, .ins, 0, 21, .rw⟩

/-! ### ICU_EVENT at 0x1E004, Table 11-7 of file 11 -/

/-- [1:1] W1C, reset 0. Under R357. -/
def Fld.ICU_EVENT.CFG_REFUSED : Field := ⟨378, 0x1E004, 0x0, 1, .none, 1, 1, .w1c⟩
/-- [0:0] W1C, reset 0. Under R355. -/
def Fld.ICU_EVENT.BAD_COMPLETE : Field := ⟨379, 0x1E004, 0x0, 1, .none, 0, 1, .w1c⟩

/-! ### ICU_SPURIOUS at 0x1E008, Table 11-7 of file 11 -/

/-- [31:16] RC, reset 0. COMPLETEs with NO_CAUSE = 1, saturating. -/
def Fld.ICU_SPURIOUS.HANDLER : Field := ⟨380, 0x1E008, 0x0, 1, .none, 16, 16, .rc⟩
/-- [15:0] RC, reset 0. Claims that returned VALID = 0, saturating. -/
def Fld.ICU_SPURIOUS.CLAIM_NONE : Field := ⟨381, 0x1E008, 0x0, 1, .none, 0, 16, .rc⟩

/-! ### ICU_MERGED at 0x1E00C, Table 11-7 of file 11 -/

/-- [31:0] RC, reset 0. Edges merged under R352, saturating. -/
def Fld.ICU_MERGED.COUNT : Field := ⟨382, 0x1E00C, 0x0, 1, .none, 0, 32, .rc⟩

/-! ### ICU_SOFT_SET at 0x1E010, Table 11-7 of file 11 -/

/-- [31:0] WO, reset 0. Bit b gives SOFT[b] an edge under R359. -/
def Fld.ICU_SOFT_SET.SET : Field := ⟨383, 0x1E010, 0x0, 1, .none, 0, 32, .wo⟩

/-! ### ICU_MASK at 0x1E080, Table 11-7 of file 11 -/

/-- [31:0] RW, reset 0xFFFF_FFFF. Bit b masks source 32 × w + b. -/
def Fld.ICU_MASK.MASK : Field := ⟨384, 0x1E080, 0x4, 32, .none, 0, 32, .rw⟩

/-! ### ICU_PEND at 0x1E100, Table 11-7 of file 11 -/

/-- [31:0] RO, reset 0. Bit b: source 32 × w + b is pending. -/
def Fld.ICU_PEND.PEND : Field := ⟨385, 0x1E100, 0x4, 32, .none, 0, 32, .ro⟩

/-! ### ICU_INSERV at 0x1E180, Table 11-7 of file 11 -/

/-- [31:0] RO, reset 0. Bit b: source 32 × w + b is in service. -/
def Fld.ICU_INSERV.INSERV : Field := ⟨386, 0x1E180, 0x4, 32, .none, 0, 32, .ro⟩

/-! ### ICU_THRESH at 0x1E200, Table 11-8 of file 11 -/

/-- [2:0] RW, reset 0. Sources with PRIO ≤ THRESH are not eligible. -/
def Fld.ICU_THRESH.THRESH : Field := ⟨387, 0x1E200, 0x20, 19, .none, 0, 3, .rw⟩

/-! ### ICU_CLAIM at 0x1E204, Table 11-8 of file 11 -/

/-- [31:31] RO, reset 0. A source was returned under R353. -/
def Fld.ICU_CLAIM.VALID : Field := ⟨388, 0x1E204, 0x20, 19, .none, 31, 1, .ro⟩
/-- [9:0] RO, reset 0. Claimed source. -/
def Fld.ICU_CLAIM.SOURCE : Field := ⟨389, 0x1E204, 0x20, 19, .none, 0, 10, .ro⟩

/-! ### ICU_COMPLETE at 0x1E208, Table 11-8 of file 11 -/

/-- [31:31] WO, reset 0. Under R355. -/
def Fld.ICU_COMPLETE.NO_CAUSE : Field := ⟨390, 0x1E208, 0x20, 19, .none, 31, 1, .wo⟩
/-- [9:0] WO, reset 0. Source whose service ends. -/
def Fld.ICU_COMPLETE.SOURCE : Field := ⟨391, 0x1E208, 0x20, 19, .none, 0, 10, .wo⟩

/-! ### ICU_TIMER_LO at 0x1E20C, Table 11-8 of file 11 -/

/-- [31:0] RW, reset 0. Compare [31:0]; a write arms under R358. -/
def Fld.ICU_TIMER_LO.CMP_LO : Field := ⟨392, 0x1E20C, 0x20, 19, .none, 0, 32, .rw⟩

/-! ### ICU_TIMER_HI at 0x1E210, Table 11-8 of file 11 -/

/-- [31:0] RW, reset 0xFFFF_FFFF. Compare [63:32]. -/
def Fld.ICU_TIMER_HI.CMP_HI : Field := ⟨393, 0x1E210, 0x20, 19, .none, 0, 32, .rw⟩

/-! ### ICU_TGT_SOFT_SET at 0x1E214, Table 11-8 of file 11 -/

/-- [31:0] WO, reset 0. As ICU_SOFT_SET at 0x1E010. -/
def Fld.ICU_TGT_SOFT_SET.SET : Field := ⟨394, 0x1E214, 0x20, 19, .none, 0, 32, .wo⟩

/-! ### ICU_REQ at 0x1E218, Table 11-8 of file 11 -/

/-- [1:1] RO, reset 0. The timer is armed. -/
def Fld.ICU_REQ.ARMED : Field := ⟨395, 0x1E218, 0x20, 19, .none, 1, 1, .ro⟩
/-- [0:0] RO, reset 0. The request line is high. -/
def Fld.ICU_REQ.REQUEST : Field := ⟨396, 0x1E218, 0x20, 19, .none, 0, 1, .ro⟩

/-! ### ICU_SRC_CFG at 0x1F000, Table 11-9 of file 11 -/

/-- [31:31] RW, reset 0. The source raises the DEVICE cause under R361. -/
def Fld.ICU_SRC_CFG.HOST_FWD : Field := ⟨397, 0x1F000, 0x4, 1024, .none, 31, 1, .rw⟩
/-- [30:28] RW, reset 0. Edge sources: pending on every 2^COAL_LOG-th edge; ignored for level sources. -/
def Fld.ICU_SRC_CFG.COAL_LOG : Field := ⟨398, 0x1F000, 0x4, 1024, .none, 28, 3, .rw⟩
/-- [27:14] RW, reset 0. LEG sources: chart entry index under R346; RO 0 for other sources. -/
def Fld.ICU_SRC_CFG.ENTRY : Field := ⟨399, 0x1F000, 0x4, 1024, .none, 14, 14, .rw⟩
/-- [10:9] RW, reset fixed sense; 0b00 for 200–207. Under R347; writable for sources 200–207 only. -/
def Fld.ICU_SRC_CFG.SENSE : Field := ⟨400, 0x1F000, 0x4, 1024, .none, 9, 2, .rw⟩
/-- [8:4] RW, reset 31. Under R348. -/
def Fld.ICU_SRC_CFG.TARGET : Field := ⟨401, 0x1F000, 0x4, 1024, .none, 4, 5, .rw⟩
/-- [2:0] RW, reset 0. 0 never eligible, 1–7. -/
def Fld.ICU_SRC_CFG.PRIO : Field := ⟨402, 0x1F000, 0x4, 1024, .none, 0, 3, .rw⟩

/-! ### HIC_EVENT at 0x1C000, Table 11-10 of file 11 -/

/-- [1:1] W1C, reset 0. Under R365. -/
def Fld.HIC_EVENT.DROPPED : Field := ⟨403, 0x1C000, 0x0, 1, .none, 1, 1, .w1c⟩
/-- [0:0] W1C, reset 0. Under R363. -/
def Fld.HIC_EVENT.CFG_REFUSED : Field := ⟨404, 0x1C000, 0x0, 1, .none, 0, 1, .w1c⟩

/-! ### HIC_INS_INDEX at 0x1C004, Table 11-10 of file 11 -/

/-- [11:0] RW, reset 0. Instance addressed. -/
def Fld.HIC_INS_INDEX.INSTANCE : Field := ⟨405, 0x1C004, 0x0, 1, .none, 0, 12, .rw⟩

/-! ### HIC_INS_PI at 0x1C008, Table 11-10 of file 11 -/

/-- [27:27] RW, reset 0. PI_HALF enabled. -/
def Fld.HIC_INS_PI.HALF_EN : Field := ⟨406, 0x1C008, 0x0, 1, .hicIns, 27, 1, .rw⟩
/-- [26:16] RW, reset 0. Function vector of PI_HALF. -/
def Fld.HIC_INS_PI.HALF_VEC : Field := ⟨407, 0x1C008, 0x0, 1, .hicIns, 16, 11, .rw⟩
/-- [11:11] RW, reset 0. PI_FULL enabled. -/
def Fld.HIC_INS_PI.FULL_EN : Field := ⟨408, 0x1C008, 0x0, 1, .hicIns, 11, 1, .rw⟩
/-- [10:0] RW, reset 0. Function vector of PI_FULL. -/
def Fld.HIC_INS_PI.FULL_VEC : Field := ⟨409, 0x1C008, 0x0, 1, .hicIns, 0, 11, .rw⟩

/-! ### HIC_INS_ERR at 0x1C00C, Table 11-10 of file 11 -/

/-- [27:27] RW, reset 0. DEVICE enabled; I0 only, RO 0 for other instances. -/
def Fld.HIC_INS_ERR.DEV_EN : Field := ⟨410, 0x1C00C, 0x0, 1, .hicIns, 27, 1, .rw⟩
/-- [26:16] RW, reset 0. Function vector of DEVICE. -/
def Fld.HIC_INS_ERR.DEV_VEC : Field := ⟨411, 0x1C00C, 0x0, 1, .hicIns, 16, 11, .rw⟩
/-- [11:11] RW, reset 0. ERROR enabled. -/
def Fld.HIC_INS_ERR.ERR_EN : Field := ⟨412, 0x1C00C, 0x0, 1, .hicIns, 11, 1, .rw⟩
/-- [10:0] RW, reset 0. Function vector of ERROR. -/
def Fld.HIC_INS_ERR.ERR_VEC : Field := ⟨413, 0x1C00C, 0x0, 1, .hicIns, 0, 11, .rw⟩

/-! ### HIC_ERR_CAUSE at 0x1C010, Table 11-10 of file 11 -/

/-- [5:5] W1C, reset 0. Under R362. -/
def Fld.HIC_ERR_CAUSE.LOG_LOST : Field := ⟨414, 0x1C010, 0x0, 1, .hicIns, 5, 1, .w1c⟩
/-- [4:4] W1C, reset 0. Under R362. -/
def Fld.HIC_ERR_CAUSE.INS_ERROR : Field := ⟨415, 0x1C010, 0x0, 1, .hicIns, 4, 1, .w1c⟩
/-- [3:3] W1C, reset 0. Under R362. -/
def Fld.HIC_ERR_CAUSE.CQ_ERROR : Field := ⟨416, 0x1C010, 0x0, 1, .hicIns, 3, 1, .w1c⟩
/-- [2:2] W1C, reset 0. Under R362. -/
def Fld.HIC_ERR_CAUSE.SQ_ERROR : Field := ⟨417, 0x1C010, 0x0, 1, .hicIns, 2, 1, .w1c⟩
/-- [1:1] W1C, reset 0. Under R362. -/
def Fld.HIC_ERR_CAUSE.PI_FAULT : Field := ⟨418, 0x1C010, 0x0, 1, .hicIns, 1, 1, .w1c⟩
/-- [0:0] W1C, reset 0. Under R362. -/
def Fld.HIC_ERR_CAUSE.CH_FAULT : Field := ⟨419, 0x1C010, 0x0, 1, .hicIns, 0, 1, .w1c⟩

/-! ### HIC_VEC_INDEX at 0x1C020, Table 11-10 of file 11 -/

/-- [27:20] RW, reset 0. 0 PF0, n VF n. -/
def Fld.HIC_VEC_INDEX.FUNCTION : Field := ⟨420, 0x1C020, 0x0, 1, .none, 20, 8, .rw⟩
/-- [10:0] RW, reset 0. Vector of that function. -/
def Fld.HIC_VEC_INDEX.VECTOR : Field := ⟨421, 0x1C020, 0x0, 1, .none, 0, 11, .rw⟩

/-! ### HIC_VEC_COAL at 0x1C024, Table 11-10 of file 11 -/

/-- [31:16] RW, reset 1. Units of 256 ns; 0 acts as 1. -/
def Fld.HIC_VEC_COAL.TIME : Field := ⟨422, 0x1C024, 0x0, 1, .hicVec, 16, 16, .rw⟩
/-- [7:0] RW, reset 1. 0 acts as 1. -/
def Fld.HIC_VEC_COAL.COUNT : Field := ⟨423, 0x1C024, 0x0, 1, .hicVec, 0, 8, .rw⟩

/-! ### HIC_VEC_STATUS at 0x1C028, Table 11-10 of file 11 -/

/-- [31:31] RO, reset 0. The timer of R364 runs. -/
def Fld.HIC_VEC_STATUS.TIMER_RUN : Field := ⟨424, 0x1C028, 0x0, 1, .hicVec, 31, 1, .ro⟩
/-- [30:30] RO, reset 0. The PBA bit of the vector. -/
def Fld.HIC_VEC_STATUS.MSG_PENDING : Field := ⟨425, 0x1C028, 0x0, 1, .hicVec, 30, 1, .ro⟩
/-- [23:8] RO, reset 0. Timer value in 256 ns units. -/
def Fld.HIC_VEC_STATUS.ELAPSED : Field := ⟨426, 0x1C028, 0x0, 1, .hicVec, 8, 16, .ro⟩
/-- [7:0] RO, reset 0. Events since the last message. -/
def Fld.HIC_VEC_STATUS.EVENTS : Field := ⟨427, 0x1C028, 0x0, 1, .hicVec, 0, 8, .ro⟩

/-! ### HIC_VEC_CTRL at 0x1C02C, Table 11-10 of file 11 -/

/-- [0:0] WO, reset 0. Under R364. -/
def Fld.HIC_VEC_CTRL.FLUSH : Field := ⟨428, 0x1C02C, 0x0, 1, .hicVec, 0, 1, .wo⟩

/-! ### HIC_MSG_CNT at 0x1C030, Table 11-10 of file 11 -/

/-- [31:0] RC, reset 0. MSI-X messages sent by the device, saturating. -/
def Fld.HIC_MSG_CNT.COUNT : Field := ⟨429, 0x1C030, 0x0, 1, .none, 0, 32, .rc⟩

/-! ### CPW_CFG at 0x24000, Table 12-12 of file 12 -/

/-- [31:16] RW, reset 100. Transition limit of R380 in ms; 0 acts as 1. -/
def Fld.CPW_CFG.TRANS_MS : Field := ⟨430, 0x24000, 0x0, 1, .none, 16, 16, .rw⟩
/-- [15:8] RW, reset 10. Wait of R386 and R392 in units of 10 ms; 0 acts as 1. -/
def Fld.CPW_CFG.REARM : Field := ⟨431, 0x24000, 0x0, 1, .none, 8, 8, .rw⟩

/-! ### CPW_BUDGET at 0x24004, Table 12-12 of file 12 -/

/-- [31:16] RO, reset 0. Sum of R379, 0.1 W units. -/
def Fld.CPW_BUDGET.USED : Field := ⟨432, 0x24004, 0x0, 1, .none, 16, 16, .ro⟩
/-- [15:0] RW, reset 0xFFFF. 0.1 W units. -/
def Fld.CPW_BUDGET.LIMIT : Field := ⟨433, 0x24004, 0x0, 1, .none, 0, 16, .rw⟩

/-! ### CPW_EVENT at 0x24008, Table 12-12 of file 12 -/

/-- [18:18] W1C, reset 0. Under R395. -/
def Fld.CPW_EVENT.HUB_FAULT : Field := ⟨434, 0x24008, 0x0, 1, .none, 18, 1, .w1c⟩
/-- [17:17] W1C, reset 0. A stage transaction failed. -/
def Fld.CPW_EVENT.PMBUS_ERROR : Field := ⟨435, 0x24008, 0x0, 1, .none, 17, 1, .w1c⟩
/-- [16:16] W1C, reset 0. Under R379. -/
def Fld.CPW_EVENT.BUDGET : Field := ⟨436, 0x24008, 0x0, 1, .none, 16, 1, .w1c⟩
/-- [15:0] W1C, reset 0. Bit p: a bit of CPW_PORT_EVENT[p] went from 0 to 1. -/
def Fld.CPW_EVENT.PORT : Field := ⟨437, 0x24008, 0x0, 1, .none, 0, 16, .w1c⟩

/-! ### CPW_PORT_CTRL at 0x24100, Table 12-13 of file 12 -/

/-- [1:1] WO, reset 0. Reverts to default under R382. -/
def Fld.CPW_PORT_CTRL.FORCE_DEFAULT : Field := ⟨438, 0x24100, 0x40, 16, .none, 1, 1, .wo⟩
/-- [0:0] RW, reset 0. Under R387. -/
def Fld.CPW_PORT_CTRL.ENABLE : Field := ⟨439, 0x24100, 0x40, 16, .none, 0, 1, .rw⟩

/-! ### CPW_PORT_STATUS at 0x24104, Table 12-13 of file 12 -/

/-- [31:28] RO, reset 0. 0 OFF, 1 ENABLING, 2 ON, 3 DISABLING, 4 ERROR. -/
def Fld.CPW_PORT_STATUS.FUNC_STATE : Field := ⟨440, 0x24104, 0x40, 16, .none, 28, 4, .ro⟩
/-- [27:27] RO, reset 0. Under R387. -/
def Fld.CPW_PORT_STATUS.PENDING_ENABLE : Field := ⟨441, 0x24104, 0x40, 16, .none, 27, 1, .ro⟩
/-- [26:24] RO, reset 0. Code of Table 12-7. -/
def Fld.CPW_PORT_STATUS.CSTATE : Field := ⟨442, 0x24104, 0x40, 16, .none, 24, 3, .ro⟩
/-- [23:23] RO, reset 0. Level driven on PEN. -/
def Fld.CPW_PORT_STATUS.PEN : Field := ⟨443, 0x24104, 0x40, 16, .none, 23, 1, .ro⟩
/-- [22:22] RO, reset 0. PFAULT# sampled low. -/
def Fld.CPW_PORT_STATUS.PFAULT : Field := ⟨444, 0x24104, 0x40, 16, .none, 22, 1, .ro⟩
/-- [21:21] RO, reset 0. A message has come from the sink since DEFAULT. -/
def Fld.CPW_PORT_STATUS.SINK_SEEN : Field := ⟨445, 0x24104, 0x40, 16, .none, 21, 1, .ro⟩
/-- [15:8] RO, reset 0. Status of the last REJECT sent or received. -/
def Fld.CPW_PORT_STATUS.LAST_REJECT : Field := ⟨446, 0x24104, 0x40, 16, .none, 8, 8, .ro⟩

/-! ### CPW_LIMIT at 0x24108, Table 12-14 of file 12 -/

/-- [21:12] RW, reset 15. Check 3 of Table 12-3. -/
def Fld.CPW_LIMIT.IMAX : Field := ⟨447, 0x24108, 0x40, 16, .none, 12, 10, .rw⟩
/-- [11:0] RW, reset 250. Check 3 of Table 12-3. -/
def Fld.CPW_LIMIT.VMAX : Field := ⟨448, 0x24108, 0x40, 16, .none, 0, 12, .rw⟩

/-! ### CPW_CONTRACT at 0x2410C, Table 12-14 of file 12 -/

/-- [21:0] RO, reset 0x00_F0FA. Contract word in force. -/
def Fld.CPW_CONTRACT.CONTRACT : Field := ⟨449, 0x2410C, 0x40, 16, .none, 0, 22, .ro⟩

/-! ### CPW_SWAP at 0x24110, Table 12-14 of file 12 -/

/-- [31:31] RO, reset 0. A contract is armed. -/
def Fld.CPW_SWAP.ARMED : Field := ⟨450, 0x24110, 0x40, 16, .none, 31, 1, .ro⟩
/-- [21:0] RO, reset 0. Armed contract word. -/
def Fld.CPW_SWAP.CONTRACT : Field := ⟨451, 0x24110, 0x40, 16, .none, 0, 22, .ro⟩

/-! ### CPW_STAGE at 0x24114, Table 12-14 of file 12 -/

/-- [15:8] RW, reset 20. VOUT_TRANSITION_RATE, 0.1 V/ms units; 0 acts as 1. -/
def Fld.CPW_STAGE.SLEW : Field := ⟨452, 0x24114, 0x40, 16, .none, 8, 8, .rw⟩
/-- [6:0] RW, reset 0. PMBus address. -/
def Fld.CPW_STAGE.ADDR : Field := ⟨453, 0x24114, 0x40, 16, .none, 0, 7, .rw⟩

/-! ### CPW_MEAS at 0x24118, Table 12-14 of file 12 -/

/-- [27:16] RO, reset 0. Last READ_IOUT, 10 mA units. -/
def Fld.CPW_MEAS.IOUT : Field := ⟨454, 0x24118, 0x40, 16, .none, 16, 12, .ro⟩
/-- [11:0] RO, reset 0. Last READ_VOUT, 20 mV units. -/
def Fld.CPW_MEAS.VOUT : Field := ⟨455, 0x24118, 0x40, 16, .none, 0, 12, .ro⟩

/-! ### CPW_PORT_EVENT at 0x2411C, Table 12-14 of file 12 -/

/-- [9:9] W1C, reset 0. Under R385. -/
def Fld.CPW_PORT_EVENT.STAGE_ERR : Field := ⟨456, 0x2411C, 0x40, 16, .none, 9, 1, .w1c⟩
/-- [8:8] W1C, reset 0. Under R389. -/
def Fld.CPW_PORT_EVENT.PWC_STUCK : Field := ⟨457, 0x2411C, 0x40, 16, .none, 8, 1, .w1c⟩
/-- [7:7] W1C, reset 0. Under R384. -/
def Fld.CPW_PORT_EVENT.COLLIDED : Field := ⟨458, 0x2411C, 0x40, 16, .none, 7, 1, .w1c⟩
/-- [6:6] W1C, reset 0. Under R389. -/
def Fld.CPW_PORT_EVENT.FAST_UNARMED : Field := ⟨459, 0x2411C, 0x40, 16, .none, 6, 1, .w1c⟩
/-- [5:5] W1C, reset 0. Under R389. -/
def Fld.CPW_PORT_EVENT.FAST_SWAP : Field := ⟨460, 0x2411C, 0x40, 16, .none, 5, 1, .w1c⟩
/-- [4:4] W1C, reset 0. Under R392. -/
def Fld.CPW_PORT_EVENT.DETACH : Field := ⟨461, 0x2411C, 0x40, 16, .none, 4, 1, .w1c⟩
/-- [3:3] W1C, reset 0. Under R386. -/
def Fld.CPW_PORT_EVENT.FAULT : Field := ⟨462, 0x2411C, 0x40, 16, .none, 3, 1, .w1c⟩
/-- [2:2] W1C, reset 0. Under R382. -/
def Fld.CPW_PORT_EVENT.EXPIRED : Field := ⟨463, 0x2411C, 0x40, 16, .none, 2, 1, .w1c⟩
/-- [1:1] W1C, reset 0. The port reached DEFAULT from another contract state. -/
def Fld.CPW_PORT_EVENT.REVERTED : Field := ⟨464, 0x2411C, 0x40, 16, .none, 1, 1, .w1c⟩
/-- [0:0] W1C, reset 0. A new contract came into force. -/
def Fld.CPW_PORT_EVENT.CONTRACT : Field := ⟨465, 0x2411C, 0x40, 16, .none, 0, 1, .w1c⟩

/-! ### CPW_KEEPALIVE at 0x24120, Table 12-14 of file 12 -/

/-- [15:0] RO, reset 0. Milliseconds since the sink was last heard, saturating. -/
def Fld.CPW_KEEPALIVE.AGE_MS : Field := ⟨466, 0x24120, 0x40, 16, .none, 0, 16, .ro⟩

/-! ### PWR_STATE at 0x20000, Table 13-13 of file 13 -/

/-- [9:9] RO, reset 0. A wake is latched under Table 13-9. -/
def Fld.PWR_STATE.WAKE_PENDING : Field := ⟨467, 0x20000, 0x0, 1, .none, 9, 1, .ro⟩
/-- [8:8] RO, reset 0. Under R407. -/
def Fld.PWR_STATE.ENTRY_BUSY : Field := ⟨468, 0x20000, 0x0, 1, .none, 8, 1, .ro⟩
/-- [5:4] RO, reset 0. State being entered. -/
def Fld.PWR_STATE.TARGET : Field := ⟨469, 0x20000, 0x0, 1, .none, 4, 2, .ro⟩
/-- [1:0] RO, reset 0. 0 S0, 1 S1, 2 S2, 3 S3. -/
def Fld.PWR_STATE.CUR : Field := ⟨470, 0x20000, 0x0, 1, .none, 0, 2, .ro⟩

/-! ### PWR_STATE_CTRL at 0x20004, Table 13-13 of file 13 -/

/-- [1:0] WO, reset 0. Enters the state under R407; 0 in S1 wakes with COMMAND. -/
def Fld.PWR_STATE_CTRL.TARGET : Field := ⟨471, 0x20004, 0x0, 1, .none, 0, 2, .wo⟩

/-! ### PWR_ENTRY_CFG at 0x20008, Table 13-13 of file 13 -/

/-- [17:17] RW, reset 0. OSC_EN low in S3. -/
def Fld.PWR_ENTRY_CFG.OSC_OFF : Field := ⟨472, 0x20008, 0x0, 1, .none, 17, 1, .rw⟩
/-- [16:16] RW, reset 0. Under R412. -/
def Fld.PWR_ENTRY_CFG.RESUME : Field := ⟨473, 0x20008, 0x0, 1, .none, 16, 1, .rw⟩
/-- [15:0] RW, reset 0. Bit p: port p keeps default VBUS in S2 and S3. -/
def Fld.PWR_ENTRY_CFG.VBUS_KEEP : Field := ⟨474, 0x20008, 0x0, 1, .none, 0, 16, .rw⟩

/-! ### PWR_ENTRY_TIME at 0x2000C, Table 13-13 of file 13 -/

/-- [31:16] RW, reset 100. Step 2 of R407; 0 acts as 1. -/
def Fld.PWR_ENTRY_TIME.IDLE_MS : Field := ⟨475, 0x2000C, 0x0, 1, .none, 16, 16, .rw⟩
/-- [15:0] RW, reset 100. Step 8 of R407; 0 acts as 1. -/
def Fld.PWR_ENTRY_TIME.LINK_WAIT_MS : Field := ⟨476, 0x2000C, 0x0, 1, .none, 0, 16, .rw⟩

/-! ### PWR_WAKE_EN at 0x20010, Table 13-14 of file 13 -/

/-- [18:0] RW, reset 0. Bit n: ACTIVITY wake on lane n. -/
def Fld.PWR_WAKE_EN.ACTIVITY : Field := ⟨477, 0x20010, 0x0, 1, .none, 0, 19, .rw⟩

/-! ### PWR_WAKE_SRC at 0x20014, Table 13-14 of file 13 -/

/-- [17:10] RW, reset 0. Bit i: GPIOi wakes when high; 0 when low. -/
def Fld.PWR_WAKE_SRC.GPIO_HIGH : Field := ⟨478, 0x20014, 0x0, 1, .none, 10, 8, .rw⟩
/-- [9:2] RW, reset 0. Bit i: GPIOi is a wake source. -/
def Fld.PWR_WAKE_SRC.GPIO_EN : Field := ⟨479, 0x20014, 0x0, 1, .none, 2, 8, .rw⟩
/-- [1:1] RW, reset 0. TIMER armed. -/
def Fld.PWR_WAKE_SRC.TIMER : Field := ⟨480, 0x20014, 0x0, 1, .none, 1, 1, .rw⟩
/-- [0:0] RW, reset 1. PCIE armed. -/
def Fld.PWR_WAKE_SRC.PCIE : Field := ⟨481, 0x20014, 0x0, 1, .none, 0, 1, .rw⟩

/-! ### PWR_WAKE_TIME_LO at 0x20018, Table 13-14 of file 13 -/

/-- [31:0] RW, reset 0. Wake instant, chronometer ns [31:0]. -/
def Fld.PWR_WAKE_TIME_LO.NS_LO : Field := ⟨482, 0x20018, 0x0, 1, .none, 0, 32, .rw⟩

/-! ### PWR_WAKE_TIME_HI at 0x2001C, Table 13-14 of file 13 -/

/-- [31:0] RW, reset 0xFFFF_FFFF. Wake instant, ns [63:32]. -/
def Fld.PWR_WAKE_TIME_HI.NS_HI : Field := ⟨483, 0x2001C, 0x0, 1, .none, 0, 32, .rw⟩

/-! ### PWR_WAKE_CAUSE at 0x20020, Table 13-14 of file 13 -/

/-- [21:20] RO, reset 0. State left. -/
def Fld.PWR_WAKE_CAUSE.FROM : Field := ⟨484, 0x20020, 0x0, 1, .none, 20, 2, .ro⟩
/-- [19:19] RO, reset 0. A step was retried under R411. -/
def Fld.PWR_WAKE_CAUSE.RETRIED : Field := ⟨485, 0x20020, 0x0, 1, .none, 19, 1, .ro⟩
/-- [18:16] RO, reset 0. 1 VDD_CORE, 2 VDD_SRAM, 3 oscillator, 4 VDD_PCIE, 5 VDD_SERDES. -/
def Fld.PWR_WAKE_CAUSE.RETRY_SUBJECT : Field := ⟨486, 0x20020, 0x0, 1, .none, 16, 3, .ro⟩
/-- [15:15] RO, reset 0. WAKE_FAULT was entered. -/
def Fld.PWR_WAKE_CAUSE.FAULT : Field := ⟨487, 0x20020, 0x0, 1, .none, 15, 1, .ro⟩
/-- [14:12] RO, reset 0. Encoded as RETRY_SUBJECT. -/
def Fld.PWR_WAKE_CAUSE.FAULT_SUBJECT : Field := ⟨488, 0x20020, 0x0, 1, .none, 12, 3, .ro⟩
/-- [8:4] RO, reset 0. Lane n or GPIO i of the cause. -/
def Fld.PWR_WAKE_CAUSE.INDEX : Field := ⟨489, 0x20020, 0x0, 1, .none, 4, 5, .ro⟩
/-- [3:0] RO, reset 0. Code of Table 13-4. -/
def Fld.PWR_WAKE_CAUSE.CAUSE : Field := ⟨490, 0x20020, 0x0, 1, .none, 0, 4, .ro⟩

/-! ### PWR_PAD_RELEASE at 0x20024, Table 13-15 of file 13 -/

/-- [6:0] WO, reset 0. Bit g releases group g of Table 13-6. -/
def Fld.PWR_PAD_RELEASE.GROUPS : Field := ⟨491, 0x20024, 0x0, 1, .none, 0, 7, .wo⟩

/-! ### PWR_PAD_STATUS at 0x20028, Table 13-15 of file 13 -/

/-- [6:0] RO, reset 0. Bit g: group g is latched. -/
def Fld.PWR_PAD_STATUS.LATCHED : Field := ⟨492, 0x20028, 0x0, 1, .none, 0, 7, .ro⟩

/-! ### PWR_DOM_CTRL at 0x2002C, Table 13-15 of file 13 -/

/-- [9:3] RW, reset 0x7F. Bit d: domain d on, under R416. -/
def Fld.PWR_DOM_CTRL.ON : Field := ⟨493, 0x2002C, 0x0, 1, .none, 3, 7, .rw⟩

/-! ### PWR_DOM_STATUS at 0x20030, Table 13-15 of file 13 -/

/-- [11:0] RO, reset 0xFFF. Bit d: domain d is on and good. -/
def Fld.PWR_DOM_STATUS.GOOD : Field := ⟨494, 0x20030, 0x0, 1, .none, 0, 12, .ro⟩

/-! ### PWR_DOM_AUTO at 0x20034, Table 13-15 of file 13 -/

/-- [9:3] RW, reset 0. Bit d: automatic off under R416. -/
def Fld.PWR_DOM_AUTO.AUTO : Field := ⟨495, 0x20034, 0x0, 1, .none, 3, 7, .rw⟩

/-! ### PWR_OP_VSEL at 0x20038, Table 13-15 of file 13 -/

/-- [1:0] RW, reset 2. Under R419; 3 acts as 2. -/
def Fld.PWR_OP_VSEL.VSEL : Field := ⟨496, 0x20038, 0x0, 1, .none, 0, 2, .rw⟩

/-! ### PWR_OP_FSEL at 0x2003C, Table 13-15 of file 13 -/

/-- [1:0] RWL, reset 2. Shadow under R419; 3 acts as 2. -/
def Fld.PWR_OP_FSEL.FSEL : Field := ⟨497, 0x2003C, 0x0, 1, .none, 0, 2, .rwl⟩

/-! ### PWR_OP_COMMIT at 0x20040, Table 13-15 of file 13 -/

/-- [0:0] WO, reset 0. Commits FSEL. -/
def Fld.PWR_OP_COMMIT.COMMIT : Field := ⟨498, 0x20040, 0x0, 1, .none, 0, 1, .wo⟩

/-! ### PWR_OP_STATUS at 0x20044, Table 13-15 of file 13 -/

/-- [11:11] W1C, reset 0. Under R419. -/
def Fld.PWR_OP_STATUS.OP_FAULT : Field := ⟨499, 0x20044, 0x0, 1, .none, 11, 1, .w1c⟩
/-- [10:10] W1C, reset 0. Under R419. -/
def Fld.PWR_OP_STATUS.VSEL_REFUSED : Field := ⟨500, 0x20044, 0x0, 1, .none, 10, 1, .w1c⟩
/-- [9:9] W1C, reset 0. Under R419. -/
def Fld.PWR_OP_STATUS.COMMIT_REFUSED : Field := ⟨501, 0x20044, 0x0, 1, .none, 9, 1, .w1c⟩
/-- [8:8] W1C, reset 0. Under R157. -/
def Fld.PWR_OP_STATUS.SHADOW_BUSY : Field := ⟨502, 0x20044, 0x0, 1, .none, 8, 1, .w1c⟩
/-- [5:5] RO, reset 0. From an accepted COMMIT until hand-over. -/
def Fld.PWR_OP_STATUS.PENDING : Field := ⟨503, 0x20044, 0x0, 1, .none, 5, 1, .ro⟩
/-- [4:4] RO, reset 0. A voltage change is unconfirmed. -/
def Fld.PWR_OP_STATUS.VBUSY : Field := ⟨504, 0x20044, 0x0, 1, .none, 4, 1, .ro⟩
/-- [3:2] RO, reset 2. Confirmed voltage point. -/
def Fld.PWR_OP_STATUS.VSEL_OK : Field := ⟨505, 0x20044, 0x0, 1, .none, 2, 2, .ro⟩
/-- [1:0] RO, reset 2. Frequency point in force. -/
def Fld.PWR_OP_STATUS.ACTIVE : Field := ⟨506, 0x20044, 0x0, 1, .none, 0, 2, .ro⟩

/-! ### PWR_EVENT at 0x20048, Table 13-16 of file 13 -/

/-- [8:8] W1C, reset 0. Under R411. -/
def Fld.PWR_EVENT.WAKE_RETRY : Field := ⟨507, 0x20048, 0x0, 1, .none, 8, 1, .w1c⟩
/-- [7:7] W1C, reset 0. Under R419. -/
def Fld.PWR_EVENT.OP_FAULT : Field := ⟨508, 0x20048, 0x0, 1, .none, 7, 1, .w1c⟩
/-- [6:6] W1C, reset 0. An operating-point change completed. -/
def Fld.PWR_EVENT.OP_DONE : Field := ⟨509, 0x20048, 0x0, 1, .none, 6, 1, .w1c⟩
/-- [5:5] W1C, reset 0. Under R417. -/
def Fld.PWR_EVENT.DOM_FAULT : Field := ⟨510, 0x20048, 0x0, 1, .none, 5, 1, .w1c⟩
/-- [4:4] W1C, reset 0. Under R416. -/
def Fld.PWR_EVENT.DOM_REFUSED : Field := ⟨511, 0x20048, 0x0, 1, .none, 4, 1, .w1c⟩
/-- [3:3] W1C, reset 0. A domain came on by access. -/
def Fld.PWR_EVENT.DOM_ON : Field := ⟨512, 0x20048, 0x0, 1, .none, 3, 1, .w1c⟩
/-- [2:2] W1C, reset 0. Under R407. -/
def Fld.PWR_EVENT.ENTRY_ABORTED : Field := ⟨513, 0x20048, 0x0, 1, .none, 2, 1, .w1c⟩
/-- [1:1] W1C, reset 0. A state was entered. -/
def Fld.PWR_EVENT.ENTERED : Field := ⟨514, 0x20048, 0x0, 1, .none, 1, 1, .w1c⟩
/-- [0:0] W1C, reset 0. A wake reached S0. -/
def Fld.PWR_EVENT.WAKE : Field := ⟨515, 0x20048, 0x0, 1, .none, 0, 1, .w1c⟩

/-! ### PWR_RAIL at 0x20050, Table 13-16 of file 13 -/

/-- [31:31] RO, reset 1. The rail is enabled. -/
def Fld.PWR_RAIL.ON : Field := ⟨516, 0x20050, 0x4, 4, .none, 31, 1, .ro⟩
/-- [23:16] RO, reset 0. Failed wake steps of the rail, saturating. -/
def Fld.PWR_RAIL.FAILS : Field := ⟨517, 0x20050, 0x4, 4, .none, 16, 8, .ro⟩
/-- [6:0] RW, reset 0. PMBus address; used for r = 0 and 1. -/
def Fld.PWR_RAIL.ADDR : Field := ⟨518, 0x20050, 0x4, 4, .none, 0, 7, .rw⟩

/-! ### PWR_HISTORY at 0x20080, Table 13-16 of file 13 -/

/-- [31:30] RO, reset 0. State left; k = 0 is the newest entry. -/
def Fld.PWR_HISTORY.FROM : Field := ⟨519, 0x20080, 0x4, 8, .none, 30, 2, .ro⟩
/-- [29:28] RO, reset 0. State reached. -/
def Fld.PWR_HISTORY.TO : Field := ⟨520, 0x20080, 0x4, 8, .none, 28, 2, .ro⟩
/-- [27:24] RO, reset 0. Wake cause; 0 for an entry. -/
def Fld.PWR_HISTORY.CAUSE : Field := ⟨521, 0x20080, 0x4, 8, .none, 24, 4, .ro⟩
/-- [23:20] RO, reset 0. [0] retried, [1] WAKE_FAULT, [2] wake latched during entry, [3] entry aborted. -/
def Fld.PWR_HISTORY.FLAGS : Field := ⟨522, 0x20080, 0x4, 8, .none, 20, 4, .ro⟩
/-- [19:0] RO, reset 0. Chronometer nanoseconds [39:20] at the transition. -/
def Fld.PWR_HISTORY.TIME : Field := ⟨523, 0x20080, 0x4, 8, .none, 0, 20, .ro⟩

/-! ### PAIR_CTRL at 0x28000, Table 14-8 of file 14 -/

/-- [0:0] RW, reset 0. Under R435. -/
def Fld.PAIR_CTRL.ENABLE : Field := ⟨524, 0x28000, 0x0, 1, .none, 0, 1, .rw⟩

/-! ### PAIR_CFG at 0x28004, Table 14-8 of file 14 -/

/-- [17:17] RW, reset 0. Under R431. -/
def Fld.PAIR_CFG.SHADOW_PI : Field := ⟨525, 0x28004, 0x0, 1, .none, 17, 1, .rw⟩
/-- [16:16] RW, reset 1. Under R431. -/
def Fld.PAIR_CFG.SHADOW_TASKS : Field := ⟨526, 0x28004, 0x0, 1, .none, 16, 1, .rw⟩
/-- [15:8] RW, reset 100. Table 14-3; 0 acts as 1. -/
def Fld.PAIR_CFG.ORPHAN_MS : Field := ⟨527, 0x28004, 0x0, 1, .none, 8, 8, .rw⟩
/-- [7:0] RW, reset 50. Under R435; 0 acts as 1. -/
def Fld.PAIR_CFG.ELECT_MS : Field := ⟨528, 0x28004, 0x0, 1, .none, 0, 8, .rw⟩

/-! ### PAIR_STATUS at 0x28008, Table 14-8 of file 14 -/

/-- [31:28] RO, reset 0. 0 OFF, 1 ENABLING, 2 ON, 3 DISABLING, 4 ERROR. -/
def Fld.PAIR_STATUS.FUNC_STATE : Field := ⟨529, 0x28008, 0x0, 1, .none, 28, 4, .ro⟩
/-- [27:27] RO, reset 0. Under R435. -/
def Fld.PAIR_STATUS.PENDING_ENABLE : Field := ⟨530, 0x28008, 0x0, 1, .none, 27, 1, .ro⟩
/-- [26:24] RO, reset 0. Code of Table 14-3. -/
def Fld.PAIR_STATUS.ROLE : Field := ⟨531, 0x28008, 0x0, 1, .none, 24, 3, .ro⟩
/-- [23:23] RO, reset 0. Under R434. -/
def Fld.PAIR_STATUS.ROLE_IN_ALIVE : Field := ⟨532, 0x28008, 0x0, 1, .none, 23, 1, .ro⟩
/-- [22:16] RO, reset 0. Copy progress under R436, percent. -/
def Fld.PAIR_STATUS.COPY_PCT : Field := ⟨533, 0x28008, 0x0, 1, .none, 16, 7, .ro⟩
/-- [15:8] RO, reset 0. Status of the last election or swap. -/
def Fld.PAIR_STATUS.LAST : Field := ⟨534, 0x28008, 0x0, 1, .none, 8, 8, .ro⟩

/-! ### PAIR_EVENT at 0x2800C, Table 14-8 of file 14 -/

/-- [6:6] W1C, reset 0. Under R431. -/
def Fld.PAIR_EVENT.SKEW_CLAMP : Field := ⟨535, 0x2800C, 0x0, 1, .none, 6, 1, .w1c⟩
/-- [5:5] W1C, reset 0. Under R433. -/
def Fld.PAIR_EVENT.ID_CLASH : Field := ⟨536, 0x2800C, 0x0, 1, .none, 5, 1, .w1c⟩
/-- [4:4] W1C, reset 0. Under R435 and R441. -/
def Fld.PAIR_EVENT.COLLIDED : Field := ⟨537, 0x2800C, 0x0, 1, .none, 4, 1, .w1c⟩
/-- [3:3] W1C, reset 0. Under R432. -/
def Fld.PAIR_EVENT.DESYNC : Field := ⟨538, 0x2800C, 0x0, 1, .none, 3, 1, .w1c⟩
/-- [2:2] W1C, reset 0. MIRROR_LOST entered. -/
def Fld.PAIR_EVENT.MIRROR_LOST : Field := ⟨539, 0x2800C, 0x0, 1, .none, 2, 1, .w1c⟩
/-- [1:1] W1C, reset 0. Under R440. -/
def Fld.PAIR_EVENT.HANDOVER : Field := ⟨540, 0x2800C, 0x0, 1, .none, 1, 1, .w1c⟩
/-- [0:0] W1C, reset 0. Under R437. -/
def Fld.PAIR_EVENT.TAKEOVER : Field := ⟨541, 0x2800C, 0x0, 1, .none, 0, 1, .w1c⟩

/-! ### PAIR_ID_LO at 0x28010, Table 14-9 of file 14 -/

/-- [31:0] RW, reset OTP identity [31:0]. Under R433. -/
def Fld.PAIR_ID_LO.ID_LO : Field := ⟨542, 0x28010, 0x0, 1, .none, 0, 32, .rw⟩

/-! ### PAIR_ID_HI at 0x28014, Table 14-9 of file 14 -/

/-- [31:0] RW, reset OTP identity [63:32]. Under R433. -/
def Fld.PAIR_ID_HI.ID_HI : Field := ⟨543, 0x28014, 0x0, 1, .none, 0, 32, .rw⟩

/-! ### PAIR_PEER_ID_LO at 0x28018, Table 14-9 of file 14 -/

/-- [31:0] RO, reset 0. Partner's identity from its last claim. -/
def Fld.PAIR_PEER_ID_LO.ID_LO : Field := ⟨544, 0x28018, 0x0, 1, .none, 0, 32, .ro⟩

/-! ### PAIR_PEER_ID_HI at 0x2801C, Table 14-9 of file 14 -/

/-- [31:0] RO, reset 0. The same, [63:32]. -/
def Fld.PAIR_PEER_ID_HI.ID_HI : Field := ⟨545, 0x2801C, 0x0, 1, .none, 0, 32, .ro⟩

/-! ### PAIR_TAKEOVER at 0x28020, Table 14-9 of file 14 -/

/-- [31:16] RO, reset 0. Under R438. -/
def Fld.PAIR_TAKEOVER.OLD_RECORDS : Field := ⟨546, 0x28020, 0x0, 1, .none, 16, 16, .ro⟩
/-- [15:0] RO, reset 0. Tick number [15:0] of the last takeover. -/
def Fld.PAIR_TAKEOVER.TICK : Field := ⟨547, 0x28020, 0x0, 1, .none, 0, 16, .ro⟩

/-! ### PAIR_PORTS at 0x28024, Table 14-9 of file 14 -/

/-- [31:16] RO, reset 0. Bit p: port p is UP with both skews known. -/
def Fld.PAIR_PORTS.READY : Field := ⟨548, 0x28024, 0x0, 1, .none, 16, 16, .ro⟩
/-- [15:0] RW, reset 0. Bit p: port p is dual-homed. -/
def Fld.PAIR_PORTS.DUAL : Field := ⟨549, 0x28024, 0x0, 1, .none, 0, 16, .rw⟩

/-! ### PAIR_MIRROR at 0x28028, Table 14-9 of file 14 -/

/-- [31:16] RC, reset 0. Ticks with MIRROR_OVER, saturating. -/
def Fld.PAIR_MIRROR.OVER_CNT : Field := ⟨550, 0x28028, 0x0, 1, .none, 16, 16, .rc⟩
/-- [15:0] RO, reset 0. Record bytes of the last tick. -/
def Fld.PAIR_MIRROR.BYTES : Field := ⟨551, 0x28028, 0x0, 1, .none, 0, 16, .ro⟩

/-! ### PAIR_SKEW at 0x28040, Table 14-9 of file 14 -/

/-- [31:16] RO, reset 0. Signed, unit 2^−8 ns, under R431. -/
def Fld.PAIR_SKEW.RSKEW : Field := ⟨552, 0x28040, 0x4, 16, .none, 16, 16, .ro⟩
/-- [15:0] RO, reset 0. Signed, unit 2^−8 ns, under R431. -/
def Fld.PAIR_SKEW.TSKEW : Field := ⟨553, 0x28040, 0x4, 16, .none, 0, 16, .ro⟩

/-! ### NVM_STATUS at 0x34000, Table 15-9 of file 15 -/

/-- [31:29] RO, reset 0. 0 RESET, 1 LOADING, 2 RUNNING, 3 NO_IMAGE, 4 HOST_WAIT. -/
def Fld.NVM_STATUS.STATE : Field := ⟨554, 0x34000, 0x0, 1, .none, 29, 3, .ro⟩
/-- [28:27] RO, reset 0. STRAP_BOOT under R450. -/
def Fld.NVM_STATUS.STRAPS : Field := ⟨555, 0x34000, 0x0, 1, .none, 27, 2, .ro⟩
/-- [26:26] RO, reset 0. Slot loaded: 0 A, 1 B. -/
def Fld.NVM_STATUS.SLOT : Field := ⟨556, 0x34000, 0x0, 1, .none, 26, 1, .ro⟩
/-- [25:25] RO, reset 0. Under R457. -/
def Fld.NVM_STATUS.FALLBACK : Field := ⟨557, 0x34000, 0x0, 1, .none, 25, 1, .ro⟩
/-- [24:24] RO, reset 0. Under R462. -/
def Fld.NVM_STATUS.RESUMED : Field := ⟨558, 0x34000, 0x0, 1, .none, 24, 1, .ro⟩
/-- [23:23] RO, reset 0. The halt state is in force. -/
def Fld.NVM_STATUS.HALTED : Field := ⟨559, 0x34000, 0x0, 1, .none, 23, 1, .ro⟩
/-- [8:0] RO, reset 0. Sections applied. -/
def Fld.NVM_STATUS.SECTIONS_DONE : Field := ⟨560, 0x34000, 0x0, 1, .none, 0, 9, .ro⟩

/-! ### NVM_FAIL at 0x3401C, Table 15-9 of file 15 -/

/-- [27:24] RO, reset 0. 0 none, 1 NO_FLASH, 2 SFDP, 3 DESCRIPTOR, 4 HEADER, 5 SIGNATURE, 6 KEY_REVOKED, 7 SVN, 8 LIFE_CYCLE, 9 HASH, 10 GCM, 11 ORDER, 12 SECTION, 13 SIZE, 14 READ_TIMEOUT. -/
def Fld.NVM_FAIL.REASON : Field := ⟨561, 0x3401C, 0x0, 1, .none, 24, 4, .ro⟩
/-- [23:23] RO, reset 0. Slot of the last failure. -/
def Fld.NVM_FAIL.SLOT : Field := ⟨562, 0x3401C, 0x0, 1, .none, 23, 1, .ro⟩
/-- [8:0] RO, reset 0. Failing section index. -/
def Fld.NVM_FAIL.SECTION : Field := ⟨563, 0x3401C, 0x0, 1, .none, 0, 9, .ro⟩

/-! ### NVM_VERSION_A at 0x34010, Table 15-9 of file 15 -/

/-- [31:0] RO, reset 0. Slot A VERSION; 0 when not a candidate. -/
def Fld.NVM_VERSION_A.VERSION : Field := ⟨564, 0x34010, 0x0, 1, .none, 0, 32, .ro⟩

/-! ### NVM_VERSION_B at 0x34014, Table 15-9 of file 15 -/

/-- [31:0] RO, reset 0. Slot B VERSION; 0 when not a candidate. -/
def Fld.NVM_VERSION_B.VERSION : Field := ⟨565, 0x34014, 0x0, 1, .none, 0, 32, .ro⟩

/-! ### NVM_LOADED at 0x34018, Table 15-9 of file 15 -/

/-- [31:0] RO, reset 0. VERSION of the image running; kept through S3. -/
def Fld.NVM_LOADED.VERSION : Field := ⟨566, 0x34018, 0x0, 1, .none, 0, 32, .ro⟩

/-! ### NVM_LOAD_TIME at 0x34020, Table 15-9 of file 15 -/

/-- [19:0] RO, reset 0. µs from the last power-good, or from the end of wake step 6, to RUNNING, saturating. -/
def Fld.NVM_LOAD_TIME.US : Field := ⟨567, 0x34020, 0x0, 1, .none, 0, 20, .ro⟩

/-! ### NVM_FLASH at 0x34024, Table 15-9 of file 15 -/

/-- [8:0] RO, reset 0. Flash size from SFDP. -/
def Fld.NVM_FLASH.SIZE_MIB : Field := ⟨568, 0x34024, 0x0, 1, .none, 0, 9, .ro⟩

/-! ### NVM_RESET_CAUSE at 0x34038, Table 15-9 of file 15 -/

/-- [2:0] RO, reset 0. 0 POWER_ON, 1 COLD by RESET#, 2 WARM, 3 HOST, 4 COLD by PERST# in WAKE_FAULT. -/
def Fld.NVM_RESET_CAUSE.KIND : Field := ⟨569, 0x34038, 0x0, 1, .none, 0, 3, .ro⟩

/-! ### NVM_CTRL at 0x34004, Table 15-12 of file 15 -/

/-- [3:3] WO, reset 0. Under R465. -/
def Fld.NVM_CTRL.HALT_CLEAR : Field := ⟨570, 0x34004, 0x0, 1, .none, 3, 1, .wo⟩
/-- [2:2] RW, reset 0. Cause SW. -/
def Fld.NVM_CTRL.HALT_ASSERT : Field := ⟨571, 0x34004, 0x0, 1, .none, 2, 1, .rw⟩
/-- [1:1] RW, reset 0. Under R468. -/
def Fld.NVM_CTRL.HOST_ATTACH : Field := ⟨572, 0x34004, 0x0, 1, .none, 1, 1, .rw⟩
/-- [0:0] WO, reset 0. Under R446. -/
def Fld.NVM_CTRL.WARM_RESET : Field := ⟨573, 0x34004, 0x0, 1, .none, 0, 1, .wo⟩

/-! ### NVM_EVENT at 0x34008, Table 15-12 of file 15 -/

/-- [7:7] W1C, reset 0. HOST_ATTACH was written 1. -/
def Fld.NVM_EVENT.ATTACHED : Field := ⟨574, 0x34008, 0x0, 1, .none, 7, 1, .w1c⟩
/-- [6:6] W1C, reset 0. Under R468. -/
def Fld.NVM_EVENT.SUPERVISOR_WRITE : Field := ⟨575, 0x34008, 0x0, 1, .none, 6, 1, .w1c⟩
/-- [5:5] W1C, reset 0. Under R466. -/
def Fld.NVM_EVENT.WDT_EXPIRED : Field := ⟨576, 0x34008, 0x0, 1, .none, 5, 1, .w1c⟩
/-- [4:4] W1C, reset 0. PIN latched. -/
def Fld.NVM_EVENT.HALT_IN : Field := ⟨577, 0x34008, 0x0, 1, .none, 4, 1, .w1c⟩
/-- [3:3] W1C, reset 0. Under R460. -/
def Fld.NVM_EVENT.WRITE_DURING_LOAD : Field := ⟨578, 0x34008, 0x0, 1, .none, 3, 1, .w1c⟩
/-- [2:2] W1C, reset 0. A slot failed. -/
def Fld.NVM_EVENT.LOAD_FAILED : Field := ⟨579, 0x34008, 0x0, 1, .none, 2, 1, .w1c⟩
/-- [1:1] W1C, reset 0. Under R457. -/
def Fld.NVM_EVENT.FALLBACK : Field := ⟨580, 0x34008, 0x0, 1, .none, 1, 1, .w1c⟩
/-- [0:0] W1C, reset 0. STATE reached RUNNING. -/
def Fld.NVM_EVENT.RUNNING : Field := ⟨581, 0x34008, 0x0, 1, .none, 0, 1, .w1c⟩

/-! ### NVM_BOOT_SEL at 0x3400C, Table 15-12 of file 15 -/

/-- [1:0] RWS, reset 0. 0 by VERSION, 1 slot A first, 2 slot B first; 3 acts as 0. -/
def Fld.NVM_BOOT_SEL.SEL : Field := ⟨582, 0x3400C, 0x0, 1, .none, 0, 2, .rws⟩

/-! ### NVM_HALT_CFG at 0x34028, Table 15-12 of file 15 -/

/-- [8:8] RW, reset 1. HALT# input enabled. -/
def Fld.NVM_HALT_CFG.IN_EN : Field := ⟨583, 0x34028, 0x0, 1, .none, 8, 1, .rw⟩
/-- [3:3] RW, reset 0. Table 15-10. -/
def Fld.NVM_HALT_CFG.DRIVE_WDT : Field := ⟨584, 0x34028, 0x0, 1, .none, 3, 1, .rw⟩
/-- [2:2] RW, reset 0. Table 15-10. -/
def Fld.NVM_HALT_CFG.DRIVE_HELM : Field := ⟨585, 0x34028, 0x0, 1, .none, 2, 1, .rw⟩
/-- [1:1] RW, reset 1. Table 15-10. -/
def Fld.NVM_HALT_CFG.DRIVE_IMAGE : Field := ⟨586, 0x34028, 0x0, 1, .none, 1, 1, .rw⟩
/-- [0:0] RW, reset 1. Table 15-10. -/
def Fld.NVM_HALT_CFG.DRIVE_SW : Field := ⟨587, 0x34028, 0x0, 1, .none, 0, 1, .rw⟩

/-! ### NVM_HALT_STATUS at 0x3402C, Table 15-12 of file 15 -/

/-- [31:31] RO, reset 0. The halt state is in force. -/
def Fld.NVM_HALT_STATUS.ACTIVE : Field := ⟨588, 0x3402C, 0x0, 1, .none, 31, 1, .ro⟩
/-- [30:30] RO, reset 0. The controller drives HALT# low. -/
def Fld.NVM_HALT_STATUS.DRIVING : Field := ⟨589, 0x3402C, 0x0, 1, .none, 30, 1, .ro⟩
/-- [29:29] RO, reset 0. HALT# reads low. -/
def Fld.NVM_HALT_STATUS.PIN : Field := ⟨590, 0x3402C, 0x0, 1, .none, 29, 1, .ro⟩
/-- [4:0] RO, reset 0. [4] PIN, [3] WDT, [2] HELM, [1] IMAGE, [0] SW. -/
def Fld.NVM_HALT_STATUS.CAUSE : Field := ⟨591, 0x3402C, 0x0, 1, .none, 0, 5, .ro⟩

/-! ### NVM_WDT_CFG at 0x34030, Table 15-12 of file 15 -/

/-- [15:0] RW, reset 0. Under R466; 0 turns the watchdog off. -/
def Fld.NVM_WDT_CFG.PERIOD_MS : Field := ⟨592, 0x34030, 0x0, 1, .none, 0, 16, .rw⟩

/-! ### NVM_WDT_KICK at 0x34034, Table 15-12 of file 15 -/

/-- [31:0] WO, reset 0. 0x0000_6416 restarts the watchdog. -/
def Fld.NVM_WDT_KICK.KICK : Field := ⟨593, 0x34034, 0x0, 1, .none, 0, 32, .wo⟩

/-! ### SEC_STATUS at 0x2C000, Table 16-10 of file 16 -/

/-- [31:29] RO, reset from OTP. Code of Table 16-4. -/
def Fld.SEC_STATUS.LIFE_CYCLE : Field := ⟨594, 0x2C000, 0x0, 1, .none, 29, 3, .ro⟩
/-- [28:28] RO, reset from OTP. Under R487. -/
def Fld.SEC_STATUS.DEBUG_OPEN : Field := ⟨595, 0x2C000, 0x0, 1, .none, 28, 1, .ro⟩
/-- [27:27] RO, reset 0. At least one instance is in lockout under R478. SEC_FAIL.INSTANCE names the instance of the last failed check. -/
def Fld.SEC_STATUS.LOCKOUT : Field := ⟨596, 0x2C000, 0x0, 1, .none, 27, 1, .ro⟩
/-- [26:26] RO, reset 0. Under R480. -/
def Fld.SEC_STATUS.FLOOR_UNKNOWN : Field := ⟨597, 0x2C000, 0x0, 1, .none, 26, 1, .ro⟩
/-- [25:25] RO, reset 0. A journal write or erase is in progress. -/
def Fld.SEC_STATUS.JOURNAL_BUSY : Field := ⟨598, 0x2C000, 0x0, 1, .none, 25, 1, .ro⟩
/-- [24:24] RO, reset 0. A zeroization is in progress. -/
def Fld.SEC_STATUS.ZEROIZING : Field := ⟨599, 0x2C000, 0x0, 1, .none, 24, 1, .ro⟩
/-- [17:16] RO, reset from OTP. Active command key. -/
def Fld.SEC_STATUS.ACTIVE_KEY : Field := ⟨600, 0x2C000, 0x0, 1, .none, 16, 2, .ro⟩
/-- [15:15] RO, reset from OTP. A command key is active. -/
def Fld.SEC_STATUS.KEY_VALID : Field := ⟨601, 0x2C000, 0x0, 1, .none, 15, 1, .ro⟩

/-! ### SEC_EVENT at 0x2C004, Table 16-10 of file 16 -/

/-- [8:8] W1C, reset 0. Under R484. -/
def Fld.SEC_EVENT.SVN_ADVANCED : Field := ⟨602, 0x2C004, 0x0, 1, .none, 8, 1, .w1c⟩
/-- [7:7] W1C, reset 0. Under R479. -/
def Fld.SEC_EVENT.JOURNAL_FAULT : Field := ⟨603, 0x2C004, 0x0, 1, .none, 7, 1, .w1c⟩
/-- [6:6] W1C, reset 0. Under R491. -/
def Fld.SEC_EVENT.ZERO_FAULT : Field := ⟨604, 0x2C004, 0x0, 1, .none, 6, 1, .w1c⟩
/-- [5:5] W1C, reset 0. A full zeroization completed. -/
def Fld.SEC_EVENT.ZEROIZED : Field := ⟨605, 0x2C004, 0x0, 1, .none, 5, 1, .w1c⟩
/-- [4:4] W1C, reset 0. Under R489. -/
def Fld.SEC_EVENT.LIFE_CYCLE : Field := ⟨606, 0x2C004, 0x0, 1, .none, 4, 1, .w1c⟩
/-- [3:3] W1C, reset 0. A key was written, selected or revoked. -/
def Fld.SEC_EVENT.KEY_CHANGED : Field := ⟨607, 0x2C004, 0x0, 1, .none, 3, 1, .w1c⟩
/-- [2:2] W1C, reset 0. Under R478. -/
def Fld.SEC_EVENT.LOCKOUT : Field := ⟨608, 0x2C004, 0x0, 1, .none, 2, 1, .w1c⟩
/-- [1:1] W1C, reset 0. A check ended in COUNTER_STALE. -/
def Fld.SEC_EVENT.COUNTER_STALE : Field := ⟨609, 0x2C004, 0x0, 1, .none, 1, 1, .w1c⟩
/-- [0:0] W1C, reset 0. A check ended in AUTH_FAILED. -/
def Fld.SEC_EVENT.AUTH_FAILED : Field := ⟨610, 0x2C004, 0x0, 1, .none, 0, 1, .w1c⟩

/-! ### SEC_FAIL at 0x2C024, Table 16-10 of file 16 -/

/-- [31:24] RO, reset 0. Status of the last failed check. -/
def Fld.SEC_FAIL.STATUS : Field := ⟨611, 0x2C024, 0x0, 1, .none, 24, 8, .ro⟩
/-- [23:16] RO, reset 0. Its opcode. -/
def Fld.SEC_FAIL.OPCODE : Field := ⟨612, 0x2C024, 0x0, 1, .none, 16, 8, .ro⟩
/-- [11:0] RO, reset 0. Issuing instance. -/
def Fld.SEC_FAIL.INSTANCE : Field := ⟨613, 0x2C024, 0x0, 1, .none, 0, 12, .ro⟩

/-! ### SEC_AUTH_CNT at 0x2C028, Table 16-10 of file 16 -/

/-- [31:16] RC, reset 0. COUNTER_STALE results, saturating. -/
def Fld.SEC_AUTH_CNT.STALE : Field := ⟨614, 0x2C028, 0x0, 1, .none, 16, 16, .rc⟩
/-- [15:0] RC, reset 0. AUTH_FAILED results, saturating. -/
def Fld.SEC_AUTH_CNT.FAILED : Field := ⟨615, 0x2C028, 0x0, 1, .none, 0, 16, .rc⟩

/-! ### SEC_COUNTER_LO at 0x2C008, Table 16-11 of file 16 -/

/-- [31:0] RO, reset from journal. F [31:0]. -/
def Fld.SEC_COUNTER_LO.FLOOR_LO : Field := ⟨616, 0x2C008, 0x0, 1, .none, 0, 32, .ro⟩

/-! ### SEC_COUNTER_HI at 0x2C00C, Table 16-11 of file 16 -/

/-- [31:0] RO, reset from journal. F [63:32]. -/
def Fld.SEC_COUNTER_HI.FLOOR_HI : Field := ⟨617, 0x2C00C, 0x0, 1, .none, 0, 32, .ro⟩

/-! ### SEC_CEILING_LO at 0x2C010, Table 16-11 of file 16 -/

/-- [31:0] RO, reset from journal. C [31:0]. -/
def Fld.SEC_CEILING_LO.CEIL_LO : Field := ⟨618, 0x2C010, 0x0, 1, .none, 0, 32, .ro⟩

/-! ### SEC_CEILING_HI at 0x2C014, Table 16-11 of file 16 -/

/-- [31:0] RO, reset from journal. C [63:32]. -/
def Fld.SEC_CEILING_HI.CEIL_HI : Field := ⟨619, 0x2C014, 0x0, 1, .none, 0, 32, .ro⟩

/-! ### SEC_SVN at 0x2C018, Table 16-11 of file 16 -/

/-- [31:16] RO, reset 0. SVN of the image running. -/
def Fld.SEC_SVN.LOADED : Field := ⟨620, 0x2C018, 0x0, 1, .none, 16, 16, .ro⟩
/-- [8:0] RO, reset from OTP. SVN floor, 0–256. -/
def Fld.SEC_SVN.FLOOR : Field := ⟨621, 0x2C018, 0x0, 1, .none, 0, 9, .ro⟩

/-! ### SEC_KEYS at 0x2C01C, Table 16-11 of file 16 -/

/-- [17:17] RO, reset from OTP. Decryption key destroyed. -/
def Fld.SEC_KEYS.DEC_DESTROYED : Field := ⟨622, 0x2C01C, 0x0, 1, .none, 17, 1, .ro⟩
/-- [16:16] RO, reset from OTP. Decryption key present. -/
def Fld.SEC_KEYS.DEC_PRESENT : Field := ⟨623, 0x2C01C, 0x0, 1, .none, 16, 1, .ro⟩
/-- [15:12] RO, reset from OTP. Bit k: image key k revoked or destroyed. -/
def Fld.SEC_KEYS.IMG_REVOKED : Field := ⟨624, 0x2C01C, 0x0, 1, .none, 12, 4, .ro⟩
/-- [11:8] RO, reset from OTP. Bit k: image key k present. -/
def Fld.SEC_KEYS.IMG_PRESENT : Field := ⟨625, 0x2C01C, 0x0, 1, .none, 8, 4, .ro⟩
/-- [7:4] RO, reset from OTP. Bit k: command key k revoked or destroyed. -/
def Fld.SEC_KEYS.CMD_REVOKED : Field := ⟨626, 0x2C01C, 0x0, 1, .none, 4, 4, .ro⟩
/-- [3:0] RO, reset from OTP. Bit k: command key k present. -/
def Fld.SEC_KEYS.CMD_PRESENT : Field := ⟨627, 0x2C01C, 0x0, 1, .none, 0, 4, .ro⟩

/-! ### SEC_CRIT_EXTRA at 0x2C020, Table 16-11 of file 16 -/

/-- [31:16] WO, reset 0. Bit g adds group g of Table 16-2 under R472. -/
def Fld.SEC_CRIT_EXTRA.ADD : Field := ⟨628, 0x2C020, 0x0, 1, .none, 16, 16, .wo⟩
/-- [15:0] RO, reset from OTP. Groups in force. -/
def Fld.SEC_CRIT_EXTRA.GROUPS : Field := ⟨629, 0x2C020, 0x0, 1, .none, 0, 16, .ro⟩

/-! ### SEC_DEVICE_ID_LO at 0x2C030, Table 16-11 of file 16 -/

/-- [31:0] RO, reset from OTP. DEVICE_ID [31:0]. -/
def Fld.SEC_DEVICE_ID_LO.ID_LO : Field := ⟨630, 0x2C030, 0x0, 1, .none, 0, 32, .ro⟩

/-! ### SEC_DEVICE_ID_HI at 0x2C034, Table 16-11 of file 16 -/

/-- [31:0] RO, reset from OTP. DEVICE_ID [63:32]. -/
def Fld.SEC_DEVICE_ID_HI.ID_HI : Field := ⟨631, 0x2C034, 0x0, 1, .none, 0, 32, .ro⟩

/-! ### SEC_KEY_FP at 0x2C040, Table 16-11 of file 16 -/

/-- [31:0] RO, reset from OTP. Fingerprint of command key k; 0 when absent or destroyed. -/
def Fld.SEC_KEY_FP.FP : Field := ⟨632, 0x2C040, 0x4, 4, .none, 0, 32, .ro⟩

/-! ### SEC_IMG_FP at 0x2C050, Table 16-11 of file 16 -/

/-- [31:0] RO, reset from OTP. Fingerprint of image key k; 0 when absent or destroyed. -/
def Fld.SEC_IMG_FP.FP : Field := ⟨633, 0x2C050, 0x4, 4, .none, 0, 32, .ro⟩

/-! ### ALM_CFG at 0x30000, Table 17-9 of file 17 -/

/-- [31:16] RW, reset 60. Under R507; 0 acts as 1. -/
def Fld.ALM_CFG.SAVE_MIN : Field := ⟨634, 0x30000, 0x0, 1, .none, 16, 16, .rw⟩
/-- [3:3] RW, reset 0. Under R504. -/
def Fld.ALM_CFG.AUTO_BURN : Field := ⟨635, 0x30000, 0x0, 1, .none, 3, 1, .rw⟩
/-- [2:2] RW, reset 0. Under R499. -/
def Fld.ALM_CFG.CDR_NOW : Field := ⟨636, 0x30000, 0x0, 1, .none, 2, 1, .rw⟩
/-- [1:1] RW, reset 0. Under R499. -/
def Fld.ALM_CFG.CH_NOW : Field := ⟨637, 0x30000, 0x0, 1, .none, 1, 1, .rw⟩
/-- [0:0] RW, reset 0. Under R499. -/
def Fld.ALM_CFG.HELM_NOW : Field := ⟨638, 0x30000, 0x0, 1, .none, 0, 1, .rw⟩

/-! ### ALM_STATUS at 0x30004, Table 17-9 of file 17 -/

/-- [5:5] RO, reset 0. Under R506. -/
def Fld.ALM_STATUS.NO_RECORD : Field := ⟨639, 0x30004, 0x0, 1, .none, 5, 1, .ro⟩
/-- [4:4] RO, reset 0. Under R504. -/
def Fld.ALM_STATUS.OTP_FULL : Field := ⟨640, 0x30004, 0x0, 1, .none, 4, 1, .ro⟩
/-- [3:3] RO, reset 0. A record is being written. -/
def Fld.ALM_STATUS.SAVING : Field := ⟨641, 0x30004, 0x0, 1, .none, 3, 1, .ro⟩
/-- [2:2] RO, reset 0. A swap or row repair is in progress. -/
def Fld.ALM_STATUS.SWAP_BUSY : Field := ⟨642, 0x30004, 0x0, 1, .none, 2, 1, .ro⟩
/-- [1:1] RO, reset 0. A completed swap awaits burning. -/
def Fld.ALM_STATUS.UNBURNED : Field := ⟨643, 0x30004, 0x0, 1, .none, 1, 1, .ro⟩
/-- [0:0] RO, reset 0. A unit is pending. -/
def Fld.ALM_STATUS.PENDING : Field := ⟨644, 0x30004, 0x0, 1, .none, 0, 1, .ro⟩

/-! ### ALM_SPARES at 0x30008, Table 17-9 of file 17 -/

/-- [31:23] RO, reset from OTP. Blank entries, 0–384. -/
def Fld.ALM_SPARES.OTP_FREE : Field := ⟨645, 0x30008, 0x0, 1, .none, 23, 9, .ro⟩
/-- [22:14] RO, reset 448. Spare rows unused. -/
def Fld.ALM_SPARES.ROWS_FREE : Field := ⟨646, 0x30008, 0x0, 1, .none, 14, 9, .ro⟩
/-- [10:8] RO, reset 4. as named. -/
def Fld.ALM_SPARES.CH_FREE : Field := ⟨647, 0x30008, 0x0, 1, .none, 8, 3, .ro⟩
/-- [5:4] RO, reset 2. as named. -/
def Fld.ALM_SPARES.CDR_FREE : Field := ⟨648, 0x30008, 0x0, 1, .none, 4, 2, .ro⟩
/-- [1:0] RO, reset 2. as named. -/
def Fld.ALM_SPARES.HELM_FREE : Field := ⟨649, 0x30008, 0x0, 1, .none, 0, 2, .ro⟩

/-! ### ALM_EVENT at 0x3000C, Table 17-9 of file 17 -/

/-- [6:6] W1C, reset 0. Under R507. -/
def Fld.ALM_EVENT.SAVE_FAULT : Field := ⟨650, 0x3000C, 0x0, 1, .none, 6, 1, .w1c⟩
/-- [5:5] W1C, reset 0. Under R504. -/
def Fld.ALM_EVENT.OTP_FAULT : Field := ⟨651, 0x3000C, 0x0, 1, .none, 5, 1, .w1c⟩
/-- [4:4] W1C, reset 0. Under R501. -/
def Fld.ALM_EVENT.ROW_REPAIRED : Field := ⟨652, 0x3000C, 0x0, 1, .none, 4, 1, .w1c⟩
/-- [3:3] W1C, reset 0. Under R502. -/
def Fld.ALM_EVENT.NO_SPARE : Field := ⟨653, 0x3000C, 0x0, 1, .none, 3, 1, .w1c⟩
/-- [2:2] W1C, reset 0. A swap completed. -/
def Fld.ALM_EVENT.SWAPPED : Field := ⟨654, 0x3000C, 0x0, 1, .none, 2, 1, .w1c⟩
/-- [1:1] W1C, reset 0. Under R498. -/
def Fld.ALM_EVENT.ACT : Field := ⟨655, 0x3000C, 0x0, 1, .none, 1, 1, .w1c⟩
/-- [0:0] W1C, reset 0. Under R498. -/
def Fld.ALM_EVENT.WARN : Field := ⟨656, 0x3000C, 0x0, 1, .none, 0, 1, .w1c⟩

/-! ### ALM_INDEX at 0x30010, Table 17-10 of file 17 -/

/-- [18:16] RW, reset 1. Code of Table 17-1. -/
def Fld.ALM_INDEX.KIND : Field := ⟨657, 0x30010, 0x0, 1, .none, 16, 3, .rw⟩
/-- [15:8] RW, reset 0. Row, for KIND 4. -/
def Fld.ALM_INDEX.ROW : Field := ⟨658, 0x30010, 0x0, 1, .none, 8, 8, .rw⟩
/-- [7:0] RW, reset 0. Physical unit or array. -/
def Fld.ALM_INDEX.UNIT : Field := ⟨659, 0x30010, 0x0, 1, .none, 0, 8, .rw⟩

/-! ### ALM_UNIT at 0x30014, Table 17-10 of file 17 -/

/-- [31:31] RO, reset 0. Under R498. -/
def Fld.ALM_UNIT.PENDING : Field := ⟨660, 0x30014, 0x0, 1, .none, 31, 1, .ro⟩
/-- [30:30] RO, reset 0. as named. -/
def Fld.ALM_UNIT.RETIRED : Field := ⟨661, 0x30014, 0x0, 1, .none, 30, 1, .ro⟩
/-- [29:29] RO, reset 0. The unit serves a logical number. -/
def Fld.ALM_UNIT.IN_USE : Field := ⟨662, 0x30014, 0x0, 1, .none, 29, 1, .ro⟩
/-- [23:16] RO, reset 0. Logical helm or channel, or lane n; 0xFF none. -/
def Fld.ALM_UNIT.LOGICAL : Field := ⟨663, 0x30014, 0x0, 1, .none, 16, 8, .ro⟩
/-- [15:0] RO, reset 0. TCM_CE, CH_PE or ROW_CE of the window, saturating. -/
def Fld.ALM_UNIT.WINDOW_CE : Field := ⟨664, 0x30014, 0x0, 1, .none, 0, 16, .ro⟩

/-! ### ALM_MON at 0x30018, Table 17-10 of file 17 -/

/-- [31:16] RO, reset 0. Helms, unit 0.01 %. -/
def Fld.ALM_MON.AGE : Field := ⟨665, 0x30018, 0x0, 1, .none, 16, 16, .ro⟩
/-- [15:8] RO, reset 0. CDR slices, 1/64 UI. -/
def Fld.ALM_MON.EYE_FIRST : Field := ⟨666, 0x30018, 0x0, 1, .none, 8, 8, .ro⟩
/-- [7:0] RO, reset 0. CDR slices, 1/64 UI. -/
def Fld.ALM_MON.EYE_LAST : Field := ⟨667, 0x30018, 0x0, 1, .none, 0, 8, .ro⟩

/-! ### ALM_THRESH at 0x30020, Table 17-10 of file 17 -/

/-- [31:16] RW, reset Table 17-2. 0 acts as 1. -/
def Fld.ALM_THRESH.ACT : Field := ⟨668, 0x30020, 0x4, 5, .none, 16, 16, .rw⟩
/-- [15:0] RW, reset Table 17-2. 0 turns the warning off. -/
def Fld.ALM_THRESH.WARN : Field := ⟨669, 0x30020, 0x4, 5, .none, 0, 16, .rw⟩

/-! ### ALM_LAST at 0x30040, Table 17-10 of file 17 -/

/-- [31:0] RO, reset 0. Detail word of the last SPARE_SWAPPED. -/
def Fld.ALM_LAST.DETAIL : Field := ⟨670, 0x30040, 0x0, 1, .none, 0, 32, .ro⟩

/-! ### ALM_SEQ at 0x30044, Table 17-10 of file 17 -/

/-- [31:0] RO, reset from record. SEQ of the newest record. -/
def Fld.ALM_SEQ.SEQ : Field := ⟨671, 0x30044, 0x0, 1, .none, 0, 32, .ro⟩

/-! ### ID_DEVICE at 0x00000, Table 18-9 of file 18 -/

/-- [31:16] RO, reset 0x6416. Device ID of PF0. -/
def Fld.ID_DEVICE.DEVICE : Field := ⟨672, 0x00000, 0x0, 1, .none, 16, 16, .ro⟩
/-- [15:0] RO, reset 0x1F6E. Vendor ID. -/
def Fld.ID_DEVICE.VENDOR : Field := ⟨673, 0x00000, 0x0, 1, .none, 0, 16, .ro⟩

/-! ### ID_REVISION at 0x00004, Table 18-9 of file 18 -/

/-- [31:16] RO, reset 0x6417. VF Device ID. -/
def Fld.ID_REVISION.VF_DEVICE : Field := ⟨674, 0x00004, 0x0, 1, .none, 16, 16, .ro⟩
/-- [7:0] RO, reset 0xB0. Stepping B0. -/
def Fld.ID_REVISION.REVISION : Field := ⟨675, 0x00004, 0x0, 1, .none, 0, 8, .ro⟩

/-! ### ID_CAPS_PORT at 0x00008, Table 18-9 of file 18 -/

/-- [23:16] RO, reset 3. SYNC_UP, SYNC_DN, MIRROR. -/
def Fld.ID_CAPS_PORT.AUX_LANES : Field := ⟨676, 0x00008, 0x0, 1, .none, 16, 8, .ro⟩
/-- [15:8] RO, reset 21. Under R96. -/
def Fld.ID_CAPS_PORT.CDR_SLICES : Field := ⟨677, 0x00008, 0x0, 1, .none, 8, 8, .ro⟩
/-- [7:0] RO, reset 16. P0–P15. -/
def Fld.ID_CAPS_PORT.ROOT_PORTS : Field := ⟨678, 0x00008, 0x0, 1, .none, 0, 8, .ro⟩

/-! ### ID_CAPS_CORE at 0x0000C, Table 18-9 of file 18 -/

/-- [31:24] RO, reset 4. as named. -/
def Fld.ID_CAPS_CORE.DMA_SPARES : Field := ⟨679, 0x0000C, 0x0, 1, .none, 24, 8, .ro⟩
/-- [23:16] RO, reset 64. Logical channels. -/
def Fld.ID_CAPS_CORE.DMA_CHANNELS : Field := ⟨680, 0x0000C, 0x0, 1, .none, 16, 8, .ro⟩
/-- [15:8] RO, reset 2. as named. -/
def Fld.ID_CAPS_CORE.HELM_SPARES : Field := ⟨681, 0x0000C, 0x0, 1, .none, 8, 8, .ro⟩
/-- [7:0] RO, reset 16. Logical helms. -/
def Fld.ID_CAPS_CORE.HELMS : Field := ⟨682, 0x0000C, 0x0, 1, .none, 0, 8, .ro⟩

/-! ### ID_CAPS_CHART at 0x00010, Table 18-9 of file 18 -/

/-- [31:16] RO, reset 16,384. Legs per chart. -/
def Fld.ID_CAPS_CHART.LEGS : Field := ⟨683, 0x00010, 0x0, 1, .none, 16, 16, .ro⟩
/-- [15:0] RO, reset 64. Smallest tick in slots. -/
def Fld.ID_CAPS_CHART.MIN_N : Field := ⟨684, 0x00010, 0x0, 1, .none, 0, 16, .ro⟩

/-! ### ID_CAPS_HOST at 0x00014, Table 18-9 of file 18 -/

/-- [27:16] RO, reset 4,095. Highest instance number. -/
def Fld.ID_CAPS_HOST.MAX_INSTANCE : Field := ⟨685, 0x00014, 0x0, 1, .none, 16, 12, .ro⟩
/-- [15:8] RO, reset 255. as named. -/
def Fld.ID_CAPS_HOST.MAX_VFS : Field := ⟨686, 0x00014, 0x0, 1, .none, 8, 8, .ro⟩

/-! ### GBL_CTRL at 0x01000, Table 18-10 of file 18 -/

/-- [0:0] RW, reset 0. Asserts FAULT#. -/
def Fld.GBL_CTRL.FAULT_SW : Field := ⟨687, 0x01000, 0x0, 1, .none, 0, 1, .rw⟩

/-! ### GBL_FAULT at 0x01004, Table 18-10 of file 18 -/

/-- [3:3] W1C, reset 0. Under R523. -/
def Fld.GBL_FAULT.PCIE_FATAL : Field := ⟨688, 0x01004, 0x0, 1, .none, 3, 1, .w1c⟩
/-- [2:2] RO, reset 0. SEC_EVENT.ZERO_FAULT is 1. -/
def Fld.GBL_FAULT.ZERO_FAULT : Field := ⟨689, 0x01004, 0x0, 1, .none, 2, 1, .ro⟩
/-- [1:1] RO, reset 0. NVM_STATUS.STATE is NO_IMAGE. -/
def Fld.GBL_FAULT.NO_IMAGE : Field := ⟨690, 0x01004, 0x0, 1, .none, 1, 1, .ro⟩
/-- [0:0] RO, reset 0. FAULT_SW. -/
def Fld.GBL_FAULT.SW : Field := ⟨691, 0x01004, 0x0, 1, .none, 0, 1, .ro⟩

/-! ### GBL_ERR_SUMMARY at 0x01008, Table 18-10 of file 18 -/

/-- [31:0] RO, reset 0. Bit s: the input of ICU source s is high, s = 0–31. -/
def Fld.GBL_ERR_SUMMARY.SOURCES : Field := ⟨692, 0x01008, 0x0, 1, .none, 0, 32, .ro⟩

/-! ### GBL_PCIE_STATUS at 0x0100C, Table 18-10 of file 18 -/

/-- [31:24] RO, reset 0. VF of the last VF FLR. -/
def Fld.GBL_PCIE_STATUS.LAST_FLR_VF : Field := ⟨693, 0x0100C, 0x0, 1, .none, 24, 8, .ro⟩
/-- [23:16] RO, reset 0. NumVFs. -/
def Fld.GBL_PCIE_STATUS.NUM_VFS : Field := ⟨694, 0x0100C, 0x0, 1, .none, 16, 8, .ro⟩
/-- [15:15] RO, reset 0. as named. -/
def Fld.GBL_PCIE_STATUS.VF_ENABLE : Field := ⟨695, 0x0100C, 0x0, 1, .none, 15, 1, .ro⟩
/-- [11:11] RO, reset 0. Data link layer active. -/
def Fld.GBL_PCIE_STATUS.DL_ACTIVE : Field := ⟨696, 0x0100C, 0x0, 1, .none, 11, 1, .ro⟩
/-- [10:10] RO, reset 0. as named. -/
def Fld.GBL_PCIE_STATUS.LINK_UP : Field := ⟨697, 0x0100C, 0x0, 1, .none, 10, 1, .ro⟩
/-- [9:4] RO, reset 0. Negotiated lanes. -/
def Fld.GBL_PCIE_STATUS.WIDTH : Field := ⟨698, 0x0100C, 0x0, 1, .none, 4, 6, .ro⟩
/-- [3:0] RO, reset 0. 1 2.5, 2 5, 3 8, 4 16 GT/s. -/
def Fld.GBL_PCIE_STATUS.SPEED : Field := ⟨699, 0x0100C, 0x0, 1, .none, 0, 4, .ro⟩

/-! ### GBL_PCIE_EVENT at 0x01010, Table 18-10 of file 18 -/

/-- [9:9] W1C, reset 0. Poisoned data received, Table 18-5. -/
def Fld.GBL_PCIE_EVENT.POISONED : Field := ⟨700, 0x01010, 0x0, 1, .none, 9, 1, .w1c⟩
/-- [8:8] W1C, reset 0. Under R518. -/
def Fld.GBL_PCIE_EVENT.PASID_IGNORED : Field := ⟨701, 0x01010, 0x0, 1, .none, 8, 1, .w1c⟩
/-- [7:7] W1C, reset 0. Under R523. -/
def Fld.GBL_PCIE_EVENT.AER_LOGGED : Field := ⟨702, 0x01010, 0x0, 1, .none, 7, 1, .w1c⟩
/-- [6:6] W1C, reset 0. Under R521. -/
def Fld.GBL_PCIE_EVENT.VF_ENABLE_CHANGED : Field := ⟨703, 0x01010, 0x0, 1, .none, 6, 1, .w1c⟩
/-- [5:5] W1C, reset 0. A function's Bus Master Enable was written 0. -/
def Fld.GBL_PCIE_EVENT.BME_CLEARED : Field := ⟨704, 0x01010, 0x0, 1, .none, 5, 1, .w1c⟩
/-- [4:4] W1C, reset 0. Under R521. -/
def Fld.GBL_PCIE_EVENT.FLR_VF : Field := ⟨705, 0x01010, 0x0, 1, .none, 4, 1, .w1c⟩
/-- [3:3] W1C, reset 0. Under R520. -/
def Fld.GBL_PCIE_EVENT.FLR_PF : Field := ⟨706, 0x01010, 0x0, 1, .none, 3, 1, .w1c⟩
/-- [2:2] W1C, reset 0. The link trained below x8 or below 16 GT/s. -/
def Fld.GBL_PCIE_EVENT.DEGRADED : Field := ⟨707, 0x01010, 0x0, 1, .none, 2, 1, .w1c⟩
/-- [1:1] W1C, reset 0. as named. -/
def Fld.GBL_PCIE_EVENT.LINK_DOWN : Field := ⟨708, 0x01010, 0x0, 1, .none, 1, 1, .w1c⟩
/-- [0:0] W1C, reset 0. as named. -/
def Fld.GBL_PCIE_EVENT.LINK_UP : Field := ⟨709, 0x01010, 0x0, 1, .none, 0, 1, .w1c⟩

/-! ### GBL_WIN_SAFE at 0x01014, Table 18-10 of file 18 -/

/-- [31:31] RW, reset 0. Under R526. -/
def Fld.GBL_WIN_SAFE.BANK : Field := ⟨710, 0x01014, 0x0, 1, .none, 31, 1, .rw⟩
/-- [13:0] RW, reset 0. Chart entry index. -/
def Fld.GBL_WIN_SAFE.ENTRY : Field := ⟨711, 0x01014, 0x0, 1, .none, 0, 14, .rw⟩

/-! ### GBL_WIN_PIPE at 0x01018, Table 18-10 of file 18 -/

/-- [5:0] RW, reset 0. Pipe-context window, in units of 2,048 contexts. -/
def Fld.GBL_WIN_PIPE.BASE : Field := ⟨712, 0x01018, 0x0, 1, .none, 0, 6, .rw⟩

/-! ### GBL_SCRATCH at 0x0101C, Table 18-10 of file 18 -/

/-- [31:0] RW, reset 0. Free for software; cleared by every reset but HOST. -/
def Fld.GBL_SCRATCH.DATA : Field := ⟨713, 0x0101C, 0x0, 1, .none, 0, 32, .rw⟩

/-! ### The whole table, in pieces of 34 rows -/

/-- Rows 0 to 33 of the field table. -/
def fieldTable0 : List Field :=
  [Fld.CHR_CTRL.MERID_OUT_EN,
   Fld.CHR_CTRL.PPS_EN,
   Fld.CHR_CTRL.MERID_ALIGN,
   Fld.CHR_CTRL.SERVO_EN,
   Fld.CHR_STATUS.SHADOW_BUSY,
   Fld.CHR_STATUS.SYNC_LOST,
   Fld.CHR_STATUS.PPS_OUTLIER,
   Fld.CHR_STATUS.PPS_MISSED,
   Fld.CHR_STATUS.STEP_DONE,
   Fld.CHR_STATUS.SSC_BLOCKED,
   Fld.CHR_STATUS.EPOCH,
   Fld.CHR_STATUS.SSC_ACTIVE,
   Fld.CHR_STATUS.DEGRADED,
   Fld.CHR_STATUS.TIME_STATE,
   Fld.CHR_TIME_LO.NS_LO,
   Fld.CHR_TIME_HI.NS_HI,
   Fld.CHR_TIME_FRAC.FRAC,
   Fld.CHR_TICK_LO.TICK_LO,
   Fld.CHR_TICK_HI.TICK_HI,
   Fld.CHR_RATE_TRIM.TRIM,
   Fld.CHR_STEP_LO.STEP_LO,
   Fld.CHR_STEP_HI.STEP_HI,
   Fld.CHR_SSC.SSC_DEPTH,
   Fld.CHR_SSC.SSC_EN,
   Fld.CHR_COMMIT.PENDING,
   Fld.CHR_COMMIT.COMMIT,
   Fld.CHR_MERID_OUT_CFG.PPS_MODE,
   Fld.CHR_MERID_OUT_CFG.WIDTH,
   Fld.CHR_MERID_OUT_CFG.DIVIDER,
   Fld.CHR_PPS_CFG.TCONST,
   Fld.CHR_PPS_CFG.WINDOW,
   Fld.CHR_PPS_OFFSET.OFFSET,
   Fld.CHR_PPS_ERROR.ERROR,
   Fld.CHR_SYNC_CFG.ROLE]

/-- Rows 34 to 67 of the field table. -/
def fieldTable1 : List Field :=
  [Fld.CHR_SYNC_ASYM.ASYM,
   Fld.CHR_SYNC_STATUS.OFFSET,
   Fld.CHR_SYNC_STATUS.DEPTH_LIMIT,
   Fld.CHR_SYNC_STATUS.UP_LOCKED,
   Fld.CHR_SYNC_STATUS.DEPTH,
   Fld.CHR_HOLDOVER.EST_NS,
   Fld.CHR_HOLDOVER_CFG.LIMIT_NS,
   Fld.CHR_HOLDOVER_CFG.PPB,
   Fld.CHR_FIX_CFG.REPORT_MS,
   Fld.CHR_FIX_CFG.REFRESH_MS,
   Fld.LNK_CTRL.WAKE_REMOTE,
   Fld.LNK_CTRL.FULL_RETRAIN,
   Fld.LNK_CTRL.RETRAIN,
   Fld.LNK_CTRL.FOGHORN_WAKE,
   Fld.LNK_CTRL.LOW_POWER,
   Fld.LNK_CTRL.ENABLE,
   Fld.LNK_CFG.MAX_ATTEMPTS,
   Fld.LNK_CFG.SW_ALIGN,
   Fld.LNK_CFG.EQ_FIXED,
   Fld.LNK_CFG.MAX_GEN,
   Fld.LNK_STATUS.FUNC_STATE,
   Fld.LNK_STATUS.PENDING_ENABLE,
   Fld.LNK_STATUS.ATTEMPTS,
   Fld.LNK_STATUS.GEN,
   Fld.LNK_STATUS.LEGACY,
   Fld.LNK_STATUS.LOS,
   Fld.LNK_STATUS.PEER_KIND,
   Fld.LNK_STATUS.PEER_MAX_GEN,
   Fld.LNK_STATUS.PEER_FIX,
   Fld.LNK_STATUS.PEER_EQ,
   Fld.LNK_STATUS.STATE,
   Fld.LNK_EQ_CFG.TX_DEEMPH,
   Fld.LNK_EQ_CFG.RX_CTLE,
   Fld.LNK_EQ_RESULT.EYE]

/-- Rows 68 to 101 of the field table. -/
def fieldTable2 : List Field :=
  [Fld.LNK_EQ_RESULT.FALLBACKS,
   Fld.LNK_EQ_RESULT.TX_DEEMPH,
   Fld.LNK_EQ_RESULT.RX_CTLE,
   Fld.LNK_ALIGN.OFFSET,
   Fld.LNK_ALIGN.LOCKED,
   Fld.LNK_ALIGN.COMMAS,
   Fld.LNK_ALIGN.SLIP,
   Fld.LNK_ERR_CNT.CODE_ERR,
   Fld.LNK_ERR_CNT.TYPE_ERR,
   Fld.LNK_ERR_CNT.FRAME_ERR,
   Fld.LNK_ERR_CFG.WINDOW_US,
   Fld.LNK_ERR_CFG.THRESH,
   Fld.LNK_EVENT.CDR_SWAPPED,
   Fld.LNK_EVENT.FOGHORN_SEEN,
   Fld.LNK_EVENT.MISWIRED,
   Fld.LNK_EVENT.ATTEMPT_FAILED,
   Fld.LNK_EVENT.FALLBACK,
   Fld.LNK_EVENT.LANE_LOST,
   Fld.LNK_EVENT.RETRAINED,
   Fld.LNK_EVENT.LINK_UP,
   Fld.LNK_CDR_MAP.SLICE,
   Fld.LNK_TRAIN_TIME.US,
   Fld.TRE_CTRL.STICKY,
   Fld.TRE_CTRL.ENUM_EN,
   Fld.TRE_CFG.HUB_INTERVAL,
   Fld.TRE_CFG.ENUM_RETRIES,
   Fld.TRE_CFG.ENUM_STEP_US,
   Fld.TRE_STATUS.ENUM_FAILED,
   Fld.TRE_STATUS.ENUMERATING,
   Fld.TRE_COUNT.ABSENT,
   Fld.TRE_COUNT.PRESENT,
   Fld.TRE_EVENT.ROUTE_MISS,
   Fld.TRE_EVENT.COLLISION,
   Fld.TRE_EVENT.DEPTH_EXCEEDED]

/-- Rows 102 to 135 of the field table. -/
def fieldTable3 : List Field :=
  [Fld.TRE_EVENT.ADDR_FULL,
   Fld.TRE_EVENT.ENUM_FAILED,
   Fld.TRE_EVENT.SUSPECT,
   Fld.TRE_EVENT.QUARANTINE,
   Fld.TRE_EVENT.DETACH,
   Fld.TRE_EVENT.ATTACH,
   Fld.TRE_NODE_INDEX.INDEX,
   Fld.TRE_NODE_DATA.DATA,
   Fld.TRE_NODE_CMD.QUARANTINE,
   Fld.TRE_NODE_CMD.RELEASE,
   Fld.TRE_NODE_CMD.FORGET,
   Fld.TRE_NODE_CMD.WRITE,
   Fld.TRE_NODE_STATUS.DONE,
   Fld.TRE_NODE_STATUS.REFUSED,
   Fld.TRE_NODE_STATUS.BUSY,
   Fld.TRE_ENUM_RETRY.PORTS,
   Fld.TRE_ENUM_STATE.STEP,
   Fld.TRE_ENUM_STATE.LAST_STATUS,
   Fld.TRE_ENUM_STATE.HUB_PORT,
   Fld.TRE_ENUM_STATE.PARENT,
   Fld.CHT_CTRL.ADMIT_EN,
   Fld.CHT_CTRL.EDIT_OPEN,
   Fld.CHT_CTRL.RUN,
   Fld.CHT_STATUS.COMMIT_REFUSED,
   Fld.CHT_STATUS.EDIT_CLOSED,
   Fld.CHT_STATUS.SHADOW_BUSY,
   Fld.CHT_STATUS.SHADOW_VALID,
   Fld.CHT_STATUS.REPLAYING,
   Fld.CHT_STATUS.PENDING,
   Fld.CHT_STATUS.RUNNING,
   Fld.CHT_STATUS.ACTIVE_BANK,
   Fld.CHT_COMMIT.COMMIT,
   Fld.CHT_TICK_LEN.ACTIVE_N,
   Fld.CHT_TICK_LEN.N]

/-- Rows 136 to 169 of the field table. -/
def fieldTable4 : List Field :=
  [Fld.CHT_CHECK.REASON,
   Fld.CHT_CHECK.INDEX,
   Fld.CHT_COUNT.SHADOW,
   Fld.CHT_COUNT.ACTIVE,
   Fld.CHT_LEG_BUF.BYTES,
   Fld.CHT_COMMIT_SEQ.SEQ,
   Fld.CHT_ADMIT.BUSY,
   Fld.CHT_ADMIT.WAITING,
   Fld.CHT_EVENT.STRAY,
   Fld.CHT_EVENT.HELD,
   Fld.CHT_EVENT.OVERRUN,
   Fld.CHT_EVENT.SHORT,
   Fld.CHT_EVENT.MISS,
   Fld.CHT_EVENT.PATH_TOO_SLOW,
   Fld.CHT_EVENT.REFUSED,
   Fld.CHT_EVENT.COMMITTED,
   Fld.CHT_RESERVE.PERCENT,
   Fld.CHT_PEAK.IN_PEAK,
   Fld.CHT_PEAK.OUT_PEAK,
   Fld.CHT_MISS_CNT.COUNT,
   Fld.CHT_SHORT_CNT.COUNT,
   Fld.CHT_HELD_CNT.COUNT,
   Fld.CHT_OVERRUN_CNT.COUNT,
   Fld.CHT_STRAY_CNT.COUNT,
   Fld.HLM_CTRL.ENABLE,
   Fld.HLM_STATUS.FUNC_STATE,
   Fld.HLM_STATUS.PENDING_ENABLE,
   Fld.HLM_STATUS.IN_TASK,
   Fld.HLM_STATUS.PRIO,
   Fld.HLM_STATUS.TASK,
   Fld.HLM_STATUS.NOPREEMPT_HELD,
   Fld.HLM_STATUS.DEPTH,
   Fld.HLM_STATUS.LOGICAL,
   Fld.HLM_EVENT.OVERHOLD]

/-- Rows 170 to 203 of the field table. -/
def fieldTable5 : List Field :=
  [Fld.HLM_EVENT.LOAD_REFUSED,
   Fld.HLM_EVENT.ECC_FATAL,
   Fld.HLM_EVENT.ECC_CORRECTED,
   Fld.HLM_EVENT.TASK_TRAP,
   Fld.HLM_EVENT.ERROR,
   Fld.HLM_EVENT.ENABLED,
   Fld.HLM_TRAP.TASK,
   Fld.HLM_TRAP.CAUSE,
   Fld.HLM_TRAP_PC.PC,
   Fld.HLM_LOAD.PEAK,
   Fld.HLM_LOAD.LAST,
   Fld.HLM_RESET_VEC.VECTOR,
   Fld.TSK_CTRL.RUN,
   Fld.TSK_STATUS.ENABLED,
   Fld.TSK_STATUS.READY,
   Fld.TSK_EVENT.CMD_REFUSED,
   Fld.TSK_EVENT.OVERHOLD,
   Fld.TSK_EVENT.EXTRA,
   Fld.TSK_EVENT.SKIPPED,
   Fld.TSK_EVENT.TRAP,
   Fld.TSK_EVENT.LATE,
   Fld.TSK_INDEX.INDEX,
   Fld.TSK_LATE_TOTAL.COUNT,
   Fld.TSK_DESC.DATA,
   Fld.TSK_CMD.KICK,
   Fld.TSK_CMD.CLEAR_STATS,
   Fld.TSK_CMD.DISABLE,
   Fld.TSK_CMD.ENABLE,
   Fld.TSK_CMD.WRITE,
   Fld.TSK_CMD_STATUS.DONE,
   Fld.TSK_CMD_STATUS.REFUSED,
   Fld.TSK_CMD_STATUS.BUSY,
   Fld.TSK_STATE.DATA,
   Fld.TSK_SEM_CFG.NOPREEMPT]

/-- Rows 204 to 237 of the field table. -/
def fieldTable6 : List Field :=
  [Fld.TSK_SEM_CFG.SHARED,
   Fld.TSK_SEM_CFG.OWNER,
   Fld.TSK_SEM_CFG.HOLD_LIMIT,
   Fld.TSK_SEM_STATE.HELD,
   Fld.TSK_SEM_STATE.BY_TASK,
   Fld.TSK_SEM_STATE.HELM,
   Fld.TSK_SEM_STATE.TASK,
   Fld.DMA_CTRL.AGE_US,
   Fld.DMA_STATUS.STAGE_KIB,
   Fld.DMA_STATUS.NP_USED,
   Fld.DMA_EVENT.STAGE_STALL,
   Fld.DMA_EVENT.NP_STALL,
   Fld.DMA_EVENT.CH_FAULT,
   Fld.DMA_EVENT.PI_LATE,
   Fld.DMA_EVENT.PI_FAULT,
   Fld.DMA_STALL_CNT.NP,
   Fld.DMA_STALL_CNT.STAGE,
   Fld.DMA_PI_INDEX.INSTANCE,
   Fld.DMA_PI_BASE_LO.BASE_LO,
   Fld.DMA_PI_BASE_HI.BASE_HI,
   Fld.DMA_PI_CFG.HALF_SLOT,
   Fld.DMA_PI_CFG.SIZE,
   Fld.DMA_PI_CFG.ENABLE,
   Fld.DMA_PI_PASID.PASID_EN,
   Fld.DMA_PI_PASID.PASID,
   Fld.DMA_PI_STATUS.WRITE_FAULT,
   Fld.DMA_PI_STATUS.STAMP_MISS,
   Fld.DMA_PI_STATUS.UNMAPPED,
   Fld.DMA_PI_STATUS.CFG_REFUSED,
   Fld.DMA_PI_STATUS.LATE,
   Fld.DMA_PI_STATUS.READ_FAULT,
   Fld.DMA_PI_STATUS.ACTIVE,
   Fld.DMA_PI_MISS_CNT.COUNT,
   Fld.DMA_PI_LATE_CNT.COUNT]

/-- Rows 238 to 271 of the field table. -/
def fieldTable7 : List Field :=
  [Fld.DMA_PI_FAULT_CNT.COUNT,
   Fld.DMA_ROUTE_INDEX.ROUTE,
   Fld.DMA_ROUTE_SRC.OWNER,
   Fld.DMA_ROUTE_SRC.OFFSET,
   Fld.DMA_ROUTE_DST.BUF1,
   Fld.DMA_ROUTE_DST.BUF0,
   Fld.DMA_ROUTE_CFG.ENABLE,
   Fld.DMA_ROUTE_CFG.HELM,
   Fld.DMA_ROUTE_CFG.LENGTH,
   Fld.DMA_CH_CTRL.ABORT,
   Fld.DMA_CH_CTRL.RESUME,
   Fld.DMA_CH_CTRL.START,
   Fld.DMA_CH_CTRL.ENABLE,
   Fld.DMA_CH_CFG.OWNER,
   Fld.DMA_CH_CFG.CLASS,
   Fld.DMA_CH_STATUS.FUNC_STATE,
   Fld.DMA_CH_STATUS.PENDING_ENABLE,
   Fld.DMA_CH_STATUS.RUNNING,
   Fld.DMA_CH_STATUS.CHAIN_LIMIT,
   Fld.DMA_CH_STATUS.LAST_STATUS,
   Fld.DMA_CH_STATUS.IN_FLIGHT,
   Fld.DMA_CH_STATUS.LOGICAL,
   Fld.DMA_CH_EVENT.ENABLED,
   Fld.DMA_CH_EVENT.CFG_REFUSED,
   Fld.DMA_CH_EVENT.CHAIN_LIMIT,
   Fld.DMA_CH_EVENT.FAULT,
   Fld.DMA_CH_EVENT.BAD_DESC,
   Fld.DMA_CH_EVENT.ABORTED,
   Fld.DMA_CH_EVENT.CHAIN_END,
   Fld.DMA_CH_EVENT.DESC_DONE,
   Fld.DMA_CH_HEAD_LO.HEAD_LO,
   Fld.DMA_CH_HEAD_HI.HEAD_HI,
   Fld.DMA_CH_CUR_LO.CUR_LO,
   Fld.DMA_CH_CUR_HI.CUR_HI]

/-- Rows 272 to 305 of the field table. -/
def fieldTable8 : List Field :=
  [Fld.DMA_CH_RESIDUE.RESIDUE,
   Fld.DMA_CH_CHAIN_LIMIT.LIMIT,
   Fld.DMA_CH_WIN_BASE.BASE,
   Fld.DMA_CH_WIN_LIMIT.LIMIT,
   Fld.DMA_CH_PASID.PASID_EN,
   Fld.DMA_CH_PASID.PASID,
   Fld.DMA_CH_COUNT.FETCHED,
   Fld.QM_CTRL.FETCH_EN,
   Fld.QM_STATUS.INVAL_BUSY,
   Fld.QM_STATUS.HELD,
   Fld.QM_EVENT.CFG_REFUSED,
   Fld.QM_EVENT.STRAY_DOORBELL,
   Fld.QM_EVENT.HOLD_FULL,
   Fld.QM_EVENT.OVER_SHARE,
   Fld.QM_EVENT.BACKPRESSURE,
   Fld.QM_EVENT.CQ_ERROR,
   Fld.QM_EVENT.SQ_ERROR,
   Fld.QM_EVENT.EVENT_OVERFLOW,
   Fld.QM_TAGS.USED,
   Fld.QM_TAG_STALL.COUNT,
   Fld.QM_CACHE_INVAL.ALL,
   Fld.QM_CACHE_INVAL.INSTANCE,
   Fld.QM_INS_INDEX.INSTANCE,
   Fld.QM_INS_STATUS.OVER_SHARE,
   Fld.QM_INS_STATUS.IDLE,
   Fld.QM_INS_STATUS.TAGS_USED,
   Fld.QM_SQ_INDEX.SQ,
   Fld.QM_SQ_CTRL.CACHED,
   Fld.QM_SQ_CTRL.ENABLE,
   Fld.QM_SQ_CFG.OWNER,
   Fld.QM_SQ_CFG.Q,
   Fld.QM_SQ_CFG.CQ,
   Fld.QM_SQ_CFG.SIZE_LOG,
   Fld.QM_SQ_BASE_LO.BASE_LO]

/-- Rows 306 to 339 of the field table. -/
def fieldTable9 : List Field :=
  [Fld.QM_SQ_BASE_HI.BASE_HI,
   Fld.QM_SQ_STATUS.FUNC_STATE,
   Fld.QM_SQ_STATUS.PENDING_ENABLE,
   Fld.QM_SQ_STATUS.ERR_KIND,
   Fld.QM_SQ_STATUS.PAUSE,
   Fld.QM_SQ_STATUS.OUTSTANDING,
   Fld.QM_SQ_INDICES.TAIL,
   Fld.QM_SQ_INDICES.HEAD,
   Fld.QM_SQ_ERR.INDEX,
   Fld.QM_CQ_INDEX.CQ,
   Fld.QM_CQ_CTRL.VECTOR,
   Fld.QM_CQ_CTRL.IRQ_EN,
   Fld.QM_CQ_CTRL.ENABLE,
   Fld.QM_CQ_CFG.OWNER,
   Fld.QM_CQ_CFG.Q,
   Fld.QM_CQ_CFG.SIZE_LOG,
   Fld.QM_CQ_BASE_LO.BASE_LO,
   Fld.QM_CQ_BASE_HI.BASE_HI,
   Fld.QM_CQ_STATUS.FUNC_STATE,
   Fld.QM_CQ_STATUS.PENDING_ENABLE,
   Fld.QM_CQ_STATUS.ERR_KIND,
   Fld.QM_CQ_STATUS.FULL,
   Fld.QM_CQ_STATUS.BACKPRESSURE,
   Fld.QM_CQ_STATUS.HELD,
   Fld.QM_CQ_STATUS.DISCARDED,
   Fld.QM_CQ_INDICES.TAIL,
   Fld.QM_CQ_INDICES.HEAD,
   Fld.QM_CQ_ERR.INDEX,
   Fld.INS_INDEX.INSTANCE,
   Fld.INS_EVENT.LOG_LOST,
   Fld.INS_EVENT.CFG_REFUSED,
   Fld.INS_EVENT.FLR_WIPED,
   Fld.INS_EVENT.WIPED,
   Fld.INS_EVENT.ERROR]

/-- Rows 340 to 373 of the field table. -/
def fieldTable10 : List Field :=
  [Fld.INS_EVENT.ENABLED,
   Fld.INS_CTRL.FAIL,
   Fld.INS_CTRL.HOLD,
   Fld.INS_CTRL.ENABLE,
   Fld.INS_STATUS.FUNC_STATE,
   Fld.INS_STATUS.PENDING_ENABLE,
   Fld.INS_STATUS.QUIESCED,
   Fld.INS_STATUS.HOLDING,
   Fld.INS_STATUS.ERR_CAUSE,
   Fld.INS_STATUS.TAG_OVER,
   Fld.INS_STATUS.LEG_OVER,
   Fld.INS_STATUS.CH_OVER,
   Fld.INS_STATUS.HOLD_FULL,
   Fld.INS_STATUS.TASK_RUN,
   Fld.INS_STATUS.PI_ACTIVE,
   Fld.INS_STATUS.CH_BUSY,
   Fld.INS_STATUS.BUSY,
   Fld.INS_STATUS.SQ_ON,
   Fld.INS_BIND.FUNCTION,
   Fld.INS_BIND.SLOT,
   Fld.INS_PASID.PASID_EN,
   Fld.INS_PASID.PASID,
   Fld.INS_VEC.VEC_COUNT,
   Fld.INS_VEC.VEC_BASE,
   Fld.INS_SHARE_TAG.TAG_SHARE,
   Fld.INS_SHARE_LEG.LEG_QUOTA,
   Fld.INS_SHARE_CH.CH_OWNED,
   Fld.INS_SHARE_CH.CH_SHARE,
   Fld.INS_SHARE_BW.BULK_SLOTS,
   Fld.INS_SHARE_BW.FETCH_BURST,
   Fld.INS_SHARE_HOLD.HOLD_MAX,
   Fld.INS_LOG_BASE_LO.BASE_LO,
   Fld.INS_LOG_BASE_HI.BASE_HI,
   Fld.INS_LOG_CFG.RUNNING]

/-- Rows 374 to 407 of the field table. -/
def fieldTable11 : List Field :=
  [Fld.INS_LOG_CFG.LOST,
   Fld.INS_LOG_CFG.UNLOGGED,
   Fld.INS_LOG_CFG.SIZE_LOG,
   Fld.INS_LOG_IDX.HEAD,
   Fld.ICU_EVENT.CFG_REFUSED,
   Fld.ICU_EVENT.BAD_COMPLETE,
   Fld.ICU_SPURIOUS.HANDLER,
   Fld.ICU_SPURIOUS.CLAIM_NONE,
   Fld.ICU_MERGED.COUNT,
   Fld.ICU_SOFT_SET.SET,
   Fld.ICU_MASK.MASK,
   Fld.ICU_PEND.PEND,
   Fld.ICU_INSERV.INSERV,
   Fld.ICU_THRESH.THRESH,
   Fld.ICU_CLAIM.VALID,
   Fld.ICU_CLAIM.SOURCE,
   Fld.ICU_COMPLETE.NO_CAUSE,
   Fld.ICU_COMPLETE.SOURCE,
   Fld.ICU_TIMER_LO.CMP_LO,
   Fld.ICU_TIMER_HI.CMP_HI,
   Fld.ICU_TGT_SOFT_SET.SET,
   Fld.ICU_REQ.ARMED,
   Fld.ICU_REQ.REQUEST,
   Fld.ICU_SRC_CFG.HOST_FWD,
   Fld.ICU_SRC_CFG.COAL_LOG,
   Fld.ICU_SRC_CFG.ENTRY,
   Fld.ICU_SRC_CFG.SENSE,
   Fld.ICU_SRC_CFG.TARGET,
   Fld.ICU_SRC_CFG.PRIO,
   Fld.HIC_EVENT.DROPPED,
   Fld.HIC_EVENT.CFG_REFUSED,
   Fld.HIC_INS_INDEX.INSTANCE,
   Fld.HIC_INS_PI.HALF_EN,
   Fld.HIC_INS_PI.HALF_VEC]

/-- Rows 408 to 441 of the field table. -/
def fieldTable12 : List Field :=
  [Fld.HIC_INS_PI.FULL_EN,
   Fld.HIC_INS_PI.FULL_VEC,
   Fld.HIC_INS_ERR.DEV_EN,
   Fld.HIC_INS_ERR.DEV_VEC,
   Fld.HIC_INS_ERR.ERR_EN,
   Fld.HIC_INS_ERR.ERR_VEC,
   Fld.HIC_ERR_CAUSE.LOG_LOST,
   Fld.HIC_ERR_CAUSE.INS_ERROR,
   Fld.HIC_ERR_CAUSE.CQ_ERROR,
   Fld.HIC_ERR_CAUSE.SQ_ERROR,
   Fld.HIC_ERR_CAUSE.PI_FAULT,
   Fld.HIC_ERR_CAUSE.CH_FAULT,
   Fld.HIC_VEC_INDEX.FUNCTION,
   Fld.HIC_VEC_INDEX.VECTOR,
   Fld.HIC_VEC_COAL.TIME,
   Fld.HIC_VEC_COAL.COUNT,
   Fld.HIC_VEC_STATUS.TIMER_RUN,
   Fld.HIC_VEC_STATUS.MSG_PENDING,
   Fld.HIC_VEC_STATUS.ELAPSED,
   Fld.HIC_VEC_STATUS.EVENTS,
   Fld.HIC_VEC_CTRL.FLUSH,
   Fld.HIC_MSG_CNT.COUNT,
   Fld.CPW_CFG.TRANS_MS,
   Fld.CPW_CFG.REARM,
   Fld.CPW_BUDGET.USED,
   Fld.CPW_BUDGET.LIMIT,
   Fld.CPW_EVENT.HUB_FAULT,
   Fld.CPW_EVENT.PMBUS_ERROR,
   Fld.CPW_EVENT.BUDGET,
   Fld.CPW_EVENT.PORT,
   Fld.CPW_PORT_CTRL.FORCE_DEFAULT,
   Fld.CPW_PORT_CTRL.ENABLE,
   Fld.CPW_PORT_STATUS.FUNC_STATE,
   Fld.CPW_PORT_STATUS.PENDING_ENABLE]

/-- Rows 442 to 475 of the field table. -/
def fieldTable13 : List Field :=
  [Fld.CPW_PORT_STATUS.CSTATE,
   Fld.CPW_PORT_STATUS.PEN,
   Fld.CPW_PORT_STATUS.PFAULT,
   Fld.CPW_PORT_STATUS.SINK_SEEN,
   Fld.CPW_PORT_STATUS.LAST_REJECT,
   Fld.CPW_LIMIT.IMAX,
   Fld.CPW_LIMIT.VMAX,
   Fld.CPW_CONTRACT.CONTRACT,
   Fld.CPW_SWAP.ARMED,
   Fld.CPW_SWAP.CONTRACT,
   Fld.CPW_STAGE.SLEW,
   Fld.CPW_STAGE.ADDR,
   Fld.CPW_MEAS.IOUT,
   Fld.CPW_MEAS.VOUT,
   Fld.CPW_PORT_EVENT.STAGE_ERR,
   Fld.CPW_PORT_EVENT.PWC_STUCK,
   Fld.CPW_PORT_EVENT.COLLIDED,
   Fld.CPW_PORT_EVENT.FAST_UNARMED,
   Fld.CPW_PORT_EVENT.FAST_SWAP,
   Fld.CPW_PORT_EVENT.DETACH,
   Fld.CPW_PORT_EVENT.FAULT,
   Fld.CPW_PORT_EVENT.EXPIRED,
   Fld.CPW_PORT_EVENT.REVERTED,
   Fld.CPW_PORT_EVENT.CONTRACT,
   Fld.CPW_KEEPALIVE.AGE_MS,
   Fld.PWR_STATE.WAKE_PENDING,
   Fld.PWR_STATE.ENTRY_BUSY,
   Fld.PWR_STATE.TARGET,
   Fld.PWR_STATE.CUR,
   Fld.PWR_STATE_CTRL.TARGET,
   Fld.PWR_ENTRY_CFG.OSC_OFF,
   Fld.PWR_ENTRY_CFG.RESUME,
   Fld.PWR_ENTRY_CFG.VBUS_KEEP,
   Fld.PWR_ENTRY_TIME.IDLE_MS]

/-- Rows 476 to 509 of the field table. -/
def fieldTable14 : List Field :=
  [Fld.PWR_ENTRY_TIME.LINK_WAIT_MS,
   Fld.PWR_WAKE_EN.ACTIVITY,
   Fld.PWR_WAKE_SRC.GPIO_HIGH,
   Fld.PWR_WAKE_SRC.GPIO_EN,
   Fld.PWR_WAKE_SRC.TIMER,
   Fld.PWR_WAKE_SRC.PCIE,
   Fld.PWR_WAKE_TIME_LO.NS_LO,
   Fld.PWR_WAKE_TIME_HI.NS_HI,
   Fld.PWR_WAKE_CAUSE.FROM,
   Fld.PWR_WAKE_CAUSE.RETRIED,
   Fld.PWR_WAKE_CAUSE.RETRY_SUBJECT,
   Fld.PWR_WAKE_CAUSE.FAULT,
   Fld.PWR_WAKE_CAUSE.FAULT_SUBJECT,
   Fld.PWR_WAKE_CAUSE.INDEX,
   Fld.PWR_WAKE_CAUSE.CAUSE,
   Fld.PWR_PAD_RELEASE.GROUPS,
   Fld.PWR_PAD_STATUS.LATCHED,
   Fld.PWR_DOM_CTRL.ON,
   Fld.PWR_DOM_STATUS.GOOD,
   Fld.PWR_DOM_AUTO.AUTO,
   Fld.PWR_OP_VSEL.VSEL,
   Fld.PWR_OP_FSEL.FSEL,
   Fld.PWR_OP_COMMIT.COMMIT,
   Fld.PWR_OP_STATUS.OP_FAULT,
   Fld.PWR_OP_STATUS.VSEL_REFUSED,
   Fld.PWR_OP_STATUS.COMMIT_REFUSED,
   Fld.PWR_OP_STATUS.SHADOW_BUSY,
   Fld.PWR_OP_STATUS.PENDING,
   Fld.PWR_OP_STATUS.VBUSY,
   Fld.PWR_OP_STATUS.VSEL_OK,
   Fld.PWR_OP_STATUS.ACTIVE,
   Fld.PWR_EVENT.WAKE_RETRY,
   Fld.PWR_EVENT.OP_FAULT,
   Fld.PWR_EVENT.OP_DONE]

/-- Rows 510 to 543 of the field table. -/
def fieldTable15 : List Field :=
  [Fld.PWR_EVENT.DOM_FAULT,
   Fld.PWR_EVENT.DOM_REFUSED,
   Fld.PWR_EVENT.DOM_ON,
   Fld.PWR_EVENT.ENTRY_ABORTED,
   Fld.PWR_EVENT.ENTERED,
   Fld.PWR_EVENT.WAKE,
   Fld.PWR_RAIL.ON,
   Fld.PWR_RAIL.FAILS,
   Fld.PWR_RAIL.ADDR,
   Fld.PWR_HISTORY.FROM,
   Fld.PWR_HISTORY.TO,
   Fld.PWR_HISTORY.CAUSE,
   Fld.PWR_HISTORY.FLAGS,
   Fld.PWR_HISTORY.TIME,
   Fld.PAIR_CTRL.ENABLE,
   Fld.PAIR_CFG.SHADOW_PI,
   Fld.PAIR_CFG.SHADOW_TASKS,
   Fld.PAIR_CFG.ORPHAN_MS,
   Fld.PAIR_CFG.ELECT_MS,
   Fld.PAIR_STATUS.FUNC_STATE,
   Fld.PAIR_STATUS.PENDING_ENABLE,
   Fld.PAIR_STATUS.ROLE,
   Fld.PAIR_STATUS.ROLE_IN_ALIVE,
   Fld.PAIR_STATUS.COPY_PCT,
   Fld.PAIR_STATUS.LAST,
   Fld.PAIR_EVENT.SKEW_CLAMP,
   Fld.PAIR_EVENT.ID_CLASH,
   Fld.PAIR_EVENT.COLLIDED,
   Fld.PAIR_EVENT.DESYNC,
   Fld.PAIR_EVENT.MIRROR_LOST,
   Fld.PAIR_EVENT.HANDOVER,
   Fld.PAIR_EVENT.TAKEOVER,
   Fld.PAIR_ID_LO.ID_LO,
   Fld.PAIR_ID_HI.ID_HI]

/-- Rows 544 to 577 of the field table. -/
def fieldTable16 : List Field :=
  [Fld.PAIR_PEER_ID_LO.ID_LO,
   Fld.PAIR_PEER_ID_HI.ID_HI,
   Fld.PAIR_TAKEOVER.OLD_RECORDS,
   Fld.PAIR_TAKEOVER.TICK,
   Fld.PAIR_PORTS.READY,
   Fld.PAIR_PORTS.DUAL,
   Fld.PAIR_MIRROR.OVER_CNT,
   Fld.PAIR_MIRROR.BYTES,
   Fld.PAIR_SKEW.RSKEW,
   Fld.PAIR_SKEW.TSKEW,
   Fld.NVM_STATUS.STATE,
   Fld.NVM_STATUS.STRAPS,
   Fld.NVM_STATUS.SLOT,
   Fld.NVM_STATUS.FALLBACK,
   Fld.NVM_STATUS.RESUMED,
   Fld.NVM_STATUS.HALTED,
   Fld.NVM_STATUS.SECTIONS_DONE,
   Fld.NVM_FAIL.REASON,
   Fld.NVM_FAIL.SLOT,
   Fld.NVM_FAIL.SECTION,
   Fld.NVM_VERSION_A.VERSION,
   Fld.NVM_VERSION_B.VERSION,
   Fld.NVM_LOADED.VERSION,
   Fld.NVM_LOAD_TIME.US,
   Fld.NVM_FLASH.SIZE_MIB,
   Fld.NVM_RESET_CAUSE.KIND,
   Fld.NVM_CTRL.HALT_CLEAR,
   Fld.NVM_CTRL.HALT_ASSERT,
   Fld.NVM_CTRL.HOST_ATTACH,
   Fld.NVM_CTRL.WARM_RESET,
   Fld.NVM_EVENT.ATTACHED,
   Fld.NVM_EVENT.SUPERVISOR_WRITE,
   Fld.NVM_EVENT.WDT_EXPIRED,
   Fld.NVM_EVENT.HALT_IN]

/-- Rows 578 to 611 of the field table. -/
def fieldTable17 : List Field :=
  [Fld.NVM_EVENT.WRITE_DURING_LOAD,
   Fld.NVM_EVENT.LOAD_FAILED,
   Fld.NVM_EVENT.FALLBACK,
   Fld.NVM_EVENT.RUNNING,
   Fld.NVM_BOOT_SEL.SEL,
   Fld.NVM_HALT_CFG.IN_EN,
   Fld.NVM_HALT_CFG.DRIVE_WDT,
   Fld.NVM_HALT_CFG.DRIVE_HELM,
   Fld.NVM_HALT_CFG.DRIVE_IMAGE,
   Fld.NVM_HALT_CFG.DRIVE_SW,
   Fld.NVM_HALT_STATUS.ACTIVE,
   Fld.NVM_HALT_STATUS.DRIVING,
   Fld.NVM_HALT_STATUS.PIN,
   Fld.NVM_HALT_STATUS.CAUSE,
   Fld.NVM_WDT_CFG.PERIOD_MS,
   Fld.NVM_WDT_KICK.KICK,
   Fld.SEC_STATUS.LIFE_CYCLE,
   Fld.SEC_STATUS.DEBUG_OPEN,
   Fld.SEC_STATUS.LOCKOUT,
   Fld.SEC_STATUS.FLOOR_UNKNOWN,
   Fld.SEC_STATUS.JOURNAL_BUSY,
   Fld.SEC_STATUS.ZEROIZING,
   Fld.SEC_STATUS.ACTIVE_KEY,
   Fld.SEC_STATUS.KEY_VALID,
   Fld.SEC_EVENT.SVN_ADVANCED,
   Fld.SEC_EVENT.JOURNAL_FAULT,
   Fld.SEC_EVENT.ZERO_FAULT,
   Fld.SEC_EVENT.ZEROIZED,
   Fld.SEC_EVENT.LIFE_CYCLE,
   Fld.SEC_EVENT.KEY_CHANGED,
   Fld.SEC_EVENT.LOCKOUT,
   Fld.SEC_EVENT.COUNTER_STALE,
   Fld.SEC_EVENT.AUTH_FAILED,
   Fld.SEC_FAIL.STATUS]

/-- Rows 612 to 645 of the field table. -/
def fieldTable18 : List Field :=
  [Fld.SEC_FAIL.OPCODE,
   Fld.SEC_FAIL.INSTANCE,
   Fld.SEC_AUTH_CNT.STALE,
   Fld.SEC_AUTH_CNT.FAILED,
   Fld.SEC_COUNTER_LO.FLOOR_LO,
   Fld.SEC_COUNTER_HI.FLOOR_HI,
   Fld.SEC_CEILING_LO.CEIL_LO,
   Fld.SEC_CEILING_HI.CEIL_HI,
   Fld.SEC_SVN.LOADED,
   Fld.SEC_SVN.FLOOR,
   Fld.SEC_KEYS.DEC_DESTROYED,
   Fld.SEC_KEYS.DEC_PRESENT,
   Fld.SEC_KEYS.IMG_REVOKED,
   Fld.SEC_KEYS.IMG_PRESENT,
   Fld.SEC_KEYS.CMD_REVOKED,
   Fld.SEC_KEYS.CMD_PRESENT,
   Fld.SEC_CRIT_EXTRA.ADD,
   Fld.SEC_CRIT_EXTRA.GROUPS,
   Fld.SEC_DEVICE_ID_LO.ID_LO,
   Fld.SEC_DEVICE_ID_HI.ID_HI,
   Fld.SEC_KEY_FP.FP,
   Fld.SEC_IMG_FP.FP,
   Fld.ALM_CFG.SAVE_MIN,
   Fld.ALM_CFG.AUTO_BURN,
   Fld.ALM_CFG.CDR_NOW,
   Fld.ALM_CFG.CH_NOW,
   Fld.ALM_CFG.HELM_NOW,
   Fld.ALM_STATUS.NO_RECORD,
   Fld.ALM_STATUS.OTP_FULL,
   Fld.ALM_STATUS.SAVING,
   Fld.ALM_STATUS.SWAP_BUSY,
   Fld.ALM_STATUS.UNBURNED,
   Fld.ALM_STATUS.PENDING,
   Fld.ALM_SPARES.OTP_FREE]

/-- Rows 646 to 679 of the field table. -/
def fieldTable19 : List Field :=
  [Fld.ALM_SPARES.ROWS_FREE,
   Fld.ALM_SPARES.CH_FREE,
   Fld.ALM_SPARES.CDR_FREE,
   Fld.ALM_SPARES.HELM_FREE,
   Fld.ALM_EVENT.SAVE_FAULT,
   Fld.ALM_EVENT.OTP_FAULT,
   Fld.ALM_EVENT.ROW_REPAIRED,
   Fld.ALM_EVENT.NO_SPARE,
   Fld.ALM_EVENT.SWAPPED,
   Fld.ALM_EVENT.ACT,
   Fld.ALM_EVENT.WARN,
   Fld.ALM_INDEX.KIND,
   Fld.ALM_INDEX.ROW,
   Fld.ALM_INDEX.UNIT,
   Fld.ALM_UNIT.PENDING,
   Fld.ALM_UNIT.RETIRED,
   Fld.ALM_UNIT.IN_USE,
   Fld.ALM_UNIT.LOGICAL,
   Fld.ALM_UNIT.WINDOW_CE,
   Fld.ALM_MON.AGE,
   Fld.ALM_MON.EYE_FIRST,
   Fld.ALM_MON.EYE_LAST,
   Fld.ALM_THRESH.ACT,
   Fld.ALM_THRESH.WARN,
   Fld.ALM_LAST.DETAIL,
   Fld.ALM_SEQ.SEQ,
   Fld.ID_DEVICE.DEVICE,
   Fld.ID_DEVICE.VENDOR,
   Fld.ID_REVISION.VF_DEVICE,
   Fld.ID_REVISION.REVISION,
   Fld.ID_CAPS_PORT.AUX_LANES,
   Fld.ID_CAPS_PORT.CDR_SLICES,
   Fld.ID_CAPS_PORT.ROOT_PORTS,
   Fld.ID_CAPS_CORE.DMA_SPARES]

/-- Rows 680 to 713 of the field table. -/
def fieldTable20 : List Field :=
  [Fld.ID_CAPS_CORE.DMA_CHANNELS,
   Fld.ID_CAPS_CORE.HELM_SPARES,
   Fld.ID_CAPS_CORE.HELMS,
   Fld.ID_CAPS_CHART.LEGS,
   Fld.ID_CAPS_CHART.MIN_N,
   Fld.ID_CAPS_HOST.MAX_INSTANCE,
   Fld.ID_CAPS_HOST.MAX_VFS,
   Fld.GBL_CTRL.FAULT_SW,
   Fld.GBL_FAULT.PCIE_FATAL,
   Fld.GBL_FAULT.ZERO_FAULT,
   Fld.GBL_FAULT.NO_IMAGE,
   Fld.GBL_FAULT.SW,
   Fld.GBL_ERR_SUMMARY.SOURCES,
   Fld.GBL_PCIE_STATUS.LAST_FLR_VF,
   Fld.GBL_PCIE_STATUS.NUM_VFS,
   Fld.GBL_PCIE_STATUS.VF_ENABLE,
   Fld.GBL_PCIE_STATUS.DL_ACTIVE,
   Fld.GBL_PCIE_STATUS.LINK_UP,
   Fld.GBL_PCIE_STATUS.WIDTH,
   Fld.GBL_PCIE_STATUS.SPEED,
   Fld.GBL_PCIE_EVENT.POISONED,
   Fld.GBL_PCIE_EVENT.PASID_IGNORED,
   Fld.GBL_PCIE_EVENT.AER_LOGGED,
   Fld.GBL_PCIE_EVENT.VF_ENABLE_CHANGED,
   Fld.GBL_PCIE_EVENT.BME_CLEARED,
   Fld.GBL_PCIE_EVENT.FLR_VF,
   Fld.GBL_PCIE_EVENT.FLR_PF,
   Fld.GBL_PCIE_EVENT.DEGRADED,
   Fld.GBL_PCIE_EVENT.LINK_DOWN,
   Fld.GBL_PCIE_EVENT.LINK_UP,
   Fld.GBL_WIN_SAFE.BANK,
   Fld.GBL_WIN_SAFE.ENTRY,
   Fld.GBL_WIN_PIPE.BASE,
   Fld.GBL_SCRATCH.DATA]

/-- Every field of every register (R531). -/
def fieldTable : List Field :=
  fieldTable0 ++ fieldTable1 ++ fieldTable2 ++ fieldTable3 ++ fieldTable4 ++ fieldTable5 ++ fieldTable6 ++ fieldTable7 ++ fieldTable8 ++ fieldTable9 ++ fieldTable10 ++ fieldTable11 ++ fieldTable12 ++ fieldTable13 ++ fieldTable14 ++ fieldTable15 ++ fieldTable16 ++ fieldTable17 ++ fieldTable18 ++ fieldTable19 ++ fieldTable20

/-- Nonzero reset values, piece 0. -/
def resetTable0 : List (Nat × Rst) :=
  [(Fld.CHR_MERID_OUT_CFG.WIDTH.row, .const 1),
   (Fld.CHR_MERID_OUT_CFG.DIVIDER.row, .const 1),
   (Fld.CHR_PPS_CFG.TCONST.row, .const 0b01),
   (Fld.CHR_PPS_CFG.WINDOW.row, .const 1000),
   (Fld.CHR_HOLDOVER_CFG.LIMIT_NS.row, .const 1000),
   (Fld.CHR_HOLDOVER_CFG.PPB.row, .const 100),
   (Fld.CHR_FIX_CFG.REPORT_MS.row, .const 1000),
   (Fld.CHR_FIX_CFG.REFRESH_MS.row, .const 100),
   (Fld.LNK_CFG.MAX_ATTEMPTS.row, .const 8),
   (Fld.LNK_CFG.MAX_GEN.row, .const 0b11),
   (Fld.LNK_EQ_CFG.RX_CTLE.row, .const 7),
   (Fld.LNK_ERR_CFG.WINDOW_US.row, .const 1000),
   (Fld.LNK_ERR_CFG.THRESH.row, .const 64),
   (Fld.LNK_CDR_MAP.SLICE.row, .index),
   (Fld.TRE_CTRL.STICKY.row, .const 1),
   (Fld.TRE_CFG.ENUM_RETRIES.row, .const 3),
   (Fld.TRE_CFG.ENUM_STEP_US.row, .const 1000),
   (Fld.CHT_CTRL.ADMIT_EN.row, .const 1),
   (Fld.CHT_STATUS.SHADOW_VALID.row, .const 1),
   (Fld.CHT_TICK_LEN.ACTIVE_N.row, .const 31250),
   (Fld.CHT_TICK_LEN.N.row, .const 31250),
   (Fld.CHT_RESERVE.PERCENT.row, .const 85),
   (Fld.HLM_STATUS.LOGICAL.row, .below 16 31),
   (Fld.DMA_CTRL.AGE_US.row, .const 64)]

/-- Nonzero reset values, piece 1. -/
def resetTable1 : List (Nat × Rst) :=
  [(Fld.DMA_ROUTE_CFG.LENGTH.row, .const 8),
   (Fld.DMA_CH_STATUS.LOGICAL.row, .below 64 127),
   (Fld.DMA_CH_CHAIN_LIMIT.LIMIT.row, .const 65536),
   (Fld.QM_CTRL.FETCH_EN.row, .const 1),
   (Fld.QM_INS_STATUS.IDLE.row, .const 1),
   (Fld.QM_SQ_CFG.SIZE_LOG.row, .const 4),
   (Fld.QM_CQ_CFG.SIZE_LOG.row, .const 4),
   (Fld.INS_CTRL.ENABLE.row, .i0 1 0),
   (Fld.INS_STATUS.FUNC_STATE.row, .i0 2 0),
   (Fld.INS_VEC.VEC_COUNT.row, .i0 64 0),
   (Fld.INS_SHARE_TAG.TAG_SHARE.row, .i0 65536 0),
   (Fld.INS_SHARE_LEG.LEG_QUOTA.row, .i0 16384 0),
   (Fld.INS_SHARE_CH.CH_SHARE.row, .i0 64 0),
   (Fld.INS_SHARE_BW.FETCH_BURST.row, .const 8),
   (Fld.INS_SHARE_HOLD.HOLD_MAX.row, .i0 8192 256),
   (Fld.INS_LOG_CFG.SIZE_LOG.row, .const 10),
   (Fld.ICU_MASK.MASK.row, .const 0xFFFFFFFF),
   (Fld.ICU_TIMER_HI.CMP_HI.row, .const 0xFFFFFFFF),
   (Fld.ICU_SRC_CFG.SENSE.row, .sense),
   (Fld.ICU_SRC_CFG.TARGET.row, .const 31),
   (Fld.HIC_VEC_COAL.TIME.row, .const 1),
   (Fld.HIC_VEC_COAL.COUNT.row, .const 1),
   (Fld.CPW_CFG.TRANS_MS.row, .const 100),
   (Fld.CPW_CFG.REARM.row, .const 10)]

/-- Nonzero reset values, piece 2. -/
def resetTable2 : List (Nat × Rst) :=
  [(Fld.CPW_BUDGET.LIMIT.row, .const 0xFFFF),
   (Fld.CPW_LIMIT.IMAX.row, .const 15),
   (Fld.CPW_LIMIT.VMAX.row, .const 250),
   (Fld.CPW_CONTRACT.CONTRACT.row, .const 0x00F0FA),
   (Fld.CPW_STAGE.SLEW.row, .const 20),
   (Fld.PWR_ENTRY_TIME.IDLE_MS.row, .const 100),
   (Fld.PWR_ENTRY_TIME.LINK_WAIT_MS.row, .const 100),
   (Fld.PWR_WAKE_SRC.PCIE.row, .const 1),
   (Fld.PWR_WAKE_TIME_HI.NS_HI.row, .const 0xFFFFFFFF),
   (Fld.PWR_DOM_CTRL.ON.row, .const 0x7F),
   (Fld.PWR_DOM_STATUS.GOOD.row, .const 0xFFF),
   (Fld.PWR_OP_VSEL.VSEL.row, .const 2),
   (Fld.PWR_OP_FSEL.FSEL.row, .const 2),
   (Fld.PWR_OP_STATUS.VSEL_OK.row, .const 2),
   (Fld.PWR_OP_STATUS.ACTIVE.row, .const 2),
   (Fld.PWR_RAIL.ON.row, .const 1),
   (Fld.PAIR_CFG.SHADOW_TASKS.row, .const 1),
   (Fld.PAIR_CFG.ORPHAN_MS.row, .const 100),
   (Fld.PAIR_CFG.ELECT_MS.row, .const 50),
   (Fld.NVM_HALT_CFG.IN_EN.row, .const 1),
   (Fld.NVM_HALT_CFG.DRIVE_IMAGE.row, .const 1),
   (Fld.NVM_HALT_CFG.DRIVE_SW.row, .const 1),
   (Fld.ALM_CFG.SAVE_MIN.row, .const 60),
   (Fld.ALM_SPARES.ROWS_FREE.row, .const 448)]

/-- Nonzero reset values, piece 3. -/
def resetTable3 : List (Nat × Rst) :=
  [(Fld.ALM_SPARES.CH_FREE.row, .const 4),
   (Fld.ALM_SPARES.CDR_FREE.row, .const 2),
   (Fld.ALM_SPARES.HELM_FREE.row, .const 2),
   (Fld.ALM_INDEX.KIND.row, .const 1),
   (Fld.ALM_THRESH.ACT.row, .list [64, 500, 16, 8, 2]),
   (Fld.ALM_THRESH.WARN.row, .list [16, 300, 4, 4, 0]),
   (Fld.ID_DEVICE.DEVICE.row, .const 0x6416),
   (Fld.ID_DEVICE.VENDOR.row, .const 0x1F6E),
   (Fld.ID_REVISION.VF_DEVICE.row, .const 0x6417),
   (Fld.ID_REVISION.REVISION.row, .const 0xB0),
   (Fld.ID_CAPS_PORT.AUX_LANES.row, .const 3),
   (Fld.ID_CAPS_PORT.CDR_SLICES.row, .const 21),
   (Fld.ID_CAPS_PORT.ROOT_PORTS.row, .const 16),
   (Fld.ID_CAPS_CORE.DMA_SPARES.row, .const 4),
   (Fld.ID_CAPS_CORE.DMA_CHANNELS.row, .const 64),
   (Fld.ID_CAPS_CORE.HELM_SPARES.row, .const 2),
   (Fld.ID_CAPS_CORE.HELMS.row, .const 16),
   (Fld.ID_CAPS_CHART.LEGS.row, .const 16384),
   (Fld.ID_CAPS_CHART.MIN_N.row, .const 64),
   (Fld.ID_CAPS_HOST.MAX_INSTANCE.row, .const 4095),
   (Fld.ID_CAPS_HOST.MAX_VFS.row, .const 255)]

/-- The reset value of every field that does not reset to 0. -/
def resetTable : List (Nat × Rst) :=
  resetTable0 ++ resetTable1 ++ resetTable2 ++ resetTable3

/-- Which ICU sources are edge sources (R345, Table 11-1). -/
def edgeSource (s : Nat) : Bool :=
  s == 128 || (130 ≤ s && s ≤ 148) || (160 ≤ s && s ≤ 191) || (256 ≤ s && s ≤ 1023)

/-- The reset value a rule gives element or context `n`. -/
def Rst.at (r : Rst) (n : Nat) : Nat :=
  match r with
  | .const v => v
  | .index => n
  | .i0 a b => if n = 0 then a else b
  | .below l o => if n < l then n else o
  | .sense => if edgeSource n then 0b10 else 0b00
  | .list vs => vs.getD n 0

/-- The number of elements a key can name. -/
def keySpan : Nat := 0x100000

/-- Where a field of element or context `n` is held in `State.regs`. -/
def Field.key (f : Field) (n : Nat) : Nat := f.row * keySpan + n % keySpan

/-- The reset value held at a key: the table's, 0 where the table names none. -/
def resetOf (key : Nat) : Nat :=
  match resetTable.lookup (key / keySpan) with
  | some r => r.at (key % keySpan)
  | none => 0

end Sys2Proof.Machine
end

