-- ==== Sys2Proof/Machine/Sparse.lean ====
section
/-! DEFINITION. Sparse data by key: a list of key and value pairs, keys strictly rising, no entry equal to what an unlisted
key reads as. Every register file, memory and table of the machine is held in this one form, so that equal contents are
equal data. -/

namespace Sys2Proof.Machine.Sparse

variable {α : Type}

/-- The value at a key; `d` says what an unlisted key reads as. -/
def get (d : Nat → α) (m : List (Nat × α)) (k : Nat) : α :=
  match m with
  | [] => d k
  | (j, v) :: t => if j = k then v else get d t k

/-- Put a pair in its place, replacing what the key held. -/
def ins (m : List (Nat × α)) (k : Nat) (v : α) : List (Nat × α) :=
  match m with
  | [] => [(k, v)]
  | (j, w) :: t => if j < k then (j, w) :: ins t k v else if j = k then (k, v) :: t else (k, v) :: (j, w) :: t

/-- Take a key out. -/
def erase (m : List (Nat × α)) (k : Nat) : List (Nat × α) := m.filter fun e => e.1 != k

/-- Write a value: the value an unlisted key reads as takes the entry out. -/
def set [DecidableEq α] (d : Nat → α) (m : List (Nat × α)) (k : Nat) (v : α) : List (Nat × α) :=
  if v = d k then erase m k else ins m k v

/-- The canonical form. -/
def Canonical [DecidableEq α] (d : Nat → α) (m : List (Nat × α)) : Prop :=
  m.Pairwise (fun a b => a.1 < b.1) ∧ ∀ e ∈ m, e.2 ≠ d e.1

/-- The canonical form as a test. -/
def canonical [DecidableEq α] (d : Nat → α) (m : List (Nat × α)) : Bool :=
  decide (m.Pairwise fun a b => a.1 < b.1) && m.all fun e => decide (e.2 ≠ d e.1)

end Sys2Proof.Machine.Sparse
end

