-- ==== Sys2Proof/Machine/State.lean ====
section
/-! DEFINITION. The state of the GY-6416: everything the spec gives the machine, as plain data. Register fields stand in
`State.regs`, one entry per field and element (R531); what no register shows stands in the units below, one structure
per block of Table 01-1. -/

namespace Sys2Proof.Machine

/-- Why a command stops the machine. No rule of the spec stops the machine as a whole, so no meaning raises one (safe). -/
inductive Fault where
  /-- Raised by no meaning: a function that fails enters its own ERROR state (R332), which is state (safe). -/
  | machineStop
  deriving DecidableEq, Repr

/-- Why a command has no meaning. -/
inductive Refusal where
  /-- Raised by the arm of a command that has no meaning yet (safe: it stops where the hardware goes on). -/
  | notModelled (mnemonic : String)
  deriving DecidableEq, Repr

/-! ### Queues (09) -/

/-- What an entry posted to a CQ says (Table 09-3), before its index and phase bit are known. -/
structure CqEntry where
  result : Nat := 0
  aux : Nat := 0
  cid : Nat := 0
  sqHead : Nat := 0
  sq : Nat := 0
  status : Nat := 0
  eventCode : Nat := 0
  isEvent : Bool := false
  deriving DecidableEq, Repr

/-- Where a fetched command stands between its fetch and its completion (R298, R306). -/
inductive Stage where
  /-- The Keeper's check runs (Table 09-6, check 3). -/
  | keeper
  /-- Every check of the fetch has passed; the command's own step may take effect. -/
  | ready
  /-- The command has taken effect and waits for what completes it. -/
  | running
  /-- The completion waits for room in its CQ and keeps its tag (R302). -/
  | blocked (e : CqEntry)
  deriving DecidableEq, Repr

/-- A fetched command that holds a transfer tag (R298): its SQ context, its issuer, the bytes of its entry, the SQ head
after its fetch, a number its own step keeps while it runs, and whether FORCE has ended it, so that it completes without an entry (R336). -/
structure Cmd where
  sq : Nat
  ins : Nat
  head : Nat
  bytes : List Byte
  stage : Stage
  progress : Nat := 0
  forced : Bool := false
  deriving DecidableEq, Repr

/-- The queue manager: contexts taken from the pools (R282), SQ entry reads outstanding (R294), fetched commands by tag
(R298), the holding store in order of entry (R301), events counted and not posted per instance (R293), the entry cache
and the fragment cache (R295, Table 09-4), the rotating pointer with the entries
fetched in its turn (R325), the CQs that discard on their way from ERROR to OFF (R304), whether a fetch waits for a request (R266), and the functions of entry reads
still outstanding whose queue is gone (R336). -/
structure QueueUnit where
  sqTaken : List Nat := []
  cqTaken : List Nat := []
  fetching : List Nat := []
  cmds : List (Nat × Cmd) := []
  nextTag : Nat := 0
  held : List (Nat × CqEntry) := []
  evLost : List (Nat × Nat) := []
  entryCache : List (Nat × List Byte) := []
  fragCache : List (Nat × List Byte) := []
  turnIns : Nat := 0
  turnCount : Nat := 0
  lastQ : List (Nat × Nat) := []
  discarding : List Nat := []
  npWait : Bool := false
  orphans : List Nat := []
  deriving DecidableEq, Repr

/-! ### Instances (10) -/

/-- The instance table: the instances not OFF (R329), the log tail of each logbook (R339), the pages its filter
remembers, newest first (R340), the slots counted in the tick by instance, port and direction (R324), and the instances that a
FORCE or FLR wipes at the next meridian, with those of them that an FLR wipes (R336, R337). -/
structure InsUnit where
  live : List Nat := [0]
  logTail : List (Nat × Nat) := []
  logSeen : List (Nat × List Nat) := []
  bulkUsed : List (Nat × Nat) := []
  wipeAt : List Nat := []
  flrAt : List Nat := []
  deriving DecidableEq, Repr

/-! ### Interrupts (11) -/

/-- A vector's row of its function's MSI-X table (R365); PCI Express resets the mask bit to 1. -/
structure MsixRow where
  addr : Nat := 0
  data : Nat := 0
  masked : Bool := true
  deriving DecidableEq, Repr

/-- The ICU and the host coalescing: edges counted toward COAL_LOG (R352), each target's rotating pointer (R353) and armed
timer value (R358), the level at each GPIO input and at HALT# (R347), the functions' MSI-X tables, and when each vector's timer
started, in ns since reset (R364). -/
structure IcuUnit where
  coal : List (Nat × Nat) := []
  pointer : List (Nat × Nat) := []
  armed : List (Nat × Nat) := []
  pins : List (Nat × Bool) := []
  msix : List (Nat × MsixRow) := []
  vecAt : List (Nat × Nat) := []
  deriving DecidableEq, Repr

/-! ### Chronometer (02) -/

/-- The chronometer: nanoseconds and fraction counted since reset (R21), and the sum of the steps taken (R57), which together give
the value it shows, the tick number (R27), the value shown at the last meridian and the
slots of the tick it opened (R25), when the next falls due and whether the chart's first is still to come (R26), what a latch
point has taken for the next meridian (R11), the realignment that the next meridian makes, and one that waits for a latch point
(R26), the instant a CHR_COMMIT hands over while stopped (R11), the instant RUN was written, the step of a first lock (R47), whether a sync frame has been taken,
the REASON of the DEAD_RECKONING posted, the discipline's counters (R51, R54), what ACQUIRING was entered from (R52), the last TIME_IN edge as a
chronometer value in 2^-8 ns (R50), the trims of the last 64 s with the instants since which they stood, newest first, the instant of the last lock, and the
ratio held in dead reckoning as a trim (R54), the instant of the last second of holdover counted (R55), the SSC depth in force in 0.01 % (R30), whether the
links are to be fixed before the executor starts after a wake, and whether a start waits for that (R59). -/
structure ChronUnit where
  ns : Nat := 0
  frac : Nat := 0
  stepSum : Int := 0
  tick : Nat := 0
  started : Bool := false
  meridNs : Nat := 0
  tickSlots : Nat := 31250
  dueNs : Nat := 0
  stepLatched : Bool := false
  stepDueNs : Nat := 0
  domainStep : Option Int := none
  domainLatched : Bool := false
  domainDueNs : Nat := 0
  syncSeen : Bool := false
  drReason : Nat := 0
  alignPending : Bool := false
  alignWait : Bool := false
  runDue : Bool := false
  runAt : Nat := 0
  stepTick : Option Nat := none
  goodRun : Nat := 0
  missRun : Nat := 0
  acqFrom : Nat := 0
  rootEpoch : Nat := 0
  upState : Nat := 0
  upRootId : Nat := 0
  timeInAt : Option Nat := none
  trims : List (Nat × Nat) := []
  lockAt : Option Nat := none
  heldRatio : Int := 0
  holdAt : Nat := 0
  sscDepth : Nat := 0
  wakeFix : Bool := false
  startDue : Bool := false
  degradedPosted : Bool := false
  meridOutUntil : Nat := 0
  deriving DecidableEq, Repr

/-- One end U's record of a link it fixes (R33 to R35, R42): the fix outstanding (sequence number and t1), the next sequence
number, the filtered round, the round discarded once, the last theta, when a round last entered the filter, the upstream
residence, the failures in a row and the instant at which the next fix falls due. Times in units of 2^-16 ns, the last two in ns. -/
structure LinkFix where
  outstanding : Option (Nat × Nat) := none
  seq : Nat := 0
  filtered : Option Nat := none
  discarded : Option Nat := none
  theta : Int := 0
  lastGood : Nat := 0
  resUp : Nat := 0
  fails : Nat := 0
  due : Nat := 0
  deriving DecidableEq, Repr

/-- The state of a bearing (Table 02-4). -/
inductive BearingState where
  | none | fixed | stale
  deriving DecidableEq, Repr

/-- A bearing (Table 02-4), with the values last sent in SET_BEARING and their apply tick (R40), the time of the oldest contributing fix of its path
(for AGE) and the reason it became STALE for (R43). -/
structure Bearing where
  delayDn : Nat := 0
  advanceUp : Nat := 0
  asym : Int := 0
  offset : Int := 0
  since : Nat := 0
  hubs : Nat := 0
  gen : Nat := 0
  slow : Bool := false
  state : BearingState := .none
  fails : Nat := 0
  sent : Option (Nat × Nat) := none
  sentApply : Nat := 0
  staleReason : Nat := 0
  deriving DecidableEq, Repr

/-! ### The chart (05) -/

/-- A chart entry (Table 05-3), its four words decoded. `piOffset` 0xFFFFF means none and `trigger` 0 none. -/
structure ChartEntry where
  dup : Bool := false
  hold : Nat := 0
  port : Nat := 0
  len : Nat := 0
  inbound : Bool := false
  start : Nat := 0
  valid : Bool := false
  owner : Nat := 0
  pipe : Nat := 0
  node : Nat := 0
  dupOffset : Nat := 0
  phase : Nat := 0
  k : Nat := 0
  payload : Nat := 0
  piOffset : Nat := 0
  trigger : Nat := 0
  deriving DecidableEq, Repr

/-- What an outbound leg sends in a tick (Table 05-9): its supplied payload, a held one, the safe value, or nothing. -/
inductive Sending where
  | data (bytes : List Byte)
  | held (bytes : List Byte)
  | safe (bytes : List Byte)
  | omit
  deriving DecidableEq, Repr

/-- What the controller keeps per chart index: the two working buffers, each with the tick it was supplied for (R159), the
payload fixed for a tick at START - 2 (R246), the last-sent copy (R166), the inbound leg buffer, the status word of
Table 07-5 with the tick its event was raised in, the last tick completed with SUCCESS, the last tick sent in, the last tick whose slots held a
range that has completed, and how the first copy of a duplicated leg ended (its tick; 0 with no frame, 1 with a bad one, 2 cut). -/
structure LegRec where
  buf0 : Option (Nat × List Byte) := none
  buf1 : Option (Nat × List Byte) := none
  fixed : Option (Nat × Sending) := none
  lastSent : Option (List Byte) := none
  inb : List Byte := []
  status : Nat := 0
  stale : Bool := false
  nodeFault : Bool := false
  dupUsed : Bool := false
  doneTick : Option Nat := none
  goodTick : Option Nat := none
  sentTick : Option Nat := none
  endTick : Option Nat := none
  copyTick : Option (Nat × Nat) := none
  deriving DecidableEq, Repr

/-- The chart: both banks with their safe values (R153), the leg records, the latched commit (R11), the instant at which a COMMIT hands over while stopped (R11), the CHART_EDIT COMMIT that
waits for it (R312), the admission and release requests waiting and in the batch (R161), the reserves in force, the instant in ns at which the replay ends (R158), and the inbound legs of the
last tick that had not completed at its end, with its number and the slots it had (R168). -/
structure ChartUnit where
  bankA : List (Nat × ChartEntry) := []
  bankB : List (Nat × ChartEntry) := []
  safeA : List (Nat × List Byte) := []
  safeB : List (Nat × List Byte) := []
  legs : List (Nat × LegRec) := []
  latched : Bool := false
  dueNs : Nat := 0
  commitTag : Option Nat := none
  admitWait : List Nat := []
  admitBatch : List Nat := []
  reserveActive : List (Nat × Nat) := []
  replayEnd : Nat := 0
  late : List (Nat × ChartEntry) := []
  lateTick : Nat := 0
  lateSlots : Nat := 0
  deriving DecidableEq, Repr

/-! ### The tree (04) -/

/-- The states of a node-table entry (Table 04-11). -/
inductive NodeState where
  | free | absent | enumerating | addressed | active | suspect | quarantine
  deriving DecidableEq, Repr

/-- A node-table entry (Table 04-12), its words decoded. -/
structure NodeEntry where
  route : Nat := 0
  port : Nat := 0
  product : Nat := 0
  vendor : Nat := 0
  serial : Nat := 0
  cls : Nat := 0
  owner : Nat := 0
  legacy : Bool := false
  tier : Nat := 0
  template : Bool := false
  gen : Nat := 0
  hub : Bool := false
  state : NodeState := .free
  deriving DecidableEq, Repr

/-- What the tree logic keeps of a node beside its table entry: consecutive ticks with a missed response and the last such
tick (R129), the instants of its last errors in ms, newest first (R130), what falls due at the next meridian (removal
with its reason, quarantine with its reason, release), the REASON of the QUARANTINE posted (R132), the apply tick at
which it appears (R119), what its descriptors said (R113, R114), the instances that received its ATTACH (R121), a hub's last
SEQ and POWER_FAULT (R111, R395), whether a hub still needs a SET_CONFIG that lists its status leg (R112), and a hub's READ_TIMING under way with the
instant in ns at which the next falls due (R42). -/
structure NodeRec where
  missTicks : Nat := 0
  lastMiss : Option Nat := none
  errors : List Nat := []
  removal : Option Nat := none
  quarantine : Option Nat := none
  release : Bool := false
  quarReason : Nat := 0
  appearAt : Option Nat := none
  maxPacket : Nat := 0
  features : Nat := 0
  pipes : List (List Byte) := []
  attachTo : List Nat := []
  hubSeq : Nat := 0
  powerFault : Nat := 0
  unlisted : Bool := false
  poll : Option Nat := none
  pollDue : Nat := 0
  deriving DecidableEq, Repr

/-- A location (R100): root port, route, and the parent hub's address and port (0 and 0 on a root port). -/
structure Location where
  port : Nat := 0
  route : Nat := 0
  tier : Nat := 0
  parent : Nat := 0
  hubPort : Nat := 0
  deriving DecidableEq, Repr

/-- An enumeration in progress (Table 04-6): its location, the step, the retries used in the step, how often steps 9 and 10 were repeated (R119), the address chosen, the
entry to return to on failure, the rule of R117 that chose it, the hubs still to be routed (R118 step 4), the descriptor, the
apply tick, whether it waits for its status leg's admission and with what outcome (R112), and the conversation of its request. -/
structure EnumJob where
  loc : Location
  step : Nat := 1
  retries : Nat := 0
  repeats : Nat := 0
  addr : Nat := 0
  prior : NodeEntry := {}
  rule : Nat := 0
  routeHub : Nat := 0
  desc : List Byte := []
  applyTick : Nat := 0
  admitting : Bool := false
  status : Nat := 0
  conv : Option Nat := none
  deriving DecidableEq, Repr

/-- One root port's tree: locations queued, the one being enumerated, the failed ones (R115, R120), and those on whose link the retrain of R121
is under way, which does not count as the link going down. -/
structure EnumTree where
  queue : List Location := []
  job : Option EnumJob := none
  failed : List Location := []
  retrained : List Location := []
  deriving DecidableEq, Repr

/-- The tree logic: the node table, its records, the bearing store, the trees and the staged words of TRE_NODE_DATA with
the snapshot a read takes (R137). -/
structure TreeUnit where
  nodes : List (Nat × NodeEntry) := []
  recs : List (Nat × NodeRec) := []
  bearings : List (Nat × Bearing) := []
  trees : List (Nat × EnumTree) := []
  staged : List (Nat × Nat) := []
  deriving DecidableEq, Repr

/-! ### Conversations (06) -/

/-- The states of a conversation at the controller (Table 06-13); DONE conversations are gone. -/
inductive ConvState where
  | queued | active | backoff | aborting
  deriving DecidableEq, Repr

/-- The stage of a control transfer (R201); a bulk transfer is always in `data`. -/
inductive ConvStage where
  | setup | data | status
  deriving DecidableEq, Repr

/-- A conversation of the transfer engine. Who asked: a tag, or (without one) the tree logic. Its node, pipe, direction and data: the
host buffers as (address, length) pieces, or the tree's own bytes. The outbound window counts packets of the transfer from
0 (SETUP is packet 0 of a control transfer): `base` is the oldest unacknowledged, `next` the next to send, `sent` one past the
last sent, `mark` one past the last that go-back-N sends again, `seq0` the sequence number of packet 0 (R189, R191, R192).
`inSeq0` and `inCount` are the same for packets stored. `counts` are the retries by packet (R197), `setAside` what the status
stage and the ABORT have used. `waitFrom` is since when only WAIT was answered, `backNs` and `backTick` when R198 allows
the next grant. `setupAt` is when SETUP was
first sent (R120), `owesWait` and `closing` are the WAIT and the ACK still to be sent, `askDue` the grant of R195 after 8 us. `sentAt` are the instants of the
packets sent, by packet (R195). `abortAsked` is an abort that waits for a packet boundary (R200). `stamp` is what a request of the tree takes when its SETUP first leaves: 1 a
bearing of R40, 2 that of step 9, 3 the apply tick of step 10, 4 that of a hub configured again (R119); `keep` is whether the tree logic waits for its answer. -/
structure Conv where
  tag : Option Nat := none
  port : Nat := 0
  node : Nat := 0
  pipe : Nat := 0
  inbound : Bool := false
  control : Bool := false
  setup : List Byte := []
  stage : ConvStage := .data
  state : ConvState := .queued
  length : Nat := 0
  pieces : List (Nat × Nat) := []
  bytes : List Byte := []
  stored : Nat := 0
  size : Nat := 1024
  seq0 : Nat := 0
  base : Nat := 0
  next : Nat := 0
  sent : Nat := 0
  mark : Nat := 0
  credit : Nat := 1
  inSeq0 : Nat := 0
  inCount : Nat := 0
  limit : Nat := 7
  counts : List (Nat × Nat) := []
  setAside : Nat := 0
  retries : Nat := 0
  sentAt : List (Nat × Nat) := []
  askDue : Bool := false
  waitFrom : Option Nat := none
  backNs : Nat := 0
  backTick : Nat := 0
  pressed : Bool := false
  owesWait : Bool := false
  closing : Bool := false
  abortAsked : Bool := false
  abortSent : Bool := false
  stamp : Nat := 0
  setupAt : Option Nat := none
  endStatus : Nat := 0
  keep : Bool := false
  deriving DecidableEq, Repr

/-- The last grant of a port (R178): its conversation and node, the instant of its tick's meridian in ns, the first slot and the slots of its range at the
root pins, the slot at which its next frame is accepted and in how many slots it may begin (0 in bearing mode: at the slot's boundary, Table 06-4), whether
a frame has begun, whether no more is expected, whether it asks for the answer to an ABORT or for DATA, the packets sent before it, and whether a damaged frame in it keeps all that
follows from being stored (R206). -/
structure Grant where
  conv : Nat := 0
  node : Nat := 0
  merid : Nat := 0
  start : Nat := 0
  slots : Nat := 0
  next : Nat := 0
  extra : Nat := 0
  begun : Bool := false
  closed : Bool := true
  forAbort : Bool := false
  forData : Bool := false
  sent : Nat := 0
  spoiled : Bool := false
  deriving DecidableEq, Repr

/-- A pipe's context at the controller (Table 18-8): what describes it, its sequence counters (R189), the credit (R191), the
halt mark (R199), and the status of the last transfer completed on it. -/
structure PipeCtx where
  valid : Bool := false
  enabled : Bool := false
  inbound : Bool := false
  kind : Nat := 0
  credit : Nat := 1
  size : Nat := 0
  outSeq : Nat := 0
  inSeq : Nat := 0
  oldest : Nat := 0
  halted : Bool := false
  lastStatus : Nat := 0
  deriving DecidableEq, Repr

/-- The transfer engine: conversations in the order of their fetch, the status and data of those that the tree logic has not yet taken, the last grant of each port, the pipe contexts
by node * 32 + pipe, the rotating pointers by class, port and direction (R188), and the next conversation number. -/
structure ConvUnit where
  convs : List (Nat × Conv) := []
  answers : List (Nat × Nat × List Byte) := []
  grants : List (Nat × Grant) := []
  pipes : List (Nat × PipeCtx) := []
  pointers : List (Nat × Nat) := []
  next : Nat := 0
  deriving DecidableEq, Repr

/-! ### Nodes and hubs (02, 03, 04, 05, 06): the parties below the root ports -/

/-- The states of a node's pipe (Table 06-14). -/
inductive PipeState where
  | disabled | idle | active | halted
  deriving DecidableEq, Repr

/-- A node's pipe: its state, the sequence number it expects and the one it sends next (R189), whether it owes NAK (R190) or
the ACK of an ABORT (R200), whether the controller has closed its inbound data stage (R201), the data it holds to send, packet by packet, and what it has taken. -/
structure NodePipe where
  state : PipeState := .idle
  expect : Nat := 0
  toSend : Nat := 0
  oweNak : Bool := false
  oweAck : Bool := false
  closed : Bool := false
  ready : List (List Byte) := []
  taken : List (List Byte) := []
  deriving DecidableEq, Repr

/-- A node's inbound leg as SET_CONFIG lists it (Table 06-10). -/
structure NodeLeg where
  pipe : Nat := 0
  dup : Bool := false
  dupOffset : Nat := 0
  phase : Nat := 0
  k : Nat := 0
  start : Nat := 0
  payload : Nat := 0
  deriving DecidableEq, Repr

/-- A configuration a node has taken: apply tick, slowest generation, enabled pipes, inbound legs (R205). -/
structure NodeConfig where
  applyTick : Nat := 0
  pathGen : Nat := 0
  pipeEn : Nat := 0
  legs : List NodeLeg := []
  deriving DecidableEq, Repr

/-- A bearing a node has taken: delays in 2^-16 ns, the reference time, the apply tick (R204). -/
structure NodeBearing where
  delayDn : Nat := 0
  advanceUp : Nat := 0
  refTick : Nat := 0
  refNs : Nat := 0
  refFrac : Nat := 0
  applyTick : Nat := 0
  deriving DecidableEq, Repr

/-- The states of a hub's downstream port (R102). -/
inductive HubPortState where
  | down | unaddressed | addressed
  deriving DecidableEq, Repr

/-- A hub's downstream port: its state, its gate, its link fix, its failed first fixes (R108), its fixed residence RES_UP in 2^-16 ns (R36, R149) and
whether its timing record is valid (Table 02-3). -/
structure HubPort where
  state : HubPortState := .down
  gate : Bool := false
  fix : LinkFix := {}
  resUp : Nat := 0
  valid : Bool := false
  firstFails : Nat := 0
  deriving DecidableEq, Repr

/-- What a hub holds beside a node's own state (R102, R103, R109, R110): its ports, route table, CHANGE, POWER_FAULT, FLAGS and
SEQ; for a dual-homed hub, that it is one, its active
upstream port (0 is A, 1 is B) and when a marker last came on it (R425). -/
structure HubState where
  ports : List (Nat × HubPort) := []
  routes : List (Nat × Nat) := []
  change : Nat := 0
  powerFault : Nat := 0
  flags : Nat := 0
  seq : Nat := 0
  dual : Bool := false
  active : Option Nat := none
  markerAt : Nat := 0
  deriving DecidableEq, Repr

/-- The states of a sink's contract (12). -/
inductive SinkState where
  | unpowered | default | transition | contract | local
  deriving DecidableEq, Repr

/-- A message that waits for its ACK (R375): its type, MSG_ID, payload, and how often it has been sent again. -/
structure PwcMessage where
  type : Nat
  id : Nat
  word : Nat := 0
  again : Nat := 0
  deriving DecidableEq, Repr

/-- One end of a PWC wire (R375): the next MSG_ID, the last one acknowledged, the messages not yet acknowledged (the first is on the wire), when
that one ends, and from when the line is idle, in ns. -/
structure PwcEnd where
  msgId : Nat := 0
  lastRx : Option Nat := none
  outq : List PwcMessage := []
  sentEnd : Nat := 0
  lineFree : Nat := 0
  deriving DecidableEq, Repr

/-- A node as the bus chapters give it: its address (0 while it has none), its descriptors, its last marker with its arrival, its local
meridian, the instant at which it last set its chronometer with the value set (in 2^-16 ns), its bearing and configuration in use and awaiting their
apply tick, its pipes, the control request it holds, whether it has discarded a damaged frame since its last handshake (R207), the last valid outbound
payload of each pipe, the intervals in ns in which its upstream lane carries a frame (R34, R106), its hub part and its side of the cable-power contract
(Table 12-8) with its end of the PWC wire and the instants of its next beat and KEEP_ALIVE (R381, R382). -/
structure NodeDev where
  addr : Nat := 0
  desc : List Byte := []
  pipeDesc : List (List Byte) := []
  marker : Option Nat := none
  markerAt : Int := 0
  epoch : Nat := 0
  timeValid : Bool := false
  localMerid : Int := 0
  timeRef : Int × Nat := (0, 0)
  bearing : Option NodeBearing := none
  bearingNext : Option NodeBearing := none
  config : Option NodeConfig := none
  configNext : Option NodeConfig := none
  pipes : List (Nat × NodePipe) := []
  request : List Byte := []
  answer : List Byte := []
  answerStatus : Nat := 0
  finished : Bool := false
  refused : Bool := false
  pendingAddr : Nat := 0
  oweNak : Bool := false
  payloads : List (Nat × List Byte) := []
  busy : List (Nat × Nat) := []
  hub : Option HubState := none
  sink : SinkState := .unpowered
  sinkContract : Nat := 0
  sinkAsked : Nat := 0
  sinkArm : Nat := 0
  sinkCable : Bool := false
  sinkSince : Nat := 0
  sinkLine : PwcEnd := {}
  sinkBeatAt : Nat := 0
  sinkAliveAt : Nat := 0
  deriving DecidableEq, Repr

/-! ### PCI Express functions (18) -/

/-- What a function's configuration space holds that the controller acts on: MSI-X Enable and Function Mask (R365), Bus Master
Enable (R331), Memory Space Enable (that of the VFs stands in PF0's SR-IOV capability), the D-state, PASID Enable (R518), Max_Payload_Size and
Max_Read_Request_Size by their codes and 10-Bit Tag Requester Enable (R519; that of the VFs stands in PF0's SR-IOV capability), and of its AER capability (R523) the Uncorrectable Error Status, Mask and
Severity words, the first error and the Correctable Error Status word, the errors detected (0 Correctable, 1 Non-Fatal, 2 Fatal, 3 Unsupported Request) and their reporting enables; `words` are the other words that a host has written, by offset. Key 0 is PF0, key n is VF n. -/
structure FnCfg where
  msixEn : Bool := false
  msixMask : Bool := false
  bme : Bool := false
  mse : Bool := false
  vfMse : Bool := false
  dstate : Nat := 0
  pasidEn : Bool := false
  mps : Nat := 0
  mrrs : Nat := 2
  tag10 : Bool := false
  vfTag10 : Bool := false
  aerStatus : Nat := 0
  aerMask : Nat := 0
  aerSeverity : Nat := 0x00462030
  aerFirst : Nat := 0
  corStatus : Nat := 0
  detected : Nat := 0
  errEnable : Nat := 0
  words : List (Nat × Nat) := []
  deriving DecidableEq, Repr

/-! ### Cable power (12) -/

/-- What the cable-power logic keeps of a port: its end of the PWC wire, the contract asked for or being reverted to, a transition's start, when its
next READ_VOUT starts, its readings in range and whether PS_READY waits for a beat (R380, R381), when the sink was last heard (R382), a REDUCE outstanding (R383), the contract to arm and
the start of SWAPPING (R388), the instant REARM, the discharge or a wait ends, a FORCE_DEFAULT that waits (R397), and
whether the reversion follows an expiry (R382). -/
structure PwcPort where
  line : PwcEnd := {}
  target : Nat := 0
  old : Nat := 0
  reverting : Bool := false
  since : Nat := 0
  pollAt : Nat := 0
  inRange : Nat := 0
  readyDue : Bool := false
  heard : Nat := 0
  reduce : Option Nat := none
  reduceAt : Nat := 0
  arm : Nat := 0
  swapAt : Nat := 0
  waitEnd : Nat := 0
  forceDue : Bool := false
  expired : Bool := false
  deriving DecidableEq, Repr

/-- The cable-power logic: the ports, and the PMBus: transactions still to run, by target (a stage's port, or 16 and up for the
regulators of 13), each a command code and a value; the one on the bus; and what VOUT_MODE was last read from each target (R385). -/
structure CpwUnit where
  ports : List (Nat × PwcPort) := []
  pmbus : List (Nat × List (Nat × Nat)) := []
  bus : Option (Nat × Nat × Nat) := none
  modes : List (Nat × Nat) := []
  deriving DecidableEq, Repr

/-! ### Lanes (03) -/

/-- What the training of one end of a link keeps (R74 to R85). The ends are the controller's lanes 0 to 18 (Table 03-10), and port `p` of
device `d` as number 32 + 32 * d + p: 0 is its upstream port, 16 the upstream port B of a dual-homed hub, 1 to 15 a hub's downstream ports. Kept are
the state of a device's end (a lane of the controller shows its own in LNK_STATUS), the instant the state was entered, whether it holds the idle of a
failed attempt, whether a device's end holds lock and has a legacy peer, what the peer's TRAIN and CAPS have shown, own and peer EQ_FAIL, the
generation in use and the target, a device's own MAX_GEN, READY sets in a row, the instant from which GEN_GO has D hold electrical idle, the start of the bring-up, since
when the receiver sees no signal, whether LINK_OFF came before, the instants of code errors in the window (R88) and since lock (R77), whether it comes
from RETRAIN, and from one that a CDR swap caused (R97), foghorn bursts sent (R94), whether DETECT waits for the domain of the lane after a foghorn (R95), and
until when a frame occupies the lane in ns (R34). -/
structure LaneRec where
  st : Nat := 1
  entered : Nat := 0
  idle : Bool := false
  locked : Bool := false
  legacy : Bool := false
  peerLocked : Bool := false
  trainSeen : Bool := false
  caps : Option Nat := none
  capsRun : Nat := 0
  peerAck : Bool := false
  eqFail : Bool := false
  peerEqFail : Bool := false
  gen : Nat := 1
  target : Nat := 1
  maxGen : Nat := 3
  readyRun : Nat := 0
  goAt : Option Nat := none
  began : Nat := 0
  lostAt : Option Nat := none
  linkOff : Bool := false
  codeErrs : List Nat := []
  lockErrs : List Nat := []
  fromRetrain : Bool := false
  swapped : Bool := false
  bursts : Nat := 0
  waking : Bool := false
  txUntil : Nat := 0
  deriving DecidableEq, Repr

/-! ### Helms and tasks (07) -/

/-- A register bank of a helm (R218): program counter, x1 to x31, f0 to f31, fcsr; unlisted registers are 0. -/
structure Bank where
  pc : Nat := 0
  x : List (Nat × Nat) := []
  f : List (Nat × Nat) := []
  fcsr : Nat := 0
  deriving DecidableEq, Repr

/-- A preempted task of a helm: its number, the helm's `cycles` at its first instruction and its activation tick; its registers stand in
its save frame in DTCM (R218). -/
structure Frame where
  task : Nat := 0
  first : Nat := 0
  act : Nat := 0
  deriving DecidableEq, Repr

/-- What background waits for (R213, R224, R242): nothing, an interrupt, a dispatch or interrupt, or a semaphore. -/
inductive HelmWait where
  | none | wfi | wft | sem (n : Nat)
  deriving DecidableEq, Repr

/-- The machine-mode CSRs of a helm that software can write (R214, R565), mcycle and minstret in 64 bits. -/
structure HelmCsr where
  mie : Bool := false
  mpie : Bool := false
  meie : Bool := false
  mtvec : Nat := 0
  mscratch : Nat := 0
  mepc : Nat := 0
  mcause : Nat := 0
  mtval : Nat := 0
  mcycle : Nat := 0
  minstret : Nat := 0
  deriving DecidableEq, Repr

/-- A physical helm (R218 to R243): banks, CSRs, the task dispatched to it, whether it still waits for its first instruction
(R238) and the task to be spilled then, when it was dispatched, the value of `cycles` at the running task's first instruction and its
activation tick, the preempted tasks (the last one first), what background waits for, the instant at which its last
instruction completed, the LR reservation, the half of time last sampled (R214), whether background is at the first
instruction of its trap handler (R229), the instant it entered ENABLING, since when reflex work keeps it
busy and for how long in this tick (HLM_LOAD), the helm cycles counted since ENABLING, which generation of undefined contents its TCMs hold (0 once
zeroized), whether a fabric-window access to an off domain stalls it (R417), and its last store with the end of that cycle (R216). Instants are steady, in units of 1/12 ns, so that every helm clock divides them. -/
structure HelmUnit where
  bank0 : Bank := {}
  bank1 : Bank := {}
  csr : HelmCsr := {}
  task : Option Nat := none
  entering : Bool := false
  spill : Option Frame := none
  dispAt : Nat := 0
  first : Nat := 0
  act : Nat := 0
  frames : List Frame := []
  wait : HelmWait := .none
  at12 : Nat := 0
  resv : Option Nat := none
  timeHi : Nat := 0
  handler : Bool := false
  enabAt : Nat := 0
  busyFrom : Option Nat := none
  busy : Nat := 0
  cycles : Nat := 0
  tcmGen : Nat := 0
  stall : Bool := false
  stored : Option (Nat × Nat × Nat) := none
  deriving DecidableEq, Repr

/-- A task slot (R230 to R250): its descriptor words, whether it is enabled and what falls due at the next meridian (R232), its
affinity helm, whether it is armed in the tick, its counter, the instant it became ready, whether it is dispatched and not
ended, and preempted, the tick it last ended in, the tick a LATE was marked for, whether its last activation
trapped, and its statistics. -/
structure TaskRec where
  desc : List Nat := []
  enabled : Bool := false
  due : Option Bool := none
  lastHelm : Option Nat := none
  armed : Bool := false
  count : Nat := 0
  readyAt : Option Nat := none
  live : Bool := false
  preempted : Bool := false
  actTick : Nat := 0
  endedTick : Option Nat := none
  markedTick : Option Nat := none
  trapped : Bool := false
  lateCnt : Nat := 0
  runCnt : Nat := 0
  maxCyc : Nat := 0
  lastCyc : Nat := 0
  skipCnt : Nat := 0
  extraCnt : Nat := 0
  deriving DecidableEq, Repr

/-- The task scheduler: the task table, the words staged for WRITE, the rotating pointers over tasks, over helms for dispatch
and over helms for semaphores, the instant each semaphore last changed hands, and the semaphores whose OVERHOLD was raised. -/
structure TaskUnit where
  tasks : List (Nat × TaskRec) := []
  staged : List (Nat × Nat) := []
  taskPtr : Nat := 0
  helmPtr : Nat := 0
  semPtr : Nat := 0
  semAt : List (Nat × Nat) := []
  semOver : List Nat := []
  deriving DecidableEq, Repr

/-! ### Halt and watchdog (15) -/

/-- The halt line and the watchdog: when the controller last released HALT# (R465), since when another party holds it low, when the
watchdog was last kicked (R466), and whether the last latch point found a halt cause (R464). -/
structure HaltUnit where
  releasedAt : Nat := 0
  lowSince : Option Nat := none
  kickedAt : Nat := 0
  next : Bool := false
  deriving DecidableEq, Repr

/-! ### Process image and channels (08) -/

/-- What the write engine keeps of an instance's inbound page of a tick (R254 to R256): the tick, what the chronometer showed at its
meridian, the counted legs still to be written, those of them that the half cause waits for, the legs written and failed, and whether the half and full causes were raised. -/
structure PiIn where
  tick : Nat := 0
  meridNs : Nat := 0
  left : List Nat := []
  half : List Nat := []
  written : Nat := 0
  failed : Nat := 0
  halfDone : Bool := false
  fullDone : Bool := false
  deriving DecidableEq, Repr

/-- An instance's process-image stream (R257 to R261): the tick its page serves, whether the STAMP read is outstanding, the reads not yet issued (R266), those
outstanding as (page tick, offset, length), the pieces that have arrived, whether the stamp matched and the reads were issued, whether a read
failed, whether the latch point has passed, the tick whose page counts as supplied, its inbound pages, whether its STAMP read is still to be issued, and
whether it waits for a request (R266). -/
structure PiStream where
  page : Nat := 0
  stamp : Bool := false
  waiting : List (Nat × Nat) := []
  reads : List (Nat × Nat × Nat) := []
  got : List (Nat × List Byte) := []
  missed : Bool := false
  faulted : Bool := false
  closed : Bool := true
  supplied : Option Nat := none
  inb : List PiIn := []
  stampDue : Bool := false
  npWait : Bool := false
  deriving DecidableEq, Repr

/-- A descriptor in progress on a channel (Table 08-7): its address, its eight words, the pieces of its host buffer, bytes
issued and moved, and whether its flush read is outstanding (R276). -/
structure Desc where
  addr : Nat := 0
  words : List Nat := []
  pieces : List (Nat × Nat) := []
  short : Bool := false
  issued : Nat := 0
  moved : Nat := 0
  flush : Bool := false
  deriving DecidableEq, Repr

/-- A physical channel: the descriptor being fetched, the one in progress, the bursts in flight, oldest first, as (offset, length),
the last descriptor completed (R273), whether a RESUME re-reads its NEXT, whether an abort waits for bursts in flight
(R277), the command that waits for the chain (R308), since when the channel waits for a burst (R267), whether an access to an off domain
stalls it (R417), whether its descriptor fetch or flush read waits for a request (R266), the descriptors of the chain that have completed, and the reads
of a chain ended by FORCE that are still outstanding (R336). -/
structure Channel where
  fetching : Option Nat := none
  cur : Option Desc := none
  bursts : List (Nat × Nat) := []
  last : Option Nat := none
  resuming : Bool := false
  stopping : Bool := false
  tag : Option Nat := none
  waitFrom : Nat := 0
  stall : Bool := false
  npWait : Bool := false
  done : Nat := 0
  orphans : Nat := 0
  deriving DecidableEq, Repr

/-- The DMA engine: streams by instance, physical channels, the rotating pointers over channels and over streams. -/
structure DmaUnit where
  streams : List (Nat × PiStream) := []
  channels : List (Nat × Channel) := []
  pointer : Nat := 0
  piPointer : Nat := 0
  deriving DecidableEq, Repr

/-! ### Power (13) -/

/-- Where the power manager stands: S0 or S1, step 2 of an entry, the reversions of step 5, the wait of step 8, S2 or S3, a wake
step (Table 13-5), the 1.0 ms before a step is tried again, WAKE_FAULT, or the interval of a WARM or COLD reset. -/
inductive PwrPhase where
  | run | idle | revert | pme | asleep | wake (step : Nat) | retry (step : Nat) | fault | reset (warm : Bool)
  deriving DecidableEq, Repr

/-- An access that an off domain stalls (R417): its domain; whether it is a TCM access through BAR4 or a BAR0 access; whether it
writes; its offset and value. -/
structure Stalled where
  domain : Nat
  tcm : Bool
  write : Bool
  off : Nat
  value : Nat
  deriving DecidableEq, Repr

/-- The power manager: its phase with the state left (3 also at power-up) and the instant the phase began, whether the step
was tried again and its new voltage confirmed, the command that enters, what the next meridian does in S0 and S1 (the state
to enter, and the cause of a return), the wake cause latched during an entry (cause, index), the latched pads that are high
(PEN ports, ROLE_OUT), the domains coming on (since when, and whether an access asked) with the accesses they stall, the operating
point's latch, instants and command, whether task arming waits for TSK_CTRL.RUN after S2, since when the functions of an AUTO domain
have been seen OFF (R416), and the AON scratch by word. -/
structure PwrUnit where
  phase : PwrPhase := .wake 1
  left : Nat := 3
  powerUp : Bool := true
  since : Nat := 0
  retried : Bool := false
  vok : Bool := false
  tag : Option Nat := none
  next : Option Nat := none
  nextCause : Nat := 0
  latched : Option (Nat × Nat) := none
  penHigh : List Nat := []
  roleHigh : Bool := false
  coming : List (Nat × Nat × Bool) := []
  stalled : List Stalled := []
  opSince : Nat := 0
  opLatched : Bool := false
  opDue : Nat := 0
  opTag : Option Nat := none
  taskHeld : Bool := false
  idleFrom : List (Nat × Nat) := []
  scratch : List (Nat × Nat) := []
  deriving DecidableEq, Repr

/-! ### Redundant pair (14) -/

/-- A mirror record (Table 14-2). -/
structure MirrorRec where
  rtype : Nat
  index : Nat
  data : List Byte
  deriving DecidableEq, Repr

/-- The pair logic: when ELECT was entered, when the last claim went out, whether a CLAIM of its own and one of the partner's have gone
since, whether a SWAP of its own is unanswered and since when; the last ROLE_IN edge (as a count of ns since reset) and when the
partner was last alive; the tick of a hand-over; the tick of the last MBEACON; whether the watchdog is armed; records waiting (at a
standby, those that the copy holds back), the frames and bytes of the tick, whether OUT records were dropped; the newest OUT record
of each leg (index, tick, payload); the tick and frame of the records last taken, the tick since which none is missing; the copy: the
next chunk to send, the bytes received, whether the last chunk has gone or come; the COMMIT record not yet handed over, the tick whose
commit was lost; whether STATE has set the time; since when MIRROR is not UP; the takeover tick; by port the top node whose new bearing
ends the skews when it applies, and the skews in 2^-16 ns, not clamped; the pipes whose first conversation sends ABORT first; the level of ROLE_OUT. -/
structure PairUnit where
  electAt : Nat := 0
  claimAt : Nat := 0
  claimed : Bool := false
  peerClaimed : Bool := false
  swapSent : Bool := false
  swapAt : Nat := 0
  edgeAt : Option Nat := none
  aliveAt : Nat := 0
  handTick : Option Nat := none
  beacon : Option Nat := none
  armed : Bool := false
  waiting : List MirrorRec := []
  frames : Nat := 0
  bytes : Nat := 0
  overflow : Bool := false
  outRecs : List (Nat × Nat × List Byte) := []
  rxTick : Nat := 0
  rxFrame : Nat := 0
  goodFrom : Option Nat := none
  copyNext : Option Nat := none
  copyBuf : List Byte := []
  copied : Bool := false
  commit : Option Nat := none
  chartLost : Option Nat := none
  timeSet : Bool := false
  downAt : Option Nat := none
  takeover : Option Nat := none
  skewEnd : List (Nat × Nat) := []
  tskew : List (Nat × Int) := []
  rskew : List (Nat × Int) := []
  freshPipes : List Nat := []
  roleOut : Bool := false
  deriving DecidableEq, Repr

/-! ### Start-up (15), security (16) -/

/-- The boot: whether the Keeper has left reset and its boot is due, whether it follows S3 or a WARM reset, whether a host wait is chosen by the strap, the slot being loaded,
its verdict and next section, the slots that failed, the slot that IMAGE_ACTIVATE names alone, the last power-good, whether the
RUN section has been applied, PERST#, whether configuration space is ready, whether FAULT# is asserted, the WARM reset that
IMAGE_ACTIVATE schedules, and the end of a wait in a register-write list with the entries that follow it (R456). -/
structure BootUnit where
  keeper : Bool := false
  s3 : Bool := false
  warm : Bool := false
  slot : Option Nat := none
  verified : Bool := false
  index : Nat := 0
  tried : List Nat := []
  only : Option Nat := none
  pgAt : Nat := 0
  runDone : Bool := false
  perst : Bool := false
  cfgReady : Bool := false
  faultLow : Bool := false
  warmAt : Option Nat := none
  rest : Option (Nat × List Byte) := none
  deriving DecidableEq, Repr

/-- What the Keeper has under way for a command: an OTP operation, a flash operation, or a journal record that a check waits for;
the bytes it works with. -/
structure KeeperOp where
  tag : Option Nat := none
  addr : Nat := 0
  bytes : List Byte := []
  flag : Nat := 0
  revoke : Nat := 0
  deriving DecidableEq, Repr

/-- The security logic: the operations under way, the next free journal byte and record number, the instants of the failed checks of each
instance in ns since reset, newest first, the instances in lockout with its end, the life-cycle change and the zeroization
that fall due, the life-cycle state of the last boot, and whether the zeroization stops at the next meridian. -/
structure SecUnit where
  otpOp : Option KeeperOp := none
  flashOp : Option KeeperOp := none
  journal : Option KeeperOp := none
  jrnOff : Nat := 0x2000
  jrnNum : Nat := 0
  fails : List (Nat × List Nat) := []
  locked : List (Nat × Nat) := []
  lifeAt : Option (Nat × Nat) := none
  zeroAt : Option Nat := none
  lifeSeen : Nat := 0
  deriving DecidableEq, Repr

/-! ### Almanac (17) -/

/-- A unit of Table 17-1: its window count, lifetime count, AGE, first and last EYE, whether it is pending, at once, retired, whether EXHAUSTED
was posted, the monitors that warned and acted in this window, and whether a swap at once has taken the helm from ON (R500). -/
structure AlmRec where
  window : Nat := 0
  life : Nat := 0
  age : Nat := 0
  eyeFirst : Option Nat := none
  eyeLast : Nat := 0
  pending : Bool := false
  now : Bool := false
  retired : Bool := false
  exhausted : Bool := false
  warned : List Nat := []
  acted : List Nat := []
  fromOn : Bool := false
  deriving DecidableEq, Repr

/-- A swap under way or done: kind, unit (array), row, spare (0 or 1 of the kind or array), logical number (lane, row), the instant it began. -/
structure AlmSwap where
  kind : Nat := 0
  unit : Nat := 0
  row : Nat := 0
  spare : Nat := 0
  logical : Nat := 0
  since : Nat := 0
  deriving DecidableEq, Repr

/-- An almanac record in flash (R506): the offset of its area, its SEQ, the units' values, the unburned repairs and the last swaps. -/
structure AlmRecord where
  area : Nat := 0
  seq : Nat := 0
  units : List (Nat × AlmRec) := []
  unburned : List AlmSwap := []
  last : List (Nat × Nat) := []
  deriving DecidableEq, Repr

/-- The almanac logic: units by kind * 2^16 + unit * 256 + row, swaps under way, the swaps not yet burned, the last 64 swaps with their
chronometer values, ALM_SWAP commands by unit, the record being written with the commands that wait for it, when the last save
began, whether another falls due, the number of the window, the ALM_BURN under way with what it has still to burn and has burned, when each helm and slice was last measured (R497), and the valid records in flash, newest first. -/
structure AlmUnit where
  units : List (Nat × AlmRec) := []
  busy : List AlmSwap := []
  unburned : List AlmSwap := []
  last : List (Nat × Nat) := []
  waiting : List (Nat × Nat) := []
  saving : Option (List Nat) := none
  saveAt : Nat := 0
  saveDue : Bool := false
  windowAt : Nat := 0
  burnTag : Option Nat := none
  burnLeft : Nat := 0
  burned : Nat := 0
  measured : List (Nat × Nat) := []
  records : List AlmRecord := []
  deriving DecidableEq, Repr

/-! ### Outputs -/

/-- A code on a lane (R62 to R68): a G3 block with its sync header and its payload before scrambling, or at G1 and G2 a control or data
character by its byte. -/
inductive Code where
  | block (header payload : Nat)
  | k (byte : Nat)
  | d (byte : Nat)
  deriving DecidableEq, Repr

/-- What a command sends: frames and ordered sets on lanes, messages to the host, pulses on pins. A frame is the bytes of its header,
payload and CRC-32C, with the pad of its last slot. -/
inductive Output where
  /-- The meridian marker on a root port (Table 02-1), and how long after M it leaves the pins, in 2^-16 ns (R437). -/
  | marker (port : Nat) (codes : List Code) (late : Int)
  /-- A leg frame on a root port (R140, R141): chart index, frame, and how long after its charted slot it leaves, in 2^-16 ns (R438). -/
  | leg (port index : Nat) (frame : List Byte) (late : Int)
  /-- A packet on a root port (R173, R174). -/
  | packet (port : Nat) (frame : List Byte)
  /-- A frame a device launches upstream (R41, R151, R185) on its upstream port (0, or 16 for port B of a dual-homed hub), at an instant in 2^-16 ns since reset. -/
  | nodeFrame (dev port : Nat) (launch : Int) (frame : List Byte)
  /-- A frame a hub forwards: device, port, and the instant it begins to leave, in 2^-16 ns since reset. -/
  | hubFrame (dev port : Nat) (start : Int) (frame : List Byte)
  /-- The marker a hub sends on a downstream port, and the instant it begins to leave, in 2^-16 ns since reset. -/
  | hubMarker (dev port : Nat) (codes : List Code) (start : Int)
  /-- Ordered sets that an end of a link sends, back to back. -/
  | ordered (lane : Nat) (codes : List Code)
  /-- A foghorn burst (R94). -/
  | foghorn (lane : Nat)
  /-- An MSI-X message. -/
  | msix (function vector addr data : Nat)
  /-- A posted write to host memory, with the requester's function and PASID (R319, R519). -/
  | memWrite (function : Nat) (pasid : Option Nat) (addr : Nat) (bytes : List Byte)
  /-- A read request, with the requester's function and PASID (R319, R519). -/
  | memRead (function : Nat) (pasid : Option Nat) (addr len : Nat)
  /-- What an end of a PWC wire drives: a root port, or 1000 + d for the sink of device d, from an instant in ns: the levels of half bit cells of
  0.5 us (R371). -/
  | pwc (port start : Nat) (levels : List Bool)
  /-- A PMBus transaction: the bytes that the controller sends, with its PEC where it writes (R385). -/
  | pmbus (bytes : List Byte)
  /-- A pin driven: its ball and level. -/
  | pin (name : String) (level : Bool)
  /-- A pin goes high now, and low after a time in ns. -/
  | pulse (name : String) (ns : Nat)
  /-- A mirror frame on the MIRROR lane (R428). -/
  | mirror (frame : List Byte)
  /-- What the PCI Express function sends: 0 a completion with the value read, 1 one with Unsupported Request, 2 PME_TO_Ack, 3 a
  completion with Completion Timeout, 4 an error message with its severity. -/
  | pcie (status value : Nat)
  /-- A flash, OTP or journal operation started. -/
  | nvm (kind : String) (vals : List Nat)
  deriving DecidableEq, Repr

/-- The whole machine. -/
structure State where
  /-- Commands waiting, first in, first out. -/
  pending : List Instr := []
  /-- Register fields by `Field.key`, in canonical form against `resetOf`. -/
  regs : List (Nat × Nat) := []
  /-- Host memory. -/
  host : List Host.Cell := []
  /-- The helms' ITCM and DTCM, at (generation * 64 + physical helm) * 2^32 + helm address; number 32 is the bulk buffer. -/
  tcm : List Host.Cell := []
  /-- The number of free values taken (the model's own field). -/
  free : Nat := 0
  /-- What the last command sent. -/
  out : List Output := []
  q : QueueUnit := {}
  ins : InsUnit := {}
  icu : IcuUnit := {}
  chr : ChronUnit := {}
  fixes : List (Nat × LinkFix) := []
  chart : ChartUnit := {}
  tree : TreeUnit := {}
  conv : ConvUnit := {}
  devs : List (Nat × NodeDev) := []
  fns : List (Nat × FnCfg) := []
  cpw : CpwUnit := {}
  lanes : List (Nat × LaneRec) := []
  helms : List (Nat × HelmUnit) := []
  task : TaskUnit := {}
  halt : HaltUnit := {}
  dma : DmaUnit := {}
  pwr : PwrUnit := {}
  pair : PairUnit := {}
  boot : BootUnit := {}
  sec : SecUnit := {}
  alm : AlmUnit := {}
  /-- The QSPI flash (R451); an unlisted byte is erased. -/
  flash : List Host.Cell := []
  /-- The OTP array (R481). -/
  otp : List Host.Cell := []
  deriving DecidableEq, Repr

/-- The machine right after power-on reset: every register field at its table's reset value (an unlisted key), no memory
written, every unit at its own initial value. -/
def State.reset : State := {}

end Sys2Proof.Machine
end

