-- ==== Sys2Proof/Machine/Ops.lean ====
section
/-! DEFINITION. The operations every meaning is built from: the primitive effects a step can have (`Eff`), programs of effects
that read the state as they go (`Prog`), and the named accessors of registers, memories and tables. A meaning is
`finish p s` for some program `p`, so what a step can do at all is said once, by `Eff.apply`. -/

namespace Sys2Proof.Machine

/-- The outcome of a command. -/
abbrev Out := Host.Outcome State Fault Refusal

/-- What an unwritten byte of host memory reads as. DESIGN CHOICE (notes/assumptions/2). -/
def memDefault (_ : Nat) : Byte := 0

/-- What an unwritten byte of a helm memory reads as: 0 after zeroization, which is generation 0; a free value once its domain
has been off (R416). -/
def tcmDefault (k : Nat) : Byte := if k < 64 * 2 ^ 32 then 0 else Config.freeByte k

/-- What an unwritten byte of the flash reads as: erased. DESIGN CHOICE (notes/assumptions/5). -/
def flashDefault (_ : Nat) : Byte := 0xFF

/-- Write bytes at rising addresses. -/
def writeBytes (d : Nat → Byte) (m : List Host.Cell) (addr : Nat) (bs : List Byte) : List Host.Cell :=
  match bs with
  | [] => m
  | b :: t => writeBytes d (Sparse.set d m addr b) (addr + 1) t

/-- Read bytes at rising addresses. -/
def readBytes (d : Nat → Byte) (m : List Host.Cell) (addr len : Nat) : List Byte :=
  (List.range len).map fun i => Sparse.get d m (addr + i)

/-- Program OTP bytes: a bit goes from 0 to 1 only (R481). -/
def otpProgram (m : List Host.Cell) (addr : Nat) (bs : List Byte) : List Host.Cell :=
  match bs with
  | [] => m
  | b :: t => otpProgram (Sparse.set memDefault m addr (Sparse.get memDefault m addr ||| b)) (addr + 1) t

/-- The primitive effects. A register field takes a value cut to its width; a memory takes bytes; a unit is changed as a
whole; an output is sent; a free value is taken. -/
inductive Eff where
  | fld (f : Field) (n v : Nat)
  | host (addr : Nat) (bs : List Byte)
  | tcm (addr : Nat) (bs : List Byte)
  | out (o : Output)
  | takeFree
  | q (f : QueueUnit → QueueUnit)
  | ins (f : InsUnit → InsUnit)
  | icu (f : IcuUnit → IcuUnit)
  | chr (f : ChronUnit → ChronUnit)
  | fix (k : Nat) (v : LinkFix)
  | chart (f : ChartUnit → ChartUnit)
  | tree (f : TreeUnit → TreeUnit)
  | conv (f : ConvUnit → ConvUnit)
  | dev (k : Nat) (v : NodeDev)
  | fn (k : Nat) (v : FnCfg)

  | cpw (f : CpwUnit → CpwUnit)
  | lane (k : Nat) (v : LaneRec)
  | helm (k : Nat) (v : HelmUnit)
  | task (f : TaskUnit → TaskUnit)
  | halt (f : HaltUnit → HaltUnit)
  | dma (f : DmaUnit → DmaUnit)
  | pwr (f : PwrUnit → PwrUnit)
  | pair (f : PairUnit → PairUnit)
  | boot (f : BootUnit → BootUnit)
  | sec (f : SecUnit → SecUnit)
  | alm (f : AlmUnit → AlmUnit)
  | flash (addr : Nat) (bs : List Byte)
  | otp (addr : Nat) (bs : List Byte)
  | keepRegs (keep : Nat → Bool)
  | keepTcm (keep : Nat → Bool)

/-- What a primitive effect does to the state. -/
def Eff.apply (e : Eff) (s : State) : State :=
  match e with
  | .fld f n v => { s with regs := Sparse.set resetOf s.regs (f.key n) (v % 2 ^ f.w) }
  | .host a bs => { s with host := writeBytes memDefault s.host a bs }
  | .tcm a bs => { s with tcm := writeBytes tcmDefault s.tcm a bs }
  | .out o => { s with out := s.out ++ [o] }
  | .takeFree => { s with free := s.free + 1 }
  | .q f => { s with q := f s.q }
  | .ins f => { s with ins := f s.ins }
  | .icu f => { s with icu := f s.icu }
  | .chr f => { s with chr := f s.chr }
  | .fix k v => { s with fixes := Sparse.set (fun _ => {}) s.fixes k v }
  | .chart f => { s with chart := f s.chart }
  | .tree f => { s with tree := f s.tree }
  | .conv f => { s with conv := f s.conv }
  | .dev k v => { s with devs := Sparse.set (fun _ => {}) s.devs k v }
  | .fn k v => { s with fns := Sparse.set (fun _ => {}) s.fns k v }

  | .cpw f => { s with cpw := f s.cpw }
  | .lane k v => { s with lanes := Sparse.set (fun _ => {}) s.lanes k v }
  | .helm k v => { s with helms := Sparse.set (fun _ => {}) s.helms k v }
  | .task f => { s with task := f s.task }
  | .halt f => { s with halt := f s.halt }
  | .dma f => { s with dma := f s.dma }
  | .pwr f => { s with pwr := f s.pwr }
  | .pair f => { s with pair := f s.pair }
  | .boot f => { s with boot := f s.boot }
  | .sec f => { s with sec := f s.sec }
  | .alm f => { s with alm := f s.alm }
  | .flash a bs => { s with flash := writeBytes flashDefault s.flash a bs }
  | .otp a bs => { s with otp := otpProgram s.otp a bs }
  | .keepRegs p => { s with regs := s.regs.filter fun e => p e.1 }
  | .keepTcm p => { s with tcm := s.tcm.filter fun e => p e.1 }

/-- A program of effects: nothing, one effect, one program after another, or a program chosen from the state as it then is. -/
inductive Prog where
  | skip
  | eff (e : Eff)
  | seq (p q : Prog)
  | read (k : State → Prog)

/-- Run a program. -/
def Prog.run : Prog → State → State
  | .skip, s => s
  | .eff e, s => e.apply s
  | .seq p q, s => q.run (p.run s)
  | .read k, s => (k s).run s

/-- The outcome of a command whose effect is a program: always a next state, with the outputs of this command alone. -/
def finish (p : Prog) (s : State) : Out := .next (p.run { s with out := [] })

/-- Programs one after another. -/
def seqs : List Prog → Prog
  | [] => .skip
  | p :: t => .seq p (seqs t)

/-- A program only if a condition holds. -/
def whenP (c : Bool) (p : Prog) : Prog := if c then p else .skip

/-- A program for each element of a list, in order. -/
def forP {α : Type} (l : List α) (f : α → Prog) : Prog := seqs (l.map f)

/-! ### Registers -/

/-- The value of a register field, of element or context `n`. -/
def State.fld (s : State) (f : Field) (n : Nat := 0) : Nat := Sparse.get resetOf s.regs (f.key n)

/-- A one-bit field as a truth value. -/
def State.bit (s : State) (f : Field) (n : Nat := 0) : Bool := s.fld f n == 1

/-- Set a register field of element or context `n`. -/
def putN (f : Field) (n v : Nat) : Prog := .eff (.fld f n v)

/-- Set a register field. -/
def put (f : Field) (v : Nat) : Prog := putN f 0 v

/-- Set a one-bit field to 1, as an event does. -/
def raise (f : Field) (n : Nat := 0) : Prog := putN f n 1

/-- Clear a field. -/
def clear (f : Field) (n : Nat := 0) : Prog := putN f n 0

/-- Add to a counter field that saturates at its width. -/
def countUp (f : Field) (n : Nat := 0) (by_ : Nat := 1) : Prog :=
  .read fun s => putN f n (min (s.fld f n + by_) (2 ^ f.w - 1))

/-- Take from a counter field, not below 0. -/
def countDown (f : Field) (n : Nat := 0) (by_ : Nat := 1) : Prog :=
  .read fun s => putN f n (s.fld f n - by_)

/-- The elements or contexts of a field that do not hold its reset value. -/
def State.listed (s : State) (f : Field) : List Nat := (s.regs.filter fun e => e.1 / keySpan == f.row).map fun e => e.1 % keySpan

/-- Return fields of element or context `n` to their reset values. -/
def resetFields (fs : List Field) (n : Nat) : Prog := forP fs fun f => putN f n (resetOf (f.key n))

/-- The fields that a selector's context holds. -/
def fieldsOf (sel : Sel) : List Field := fieldTable.filter fun f => f.sel == sel

/-- Set or clear a bit of a field. -/
def putFlag (f : Field) (b : Nat) (v : Bool) : Prog :=
  .read fun s => whenP (bitAt (s.fld f) b != v) (put f (if v then s.fld f + 2 ^ b else s.fld f - 2 ^ b))

/-! ### Units -/

/-- Send an output. -/
def emit (o : Output) : Prog := .eff (.out o)

/-- Change the queue manager's unit. -/
def modQ (f : QueueUnit → QueueUnit) : Prog := .eff (.q f)
/-- Change the instance table's unit. -/
def modIns (f : InsUnit → InsUnit) : Prog := .eff (.ins f)
/-- Change the interrupt unit. -/
def modIcu (f : IcuUnit → IcuUnit) : Prog := .eff (.icu f)
/-- Change the chronometer's unit. -/
def modChr (f : ChronUnit → ChronUnit) : Prog := .eff (.chr f)
/-- Change the chart's unit. -/
def modChart (f : ChartUnit → ChartUnit) : Prog := .eff (.chart f)
/-- Change the tree logic's unit. -/
def modTree (f : TreeUnit → TreeUnit) : Prog := .eff (.tree f)
/-- Change the transfer engine's unit. -/
def modConv (f : ConvUnit → ConvUnit) : Prog := .eff (.conv f)

/-- A table whose unlisted keys read as `d`. -/
def tget {α : Type} (d : α) (m : List (Nat × α)) (k : Nat) : α := Sparse.get (fun _ => d) m k

/-- Write a table whose unlisted keys read as `d`. -/
def tset {α : Type} [DecidableEq α] (d : α) (m : List (Nat × α)) (k : Nat) (v : α) : List (Nat × α) :=
  Sparse.set (fun _ => d) m k v

/-- The configuration of a function: 0 is PF0, n is VF n. -/
def State.fn (s : State) (k : Nat) : FnCfg := Sparse.get (fun _ => {}) s.fns k
/-- Change the configuration of a function. -/
def modFn (k : Nat) (f : FnCfg → FnCfg) : Prog := .read fun s => .eff (.fn k (f (s.fn k)))

/-- Change the cable-power unit. -/
def modCpw (f : CpwUnit → CpwUnit) : Prog := .eff (.cpw f)
/-- What the cable-power logic keeps of a port. -/
def State.pwc (s : State) (p : Nat) : PwcPort := tget {} s.cpw.ports p
/-- Change what the cable-power logic keeps of a port. -/
def modPwc (p : Nat) (f : PwcPort → PwcPort) : Prog := modCpw fun u => { u with ports := tset {} u.ports p (f (tget {} u.ports p)) }
/-- What a lane's training keeps. -/
def State.lane (s : State) (n : Nat) : LaneRec := tget {} s.lanes n
/-- Change what a lane's training keeps. -/
def modLane (n : Nat) (f : LaneRec → LaneRec) : Prog := .read fun s => .eff (.lane n (f (s.lane n)))

/-- A physical helm. -/
def State.helm (s : State) (h : Nat) : HelmUnit := tget {} s.helms h
/-- Change a physical helm. -/
def modHelm (h : Nat) (f : HelmUnit → HelmUnit) : Prog := .read fun s => .eff (.helm h (f (s.helm h)))
/-- Change the task scheduler. -/
def modTask (f : TaskUnit → TaskUnit) : Prog := .eff (.task f)
/-- A task slot. -/
def State.taskOf (s : State) (t : Nat) : TaskRec := tget {} s.task.tasks t
/-- Change a task slot. -/
def modTaskOf (t : Nat) (f : TaskRec → TaskRec) : Prog :=
  modTask fun u => { u with tasks := tset {} u.tasks t (f (tget {} u.tasks t)) }
/-- Change the halt logic. -/
def modHalt (f : HaltUnit → HaltUnit) : Prog := .eff (.halt f)
/-- Change the DMA engine's unit. -/
def modDma (f : DmaUnit → DmaUnit) : Prog := .eff (.dma f)
/-- An instance's process-image stream. -/
def State.stream (s : State) (i : Nat) : PiStream := tget {} s.dma.streams i
/-- Change an instance's process-image stream. -/
def modStream (i : Nat) (f : PiStream → PiStream) : Prog :=
  modDma fun u => { u with streams := tset {} u.streams i (f (tget {} u.streams i)) }
/-- A physical channel. -/
def State.chan (s : State) (c : Nat) : Channel := tget {} s.dma.channels c
/-- Change a physical channel. -/
def modChan (c : Nat) (f : Channel → Channel) : Prog :=
  modDma fun u => { u with channels := tset {} u.channels c (f (tget {} u.channels c)) }

/-- Change the power manager. -/
def modPwr (f : PwrUnit → PwrUnit) : Prog := .eff (.pwr f)
/-- Change the pair logic. -/
def modPair (f : PairUnit → PairUnit) : Prog := .eff (.pair f)
/-- Change the boot. -/
def modBoot (f : BootUnit → BootUnit) : Prog := .eff (.boot f)
/-- Change the security logic. -/
def modSec (f : SecUnit → SecUnit) : Prog := .eff (.sec f)
/-- Change the almanac logic. -/
def modAlm (f : AlmUnit → AlmUnit) : Prog := .eff (.alm f)
/-- Bytes of the flash. -/
def State.flashRead (s : State) (addr len : Nat) : List Byte := readBytes flashDefault s.flash addr len
/-- Bytes of the OTP array. -/
def State.otpRead (s : State) (addr len : Nat) : List Byte := readBytes memDefault s.otp addr len

/-- The states of Table 04-11 in which a node is present. -/
def NodeState.present (n : NodeState) : Bool :=
  n == .addressed || n == .active || n == .suspect || n == .quarantine

/-- The states in which a node is running (R168). -/
def NodeState.running (n : NodeState) : Bool := n == .active || n == .suspect || n == .quarantine

/-- The code of a node state (Table 04-11). -/
def NodeState.code : NodeState → Nat
  | .free => 0 | .absent => 1 | .enumerating => 2 | .addressed => 3 | .active => 4 | .suspect => 5 | .quarantine => 6

/-- A node-table entry from its four words (Table 04-12). -/
def NodeEntry.ofWords (w0 w1 w2 w3 : Nat) : NodeEntry :=
  { route := bitsAt w0 4 28, port := bitsAt w0 0 4, product := bitsAt w1 16 16, vendor := bitsAt w1 0 16, serial := w2 % 2 ^ 32
    cls := bitsAt w3 24 8, owner := bitsAt w3 12 12, legacy := bitAt w3 11, tier := bitsAt w3 8 3, template := bitAt w3 7
    gen := bitsAt w3 5 2, hub := bitAt w3 4, state := if bitsAt w3 0 4 = 1 then .absent else .free }

/-- A word of a node-table entry (Table 04-12). -/
def NodeEntry.word (e : NodeEntry) (i : Nat) : Nat :=
  let b (x : Bool) := if x then 1 else 0
  if i = 0 then e.route % 2 ^ 28 * 16 + e.port % 16
  else if i = 1 then e.product % 65536 * 65536 + e.vendor % 65536
  else if i = 2 then e.serial % 2 ^ 32
  else e.cls % 256 * 2 ^ 24 + e.owner % 4096 * 2 ^ 12 + b e.legacy * 2 ^ 11 + e.tier % 8 * 2 ^ 8 + b e.template * 2 ^ 7 +
    e.gen % 4 * 2 ^ 5 + b e.hub * 2 ^ 4 + e.state.code

/-- The 16 bytes of a node-table entry (Table 04-12). -/
def NodeEntry.bytes (e : NodeEntry) : List Byte := (List.range 4).flatMap fun i => toBytes (e.word i) 4

/-- The code of a bearing's state (Table 02-4). -/
def BearingState.code : BearingState → Nat
  | .none => 0 | .fixed => 1 | .stale => 2

/-- The bearing record of Table 02-4, its AGE in ms. -/
def Bearing.bytes (b : Bearing) (age : Nat) : List Byte :=
  toBytes b.delayDn 4 ++ toBytes b.advanceUp 4 ++ toBytes (encodeSigned b.asym 16) 2 ++ toBytes (encodeSigned b.offset 16) 2 ++
    toBytes age 2 ++ toBytes (b.hubs % 8 + b.gen % 4 * 8 + (if b.slow then 32 else 0) + b.state.code * 64) 1 ++ toBytes b.fails 1

/-- Whether the controller is the primary of a pair, which mirrors what it changes (R429). -/
def State.mirrors (s : State) : Bool := s.fld Fld.PAIR_STATUS.FUNC_STATE == 2 && s.fld Fld.PAIR_STATUS.ROLE == 2

/-- Whether the partner is the primary: the controller transmits nothing on its root ports (R431). -/
def State.standby (s : State) : Bool := decide (3 ≤ s.fld Fld.PAIR_STATUS.ROLE) && decide (s.fld Fld.PAIR_STATUS.ROLE ≤ 6)

/-- Whether no conversation starts and no packet or grant leaves: at a standby, and in the tick of a takeover (R431, R438). -/
def State.mute (s : State) : Bool := s.standby || s.pair.takeover == some s.chr.tick

/-- A record for the mirror (R429). -/
def mirrorNote (rtype index : Nat) (data : List Byte) : Prog :=
  .read fun s => whenP s.mirrors (modPair fun u => { u with waiting := u.waiting ++ [⟨rtype, index, data⟩] })

/-- The node-table entry of an address; entry 0 describes the controller (R133). -/
def State.node (s : State) (a : Nat) : NodeEntry :=
  if a = 0 then { vendor := 0x1F6E, product := 0x6416, state := .active } else tget {} s.tree.nodes a
/-- Write the node-table entry of an address other than 0 and 4,095 (R133). -/
def putNode (a : Nat) (v : NodeEntry) : Prog :=
  .read fun s => whenP (a != 0 && a < 4095) (seqs [
    modTree fun t => { t with nodes := tset {} t.nodes a v }, whenP (s.node a != v) (mirrorNote 6 a v.bytes)])
/-- The tree logic's record of a node. -/
def State.nrec (s : State) (a : Nat) : NodeRec := tget {} s.tree.recs a
/-- Change the tree logic's record of a node. -/
def modRec (a : Nat) (f : NodeRec → NodeRec) : Prog :=
  modTree fun t => { t with recs := tset {} t.recs a (f (tget {} t.recs a)) }
/-- The bearing of an address (R39). -/
def State.bearing (s : State) (a : Nat) : Bearing := tget {} s.tree.bearings a
/-- Write the bearing of an address. -/
def putBearing (a : Nat) (v : Bearing) : Prog :=
  .read fun s => seqs [
    modTree fun t => { t with bearings := tset {} t.bearings a v },
    whenP (s.bearing a != v) (mirrorNote 7 a (v.bytes (min 65535 ((s.chr.ns - v.since) / 1000000))))]
/-- The tree of a root port (R115). -/
def State.treeOf (s : State) (p : Nat) : EnumTree := tget {} s.tree.trees p
/-- Change the tree of a root port. -/
def modTreeOf (p : Nat) (f : EnumTree → EnumTree) : Prog :=
  modTree fun t => { t with trees := tset {} t.trees p (f (tget {} t.trees p)) }
/-- The record of a chart index. -/
def State.leg (s : State) (i : Nat) : LegRec := tget {} s.chart.legs i
/-- Change the record of a chart index. -/
def modLeg (i : Nat) (f : LegRec → LegRec) : Prog :=
  modChart fun c => { c with legs := tset {} c.legs i (f (tget {} c.legs i)) }
/-- A conversation by its number. -/
def State.convOf (s : State) (c : Nat) : Option Conv := s.conv.convs.lookup c
/-- Change a conversation. -/
def modConvOf (c : Nat) (f : Conv → Conv) : Prog :=
  modConv fun u => { u with convs := u.convs.map fun e => if e.1 = c then (e.1, f e.2) else e }
/-- A pipe's context (R189). -/
def State.pipeCtx (s : State) (node pipe : Nat) : PipeCtx := tget {} s.conv.pipes (node * 32 + pipe)
/-- Change a pipe's context. -/
def modPipe (node pipe : Nat) (f : PipeCtx → PipeCtx) : Prog :=
  modConv fun u => { u with pipes := tset {} u.pipes (node * 32 + pipe) (f (tget {} u.pipes (node * 32 + pipe))) }
/-- A node or hub device. -/
def State.dev (s : State) (d : Nat) : NodeDev := tget {} s.devs d
/-- Change a node or hub device. -/
def modDev (d : Nat) (f : NodeDev → NodeDev) : Prog := .read fun s => .eff (.dev d (f (s.dev d)))
/-- The link fix record of a lane of the controller. -/
def State.fixOf (s : State) (l : Nat) : LinkFix := tget {} s.fixes l
/-- Change the link fix record of a lane. -/
def modFix (l : Nat) (f : LinkFix → LinkFix) : Prog := .read fun s => .eff (.fix l (f (s.fixOf l)))
/-- A fetched command by its tag. -/
def State.cmd (s : State) (tag : Nat) : Option Cmd := s.q.cmds.lookup tag
/-- Change a fetched command. -/
def modCmd (tag : Nat) (f : Cmd → Cmd) : Prog :=
  modQ fun u => { u with cmds := u.cmds.map fun e => if e.1 = tag then (e.1, f e.2) else e }

/-- A value the spec leaves open, cut to `w` bits: the machine's next free value. -/
def withFree (w : Nat) (k : Nat → Prog) : Prog :=
  .read fun s => .seq (.eff .takeFree) (k (Config.freeValue s.free % 2 ^ w))

/-! ### Codes -/

/-! The status codes of Table 09-17. -/

def St.success : Nat := 0x00
def St.short : Nat := 0x01
def St.stalled : Nat := 0x02
def St.timeout : Nat := 0x03
def St.nodeAbsent : Nat := 0x04
def St.nodeQuarantined : Nat := 0x05
def St.aborted : Nat := 0x06
def St.notQuiesced : Nat := 0x07
def St.authFailed : Nat := 0x08
def St.counterStale : Nat := 0x09
def St.noSlots : Nat := 0x0A
def St.noPower : Nat := 0x0B
def St.badEntry : Nat := 0x0C
def St.badFragment : Nat := 0x0D
def St.dmaReadFault : Nat := 0x0E
def St.dmaWriteFault : Nat := 0x0F
def St.late : Nat := 0x10
def St.collided : Nat := 0x11
def St.wiped : Nat := 0x12
def St.unsupported : Nat := 0x13
def St.shadowBusy : Nat := 0x14

/-! The event codes of Table 09-18. -/

def Ev.attach : Nat := 0x01
def Ev.detach : Nat := 0x02
def Ev.quarantine : Nat := 0x03
def Ev.powerChanged : Nat := 0x04
def Ev.fastSwap : Nat := 0x05
def Ev.roleChanged : Nat := 0x06
def Ev.spareSwapped : Nat := 0x07
def Ev.wearWarning : Nat := 0x08
def Ev.timeDegraded : Nat := 0x09
def Ev.deadReckoning : Nat := 0x0A
def Ev.chartCommitted : Nat := 0x0B
def Ev.lateTask : Nat := 0x0C
def Ev.wake : Nat := 0x0D
def Ev.lifeCycle : Nat := 0x0E
def Ev.overflow : Nat := 0x0F

/-! The states of a switchable function, as FUNC_STATE encodes them. -/

def Fn.off : Nat := 0
def Fn.enabling : Nat := 1
def Fn.on : Nat := 2
def Fn.disabling : Nat := 3
def Fn.error : Nat := 4

/-- The value the chronometer shows, in nanoseconds (R21, R57). -/
def State.chron (s : State) : Nat := (((s.chr.ns : Int) + s.chr.stepSum) % 2 ^ 64).toNat

/-- The count of nanoseconds since reset at which the chronometer shows a value, from now on. -/
def State.whenChron (s : State) (v : Nat) : Nat := s.chr.ns + (v + 2 ^ 64 - s.chron) % 2 ^ 64

/-- Milliseconds since reset, which no step changes. -/
def State.ms (s : State) : Nat := s.chr.ns / 1000000

/-- Look up a field of the tick number. -/
def State.tickLow (s : State) (w : Nat) : Nat := s.chr.tick % 2 ^ w

end Sys2Proof.Machine
end

