-- ==== Sys2Proof/Machine/Events.lean ====
section
/-! DEFINITION. How anything is reported: ICU sources (R345 to R360), host causes and their coalescing (R361 to R366), the logbook
(R340, R341), completion queues and the holding store (R291 to R293, R301 to R305). -/

namespace Sys2Proof.Machine

/-! ### Domains -/

/-- The domain of a physical helm: D3 holds H0 to H7 and H16, D4 the rest (Table 17-1). -/
def helmDomain (h : Nat) : Nat := if h < 8 ∨ h = 16 then 3 else 4

/-- The domain of a lane: D5 to D8 by four root ports, D9 for the auxiliary lanes (Table 13-6). -/
def laneDomain (n : Nat) : Nat := if n < 16 then 5 + n / 4 else 9

/-- Whether a domain is on and good. -/
def State.domGood (s : State) (d : Nat) : Bool := bitAt (s.fld Fld.PWR_DOM_STATUS.GOOD) d

/-- Whether the receiver of a lane of the controller is on: a lane of an off domain is seen as DISABLED, with no loss reported (R415). Other ends lie in devices. -/
def State.laneOn (s : State) (n : Nat) : Bool := decide (19 ≤ n) || s.domGood (laneDomain n)

/-! ### ICU sources -/

/-- The switched domain that a source of Table 11-1 lies in, if any. -/
def sourceDomain (src : Nat) : Option Nat :=
  if src ≤ 18 then some (laneDomain src) else if src = 28 then some 9 else if 32 ≤ src ∧ src ≤ 49 then some (helmDomain (src - 32)) else none

/-- Whether a source's event line is clamped to 0: its domain is off (R415). -/
def State.clamped (s : State) (src : Nat) : Bool := (sourceDomain src).any fun d => !s.domGood d

/-- The event register behind a block event source (Table 11-1): its offset and element. -/
def blockRegister (src : Nat) : Option (Nat × Nat) :=
  if src ≤ 18 then some (0x4024, src)
  else if 32 ≤ src ∧ src ≤ 49 then some (0xC008, src - 32)
  else if 50 ≤ src ∧ src ≤ 117 then some (0x1100C, src - 50)
  else [(19, 0x6010), (20, 0x8024), (21, 0x2004), (22, 0xE008), (23, 0x10008), (24, 0x14008), (25, 0x18004), (26, 0x20048),
    (27, 0x24008), (28, 0x2800C), (29, 0x2C004), (30, 0x3000C), (31, 0x34008), (192, 0x01010)].lookup src |>.map fun o => (o, 0)

/-- Whether any W1C bit of a register is 1 (R345). -/
def State.anyEvent (s : State) (off n : Nat) : Bool :=
  fieldTable.any fun f => f.off == off && f.acc == .w1c && s.fld f n != 0

/-- The level at a GPIO input (0 to 7) or at HALT# (8); HALT# is high until a pin event lowers it. -/
def State.pin (s : State) (i : Nat) : Bool := tget (i == 8) s.icu.pins i

/-- The input of a level source (R345, R347, R415). Sources 200 to 207 follow their SENSE; source 208 is HALT# sampled low. -/
def State.icuInput (s : State) (src : Nat) : Bool :=
  if 200 ≤ src ∧ src ≤ 207 then
    if s.fld Fld.ICU_SRC_CFG.SENSE src = 0 then s.pin (src - 200)
    else if s.fld Fld.ICU_SRC_CFG.SENSE src = 1 then !s.pin (src - 200)
    else false
  else if src = 208 then !s.pin 8 || s.bit Fld.NVM_HALT_STATUS.DRIVING
  else match blockRegister src with
    | some (off, n) => !s.clamped src && s.anyEvent off n
    | none => false

/-- Whether a source is sensed by edge: fixed by Table 11-1, or by SENSE for the GPIO inputs (R347). -/
def State.icuEdgeSensed (s : State) (src : Nat) : Bool :=
  if 200 ≤ src ∧ src ≤ 207 then s.fld Fld.ICU_SRC_CFG.SENSE src ≥ 2 else edgeSource src

/-- The sources of Table 11-1 that are not reserved. -/
def icuSource (src : Nat) : Bool :=
  src ≤ 117 || src == 128 || (130 ≤ src && src ≤ 148) || (160 ≤ src && src ≤ 192) || (200 ≤ src && src ≤ 208) ||
    (256 ≤ src && src ≤ 1023)

/-- Bit `b` of element `n` of a 32-bit field of bits. -/
def State.bitOf (s : State) (f : Field) (b : Nat) : Bool := bitAt (s.fld f (b / 32)) (b % 32)

/-- Write one bit of a field of bits spread over elements of 32. -/
def putBit (f : Field) (b : Nat) (v : Bool) : Prog :=
  .read fun s =>
    let w := s.fld f (b / 32)
    putN f (b / 32) (if v then w ||| 2 ^ (b % 32) else if bitAt w (b % 32) then w - 2 ^ (b % 32) else w)

/-- The stored pending bit of a source: that of an edge source, and of a level source what it was when last sampled for HOST_FWD. -/
def State.icuStored (s : State) (src : Nat) : Bool := s.bitOf Fld.ICU_PEND.PEND src
/-- Whether a source is in service. -/
def State.icuInService (s : State) (src : Nat) : Bool := s.bitOf Fld.ICU_INSERV.INSERV src
/-- Whether a source is pending (R352): a level source in service is, and one that is not follows its input in every cycle. -/
def State.icuPending (s : State) (src : Nat) : Bool :=
  if s.icuEdgeSensed src then s.icuStored src else icuSource src && (s.icuInService src || s.icuInput src)
/-- Whether a source is masked. -/
def State.icuMasked (s : State) (src : Nat) : Bool := s.bitOf Fld.ICU_MASK.MASK src

/-! ### Host causes and coalescing -/

/-- The key of a function's vector. -/
def vecKey (fn vec : Nat) : Nat := fn * 2048 + vec

/-- A vector's row of the MSI-X table. -/
def State.msixRow (s : State) (k : Nat) : MsixRow := tget {} s.icu.msix k

/-- Send a vector's MSI-X message (R365). -/
def sendMsix (k : Nat) : Prog :=
  .read fun s => seqs [
    emit (.msix (k / 2048) (k % 2048) (s.msixRow k).addr (s.msixRow k).data),
    countUp Fld.HIC_MSG_CNT.COUNT]

/-- A vector's count and timer stop (R364). -/
def vectorStops (k : Nat) : Prog :=
  seqs [clear Fld.HIC_VEC_STATUS.EVENTS k, clear Fld.HIC_VEC_STATUS.TIMER_RUN k, modIcu fun u => { u with vecAt := tset 0 u.vecAt k 0 }]

/-- The time since the first event of a vector, in units of 256 ns (R364). -/
def State.elapsed (s : State) (k : Nat) : Nat :=
  if s.bit Fld.HIC_VEC_STATUS.TIMER_RUN k then min 65535 ((s.chr.ns - tget 0 s.icu.vecAt k) / 256) else 0

/-- The time at which a vector's timer fires it: a TIME of 0 acts as 1 (R364). -/
def State.coalTime (s : State) (k : Nat) : Nat := max 1 (s.fld Fld.HIC_VEC_COAL.TIME k)

/-- A vector fires (R364, R365): its count and timer stop, and the message goes out, or its PBA bit is set while masked or
while the function is in D3hot (R522). -/
def fireVector (k : Nat) : Prog :=
  .read fun s => seqs [
    vectorStops k,
    if (s.msixRow k).masked || (s.fn (k / 2048)).msixMask || (s.fn (k / 2048)).dstate != 0 then raise Fld.HIC_VEC_STATUS.MSG_PENDING k else sendMsix k]

/-- The count at which a vector fires: a COUNT of 0 acts as 1 (R364). -/
def State.coalCount (s : State) (k : Nat) : Nat := max 1 (s.fld Fld.HIC_VEC_COAL.COUNT k)

/-- One event of a host cause on a vector of a function (R361, R364, R365). -/
def hostCause (fn vec : Nat) : Prog :=
  .read fun s =>
    let k := vecKey fn vec
    if !((s.fn fn).msixEn && (s.fn fn).bme) then raise Fld.HIC_EVENT.DROPPED
    else if s.bit Fld.HIC_VEC_STATUS.MSG_PENDING k then .skip
    else seqs [
      whenP (!s.bit Fld.HIC_VEC_STATUS.TIMER_RUN k)
        (seqs [raise Fld.HIC_VEC_STATUS.TIMER_RUN k, modIcu fun u => { u with vecAt := tset 0 u.vecAt k s.chr.ns }]),
      countUp Fld.HIC_VEC_STATUS.EVENTS k,
      .read fun t => whenP (t.fld Fld.HIC_VEC_STATUS.EVENTS k ≥ t.coalCount k) (fireVector k)]

/-- The function an instance is bound to (R317). -/
def State.insFn (s : State) (i : Nat) : Nat := s.fld Fld.INS_BIND.FUNCTION i

/-- Set a bit of an instance's HIC_ERR_CAUSE; a bit going from 0 to 1 is one ERROR event (R361, R362). -/
def errCause (f : Field) (i : Nat) : Prog :=
  .read fun s => whenP (!s.bit f i) (seqs [raise f i,
    whenP (s.bit Fld.HIC_INS_ERR.ERR_EN i) (hostCause (s.insFn i) (s.fld Fld.HIC_INS_ERR.ERR_VEC i))])

/-- A source goes from not pending to pending: its bit is set, and HOST_FWD makes it one DEVICE event of I0 (R361). -/
def setPending (src : Nat) : Prog :=
  .read fun s => whenP (!s.icuStored src && icuSource src) (seqs [putBit Fld.ICU_PEND.PEND src true,
    whenP (s.bit Fld.ICU_SRC_CFG.HOST_FWD src && s.bit Fld.HIC_INS_ERR.DEV_EN 0)
      (hostCause (s.insFn 0) (s.fld Fld.HIC_INS_ERR.DEV_VEC 0))])

/-- An edge of an edge source (R352): merged while pending, and one in 2^COAL_LOG sets the bit. -/
def icuEdge (src : Nat) : Prog :=
  .read fun s =>
    let c := tget 0 s.icu.coal src + 1
    if c < 2 ^ s.fld Fld.ICU_SRC_CFG.COAL_LOG src then modIcu fun u => { u with coal := tset 0 u.coal src c }
    else seqs [modIcu fun u => { u with coal := tset 0 u.coal src 0 },
      if s.icuStored src then countUp Fld.ICU_MERGED.COUNT else setPending src]

/-- Sample a level source that is not in service (R352): what makes an event of HOST_FWD (R361). -/
def icuSample (src : Nat) : Prog :=
  .read fun s => whenP (icuSource src && !s.icuEdgeSensed src && !s.icuInService src)
    (if s.icuInput src then setPending src else putBit Fld.ICU_PEND.PEND src false)

/-- The LEG sources whose ENTRY names a chart index (R345, R346). -/
def State.legSources (s : State) (i : Nat) : List Nat :=
  ((List.range 768).map (· + 256)).filter fun src => s.fld Fld.ICU_SRC_CFG.ENTRY src == i

/-- One pulse of every LEG source of a chart index (R346). -/
def legPulse (i : Nat) : Prog := .read fun s => forP (s.legSources i) icuEdge

/-! ### FAULT# -/

/-- Whether a condition of R529 or R411 asserts FAULT#. -/
def State.faulted (s : State) : Bool :=
  s.bit Fld.GBL_FAULT.PCIE_FATAL || s.bit Fld.GBL_FAULT.ZERO_FAULT || s.bit Fld.GBL_FAULT.NO_IMAGE || s.bit Fld.GBL_FAULT.SW ||
    s.pwr.phase == .fault

/-- Bring GBL_FAULT and FAULT# up to date (R529). -/
def refreshFault : Prog :=
  seqs [.read fun s => seqs [
      put Fld.GBL_FAULT.SW (s.fld Fld.GBL_CTRL.FAULT_SW), put Fld.GBL_FAULT.ZERO_FAULT (s.fld Fld.SEC_EVENT.ZERO_FAULT),
      put Fld.GBL_FAULT.NO_IMAGE (if s.fld Fld.NVM_STATUS.STATE = 3 then 1 else 0)],
    .read fun s => whenP (s.faulted != s.boot.faultLow) (seqs [
      modBoot fun b => { b with faultLow := s.faulted }, emit (.pin "FAULT#" (!s.faulted))])]

/-! ### Errors of PCI Express requests (R523) -/

/-! The bits of Table 18-5's errors in the AER words (PRESUMED: the PCI Express Base Specification's). -/

def Aer.poisoned : Nat := 12
def Aer.timeout : Nat := 14
def Aer.unsupported : Nat := 20

/-- An error is logged in a function's AER capability, and signalled unless masked, under its severity and enable bits (R523). A Completion Timeout that is not
Fatal is an error the requester handles: an Advisory Non-Fatal Error, told as a correctable one. -/
def aerLog (fn err : Nat) : Prog :=
  .read fun s =>
    let c := s.fn fn
    let fatal := bitAt c.aerSeverity err
    let advisory := err == Aer.timeout && !fatal
    let signalled := !bitAt c.aerMask err && (!advisory || !bitAt (tget 0x2000 c.words 0x114) 13) &&
      bitAt c.errEnable (if advisory then 0 else if fatal then 2 else 1)
    seqs [
      modFn fn fun c => { c with
        aerFirst := if c.aerStatus = 0 then err else c.aerFirst, aerStatus := c.aerStatus ||| 2 ^ err
        corStatus := if advisory then c.corStatus ||| 2 ^ 13 else c.corStatus
        detected := c.detected ||| (if advisory then 1 else if fatal then 4 else 2) ||| (if err = Aer.unsupported then 8 else 0) },
      raise Fld.GBL_PCIE_EVENT.AER_LOGGED, whenP (err == Aer.poisoned) (raise Fld.GBL_PCIE_EVENT.POISONED),
      whenP signalled (emit (.pcie 4 (if advisory then 0 else if fatal then 2 else 1))),
      whenP (signalled && fatal) (seqs [raise Fld.GBL_FAULT.PCIE_FATAL, refreshFault])]

/-- A request of the controller ends in a Completion Timeout (0), in a completion with UR or CA status (1) or in one with poisoned
data (2). -/
def requestFailed (fn how : Nat) : Prog :=
  if how = 0 then aerLog fn Aer.timeout else whenP (how == 2) (aerLog fn Aer.poisoned)

/-- Memory Space Enable of a function; the SR-IOV capability of PF0 holds that of the VFs. -/
def State.memOn (s : State) (fn : Nat) : Bool := if fn = 0 then (s.fn 0).mse else (s.fn 0).vfMse

/-- A memory request of the host to a BAR of a function: with Memory Space Enable 0, or in D3hot, it is an Unsupported Request (R522,
R523). -/
def barRequest (fn : Nat) (p : Prog) : Prog :=
  .read fun s => if s.memOn fn && (s.fn fn).dstate == 0 then p else seqs [emit (.pcie 1 0), aerLog fn Aer.unsupported]

/-! ### Domains switched on (R416, R417) -/

/-- A domain is switched on; `access` is whether an access asks. -/
def domainUp (d : Nat) (access : Bool) : Prog :=
  .read fun s => seqs [putFlag Fld.PWR_DOM_CTRL.ON (d - 3) true,
    whenP (!s.domGood d && !s.pwr.coming.any fun e => e.1 == d)
      (modPwr fun p => { p with coming := p.coming ++ [(d, s.chr.ns, access)] })]

/-- Whether a domain that is off is on its way. -/
def State.domComing (s : State) (d : Nat) : Bool := s.pwr.coming.any fun e => e.1 == d

/-! ### The power state S1, and the host's writes (R406, R460) -/
/-- The codes of Table 13-4. -/
def Wake.foghorn : Nat := 1
def Wake.activity : Nat := 2
def Wake.pcie : Nat := 3
def Wake.perst : Nat := 4
def Wake.gpio : Nat := 5
def Wake.timer : Nat := 6
def Wake.access : Nat := 7
def Wake.command : Nat := 8

/-- The power state (Table 13-3). -/
def State.pstate (s : State) : Nat := s.fld Fld.PWR_STATE.CUR

/-- A history entry becomes the newest (Table 13-16). -/
def history (left reached cause flags : Nat) : Prog :=
  .read fun s => seqs [
    forP (List.range 7) fun k => forP [Fld.PWR_HISTORY.FROM, Fld.PWR_HISTORY.TO, Fld.PWR_HISTORY.CAUSE, Fld.PWR_HISTORY.FLAGS,
      Fld.PWR_HISTORY.TIME] fun f => putN f (k + 1) (s.fld f k),
    put Fld.PWR_HISTORY.FROM left, put Fld.PWR_HISTORY.TO reached, put Fld.PWR_HISTORY.CAUSE cause,
    put Fld.PWR_HISTORY.FLAGS flags, put Fld.PWR_HISTORY.TIME (s.chron / 2 ^ 20)]

/-- The controller returns from S1 with a cause. -/
def leaveS1 (cause : Nat) : Prog :=
  seqs [put Fld.PWR_STATE.CUR 0, put Fld.PWR_WAKE_CAUSE.FROM 1, clear Fld.PWR_WAKE_CAUSE.RETRIED, clear Fld.PWR_WAKE_CAUSE.RETRY_SUBJECT,
    clear Fld.PWR_WAKE_CAUSE.FAULT, clear Fld.PWR_WAKE_CAUSE.FAULT_SUBJECT, clear Fld.PWR_WAKE_CAUSE.INDEX,
    put Fld.PWR_WAKE_CAUSE.CAUSE cause, raise Fld.PWR_EVENT.WAKE, history 1 0 cause 0]

/-- A return from S1 is asked for: at the next meridian, or at once while none will come. The first cause stands. -/
def returnS1 (cause : Nat) : Prog :=
  .read fun s => whenP (s.pstate == 1 && !s.bit Fld.PWR_STATE.ENTRY_BUSY && s.pwr.next != some 0) (
    if s.bit Fld.CHT_STATUS.RUNNING || s.chr.runDue then modPwr fun p => { p with next := some 0, nextCause := cause }
    else leaveS1 cause)

/-- Whether the boot withholds the host's writes (R460). -/
def State.loading (s : State) : Bool := s.fld Fld.NVM_STATUS.STATE != 2 && s.fld Fld.NVM_STATUS.STATE != 4

/-- A posted write of the host to a BAR of a function: `wakes` is whether it goes to BAR0 or BAR2, so that it ends S1 (R406), and
`always` whether it is applied while the boot runs (R460). -/
def hostWrite (fn : Nat) (wakes always : Bool) (p : Prog) : Prog :=
  barRequest fn (seqs [whenP wakes (returnS1 Wake.access),
    .read fun s => if s.loading && !always then raise Fld.NVM_EVENT.WRITE_DURING_LOAD else p])

/-! ### Reads and writes of host memory (R254, R257, R268, R319, R519) -/

/-- Whether a function can issue requests: its Bus Master Enable is 1 and it is in D0. -/
def State.canIssue (s : State) (fn : Nat) : Bool := (s.fn fn).bme && (s.fn fn).dstate == 0

/-- Write bytes to host memory. -/
def hostPut (addr : Nat) (bs : List Byte) : Prog := .eff (.host addr bs)

/-- The largest payload of a posted write, and the largest read request, of a function (R254, R257, R268, R519). -/
def State.maxPayload (s : State) (fn : Nat) : Nat := min 512 (128 * 2 ^ (s.fn fn).mps)
def State.maxRead (s : State) (fn : Nat) : Nat := min 512 (128 * 2 ^ (s.fn fn).mrrs)

/-- Cut a range of host memory into requests of at most `max` bytes that cross no 4 KiB boundary. -/
def cutRequest (fuel max off len : Nat) : List (Nat × Nat) :=
  match fuel with
  | 0 => []
  | fuel + 1 =>
    if len = 0 then []
    else
      let n := min len (min max (4096 - off % 4096))
      (off, n) :: cutRequest fuel max (off + n) (len - n)

/-- A request whose path has its PASID enabled while the PASID Enable bit of PF0 is 0 goes without a prefix (R518). -/
def usePasid (pasid : Bool) : Prog := .read fun s => whenP (pasid && !(s.fn 0).pasidEn) (raise Fld.GBL_PCIE_EVENT.PASID_IGNORED)
/-- The PASID that a request carries. -/
def State.pasidOf (s : State) (pasid : Option Nat) : Option Nat := if (s.fn 0).pasidEn then pasid else none

/-- Posted writes of a function (R319, R519). -/
def hostWriteAs (fn : Nat) (pasid : Option Nat) (addr : Nat) (bs : List Byte) : Prog :=
  seqs [usePasid pasid.isSome, .read fun s => forP (cutRequest (bs.length / 64 + 2) (s.maxPayload fn) addr bs.length) fun e =>
      emit (.memWrite fn (s.pasidOf pasid) e.1 ((bs.drop (e.1 - addr)).take e.2)), hostPut addr bs]

/-- Read requests of a function (R319, R519); a flush read has length 0. -/
def hostRead (fn : Nat) (pasid : Option Nat) (addr len : Nat) : Prog :=
  seqs [usePasid pasid.isSome, .read fun s =>
    if len = 0 then emit (.memRead fn (s.pasidOf pasid) addr 0)
    else forP (cutRequest (len / 64 + 2) (s.maxRead fn) addr len) fun e => emit (.memRead fn (s.pasidOf pasid) e.1 e.2)]

/-- The PASIDs of an instance's queue path and process image and of a channel (R319). -/
def State.queuePasid (s : State) (i : Nat) : Option Nat := if s.bit Fld.INS_PASID.PASID_EN i then some (s.fld Fld.INS_PASID.PASID i) else none
def State.piPasid (s : State) (i : Nat) : Option Nat := if s.bit Fld.DMA_PI_PASID.PASID_EN i then some (s.fld Fld.DMA_PI_PASID.PASID i) else none
def State.chPasid (s : State) (c : Nat) : Option Nat := if s.bit Fld.DMA_CH_PASID.PASID_EN c then some (s.fld Fld.DMA_CH_PASID.PASID c) else none

/-! ### Requests outstanding and staging (R265, R266, R519) -/

/-- Word `k` of a descriptor. -/
def dword (d : List Nat) (k : Nat) : Nat := d.getD k 0

/-- LENGTH, OP and the flags of a descriptor (Table 08-7). -/
def Desc.len (d : Desc) : Nat := bitsAt (dword d.words 0) 0 24
def Desc.op (d : Desc) : Nat := bitsAt (dword d.words 0) 24 2
def Desc.irq (d : Desc) : Bool := bitAt (dword d.words 0) 26
def Desc.nextValid (d : Desc) : Bool := bitAt (dword d.words 0) 28
def Desc.frag (d : Desc) : Bool := bitAt (dword d.words 0) 29
def Desc.devAddr (d : Desc) : Nat := dword d.words 1
def Desc.hostAddr (d : Desc) : Nat := dword d.words 2 + dword d.words 3 * 2 ^ 32
def Desc.next (d : Desc) : Nat := dword d.words 4 + dword d.words 5 * 2 ^ 32

/-- Whether a stream has a read to issue. -/
def PiStream.readDue (u : PiStream) : Bool := u.stampDue || !u.waiting.isEmpty
/-- The non-posted requests of a stream. -/
def PiStream.requests (u : PiStream) : Nat := u.reads.length + (if u.stamp then 1 else 0)
/-- The non-posted requests of a channel: its descriptor fetch or flush read unless it still waits, the bursts of the read engine, and
what a forced end left outstanding. -/
def Channel.requests (u : Channel) : Nat :=
  u.orphans + (if u.fetching.isSome && !u.npWait then 1 else 0) + (match u.cur with
    | some d => (if d.flush && !u.npWait then 1 else 0) + (if d.op = 0 then u.bursts.length else 0)
    | none => 0)

/-- Non-posted requests of the process-image streams, and of the queue manager and the channels (R266). -/
def State.piRequests (s : State) : Nat := (s.dma.streams.map fun e => e.2.requests).foldl (· + ·) 0
def State.sharedRequests (s : State) : Nat :=
  s.q.fetching.length + s.q.orphans.length + ((s.dma.channels.map fun e => e.2.requests).foldl (· + ·) 0)

/-- Non-posted requests outstanding of a function. -/
def State.requestsOf (s : State) (fn : Nat) : Nat :=
  ((s.dma.streams.filter fun e => s.insFn e.1 == fn).map fun e => e.2.requests).foldl (· + ·) 0 +
    (s.q.fetching.filter fun n => s.insFn (s.fld Fld.QM_SQ_CFG.OWNER n) == fn).length + s.q.orphans.count fn +
    ((s.dma.channels.filter fun e => s.insFn (s.fld Fld.DMA_CH_CFG.OWNER e.1) == fn).map fun e => e.2.requests).foldl (· + ·) 0

/-- Whether a function uses 10-bit tags; the SR-IOV capability of PF0 holds the bit of the VFs (R519). -/
def State.wideTags (s : State) (fn : Nat) : Bool := if fn = 0 then (s.fn 0).tag10 else (s.fn 0).vfTag10
/-- Whether a function has a tag left. -/
def State.tagFree (s : State) (fn : Nat) : Bool := s.wideTags fn || decide (s.requestsOf fn < 256)
/-- Whether a request of the shared 448 is free for a function. -/
def State.requestFree (s : State) (fn : Nat) : Bool := decide (s.sharedRequests < 448) && s.tagFree fn

/-- A requester waits for a request (R266). -/
def npStall : Prog := seqs [countUp Fld.DMA_STALL_CNT.NP, raise Fld.DMA_EVENT.NP_STALL]

/-- A channel's descriptor fetch or flush read that waits goes out if a request is free. -/
def chanIssue (c : Nat) : Prog :=
  .read fun s =>
    let u := s.chan c
    let fn := s.insFn (s.fld Fld.DMA_CH_CFG.OWNER c)
    whenP (u.npWait && s.requestFree fn) (seqs [
      modChan c fun u => { u with npWait := false },
      match u.fetching, u.cur with
        | some a, _ => hostRead fn (s.chPasid c) a 32
        | none, some d => whenP d.flush (hostRead fn (s.chPasid c) (match d.pieces.getLast? with
            | some p => p.1 + p.2 - 1
            | none => d.hostAddr) 0)
        | none, none => .skip])

/-- Bring DMA_STATUS up to date (Table 08-10) once the waiting channels have taken what is free, from the rotating pointer. -/
def refreshDma : Prog :=
  seqs [
    .read fun s =>
      let l := (s.dma.channels.filter fun e => e.2.npWait).map (·.1)
      forP ((l.filter fun c => decide (s.dma.pointer ≤ c)) ++ l.filter fun c => decide (c < s.dma.pointer)) chanIssue,
    .read fun s => seqs [
      put Fld.DMA_STATUS.NP_USED (s.piRequests + s.sharedRequests),
      put Fld.DMA_STATUS.STAGE_KIB ((((s.dma.streams.map fun e => (e.2.reads.map fun r => r.2.2).foldl (· + ·) 0).foldl (· + ·) 0) +
        ((s.dma.channels.map fun e => (e.2.bursts.map (·.2)).foldl (· + ·) 0).foldl (· + ·) 0) + 1023) / 1024)]]

/-- A channel asks for a request for its descriptor fetch or flush read, and waits where none is free. -/
def chanAsk (c : Nat) : Prog :=
  seqs [modChan c fun u => { u with npWait := true }, refreshDma, .read fun s => whenP (s.chan c).npWait npStall]

/-! ### The logbook -/

/-- The tail of an instance's log ring. -/
def State.logTail (s : State) (i : Nat) : Nat := tget 0 s.ins.logTail i

/-- Log one page that is about to be written (R340, R341). -/
def logPage (i path : Nat) (pasid : Bool) (page : Nat) : Prog :=
  .read fun s =>
    let size := 2 ^ s.fld Fld.INS_LOG_CFG.SIZE_LOG i
    let tail := s.logTail i
    let seen := tget [] s.ins.logSeen i
    if !s.bit Fld.INS_LOG_CFG.RUNNING i then .skip
    else if s.bit Fld.INS_LOG_CFG.LOST i then .skip
    else if seen.contains page then .skip
    else if (tail + 2 * size - s.fld Fld.INS_LOG_IDX.HEAD i % (2 * size)) % (2 * size) = size then
      seqs [raise Fld.INS_LOG_CFG.LOST i, raise Fld.INS_EVENT.LOG_LOST, errCause Fld.HIC_ERR_CAUSE.LOG_LOST i,
        countUp Fld.INS_LOG_CFG.UNLOGGED i]
    else seqs [
      hostWriteAs 0 none ((s.fld Fld.INS_LOG_BASE_HI.BASE_HI i * 2 ^ 32 + s.fld Fld.INS_LOG_BASE_LO.BASE_LO i * 4096) + 8 * (tail % size))
        (toBytes (page * 4096 + path * 4 + (if pasid then 2 else 0) + (if tail / size % 2 = 0 then 1 else 0)) 8),
      modIns fun u => { u with
        logTail := tset 0 u.logTail i ((tail + 1) % (2 * size)),
        logSeen := tset [] u.logSeen i ((page :: seen).take 64) }]

/-- The pages that a range of addresses touches. -/
def pagesOf (addr len : Nat) : List Nat :=
  if len = 0 then [] else (List.range ((addr + len - 1) / 4096 - addr / 4096 + 1)).map (· + addr / 4096)

/-- A posted write for an instance: each page is logged first (R340), and one that no longer is counts (R341). The path is 0 queue, 1 process image,
2 channel. -/
def insWrite (i path : Nat) (pasid : Option Nat) (addr : Nat) (bs : List Byte) : Prog :=
  .read fun s => seqs [
    if s.bit Fld.INS_LOG_CFG.RUNNING i && s.bit Fld.INS_LOG_CFG.LOST i then countUp Fld.INS_LOG_CFG.UNLOGGED i
    else forP (pagesOf addr bs.length) (logPage i path (s.pasidOf pasid).isSome),
    hostWriteAs (s.insFn i) pasid addr bs]

/-! ### Completion queues -/

/-- Entries of a ring: SIZE_LOG values below 4 act as 4. -/
def ringSize (log : Nat) : Nat := 2 ^ max 4 log

/-- The CQ context of an instance's CQ number that is not OFF. -/
def State.cqOf (s : State) (i q : Nat) : Option Nat :=
  s.q.cqTaken.find? fun c => s.fld Fld.QM_CQ_CFG.OWNER c == i && s.fld Fld.QM_CQ_CFG.Q c == q &&
    s.fld Fld.QM_CQ_STATUS.FUNC_STATE c != Fn.off

/-- The SQ context of an instance's SQ number that is not OFF. -/
def State.sqOf (s : State) (i q : Nat) : Option Nat :=
  s.q.sqTaken.find? fun c => s.fld Fld.QM_SQ_CFG.OWNER c == i && s.fld Fld.QM_SQ_CFG.Q c == q &&
    s.fld Fld.QM_SQ_STATUS.FUNC_STATE c != Fn.off

/-- The entries of a CQ's ring. -/
def State.cqSize (s : State) (c : Nat) : Nat := ringSize (s.fld Fld.QM_CQ_CFG.SIZE_LOG c)

/-- The count of entries in a CQ's ring (R285). -/
def State.cqCount (s : State) (c : Nat) : Nat :=
  (s.fld Fld.QM_CQ_INDICES.TAIL c + 2 * s.cqSize c - s.fld Fld.QM_CQ_INDICES.HEAD c) % (2 * s.cqSize c)

/-- The entries of the holding store for a CQ. -/
def State.heldFor (s : State) (c : Nat) : Nat := (s.q.held.filter fun e => e.1 == c).length

/-- The entries of the holding store for an instance. -/
def State.heldOf (s : State) (i : Nat) : Nat := (s.q.held.filter fun e => s.fld Fld.QM_CQ_CFG.OWNER e.1 == i).length

/-- An instance's bound on held entries: the register's value at the nearest end of its range (R321, R327). -/
def State.holdMax (s : State) (i : Nat) : Nat := max 32 (min 8192 (s.fld Fld.INS_SHARE_HOLD.HOLD_MAX i))

/-- Whether the holding store takes one more entry for a CQ (R301, R327). -/
def State.holdRoom (s : State) (c : Nat) : Bool :=
  s.heldFor c < 32 && s.q.held.length < 8192 && s.heldOf (s.fld Fld.QM_CQ_CFG.OWNER c) < s.holdMax (s.fld Fld.QM_CQ_CFG.OWNER c)

/-- Whether a CQ takes an entry into its ring at once: it is not in ERROR, not full, and nothing is held for it. -/
def State.cqOpen (s : State) (c : Nat) : Bool :=
  s.fld Fld.QM_CQ_STATUS.FUNC_STATE c != Fn.error && s.cqCount c != s.cqSize c && s.heldFor c == 0

/-- The 16 bytes of a CQ entry (Table 09-3) with its phase bit. -/
def CqEntry.bytes (e : CqEntry) (p : Bool) : List Byte :=
  toBytes e.result 4 ++ toBytes e.aux 4 ++ toBytes e.cid 2 ++ toBytes e.sqHead 2 ++
    [byteOf e.sq 0, byteOf e.status 0, byteOf e.eventCode 0, byteOf ((if p then 1 else 0) + (if e.isEvent then 2 else 0)) 0]

/-- Bring the fields that follow from the holding store up to date: HELD, FULL and BACKPRESSURE of a CQ, HELD of the device,
and IDLE of its owner (R302, R310). -/
def refreshCq (c : Nat) : Prog :=
  .read fun s =>
    let bp := decide (s.heldFor c ≥ 32) ||
      (!s.holdRoom c && s.q.cmds.any fun e => match e.2.stage with
        | .blocked _ => s.cqOf e.2.ins (s.fld Fld.QM_SQ_CFG.CQ e.2.sq) == some c
        | _ => false)
    let owner := s.fld Fld.QM_CQ_CFG.OWNER c
    seqs [
      putN Fld.QM_CQ_STATUS.HELD c (min 63 (s.heldFor c)),
      put Fld.QM_STATUS.HELD s.q.held.length,
      putN Fld.QM_CQ_STATUS.FULL c (if s.cqCount c = s.cqSize c then 1 else 0),
      whenP (bp && !s.bit Fld.QM_CQ_STATUS.BACKPRESSURE c) (raise Fld.QM_EVENT.BACKPRESSURE),
      putN Fld.QM_CQ_STATUS.BACKPRESSURE c (if bp then 1 else 0),
      whenP (s.q.held.length == 8192) (raise Fld.QM_EVENT.HOLD_FULL),
      putN Fld.QM_INS_STATUS.IDLE owner
        (if s.fld Fld.QM_INS_STATUS.TAGS_USED owner = 0 ∧ s.heldOf owner = 0 then 1 else 0)]

/-- An instance other than I0 that is ON enters ERROR with a cause (R331): HOLD is set and its path to the host is told. -/
def insError (i cause : Nat) : Prog :=
  .read fun s => whenP (i != 0 && s.fld Fld.INS_STATUS.FUNC_STATE i == Fn.on) (seqs [
    putN Fld.INS_STATUS.FUNC_STATE i Fn.error, putN Fld.INS_STATUS.ERR_CAUSE i cause, raise Fld.INS_CTRL.HOLD i,
    raise Fld.INS_EVENT.ERROR, errCause Fld.HIC_ERR_CAUSE.INS_ERROR i])

/-- A CQ enters ERROR (R288, R305); the value latched first stays. A CQ 0 takes its instance with it (R331). -/
def cqError (c kind idx : Nat) : Prog :=
  .read fun s => whenP (s.fld Fld.QM_CQ_STATUS.FUNC_STATE c != Fn.error) (seqs [
    putN Fld.QM_CQ_STATUS.FUNC_STATE c Fn.error, putN Fld.QM_CQ_STATUS.ERR_KIND c kind, putN Fld.QM_CQ_ERR.INDEX c idx,
    raise Fld.QM_EVENT.CQ_ERROR, errCause Fld.HIC_ERR_CAUSE.CQ_ERROR (s.fld Fld.QM_CQ_CFG.OWNER c),
    whenP (s.fld Fld.QM_CQ_CFG.Q c == 0) (insError (s.fld Fld.QM_CQ_CFG.OWNER c) 2)])

/-- An SQ enters ERROR (R287, R305). -/
def sqError (q kind idx : Nat) : Prog :=
  .read fun s => whenP (s.fld Fld.QM_SQ_STATUS.FUNC_STATE q != Fn.error) (seqs [
    putN Fld.QM_SQ_STATUS.FUNC_STATE q Fn.error, putN Fld.QM_SQ_STATUS.ERR_KIND q kind, putN Fld.QM_SQ_ERR.INDEX q idx,
    raise Fld.QM_EVENT.SQ_ERROR, errCause Fld.HIC_ERR_CAUSE.SQ_ERROR (s.fld Fld.QM_SQ_CFG.OWNER q)])

/-- Put an entry into the holding store (R301). -/
def holdEntry (c : Nat) (e : CqEntry) : Prog :=
  seqs [modQ fun u => { u with held := u.held ++ [(c, e)] }, refreshCq c]

/-- The base address of a CQ's ring. -/
def State.cqBase (s : State) (c : Nat) : Nat :=
  s.fld Fld.QM_CQ_BASE_HI.BASE_HI c * 2 ^ 32 + s.fld Fld.QM_CQ_BASE_LO.BASE_LO c * 4096

/-- Write an entry at the tail of a CQ's ring (R291, R292), or hold it and enter ERROR when the function cannot issue the
write (R305). -/
def postEntry (c : Nat) (e : CqEntry) : Prog :=
  .read fun s =>
    let owner := s.fld Fld.QM_CQ_CFG.OWNER c
    let tail := s.fld Fld.QM_CQ_INDICES.TAIL c
    let size := s.cqSize c
    if !s.canIssue (s.insFn owner) then seqs [cqError c 2 tail, holdEntry c e]
    else seqs [
      insWrite owner 0 (s.queuePasid owner) (s.cqBase c + 16 * (tail % size)) (e.bytes (tail / size % 2 == 0)),
      putN Fld.QM_CQ_INDICES.TAIL c ((tail + 1) % (2 * size)),
      refreshCq c,
      whenP (s.bit Fld.QM_CQ_CTRL.IRQ_EN c) (hostCause (s.insFn owner) (s.fld Fld.QM_CQ_CTRL.VECTOR c))]

/-- Count an event that is not posted (R293). -/
def loseEvent (i : Nat) : Prog :=
  seqs [modQ fun u => { u with evLost := tset 0 u.evLost i (min 65535 (tget 0 u.evLost i + 1)) },
    raise Fld.QM_EVENT.EVENT_OVERFLOW]

/-- Post an event to CQ 0 of an instance (R293), with the tick number in AUX. -/
def postEvent (i code detail : Nat) (status : Nat := 0) : Prog :=
  .read fun s =>
    let e : CqEntry := { result := detail % 2 ^ 32, aux := s.tickLow 32, status, eventCode := code, isEvent := true }
    match s.cqOf i 0 with
    | none => loseEvent i
    | some c =>
      if s.fld Fld.QM_CQ_STATUS.FUNC_STATE c != Fn.on then loseEvent i
      else if s.cqOpen c then postEntry c e
      else if s.holdRoom c then holdEntry c e
      else loseEvent i

/-- Post OVERFLOW once CQ 0 of an instance can accept an entry again (R293). -/
def postOverflow (i : Nat) : Prog :=
  .read fun s =>
    let n := tget 0 s.q.evLost i
    match s.cqOf i 0 with
    | none => .skip
    | some c => whenP (n != 0 && s.fld Fld.QM_CQ_STATUS.FUNC_STATE c == Fn.on && s.cqOpen c) (seqs [
        modQ fun u => { u with evLost := tset 0 u.evLost i 0 },
        postEntry c { result := n, aux := s.tickLow 32, eventCode := Ev.overflow, isEvent := true }])

/-! ### Completing commands -/

/-- Field of an SQ entry: `len` bytes at `off`, little-endian (R289). -/
def Cmd.at (c : Cmd) (off len : Nat) : Nat := ofBytes ((c.bytes.drop off).take len)
/-- OPCODE of the header (Table 09-1). -/
def Cmd.opcode (c : Cmd) : Nat := c.at 0 1
/-- FLAGS bit of the header: 0 CRIT, 1 FRAG, 2 FENCE, 3 FORCE, 4 KEEP. -/
def Cmd.flag (c : Cmd) (b : Nat) : Bool := bitAt (c.at 1 1) b
/-- CID of the header. -/
def Cmd.cid (c : Cmd) : Nat := c.at 2 2

/-- Free a command's tag (R298). -/
def freeTag (tag : Nat) : Prog :=
  .read fun s => match s.cmd tag with
    | none => .skip
    | some c => seqs [
        modQ fun u => { u with cmds := u.cmds.filter fun e => e.1 != tag },
        countDown Fld.QM_TAGS.USED, countDown Fld.QM_INS_STATUS.TAGS_USED c.ins, countDown Fld.QM_SQ_STATUS.OUTSTANDING c.sq,
        .read fun t => seqs [
          putN Fld.QM_INS_STATUS.OVER_SHARE c.ins
            (if t.fld Fld.QM_INS_STATUS.TAGS_USED c.ins > min 65536 (t.fld Fld.INS_SHARE_TAG.TAG_SHARE c.ins) then 1 else 0),
          putN Fld.QM_INS_STATUS.IDLE c.ins
            (if t.fld Fld.QM_INS_STATUS.TAGS_USED c.ins = 0 ∧ t.heldOf c.ins = 0 then 1 else 0)]]

/-- Deliver a completion to a CQ and free the tag, or keep the tag and wait for room (R301, R302). A CQ that discards, or that is
gone, frees the tag alone (R304). -/
def deliver (tag : Nat) (e : CqEntry) : Prog :=
  .read fun s => match s.cmd tag with
    | none => .skip
    | some c => match s.cqOf c.ins (s.fld Fld.QM_SQ_CFG.CQ c.sq) with
      | none => freeTag tag
      | some q =>
        if s.q.discarding.contains q then seqs [countUp Fld.QM_CQ_STATUS.DISCARDED q, freeTag tag]
        else if s.cqOpen q then seqs [postEntry q e, freeTag tag, refreshCq q]
        else if s.holdRoom q then seqs [holdEntry q e, freeTag tag, refreshCq q]
        else seqs [modCmd tag fun c => { c with stage := .blocked e }, refreshCq q]

/-- Complete a command with a status, RESULT and AUX (Table 09-3). -/
def completeOne (tag status result aux : Nat) : Prog :=
  .read fun s => match s.cmd tag with
    | none => .skip
    | some c => if c.forced then freeTag tag else deliver tag {
        result := result % 2 ^ 32, aux := aux % 2 ^ 32, cid := c.cid, sqHead := c.head,
        sq := s.fld Fld.QM_SQ_CFG.Q c.sq, status := status }

/-- Commands of an instance outstanding beside one tag. -/
def State.outstanding (s : State) (i except : Nat) : Nat :=
  (s.q.cmds.filter fun e => e.2.ins == i && e.1 != except).length

/-- Complete every WAIT_IDLE whose instance has become idle (R310). -/
def wakeIdle : Prog :=
  .read fun s => forP (s.q.cmds.filter fun e => e.2.opcode == 0x05 && e.2.stage == .running) fun e =>
    .read fun t =>
      let i := e.2.at 4 2
      whenP (t.outstanding i e.1 == 0 && t.heldOf i == 0) (completeOne e.1 St.success 0 0)

/-- Complete a command, then the WAIT_IDLEs that its end lets complete. -/
def complete (tag status : Nat) (result : Nat := 0) (aux : Nat := 0) : Prog :=
  .seq (completeOne tag status result aux) wakeIdle

/-- Completions that waited for room in the holding store or in their CQ are delivered again, in their order (R301, R302). -/
def deliverBlocked : Prog :=
  .read fun s => forP s.q.cmds fun e => match e.2.stage with
    | .blocked x => deliver e.1 x
    | _ => .skip

/-- Room has returned to a CQ: held entries go first in their order, then completions that waited, then OVERFLOW (R293, R301). -/
def drainCq (c : Nat) : Prog :=
  .read fun s => seqs [
    forP (s.q.held.filter fun e => e.1 == c) fun e => .read fun t =>
      whenP (t.fld Fld.QM_CQ_STATUS.FUNC_STATE c != Fn.error && t.cqCount c != t.cqSize c)
        (seqs [modQ fun u => { u with held := u.held.erase e }, postEntry c e.2]),
    refreshCq c,
    deliverBlocked,
    postOverflow (s.fld Fld.QM_CQ_CFG.OWNER c),
    refreshCq c, wakeIdle]

end Sys2Proof.Machine
end

