-- ==== Sys2Proof/Machine/Halt.lean ====
section
/-! DEFINITION. The halt causes and the line HALT# (R464, R465), which helms, the watchdog and the boot drive alike. -/

namespace Sys2Proof.Machine

/-! The causes of Table 15-10, as bits of NVM_HALT_STATUS.CAUSE. -/

def Halt.sw : Nat := 0
def Halt.image : Nat := 1
def Halt.helm : Nat := 2
def Halt.wdt : Nat := 3
def Halt.pin : Nat := 4

/-- Whether a cause is present. -/
def State.halted (s : State) (b : Nat) : Bool := bitAt (s.fld Fld.NVM_HALT_STATUS.CAUSE) b

/-- Whether a present cause drives HALT# (Table 15-10). -/
def State.haltDrives (s : State) : Bool :=
  (s.halted Halt.sw && s.bit Fld.NVM_HALT_CFG.DRIVE_SW) || (s.halted Halt.image && s.bit Fld.NVM_HALT_CFG.DRIVE_IMAGE) ||
    (s.halted Halt.helm && s.bit Fld.NVM_HALT_CFG.DRIVE_HELM) || (s.halted Halt.wdt && s.bit Fld.NVM_HALT_CFG.DRIVE_WDT)

/-- Drive or release HALT# as the causes ask (R465). -/
def refreshHalt : Prog :=
  .read fun s =>
    let d := s.haltDrives
    seqs [
      whenP (d != s.bit Fld.NVM_HALT_STATUS.DRIVING) (seqs [
        putN Fld.NVM_HALT_STATUS.DRIVING 0 (if d then 1 else 0), emit (.pin "HALT#" (!d)),
        whenP (!d) (modHalt fun u => { u with releasedAt := s.chr.ns })]),
      put Fld.NVM_HALT_STATUS.PIN (if d || !s.pin 8 then 1 else 0)]

/-- A cause appears or goes. -/
def haltCause (b : Nat) (v : Bool) : Prog :=
  .read fun s => whenP (s.halted b != v) (seqs [
    put Fld.NVM_HALT_STATUS.CAUSE (if v then s.fld Fld.NVM_HALT_STATUS.CAUSE + 2 ^ b else s.fld Fld.NVM_HALT_STATUS.CAUSE - 2 ^ b),
    refreshHalt])

end Sys2Proof.Machine
end

