-- ==== Sys2Proof/Machine/Interrupts.lean ====
section
/-! DEFINITION. The interrupt commands: claim and complete, source configuration, masks, timers and soft sources of the ICU (11 R348
to R360), and the host's coalesced vectors (R361 to R367). -/

namespace Sys2Proof.Machine

/-- Move the chronometer forward to an instant of the tick in progress. A timed row happens at its instant; the chronometer
never goes back, and it does not pass the meridian that is due. -/
def advanceTo (ns : Nat) : Prog :=
  .read fun s => whenP (s.chr.ns < ns && (!(s.bit Fld.CHT_STATUS.RUNNING || s.chr.runDue) || ns ≤ s.chr.dueNs))
    (modChr fun c => { c with ns := ns, frac := 0 })

/-- Move the chronometer forward to an instant given in 2^-16 ns, with its fraction (R21). -/
def advanceFine (t : Nat) : Prog :=
  .read fun s => whenP ((decide (s.chr.ns < t / 65536) || (s.chr.ns == t / 65536 && decide (s.chr.frac < t % 65536))) &&
      (!(s.bit Fld.CHT_STATUS.RUNNING || s.chr.runDue) || decide (t ≤ 65536 * s.chr.dueNs)))
    (modChr fun c => { c with ns := t / 65536, frac := t % 65536 })

/-- The instant reached, in 2^-16 ns since reset. -/
def State.fine (s : State) : Nat := 65536 * s.chr.ns + s.chr.frac

/-- What happens at an instant: the chronometer moves there, and the rest follows if it has been reached. -/
def atNs (ns : Nat) (p : Prog) : Prog := seqs [advanceTo ns, .read fun s => whenP (decide (ns ≤ s.chr.ns)) p]

/-- The sources that are not masked. -/
def State.icuUnmasked (s : State) : List Nat :=
  (List.range 32).flatMap fun w =>
    let v := 2 ^ 32 - 1 - s.fld Fld.ICU_MASK.MASK w
    if v = 0 then [] else ((List.range 32).filter (bitAt v)).map (· + 32 * w)

/-- Whether a source is eligible for a target (R349). -/
def State.icuEligible (s : State) (t src : Nat) : Bool :=
  !s.icuMasked src && s.fld Fld.ICU_SRC_CFG.TARGET src == t && s.fld Fld.ICU_SRC_CFG.PRIO src > s.fld Fld.ICU_THRESH.THRESH t &&
    !s.icuInService src && s.icuPending src

/-- The sources eligible for a target, from its rotating pointer round (R353). -/
def State.icuEligibleList (s : State) (t : Nat) : List Nat :=
  let l := s.icuUnmasked.filter (s.icuEligible t)
  let p := tget 0 s.icu.pointer t
  (l.filter (p ≤ ·)) ++ (l.filter (· < p))

/-- The first source of the highest PRIO in a list. -/
def State.icuBest (s : State) (l : List Nat) : Option Nat :=
  l.foldl (fun b src => match b with
    | none => some src
    | some x => if s.fld Fld.ICU_SRC_CFG.PRIO src > s.fld Fld.ICU_SRC_CFG.PRIO x then some src else some x) none

/-- A target's request line (R349). -/
def State.icuRequest (s : State) (t : Nat) : Bool := s.icuUnmasked.any (s.icuEligible t)

/-- What a target's claim does (R353): the source is put in service, an edge source's pending bit clears, the pointer moves past
it; ICU_CLAIM shows what was returned. -/
def claimBy (t : Nat) : Prog :=
  .read fun s => match s.icuBest (s.icuEligibleList t) with
    | none => seqs [countUp Fld.ICU_SPURIOUS.CLAIM_NONE, clear Fld.ICU_CLAIM.VALID t, clear Fld.ICU_CLAIM.SOURCE t]
    | some src => seqs [putBit Fld.ICU_INSERV.INSERV src true,
        whenP (s.icuEdgeSensed src) (putBit Fld.ICU_PEND.PEND src false),
        modIcu fun u => { u with pointer := tset 0 u.pointer t ((src + 1) % 1024) },
        raise Fld.ICU_CLAIM.VALID t, putN Fld.ICU_CLAIM.SOURCE t src]

/-- ICU_CLAIM (R353). -/
def execIcuClaim (t : Nat) (s : State) : Out := finish (whenP (t ≤ 18) (claimBy t)) s

/-- What a target's write of ICU_COMPLETE does (R355). A source not in service for the target is ignored. -/
def completeBy (t src : Nat) (noCause : Bool) : Prog :=
  .read fun s =>
    if !(s.icuInService src && s.fld Fld.ICU_SRC_CFG.TARGET src == t) then raise Fld.ICU_EVENT.BAD_COMPLETE
    else seqs [putBit Fld.ICU_INSERV.INSERV src false,
      whenP (!s.icuEdgeSensed src) (putBit Fld.ICU_PEND.PEND src (s.icuInput src)),
      whenP noCause (countUp Fld.ICU_SPURIOUS.HANDLER)]

/-- ICU_COMPLETE (R355). -/
def execIcuComplete (t src : Nat) (noCause : Bool) (s : State) : Out :=
  finish (whenP (t ≤ 18 && src < 1024) (completeBy t src noCause)) s

/-- ICU_SRC_CFG_WRITE (R347, R357): PRIO and HOST_FWD always; TARGET, COAL_LOG, and SENSE and ENTRY where they are writable, only
while the source is masked and not in service. -/
def srcCfgWrite (src v : Nat) : Prog :=
  .read fun s =>
    let target := bitsAt v 4 5
    let sense := if 200 ≤ src ∧ src ≤ 207 then bitsAt v 9 2 else s.fld Fld.ICU_SRC_CFG.SENSE src
    let entry := if 256 ≤ src then bitsAt v 14 14 else 0
    let coal := bitsAt v 28 3
    let newSense := sense != s.fld Fld.ICU_SRC_CFG.SENSE src
    let newEntry := entry != s.fld Fld.ICU_SRC_CFG.ENTRY src
    let changed := newSense || newEntry || target != s.fld Fld.ICU_SRC_CFG.TARGET src || coal != s.fld Fld.ICU_SRC_CFG.COAL_LOG src
    seqs [putN Fld.ICU_SRC_CFG.PRIO src (bitsAt v 0 3), putN Fld.ICU_SRC_CFG.HOST_FWD src (bitsAt v 31 1),
      if s.icuMasked src && !s.icuInService src then
        seqs [putN Fld.ICU_SRC_CFG.TARGET src target, putN Fld.ICU_SRC_CFG.SENSE src sense,
          putN Fld.ICU_SRC_CFG.ENTRY src entry, putN Fld.ICU_SRC_CFG.COAL_LOG src coal,
          whenP (newSense || newEntry) (seqs [putBit Fld.ICU_PEND.PEND src false,
            modIcu fun u => { u with coal := tset 0 u.coal src 0 }])]
      else whenP changed (raise Fld.ICU_EVENT.CFG_REFUSED)]

/-- ICU_SRC_CFG_WRITE (R357). -/
def execIcuSrcCfgWrite (src v : Nat) (s : State) : Out := finish (whenP (src < 1024) (srcCfgWrite src v)) s

/-- ICU_MASK_WRITE (R354): masks or unmasks 32 sources; pending bits stay. -/
def execIcuMaskWrite (w v : Nat) (s : State) : Out := finish (whenP (w < 32) (putN Fld.ICU_MASK.MASK w v)) s

/-- A target's timer pulses and is disarmed (R358). -/
def timerPulse (t : Nat) : Prog :=
  seqs [modIcu fun u => { u with armed := tset 0 u.armed t 0 }, clear Fld.ICU_REQ.ARMED t, icuEdge (130 + t)]

/-- A write of TIMER_LO arms a target's timer; a value already passed pulses at once (R358), and so does an old one just reached (Table 11-2). -/
def timerArm (t lo : Nat) : Prog :=
  .read fun s =>
    let v := s.fld Fld.ICU_TIMER_HI.CMP_HI t * 2 ^ 32 + lo % 2 ^ 32
    seqs [whenP (s.bit Fld.ICU_REQ.ARMED t && decide (tget 0 s.icu.armed t ≤ s.chron)) (timerPulse t), putN Fld.ICU_TIMER_LO.CMP_LO t lo, modIcu fun u => { u with armed := tset 0 u.armed t v }, raise Fld.ICU_REQ.ARMED t,
      whenP (v ≤ s.chron) (timerPulse t)]

/-- ICU_TIMER_ARM (R358). -/
def execIcuTimerArm (t lo : Nat) (s : State) : Out := finish (whenP (t ≤ 18) (timerArm t lo)) s

/-- ICU_TIMER_FIRE (R358): the chronometer reaches the armed value of a target. -/
def execIcuTimerFire (t : Nat) (s : State) : Out :=
  finish (whenP (t ≤ 18 && s.bit Fld.ICU_REQ.ARMED t) (seqs [
    whenP (s.chron < tget 0 s.icu.armed t) (advanceTo (s.whenChron (tget 0 s.icu.armed t))),
    .read fun u => whenP (tget 0 u.icu.armed t ≤ u.chron) (timerPulse t)])) s

/-- Pulse every timer whose armed value the chronometer has passed, as after a step (R358). -/
def timersPassed : Prog :=
  .read fun s => forP (List.range 19) fun t =>
    whenP (s.bit Fld.ICU_REQ.ARMED t && decide (tget 0 s.icu.armed t ≤ s.chron)) (timerPulse t)

/-- Each bit written 1 gives its SOFT source an edge (R359). -/
def softSet (v : Nat) : Prog := forP ((List.range 32).filter (bitAt v)) fun b => icuEdge (160 + b)

/-- ICU_SOFT_SET (R359). -/
def execIcuSoftSet (v : Nat) (s : State) : Out := finish (softSet v) s

/-- ICU_LEVEL_CHANGE (R347, R352): a GPIO input or HALT# takes a level; a level source is sampled. A GPIO input sensed by edge
gives its edge. -/
def execIcuLevelChange (src : Nat) (level : Bool) (s : State) : Out :=
  finish (seqs [
    whenP (200 ≤ src && src ≤ 208) (seqs [
      modIcu fun u => { u with pins := tset (src == 208) u.pins (src - 200) level },
      whenP (src != 208 && s.pin (src - 200) != level &&
        s.fld Fld.ICU_SRC_CFG.SENSE src == (if level then 0b10 else 0b11)) (icuEdge src),
      whenP (src == 208) (seqs [refreshHalt,
        modHalt fun u => { u with lowSince := if level then none else some (u.lowSince.getD s.chr.ns) }])]),
    icuSample src]) s

/-- ICU_EDGE (R352): an edge of an edge source. -/
def execIcuEdge (src : Nat) (s : State) : Out :=
  finish (whenP (icuSource src && s.icuEdgeSensed src) (icuEdge src)) s

/-- HIC_VECTOR_TIMER (R364): a vector's timer reaches TIME. -/
def execHicVectorTimer (fn vec : Nat) (s : State) : Out :=
  let k := vecKey fn vec
  finish (whenP (s.bit Fld.HIC_VEC_STATUS.TIMER_RUN k) (atNs (tget 0 s.icu.vecAt k + 256 * s.coalTime k) (fireVector k))) s

/-- The vector that HIC_VEC_INDEX names (R369). -/
def State.vecIndex (s : State) : Nat := vecKey (s.fld Fld.HIC_VEC_INDEX.FUNCTION) (s.fld Fld.HIC_VEC_INDEX.VECTOR)

/-- HIC_FLUSH (R364): fires the vector that HIC_VEC_INDEX names while its EVENTS is above 0. -/
def hicFlush : Prog :=
  .read fun s =>
    whenP (s.fld Fld.HIC_VEC_STATUS.EVENTS s.vecIndex != 0) (fireVector s.vecIndex)
/-- HIC_FLUSH (R364). -/
def execHicFlush (s : State) : Out := finish hicFlush s

/-- Send the message a vector owes once neither mask stands (R365). -/
def sendOwed (k : Nat) : Prog :=
  .read fun s => whenP (s.bit Fld.HIC_VEC_STATUS.MSG_PENDING k && !(s.msixRow k).masked && !(s.fn (k / 2048)).msixMask &&
    (s.fn (k / 2048)).dstate == 0)
    (seqs [clear Fld.HIC_VEC_STATUS.MSG_PENDING k, sendMsix k])

/-- MSIX_UNMASK (R365): a vector's Mask bit, or the function's Function Mask, is cleared; owed messages go out. -/
def execMsixUnmask (fn vec : Nat) (whole : Bool) (s : State) : Out :=
  finish (if whole then seqs [modFn fn fun c => { c with msixMask := false },
      forP ((List.range 2048).filter fun v => s.bit Fld.HIC_VEC_STATUS.MSG_PENDING (vecKey fn v)) fun v => sendOwed (vecKey fn v)]
    else seqs [modIcu fun u => { u with
        msix := tset {} u.msix (vecKey fn vec) { tget {} u.msix (vecKey fn vec) with masked := false } },
      sendOwed (vecKey fn vec)]) s

/-- Whether a function vector lies in an instance's range (R320). -/
def State.vecInRange (s : State) (i vec : Nat) : Bool :=
  s.fld Fld.INS_VEC.VEC_BASE i ≤ vec && vec < s.fld Fld.INS_VEC.VEC_BASE i + s.fld Fld.INS_VEC.VEC_COUNT i

/-- While a function's MSI-X Enable or Bus Master Enable is 0, EVENTS is held at 0 (R365). -/
def vectorsHeld (fn : Nat) : Prog :=
  .read fun s => forP ((s.listed Fld.HIC_VEC_STATUS.EVENTS).filter fun k => k / 2048 == fn) vectorStops

/-- A write of HIC_VEC_COAL: a vector already at or past the new values fires at once (Table 11-5). -/
def coalWrite (v : Nat) : Prog :=
  .read fun s =>
    let k := s.vecIndex
    seqs [putN Fld.HIC_VEC_COAL.TIME k (bitsAt v 16 16), putN Fld.HIC_VEC_COAL.COUNT k (bitsAt v 0 8),
      .read fun s => whenP (s.fld Fld.HIC_VEC_STATUS.EVENTS k != 0 &&
        (decide (s.coalCount k ≤ s.fld Fld.HIC_VEC_STATUS.EVENTS k) || decide (s.coalTime k ≤ s.elapsed k))) (fireVector k)]

/-- HIC_INS_CFG_WRITE (R363): a write of HIC_INS_ERR, or else of HIC_INS_PI, of the instance that HIC_INS_INDEX names. A vector
outside the instance's range leaves the register as it was; while the instance is not OFF only the enables are written. -/
def hicInsCfg (err : Bool) (v : Nat) : Prog :=
  .read fun s =>
    let i := s.fld Fld.HIC_INS_INDEX.INSTANCE
    let lo := bitsAt v 0 11
    let hi := bitsAt v 16 11
    let off := s.fld Fld.INS_STATUS.FUNC_STATE i == Fn.off
      if off && !(s.vecInRange i lo && (err || s.vecInRange i hi)) then raise Fld.HIC_EVENT.CFG_REFUSED
      else if err then seqs [
        whenP off (seqs [putN Fld.HIC_INS_ERR.ERR_VEC i lo, putN Fld.HIC_INS_ERR.DEV_VEC i hi]),
        putN Fld.HIC_INS_ERR.ERR_EN i (bitsAt v 11 1),
        putN Fld.HIC_INS_ERR.DEV_EN i (if i = 0 then bitsAt v 27 1 else 0)]
      else seqs [
        whenP off (seqs [putN Fld.HIC_INS_PI.FULL_VEC i lo, putN Fld.HIC_INS_PI.HALF_VEC i hi]),
        putN Fld.HIC_INS_PI.FULL_EN i (bitsAt v 11 1), putN Fld.HIC_INS_PI.HALF_EN i (bitsAt v 27 1)]
/-- HIC_INS_CFG_WRITE (R363). -/
def execHicInsCfgWrite (err : Bool) (v : Nat) (s : State) : Out := finish (hicInsCfg err v) s

end Sys2Proof.Machine
end

