-- ==== Sys2Proof/Machine/Queues.lean ====
section
/-! DEFINITION. The queue manager: doorbells (R285 to R288), fetching (R294, R295, R298 to R300), the checks of a fetched entry
(R289, R290, R306), queue states (R303 to R305) and the commands it carries out itself (R296, R303, R310, R311). A queue
command takes its operands from the fetched entry; its row's operand is the tag the fetch gave it. -/

namespace Sys2Proof.Machine

/-! ### Doorbells -/

/-- The instance whose doorbell page is at SLOT of a function's BAR2: the ON instance bound there (R318). -/
def State.pageOwner (s : State) (fn slot : Nat) : Option Nat :=
  s.ins.live.find? fun i => s.fld Fld.INS_STATUS.FUNC_STATE i == Fn.on && s.insFn i == fn && s.fld Fld.INS_BIND.SLOT i == slot

/-- The entries of an SQ's ring. -/
def State.sqSize (s : State) (n : Nat) : Nat := ringSize (s.fld Fld.QM_SQ_CFG.SIZE_LOG n)

/-- The count of entries in an SQ's ring (R285). -/
def State.sqCount (s : State) (n : Nat) : Nat :=
  (s.fld Fld.QM_SQ_INDICES.TAIL n + 2 * s.sqSize n - s.fld Fld.QM_SQ_INDICES.HEAD n) % (2 * s.sqSize n)

/-- The base address of an SQ's ring. -/
def State.sqBase (s : State) (n : Nat) : Nat :=
  s.fld Fld.QM_SQ_BASE_HI.BASE_HI n * 2 ^ 32 + s.fld Fld.QM_SQ_BASE_LO.BASE_LO n * 4096

/-- Key of an SQ index in the entry cache. -/
def cacheKey (n idx : Nat) : Nat := n * 65536 + idx

/-- Entries in runs of up to 8 that lie one after the other in the ring (R295). -/
def entryRuns (size : Nat) (l : List Nat) : List (Nat × Nat) :=
  (l.foldl (fun m i => match m with
    | (a, n) :: rest => if n < 8 && i % size == a + n then (a, n + 1) :: rest else (i % size, 1) :: m
    | [] => [(i % size, 1)]) []).reverse

/-- Read entries of an SQ, by the identity and PASID of its owner (R319). -/
def readEntries (n : Nat) (idxs : List Nat) : Prog :=
  .read fun s =>
    let i := s.fld Fld.QM_SQ_CFG.OWNER n
    forP (entryRuns (s.sqSize n) idxs) fun e => hostRead (s.insFn i) (s.queuePasid i) (s.sqBase n + 64 * e.1) (64 * e.2)

/-- Read the entries that a doorbell covers into the entry cache, while it has room for its 4,096 slots (R295). -/
def prefetch (n : Nat) : Prog :=
  .read fun s => whenP (s.bit Fld.QM_SQ_CTRL.CACHED n) (
    let idxs := (List.range (s.sqCount n)).map fun i => (s.fld Fld.QM_SQ_INDICES.HEAD n + i) % (2 * s.sqSize n)
    let fresh := (idxs.filter fun i => !s.q.entryCache.any fun e => e.1 == cacheKey n i).take (4096 - s.q.entryCache.length)
    seqs [readEntries n fresh, modQ fun u => { u with
      entryCache := u.entryCache ++ fresh.map fun i =>
        (cacheKey n i, readBytes memDefault s.host (s.sqBase n + 64 * (i % s.sqSize n)) 64) }])

/-- An SQ tail doorbell (R287). -/
def sqDoorbell (n v : Nat) : Prog :=
  .read fun s =>
    let size := s.sqSize n
    let d := (v + 2 * size - s.fld Fld.QM_SQ_INDICES.HEAD n) % (2 * size)
    if v < 2 * size ∧ s.sqCount n ≤ d ∧ d ≤ size then seqs [putN Fld.QM_SQ_INDICES.TAIL n v, prefetch n]
    else sqError n 1 v

/-- SQ_TAIL_DOORBELL (R286, R287): a write to the tail doorbell of SQ `q` on a function's page SLOT. -/
def execSqTailDoorbell (fn slot q v : Nat) (s : State) : Out :=
  let stray := raise Fld.QM_EVENT.STRAY_DOORBELL
  finish (hostWrite fn true false <| match s.pageOwner fn slot with
    | none => stray
    | some i => match s.sqOf i q with
      | none => stray
      | some n => if s.fld Fld.QM_SQ_STATUS.FUNC_STATE n = Fn.on then sqDoorbell n (v % 65536) else stray) s

/-- A CQ head doorbell (R288): room lets held entries post (R301). -/
def cqDoorbell (c v : Nat) : Prog :=
  .read fun s =>
    let size := s.cqSize c
    let d := (v + 2 * size - s.fld Fld.QM_CQ_INDICES.HEAD c) % (2 * size)
    if v < 2 * size ∧ d ≤ s.cqCount c then seqs [putN Fld.QM_CQ_INDICES.HEAD c v, drainCq c]
    else cqError c 1 v

/-- CQ_HEAD_DOORBELL (R286, R288): a CQ takes it while ON or DISABLING. -/
def execCqHeadDoorbell (fn slot q v : Nat) (s : State) : Out :=
  let stray := raise Fld.QM_EVENT.STRAY_DOORBELL
  finish (hostWrite fn true false <| match s.pageOwner fn slot with
    | none => stray
    | some i => match s.cqOf i q with
      | none => stray
      | some c =>
        if s.fld Fld.QM_CQ_STATUS.FUNC_STATE c = Fn.on ∨ s.fld Fld.QM_CQ_STATUS.FUNC_STATE c = Fn.disabling
        then cqDoorbell c (v % 65536) else stray) s

/-! ### Fetching -/

/-- Whether an SQ's CQ is full or holds entries in the holding store (R299, k = 3). -/
def State.cqBarred (s : State) (n : Nat) : Bool :=
  match s.cqOf (s.fld Fld.QM_SQ_CFG.OWNER n) (s.fld Fld.QM_SQ_CFG.CQ n) with
  | none => true
  | some c => s.cqCount c == s.cqSize c || s.heldFor c != 0

/-- The bound that stops fetching from an SQ (R299): 1 POOL, 2 SHARE, 3 SQ_LIMIT, 4 CQ, 0 none. -/
def State.sqBound (s : State) (n : Nat) : Nat :=
  let i := s.fld Fld.QM_SQ_CFG.OWNER n
  if s.fld Fld.QM_TAGS.USED ≥ 65536 then 1
  else if s.fld Fld.QM_INS_STATUS.TAGS_USED i ≥ min 65536 (s.fld Fld.INS_SHARE_TAG.TAG_SHARE i) then 2
  else if s.fld Fld.QM_SQ_STATUS.OUTSTANDING n ≥ 256 then 3
  else if s.cqBarred n then 4 else 0

/-- Whether an SQ may be fetched from at all: it is ON with entries waiting, its owner is ON (R331), the device fetches and is in
S0 (R406), and no entry read of it is outstanding. -/
def State.sqReady (s : State) (n : Nat) : Bool :=
  s.bit Fld.QM_CTRL.FETCH_EN && s.fld Fld.PWR_STATE.CUR == 0 && !s.bit Fld.PWR_STATE.ENTRY_BUSY && s.fld Fld.QM_SQ_STATUS.FUNC_STATE n == Fn.on &&
    s.fld Fld.INS_STATUS.FUNC_STATE (s.fld Fld.QM_SQ_CFG.OWNER n) == Fn.on && s.sqCount n != 0 && !s.q.fetching.contains n &&
    !s.ins.wipeAt.contains (s.fld Fld.QM_SQ_CFG.OWNER n)

/-- The place of an SQ in the order of R294 and R325: admin SQs first, then from the instance the pointer is on, and within an
instance from the queue after the last one served. -/
def State.sqRank (s : State) (n : Nat) : Nat :=
  let i := s.fld Fld.QM_SQ_CFG.OWNER n
  let q := s.fld Fld.QM_SQ_CFG.Q n
  (if q = 0 then 0 else 4096 * 256) + (i + 4096 - s.q.turnIns) % 4096 * 256 + (q + 256 - tget 0 s.q.lastQ i) % 256

/-- The SQ that comes first in the order. -/
def State.sqFirst (s : State) (l : List Nat) : Option Nat :=
  l.foldl (fun b n => match b with
    | none => some n
    | some m => if s.sqRank n < s.sqRank m then some n else some m) none

/-- The SQ entries an instance is fetched per turn: 0 acts as 1, values above 64 act as 64 (R321). -/
def State.fetchBurst (s : State) (i : Nat) : Nat := max 1 (min 64 (s.fld Fld.INS_SHARE_BW.FETCH_BURST i))

/-- SQ_FETCH (R294, R299, R325): every ready SQ at a bound pauses and counts once; the first of the others is read, or waits for a request (R266). -/
def execSqFetch (s : State) : Out :=
  let ready := s.q.sqTaken.filter s.sqReady
  finish (seqs [
    forP ready fun n =>
      let k := s.sqBound n
      seqs [whenP (k != 0 && s.fld Fld.QM_SQ_STATUS.PAUSE n != k) (countUp Fld.QM_TAG_STALL.COUNT (k - 1)),
        putN Fld.QM_SQ_STATUS.PAUSE n k],
    match s.sqFirst (ready.filter fun n => s.sqBound n == 0) with
    | none => .skip
    | some n =>
      let i := s.fld Fld.QM_SQ_CFG.OWNER n
      let count := (if s.q.turnIns = i then s.q.turnCount else 0) + 1
      let head := s.fld Fld.QM_SQ_INDICES.HEAD n
      if !s.requestFree (s.insFn i) then whenP (!s.q.npWait) (seqs [modQ fun u => { u with npWait := true }, npStall])
      else seqs [whenP (s.q.entryCache.lookup (cacheKey n head)).isNone (readEntries n [head]), modQ fun u => { u with
        fetching := u.fetching ++ [n], npWait := false
        turnIns := if count ≥ s.fetchBurst i then (i + 1) % 4096 else i
        turnCount := if count ≥ s.fetchBurst i then 0 else count
        lastQ := tset 0 u.lastQ i ((s.fld Fld.QM_SQ_CFG.Q n + 1) % 256) }, refreshDma]]) s

/-- An entry read whose queue is gone ends, and gives its request back (R336). -/
def orphanDone : Prog := seqs [modQ fun u => { u with orphans := u.orphans.drop 1 }, refreshDma]

/-- SQ_FETCH_FAULT (R305, R523): an entry read ends in a Completion Timeout (`how` 0), an Unsupported Request (1) or poisoned data (2). -/
def execSqFetchFault (sq how : Nat) (s : State) : Out :=
  finish (if !s.q.fetching.contains sq then orphanDone else (seqs [
    requestFailed (s.insFn (s.fld Fld.QM_SQ_CFG.OWNER sq)) how,
    modQ fun u => { u with fetching := u.fetching.erase sq }, refreshDma,
    sqError sq 2 (s.fld Fld.QM_SQ_INDICES.HEAD sq)])) s

/-! ### The checks of a fetched entry -/

/-- The bytes each command's layout names: (byte, bytes, mask) beyond the header (Tables 09-7, 09-8, 10-5 and the command
tables of 12 to 17). An opcode not listed is not defined. -/
def commandLayout : List (Nat × List (Nat × Nat × Nat)) :=
  let w (b n : Nat) : Nat × Nat × Nat := (b, n, 2 ^ (8 * n) - 1)
  [(0x00, []), (0x01, [w 4 1, w 5 1, (6, 1, 0x1F), w 8 8]), (0x02, [w 4 1]),
   (0x03, [w 4 1, (6, 1, 0x0F), w 8 8, w 16 2, (18, 1, 1)]), (0x04, [w 4 1]), (0x05, [w 4 2, w 8 4]),
   (0x06, [w 4 1, w 8 8]), (0x07, [w 4 1, w 5 1, w 6 2]),
   (0x10, [w 4 1, w 8 2, w 10 2, (16, 16, 2 ^ 128 - 1 - 0x60000000 * 2 ^ 32), w 40 8]), (0x11, [w 8 2]),
   (0x12, [w 4 1, w 5 1, w 6 1, w 8 2, w 12 2, (16, 16, 2 ^ 128 - 1 - 0x60000000 * 2 ^ 32), w 40 8]),
   (0x13, [w 4 1, w 8 2, w 16 16, w 40 8]), (0x14, [w 4 1, w 8 2, w 16 32, w 48 8])] ++
  [(0x20, [w 4 2, w 6 1, w 8 2, w 10 2, w 12 2, (16, 4, 0x800FFFFF)]),
   (0x21, [w 4 2, (6, 1, 0x3F), w 8 4, w 12 2, w 14 1, w 15 1, w 16 2, w 18 2]), (0x22, [w 4 2, w 6 1]), (0x23, [w 4 2, w 8 4]),
   (0x24, [w 4 2]), (0x25, [w 4 2, w 6 1, (7, 1, 0x1F), w 8 8]), (0x26, [w 4 2, w 8 8])] ++
  [(0x30, [w 4 1, w 5 1, w 8 8]), (0x31, [w 5 1]), (0x32, [w 4 1, w 5 1]), (0x33, [w 8 2]), (0x34, [w 8 4, w 12 4, w 16 8]),
   (0x35, [w 4 1]), (0x36, [w 4 1]), (0x37, [w 4 1]), (0x38, []), (0x39, []), (0x40, [w 4 1]), (0x41, [w 4 1]),
   (0x42, [w 4 1, w 5 1]), (0x48, [w 4 1, w 5 1, w 8 4]), (0x49, [w 8 2]), (0x4A, [w 4 1, w 8 8]), (0x50, [w 4 1]),
   (0x58, [w 4 1, w 5 1, w 6 1]), (0x59, []), (0x5A, [w 4 1, w 5 1, w 8 8]), (0x5B, [])] ++
  [(0x80, [(4, 2, 0xFFF), (6, 1, 0x1F), (7, 1, 0x1F), (8, 4, 0xFFFFFF), w 16 8]),
   (0x81, [(4, 2, 0xFFF), (6, 1, 0x1F), (7, 1, 0x1F), (8, 4, 0xFFFFFF), w 16 8]),
   (0x82, [w 4 2, (7, 1, 0x1F), w 8 16, w 24 8]), (0x83, [w 4 1, w 8 8])]

/-- The bits of the first 64 bytes that a layout names, header included. -/
def layoutMask (l : List (Nat × Nat × Nat)) : Nat :=
  l.foldl (fun m e => m ||| (e.2.2 * 2 ^ (8 * e.1))) 0xFFFF1FFF

/-- Check 4, reserved bits: whether an entry sets a bit its layout does not name (R289, R306). -/
def Cmd.reservedSet (c : Cmd) : Bool :=
  match commandLayout.lookup c.opcode with
  | none => false
  | some l => c.at 0 64 &&& layoutMask l != c.at 0 64 || (c.flag 0 && c.at 88 40 != 0)

/-- Check 1: the opcode is defined and allowed on its SQ. -/
def Cmd.allowedOn (c : Cmd) (q : Nat) : Bool :=
  (commandLayout.lookup c.opcode).isSome && (c.opcode == 0 || (c.opcode ≥ 0x80) == (q != 0))

/-- Check 2: who may issue the command ("Issued by" of Tables 09-7 and 09-8, R338, R398, R422, R444, R492, R509). -/
def Cmd.issuerOk (c : Cmd) : Bool :=
  c.ins == 0 ||
  (if c.opcode = 0x05 ∨ c.opcode = 0x26 then c.at 4 2 == c.ins
   else if c.opcode = 0x13 then c.at 4 1 == 4
   else c.opcode ≤ 0x11 || c.opcode == 0x14 || c.opcode ≥ 0x80)

/-- The commands of Table 16-1, always critical (R471). -/
def Cmd.tableCritical (c : Cmd) : Bool :=
  c.opcode == 0x20 || (c.opcode == 0x24 && c.flag 3) || (0x30 ≤ c.opcode && c.opcode ≤ 0x38) || c.opcode == 0x50

/-- The group of Table 16-2 that a command belongs to. -/
def Cmd.criticalGroup (c : Cmd) : Option Nat :=
  if c.opcode = 0x12 ∧ c.at 4 1 = 4 then some 0
  else if c.opcode = 0x13 ∧ c.at 4 1 ≠ 4 then some 0
  else if 0x40 ≤ c.opcode ∧ c.opcode ≤ 0x47 then some 1
  else if 0x48 ≤ c.opcode ∧ c.opcode ≤ 0x4F then some 2
  else if 0x58 ≤ c.opcode ∧ c.opcode ≤ 0x5F then some 3
  else if 0x21 ≤ c.opcode ∧ c.opcode ≤ 0x25 then some 4
  else if c.opcode = 0x14 ∧ c.at 4 1 = 0 then some 5
  else none

/-- Whether a command must be critical (R471, R472). -/
def State.mustBeCritical (s : State) (c : Cmd) : Bool :=
  c.tableCritical || (match c.criticalGroup with
    | some g => bitAt (s.fld Fld.SEC_CRIT_EXTRA.GROUPS) g
    | none => false)

/-- Life-cycle state BLANK or RETURNED with no command key active, in which Table 16-1 commands pass unchecked (R473). -/
def State.unchecked (s : State) : Bool :=
  !s.bit Fld.SEC_STATUS.KEY_VALID && (s.fld Fld.SEC_STATUS.LIFE_CYCLE == 0 || s.fld Fld.SEC_STATUS.LIFE_CYCLE == 3)

/-- Check 4, what the command names (Table 09-6): the node, pipe, queue, channel or leg belongs to the issuer. -/
def State.namesOwn (s : State) (c : Cmd) : Bool :=
  let nodeOk (n : Nat) := 1 ≤ n && n ≤ 4094 && (c.ins == 0 || (s.node n).owner == c.ins)
  match c.opcode with
  | 0x80 => nodeOk (c.at 4 2) && c.at 6 1 != 0
  | 0x81 => nodeOk (c.at 4 2) && c.at 6 1 != 0
  | 0x82 => nodeOk (c.at 4 2) && bitsAt (c.at 8 1) 5 2 != 3 && bitsAt (c.at 8 1) 0 5 == 0
  | 0x05 => c.at 4 2 < 4096
  | 0x06 => c.at 4 1 ≤ 1
  | 0x07 => c.at 4 1 ≤ 1
  | 0x10 => c.at 4 1 ≤ 1
  | 0x12 => c.at 4 1 ≤ 6
  | 0x13 => c.at 4 1 ≤ 5 && (c.at 4 1 == 5 || (c.at 8 2 < 4096 && (c.ins == 0 || (s.node (c.at 8 2)).owner == c.ins)))
  | 0x14 => c.at 4 1 ≤ 4 && c.at 8 2 < 4096
  | 0x48 => c.at 4 1 ≤ 15 && c.at 5 1 ≤ 4
  | 0x4A => c.at 4 1 ≤ 15
  | 0x22 => c.at 6 1 ≤ 4 && c.at 4 2 < 4096
  | 0x25 => c.at 6 1 ≤ 2 && c.at 4 2 < 4096
  | 0x83 => c.at 4 1 < 64 && (List.range 68).any fun k =>
      s.fld Fld.DMA_CH_STATUS.LOGICAL k == c.at 4 1 && s.fld Fld.DMA_CH_CFG.OWNER k == c.ins
  | _ => true

/-- What the checks of Table 09-6 say of an entry that has just arrived, before the Keeper: a status to complete with, the
Keeper's check, or ready. -/
inductive Verdict where
  | fail (status : Nat)
  | keeper
  | ready
  deriving DecidableEq, Repr

/-- Check 4. -/
def State.check4 (s : State) (c : Cmd) : Verdict :=
  if c.reservedSet || !s.namesOwn c then .fail St.badEntry else .ready

/-- Checks 1 to 4 in order (R306, R471, R473). -/
def State.checkEntry (s : State) (c : Cmd) : Verdict :=
  if !c.allowedOn (s.fld Fld.QM_SQ_CFG.Q c.sq) then .fail St.unsupported
  else if !c.issuerOk then .fail St.unsupported
  else if c.tableCritical && s.fld Fld.SEC_STATUS.LIFE_CYCLE == 4 then .fail St.unsupported
  else if c.tableCritical && s.unchecked then s.check4 c
  else if c.flag 0 then .keeper
  else if s.mustBeCritical c then .fail St.authFailed
  else s.check4 c

/-- The bytes of the SQ entry at an index: from the entry cache, or from the ring in host memory (R295). -/
def State.sqEntry (s : State) (n idx : Nat) : List Byte :=
  (s.q.entryCache.lookup (cacheKey n idx)).getD (readBytes memDefault s.host (s.sqBase n + 64 * (idx % s.sqSize n)) 64)

/-- A fetched entry takes a tag and passes its checks, or completes at the first that fails (R290, R298, R306). -/
def takeEntry (n : Nat) : Prog :=
  .read fun s =>
    let size := s.sqSize n
    let head := s.fld Fld.QM_SQ_INDICES.HEAD n
    let first := s.sqEntry n head
    let crit := bitAt (ofBytes (first.take 2)) 8
    let used := if crit then 2 else 1
    let bytes := if crit then first ++ s.sqEntry n ((head + 1) % (2 * size)) else first
    let newHead := (head + used) % (2 * size)
    let tag := s.q.nextTag
    let c : Cmd := { sq := n, ins := s.fld Fld.QM_SQ_CFG.OWNER n, head := newHead, bytes := bytes, stage := .ready }
    if crit && s.sqCount n < 2 then putN Fld.QM_SQ_STATUS.PAUSE n 5
    else seqs [
      whenP (crit && (s.q.entryCache.lookup (cacheKey n ((head + 1) % (2 * size)))).isNone) (readEntries n [(head + 1) % (2 * size)]),
      putN Fld.QM_SQ_STATUS.PAUSE n 0, putN Fld.QM_SQ_INDICES.HEAD n newHead,
      countUp Fld.QM_TAGS.USED, countUp Fld.QM_INS_STATUS.TAGS_USED c.ins, countUp Fld.QM_SQ_STATUS.OUTSTANDING n,
      putN Fld.QM_INS_STATUS.IDLE c.ins 0,
      modQ fun u => { u with
        nextTag := tag + 1
        entryCache := u.entryCache.filter fun e => e.1 != cacheKey n head && (!crit || e.1 != cacheKey n ((head + 1) % (2 * size)))
        cmds := u.cmds ++ [(tag, match s.checkEntry c with
          | .keeper => { c with stage := .keeper }
          | _ => c)] },
      match s.checkEntry c with
      | .fail st => complete tag st
      | _ => .skip]

/-- SQ_ENTRY_READ_COMPLETE (R306): the entry that an SQ's read brought. -/
def execSqEntryReadComplete (sq : Nat) (s : State) : Out :=
  finish (if !s.q.fetching.contains sq then orphanDone else (seqs [
    modQ fun u => { u with fetching := u.fetching.erase sq }, refreshDma,
    whenP (s.fld Fld.QM_SQ_STATUS.FUNC_STATE sq == Fn.on && s.sqCount sq != 0) (takeEntry sq)])) s

/-! ### Carrying out a fetched command -/

/-- Whether a command fetched from the same SQ before a tag has not started yet (R294). -/
def State.earlierWaits (s : State) (tag sq : Nat) : Bool :=
  s.q.cmds.any fun e => decide (e.1 < tag) && e.2.sq == sq && (e.2.stage == .ready || e.2.stage == .keeper)

/-- A fetched command whose own step may run now: it has the opcode, its checks have passed, it has not started, the commands of its SQ fetched
before it have, and FENCE finds none of those left (R289, R294). -/
def State.startable (s : State) (tag op : Nat) : Option Cmd :=
  match s.cmd tag with
  | none => none
  | some c =>
    if c.stage == .ready && c.opcode == op && !s.earlierWaits tag c.sq && (!c.flag 2 || !s.q.cmds.any fun e => e.1 < tag && e.2.sq == c.sq)
    then some c else none

/-- Carry out a fetched command. A tag that names none leaves the state as it is. -/
def withCmd (tag op : Nat) (k : Cmd → Prog) : Prog :=
  .read fun s => match s.startable tag op with
    | none => .skip
    | some c => k c

/-- Carry out a fetched command whose byte `off` names an action. -/
def withAction (tag op off action : Nat) (k : Cmd → Prog) : Prog :=
  withCmd tag op fun c => whenP (c.at off 1 == action) (k c)

/-- A command goes on until something completes it, keeping a number. -/
def running (tag : Nat) (progress : Nat := 0) : Prog := modCmd tag fun c => { c with stage := .running, progress := progress }

/-- The running commands of an opcode that wait on a number. -/
def State.waiting (s : State) (op progress : Nat) : List Nat :=
  (s.q.cmds.filter fun e => e.2.stage == .running && e.2.opcode == op && e.2.progress == progress).map (·.1)

/-- Complete the running commands of an opcode that wait on a number. -/
def completeWaiting (op progress status result aux : Nat) : Prog :=
  .read fun s => forP (s.waiting op progress) fun tag => complete tag status result aux

/-! ### Queue states -/

/-- The lowest context not taken from a pool of 16,384 (R282). -/
def freeContext (taken : List Nat) : Option Nat := (List.range 16384).find? fun n => !taken.contains n

/-- An SQ enters ENABLING (R303). -/
def sqEnabling (n : Nat) : Prog :=
  seqs [raise Fld.QM_SQ_CTRL.ENABLE n, putN Fld.QM_SQ_STATUS.FUNC_STATE n Fn.enabling, clear Fld.QM_SQ_STATUS.ERR_KIND n,
    clear Fld.QM_SQ_STATUS.PENDING_ENABLE n]

/-- A CQ enters ENABLING (R303). -/
def cqEnabling (n : Nat) : Prog :=
  seqs [raise Fld.QM_CQ_CTRL.ENABLE n, putN Fld.QM_CQ_STATUS.FUNC_STATE n Fn.enabling, clear Fld.QM_CQ_STATUS.ERR_KIND n,
    clear Fld.QM_CQ_STATUS.PENDING_ENABLE n, clear Fld.QM_CQ_STATUS.DISCARDED n]

/-- Whether an SQ's enable is refused (R303, R329). -/
def State.sqRefused (s : State) (n : Nat) : Bool :=
  let i := s.fld Fld.QM_SQ_CFG.OWNER n
  let q := s.fld Fld.QM_SQ_CFG.Q n
  s.fld Fld.INS_STATUS.FUNC_STATE i == Fn.off || (s.sqOf i q).isSome || (q == 0 && s.fld Fld.QM_SQ_CFG.CQ n != 0) ||
    (match s.cqOf i (s.fld Fld.QM_SQ_CFG.CQ n) with
      | none => true
      | some c => s.fld Fld.QM_CQ_STATUS.FUNC_STATE c != Fn.on)

/-- Whether a CQ's enable is refused (R303, R320, R329). -/
def State.cqRefused (s : State) (n : Nat) : Bool :=
  let i := s.fld Fld.QM_CQ_CFG.OWNER n
  s.fld Fld.INS_STATUS.FUNC_STATE i == Fn.off || (s.cqOf i (s.fld Fld.QM_CQ_CFG.Q n)).isSome ||
    !s.vecInRange i (s.fld Fld.QM_CQ_CTRL.VECTOR n)

/-- Take a context from the SQ pool (R282). -/
def takeSq (n : Nat) : Prog :=
  modQ fun u => { u with sqTaken := if u.sqTaken.contains n then u.sqTaken else u.sqTaken ++ [n] }
/-- Take a context from the CQ pool (R282). -/
def takeCq (n : Nat) : Prog :=
  modQ fun u => { u with cqTaken := if u.cqTaken.contains n then u.cqTaken else u.cqTaken ++ [n] }

/-- QM_SQ_ENABLE (R303): ENABLE = 1 written to the SQ that QM_SQ_INDEX names. -/
def sqEnableReg : Prog :=
  .read fun s =>
    let n := s.fld Fld.QM_SQ_INDEX.SQ
    let st := s.fld Fld.QM_SQ_STATUS.FUNC_STATE n
    seqs [takeSq n,
      if st = Fn.off then (if s.sqRefused n then raise Fld.QM_EVENT.CFG_REFUSED else sqEnabling n)
      else if st = Fn.disabling then seqs [raise Fld.QM_SQ_CTRL.ENABLE n, raise Fld.QM_SQ_STATUS.PENDING_ENABLE n]
      else .skip]
/-- QM_SQ_ENABLE (R303). -/
def execQmSqEnable (s : State) : Out := finish sqEnableReg s

/-- QM_CQ_ENABLE (R303): ENABLE = 1 written to the CQ that QM_CQ_INDEX names. -/
def cqEnableReg : Prog :=
  .read fun s =>
    let n := s.fld Fld.QM_CQ_INDEX.CQ
    let st := s.fld Fld.QM_CQ_STATUS.FUNC_STATE n
    seqs [takeCq n,
      if st = Fn.off then (if s.cqRefused n then raise Fld.QM_EVENT.CFG_REFUSED else cqEnabling n)
      else if st = Fn.disabling then seqs [raise Fld.QM_CQ_CTRL.ENABLE n, raise Fld.QM_CQ_STATUS.PENDING_ENABLE n]
      else .skip]
/-- QM_CQ_ENABLE (R303). -/
def execQmCqEnable (s : State) : Out := finish cqEnableReg s

/-- An SQ starts DISABLING: fetching stops at once (R303, R304). -/
def sqDisable (n : Nat) : Prog :=
  .read fun s =>
    let st := s.fld Fld.QM_SQ_STATUS.FUNC_STATE n
    seqs [clear Fld.QM_SQ_CTRL.ENABLE n, clear Fld.QM_SQ_STATUS.PENDING_ENABLE n,
      if st = Fn.off then modQ fun u => { u with sqTaken := u.sqTaken.erase n }
      else putN Fld.QM_SQ_STATUS.FUNC_STATE n Fn.disabling]

/-- QM_SQ_DISABLE (R303): ENABLE = 0 written to the SQ that QM_SQ_INDEX names. -/
def execQmSqDisable (s : State) : Out := finish (sqDisable (s.fld Fld.QM_SQ_INDEX.SQ)) s

/-- Whether an SQ of a CQ's owner bound to it is not OFF (R303). -/
def State.cqBound (s : State) (c : Nat) : Bool :=
  s.q.sqTaken.any fun n => s.fld Fld.QM_SQ_CFG.OWNER n == s.fld Fld.QM_CQ_CFG.OWNER c &&
    s.fld Fld.QM_SQ_CFG.CQ n == s.fld Fld.QM_CQ_CFG.Q c && s.fld Fld.QM_SQ_STATUS.FUNC_STATE n != Fn.off

/-- A CQ leaving ERROR discards its held entries, and from then on all that falls due for it (R304). -/
def cqDiscard (c : Nat) : Prog :=
  .read fun s => seqs [
    modQ fun u => { u with held := u.held.filter fun e => e.1 != c, discarding := u.discarding ++ [c] },
    countUp Fld.QM_CQ_STATUS.DISCARDED c (s.heldFor c),
    putN Fld.QM_CQ_STATUS.FUNC_STATE c Fn.disabling,
    deliverBlocked, refreshCq c, wakeIdle]

/-- A CQ starts DISABLING, or is refused while an SQ bound to it is not OFF (R303, R304). -/
def cqDisable (c : Nat) : Prog :=
  .read fun s =>
    let st := s.fld Fld.QM_CQ_STATUS.FUNC_STATE c
    if st = Fn.error then seqs [clear Fld.QM_CQ_CTRL.ENABLE c, cqDiscard c]
    else if st = Fn.off then seqs [clear Fld.QM_CQ_CTRL.ENABLE c, modQ fun u => { u with cqTaken := u.cqTaken.erase c }]
    else if st = Fn.disabling then seqs [clear Fld.QM_CQ_CTRL.ENABLE c, clear Fld.QM_CQ_STATUS.PENDING_ENABLE c]
    else if s.cqBound c then raise Fld.QM_EVENT.CFG_REFUSED
    else seqs [clear Fld.QM_CQ_CTRL.ENABLE c, putN Fld.QM_CQ_STATUS.FUNC_STATE c Fn.disabling]

/-- QM_CQ_DISABLE (R303, R304): ENABLE = 0 written to the CQ that QM_CQ_INDEX names. -/
def execQmCqDisable (s : State) : Out := finish (cqDisable (s.fld Fld.QM_CQ_INDEX.CQ)) s

/-- QUEUE_ENABLED (R285, R303): an ENABLING queue reaches ON with its indices 0; CREATE_SQ or CREATE_CQ completes, and a CQ 0 that
owes OVERFLOW posts it (R293). -/
def execQueueEnabled (isCq : Bool) (n : Nat) (s : State) : Out :=
  finish (
    if isCq then whenP (s.fld Fld.QM_CQ_STATUS.FUNC_STATE n == Fn.enabling) (seqs [
      putN Fld.QM_CQ_INDICES.HEAD n 0, putN Fld.QM_CQ_INDICES.TAIL n 0, putN Fld.QM_CQ_STATUS.FUNC_STATE n Fn.on, refreshCq n,
      completeWaiting 0x03 n St.success n 0,
      whenP (s.fld Fld.QM_CQ_CFG.Q n == 0) (postOverflow (s.fld Fld.QM_CQ_CFG.OWNER n))])
    else whenP (s.fld Fld.QM_SQ_STATUS.FUNC_STATE n == Fn.enabling) (seqs [
      putN Fld.QM_SQ_INDICES.HEAD n 0, putN Fld.QM_SQ_INDICES.TAIL n 0, putN Fld.QM_SQ_STATUS.FUNC_STATE n Fn.on,
      completeWaiting 0x01 n St.success n 0])) s

/-- An SQ in DISABLING with nothing outstanding reaches OFF and gives its context back (R282, R303). -/
def sqOff (n : Nat) : Prog :=
  .read fun s => seqs [
    putN Fld.QM_SQ_STATUS.FUNC_STATE n Fn.off,
    modQ fun u => { u with
      sqTaken := u.sqTaken.erase n
      fetching := u.fetching.erase n
      orphans := u.orphans ++ if u.fetching.contains n then [s.insFn (s.fld Fld.QM_SQ_CFG.OWNER n)] else []
      entryCache := u.entryCache.filter fun e => e.1 / 65536 != n },
    whenP (s.bit Fld.QM_SQ_STATUS.PENDING_ENABLE n) (seqs [takeSq n,
      .read fun t => if t.sqRefused n then raise Fld.QM_EVENT.CFG_REFUSED else sqEnabling n]),
    completeWaiting 0x02 n St.success 0 0]

/-- A CQ in DISABLING with nothing held reaches OFF and gives its context back (R282, R303). -/
def cqOff (n : Nat) : Prog :=
  .read fun s => seqs [
    putN Fld.QM_CQ_STATUS.FUNC_STATE n Fn.off,
    modQ fun u => { u with cqTaken := u.cqTaken.erase n, discarding := u.discarding.erase n },
    whenP (s.bit Fld.QM_CQ_STATUS.PENDING_ENABLE n) (seqs [takeCq n,
      .read fun t => if t.cqRefused n then raise Fld.QM_EVENT.CFG_REFUSED else cqEnabling n]),
    completeWaiting 0x04 n St.success 0 0]

/-- QUEUE_DISABLED (R303): a DISABLING queue with nothing outstanding or held reaches OFF. -/
def execQueueDisabled (isCq : Bool) (n : Nat) (s : State) : Out :=
  finish (
    if isCq then whenP (s.fld Fld.QM_CQ_STATUS.FUNC_STATE n == Fn.disabling && s.heldFor n == 0 &&
      (!s.cqBound n || s.q.discarding.contains n)) (cqOff n)
    else whenP (s.fld Fld.QM_SQ_STATUS.FUNC_STATE n == Fn.disabling && !s.q.cmds.any fun e => e.2.sq == n) (sqOff n)) s

/-! ### Caches -/

/-- Key of a fragment table: instance and address (R295). -/
def fragKey (i addr : Nat) : Nat := i * 2 ^ 64 + addr

/-- Drop an instance's cached fragment tables (R296). -/
def dropFrags (i : Nat) : Prog :=
  modQ fun u => { u with fragCache := u.fragCache.filter fun e => e.1 / 2 ^ 64 != i }

/-- QM_CACHE_INVAL (R296): one instance's fragment cache, or all. -/
def cacheInval (all : Bool) (i : Nat) : Prog :=
  if all then modQ fun u => { u with fragCache := [] } else dropFrags (i % 4096)
/-- QM_CACHE_INVAL (R296). -/
def execQmCacheInval (all : Bool) (i : Nat) (s : State) : Out := finish (cacheInval all i) s

/-! ### Commands of the queue manager -/

/-- NOP completes at once (Table 09-7). -/
def execNop (tag : Nat) (s : State) : Out := finish (withCmd tag 0x00 fun _ => complete tag St.success) s

/-- CREATE_SQ (Table 09-7, R303): completes on reaching ON. -/
def execCreateSq (tag : Nat) (s : State) : Out :=
  finish (withCmd tag 0x01 fun c => .read fun s =>
    let q := c.at 4 1
    let log := bitsAt (c.at 6 1) 0 4
    let base := c.at 8 8
    let cqOn := match s.cqOf c.ins (c.at 5 1) with
      | none => false
      | some d => s.fld Fld.QM_CQ_STATUS.FUNC_STATE d == Fn.on
    if q = 0 ∨ log < 4 ∨ base % 4096 ≠ 0 ∨ !cqOn ∨ (s.sqOf c.ins q).isSome then complete tag St.badEntry
    else match freeContext s.q.sqTaken with
      | none => complete tag St.noSlots
      | some n => seqs [takeSq n, running tag n,
          putN Fld.QM_SQ_CFG.OWNER n c.ins, putN Fld.QM_SQ_CFG.Q n q, putN Fld.QM_SQ_CFG.CQ n (c.at 5 1),
          putN Fld.QM_SQ_CFG.SIZE_LOG n log, putN Fld.QM_SQ_CTRL.CACHED n (bitsAt (c.at 6 1) 4 1),
          putN Fld.QM_SQ_BASE_LO.BASE_LO n (base / 4096), putN Fld.QM_SQ_BASE_HI.BASE_HI n (base / 2 ^ 32), sqEnabling n]) s

/-- DELETE_SQ (Table 09-7, R303): completes on reaching OFF. -/
def execDeleteSq (tag : Nat) (s : State) : Out :=
  finish (withCmd tag 0x02 fun c => .read fun s =>
    match (if c.at 4 1 = 0 then none else s.sqOf c.ins (c.at 4 1)) with
    | none => complete tag St.badEntry
    | some n => seqs [running tag n, sqDisable n]) s

/-- CREATE_CQ (Table 09-7, R303, R320): completes on reaching ON. -/
def execCreateCq (tag : Nat) (s : State) : Out :=
  finish (withCmd tag 0x03 fun c => .read fun s =>
    let q := c.at 4 1
    let log := bitsAt (c.at 6 1) 0 4
    let base := c.at 8 8
    if q = 0 ∨ log < 4 ∨ base % 4096 ≠ 0 ∨ !s.vecInRange c.ins (c.at 16 2) ∨ c.at 16 2 > 2047 ∨ (s.cqOf c.ins q).isSome then
      complete tag St.badEntry
    else match freeContext s.q.cqTaken with
      | none => complete tag St.noSlots
      | some n => seqs [takeCq n, running tag n,
          putN Fld.QM_CQ_CFG.OWNER n c.ins, putN Fld.QM_CQ_CFG.Q n q, putN Fld.QM_CQ_CFG.SIZE_LOG n log,
          putN Fld.QM_CQ_CTRL.VECTOR n (c.at 16 2), putN Fld.QM_CQ_CTRL.IRQ_EN n (c.at 18 1),
          putN Fld.QM_CQ_BASE_LO.BASE_LO n (base / 4096), putN Fld.QM_CQ_BASE_HI.BASE_HI n (base / 2 ^ 32), cqEnabling n]) s

/-- DELETE_CQ (Table 09-7, R303): completes on reaching OFF. -/
def execDeleteCq (tag : Nat) (s : State) : Out :=
  finish (withCmd tag 0x04 fun c => .read fun s =>
    match (if c.at 4 1 = 0 then none else s.cqOf c.ins (c.at 4 1)) with
    | none => complete tag St.badEntry
    | some n => if s.cqBound n then complete tag St.badEntry else seqs [running tag n, cqDisable n]) s

/-- WAIT_IDLE (R310): completes once the named instance has nothing outstanding but this, and nothing held. -/
def execWaitIdle (tag : Nat) (s : State) : Out :=
  finish (withCmd tag 0x05 fun c => .read fun s =>
    if s.outstanding (c.at 4 2) tag = 0 ∧ s.heldOf (c.at 4 2) = 0 then complete tag St.success else running tag s.chr.ns) s

/-- WAIT_IDLE_TIMEOUT (R310): RESULT is the number of commands outstanding. -/
def execWaitIdleTimeout (tag : Nat) (s : State) : Out :=
  finish (match s.cmd tag with
    | none => .skip
    | some c => whenP (c.opcode == 0x05 && c.stage == .running && c.at 8 4 != 0)
        (atNs (c.progress + c.at 8 4 * 1000000) (.read fun s => complete tag St.timeout (s.outstanding (c.at 4 2) tag)))) s

/-- INVALIDATE (R296): one cached table, or all of the issuer's. -/
def execInvalidate (tag : Nat) (s : State) : Out :=
  finish (withCmd tag 0x06 fun c => seqs [
    if c.at 4 1 = 0 then modQ fun u => { u with fragCache := u.fragCache.filter fun e => e.1 != fragKey c.ins (c.at 8 8) }
    else dropFrags c.ins,
    complete tag St.success]) s

/-- Write what a command returns in memory, then complete it (R292, R306); a write the function cannot issue ends it. -/
def writeData (tag : Nat) (c : Cmd) (addr : Nat) (bs : List Byte) (result : Nat := 0) (aux : Nat := 0) : Prog :=
  .read fun s =>
    if !s.canIssue (s.insFn c.ins) then complete tag St.dmaWriteFault
    else seqs [insWrite c.ins 0 (s.queuePasid c.ins) addr bs, complete tag St.success result aux]

/-- The word of the register at an offset, of element or context `n`. -/
def State.word (s : State) (off n : Nat) : Nat :=
  ((fieldTable.filter fun f => f.off == off).map fun f => s.fld f n * 2 ^ f.lo).foldl (· + ·) 0

end Sys2Proof.Machine
end

