-- ==== Sys2Proof/Machine/Flags.lean ====
section
/-! DEFINITION. The check values the spec computes over bytes (00, standards; R140, R479, R503): CRC-32C,
CRC-16/CCITT-FALSE and the PMBus packet error code. -/

namespace Sys2Proof.Machine

/-- One bit of a reflected CRC with polynomial `poly`. -/
def crcShift (poly c : Nat) : Nat := if c % 2 = 1 then (c / 2) ^^^ poly else c / 2

/-- CRC-32C: polynomial 0x1EDC_6F41 reflected, initial value and final XOR 0xFFFF_FFFF. -/
def crc32c (bs : List Byte) : Nat :=
  (bs.foldl (fun c b => (List.range 8).foldl (fun c _ => crcShift 0x82F63B78 c) (c ^^^ b.toNat)) 0xFFFFFFFF) ^^^ 0xFFFFFFFF

/-- CRC-16/CCITT-FALSE: polynomial 0x1021, not reflected, initial value 0xFFFF. -/
def crc16 (bs : List Byte) : Nat :=
  bs.foldl (fun c b => (List.range 8).foldl
    (fun c _ => if c ≥ 0x8000 then (c * 2 % 0x10000) ^^^ 0x1021 else c * 2) (c ^^^ (b.toNat * 256))) 0xFFFF

/-- CRC-8 of the SMBus packet error code: polynomial 0x07, initial value 0 (R385, R401). -/
def crc8 (bs : List Byte) : Nat :=
  bs.foldl (fun c b => (List.range 8).foldl (fun c _ => if c ≥ 0x80 then (c * 2 % 0x100) ^^^ 0x07 else c * 2) (c ^^^ b.toNat)) 0

end Sys2Proof.Machine
end

