-- ==== Sys2Proof/Machine/Wire.lean ====
section
/-! DEFINITION. What travels on a lane, bit by bit: frames with their header word and check values (R63, R140, R141, R173, R174), ordered sets
(R64 to R72), the slot grid of a receiver (R62, R564) and the 8B/10B code groups (00, standards; R88). -/

namespace Sys2Proof.Machine

/-! ### Slots -/

/-- The bytes of a slot at a generation (Table 03-1). -/
def slotBytes (gen : Nat) : Nat := if gen = 1 then 4 else if gen = 2 then 16 else 40

/-- The slots of a frame with `len` payload bytes at a generation (R63, Table 03-1). -/
def frameSlots (gen len : Nat) : Nat := (len + 12 + slotBytes gen - 1) / slotBytes gen

/-- Half a code time at a generation, in tenths of a nanosecond (R564): 3.2 ns, 1.0 ns and 4.0 ns. -/
def halfCode (gen : Nat) : Nat := if gen = 1 then 40 else if gen = 2 then 10 else 32

/-- Whether a code whose instant lies `pos` (in 2^-16 ns) after a grid's origin begins at the boundary of a slot (R564). -/
def beginsAt (gen : Nat) (pos : Int) (slot : Nat) : Bool := decide (10 * (pos - 32 * 65536 * slot).natAbs ≤ halfCode gen * 65536)

/-- The slot at whose boundary a code begins, if there is one (R564). -/
def boundaryOf (gen : Nat) (pos : Int) : Option Nat :=
  let k := ((pos + 16 * 65536) / (32 * 65536)).toNat
  if beginsAt gen pos k then some k else none

/-- The slot in which a code's instant lies. -/
def slotOf (pos : Int) : Nat := (pos / (32 * 65536)).toNat

/-! ### Frames -/

/-- The fields of a frame's header that legs and packets share (Tables 05-2 and 06-1); `low` is bits 25 to 18, `high` bits 47 to 38. -/
structure Header where
  addr : Nat := 0
  pipe : Nat := 0
  inbound : Bool := false
  low : Nat := 0
  length : Nat := 0
  packet : Bool := false
  high : Nat := 0
  deriving DecidableEq, Repr

/-- 1 for a truth value that holds. -/
def bit1 (b : Bool) : Nat := if b then 1 else 0

/-- Bits 47 to 0 of a header. -/
def Header.word48 (h : Header) : Nat :=
  h.addr % 4096 + h.pipe % 32 * 2 ^ 12 + bit1 h.inbound * 2 ^ 17 + h.low % 256 * 2 ^ 18 + h.length % 2048 * 2 ^ 26 + bit1 h.packet * 2 ^ 37 +
    h.high % 1024 * 2 ^ 38

/-- The 8 bytes of a header: HCRC is CRC-16/CCITT-FALSE over bytes 0 to 5 (R140, R173). -/
def Header.bytes (h : Header) : List Byte := toBytes h.word48 6 ++ toBytes (crc16 (toBytes h.word48 6)) 2

/-- A frame: header, payload, and the CRC-32C over the payload alone, which is 0 over none (R141, R174). -/
def Header.frame (h : Header) (payload : List Byte) : List Byte :=
  ({ h with length := payload.length } : Header).bytes ++ payload ++ toBytes (crc32c payload) 4

/-- A frame with the pad of 0x00 that fills its last slot (R63). -/
def padded (gen : Nat) (f : List Byte) : List Byte := f ++ List.replicate (slotBytes gen * frameSlots gen (f.length - 12) - f.length) 0

/-- A leg frame (Table 05-2): the flags are DUP, HELD, SAFE, STALE and NODE_FAULT. -/
def legFrame (addr pipe : Nat) (inbound : Bool) (seq : Nat) (dup held safe stale fault : Bool) (payload : List Byte) : List Byte :=
  Header.frame { addr := addr, pipe := pipe, inbound := inbound, low := seq
                 high := bit1 dup + 2 * bit1 held + 4 * bit1 safe + 8 * bit1 stale + 16 * bit1 fault } payload

/-! Packet types (Table 06-1). -/

def Pt.data : Nat := 0
def Pt.setup : Nat := 1
def Pt.handshake : Nat := 2
def Pt.grant : Nat := 3

/-- A packet frame (Table 06-1). -/
def packetFrame (addr pipe : Nat) (inbound : Bool) (type seq : Nat) (payload : List Byte) : List Byte :=
  Header.frame { addr := addr, pipe := pipe, inbound := inbound, low := seq, packet := true, high := type % 4 + seq / 256 % 256 * 4 } payload

/-- The header that bytes spell. -/
def Header.ofBytes (bs : List Byte) : Header :=
  let w := Sys2Proof.ofBytes (bs.take 6)
  { addr := bitsAt w 0 12, pipe := bitsAt w 12 5, inbound := bitAt w 17, low := bitsAt w 18 8, length := bitsAt w 26 11, packet := bitAt w 37
    high := bitsAt w 38 10 }

/-- Flag `i` of a leg header: 0 DUP, 1 HELD, 2 SAFE, 3 STALE, 4 NODE_FAULT. -/
def Header.flag (h : Header) (i : Nat) : Bool := bitAt h.high i
/-- TYPE of a packet header. -/
def Header.type (h : Header) : Nat := h.high % 4
/-- The sequence number of a packet header. -/
def Header.seq (h : Header) : Nat := h.low + h.high / 4 % 256 * 256

/-- Whether a frame's header passes HCRC. -/
def headerGood (bs : List Byte) : Bool := decide (12 ≤ bs.length) && crc16 (bs.take 6) == Sys2Proof.ofBytes ((bs.drop 6).take 2)

/-- The payload that a frame's LENGTH names. -/
def framePayload (bs : List Byte) : List Byte := (bs.drop 8).take (Header.ofBytes bs).length

/-- Whether a frame passes both of its CRCs; one that ends early does not (R73). -/
def frameGood (bs : List Byte) : Bool :=
  let n := (Header.ofBytes bs).length
  headerGood bs && decide (n + 12 ≤ bs.length) && crc32c (framePayload bs) == Sys2Proof.ofBytes ((bs.drop (8 + n)).take 4)

/-- Exactly `n` bytes: cut, or filled with 0x00. -/
def fitTo (n : Nat) (bs : List Byte) : List Byte := (bs ++ List.replicate n 0).take n

/-- A mirror frame (R428): its header word, HCRC over its first six bytes, the payload and its CRC-32C. -/
def mirrorFrame (tick count : Nat) (payload : List Byte) : List Byte :=
  let h := toBytes (tick % 2 ^ 16 + payload.length % 2 ^ 11 * 2 ^ 16 + count % 2 ^ 16 * 2 ^ 32) 6
  h ++ toBytes (crc16 h) 2 ++ payload ++ toBytes (crc32c payload) 4

/-- What a mirror frame says, where both of its CRCs are good: TICK, FRAME and the payload. -/
def mirrorFields (bs : List Byte) : Option (Nat × Nat × List Byte) :=
  let w := ofBytes (bs.take 6)
  let n := bitsAt w 16 11
  let payload := (bs.drop 8).take n
  if headerGood bs ∧ n + 12 ≤ bs.length ∧ crc32c payload = ofBytes ((bs.drop (8 + n)).take 4) then some (bitsAt w 0 16, bitsAt w 32 16, payload)
  else none

/-! ### Ordered sets -/

/-- An ordered set other than the fix response and the sync frame, whose blocks `lfixResp` and `syncFrame` give (Tables 03-2 and 03-3). -/
inductive OSet where
  | train (locked ready eqFail eqActive : Bool)
  | caps (kind maxGen : Nat) (fix foghorn eq ack : Bool)
  | genGo (gen count : Nat)
  | eqReq (deemph : Nat) (ack : Bool)
  | retrain (full : Bool)
  | linkOff (lowPower : Bool)
  | meridian (tick corr state epoch : Nat)
  | idle
  | lfixReq (seq : Nat)
  deriving DecidableEq, Repr

/-- The payload of the G3 block: the type in bits 7 to 0, the body from bit 8 on, reserved bits 0 (R67, Table 03-3). -/
def OSet.word : OSet → Nat
  | .train l r f a => 0x21 + bit1 l * 2 ^ 8 + bit1 r * 2 ^ 9 + bit1 f * 2 ^ 10 + bit1 a * 2 ^ 11 + 0x4A4A4A4A4A4A * 2 ^ 16
  | .caps k g f o e a => 0x22 + k % 16 * 2 ^ 8 + g % 4 * 2 ^ 12 + bit1 f * 2 ^ 14 + bit1 o * 2 ^ 15 + bit1 e * 2 ^ 16 + bit1 a * 2 ^ 17 + 2 ^ 24
  | .genGo g c => 0x23 + g % 4 * 2 ^ 8 + c % 16 * 2 ^ 16
  | .eqReq d a => 0x24 + d % 32 * 2 ^ 8 + bit1 a * 2 ^ 13
  | .retrain f => 0x2E + bit1 f * 2 ^ 8
  | .linkOff l => 0x2F + bit1 l * 2 ^ 8
  | .meridian t c st e => 0x4D + t % 2 ^ 24 * 2 ^ 8 + c % 2 ^ 24 * 2 ^ 32 + st % 4 * 2 ^ 56 + e % 4 * 2 ^ 58
  | .idle => 0x50
  | .lfixReq s => 0x61 + s % 256 * 2 ^ 8

/-- The body bytes of the 8B/10B form (Table 03-2). -/
def OSet.bodyBytes : OSet → Nat
  | .train .. => 6
  | .caps .. => 3
  | .genGo .. => 2
  | .idle => 0
  | .meridian .. => 7
  | _ => 1

/-- Data characters of the low `n` bytes of a number. -/
def dataChars (v n : Nat) : List Code := (List.range n).map fun i => .d (v / 256 ^ i % 256)

/-- The codes of an ordered set at a generation (R65, R67, R68): one control block, or a run of characters that begins with K28.5, the
meridian marker with K28.1. -/
def OSet.codes (gen : Nat) (o : OSet) : List Code :=
  if gen = 3 then [.block 2 o.word]
  else match o with
    | .meridian t c _ _ =>
      if gen = 2 then .k 0x3C :: dataChars (o.word / 256) 7 else [.k 0x3C, .d (t % 256), .d (c % 256), .d (c / 256 % 256)]
    | _ => .k 0xBC :: .d (o.word % 256) :: dataChars (o.word / 256) o.bodyBytes

/-- What a marker says at a generation (Table 02-1), of its word as `OSet.word` lays it out: TICK, CORR in 2^-16 ns, and EPOCH, which G1 does not carry. The G1 word
has TICK in bits 15 to 8 and CORR in bits 31 to 16. -/
def markerOf (gen word : Nat) : Nat × Nat × Option Nat :=
  if gen = 1 then (bitsAt word 8 8, bitsAt word 16 16 * 4096, none) else (bitsAt word 8 24, bitsAt word 32 24 * 16, some (bitsAt word 58 2))

/-- CORR of a marker at a generation, in its unit, rounded to the nearest (R36). -/
def corrUnits (gen corr : Nat) : Nat := if gen = 1 then (corr + 2048) / 4096 else (corr + 8) / 16

/-- The fix response (R33, R71): two blocks at G3, 13 characters at G1 and G2. -/
def lfixResp (gen seq turn ns frac : Nat) : List Code :=
  if gen = 3 then [
    .block 2 (0x62 + seq % 256 * 2 ^ 8 + turn % 2 ^ 32 * 2 ^ 16),
    .block 2 (0x63 + seq % 256 * 2 ^ 8 + ns % 2 ^ 32 * 2 ^ 16 + frac % 2 ^ 16 * 2 ^ 48)]
  else .k 0xBC :: .d 0x62 :: .d (seq % 256) :: dataChars turn 4 ++ dataChars ns 4 ++ dataChars frac 2

/-- The bodies of a sync frame, before its CRC (Table 03-3). -/
def syncWords (boundary depth state epoch rootId : Nat) : Nat × Nat × Nat :=
  (0x71 + boundary % 2 ^ 56 * 2 ^ 8,
   0x72 + boundary / 2 ^ 56 % 256 * 2 ^ 8 + depth % 1024 * 2 ^ 16 + state % 4 * 2 ^ 26 + epoch % 4 * 2 ^ 28 + rootId % 2 ^ 32 * 2 ^ 32,
   0x73 + rootId / 2 ^ 32 % 2 ^ 32 * 2 ^ 8)

/-- The CRC of a sync frame: over the seven body bytes of SYNC_A, the seven of SYNC_B and the ROOT_ID bytes of SYNC_C (Table 03-3). -/
def syncCrc (a b c : Nat) : Nat := crc16 (toBytes (a / 256) 7 ++ toBytes (b / 256) 7 ++ toBytes (c / 256) 4)

/-- The three blocks of a sync frame (R72). -/
def syncFrame (boundary depth state epoch rootId : Nat) : List Code :=
  let w := syncWords boundary depth state epoch rootId
  [.block 2 w.1, .block 2 w.2.1, .block 2 (w.2.2 + syncCrc w.1 w.2.1 w.2.2 * 2 ^ 40)]

/-- MBEACON (Table 14-1). -/
def mbeacon (tick : Nat) (stop handover lost : Bool) : Nat :=
  let w := 0x81 + tick % 2 ^ 32 * 2 ^ 8 + bit1 stop * 2 ^ 40 + bit1 handover * 2 ^ 41 + bit1 lost * 2 ^ 42
  w + crc16 (toBytes (w / 256) 5) * 2 ^ 48

/-- Whether a block is an MBEACON with a good CRC. -/
def mbeaconGood (w : Nat) : Bool := w % 256 == 0x81 && crc16 (toBytes (w / 256) 5) == bitsAt w 48 16

/-- The CRC of a claim pair: over the seven body bytes of MCLAIM_A and bytes 1 to 5 of MCLAIM_B (Table 14-1). -/
def claimCrc (a b : Nat) : Nat := crc16 (toBytes (a / 256) 7 ++ toBytes (b / 256) 5)

/-- A claim pair (Table 14-1): an identity and a KIND. -/
def mclaim (id kind : Nat) : List Code :=
  let a := 0x83 + id % 2 ^ 56 * 2 ^ 8
  let b := 0x84 + id / 2 ^ 56 % 256 * 2 ^ 8 + kind % 4 * 2 ^ 16
  [.block 2 a, .block 2 (b + claimCrc a b * 2 ^ 48)]

/-- The identity and KIND of a claim pair with a good CRC. -/
def claimFields (a b : Nat) : Option (Nat × Nat) :=
  if a % 256 = 0x83 ∧ b % 256 = 0x84 ∧ claimCrc a b = bitsAt b 48 16 then some (bitsAt a 8 56 + bitsAt b 8 8 * 2 ^ 56, bitsAt b 16 2) else none

/-- The block types of MIRROR alone (R426). -/
def mirrorType (t : Nat) : Bool := [0x81, 0x83, 0x84].contains t

/-- The block types a receiver acts on (Table 03-2, R67). -/
def knownType (t : Nat) : Bool := [0x21, 0x22, 0x23, 0x24, 0x2E, 0x2F, 0x4D, 0x50, 0x61, 0x62, 0x63, 0x71, 0x72, 0x73].contains t

/-- The time that `n` ordered sets of a kind take at a generation, in ns rounded up: a block is 6.4 ns, a character 2 ns at G2 and 8 ns at G1. -/
def setsTime (gen : Nat) (o : OSet) (n : Nat) : Nat :=
  if gen = 3 then (64 * n + 9) / 10 else (o.codes gen).length * n * (if gen = 2 then 2 else 8)

/-! ### 8B/10B code groups -/

/-- The 6-bit groups of D.x with negative running disparity, bit a first (IEEE 802.3 Clause 36). -/
def groups6 : List Nat := [
  0b100111, 0b011101, 0b101101, 0b110001, 0b110101, 0b101001, 0b011001, 0b111000, 0b111001, 0b100101, 0b010101, 0b110100, 0b001101,
  0b101100, 0b011100, 0b010111] ++ [
  0b011011, 0b100011, 0b010011, 0b110010, 0b001011, 0b101010, 0b011010, 0b111010, 0b110011, 0b100110, 0b010110, 0b110110, 0b001110,
  0b101110, 0b011110, 0b101011]

/-- The 4-bit groups of D.x.y with negative running disparity; entry 7 is the primary one. -/
def groups4 : List Nat := [0b1011, 0b1001, 0b0101, 0b1100, 0b1101, 0b1010, 0b0110, 0b1110]

/-- The ones of a group. -/
def ones (n v : Nat) : Nat := ((List.range n).filter (bitAt v)).length

/-- The group sent with a running disparity: the complement after a positive one, where the group is not balanced or is one of the two balanced
groups that alternate. -/
def groupFor (n v alternating : Nat) (positive : Bool) : Nat :=
  if positive && (ones n v != n / 2 || v == alternating) then 2 ^ n - 1 - v else v

/-- The code group of a data character with a running disparity. -/
def dataGroup (byte : Nat) (positive : Bool) : Nat :=
  let x := byte % 32
  let y := byte / 32 % 8
  let six := groupFor 6 (groups6.getD x 0) 0b111000 positive
  let after := if ones 6 six = 3 then positive else !positive
  let alternate := y == 7 && ((!after && [17, 18, 20].contains x) || (after && [11, 13, 14].contains x))
  six * 16 + groupFor 4 (if alternate then 0b0111 else groups4.getD y 0) 0b1100 after

/-- The twelve control characters with negative running disparity: K28.0 to K28.7, K23.7, K27.7, K29.7 and K30.7. -/
def controlGroups : List Nat := [
  0b0011110100, 0b0011111001, 0b0011110101, 0b0011110011, 0b0011110010, 0b0011111010, 0b0011110110, 0b0011111000, 0b1110101000,
  0b1101101000, 0b1011101000, 0b0111101000]

/-- Whether a received code is valid: at G3 a sync header 01 or 10, at G1 and G2 a code group that its running disparity allows (R88). -/
def validCode (gen code : Nat) (positive : Bool) : Bool :=
  if gen = 3 then code == 1 || code == 2
  else (List.range 256).any (fun b => dataGroup b positive == code) ||
    controlGroups.contains (if positive then 1023 - code else code)

end Sys2Proof.Machine
end

