-- ==== Sys2Proof/Machine/Nodes.lean ====
section
/-! DEFINITION. What every unit asks of the node table and the tree: paths and generations (R99, R100), responses, errors and
what falls due at the next meridian (R123, R124, R129, R130), the tree's events (R136), and the requests the tree logic
sends (R201 to R205). -/

namespace Sys2Proof.Machine

/-- The minimum tick of Table 05-1 for a slowest generation. -/
def minTick (gen : Nat) : Nat := if gen = 1 then 2048 else if gen = 2 then 256 else 64

/-- Bring TRE_COUNT up to date (Table 04-17). -/
def refreshTree : Prog :=
  .read fun s => seqs [
    put Fld.TRE_COUNT.ABSENT (s.tree.nodes.filter fun e => e.2.state == .absent).length,
    put Fld.TRE_COUNT.PRESENT (s.tree.nodes.filter fun e => e.2.state.present).length]

/-- Change a node-table entry. -/
def modNode (a : Nat) (f : NodeEntry → NodeEntry) : Prog :=
  .read fun s => seqs [putNode a (f (s.node a)), refreshTree]

/-- Move a node-table entry to a state (Table 04-11). -/
def setNodeState (a : Nat) (st : NodeState) : Prog := modNode a fun e => { e with state := st }

/-- Whether entry `b` lies at or below the location of a port, tier and route (R100). -/
def NodeEntry.under (e : NodeEntry) (port tier route : Nat) : Bool :=
  e.port == port && tier ≤ e.tier && e.route % 16 ^ tier == route % 16 ^ tier

/-- The present nodes at or below a location, in ascending address order. -/
def State.subtree (s : State) (port tier route : Nat) : List Nat :=
  (s.tree.nodes.filter fun e => e.2.state.present && e.2.under port tier route).map (·.1)

/-- The present hub with hub count `tier` on the path of a location (R100). -/
def State.hubAt (s : State) (port tier route : Nat) : Option Nat :=
  (s.tree.nodes.find? fun e => e.2.state.present && e.2.hub && e.2.port == port && e.2.tier == tier &&
    e.2.route == route % 16 ^ tier).map (·.1)

/-- The parent hub of a node: none for a node on a root port. -/
def State.parentOf (s : State) (a : Nat) : Option Nat :=
  let e := s.node a
  if e.tier = 0 then none else s.hubAt e.port (e.tier - 1) e.route

/-- The hub port a node hangs on: 0 on a root port. -/
def NodeEntry.hubPort (e : NodeEntry) : Nat := if e.tier = 0 then 0 else e.route / 16 ^ (e.tier - 1) % 16

/-- The hubs on the path of a location, in ascending hub count. -/
def State.hubsAbove (s : State) (port tier route : Nat) : List Nat :=
  (List.range tier).filterMap fun i => s.hubAt port i route

/-- The slowest generation on the path of a node, its own link included; a generation not known counts as G3. -/
def State.pathGen (s : State) (a : Nat) : Nat :=
  let e := s.node a
  ((a :: s.hubsAbove e.port e.tier e.route).map fun n => if (s.node n).gen = 0 then 3 else (s.node n).gen).foldl min 3

/-- Whether a root port's lane is UP. -/
def State.portUp (s : State) (p : Nat) : Bool := s.fld Fld.LNK_STATUS.STATE p == 7

/-- The low bits of the tick number. -/
def State.tick (s : State) : Nat := s.chr.tick

/-! ### Responses and errors -/

/-- One error of a node (R130): the sixteenth within 1,000 ms makes quarantine fall due at the next meridian. A standby's tree
logic takes no part (R431). -/
def nodeError (a : Nat) : Prog :=
  .read fun s => whenP ((s.node a).state.present && !s.standby) (seqs [
    modRec a fun r => { r with errors := (s.ms :: r.errors).take 16 },
    .read fun t =>
      let r := t.nrec a
      whenP (((t.node a).state == .active || (t.node a).state == .suspect) && r.quarantine == none &&
          (match r.errors[15]? with
            | some old => decide (t.ms < old + 1000)
            | none => false))
        (modRec a fun r => { r with quarantine := some 0 })])

/-- One missed response of a node (R129): all of one tick count as one, and the third tick in a row makes it SUSPECT. -/
def missed (a : Nat) : Prog :=
  .read fun s =>
    let r := s.nrec a
    if !(s.node a).state.present || s.standby then .skip
    else if r.lastMiss = some s.tick then modRec a fun r => { r with missTicks := max 1 r.missTicks }
    else seqs [
      modRec a fun r => { r with
        missTicks := if r.lastMiss = some (s.tick - 1) ∧ s.tick ≠ 0 then r.missTicks + 1 else 1
        lastMiss := some s.tick },
      nodeError a,
      .read fun t => whenP ((t.nrec a).missTicks ≥ 3 && (t.node a).state == .active)
        (seqs [setNodeState a .suspect, raise Fld.TRE_EVENT.SUSPECT])]

/-- A good response of a node (R129). -/
def goodResponse (a : Nat) : Prog :=
  .read fun s => seqs [
    whenP ((s.nrec a).missTicks != 0) (modRec a fun r => { r with missTicks := 0 }),
    whenP ((s.node a).state == .suspect) (setNodeState a .active)]

/-! ### Events of the tree -/

/-- The detail word of Table 04-13. -/
def treeDetail (set reason count port node : Nat) : Nat :=
  set * 2 ^ 31 + reason % 8 * 2 ^ 28 + count % 4096 * 2 ^ 16 + port % 16 * 2 ^ 12 + node % 4096

/-- Post a tree event to I0 and, when another instance owns the node, to that instance. -/
def postOwnerAndI0 (owner code detail : Nat) (status : Nat := 0) : Prog :=
  seqs [postEvent 0 code detail status, whenP (owner != 0) (postEvent owner code detail status)]

/-- The detail word of Table 02-10. -/
def timeDetail (set : Bool) (reason node : Nat) : Nat :=
  (if set then 2 ^ 31 else 0) + reason % 16 * 2 ^ 24 + node % 4096

/-! ### Requests of the tree logic -/

/-- The 16 bytes of a SETUP payload (Table 06-7). -/
def setupBytes (reqType request value index length : Nat) (param : Nat := 0) : List Byte :=
  toBytes reqType 1 ++ toBytes request 1 ++ toBytes value 2 ++ toBytes index 2 ++ toBytes length 2 ++ toBytes param 8

/-- Queue a control transfer of the tree logic on pipe 0 of a node (R188, class 1; R197 for its retry limit). -/
def treeRequest (port node : Nat) (setup : List Byte) (data : List Byte := []) (stamp : Nat := 0) (keep : Bool := false) : Prog :=
  modConv fun u => { u with
    next := u.next + 1
    convs := u.convs ++ [(u.next, {
      port := port, node := node, control := true, stage := .setup, setup := setup, bytes := data, stamp := stamp, keep := keep,
      inbound := bitAt (ofBytes (setup.take 1)) 7, length := ofBytes ((setup.drop 6).take 2), inSeq0 := 1 })] }

/-- The amount in CHR_STEP (R57). -/
def State.stepAmount (s : State) : Int :=
  signedOf (s.fld Fld.CHR_STEP_HI.STEP_HI * 2 ^ 32 + s.fld Fld.CHR_STEP_LO.STEP_LO * 32) 64

/-- The slots that lengthen a tick whose meridian is at a value, so that the following one is on the grid (R26). -/
def extraSlots (value n : Nat) : Nat := (n - value / 32 % n) % n

/-- The chronometer value predicted for the meridian of a tick (R40), from the last meridian, the tick lengths in force and what is latched. -/
def State.predictMeridian (s : State) (t : Nat) : Nat :=
  let n' := if s.chart.latched then s.fld Fld.CHT_TICK_LEN.N else s.fld Fld.CHT_TICK_LEN.ACTIVE_N
  let amount := (if s.chr.stepLatched then s.stepAmount else 0) + (if s.chr.domainLatched then s.chr.domainStep.getD 0 else 0)
  let next := (((s.chr.dueNs : Int) + s.chr.stepSum + amount) % 2 ^ 64).toNat
  let extra := if s.bit Fld.CHR_CTRL.MERID_ALIGN && (s.chr.alignPending || amount != 0 || n' != s.fld Fld.CHT_TICK_LEN.ACTIVE_N)
    then extraSlots next n' else 0
  (next + (if t ≤ s.tick + 1 then 0 else 32 * (n' * (t - s.tick - 1) + extra))) % 2 ^ 64

/-- The lead in ticks of an apply tick whose meridian is at least 100 us and 3 ticks away (R119). -/
def State.applyLead (s : State) : Nat :=
  let t := max 1 (32 * s.fld Fld.CHT_TICK_LEN.ACTIVE_N)
  (s.chr.ns + max 100000 (3 * t) - s.chr.dueNs + t - 1) / t + 1

/-- The data stage of SET_BEARING (Table 06-9). -/
def setBearingData (b : Bearing) (refTick refNs refFrac apply_ : Nat) : List Byte :=
  toBytes b.delayDn 4 ++ toBytes b.advanceUp 4 ++ toBytes refTick 8 ++ toBytes refNs 8 ++ toBytes refFrac 2 ++ toBytes 0 6 ++
    toBytes apply_ 8

/-! ### Leaving -/

/-- No enumeration runs in the tree of a root port: TRE_ENUM_STATE and TRE_STATUS show it. -/
def jobEnds (port : Nat) : Prog :=
  .read fun s =>
    let v := s.fld Fld.TRE_STATUS.ENUMERATING
    seqs [modTreeOf port fun t => { t with job := none }, putN Fld.TRE_ENUM_STATE.STEP port 0,
      put Fld.TRE_STATUS.ENUMERATING (if bitAt v port then v - 2 ^ port else v)]

/-- A request of the tree logic is given up, with its answer. -/
def dropRequest (k : Option Nat) : Prog :=
  modConv fun u => { u with convs := u.convs.filter fun e => some e.1 != k, answers := u.answers.filter fun e => some e.1 != k }

/-- An enumeration stops without an event: an entry still ENUMERATING goes back to what it was (Table 04-9). -/
def stopJob (port : Nat) (j : EnumJob) : Prog :=
  .read fun s => seqs [
    whenP ((s.node j.addr).state == .enumerating && j.addr != 0) (seqs [putNode j.addr j.prior, refreshTree]),
    dropRequest j.conv, jobEnds port]

/-- Whether a location lies at or below another of the same port. -/
def Location.under (l : Location) (tier route : Nat) : Bool := tier ≤ l.tier && l.route % 16 ^ tier == route % 16 ^ tier

/-- Bring TRE_STATUS.ENUM_FAILED of a port up to date. -/
def refreshFailed (p : Nat) : Prog :=
  .read fun s => put Fld.TRE_STATUS.ENUM_FAILED
    (let v := s.fld Fld.TRE_STATUS.ENUM_FAILED
     let rest := if bitAt v p then v - 2 ^ p else v
     if (s.treeOf p).failed.isEmpty then rest else rest + 2 ^ p)

/-- A subtree is gone (R123, R124): its top node takes the reason and every node below ANCESTOR, for removal at the next
meridian; the first reason stands. Locations queued or failed there are forgotten, and an enumeration there stops; a location that the retrain of
R121 takes down stays failed. Not at a standby, whose tables follow the primary's (R431). -/
def subtreeGone (port tier route reason : Nat) : Prog :=
  .read fun s => whenP (!s.standby) (seqs [
    forP (s.subtree port tier route) fun a => modRec a fun r =>
      if r.removal = none then { r with removal := some (if (s.node a).tier = tier then reason else 4) } else r,
    (match (s.treeOf port).job with
      | some j => whenP (j.loc.under tier route) (stopJob port j)
      | none => .skip),
    modTreeOf port fun t => { t with
      queue := t.queue.filter fun l => !l.under tier route
      failed := t.failed.filter fun l => !l.under tier route || (l.tier == tier && t.retrained.contains l)
      retrained := t.retrained.filter fun l => !l.under tier route || l.tier == tier },
    refreshFailed port])

/-! ### Hubs -/

/-- A change of a hub's own part: a device that does what only a hub does is one. -/
def NodeDev.onHub (n : NodeDev) (f : HubState → HubState) : NodeDev := { n with hub := some (f (n.hub.getD {})) }

/-- The hub part of a device. -/
def State.hubOf (s : State) (d : Nat) : HubState := (s.dev d).hub.getD {}

/-- A downstream port of a hub. -/
def HubState.port (h : HubState) (p : Nat) : HubPort := tget {} h.ports p

/-- A hub with one of its ports changed. -/
def HubState.setPort (h : HubState) (p : Nat) (v : HubPort) : HubState := { h with ports := tset {} h.ports p v }

/-- A CHANGE bit is set and SEQ counts on (R110). -/
def HubState.changed (h : HubState) (p : Nat) : HubState := { h with change := h.change ||| 2 ^ p, seq := (h.seq + 1) % 256 }

/-- A FLAGS bit goes from 0 to 1 (R110). -/
def HubState.flag (h : HubState) (b : Nat) : HubState :=
  if bitAt h.flags b then h else { h.changed 0 with flags := h.flags ||| 2 ^ b }

/-- The controller clears CHANGE bits and FLAGS, if SEQ is the hub's own (R110). -/
def HubState.clear (h : HubState) (mask seq : Nat) : HubState :=
  if seq = h.seq then { h with change := h.change - (h.change &&& mask), flags := h.flags / 8 * 8 } else h

/-- The routes that point to a port are cleared (R102, R103). -/
def HubState.unroute (h : HubState) (p : Nat) : HubState := { h with routes := h.routes.filter fun e => e.2 != p }

/-- A port goes to DOWN (R102, R103, R110): its routes are cleared and the change is shown. -/
def HubState.down (h : HubState) (p : Nat) : HubState :=
  if (h.port p).state = .down then h
  else ((h.unroute p).setPort p { h.port p with state := .down, gate := false, valid := false, fix := {} }).changed p

/-- Whether a device is a hub: its descriptor says so, or it does what a hub does. -/
def NodeDev.isHub (n : NodeDev) : Bool := n.hub.isSome || bitAt (ofBytes ((n.desc.drop 18).take 1)) 3

/-- What a node forgets when its upstream link leaves UP (R121): its address, bearing, configuration and counters. A hub takes every downstream
port to DOWN and clears its route table (R103). -/
def NodeDev.forget (n : NodeDev) : NodeDev :=
  { n with
    addr := 0, marker := none, timeValid := false, bearing := none, bearingNext := none, config := none, configNext := none, pipes := []
    busy := [], request := [], answer := [], answerStatus := 0, finished := false, refused := false, pendingAddr := 0, oweNak := false
    hub := n.hub.map fun h => { ((List.range 15).foldl (fun h p => h.down (p + 1)) h) with routes := [] } }

end Sys2Proof.Machine
end

