-- ==== Sys2Proof/Machine/Chart.lean ====
section
/-! DEFINITION. The chart: entries and their slots (R143 to R148, R151), the whole-shadow check (R155), editing, committing and handing
over (R153 to R159), admission (R161 to R164), and the commands that do so. -/

namespace Sys2Proof.Machine

/-! ### Entries -/

/-- A chart entry from its four words (Table 05-3). -/
def ChartEntry.ofWords (w0 w1 w2 w3 : Nat) : ChartEntry :=
  { dup := bitAt w0 31, hold := bitsAt w0 29 2, port := bitsAt w0 25 4, len := bitsAt w0 16 9, inbound := bitAt w0 15
    start := bitsAt w0 0 15, valid := bitAt w1 31, owner := bitsAt w1 17 12, pipe := bitsAt w1 12 5, node := bitsAt w1 0 12
    dupOffset := bitsAt w2 24 8, phase := bitsAt w2 15 9, k := bitsAt w2 11 4, payload := bitsAt w2 0 11
    piOffset := bitsAt w3 12 20, trigger := bitsAt w3 0 12 }

/-- A word of a chart entry (Table 05-3). -/
def ChartEntry.word (e : ChartEntry) (i : Nat) : Nat :=
  let b (x : Bool) := if x then 1 else 0
  if i = 0 then b e.dup * 2 ^ 31 + e.hold % 4 * 2 ^ 29 + e.port % 16 * 2 ^ 25 + e.len % 512 * 2 ^ 16 + b e.inbound * 2 ^ 15 +
    e.start % 2 ^ 15
  else if i = 1 then b e.valid * 2 ^ 31 + e.owner % 4096 * 2 ^ 17 + e.pipe % 32 * 2 ^ 12 + e.node % 4096
  else if i = 2 then e.dupOffset % 256 * 2 ^ 24 + e.phase % 512 * 2 ^ 15 + e.k % 16 * 2 ^ 11 + e.payload % 2048
  else e.piOffset % 2 ^ 20 * 2 ^ 12 + e.trigger % 4096

/-- An entry with one of its words written. -/
def ChartEntry.setWord (e : ChartEntry) (i v : Nat) : ChartEntry :=
  let w (k : Nat) := if k = i then v else e.word k
  .ofWords (w 0) (w 1) (w 2) (w 3)

/-- Whether a leg is active in a tick (R144). -/
def ChartEntry.activeIn (e : ChartEntry) (n : Nat) : Bool := e.valid && n % 2 ^ e.k == e.phase

/-- The slots of a leg's copies, each as its first slot and the slot after its last (R144). -/
def ChartEntry.copies (e : ChartEntry) : List (Nat × Nat) :=
  (e.start, e.start + e.len) ::
    (if e.dup then [(e.start + e.dupOffset, e.start + e.dupOffset + e.len)] else [])

/-- The slot after the last of an entry's last copy. -/
def ChartEntry.endSlot (e : ChartEntry) : Nat := (e.copies.map (·.2)).foldl max 0

/-- The slots an entry reserves in a tick in which it is active (R146). -/
def ChartEntry.reserved (e : ChartEntry) : Nat := if e.dup then 2 * e.len else e.len

/-- Whether two ranges share a slot. -/
def rangesMeet (a b : Nat × Nat) : Bool := max a.1 b.1 < min a.2 b.2

/-- Whether two legs conflict (R145). -/
def ChartEntry.conflict (a b : ChartEntry) : Bool :=
  a.port == b.port && a.inbound == b.inbound && a.phase % 2 ^ min a.k b.k == b.phase % 2 ^ min a.k b.k &&
    a.copies.any fun x => b.copies.any fun y => rangesMeet x y

/-- PAYLOAD rounded up to a multiple of 32 (R159). -/
def ChartEntry.p32 (e : ChartEntry) : Nat := (e.payload + 31) / 32 * 32

/-- Leg-buffer bytes of an entry (R159). -/
def ChartEntry.buffer (e : ChartEntry) : Nat := if e.inbound then e.p32 else 4 * e.p32

/-! ### Banks -/

/-- A bank: 0 is A, 1 is B. -/
def State.bank (s : State) (b : Nat) : List (Nat × ChartEntry) := if b = 0 then s.chart.bankA else s.chart.bankB
/-- The safe values of a bank. -/
def State.safes (s : State) (b : Nat) : List (Nat × List Byte) := if b = 0 then s.chart.safeA else s.chart.safeB
/-- The bank that drives the executor. -/
def State.activeIdx (s : State) : Nat := s.fld Fld.CHT_STATUS.ACTIVE_BANK
/-- The other bank. -/
def State.shadowIdx (s : State) : Nat := 1 - s.activeIdx
/-- An entry of the active bank. -/
def State.entry (s : State) (i : Nat) : ChartEntry := tget {} (s.bank s.activeIdx) i
/-- An entry of the shadow. -/
def State.shadowEntry (s : State) (i : Nat) : ChartEntry := tget {} (s.bank s.shadowIdx) i
/-- Replace a bank. -/
def setBank (b : Nat) (m : List (Nat × ChartEntry)) : Prog :=
  modChart fun c => if b = 0 then { c with bankA := m } else { c with bankB := m }
/-- Replace a bank's safe values. -/
def setSafes (b : Nat) (m : List (Nat × List Byte)) : Prog :=
  modChart fun c => if b = 0 then { c with safeA := m } else { c with safeB := m }
/-- The 16 bytes of an entry (Table 05-3). -/
def ChartEntry.bytes (e : ChartEntry) : List Byte := (List.range 4).flatMap fun i => toBytes (e.word i) 4
/-- Write an entry of the shadow; a primary mirrors it (R429). -/
def putShadow (i : Nat) (e : ChartEntry) : Prog :=
  .read fun s => seqs [setBank s.shadowIdx (tset {} (s.bank s.shadowIdx) i e), mirrorNote 3 i e.bytes]
/-- Write a safe value of the shadow; a primary mirrors it (R429). -/
def putSafe (i : Nat) (v : List Byte) : Prog :=
  .read fun s => seqs [setSafes s.shadowIdx (tset [] (s.safes s.shadowIdx) i v), mirrorNote 4 i v]
/-- The legs of a bank. -/
def legsOf (bank : List (Nat × ChartEntry)) : List (Nat × ChartEntry) := bank.filter fun e => e.2.valid
/-- The legs of the active bank. -/
def State.legs (s : State) : List (Nat × ChartEntry) := legsOf (s.bank s.activeIdx)
/-- The safe value of an entry: bytes never written are 0x00 (R166). -/
def safeValue (m : List (Nat × List Byte)) (i len : Nat) : List Byte :=
  let v := tget [] m i
  (v ++ List.replicate len 0).take len

/-! ### The check of the shadow -/

/-- The reserve of a port: PERCENT above 95 acts as 95 (R146). -/
def State.reserveLimit (s : State) (port n : Nat) : Nat := n * min 95 (s.fld Fld.CHT_RESERVE.PERCENT port) / 100

/-- The slots reserved by legs in a residue of 512. -/
def reservedIn (legs : List (Nat × ChartEntry)) (r : Nat) : Nat :=
  ((legs.filter fun e => e.2.activeIn r).map fun e => e.2.reserved).foldl (· + ·) 0

/-- The legs of a port and direction. -/
def portLegs (legs : List (Nat × ChartEntry)) (port : Nat) (inbound : Bool) : List (Nat × ChartEntry) :=
  legs.filter fun e => e.2.port == port && e.2.inbound == inbound

/-- The entry to which a broken reserve of a port and direction is attributed (R155). -/
def State.reserveFails (s : State) (legs : List (Nat × ChartEntry)) (n port : Nat) (inbound : Bool) : Option Nat :=
  let l := portLegs legs port inbound
  match (List.range 512).find? fun r => reservedIn l r > s.reserveLimit port n with
  | none => none
  | some r => (l.find? fun e => e.2.activeIn r).map (·.1)

/-- Half of an integer, rounded to the nearest, halves upward. -/
def half (x : Int) : Int := (x + 1) / 2

/-- dn and up of a link of a given round and asymmetry (R35), in 2^-16 ns. -/
def LinkFix.delays (round : Nat) (asym : Int) : Int × Int := (half (round + asym), half (round - asym))

/-- Key of the fix record of a node's upstream link: its root port, or 32 plus its address behind a hub. -/
def State.fixKey (s : State) (a : Nat) : Nat := if (s.node a).tier = 0 then (s.node a).port else 32 + a

/-- The wire delay of a node's own link, downstream, in 2^-16 ns. -/
def State.linkDn (s : State) (a : Nat) : Nat :=
  (s.bearing a).delayDn - (match s.parentOf a with
    | some h => (s.bearing h).delayDn
    | none => 0)

/-- When the marker reaches a node after the meridian: at once down the wire for t = 0, and for a legacy node behind a hub
2,048 ns later (R150, R151), in 2^-16 ns. -/
def State.legacyLead (s : State) (a : Nat) : Nat :=
  if (s.node a).tier = 0 then (s.bearing a).delayDn else 2048 * 65536 + s.linkDn a

/-- Ceiling of a quotient of integers. -/
def ceilDiv (a : Int) (b : Nat) : Int := -((-a) / (b : Int))

/-- The local start slot s of a legacy node's inbound leg (R151). -/
def State.legacyStart (s : State) (a start : Nat) : Int :=
  ceilDiv (32 * 65536 * start - s.legacyLead a - (s.bearing a).advanceUp) (32 * 65536)

/-- Whether a leg meets R148 and R151 for its node. -/
def State.legFits (s : State) (e : ChartEntry) : Bool :=
  let legacyIn := e.inbound && (s.node e.node).legacy
  e.len ≥ frameSlots (s.pathGen e.node) e.payload + (if legacyIn then 1 else 0) &&
    (!legacyIn || decide (1 ≤ s.legacyStart e.node e.start))

/-- Reason RANGE of Table 05-6. -/
def ChartEntry.rangeBad (e : ChartEntry) (n : Nat) : Bool := e.start == 0 || e.len == 0 || decide (e.endSlot > n)
/-- Reason FIELD of Table 05-6. -/
def ChartEntry.fieldBad (e : ChartEntry) : Bool :=
  decide (e.payload > 1024) || decide (e.k > 9) || decide (e.phase ≥ 2 ^ e.k) || e.hold == 3 || e.node == 0 || e.node == 4095 ||
    (e.dup && decide (e.dupOffset < e.len))

/-- The lowest reason an entry fails, 0 for none (R155, Table 05-6). -/
def State.entryReason (s : State) (legs : List (Nat × ChartEntry)) (n i : Nat) (e : ChartEntry) : Nat :=
  if e.rangeBad n then 1
  else if e.fieldBad then 2
  else if legs.any fun o => o.1 != i && e.conflict o.2 then 3
  else if s.reserveFails legs n e.port e.inbound = some i then 4
  else if (legs.filter fun o => o.1 < i && o.2.port == e.port).length ≥ 4096 then 5
  else if (s.node e.node).state.present && !s.legFits e then 6
  else 0

/-- The slowest generation on the path of any present node (R138). -/
def State.slowest (s : State) : Nat :=
  ((s.tree.nodes.filter fun e => e.2.state.present).map fun e => s.pathGen e.1).foldl min 3

/-- The check of a whole chart: its reason and index (R155). -/
def State.checkChart (s : State) (bank : List (Nat × ChartEntry)) (n : Nat) : Nat × Nat :=
  let legs := legsOf bank
  if n < 64 ∨ n > 31250 ∨ n < minTick s.slowest then (7, 0)
  else if (legs.map fun e => e.2.buffer).foldl (· + ·) 0 > 2 * 1024 * 1024 then (8, 0)
  else match legs.findSome? fun e =>
      let r := s.entryReason legs n e.1 e.2
      if r = 0 then none else some (r, e.1) with
    | some x => x
    | none => (0, 0)

/-- Check the shadow and show the result (R155). -/
def refreshShadow : Prog :=
  .read fun s =>
    let bank := s.bank s.shadowIdx
    let c := s.checkChart bank (s.fld Fld.CHT_TICK_LEN.N)
    seqs [put Fld.CHT_STATUS.SHADOW_VALID (if c.1 = 0 then 1 else 0), put Fld.CHT_CHECK.REASON c.1, put Fld.CHT_CHECK.INDEX c.2,
      put Fld.CHT_COUNT.SHADOW (legsOf bank).length,
      put Fld.CHT_LEG_BUF.BYTES (((legsOf bank).map fun e => e.2.buffer).foldl (· + ·) 0)]

/-- CHT_CHECK as a word. -/
def State.checkWord (s : State) : Nat := s.fld Fld.CHT_CHECK.REASON * 2 ^ 28 + s.fld Fld.CHT_CHECK.INDEX

/-! ### Replay and hand-over -/

/-- A primary mirrors the entries and safe values that a discard returns to those of the active bank (notes/assumptions/62). -/
def noteDiscard : Prog :=
  .read fun s => forP (((s.bank 0).map (·.1)) ++ ((s.bank 1).map (·.1)).filter fun i => !((s.bank 0).map (·.1)).contains i) fun i =>
    seqs [whenP (s.entry i != s.shadowEntry i) (mirrorNote 3 i (s.entry i).bytes),
      whenP (tget [] (s.safes 0) i != tget [] (s.safes 1) i)
        (mirrorNote 4 i (safeValue (s.safes s.activeIdx) i (s.entry i).payload))]

/-- The entries and safe values in which the banks differ. -/
def State.changedEntries (s : State) : Nat :=
  (((s.chart.bankA ++ s.chart.bankB).map (·.1) ++ (s.chart.safeA ++ s.chart.safeB).map (·.1)).dedup.filter fun i =>
    tget {} s.chart.bankA i != tget {} s.chart.bankB i || tget [] s.chart.safeA i != tget [] s.chart.safeB i).length

/-- A replay starts, at 1 ns per changed entry (R158). -/
def startReplay : Prog :=
  .read fun s => seqs [raise Fld.CHT_STATUS.REPLAYING, modChart fun c => { c with replayEnd := s.chr.ns + s.changedEntries }]

/-- The edits are discarded: the shadow is to equal the active bank, with N and the reserves in force (R154, R163). -/
def discardEdits : Prog :=
  .read fun s => seqs [noteDiscard, startReplay, put Fld.CHT_TICK_LEN.N (s.fld Fld.CHT_TICK_LEN.ACTIVE_N),
    forP (List.range 16) fun p => putN Fld.CHT_RESERVE.PERCENT p (tget 85 s.chart.reserveActive p)]

/-- The end of a replay (R158). An access to the shadowed set stalls until then, and then completes. -/
def replayDone : Prog :=
  .read fun s => whenP (s.bit Fld.CHT_STATUS.REPLAYING) (seqs [
    advanceTo s.chart.replayEnd, setBank s.shadowIdx (s.bank s.activeIdx), setSafes s.shadowIdx (s.safes s.activeIdx), clear Fld.CHT_STATUS.REPLAYING,
    refreshShadow])

/-- REPLAY_DONE (R158). -/
def execReplayDone (s : State) : Out := finish (atNs s.chart.replayEnd replayDone) s

/-- The slots of a port and direction reserved most in any tick (Table 05-24). -/
def peakOf (legs : List (Nat × ChartEntry)) (port : Nat) (inbound : Bool) : Nat :=
  let l := portLegs legs port inbound
  if l.isEmpty then 0 else ((List.range 512).map (reservedIn l)).foldl max 0

/-- What a hand-over does to the record of an entry (R159): an entry that enters anew starts with an empty record, a changed
PAYLOAD or PI_OFFSET makes a staged payload count as not supplied. -/
def relegate (i : Nat) (old new : ChartEntry) : Prog :=
  if new.valid && (!old.valid || old.port != new.port || old.node != new.node || old.pipe != new.pipe ||
      old.inbound != new.inbound || old.payload != new.payload) then modLeg i fun _ => {}
  else if new.valid && old.piOffset != new.piOffset then modLeg i fun r => { r with buf0 := none, buf1 := none }
  else .skip

/-- The detail word of Table 05-7. -/
def State.commitDetail (s : State) : Nat := s.fld Fld.CHT_STATUS.ACTIVE_BANK * 2 ^ 31 + s.fld Fld.CHT_COMMIT_SEQ.SEQ

/-- A chart index and its entry of both banks. -/
def State.bothIndices (s : State) : List Nat :=
  let a := s.chart.bankA.map (·.1)
  a ++ (s.chart.bankB.map (·.1)).filter fun i => !a.contains i

/-- Where an admission or release of a batch stands: its request, whether it admits, and the index, START and PHASE. A request of
the tree logic for a hub's status leg (R112) is its node's number plus 2^40; others are tags. -/
def hubRequest (a : Nat) : Nat := 2 ^ 40 + a

/-- The placed requests of a batch complete with a status: RESULT and AUX are those of ADMIT (Table 09-7). -/
def completeBatch (status : Nat) : Prog :=
  .read fun s => seqs [
    modChart fun c => { c with admitBatch := [] }, put Fld.CHT_ADMIT.BUSY 0,
    forP s.chart.admitBatch fun t =>
      if t ≥ 2 ^ 40 then .skip
      else match s.cmd t with
        | none => .skip
        | some c =>
          if c.opcode = 0x10 ∧ status = St.success then
            let e := s.shadowEntry c.progress
            complete t status (e.start + e.phase * 2 ^ 16) c.progress
          else complete t status]

/-- The hand-over of the chart (R158): banks swap, the record of every changed entry follows R159, CHART_COMMITTED is posted and the
replay starts. Requests placed in the batch complete (R163), and a CHART_EDIT COMMIT (R312). -/
def chartHandover : Prog :=
  .read fun s => seqs [
    completeBatch St.success,
    forP s.bothIndices fun i => relegate i (s.entry i) (s.shadowEntry i),
    put Fld.CHT_STATUS.ACTIVE_BANK s.shadowIdx, clear Fld.CHT_CTRL.EDIT_OPEN, clear Fld.CHT_STATUS.PENDING,
    modChart fun c => { c with
      latched := false
      reserveActive := (List.range 16).foldl (fun m p => tset 85 m p (s.fld Fld.CHT_RESERVE.PERCENT p)) c.reserveActive },
    put Fld.CHT_COMMIT_SEQ.SEQ ((s.fld Fld.CHT_COMMIT_SEQ.SEQ + 1) % 65536),
    put Fld.CHT_TICK_LEN.ACTIVE_N (s.fld Fld.CHT_TICK_LEN.N),
    whenP (s.fld Fld.CHT_TICK_LEN.N != s.fld Fld.CHT_TICK_LEN.ACTIVE_N && s.bit Fld.CHR_CTRL.MERID_ALIGN)
      (modChr fun c => { c with alignPending := true }),
    startReplay, raise Fld.CHT_EVENT.COMMITTED,
    put Fld.CHT_COUNT.ACTIVE (legsOf (s.bank s.shadowIdx)).length,
    forP (List.range 16) fun p => seqs [
      putN Fld.CHT_PEAK.OUT_PEAK p (peakOf (legsOf (s.bank s.shadowIdx)) p false),
      putN Fld.CHT_PEAK.IN_PEAK p (peakOf (legsOf (s.bank s.shadowIdx)) p true)],
    .read fun t => seqs [
      postEvent 0 Ev.chartCommitted t.commitDetail,
      (match s.chart.commitTag with
        | some tag => complete tag St.success t.commitDetail
        | none => .skip)],
    modChart fun c => { c with commitTag := none }]

/-- A COMMIT is refused (R156); the placed requests of a batch complete with BAD_ENTRY and the shadow is restored (R163). -/
def commitRefused : Prog :=
  .read fun s => seqs [
    clear Fld.CHT_STATUS.PENDING, raise Fld.CHT_STATUS.COMMIT_REFUSED, raise Fld.CHT_EVENT.REFUSED,
    modChart fun c => { c with latched := false, commitTag := none },
    (match s.chart.commitTag with
      | some tag => complete tag St.badEntry s.checkWord
      | none => .skip),
    whenP (!s.chart.admitBatch.isEmpty) (seqs [completeBatch St.badEntry, discardEdits])]

/-- CHT_COMMIT.COMMIT (R156), with the CHART_EDIT tag that waits for it. Every write has been checked when its command ends (R155), so an accepted
COMMIT hands over (notes/assumptions/18). -/
def chartCommit (tag : Option Nat) : Prog :=
  seqs [replayDone, .read fun s =>
    if s.bit Fld.CHT_STATUS.PENDING then .skip
    else if s.bit Fld.CHT_STATUS.SHADOW_VALID then
      seqs [raise Fld.CHT_STATUS.PENDING, modChart fun c => { c with commitTag := tag, dueNs := s.chr.ns + 1000 },
        mirrorNote 5 0 (toBytes ((s.fld Fld.CHT_COMMIT_SEQ.SEQ + 1) % 65536) 2 ++ toBytes 0 2)]
    else seqs [modChart fun c => { c with commitTag := tag }, commitRefused]]

/-- CHT_COMMIT (R156). -/
def execChtCommit (s : State) : Out := finish (chartCommit none) s

/-! ### Editing -/

/-- A write of EDIT_OPEN (R154, R157): ignored while a COMMIT is pending; 0 without COMMIT discards the edits. -/
def writeEditOpen (v : Bool) : Prog :=
  seqs [replayDone, .read fun s =>
    if s.bit Fld.CHT_STATUS.PENDING then whenP (s.bit Fld.CHT_CTRL.EDIT_OPEN != v) (raise Fld.CHT_STATUS.SHADOW_BUSY)
    else if v then raise Fld.CHT_CTRL.EDIT_OPEN
    else whenP (s.bit Fld.CHT_CTRL.EDIT_OPEN) (seqs [clear Fld.CHT_CTRL.EDIT_OPEN, discardEdits])]

/-- CHT_EDIT_OPEN (R154). -/
def execChtEditOpen (s : State) : Out := finish (writeEditOpen true) s

/-- CHT_EDIT_CLOSE (R154). -/
def execChtEditClose (s : State) : Out := finish (writeEditOpen false) s

/-- A write to the shadowed set (R153 to R157): it stalls through a replay, is ignored while EDIT_OPEN is 0 or a COMMIT is pending,
and is followed by the check of R155. `busy` is whether the write sets SHADOW_BUSY while locked. -/
def shadowedWrite (busy : Bool) (p : Prog) : Prog :=
  seqs [replayDone, .read fun s =>
    if s.bit Fld.CHT_STATUS.PENDING then seqs [whenP busy (raise Fld.CHT_STATUS.SHADOW_BUSY),
      whenP (!s.bit Fld.CHT_CTRL.EDIT_OPEN) (raise Fld.CHT_STATUS.EDIT_CLOSED)]
    else if !s.bit Fld.CHT_CTRL.EDIT_OPEN then raise Fld.CHT_STATUS.EDIT_CLOSED
    else seqs [p, refreshShadow]]

/-- The target of a write to the chart's shadowed set: a word of a shadow entry, N, or a port's PERCENT. -/
def shadowTarget (what idx word v : Nat) : Prog :=
  if what = 0 then .read fun s => putShadow (idx % 16384) ((s.shadowEntry (idx % 16384)).setWord (word % 4) (v % 2 ^ 32))
  else if what = 1 then put Fld.CHT_TICK_LEN.N v
  else putN Fld.CHT_RESERVE.PERCENT (idx % 16) v

/-- SHADOW_WRITE (R155): `what` is 0 for word `word` of shadow entry `idx`, 1 for N of CHT_TICK_LEN, 2 for PERCENT of
CHT_RESERVE[idx]. A locked write of N or PERCENT sets SHADOW_BUSY only with another value (Table 00-6). -/
def shadowWrite (what idx word v : Nat) : Prog :=
  .read fun s =>
    shadowedWrite (if what = 0 then true else if what = 1 then s.fld Fld.CHT_TICK_LEN.N != v % 2 ^ 15
      else s.fld Fld.CHT_RESERVE.PERCENT (idx % 16) != v % 2 ^ 7) (shadowTarget what idx word v)
/-- SHADOW_WRITE (R155). -/
def execShadowWrite (what idx word v : Nat) (s : State) : Out := finish (shadowWrite what idx word v) s

/-- Four bytes of a safe value written; bytes at or beyond PAYLOAD ignore the write (R526). -/
def writeSafeWord (i off v : Nat) : Prog :=
  .read fun s =>
    let len := (s.shadowEntry i).payload
    let old := safeValue (s.safes s.shadowIdx) i len
    putSafe i ((old.take off ++ toBytes v 4 ++ old.drop (off + 4)).take len)

/-- SAFE_VALUE_WRITE (R526): a 32-bit write at an offset of the safe-value aperture. -/
def safeWrite (off v : Nat) : Prog :=
  .read fun s =>
    let i := s.fld Fld.GBL_WIN_SAFE.ENTRY
    whenP (!s.bit Fld.GBL_WIN_SAFE.BANK && off + 4 ≤ 1024 && off % 4 == 0)
      (shadowedWrite true (whenP (decide (off < (s.shadowEntry i).payload)) (writeSafeWord i off v)))
/-- SAFE_VALUE_WRITE (R526). -/
def execSafeValueWrite (off v : Nat) (s : State) : Out := finish (safeWrite off v) s

/-! ### Running -/

/-- The first multiple of a step at or above a value. -/
def nextMultiple (v step : Nat) : Nat := (v + step - 1) / step * step

/-- The chart's first meridian (R26): at a slot boundary, or on the grid, at least 2,048 ns after RUN was written and after the hand-over of a
pending COMMIT. -/
def planFirst : Prog :=
  .read fun s =>
    let pending := s.bit Fld.CHT_STATUS.PENDING
    let n := if pending then s.fld Fld.CHT_TICK_LEN.N else s.fld Fld.CHT_TICK_LEN.ACTIVE_N
    let earliest := max (s.chr.runAt + 2048) (if pending then max s.chr.ns (s.chart.dueNs + 1) else s.chr.ns)
    whenP s.chr.runDue (modChr fun c => { c with
      dueNs := s.chr.ns + (nextMultiple (s.chron + (earliest - s.chr.ns))
        (if s.bit Fld.CHR_CTRL.MERID_ALIGN then 32 * n else 32) - s.chron) })

/-- Whether every root-port link has been fixed again since a wake (R59): one that trains is waited for until its first attempt fails, and one
that is switched off is none. DESIGN CHOICE (notes/assumptions/25). -/
def State.linksFixed (s : State) : Bool :=
  (List.range 16).all fun p => (s.fixOf p).filtered.isSome ||
    (s.fld Fld.LNK_STATUS.STATE p == 0 || decide (9 ≤ s.fld Fld.LNK_STATUS.STATE p) || s.fld Fld.LNK_STATUS.ATTEMPTS p != 0)

/-- The executor starts (R26), unless it runs or is about to; after a wake once the links are fixed again (R59). -/
def startRun : Prog :=
  .read fun s => whenP (!s.bit Fld.CHT_STATUS.RUNNING && !s.chr.runDue) (
    if s.chr.wakeFix && !s.linksFixed then modChr fun c => { c with startDue := true }
    else seqs [modChr fun c => { c with
      runDue := true, wakeFix := false, startDue := false, runAt := c.ns + (if c.frac = 0 then 0 else 1) }, planFirst])

/-- A start that waits for the links of a wake takes place once they are fixed (R59). -/
def wakeFixed : Prog := .read fun s => whenP (s.chr.startDue && s.linksFixed) startRun

/-- No tick runs any more (R26, R407); RUN keeps its value. -/
def stopTicks : Prog := seqs [clear Fld.CHT_STATUS.RUNNING, modChr fun c => { c with runDue := false, startDue := false }]

/-- A write of RUN (R26): 0 stops the executor at the next meridian. A standby runs its primary's ticks (R431). -/
def writeRun (run : Bool) : Prog :=
  seqs [put Fld.CHT_CTRL.RUN (if run then 1 else 0),
    .read fun s => whenP (!s.standby) (if run then startRun else modChr fun c => { c with runDue := false, startDue := false })]

/-- CHT_RUN (R26). -/
def execChtRun (run : Bool) (s : State) : Out := finish (writeRun run) s

/-! ### Admission -/

/-- Whether an entry's fields pass check 1 of Table 05-8. -/
def ChartEntry.admissible (e : ChartEntry) (search : Bool) (earliest latest n : Nat) : Bool :=
  !(decide (e.payload > 1024) || decide (e.k > 9) || e.hold == 3 || e.node == 0 || e.node == 4095 || e.len == 0 ||
      (e.dup && decide (e.dupOffset < e.len))) &&
    (if search then decide (1 ≤ earliest ∧ earliest ≤ latest ∧ latest ≤ n - 1)
     else !e.rangeBad n && decide (e.phase < 2 ^ e.k))

/-- The placement of a leg free of conflict: the given one, or the lowest START in the window and then the lowest PHASE (R162). -/
def placement (legs : List (Nat × ChartEntry)) (fits : ChartEntry → Bool) (e : ChartEntry) (search : Bool) (earliest latest n : Nat) :
    Option (Nat × Nat) :=
  let free (st ph : Nat) : Bool :=
    let x := { e with start := st, phase := ph }
    x.endSlot ≤ n && fits x && !legs.any fun o => x.conflict o.2
  if search then
    ((List.range (latest + 1 - earliest)).map (· + earliest)).findSome? fun st =>
      if { e with start := st }.endSlot > latest + 1 then none
      else ((List.range (2 ^ e.k)).find? (free st)).map fun ph => (st, ph)
  else if free e.start e.phase then some (e.start, e.phase) else none

/-- Check 7: the reserve holds in every tick in which the placed leg is active (R146). -/
def State.reserveOk (s : State) (legs : List (Nat × ChartEntry)) (e : ChartEntry) (n : Nat) : Bool :=
  let l := portLegs legs e.port e.inbound
  (List.range 512).all fun r => !e.activeIn r || decide (reservedIn l r + e.reserved ≤ s.reserveLimit e.port n)

/-- The lowest chart index whose shadow entry is not a leg. -/
def freeIndex (legs : List (Nat × ChartEntry)) : Nat :=
  ((List.range (legs.length + 1)).find? fun i => !legs.any fun o => o.1 == i).getD 0

/-- The checks of Table 05-8 in order: the status of a refusal, or the index, START and PHASE. -/
def State.admitChecks (s : State) (owner : Nat) (entry : ChartEntry) (search : Bool) (earliest latest : Nat) :
    Except Nat (Nat × Nat × Nat) :=
  let e := { entry with valid := true, owner := owner }
  let n := s.fld Fld.CHT_TICK_LEN.N
  let legs := legsOf (s.bank s.shadowIdx)
  let present := (s.node e.node).state.present
  if !e.admissible search earliest latest n then .error St.badEntry
  else if present && !s.legFits (if search then { e with start := latest } else e) then .error St.badEntry
  else if present && decide (n < minTick (s.pathGen e.node)) then .error St.unsupported
  else if (legs.filter fun o => o.2.owner == owner).length ≥ min 16384 (s.fld Fld.INS_SHARE_LEG.LEG_QUOTA owner) then
    .error St.noSlots
  else if (legs.filter fun o => o.2.port == e.port).length ≥ 4096 ∨ legs.length ≥ 16384 then .error St.noSlots
  else match placement legs (fun x => !present || s.legFits x) e search earliest latest n with
    | none => .error St.noSlots
    | some (st, ph) =>
      let x := { e with start := st, phase := ph }
      if !s.reserveOk legs x n then .error St.noSlots
      else if (legs.map fun o => o.2.buffer).foldl (· + ·) 0 + e.buffer > 2 * 1024 * 1024 then .error St.noSlots
      else .ok (freeIndex legs, st, ph)

/-- Write a placed leg and its safe value into the shadow. -/
def placeLeg (owner i st ph : Nat) (entry : ChartEntry) (safe : List Byte) : Prog :=
  .read fun s => seqs [putShadow i { entry with valid := true, owner := owner, start := st, phase := ph },
    putSafe i safe]

/-- The chart entry that a hub's status leg is admitted as (R164). -/
def State.hubLeg (s : State) (a : Nat) : ChartEntry :=
  let k := min 9 (s.fld Fld.TRE_CFG.HUB_INTERVAL)
  let e := s.node a
  { hold := 2, port := e.port, len := frameSlots (s.pathGen a) 8 + (if e.legacy then 1 else 0), inbound := true, node := a
    payload := 8, k := k, piOffset := 0xFFFFF }

/-- The chart entry that an ADMIT command carries in bytes 16 to 31. -/
def Cmd.entry (c : Cmd) : ChartEntry := .ofWords (c.at 16 4) (c.at 20 4) (c.at 24 4) (c.at 28 4)

/-- One request of a batch: placed in the shadow, or refused and completed at once (R161 to R163). -/
def batchOne (t : Nat) : Prog :=
  .read fun s =>
    let placed := modChart fun c => { c with admitBatch := c.admitBatch ++ [t] }
    if t ≥ 2 ^ 40 then
      let a := t - 2 ^ 40
      match s.admitChecks 0 (s.hubLeg a) true 1 (s.fld Fld.CHT_TICK_LEN.N - 1) with
      | .ok (i, st, ph) => seqs [placeLeg 0 i st ph (s.hubLeg a) [], placed]
      | .error e => modTreeOf (s.node a).port fun x => { x with job := x.job.map fun j => { j with status := e } }
    else match s.cmd t with
      | none => .skip
      | some c =>
        if c.opcode = 0x10 then
          match s.admitChecks c.ins c.entry (c.at 4 1 == 1) (c.at 8 2) (c.at 10 2) with
          | .error e => complete t e
          | .ok (i, st, ph) => seqs [
              whenP (c.at 40 8 != 0) (hostRead (s.insFn c.ins) (s.queuePasid c.ins) (c.at 40 8) c.entry.payload),
              placeLeg c.ins i st ph c.entry (if c.at 40 8 = 0 then [] else readBytes memDefault s.host (c.at 40 8) c.entry.payload),
              running t i, placed]
        else
          let i := c.at 8 2
          if (s.shadowEntry i).valid && (s.shadowEntry i).owner == c.ins then seqs [putShadow i {}, running t i, placed]
          else complete t St.badEntry

/-- A request waits for the next batch (R161). -/
def admitWaits (t : Nat) : Prog :=
  seqs [modChart fun c => { c with admitWait := c.admitWait ++ [t] },
    .read fun s => put Fld.CHT_ADMIT.WAITING (min 8191 s.chart.admitWait.length)]

/-- A fetched ADMIT or RELEASE waits for its batch (R161, R162); a safe value that the function cannot read ends it (R312). -/
def admitRequest (tag : Nat) (c : Cmd) : Prog :=
  .read fun s =>
    if c.opcode = 0x10 ∧ c.at 40 8 ≠ 0 ∧ !s.canIssue (s.insFn c.ins) then complete tag St.dmaReadFault
    else seqs [running tag, admitWaits tag]

/-- The requests that wait, in the order of their fetch (R161). -/
def State.admitOrder (s : State) : List Nat :=
  s.chart.admitWait.filter (2 ^ 40 ≤ ·) ++ (s.q.cmds.map (·.1)).filter s.chart.admitWait.contains

/-- ADMIT_BATCH (R161): a batch of every request fetched so far is written into the shadow and committed. -/
def admitBatch : Prog :=
  seqs [replayDone, .read fun s =>
    whenP (s.bit Fld.CHT_CTRL.ADMIT_EN && !s.bit Fld.CHT_CTRL.EDIT_OPEN && !s.bit Fld.CHT_STATUS.PENDING) (seqs [
      forP (s.q.cmds.filter fun e => e.2.stage == .ready && (e.2.opcode == 0x10 || e.2.opcode == 0x11)) fun e => admitRequest e.1 e.2,
      .read fun t => whenP (!t.chart.admitWait.isEmpty) (seqs [
        modChart fun c => { c with admitWait := [] }, put Fld.CHT_ADMIT.WAITING 0,
        forP t.admitOrder batchOne, refreshShadow,
        .read fun t => whenP (!t.chart.admitBatch.isEmpty) (seqs [put Fld.CHT_ADMIT.BUSY 1, chartCommit none])])])]

/-- ADMIT_BATCH (R161). -/
def execAdmitBatch (s : State) : Out := finish admitBatch s

/-- ADMIT (R162). -/
def execAdmitLeg (tag : Nat) (s : State) : Out := finish (withCmd tag 0x10 (admitRequest tag)) s

/-- RELEASE (R163). -/
def execRelease (tag : Nat) (s : State) : Out := finish (withCmd tag 0x11 (admitRequest tag)) s

/-! ### CHART_EDIT -/

/-- A CHART_EDIT action (R312): after a stall through the replay, SHADOW_BUSY while a COMMIT is pending. -/
def chartEdit (tag action : Nat) (k : Cmd → Prog) : Prog :=
  withAction tag 0x12 4 action fun c => seqs [replayDone, .read fun s =>
    if s.bit Fld.CHT_STATUS.PENDING then complete tag St.shadowBusy else k c]

/-- A CHART_EDIT write: BAD_ENTRY with EDIT_CLOSED while EDIT_OPEN is 0; RESULT is CHT_CHECK after its check (R312). -/
def chartEditWrite (tag : Nat) (p : Prog) : Prog :=
  .read fun s =>
    if !s.bit Fld.CHT_CTRL.EDIT_OPEN then seqs [raise Fld.CHT_STATUS.EDIT_CLOSED, complete tag St.badEntry]
    else seqs [p, refreshShadow, .read fun t => complete tag St.success t.checkWord]

/-- CHART_EDIT OPEN (R312). -/
def execChartEditOpen (tag : Nat) (s : State) : Out :=
  finish (chartEdit tag 0 fun _ => seqs [writeEditOpen true, complete tag St.success]) s

/-- CHART_EDIT WRITE_ENTRY (R312). -/
def execChartEditWriteEntry (tag : Nat) (s : State) : Out :=
  finish (chartEdit tag 1 fun c =>
    if c.at 8 2 ≥ 16384 then complete tag St.badEntry else chartEditWrite tag (putShadow (c.at 8 2) c.entry)) s

/-- CHART_EDIT WRITE_SAFE (R312): PAYLOAD bytes are read from SAFE_ADDR. -/
def execChartEditWriteSafe (tag : Nat) (s : State) : Out :=
  finish (chartEdit tag 2 fun c => .read fun s =>
    if c.at 8 2 ≥ 16384 then complete tag St.badEntry
    else if s.bit Fld.CHT_CTRL.EDIT_OPEN && !s.canIssue (s.insFn c.ins) then complete tag St.dmaReadFault
    else chartEditWrite tag (seqs [
      hostRead (s.insFn c.ins) (s.queuePasid c.ins) (c.at 40 8) (s.shadowEntry (c.at 8 2)).payload,
      putSafe (c.at 8 2) (readBytes memDefault s.host (c.at 40 8) (s.shadowEntry (c.at 8 2)).payload)])) s

/-- CHART_EDIT DISCARD (R312). -/
def execChartEditDiscard (tag : Nat) (s : State) : Out :=
  finish (chartEdit tag 3 fun _ => seqs [writeEditOpen false, complete tag St.success]) s

/-- CHART_EDIT COMMIT (R312): completes at hand-over, or at its refusal. -/
def execChartEditCommit (tag : Nat) (s : State) : Out :=
  finish (chartEdit tag 4 fun _ => seqs [running tag, chartCommit (some tag)]) s

/-- CHART_EDIT SET_N (R312). -/
def execChartEditSetN (tag : Nat) (s : State) : Out :=
  finish (chartEdit tag 5 fun c =>
    if c.at 12 2 ≥ 2 ^ 15 then complete tag St.badEntry else chartEditWrite tag (put Fld.CHT_TICK_LEN.N (c.at 12 2))) s

/-- CHART_EDIT SET_RESERVE (R312). -/
def execChartEditSetReserve (tag : Nat) (s : State) : Out :=
  finish (chartEdit tag 6 fun c =>
    if c.at 5 1 ≥ 16 ∨ c.at 6 1 ≥ 128 then complete tag St.badEntry
    else chartEditWrite tag (putN Fld.CHT_RESERVE.PERCENT (c.at 5 1) (c.at 6 1))) s

end Sys2Proof.Machine
end

