-- ==== Sys2Proof/Machine/Conversations.lean ====
section
/-! DEFINITION. The transfer engine: conversations, packets and grants in free slots (R147, R177 to R188), sequence numbers and windows
(R189 to R193), bulk and control transfers (R194 to R202), faults (R206), states (R208) and backpressure (R210), with the
transfer commands (R194, R201, R297, R307). -/

namespace Sys2Proof.Machine

/-! ### Fragments -/

/-- The pieces of a fragment table that cover a length, in table order; none for BAD_FRAGMENT (R297). -/
def walkFragments (table : Nat → List Byte) (fuel i need : Nat) : Option (List (Nat × Nat)) :=
  match fuel with
  | 0 => none
  | fuel + 1 =>
    if need = 0 then some []
    else
      let e := table i
      let len := ofBytes ((e.drop 8).take 3)
      let flags := ofBytes ((e.drop 12).take 4)
      if len = 0 ∨ ofBytes ((e.drop 11).take 1) ≠ 0 ∨ flags > 1 then none
      else if len < need ∧ flags = 1 then none
      else (walkFragments table fuel (i + 1) (need - min len need)).map fun l =>
        (ofBytes (e.take 8), min len need) :: l

/-- The fragment entries of a table: from the fragment cache where it holds the whole table (R295), or from host memory. -/
def State.fragEntry (s : State) (i addr k : Nat) : List Byte :=
  match s.q.fragCache.lookup (fragKey i addr) with
  | some t => (t.drop (16 * k)).take 16
  | none => readBytes memDefault s.host (addr + 16 * k) 16

/-- The buffer of a command as pieces: the address itself, or its fragment table (R289, R297). -/
def State.pieces (s : State) (c : Cmd) (addr len : Nat) : Option (List (Nat × Nat)) :=
  if c.flag 1 then walkFragments (s.fragEntry c.ins addr) 4097 0 len else some (if len = 0 then [] else [(addr, len)])

/-- The host addresses of a range of a buffer, piece by piece. -/
def pieceRange (l : List (Nat × Nat)) (off len : Nat) : List (Nat × Nat) :=
  match l with
  | [] => []
  | (a, n) :: t =>
    if len = 0 then []
    else if off ≥ n then pieceRange t (off - n) len
    else (a + off, min len (n - off)) :: pieceRange t 0 (len - min len (n - off))

/-- Read a range of a buffer. -/
def State.readPieces (s : State) (l : List (Nat × Nat)) (off len : Nat) : List Byte :=
  (pieceRange l off len).flatMap fun e => readBytes memDefault s.host e.1 e.2

/-- Write bytes to a list of address ranges, for an instance's queue path. -/
def writePieces (i : Nat) (pasid : Option Nat) (l : List (Nat × Nat)) (bs : List Byte) : Prog :=
  match l with
  | [] => .skip
  | (a, n) :: t => .seq (insWrite i 0 pasid a (bs.take n)) (writePieces i pasid t (bs.drop n))

/-- Read a list of address ranges, for an instance's queue path (R319). -/
def askPieces (i : Nat) (l : List (Nat × Nat)) : Prog :=
  .read fun s => forP l fun e => hostRead (s.insFn i) (s.queuePasid i) e.1 e.2

/-- Drop the oldest tables until `need` entries fit into the 8,192 of the fragment cache (R295). -/
def fitTables (need : Nat) : List (Nat × List Byte) → List (Nat × List Byte)
  | [] => []
  | e :: rest =>
    if ((e :: rest).map fun t => t.2.length / 16).foldl (· + ·) 0 + need ≤ 8192 then e :: rest else fitTables need rest

/-- A command's fragment table is read, unless the cache holds it; it is kept there where the SQ is CACHED, the command sets KEEP, and the table has at
most 512 fragments (R295). -/
def keepTable (c : Cmd) (addr : Nat) (pieces : List (Nat × Nat)) : Prog :=
  .read fun s => whenP (c.flag 1 && (s.q.fragCache.lookup (fragKey c.ins addr)).isNone) (seqs [
    hostRead (s.insFn c.ins) (s.queuePasid c.ins) addr (16 * pieces.length),
    whenP (c.flag 4 && s.bit Fld.QM_SQ_CTRL.CACHED c.sq && decide (pieces.length ≤ 512)) (modQ fun u => { u with
      fragCache := fitTables pieces.length u.fragCache ++ [(fragKey c.ins addr, readBytes memDefault s.host addr (16 * pieces.length))] })])

/-! ### Conversations -/

/-- The full packet size P of a pipe (R194). -/
def State.packetSize (s : State) (node pipe : Nat) (inbound : Bool) : Nat :=
  let m := (s.nrec node).maxPacket
  let p := (s.pipeCtx node pipe).size
  if m = 0 then (if inbound then 64 else 16)
  else
    let lim := min 1024 m
    max 1 (if p = 0 then lim else min lim p)

/-- The data packets of an outbound data stage: the last is shorter than P (R194). -/
def Conv.dataPackets (c : Conv) : Nat := c.length / c.size + 1

/-- The packets of the outbound window: SETUP and the data of an outbound stage. -/
def Conv.outPackets (c : Conv) : Nat :=
  if c.control then 1 + (if c.length = 0 ∨ c.inbound then 0 else c.dataPackets)
  else if c.inbound then 0 else c.dataPackets

/-- The window that may be sent now: SETUP alone until it is acknowledged (R201). -/
def Conv.outOpen (c : Conv) : Nat := if c.control ∧ c.stage = .setup then 1 else c.outPackets

/-- The byte range of outbound packet `i`. -/
def Conv.packetRange (c : Conv) (i : Nat) : Nat × Nat :=
  let k := if c.control then i - 1 else i
  (k * c.size, min c.size (c.length - k * c.size))

/-- The payload of outbound packet `i`. -/
def State.packetBytes (s : State) (c : Conv) (i : Nat) : List Byte :=
  if c.control && i == 0 then c.setup
  else
    let r := c.packetRange i
    if c.tag.isSome then s.readPieces c.pieces r.1 r.2 else (c.bytes.drop r.1).take r.2

/-- Whether a conversation waits for inbound data. -/
def Conv.wantsData (c : Conv) : Bool := c.inbound && c.stage == .data && !c.closing

/-- The instance a conversation runs for: none for the tree logic's own. -/
def State.convIns (s : State) (c : Conv) : Option Nat := c.tag.bind fun t => (s.cmd t).map (·.ins)

/-- Whether backpressure holds a conversation: its CQ shows BACKPRESSURE, or its SQ is paused at the CQ bound, which lasts while the CQ is full or
holds entries (R210, R299). -/
def State.convPressed (s : State) (c : Conv) : Bool :=
  match c.tag.bind s.cmd with
  | none => false
  | some m =>
    (s.fld Fld.QM_SQ_STATUS.PAUSE m.sq == 4 && s.cqBarred m.sq) ||
      (match s.cqOf m.ins (s.fld Fld.QM_SQ_CFG.CQ m.sq) with
        | some q => s.bit Fld.QM_CQ_STATUS.BACKPRESSURE q
        | none => false)

/-- The class of a conversation (R188). -/
def Conv.cls (c : Conv) : Nat := if c.tag.isNone then 0 else if c.control then 1 else 2

/-- What an active conversation sends next as a packet: an ABORT, a WAIT or closing ACK, or outbound data in its window (R191). -/
def Conv.wantsPacket (c : Conv) : Bool :=
  match c.state with
  | .aborting => !c.abortSent
  | .backoff => c.abortAsked
  | .active => c.abortAsked || c.owesWait || c.closing ||
      (decide (c.next < c.outOpen) && decide (c.next < c.base + max 1 (min 16 c.credit)) && c.stage != .status)
  | _ => false

/-- Whether a conversation asks for a grant (R195, R198, R201). -/
def Conv.wantsGrant (c : Conv) : Bool :=
  match c.state with
  | .aborting => c.abortSent
  | .active =>
    !c.abortAsked && !c.owesWait && !c.closing &&
      (c.wantsData || c.stage == .status ||
        (decide (c.base < c.sent) &&
          (c.askDue || decide (c.next ≥ c.outOpen) || decide (c.next ≥ c.base + max 1 (min 16 c.credit)))))
  | _ => false

/-- A conversation ends: its command completes with the bytes moved and the retries (Table 09-8). -/
def convDone (k status : Nat) : Prog :=
  .read fun s => match s.convOf k with
    | none => .skip
    | some c => seqs [
        modConv fun u => { u with convs := u.convs.filter fun e => e.1 != k },
        modPipe c.node c.pipe fun p => { p with lastStatus := status },
        match c.tag with
        | some tag => complete tag status
            (if c.control then (if c.inbound then c.stored else min c.length ((c.base - 1) * c.size))
             else if c.inbound then c.stored else min c.length (c.base * c.size)) c.retries
        | none => whenP c.keep (modConv fun u => { u with answers := u.answers ++ [(k, status, c.bytes)] })]

/-- The transfers of a node end with a status at a meridian, and the node is told nothing (R125, R131, R200). -/
def endTransfers (a status : Nat) (keep : Conv → Bool) : Prog :=
  .read fun s => forP (s.conv.convs.filter fun e => e.2.node == a && !keep e.2) fun e => convDone e.1 status

/-- Ask for a conversation's abort (R200): a queued one ends at once, with nothing sent; another goes on to the next packet boundary. -/
def abortConv (k status : Nat) : Prog :=
  .read fun s => match s.convOf k with
    | none => .skip
    | some c => if c.state = .queued then convDone k status
      else if c.state = .aborting ∨ c.abortAsked then .skip
      else modConvOf k fun c => { c with abortAsked := true, endStatus := status }

/-- An abort reaches a packet boundary (R200, R208). One that FORCE asks for waits for one handshake grant alone (R336). -/
def toAborting (k : Nat) : Prog :=
  modConvOf k fun c => { c with
    state := .aborting, abortAsked := false, owesWait := false, closing := false, backNs := 0, backTick := 0
    setAside := if c.endStatus = St.wiped then c.limit else 0 }

/-- A conversation whose pipe's counters return to 0 (R189, R191): the next packet at each end carries 0, the credit is 1, and what was not acknowledged
is sent again. -/
def Conv.fresh (c : Conv) : Conv :=
  { c with
    seq0 := (65536 - c.base % 65536) % 65536, inSeq0 := (65536 - c.inCount % 65536) % 65536, credit := 1, next := c.base, mark := c.sent }

/-- The sequence counters of a pipe return to 0 (R189), also for a conversation that runs on it. -/
def resetPipe (node pipe : Nat) : Prog :=
  seqs [modPipe node pipe fun p => { p with outSeq := 0, inSeq := 0, oldest := 0, credit := 1 },
    modConv fun u => { u with convs := u.convs.map fun e =>
      if e.2.node = node ∧ e.2.pipe = pipe ∧ !e.2.control ∧ e.2.state != .queued then (e.1, e.2.fresh) else e }]

/-- The requests that the controller alone sends (Table 06-8); READ_TIMING is I0's too. -/
def controllerOnly (ins : Nat) (setup : List Byte) : Bool :=
  let t := ofBytes (setup.take 1)
  let r := ofBytes ((setup.drop 1).take 1)
  bitsAt t 5 2 == 0 && ([0x04, 0x05, 0x06, 0x10, 0x11, 0x12].contains r || (r == 0x13 && ins != 0))

/-- Whether a conversation waits behind another: an earlier one on its pipe and direction, or one that runs on its pipe and
direction, or a control transfer that runs on its node (R188, R208). -/
def State.convBlocked (s : State) (k : Nat) (c : Conv) : Bool :=
  s.conv.convs.any fun e => e.1 != k && e.2.node == c.node && e.2.pipe == c.pipe && (c.node != 4095 || e.2.port == c.port) &&
    (c.control || e.2.control || e.2.inbound == c.inbound) && (e.2.state != .queued || (e.1 < k && e.2.cls == c.cls) || e.2.cls < c.cls)

/-- After a takeover, an ABORT goes out before the first conversation on a pipe (R439): it is a conversation of the controller's own
that is aborting from its start. -/
def abortFirst (c : Conv) : Prog :=
  seqs [modPair fun u => { u with freshPipes := u.freshPipes.filter (· != c.node * 32 + c.pipe) },
    modConv fun u => { u with
      next := u.next + 1
      convs := u.convs ++ [(u.next, { port := c.port, node := c.node, pipe := c.pipe, control := true, state := .aborting, endStatus := St.aborted })] }]

/-- A queued conversation starts, or ends at once (R199, R203, R208). -/
def convStart (k : Nat) : Prog :=
  .read fun s => match s.convOf k with
    | none => .skip
    | some c =>
      let st := (s.node c.node).state
      let ins := (s.convIns c).getD 0
      if c.state ≠ .queued ∨ s.mute then .skip
      else if c.tag.isSome && c.control && controllerOnly ins c.setup then convDone k St.unsupported
      else if (s.pipeCtx c.node c.pipe).halted && c.pipe != 0 then convDone k St.stalled
      else if c.tag.isSome && (st == .absent || st == .free) then convDone k St.nodeAbsent
      else if c.tag.isSome && st == .quarantine then convDone k St.nodeQuarantined
      else if s.convBlocked k c || (c.tag.isSome && !(st == .active || st == .suspect)) then .skip
      else if s.pair.freshPipes.contains (c.node * 32 + c.pipe) then abortFirst c
      else
        let p := s.pipeCtx c.node c.pipe
        seqs [
          whenP c.control (modPipe c.node 0 fun p => { p with outSeq := 0, inSeq := 1, oldest := 0, credit := 1 }),
          modConvOf k fun c => { c with
            state := .active
            size := if c.control then s.packetSize c.node 0 c.inbound else s.packetSize c.node c.pipe c.inbound
            seq0 := if c.control then 0 else p.outSeq
            inSeq0 := if c.control then 1 else p.inSeq
            credit := if c.control then 1 else p.credit }]

/-- CONVERSATION_START (R208). -/
def execConversationStart (c : Nat) (s : State) : Out := finish (convStart c) s

/-! ### Free slots -/

/-- Whether slots of a port and direction of the tick that runs are free of active legs (R147); a leg's slots stay closed whether or not it
is sent (R566). Slot 0 carries the marker outbound (R139). -/
def State.slotsFree (s : State) (port : Nat) (inbound : Bool) (slot n : Nat) : Bool :=
  s.bit Fld.CHT_STATUS.RUNNING && (inbound || slot != 0) && decide (slot + n ≤ s.chr.tickSlots) &&
    !(portLegs s.legs port inbound).any fun e => e.2.activeIn s.tick && e.2.copies.any fun c => rangesMeet c (slot, slot + n)

/-- Whether an outbound slot of the tick is still to come and no packet before it occupies it. -/
def State.slotAhead (s : State) (port slot : Nat) : Bool :=
  decide (s.fine ≤ 65536 * (s.chr.meridNs + 32 * slot)) && decide ((s.lane port).txUntil ≤ s.chr.meridNs + 32 * slot)

/-- A root port's lane carries a frame until the end of a range of slots. -/
def occupy (port slot n : Nat) : Prog := .read fun s => modLane port fun l => { l with txUntil := s.chr.meridNs + 32 * (slot + n) }

/-- The port a conversation uses. -/
def State.convPort (s : State) (c : Conv) : Nat := if c.node = 4095 ∨ c.tag = none then c.port else (s.node c.node).port

/-- The location of the node a conversation goes to: hub count and parent hub; of 4,095 it is the location being enumerated (R187). -/
def State.convLoc (s : State) (c : Conv) : Nat × Option Nat :=
  if c.node = 4095 then match (s.treeOf c.port).job with
    | some j => (j.loc.tier, if j.loc.tier = 0 then none else some j.loc.parent)
    | none => (0, none)
  else ((s.node c.node).tier, s.parentOf c.node)

/-- The generation a conversation's slots are counted at: the slowest on the node's path (R177). Of an unaddressed node behind a hub whose link has not
been read it is G1, the slowest there is. -/
def State.convGen (s : State) (c : Conv) : Nat :=
  let root := max 1 (s.fld Fld.LNK_STATUS.GEN c.port)
  if c.node = 4095 then match (s.treeOf c.port).job with
    | some j => if j.loc.tier = 0 then root else if j.addr = 0 then 1 else s.pathGen j.addr
    | none => root
  else if (s.node c.node).state = .free then root else s.pathGen c.node

/-- Key of the slots counted for an instance in the tick (R324). -/
def bulkKey (i port : Nat) (inbound : Bool) : Nat := (i * 16 + port) * 2 + (if inbound then 1 else 0)

/-- Whether an instance has reached its bound of slots on a port and direction (R324). -/
def State.bulkFull (s : State) (i port : Nat) (inbound : Bool) : Bool :=
  let b := s.fld Fld.INS_SHARE_BW.BULK_SLOTS i
  b != 0 && decide (tget 0 s.ins.bulkUsed (bulkKey i port inbound) ≥ b)

/-- Key of the rotating pointer of a class on a port and direction (R188). -/
def turnKey (cls port : Nat) (inbound : Bool) : Nat := (cls * 16 + port) * 2 + (if inbound then 1 else 0)

/-- Whether the engine picks a conversation on a port and direction: no ready one of a higher class, its instance below
its bound, or every ready instance at its bound (R324), and the first from the rotating pointer of its class (R188). -/
def State.mayPick (s : State) (k : Nat) (c : Conv) (inbound : Bool) : Bool :=
  let ready (x : Conv) := s.convPort x == s.convPort c && (if inbound then x.wantsGrant else x.wantsPacket) && !s.convPressed x
  let others := s.conv.convs.filter fun e => e.1 != k && ready e.2
  let full (x : Conv) := match s.convIns x with
    | some i => s.bulkFull i (s.convPort c) inbound
    | none => false
  let from_ := tget 0 s.conv.pointers (turnKey c.cls (s.convPort c) inbound)
  let before (j : Nat) : Bool := (decide (from_ ≤ j) && decide (k < from_)) || (decide (j < k) && (decide (from_ ≤ j) == decide (from_ ≤ k)))
  !(others.any fun e => e.2.cls < c.cls) &&
    (!full c || !(others.any fun e => e.2.cls == c.cls && !full e.2)) &&
    !(others.any fun e => e.2.cls == c.cls && full e.2 == full c && before e.1)

/-- The rotating pointer moves past a conversation that was picked (R188). -/
def turnPast (k : Nat) (c : Conv) (inbound : Bool) : Prog :=
  .read fun s => modConv fun u => { u with pointers := tset 0 u.pointers (turnKey c.cls (s.convPort c) inbound) (k + 1) }

/-- Count slots for an instance; the tree logic's own are not counted (R324). -/
def countSlots (c : Conv) (port : Nat) (inbound : Bool) (n : Nat) : Prog :=
  .read fun s => match s.convIns c with
    | none => .skip
    | some i => modIns fun u => { u with
        bulkUsed := tset 0 u.bulkUsed (bulkKey i port inbound) (tget 0 u.bulkUsed (bulkKey i port inbound) + n) }

/-! ### Sending -/

/-- The payload of a HANDSHAKE (R175). -/
def handshakeBytes (code status credit : Nat) : List Byte := toBytes (code + status * 2 ^ 8 + credit * 2 ^ 16) 4

/-- What a request of the tree takes when its SETUP leaves (R40, R119): its apply tick and what depends on it. A bearing's is at least two ticks away
(R40), that of an enumeration 3 ticks and 100 us (R119). -/
def stampRequest (k : Nat) (c : Conv) : Prog :=
  .read fun s =>
    let b := s.bearing c.node
    let t := s.tick + (if c.stamp = 1 then 3 else s.applyLead)
    let job := modTreeOf c.port fun x => { x with job := x.job.map fun j => if j.conv = some k then { j with applyTick := t } else j }
    if c.stamp = 1 ∨ c.stamp = 2 then seqs [
      modConvOf k fun c => { c with bytes := setBearingData b t (s.predictMeridian t) 0 t },
      putBearing c.node { b with sent := some (b.delayDn, b.advanceUp), sentApply := t }, whenP (c.stamp == 2) job]
    else if c.stamp = 3 ∨ c.stamp = 4 then seqs [
      modConvOf k fun c => { c with bytes := toBytes t 8 ++ c.bytes.drop 8 },
      if c.stamp = 3 then job else modRec c.node fun r => { r with appearAt := some t }]
    else .skip

/-- A packet that the controller sends on a root port (R173, R174). -/
def sendPacket (port : Nat) (c : Conv) (type seq : Nat) (payload : List Byte) : Prog :=
  .read fun s => emit (.packet port (padded (max 1 (s.fld Fld.LNK_STATUS.GEN port)) (packetFrame c.node c.pipe false type seq payload)))

/-- Send outbound packet `i` of a conversation: its sequence number, its bytes, and the window after it (R189, R192). -/
def sendData (k : Nat) (c : Conv) (port : Nat) : Prog :=
  let i := c.next
  let after := if i + 1 ≥ c.mark then max (i + 1) c.sent else i + 1
  let setup := c.control && i == 0
  seqs [
    whenP (setup && c.setupAt == none && c.stamp != 0) (stampRequest k c),
    .read fun s => seqs [
      sendPacket port c (if setup then Pt.setup else Pt.data) ((c.seq0 + i) % 65536) (s.packetBytes c i),
      modConvOf k fun c => { c with
        next := after, sent := max c.sent (i + 1), sentAt := tset 0 c.sentAt i s.chr.ns
        setupAt := if setup && c.setupAt == none then some s.chr.ns else c.setupAt }]]

/-- The slots that the next packet of a conversation takes. -/
def State.nextPacketSlots (s : State) (c : Conv) : Nat :=
  frameSlots (s.convGen c) (if c.state = .aborting ∨ c.abortAsked ∨ c.owesWait ∨ c.closing then 4
    else if c.control && c.next == 0 then 16 else (c.packetRange c.next).2)

/-- The transfer engine starts a conversation's next packet at an outbound slot of the current tick (R177, R188, R191, R196,
R200): an ABORT, a WAIT, the ACK that closes an inbound transfer, or data. A read that the function cannot issue aborts the transfer (R307). -/
def packetSend (k slot : Nat) : Prog :=
  .read fun s => match s.convOf k with
    | none => .skip
    | some c =>
      let port := s.convPort c
      let n := s.nextPacketSlots c
      let ins := (s.convIns c).getD 0
      let isData := c.state == .active && !c.abortAsked && !c.owesWait && !c.closing
      let reads := isData && c.tag.isSome && !(c.control && c.next == 0) && (c.packetRange c.next).2 != 0
      if !c.wantsPacket || s.mute || !s.portUp port || !s.slotsFree port false slot n || !s.slotAhead port slot || !s.mayPick k c false then .skip
      else if isData && s.convPressed c then modConvOf k fun c => { c with state := .backoff, pressed := true }
      else if reads && !s.canIssue (s.insFn ins) then abortConv k St.dmaReadFault
      else seqs [
        advanceTo (s.chr.meridNs + 32 * slot), countSlots c port false n, occupy port slot n, turnPast k c false,
        if c.state = .aborting ∨ c.abortAsked then seqs [
          whenP c.abortAsked (toAborting k),
          sendPacket port c Pt.handshake 0 (handshakeBytes 0x06 0 0), modConvOf k fun c => { c with abortSent := true }]
        else if c.owesWait then seqs [
          sendPacket port c Pt.handshake ((c.inSeq0 + c.inCount) % 65536) (handshakeBytes 0x03 0 0),
          modConvOf k fun c => { c with owesWait := false, state := .backoff, pressed := true }]
        else if c.closing then seqs [
          sendPacket port c Pt.handshake ((c.inSeq0 + c.inCount) % 65536) (handshakeBytes 0x01 0 0),
          if c.control then modConvOf k fun c => { c with closing := false, stage := .status } else convDone k c.endStatus]
        else seqs [whenP reads (askPieces ins (pieceRange c.pieces (c.packetRange c.next).1 (c.packetRange c.next).2)), sendData k c port]]

/-- PACKET_SEND (R177): a conversation, and the outbound slot the packet leaves in. -/
def execPacketSend (c slot : Nat) (s : State) : Out := finish (packetSend c slot) s

/-! ### Grants -/

/-- Whether a node is in bearing mode (R179): its bearing is in use, which FIXED or STALE with a SET_BEARING sent shows. -/
def State.bearingMode (s : State) (a : Nat) : Bool :=
  (s.bearing a).state != .none && (s.bearing a).sent.isSome && (s.node a).state.running

/-- Whether a conversation's node is a legacy one, as far as the controller knows. -/
def State.convLegacy (s : State) (c : Conv) : Bool :=
  if c.node = 4095 then (s.convLoc c).1 == 0 && s.bit Fld.LNK_STATUS.LEGACY c.port else (s.node c.node).legacy

/-- The fix record of the own link of a conversation's node: empty while the controller has not fixed or read it. -/
def State.convFix (s : State) (c : Conv) : LinkFix :=
  if (s.convLoc c).1 = 0 then s.fixOf (s.convPort c) else if c.node = 4095 then {} else s.fixOf (32 + c.node)

/-- The extra slots E of a grant's range (Table 06-4). -/
def State.grantExtra (s : State) (c : Conv) : Nat :=
  let t := (s.convLoc c).1
  if s.bearingMode c.node then 0
  else if t = 0 then 1
  else if s.convLegacy c then (if (s.convFix c).filtered.isNone then 5 else 1)
  else 8 * t + 5

/-- dn and up of the own link of a conversation's node: 0 while they are not known (R183), in 2^-16 ns. -/
def State.ownLink (s : State) (c : Conv) : Int × Int :=
  match (s.convFix c).filtered with
  | some r => LinkFix.delays r (if c.node = 4095 then 0 else (s.bearing c.node).asym * 16)
  | none => (0, 0)

/-- The bearing of the parent of a conversation's node. -/
def State.parentBearing (s : State) (c : Conv) : Bearing :=
  match (s.convLoc c).2 with
  | some h => s.bearing h
  | none => {}

/-- lead and up of R183 for a node in relative mode, in 2^-16 ns. -/
def State.relLead (s : State) (c : Conv) : Int × Int :=
  let l := s.ownLink c
  let pb := s.parentBearing c
  if (s.convLoc c).1 = 0 then l
  else (if s.convLegacy c then 2048 * 65536 + l.1 else pb.delayDn, pb.advanceUp + (s.convFix c).resUp + l.2)

/-- The START field of a grant for a range that begins at root slot `r` (R179, R183). -/
def State.grantStart (s : State) (c : Conv) (r : Nat) : Int :=
  if s.bearingMode c.node then r
  else ceilDiv (32 * 65536 * (r : Int) - (s.relLead c).1 - (s.relLead c).2) (32 * 65536)

/-- The node's launch instant, at its earliest, for a grant's START: after the meridian in 2^-16 ns (R179, R182). A marker that passes hubs comes no earlier
than the wire lets it. -/
def State.grantLaunch (s : State) (c : Conv) (start : Int) : Int :=
  if s.bearingMode c.node then 32 * 65536 * start - (s.bearing c.node).advanceUp else 32 * 65536 * start + (s.relLead c).1

/-- When a grant sent in `n` slots from `slot` has ended at the node's pins, at its latest (R182): every hub takes 256 ns, and a link not yet fixed or read
50 ns. -/
def State.grantEnds (s : State) (c : Conv) (slot n : Nat) : Int :=
  let path : Int := if s.bearingMode c.node then (s.bearing c.node).delayDn
    else (s.parentBearing c).delayDn + (if (s.convFix c).filtered.isSome then (s.ownLink c).1 else 50 * 65536)
  32 * 65536 * (slot + n : Int) + path + 256 * 65536 * ((s.convLoc c).1 : Int)

/-- Whether a port's last grant is still outstanding at a slot of the tick: its range has not ended (R178). -/
def State.grantRuns (s : State) (port slot : Nat) : Bool :=
  match s.conv.grants.lookup port with
  | none => false
  | some g => decide (s.chr.meridNs + 32 * slot < g.merid + 32 * (g.start + g.slots))

/-- The controller sends a grant at an outbound slot for a range of inbound slots of this tick (R176, R178, R179, R182). `room` is whether the bulk buffer
can hold what it asks for (R210). -/
def grantSend (k slot r n : Nat) (room : Bool) : Prog :=
  .read fun s => match s.convOf k with
    | none => .skip
    | some c =>
      let port := s.convPort c
      let w := frameSlots (s.convGen c) 4
      let extra := s.grantExtra c
      let start := s.grantStart c r
      let forData := c.state == .active && c.wantsData && !(c.control && decide (c.base < c.sent))
      let waits := c.state == .aborting && (decide (s.chr.ns < c.backNs) || decide (s.tick < c.backTick))
      if !c.wantsGrant || waits || s.mute || n = 0 || n > 511 || !s.portUp port || s.grantRuns port slot || !s.slotsFree port false slot w ||
          !s.slotAhead port slot || !s.slotsFree port true r (n + extra) || !s.mayPick k c true || start < 0 || start ≥ 2 ^ 15 ||
          s.grantLaunch c start - s.grantEnds c slot w < 512 * 65536 then .skip
      else if forData && (!room || s.convPressed c) then modConvOf k fun c => { c with state := .backoff, pressed := true }
      else seqs [
        advanceTo (s.chr.meridNs + 32 * slot), countSlots c port true (n + extra), occupy port slot w, turnPast k c true,
        sendPacket port c Pt.grant (if forData then (c.inSeq0 + c.inCount) % 65536 else 0)
          (toBytes (s.tickLow 8 + start.toNat * 2 ^ 8 + n * 2 ^ 23) 4),
        modConvOf k fun c => { c with askDue := false },
        modConv fun u => { u with
          grants := tset {} u.grants port
            { conv := k, node := c.node, merid := s.chr.meridNs, start := r, slots := n + extra, next := r, extra := extra, closed := false
              forAbort := c.state == .aborting, forData := forData, sent := c.sent } }]

/-- GRANT_SEND (R178): a conversation, the outbound slot the grant leaves in, the first inbound slot of its range, SLOTS, and whether the bulk buffer
has room. -/
def execGrantSend (c slot r n : Nat) (room : Bool) (s : State) : Out := finish (grantSend c slot r n room) s

/-! ### Retries -/

/-- The retries a packet has used (R197). -/
def Conv.used (c : Conv) (i : Nat) : Nat := tget 0 c.counts i

/-- Packets `i` up to `j` count one retry each, or the transfer ends with TIMEOUT when one would need one too many (R197). -/
def retryPackets (k i j : Nat) (then_ : Prog) : Prog :=
  .read fun s => match s.convOf k with
    | none => .skip
    | some c =>
      let l := (List.range (j - i)).map (· + i)
      if l.any fun x => c.used x ≥ c.limit then convDone k St.timeout
      else seqs [
        modConvOf k fun c => { c with
          counts := l.foldl (fun m x => tset 0 m x (tget 0 m x + 1)) c.counts
          retries := c.retries + l.length },
        then_]

/-- The status stage, or an ABORT, counts one retry (R197, R200). -/
def retryAside (k : Nat) : Prog :=
  .read fun s => match s.convOf k with
    | none => .skip
    | some c =>
      if c.setAside ≥ c.limit then
        (if c.state = .aborting then seqs [
          whenP (c.pipe != 0) (modPipe c.node c.pipe fun p => { p with halted := true }), convDone k c.endStatus]
         else convDone k St.timeout)
      else modConvOf k fun c => { c with
        setAside := c.setAside + 1, retries := if c.state = .aborting then c.retries else c.retries + 1, abortSent := false }

/-- Key of the retries of inbound packets, apart from the outbound ones. -/
def inKey (i : Nat) : Nat := 2 ^ 32 + i

/-- A grant went unanswered, or its answer was discarded (R197). -/
def unanswered (k : Nat) (g : Grant) : Prog :=
  .read fun s => match s.convOf k with
    | none => .skip
    | some c =>
      if c.state = .aborting then whenP g.forAbort (retryAside k)
      else if g.forData then retryPackets k (inKey c.inCount) (inKey c.inCount + 1) .skip
      else if c.stage = .status then retryAside k
      else retryPackets k c.base g.sent (modConvOf k fun c => { c with next := c.base, mark := g.sent })

/-- Change the grant of a port. -/
def modGrant (port : Nat) (f : Grant → Grant) : Prog := modConv fun u => { u with grants := tset {} u.grants port (f (tget {} u.grants port)) }

/-- GRANT_UNANSWERED (R197, R206): the accepting slots of a port's grant pass with no frame begun in them. -/
def execGrantUnanswered (port : Nat) (s : State) : Out :=
  finish (match s.conv.grants.lookup port with
    | none => .skip
    | some g => whenP (!g.begun && !g.closed) (atNs (g.merid + 32 * (g.next + max 1 g.extra)) (seqs [
        modGrant port fun g => { g with closed := true }, missed g.node, unanswered g.conv g]))) s

/-! ### Receiving -/

/-- The slot at which a frame begins in the accepting slots of a port's grant, with the grant (Table 06-4, R206): in bearing mode it begins at the
boundary of the slot, in relative mode anywhere in the first slots of the range. `pos` is the instant of its first code after the meridian, in 2^-16 ns. -/
def State.grantFor (s : State) (port : Nat) (pos : Int) : Option (Grant × Nat) :=
  match s.conv.grants.lookup port with
  | none => none
  | some g =>
    let k := slotOf pos
    if g.closed || g.merid != s.chr.meridNs then none
    else if g.extra = 0 then (if beginsAt (max 1 (s.fld Fld.LNK_STATUS.GEN port)) pos g.next then some (g, g.next) else none)
    else if 0 ≤ pos ∧ g.next ≤ k ∧ k < g.next + (if g.begun then 1 else g.extra) then some (g, k) else none

/-- A frame of a granted node is discarded as a node error and its grant counts as unanswered (R206). -/
def damaged (port node : Nat) (g : Grant) : Prog :=
  seqs [modGrant port fun g => { g with closed := true }, nodeError node, unanswered g.conv g]

/-- A packet that begins outside every grant: a node error of the node it names, when present (R206). -/
def outsideGrant (h : Header) (good : Bool) : Prog := whenP (good && h.packet) (nodeError h.addr)

/-- The pipe counters follow a conversation's progress (R189). -/
def keepSeq (k : Nat) : Prog :=
  .read fun s => match s.convOf k with
    | none => .skip
    | some c => modPipe c.node c.pipe fun p => { p with
        outSeq := if c.inbound && !c.control then p.outSeq else (c.seq0 + c.base) % 65536
        oldest := if c.inbound && !c.control then p.oldest else (c.seq0 + c.base) % 65536
        inSeq := if c.inbound || c.control then (c.inSeq0 + c.inCount) % 65536 else p.inSeq
        credit := c.credit }

/-- Store one inbound packet in order (R190, R193, R194): the bytes that fit; the transfer ends on its length, on a packet shorter
than P, or on more than it wants. Extra bytes are a node error on pipe 0 only. -/
def storeData (k : Nat) (payload : List Byte) : Prog :=
  .read fun s => match s.convOf k with
    | none => .skip
    | some c =>
      let room := c.length - c.stored
      let take := min room payload.length
      let total := c.stored + take
      let short := decide (total < c.length) || decide (payload.length > room)
      let ends := decide (total = c.length) || decide (payload.length < c.size) || decide (payload.length > room)
      let ins := (s.convIns c).getD 0
      if c.tag.isSome && take != 0 && !s.canIssue (s.insFn ins) then abortConv k St.dmaWriteFault
      else seqs [
        if c.tag.isSome then writePieces ins (s.queuePasid ins) (pieceRange c.pieces c.stored take) (payload.take take)
        else modConvOf k fun c => { c with bytes := c.bytes ++ payload.take take },
        modConvOf k fun c => { c with
          stored := total, inCount := c.inCount + 1, waitFrom := none
          closing := ends, endStatus := if ends && short then St.short else c.endStatus },
        keepSeq k,
        whenP (c.control && decide (payload.length > room)) (nodeError c.node)]

/-- The outbound window advances to packet `i` (R192). After an ACK or NAK, what was sent at or after it before the grant is sent again and counts a retry;
after a WAIT all that was sent is, without one. The transfer or its stage ends when every packet is acknowledged (R195, R201). -/
def windowTo (k i : Nat) (g : Grant) (wait : Bool) : Prog :=
  let move := seqs [
    modConvOf k fun c =>
      let mark := if wait then c.sent else g.sent
      { c with
        base := i, next := if i < mark then i else max i c.next, mark := mark, askDue := c.askDue && i == c.base
        sentAt := c.sentAt.filter fun e => i ≤ e.1 },
    keepSeq k,
    .read fun s => match s.convOf k with
      | none => .skip
      | some c =>
        if c.control && c.stage == .setup && decide (c.base ≥ 1) then
          modConvOf k fun c => { c with stage := if c.length = 0 then .status else .data }
        else if !c.inbound && decide (c.base ≥ c.outPackets) then
          (if c.control then modConvOf k fun c => { c with stage := .status } else convDone k St.success)
        else .skip]
  if wait then move else retryPackets k i g.sent move

/-- A node's WAIT (R198): the pipe is granted again no sooner than 8 us later and not in the same tick. -/
def waitAnswer (k : Nat) : Prog :=
  .read fun s => modConvOf k fun c => { c with
    state := .backoff, pressed := false, backNs := s.chr.ns + 8000, backTick := s.tick + 1
    waitFrom := some (c.waitFrom.getD s.chr.ns) }

/-- A STALL (R199): the transfer ends with STALLED, and a pipe other than 0 is marked halted. -/
def stallAnswer (k : Nat) : Prog :=
  .read fun s => match s.convOf k with
    | none => .skip
    | some c => seqs [whenP (c.pipe != 0) (modPipe c.node c.pipe fun p => { p with halted := true }), convDone k St.stalled]

/-- CLEAR_HALT has completed for a pipe: its halt mark and counters clear (R189, R199). -/
def haltCleared (c : Conv) : Prog :=
  let pipe := ofBytes ((c.setup.drop 4).take 2)
  whenP (bitsAt (ofBytes (c.setup.take 1)) 5 2 == 0 && ofBytes ((c.setup.drop 1).take 1) == 0x03 && pipe < 32)
    (seqs [modPipe c.node pipe fun p => { p with halted := false }, resetPipe c.node pipe])

/-- A STATUS in the status stage ends the control transfer (R201). -/
def statusAnswer (k status : Nat) : Prog :=
  .read fun s => match s.convOf k with
    | none => .skip
    | some c =>
      if status = 0 then seqs [haltCleared c, convDone k St.success]
      else if status ≥ 0x80 then convDone k status
      else seqs [nodeError c.node, convDone k St.stalled]

/-- A WAIT that answers an ABORT (R198, R200): the next grant waits, with no retry and no error. -/
def abortWaits (k : Nat) : Prog :=
  .read fun s => modConvOf k fun c => { c with backNs := s.chr.ns + 8000, backTick := s.tick + 1, waitFrom := some (c.waitFrom.getD s.chr.ns) }

/-- The answer to a handshake of a node that holds a good frame (R175, R192, R198 to R201): after an ABORT was sent only the answer to it counts. -/
def handshake (port k : Nat) (c : Conv) (g : Grant) (seq code status credit : Nat) : Prog :=
  let d := (seq + 65536 - (c.seq0 + c.base) % 65536) % 65536
  let inRange := decide (d ≤ c.sent - c.base)
  let bad := damaged port c.node g
  if c.state = .aborting then
    if !g.forAbort then .skip
    else if code = 0x01 ∧ seq = 0 then seqs [resetPipe c.node c.pipe, convDone k c.endStatus]
    else if code = 0x03 then abortWaits k
    else if code = 0x04 then retryAside k
    else bad
  else if code = 0x04 then stallAnswer k
  else if code = 0x05 then (if c.stage = .status then statusAnswer k status else bad)
  else if g.forData then (if code = 0x03 ∧ seq = (c.inSeq0 + c.inCount) % 65536 then waitAnswer k else bad)
  else if !inRange ∨ code = 0 ∨ code > 3 then bad
  else if c.stage = .status then (if code = 0x03 then waitAnswer k else modConvOf k fun c => { c with waitFrom := none })
  else if code = 0x03 then seqs [windowTo k (c.base + d) g true, .read fun s => whenP (s.convOf k).isSome (waitAnswer k)]
  else seqs [
    modConvOf k fun c => { c with credit := if code = 0x01 then max 1 (min 16 credit) else c.credit, waitFrom := none },
    windowTo k (c.base + d) g false]

/-- An inbound DATA frame in a data grant (R190, R193, Table 06-6), with its sequence number: one in order is stored if there is room, and answered with
WAIT if not; one in a gap is an error and is granted for again. -/
def dataArrives (k : Nat) (c : Conv) (g : Grant) (seq : Nat) (payload : List Byte) (room : Bool) : Prog :=
  .read fun s =>
    let d := (seq + 65536 - (c.inSeq0 + c.inCount) % 65536) % 65536
    let again (i : Nat) := retryPackets k (inKey i) (inKey i + 1) .skip
    if !c.wantsData || c.owesWait || c.state == .aborting then .skip
    else if g.spoiled then whenP (0 < d && d ≤ 15) (again (c.inCount + d))
    else if d = 0 then (if room && !s.convPressed c then storeData k payload else modConvOf k fun c => { c with owesWait := true })
    else if d ≥ 65520 then .skip
    else seqs [nodeError c.node, again (c.inCount + (if d ≤ 15 then d else 0))]

/-- A frame arrives on a root port beside its legs (R206, Table 06-11): `pos` is the instant of its first code after the meridian in 2^-16 ns, `frame` its
bytes as received, `room` whether the bulk buffer has room (R210). A port that is not UP takes none (R91). -/
def packetArrives (port : Nat) (pos : Int) (frame : List Byte) (room : Bool) : Prog :=
  .read fun s => whenP (s.portUp port) (
    let h := Header.ofBytes frame
    match s.grantFor port pos with
    | none => outsideGrant h (headerGood frame)
    | some (g, slot) => match s.convOf g.conv with
      | none => modGrant port fun g => { g with begun := true, closed := true }
      | some c =>
        let k := g.conv
        let len := if headerGood frame then h.length else frame.length - 12
        let begins : Int := if g.extra = 0 then 32 * 65536 * slot else pos
        let cut := begins + 32 * 65536 * frameSlots (max 1 (s.fld Fld.LNK_STATUS.GEN port)) len > 32 * 65536 * ((g.start + g.slots : Nat) : Int)
        let goesOn (spoiled : Bool) := modGrant port fun g => { g with
          begun := true, next := slot + frameSlots (s.convGen c) len, spoiled := spoiled }
        let known := h.packet && h.addr == c.node && h.pipe == c.pipe && h.inbound && (h.type == Pt.data || (h.type == Pt.handshake && h.length == 4))
        seqs [
          whenP (!frameGood frame) (seqs [
            if g.forData then seqs [goesOn true, nodeError c.node,
              whenP (!g.spoiled && c.state != .aborting) (retryPackets k (inKey c.inCount) (inKey c.inCount + 1) .skip)]
            else damaged port c.node g]),
          whenP (frameGood frame) (seqs [
            goodResponse c.node,
            if cut ∨ !known ∨ (h.type = Pt.data ∧ (!g.forData ∨ len > 1024)) then damaged port c.node g
            else if h.type = Pt.data then seqs [
              goesOn g.spoiled, modConvOf k fun c => { c with waitFrom := none }, dataArrives k c g h.seq (framePayload frame) room]
            else
              let w := ofBytes (framePayload frame)
              seqs [modGrant port fun g => { g with begun := true, closed := true },
                handshake port k c g h.seq (bitsAt w 0 8) (bitsAt w 8 8) (bitsAt w 16 5)]])])

/-- DATA_RECEIVE (R190, R193, R206): any frame but a HANDSHAKE. -/
def execDataReceive (port : Nat) (pos : Int) (frame : List Byte) (room : Bool) (s : State) : Out :=
  finish (whenP (!headerGood frame || (Header.ofBytes frame).type != Pt.handshake) (packetArrives port pos frame room)) s

/-- HANDSHAKE_RECEIVE (R175, R192, R206). -/
def execHandshakeReceive (port : Nat) (pos : Int) (frame : List Byte) (s : State) : Out :=
  finish (whenP (!headerGood frame || (Header.ofBytes frame).type == Pt.handshake) (packetArrives port pos frame true)) s

/-! ### Timers and aborts -/

/-- HANDSHAKE_GRANT_TIMER (R195): 8 us after the oldest unacknowledged packet was sent, a handshake grant falls due. -/
def execHandshakeGrantTimer (c : Nat) (s : State) : Out :=
  finish (match s.convOf c with
    | none => .skip
    | some v => whenP (v.state == .active && decide (v.base < v.sent)) (match v.sentAt.lookup v.base with
      | none => .skip
      | some t => atNs (t + 8000) (modConvOf c fun v => { v with askDue := true }))) s

/-- WAIT_BACKOFF_END (R198): 8 us after a WAIT, and in a later tick, the pipe may be granted again. -/
def execWaitBackoffEnd (c : Nat) (s : State) : Out :=
  finish (match s.convOf c with
    | none => .skip
    | some v => whenP (v.state == .backoff && !v.pressed) (atNs v.backNs (.read fun u =>
        whenP (decide (v.backTick ≤ u.tick)) (modConvOf c fun v => { v with state := .active })))) s

/-- WAIT_TIMEOUT (R198): a pipe has answered only WAIT for 1,000 ms. A conversation that aborts ends as one whose retries have run out (R200). -/
def execWaitTimeout (c : Nat) (s : State) : Out :=
  finish (match s.convOf c with
    | none => .skip
    | some v => match v.waitFrom with
      | none => .skip
      | some t => atNs (t + 1000000000) (
          if v.state = .aborting then seqs [
            whenP (v.pipe != 0) (modPipe v.node v.pipe fun p => { p with halted := true }), convDone c v.endStatus]
          else convDone c St.timeout)) s

/-- TRANSFER_ABORT (R200): at the next packet boundary ABORT is sent for a conversation that is to end, at an outbound slot. -/
def execTransferAbort (c slot : Nat) (s : State) : Out :=
  finish (match s.convOf c with
    | none => .skip
    | some v => whenP (v.abortAsked || (v.state == .aborting && !v.abortSent)) (packetSend c slot)) s

/-- BACKPRESSURE_RELEASE (R210): room has returned for a conversation. -/
def execBackpressureRelease (c : Nat) (s : State) : Out :=
  finish (match s.convOf c with
    | none => .skip
    | some v => whenP (v.state == .backoff && v.pressed && !s.convPressed v)
        (modConvOf c fun v => { v with state := .active, pressed := false })) s

/-! ### Commands -/

/-- Queue the conversation of a transfer command (R208): a length above 0 reads its fragment table first (R297). At a standby the
command completes with UNSUPPORTED (R431). -/
def queueConv (tag : Nat) (c : Cmd) (addr len : Nat) (v : Conv) : Prog :=
  .read fun s =>
    if s.standby then complete tag St.unsupported
    else if c.flag 1 && decide (len ≠ 0) && (addr % 16 != 0) then complete tag St.badEntry
    else if c.flag 1 && decide (len ≠ 0) && !s.canIssue (s.insFn c.ins) then complete tag St.dmaReadFault
    else match s.pieces c addr len with
      | none => complete tag St.badFragment
      | some l => seqs [
          keepTable c addr l, running tag,
          modConv fun u => { u with next := u.next + 1, convs := u.convs ++ [(u.next, { v with
            tag := some tag, pieces := l, length := len, port := (s.node v.node).port
            limit := if bitAt (c.at 7 1) 4 then c.at 7 1 % 16 else 7 })] }]

/-- BULK_OUT (R194). -/
def execBulkOut (tag : Nat) (s : State) : Out :=
  finish (withCmd tag 0x80 fun c =>
    queueConv tag c (c.at 16 8) (c.at 8 3) { node := c.at 4 2, pipe := c.at 6 1 }) s

/-- BULK_IN (R194). -/
def execBulkIn (tag : Nat) (s : State) : Out :=
  finish (withCmd tag 0x81 fun c =>
    queueConv tag c (c.at 16 8) (c.at 8 3) { node := c.at 4 2, pipe := c.at 6 1, inbound := true }) s

/-- CONTROL (R201): bytes 8 to 23 are the SETUP payload. -/
def execControl (tag : Nat) (s : State) : Out :=
  finish (withCmd tag 0x82 fun c =>
    queueConv tag c (c.at 24 8) (c.at 14 2)
      { node := c.at 4 2, control := true, stage := .setup, setup := (c.bytes.drop 8).take 16
        inbound := bitAt (c.at 8 1) 7 }) s

/-- The conversation of a command. -/
def State.convOfTag (s : State) (tag : Nat) : Option Nat := (s.conv.convs.find? fun e => e.2.tag == some tag).map (·.1)

/-- BULK_DATA_READ_FAULT (R307, R312): a host read of a command's data ends in a fault. -/
def execBulkDataReadFault (tag : Nat) (s : State) : Out :=
  finish (match s.convOfTag tag with
    | some k => abortConv k St.dmaReadFault
    | none => match s.cmd tag with
      | none => .skip
      | some c =>
        if c.opcode = 0x12 ∧ c.stage = .ready ∧ c.at 4 1 = 2 then complete tag St.dmaReadFault
        else if c.opcode = 0x10 ∧ c.at 40 8 ≠ 0 ∧ (c.stage = .ready ∨ s.chart.admitWait.contains tag) then seqs [
          modChart fun u => { u with admitWait := u.admitWait.filter (· != tag) },
          .read fun t => put Fld.CHT_ADMIT.WAITING (min 8191 t.chart.admitWait.length),
          complete tag St.dmaReadFault]
        else if (c.opcode = 0x80 ∨ c.opcode = 0x81 ∨ c.opcode = 0x82) ∧ c.stage = .ready then complete tag St.dmaReadFault
        else .skip) s

end Sys2Proof.Machine
end

