-- ==== Sys2Proof/Machine/Wear.lean ====
section
/-! DEFINITION. The wear monitors and the spares (17): what a unit's monitors count (R496 to R498), which spare a unit would take (R495), and
what is marked pending (R498, R499, R502). The swaps themselves stand in Almanac.lean. -/

namespace Sys2Proof.Machine

/-! ### Units and spares -/

/-! The kinds of Table 17-1. -/

def Kind.helm : Nat := 1
def Kind.channel : Nat := 2
def Kind.slice : Nat := 3
def Kind.row : Nat := 4

/-- The key of a unit of Table 17-1; a row is `unit` (its array) and `row`. -/
def almKey (kind unit row : Nat) : Nat := kind * 65536 + unit * 256 + row

/-- What the almanac keeps of a unit. -/
def State.almRec (s : State) (kind unit row : Nat) : AlmRec := tget {} s.alm.units (almKey kind unit row)

/-- Change what the almanac keeps of a unit. -/
def modAlmRec (kind unit row : Nat) (f : AlmRec → AlmRec) : Prog :=
  modAlm fun a => { a with units := tset {} a.units (almKey kind unit row) (f (tget {} a.units (almKey kind unit row))) }

/-- The lane that a CDR slice serves (R96). -/
def State.laneOfSlice (s : State) (u : Nat) : Option Nat := (List.range 19).find? fun n => s.fld Fld.LNK_CDR_MAP.SLICE n == u

/-- Whether a number names a unit of a kind (Table 17-1). -/
def unitExists (kind unit row : Nat) : Bool :=
  if kind = Kind.helm then unit < 18 && row == 0
  else if kind = Kind.channel then unit < 68 && row == 0
  else if kind = Kind.slice then unit < 21 && row == 0
  else kind == Kind.row && unit < 224 && row < 256

/-- The logical helm or channel, the lane, or the row that a unit serves (Table 17-10). -/
def State.unitLogical (s : State) (kind unit row : Nat) : Option Nat :=
  if kind = Kind.helm then (if s.fld Fld.HLM_STATUS.LOGICAL unit < 16 then some (s.fld Fld.HLM_STATUS.LOGICAL unit) else none)
  else if kind = Kind.channel then
    (if s.fld Fld.DMA_CH_STATUS.LOGICAL unit < 64 then some (s.fld Fld.DMA_CH_STATUS.LOGICAL unit) else none)
  else if kind = Kind.slice then s.laneOfSlice unit
  else if (s.almRec kind unit row).retired then none else some row

/-- Whether a unit serves a logical number. -/
def State.unitInUse (s : State) (kind unit row : Nat) : Bool := (s.unitLogical kind unit row).isSome

/-- The swaps under way of a kind that take a spare. -/
def State.sparesBusy (s : State) (kind : Nat) : List Nat := (s.alm.busy.filter fun w => w.kind == kind).map (·.spare)

/-- The domain of a helm (Table 17-1), as a spare is chosen by it. -/
def sameHelmDomain (a b : Nat) : Bool := (decide (a < 8) || a == 16) == (decide (b < 8) || b == 16)

/-- The spares of a kind that are neither in service, nor retired, nor being brought in. -/
def State.freeSpares (s : State) (kind unit : Nat) : List Nat :=
  let unused (l : List Nat) : List Nat :=
    l.filter fun u => !s.unitInUse kind u 0 && !(s.almRec kind u 0).retired && !(s.sparesBusy kind).contains u
  if kind = Kind.helm then unused (if sameHelmDomain unit 16 then [16, 17] else [17, 16])
  else if kind = Kind.channel then unused [64, 65, 66, 67]
  else if kind = Kind.slice then unused [19, 20]
  else
    let used := (s.alm.units.filter fun e => e.1 / 256 == Kind.row * 256 + unit && e.2.retired).length +
      (s.alm.busy.filter fun w => w.kind == Kind.row && w.unit == unit).length
    (List.range 2).filter fun k => decide (used ≤ k)

/-- The spare that a unit takes: the failing helm's domain first, otherwise the lowest (R495). -/
def State.spareFor (s : State) (kind unit : Nat) : Option Nat := (s.freeSpares kind unit).head?

/-- Whether a helm is to be swapped: it is pending and a spare is left. Then its reaching OFF starts the swap in place of ENABLING
(R499, Table 17-7). -/
def State.helmSwapDue (s : State) (h : Nat) : Bool :=
  (s.alm.busy.any fun w => w.kind == Kind.helm && w.unit == h) ||
    ((s.almRec Kind.helm h 0).pending && (s.spareFor Kind.helm h).isSome)

/-- Entries of the repair area that are blank (R503). -/
def State.otpBlank (s : State) : List Nat :=
  (List.range 384).filter fun k => (s.otpRead (0x400 + 8 * k) 8).all (· == 0)

/-- Bring ALM_STATUS and ALM_SPARES up to date (Table 17-9). -/
def refreshAlm : Prog :=
  .read fun s =>
    let b (f : Field) (v : Bool) : Prog := put f (if v then 1 else 0)
    let rows := (s.alm.units.filter fun e => e.1 / 65536 == Kind.row && e.2.retired).length +
      (s.alm.busy.filter fun w => w.kind == Kind.row).length
    seqs [
      b Fld.ALM_STATUS.SWAP_BUSY !s.alm.busy.isEmpty, b Fld.ALM_STATUS.UNBURNED !s.alm.unburned.isEmpty,
      b Fld.ALM_STATUS.PENDING (s.alm.units.any (·.2.pending)), b Fld.ALM_STATUS.SAVING s.alm.saving.isSome,
      put Fld.ALM_SPARES.OTP_FREE s.otpBlank.length, put Fld.ALM_SPARES.ROWS_FREE (448 - rows),
      put Fld.ALM_SPARES.CH_FREE (s.freeSpares Kind.channel 0).length, put Fld.ALM_SPARES.CDR_FREE (s.freeSpares Kind.slice 0).length,
      put Fld.ALM_SPARES.HELM_FREE (s.freeSpares Kind.helm 0).length]

/-! ### Monitors -/

/-- EYE_LOSS of a slice: the first eye minus the last (Table 17-2). -/
def AlmRec.eyeLoss (r : AlmRec) : Nat := r.eyeFirst.getD r.eyeLast - r.eyeLast

/-- The value of a monitor of a unit (Table 17-2). -/
def AlmRec.value (r : AlmRec) (m : Nat) : Nat := if m = 1 then r.age else if m = 3 then r.eyeLoss else r.window

/-- WEAR_WARNING with the detail word of Table 17-5. -/
def wearWarning (level m kind unit value : Nat) : Prog :=
  postEvent 0 Ev.wearWarning (level * 2 ^ 30 + m * 2 ^ 27 + kind * 2 ^ 24 + unit * 2 ^ 16 + min 65535 value)

/-- The monitor that a unit's EXHAUSTED names: the last that reached ACT, or its kind's counter. -/
def AlmRec.exhaustedBy (r : AlmRec) (kind : Nat) : Nat :=
  r.acted.headD (if kind = Kind.helm then 0 else if kind = Kind.channel then 2 else if kind = Kind.slice then 3 else 4)

/-- R502: every pending unit that finds no spare stays in service and is told of once. -/
def checkSpares : Prog :=
  .read fun s => forP (s.alm.units.filter fun e => e.2.pending && !e.2.exhausted) fun e =>
    let kind := e.1 / 65536
    let unit := e.1 / 256 % 256
    let busy := s.alm.busy.any fun w => almKey w.kind w.unit w.row == e.1
    whenP (!busy && (s.spareFor kind unit).isNone) (seqs [
      modAlmRec kind unit (e.1 % 256) fun r => { r with exhausted := true }, raise Fld.ALM_EVENT.NO_SPARE,
      wearWarning 2 (e.2.exhaustedBy kind) kind unit (e.2.value (e.2.exhaustedBy kind))])

/-- A unit is marked pending; `now` is whether a fault swaps it at once (R498, R499). -/
def markPending (kind unit row : Nat) (now : Bool) : Prog :=
  seqs [modAlmRec kind unit row fun r => { r with pending := true, now := r.now || now }, refreshAlm, checkSpares]

/-- A monitor of a unit in service is compared with its thresholds (R498). -/
def monitor (m kind unit row : Nat) : Prog :=
  .read fun s =>
    let r := s.almRec kind unit row
    let v := r.value m
    let warn := s.fld Fld.ALM_THRESH.WARN m
    let act := max 1 (s.fld Fld.ALM_THRESH.ACT m)
    whenP (s.unitInUse kind unit row) (seqs [
      whenP (warn != 0 && decide (warn ≤ v) && !r.warned.contains m) (seqs [
        modAlmRec kind unit row fun r => { r with warned := m :: r.warned }, raise Fld.ALM_EVENT.WARN, wearWarning 0 m kind unit v]),
      whenP (decide (act ≤ v) && !r.acted.contains m) (seqs [
        modAlmRec kind unit row fun r => { r with acted := m :: r.acted }, raise Fld.ALM_EVENT.ACT, wearWarning 1 m kind unit v,
        markPending kind unit row false])])

/-- One corrected error of a unit: its window and lifetime counts, and its monitor (R496, R497). -/
def corrected (m kind unit row : Nat) : Prog :=
  seqs [modAlmRec kind unit row fun r => { r with window := min 65535 (r.window + 1), life := r.life + 1 }, monitor m kind unit row]

/-- A corrected error of an SRAM row (R496); `at_` is its array * 256 + its row. -/
def rowCorrected (at_ : Nat) : Prog := whenP (decide (at_ < 224 * 256)) (corrected 4 Kind.row (at_ / 256) (at_ % 256))

/-- An uncorrectable error of a unit in service swaps it at once (R499). -/
def unitFault (kind unit row : Nat) : Prog := .read fun s => whenP (s.unitInUse kind unit row) (markPending kind unit row true)

/-- An uncorrectable error of an SRAM row. -/
def rowFault (at_ : Nat) : Prog := whenP (decide (at_ < 224 * 256)) (unitFault Kind.row (at_ / 256) (at_ % 256))

/-- A window begins (R497): window counts return to 0. -/
def windowStart (number : Nat) : Prog :=
  modAlm fun a => { a with
    windowAt := number
    units := a.units.foldl (fun l e => tset {} l e.1 { e.2 with window := 0, warned := [], acted := [] }) a.units }

end Sys2Proof.Machine
end

