-- ==== Sys2Proof/Machine/Tasks.lean ====
section
/-! DEFINITION. Reflex tasks and the scheduler: descriptors and commands (R230 to R232), counters and arming (R233 to R235),
readiness, dispatch, preemption and resumption (R236 to R241), semaphores (R242, R243), the latest finish (R17, R244 to R247)
and the states of a helm (R226 to R229). Instants are in units of 1/12 ns. -/

namespace Sys2Proof.Machine

/-! ### Time and names -/

/-- One helm cycle at the operating point in force (R213): 600, 800 or 1,000 MHz. -/
def State.cyc (s : State) : Nat :=
  if s.fld Fld.PWR_OP_STATUS.ACTIVE = 0 then 20 else if s.fld Fld.PWR_OP_STATUS.ACTIVE = 1 then 15 else 12

/-- The instant shown by the chronometer's count. -/
def State.now12 (s : State) : Nat := s.chr.ns * 12

/-- The logical number of a physical helm. -/
def State.logicalOf (s : State) (h : Nat) : Nat := s.fld Fld.HLM_STATUS.LOGICAL h
/-- The physical helm that carries a logical number (R495). -/
def State.helmNamed (s : State) (l : Nat) : Option Nat := (List.range 18).find? fun h => s.logicalOf h == l
/-- The state of a helm (Table 07-6). -/
def State.helmState (s : State) (h : Nat) : Nat := s.fld Fld.HLM_STATUS.FUNC_STATE h

/-! ### Descriptors (Table 07-7) -/

def TaskRec.entry (t : TaskRec) : Nat := dword t.desc 0
def TaskRec.stack (t : TaskRec) : Nat := dword t.desc 1
def TaskRec.arg (t : TaskRec) : Nat := dword t.desc 2
def TaskRec.reload (t : TaskRec) : Nat := bitsAt (dword t.desc 3) 24 8
def TaskRec.prio (t : TaskRec) : Nat := bitsAt (dword t.desc 3) 22 2
def TaskRec.migrate (t : TaskRec) : Bool := bitAt (dword t.desc 3) 21
def TaskRec.flowEn (t : TaskRec) : Bool := bitAt (dword t.desc 3) 20
def TaskRec.home (t : TaskRec) : Nat := bitsAt (dword t.desc 3) 16 4
def TaskRec.tk (t : TaskRec) : Nat := min 9 (bitsAt (dword t.desc 3) 12 4)
def TaskRec.tphase (t : TaskRec) : Nat := bitsAt (dword t.desc 3) 0 9
def TaskRec.flow (t : TaskRec) : Nat := bitsAt (dword t.desc 4) 16 10
def TaskRec.latest (t : TaskRec) : Nat := bitsAt (dword t.desc 4) 0 15
def TaskRec.mask (t : TaskRec) : Nat := bitsAt (dword t.desc 5) 16 16
def TaskRec.owner (t : TaskRec) : Nat := bitsAt (dword t.desc 5) 0 12

/-- The ITCM window of a descriptor: its first byte and the byte after its last (R231). -/
def codeWindow (d : List Nat) : Nat × Nat :=
  let b := bitsAt (dword d 6) 16 8
  let n := bitsAt (dword d 6) 24 8
  (b * 256, (b + (if n = 0 then 256 else n)) * 256)

/-- The DTCM window of a descriptor, as offsets (R231). -/
def dataWindow (d : List Nat) : Nat × Nat :=
  let b := bitsAt (dword d 6) 0 8
  let n := bitsAt (dword d 6) 8 8
  (b * 256, (b + (if n = 0 then 252 else n)) * 256)

/-- Whether staged words meet Table 07-7 (R232). -/
def descValid (d : List Nat) : Bool :=
  let w3 := dword d 3
  let w4 := dword d 4
  let w5 := dword d 5
  let c := codeWindow d
  bitsAt w3 9 3 == 0 && bitsAt w4 26 6 == 0 && !bitAt w4 15 && bitsAt w5 12 4 == 0 && dword d 7 == 0 &&
    decide (bitsAt w3 0 9 < 2 ^ min 9 (bitsAt w3 12 4)) && decide (1 ≤ bitsAt w4 0 15) && decide (bitsAt w4 0 15 ≤ 31249) &&
    decide (bitsAt (dword d 6) 0 8 ≤ 251) && bitAt w5 (16 + bitsAt w3 16 4) && dword d 0 % 2 == 0 &&
    decide (c.1 ≤ dword d 0) && decide (dword d 0 < c.2) && decide (c.2 ≤ 65536) && decide ((dataWindow d).2 ≤ 64512)

/-- The logical helm that last ran a task, or HOME (R237). -/
def TaskRec.affinity (t : TaskRec) : Nat := t.lastHelm.getD t.home

/-- STATE of a task's record (Table 07-21). -/
def TaskRec.code (t : TaskRec) : Nat :=
  if t.live then (if t.preempted then 5 else 4)
  else if t.readyAt.isSome then 3
  else if !t.enabled then 0
  else if !t.armed then 1
  else if t.count = 0 then 6
  else 2

/-- A word of a task's state record (Table 07-21). -/
def TaskRec.stateWord (t : TaskRec) (k : Nat) : Nat :=
  if k = 0 then t.code * 2 ^ 29 + (if t.trapped then 2 ^ 28 else 0) + t.count * 2 ^ 20 + t.affinity % 16 * 2 ^ 16
  else if k = 1 then t.lateCnt * 2 ^ 16 + t.runCnt
  else if k = 2 then t.maxCyc * 2 ^ 16 + t.lastCyc
  else t.skipCnt * 2 ^ 16 + t.extraCnt

/-! ### Showing the state -/

/-- Whether a task of an instance is running or preempted (R333). -/
def State.taskRuns (s : State) (i : Nat) : Bool := s.task.tasks.any fun e => e.2.live && e.2.owner == i

/-- Bring TSK_STATUS and an owner's TASK_RUN up to date. -/
def refreshTasks (owner : Nat) : Prog :=
  .read fun s => seqs [
    put Fld.TSK_STATUS.ENABLED (s.task.tasks.filter fun e => e.2.enabled).length,
    put Fld.TSK_STATUS.READY (s.task.tasks.filter fun e => e.2.readyAt.isSome).length,
    putN Fld.INS_STATUS.TASK_RUN owner (if s.taskRuns owner then 1 else 0)]

/-- Whether the background or the task that a helm runs, or is about to resume, holds a semaphore with NOPREEMPT set (R236, R243). -/
def State.noPreempt (s : State) (h : Nat) : Bool :=
  (List.range 64).any fun n => s.bit Fld.TSK_SEM_STATE.HELD n && s.bit Fld.TSK_SEM_CFG.NOPREEMPT n &&
    s.fld Fld.TSK_SEM_STATE.HELM n == h && (match (s.helm h).task.or ((s.helm h).frames.head?.map (·.task)) with
      | some t => s.bit Fld.TSK_SEM_STATE.BY_TASK n && s.fld Fld.TSK_SEM_STATE.TASK n == t
      | none => !s.bit Fld.TSK_SEM_STATE.BY_TASK n)

/-- Bring HLM_STATUS up to date (Table 07-16). -/
def refreshHelm (h : Nat) : Prog :=
  .read fun s =>
    let u := s.helm h
    seqs [
      putN Fld.HLM_STATUS.IN_TASK h (if u.task.isSome && !u.entering then 1 else 0),
      putN Fld.HLM_STATUS.TASK h (u.task.getD 0),
      putN Fld.HLM_STATUS.PRIO h (match u.task with
        | some t => (s.taskOf t).prio
        | none => 0),
      putN Fld.HLM_STATUS.NOPREEMPT_HELD h (if (List.range 64).any fun n => s.bit Fld.TSK_SEM_STATE.HELD n &&
        s.bit Fld.TSK_SEM_CFG.NOPREEMPT n && s.fld Fld.TSK_SEM_STATE.HELM n == h then 1 else 0),
      putN Fld.HLM_STATUS.DEPTH h u.frames.length]

/-! ### Semaphores (R242, R243) -/

/-- Free a semaphore at an instant. -/
def semFree (n at12 : Nat) : Prog :=
  .read fun s => whenP (s.bit Fld.TSK_SEM_STATE.HELD n) (seqs [
    clear Fld.TSK_SEM_STATE.HELD n, clear Fld.TSK_SEM_STATE.BY_TASK n,
    modTask fun u => { u with semAt := tset 0 u.semAt n at12, semOver := u.semOver.filter (· != n) },
    refreshHelm (s.fld Fld.TSK_SEM_STATE.HELM n)])

/-- A helm takes a free semaphore for its task or for background. -/
def semTake (h : Nat) (task : Option Nat) (n at12 : Nat) : Prog :=
  seqs [
    raise Fld.TSK_SEM_STATE.HELD n, putN Fld.TSK_SEM_STATE.BY_TASK n (if task.isSome then 1 else 0),
    putN Fld.TSK_SEM_STATE.HELM n h, putN Fld.TSK_SEM_STATE.TASK n (task.getD 0),
    modTask fun u => { u with semAt := tset 0 u.semAt n at12, semOver := u.semOver.filter (· != n), semPtr := (h + 1) % 18 },
    refreshHelm h]

/-- The semaphores that a task holds, or that a helm's background holds. -/
def State.semsOf (s : State) (h : Nat) (task : Option Nat) : List Nat :=
  (List.range 64).filter fun n => s.bit Fld.TSK_SEM_STATE.HELD n && (match task with
    | some t => s.bit Fld.TSK_SEM_STATE.BY_TASK n && s.fld Fld.TSK_SEM_STATE.TASK n == t
    | none => !s.bit Fld.TSK_SEM_STATE.BY_TASK n && s.fld Fld.TSK_SEM_STATE.HELM n == h)

/-- Free every semaphore that a task, or a helm's background, holds. -/
def semsFree (h : Nat) (task : Option Nat) (at12 : Nat) : Prog :=
  .read fun s => forP (s.semsOf h task) fun n => semFree n at12

/-- SEMAPHORE_OVERHOLD (R243): a semaphore has been held for HOLD_LIMIT * 16 cycles. It is not freed. -/
def execSemaphoreOverhold (n : Nat) (s : State) : Out :=
  finish (whenP (n < 64 && s.bit Fld.TSK_SEM_STATE.HELD n && s.fld Fld.TSK_SEM_CFG.HOLD_LIMIT n != 0 && !s.task.semOver.contains n)
    (atNs ((tget 0 s.task.semAt n + s.fld Fld.TSK_SEM_CFG.HOLD_LIMIT n * 16 * s.cyc) / 12) (seqs [
      modTask fun u => { u with semOver := n :: u.semOver },
      raise Fld.HLM_EVENT.OVERHOLD (s.fld Fld.TSK_SEM_STATE.HELM n), raise Fld.TSK_EVENT.OVERHOLD]))) s

/-! ### Counting -/

/-- The start of a task's latest-finish slot in this tick (R17). -/
def State.latestAt (s : State) (t : TaskRec) : Nat := (s.chr.meridNs + 32 * t.latest) * 12

/-- One more in a 16-bit count that saturates. -/
def sat16 (n : Nat) : Nat := min 65535 (n + 1)

/-- A ready task is removed from the ready list and counted (R245). -/
def taskSkip (t : Nat) : Prog :=
  .read fun s => seqs [
    modTaskOf t fun r => { r with readyAt := none, skipCnt := sat16 r.skipCnt }, raise Fld.TSK_EVENT.SKIPPED,
    refreshTasks (s.taskOf t).owner]

/-- LATE_TASK with the detail word of Table 07-9 (R247). -/
def postLate (t reason : Nat) : Prog :=
  .read fun s =>
    let r := s.taskOf t
    postEvent r.owner Ev.lateTask (reason * 2 ^ 30 + r.count * 2 ^ 16 + r.affinity % 16 * 2 ^ 12 + t % 4096)

/-- Discard what a task wrote into its legs in this tick (R17, R228): they follow their hold policy. -/
def dropWrites (t : Nat) : Prog :=
  .read fun s => forP (s.legs.filter fun e => !e.2.inbound && e.2.trigger == t && t != 0) fun e =>
    modLeg e.1 fun r => if s.tick % 2 = 0 then { r with buf0 := none } else { r with buf1 := none }

/-- Mark a task LATE (R17, R247). -/
def markLate (t reason : Nat) : Prog :=
  .read fun s => seqs [
    modTaskOf t fun r => { r with lateCnt := sat16 r.lateCnt, markedTick := some s.tick },
    raise Fld.TSK_EVENT.LATE, countUp Fld.TSK_LATE_TOTAL.COUNT, whenP (reason == 2) (dropWrites t), postLate t reason]

/-- An event that finds no counter above 0 (R233, R234). -/
def taskExtra (t : Nat) : Prog :=
  seqs [modTaskOf t fun r => { r with extraCnt := sat16 r.extraCnt }, raise Fld.TSK_EVENT.EXTRA]

/-- A task whose counter is 0 becomes ready at an instant (R16, R245). -/
def taskReady (t at12 : Nat) : Prog :=
  .read fun s =>
    let r := s.taskOf t
    if at12 > s.latestAt r then taskSkip t
    else seqs [modTaskOf t fun r => { r with readyAt := some at12 }, refreshTasks r.owner]

/-- One event at a task's counter (R234). GY.SIG to a task that is dispatched and not ended counts as extra (Table 07-10). -/
def taskCount (t at12 : Nat) (sig : Bool) : Prog :=
  .read fun s =>
    let r := s.taskOf t
    if !r.armed || r.count = 0 || (sig && r.live) then taskExtra t
    else seqs [modTaskOf t fun r => { r with count := r.count - 1 }, whenP (r.count == 1) (taskReady t at12)]

/-! ### Dispatch (R236 to R241) -/

/-- How a helm stands to a ready task of a priority: 0 idle, 1 background, 2 a task of lower priority; none when it is not
available (R236). Between a task's end and a resume, the helm stands as the task it would resume. -/
def State.standing (s : State) (h prio : Nat) : Option Nat :=
  let u := s.helm h
  if s.helmState h != Fn.on || u.entering then none
  else match u.task with
    | some t => if (s.taskOf t).prio < prio && !s.noPreempt h then some 2 else none
    | none => match u.frames with
      | f :: _ => if (s.taskOf f.task).prio < prio && !s.noPreempt h then some 2 else none
      | [] => if s.noPreempt h then none else some (if u.wait == .wft then 0 else 1)

/-- Whether another task of a task's flow runs or is preempted (R236, R241). -/
def State.flowBusy (s : State) (t : Nat) : Bool :=
  (s.taskOf t).flowEn && s.task.tasks.any fun e => e.1 != t && e.2.live && e.2.flowEn && e.2.flow == (s.taskOf t).flow

/-- The better of two helms: lower standing, then the first from the rotating pointer (R237). -/
def State.betterHelm (s : State) (prio a b : Nat) : Nat :=
  let key (l : Nat) : Nat := (match (s.helmNamed l).bind fun h => s.standing h prio with
    | some k => k
    | none => 3) * 16 + (l + 16 - s.task.helmPtr % 16) % 16
  if key b < key a then b else a

/-- The logical helm to which a ready task goes now (R237). -/
def State.chooseHelm (s : State) (t : Nat) : Option Nat :=
  let r := s.taskOf t
  let fit (l : Nat) : Bool := ((s.helmNamed l).bind fun h => s.standing h r.prio).isSome
  if r.live || s.flowBusy t then none
  else if fit r.affinity then some r.affinity
  else if !r.migrate then none
  else match (List.range 16).filter fun l => bitAt r.mask l && fit l with
    | [] => none
    | l :: rest => some (rest.foldl (s.betterHelm r.prio) l)

/-- A task is dispatched to a logical helm at an instant; its first instruction follows under R238. -/
def dispatchTo (t l at12 : Nat) : Prog :=
  .read fun s => match s.helmNamed l with
    | none => .skip
    | some h =>
      let u := s.helm h
      seqs [
        modTask fun k => { k with taskPtr := (t + 1) % 4096
                                  helmPtr := if l == (s.taskOf t).affinity then k.helmPtr else (l + 1) % 16 },
        (match u.task with
          | some o => modTaskOf o fun r => { r with preempted := true }
          | none => .skip),
        modTaskOf t fun r => { r with
          readyAt := none, live := true, preempted := false, trapped := false, lastHelm := some l, actTick := s.tick },
        modHelm h fun u => { u with
          spill := u.task.map fun o => { task := o, first := u.first, act := u.act }
          task := some t, entering := true, dispAt := max at12 ((s.taskOf t).readyAt.getD 0)
          wait := if u.wait == .wft then .none else u.wait
          busyFrom := some (u.busyFrom.getD at12) },
        refreshHelm h, refreshTasks (s.taskOf t).owner]

/-- Whether a ready task goes before another: higher PRIO, earlier ready, then the rotating pointer (R239). -/
def State.taskBefore (s : State) (a b : Nat × TaskRec) : Bool :=
  let ra := a.2.readyAt.getD 0
  let rb := b.2.readyAt.getD 0
  let rot (t : Nat) := (t + 4096 - s.task.taskPtr) % 4096
  decide (a.2.prio > b.2.prio) ||
    (a.2.prio == b.2.prio && (decide (ra < rb) || (ra == rb && decide (rot a.1 < rot b.1))))

/-- Insert into a list ordered by R239. -/
def State.insertTask (s : State) (e : Nat × TaskRec) : List (Nat × TaskRec) → List (Nat × TaskRec)
  | [] => [e]
  | a :: rest => if s.taskBefore e a then e :: a :: rest else a :: s.insertTask e rest

/-- The ready tasks in the order of R239. -/
def State.readyList (s : State) : List Nat :=
  (((s.task.tasks.filter fun e => e.2.readyAt.isSome).foldl (fun l e => s.insertTask e l) []).map (·.1))

/-- Dispatch every ready task that a helm is available to, in the order of R239; one whose helm is available too late is
removed (R245). -/
def dispatchAll (at12 : Nat) : Prog :=
  .read fun s => forP s.readyList fun t => .read fun s => match s.chooseHelm t with
    | none => .skip
    | some l => if at12 > s.latestAt (s.taskOf t) then taskSkip t else dispatchTo t l at12

/-- An event at a task's counter, and what becomes ready is dispatched. -/
def taskEvent (t at12 : Nat) (sig : Bool := false) : Prog := seqs [taskCount t at12 sig, dispatchAll at12]

/-! ### Save frames (R218) -/

/-- Key of a helm's memory address, in the generation its contents belong to. -/
def State.tcmKey (s : State) (h a : Nat) : Nat := ((s.helm h).tcmGen * 64 + h) * 2 ^ 32 + a
/-- Write bytes of a helm's memory. -/
def tcmPut (h a : Nat) (bs : List Byte) : Prog := .read fun s => .eff (.tcm (s.tcmKey h a) bs)
/-- A store of the helm's own in the cycle that ends now: a fabric write of the same cycle does not undo it (R216). -/
def helmPut (h a : Nat) (bs : List Byte) : Prog :=
  seqs [tcmPut h a bs, modHelm h fun u => { u with stored := some (a, bs.length, u.at12) }]
/-- Read bytes of a helm's memory. -/
def State.tcmRead (s : State) (h a len : Nat) : List Byte := readBytes tcmDefault s.tcm (s.tcmKey h a) len
/-- Read a word of a helm's memory. -/
def State.tcmWord (s : State) (h a : Nat) : Nat := ofBytes (s.tcmRead h a 4)

/-- Address of a save frame (Table 07-3). -/
def frameAddr (k : Nat) : Nat := 0x1000FC00 + 264 * k

/-- The 66 words of a frame: x1 to x31, f0 to f31, pc, fcsr and the activation tick (R218). -/
def frameWords (b : Bank) (act : Nat) : List Nat :=
  ((List.range 31).map fun i => tget 0 b.x (i + 1)) ++ ((List.range 32).map fun i => tget 0 b.f i) ++ [b.pc, b.fcsr, act % 2 ^ 32]

/-- Spill bank 1 into a frame. -/
def spillFrame (h k : Nat) (b : Bank) (act : Nat) : Prog :=
  tcmPut h (frameAddr k) ((frameWords b act).flatMap fun w => toBytes w 4)

/-- The bank and activation tick that a frame holds. -/
def State.frameOf (s : State) (h k : Nat) : Bank × Nat :=
  let w (i : Nat) := s.tcmWord h (frameAddr k + 4 * i)
  ({ pc := w 63, fcsr := w 64
     x := (List.range 31).foldl (fun m i => tset 0 m (i + 1) (w i)) []
     f := (List.range 32).foldl (fun m i => tset 0 m i (w (31 + i))) [] }, w 65)

/-- The task that a dispatch preempts goes from bank 1 into the next free frame (R218). -/
def spillNow (h : Nat) : Prog :=
  .read fun s =>
    let u := s.helm h
    match u.spill with
    | some f => seqs [spillFrame h u.frames.length u.bank1 f.act,
        modHelm h fun u => { u with frames := f :: u.frames, spill := none }]
    | none => .skip

/-! ### Ends and resumption -/

/-- A helm's clock moves to an instant; mcycle counts the cycles. -/
def helmTo (h at12 : Nat) : Prog :=
  .read fun s => modHelm h fun u => { u with
    at12 := at12, cycles := u.cycles + (at12 - u.at12) / s.cyc
    csr := { u.csr with mcycle := (u.csr.mcycle + (at12 - u.at12) / s.cyc) % 2 ^ 64 } }

/-- A helm starts ENABLING (Table 07-6): fresh registers, the pc at HLM_RESET_VEC; its memories keep their contents. -/
def helmEnabling (h at12 : Nat) : Prog :=
  .read fun s => seqs [
    putN Fld.HLM_STATUS.FUNC_STATE h Fn.enabling, clear Fld.HLM_STATUS.PENDING_ENABLE h,
    .eff (.helm h { bank0 := { pc := s.fld Fld.HLM_RESET_VEC.VECTOR h }, enabAt := at12, at12 := at12, tcmGen := (s.helm h).tcmGen }),
    refreshHelm h]

/-- A helm reaches OFF (Table 07-6): background's semaphores are freed, and PENDING_ENABLE starts ENABLING (R227, R242, R565). -/
def helmOff (h at12 : Nat) : Prog :=
  .read fun s => seqs [
    semsFree h none at12, putN Fld.HLM_STATUS.FUNC_STATE h Fn.off,
    modHelm h fun u => { u with task := none, entering := false, spill := none, frames := [], wait := .none, resv := none
                                busyFrom := none, busy := u.busy + (match u.busyFrom with
                                  | some b => at12 - max b (s.chr.meridNs * 12)
                                  | none => 0) },
    refreshHelm h,
    whenP (s.bit Fld.HLM_STATUS.PENDING_ENABLE h && !s.helmSwapDue h) (helmEnabling h at12)]

/-- A task leaves its helm without resuming anything: it is no longer live and holds no semaphore (R228, R242). -/
def taskGone (h t at12 : Nat) (trapped : Bool) : Prog :=
  .read fun s => seqs [
    semsFree h (some t) at12,
    modTaskOf t fun r => { r with live := false, preempted := false, trapped := trapped, endedTick := some r.actTick },
    refreshTasks (s.taskOf t).owner]

/-- The preempted tasks of a helm are discarded (Table 07-6). -/
def framesGone (h at12 : Nat) : Prog :=
  .read fun s => seqs [
    forP (((s.helm h).spill.toList ++ (s.helm h).frames).map (·.task)) fun t => taskGone h t at12 false,
    modHelm h fun u => { u with frames := [], spill := none }, refreshHelm h]

/-- A helm enters ERROR (R229), which latches the halt cause HELM (Table 15-10). Its tasks end. -/
def helmError (h at12 : Nat) : Prog :=
  .read fun s => seqs [
    framesGone h at12,
    (match (s.helm h).task with
      | some t => taskGone h t at12 false
      | none => .skip),
    putN Fld.HLM_STATUS.FUNC_STATE h Fn.error, raise Fld.HLM_EVENT.ERROR h,
    modHelm h fun u => { u with task := none, entering := false, busyFrom := none },
    refreshHelm h, haltCause Halt.helm true, unitFault Kind.helm h 0, dispatchAll at12]

/-- Background or the last preempted task resumes on a helm that runs nothing (R240); a double-bit error in the frame
sends the helm to ERROR (R229). -/
def helmResume (h at12 : Nat) (frameBad : Bool) : Prog :=
  .read fun s =>
    let u := s.helm h
    if u.task.isSome || s.helmState h != Fn.on then .skip
    else match u.frames with
      | f :: rest =>
        if frameBad then helmError h at12
        else
          let b := s.frameOf h rest.length
          seqs [
            modTaskOf f.task fun r => { r with preempted := false },
            modHelm h fun u => { u with task := some f.task, bank1 := b.1, first := f.first, act := b.2, frames := rest, resv := none },
            helmTo h (at12 + 14 * s.cyc), refreshHelm h]
      | [] => seqs [
          modHelm h fun u => { u with
            resv := none, busyFrom := none
            busy := u.busy + (match u.busyFrom with
              | some b => at12 - max b (s.chr.meridNs * 12)
              | none => 0) },
          helmTo h (at12 + 3 * s.cyc), refreshHelm h]

/-- A task ends on its helm at an instant: the helm goes on under R240, or reaches OFF while DISABLING (R227). -/
def taskEnd (h t at12 : Nat) (trapped frameBad : Bool) : Prog :=
  seqs [
    taskGone h t at12 trapped, spillNow h,
    modHelm h fun u => { u with task := none, entering := false, at12 := max u.at12 at12 },
    .read fun s => if s.helmState h = Fn.disabling then seqs [framesGone h at12, helmOff h at12, dispatchAll at12]
      else seqs [dispatchAll at12, helmResume h at12 frameBad, refreshHelm h]]

/-- A trap ends a reflex task (R228, R247). -/
def taskTrap (h t cause pc at12 : Nat) (frameBad : Bool) : Prog :=
  .read fun s => seqs [
    dropWrites t,
    putN Fld.HLM_TRAP.TASK h t, putN Fld.HLM_TRAP.CAUSE h cause, putN Fld.HLM_TRAP_PC.PC h pc,
    raise Fld.HLM_EVENT.TASK_TRAP h, raise Fld.TSK_EVENT.TRAP, postLate t 3,
    modTaskOf t fun r => { r with due := some false },
    taskEnd h t at12 true frameBad, refreshTasks (s.taskOf t).owner]

/-- TASK_DISPATCH (R218, R219, R238): 24 ns after its dispatch a task executes its first instruction. Bank 1 of a preempted task is
spilled into the next free frame; bank 1 takes the values of R219. -/
def execTaskDispatch (h : Nat) (s : State) : Out :=
  let u := s.helm h
  let at12 := u.dispAt + 288
  finish (match u.task with
    | none => .skip
    | some t => whenP (h < 18 && u.entering) (atNs (at12 / 12) (
        let r := s.taskOf t
        seqs [
          spillNow h,
          modHelm h fun u => { u with
            entering := false, act := r.actTick % 2 ^ 32, resv := none
            bank1 := {
              pc := r.entry
              x := tset 0 (tset 0 (tset 0 (tset 0 [] 2 r.stack) 10 t) 11 (r.actTick % 2 ^ 32)) 12 r.arg } },
          helmTo h at12, modHelm h fun u => { u with first := u.cycles }, refreshHelm h, dispatchAll at12]))) s

/-- LATEST_FINISH (R17, R227, R247): at the start of a task's latest-finish slot. -/
def execLatestFinish (t : Nat) (s : State) : Out :=
  let r := s.taskOf t
  let due := s.latestAt r
  finish (whenP (t < 4096) (atNs (due / 12) (seqs [
    whenP (r.armed && r.markedTick != some s.tick && r.endedTick != some s.tick)
      (markLate t (if r.count ≠ 0 then 0 else if r.live && r.actTick = s.tick then 2 else 1)),
    (match r.lastHelm.bind s.helmNamed with
      | some h => whenP (r.live && s.helmState h == Fn.disabling && (s.helm h).task == some t) (taskEnd h t due false false)
      | none => .skip)]))) s

/-! ### The meridian (R12 step 4, R233, R235, R245, R333) -/

/-- Ready tasks still waiting at a meridian are removed (R245), and tasks of an instance whose HOLD is in force are stopped (R333). -/
def tasksBefore : Prog :=
  .read fun s => seqs [
    forP s.readyList taskSkip,
    forP (s.task.tasks.filter fun e => e.2.live && s.bit Fld.INS_STATUS.HOLDING e.2.owner) fun e =>
      .read fun t => match ((t.taskOf e.1).lastHelm.bind t.helmNamed) with
        | none => .skip
        | some h => seqs [
            dropWrites e.1, markLate e.1 2,
            if (t.helm h).task = some e.1 then taskEnd h e.1 t.now12 false false
            else seqs [taskGone h e.1 t.now12 false, modHelm h fun u => { u with
                frames := u.frames.filter fun f => f.task != e.1
                spill := u.spill.filter fun f => f.task != e.1 }, refreshHelm h]]]

/-- Arm one task for the tick that begins (R232, R233). -/
def taskArm (n : Nat) (allowed : Bool) (t : Nat) : Prog :=
  .read fun s =>
    let r := s.taskOf t
    let on := r.due.getD r.enabled
    let wants := allowed && on && !s.bit Fld.INS_STATUS.HOLDING r.owner && s.tick % 2 ^ r.tk == r.tphase
    seqs [
      modTaskOf t fun r => { r with
        enabled := on, due := none, armed := wants && decide (r.latest < n), count := if wants && decide (r.latest < n) then r.reload else 0 },
      whenP (wants && decide (n ≤ r.latest)) (taskSkip t),
      whenP (wants && decide (r.latest < n) && r.reload == 0) (taskReady t s.now12)]

/-- Reload every counter for a tick of `n` slots (R12 step 4, R233). -/
def tasksReload (n : Nat) (allowed : Bool) : Prog :=
  .read fun s => seqs [forP (s.task.tasks.map (·.1)) (taskArm n allowed), refreshTasks 0]

/-- HLM_LOAD at the end of a tick: the reflex-busy time in units of 32 ns, rounded up. -/
def helmLoads : Prog :=
  .read fun s => forP (List.range 18) fun h =>
    let u := s.helm h
    let t := u.busy + (match u.busyFrom with
      | some b => s.now12 - max b (s.chr.meridNs * 12)
      | none => 0)
    let v := min 65535 ((t + 383) / 384)
    seqs [putN Fld.HLM_LOAD.LAST h v, putN Fld.HLM_LOAD.PEAK h (max v (s.fld Fld.HLM_LOAD.PEAK h)),
      whenP (u.busy != 0) (modHelm h fun u => { u with busy := 0 })]

/-! ### Helm states (R226, R227) -/

/-- HLM_ENABLE (R227): HLM_CTRL.ENABLE is written 1; a retired helm ignores it (R495), and one whose swap is due keeps it for the spare (Table 17-7). -/
def hlmEnable (h : Nat) : Prog :=
  .read fun s => whenP (s.logicalOf h != 30) <| seqs [
    raise Fld.HLM_CTRL.ENABLE h,
    if s.helmState h = Fn.disabling || (s.helmState h = Fn.off && s.helmSwapDue h) then raise Fld.HLM_STATUS.PENDING_ENABLE h
    else whenP (s.helmState h == Fn.off) (helmEnabling h s.now12)]

/-- HLM_ENABLE (R227). -/
def execHlmEnable (h : Nat) (s : State) : Out := finish (whenP (h < 18) (hlmEnable h)) s

/-- HLM_DISABLE (R227): HLM_CTRL.ENABLE is written 0. -/
def hlmDisable (h : Nat) : Prog :=
  .read fun s => whenP (s.logicalOf h != 30) <| seqs [
    clear Fld.HLM_CTRL.ENABLE h,
    if s.helmState h = Fn.enabling || s.helmState h = Fn.error then helmOff h s.now12
    else if s.helmState h = Fn.disabling || s.helmState h = Fn.off then clear Fld.HLM_STATUS.PENDING_ENABLE h
    else if s.helmState h = Fn.on then seqs [
      putN Fld.HLM_STATUS.FUNC_STATE h Fn.disabling, framesGone h s.now12,
      whenP ((s.helm h).task == none) (helmOff h s.now12), dispatchAll s.now12]
    else .skip]

/-- HLM_DISABLE (R227). -/
def execHlmDisable (h : Nat) (s : State) : Out := finish (whenP (h < 18) (hlmDisable h)) s

/-- HELM_ENABLING_DONE (R226, R227): 64 helm cycles after entry to ENABLING the helm is ON and background starts. -/
def execHelmEnablingDone (h : Nat) (s : State) : Out :=
  let t := (s.helm h).enabAt + 64 * s.cyc
  finish (whenP (h < 18 && s.helmState h == Fn.enabling) (atNs (t / 12) (seqs [
    putN Fld.HLM_STATUS.FUNC_STATE h Fn.on, raise Fld.HLM_EVENT.ENABLED h,
    modHelm h fun u => { u with at12 := t }, dispatchAll t]))) s

/-- A fabric write into a helm's memory (R216): ITCM only while the helm is OFF. What the helm stores in the same cycle is applied last. -/
def tcmFabricWrite (h : Nat) (itcm : Bool) (off : Nat) (bs : List Byte) : Prog :=
  .read fun s => whenP (h < 18 && decide (off + bs.length ≤ 65536))
    (if itcm && s.helmState h != Fn.off then raise Fld.HLM_EVENT.LOAD_REFUSED h
     else
       let a := (if itcm then 0 else 0x10000000) + off
       -- a store of another party to the reserved word ends a reservation (RISC-V)
       seqs [tcmPut h a bs,
        (match (s.helm h).stored with
          | some (b, len, at12) => whenP (s.now12 < at12) (tcmPut h b (s.tcmRead h b len))
          | none => .skip),
        modHelm h fun u => { u with
         resv := u.resv.filter fun r => decide (r + 4 ≤ a) || decide (a + bs.length ≤ r) }])

/-- TCM_FABRIC_WRITE (R216). -/
def execTcmFabricWrite (h : Nat) (itcm : Bool) (off : Nat) (bs : List Byte) (s : State) : Out :=
  finish (tcmFabricWrite h itcm off bs) s

/-! ### Task commands (R232, R234, R250) -/

/-- Whether WRITE of staged words to a task is accepted (R232). -/
def State.descAccepted (s : State) (t : Nat) (words : List Nat) : Bool :=
  !(s.taskOf t).enabled && !(s.taskOf t).live && descValid words

/-- What an accepted WRITE does: the descriptor takes the words. -/
def taskWrite (t : Nat) (words : List Nat) : Prog := modTaskOf t fun r => { r with desc := words }

/-- ENABLE or DISABLE: the last before a meridian decides (R232). -/
def taskDue (t : Nat) (on : Bool) : Prog := modTaskOf t fun r => { r with due := some on }

/-- TSK_CMD.CLEAR_STATS (Table 07-20). -/
def taskClear (t : Nat) : Prog :=
  modTaskOf t fun r => { r with lateCnt := 0, runCnt := 0, maxCyc := 0, lastCyc := 0, skipCnt := 0, extraCnt := 0 }

/-- The task that TSK_INDEX names. -/
def State.taskIndex (s : State) : Nat := s.fld Fld.TSK_INDEX.INDEX

/-- A TSK_CMD was applied. -/
def tskDone : Prog := raise Fld.TSK_CMD_STATUS.DONE
/-- A TSK_CMD was refused (R232). -/
def tskRefused : Prog := seqs [raise Fld.TSK_CMD_STATUS.REFUSED, raise Fld.TSK_EVENT.CMD_REFUSED]

/-- The words staged for WRITE. -/
def State.stagedDesc (s : State) : List Nat := (List.range 8).map fun k => tget 0 s.task.staged k

/-- TSK_CMD.WRITE. -/
def tskWrite : Prog :=
  .read fun s => if s.descAccepted s.taskIndex s.stagedDesc then seqs [taskWrite s.taskIndex s.stagedDesc, tskDone] else tskRefused

/-- TSK_WRITE (R232). -/
def execTskWrite (s : State) : Out := finish tskWrite s

/-- TSK_ENABLE (R232). -/
def execTskEnable (s : State) : Out := finish (seqs [taskDue s.taskIndex true, tskDone]) s

/-- TSK_DISABLE (R232). -/
def execTskDisable (s : State) : Out := finish (seqs [taskDue s.taskIndex false, tskDone]) s

/-- TSK_KICK (R234). -/
def execTskKick (s : State) : Out := finish (seqs [taskEvent s.taskIndex s.now12, tskDone]) s

/-- TSK_CLEAR_STATS (R250). -/
def execTskClearStats (s : State) : Out := finish (seqs [taskClear s.taskIndex, tskDone]) s

/-- A read of TSK_DESC[0] takes a snapshot of the descriptor that TSK_INDEX names. -/
def descSnapshot : Prog :=
  .read fun s => forP (List.range 8) fun k => putN Fld.TSK_DESC.DATA k (dword (s.taskOf s.taskIndex).desc k)

/-- TSK_DESC_SNAPSHOT (R250). -/
def execTskDescSnapshot (s : State) : Out := finish descSnapshot s

/-- A read of TSK_STATE[0] takes a snapshot of the state record. -/
def stateSnapshot : Prog :=
  .read fun s => forP (List.range 4) fun k => putN Fld.TSK_STATE.DATA k ((s.taskOf s.taskIndex).stateWord k)

/-- TSK_STATE_SNAPSHOT (R250). -/
def execTskStateSnapshot (s : State) : Out := finish stateSnapshot s

/-- A task command of a queue (TASK_OP, Table 09-7), for the issuer's own tasks (R232). -/
def taskOp (tag action : Nat) (k : Cmd → Nat → Prog) : Prog :=
  withAction tag 0x14 4 action fun c => .read fun s =>
    let t := c.at 8 2
    if t ≥ 4096 ∨ (s.taskOf t).owner ≠ c.ins then complete tag St.badEntry else k c t

/-- TASK_OP_WRITE (R232): the staged OWNER equals the issuer. -/
def execTaskOpWrite (tag : Nat) (s : State) : Out :=
  finish (taskOp tag 0 fun c t => .read fun s =>
    let words := (List.range 8).map fun k => c.at (16 + 4 * k) 4
    if s.descAccepted t words && bitsAt (dword words 5) 0 12 == c.ins then seqs [taskWrite t words, complete tag St.success]
    else complete tag St.badEntry) s

/-- TASK_OP_ENABLE (R232). -/
def execTaskOpEnable (tag : Nat) (s : State) : Out :=
  finish (taskOp tag 1 fun _ t => seqs [taskDue t true, complete tag St.success]) s

/-- TASK_OP_DISABLE (R232). -/
def execTaskOpDisable (tag : Nat) (s : State) : Out :=
  finish (taskOp tag 2 fun _ t => seqs [taskDue t false, complete tag St.success]) s

/-- TASK_OP_KICK (R234). -/
def execTaskOpKick (tag : Nat) (s : State) : Out :=
  finish (taskOp tag 3 fun _ t => seqs [.read fun s => taskEvent t s.now12, complete tag St.success]) s

/-- TASK_OP_READ_STATE (R306): the state record goes to DATA. -/
def execTaskOpReadState (tag : Nat) (s : State) : Out :=
  finish (taskOp tag 4 fun c t => .read fun s =>
    writeData tag c (c.at 48 8) ((List.range 4).flatMap fun k => toBytes ((s.taskOf t).stateWord k) 4) 0 0) s

end Sys2Proof.Machine
end

