-- ==== Sys2Proof/Machine/Dma.lean ====
section
/-! DEFINITION. The process image (R251 to R264) and the DMA engine with its channels (R265 to R281, R308). -/

namespace Sys2Proof.Machine

/-! ### Pages and regions -/

/-- The page size of an instance (R251): SIZE above 11 acts as 11. -/
def State.pageSize (s : State) (i : Nat) : Nat := 4096 * 2 ^ min 11 (s.fld Fld.DMA_PI_CFG.SIZE i)
/-- The page-set base of an instance. -/
def State.pageBase (s : State) (i : Nat) : Nat :=
  s.fld Fld.DMA_PI_BASE_HI.BASE_HI i * 2 ^ 32 + s.fld Fld.DMA_PI_BASE_LO.BASE_LO i * 4096
/-- The inbound page of a tick (Table 08-1). -/
def State.inPage (s : State) (i tick : Nat) : Nat := s.pageBase i + tick % 2 * s.pageSize i
/-- The outbound page of a tick. -/
def State.outPage (s : State) (i tick : Nat) : Nat := s.pageBase i + (2 + tick % 2) * s.pageSize i

/-- Bytes of a leg's region (R253). -/
def ChartEntry.regionLen (e : ChartEntry) : Nat := if e.inbound then 8 + e.payload else e.payload
/-- Whether a leg's region is mapped (R253). -/
def State.mapped (s : State) (e : ChartEntry) : Bool :=
  e.piOffset != 0xFFFFF && decide (64 ≤ e.piOffset * 8) && decide (e.piOffset * 8 + e.regionLen ≤ s.pageSize e.owner)

/-- The instance's process image is enabled in the current tick. -/
def State.piActive (s : State) (i : Nat) : Bool := s.bit Fld.DMA_PI_STATUS.ACTIVE i

/-! ### The inbound page (R254 to R256) -/

/-- A cause of an instance's process image (R361). -/
def piCause (i : Nat) (full : Bool) : Prog :=
  .read fun s => if full then whenP (s.bit Fld.HIC_INS_PI.FULL_EN i) (hostCause (s.insFn i) (s.fld Fld.HIC_INS_PI.FULL_VEC i))
    else whenP (s.bit Fld.HIC_INS_PI.HALF_EN i) (hostCause (s.insFn i) (s.fld Fld.HIC_INS_PI.HALF_VEC i))

/-- A posted write to an instance's page; one that the function cannot issue is dropped (R264). -/
def piWrite (i addr : Nat) (bs : List Byte) : Prog :=
  .read fun s => if s.canIssue (s.insFn i) then insWrite i 1 (s.piPasid i) addr bs
    else seqs [raise Fld.DMA_PI_STATUS.WRITE_FAULT i, errCause Fld.HIC_ERR_CAUSE.PI_FAULT i]

/-- Change the inbound page of a tick. -/
def modPiIn (i tick : Nat) (f : PiIn → PiIn) : Prog :=
  modStream i fun u => { u with inb := u.inb.map fun p => if p.tick = tick then f p else p }

/-- An instance's inbound page of a tick. -/
def State.piIn (s : State) (i tick : Nat) : Option PiIn := (s.stream i).inb.find? fun p => p.tick == tick

/-- The half cause, once per tick (R256). -/
def piHalf (i tick : Nat) : Prog :=
  .read fun s => match s.piIn i tick with
    | some p => whenP (!p.halfDone) (seqs [modPiIn i tick fun p => { p with halfDone := true }, piCause i false])
    | none => .skip

/-- The header of an inbound page and the full cause (R255). -/
def piHeader (i tick : Nat) : Prog :=
  .read fun s => match s.piIn i tick with
    | some p => whenP (!p.fullDone) (seqs [
        modPiIn i tick fun p => { p with fullDone := true },
        piWrite i (s.inPage i tick + 8) (toBytes p.written 2 ++ toBytes p.failed 2 ++ toBytes 0 4 ++ toBytes p.meridNs 8),
        piWrite i (s.inPage i tick) (toBytes tick 8),
        piCause i true])
    | none => .skip

/-- The inbound status word of a leg (Table 08-3). -/
def piStatusWord (status tick : Nat) (r : LegRec) : List Byte :=
  let ok := status = St.success
  let flags := (if ok ∧ r.stale then 1 else 0) + (if ok ∧ r.nodeFault then 2 else 0) + (if r.dupUsed then 4 else 0)
  let age := if ok then 0 else match r.goodTick with
    | some g => min 65535 (tick - g)
    | none => 65535
  toBytes status 1 ++ toBytes flags 1 ++ toBytes age 2 ++ toBytes tick 4

/-- The write engine takes a completion event of an inbound leg of tick `tick`, with its entry and record (R254, R255). -/
def piInbound (idx : Nat) (e : ChartEntry) (r : LegRec) (tick status : Nat) : Prog :=
  .read fun s =>
    let i := e.owner
    if !s.piActive i then .skip
    else if !s.mapped e then raise Fld.DMA_PI_STATUS.UNMAPPED i
    else seqs [
      piWrite i (s.inPage i tick + e.piOffset * 8)
        (piStatusWord status tick r ++ (r.inb ++ List.replicate e.payload 0).take e.payload),
      (match s.piIn i tick with
        | some p => whenP (p.left.contains idx) (seqs [
            modPiIn i tick fun p => { p with
              left := p.left.filter (· != idx), half := p.half.filter (· != idx)
              written := p.written + 1, failed := p.failed + (if status = St.success then 0 else 1) },
            whenP (p.half == [idx]) (piHalf i tick),
            whenP (p.left == [idx]) (piHeader i tick)])
        | none => .skip)]

/-- PI_FULL_AT_SLOT (R255): with no counted leg active, at the start of slot N - 4. -/
def execPiFullAtSlot (i : Nat) (s : State) : Out :=
  finish (match s.piIn i s.tick with
    | some p => whenP (s.piActive i && p.left.isEmpty && p.written == 0 && !p.fullDone)
        (atNs (s.chr.meridNs + 32 * (s.fld Fld.CHT_TICK_LEN.ACTIVE_N - 4)) (piHeader i s.tick))
    | none => .skip) s

/-- PI_HALF_AT_SLOT (R256): at the start of slot HALF_SLOT. -/
def execPiHalfAtSlot (i : Nat) (s : State) : Out :=
  finish (whenP (s.piActive i && s.fld Fld.DMA_PI_CFG.HALF_SLOT i != 0)
    (atNs (s.chr.meridNs + 32 * s.fld Fld.DMA_PI_CFG.HALF_SLOT i) (piHalf i s.tick))) s

/-! ### The outbound read (R257 to R262) -/

/-- Insert an extent into a list in order of offset. -/
def insertExtent (e : Nat × Nat) : List (Nat × Nat) → List (Nat × Nat)
  | [] => [e]
  | a :: t => if e.1 < a.1 then e :: a :: t else a :: insertExtent e t

/-- Merge extents in order of offset that lie less than 64 bytes apart (R257). -/
def mergeExtents (l : List (Nat × Nat)) : List (Nat × Nat) :=
  (l.foldl (fun m e => match m with
    | [] => [e]
    | f :: r => if e.1 < f.1 + f.2 + 64 then (f.1, max (f.1 + f.2) (e.1 + e.2) - f.1) :: r else e :: f :: r) []).reverse

/-- The outbound legs that the stream of an instance reads for a tick (R257). -/
def State.piLegs (s : State) (i tick : Nat) : List (Nat × ChartEntry) :=
  s.legs.filter fun e => !e.2.inbound && e.2.owner == i && e.2.trigger == 0 && s.mapped e.2 && e.2.activeIn tick

/-- The enabled routes of an instance that lie in its page (R261). -/
def State.piRoutes (s : State) (i : Nat) : List Nat :=
  (List.range 64).filter fun r => s.bit Fld.DMA_ROUTE_CFG.ENABLE r && s.fld Fld.DMA_ROUTE_SRC.OWNER r == i &&
    decide (s.fld Fld.DMA_ROUTE_SRC.OFFSET r * 8 + s.fld Fld.DMA_ROUTE_CFG.LENGTH r ≤ s.pageSize i)

/-- The read requests of a page (R257). -/
def State.piExtents (s : State) (i tick : Nat) : List (Nat × Nat) :=
  let l := (s.piLegs i tick).map (fun e => (e.2.piOffset * 8, e.2.payload)) ++
    (s.piRoutes i).map (fun r => (s.fld Fld.DMA_ROUTE_SRC.OFFSET r * 8, s.fld Fld.DMA_ROUTE_CFG.LENGTH r))
  let sorted := (l.filter fun e => e.2 != 0).foldl (fun m e => insertExtent e m) []
  (mergeExtents sorted).flatMap fun e => cutRequest (e.2 / 64 + 2) (s.maxRead (s.insFn i)) e.1 e.2

/-- The process-image stream that issues its next read (R266, R267, R519): the first from the rotating pointer that has one due, and whose function has a
tag free. -/
def State.nextStream (s : State) : Option Nat :=
  let l := (s.dma.streams.filter fun e => e.2.readDue && s.tagFree (s.insFn e.1)).map (·.1)
  (l.find? fun i => decide (s.dma.piPointer ≤ i)).or l.head?

/-- The next read of the process-image streams goes out: a stream's STAMP read (R257), or the next read of its page. -/
def piOne : Prog :=
  .read fun s => match s.nextStream with
    | none => .skip
    | some i =>
      let u := s.stream i
      seqs [
        modDma fun d => { d with piPointer := i + 1 },
        if u.stampDue then seqs [modStream i fun u => { u with stampDue := false, stamp := true }, hostRead (s.insFn i) (s.piPasid i) (s.outPage i u.page) 8]
        else match u.waiting with
          | [] => .skip
          | r :: rest => seqs [modStream i fun u => { u with reads := u.reads ++ [(u.page, r.1, r.2)], waiting := rest },
              hostRead (s.insFn i) (s.piPasid i) (s.outPage i u.page + r.1) r.2]]

/-- Reads go out while the 64 requests of the process image last (R266); a stream that has to wait counts once. -/
def piRefill : Prog :=
  seqs [
    .read fun s => whenP (s.dma.streams.any fun e => e.2.readDue) (forP (List.range (64 - s.piRequests)) fun _ => piOne),
    .read fun s => forP s.dma.streams fun e => whenP (e.2.readDue != e.2.npWait)
      (seqs [modStream e.1 fun u => { u with npWait := u.readDue }, whenP e.2.readDue npStall]),
    refreshDma]

/-- Bytes that pieces hold from an offset, if they hold them all. -/
def piecesCover (got : List (Nat × List Byte)) (off len : Nat) : Option (List Byte) :=
  (List.range len).mapM fun k => got.findSome? fun p =>
    if p.1 ≤ off + k ∧ off + k < p.1 + p.2.length then p.2[off + k - p.1]? else none

/-- Whether a host is attached to an instance's function: the link is up, and the function can issue requests (R20). -/
def State.attached (s : State) (i : Nat) : Bool := s.bit Fld.GBL_PCIE_STATUS.DL_ACTIVE && s.canIssue (s.insFn i)

/-- An outbound leg takes its payload of a tick (R258). -/
def legTakes (k tick : Nat) (bs : List Byte) : Prog :=
  modLeg k fun r => if tick % 2 = 0 then { r with buf0 := some (tick, bs) } else { r with buf1 := some (tick, bs) }

/-- The legs and routes that a new piece completes take their bytes (R258, R261). -/
def piDeliver (i tick : Nat) (old new : List (Nat × List Byte)) : Prog :=
  .read fun s => seqs [
    forP (s.piLegs i tick) fun e => match piecesCover new (e.2.piOffset * 8) e.2.payload with
      | some bs => whenP (piecesCover old (e.2.piOffset * 8) e.2.payload).isNone
          (legTakes e.1 tick bs)
      | none => .skip,
    forP (s.piRoutes i) fun r =>
      let off := s.fld Fld.DMA_ROUTE_SRC.OFFSET r * 8
      let len := s.fld Fld.DMA_ROUTE_CFG.LENGTH r
      match piecesCover new off len, s.helmNamed (s.fld Fld.DMA_ROUTE_CFG.HELM r) with
      | some bs, some h => whenP (piecesCover old off len).isNone
          (tcmFabricWrite h false (if tick % 2 = 0 then s.fld Fld.DMA_ROUTE_DST.BUF0 r else s.fld Fld.DMA_ROUTE_DST.BUF1 r) bs)
      | _, _ => .skip]

/-- A read of a stream's page fails (R264). -/
def piFault (i page : Nat) : Prog :=
  .read fun s =>
    let u := s.stream i
    seqs [
      modStream i fun u => { u with
        waiting := if page = u.page then [] else u.waiting
        faulted := u.faulted || (page == u.page && !u.closed) },
      raise Fld.DMA_PI_STATUS.READ_FAULT i, raise Fld.DMA_EVENT.PI_FAULT, errCause Fld.HIC_ERR_CAUSE.PI_FAULT i,
      whenP (!(u.faulted && page == u.page)) (countUp Fld.DMA_PI_FAULT_CNT.COUNT i)]

/-- PI_STAMP_COMPLETION (R257): the STAMP read returns what the page holds. A leg with no payload is supplied with the page alone. Reads that the
function cannot issue fault (R264, R331). -/
def execPiStampCompletion (i : Nat) (s : State) : Out :=
  let u := s.stream i
  finish (whenP u.stamp (seqs [
    modStream i fun u => { u with stamp := false },
    if u.closed then .skip
    else if ofBytes (readBytes memDefault s.host (s.outPage i u.page) 8) = u.page then
      (if !s.attached i then piFault i u.page
      else seqs [
        forP ((s.piLegs i u.page).filter fun e => e.2.payload == 0) fun e => legTakes e.1 u.page [],
        modStream i fun v => { v with waiting := s.piExtents i u.page }])
    else seqs [modStream i fun u => { u with missed := true }, raise Fld.DMA_PI_STATUS.STAMP_MISS i],
    piRefill])) s

/-- PI_REGION_READ_COMPLETION (R258, R261): the data of the k-th outstanding read of an instance arrives. Data for a page whose latch
point has passed is dropped. -/
def execPiRegionReadCompletion (i k : Nat) (s : State) : Out :=
  let u := s.stream i
  finish (match u.reads[k]? with
    | none => .skip
    | some (page, off, len) =>
      let piece := (off, readBytes memDefault s.host (s.outPage i page + off) len)
      seqs [
        modStream i fun u => { u with reads := u.reads.eraseIdx k },
        whenP (page == u.page && !u.closed) (seqs [
          modStream i fun u => { u with got := u.got ++ [piece] },
          piDeliver i page u.got (u.got ++ [piece])]),
        piRefill]) s

/-- PI_READ_FAULT (R264): the STAMP read, or the k-th outstanding read, ends in a Completion Timeout (`how` 0), an Unsupported Request
(1) or poisoned data (2; R523). -/
def execPiReadFault (i : Nat) (stamp : Bool) (k how : Nat) (s : State) : Out :=
  let u := s.stream i
  let page := if stamp then some u.page else (u.reads[k]?).map (·.1)
  finish (match page with
    | none => .skip
    | some page => whenP (!stamp || u.stamp) (seqs [
        requestFailed (s.insFn i) how,
        modStream i fun u => { u with stamp := u.stamp && !stamp, reads := if stamp then u.reads else u.reads.eraseIdx k },
        piFault i page, piRefill])) s

/-- The latch point (R258): a page counts as supplied when every read has completed without fault. -/
def piLatch : Prog :=
  .read fun s => forP s.dma.streams fun e =>
    let i := e.1
    let u := e.2
    whenP (!u.closed) (seqs [
      modStream i fun u => { u with closed := true, stampDue := false, waiting := [] },
      if u.missed then countUp Fld.DMA_PI_MISS_CNT.COUNT i
      else if u.faulted then .skip
      else if u.stamp || u.stampDue || !u.waiting.isEmpty || u.reads.any fun r => r.1 == u.page then
        seqs [raise Fld.DMA_PI_STATUS.LATE i, raise Fld.DMA_EVENT.PI_LATE, countUp Fld.DMA_PI_LATE_CNT.COUNT i]
      else modStream i fun u => { u with supplied := some u.page }])

/-- The process image at the meridian of tick `n` (R20, R255 to R257, R263). `allowed` is false where no stream runs (R406, R431). -/
def piMeridian (n : Nat) (allowed : Bool) : Prog :=
  .read fun s => .seq (forP ((s.ins.live ++ (s.dma.streams.map (·.1)).filter fun i => !s.ins.live.contains i)) fun i =>
    .read fun s =>
      let on := allowed && s.bit Fld.DMA_PI_CFG.ENABLE i && s.fld Fld.INS_STATUS.FUNC_STATE i == Fn.on &&
        !s.bit Fld.INS_STATUS.HOLDING i
      let counted := s.legs.filter fun e => e.2.inbound && e.2.owner == i && e.2.activeIn n && s.mapped e.2 &&
        (s.node e.2.node).state.running
      let half := if s.fld Fld.DMA_PI_CFG.HALF_SLOT i = 0 then [] else
        (counted.filter fun e => decide (e.2.endSlot ≤ s.fld Fld.DMA_PI_CFG.HALF_SLOT i)).map (·.1)
      if on then seqs [
        raise Fld.DMA_PI_STATUS.ACTIVE i, raise Fld.INS_STATUS.PI_ACTIVE i,
        whenP (s.legs.any fun e => !e.2.inbound && e.2.owner == i && e.2.trigger == 0 && e.2.activeIn n && !s.mapped e.2)
          (raise Fld.DMA_PI_STATUS.UNMAPPED i),
        modStream i fun u => { u with
          page := n + 1, stampDue := s.attached i, waiting := [], got := [], missed := false, faulted := false, closed := false
          inb := (u.inb.filter fun p => p.tick + 1 == n) ++
            [{ tick := n, meridNs := s.chron, left := counted.map (·.1), half := half }] },
        whenP (!s.attached i) (piFault i (n + 1)),
        whenP (s.fld Fld.DMA_PI_CFG.HALF_SLOT i != 0 && half.isEmpty) (piHalf i n)]
      else whenP (s.piActive i) (seqs [
        clear Fld.DMA_PI_STATUS.ACTIVE i, clear Fld.INS_STATUS.PI_ACTIVE i,
        modStream i fun u => { reads := u.reads, stamp := u.stamp }])) piRefill

/-! ### Configuration (R262, R263) -/

/-- The instance that DMA_PI_INDEX names. -/
def State.piIndex (s : State) : Nat := s.fld Fld.DMA_PI_INDEX.INSTANCE

/-- A write of DMA_PI_CFG (R263). -/
def piCfgWrite (v : Nat) : Prog :=
  .read fun s =>
    let i := s.piIndex
    let same := bitsAt v 8 15 == s.fld Fld.DMA_PI_CFG.HALF_SLOT i && bitsAt v 4 4 == s.fld Fld.DMA_PI_CFG.SIZE i
    let busy := s.bit Fld.DMA_PI_CFG.ENABLE i || s.piActive i
    let refused := raise Fld.DMA_PI_STATUS.CFG_REFUSED i
    let size := 4096 * 2 ^ min 11 (bitsAt v 4 4)
    if busy && !same then refused
    else seqs [
      putN Fld.DMA_PI_CFG.HALF_SLOT i (bitsAt v 8 15), putN Fld.DMA_PI_CFG.SIZE i (bitsAt v 4 4),
      if bitAt v 0 && s.pageBase i % size != 0 then seqs [clear Fld.DMA_PI_CFG.ENABLE i, refused]
      else putN Fld.DMA_PI_CFG.ENABLE i (bitsAt v 0 1)]

/-- DMA_PI_CFG_WRITE (R263). -/
def execDmaPiCfgWrite (v : Nat) (s : State) : Out := finish (piCfgWrite v) s

/-- A write of DMA_PI_BASE_LO or DMA_PI_BASE_HI (R263). -/
def piBaseWrite (hi : Bool) (v : Nat) : Prog :=
  .read fun s =>
    let i := s.piIndex
    if s.bit Fld.DMA_PI_CFG.ENABLE i || s.piActive i then raise Fld.DMA_PI_STATUS.CFG_REFUSED i
    else if hi then putN Fld.DMA_PI_BASE_HI.BASE_HI i v else putN Fld.DMA_PI_BASE_LO.BASE_LO i (v / 4096)

/-- DMA_PI_BASE_WRITE (R263). -/
def execDmaPiBaseWrite (hi : Bool) (v : Nat) (s : State) : Out := finish (piBaseWrite hi v) s

/-- Whether a route's length and buffers are as R261 and R262 ask. -/
def routeValid (len b0 b1 : Nat) : Bool :=
  decide (8 ≤ len) && decide (len ≤ 4096) && len % 8 == 0 && b0 % 8 == 0 && b1 % 8 == 0 &&
    decide (b0 + len ≤ 0xFC00) && decide (b1 + len ≤ 0xFC00) && (decide (b0 + len ≤ b1) || decide (b1 + len ≤ b0))

/-- A write of a register of the route that DMA_ROUTE_INDEX names (R262): 0 SRC, 1 DST, 2 CFG. While the route is enabled only its
ENABLE is written 0; a route is enabled only with a valid configuration, and LENGTH is always checked. -/
def routeWrite (reg v : Nat) : Prog :=
  .read fun s =>
    let r := s.fld Fld.DMA_ROUTE_INDEX.ROUTE
    let refused := raise Fld.DMA_PI_STATUS.CFG_REFUSED (s.fld Fld.DMA_ROUTE_SRC.OWNER r)
    let on := s.bit Fld.DMA_ROUTE_CFG.ENABLE r
    let len := bitsAt v 0 13
    if reg = 0 then (if on then refused else
      seqs [putN Fld.DMA_ROUTE_SRC.OWNER r (bitsAt v 20 12), putN Fld.DMA_ROUTE_SRC.OFFSET r (bitsAt v 0 20)])
    else if reg = 1 then (if on then refused else
      seqs [putN Fld.DMA_ROUTE_DST.BUF1 r (bitsAt v 16 16), putN Fld.DMA_ROUTE_DST.BUF0 r (bitsAt v 0 16)])
    else if on && len == s.fld Fld.DMA_ROUTE_CFG.LENGTH r && bitsAt v 16 4 == s.fld Fld.DMA_ROUTE_CFG.HELM r then
      putN Fld.DMA_ROUTE_CFG.ENABLE r (bitsAt v 31 1)
    else if on || decide (len < 8) || decide (4096 < len) || len % 8 != 0 ||
        (bitAt v 31 && !routeValid len (s.fld Fld.DMA_ROUTE_DST.BUF0 r) (s.fld Fld.DMA_ROUTE_DST.BUF1 r)) then refused
    else seqs [putN Fld.DMA_ROUTE_CFG.LENGTH r len, putN Fld.DMA_ROUTE_CFG.HELM r (bitsAt v 16 4),
      putN Fld.DMA_ROUTE_CFG.ENABLE r (bitsAt v 31 1)]

/-- DMA_ROUTE_CONFIG (R262). -/
def execDmaRouteConfig (reg v : Nat) (s : State) : Out := finish (whenP (reg < 3) (routeWrite reg v)) s

/-! ### Channels (R270 to R280) -/

/-- The state of a channel. -/
def State.chanState (s : State) (c : Nat) : Nat := s.fld Fld.DMA_CH_STATUS.FUNC_STATE c
/-- Whether a channel runs a chain. -/
def State.chanRuns (s : State) (c : Nat) : Bool := s.bit Fld.DMA_CH_STATUS.RUNNING c
/-- The physical channel of a logical number (R270, R495). -/
def State.chanNamed (s : State) (l : Nat) : Option Nat :=
  (List.range 68).find? fun c => decide (l < 64) && s.fld Fld.DMA_CH_STATUS.LOGICAL c == l
/-- The instance that owns a channel. -/
def State.chanOwner (s : State) (c : Nat) : Nat := s.fld Fld.DMA_CH_CFG.OWNER c
/-- The channels in service that an instance owns. -/
def State.chansOf (s : State) (i : Nat) : List Nat :=
  (List.range 68).filter fun c => decide (s.fld Fld.DMA_CH_STATUS.LOGICAL c < 64) && s.chanOwner c == i

/-- Bring CH_BUSY, CH_OWNED and CH_OVER of an instance up to date (Tables 10-9, 10-10). -/
def refreshChans (i : Nat) : Prog :=
  .read fun s => seqs [
    putN Fld.INS_STATUS.CH_BUSY i (if (s.chansOf i).any s.chanRuns then 1 else 0),
    putN Fld.INS_SHARE_CH.CH_OWNED i (s.chansOf i).length,
    putN Fld.INS_STATUS.CH_OVER i (if (s.chansOf i).length > min 64 (s.fld Fld.INS_SHARE_CH.CH_SHARE i) then 1 else 0)]

/-- A write of a configuration register of a channel (R271, R323): 0 CFG, 1 PASID, 2 WIN_BASE, 3 WIN_LIMIT, 4 CHAIN_LIMIT. -/
def chConfig (c reg v : Nat) : Prog :=
  .read fun s =>
    let refused := raise Fld.DMA_CH_EVENT.CFG_REFUSED c
    if s.chanState c != Fn.off then refused
    else if reg = 0 then
      let i := bitsAt v 20 12
      if i != 0 && decide (((s.chansOf i).filter (· != c)).length ≥ min 64 (s.fld Fld.INS_SHARE_CH.CH_SHARE i)) then refused
      else seqs [putN Fld.DMA_CH_CFG.OWNER c i, putN Fld.DMA_CH_CFG.CLASS c (bitsAt v 18 2),
        refreshChans (s.chanOwner c), refreshChans i]
    else if reg = 1 then seqs [putN Fld.DMA_CH_PASID.PASID_EN c (bitsAt v 31 1), putN Fld.DMA_CH_PASID.PASID c (bitsAt v 0 20)]
    else if reg = 2 then putN Fld.DMA_CH_WIN_BASE.BASE c v
    else if reg = 3 then putN Fld.DMA_CH_WIN_LIMIT.LIMIT c v
    else
      let l := bitsAt v 0 25
      if l = 0 ∨ l > 2 ^ 24 then refused else putN Fld.DMA_CH_CHAIN_LIMIT.LIMIT c l

/-- DMA_CH_CONFIG (R271). -/
def execDmaChConfig (c reg v : Nat) (s : State) : Out := finish (whenP (c < 68 && reg < 5) (chConfig c reg v)) s

/-- A channel starts ENABLING; one whose owner is OFF refuses (R270, R329). -/
def chEnabling (c : Nat) : Prog :=
  .read fun s =>
    if s.fld Fld.INS_STATUS.FUNC_STATE (s.chanOwner c) = Fn.off then
      seqs [clear Fld.DMA_CH_CTRL.ENABLE c, raise Fld.DMA_CH_EVENT.CFG_REFUSED c]
    else putN Fld.DMA_CH_STATUS.FUNC_STATE c Fn.enabling

/-- DMA_CH_CTRL.ENABLE is written 1 (R270); a retired channel ignores it (R495). -/
def chEnable (c : Nat) : Prog :=
  .read fun s => whenP (s.fld Fld.DMA_CH_STATUS.LOGICAL c != 126) <| seqs [
    raise Fld.DMA_CH_CTRL.ENABLE c,
    if s.chanState c = Fn.off then chEnabling c
    else if s.chanState c = Fn.disabling then raise Fld.DMA_CH_STATUS.PENDING_ENABLE c
    else .skip]

/-- DMA_CH_ENABLE (R270). -/
def execDmaChEnable (c : Nat) (s : State) : Out := finish (whenP (c < 68) (chEnable c)) s

/-- DMA_CH_ENABLED (R270). -/
def execDmaChEnabled (c : Nat) (s : State) : Out :=
  finish (whenP (c < 68 && s.chanState c == Fn.enabling) (seqs [
    putN Fld.DMA_CH_STATUS.FUNC_STATE c Fn.on, raise Fld.DMA_CH_EVENT.ENABLED c])) s

/-- A channel reaches OFF (R270). -/
def chOff (c : Nat) : Prog :=
  .read fun s => seqs [
    putN Fld.DMA_CH_STATUS.FUNC_STATE c Fn.off, clear Fld.DMA_CH_STATUS.RUNNING c,
    whenP (s.bit Fld.DMA_CH_STATUS.PENDING_ENABLE c) (seqs [clear Fld.DMA_CH_STATUS.PENDING_ENABLE c, chEnabling c]),
    refreshChans (s.chanOwner c)]

/-- A chain ends and the channel becomes idle: the DMA command that started it completes with the status of the last descriptor
written back (R308), and DISABLING ends. -/
def chIdle (c status : Nat) : Prog :=
  .read fun s => seqs [
    clear Fld.DMA_CH_STATUS.RUNNING c, clear Fld.DMA_CH_STATUS.IN_FLIGHT c,
    modChan c fun u => { u with fetching := none, cur := none, bursts := [], resuming := false, stopping := false, npWait := false, tag := none },
    (match (s.chan c).tag with
      | some t => complete t status ((s.chan c).done % 2 ^ 25 + s.fld Fld.DMA_CH_STATUS.CHAIN_LIMIT c * 2 ^ 31)
          (s.fld Fld.DMA_CH_RESIDUE.RESIDUE c)
      | none => .skip),
    refreshChans (s.chanOwner c), refreshDma,
    whenP (s.chanState c == Fn.disabling) (chOff c)]

/-- A posted write of a channel (R271, R340). -/
def chWrite (c addr : Nat) (bs : List Byte) : Prog :=
  .read fun s => insWrite (s.chanOwner c) 2 (s.chPasid c) addr bs

/-- The bytes that the descriptor's pieces can move. -/
def Desc.total (d : Desc) : Nat := if d.short then (d.pieces.map (·.2)).foldl (· + ·) 0 else d.len

/-- Bytes 24 to 31 are written back with a status and a residue (R276). -/
def chWriteBack (c : Nat) (d : Desc) (status residue : Nat) : Prog :=
  seqs [
    chWrite c (d.addr + 24) (toBytes (residue % 2 ^ 24 + 2 ^ 31) 4 ++ toBytes (status % 256 + dword d.words 7 / 256 * 256) 4),
    putN Fld.DMA_CH_STATUS.LAST_STATUS c status, putN Fld.DMA_CH_RESIDUE.RESIDUE c residue]

/-- The chain goes on to a descriptor. -/
def chFetch (c addr : Nat) : Prog :=
  seqs [modChan c fun u => { u with fetching := some addr, cur := none, bursts := [] }, chanAsk c]

/-- A descriptor completes with a status (R274 to R277): its write-back and events, and the chain goes on or ends. -/
def descDone (c : Nat) (d : Desc) (status residue : Nat) : Prog :=
  .read fun s => seqs [
    chWriteBack c d status residue,
    modChan c fun u => { u with
      last := some d.addr, cur := none, bursts := [], done := u.done + (if status = St.aborted then 0 else 1) },
    whenP d.irq (raise Fld.DMA_CH_EVENT.DESC_DONE c),
    if status = St.badEntry ∨ status = St.badFragment then seqs [raise Fld.DMA_CH_EVENT.BAD_DESC c, chIdle c status]
    else if status = St.aborted then seqs [raise Fld.DMA_CH_EVENT.ABORTED c, chIdle c status]
    else if !d.nextValid then seqs [raise Fld.DMA_CH_EVENT.CHAIN_END c, chIdle c status]
    else if (s.chan c).stopping then seqs [raise Fld.DMA_CH_EVENT.ABORTED c, chIdle c status]
    else if s.fld Fld.DMA_CH_COUNT.FETCHED c ≥ s.fld Fld.DMA_CH_CHAIN_LIMIT.LIMIT c then
      seqs [raise Fld.DMA_CH_STATUS.CHAIN_LIMIT c, raise Fld.DMA_CH_EVENT.CHAIN_LIMIT c, chIdle c status]
    else chFetch c d.next]

/-- The descriptor in progress is written back as aborted (R277). -/
def descAborted (c : Nat) (d : Desc) : Prog := descDone c d St.aborted (d.len - d.moved)

/-- A chain starts at a descriptor (R273). -/
def chStart (c head : Nat) (tag : Option Nat) : Prog :=
  .read fun s => seqs [
    raise Fld.DMA_CH_STATUS.RUNNING c, clear Fld.DMA_CH_STATUS.CHAIN_LIMIT c, clear Fld.DMA_CH_COUNT.FETCHED c,
    modChan c fun u => { u with fetching := some head, cur := none, bursts := [], last := none, tag := tag, stopping := false, done := 0 },
    refreshChans (s.chanOwner c), chanAsk c]

/-- The address in DMA_CH_HEAD. -/
def State.chHead (s : State) (c : Nat) : Nat :=
  s.fld Fld.DMA_CH_HEAD_HI.HEAD_HI c * 2 ^ 32 + s.fld Fld.DMA_CH_HEAD_LO.HEAD_LO c * 32

/-- START: only on a channel that is ON and idle (R273). -/
def chStartReg (c : Nat) : Prog :=
  .read fun s => whenP (s.chanState c == Fn.on && !s.chanRuns c) (chStart c (s.chHead c) none)

/-- DMA_CH_START (R273). -/
def execDmaChStart (c : Nat) (s : State) : Out := finish (whenP (c < 68) (chStartReg c)) s

/-- RESUME (R273): NEXT of the last descriptor is read again. -/
def chResume (c : Nat) : Prog :=
  .read fun s => match (s.chan c).last with
    | some a => whenP (s.chanState c == Fn.on && !s.chanRuns c) (seqs [
        raise Fld.DMA_CH_STATUS.RUNNING c, modChan c fun u => { u with fetching := some a, resuming := true },
        refreshChans (s.chanOwner c), chanAsk c])
    | none => .skip

/-- DMA_CH_RESUME (R273). -/
def execDmaChResume (c : Nat) (s : State) : Out := finish (whenP (c < 68) (chResume c)) s

/-- An abort (R277): bursts already issued complete first; a flush read lets its descriptor complete. -/
def chAbort (c : Nat) : Prog :=
  .read fun s => whenP (s.chanRuns c) (match (s.chan c).cur with
    | none => seqs [raise Fld.DMA_CH_EVENT.ABORTED c, chIdle c St.aborted]
    | some d => if d.flush || !(s.chan c).bursts.isEmpty then modChan c fun u => { u with stopping := true }
        else descAborted c d)

/-- DMA_CH_ABORT (R277). -/
def execDmaChAbort (c : Nat) (s : State) : Out := finish (whenP (c < 68) (chAbort c)) s

/-- DMA_CH_CTRL.ENABLE is written 0 (R270); a retired channel ignores it (R495). -/
def chDisable (c : Nat) : Prog :=
  .read fun s => whenP (s.fld Fld.DMA_CH_STATUS.LOGICAL c != 126) <| seqs [
    clear Fld.DMA_CH_CTRL.ENABLE c,
    if s.chanState c = Fn.enabling || s.chanState c = Fn.error then chOff c
    else if s.chanState c = Fn.disabling then clear Fld.DMA_CH_STATUS.PENDING_ENABLE c
    else if s.chanState c = Fn.on then seqs [
      putN Fld.DMA_CH_STATUS.FUNC_STATE c Fn.disabling, if s.chanRuns c then chAbort c else chOff c]
    else .skip]

/-- DMA_CH_DISABLE (R270). -/
def execDmaChDisable (c : Nat) (s : State) : Out := finish (whenP (c < 68) (chDisable c)) s

/-! #### Descriptors -/

/-- Whether a device range lies in Table 08-8. -/
def devRange (a len : Nat) : Bool := decide (a + len ≤ 0x240000) || (decide (0x10000000 ≤ a) && decide (a + len ≤ 0x10300000))

/-- Whether a device range reaches an ITCM whose helm is not OFF (R274). -/
def State.reachesItcm (s : State) (a len : Nat) : Bool :=
  (List.range 18).any fun h => s.helmState h != Fn.off && decide (a < 0x20000 * h + 0x10000) && decide (0x20000 * h < a + len)

/-- Whether a descriptor is refused before any data moves (R274). -/
def State.descBad (s : State) (c : Nat) (d : Desc) : Bool :=
  decide (d.op ≥ 2) || (d.nextValid && (d.next == d.addr || d.next % 32 != 0)) || !devRange d.devAddr d.len ||
    decide (d.devAddr < s.fld Fld.DMA_CH_WIN_BASE.BASE c) || decide (d.devAddr + d.len > s.fld Fld.DMA_CH_WIN_LIMIT.LIMIT c) ||
    s.reachesItcm d.devAddr d.len

/-- The pieces of a descriptor's fragment table up to its first invalid entry, and whether one was met or 4,096 did not suffice. -/
def fragPieces (table : Nat → List Byte) (fuel i need : Nat) : List (Nat × Nat) × Bool :=
  match fuel with
  | 0 => ([], need != 0)
  | fuel + 1 =>
    if need = 0 then ([], false)
    else
      let e := table i
      let len := ofBytes ((e.drop 8).take 3)
      let flags := ofBytes ((e.drop 12).take 4)
      if len = 0 ∨ ofBytes ((e.drop 11).take 1) ≠ 0 ∨ flags > 1 then ([], true)
      else if len < need ∧ flags = 1 then ([(ofBytes (e.take 8), len)], true)
      else
        let r := fragPieces table fuel (i + 1) (need - min len need)
        ((ofBytes (e.take 8), min len need) :: r.1, r.2)

/-- All of a descriptor's data has moved (R276): the flush read of a device-to-host descriptor, or its completion. -/
def descMoved (c : Nat) (d : Desc) : Prog :=
  if d.short then descDone c d St.badFragment (d.len - d.moved)
  else if d.op = 1 ∧ d.len ≠ 0 then seqs [modChan c fun u => { u with cur := some { d with flush := true } }, chanAsk c]
  else descDone c d St.success 0

/-- A read left outstanding by a forced end ends: its data is discarded and its request returns (R336). -/
def chOrphan (c : Nat) : Prog := seqs [modChan c fun u => { u with orphans := u.orphans - 1 }, refreshDma]

/-- DESCRIPTOR_FETCH_COMPLETE (R273 to R275): the descriptor, or NEXT of the last one, arrives from memory. `parity` is
what the channel's descriptor engine found: 0 no parity error, 1 a corrected one (Table 17-2), 2 an uncorrectable one, which ends the descriptor
before a swap at once (R499). -/
def execDescriptorFetchComplete (c parity : Nat) (s : State) : Out :=
  let u := s.chan c
  finish (match u.fetching with
    | none => chOrphan c
    | some a => whenP (!u.npWait) <| seqs [whenP (parity == 1) (corrected 2 Kind.channel c 0), whenP (parity == 2) (unitFault Kind.channel c 0),
      let words := (List.range 8).map fun k => ofBytes (readBytes memDefault s.host (a + 4 * k) 4)
      let d : Desc := { addr := a, words := words }
      if u.resuming && parity != 2 then seqs [modChan c fun u => { u with resuming := false, fetching := none },
        if d.nextValid then chFetch c d.next else chIdle c St.success]
      else
        let f := if d.frag then fragPieces (s.fragEntry (s.chanOwner c) d.hostAddr) 4096 0 d.len
          else (if d.len = 0 then [] else [(d.hostAddr, d.len)], false)
        let d := { d with pieces := f.1, short := f.2 }
        seqs [
          countUp Fld.DMA_CH_COUNT.FETCHED c, putN Fld.DMA_CH_CUR_LO.CUR_LO c (a % 2 ^ 32), putN Fld.DMA_CH_CUR_HI.CUR_HI c (a / 2 ^ 32),
          modChan c fun u => { u with fetching := none, cur := some d, bursts := [], waitFrom := s.chr.ns }, refreshDma,
          whenP d.frag (hostRead (s.insFn (s.chanOwner c)) (s.chPasid c) d.hostAddr (16 * d.pieces.length)),
          if parity = 2 then descAborted c d
          else if s.descBad c d then descDone c d St.badEntry d.len
          else whenP (d.total == 0) (descMoved c d)]]) s

/-! #### Data -/

/-- The domains that a device address range lies in and that are off (R417). -/
def State.devOff (s : State) (a len : Nat) : List Nat :=
  if a ≥ 0x10000000 ∨ len = 0 then []
  else [helmDomain (a / 0x20000), helmDomain ((a + len - 1) / 0x20000)].dedup.filter fun d => !s.domGood d

/-- A channel's access to device memory (R417): an off domain is switched on and the access stalls; it goes on once the domain is good, or
once it has failed to report good. -/
def devAccess (c a len : Nat) (p : Prog) : Prog :=
  .read fun s =>
    let off := s.devOff a len
    let go := seqs [modChan c fun u => { u with stall := false }, p]
    if off.isEmpty then go
    else if !(s.chan c).stall then seqs [modChan c fun u => { u with stall := true }, forP off fun d => domainUp d true]
    else whenP (!off.any s.domComing) go

/-- Write bytes to a device address (Table 08-8): a helm's memories, or the bulk buffer, which stands at memory key 32. A write to an off
domain is dropped (R417). -/
def devWrite (a : Nat) (bs : List Byte) : Prog :=
  if a ≥ 0x10000000 then tcmPut 32 (a - 0x10000000) bs
  else
    let room := 0x10000 - a % 0x10000
    let part (a : Nat) (bs : List Byte) : Prog :=
      .read fun s => whenP (!bs.isEmpty && s.domGood (helmDomain (a / 0x20000)))
        (tcmFabricWrite (a / 0x20000) (a / 0x10000 % 2 == 0) (a % 0x10000) bs)
    seqs [part a (bs.take room), part (a + room) (bs.drop room)]

/-- Read bytes from a device address; an off domain answers 0 (R417). -/
def State.devRead (s : State) (a len : Nat) : List Byte :=
  if a ≥ 0x10000000 then s.tcmRead 32 (a - 0x10000000) len
  else (List.range len).flatMap fun k =>
    let b := a + k
    if s.domGood (helmDomain (b / 0x20000)) then
      s.tcmRead (b / 0x20000) (b % 0x20000 % 0x10000 + (if b / 0x10000 % 2 = 0 then 0 else 0x10000000)) 1
    else [0]

/-- Whether a channel has a burst to issue on an engine: bytes left, fewer than four bursts in flight (R269), no abort. -/
def State.chanReady (s : State) (wr : Bool) (c : Nat) : Bool :=
  match (s.chan c).cur with
  | some d => s.chanRuns c && (d.op == 1) == wr && decide (d.issued < d.total) && decide ((s.chan c).bursts.length < 4) &&
      !(s.chan c).stopping && !d.flush
  | none => false

/-- The class a channel is served in: 3 once it has waited AGE_US (R267). -/
def State.chanClass (s : State) (c : Nat) : Nat :=
  if s.fld Fld.DMA_CTRL.AGE_US ≠ 0 ∧ s.chr.ns ≥ (s.chan c).waitFrom + 1000 * s.fld Fld.DMA_CTRL.AGE_US then 3
  else s.fld Fld.DMA_CH_CFG.CLASS c

/-- The channel that an engine serves next (R267): the highest class, then the first from the rotating pointer. -/
def State.nextChan (s : State) (wr : Bool) : Option Nat :=
  let l := (List.range 68).filter (s.chanReady wr)
  let key (c : Nat) : Nat := (3 - s.chanClass c) * 68 + (c + 68 - s.dma.pointer % 68) % 68
  match l with
  | [] => none
  | c :: t => some (t.foldl (fun b x => if key x < key b then x else b) c)

/-- Bytes of the next burst of a descriptor (R268): up to `beats` 64-byte beats from the host address, in one piece and one 4 KiB
page, and as many as the function's requests take. -/
def Desc.burstLen (d : Desc) (beats most : Nat) : Nat :=
  match pieceRange d.pieces d.issued (d.total - d.issued) with
  | [] => 0
  | (a, n) :: _ => min (min n most) (min (64 * max 1 (min 8 beats) - a % 64) (4096 - a % 4096))

/-- BURST_ISSUE (R267 to R269): the read or the write engine issues its next burst; `ce` is 1 more than the SRAM row (array * 256 + row)
in which the read of device memory corrected an error (R496), or 0; a burst that a higher class ends early has fewer
than eight beats. The write engine's data leaves with the burst. -/
def execBurstIssue (wr : Bool) (beats ce : Nat) (s : State) : Out :=
  finish (match s.nextChan wr with
    | none => .skip
    | some c => match (s.chan c).cur with
      | none => .skip
      | some d =>
        let fn := s.insFn (s.chanOwner c)
        let n := d.burstLen beats (if wr then 512 else s.maxRead fn)
        if !wr && !s.requestFree fn then whenP (!(s.chan c).npWait) (seqs [modChan c fun u => { u with npWait := true }, npStall])
        else devAccess c (d.devAddr + d.issued) (if wr then n else 0) <| .read fun s => seqs [
          whenP (wr && ce != 0) (rowCorrected (ce - 1)),
          modDma fun u => { u with pointer := (c + 1) % 68 },
          modChan c fun u => { u with
            cur := some { d with issued := d.issued + n }, bursts := u.bursts ++ [(d.issued, n)], waitFrom := s.chr.ns, npWait := false },
          putN Fld.DMA_CH_STATUS.IN_FLIGHT c ((s.chan c).bursts.length + 1),
          whenP wr (forP (pieceRange d.pieces d.issued n) fun e => chWrite c e.1 (s.devRead (d.devAddr + d.issued) e.2)),
          whenP (!wr) (forP (pieceRange d.pieces d.issued n) fun e => hostRead fn (s.chPasid c) e.1 e.2),
          refreshDma]) s

/-- DMA_DATA_COMPLETE (R276, R277): the oldest burst of a channel completes. -/
def execDmaDataComplete (c : Nat) (s : State) : Out :=
  let u := s.chan c
  finish (if u.orphans ≠ 0 then chOrphan c else match u.cur, u.bursts with
    | some d, (off, n) :: rest =>
      let d' := { d with moved := d.moved + n }
      devAccess c (d.devAddr + off) (if d.op = 0 then n else 0) <| .read fun s => seqs [
        whenP (d.op == 0) (devWrite (d.devAddr + off) (s.readPieces d.pieces off n)),
        modChan c fun u => { u with cur := some d', bursts := rest }, putN Fld.DMA_CH_STATUS.IN_FLIGHT c rest.length, refreshDma,
        whenP rest.isEmpty (if d'.moved = d.total then descMoved c d' else whenP u.stopping (descAborted c d'))]
    | _, _ => .skip) s

/-- FLUSH_READ_COMPLETE (R276). -/
def execFlushReadComplete (c : Nat) (s : State) : Out :=
  finish (match (s.chan c).cur with
    | some d => whenP (d.flush && !(s.chan c).npWait) (descDone c d St.success 0)
    | none => chOrphan c) s

/-- A channel halts in ERROR (R278, R362). -/
def chError (c status : Nat) : Prog :=
  .read fun s => seqs [
    putN Fld.DMA_CH_STATUS.FUNC_STATE c Fn.error, raise Fld.DMA_CH_EVENT.FAULT c, raise Fld.DMA_EVENT.CH_FAULT,
    errCause Fld.HIC_ERR_CAUSE.CH_FAULT (s.chanOwner c), chIdle c status]

/-- DMA_COMPLETION_TIMEOUT (R278): a descriptor fetch, a data read or a flush read of a channel ends in a timeout or an Unsupported
Request. -/
def execDmaCompletionTimeout (c how : Nat) (s : State) : Out :=
  let u := s.chan c
  finish (whenP (!(u.npWait && (u.fetching.isSome || u.cur.any fun d => d.flush))) <| seqs [whenP (u.fetching.isSome || u.cur.isSome) (requestFailed (s.insFn (s.chanOwner c)) how), match u.fetching, u.cur with
    | some a, _ => seqs [putN Fld.DMA_CH_CUR_LO.CUR_LO c (a % 2 ^ 32), putN Fld.DMA_CH_CUR_HI.CUR_HI c (a / 2 ^ 32),
        chError c St.dmaReadFault]
    | none, some d =>
      if d.flush then seqs [chWriteBack c d St.dmaWriteFault (d.len - d.issued), chError c St.dmaWriteFault]
      else whenP (d.op == 0 && !u.bursts.isEmpty)
        (seqs [chWriteBack c d St.dmaReadFault (d.len - d.moved), chError c St.dmaReadFault])
    | none, none => chOrphan c]) s

/-- DMA (R308): the command starts its channel and completes when the chain ends. -/
def execDma (tag : Nat) (s : State) : Out :=
  finish (withCmd tag 0x83 fun cmd => .read fun s => match s.chanNamed (cmd.at 4 1) with
    | none => complete tag St.badEntry
    | some c =>
      let head := cmd.at 8 8 / 32 * 32
      if s.chanState c != Fn.on || s.chanRuns c then complete tag St.badEntry
      else seqs [running tag, putN Fld.DMA_CH_HEAD_LO.HEAD_LO c (head / 32 % 2 ^ 27), putN Fld.DMA_CH_HEAD_HI.HEAD_HI c (head / 2 ^ 32),
        chStart c head (some tag)]) s

/-- A channel is ended by FORCE or a wipe (R279, R335): its bursts are discarded, nothing is written back, and it goes to OFF. Reads still outstanding keep
their requests until they end (R336). -/
def chForce (c : Nat) : Prog :=
  .read fun s => seqs [
    modChan c fun u => { orphans := u.requests }, clear Fld.DMA_CH_STATUS.RUNNING c, clear Fld.DMA_CH_STATUS.IN_FLIGHT c,
    clear Fld.DMA_CH_STATUS.PENDING_ENABLE c, clear Fld.DMA_CH_CTRL.ENABLE c, putN Fld.DMA_CH_STATUS.FUNC_STATE c Fn.off,
    clear Fld.DMA_CH_CUR_LO.CUR_LO c, clear Fld.DMA_CH_CUR_HI.CUR_HI c, clear Fld.DMA_CH_RESIDUE.RESIDUE c,
    refreshChans (s.chanOwner c), refreshDma]

end Sys2Proof.Machine
end

