-- ==== Sys2Proof/Machine/Instances.lean ====
section
/-! DEFINITION. Virtual instances: binding and shares (R317 to R321), states (R329 to R331), holding, quiescing, wiping and forcing
(R333 to R337), the logbook (R339 to R342) and the commands and registers that do so (R338, R344). -/

namespace Sys2Proof.Machine

/-! ### Status -/

/-- The state of an instance (R329). -/
def State.insState (s : State) (i : Nat) : Nat := s.fld Fld.INS_STATUS.FUNC_STATE i

/-- The SQ contexts of an instance. -/
def State.sqsOf (s : State) (i : Nat) : List Nat := s.q.sqTaken.filter fun n => s.fld Fld.QM_SQ_CFG.OWNER n == i
/-- The CQ contexts of an instance. -/
def State.cqsOf (s : State) (i : Nat) : List Nat := s.q.cqTaken.filter fun n => s.fld Fld.QM_CQ_CFG.OWNER n == i

/-- Whether an SQ of an instance is not OFF. -/
def State.sqOn (s : State) (i : Nat) : Bool := (s.sqsOf i).any fun n => s.fld Fld.QM_SQ_STATUS.FUNC_STATE n != Fn.off

/-- The commands of an instance, and what the store holds for it. -/
def State.insBusy (s : State) (i : Nat) : Bool := s.q.cmds.any (fun e => e.2.ins == i) || s.heldOf i != 0

/-- Whether a channel is OFF, or ON and idle. -/
def State.chanQuiet (s : State) (c : Nat) : Bool := s.chanState c == Fn.off || (s.chanState c == Fn.on && !s.chanRuns c)

/-- Whether an instance is quiesced (R333). -/
def State.quiesced (s : State) (i : Nat) : Bool :=
  s.bit Fld.INS_STATUS.HOLDING i && !s.sqOn i && !s.insBusy i && (s.chansOf i).all s.chanQuiet && !s.piActive i && !s.taskRuns i

/-- Legs of an instance in the shadow bank (R322). -/
def State.legsOwned (s : State) (i : Nat) : Nat := ((legsOf (s.bank s.shadowIdx)).filter fun e => e.2.owner == i).length

/-- Bring INS_STATUS of an instance up to date (Table 10-9). -/
def refreshIns (i : Nat) : Prog :=
  .read fun s =>
    let b (f : Field) (v : Bool) : Prog := putN f i (if v then 1 else 0)
    seqs [
      b Fld.INS_STATUS.QUIESCED (s.quiesced i), b Fld.INS_STATUS.TAG_OVER (s.bit Fld.QM_INS_STATUS.OVER_SHARE i),
      b Fld.INS_STATUS.LEG_OVER (decide (s.legsOwned i ≥ min 16384 (s.fld Fld.INS_SHARE_LEG.LEG_QUOTA i))),
      b Fld.INS_STATUS.HOLD_FULL (decide (s.heldOf i ≥ s.holdMax i)), b Fld.INS_STATUS.TASK_RUN (s.taskRuns i),
      b Fld.INS_STATUS.PI_ACTIVE (s.piActive i), b Fld.INS_STATUS.BUSY (s.insBusy i), b Fld.INS_STATUS.SQ_ON (s.sqOn i),
      refreshChans i]

/-- Complete a command with INS_STATUS as RESULT (Table 10-5). -/
def completeIns (tag status i : Nat) : Prog :=
  seqs [refreshIns i, .read fun s => complete tag status (s.word 0x1800C i)]

/-! ### Enabling (R318, R320, R329) -/

/-- Whether the binding of an instance lets it enable (R318, R320). -/
def State.bindingOk (s : State) (i : Nat) : Bool :=
  let fn := s.insFn i
  let base := s.fld Fld.INS_VEC.VEC_BASE i
  let count := s.fld Fld.INS_VEC.VEC_COUNT i
  let others := s.ins.live.filter (· != i)
  decide (base + count ≤ 2048) &&
    others.all (fun j => s.insFn j != fn || s.fld Fld.INS_BIND.SLOT j != s.fld Fld.INS_BIND.SLOT i) &&
    others.all (fun j => s.insFn j != fn || !rangesMeet (base, base + count)
      (s.fld Fld.INS_VEC.VEC_BASE j, s.fld Fld.INS_VEC.VEC_BASE j + s.fld Fld.INS_VEC.VEC_COUNT j)) &&
    decide (count + ((others.map fun j => s.fld Fld.INS_VEC.VEC_COUNT j).foldl (· + ·) 0) ≤ 16384)

/-- ENABLING starts, or the checks send the instance back to OFF (R329). -/
def insEnabling (i : Nat) (refused : Prog) : Prog :=
  .read fun s => if s.bindingOk i then seqs [
      raise Fld.INS_CTRL.ENABLE i, putN Fld.INS_STATUS.FUNC_STATE i Fn.enabling, clear Fld.INS_CTRL.HOLD i,
      modIns fun u => { u with live := u.live.filter (· != i) ++ [i] }]
    else seqs [clear Fld.INS_CTRL.ENABLE i, raise Fld.INS_EVENT.CFG_REFUSED, refused]

/-- The INSTANCE_CTRL ENABLE commands that wait for an instance. -/
def State.enableTags (s : State) (i : Nat) : List Nat := s.waiting 0x22 i

/-- An instance reaches OFF; PENDING_ENABLE starts ENABLING (R329). -/
def insOff (i : Nat) : Prog :=
  .read fun s => seqs [
    putN Fld.INS_STATUS.FUNC_STATE i Fn.off, clear Fld.INS_STATUS.ERR_CAUSE i,
    modIns fun u => { u with live := u.live.filter (· != i) },
    whenP (s.bit Fld.INS_STATUS.PENDING_ENABLE i) (seqs [clear Fld.INS_STATUS.PENDING_ENABLE i,
      insEnabling i (forP (s.enableTags i) fun t => complete t St.badEntry)]),
    refreshIns i]

/-- ENABLE = 1 (R329): `refused` says what an instance that fails its checks, or is in ERROR, brings. -/
def insEnable (i : Nat) (refused done : Prog) : Prog :=
  .read fun s =>
    if s.insState i = Fn.off then seqs [insEnabling i refused, refreshIns i]
    else if s.insState i = Fn.disabling then seqs [raise Fld.INS_CTRL.ENABLE i, raise Fld.INS_STATUS.PENDING_ENABLE i]
    else if s.insState i = Fn.error then refused
    else if s.insState i = Fn.on then done
    else .skip

/-- INS_ENABLE (R329): INS_CTRL.ENABLE is written 1. -/
def execInsEnable (s : State) : Out := finish (insEnable (s.fld Fld.INS_INDEX.INSTANCE) .skip .skip) s

/-- INSTANCE_ENABLED (R329): the commands that wait complete. -/
def execInstanceEnabled (i : Nat) (s : State) : Out :=
  finish (whenP (s.insState i == Fn.enabling) (seqs [
    putN Fld.INS_STATUS.FUNC_STATE i Fn.on, raise Fld.INS_EVENT.ENABLED,
    forP (s.enableTags i) fun t => completeIns t St.success i])) s

/-- ENABLE = 0 (R330). I0 does not leave ON. -/
def insDisable (i : Nat) : Prog :=
  .read fun s => whenP (i != 0) (
    if s.insState i = Fn.on || s.insState i = Fn.error then seqs [
      clear Fld.INS_CTRL.ENABLE i, putN Fld.INS_STATUS.FUNC_STATE i Fn.disabling, raise Fld.INS_CTRL.HOLD i,
      forP (s.sqsOf i) sqDisable]
    else if s.insState i = Fn.enabling then seqs [clear Fld.INS_CTRL.ENABLE i, insOff i,
      forP (s.enableTags i) fun t => complete t St.badEntry]
    else if s.insState i = Fn.disabling then seqs [clear Fld.INS_CTRL.ENABLE i, clear Fld.INS_STATUS.PENDING_ENABLE i,
      forP (s.enableTags i) fun t => complete t St.badEntry]
    else clear Fld.INS_CTRL.ENABLE i)

/-- INS_DISABLE (R330): INS_CTRL.ENABLE is written 0. -/
def execInsDisable (s : State) : Out := finish (insDisable (s.fld Fld.INS_INDEX.INSTANCE)) s

/-- HOLD is written: it takes effect at the next meridian (R333). -/
def insHold (i : Nat) (v : Bool) : Prog := putN Fld.INS_CTRL.HOLD i (if v then 1 else 0)

/-- INS_HOLD_WRITE (R333). -/
def execInsHoldWrite (v : Bool) (s : State) : Out := finish (insHold (s.fld Fld.INS_INDEX.INSTANCE) v) s

/-- FAIL (R331): only an instance that is ON, never I0. -/
def execInsFail (s : State) : Out := finish (insError (s.fld Fld.INS_INDEX.INSTANCE) 3) s

/-- At a meridian, every HOLD written takes or ends effect (R333). -/
def holdEffect : Prog :=
  .read fun s =>
    let a := s.listed Fld.INS_CTRL.HOLD
    let l := a ++ (s.listed Fld.INS_STATUS.HOLDING).filter fun i => !a.contains i
    forP l fun i => putN Fld.INS_STATUS.HOLDING i (s.fld Fld.INS_CTRL.HOLD i)

/-! ### The wipe (R335, R366) -/

/-- The conversations of an instance's commands. -/
def State.convsOfIns (s : State) (i : Nat) : List Nat := (s.conv.convs.filter fun e => s.convIns e.2 == some i).map (·.1)

/-- A task is wiped: disabled, its state record zeroed, its save frame discarded, its semaphores released. -/
def taskWipe (t : Nat) : Prog :=
  .read fun s =>
    let r := s.taskOf t
    seqs [
      (match (if r.live then r.lastHelm.bind s.helmNamed else none) with
        | some h => if (s.helm h).task = some t then taskEnd h t s.now12 false false
            else seqs [taskGone h t s.now12 false, modHelm h fun u => { u with
                frames := u.frames.filter fun f => f.task != t, spill := u.spill.filter fun f => f.task != t }, refreshHelm h]
        | none => .skip),
      modTaskOf t fun r => { desc := r.desc }]

/-- The queues of an instance are wiped: transfers, tags, held entries, cache lines, contexts (Table 10-3). -/
def wipeQueues (i : Nat) : Prog :=
  .read fun s =>
    let sqs := s.sqsOf i
    let cqs := s.cqsOf i
    seqs [
      forP (s.convsOfIns i) fun k => (match s.convOf k with
        | some c => whenP (c.state != .queued && c.pipe != 0) (modPipe c.node c.pipe fun p => { p with halted := true })
        | none => .skip),
      modConv fun u => { u with convs := u.convs.filter fun e => !(s.convsOfIns i).contains e.1 },
      forP (s.q.cmds.filter fun e => e.2.ins == i) fun e => freeTag e.1,
      modQ fun u => { u with
        held := u.held.filter fun e => !cqs.contains e.1, fetching := u.fetching.filter fun n => !sqs.contains n
        orphans := u.orphans ++ (u.fetching.filter fun n => sqs.contains n).map fun _ => s.insFn i
        entryCache := u.entryCache.filter fun e => !sqs.contains (e.1 / 65536)
        discarding := u.discarding.filter fun n => !cqs.contains n, evLost := tset 0 u.evLost i 0
        sqTaken := u.sqTaken.filter fun n => !sqs.contains n, cqTaken := u.cqTaken.filter fun n => !cqs.contains n },
      dropFrags i,
      forP sqs fun n => resetFields (fieldsOf .sq) n, forP cqs fun n => resetFields (fieldsOf .cq) n,
      putN Fld.QM_INS_STATUS.TAGS_USED i 0, putN Fld.QM_INS_STATUS.OVER_SHARE i 0, putN Fld.QM_INS_STATUS.IDLE i 1,
      .read fun s => put Fld.QM_STATUS.HELD s.q.held.length, deliverBlocked, wakeIdle]

/-- The process image of an instance is wiped. -/
def wipePi (i : Nat) : Prog :=
  seqs [clear Fld.DMA_PI_CFG.ENABLE i, clear Fld.DMA_PI_BASE_LO.BASE_LO i, clear Fld.DMA_PI_BASE_HI.BASE_HI i,
    clear Fld.DMA_PI_STATUS.ACTIVE i, clear Fld.INS_STATUS.PI_ACTIVE i, modStream i fun u => { reads := u.reads, stamp := u.stamp }]

/-- The vectors and error causes of an instance are cleared (R366). -/
def wipeVectors (i : Nat) : Prog :=
  .read fun s => seqs [
    forP (List.range (s.fld Fld.INS_VEC.VEC_COUNT i)) fun v =>
      let k := vecKey (s.insFn i) (s.fld Fld.INS_VEC.VEC_BASE i + v)
      vectorStops k,
    forP [Fld.HIC_ERR_CAUSE.LOG_LOST, Fld.HIC_ERR_CAUSE.INS_ERROR, Fld.HIC_ERR_CAUSE.CQ_ERROR, Fld.HIC_ERR_CAUSE.SQ_ERROR,
      Fld.HIC_ERR_CAUSE.PI_FAULT, Fld.HIC_ERR_CAUSE.CH_FAULT] fun f => clear f i]

/-- The logbook of an instance stops and is emptied. -/
def wipeLog (i : Nat) : Prog :=
  seqs [clear Fld.INS_LOG_CFG.RUNNING i, clear Fld.INS_LOG_IDX.HEAD i,
    modIns fun u => { u with logTail := tset 0 u.logTail i 0, logSeen := tset [] u.logSeen i [] }]

/-- Wipe an instance (Table 10-3). It leaves the wipe with HOLD still 1. -/
def insWipe (i : Nat) : Prog :=
  .read fun s => seqs [
    wipeQueues i,
    forP ((List.range 68).filter fun c => s.chanOwner c == i) chForce,
    wipePi i,
    forP ((List.range 64).filter fun r => s.fld Fld.DMA_ROUTE_SRC.OWNER r == i) fun r => clear Fld.DMA_ROUTE_CFG.ENABLE r,
    forP ((s.task.tasks.filter fun e => e.2.owner == i).map (·.1)) taskWipe, refreshTasks i,
    wipeLog i, wipeVectors i,
    forP (s.q.cmds.filter fun e => e.2.ins != i && e.2.stage == .running && (e.2.opcode == 0x05 || e.2.opcode == 0x23) &&
        e.2.at 4 2 == i) fun e => if e.2.opcode = 0x05 then complete e.1 St.wiped else completeIns e.1 St.wiped i,
    raise Fld.INS_EVENT.WIPED]

/-- An instance is wiped and moved to OFF (R330, R334). -/
def insWipeOff (i : Nat) : Prog := seqs [insWipe i, clear Fld.INS_CTRL.ENABLE i, insOff i, raise Fld.INS_CTRL.HOLD i]

/-- INSTANCE_QUIESCED (R330, R333): QUIESCE completes, and a DISABLING instance is wiped and moves to OFF. -/
def insQuiesced (i : Nat) : Prog :=
  .read fun s => whenP (s.quiesced i) (seqs [
    refreshIns i,
    forP ((s.q.cmds.filter fun e => e.2.stage == .running && e.2.opcode == 0x23 && e.2.at 4 2 == i).map (·.1)) fun t =>
      completeIns t St.success i,
    .read fun s => whenP (s.insState i == Fn.disabling) (seqs [insWipe i, insOff i,
      .read fun t => whenP (t.insState i == Fn.off) (raise Fld.INS_CTRL.HOLD i)])])

/-- INSTANCE_QUIESCED (R330, R333). -/
def execInstanceQuiesced (i : Nat) (s : State) : Out := finish (whenP (i < 4096) (insQuiesced i)) s

/-! ### FORCE (R336, R337) -/

/-- From the instant of the Keeper's check: fetching stops, HOLD is set, transfers are aborted with one handshake grant each,
channels end, and commands end without completion. The wipe follows at the next meridian. -/
def forceStart (i : Nat) (flr : Bool) : Prog :=
  .read fun s => seqs [
    raise Fld.INS_CTRL.HOLD i,
    modIns fun u => { u with
      wipeAt := u.wipeAt.filter (· != i) ++ [i]
      flrAt := if flr then u.flrAt.filter (· != i) ++ [i] else u.flrAt },
    modQ fun u => { u with cmds := u.cmds.map fun e => if e.2.ins = i then (e.1, { e.2 with forced := true }) else e },
    forP ((List.range 68).filter fun c => s.chanOwner c == i && s.chanState c != Fn.off) chForce,
    forP (s.convsOfIns i) fun k => seqs [abortConv k St.wiped, modConvOf k fun c => { c with endStatus := St.wiped, setAside := c.limit }],
    .read fun t => forP (t.q.cmds.filter fun e => e.2.ins == i && !(t.conv.convs.any fun v => v.2.tag == some e.1)) fun e =>
      freeTag e.1]

/-- The wipes that FORCE and FLR asked for (R336, R337): the RESET_INSTANCE that waits completes, RESULT the commands ended and
AUX the held entries discarded. -/
def forceWipes : Prog :=
  .read fun s => forP s.ins.wipeAt fun i => .read fun s =>
    let held := s.heldOf i
    seqs [
      modIns fun u => { u with wipeAt := u.wipeAt.filter (· != i), flrAt := u.flrAt.filter (· != i) },
      whenP (i != 0) (seqs [insWipe i, clear Fld.INS_CTRL.ENABLE i, insOff i,
        .read fun t => whenP (t.insState i == Fn.off) (raise Fld.INS_CTRL.HOLD i)]),
      whenP (s.ins.flrAt.contains i) (raise Fld.INS_EVENT.FLR_WIPED),
      forP (s.q.cmds.filter fun e => e.2.stage == .running && e.2.opcode == 0x24 && e.2.at 4 2 == i) fun e =>
        complete e.1 St.success e.2.progress held]

/-- FORCE while no meridian occurs: the wipe follows at once (R336's bound). -/
def forceIns (i : Nat) (flr : Bool) : Prog :=
  seqs [forceStart i flr, .read fun s => whenP (!(s.bit Fld.CHT_STATUS.RUNNING || s.chr.runDue)) (seqs [holdEffect, forceWipes])]

/-! ### Commands (R338) -/

/-- An instance command: its number lies in 0 to 4,095, and it does not name I0 unless it may. -/
def insCmd (tag op : Nat) (i0 : Bool) (k : Cmd → Nat → Prog) : Prog :=
  withCmd tag op fun c => if c.at 4 2 ≥ 4096 ∨ (c.at 4 2 = 0 ∧ !i0) then complete tag St.badEntry else k c (c.at 4 2)

/-- BIND_INSTANCE (R317). -/
def execBindInstance (tag : Nat) (s : State) : Out :=
  finish (insCmd tag 0x20 false fun c i => .read fun s =>
    if s.insState i != Fn.off || decide (c.at 8 2 > (if c.at 6 1 = 0 then 4095 else 63)) || decide (c.at 10 2 > 2047) ||
        decide (c.at 12 2 > 2048) then complete tag St.badEntry
    else seqs [
      putN Fld.INS_BIND.FUNCTION i (c.at 6 1), putN Fld.INS_BIND.SLOT i (c.at 8 2), putN Fld.INS_VEC.VEC_BASE i (c.at 10 2),
      putN Fld.INS_VEC.VEC_COUNT i (c.at 12 2), putN Fld.INS_PASID.PASID i (bitsAt (c.at 16 4) 0 20),
      putN Fld.INS_PASID.PASID_EN i (bitsAt (c.at 16 4) 31 1), complete tag St.success]) s

/-- The shares of SET_SHARES in the order of Table 10-2: field, value and range. -/
def shareList (c : Cmd) : List (Field × Nat × Nat × Nat) :=
  [(Fld.INS_SHARE_TAG.TAG_SHARE, c.at 8 4, 0, 65536), (Fld.INS_SHARE_LEG.LEG_QUOTA, c.at 12 2, 0, 16384),
   (Fld.INS_SHARE_CH.CH_SHARE, c.at 14 1, 0, 64), (Fld.INS_SHARE_BW.BULK_SLOTS, c.at 16 2, 0, 4095),
   (Fld.INS_SHARE_BW.FETCH_BURST, c.at 15 1, 1, 64), (Fld.INS_SHARE_HOLD.HOLD_MAX, c.at 18 2, 32, 8192)]

/-- SET_SHARES (R321): a selected value out of range refuses the command. -/
def execSetShares (tag : Nat) (s : State) : Out :=
  finish (insCmd tag 0x21 true fun c i =>
    let sel := ((shareList c).zipIdx.filter fun e => bitAt (c.at 6 1) e.2).map (·.1)
    if sel.all fun e => e.2.2.1 ≤ e.2.1 ∧ e.2.1 ≤ e.2.2.2 then seqs [
      forP sel fun e => putN e.1 i e.2.1,
      .read fun s => putN Fld.QM_INS_STATUS.OVER_SHARE i
        (if s.fld Fld.QM_INS_STATUS.TAGS_USED i > min 65536 (s.fld Fld.INS_SHARE_TAG.TAG_SHARE i) then 1 else 0),
      refreshIns i, complete tag St.success]
    else complete tag St.badEntry) s

/-- An INSTANCE_CTRL command of one action. -/
def insCtrl (tag action : Nat) (k : Nat → Prog) : Prog :=
  withAction tag 0x22 6 action fun c => if c.at 4 2 ≥ 4096 ∨ c.at 4 2 = 0 then complete tag St.badEntry else k (c.at 4 2)

/-- INSTANCE_CTRL_ENABLE (R329): completes on reaching ON. -/
def execInstanceCtrlEnable (tag : Nat) (s : State) : Out :=
  finish (insCtrl tag 0 fun i => seqs [running tag i,
    insEnable i (complete tag St.badEntry) (completeIns tag St.success i)]) s

/-- INSTANCE_CTRL_DISABLE (R330). -/
def execInstanceCtrlDisable (tag : Nat) (s : State) : Out :=
  finish (insCtrl tag 1 fun i => seqs [insDisable i, completeIns tag St.success i]) s

/-- INSTANCE_CTRL_HOLD (R333). -/
def execInstanceCtrlHold (tag : Nat) (s : State) : Out :=
  finish (insCtrl tag 2 fun i => seqs [insHold i true, completeIns tag St.success i]) s

/-- INSTANCE_CTRL_UNHOLD (R333). -/
def execInstanceCtrlUnhold (tag : Nat) (s : State) : Out :=
  finish (insCtrl tag 3 fun i => seqs [insHold i false, completeIns tag St.success i]) s

/-- INSTANCE_CTRL_FAIL (R331): on an instance not ON it is refused. -/
def execInstanceCtrlFail (tag : Nat) (s : State) : Out :=
  finish (insCtrl tag 4 fun i => .read fun s => if s.insState i = Fn.on then seqs [insError i 3, completeIns tag St.success i]
    else complete tag St.badEntry) s

/-- QUIESCE (R333): HOLD, the SQs disabled, the channels aborted; it completes when the instance is quiesced. -/
def execQuiesce (tag : Nat) (s : State) : Out :=
  finish (insCmd tag 0x23 false fun _ i => .read fun s => seqs [
    running tag s.chr.ns, insHold i true, forP (s.sqsOf i) sqDisable, forP (s.chansOf i) chAbort, insQuiesced i]) s

/-- QUIESCE_TIMEOUT (R333). -/
def execQuiesceTimeout (tag : Nat) (s : State) : Out :=
  finish (match s.cmd tag with
    | none => .skip
    | some c => whenP (c.opcode == 0x23 && c.stage == .running && c.at 8 4 != 0)
        (atNs (c.progress + c.at 8 4 * 1000000) (completeIns tag St.timeout (c.at 4 2)))) s

/-- RESET_INSTANCE (R334) without FORCE. -/
def execResetInstance (tag : Nat) (s : State) : Out :=
  finish (insCmd tag 0x24 false fun c i => .read fun s => whenP (!c.flag 3) (
    if s.insState i = Fn.off then complete tag St.success
    else if s.quiesced i then seqs [insWipeOff i, complete tag St.success]
    else completeIns tag St.notQuiesced i)) s

/-- RESET_INSTANCE_FORCE (R336): a critical command; it completes at the wipe. -/
def execResetInstanceForce (tag : Nat) (s : State) : Out :=
  finish (withCmd tag 0x24 fun c => .read fun s => whenP (c.flag 3) (
    let i := c.at 4 2
    if !c.flag 0 then complete tag St.authFailed
    else if i = 0 ∨ i ≥ 4096 then complete tag St.badEntry
    else if s.insState i = Fn.off then complete tag St.success
    else seqs [running tag (s.q.cmds.filter fun e => e.2.ins == i).length, forceIns i false])) s

/-! ### The logbook (R339 to R342) -/

/-- A LOGBOOK command of one action. -/
def logbook (tag action : Nat) (k : Cmd → Nat → Prog) : Prog :=
  withAction tag 0x25 6 action fun c =>
    if c.at 4 2 ≥ 4096 ∨ c.at 4 2 = 0 then complete tag St.badEntry else k c (c.at 4 2)

/-- LOGBOOK completes with the tail and the lost entries (Table 10-5). -/
def logDone (tag i : Nat) : Prog :=
  .read fun s => complete tag St.success (s.logTail i) (s.fld Fld.INS_LOG_CFG.UNLOGGED i)

/-- LOGBOOK_START (R339). -/
def execLogbookStart (tag : Nat) (s : State) : Out :=
  finish (logbook tag 0 fun c i => .read fun s =>
    let log := c.at 7 1
    if s.bit Fld.INS_LOG_CFG.RUNNING i || c.at 8 8 % 4096 != 0 || decide (log < 10) || decide (20 < log) then
      complete tag St.badEntry
    else seqs [
      putN Fld.INS_LOG_BASE_LO.BASE_LO i (c.at 8 8 / 4096 % 2 ^ 20), putN Fld.INS_LOG_BASE_HI.BASE_HI i (c.at 8 8 / 2 ^ 32),
      putN Fld.INS_LOG_CFG.SIZE_LOG i log, raise Fld.INS_LOG_CFG.RUNNING i, clear Fld.INS_LOG_CFG.LOST i,
      clear Fld.INS_LOG_CFG.UNLOGGED i, clear Fld.INS_LOG_IDX.HEAD i,
      modIns fun u => { u with logTail := tset 0 u.logTail i 0, logSeen := tset [] u.logSeen i [] }, logDone tag i]) s

/-- LOGBOOK_SYNC (R342): every write issued has been logged before it; the filter is cleared. -/
def execLogbookSync (tag : Nat) (s : State) : Out :=
  finish (logbook tag 1 fun _ i => seqs [modIns fun u => { u with logSeen := tset [] u.logSeen i [] }, logDone tag i]) s

/-- LOGBOOK_STOP (R339). -/
def execLogbookStop (tag : Nat) (s : State) : Out :=
  finish (logbook tag 2 fun _ i => seqs [clear Fld.INS_LOG_CFG.RUNNING i, logDone tag i]) s

/-- READ_INSTANCE (R338). -/
def execReadInstance (tag : Nat) (s : State) : Out :=
  finish (insCmd tag 0x26 true fun c i => seqs [refreshIns i, .read fun s =>
    writeData tag c (c.at 8 8) ([s.word 0x1800C i, s.word 0x18010 i, s.word 0x18018 i, s.fld Fld.QM_INS_STATUS.TAGS_USED i,
      s.legsOwned i, (s.chansOf i).length, s.heldOf i, s.logTail i].flatMap fun w => toBytes w 4)]) s

/-! ### Registers and functions -/

/-- A write of INS_BIND (0), INS_PASID (1) or INS_VEC (2), refused unless the instance is OFF and not I0 (R344). -/
def insBindWrite (reg v : Nat) : Prog :=
  .read fun s =>
    let i := s.fld Fld.INS_INDEX.INSTANCE
    if s.insState i != Fn.off || i == 0 then raise Fld.INS_EVENT.CFG_REFUSED
    else if reg = 0 then seqs [putN Fld.INS_BIND.FUNCTION i (bitsAt v 20 8), putN Fld.INS_BIND.SLOT i (bitsAt v 0 12)]
    else if reg = 1 then seqs [putN Fld.INS_PASID.PASID_EN i (bitsAt v 31 1), putN Fld.INS_PASID.PASID i (bitsAt v 0 20)]
    else seqs [putN Fld.INS_VEC.VEC_COUNT i (bitsAt v 16 12), putN Fld.INS_VEC.VEC_BASE i (bitsAt v 0 11)]

/-- INS_BIND_WRITE (R344). -/
def execInsBindWrite (reg v : Nat) (s : State) : Out := finish (whenP (reg < 3) (insBindWrite reg v)) s

/-- BUS_MASTER_DISABLE (R331): the function's instances enter ERROR; I0 stays ON. -/
def busMasterOff (fn : Nat) : Prog :=
  .read fun s => seqs [modFn fn fun c => { c with bme := false }, vectorsHeld fn,
    forP (s.ins.live.filter fun i => s.insFn i == fn) fun i => insError i 1]

/-- BUS_MASTER_DISABLE (R331). -/
def execBusMasterDisable (fn : Nat) (s : State) : Out :=
  finish (whenP (fn < 256) (seqs [raise Fld.GBL_PCIE_EVENT.BME_CLEARED, busMasterOff fn])) s

/-- The instances bound to a VF are wiped as FORCE does (R337). -/
def flrInstances (fn : Nat) : Prog :=
  .read fun s => forP (s.ins.live.filter fun i => s.insFn i == fn && i != 0) fun i => forceIns i true

/-- An FLR of a VF (R337, R521). -/
def vfFlr (fn : Nat) : Prog :=
  whenP (1 ≤ fn && fn < 256) (seqs [
    flrInstances fn, modFn fn fun _ => {}, vectorsHeld fn, modIcu fun u => { u with msix := u.msix.filter fun e => e.1 / 2048 != fn },
    raise Fld.GBL_PCIE_EVENT.FLR_VF, put Fld.GBL_PCIE_STATUS.LAST_FLR_VF fn])

/-- VF_FLR (R337, R521). -/
def execVfFlr (fn : Nat) (s : State) : Out := finish (vfFlr fn) s

/-! ### ABORT (R311) -/

/-- The oldest other command of an issuer's SQ with a CID. -/
def State.abortTarget (s : State) (tag : Nat) (c : Cmd) : Option (Nat × Cmd) :=
  s.q.cmds.find? fun e => e.1 != tag && e.2.ins == c.ins && s.fld Fld.QM_SQ_CFG.Q e.2.sq == c.at 5 1 && e.2.cid == c.at 6 2

/-- A target that has not completed ends: a transfer under R200, a DMA command under R277, a WAIT_IDLE at once. What has not started yet
completes with ABORTED. `found` is what becomes of the ABORT itself. -/
def abortTarget (t : Nat) (e : Cmd) (found : Nat → Prog) : Prog :=
  .read fun s =>
    let op := e.opcode
    match e.stage with
    | .blocked _ => found 0
    | .running =>
      if op = 0x05 then seqs [complete t St.aborted, found 1]
      else if op = 0x80 ∨ op = 0x81 ∨ op = 0x82 then match s.conv.convs.find? fun v => v.2.tag == some t with
        | some v => seqs [abortConv v.1 St.aborted, found 1]
        | none => found 0
      else match s.dma.channels.find? fun v => v.2.tag == some t with
        | some v => seqs [chAbort v.1, found 1]
        | none => found 0
    | _ =>
      if op = 0x05 ∨ op = 0x80 ∨ op = 0x81 ∨ op = 0x82 ∨ op = 0x83 then seqs [complete t St.aborted, found 1] else found 0

/-- ABORT (R311). -/
def execAbort (tag : Nat) (s : State) : Out :=
  finish (withCmd tag 0x07 fun c => .read fun s =>
    let done (n : Nat) : Prog := complete tag St.success n
    if c.at 4 1 > 1 then complete tag St.badEntry
    else if c.at 4 1 = 1 then match s.chanNamed (c.at 6 1) with
      | none => done 0
      | some k => if s.chanOwner k = c.ins ∧ s.chanRuns k then seqs [chAbort k, done 1] else done 0
    else match s.abortTarget tag c with
      | none => done 0
      | some e => abortTarget e.1 e.2 done) s

end Sys2Proof.Machine
end

