-- ==== Sys2Proof/Machine/Chronometer.lean ====
section
/-! DEFINITION. The chronometer and time alignment: time states and discipline (R50 to R56), the time domain (R46 to R48), steps and
spread spectrum (R30, R31, R57), link fixes and bearings (R33 to R43). Instants measured at pins are in 2^-16 ns of the
chronometer's value. -/

namespace Sys2Proof.Machine

/-! ### Commits -/

/-- The role of Table 02-27: 0 OFF, 1 ROOT, 2 FOLLOW; 3 acts as OFF, and so does a standby (R430). -/
def State.role (s : State) : Nat := let r := s.fld Fld.CHR_SYNC_CFG.ROLE; if r = 3 ∨ s.standby then 0 else r

/-- Whether PPS_EN applies: a standby ignores it (R430). -/
def State.ppsOn (s : State) : Bool := s.bit Fld.CHR_CTRL.PPS_EN && !s.standby

/-- Whether a reference is configured (R51): a PPS to discipline to, or a domain to follow. -/
def State.reference (s : State) : Bool := s.role == 2 || s.ppsOn

/-- Whether SSC may not run (R31). -/
def State.sscForbidden (s : State) : Bool := s.role != 0 || s.ppsOn

/-- SSC stops where a setting forbids it (R31). -/
def sscStop : Prog :=
  .read fun s => whenP (s.bit Fld.CHR_STATUS.SSC_ACTIVE && s.sscForbidden)
    (seqs [clear Fld.CHR_STATUS.SSC_ACTIVE, raise Fld.CHR_STATUS.SSC_BLOCKED])

/-- What happens at an instant in 2^-16 ns since reset: the chronometer moves there, and the rest follows if it has been reached. -/
def atFine (t : Nat) (p : Prog) : Prog := seqs [advanceFine t, .read fun s => whenP (decide (t ≤ s.fine)) p]

/-- The chronometer value at an instant in 2^-16 ns since reset, in 2^-16 ns. -/
def State.fineChron (s : State) (t : Nat) : Nat := (((t : Int) + 65536 * s.chr.stepSum) % 2 ^ 80).toNat

/-- Send SET_BEARING to a node that accepts it (R40). The values and the apply tick are those at the instant its SETUP leaves, so one that has not left yet
stands for a later one. -/
def sendBearing (a : Nat) : Prog :=
  .read fun s => whenP (!s.standby && bitAt (s.nrec a).features 2 && (s.bearing a).state != .none &&
      !(s.conv.convs.any fun e => e.2.node == a && e.2.tag.isNone && (e.2.stamp == 1 || e.2.stamp == 2) && e.2.setupAt.isNone))
    (treeRequest (s.node a).port a (setupBytes 0 0x06 0 0 40) (List.replicate 40 0) 1)

/-- SET_BEARING once more to the nodes whose last one applies at or after a tick (R40). -/
def resendBearings (tick : Nat) : Prog :=
  .read fun s => forP (s.tree.bearings.filter fun e => e.2.state != .none && e.2.sent.isSome && decide (tick ≤ e.2.sentApply))
    fun e => sendBearing e.1

/-- A step changes the value the chronometer shows, and EPOCH (R57): STEP_DONE, the realignment of R26, fixes in flight
discarded (R58), and timers passed (R358). `opens` is whether a tick opens with it, in which no edge or boundary is used for discipline (R58). -/
def stepBy (amount : Int) (opens : Bool) : Prog :=
  .read fun s => whenP (amount != 0) (seqs [
    modChr fun c => { c with
      stepSum := c.stepSum + amount, stepTick := if opens then some c.tick else none
      alignPending := c.alignPending || s.bit Fld.CHR_CTRL.MERID_ALIGN },
    put Fld.CHR_STATUS.EPOCH ((s.fld Fld.CHR_STATUS.EPOCH + 1) % 4), raise Fld.CHR_STATUS.STEP_DONE,
    forP s.fixes fun e => modFix e.1 fun f => { f with outstanding := none },
    timersPassed])

/-- SET_BEARING to every node that holds a bearing, after a step (R57), once the tick that begins has its length. -/
def stepBearings : Prog :=
  .read fun s => forP (s.tree.bearings.filter fun e => e.2.state != .none && e.2.sent.isSome) fun e => sendBearing e.1

/-- The hand-over of CHR_COMMIT (R57): CHR_STEP is cleared, a nonzero amount is a step, and SSC takes its committed setting unless
it is forbidden (R30, R31). -/
def chrHandover (opens : Bool) : Prog :=
  .read fun s => seqs [
    clear Fld.CHR_COMMIT.PENDING, clear Fld.CHR_STEP_LO.STEP_LO, clear Fld.CHR_STEP_HI.STEP_HI,
    modChr fun c => { c with stepLatched := false, sscDepth := min 50 (s.fld Fld.CHR_SSC.SSC_DEPTH) },
    if s.bit Fld.CHR_SSC.SSC_EN && s.sscForbidden then
      seqs [clear Fld.CHR_STATUS.SSC_ACTIVE, raise Fld.CHR_STATUS.SSC_BLOCKED]
    else put Fld.CHR_STATUS.SSC_ACTIVE (s.fld Fld.CHR_SSC.SSC_EN),
    stepBy s.stepAmount opens]

/-- The step of a follower's first lock (R47). -/
def domainStep (opens : Bool) : Prog :=
  .read fun s => match s.chr.domainStep with
    | none => .skip
    | some a => seqs [modChr fun c => { c with domainStep := none, domainLatched := false }, stepBy a opens]

/-- CHR_COMMIT (R57): accepted for hand-over at a meridian, or 1 us later while stopped (R11). -/
def chrCommitReg : Prog :=
  .read fun s =>
    whenP (!s.bit Fld.CHR_COMMIT.PENDING)
        (seqs [raise Fld.CHR_COMMIT.PENDING, modChr fun c => { c with stepDueNs := c.ns + 1000 }])
/-- CHR_COMMIT (R57). -/
def execChrCommit (s : State) : Out := finish chrCommitReg s

/-- CHR_TIME_SNAPSHOT (R24). -/
def timeSnapshot : Prog :=
  .read fun s =>
    seqs [
        put Fld.CHR_TIME_LO.NS_LO s.chron, put Fld.CHR_TIME_HI.NS_HI (s.chron / 2 ^ 32), put Fld.CHR_TIME_FRAC.FRAC s.chr.frac,
        put Fld.CHR_TICK_LO.TICK_LO s.tick, put Fld.CHR_TICK_HI.TICK_HI (s.tick / 2 ^ 32)]
/-- CHR_TIME_SNAPSHOT (R24). -/
def execChrTimeSnapshot (s : State) : Out := finish timeSnapshot s

/-- A trim clamped to 100 ppm (R23). -/
def clampTrim (v : Int) : Int := max (-429497) (min 429497 v)

/-- What a list of trims, newest first, keeps of the time since an instant. -/
def trimsSince (t : Nat) : List (Nat × Nat) → List (Nat × Nat)
  | [] => []
  | e :: l => if e.1 ≤ t then [e] else e :: trimsSince t l

/-- The sum of the trims over the time from one instant to another; before the first entry the trim is 0. -/
def trimSum (from_ upto : Nat) : List (Nat × Nat) → Int
  | [] => 0
  | e :: l => if e.1 ≤ from_ then signedOf e.2 32 * ((upto - from_ : Nat) : Int) else signedOf e.2 32 * ((upto - e.1 : Nat) : Int) + trimSum from_ e.1 l

/-- The trim takes a value (R23). -/
def setTrim (v : Int) : Prog :=
  seqs [put Fld.CHR_RATE_TRIM.TRIM (encodeSigned (clampTrim v) 32),
    modChr fun c => { c with trims := (c.ns, encodeSigned (clampTrim v) 32) :: trimsSince (c.ns - 64000000000) c.trims }]

/-- CHR_RATE_TRIM_WRITE (R23, R58): ignored while the servo owns the trim. -/
def rateTrim (v : Nat) : Prog := .read fun s => whenP (!(s.bit Fld.CHR_CTRL.SERVO_EN && s.reference)) (setTrim (signedOf v 32))
/-- CHR_RATE_TRIM_WRITE (R23, R58). -/
def execChrRateTrimWrite (v : Nat) (s : State) : Out := finish (rateTrim v) s

/-! ### Time states -/

/-- The STATE code a controller sends on its own (R52, Table 02-1). -/
def State.ownState (s : State) : Nat :=
  match s.fld Fld.CHR_STATUS.TIME_STATE with
  | 1 => s.chr.acqFrom
  | 2 => 1
  | 3 => if s.bit Fld.CHR_STATUS.DEGRADED then 3 else 2
  | _ => 0

/-- How bad a STATE code is (R47). -/
def stateRank (c : Nat) : Nat := if c = 1 then 0 else if c = 0 then 1 else c

/-- The STATE a controller places in markers and sync frames (R47, R52). -/
def State.timeCode (s : State) : Nat :=
  if s.role = 2 ∧ s.chr.syncSeen ∧ stateRank s.chr.upState > stateRank s.ownState then s.chr.upState else s.ownState

/-- A reference has appeared or returned (R51, R56). -/
def acquire : Prog :=
  .read fun s =>
    let st := s.fld Fld.CHR_STATUS.TIME_STATE
    whenP (st == 0 || st == 3) (seqs [
      modChr fun c => { c with
        goodRun := 0, missRun := 0
        acqFrom := if st = 0 then 0 else if s.bit Fld.CHR_STATUS.DEGRADED then 3 else 2 },
      put Fld.CHR_STATUS.TIME_STATE 1])

/-- The controller becomes LOCKED (R51, R56): holdover ends, and what was posted is posted with SET = 0. -/
def timeLocked : Prog :=
  .read fun s => seqs [
    put Fld.CHR_STATUS.TIME_STATE 2, clear Fld.CHR_HOLDOVER.EST_NS, clear Fld.CHR_STATUS.DEGRADED,
    modChr fun c => { c with drReason := 0, degradedPosted := false, lockAt := some c.ns },
    whenP (s.chr.drReason != 0) (postEvent 0 Ev.deadReckoning (timeDetail false s.chr.drReason 0)),
    whenP s.chr.degradedPosted (postEvent 0 Ev.timeDegraded (timeDetail false 3 0))]

/-- A good or bad sample of the offset while ACQUIRING: `n` good ones in a row lock (R51). -/
def sample (good : Bool) (n : Nat) : Prog :=
  .read fun s => whenP (s.fld Fld.CHR_STATUS.TIME_STATE == 1) (
    if !good then modChr fun c => { c with goodRun := 0 }
    else if s.chr.goodRun + 1 ≥ n then seqs [modChr fun c => { c with goodRun := 0 }, timeLocked]
    else modChr fun c => { c with goodRun := c.goodRun + 1 })

/-- The servo updates the trim (R23, R51): it slews at the full limit while ACQUIRING with a large offset; the value it otherwise takes is a free function of
the time constant, the offset and the trim. -/
def servo (offset : Int) (large : Bool) : Prog :=
  .read fun s => whenP (s.bit Fld.CHR_CTRL.SERVO_EN && s.reference) (
    if s.fld Fld.CHR_STATUS.TIME_STATE == 1 && large then setTrim (if 0 < offset then -429497 else 429497)
    else setTrim (Config.servoTrim (s.fld Fld.CHR_PPS_CFG.TCONST) offset (signedOf (s.fld Fld.CHR_RATE_TRIM.TRIM) 32)))

/-- The ratio held on entry to DEAD_RECKONING, as a trim (R54): the average of the trims of the last 64 s, or since the lock if that is shorter, where the servo
has disciplined the PLL to TIME_IN; the ratio of a recovered clock, or one that no servo followed, shows in nothing the spec describes and is free. -/
def State.heldTrim (s : State) (free : Nat) : Int :=
  match s.chr.lockAt with
  | none => free
  | some t =>
    let from_ := max t (s.chr.ns - 64000000000)
    if s.role = 2 ∨ !s.bit Fld.CHR_CTRL.SERVO_EN then free
    else trimSum from_ s.chr.ns s.chr.trims / max 1 ((s.chr.ns - from_ : Nat) : Int)

/-- The controller enters DEAD_RECKONING (R54): the ratio is held, the event is posted to I0. -/
def deadReckon (reason : Nat) : Prog :=
  .read fun s =>
    let st := s.fld Fld.CHR_STATUS.TIME_STATE
    whenP (st == 1 || st == 2) (withFree 64 fun v => seqs [
      put Fld.CHR_STATUS.TIME_STATE 3, clear Fld.CHR_SYNC_STATUS.UP_LOCKED,
      modChr fun c => { c with heldRatio := s.heldTrim v, drReason := reason, missRun := 0, goodRun := 0, holdAt := c.ns },
      whenP (reason == 2) (raise Fld.CHR_STATUS.SYNC_LOST),
      postEvent 0 Ev.deadReckoning (timeDetail true reason 0)])

/-- The error of a PPS edge against its nearest second, in 2^-8 ns (R50). -/
def ppsError (t8 offset : Int) : Int :=
  let m : Int := 1000000000 * 256
  let d := (t8 - offset * 256) % m
  if 2 * d < m then d else d - m

/-- TIME_IN_EDGE (R50, R51, R58): a rising edge at a chronometer value in 2^-8 ns. The edge is always timestamped. Slewing ends below 100 ns, the bound
of a good edge. DESIGN CHOICE (notes/assumptions/25). -/
def execTimeInEdge (t8 : Nat) (s : State) : Out :=
  finish (atFine (65536 * s.whenChron (t8 / 256) + t8 % 256 * 256) (seqs [
    modChr fun c => { c with timeInAt := some t8 }, .read fun s =>
    let e := ppsError t8 (signedOf (s.fld Fld.CHR_PPS_OFFSET.OFFSET) 32)
    let window := max 1 (s.fld Fld.CHR_PPS_CFG.WINDOW)
    if !s.ppsOn || s.role == 2 || s.bit Fld.CHR_STATUS.SSC_ACTIVE then .skip
    else if s.fld Fld.CHR_STATUS.TIME_STATE = 2 ∧ e.natAbs > window * 256 then raise Fld.CHR_STATUS.PPS_OUTLIER
    else seqs [
      modChr fun c => { c with missRun := 0 },
      put Fld.CHR_PPS_ERROR.ERROR (encodeSigned (saturateSigned e 32) 32),
      whenP (s.chr.stepTick != some s.tick) (seqs [
        acquire, sample (decide (e.natAbs < 100 * 256)) 8, servo (e * 256) (decide (e.natAbs ≥ 100 * 256))])]])) s

/-- PPS_MISSED (R54): an expected edge is missing; the second in a row enters DEAD_RECKONING. Edges round a missing one are not consecutive (R51). -/
def execPpsMissed (s : State) : Out :=
  finish (whenP (s.ppsOn && s.role != 2 &&
      (s.fld Fld.CHR_STATUS.TIME_STATE == 1 || s.fld Fld.CHR_STATUS.TIME_STATE == 2)) (seqs [
    raise Fld.CHR_STATUS.PPS_MISSED, modChr fun c => { c with missRun := c.missRun + 1, goodRun := 0 },
    .read fun t => whenP (t.chr.missRun ≥ 2) (deadReckon 1)])) s

/-- The device identity (Table 02-7). -/
def State.deviceId (s : State) : Nat := s.fld Fld.SEC_DEVICE_ID_HI.ID_HI * 2 ^ 32 + s.fld Fld.SEC_DEVICE_ID_LO.ID_LO

/-- Whether the controller sends sync frames (R46, R48). -/
def State.sendsSync (s : State) : Bool :=
  (s.role == 1 || (s.role == 2 && s.chr.syncSeen)) && !s.bit Fld.CHR_SYNC_STATUS.DEPTH_LIMIT && !s.bit Fld.CHR_STATUS.SSC_ACTIVE

/-- SYNC_FRAME_SEND (R46, R47, R48): at the next multiple of 65,536 ns. A follower that has taken no frame sends none. -/
def execSyncFrameSend (s : State) : Out :=
  let b := (s.chron / 65536 + 1) * 65536
  finish (whenP (s.sendsSync && s.portUp 17) (atNs (s.whenChron b) (seqs [
    modLane 17 fun l => { l with txUntil := s.whenChron b + 20 },
    emit (.ordered 17 (if s.role = 1 then syncFrame b 0 s.timeCode (s.fld Fld.CHR_STATUS.EPOCH) s.deviceId
      else syncFrame b (s.fld Fld.CHR_SYNC_STATUS.DEPTH) s.timeCode s.chr.rootEpoch s.chr.upRootId))]))) s

/-- The known asymmetry a of the SYNC_UP link (R35, R46), in 2^-16 ns. -/
def State.syncAsym (s : State) : Int := signedOf (s.fld Fld.CHR_SYNC_ASYM.ASYM) 16 * 16

/-- dn of the SYNC_UP link (R35, R46), in 2^-16 ns. -/
def State.syncDn (s : State) : Int := (LinkFix.delays ((s.fixOf 16).filtered.getD 0) s.syncAsym).1

/-- Whether three blocks are a valid sync frame (R72): its types, its CRC, and no block between them. -/
def syncGood (a b c : Nat) (consecutive : Bool) : Bool :=
  consecutive && a % 256 == 0x71 && b % 256 == 0x72 && c % 256 == 0x73 && syncCrc a b c == bitsAt c 40 16

/-- SYNC_FRAME_RECEIVE (R47, R48, R51, R58): the payloads of three blocks on SYNC_UP, the instant at which the first begins to arrive in 2^-16 ns since reset, and
whether they are consecutive. The first valid frame steps the chronometer to domain time; later ones steer its phase. DEPTH 1,023 stops the chain here, and DEPTH
then stays at 1,023; OFFSET is rounded down, and slewing ends below 1 ns. DESIGN CHOICE (notes/assumptions/25). -/
def execSyncFrameReceive (a b c arrival : Nat) (consecutive : Bool) (s : State) : Out :=
  let depth := bitsAt b 16 10
  let boundary := a / 256 + bitsAt b 8 8 * 2 ^ 56
  finish (whenP (s.role == 2 && s.portUp 16 && !s.bit Fld.CHR_STATUS.SSC_ACTIVE && syncGood a b c consecutive) (atFine arrival (.read fun s =>
    let off : Int := signedOf (encodeSigned ((s.fineChron arrival : Int) - s.syncDn - ((boundary * 65536 : Nat) : Int)) 80) 80
    seqs [
      modChr fun u => { u with
        missRun := 0, rootEpoch := bitsAt b 28 2, upState := bitsAt b 26 2, upRootId := bitsAt b 32 32 + bitsAt c 8 32 * 2 ^ 32, syncSeen := true },
      put Fld.CHR_SYNC_STATUS.DEPTH (min 1023 (depth + 1)),
      put Fld.CHR_SYNC_STATUS.DEPTH_LIMIT (if depth = 1023 then 1 else 0),
      raise Fld.CHR_SYNC_STATUS.UP_LOCKED,
      if !s.chr.syncSeen then seqs [
        modChr fun u => { u with
          domainStep := some ((16 * 65536 - off) / (32 * 65536) * 32), domainLatched := false, domainDueNs := u.ns + 1000 },
        acquire]
      else seqs [
        put Fld.CHR_SYNC_STATUS.OFFSET (encodeSigned (saturateSigned (off / 256) 16) 16),
        whenP (s.chr.stepTick != some s.tick) (seqs [
          acquire, sample (decide (off.natAbs < 65536)) 16, servo off (decide (off.natAbs ≥ 65536))])]]))) s

/-- SYNC_PERIOD_MISSED (R54): a period with no valid frame; the second in a row enters DEAD_RECKONING. A follower that has never had a frame stays in
ACQUIRING (R48). -/
def execSyncPeriodMissed (s : State) : Out :=
  finish (whenP (s.role == 2 && s.chr.syncSeen && (s.fld Fld.CHR_STATUS.TIME_STATE == 1 || s.fld Fld.CHR_STATUS.TIME_STATE == 2)) (seqs [
    modChr fun c => { c with missRun := c.missRun + 1, goodRun := 0 },
    .read fun t => whenP (t.chr.missRun ≥ 2) (deadReckon 2)])) s

/-- The controller's part in a time domain has changed (R22, R47, R48): outside FOLLOW it has no depth and its PLL does not follow SYNC_UP; in FOLLOW it
acquires the domain, and takes the next frame as its first. -/
def roleChanged : Prog :=
  .read fun s => seqs [
    modChr fun c => { c with syncSeen := false, domainStep := none, domainLatched := false, upState := 0, missRun := 0, goodRun := 0 },
    clear Fld.CHR_SYNC_STATUS.UP_LOCKED, clear Fld.CHR_SYNC_STATUS.DEPTH, clear Fld.CHR_SYNC_STATUS.DEPTH_LIMIT,
    whenP (s.role == 2) acquire]

/-- HOLDOVER_SECOND (R55): a second of DEAD_RECKONING has elapsed, and EST_NS rises by PPB; at LIMIT_NS time is degraded and the event posted. -/
def execHoldoverSecond (s : State) : Out :=
  finish (whenP (s.fld Fld.CHR_STATUS.TIME_STATE == 3) (atNs (s.chr.holdAt + 1000000000) (seqs [
    modChr fun c => { c with holdAt := s.chr.holdAt + 1000000000 },
    countUp Fld.CHR_HOLDOVER.EST_NS 0 (s.fld Fld.CHR_HOLDOVER_CFG.PPB),
    .read fun t => whenP (t.fld Fld.CHR_HOLDOVER.EST_NS ≥ t.fld Fld.CHR_HOLDOVER_CFG.LIMIT_NS && !t.bit Fld.CHR_STATUS.DEGRADED)
      (seqs [raise Fld.CHR_STATUS.DEGRADED, modChr fun c => { c with degradedPosted := true },
        postEvent 0 Ev.timeDegraded (timeDetail true 3 0)])]))) s

/-- MERID_OUT rises for WIDTH slots (R53). -/
def meridPulse : Prog :=
  .read fun s =>
    let high := 32 * max 1 (s.fld Fld.CHR_MERID_OUT_CFG.WIDTH)
    seqs [emit (.pulse "MERID_OUT" high), modChr fun c => { c with meridOutUntil := c.ns + high }]

/-- MERID_OUT is low while MERID_OUT_EN is 0 (R53). -/
def meridOutLow : Prog :=
  .read fun s => whenP (decide (s.chr.ns < s.chr.meridOutUntil)) (seqs [modChr fun c => { c with meridOutUntil := 0 }, emit (.pin "MERID_OUT" false)])

/-- MERID_OUT_PPS_PULSE (R53): MERID_OUT rises at the next whole chronometer second. -/
def execMeridOutPpsPulse (s : State) : Out :=
  finish (whenP (s.bit Fld.CHR_CTRL.MERID_OUT_EN && s.bit Fld.CHR_MERID_OUT_CFG.PPS_MODE)
    (atNs (s.whenChron ((s.chron / 1000000000 + 1) * 1000000000)) meridPulse)) s

/-! ### Link fixes -/

/-- The UIs of a slot at a generation (Table 03-1). -/
def uiPerSlot (gen : Nat) : Nat := if gen = 1 then 40 else if gen = 2 then 160 else 330

/-- A count of 1/64 UI in 2^-16 ns, rounded to nearest. -/
def turnTime (turn gen : Nat) : Nat := (turn * 32768 + uiPerSlot gen / 2) / uiPerSlot gen

/-- The filter of R42 on a new round at an instant in ns: the record after it, and whether the fix contributes. -/
def LinkFix.filter (f : LinkFix) (round now : Nat) : LinkFix × Bool :=
  let near (a b : Nat) : Bool := max a b - min a b ≤ 65536
  match f.filtered with
  | none => ({ f with filtered := some round, discarded := none, lastGood := now }, true)
  | some v =>
    if near v round then
      ({ f with filtered := some (((8 * (v : Int) + ((round : Int) - v) + 4) / 8).toNat), discarded := none, lastGood := now }, true)
    else match f.discarded with
      | some d => if near d round then ({ f with filtered := some round, discarded := none, lastGood := now }, true)
        else ({ f with discarded := some round }, false)
      | none => ({ f with discarded := some round }, false)

/-- A bearing's figure of Table 02-6 for a hub count, in ps. -/
def State.alignBound (s : State) (b : Bearing) : Nat :=
  if b.slow then 1200 + 400 * b.hubs else if s.bit Fld.CHR_STATUS.SSC_ACTIVE then 300 + 240 * b.hubs else 55 + 27 * b.hubs

/-- Whether a bearing's offset exceeds twice its figure (R43). -/
def State.offsetBad (s : State) (b : Bearing) : Bool := b.offset.natAbs * 1000 > 2 * s.alignBound b * 4096

/-- A period register in ms: 0 acts as 1, values above 1,000 as 1,000. -/
def periodMs (v : Nat) : Nat := max 1 (min 1000 v)

/-- The age at which a node's bearing becomes STALE, in ms (R43). -/
def State.ageBound (s : State) (a : Nat) : Nat :=
  4 * periodMs (if (s.node a).tier = 0 then s.fld Fld.CHR_FIX_CFG.REFRESH_MS else s.fld Fld.CHR_FIX_CFG.REPORT_MS)

/-- AGE of a bearing in ms (Table 02-4). Of one that no fix has contributed to yet it counts from reset. DESIGN CHOICE (notes/assumptions/26). -/
def State.age (s : State) (b : Bearing) : Nat := min 65535 ((s.chr.ns - b.since) / 1000000)

/-- The bearing that a node's link and its parent's bearing give (R38, R39). -/
def State.computeBearing (s : State) (a : Nat) : Bearing :=
  let b := s.bearing a
  let e := s.node a
  let f := s.fixOf (s.fixKey a)
  let parent := s.parentOf a
  let pb : Bearing := match parent with
    | some h => s.bearing h
    | none => {}
  let round : Int := (f.filtered.getD 0 : Nat)
  let asym := b.asym * 16
  { b with
    delayDn := (((pb.delayDn : Int) + half (round + asym)).toNat) % 2 ^ 32
    advanceUp := (((pb.advanceUp : Int) + half (round - asym) + f.resUp).toNat) % 2 ^ 32
    offset := saturateSigned (pb.offset + f.theta / 16) 16
    since := if parent.isSome then min pb.since f.lastGood else f.lastGood
    hubs := e.tier, gen := e.gen, slow := s.pathGen a != 3 }

/-- A bearing is recomputed after a fix; `first` is the enumeration step that sets it FIXED, `contributes` whether the fix that
led here contributed (R38, R40, R43). A bearing that stays STALE, or becomes so, keeps its delays. -/
def bearingUpdate (a : Nat) (first contributes : Bool) : Prog :=
  .read fun s =>
    let old := s.bearing a
    let b := s.computeBearing a
    let kept := { b with delayDn := old.delayDn, advanceUp := old.advanceUp }
    if first then whenP (s.fixOf (s.fixKey a)).filtered.isSome (putBearing a { b with state := .fixed })
    else if b.state = .none then .skip
    else seqs [
      if b.state = .stale then
        (if contributes && !s.offsetBad b && s.age b ≤ s.ageBound a then seqs [
            putBearing a { b with state := .fixed, staleReason := 0 },
            postEvent 0 Ev.timeDegraded (timeDetail false b.staleReason a)]
         else putBearing a kept)
      else if s.offsetBad b then seqs [
        putBearing a { kept with state := .stale, staleReason := 5 }, postEvent 0 Ev.timeDegraded (timeDetail true 5 a)]
      else putBearing a b,
      .read fun t =>
        let v := t.bearing a
        let moved := match v.sent with
          | some (d, u) => max d v.delayDn - min d v.delayDn > 256 || max u v.advanceUp - min u v.advanceUp > 256
          | none => (t.node a).state.running
        whenP (v.state == .fixed && moved) (sendBearing a)]

/-- Every bearing under a location with at least `tier` hubs is recomputed, hubs before what hangs on them (R38). -/
def bearingsBelow (port hubs route tier : Nat) (contributes : Bool) : Prog :=
  .read fun s => forP (List.range 8) fun t => whenP (tier ≤ t)
    (forP ((s.subtree port hubs route).filter fun a => (s.node a).tier == t) fun a => bearingUpdate a false contributes)

/-- The node on a root port. -/
def State.nodeOnPort (s : State) (p : Nat) : Option Nat :=
  (s.tree.nodes.find? fun e => e.2.state.present && e.2.port == p && e.2.tier == 0).map (·.1)

/-- A standby's skews of a dual-homed port (R431): the primary's link delays, from the BEARING record of the top hub, against those of its
own fix. PAIR_SKEW shows them clamped to 8 ns. -/
def refreshSkew (p : Nat) : Prog :=
  .read fun s => whenP (bitAt (s.fld Fld.PAIR_PORTS.DUAL) p) (
    match s.nodeOnPort p, (s.fixOf p).filtered with
    | some a, some r =>
      let b := s.bearing a
      let own := LinkFix.delays r (b.asym * 16)
      let ts : Int := b.delayDn - own.1
      let rs : Int := own.2 - b.advanceUp
      let shown (x : Int) : Int := max (-2048) (min 2048 (x / 256))
      whenP (b.state != .none) (seqs [
        modPair fun u => { u with tskew := tset 0 u.tskew p ts, rskew := tset 0 u.rskew p rs },
        putN Fld.PAIR_SKEW.TSKEW p (encodeSigned (shown ts) 16), putN Fld.PAIR_SKEW.RSKEW p (encodeSigned (shown rs) 16),
        whenP (shown ts != ts / 256 || shown rs != rs / 256) (raise Fld.PAIR_EVENT.SKEW_CLAMP),
        putFlag Fld.PAIR_PORTS.READY p (s.portUp p)])
    | _, _ => .skip)

/-- The generation at which an end of a link runs: a lane of the controller, or the end of a device (03). -/
def State.endGen (s : State) (n : Nat) : Nat := if n < 19 then max 1 (s.fld Fld.LNK_STATUS.GEN n) else max 1 (s.lane n).gen

/-- Whether an end of a link is UP. -/
def State.endUp (s : State) (n : Nat) : Bool := if n < 19 then s.portUp n else (s.lane n).st == 7

/-- Where an ordered set of `dur` at an instant (both in 2^-16 ns) goes on SYNC_DN: a sync frame takes precedence (R72). -/
def State.afterSync (s : State) (n t dur : Nat) : Nat :=
  let m := s.fineChron t % (65536 * 65536)
  let frame := 1258292
  if n ≠ 17 ∨ !s.sendsSync then t
  else if m < frame then t + (frame - m)
  else if m + dur > 65536 * 65536 then t + (65536 * 65536 - m) + frame
  else t

/-- Whether an ordered set of `dur` may begin on an end at an instant (both in 2^-16 ns): no frame occupies the lane, none of the tick's legs begins before it ends,
and neither does the next marker (R34, R65). -/
def State.laneClear (s : State) (n t dur : Nat) : Bool :=
  decide (65536 * (s.lane n).txUntil ≤ t) &&
    (decide (16 ≤ n) || !s.bit Fld.CHT_STATUS.RUNNING || (decide (t + dur ≤ 65536 * s.chr.dueNs) &&
      !(portLegs s.legs n false).any fun e => e.2.activeIn s.tick && e.2.copies.any fun c =>
        decide (t < 65536 * (s.chr.meridNs + 32 * c.2)) && decide (65536 * (s.chr.meridNs + 32 * c.1) < t + dur)))

/-- The instant after `n` ordered sets, in whole ns. -/
def setsEnd (t gen n : Nat) (o : OSet) : Nat := (t + 65535) / 65536 + setsTime gen o n

/-- A link fix starts on a lane of the controller at a launch instant in 2^-16 ns since reset; at most one is outstanding (R33, R34). The next
of a root port falls due REFRESH_MS later (R42). -/
def fixStart (lane t1 : Nat) : Prog :=
  .read fun s =>
    let f := s.fixOf lane
    let gen := s.endGen lane
    let dur := 65536 * setsTime gen (.lfixReq 0) 1
    let t := s.afterSync lane (max t1 s.fine) dur
    whenP (s.portUp lane && f.outstanding == none && s.laneClear lane t dur) (atFine t (seqs [
      modFix lane fun f => { f with
        outstanding := some (f.seq, t), seq := (f.seq + 1) % 256
        due := t / 65536 + periodMs (s.fld Fld.CHR_FIX_CFG.REFRESH_MS) * 1000000 },
      modLane lane fun l => { l with txUntil := setsEnd t gen 1 (.lfixReq 0) },
      emit (.ordered lane ((OSet.lfixReq f.seq).codes gen))]))

/-- LFIX_REQ_SEND (R42): a root-port link is fixed every REFRESH_MS, and at once after it has come UP or its receiver was swapped (R97). -/
def execLfixReqSend (lane t1 : Nat) (s : State) : Out :=
  finish (whenP (lane < 16 && decide (65536 * (s.fixOf lane).due ≤ max t1 s.fine)) (fixStart lane t1)) s

/-- AUX_LINK_FIX (R46, R430): SYNC_UP and SYNC_DN while the controller has a role in a domain, once SSC has stopped (R31); MIRROR by the standby. -/
def execAuxLinkFix (lane t1 : Nat) (s : State) : Out :=
  finish (whenP (((lane == 16 || lane == 17) && s.role != 0 && !s.bit Fld.CHR_STATUS.SSC_ACTIVE) || (lane == 18 && s.standby))
    (fixStart lane t1)) s

/-- The latest turnaround of an answer: one tick plus 4,096 ns (R34). -/
def State.turnLimit (s : State) : Nat := 32 * s.chr.tickSlots + 4096

/-- A time in 2^-16 ns in 1/64 UI, rounded to nearest (R33). -/
def turnCount (t gen : Nat) : Nat := (t * uiPerSlot gen + 16384) / 32768

/-- The local time of an end of a link at an instant in 2^-16 ns since reset: the chronometer, or what a node's own chronometer shows (R41). A node that has
not set it counts from reset. DESIGN CHOICE (notes/assumptions/26). -/
def State.localTime (s : State) (n t : Nat) : Nat :=
  if n < 19 then s.fineChron t
  else
    let r := (s.dev ((n - 32) / 32)).timeRef
    (((r.2 : Int) + t - r.1) % 2 ^ 80).toNat

/-- The intervals of an end's own frames, in ns: those a device sends upstream. -/
def State.endBusy (s : State) (n : Nat) : List (Nat × Nat) := if n < 32 then [] else (s.dev ((n - 32) / 32)).busy

/-- The first instant at or after `t` (2^-16 ns) at which a set of `dur` lies in none of some intervals. -/
def afterBusy (l : List (Nat × Nat)) (t dur : Nat) : Nat :=
  l.foldl (fun t e => if 65536 * e.1 < t + dur ∧ t < 65536 * e.2 then 65536 * e.2 else t) t

/-- The time of a fix response on the lane, in ns rounded up: two blocks, or 13 characters (R71). -/
def respTime (gen : Nat) : Nat := if gen = 3 then 13 else if gen = 2 then 26 else 104

/-- LFIX_REQ_RECEIVE (R33, R34, R37, R46): the end that a request reaches records its arrival t2 and answers at its first opportunity from t3 on, with the
turnaround and its local time at t2; instants in 2^-16 ns since reset. The ends are SYNC_UP, SYNC_DN and MIRROR, and the upstream end of a device. An answer later than
R34 allows is not sent, and none by a controller outside every domain. -/
def execLfixReqReceive (n word t2 t3 : Nat) (s : State) : Out :=
  finish (whenP (word % 256 == 0x61 && s.endUp n && ((16 ≤ n && n < 19) || (32 ≤ n && n % 16 == 0)) && (n == 18 || 19 ≤ n || s.role != 0)) (
    atFine t2 (.read fun s =>
      let gen := s.endGen n
      let dur := 65536 * respTime gen
      let t := s.afterSync n (afterBusy (s.endBusy n) (max t2 (max t3 (65536 * (s.lane n).txUntil))) dur) dur
      whenP (decide (t - t2 ≤ s.turnLimit * 65536)) (seqs [
        modLane n fun l => { l with txUntil := (t + dur) / 65536 },
        emit (.ordered n (lfixResp gen (bitsAt word 8 8) (turnCount (t - t2) gen) (s.localTime n t2 / 65536) (s.localTime n t2)))])))) s

/-- SEQ, turnaround and local time of a fix response (R71, Tables 03-2 and 03-3): two blocks at G3, which must carry one SEQ; at G1 and G2 the twelve
characters after K28.5, the first in bits 7 to 0. -/
def respFields (gen a b : Nat) : Option (Nat × Nat × Nat) :=
  if gen = 3 then
    if a % 256 = 0x62 ∧ b % 256 = 0x63 ∧ bitsAt a 8 8 = bitsAt b 8 8 then some (bitsAt a 8 8, bitsAt a 16 32, bitsAt b 16 32 * 65536 + bitsAt b 48 16)
    else none
  else if a % 256 = 0x62 then some (bitsAt a 8 8, bitsAt a 16 32, bitsAt a 48 32 * 65536 + bitsAt a 80 16)
  else none

/-- The asymmetry that a fix on a lane of the controller is computed with (R35, R46), in 2^-16 ns. That of the SYNC_DN link stands in the controller below and is taken as
its default, 0. -/
def State.laneAsym (s : State) (lane : Nat) : Int :=
  if lane = 16 then s.syncAsym
  else match s.nodeOnPort lane with
    | some a => if lane < 16 then (s.bearing a).asym * 16 else 0
    | none => 0

/-- LFIX_RESP_RECEIVE (R33, R35, R42, R71): U computes the round and theta, filters the round, and brings the bearings up to date. `t4` is the arrival in 2^-16 ns since
reset; an answer that comes when the fix has failed is none. At SYNC_UP the request went up the link and the wire before t2 is `up`. -/
def execLfixRespReceive (lane a b t4 : Nat) (s : State) : Out :=
  let f := s.fixOf lane
  finish (match f.outstanding, respFields (s.endGen lane) a b with
    | some (q, t1), some (seq, turn, loc) =>
      whenP (q == seq && s.portUp lane && decide (t4 < t1 + (s.turnLimit + 4096) * 65536)) (atFine t4 (.read fun s =>
        let round := ((t4 : Int) - t1 - turnTime turn (s.endGen lane)).toNat
        let r := f.filter round s.chr.ns
        let wire := LinkFix.delays round (s.laneAsym lane)
        let theta := signedOf (encodeSigned ((loc : Int) - (s.fineChron t1 : Int) - (if lane = 16 then wire.2 else wire.1)) 48) 48
        seqs [
          modFix lane fun v => { r.1 with outstanding := none, theta := theta, fails := 0, due := v.due },
          whenP (lane < 16) (match s.nodeOnPort lane with
            | some a => if s.standby then refreshSkew lane else seqs [
                goodResponse a, putBearing a { s.bearing a with fails := 0 },
                bearingsBelow lane 0 0 0 r.2]
            | none => .skip),
          wakeFixed]))
    | _, _ => .skip) s

/-- LINK_FIX_FAIL (R34, R42): no answer by one tick plus 8,192 ns after t1. -/
def execLinkFixFail (lane : Nat) (s : State) : Out :=
  finish (match (s.fixOf lane).outstanding with
    | none => .skip
    | some (_, t1) => atFine (t1 + (s.turnLimit + 4096) * 65536) (seqs [
        modFix lane fun f => { f with outstanding := none, fails := min 255 (f.fails + 1) },
        whenP (lane < 16) (match s.nodeOnPort lane with
          | some a => whenP (!s.standby)
              (seqs [putBearing a { s.bearing a with fails := min 255 ((s.bearing a).fails + 1) }, missed a])
          | none => .skip)])) s

/-- The node of a hub's downstream port, present or being enumerated. -/
def State.nodeBelow (s : State) (hub port : Nat) : Option Nat :=
  let h := s.node hub
  (s.tree.nodes.find? fun e => (e.2.state.present || e.2.state == .enumerating) && e.2.port == h.port &&
    e.2.tier == h.tier + 1 && e.2.route == h.route + port * 16 ^ h.tier).map (·.1)

/-- What a READ_TIMING record of a hub's port says of the link below it (Table 02-3). -/
def takeTiming (hub port : Nat) (rec : List Byte) : Prog :=
  .read fun s =>
    let w (o n : Nat) := ofBytes ((rec.drop o).take n)
    match s.nodeBelow hub port with
    | none => .skip
    | some a => whenP (bitAt (w 12 1) 0)
        (modFix (32 + a) fun f => { f with
          filtered := some (w 0 4), theta := signedOf (w 4 2) 16 * 16, resUp := w 6 4
          lastGood := s.chr.ns - w 10 2 * 1000000 })

/-- A record of a READ_TIMING answer and the bearings below its port (R42, R43). Its fix has contributed since the record before where AGE, which counts whole ms, says that
it is later. -/
def takeRecord (hub port : Nat) (rec : List Byte) : Prog :=
  .read fun s =>
    let e := s.node hub
    let before := match s.nodeBelow hub port with
      | some a => (s.fixOf (32 + a)).lastGood
      | none => 0
    seqs [takeTiming hub port rec,
      .read fun t => match t.nodeBelow hub port with
        | some a => bearingsBelow e.port (e.tier + 1) (e.route + port * 16 ^ e.tier) (e.tier + 1)
            (decide (before + 1000000 ≤ (t.fixOf (32 + a)).lastGood))
        | none => .skip]

/-- HUB_TIMING_POLL (R42): every REPORT_MS READ_TIMING goes to a hub for all of its ports; the row that finds its answer takes the records, from port 1 on. -/
def execHubTimingPoll (hub : Nat) (s : State) : Out :=
  let e := s.node hub
  let r := s.nrec hub
  finish (whenP (e.state.running && e.hub && !s.standby) (match r.poll with
    | none => atNs r.pollDue (seqs [
        treeRequest e.port hub (setupBytes 0x80 0x13 0 1 240) [] 0 true,
        .read fun t => modRec hub fun r => { r with
          poll := some s.conv.next, pollDue := t.chr.ns + periodMs (s.fld Fld.CHR_FIX_CFG.REPORT_MS) * 1000000 }])
    | some k => match s.conv.answers.lookup k with
      | none => whenP (s.convOf k).isNone (modRec hub fun r => { r with poll := none })
      | some (status, data) => seqs [
          dropRequest (some k), modRec hub fun r => { r with poll := none },
          whenP (status == St.success || status == St.short)
            (forP (List.range (data.length / 16)) fun i => takeRecord hub (i + 1) ((data.drop (16 * i)).take 16))])) s

/-- BEARING_STALE (R43): a bearing's AGE exceeds its bound. -/
def execBearingStale (a : Nat) (s : State) : Out :=
  let b := s.bearing a
  finish (whenP (b.state == .fixed && !s.standby) (seqs [
    advanceTo (b.since + (s.ageBound a + 1) * 1000000),
    .read fun t => whenP (t.age b > t.ageBound a) (seqs [
      putBearing a { b with state := .stale, staleReason := 4 }, postEvent 0 Ev.timeDegraded (timeDetail true 4 a)])])) s

/-- BEARING_ASYM_WRITE (R39, R525): a write of word 2 of a bearing sets ASYM. -/
def asymWrite (a v : Nat) : Prog :=
  .read fun s =>
    whenP (a < 4096) (putBearing a { s.bearing a with asym := signedOf v 16 })
/-- BEARING_ASYM_WRITE (R39, R525). -/
def execBearingAsymWrite (a v : Nat) (s : State) : Out := finish (asymWrite a v) s

end Sys2Proof.Machine
end

