-- ==== Sys2Proof/Machine/CablePower.lean ====
section
/-! DEFINITION. Cable power: the PWC wire (R373 to R376), contracts (R377 to R384), the power stages and their PMBus (R385 to R387,
R561), supply swap (R388, R389), losing the sink (R390 to R392), the sinks (R394) and the commands (R398). A contract word
holds VOLT in bits 11:0 and CURR in bits 21:12 (R374). -/

namespace Sys2Proof.Machine

/-! ### Contracts and charges -/

/-- The default contract (R374). -/
def defaultContract : Nat := 0xF0FA

/-- VOLT of a contract word. -/
def voltOf (word : Nat) : Nat := bitsAt word 0 12
/-- CURR of a contract word. -/
def currOf (word : Nat) : Nat := bitsAt word 12 10

/-- The contract states of Table 12-7. -/
def Cs.default : Nat := 0
def Cs.transition : Nat := 1
def Cs.contract : Nat := 2
def Cs.swapping : Nat := 3
def Cs.local : Nat := 4
def Cs.detached : Nat := 5
def Cs.fault : Nat := 6

/-- The contract state of a port. -/
def State.cstate (s : State) (p : Nat) : Nat := s.fld Fld.CPW_PORT_STATUS.CSTATE p

/-- The state of a port's power output (R387). -/
def State.cpwFn (s : State) (p : Nat) : Nat := s.fld Fld.CPW_PORT_STATUS.FUNC_STATE p

/-- The charge of a contract word in units of 0.1 W (R379). -/
def chargeOf (word : Nat) : Nat := (voltOf word * currOf word + 499) / 500

/-- The charge of a port: its contract in force, or in LOCAL its armed contract (R379). A port that is not ON is not charged. -/
def State.portCharge (s : State) (p : Nat) : Nat :=
  if s.cpwFn p ≠ Fn.on then 0
  else if s.cstate p = Cs.local then chargeOf (s.fld Fld.CPW_SWAP.CONTRACT p)
  else chargeOf (s.fld Fld.CPW_CONTRACT.CONTRACT p)

/-- The sum of the charges (R379). -/
def State.budgetUsed (s : State) : Nat := ((List.range 16).map s.portCharge).foldl (· + ·) 0

/-- Bring CPW_BUDGET.USED up to date. -/
def refreshBudget : Prog := .read fun s => put Fld.CPW_BUDGET.USED s.budgetUsed

/-- Set a bit of CPW_PORT_EVENT; going from 0 to 1 it sets the port's bit of CPW_EVENT (Table 12-12). -/
def portEvent (f : Field) (p : Nat) : Prog :=
  .read fun s => whenP (!s.bit f p) (seqs [raise f p, put Fld.CPW_EVENT.PORT (s.fld Fld.CPW_EVENT.PORT ||| 2 ^ p)])

/-- The detail word of Table 12-9. -/
def powerDetail (set : Bool) (kind hubPort port node : Nat) : Nat :=
  (if set then 2 ^ 31 else 0) + kind % 8 * 2 ^ 28 + hubPort % 16 * 2 ^ 24 + port % 16 * 2 ^ 16 + node % 4096

/-- Post POWER_CHANGED of a root port to I0 (R396). -/
def powerChanged (p kind : Nat) : Prog := postEvent 0 Ev.powerChanged (powerDetail true kind 0 p 0)

/-! ### The PMBus (R385, R401, R561). Formats and bit places are PMBus's own: PRESUMED (notes/assumptions/37). -/

/-- The PMBus address of a target: a port's stage, or 16 and up for the regulators of 13. -/
def State.pmbusAddr (s : State) (target : Nat) : Nat :=
  if target < 16 then s.fld Fld.CPW_STAGE.ADDR target else s.fld Fld.PWR_RAIL.ADDR (target - 16)

/-- The number of fractional bits of a target's linear voltages: bits 4:0 of VOUT_MODE are its exponent, in two's complement; -9 until it is read. -/
def State.voutBits (s : State) (target : Nat) : Nat := (32 - tget 0x17 s.cpw.modes target % 32) % 32

/-- A voltage in mV in the linear format of VOUT_COMMAND and READ_VOUT, and back. -/
def State.voutWord (s : State) (target mv : Nat) : Nat := (mv * 2 ^ s.voutBits target + 500) / 1000 % 65536
def State.voutMv (s : State) (target word : Nat) : Nat := (word % 65536 * 1000 + 2 ^ s.voutBits target / 2) / 2 ^ s.voutBits target

/-- A value in units of 10^-`k` in the format of a five-bit exponent of -6 and an eleven-bit mantissa, and a word of that format in units of 10^-2. -/
def linear11 (v k : Nat) : Nat := 0xD000 + (v * 64 + 10 ^ k / 2) / 10 ^ k % 1024
def linear11Centi (word : Nat) : Nat :=
  let e := bitsAt word 11 5
  let m := bitsAt word 0 10
  if e < 16 then m * 100 * 2 ^ e else (m * 100 + 2 ^ (31 - e)) / 2 ^ (32 - e)

/-- The data of a command: VOUT_COMMAND in mV, IOUT_OC_FAULT_LIMIT in 0.1 mA, VOUT_TRANSITION_RATE in 0.1 V/ms, others as they are. -/
def State.pmbusData (s : State) (target code v : Nat) : List Byte :=
  if code = 0x03 then []
  else if code = 0x21 then toBytes (s.voutWord target v) 2
  else if code = 0x46 then toBytes (linear11 v 4) 2
  else if code = 0x27 then toBytes (linear11 v 1) 2
  else toBytes v 1

/-- The bytes of a transaction: a write ends with its PEC; a read addresses the target again. -/
def State.pmbusBytes (s : State) (target code v : Nat) : List Byte :=
  let a := 2 * s.pmbusAddr target
  if code = 0x20 ∨ code = 0x79 ∨ code = 0x8B ∨ code = 0x8C then [byteOf a 0, byteOf code 0, byteOf (a + 1) 0]
  else
    let b := [byteOf a 0, byteOf code 0] ++ s.pmbusData target code v
    b ++ [byteOf (crc8 b) 0]

/-- A read goes to a target at once. -/
def pmbusRead (target code : Nat) : Prog := .read fun s => emit (.pmbus (s.pmbusBytes target code 0))

/-- The transactions of a target still to run. -/
def State.pmbus (s : State) (target : Nat) : List (Nat × Nat) := tget [] s.cpw.pmbus target

/-- Whether a target has no transaction on the bus nor waiting for it. -/
def State.pmbusIdle (s : State) (target : Nat) : Bool :=
  (s.pmbus target).isEmpty && !s.cpw.bus.any fun b => b.1 == target

/-- The next transaction goes on the bus once it is free (R401): the regulators' come first, then the stages' in port order. -/
def pmbusNext : Prog :=
  .read fun s => whenP s.cpw.bus.isNone (match ([16, 17, 18, 19] ++ List.range 16).find? fun t => !(s.pmbus t).isEmpty with
    | none => .skip
    | some t => match s.pmbus t with
      | [] => .skip
      | (code, v) :: rest => seqs [
          modCpw fun u => { u with bus := some (t, code, v), pmbus := tset [] u.pmbus t rest },
          emit (.pmbus (s.pmbusBytes t code v))])

/-- Replace a target's transactions that still wait. -/
def pmbusStart (target : Nat) (l : List (Nat × Nat)) : Prog :=
  seqs [modCpw fun u => { u with pmbus := tset [] u.pmbus target l }, pmbusNext]

/-- IOUT_OC_FAULT_LIMIT for a CURR: 1.25 times it, in units of 0.1 mA. -/
def ocLimit (curr : Nat) : Nat × Nat := (0x46, 125 * curr)

/-- The writes that put a contract on the stage (R380). -/
def stageContract (word : Nat) : List (Nat × Nat) := [ocLimit (currOf word), (0x21, 20 * voltOf word)]

/-- The transactions of ENABLING (R387, Table 12-4). -/
def State.enablingWrites (s : State) (p : Nat) : List (Nat × Nat) :=
  [(0x20, 0), (0x02, 0x1F), (0x47, 0xC0), (0x27, max 1 (s.fld Fld.CPW_STAGE.SLEW p))] ++ stageContract defaultContract ++
    [(0x01, 0x80)]

/-! ### The PWC wire (R371 to R376) -/

/-- LEN of a message type (Table 12-2). -/
def pwcLen (type : Nat) : Option Nat := [0, 4, 0, 4, 4, 1, 4, 0, 5, 0, 4, 0][type]?

/-- Whether a type is sent by the sink, or by the source (Table 12-2). -/
def pwcSender (type : Nat) (sink : Bool) : Bool :=
  if [1, 6, 10, 11].contains type then !sink else !([2, 3, 7, 8, 9].contains type) || sink

/-- Bits, least significant first, as a number. -/
def bitsNat (l : List Bool) : Nat := l.foldr (fun b n => bit1 b + 2 * n) 0
/-- The bits of bytes, least significant first. -/
def byteBits (bs : List Byte) : List Bool := bs.flatMap fun b => (List.range 8).map (bitAt b.toNat)

/-- The half-cell levels of bits in biphase-mark code from a level of the line (R371). -/
def biphase (level : Bool) : List Bool → List Bool
  | [] => []
  | b :: rest => (!level) :: (level == b) :: biphase (level == b) rest

/-- The bits that half-cell levels spell, up to a cell that begins with no transition. -/
def unbiphase (level : Bool) : List Bool → List Bool
  | a :: b :: rest => if a == level then [] else (a != b) :: unbiphase b rest
  | _ => []

/-- The bytes of a message from its header to its CRC (Table 12-1). -/
def pwcBytes (sink : Bool) (type id : Nat) (payload : List Byte) : List Byte :=
  let body := toBytes (type + id % 16 * 2 ^ 4 + payload.length * 2 ^ 8 + bit1 sink * 2 ^ 12) 2 ++ payload
  body ++ toBytes (crc16 body) 2

/-- The levels of a message on the wire, preamble and SOF first. -/
def pwcWire (sink : Bool) (type id : Nat) (payload : List Byte) : List Bool :=
  biphase true (byteBits ([byteOf 0xFF 0, byteOf 0xFF 0, byteOf 0xD5 0] ++ pwcBytes sink type id payload))

/-- The message that a receiver takes from the wire: its type, MSG_ID and payload, unless R373 discards it. -/
def pwcRead (sink : Bool) (levels : List Bool) : Option (Nat × Nat × Nat) :=
  let bits := unbiphase true levels
  let head := bitsNat ((bits.drop 24).take 16)
  let len := bitsAt head 8 4
  let body := toBytes (bitsNat ((bits.drop 24).take (16 + 8 * len))) (2 + len)
  if bitsNat (bits.take 24) = 0xD5FFFF ∧ 56 + 8 * len ≤ bits.length ∧ bitsNat ((bits.drop (40 + 8 * len)).take 16) = crc16 body ∧
      pwcLen (bitsAt head 0 4) = some len ∧ bitAt head 12 = sink ∧ pwcSender (bitsAt head 0 4) sink then
    some (bitsAt head 0 4, bitsAt head 4 4, ofBytes (body.drop 2))
  else none

/-- One end of a PWC wire: a root port, or 1000 + d for the sink of device d. -/
def State.pwcEnd (s : State) (e : Nat) : PwcEnd := if e < 1000 then (s.pwc e).line else (s.dev (e - 1000)).sinkLine
def modEnd (e : Nat) (f : PwcEnd → PwcEnd) : Prog :=
  if e < 1000 then modPwc e fun u => { u with line := f u.line } else modDev (e - 1000) fun n => { n with sinkLine := f n.sinkLine }

/-- How long the line has been idle when an end starts a message or an ACK: 20 us (R375 asks for at least 8 or 16 us, and for 10 to 30 us). -/
def pwcGap : Nat := 20000

/-- The first waiting message of an end goes on the wire (R375). -/
def sendFirst (e : Nat) : Prog :=
  .read fun s => match (s.pwcEnd e).outq with
    | [] => .skip
    | m :: _ =>
      let start := max s.chr.ns ((s.pwcEnd e).lineFree + pwcGap)
      let len := (pwcLen m.type).getD 0
      seqs [modEnd e fun u => { u with sentEnd := start + 1000 * (56 + 8 * len), lineFree := start + 1000 * (56 + 8 * len) },
        emit (.pwc e start (pwcWire (decide (1000 ≤ e)) m.type m.id (toBytes m.word len)))]

/-- An end sends a message (R375): one at a time waits for its ACK, with a MSG_ID of its own. -/
def sendMessage (e type word : Nat) : Prog :=
  .read fun s => seqs [
    modEnd e fun u => { u with outq := u.outq ++ [{ type := type, id := u.msgId, word := word }], msgId := (u.msgId + 1) % 16 },
    whenP (s.pwcEnd e).outq.isEmpty (sendFirst e)]

/-- A message of one of some types ends at an end of the wire (R373, R375): it is acknowledged, and a repeat of the MSG_ID last acknowledged is then
discarded. A message of its own that it had to stop is sent after the ACK. `k` takes its type and payload. -/
def takeMessage (e : Nat) (levels : List Bool) (types : List Nat) (heard : Prog) (k : Nat → Nat → Prog) : Prog :=
  .read fun s => match pwcRead (decide (e < 1000)) levels with
    | none => .skip
    | some (type, id, word) => whenP (types.contains type) (seqs [
        emit (.pwc e (s.chr.ns + pwcGap) (pwcWire (decide (1000 ≤ e)) 0 id [])),
        modEnd e fun u => { u with lineFree := s.chr.ns + pwcGap + 56000, lastRx := some id },
        heard,
        whenP (decide (s.chr.ns < (s.pwcEnd e).sentEnd)) (sendFirst e),
        whenP ((s.pwcEnd e).lastRx != some id) (k type word)])

/-- The ACK of an end's first message, which begins `begin` ns after the message's end (R375). `k` takes the message. -/
def takeAck (e begin : Nat) (levels : List Bool) (k : PwcMessage → Prog) : Prog :=
  .read fun s => match (s.pwcEnd e).outq, pwcRead (decide (e < 1000)) levels with
    | m :: rest, some (0, id, _) => whenP (m.id == id && decide (begin ≤ 40000)) (
        let t := (s.pwcEnd e).sentEnd + begin + 56000
        atNs t (seqs [modEnd e fun u => { u with outq := rest, lineFree := t }, k m, sendFirst e]))
    | _, _ => .skip

/-- The sink has been heard (R382, Table 12-14). -/
def sinkHeard (p : Nat) : Prog :=
  .read fun s => seqs [modPwc p fun u => { u with heard := s.chr.ns }, putN Fld.CPW_KEEPALIVE.AGE_MS p 0]

/-- A message of the sink reaches a port that is ON. -/
def sourceTakes (p : Nat) (levels : List Bool) (types : List Nat) (k : Nat → Nat → Prog) : Prog :=
  .read fun s => whenP (p < 16 && s.cpwFn p == Fn.on)
    (takeMessage p levels types (seqs [sinkHeard p, raise Fld.CPW_PORT_STATUS.SINK_SEEN p]) k)

/-- REJECT with a status (R378). -/
def sendReject (p status : Nat) : Prog := seqs [putN Fld.CPW_PORT_STATUS.LAST_REJECT p status, sendMessage p 5 status]

/-- REJECT of a request that crosses the source's own (R384). -/
def sendCollided (p : Nat) : Prog := seqs [portEvent Fld.CPW_PORT_EVENT.COLLIDED p, sendReject p St.collided]

/-! ### State changes of a port -/

/-- RESULT of the port commands: the port's status word. -/
def State.portStatus (s : State) (p : Nat) : Nat := s.word 0x24104 p

/-- Complete the POWER_PORT commands that wait for an action of a port. -/
def portCmdDone (action p status : Nat) : Prog :=
  .read fun s => completeWaiting 0x48 (action * 16 + p) status (s.portStatus p) (s.fld Fld.CPW_CONTRACT.CONTRACT p)

/-- Set the contract state of a port; SINK_SEEN is counted since DEFAULT. -/
def setCstate (p v : Nat) : Prog :=
  seqs [putN Fld.CPW_PORT_STATUS.CSTATE p v, whenP (v == Cs.default) (clear Fld.CPW_PORT_STATUS.SINK_SEEN p)]

/-- The name of a port's PEN ball. -/
def penPin (p : Nat) : String :=
  (["PEN0", "PEN1", "PEN2", "PEN3", "PEN4", "PEN5", "PEN6", "PEN7", "PEN8", "PEN9", "PEN10", "PEN11", "PEN12", "PEN13", "PEN14", "PEN15"][p]?).getD ""

/-- Drive PEN (R385); a latched pad keeps its level (R413). -/
def setPen (p : Nat) (v : Bool) : Prog :=
  .read fun s => seqs [putN Fld.CPW_PORT_STATUS.PEN p (if v then 1 else 0),
    whenP (s.bit Fld.CPW_PORT_STATUS.PEN p != v && !bitAt (s.fld Fld.PWR_PAD_STATUS.LATCHED) (p / 4)) (emit (.pin (penPin p) v))]

/-- A REDUCE outstanding ends without its answer. -/
def endReduce (p : Nat) : Prog :=
  .read fun s => whenP (s.pwc p).reduce.isSome (seqs [modPwc p fun u => { u with reduce := none }, portCmdDone 3 p St.success])

/-- What every end of a contract clears: messages, the transition, the armed contract (R377). -/
def contractEnds (p : Nat) : Prog :=
  seqs [endReduce p, modPwc p fun u => { u with
      line := { u.line with outq := [] }, reverting := false, readyDue := false, inRange := 0, forceDue := false, expired := false, arm := 0 },
    clear Fld.CPW_SWAP.ARMED p, clear Fld.CPW_SWAP.CONTRACT p, putN Fld.CPW_CONTRACT.CONTRACT p defaultContract]

/-- REARM in ns; 0 acts as 1 (Table 12-12). -/
def State.rearmNs (s : State) : Nat := max 1 (s.fld Fld.CPW_CFG.REARM) * 10000000

/-- A port goes to FAULT (R386). -/
def portFault (p : Nat) : Prog :=
  .read fun s => seqs [contractEnds p, setPen p false, pmbusStart p [], setCstate p Cs.fault, portEvent Fld.CPW_PORT_EVENT.FAULT p,
    modPwc p fun u => { u with waitEnd := s.chr.ns + s.rearmNs }, powerChanged p 3, refreshBudget]

/-- A port takes its sink as lost (R392). -/
def sinkLost (p : Nat) : Prog :=
  .read fun s => seqs [contractEnds p, setPen p false, pmbusStart p [(0x01, 0x00)], setCstate p Cs.detached,
    portEvent Fld.CPW_PORT_EVENT.DETACH p, modPwc p fun u => { u with waitEnd := s.chr.ns + s.rearmNs },
    powerChanged p 4, subtreeGone p 0 0 2, refreshBudget]

/-- TRANSITION to a contract begins (R380). -/
def enterTransition (p word : Nat) (reverting expired : Bool) : Prog :=
  .read fun s =>
    let old := s.fld Fld.CPW_CONTRACT.CONTRACT p
    seqs [
      modPwc p fun u => { u with
        target := word, old := old, reverting := reverting, expired := expired, since := s.chr.ns
        pollAt := s.chr.ns + 250000, inRange := 0, readyDue := false },
      setCstate p Cs.transition,
      pmbusStart p [ocLimit (max (currOf old) (currOf word)), (0x21, 20 * voltOf word)]]

/-- The port reverts to the default contract (R382). -/
def revert (p : Nat) (expired : Bool) : Prog := enterTransition p defaultContract true expired

/-- The port reaches DEFAULT (Table 12-14, Table 12-6). -/
def reachDefault (p : Nat) (post : Bool) : Prog :=
  seqs [putN Fld.CPW_CONTRACT.CONTRACT p defaultContract, setCstate p Cs.default, portEvent Fld.CPW_PORT_EVENT.REVERTED p,
    whenP post (powerChanged p 1), refreshBudget]

/-- PS_READY goes out and the new contract is in force (R380). -/
def finishTransition (p : Nat) : Prog :=
  .read fun s =>
    let u := s.pwc p
    seqs [
      modPwc p fun v => { v with reverting := false, readyDue := false, inRange := 0, expired := false, forceDue := false },
      sendMessage p 6 u.target,
      if u.reverting then reachDefault p (!u.expired)
      else seqs [putN Fld.CPW_CONTRACT.CONTRACT p u.target, setCstate p Cs.contract,
        portEvent Fld.CPW_PORT_EVENT.CONTRACT p, powerChanged p 0, refreshBudget,
        whenP u.forceDue (revert p false)]]

/-- The lane of a root port is lost (R90), as the cable-power logic sees it (R390, R391). -/
def laneLostCable (p : Nat) : Prog :=
  .read fun s => whenP (p < 16 && s.cpwFn p == Fn.on) (
    if s.cstate p = Cs.transition then sinkLost p
    else whenP (s.cstate p == Cs.contract || s.cstate p == Cs.local) (sendMessage p 11 0))

/-! ### Requests of the sink -/

/-- The first check of Table 12-3 that a request fails; check 2 is that of the states and requests given. -/
def State.requestCheck (s : State) (p word : Nat) (free : Bool) : Option Nat :=
  let v := voltOf word
  let c := currOf word
  if v < 250 ∨ v > 2400 ∨ c < 1 ∨ c > 500 then some St.badEntry
  else if !free || (s.pwc p).reduce.isSome then some St.collided
  else if v > s.fld Fld.CPW_LIMIT.VMAX p ∨ c > s.fld Fld.CPW_LIMIT.IMAX p then some St.noPower
  else if s.budgetUsed - s.portCharge p + chargeOf word > s.fld Fld.CPW_BUDGET.LIMIT then some St.noPower
  else none

/-- Whether a request fails at the budget (R379). -/
def State.overBudget (s : State) (p word : Nat) : Bool :=
  voltOf word ≤ s.fld Fld.CPW_LIMIT.VMAX p && currOf word ≤ s.fld Fld.CPW_LIMIT.IMAX p &&
    decide (s.budgetUsed - s.portCharge p + chargeOf word > s.fld Fld.CPW_BUDGET.LIMIT)

/-- Answer a request: REJECT at the first check that fails, or ACCEPT and what follows it (R378, R379, R384). -/
def answerRequest (p word : Nat) (free : Bool) (accepted : Prog) : Prog :=
  .read fun s => match s.requestCheck p word free with
    | some st =>
      if st = St.collided then sendCollided p
      else seqs [whenP (st == St.noPower && s.overBudget p word) (raise Fld.CPW_EVENT.BUDGET), sendReject p st]
    | none => seqs [accepted, sendMessage p 4 (word % 2 ^ 22)]

/-- PWC_GET_CAPS (R373, R378): the source answers with CAPS; it offers the fast swap. -/
def execPwcGetCaps (p : Nat) (levels : List Bool) (s : State) : Out :=
  finish (sourceTakes p levels [2] fun _ _ => .read fun s =>
    sendMessage p 1 (s.fld Fld.CPW_LIMIT.VMAX p + s.fld Fld.CPW_LIMIT.IMAX p * 2 ^ 12 + 2 ^ 22)) s

/-- PWC_REQUEST (R373, R378, R379). -/
def execPwcRequest (p : Nat) (levels : List Bool) (s : State) : Out :=
  finish (sourceTakes p levels [3] fun _ word => .read fun s =>
    answerRequest p word (s.cstate p == Cs.default || s.cstate p == Cs.contract)
      (modPwc p fun u => { u with target := word % 2 ^ 22 })) s

/-- PWC_ACK_RECEIVE (R375, R380): the first waiting message of an end is acknowledged; the ACK of an ACCEPT starts TRANSITION. -/
def execPwcAckReceive (e begin : Nat) (levels : List Bool) (s : State) : Out :=
  finish (takeAck e begin levels fun m => whenP (e < 16) (seqs [
    sinkHeard e, raise Fld.CPW_PORT_STATUS.SINK_SEEN e,
    .read fun s => whenP (m.type == 4 && (s.cstate e == Cs.default || s.cstate e == Cs.contract)) (enterTransition e m.word false false)])) s

/-- PWC_ACK_TIMEOUT (R375): a message with no ACK in 40 us is sent again, at most twice, and then given up; a PING waits for
PING_TIMEOUT. -/
def execPwcAckTimeout (e : Nat) (s : State) : Out :=
  finish (match (s.pwcEnd e).outq with
    | [] => .skip
    | m :: rest => whenP (m.again < 2 || m.type != 11) (atNs ((s.pwcEnd e).sentEnd + 40000) (seqs [
        modEnd e fun u => { u with outq := if m.again < 2 then { m with again := m.again + 1 } :: rest else rest }, sendFirst e]))) s

/-- PWC_KEEP_ALIVE (R382). -/
def execPwcKeepAlive (p : Nat) (levels : List Bool) (s : State) : Out := finish (sourceTakes p levels [7] fun _ _ => .skip) s

/-- PWC_BEAT (R376, R381, R382): a low of `tenths` of a us that is a beat lets a PS_READY that is due go out. -/
def execPwcBeat (p tenths : Nat) (s : State) : Out :=
  finish (whenP (p < 16 && s.cpwFn p == Fn.on && decide (8 ≤ tenths) && decide (tenths ≤ 14)) (seqs [sinkHeard p,
    whenP (s.cstate p == Cs.transition && (s.pwc p).readyDue) (finishTransition p)])) s

/-- PWC_SWAP_REQ (R388): MODE 1 LOCAL is checked and accepted, MODE 0 CABLE raises PEN under the armed contract. -/
def execPwcSwapReq (p : Nat) (levels : List Bool) (s : State) : Out :=
  finish (sourceTakes p levels [8] fun _ bytes => .read fun s =>
    let mode := bytes % 256
    let word := bytes / 256
    if (s.pwc p).reduce.isSome then sendCollided p
    else if mode = 1 then answerRequest p word (s.cstate p == Cs.contract) (seqs [
      modPwc p fun u => { u with arm := word % 2 ^ 22, swapAt := s.chr.ns }, setCstate p Cs.swapping])
    else if mode = 0 then
      if s.cstate p = Cs.local then
        let armed := s.fld Fld.CPW_SWAP.CONTRACT p
        seqs [setPen p true, clear Fld.CPW_SWAP.ARMED p, clear Fld.CPW_SWAP.CONTRACT p, sendMessage p 6 armed,
          putN Fld.CPW_CONTRACT.CONTRACT p armed, setCstate p Cs.contract, portEvent Fld.CPW_PORT_EVENT.CONTRACT p,
          powerChanged p 0, refreshBudget]
      else sendCollided p
    else sendReject p St.badEntry) s

/-- PWC_LOCAL_READY (R388): PEN falls and the armed contract is written to the stage; LOCAL follows the writes. -/
def execPwcLocalReady (p : Nat) (levels : List Bool) (s : State) : Out :=
  finish (sourceTakes p levels [9] fun _ _ => .read fun s => whenP (s.cstate p == Cs.swapping && s.bit Fld.CPW_PORT_STATUS.PEN p)
    (seqs [setPen p false, pmbusStart p (stageContract (s.pwc p).arm)])) s

/-- PWC_REDUCE_ANSWER (R383): ACCEPT sets the new limit; REJECT, with its status, reverts the port. -/
def execPwcReduceAnswer (p : Nat) (levels : List Bool) (s : State) : Out :=
  finish (sourceTakes p levels [4, 5] fun type status => .read fun s => match (s.pwc p).reduce with
    | none => .skip
    | some word =>
      if type = 4 then seqs [
        modPwc p fun u => { u with reduce := none }, pmbusStart p [ocLimit (currOf word)],
        putN Fld.CPW_CONTRACT.CONTRACT p word, portEvent Fld.CPW_PORT_EVENT.CONTRACT p, powerChanged p 5, refreshBudget,
        portCmdDone 3 p St.success]
      else seqs [putN Fld.CPW_PORT_STATUS.LAST_REJECT p status, endReduce p, revert p false]) s

/-! ### Supply swap -/

/-- PWC_FAST_SWAP_LOW (R376, R389, R397): a low of `tenths` of a us; 4 us or more is the fast-swap signal. -/
def execPwcFastSwapLow (p tenths : Nat) (s : State) : Out :=
  let armed := s.fld Fld.CPW_SWAP.CONTRACT p
  finish (whenP (p < 16 && s.cpwFn p == Fn.on && decide (40 ≤ tenths)) (
    if s.cstate p = Cs.local then seqs [
      setPen p true, modPwc p fun u => { u with line := { u.line with outq := [] }, heard := s.chr.ns },
      clear Fld.CPW_SWAP.ARMED p, clear Fld.CPW_SWAP.CONTRACT p, putN Fld.CPW_CONTRACT.CONTRACT p armed, setCstate p Cs.contract,
      portEvent Fld.CPW_PORT_EVENT.FAST_SWAP p, portEvent Fld.CPW_PORT_EVENT.CONTRACT p,
      postEvent 0 Ev.fastSwap (powerDetail true 0 0 p 0), refreshBudget]
    else portEvent Fld.CPW_PORT_EVENT.FAST_UNARMED p)) s

/-- PWC_STUCK (R389): the line stays low for 1 ms outside LOCAL. -/
def execPwcStuck (p : Nat) (s : State) : Out :=
  finish (whenP (p < 16 && s.cstate p != Cs.local) (portEvent Fld.CPW_PORT_EVENT.PWC_STUCK p)) s

/-! ### Timers and polls of the source -/

/-- VOUT_POLL (R380, R561): READ_VOUT and READ_IOUT of a stage bring two words. In TRANSITION they come 250 us after the last READ_VOUT of 140 us, and the
second reading within 3 % of the target writes the new limit. -/
def execVoutPoll (p vout iout : Nat) (s : State) : Out :=
  let u := s.pwc p
  let mv := s.voutMv p vout
  let goal := 20 * voltOf u.target
  let polls := s.cstate p == Cs.transition && s.pmbusIdle p && decide (u.inRange < 2)
  let take (p : Nat) (k : Prog) : Prog := seqs [
    pmbusRead p 0x8B, pmbusRead p 0x8C, putN Fld.CPW_MEAS.VOUT p ((mv + 10) / 20), putN Fld.CPW_MEAS.IOUT p (linear11Centi iout), k]
  finish (whenP (p < 16 && s.cpwFn p == Fn.on) (
    if !polls then take p .skip
    else atNs u.pollAt (take p (.read fun s => seqs [
      modPwc p fun v => { v with
        pollAt := s.chr.ns + 390000
        inRange := if (max mv goal - min mv goal) * 100 ≤ 3 * goal then u.inRange + 1 else 0 },
      .read fun s => whenP ((s.pwc p).inRange == 2) (pmbusStart p [ocLimit (currOf u.target)])])))) s

/-- TRANSITION_TIMEOUT (R380): no PS_READY within TRANS_MS. -/
def execTransitionTimeout (p : Nat) (s : State) : Out :=
  finish (whenP (p < 16 && s.cstate p == Cs.transition)
    (atNs ((s.pwc p).since + max 1 (s.fld Fld.CPW_CFG.TRANS_MS) * 1000000) (portFault p))) s

/-- CONTRACT_EXPIRY (R382): 1,500 ms with nothing heard. A port in LOCAL writes the default contract, and PEN rises after it. -/
def execContractExpiry (p : Nat) (s : State) : Out :=
  finish (whenP (p < 16 && (s.cstate p == Cs.contract || (s.cstate p == Cs.local && s.bit Fld.CPW_SWAP.ARMED p)))
    (atNs ((s.pwc p).heard + 1500000000) (seqs [
      putN Fld.CPW_KEEPALIVE.AGE_MS p 1500, portEvent Fld.CPW_PORT_EVENT.EXPIRED p, powerChanged p 2,
      if s.cstate p = Cs.contract then seqs [endReduce p, revert p true]
      else seqs [clear Fld.CPW_SWAP.ARMED p, clear Fld.CPW_SWAP.CONTRACT p, pmbusStart p (stageContract defaultContract),
        refreshBudget]]))) s

/-- REDUCE_TIMEOUT (R383): no answer to REDUCE within 10 ms. -/
def execReduceTimeout (p : Nat) (s : State) : Out :=
  finish (whenP (p < 16 && (s.pwc p).reduce.isSome) (atNs ((s.pwc p).reduceAt + 10000000)
    (seqs [endReduce p, revert p false]))) s

/-- SWAPPING_TIMEOUT (R393): no LOCAL_READY within 10 ms. -/
def execSwappingTimeout (p : Nat) (s : State) : Out :=
  finish (whenP (p < 16 && s.cstate p == Cs.swapping && s.bit Fld.CPW_PORT_STATUS.PEN p)
    (atNs ((s.pwc p).swapAt + 10000000) (seqs [modPwc p fun u => { u with arm := 0 }, setCstate p Cs.contract]))) s

/-- STATUS_WORD's output, current and temperature faults. -/
def stageFault (word : Nat) : Bool := word &&& 0xC034 != 0

/-- PFAULT_ASSERT (R386): the level of PFAULT#; while low, STATUS_WORD of every ON port is read in port order (`words` are theirs), and the ports whose
stage reports an output, current or temperature fault go to FAULT. The ports of an off domain see it not asserted (R415). -/
def execPfaultAssert (low : Bool) (words : List Nat) (s : State) : Out :=
  let ports := (List.range 16).filter fun p => s.laneOn p
  finish (seqs [
    forP ports fun p => putN Fld.CPW_PORT_STATUS.PFAULT p (if low then 1 else 0),
    whenP low (forP ((ports.filter fun p => s.cpwFn p == Fn.on).zip words) fun e => seqs [pmbusRead e.1 0x79,
      .read fun s => whenP (stageFault e.2 && s.cstate e.1 != Cs.fault) (portFault e.1)])]) s

/-- PWC_SILENCE (R390): 50 us of silence in TRANSITION, with PFAULT# low or the output below 90 % of the lower of its start and
target; not in a reversion (R382). -/
def execPwcSilence (p : Nat) (s : State) : Out :=
  let u := s.pwc p
  finish (whenP (p < 16 && s.cstate p == Cs.transition && !u.reverting &&
      (s.bit Fld.CPW_PORT_STATUS.PFAULT p ||
        decide (s.fld Fld.CPW_MEAS.VOUT p * 10 < 9 * min (voltOf u.old) (voltOf u.target))))
    (atNs (u.heard + 50000) (sinkLost p))) s

/-- PING_TIMEOUT (R391): the third PING finds no ACK. -/
def execPingTimeout (p : Nat) (s : State) : Out :=
  finish (match (s.pwcEnd p).outq with
    | [] => .skip
    | m :: _ => whenP (p < 16 && m.type == 11 && decide (m.again ≥ 2)) (atNs ((s.pwcEnd p).sentEnd + 40000) (sinkLost p))) s

/-- REARM_EXPIRY (R386, R392): the default contract is written again, after CLEAR_FAULTS in FAULT. -/
def execRearmExpiry (p : Nat) (s : State) : Out :=
  finish (whenP (p < 16 && s.cpwFn p == Fn.on && (s.cstate p == Cs.detached || s.cstate p == Cs.fault) && !s.bit Fld.CPW_PORT_STATUS.PEN p)
    (atNs (s.pwc p).waitEnd (pmbusStart p
      ((if s.cstate p = Cs.fault then [(0x03, 0)] else []) ++ stageContract defaultContract)))) s

/-! ### PMBus transactions -/

/-- The last transaction of a stage has completed. A transition whose readings were in range owes PS_READY: after a beat, or at once in a reversion. A port
in DETACHED, FAULT or expired LOCAL raises PEN at the default; one that swaps enters LOCAL. -/
def stageWritten (p : Nat) : Prog :=
  .read fun s => whenP (s.cpwFn p == Fn.on) (
    if s.cstate p = Cs.transition then whenP ((s.pwc p).inRange == 2) (if (s.pwc p).reverting then finishTransition p
      else modPwc p fun u => { u with readyDue := true })
    else if s.bit Fld.CPW_PORT_STATUS.PEN p then .skip
    else if s.cstate p = Cs.swapping then seqs [
      raise Fld.CPW_SWAP.ARMED p, putN Fld.CPW_SWAP.CONTRACT p (s.pwc p).arm, setCstate p Cs.local, powerChanged p 6, refreshBudget]
    else if s.cstate p = Cs.local then
      whenP (!s.bit Fld.CPW_SWAP.ARMED p) (seqs [setPen p true, reachDefault p false])
    else whenP ((s.cstate p == Cs.detached || s.cstate p == Cs.fault) && decide ((s.pwc p).waitEnd ≤ s.chr.ns))
      (seqs [setPen p true, reachDefault p true]))

/-- A transaction with a stage fails (R385): the port goes to ERROR while ENABLING, or to FAULT. -/
def stageFails (p : Nat) : Prog :=
  .read fun s => seqs [
    pmbusStart p [], raise Fld.CPW_EVENT.PMBUS_ERROR, portEvent Fld.CPW_PORT_EVENT.STAGE_ERR p,
    if s.cpwFn p = Fn.enabling then seqs [
      setPen p false, putN Fld.CPW_PORT_STATUS.FUNC_STATE p Fn.error, portCmdDone 0 p St.noPower, refreshBudget]
    else whenP (s.cpwFn p == Fn.on) (portFault p)]

/-! ### Switching a port's output -/

/-- A port's output enters ENABLING (R387). -/
def cpwEnabling (p : Nat) : Prog :=
  .read fun s => seqs [raise Fld.CPW_PORT_CTRL.ENABLE p, putN Fld.CPW_PORT_STATUS.FUNC_STATE p Fn.enabling,
    clear Fld.CPW_PORT_STATUS.PENDING_ENABLE p, pmbusStart p (s.enablingWrites p)]

/-- ENABLE = 1 (R387). -/
def cpwEnable (p : Nat) : Prog :=
  .read fun s =>
    if s.cpwFn p = Fn.off then cpwEnabling p
    else whenP (s.cpwFn p == Fn.disabling) (seqs [raise Fld.CPW_PORT_CTRL.ENABLE p, raise Fld.CPW_PORT_STATUS.PENDING_ENABLE p])

/-- VBUS of a port that is DISABLING discharges for 10 ms (R387). -/
def discharge (p : Nat) : Prog :=
  .read fun s => seqs [putN Fld.CPW_PORT_STATUS.FUNC_STATE p Fn.disabling,
    pmbusStart p [(0x01, 0x00)], modPwc p fun u => { u with waitEnd := s.chr.ns + 10000000 }, refreshBudget]

/-- ENABLE = 0 (R387): DISABLING at once; during DISABLING it clears PENDING_ENABLE. -/
def cpwDisable (p : Nat) : Prog :=
  .read fun s => seqs [clear Fld.CPW_PORT_CTRL.ENABLE p, clear Fld.CPW_PORT_STATUS.PENDING_ENABLE p,
    whenP (s.cpwFn p != Fn.off && s.cpwFn p != Fn.disabling) (seqs [
      contractEnds p, setPen p false, setCstate p Cs.default, discharge p])]

/-- FORCE_DEFAULT (R382, R397): reverts a port in CONTRACT; in TRANSITION it waits for the end. -/
def cpwForceDefault (p : Nat) : Prog :=
  .read fun s => whenP (s.cpwFn p == Fn.on) (
    if s.cstate p = Cs.contract then seqs [endReduce p, revert p false]
    else whenP (s.cstate p == Cs.transition && !(s.pwc p).reverting) (modPwc p fun u => { u with forceDue := true }))

/-- CPW_ENABLE (R387): ENABLE = 1 written to CPW_PORT_CTRL. -/
def execCpwEnable (p : Nat) (s : State) : Out := finish (whenP (p < 16) (cpwEnable p)) s

/-- CPW_DISABLE (R387, R397): ENABLE = 0 written to CPW_PORT_CTRL. -/
def execCpwDisable (p : Nat) (s : State) : Out := finish (whenP (p < 16) (cpwDisable p)) s

/-- CPW_ENABLED (R387): the stage writes are complete; PEN rises and the port is ON in DEFAULT. -/
def execCpwEnabled (p : Nat) (s : State) : Out :=
  finish (whenP (p < 16 && s.cpwFn p == Fn.enabling && s.pmbusIdle p) (seqs [
    setPen p true, putN Fld.CPW_PORT_STATUS.FUNC_STATE p Fn.on, setCstate p Cs.default,
    putN Fld.CPW_CONTRACT.CONTRACT p defaultContract, refreshBudget, portCmdDone 0 p St.success])) s

/-- CPW_DISCHARGED (R387): 10 ms after OPERATION 0x00 the port reaches OFF. -/
def execCpwDischarged (p : Nat) (s : State) : Out :=
  finish (whenP (p < 16 && s.cpwFn p == Fn.disabling) (atNs (s.pwc p).waitEnd (seqs [
    putN Fld.CPW_PORT_STATUS.FUNC_STATE p Fn.off, portCmdDone 1 p St.success,
    whenP (s.bit Fld.CPW_PORT_STATUS.PENDING_ENABLE p) (cpwEnabling p)]))) s

/-- CPW_FORCE_DEFAULT (R382): FORCE_DEFAULT written to CPW_PORT_CTRL. -/
def execCpwForceDefault (p : Nat) (s : State) : Out := finish (whenP (p < 16) (cpwForceDefault p)) s

/-! ### Commands -/

/-- Complete a POWER_PORT command at once. -/
def portCmdNow (tag p status : Nat) : Prog :=
  .read fun s => complete tag status (s.portStatus p) (s.fld Fld.CPW_CONTRACT.CONTRACT p)

/-- POWER_PORT ENABLE (R398): completes at ON or ERROR. -/
def execPowerPortEnable (tag : Nat) (s : State) : Out :=
  finish (withAction tag 0x48 5 0 fun c =>
    let p := c.at 4 1
    seqs [cpwEnable p, .read fun t =>
      if t.cpwFn p = Fn.on then portCmdNow tag p St.success
      else if t.cpwFn p = Fn.error then portCmdNow tag p St.noPower
      else running tag p]) s

/-- POWER_PORT DISABLE (R398): completes at OFF. -/
def execPowerPortDisable (tag : Nat) (s : State) : Out :=
  finish (withAction tag 0x48 5 1 fun c =>
    let p := c.at 4 1
    seqs [cpwDisable p, .read fun t => if t.cpwFn p = Fn.off then portCmdNow tag p St.success else running tag (16 + p)]) s

/-- POWER_PORT FORCE_DEFAULT (R398). -/
def execPowerPortForceDefault (tag : Nat) (s : State) : Out :=
  finish (withAction tag 0x48 5 2 fun c => seqs [cpwForceDefault (c.at 4 1), portCmdNow tag (c.at 4 1) St.success]) s

/-- Whether the sink's request is being carried out (Table 12-11). -/
def State.requestActive (s : State) (p : Nat) : Bool :=
  ((s.pwcEnd p).outq.any fun m => m.type == 4) || (s.cstate p == Cs.transition && !(s.pwc p).reverting) || s.cstate p == Cs.swapping

/-- POWER_PORT REDUCE (R383, R398): sends REDUCE and completes with its answer. -/
def execPowerPortReduce (tag : Nat) (s : State) : Out :=
  finish (withAction tag 0x48 5 3 fun c => .read fun s =>
    let p := c.at 4 1
    let now := s.fld Fld.CPW_CONTRACT.CONTRACT p
    let curr := currOf (c.at 8 4)
    let word := voltOf now + curr * 2 ^ 12
    if s.requestActive p then portCmdNow tag p St.collided
    else if s.cstate p ≠ Cs.contract ∨ curr = 0 ∨ curr ≥ currOf now ∨ (s.pwc p).reduce.isSome then portCmdNow tag p St.badEntry
    else seqs [running tag (48 + p), modPwc p fun u => { u with reduce := some word, reduceAt := s.chr.ns }, sendMessage p 10 word]) s

/-- POWER_PORT SET_LIMIT (R398): VMAX and IMAX of the port. -/
def execPowerPortSetLimit (tag : Nat) (s : State) : Out :=
  finish (withAction tag 0x48 5 4 fun c => seqs [
    putN Fld.CPW_LIMIT.VMAX (c.at 4 1) (voltOf (c.at 8 4)), putN Fld.CPW_LIMIT.IMAX (c.at 4 1) (currOf (c.at 8 4)),
    portCmdNow tag (c.at 4 1) St.success]) s

/-- POWER_BUDGET (R398). -/
def execPowerBudget (tag : Nat) (s : State) : Out :=
  finish (withCmd tag 0x49 fun c => .read fun s =>
    seqs [put Fld.CPW_BUDGET.LIMIT (c.at 8 2), complete tag St.success (s.fld Fld.CPW_BUDGET.USED)]) s

/-- POWER_READ (R398): the port's words +0x04 to +0x20 go to DATA, with AGE_MS as it then is. -/
def execPowerRead (tag : Nat) (s : State) : Out :=
  finish (withCmd tag 0x4A fun c => .read fun s =>
    let p := c.at 4 1
    seqs [whenP (s.cpwFn p == Fn.on) (putN Fld.CPW_KEEPALIVE.AGE_MS p (min 65535 ((s.chr.ns - (s.pwc p).heard) / 1000000))),
      .read fun t => writeData tag c (c.at 8 8) ((List.range 8).flatMap fun i => toBytes (t.word (0x24104 + 4 * i) p) 4)]) s

/-! ### Sinks -/

/-- A message of the source reaches a powered sink (R375). -/
def sinkTakes (d : Nat) (levels : List Bool) (type : Nat) (k : Nat → Prog) : Prog :=
  .read fun s => whenP ((s.dev d).sink != .unpowered) (takeMessage (1000 + d) levels [type] .skip fun _ word => k word)

/-- PWC_CAPS (R378, R388): a sink takes CAPS and may ask: for a contract within them, or from LOCAL for the cable. -/
def execPwcCaps (d : Nat) (levels : List Bool) (ask : Nat) (s : State) : Out :=
  finish (sinkTakes d levels 1 fun caps => .read fun s =>
    let n := s.dev d
    if ask = 0 then .skip
    else if n.sink = .local then seqs [modDev d fun n => { n with sinkCable := true }, sendMessage (1000 + d) 8 0]
    else whenP (voltOf ask ≤ bitsAt caps 0 12 && currOf ask ≤ bitsAt caps 12 10 && decide (n.sinkSince ≤ s.chr.ns))
      (seqs [modDev d fun n => { n with sinkAsked := ask % 2 ^ 22 }, sendMessage (1000 + d) 3 (ask % 2 ^ 22)])) s

/-- PWC_ACCEPT (R381, R388): the ACK of an ACCEPT begins the sink's TRANSITION; the ACCEPT of a swap makes it carry its own load and
send LOCAL_READY. -/
def execPwcAccept (d : Nat) (levels : List Bool) (s : State) : Out :=
  finish (sinkTakes d levels 4 fun word => .read fun s =>
    let n := s.dev d
    if n.sink = .contract ∧ n.sinkArm ≠ 0 ∧ n.sinkArm = word % 2 ^ 22 then
      seqs [sendMessage (1000 + d) 9 0, modDev d fun n => { n with sink := .local }]
    else whenP (n.sinkAsked != 0 && (n.sink == .default || n.sink == .contract))
      (modDev d fun n => { n with sink := .transition, sinkAsked := 0, sinkBeatAt := s.chr.ns + 20000 })) s

/-- PWC_PS_READY (R381, R388, R394): the contract is in force at the sink. A self-powered sink may then ask to arm a contract. -/
def execPwcPsReady (d : Nat) (levels : List Bool) (arm : Nat) (s : State) : Out :=
  finish (sinkTakes d levels 6 fun word => .read fun s =>
    let n := s.dev d
    seqs [
      modDev d fun n => { n with
        sinkContract := word % 2 ^ 22
        sink := if n.sink == .transition || (n.sink == .local && n.sinkCable) then .contract else n.sink
        sinkAliveAt := if n.sink = .transition then s.chr.ns + 500000000 else n.sinkAliveAt
        sinkCable := false, sinkArm := if arm = 0 then 0 else arm % 2 ^ 22 },
      whenP (n.sink == .transition && arm != 0) (sendMessage (1000 + d) 8 (1 + 256 * (arm % 2 ^ 22)))]) s

/-- PWC_REDUCE (R383): the sink lowers its draw and answers ACCEPT; a request of its own that crossed is abandoned (R384). -/
def execPwcReduce (d : Nat) (levels : List Bool) (s : State) : Out :=
  finish (sinkTakes d levels 10 fun word => seqs [
    modDev d fun n => { n with sinkContract := word % 2 ^ 22, sinkAsked := 0 }, sendMessage (1000 + d) 4 (word % 2 ^ 22)]) s

/-- PWC_PING (R391): the sink acknowledges. -/
def execPwcPing (d : Nat) (levels : List Bool) (s : State) : Out := finish (sinkTakes d levels 11 fun _ => .skip) s

/-- PWC_REJECT (R384): the sink abandons its request and may send it again 10 ms later. -/
def execPwcReject (d : Nat) (levels : List Bool) (s : State) : Out :=
  finish (sinkTakes d levels 5 fun _ => .read fun s => modDev d fun n => { n with
    sinkAsked := 0, sinkArm := if n.sink = .local then n.sinkArm else 0, sinkCable := false, sinkSince := s.chr.ns + 10000000 }) s

/-- SINK_SUPPLY_FAIL (R389, R394): a sink in LOCAL pulls PWC low and is then in CONTRACT under its armed contract. -/
def execSinkSupplyFail (d : Nat) (s : State) : Out :=
  finish (whenP ((s.dev d).sink == .local) (seqs [
    emit (.pwc (1000 + d) s.chr.ns (List.replicate 16 false)),
    modDev d fun n => { n with sink := .contract, sinkContract := n.sinkArm, sinkArm := 0 }])) s

/-- SINK_VBUS_CHANGE (R394). -/
def execSinkVbusChange (d : Nat) (present : Bool) (s : State) : Out :=
  finish (modDev d fun n =>
    if present then (if n.sink = .unpowered then { n with sink := .default, sinkContract := defaultContract } else n)
    else { n with sink := .unpowered, sinkContract := 0, sinkAsked := 0, sinkArm := 0, sinkCable := false, sinkLine := {} }) s

/-- SINK_KEEP_ALIVE_TIMER (R382): every 500 ms. -/
def execSinkKeepAliveTimer (d : Nat) (s : State) : Out :=
  finish (whenP ((s.dev d).sink == .contract || (s.dev d).sink == .local) (atNs (s.dev d).sinkAliveAt (.read fun s => seqs [
    modDev d fun n => { n with sinkAliveAt := s.chr.ns + 500000000 }, sendMessage (1000 + d) 7 0]))) s

/-- SINK_BEAT_TIMER (R376, R381): every 20 us during a transition, a low of 1 us. -/
def execSinkBeatTimer (d : Nat) (s : State) : Out :=
  finish (whenP ((s.dev d).sink == .transition) (atNs (s.dev d).sinkBeatAt (.read fun s => seqs [
    modDev d fun n => { n with sinkBeatAt := s.chr.ns + 20000 }, emit (.pwc (1000 + d) s.chr.ns [false, false])]))) s

end Sys2Proof.Machine
end

