-- ==== Sys2Proof/Machine/Roles.lean ====
section
/-! DEFINITION. The role states of a redundant pair (R433 to R436, Table 14-3): claims, entering a state, leaving the pair. -/

namespace Sys2Proof.Machine

/-! The role states of Table 14-3. -/

def Role.off : Nat := 0
def Role.elect : Nat := 1
def Role.primary : Nat := 2
def Role.syncing : Nat := 3
def Role.standby : Nat := 4
def Role.mirrorLost : Nat := 5
def Role.paused : Nat := 6

/-! The reasons of Table 14-6. -/

def Why.elected : Nat := 0
def Why.watchdog : Nat := 1
def Why.handover : Nat := 2
def Why.collided : Nat := 3
def Why.desync : Nat := 4
def Why.mirrorLost : Nat := 5
def Why.chartLost : Nat := 6
def Why.stopped : Nat := 7

/-- The role state. -/
def State.roleState (s : State) : Nat := s.fld Fld.PAIR_STATUS.ROLE

/-- The pair identity (R433). -/
def State.pairId (s : State) : Nat := s.fld Fld.PAIR_ID_HI.ID_HI * 2 ^ 32 + s.fld Fld.PAIR_ID_LO.ID_LO

/-- Complete the PAIR_ROLE commands of an action (Table 14-7). -/
def pairComplete (action status : Nat) : Prog :=
  .read fun s => completeWaiting 0x50 action status (s.word 0x28008 0) (s.word 0x28020 0)

/-- Send a claim pair (R427): 0 CLAIM, 1 PRIMARY, 2 SWAP, 3 YIELD. -/
def sendClaim (kind : Nat) : Prog :=
  .read fun s => whenP (s.portUp 18) (emit (.ordered 18 (mclaim s.pairId kind)))

/-- ROLE_OUT is driven low (R434), unless its pad is latched (R413). -/
def roleOutLow : Prog :=
  .read fun s => seqs [modPair fun u => { u with roleOut := false },
    whenP (s.pair.roleOut && !bitAt (s.fld Fld.PWR_PAD_STATUS.LATCHED) 4) (emit (.pin "ROLE_OUT" false))]

/-- Enter a role state and post ROLE_CHANGED (R443). ROLE_OUT is low in every state but PRIMARY (R434). A standby ignores ROLE of CHR_SYNC_CFG (R430). Leaving ELECT completes
PAIR_ROLE ENABLE (Table 14-7). -/
def setRole (role reason : Nat) : Prog :=
  .read fun s => whenP (s.roleState != role) (seqs [
    put Fld.PAIR_STATUS.ROLE role, whenP (role != Role.primary) roleOutLow, .read fun t => whenP (t.role != s.role) roleChanged,
    modPair fun u => { u with armed := false, waiting := [], copyNext := none, aliveAt := if role = Role.mirrorLost then s.chr.ns else u.aliveAt },
    postEvent 0 Ev.roleChanged (s.roleState * 2 ^ 28 + role * 2 ^ 24 + reason * 2 ^ 20 + s.tickLow 20),
    whenP (s.roleState == Role.elect) (pairComplete 0 St.success)])

/-- Enter SYNCING and ask for a copy (R435, R436); a lane that is not UP is waited for (Table 14-3). -/
def enterSyncing (reason : Nat) : Prog :=
  .read fun s => seqs [
    setRole Role.syncing reason,
    modPair fun u => { u with
      goodFrom := none, copied := false, copyBuf := [], waiting := [], commit := none, beacon := none, handTick := none
      timeSet := u.timeSet && s.standby
      downAt := if s.portUp 18 then none else some s.chr.ns },
    put Fld.PAIR_STATUS.COPY_PCT 0, sendClaim 3]

/-- Enter ELECT (R435). A controller that comes from following a primary runs no tick of its own until it is PRIMARY. -/
def enterElect (reason : Nat) : Prog :=
  .read fun s => seqs [
    setRole Role.elect reason, whenP s.standby stopTicks,
    modPair fun u => { u with electAt := s.chr.ns, claimAt := s.chr.ns, claimed := false, peerClaimed := false, timeSet := false }]

/-- Enter PRIMARY out of an election (R435): the chart runs where CHT_CTRL.RUN says so. -/
def electPrimary : Prog :=
  seqs [setRole Role.primary Why.elected, put Fld.PAIR_STATUS.LAST St.success,
    .read fun s => whenP (s.bit Fld.CHT_CTRL.RUN) startRun]

/-- Crossed CLAIMs are resolved (R433, R435): equal identities stay in ELECT, the lower one is primary. -/
def resolveClaims (peer : Nat) : Prog :=
  .read fun s =>
    if peer = s.pairId then raise Fld.PAIR_EVENT.ID_CLASH
    else if s.pairId < peer then electPrimary
    else seqs [raise Fld.PAIR_EVENT.COLLIDED, put Fld.PAIR_STATUS.LAST St.collided, enterSyncing Why.collided]

/-- The pair function reaches OFF (R87, R435). -/
def pairOff : Prog :=
  seqs [put Fld.PAIR_STATUS.FUNC_STATE Fn.off, pairComplete 1 St.success]

/-- The pair function stops (R435): the role is OFF and mirroring ends. A controller that followed a primary runs no tick on its own. -/
def pairStops : Prog :=
  .read fun s => seqs [setRole Role.off Why.stopped, whenP s.standby stopTicks, modPair fun u => { u with
    roleOut := u.roleOut, tskew := u.tskew, rskew := u.rskew, edgeAt := u.edgeAt, downAt := u.downAt
    electAt := 0, claimAt := 0, claimed := false, peerClaimed := false, swapSent := false, handTick := none, beacon := none
    armed := false, waiting := [], frames := 0, bytes := 0, overflow := false, outRecs := [], goodFrom := none, copyNext := none
    copyBuf := [], copied := false, commit := none, chartLost := none, timeSet := false, takeover := none, skewEnd := [] }]

end Sys2Proof.Machine
end

