-- ==== Sys2Proof/Machine/Lanes.lean ====
section
/-! DEFINITION. Lanes and link bring-up: the training states (R74 to R86), lanes as switchable functions (R87), errors and retraining
(R88 to R92), low power and the foghorn (R93 to R95), at both ends of a link. End 0 to 15 is a root port, 16 SYNC_UP, 17 SYNC_DN, 18 MIRROR
(Table 03-10); 32 + 32 * d + p is an end of device `d`: p = 0 upstream, 16 the upstream port B of a dual-homed hub, 1 to 15 downstream. Of what an end sends
without a break (Table 03-6) the model emits a set each time it changes. -/

namespace Sys2Proof.Machine

/-- The training states of Table 03-6. -/
def Ls.disabled : Nat := 0
def Ls.detect : Nat := 1
def Ls.caps : Nat := 2
def Ls.genSwitch : Nat := 3
def Ls.align : Nat := 4
def Ls.eq : Nat := 5
def Ls.confirm : Nat := 6
def Ls.up : Nat := 7
def Ls.retrain : Nat := 8
def Ls.lowPower : Nat := 9
def Ls.error : Nat := 10

/-- The device an end belongs to, and its port. -/
def devOf (n : Nat) : Nat := (n - 32) / 32
/-- The port of a device that an end is. -/
def portOf (n : Nat) : Nat := n % 32

/-- Whether a number names an end of a link: a lane of the controller, or a port of a device. -/
def isEnd (n : Nat) : Bool := decide (n < 19) || (decide (32 ≤ n) && decide (portOf n ≤ 16))

/-- Whether an end is the downstream port of a hub. -/
def hubDown (n : Nat) : Bool := decide (32 ≤ n) && portOf n != 0 && portOf n != 16

/-- Whether an end is U of its link (R32); MIRROR, where neither end leads, acts as U. DESIGN CHOICE (notes/assumptions/28). -/
def isU (n : Nat) : Bool := if n < 32 then n != 16 else hubDown n

/-- The training state of an end. -/
def State.lstate (s : State) (n : Nat) : Nat := if n < 19 then s.fld Fld.LNK_STATUS.STATE n else (s.lane n).st

/-- Whether an end's receiver holds lock. -/
def State.lockHeld (s : State) (n : Nat) : Bool := if n < 19 then s.bit Fld.LNK_ALIGN.LOCKED n else (s.lane n).locked

/-- Whether an end's receiver sees no signal. -/
def State.noSignal (s : State) (n : Nat) : Bool := if n < 19 then s.bit Fld.LNK_STATUS.LOS n else (s.lane n).lostAt.isSome

/-- Whether the upstream link of a device is UP; a dual-homed hub has two. -/
def State.upstreamUp (s : State) (d : Nat) : Bool := (s.lane (32 + 32 * d)).st == 7 || (s.lane (48 + 32 * d)).st == 7

/-- Whether an end trains: a hub trains a downstream port only while its upstream link is UP (R76). -/
def State.trains (s : State) (n : Nat) : Bool := isEnd n && (!hubDown n || s.upstreamUp (devOf n))

/-- A register field of a lane, which a device's end does not have. -/
def putLane (f : Field) (n v : Nat) : Prog := whenP (decide (n < 19)) (putN f n v)

/-- An event bit of a lane. -/
def laneEvent (f : Field) (n : Nat) : Prog := whenP (decide (n < 19)) (raise f n)

/-- An end gains or loses lock (R77). -/
def setLock (n : Nat) (v : Bool) : Prog := if n < 19 then putN Fld.LNK_ALIGN.LOCKED n (bit1 v) else modLane n fun l => { l with locked := v }

/-- The function state that a training state counts as (R87). -/
def laneFn (st : Nat) : Nat :=
  if st = Ls.disabled then Fn.off else if st ≤ Ls.confirm then Fn.enabling else if st ≤ Ls.lowPower then Fn.on else Fn.error

/-- The kind of an end (Table 03-5). -/
def State.laneKind (s : State) (n : Nat) : Nat :=
  if n < 16 then 1 else if n = 16 then 6 else if n = 17 then 5 else if n < 32 then 7
  else if hubDown n then 3 else if (s.dev (devOf n)).isHub then 2 else 4

/-- Whether a peer's KIND is a compatible partner (Table 03-5). -/
def partner (own peer : Nat) : Bool :=
  if own = 1 ∨ own = 3 then peer == 2 || peer == 4
  else if own = 2 ∨ own = 4 then peer == 1 || peer == 3
  else if own = 5 then peer == 6 else if own = 6 then peer == 5 else own == 7 && peer == 7

/-- The lanes that run at G3 only (R84). -/
def auxLane (n : Nat) : Bool := decide (16 ≤ n) && decide (n < 19)

/-- Ordered sets that an end sends at the generation it runs at, back to back. -/
def sendSets (n : Nat) (l : List OSet) : Prog := .read fun s => emit (.ordered n (l.flatMap (OSet.codes (s.lane n).gen)))

/-- TRAIN of an end, LOCKED as it holds. -/
def sendTrain (n : Nat) (ready eqActive : Bool) : Prog :=
  .read fun s => whenP (s.trains n) (sendSets n [.train (s.lockHeld n) ready ((s.lane n).eqFail && ready) eqActive])

/-- The default training record of a device's end, which keeps its own MAX_GEN. -/
def LaneRec.restart (l : LaneRec) (ns : Nat) : LaneRec := { maxGen := l.maxGen, entered := ns, began := ns, lostAt := l.lostAt }

/-- What follows when an end leaves UP: a fix in flight is discarded (R34, R91); a hub's downstream port goes to DOWN (R102, R103); a device whose
upstream link leaves UP forgets (R121), a dual-homed hub when neither of its upstream links is UP, and a hub returns every downstream port to DETECT (R76). -/
def leftUp (n : Nat) : Prog :=
  .read fun s =>
    let d := devOf n
    if n < 19 then modFix n fun f => { f with outstanding := none }
    else if hubDown n then modDev d fun v => v.onHub fun h => h.down (portOf n)
    else whenP (!s.upstreamUp d) (seqs [
      modDev d NodeDev.forget,
      forP (s.lanes.filter fun e => hubDown e.1 && devOf e.1 == d) fun e => modLane e.1 fun l => l.restart s.chr.ns])

/-- Enter a training state: the state's timeout runs from here (R74). A port that is not UP is not ready for a takeover (Table 14-9), and
the pair logic keeps since when MIRROR is not UP (Table 14-3). -/
def enterLane (n st : Nat) : Prog :=
  .read fun s => seqs [
    putLane Fld.LNK_STATUS.STATE n st, putLane Fld.LNK_STATUS.FUNC_STATE n (laneFn st),
    modLane n fun l => { l with
      st := if n < 19 then l.st else st
      entered := s.chr.ns, idle := false, peerLocked := false, trainSeen := false, readyRun := 0, goAt := none },
    whenP (s.lstate n == Ls.up && st != Ls.up) (leftUp n),
    whenP (n < 16 && st != Ls.up) (putFlag Fld.PAIR_PORTS.READY n false),
    whenP (n == 18) (modPair fun u => { u with downAt := if st = Ls.up then none else some (u.downAt.getD s.chr.ns) }),
    whenP (n < 16) wakeFixed]

/-- Enter DETECT (R74, R84): TRAIN at G1, or G3 on an auxiliary lane. -/
def enterDetect (n : Nat) : Prog :=
  .read fun s => seqs [
    enterLane n Ls.detect,
    putLane Fld.LNK_STATUS.GEN n 0, setLock n false, putLane Fld.LNK_STATUS.LEGACY n 0, putLane Fld.LNK_EQ_RESULT.FALLBACKS n 0,
    modLane n fun l => { l with
      caps := none, capsRun := 0, peerAck := false, eqFail := false, peerEqFail := false, legacy := false
      gen := if auxLane n then 3 else 1, target := if auxLane n then 3 else 1
      began := s.chr.ns, linkOff := false, fromRetrain := false, swapped := false, bursts := 0, waking := false, codeErrs := [], lockErrs := [] },
    sendTrain n false false]

/-- The location on a root port. -/
def rootLoc (p : Nat) : Location := { port := p }

/-- What leaving UP does to a root port's tree: its nodes are no longer reached, for a reason of Table 04-13 (R123). The retrain that
enumeration orders itself is not a loss (R121). -/
def treeLoses (n reason : Nat) : Prog :=
  .read fun s => whenP (n < 16 && !(s.treeOf n).retrained.contains (rootLoc n)) (subtreeGone n 0 0 reason)

/-- A lane is lost (R54, R90, R390, R391): it returns to DETECT and the tree and cable-power logic are told. -/
def laneLost (n reason : Nat) : Prog :=
  .read fun s => seqs [
    laneEvent Fld.LNK_EVENT.LANE_LOST n, enterDetect n,
    whenP (n < 16) (seqs [
      modTreeOf n fun t => { t with retrained := t.retrained.filter (· != rootLoc n) }, subtreeGone n 0 0 reason, laneLostCable n]),
    whenP (n == 16 && s.role == 2) (deadReckon 2)]

/-- Enter RETRAIN, after 8 RETRAIN with KIND fast (R89): TRAIN follows at the generation of the link. -/
def enterRetrain (n : Nat) : Prog :=
  seqs [sendSets n (List.replicate 8 (.retrain false)), enterLane n Ls.retrain,
    modLane n fun l => { l with fromRetrain := true, eqFail := false, peerEqFail := false }, sendTrain n false false]

/-- A full retrain from UP (R89); an end that one was received by sends its own 8 too. DESIGN CHOICE (notes/assumptions/28). -/
def fullRetrain (n : Nat) : Prog := seqs [sendSets n (List.replicate 8 (.retrain true)), treeLoses n 0, enterDetect n]

/-- An attempt fails (R85): 10 ms of electrical idle, or ERROR at MAX_ATTEMPTS. A device's end has no limit. -/
def attemptFailed (n : Nat) : Prog :=
  .read fun s =>
    let k := min 15 (s.fld Fld.LNK_STATUS.ATTEMPTS n + 1)
    let limit := s.fld Fld.LNK_CFG.MAX_ATTEMPTS n
    seqs [laneEvent Fld.LNK_EVENT.ATTEMPT_FAILED n, putLane Fld.LNK_STATUS.ATTEMPTS n k, putLane Fld.LNK_STATUS.GEN n 0, setLock n false,
      if n < 19 ∧ limit ≠ 0 ∧ limit ≤ k then enterLane n Ls.error
      else seqs [enterLane n Ls.detect, modLane n fun l => { l with idle := true }]]

/-- The 16 GEN_GO with which U orders a generation (R80). -/
def genGoSets (gen : Nat) : List OSet := (List.range 16).map fun i => .genGo gen (15 - i)

/-- GEN_SWITCH (R80, R83): U orders the target with 16 GEN_GO and holds electrical idle from their end on; D holds it from the GEN_GO it receives;
`both` is the step down without an exchange. -/
def enterGenSwitch (n target : Nat) (both : Bool) : Prog :=
  .read fun s =>
    let orders := isU n && !both
    seqs [
      whenP orders (sendSets n (genGoSets target)),
      enterLane n Ls.genSwitch, setLock n false,
      modLane n fun l => { l with
        target := target, eqFail := false, peerEqFail := false
        goAt := if orders then some (s.chr.ns + setsTime l.gen (.genGo target 0) 16) else if both then some s.chr.ns else none }]

/-- One generation lower, through electrical idle (R83); `both` is whether both ends go without an exchange. -/
def fallBack (n : Nat) (both : Bool) : Prog :=
  .read fun s => seqs [
    laneEvent Fld.LNK_EVENT.FALLBACK n, putLane Fld.LNK_EQ_RESULT.FALLBACKS n (min 3 (s.fld Fld.LNK_EQ_RESULT.FALLBACKS n + 1)),
    enterGenSwitch n ((s.lane n).gen - 1) both]

/-- A link reaches UP (R74, R85): a root port's tree queues the location (R115), unless the link only retrained; a hub's downstream ports may train
(R76). A link that comes up, and one whose receiver was swapped, is fixed at once (R97). -/
def linkUp (n : Nat) : Prog :=
  .read fun s =>
    let l := s.lane n
    seqs [
      enterLane n Ls.up, putLane Fld.LNK_STATUS.GEN n l.gen, putLane Fld.LNK_STATUS.ATTEMPTS n 0, laneEvent Fld.LNK_EVENT.LINK_UP n,
      whenP (n < 19 && (!l.fromRetrain || l.swapped)) (modFix n fun f => { f with due := 0 }),
      if l.fromRetrain then laneEvent Fld.LNK_EVENT.RETRAINED n
      else seqs [
        putLane Fld.LNK_TRAIN_TIME.US n (min (2 ^ 20 - 1) ((s.chr.ns - l.began) / 1000)),
        whenP (n < 16 && !s.standby) (modTreeOf n fun t =>
          if t.retrained.contains (rootLoc n) then { t with retrained := t.retrained.filter (· != rootLoc n) }
          else { t with queue := t.queue ++ [rootLoc n] })],
      modLane n fun l => { l with fromRetrain := false, swapped := false },
      whenP (32 ≤ n && !hubDown n && (s.dev (devOf n)).isHub && !s.upstreamUp (devOf n))
        (forP ((List.range 15).map (33 + 32 * devOf n + ·)) fun k => sendTrain k false false),
      whenP (n == 18 && s.roleState == Role.syncing) (sendClaim 3)]

/-- CONFIRM is complete (R82, R83, R84). -/
def confirmDone (n : Nat) : Prog :=
  .read fun s =>
    let l := s.lane n
    if !(l.eqFail || l.peerEqFail) then linkUp n
    else if l.gen ≤ 1 ∨ auxLane n then attemptFailed n
    else fallBack n false

/-- Enter CONFIRM, sending TRAIN with READY. -/
def enterConfirm (n : Nat) : Prog := seqs [enterLane n Ls.confirm, sendTrain n true false]

/-- Enter EQ, or with EQ_FIXED go on to CONFIRM with the values of LNK_EQ_CFG (R81). -/
def enterEq (n : Nat) : Prog :=
  .read fun s =>
    if n < 19 ∧ s.bit Fld.LNK_CFG.EQ_FIXED n then seqs [
      putN Fld.LNK_EQ_RESULT.TX_DEEMPH n (min 12 (s.fld Fld.LNK_EQ_CFG.TX_DEEMPH n)),
      putN Fld.LNK_EQ_RESULT.RX_CTLE n (s.fld Fld.LNK_EQ_CFG.RX_CTLE n), enterConfirm n]
    else seqs [enterLane n Ls.eq, sendTrain n false true]

/-- An end's own MAX_GEN: 0 acts as 1, auxiliary lanes are at 3 (Table 03-12, R84). -/
def State.ownGen (s : State) (n : Nat) : Nat :=
  if auxLane n then 3 else max 1 (if n < 19 then s.fld Fld.LNK_CFG.MAX_GEN n else (s.lane n).maxGen % 4)

/-- The CAPS of an end (R78): it sets every feature, on every lane. DESIGN CHOICE (notes/assumptions/28). -/
def State.ownCaps (s : State) (n : Nat) (ack : Bool) : OSet := .caps (s.laneKind n) (s.ownGen n) true true true ack

/-- Own lock and the peer's LOCKED move DETECT, ALIGN and RETRAIN on (Table 03-6). -/
def lockAdvance (n : Nat) : Prog :=
  .read fun s =>
    let st := s.lstate n
    whenP (s.lockHeld n && (s.lane n).peerLocked && !(s.lane n).idle) (
      if st = Ls.detect then seqs [enterLane n Ls.caps, sendSets n [s.ownCaps n false]]
      else if st = Ls.align then enterEq n
      else if st = Ls.retrain then enterConfirm n
      else .skip)

/-! ### Switching a lane -/

/-- ENABLE = 1 on a lane (R87). -/
def laneEnable (n : Nat) : Prog :=
  .read fun s =>
    let fn := s.fld Fld.LNK_STATUS.FUNC_STATE n
    if fn = Fn.off then seqs [raise Fld.LNK_CTRL.ENABLE n, enterDetect n]
    else whenP (fn == Fn.disabling) (seqs [raise Fld.LNK_CTRL.ENABLE n, raise Fld.LNK_STATUS.PENDING_ENABLE n])

/-- LNK_ENABLE (R87): ENABLE = 1 written to LNK_CTRL. -/
def execLnkEnable (n : Nat) (s : State) : Out := finish (whenP (n < 19) (laneEnable n)) s

/-- ENABLE = 0 on a lane (R87): 8 LINK_OFF DISABLE while the transmitter runs, then electrical idle. -/
def laneDisable (n : Nat) : Prog :=
  .read fun s =>
    let st := s.lstate n
    let fn := s.fld Fld.LNK_STATUS.FUNC_STATE n
    seqs [clear Fld.LNK_CTRL.ENABLE n, clear Fld.LNK_STATUS.PENDING_ENABLE n,
      whenP (fn != Fn.off && fn != Fn.disabling) (seqs [
        whenP (Ls.detect ≤ st && st ≤ Ls.retrain && !(s.lane n).idle) (sendSets n (List.replicate 8 (.linkOff false))),
        whenP (st == Ls.up || st == Ls.retrain) (seqs [treeLoses n 0, whenP (n == 16 && s.role == 2) (deadReckon 2)]),
        enterLane n Ls.disabled, putN Fld.LNK_STATUS.FUNC_STATE n Fn.disabling, putN Fld.LNK_STATUS.GEN n 0,
        clear Fld.LNK_ALIGN.LOCKED n, modLane n fun l => { l with bursts := 0, waking := false }])]

/-- LNK_DISABLE (R87): ENABLE = 0 written to LNK_CTRL. -/
def execLnkDisable (n : Nat) (s : State) : Out := finish (whenP (n < 19) (laneDisable n)) s

/-- ENABLING of the pair function enables the MIRROR lane; ON follows, in ELECT (R435). -/
def pairEnabling : Prog :=
  seqs [raise Fld.PAIR_CTRL.ENABLE, laneEnable 18, put Fld.PAIR_STATUS.FUNC_STATE Fn.on, enterElect Why.elected]

/-- The pair function's DISABLING ends with that of the MIRROR lane; a pending enable starts ENABLING (R87, R435). -/
def pairDisabled : Prog :=
  .read fun s => whenP (s.fld Fld.PAIR_STATUS.FUNC_STATE == Fn.disabling) (seqs [
    pairOff, whenP (s.bit Fld.PAIR_STATUS.PENDING_ENABLE) (seqs [clear Fld.PAIR_STATUS.PENDING_ENABLE, pairEnabling])])

/-- LANE_DISABLED (R87): a DISABLING lane reaches OFF, and a pending enable starts DETECT. -/
def execLaneDisabled (n : Nat) (s : State) : Out :=
  finish (whenP (n < 19 && s.fld Fld.LNK_STATUS.FUNC_STATE n == Fn.disabling) (seqs [
    if s.bit Fld.LNK_STATUS.PENDING_ENABLE n then seqs [clear Fld.LNK_STATUS.PENDING_ENABLE n, enterDetect n]
    else putN Fld.LNK_STATUS.FUNC_STATE n Fn.off,
    whenP (n == 18) pairDisabled])) s

/-! ### Training -/

/-- What a receiver's search finds in a window (R77): the bit position, the commas (at G3 the valid sync headers), and how many valid TRAIN sets (sync headers)
came in a row. Four sets, or 64 headers, are lock. In software mode the position moves by SLIP alone. A receiver that holds the idle of a failed attempt shows
nothing to its peer. -/
def lockWindow (n offset commas run : Nat) : Prog :=
  .read fun s =>
    let st := s.lstate n
    let soft := n < 19 && s.bit Fld.LNK_CFG.SW_ALIGN n
    let found := decide ((if (s.lane n).gen = 3 then 64 else 4) ≤ run) && (!soft || offset == s.fld Fld.LNK_ALIGN.OFFSET n)
    whenP (s.trains n && Ls.detect ≤ st && st ≤ Ls.retrain && !(s.lane n).idle && !s.noSignal n) (seqs [
      putLane Fld.LNK_ALIGN.COMMAS n (min 255 commas), whenP (!soft) (putLane Fld.LNK_ALIGN.OFFSET n offset),
      whenP (found && !s.lockHeld n) (seqs [
        setLock n true, modLane n fun l => { l with lockErrs := [] },
        whenP (st == Ls.detect || st == Ls.align || st == Ls.retrain) (sendTrain n false false), lockAdvance n])])

/-- LANE_LOCK (R77). -/
def execLaneLock (n offset commas run : Nat) (s : State) : Out := finish (lockWindow n offset commas run) s

/-- Lock is lost (R77, R89): an end in UP goes to RETRAIN. -/
def lockLost (n : Nat) : Prog :=
  .read fun s => seqs [setLock n false, modLane n fun l => { l with lockErrs := [] },
    if s.lstate n = Ls.up then enterRetrain n
    else whenP (Ls.detect ≤ s.lstate n && s.lstate n ≤ Ls.retrain && s.lockHeld n) (sendTrain n (s.lstate n == Ls.confirm) false)]

/-- LANE_LOCK_LOSS (R77, R89). -/
def execLaneLockLoss (n : Nat) (s : State) : Out := finish (whenP (isEnd n) (lockLost n)) s

/-- TRAIN_RECEIVE (R74, R83): a TRAIN set. The sixteenth in a row with READY completes CONFIRM, once 16 have been sent. -/
def execTrainReceive (n word : Nat) (s : State) : Out :=
  let st := s.lstate n
  let locked := bitAt word 8
  finish (whenP (s.trains n && word % 256 == 0x21 && !(s.lane n).idle) (
    if st = Ls.confirm then
      if bitAt word 9 then seqs [modLane n fun l => { l with readyRun := l.readyRun + 1, peerEqFail := bitAt word 10 },
        .read fun t =>
          let l := t.lane n
          whenP (decide (16 ≤ l.readyRun) && decide (l.entered + setsTime l.gen (.train true true true true) 16 ≤ t.chr.ns)) (confirmDone n)]
      else modLane n fun l => { l with readyRun := 0 }
    else if st = Ls.detect ∨ st = Ls.align ∨ st = Ls.retrain then
      seqs [modLane n fun l => { l with peerLocked := locked, trainSeen := true }, lockAdvance n]
    else whenP (st == Ls.caps && locked) (modLane n fun l => { l with trainSeen := true }))) s

/-- A peer's KIND is not a compatible partner (R78). -/
def miswired (n : Nat) : Prog := seqs [laneEvent Fld.LNK_EVENT.MISWIRED n, enterLane n Ls.error]

/-- The exchange of CAPS is complete: the target generation is set (R80). An auxiliary lane never leaves G3 (R84). -/
def capsDone (n peerGen : Nat) : Prog :=
  .read fun s =>
    let t := min (s.ownGen n) (max 1 peerGen)
    if t = (s.lane n).gen ∨ auxLane n then seqs [modLane n fun l => { l with target := l.gen }, enterEq n]
    else enterGenSwitch n t false

/-- CAPS_RECEIVE (R78, R79, R80): a CAPS set. -/
def execCapsReceive (n word : Nat) (s : State) : Out :=
  let kind := bitsAt word 8 4
  let maxGen := bitsAt word 12 2
  let ack := bitAt word 17
  let v := word % 2 ^ 64 - (if ack then 2 ^ 17 else 0)
  let run := if (s.lane n).caps = some v then (s.lane n).capsRun + 1 else 1
  finish (whenP (s.trains n && word % 256 == 0x22 && s.lstate n == Ls.caps) (seqs [
    putLane Fld.LNK_STATUS.PEER_KIND n kind, putLane Fld.LNK_STATUS.PEER_MAX_GEN n maxGen, putLane Fld.LNK_STATUS.PEER_FIX n (bitsAt word 14 1),
    putLane Fld.LNK_STATUS.PEER_EQ n (bitsAt word 16 1),
    if !partner (s.laneKind n) kind then miswired n
    else seqs [
      modLane n fun l => { l with caps := some v, capsRun := run, peerAck := l.peerAck || ack },
      whenP (run == 4) (sendSets n [s.ownCaps n true]),
      .read fun t => whenP (decide (run ≥ 4) && (t.lane n).peerAck) (capsDone n maxGen)]])) s

/-- LEGACY_DETECT (R78): 2 ms of TRAIN with LOCKED and no CAPS; the peer is a G1 node of KIND 4. -/
def execLegacyDetect (n : Nat) (s : State) : Out :=
  let l := s.lane n
  finish (whenP (s.trains n && isU n && s.lstate n == Ls.caps && l.trainSeen && l.caps == none) (atNs (l.entered + 2000000) (
    if !partner (s.laneKind n) 4 then miswired n
    else seqs [
      putLane Fld.LNK_STATUS.LEGACY n 1, putLane Fld.LNK_STATUS.PEER_KIND n 4, putLane Fld.LNK_STATUS.PEER_MAX_GEN n 1,
      putLane Fld.LNK_STATUS.PEER_FIX n 1, putLane Fld.LNK_STATUS.PEER_EQ n 0, modLane n fun l => { l with legacy := true }, enterEq n]))) s

/-- GEN_GO_RECEIVE (R80, R83): D takes the target generation, and holds electrical idle from the end of the set with COUNT 0, or from 1 us after the last set it
received. -/
def execGenGoReceive (n word : Nat) (s : State) : Out :=
  let st := s.lstate n
  let gen := max 1 (bitsAt word 8 2)
  finish (whenP (s.trains n && word % 256 == 0x23 && !isU n && !auxLane n && (st == Ls.caps || st == Ls.confirm || st == Ls.genSwitch)) (seqs [
    whenP (st != Ls.genSwitch) (enterGenSwitch n gen false),
    modLane n fun l => { l with
      target := gen
      goAt := some (s.chr.ns + if bitsAt word 16 4 = 0 then setsTime l.gen (.genGo gen 0) 1 else 1000) }])) s

/-- GEN_SWITCH_IDLE_END (R80, R83): 2 us of electrical idle end, and TRAIN starts at the target generation. -/
def execGenSwitchIdleEnd (n : Nat) (s : State) : Out :=
  finish (whenP (isEnd n && s.lstate n == Ls.genSwitch) (match (s.lane n).goAt with
    | none => .skip
    | some t => atNs (t + 2000) (seqs [enterLane n Ls.align, modLane n fun l => { l with gen := l.target }, sendTrain n false false]))) s

/-- EQ_REQ_RECEIVE (R81): the transmitter applies the de-emphasis asked for and answers with ACK. The exchange windows of the two ends need not coincide, so it does so in
CONFIRM too. DEDUCED (notes/assumptions/28). -/
def execEqReqReceive (n word : Nat) (s : State) : Out :=
  let v := min 12 (bitsAt word 8 5)
  finish (whenP (s.trains n && word % 256 == 0x24 && (s.lstate n == Ls.eq || s.lstate n == Ls.confirm) && (s.lane n).gen != 1 && !bitAt word 13)
    (seqs [putLane Fld.LNK_EQ_RESULT.TX_DEEMPH n v, sendSets n [.eqReq v true]])) s

/-- The eye opening below which a sweep fails, in 1/64 UI (R82). -/
def eyeLimit (gen : Nat) : Nat := if gen = 1 then 28 else if gen = 2 then 24 else 20

/-- The setting with the widest opening among those measured in order, the first of several (R82): its place and its opening. -/
def widest (eyes : List Nat) : Nat × Nat :=
  (eyes.zipIdx).foldl (fun best e => if best.2 < e.1 then (e.2, e.1) else best) (0, eyes.headD 0)

/-- EQ_SWEEP_DONE (R81, R82): the openings measured in the order of the schedule: for each round, which is a de-emphasis, the 16 steps of CTLE; at G1 the 16 steps alone.
The receiver chooses, asks for its de-emphasis every 2 us of the exchange window, and enters CONFIRM. -/
def execEqSweepDone (n : Nat) (eyes : List Nat) (s : State) : Out :=
  let l := s.lane n
  let best := widest (eyes.take (if l.gen = 1 then 16 else 208))
  let end_ := l.entered + if l.gen = 1 then 960000 else 12500000
  finish (whenP (s.trains n && s.lstate n == Ls.eq) (seqs [
    atNs (if l.gen = 1 then end_ else l.entered + 12480000) (seqs [
      putLane Fld.LNK_EQ_RESULT.EYE n best.2, putLane Fld.LNK_EQ_RESULT.RX_CTLE n (best.1 % 16),
      if l.gen = 1 then putLane Fld.LNK_EQ_RESULT.TX_DEEMPH n (min 12 (s.fld Fld.LNK_EQ_CFG.TX_DEEMPH n))
      else forP (List.range 10) fun _ => sendSets n [.eqReq (best.1 / 16) false],
      modLane n fun l => { l with eqFail := decide (best.2 < eyeLimit l.gen) }]),
    atNs end_ (enterConfirm n)])) s

/-- RETRAIN has timed out, or the receiver has seen no signal for 10 us with no LINK_OFF before it (R90). -/
def lossDue (n : Nat) : Prog :=
  .read fun s =>
    let l := s.lane n
    let st := s.lstate n
    match l.lostAt with
    | some t =>
      if (st = Ls.up ∨ st = Ls.retrain) ∧ !l.linkOff then atNs (t + 10000) (laneLost n 0)
      else whenP (st == Ls.retrain) (atNs (l.entered + 2000000) (laneLost n 0))
    | none => whenP (st == Ls.retrain) (atNs (l.entered + 2000000) (laneLost n 0))

/-- TRAINING_TIMEOUT (R74, Table 03-6). -/
def execTrainingTimeout (n : Nat) (s : State) : Out :=
  let l := s.lane n
  let st := s.lstate n
  finish (whenP (s.trains n && !l.idle) (
    if st = Ls.detect then whenP (!s.noSignal n && !(n < 19 && s.bit Fld.LNK_CFG.SW_ALIGN n))
      (atNs (l.began + 2000000) (attemptFailed n))
    else if st = Ls.caps then whenP (!(isU n && l.trainSeen && l.caps == none)) (atNs (l.entered + 2000000) (attemptFailed n))
    else if st = Ls.genSwitch then atNs (l.entered + 100000) (attemptFailed n)
    else if st = Ls.align then atNs (l.entered + 2000000)
      (if l.gen ≤ 1 ∨ auxLane n then attemptFailed n else fallBack n true)
    else if st = Ls.confirm then atNs (l.entered + 1000000) (attemptFailed n)
    else if st = Ls.retrain then atNs (l.entered + 2000000) (laneLost n 0)
    else .skip)) s

/-- ATTEMPT_IDLE_END (R85). -/
def execAttemptIdleEnd (n : Nat) (s : State) : Out :=
  finish (whenP (isEnd n && (s.lane n).idle) (atNs ((s.lane n).entered + 10000000) (enterDetect n))) s

/-! ### Errors and retraining -/

/-- The time in ns in which code errors count against lock (R77): 64 characters, or 64 blocks. -/
def lockSpan (gen : Nat) : Nat := if gen = 1 then 512 else if gen = 2 then 128 else 410

/-- Code errors within the lock window, and how many lose lock (R77): 8 within 64 characters, 16 invalid headers within 64. At G3 in hardware mode the search slips. -/
def lockError (n : Nat) : Prog :=
  .read fun s =>
    let g := (s.lane n).gen
    let l := (s.chr.ns :: ((s.lane n).lockErrs.filter fun t => decide (s.chr.ns < t + lockSpan g))).take (if g = 3 then 16 else 8)
    whenP (s.lockHeld n) (if l.length = (if g = 3 then 16 else 8) then seqs [
        whenP (g == 3 && n < 19 && !s.bit Fld.LNK_CFG.SW_ALIGN n) (putLane Fld.LNK_ALIGN.OFFSET n ((s.fld Fld.LNK_ALIGN.OFFSET n + 1) % 66)),
        lockLost n]
      else modLane n fun v => { v with lockErrs := l })

/-- CODE_ERROR (R77, R88, R89): a code as received, with the running disparity before it, that is no valid code. THRESH errors within the window send a lane in UP to
RETRAIN. -/
def execCodeError (n code : Nat) (rd : Bool) (s : State) : Out :=
  let thresh := s.fld Fld.LNK_ERR_CFG.THRESH n
  let window := max 1 (s.fld Fld.LNK_ERR_CFG.WINDOW_US n) * 1000
  let l := (s.chr.ns :: ((s.lane n).codeErrs.filter fun t => decide (s.chr.ns < t + window))).take thresh
  finish (whenP (isEnd n && !validCode (s.lane n).gen code rd) (seqs [
    whenP (n < 19) (seqs [
      countUp Fld.LNK_ERR_CNT.CODE_ERR n, modLane n fun v => { v with codeErrs := l },
      whenP (thresh != 0 && decide (l.length ≥ thresh) && s.lstate n == Ls.up)
        (seqs [modLane n fun v => { v with codeErrs := [] }, enterRetrain n])]),
    lockError n])) s

/-- TYPE_ERROR (R67, R68, R426): a control block, or a set, of an unknown type counts and is treated as IDLE; the types of the pair are known on MIRROR alone. -/
def execTypeError (n block : Nat) (s : State) : Out :=
  finish (whenP (n < 19 && !knownType (block % 256) && !(n == 18 && mirrorType (block % 256))) (countUp Fld.LNK_ERR_CNT.TYPE_ERR n)) s

/-- Whether a frame may begin on a root port at an instant after the meridian, in 2^-16 ns (R73): at a slot boundary (R564), or at any code in an active range of a
legacy node's leg (R151) and in the first slots of a relative grant (R179). -/
def State.mayBegin (s : State) (p : Nat) (pos : Int) : Bool :=
  p < 16 && s.bit Fld.CHT_STATUS.RUNNING && ((boundaryOf (s.endGen p) pos).isSome ||
    ((portLegs s.legs p true).any fun e => e.2.activeIn s.tick && (s.node e.2.node).legacy && e.2.copies.any fun c =>
      decide (c.1 ≤ slotOf pos) && decide (slotOf pos < c.2)) ||
    (match s.grantFor p pos with
      | some g => g.1.extra != 0
      | none => false))

/-- FRAME_ERROR (R73): a control code inside a frame, which cuts it, or a data code outside one that begins where no frame may, which is discarded. -/
def execFrameError (n : Nat) (inside : Bool) (pos : Int) (s : State) : Out :=
  finish (whenP (n < 19 && (inside || !s.mayBegin n pos)) (countUp Fld.LNK_ERR_CNT.FRAME_ERR n)) s

/-- RETRAIN_RECEIVE (R89, R92): KIND full sends UP to DETECT, fast to RETRAIN. In RETRAIN only a full one that crosses the lane's own,
before any TRAIN of the peer, is taken. -/
def execRetrainReceive (n word : Nat) (s : State) : Out :=
  let full := bitAt word 8
  finish (whenP (isEnd n && word % 256 == 0x2E) (
    if s.lstate n = Ls.up then (if full then fullRetrain n else enterRetrain n)
    else whenP (s.lstate n == Ls.retrain && full && !(s.lane n).trainSeen) (fullRetrain n))) s

/-- LNK_RETRAIN (R89): RETRAIN written to LNK_CTRL. -/
def execLnkRetrain (n : Nat) (s : State) : Out := finish (whenP (n < 19 && s.lstate n == Ls.up) (enterRetrain n)) s

/-- LNK_FULL_RETRAIN (R89): FULL_RETRAIN written to LNK_CTRL. -/
def execLnkFullRetrain (n : Nat) (s : State) : Out := finish (whenP (n < 19 && s.lstate n == Ls.up) (fullRetrain n)) s

/-- LANE_LOST (R90). -/
def execLaneLost (n : Nat) (s : State) : Out := finish (whenP (isEnd n) (lossDue n)) s

/-- LANE_SIGNAL_CHANGE (R74, R90, R94, R415): signal ends a waking end's bursts; in DETECT it starts the timeout; its loss starts the 10 us. -/
def execLaneSignalChange (n : Nat) (signal : Bool) (s : State) : Out :=
  let st := s.lstate n
  finish (whenP (isEnd n && s.laneOn n) (seqs [
    putLane Fld.LNK_STATUS.LOS n (if signal then 0 else 1),
    if signal then seqs [
      modLane n fun l => { l with lostAt := none, began := if st = Ls.detect then s.chr.ns else l.began },
      whenP (st == Ls.lowPower && (s.lane n).bursts != 0) (enterDetect n)]
    else seqs [setLock n false,
      modLane n fun l => { l with lostAt := some (l.lostAt.getD s.chr.ns), peerLocked := false }]])) s

/-! ### Low power -/

/-- An end enters LOW_POWER (R93). -/
def enterLowPower (n : Nat) : Prog :=
  seqs [treeLoses n 0, enterLane n Ls.lowPower, putLane Fld.LNK_STATUS.GEN n 0, setLock n false,
    modLane n fun l => { l with bursts := 0, waking := false }]

/-- U sends 8 LINK_OFF with REASON LOW_POWER and enters LOW_POWER (R93). MIRROR does so as well. DESIGN CHOICE (notes/assumptions/28). -/
def goLowPower (n : Nat) : Prog :=
  .read fun s => whenP (n < 19 && isU n && s.lstate n == Ls.up) (seqs [sendSets n (List.replicate 8 (.linkOff true)), enterLowPower n])

/-- LINK_OFF_RECEIVE (R93, R123): LOW_POWER takes D to LOW_POWER; DISABLE from D is a lost lane at U. U on LOW_POWER and D on DISABLE stay UP, and the silence that
follows is no lost lane. DESIGN CHOICE (notes/assumptions/28). -/
def execLinkOffReceive (n word : Nat) (s : State) : Out :=
  let st := s.lstate n
  let lowPower := bitAt word 8
  let quiet := modLane n fun l => { l with linkOff := true }
  finish (whenP (isEnd n && word % 256 == 0x2F && (st == Ls.up || st == Ls.retrain)) (
    if isU n then (if lowPower then quiet else laneLost n 3)
    else if lowPower then seqs [enterLowPower n, whenP (n == 16 && s.role == 2) (deadReckon 2)]
    else quiet)) s

/-- LNK_LOW_POWER (R93): LOW_POWER written to LNK_CTRL. -/
def execLnkLowPower (n : Nat) (s : State) : Out := finish (goLowPower n) s

/-- One foghorn burst (R94). -/
def burst (n : Nat) : Prog :=
  seqs [emit (.foghorn n), modLane n fun l => { l with bursts := l.bursts + 1 }]

/-- A waking end sends its first burst (R94). -/
def startBursts (n : Nat) : Prog := .read fun s => seqs [burst n, modLane n fun l => { l with began := s.chr.ns }]

/-- LNK_WAKE_REMOTE (R94): WAKE_REMOTE written to LNK_CTRL starts the bursts. -/
def lnkWakeRemote (n : Nat) : Prog :=
  .read fun s => whenP (n < 19 && s.lstate n == Ls.lowPower && (s.lane n).bursts == 0) (startBursts n)
/-- LNK_WAKE_REMOTE (R94). -/
def execLnkWakeRemote (n : Nat) (s : State) : Out := finish (lnkWakeRemote n) s

/-- FOGHORN_BURST (R94): one every 1.000 ms; after 200 the lane gives up and stays in LOW_POWER. A node may begin on its own. -/
def execFoghornBurst (n : Nat) (s : State) : Out :=
  let l := s.lane n
  finish (whenP (isEnd n && s.lstate n == Ls.lowPower) (
    if l.bursts = 0 then whenP (decide (32 ≤ n) && !hubDown n) (startBursts n)
    else atNs (l.began + l.bursts * 1000000) (if l.bursts ≥ 200 then modLane n fun l => { l with bursts := 0 } else burst n))) s

/-- LNK_SLIP (R77): SLIP written to LNK_ALIGN moves the boundary by one UI in software mode. -/
def lnkSlip (n : Nat) : Prog :=
  .read fun s =>
    let m := if (s.lane n).gen = 3 then 66 else 10
    whenP (n < 19 && s.bit Fld.LNK_CFG.SW_ALIGN n)
      (putN Fld.LNK_ALIGN.OFFSET n ((s.fld Fld.LNK_ALIGN.OFFSET n + 1) % m))
/-- LNK_SLIP (R77). -/
def execLnkSlip (n : Nat) (s : State) : Out := finish (lnkSlip n) s

end Sys2Proof.Machine
end

