-- ==== Sys2Proof/Machine/Crypto.lean ====
section
/-! DEFINITION. The cryptographic standards of Table 00-7 (R7): SHA-256 (FIPS 180-4), HMAC-SHA-256 (FIPS 198-1), the verification of an ECDSA P-256
signature (FIPS 186-4), and decryption with AES-256 in GCM (FIPS 197, NIST SP 800-38D). The spec names the standards and does not repeat them: their
constants and steps are PRESUMED (notes/assumptions/60). -/

namespace Sys2Proof.Machine

/-- Bytes of a number, highest first. -/
def bytesBE (v len : Nat) : List Byte := (toBytes v len).reverse
/-- The number that bytes spell, highest first. -/
def ofBE (bs : List Byte) : Nat := ofBytes bs.reverse
/-- Cut bytes into pieces of `n`, the last one shorter where it is. -/
def cutBytes (n : Nat) (bs : List Byte) : List (List Byte) :=
  (List.range ((bs.length + n - 1) / n)).map fun k => (bs.drop (n * k)).take n
/-- The exclusive or of two runs of bytes, as long as the shorter. -/
def xorBytes (a b : List Byte) : List Byte := List.zipWith (· ^^^ ·) a b

/-! ### SHA-256 and HMAC -/

/-- The round constants: the first 32 bits of the fractions of the cube roots of the first 64 primes. -/
def shaK : List Word :=
  [0x428a2f98, 0x71374491, 0xb5c0fbcf, 0xe9b5dba5, 0x3956c25b, 0x59f111f1, 0x923f82a4, 0xab1c5ed5,
   0xd807aa98, 0x12835b01, 0x243185be, 0x550c7dc3, 0x72be5d74, 0x80deb1fe, 0x9bdc06a7, 0xc19bf174] ++
  [0xe49b69c1, 0xefbe4786, 0x0fc19dc6, 0x240ca1cc, 0x2de92c6f, 0x4a7484aa, 0x5cb0a9dc, 0x76f988da,
   0x983e5152, 0xa831c66d, 0xb00327c8, 0xbf597fc7, 0xc6e00bf3, 0xd5a79147, 0x06ca6351, 0x14292967] ++
  [0x27b70a85, 0x2e1b2138, 0x4d2c6dfc, 0x53380d13, 0x650a7354, 0x766a0abb, 0x81c2c92e, 0x92722c85,
   0xa2bfe8a1, 0xa81a664b, 0xc24b8b70, 0xc76c51a3, 0xd192e819, 0xd6990624, 0xf40e3585, 0x106aa070] ++
  [0x19a4c116, 0x1e376c08, 0x2748774c, 0x34b0bcb5, 0x391c0cb3, 0x4ed8aa4a, 0x5b9cca4f, 0x682e6ff3,
   0x748f82ee, 0x78a5636f, 0x84c87814, 0x8cc70208, 0x90befffa, 0xa4506ceb, 0xbef9a3f7, 0xc67178f2]

/-- The initial hash value. -/
def shaH : List Word := [0x6a09e667, 0xbb67ae85, 0x3c6ef372, 0xa54ff53a, 0x510e527f, 0x9b05688c, 0x1f83d9ab, 0x5be0cd19]

/-- The exclusive or of three rotations. -/
def rot3 (x : Word) (a b c : Nat) : Word := x.rotateRight a ^^^ x.rotateRight b ^^^ x.rotateRight c

/-- The message schedule's next word; the words so far, newest first. -/
def shaNext (l : List Word) : Word :=
  let x := l.getD 1 0
  let y := l.getD 14 0
  (x.rotateRight 17 ^^^ x.rotateRight 19 ^^^ (x >>> 10)) + l.getD 6 0 + (y.rotateRight 7 ^^^ y.rotateRight 18 ^^^ (y >>> 3)) + l.getD 15 0

/-- The 64 words of a block's schedule. -/
def shaSchedule (block : List Byte) : List Word :=
  ((List.range 48).foldl (fun l _ => shaNext l :: l) ((cutBytes 4 block).map fun b => BitVec.ofNat 32 (ofBE b)).reverse).reverse

/-- A round, with the sum of its constant and its word. -/
def shaRound (st : List Word) (kw : Word) : List Word :=
  match st with
  | [a, b, c, d, e, f, g, h] =>
    let t1 := h + rot3 e 6 11 25 + ((e &&& f) ^^^ (~~~e &&& g)) + kw
    let t2 := rot3 a 2 13 22 + ((a &&& b) ^^^ (a &&& c) ^^^ (b &&& c))
    [t1 + t2, a, b, c, d + t1, e, f, g]
  | l => l

/-- A block. -/
def shaBlock (st : List Word) (block : List Byte) : List Word :=
  List.zipWith (· + ·) st ((List.zipWith (· + ·) shaK (shaSchedule block)).foldl shaRound st)

/-- SHA-256. -/
@[irreducible] def sha256 (bs : List Byte) : List Byte :=
  let padded := bs ++ 0x80 :: List.replicate ((119 - bs.length % 64) % 64) 0 ++ bytesBE (8 * bs.length) 8
  ((cutBytes 64 padded).foldl shaBlock shaH).flatMap fun w => bytesBE w.toNat 4

/-- HMAC-SHA-256 of a message under a key. -/
@[irreducible] def hmac256 (key msg : List Byte) : List Byte :=
  let k := if key.length > 64 then sha256 key else key
  let block := k ++ List.replicate (64 - k.length) 0
  let pad (x : Byte) := block.map (· ^^^ x)
  sha256 (pad 0x5C ++ sha256 (pad 0x36 ++ msg))

/-! ### AES-256 in GCM -/

/-- Multiplication by x in the field of AES. -/
def aesX (b : Byte) : Byte := (b <<< 1) ^^^ (if b.msb then 0x1B else 0)
/-- Multiplication in the field of AES. -/
def aesMul (a b : Byte) : Byte :=
  ((List.range 8).foldl (fun (r : Byte × Byte) i => (if b.getLsbD i then r.1 ^^^ r.2 else r.1, aesX r.2)) (0, a)).1
/-- The inverse in the field of AES, 0 for 0: the power 254. -/
def aesInv (a : Byte) : Byte :=
  let sq (x : Byte) := aesMul x x
  ((List.range 6).foldl (fun (r : Byte × Byte) _ => (aesMul r.1 (sq r.2), sq r.2)) (sq a, sq a)).1
/-- The S-box. -/
def aesBox (b : Byte) : Byte :=
  let v := aesInv b
  v ^^^ v.rotateLeft 1 ^^^ v.rotateLeft 2 ^^^ v.rotateLeft 3 ^^^ v.rotateLeft 4 ^^^ 0x63

/-- The next word of the key schedule of a 256-bit key; the words so far, newest first. -/
def aesKeyNext (l : List (List Byte)) : List Byte :=
  let i := l.length
  let t := l.getD 0 []
  let t := if i % 8 = 0 then xorBytes ((t.drop 1 ++ t.take 1).map aesBox) [(List.range (i / 8 - 1)).foldl (fun b _ => aesX b) 1, 0, 0, 0]
    else if i % 8 = 4 then t.map aesBox else t
  xorBytes (l.getD 7 []) t
/-- The 15 round keys. -/
def aesKeys (key : List Byte) : List (List Byte) :=
  cutBytes 16 ((List.range 52).foldl (fun l _ => aesKeyNext l :: l) (cutBytes 4 key).reverse).reverse.flatten

/-- The substitution of each byte and the shift of the rows. -/
def aesShift (st : List Byte) : List Byte :=
  let sub := st.map aesBox
  (List.range 16).map fun k => sub.getD (k % 4 + 4 * ((k / 4 + k % 4) % 4)) 0
/-- The mix of a column. -/
def aesMix (c : List Byte) : List Byte :=
  (List.range 4).map fun r => aesX (c.getD r 0) ^^^ (aesX (c.getD ((r + 1) % 4) 0) ^^^ c.getD ((r + 1) % 4) 0) ^^^
    c.getD ((r + 2) % 4) 0 ^^^ c.getD ((r + 3) % 4) 0
/-- The cipher of one block under its round keys. -/
def aesBlock (keys : List (List Byte)) (block : List Byte) : List Byte :=
  let st := (keys.drop 1).take 13 |>.foldl (fun st k => xorBytes ((cutBytes 4 (aesShift st)).flatMap aesMix) k) (xorBytes block (keys.getD 0 []))
  xorBytes (aesShift st) (keys.getD 14 [])

/-- Multiplication in the field of GCM; the first bit of a block is the highest of its number. -/
def gcmMul (x y : Nat) : Nat :=
  ((List.range 128).foldl (fun (r : Nat × Nat) i =>
    (if bitAt x (127 - i) then r.1 ^^^ r.2 else r.1, if bitAt r.2 0 then r.2 / 2 ^^^ 0xE1 * 2 ^ 120 else r.2 / 2)) (0, y)).1
/-- The authentication sum over additional data and ciphertext, each filled up to whole blocks, and their lengths. -/
def gcmHash (h : Nat) (aad text : List Byte) : Nat :=
  let fill (b : List Byte) : List Byte := b ++ List.replicate ((16 - b.length % 16) % 16) 0
  (cutBytes 16 (fill aad ++ fill text ++ bytesBE (8 * aad.length) 8 ++ bytesBE (8 * text.length) 8)).foldl (fun y b => gcmMul (y ^^^ ofBE b) h) 0
/-- AES-256-GCM decryption under a key, a 96-bit IV and additional data of bytes that end in their 128-bit tag: the plaintext, or none when the tag
does not match. -/
@[irreducible] def gcmDecrypt (key iv aad stored : List Byte) : Option (List Byte) :=
  let keys := aesKeys key
  let n := stored.length - 16
  let text := stored.take n
  let counter (i : Nat) : List Byte := aesBlock keys (iv ++ bytesBE (i % 2 ^ 32) 4)
  let tag := xorBytes (bytesBE (gcmHash (ofBE (aesBlock keys (List.replicate 16 0))) aad text) 16) (counter 1)
  if 16 ≤ stored.length ∧ tag = stored.drop n then
    some (((cutBytes 16 text).zipIdx).flatMap fun e => xorBytes e.1 (counter (e.2 + 2)))
  else none

/-! ### ECDSA over P-256 -/

/-- The prime of the field. -/
def p256 : Nat := 2 ^ 256 - 2 ^ 224 + 2 ^ 192 + 2 ^ 96 - 1
/-- The order of the base point. -/
def p256Order : Nat := 0xffffffff00000000ffffffffffffffffbce6faada7179e84f3b9cac2fc632551
/-- The coefficient b of the curve y^2 = x^3 - 3x + b. -/
def p256B : Nat := 0x5ac635d8aa3a93e7b3ebbd55769886bc651d06b0cc53b0f63bce3c3e27d2604b
/-- The base point. -/
def p256Base : Nat × Nat :=
  (0x6b17d1f2e12c4247f8bce6e563a440f277037d812deb33a0f4a13945d898c296, 0x4fe342e2fe1a7f9b8ee7eb4a7c0f9e162bce33576b315ececbb6406837bf51f5)

/-- A power modulo m, of an exponent below 2^256. -/
def powMod (m b e : Nat) : Nat :=
  (List.range 256).foldr (fun i r => if bitAt e i then r * r % m * b % m else r * r % m) 1
/-- The inverse modulo a prime. -/
def invMod (m a : Nat) : Nat := powMod m (a % m) (m - 2)

/-- The sum of two points of the curve; none is the point at infinity. -/
def ecAdd (a b : Option (Nat × Nat)) : Option (Nat × Nat) :=
  match a, b with
  | none, q => q
  | q, none => q
  | some (x1, y1), some (x2, y2) =>
    if x1 = x2 ∧ (y1 + y2) % p256 = 0 then none
    else
      let l := if x1 = x2 then (3 * x1 * x1 + (p256 - 3)) * invMod p256 (2 * y1) % p256
        else (y2 + (p256 - y1)) * invMod p256 (x2 + (p256 - x1)) % p256
      let x := (l * l + 2 * p256 - x1 - x2) % p256
      some (x, (l * (x1 + (p256 - x)) + (p256 - y1)) % p256)
/-- A multiple of a point, of a factor below 2^256. -/
def ecMul (k : Nat) (q : Nat × Nat) : Option (Nat × Nat) :=
  (List.range 256).foldr (fun i r => let d := ecAdd r r; if bitAt k i then ecAdd d (some q) else d) none

/-- Whether an ECDSA P-256 signature, r then s, over a SHA-256 digest verifies with a public key, x then y. -/
@[irreducible] def ecdsaVerifies (key digest sig : List Byte) : Bool :=
  let x := ofBE (key.take 32)
  let y := ofBE (key.drop 32)
  let r := ofBE (sig.take 32)
  let s := ofBE (sig.drop 32)
  let w := invMod p256Order s
  let onCurve := decide (x < p256) && decide (y < p256) && y * y % p256 == (x * x * x + (p256 - 3) * x + p256B) % p256
  onCurve && decide (0 < r) && decide (r < p256Order) && decide (0 < s) && decide (s < p256Order) &&
    match ecAdd (ecMul (ofBE digest * w % p256Order) p256Base) (ecMul (r * w % p256Order) (x, y)) with
    | some (v, _) => v % p256Order == r
    | none => false

end Sys2Proof.Machine
end

