-- ==== Sys2Proof/Machine/Operands.lean ====
section
/-! DEFINITION. The structures that commands and the boot read: the OTP array (Table 16-3), the boot descriptor, slot header and
section entries of the flash (Tables 15-3 to 15-5). -/

namespace Sys2Proof.Machine

/-- The little-endian number at bytes [off, off + len) of a structure. -/
def fieldAt (bs : List Byte) (off len : Nat) : Nat := ofBytes ((bs.drop off).take len)

/-! ### OTP (Table 16-3) -/

/-- A number in the OTP array. -/
def State.otpWord (s : State) (off len : Nat) : Nat := ofBytes (s.otpRead off len)

/-- The life-cycle state: the highest set bit of LIFE_CYCLE (R487). -/
def State.lifeCycle (s : State) : Nat :=
  let v := s.otpWord 0x008 4
  if bitAt v 3 then 4 else if bitAt v 2 then 3 else if bitAt v 1 then 2 else if bitAt v 0 then 1 else 0

/-- The kinds of key by KIND of KEY_WRITE: their slots' offsets and sizes. -/
def keyPlace (kind slot : Nat) : Nat × Nat :=
  if kind = 0 then (0x140 + 32 * slot, 32) else if kind = 1 then (0x040 + 64 * slot, 64) else (0x1C0, 32)

/-- The bit of a key in the flags word, and (for command and image keys) in the revocation word. -/
def keyBit (kind slot : Nat) : Nat := if kind = 0 then slot else if kind = 1 then 4 + slot else 8

/-- The bytes of a key slot. -/
def State.keyBytes (s : State) (kind slot : Nat) : List Byte := s.otpRead (keyPlace kind slot).1 (keyPlace kind slot).2

/-- Whether a key slot has been programmed. -/
def State.keyFlag (s : State) (kind slot : Nat) : Bool := bitAt (s.otpWord 0x010 4) (keyBit kind slot)

/-- Whether a key is present (R481). -/
def State.keyPresent (s : State) (kind slot : Nat) : Bool := s.keyFlag kind slot && (s.keyBytes kind slot).any (· != 0)

/-- Whether a key is destroyed (R481). -/
def State.keyDestroyed (s : State) (kind slot : Nat) : Bool := (s.keyBytes kind slot).all (· == 0xFF)

/-- Whether a command or image key is revoked. -/
def State.keyRevoked (s : State) (kind slot : Nat) : Bool := bitAt (s.otpWord 0x014 4) (keyBit kind slot)

/-- Whether a key can be used. -/
def State.keyUsable (s : State) (kind slot : Nat) : Bool :=
  s.keyPresent kind slot && !s.keyDestroyed kind slot && !(decide (kind < 2) && s.keyRevoked kind slot)

/-- The active command key: the highest that is programmed, selected and not revoked (R483). -/
def State.activeKey (s : State) : Option Nat :=
  [3, 2, 1, 0].find? fun k => s.keyUsable 0 k && bitAt (s.otpWord 0x010 4) (9 + k)

/-- The SVN floor: the number of bits set (Table 16-3). -/
def State.svnFloor (s : State) : Nat := ((List.range 256).filter (bitAt (s.otpWord 0x018 32))).length

/-- A key's fingerprint: SHA-256 of the key, its first 32 bits (R481); 0 when absent or destroyed. -/
def State.fingerprint (s : State) (kind slot : Nat) : Nat :=
  if s.keyPresent kind slot && !s.keyDestroyed kind slot then
    ofBytes ((sha256 (s.keyBytes kind slot)).take 4).reverse
  else 0

/-- DEVICE_ID. -/
def State.otpDevice (s : State) : Nat := s.otpWord 0 8

/-- A mask of the indices below 4 that meet a test. -/
def mask4 (p : Nat → Bool) : Nat := ((List.range 4).map fun k => if p k then 2 ^ k else 0).foldl (· + ·) 0

/-- Bring the registers that show the OTP array up to date (Tables 16-10 and 16-11). -/
def refreshOtp : Prog :=
  .read fun s =>
    let b (f : Field) (v : Bool) : Prog := put f (if v then 1 else 0)
    let life := s.lifeCycle
    seqs [
      put Fld.SEC_STATUS.LIFE_CYCLE life, b Fld.SEC_STATUS.DEBUG_OPEN (life == 0 || life == 3),
      put Fld.SEC_STATUS.ACTIVE_KEY (s.activeKey.getD 0), b Fld.SEC_STATUS.KEY_VALID s.activeKey.isSome,
      put Fld.SEC_SVN.FLOOR s.svnFloor,
      b Fld.SEC_KEYS.DEC_DESTROYED (s.keyDestroyed 2 0), b Fld.SEC_KEYS.DEC_PRESENT (s.keyPresent 2 0),
      put Fld.SEC_KEYS.IMG_REVOKED (mask4 fun k => s.keyRevoked 1 k || s.keyDestroyed 1 k),
      put Fld.SEC_KEYS.IMG_PRESENT (mask4 (s.keyPresent 1)),
      put Fld.SEC_KEYS.CMD_REVOKED (mask4 fun k => s.keyRevoked 0 k || s.keyDestroyed 0 k),
      put Fld.SEC_KEYS.CMD_PRESENT (mask4 (s.keyPresent 0)),
      put Fld.SEC_DEVICE_ID_LO.ID_LO s.otpDevice, put Fld.SEC_DEVICE_ID_HI.ID_HI (s.otpDevice / 2 ^ 32),
      forP (List.range 4) fun k => seqs [putN Fld.SEC_KEY_FP.FP k (s.fingerprint 0 k), putN Fld.SEC_IMG_FP.FP k (s.fingerprint 1 k)]]

/-! ### The image in flash (R451, R452) -/

/-- The boot descriptor: the first copy whose MAGIC and CRC are good (Table 15-3). -/
def State.bootDescriptor (s : State) : Option (List Byte) :=
  [0x0000, 0x1000].map (s.flashRead · 64) |>.find? fun d =>
    fieldAt d 0 4 == 0x44425349 && fieldAt d 60 4 == crc32c (d.take 60)

/-- Offset and size of a slot: 0 is A, 1 is B; without a descriptor both are absent. -/
def State.slotRange (s : State) (slot : Nat) : Option (Nat × Nat) :=
  s.bootDescriptor.map fun d => (fieldAt d (4 + 8 * slot) 4, fieldAt d (8 + 8 * slot) 4)

/-- The almanac area of the flash, offset and size (R506). -/
def State.almRange (s : State) : Nat × Nat :=
  match s.bootDescriptor with
  | some d => (fieldAt d 20 4, fieldAt d 24 4)
  | none => (0, 0)

/-- Bytes of the flash as the boot sees it: NVM_FLASH. -/
def State.flashSize (s : State) : Nat := s.fld Fld.NVM_FLASH.SIZE_MIB * 0x100000

/-- Bytes of a slot. -/
def State.slotBytes (s : State) (slot off len : Nat) : List Byte :=
  match s.slotRange slot with
  | some (b, _) => s.flashRead (b + off) len
  | none => []

/-- A slot's header (Table 15-4). -/
def State.slotHeader (s : State) (slot : Nat) : List Byte := s.slotBytes slot 0 256

/-- Whether a slot is a candidate (R454). -/
def State.candidate (s : State) (slot : Nat) : Bool :=
  match s.slotRange slot with
  | none => false
  | some (b, n) => decide (b % 0x10000 = 0) && n != 0 && decide (b + n ≤ s.flashSize) &&
      fieldAt (s.slotHeader slot) 0 4 == 0x46475349 && fieldAt (s.slotHeader slot) 4 2 == 0x0100

/-- SECTIONS of a slot. -/
def State.slotSections (s : State) (slot : Nat) : Nat := fieldAt (s.slotHeader slot) 6 2
/-- VERSION of a slot. -/
def State.slotVersion (s : State) (slot : Nat) : Nat := fieldAt (s.slotHeader slot) 8 4
/-- SVN of a slot. -/
def State.slotSvn (s : State) (slot : Nat) : Nat := fieldAt (s.slotHeader slot) 12 2
/-- KEY_INDEX of a slot. -/
def State.slotKey (s : State) (slot : Nat) : Nat := fieldAt (s.slotHeader slot) 14 1
/-- RESUME_OK of a slot. -/
def State.slotResume (s : State) (slot : Nat) : Bool := bitAt (fieldAt (s.slotHeader slot) 15 1) 0

/-- A section entry (Table 15-5). -/
def State.section (s : State) (slot i : Nat) : List Byte := s.slotBytes slot (256 + 64 * i) 64

/-! ### Event registers (R4) -/

/-- A write of a register whose fields are W1C: the bits written 1 become 0. `v` is the whole word, `n` the element or context. -/
def writeOnes (off n v : Nat) : Prog :=
  .read fun s => forP (fieldTable.filter fun f => f.off == off && f.acc == .w1c) fun f =>
    putN f n (s.fld f n - (s.fld f n &&& bitsAt v f.lo f.w))

end Sys2Proof.Machine
end

