-- ==== Sys2Proof/Machine/Tree.lean ====
section
/-! DEFINITION. The tree logic: enumeration (R115 to R121), hub status legs (R110 to R112, R395), removal, quarantine and appearance at a
meridian (R123 to R132), the node table and its commands (R133, R134). -/

namespace Sys2Proof.Machine

/-! ### The node table -/

/-- A command on a node-table entry (R134): whether it is refused, and what it does otherwise. -/
def nodeCommand (action a : Nat) (words : Nat → Nat) (onDone onRefused : Prog) : Prog :=
  .read fun s =>
    let e := s.node a
    let idle := e.state == .free || e.state == .absent
    if a = 0 ∨ a ≥ 4095 then onRefused
    else if action = 0 then
      (if idle && (words 3 % 16 == 0 || words 3 % 16 == 1) then
        seqs [modNode a fun _ => .ofWords (words 0) (words 1) (words 2) (words 3), onDone]
       else onRefused)
    else if action = 1 then
      (if e.state = .absent then seqs [modNode a fun e => { e with state := .free, template := false }, onDone] else onRefused)
    else if action = 2 then
      (if e.state = .active ∨ e.state = .suspect then
        seqs [modRec a fun r => { r with quarantine := some (r.quarantine.getD 1) }, onDone]
       else onRefused)
    else
      (if e.state = .quarantine then seqs [modRec a fun r => { r with release := true }, onDone] else onRefused)

/-- A command written to TRE_NODE_CMD. -/
def treCommand (action : Nat) : Prog :=
  .read fun s => nodeCommand action (s.fld Fld.TRE_NODE_INDEX.INDEX) (fun k => tget 0 s.tree.staged k)
    (seqs [raise Fld.TRE_NODE_STATUS.DONE, clear Fld.TRE_NODE_STATUS.REFUSED])
    (seqs [raise Fld.TRE_NODE_STATUS.REFUSED, clear Fld.TRE_NODE_STATUS.DONE])

/-- TRE_NODE_WRITE (R134). -/
def execTreNodeWrite (s : State) : Out := finish (treCommand 0) s
/-- TRE_NODE_FORGET (R134). -/
def execTreNodeForget (s : State) : Out := finish (treCommand 1) s
/-- TRE_NODE_QUARANTINE (R134). -/
def execTreNodeQuarantine (s : State) : Out := finish (treCommand 2) s
/-- TRE_NODE_RELEASE (R132, R134). -/
def execTreNodeRelease (s : State) : Out := finish (treCommand 3) s

/-- TRE_NODE_DATA_SNAPSHOT (R137): a read of TRE_NODE_DATA[0] takes all four words of the entry. -/
def treSnapshot : Prog :=
  .read fun s =>
    let e := s.node (s.fld Fld.TRE_NODE_INDEX.INDEX)
    forP (List.range 4) fun k => putN Fld.TRE_NODE_DATA.DATA k (if s.fld Fld.TRE_NODE_INDEX.INDEX = 4095 then 0 else e.word k)
/-- TRE_NODE_DATA_SNAPSHOT (R137). -/
def execTreNodeDataSnapshot (s : State) : Out := finish treSnapshot s

/-! ### Requests of an enumeration -/

/-- The entry at a location whose node is present. -/
def State.presentAt (s : State) (l : Location) : Option Nat :=
  (s.tree.nodes.find? fun e => e.2.state.present && e.2.port == l.port && e.2.tier == l.tier && e.2.route == l.route).map (·.1)

/-- The pipe descriptors' PIPES count of a node descriptor. -/
def descPipes (desc : List Byte) : Nat := ofBytes ((desc.drop 17).take 1)
/-- FEATURES of a node descriptor. -/
def descFeatures (desc : List Byte) : Nat := ofBytes ((desc.drop 18).take 1)

/-- The status leg of a hub in the active chart (R112): its inbound leg of pipe 0. -/
def State.hasStatusLeg (s : State) (a : Nat) : Bool := s.legs.any fun e => e.2.inbound && e.2.node == a && e.2.pipe == 0

/-- The inbound legs that the chart holds for an address, as SET_CONFIG lists them (R205, R151). -/
def State.configLegs (s : State) (a : Nat) : List Byte :=
  ((s.legs.filter fun e => e.2.inbound && e.2.node == a).take 64).flatMap fun e =>
    let l := e.2
    let start := if (s.node a).legacy then (s.legacyStart a l.start).toNat else l.start
    toBytes (l.pipe + if l.dup then 128 else 0) 1 ++ toBytes l.dupOffset 1 ++ toBytes (l.phase + l.k * 4096) 2 ++ toBytes start 2 ++
      toBytes l.payload 2

/-- PIPE_EN: the pipes a node describes, pipe 0 always (R205). -/
def NodeRec.pipeEn (r : NodeRec) : Nat :=
  r.pipes.foldl (fun m p => m ||| 2 ^ (ofBytes (p.take 1) % 32)) 1

/-- The data stage of SET_CONFIG (Table 06-10). -/
def State.configData (s : State) (a apply_ : Nat) : List Byte :=
  let legs := s.configLegs a
  toBytes apply_ 8 ++ toBytes (s.pathGen a) 1 ++ toBytes (legs.length / 8) 1 ++ toBytes 0 2 ++ toBytes (s.nrec a).pipeEn 4 ++ legs

/-- Send a request of a port's enumeration and keep its conversation; `stamp` is what it takes when it leaves (R119). -/
def jobRequest (p node : Nat) (setup : List Byte) (data : List Byte := []) (stamp : Nat := 0) : Prog :=
  .read fun s => seqs [treeRequest p node setup data stamp true,
    modTreeOf p fun t => { t with job := t.job.map fun j => { j with conv := some s.conv.next } }]

/-- Show the step in TRE_ENUM_STATE. -/
def showStep (p step : Nat) : Prog := putN Fld.TRE_ENUM_STATE.STEP p step

/-- The hubs on the path of a location, by hub count. -/
def State.pathHubs (s : State) (l : Location) : List Nat := s.hubsAbove l.port l.tier l.route

/-- Whether the enumeration of a location may go on: only while ENUM_EN is 1 (R115), and not below a hub in QUARANTINE (R131). -/
def State.enumerates (s : State) (l : Location) : Bool :=
  s.bit Fld.TRE_CTRL.ENUM_EN && !s.standby && !(s.pathHubs l).any fun h => (s.node h).state == .quarantine

/-- Send the request of the step that a port's enumeration has reached (Table 04-6). -/
def sendStep (p : Nat) : Prog :=
  .read fun s => match (s.treeOf p).job with
    | none => .skip
    | some j =>
      let l := j.loc
      let a := j.addr
      seqs [showStep p j.step,
        if !s.enumerates l then .skip
        else if j.step = 1 then jobRequest p l.parent (setupBytes 0 0x11 l.hubPort 1 0 (s.nrec l.parent).hubSeq)
        else if j.step = 2 then jobRequest p 4095 (setupBytes 0x80 0x01 0x01 0 64)
        else if j.step = 4 then
          jobRequest p (((s.pathHubs l)[j.routeHub]?).getD l.parent) (setupBytes 0 0x10 a (l.route / 16 ^ j.routeHub % 16) 0)
        else if j.step = 5 then jobRequest p 4095 (setupBytes 0 0x04 a 0 0)
        else if j.step = 6 then jobRequest p l.parent (setupBytes 0 0x11 l.hubPort 2 0)
        else if j.step = 7 then jobRequest p a (setupBytes 0x80 0x01 0x02 0 (16 * descPipes j.desc))
        else if j.step = 8 then jobRequest p l.parent (setupBytes 0x80 0x13 0 l.hubPort 16)
        else if j.step = 9 then jobRequest p a (setupBytes 0 0x06 0 0 40) (List.replicate 40 0) 2
        else if j.step = 10 then
          let data := s.configData a j.applyTick
          jobRequest p a (setupBytes 0 0x05 0 0 data.length) data (if j.applyTick = 0 then 3 else 0)
        else .skip]

/-- An enumeration moves to a step and sends its request. A repeat of steps 9 and 10 counts as a retry of theirs (R119). -/
def toStep (p step : Nat) : Prog :=
  seqs [modTreeOf p fun t => { t with job := t.job.map fun j => { j with
      step := step, retries := if 9 ≤ step then j.repeats else 0, routeHub := 0, conv := none } },
    sendStep p]

/-- Whether the chart cannot carry a node (R152): its path is too slow for the tick, or a leg charted for it does not fit. -/
def State.tooSlow (s : State) (a : Nat) : Bool :=
  decide (minTick (s.pathGen a) > s.fld Fld.CHT_TICK_LEN.ACTIVE_N) || s.legs.any fun e => e.2.node == a && !s.legFits e.2

/-- Step 10 begins (R112, R152); `fail` is the failure of the enumeration. A hub whose status leg the chart does not hold waits for its admission. -/
def toConfigure (p : Nat) (fail : Prog) : Prog :=
  .read fun s => match (s.treeOf p).job with
    | none => .skip
    | some j =>
      if s.tooSlow j.addr then seqs [raise Fld.CHT_EVENT.PATH_TOO_SLOW, fail]
      else if (s.node j.addr).hub && !s.hasStatusLeg j.addr then seqs [
        modTreeOf p fun t => { t with job := some { j with step := 10, retries := j.repeats, conv := none, admitting := true } },
        showStep p 10, admitWaits (hubRequest j.addr)]
      else toStep p 10

/-! ### Attaching and failing -/

/-- Post ATTACH to I0 and the owner, and remember who received it (R136). -/
def postAttach (a reason status : Nat) : Prog :=
  .read fun s =>
    let e := s.node a
    seqs [raise Fld.TRE_EVENT.ATTACH, postOwnerAndI0 e.owner Ev.attach (treeDetail 1 reason 1 e.port a) status,
      modRec a fun r => { r with attachTo := if e.owner = 0 then [0] else [0, e.owner] }]

/-- The reason of an ATTACH: the rule of R117 that chose the address. -/
def EnumJob.reason (j : EnumJob) : Nat := if j.rule = 1 then 1 else if j.rule = 2 then 2 else 0

/-- The entry becomes ADDRESSED (R118): ATTACH follows, for a hub at the end of step 10. -/
def nodeAddressed (j : EnumJob) : Prog :=
  .read fun s => seqs [setNodeState j.addr .addressed, whenP (!(s.node j.addr).hub) (postAttach j.addr j.reason St.success)]

/-- The end of a job that failed: the location is marked failed (R120). -/
def markFailed (p : Nat) (j : EnumJob) (status : Nat) : Prog :=
  seqs [jobEnds p, modTreeOf p fun t => { t with failed := t.failed ++ [j.loc] }, refreshFailed p,
    putN Fld.TRE_ENUM_STATE.LAST_STATUS p status, raise Fld.TRE_EVENT.ENUM_FAILED]

/-- Post the ATTACH of a failure that names the location (Table 04-13). -/
def postFailed (j : EnumJob) (owner status : Nat) : Prog :=
  seqs [raise Fld.TRE_EVENT.ATTACH,
    postOwnerAndI0 owner Ev.attach (treeDetail 1 3 (j.loc.hubPort % 16) j.loc.port j.loc.parent) status]

/-- An enumeration fails (R120, R121). -/
def enumFail (p status : Nat) : Prog :=
  .read fun s => match (s.treeOf p).job with
    | none => .skip
    | some j =>
      let l := j.loc
      let e := s.node j.addr
      let closeGate := whenP (l.tier != 0) (treeRequest p l.parent (setupBytes 0 0x11 l.hubPort 0 0))
      if j.addr = 0 ∨ e.state = .enumerating then seqs [
        closeGate, whenP (j.addr != 0) (seqs [putNode j.addr j.prior, refreshTree, modRec j.addr fun _ => {}]),
        postFailed j (if j.addr = 0 then 0 else e.owner) status, markFailed p j status]
      else seqs [
        forP (s.pathHubs l).reverse fun h => treeRequest p h (setupBytes 0 0x10 j.addr 0 0),
        modTreeOf p fun t => { t with retrained := t.retrained ++ [l] },
        if l.tier = 0 then whenP (s.portUp p) (fullRetrain p) else closeGate,
        putNode j.addr j.prior, refreshTree,
        if (s.nrec j.addr).attachTo.isEmpty then postFailed j e.owner status
        else seqs [raise Fld.TRE_EVENT.ATTACH,
          forP (s.nrec j.addr).attachTo fun i => postEvent i Ev.attach (treeDetail 0 3 (l.hubPort % 16) p j.addr) status],
        modRec j.addr fun _ => {}, putBearing j.addr { asym := (s.bearing j.addr).asym }, markFailed p j status]

/-- Step 9, or step 10 where the node accepts no bearing (R118). -/
def toBearing (p : Nat) : Prog :=
  .read fun s => match (s.treeOf p).job with
    | none => .skip
    | some j => if bitAt (s.nrec j.addr).features 2 then toStep p 9 else toConfigure p (enumFail p St.unsupported)

/-- Steps 9 and 10 again with a new apply tick, the first attempt counting as a retry (R119). -/
def repeatConfig (p : Nat) (j : EnumJob) : Prog :=
  .read fun s => seqs [
    dropRequest j.conv,
    if j.repeats < s.fld Fld.TRE_CFG.ENUM_RETRIES then seqs [
      modTreeOf p fun t => { t with job := some { j with repeats := j.repeats + 1, applyTick := 0, conv := none } },
      toStep p (if bitAt (s.nrec j.addr).features 2 then 9 else 10)]
    else enumFail p St.timeout]

/-! ### Choosing an address -/

/-- The address that R117 chooses for a node at a location, with the rule. -/
def State.chooseAddr (s : State) (l : Location) (vendor product serial : Nat) : Option (Nat × Nat) :=
  let here (e : NodeEntry) := e.state == .absent && e.port == l.port && e.tier == l.tier && e.route == l.route
  let sticky := s.bit Fld.TRE_CTRL.STICKY
  match if sticky then s.tree.nodes.find? fun e =>
      here e.2 && e.2.vendor == vendor && e.2.product == product && e.2.serial == serial else none with
  | some e => some (e.1, 1)
  | none => match if sticky then s.tree.nodes.find? fun e => here e.2 && e.2.template && (e.2.vendor == 0 || e.2.vendor == vendor) &&
        (e.2.product == 0xFFFF || e.2.product == product) else none with
    | some e => some (e.1, 2)
    | none => (((List.range 4094).map (· + 1)).find? fun a => (s.node a).state == .free).map fun a => (a, 3)

/-- The node descriptor has been read (R113, R117, R120): the address is chosen and the entry becomes ENUMERATING. Rule 3 gives it to I0 (Table 04-12).
DEDUCED (notes/assumptions/29). -/
def choose (p : Nat) (desc : List Byte) (gen : Nat) (legacy : Bool) : Prog :=
  .read fun s => match (s.treeOf p).job with
    | none => .skip
    | some j =>
      let w (o n : Nat) := ofBytes ((desc.drop o).take n)
      let l := j.loc
      if w 0 1 ≠ 64 ∨ w 2 2 ≠ 0x0100 then enumFail p St.unsupported
      else match s.chooseAddr l (w 4 2) (w 6 2) (w 8 4) with
        | none => seqs [raise Fld.TRE_EVENT.ADDR_FULL, enumFail p St.noSlots]
        | some (a, rule) =>
          let old := s.node a
          seqs [
            modNode a fun _ => {
              route := l.route, port := p, product := w 6 2, vendor := w 4 2, serial := w 8 4, cls := w 16 1
              owner := if rule = 3 then 0 else old.owner, legacy := if l.tier = 0 then s.bit Fld.LNK_STATUS.LEGACY p else legacy
              tier := l.tier, template := old.template, gen := if l.tier = 0 then s.fld Fld.LNK_STATUS.GEN p else gen % 4
              hub := bitAt (descFeatures desc) 3, state := .enumerating },
            modRec a fun _ => { maxPacket := w 22 2, features := descFeatures desc },
            modTreeOf p fun t => { t with job := some { j with addr := a, prior := old, rule := rule, desc := desc } },
            toStep p (if l.tier = 0 then 5 else 4)]

/-- The pipe descriptors of a node (R114). -/
def takePipes (a : Nat) (data : List Byte) (count : Nat) : Prog :=
  let descs := (List.range count).map fun i => (data.drop (16 * i)).take 16
  seqs [modRec a fun r => { r with pipes := descs },
    forP descs fun d =>
      let w (o n : Nat) := ofBytes ((d.drop o).take n)
      modPipe a (w 0 1 % 32) fun _ => { valid := true, kind := w 1 1 % 4, inbound := bitAt (w 1 1) 2, size := w 2 2 }]

/-- A step of an enumeration has succeeded with the data it returned (Table 04-6). -/
def stepDone (p : Nat) (j : EnumJob) (data : List Byte) (gen : Nat) (legacy : Bool) : Prog :=
  .read fun s =>
    let l := j.loc
    let a := j.addr
    if j.step = 1 then toStep p 2
    else if j.step = 2 then choose p data gen legacy
    else if j.step = 4 then
      (if j.routeHub + 1 < l.tier then seqs [
          modTreeOf p fun t => { t with job := some { j with routeHub := j.routeHub + 1, retries := 0 } }, sendStep p]
       else toStep p 5)
    else if j.step = 5 then (if l.tier = 0 then seqs [nodeAddressed j, toStep p 7] else toStep p 6)
    else if j.step = 6 then seqs [nodeAddressed j, toStep p 7]
    else if j.step = 7 then seqs [takePipes a data (descPipes j.desc),
      if l.tier = 0 then seqs [bearingUpdate a true true, toBearing p] else toStep p 8]
    else if j.step = 8 then seqs [takeTiming l.parent l.hubPort data, bearingUpdate a true true, toBearing p]
    else if j.step = 9 then toConfigure p (enumFail p St.unsupported)
    else if j.step = 10 then
      if s.tick ≥ j.applyTick then repeatConfig p j
      else seqs [
        modTreeOf p fun t => { t with job := some { j with step := 11, conv := none, repeats := 0 } }, showStep p 11,
        modRec a fun r => { r with appearAt := some j.applyTick, unlisted := (s.node a).hub && j.status != 0 },
        whenP (s.node a).hub (postAttach a j.reason j.status)]
    else .skip

/-- A request of an enumeration is sent again, or its retries are used up (R120). -/
def retryStep (p : Nat) (j : EnumJob) : Prog :=
  .read fun s => seqs [
    dropRequest j.conv,
    if j.retries < s.fld Fld.TRE_CFG.ENUM_RETRIES then seqs [
      modTreeOf p fun t => { t with job := some { j with retries := j.retries + 1, conv := none } }, sendStep p]
    else enumFail p St.timeout]

/-- The steps that wait for a request. -/
def EnumJob.asking (j : EnumJob) : Bool := !j.admitting && j.step != 3 && j.step != 11

/-- ENUM_START (R115, R127, R131): the next queued location of a tree, once the node that was there has been removed; or the request of an enumeration that was
held back goes out. -/
def execEnumStart (p : Nat) (s : State) : Out :=
  finish (match (s.treeOf p).job, (s.treeOf p).queue with
    | some j, _ => whenP (j.asking && j.conv.isNone) (sendStep p)
    | none, l :: rest =>
      let ready := l.tier = 0 ∨ (s.node l.parent).state = .active ∨ (s.node l.parent).state = .suspect
      whenP (s.enumerates l && s.portUp p && p < 16 && (s.presentAt l).isNone && decide ready) (seqs [
        modTreeOf p fun t => { t with queue := rest, job := some { loc := l } },
        put Fld.TRE_STATUS.ENUMERATING (s.fld Fld.TRE_STATUS.ENUMERATING ||| 2 ^ p),
        putN Fld.TRE_ENUM_STATE.HUB_PORT p l.hubPort, putN Fld.TRE_ENUM_STATE.PARENT p l.parent,
        toStep p (if l.tier = 0 then 2 else 1)])
    | none, [] => .skip) s

/-- ENUM_REQUEST_DONE (R118, R120): the request of a port's enumeration has ended with a status and its data. `gen` and `legacy` are what the
lane of a node behind a hub has trained to. -/
def execEnumRequestDone (p gen : Nat) (legacy : Bool) (s : State) : Out :=
  finish (match (s.treeOf p).job with
    | none => .skip
    | some j => match j.conv.bind fun k => s.conv.answers.lookup k with
      | none => .skip
      | some (status, data) => whenP (j.asking && s.enumerates j.loc) (
        if status = St.success ∨ status = St.short then seqs [dropRequest j.conv, stepDone p j data gen legacy]
        else if status = St.timeout then retryStep p j
        else seqs [dropRequest j.conv, enumFail p status])) s

/-- ENUM_STEP_TIMEOUT (R120): ENUM_STEP_US after the SETUP of a request was sent. -/
def execEnumStepTimeout (p : Nat) (s : State) : Out :=
  finish (match (s.treeOf p).job with
    | none => .skip
    | some j => match j.conv.bind s.convOf with
      | none => .skip
      | some c => match c.setupAt with
        | none => .skip
        | some t => whenP (j.asking && s.enumerates j.loc) (atNs (t + max 1 (s.fld Fld.TRE_CFG.ENUM_STEP_US) * 1000) (retryStep p j))) s

/-- Queue the failed locations of the ports of a mask again (R120). -/
def enumRetry (mask : Nat) : Prog :=
  forP ((List.range 16).filter (bitAt mask)) fun p => seqs [
    modTreeOf p fun t => { t with queue := t.queue ++ t.failed, failed := [] }, refreshFailed p]

/-- TRE_ENUM_RETRY (R120). -/
def treEnumRetry (mask : Nat) : Prog :=
  enumRetry mask
/-- TRE_ENUM_RETRY (R120). -/
def execTreEnumRetry (mask : Nat) (s : State) : Out := finish (treEnumRetry mask) s

/-! ### Node operations -/

/-- A NODE_OP action that applies a command (R134). -/
def nodeOp (tag action : Nat) : Prog :=
  withAction tag 0x13 4 action fun c =>
    nodeCommand action (c.at 8 2) (fun k => c.at (16 + 4 * k) 4) (complete tag St.success) (complete tag St.badEntry)

/-- NODE_OP WRITE (R134). -/
def execNodeOpWrite (tag : Nat) (s : State) : Out := finish (nodeOp tag 0) s
/-- NODE_OP FORGET (R134). -/
def execNodeOpForget (tag : Nat) (s : State) : Out := finish (nodeOp tag 1) s
/-- NODE_OP QUARANTINE (R134). -/
def execNodeOpQuarantine (tag : Nat) (s : State) : Out := finish (nodeOp tag 2) s
/-- NODE_OP RELEASE (R132). -/
def execNodeOpRelease (tag : Nat) (s : State) : Out := finish (nodeOp tag 3) s

/-- NODE_OP READ (R306, R133): the 16 bytes of an entry go to DATA. -/
def execNodeOpRead (tag : Nat) (s : State) : Out :=
  finish (withAction tag 0x13 4 4 fun c => .read fun s =>
    let a := c.at 8 2
    writeData tag c (c.at 40 8) ((List.range 4).flatMap fun k => toBytes (if a = 4095 then 0 else (s.node a).word k) 4)) s

/-- NODE_OP ENUM_RETRY (R120). -/
def execNodeOpEnumRetry (tag : Nat) (s : State) : Out :=
  finish (withAction tag 0x13 4 5 fun c => seqs [enumRetry (c.at 8 2), complete tag St.success]) s

/-! ### Hub status legs -/

/-- The location of a hub's downstream port. -/
def State.below (s : State) (a p : Nat) : Location :=
  let e := s.node a
  { port := e.port, route := e.route + p * 16 ^ e.tier, tier := e.tier + 1, parent := a, hubPort := p }

/-- Whether the clear of a hub port's CHANGE bit is outstanding: a SET_PORT_GATE OPEN still to come, or a CLEAR_PORT_CHANGE under way
(R111). -/
def State.clearPending (s : State) (a p : Nat) : Bool :=
  let l := s.below a p
  let t := s.treeOf l.port
  t.queue.contains l || (match t.job with
    | some j => j.loc == l && j.step ≤ 1
    | none => false) ||
    s.conv.convs.any fun e => e.2.tag == none && e.2.node == a && ofBytes ((e.2.setup.drop 1).take 1) == 0x12 &&
      bitAt (ofBytes ((e.2.setup.drop 2).take 2)) p

/-- Queue a location unless it is queued, failed, being enumerated or present (R111, R115). -/
def queueLocation (l : Location) : Prog :=
  .read fun s =>
    let t := s.treeOf l.port
    let busy := t.queue.contains l || t.failed.contains l || (match t.job with
      | some j => j.loc == l
      | none => false)
    whenP (!busy) (modTreeOf l.port fun t => { t with queue := t.queue ++ [l] })

/-- A change of a hub's POWER_FAULT bits (R395): POWER_CHANGED per port, FAST_SWAP for bit 0. -/
def hubPower (a now : Nat) : Prog :=
  .read fun s =>
    let old := (s.nrec a).powerFault
    let e := s.node a
    seqs [
      forP (List.range 16) fun p =>
        let set := bitAt now p
        whenP (set != bitAt old p) (seqs [
          whenP set (raise Fld.CPW_EVENT.HUB_FAULT),
          if p = 0 then postEvent 0 Ev.fastSwap (powerDetail set 0 0 e.port a)
          else postEvent 0 Ev.powerChanged (powerDetail set 3 p e.port a)]),
      modRec a fun r => { r with powerFault := now % 65536 }]

/-- One port of a hub's status leg (R101, R111). -/
def hubPort (a p : Nat) (change link : Bool) (enumerate : Bool) : Prog :=
  .read fun s =>
    let l := s.below a p
    let there := (s.subtree l.port l.tier l.route).any fun n => (s.nrec n).removal == none
    if (s.node a).tier ≥ 7 then whenP link (raise Fld.TRE_EVENT.DEPTH_EXCEEDED)
    else if change && !link then subtreeGone l.port l.tier l.route 1
    else if change then
      let failed := (s.treeOf l.port).failed.contains l
      seqs [whenP there (subtreeGone l.port l.tier l.route 5),
        modTreeOf l.port fun t => { t with retrained := t.retrained.filter (· != l) },
        whenP (enumerate && !failed) (queueLocation l)]
    else whenP (link && !there && enumerate) (queueLocation l)

/-- A hub status leg that passed its CRC checks (R109 to R111, R395). -/
def hubStatus (a : Nat) (payload : List Byte) : Prog :=
  .read fun s =>
    let w (o n : Nat) := ofBytes ((payload.drop o).take n)
    let change := w 0 2
    let link := w 2 2
    let fresh (p : Nat) := bitAt change p && !s.clearPending a p
    let enumerate := (s.node a).state == .active || (s.node a).state == .suspect
    let ports := (List.range 15).map (· + 1)
    whenP (!s.standby) (seqs [
      modRec a fun r => { r with hubSeq := w 7 1 },
      hubPower a (w 4 2),
      whenP (fresh 0) (seqs [whenP (bitAt (w 6 1) 0) (raise Fld.TRE_EVENT.COLLISION),
        whenP (bitAt (w 6 1) 1) (raise Fld.TRE_EVENT.ROUTE_MISS)]),
      forP ports fun p => whenP (!(bitAt change p) || fresh p) (hubPort a p (fresh p) (bitAt link p) enumerate),
      .read fun t =>
        let mask := (((0 :: ports).filter fun p => fresh p && (p == 0 || !t.clearPending a p)).map (2 ^ ·)).foldl (· + ·) 0
        whenP (mask != 0) (treeRequest (s.node a).port a (setupBytes 0 0x12 mask 0 0 (w 7 1)))])

/-! ### What falls due at a meridian -/

/-- Everything a node's pipes hold at the controller is reset (R189, R199). -/
def resetPipes (a : Nat) : Prog :=
  modConv fun u => { u with pipes := u.pipes.filter fun e => e.1 / 32 != a }

/-- One removal (R124 to R126): reason 4 is ANCESTOR. -/
def removeNode (a reason count : Nat) : Prog :=
  .read fun s =>
    let e := s.node a
    let detail := treeDetail 1 reason count e.port a
    seqs [
      setNodeState a .absent, putBearing a { asym := (s.bearing a).asym }, modFix (s.fixKey a) fun _ => {},
      endTransfers a St.nodeAbsent (fun _ => false), resetPipes a, modRec a fun _ => {}, raise Fld.TRE_EVENT.DETACH,
      postEvent e.owner Ev.detach detail, whenP (e.owner != 0 && reason != 4) (postEvent 0 Ev.detach detail)]

/-- The removals that fall due (R124). -/
def removals : Prog :=
  .read fun s => forP (s.tree.nodes.filter fun e => e.2.state.present) fun e =>
    match (s.nrec e.1).removal with
    | none => .skip
    | some r => removeNode e.1 r (s.subtree e.2.port e.2.tier e.2.route).length

/-- Entry to and release from QUARANTINE (R130 to R132). -/
def quarantines : Prog :=
  .read fun s => forP s.tree.nodes fun e =>
    let a := e.1
    let r := s.nrec a
    let st := (s.node a).state
    if (st == .active || st == .suspect) && r.quarantine.isSome then
      let why := r.quarantine.getD 0
      seqs [setNodeState a .quarantine, modRec a fun r => { r with quarantine := none, quarReason := why, release := false },
        endTransfers a St.nodeQuarantined (fun _ => false), raise Fld.TRE_EVENT.QUARANTINE,
        postOwnerAndI0 e.2.owner Ev.quarantine (treeDetail 1 why 1 e.2.port a)]
    else if st == .quarantine && r.release then seqs [
      setNodeState a .active, modRec a fun r => { r with release := false, errors := [], missTicks := 0, quarantine := none },
      postOwnerAndI0 e.2.owner Ev.quarantine (treeDetail 0 r.quarReason 1 e.2.port a)]
    else .skip

/-- A node's configuration takes effect (R189, R199, R205): its pipes are enabled with their counters at 0, also for transfers that run on them. -/
def pipesReady (a : Nat) : Prog :=
  modConv fun u => { u with
    pipes := u.pipes.map fun e =>
      if e.1 / 32 = a then (e.1, { e.2 with enabled := true, halted := false, outSeq := 0, inSeq := 0, oldest := 0, credit := 1 }) else e
    convs := u.convs.map fun e => if e.2.node = a ∧ !e.2.control ∧ e.2.state != .queued then (e.1, e.2.fresh) else e }

/-- The appearances that fall due at the meridian that opens a tick (R118 step 11). -/
def appearances : Prog :=
  .read fun s => forP s.tree.recs fun e => match e.2.appearAt with
    | none => .skip
    | some t => whenP (decide (t ≤ s.tick)) (seqs [
        modRec e.1 fun r => { r with appearAt := none }, pipesReady e.1,
        whenP ((s.node e.1).state == .addressed) (setNodeState e.1 .active),
        let p := (s.node e.1).port
        match (s.treeOf p).job with
        | some j => whenP (j.addr == e.1 && j.step == 11) (jobEnds p)
        | none => .skip])

/-- What the tree logic does once a chart has handed over (R112): a hub whose admission is decided is configured, and one that came to
have its status leg later is configured again. -/
def hubsAdmitted : Prog :=
  .read fun s => seqs [
    forP (List.range 16) fun p => match (s.treeOf p).job with
      | none => .skip
      | some j =>
        let waits := s.chart.admitWait.contains (hubRequest j.addr) || s.chart.admitBatch.contains (hubRequest j.addr)
        whenP (j.admitting && !waits) (seqs [
          modTreeOf p fun t => { t with job := some { j with
            admitting := false
            status := if s.hasStatusLeg j.addr then St.success else St.noSlots } },
          sendStep p]),
    forP s.tree.recs fun e => whenP (e.2.unlisted && (s.node e.1).state.running && s.hasStatusLeg e.1) (
      let data := s.configData e.1 0
      seqs [modRec e.1 fun r => { r with unlisted := false },
        treeRequest (s.node e.1).port e.1 (setupBytes 0 0x05 0 0 data.length) data 4])]

/-- At the latch point of a meridian, an enumeration whose apply tick it opens and whose SET_CONFIG has not completed goes back to step 9
(R119). -/
def configLate : Prog :=
  .read fun s => forP (List.range 16) fun p => match (s.treeOf p).job with
    | none => .skip
    | some j => whenP ((j.step == 9 || j.step == 10) && !j.admitting && j.applyTick != 0 && decide (j.applyTick ≤ s.tick + 1)) (repeatConfig p j)

/-- On wake from S2 or S3 every present entry becomes ABSENT without an event (R135), and every bearing NONE (R59). -/
def treeForget : Prog :=
  .read fun s => seqs [
    forP (s.tree.nodes.filter fun e => e.2.state.present) fun e => seqs [
      setNodeState e.1 .absent, resetPipes e.1, modRec e.1 fun _ => {}],
    forP s.tree.bearings fun e => putBearing e.1 { asym := e.2.asym },
    forP (List.range 16) fun p => match (s.treeOf p).job with
      | some j => stopJob p j
      | none => .skip,
    forP (List.range 16) fun p => seqs [modTreeOf p fun _ => {}, refreshFailed p]]

end Sys2Proof.Machine
end

