-- ==== Sys2Proof/Machine/Reset.lean ====
section
/-! DEFINITION. What resets and power-downs return to reset values: helms, ports, the auxiliary domain, everything of D2 to D11,
everything but what each kind of reset keeps (R402, R416, R446, R490). The meanings of the reset rows stand
in Startup.lean. -/

namespace Sys2Proof.Machine

/-! ### Domains -/

/-- The register fields in a range of offsets. -/
def fieldsIn (lo hi : Nat) : List Field := fieldTable.filter fun f => decide (lo ≤ f.off) && decide (f.off < hi)

/-- A lane's registers and training return to reset values, all but the CDR slice it uses, which the almanac logic assigns (R495). -/
def resetLane (n : Nat) : Prog :=
  seqs [resetFields ((fieldsIn 0x4000 0x6000).filter (· != Fld.LNK_CDR_MAP.SLICE)) n, .eff (.lane n {}), .eff (.fix n {})]

/-- A root port's registers return to reset values: the lane's and the power output's. -/
def resetPort (p : Nat) : Prog :=
  seqs [resetLane p, resetFields (fieldsIn 0x24100 0x24140) p, modPwc p fun _ => {}, pmbusStart p []]

/-- A helm's registers return to reset values, all but its logical number (R495); its memories hold undefined values (R416), or 0
once zeroized (R490). -/
def resetHelm (h : Nat) (zero : Bool) : Prog :=
  .read fun s => seqs [
    resetFields ((fieldsIn 0xC000 0xE000).filter (· != Fld.HLM_STATUS.LOGICAL)) h,
    .eff (.keepTcm fun k => k / 2 ^ 32 % 64 != h), .eff .takeFree,
    .eff (.helm h { tcmGen := if zero then 0 else s.free + 1 })]

/-- PAIR_ID holds the device identity until software rewrites it (R433). -/
def loadPairId : Prog :=
  .read fun s => seqs [put Fld.PAIR_ID_LO.ID_LO s.otpDevice, put Fld.PAIR_ID_HI.ID_HI (s.otpDevice / 2 ^ 32)]

/-- The auxiliary domain's registers return to reset values. -/
def resetAux : Prog :=
  seqs [roleOutLow, resetLane 16, resetLane 17, resetLane 18, resetFields (fieldsIn 0x28000 0x28040) 0,
    forP (List.range 16) (resetFields (fieldsIn 0x28040 0x2C000)), modPair fun _ => {}, loadPairId]

/-- A domain comes on with its registers at reset values and its functions OFF (R416). -/
def resetDomain (d : Nat) : Prog :=
  if d = 3 ∨ d = 4 then forP ((List.range 18).filter fun h => helmDomain h == d) (resetHelm · false)
  else if 5 ≤ d ∧ d ≤ 8 then seqs [forP (List.range 4) fun k => resetPort (4 * (d - 5) + k), refreshBudget]
  else whenP (d == 9) resetAux

/-- Whether every switchable function of a domain is OFF (R416). -/
def State.domainIdle (s : State) (d : Nat) : Bool :=
  if d = 3 ∨ d = 4 then (List.range 18).all fun h => helmDomain h != d || s.helmState h == Fn.off
  else if 5 ≤ d ∧ d ≤ 8 then (List.range 4).all fun k =>
    s.fld Fld.LNK_STATUS.FUNC_STATE (4 * (d - 5) + k) == Fn.off && s.cpwFn (4 * (d - 5) + k) == Fn.off
  else [16, 17, 18].all (fun n => s.fld Fld.LNK_STATUS.FUNC_STATE n == Fn.off) && s.fld Fld.PAIR_STATUS.FUNC_STATE == Fn.off

/-! ### Resets -/

/-- The byte offset of the register a key belongs to. -/
def keyOffset (k : Nat) : Nat := ((fieldTable.find? fun f => f.row == k / keySpan).map (·.off)).getD 0

/-- The access type of the field a key belongs to. -/
def keyAccess (k : Nat) : Access := ((fieldTable.find? fun f => f.row == k / keySpan).map (·.acc)).getD .ro

/-- Whether a register lies in D0: PWR_, SEC_ and NVM_ (R423, R470, R494). -/
def inAon (off : Nat) : Bool :=
  (decide (0x20000 ≤ off) && decide (off < 0x24000)) || (decide (0x2C000 ≤ off) && decide (off < 0x30000)) || decide (0x34000 ≤ off)

/-- Whether a register shows the configuration space and link of D1. -/
def inHost (off : Nat) : Bool := off == 0x0100C

/-- Each PEN ball that is high falls (R537), unless its pad is latched. -/
def pensLow : Prog := forP (List.range 16) fun p => setPen p false

/-- Everything of D2 to D11 returns to its reset value and is zeroized (R446, R490). `warm` keeps D1; `s3` is the loss of S3, which
keeps the retention set (R403) and takes D1 with it. -/
def coreReset (warm : Bool) : Prog :=
  .read fun s => seqs [
    pensLow, roleOutLow, meridOutLow,
    .eff (.keepRegs fun k => inAon (keyOffset k) || (warm && (inHost (keyOffset k) || keyAccess k == .rws))),
    .eff (.keepTcm fun _ => false),
    modQ fun _ => {}, modIns fun _ => {}, modIcu fun u => { pins := u.pins, msix := if warm then u.msix else [] },
    modChr fun c => { ns := c.ns, frac := c.frac, stepSum := c.stepSum },
    forP s.fixes fun e => .eff (.fix e.1 {}),
    modChart fun c => if warm then {} else { bankA := c.bankA },
    modTree fun t => if warm then {} else { nodes := t.nodes },
    modConv fun _ => {}, modCpw fun _ => {}, modTask fun _ => {}, modDma fun _ => {}, modPair fun _ => {},
    modAlm fun a => { records := a.records },
    forP s.lanes fun e => .eff (.lane e.1 {}), forP s.helms fun e => .eff (.helm e.1 {}),
    whenP (!warm) (forP s.fns fun e => .eff (.fn e.1 {})),
    loadPairId, refreshTree]

/-- Everything returns to its reset value but what a COLD reset keeps: the AON scratch, the flash and the OTP (R446, R480);
`scratch` is whether the scratch is kept too. The pins keep the levels that others drive. -/
def fullReset (scratch : Bool) : Prog :=
  .read fun s => seqs [
    coreReset false, .eff (.keepRegs fun _ => false),
    modChr fun _ => {}, modChart fun _ => {}, modTree fun _ => {}, modHalt fun _ => {},
    modPwr fun p => { scratch := if scratch then p.scratch else [] },
    modBoot fun b => { perst := b.perst }, modSec fun c => { lifeSeen := c.lifeSeen },
    refreshOtp, put Fld.SEC_CRIT_EXTRA.GROUPS (s.otpWord 0x00C 2), loadPairId, refreshTree, refreshFault]

/-- What a HOST reset or an FLR of PF0 does to the instances and to I0 (R446, R520): every other instance that is not OFF is
wiped without check or completion; I0's queues, held entries, tags, process image, vectors and HIC state are cleared. -/
def hostReset : Prog :=
  .read fun s => seqs [
    forP (s.ins.live.filter (· != 0)) fun i => forceIns i false,
    wipeQueues 0, wipePi 0, wipeVectors 0, wipeLog 0,
    modDma fun u => { u with channels := u.channels.map fun e => (e.1, { e.2 with tag := none }) },
    resetFields (fieldsOf .hicIns) 0, resetFields ((fieldsIn 0x1C000 0x1E000).filter (·.sel == .none)) 0,
    .eff (.keepRegs fun k => !(fieldsOf .hicVec).any fun f => f.row == k / keySpan),
    clear Fld.NVM_CTRL.HOST_ATTACH]

/-! ### The almanac record -/

/-- The Keeper starts writing an almanac record (R507); a command may wait for it. While one is being written, the command waits
for that one (Table 17-7). -/
def saveRecord (tag : Option Nat) : Prog :=
  .read fun s => seqs [
    modAlm fun a => { a with saving := some ((a.saving.getD []) ++ tag.toList) },
    whenP s.alm.saving.isNone (seqs [raise Fld.ALM_STATUS.SAVING, modAlm fun a => { a with saveAt := s.ms },
      emit (.nvm "RECORD" [s.fld Fld.ALM_SEQ.SEQ + 1])])]

end Sys2Proof.Machine
end

