-- ==== Sys2Proof/Machine/Power.lean ====
section
/-! DEFINITION. Power domains and states (13): S1, the entries to S2 and S3 (R405 to R407), wakes and power-up (R408 to R412, R448),
latched pads (R413), domains switched in S0 (R416), operating points (R418 to R420) and their commands (R422). The accesses
that an off domain stalls stand in Domains.lean. -/

namespace Sys2Proof.Machine

/-- PWR_STATE and PWR_OP_STATUS as words. -/
def State.pstateWord (s : State) : Nat := s.word 0x20000 0
def State.opWord (s : State) : Nat := s.word 0x20044 0

/-- The rails of Table 13-1 are switched. -/
def railEn (r : Nat) (v : Bool) : Prog :=
  seqs [putN Fld.PWR_RAIL.ON r (if v then 1 else 0),
    emit (.pin (if r = 0 then "EN_CORE" else if r = 1 then "EN_SRAM" else if r = 2 then "EN_PCIE" else "EN_SERDES") v)]

/-- VDD_CORE of an operating point, in mV (Table 13-8). -/
def coreLevel (op : Nat) : Nat := if op = 0 then 720 else if op = 1 then 820 else 920

/-- VOUT_COMMAND to VDD_CORE (16) or VDD_SRAM (17), in mV (R401). -/
def railLevel (target mv : Nat) : Prog := pmbusStart target [(0x21, mv)]

/-! ### S1 (R405, R406) -/

/-- The controller enters S1. -/
def enterS1 : Prog :=
  seqs [put Fld.PWR_STATE.CUR 1, raise Fld.PWR_EVENT.ENTERED, history 0 1 0 0,
    .read fun s => forP (s.waiting 0x40 1) fun t => complete t St.success s.pstateWord]

/-- The power state at a meridian (R405, R406). -/
def powerMeridian : Prog :=
  .read fun s => seqs [
    modPwr fun p => { p with next := none },
    if s.pwr.next = some 1 then enterS1
    else if s.pwr.next = some 0 then leaveS1 s.pwr.nextCause
    else whenP (s.pstate == 1 && s.pwr.phase == .idle) (seqs [put Fld.PWR_STATE.CUR 0, history 1 0 0 0])]

/-- S1_HOST_WRITE (R406): a posted write of the host while in S1. -/
def execS1HostWrite (s : State) : Out := finish (returnS1 Wake.access) s

/-! ### Entry (R407) -/

/-- Whether S3 is refused: an instance other than I0 is not OFF. -/
def State.notQuiesced (s : State) : Bool := s.ins.live.any (· != 0)

/-- An entry is asked for, by a command or a write (R407). -/
def enterState (target : Nat) (tag : Option Nat) : Prog :=
  .read fun s =>
    if target = 1 then seqs [modPwr fun p => { p with next := some 1 },
      (match tag with
        | some t => running t 1
        | none => .skip)]
    else if target = 3 ∧ s.notQuiesced then (match tag with
      | some t => complete t St.notQuiesced s.pstateWord
      | none => .skip)
    else seqs [
      put Fld.PWR_STATE.TARGET target, raise Fld.PWR_STATE.ENTRY_BUSY,
      modPwr fun p => { p with phase := .idle, since := s.chr.ns, tag := tag },
      (match tag with
        | some t => running t target
        | none => .skip),
      whenP (s.pstate == 1 && !(s.bit Fld.CHT_STATUS.RUNNING || s.chr.runDue)) (seqs [put Fld.PWR_STATE.CUR 0, history 1 0 0 0])]

/-- A POWER_STATE command. It waits while an entry is under way, as a write is ignored then (Table 13-9). -/
def powerState (tag target : Nat) : Prog :=
  withCmd tag 0x40 fun c => .read fun s =>
    if c.at 4 1 = 0 ∨ 3 < c.at 4 1 then complete tag St.badEntry s.pstateWord
    else whenP (c.at 4 1 == target && s.pwr.phase == .run) (enterState target (some tag))

/-- POWER_STATE S1 (R406, R422). -/
def execPowerStateS1 (tag : Nat) (s : State) : Out := finish (powerState tag 1) s
/-- POWER_STATE S2 (R407, R422). -/
def execPowerStateS2 (tag : Nat) (s : State) : Out := finish (powerState tag 2) s
/-- POWER_STATE S3 (R407, R422). -/
def execPowerStateS3 (tag : Nat) (s : State) : Out := finish (powerState tag 3) s

/-- A write of PWR_STATE_CTRL (R407, R408): ignored while ENTRY_BUSY is 1; TARGET 0 in S1 wakes. -/
def stateCtrl (target : Nat) : Prog :=
  .read fun s => whenP (s.pwr.phase == .run) (if target = 0 then returnS1 Wake.command else enterState target none)

/-- PWR_STATE_CTRL with TARGET 0 (R408). -/
def execPwrStateCtrlS0 (s : State) : Out := finish (stateCtrl 0) s
/-- PWR_STATE_CTRL with TARGET 1 (R406). -/
def execPwrStateCtrlS1 (s : State) : Out := finish (stateCtrl 1) s
/-- PWR_STATE_CTRL with TARGET 2 (R407). -/
def execPwrStateCtrlS2 (s : State) : Out := finish (stateCtrl 2) s
/-- PWR_STATE_CTRL with TARGET 3 (R407). -/
def execPwrStateCtrlS3 (s : State) : Out := finish (stateCtrl 3) s

/-- Step 4 for a lane: LINK_OFF with LOW_POWER where it is UP, DISABLED for every other enabled lane. The controller is D on
SYNC_UP and sends no LINK_OFF there. -/
def laneSleep (n : Nat) : Prog :=
  .read fun s =>
    if s.lstate n = Ls.up ∧ n ≠ 16 then goLowPower n
    else whenP (s.lstate n != Ls.lowPower && s.fld Fld.LNK_STATUS.FUNC_STATE n != Fn.off) (seqs [
      whenP (s.lstate n == Ls.retrain || s.lstate n == Ls.up) (treeLoses n 0),
      enterLane n Ls.disabled, putN Fld.LNK_STATUS.GEN n 0, clear Fld.LNK_ALIGN.LOCKED n])

/-- Step 5 for a port: a VBUS_KEEP port reverts to the default contract; every other output that is not OFF, and every port in LOCAL or
SWAPPING, is disabled. -/
def portSleep (p : Nat) : Prog :=
  .read fun s =>
    if bitAt (s.fld Fld.PWR_ENTRY_CFG.VBUS_KEEP) p && s.cstate p != Cs.local && s.cstate p != Cs.swapping then cpwForceDefault p
    else cpwDisable p

/-- Steps 3 to 5. -/
def entryStops : Prog :=
  .read fun s => seqs [
    stopTicks,
    whenP (s.fld Fld.PAIR_STATUS.ROLE == 2 && s.portUp 18) (emit (.ordered 18 [.block 2 (mbeacon s.tick true false false)])),
    forP (List.range 19) laneSleep, forP (List.range 16) portSleep,
    modPwr fun p => { p with phase := .revert }]

/-- ENTRY_IDLE_TIMEOUT (R407 step 2): IDLE_MS elapses first, and no state has changed. -/
def execEntryIdleTimeout (s : State) : Out :=
  finish (whenP (s.pwr.phase == .idle) (atNs (s.pwr.since + max 1 (s.fld Fld.PWR_ENTRY_TIME.IDLE_MS) * 1000000) (seqs [
    clear Fld.PWR_STATE.ENTRY_BUSY, clear Fld.PWR_STATE.TARGET, clear Fld.PWR_STATE.WAKE_PENDING,
    history s.pstate s.pstate 0 8, raise Fld.PWR_EVENT.ENTRY_ABORTED,
    modPwr fun p => { p with phase := .run, tag := none, latched := none },
    .read fun t => (match s.pwr.tag with
      | some g => complete g St.timeout t.pstateWord
      | none => .skip)]))) s

/-- R160: with bank B active, B is copied into A, which becomes active; the shadow is lost. -/
def keepBankA : Prog :=
  .read fun s => seqs [
    whenP (s.fld Fld.CHT_STATUS.ACTIVE_BANK == 1) (modChart fun c => { c with bankA := c.bankB, safeA := c.safeB }),
    put Fld.CHT_STATUS.ACTIVE_BANK 0, modChart fun c => { c with bankB := [], safeB := [] }]

/-- The output pads of a group of Table 13-6 that are high: PEN of its ports. -/
def State.penHigh (s : State) (g : Nat) : List Nat := ((List.range 4).map (4 * g + ·)).filter (s.bit Fld.CPW_PORT_STATUS.PEN ·)

/-- Pads of the groups not latched yet are latched at their level (R413). -/
def latchPads (groups : List Nat) : Prog :=
  forP groups fun g => .read fun s => whenP (!bitAt (s.fld Fld.PWR_PAD_STATUS.LATCHED) g) (seqs [
    modPwr fun p => { p with
      penHigh := if g < 4 then p.penHigh.filter (fun q => q / 4 != g) ++ s.penHigh g else p.penHigh
      roleHigh := if g = 4 then s.pair.roleOut else p.roleHigh },
    putFlag Fld.PWR_PAD_STATUS.LATCHED g true])

/-- The wake sequence starts a step (Table 13-5). -/
def wakeStep (k : Nat) (retried : Bool) : Prog :=
  .read fun s => seqs [
    modPwr fun p => { p with phase := .wake k, since := s.chr.ns, retried := retried, vok := false },
    if k = 1 then seqs [whenP (!s.bit Fld.PWR_RAIL.ON 0) (railEn 0 true),
      whenP (s.pwr.left == 2) (railLevel 16 (coreLevel (s.fld Fld.PWR_OP_STATUS.ACTIVE)))]
    else if k = 2 then railLevel 17 800
    else if k = 3 then emit (.pin "OSC_EN" true)
    else if k = 4 then railEn 2 true
    else if k = 5 then railEn 3 true
    else .skip]

/-- The wake sequence starts with a cause (R408, R410). -/
def wakeStart (cause index : Nat) : Prog :=
  .read fun s => seqs [
    put Fld.PWR_WAKE_CAUSE.FROM s.pstate, clear Fld.PWR_WAKE_CAUSE.RETRIED, clear Fld.PWR_WAKE_CAUSE.RETRY_SUBJECT,
    clear Fld.PWR_WAKE_CAUSE.FAULT, clear Fld.PWR_WAKE_CAUSE.FAULT_SUBJECT,
    put Fld.PWR_WAKE_CAUSE.INDEX index, put Fld.PWR_WAKE_CAUSE.CAUSE cause,
    modPwr fun p => { p with left := s.pstate, powerUp := false }, wakeStep 1 false]

/-- A wake source declares (R408, R421): it starts the sequence in S2 and S3, is latched during an entry, and merges into a
sequence under way. -/
def declareWake (cause index : Nat) : Prog :=
  .read fun s =>
    if s.pwr.phase = .asleep then wakeStart cause index
    else whenP (s.bit Fld.PWR_STATE.ENTRY_BUSY && s.pwr.latched.isNone) (seqs [
      modPwr fun p => { p with latched := some (cause, index) }, raise Fld.PWR_STATE.WAKE_PENDING])

/-- The link to the host goes down. -/
def linkGone : Prog :=
  .read fun s => seqs [
    whenP (s.bit Fld.GBL_PCIE_STATUS.LINK_UP) (raise Fld.GBL_PCIE_EVENT.LINK_DOWN),
    clear Fld.GBL_PCIE_STATUS.LINK_UP, clear Fld.GBL_PCIE_STATUS.DL_ACTIVE, clear Fld.GBL_PCIE_STATUS.WIDTH,
    clear Fld.GBL_PCIE_STATUS.SPEED]

/-- Steps 9 and 10 (R402, R407, R413): pads are latched, domains and rails go down, and the state is reached. -/
def goAsleep : Prog :=
  .read fun s =>
    let t := s.fld Fld.PWR_STATE.TARGET
    whenP (!s.alm.busy.any fun w => w.kind == 4) (seqs [
      whenP s.reference (deadReckon (if s.role = 2 then 2 else 1)),
      latchPads (if t = 2 then [0, 1, 2, 3, 4] else [0, 1, 2, 3, 4, 5, 6]),
      put Fld.PWR_DOM_STATUS.GOOD (if t = 2 then s.fld Fld.PWR_DOM_STATUS.GOOD &&& 0xC1F else 1),
      modPwr fun p => { p with coming := [], stalled := [] },
      railEn 3 false,
      if t = 2 then railLevel 16 720
      else seqs [railEn 2 false, railEn 0 false, railLevel 17 600,
        whenP (s.bit Fld.PWR_ENTRY_CFG.OSC_OFF) (emit (.pin "OSC_EN" false))],
      put Fld.PWR_STATE.CUR t, clear Fld.PWR_STATE.TARGET, clear Fld.PWR_STATE.ENTRY_BUSY, raise Fld.PWR_EVENT.ENTERED,
      modPwr fun p => { p with phase := .asleep, tag := none, since := s.chr.ns },
      (match s.pwr.latched with
        | some w => wakeStart w.1 w.2
        | none => .skip)])

/-- ENTRY_REVERSIONS_DONE (R407 steps 5 to 7; for S2 also 9 and 10): every reversion has ended. -/
def execEntryReversionsDone (s : State) : Out :=
  finish (whenP (s.pwr.phase == .revert && (List.range 16).all fun p => s.cstate p != Cs.transition) (seqs [
    whenP (s.fld Fld.PWR_STATE.TARGET == 3) (seqs [keepBankA, saveRecord none]),
    (match s.pwr.tag with
      | some g => complete g St.success s.pstateWord
      | none => .skip),
    history s.pstate (s.fld Fld.PWR_STATE.TARGET) 0 (if s.pwr.latched.isSome then 4 else 0),
    modPwr fun p => { p with tag := none },
    modPwr fun p => { p with phase := .pme, since := s.chr.ns },
    whenP (s.fld Fld.PWR_STATE.TARGET == 2) goAsleep])) s

/-- PME_TURN_OFF (R407 step 8): PME_TO_Ack takes the link to L2. -/
def execPmeTurnOff (s : State) : Out :=
  finish (whenP (s.pwr.phase == .pme && s.fld Fld.PWR_STATE.TARGET == 3) (seqs [emit (.pcie 2 0), linkGone, goAsleep])) s

/-- LINK_WAIT_TIMEOUT (R407 step 8): no PME_Turn_Off within LINK_WAIT_MS; the link goes down. For S2 a row repair under way at step 9
ends first (Table 17-7), and the entry goes on here. -/
def execLinkWaitTimeout (s : State) : Out :=
  finish (whenP (s.pwr.phase == .pme) (
    if s.fld Fld.PWR_STATE.TARGET = 2 then goAsleep
    else atNs (s.pwr.since + max 1 (s.fld Fld.PWR_ENTRY_TIME.LINK_WAIT_MS) * 1000000) (seqs [linkGone, goAsleep]))) s

/-! ### Wake (R408 to R412) -/

/-- Whether a lane's receiver may declare a wake. -/
def State.laneResting (s : State) (n : Nat) : Bool := n < 19 && (s.lstate n == Ls.lowPower || s.lstate n == Ls.disabled)

/-- Whether a source of Table 13-4 is armed and its condition holds. PERST# has a row of its own. -/
def State.wakeArmed (s : State) (cause index : Nat) : Bool :=
  match cause with
  | 1 => s.laneResting index && s.bit Fld.LNK_CTRL.FOGHORN_WAKE index
  | 2 => s.laneResting index && bitAt (s.fld Fld.PWR_WAKE_EN.ACTIVITY) index
  | 3 => s.bit Fld.PWR_WAKE_SRC.PCIE && (s.pstate == 2 || s.fld Fld.PWR_STATE.TARGET == 2)
  | 5 => index < 8 && bitAt (s.fld Fld.PWR_WAKE_SRC.GPIO_EN) index && s.pin index == bitAt (s.fld Fld.PWR_WAKE_SRC.GPIO_HIGH) index
  | _ => false

/-- The instant of the wake timer. -/
def State.wakeTime (s : State) : Nat := s.fld Fld.PWR_WAKE_TIME_HI.NS_HI * 2 ^ 32 + s.fld Fld.PWR_WAKE_TIME_LO.NS_LO

/-- WAKE_DECLARE (R408): a source declares, with its lane or GPIO. -/
def execWakeDeclare (cause index : Nat) (s : State) : Out :=
  finish (whenP (s.pwr.phase == .asleep || s.bit Fld.PWR_STATE.ENTRY_BUSY) (
    if cause = Wake.timer then whenP (s.bit Fld.PWR_WAKE_SRC.TIMER)
      (if s.wakeTime ≤ s.chron then declareWake cause 0 else atNs (s.whenChron s.wakeTime) (declareWake cause 0))
    else whenP (s.wakeArmed cause index) (declareWake cause (if cause = Wake.pcie then 0 else index)))) s

/-- The lanes that start DETECT when their domain is on again, with what their foghorn detectors saw: those in LOW_POWER (R412), and those in DISABLED that a
foghorn has woken (R95). -/
def State.wokenLanes (s : State) : List (Nat × Bool) :=
  ((List.range 19).filter fun n => s.lstate n == Ls.lowPower || (s.lane n).waking).map fun n => (n, (s.lane n).waking)

/-- FOGHORN_DETECT (R92, R95): sets FOGHORN_SEEN, signals a wake, and starts DETECT once the lane's domain is on. A lane that is DISABLED
goes on only where it is enabled. DESIGN CHOICE (notes/assumptions/28). In UP and in a training state a foghorn sets FOGHORN_SEEN alone. -/
def execFoghornDetect (n : Nat) (s : State) : Out :=
  let goes := s.lstate n == Ls.lowPower || s.bit Fld.LNK_CTRL.ENABLE n
  finish (if s.laneResting n then
      whenP (s.bit Fld.LNK_CTRL.FOGHORN_WAKE n) (seqs [
        raise Fld.LNK_EVENT.FOGHORN_SEEN n, declareWake Wake.foghorn n,
        if s.domGood (laneDomain n) then whenP goes (enterDetect n)
        else whenP goes (modLane n fun l => { l with waking := true })])
    else whenP (n < 19 && s.lstate n != Ls.error) (raise Fld.LNK_EVENT.FOGHORN_SEEN n)) s

/-- The end of step 6 (R412, R448): the controller is in S0. -/
def wakeDone (zeroOk : Bool) : Prog :=
  .read fun s =>
    let low := s.wokenLanes
    let off := [3, 4, 5, 6, 7, 8, 9].filter fun d => !s.domGood d
    let full := s.pwr.left = 3
    seqs [
      if full then coreReset false else forP off resetDomain,
      put Fld.PWR_DOM_STATUS.GOOD 0xFFF, put Fld.PWR_DOM_CTRL.ON 0x7F,
      put Fld.PWR_STATE.CUR 0, clear Fld.PWR_STATE.WAKE_PENDING,
      modPwr fun p => { p with phase := .run, latched := none, retried := false, since := s.chr.ns },
      whenP full (modBoot fun b => { b with keeper := true, s3 := !s.pwr.powerUp, warm := false, slot := none, tried := [], runDone := false,
                                            pgAt := if s.pwr.powerUp then b.pgAt else s.chr.ns }),
      whenP (!s.pwr.powerUp) (seqs [
        history s.pwr.left 0 (s.fld Fld.PWR_WAKE_CAUSE.CAUSE)
          (s.fld Fld.PWR_WAKE_CAUSE.RETRIED + (if s.pwr.latched.isSome then 4 else 0)),
        raise Fld.PWR_EVENT.WAKE,
        .read fun t => postEvent 0 Ev.wake (t.word 0x20020 0 % 2 ^ 22),
        forP (List.range 19) fun n => modFix n fun f => { f with filtered := none, discarded := none, outstanding := none },
        modChr fun c => { c with wakeFix := true },
        forP low fun e => seqs [raise Fld.LNK_CTRL.ENABLE e.1, enterDetect e.1, whenP e.2 (raise Fld.LNK_EVENT.FOGHORN_SEEN e.1)],
        treeForget,
        whenP (s.pwr.left == 2) (if s.bit Fld.PWR_ENTRY_CFG.RESUME then whenP (s.bit Fld.CHT_CTRL.RUN) startRun
          else modPwr fun p => { p with taskHeld := true })]),
      whenP s.pwr.powerUp (seqs [refreshOtp,
        if zeroOk then raise Fld.SEC_EVENT.ZEROIZED
        else seqs [raise Fld.SEC_EVENT.ZERO_FAULT, put Fld.NVM_STATUS.STATE 3, modBoot fun b => { b with keeper := false }]]),
      refreshFault]

/-- WAKE_STEP_DONE (R410, R491): the rail or the domains of the step in progress report good. `zeroOk` is what the read pass of the
zeroization after the last step of a power-up has found. -/
def execWakeStepDone (zeroOk : Bool) (s : State) : Out :=
  finish (match s.pwr.phase with
    | .wake k =>
      if k = 6 then atNs (s.pwr.since + 200000) (wakeDone zeroOk)
      else whenP (s.pwr.vok || !(k == 2 || (k == 1 && s.pwr.left == 2))) (seqs [
        whenP (k == 5) (modBoot fun b => { b with pgAt := s.chr.ns }),
        wakeStep (if k = 1 ∧ s.pwr.left = 2 then 5 else k + 1) false])
    | _ => .skip) s

/-- The rail of a step, if it has one. -/
def stepRail (k : Nat) : Option Nat := if k = 1 then some 0 else if k = 2 then some 1 else if k = 4 then some 2 else if k = 5 then some 3 else none

/-- What a step has raised goes down again (R411). -/
def stepDown (k : Nat) : Prog :=
  if k = 2 then railLevel 17 600
  else if k = 3 then emit (.pin "OSC_EN" false)
  else match stepRail k with
    | some r => railEn r false
    | none => .skip

/-- WAKE_FAULT (R411): the rails of the completed steps go down in reverse order and FAULT# is asserted. -/
def wakeFault (k : Nat) : Prog :=
  .read fun s => seqs [
    forP ((List.range (k - 1)).reverse.map (· + 1)) fun j => whenP (s.pwr.left == 3 || j == 1) (stepDown j),
    raise Fld.PWR_WAKE_CAUSE.FAULT, put Fld.PWR_WAKE_CAUSE.FAULT_SUBJECT k, put Fld.PWR_WAKE_CAUSE.FROM s.pwr.left,
    history s.pwr.left s.pwr.left (s.fld Fld.PWR_WAKE_CAUSE.CAUSE) 3,
    modPwr fun p => { p with phase := .fault }, linkGone, refreshFault]

/-- A step has failed (R411): it is tried once more after 1.0 ms, or WAKE_FAULT follows. -/
def stepFails (k : Nat) : Prog :=
  .read fun s => seqs [
    stepDown k,
    (match stepRail k with
      | some r => countUp Fld.PWR_RAIL.FAILS r
      | none => .skip),
    if s.pwr.retried then wakeFault k
    else seqs [raise Fld.PWR_EVENT.WAKE_RETRY, raise Fld.PWR_WAKE_CAUSE.RETRIED, put Fld.PWR_WAKE_CAUSE.RETRY_SUBJECT k,
      .read fun t => modPwr fun p => { p with phase := .retry k, since := t.chr.ns }]]

/-- WAKE_STEP_TIMEOUT (R410, R411): the step in progress times out. -/
def execWakeStepTimeout (s : State) : Out :=
  finish (match s.pwr.phase with
    | .wake k => whenP (k < 6) (atNs (s.pwr.since + (if k = 3 then 5000000 else 2000000)) (stepFails k))
    | _ => .skip) s

/-! ### PMBus transactions (R385, R401, R561) -/

/-- The wake step that sets the level of a regulator now. -/
def State.railStep (s : State) (target : Nat) : Option Nat :=
  match s.pwr.phase with
  | .wake 1 => if target = 16 ∧ s.pwr.left = 2 then some 1 else none
  | .wake 2 => if target = 17 then some 2 else none
  | _ => none

/-- The transaction on the bus of a target has failed: a failure of the stage, or of the wake step that the regulator is in. -/
def pmbusFails (target : Nat) : Prog :=
  .read fun s => seqs [modCpw fun u => { u with bus := none },
    if target < 16 then stageFails target
    else seqs [pmbusStart target [], (match s.railStep target with
      | some k => stepFails k
      | none => .skip)],
    pmbusNext]

/-- PMBUS_TRANSACTION_DONE (R385, R561): the transaction on the bus of a target completes, with what a read brought, or is not
acknowledged; the next one follows. A VOUT_MODE other than linear (bits 7:5 not 0) fails the stage. -/
def execPmbusTransactionDone (target : Nat) (ack : Bool) (value : Nat) (s : State) : Out :=
  finish (match s.cpw.bus with
    | none => .skip
    | some (t, code, _) => whenP (t == target) (
        if !ack || (code == 0x20 && value / 32 % 8 != 0) then pmbusFails target
        else seqs [
          modCpw fun u => { u with bus := none, modes := if code = 0x20 then tset 0x17 u.modes target (value % 256) else u.modes },
          pmbusNext,
          .read fun s => whenP (s.pmbusIdle target && decide (target < 16) && code != 0x01) (stageWritten target)])) s

/-- PMBUS_TIMEOUT (R561): a device holding SCL low for 25 ms fails its transaction. -/
def execPmbusTimeout (target : Nat) (s : State) : Out :=
  finish (whenP (s.cpw.bus.any fun b => b.1 == target) (pmbusFails target)) s

/-- WAKE_RETRY_WAIT (R411): after 1.0 ms the failed step is carried out once more. -/
def execWakeRetryWait (s : State) : Out :=
  finish (match s.pwr.phase with
    | .retry k => atNs (s.pwr.since + 1000000) (wakeStep k true)
    | _ => .skip) s

/-! ### Pads (R413) -/

/-- The domain that drives a pad group (Table 13-6). -/
def padDomain (g : Nat) : Nat := if g < 5 then 5 + g else if g = 5 then 2 else 10

/-- A group's pads follow their block again. -/
def releasePads (g : Nat) : Prog :=
  .read fun s => whenP (bitAt (s.fld Fld.PWR_PAD_STATUS.LATCHED) g && s.domGood (padDomain g)) (seqs [
    putFlag Fld.PWR_PAD_STATUS.LATCHED g false,
    whenP (g < 4) (forP ((List.range 4).map (4 * g + ·)) fun p =>
      whenP (s.pwr.penHigh.contains p != s.bit Fld.CPW_PORT_STATUS.PEN p) (emit (.pin (penPin p) (s.bit Fld.CPW_PORT_STATUS.PEN p)))),
    whenP (g == 4 && s.pwr.roleHigh != s.pair.roleOut) (emit (.pin "ROLE_OUT" s.pair.roleOut)),
    modPwr fun p => { p with penHigh := p.penHigh.filter (fun q => q / 4 != g), roleHigh := p.roleHigh && g != 4 }])

/-- A write of PWR_PAD_RELEASE. -/
def padRelease (v : Nat) : Prog := forP ((List.range 7).filter (bitAt v)) releasePads

/-- PWR_PAD_RELEASE (R413). -/
def execPwrPadRelease (v : Nat) (s : State) : Out := finish (padRelease v) s

/-! ### Domains switched in S0 (R416) -/

/-- Whether a domain may be switched off: its functions are OFF and no access to it waits. -/
def State.mayTurnOff (s : State) (d : Nat) : Bool := s.domainIdle d && !s.pwr.stalled.any fun a => a.domain == d

/-- A domain is switched off. -/
def domainDown (d : Nat) : Prog :=
  seqs [putFlag Fld.PWR_DOM_CTRL.ON (d - 3) false, putFlag Fld.PWR_DOM_STATUS.GOOD d false,
    modPwr fun p => { p with coming := p.coming.filter fun e => e.1 != d }]

/-- A write of PWR_DOM_CTRL; the value's bits 9 to 3 name D9 to D3. -/
def domCtrl (v : Nat) : Prog :=
  forP [3, 4, 5, 6, 7, 8, 9] fun d => .read fun s =>
    if bitAt v d == bitAt (s.fld Fld.PWR_DOM_CTRL.ON) (d - 3) then .skip
    else if bitAt v d then domainUp d false
    else if s.mayTurnOff d then domainDown d
    else raise Fld.PWR_EVENT.DOM_REFUSED

/-- PWR_DOM_CTRL (R416). -/
def execPwrDomCtrl (v : Nat) (s : State) : Out := finish (domCtrl v) s

/-- DOMAIN_IDLE_OFF (R416): an AUTO domain whose functions are OFF, with no access waiting, goes off 1 ms after it was first seen so. -/
def execDomainIdleOff (d : Nat) (s : State) : Out :=
  let mark (v : List (Nat × Nat)) : Prog := modPwr fun p => { p with idleFrom := v }
  let others := s.pwr.idleFrom.filter fun e => e.1 != d
  finish (whenP (3 ≤ d && d ≤ 9) (
    if !(bitAt (s.fld Fld.PWR_DOM_AUTO.AUTO) (d - 3) && s.domGood d && s.mayTurnOff d) then mark others
    else match s.pwr.idleFrom.lookup d with
      | none => mark (others ++ [(d, s.chr.ns)])
      | some t => atNs (t + 1000000) (seqs [mark others, domainDown d]))) s

/-- A DOMAIN command with its ACTION (R422). -/
def domainCmd (tag action : Nat) (k : Nat → Prog) : Prog :=
  withCmd tag 0x42 fun c => .read fun s =>
    if c.at 4 1 < 3 ∨ 9 < c.at 4 1 ∨ 3 < c.at 5 1 then complete tag St.badEntry (s.word 0x20030 0)
    else whenP (c.at 5 1 == action) (k (c.at 4 1))

/-- Complete a command with PWR_DOM_STATUS. -/
def domainDone (tag status : Nat) : Prog := .read fun s => complete tag status (s.word 0x20030 0)

/-- DOMAIN ON (R416): completes when the domain is good. -/
def execDomainOn (tag : Nat) (s : State) : Out :=
  finish (domainCmd tag 0 fun d => .read fun s => seqs [domainUp d false, if s.domGood d then domainDone tag St.success else running tag d]) s

/-- DOMAIN OFF (R416). -/
def execDomainOff (tag : Nat) (s : State) : Out :=
  finish (domainCmd tag 1 fun d => .read fun s =>
    if s.mayTurnOff d then seqs [domainDown d, domainDone tag St.success]
    else seqs [raise Fld.PWR_EVENT.DOM_REFUSED, domainDone tag St.badEntry]) s

/-- DOMAIN AUTO_ON (R416). -/
def execDomainAutoOn (tag : Nat) (s : State) : Out :=
  finish (domainCmd tag 2 fun d => seqs [putFlag Fld.PWR_DOM_AUTO.AUTO (d - 3) true, domainDone tag St.success]) s

/-- DOMAIN AUTO_OFF (R416). -/
def execDomainAutoOff (tag : Nat) (s : State) : Out :=
  finish (domainCmd tag 3 fun d => seqs [putFlag Fld.PWR_DOM_AUTO.AUTO (d - 3) false, domainDone tag St.success]) s

/-! ### Operating points (R418 to R420) -/

/-- The points that VSEL and FSEL name; 3 acts as 2. -/
def State.vsel (s : State) : Nat := min 2 (s.fld Fld.PWR_OP_VSEL.VSEL)
def State.fsel (s : State) : Nat := min 2 (s.fld Fld.PWR_OP_FSEL.FSEL)

/-- OP_DONE when frequency and voltage stand at one point. -/
def opSettled : Prog :=
  .read fun s => whenP (s.fld Fld.PWR_OP_STATUS.ACTIVE == s.fld Fld.PWR_OP_STATUS.VSEL_OK && !s.bit Fld.PWR_OP_STATUS.VBUSY &&
    !s.bit Fld.PWR_OP_STATUS.PENDING) (raise Fld.PWR_EVENT.OP_DONE)

/-- A write of PWR_OP_VSEL (R419). -/
def vselWrite (v : Nat) : Prog :=
  .read fun s =>
    let p := min 2 (v % 4)
    if p < s.fld Fld.PWR_OP_STATUS.ACTIVE || (s.bit Fld.PWR_OP_STATUS.PENDING && decide (p < s.fsel)) then
      raise Fld.PWR_OP_STATUS.VSEL_REFUSED
    else seqs [put Fld.PWR_OP_VSEL.VSEL v, raise Fld.PWR_OP_STATUS.VBUSY, modPwr fun u => { u with opSince := s.chr.ns },
      railLevel 16 (coreLevel p)]

/-- PWR_OP_VSEL (R419). -/
def execPwrOpVsel (v : Nat) (s : State) : Out := finish (vselWrite v) s

/-- A COMMIT of FSEL (R419). -/
def opCommit : Prog :=
  .read fun s =>
    if s.bit Fld.PWR_OP_STATUS.PENDING then .skip
    else if s.fsel > s.fld Fld.PWR_OP_STATUS.VSEL_OK then raise Fld.PWR_OP_STATUS.COMMIT_REFUSED
    else seqs [raise Fld.PWR_OP_STATUS.PENDING, modPwr fun u => { u with opDue := s.chr.ns + 1000, opLatched := false }]

/-- PWR_OP_COMMIT (R419). -/
def execPwrOpCommit (s : State) : Out := finish opCommit s

/-- The OPERATING_POINT under way ends with a status. -/
def opEnd (status : Nat) : Prog :=
  .read fun s => match s.pwr.opTag with
    | some t => seqs [modPwr fun u => { u with opTag := none }, complete t status s.opWord]
    | none => .skip

/-- The stage of the OPERATING_POINT under way (R420): 0 raising, waits for the voltage; 1 raising, waits for hand-over; 2 lowering,
waits for hand-over; 3 lowering, waits for the voltage; with the point it goes to. -/
def State.opStage (s : State) : Option (Nat × Nat) :=
  (s.pwr.opTag.bind s.cmd).map fun c => (c.progress / 4, c.progress % 4)

/-- The OPERATING_POINT under way goes to a stage. -/
def opTo (stage : Nat) : Prog :=
  .read fun s => match s.pwr.opTag with
    | some t => modCmd t fun c => { c with progress := stage * 4 + c.progress % 4 }
    | none => .skip

/-- A committed FSEL hands over (R419): the helm clocks switch. -/
def opHandover : Prog :=
  .read fun s => whenP (s.bit Fld.PWR_OP_STATUS.PENDING) (seqs [
    forP ((List.range 18).filter fun h => s.helmState h != Fn.off) fun h => whenP ((s.helm h).at12 < s.now12) (helmTo h s.now12),
    put Fld.PWR_OP_STATUS.ACTIVE s.fsel, clear Fld.PWR_OP_STATUS.PENDING, modPwr fun u => { u with opLatched := false },
    opSettled,
    (match s.opStage with
      | some (1, _) => opEnd St.success
      | some (2, p) => seqs [opTo 3, vselWrite p]
      | _ => .skip)])

/-- The latch point latches a pending COMMIT (R11). -/
def opLatch : Prog := modPwr fun u => { u with opLatched := true }

/-- Whether a reading lies within 2 % of a level (R401). -/
def near (reading level : Nat) : Bool := decide (50 * reading ≤ 51 * level) && decide (49 * level ≤ 50 * reading)

/-- VOLTAGE_CONFIRM (R401, R419): two consecutive READ_VOUT words of rail 0 (VDD_CORE) or 1 (VDD_SRAM), once its VOUT_COMMAND has been written. -/
def execVoltageConfirm (rail v1 v2 : Nat) (s : State) : Out :=
  let level := if rail = 1 then 800 else if s.pwr.phase = .wake 1 then coreLevel (s.fld Fld.PWR_OP_STATUS.ACTIVE) else coreLevel s.vsel
  finish (whenP (rail < 2 && s.pmbusIdle (16 + rail)) (seqs [
    pmbusRead (16 + rail) 0x8B, pmbusRead (16 + rail) 0x8B,
    whenP (near (s.voutMv (16 + rail) v1) level && near (s.voutMv (16 + rail) v2) level) (
      if (s.railStep (16 + rail)).isSome then modPwr fun p => { p with vok := true }
      else whenP (rail == 0 && s.bit Fld.PWR_OP_STATUS.VBUSY) (seqs [
        put Fld.PWR_OP_STATUS.VSEL_OK s.vsel, clear Fld.PWR_OP_STATUS.VBUSY, opSettled,
        (match s.opStage with
          | some (0, p) => seqs [opTo 1, put Fld.PWR_OP_FSEL.FSEL p, opCommit]
          | some (3, _) => opEnd St.success
          | _ => .skip)]))])) s

/-- VOLTAGE_TIMEOUT (R419): a change not confirmed within 2.0 ms restores the previous VSEL. -/
def execVoltageTimeout (s : State) : Out :=
  finish (whenP (s.bit Fld.PWR_OP_STATUS.VBUSY) (atNs (s.pwr.opSince + 2000000) (seqs [
    raise Fld.PWR_OP_STATUS.OP_FAULT, raise Fld.PWR_EVENT.OP_FAULT, clear Fld.PWR_OP_STATUS.VBUSY,
    put Fld.PWR_OP_VSEL.VSEL (s.fld Fld.PWR_OP_STATUS.VSEL_OK), railLevel 16 (coreLevel (s.fld Fld.PWR_OP_STATUS.VSEL_OK)),
    (match s.opStage with
      | some (0, _) => opEnd St.timeout
      | some (3, _) => opEnd St.timeout
      | _ => .skip)]))) s

/-- OPERATING_POINT (R420). -/
def execOperatingPoint (tag : Nat) (s : State) : Out :=
  finish (withCmd tag 0x41 fun c => .read fun s =>
    let p := c.at 4 1
    if p > 2 then complete tag St.badEntry s.opWord
    else if s.bit Fld.PWR_OP_STATUS.PENDING || s.pwr.opTag.isSome then complete tag St.shadowBusy s.opWord
    else if p = s.fld Fld.PWR_OP_STATUS.ACTIVE ∧ p = s.fld Fld.PWR_OP_STATUS.VSEL_OK ∧ !s.bit Fld.PWR_OP_STATUS.VBUSY then
      complete tag St.success s.opWord
    else seqs [
      modPwr fun u => { u with opTag := some tag },
      if s.fld Fld.PWR_OP_STATUS.ACTIVE < p then
        (if p ≤ s.fld Fld.PWR_OP_STATUS.VSEL_OK ∧ !s.bit Fld.PWR_OP_STATUS.VBUSY then
          seqs [running tag (4 + p), put Fld.PWR_OP_FSEL.FSEL p, opCommit]
        else seqs [running tag p, vselWrite p])
      else seqs [running tag (8 + p), put Fld.PWR_OP_FSEL.FSEL p, opCommit]]) s

end Sys2Proof.Machine
end

