-- ==== Sys2Proof/Machine/Security.lean ====
section
/-! DEFINITION. Command authentication and life cycle (16): the keyed check and the counter journal (R475 to R480), keys (R482, R483), image
verification (R455, R484, R485), replacing an image (R486), the life cycle and zeroization as far as their commands go (R488, R491).
What they apply 1 ms later stands in Startup.lean. -/

namespace Sys2Proof.Machine

/-! ### The counter floor -/

/-- The counter floor F. -/
def State.floor (s : State) : Nat := s.fld Fld.SEC_COUNTER_HI.FLOOR_HI * 2 ^ 32 + s.fld Fld.SEC_COUNTER_LO.FLOOR_LO
/-- The ceiling C. -/
def State.ceiling (s : State) : Nat := s.fld Fld.SEC_CEILING_HI.CEIL_HI * 2 ^ 32 + s.fld Fld.SEC_CEILING_LO.CEIL_LO
/-- Set F. -/
def putFloor (v : Nat) : Prog := seqs [put Fld.SEC_COUNTER_LO.FLOOR_LO v, put Fld.SEC_COUNTER_HI.FLOOR_HI (v / 2 ^ 32)]
/-- Set C. -/
def putCeiling (v : Nat) : Prog := seqs [put Fld.SEC_CEILING_LO.CEIL_LO v, put Fld.SEC_CEILING_HI.CEIL_HI (v / 2 ^ 32)]

/-- A journal record (R479): C, its number, its CRC-32C. -/
def journalBytes (c num : Nat) : List Byte :=
  let b := toBytes c 8 ++ toBytes num 4
  b ++ toBytes (crc32c b) 4

/-- The valid records of the journal: offset, number and C. -/
def State.journal (s : State) : List (Nat × Nat × Nat) :=
  (List.range 512).filterMap fun k =>
    let b := s.flashRead (0x2000 + 16 * k) 16
    if fieldAt b 12 4 == crc32c (b.take 12) then some (0x2000 + 16 * k, fieldAt b 8 4, fieldAt b 0 8) else none

/-- The journal is read (R480): F and C are the C of the valid record with the highest number; with none, 0 in BLANK, and otherwise the floor is
unknown. A flash that does not answer leaves it unknown. -/
def readJournal (answers : Bool) : Prog :=
  .read fun s =>
    let best := s.journal.foldl (fun (b : Option (Nat × Nat × Nat)) e => match b with
      | none => some e
      | some m => if m.2.1 < e.2.1 then some e else some m) none
    let at_ (c num off : Nat) : Prog := seqs [putFloor c, putCeiling c, clear Fld.SEC_STATUS.FLOOR_UNKNOWN,
      modSec fun u => { u with jrnOff := off, jrnNum := num }]
    if !answers then raise Fld.SEC_STATUS.FLOOR_UNKNOWN
    else match best with
      | some (off, num, c) => at_ c (num + 1) (if off = 0x3FF0 then 0x2000 else off + 16)
      | none => if s.lifeCycle = 0 then at_ 0 0 0x2000 else raise Fld.SEC_STATUS.FLOOR_UNKNOWN

/-! ### The keyed check (R475) -/

/-- A check fails: it is recorded, and the command completes (R475). -/
def checkFailed (tag : Nat) (c : Cmd) (status : Nat) : Prog :=
  let stale := status = St.counterStale
  seqs [
    put Fld.SEC_FAIL.STATUS status, put Fld.SEC_FAIL.OPCODE c.opcode, put Fld.SEC_FAIL.INSTANCE c.ins,
    if stale then seqs [countUp Fld.SEC_AUTH_CNT.STALE, raise Fld.SEC_EVENT.COUNTER_STALE]
    else seqs [countUp Fld.SEC_AUTH_CNT.FAILED, raise Fld.SEC_EVENT.AUTH_FAILED],
    complete tag status]

/-- An AUTH_FAILED of an instance (R478): the sixteenth less than 1,000 ms after the one fifteen places before it begins its lockout. -/
def lockout (i : Nat) : Prog :=
  .read fun s =>
    let l := (s.chr.ns :: tget [] s.sec.fails i).take 16
    seqs [
      modSec fun u => { u with fails := tset [] u.fails i l },
      match l[15]? with
      | some t => whenP (decide (s.chr.ns < t + 1000000000)) (seqs [
          modSec fun u => { u with locked := u.locked.filter (fun e => e.1 != i) ++ [(i, s.chr.ns + 1000000000)] },
          raise Fld.SEC_EVENT.LOCKOUT, raise Fld.SEC_STATUS.LOCKOUT])
      | none => .skip]

/-- The check has passed: F becomes COUNTER, and check 4 follows (R475, R306). -/
def checkPassed (tag : Nat) (c : Cmd) : Prog :=
  .read fun s => seqs [putFloor (c.at 64 8), match s.check4 c with
    | .fail st => complete tag st
    | _ => modCmd tag fun c => { c with stage := .ready }]

/-- COUNTER of a critical entry. -/
def Cmd.counter (c : Cmd) : Nat := c.at 64 8

/-- TAG of a critical entry matches: the first 128 bits of HMAC-SHA-256 over bytes 0 to 71 under the active command key (R475). -/
def State.tagMatches (s : State) (c : Cmd) : Bool :=
  match s.activeKey with
  | none => false
  | some k => (hmac256 (s.keyBytes 0 k) (c.bytes.take 72)).take 16 == (c.bytes.drop 72).take 16

/-- Whether the Keeper turns to a command next: it is the first of those that wait for a check, no journal write is awaited, and no KEY_SELECT
before it is still to complete (R476, R483). -/
def State.keeperTurn (s : State) (tag : Nat) : Bool :=
  s.sec.journal.isNone &&
    !(s.q.cmds.any fun e => decide (e.1 < tag) && (e.2.stage == .keeper || (e.2.opcode == 0x31 && e.2.flag 0)))

/-- KEEPER_CHECK_DONE (R475 to R479): the check of the command that comes next. A COUNTER above the ceiling waits for a journal record. -/
def execKeeperCheckDone (tag : Nat) (s : State) : Out :=
  finish (match s.cmd tag with
    | none => .skip
    | some c => whenP (c.stage == .keeper && s.keeperTurn tag) (
        if s.sec.locked.any (fun e => e.1 == c.ins) then complete tag St.authFailed
        else if !s.tagMatches c then seqs [lockout c.ins, checkFailed tag c St.authFailed]
        else if s.bit Fld.SEC_STATUS.FLOOR_UNKNOWN || decide (c.counter ≤ s.floor) || decide (s.floor + 2 ^ 32 < c.counter) then
          checkFailed tag c St.counterStale
        else if c.counter ≤ s.ceiling then checkPassed tag c
        else seqs [
          modSec fun u => { u with journal := some { tag := some tag, flag := (c.counter + 65536) % 2 ^ 64 } }, raise Fld.SEC_STATUS.JOURNAL_BUSY,
          emit (.nvm "JOURNAL" [c.counter + 65536])])) s

/-- The record that the journal takes next, with the erasure of the other sector when 16 records remain free (R479). -/
def writeJournal (c : Nat) : Prog :=
  .read fun s =>
    let off := s.sec.jrnOff
    let sector := off / 4096 * 4096
    let other := if sector = 0x2000 then 0x3000 else 0x2000
    seqs [
      .eff (.flash off (journalBytes c s.sec.jrnNum)),
      whenP (off + 16 + 256 == sector + 4096) (.eff (.flash other (List.replicate 4096 0xFF))),
      modSec fun u => { u with
        jrnNum := (u.jrnNum + 1) % 2 ^ 32, jrnOff := if off + 16 = sector + 4096 then other else off + 16 }]

/-- JOURNAL_WRITE_DONE (R479, Table 16-9): the record is written, and the check that waits for it passes, unless a HOST reset has ended its command; or the write
has failed. -/
def execJournalWriteDone (ok : Bool) (s : State) : Out :=
  finish (match s.sec.journal with
    | none => .skip
    | some j =>
      let tag := j.tag.getD 0
      let withWaiting (k : Cmd → Prog) : Prog := match s.cmd tag with
        | none => .skip
        | some c => k c
      seqs [
        modSec fun u => { u with journal := none }, clear Fld.SEC_STATUS.JOURNAL_BUSY,
        if ok then seqs [writeJournal j.flag, putCeiling j.flag, withWaiting (checkPassed tag)]
        else seqs [raise Fld.SEC_EVENT.JOURNAL_FAULT, withWaiting fun c => checkFailed tag c St.counterStale]]) s

/-- LOCKOUT_EXPIRY (R478). -/
def execLockoutExpiry (i : Nat) (s : State) : Out :=
  finish (match s.sec.locked.lookup i with
    | none => .skip
    | some t => atNs t (seqs [
        modSec fun u => { u with locked := u.locked.filter fun e => e.1 != i },
        .read fun v => whenP v.sec.locked.isEmpty (clear Fld.SEC_STATUS.LOCKOUT)])) s

/-- SEC_CRIT_EXTRA_ADD (R472): groups 0 to 5 are added. -/
def critExtraAdd (v : Nat) : Prog := .read fun s => put Fld.SEC_CRIT_EXTRA.GROUPS (s.fld Fld.SEC_CRIT_EXTRA.GROUPS ||| v % 64)
/-- SEC_CRIT_EXTRA_ADD (R472). -/
def execSecCritExtraAdd (v : Nat) (s : State) : Out := finish (critExtraAdd v) s

/-- COUNTER_READ (R477, Table 16-7). -/
def execCounterRead (tag : Nat) (s : State) : Out :=
  finish (withCmd tag 0x39 fun _ => complete tag St.success (s.floor % 2 ^ 32) (s.floor / 2 ^ 32 % 2 ^ 32)) s

/-! ### Keys -/

/-- SEC_KEYS as a word. -/
def State.keysWord (s : State) : Nat := s.word 0x2C01C 0

/-- An OTP operation starts: the bytes to program at an offset, and the flag that follows (R482). While one runs, another waits. -/
def otpStart (tag addr : Nat) (bytes : List Byte) (flag : Nat := 0) (revoke : Nat := 0) : Prog :=
  seqs [running tag, modSec fun u => { u with otpOp := some { tag := some tag, addr := addr, bytes := bytes, flag := flag, revoke := revoke } },
    emit (.nvm "OTP" [addr, bytes.length])]

/-- A command that programs the OTP array, once no other does. -/
def otpCommand (tag op : Nat) (k : Cmd → Prog) : Prog := .read fun s => whenP s.sec.otpOp.isNone (withCmd tag op k)

/-- KEY_WRITE (R482). -/
def execKeyWrite (tag : Nat) (s : State) : Out :=
  finish (otpCommand tag 0x30 fun c =>
    let kind := c.at 4 1
    let slot := c.at 5 1
    let life := s.lifeCycle
    if kind > 2 || slot > 3 || s.keyFlag kind slot || life == 3 || life == 4 || (kind == 2 && life == 2) then complete tag St.badEntry
    else if !s.canIssue (s.insFn c.ins) then complete tag St.dmaReadFault
    else seqs [askPieces c.ins [(c.at 8 8, (keyPlace kind slot).2)],
      otpStart tag (keyPlace kind slot).1 (readBytes memDefault s.host (c.at 8 8) (keyPlace kind slot).2)
        (2 ^ keyBit kind slot) (if kind < 2 then 2 ^ keyBit kind slot else 0)]) s

/-- KEY_SELECT (R483). -/
def execKeySelect (tag : Nat) (s : State) : Out :=
  finish (otpCommand tag 0x31 fun c =>
    let slot := c.at 5 1
    let above := match s.activeKey with
      | some k => decide (k < slot)
      | none => true
    if slot > 3 || !s.keyUsable 0 slot || !above || s.lifeCycle == 0 then complete tag St.badEntry s.keysWord
    else otpStart tag 0x010 (toBytes (2 ^ (9 + slot)) 4)) s

/-- KEY_REVOKE (R483): neither the active command key nor the last unrevoked image key. -/
def execKeyRevoke (tag : Nat) (s : State) : Out :=
  finish (otpCommand tag 0x32 fun c =>
    let kind := c.at 4 1
    let slot := c.at 5 1
    let left := (List.range 4).filter (s.keyUsable 1)
    if kind > 1 || slot > 3 || (kind == 0 && s.activeKey == some slot) || (kind == 1 && left == [slot]) then
      complete tag St.badEntry s.keysWord
    else otpStart tag 0x014 (toBytes (2 ^ keyBit kind slot) 4)) s

/-- SVN_ADVANCE (R484). -/
def execSvnAdvance (tag : Nat) (s : State) : Out :=
  finish (otpCommand tag 0x33 fun c =>
    let svn := c.at 8 2
    if svn > 256 || svn > s.fld Fld.SEC_SVN.LOADED then complete tag St.badEntry (s.word 0x2C018 0)
    else otpStart tag 0x018 (toBytes (2 ^ svn - 1) 32)) s

/-- OTP_PROGRAM_DONE (R482 to R484): what the readback of the operation's bytes shows is what the array then holds. A key slot's flag follows,
with its revocation bit when the readback differs. -/
def execOtpProgramDone (readback : List Byte) (s : State) : Out :=
  finish (match s.sec.otpOp with
    | none => .skip
    | some o =>
      let tag := o.tag.getD 0
      let n := o.bytes.length
      let old := s.otpRead o.addr n
      let want := List.zipWith (· ||| ·) old o.bytes
      let got := List.zipWith (· ||| ·) old (readback.take n ++ List.replicate (n - readback.length) 0)
      let same := got == want
      let op := ((s.cmd tag).map Cmd.opcode).getD 0
      seqs [
        modSec fun u => { u with otpOp := none }, .eff (.otp o.addr got),
        whenP (op == 0x30) (seqs [.eff (.otp 0x010 (toBytes o.flag 4)), whenP (!same) (.eff (.otp 0x014 (toBytes o.revoke 4)))]),
        refreshOtp,
        whenP (same && (op == 0x30 || op == 0x31 || op == 0x32)) (raise Fld.SEC_EVENT.KEY_CHANGED),
        whenP (op == 0x33 && decide (s.svnFloor < ((List.range 256).filter (bitAt (ofBytes got))).length)) (raise Fld.SEC_EVENT.SVN_ADVANCED),
        .read fun t =>
          let st := if same then St.success else St.badEntry
          if op = 0x30 then
            let kind := ((s.cmd tag).map fun c => c.at 4 1).getD 0
            let slot := ((s.cmd tag).map fun c => c.at 5 1).getD 0
            complete tag st (if same then t.fingerprint kind slot else 0)
          else if op = 0x33 then complete tag st (t.word 0x2C018 0)
          else complete tag st t.keysWord]) s

/-! ### Verifying a slot (R453, R455, R484, R485) -/

/-- The reasons of NVM_FAIL (Table 15-9). -/
def Reason.noFlash : Nat := 1
def Reason.sfdp : Nat := 2
def Reason.descriptor : Nat := 3
def Reason.header : Nat := 4
def Reason.signature : Nat := 5
def Reason.keyRevoked : Nat := 6
def Reason.svn : Nat := 7
def Reason.lifeCycle : Nat := 8
def Reason.hash : Nat := 9
def Reason.gcm : Nat := 10
def Reason.order : Nat := 11
def Reason.section_ : Nat := 12
def Reason.size : Nat := 13
def Reason.readTimeout : Nat := 14

/-- TYPE of a section. -/
def State.sectionType (s : State) (slot i : Nat) : Nat := fieldAt (s.section slot i) 0 1

/-- Whether the types of the table are non-decreasing, with exactly one RUN section last (R453). -/
def State.sectionsInOrder (s : State) (slot : Nat) : Bool :=
  let n := s.slotSections slot
  (List.range (n - 1)).all (fun i => s.sectionType slot i ≤ s.sectionType slot (i + 1) && s.sectionType slot i < 8) &&
    s.sectionType slot (n - 1) == 8

/-- Whether the slot's header, table and sections lie within IMAGE_SIZE, and that within the slot (Tables 15-4 and 15-5). -/
def State.sizesFit (s : State) (slot : Nat) : Bool :=
  let image := fieldAt (s.slotHeader slot) 16 4
  let n := s.slotSections slot
  decide (image ≤ ((s.slotRange slot).map (·.2)).getD 0) && decide (256 + 64 * n ≤ image) &&
    (List.range n).all fun i => decide (fieldAt (s.section slot i) 4 4 % 4 = 0) &&
      decide (fieldAt (s.section slot i) 4 4 + fieldAt (s.section slot i) 8 4 ≤ image)

/-- Why a slot does not verify, 0 if it does (R455, R484). -/
def State.slotReason (s : State) (slot : Nat) : Nat :=
  let h := s.slotHeader slot
  let n := s.slotSections slot
  let life := s.lifeCycle
  if !s.candidate slot || n = 0 || n > 256 then Reason.header
  else if life = 0 ∨ life = 4 then Reason.lifeCycle
  else if s.slotKey slot > 3 || !s.keyUsable 1 (s.slotKey slot) then Reason.keyRevoked
  else if !ecdsaVerifies (s.keyBytes 1 (s.slotKey slot)) (sha256 (h.take 192 ++ s.slotBytes slot 256 (64 * n)))
      ((h.drop 192).take 64) then Reason.signature
  else if (life = 2 ∨ life = 3) ∧ s.slotSvn slot < s.svnFloor then Reason.svn
  else if !s.sizesFit slot then Reason.size
  else if !s.sectionsInOrder slot then Reason.order
  else 0

/-- The stored bytes of a section. -/
def State.sectionStored (s : State) (slot i : Nat) : List Byte :=
  let e := s.section slot i
  s.slotBytes slot (fieldAt e 4 4) (fieldAt e 8 4)

/-- The plain content of a section, or the reason why it fails (R455, R485). -/
def State.sectionContent (s : State) (slot i : Nat) : Nat × List Byte :=
  let e := s.section slot i
  let stored := s.sectionStored slot i
  if sha256 stored != (e.drop 16).take 32 then (Reason.hash, [])
  else if !bitAt (fieldAt e 1 1) 0 then (0, stored)
  else if !s.keyUsable 2 0 then (Reason.gcm, [])
  else match gcmDecrypt (s.keyBytes 2 0) ((e.drop 48).take 12) (e.take 16) stored with
    | some p => (0, p)
    | none => (Reason.gcm, [])

/-- Whether a register-write list names only what R456 allows: the SEC_, ALM_ and NVM_ blocks fill BAR0 from 0x2C000 to the apertures. -/
def listOk : Nat → List Byte → Bool
  | 0, _ => true
  | n + 1, bs =>
    if bs.length < 8 then bs.isEmpty
    else
      let off := fieldAt bs 0 4
      let v := fieldAt bs 4 4
      (if off = 0xFFFFFFFC then decide (v ≤ 1000000) else decide (off < 0x2C000) && decide (off % 4 = 0)) &&
        listOk n (bs.drop 8)

/-- Why a section fails, 0 if it does not: its hash, its tag, or what its type allows (R455, R456, Table 15-6). -/
def State.sectionReason (s : State) (slot i : Nat) : Nat :=
  let r := s.sectionContent slot i
  let t := s.sectionType slot i
  if r.1 ≠ 0 then r.1
  else if t = 0 ∨ t > 8 then Reason.section_
  else if (t = 1 ∨ t = 8) ∧ !listOk (r.2.length / 8 + 1) r.2 then Reason.section_
  else 0

/-- Reading and checking a whole slot (R486): reason and section of the first failure. -/
def State.slotVerdict (s : State) (slot : Nat) : Nat × Nat :=
  let r := s.slotReason slot
  if r ≠ 0 then (r, 0)
  else match (List.range (s.slotSections slot)).find? fun i => s.sectionReason slot i != 0 with
    | some i => (s.sectionReason slot i, i)
    | none => (0, 0)

/-! ### Replacing an image (R486) -/

/-- Whether two byte ranges meet. -/
def bytesMeet (a n b m : Nat) : Bool := decide (max a b < min (a + n) (b + m))

/-- A flash operation starts. -/
def flashStart (tag addr : Nat) (bytes : List Byte) : Prog :=
  .read fun s => seqs [running tag,
    modSec fun u => { u with flashOp := some { tag := some tag, addr := addr, bytes := bytes, flag := s.chr.ns } },
    emit (.nvm "FLASH" [addr, bytes.length])]

/-- A command that uses the flash, once no other does. -/
def flashCommand (tag op : Nat) (k : Cmd → Prog) : Prog := .read fun s => whenP s.sec.flashOp.isNone (withCmd tag op k)

/-- FLASH_WRITE (R486): refused in the journal, in the almanac range and beyond the flash. -/
def execFlashWrite (tag : Nat) (s : State) : Out :=
  finish (flashCommand tag 0x34 fun c =>
    let off := c.at 8 4
    let len := c.at 12 4
    if off % 4096 ≠ 0 || bytesMeet off len 0x2000 0x2000 || bytesMeet off len s.almRange.1 s.almRange.2 ||
        decide (s.flashSize < off + len) then complete tag St.badEntry
    else if c.flag 1 && c.at 16 8 % 16 != 0 then complete tag St.badEntry
    else if !s.canIssue (s.insFn c.ins) then complete tag St.dmaReadFault
    else match s.pieces c (c.at 16 8) len with
      | none => complete tag St.badFragment
      | some l => seqs [keepTable c (c.at 16 8) l, askPieces c.ins l, flashStart tag off (s.readPieces l 0 len)]) s

/-- IMAGE_VERIFY (R486): the slot is read and checked, and nothing is applied. -/
def execImageVerify (tag : Nat) (s : State) : Out :=
  finish (flashCommand tag 0x35 fun c =>
    if c.at 4 1 > 1 then complete tag St.badEntry else flashStart tag 0 []) s

/-- A life-cycle change or zeroization that waits for a FLASH_WRITE follows it by 1 ms (Table 16-9). -/
def delayApply : Prog :=
  .read fun s => modSec fun u => { u with
    lifeAt := u.lifeAt.map fun e => (max e.1 (s.chr.ns + 1000000), e.2), zeroAt := u.zeroAt.map fun t => max t (s.chr.ns + 1000000) }

/-- FLASH_OPERATION_DONE (R486): the sectors are erased, programmed and compared, or the slot has been read. -/
def execFlashOperationDone (s : State) : Out :=
  finish (match s.sec.flashOp with
    | none => .skip
    | some o =>
      let tag := o.tag.getD 0
      seqs [
        modSec fun u => { u with flashOp := none },
        match s.cmd tag with
        | none => .skip
        | some c =>
          if c.opcode = 0x34 then seqs [
            .eff (.flash o.addr (List.replicate ((o.bytes.length + 4095) / 4096 * 4096) 0xFF)), .eff (.flash o.addr o.bytes),
            complete tag St.success o.bytes.length, delayApply]
          else
            let v := s.slotVerdict (c.at 4 1)
            complete tag (if v.1 = 0 then St.success else St.badEntry) v.1 (s.slotVersion (c.at 4 1))]) s

/-- IMAGE_ACTIVATE (R461, R486): the slot is verified again, chosen, and a WARM reset follows 1 ms later. -/
def execImageActivate (tag : Nat) (s : State) : Out :=
  finish (flashCommand tag 0x36 fun c =>
    let slot := c.at 4 1
    if slot > 1 || (s.slotVerdict slot).1 ≠ 0 then complete tag St.badEntry 0 (if slot > 1 then 0 else s.slotVersion slot)
    else seqs [
      put Fld.NVM_BOOT_SEL.SEL (slot + 1),
      modBoot fun b => { b with
        only := if s.fld Fld.NVM_STATUS.STATE = 4 then some slot else none, warmAt := some (s.chr.ns + 1000000) },
      complete tag St.success 0 (s.slotVersion slot)]) s

/-! ### Life cycle and zeroization -/

/-- Whether a life-cycle transition is permitted (Table 16-5). -/
def State.mayMove (s : State) (target : Nat) : Bool :=
  let life := s.lifeCycle
  (life == 0 && target == 1 && (List.range 4).any (s.keyPresent 1) && (List.range 4).any (s.keyPresent 0)) ||
    (decide (life ≤ 3) && target == 4) || (life == 1 && target == 2) || (life == 2 && target == 3)

/-- LIFE_CYCLE (R488, R489). -/
def execLifeCycle (tag : Nat) (s : State) : Out :=
  finish (withCmd tag 0x37 fun c =>
    let target := c.at 4 1
    if !s.mayMove target then complete tag St.badEntry s.lifeCycle target
    else seqs [modSec fun u => { u with lifeAt := some (s.chr.ns + 1000000, target) }, complete tag St.success s.lifeCycle target]) s

/-- ZEROIZE (R491). -/
def execZeroize (tag : Nat) (s : State) : Out :=
  finish (withCmd tag 0x38 fun _ =>
    seqs [modSec fun u => { u with zeroAt := some (s.chr.ns + 1000000) }, complete tag St.success]) s

/-- The steps of a life-cycle change that concern the OTP array (R488, R489). -/
def lifeProgram (target : Nat) : Prog :=
  .read fun s => seqs [
    whenP (target == 1) (match ((List.range 4).find? (s.keyUsable 0)).or ((List.range 4).find? (s.keyPresent 0)) with
      | some k => .eff (.otp 0x010 (toBytes (2 ^ (9 + k)) 4))
      | none => .skip),
    .eff (.otp 0x008 (toBytes (2 ^ (target - 1)) 4))]

/-- The destruction of keys that a state requires (R489): command and decryption keys in RETURNED and RETIRED, image keys in RETIRED. -/
def destroyKeys : Prog :=
  .read fun s =>
    let life := s.lifeCycle
    let kill (kind slot : Nat) : Prog := .eff (.otp (keyPlace kind slot).1 (List.replicate (keyPlace kind slot).2 0xFF))
    seqs [
      whenP (life == 3 || life == 4) (seqs [forP (List.range 4) (kill 0), kill 2 0]),
      whenP (life == 4) (forP (List.range 4) (kill 1))]

/-! ### Operations that a reset cuts short -/

/-- What the range of a flash operation holds after it is cut short is not stated. -/
def cutFlash : Prog :=
  .read fun s => match s.sec.flashOp with
    | some o => forP (List.range ((o.bytes.length + 4095) / 4096 * 4096)) fun i =>
        withFree 8 fun v => .eff (.flash (o.addr + i) [BitVec.ofNat 8 v])
    | none => .skip

/-- A reset cuts short what the Keeper writes: neither the range of a flash operation, nor the bits that an OTP operation was to set, nor the
journal record hold a stated value then. -/
def cutOperations : Prog :=
  .read fun s => seqs [
    cutFlash,
    (match s.sec.otpOp with
      | some o => forP (List.range o.bytes.length) fun i =>
          withFree 8 fun v => .eff (.otp (o.addr + i) [o.bytes.getD i 0 &&& BitVec.ofNat 8 v])
      | none => .skip),
    whenP s.sec.journal.isSome (forP (List.range 16) fun i =>
      withFree 8 fun v => .eff (.flash (s.sec.jrnOff + i) [BitVec.ofNat 8 v])),
    modSec fun u => { u with flashOp := none, otpOp := none, journal := none }, clear Fld.SEC_STATUS.JOURNAL_BUSY]

end Sys2Proof.Machine
end

