-- ==== Sys2Proof/Machine/Almanac.lean ====
section
/-! DEFINITION. Almanac, spares and wear (17): windows and measurements (R497), swaps (R499 to R502), permanent repair (R503 to R505), the
almanac record (R506, R507) and the almanac commands (R509). -/

namespace Sys2Proof.Machine

/-! ### Windows and measurements -/

/-- Nanoseconds of a window (R497). -/
def windowNs : Nat := 86400 * 10 ^ 9

/-- WEAR_WINDOW_START (R497): the chronometer shows a multiple of 86,400 s. -/
def execWearWindowStart (s : State) : Out :=
  let now := s.chron / windowNs
  finish (if now ≠ s.alm.windowAt then windowStart now
    else atNs (s.whenChron ((now + 1) * windowNs)) (windowStart (now + 1))) s

/-- A measurement, at start-up and then an hour after the last (R497). -/
def hourly (kind unit : Nat) (p : Prog) : Prog :=
  let key := almKey kind unit 0
  .read fun s => atNs (((s.alm.measured.lookup key).map (· + 3600 * 10 ^ 9)).getD 0) (seqs [p,
    .read fun t => modAlm fun a => { a with measured := (key, t.chr.ns) :: a.measured.filter fun e => e.1 != key }])

/-- AGE_MEASURE (R497): the ring-oscillator delay of a helm, or the loopback eye of a slice that serves no lane in UP, is measured. -/
def execAgeMeasure (kind unit value : Nat) (s : State) : Out :=
  finish (
    if kind = Kind.helm then whenP (unit < 18) (hourly kind unit (seqs [
      modAlmRec kind unit 0 fun r => { r with age := min 65535 value }, monitor 1 kind unit 0]))
    else whenP (kind == Kind.slice && unit < 21 && ((s.laneOfSlice unit).map fun n => s.lstate n != Ls.up).getD true) (hourly kind unit (seqs [
      modAlmRec kind unit 0 fun r => { r with eyeFirst := some (r.eyeFirst.getD (min 255 value)), eyeLast := min 255 value },
      monitor 3 kind unit 0]))) s

/-! ### Swaps -/

/-- The number of the spare unit, or of the spare row, that a swap brings in (Table 17-4). -/
def AlmSwap.new (w : AlmSwap) : Nat :=
  if w.kind = Kind.helm then 16 + w.spare else if w.kind = Kind.channel then 64 + w.spare
  else if w.kind = Kind.slice then 19 + w.spare else w.spare

/-- SPARE of a unit that `spareFor` names. -/
def spareIndex (kind new : Nat) : Nat :=
  if kind = Kind.helm then new - 16 else if kind = Kind.channel then new - 64 else if kind = Kind.slice then new - 19 else new

/-- The detail word of SPARE_SWAPPED (Table 17-5). -/
def AlmSwap.detail (w : AlmSwap) (burned reload : Bool) : Nat :=
  w.kind * 2 ^ 29 + (if burned then 2 ^ 28 else 0) + (if reload then 2 ^ 27 else 0) + w.unit * 2 ^ 16 + w.new * 2 ^ 8 + w.logical

/-- A record falls due within 100 ms of a swap (R507): writing starts at once, or after the one being written. -/
def saveSoon : Prog :=
  .read fun s => if s.alm.saving.isSome then modAlm fun a => { a with saveDue := true } else saveRecord none

/-- A swap is complete: the old unit is retired, the swap awaits burning, and it is told (R504, R507, R508). -/
def swapped (w : AlmSwap) (reload : Bool) (owner : Nat) : Prog :=
  .read fun s =>
    let detail := w.detail false reload
    let key := almKey w.kind w.unit w.row
    seqs [
      modAlmRec w.kind w.unit w.row fun r => { r with pending := false, now := false, fromOn := false, retired := true },
      modAlm fun a => { a with
        busy := a.busy.filter fun x => almKey x.kind x.unit x.row != key
        unburned := a.unburned ++ [w], last := ((detail, s.chron) :: a.last).take 64
        waiting := a.waiting.filter fun e => e.1 != key },
      put Fld.ALM_LAST.DETAIL detail, raise Fld.ALM_EVENT.SWAPPED, whenP (w.kind == Kind.row) (raise Fld.ALM_EVENT.ROW_REPAIRED),
      postEvent 0 Ev.spareSwapped detail,
      whenP (w.kind == Kind.channel && owner != 0) (postEvent owner Ev.spareSwapped detail),
      forP (s.alm.waiting.filter fun e => e.1 == key) fun e => complete e.2 St.success detail,
      refreshAlm, checkSpares, saveSoon]

/-- A swap goes under way. -/
def swapBegin (w : AlmSwap) : Prog := seqs [modAlm fun a => { a with busy := a.busy ++ [w] }, refreshAlm]

/-- A spare channel takes over (R495, Table 17-1): configuration, PASID, window, CHAIN_LIMIT and HEAD are carried, and with an ON
channel its state. -/
def channelTakes (old new : Nat) : Prog :=
  .read fun s =>
    let carry (f : Field) : Prog := putN f new (s.fld f old)
    seqs [
      forP ((fieldsIn 0x11004 0x11040).filter (·.acc == .rw)) carry,
      putN Fld.DMA_CH_STATUS.LOGICAL new (s.fld Fld.DMA_CH_STATUS.LOGICAL old),
      putN Fld.DMA_CH_STATUS.FUNC_STATE new (s.chanState old), putN Fld.DMA_CH_CTRL.ENABLE new (s.fld Fld.DMA_CH_CTRL.ENABLE old),
      putN Fld.DMA_CH_STATUS.LOGICAL old 126, putN Fld.DMA_CH_STATUS.FUNC_STATE old Fn.off, clear Fld.DMA_CH_CTRL.ENABLE old]

/-- A lane goes to a spare slice (R97). -/
def sliceTakes (lane new : Nat) : Prog :=
  .read fun s => seqs [
    putN Fld.LNK_CDR_MAP.SLICE lane new, raise Fld.LNK_EVENT.CDR_SWAPPED lane, 
    whenP (s.lstate lane == Ls.up) (seqs [enterRetrain lane, modLane lane fun l => { l with swapped := true }])]

/-- A pending unit with a spare is swapped if its quiesce point is reached, or is brought there when it is swapped at once (R499,
Table 17-3). -/
def swapNow (kind unit row spare : Nat) : Prog :=
  .read fun s =>
    let r := s.almRec kind unit row
    let cfg : Bool := if kind = Kind.helm then s.bit Fld.ALM_CFG.HELM_NOW else if kind = Kind.channel then s.bit Fld.ALM_CFG.CH_NOW
      else s.bit Fld.ALM_CFG.CDR_NOW
    let atOnce := r.now || cfg
    let w : AlmSwap := {
      kind := kind, unit := unit, row := row, spare := spareIndex kind spare, logical := (s.unitLogical kind unit row).getD 0, since := s.chr.ns }
    if kind = Kind.helm then
      if !s.domGood (helmDomain spare) then domainUp (helmDomain spare) true
      else if s.helmState unit = Fn.off || s.helmState unit = Fn.error then swapBegin w
      else whenP (atOnce && s.helmState unit == Fn.on) (seqs [
        modAlmRec kind unit row fun r => { r with fromOn := true }, hlmDisable unit,
        .read fun t => whenP (t.helmState unit == Fn.off) (swapBegin w)])
    else if kind = Kind.channel then seqs [
      whenP (atOnce && s.chanRuns unit) (chAbort unit),
      .read fun t => whenP (!t.chanRuns unit && (t.chanState unit == Fn.off || t.chanState unit == Fn.on || atOnce)) (seqs [
        swapBegin w, channelTakes unit spare, swapped w false (s.chanOwner unit)])]
    else if kind = Kind.slice then
      whenP (atOnce || s.lstate w.logical != Ls.up) (seqs [swapBegin w, sliceTakes w.logical spare, swapped w false 0])
    else swapBegin w

/-- SWAP_AT_QUIESCE (R97, R499, R502): a pending unit of Table 17-1. -/
def execSwapAtQuiesce (kind unit row : Nat) (s : State) : Out :=
  finish (whenP (unitExists kind unit row && (s.almRec kind unit row).pending && s.unitInUse kind unit row &&
      !s.alm.busy.any fun w => almKey w.kind w.unit w.row == almKey kind unit row)
    (match s.spareFor kind unit with
      | none => checkSpares
      | some n => swapNow kind unit row n)) s

/-- HELM_SWAP_DONE (R500): the copy of a helm's memories ends, all but the save area; the spare takes the logical number. `reload` is
whether a word with an uncorrectable error was among them. -/
def execHelmSwapDone (h : Nat) (reload : Bool) (s : State) : Out :=
  finish (match s.alm.busy.find? fun w => w.kind == Kind.helm && w.unit == h with
    | none => .skip
    | some w =>
      let n := w.new
      let enable := s.bit Fld.HLM_STATUS.PENDING_ENABLE h || (s.almRec Kind.helm h 0).fromOn
      seqs [
        tcmPut n 0 (s.tcmRead h 0 0x10000), tcmPut n 0x10000000 (s.tcmRead h 0x10000000 0xFC00),
        putN Fld.HLM_RESET_VEC.VECTOR n (s.fld Fld.HLM_RESET_VEC.VECTOR h),
        putN Fld.HLM_STATUS.LOGICAL n w.logical, putN Fld.HLM_STATUS.LOGICAL h 30, clear Fld.HLM_STATUS.PENDING_ENABLE h,
        swapped w reload 0,
        whenP enable (seqs [raise Fld.HLM_CTRL.ENABLE n, .read fun t => helmEnabling n t.now12])]) s

/-- ROW_REPAIR_DONE (R501): the row is mapped onto its spare. -/
def execRowRepairDone (array row : Nat) (s : State) : Out :=
  finish (match s.alm.busy.find? fun w => w.kind == Kind.row && w.unit == array && w.row == row with
    | none => .skip
    | some w => swapped w false 0) s

/-! ### Permanent repair -/

/-- A repair entry (Table 17-4). -/
def AlmSwap.entry (w : AlmSwap) : List Byte :=
  let b := toBytes (w.kind + w.unit * 16 + w.row * 4096 + w.spare * 2 ^ 20) 6
  b ++ toBytes (crc16 b) 2

/-- The valid entries of the repair area, in order of offset (R503). -/
def State.otpRepairs (s : State) : List AlmSwap :=
  (List.range 384).filterMap fun k =>
    let b := s.otpRead (0x400 + 8 * k) 8
    let v := fieldAt b 0 6
    if b.all (· == 0) || fieldAt b 6 2 != crc16 (b.take 6) then none
    else some { kind := bitsAt v 0 4, unit := bitsAt v 4 8, row := bitsAt v 12 8, spare := bitsAt v 20 2 }

/-- The burn under way ends. -/
def burnEnd (status : Nat) : Prog :=
  .read fun s => seqs [
    modAlm fun a => { a with burnTag := none, burnLeft := 0, burned := 0 },
    match s.alm.burnTag with
    | some t => complete t status s.alm.burned s.otpBlank.length
    | none => .skip]

/-- REPAIR_BURN (R504): the Keeper programs the oldest unburned swap into the next blank entry and reads it back. -/
def execRepairBurn (readback : List Byte) (s : State) : Out :=
  let wanted := s.bit Fld.ALM_CFG.AUTO_BURN || s.alm.burnTag.isSome
  finish (match s.alm.unburned with
    | [] => .skip
    | w :: rest => whenP (wanted && s.sec.otpOp.isNone && s.lifeCycle != 4) (match s.otpBlank with
      | [] => seqs [raise Fld.ALM_STATUS.OTP_FULL, burnEnd St.noSlots]
      | k :: _ =>
        let got := readback.take 8 ++ List.replicate (8 - readback.length) 0
        let same := got == w.entry
        seqs [
          .eff (.otp (0x400 + 8 * k) got),
          if same then seqs [
            modAlm fun a => { a with
              unburned := rest, burned := a.burned + 1, burnLeft := a.burnLeft - 1 },
            whenP (s.fld Fld.ALM_LAST.DETAIL / 2 ^ 29 == w.kind && bitsAt (s.fld Fld.ALM_LAST.DETAIL) 8 16 == w.unit * 256 + w.new &&
              !bitAt (s.fld Fld.ALM_LAST.DETAIL) 28) (put Fld.ALM_LAST.DETAIL (s.fld Fld.ALM_LAST.DETAIL + 2 ^ 28))]
          else raise Fld.ALM_EVENT.OTP_FAULT,
          refreshAlm,
          .read fun t => seqs [
            whenP t.otpBlank.isEmpty (raise Fld.ALM_STATUS.OTP_FULL),
            whenP (t.alm.burnTag.isSome) (
              if t.alm.burnLeft = 0 then burnEnd St.success else whenP t.otpBlank.isEmpty (burnEnd St.noSlots))]])) s

/-- ALM_BURN (R509): burns the swaps that are unburned now. -/
def execAlmBurn (tag : Nat) (s : State) : Out :=
  finish (whenP s.alm.burnTag.isNone (withCmd tag 0x59 fun _ =>
    let n := s.alm.unburned.length
    if s.lifeCycle = 4 then complete tag St.unsupported 0 s.otpBlank.length
    else if s.otpBlank.isEmpty then complete tag St.noSlots
    else if n = 0 then complete tag St.success 0 s.otpBlank.length
    else seqs [running tag, modAlm fun a => { a with burnTag := some tag, burnLeft := n, burned := 0 }])) s

/-- A repair is applied: the unit's logical number at the moment passes to the spare (R505). -/
def applyRepair (w : AlmSwap) : Prog :=
  .read fun s => whenP (unitExists w.kind w.unit w.row) (seqs [
    modAlmRec w.kind w.unit w.row fun r => { r with retired := true },
    if w.kind = Kind.helm then seqs [
      putN Fld.HLM_STATUS.LOGICAL w.new (s.fld Fld.HLM_STATUS.LOGICAL w.unit), putN Fld.HLM_STATUS.LOGICAL w.unit 30]
    else if w.kind = Kind.channel then seqs [
      putN Fld.DMA_CH_STATUS.LOGICAL w.new (s.fld Fld.DMA_CH_STATUS.LOGICAL w.unit), putN Fld.DMA_CH_STATUS.LOGICAL w.unit 126]
    else if w.kind = Kind.slice then match s.laneOfSlice w.unit with
      | some n => putN Fld.LNK_CDR_MAP.SLICE n w.new
      | none => .skip
    else .skip])

/-- What every boot applies before the first section (R505, R506): the newest record's values, the OTP entries in offset order, the
unburned repairs of the record, in the area that the boot descriptor names. A flash that does not answer gives no record (R461). -/
def bootRepairs (answers : Bool) : Prog :=
  .read fun s =>
    let r := if answers && s.bootDescriptor.isSome then s.alm.records.find? fun e => e.area == s.almRange.1 else none
    seqs [
      modAlm fun a => { a with
        units := (r.map (·.units)).getD [], unburned := (r.map (·.unburned)).getD [], last := (r.map (·.last)).getD []
        saveAt := s.ms, windowAt := s.chron / windowNs },
      put Fld.ALM_STATUS.NO_RECORD (if r.isNone then 1 else 0), put Fld.ALM_SEQ.SEQ ((r.map (·.seq)).getD 0),
      forP s.otpRepairs applyRepair, forP ((r.map (·.unburned)).getD []) applyRepair,
      put Fld.ALM_STATUS.OTP_FULL (if s.otpBlank.isEmpty then 1 else 0), refreshAlm]

/-! ### The record -/

/-- ALMANAC_SAVE_TIMER (R507): every SAVE_MIN minutes; 0 acts as 1. -/
def execAlmanacSaveTimer (s : State) : Out :=
  finish (atNs ((s.alm.saveAt + 60000 * max 1 (s.fld Fld.ALM_CFG.SAVE_MIN)) * 1000000) (saveRecord none)) s

/-- A record write ends; another starts if a swap came meanwhile. -/
def recordEnd (status : Nat) : Prog :=
  .read fun s => seqs [
    modAlm fun a => { a with saving := none, saveDue := false }, clear Fld.ALM_STATUS.SAVING,
    forP (s.alm.saving.getD []) fun t => complete t status (s.fld Fld.ALM_SEQ.SEQ),
    whenP s.alm.saveDue (saveRecord none)]

/-- RECORD_WRITE_DONE (R507): the record is the newest, or the write has failed and the previous one stays valid. -/
def execRecordWriteDone (ok : Bool) (s : State) : Out :=
  finish (whenP s.alm.saving.isSome (if ok && s.bootDescriptor.isSome then
      let seq := (s.fld Fld.ALM_SEQ.SEQ + 1) % 2 ^ 32
      seqs [
        modAlm fun a => { a with
          records := ({ area := s.almRange.1, seq := seq, units := a.units, unburned := a.unburned.take 256, last := a.last } :: a.records).take 2 },
        put Fld.ALM_SEQ.SEQ seq, clear Fld.ALM_STATUS.NO_RECORD, recordEnd St.success]
    else seqs [raise Fld.ALM_EVENT.SAVE_FAULT, recordEnd St.timeout])) s

/-- FLASH_BUSY_TIMEOUT (R492, R509): the flash has been busy for 5 s. The flash operation under way ends, and what its range then holds is not
stated; or the record write ends. -/
def execFlashBusyTimeout (s : State) : Out :=
  finish (match s.sec.flashOp with
    | some o => atNs (o.flag + 5000000000) (seqs [
        cutFlash, modSec fun u => { u with flashOp := none },
        complete (o.tag.getD 0) St.timeout])
    | none => whenP s.alm.saving.isSome (atNs (s.alm.saveAt * 1000000 + 5000000000)
        (seqs [raise Fld.ALM_EVENT.SAVE_FAULT, recordEnd St.timeout]))) s

/-! ### Registers and commands -/

/-- ALM_UNIT of a unit (Table 17-10). -/
def State.almUnitWord (s : State) (kind unit row : Nat) : Nat :=
  let r := s.almRec kind unit row
  let l := s.unitLogical kind unit row
  (if r.pending then 2 ^ 31 else 0) + (if r.retired then 2 ^ 30 else 0) + (if l.isSome then 2 ^ 29 else 0) +
    l.getD 0xFF * 2 ^ 16 + min 65535 r.window

/-- ALM_MON of a unit (Table 17-10). -/
def State.almMonWord (s : State) (kind unit row : Nat) : Nat :=
  let r := s.almRec kind unit row
  (if kind = Kind.helm then r.age * 2 ^ 16 else 0) + (if kind = Kind.slice then r.eyeFirst.getD 0 * 256 + r.eyeLast else 0)

/-- ALM_SWAP (R509): completes at the swap. -/
def execAlmSwap (tag : Nat) (s : State) : Out :=
  finish (withCmd tag 0x58 fun c =>
    let kind := c.at 4 1
    let unit := c.at 5 1
    if kind = 0 ∨ 3 < kind ∨ c.at 6 1 > 1 ∨ !unitExists kind unit 0 ∨ !s.unitInUse kind unit 0 then complete tag St.badEntry
    else if (s.spareFor kind unit).isNone && !(s.alm.busy.any fun w => w.kind == kind && w.unit == unit) then complete tag St.noSlots
    else seqs [
      running tag, modAlm fun a => { a with waiting := a.waiting ++ [(almKey kind unit 0, tag)] },
      markPending kind unit 0 (c.at 6 1 == 1)]) s

/-- ALM_READ (R509): ALM_UNIT, ALM_MON and the lifetime count go to DATA. -/
def execAlmRead (tag : Nat) (s : State) : Out :=
  finish (withCmd tag 0x5A fun c =>
    let kind := c.at 4 1
    let unit := c.at 5 1
    let row := if kind = Kind.row then s.fld Fld.ALM_INDEX.ROW else 0
    if !unitExists kind unit row then complete tag St.badEntry
    else writeData tag c (c.at 8 8) (toBytes (s.almUnitWord kind unit row) 4 ++ toBytes (s.almMonWord kind unit row) 4 ++
      toBytes (s.almRec kind unit row).life 8) 0 0) s

/-- ALM_SAVE (R507, R509). -/
def execAlmSave (tag : Nat) (s : State) : Out :=
  finish (withCmd tag 0x5B fun _ => seqs [running tag, saveRecord (some tag)]) s

end Sys2Proof.Machine
end

