-- ==== Sys2Proof/Machine/Pair.lean ====
section
/-! DEFINITION. The redundant pair (14): switching and electing (R433, R435), claims and swaps (R440, R441), the mirror (R427 to R432, R436),
takeover (R437 to R439) and what the pair logic does at a meridian. -/

namespace Sys2Proof.Machine

/-! ### Switching -/

/-- PAIR_CTRL.ENABLE = 0 (R435, R442): a hand-over under way fails, MIRROR is disabled. -/
def pairDisable : Prog :=
  .read fun s =>
    let fn := s.fld Fld.PAIR_STATUS.FUNC_STATE
    seqs [
      clear Fld.PAIR_CTRL.ENABLE,
      whenP (s.bit Fld.PAIR_STATUS.PENDING_ENABLE) (seqs [clear Fld.PAIR_STATUS.PENDING_ENABLE, pairComplete 0 St.badEntry]),
      whenP (fn != Fn.off && fn != Fn.disabling) (seqs [
        put Fld.PAIR_STATUS.FUNC_STATE Fn.disabling, pairStops, laneDisable 18,
        .read fun t => whenP (t.fld Fld.LNK_STATUS.FUNC_STATE 18 == Fn.off) pairDisabled])]

/-- PAIR_CTRL.ENABLE = 1 (R87, R435). -/
def pairEnable : Prog :=
  .read fun s =>
    let fn := s.fld Fld.PAIR_STATUS.FUNC_STATE
    if fn = Fn.off then pairEnabling
    else whenP (fn == Fn.disabling) (seqs [raise Fld.PAIR_CTRL.ENABLE, raise Fld.PAIR_STATUS.PENDING_ENABLE])

/-- PAIR_CTRL_ENABLE (R435). -/
def pairCtrl (v : Bool) : Prog :=
  if v then pairEnable else pairDisable
/-- PAIR_CTRL_ENABLE (R435). -/
def execPairCtrlEnable (v : Bool) (s : State) : Out := finish (pairCtrl v) s

/-- A PAIR_ROLE command (Table 14-7); another ACTION is refused. -/
def pairRole (tag action : Nat) (p : Prog) : Prog :=
  withCmd tag 0x50 fun c =>
    if 2 < c.at 4 1 then .read fun s => complete tag St.badEntry (s.word 0x28008 0) (s.word 0x28020 0)
    else whenP (c.at 4 1 == action) p

/-- Complete a PAIR_ROLE command (Table 14-7). -/
def pairAnswer (tag status : Nat) : Prog := .read fun s => complete tag status (s.word 0x28008 0) (s.word 0x28020 0)

/-- PAIR_ROLE ENABLE (R435): completes on leaving ELECT. -/
def execPairRoleEnable (tag : Nat) (s : State) : Out :=
  finish (pairRole tag 0 (
    if s.fld Fld.PAIR_STATUS.FUNC_STATE = Fn.on ∧ s.roleState ≠ Role.elect then pairAnswer tag St.success
    else seqs [running tag 0, pairEnable])) s

/-- PAIR_ROLE DISABLE (R435): completes at OFF. -/
def execPairRoleDisable (tag : Nat) (s : State) : Out :=
  finish (pairRole tag 1 (
    if s.fld Fld.PAIR_STATUS.FUNC_STATE = Fn.off then pairAnswer tag St.success
    else seqs [running tag 1, pairDisable])) s

/-! ### Hand-over -/

/-- The hand-over tick (R440): the first whose meridian is at least 2 ticks and 10 us later. -/
def State.handoverTick (s : State) : Nat :=
  let len := 32 * s.fld Fld.CHT_TICK_LEN.ACTIVE_N
  let least := s.chr.ns + 2 * len + 10000
  s.tick + 1 + (least - s.chr.dueNs + len - 1) / len

/-- The primary accepts a hand-over to a partner in STANDBY (R440). -/
def acceptSwap : Prog :=
  .read fun s => whenP (s.roleState == Role.primary && s.bit Fld.CHT_STATUS.RUNNING && s.portUp 18 && s.pair.handTick == none)
    (modPair fun u => { u with handTick := some s.handoverTick })

/-- PAIR_ROLE SWAP (R440). -/
def execPairRoleSwap (tag : Nat) (s : State) : Out :=
  finish (pairRole tag 2 (
    if s.roleState ≠ Role.primary ∧ s.roleState ≠ Role.standby then pairAnswer tag St.notQuiesced
    else seqs [
      running tag 2, sendClaim 2, modPair fun u => { u with swapSent := true, swapAt := s.chr.ns },
      whenP s.pair.copied acceptSwap])) s

/-- HANDOVER_TIMEOUT (R444): no hand-over within 10 ms. -/
def execHandoverTimeout (s : State) : Out :=
  finish (whenP (!(s.waiting 0x50 2).isEmpty) (atNs (s.pair.swapAt + 10000000) (seqs [
    put Fld.PAIR_STATUS.LAST St.timeout, modPair fun u => { u with swapSent := false, handTick := none }, pairComplete 2 St.timeout]))) s

/-- A SWAP of the partner arrives (R440, R441): crossed ones leave the lower identity primary. -/
def takeSwap (peer : Nat) : Prog :=
  .read fun s =>
    if !s.pair.swapSent then acceptSwap
    else if s.pairId < peer then whenP (s.roleState == Role.primary) (seqs [
      modPair fun u => { u with swapSent := false, handTick := none }, put Fld.PAIR_STATUS.LAST St.success, pairComplete 2 St.success])
    else seqs [
      raise Fld.PAIR_EVENT.COLLIDED, put Fld.PAIR_STATUS.LAST St.collided, modPair fun u => { u with swapSent := false },
      pairComplete 2 St.collided, acceptSwap]

/-! ### Claims -/

/-- MCLAIM_RECEIVE (R427, R433, R435, R436, R440): the payloads of a claim pair's two blocks, and whether they are consecutive. A pair that is not, or fails its CRC,
is discarded. -/
def execMclaimReceive (a b : Nat) (consecutive : Bool) (s : State) : Out :=
  finish (match claimFields a b with
    | none => .skip
    | some (peer, kind) => whenP (consecutive && s.fld Fld.PAIR_STATUS.FUNC_STATE == Fn.on && s.portUp 18) (seqs [
    put Fld.PAIR_PEER_ID_LO.ID_LO peer, put Fld.PAIR_PEER_ID_HI.ID_HI (peer / 2 ^ 32),
    if s.roleState = Role.elect then
      (if kind = 1 then enterSyncing Why.elected
       else whenP (kind == 0) (seqs [modPair fun u => { u with peerClaimed := true },
         if peer = s.pairId then raise Fld.PAIR_EVENT.ID_CLASH else whenP s.pair.claimed (resolveClaims peer)]))
    else if s.roleState = Role.primary then
      (if kind = 0 then sendClaim 1
       else if kind = 3 then modPair fun u => { u with copyNext := some 0, copied := false }
       else whenP (kind == 2) (takeSwap peer))
    else whenP (s.roleState == Role.standby && kind == 2 && s.pair.swapSent && decide (peer < s.pairId)) (takeSwap peer)])) s

/-- CLAIM_SEND_TIMER (R435): a CLAIM every 100 us in ELECT. -/
def execClaimSendTimer (s : State) : Out :=
  finish (whenP (s.roleState == Role.elect) (atNs (s.pair.claimAt + 100000) (seqs [
    sendClaim 0, modPair fun u => { u with claimAt := s.pair.claimAt + 100000, claimed := u.claimed || s.portUp 18 },
    whenP (s.pair.peerClaimed && s.portUp 18)
      (resolveClaims (s.fld Fld.PAIR_PEER_ID_HI.ID_HI * 2 ^ 32 + s.fld Fld.PAIR_PEER_ID_LO.ID_LO))]))) s

/-- ELECT_TIMEOUT (R435): no claim has come and ROLE_IN is not alive. -/
def execElectTimeout (s : State) : Out :=
  finish (whenP (s.roleState == Role.elect && !s.pair.peerClaimed && !s.bit Fld.PAIR_STATUS.ROLE_IN_ALIVE)
    (atNs (s.pair.electAt + max 1 (s.fld Fld.PAIR_CFG.ELECT_MS) * 1000000) electPrimary)) s

/-- ROLE_IN_EDGE (R434, R435): an edge on ROLE_IN at a steady instant in ns. It shows the partner alive in a tick between M - 32 ns and M + 48 ns;
while no tick runs, any edge does. -/
def execRoleInEdge (t : Nat) (s : State) : Out :=
  finish (seqs [advanceTo t, .read fun s =>
    let alive := !s.bit Fld.CHT_STATUS.RUNNING || decide (s.chr.ns ≤ s.chr.meridNs + 48) || decide (s.chr.dueNs ≤ s.chr.ns + 32)
    seqs [
      modPair fun u => { u with edgeAt := some s.chr.ns, aliveAt := if alive then s.chr.ns else u.aliveAt },
      whenP alive (raise Fld.PAIR_STATUS.ROLE_IN_ALIVE),
      whenP (alive && s.roleState == Role.elect) (enterSyncing Why.elected)]]) s

/-- ORPHAN_TIMEOUT (Table 14-3): ROLE_IN has not been alive for ORPHAN_MS. -/
def execOrphanTimeout (s : State) : Out :=
  finish (whenP (s.roleState == Role.mirrorLost)
    (atNs (s.pair.aliveAt + max 1 (s.fld Fld.PAIR_CFG.ORPHAN_MS) * 1000000) (enterElect Why.mirrorLost))) s

/-- MIRROR_DOWN_TIMEOUT (Table 14-3): MIRROR has not been UP for 10 ms. -/
def execMirrorDownTimeout (s : State) : Out :=
  finish (match s.pair.downAt with
    | some t => whenP (s.roleState == Role.syncing) (atNs (t + 10000000) (enterElect Why.mirrorLost))
    | none => .skip) s

/-! ### Beacons -/

/-- A standby lacks records (R432). -/
def desync : Prog := seqs [raise Fld.PAIR_EVENT.DESYNC, enterSyncing Why.desync]

/-- The controller's meridian of a tick is taken from the primary (R430). -/
def followMeridian (tick ns : Nat) : Prog :=
  modChr fun c => { c with tick := tick, meridNs := ns, dueNs := ns + 32 * c.tickSlots, started := true }

/-- The tick number whose low bits are those given, nearest to the controller's own. -/
def State.wholeTick (s : State) (low w : Nat) : Nat :=
  let d := (low + 2 ^ w - s.tick % 2 ^ w) % 2 ^ w
  if d < 2 ^ (w - 1) then s.tick + d else s.tick + d - 2 ^ w

/-- dn of the MIRROR link (R430), in 2^-16 ns. -/
def State.mirrorDn (s : State) : Int := (LinkFix.delays ((s.fixOf 18).filtered.getD 0) 0).1

/-- MBEACON_RECEIVE (R427, R430, R442, Table 14-3): the payload of a beacon's block, and the instant at which it begins to arrive in 2^-16 ns since reset. One that comes
once the watchdog is armed is ignored. -/
def execMbeaconReceive (word arrival : Nat) (s : State) : Out :=
  let tick := bitsAt word 8 32
  let stop := bitAt word 40
  let handover := bitAt word 41
  finish (whenP (s.standby && s.portUp 18 && !s.pair.armed && mbeaconGood word) (atFine arrival (.read fun s =>
    let k := s.wholeTick tick 32
    let ns := (((arrival : Int) - s.mirrorDn + 32768) / 65536).toNat
    let gap : Bool := match s.pair.beacon with
      | some b => tick != (b + 1) % 2 ^ 32
      | none => false
    seqs [
      modPair fun u => { u with beacon := some tick },
      if s.roleState = Role.mirrorLost then enterSyncing Why.mirrorLost
      else if s.roleState = Role.paused then
        whenP (!stop) (if gap then desync else seqs [
          setRole Role.standby Why.stopped, raise Fld.CHT_STATUS.RUNNING, followMeridian k ns])
      else if s.roleState = Role.standby then
        (if stop then seqs [setRole Role.paused Why.stopped, stopTicks]
         else if gap ∨ k ≠ s.tick then desync
         else seqs [followMeridian k ns, whenP handover (modPair fun u => { u with handTick := some (k + 1) })])
      else whenP (s.pair.timeSet && !stop) (followMeridian k ns)]))) s

/-! ### Mirror frames -/

/-- The bytes of a record (R428). -/
def MirrorRec.bytes (r : MirrorRec) : List Byte :=
  let n := r.data.length
  toBytes (r.rtype % 16 + r.index % 2 ^ 14 * 16 + n % 2 ^ 11 * 2 ^ 18) 4 ++ r.data ++ List.replicate ((4 - n % 4) % 4) 0

/-- The records that go into one frame, in order, up to a room in bytes; a first record too long for any frame goes alone. -/
def frameFill (room : Nat) (alone : Bool) : List MirrorRec → List MirrorRec × List MirrorRec
  | [] => ([], [])
  | r :: t =>
    if r.bytes.length ≤ room then
      let p := frameFill (room - r.bytes.length) false t
      (r :: p.1, p.2)
    else if alone then ([r], t) else ([], r :: t)

/-- The records a frame's payload holds (R428). -/
def mirrorParse : Nat → List Byte → List MirrorRec
  | 0, _ => []
  | _, [] => []
  | n + 1, b :: t =>
    let bs := b :: t
    let w := ofBytes (bs.take 4)
    let len := bitsAt w 18 11
    ⟨w % 16, bitsAt w 4 14, (bs.drop 4).take len⟩ :: mirrorParse n (bs.drop (4 + (len + 3) / 4 * 4))

/-- The safe values of a bank as the copy image holds them: those of its outbound legs in index order, PAYLOAD bytes each. DESIGN
CHOICE (notes/assumptions/62). -/
def safeLegs (bank : List (Nat × ChartEntry)) : List (Nat × ChartEntry) := (legsOf bank).filter fun e => !e.2.inbound

/-- The copy image (R436). -/
def State.copyImage (s : State) : List Byte :=
  ((List.range 16384).flatMap fun i => (s.entry i).bytes) ++
    ((safeLegs (s.bank s.activeIdx)).flatMap fun e => safeValue (s.safes s.activeIdx) e.1 e.2.payload) ++
    ((List.range 4096).flatMap fun a => (s.node a).bytes) ++
    ((List.range 4096).flatMap fun a => (s.bearing a).bytes (s.age (s.bearing a)))

/-- A frame leaves (R428). -/
def sendFrame (rs : List MirrorRec) : Prog :=
  let bs := rs.flatMap MirrorRec.bytes
  .read fun s => seqs [
    emit (.mirror (mirrorFrame s.tick s.pair.frames bs)),
    modPair fun u => { u with frames := u.frames + 1, bytes := u.bytes + bs.length }]

/-- MIRROR_FRAME_SEND (R428, R429, R436): the primary sends waiting records at a slot boundary, or a chunk of the copy in a slot they leave free. -/
def execMirrorFrameSend (slot : Nat) (s : State) : Out :=
  let f := frameFill 1024 true s.pair.waiting
  finish (whenP (s.mirrors && s.portUp 18 && s.bit Fld.CHT_STATUS.RUNNING && 1 ≤ slot && slot < s.fld Fld.CHT_TICK_LEN.ACTIVE_N)
    (atNs (s.chr.meridNs + 32 * slot) (
      if !f.1.isEmpty then seqs [modPair fun u => { u with waiting := f.2 }, sendFrame f.1]
      else match s.pair.copyNext with
        | none => .skip
        | some k =>
          let image := s.copyImage
          let chunk := (image.drop (1024 * k)).take 1024
          let last := decide (image.length ≤ 1024 * (k + 1))
          seqs [
            sendFrame [⟨8, k, chunk ++ List.replicate (1024 - chunk.length) 0⟩],
            put Fld.PAIR_STATUS.COPY_PCT (min 100 (102400 * (k + 1) / image.length)),
            modPair fun u => { u with copyNext := if last then none else some (k + 1), copied := last }]))) s

/-! ### What a standby takes -/

/-- A field of a record's data. -/
def MirrorRec.field (r : MirrorRec) (off len : Nat) : Nat := ofBytes ((r.data.drop off).take len)

/-- A node-table entry from its four words, with its state. -/
def NodeEntry.ofMirror (b : List Byte) : NodeEntry :=
  let w (i : Nat) := ofBytes ((b.drop (4 * i)).take 4)
  { NodeEntry.ofWords (w 0) (w 1) (w 2) (w 3) with
    state := match w 3 % 16 with
      | 1 => .absent | 2 => .enumerating | 3 => .addressed | 4 => .active | 5 => .suspect | 6 => .quarantine | _ => .free }

/-- A bearing from its record (Table 02-4) at an instant in ns. -/
def Bearing.ofMirror (b : List Byte) (now : Nat) : Bearing :=
  let w (o n : Nat) := ofBytes ((b.drop o).take n)
  { delayDn := w 0 4, advanceUp := w 4 4, asym := signedOf (w 8 2) 16, offset := signedOf (w 10 2) 16
    since := now - w 12 2 * 1000000, hubs := bitsAt (w 14 1) 0 3, gen := bitsAt (w 14 1) 3 2, slow := bitAt (w 14 1) 5
    state := if bitsAt (w 14 1) 6 2 = 1 then .fixed else if bitsAt (w 14 1) 6 2 = 2 then .stale else .none
    fails := w 15 1 }

/-- Write a bearing taken from the mirror. -/
def takeBearing (a : Nat) (b : List Byte) : Prog :=
  .read fun s => seqs [
    putBearing a { Bearing.ofMirror b s.chr.ns with
      sent := if bitsAt (ofBytes ((b.drop 14).take 1)) 6 2 = 0 then none
        else some (ofBytes (b.take 4), ofBytes ((b.drop 4).take 4)) },
    whenP ((s.node a).tier == 0 && (s.node a).state.present) (refreshSkew (s.node a).port)]

/-- The STATE record (R430, Table 14-2): the first one steps the chronometer to the primary's; the tick runs as the primary's. -/
def takeState (r : MirrorRec) : Prog :=
  .read fun s =>
    let ns := r.field 0 8
    let tick := r.field 8 8
    let seq := r.field 16 2
    let n := r.field 18 2
    if s.pair.timeSet then
      (if s.roleState = Role.standby then whenP (s.tick != tick || s.fld Fld.CHT_COMMIT_SEQ.SEQ != seq) desync
       else seqs [put Fld.CHT_COMMIT_SEQ.SEQ seq, put Fld.CHT_TICK_LEN.ACTIVE_N n, modChr fun c => { c with tick := tick }])
    else seqs [
      -- the record's meridian was `ns` at the primary; the beacon's arrival gave it here
      stepBy (signedOf ((ns + 2 ^ 64 - (s.chron + 2 ^ 64 - (s.chr.ns - s.chr.meridNs)) % 2 ^ 64) % 2 ^ 64) 64 / 32 * 32) false,
      put Fld.CHT_COMMIT_SEQ.SEQ seq, put Fld.CHT_TICK_LEN.ACTIVE_N n, raise Fld.CHT_STATUS.RUNNING,
      modChr fun c => { c with
        tick := tick, started := true, runDue := false, tickSlots := max 64 n, dueNs := c.meridNs + 32 * max 64 n },
      modPair fun u => { u with timeSet := true }]

/-- A record of Table 14-2 that changes a table. -/
def takeTable (r : MirrorRec) : Prog :=
  if r.rtype = 3 then seqs [replayDone, putShadow r.index (.ofWords (r.field 0 4) (r.field 4 4) (r.field 8 4) (r.field 12 4)), refreshShadow]
  else if r.rtype = 4 then seqs [replayDone, putSafe r.index r.data]
  else if r.rtype = 5 then seqs [replayDone, raise Fld.CHT_STATUS.PENDING, modPair fun u => { u with commit := some (r.field 0 2) }]
  else if r.rtype = 6 then seqs [putNode r.index (.ofMirror r.data), refreshTree]
  else whenP (r.rtype == 7) (takeBearing r.index r.data)

/-- The copy image is complete (R436): bank, safe values, node table and bearings are taken, then the records held back. -/
def takeImage (buf : List Byte) : Prog :=
  let part (o i n : Nat) := (buf.drop (o + n * i)).take n
  let w (b : List Byte) (i : Nat) := ofBytes ((b.drop (4 * i)).take 4)
  let bank := (List.range 16384).foldl (fun m i => let b := part 0 i 16; tset {} m i (.ofWords (w b 0) (w b 1) (w b 2) (w b 3))) []
  let safes := (safeLegs bank).foldl (fun (m : List (Nat × List Byte) × Nat) e =>
    (tset [] m.1 e.1 ((buf.drop m.2).take e.2.payload), m.2 + e.2.payload)) ([], 262144)
  .read fun s => seqs [
    setBank 0 bank, setBank 1 bank, setSafes 0 safes.1, setSafes 1 safes.1, refreshShadow,
    put Fld.CHT_COUNT.ACTIVE (legsOf bank).length,
    forP (List.range 4094) fun i => putNode (i + 1) (.ofMirror (part safes.2 (i + 1) 16)),
    forP (List.range 4096) fun a => takeBearing a (part (safes.2 + 65536) a 16), refreshTree,
    forP s.pair.waiting takeTable,
    modPair fun u => { u with waiting := [], copied := true, copyBuf := [], goodFrom := none }, put Fld.PAIR_STATUS.COPY_PCT 100]

/-- The length of the copy image that the received bank implies, once its bank is there. -/
def imageLength (buf : List Byte) : Nat :=
  262144 + 131072 + ((List.range 16384).map fun i =>
    let b := (buf.drop (16 * i)).take 16
    let w (j : Nat) := ofBytes ((b.drop (4 * j)).take 4)
    let e := ChartEntry.ofWords (w 0) (w 1) (w 2) (w 3)
    if e.valid && !e.inbound then e.payload else 0).foldl (· + ·) 0

/-- A chunk of the copy (R436). -/
def takeChunk (r : MirrorRec) : Prog :=
  .read fun s => whenP (s.roleState == Role.syncing && !s.pair.copied && r.index * 1024 == s.pair.copyBuf.length) (
    let buf := s.pair.copyBuf ++ r.data
    let total := if buf.length < 262144 then 0 else imageLength buf
    seqs [
      modPair fun u => { u with copyBuf := buf },
      put Fld.PAIR_STATUS.COPY_PCT (min 100 (100 * buf.length / max total 393216)),
      whenP (total != 0 && decide (total ≤ buf.length)) (takeImage buf)])

/-- A record of a frame of a tick (R431, R436). -/
def takeMirror (tick : Nat) (r : MirrorRec) : Prog :=
  .read fun s =>
    if r.rtype = 1 then modPair fun u => { u with outRecs := u.outRecs.filter (fun e => e.1 != r.index) ++ [(r.index, tick, r.data)] }
    else if r.rtype = 2 then takeState r
    else if r.rtype = 8 then takeChunk r
    else if s.roleState = Role.syncing ∧ !s.pair.copied then modPair fun u => { u with waiting := u.waiting ++ [r] }
    else takeTable r

/-- MIRROR_FRAME_RECEIVE (R428, R431, R432, R436): the bytes of a mirror frame. One that fails a CRC is as if it had not come, so that the next shows a gap. A gap sends a standby to SYNCING; a syncing controller
whose copy is whole is a standby after a full tick of records. -/
def execMirrorFrameReceive (bytes : List Byte) (s : State) : Out :=
  let (t, frame, payload) := (mirrorFields bytes).getD (0, 0, [])
  let known := s.roleState == Role.standby || s.pair.goodFrom.isSome || !s.pair.copyBuf.isEmpty
  let inOrder := (t == s.pair.rxTick && frame == s.pair.rxFrame) || (t == (s.pair.rxTick + 1) % 65536 && frame == 0)
  finish (whenP ((s.roleState == Role.standby || s.roleState == Role.syncing) && s.portUp 18 && (mirrorFields bytes).isSome) (
    if known && !inOrder then desync
    else seqs [
      modPair fun u => { u with rxTick := t, rxFrame := frame + 1 },
      forP (mirrorParse payload.length payload) (takeMirror (s.wholeTick t 16)),
      .read fun u => whenP (u.roleState == Role.syncing && u.pair.copied && frame == 0) (
        match u.pair.goodFrom with
        | none => modPair fun p => { p with goodFrom := some t }
        | some k => whenP (k != t) (seqs [setRole Role.standby Why.elected, modPair fun p => { p with goodFrom := none }]))])) s

/-! ### Takeover -/

/-- The ports on which a new primary sends the marker of its first tick (R437): dual-homed and UP. -/
def State.dualPorts (s : State) : List Nat := (List.range 16).filter fun p => bitAt (s.fld Fld.PAIR_PORTS.DUAL) p && s.portUp p

/-- How long after its instant a marker or leg leaves a port, in 2^-16 ns (R437 to R439). -/
def State.skew (s : State) (p : Nat) : Int := if s.roleState = Role.primary then tget 0 s.pair.tskew p else 0

/-- The marker of the tick on a port at its generation (R28, Table 02-1), late by an amount in 2^-16 ns. -/
def sendMarker (p : Nat) (late : Int) : Prog :=
  .read fun s =>
    let o : OSet := .meridian s.tick 0 s.timeCode (s.fld Fld.CHR_STATUS.EPOCH)
    let gen := s.endGen p
    seqs [
      modLane p fun l => { l with txUntil := ((s.chr.meridNs : Int) + ceilDiv late 65536).toNat + setsTime gen o 1 },
      emit (.marker p (o.codes gen) late)]

/-- Whether a copy of an outbound leg is sent in the takeover tick: its port is dual-homed and its slot is none of 1 to 3 (R438). -/
def State.takeoverSends (s : State) (e : ChartEntry) (slot : Nat) : Bool := bitAt (s.fld Fld.PAIR_PORTS.DUAL) e.port && decide (3 < slot)

/-- A standby becomes primary (R424, R437 to R439). The chart runs on; trees whose port is not UP, or whose top node is not dual-homed, are lost at the next
meridian. -/
def newPrimary (reason : Nat) : Prog :=
  .read fun s =>
    let old := (s.legs.filter fun e => !e.2.inbound && e.2.activeIn s.tick && s.portUp e.2.port &&
      e.2.copies.any (fun c => s.takeoverSends e.2 c.1) && s.pair.outRecs.any fun r => r.1 == e.1 && decide (r.2.1 + 1 < s.tick)).length
    seqs [
      setRole Role.primary reason, raise Fld.CHT_CTRL.RUN,
      put Fld.PAIR_TAKEOVER.TICK (s.tickLow 16), put Fld.PAIR_TAKEOVER.OLD_RECORDS (min 65535 old),
      modPair fun u => { u with
        takeover := some s.tick, handTick := none, swapSent := false, copied := decide (reason = Why.handover), beacon := none
        frames := 0, bytes := 0, overflow := false, skewEnd := []
        freshPipes := (s.tree.nodes.filter fun e => e.2.state.present).flatMap fun e => (List.range 32).map (e.1 * 32 + ·) },
      forP ((List.range 16).filter fun p => !(s.portUp p && bitAt (s.fld Fld.PAIR_PORTS.DUAL) p)) fun p => subtreeGone p 0 0 0]

/-- TAKEOVER_CHECK (R432, R434, R437): at M + 48 ns the standby looks for the tick's beacon and for ROLE_IN. -/
def execTakeoverCheck (s : State) : Out :=
  finish (whenP (s.bit Fld.CHT_STATUS.RUNNING) (atNs (s.chr.meridNs + 48) (
    let alive := match s.pair.edgeAt with
      | some t => decide (s.chr.meridNs ≤ t + 32)
      | none => false
    let beacon := s.pair.beacon == some (s.tick % 2 ^ 32)
    seqs [
      put Fld.PAIR_STATUS.ROLE_IN_ALIVE (if alive then 1 else 0),
      whenP (s.roleState == Role.standby) (
        if beacon then whenP (s.pair.chartLost == some s.tick) desync
        else if alive then seqs [raise Fld.PAIR_EVENT.MIRROR_LOST, setRole Role.mirrorLost Why.mirrorLost]
        else modPair fun u => { u with armed := true })]))) s

/-- TAKEOVER (R437, R442): at M + 64 ns the watchdog fires. -/
def execTakeover (s : State) : Out :=
  finish (whenP (s.pair.armed && s.roleState == Role.standby) (atNs (s.chr.meridNs + 64) (seqs [
    newPrimary (if s.pair.chartLost = some s.tick then Why.chartLost else Why.watchdog), raise Fld.PAIR_EVENT.TAKEOVER,
    forP s.dualPorts fun p => .read fun t => sendMarker p (64 * 65536 + t.skew p)]))) s

/-! ### The meridian -/

/-- The commit that a standby's meridian hands over (R432, R442): one whose records are incomplete is lost. -/
def standbyCommit (tick : Nat) : Prog :=
  seqs [refreshShadow, .read fun s =>
    if s.bit Fld.CHT_STATUS.SHADOW_VALID && s.pair.commit == some ((s.fld Fld.CHT_COMMIT_SEQ.SEQ + 1) % 65536) then
      seqs [chartHandover, modPair fun u => { u with commit := none }]
    else seqs [clear Fld.CHT_STATUS.PENDING, modChart fun c => { c with latched := false },
      modPair fun u => { u with commit := none, chartLost := some tick }]]

/-- A hand-over takes place at the meridian that opens its tick (R440, R442). -/
def pairHandover : Prog :=
  .read fun s => whenP (s.pair.handTick == some s.tick) (
    if s.roleState = Role.primary then
      (if !s.portUp 18 then modPair fun u => { u with handTick := none }
       else seqs [
         setRole Role.standby Why.handover, raise Fld.PAIR_EVENT.HANDOVER, put Fld.PAIR_STATUS.LAST St.success,
         modPair fun u => { u with
           handTick := none, swapSent := false, copied := true, timeSet := true, goodFrom := none, commit := none
           beacon := some ((s.tick + 2 ^ 32 - 1) % 2 ^ 32), rxTick := (s.tick + 65535) % 65536, rxFrame := 0 },
         forP s.conv.convs fun e => convDone e.1 St.unsupported, pairComplete 2 St.success])
    else whenP (s.roleState == Role.standby) (seqs [
      newPrimary Why.handover, raise Fld.PAIR_EVENT.HANDOVER, put Fld.PAIR_STATUS.LAST St.success, pairComplete 2 St.success]))

/-- What the primary sends at M + 0 (R427, R429, R434): ROLE_OUT toggles, MBEACON leaves, the STATE record heads the tick's records; OUT records of
the tick before that did not fit are dropped. -/
def pairBeacon : Prog :=
  .read fun s => whenP s.mirrors (
    let full := s.portUp 18 && !s.pair.waiting.isEmpty
    let state : MirrorRec := ⟨2, 0, toBytes s.chron 8 ++ toBytes s.tick 8 ++ toBytes (s.fld Fld.CHT_COMMIT_SEQ.SEQ) 2 ++
      toBytes (s.fld Fld.CHT_TICK_LEN.ACTIVE_N) 2 ++ toBytes (s.word 0x28008 0) 2 ++ toBytes 0 2⟩
    seqs [
      modPair fun u => { u with roleOut := !u.roleOut },
      whenP (!bitAt (s.fld Fld.PWR_PAD_STATUS.LATCHED) 4) (emit (.pin "ROLE_OUT" (!s.pair.roleOut))),
      put Fld.PAIR_MIRROR.BYTES s.pair.bytes, whenP full (countUp Fld.PAIR_MIRROR.OVER_CNT),
      modPair fun u => { u with
        overflow := full, frames := 0, bytes := 0
        waiting := if s.portUp 18 then state :: u.waiting.filter (·.rtype != 1) else [] },
      whenP (s.portUp 18) (emit (.ordered 18 [.block 2 (mbeacon s.tick false (s.pair.handTick == some (s.tick + 1)) full)]))])

/-- The beacon of the tick in which the primary stops (R427). -/
def stopBeacon : Prog := .read fun s => whenP (s.mirrors && s.portUp 18) (emit (.ordered 18 [.block 2 (mbeacon s.tick true false false)]))

/-- The link fix of a node below a hub that its mirrored bearing and its parent's imply: dn and up of its own link. -/
def State.impliedFix (s : State) (a : Nat) : LinkFix :=
  let b := s.bearing a
  let pb := match s.parentOf a with
    | some h => s.bearing h
    | none => {}
  let round := ((2 : Int) * ((b.delayDn : Int) - pb.delayDn) - b.asym * 16).toNat
  { filtered := some round, theta := (b.offset - pb.offset) * 16, lastGood := b.since
    resUp := ((b.advanceUp : Int) - pb.advanceUp - (LinkFix.delays round (b.asym * 16)).2).toNat }

/-- From the meridian after a takeover (R439): the time reference starts from dead reckoning; every node gets SET_BEARING with the bearing that
the controller's own root links give, and the skews end when it applies. -/
def afterTakeover : Prog :=
  .read fun s => whenP (s.roleState == Role.primary && s.pair.takeover.isSome && s.pair.takeover == some (s.tick - 1)) (
    let held := s.tree.bearings.filter fun e => e.2.state != .none && (s.node e.1).state.present
    seqs [
      whenP s.reference (seqs [put Fld.CHR_STATUS.TIME_STATE 2, deadReckon (if s.role = 2 then 2 else 1)]),
      forP (held.filter fun e => (s.node e.1).tier != 0) fun e => .eff (.fix (32 + e.1) (s.impliedFix e.1)),
      forP held fun e =>
        let p := (s.node e.1).port
        let b := { e.2 with
          delayDn := ((e.2.delayDn : Int) - tget 0 s.pair.tskew p).toNat
          advanceUp := ((e.2.advanceUp : Int) + tget 0 s.pair.rskew p).toNat }
        seqs [putBearing e.1 { b with sent := none }, sendBearing e.1],
      modPair fun u => { u with skewEnd := s.dualPorts.map fun p => (p, ((s.nodeOnPort p).getD 0)) }])

/-- At the apply meridian of its top hub's bearing the skews of a port become 0 (R439). -/
def skewsEnd : Prog :=
  .read fun s => forP (s.pair.skewEnd.filter fun e => (s.bearing e.2).sent.isSome && decide ((s.bearing e.2).sentApply ≤ s.tick)) fun e => seqs [
    modPair fun u => { u with
      skewEnd := u.skewEnd.filter (· != e), tskew := tset 0 u.tskew e.1 0, rskew := tset 0 u.rskew e.1 0 },
    putN Fld.PAIR_SKEW.TSKEW e.1 0, putN Fld.PAIR_SKEW.RSKEW e.1 0]

end Sys2Proof.Machine
end

