-- ==== Sys2Proof/Machine/Startup.lean ====
section
/-! DEFINITION. Start-up (15) up to the boot: the resets (R446 to R448), what a life-cycle change and a zeroization apply (R489 to R491), the
halt line, the watchdog and the attaching of a host (R464 to R468). -/

namespace Sys2Proof.Machine

/-! ### Resets -/

/-! The kinds of NVM_RESET_CAUSE. -/

def Reset.powerOn : Nat := 0
def Reset.cold : Nat := 1
def Reset.warm : Nat := 2
def Reset.host : Nat := 3
def Reset.wakeFault : Nat := 4

/-- The rails' enables fall, as nothing drives them in reset. -/
def railsLow : Prog := .read fun s => forP ((List.range 4).filter fun r => s.bit Fld.PWR_RAIL.ON r) fun r => railEn r false

/-- Everything is reset (Table 15-1); HALT# is left to the board (R465). -/
def everythingReset (cause : Nat) (scratch : Bool) : Prog :=
  seqs [cutOperations, railsLow, .read fun s => whenP (s.bit Fld.NVM_HALT_STATUS.DRIVING) (emit (.pin "HALT#" true)),
    fullReset scratch, put Fld.NVM_RESET_CAUSE.KIND cause]

/-- A COLD reset begins (R446); it lasts until RESET_END. -/
def coldReset (cause : Nat) (scratch : Bool) : Prog :=
  seqs [everythingReset cause scratch, modPwr fun p => { p with phase := .reset false }]

/-- Power-up begins with the straps sampled (R448, R450). -/
def powerUp (straps : Nat) : Prog := seqs [put Fld.NVM_STATUS.STRAPS (straps % 4), wakeStep 1 false]

/-- POWER_ON_RESET (R446): VDD_AON has risen. -/
def execPowerOnReset (straps : Nat) (s : State) : Out :=
  finish (seqs [everythingReset Reset.powerOn false, powerUp straps]) s

/-- RESET_PIN (R446): RESET# has been low for 1 us. -/
def execResetPin (s : State) : Out := finish (coldReset Reset.cold true) s

/-- A WARM reset begins (R446, R490): D2 to D11 are reset and zeroized; a return from S1 goes with it. `tried` are the slots that a fallback
has used up. -/
def warmReset (tried : List Nat) : Prog :=
  .read fun s => seqs [
    whenP (s.pstate == 1) (leaveS1 Wake.access), cutOperations, coreReset true,
    put Fld.NVM_STATUS.STATE 0, put Fld.NVM_RESET_CAUSE.KIND Reset.warm,
    modBoot fun b => { b with
      keeper := false, s3 := false, warm := true, slot := none, verified := false, index := 0, tried := tried, runDone := false, warmAt := none
      rest := none },
    raise Fld.SEC_STATUS.ZEROIZING,
    modPwr fun p => { p with
      phase := .reset true, since := s.chr.ns, tag := none, next := none, latched := none, coming := [], stalled := []
      opTag := none, taskHeld := false },
    clear Fld.PWR_STATE.ENTRY_BUSY, clear Fld.PWR_STATE.TARGET, haltCause Halt.image true, refreshFault]

/-- A write of NVM_CTRL.WARM_RESET (R446, Table 15-11): ignored while STATE is LOADING. -/
def warmWrite : Prog :=
  .read fun s => if s.fld Fld.NVM_STATUS.STATE = 1 then raise Fld.NVM_EVENT.WRITE_DURING_LOAD else warmReset []

/-- NVM_WARM_RESET (R446). -/
def execNvmWarmReset (s : State) : Out := finish warmWrite s

/-- RESET_END (R447): 10 us after RESET# has returned high power-up begins again; 50 us after its trigger a WARM reset ends and the Keeper
restarts. -/
def execResetEnd (straps : Nat) (s : State) : Out :=
  finish (match s.pwr.phase with
    | .reset false => powerUp straps
    | .reset true => atNs (s.pwr.since + 50000) (seqs [
        modPwr fun p => { p with phase := .run, since := s.pwr.since + 50000 }, clear Fld.SEC_STATUS.ZEROIZING,
        modBoot fun b => { b with keeper := true }])
    | _ => .skip) s

/-- The configuration space and link of D1 are reset for the functions that a test names. -/
def functionsReset (p : Nat → Bool) : Prog :=
  .read fun s => seqs [
    forP (s.fns.filter fun e => p e.1) fun e => seqs [.eff (.fn e.1 {}), vectorsHeld e.1],
    modIcu fun u => { u with msix := u.msix.filter fun e => !p (e.1 / 2048) }]

/-- VF Enable and NumVFs return to 0 (R520). -/
def vfsOff : Prog :=
  .read fun s => seqs [
    whenP (s.bit Fld.GBL_PCIE_STATUS.VF_ENABLE) (raise Fld.GBL_PCIE_EVENT.VF_ENABLE_CHANGED),
    clear Fld.GBL_PCIE_STATUS.VF_ENABLE, clear Fld.GBL_PCIE_STATUS.NUM_VFS]

/-- PERST_ASSERT (R409, R411, R446, R469): a wake in S3 and on the way into it, a COLD reset in WAKE_FAULT, otherwise a HOST reset. -/
def execPerstAssert (s : State) : Out :=
  let down := seqs [linkGone, modBoot fun b => { b with perst := true, cfgReady := false }]
  finish (
    if s.pwr.phase = .fault then seqs [down, coldReset Reset.wakeFault true]
    else if (s.pwr.phase = .asleep ∧ s.pstate = 3) ∨ (s.bit Fld.PWR_STATE.ENTRY_BUSY ∧ s.fld Fld.PWR_STATE.TARGET = 3) then
      seqs [down, declareWake Wake.perst 0]
    else seqs [down, hostReset, functionsReset fun _ => true, vfsOff, put Fld.NVM_RESET_CAUSE.KIND Reset.host]) s

/-- IMAGE_ACTIVATE_RESET (R486): 1 ms after IMAGE_ACTIVATE. -/
def execImageActivateReset (s : State) : Out :=
  finish (match s.boot.warmAt with
    | some t => atNs t (warmReset [])
    | none => .skip) s

/-! ### Life cycle and zeroization -/

/-- Steps 1 to 5 of R491: the chart executor stops at the next meridian, all work ends, everything is zeroized, and a COLD reset follows. -/
def zeroizeAll : Prog :=
  seqs [.read fun s => whenP (s.bit Fld.CHT_STATUS.RUNNING) (advanceTo s.chr.dueNs), coldReset Reset.cold false]

/-- Whether a FLASH_WRITE is under way, which completes before a life-cycle change or a zeroization (Table 16-9). -/
def State.flashWriting (s : State) : Bool := s.sec.flashOp.any fun o => !o.bytes.isEmpty

/-- LIFE_CYCLE_APPLY (R489): the state's bit is programmed, keys are destroyed, and a zeroization and a COLD reset follow. A FLASH_WRITE
under way completes first (Table 16-9). -/
def execLifeCycleApply (s : State) : Out :=
  finish (match s.sec.lifeAt with
    | some (t, target) => whenP (!s.flashWriting) (atNs t (seqs [lifeProgram target, destroyKeys, zeroizeAll]))
    | none => .skip) s

/-- ZEROIZE_APPLY (R491). -/
def execZeroizeApply (s : State) : Out :=
  finish (match s.sec.zeroAt with
    | some t => whenP (!s.flashWriting) (atNs t zeroizeAll)
    | none => .skip) s

/-! ### The halt line and the watchdog -/

/-- HALT_PIN_LOW (R464, R465): HALT# has read low for 200 ns that another party drives, 1 us after the controller's own release. -/
def execHaltPinLow (s : State) : Out :=
  finish (match s.halt.lowSince with
    | none => .skip
    | some t => whenP (s.bit Fld.NVM_HALT_CFG.IN_EN && !s.bit Fld.NVM_HALT_STATUS.DRIVING && !s.pin 8)
        (atNs (max t (s.halt.releasedAt + 1000) + 200) (seqs [
          whenP (!s.halted Halt.pin) (raise Fld.NVM_EVENT.HALT_IN), haltCause Halt.pin true]))) s

/-- A write of NVM_CTRL.HALT_ASSERT (Table 15-10). -/
def haltAssert (v : Bool) : Prog := seqs [put Fld.NVM_CTRL.HALT_ASSERT (if v then 1 else 0), haltCause Halt.sw v]
/-- HALT_ASSERT (R464). -/
def execHaltAssert (v : Bool) (s : State) : Out := finish (haltAssert v) s

/-- NVM_CTRL.HALT_CLEAR: the latched causes go (R465). -/
def haltClear : Prog := seqs [haltCause Halt.helm false, haltCause Halt.wdt false, haltCause Halt.pin false]
/-- HALT_CLEAR (R465). -/
def execHaltClear (s : State) : Out := finish haltClear s

/-- A write of NVM_CTRL.HOST_ATTACH (R468). -/
def hostAttach (v : Bool) : Prog :=
  seqs [put Fld.NVM_CTRL.HOST_ATTACH (if v then 1 else 0), whenP v (raise Fld.NVM_EVENT.ATTACHED)]
/-- NVM_HOST_ATTACH (R468). -/
def execNvmHostAttach (v : Bool) (s : State) : Out := finish (hostAttach v) s

/-- When the watchdog expires, if it is on (R466). -/
def State.wdtAt (s : State) : Option Nat :=
  let p := s.fld Fld.NVM_WDT_CFG.PERIOD_MS
  if p = 0 then none else some (s.halt.kickedAt + p * 1000000)

/-- The watchdog expires (R466): the count starts again. -/
def wdtExpires : Prog :=
  seqs [raise Fld.NVM_EVENT.WDT_EXPIRED, haltCause Halt.wdt true, .read fun t => modHalt fun u => { u with kickedAt := t.chr.ns }]

/-- A write of NVM_WDT_KICK (R466): any value but 0x0000_6416 is ignored. An expiry that falls due in its cycle comes first (Table 15-11). -/
def wdtKick (v : Nat) : Prog :=
  .read fun s => whenP (v == 0x6416) (seqs [
    whenP (s.wdtAt.any fun t => decide (t ≤ s.chr.ns)) wdtExpires, modHalt fun u => { u with kickedAt := s.chr.ns }])
/-- WDT_KICK (R466). -/
def execWdtKick (v : Nat) (s : State) : Out := finish (wdtKick v) s

/-- WDT_EXPIRY (R466): PERIOD_MS have passed without a kick. -/
def execWdtExpiry (s : State) : Out :=
  finish (match s.wdtAt with
    | some t => atNs t wdtExpires
    | none => .skip) s

end Sys2Proof.Machine
end

