-- ==== Sys2Proof/Machine/Pcie.lean ====
section
/-! DEFINITION. The PCI Express endpoint (00 R2, 15 R467, 18): its link, its functions' configuration space (R512, R513, R516 to R522), the errors it reports (R514,
R523) and the instance views (R515). -/

namespace Sys2Proof.Machine

/-- PCIE_CONFIG_READY (R467): the configuration space is ready; PERST# is deasserted by then. -/
def execPcieConfigReady (s : State) : Out :=
  finish (modBoot fun b => { b with perst := false, cfgReady := true }) s

/-- PCIE_LINK_STATE_CHANGE (Table 18-10): the link comes up with a speed (1 to 4) and a width, or goes down. -/
def execPcieLinkStateChange (up : Bool) (speed width : Nat) (s : State) : Out :=
  finish (if up then seqs [
      raise Fld.GBL_PCIE_STATUS.LINK_UP, raise Fld.GBL_PCIE_STATUS.DL_ACTIVE, put Fld.GBL_PCIE_STATUS.SPEED speed,
      put Fld.GBL_PCIE_STATUS.WIDTH width, raise Fld.GBL_PCIE_EVENT.LINK_UP,
      whenP (decide (speed < 4) || decide (width < 8)) (raise Fld.GBL_PCIE_EVENT.DEGRADED)]
    else linkGone) s

/-- VF Enable goes from 1 to 0 (R521): every instance bound to a VF is wiped as under an FLR of its VF. -/
def vfEnableClear : Prog :=
  .read fun s => whenP (s.bit Fld.GBL_PCIE_STATUS.VF_ENABLE) (seqs [
    clear Fld.GBL_PCIE_STATUS.VF_ENABLE, raise Fld.GBL_PCIE_EVENT.VF_ENABLE_CHANGED,
    forP ((s.ins.live.map s.insFn).dedup.filter (· != 0)) flrInstances, functionsReset (· != 0)])

/-- VF_ENABLE_CLEAR (R521). -/
def execVfEnableClear (s : State) : Out := finish vfEnableClear s

/-- An FLR of PF0 (R520): a HOST reset with the link kept up, PF0's configuration space alone reset, and VF Enable cleared. -/
def pfFlr : Prog :=
  seqs [hostReset, vfsOff, functionsReset (· == 0), raise Fld.GBL_PCIE_EVENT.FLR_PF, put Fld.NVM_RESET_CAUSE.KIND Reset.host]

/-- PF_FLR (R520). -/
def execPfFlr (s : State) : Out := finish pfFlr s

/-- What a vector owes goes out once nothing masks it (R365, R522). -/
def sendAllOwed (fn : Nat) : Prog :=
  .read fun s => forP ((List.range 2048).filter fun v => s.bit Fld.HIC_VEC_STATUS.MSG_PENDING (vecKey fn v)) fun v =>
    sendOwed (vecKey fn v)

/-- Whether a function answers configuration requests: PF0, or a VF while VF Enable is 1, once configuration space is ready (R467,
R517). -/
def State.functionThere (s : State) (fn : Nat) : Bool :=
  s.boot.cfgReady && (fn == 0 || (s.bit Fld.GBL_PCIE_STATUS.VF_ENABLE && decide (fn ≤ s.fld Fld.GBL_PCIE_STATUS.NUM_VFS)))

/-! ### Configuration space (R2, R512, R513, R516 to R519). Places and codes are the PCI Express Base Specification's: PRESUMED (notes/assumptions/44). -/

/-- A capability's header: at offsets below 0x100 with an 8-bit ID and next pointer, above with a 16-bit ID, a version and a next pointer. -/
def capHeader (off id version next : Nat) : Nat :=
  if off < 0x100 then id + next * 2 ^ 8 else id + version * 2 ^ 16 + next * 2 ^ 20

/-- The capabilities in the order in which they are linked (Table 18-4): offset, ID, version. -/
def capList : List (Nat × Nat × Nat) := [
  (0x40, 0x01, 0), (0x50, 0x11, 0), (0x70, 0x10, 0), (0x100, 0x01, 2), (0x150, 0x10, 1), (0x190, 0x1B, 1), (0x1A0, 0x1E, 1), (0x1C0, 0x19, 1),
  (0x200, 0x26, 1), (0x240, 0x27, 1), (0x280, 0x03, 1), (0x2A0, 0x0E, 1), (0x2B0, 0x18, 1)]

/-- The capabilities of a function: a VF carries PCI Express, MSI-X, AER and ARI alone (R516). -/
def capsOf (fn : Nat) : List (Nat × Nat × Nat) := if fn = 0 then capList else capList.filter fun c => [0x50, 0x70, 0x100, 0x2A0].contains c.1

/-- The capability after one, in its list. -/
def nextCap (fn off : Nat) : Nat := (((capsOf fn).find? fun c => off < c.1 && (decide (c.1 < 0x100) == decide (off < 0x100))).map (·.1)).getD 0

/-- The words that never change, or of which the host writes some bits that the controller does not act on: offset, value after reset, bits written. -/
def cfgWords (fn : Nat) : List (Nat × Nat × Nat) :=
  if fn ≠ 0 then [
    (0x00, 0xFFFFFFFF, 0), (0x08, 0x0C8000B0, 0), (0x2C, 0x00001F6E, 0), (0x34, 0x50, 0), (0x54, 0, 0), (0x58, 0x8000, 0), (0x74, 0x10008022, 0),
    (0x7C, 0x00400884, 0), (0x94, 0x0003081F, 0), (0x9C, 0x1E, 0), (0x114, 0x2000, 0x31C1)]
  else [
    (0x00, 0x64161F6E, 0), (0x08, 0x0C8000B0, 0), (0x0C, 0, 0xFF), (0x10, 4, 0xFFF00000), (0x14, 0, 0xFFFFFFFF), (0x18, 4, 0xFF000000),
    (0x1C, 0, 0xFFFFFFFF), (0x20, 4, 0xFFC00000), (0x24, 0, 0xFFFFFFFF), (0x2C, 0x00001F6E, 0), (0x34, 0x40, 0), (0x3C, 0, 0xFF),
    (0x54, 0x300004, 0), (0x58, 0x308004, 0), (0x74, 0x10008022, 0), (0x7C, 0x00400884, 0), (0x94, 0x0003081F, 0), (0x9C, 0x1E, 0),
    (0xA0, 4, 0xF)] ++ [
    (0x114, 0x2000, 0x31C1), (0x154, 4, 0), (0x15C, 0x00FF00FF, 0), (0x164, 0x00010001, 0), (0x168, 0x64170000, 0), (0x16C, 1, 0), (0x170, 1, 0),
    (0x174, 4, 0xFFFF0000), (0x178, 0, 0xFFFFFFFF), (0x17C, 4, 0xFFFC0000), (0x180, 0, 0xFFFFFFFF), (0x1A4, 0x00390015, 0),
    (0x1A8, 0, 0xE3FF0005), (0x1AC, 0x28, 0xFB), (0x1C4, 0, 3), (0x2A4, 0, 0), (0x2B4, 0, 0x1FFF1FFF)] ++
    (List.range 8).map fun k => (0x248 + 4 * k, 0x9C38, 0xFFFF)

/-- The bits of a word at an offset that the controller only holds. -/
def State.cfgHeld (s : State) (fn off : Nat) : Nat :=
  match (cfgWords fn).lookup off with
  | some (reset, mask) => (reset - (reset &&& mask)) ||| (tget (reset &&& mask) (s.fn fn).words off &&& mask)
  | none => 0

/-- A word of a function's configuration space. -/
def State.cfgWord (s : State) (fn off : Nat) : Nat :=
  let c := s.fn fn
  match (capsOf fn).find? fun e => e.1 == off with
  | some (_, id, version) =>
    capHeader off id version (nextCap fn off) +
      (if off = 0x40 then 3 * 2 ^ 16 else if off = 0x50 then 2047 * 2 ^ 16 + bit1 c.msixMask * 2 ^ 30 + bit1 c.msixEn * 2 ^ 31
        else if off = 0x70 then 2 * 2 ^ 16 else 0)
  | none => match off with
    | 0x04 => bit1 (c.mse && fn == 0) * 2 + bit1 c.bme * 4 + 2 ^ 20
    | 0x44 => if fn = 0 then c.dstate + 8 else 0
    | 0x78 => c.errEnable + c.mps * 2 ^ 5 + c.mrrs * 2 ^ 12 + c.detected * 2 ^ 16
    | 0x80 => (if fn = 0 then tget 0 c.words 0x80 &&& 0xCB else 0) + s.fld Fld.GBL_PCIE_STATUS.SPEED * 2 ^ 16 + s.fld Fld.GBL_PCIE_STATUS.WIDTH * 2 ^ 20
    | 0x98 => (tget 0 c.words 0x98 &&& 0x41F) + bit1 c.tag10 * 2 ^ 12
    | 0x104 => c.aerStatus
    | 0x108 => c.aerMask
    | 0x10C => c.aerSeverity
    | 0x110 => c.corStatus
    | 0x118 => if c.aerStatus = 0 then 0 else c.aerFirst
    | 0x158 => if fn = 0 then s.fld Fld.GBL_PCIE_STATUS.VF_ENABLE + bit1 c.vfMse * 8 + bit1 c.vfTag10 * 32 + (tget 0 c.words 0x158 &&& 16) else 0
    | 0x160 => if fn = 0 then s.fld Fld.GBL_PCIE_STATUS.NUM_VFS else 0
    | 0x194 => if fn = 0 then 20 * 2 ^ 8 + bit1 c.pasidEn * 2 ^ 16 else 0
    | 0x284 => if fn = 0 then s.fld Fld.SEC_DEVICE_ID_LO.ID_LO else 0
    | 0x288 => if fn = 0 then s.fld Fld.SEC_DEVICE_ID_HI.ID_HI else 0
    | _ => s.cfgHeld fn off

/-- The Bus Master Enable and Memory Space Enable bits of a function are written (R331). -/
def commandWrite (fn v : Nat) : Prog :=
  seqs [modFn fn fun c => { c with mse := bitAt v 1 },
    if bitAt v 2 then modFn fn fun c => { c with bme := true } else seqs [raise Fld.GBL_PCIE_EVENT.BME_CLEARED, busMasterOff fn]]

/-- The MSI-X control bits are written (R365). -/
def msixControl (fn v : Nat) : Prog :=
  seqs [modFn fn fun c => { c with msixEn := bitAt v 31, msixMask := bitAt v 30 },
    whenP (!bitAt v 31) (vectorsHeld fn), whenP (bitAt v 31 && !bitAt v 30) (sendAllOwed fn)]

/-- Bits that a write keeps: those of a word written whole, with the old value in the bytes that are not enabled. -/
def byteMask (be : Nat) : Nat := ((List.range 4).filter (bitAt be)).foldl (fun m k => m + 255 * 256 ^ k) 0

/-- A host write of a word of a function's configuration space, with its byte enables. NumVFs is not written while VF Enable is 1 (R517). -/
def configWrite (fn off be v : Nat) : Prog :=
  .read fun s =>
    let m := byteMask be
    let set := v &&& m
    let old := s.cfgWord fn off % 2 ^ 32
    let w := (old - (old &&& m)) ||| set
    match off with
    | 0x04 => whenP (bitAt be 0) (commandWrite fn w)
    | 0x44 => whenP (fn == 0 && bitAt be 0) (seqs [modFn fn fun c => { c with dstate := if w % 4 = 3 then 3 else 0 }, whenP (w % 4 != 3) (sendAllOwed fn)])
    | 0x50 => whenP (bitAt be 3) (msixControl fn w)
    | 0x78 => seqs [
        modFn fn fun c => { c with
          errEnable := w % 16, mps := min 2 (bitsAt w 5 3), mrrs := min 5 (bitsAt w 12 3), detected := c.detected - (c.detected &&& bitsAt set 16 4) },
        whenP (bitAt set 15) (if fn = 0 then pfFlr else vfFlr fn)]
    | 0x80 => modFn fn fun c => { c with words := tset 0 c.words off (w &&& 0xCB) }
    | 0x98 => modFn fn fun c => { c with tag10 := bitAt w 12, words := tset 0 c.words off (w &&& 0x41F) }
    | 0x104 => modFn fn fun c => { c with aerStatus := c.aerStatus - (c.aerStatus &&& set) }
    | 0x110 => modFn fn fun c => { c with corStatus := c.corStatus - (c.corStatus &&& set) }
    | 0x108 => modFn fn fun c => { c with aerMask := w }
    | 0x10C => modFn fn fun c => { c with aerSeverity := w }
    | 0x158 => whenP (fn == 0 && bitAt be 0) (seqs [
        modFn 0 fun c => { c with vfMse := bitAt w 3, vfTag10 := bitAt w 5, words := tset 0 c.words off (w &&& 16) },
        if bitAt w 0 then raise Fld.GBL_PCIE_STATUS.VF_ENABLE else vfEnableClear])
    | 0x160 => whenP (fn == 0 && !s.bit Fld.GBL_PCIE_STATUS.VF_ENABLE && decide (w % 65536 ≤ 255)) (put Fld.GBL_PCIE_STATUS.NUM_VFS w)
    | 0x194 => whenP (fn == 0) (modFn 0 fun c => { c with pasidEn := bitAt w 16 })
    | _ => match (cfgWords fn).lookup off with
      | some (reset, mask) => modFn fn fun c => { c with words := tset (reset &&& mask) c.words off (w &&& mask) }
      | none => .skip

/-- CONFIG_SPACE_WRITE (R516 to R518, R522, R523): an access to a word of a function's configuration space, with its byte enables; a read where `write` is false. Until
configuration space is ready the request is retried (R467). -/
def execConfigSpaceWrite (fn off : Nat) (write : Bool) (be v : Nat) (s : State) : Out :=
  finish (whenP (fn < 256 && off < 0x1000 && off % 4 == 0 && s.functionThere fn)
    (if write then configWrite fn off be (v % 2 ^ 32) else emit (.pcie 0 (s.cfgWord fn off)))) s

/-- POISONED_WRITE (R523): the write is dropped and logged. -/
def execPoisonedWrite (fn : Nat) (s : State) : Out := finish (whenP (fn < 256) (aerLog fn Aer.poisoned)) s

/-- BAR_BAD_ACCESS (R514, R523): an access of a size or alignment that R514 refuses; a read gets a completion with Unsupported
Request. -/
def execBarBadAccess (fn : Nat) (read : Bool) (s : State) : Out :=
  finish (whenP (fn < 256) (seqs [whenP read (emit (.pcie 1 0)), aerLog fn Aer.unsupported])) s

/-! ### Instance views -/

/-- The instance that a view shows: the one bound to a function and SLOT that is not OFF (R515, R317). -/
def State.viewOf (s : State) (fn slot : Nat) : Option Nat :=
  s.ins.live.find? fun i => s.insState i != Fn.off && s.insFn i == fn && s.fld Fld.INS_BIND.SLOT i == slot

/-- What a view register reads (Table 18-3). -/
def State.viewWord (s : State) (fn slot off : Nat) : Nat :=
  match s.viewOf fn slot with
  | none => 0
  | some i =>
    let sq (o : Nat) : Nat := ((s.sqOf i 0).map (s.word o)).getD 0
    let cq (o : Nat) : Nat := ((s.cqOf i 0).map (s.word o)).getD 0
    match off with
    | 0x00 => s.word 0x1800C i
    | 0x04 => sq 0x14044
    | 0x08 => sq 0x14048
    | 0x0C => sq 0x1404C
    | 0x10 => cq 0x14074
    | 0x14 => cq 0x14078
    | 0x18 => cq 0x1407C
    | 0x1C => s.word 0x1C010 i
    | 0x20 => s.tickLow 32
    | 0x24 => s.word 0x18018 i
    | 0x28 => s.word 0x10114 i
    | _ => 0

/-- A write of VIEW_ERR_CAUSE (R515): the bound instance's HIC_ERR_CAUSE alone takes it. -/
def viewErrCause (fn slot v : Nat) : Prog :=
  .read fun s => match s.viewOf fn slot with
    | none => .skip
    | some i => writeOnes 0x1C010 i (v % 64)

/-- VIEW_ERR_CAUSE_WRITE (R515). -/
def execViewErrCauseWrite (fn slot v : Nat) (s : State) : Out := finish (hostWrite fn (fn != 0) false (viewErrCause fn slot v)) s

end Sys2Proof.Machine
end

