-- ==== Sys2Proof/Machine/Registers.lean ====
section
/-! DEFINITION. Accesses to the register space (R4 to R6, R314, R344, R363, R524 to R527): what a write or a read of an offset does, field by
field and register by register, and where the apertures of Table 18-7 lead. A register with a row of its own is written here by the
same program as in its row. -/

namespace Sys2Proof.Machine

/-! ### Where an offset leads -/

/-- The fields of the register at an offset. -/
def fieldsAt (base : Nat) : List Field := fieldTable.filter fun f => f.off == base

/-- The register at an offset of BAR0, and the element of it (R531). -/
def registerAt (off : Nat) : Option (Nat × Nat × Sel) :=
  (fieldTable.find? fun f =>
    if f.count ≤ 1 then f.off == off
    else decide (f.off ≤ off) && (off - f.off) % f.stride == 0 && decide ((off - f.off) / f.stride < f.count)).map fun f =>
      (f.off, if f.count ≤ 1 then 0 else (off - f.off) / f.stride, f.sel)

/-- The context that a selector's index register names (R250, R263, R314, R344, R363). -/
def State.selected (s : State) (sel : Sel) (element : Nat) : Nat :=
  match sel with
  | .none => element
  | .pi => s.fld Fld.DMA_PI_INDEX.INSTANCE
  | .route => s.fld Fld.DMA_ROUTE_INDEX.ROUTE
  | .qmIns => s.fld Fld.QM_INS_INDEX.INSTANCE
  | .sq => s.fld Fld.QM_SQ_INDEX.SQ
  | .cq => s.fld Fld.QM_CQ_INDEX.CQ
  | .ins => s.fld Fld.INS_INDEX.INSTANCE
  | .hicIns => s.fld Fld.HIC_INS_INDEX.INSTANCE
  | .hicVec => s.vecIndex

/-- The register at an offset and the element or context that an access to it reaches now. -/
def State.regAt (s : State) (off : Nat) : Option (Nat × Nat) :=
  (registerAt off).map fun r => (r.1, s.selected r.2.2 r.2.1)

/-! ### Writes by access type (Table 00-6) -/

/-- A write of one field as its access type gives it; `v` is the whole word. -/
def writeField (f : Field) (n v : Nat) : Prog :=
  .read fun s => match f.acc with
    | .rw | .rws | .rwl => putN f n (bitsAt v f.lo f.w)
    | .w1c => putN f n (s.fld f n - (s.fld f n &&& bitsAt v f.lo f.w))
    | .ro | .wo | .rc => .skip

/-- A write of a register by its fields' access types alone. -/
def plainWrite (base n v : Nat) : Prog := forP (fieldsAt base) fun f => writeField f n v

/-- A write of a register with RWL fields while a COMMIT is accepted: they keep their values, and another value sets SHADOW_BUSY. -/
def lockedWrite (locked : Bool) (busy : Field) (base n v : Nat) : Prog :=
  forP (fieldsAt base) fun f =>
    if locked && f.acc == .rwl then .read fun s => whenP (s.fld f n != bitsAt v f.lo f.w) (raise busy)
    else writeField f n v

/-! ### Writes by block -/

/-- With no reference configured the controller is FREE (R51). -/
def referenceGone : Prog :=
  .read fun s => whenP (!s.reference && s.fld Fld.CHR_STATUS.TIME_STATE != 0) (seqs [
    clear Fld.CHR_STATUS.TIME_STATE, clear Fld.CHR_SYNC_STATUS.UP_LOCKED, modChr fun c => { c with goodRun := 0, missRun := 0 }])

/-- CHR_CTRL: a write of MERID_ALIGN = 1 realigns a running chart, and places the first meridian of one that is about to start on the grid (R26); MERID_OUT is low
while it is not enabled (R53). -/
def chrCtrlWrite (v : Nat) : Prog :=
  seqs [plainWrite 0x02000 0 v, .read fun s => seqs [
    whenP (bitAt v 1) (if s.bit Fld.CHT_STATUS.RUNNING then modChr fun c => { c with alignWait := true } else planFirst),
    whenP (!bitAt v 3) meridOutLow, referenceGone]]

/-- CHR_SYNC_CFG: another role takes effect (R22, R45 to R48, R51). -/
def syncCfgWrite (v : Nat) : Prog :=
  .read fun s => seqs [plainWrite 0x02040 0 v, .read fun t => whenP (t.role != s.role) roleChanged, referenceGone]

/-- The chronometer's registers. -/
def chrWrite (base n v : Nat) : Prog :=
  match base with
  | 0x02000 => chrCtrlWrite v
  | 0x0201C => rateTrim v
  | 0x02020 | 0x02024 | 0x02028 => .read fun s => lockedWrite (s.bit Fld.CHR_COMMIT.PENDING) Fld.CHR_STATUS.SHADOW_BUSY base 0 v
  | 0x0202C => whenP (bitAt v 0) chrCommitReg
  | 0x02040 => syncCfgWrite v
  | _ => plainWrite base n v

/-- The lanes' registers (R77, R87, R89, R93 to R95). -/
def lnkWrite (base n v : Nat) : Prog :=
  match base with
  | 0x04000 => seqs [
      putN Fld.LNK_CTRL.FOGHORN_WAKE n (bitsAt v 2 1),
      if bitAt v 0 then laneEnable n else laneDisable n,
      .read fun s => whenP (bitAt v 4 && s.lstate n == Ls.up) (fullRetrain n),
      .read fun s => whenP (bitAt v 3 && s.lstate n == Ls.up) (enterRetrain n),
      whenP (bitAt v 1) (goLowPower n), whenP (bitAt v 5) (lnkWakeRemote n)]
  | 0x04004 => whenP (n < 16) (putN Fld.LNK_CFG.MAX_GEN n (bitsAt v 8 2)) |>.seq (seqs [
      putN Fld.LNK_CFG.MAX_ATTEMPTS n (bitsAt v 12 4), putN Fld.LNK_CFG.SW_ALIGN n (bitsAt v 11 1),
      putN Fld.LNK_CFG.EQ_FIXED n (bitsAt v 10 1)])
  | 0x04018 => whenP (bitAt v 0) (lnkSlip n)
  | _ => plainWrite base n v

/-- The one bit of a command register that is written 1, if it is one alone. -/
def oneBit (v w : Nat) : Option Nat :=
  match (List.range w).filter (bitAt v) with
  | [b] => some b
  | _ => none

/-- The tree's registers (R134, R137). -/
def treWrite (base n v : Nat) : Prog :=
  match base with
  | 0x06018 => modTree fun t => { t with staged := tset 0 t.staged n (v % 2 ^ 32) }
  | 0x06028 => whenP (v % 16 != 0) (match oneBit v 4 with
      | some 0 => treCommand 0
      | some 1 => treCommand 1
      | some 2 => treCommand 3
      | some _ => treCommand 2
      | none => seqs [raise Fld.TRE_NODE_STATUS.REFUSED, clear Fld.TRE_NODE_STATUS.DONE])
  | 0x06030 => treEnumRetry (v % 65536)
  | _ => plainWrite base n v

/-- The chart's registers (R26, R153 to R157). -/
def chtWrite (base n v : Nat) : Prog :=
  match base with
  | 0x08000 => seqs [put Fld.CHT_CTRL.ADMIT_EN (bitsAt v 2 1), writeEditOpen (bitAt v 1), writeRun (bitAt v 0)]
  | 0x08008 => whenP (bitAt v 0) (chartCommit none)
  | 0x0800C => shadowWrite 1 0 0 (v % 2 ^ 15)
  | 0x08040 => shadowWrite 2 n 0 (v % 128)
  | _ => plainWrite base n v

/-- The task scheduler's registers (R232, R234, R250). -/
def tskRegWrite (base n v : Nat) : Prog :=
  match base with
  | 0x0E000 => seqs [plainWrite base n v, whenP (bitAt v 0) (modPwr fun u => { u with taskHeld := false })]
  | 0x0E100 => seqs [plainWrite base n v, .read fun s => dispatchAll s.now12]
  | 0x0E010 => modTask fun u => { u with staged := tset 0 u.staged n (v % 2 ^ 32) }
  | 0x0E030 => whenP (v % 32 != 0) (.read fun s => match oneBit v 5 with
      | some 0 => tskWrite
      | some 1 => seqs [taskDue s.taskIndex true, tskDone]
      | some 2 => seqs [taskDue s.taskIndex false, tskDone]
      | some 3 => seqs [taskClear s.taskIndex, tskDone]
      | some _ => seqs [taskEvent s.taskIndex s.now12, tskDone]
      | none => tskRefused)
  | _ => plainWrite base n v

/-- The DMA registers (R262, R263, R271, R273, R277). -/
def dmaWrite (base n v : Nat) : Prog :=
  match base with
  | 0x10104 => piBaseWrite false v
  | 0x10108 => piBaseWrite true v
  | 0x1010C => piCfgWrite v
  | 0x10204 => routeWrite 0 v
  | 0x10208 => routeWrite 1 v
  | 0x1020C => routeWrite 2 v
  | 0x11000 => seqs [if bitAt v 0 then chEnable n else chDisable n, whenP (bitAt v 1) (chStartReg n),
      whenP (bitAt v 2) (chResume n), whenP (bitAt v 3) (chAbort n)]
  | 0x11004 => chConfig n 0 v
  | 0x11024 => chConfig n 4 v
  | 0x11028 => chConfig n 2 v
  | 0x1102C => chConfig n 3 v
  | 0x11030 => chConfig n 1 v
  | _ => plainWrite base n v

/-- A write of queue fields that only an OFF queue takes (R314): of a register that holds nothing else, or of one field. -/
def queueWrite (off : Bool) (base n v : Nat) : Prog := if off then plainWrite base n v else raise Fld.QM_EVENT.CFG_REFUSED
/-- One such field of a register that holds other fields too: refused only with another value. -/
def queueField (off : Bool) (f : Field) (n v : Nat) : Prog :=
  if off then putN f n v else .read fun s => whenP (s.fld f n != v) (raise Fld.QM_EVENT.CFG_REFUSED)

/-- The queue manager's registers (R296, R303, R314, R320): the first write of a context's configuration or control takes it from its pool (R282). -/
def qmWrite (base n v : Nat) : Prog :=
  .read fun s =>
    let sqIsOff := s.fld Fld.QM_SQ_STATUS.FUNC_STATE n == Fn.off
    let cqIsOff := s.fld Fld.QM_CQ_STATUS.FUNC_STATE n == Fn.off
    match base with
    | 0x14020 => cacheInval (bitAt v 12) (v % 4096)
    | 0x14034 => seqs [takeSq n, queueField sqIsOff Fld.QM_SQ_CTRL.CACHED n (bitsAt v 1 1), if bitAt v 0 then sqEnableReg else sqDisable n]
    | 0x14038 | 0x1403C | 0x14040 => seqs [takeSq n, queueWrite sqIsOff base n v]
    | 0x14064 => seqs [takeCq n,
        if cqIsOff && !s.vecInRange (s.fld Fld.QM_CQ_CFG.OWNER n) (bitsAt v 16 11) then raise Fld.QM_EVENT.CFG_REFUSED
        else queueField cqIsOff Fld.QM_CQ_CTRL.VECTOR n (bitsAt v 16 11), putN Fld.QM_CQ_CTRL.IRQ_EN n (bitsAt v 1 1),
        if bitAt v 0 then cqEnableReg else cqDisable n]
    | 0x14068 | 0x1406C | 0x14070 => seqs [takeCq n, queueWrite cqIsOff base n v]
    | _ => plainWrite base n v

/-- The instance registers (R329, R331, R333, R339, R344). -/
def insRegWrite (base n v : Nat) : Prog :=
  match base with
  | 0x18008 => seqs [
      if bitAt v 0 then insEnable n .skip .skip else insDisable n, insHold n (bitAt v 1),
      whenP (bitAt v 2 && n != 0) (insError n 3)]
  | 0x18010 => insBindWrite 0 v
  | 0x18014 => insBindWrite 1 v
  | 0x18018 => insBindWrite 2 v
  | 0x18034 => .read fun s => whenP (!s.bit Fld.INS_LOG_CFG.RUNNING n) (plainWrite base n v)
  | _ => plainWrite base n v

/-- The host interrupt registers (R363, R364). -/
def hicWrite (base n v : Nat) : Prog :=
  match base with
  | 0x1C008 => hicInsCfg false v
  | 0x1C00C => hicInsCfg true v
  | 0x1C024 => coalWrite v
  | 0x1C02C => whenP (bitAt v 0) hicFlush
  | _ => plainWrite base n v

/-- The registers of the internal interrupt controller (R354, R357 to R359); a write of ICU_COMPLETE is ignored in BAR0 (R351). -/
def icuWrite (base n v : Nat) : Prog :=
  match base with
  | 0x1E010 | 0x1E214 => softSet v
  | 0x1E208 => .skip
  | 0x1E20C => timerArm n v
  | 0x1F000 => srcCfgWrite n v
  | _ => plainWrite base n v

/-- The power registers (R407, R413, R416, R419). -/
def pwrWrite (base n v : Nat) : Prog :=
  match base with
  | 0x20004 => stateCtrl (v % 4)
  | 0x20024 => padRelease v
  | 0x2002C => domCtrl v
  | 0x20038 => vselWrite v
  | 0x2003C => .read fun s => lockedWrite (s.bit Fld.PWR_OP_STATUS.PENDING) Fld.PWR_OP_STATUS.SHADOW_BUSY base 0 v
  | 0x20040 => whenP (bitAt v 0) opCommit
  | _ => plainWrite base n v

/-- The cable-power registers (R382, R387). -/
def cpwWrite (base n v : Nat) : Prog :=
  match base with
  | 0x24100 => seqs [if bitAt v 0 then cpwEnable n else cpwDisable n, whenP (bitAt v 1) (cpwForceDefault n)]
  | _ => plainWrite base n v

/-- The pair's registers (R433, R435): PAIR_ID is written while the function is OFF. -/
def pairWrite (base n v : Nat) : Prog :=
  match base with
  | 0x28000 => pairCtrl (bitAt v 0)
  | 0x28010 | 0x28014 => .read fun s => whenP (s.fld Fld.PAIR_STATUS.FUNC_STATE == Fn.off) (plainWrite base n v)
  | _ => plainWrite base n v

/-- The start-up registers (R446, R464 to R468). -/
def nvmWrite (base n v : Nat) : Prog :=
  match base with
  | 0x34004 => seqs [
      whenP (bitAt v 3) haltClear, haltAssert (bitAt v 2), hostAttach (bitAt v 1), whenP (bitAt v 0) warmWrite]
  | 0x34028 => .read fun s => seqs [
      whenP (bitAt v 8 && !s.bit Fld.NVM_HALT_CFG.IN_EN) (modHalt fun u => { u with lowSince := u.lowSince.map fun _ => s.chr.ns }),
      plainWrite base n v, refreshHalt]
  | 0x34030 => .read fun s => seqs [plainWrite base n v,
      whenP (s.fld Fld.NVM_WDT_CFG.PERIOD_MS == 0) (modHalt fun u => { u with kickedAt := s.chr.ns })]
  | 0x34034 => wdtKick v
  | _ => plainWrite base n v

/-- The helms' registers (R227). -/
def hlmWrite (base n v : Nat) : Prog :=
  match base with
  | 0x0C000 => if bitAt v 0 then hlmEnable n else hlmDisable n
  | _ => plainWrite base n v

/-- A write of the register at `base`, element or context `n`. -/
def registerWrite (base n v : Nat) : Prog :=
  if base < 0x02000 then seqs [plainWrite base n v, refreshFault]
  else if base < 0x04000 then chrWrite base n v
  else if base < 0x06000 then lnkWrite base n v
  else if base < 0x08000 then treWrite base n v
  else if base < 0x0C000 then chtWrite base n v
  else if base < 0x0E000 then hlmWrite base n v
  else if base < 0x10000 then tskRegWrite base n v
  else if base < 0x14000 then dmaWrite base n v
  else if base < 0x18000 then qmWrite base n v
  else if base < 0x1C000 then insRegWrite base n v
  else if base < 0x1E000 then hicWrite base n v
  else if base < 0x20000 then icuWrite base n v
  else if base < 0x24000 then pwrWrite base n v
  else if base < 0x28000 then cpwWrite base n v
  else if base < 0x2C000 then pairWrite base n v
  else if base < 0x30000 then
    (if base = 0x2C020 then critExtraAdd (v / 65536) else seqs [plainWrite base n v, refreshFault])
  else if base < 0x34000 then plainWrite base n v
  else nvmWrite base n v

/-! ### Apertures (Table 18-7) -/

/-- A write to an aperture: the shadow chart, ASYM of a bearing and the safe value take it; the others are read only. -/
def apertureWrite (off v : Nat) : Prog :=
  if 0x80000 ≤ off ∧ off < 0xC0000 then shadowWrite 0 ((off - 0x80000) / 16) (off / 4 % 4) v
  else if 0xD0000 ≤ off ∧ off < 0xE0000 then whenP (off % 16 == 8) (asymWrite ((off - 0xD0000) / 16) (v % 65536))
  else if 0xE0000 ≤ off ∧ off < 0xE0400 then safeWrite (off - 0xE0000) v
  else .skip

/-- The code of a conversation's state (Table 18-8). -/
def ConvState.code : ConvState → Nat
  | .queued => 1 | .active => 2 | .backoff => 3 | .aborting => 4

/-- The conversation of a pipe: the first in the order of fetch. -/
def State.pipeConv (s : State) (node pipe : Nat) : Nat :=
  ((s.conv.convs.find? fun e => e.2.node == node && e.2.pipe == pipe).map fun e => e.2.state.code).getD 0

/-- A word of a pipe context (Table 18-8). -/
def State.pipeWord (s : State) (number word : Nat) : Nat :=
  let c := s.pipeCtx (number / 32) (number % 32)
  let b (x : Bool) := if x then 1 else 0
  match word with
  | 0 => if c.valid then 2 ^ 31 + b c.halted * 2 ^ 21 + b c.enabled * 2 ^ 20 + b c.inbound * 2 ^ 19 + c.kind % 4 * 2 ^ 17 +
      number % 32 * 2 ^ 12 + number / 32 % 4096 else b c.halted * 2 ^ 21 + b c.enabled * 2 ^ 20
  | 1 => c.credit % 32 * 2 ^ 16 + c.size % 2048
  | 2 => c.inSeq % 65536 * 65536 + c.outSeq % 65536
  | 3 => c.oldest % 65536 * 65536
  | 4 => s.pipeConv (number / 32) (number % 32) * 256 + c.lastStatus % 256
  | _ => 0

/-- The word that an aperture shows (Table 18-7). -/
def State.apertureWord (s : State) (off : Nat) : Nat :=
  if off < 0x80000 then (s.entry ((off - 0x40000) / 16)).word (off / 4 % 4)
  else if off < 0xC0000 then (s.shadowEntry ((off - 0x80000) / 16)).word (off / 4 % 4)
  else if off < 0xD0000 then (if (off - 0xC0000) / 16 = 4095 then 0 else (s.node ((off - 0xC0000) / 16)).word (off / 4 % 4))
  else if off < 0xE0000 then
    let b := s.bearing ((off - 0xD0000) / 16)
    ofBytes (((b.bytes (s.age b)).drop (off % 16)).take 4)
  else if off < 0xE0400 then
    let i := s.fld Fld.GBL_WIN_SAFE.ENTRY
    let bank := if s.bit Fld.GBL_WIN_SAFE.BANK then s.activeIdx else s.shadowIdx
    ofBytes (((safeValue (s.safes bank) i (tget {} (s.bank bank) i).payload).drop (off - 0xE0000)).take 4)
  else if off < 0xF0000 then 0
  else s.pipeWord (2048 * s.fld Fld.GBL_WIN_PIPE.BASE + (off - 0xF0000) / 32) (off / 4 % 8)

/-! ### Whole accesses -/

/-- A write of a word of BAR0 (R4 to R6). -/
def regWrite (off v : Nat) : Prog :=
  if 0x40000 ≤ off then apertureWrite off v
  else if 0x21000 ≤ off ∧ off < 0x22000 then modPwr fun p => { p with scratch := tset 0 p.scratch ((off - 0x21000) / 4) (v % 2 ^ 32) }
  else .read fun s => match s.regAt off with
    | none => .skip
    | some r => registerWrite r.1 r.2 (v % 2 ^ 32)

/-- What a read does before its value is taken: snapshots (R24, R137, R250), the end of a replay that the chart's shadowed set waits for (R158), and
fields that are counted on demand. -/
def beforeRead (base n : Nat) : Prog :=
  match base with
  | 0x0800C | 0x08040 => replayDone
  | 0x02008 => timeSnapshot
  | 0x06018 => whenP (n == 0) treSnapshot
  | 0x0E010 => whenP (n == 0) descSnapshot
  | 0x0E040 => whenP (n == 0) stateSnapshot
  | 0x1800C => refreshIns n
  | 0x24120 => .read fun s => whenP (s.cpwFn n == Fn.on)
      (putN Fld.CPW_KEEPALIVE.AGE_MS n (min 65535 ((s.chr.ns - (s.pwc n).heard) / 1000000)))
  | _ => .skip

/-- The word that the register at `base` shows, live where the tables say so: what a claim would return, without claiming (R351). -/
def State.registerWord (s : State) (base n : Nat) : Nat :=
  let unit := s.fld Fld.ALM_INDEX.UNIT
  let row := s.fld Fld.ALM_INDEX.ROW
  let kind := s.fld Fld.ALM_INDEX.KIND
  match base with
  | 0x01008 => ((List.range 32).map fun i => if s.icuInput i then 2 ^ i else 0).foldl (· + ·) 0
  | 0x1C028 => s.word base n + s.elapsed n * 2 ^ 8
  | 0x1E100 => ((List.range 32).map fun b => if s.icuPending (32 * n + b) then 2 ^ b else 0).foldl (· + ·) 0
  | 0x1E204 => match s.icuBest (s.icuEligibleList n) with
      | some src => 2 ^ 31 + src
      | none => 0
  | 0x1E218 => s.fld Fld.ICU_REQ.ARMED n * 2 + (if s.icuRequest n then 1 else 0)
  | 0x30014 => s.almUnitWord kind unit row
  | 0x30018 => s.almMonWord kind unit row
  | _ => s.word base n

/-- A read of a word of BAR0, and what follows with its value (R4 to R6): RC fields clear in the same access. -/
def regRead (off : Nat) (k : Nat → Prog) : Prog :=
  .read fun s =>
    if 0x40000 ≤ off then seqs [whenP (0x80000 ≤ off && (off < 0xC0000 || (0xE0000 ≤ off && off < 0xE0400 && !s.bit Fld.GBL_WIN_SAFE.BANK))) replayDone,
      .read fun s => k (s.apertureWord off)]
    else if 0x21000 ≤ off ∧ off < 0x22000 then k (tget 0 s.pwr.scratch ((off - 0x21000) / 4))
    else match s.regAt off with
      | none => k 0
      | some r => seqs [beforeRead r.1 r.2, .read fun t => seqs [
          forP ((fieldsAt r.1).filter fun f => f.acc == .rc) fun f => clear f r.2, k (t.registerWord r.1 r.2)]]

/-! ### Domains (R417) -/

/-- The domain of the register at an offset of BAR0, where it is one of the switchable ones; an offset that holds no register reaches none (R6). -/
def offsetDomain (off : Nat) : Option Nat :=
  if (registerAt off).isNone then none
  else if 0x04000 ≤ off ∧ off < 0x04000 + 19 * 0x100 then some (laneDomain ((off - 0x04000) / 0x100))
  else if 0x0C000 ≤ off ∧ off < 0x0C000 + 18 * 0x40 then some (helmDomain ((off - 0x0C000) / 0x40))
  else if 0x24100 ≤ off ∧ off < 0x24100 + 16 * 0x40 then some (5 + (off - 0x24100) / 0x40 / 4)
  else if 0x28000 ≤ off ∧ off < 0x2C000 then some 9
  else none

/-- The domain of an address of BAR4's TCM window. -/
def tcmDomain (off : Nat) : Option Nat := if off < 0x240000 then some (helmDomain (off / 0x20000)) else none

/-- A word access to a TCM through BAR4 (R216). -/
def tcmAccess (write : Bool) (off v : Nat) : Prog :=
  let h := off / 0x20000
  let itcm := off / 0x10000 % 2 == 0
  if write then tcmFabricWrite h itcm (off % 0x10000) (toBytes v 4)
  else .read fun s => emit (.pcie 0 (s.tcmWord h (off % 0x10000 + (if itcm then 0 else 0x10000000))))

/-- An access that reaches its place: a write is applied; a read answers with its value. -/
def accessNow (tcm write : Bool) (off v : Nat) : Prog :=
  if tcm then tcmAccess write off v
  else if write then regWrite off v
  else regRead off fun x => emit (.pcie 0 x)

/-- An access to a place whose domain is off switches the domain on and stalls (R417). -/
def access (tcm write : Bool) (off v : Nat) : Prog :=
  .read fun s => match (if tcm then tcmDomain off else offsetDomain off).filter fun d => !s.domGood d with
    | none => accessNow tcm write off v
    | some d => seqs [domainUp d true,
        modPwr fun p => { p with stalled := p.stalled ++ [{ domain := d, tcm := tcm, write := write, off := off, value := v }] }]

/-! ### A function's own window -/

/-- A write of a word of a function's MSI-X table (R365): unmasking sends what the vector owes. -/
def msixWrite (fn off v : Nat) : Prog :=
  let k := vecKey fn (off / 16)
  let change (f : MsixRow → MsixRow) : Prog := modIcu fun u => { u with msix := tset {} u.msix k (f (tget {} u.msix k)) }
  whenP (off < 0x8000) (match off / 4 % 4 with
    | 0 => change fun r => { r with addr := r.addr / 2 ^ 32 * 2 ^ 32 + v % 2 ^ 32 / 4 * 4 }
    | 1 => change fun r => { r with addr := r.addr % 2 ^ 32 + v % 2 ^ 32 * 2 ^ 32 }
    | 2 => change fun r => { r with data := v % 2 ^ 32 }
    | _ => seqs [change fun r => { r with masked := bitAt v 0 }, sendOwed k])

/-- The SLOT whose view a word of a function's window belongs to (R515). -/
def viewSlot (fn off : Nat) : Option Nat :=
  if 0xC000 ≤ off ∧ off < 0xC000 + 0x40 * (if fn = 0 then 4096 else 64) then some ((off - 0xC000) / 0x40) else none

/-- A write of a word of a function's MSI-X table or instance views. -/
def functionWrite (fn off v : Nat) : Prog :=
  match viewSlot fn off with
  | some slot => whenP (off % 0x40 == 0x1C) (viewErrCause fn slot v)
  | none => msixWrite fn off v

/-- What a read of a view does before its value is taken: fields that are counted on demand. -/
def beforeView (fn off : Nat) : Prog :=
  .read fun s => match (viewSlot fn off).bind (s.viewOf fn) with
    | some i => refreshIns i
    | none => .skip

/-- A read of a word of a function's MSI-X table, PBA or instance views, at the offsets of Table 18-2. -/
def State.functionWord (s : State) (fn off : Nat) : Nat :=
  if off < 0x8000 then
    let r := s.msixRow (vecKey fn (off / 16))
    match off / 4 % 4 with
    | 0 => r.addr % 2 ^ 32
    | 1 => r.addr / 2 ^ 32
    | 2 => r.data
    | _ => if r.masked then 1 else 0
  else if off < 0x8100 then
    ((List.range 32).map fun b =>
      if s.bit Fld.HIC_VEC_STATUS.MSG_PENDING (vecKey fn ((off - 0x8000) * 8 + b)) then 2 ^ b else 0).foldl (· + ·) 0
  else match viewSlot fn off with
    | some slot => s.viewWord fn slot (off % 0x40)
    | none => 0

/-! ### The row -/

/-- Whether a host write is applied while the boot runs: the ID_, GBL_, SEC_ and NVM_ blocks (R460). -/
def bootBlocks (off : Nat) : Bool :=
  decide (off < 0x02000) || (decide (0x2C000 ≤ off) && decide (off < 0x30000)) || (decide (0x34000 ≤ off) && decide (off < 0x40000))

/-- REGISTER_WRITE (R4 to R6, R365, R406, R460, R468, R514, R524): an aligned 32-bit access. `origin` is 0 the host, 1 a helm's fabric window, 2
the Keeper; `space` is 0 for BAR0, and 1 + fn for a function's own window with its MSI-X table, PBA and views at the offsets of Table
18-2. The access is a read where `write` is false: an RC field clears (Table 00-6). -/
def execRegisterWrite (origin space : Nat) (write : Bool) (off v : Nat) (s : State) : Out :=
  finish (whenP (origin < 3 && space ≤ 256 && off % 4 == 0 && off < (if space = 0 then 0x100000 else 0x50000) && decide (s.pstate ≤ 1)) (
    if space ≠ 0 then whenP (origin == 0) (
      if write then hostWrite (space - 1) (space != 1) false (functionWrite (space - 1) off v)
      else barRequest (space - 1) (seqs [beforeView (space - 1) off, .read fun t => emit (.pcie 0 (t.functionWord (space - 1) off))]))
    else if origin = 0 then
      (if write then hostWrite 0 true (bootBlocks off) (access false true off v) else barRequest 0 (access false false off v))
    else if origin = 1 && write && s.bit Fld.NVM_CTRL.HOST_ATTACH then raise Fld.NVM_EVENT.SUPERVISOR_WRITE
    else access false write off v)) s

end Sys2Proof.Machine
end

