-- ==== Sys2Proof/Machine/Boot.lean ====
section
/-! DEFINITION. The boot (R449 to R463): the choice of a slot, its verification, its sections, the fallback, NO_IMAGE and HOST_WAIT; and the
domains that come on for an access or a write (R416, R417). -/

namespace Sys2Proof.Machine

/-! ### Slots -/

/-- The slots that a boot tries, in its order (R450, R454, R461). -/
def State.bootOrder (s : State) : List Nat :=
  let straps := s.fld Fld.NVM_STATUS.STRAPS
  let sel := s.fld Fld.NVM_BOOT_SEL.SEL
  match s.boot.only with
  | some x => [x]
  | none =>
    if straps = 2 then [0]
    else if straps = 3 then [1]
    else if sel = 1 then [0, 1]
    else if sel = 2 then [1, 0]
    else if s.slotVersion 0 ≥ s.slotVersion 1 || !s.candidate 0 then [0, 1]
    else [1, 0]

/-- A failure is recorded (Table 15-9). -/
def bootFailure (slot section_ reason : Nat) : Prog :=
  seqs [put Fld.NVM_FAIL.REASON reason, put Fld.NVM_FAIL.SLOT slot, put Fld.NVM_FAIL.SECTION section_]

/-- No candidate loads (R457). -/
def noImage : Prog :=
  seqs [put Fld.NVM_STATUS.STATE 3, modBoot fun b => { b with slot := none, only := none }, refreshFault]

/-- The next candidate, or NO_IMAGE (R454, R457). -/
def nextSlot : Prog :=
  .read fun s => match s.bootOrder.find? fun x => s.candidate x && !s.boot.tried.contains x with
    | some x => seqs [clear Fld.NVM_STATUS.RESUMED, modBoot fun b => { b with slot := some x, verified := false, index := 0 }]
    | none => noImage

/-- A slot fails: after its first section a WARM reset goes before the next candidate, and every port power output goes through DISABLING (R457). -/
def slotFailed (slot section_ reason : Nat) : Prog :=
  .read fun s =>
    let tried := s.boot.tried ++ [slot]
    seqs [
      bootFailure slot section_ reason, raise Fld.NVM_EVENT.LOAD_FAILED, modBoot fun b => { b with tried := tried },
      if s.boot.index = 0 then nextSlot
      else seqs [raise Fld.NVM_STATUS.FALLBACK, raise Fld.NVM_EVENT.FALLBACK, modBoot fun b => { b with only := none }, warmReset tried,
        forP ((List.range 16).filter fun p => s.cpwFn p != Fn.off) discharge]]

/-- Why no slot is a candidate: the flash, its SFDP table, the descriptor, or the headers (Table 15-9). -/
def noCandidate (answers : Bool) (sizeMib : Nat) : Prog :=
  .read fun s =>
    if !answers then bootFailure 0 0 Reason.noFlash
    else if sizeMib < 16 || 256 < sizeMib then bootFailure 0 0 Reason.sfdp
    else if s.bootDescriptor.isNone then bootFailure 0 0 Reason.descriptor
    else match s.bootOrder.find? fun x => !s.candidate x && !s.boot.tried.contains x with
      | some x => seqs [bootFailure x 0 Reason.header, raise Fld.NVM_EVENT.LOAD_FAILED]
      | none => .skip

/-- A life-cycle change since the last boot: unfinished destruction is completed, and it is posted (R489). -/
def lifeSeen : Prog :=
  .read fun s => seqs [
    destroyKeys,
    whenP (s.sec.lifeSeen != s.lifeCycle) (seqs [
      raise Fld.SEC_EVENT.LIFE_CYCLE, postEvent 0 Ev.lifeCycle (s.sec.lifeSeen * 2 ^ 29 + s.lifeCycle * 2 ^ 26),
      modSec fun c => { c with lifeSeen := s.lifeCycle }]),
    refreshOtp]

/-- KEEPER_BOOT (R449 to R451, R454, R461, R480, R489, R505): the Keeper reads the OTP array and the flash, whose SFDP table gives a size in
MiB, and chooses a slot. -/
def execKeeperBoot (answers : Bool) (sizeMib : Nat) (s : State) : Out :=
  let good := answers && decide (16 ≤ sizeMib) && decide (sizeMib ≤ 256)
  finish (whenP (s.boot.keeper && s.pwr.phase == .run) (seqs [
    modBoot fun b => { b with keeper := false, slot := none, verified := false, index := 0, runDone := false },
    put Fld.NVM_STATUS.STATE 1, haltCause Halt.image true,
    clear Fld.NVM_STATUS.RESUMED, clear Fld.NVM_STATUS.SECTIONS_DONE, lifeSeen,
    put Fld.NVM_FLASH.SIZE_MIB (if good then sizeMib else 0),
    whenP (!s.boot.s3 && !s.boot.warm) (readJournal answers), bootRepairs answers,
    .read fun s =>
      if s.fld Fld.NVM_STATUS.STRAPS = 1 ∧ s.boot.only = none then
        put Fld.NVM_STATUS.STATE 4
      else seqs [
        put Fld.NVM_VERSION_A.VERSION (if s.candidate 0 then s.slotVersion 0 else 0),
        put Fld.NVM_VERSION_B.VERSION (if s.candidate 1 then s.slotVersion 1 else 0),
        if good && s.bootOrder.any (fun x => s.candidate x && !s.boot.tried.contains x) then nextSlot
        else seqs [noCandidate answers sizeMib, noImage]],
    refreshFault])) s

/-- Whether a boot that follows S3 resumes (R462). -/
def State.resumes (s : State) (slot : Nat) : Bool :=
  s.boot.s3 && s.slotVersion slot == s.fld Fld.NVM_LOADED.VERSION && s.slotResume slot

/-- The shadow takes what S3 has retained (R462). -/
def resume : Prog :=
  .read fun s => seqs [
    raise Fld.NVM_STATUS.RESUMED, setBank s.shadowIdx (s.bank s.activeIdx),
    put Fld.CHT_COUNT.ACTIVE s.legs.length,
    forP (List.range 16) fun p => seqs [
      putN Fld.CHT_PEAK.OUT_PEAK p (peakOf s.legs p false), putN Fld.CHT_PEAK.IN_PEAK p (peakOf s.legs p true)],
    refreshShadow]

/-- SLOT_VERIFIED (R455, R462, R484): the slot's header and section table are read and checked. -/
def execSlotVerified (answers : Bool) (s : State) : Out :=
  finish (match s.boot.slot with
    | none => .skip
    | some x => whenP (s.fld Fld.NVM_STATUS.STATE == 1 && !s.boot.verified) (
        let r := if answers then s.slotReason x else Reason.readTimeout
        if r ≠ 0 then slotFailed x 0 r
        else seqs [modBoot fun b => { b with verified := true, index := 0, s3 := false }, whenP (s.resumes x) resume])) s

/-! ### Sections -/

/-- A register-write list (R456), in order; the Keeper's writes are always applied (R460). A wait that reaches into the next tick leaves the entries
that follow it for later. -/
def writeList (n : Nat) (bs : List Byte) : Prog :=
  match n with
  | 0 => .skip
  | n + 1 =>
    if bs.length < 8 then .skip
    else
      let off := fieldAt bs 0 4
      let v := fieldAt bs 4 4
      if off = 0xFFFFFFFC then .read fun s =>
        let t := s.chr.ns + 1000 * v
        seqs [advanceTo t, .read fun u =>
          if u.chr.ns < t then modBoot fun b => { b with rest := some (t, bs.drop 8) } else writeList n (bs.drop 8)]
      else seqs [access false true off v, writeList n (bs.drop 8)]

/-- The items of a list of fixed size, numbered from a first index. -/
def itemsOf (size first : Nat) (bs : List Byte) : List (Nat × List Byte) :=
  (List.range (bs.length / size)).map fun k => (first + k, (bs.drop (size * k)).take size)

/-- The safe-value records of a SAFE section: index, length, bytes padded to 4. -/
def safeRecords : Nat → List Byte → List (Nat × List Byte)
  | 0, _ => []
  | n + 1, bs =>
    if bs.length < 4 then []
    else
      let len := fieldAt bs 2 2
      (fieldAt bs 0 2, (bs.drop 4).take len) :: safeRecords n (bs.drop (4 + (len + 3) / 4 * 4))

/-- What a section's content does (Table 15-6). -/
def applySection (type dest first : Nat) (bs : List Byte) : Prog :=
  match type with
  | 1 | 8 => writeList (bs.length / 8) bs
  | 2 => .read fun s => whenP (!s.bit Fld.NVM_STATUS.RESUMED) (seqs [
      forP (itemsOf 16 first bs) fun e => putNode e.1
        (.ofWords (fieldAt e.2 0 4) (fieldAt e.2 4 4) (fieldAt e.2 8 4) (fieldAt e.2 12 4)), refreshTree])
  | 3 => .read fun s => whenP (!s.bit Fld.NVM_STATUS.RESUMED) (seqs [
      forP ((itemsOf 16 first bs).filter fun e => decide (e.1 < 16384)) fun e => putShadow e.1
        (.ofWords (fieldAt e.2 0 4) (fieldAt e.2 4 4) (fieldAt e.2 8 4) (fieldAt e.2 12 4)), refreshShadow])
  | 4 => forP ((safeRecords bs.length bs).filter fun e => decide (e.1 < 16384)) fun e =>
      .read fun s => putSafe e.1 (e.2.take (s.shadowEntry e.1).payload)
  | 5 => .read fun s => match s.helmNamed dest with
      | some h => whenP (dest < 16) (devWrite (0x20000 * h + first) (bs.take (0x1FC00 - first)))
      | none => .skip
  | 6 => forP ((itemsOf 32 first bs).filter fun e => decide (e.1 < 4096)) fun e => .read fun s =>
      let words := (List.range 8).map fun k => fieldAt e.2 (4 * k) 4
      whenP (s.descAccepted e.1 words) (seqs [taskWrite e.1 words, taskDue e.1 true])
  | 7 => forP ((itemsOf 32 first bs).filter fun e => decide (e.1 < 131072)) fun e =>
      let w0 := fieldAt e.2 0 4
      let w1 := fieldAt e.2 4 4
      modPipe (e.1 / 32) (e.1 % 32) fun p => { p with
        valid := bitAt w0 31, halted := bitAt w0 21, enabled := bitAt w0 20, inbound := bitAt w0 19, kind := bitsAt w0 17 2
        credit := bitsAt w1 16 5, size := bitsAt w1 0 11 }
  | _ => .skip

/-- The last section has been applied: the image runs once the chart's first meridian comes. -/
def imageLoaded (slot : Nat) : Prog :=
  .read fun s => seqs [
    put Fld.NVM_LOADED.VERSION (s.slotVersion slot), put Fld.NVM_STATUS.SLOT slot, put Fld.SEC_SVN.LOADED (s.slotSvn slot),
    modBoot fun b => { b with runDone := true, only := none }]

/-- A section has been applied, unless a wait of its list is still to end. -/
def sectionDone (slot i : Nat) : Prog :=
  .read fun s => whenP s.boot.rest.isNone (seqs [
    put Fld.NVM_STATUS.SECTIONS_DONE (i + 1), modBoot fun b => { b with index := i + 1 },
    whenP (i + 1 == s.slotSections slot) (imageLoaded slot)])

/-- SECTION_APPLIED (R455, R456, R462): the next section is read and hashed; it is applied when its HASH and tag match. A list whose wait has ended goes
on. -/
def execSectionApplied (answers : Bool) (s : State) : Out :=
  let i := s.boot.index
  finish (match s.boot.slot with
    | none => .skip
    | some x => whenP (s.boot.verified && i < s.slotSections x) (match s.boot.rest with
      | some (t, bs) => atNs t (seqs [modBoot fun b => { b with rest := none }, writeList (bs.length / 8) bs, sectionDone x i])
      | none => whenP (s.fld Fld.NVM_STATUS.STATE == 1) (
        let r := if answers then s.sectionReason x i else Reason.readTimeout
        let e := s.section x i
        if r ≠ 0 then slotFailed x i r
        else seqs [applySection (s.sectionType x i) (fieldAt e 2 2) (fieldAt e 12 4) (s.sectionContent x i).2, sectionDone x i]))) s

/-- STATE becomes RUNNING at the first meridian, of an image or in HOST_WAIT (R461, Table 15-8). -/
def bootMeridian : Prog :=
  .read fun s => whenP ((s.fld Fld.NVM_STATUS.STATE == 1 && s.boot.runDone) || s.fld Fld.NVM_STATUS.STATE == 4) (seqs [
    put Fld.NVM_STATUS.STATE 2, raise Fld.NVM_EVENT.RUNNING, haltCause Halt.image false,
    put Fld.NVM_LOAD_TIME.US (min (2 ^ 20 - 1) ((s.chr.ns - s.boot.pgAt) / 1000))])

/-! ### Domains (R416, R417) -/

/-- OFF_DOMAIN_ACCESS (R417, R460, R514): an access of the host to BAR0, or to a helm's memories through BAR4. -/
def execOffDomainAccess (tcm write : Bool) (off v : Nat) (s : State) : Out :=
  finish (whenP (off % 4 == 0 && off < (if tcm then 0x240000 else 0x100000) && decide (s.pstate ≤ 1)) (
    if write then hostWrite 0 (!tcm) (!tcm && bootBlocks off) (access tcm true off v) else barRequest 0 (access tcm false off v))) s

/-- DOMAIN_GOOD (R416, R417, R422): a domain on its way reports good. It comes on with its registers at reset values; the accesses it has stalled
complete, then the DOMAIN commands that wait for it. A lane that a foghorn woke starts DETECT (R95). -/
def execDomainGood (d : Nat) (s : State) : Out :=
  let stalled := s.pwr.stalled.filter fun a => a.domain == d
  let woken := (List.range 19).filter fun n => laneDomain n == d && (s.lane n).waking
  finish (match s.pwr.coming.find? fun e => e.1 == d with
    | none => .skip
    | some e => seqs [
        resetDomain d, putFlag Fld.PWR_DOM_STATUS.GOOD d true,
        modPwr fun p => { p with
          coming := p.coming.filter fun c => c.1 != d, stalled := p.stalled.filter fun a => a.domain != d },
        whenP (e.2.2 || !stalled.isEmpty) (raise Fld.PWR_EVENT.DOM_ON),
        forP woken fun n => seqs [raise Fld.LNK_CTRL.ENABLE n, enterDetect n, raise Fld.LNK_EVENT.FOGHORN_SEEN n],
        forP stalled fun a => accessNow a.tcm a.write a.off a.value,
        forP (s.waiting 0x42 d) fun t => domainDone t St.success]) s

/-- DOMAIN_GOOD_TIMEOUT (R417): no good within twice the time of R417. Reads return 0, writes are dropped, and the domain stays off. -/
def execDomainGoodTimeout (d : Nat) (s : State) : Out :=
  finish (match s.pwr.coming.find? fun e => e.1 == d with
    | none => .skip
    | some e => atNs (e.2.1 + (if d = 3 ∨ d = 4 then 60000 else 40000)) (seqs [
        domainDown d, raise Fld.PWR_EVENT.DOM_FAULT,
        modPwr fun p => { p with stalled := p.stalled.filter fun a => a.domain != d },
        forP (s.pwr.stalled.filter fun a => a.domain == d && !a.write) fun _ => emit (.pcie 0 0)])) s

end Sys2Proof.Machine
end

