-- ==== Sys2Proof/Machine/Devices.lean ====
section
/-! DEFINITION. The parties below the root ports: nodes (R41, R142, R184 to R187, R190, R193, R200, R203 to R205, R207, R209) and hubs
(R36, R102 to R110, R149, R150). A device is named by a number of its own; its ends are those of `Lanes`. Instants are in 2^-16 ns since reset. While its upstream link is
not UP a device neither sends nor receives (R91). -/

namespace Sys2Proof.Machine

/-! ### Pipes of a node -/

/-- A pipe of a node: pipe 0 is never DISABLED (Table 06-14). -/
def NodeDev.pipe (n : NodeDev) (k : Nat) : NodePipe := tget (if k = 0 then {} else { state := .disabled }) n.pipes k

/-- A node with one of its pipes changed. -/
def NodeDev.setPipe (n : NodeDev) (k : Nat) (p : NodePipe) : NodeDev :=
  { n with pipes := tset (if k = 0 then {} else { state := .disabled }) n.pipes k p }

/-- A node with a function applied to one of its pipes. -/
def NodeDev.onPipe (n : NodeDev) (k : Nat) (f : NodePipe → NodePipe) : NodeDev := n.setPipe k (f (n.pipe k))

/-- Whether a node takes a packet by its address (R187): its own, or 4,095 while it has none. -/
def NodeDev.takes (n : NodeDev) (addr : Nat) : Bool := if n.addr = 0 then addr == 4095 else addr == n.addr

/-- A pipe with its counters at 0 (R189). -/
def NodePipe.fresh (p : NodePipe) : NodePipe := { p with expect := 0, toSend := 0, oweNak := false, oweAck := false, taken := [] }

/-- Whether a pipe of a node is inbound, by its descriptor (R114). -/
def NodeDev.pipeInbound (n : NodeDev) (k : Nat) : Bool :=
  n.pipeDesc.any fun d => ofBytes (d.take 1) % 32 == k && bitAt (ofBytes ((d.drop 1).take 1)) 2

/-- A field of the control request a node holds (Table 06-7). -/
def NodeDev.req (n : NodeDev) (off len : Nat) : Nat := ofBytes ((n.request.drop off).take len)

/-- Whether the request a node holds has an inbound data stage still open. -/
def NodeDev.inData (n : NodeDev) : Bool := bitAt (n.req 0 1) 7 && n.req 6 2 != 0 && !(n.pipe 0).closed

/-! ### Sending upstream -/

/-- The end of a device's upstream link: port A, or B where only B is UP. -/
def State.upEnd (s : State) (d : Nat) : Nat := if (s.lane (32 + 32 * d)).st = 7 then 32 + 32 * d else 48 + 32 * d

/-- The generation of a device's upstream link. -/
def State.upGen (s : State) (d : Nat) : Nat := s.endGen (s.upEnd d)

/-- The upstream ports a device sends on: a dual-homed hub sends on both (R425). -/
def State.upPorts (s : State) (d : Nat) : List Nat :=
  if (s.hubOf d).dual then [0, 16].filter fun p => (s.lane (32 + 32 * d + p)).st == 7 else if (s.lane (32 + 32 * d)).st = 7 then [0] else []

/-- A device's upstream lane carries a frame of `n` slots from an instant on. -/
def NodeDev.occupied (v : NodeDev) (now : Nat) (launch : Int) (n : Nat) : NodeDev :=
  { v with busy := (v.busy.filter fun e => decide (now < e.2)) ++ [((launch / 65536).toNat, (launch / 65536).toNat + 32 * n)] }

/-- A device launches a frame of its own upstream. -/
def sendUp (d : Nat) (launch : Int) (frame : List Byte) : Prog :=
  .read fun s => seqs [
    forP (s.upPorts d) fun p => emit (.nodeFrame d p launch (padded (s.endGen (32 + 32 * d + p)) frame)),
    modDev d fun v => v.occupied s.chr.ns launch (frameSlots (s.upGen d) (frame.length - 12))]

/-! ### The marker -/

/-- The width of TICK in the marker at a generation (Table 02-1). -/
def tickBits (gen : Nat) : Nat := if gen = 1 then 8 else 24

/-- A configuration takes effect (R205): pipes are enabled or disabled and every counter returns to 0; pipe 0 has had no SETUP since. -/
def NodeDev.configured (n : NodeDev) (c : NodeConfig) : NodeDev :=
  (List.range 32).foldl (fun m k => m.onPipe k fun p =>
      { p.fresh with
        ready := []
        state := if k = 0 then (if p.state = .disabled then .idle else p.state)
          else if bitAt c.pipeEn k then (if p.state = .disabled then .idle else p.state) else .disabled })
    { n with config := some c, configNext := none, request := [], finished := false, refused := false }

/-- What a node does at the meridian that a marker opens (R40, R41, R58, R205): due bearing and configuration come into use, the local
meridian is the arrival less DELAY_DN and CORR, an EPOCH that has changed invalidates its time until the next bearing, whose reference time it takes at the
local meridian of the reference tick. -/
def NodeDev.mark (n : NodeDev) (gen word arrival : Nat) : NodeDev :=
  let m := markerOf gen word
  let due (t : Nat) : Bool := t % 2 ^ tickBits gen == m.1
  let n := match m.2.2 with
    | some e => if e ≠ n.epoch then { n with epoch := e, timeValid := false } else n
    | none => n
  let n := match n.bearingNext with
    | some b => if due b.applyTick then { n with bearing := some b, bearingNext := none } else n
    | none => n
  let n := match n.configNext with
    | some c => if due c.applyTick then n.configured c else n
    | none => n
  let delay : Int := match n.bearing with
    | some b => (b.delayDn : Int) + m.2.1
    | none => 0
  let n := { n with marker := some m.1, markerAt := arrival, localMerid := arrival - delay }
  match n.bearing with
  | some b => if due b.refTick ∧ due b.applyTick then { n with timeValid := true, timeRef := (n.localMerid, b.refNs * 65536 + b.refFrac) } else n
  | none => n

/-- The status leg of a hub (Table 04-3). -/
def HubState.statusBytes (h : HubState) : List Byte :=
  let link := (((List.range 15).filter fun p => (h.port (p + 1)).state != .down).map fun p => 2 ^ (p + 1)).foldl (· + ·) 0
  toBytes h.change 2 ++ toBytes link 2 ++ toBytes h.powerFault 2 ++ toBytes (h.flags % 8) 1 ++ toBytes h.seq 1

/-- The launch instant of a node's slot (R41, R151, Table 06-4): by its bearing, or from the marker's arrival. -/
def NodeDev.launch (n : NodeDev) (slot : Nat) : Int :=
  match n.bearing with
  | some b => n.localMerid + 32 * 65536 * (slot : Int) - b.advanceUp
  | none => n.markerAt + 32 * 65536 * (slot : Int)

/-- What an inbound leg of a node carries: its sample with the STALE and NODE_FAULT flags (bits 0 and 1), of exactly PAYLOAD bytes; a hub's leg of pipe 0 is its
status (R109). -/
def NodeDev.sample (n : NodeDev) (l : NodeLeg) (given : Option (Nat × List Byte)) : Nat × List Byte :=
  match n.hub with
  | some h => if l.pipe = 0 then (0, fitTo l.payload h.statusBytes) else ((given.getD (0, [])).1, fitTo l.payload (given.getD (0, [])).2)
  | none => ((given.getD (0, [])).1, fitTo l.payload (given.getD (0, [])).2)

/-- An inbound leg of a node for a tick, both copies (R141, R142). -/
def sendNodeLeg (d : Nat) (n : NodeDev) (l : NodeLeg) (x : Nat × List Byte) : Prog :=
  let frame (dup : Bool) := legFrame n.addr l.pipe true (n.marker.getD 0 % 256) dup false false (bitAt x.1 0) (bitAt x.1 1) x.2
  seqs [sendUp d (n.launch l.start) (frame false), whenP l.dup (sendUp d (n.launch (l.start + l.dupOffset)) (frame true))]

/-- NODE_MARKER_RECEIVE (R41, R142, R205): a marker arrives, by its word (`markerOf`) and its instant; `samples` are what the node's inbound legs carry, in the order of
its configuration. Every leg active in the tick is launched. A hub that is dual-homed takes markers by HUB_MARKER_FORWARD's rule. -/
def execNodeMarkerReceive (d word arrival : Nat) (samples : List (Nat × List Byte)) (s : State) : Out :=
  let gen := s.upGen d
  finish (whenP (s.upstreamUp d) (seqs [
    modDev d fun n => n.mark gen word arrival,
    .read fun t =>
      let n := t.dev d
      let tick := (markerOf gen word).1
      match n.config with
      | none => .skip
      | some c => forP c.legs.zipIdx fun e => whenP (tick % 2 ^ e.1.k == e.1.phase) (sendNodeLeg d n e.1 (n.sample e.1 samples[e.2]?))])) s

/-- A frame reaches a node (R187, R207): a damaged one is discarded and makes its next handshake NAK; one to another address is discarded. -/
def nodeTakes (d : Nat) (frame : List Byte) (k : Header → Prog) : Prog :=
  .read fun s =>
    let h := Header.ofBytes frame
    let mine := (s.dev d).takes h.addr
    whenP (s.upstreamUp d) (
      if !frameGood frame then whenP (!headerGood frame || mine) (modDev d fun n => { n with oweNak := true })
      else whenP (mine && !h.inbound) (k h))

/-- NODE_LEG_RECEIVE (R142): an outbound leg whose SEQ is the last marker's TICK is acted on; any other is discarded. -/
def execNodeLegReceive (d : Nat) (frame : List Byte) (s : State) : Out :=
  finish (nodeTakes d frame fun h => .read fun s =>
    whenP (!h.packet && (s.dev d).addr != 0 && (match (s.dev d).marker with
      | some t => h.low == t % 256
      | none => false))
    (modDev d fun n => { n with payloads := tset [] n.payloads h.pipe (framePayload frame) })) s

/-! ### Packets at a node -/

/-- A node's next handshake on a pipe is NAK (Table 06-6). -/
def owesNak (d pipe : Nat) : Prog := modDev d fun n => n.onPipe pipe fun p => { p with oweNak := true }

/-- An outbound DATA packet by its class (R190, Table 06-6). -/
def nodeData (d pipe seq : Nat) (payload : List Byte) : Prog :=
  .read fun s =>
    let p := (s.dev d).pipe pipe
    let dist := (seq + 65536 - p.expect) % 65536
    whenP (p.state != .halted && p.state != .disabled) (
      if dist = 0 then modDev d fun n => n.onPipe pipe fun p =>
        { p with expect := (p.expect + 1) % 65536, taken := p.taken ++ [payload], state := .active }
      else whenP (dist < 65520) (owesNak d pipe))

/-- NODE_DATA_RECEIVE (R190, R207). -/
def execNodeDataReceive (d : Nat) (frame : List Byte) (s : State) : Out :=
  finish (nodeTakes d frame fun h => whenP (h.packet && h.type == Pt.data) (nodeData d h.pipe h.seq (framePayload frame))) s

/-- The standard requests a node implements (Table 06-8). -/
def NodeDev.implements (n : NodeDev) (code : Nat) : Bool :=
  (1 ≤ code && code ≤ 5) || (code == 6 && bitAt (descFeatures n.desc) 2) || (n.isHub && 0x10 ≤ code && code ≤ 0x13)

/-- NODE_SETUP_RECEIVE (R203, R207): the node abandons its control transfer, resets pipe 0 and begins the request; a standard request it
does not implement is refused. -/
def execNodeSetupReceive (d : Nat) (frame : List Byte) (s : State) : Out :=
  let payload := framePayload frame
  let t := ofBytes (payload.take 1)
  let code := ofBytes ((payload.drop 1).take 1)
  finish (nodeTakes d frame fun h => whenP (h.packet && h.type == Pt.setup && h.pipe == 0) (
    if h.length ≠ 16 then owesNak d 0
    else modDev d fun n =>
      { n.onPipe 0 fun p => { p.fresh with expect := 1, toSend := 1, ready := [], closed := false, state := .active } with
        request := payload.take 16, answer := [], answerStatus := 0, finished := false, pendingAddr := 0
        refused := bitsAt t 5 2 == 3 || (bitsAt t 5 2 == 0 && !n.implements code) })) s

/-- ABORT at a node (R189, R200): the partial transfer is discarded, the counters are reset, and the next handshake is ACK with SEQ 0; HALTED stays. -/
def NodeDev.abort (n : NodeDev) (pipe : Nat) : NodeDev :=
  let m := n.onPipe pipe fun p => { p.fresh with oweAck := true, ready := [], state := if p.state = .active then .idle else p.state }
  if pipe = 0 then { m with request := [], answer := [], finished := false, refused := false, pendingAddr := 0 } else m

/-- NODE_ABORT_RECEIVE (R200). -/
def execNodeAbortReceive (d : Nat) (frame : List Byte) (s : State) : Out :=
  finish (nodeTakes d frame fun h => whenP (h.packet && h.type == Pt.handshake && h.length == 4 && bitsAt (ofBytes (framePayload frame)) 0 8 == 6)
    (modDev d fun n => n.abort h.pipe)) s

/-- ACK or WAIT of the controller at a node (R193, R207): what comes before SEQ is freed; ACK closes the transfer, WAIT makes the node send from SEQ. -/
def NodeDev.freed (n : NodeDev) (pipe seq : Nat) (close : Bool) : NodeDev :=
  let k := (seq + 65536 - (n.pipe pipe).toSend) % 65536
  if k ≤ (n.pipe pipe).ready.length then n.onPipe pipe fun p => { p with
    ready := p.ready.drop k, toSend := seq % 65536, closed := p.closed || close
    state := if close ∧ p.state = .active then .idle else p.state }
  else n

/-- NODE_HANDSHAKE_RECEIVE (R175, R193, R207): any code but ACK, WAIT and ABORT is that of a damaged frame. -/
def execNodeHandshakeReceive (d : Nat) (frame : List Byte) (s : State) : Out :=
  let code := bitsAt (ofBytes (framePayload frame)) 0 8
  finish (nodeTakes d frame fun h => whenP (h.packet && h.type == Pt.handshake) (
    if h.length = 4 ∧ (code = 1 ∨ code = 3) then modDev d fun n => n.freed h.pipe h.seq (code == 1)
    else whenP (h.length != 4 || code != 6) (modDev d fun n => { n with oweNak := true }))) s

/-- The packets that fit a grant's slots one after another (R185). -/
def fitting (gen slots : Nat) : List (List Byte) → List (List Byte)
  | [] => []
  | p :: t => if frameSlots gen p.length ≤ slots then p :: fitting gen (slots - frameSlots gen p.length) t else []

/-- The handshake a node answers with (Table 06-5): its code, STATUS byte and sequence number. After a damaged frame it is NAK (R207). -/
def NodeDev.handshake (n : NodeDev) (pipe : Nat) (wait : Bool) : Nat × Nat × Nat :=
  let p := n.pipe pipe
  if p.state = .halted ∨ p.state = .disabled ∨ (pipe = 0 ∧ n.refused) then (4, 0, 0)
  else if n.oweNak then (2, 0, p.expect)
  else if p.oweAck then (1, 0, 0)
  else if pipe = 0 ∧ n.request.isEmpty then (2, 0, 0)
  else if pipe = 0 ∧ n.finished then (5, n.answerStatus, p.expect)
  else if wait then (3, 0, p.expect)
  else if p.oweNak then (2, 0, p.expect)
  else (1, 0, p.expect)

/-- Frames sent back to back from an instant, each at the slot boundary after its predecessor's slots at a generation (R185). -/
def launches (gen : Nat) (at_ : Int) : List (List Byte) → List (Int × List Byte)
  | [] => []
  | f :: t => (at_, f) :: launches gen (at_ + 32 * 65536 * frameSlots gen (f.length - 12)) t

/-- A node sends a handshake in a grant if it ends within SLOTS (R185), and what follows from having sent it. After the STATUS of SET_ADDRESS the node adopts
its address (R187). -/
def nodeHandshake (d : Nat) (h : Header) (launch : Int) (gen slots credit : Nat) (wait : Bool) : Prog :=
  .read fun s =>
    let n := s.dev d
    let a := n.handshake h.pipe wait
    whenP (frameSlots gen 4 ≤ slots) (seqs [
      sendUp d launch (packetFrame h.addr h.pipe true Pt.handshake a.2.2 (handshakeBytes a.1 a.2.1 (if a.1 = 1 then max 1 (min 16 credit) else 0))),
      modDev d fun n =>
        let m := { n.onPipe h.pipe fun p => { p with
          oweNak := p.oweNak && a.1 != 2, oweAck := p.oweAck && a.1 != 1, state := if a.1 = 5 then .idle else p.state } with oweNak := false }
        if a.1 = 5 ∧ n.pendingAddr ≠ 0 then { m with addr := n.pendingAddr, pendingAddr := 0 } else m])

/-- A node answers a data grant (R185, R186, R193): the packets before SEQ are freed, and those from it on that fit are sent; WAIT when none is ready. -/
def nodeDataGrant (d : Nat) (h : Header) (launch : Int) (gen slots : Nat) (wait : Bool) (fresh : List (List Byte)) : Prog :=
  .read fun s =>
    let n := s.dev d
    let p := n.pipe h.pipe
    let ready := p.ready ++ fresh
    let k := (h.seq + 65536 - p.toSend) % 65536
    let kept := if k ≤ ready.length then ready.drop k else ready
    let seq := if k ≤ ready.length then h.seq else p.toSend
    let sent := fitting gen slots (kept.take (if n.config.isNone then 1 else 16))
    let frame (i : Nat) (b : List Byte) := packetFrame h.addr h.pipe true Pt.data ((seq + i) % 65536) b
    let keep (st : PipeState) := modDev d fun n => n.onPipe h.pipe fun p => { p with ready := kept, toSend := seq, state := st }
    if wait || kept.isEmpty then seqs [keep p.state,
      whenP (frameSlots gen 4 ≤ slots) (seqs [
        sendUp d launch (packetFrame h.addr h.pipe true Pt.handshake seq (handshakeBytes 3 0 0)), modDev d fun n => { n with oweNak := false }])]
    else seqs [keep (if sent.isEmpty then p.state else .active),
      forP (launches gen launch (sent.zipIdx.map fun e => frame e.2 e.1)) fun e => sendUp d e.1 e.2]

/-- NODE_GRANT_RECEIVE (R184 to R187, Table 06-5): a grant frame that ended at the node's pins at an instant. `wait` is whether the node is not ready, `credit` what it
advertises, `fresh` inbound packets that have become ready. -/
def execNodeGrantReceive (d : Nat) (frame : List Byte) (ended credit : Nat) (wait : Bool) (fresh : List (List Byte)) (s : State) : Out :=
  finish (nodeTakes d frame fun h => .read fun s =>
    let n := s.dev d
    let w := ofBytes (framePayload frame)
    let slots := bitsAt w 23 9
    let launch := n.launch (bitsAt w 8 15)
    let p := n.pipe h.pipe
    let gen := match n.config with
      | some c => max 1 c.pathGen
      | none => s.upGen d
    let asksData := if h.pipe = 0 then n.inData && !n.refused && !n.request.isEmpty else n.pipeInbound h.pipe
    let stops := p.state == .halted || p.state == .disabled || p.oweAck
    whenP (h.packet && h.type == Pt.grant && h.length == 4 && decide ((ended : Int) + 512 * 65536 ≤ launch) && (match n.marker with
        | some t => t % 256 == bitsAt w 0 8
        | none => false))
      (if asksData && !stops then nodeDataGrant d h launch gen slots wait fresh
       else nodeHandshake d h launch gen slots credit wait)) s

/-- NODE_PIPE_HALT (R209): a bulk pipe refuses further traffic. -/
def execNodePipeHalt (d pipe : Nat) (s : State) : Out :=
  let st := ((s.dev d).pipe pipe).state
  finish (whenP (pipe != 0 && pipe < 32 && (st == .idle || st == .active))
    (modDev d fun n => n.onPipe pipe fun p => { p with state := .halted })) s

/-! ### Standard requests -/

/-- The data that the outbound stage of a node's request has brought. -/
def NodeDev.data (n : NodeDev) : List Byte := (n.pipe 0).taken.flatten

/-- What the data stage of a request must be (Table 06-8). -/
inductive DataStage where
  | none
  | inward (len : Nat)
  | outward (len : Nat)
  deriving DecidableEq, Repr

/-- Whether a request's DATA_DIR and LENGTH are those of its data stage. -/
def NodeDev.stageOk (n : NodeDev) : DataStage → Bool
  | .none => n.req 6 2 == 0
  | .inward k => bitAt (n.req 0 1) 7 && n.req 6 2 == k
  | .outward k => !bitAt (n.req 0 1) 7 && n.req 6 2 == k

/-- Carry out the request a node holds: `ok` is whether its fields lie within Table 06-8, `f` what it does to the node. An outbound data
stage must be complete. Fields outside the table refuse it (R203). -/
def request (d code : Nat) (stage : NodeDev → DataStage) (ok : NodeDev → Bool) (f : NodeDev → NodeDev) : Prog :=
  .read fun s =>
    let n := s.dev d
    let out := !bitAt (n.req 0 1) 7
    whenP (!n.request.isEmpty && bitsAt (n.req 0 1) 5 2 == 0 && n.req 1 1 == code && !n.finished && !n.refused) (
      if !(n.stageOk (stage n) && ok n) then modDev d fun n => { n with refused := true }
      else whenP (!(out && n.req 6 2 != 0) || n.data.length == n.req 6 2) (modDev d fun n => { f n with finished := true }))

/-- Cut an answer into packets of a node's size. -/
def packets (size : Nat) (fuel : Nat) (l : List Byte) : List (List Byte) :=
  match fuel with
  | 0 => []
  | fuel + 1 => if l.length < size then [l] else l.take size :: packets size fuel (l.drop size)

/-- P of a node's pipe 0 (R194): the lowest of 1,024, MAX_PACKET, and MAX_PAYLOAD where that is not 0; before the descriptor is read, 64 bytes. -/
def NodeDev.packetSize (n : NodeDev) : Nat :=
  let limit := match n.pipeDesc.find? fun d => ofBytes (d.take 1) % 32 == 0 with
    | some d => ofBytes ((d.drop 2).take 2)
    | none => 0
  let p := min 1024 (ofBytes ((n.desc.drop 22).take 2))
  if n.addr = 0 then 64 else max 1 (if limit = 0 then p else min p limit)

/-- A node answers an inbound data stage, cut to the request's LENGTH. -/
def NodeDev.respond (n : NodeDev) (bs : List Byte) : NodeDev :=
  let out := bs.take (n.req 6 2)
  { n.onPipe 0 fun p => { p with ready := packets n.packetSize (out.length + 1) out } with answer := out }

/-- REQ_GET_DESCRIPTOR (R113, R114): the node answers with the descriptors that it is made with. -/
def execReqGetDescriptor (d : Nat) (desc : List Byte) (pipes : List (List Byte)) (s : State) : Out :=
  finish (seqs [
    modDev d fun n => { n with desc := desc, pipeDesc := pipes },
    request d 0x01 (fun n => .inward (if n.req 2 2 = 1 then 64 else 16 * n.pipeDesc.length)) (fun n => (n.req 2 2 == 1 || n.req 2 2 == 2) && n.req 4 2 == 0)
      (fun n => n.respond (if n.req 2 2 = 1 then n.desc else n.pipeDesc.flatten))]) s

/-- REQ_GET_STATUS (R203): HALTED, and whether a configuration and a bearing are in use. -/
def execReqGetStatus (d : Nat) (s : State) : Out :=
  finish (request d 0x02 (fun _ => .inward 8) (fun n => n.req 2 2 == 0 && n.req 4 2 == 0) (fun n =>
    let halted := (((List.range 32).filter fun k => (n.pipe k).state == .halted).map (2 ^ ·)).foldl (· + ·) 0
    n.respond (toBytes halted 4 ++
      toBytes ((if n.config.isSome then 1 else 0) + (if n.bearing.isSome then 2 else 0)) 1 ++ toBytes 0 3))) s

/-- REQ_CLEAR_HALT (R189, R203). -/
def execReqClearHalt (d : Nat) (s : State) : Out :=
  finish (request d 0x03 (fun _ => .none) (fun n => n.req 2 2 == 0 && 1 ≤ n.req 4 2 && n.req 4 2 ≤ 31) (fun n =>
    n.onPipe (n.req 4 2) fun p => { p.fresh with state := if p.state = .halted then .idle else p.state })) s

/-- REQ_SET_ADDRESS (R187): the address is adopted once STATUS has been sent. -/
def execReqSetAddress (d : Nat) (s : State) : Out :=
  finish (request d 0x04 (fun _ => .none) (fun n => 1 ≤ n.req 2 2 && n.req 2 2 ≤ 4094 && n.req 4 2 == 0)
    (fun n => { n with pendingAddr := n.req 2 2 })) s

/-- The inbound legs of a SET_CONFIG (Table 06-10). -/
def configLegsOf (bs : List Byte) (count : Nat) : List NodeLeg :=
  (List.range count).map fun i =>
    let e := (bs.drop (16 + 8 * i)).take 8
    let w (o n : Nat) := ofBytes ((e.drop o).take n)
    { pipe := bitsAt (w 0 1) 0 5, dup := bitAt (w 0 1) 7, dupOffset := w 1 1, phase := bitsAt (w 2 2) 0 9, k := bitsAt (w 2 2) 12 4
      start := w 4 2, payload := bitsAt (w 6 2) 0 11 }

/-- REQ_SET_CONFIG (R205): the configuration awaits its apply tick. Its length is that of the legs it lists. -/
def execReqSetConfig (d : Nat) (s : State) : Out :=
  finish (request d 0x05
    (fun n => .outward (if n.data.length = n.req 6 2 then 16 + 8 * ofBytes ((n.data.drop 9).take 1) else 16 + 8 * min 64 ((n.req 6 2 - 16) / 8)))
    (fun n => n.req 2 2 == 0 && n.req 4 2 == 0) (fun n =>
    let w (o k : Nat) := ofBytes ((n.data.drop o).take k)
    { n with configNext := some {
        applyTick := w 0 8, pathGen := w 8 1 % 4, pipeEn := w 12 4, legs := configLegsOf n.data (min 64 (w 9 1)) } })) s

/-- REQ_SET_BEARING (R204): the bearing awaits its apply tick. -/
def execReqSetBearing (d : Nat) (s : State) : Out :=
  finish (request d 0x06 (fun _ => .outward 40) (fun n => n.req 2 2 == 0 && n.req 4 2 == 0) (fun n =>
    let w (o k : Nat) := ofBytes ((n.data.drop o).take k)
    { n with bearingNext := some {
        delayDn := w 0 4, advanceUp := w 4 4, refTick := w 8 8, refNs := w 16 8, refFrac := w 24 2, applyTick := w 32 8 } })) s

/-! ### Hubs -/

/-- DOWN_PORTS of a hub's descriptor (R113). -/
def NodeDev.downPorts (n : NodeDev) : Nat := ofBytes ((n.desc.drop 19).take 1)

/-- REQ_SET_ROUTE (R103). -/
def execReqSetRoute (d : Nat) (s : State) : Out :=
  finish (request d 0x10 (fun _ => .none) (fun n => 1 ≤ n.req 2 2 && n.req 2 2 ≤ 4094 && n.req 4 2 ≤ 15)
    (fun n => n.onHub fun h => { h with routes := tset 0 h.routes (n.req 2 2) (n.req 4 2) })) s

/-- What SET_PORT_GATE does to a hub's port (R102, R110). -/
def HubState.gate (h : HubState) (p action seq : Nat) : HubState :=
  let v := h.port p
  if action = 1 then (if v.state = .unaddressed then h.setPort p { v with gate := true } else h).clear (2 ^ p) seq
  else if action = 2 then (if v.state = .unaddressed then h.setPort p { v with state := .addressed, gate := false } else h)
  else if v.state = .addressed then h.down p
  else h.setPort p { v with gate := false }

/-- The end of a hub's downstream port. -/
def portEnd (d p : Nat) : Nat := 32 + 32 * d + p

/-- A hub sends RETRAIN with KIND full on a downstream port whose link is UP. -/
def hubRetrain (d p : Nat) : Prog := .read fun s => whenP (s.lstate (portEnd d p) == Ls.up) (fullRetrain (portEnd d p))

/-- REQ_SET_PORT_GATE (R102): CLOSED on an ADDRESSED port sends RETRAIN with KIND full on it. -/
def execReqSetPortGate (d : Nat) (s : State) : Out :=
  let n := s.dev d
  finish (seqs [
    request d 0x11 (fun _ => .none) (fun n => 1 ≤ n.req 2 2 && n.req 2 2 ≤ 15 && n.req 4 2 ≤ 2)
      (fun n => n.onHub fun h => h.gate (n.req 2 2) (n.req 4 2) (n.req 8 1)),
    .read fun t => whenP (((s.hubOf d).port (n.req 2 2)).state == .addressed && ((t.hubOf d).port (n.req 2 2)).state == .down)
      (hubRetrain d (n.req 2 2))]) s

/-- REQ_CLEAR_PORT_CHANGE (R110). -/
def execReqClearPortChange (d : Nat) (s : State) : Out :=
  finish (request d 0x12 (fun _ => .none) (fun n => n.req 4 2 == 0) (fun n => n.onHub fun h => h.clear (n.req 2 2) (n.req 8 1))) s

/-- The READ_TIMING record of a port (Table 02-3) at an instant in ns. -/
def HubPort.record (p : HubPort) (now : Nat) : List Byte :=
  toBytes (p.fix.filtered.getD 0) 4 ++ toBytes (encodeSigned (saturateSigned (p.fix.theta / 16) 16) 16) 2 ++ toBytes p.resUp 4 ++
    toBytes (min 65535 ((now - p.fix.lastGood) / 1000000)) 2 ++
    toBytes ((if p.valid then 1 else 0) + (if p.state = .down then 0 else 2)) 1 ++ toBytes 0 3

/-- REQ_READ_TIMING (R36, R203): 16 bytes a port from the first port named. -/
def execReqReadTiming (d : Nat) (s : State) : Out :=
  finish (request d 0x13 (fun n => .inward (16 * max 1 (n.req 6 2 / 16)))
    (fun n => n.req 2 2 == 0 && 1 ≤ n.req 4 2 && n.req 4 2 ≤ 15 && n.req 4 2 + n.req 6 2 / 16 ≤ 16) (fun n =>
    n.respond (((List.range (n.req 6 2 / 16)).map (· + n.req 4 2)).flatMap fun p =>
      ((n.hub.getD {}).port p).record s.chr.ns))) s

/-- Whether the link of a hub's downstream port leads to a legacy node. -/
def State.legacyPort (s : State) (d p : Nat) : Bool := (s.lane (portEnd d p)).legacy

/-- The downstream ports of a hub that are not DOWN. -/
def HubState.upPorts (h : HubState) : List Nat := ((List.range 15).map (· + 1)).filter fun p => (h.port p).state != .down

/-- The marker on a hub's downstream port (R36, R105, R150): CORR raised by the port's residence and in the form of the port's generation; on a legacy
port at the hub's local meridian + 2,048 ns with CORR 0. -/
def hubMarker (d p : Nat) (n : NodeDev) (gen word arrival residence : Nat) : Prog :=
  .read fun s =>
    let out := s.endGen (portEnd d p)
    let m := markerOf gen word
    let legacy := s.legacyPort d p
    let state := if gen = 1 then 0 else bitsAt word 56 2
    emit (.hubMarker d p ((OSet.meridian m.1 (if legacy then 0 else corrUnits out (m.2.1 + residence)) state (m.2.2.getD 0)).codes out)
      (if legacy then n.localMerid + 2048 * 65536 else arrival + residence))

/-- HUB_MARKER_FORWARD (R36, R105, R150, R425): a marker on upstream port `up` (0 is A, 1 is B) by its word and arrival, and the hub's residence for it by port. A
dual-homed hub makes that port active when no marker has come on the active port in the 256 ns before, and otherwise discards what comes on
the other. The marker goes out on every port that is not DOWN. -/
def execHubMarkerForward (d up word arrival : Nat) (residences : List (Nat × Nat)) (s : State) : Out :=
  let h := s.hubOf d
  let u := min up 1
  let gen := s.endGen (32 + 32 * d + 16 * u)
  let ns := arrival / 65536
  finish (whenP ((s.lane (32 + 32 * d + 16 * u)).st == 7 && (h.active == none || h.active == some u || decide (h.markerAt + 256 < ns))) (seqs [
    modDev d fun n => n.onHub fun h => { h with active := some u, markerAt := ns, dual := h.dual || u == 1 },
    forP h.upPorts fun p => hubMarker d p ((s.dev d).mark gen word arrival) gen word arrival (tget 0 residences p)])) s

/-- When a frame begins on a hub's downstream port (R104, R150): on a legacy port one that would not end before the marker is due is held until after it. -/
def State.hubStart (s : State) (d p : Nat) (start : Int) (frame : List Byte) : Int :=
  let gen := s.endGen (portEnd d p)
  let due := (s.dev d).localMerid + 2048 * 65536
  let marker : Int := 65536 * setsTime gen (.meridian 0 0 0 0) 1
  if s.legacyPort d p ∧ start < due + marker ∧ due < start + 32 * 65536 * frameSlots gen (frame.length - 12) then due + marker else start

/-- A hub sends a frame on a downstream port, at the generation of the port. -/
def hubSends (d : Nat) (at_ : Int) (frame : List Byte) (p : Nat) : Prog :=
  .read fun s => emit (.hubFrame d p (s.hubStart d p at_ frame) (padded (s.endGen (portEnd d p)) frame))

/-- HUB_DOWNSTREAM_FORWARD (R104, R107, R425, Table 04-2): a downstream frame, as its bytes, that arrives on an upstream port at an instant and is forwarded by its header
address with a residence; one on the upstream port that is not active is discarded. -/
def execHubDownstreamForward (d up arrival residence : Nat) (frame : List Byte) (s : State) : Out :=
  let n := s.dev d
  let h := s.hubOf d
  let addr := (Header.ofBytes frame).addr
  let sends := hubSends d (arrival + residence : Nat) (frame.take ((Header.ofBytes frame).length + 12))
  finish (whenP ((s.lane (32 + 32 * d + 16 * min up 1)).st == 7 && (n.config.isSome || n.configNext.isSome) && headerGood frame &&
      addr != n.addr && addr != 0 && h.active.getD 0 == min up 1) (
    if addr = 4095 then forP (h.upPorts.filter fun p => (h.port p).state == .addressed || (h.port p).gate) sends
    else
      let p := tget 0 h.routes addr
      if p ≠ 0 ∧ (h.port p).state = .addressed then sends p
      else modDev d fun n => n.onHub fun h => h.flag 1)) s

/-- HUB_UPSTREAM_FORWARD (R36, R106, R425): a frame whose first code arrives on downstream port `p` at an instant leaves upstream RES_UP later. One that would overlap
another on the upstream lane is discarded whole; `ties` are the ports on which a frame began at the same instant, of which the lowest goes first. A dual-homed
hub sends it on both upstream ports. -/
def execHubUpstreamForward (d p start : Nat) (frame : List Byte) (ties : List Nat) (s : State) : Out :=
  let n := s.dev d
  let h := s.hubOf d
  let leaves := start + (h.port p).resUp
  let slots := frameSlots (s.upGen d) (frame.length - 12)
  let meets := n.busy.any fun e => decide (65536 * e.1 < leaves + 32 * 65536 * slots) && decide (leaves < 65536 * e.2)
  let loses := ties.any fun q => decide (q < p) && (h.port q).state != .down
  finish (whenP (s.upstreamUp d && (h.port p).state != .down) (
    if meets || loses then modDev d fun n => n.onHub fun h => h.flag 0
    else seqs [
      forP (s.upPorts d) fun q => emit (.hubFrame d q leaves (padded (s.endGen (32 + 32 * d + q)) frame)),
      modDev d fun n => n.occupied s.chr.ns leaves slots])) s

/-- The lower bound of RES_UP of a port by its generation and that of the upstream link, in ns (Table 05-5). -/
def resBound (down up : Nat) : Nat :=
  if down = 2 ∧ up = 3 then 1248 else if down = 1 ∧ up = 2 then 6208 else if down = 1 ∧ up = 3 then 7456 else 0

/-- A fix of a hub's downstream link (R35, R42): the round enters the filter and the record is valid. `t1` and `t4` are the hub's instants, `turn`, `ns` and `frac` what the
response carries. The hub takes a as 0. -/
def State.portFixed (s : State) (d p t1 t4 turn ns frac : Nat) : HubPort :=
  let v := (s.hubOf d).port p
  let round := ((t4 : Int) - t1 - turnTime turn (s.endGen (portEnd d p))).toNat
  let theta := ((ns * 65536 + frac : Nat) : Int) - s.localTime (32 + 32 * d) t1 - (LinkFix.delays round 0).1
  { v with
    fix := { (v.fix.filter round s.chr.ns).1 with outstanding := none, theta := signedOf (encodeSigned theta 48) 48, fails := 0 }
    valid := true, firstFails := 0 }

/-- HUB_PORT_UP (R102, R108, R149): the first fix of a port whose link is UP. Success makes it UNADDRESSED, with the residence RES_UP that the hub has for it and
keeps; the third failure in a row sends RETRAIN with KIND full. -/
def execHubPortUp (d p : Nat) (good : Bool) (t1 t4 turn ns frac resUp : Nat) (s : State) : Out :=
  let v := (s.hubOf d).port p
  let bound := 65536 * resBound (s.endGen (portEnd d p)) (s.upGen d)
  finish (whenP (1 ≤ p && p ≤ 15 && v.state == .down && s.upstreamUp d && s.lstate (portEnd d p) == Ls.up) (
    if good then modDev d fun n => n.onHub fun h =>
      (h.setPort p { s.portFixed d p t1 t4 turn ns frac with state := .unaddressed, gate := false, resUp := max bound resUp }).changed p
    else seqs [
      modDev d fun n => n.onHub fun h => h.setPort p { v with firstFails := (v.firstFails + 1) % 3 },
      whenP (v.firstFails + 1 == 3) (hubRetrain d p)])) s

/-- HUB_LINK_FIX (R36, R42): a hub fixes an active downstream link: what the fix measured, or its failure. -/
def execHubLinkFix (d p : Nat) (good : Bool) (t1 t4 turn ns frac : Nat) (s : State) : Out :=
  let v := (s.hubOf d).port p
  finish (whenP (v.state != .down) (modDev d fun n => n.onHub fun h => h.setPort p
    (if good then s.portFixed d p t1 t4 turn ns frac else { v with fix := { v.fix with fails := v.fix.fails + 1 } }))) s

/-- HUB_OVERTEMP (R110). -/
def execHubOvertemp (d : Nat) (s : State) : Out := finish (modDev d fun n => n.onHub fun h => h.flag 2) s

end Sys2Proof.Machine
end

