-- ==== Sys2Proof/Machine/Riscv.lean ====
section
/-! DEFINITION. The RV32IMAFC instructions of a helm (R212) as the RISC-V ISA gives them: the compressed forms, decoding, integer and
single-precision arithmetic. PRESUMED: the spec names the ISA and does not restate it (notes/assumptions/70). Words are naturals below
2^32. -/

namespace Sys2Proof.Machine.Rv

/-! ### Words -/

/-- A word of an integer. -/
def ofInt (v : Int) : Nat := encodeSigned v 32
/-- A word read as signed. -/
def sgn (v : Nat) : Int := signedOf v 32
/-- Sign-extend a field of `w` bits to a word. -/
def sx (v w : Nat) : Nat := ofInt (signedOf (v % 2 ^ w) w)
/-- A truth value as a word. -/
def b2n (b : Bool) : Nat := if b then 1 else 0
/-- Sum of words. -/
def add (a b : Nat) : Nat := (a + b) % 2 ^ 32
/-- Difference of words. -/
def sub (a b : Nat) : Nat := (a + 2 ^ 32 - b) % 2 ^ 32
/-- Shift right keeping the sign. -/
def sra (a k : Nat) : Nat := ofInt (sgn a / (2 ^ k : Int))

/-! ### Decoded instructions -/

/-- An instruction of RV32IMAF with Zicsr and Zifencei, and of Xgytrum (Table 07-4). Selectors are the encoding's own fields. -/
inductive Op where
  | lui (rd imm : Nat)
  | auipc (rd imm : Nat)
  | jal (rd off : Nat)
  | jalr (rd rs1 imm : Nat)
  | branch (f3 rs1 rs2 off : Nat)
  | load (f3 rd rs1 imm : Nat)
  | store (f3 rs1 rs2 imm : Nat)
  | opImm (f3 rd rs1 imm : Nat) (alt : Bool)
  | op (f3 rd rs1 rs2 : Nat) (alt : Bool)
  | mulDiv (f3 rd rs1 rs2 : Nat)
  | fence
  | fenceI
  | ecall
  | ebreak
  | mret
  | wfi
  | csr (f3 rd rs1 num : Nat)
  | lr (rd rs1 : Nat)
  | sc (rd rs1 rs2 : Nat)
  | amo (f5 rd rs1 rs2 : Nat)
  | flw (rd rs1 imm : Nat)
  | fsw (rs1 rs2 imm : Nat)
  | fma (sel rd rs1 rs2 rs3 rm : Nat)
  | farith (f5 rd rs1 rs2 rm : Nat)
  | fsimple (f5 f3 rd rs1 rs2 : Nat)
  | fcvt (toInt : Bool) (sel rd rs1 rm : Nat)
  | lin (rd rs1 rs2 : Nat)
  | lout (rd rs1 rs2 : Nat)
  | lstat (rd rs1 : Nat)
  | sig (rd rs1 : Nat)
  | semtry (rd rs1 : Nat)
  | semtake (rs1 : Nat)
  | semrel (rs1 : Nat)
  | done
  | wft
  | fclmp (rd rs1 rs2 : Nat)
  deriving DecidableEq, Repr

/-- Whether an instruction is one of Table 07-4, which has a row of its own. -/
def Op.gytrum : Op → Bool
  | .lin .. | .lout .. | .lstat .. | .sig .. | .semtry .. | .semtake .. | .semrel .. | .done | .wft | .fclmp .. => true
  | _ => false

/-! ### Compressed instructions -/

/-- Encode an R-type word. -/
def encR (f7 rs2 rs1 f3 rd opc : Nat) : Nat := f7 * 2 ^ 25 + rs2 * 2 ^ 20 + rs1 * 2 ^ 15 + f3 * 2 ^ 12 + rd * 2 ^ 7 + opc
/-- Encode an I-type word. -/
def encI (imm rs1 f3 rd opc : Nat) : Nat := imm % 4096 * 2 ^ 20 + rs1 * 2 ^ 15 + f3 * 2 ^ 12 + rd * 2 ^ 7 + opc
/-- Encode an S-type word. -/
def encS (imm rs2 rs1 f3 opc : Nat) : Nat :=
  bitsAt imm 5 7 * 2 ^ 25 + rs2 * 2 ^ 20 + rs1 * 2 ^ 15 + f3 * 2 ^ 12 + bitsAt imm 0 5 * 2 ^ 7 + opc
/-- Encode a branch. -/
def encB (imm rs2 rs1 f3 : Nat) : Nat :=
  bitsAt imm 12 1 * 2 ^ 31 + bitsAt imm 5 6 * 2 ^ 25 + rs2 * 2 ^ 20 + rs1 * 2 ^ 15 + f3 * 2 ^ 12 + bitsAt imm 1 4 * 2 ^ 8 +
    bitsAt imm 11 1 * 2 ^ 7 + 0x63
/-- Encode JAL. -/
def encJ (imm rd : Nat) : Nat :=
  bitsAt imm 20 1 * 2 ^ 31 + bitsAt imm 1 10 * 2 ^ 21 + bitsAt imm 11 1 * 2 ^ 20 + bitsAt imm 12 8 * 2 ^ 12 + rd * 2 ^ 7 + 0x6F

/-- A word only if a condition holds. -/
def only (c : Bool) (w : Nat) : Option Nat := if c then some w else none

/-- Quadrant 0 of the compressed instructions. -/
def expand0 (h : Nat) : Option Nat :=
  let rs := 8 + bitsAt h 7 3
  let rd := 8 + bitsAt h 2 3
  let spn := bitsAt h 11 2 * 16 + bitsAt h 7 4 * 64 + bitsAt h 6 1 * 4 + bitsAt h 5 1 * 8
  let word := bitsAt h 10 3 * 8 + bitsAt h 6 1 * 4 + bitsAt h 5 1 * 64
  match bitsAt h 13 3 with
  | 0 => only (spn != 0) (encI spn 2 0 rd 0x13)
  | 2 => some (encI word rs 2 rd 0x03)
  | 3 => some (encI word rs 2 rd 0x07)
  | 6 => some (encS word rd rs 2 0x23)
  | 7 => some (encS word rd rs 2 0x27)
  | _ => none

/-- Quadrant 1 of the compressed instructions. -/
def expand1 (h : Nat) : Option Nat :=
  let rd := bitsAt h 7 5
  let rs := 8 + bitsAt h 7 3
  let imm := sx (bitsAt h 12 1 * 32 + bitsAt h 2 5) 6
  let jump := sx (bitsAt h 12 1 * 2 ^ 11 + bitsAt h 11 1 * 16 + bitsAt h 9 2 * 2 ^ 8 + bitsAt h 8 1 * 2 ^ 10 + bitsAt h 7 1 * 64 +
    bitsAt h 6 1 * 128 + bitsAt h 3 3 * 2 + bitsAt h 2 1 * 32) 12
  let br := sx (bitsAt h 12 1 * 256 + bitsAt h 10 2 * 8 + bitsAt h 5 2 * 64 + bitsAt h 3 2 * 2 + bitsAt h 2 1 * 32) 9
  let sp := sx (bitsAt h 12 1 * 512 + bitsAt h 6 1 * 16 + bitsAt h 5 1 * 64 + bitsAt h 3 2 * 128 + bitsAt h 2 1 * 32) 10
  match bitsAt h 13 3 with
  | 0 => some (encI imm rd 0 rd 0x13)
  | 1 => some (encJ jump 1)
  | 2 => some (encI imm 0 0 rd 0x13)
  | 3 => if rd = 2 then only (sp != 0) (encI sp 2 0 2 0x13) else only (imm != 0) (imm % 2 ^ 20 * 2 ^ 12 + rd * 2 ^ 7 + 0x37)
  | 4 => match bitsAt h 10 2 with
    | 0 => only (!bitAt h 12) (encI (bitsAt h 2 5) rs 5 rs 0x13)
    | 1 => only (!bitAt h 12) (encI (0x400 + bitsAt h 2 5) rs 5 rs 0x13)
    | 2 => some (encI imm rs 7 rs 0x13)
    | _ => only (!bitAt h 12) (match bitsAt h 5 2 with
      | 0 => encR 0x20 (8 + bitsAt h 2 3) rs 0 rs 0x33
      | 1 => encR 0 (8 + bitsAt h 2 3) rs 4 rs 0x33
      | 2 => encR 0 (8 + bitsAt h 2 3) rs 6 rs 0x33
      | _ => encR 0 (8 + bitsAt h 2 3) rs 7 rs 0x33)
  | 5 => some (encJ jump 0)
  | 6 => some (encB br 0 rs 0)
  | _ => some (encB br 0 rs 1)

/-- Quadrant 2 of the compressed instructions. -/
def expand2 (h : Nat) : Option Nat :=
  let rd := bitsAt h 7 5
  let rs2 := bitsAt h 2 5
  let lw := bitsAt h 12 1 * 32 + bitsAt h 4 3 * 4 + bitsAt h 2 2 * 64
  let sw := bitsAt h 9 4 * 4 + bitsAt h 7 2 * 64
  match bitsAt h 13 3 with
  | 0 => only (!bitAt h 12) (encI rs2 rd 1 rd 0x13)
  | 2 => only (rd != 0) (encI lw 2 2 rd 0x03)
  | 3 => some (encI lw 2 2 rd 0x07)
  | 4 =>
    if !bitAt h 12 then
      (if rs2 = 0 then only (rd != 0) (encI 0 rd 0 0 0x67) else some (encR 0 rs2 0 0 rd 0x33))
    else if rs2 ≠ 0 then some (encR 0 rs2 rd 0 rd 0x33)
    else if rd = 0 then some 0x00100073
    else some (encI 0 rd 0 1 0x67)
  | 6 => some (encS sw rs2 2 2 0x23)
  | 7 => some (encS sw rs2 2 2 0x27)
  | _ => none

/-- The 32-bit word that a compressed instruction stands for. -/
def expand (h : Nat) : Option Nat :=
  match h % 4 with
  | 0 => expand0 h
  | 1 => expand1 h
  | 2 => expand2 h
  | _ => none

/-! ### Decoding -/

/-- An instruction only if a condition holds. -/
def when (c : Bool) (i : Op) : Option Op := if c then some i else none

/-- The rounding modes an instruction may name: 5 and 6 are reserved. -/
def rmOk (rm : Nat) : Bool := rm != 5 && rm != 6

/-- The floating-point operations of opcode 0x53 in single precision. -/
def decodeFp (f7 rs2 rs1 f3 rd : Nat) : Option Op :=
  match f7 with
  | 0x00 | 0x04 | 0x08 | 0x0C => when (rmOk f3) (.farith (f7 / 4) rd rs1 rs2 f3)
  | 0x2C => when (rmOk f3 && rs2 == 0) (.farith 11 rd rs1 0 f3)
  | 0x10 => when (decide (f3 < 3)) (.fsimple 4 f3 rd rs1 rs2)
  | 0x14 => when (decide (f3 < 2)) (.fsimple 5 f3 rd rs1 rs2)
  | 0x50 => when (decide (f3 < 3)) (.fsimple 20 f3 rd rs1 rs2)
  | 0x60 => when (rmOk f3 && decide (rs2 < 2)) (.fcvt true rs2 rd rs1 f3)
  | 0x68 => when (rmOk f3 && decide (rs2 < 2)) (.fcvt false rs2 rd rs1 f3)
  | 0x70 => when (rs2 == 0 && decide (f3 < 2)) (.fsimple 28 f3 rd rs1 0)
  | 0x78 => when (rs2 == 0 && f3 == 0) (.fsimple 30 0 rd rs1 0)
  | _ => none

/-- The instructions of opcode 0x73. -/
def decodeSystem (w : Nat) : Option Op :=
  let f3 := bitsAt w 12 3
  if f3 = 0 then
    (if w = 0x00000073 then some .ecall
     else if w = 0x00100073 then some .ebreak
     else if w = 0x30200073 then some .mret
     else if w = 0x10500073 then some .wfi
     else none)
  else when (f3 != 4) (.csr f3 (bitsAt w 7 5) (bitsAt w 15 5) (bitsAt w 20 12))

/-- The instructions of Table 07-4 in custom-0 (R220). -/
def decodeGy (f7 rs2 rs1 f3 rd : Nat) : Option Op :=
  match f3, f7 with
  | 0, 0 => some (.lin rd rs1 rs2)
  | 1, 0 => some (.lout rd rs1 rs2)
  | 2, 0 => when (rs2 == 0) (.lstat rd rs1)
  | 3, 0 => when (rs2 == 0) (.sig rd rs1)
  | 4, 0 => when (rs2 == 0) (.semtry rd rs1)
  | 4, 1 => when (rs2 == 0 && rd == 0) (.semtake rs1)
  | 4, 2 => when (rs2 == 0 && rd == 0) (.semrel rs1)
  | 5, 0 => when (rs2 == 0 && rs1 == 0 && rd == 0) .done
  | 5, 1 => when (rs2 == 0 && rs1 == 0 && rd == 0) .wft
  | _, _ => none

/-- Decode a 32-bit word. -/
def decode32 (w : Nat) : Option Op :=
  let rd := bitsAt w 7 5
  let f3 := bitsAt w 12 3
  let rs1 := bitsAt w 15 5
  let rs2 := bitsAt w 20 5
  let f7 := bitsAt w 25 7
  let immI := sx (bitsAt w 20 12) 12
  let immS := sx (bitsAt w 25 7 * 32 + rd) 12
  let immB := sx (bitsAt w 31 1 * 2 ^ 12 + bitsAt w 7 1 * 2 ^ 11 + bitsAt w 25 6 * 32 + bitsAt w 8 4 * 2) 13
  let immJ := sx (bitsAt w 31 1 * 2 ^ 20 + bitsAt w 12 8 * 2 ^ 12 + bitsAt w 20 1 * 2 ^ 11 + bitsAt w 21 10 * 2) 21
  match w % 128 with
  | 0x37 => some (.lui rd (w / 4096 * 4096))
  | 0x17 => some (.auipc rd (w / 4096 * 4096))
  | 0x6F => some (.jal rd immJ)
  | 0x67 => when (f3 == 0) (.jalr rd rs1 immI)
  | 0x63 => when (f3 != 2 && f3 != 3) (.branch f3 rs1 rs2 immB)
  | 0x03 => when (decide (f3 < 3) || f3 == 4 || f3 == 5) (.load f3 rd rs1 immI)
  | 0x23 => when (decide (f3 < 3)) (.store f3 rs1 rs2 immS)
  | 0x13 =>
    if f3 = 1 then when (f7 == 0) (.opImm 1 rd rs1 rs2 false)
    else if f3 = 5 then when (f7 == 0 || f7 == 0x20) (.opImm 5 rd rs1 rs2 (f7 == 0x20))
    else some (.opImm f3 rd rs1 immI false)
  | 0x33 =>
    if f7 = 1 then some (.mulDiv f3 rd rs1 rs2)
    else when (f7 == 0 || (f7 == 0x20 && (f3 == 0 || f3 == 5))) (.op f3 rd rs1 rs2 (f7 == 0x20))
  | 0x0F => if f3 = 0 then some .fence else when (f3 == 1) .fenceI
  | 0x73 => decodeSystem w
  | 0x2F =>
    let f5 := f7 / 4
    if f3 ≠ 2 then none
    else if f5 = 2 then when (rs2 == 0) (.lr rd rs1)
    else if f5 = 3 then some (.sc rd rs1 rs2)
    else when ([0, 1, 4, 8, 12, 16, 20, 24, 28].contains f5) (.amo f5 rd rs1 rs2)
  | 0x07 => when (f3 == 2) (.flw rd rs1 immI)
  | 0x27 => when (f3 == 2) (.fsw rs1 rs2 immS)
  | 0x43 | 0x47 | 0x4B | 0x4F => when (f7 % 4 == 0 && rmOk f3) (.fma (w % 128 / 4 % 4) rd rs1 rs2 (w / 2 ^ 27) f3)
  | 0x53 => decodeFp f7 rs2 rs1 f3 rd
  | 0x0B => decodeGy f7 rs2 rs1 f3 rd
  | 0x2B => when (f3 == 0 && f7 == 0) (.fclmp rd rs1 rs2)
  | _ => none

/-- The rounding mode of an instruction, where it has one. -/
def Op.rm : Op → Option Nat
  | .fma _ _ _ _ _ rm => some rm
  | .farith _ _ _ _ rm => some rm
  | .fcvt _ _ _ _ rm => some rm
  | _ => none

/-! ### Integer arithmetic -/

/-- The register-register and register-immediate operations. -/
def alu (f3 a b : Nat) (alt : Bool) : Nat :=
  match f3 with
  | 0 => if alt then sub a b else add a b
  | 1 => a * 2 ^ (b % 32) % 2 ^ 32
  | 2 => b2n (decide (sgn a < sgn b))
  | 3 => b2n (decide (a < b))
  | 4 => a ^^^ b
  | 5 => if alt then sra a (b % 32) else a / 2 ^ (b % 32)
  | 6 => a ||| b
  | _ => a &&& b

/-- The M extension. A quotient by 0 is all ones, its remainder the dividend; the overflow of DIV gives the dividend and 0. -/
def mulDiv (f3 a b : Nat) : Nat :=
  match f3 with
  | 0 => a * b % 2 ^ 32
  | 1 => ofInt (sgn a * sgn b / 2 ^ 32)
  | 2 => ofInt (sgn a * (b : Int) / 2 ^ 32)
  | 3 => a * b / 2 ^ 32
  | 4 => if b = 0 then 2 ^ 32 - 1 else ofInt ((sgn a).tdiv (sgn b))
  | 5 => if b = 0 then 2 ^ 32 - 1 else a / b
  | 6 => if b = 0 then a else ofInt ((sgn a).tmod (sgn b))
  | _ => if b = 0 then a else a % b

/-- The AMO operations. -/
def amoOp (f5 old v : Nat) : Nat :=
  match f5 with
  | 0 => add old v
  | 1 => v
  | 4 => old ^^^ v
  | 8 => old ||| v
  | 12 => old &&& v
  | 16 => if sgn old ≤ sgn v then old else v
  | 20 => if sgn v ≤ sgn old then old else v
  | 24 => min old v
  | _ => max old v

/-- Whether a branch is taken. -/
def taken (f3 a b : Nat) : Bool :=
  match f3 with
  | 0 => a == b
  | 1 => a != b
  | 4 => decide (sgn a < sgn b)
  | 5 => decide (sgn b ≤ sgn a)
  | 6 => decide (a < b)
  | _ => decide (b ≤ a)

/-! ### Single precision

A result carries the accrued exceptions it raises: 1 NX, 2 UF, 4 OF, 8 DZ, 16 NV. Rounding modes: 0 RNE, 1 RTZ, 2 RDN, 3 RUP, 4 RMM. -/

/-- A result and its exceptions. -/
structure FRes where
  v : Nat
  fl : Nat := 0
  deriving DecidableEq, Repr

def nan : Nat := 0x7FC00000
def inf (s : Bool) : Nat := if s then 0xFF800000 else 0x7F800000
def zero (s : Bool) : Nat := if s then 0x80000000 else 0
def fsign (v : Nat) : Bool := bitAt v 31
def fexp (v : Nat) : Nat := bitsAt v 23 8
def fman (v : Nat) : Nat := v % 2 ^ 23
def isNan (v : Nat) : Bool := fexp v == 255 && fman v != 0
/-- A signaling NaN. -/
def isSnan (v : Nat) : Bool := isNan v && !bitAt v 22
def isInf (v : Nat) : Bool := fexp v == 255 && fman v == 0
def isZero (v : Nat) : Bool := v % 2 ^ 31 == 0
/-- The magnitude of a finite value as a significand and an exponent of 2. -/
def mag (v : Nat) : Nat × Int := if fexp v = 0 then (fman v, -149) else (fman v + 2 ^ 23, (fexp v : Int) - 150)

/-- The number of bits of a natural. -/
def bits (m : Nat) : Nat := if m = 0 then 0 else Nat.log2 m + 1

/-- Divide by 2^d, rounding: the quotient and whether it is inexact. -/
def roundShift (rm : Nat) (s : Bool) (m d : Nat) : Nat × Bool :=
  let q := m / 2 ^ d
  let r := m % 2 ^ d
  let up := match rm with
    | 0 => decide (2 * r > 2 ^ d) || (2 * r == 2 ^ d && q % 2 == 1)
    | 1 => false
    | 2 => s && r != 0
    | 3 => !s && r != 0
    | _ => decide (2 * r ≥ 2 ^ d) && r != 0
  (if up then q + 1 else q, r != 0)

/-- Round m * 2^e, of a sign, to single precision; `sticky` says that the exact value lies a little above it. Tininess is detected after
rounding. -/
def round (rm : Nat) (s : Bool) (m : Nat) (e : Int) (sticky : Bool) : FRes :=
  if m = 0 ∧ !sticky then ⟨zero s, 0⟩
  else
    -- room below the rounding position, and the sticky bit in it
    let m := m * 2 ^ 30 + b2n sticky
    let e := e - 30
    let q0 := e + (bits m : Int) - 24
    let q := max q0 (-149)
    let d := (q - e).toNat
    let r := if e ≤ q then roundShift rm s m d else (m * 2 ^ (e - q).toNat, false)
    let t := if e ≤ q0 then roundShift rm s m (q0 - e).toNat else (m * 2 ^ (e - q0).toNat, false)
    let tiny := decide (q0 < -149) && !(q0 == -150 && t.1 == 2 ^ 24)
    let v := if r.1 = 2 ^ 24 then (2 ^ 23, q + 1) else (r.1, q)
    let sg := if s then 2 ^ 31 else 0
    if v.1 < 2 ^ 23 then ⟨sg + v.1, if r.2 then 1 + (if tiny then 2 else 0) else 0⟩
    else
      let be := v.2 + 150
      if 255 ≤ be then
        let big := match rm with
          | 1 => false
          | 2 => s
          | 3 => !s
          | _ => true
        ⟨if big then inf s else sg + 0x7F7FFFFF, 5⟩
      else ⟨sg + be.toNat * 2 ^ 23 + (v.1 - 2 ^ 23), if r.2 then 1 + (if tiny then 2 else 0) else 0⟩

/-- Round a signed integer * 2^e; an exact zero takes the sign of the mode, as a sum of opposite values does. -/
def roundInt (rm : Nat) (v : Int) (e : Int) : FRes :=
  if v = 0 then ⟨zero (rm == 2), 0⟩ else round rm (decide (v < 0)) v.natAbs e false

/-- A NaN result of operands: NV where one of them signals. -/
def nanOf (l : List Nat) : FRes := ⟨nan, if l.any isSnan then 16 else 0⟩

/-- An invalid operation. -/
def invalid : FRes := ⟨nan, 16⟩

/-- A finite value as a signed significand and exponent. -/
def val (v : Nat) : Int × Int := let m := mag v; (if fsign v then -(m.1 : Int) else m.1, m.2)

/-- Negate. -/
def neg (v : Nat) : Nat := v ^^^ 2 ^ 31

/-- FADD.S. -/
def fadd (rm a b : Nat) : FRes :=
  if isNan a || isNan b then nanOf [a, b]
  else if isInf a then (if isInf b && fsign a != fsign b then invalid else ⟨a, 0⟩)
  else if isInf b then ⟨b, 0⟩
  else if isZero a && isZero b then ⟨if fsign a == fsign b then a else zero (rm == 2), 0⟩
  else
    let x := val a
    let y := val b
    let e := min x.2 y.2
    roundInt rm (x.1 * 2 ^ (x.2 - e).toNat + y.1 * 2 ^ (y.2 - e).toNat) e

/-- FMUL.S. -/
def fmul (rm a b : Nat) : FRes :=
  let s := fsign a != fsign b
  if isNan a || isNan b then nanOf [a, b]
  else if isInf a || isInf b then (if isZero a || isZero b then invalid else ⟨inf s, 0⟩)
  else if isZero a || isZero b then ⟨zero s, 0⟩
  else round rm s ((mag a).1 * (mag b).1) ((mag a).2 + (mag b).2) false

/-- FDIV.S. -/
def fdiv (rm a b : Nat) : FRes :=
  let s := fsign a != fsign b
  if isNan a || isNan b then nanOf [a, b]
  else if isInf a then (if isInf b then invalid else ⟨inf s, 0⟩)
  else if isInf b then ⟨zero s, 0⟩
  else if isZero b then (if isZero a then invalid else ⟨inf s, 8⟩)
  else
    let n := (mag a).1 * 2 ^ 60
    round rm s (n / (mag b).1) ((mag a).2 - (mag b).2 - 60) (n % (mag b).1 != 0)

/-- The integer square root of a number below 2^64, bit by bit. -/
def isqrt (n : Nat) : Nat :=
  (List.range 32).foldl (fun r i => let t := r + 2 ^ (31 - i); if t * t ≤ n then t else r) 0

/-- FSQRT.S. -/
def fsqrt (rm a : Nat) : FRes :=
  if isNan a then nanOf [a]
  else if isZero a then ⟨a, 0⟩
  else if fsign a then invalid
  else if isInf a then ⟨a, 0⟩
  else
    let m := mag a
    -- a significand of 24 bits, then an even exponent and at least 30 bits of root
    let k := 24 - bits m.1
    let odd := (m.2 - k) % 2 != 0
    let n := m.1 * 2 ^ k * 2 ^ (if odd then 37 else 38)
    let e := m.2 - k - (if odd then 37 else 38)
    round rm false (isqrt n) (e / 2) (isqrt n * isqrt n != n)

/-- FMADD.S: a * b + c, rounded once. -/
def ffma (rm a b c : Nat) : FRes :=
  let s := fsign a != fsign b
  let inv := (isInf a && isZero b) || (isZero a && isInf b)
  if isNan a || isNan b || isNan c then ⟨nan, if inv || [a, b, c].any isSnan then 16 else 0⟩
  else if inv then invalid
  else if isInf a || isInf b then (if isInf c && fsign c != s then invalid else ⟨inf s, 0⟩)
  else if isInf c then ⟨c, 0⟩
  else if (isZero a || isZero b) && isZero c then ⟨if s == fsign c then c else zero (rm == 2), 0⟩
  else
    let x := (val a).1 * (val b).1
    let ex := (val a).2 + (val b).2
    let y := val c
    let e := min ex y.2
    roundInt rm (x * 2 ^ (ex - e).toNat + y.1 * 2 ^ (y.2 - e).toNat) e

/-- Order of two values that are no NaN: a < b. -/
def flt (a b : Nat) : Bool :=
  if isZero a && isZero b then false
  else if fsign a != fsign b then fsign a
  else if fsign a then decide (b % 2 ^ 31 < a % 2 ^ 31)
  else decide (a % 2 ^ 31 < b % 2 ^ 31)

/-- Equality of two values that are no NaN. -/
def feq (a b : Nat) : Bool := a == b || (isZero a && isZero b)

/-- FMIN.S (max false) and FMAX.S. -/
def fminmax (mx : Bool) (a b : Nat) : FRes :=
  let fl := if isSnan a || isSnan b then 16 else 0
  if isNan a && isNan b then ⟨nan, fl⟩
  else if isNan a then ⟨b, fl⟩
  else if isNan b then ⟨a, fl⟩
  else
    let less := flt a b || (isZero a && isZero b && fsign a)
    ⟨if less == mx then b else a, fl⟩

/-- FLE.S (0), FLT.S (1), FEQ.S (2). -/
def fcmp (f3 a b : Nat) : FRes :=
  if isNan a || isNan b then ⟨0, if f3 = 2 then (if isSnan a || isSnan b then 16 else 0) else 16⟩
  else ⟨b2n (match f3 with
    | 0 => flt a b || feq a b
    | 1 => flt a b
    | _ => feq a b), 0⟩

/-- FCLASS.S. -/
def fclass (a : Nat) : Nat :=
  if isNan a then (if isSnan a then 2 ^ 8 else 2 ^ 9)
  else
    let k := if isInf a then 0 else if isZero a then 3 else if fexp a = 0 then 2 else 1
    2 ^ (if fsign a then k else 7 - k)

/-- FCVT.W.S and FCVT.WU.S. -/
def toInt (rm a : Nat) (signed : Bool) : FRes :=
  let lo : Int := if signed then -(2 ^ 31) else 0
  let hi : Int := if signed then 2 ^ 31 - 1 else 2 ^ 32 - 1
  if isNan a then ⟨ofInt hi, 16⟩
  else if isInf a then ⟨ofInt (if fsign a then lo else hi), 16⟩
  else
    let m := mag a
    let r := if m.2 ≥ 0 then (m.1 * 2 ^ m.2.toNat, false) else roundShift rm (fsign a) m.1 (-m.2).toNat
    let v : Int := if fsign a then -(r.1 : Int) else r.1
    if v < lo then ⟨ofInt lo, 16⟩
    else if hi < v then ⟨ofInt hi, 16⟩
    else ⟨ofInt v, b2n r.2⟩

/-- FCVT.S.W and FCVT.S.WU. -/
def fromInt (rm a : Nat) (signed : Bool) : FRes :=
  let v : Int := if signed then sgn a else a
  if v = 0 then ⟨0, 0⟩ else roundInt rm v 0

/-- FSGNJ.S, FSGNJN.S, FSGNJX.S. -/
def fsgnj (f3 a b : Nat) : Nat :=
  let s := match f3 with
    | 0 => fsign b
    | 1 => !fsign b
    | _ => fsign a != fsign b
  a % 2 ^ 31 + (if s then 2 ^ 31 else 0)

/-- FADD, FSUB, FMUL, FDIV, FSQRT by funct5. -/
def farith (f5 rm a b : Nat) : FRes :=
  match f5 with
  | 0 => fadd rm a b
  | 1 => if isNan b then fadd rm a b else fadd rm a (neg b)
  | 2 => fmul rm a b
  | 3 => fdiv rm a b
  | _ => fsqrt rm a

/-- FMADD (0), FMSUB (1), FNMSUB (2), FNMADD (3). -/
def fmaOp (sel rm a b c : Nat) : FRes :=
  let n (x : Nat) := if isNan x then x else neg x
  match sel with
  | 0 => ffma rm a b c
  | 1 => ffma rm a b (n c)
  | 2 => ffma rm (n a) b c
  | _ => ffma rm (n a) b (n c)

/-- GY.FCLMP (R225). -/
def fclmp (a b : Nat) : FRes :=
  if isNan a || isNan b then ⟨0, 16⟩
  else
    let lim := b % 2 ^ 31
    if flt lim a then ⟨lim, 0⟩ else if flt a (neg lim) then ⟨neg lim, 0⟩ else ⟨a, 0⟩

end Sys2Proof.Machine.Rv
end

