-- ==== Sys2Proof/Machine/HelmExec.lean ====
section
/-! DEFINITION. What a helm executes (07 R212 to R225, R228, R229, R231, R242, R350): one instruction of the task or background it runs, at
the instant its last cycle ends (Table 07-1); the memory map of Table 07-3; the CSRs; traps and interrupts. The ISA itself is that of
Riscv.lean. -/

namespace Sys2Proof.Machine

open Rv (Op)

/-! ### Who executes -/

/-- The task whose instructions a helm executes; none in background. -/
def State.helmTask (s : State) (h : Nat) : Option Nat := if (s.helm h).entering then none else (s.helm h).task

/-- The ICU target of a helm (R348). -/
def State.helmTarget (s : State) (h : Nat) : Nat := if s.logicalOf h < 16 then s.logicalOf h else h

/-- mip.MEIP (R350). -/
def State.meip (s : State) (h : Nat) : Bool := s.icuRequest (s.helmTarget h)

/-- Whether background that waits in WFI or GY.WFT goes on: an interrupt that mie enables is pending. -/
def State.awake (s : State) (h : Nat) : Bool :=
  match (s.helm h).wait with
  | .none => true
  | .wfi => (s.helm h).csr.meie && s.meip h
  | .wft => (s.helm h).csr.meie && s.meip h
  | .sem _ => false

/-- Whether a helm executes an instruction: a running task while ON or DISABLING, background while ON (Table 07-6). -/
def State.executes (s : State) (h : Nat) : Bool :=
  let u := s.helm h
  !u.entering && (if u.task.isSome then s.helmState h == Fn.on || s.helmState h == Fn.disabling
    else s.helmState h == Fn.on && s.awake h)

/-- The bank in use (R218). -/
def State.bankOf (s : State) (h : Nat) : Bank := if (s.helmTask h).isSome then (s.helm h).bank1 else (s.helm h).bank0

/-- Change the bank in use. -/
def modBank (h : Nat) (f : Bank → Bank) : Prog :=
  .read fun s => modHelm h fun u => if (s.helmTask h).isSome then { u with bank1 := f u.bank1 } else { u with bank0 := f u.bank0 }

/-- Register x`i`. -/
def Bank.reg (b : Bank) (i : Nat) : Nat := if i = 0 then 0 else tget 0 b.x i
/-- Register f`i`. -/
def Bank.freg (b : Bank) (i : Nat) : Nat := tget 0 b.f i

/-- Write register x`i`; x0 discards. -/
def putX (h i v : Nat) : Prog := whenP (i != 0) (modBank h fun b => { b with x := tset 0 b.x i (v % 2 ^ 32) })
/-- Write register f`i`. -/
def putF (h i v : Nat) : Prog := modBank h fun b => { b with f := tset 0 b.f i (v % 2 ^ 32) }
/-- Write a floating-point result and accrue its exceptions. -/
def putFRes (h i : Nat) (r : Rv.FRes) : Prog := seqs [putF h i r.v, modBank h fun b => { b with fcsr := b.fcsr ||| r.fl }]
/-- Write an integer result of a floating-point operation and accrue its exceptions. -/
def putXRes (h i : Nat) (r : Rv.FRes) : Prog := seqs [putX h i r.v, modBank h fun b => { b with fcsr := b.fcsr ||| r.fl }]

/-! ### Memory (Table 07-3) -/

/-- Where an access of a helm goes. -/
inductive Place where
  | tcm (a : Nat)
  | icu (off : Nat)
  | fabric (off : Nat)
  | fault
  deriving DecidableEq, Repr

/-- Whether a range lies in DTCM, for a task in its own window (R231). -/
def State.inDtcm (s : State) (task : Option Nat) (a len : Nat) : Bool :=
  match task with
  | some t =>
    let w := dataWindow (s.taskOf t).desc
    decide (0x10000000 + w.1 ≤ a) && decide (a + len ≤ 0x10000000 + w.2) && decide (a + len ≤ 0x1000FC00)
  | none => decide (0x10000000 ≤ a) && decide (a + len ≤ 0x1000FC00)

/-- The place of a load or store (R215, R231). -/
def State.place (s : State) (task : Option Nat) (write : Bool) (a len : Nat) : Place :=
  if s.inDtcm task a len then .tcm a
  else if task.isSome then .fault
  else if !write && (a + len ≤ 0x10000 || (0x10000000 ≤ a && a + len ≤ 0x1000FF18)) then .tcm a
  else if 0x20000000 ≤ a ∧ a < 0x20001000 ∧ len = 4 then .icu (a - 0x20000000)
  else if 0x30000000 ≤ a ∧ a < 0x30100000 ∧ len = 4 then .fabric (a - 0x30000000)
  else .fault

/-- A read of the target window (R351, R353). -/
def icuLoad (t off : Nat) (k : Nat → Prog) : Prog :=
  if off = 4 then seqs [claimBy t, .read fun s => k (s.fld Fld.ICU_CLAIM.VALID t * 2 ^ 31 + s.fld Fld.ICU_CLAIM.SOURCE t)]
  else if off < 0x1C then regRead (0x1E200 + 0x20 * t + off) k
  else k 0

/-- A write of the target window (R351, R355). -/
def icuStore (t off v : Nat) : Prog :=
  if off = 8 then completeBy t (v % 1024) (bitAt v 31)
  else whenP (off < 0x1C) (regWrite (0x1E200 + 0x20 * t + off) v)

/-- An access through the fabric window (R215, R417, R468): to an off domain it stalls, and after a fault reads 0 or is dropped. -/
def fabricAccess (h off : Nat) (write : Bool) (k : Bool → Prog) : Prog :=
  .read fun s => match (offsetDomain off).filter fun d => !s.domGood d with
    | none => seqs [modHelm h fun u => { u with stall := false },
        if write && s.bit Fld.NVM_CTRL.HOST_ATTACH then seqs [raise Fld.NVM_EVENT.SUPERVISOR_WRITE, k false] else k true]
    | some d =>
      if !(s.helm h).stall then seqs [domainUp d true, modHelm h fun u => { u with stall := true }]
      else if s.domComing d then .skip
      else seqs [modHelm h fun u => { u with stall := false }, k false]

/-! ### Control and status registers -/

/-- mstatus: MIE and MPIE are kept; MPP reads machine mode, FS and SD read dirty. -/
def HelmCsr.mstatus (c : HelmCsr) : Nat := 0x80007800 + (if c.mie then 8 else 0) + (if c.mpie then 128 else 0)

/-- Whether a helm has a CSR (R212, R214, R565). -/
def csrKnown (n : Nat) : Bool :=
  (decide (1 ≤ n) && decide (n ≤ 3)) || [0x300, 0x301, 0x304, 0x305, 0x310, 0x320, 0xB00, 0xB02, 0xB80, 0xB82].contains n ||
    (decide (0x323 ≤ n) && decide (n ≤ 0x344)) || (decide (0xB03 ≤ n) && decide (n ≤ 0xB1F)) || (decide (0xB83 ≤ n) && decide (n ≤ 0xB9F)) ||
    (decide (0xC00 ≤ n) && decide (n ≤ 0xC1F)) || (decide (0xC80 ≤ n) && decide (n ≤ 0xC9F)) || (decide (0xF11 ≤ n) && decide (n ≤ 0xF15)) ||
    (decide (0xFC0 ≤ n) && decide (n ≤ 0xFC4))

/-- The current slot and the nanoseconds into it (Table 07-2). -/
def State.gySlot (s : State) : Nat :=
  (s.chr.ns - s.chr.meridNs) / 32 % 2 ^ 15 + (s.chr.ns - s.chr.meridNs) % 32 * 2 ^ 16

/-- The helm cycles since the running task's first instruction (Table 07-2). -/
def State.gyCyc (s : State) (h : Nat) : Nat := (s.helm h).cycles - (s.helm h).first

/-- What a CSR reads as to an instruction that has just been counted in minstret, which does not see itself there. -/
def State.csrValue (s : State) (h n : Nat) : Nat :=
  let u := s.helm h
  let c := u.csr
  let ret := (c.minstret + 2 ^ 64 - 1) % 2 ^ 64
  let t := s.helmTask h
  match n with
  | 0x001 => (s.bankOf h).fcsr % 32
  | 0x002 => (s.bankOf h).fcsr / 32 % 8
  | 0x003 => (s.bankOf h).fcsr % 256
  | 0x300 => c.mstatus
  | 0x301 => 0x40801125
  | 0x304 => if c.meie then 2 ^ 11 else 0
  | 0x305 => c.mtvec
  | 0x340 => c.mscratch
  | 0x341 => c.mepc
  | 0x342 => c.mcause
  | 0x343 => c.mtval
  | 0x344 => if s.meip h then 2 ^ 11 else 0
  | 0xB00 | 0xC00 => c.mcycle % 2 ^ 32
  | 0xB80 | 0xC80 => c.mcycle / 2 ^ 32
  | 0xB02 | 0xC02 => ret % 2 ^ 32
  | 0xB82 | 0xC82 => ret / 2 ^ 32
  | 0xC01 => s.chron % 2 ^ 32
  | 0xC81 => u.timeHi
  | 0xF11 | 0xF12 | 0xF13 => (Config.helmIdCsr n).toNat
  | 0xF14 => h
  | 0xFC0 => match t with
    | some k => 2 ^ 31 + (s.taskOf k).prio * 2 ^ 28 + k
    | none => 0
  | 0xFC1 => s.tickLow 32
  | 0xFC2 => s.gySlot
  | 0xFC3 => if t.isSome then u.act % 2 ^ 32 else 0
  | 0xFC4 => if t.isSome then s.gyCyc h % 2 ^ 32 else 0
  | _ => 0

/-- A write of a CSR; fields that read a constant are not changed. -/
def csrPut (h n v : Nat) : Prog :=
  let c (f : HelmCsr → HelmCsr) : Prog := modHelm h fun u => { u with csr := f u.csr }
  match n with
  | 0x001 => modBank h fun b => { b with fcsr := b.fcsr / 32 * 32 + v % 32 }
  | 0x002 => modBank h fun b => { b with fcsr := v % 8 * 32 + b.fcsr % 32 }
  | 0x003 => modBank h fun b => { b with fcsr := v % 256 }
  | 0x300 => c fun r => { r with mie := bitAt v 3, mpie := bitAt v 7 }
  | 0x304 => c fun r => { r with meie := bitAt v 11 }
  | 0x305 => c fun r => { r with mtvec := v / 4 * 4 + v % 2 }
  | 0x340 => c fun r => { r with mscratch := v }
  | 0x341 => c fun r => { r with mepc := v / 2 * 2 }
  | 0x342 => c fun r => { r with mcause := v }
  | 0x343 => c fun r => { r with mtval := v }
  | 0xB00 => c fun r => { r with mcycle := r.mcycle / 2 ^ 32 * 2 ^ 32 + v }
  | 0xB80 => c fun r => { r with mcycle := v * 2 ^ 32 + r.mcycle % 2 ^ 32 }
  | 0xB02 => c fun r => { r with minstret := r.minstret / 2 ^ 32 * 2 ^ 32 + v }
  | 0xB82 => c fun r => { r with minstret := v * 2 ^ 32 + r.minstret % 2 ^ 32 }
  | _ => .skip

/-! ### Traps (R228, R229) -/

/-- The exception codes of the RISC-V Privileged Architecture. -/
def Cause.fetchFault : Nat := 1
def Cause.illegal : Nat := 2
def Cause.breakpoint : Nat := 3
def Cause.loadMisaligned : Nat := 4
def Cause.loadFault : Nat := 5
def Cause.storeMisaligned : Nat := 6
def Cause.storeFault : Nat := 7
def Cause.ecall : Nat := 11

/-- Background enters its trap handler. -/
def trapEnter (h cause tval pc target : Nat) : Prog :=
  modHelm h fun u => { u with
    handler := true, wait := .none
    bank0 := { u.bank0 with pc := target }
    csr := { u.csr with mepc := pc, mcause := cause, mtval := tval, mpie := u.csr.mie, mie := false } }

/-- An exception of the instruction at `pc` at an instant: a task ends (R228); background enters mtvec, or ERROR where the instruction is the
first of its handler (R229). -/
def exception (h cause tval pc trapPc at12 : Nat) (frameBad : Bool) : Prog :=
  .read fun s => match s.helmTask h with
    | some t => seqs [helmTo h at12, taskTrap h t cause trapPc at12 frameBad]
    | none =>
      if (s.helm h).handler then helmError h at12
      else seqs [helmTo h at12,
        trapEnter h cause (if Config.mtvalWritten cause then tval else 0) pc ((s.helm h).csr.mtvec / 4 * 4)]

/-- HELM_INTERRUPT_TAKEN (R350): background takes its request line, with mstatus.MIE and mie.MEIE set. -/
def execHelmInterruptTaken (h : Nat) (s : State) : Out :=
  let u := s.helm h
  let at12 := max u.at12 (if u.wait = .none then 0 else s.now12) + 4 * s.cyc
  finish (whenP (h < 18 && s.executes h && u.task.isNone && u.csr.mie && u.csr.meie && s.meip h) (atNs (at12 / 12) (seqs [
    helmTo h at12,
    trapEnter h (2 ^ 31 + 11) 0 u.bank0.pc (u.csr.mtvec / 4 * 4 + (if u.csr.mtvec % 2 = 1 then 44 else 0))]))) s

/-! ### Fetch -/

/-- An instruction fetched: an exception with its mtval and trap address, or an instruction with its length. -/
inductive Fetched where
  | fault (cause tval trapPc : Nat)
  | insn (raw len : Nat) (op : Op)
  deriving DecidableEq, Repr

/-- Whether two bytes may be fetched (R215, R231). -/
def State.fetchable (s : State) (task : Option Nat) (a : Nat) : Bool :=
  match task with
  | some t => let w := codeWindow (s.taskOf t).desc; decide (w.1 ≤ a) && decide (a + 2 ≤ w.2) && decide (a + 2 ≤ 0x10000)
  | none => decide (a + 2 ≤ 0x10000)

/-- Whether an instruction is one for the party that executes it (R224), with a rounding mode that exists. -/
def opAllowed (task : Bool) (fcsr : Nat) (op : Op) : Bool :=
  (match op with
    | .wfi => !task
    | .wft => !task
    | .semtake _ => !task
    | .done => task
    | .csr f3 _ rs1 num => csrKnown num && (num / 1024 != 3 || (f3 % 4 != 1 && rs1 == 0))
    | _ => true) &&
  (match op.rm with
    | some 7 => decide (fcsr / 32 % 8 < 5)
    | _ => true)

/-- Fetch and decode the next instruction of a helm; `bad` is a double-bit error in the fetch (R217). -/
def State.fetch (s : State) (h : Nat) (bad : Bool) : Fetched :=
  let task := s.helmTask h
  let b := s.bankOf h
  let lo := ofBytes (s.tcmRead h b.pc 2)
  if !s.fetchable task b.pc then .fault Cause.fetchFault b.pc b.pc
  else if bad then .fault Cause.fetchFault b.pc b.pc
  else
    let (raw, len, op) := if lo % 4 = 3 then
        let w := ofBytes (s.tcmRead h b.pc 4)
        (w, 4, Rv.decode32 w)
      else (lo, 2, (Rv.expand lo).bind Rv.decode32)
    if len = 4 ∧ !s.fetchable task (b.pc + 2) then .fault Cause.fetchFault (b.pc + 2) b.pc
    else match op with
      | some i => if opAllowed task.isSome b.fcsr i then .insn raw len i else .fault Cause.illegal raw b.pc
      | none => .fault Cause.illegal raw b.pc

/-! ### One instruction -/

/-- What an instruction does: an exception after some cycles, or effects after some cycles; `jump` is the program counter after it. -/
inductive Plan where
  | trap (cycles cause tval : Nat)
  | run (cycles : Nat) (jump : Option Nat) (p : Prog)
  | bare (cycles : Nat) (p : Prog → Prog)

/-- The rounding mode in force. -/
def roundMode (fcsr rm : Nat) : Nat := if rm = 7 then fcsr / 32 % 8 else rm

/-- The cycles of an access: a TCM has its own, the target window takes 4, the fabric window `more` beyond 40. -/
def Place.cycles (p : Place) (tcm more : Nat) : Nat :=
  match p with
  | .icu _ => 4
  | .fabric _ => 40 + more
  | _ => tcm

/-- A load of `len` bytes into what `k` does with its value (R215, R217). -/
def State.planLoad (s : State) (h more : Nat) (bad : Bool) (a len : Nat) (k : Nat → Prog) : Plan :=
  if a % len ≠ 0 then .trap 2 Cause.loadMisaligned a
  else match s.place (s.helmTask h) false a len with
    | .fault => .trap 2 Cause.loadFault a
    | .tcm a => if bad then .trap 2 Cause.loadFault a else .run 2 none (.read fun t => k (ofBytes (t.tcmRead h a len)))
    | .icu off => .run 4 none (icuLoad (s.helmTarget h) (off % 0x1000) k)
    | .fabric off => .bare (40 + more) fun retire =>
        fabricAccess h off false fun ok => seqs [retire, if ok then regRead off k else k 0]

/-- A store of `len` bytes. -/
def State.planStore (s : State) (h more a len v : Nat) : Plan :=
  if a % len ≠ 0 then .trap 1 Cause.storeMisaligned a
  else match s.place (s.helmTask h) true a len with
    | .fault => .trap 1 Cause.storeFault a
    | .tcm a => .run 1 none (helmPut h a (toBytes v len))
    | .icu off => .run 4 none (icuStore (s.helmTarget h) off (v % 2 ^ 32))
    | .fabric off => .bare (40 + more) fun retire =>
        fabricAccess h off true fun ok => seqs [retire, whenP ok (regWrite off v)]

/-- An access of an atomic: aligned, and in DTCM (Table 07-1). -/
def State.planAtomic (s : State) (h cycles a mis fault : Nat) (bad : Bool) (p : Prog) : Plan :=
  if a % 4 ≠ 0 then .trap cycles mis a
  else if !s.inDtcm (s.helmTask h) a 4 || bad then .trap cycles fault a
  else .run cycles none p

/-- A CSR instruction (f3 1 to 3, and 5 to 7 with an immediate): the value read goes to rd, and the new one to the CSR. -/
def planCsr (h : Nat) (b : Bank) (f3 rd rs1 n : Nat) : Plan :=
  let v := if f3 < 4 then b.reg rs1 else rs1
  let writes := f3 % 4 == 1 || rs1 != 0
  .run 3 none (.read fun t =>
    let old := t.csrValue h n
    let new := if f3 % 4 = 1 then v else if f3 % 4 = 2 then old ||| v else old - (old &&& v)
    seqs [
      whenP (n == 0xC01) (modHelm h fun u => { u with timeHi := t.chron / 2 ^ 32 }),
      putX h rd old, whenP writes (csrPut h n new)])

/-- The status word of Table 07-5. -/
def State.legWord (s : State) (i : Nat) : Nat :=
  match (s.leg i).doneTick with
  | none => St.timeout
  | some t => (s.leg i).status + t % 256 * 2 ^ 8 + (if t = s.tick then 2 ^ 16 else 0)

/-- The active entry that an operand names. -/
def State.entryAt (s : State) (i : Nat) : ChartEntry := if i < 16384 then s.entry i else {}

/-- Whether a helm's task, or background, may read an inbound entry (R221). -/
def State.mayRead (s : State) (task : Option Nat) (e : ChartEntry) : Bool :=
  e.valid && e.inbound && (match task with
    | some t => (s.taskOf t).owner == e.owner
    | none => true)

/-- The payload bytes that GY.LIN or GY.LOUT moves, for its cycles. -/
def ChartEntry.moves (e : ChartEntry) : Nat := if e.valid then e.payload else 0

/-- GY.LIN (R221). -/
def State.planLin (s : State) (h rd dst i : Nat) : Plan :=
  let e := s.entryAt i
  let cyc := 3 + (e.moves + 7) / 8
  if dst % 8 ≠ 0 then .trap cyc Cause.storeMisaligned dst
  else if !s.mayRead (s.helmTask h) e then .run cyc none (putX h rd St.badEntry)
  else if !s.inDtcm (s.helmTask h) dst e.payload then .trap cyc Cause.storeFault dst
  else .run cyc none (.read fun t => seqs [
    helmPut h dst (((t.leg i).inb ++ List.replicate e.payload 0).take e.payload), putX h rd (t.legWord i)])

/-- GY.LOUT (R222, R244). -/
def State.planLout (s : State) (h rd src i : Nat) (bad : Bool) : Plan :=
  let e := s.entryAt i
  let cyc := 2 + (e.moves + 7) / 8
  if src % 8 ≠ 0 then .trap cyc Cause.loadMisaligned src
  else if !s.inDtcm (s.helmTask h) src e.moves || bad then .trap cyc Cause.loadFault src
  else .run cyc none (.read fun s =>
    match s.helmTask h with
    | none => putX h rd St.badEntry
    | some t =>
      let r := s.taskOf t
      if !(e.valid && !e.inbound && e.owner == r.owner && e.trigger == t && t != 0) then putX h rd St.badEntry
      else if (s.helm h).at12 > s.latestAt r ∨ r.actTick ≠ s.tick then putX h rd St.late
      else
        let buf := some (s.tick, s.tcmRead h src e.payload)
        seqs [modLeg i fun l => if s.tick % 2 = 0 then { l with buf0 := buf } else { l with buf1 := buf }, putX h rd St.success])

/-- Whether a helm's task, or background, may use a semaphore (R242). -/
def State.maySem (s : State) (task : Option Nat) (n : Nat) : Bool :=
  decide (n < 64) && (match task with
    | some t => s.bit Fld.TSK_SEM_CFG.SHARED n || s.fld Fld.TSK_SEM_CFG.OWNER n == (s.taskOf t).owner
    | none => true)

/-- A semaphore instruction. -/
def State.planSem (s : State) (h cycles n : Nat) (p : Prog) : Plan :=
  if s.maySem (s.helmTask h) n then .run cycles none p else .trap cycles Cause.loadFault n

/-- GY.SIG (R223). -/
def planSig (h rd t : Nat) : Plan :=
  .run 2 none (.read fun s =>
    let ok := decide (t < 4096) && (match s.helmTask h with
      | some me => (s.taskOf me).owner == (s.taskOf t).owner
      | none => true)
    if ok then seqs [putX h rd St.success, taskEvent t (s.helm h).at12 true] else putX h rd St.badEntry)

/-- What a task's GY.DONE records (Table 07-21). -/
def doneStats (h t : Nat) : Prog :=
  .read fun s =>
    let c := min 65535 (s.gyCyc h)
    modTaskOf t fun r => { r with runCnt := (r.runCnt + 1) % 65536, lastCyc := c, maxCyc := max r.maxCyc c }

/-- What an instruction does (Table 07-1, Table 07-4). `more` is what a fabric access takes beyond 40 cycles, `ecc` as in
`helmInstruction`. -/
def State.plan (s : State) (h more ecc len : Nat) (op : Op) : Plan :=
  let b := s.bankOf h
  let x := b.reg
  let f := b.freg
  let bad := ecc == 3
  let rm (r : Nat) := roundMode b.fcsr r
  let next := b.pc + len
  match op with
  | .lui rd imm => .run 1 none (putX h rd imm)
  | .auipc rd imm => .run 1 none (putX h rd (b.pc + imm))
  | .jal rd off => .run 3 (some (Rv.add b.pc off)) (putX h rd next)
  | .jalr rd rs1 imm => .run 3 (some (Rv.add (x rs1) imm / 2 * 2)) (putX h rd next)
  | .branch f3 rs1 rs2 off =>
    if Rv.taken f3 (x rs1) (x rs2) then .run 3 (some (Rv.add b.pc off)) .skip else .run 1 none .skip
  | .load f3 rd rs1 imm => s.planLoad h more bad (Rv.add (x rs1) imm) (2 ^ (f3 % 4)) fun v =>
      putX h rd (if f3 < 2 then Rv.sx v (8 * 2 ^ f3) else v)
  | .store f3 rs1 rs2 imm => s.planStore h more (Rv.add (x rs1) imm) (2 ^ f3) (x rs2)
  | .opImm f3 rd rs1 imm alt => .run 1 none (putX h rd (Rv.alu f3 (x rs1) imm alt))
  | .op f3 rd rs1 rs2 alt => .run 1 none (putX h rd (Rv.alu f3 (x rs1) (x rs2) alt))
  | .mulDiv f3 rd rs1 rs2 => .run (if f3 < 4 then 2 else 34) none (putX h rd (Rv.mulDiv f3 (x rs1) (x rs2)))
  | .fence => .run 1 none .skip
  | .fenceI => .run 8 none .skip
  | .ecall => .trap 4 Cause.ecall 0
  | .ebreak => .trap 4 Cause.breakpoint b.pc
  | .mret => .run 3 (some (s.helm h).csr.mepc) (modHelm h fun u => { u with csr := { u.csr with mie := u.csr.mpie, mpie := true } })
  | .wfi => .run 1 none (modHelm h fun u => { u with wait := .wfi })
  | .csr f3 rd rs1 n => planCsr h b f3 rd rs1 n
  | .lr rd rs1 => s.planAtomic h 2 (x rs1) Cause.loadMisaligned Cause.loadFault bad (.read fun t => seqs [
      putX h rd (t.tcmWord h (x rs1)), modHelm h fun u => { u with resv := some (x rs1) }])
  | .sc rd rs1 rs2 => s.planAtomic h 2 (x rs1) Cause.storeMisaligned Cause.storeFault false (
      let ok := (s.helm h).resv == some (x rs1)
      seqs [whenP ok (helmPut h (x rs1) (toBytes (x rs2) 4)), putX h rd (if ok then 0 else 1), modHelm h fun u => { u with resv := none }])
  | .amo f5 rd rs1 rs2 => s.planAtomic h 4 (x rs1) Cause.storeMisaligned Cause.storeFault bad (.read fun t =>
      let old := t.tcmWord h (x rs1)
      seqs [helmPut h (x rs1) (toBytes (Rv.amoOp f5 old (x rs2)) 4), putX h rd old])
  | .flw rd rs1 imm => s.planLoad h more bad (Rv.add (x rs1) imm) 4 (putF h rd)
  | .fsw rs1 rs2 imm => s.planStore h more (Rv.add (x rs1) imm) 4 (f rs2)
  | .fma sel rd rs1 rs2 rs3 r => .run 4 none (putFRes h rd (Rv.fmaOp sel (rm r) (f rs1) (f rs2) (f rs3)))
  | .farith f5 rd rs1 rs2 r =>
    .run (if f5 < 3 then 3 else 14) none (putFRes h rd (Rv.farith f5 (rm r) (f rs1) (f rs2)))
  | .fsimple f5 f3 rd rs1 rs2 => .run 1 none (match f5 with
      | 4 => putF h rd (Rv.fsgnj f3 (f rs1) (f rs2))
      | 5 => putFRes h rd (Rv.fminmax (f3 == 1) (f rs1) (f rs2))
      | 20 => putXRes h rd (Rv.fcmp f3 (f rs1) (f rs2))
      | 28 => putX h rd (if f3 = 0 then f rs1 else Rv.fclass (f rs1))
      | _ => putF h rd (x rs1))
  | .fcvt toI sel rd rs1 r => .run 2 none (if toI then putXRes h rd (Rv.toInt (rm r) (f rs1) (sel == 0))
      else putFRes h rd (Rv.fromInt (rm r) (x rs1) (sel == 0)))
  | .lin rd rs1 rs2 => s.planLin h rd (x rs1) (x rs2)
  | .lout rd rs1 rs2 => s.planLout h rd (x rs1) (x rs2) bad
  | .lstat rd rs1 => .run 3 none (.read fun t =>
      putX h rd (if t.mayRead (t.helmTask h) (t.entryAt (x rs1)) then t.legWord (x rs1) else St.badEntry))
  | .sig rd rs1 => planSig h rd (x rs1)
  | .semtry rd rs1 => s.planSem h 3 (x rs1) (.read fun t =>
      if t.bit Fld.TSK_SEM_STATE.HELD (x rs1) then putX h rd 0
      else seqs [putX h rd 1, semTake h (t.helmTask h) (x rs1) (t.helm h).at12])
  | .semtake rs1 => s.planSem h 3 (x rs1) (.read fun t =>
      if t.bit Fld.TSK_SEM_STATE.HELD (x rs1) then modHelm h fun u => { u with wait := .sem (x rs1) }
      else semTake h none (x rs1) (t.helm h).at12)
  | .semrel rs1 => s.planSem h 2 (x rs1) (.read fun t =>
      whenP (t.bit Fld.TSK_SEM_STATE.HELD (x rs1) && t.fld Fld.TSK_SEM_STATE.HELM (x rs1) == h)
        (seqs [semFree (x rs1) (t.helm h).at12, dispatchAll (t.helm h).at12]))
  | .done => .run 2 none (match s.helmTask h with
      | some t => seqs [doneStats h t, .read fun u => taskEnd h t (u.helm h).at12 false (ecc == 4)]
      | none => .skip)
  | .wft => .run 1 none (modHelm h fun u => { u with wait := .wft })
  | .fclmp rd rs1 rs2 => .run 1 none (putFRes h rd (Rv.fclmp (f rs1) (f rs2)))

/-- ECC errors that the instruction met in the helm's memories (R217): corrected, or fatal in a fetch, load or resumed save frame. -/
def helmEcc (h ecc row : Nat) : Prog :=
  if ecc = 0 then .skip
  else if ecc = 1 then seqs [raise Fld.HLM_EVENT.ECC_CORRECTED h, corrected 0 Kind.helm h 0, rowCorrected row]
  else seqs [raise Fld.HLM_EVENT.ECC_FATAL h, rowFault row]

/-- The instruction ends: the program counter moves on, and it counts in minstret. -/
def retire (h pc : Nat) : Prog :=
  seqs [modBank h fun b => { b with pc := pc % 2 ^ 32 },
    modHelm h fun u => { u with handler := u.handler && u.task.isSome, csr := { u.csr with minstret := (u.csr.minstret + 1) % 2 ^ 64 } }]

/-- A helm executes its next instruction, where `want` names it: at the instant its last cycle ends. `ecc` is 0 for none, 1 for a corrected
error, 2 to 4 for a double-bit error in the fetch, in the load or GY.LOUT, or in the save frame that the end of the task resumes; `row` is the
row it lies in (Table 17-1). `more` is what a fabric access takes beyond 40 cycles. -/
def helmInstruction (h more ecc row : Nat) (want : Option Op → Bool) : Prog :=
  .read fun s => whenP (h < 18 && s.executes h) (
    let u := s.helm h
    let b := s.bankOf h
    let start := max u.at12 (if u.task.isNone ∧ u.wait ≠ .none then s.now12 else 0)
    let upTo (cyc : Nat) (p : Nat → Prog) : Prog :=
      let t := start + cyc * s.cyc
      atNs (t / 12) (seqs [whenP (u.task.isNone) (modHelm h fun u => { u with wait := .none }), helmEcc h ecc row, p t])
    let trap (cyc cause tval trapPc : Nat) : Prog :=
      upTo (if u.task.isSome then cyc else 4) fun t => exception h cause tval b.pc trapPc t (ecc == 4)
    match s.fetch h (ecc == 2) with
    | .fault cause tval trapPc => whenP (want none) (trap 0 cause tval trapPc)
    | .insn _ len op => whenP (want (some op)) (match s.plan h more ecc len op with
      | .trap cyc cause tval => trap cyc cause tval b.pc
      | .run cyc jump p => upTo cyc fun t => seqs [helmTo h t, retire h (jump.getD (b.pc + len)), p]
      | .bare cyc p => upTo cyc fun t => p (seqs [helmTo h t, retire h (b.pc + len)])))

/-- HELM_INSTRUCTION (R213): any instruction but those of Table 07-4, which have rows of their own, and any that raises an exception before it is
decoded. -/
def execHelmInstruction (h more ecc row : Nat) (s : State) : Out :=
  finish (helmInstruction h more ecc row fun o => match o with
    | some op => !op.gytrum
    | none => true) s

/-- GY_LIN (R221). -/
def execGyLin (h ecc row : Nat) (s : State) : Out :=
  finish (helmInstruction h 0 ecc row fun o => match o with
    | some (.lin ..) => true
    | _ => false) s

/-- GY_LOUT (R222). -/
def execGyLout (h ecc row : Nat) (s : State) : Out :=
  finish (helmInstruction h 0 ecc row fun o => match o with
    | some (.lout ..) => true
    | _ => false) s

/-- GY_LSTAT (R221). -/
def execGyLstat (h ecc row : Nat) (s : State) : Out :=
  finish (helmInstruction h 0 ecc row fun o => match o with
    | some (.lstat ..) => true
    | _ => false) s

/-- GY_SIG (R223). -/
def execGySig (h ecc row : Nat) (s : State) : Out :=
  finish (helmInstruction h 0 ecc row fun o => match o with
    | some (.sig ..) => true
    | _ => false) s

/-- GY_SEMTRY (R242). -/
def execGySemtry (h ecc row : Nat) (s : State) : Out :=
  finish (helmInstruction h 0 ecc row fun o => match o with
    | some (.semtry ..) => true
    | _ => false) s

/-- GY_SEMTAKE (R242). -/
def execGySemtake (h ecc row : Nat) (s : State) : Out :=
  finish (helmInstruction h 0 ecc row fun o => match o with
    | some (.semtake ..) => true
    | _ => false) s

/-- GY_SEMREL (R242). -/
def execGySemrel (h ecc row : Nat) (s : State) : Out :=
  finish (helmInstruction h 0 ecc row fun o => match o with
    | some (.semrel ..) => true
    | _ => false) s

/-- GY_DONE (R224). -/
def execGyDone (h ecc row : Nat) (s : State) : Out :=
  finish (helmInstruction h 0 ecc row fun o => match o with
    | some .done => true
    | _ => false) s

/-- GY_WFT (R224). -/
def execGyWft (h ecc row : Nat) (s : State) : Out :=
  finish (helmInstruction h 0 ecc row fun o => match o with
    | some .wft => true
    | _ => false) s

/-- GY_FCLMP (R225). -/
def execGyFclmp (h ecc row : Nat) (s : State) : Out :=
  finish (helmInstruction h 0 ecc row fun o => match o with
    | some (.fclmp ..) => true
    | _ => false) s

/-- The helms whose background waits for a semaphore, from the rotating pointer round (R242). -/
def State.semWaiters (s : State) (n : Nat) : List Nat :=
  let l := (List.range 18).filter fun h => (s.helm h).wait == .sem n && s.helmState h == Fn.on
  (l.filter (s.task.semPtr ≤ ·)) ++ l.filter (· < s.task.semPtr)

/-- SEMAPHORE_TAKEN (R242): the semaphore that a helm's background waits for is free, and the rotating pointer gives it to this helm. -/
def execSemaphoreTaken (h : Nat) (s : State) : Out :=
  finish (match (s.helm h).wait with
    | .sem n => whenP (h < 18 && !s.bit Fld.TSK_SEM_STATE.HELD n && (s.semWaiters n).head? == some h) (
        let t := max (s.helm h).at12 (tget 0 s.task.semAt n)
        seqs [modHelm h fun u => { u with wait := .none, at12 := max u.at12 t }, semTake h none n t])
    | _ => .skip) s

end Sys2Proof.Machine
end

