-- ==== Sys2Proof/Machine/Tick.lean ====
section
/-! DEFINITION. The tick: the latch point and the meridian (R9, R11, R12, R25 to R27), outbound legs and what they carry (R13, R17, R20, R165 to
R167, R246, R438, R464), inbound legs and their completion events (R14, R15, R168 to R170, R566). -/

namespace Sys2Proof.Machine

/-! ### The latch point -/

/-- Whether a meridian is to come. -/
def State.ticking (s : State) : Bool := s.bit Fld.CHT_STATUS.RUNNING || s.chr.runDue

/-- Whether a COMMIT that hands over while stopped at `due`, 1 us after its acceptance, was accepted before the latch point of the meridian that is
due (R11). One accepted less than 1 us before the chart's first meridian is latched for that meridian, before its 1 us has passed. DESIGN CHOICE
(notes/assumptions/11). -/
def State.beforeLatch (s : State) (due : Nat) : Bool := decide (due + 128 < s.chr.dueNs + 1000)

/-- What the latch point does (R11, R119, R258, R464). -/
def latchPoint : Prog :=
  .read fun s => seqs [
    whenP (s.bit Fld.CHT_STATUS.PENDING && (s.standby || s.beforeLatch s.chart.dueNs)) (modChart fun c => { c with latched := true }),
    whenP (s.bit Fld.CHR_COMMIT.PENDING && s.beforeLatch s.chr.stepDueNs) (modChr fun c => { c with stepLatched := true }),
    modChr fun c => { c with domainLatched := c.domainStep.isSome && s.beforeLatch c.domainDueNs },
    whenP (s.bit Fld.PWR_OP_STATUS.PENDING && s.beforeLatch s.pwr.opDue) opLatch,
    modChr fun c => { c with alignPending := c.alignPending || c.alignWait, alignWait := false },
    modHalt fun u => { u with next := s.fld Fld.NVM_HALT_STATUS.CAUSE != 0 },
    piLatch, configLate]

/-- LATCH_POINT (R11): 128 ns before the meridian that is due. -/
def execLatchPoint (s : State) : Out :=
  finish (whenP s.ticking (atNs (s.chr.dueNs - 128) latchPoint)) s

/-- A hand-over of the chronometer with what a step brings after it (R57): SET_BEARING to every node that holds a bearing. -/
def withBearings (p : Prog) : Prog :=
  .read fun s => seqs [p, .read fun t => whenP (t.chr.stepSum != s.chr.stepSum) stepBearings]

/-- The chronometer's hand-overs while stopped, each 1 us after its acceptance (R11, R47, R57): a COMMIT, and a follower's first lock. -/
def stoppedSteps : Prog :=
  .read fun s =>
    let commit := whenP (s.bit Fld.CHR_COMMIT.PENDING) (atNs s.chr.stepDueNs (seqs [withBearings (chrHandover false), planFirst]))
    let domain := whenP s.chr.domainStep.isSome (atNs s.chr.domainDueNs (seqs [withBearings (domainStep false), planFirst]))
    if s.chr.domainDueNs < s.chr.stepDueNs then seqs [domain, commit] else seqs [commit, domain]

/-- HANDOVER_WHILE_STOPPED (R11): 1 us after its acceptance a COMMIT hands over: of the chart (block 0), the chronometer, or a follower's first lock
(1), the operating point (2). -/
def execHandoverWhileStopped (block : Nat) (s : State) : Out :=
  finish (whenP (!s.bit Fld.CHT_STATUS.RUNNING) (
    if block = 0 then whenP (s.bit Fld.CHT_STATUS.PENDING) (atNs s.chart.dueNs (seqs [chartHandover, planFirst]))
    else if block = 1 then stoppedSteps
    else whenP (block == 2 && s.bit Fld.PWR_OP_STATUS.PENDING) (atNs s.pwr.opDue opHandover))) s

/-! ### The meridian -/

/-- Step 1 of R12: hand-over of what was latched. `opens` is whether a tick opens with it. -/
def handovers (tick : Nat) (opens : Bool) : Prog :=
  .read fun s => seqs [
    whenP s.chart.latched (if s.standby then standbyCommit tick else chartHandover),
    whenP s.chr.stepLatched (chrHandover opens), whenP s.chr.domainLatched (domainStep opens), whenP s.pwr.opLatched opHandover]

/-- Steps 2 and 3 of R12, and what else falls due at a meridian: HOLD and its wipes, removals, quarantine, the power state. -/
def meridianChanges : Prog :=
  seqs [holdEffect, forceWipes, removals, quarantines, appearances, hubsAdmitted, powerMeridian, sscStop]

/-- The length of the tick that opens, and the next meridian (R25, R26): a realignment adds the fewest slots that bring it onto the grid. -/
def tickLength : Prog :=
  .read fun s =>
    let n := s.fld Fld.CHT_TICK_LEN.ACTIVE_N
    let slots := n + (if s.chr.alignPending && s.bit Fld.CHR_CTRL.MERID_ALIGN then extraSlots s.chron n else 0)
    modChr fun c => { c with tickSlots := slots, dueNs := c.ns + 32 * slots, alignPending := false }

/-- SET_BEARING once more where the meridian has made a prediction wrong (R40, R57). -/
def resend (oldN tick : Nat) : Prog :=
  .read fun s =>
    if s.chr.stepTick = some tick then stepBearings
    else whenP (s.fld Fld.CHT_TICK_LEN.ACTIVE_N != oldN || s.chr.tickSlots != s.fld Fld.CHT_TICK_LEN.ACTIVE_N) (resendBearings tick)

/-- The inbound legs of running nodes that are active in a tick. -/
def State.inLegs (s : State) (tick : Nat) : List (Nat × ChartEntry) :=
  s.legs.filter fun e => e.2.inbound && e.2.activeIn tick && (s.node e.2.node).state.running

/-- The NODE_ABSENT completions of step 4 of R12 (R235). -/
def absentCompletions (tick : Nat) : Prog :=
  .read fun s => seqs [
    forP (s.legs.filter fun e => e.2.inbound && e.2.trigger != 0 && e.2.activeIn tick && !(s.node e.2.node).state.running) fun e => seqs [
      modLeg e.1 fun r => { r with status := St.nodeAbsent, doneTick := some tick },
      .read fun t => taskCount e.2.trigger t.now12 false],
    .read fun t => dispatchAll t.now12]

/-- MERID_OUT rises at every DIVIDER-th meridian, counted from tick number 0, for WIDTH slots (R53). -/
def meridOut : Prog :=
  .read fun s => whenP (s.bit Fld.CHR_CTRL.MERID_OUT_EN && !s.bit Fld.CHR_MERID_OUT_CFG.PPS_MODE &&
      s.tick % max 1 (s.fld Fld.CHR_MERID_OUT_CFG.DIVIDER) == 0) meridPulse

/-- The halt state begins or ends as the latch point found its causes (R464). -/
def haltMeridian : Prog := .read fun s => put Fld.NVM_HALT_STATUS.ACTIVE (if s.halt.next then 1 else 0)

/-- Step 5 of R12: the marker on every root port that is UP, none at a standby (R28, R431). -/
def markers : Prog :=
  .read fun s => whenP (!s.standby) (forP ((List.range 16).filter s.portUp) fun p => sendMarker p (s.skew p))

/-- Whether tasks are armed in the tick (R233, R407, R431). -/
def State.mayArm (s : State) : Bool :=
  s.bit Fld.TSK_CTRL.RUN && !s.pwr.taskHeld && (!s.standby || s.bit Fld.PAIR_CFG.SHADOW_TASKS)

/-- Whether process-image streams run (R406, R431): not in S1, nor at the meridian of the return from it. -/
def State.mayStream (s : State) : Bool := s.pstate != 1 && (!s.standby || s.bit Fld.PAIR_CFG.SHADOW_PI)

/-- A tick ends at a meridian: its inbound legs that have not completed may still do so (R15, R168). -/
def tickEnds : Prog :=
  .read fun s =>
    let left := if s.bit Fld.CHT_STATUS.RUNNING then (s.inLegs s.tick).filter fun e => (s.leg e.1).endTick != some s.tick else []
    seqs [modChart fun c => { c with late := left, lateTick := s.tick, lateSlots := s.chr.tickSlots }, modChr fun c => { c with meridNs := c.ns }]

/-- The meridian that opens a tick, in the order of R12. -/
def openTick (tick : Nat) : Prog :=
  .read fun s =>
    let inS1 := s.pstate == 1
    let oldN := s.fld Fld.CHT_TICK_LEN.ACTIVE_N
    seqs [
      tickEnds,
      modChr fun c => { c with tick := tick, started := true, runDue := false },
      raise Fld.CHT_STATUS.RUNNING,
      handovers tick true, pairHandover, tickLength, resend oldN tick,
      modIns fun u => { u with bulkUsed := [] },
      meridianChanges, haltMeridian,
      tasksBefore, .read fun t => tasksReload (t.fld Fld.CHT_TICK_LEN.ACTIVE_N) t.mayArm,
      absentCompletions tick,
      markers, pairBeacon, meridOut, icuEdge 128,
      .read fun t => piMeridian tick (t.mayStream && !inS1),
      afterTakeover, skewsEnd, bootMeridian]

/-- A meridian that begins no tick (R12, R26, R407): what falls due is applied. -/
def lastMeridian : Prog := seqs [tickEnds, .read fun s => withBearings (handovers s.tick false), meridianChanges]

/-- The meridian at which the executor stops (R26). -/
def stopTick : Prog := seqs [lastMeridian, stopBeacon, stopTicks]

/-- ENTRY_IDLE_REACHED (R407 steps 2 to 5): no command is outstanding but the one that enters; the next meridian begins no tick. A
COMMIT of the operating point hands over first (Table 13-9). -/
def execEntryIdleReached (s : State) : Out :=
  finish (whenP (s.pwr.phase == .idle && s.pstate == 0 && s.q.fetching.isEmpty && !s.bit Fld.PWR_OP_STATUS.PENDING &&
      s.q.cmds.all fun e => some e.1 == s.pwr.tag)
    (if s.bit Fld.CHT_STATUS.RUNNING then atNs s.chr.dueNs (seqs [lastMeridian, entryStops]) else entryStops)) s

/-- MERIDIAN (R12): the meridian that is due. -/
def execMeridian (s : State) : Out :=
  finish (whenP s.ticking (seqs [
    advanceTo s.chr.dueNs,
    .read fun t => whenP (decide (s.chr.dueNs ≤ t.chr.ns)) (seqs [
      whenP (t.bit Fld.CHT_STATUS.RUNNING) helmLoads,
      if !t.bit Fld.CHT_CTRL.RUN && !t.standby then stopTick
      else openTick (if t.chr.started then t.tick + 1 else 0)])])) s

/-! ### Outbound legs -/

/-- An outbound leg of the tick whose node is running, so that it is sent or held (R165, R566). -/
def State.outLeg (s : State) (i : Nat) : Bool :=
  let e := s.entry i
  s.bit Fld.CHT_STATUS.RUNNING && !s.standby && e.activeIn s.tick && !e.inbound && (s.node e.node).state.running

/-- The payload that a leg's source has supplied for the tick (R13, R18, R20, R333). Whether its owner has failed, is quiesced or has no host counts at the instant at which
the payload is taken. DESIGN CHOICE (notes/assumptions/63). -/
def State.supply (s : State) (i : Nat) : Option (List Byte) :=
  let e := s.entry i
  let r := s.leg i
  let buf := (if s.tick % 2 = 0 then r.buf0 else r.buf1).bind fun b => if b.1 = s.tick then some b.2 else none
  if s.bit Fld.INS_STATUS.HOLDING e.owner || (s.node e.node).state == .quarantine then none
  else if e.trigger != 0 then buf
  else if s.fld Fld.INS_STATUS.FUNC_STATE e.owner = Fn.on ∧ s.attached e.owner ∧ (s.stream e.owner).supplied = some s.tick then buf
  else none

/-- The safe value of an active entry. -/
def State.safeOf (s : State) (i : Nat) : List Byte := safeValue (s.safes s.activeIdx) i (s.entry i).payload

/-- What a leg carries that follows its hold policy (Table 05-9, R166). -/
def State.heldSending (s : State) (i : Nat) : Sending :=
  if (s.entry i).hold = 2 then .omit
  else if (s.entry i).hold = 0 then (match (s.leg i).lastSent with
    | some b => .held b
    | none => .safe (s.safeOf i))
  else .safe (s.safeOf i)

/-- What a leg carries in the tick, and whether the tick counts as held (R165, R438, R464). -/
def State.sending (s : State) (i : Nat) : Sending × Bool :=
  if s.bit Fld.NVM_HALT_STATUS.ACTIVE then (if (s.entry i).hold = 2 then .omit else .safe (s.safeOf i), true)
  else if s.pair.takeover = some s.tick then (match s.pair.outRecs.find? (·.1 == i) with
    | some r => (.held (fitTo (s.entry i).payload r.2.2), false)
    | none => (s.heldSending i, true))
  else match s.supply i with
    | some b => (.data (fitTo (s.entry i).payload b), false)
    | none => (s.heldSending i, true)

/-- The bytes that a leg carries. -/
def Sending.bytes : Sending → Option (List Byte)
  | .data b => some b
  | .held b => some b
  | .safe b => some b
  | .omit => none

/-- A tick in which a leg is held or not sent counts (R165, R170). -/
def heldTick (p : Nat) : Prog := countUp Fld.CHT_HELD_CNT.COUNT p

/-- The payload of a leg is fixed for the tick (R246), once; a primary mirrors it (R429). -/
def encodeLeg (i : Nat) : Prog :=
  .read fun s => whenP (match (s.leg i).fixed with
      | some f => f.1 != s.tick
      | none => true) (
    let c := s.sending i
    seqs [
      modLeg i fun r => { r with fixed := some (s.tick, c.1) },
      whenP c.2 (seqs [heldTick (s.entry i).port, raise Fld.CHT_EVENT.HELD]),
      (match c.1.bytes with
        | some b => mirrorNote 1 i b
        | none => .skip)])

/-- LEG_ENCODE_START (R246): at the start of the slot two before the first copy of leg `i`. -/
def execLegEncodeStart (i : Nat) (s : State) : Out :=
  finish (whenP (s.outLeg i) (atNs (s.chr.meridNs + 32 * ((s.entry i).start - 2)) (encodeLeg i))) s

/-- Whether a copy of a leg leaves: its port is UP, and in a takeover tick R438 lets it. -/
def State.copyLeaves (s : State) (e : ChartEntry) (slot : Nat) : Bool :=
  s.portUp e.port && (s.pair.takeover != some s.tick || s.takeoverSends e slot)

/-- A copy of a leg starts at its slot (R10, R140, R165 to R167, R170). -/
def sendLeg (i : Nat) (second : Bool) (slot : Nat) : Prog :=
  .read fun s =>
    let e := s.entry i
    let gen := s.endGen e.port
    let out (held safe : Bool) (b : List Byte) : Prog := seqs [
      modLane e.port fun l => { l with txUntil := ((s.chr.meridNs : Int) + ceilDiv (s.skew e.port) 65536).toNat + 32 * (slot + frameSlots gen b.length) },
      emit (.leg e.port i (padded gen (legFrame e.node e.pipe false s.tick second held safe false false b)) (s.skew e.port)),
      modLeg i fun r => { r with lastSent := some b, sentTick := some s.tick }]
    let fresh := (s.leg i).sentTick != some s.tick
    match (s.leg i).fixed with
    | none => .skip
    | some f =>
      if !s.copyLeaves e slot then
        -- a supplied leg that does not leave counts here; a held one has counted
        whenP (!second && (match f.2 with
          | .data _ => true
          | .held _ => s.pair.takeover == some s.tick && s.pair.outRecs.any (·.1 == i) && !s.bit Fld.NVM_HALT_STATUS.ACTIVE
          | _ => false)) (heldTick e.port)
      else match f.2 with
        | .data b => whenP (fresh || second) (out false false b)
        | .held b => whenP (fresh || second) (out true false b)
        | .safe b => whenP (fresh || second) (out false true b)
        | .omit => .skip

/-- OUTBOUND_LEG_START (R10): a copy of leg `i` starts at its slot. -/
def execOutboundLegStart (i : Nat) (second : Bool) (s : State) : Out :=
  let e := s.entry i
  let slot := if second then e.start + e.dupOffset else e.start
  finish (whenP (s.outLeg i && (!second || e.dup)) (seqs [
    atNs (s.chr.meridNs + 32 * (e.start - 2)) (encodeLeg i),
    atNs (s.chr.meridNs + 32 * slot) (sendLeg i second slot)])) s

/-! ### Inbound legs -/

/-- The inbound leg that a row names: of the tick, or of the tick before, whose ranges may still complete after the meridian (R168). -/
def State.inLeg (s : State) (prev : Bool) (i : Nat) : Option ChartEntry :=
  if prev then (s.chart.late.find? fun e => e.1 == i && (s.leg i).endTick != some s.chart.lateTick).map (·.2)
  else if s.bit Fld.CHT_STATUS.RUNNING && (s.entry i).inbound && (s.entry i).activeIn s.tick && (s.node (s.entry i).node).state.running &&
      (s.leg i).endTick != some s.tick then some (s.entry i)
  else none

/-- The shift of a port's inbound ranges, in 2^-16 ns: at a standby and in a takeover tick (R431, R438). -/
def State.rangeShift (s : State) (p : Nat) : Int :=
  let r := tget 0 s.pair.rskew p
  if s.standby then r else if s.pair.takeover = some s.tick then 64 * 65536 + r else r

/-- The instant `t` ns after the meridian at which a range that ends with slot `last - 1` completes, where R15 and R168 allow it: after the range
began and no later than 32 ns after its last slot ends. -/
def State.eventNs (s : State) (prev : Bool) (p first last t : Nat) : Option Nat :=
  let shift := ceilDiv (s.rangeShift p) 65536
  if prev then
    if (t : Int) + 32 * s.chart.lateSlots ≤ 32 * (last : Int) + 32 + shift then some (s.chr.meridNs + t) else none
  else if 32 * (first : Int) + shift ≤ t ∧ (t : Int) ≤ 32 * (last : Int) + 32 + shift then some (s.chr.meridNs + t) else none

/-- The completion event of an inbound leg (R14, R168): its status word, the write engine, the LEG sources and the task. -/
def legEvent (i : Nat) (e : ChartEntry) (tick status : Nat) (store : Option (List Byte)) (stale fault dup : Bool) : Prog :=
  .read fun s =>
    let same := s.entry i == e
    let old := if same then s.leg i else {}
    let r : LegRec := match store with
      | some b => { old with inb := fitTo e.payload b, stale := stale, nodeFault := fault, dupUsed := dup, goodTick := some tick }
      | none => { old with dupUsed := dup }
    seqs [
      modLeg i fun o => if same then
          { r with status := status, doneTick := some s.tick, endTick := some tick, copyTick := none }
        else { o with endTick := some tick },
      piInbound i e r tick status, legPulse i,
      whenP (e.trigger != 0) (.read fun t => taskEvent e.trigger t.now12)]

/-- How a copy ended: 0 with no frame, 1 bad, 2 cut. -/
def copyStatus (how : Nat) : Nat := if how = 0 then St.timeout else St.short

/-- What the end of a leg counts in (Tables 04-9, 05-10 and 05-22): a frame that is cut ends SHORT too, and a hub's status leg that fails a check is a missed
response of the hub. -/
def copyCount (how : Nat) (e : ChartEntry) : Prog :=
  .read fun s => seqs [
    if how = 0 then seqs [countUp Fld.CHT_MISS_CNT.COUNT e.port, raise Fld.CHT_EVENT.MISS]
    else if how = 1 then seqs [countUp Fld.CHT_SHORT_CNT.COUNT e.port, raise Fld.CHT_EVENT.SHORT]
    else seqs [countUp Fld.CHT_OVERRUN_CNT.COUNT e.port, raise Fld.CHT_EVENT.OVERRUN, raise Fld.CHT_EVENT.SHORT],
    whenP (how == 0 || (e.pipe == 0 && (s.node e.node).hub)) (missed e.node)]

/-- A copy that did not pass: the first of a duplicated leg waits for the second, and the leg ends with the worse of both (R168). -/
def copyBad (i : Nat) (e : ChartEntry) (tick : Nat) (second : Bool) (how : Nat) : Prog :=
  .read fun s =>
    if e.dup ∧ !second then modLeg i fun r => { r with copyTick := some (tick, how) }
    else
      let before := match (s.leg i).copyTick with
        | some c => if c.1 = tick then c.2 else 0
        | none => 0
      let h := if how = 0 then before else how
      seqs [copyCount h e, legEvent i e tick (copyStatus h) none false false second]

/-- The range of a copy of an entry. -/
def ChartEntry.range (e : ChartEntry) (second : Bool) : Nat × Nat :=
  let a := if second then e.start + e.dupOffset else e.start
  (a, a + e.len)

/-- A copy's event at its instant; in QUARANTINE a leg completes at the end of its last range (R131, Table 07-8). -/
def copyEvent (prev : Bool) (i : Nat) (e : ChartEntry) (second : Bool) (t : Nat) (p : Nat → Prog) : Prog :=
  .read fun s =>
    let tick := if prev then s.chart.lateTick else s.tick
    let r := e.range second
    match s.eventNs prev e.port r.1 r.2 t with
    | none => .skip
    | some at_ => whenP (!second || e.dup) (atNs at_ (.read fun s =>
        if (s.node e.node).state == .quarantine then
          whenP (second == e.dup) (legEvent i e tick St.nodeQuarantined none false false false)
        else p tick))

/-- Where a frame begins on a port's slot grid, in 2^-16 ns after its origin: a code within tolerance of a slot's boundary begins at it (R431, R564). -/
def State.gridPos (s : State) (p : Nat) (pos : Int) : Int :=
  let at_ := pos - s.rangeShift p
  match boundaryOf (s.endGen p) at_ with
  | some k => 32 * 65536 * k
  | none => at_

/-- Whether a frame begins in the range of a copy of an entry, at an instant on the grid: at the boundary of one of its slots, or, for a legacy node, at
any code of its first slot (R151, R564). -/
def State.beginsIn (s : State) (e : ChartEntry) (second : Bool) (at_ : Int) : Bool :=
  let r := e.range second
  let k := slotOf at_
  decide (0 ≤ at_) && decide (r.1 ≤ k) && decide (k < r.2) && (at_ == 32 * 65536 * (k : Int) || ((s.node e.node).legacy && k == r.1))

/-- What a frame in the range of a copy of a leg says (Table 05-10): whether both CRCs are good, whether it ends within the range and LEN, whether its header
is as charted. -/
def State.legChecks (s : State) (e : ChartEntry) (tick : Nat) (second : Bool) (at_ : Int) (frame : List Byte) : Bool × Bool × Bool :=
  let h := Header.ofBytes frame
  let len := if headerGood frame then h.length else frame.length - 12
  (frameGood frame,
   decide (at_ + 32 * 65536 * frameSlots (s.endGen e.port) len ≤ 32 * 65536 * ((e.range second).2 : Int)) &&
     decide (frameSlots (s.pathGen e.node) len ≤ e.len),
   h.addr == e.node && h.pipe == e.pipe && h.inbound && !h.packet && h.low == tick % 256 && h.length == e.payload)

/-- INBOUND_LEG_RECEIVE (R14, R168): a frame whose first code arrives at `pos` (in 2^-16 ns after the meridian of its tick) in the range of a copy of leg `i`, with its
bytes; the event comes `t` ns after the meridian. `prev` is whether the leg is of the tick before. -/
def execInboundLegReceive (prev : Bool) (i : Nat) (second : Bool) (t : Nat) (pos : Int) (frame : List Byte) (s : State) : Out :=
  let h := Header.ofBytes frame
  finish (match s.inLeg prev i with
    | none => .skip
    | some e =>
      let at_ := s.gridPos e.port pos
      whenP (s.portUp e.port && s.beginsIn e second at_) (
        let c := s.legChecks e (if prev then s.chart.lateTick else s.tick) second at_ frame
        let whole := c.1 && c.2.1
        seqs [
          copyEvent prev i e second t fun tick => seqs [
            whenP whole (goodResponse h.addr),
            if whole && c.2.2 then legEvent i e tick St.success (some (framePayload frame)) (h.flag 3) (h.flag 4) second
            else seqs [nodeError e.node, copyBad i e tick second (if c.2.1 then 1 else 2)]],
          -- a hub's status leg is acted on even in QUARANTINE (R111, R131)
          whenP (whole && e.pipe == 0 && (s.node e.node).hub && h.addr == e.node && h.pipe == 0 && h.inbound && !h.packet) (hubStatus e.node (framePayload frame))]))
    s

/-- INBOUND_LEG_TIMEOUT (R168): the range of a copy of leg `i` ends with no frame begun, or its port is not UP (R170). -/
def execInboundLegTimeout (prev : Bool) (i : Nat) (second : Bool) (t : Nat) (s : State) : Out :=
  finish (match s.inLeg prev i with
    | none => .skip
    | some e => copyEvent prev i e second t fun tick => copyBad i e tick second 0) s

/-- Whether a slot lies in a range of an active inbound leg of a port. -/
def State.inRange (s : State) (p slot : Nat) : Bool :=
  s.bit Fld.CHT_STATUS.RUNNING && s.legs.any fun e => e.2.inbound && e.2.port == p && e.2.activeIn s.tick &&
    e.2.copies.any fun c => decide (c.1 ≤ slot) && decide (slot < c.2)

/-- STRAY_FRAME (R169): a leg frame that begins at the boundary of a slot outside every active range of its port; `pos` is the instant of its first code after the
meridian, in 2^-16 ns. -/
def execStrayFrame (p : Nat) (pos : Int) (frame : List Byte) (s : State) : Out :=
  let h := Header.ofBytes frame
  finish (match boundaryOf (s.endGen p) (pos - s.rangeShift p) with
    | none => .skip
    | some slot => whenP (p < 16 && s.portUp p && !h.packet && !s.inRange p slot) (seqs [
        countUp Fld.CHT_STRAY_CNT.COUNT p, raise Fld.CHT_EVENT.STRAY,
        whenP (frameGood frame) (goodResponse h.addr), whenP (headerGood frame) (nodeError h.addr)])) s

end Sys2Proof.Machine
end

