-- ==== Sys2Proof/Machine/Dispatch.lean ====
section
/-! DEFINITION. One arm per command: each calls the meaning of its row, and nothing else. -/

namespace Sys2Proof.Machine

/-- The effect of a command on everything but the queue. -/
def exec (i : Instr) (s : State) : Host.Outcome State Fault Refusal :=
  match i with
  | .meridian => Sys2Proof.Machine.execMeridian s
  | .latchPoint => Sys2Proof.Machine.execLatchPoint s
  | .handoverWhileStopped block => Sys2Proof.Machine.execHandoverWhileStopped block s
  | .meridOutPpsPulse => Sys2Proof.Machine.execMeridOutPpsPulse s
  | .outboundLegStart ix second => Sys2Proof.Machine.execOutboundLegStart ix second s
  | .legEncodeStart ix => Sys2Proof.Machine.execLegEncodeStart ix s
  | .inboundLegReceive prev ix second t pos frame => Sys2Proof.Machine.execInboundLegReceive prev ix second t pos frame s
  | .inboundLegTimeout prev ix second t => Sys2Proof.Machine.execInboundLegTimeout prev ix second t s
  | .strayFrame p pos frame => Sys2Proof.Machine.execStrayFrame p pos frame s
  | .piFullAtSlot ix => Sys2Proof.Machine.execPiFullAtSlot ix s
  | .piHalfAtSlot ix => Sys2Proof.Machine.execPiHalfAtSlot ix s
  | .piStampCompletion ix => Sys2Proof.Machine.execPiStampCompletion ix s
  | .piRegionReadCompletion ix k => Sys2Proof.Machine.execPiRegionReadCompletion ix k s
  | .piReadFault ix stamp k how => Sys2Proof.Machine.execPiReadFault ix stamp k how s
  | .taskDispatch h => Sys2Proof.Machine.execTaskDispatch h s
  | .latestFinish t => Sys2Proof.Machine.execLatestFinish t s
  | .helmInstruction h more ecc row => Sys2Proof.Machine.execHelmInstruction h more ecc row s
  | .helmInterruptTaken h => Sys2Proof.Machine.execHelmInterruptTaken h s
  | .gyLin h ecc row => Sys2Proof.Machine.execGyLin h ecc row s
  | .gyLout h ecc row => Sys2Proof.Machine.execGyLout h ecc row s
  | .gyLstat h ecc row => Sys2Proof.Machine.execGyLstat h ecc row s
  | .gySig h ecc row => Sys2Proof.Machine.execGySig h ecc row s
  | .gySemtry h ecc row => Sys2Proof.Machine.execGySemtry h ecc row s
  | .gySemtake h ecc row => Sys2Proof.Machine.execGySemtake h ecc row s
  | .semaphoreTaken h => Sys2Proof.Machine.execSemaphoreTaken h s
  | .gySemrel h ecc row => Sys2Proof.Machine.execGySemrel h ecc row s
  | .gyDone h ecc row => Sys2Proof.Machine.execGyDone h ecc row s
  | .gyWft h ecc row => Sys2Proof.Machine.execGyWft h ecc row s
  | .gyFclmp h ecc row => Sys2Proof.Machine.execGyFclmp h ecc row s
  | .semaphoreOverhold n => Sys2Proof.Machine.execSemaphoreOverhold n s
  | .hlmEnable h => Sys2Proof.Machine.execHlmEnable h s
  | .hlmDisable h => Sys2Proof.Machine.execHlmDisable h s
  | .helmEnablingDone h => Sys2Proof.Machine.execHelmEnablingDone h s
  | .tcmFabricWrite h itcm off bs => Sys2Proof.Machine.execTcmFabricWrite h itcm off bs s
  | .tskWrite => Sys2Proof.Machine.execTskWrite s
  | .tskEnable => Sys2Proof.Machine.execTskEnable s
  | .tskDisable => Sys2Proof.Machine.execTskDisable s
  | .tskKick => Sys2Proof.Machine.execTskKick s
  | .tskClearStats => Sys2Proof.Machine.execTskClearStats s
  | .tskDescSnapshot => Sys2Proof.Machine.execTskDescSnapshot s
  | .tskStateSnapshot => Sys2Proof.Machine.execTskStateSnapshot s
  | .chrTimeSnapshot => Sys2Proof.Machine.execChrTimeSnapshot s
  | .chrRateTrimWrite v => Sys2Proof.Machine.execChrRateTrimWrite v s
  | .chrCommit => Sys2Proof.Machine.execChrCommit s
  | .timeInEdge t8 => Sys2Proof.Machine.execTimeInEdge t8 s
  | .ppsMissed => Sys2Proof.Machine.execPpsMissed s
  | .syncFrameSend => Sys2Proof.Machine.execSyncFrameSend s
  | .syncFrameReceive a b c arrival consecutive => Sys2Proof.Machine.execSyncFrameReceive a b c arrival consecutive s
  | .syncPeriodMissed => Sys2Proof.Machine.execSyncPeriodMissed s
  | .holdoverSecond => Sys2Proof.Machine.execHoldoverSecond s
  | .lfixReqSend lane t1 => Sys2Proof.Machine.execLfixReqSend lane t1 s
  | .lfixReqReceive n word t2 t3 => Sys2Proof.Machine.execLfixReqReceive n word t2 t3 s
  | .lfixRespReceive lane a b t4 => Sys2Proof.Machine.execLfixRespReceive lane a b t4 s
  | .linkFixFail lane => Sys2Proof.Machine.execLinkFixFail lane s
  | .hubTimingPoll hub => Sys2Proof.Machine.execHubTimingPoll hub s
  | .bearingStale a => Sys2Proof.Machine.execBearingStale a s
  | .nodeMarkerReceive d word arrival samples => Sys2Proof.Machine.execNodeMarkerReceive d word arrival samples s
  | .hubMarkerForward d up word arrival residences => Sys2Proof.Machine.execHubMarkerForward d up word arrival residences s
  | .hubDownstreamForward d up arrival residence frame => Sys2Proof.Machine.execHubDownstreamForward d up arrival residence frame s
  | .hubUpstreamForward d p start frame ties => Sys2Proof.Machine.execHubUpstreamForward d p start frame ties s
  | .hubPortUp d p good t1 t4 turn ns frac resUp => Sys2Proof.Machine.execHubPortUp d p good t1 t4 turn ns frac resUp s
  | .lnkEnable n => Sys2Proof.Machine.execLnkEnable n s
  | .lnkDisable n => Sys2Proof.Machine.execLnkDisable n s
  | .laneDisabled n => Sys2Proof.Machine.execLaneDisabled n s
  | .laneLock n offset commas run => Sys2Proof.Machine.execLaneLock n offset commas run s
  | .laneLockLoss n => Sys2Proof.Machine.execLaneLockLoss n s
  | .trainReceive n word => Sys2Proof.Machine.execTrainReceive n word s
  | .capsReceive n word => Sys2Proof.Machine.execCapsReceive n word s
  | .legacyDetect n => Sys2Proof.Machine.execLegacyDetect n s
  | .genGoReceive n word => Sys2Proof.Machine.execGenGoReceive n word s
  | .genSwitchIdleEnd n => Sys2Proof.Machine.execGenSwitchIdleEnd n s
  | .eqReqReceive n word => Sys2Proof.Machine.execEqReqReceive n word s
  | .eqSweepDone n eyes => Sys2Proof.Machine.execEqSweepDone n eyes s
  | .trainingTimeout n => Sys2Proof.Machine.execTrainingTimeout n s
  | .attemptIdleEnd n => Sys2Proof.Machine.execAttemptIdleEnd n s
  | .codeError n code rd => Sys2Proof.Machine.execCodeError n code rd s
  | .typeError n block => Sys2Proof.Machine.execTypeError n block s
  | .frameError n inside pos => Sys2Proof.Machine.execFrameError n inside pos s
  | .retrainReceive n word => Sys2Proof.Machine.execRetrainReceive n word s
  | .lnkRetrain n => Sys2Proof.Machine.execLnkRetrain n s
  | .lnkFullRetrain n => Sys2Proof.Machine.execLnkFullRetrain n s
  | .laneLost n => Sys2Proof.Machine.execLaneLost n s
  | .linkOffReceive n word => Sys2Proof.Machine.execLinkOffReceive n word s
  | .lnkLowPower n => Sys2Proof.Machine.execLnkLowPower n s
  | .lnkWakeRemote n => Sys2Proof.Machine.execLnkWakeRemote n s
  | .foghornBurst n => Sys2Proof.Machine.execFoghornBurst n s
  | .foghornDetect n => Sys2Proof.Machine.execFoghornDetect n s
  | .lnkSlip n => Sys2Proof.Machine.execLnkSlip n s
  | .enumStart p => Sys2Proof.Machine.execEnumStart p s
  | .enumRequestDone p gen legacy => Sys2Proof.Machine.execEnumRequestDone p gen legacy s
  | .enumStepTimeout p => Sys2Proof.Machine.execEnumStepTimeout p s
  | .treNodeWrite => Sys2Proof.Machine.execTreNodeWrite s
  | .treNodeForget => Sys2Proof.Machine.execTreNodeForget s
  | .treNodeQuarantine => Sys2Proof.Machine.execTreNodeQuarantine s
  | .treNodeRelease => Sys2Proof.Machine.execTreNodeRelease s
  | .treNodeDataSnapshot => Sys2Proof.Machine.execTreNodeDataSnapshot s
  | .treEnumRetry mask => Sys2Proof.Machine.execTreEnumRetry mask s
  | .reqGetDescriptor d desc pipes => Sys2Proof.Machine.execReqGetDescriptor d desc pipes s
  | .reqGetStatus d => Sys2Proof.Machine.execReqGetStatus d s
  | .reqClearHalt d => Sys2Proof.Machine.execReqClearHalt d s
  | .reqSetAddress d => Sys2Proof.Machine.execReqSetAddress d s
  | .reqSetConfig d => Sys2Proof.Machine.execReqSetConfig d s
  | .reqSetBearing d => Sys2Proof.Machine.execReqSetBearing d s
  | .reqSetRoute d => Sys2Proof.Machine.execReqSetRoute d s
  | .reqSetPortGate d => Sys2Proof.Machine.execReqSetPortGate d s
  | .reqClearPortChange d => Sys2Proof.Machine.execReqClearPortChange d s
  | .reqReadTiming d => Sys2Proof.Machine.execReqReadTiming d s
  | .chtEditOpen => Sys2Proof.Machine.execChtEditOpen s
  | .chtEditClose => Sys2Proof.Machine.execChtEditClose s
  | .shadowWrite what idx word v => Sys2Proof.Machine.execShadowWrite what idx word v s
  | .safeValueWrite off v => Sys2Proof.Machine.execSafeValueWrite off v s
  | .chtCommit => Sys2Proof.Machine.execChtCommit s
  | .replayDone => Sys2Proof.Machine.execReplayDone s
  | .chtRun run => Sys2Proof.Machine.execChtRun run s
  | .admitBatch => Sys2Proof.Machine.execAdmitBatch s
  | .packetSend c slot => Sys2Proof.Machine.execPacketSend c slot s
  | .grantSend c slot r n room => Sys2Proof.Machine.execGrantSend c slot r n room s
  | .conversationStart c => Sys2Proof.Machine.execConversationStart c s
  | .dataReceive port pos frame room => Sys2Proof.Machine.execDataReceive port pos frame room s
  | .handshakeReceive port pos frame => Sys2Proof.Machine.execHandshakeReceive port pos frame s
  | .grantUnanswered port => Sys2Proof.Machine.execGrantUnanswered port s
  | .handshakeGrantTimer c => Sys2Proof.Machine.execHandshakeGrantTimer c s
  | .waitBackoffEnd c => Sys2Proof.Machine.execWaitBackoffEnd c s
  | .waitTimeout c => Sys2Proof.Machine.execWaitTimeout c s
  | .transferAbort c slot => Sys2Proof.Machine.execTransferAbort c slot s
  | .backpressureRelease c => Sys2Proof.Machine.execBackpressureRelease c s
  | .nodeGrantReceive d frame ended credit wait fresh => Sys2Proof.Machine.execNodeGrantReceive d frame ended credit wait fresh s
  | .nodeDataReceive d frame => Sys2Proof.Machine.execNodeDataReceive d frame s
  | .nodeSetupReceive d frame => Sys2Proof.Machine.execNodeSetupReceive d frame s
  | .nodeAbortReceive d frame => Sys2Proof.Machine.execNodeAbortReceive d frame s
  | .nodeHandshakeReceive d frame => Sys2Proof.Machine.execNodeHandshakeReceive d frame s
  | .dmaPiCfgWrite v => Sys2Proof.Machine.execDmaPiCfgWrite v s
  | .dmaPiBaseWrite hi v => Sys2Proof.Machine.execDmaPiBaseWrite hi v s
  | .dmaRouteConfig reg v => Sys2Proof.Machine.execDmaRouteConfig reg v s
  | .dmaChConfig c reg v => Sys2Proof.Machine.execDmaChConfig c reg v s
  | .dmaChEnable c => Sys2Proof.Machine.execDmaChEnable c s
  | .dmaChDisable c => Sys2Proof.Machine.execDmaChDisable c s
  | .dmaChEnabled c => Sys2Proof.Machine.execDmaChEnabled c s
  | .dmaChStart c => Sys2Proof.Machine.execDmaChStart c s
  | .dmaChResume c => Sys2Proof.Machine.execDmaChResume c s
  | .dmaChAbort c => Sys2Proof.Machine.execDmaChAbort c s
  | .descriptorFetchComplete c parity => Sys2Proof.Machine.execDescriptorFetchComplete c parity s
  | .burstIssue wr beats ce => Sys2Proof.Machine.execBurstIssue wr beats ce s
  | .dmaDataComplete c => Sys2Proof.Machine.execDmaDataComplete c s
  | .flushReadComplete c => Sys2Proof.Machine.execFlushReadComplete c s
  | .dmaCompletionTimeout c how => Sys2Proof.Machine.execDmaCompletionTimeout c how s
  | .sqTailDoorbell fn slot q v => Sys2Proof.Machine.execSqTailDoorbell fn slot q v s
  | .cqHeadDoorbell fn slot q v => Sys2Proof.Machine.execCqHeadDoorbell fn slot q v s
  | .sqFetch => Sys2Proof.Machine.execSqFetch s
  | .sqEntryReadComplete sq => Sys2Proof.Machine.execSqEntryReadComplete sq s
  | .sqFetchFault sq how => Sys2Proof.Machine.execSqFetchFault sq how s
  | .keeperCheckDone tag => Sys2Proof.Machine.execKeeperCheckDone tag s
  | .qmSqEnable => Sys2Proof.Machine.execQmSqEnable s
  | .qmSqDisable => Sys2Proof.Machine.execQmSqDisable s
  | .qmCqEnable => Sys2Proof.Machine.execQmCqEnable s
  | .qmCqDisable => Sys2Proof.Machine.execQmCqDisable s
  | .queueEnabled isCq n => Sys2Proof.Machine.execQueueEnabled isCq n s
  | .queueDisabled isCq n => Sys2Proof.Machine.execQueueDisabled isCq n s
  | .qmCacheInval all ix => Sys2Proof.Machine.execQmCacheInval all ix s
  | .nop tag => Sys2Proof.Machine.execNop tag s
  | .createSq tag => Sys2Proof.Machine.execCreateSq tag s
  | .deleteSq tag => Sys2Proof.Machine.execDeleteSq tag s
  | .createCq tag => Sys2Proof.Machine.execCreateCq tag s
  | .deleteCq tag => Sys2Proof.Machine.execDeleteCq tag s
  | .waitIdle tag => Sys2Proof.Machine.execWaitIdle tag s
  | .waitIdleTimeout tag => Sys2Proof.Machine.execWaitIdleTimeout tag s
  | .invalidate tag => Sys2Proof.Machine.execInvalidate tag s
  | .abort tag => Sys2Proof.Machine.execAbort tag s
  | .admitLeg tag => Sys2Proof.Machine.execAdmitLeg tag s
  | .release tag => Sys2Proof.Machine.execRelease tag s
  | .chartEditOpen tag => Sys2Proof.Machine.execChartEditOpen tag s
  | .chartEditWriteEntry tag => Sys2Proof.Machine.execChartEditWriteEntry tag s
  | .chartEditWriteSafe tag => Sys2Proof.Machine.execChartEditWriteSafe tag s
  | .chartEditDiscard tag => Sys2Proof.Machine.execChartEditDiscard tag s
  | .chartEditCommit tag => Sys2Proof.Machine.execChartEditCommit tag s
  | .chartEditSetN tag => Sys2Proof.Machine.execChartEditSetN tag s
  | .chartEditSetReserve tag => Sys2Proof.Machine.execChartEditSetReserve tag s
  | .nodeOpWrite tag => Sys2Proof.Machine.execNodeOpWrite tag s
  | .nodeOpForget tag => Sys2Proof.Machine.execNodeOpForget tag s
  | .nodeOpQuarantine tag => Sys2Proof.Machine.execNodeOpQuarantine tag s
  | .nodeOpRelease tag => Sys2Proof.Machine.execNodeOpRelease tag s
  | .nodeOpRead tag => Sys2Proof.Machine.execNodeOpRead tag s
  | .nodeOpEnumRetry tag => Sys2Proof.Machine.execNodeOpEnumRetry tag s
  | .taskOpWrite tag => Sys2Proof.Machine.execTaskOpWrite tag s
  | .taskOpEnable tag => Sys2Proof.Machine.execTaskOpEnable tag s
  | .taskOpDisable tag => Sys2Proof.Machine.execTaskOpDisable tag s
  | .taskOpKick tag => Sys2Proof.Machine.execTaskOpKick tag s
  | .taskOpReadState tag => Sys2Proof.Machine.execTaskOpReadState tag s
  | .bulkOut tag => Sys2Proof.Machine.execBulkOut tag s
  | .bulkIn tag => Sys2Proof.Machine.execBulkIn tag s
  | .control tag => Sys2Proof.Machine.execControl tag s
  | .dma tag => Sys2Proof.Machine.execDma tag s
  | .bindInstance tag => Sys2Proof.Machine.execBindInstance tag s
  | .setShares tag => Sys2Proof.Machine.execSetShares tag s
  | .instanceCtrlEnable tag => Sys2Proof.Machine.execInstanceCtrlEnable tag s
  | .instanceCtrlDisable tag => Sys2Proof.Machine.execInstanceCtrlDisable tag s
  | .instanceCtrlHold tag => Sys2Proof.Machine.execInstanceCtrlHold tag s
  | .instanceCtrlUnhold tag => Sys2Proof.Machine.execInstanceCtrlUnhold tag s
  | .instanceCtrlFail tag => Sys2Proof.Machine.execInstanceCtrlFail tag s
  | .quiesce tag => Sys2Proof.Machine.execQuiesce tag s
  | .quiesceTimeout tag => Sys2Proof.Machine.execQuiesceTimeout tag s
  | .resetInstance tag => Sys2Proof.Machine.execResetInstance tag s
  | .resetInstanceForce tag => Sys2Proof.Machine.execResetInstanceForce tag s
  | .logbookStart tag => Sys2Proof.Machine.execLogbookStart tag s
  | .logbookSync tag => Sys2Proof.Machine.execLogbookSync tag s
  | .logbookStop tag => Sys2Proof.Machine.execLogbookStop tag s
  | .readInstance tag => Sys2Proof.Machine.execReadInstance tag s
  | .insEnable => Sys2Proof.Machine.execInsEnable s
  | .insDisable => Sys2Proof.Machine.execInsDisable s
  | .insHoldWrite v => Sys2Proof.Machine.execInsHoldWrite v s
  | .insFail => Sys2Proof.Machine.execInsFail s
  | .insBindWrite reg v => Sys2Proof.Machine.execInsBindWrite reg v s
  | .instanceEnabled ix => Sys2Proof.Machine.execInstanceEnabled ix s
  | .instanceQuiesced ix => Sys2Proof.Machine.execInstanceQuiesced ix s
  | .busMasterDisable fn => Sys2Proof.Machine.execBusMasterDisable fn s
  | .vfFlr fn => Sys2Proof.Machine.execVfFlr fn s
  | .icuClaim t => Sys2Proof.Machine.execIcuClaim t s
  | .icuComplete t src noCause => Sys2Proof.Machine.execIcuComplete t src noCause s
  | .icuSrcCfgWrite src v => Sys2Proof.Machine.execIcuSrcCfgWrite src v s
  | .icuMaskWrite w v => Sys2Proof.Machine.execIcuMaskWrite w v s
  | .icuTimerArm t lo => Sys2Proof.Machine.execIcuTimerArm t lo s
  | .icuTimerFire t => Sys2Proof.Machine.execIcuTimerFire t s
  | .icuSoftSet v => Sys2Proof.Machine.execIcuSoftSet v s
  | .icuLevelChange src level => Sys2Proof.Machine.execIcuLevelChange src level s
  | .icuEdge src => Sys2Proof.Machine.execIcuEdge src s
  | .hicVectorTimer fn vec => Sys2Proof.Machine.execHicVectorTimer fn vec s
  | .hicFlush => Sys2Proof.Machine.execHicFlush s
  | .msixUnmask fn vec whole => Sys2Proof.Machine.execMsixUnmask fn vec whole s
  | .hicInsCfgWrite err v => Sys2Proof.Machine.execHicInsCfgWrite err v s
  | .pwcGetCaps p levels => Sys2Proof.Machine.execPwcGetCaps p levels s
  | .pwcRequest p levels => Sys2Proof.Machine.execPwcRequest p levels s
  | .pwcAckReceive e begin levels => Sys2Proof.Machine.execPwcAckReceive e begin levels s
  | .pwcAckTimeout e => Sys2Proof.Machine.execPwcAckTimeout e s
  | .pwcKeepAlive p levels => Sys2Proof.Machine.execPwcKeepAlive p levels s
  | .pwcBeat p tenths => Sys2Proof.Machine.execPwcBeat p tenths s
  | .pwcSwapReq p levels => Sys2Proof.Machine.execPwcSwapReq p levels s
  | .pwcLocalReady p levels => Sys2Proof.Machine.execPwcLocalReady p levels s
  | .pwcReduceAnswer p levels => Sys2Proof.Machine.execPwcReduceAnswer p levels s
  | .pwcCaps d levels ask => Sys2Proof.Machine.execPwcCaps d levels ask s
  | .pwcAccept d levels => Sys2Proof.Machine.execPwcAccept d levels s
  | .pwcPsReady d levels arm => Sys2Proof.Machine.execPwcPsReady d levels arm s
  | .pwcReduce d levels => Sys2Proof.Machine.execPwcReduce d levels s
  | .pwcPing d levels => Sys2Proof.Machine.execPwcPing d levels s
  | .pwcFastSwapLow p tenths => Sys2Proof.Machine.execPwcFastSwapLow p tenths s
  | .pwcStuck p => Sys2Proof.Machine.execPwcStuck p s
  | .voutPoll p vout iout => Sys2Proof.Machine.execVoutPoll p vout iout s
  | .transitionTimeout p => Sys2Proof.Machine.execTransitionTimeout p s
  | .contractExpiry p => Sys2Proof.Machine.execContractExpiry p s
  | .reduceTimeout p => Sys2Proof.Machine.execReduceTimeout p s
  | .swappingTimeout p => Sys2Proof.Machine.execSwappingTimeout p s
  | .pfaultAssert low words => Sys2Proof.Machine.execPfaultAssert low words s
  | .pwcSilence p => Sys2Proof.Machine.execPwcSilence p s
  | .pingTimeout p => Sys2Proof.Machine.execPingTimeout p s
  | .rearmExpiry p => Sys2Proof.Machine.execRearmExpiry p s
  | .pmbusTimeout target => Sys2Proof.Machine.execPmbusTimeout target s
  | .cpwEnable p => Sys2Proof.Machine.execCpwEnable p s
  | .cpwDisable p => Sys2Proof.Machine.execCpwDisable p s
  | .cpwEnabled p => Sys2Proof.Machine.execCpwEnabled p s
  | .cpwDischarged p => Sys2Proof.Machine.execCpwDischarged p s
  | .cpwForceDefault p => Sys2Proof.Machine.execCpwForceDefault p s
  | .powerPortEnable tag => Sys2Proof.Machine.execPowerPortEnable tag s
  | .powerPortDisable tag => Sys2Proof.Machine.execPowerPortDisable tag s
  | .powerPortForceDefault tag => Sys2Proof.Machine.execPowerPortForceDefault tag s
  | .powerPortReduce tag => Sys2Proof.Machine.execPowerPortReduce tag s
  | .powerPortSetLimit tag => Sys2Proof.Machine.execPowerPortSetLimit tag s
  | .powerBudget tag => Sys2Proof.Machine.execPowerBudget tag s
  | .powerRead tag => Sys2Proof.Machine.execPowerRead tag s
  | .powerStateS1 tag => Sys2Proof.Machine.execPowerStateS1 tag s
  | .powerStateS2 tag => Sys2Proof.Machine.execPowerStateS2 tag s
  | .powerStateS3 tag => Sys2Proof.Machine.execPowerStateS3 tag s
  | .pwrStateCtrlS0 => Sys2Proof.Machine.execPwrStateCtrlS0 s
  | .pwrStateCtrlS1 => Sys2Proof.Machine.execPwrStateCtrlS1 s
  | .pwrStateCtrlS2 => Sys2Proof.Machine.execPwrStateCtrlS2 s
  | .pwrStateCtrlS3 => Sys2Proof.Machine.execPwrStateCtrlS3 s
  | .entryIdleReached => Sys2Proof.Machine.execEntryIdleReached s
  | .entryIdleTimeout => Sys2Proof.Machine.execEntryIdleTimeout s
  | .entryReversionsDone => Sys2Proof.Machine.execEntryReversionsDone s
  | .pmeTurnOff => Sys2Proof.Machine.execPmeTurnOff s
  | .linkWaitTimeout => Sys2Proof.Machine.execLinkWaitTimeout s
  | .s1HostWrite => Sys2Proof.Machine.execS1HostWrite s
  | .wakeDeclare cause index => Sys2Proof.Machine.execWakeDeclare cause index s
  | .wakeStepDone zeroOk => Sys2Proof.Machine.execWakeStepDone zeroOk s
  | .wakeStepTimeout => Sys2Proof.Machine.execWakeStepTimeout s
  | .wakeRetryWait => Sys2Proof.Machine.execWakeRetryWait s
  | .pwrPadRelease v => Sys2Proof.Machine.execPwrPadRelease v s
  | .pwrDomCtrl v => Sys2Proof.Machine.execPwrDomCtrl v s
  | .domainIdleOff d => Sys2Proof.Machine.execDomainIdleOff d s
  | .offDomainAccess tcm write off v => Sys2Proof.Machine.execOffDomainAccess tcm write off v s
  | .domainGood d => Sys2Proof.Machine.execDomainGood d s
  | .domainGoodTimeout d => Sys2Proof.Machine.execDomainGoodTimeout d s
  | .pwrOpVsel v => Sys2Proof.Machine.execPwrOpVsel v s
  | .pwrOpCommit => Sys2Proof.Machine.execPwrOpCommit s
  | .voltageConfirm rail v1 v2 => Sys2Proof.Machine.execVoltageConfirm rail v1 v2 s
  | .voltageTimeout => Sys2Proof.Machine.execVoltageTimeout s
  | .operatingPoint tag => Sys2Proof.Machine.execOperatingPoint tag s
  | .domainOn tag => Sys2Proof.Machine.execDomainOn tag s
  | .domainOff tag => Sys2Proof.Machine.execDomainOff tag s
  | .domainAutoOn tag => Sys2Proof.Machine.execDomainAutoOn tag s
  | .domainAutoOff tag => Sys2Proof.Machine.execDomainAutoOff tag s
  | .pairCtrlEnable v => Sys2Proof.Machine.execPairCtrlEnable v s
  | .pairRoleEnable tag => Sys2Proof.Machine.execPairRoleEnable tag s
  | .pairRoleDisable tag => Sys2Proof.Machine.execPairRoleDisable tag s
  | .pairRoleSwap tag => Sys2Proof.Machine.execPairRoleSwap tag s
  | .mbeaconReceive word arrival => Sys2Proof.Machine.execMbeaconReceive word arrival s
  | .mclaimReceive a b consecutive => Sys2Proof.Machine.execMclaimReceive a b consecutive s
  | .claimSendTimer => Sys2Proof.Machine.execClaimSendTimer s
  | .electTimeout => Sys2Proof.Machine.execElectTimeout s
  | .mirrorFrameSend slot => Sys2Proof.Machine.execMirrorFrameSend slot s
  | .mirrorFrameReceive bytes => Sys2Proof.Machine.execMirrorFrameReceive bytes s
  | .roleInEdge t => Sys2Proof.Machine.execRoleInEdge t s
  | .takeoverCheck => Sys2Proof.Machine.execTakeoverCheck s
  | .takeover => Sys2Proof.Machine.execTakeover s
  | .orphanTimeout => Sys2Proof.Machine.execOrphanTimeout s
  | .mirrorDownTimeout => Sys2Proof.Machine.execMirrorDownTimeout s
  | .handoverTimeout => Sys2Proof.Machine.execHandoverTimeout s
  | .powerOnReset straps => Sys2Proof.Machine.execPowerOnReset straps s
  | .resetPin => Sys2Proof.Machine.execResetPin s
  | .perstAssert => Sys2Proof.Machine.execPerstAssert s
  | .nvmWarmReset => Sys2Proof.Machine.execNvmWarmReset s
  | .resetEnd straps => Sys2Proof.Machine.execResetEnd straps s
  | .keeperBoot answers sizeMib => Sys2Proof.Machine.execKeeperBoot answers sizeMib s
  | .slotVerified answers => Sys2Proof.Machine.execSlotVerified answers s
  | .sectionApplied answers => Sys2Proof.Machine.execSectionApplied answers s
  | .haltPinLow => Sys2Proof.Machine.execHaltPinLow s
  | .haltAssert v => Sys2Proof.Machine.execHaltAssert v s
  | .haltClear => Sys2Proof.Machine.execHaltClear s
  | .nvmHostAttach v => Sys2Proof.Machine.execNvmHostAttach v s
  | .wdtKick v => Sys2Proof.Machine.execWdtKick v s
  | .wdtExpiry => Sys2Proof.Machine.execWdtExpiry s
  | .pcieConfigReady => Sys2Proof.Machine.execPcieConfigReady s
  | .keyWrite tag => Sys2Proof.Machine.execKeyWrite tag s
  | .keySelect tag => Sys2Proof.Machine.execKeySelect tag s
  | .keyRevoke tag => Sys2Proof.Machine.execKeyRevoke tag s
  | .svnAdvance tag => Sys2Proof.Machine.execSvnAdvance tag s
  | .flashWrite tag => Sys2Proof.Machine.execFlashWrite tag s
  | .imageVerify tag => Sys2Proof.Machine.execImageVerify tag s
  | .imageActivate tag => Sys2Proof.Machine.execImageActivate tag s
  | .imageActivateReset => Sys2Proof.Machine.execImageActivateReset s
  | .lifeCycle tag => Sys2Proof.Machine.execLifeCycle tag s
  | .lifeCycleApply => Sys2Proof.Machine.execLifeCycleApply s
  | .zeroize tag => Sys2Proof.Machine.execZeroize tag s
  | .zeroizeApply => Sys2Proof.Machine.execZeroizeApply s
  | .counterRead tag => Sys2Proof.Machine.execCounterRead tag s
  | .journalWriteDone ok => Sys2Proof.Machine.execJournalWriteDone ok s
  | .lockoutExpiry ix => Sys2Proof.Machine.execLockoutExpiry ix s
  | .secCritExtraAdd v => Sys2Proof.Machine.execSecCritExtraAdd v s
  | .wearWindowStart => Sys2Proof.Machine.execWearWindowStart s
  | .ageMeasure kind unit value => Sys2Proof.Machine.execAgeMeasure kind unit value s
  | .swapAtQuiesce kind unit row => Sys2Proof.Machine.execSwapAtQuiesce kind unit row s
  | .helmSwapDone h reload => Sys2Proof.Machine.execHelmSwapDone h reload s
  | .rowRepairDone array row => Sys2Proof.Machine.execRowRepairDone array row s
  | .repairBurn readback => Sys2Proof.Machine.execRepairBurn readback s
  | .almanacSaveTimer => Sys2Proof.Machine.execAlmanacSaveTimer s
  | .recordWriteDone ok => Sys2Proof.Machine.execRecordWriteDone ok s
  | .almSwap tag => Sys2Proof.Machine.execAlmSwap tag s
  | .almBurn tag => Sys2Proof.Machine.execAlmBurn tag s
  | .almRead tag => Sys2Proof.Machine.execAlmRead tag s
  | .almSave tag => Sys2Proof.Machine.execAlmSave tag s
  | .pfFlr => Sys2Proof.Machine.execPfFlr s
  | .vfEnableClear => Sys2Proof.Machine.execVfEnableClear s
  | .poisonedWrite fn => Sys2Proof.Machine.execPoisonedWrite fn s
  | .barBadAccess fn read => Sys2Proof.Machine.execBarBadAccess fn read s
  | .viewErrCauseWrite fn slot v => Sys2Proof.Machine.execViewErrCauseWrite fn slot v s
  | .bearingAsymWrite a v => Sys2Proof.Machine.execBearingAsymWrite a v s
  | .registerWrite origin space write off v => Sys2Proof.Machine.execRegisterWrite origin space write off v s
  | .nodeLegReceive d frame => Sys2Proof.Machine.execNodeLegReceive d frame s
  | .hubLinkFix d p good t1 t4 turn ns frac => Sys2Proof.Machine.execHubLinkFix d p good t1 t4 turn ns frac s
  | .auxLinkFix lane t1 => Sys2Proof.Machine.execAuxLinkFix lane t1 s
  | .sinkSupplyFail d => Sys2Proof.Machine.execSinkSupplyFail d s
  | .sinkVbusChange d present => Sys2Proof.Machine.execSinkVbusChange d present s
  | .sinkKeepAliveTimer d => Sys2Proof.Machine.execSinkKeepAliveTimer d s
  | .sinkBeatTimer d => Sys2Proof.Machine.execSinkBeatTimer d s
  | .pwcReject d levels => Sys2Proof.Machine.execPwcReject d levels s
  | .nodePipeHalt d pipe => Sys2Proof.Machine.execNodePipeHalt d pipe s
  | .hubOvertemp d => Sys2Proof.Machine.execHubOvertemp d s
  | .pmbusTransactionDone target ack value => Sys2Proof.Machine.execPmbusTransactionDone target ack value s
  | .flashOperationDone => Sys2Proof.Machine.execFlashOperationDone s
  | .flashBusyTimeout => Sys2Proof.Machine.execFlashBusyTimeout s
  | .otpProgramDone readback => Sys2Proof.Machine.execOtpProgramDone readback s
  | .bulkDataReadFault tag => Sys2Proof.Machine.execBulkDataReadFault tag s
  | .laneSignalChange n signal => Sys2Proof.Machine.execLaneSignalChange n signal s
  | .pcieLinkStateChange up speed width => Sys2Proof.Machine.execPcieLinkStateChange up speed width s
  | .configSpaceWrite fn off write be v => Sys2Proof.Machine.execConfigSpaceWrite fn off write be v s

end Sys2Proof.Machine
end

