-- ==== Sys2Proof/Machine/Step.lean ====
section
/-! DEFINITION. The step: the command at the front of the queue, or the passing of one slot while the queue is empty. -/

namespace Sys2Proof.Machine

/-- What an empty queue does: one slot of 32 ns passes (R9). DESIGN CHOICE (notes/assumptions/1). -/
def idle (s : State) : Host.Outcome State Fault Refusal := finish (.read fun t => advanceTo (t.chr.ns + 32)) s

/-- One step: take the command at the front of the queue and carry it out with the rest. -/
def step (s : State) : Host.Outcome State Fault Refusal :=
  match s.pending with
  | [] => idle s
  | c :: rest => exec c { s with pending := rest }

/-- The state with the command that a word spells put at the front of its queue; the spec gives no command a word, so the
state is unchanged where the decoder answers none. -/
def State.withFetchWord (s : State) (nbits w : Nat) : State :=
  match Sys2Proof.decodeTableWord nbits w with
  | some c => { s with pending := c :: s.pending }
  | none => s

end Sys2Proof.Machine
end

