-- ==== Sys2Proof/WellFormed.lean ====
section
/-! DEFINITION. Well-formed commands: every operand that the spec gives a width or a range is in it. An operand the world measures
(an instant, a length of time, the bytes of a frame), a transfer tag, a conversation number and the number of a device below the root
ports have no bound. -/

namespace Sys2Proof

/-- What an operand is, as far as that bounds it. -/
inductive OperandKind where
  /-- A root port, 0 to 15. -/
  | port
  /-- A lane: the sixteen root ports, SYNC_UP, SYNC_DN and MIRROR (Table 03-10). -/
  | lane
  /-- An auxiliary lane. -/
  | auxLane
  /-- A physical helm. -/
  | helm
  /-- An instance, 0 to 4,095 (file 10). -/
  | inst
  /-- A chart index, 0 to 16,383 (file 05). -/
  | chartIndex
  /-- A physical DMA channel (R270, R495). -/
  | channel
  /-- A source of the ICU (R345). -/
  | source
  /-- A target of the ICU: the helms and the host (R353). -/
  | target
  /-- A mask word of the ICU, or a pipe number. -/
  | five
  /-- A register word, or a time or code of 32 bits. -/
  | word
  /-- A function: PF0 or VF 1 to 255 (file 18). -/
  | fn
  /-- A vector of a function (R365). -/
  | vec
  /-- A value of eight bits. -/
  | byte
  /-- A value of sixteen bits. -/
  | half
  /-- An SQ or CQ context (file 09). -/
  | queue
  /-- A node address of 12 bits (file 04). -/
  | node
  /-- A slot of a tick: N has 15 bits (file 05). -/
  | slot
  /-- A value of 64 bits. -/
  | dword
  /-- A code of two bits. -/
  | two
  /-- A code of three bits. -/
  | three
  /-- A code with three values. -/
  | how
  /-- A code of four bits. -/
  | four
  /-- A semaphore, 0 to 63 (file 07). -/
  | sem
  /-- A task slot (R230). -/
  | task
  /-- A domain that is switched (R416). -/
  | domain
  /-- A word-aligned offset. -/
  | aligned
  /-- A contract word (file 12). -/
  | contract
  /-- BAR0, or one more than a function. -/
  | space
  /-- What a helm found in its memories: nothing, a corrected error, or an uncorrectable one at a fetch, a load or a resumed frame. -/
  | ecc
  /-- A kind of spare unit (Table 17-1). -/
  | kind5
  /-- A register number of Table 08-6. -/
  | reg5
  /-- A doorbell of a page, by its offset in words (R286). -/
  | doorbell
  /-- A target on the PMBus. -/
  | pmTarget
  deriving DecidableEq, Repr

/-- Whether a number is an operand of a kind. -/
def OperandKind.ok (k : OperandKind) (n : Nat) : Bool :=
  match k with
  | .port => n < 16
  | .lane => n < 19
  | .auxLane => 16 ≤ n && n < 19
  | .helm => n < 18
  | .inst => n < 4096
  | .chartIndex => n < 16384
  | .channel => n < 68
  | .source => n < 1024
  | .target => n < 19
  | .five => n < 32
  | .word => n < 2 ^ 32
  | .fn => n < 256
  | .vec => n < 2048
  | .byte => n < 256
  | .half => n < 65536
  | .queue => n < 65536
  | .node => n < 4096
  | .slot => n < 32768
  | .dword => n < 2 ^ 64
  | .two => n < 4
  | .three => n < 8
  | .how => n < 3
  | .four => n < 16
  | .sem => n < 64
  | .task => n < 4096
  | .domain => 3 ≤ n && n < 10
  | .aligned => n % 4 == 0
  | .contract => n < 2 ^ 22
  | .space => n < 257
  | .ecc => n < 5
  | .kind5 => 1 ≤ n && n < 5
  | .reg5 => n < 5
  | .doorbell => n < 512
  | .pmTarget => n < 32

/-- The bounded operands of a command. -/
def Instr.operands (i : Instr) : List (OperandKind × Nat) :=
  match i with
  | .meridian => []
  | .latchPoint => []
  | .handoverWhileStopped block => [(.how, block)]
  | .meridOutPpsPulse => []
  | .outboundLegStart i _ => [(.chartIndex, i)]
  | .legEncodeStart i => [(.chartIndex, i)]
  | .inboundLegReceive _ i _ _ _ _ => [(.chartIndex, i)]
  | .inboundLegTimeout _ i _ _ => [(.chartIndex, i)]
  | .strayFrame p _ _ => [(.port, p)]
  | .piFullAtSlot i => [(.inst, i)]
  | .piHalfAtSlot i => [(.inst, i)]
  | .piStampCompletion i => [(.inst, i)]
  | .piRegionReadCompletion i _ => [(.inst, i)]
  | .piReadFault i _ _ how => [(.inst, i), (.how, how)]
  | .taskDispatch h => [(.helm, h)]
  | .latestFinish t => [(.task, t)]
  | .helmInstruction h more ecc row => [(.helm, h), (.half, more), (.ecc, ecc), (.half, row)]
  | .helmInterruptTaken h => [(.helm, h)]
  | .gyLin h ecc row => [(.helm, h), (.ecc, ecc), (.half, row)]
  | .gyLout h ecc row => [(.helm, h), (.ecc, ecc), (.half, row)]
  | .gyLstat h ecc row => [(.helm, h), (.ecc, ecc), (.half, row)]
  | .gySig h ecc row => [(.helm, h), (.ecc, ecc), (.half, row)]
  | .gySemtry h ecc row => [(.helm, h), (.ecc, ecc), (.half, row)]
  | .gySemtake h ecc row => [(.helm, h), (.ecc, ecc), (.half, row)]
  | .semaphoreTaken h => [(.helm, h)]
  | .gySemrel h ecc row => [(.helm, h), (.ecc, ecc), (.half, row)]
  | .gyDone h ecc row => [(.helm, h), (.ecc, ecc), (.half, row)]
  | .gyWft h ecc row => [(.helm, h), (.ecc, ecc), (.half, row)]
  | .gyFclmp h ecc row => [(.helm, h), (.ecc, ecc), (.half, row)]
  | .semaphoreOverhold n => [(.sem, n)]
  | .hlmEnable h => [(.helm, h)]
  | .hlmDisable h => [(.helm, h)]
  | .helmEnablingDone h => [(.helm, h)]
  | .tcmFabricWrite h _ _ _ => [(.helm, h)]
  | .tskWrite => []
  | .tskEnable => []
  | .tskDisable => []
  | .tskKick => []
  | .tskClearStats => []
  | .tskDescSnapshot => []
  | .tskStateSnapshot => []
  | .chrTimeSnapshot => []
  | .chrRateTrimWrite v => [(.word, v)]
  | .chrCommit => []
  | .timeInEdge _ => []
  | .ppsMissed => []
  | .syncFrameSend => []
  | .syncFrameReceive a b c _ _ => [(.dword, a), (.dword, b), (.dword, c)]
  | .syncPeriodMissed => []
  | .holdoverSecond => []
  | .lfixReqSend lane _ => [(.port, lane)]
  | .lfixReqReceive n word _ _ => [(.lane, n), (.dword, word)]
  | .lfixRespReceive lane a b _ => [(.lane, lane), (.dword, a), (.dword, b)]
  | .linkFixFail lane => [(.lane, lane)]
  | .hubTimingPoll hub => [(.node, hub)]
  | .bearingStale a => [(.node, a)]
  | .nodeMarkerReceive _ word _ _ => [(.dword, word)]
  | .hubMarkerForward _ up word _ _ => [(.how, up), (.dword, word)]
  | .hubDownstreamForward _ up _ _ _ => [(.how, up)]
  | .hubUpstreamForward _ p _ _ _ => [(.four, p)]
  | .hubPortUp _ p _ _ _ turn ns frac _ => [(.four, p), (.word, turn), (.word, ns), (.half, frac)]
  | .lnkEnable n => [(.lane, n)]
  | .lnkDisable n => [(.lane, n)]
  | .laneDisabled n => [(.lane, n)]
  | .laneLock n offset _ _ => [(.lane, n), (.byte, offset)]
  | .laneLockLoss n => [(.lane, n)]
  | .trainReceive n word => [(.lane, n), (.dword, word)]
  | .capsReceive n word => [(.lane, n), (.dword, word)]
  | .legacyDetect n => [(.lane, n)]
  | .genGoReceive n word => [(.lane, n), (.dword, word)]
  | .genSwitchIdleEnd n => [(.lane, n)]
  | .eqReqReceive n word => [(.lane, n), (.dword, word)]
  | .eqSweepDone n _ => [(.lane, n)]
  | .trainingTimeout n => [(.lane, n)]
  | .attemptIdleEnd n => [(.lane, n)]
  | .codeError n code _ => [(.lane, n), (.half, code)]
  | .typeError n _ => [(.lane, n)]
  | .frameError n _ _ => [(.lane, n)]
  | .retrainReceive n word => [(.lane, n), (.dword, word)]
  | .lnkRetrain n => [(.lane, n)]
  | .lnkFullRetrain n => [(.lane, n)]
  | .laneLost n => [(.lane, n)]
  | .linkOffReceive n word => [(.lane, n), (.dword, word)]
  | .lnkLowPower n => [(.lane, n)]
  | .lnkWakeRemote n => [(.lane, n)]
  | .foghornBurst n => [(.lane, n)]
  | .foghornDetect n => [(.lane, n)]
  | .lnkSlip n => [(.lane, n)]
  | .enumStart p => [(.port, p)]
  | .enumRequestDone p gen _ => [(.port, p), (.two, gen)]
  | .enumStepTimeout p => [(.port, p)]
  | .treNodeWrite => []
  | .treNodeForget => []
  | .treNodeQuarantine => []
  | .treNodeRelease => []
  | .treNodeDataSnapshot => []
  | .treEnumRetry mask => [(.half, mask)]
  | .reqGetDescriptor _ _ _ => []
  | .reqGetStatus _ => []
  | .reqClearHalt _ => []
  | .reqSetAddress _ => []
  | .reqSetConfig _ => []
  | .reqSetBearing _ => []
  | .reqSetRoute _ => []
  | .reqSetPortGate _ => []
  | .reqClearPortChange _ => []
  | .reqReadTiming _ => []
  | .chtEditOpen => []
  | .chtEditClose => []
  | .shadowWrite what idx word v => [(.how, what), (.chartIndex, idx), (.two, word), (.word, v)]
  | .safeValueWrite off v => [(.aligned, off), (.word, v)]
  | .chtCommit => []
  | .replayDone => []
  | .chtRun _ => []
  | .admitBatch => []
  | .packetSend _ slot => [(.slot, slot)]
  | .grantSend _ slot r n _ => [(.slot, slot), (.slot, r), (.byte, n)]
  | .conversationStart _ => []
  | .dataReceive port _ _ _ => [(.port, port)]
  | .handshakeReceive port _ _ => [(.port, port)]
  | .grantUnanswered port => [(.port, port)]
  | .handshakeGrantTimer _ => []
  | .waitBackoffEnd _ => []
  | .waitTimeout _ => []
  | .transferAbort _ slot => [(.slot, slot)]
  | .backpressureRelease _ => []
  | .nodeGrantReceive _ _ _ credit _ _ => [(.five, credit)]
  | .nodeDataReceive _ _ => []
  | .nodeSetupReceive _ _ => []
  | .nodeAbortReceive _ _ => []
  | .nodeHandshakeReceive _ _ => []
  | .dmaPiCfgWrite v => [(.word, v)]
  | .dmaPiBaseWrite _ v => [(.word, v)]
  | .dmaRouteConfig reg v => [(.how, reg), (.word, v)]
  | .dmaChConfig c reg v => [(.channel, c), (.reg5, reg), (.word, v)]
  | .dmaChEnable c => [(.channel, c)]
  | .dmaChDisable c => [(.channel, c)]
  | .dmaChEnabled c => [(.channel, c)]
  | .dmaChStart c => [(.channel, c)]
  | .dmaChResume c => [(.channel, c)]
  | .dmaChAbort c => [(.channel, c)]
  | .descriptorFetchComplete c parity => [(.channel, c), (.how, parity)]
  | .burstIssue _ beats _ => [(.four, beats)]
  | .dmaDataComplete c => [(.channel, c)]
  | .flushReadComplete c => [(.channel, c)]
  | .dmaCompletionTimeout c how => [(.channel, c), (.how, how)]
  | .sqTailDoorbell fn slot q v => [(.fn, fn), (.inst, slot), (.doorbell, q), (.word, v)]
  | .cqHeadDoorbell fn slot q v => [(.fn, fn), (.inst, slot), (.doorbell, q), (.word, v)]
  | .sqFetch => []
  | .sqEntryReadComplete sq => [(.queue, sq)]
  | .sqFetchFault sq how => [(.queue, sq), (.how, how)]
  | .keeperCheckDone _ => []
  | .qmSqEnable => []
  | .qmSqDisable => []
  | .qmCqEnable => []
  | .qmCqDisable => []
  | .queueEnabled _ n => [(.queue, n)]
  | .queueDisabled _ n => [(.queue, n)]
  | .qmCacheInval _ i => [(.inst, i)]
  | .nop _ => []
  | .createSq _ => []
  | .deleteSq _ => []
  | .createCq _ => []
  | .deleteCq _ => []
  | .waitIdle _ => []
  | .waitIdleTimeout _ => []
  | .invalidate _ => []
  | .abort _ => []
  | .admitLeg _ => []
  | .release _ => []
  | .chartEditOpen _ => []
  | .chartEditWriteEntry _ => []
  | .chartEditWriteSafe _ => []
  | .chartEditDiscard _ => []
  | .chartEditCommit _ => []
  | .chartEditSetN _ => []
  | .chartEditSetReserve _ => []
  | .nodeOpWrite _ => []
  | .nodeOpForget _ => []
  | .nodeOpQuarantine _ => []
  | .nodeOpRelease _ => []
  | .nodeOpRead _ => []
  | .nodeOpEnumRetry _ => []
  | .taskOpWrite _ => []
  | .taskOpEnable _ => []
  | .taskOpDisable _ => []
  | .taskOpKick _ => []
  | .taskOpReadState _ => []
  | .bulkOut _ => []
  | .bulkIn _ => []
  | .control _ => []
  | .dma _ => []
  | .bindInstance _ => []
  | .setShares _ => []
  | .instanceCtrlEnable _ => []
  | .instanceCtrlDisable _ => []
  | .instanceCtrlHold _ => []
  | .instanceCtrlUnhold _ => []
  | .instanceCtrlFail _ => []
  | .quiesce _ => []
  | .quiesceTimeout _ => []
  | .resetInstance _ => []
  | .resetInstanceForce _ => []
  | .logbookStart _ => []
  | .logbookSync _ => []
  | .logbookStop _ => []
  | .readInstance _ => []
  | .insEnable => []
  | .insDisable => []
  | .insHoldWrite _ => []
  | .insFail => []
  | .insBindWrite reg v => [(.how, reg), (.word, v)]
  | .instanceEnabled i => [(.inst, i)]
  | .instanceQuiesced i => [(.inst, i)]
  | .busMasterDisable fn => [(.fn, fn)]
  | .vfFlr fn => [(.fn, fn)]
  | .icuClaim t => [(.target, t)]
  | .icuComplete t src _ => [(.target, t), (.source, src)]
  | .icuSrcCfgWrite src v => [(.source, src), (.word, v)]
  | .icuMaskWrite w v => [(.five, w), (.word, v)]
  | .icuTimerArm t lo => [(.target, t), (.word, lo)]
  | .icuTimerFire t => [(.target, t)]
  | .icuSoftSet v => [(.word, v)]
  | .icuLevelChange src _ => [(.source, src)]
  | .icuEdge src => [(.source, src)]
  | .hicVectorTimer fn vec => [(.fn, fn), (.vec, vec)]
  | .hicFlush => []
  | .msixUnmask fn vec _ => [(.fn, fn), (.vec, vec)]
  | .hicInsCfgWrite _ v => [(.word, v)]
  | .pwcGetCaps p _ => [(.port, p)]
  | .pwcRequest p _ => [(.port, p)]
  | .pwcAckReceive _ _ _ => []
  | .pwcAckTimeout _ => []
  | .pwcKeepAlive p _ => [(.port, p)]
  | .pwcBeat p _ => [(.port, p)]
  | .pwcSwapReq p _ => [(.port, p)]
  | .pwcLocalReady p _ => [(.port, p)]
  | .pwcReduceAnswer p _ => [(.port, p)]
  | .pwcCaps _ _ ask => [(.contract, ask)]
  | .pwcAccept _ _ => []
  | .pwcPsReady _ _ arm => [(.contract, arm)]
  | .pwcReduce _ _ => []
  | .pwcPing _ _ => []
  | .pwcFastSwapLow p _ => [(.port, p)]
  | .pwcStuck p => [(.port, p)]
  | .voutPoll p vout iout => [(.port, p), (.half, vout), (.half, iout)]
  | .transitionTimeout p => [(.port, p)]
  | .contractExpiry p => [(.port, p)]
  | .reduceTimeout p => [(.port, p)]
  | .swappingTimeout p => [(.port, p)]
  | .pfaultAssert _ _ => []
  | .pwcSilence p => [(.port, p)]
  | .pingTimeout p => [(.port, p)]
  | .rearmExpiry p => [(.port, p)]
  | .pmbusTimeout target => [(.pmTarget, target)]
  | .cpwEnable p => [(.port, p)]
  | .cpwDisable p => [(.port, p)]
  | .cpwEnabled p => [(.port, p)]
  | .cpwDischarged p => [(.port, p)]
  | .cpwForceDefault p => [(.port, p)]
  | .powerPortEnable _ => []
  | .powerPortDisable _ => []
  | .powerPortForceDefault _ => []
  | .powerPortReduce _ => []
  | .powerPortSetLimit _ => []
  | .powerBudget _ => []
  | .powerRead _ => []
  | .powerStateS1 _ => []
  | .powerStateS2 _ => []
  | .powerStateS3 _ => []
  | .pwrStateCtrlS0 => []
  | .pwrStateCtrlS1 => []
  | .pwrStateCtrlS2 => []
  | .pwrStateCtrlS3 => []
  | .entryIdleReached => []
  | .entryIdleTimeout => []
  | .entryReversionsDone => []
  | .pmeTurnOff => []
  | .linkWaitTimeout => []
  | .s1HostWrite => []
  | .wakeDeclare cause index => [(.four, cause), (.five, index)]
  | .wakeStepDone _ => []
  | .wakeStepTimeout => []
  | .wakeRetryWait => []
  | .pwrPadRelease v => [(.word, v)]
  | .pwrDomCtrl v => [(.word, v)]
  | .domainIdleOff d => [(.domain, d)]
  | .offDomainAccess _ _ off v => [(.aligned, off), (.word, v)]
  | .domainGood d => [(.domain, d)]
  | .domainGoodTimeout d => [(.domain, d)]
  | .pwrOpVsel v => [(.word, v)]
  | .pwrOpCommit => []
  | .voltageConfirm rail v1 v2 => [(.how, rail), (.half, v1), (.half, v2)]
  | .voltageTimeout => []
  | .operatingPoint _ => []
  | .domainOn _ => []
  | .domainOff _ => []
  | .domainAutoOn _ => []
  | .domainAutoOff _ => []
  | .pairCtrlEnable _ => []
  | .pairRoleEnable _ => []
  | .pairRoleDisable _ => []
  | .pairRoleSwap _ => []
  | .mbeaconReceive word _ => [(.dword, word)]
  | .mclaimReceive a b _ => [(.dword, a), (.dword, b)]
  | .claimSendTimer => []
  | .electTimeout => []
  | .mirrorFrameSend slot => [(.slot, slot)]
  | .mirrorFrameReceive _ => []
  | .roleInEdge _ => []
  | .takeoverCheck => []
  | .takeover => []
  | .orphanTimeout => []
  | .mirrorDownTimeout => []
  | .handoverTimeout => []
  | .powerOnReset straps => [(.two, straps)]
  | .resetPin => []
  | .perstAssert => []
  | .nvmWarmReset => []
  | .resetEnd straps => [(.two, straps)]
  | .keeperBoot _ sizeMib => [(.half, sizeMib)]
  | .slotVerified _ => []
  | .sectionApplied _ => []
  | .haltPinLow => []
  | .haltAssert _ => []
  | .haltClear => []
  | .nvmHostAttach _ => []
  | .wdtKick v => [(.word, v)]
  | .wdtExpiry => []
  | .pcieConfigReady => []
  | .keyWrite _ => []
  | .keySelect _ => []
  | .keyRevoke _ => []
  | .svnAdvance _ => []
  | .flashWrite _ => []
  | .imageVerify _ => []
  | .imageActivate _ => []
  | .imageActivateReset => []
  | .lifeCycle _ => []
  | .lifeCycleApply => []
  | .zeroize _ => []
  | .zeroizeApply => []
  | .counterRead _ => []
  | .journalWriteDone _ => []
  | .lockoutExpiry i => [(.inst, i)]
  | .secCritExtraAdd v => [(.word, v)]
  | .wearWindowStart => []
  | .ageMeasure kind unit value => [(.kind5, kind), (.byte, unit), (.half, value)]
  | .swapAtQuiesce kind unit row => [(.kind5, kind), (.byte, unit), (.byte, row)]
  | .helmSwapDone h _ => [(.helm, h)]
  | .rowRepairDone array row => [(.byte, array), (.byte, row)]
  | .repairBurn _ => []
  | .almanacSaveTimer => []
  | .recordWriteDone _ => []
  | .almSwap _ => []
  | .almBurn _ => []
  | .almRead _ => []
  | .almSave _ => []
  | .pfFlr => []
  | .vfEnableClear => []
  | .poisonedWrite fn => [(.fn, fn)]
  | .barBadAccess fn _ => [(.fn, fn)]
  | .viewErrCauseWrite fn slot v => [(.fn, fn), (.inst, slot), (.word, v)]
  | .bearingAsymWrite a v => [(.node, a), (.word, v)]
  | .registerWrite origin space _ off v => [(.how, origin), (.space, space), (.aligned, off), (.word, v)]
  | .nodeLegReceive _ _ => []
  | .hubLinkFix _ p _ _ _ turn ns frac => [(.four, p), (.word, turn), (.word, ns), (.half, frac)]
  | .auxLinkFix lane _ => [(.auxLane, lane)]
  | .sinkSupplyFail _ => []
  | .sinkVbusChange _ _ => []
  | .sinkKeepAliveTimer _ => []
  | .sinkBeatTimer _ => []
  | .pwcReject _ _ => []
  | .nodePipeHalt _ pipe => [(.five, pipe)]
  | .hubOvertemp _ => []
  | .pmbusTransactionDone target _ value => [(.pmTarget, target), (.half, value)]
  | .flashOperationDone => []
  | .flashBusyTimeout => []
  | .otpProgramDone _ => []
  | .bulkDataReadFault _ => []
  | .laneSignalChange n _ => [(.lane, n)]
  | .pcieLinkStateChange _ speed width => [(.three, speed), (.five, width)]
  | .configSpaceWrite fn off _ be v => [(.fn, fn), (.aligned, off), (.four, be), (.word, v)]

/-- Whether a command is well formed. -/
def Instr.wf (i : Instr) : Bool := i.operands.all fun e => e.1.ok e.2

end Sys2Proof
end

