-- ==== Sys2Proof/Safety.lean ====
section
/-! DEFINITION. What a safe run is: every command ends in a next state, and changes only its own footprint, the parts of the machine that
its rules let it change. The device has no exception and no stop: what goes wrong is state (R332), so a fault or a refusal of the model would
be a defect of the model. -/

namespace Sys2Proof.Machine

/-- Whether an outcome is a next state. -/
def answers (o : Out) : Bool :=
  match o with
  | .next _ => true
  | .fault _ => false
  | .refused _ => false

/-- Whether the register fields, the memories and the tables are in their canonical form, so that equal contents are equal data. -/
def Canonical (s : State) : Prop :=
  Sparse.Canonical resetOf s.regs ∧ Sparse.Canonical memDefault s.host ∧ Sparse.Canonical tcmDefault s.tcm ∧
  Sparse.Canonical flashDefault s.flash ∧ Sparse.Canonical memDefault s.otp ∧
  Sparse.Canonical (fun _ => {}) s.fixes ∧ Sparse.Canonical (fun _ => {}) s.devs ∧ Sparse.Canonical (fun _ => {}) s.fns ∧
  Sparse.Canonical (fun _ => {}) s.lanes ∧ Sparse.Canonical (fun _ => {}) s.helms

/-- Whether every OTP bit that is 1 in one state is 1 in a later one (R481). -/
def OtpKept (s t : State) : Prop :=
  ∀ a, Sparse.get memDefault s.otp a &&& Sparse.get memDefault t.otp a = Sparse.get memDefault s.otp a

/-- A part of the machine: a block of registers (Table 18-12) or a unit of the state. -/
inductive Part where
  /-- The registers CHR_. -/
  | chrRegs
  /-- The registers LNK_. -/
  | lnkRegs
  /-- The registers TRE_. -/
  | treRegs
  /-- The registers CHT_. -/
  | chtRegs
  /-- The registers HLM_. -/
  | hlmRegs
  /-- The registers TSK_. -/
  | tskRegs
  /-- The registers DMA_. -/
  | dmaRegs
  /-- The registers QM_. -/
  | qmRegs
  /-- The registers INS_. -/
  | insRegs
  /-- The registers ICU_. -/
  | icuRegs
  /-- The registers HIC_. -/
  | hicRegs
  /-- The registers CPW_. -/
  | cpwRegs
  /-- The registers PWR_. -/
  | pwrRegs
  /-- The registers PAIR_. -/
  | pairRegs
  /-- The registers NVM_. -/
  | nvmRegs
  /-- The registers SEC_. -/
  | secRegs
  /-- The registers ALM_. -/
  | almRegs
  /-- The registers ID_. -/
  | idRegs
  /-- The registers GBL_. -/
  | gblRegs
  /-- The registers of every block, as a reset returns them. -/
  | allRegs
  /-- Host memory. -/
  | hostMemory
  /-- The helm memories. -/
  | helmMemory
  /-- The outputs. -/
  | outputs
  /-- The count of free values. -/
  | freeCount
  /-- The queue manager's unit. -/
  | queues
  /-- The instance table's unit. -/
  | instances
  /-- The interrupt unit. -/
  | interrupts
  /-- The chronometer. -/
  | chronometer
  /-- The link fixes. -/
  | fixes
  /-- The chart. -/
  | chart
  /-- The tree. -/
  | tree
  /-- The transfer engine. -/
  | conversations
  /-- The devices below the root ports. -/
  | devices
  /-- The PCI Express functions. -/
  | functions
  /-- The cable-power logic. -/
  | cablePower
  /-- The lane trainings. -/
  | lanes
  /-- The helms. -/
  | helms
  /-- The task scheduler. -/
  | tasks
  /-- The halt logic. -/
  | haltLine
  /-- The DMA engine. -/
  | dma
  /-- The power manager. -/
  | power
  /-- The pair logic. -/
  | pair
  /-- The boot. -/
  | boot
  /-- The security logic. -/
  | security
  /-- The almanac. -/
  | almanac
  /-- The flash. -/
  | flash
  /-- The OTP array. -/
  | otp
  deriving DecidableEq, Repr

/-- The blocks of registers by the rows of the register tables: the block of a row. -/
def rowPart (row : Nat) : Part :=
  if row ≤ 43 then .chrRegs
  else if row ≤ 89 then .lnkRegs
  else if row ≤ 121 then .treRegs
  else if row ≤ 159 then .chtRegs
  else if row ≤ 181 then .hlmRegs
  else if row ≤ 210 then .tskRegs
  else if row ≤ 278 then .dmaRegs
  else if row ≤ 333 then .qmRegs
  else if row ≤ 377 then .insRegs
  else if row ≤ 402 then .icuRegs
  else if row ≤ 429 then .hicRegs
  else if row ≤ 466 then .cpwRegs
  else if row ≤ 523 then .pwrRegs
  else if row ≤ 553 then .pairRegs
  else if row ≤ 593 then .nvmRegs
  else if row ≤ 633 then .secRegs
  else if row ≤ 671 then .almRegs
  else if row ≤ 686 then .idRegs
  else .gblRegs

/-- Whether a block of registers reads the same in two states, every element and context of every field. -/
def sameRegs (b : Part) (s t : State) : Prop :=
  ∀ k, rowPart (k / keySpan) = b → Sparse.get resetOf s.regs k = Sparse.get resetOf t.regs k

/-- Whether a part is the same in two states. -/
def Part.same (p : Part) (s t : State) : Prop :=
  match p with
  | .allRegs => True
  | .hostMemory => s.host = t.host
  | .helmMemory => s.tcm = t.tcm
  | .outputs => s.out = t.out
  | .freeCount => s.free = t.free
  | .queues => s.q = t.q
  | .instances => s.ins = t.ins
  | .interrupts => s.icu = t.icu
  | .chronometer => s.chr = t.chr
  | .fixes => s.fixes = t.fixes
  | .chart => s.chart = t.chart
  | .tree => s.tree = t.tree
  | .conversations => s.conv = t.conv
  | .devices => s.devs = t.devs
  | .functions => s.fns = t.fns
  | .cablePower => s.cpw = t.cpw
  | .lanes => s.lanes = t.lanes
  | .helms => s.helms = t.helms
  | .tasks => s.task = t.task
  | .haltLine => s.halt = t.halt
  | .dma => s.dma = t.dma
  | .power => s.pwr = t.pwr
  | .pair => s.pair = t.pair
  | .boot => s.boot = t.boot
  | .security => s.sec = t.sec
  | .almanac => s.alm = t.alm
  | .flash => s.flash = t.flash
  | .otp => s.otp = t.otp
  | b => sameRegs b s t

/-- What posting an entry or an event can change: the queue, instance, host-interrupt and global registers, host memory, the messages sent, the
units of the queues, the instances and the interrupts (R291, R301, R361, R531). -/
def reporting : List Part := [.qmRegs, .insRegs, .hicRegs, .gblRegs, .hostMemory, .outputs, .queues, .instances, .interrupts]

/-- All parts. -/
def Part.all : List Part := [.chrRegs, .lnkRegs, .treRegs, .chtRegs, .hlmRegs, .tskRegs, .dmaRegs, .qmRegs,
  .insRegs, .icuRegs, .hicRegs, .cpwRegs, .pwrRegs, .pairRegs, .nvmRegs, .secRegs,
  .almRegs, .idRegs, .gblRegs, .allRegs, .hostMemory, .helmMemory, .outputs, .freeCount,
  .queues, .instances, .interrupts, .chronometer, .fixes, .chart, .tree, .conversations,
  .devices, .functions, .cablePower, .lanes, .helms, .tasks, .haltLine, .dma,
  .power, .pair, .boot, .security, .almanac, .flash, .otp]

/-- All parts but some. -/
def allBut (l : List Part) : List Part := Part.all.filter fun p => !l.contains p

/-- The parts that a command may change. A part that is not in its footprint is not changed by it. -/
def footprint (i : Instr) : List Part :=
  match i with
  | .meridian => allBut [.lnkRegs, .cpwRegs, .secRegs, .idRegs, .allRegs, .devices, .functions, .boot, .security, .flash, .otp]
  | .latchPoint => reporting ++ [.lnkRegs, .treRegs, .dmaRegs, .pairRegs, .almRegs, .chronometer, .fixes, .chart, .tree, .conversations, .devices, .lanes, .haltLine, .dma, .power, .pair, .almanac]
  | .handoverWhileStopped .. => reporting ++ [.chrRegs, .chtRegs, .icuRegs, .pwrRegs, .chronometer, .fixes, .chart, .tree, .conversations, .cablePower, .helms, .power, .pair]
  | .meridOutPpsPulse => [.outputs, .chronometer]
  | .outboundLegStart .. => [.chtRegs, .outputs, .chronometer, .chart, .lanes, .pair]
  | .legEncodeStart .. => [.chtRegs, .chronometer, .chart, .pair, .outputs]
  | .inboundLegReceive .. => reporting ++ [.treRegs, .chtRegs, .hlmRegs, .tskRegs, .dmaRegs, .icuRegs, .cpwRegs, .chronometer, .chart, .tree, .conversations, .helms, .tasks, .dma, .pair]
  | .inboundLegTimeout .. => [.treRegs, .chtRegs, .hlmRegs, .tskRegs, .dmaRegs, .insRegs, .icuRegs, .hicRegs, .gblRegs, .hostMemory, .outputs, .instances, .interrupts, .chronometer, .chart, .tree, .helms, .tasks, .dma, .pair]
  | .strayFrame .. => [.treRegs, .chtRegs, .tree, .pair, .outputs]
  | .piFullAtSlot .. => [.dmaRegs, .insRegs, .hicRegs, .gblRegs, .hostMemory, .outputs, .instances, .interrupts, .chronometer, .dma]
  | .piHalfAtSlot .. => [.hicRegs, .outputs, .interrupts, .chronometer, .dma]
  | .piStampCompletion .. => [.treRegs, .dmaRegs, .hicRegs, .gblRegs, .outputs, .interrupts, .chart, .tree, .dma, .pair]
  | .piRegionReadCompletion .. => [.hlmRegs, .dmaRegs, .gblRegs, .helmMemory, .outputs, .chart, .helms, .dma]
  | .piReadFault .. => [.dmaRegs, .hicRegs, .gblRegs, .outputs, .interrupts, .functions, .dma, .boot]
  | .taskDispatch .. => [.hlmRegs, .tskRegs, .insRegs, .helmMemory, .chronometer, .helms, .tasks, .outputs]
  | .latestFinish .. => reporting ++ [.hlmRegs, .tskRegs, .nvmRegs, .almRegs, .helmMemory, .chronometer, .chart, .helms, .tasks, .haltLine, .almanac]
  | .helmInstruction .. => allBut []
  | .helmInterruptTaken .. => [.chronometer, .helms, .outputs]
  | .gyLin .. => allBut []
  | .gyLout .. => allBut []
  | .gyLstat .. => allBut []
  | .gySig .. => allBut []
  | .gySemtry .. => allBut []
  | .gySemtake .. => allBut []
  | .semaphoreTaken .. => [.hlmRegs, .tskRegs, .helms, .tasks, .outputs]
  | .gySemrel .. => allBut []
  | .gyDone .. => allBut []
  | .gyWft .. => allBut []
  | .gyFclmp .. => allBut []
  | .semaphoreOverhold .. => [.hlmRegs, .tskRegs, .chronometer, .tasks, .outputs]
  | .hlmEnable .. => [.hlmRegs, .helms, .outputs]
  | .hlmDisable .. => [.hlmRegs, .tskRegs, .insRegs, .helms, .tasks, .outputs]
  | .helmEnablingDone .. => [.hlmRegs, .tskRegs, .insRegs, .chronometer, .helms, .tasks, .outputs]
  | .tcmFabricWrite .. => [.hlmRegs, .helmMemory, .helms, .outputs]
  | .tskWrite => [.tskRegs, .tasks, .outputs]
  | .tskEnable => [.tskRegs, .tasks, .outputs]
  | .tskDisable => [.tskRegs, .tasks, .outputs]
  | .tskKick => [.hlmRegs, .tskRegs, .insRegs, .helms, .tasks, .outputs]
  | .tskClearStats => [.tskRegs, .tasks, .outputs]
  | .tskDescSnapshot => [.tskRegs, .outputs]
  | .tskStateSnapshot => [.tskRegs, .outputs]
  | .chrTimeSnapshot => [.chrRegs, .outputs]
  | .chrRateTrimWrite .. => [.chrRegs, .chronometer, .outputs]
  | .chrCommit => [.chrRegs, .chronometer, .outputs]
  | .timeInEdge .. => reporting ++ [.chrRegs, .chronometer]
  | .ppsMissed => reporting ++ [.chrRegs, .freeCount, .chronometer]
  | .syncFrameSend => [.outputs, .chronometer, .lanes]
  | .syncFrameReceive .. => reporting ++ [.chrRegs, .icuRegs, .chronometer, .fixes]
  | .syncPeriodMissed => reporting ++ [.chrRegs, .freeCount, .chronometer]
  | .holdoverSecond => reporting ++ [.chrRegs, .chronometer]
  | .lfixReqSend .. => [.outputs, .chronometer, .fixes, .lanes]
  | .lfixReqReceive .. => [.outputs, .chronometer, .lanes]
  | .lfixRespReceive .. => reporting ++ [.treRegs, .pairRegs, .chronometer, .fixes, .tree, .conversations, .pair]
  | .linkFixFail .. => [.treRegs, .chronometer, .fixes, .tree, .pair, .outputs]
  | .hubTimingPoll .. => reporting ++ [.chronometer, .fixes, .tree, .conversations, .pair]
  | .bearingStale .. => reporting ++ [.chronometer, .tree, .pair]
  | .nodeMarkerReceive .. => [.outputs, .devices]
  | .hubMarkerForward .. => [.outputs, .devices]
  | .hubDownstreamForward .. => [.outputs, .devices]
  | .hubUpstreamForward .. => [.outputs, .devices]
  | .hubPortUp .. => reporting ++ [.lnkRegs, .treRegs, .pairRegs, .almRegs, .chronometer, .fixes, .tree, .conversations, .devices, .lanes, .pair, .almanac]
  | .lnkEnable .. => reporting ++ [.lnkRegs, .pairRegs, .almRegs, .chronometer, .fixes, .devices, .lanes, .pair, .almanac]
  | .lnkDisable .. => reporting ++ [.chrRegs, .lnkRegs, .treRegs, .pairRegs, .freeCount, .chronometer, .fixes, .tree, .conversations, .devices, .lanes, .pair]
  | .laneDisabled .. => reporting ++ [.chrRegs, .lnkRegs, .chtRegs, .icuRegs, .pairRegs, .almRegs, .chronometer, .fixes, .devices, .lanes, .pair, .almanac]
  | .laneLock .. => [.lnkRegs, .pairRegs, .outputs, .chronometer, .fixes, .devices, .lanes, .pair]
  | .laneLockLoss .. => [.lnkRegs, .pairRegs, .outputs, .chronometer, .fixes, .devices, .lanes, .pair]
  | .trainReceive .. => reporting ++ [.lnkRegs, .pairRegs, .almRegs, .chronometer, .fixes, .tree, .devices, .lanes, .pair, .almanac]
  | .capsReceive .. => [.lnkRegs, .pairRegs, .outputs, .chronometer, .fixes, .devices, .lanes, .pair]
  | .legacyDetect .. => [.lnkRegs, .pairRegs, .outputs, .chronometer, .fixes, .devices, .lanes, .pair]
  | .genGoReceive .. => [.lnkRegs, .pairRegs, .outputs, .chronometer, .fixes, .devices, .lanes, .pair]
  | .genSwitchIdleEnd .. => [.lnkRegs, .pairRegs, .outputs, .chronometer, .fixes, .devices, .lanes, .pair]
  | .eqReqReceive .. => [.lnkRegs, .outputs]
  | .eqSweepDone .. => [.lnkRegs, .pairRegs, .outputs, .chronometer, .fixes, .devices, .lanes, .pair]
  | .trainingTimeout .. => reporting ++ [.chrRegs, .lnkRegs, .treRegs, .cpwRegs, .pairRegs, .almRegs, .freeCount, .chronometer, .fixes, .tree, .conversations, .devices, .cablePower, .lanes, .pair, .almanac]
  | .attemptIdleEnd .. => reporting ++ [.lnkRegs, .pairRegs, .almRegs, .chronometer, .fixes, .devices, .lanes, .pair, .almanac]
  | .codeError .. => [.lnkRegs, .pairRegs, .outputs, .chronometer, .fixes, .devices, .lanes, .pair]
  | .typeError .. => [.lnkRegs, .outputs]
  | .frameError .. => [.lnkRegs, .outputs]
  | .retrainReceive .. => reporting ++ [.lnkRegs, .treRegs, .pairRegs, .almRegs, .chronometer, .fixes, .tree, .conversations, .devices, .lanes, .pair, .almanac]
  | .lnkRetrain .. => [.lnkRegs, .pairRegs, .outputs, .chronometer, .fixes, .devices, .lanes, .pair]
  | .lnkFullRetrain .. => reporting ++ [.lnkRegs, .treRegs, .pairRegs, .almRegs, .chronometer, .fixes, .tree, .conversations, .devices, .lanes, .pair, .almanac]
  | .laneLost .. => reporting ++ [.chrRegs, .lnkRegs, .treRegs, .cpwRegs, .pairRegs, .almRegs, .freeCount, .chronometer, .fixes, .tree, .conversations, .devices, .cablePower, .lanes, .pair, .almanac]
  | .linkOffReceive .. => reporting ++ [.chrRegs, .lnkRegs, .treRegs, .cpwRegs, .pairRegs, .almRegs, .freeCount, .chronometer, .fixes, .tree, .conversations, .devices, .cablePower, .lanes, .pair, .almanac]
  | .lnkLowPower .. => [.lnkRegs, .treRegs, .pairRegs, .outputs, .chronometer, .fixes, .tree, .conversations, .devices, .lanes, .pair]
  | .lnkWakeRemote .. => [.outputs, .lanes]
  | .foghornBurst .. => [.outputs, .chronometer, .lanes]
  | .foghornDetect .. => reporting ++ [.lnkRegs, .pwrRegs, .pairRegs, .nvmRegs, .almRegs, .chronometer, .fixes, .devices, .cablePower, .lanes, .power, .pair, .almanac]
  | .lnkSlip .. => [.lnkRegs, .outputs]
  | .enumStart .. => [.treRegs, .chronometer, .tree, .conversations, .outputs]
  | .enumRequestDone .. => reporting ++ [.lnkRegs, .treRegs, .chtRegs, .pairRegs, .almRegs, .chronometer, .fixes, .chart, .tree, .conversations, .devices, .lanes, .pair, .almanac]
  | .enumStepTimeout .. => reporting ++ [.lnkRegs, .treRegs, .pairRegs, .almRegs, .chronometer, .fixes, .tree, .conversations, .devices, .lanes, .pair, .almanac]
  | .treNodeWrite => [.treRegs, .chronometer, .tree, .pair, .outputs]
  | .treNodeForget => [.treRegs, .chronometer, .tree, .pair, .outputs]
  | .treNodeQuarantine => [.treRegs, .chronometer, .tree, .pair, .outputs]
  | .treNodeRelease => [.treRegs, .chronometer, .tree, .pair, .outputs]
  | .treNodeDataSnapshot => [.treRegs, .outputs]
  | .treEnumRetry .. => [.treRegs, .tree, .outputs]
  | .reqGetDescriptor .. => [.devices, .outputs]
  | .reqGetStatus .. => [.devices, .outputs]
  | .reqClearHalt .. => [.devices, .outputs]
  | .reqSetAddress .. => [.devices, .outputs]
  | .reqSetConfig .. => [.devices, .outputs]
  | .reqSetBearing .. => [.devices, .outputs]
  | .reqSetRoute .. => [.devices, .outputs]
  | .reqSetPortGate .. => reporting ++ [.lnkRegs, .treRegs, .pairRegs, .almRegs, .chronometer, .fixes, .tree, .conversations, .devices, .lanes, .pair, .almanac]
  | .reqClearPortChange .. => [.devices, .outputs]
  | .reqReadTiming .. => [.devices, .outputs]
  | .chtEditOpen => [.chtRegs, .chronometer, .chart, .pair, .outputs]
  | .chtEditClose => [.chtRegs, .chronometer, .chart, .pair, .outputs]
  | .shadowWrite .. => [.chtRegs, .chronometer, .chart, .pair, .outputs]
  | .safeValueWrite .. => [.chtRegs, .chronometer, .chart, .pair, .outputs]
  | .chtCommit => reporting ++ [.chtRegs, .chronometer, .chart, .tree, .pair]
  | .replayDone => [.chtRegs, .chronometer, .chart, .outputs]
  | .chtRun .. => [.chtRegs, .chronometer, .outputs]
  | .admitBatch => reporting ++ [.chtRegs, .chronometer, .chart, .tree, .pair]
  | .packetSend .. => reporting ++ [.chronometer, .tree, .conversations, .lanes, .pair]
  | .grantSend .. => [.outputs, .instances, .chronometer, .conversations, .lanes]
  | .conversationStart .. => reporting ++ [.conversations, .pair]
  | .dataReceive .. => reporting ++ [.treRegs, .tree, .conversations, .pair]
  | .handshakeReceive .. => reporting ++ [.treRegs, .tree, .conversations, .pair]
  | .grantUnanswered .. => reporting ++ [.treRegs, .chronometer, .tree, .conversations, .pair]
  | .handshakeGrantTimer .. => [.chronometer, .conversations, .outputs]
  | .waitBackoffEnd .. => [.chronometer, .conversations, .outputs]
  | .waitTimeout .. => reporting ++ [.chronometer, .conversations]
  | .transferAbort .. => reporting ++ [.chronometer, .tree, .conversations, .lanes, .pair]
  | .backpressureRelease .. => [.conversations, .outputs]
  | .nodeGrantReceive .. => [.outputs, .devices]
  | .nodeDataReceive .. => [.devices, .outputs]
  | .nodeSetupReceive .. => [.devices, .outputs]
  | .nodeAbortReceive .. => [.devices, .outputs]
  | .nodeHandshakeReceive .. => [.devices, .outputs]
  | .dmaPiCfgWrite .. => [.dmaRegs, .outputs]
  | .dmaPiBaseWrite .. => [.dmaRegs, .outputs]
  | .dmaRouteConfig .. => [.dmaRegs, .outputs]
  | .dmaChConfig .. => [.dmaRegs, .insRegs, .outputs]
  | .dmaChEnable .. => [.dmaRegs, .outputs]
  | .dmaChDisable .. => reporting ++ [.dmaRegs, .dma]
  | .dmaChEnabled .. => [.dmaRegs, .outputs]
  | .dmaChStart .. => [.dmaRegs, .insRegs, .gblRegs, .outputs, .dma]
  | .dmaChResume .. => [.dmaRegs, .insRegs, .gblRegs, .outputs, .dma]
  | .dmaChAbort .. => reporting ++ [.dmaRegs, .dma]
  | .descriptorFetchComplete .. => reporting ++ [.dmaRegs, .almRegs, .dma, .almanac]
  | .burstIssue .. => allBut []
  | .dmaDataComplete .. => allBut []
  | .flushReadComplete .. => reporting ++ [.dmaRegs, .dma]
  | .dmaCompletionTimeout .. => reporting ++ [.dmaRegs, .functions, .dma, .boot]
  | .sqTailDoorbell .. => [.qmRegs, .hicRegs, .pwrRegs, .nvmRegs, .gblRegs, .outputs, .queues, .interrupts, .functions, .power, .boot]
  | .cqHeadDoorbell .. => reporting ++ [.pwrRegs, .nvmRegs, .functions, .power, .boot]
  | .sqFetch => [.dmaRegs, .qmRegs, .gblRegs, .outputs, .queues, .dma]
  | .sqEntryReadComplete .. => reporting ++ [.dmaRegs, .dma]
  | .sqFetchFault .. => [.dmaRegs, .qmRegs, .hicRegs, .gblRegs, .outputs, .queues, .interrupts, .functions, .dma, .boot]
  | .keeperCheckDone .. => reporting ++ [.secRegs, .security]
  | .qmSqEnable => [.qmRegs, .queues, .outputs]
  | .qmSqDisable => [.qmRegs, .queues, .outputs]
  | .qmCqEnable => [.qmRegs, .queues, .outputs]
  | .qmCqDisable => reporting
  | .queueEnabled .. => reporting
  | .queueDisabled .. => reporting
  | .qmCacheInval .. => [.queues, .outputs]
  | .nop .. => reporting
  | .createSq .. => reporting
  | .deleteSq .. => reporting
  | .createCq .. => reporting
  | .deleteCq .. => reporting
  | .waitIdle .. => reporting
  | .waitIdleTimeout .. => reporting ++ [.chronometer]
  | .invalidate .. => reporting
  | .abort .. => reporting ++ [.dmaRegs, .conversations, .dma]
  | .admitLeg .. => reporting ++ [.chtRegs, .chart]
  | .release .. => reporting ++ [.chtRegs, .chart]
  | .chartEditOpen .. => reporting ++ [.chtRegs, .chronometer, .chart, .pair]
  | .chartEditWriteEntry .. => reporting ++ [.chtRegs, .chronometer, .chart, .pair]
  | .chartEditWriteSafe .. => reporting ++ [.chtRegs, .chronometer, .chart, .pair]
  | .chartEditDiscard .. => reporting ++ [.chtRegs, .chronometer, .chart, .pair]
  | .chartEditCommit .. => reporting ++ [.chtRegs, .chronometer, .chart, .tree, .pair]
  | .chartEditSetN .. => reporting ++ [.chtRegs, .chronometer, .chart]
  | .chartEditSetReserve .. => reporting ++ [.chtRegs, .chronometer, .chart]
  | .nodeOpWrite .. => reporting ++ [.treRegs, .chronometer, .tree, .pair]
  | .nodeOpForget .. => reporting ++ [.treRegs, .chronometer, .tree, .pair]
  | .nodeOpQuarantine .. => reporting ++ [.treRegs, .chronometer, .tree, .pair]
  | .nodeOpRelease .. => reporting ++ [.treRegs, .chronometer, .tree, .pair]
  | .nodeOpRead .. => reporting
  | .nodeOpEnumRetry .. => reporting ++ [.treRegs, .tree]
  | .taskOpWrite .. => reporting ++ [.tasks]
  | .taskOpEnable .. => reporting ++ [.tasks]
  | .taskOpDisable .. => reporting ++ [.tasks]
  | .taskOpKick .. => reporting ++ [.hlmRegs, .tskRegs, .helms, .tasks]
  | .taskOpReadState .. => reporting
  | .bulkOut .. => reporting ++ [.conversations]
  | .bulkIn .. => reporting ++ [.conversations]
  | .control .. => reporting ++ [.conversations]
  | .dma .. => reporting ++ [.dmaRegs, .dma]
  | .bindInstance .. => reporting
  | .setShares .. => reporting
  | .instanceCtrlEnable .. => reporting
  | .instanceCtrlDisable .. => reporting
  | .instanceCtrlHold .. => reporting
  | .instanceCtrlUnhold .. => reporting
  | .instanceCtrlFail .. => reporting
  | .quiesce .. => reporting ++ [.hlmRegs, .tskRegs, .dmaRegs, .nvmRegs, .almRegs, .helmMemory, .conversations, .helms, .tasks, .haltLine, .dma, .almanac]
  | .quiesceTimeout .. => reporting ++ [.chronometer]
  | .resetInstance .. => reporting ++ [.hlmRegs, .tskRegs, .dmaRegs, .nvmRegs, .almRegs, .helmMemory, .conversations, .helms, .tasks, .haltLine, .dma, .almanac]
  | .resetInstanceForce .. => reporting ++ [.hlmRegs, .tskRegs, .dmaRegs, .nvmRegs, .almRegs, .helmMemory, .conversations, .helms, .tasks, .haltLine, .dma, .almanac]
  | .logbookStart .. => reporting
  | .logbookSync .. => reporting
  | .logbookStop .. => reporting
  | .readInstance .. => reporting
  | .insEnable => [.insRegs, .instances, .outputs]
  | .insDisable => reporting
  | .insHoldWrite .. => [.insRegs, .outputs]
  | .insFail => [.insRegs, .hicRegs, .outputs, .interrupts]
  | .insBindWrite .. => [.insRegs, .outputs]
  | .instanceEnabled .. => reporting
  | .instanceQuiesced .. => reporting ++ [.hlmRegs, .tskRegs, .dmaRegs, .nvmRegs, .almRegs, .helmMemory, .conversations, .helms, .tasks, .haltLine, .dma, .almanac]
  | .busMasterDisable .. => [.insRegs, .hicRegs, .gblRegs, .outputs, .interrupts, .functions]
  | .vfFlr .. => reporting ++ [.hlmRegs, .tskRegs, .dmaRegs, .nvmRegs, .almRegs, .helmMemory, .conversations, .functions, .helms, .tasks, .haltLine, .dma, .almanac]
  | .icuClaim .. => [.icuRegs, .interrupts, .outputs]
  | .icuComplete .. => [.icuRegs, .outputs]
  | .icuSrcCfgWrite .. => [.icuRegs, .interrupts, .outputs]
  | .icuMaskWrite .. => [.icuRegs, .outputs]
  | .icuTimerArm .. => [.icuRegs, .hicRegs, .outputs, .interrupts]
  | .icuTimerFire .. => [.icuRegs, .hicRegs, .outputs, .interrupts, .chronometer]
  | .icuSoftSet .. => [.icuRegs, .hicRegs, .outputs, .interrupts]
  | .icuLevelChange .. => [.icuRegs, .hicRegs, .nvmRegs, .outputs, .interrupts, .haltLine]
  | .icuEdge .. => [.icuRegs, .hicRegs, .outputs, .interrupts]
  | .hicVectorTimer .. => [.hicRegs, .outputs, .interrupts, .chronometer]
  | .hicFlush => [.hicRegs, .outputs, .interrupts]
  | .msixUnmask .. => [.hicRegs, .outputs, .interrupts, .functions]
  | .hicInsCfgWrite .. => [.hicRegs, .outputs]
  | .pwcGetCaps .. => [.cpwRegs, .outputs, .devices, .cablePower]
  | .pwcRequest .. => [.cpwRegs, .outputs, .devices, .cablePower]
  | .pwcAckReceive .. => [.cpwRegs, .outputs, .chronometer, .devices, .cablePower]
  | .pwcAckTimeout .. => [.outputs, .chronometer, .devices, .cablePower]
  | .pwcKeepAlive .. => [.cpwRegs, .outputs, .devices, .cablePower]
  | .pwcBeat .. => reporting ++ [.cpwRegs, .devices, .cablePower]
  | .pwcSwapReq .. => reporting ++ [.cpwRegs, .devices, .cablePower]
  | .pwcLocalReady .. => [.cpwRegs, .outputs, .devices, .cablePower]
  | .pwcReduceAnswer .. => reporting ++ [.cpwRegs, .devices, .cablePower]
  | .pwcCaps .. => [.outputs, .devices, .cablePower]
  | .pwcAccept .. => [.outputs, .devices, .cablePower]
  | .pwcPsReady .. => [.outputs, .devices, .cablePower]
  | .pwcReduce .. => [.outputs, .devices, .cablePower]
  | .pwcPing .. => [.outputs, .devices, .cablePower]
  | .pwcFastSwapLow .. => reporting ++ [.cpwRegs, .cablePower]
  | .pwcStuck .. => [.cpwRegs, .outputs]
  | .voutPoll .. => [.cpwRegs, .outputs, .chronometer, .cablePower]
  | .transitionTimeout .. => reporting ++ [.cpwRegs, .chronometer, .cablePower]
  | .contractExpiry .. => reporting ++ [.cpwRegs, .chronometer, .cablePower]
  | .reduceTimeout .. => reporting ++ [.cpwRegs, .chronometer, .cablePower]
  | .swappingTimeout .. => [.cpwRegs, .chronometer, .cablePower, .outputs]
  | .pfaultAssert .. => reporting ++ [.cpwRegs, .cablePower]
  | .pwcSilence .. => reporting ++ [.treRegs, .cpwRegs, .chronometer, .tree, .conversations, .cablePower, .pair]
  | .pingTimeout .. => reporting ++ [.treRegs, .cpwRegs, .chronometer, .tree, .conversations, .cablePower, .pair]
  | .rearmExpiry .. => [.outputs, .chronometer, .cablePower]
  | .pmbusTimeout .. => reporting ++ [.cpwRegs, .pwrRegs, .cablePower, .power, .boot]
  | .cpwEnable .. => [.cpwRegs, .outputs, .cablePower]
  | .cpwDisable .. => reporting ++ [.cpwRegs, .cablePower]
  | .cpwEnabled .. => reporting ++ [.cpwRegs]
  | .cpwDischarged .. => reporting ++ [.cpwRegs, .chronometer, .cablePower]
  | .cpwForceDefault .. => reporting ++ [.cpwRegs, .cablePower]
  | .powerPortEnable .. => reporting ++ [.cpwRegs, .cablePower]
  | .powerPortDisable .. => reporting ++ [.cpwRegs, .cablePower]
  | .powerPortForceDefault .. => reporting ++ [.cpwRegs, .cablePower]
  | .powerPortReduce .. => reporting ++ [.devices, .cablePower]
  | .powerPortSetLimit .. => reporting ++ [.cpwRegs]
  | .powerBudget .. => reporting ++ [.cpwRegs]
  | .powerRead .. => reporting ++ [.cpwRegs]
  | .powerStateS1 .. => reporting ++ [.pwrRegs, .power]
  | .powerStateS2 .. => reporting ++ [.pwrRegs, .power]
  | .powerStateS3 .. => reporting ++ [.pwrRegs, .power]
  | .pwrStateCtrlS0 => reporting ++ [.pwrRegs, .power]
  | .pwrStateCtrlS1 => reporting ++ [.pwrRegs, .power]
  | .pwrStateCtrlS2 => reporting ++ [.pwrRegs, .power]
  | .pwrStateCtrlS3 => reporting ++ [.pwrRegs, .power]
  | .entryIdleReached => allBut [.secRegs, .idRegs, .allRegs, .freeCount, .functions, .boot, .security, .flash, .otp]
  | .entryIdleTimeout => reporting ++ [.pwrRegs, .chronometer, .power]
  | .entryReversionsDone => reporting ++ [.chrRegs, .chtRegs, .pwrRegs, .nvmRegs, .almRegs, .freeCount, .chronometer, .chart, .cablePower, .power, .almanac]
  | .pmeTurnOff => reporting ++ [.chrRegs, .pwrRegs, .nvmRegs, .freeCount, .chronometer, .cablePower, .power]
  | .linkWaitTimeout => reporting ++ [.chrRegs, .pwrRegs, .nvmRegs, .freeCount, .chronometer, .cablePower, .power]
  | .s1HostWrite => [.pwrRegs, .power, .outputs]
  | .wakeDeclare .. => [.pwrRegs, .nvmRegs, .outputs, .chronometer, .cablePower, .power]
  | .wakeStepDone .. => allBut [.haltLine, .security, .flash, .otp]
  | .wakeStepTimeout => [.pwrRegs, .gblRegs, .outputs, .chronometer, .cablePower, .power, .boot]
  | .wakeRetryWait => [.pwrRegs, .outputs, .chronometer, .cablePower, .power]
  | .pwrPadRelease .. => [.pwrRegs, .outputs, .power]
  | .pwrDomCtrl .. => allBut []
  | .domainIdleOff .. => [.pwrRegs, .chronometer, .power, .outputs]
  | .offDomainAccess .. => allBut []
  | .domainGood .. => allBut []
  | .domainGoodTimeout .. => [.pwrRegs, .outputs, .chronometer, .power]
  | .pwrOpVsel .. => [.pwrRegs, .outputs, .cablePower, .power]
  | .pwrOpCommit => [.pwrRegs, .power, .outputs]
  | .voltageConfirm .. => reporting ++ [.pwrRegs, .power]
  | .voltageTimeout => reporting ++ [.pwrRegs, .chronometer, .cablePower, .power]
  | .operatingPoint .. => reporting ++ [.pwrRegs, .cablePower, .power]
  | .domainOn .. => allBut []
  | .domainOff .. => reporting ++ [.pwrRegs, .power]
  | .domainAutoOn .. => reporting ++ [.pwrRegs]
  | .domainAutoOff .. => reporting ++ [.pwrRegs]
  | .pairCtrlEnable .. => reporting ++ [.chrRegs, .lnkRegs, .treRegs, .chtRegs, .icuRegs, .pairRegs, .almRegs, .freeCount, .chronometer, .fixes, .tree, .conversations, .devices, .lanes, .pair, .almanac]
  | .pairRoleEnable .. => reporting ++ [.chrRegs, .lnkRegs, .chtRegs, .icuRegs, .pairRegs, .almRegs, .chronometer, .fixes, .devices, .lanes, .pair, .almanac]
  | .pairRoleDisable .. => reporting ++ [.chrRegs, .lnkRegs, .treRegs, .chtRegs, .icuRegs, .pairRegs, .almRegs, .freeCount, .chronometer, .fixes, .tree, .conversations, .devices, .lanes, .pair, .almanac]
  | .pairRoleSwap .. => reporting ++ [.pair]
  | .mbeaconReceive .. => reporting ++ [.chrRegs, .chtRegs, .icuRegs, .pairRegs, .chronometer, .fixes, .pair]
  | .mclaimReceive .. => reporting ++ [.chrRegs, .icuRegs, .pairRegs, .chronometer, .fixes, .pair]
  | .claimSendTimer => reporting ++ [.chrRegs, .icuRegs, .pairRegs, .chronometer, .fixes, .pair]
  | .electTimeout => reporting ++ [.chrRegs, .icuRegs, .pairRegs, .chronometer, .fixes, .pair]
  | .mirrorFrameSend .. => [.pairRegs, .outputs, .chronometer, .pair]
  | .mirrorFrameReceive .. => reporting ++ [.chrRegs, .treRegs, .chtRegs, .icuRegs, .pairRegs, .chronometer, .fixes, .chart, .tree, .pair]
  | .roleInEdge .. => reporting ++ [.chrRegs, .icuRegs, .pairRegs, .chronometer, .fixes, .pair]
  | .takeoverCheck => reporting ++ [.chrRegs, .icuRegs, .pairRegs, .chronometer, .fixes, .pair]
  | .takeover => reporting ++ [.chrRegs, .treRegs, .chtRegs, .icuRegs, .pairRegs, .chronometer, .fixes, .tree, .conversations, .lanes, .pair]
  | .orphanTimeout => reporting ++ [.chrRegs, .chtRegs, .icuRegs, .pairRegs, .chronometer, .fixes, .pair]
  | .mirrorDownTimeout => reporting ++ [.chrRegs, .chtRegs, .icuRegs, .pairRegs, .chronometer, .fixes, .pair]
  | .handoverTimeout => reporting ++ [.pairRegs, .chronometer, .pair]
  | .powerOnReset .. => allBut [.devices]
  | .resetPin => allBut [.devices]
  | .perstAssert => allBut [.devices]
  | .nvmWarmReset => allBut [.hostMemory, .devices]
  | .resetEnd .. => [.pwrRegs, .nvmRegs, .secRegs, .outputs, .chronometer, .cablePower, .power, .boot]
  | .keeperBoot .. => reporting ++ [.lnkRegs, .hlmRegs, .dmaRegs, .nvmRegs, .secRegs, .almRegs, .haltLine, .boot, .security, .almanac, .otp]
  | .slotVerified .. => allBut [.hostMemory, .devices]
  | .sectionApplied .. => allBut []
  | .haltPinLow => [.nvmRegs, .outputs, .chronometer, .haltLine]
  | .haltAssert .. => [.nvmRegs, .outputs, .haltLine]
  | .haltClear => [.nvmRegs, .outputs, .haltLine]
  | .nvmHostAttach .. => [.nvmRegs, .outputs]
  | .wdtKick .. => [.nvmRegs, .outputs, .haltLine]
  | .wdtExpiry => [.nvmRegs, .outputs, .chronometer, .haltLine]
  | .pcieConfigReady => [.boot, .outputs]
  | .keyWrite .. => reporting ++ [.security]
  | .keySelect .. => reporting ++ [.security]
  | .keyRevoke .. => reporting ++ [.security]
  | .svnAdvance .. => reporting ++ [.security]
  | .flashWrite .. => reporting ++ [.security]
  | .imageVerify .. => reporting ++ [.security]
  | .imageActivate .. => reporting ++ [.nvmRegs, .boot]
  | .imageActivateReset => allBut [.hostMemory, .devices]
  | .lifeCycle .. => reporting ++ [.security]
  | .lifeCycleApply => allBut [.devices]
  | .zeroize .. => reporting ++ [.security]
  | .zeroizeApply => allBut [.devices]
  | .counterRead .. => reporting
  | .journalWriteDone .. => reporting ++ [.secRegs, .security, .flash]
  | .lockoutExpiry .. => [.secRegs, .chronometer, .security, .outputs]
  | .secCritExtraAdd .. => [.secRegs, .outputs]
  | .wearWindowStart => [.chronometer, .almanac, .outputs]
  | .ageMeasure .. => reporting ++ [.almRegs, .chronometer, .almanac]
  | .swapAtQuiesce .. => allBut []
  | .helmSwapDone .. => reporting ++ [.hlmRegs, .almRegs, .helmMemory, .helms, .almanac]
  | .rowRepairDone .. => reporting ++ [.almRegs, .almanac]
  | .repairBurn .. => reporting ++ [.almRegs, .almanac, .otp]
  | .almanacSaveTimer => [.almRegs, .outputs, .chronometer, .almanac]
  | .recordWriteDone .. => reporting ++ [.almRegs, .almanac]
  | .almSwap .. => reporting ++ [.almRegs, .almanac]
  | .almBurn .. => reporting ++ [.almanac]
  | .almRead .. => reporting
  | .almSave .. => [.almRegs, .outputs, .queues, .almanac]
  | .pfFlr => allBut [.freeCount, .chronometer, .fixes, .chart, .tree, .devices, .cablePower, .lanes, .power, .pair, .boot, .security, .flash, .otp]
  | .vfEnableClear => reporting ++ [.hlmRegs, .tskRegs, .dmaRegs, .nvmRegs, .almRegs, .helmMemory, .conversations, .functions, .helms, .tasks, .haltLine, .dma, .almanac]
  | .poisonedWrite .. => [.gblRegs, .outputs, .functions, .boot]
  | .barBadAccess .. => [.gblRegs, .outputs, .functions, .boot]
  | .viewErrCauseWrite .. => [.hicRegs, .pwrRegs, .nvmRegs, .gblRegs, .outputs, .functions, .power, .boot]
  | .bearingAsymWrite .. => [.tree, .pair, .outputs]
  | .registerWrite .. => allBut []
  | .nodeLegReceive .. => [.devices, .outputs]
  | .hubLinkFix .. => [.devices, .outputs]
  | .auxLinkFix .. => [.outputs, .chronometer, .fixes, .lanes]
  | .sinkSupplyFail .. => [.outputs, .devices]
  | .sinkVbusChange .. => [.devices, .outputs]
  | .sinkKeepAliveTimer .. => [.outputs, .chronometer, .devices, .cablePower]
  | .sinkBeatTimer .. => [.outputs, .chronometer, .devices]
  | .pwcReject .. => [.outputs, .devices, .cablePower]
  | .nodePipeHalt .. => [.devices, .outputs]
  | .hubOvertemp .. => [.devices, .outputs]
  | .pmbusTransactionDone .. => reporting ++ [.cpwRegs, .pwrRegs, .devices, .cablePower, .power, .boot]
  | .flashOperationDone => reporting ++ [.security, .flash]
  | .flashBusyTimeout => reporting ++ [.almRegs, .freeCount, .chronometer, .security, .almanac, .flash]
  | .otpProgramDone .. => reporting ++ [.secRegs, .security, .otp]
  | .bulkDataReadFault .. => reporting ++ [.chtRegs, .chart, .conversations]
  | .laneSignalChange .. => reporting ++ [.lnkRegs, .pairRegs, .almRegs, .chronometer, .fixes, .devices, .lanes, .pair, .almanac]
  | .pcieLinkStateChange .. => [.gblRegs, .outputs]
  | .configSpaceWrite .. => allBut [.freeCount, .chronometer, .fixes, .chart, .tree, .devices, .cablePower, .lanes, .power, .pair, .boot, .security, .flash, .otp]

/-! ### What the statements speak of -/

/-- Whether the chronometer can come to an instant within the tick in progress: the instant has passed, or no meridian falls due before it. -/
def State.reaches (s : State) (ns : Nat) : Bool :=
  decide (ns ≤ s.chr.ns) || !(s.bit Fld.CHT_STATUS.RUNNING || s.chr.runDue) || decide (ns ≤ s.chr.dueNs)

/-- Whether the chronometer can come to an instant in 2^-16 ns since reset within the tick in progress. -/
def State.reachesFine (s : State) (t : Nat) : Bool :=
  decide (t ≤ s.fine) || !(s.bit Fld.CHT_STATUS.RUNNING || s.chr.runDue) || decide (t ≤ 65536 * s.chr.dueNs)

/-- Whether a PMBus target's transactions still to run are those of a list, the first of which may be on the bus. -/
def State.pmbusHas (s : State) (target : Nat) (l : List (Nat × Nat)) : Bool :=
  s.pmbus target == l || match l with
    | [] => false
    | x :: rest => s.cpw.bus == some (target, x) && s.pmbus target == rest

/-- The state with the chronometer moved forward to an instant; one that has passed leaves it as it is. -/
def State.movedTo (s : State) (ns : Nat) : State :=
  if s.chr.ns < ns then { s with chr := { s.chr with ns := ns, frac := 0 } } else s

/-- Whether a command's completion can leave now, into the ring or the holding store of its SQ's CQ (R301), or is dropped with it (R304). -/
def State.takesCompletion (s : State) (c : Cmd) : Bool :=
  c.forced || match s.cqOf c.ins (s.fld Fld.QM_SQ_CFG.CQ c.sq) with
  | none => true
  | some q => s.q.discarding.contains q || s.cqOpen q || s.holdRoom q

/-- Whether a command's completion goes straight into the ring of a CQ: the CQ is open, its owner's function can issue the write, no page is
logged, and no WAIT_IDLE waits (R291, R301, R305, R310, R340). -/
def State.straight (s : State) (c : Cmd) (q : Nat) : Bool :=
  !c.forced && !s.q.discarding.contains q && s.cqOpen q && s.canIssue (s.insFn (s.fld Fld.QM_CQ_CFG.OWNER q)) &&
    !s.bit Fld.INS_LOG_CFG.RUNNING (s.fld Fld.QM_CQ_CFG.OWNER q) && !s.q.cmds.any fun e => e.2.opcode == 0x05 && e.2.stage == .running

/-- Whether a later state reports a command of an earlier one in its CQ: where the completion goes straight into the ring, the 16 bytes at the
ring's tail are the entry of Table 09-3 with the given status, RESULT and AUX. -/
def State.reports (s t : State) (c : Cmd) (status : Nat) (result aux : Nat := 0) : Bool :=
  match s.cqOf c.ins (s.fld Fld.QM_SQ_CFG.CQ c.sq) with
  | none => true
  | some q => !s.straight c q || decide (readBytes memDefault t.host (s.cqBase q + 16 * (s.fld Fld.QM_CQ_INDICES.TAIL q % s.cqSize q)) 16 =
      CqEntry.bytes { result := result % 2 ^ 32, aux := aux % 2 ^ 32, cid := c.cid, sqHead := c.head,
                      sq := s.fld Fld.QM_SQ_CFG.Q c.sq, status := status } (s.fld Fld.QM_CQ_INDICES.TAIL q / s.cqSize q % 2 == 0))

/-- As `reports`, whatever RESULT the entry carries. -/
def State.reportsSome (s t : State) (c : Cmd) (status : Nat) : Bool :=
  match s.cqOf c.ins (s.fld Fld.QM_SQ_CFG.CQ c.sq) with
  | none => true
  | some q => s.reports t c status
      (ofBytes (readBytes memDefault t.host (s.cqBase q + 16 * (s.fld Fld.QM_CQ_INDICES.TAIL q % s.cqSize q)) 4))

/-- Whether the completion of a command writes nothing in host memory and nothing else completes with it: it is dropped with its CQ (R304) or
ended by FORCE (R336), and no WAIT_IDLE waits. -/
def State.dropped (s : State) (c : Cmd) : Bool :=
  (c.forced || (s.cqOf c.ins (s.fld Fld.QM_SQ_CFG.CQ c.sq)).isNone) && !s.q.cmds.any fun e => e.2.opcode == 0x05 && e.2.stage == .running

/-- The stage of a command that is still in the queue manager. -/
def State.stageOf (s : State) (tag : Nat) : Option Stage := (s.cmd tag).map (·.stage)

/-- Whether every register field but the listed ones, each of an element or context, reads the same in two states. -/
def keepsBut (l : List (Field × Nat)) (s t : State) : Prop :=
  ∀ (f : Field) (n : Nat), (∀ e ∈ l, f.key n ≠ e.1.key e.2) → t.fld f n = s.fld f n

/-- Whether every byte of host memory outside a range reads the same in two states. -/
def hostKept (addr len : Nat) (s t : State) : Prop :=
  ∀ a, (a < addr ∨ addr + len ≤ a) → Sparse.get memDefault t.host a = Sparse.get memDefault s.host a

/-- Whether every byte of a helm memory outside a range reads the same in two states. -/
def tcmKept (addr len : Nat) (s t : State) : Prop :=
  ∀ a, (a < addr ∨ addr + len ≤ a) → Sparse.get tcmDefault t.tcm a = Sparse.get tcmDefault s.tcm a

/-- The instant, in 1/12 ns, at which the last cycle of a helm's next instruction ends, if it takes that many cycles. -/
def State.helmEnds (s : State) (h cyc : Nat) : Nat :=
  max (s.helm h).at12 (if (s.helm h).task.isNone ∧ (s.helm h).wait ≠ .none then s.now12 else 0) + cyc * s.cyc

/-- Whether a helm executes its next instruction with no meridian falling due before its last cycle ends. -/
def State.runsFor (s : State) (h cyc : Nat) : Bool := decide (h < 18) && s.executes h && s.reaches (s.helmEnds h cyc / 12)

/-- Whether a helm fetches an instruction of a length. -/
def State.fetches (s : State) (h len : Nat) (op : Rv.Op) : Bool :=
  match s.fetch h false with
  | .insn _ n o => n == len && o == op
  | .fault .. => false

/-- Whether an instruction of a helm has ended in a state as R213 says: its cycles have passed, and the bank it ran in goes on at a pc. -/
def State.retired (s t : State) (h cyc pc : Nat) : Bool :=
  let b := if (s.helmTask h).isSome then (t.helm h).bank1 else (t.helm h).bank0
  b.pc == pc % 2 ^ 32 && (t.helm h).at12 == s.helmEnds h cyc &&
    (t.helm h).csr.minstret == ((s.helm h).csr.minstret + 1) % 2 ^ 64

/-- Whether an instruction wrote a value to register x`rd` of the bank it ran in; x0 stays 0. -/
def State.wroteX (s t : State) (h rd v : Nat) : Bool :=
  (if (s.helmTask h).isSome then (t.helm h).bank1 else (t.helm h).bank0).reg rd == if rd = 0 then 0 else v % 2 ^ 32

/-- Whether the registers of the bank it ran in are the same, but for x`rd`; floating-point registers and fcsr are the same. -/
def State.keptX (s t : State) (h rd : Nat) : Bool :=
  let b := if (s.helmTask h).isSome then (t.helm h).bank1 else (t.helm h).bank0
  ((List.range 32).all fun i => i == rd || b.reg i == (s.bankOf h).reg i) && b.f == (s.bankOf h).f && b.fcsr == (s.bankOf h).fcsr

/-- Whether a memory of bytes is in its canonical form. -/
def Memory.wf (m : List Host.Cell) : Bool := Sparse.canonical memDefault m

/-- A safe step: a next state, canonical, that has lost no OTP bit. -/
def SafeStep (s : State) : Prop :=
  ∃ t, step s = .next t ∧ (Canonical s → Canonical t) ∧ OtpKept s t

end Sys2Proof.Machine
end

