-- ==== Sys2Proof/Certificates/Slice0/Obligations.lean ====
section
/-! DEFINITION. The statements for the provers, by family of commands. A statement of completion says of each command it names: in every state
that meets its premises, the command answers a next state, and what that state holds. -/

open Sys2Proof Sys2Proof.Machine

/-- For every command c, state s and list rest: when the queue of s is c followed by rest, a step of s is exec of c on s with the queue rest. -/
def Obligations.StepRunsTheFrontCommand : Prop :=
  ∀ (c : Instr) (s : State) (rest : List Instr), s.pending = c :: rest → step s = exec c { s with pending := rest }

/-- The model's choice (assumption 1, DESIGN CHOICE): on an empty queue a step answers a next state with an empty queue and the same registers; where the chronometer may move 32 ns forward without passing the meridian that is due, it does. Where the spec leaves a point open, what it says is the model's choice: log entry 1. -/
def Obligations.AnEmptyQueueLetsASlotPass : Prop :=
  ∀ (s : State), s.pending = [] → ∃ t, step s = .next t ∧ t.pending = [] ∧ t.regs = s.regs ∧ (s.reaches (s.chr.ns + 32) = true → t.chr.ns = s.chr.ns + 32)

/-- For every command and every state, exec answers a next state, whose queue is the queue of the state it was given: no command is refused and none stops the machine. -/
def Obligations.EveryCommandAnswersAndLeavesTheQueue : Prop :=
  ∀ (c : Instr) (s : State), ∃ t, exec c s = .next t ∧ t.pending = s.pending

/-- In every state whose registers, memories and tables are in canonical form (keys strictly rising, no entry equal to what an unlisted key reads as), if a step answers a next state, that state is in canonical form too. -/
def Obligations.EveryStepKeepsTheCanonicalForm : Prop :=
  ∀ (s t : State), Canonical s → step s = .next t → Canonical t

/-- The state after reset is in canonical form: no entry of its registers, memories and tables equals what an unlisted key reads as, and keys rise. -/
def Obligations.ResetIsCanonical : Prop :=
  Canonical State.reset

/-- In every state, if a step answers a next state, every bit of every OTP byte that was 1 is still 1. -/
def Obligations.NoStepClearsAnOtpBit : Prop :=
  ∀ (s t : State), step s = .next t → OtpKept s t

/-- For every command and every state, if exec answers a next state, then every part that is not in the footprint of the command (a block of registers, a memory, a unit) is the same in both states: every element and context of every register field of an unlisted block reads as before, and every unlisted memory is byte for byte the same. -/
def Obligations.EveryCommandChangesOnlyItsFootprint : Prop :=
  ∀ (c : Instr) (s t : State) (p : Part), exec c s = .next t → p ∉ footprint c → p.same s t

/-- After reset, with no step taken: the chart, chronometer, lane, helm, DMA, queue, instance, interrupt, cable-power, power, pair, start-up, almanac and identification fields that the statement lists hold the reset values of their register tables (a physical helm and a DMA channel carry their own numbers, spares 31 and 127), the chronometer shows 0, the tick number is 0, and no command waits. -/
def Obligations.ResetLeavesTheValuesTheSpecGives : Prop :=
  (∀ e ∈ ([(Fld.CHT_TICK_LEN.N, 0, 31250),
        (Fld.CHT_TICK_LEN.ACTIVE_N, 0, 31250),
        (Fld.CHT_RESERVE.PERCENT, 3, 85),
        (Fld.CHR_HOLDOVER_CFG.LIMIT_NS, 0, 1000),
        (Fld.LNK_CFG.MAX_GEN, 5, 3),
        (Fld.LNK_CDR_MAP.SLICE, 7, 7),
        (Fld.HLM_STATUS.LOGICAL, 9, 9),
        (Fld.HLM_STATUS.LOGICAL, 17, 31),
        (Fld.DMA_CH_STATUS.LOGICAL, 63, 63),
        (Fld.DMA_CH_STATUS.LOGICAL, 64, 127),
        (Fld.QM_CTRL.FETCH_EN, 0, 1),
        (Fld.INS_STATUS.FUNC_STATE, 0, 2),
        (Fld.INS_STATUS.FUNC_STATE, 5, 0),
        (Fld.INS_VEC.VEC_COUNT, 0, 64),
        (Fld.INS_SHARE_HOLD.HOLD_MAX, 9, 256),
        (Fld.ICU_MASK.MASK, 4, 0xFFFFFFFF),
        (Fld.CPW_CONTRACT.CONTRACT, 2, 0x00F0FA),
        (Fld.PWR_DOM_STATUS.GOOD, 0, 0xFFF),
        (Fld.PWR_OP_STATUS.ACTIVE, 0, 2),
        (Fld.PAIR_CFG.ELECT_MS, 0, 50),
        (Fld.NVM_HALT_CFG.DRIVE_SW, 0, 1),
        (Fld.ALM_THRESH.ACT, 1, 500),
        (Fld.ALM_SPARES.ROWS_FREE, 0, 448),
        (Fld.ID_DEVICE.DEVICE, 0, 0x6416),
        (Fld.ID_DEVICE.VENDOR, 0, 0x1F6E),
        (Fld.ID_CAPS_CHART.LEGS, 0, 16384)] : List (Field × Nat × Nat)), State.reset.fld e.1 e.2.1 = e.2.2) ∧ State.reset.chron = 0 ∧ State.reset.tick = 0 ∧ State.reset.pending = []

/-- A read by the host or by a helm of an offset of BAR0 that holds no register answers 0x0000_0000 and changes nothing; a write changes nothing. Neither raises an error. (The offsets that hold no register are those of no register table, of no aperture and outside the AON scratch, and the hole between the safe-value and the pipe aperture.) -/
def Obligations.AnOffsetWithNoRegisterReadsZero : Prop :=
  (∀ (off v : Nat) (s : State), s.pstate = 0 → (s.fn 0).mse = true → (s.fn 0).dstate = 0 → off % 4 = 0 → off < 0x40000 → (off < 0x21000 ∨ 0x22000 ≤ off) → s.regAt off = none → (∀ d ∈ offsetDomain off, s.domGood d = true) → ∃ t, exec (.registerWrite 0 0 false off v) s = .next t ∧ t = { s with out := [.pcie 0 0] }) ∧
  (∀ (off v : Nat) (s : State), s.pstate = 0 → (s.fn 0).mse = true → (s.fn 0).dstate = 0 → off % 4 = 0 → off < 0x40000 → (off < 0x21000 ∨ 0x22000 ≤ off) → s.regAt off = none → (∀ d ∈ offsetDomain off, s.domGood d = true) → s.loading = false → ∃ t, exec (.registerWrite 0 0 true off v) s = .next t ∧ t = { s with out := [] }) ∧
  (∀ (off v : Nat) (s : State), s.pstate ≤ 1 → off % 4 = 0 → off < 0x40000 → (off < 0x21000 ∨ 0x22000 ≤ off) → s.regAt off = none → (∀ d ∈ offsetDomain off, s.domGood d = true) → ∃ t, exec (.registerWrite 1 0 false off v) s = .next t ∧ t = { s with out := [.pcie 0 0] }) ∧
  (∀ (off v : Nat) (s : State), s.pstate ≤ 1 → s.bit Fld.NVM_CTRL.HOST_ATTACH = false → off % 4 = 0 → off < 0x40000 → (off < 0x21000 ∨ 0x22000 ≤ off) → s.regAt off = none → (∀ d ∈ offsetDomain off, s.domGood d = true) → ∃ t, exec (.registerWrite 1 0 true off v) s = .next t ∧ t = { s with out := [] }) ∧
  (∀ (off v : Nat) (s : State), s.pstate = 0 → (s.fn 0).mse = true → (s.fn 0).dstate = 0 → off % 4 = 0 → 0xE0400 ≤ off → off < 0xF0000 → ∃ t, exec (.registerWrite 0 0 false off v) s = .next t ∧ t = { s with out := [.pcie 0 0] }) ∧
  (∀ (off v : Nat) (s : State), s.pstate = 0 → (s.fn 0).mse = true → (s.fn 0).dstate = 0 → off % 4 = 0 → 0xE0400 ≤ off → off < 0xF0000 → s.loading = false → ∃ t, exec (.registerWrite 0 0 true off v) s = .next t ∧ t = { s with out := [] })

/-- An aligned 32-bit write of the AON scratch by the host stores its word, a read answers it and changes nothing, and no other word of the scratch changes. Its contents stay through RESET_PIN, the WARM resets, PERST_ASSERT, PF_FLR, RESET_END, the entry into a power state and every step of a wake; POWER_ON_RESET and zeroization, by ZEROIZE or by a life-cycle change, clear it. -/
def Obligations.TheScratchKeepsItsContents : Prop :=
  (∀ (off v k : Nat) (s : State), s.pstate = 0 → (s.fn 0).mse = true → (s.fn 0).dstate = 0 → off % 4 = 0 → 0x21000 ≤ off → off < 0x22000 → s.loading = false → k ≠ (off - 0x21000) / 4 → ∃ t, exec (.registerWrite 0 0 true off v) s = .next t ∧ tget 0 t.pwr.scratch ((off - 0x21000) / 4) = v % 2 ^ 32 ∧ tget 0 t.pwr.scratch k = tget 0 s.pwr.scratch k ∧ keepsBut [] s t) ∧
  (∀ (off v : Nat) (s : State), s.pstate = 0 → (s.fn 0).mse = true → (s.fn 0).dstate = 0 → off % 4 = 0 → 0x21000 ≤ off → off < 0x22000 → ∃ t, exec (.registerWrite 0 0 false off v) s = .next t ∧ t = { s with out := [.pcie 0 (tget 0 s.pwr.scratch ((off - 0x21000) / 4))] }) ∧
  (∀ (s : State), ∃ t, exec (.resetPin) s = .next t ∧ t.pwr.scratch = s.pwr.scratch) ∧
  (∀ (s : State), ∃ t, exec (.nvmWarmReset) s = .next t ∧ t.pwr.scratch = s.pwr.scratch) ∧
  (∀ (s : State), ∃ t, exec (.imageActivateReset) s = .next t ∧ t.pwr.scratch = s.pwr.scratch) ∧
  (∀ (s : State), ∃ t, exec (.perstAssert) s = .next t ∧ t.pwr.scratch = s.pwr.scratch) ∧
  (∀ (s : State), ∃ t, exec (.pfFlr) s = .next t ∧ t.pwr.scratch = s.pwr.scratch) ∧
  (∀ (v : Nat) (s : State), ∃ t, exec (.resetEnd v) s = .next t ∧ t.pwr.scratch = s.pwr.scratch) ∧
  (∀ (s : State), ∃ t, exec (.pwrStateCtrlS0) s = .next t ∧ t.pwr.scratch = s.pwr.scratch) ∧
  (∀ (s : State), ∃ t, exec (.pwrStateCtrlS1) s = .next t ∧ t.pwr.scratch = s.pwr.scratch) ∧
  (∀ (s : State), ∃ t, exec (.pwrStateCtrlS2) s = .next t ∧ t.pwr.scratch = s.pwr.scratch) ∧
  (∀ (s : State), ∃ t, exec (.pwrStateCtrlS3) s = .next t ∧ t.pwr.scratch = s.pwr.scratch) ∧
  (∀ (s : State), ∃ t, exec (.s1HostWrite) s = .next t ∧ t.pwr.scratch = s.pwr.scratch) ∧
  (∀ (s : State), ∃ t, exec (.entryIdleReached) s = .next t ∧ t.pwr.scratch = s.pwr.scratch) ∧
  (∀ (s : State), ∃ t, exec (.entryIdleTimeout) s = .next t ∧ t.pwr.scratch = s.pwr.scratch) ∧
  (∀ (s : State), ∃ t, exec (.entryReversionsDone) s = .next t ∧ t.pwr.scratch = s.pwr.scratch) ∧
  (∀ (s : State), ∃ t, exec (.pmeTurnOff) s = .next t ∧ t.pwr.scratch = s.pwr.scratch) ∧
  (∀ (s : State), ∃ t, exec (.linkWaitTimeout) s = .next t ∧ t.pwr.scratch = s.pwr.scratch) ∧
  (∀ (c g : Nat) (s : State), ∃ t, exec (.wakeDeclare c g) s = .next t ∧ t.pwr.scratch = s.pwr.scratch) ∧
  (∀ (s : State), ∃ t, exec (.wakeStepTimeout) s = .next t ∧ t.pwr.scratch = s.pwr.scratch) ∧
  (∀ (s : State), ∃ t, exec (.wakeRetryWait) s = .next t ∧ t.pwr.scratch = s.pwr.scratch) ∧
  (∀ (s : State), ∃ t, exec (.wakeStepDone true) s = .next t ∧ t.pwr.scratch = s.pwr.scratch) ∧
  (∀ (s : State), ∃ t, exec (.wakeStepDone false) s = .next t ∧ t.pwr.scratch = s.pwr.scratch) ∧
  (∀ (v : Nat) (s : State), ∃ t, exec (.powerOnReset v) s = .next t ∧ t.pwr.scratch = []) ∧
  (∀ (e : Nat) (s : State), s.sec.zeroAt = some e → s.reaches e = true → s.sec.flashOp = none → ∃ t, exec (.zeroizeApply) s = .next t ∧ t.pwr.scratch = []) ∧
  (∀ (e g : Nat) (s : State), s.sec.lifeAt = some (e, g) → s.reaches e = true → s.sec.flashOp = none → ∃ t, exec (.lifeCycleApply) s = .next t ∧ t.pwr.scratch = [])

/-- ICU_CLAIM of a target up to 18: the eligible source that comes first is in service, its pending bit clears if it is an edge source, ICU_CLAIM shows it as valid and the target's pointer moves past it; with no eligible source ICU_CLAIM shows none and CLAIM_NONE counts, and nothing else changes. ICU_COMPLETE of a source in service for the target: it is out of service, a level source is pending exactly as its input is, and a handler without a cause counts; of any other source: BAD_COMPLETE alone. Where the spec leaves a point open, what it says is the model's choice: log entry 16. -/
def Obligations.ClaimAndCompleteOfATarget : Prop :=
  (∀ (k src : Nat) (s : State), k ≤ 18 → s.icuBest (s.icuEligibleList k) = some src → ∃ t, exec (.icuClaim k) s = .next t ∧ t.icuInService src = true ∧ (s.icuEdgeSensed src = true → t.icuPending src = false) ∧ t.bit Fld.ICU_CLAIM.VALID k = true ∧ t.fld Fld.ICU_CLAIM.SOURCE k = src ∧ tget 0 t.icu.pointer k = (src + 1) % 1024) ∧
  (∀ (k : Nat) (s : State), k ≤ 18 → s.icuBest (s.icuEligibleList k) = none → ∃ t, exec (.icuClaim k) s = .next t ∧ t.bit Fld.ICU_CLAIM.VALID k = false ∧ t.fld Fld.ICU_CLAIM.SOURCE k = 0 ∧ t.fld Fld.ICU_SPURIOUS.CLAIM_NONE = min (s.fld Fld.ICU_SPURIOUS.CLAIM_NONE + 1) 65535 ∧ t.icu = s.icu ∧ keepsBut [(Fld.ICU_SPURIOUS.CLAIM_NONE, 0), (Fld.ICU_CLAIM.VALID, k), (Fld.ICU_CLAIM.SOURCE, k)] s t) ∧
  (∀ (k src : Nat) (noCause : Bool) (s : State), k ≤ 18 → src < 1024 → s.icuInService src = true → s.fld Fld.ICU_SRC_CFG.TARGET src = k → ∃ t, exec (.icuComplete k src noCause) s = .next t ∧ t.icuInService src = false ∧ (s.icuEdgeSensed src = false → t.icuPending src = s.icuInput src) ∧ (s.icuEdgeSensed src = true → t.icuPending src = s.icuPending src) ∧ t.fld Fld.ICU_SPURIOUS.HANDLER = (if noCause then min (s.fld Fld.ICU_SPURIOUS.HANDLER + 1) 65535 else s.fld Fld.ICU_SPURIOUS.HANDLER)) ∧
  (∀ (k src : Nat) (noCause : Bool) (s : State), k ≤ 18 → src < 1024 → (s.icuInService src = false ∨ s.fld Fld.ICU_SRC_CFG.TARGET src ≠ k) → ∃ t, exec (.icuComplete k src noCause) s = .next t ∧ t.bit Fld.ICU_EVENT.BAD_COMPLETE = true ∧ t.icu = s.icu ∧ keepsBut [(Fld.ICU_EVENT.BAD_COMPLETE, 0)] s t)

/-- ICU_MASK_WRITE sets the 32 mask bits of its word and nothing else. ICU_SRC_CFG_WRITE always sets PRIO and HOST_FWD; TARGET and COAL_LOG (and SENSE of a GPIO source, ENTRY of a LEG source) only of a source that is masked and not in service, else a changed value sets CFG_REFUSED. ICU_TIMER_ARM of a later value arms the timer, unless an old value is due; ICU_TIMER_FIRE disarms it when its value is reached, and its source is pending if it was not and coalesces nothing. ICU_EDGE of an edge source that coalesces nothing and is not pending: it is pending; pending already: MERGED counts; within its coalescing count: only the count rises. ICU_SOFT_SET of one bit does the same to its SOFT source. ICU_LEVEL_CHANGE of a GPIO source sensed by level and not in service: the source is pending exactly as its input then is. Where the spec leaves a point open, what it says is the model's choice: log entry 16. -/
def Obligations.SourcesOfTheIcuAreSetMaskedAndTimed : Prop :=
  (∀ (w v : Nat) (s : State), w < 32 → ∃ t, exec (.icuMaskWrite w v) s = .next t ∧ t.fld Fld.ICU_MASK.MASK w = v % 2 ^ 32 ∧ t.icu = s.icu ∧ keepsBut [(Fld.ICU_MASK.MASK, w)] s t) ∧
  (∀ (src v : Nat) (s : State), src < 1024 → s.icuMasked src = true → s.icuInService src = false → ∃ t, exec (.icuSrcCfgWrite src v) s = .next t ∧ t.fld Fld.ICU_SRC_CFG.PRIO src = bitsAt v 0 3 ∧ t.fld Fld.ICU_SRC_CFG.HOST_FWD src = bitsAt v 31 1 ∧ t.fld Fld.ICU_SRC_CFG.TARGET src = bitsAt v 4 5 ∧ t.fld Fld.ICU_SRC_CFG.COAL_LOG src = bitsAt v 28 3 ∧ (200 ≤ src → src ≤ 207 → t.fld Fld.ICU_SRC_CFG.SENSE src = bitsAt v 9 2) ∧ (256 ≤ src → t.fld Fld.ICU_SRC_CFG.ENTRY src = bitsAt v 14 14) ∧ t.fld Fld.ICU_EVENT.CFG_REFUSED = s.fld Fld.ICU_EVENT.CFG_REFUSED) ∧
  (∀ (src v : Nat) (s : State), src < 1024 → (s.icuMasked src = false ∨ s.icuInService src = true) → bitsAt v 4 5 ≠ s.fld Fld.ICU_SRC_CFG.TARGET src → ∃ t, exec (.icuSrcCfgWrite src v) s = .next t ∧ t.fld Fld.ICU_SRC_CFG.PRIO src = bitsAt v 0 3 ∧ t.fld Fld.ICU_SRC_CFG.HOST_FWD src = bitsAt v 31 1 ∧ t.bit Fld.ICU_EVENT.CFG_REFUSED = true ∧ t.icu = s.icu ∧ keepsBut [(Fld.ICU_SRC_CFG.PRIO, src), (Fld.ICU_SRC_CFG.HOST_FWD, src), (Fld.ICU_EVENT.CFG_REFUSED, 0)] s t) ∧
  (∀ (k lo : Nat) (s : State), k ≤ 18 → s.chron < s.fld Fld.ICU_TIMER_HI.CMP_HI k * 2 ^ 32 + lo % 2 ^ 32 → (s.bit Fld.ICU_REQ.ARMED k = false ∨ s.chron < tget 0 s.icu.armed k) → ∃ t, exec (.icuTimerArm k lo) s = .next t ∧ t.fld Fld.ICU_TIMER_LO.CMP_LO k = lo % 2 ^ 32 ∧ t.bit Fld.ICU_REQ.ARMED k = true ∧ tget 0 t.icu.armed k = s.fld Fld.ICU_TIMER_HI.CMP_HI k * 2 ^ 32 + lo % 2 ^ 32 ∧ keepsBut [(Fld.ICU_TIMER_LO.CMP_LO, k), (Fld.ICU_REQ.ARMED, k)] s t) ∧
  (∀ (k : Nat) (s : State), k ≤ 18 → s.bit Fld.ICU_REQ.ARMED k = true → tget 0 s.icu.armed k ≤ s.chron → s.fld Fld.ICU_SRC_CFG.COAL_LOG (130 + k) = 0 → ∃ t, exec (.icuTimerFire k) s = .next t ∧ t.bit Fld.ICU_REQ.ARMED k = false ∧ t.icuPending (130 + k) = true ∧ tget 0 t.icu.armed k = 0) ∧
  (∀ (src : Nat) (s : State), icuSource src = true → s.icuEdgeSensed src = true → src < 1024 → s.fld Fld.ICU_SRC_CFG.COAL_LOG src = 0 → s.icuPending src = false → ∃ t, exec (.icuEdge src) s = .next t ∧ t.icuPending src = true ∧ t.fld Fld.ICU_MERGED.COUNT = s.fld Fld.ICU_MERGED.COUNT) ∧
  (∀ (src : Nat) (s : State), icuSource src = true → s.icuEdgeSensed src = true → s.fld Fld.ICU_SRC_CFG.COAL_LOG src = 0 → s.icuPending src = true → ∃ t, exec (.icuEdge src) s = .next t ∧ t.fld Fld.ICU_MERGED.COUNT = min (s.fld Fld.ICU_MERGED.COUNT + 1) (2 ^ 32 - 1) ∧ keepsBut [(Fld.ICU_MERGED.COUNT, 0)] s t) ∧
  (∀ (src : Nat) (s : State), icuSource src = true → s.icuEdgeSensed src = true → tget 0 s.icu.coal src + 1 < 2 ^ s.fld Fld.ICU_SRC_CFG.COAL_LOG src → ∃ t, exec (.icuEdge src) s = .next t ∧ tget 0 t.icu.coal src = tget 0 s.icu.coal src + 1 ∧ keepsBut [] s t) ∧
  (∀ (b : Nat) (s : State), b < 32 → s.fld Fld.ICU_SRC_CFG.COAL_LOG (160 + b) = 0 → ∃ t, exec (.icuSoftSet (2 ^ b)) s = .next t ∧ t.icuPending (160 + b) = true ∧ t.fld Fld.ICU_MERGED.COUNT = (if s.icuPending (160 + b) then min (s.fld Fld.ICU_MERGED.COUNT + 1) (2 ^ 32 - 1) else s.fld Fld.ICU_MERGED.COUNT)) ∧
  (∀ (src : Nat) (level : Bool) (s : State), 200 ≤ src → src ≤ 207 → s.fld Fld.ICU_SRC_CFG.SENSE src < 2 → s.icuInService src = false → ∃ t, exec (.icuLevelChange src level) s = .next t ∧ t.pin (src - 200) = level ∧ t.icuPending src = (if s.fld Fld.ICU_SRC_CFG.SENSE src = 0 then level else !level))

/-- HIC_VECTOR_TIMER at the instant of the timer, and HIC_FLUSH of the indexed vector with events: the count and the timer stop, and the message goes out, or stays pending while the vector or its function is masked or the function is not in D0. MSIX_UNMASK of a vector that owes a message, its function unmasked and in D0: the message goes out and is no longer pending. HIC_INS_CFG_WRITE for an instance that is OFF, within its vector range, sets the vectors and the enables; out of its range it sets CFG_REFUSED alone. Where the spec leaves a point open, what it says is the model's choice: log entry 44. -/
def Obligations.HostVectorsFireAndUnmask : Prop :=
  (∀ (fn vec : Nat) (s : State), vec < 2048 → s.bit Fld.HIC_VEC_STATUS.TIMER_RUN (vecKey fn vec) = true → s.reaches (tget 0 s.icu.vecAt (vecKey fn vec) + 256 * s.coalTime (vecKey fn vec)) = true → (s.msixRow (vecKey fn vec)).masked = false → (s.fn fn).msixMask = false → (s.fn fn).dstate = 0 → ∃ t, exec (.hicVectorTimer fn vec) s = .next t ∧ t.out = [.msix fn vec (s.msixRow (vecKey fn vec)).addr (s.msixRow (vecKey fn vec)).data] ∧ t.fld Fld.HIC_VEC_STATUS.EVENTS (vecKey fn vec) = 0 ∧ t.bit Fld.HIC_VEC_STATUS.TIMER_RUN (vecKey fn vec) = false ∧ t.fld Fld.HIC_MSG_CNT.COUNT = min (s.fld Fld.HIC_MSG_CNT.COUNT + 1) (2 ^ 32 - 1)) ∧
  (∀ (s : State), s.fld Fld.HIC_VEC_STATUS.EVENTS s.vecIndex ≠ 0 → (s.msixRow s.vecIndex).masked = true → ∃ t, exec (.hicFlush) s = .next t ∧ t.out = [] ∧ t.bit Fld.HIC_VEC_STATUS.MSG_PENDING s.vecIndex = true ∧ t.fld Fld.HIC_VEC_STATUS.EVENTS s.vecIndex = 0 ∧ t.bit Fld.HIC_VEC_STATUS.TIMER_RUN s.vecIndex = false) ∧
  (∀ (fn vec : Nat) (s : State), vec < 2048 → s.bit Fld.HIC_VEC_STATUS.MSG_PENDING (vecKey fn vec) = true → (s.fn fn).msixMask = false → (s.fn fn).dstate = 0 → ∃ t, exec (.msixUnmask fn vec false) s = .next t ∧ t.out = [.msix fn vec (s.msixRow (vecKey fn vec)).addr (s.msixRow (vecKey fn vec)).data] ∧ t.bit Fld.HIC_VEC_STATUS.MSG_PENDING (vecKey fn vec) = false ∧ (t.msixRow (vecKey fn vec)).masked = false) ∧
  (∀ (v : Nat) (s : State), s.fld Fld.INS_STATUS.FUNC_STATE (s.fld Fld.HIC_INS_INDEX.INSTANCE) = Fn.off → s.vecInRange (s.fld Fld.HIC_INS_INDEX.INSTANCE) (bitsAt v 0 11) = true → s.vecInRange (s.fld Fld.HIC_INS_INDEX.INSTANCE) (bitsAt v 16 11) = true → ∃ t, exec (.hicInsCfgWrite false v) s = .next t ∧ (let i := s.fld Fld.HIC_INS_INDEX.INSTANCE; t.fld Fld.HIC_INS_PI.FULL_VEC i = bitsAt v 0 11 ∧ t.fld Fld.HIC_INS_PI.HALF_VEC i = bitsAt v 16 11 ∧ t.fld Fld.HIC_INS_PI.FULL_EN i = bitsAt v 11 1 ∧ t.fld Fld.HIC_INS_PI.HALF_EN i = bitsAt v 27 1)) ∧
  (∀ (err : Bool) (v : Nat) (s : State), s.fld Fld.INS_STATUS.FUNC_STATE (s.fld Fld.HIC_INS_INDEX.INSTANCE) = Fn.off → s.vecInRange (s.fld Fld.HIC_INS_INDEX.INSTANCE) (bitsAt v 0 11) = false → ∃ t, exec (.hicInsCfgWrite err v) s = .next t ∧ t.bit Fld.HIC_EVENT.CFG_REFUSED = true ∧ keepsBut [(Fld.HIC_EVENT.CFG_REFUSED, 0)] s t)

/-- While the function takes memory requests, the boot is over and the power state is not S1: SQ_TAIL_DOORBELL with a value in range that takes back nothing and does not overfill the ring sets TAIL and leaves the state of the SQ; with another value the SQ goes to ERROR with kind 1 and the value. CQ_HEAD_DOORBELL with a value in range that passes no entry sets HEAD; another value puts the CQ in ERROR with kind 1. A doorbell on a page that no instance owns sets STRAY_DOORBELL and nothing else. SQ_FETCH: every ready SQ shows the bound that holds it back (0 for none), and the entry read of the SQ that comes first among the unbound is outstanding, when its function has a request free. SQ_ENTRY_READ_COMPLETE of an SQ that is ON with entries, when the entry is not critical: HEAD moves on by one, and when its checks pass the command joins those outstanding under the next tag; the counts of tags rise. SQ_FETCH_FAULT: the SQ goes to ERROR with kind 2 at its HEAD, and its read is no longer outstanding. Where the spec leaves a point open, what it says is the model's choice: log entries 13 and 14. -/
def Obligations.DoorbellsAndFetchingMoveTheQueues : Prop :=
  (∀ (fn slot q v i n : Nat) (s : State), s.memOn fn = true → (s.fn fn).dstate = 0 → s.pstate ≠ 1 → s.loading = false → s.pageOwner fn slot = some i → s.sqOf i q = some n → s.fld Fld.QM_SQ_STATUS.FUNC_STATE n = Fn.on → v % 65536 < 2 * s.sqSize n → s.sqCount n ≤ (v % 65536 + 2 * s.sqSize n - s.fld Fld.QM_SQ_INDICES.HEAD n) % (2 * s.sqSize n) → (v % 65536 + 2 * s.sqSize n - s.fld Fld.QM_SQ_INDICES.HEAD n) % (2 * s.sqSize n) ≤ s.sqSize n → ∃ t, exec (.sqTailDoorbell fn slot q v) s = .next t ∧ t.fld Fld.QM_SQ_INDICES.TAIL n = v % 65536 ∧ keepsBut [(Fld.QM_SQ_INDICES.TAIL, n)] s t) ∧
  (∀ (fn slot q v i n : Nat) (s : State), s.memOn fn = true → (s.fn fn).dstate = 0 → s.pstate ≠ 1 → s.loading = false → s.pageOwner fn slot = some i → s.sqOf i q = some n → s.fld Fld.QM_SQ_STATUS.FUNC_STATE n = Fn.on → 2 * s.sqSize n ≤ v % 65536 → ∃ t, exec (.sqTailDoorbell fn slot q v) s = .next t ∧ t.fld Fld.QM_SQ_STATUS.FUNC_STATE n = Fn.error ∧ t.fld Fld.QM_SQ_STATUS.ERR_KIND n = 1 ∧ t.fld Fld.QM_SQ_ERR.INDEX n = v % 65536 ∧ t.fld Fld.QM_SQ_INDICES.TAIL n = s.fld Fld.QM_SQ_INDICES.TAIL n ∧ t.bit Fld.QM_EVENT.SQ_ERROR = true) ∧
  (∀ (fn slot q v i n : Nat) (s : State), s.memOn fn = true → (s.fn fn).dstate = 0 → s.pstate ≠ 1 → s.loading = false → s.pageOwner fn slot = some i → s.cqOf i q = some n → (s.fld Fld.QM_CQ_STATUS.FUNC_STATE n = Fn.on ∨ s.fld Fld.QM_CQ_STATUS.FUNC_STATE n = Fn.disabling) → v % 65536 < 2 * s.cqSize n → (v % 65536 + 2 * s.cqSize n - s.fld Fld.QM_CQ_INDICES.HEAD n) % (2 * s.cqSize n) ≤ s.cqCount n → ∃ t, exec (.cqHeadDoorbell fn slot q v) s = .next t ∧ t.fld Fld.QM_CQ_INDICES.HEAD n = v % 65536) ∧
  (∀ (fn slot q v i n : Nat) (s : State), s.memOn fn = true → (s.fn fn).dstate = 0 → s.pstate ≠ 1 → s.loading = false → s.pageOwner fn slot = some i → s.cqOf i q = some n → (s.fld Fld.QM_CQ_STATUS.FUNC_STATE n = Fn.on ∨ s.fld Fld.QM_CQ_STATUS.FUNC_STATE n = Fn.disabling) → 2 * s.cqSize n ≤ v % 65536 → ∃ t, exec (.cqHeadDoorbell fn slot q v) s = .next t ∧ t.fld Fld.QM_CQ_STATUS.FUNC_STATE n = Fn.error ∧ t.fld Fld.QM_CQ_STATUS.ERR_KIND n = 1 ∧ t.fld Fld.QM_CQ_INDICES.HEAD n = s.fld Fld.QM_CQ_INDICES.HEAD n ∧ t.bit Fld.QM_EVENT.CQ_ERROR = true) ∧
  (∀ (fn slot q v : Nat) (s : State), s.memOn fn = true → (s.fn fn).dstate = 0 → s.pstate ≠ 1 → s.loading = false → s.pageOwner fn slot = none → ∃ t, exec (.sqTailDoorbell fn slot q v) s = .next t ∧ t.bit Fld.QM_EVENT.STRAY_DOORBELL = true ∧ t.q = s.q ∧ keepsBut [(Fld.QM_EVENT.STRAY_DOORBELL, 0)] s t) ∧
  (∀ (n : Nat) (s : State), (s.sqFirst ((s.q.sqTaken.filter s.sqReady).filter fun m => s.sqBound m == 0) = some n) → s.requestFree (s.insFn (s.fld Fld.QM_SQ_CFG.OWNER n)) = true → ∃ t, exec (.sqFetch) s = .next t ∧ t.q.fetching = s.q.fetching ++ [n] ∧ t.q.cmds = s.q.cmds ∧ ∀ m ∈ s.q.sqTaken.filter s.sqReady, t.fld Fld.QM_SQ_STATUS.PAUSE m = s.sqBound m) ∧
  (∀ (n : Nat) (s : State), s.q.sqTaken.filter s.sqReady = [n] → s.sqBound n = 2 → s.fld Fld.QM_SQ_STATUS.PAUSE n = 0 → ∃ t, exec (.sqFetch) s = .next t ∧ t.q.fetching = s.q.fetching ∧ t.fld Fld.QM_SQ_STATUS.PAUSE n = 2 ∧ t.fld Fld.QM_TAG_STALL.COUNT 1 = min (s.fld Fld.QM_TAG_STALL.COUNT 1 + 1) (2 ^ 32 - 1)) ∧
  (∀ (n : Nat) (c : Cmd) (s : State), s.q.fetching.contains n = true → s.fld Fld.QM_SQ_STATUS.FUNC_STATE n = Fn.on → s.sqCount n ≠ 0 → bitAt (ofBytes ((s.sqEntry n (s.fld Fld.QM_SQ_INDICES.HEAD n)).take 2)) 8 = false → c = { sq := n, ins := s.fld Fld.QM_SQ_CFG.OWNER n, head := (s.fld Fld.QM_SQ_INDICES.HEAD n + 1) % (2 * s.sqSize n), bytes := s.sqEntry n (s.fld Fld.QM_SQ_INDICES.HEAD n), stage := .ready } → s.checkEntry c = .ready → ∃ t, exec (.sqEntryReadComplete n) s = .next t ∧ t.q.cmds = s.q.cmds ++ [(s.q.nextTag, c)] ∧ t.q.nextTag = s.q.nextTag + 1 ∧ t.fld Fld.QM_SQ_INDICES.HEAD n = c.head % 65536 ∧ t.q.fetching = s.q.fetching.erase n ∧ t.fld Fld.QM_SQ_STATUS.OUTSTANDING n = min (s.fld Fld.QM_SQ_STATUS.OUTSTANDING n + 1) 511) ∧
  (∀ (n k : Nat) (s : State), s.q.fetching.contains n = true → s.fld Fld.QM_SQ_STATUS.FUNC_STATE n = Fn.on → s.sqCount n ≠ 0 → bitAt (ofBytes ((s.sqEntry n (s.fld Fld.QM_SQ_INDICES.HEAD n)).take 2)) 8 = false → s.checkEntry { sq := n, ins := s.fld Fld.QM_SQ_CFG.OWNER n, head := (s.fld Fld.QM_SQ_INDICES.HEAD n + 1) % (2 * s.sqSize n), bytes := s.sqEntry n (s.fld Fld.QM_SQ_INDICES.HEAD n), stage := .ready } = .fail k → ∃ t, exec (.sqEntryReadComplete n) s = .next t ∧ t.q.nextTag = s.q.nextTag + 1 ∧ t.fld Fld.QM_SQ_INDICES.HEAD n = (s.fld Fld.QM_SQ_INDICES.HEAD n + 1) % (2 * s.sqSize n) % 65536 ∧ t.q.fetching = s.q.fetching.erase n) ∧
  (∀ (n how : Nat) (s : State), s.q.fetching.contains n = true → s.fld Fld.QM_SQ_STATUS.FUNC_STATE n ≠ Fn.error → ∃ t, exec (.sqFetchFault n how) s = .next t ∧ t.fld Fld.QM_SQ_STATUS.FUNC_STATE n = Fn.error ∧ t.fld Fld.QM_SQ_STATUS.ERR_KIND n = 2 ∧ t.fld Fld.QM_SQ_ERR.INDEX n = s.fld Fld.QM_SQ_INDICES.HEAD n % 65536 ∧ t.q.fetching = s.q.fetching.erase n)

/-- QM_SQ_ENABLE and QM_CQ_ENABLE of an indexed queue that is OFF: refused, only CFG_REFUSED is set and the context is taken; else the queue is ENABLING. QM_SQ_DISABLE and QM_CQ_DISABLE of a queue that is ON: it is DISABLING, unless an SQ still uses the CQ, which sets CFG_REFUSED alone. QUEUE_ENABLED of an ENABLING queue: ON with HEAD and TAIL 0. QUEUE_DISABLED of a DISABLING queue with nothing outstanding, held or bound and no enable pending: OFF, its context free. QM_CACHE_INVAL empties the fragment cache. Where the spec leaves a point open, what it says is the model's choice: log entry 14. -/
def Obligations.QueuesAreEnabledAndDisabled : Prop :=
  (∀ (n : Nat) (s : State), n = s.fld Fld.QM_SQ_INDEX.SQ → s.fld Fld.QM_SQ_STATUS.FUNC_STATE n = Fn.off → s.sqRefused n = false → ∃ t, exec (.qmSqEnable) s = .next t ∧ t.fld Fld.QM_SQ_STATUS.FUNC_STATE n = Fn.enabling ∧ t.bit Fld.QM_SQ_CTRL.ENABLE n = true ∧ n ∈ t.q.sqTaken ∧ keepsBut [(Fld.QM_SQ_CTRL.ENABLE, n), (Fld.QM_SQ_STATUS.FUNC_STATE, n), (Fld.QM_SQ_STATUS.ERR_KIND, n), (Fld.QM_SQ_STATUS.PENDING_ENABLE, n)] s t) ∧
  (∀ (n : Nat) (s : State), n = s.fld Fld.QM_SQ_INDEX.SQ → s.fld Fld.QM_SQ_STATUS.FUNC_STATE n = Fn.off → s.sqRefused n = true → ∃ t, exec (.qmSqEnable) s = .next t ∧ t.bit Fld.QM_EVENT.CFG_REFUSED = true ∧ keepsBut [(Fld.QM_EVENT.CFG_REFUSED, 0)] s t) ∧
  (∀ (n : Nat) (s : State), n = s.fld Fld.QM_SQ_INDEX.SQ → s.fld Fld.QM_SQ_STATUS.FUNC_STATE n = Fn.on → ∃ t, exec (.qmSqDisable) s = .next t ∧ t.fld Fld.QM_SQ_STATUS.FUNC_STATE n = Fn.disabling ∧ t.bit Fld.QM_SQ_CTRL.ENABLE n = false ∧ t.q = s.q ∧ keepsBut [(Fld.QM_SQ_CTRL.ENABLE, n), (Fld.QM_SQ_STATUS.FUNC_STATE, n), (Fld.QM_SQ_STATUS.PENDING_ENABLE, n)] s t) ∧
  (∀ (n : Nat) (s : State), n = s.fld Fld.QM_CQ_INDEX.CQ → s.fld Fld.QM_CQ_STATUS.FUNC_STATE n = Fn.off → s.cqRefused n = false → ∃ t, exec (.qmCqEnable) s = .next t ∧ t.fld Fld.QM_CQ_STATUS.FUNC_STATE n = Fn.enabling ∧ t.bit Fld.QM_CQ_CTRL.ENABLE n = true ∧ t.fld Fld.QM_CQ_STATUS.DISCARDED n = 0 ∧ n ∈ t.q.cqTaken) ∧
  (∀ (n : Nat) (s : State), n = s.fld Fld.QM_CQ_INDEX.CQ → s.fld Fld.QM_CQ_STATUS.FUNC_STATE n = Fn.on → s.cqBound n = false → ∃ t, exec (.qmCqDisable) s = .next t ∧ t.fld Fld.QM_CQ_STATUS.FUNC_STATE n = Fn.disabling ∧ t.bit Fld.QM_CQ_CTRL.ENABLE n = false ∧ keepsBut [(Fld.QM_CQ_CTRL.ENABLE, n), (Fld.QM_CQ_STATUS.FUNC_STATE, n)] s t) ∧
  (∀ (n : Nat) (s : State), n = s.fld Fld.QM_CQ_INDEX.CQ → s.fld Fld.QM_CQ_STATUS.FUNC_STATE n = Fn.on → s.cqBound n = true → ∃ t, exec (.qmCqDisable) s = .next t ∧ t.bit Fld.QM_EVENT.CFG_REFUSED = true ∧ keepsBut [(Fld.QM_EVENT.CFG_REFUSED, 0)] s t) ∧
  (∀ (n : Nat) (s : State), s.fld Fld.QM_SQ_STATUS.FUNC_STATE n = Fn.enabling → ∃ t, exec (.queueEnabled false n) s = .next t ∧ t.fld Fld.QM_SQ_STATUS.FUNC_STATE n = Fn.on ∧ t.fld Fld.QM_SQ_INDICES.HEAD n = 0 ∧ t.fld Fld.QM_SQ_INDICES.TAIL n = 0) ∧
  (∀ (n : Nat) (s : State), s.fld Fld.QM_CQ_STATUS.FUNC_STATE n = Fn.enabling → s.waiting 0x03 n = [] → s.fld Fld.QM_CQ_CFG.Q n ≠ 0 → ∃ t, exec (.queueEnabled true n) s = .next t ∧ t.fld Fld.QM_CQ_STATUS.FUNC_STATE n = Fn.on ∧ t.fld Fld.QM_CQ_INDICES.HEAD n = 0 ∧ t.fld Fld.QM_CQ_INDICES.TAIL n = 0) ∧
  (∀ (n : Nat) (s : State), s.fld Fld.QM_SQ_STATUS.FUNC_STATE n = Fn.disabling → (∀ e ∈ s.q.cmds, e.2.sq ≠ n) → s.bit Fld.QM_SQ_STATUS.PENDING_ENABLE n = false → ∃ t, exec (.queueDisabled false n) s = .next t ∧ t.fld Fld.QM_SQ_STATUS.FUNC_STATE n = Fn.off ∧ t.q.sqTaken = s.q.sqTaken.erase n) ∧
  (∀ (n : Nat) (s : State), s.fld Fld.QM_CQ_STATUS.FUNC_STATE n = Fn.disabling → s.heldFor n = 0 → s.cqBound n = false → s.bit Fld.QM_CQ_STATUS.PENDING_ENABLE n = false → ∃ t, exec (.queueDisabled true n) s = .next t ∧ t.fld Fld.QM_CQ_STATUS.FUNC_STATE n = Fn.off ∧ t.q.cqTaken = s.q.cqTaken.erase n) ∧
  (∀ (i : Nat) (s : State), ∃ t, exec (.qmCacheInval true i) s = .next t ∧ t.q.fragCache = [] ∧ t.q.cmds = s.q.cmds ∧ keepsBut [] s t)

/-- Of a fetched command whose step may run and whose completion can leave: NOP reports SUCCESS, and where its completion goes straight into the ring no byte of host memory outside the entry changes. CREATE_SQ and CREATE_CQ with good fields take the lowest free context, which becomes ENABLING with the owner, number, size and base the entry gives, and run until it is ON. DELETE_SQ and DELETE_CQ of a queue that is ON (a CQ no SQ uses) make it DISABLING and run until it is OFF. WAIT_IDLE of an idle instance reports SUCCESS, of another it runs; WAIT_IDLE_TIMEOUT ends it. INVALIDATE drops the issuer's cached tables and reports SUCCESS. Where the spec leaves a point open, what it says is the model's choice: log entries 14 and 15. -/
def Obligations.QueueManagementCommands : Prop :=
  (∀ (tag : Nat) (s : State) (c : Cmd), s.startable tag 0x00 = some c → s.takesCompletion c = true → ∃ t, exec (.nop tag) s = .next t ∧ t.cmd tag = none ∧ s.reports t c St.success = true ∧ (∀ q, s.cqOf c.ins (s.fld Fld.QM_SQ_CFG.CQ c.sq) = some q → s.straight c q = true →
     hostKept (s.cqBase q + 16 * (s.fld Fld.QM_CQ_INDICES.TAIL q % s.cqSize q)) 16 s t)) ∧
  (∀ (tag : Nat) (s : State) (c : Cmd) (d n : Nat), s.startable tag 0x01 = some c → c.at 4 1 ≠ 0 → 4 ≤ bitsAt (c.at 6 1) 0 4 → c.at 8 8 % 4096 = 0 → s.cqOf c.ins (c.at 5 1) = some d → s.fld Fld.QM_CQ_STATUS.FUNC_STATE d = Fn.on → s.sqOf c.ins (c.at 4 1) = none → freeContext s.q.sqTaken = some n → ∃ t, exec (.createSq tag) s = .next t ∧ t.stageOf tag = some .running ∧ t.fld Fld.QM_SQ_STATUS.FUNC_STATE n = Fn.enabling ∧ t.fld Fld.QM_SQ_CFG.OWNER n = c.ins % 4096 ∧ t.fld Fld.QM_SQ_CFG.Q n = c.at 4 1 ∧ t.fld Fld.QM_SQ_CFG.CQ n = c.at 5 1 ∧ t.fld Fld.QM_SQ_CFG.SIZE_LOG n = bitsAt (c.at 6 1) 0 4 ∧ t.sqBase n = c.at 8 8 ∧ n ∈ t.q.sqTaken) ∧
  (∀ (tag : Nat) (s : State) (c : Cmd) (n : Nat), s.startable tag 0x02 = some c → c.at 4 1 ≠ 0 → s.sqOf c.ins (c.at 4 1) = some n → s.fld Fld.QM_SQ_STATUS.FUNC_STATE n = Fn.on → ∃ t, exec (.deleteSq tag) s = .next t ∧ t.stageOf tag = some .running ∧ t.fld Fld.QM_SQ_STATUS.FUNC_STATE n = Fn.disabling ∧ t.bit Fld.QM_SQ_CTRL.ENABLE n = false) ∧
  (∀ (tag : Nat) (s : State) (c : Cmd) (n : Nat), s.startable tag 0x03 = some c → c.at 4 1 ≠ 0 → 4 ≤ bitsAt (c.at 6 1) 0 4 → c.at 8 8 % 4096 = 0 → s.vecInRange c.ins (c.at 16 2) = true → c.at 16 2 ≤ 2047 → s.cqOf c.ins (c.at 4 1) = none → freeContext s.q.cqTaken = some n → ∃ t, exec (.createCq tag) s = .next t ∧ t.stageOf tag = some .running ∧ t.fld Fld.QM_CQ_STATUS.FUNC_STATE n = Fn.enabling ∧ t.fld Fld.QM_CQ_CFG.OWNER n = c.ins % 4096 ∧ t.fld Fld.QM_CQ_CFG.Q n = c.at 4 1 ∧ t.fld Fld.QM_CQ_CFG.SIZE_LOG n = bitsAt (c.at 6 1) 0 4 ∧ t.fld Fld.QM_CQ_CTRL.VECTOR n = c.at 16 2 ∧ t.cqBase n = c.at 8 8 ∧ n ∈ t.q.cqTaken) ∧
  (∀ (tag : Nat) (s : State) (c : Cmd) (n : Nat), s.startable tag 0x04 = some c → c.at 4 1 ≠ 0 → s.cqOf c.ins (c.at 4 1) = some n → s.cqBound n = false → s.fld Fld.QM_CQ_STATUS.FUNC_STATE n = Fn.on → ∃ t, exec (.deleteCq tag) s = .next t ∧ t.stageOf tag = some .running ∧ t.fld Fld.QM_CQ_STATUS.FUNC_STATE n = Fn.disabling ∧ t.bit Fld.QM_CQ_CTRL.ENABLE n = false) ∧
  (∀ (tag : Nat) (s : State) (c : Cmd), s.startable tag 0x05 = some c → s.outstanding (c.at 4 2) tag = 0 → s.heldOf (c.at 4 2) = 0 → s.takesCompletion c = true → ∃ t, exec (.waitIdle tag) s = .next t ∧ t.cmd tag = none ∧ s.reports t c St.success = true) ∧
  (∀ (tag : Nat) (s : State) (c : Cmd), s.startable tag 0x05 = some c → (s.outstanding (c.at 4 2) tag ≠ 0 ∨ s.heldOf (c.at 4 2) ≠ 0) → ∃ t, exec (.waitIdle tag) s = .next t ∧ t.stageOf tag = some .running) ∧
  (∀ (tag : Nat) (c : Cmd) (s : State), s.cmd tag = some c → c.opcode = 0x05 → c.stage = .running → c.at 8 4 ≠ 0 → s.takesCompletion c = true → s.reaches (c.progress + c.at 8 4 * 1000000) = true → ∃ t, exec (.waitIdleTimeout tag) s = .next t ∧ t.cmd tag = none) ∧
  (∀ (tag : Nat) (s : State) (c : Cmd), s.startable tag 0x06 = some c → c.at 4 1 ≠ 0 → s.takesCompletion c = true → ∃ t, exec (.invalidate tag) s = .next t ∧ t.cmd tag = none ∧ s.reports t c St.success = true ∧ (∀ e ∈ t.q.fragCache, e.1 / 2 ^ 64 ≠ c.ins)) ∧
  (∀ (tag : Nat) (s : State) (c : Cmd), s.startable tag 0x06 = some c → c.at 4 1 = 0 → s.takesCompletion c = true → ∃ t, exec (.invalidate tag) s = .next t ∧ t.cmd tag = none ∧ s.reports t c St.success = true ∧ (∀ e ∈ t.q.fragCache, e.1 ≠ fragKey c.ins (c.at 8 8)))

/-- With no COMMIT pending and no replay under way: CHT_COMMIT of a valid shadow is accepted (PENDING, due 1,000 ns on while stopped), of an invalid one refused (COMMIT_REFUSED and the event, EDIT_OPEN kept); CHT_EDIT_OPEN opens the edit; CHT_EDIT_CLOSE of an open edit closes it, N returns to the one in force and the replay starts. REPLAY_DONE during a replay makes the shadow equal to the active bank. CHT_RUN = 1 while no tick runs plans the first meridian at least 2,048 ns ahead (with MERID_ALIGN 0); CHT_RUN = 0 clears RUN and leaves RUNNING. With the edit open, no COMMIT pending and no replay: SHADOW_WRITE of a word sets that word of the shadow entry, of N or of a reserve sets the field, and SHADOW_VALID then says what the check of the new shadow says; the active bank stays. SAFE_VALUE_WRITE of a word below PAYLOAD sets its bytes below PAYLOAD and no others. With the edit closed and no COMMIT pending or replay, SHADOW_WRITE sets EDIT_CLOSED alone. Where the spec leaves a point open, what it says is the model's choice: log entries 17 and 18. -/
def Obligations.TheShadowIsEditedAndCommitted : Prop :=
  (∀ (s : State), s.bit Fld.CHT_STATUS.PENDING = false → s.bit Fld.CHT_STATUS.REPLAYING = false → s.bit Fld.CHT_STATUS.SHADOW_VALID = true → ∃ t, exec (.chtCommit) s = .next t ∧ t.bit Fld.CHT_STATUS.PENDING = true ∧ t.chart.commitTag = none ∧ t.chart.dueNs = s.chr.ns + 1000 ∧ keepsBut [(Fld.CHT_STATUS.PENDING, 0)] s t) ∧
  (∀ (s : State), s.bit Fld.CHT_STATUS.PENDING = false → s.bit Fld.CHT_STATUS.REPLAYING = false → s.bit Fld.CHT_STATUS.SHADOW_VALID = false → ∃ t, exec (.chtCommit) s = .next t ∧ t.bit Fld.CHT_STATUS.PENDING = false ∧ t.bit Fld.CHT_STATUS.COMMIT_REFUSED = true ∧ t.bit Fld.CHT_EVENT.REFUSED = true ∧ t.fld Fld.CHT_CTRL.EDIT_OPEN = s.fld Fld.CHT_CTRL.EDIT_OPEN ∧ t.fld Fld.CHT_STATUS.ACTIVE_BANK = s.fld Fld.CHT_STATUS.ACTIVE_BANK) ∧
  (∀ (s : State), s.bit Fld.CHT_STATUS.PENDING = false → s.bit Fld.CHT_STATUS.REPLAYING = false → ∃ t, exec (.chtEditOpen) s = .next t ∧ t.bit Fld.CHT_CTRL.EDIT_OPEN = true ∧ t.chart = s.chart ∧ keepsBut [(Fld.CHT_CTRL.EDIT_OPEN, 0)] s t) ∧
  (∀ (s : State), s.bit Fld.CHT_STATUS.PENDING = true → s.bit Fld.CHT_STATUS.REPLAYING = false → s.bit Fld.CHT_CTRL.EDIT_OPEN = false → ∃ t, exec (.chtEditOpen) s = .next t ∧ t.bit Fld.CHT_STATUS.SHADOW_BUSY = true ∧ keepsBut [(Fld.CHT_STATUS.SHADOW_BUSY, 0)] s t) ∧
  (∀ (s : State), s.bit Fld.CHT_STATUS.PENDING = false → s.bit Fld.CHT_STATUS.REPLAYING = false → s.bit Fld.CHT_CTRL.EDIT_OPEN = true → ∃ t, exec (.chtEditClose) s = .next t ∧ t.bit Fld.CHT_CTRL.EDIT_OPEN = false ∧ t.bit Fld.CHT_STATUS.REPLAYING = true ∧ t.fld Fld.CHT_TICK_LEN.N = s.fld Fld.CHT_TICK_LEN.ACTIVE_N % 2 ^ 15 ∧ t.chart = { s.chart with replayEnd := s.chr.ns + s.changedEntries }) ∧
  (∀ (s : State), s.bit Fld.CHT_STATUS.REPLAYING = true → s.reaches s.chart.replayEnd = true → ∃ t, exec (.replayDone) s = .next t ∧ t.bit Fld.CHT_STATUS.REPLAYING = false ∧ t.bank t.shadowIdx = s.bank s.activeIdx ∧ t.safes t.shadowIdx = s.safes s.activeIdx ∧ t.bank t.activeIdx = s.bank s.activeIdx) ∧
  (∀ (s : State), s.bit Fld.CHT_STATUS.RUNNING = false → s.chr.runDue = false → s.standby = false → s.bit Fld.CHR_CTRL.MERID_ALIGN = false → (s.chr.wakeFix = false ∨ s.linksFixed = true) → ∃ t, exec (.chtRun true) s = .next t ∧ t.bit Fld.CHT_CTRL.RUN = true ∧ t.chr.runDue = true ∧ s.chr.ns + 2048 ≤ t.chr.dueNs ∧ t.chr.ns = s.chr.ns ∧ keepsBut [(Fld.CHT_CTRL.RUN, 0)] s t) ∧
  (∀ (s : State), s.standby = false → ∃ t, exec (.chtRun false) s = .next t ∧ t.bit Fld.CHT_CTRL.RUN = false ∧ t.chr.runDue = false ∧ keepsBut [(Fld.CHT_CTRL.RUN, 0)] s t) ∧
  (∀ (idx word v : Nat) (s : State), s.bit Fld.CHT_CTRL.EDIT_OPEN = true → s.bit Fld.CHT_STATUS.PENDING = false → s.bit Fld.CHT_STATUS.REPLAYING = false → idx < 16384 → word < 4 → ∃ t, exec (.shadowWrite 0 idx word v) s = .next t ∧ t.shadowEntry idx = (s.shadowEntry idx).setWord word (v % 2 ^ 32) ∧ t.bank t.activeIdx = s.bank s.activeIdx ∧ t.bit Fld.CHT_STATUS.SHADOW_VALID = decide ((t.checkChart (t.bank t.shadowIdx) (t.fld Fld.CHT_TICK_LEN.N)).1 = 0)) ∧
  (∀ (idx word v : Nat) (s : State), s.bit Fld.CHT_CTRL.EDIT_OPEN = true → s.bit Fld.CHT_STATUS.PENDING = false → s.bit Fld.CHT_STATUS.REPLAYING = false → ∃ t, exec (.shadowWrite 1 idx word v) s = .next t ∧ t.fld Fld.CHT_TICK_LEN.N = v % 2 ^ 15 ∧ t.fld Fld.CHT_TICK_LEN.ACTIVE_N = s.fld Fld.CHT_TICK_LEN.ACTIVE_N ∧ t.bit Fld.CHT_STATUS.SHADOW_VALID = decide ((t.checkChart (t.bank t.shadowIdx) (t.fld Fld.CHT_TICK_LEN.N)).1 = 0)) ∧
  (∀ (idx word v : Nat) (s : State), s.bit Fld.CHT_CTRL.EDIT_OPEN = true → s.bit Fld.CHT_STATUS.PENDING = false → s.bit Fld.CHT_STATUS.REPLAYING = false → idx < 16 → ∃ t, exec (.shadowWrite 2 idx word v) s = .next t ∧ t.fld Fld.CHT_RESERVE.PERCENT idx = v % 2 ^ 7) ∧
  (∀ (idx word v : Nat) (s : State), s.bit Fld.CHT_CTRL.EDIT_OPEN = false → s.bit Fld.CHT_STATUS.PENDING = false → s.bit Fld.CHT_STATUS.REPLAYING = false → ∃ t, exec (.shadowWrite 0 idx word v) s = .next t ∧ t.bit Fld.CHT_STATUS.EDIT_CLOSED = true ∧ t.chart = s.chart ∧ keepsBut [(Fld.CHT_STATUS.EDIT_CLOSED, 0)] s t) ∧
  (∀ (off v i : Nat) (s : State), s.bit Fld.CHT_CTRL.EDIT_OPEN = true → s.bit Fld.CHT_STATUS.PENDING = false → s.bit Fld.CHT_STATUS.REPLAYING = false → i = s.fld Fld.GBL_WIN_SAFE.ENTRY → s.bit Fld.GBL_WIN_SAFE.BANK = false → off % 4 = 0 → off + 4 ≤ 1024 → off < (s.shadowEntry i).payload → ∃ t, exec (.safeValueWrite off v) s = .next t ∧ ∀ k < (s.shadowEntry i).payload, (safeValue (t.safes t.shadowIdx) i (s.shadowEntry i).payload)[k]? = (if off ≤ k ∧ k < off + 4 then some (byteOf v (k - off)) else (safeValue (s.safes s.shadowIdx) i (s.shadowEntry i).payload)[k]?))

/-- Of a fetched CHART_EDIT whose step may run, with no COMMIT pending and no replay: OPEN opens the edit and DISCARD closes it and starts the replay, both with SUCCESS. With the edit open WRITE_ENTRY, WRITE_SAFE, SET_N and SET_RESERVE write the entry, the safe value read from memory, N or a reserve, and complete with SUCCESS and the word of CHT_CHECK; with the edit closed they set EDIT_CLOSED and complete with BAD_ENTRY. COMMIT of a valid shadow waits for its hand-over; of an invalid one it completes with BAD_ENTRY. While a COMMIT is pending each completes with SHADOW_BUSY. A fetched ADMIT whose safe value can be read, and a fetched RELEASE, run and join the requests that wait; an ADMIT whose function cannot read its safe value completes with DMA_READ_FAULT. ADMIT_BATCH, while admission is enabled, the edit is closed and no COMMIT is pending or replay under way, takes every request: of a single RELEASE of an issuer's own leg, either the leg is gone from the shadow and the COMMIT is pending with the batch busy, or the COMMIT was refused. Where the spec leaves a point open, what it says is the model's choice: log entry 18. -/
def Obligations.ChartEditAndAdmissionCommands : Prop :=
  (∀ (tag : Nat) (s : State) (c : Cmd), s.startable tag 0x12 = some c → c.at 4 1 = 0 → s.bit Fld.CHT_STATUS.PENDING = false → s.bit Fld.CHT_STATUS.REPLAYING = false → s.takesCompletion c = true → ∃ t, exec (.chartEditOpen tag) s = .next t ∧ t.cmd tag = none ∧ s.reports t c St.success = true ∧ t.bit Fld.CHT_CTRL.EDIT_OPEN = true ∧ t.chart = s.chart) ∧
  (∀ (tag : Nat) (s : State) (c : Cmd), s.startable tag 0x12 = some c → c.at 4 1 = 3 → s.bit Fld.CHT_CTRL.EDIT_OPEN = true → s.bit Fld.CHT_STATUS.PENDING = false → s.bit Fld.CHT_STATUS.REPLAYING = false → s.takesCompletion c = true → ∃ t, exec (.chartEditDiscard tag) s = .next t ∧ t.cmd tag = none ∧ s.reports t c St.success = true ∧ t.bit Fld.CHT_CTRL.EDIT_OPEN = false ∧ t.bit Fld.CHT_STATUS.REPLAYING = true ∧ t.fld Fld.CHT_TICK_LEN.N = s.fld Fld.CHT_TICK_LEN.ACTIVE_N % 2 ^ 15) ∧
  (∀ (tag : Nat) (s : State) (c : Cmd), s.startable tag 0x12 = some c → c.at 4 1 = 1 → c.at 8 2 < 16384 → s.bit Fld.CHT_CTRL.EDIT_OPEN = true → s.bit Fld.CHT_STATUS.PENDING = false → s.bit Fld.CHT_STATUS.REPLAYING = false → s.takesCompletion c = true → ∃ t, exec (.chartEditWriteEntry tag) s = .next t ∧ t.cmd tag = none ∧ s.reports t c St.success t.checkWord = true ∧ t.shadowEntry (c.at 8 2) = c.entry ∧ t.bank t.activeIdx = s.bank s.activeIdx) ∧
  (∀ (tag : Nat) (s : State) (c : Cmd), s.startable tag 0x12 = some c → c.at 4 1 = 1 → c.at 8 2 < 16384 → s.bit Fld.CHT_CTRL.EDIT_OPEN = false → s.bit Fld.CHT_STATUS.PENDING = false → s.bit Fld.CHT_STATUS.REPLAYING = false → s.takesCompletion c = true → ∃ t, exec (.chartEditWriteEntry tag) s = .next t ∧ t.cmd tag = none ∧ s.reports t c St.badEntry = true ∧ t.bit Fld.CHT_STATUS.EDIT_CLOSED = true ∧ t.chart = s.chart) ∧
  (∀ (tag : Nat) (s : State) (c : Cmd), s.startable tag 0x12 = some c → c.at 4 1 = 2 → c.at 8 2 < 16384 → s.canIssue (s.insFn c.ins) = true → s.bit Fld.CHT_CTRL.EDIT_OPEN = true → s.bit Fld.CHT_STATUS.PENDING = false → s.bit Fld.CHT_STATUS.REPLAYING = false → s.takesCompletion c = true → ∃ t, exec (.chartEditWriteSafe tag) s = .next t ∧ t.cmd tag = none ∧ s.reports t c St.success t.checkWord = true ∧ tget [] (t.safes t.shadowIdx) (c.at 8 2) = readBytes memDefault s.host (c.at 40 8) (s.shadowEntry (c.at 8 2)).payload) ∧
  (∀ (tag : Nat) (s : State) (c : Cmd), s.startable tag 0x12 = some c → c.at 4 1 = 5 → c.at 12 2 < 2 ^ 15 → s.bit Fld.CHT_CTRL.EDIT_OPEN = true → s.bit Fld.CHT_STATUS.PENDING = false → s.bit Fld.CHT_STATUS.REPLAYING = false → s.takesCompletion c = true → ∃ t, exec (.chartEditSetN tag) s = .next t ∧ t.cmd tag = none ∧ s.reports t c St.success t.checkWord = true ∧ t.fld Fld.CHT_TICK_LEN.N = c.at 12 2) ∧
  (∀ (tag : Nat) (s : State) (c : Cmd), s.startable tag 0x12 = some c → c.at 4 1 = 6 → c.at 5 1 < 16 → c.at 6 1 < 128 → s.bit Fld.CHT_CTRL.EDIT_OPEN = true → s.bit Fld.CHT_STATUS.PENDING = false → s.bit Fld.CHT_STATUS.REPLAYING = false → s.takesCompletion c = true → ∃ t, exec (.chartEditSetReserve tag) s = .next t ∧ t.cmd tag = none ∧ s.reports t c St.success t.checkWord = true ∧ t.fld Fld.CHT_RESERVE.PERCENT (c.at 5 1) = c.at 6 1) ∧
  (∀ (tag : Nat) (s : State) (c : Cmd), s.startable tag 0x12 = some c → c.at 4 1 = 4 → s.bit Fld.CHT_STATUS.SHADOW_VALID = true → s.bit Fld.CHT_STATUS.PENDING = false → s.bit Fld.CHT_STATUS.REPLAYING = false → ∃ t, exec (.chartEditCommit tag) s = .next t ∧ t.stageOf tag = some .running ∧ t.bit Fld.CHT_STATUS.PENDING = true ∧ t.chart.commitTag = some tag) ∧
  (∀ (tag : Nat) (s : State) (c : Cmd), s.startable tag 0x12 = some c → c.at 4 1 = 4 → s.bit Fld.CHT_STATUS.SHADOW_VALID = false → s.chart.admitBatch = [] → s.bit Fld.CHT_STATUS.PENDING = false → s.bit Fld.CHT_STATUS.REPLAYING = false → s.takesCompletion c = true → ∃ t, exec (.chartEditCommit tag) s = .next t ∧ t.cmd tag = none ∧ s.reports t c St.badEntry s.checkWord = true ∧ t.bit Fld.CHT_STATUS.PENDING = false ∧ t.bit Fld.CHT_STATUS.COMMIT_REFUSED = true) ∧
  (∀ (tag : Nat) (s : State) (c : Cmd), s.startable tag 0x12 = some c → c.at 4 1 = 5 → s.bit Fld.CHT_STATUS.PENDING = true → s.bit Fld.CHT_STATUS.REPLAYING = false → s.takesCompletion c = true → ∃ t, exec (.chartEditSetN tag) s = .next t ∧ t.cmd tag = none ∧ s.reports t c St.shadowBusy = true ∧ t.chart = s.chart ∧ t.fld Fld.CHT_TICK_LEN.N = s.fld Fld.CHT_TICK_LEN.N) ∧
  (∀ (tag : Nat) (s : State) (c : Cmd), s.startable tag 0x10 = some c → (c.at 40 8 = 0 ∨ s.canIssue (s.insFn c.ins) = true) → ∃ t, exec (.admitLeg tag) s = .next t ∧ t.stageOf tag = some .running ∧ t.chart.admitWait = s.chart.admitWait ++ [tag] ∧ t.fld Fld.CHT_ADMIT.WAITING = min 8191 (s.chart.admitWait.length + 1)) ∧
  (∀ (tag : Nat) (s : State) (c : Cmd), s.startable tag 0x10 = some c → c.at 40 8 ≠ 0 → s.canIssue (s.insFn c.ins) = false → s.takesCompletion c = true → ∃ t, exec (.admitLeg tag) s = .next t ∧ t.cmd tag = none ∧ s.reports t c St.dmaReadFault = true ∧ t.chart = s.chart) ∧
  (∀ (tag : Nat) (s : State) (c : Cmd), s.startable tag 0x11 = some c → ∃ t, exec (.release tag) s = .next t ∧ t.stageOf tag = some .running ∧ t.chart.admitWait = s.chart.admitWait ++ [tag]) ∧
  (∀ (tag : Nat) (c : Cmd) (s : State), s.bit Fld.CHT_CTRL.ADMIT_EN = true → s.bit Fld.CHT_CTRL.EDIT_OPEN = false → s.bit Fld.CHT_STATUS.PENDING = false → s.bit Fld.CHT_STATUS.REPLAYING = false → s.chart.admitWait = [tag] → s.chart.admitBatch = [] → tag < 2 ^ 40 → s.cmd tag = some c → c.opcode = 0x11 → (s.shadowEntry (c.at 8 2)).valid = true → (s.shadowEntry (c.at 8 2)).owner = c.ins → ∃ t, exec (.admitBatch) s = .next t ∧ t.chart.admitWait = [] ∧ t.fld Fld.CHT_ADMIT.WAITING = 0 ∧ ((t.bit Fld.CHT_STATUS.PENDING = true ∧ t.bit Fld.CHT_ADMIT.BUSY = true ∧ t.shadowEntry (c.at 8 2) = {} ∧ t.chart.admitBatch = [tag]) ∨ t.bit Fld.CHT_STATUS.COMMIT_REFUSED = true))

/-- CHR_TIME_SNAPSHOT latches the value, the fraction and the tick number of one instant and changes nothing else. CHR_RATE_TRIM_WRITE sets the trim clamped to 100 ppm, and changes nothing while the servo is enabled with a reference configured. CHR_COMMIT with none pending is pending, due 1,000 ns on while stopped. BEARING_ASYM_WRITE sets the asymmetry of a bearing and nothing else of it. Where the spec leaves a point open, what it says is the model's choice: log entry 11. -/
def Obligations.TheChronometerRegisters : Prop :=
  (∀ (s : State), ∃ t, exec (.chrTimeSnapshot) s = .next t ∧ t.fld Fld.CHR_TIME_LO.NS_LO = s.chron % 2 ^ 32 ∧ t.fld Fld.CHR_TIME_HI.NS_HI = s.chron / 2 ^ 32 % 2 ^ 32 ∧ t.fld Fld.CHR_TIME_FRAC.FRAC = s.chr.frac % 2 ^ 16 ∧ t.fld Fld.CHR_TICK_LO.TICK_LO = s.chr.tick % 2 ^ 32 ∧ t.fld Fld.CHR_TICK_HI.TICK_HI = s.chr.tick / 2 ^ 32 % 2 ^ 32 ∧ t.chr = s.chr ∧ keepsBut [(Fld.CHR_TIME_LO.NS_LO, 0), (Fld.CHR_TIME_HI.NS_HI, 0), (Fld.CHR_TIME_FRAC.FRAC, 0), (Fld.CHR_TICK_LO.TICK_LO, 0), (Fld.CHR_TICK_HI.TICK_HI, 0)] s t) ∧
  (∀ (v : Nat) (s : State), (s.bit Fld.CHR_CTRL.SERVO_EN && s.reference) = false → ∃ t, exec (.chrRateTrimWrite v) s = .next t ∧ signedOf (t.fld Fld.CHR_RATE_TRIM.TRIM) 32 = max (-429497) (min 429497 (signedOf v 32)) ∧ keepsBut [(Fld.CHR_RATE_TRIM.TRIM, 0)] s t) ∧
  (∀ (v : Nat) (s : State), s.bit Fld.CHR_CTRL.SERVO_EN = true → s.reference = true → ∃ t, exec (.chrRateTrimWrite v) s = .next t ∧ t.chr = s.chr ∧ keepsBut [] s t) ∧
  (∀ (s : State), s.bit Fld.CHR_COMMIT.PENDING = false → ∃ t, exec (.chrCommit) s = .next t ∧ t.bit Fld.CHR_COMMIT.PENDING = true ∧ t.chr.stepDueNs = s.chr.ns + 1000 ∧ keepsBut [(Fld.CHR_COMMIT.PENDING, 0)] s t) ∧
  (∀ (a v : Nat) (s : State), a < 4096 → ∃ t, exec (.bearingAsymWrite a v) s = .next t ∧ t.bearing a = { s.bearing a with asym := signedOf v 16 } ∧ keepsBut [] s t)

/-- TIME_IN_EDGE with PPS disciplining and no spread spectrum keeps the edge's timestamp: while LOCKED an edge further than WINDOW sets PPS_OUTLIER alone; while ACQUIRING the eighth edge in a row within 100 ns locks, shows its error, and DEGRADED and EST_NS are 0. With PPS disciplining off the edge is timestamped and nothing else changes. PPS_MISSED and SYNC_PERIOD_MISSED: the second in a row enters DEAD_RECKONING and holds the ratio; the first leaves the state and ends the run of good edges. HOLDOVER_SECOND in dead reckoning, a second after the last, adds PPB to EST_NS, and at LIMIT_NS sets DEGRADED. Where the spec leaves a point open, what it says is the model's choice: log entries 25 and 26. -/
def Obligations.TheReferenceLocksAndIsLost : Prop :=
  (∀ (t8 : Nat) (s : State), s.ppsOn = true → s.role ≠ 2 → s.bit Fld.CHR_STATUS.SSC_ACTIVE = false → s.reachesFine (65536 * s.whenChron (t8 / 256) + t8 % 256 * 256) = true → s.fld Fld.CHR_STATUS.TIME_STATE = 2 → max 1 (s.fld Fld.CHR_PPS_CFG.WINDOW) * 256 < (ppsError t8 (signedOf (s.fld Fld.CHR_PPS_OFFSET.OFFSET) 32)).natAbs → ∃ t, exec (.timeInEdge t8) s = .next t ∧ t.bit Fld.CHR_STATUS.PPS_OUTLIER = true ∧ t.chr.timeInAt = some t8 ∧ keepsBut [(Fld.CHR_STATUS.PPS_OUTLIER, 0)] s t) ∧
  (∀ (t8 : Nat) (s : State), s.ppsOn = false → s.reachesFine (65536 * s.whenChron (t8 / 256) + t8 % 256 * 256) = true → ∃ t, exec (.timeInEdge t8) s = .next t ∧ t.chr.timeInAt = some t8 ∧ keepsBut [] s t) ∧
  (∀ (t8 : Nat) (s : State), s.ppsOn = true → s.role ≠ 2 → s.bit Fld.CHR_STATUS.SSC_ACTIVE = false → s.reachesFine (65536 * s.whenChron (t8 / 256) + t8 % 256 * 256) = true → s.fld Fld.CHR_STATUS.TIME_STATE = 1 → 7 ≤ s.chr.goodRun → s.chr.stepTick ≠ some s.chr.tick → (ppsError t8 (signedOf (s.fld Fld.CHR_PPS_OFFSET.OFFSET) 32)).natAbs < 25600 → ∃ t, exec (.timeInEdge t8) s = .next t ∧ t.fld Fld.CHR_STATUS.TIME_STATE = 2 ∧ t.fld Fld.CHR_HOLDOVER.EST_NS = 0 ∧ t.bit Fld.CHR_STATUS.DEGRADED = false ∧ t.fld Fld.CHR_PPS_ERROR.ERROR = encodeSigned (saturateSigned (ppsError t8 (signedOf (s.fld Fld.CHR_PPS_OFFSET.OFFSET) 32)) 32) 32 ∧ t.chr.missRun = 0) ∧
  (∀ (s : State), s.ppsOn = true → s.role ≠ 2 → s.fld Fld.CHR_STATUS.TIME_STATE = 2 → s.chr.missRun = 0 → ∃ t, exec (.ppsMissed) s = .next t ∧ t.fld Fld.CHR_STATUS.TIME_STATE = 2 ∧ t.bit Fld.CHR_STATUS.PPS_MISSED = true ∧ t.chr = { s.chr with missRun := 1, goodRun := 0 } ∧ keepsBut [(Fld.CHR_STATUS.PPS_MISSED, 0)] s t) ∧
  (∀ (s : State), s.ppsOn = true → s.role ≠ 2 → s.fld Fld.CHR_STATUS.TIME_STATE = 2 → 1 ≤ s.chr.missRun → ∃ t, exec (.ppsMissed) s = .next t ∧ t.fld Fld.CHR_STATUS.TIME_STATE = 3 ∧ t.chr.heldRatio = s.heldTrim (Config.freeValue s.free % 2 ^ 64) ∧ t.free = s.free + 1 ∧ t.chr.drReason = 1 ∧ t.chr.holdAt = s.chr.ns) ∧
  (∀ (s : State), s.role = 2 → s.chr.syncSeen = true → (s.fld Fld.CHR_STATUS.TIME_STATE = 1 ∨ s.fld Fld.CHR_STATUS.TIME_STATE = 2) → 1 ≤ s.chr.missRun → ∃ t, exec (.syncPeriodMissed) s = .next t ∧ t.fld Fld.CHR_STATUS.TIME_STATE = 3 ∧ t.bit Fld.CHR_STATUS.SYNC_LOST = true ∧ t.bit Fld.CHR_SYNC_STATUS.UP_LOCKED = false ∧ t.chr.drReason = 2) ∧
  (∀ (s : State), s.fld Fld.CHR_STATUS.TIME_STATE = 3 → s.reaches (s.chr.holdAt + 1000000000) = true → ∃ t, exec (.holdoverSecond) s = .next t ∧ t.fld Fld.CHR_HOLDOVER.EST_NS = min (s.fld Fld.CHR_HOLDOVER.EST_NS + s.fld Fld.CHR_HOLDOVER_CFG.PPB) (2 ^ 32 - 1) ∧ (s.fld Fld.CHR_HOLDOVER_CFG.LIMIT_NS ≤ t.fld Fld.CHR_HOLDOVER.EST_NS → t.bit Fld.CHR_STATUS.DEGRADED = true) ∧ t.fld Fld.CHR_STATUS.TIME_STATE = 3 ∧ t.chr.holdAt = s.chr.holdAt + 1000000000)

/-- SYNC_FRAME_SEND at the root of a domain whose SYNC_DN is up sends the frame of the next multiple of 65,536 ns, at that instant. SYNC_FRAME_RECEIVE of a valid frame at a follower shows its depth (at most 1,023, the model's choice of assumption 25) and that it is locked; the first waits to step the chronometer. MERID_OUT_PPS_PULSE raises MERID_OUT for WIDTH slots at the next whole second. LFIX_REQ_SEND and AUX_LINK_FIX on a lane that is up, free and without a fix outstanding send the request with the lane's next sequence number, after a sync frame that occupies SYNC_DN; LFIX_REQ_RECEIVE within the turnaround limit answers with the turnaround and the local time at its arrival; LFIX_RESP_RECEIVE of the outstanding fix in time ends it, and the first round enters the filter; LINK_FIX_FAIL ends it and counts. HUB_TIMING_POLL asks a hub for its records when they are due, and takes a valid record of its answer. BEARING_STALE makes a fixed bearing stale once its age passes its bound. Where the spec leaves a point open, what it says is the model's choice: log entries 25 and 26. -/
def Obligations.TheTimeDomainAndItsOutputs : Prop :=
  (∀ (s : State), s.role = 1 → s.portUp 17 = true → s.bit Fld.CHR_SYNC_STATUS.DEPTH_LIMIT = false → s.bit Fld.CHR_STATUS.SSC_ACTIVE = false → s.reaches (s.whenChron ((s.chron / 65536 + 1) * 65536)) = true → ∃ t, exec (.syncFrameSend) s = .next t ∧ t.out = [.ordered 17 (syncFrame ((s.chron / 65536 + 1) * 65536) 0 s.timeCode (s.fld Fld.CHR_STATUS.EPOCH) s.deviceId)] ∧ t.chr.ns = s.whenChron ((s.chron / 65536 + 1) * 65536) ∧ keepsBut [] s t) ∧
  (∀ (a b c arr : Nat) (s : State), s.role = 2 → s.portUp 16 = true → s.bit Fld.CHR_STATUS.SSC_ACTIVE = false → syncGood a b c true = true → s.reachesFine arr = true → ∃ t, exec (.syncFrameReceive a b c arr true) s = .next t ∧ t.fld Fld.CHR_SYNC_STATUS.DEPTH = min 1023 (bitsAt b 16 10 + 1) ∧ t.bit Fld.CHR_SYNC_STATUS.DEPTH_LIMIT = decide (bitsAt b 16 10 = 1023) ∧ t.bit Fld.CHR_SYNC_STATUS.UP_LOCKED = true ∧ t.chr.syncSeen = true ∧ t.chr.upRootId = bitsAt b 32 32 + bitsAt c 8 32 * 2 ^ 32 ∧ t.chr.rootEpoch = bitsAt b 28 2 ∧ t.chr.missRun = 0 ∧ (s.chr.syncSeen = false → t.chr.domainStep.isSome = true)) ∧
  (∀ (s : State), s.bit Fld.CHR_CTRL.MERID_OUT_EN = true → s.bit Fld.CHR_MERID_OUT_CFG.PPS_MODE = true → s.reaches (s.whenChron ((s.chron / 1000000000 + 1) * 1000000000)) = true → ∃ t, exec (.meridOutPpsPulse) s = .next t ∧ t.out = [.pulse "MERID_OUT" (32 * max 1 (s.fld Fld.CHR_MERID_OUT_CFG.WIDTH))] ∧ t.chr.ns = s.whenChron ((s.chron / 1000000000 + 1) * 1000000000) ∧ t.chr.meridOutUntil = t.chr.ns + 32 * max 1 (s.fld Fld.CHR_MERID_OUT_CFG.WIDTH) ∧ keepsBut [] s t) ∧
  (∀ (lane t1 at0 : Nat) (s : State), lane < 16 → 65536 * (s.fixOf lane).due ≤ max t1 s.fine → at0 = max t1 s.fine → s.portUp lane = true → (s.fixOf lane).outstanding = none → s.laneClear lane at0 (65536 * setsTime (s.endGen lane) (.lfixReq 0) 1) = true → s.reachesFine at0 = true → ∃ t, exec (.lfixReqSend lane t1) s = .next t ∧ t.out = [.ordered lane ((OSet.lfixReq (s.fixOf lane).seq).codes (s.endGen lane))] ∧ (t.fixOf lane).outstanding = some ((s.fixOf lane).seq, at0) ∧ (t.fixOf lane).seq = ((s.fixOf lane).seq + 1) % 256 ∧ (t.fixOf lane).due = at0 / 65536 + periodMs (s.fld Fld.CHR_FIX_CFG.REFRESH_MS) * 1000000 ∧ keepsBut [] s t) ∧
  (∀ (lane t1 at0 : Nat) (s : State), ((lane = 16 ∨ lane = 17) ∧ s.role ≠ 0 ∧ s.bit Fld.CHR_STATUS.SSC_ACTIVE = false ∨ lane = 18 ∧ s.standby = true) → at0 = s.afterSync lane (max t1 s.fine) (65536 * setsTime (s.endGen lane) (.lfixReq 0) 1) → s.portUp lane = true → (s.fixOf lane).outstanding = none → s.laneClear lane at0 (65536 * setsTime (s.endGen lane) (.lfixReq 0) 1) = true → s.reachesFine at0 = true → ∃ t, exec (.auxLinkFix lane t1) s = .next t ∧ t.out = [.ordered lane ((OSet.lfixReq (s.fixOf lane).seq).codes (s.endGen lane))] ∧ (t.fixOf lane).outstanding = some ((s.fixOf lane).seq, at0) ∧ (t.fixOf lane).seq = ((s.fixOf lane).seq + 1) % 256 ∧ (t.fixOf lane).due = at0 / 65536 + periodMs (s.fld Fld.CHR_FIX_CFG.REFRESH_MS) * 1000000 ∧ keepsBut [] s t) ∧
  (∀ (n word t2 t3 at0 : Nat) (s : State), word % 256 = 0x61 → s.endUp n = true → ((16 ≤ n ∧ n < 19) ∨ (32 ≤ n ∧ n % 16 = 0)) → (n = 18 ∨ 19 ≤ n ∨ s.role ≠ 0) → at0 = s.afterSync n (afterBusy (s.endBusy n) (max t2 (max t3 (65536 * (s.lane n).txUntil))) (65536 * respTime (s.endGen n))) (65536 * respTime (s.endGen n)) → at0 - t2 ≤ s.turnLimit * 65536 → s.reachesFine t2 = true → ∃ t, exec (.lfixReqReceive n word t2 t3) s = .next t ∧ t.out = [.ordered n (lfixResp (s.endGen n) (bitsAt word 8 8) (turnCount (at0 - t2) (s.endGen n)) (s.localTime n t2 / 65536) (s.localTime n t2))] ∧ keepsBut [] s t) ∧
  (∀ (lane a b q turn loc t4 t1 : Nat) (s : State), (s.fixOf lane).outstanding = some (q, t1) → respFields (s.endGen lane) a b = some (q, turn, loc) → s.portUp lane = true → t4 < t1 + (s.turnLimit + 4096) * 65536 → s.reachesFine t4 = true → (s.fixOf lane).filtered = none → ∃ t, exec (.lfixRespReceive lane a b t4) s = .next t ∧ (t.fixOf lane).outstanding = none ∧ (t.fixOf lane).fails = 0 ∧ (t.fixOf lane).filtered = some (((t4 : Int) - t1 - turnTime turn (s.endGen lane)).toNat)) ∧
  (∀ (lane q t1 : Nat) (s : State), (s.fixOf lane).outstanding = some (q, t1) → s.reachesFine (t1 + (s.turnLimit + 4096) * 65536) = true → ∃ t, exec (.linkFixFail lane) s = .next t ∧ (t.fixOf lane).outstanding = none ∧ (t.fixOf lane).fails = min 255 ((s.fixOf lane).fails + 1) ∧ (t.fixOf lane).filtered = (s.fixOf lane).filtered) ∧
  (∀ (hub : Nat) (s : State), (s.node hub).state.running = true → (s.node hub).hub = true → s.standby = false → (s.nrec hub).poll = none → s.convOf s.conv.next = none → s.reaches (s.nrec hub).pollDue = true → ∃ t, exec (.hubTimingPoll hub) s = .next t ∧ (t.nrec hub).poll = some s.conv.next ∧ (t.nrec hub).pollDue = max s.chr.ns (s.nrec hub).pollDue + periodMs (s.fld Fld.CHR_FIX_CFG.REPORT_MS) * 1000000 ∧ (t.convOf s.conv.next).map (fun c => (c.node, c.setup)) = some (hub, setupBytes 0x80 0x13 0 1 240) ∧ keepsBut [] s t) ∧
  (∀ (hub a k : Nat) (data : List Byte) (s : State), (s.node hub).state.running = true → (s.node hub).hub = true → s.standby = false → (s.nrec hub).poll = some k → s.conv.answers.lookup k = some (St.success, data) → data.length = 16 → s.nodeBelow hub 1 = some a → bitAt (ofBytes ((data.drop 12).take 1)) 0 = true → ∃ t, exec (.hubTimingPoll hub) s = .next t ∧ (t.fixOf (32 + a)).filtered = some (ofBytes (data.take 4)) ∧ (t.fixOf (32 + a)).resUp = ofBytes ((data.drop 6).take 4) ∧ (t.nrec hub).poll = none) ∧
  (∀ (a : Nat) (s : State), (s.bearing a).state = .fixed → s.standby = false → s.reaches ((s.bearing a).since + (s.ageBound a + 1) * 1000000) = true → ∃ t, exec (.bearingStale a) s = .next t ∧ (t.bearing a).state = .stale ∧ (t.bearing a).staleReason = 4 ∧ (t.bearing a).delayDn = (s.bearing a).delayDn)

/-- CONVERSATION_START of a queued conversation whose node is active, which no other blocks and whose pipe is not halted makes it active; on a halted pipe it ends with STALLED. PACKET_SEND of one that is active and wants to send outbound data, in free slots still to come of a port that is up, sends exactly the next packet of its window, framed, with its sequence number and bytes; the bytes of a command are read from its buffer first. TRANSFER_ABORT of an aborting one sends exactly the ABORT. GRANT_SEND in free slots of a port whose last grant is over, far enough ahead, sends exactly the grant and remembers its range. BACKPRESSURE_RELEASE, WAIT_BACKOFF_END and HANDSHAKE_GRANT_TIMER let it go on. DATA_RECEIVE of a good frame in the range of a grant for data, in order, with room: the bytes that fit are stored; for a command they are in host memory at its buffer and, where no page is logged, no other byte of host memory changes. HANDSHAKE_RECEIVE of a good frame in the range of a grant: a STALL ends the transfer with STALLED and halts a pipe other than 0; an ACK of all packets of a bulk-out transfer ends it with SUCCESS. GRANT_UNANSWERED of a grant for data, once its accepting slots have passed, counts one retry, or ends the transfer with TIMEOUT at its limit. WAIT_TIMEOUT ends a transfer with TIMEOUT 1,000 ms after the first WAIT, and one that aborts with the status of its abort. Where the spec leaves a point open, what it says is the model's choice: log entry 31. -/
def Obligations.ConversationsMoveByPacketsAndAnswers : Prop :=
  (∀ (k : Nat) (c : Conv) (s : State), s.convOf k = some c → c.state = .queued → s.mute = false → (c.tag.isSome && c.control && controllerOnly ((s.convIns c).getD 0) c.setup) = false → ((s.pipeCtx c.node c.pipe).halted && c.pipe != 0) = false → (s.node c.node).state = .active → s.convBlocked k c = false → s.pair.freshPipes.contains (c.node * 32 + c.pipe) = false → ∃ t, exec (.conversationStart k) s = .next t ∧ (t.convOf k).map (·.state) = some .active ∧ t.out = [] ∧ keepsBut [] s t) ∧
  (∀ (k : Nat) (c : Conv) (s : State), s.convOf k = some c → c.state = .queued → s.mute = false → (c.tag.isSome && c.control && controllerOnly ((s.convIns c).getD 0) c.setup) = false → (s.pipeCtx c.node c.pipe).halted = true → c.pipe ≠ 0 → ∃ t, exec (.conversationStart k) s = .next t ∧ t.convOf k = none ∧ (t.pipeCtx c.node c.pipe).lastStatus = St.stalled) ∧
  (∀ (k slot : Nat) (c : Conv) (s : State), s.convOf k = some c → c.state = .active → c.abortAsked = false → c.owesWait = false → c.closing = false → c.wantsPacket = true → s.mute = false → s.portUp (s.convPort c) = true → s.slotsFree (s.convPort c) false slot (s.nextPacketSlots c) = true → s.slotAhead (s.convPort c) slot = true → s.mayPick k c false = true → s.convPressed c = false → c.tag = none → c.stamp = 0 → ∃ t, exec (.packetSend k slot) s = .next t ∧ t.out = [.packet (s.convPort c) (padded (max 1 (s.fld Fld.LNK_STATUS.GEN (s.convPort c))) (packetFrame c.node c.pipe false (if c.control && c.next == 0 then 1 else 0) ((c.seq0 + c.next) % 65536) (s.packetBytes c c.next)))] ∧ (t.convOf k).map (·.sent) = some (max c.sent (c.next + 1)) ∧ (s.lane (s.convPort c)).txUntil ≤ (t.lane (s.convPort c)).txUntil ∧ keepsBut [] s t) ∧
  (∀ (k slot : Nat) (c : Conv) (s : State), s.convOf k = some c → c.state = .active → c.abortAsked = false → c.owesWait = false → c.closing = false → c.wantsPacket = true → s.mute = false → s.portUp (s.convPort c) = true → s.slotsFree (s.convPort c) false slot (s.nextPacketSlots c) = true → s.slotAhead (s.convPort c) slot = true → s.mayPick k c false = true → s.convPressed c = false → c.tag ≠ none → c.stamp = 0 → s.canIssue (s.insFn ((s.convIns c).getD 0)) = true → ∃ t, exec (.packetSend k slot) s = .next t ∧ t.out.getLast? = some (.packet (s.convPort c) (padded (max 1 (s.fld Fld.LNK_STATUS.GEN (s.convPort c))) (packetFrame c.node c.pipe false (if c.control && c.next == 0 then 1 else 0) ((c.seq0 + c.next) % 65536) (s.packetBytes c c.next)))) ∧ (t.convOf k).map (·.sent) = some (max c.sent (c.next + 1)) ∧ keepsBut [(Fld.GBL_PCIE_EVENT.PASID_IGNORED, 0)] s t) ∧
  (∀ (k slot : Nat) (c : Conv) (s : State), s.convOf k = some c → c.state = .aborting → c.abortSent = false → s.mute = false → s.portUp (s.convPort c) = true → s.slotsFree (s.convPort c) false slot (s.nextPacketSlots c) = true → s.slotAhead (s.convPort c) slot = true → s.mayPick k c false = true → ∃ t, exec (.transferAbort k slot) s = .next t ∧ t.out = [.packet (s.convPort c) (padded (max 1 (s.fld Fld.LNK_STATUS.GEN (s.convPort c))) (packetFrame c.node c.pipe false 2 0 (handshakeBytes 0x06 0 0)))] ∧ (t.convOf k).map (·.abortSent) = some true ∧ keepsBut [] s t) ∧
  (∀ (k slot r n : Nat) (c : Conv) (s : State), s.convOf k = some c → c.wantsGrant = true → s.mute = false → 0 < n → n ≤ 511 → s.portUp (s.convPort c) = true → s.grantRuns (s.convPort c) slot = false → s.slotsFree (s.convPort c) false slot (frameSlots (s.convGen c) 4) = true → s.slotAhead (s.convPort c) slot = true → s.slotsFree (s.convPort c) true r (n + s.grantExtra c) = true → s.mayPick k c true = true → 0 ≤ s.grantStart c r → s.grantStart c r < 2 ^ 15 → 512 * 65536 ≤ s.grantLaunch c (s.grantStart c r) - s.grantEnds c slot (frameSlots (s.convGen c) 4) → c.wantsData = true → c.control = false → c.state = .active → s.convPressed c = false → ∃ t, exec (.grantSend k slot r n true) s = .next t ∧ t.out = [.packet (s.convPort c) (padded (max 1 (s.fld Fld.LNK_STATUS.GEN (s.convPort c))) (packetFrame c.node c.pipe false 3 ((c.inSeq0 + c.inCount) % 65536) (toBytes (s.tickLow 8 + (s.grantStart c r).toNat * 2 ^ 8 + n * 2 ^ 23) 4)))] ∧ tget {} t.conv.grants (s.convPort c) = { conv := k, node := c.node, merid := s.chr.meridNs, start := r, slots := n + s.grantExtra c, next := r, extra := s.grantExtra c, closed := false, forData := true, sent := c.sent } ∧ keepsBut [] s t) ∧
  (∀ (k : Nat) (c : Conv) (s : State), s.convOf k = some c → c.state = .backoff → c.pressed = true → s.convPressed c = false → ∃ t, exec (.backpressureRelease k) s = .next t ∧ (t.convOf k).map (·.state) = some .active ∧ keepsBut [] s t) ∧
  (∀ (k : Nat) (c : Conv) (s : State), s.convOf k = some c → c.state = .backoff → c.pressed = false → s.reaches c.backNs = true → c.backTick ≤ s.tick → ∃ t, exec (.waitBackoffEnd k) s = .next t ∧ (t.convOf k).map (·.state) = some .active ∧ keepsBut [] s t) ∧
  (∀ (k t0 : Nat) (c : Conv) (s : State), s.convOf k = some c → c.sentAt.lookup c.base = some t0 → c.state = .active → c.base < c.sent → s.reaches (t0 + 8000) = true → ∃ t, exec (.handshakeGrantTimer k) s = .next t ∧ (t.convOf k).map (·.askDue) = some true ∧ t0 + 8000 ≤ t.chr.ns ∧ keepsBut [] s t) ∧
  (∀ (port slot : Nat) (pos : Int) (frame : List Byte) (g : Grant) (c : Conv) (s : State), s.portUp port = true → s.grantFor port pos = some (g, slot) → s.convOf g.conv = some c → frameGood frame = true → (Header.ofBytes frame).packet = true → (Header.ofBytes frame).addr = c.node → (Header.ofBytes frame).pipe = c.pipe → (Header.ofBytes frame).inbound = true → (Header.ofBytes frame).type = Pt.data → ((if g.extra = 0 then 32 * 65536 * (slot : Int) else pos) + 32 * 65536 * frameSlots (max 1 (s.fld Fld.LNK_STATUS.GEN port)) (Header.ofBytes frame).length ≤ 32 * 65536 * ((g.start + g.slots : Nat) : Int)) → g.forData = true → (Header.ofBytes frame).length ≤ 1024 → c.wantsData = true → c.owesWait = false → c.state ≠ .aborting → g.spoiled = false → ((Header.ofBytes frame).seq + 65536 - (c.inSeq0 + c.inCount) % 65536) % 65536 = 0 → s.convPressed c = false → c.tag = none → ∃ t, exec (.dataReceive port pos frame true) s = .next t ∧ (t.convOf g.conv).map (·.bytes) = some (c.bytes ++ (framePayload frame).take (min (c.length - c.stored) (framePayload frame).length)) ∧ (t.convOf g.conv).map (·.stored) = some (c.stored + min (c.length - c.stored) (framePayload frame).length) ∧ t.host = s.host) ∧
  (∀ (port slot tag a : Nat) (pos : Int) (frame : List Byte) (g : Grant) (c : Conv) (s : State), s.portUp port = true → s.grantFor port pos = some (g, slot) → s.convOf g.conv = some c → frameGood frame = true → (Header.ofBytes frame).packet = true → (Header.ofBytes frame).addr = c.node → (Header.ofBytes frame).pipe = c.pipe → (Header.ofBytes frame).inbound = true → (Header.ofBytes frame).type = Pt.data → ((if g.extra = 0 then 32 * 65536 * (slot : Int) else pos) + 32 * 65536 * frameSlots (max 1 (s.fld Fld.LNK_STATUS.GEN port)) (Header.ofBytes frame).length ≤ 32 * 65536 * ((g.start + g.slots : Nat) : Int)) → g.forData = true → (Header.ofBytes frame).length ≤ 1024 → c.wantsData = true → c.owesWait = false → c.state ≠ .aborting → g.spoiled = false → ((Header.ofBytes frame).seq + 65536 - (c.inSeq0 + c.inCount) % 65536) % 65536 = 0 → s.convPressed c = false → c.tag = some tag → c.pieces = [(a, c.length)] → c.stored = 0 → 0 < (Header.ofBytes frame).length → (Header.ofBytes frame).length ≤ c.length → s.canIssue (s.insFn ((s.convIns c).getD 0)) = true → s.bit Fld.INS_LOG_CFG.RUNNING ((s.convIns c).getD 0) = false → ∃ t, exec (.dataReceive port pos frame true) s = .next t ∧ readBytes memDefault t.host a (Header.ofBytes frame).length = (framePayload frame) ∧ hostKept a (Header.ofBytes frame).length s t ∧ (t.convOf g.conv).map (·.stored) = some (Header.ofBytes frame).length) ∧
  (∀ (port slot : Nat) (pos : Int) (frame : List Byte) (g : Grant) (c : Conv) (s : State), s.portUp port = true → s.grantFor port pos = some (g, slot) → s.convOf g.conv = some c → frameGood frame = true → (Header.ofBytes frame).packet = true → (Header.ofBytes frame).addr = c.node → (Header.ofBytes frame).pipe = c.pipe → (Header.ofBytes frame).inbound = true → (Header.ofBytes frame).type = Pt.handshake → ((if g.extra = 0 then 32 * 65536 * (slot : Int) else pos) + 32 * 65536 * frameSlots (max 1 (s.fld Fld.LNK_STATUS.GEN port)) (Header.ofBytes frame).length ≤ 32 * 65536 * ((g.start + g.slots : Nat) : Int)) → (Header.ofBytes frame).length = 4 → bitsAt (ofBytes (framePayload frame)) 0 8 = 0x04 → c.state ≠ .aborting → ∃ t, exec (.handshakeReceive port pos frame) s = .next t ∧ t.convOf g.conv = none ∧ (t.pipeCtx c.node c.pipe).lastStatus = St.stalled ∧ (c.pipe ≠ 0 → (t.pipeCtx c.node c.pipe).halted = true)) ∧
  (∀ (port slot d : Nat) (pos : Int) (frame : List Byte) (g : Grant) (c : Conv) (s : State), s.portUp port = true → s.grantFor port pos = some (g, slot) → s.convOf g.conv = some c → frameGood frame = true → (Header.ofBytes frame).packet = true → (Header.ofBytes frame).addr = c.node → (Header.ofBytes frame).pipe = c.pipe → (Header.ofBytes frame).inbound = true → (Header.ofBytes frame).type = Pt.handshake → ((if g.extra = 0 then 32 * 65536 * (slot : Int) else pos) + 32 * 65536 * frameSlots (max 1 (s.fld Fld.LNK_STATUS.GEN port)) (Header.ofBytes frame).length ≤ 32 * 65536 * ((g.start + g.slots : Nat) : Int)) → (Header.ofBytes frame).length = 4 → bitsAt (ofBytes (framePayload frame)) 0 8 = 0x01 → c.state = .active → c.stage = .data → g.forData = false → c.control = false → c.inbound = false → d = ((Header.ofBytes frame).seq + 65536 - (c.seq0 + c.base) % 65536) % 65536 → d ≤ c.sent - c.base → g.sent ≤ c.base + d → c.outPackets ≤ c.base + d → ∃ t, exec (.handshakeReceive port pos frame) s = .next t ∧ t.convOf g.conv = none ∧ (t.pipeCtx c.node c.pipe).lastStatus = St.success) ∧
  (∀ (port : Nat) (g : Grant) (c : Conv) (s : State), s.conv.grants.lookup port = some g → g.begun = false → g.closed = false → s.reaches (g.merid + 32 * (g.next + max 1 g.extra)) = true → s.convOf g.conv = some c → c.state ≠ .aborting → g.forData = true → c.used (inKey c.inCount) < c.limit → ∃ t, exec (.grantUnanswered port) s = .next t ∧ (t.convOf g.conv).map (·.retries) = some (c.retries + 1) ∧ (tget {} t.conv.grants port).closed = true) ∧
  (∀ (port : Nat) (g : Grant) (c : Conv) (s : State), s.conv.grants.lookup port = some g → g.begun = false → g.closed = false → s.reaches (g.merid + 32 * (g.next + max 1 g.extra)) = true → s.convOf g.conv = some c → c.state ≠ .aborting → g.forData = true → c.limit ≤ c.used (inKey c.inCount) → ∃ t, exec (.grantUnanswered port) s = .next t ∧ t.convOf g.conv = none ∧ (t.pipeCtx c.node c.pipe).lastStatus = St.timeout) ∧
  (∀ (k t0 : Nat) (c : Conv) (s : State), s.convOf k = some c → c.waitFrom = some t0 → c.state ≠ .aborting → s.reaches (t0 + 1000000000) = true → ∃ t, exec (.waitTimeout k) s = .next t ∧ t.convOf k = none ∧ (t.pipeCtx c.node c.pipe).lastStatus = St.timeout) ∧
  (∀ (k t0 : Nat) (c : Conv) (s : State), s.convOf k = some c → c.waitFrom = some t0 → c.state = .aborting → s.reaches (t0 + 1000000000) = true → ∃ t, exec (.waitTimeout k) s = .next t ∧ t.convOf k = none ∧ (t.pipeCtx c.node c.pipe).lastStatus = c.endStatus)

/-- Of a fetched command whose step may run, without a fragment table, at a controller that is not a standby: BULK_OUT, BULK_IN and CONTROL run and queue one conversation with the node, pipe, direction, buffer, length and retry limit of the entry; at a standby they complete with UNSUPPORTED. BULK_DATA_READ_FAULT of a transfer command not yet started completes it with DMA_READ_FAULT; of one whose conversation is active its abort with that status is asked for. Where the spec leaves a point open, what it says is the model's choice: log entry 31. -/
def Obligations.TransferCommandsQueueConversations : Prop :=
  (∀ (tag : Nat) (s : State) (c : Cmd), s.startable tag 0x80 = some c → s.standby = false → c.flag 1 = false → ∃ t, exec (.bulkOut tag) s = .next t ∧ t.stageOf tag = some .running ∧ t.conv.convs = s.conv.convs ++ [(s.conv.next, { node := c.at 4 2, pipe := c.at 6 1, tag := some tag, pieces := if c.at 8 3 = 0 then [] else [(c.at 16 8, c.at 8 3)], length := c.at 8 3, port := (s.node (c.at 4 2)).port, limit := if bitAt (c.at 7 1) 4 then c.at 7 1 % 16 else 7 })]) ∧
  (∀ (tag : Nat) (s : State) (c : Cmd), s.startable tag 0x81 = some c → s.standby = false → c.flag 1 = false → ∃ t, exec (.bulkIn tag) s = .next t ∧ t.stageOf tag = some .running ∧ t.conv.convs = s.conv.convs ++ [(s.conv.next, { node := c.at 4 2, pipe := c.at 6 1, inbound := true, tag := some tag, pieces := if c.at 8 3 = 0 then [] else [(c.at 16 8, c.at 8 3)], length := c.at 8 3, port := (s.node (c.at 4 2)).port, limit := if bitAt (c.at 7 1) 4 then c.at 7 1 % 16 else 7 })]) ∧
  (∀ (tag : Nat) (s : State) (c : Cmd), s.startable tag 0x82 = some c → s.standby = false → c.flag 1 = false → ∃ t, exec (.control tag) s = .next t ∧ t.stageOf tag = some .running ∧ t.conv.convs = s.conv.convs ++ [(s.conv.next, { node := c.at 4 2, control := true, stage := .setup, setup := (c.bytes.drop 8).take 16, inbound := bitAt (c.at 8 1) 7, tag := some tag, pieces := if c.at 14 2 = 0 then [] else [(c.at 24 8, c.at 14 2)], length := c.at 14 2, port := (s.node (c.at 4 2)).port, limit := if bitAt (c.at 7 1) 4 then c.at 7 1 % 16 else 7 })]) ∧
  (∀ (tag : Nat) (s : State) (c : Cmd), s.startable tag 0x81 = some c → s.standby = true → s.takesCompletion c = true → ∃ t, exec (.bulkIn tag) s = .next t ∧ t.cmd tag = none ∧ s.reports t c St.unsupported = true ∧ t.conv = s.conv) ∧
  (∀ (tag : Nat) (c : Cmd) (s : State), s.convOfTag tag = none → s.cmd tag = some c → c.opcode = 0x80 → c.stage = .ready → s.takesCompletion c = true → ∃ t, exec (.bulkDataReadFault tag) s = .next t ∧ t.cmd tag = none ∧ s.reports t c St.dmaReadFault = true ∧ t.conv = s.conv) ∧
  (∀ (tag k : Nat) (c : Conv) (s : State), s.convOfTag tag = some k → s.convOf k = some c → c.state = .active → c.abortAsked = false → ∃ t, exec (.bulkDataReadFault tag) s = .next t ∧ (t.convOf k).map (·.abortAsked) = some true ∧ (t.convOf k).map (·.endStatus) = some St.dmaReadFault ∧ keepsBut [] s t)

/-- At a port that is ON, of a good message not yet taken: PWC_GET_CAPS is acknowledged and answered with CAPS; PWC_REQUEST that passes the checks in DEFAULT or CONTRACT with ACCEPT, one that fails with REJECT and the status; the ACK of that ACCEPT in time starts TRANSITION to its contract; PWC_KEEP_ALIVE and PWC_BEAT are a sign of life, and the beat lets a due PS_READY finish the transition. PWC_SWAP_REQ LOCAL goes to SWAPPING, CABLE from LOCAL to CONTRACT; PWC_LOCAL_READY drops PEN; PWC_REDUCE_ANSWER takes the lower contract or reverts. PWC_ACK_TIMEOUT sends again at most twice. PWC_FAST_SWAP_LOW of 4 us puts a port in LOCAL back on the cable, another only says so. Where the spec leaves a point open, what it says is the model's choice: log entries 35 and 36. -/
def Obligations.MessagesOfTheSinkAreAnswered : Prop :=
  (∀ (p id word : Nat) (levels : List Bool) (s : State), p < 16 → s.cpwFn p = Fn.on → pwcRead true levels = some (2, id, word) → (s.pwc p).line.lastRx ≠ some id → ∃ t, exec (.pwcGetCaps p levels) s = .next t ∧ (t.pwc p).line.outq = (s.pwc p).line.outq ++ [{ type := 1, id := (s.pwc p).line.msgId, word := s.fld Fld.CPW_LIMIT.VMAX p + s.fld Fld.CPW_LIMIT.IMAX p * 2 ^ 12 + 2 ^ 22 }] ∧ t.out.head? = some (.pwc p (s.chr.ns + pwcGap) (pwcWire false 0 id []))) ∧
  (∀ (p id word : Nat) (levels : List Bool) (s : State), p < 16 → s.cpwFn p = Fn.on → pwcRead true levels = some (3, id, word) → (s.pwc p).line.lastRx ≠ some id → (s.cstate p = Cs.default ∨ s.cstate p = Cs.contract) → s.requestCheck p word true = none → ∃ t, exec (.pwcRequest p levels) s = .next t ∧ (t.pwc p).line.outq = (s.pwc p).line.outq ++ [{ type := 4, id := (s.pwc p).line.msgId, word := word % 2 ^ 22 }] ∧ t.cstate p = s.cstate p ∧ t.out.head? = some (.pwc p (s.chr.ns + pwcGap) (pwcWire false 0 id []))) ∧
  (∀ (p id word k : Nat) (levels : List Bool) (s : State), p < 16 → s.cpwFn p = Fn.on → pwcRead true levels = some (3, id, word) → (s.pwc p).line.lastRx ≠ some id → (s.cstate p = Cs.default ∨ s.cstate p = Cs.contract) → s.requestCheck p word true = some k → ∃ t, exec (.pwcRequest p levels) s = .next t ∧ (t.pwc p).line.outq = (s.pwc p).line.outq ++ [{ type := 5, id := (s.pwc p).line.msgId, word := k }] ∧ t.cstate p = s.cstate p ∧ t.out.head? = some (.pwc p (s.chr.ns + pwcGap) (pwcWire false 0 id []))) ∧
  (∀ (p begin w : Nat) (levels : List Bool) (m : PwcMessage) (rest : List PwcMessage) (s : State), p < 16 → (s.pwc p).line.outq = m :: rest → pwcRead true levels = some (0, m.id, w) → begin ≤ 40000 → m.type = 4 → (s.cstate p = Cs.default ∨ s.cstate p = Cs.contract) → s.reaches ((s.pwc p).line.sentEnd + begin + 56000) = true → ∃ t, exec (.pwcAckReceive p begin levels) s = .next t ∧ t.cstate p = Cs.transition ∧ (t.pwc p).line.outq = rest ∧ (t.pwc p).target = m.word ∧ t.pmbusHas p [ocLimit (max (currOf (s.fld Fld.CPW_CONTRACT.CONTRACT p)) (currOf m.word)), (0x21, 20 * voltOf m.word)] = true) ∧
  (∀ (e : Nat) (m : PwcMessage) (rest : List PwcMessage) (s : State), (s.pwcEnd e).outq = m :: rest → m.again < 2 → s.reaches ((s.pwcEnd e).sentEnd + 40000) = true → ∃ t, exec (.pwcAckTimeout e) s = .next t ∧ (t.pwcEnd e).outq = { m with again := m.again + 1 } :: rest ∧ t.out = [.pwc e (max (max s.chr.ns ((s.pwcEnd e).sentEnd + 40000)) ((s.pwcEnd e).lineFree + pwcGap)) (pwcWire (decide (1000 ≤ e)) m.type m.id (toBytes m.word ((pwcLen m.type).getD 0)))] ∧ keepsBut [] s t) ∧
  (∀ (e : Nat) (m : PwcMessage) (rest : List PwcMessage) (s : State), (s.pwcEnd e).outq = m :: rest → 2 ≤ m.again → m.type ≠ 11 → s.reaches ((s.pwcEnd e).sentEnd + 40000) = true → ∃ t, exec (.pwcAckTimeout e) s = .next t ∧ (t.pwcEnd e).outq = rest ∧ keepsBut [] s t) ∧
  (∀ (p id word : Nat) (levels : List Bool) (s : State), p < 16 → s.cpwFn p = Fn.on → pwcRead true levels = some (7, id, word) → ∃ t, exec (.pwcKeepAlive p levels) s = .next t ∧ t.out.head? = some (.pwc p (s.chr.ns + pwcGap) (pwcWire false 0 id [])) ∧ (t.pwc p).heard = s.chr.ns ∧ t.fld Fld.CPW_KEEPALIVE.AGE_MS p = 0 ∧ t.cstate p = s.cstate p) ∧
  (∀ (p tenths : Nat) (s : State), p < 16 → s.cpwFn p = Fn.on → 8 ≤ tenths → tenths ≤ 14 → s.cstate p = Cs.transition → (s.pwc p).readyDue = true → (s.pwc p).reverting = false → (s.pwc p).forceDue = false → ∃ t, exec (.pwcBeat p tenths) s = .next t ∧ t.cstate p = Cs.contract ∧ t.fld Fld.CPW_CONTRACT.CONTRACT p = (s.pwc p).target % 2 ^ 22 ∧ (t.pwc p).heard = s.chr.ns ∧ (t.pwc p).readyDue = false) ∧
  (∀ (p id word : Nat) (levels : List Bool) (s : State), p < 16 → s.cpwFn p = Fn.on → pwcRead true levels = some (8, id, word) → (s.pwc p).line.lastRx ≠ some id → word % 256 = 1 → (s.pwc p).reduce = none → s.cstate p = Cs.contract → s.requestCheck p (word / 256) true = none → ∃ t, exec (.pwcSwapReq p levels) s = .next t ∧ t.cstate p = Cs.swapping ∧ (t.pwc p).arm = word / 256 % 2 ^ 22 ∧ (t.pwc p).swapAt = s.chr.ns) ∧
  (∀ (p id word : Nat) (levels : List Bool) (s : State), p < 16 → s.cpwFn p = Fn.on → pwcRead true levels = some (8, id, word) → (s.pwc p).line.lastRx ≠ some id → word % 256 = 0 → (s.pwc p).reduce = none → s.cstate p = Cs.local → ∃ t, exec (.pwcSwapReq p levels) s = .next t ∧ t.cstate p = Cs.contract ∧ t.bit Fld.CPW_PORT_STATUS.PEN p = true ∧ t.bit Fld.CPW_SWAP.ARMED p = false ∧ t.fld Fld.CPW_CONTRACT.CONTRACT p = s.fld Fld.CPW_SWAP.CONTRACT p % 2 ^ 22) ∧
  (∀ (p id word : Nat) (levels : List Bool) (s : State), p < 16 → s.cpwFn p = Fn.on → pwcRead true levels = some (9, id, word) → (s.pwc p).line.lastRx ≠ some id → s.cstate p = Cs.swapping → s.bit Fld.CPW_PORT_STATUS.PEN p = true → ∃ t, exec (.pwcLocalReady p levels) s = .next t ∧ t.bit Fld.CPW_PORT_STATUS.PEN p = false ∧ t.pmbusHas p (stageContract (s.pwc p).arm) = true) ∧
  (∀ (p id word w : Nat) (levels : List Bool) (s : State), p < 16 → s.cpwFn p = Fn.on → pwcRead true levels = some (4, id, word) → (s.pwc p).line.lastRx ≠ some id → (s.pwc p).reduce = some w → ∃ t, exec (.pwcReduceAnswer p levels) s = .next t ∧ t.fld Fld.CPW_CONTRACT.CONTRACT p = w % 2 ^ 22 ∧ (t.pwc p).reduce = none ∧ t.cstate p = s.cstate p) ∧
  (∀ (p id word w : Nat) (levels : List Bool) (s : State), p < 16 → s.cpwFn p = Fn.on → pwcRead true levels = some (5, id, word) → (s.pwc p).line.lastRx ≠ some id → (s.pwc p).reduce = some w → ∃ t, exec (.pwcReduceAnswer p levels) s = .next t ∧ t.cstate p = Cs.transition ∧ (t.pwc p).reduce = none ∧ (t.pwc p).target = defaultContract ∧ (t.pwc p).reverting = true) ∧
  (∀ (p tenths : Nat) (s : State), p < 16 → s.cpwFn p = Fn.on → 40 ≤ tenths → s.cstate p = Cs.local → ∃ t, exec (.pwcFastSwapLow p tenths) s = .next t ∧ t.cstate p = Cs.contract ∧ t.bit Fld.CPW_PORT_STATUS.PEN p = true ∧ t.bit Fld.CPW_SWAP.ARMED p = false ∧ t.bit Fld.CPW_PORT_EVENT.FAST_SWAP p = true) ∧
  (∀ (p tenths : Nat) (s : State), p < 16 → s.cpwFn p = Fn.on → 40 ≤ tenths → s.cstate p ≠ Cs.local → ∃ t, exec (.pwcFastSwapLow p tenths) s = .next t ∧ t.bit Fld.CPW_PORT_EVENT.FAST_UNARMED p = true ∧ t.cpw = s.cpw ∧ t.cstate p = s.cstate p)

/-- VOUT_POLL shows the readings, and the second in range in a TRANSITION writes the limit of the target. TRANSITION_TIMEOUT at its instant, PFAULT_ASSERT of a stage with a fault and PMBUS_TIMEOUT of an ON port go to FAULT with PEN low. CONTRACT_EXPIRY and REDUCE_TIMEOUT at their instants revert the port; SWAPPING_TIMEOUT returns to CONTRACT. PWC_SILENCE in TRANSITION with PFAULT low, and PING_TIMEOUT, take the sink as lost: DETACHED, PEN low. REARM_EXPIRY writes the default contract again; PWC_STUCK sets its event; PMBUS_TRANSACTION_DONE puts the next transaction on the bus, and the last of a swap reaches LOCAL. Where the spec leaves a point open, what it says is the model's choice: log entries 36 and 37. -/
def Obligations.TimersAndFaultsOfACablePort : Prop :=
  (∀ (p vout iout : Nat) (s : State), p < 16 → s.cpwFn p = Fn.on → s.cstate p = Cs.transition → s.pmbusIdle p = true → (s.pwc p).inRange = 1 → (max (s.voutMv p vout) (20 * voltOf (s.pwc p).target) - min (s.voutMv p vout) (20 * voltOf (s.pwc p).target)) * 100 ≤ 3 * (20 * voltOf (s.pwc p).target) → s.reaches (s.pwc p).pollAt = true → ∃ t, exec (.voutPoll p vout iout) s = .next t ∧ t.fld Fld.CPW_MEAS.VOUT p = (s.voutMv p vout + 10) / 20 % 2 ^ 12 ∧ t.fld Fld.CPW_MEAS.IOUT p = linear11Centi iout % 2 ^ 12 ∧ (t.pwc p).inRange = 2 ∧ t.pmbusHas p [ocLimit (currOf (s.pwc p).target)] = true ∧ t.cstate p = s.cstate p ∧ keepsBut [(Fld.CPW_MEAS.VOUT, p), (Fld.CPW_MEAS.IOUT, p)] s t) ∧
  (∀ (p vout iout : Nat) (s : State), p < 16 → s.cpwFn p = Fn.on → s.cstate p ≠ Cs.transition → ∃ t, exec (.voutPoll p vout iout) s = .next t ∧ t.fld Fld.CPW_MEAS.VOUT p = (s.voutMv p vout + 10) / 20 % 2 ^ 12 ∧ t.fld Fld.CPW_MEAS.IOUT p = linear11Centi iout % 2 ^ 12 ∧ t.cpw = s.cpw ∧ keepsBut [(Fld.CPW_MEAS.VOUT, p), (Fld.CPW_MEAS.IOUT, p)] s t) ∧
  (∀ (p : Nat) (s : State), p < 16 → s.cstate p = Cs.transition → s.reaches ((s.pwc p).since + max 1 (s.fld Fld.CPW_CFG.TRANS_MS) * 1000000) = true → ∃ t, exec (.transitionTimeout p) s = .next t ∧ t.cstate p = Cs.fault ∧ t.bit Fld.CPW_PORT_STATUS.PEN p = false ∧ t.bit Fld.CPW_PORT_EVENT.FAULT p = true ∧ t.pmbus p = []) ∧
  (∀ (p : Nat) (s : State), p < 16 → s.cstate p = Cs.contract → s.reaches ((s.pwc p).heard + 1500000000) = true → ∃ t, exec (.contractExpiry p) s = .next t ∧ t.cstate p = Cs.transition ∧ (t.pwc p).target = defaultContract ∧ (t.pwc p).reverting = true ∧ (t.pwc p).expired = true ∧ t.bit Fld.CPW_PORT_EVENT.EXPIRED p = true) ∧
  (∀ (p : Nat) (s : State), p < 16 → (s.pwc p).reduce.isSome = true → s.reaches ((s.pwc p).reduceAt + 10000000) = true → ∃ t, exec (.reduceTimeout p) s = .next t ∧ t.cstate p = Cs.transition ∧ (t.pwc p).reduce = none ∧ (t.pwc p).target = defaultContract) ∧
  (∀ (p : Nat) (s : State), p < 16 → s.cstate p = Cs.swapping → s.bit Fld.CPW_PORT_STATUS.PEN p = true → s.reaches ((s.pwc p).swapAt + 10000000) = true → ∃ t, exec (.swappingTimeout p) s = .next t ∧ t.cstate p = Cs.contract ∧ (t.pwc p).arm = 0 ∧ keepsBut [(Fld.CPW_PORT_STATUS.CSTATE, p)] s t) ∧
  (∀ (low : Bool) (words : List Nat) (p w : Nat) (s : State), p < 16 → s.cstate p ≠ Cs.fault → ((p, w) ∈ (((List.range 16).filter fun q => s.laneOn q).filter fun q => s.cpwFn q == Fn.on).zip words) → ∃ t, exec (.pfaultAssert low words) s = .next t ∧ t.bit Fld.CPW_PORT_STATUS.PFAULT p = low ∧ t.cstate p = (if low && stageFault w then Cs.fault else s.cstate p)) ∧
  (∀ (p : Nat) (s : State), p < 16 → s.cstate p = Cs.transition → (s.pwc p).reverting = false → s.bit Fld.CPW_PORT_STATUS.PFAULT p = true → s.reaches ((s.pwc p).heard + 50000) = true → ∃ t, exec (.pwcSilence p) s = .next t ∧ t.cstate p = Cs.detached ∧ t.bit Fld.CPW_PORT_STATUS.PEN p = false ∧ t.fld Fld.CPW_CONTRACT.CONTRACT p = defaultContract ∧ t.pmbusHas p [(0x01, 0)] = true) ∧
  (∀ (p : Nat) (m : PwcMessage) (rest : List PwcMessage) (s : State), p < 16 → (s.pwc p).line.outq = m :: rest → m.type = 11 → 2 ≤ m.again → s.reaches ((s.pwc p).line.sentEnd + 40000) = true → ∃ t, exec (.pingTimeout p) s = .next t ∧ t.cstate p = Cs.detached ∧ t.bit Fld.CPW_PORT_STATUS.PEN p = false ∧ t.bit Fld.CPW_PORT_EVENT.DETACH p = true) ∧
  (∀ (p : Nat) (s : State), p < 16 → s.cpwFn p = Fn.on → s.cstate p = Cs.fault → s.bit Fld.CPW_PORT_STATUS.PEN p = false → s.reaches (s.pwc p).waitEnd = true → ∃ t, exec (.rearmExpiry p) s = .next t ∧ t.pmbusHas p ((0x03, 0) :: stageContract defaultContract) = true ∧ keepsBut [] s t) ∧
  (∀ (p : Nat) (s : State), p < 16 → s.cstate p ≠ Cs.local → ∃ t, exec (.pwcStuck p) s = .next t ∧ t.bit Fld.CPW_PORT_EVENT.PWC_STUCK p = true ∧ t.cpw = s.cpw) ∧
  (∀ (target code v code2 v2 value : Nat) (rest : List (Nat × Nat)) (s : State), s.cpw.bus = some (target, code, v) → code ≠ 0x20 → s.pmbus target = (code2, v2) :: rest → ((([16, 17, 18, 19] ++ List.range 16).find? fun u => !(s.pmbus u).isEmpty) = some target) → ∃ t, exec (.pmbusTransactionDone target true value) s = .next t ∧ t.pmbus target = rest ∧ t.cpw.bus = some (target, code2, v2) ∧ t.out = [.pmbus (s.pmbusBytes target code2 v2)] ∧ keepsBut [] s t) ∧
  (∀ (p code v value : Nat) (s : State), p < 16 → s.cpwFn p = Fn.on → s.cpw.bus = some (p, code, v) → s.pmbus p = [] → code ≠ 0x20 → code ≠ 0x01 → s.cstate p = Cs.swapping → s.bit Fld.CPW_PORT_STATUS.PEN p = false → ∃ t, exec (.pmbusTransactionDone p true value) s = .next t ∧ t.cstate p = Cs.local ∧ t.bit Fld.CPW_SWAP.ARMED p = true ∧ t.fld Fld.CPW_SWAP.CONTRACT p = (s.pwc p).arm % 2 ^ 22 ∧ t.pmbus p = []) ∧
  (∀ (p code v : Nat) (s : State), p < 16 → s.cpwFn p = Fn.on → s.cpw.bus = some (p, code, v) → ∃ t, exec (.pmbusTimeout p) s = .next t ∧ t.cstate p = Cs.fault ∧ t.bit Fld.CPW_PORT_STATUS.PEN p = false ∧ t.bit Fld.CPW_EVENT.PMBUS_ERROR = true ∧ t.pmbus p = [])

/-- CPW_ENABLE of a port that is OFF makes it ENABLING with the writes of R387 under way; CPW_ENABLED when they are done makes it ON in DEFAULT with PEN high; CPW_DISABLE of a port that is ON drops PEN and makes it DISABLING; CPW_DISCHARGED at its instant makes it OFF; CPW_FORCE_DEFAULT of a port in CONTRACT reverts it. POWER_PORT ENABLE and DISABLE do the same and run; FORCE_DEFAULT and SET_LIMIT report SUCCESS with the port's status and contract; REDUCE to a lower current runs until its answer. POWER_BUDGET sets the limit and reports the charge in use; POWER_READ writes the eight words of the port and reports SUCCESS. Where the spec leaves a point open, what it says is the model's choice: log entries 35 and 36. -/
def Obligations.CablePortsAreSwitchedAndCommanded : Prop :=
  (∀ (p : Nat) (s : State), p < 16 → s.cpwFn p = Fn.off → ∃ t, exec (.cpwEnable p) s = .next t ∧ t.cpwFn p = Fn.enabling ∧ t.bit Fld.CPW_PORT_CTRL.ENABLE p = true ∧ t.pmbusHas p (s.enablingWrites p) = true ∧ keepsBut [(Fld.CPW_PORT_CTRL.ENABLE, p), (Fld.CPW_PORT_STATUS.FUNC_STATE, p), (Fld.CPW_PORT_STATUS.PENDING_ENABLE, p)] s t) ∧
  (∀ (p : Nat) (s : State), p < 16 → s.cpwFn p = Fn.on → ∃ t, exec (.cpwDisable p) s = .next t ∧ t.cpwFn p = Fn.disabling ∧ t.bit Fld.CPW_PORT_STATUS.PEN p = false ∧ t.cstate p = Cs.default ∧ t.pmbusHas p [(0x01, 0)] = true ∧ (t.pwc p).waitEnd = s.chr.ns + 10000000) ∧
  (∀ (p : Nat) (s : State), p < 16 → s.cpwFn p = Fn.enabling → s.pmbusIdle p = true → ∃ t, exec (.cpwEnabled p) s = .next t ∧ t.cpwFn p = Fn.on ∧ t.cstate p = Cs.default ∧ t.bit Fld.CPW_PORT_STATUS.PEN p = true ∧ t.fld Fld.CPW_CONTRACT.CONTRACT p = defaultContract) ∧
  (∀ (p : Nat) (s : State), p < 16 → s.cpwFn p = Fn.disabling → s.bit Fld.CPW_PORT_STATUS.PENDING_ENABLE p = false → s.reaches (s.pwc p).waitEnd = true → ∃ t, exec (.cpwDischarged p) s = .next t ∧ t.cpwFn p = Fn.off) ∧
  (∀ (p : Nat) (s : State), p < 16 → s.cpwFn p = Fn.on → s.cstate p = Cs.contract → ∃ t, exec (.cpwForceDefault p) s = .next t ∧ t.cstate p = Cs.transition ∧ (t.pwc p).target = defaultContract ∧ (t.pwc p).reverting = true) ∧
  (∀ (tag : Nat) (s : State) (c : Cmd), s.startable tag 0x48 = some c → c.at 5 1 = 0 → s.cpwFn (c.at 4 1) = Fn.off → c.at 4 1 < 16 → ∃ t, exec (.powerPortEnable tag) s = .next t ∧ t.stageOf tag = some .running ∧ t.cpwFn (c.at 4 1) = Fn.enabling) ∧
  (∀ (tag : Nat) (s : State) (c : Cmd), s.startable tag 0x48 = some c → c.at 5 1 = 0 → s.cpwFn (c.at 4 1) = Fn.on → c.at 4 1 < 16 → s.takesCompletion c = true → ∃ t, exec (.powerPortEnable tag) s = .next t ∧ t.cmd tag = none ∧ s.reports t c St.success (s.portStatus (c.at 4 1)) (s.fld Fld.CPW_CONTRACT.CONTRACT (c.at 4 1)) = true ∧ t.cpwFn (c.at 4 1) = Fn.on) ∧
  (∀ (tag : Nat) (s : State) (c : Cmd), s.startable tag 0x48 = some c → c.at 5 1 = 1 → s.cpwFn (c.at 4 1) = Fn.on → (s.pwc (c.at 4 1)).reduce = none → c.at 4 1 < 16 → ∃ t, exec (.powerPortDisable tag) s = .next t ∧ t.stageOf tag = some .running ∧ t.cpwFn (c.at 4 1) = Fn.disabling ∧ t.bit Fld.CPW_PORT_STATUS.PEN (c.at 4 1) = false) ∧
  (∀ (tag : Nat) (s : State) (c : Cmd), s.startable tag 0x48 = some c → c.at 5 1 = 2 → s.cpwFn (c.at 4 1) = Fn.on → s.cstate (c.at 4 1) = Cs.contract → (s.pwc (c.at 4 1)).reduce = none → c.at 4 1 < 16 → s.takesCompletion c = true → ∃ t, exec (.powerPortForceDefault tag) s = .next t ∧ t.cmd tag = none ∧ s.reports t c St.success (t.portStatus (c.at 4 1)) (t.fld Fld.CPW_CONTRACT.CONTRACT (c.at 4 1)) = true ∧ t.cstate (c.at 4 1) = Cs.transition) ∧
  (∀ (tag : Nat) (s : State) (c : Cmd), s.startable tag 0x48 = some c → c.at 5 1 = 3 → s.requestActive (c.at 4 1) = false → s.cstate (c.at 4 1) = Cs.contract → 0 < currOf (c.at 8 4) → currOf (c.at 8 4) < currOf (s.fld Fld.CPW_CONTRACT.CONTRACT (c.at 4 1)) → (s.pwc (c.at 4 1)).reduce = none → c.at 4 1 < 16 → ∃ t, exec (.powerPortReduce tag) s = .next t ∧ t.stageOf tag = some .running ∧ (t.pwc (c.at 4 1)).reduce = some (voltOf (s.fld Fld.CPW_CONTRACT.CONTRACT (c.at 4 1)) + currOf (c.at 8 4) * 2 ^ 12) ∧ (t.pwc (c.at 4 1)).reduceAt = s.chr.ns) ∧
  (∀ (tag : Nat) (s : State) (c : Cmd), s.startable tag 0x48 = some c → c.at 5 1 = 4 → c.at 4 1 < 16 → s.takesCompletion c = true → ∃ t, exec (.powerPortSetLimit tag) s = .next t ∧ t.cmd tag = none ∧ s.reports t c St.success (s.portStatus (c.at 4 1)) (s.fld Fld.CPW_CONTRACT.CONTRACT (c.at 4 1)) = true ∧ t.fld Fld.CPW_LIMIT.VMAX (c.at 4 1) = voltOf (c.at 8 4) ∧ t.fld Fld.CPW_LIMIT.IMAX (c.at 4 1) = currOf (c.at 8 4)) ∧
  (∀ (tag : Nat) (s : State) (c : Cmd), s.startable tag 0x49 = some c → s.takesCompletion c = true → ∃ t, exec (.powerBudget tag) s = .next t ∧ t.cmd tag = none ∧ s.reports t c St.success (s.fld Fld.CPW_BUDGET.USED) = true ∧ t.fld Fld.CPW_BUDGET.LIMIT = c.at 8 2) ∧
  (∀ (tag : Nat) (s : State) (c : Cmd), s.startable tag 0x4A = some c → s.canIssue (s.insFn c.ins) = true → s.takesCompletion c = true → ∃ t, exec (.powerRead tag) s = .next t ∧ t.cmd tag = none ∧ s.reports t c St.success = true ∧ (s.dropped c = true → s.bit Fld.INS_LOG_CFG.RUNNING c.ins = false → readBytes memDefault t.host (c.at 8 8) 32 = ((List.range 8).flatMap fun i => toBytes (t.word (0x24104 + 4 * i) (c.at 4 1)) 4) ∧ hostKept (c.at 8 8) 32 s t))

/-- At a powered sink, of a good message not yet taken (which it acknowledges): PWC_CAPS lets it ask for a contract within them; PWC_ACCEPT of what it asked begins its TRANSITION; PWC_PS_READY in TRANSITION reaches CONTRACT under the word; PWC_REDUCE lowers the contract and is accepted; PWC_PING is acknowledged; PWC_REJECT ends its request for 10 ms. SINK_SUPPLY_FAIL in LOCAL pulls the wire low and is in CONTRACT; SINK_VBUS_CHANGE powers it in DEFAULT or takes everything; SINK_KEEP_ALIVE_TIMER in CONTRACT sends KEEP_ALIVE, SINK_BEAT_TIMER in TRANSITION a beat, each at its instant. Where the spec leaves a point open, what it says is the model's choice: log entry 36. -/
def Obligations.SinksKeepTheirSideOfAContract : Prop :=
  (∀ (d id word ask : Nat) (levels : List Bool) (s : State), (s.dev d).sink ≠ .unpowered → pwcRead false levels = some (1, id, word) → (s.dev d).sinkLine.lastRx ≠ some id → ask ≠ 0 → (s.dev d).sink ≠ .local → voltOf ask ≤ bitsAt word 0 12 → currOf ask ≤ bitsAt word 12 10 → (s.dev d).sinkSince ≤ s.chr.ns → ∃ t, exec (.pwcCaps d levels ask) s = .next t ∧ (t.dev d).sinkAsked = ask % 2 ^ 22 ∧ (t.dev d).sinkLine.outq = (s.dev d).sinkLine.outq ++ [{ type := 3, id := (s.dev d).sinkLine.msgId, word := ask % 2 ^ 22 }] ∧ t.out.head? = some (.pwc (1000 + d) (s.chr.ns + pwcGap) (pwcWire true 0 id [])) ∧ keepsBut [] s t) ∧
  (∀ (d id word : Nat) (levels : List Bool) (s : State), (s.dev d).sink ≠ .unpowered → pwcRead false levels = some (4, id, word) → (s.dev d).sinkLine.lastRx ≠ some id → (s.dev d).sink = .default → (s.dev d).sinkAsked ≠ 0 → ∃ t, exec (.pwcAccept d levels) s = .next t ∧ (t.dev d).sink = .transition ∧ (t.dev d).sinkAsked = 0 ∧ (t.dev d).sinkBeatAt = s.chr.ns + 20000 ∧ t.out.head? = some (.pwc (1000 + d) (s.chr.ns + pwcGap) (pwcWire true 0 id [])) ∧ keepsBut [] s t) ∧
  (∀ (d id word : Nat) (levels : List Bool) (s : State), (s.dev d).sink ≠ .unpowered → pwcRead false levels = some (6, id, word) → (s.dev d).sinkLine.lastRx ≠ some id → (s.dev d).sink = .transition → ∃ t, exec (.pwcPsReady d levels 0) s = .next t ∧ (t.dev d).sink = .contract ∧ (t.dev d).sinkContract = word % 2 ^ 22 ∧ (t.dev d).sinkAliveAt = s.chr.ns + 500000000 ∧ t.out.head? = some (.pwc (1000 + d) (s.chr.ns + pwcGap) (pwcWire true 0 id [])) ∧ keepsBut [] s t) ∧
  (∀ (d id word : Nat) (levels : List Bool) (s : State), (s.dev d).sink ≠ .unpowered → pwcRead false levels = some (10, id, word) → (s.dev d).sinkLine.lastRx ≠ some id → ∃ t, exec (.pwcReduce d levels) s = .next t ∧ (t.dev d).sinkContract = word % 2 ^ 22 ∧ (t.dev d).sinkLine.outq = (s.dev d).sinkLine.outq ++ [{ type := 4, id := (s.dev d).sinkLine.msgId, word := word % 2 ^ 22 }] ∧ t.out.head? = some (.pwc (1000 + d) (s.chr.ns + pwcGap) (pwcWire true 0 id [])) ∧ keepsBut [] s t) ∧
  (∀ (d id word : Nat) (levels : List Bool) (s : State), (s.dev d).sink ≠ .unpowered → pwcRead false levels = some (11, id, word) → ∃ t, exec (.pwcPing d levels) s = .next t ∧ t.out.head? = some (.pwc (1000 + d) (s.chr.ns + pwcGap) (pwcWire true 0 id [])) ∧ (t.dev d).sink = (s.dev d).sink ∧ keepsBut [] s t) ∧
  (∀ (d id word : Nat) (levels : List Bool) (s : State), (s.dev d).sink ≠ .unpowered → pwcRead false levels = some (5, id, word) → (s.dev d).sinkLine.lastRx ≠ some id → ∃ t, exec (.pwcReject d levels) s = .next t ∧ (t.dev d).sinkAsked = 0 ∧ (t.dev d).sinkSince = s.chr.ns + 10000000 ∧ (t.dev d).sink = (s.dev d).sink ∧ t.out.head? = some (.pwc (1000 + d) (s.chr.ns + pwcGap) (pwcWire true 0 id [])) ∧ keepsBut [] s t) ∧
  (∀ (d : Nat) (s : State), (s.dev d).sink = .local → ∃ t, exec (.sinkSupplyFail d) s = .next t ∧ (t.dev d).sink = .contract ∧ (t.dev d).sinkContract = (s.dev d).sinkArm ∧ t.out = [.pwc (1000 + d) s.chr.ns (List.replicate 16 false)] ∧ keepsBut [] s t) ∧
  (∀ (d : Nat) (s : State), ∃ t, exec (.sinkVbusChange d false) s = .next t ∧ (t.dev d).sink = .unpowered ∧ (t.dev d).sinkContract = 0 ∧ (t.dev d).sinkLine = {} ∧ keepsBut [] s t) ∧
  (∀ (d : Nat) (s : State), (s.dev d).sink = .unpowered → ∃ t, exec (.sinkVbusChange d true) s = .next t ∧ (t.dev d).sink = .default ∧ (t.dev d).sinkContract = defaultContract ∧ keepsBut [] s t) ∧
  (∀ (d : Nat) (s : State), ((s.dev d).sink = .contract ∨ (s.dev d).sink = .local) → s.reaches (s.dev d).sinkAliveAt = true → ∃ t, exec (.sinkKeepAliveTimer d) s = .next t ∧ (t.dev d).sinkLine.outq = (s.dev d).sinkLine.outq ++ [{ type := 7, id := (s.dev d).sinkLine.msgId, word := 0 }] ∧ (t.dev d).sinkAliveAt = max s.chr.ns (s.dev d).sinkAliveAt + 500000000 ∧ keepsBut [] s t) ∧
  (∀ (d : Nat) (s : State), (s.dev d).sink = .transition → s.reaches (s.dev d).sinkBeatAt = true → ∃ t, exec (.sinkBeatTimer d) s = .next t ∧ t.out = [.pwc (1000 + d) (max s.chr.ns (s.dev d).sinkBeatAt) [false, false]] ∧ (t.dev d).sinkBeatAt = max s.chr.ns (s.dev d).sinkBeatAt + 20000 ∧ keepsBut [] s t)

/-- Of an end that trains, a lane of the controller or a port of a device: LANE_LOCK of enough sets shows the lock; with the peer locked DETECT goes to CAPS. TRAIN_RECEIVE: LOCKED with the own lock takes DETECT to CAPS; the sixteenth READY in a row in CONFIRM, with 16 sent and neither end failing, reaches UP. CAPS_RECEIVE of an incompatible kind is MISWIRED and ERROR; the fourth alike, acknowledged, goes to EQ with the generation in use, and to GEN_SWITCH with another. LEGACY_DETECT at its instant shows a legacy peer. GEN_GO_RECEIVE sets the target at D. GEN_SWITCH_IDLE_END at its instant goes to ALIGN at the target generation. EQ_SWEEP_DONE at its instant takes the widest eye, remembers a failed one and goes to CONFIRM; EQ_REQ_RECEIVE applies and acknowledges the de-emphasis. TRAINING_TIMEOUT in CAPS at its instant fails the attempt; ATTEMPT_IDLE_END at its instant is back in DETECT. Where the spec leaves a point open, what it says is the model's choice: log entry 28. -/
def Obligations.LanesTrainStepByStep : Prop :=
  (∀ (n off k run : Nat) (s : State), s.trains n = true → s.lstate n = Ls.detect → (s.lane n).idle = false → s.noSignal n = false → s.lockHeld n = false → (s.lane n).peerLocked = true → (n < 19 → s.bit Fld.LNK_CFG.SW_ALIGN n = false) → ((if (s.lane n).gen = 3 then 64 else 4) ≤ run) → ∃ t, exec (.laneLock n off k run) s = .next t ∧ t.lstate n = Ls.caps ∧ t.lockHeld n = true ∧ (n < 19 → t.fld Fld.LNK_ALIGN.COMMAS n = min 255 k) ∧ t.out = [.ordered n ((OSet.train true false false false).codes (s.lane n).gen), .ordered n ((s.ownCaps n false).codes (s.lane n).gen)]) ∧
  (∀ (n word : Nat) (s : State), s.trains n = true → s.lstate n = Ls.detect → word % 256 = 0x21 → bitAt word 8 = true → s.lockHeld n = true → (s.lane n).idle = false → ∃ t, exec (.trainReceive n word) s = .next t ∧ t.lstate n = Ls.caps) ∧
  (∀ (n word : Nat) (s : State), s.trains n = true → s.lstate n = Ls.confirm → word % 256 = 0x21 → bitAt word 9 = true → bitAt word 10 = false → (s.lane n).idle = false → 15 ≤ (s.lane n).readyRun → (s.lane n).eqFail = false → (s.lane n).entered + setsTime (s.lane n).gen (.train true true true true) 16 ≤ s.chr.ns → ∃ t, exec (.trainReceive n word) s = .next t ∧ t.lstate n = Ls.up ∧ (n < 19 → t.fld Fld.LNK_STATUS.FUNC_STATE n = Fn.on ∧ t.bit Fld.LNK_EVENT.LINK_UP n = true ∧ t.fld Fld.LNK_STATUS.ATTEMPTS n = 0 ∧ t.fld Fld.LNK_STATUS.GEN n = (s.lane n).gen % 4)) ∧
  (∀ (n word : Nat) (s : State), s.trains n = true → s.lstate n = Ls.caps → word % 256 = 0x22 → partner (s.laneKind n) (bitsAt word 8 4) = false → ∃ t, exec (.capsReceive n word) s = .next t ∧ t.lstate n = Ls.error ∧ (n < 19 → t.bit Fld.LNK_EVENT.MISWIRED n = true ∧ t.fld Fld.LNK_STATUS.PEER_KIND n = bitsAt word 8 4)) ∧
  (∀ (n word : Nat) (s : State), s.trains n = true → s.lstate n = Ls.caps → word % 256 = 0x22 → bitAt word 17 = true → partner (s.laneKind n) (bitsAt word 8 4) = true → (s.lane n).caps = some (word % 2 ^ 64 - 2 ^ 17) → (s.lane n).capsRun = 3 → (min (s.ownGen n) (max 1 (bitsAt word 12 2)) = (s.lane n).gen ∨ auxLane n = true) → (n < 19 → s.bit Fld.LNK_CFG.EQ_FIXED n = false) → ∃ t, exec (.capsReceive n word) s = .next t ∧ t.lstate n = Ls.eq ∧ (t.lane n).target = (s.lane n).gen) ∧
  (∀ (n word : Nat) (s : State), s.trains n = true → s.lstate n = Ls.caps → word % 256 = 0x22 → bitAt word 17 = true → partner (s.laneKind n) (bitsAt word 8 4) = true → (s.lane n).caps = some (word % 2 ^ 64 - 2 ^ 17) → (s.lane n).capsRun = 3 → min (s.ownGen n) (max 1 (bitsAt word 12 2)) ≠ (s.lane n).gen → auxLane n = false → ∃ t, exec (.capsReceive n word) s = .next t ∧ t.lstate n = Ls.genSwitch ∧ (t.lane n).target = min (s.ownGen n) (max 1 (bitsAt word 12 2))) ∧
  (∀ (n : Nat) (s : State), s.trains n = true → isU n = true → s.lstate n = Ls.caps → (s.lane n).trainSeen = true → (s.lane n).caps = none → partner (s.laneKind n) 4 = true → s.reaches ((s.lane n).entered + 2000000) = true → ∃ t, exec (.legacyDetect n) s = .next t ∧ (t.lane n).legacy = true ∧ (n < 19 → t.bit Fld.LNK_STATUS.LEGACY n = true ∧ t.fld Fld.LNK_STATUS.PEER_KIND n = 4) ∧ (t.lstate n = Ls.eq ∨ t.lstate n = Ls.confirm)) ∧
  (∀ (n t0 : Nat) (s : State), s.trains n = true → s.lstate n = Ls.genSwitch → (s.lane n).goAt = some t0 → s.reaches (t0 + 2000) = true → ∃ t, exec (.genSwitchIdleEnd n) s = .next t ∧ t.lstate n = Ls.align ∧ (t.lane n).gen = (s.lane n).target ∧ t.out = [.ordered n ((OSet.train (s.lockHeld n) false false false).codes (s.lane n).target)]) ∧
  (∀ (n word : Nat) (s : State), s.trains n = true → isU n = false → auxLane n = false → s.lstate n = Ls.caps → word % 256 = 0x23 → bitsAt word 16 4 ≠ 0 → ∃ t, exec (.genGoReceive n word) s = .next t ∧ t.lstate n = Ls.genSwitch ∧ (t.lane n).target = max 1 (bitsAt word 8 2) ∧ (t.lane n).goAt = some (s.chr.ns + 1000) ∧ keepsBut [] s t) ∧
  (∀ (n : Nat) (eyes : List Nat) (s : State), s.trains n = true → s.lstate n = Ls.eq → (s.reaches ((s.lane n).entered + if (s.lane n).gen = 1 then 960000 else 12500000) = true) → ∃ t, exec (.eqSweepDone n eyes) s = .next t ∧ t.lstate n = Ls.confirm ∧ (t.lane n).eqFail = decide ((widest (eyes.take (if (s.lane n).gen = 1 then 16 else 208))).2 < eyeLimit (s.lane n).gen) ∧ (n < 19 → t.fld Fld.LNK_EQ_RESULT.EYE n = (widest (eyes.take (if (s.lane n).gen = 1 then 16 else 208))).2 % 2 ^ Fld.LNK_EQ_RESULT.EYE.w ∧ t.fld Fld.LNK_EQ_RESULT.RX_CTLE n = (widest (eyes.take (if (s.lane n).gen = 1 then 16 else 208))).1 % 16)) ∧
  (∀ (n word : Nat) (s : State), s.trains n = true → (s.lstate n = Ls.eq ∨ s.lstate n = Ls.confirm) → word % 256 = 0x24 → bitAt word 13 = false → (s.lane n).gen ≠ 1 → ∃ t, exec (.eqReqReceive n word) s = .next t ∧ (n < 19 → t.fld Fld.LNK_EQ_RESULT.TX_DEEMPH n = min 12 (bitsAt word 8 5)) ∧ t.out = [.ordered n ((OSet.eqReq (min 12 (bitsAt word 8 5)) true).codes (s.lane n).gen)] ∧ keepsBut [(Fld.LNK_EQ_RESULT.TX_DEEMPH, n)] s t) ∧
  (∀ (n : Nat) (s : State), s.trains n = true → s.lstate n = Ls.caps → (s.lane n).idle = false → (isU n && (s.lane n).trainSeen && (s.lane n).caps == none) = false → (n < 19 → s.fld Fld.LNK_CFG.MAX_ATTEMPTS n = 0) → s.reaches ((s.lane n).entered + 2000000) = true → ∃ t, exec (.trainingTimeout n) s = .next t ∧ t.lstate n = Ls.detect ∧ (t.lane n).idle = true ∧ (n < 19 → t.bit Fld.LNK_EVENT.ATTEMPT_FAILED n = true ∧ t.fld Fld.LNK_STATUS.ATTEMPTS n = min 15 (s.fld Fld.LNK_STATUS.ATTEMPTS n + 1))) ∧
  (∀ (n : Nat) (s : State), isEnd n = true → (s.lane n).idle = true → s.reaches ((s.lane n).entered + 10000000) = true → ∃ t, exec (.attemptIdleEnd n) s = .next t ∧ t.lstate n = Ls.detect ∧ (t.lane n).idle = false ∧ t.lockHeld n = false)

/-- LNK_ENABLE of a lane that is OFF starts DETECT; LNK_DISABLE of one that is ON makes it DISABLING in DISABLED, and LANE_DISABLED makes that OFF. At either end of a link, LANE_LOCK_LOSS and RETRAIN_RECEIVE fast in UP, and at the controller LNK_RETRAIN and CODE_ERROR reaching its threshold in UP, go to RETRAIN after 8 RETRAIN; LNK_FULL_RETRAIN and RETRAIN_RECEIVE full go to DETECT. TYPE_ERROR and FRAME_ERROR count and change nothing else. LANE_LOST 10 us after the signal of an end in UP ended, and LINK_OFF DISABLE at U, lose the lane: DETECT and the event; LINK_OFF LOW_POWER takes D to LOW_POWER. LANE_SIGNAL_CHANGE shows the loss of signal. LNK_LOW_POWER in UP goes to LOW_POWER; there LNK_WAKE_REMOTE and FOGHORN_BURST send the bursts. LNK_SLIP moves the offset by one in software mode. Where the spec leaves a point open, what it says is the model's choice: log entry 28. -/
def Obligations.LanesAreSwitchedRetrainedAndLost : Prop :=
  (∀ (n : Nat) (s : State), n < 19 → s.fld Fld.LNK_STATUS.FUNC_STATE n = Fn.off → ∃ t, exec (.lnkEnable n) s = .next t ∧ t.lstate n = Ls.detect ∧ t.fld Fld.LNK_STATUS.FUNC_STATE n = Fn.enabling ∧ t.bit Fld.LNK_CTRL.ENABLE n = true ∧ t.out = [.ordered n ((OSet.train false false false false).codes (if auxLane n then 3 else 1))]) ∧
  (∀ (n : Nat) (s : State), n < 19 → s.lstate n = Ls.up → s.fld Fld.LNK_STATUS.FUNC_STATE n = Fn.on → (s.lane n).idle = false → ∃ t, exec (.lnkDisable n) s = .next t ∧ t.lstate n = Ls.disabled ∧ t.fld Fld.LNK_STATUS.FUNC_STATE n = Fn.disabling ∧ t.bit Fld.LNK_CTRL.ENABLE n = false ∧ (t.fixOf n).outstanding = none ∧ t.out.head? = some (.ordered n ((List.replicate 8 (OSet.linkOff false)).flatMap (OSet.codes (s.lane n).gen)))) ∧
  (∀ (n : Nat) (s : State), n < 19 → s.fld Fld.LNK_STATUS.FUNC_STATE n = Fn.disabling → s.bit Fld.LNK_STATUS.PENDING_ENABLE n = false → (n = 18 → s.fld Fld.PAIR_STATUS.FUNC_STATE ≠ Fn.disabling) → ∃ t, exec (.laneDisabled n) s = .next t ∧ t.fld Fld.LNK_STATUS.FUNC_STATE n = Fn.off) ∧
  (∀ (n : Nat) (s : State), isEnd n = true → s.lstate n = Ls.up → ∃ t, exec (.laneLockLoss n) s = .next t ∧ t.lstate n = Ls.retrain ∧ t.lockHeld n = false ∧ t.out.head? = some (.ordered n ((List.replicate 8 (OSet.retrain false)).flatMap (OSet.codes (s.lane n).gen))) ∧ (n < 19 → (t.fixOf n).outstanding = none)) ∧
  (∀ (n : Nat) (s : State), n < 19 → s.lstate n = Ls.up → ∃ t, exec (.lnkRetrain n) s = .next t ∧ t.lstate n = Ls.retrain ∧ t.out.head? = some (.ordered n ((List.replicate 8 (OSet.retrain false)).flatMap (OSet.codes (s.lane n).gen)))) ∧
  (∀ (n word : Nat) (s : State), isEnd n = true → s.lstate n = Ls.up → word % 256 = 0x2E → bitAt word 8 = false → ∃ t, exec (.retrainReceive n word) s = .next t ∧ t.lstate n = Ls.retrain ∧ (t.lane n).fromRetrain = true) ∧
  (∀ (n word : Nat) (s : State), isEnd n = true → s.lstate n = Ls.up → word % 256 = 0x2E → bitAt word 8 = true → ∃ t, exec (.retrainReceive n word) s = .next t ∧ t.lstate n = Ls.detect ∧ (t.lane n).fromRetrain = false) ∧
  (∀ (n : Nat) (s : State), n < 19 → s.lstate n = Ls.up → ∃ t, exec (.lnkFullRetrain n) s = .next t ∧ t.lstate n = Ls.detect ∧ t.out.head? = some (.ordered n ((List.replicate 8 (OSet.retrain true)).flatMap (OSet.codes (s.lane n).gen)))) ∧
  (∀ (n code : Nat) (rd : Bool) (s : State), n < 19 → s.lstate n = Ls.up → validCode (s.lane n).gen code rd = false → s.fld Fld.LNK_ERR_CFG.THRESH n = 1 → ∃ t, exec (.codeError n code rd) s = .next t ∧ t.lstate n = Ls.retrain ∧ t.fld Fld.LNK_ERR_CNT.CODE_ERR n = min (s.fld Fld.LNK_ERR_CNT.CODE_ERR n + 1) (2 ^ Fld.LNK_ERR_CNT.CODE_ERR.w - 1) ∧ (t.lane n).codeErrs = []) ∧
  (∀ (n block : Nat) (s : State), n < 19 → knownType (block % 256) = false → (n == 18 && mirrorType (block % 256)) = false → ∃ t, exec (.typeError n block) s = .next t ∧ t.fld Fld.LNK_ERR_CNT.TYPE_ERR n = min (s.fld Fld.LNK_ERR_CNT.TYPE_ERR n + 1) (2 ^ Fld.LNK_ERR_CNT.TYPE_ERR.w - 1) ∧ keepsBut [(Fld.LNK_ERR_CNT.TYPE_ERR, n)] s t) ∧
  (∀ (n : Nat) (inside : Bool) (pos : Int) (s : State), n < 19 → (inside = true ∨ s.mayBegin n pos = false) → ∃ t, exec (.frameError n inside pos) s = .next t ∧ t.fld Fld.LNK_ERR_CNT.FRAME_ERR n = min (s.fld Fld.LNK_ERR_CNT.FRAME_ERR n + 1) (2 ^ Fld.LNK_ERR_CNT.FRAME_ERR.w - 1) ∧ keepsBut [(Fld.LNK_ERR_CNT.FRAME_ERR, n)] s t) ∧
  (∀ (n t0 : Nat) (s : State), isEnd n = true → s.lstate n = Ls.up → (s.lane n).lostAt = some t0 → (s.lane n).linkOff = false → s.reaches (t0 + 10000) = true → ∃ t, exec (.laneLost n) s = .next t ∧ t.lstate n = Ls.detect ∧ (n < 19 → t.bit Fld.LNK_EVENT.LANE_LOST n = true ∧ (t.fixOf n).outstanding = none)) ∧
  (∀ (n word : Nat) (s : State), isEnd n = true → isU n = true → s.lstate n = Ls.up → word % 256 = 0x2F → bitAt word 8 = false → ∃ t, exec (.linkOffReceive n word) s = .next t ∧ t.lstate n = Ls.detect ∧ (n < 19 → t.bit Fld.LNK_EVENT.LANE_LOST n = true)) ∧
  (∀ (n word : Nat) (s : State), isEnd n = true → isU n = false → s.lstate n = Ls.up → word % 256 = 0x2F → bitAt word 8 = true → ∃ t, exec (.linkOffReceive n word) s = .next t ∧ t.lstate n = Ls.lowPower ∧ t.lockHeld n = false) ∧
  (∀ (n : Nat) (s : State), isEnd n = true → s.laneOn n = true → ∃ t, exec (.laneSignalChange n false) s = .next t ∧ t.noSignal n = true ∧ t.lockHeld n = false ∧ (t.lane n).lostAt = some ((s.lane n).lostAt.getD s.chr.ns) ∧ keepsBut [(Fld.LNK_STATUS.LOS, n), (Fld.LNK_ALIGN.LOCKED, n)] s t) ∧
  (∀ (n : Nat) (s : State), n < 19 → n ≠ 16 → s.lstate n = Ls.up → ∃ t, exec (.lnkLowPower n) s = .next t ∧ t.lstate n = Ls.lowPower ∧ t.out.head? = some (.ordered n ((List.replicate 8 (OSet.linkOff true)).flatMap (OSet.codes (s.lane n).gen)))) ∧
  (∀ (n : Nat) (s : State), n < 19 → s.lstate n = Ls.lowPower → (s.lane n).bursts = 0 → ∃ t, exec (.lnkWakeRemote n) s = .next t ∧ (t.lane n).bursts = 1 ∧ t.out = [.foghorn n] ∧ keepsBut [] s t) ∧
  (∀ (n : Nat) (s : State), isEnd n = true → s.lstate n = Ls.lowPower → (s.lane n).bursts ≠ 0 → (s.lane n).bursts < 200 → s.reaches ((s.lane n).began + (s.lane n).bursts * 1000000) = true → ∃ t, exec (.foghornBurst n) s = .next t ∧ (t.lane n).bursts = (s.lane n).bursts + 1 ∧ t.out = [.foghorn n] ∧ keepsBut [] s t) ∧
  (∀ (n : Nat) (s : State), isEnd n = true → s.lstate n = Ls.lowPower → 200 ≤ (s.lane n).bursts → s.reaches ((s.lane n).began + (s.lane n).bursts * 1000000) = true → ∃ t, exec (.foghornBurst n) s = .next t ∧ (t.lane n).bursts = 0 ∧ t.out = [] ∧ keepsBut [] s t) ∧
  (∀ (n : Nat) (s : State), n < 19 → s.bit Fld.LNK_CFG.SW_ALIGN n = true → ∃ t, exec (.lnkSlip n) s = .next t ∧ t.fld Fld.LNK_ALIGN.OFFSET n = (s.fld Fld.LNK_ALIGN.OFFSET n + 1) % (if (s.lane n).gen = 3 then 66 else 10) ∧ keepsBut [(Fld.LNK_ALIGN.OFFSET, n)] s t)

/-- For an entry from 1 to 4,094: WRITE of a FREE or ABSENT entry takes the four staged words, when their STATE is FREE or ABSENT; FORGET makes an ABSENT entry FREE; QUARANTINE of an ACTIVE or SUSPECT node makes quarantine fall due; RELEASE of a QUARANTINE node makes its release fall due; each sets DONE and clears REFUSED. In every other case REFUSED is set, DONE cleared, and the tree logic is as it was. A read of TRE_NODE_DATA[0] takes the four words of the entry; all four are 0 at 4,095. Where the spec leaves a point open, what it says is the model's choice: log entry 30. -/
def Obligations.NodeTableCommandsActOrAreRefused : Prop :=
  (∀ (a : Nat) (s : State), a = s.fld Fld.TRE_NODE_INDEX.INDEX → a ≠ 0 → a < 4095 → ((s.node a).state = .free ∨ (s.node a).state = .absent) → tget 0 s.tree.staged 3 % 16 ≤ 1 → ∃ t, exec (.treNodeWrite) s = .next t ∧ t.node a = NodeEntry.ofWords (tget 0 s.tree.staged 0) (tget 0 s.tree.staged 1) (tget 0 s.tree.staged 2) (tget 0 s.tree.staged 3) ∧ t.bit Fld.TRE_NODE_STATUS.DONE = true ∧ t.bit Fld.TRE_NODE_STATUS.REFUSED = false ∧ keepsBut [(Fld.TRE_NODE_STATUS.DONE, 0), (Fld.TRE_NODE_STATUS.REFUSED, 0), (Fld.TRE_COUNT.ABSENT, 0), (Fld.TRE_COUNT.PRESENT, 0)] s t) ∧
  (∀ (a : Nat) (s : State), a = s.fld Fld.TRE_NODE_INDEX.INDEX → (a = 0 ∨ 4095 ≤ a ∨ ((s.node a).state ≠ .free ∧ (s.node a).state ≠ .absent) ∨ 1 < tget 0 s.tree.staged 3 % 16) → ∃ t, exec (.treNodeWrite) s = .next t ∧ t.bit Fld.TRE_NODE_STATUS.REFUSED = true ∧ t.bit Fld.TRE_NODE_STATUS.DONE = false ∧ t.tree = s.tree ∧ keepsBut [(Fld.TRE_NODE_STATUS.DONE, 0), (Fld.TRE_NODE_STATUS.REFUSED, 0)] s t) ∧
  (∀ (a : Nat) (s : State), a = s.fld Fld.TRE_NODE_INDEX.INDEX → a ≠ 0 → a < 4095 → (s.node a).state = .absent → ∃ t, exec (.treNodeForget) s = .next t ∧ t.node a = { s.node a with state := .free, template := false } ∧ t.bit Fld.TRE_NODE_STATUS.DONE = true ∧ t.bit Fld.TRE_NODE_STATUS.REFUSED = false ∧ keepsBut [(Fld.TRE_NODE_STATUS.DONE, 0), (Fld.TRE_NODE_STATUS.REFUSED, 0), (Fld.TRE_COUNT.ABSENT, 0), (Fld.TRE_COUNT.PRESENT, 0)] s t) ∧
  (∀ (a : Nat) (s : State), a = s.fld Fld.TRE_NODE_INDEX.INDEX → (a = 0 ∨ 4095 ≤ a ∨ (s.node a).state ≠ .absent) → ∃ t, exec (.treNodeForget) s = .next t ∧ t.bit Fld.TRE_NODE_STATUS.REFUSED = true ∧ t.bit Fld.TRE_NODE_STATUS.DONE = false ∧ t.tree = s.tree ∧ keepsBut [(Fld.TRE_NODE_STATUS.DONE, 0), (Fld.TRE_NODE_STATUS.REFUSED, 0)] s t) ∧
  (∀ (a : Nat) (s : State), a = s.fld Fld.TRE_NODE_INDEX.INDEX → a ≠ 0 → a < 4095 → ((s.node a).state = .active ∨ (s.node a).state = .suspect) → ∃ t, exec (.treNodeQuarantine) s = .next t ∧ t.tree.nodes = s.tree.nodes ∧ (t.nrec a).quarantine = some ((s.nrec a).quarantine.getD 1) ∧ t.bit Fld.TRE_NODE_STATUS.DONE = true ∧ t.bit Fld.TRE_NODE_STATUS.REFUSED = false ∧ keepsBut [(Fld.TRE_NODE_STATUS.DONE, 0), (Fld.TRE_NODE_STATUS.REFUSED, 0)] s t) ∧
  (∀ (a : Nat) (s : State), a = s.fld Fld.TRE_NODE_INDEX.INDEX → (a = 0 ∨ 4095 ≤ a ∨ ((s.node a).state ≠ .active ∧ (s.node a).state ≠ .suspect)) → ∃ t, exec (.treNodeQuarantine) s = .next t ∧ t.bit Fld.TRE_NODE_STATUS.REFUSED = true ∧ t.bit Fld.TRE_NODE_STATUS.DONE = false ∧ t.tree = s.tree ∧ keepsBut [(Fld.TRE_NODE_STATUS.DONE, 0), (Fld.TRE_NODE_STATUS.REFUSED, 0)] s t) ∧
  (∀ (a : Nat) (s : State), a = s.fld Fld.TRE_NODE_INDEX.INDEX → a ≠ 0 → a < 4095 → (s.node a).state = .quarantine → ∃ t, exec (.treNodeRelease) s = .next t ∧ t.tree.nodes = s.tree.nodes ∧ (t.nrec a).release = true ∧ t.bit Fld.TRE_NODE_STATUS.DONE = true ∧ t.bit Fld.TRE_NODE_STATUS.REFUSED = false ∧ keepsBut [(Fld.TRE_NODE_STATUS.DONE, 0), (Fld.TRE_NODE_STATUS.REFUSED, 0)] s t) ∧
  (∀ (a : Nat) (s : State), a = s.fld Fld.TRE_NODE_INDEX.INDEX → (a = 0 ∨ 4095 ≤ a ∨ (s.node a).state ≠ .quarantine) → ∃ t, exec (.treNodeRelease) s = .next t ∧ t.bit Fld.TRE_NODE_STATUS.REFUSED = true ∧ t.bit Fld.TRE_NODE_STATUS.DONE = false ∧ t.tree = s.tree ∧ keepsBut [(Fld.TRE_NODE_STATUS.DONE, 0), (Fld.TRE_NODE_STATUS.REFUSED, 0)] s t) ∧
  (∀ (s : State), ∃ t, exec (.treNodeDataSnapshot) s = .next t ∧ (∀ k < 4, t.fld Fld.TRE_NODE_DATA.DATA k = (if s.fld Fld.TRE_NODE_INDEX.INDEX = 4095 then 0 else (s.node (s.fld Fld.TRE_NODE_INDEX.INDEX)).word k)) ∧ keepsBut [(Fld.TRE_NODE_DATA.DATA, 0), (Fld.TRE_NODE_DATA.DATA, 1), (Fld.TRE_NODE_DATA.DATA, 2), (Fld.TRE_NODE_DATA.DATA, 3)] s t)

/-- NODE_OP WRITE, FORGET, QUARANTINE and RELEASE do to the entry at NODE what the commands of TRE_NODE_CMD do, WRITE with the words of the entry, and complete SUCCESS; a node or a state that does not allow it completes BAD_ENTRY and changes no entry. READ writes the 16 bytes of the entry at DATA and completes SUCCESS. ENUM_RETRY queues the failed locations of the ports of its mask again and completes SUCCESS. Where the spec leaves a point open, what it says is the model's choice: log entry 30. -/
def Obligations.NodeOperationsActOrAreRefused : Prop :=
  (∀ (tag : Nat) (s : State) (c : Cmd), s.startable tag 0x13 = some c → c.at 4 1 = 0 → c.at 8 2 ≠ 0 → c.at 8 2 < 4095 → ((s.node (c.at 8 2)).state = .free ∨ (s.node (c.at 8 2)).state = .absent) → c.at 28 4 % 16 ≤ 1 → s.takesCompletion c = true → ∃ t, exec (.nodeOpWrite tag) s = .next t ∧ t.cmd tag = none ∧ s.reports t c St.success = true ∧ t.node (c.at 8 2) = NodeEntry.ofWords (c.at 16 4) (c.at 20 4) (c.at 24 4) (c.at 28 4)) ∧
  (∀ (tag : Nat) (s : State) (c : Cmd), s.startable tag 0x13 = some c → c.at 4 1 = 0 → (c.at 8 2 = 0 ∨ 4095 ≤ c.at 8 2 ∨ ((s.node (c.at 8 2)).state ≠ .free ∧ (s.node (c.at 8 2)).state ≠ .absent) ∨ 1 < c.at 28 4 % 16) → s.takesCompletion c = true → ∃ t, exec (.nodeOpWrite tag) s = .next t ∧ t.cmd tag = none ∧ s.reports t c St.badEntry = true ∧ t.tree = s.tree) ∧
  (∀ (tag : Nat) (s : State) (c : Cmd), s.startable tag 0x13 = some c → c.at 4 1 = 1 → c.at 8 2 ≠ 0 → c.at 8 2 < 4095 → (s.node (c.at 8 2)).state = .absent → s.takesCompletion c = true → ∃ t, exec (.nodeOpForget tag) s = .next t ∧ t.cmd tag = none ∧ s.reports t c St.success = true ∧ t.node (c.at 8 2) = { s.node (c.at 8 2) with state := .free, template := false }) ∧
  (∀ (tag : Nat) (s : State) (c : Cmd), s.startable tag 0x13 = some c → c.at 4 1 = 1 → (c.at 8 2 = 0 ∨ 4095 ≤ c.at 8 2 ∨ (s.node (c.at 8 2)).state ≠ .absent) → s.takesCompletion c = true → ∃ t, exec (.nodeOpForget tag) s = .next t ∧ t.cmd tag = none ∧ s.reports t c St.badEntry = true ∧ t.tree = s.tree) ∧
  (∀ (tag : Nat) (s : State) (c : Cmd), s.startable tag 0x13 = some c → c.at 4 1 = 2 → c.at 8 2 ≠ 0 → c.at 8 2 < 4095 → ((s.node (c.at 8 2)).state = .active ∨ (s.node (c.at 8 2)).state = .suspect) → s.takesCompletion c = true → ∃ t, exec (.nodeOpQuarantine tag) s = .next t ∧ t.cmd tag = none ∧ s.reports t c St.success = true ∧ (t.nrec (c.at 8 2)).quarantine = some ((s.nrec (c.at 8 2)).quarantine.getD 1)) ∧
  (∀ (tag : Nat) (s : State) (c : Cmd), s.startable tag 0x13 = some c → c.at 4 1 = 2 → (c.at 8 2 = 0 ∨ 4095 ≤ c.at 8 2 ∨ ((s.node (c.at 8 2)).state ≠ .active ∧ (s.node (c.at 8 2)).state ≠ .suspect)) → s.takesCompletion c = true → ∃ t, exec (.nodeOpQuarantine tag) s = .next t ∧ t.cmd tag = none ∧ s.reports t c St.badEntry = true ∧ t.tree = s.tree) ∧
  (∀ (tag : Nat) (s : State) (c : Cmd), s.startable tag 0x13 = some c → c.at 4 1 = 3 → c.at 8 2 ≠ 0 → c.at 8 2 < 4095 → (s.node (c.at 8 2)).state = .quarantine → s.takesCompletion c = true → ∃ t, exec (.nodeOpRelease tag) s = .next t ∧ t.cmd tag = none ∧ s.reports t c St.success = true ∧ (t.nrec (c.at 8 2)).release = true) ∧
  (∀ (tag : Nat) (s : State) (c : Cmd), s.startable tag 0x13 = some c → c.at 4 1 = 3 → (c.at 8 2 = 0 ∨ 4095 ≤ c.at 8 2 ∨ (s.node (c.at 8 2)).state ≠ .quarantine) → s.takesCompletion c = true → ∃ t, exec (.nodeOpRelease tag) s = .next t ∧ t.cmd tag = none ∧ s.reports t c St.badEntry = true ∧ t.tree = s.tree) ∧
  (∀ (tag : Nat) (s : State) (c : Cmd), s.startable tag 0x13 = some c → c.at 4 1 = 4 → s.canIssue (s.insFn c.ins) = true → s.takesCompletion c = true → ∃ t, exec (.nodeOpRead tag) s = .next t ∧ t.cmd tag = none ∧ s.reports t c St.success = true ∧ (s.dropped c = true → s.bit Fld.INS_LOG_CFG.RUNNING c.ins = false → readBytes memDefault t.host (c.at 40 8) 16 = ((List.range 4).flatMap fun k => toBytes (if c.at 8 2 = 4095 then 0 else (s.node (c.at 8 2)).word k) 4) ∧ hostKept (c.at 40 8) 16 s t) ∧ t.tree = s.tree) ∧
  (∀ (tag : Nat) (s : State) (c : Cmd), s.startable tag 0x13 = some c → c.at 4 1 = 5 → s.takesCompletion c = true → ∃ t, exec (.nodeOpEnumRetry tag) s = .next t ∧ t.cmd tag = none ∧ s.reports t c St.success = true ∧ (∀ p < 16, bitAt (c.at 8 2) p = true → (t.treeOf p).queue = (s.treeOf p).queue ++ (s.treeOf p).failed ∧ (t.treeOf p).failed = []))

/-- ENUM_START with enumeration enabled, not as a standby, on a port that is UP, takes the first queued location: on a root port it reads the node descriptor from address 4,095 (step 2); behind an active hub it opens the gate of the hub port first (step 1). ENUM_REQUEST_DONE: a TIMEOUT within the retries repeats the step; a TIMEOUT beyond them, or another failure, before an address is chosen, fails the enumeration: no job is left, the location is marked failed, LAST_STATUS shows the status. A descriptor of a node on a root port that a free entry can take makes the lowest free address ENUMERATING with what the descriptor says and goes to step 5; SET_ADDRESS makes it ADDRESSED and goes to step 7. SET_CONFIG done before its apply tick waits for it (step 11). ENUM_STEP_TIMEOUT at its instant repeats the step. TRE_ENUM_RETRY queues the failed locations of the named ports again. Where the spec leaves a point open, what it says is the model's choice: log entry 29. -/
def Obligations.EnumerationsAskStepByStep : Prop :=
  (∀ (p : Nat) (l : Location) (rest : List Location) (s : State), p < 16 → (s.treeOf p).job = none → (s.treeOf p).queue = l :: rest → s.enumerates l = true → s.portUp p = true → s.presentAt l = none → l.tier = 0 → ∃ t, exec (.enumStart p) s = .next t ∧ (t.treeOf p).queue = rest ∧ (t.treeOf p).job = some { loc := l, step := 2, conv := some s.conv.next } ∧ t.fld Fld.TRE_ENUM_STATE.STEP p = 2 ∧ t.fld Fld.TRE_STATUS.ENUMERATING = (s.fld Fld.TRE_STATUS.ENUMERATING ||| 2 ^ p) % 2 ^ Fld.TRE_STATUS.ENUMERATING.w ∧ t.conv.convs = s.conv.convs ++ [(s.conv.next, { port := p, node := 4095, control := true, stage := .setup, setup := setupBytes 0x80 0x01 0x01 0 64, inbound := true, length := 64, inSeq0 := 1, keep := true })]) ∧
  (∀ (p : Nat) (l : Location) (rest : List Location) (s : State), p < 16 → (s.treeOf p).job = none → (s.treeOf p).queue = l :: rest → s.enumerates l = true → s.portUp p = true → s.presentAt l = none → l.tier ≠ 0 → (s.node l.parent).state = .active → ∃ t, exec (.enumStart p) s = .next t ∧ (t.treeOf p).job = some { loc := l, step := 1, conv := some s.conv.next } ∧ t.fld Fld.TRE_ENUM_STATE.STEP p = 1 ∧ t.fld Fld.TRE_ENUM_STATE.PARENT p = l.parent % 4096 ∧ t.fld Fld.TRE_ENUM_STATE.HUB_PORT p = l.hubPort % 16 ∧ t.conv.convs = s.conv.convs ++ [(s.conv.next, { port := p, node := l.parent, control := true, stage := .setup, setup := setupBytes 0 0x11 l.hubPort 1 0 (s.nrec l.parent).hubSeq, inSeq0 := 1, keep := true })]) ∧
  (∀ (p k gen : Nat) (data : List Byte) (legacy : Bool) (j : EnumJob) (s : State), (s.treeOf p).job = some j → j.asking = true → s.enumerates j.loc = true → j.conv = some k → s.conv.answers.lookup k = some (St.timeout, data) → j.retries < s.fld Fld.TRE_CFG.ENUM_RETRIES → ∃ t, exec (.enumRequestDone p gen legacy) s = .next t ∧ (t.treeOf p).job.map (·.retries) = some (j.retries + 1) ∧ (t.treeOf p).job.map (·.step) = some j.step ∧ (t.treeOf p).failed = (s.treeOf p).failed) ∧
  (∀ (p k status gen : Nat) (data : List Byte) (legacy : Bool) (j : EnumJob) (s : State), (s.treeOf p).job = some j → j.asking = true → s.enumerates j.loc = true → j.conv = some k → s.conv.answers.lookup k = some (status, data) → status ≠ St.success → status ≠ St.short → (status = St.timeout → s.fld Fld.TRE_CFG.ENUM_RETRIES ≤ j.retries) → j.addr = 0 → p < 16 → ∃ t, exec (.enumRequestDone p gen legacy) s = .next t ∧ (t.treeOf p).job = none ∧ (t.treeOf p).failed = (s.treeOf p).failed ++ [j.loc] ∧ t.fld Fld.TRE_ENUM_STATE.STEP p = 0 ∧ t.fld Fld.TRE_ENUM_STATE.LAST_STATUS p = status % 2 ^ Fld.TRE_ENUM_STATE.LAST_STATUS.w ∧ t.bit Fld.TRE_EVENT.ENUM_FAILED = true ∧ t.bit Fld.TRE_EVENT.ATTACH = true ∧ t.tree.nodes = s.tree.nodes) ∧
  (∀ (p k gen a : Nat) (data : List Byte) (legacy : Bool) (j : EnumJob) (s : State), (s.treeOf p).job = some j → j.asking = true → s.enumerates j.loc = true → j.conv = some k → s.conv.answers.lookup k = some (St.success, data) → j.step = 2 → j.loc.tier = 0 → ofBytes (data.take 1) = 64 → ofBytes ((data.drop 2).take 2) = 0x0100 → s.chooseAddr j.loc (ofBytes ((data.drop 4).take 2)) (ofBytes ((data.drop 6).take 2)) (ofBytes ((data.drop 8).take 4)) = some (a, 3) → 1 ≤ a → a < 4095 → ∃ t, exec (.enumRequestDone p gen legacy) s = .next t ∧ (t.node a).state = .enumerating ∧ (t.node a).vendor = ofBytes ((data.drop 4).take 2) ∧ (t.node a).product = ofBytes ((data.drop 6).take 2) ∧ (t.node a).serial = ofBytes ((data.drop 8).take 4) ∧ (t.node a).port = p ∧ (t.node a).owner = 0 ∧ (t.treeOf p).job.map (fun x => (x.step, x.addr)) = some (5, a) ∧ t.fld Fld.TRE_ENUM_STATE.STEP p = 5) ∧
  (∀ (p k gen : Nat) (data : List Byte) (legacy : Bool) (j : EnumJob) (s : State), (s.treeOf p).job = some j → j.asking = true → s.enumerates j.loc = true → j.conv = some k → s.conv.answers.lookup k = some (St.success, data) → j.step = 5 → j.loc.tier = 0 → 1 ≤ j.addr → j.addr < 4095 → ∃ t, exec (.enumRequestDone p gen legacy) s = .next t ∧ t.node j.addr = { s.node j.addr with state := .addressed } ∧ (t.treeOf p).job.map (fun x => (x.step, x.addr)) = some (7, j.addr)) ∧
  (∀ (p k gen : Nat) (data : List Byte) (legacy : Bool) (j : EnumJob) (s : State), (s.treeOf p).job = some j → j.asking = true → s.enumerates j.loc = true → j.conv = some k → s.conv.answers.lookup k = some (St.success, data) → j.step = 10 → s.tick < j.applyTick → 1 ≤ j.addr → j.addr < 4095 → ∃ t, exec (.enumRequestDone p gen legacy) s = .next t ∧ (t.treeOf p).job.map (·.step) = some 11 ∧ (t.nrec j.addr).appearAt = some j.applyTick ∧ t.fld Fld.TRE_ENUM_STATE.STEP p = 11 ∧ t.node j.addr = s.node j.addr) ∧
  (∀ (p k t0 : Nat) (c : Conv) (j : EnumJob) (s : State), (s.treeOf p).job = some j → j.asking = true → s.enumerates j.loc = true → j.conv = some k → s.convOf k = some c → c.setupAt = some t0 → j.retries < s.fld Fld.TRE_CFG.ENUM_RETRIES → s.reaches (t0 + max 1 (s.fld Fld.TRE_CFG.ENUM_STEP_US) * 1000) = true → ∃ t, exec (.enumStepTimeout p) s = .next t ∧ (t.treeOf p).job.map (·.retries) = some (j.retries + 1) ∧ t0 + max 1 (s.fld Fld.TRE_CFG.ENUM_STEP_US) * 1000 ≤ t.chr.ns) ∧
  (∀ (mask : Nat) (s : State), ∃ t, exec (.treEnumRetry mask) s = .next t ∧ (∀ p < 16, bitAt mask p = true → (t.treeOf p).queue = (s.treeOf p).queue ++ (s.treeOf p).failed ∧ (t.treeOf p).failed = [] ∧ bitAt (t.fld Fld.TRE_STATUS.ENUM_FAILED) p = false) ∧ ∀ p < 16, bitAt mask p = false → t.treeOf p = s.treeOf p ∧ keepsBut [(Fld.TRE_STATUS.ENUM_FAILED, 0)] s t)

/-- HUB_MARKER_FORWARD on the active upstream port, on the first one, or on the other one more than 256 ns after the last marker: that port is active and the marker goes out on every port that is not DOWN, in the form of the port's generation with CORR raised by the residence, or, on a legacy port, with CORR 0 at the local meridian + 2,048 ns; a marker on the other port before that is discarded. HUB_DOWNSTREAM_FORWARD on a hub that has been sent its configuration, from its active port: a frame to 4,095 goes to every ADDRESSED port and every UNADDRESSED one whose gate is open; one to a routed address goes to its port, on a legacy port held until after a marker that would be due before its end; one with no route sets ROUTE_MISS, CHANGE bit 0 and counts SEQ. HUB_UPSTREAM_FORWARD: a frame leaves RES_UP after it came, on both upstream ports of a dual-homed hub; one that would overlap another, or that began together with one of a lower port, is discarded with COLLISION. HUB_PORT_UP: a good first fix makes the port UNADDRESSED with its gate closed and its CHANGE bit set; the third failed one sends a full RETRAIN. HUB_LINK_FIX: a failure is counted; a good fix makes the record valid. HUB_OVERTEMP sets OVERTEMP, once. None of them touches a register of the controller. Where the spec leaves a point open, what it says is the model's choice: log entries 26 and 28. -/
def Obligations.HubsForwardAndWatchTheirPorts : Prop :=
  (∀ (d up word arrival : Nat) (res : List (Nat × Nat)) (h : HubState) (s : State), (s.dev d).hub = some h → up ≤ 1 → (s.lane (32 + 32 * d + 16 * up)).st = 7 → (h.active = none ∨ h.active = some up ∨ h.markerAt + 256 < arrival / 65536) → ∃ t, exec (.hubMarkerForward d up word arrival res) s = .next t ∧ t.dev d = { s.dev d with hub := some { h with active := some up, markerAt := arrival / 65536, dual := h.dual || up == 1 } } ∧ t.out = (((List.range 15).map (· + 1)).filter fun p => (h.port p).state != .down).map (fun p => .hubMarker d p ((OSet.meridian (markerOf (s.endGen (32 + 32 * d + 16 * up)) word).1 (if s.legacyPort d p then 0 else corrUnits (s.endGen (portEnd d p)) ((markerOf (s.endGen (32 + 32 * d + 16 * up)) word).2.1 + tget 0 res p)) (if s.endGen (32 + 32 * d + 16 * up) = 1 then 0 else bitsAt word 56 2) ((markerOf (s.endGen (32 + 32 * d + 16 * up)) word).2.2.getD 0)).codes (s.endGen (portEnd d p))) (if s.legacyPort d p then ((s.dev d).mark (s.endGen (32 + 32 * d + 16 * up)) word arrival).localMerid + 2048 * 65536 else arrival + tget 0 res p)) ∧ keepsBut [] s t) ∧
  (∀ (d up word arrival a : Nat) (res : List (Nat × Nat)) (h : HubState) (s : State), (s.dev d).hub = some h → h.active = some a → a ≠ min up 1 → arrival / 65536 ≤ h.markerAt + 256 → ∃ t, exec (.hubMarkerForward d up word arrival res) s = .next t ∧ t.devs = s.devs ∧ t.out = [] ∧ keepsBut [] s t) ∧
  (∀ (d up arrival residence : Nat) (frame : List Byte) (h : HubState) (s : State), ((s.dev d).config ≠ none ∨ (s.dev d).configNext ≠ none) → (s.dev d).hub = some h → (s.lane (32 + 32 * d + 16 * min up 1)).st = 7 → headerGood frame = true → (Header.ofBytes frame).addr = 4095 → (s.dev d).addr ≠ 4095 → h.active.getD 0 = min up 1 → ∃ t, exec (.hubDownstreamForward d up arrival residence frame) s = .next t ∧ t.devs = s.devs ∧ t.out = (((List.range 15).map (· + 1)).filter fun p => (h.port p).state == .addressed || ((h.port p).state == .unaddressed && (h.port p).gate)).map (fun p => .hubFrame d p (s.hubStart d p ((arrival + residence : Nat) : Int) (frame.take ((Header.ofBytes frame).length + 12))) (padded (s.endGen (portEnd d p)) (frame.take ((Header.ofBytes frame).length + 12)))) ∧ keepsBut [] s t) ∧
  (∀ (d up addr p arrival residence : Nat) (frame : List Byte) (h : HubState) (s : State), ((s.dev d).config ≠ none ∨ (s.dev d).configNext ≠ none) → (s.dev d).hub = some h → (s.lane (32 + 32 * d + 16 * min up 1)).st = 7 → headerGood frame = true → (Header.ofBytes frame).addr = addr → addr ≠ (s.dev d).addr → addr ≠ 0 → addr ≠ 4095 → h.active.getD 0 = min up 1 → tget 0 h.routes addr = p → p ≠ 0 → (h.port p).state = .addressed → s.legacyPort d p = false → ∃ t, exec (.hubDownstreamForward d up arrival residence frame) s = .next t ∧ t.devs = s.devs ∧ t.out = [.hubFrame d p ((arrival + residence : Nat) : Int) (padded (s.endGen (portEnd d p)) (frame.take ((Header.ofBytes frame).length + 12)))] ∧ keepsBut [] s t) ∧
  (∀ (d up addr p arrival residence : Nat) (frame : List Byte) (h : HubState) (s : State), ((s.dev d).config ≠ none ∨ (s.dev d).configNext ≠ none) → (s.dev d).hub = some h → (s.lane (32 + 32 * d + 16 * min up 1)).st = 7 → headerGood frame = true → (Header.ofBytes frame).addr = addr → addr ≠ (s.dev d).addr → addr ≠ 0 → addr ≠ 4095 → h.active.getD 0 = min up 1 → tget 0 h.routes addr = p → p ≠ 0 → (h.port p).state = .addressed → s.legacyPort d p = true → ((arrival + residence : Nat) : Int) = (s.dev d).localMerid + 2048 * 65536 → (Header.ofBytes frame).length + 12 ≤ frame.length → ∃ t, exec (.hubDownstreamForward d up arrival residence frame) s = .next t ∧ t.devs = s.devs ∧ t.out = [.hubFrame d p ((s.dev d).localMerid + 2048 * 65536 + 65536 * setsTime (s.endGen (portEnd d p)) (.meridian 0 0 0 0) 1) (padded (s.endGen (portEnd d p)) (frame.take ((Header.ofBytes frame).length + 12)))] ∧ keepsBut [] s t) ∧
  (∀ (d up addr arrival residence : Nat) (frame : List Byte) (h : HubState) (s : State), ((s.dev d).config ≠ none ∨ (s.dev d).configNext ≠ none) → (s.dev d).hub = some h → (s.lane (32 + 32 * d + 16 * min up 1)).st = 7 → headerGood frame = true → (Header.ofBytes frame).addr = addr → addr ≠ (s.dev d).addr → addr ≠ 0 → addr ≠ 4095 → h.active.getD 0 = min up 1 → tget 0 h.routes addr = 0 → bitAt h.flags 1 = false → ∃ t, exec (.hubDownstreamForward d up arrival residence frame) s = .next t ∧ t.dev d = { s.dev d with hub := some { h with flags := h.flags ||| 2, change := h.change ||| 1, seq := (h.seq + 1) % 256 } } ∧ t.out = [] ∧ keepsBut [] s t) ∧
  (∀ (d p start : Nat) (frame : List Byte) (h : HubState) (s : State), (s.dev d).hub = some h → h.dual = false → (s.lane (32 + 32 * d)).st = 7 → (h.port p).state ≠ .down → (((s.dev d).busy.all fun e => decide (65536 * e.2 ≤ start + (h.port p).resUp)) = true) → ∃ t, exec (.hubUpstreamForward d p start frame []) s = .next t ∧ (t.dev d).hub = some h ∧ t.out = [.hubFrame d 0 ((start + (h.port p).resUp : Nat) : Int) (padded (s.endGen (32 + 32 * d)) frame)] ∧ keepsBut [] s t) ∧
  (∀ (d p start : Nat) (frame : List Byte) (h : HubState) (s : State), (s.dev d).hub = some h → h.dual = true → (s.lane (32 + 32 * d)).st = 7 → (s.lane (32 + 32 * d + 16)).st = 7 → (h.port p).state ≠ .down → (((s.dev d).busy.all fun e => decide (65536 * e.2 ≤ start + (h.port p).resUp)) = true) → ∃ t, exec (.hubUpstreamForward d p start frame []) s = .next t ∧ (t.dev d).hub = some h ∧ t.out = [.hubFrame d 0 ((start + (h.port p).resUp : Nat) : Int) (padded (s.endGen (32 + 32 * d)) frame), .hubFrame d 16 ((start + (h.port p).resUp : Nat) : Int) (padded (s.endGen (32 + 32 * d + 16)) frame)] ∧ keepsBut [] s t) ∧
  (∀ (d p start : Nat) (frame : List Byte) (ties : List Nat) (e : Nat × Nat) (h : HubState) (s : State), (s.dev d).hub = some h → s.upstreamUp d = true → (h.port p).state ≠ .down → e ∈ (s.dev d).busy → 65536 * e.1 ≤ start + (h.port p).resUp → start + (h.port p).resUp < 65536 * e.2 → bitAt h.flags 0 = false → ∃ t, exec (.hubUpstreamForward d p start frame ties) s = .next t ∧ t.dev d = { s.dev d with hub := some { h with flags := h.flags ||| 1, change := h.change ||| 1, seq := (h.seq + 1) % 256 } } ∧ t.out = [] ∧ keepsBut [] s t) ∧
  (∀ (d p q start : Nat) (frame : List Byte) (h : HubState) (s : State), (s.dev d).hub = some h → s.upstreamUp d = true → (h.port p).state ≠ .down → (h.port q).state ≠ .down → q < p → bitAt h.flags 0 = true → ∃ t, exec (.hubUpstreamForward d p start frame [q]) s = .next t ∧ t.dev d = s.dev d ∧ t.out = [] ∧ keepsBut [] s t) ∧
  (∀ (d p t1 t4 turn ns frac resUp : Nat) (h : HubState) (s : State), 1 ≤ p → p ≤ 15 → (s.dev d).hub = some h → (h.port p).state = .down → s.upstreamUp d = true → s.lstate (portEnd d p) = 7 → ∃ t, exec (.hubPortUp d p true t1 t4 turn ns frac resUp) s = .next t ∧ ((t.dev d).hub.map fun x => ((x.port p).state, (x.port p).gate, (x.port p).valid, (x.port p).resUp, x.change, x.seq)) = some (.unaddressed, false, true, max (65536 * resBound (s.endGen (portEnd d p)) (s.upGen d)) resUp, h.change ||| 2 ^ p, (h.seq + 1) % 256) ∧ keepsBut [] s t) ∧
  (∀ (d p t1 t4 turn ns frac resUp : Nat) (h : HubState) (s : State), 1 ≤ p → p ≤ 15 → (s.dev d).hub = some h → (h.port p).state = .down → (h.port p).firstFails = 2 → s.upstreamUp d = true → s.lstate (portEnd d p) = 7 → ∃ t, exec (.hubPortUp d p false t1 t4 turn ns frac resUp) s = .next t ∧ ((t.dev d).hub.map fun x => x.port p) = some { h.port p with firstFails := 0 } ∧ t.out.head? = some (.ordered (portEnd d p) ((List.replicate 8 (OSet.retrain true)).flatMap (OSet.codes (s.endGen (portEnd d p))))) ∧ keepsBut [] s t) ∧
  (∀ (d p t1 t4 turn ns frac : Nat) (h : HubState) (s : State), (s.dev d).hub = some h → (h.port p).state ≠ .down → ∃ t, exec (.hubLinkFix d p false t1 t4 turn ns frac) s = .next t ∧ ((t.dev d).hub.map fun x => x.port p) = some { h.port p with fix := { (h.port p).fix with fails := (h.port p).fix.fails + 1 } } ∧ keepsBut [] s t) ∧
  (∀ (d p t1 t4 turn ns frac : Nat) (h : HubState) (s : State), (s.dev d).hub = some h → (h.port p).state ≠ .down → ∃ t, exec (.hubLinkFix d p true t1 t4 turn ns frac) s = .next t ∧ ((t.dev d).hub.map fun x => ((x.port p).valid, (x.port p).fix.fails, (x.port p).resUp, (x.port p).state)) = some (true, 0, (h.port p).resUp, (h.port p).state) ∧ ((t.dev d).hub.map fun x => (x.port p).fix.theta) = some (signedOf (encodeSigned (((ns * 65536 + frac : Nat) : Int) - s.localTime (32 + 32 * d) t1 - (LinkFix.delays ((t4 : Int) - t1 - turnTime turn (s.endGen (portEnd d p))).toNat 0).1) 48) 48) ∧ keepsBut [] s t) ∧
  (∀ (d : Nat) (h : HubState) (s : State), (s.dev d).hub = some h → bitAt h.flags 2 = false → ∃ t, exec (.hubOvertemp d) s = .next t ∧ t.dev d = { s.dev d with hub := some { h with flags := h.flags ||| 4, change := h.change ||| 1, seq := (h.seq + 1) % 256 } } ∧ keepsBut [] s t) ∧
  (∀ (d : Nat) (h : HubState) (s : State), (s.dev d).hub = some h → bitAt h.flags 2 = true → ∃ t, exec (.hubOvertemp d) s = .next t ∧ t.dev d = s.dev d ∧ keepsBut [] s t)

/-- A node whose upstream link is UP acts on good frames addressed to it. NODE_MARKER_RECEIVE brings a bearing and a configuration whose apply tick it names into use, takes the local meridian from the arrival, DELAY_DN and CORR, invalidates the time when EPOCH changed without a bearing, and launches the legs charted for the tick at their slots, early by ADVANCE_UP, a duplicate DUP_OFFSET later, pipe 0 of a hub with its status. NODE_LEG_RECEIVE keeps the payload of a good leg with the last marker's tick, and of no other. A damaged frame makes the next handshake NAK. NODE_DATA_RECEIVE: the packet expected is taken and the next one expected; one ahead of it owes a NAK; one already taken changes nothing. NODE_SETUP_RECEIVE begins the request with fresh counters, or, of another length than 16, owes a NAK. NODE_ABORT_RECEIVE resets the pipe's counters and owes an ACK. NODE_HANDSHAKE_RECEIVE ACK frees what it confirms and closes; any other code but WAIT and ABORT is a damaged frame. NODE_GRANT_RECEIVE with a valid grant sends, at the granted slot, the handshake of Table 06-5 on an outbound pipe, and on an inbound one the packet that is ready, or WAIT; one that came less than 512 ns before the launch, or names another tick, sends nothing. NODE_PIPE_HALT halts a bulk pipe. Where the spec leaves a point open, what it says is the model's choice: log entries 9 and 29. -/
def Obligations.NodesActOnWhatTheyReceive : Prop :=
  (∀ (d word arrival : Nat) (b : NodeBearing) (s : State), s.upstreamUp d = true → (s.dev d).bearingNext = some b → b.applyTick % 2 ^ tickBits (s.upGen d) = (markerOf (s.upGen d) word).1 → b.refTick % 2 ^ tickBits (s.upGen d) = (markerOf (s.upGen d) word).1 → (s.dev d).configNext = none → (s.dev d).config = none → ∃ t, exec (.nodeMarkerReceive d word arrival []) s = .next t ∧ (t.dev d).bearing = some b ∧ (t.dev d).bearingNext = none ∧ (t.dev d).timeValid = true ∧ (t.dev d).localMerid = (arrival : Int) - ((b.delayDn : Int) + (markerOf (s.upGen d) word).2.1) ∧ (t.dev d).timeRef = ((arrival : Int) - ((b.delayDn : Int) + (markerOf (s.upGen d) word).2.1), b.refNs * 65536 + b.refFrac) ∧ (t.dev d).marker = some (markerOf (s.upGen d) word).1 ∧ (t.dev d).markerAt = (arrival : Int) ∧ t.out = [] ∧ keepsBut [] s t) ∧
  (∀ (d word arrival e : Nat) (s : State), s.upstreamUp d = true → (s.dev d).bearingNext = none → (s.dev d).configNext = none → (s.dev d).config = none → (markerOf (s.upGen d) word).2.2 = some e → e ≠ (s.dev d).epoch → (((s.dev d).bearing.all fun b => b.applyTick % 2 ^ tickBits (s.upGen d) != (markerOf (s.upGen d) word).1) = true) → ∃ t, exec (.nodeMarkerReceive d word arrival []) s = .next t ∧ (t.dev d).timeValid = false ∧ (t.dev d).epoch = e ∧ (t.dev d).bearing = (s.dev d).bearing ∧ keepsBut [] s t) ∧
  (∀ (d word arrival : Nat) (c : NodeConfig) (s : State), s.upstreamUp d = true → (s.dev d).configNext = some c → c.applyTick % 2 ^ tickBits (s.upGen d) = (markerOf (s.upGen d) word).1 → c.legs = [] → ∃ t, exec (.nodeMarkerReceive d word arrival []) s = .next t ∧ (t.dev d).config = some c ∧ (t.dev d).configNext = none ∧ (t.dev d).request = [] ∧ (∀ k < 32, ((t.dev d).pipe k).expect = 0 ∧ ((t.dev d).pipe k).toSend = 0 ∧ ((t.dev d).pipe k).ready = []) ∧ (∀ k < 32, k ≠ 0 → bitAt c.pipeEn k = false → ((t.dev d).pipe k).state = .disabled) ∧ t.out = [] ∧ keepsBut [] s t) ∧
  (∀ (d word arrival : Nat) (x : Nat × List Byte) (l : NodeLeg) (c : NodeConfig) (s : State), (s.lane (32 + 32 * d)).st = 7 → (s.dev d).configNext = none → (s.dev d).hub = none → (s.dev d).bearingNext = none → (s.dev d).bearing = none → (s.dev d).config = some c → c.legs = [l] → l.dup = false → ∃ t, exec (.nodeMarkerReceive d word arrival [x]) s = .next t ∧ t.out = (if (markerOf (s.upGen d) word).1 % 2 ^ l.k = l.phase then [.nodeFrame d 0 ((arrival : Int) + 32 * 65536 * (l.start : Int)) (padded (s.endGen (32 + 32 * d)) (legFrame (s.dev d).addr l.pipe true ((markerOf (s.upGen d) word).1 % 256) false false false (bitAt x.1 0) (bitAt x.1 1) (fitTo l.payload x.2)))] else []) ∧ keepsBut [] s t) ∧
  (∀ (d word arrival : Nat) (x : Nat × List Byte) (l : NodeLeg) (b : NodeBearing) (c : NodeConfig) (s : State), (s.lane (32 + 32 * d)).st = 7 → (s.dev d).configNext = none → (s.dev d).hub = none → (s.dev d).bearingNext = none → (s.dev d).bearing = some b → (s.dev d).config = some c → c.legs = [l] → l.dup = true → (markerOf (s.upGen d) word).1 % 2 ^ l.k = l.phase → ∃ t, exec (.nodeMarkerReceive d word arrival [x]) s = .next t ∧ t.out = [.nodeFrame d 0 ((arrival : Int) - ((b.delayDn : Int) + (markerOf (s.upGen d) word).2.1) + 32 * 65536 * (l.start : Int) - b.advanceUp) (padded (s.endGen (32 + 32 * d)) (legFrame (s.dev d).addr l.pipe true ((markerOf (s.upGen d) word).1 % 256) false false false (bitAt x.1 0) (bitAt x.1 1) (fitTo l.payload x.2))), .nodeFrame d 0 ((arrival : Int) - ((b.delayDn : Int) + (markerOf (s.upGen d) word).2.1) + 32 * 65536 * ((l.start + l.dupOffset : Nat) : Int) - b.advanceUp) (padded (s.endGen (32 + 32 * d)) (legFrame (s.dev d).addr l.pipe true ((markerOf (s.upGen d) word).1 % 256) true false false (bitAt x.1 0) (bitAt x.1 1) (fitTo l.payload x.2)))] ∧ keepsBut [] s t) ∧
  (∀ (d word arrival : Nat) (x : Nat × List Byte) (h : HubState) (l : NodeLeg) (c : NodeConfig) (s : State), (s.lane (32 + 32 * d)).st = 7 → (s.dev d).configNext = none → (s.dev d).hub = some h → h.dual = false → (s.dev d).bearingNext = none → (s.dev d).bearing = none → (s.dev d).config = some c → c.legs = [l] → l.dup = false → l.pipe = 0 → l.payload = 8 → (markerOf (s.upGen d) word).1 % 2 ^ l.k = l.phase → ∃ t, exec (.nodeMarkerReceive d word arrival [x]) s = .next t ∧ t.out = [.nodeFrame d 0 ((arrival : Int) + 32 * 65536 * (l.start : Int)) (padded (s.endGen (32 + 32 * d)) (legFrame (s.dev d).addr 0 true ((markerOf (s.upGen d) word).1 % 256) false false false false false (toBytes h.change 2 ++ toBytes ((((List.range 15).filter fun p => (h.port (p + 1)).state != .down).map fun p => 2 ^ (p + 1)).foldl (· + ·) 0) 2 ++ toBytes h.powerFault 2 ++ toBytes (h.flags % 8) 1 ++ toBytes h.seq 1)))] ∧ keepsBut [] s t) ∧
  (∀ (d tk : Nat) (frame : List Byte) (h : Header) (s : State), s.upstreamUp d = true → frameGood frame = true → Header.ofBytes frame = h → h.inbound = false → h.packet = false → (s.dev d).addr ≠ 0 → h.addr = (s.dev d).addr → (s.dev d).marker = some tk → h.low = tk % 256 → ∃ t, exec (.nodeLegReceive d frame) s = .next t ∧ t.dev d = { s.dev d with payloads := tset [] (s.dev d).payloads h.pipe (framePayload frame) } ∧ keepsBut [] s t) ∧
  (∀ (d tk : Nat) (frame : List Byte) (h : Header) (s : State), frameGood frame = true → Header.ofBytes frame = h → (s.dev d).marker = some tk → (h.addr ≠ (s.dev d).addr ∨ h.low ≠ tk % 256) → ∃ t, exec (.nodeLegReceive d frame) s = .next t ∧ t.devs = s.devs ∧ keepsBut [] s t) ∧
  (∀ (d : Nat) (frame : List Byte) (s : State), s.upstreamUp d = true → frameGood frame = false → (headerGood frame = false ∨ (s.dev d).takes (Header.ofBytes frame).addr = true) → ∃ t, exec (.nodeLegReceive d frame) s = .next t ∧ t.dev d = { s.dev d with oweNak := true } ∧ keepsBut [] s t) ∧
  (∀ (d : Nat) (frame : List Byte) (h : Header) (s : State), s.upstreamUp d = true → frameGood frame = true → Header.ofBytes frame = h → h.inbound = false → (s.dev d).takes h.addr = true → h.packet = true → h.type = 0 → (((s.dev d).pipe h.pipe).state = .idle ∨ ((s.dev d).pipe h.pipe).state = .active) → h.seq = ((s.dev d).pipe h.pipe).expect → ∃ t, exec (.nodeDataReceive d frame) s = .next t ∧ (t.dev d).pipe h.pipe = { (s.dev d).pipe h.pipe with expect := (h.seq + 1) % 65536, taken := ((s.dev d).pipe h.pipe).taken ++ [framePayload frame], state := .active } ∧ keepsBut [] s t) ∧
  (∀ (d k : Nat) (frame : List Byte) (h : Header) (s : State), s.upstreamUp d = true → frameGood frame = true → Header.ofBytes frame = h → h.inbound = false → (s.dev d).takes h.addr = true → h.packet = true → h.type = 0 → (((s.dev d).pipe h.pipe).state = .idle ∨ ((s.dev d).pipe h.pipe).state = .active) → 1 ≤ k → k < 65520 → h.seq = (((s.dev d).pipe h.pipe).expect + k) % 65536 → ∃ t, exec (.nodeDataReceive d frame) s = .next t ∧ (t.dev d).pipe h.pipe = { (s.dev d).pipe h.pipe with oweNak := true } ∧ keepsBut [] s t) ∧
  (∀ (d k : Nat) (frame : List Byte) (h : Header) (s : State), frameGood frame = true → Header.ofBytes frame = h → 1 ≤ k → k ≤ 16 → ((s.dev d).pipe h.pipe).expect < 65536 → h.seq = (((s.dev d).pipe h.pipe).expect + 65536 - k) % 65536 → ∃ t, exec (.nodeDataReceive d frame) s = .next t ∧ t.devs = s.devs ∧ keepsBut [] s t) ∧
  (∀ (d : Nat) (frame : List Byte) (h : Header) (s : State), s.upstreamUp d = true → frameGood frame = true → Header.ofBytes frame = h → h.inbound = false → (s.dev d).takes h.addr = true → h.packet = true → h.type = 1 → h.pipe = 0 → h.length = 16 → ∃ t, exec (.nodeSetupReceive d frame) s = .next t ∧ (t.dev d).request = (framePayload frame).take 16 ∧ (t.dev d).finished = false ∧ (t.dev d).answer = [] ∧ (t.dev d).answerStatus = 0 ∧ (t.dev d).pendingAddr = 0 ∧ (t.dev d).pipe 0 = { ((s.dev d).pipe 0).fresh with expect := 1, toSend := 1, ready := [], closed := false, state := .active } ∧ (bitsAt (ofBytes ((framePayload frame).take 1)) 5 2 = 0 → (t.dev d).refused = !(s.dev d).implements (ofBytes (((framePayload frame).drop 1).take 1))) ∧ keepsBut [] s t) ∧
  (∀ (d : Nat) (frame : List Byte) (h : Header) (s : State), s.upstreamUp d = true → frameGood frame = true → Header.ofBytes frame = h → h.inbound = false → (s.dev d).takes h.addr = true → h.packet = true → h.type = 1 → h.pipe = 0 → h.length ≠ 16 → ∃ t, exec (.nodeSetupReceive d frame) s = .next t ∧ (t.dev d).request = (s.dev d).request ∧ (t.dev d).pipe 0 = { (s.dev d).pipe 0 with oweNak := true } ∧ keepsBut [] s t) ∧
  (∀ (d : Nat) (frame : List Byte) (h : Header) (s : State), s.upstreamUp d = true → frameGood frame = true → Header.ofBytes frame = h → h.inbound = false → (s.dev d).takes h.addr = true → h.packet = true → h.type = 2 → h.length = 4 → bitsAt (ofBytes (framePayload frame)) 0 8 = 6 → ∃ t, exec (.nodeAbortReceive d frame) s = .next t ∧ ((t.dev d).pipe h.pipe).oweAck = true ∧ ((t.dev d).pipe h.pipe).expect = 0 ∧ ((t.dev d).pipe h.pipe).toSend = 0 ∧ ((t.dev d).pipe h.pipe).taken = [] ∧ ((t.dev d).pipe h.pipe).ready = [] ∧ ((t.dev d).pipe h.pipe).state = (if ((s.dev d).pipe h.pipe).state = .active then .idle else ((s.dev d).pipe h.pipe).state) ∧ keepsBut [] s t) ∧
  (∀ (d : Nat) (frame : List Byte) (h : Header) (s : State), s.upstreamUp d = true → frameGood frame = true → Header.ofBytes frame = h → h.inbound = false → (s.dev d).takes h.addr = true → h.packet = true → h.type = 2 → h.length = 4 → bitsAt (ofBytes (framePayload frame)) 0 8 = 1 → (h.seq + 65536 - ((s.dev d).pipe h.pipe).toSend) % 65536 ≤ ((s.dev d).pipe h.pipe).ready.length → ∃ t, exec (.nodeHandshakeReceive d frame) s = .next t ∧ (t.dev d).pipe h.pipe = { (s.dev d).pipe h.pipe with ready := ((s.dev d).pipe h.pipe).ready.drop ((h.seq + 65536 - ((s.dev d).pipe h.pipe).toSend) % 65536), toSend := h.seq, closed := true, state := (if ((s.dev d).pipe h.pipe).state = .active then .idle else ((s.dev d).pipe h.pipe).state) } ∧ keepsBut [] s t) ∧
  (∀ (d : Nat) (frame : List Byte) (h : Header) (s : State), s.upstreamUp d = true → frameGood frame = true → Header.ofBytes frame = h → h.inbound = false → (s.dev d).takes h.addr = true → h.packet = true → h.type = 2 → bitsAt (ofBytes (framePayload frame)) 0 8 ≠ 1 → bitsAt (ofBytes (framePayload frame)) 0 8 ≠ 3 → bitsAt (ofBytes (framePayload frame)) 0 8 ≠ 6 → ∃ t, exec (.nodeHandshakeReceive d frame) s = .next t ∧ t.dev d = { s.dev d with oweNak := true } ∧ keepsBut [] s t) ∧
  (∀ (d ended credit tk g : Nat) (wait : Bool) (frame : List Byte) (h : Header) (s : State), s.upstreamUp d = true → frameGood frame = true → Header.ofBytes frame = h → h.inbound = false → (s.dev d).takes h.addr = true → h.packet = true → h.type = 3 → h.length = 4 → (s.lane (32 + 32 * d)).st = 7 → (s.dev d).hub = none → h.pipe ≠ 0 → (s.dev d).pipeInbound h.pipe = false → (ended : Int) + 512 * 65536 ≤ (s.dev d).launch (bitsAt (ofBytes (framePayload frame)) 8 15) → (s.dev d).marker = some tk → tk % 256 = bitsAt (ofBytes (framePayload frame)) 0 8 → (g = (match (s.dev d).config with | some c => max 1 c.pathGen | none => s.upGen d)) → frameSlots g 4 ≤ bitsAt (ofBytes (framePayload frame)) 23 9 → ∃ t, exec (.nodeGrantReceive d frame ended credit wait []) s = .next t ∧ t.out = [.nodeFrame d 0 ((s.dev d).launch (bitsAt (ofBytes (framePayload frame)) 8 15)) (padded (s.endGen (32 + 32 * d)) (packetFrame h.addr h.pipe true 2 ((s.dev d).handshake h.pipe wait).2.2 (handshakeBytes ((s.dev d).handshake h.pipe wait).1 ((s.dev d).handshake h.pipe wait).2.1 (if ((s.dev d).handshake h.pipe wait).1 = 1 then max 1 (min 16 credit) else 0))))] ∧ keepsBut [] s t) ∧
  (∀ (d ended credit tk g : Nat) (b : List Byte) (frame : List Byte) (h : Header) (s : State), s.upstreamUp d = true → frameGood frame = true → Header.ofBytes frame = h → h.inbound = false → (s.dev d).takes h.addr = true → h.packet = true → h.type = 3 → h.length = 4 → (s.lane (32 + 32 * d)).st = 7 → (s.dev d).hub = none → h.pipe ≠ 0 → (s.dev d).pipeInbound h.pipe = true → (((s.dev d).pipe h.pipe).state = .idle ∨ ((s.dev d).pipe h.pipe).state = .active) → ((s.dev d).pipe h.pipe).oweAck = false → ((s.dev d).pipe h.pipe).ready = [b] → ((s.dev d).pipe h.pipe).toSend = h.seq → (ended : Int) + 512 * 65536 ≤ (s.dev d).launch (bitsAt (ofBytes (framePayload frame)) 8 15) → (s.dev d).marker = some tk → tk % 256 = bitsAt (ofBytes (framePayload frame)) 0 8 → (g = (match (s.dev d).config with | some c => max 1 c.pathGen | none => s.upGen d)) → frameSlots g b.length ≤ bitsAt (ofBytes (framePayload frame)) 23 9 → ∃ t, exec (.nodeGrantReceive d frame ended credit false []) s = .next t ∧ t.out = [.nodeFrame d 0 ((s.dev d).launch (bitsAt (ofBytes (framePayload frame)) 8 15)) (padded (s.endGen (32 + 32 * d)) (packetFrame h.addr h.pipe true 0 h.seq b))] ∧ keepsBut [] s t) ∧
  (∀ (d ended credit tk g : Nat) (wait : Bool) (frame : List Byte) (h : Header) (s : State), s.upstreamUp d = true → frameGood frame = true → Header.ofBytes frame = h → h.inbound = false → (s.dev d).takes h.addr = true → h.packet = true → h.type = 3 → h.length = 4 → (s.lane (32 + 32 * d)).st = 7 → (s.dev d).hub = none → h.pipe ≠ 0 → (s.dev d).pipeInbound h.pipe = true → (((s.dev d).pipe h.pipe).state = .idle ∨ ((s.dev d).pipe h.pipe).state = .active) → ((s.dev d).pipe h.pipe).oweAck = false → ((s.dev d).pipe h.pipe).ready = [] → ((s.dev d).pipe h.pipe).toSend = h.seq → (ended : Int) + 512 * 65536 ≤ (s.dev d).launch (bitsAt (ofBytes (framePayload frame)) 8 15) → (s.dev d).marker = some tk → tk % 256 = bitsAt (ofBytes (framePayload frame)) 0 8 → (g = (match (s.dev d).config with | some c => max 1 c.pathGen | none => s.upGen d)) → frameSlots g 4 ≤ bitsAt (ofBytes (framePayload frame)) 23 9 → ∃ t, exec (.nodeGrantReceive d frame ended credit wait []) s = .next t ∧ t.out = [.nodeFrame d 0 ((s.dev d).launch (bitsAt (ofBytes (framePayload frame)) 8 15)) (padded (s.endGen (32 + 32 * d)) (packetFrame h.addr h.pipe true 2 h.seq (handshakeBytes 3 0 0)))] ∧ keepsBut [] s t) ∧
  (∀ (d ended credit : Nat) (wait : Bool) (fresh : List (List Byte)) (frame : List Byte) (h : Header) (s : State), frameGood frame = true → Header.ofBytes frame = h → ((s.dev d).takes h.addr = false ∨ (s.dev d).launch (bitsAt (ofBytes (framePayload frame)) 8 15) < (ended : Int) + 512 * 65536 ∨ (s.dev d).marker = none) → ∃ t, exec (.nodeGrantReceive d frame ended credit wait fresh) s = .next t ∧ t.out = [] ∧ t.devs = s.devs ∧ keepsBut [] s t) ∧
  (∀ (d pipe : Nat) (s : State), 1 ≤ pipe → pipe < 32 → (((s.dev d).pipe pipe).state = .idle ∨ ((s.dev d).pipe pipe).state = .active) → ∃ t, exec (.nodePipeHalt d pipe) s = .next t ∧ (t.dev d).pipe pipe = { (s.dev d).pipe pipe with state := .halted } ∧ keepsBut [] s t) ∧
  (∀ (d : Nat) (s : State), ∃ t, exec (.nodePipeHalt d 0) s = .next t ∧ t.devs = s.devs ∧ keepsBut [] s t)

/-- With the request held, unfinished and not refused, its outbound data complete: GET_DESCRIPTOR answers with the descriptor or the pipe descriptors, cut to LENGTH; GET_STATUS with 8 bytes; CLEAR_HALT resets the pipe; SET_ADDRESS keeps the address until STATUS is sent; SET_CONFIG and SET_BEARING await their apply tick; SET_ROUTE sets the route; SET_PORT_GATE OPENED opens an UNADDRESSED port's gate, ADDRESSED makes it ADDRESSED, and CLOSED takes an ADDRESSED port DOWN, drops its routes and sends a full RETRAIN; CLEAR_PORT_CHANGE clears the bits while SEQ is the hub's own; READ_TIMING answers 16 bytes a port. SET_ADDRESS with an address outside 1 to 4,094 is refused. Where the spec leaves a point open, what it says is the model's choice: log entry 29. -/
def Obligations.NodesCarryOutStandardRequests : Prop :=
  (∀ (d : Nat) (desc : List Byte) (pipes : List (List Byte)) (s : State), (s.dev d).request ≠ [] → bitsAt ((s.dev d).req 0 1) 5 2 = 0 → (s.dev d).req 1 1 = 0x01 → (s.dev d).finished = false → (s.dev d).refused = false → bitAt ((s.dev d).req 0 1) 7 = true → ((s.dev d).req 2 2 = 1 ∨ (s.dev d).req 2 2 = 2) → (s.dev d).req 4 2 = 0 → ((s.dev d).req 6 2 = if (s.dev d).req 2 2 = 1 then 64 else 16 * pipes.length) → ∃ t, exec (.reqGetDescriptor d desc pipes) s = .next t ∧ (t.dev d).answer = (if (s.dev d).req 2 2 = 1 then desc else pipes.flatten).take ((s.dev d).req 6 2) ∧ (t.dev d).finished = true ∧ (t.dev d).refused = false ∧ keepsBut [] s t) ∧
  (∀ (d : Nat) (s : State), (s.dev d).request ≠ [] → bitsAt ((s.dev d).req 0 1) 5 2 = 0 → (s.dev d).req 1 1 = 0x02 → (s.dev d).finished = false → (s.dev d).refused = false → bitAt ((s.dev d).req 0 1) 7 = true → (s.dev d).req 6 2 = 8 → (s.dev d).req 2 2 = 0 → (s.dev d).req 4 2 = 0 → (bitAt ((s.dev d).req 0 1) 7 = true ∨ (s.dev d).req 6 2 = 0 ∨ (s.dev d).data.length = (s.dev d).req 6 2) → ∃ t, exec (.reqGetStatus d) s = .next t ∧ (t.dev d).finished = true ∧ (t.dev d).answer = (toBytes (((List.range 32).filter fun k => ((s.dev d).pipe k).state == .halted).map (2 ^ ·)).sum 4 ++ toBytes ((if (s.dev d).config.isSome then 1 else 0) + (if (s.dev d).bearing.isSome then 2 else 0)) 1 ++ toBytes 0 3).take ((s.dev d).req 6 2) ∧ keepsBut [] s t) ∧
  (∀ (d : Nat) (s : State), (s.dev d).request ≠ [] → bitsAt ((s.dev d).req 0 1) 5 2 = 0 → (s.dev d).req 1 1 = 0x03 → (s.dev d).finished = false → (s.dev d).refused = false → (s.dev d).req 6 2 = 0 → (s.dev d).req 2 2 = 0 → 1 ≤ (s.dev d).req 4 2 → (s.dev d).req 4 2 ≤ 31 → (bitAt ((s.dev d).req 0 1) 7 = true ∨ (s.dev d).req 6 2 = 0 ∨ (s.dev d).data.length = (s.dev d).req 6 2) → ∃ t, exec (.reqClearHalt d) s = .next t ∧ (t.dev d).finished = true ∧ (t.dev d).pipe ((s.dev d).req 4 2) = { ((s.dev d).pipe ((s.dev d).req 4 2)).fresh with state := (if ((s.dev d).pipe ((s.dev d).req 4 2)).state = .halted then .idle else ((s.dev d).pipe ((s.dev d).req 4 2)).state) } ∧ keepsBut [] s t) ∧
  (∀ (d : Nat) (s : State), (s.dev d).request ≠ [] → bitsAt ((s.dev d).req 0 1) 5 2 = 0 → (s.dev d).req 1 1 = 0x04 → (s.dev d).finished = false → (s.dev d).refused = false → (s.dev d).req 6 2 = 0 → 1 ≤ (s.dev d).req 2 2 → (s.dev d).req 2 2 ≤ 4094 → (s.dev d).req 4 2 = 0 → (bitAt ((s.dev d).req 0 1) 7 = true ∨ (s.dev d).req 6 2 = 0 ∨ (s.dev d).data.length = (s.dev d).req 6 2) → ∃ t, exec (.reqSetAddress d) s = .next t ∧ t.dev d = { s.dev d with pendingAddr := (s.dev d).req 2 2, finished := true } ∧ keepsBut [] s t) ∧
  (∀ (d : Nat) (s : State), (s.dev d).request ≠ [] → bitsAt ((s.dev d).req 0 1) 5 2 = 0 → (s.dev d).req 1 1 = 0x04 → (s.dev d).finished = false → (s.dev d).refused = false → ((s.dev d).req 2 2 = 0 ∨ 4094 < (s.dev d).req 2 2) → ∃ t, exec (.reqSetAddress d) s = .next t ∧ t.dev d = { s.dev d with refused := true } ∧ keepsBut [] s t) ∧
  (∀ (d : Nat) (s : State), (s.dev d).request ≠ [] → bitsAt ((s.dev d).req 0 1) 5 2 = 0 → (s.dev d).req 1 1 = 0x05 → (s.dev d).finished = false → (s.dev d).refused = false → (s.dev d).req 2 2 = 0 → (s.dev d).req 4 2 = 0 → bitAt ((s.dev d).req 0 1) 7 = false → (s.dev d).req 6 2 = 16 + 8 * ofBytes (((s.dev d).data.drop 9).take 1) → (bitAt ((s.dev d).req 0 1) 7 = true ∨ (s.dev d).req 6 2 = 0 ∨ (s.dev d).data.length = (s.dev d).req 6 2) → ∃ t, exec (.reqSetConfig d) s = .next t ∧ t.dev d = { s.dev d with finished := true, configNext := some { applyTick := ofBytes ((s.dev d).data.take 8), pathGen := ofBytes (((s.dev d).data.drop 8).take 1) % 4, pipeEn := ofBytes (((s.dev d).data.drop 12).take 4), legs := configLegsOf (s.dev d).data (min 64 (ofBytes (((s.dev d).data.drop 9).take 1))) } } ∧ keepsBut [] s t) ∧
  (∀ (d : Nat) (s : State), (s.dev d).request ≠ [] → bitsAt ((s.dev d).req 0 1) 5 2 = 0 → (s.dev d).req 1 1 = 0x06 → (s.dev d).finished = false → (s.dev d).refused = false → (s.dev d).req 2 2 = 0 → (s.dev d).req 4 2 = 0 → (s.dev d).req 6 2 = 40 → bitAt ((s.dev d).req 0 1) 7 = false → (bitAt ((s.dev d).req 0 1) 7 = true ∨ (s.dev d).req 6 2 = 0 ∨ (s.dev d).data.length = (s.dev d).req 6 2) → ∃ t, exec (.reqSetBearing d) s = .next t ∧ t.dev d = { s.dev d with finished := true, bearingNext := some { delayDn := ofBytes ((s.dev d).data.take 4), advanceUp := ofBytes (((s.dev d).data.drop 4).take 4), refTick := ofBytes (((s.dev d).data.drop 8).take 8), refNs := ofBytes (((s.dev d).data.drop 16).take 8), refFrac := ofBytes (((s.dev d).data.drop 24).take 2), applyTick := ofBytes (((s.dev d).data.drop 32).take 8) } } ∧ keepsBut [] s t) ∧
  (∀ (d : Nat) (h : HubState) (s : State), (s.dev d).request ≠ [] → bitsAt ((s.dev d).req 0 1) 5 2 = 0 → (s.dev d).req 1 1 = 0x10 → (s.dev d).finished = false → (s.dev d).refused = false → (s.dev d).req 6 2 = 0 → 1 ≤ (s.dev d).req 2 2 → (s.dev d).req 2 2 ≤ 4094 → (s.dev d).req 4 2 ≤ 15 → (s.dev d).hub = some h → (bitAt ((s.dev d).req 0 1) 7 = true ∨ (s.dev d).req 6 2 = 0 ∨ (s.dev d).data.length = (s.dev d).req 6 2) → ∃ t, exec (.reqSetRoute d) s = .next t ∧ t.dev d = { s.dev d with finished := true, hub := some { h with routes := tset 0 h.routes ((s.dev d).req 2 2) ((s.dev d).req 4 2) } } ∧ keepsBut [] s t) ∧
  (∀ (d : Nat) (h : HubState) (s : State), (s.dev d).request ≠ [] → bitsAt ((s.dev d).req 0 1) 5 2 = 0 → (s.dev d).req 1 1 = 0x11 → (s.dev d).finished = false → (s.dev d).refused = false → (s.dev d).req 6 2 = 0 → 1 ≤ (s.dev d).req 2 2 → (s.dev d).req 2 2 ≤ 15 → (s.dev d).req 4 2 = 1 → (s.dev d).hub = some h → (h.port ((s.dev d).req 2 2)).state = .unaddressed → (s.dev d).req 8 1 ≠ h.seq → (bitAt ((s.dev d).req 0 1) 7 = true ∨ (s.dev d).req 6 2 = 0 ∨ (s.dev d).data.length = (s.dev d).req 6 2) → ∃ t, exec (.reqSetPortGate d) s = .next t ∧ ((t.dev d).hub.map fun x => x.port ((s.dev d).req 2 2)) = some { h.port ((s.dev d).req 2 2) with gate := true } ∧ ((t.dev d).hub.map (·.change)) = some h.change ∧ t.out = [] ∧ keepsBut [] s t) ∧
  (∀ (d : Nat) (h : HubState) (s : State), (s.dev d).request ≠ [] → bitsAt ((s.dev d).req 0 1) 5 2 = 0 → (s.dev d).req 1 1 = 0x11 → (s.dev d).finished = false → (s.dev d).refused = false → (s.dev d).req 6 2 = 0 → 1 ≤ (s.dev d).req 2 2 → (s.dev d).req 2 2 ≤ 15 → (s.dev d).req 4 2 = 2 → (s.dev d).hub = some h → (h.port ((s.dev d).req 2 2)).state = .unaddressed → (bitAt ((s.dev d).req 0 1) 7 = true ∨ (s.dev d).req 6 2 = 0 ∨ (s.dev d).data.length = (s.dev d).req 6 2) → ∃ t, exec (.reqSetPortGate d) s = .next t ∧ ((t.dev d).hub.map fun x => x.port ((s.dev d).req 2 2)) = some { h.port ((s.dev d).req 2 2) with state := .addressed, gate := false } ∧ t.out = [] ∧ keepsBut [] s t) ∧
  (∀ (d : Nat) (h : HubState) (s : State), (s.dev d).request ≠ [] → bitsAt ((s.dev d).req 0 1) 5 2 = 0 → (s.dev d).req 1 1 = 0x11 → (s.dev d).finished = false → (s.dev d).refused = false → (s.dev d).req 6 2 = 0 → 1 ≤ (s.dev d).req 2 2 → (s.dev d).req 2 2 ≤ 15 → (s.dev d).req 4 2 = 0 → (s.dev d).hub = some h → (h.port ((s.dev d).req 2 2)).state = .addressed → s.lstate (portEnd d ((s.dev d).req 2 2)) = 7 → (bitAt ((s.dev d).req 0 1) 7 = true ∨ (s.dev d).req 6 2 = 0 ∨ (s.dev d).data.length = (s.dev d).req 6 2) → ∃ t, exec (.reqSetPortGate d) s = .next t ∧ ((t.dev d).hub.map fun x => ((x.port ((s.dev d).req 2 2)).state, x.routes)) = some (.down, h.routes.filter fun e => e.2 != (s.dev d).req 2 2) ∧ t.out.head? = some (.ordered (portEnd d ((s.dev d).req 2 2)) ((List.replicate 8 (OSet.retrain true)).flatMap (OSet.codes (s.endGen (portEnd d ((s.dev d).req 2 2)))))) ∧ keepsBut [] s t) ∧
  (∀ (d : Nat) (h : HubState) (s : State), (s.dev d).request ≠ [] → bitsAt ((s.dev d).req 0 1) 5 2 = 0 → (s.dev d).req 1 1 = 0x12 → (s.dev d).finished = false → (s.dev d).refused = false → (s.dev d).req 6 2 = 0 → (s.dev d).req 4 2 = 0 → (s.dev d).hub = some h → (s.dev d).req 8 1 = h.seq → (bitAt ((s.dev d).req 0 1) 7 = true ∨ (s.dev d).req 6 2 = 0 ∨ (s.dev d).data.length = (s.dev d).req 6 2) → ∃ t, exec (.reqClearPortChange d) s = .next t ∧ t.dev d = { s.dev d with finished := true, hub := some { h with change := h.change - (h.change &&& (s.dev d).req 2 2), flags := h.flags / 8 * 8 } } ∧ keepsBut [] s t) ∧
  (∀ (d : Nat) (h : HubState) (s : State), (s.dev d).request ≠ [] → bitsAt ((s.dev d).req 0 1) 5 2 = 0 → (s.dev d).req 1 1 = 0x13 → (s.dev d).finished = false → (s.dev d).refused = false → bitAt ((s.dev d).req 0 1) 7 = true → (s.dev d).req 2 2 = 0 → 1 ≤ (s.dev d).req 4 2 → (s.dev d).req 4 2 ≤ 15 → (s.dev d).req 6 2 = 16 → (s.dev d).hub = some h → (bitAt ((s.dev d).req 0 1) 7 = true ∨ (s.dev d).req 6 2 = 0 ∨ (s.dev d).data.length = (s.dev d).req 6 2) → ∃ t, exec (.reqReadTiming d) s = .next t ∧ (t.dev d).finished = true ∧ (t.dev d).answer = ((h.port ((s.dev d).req 4 2)).record s.chr.ns).take 16 ∧ keepsBut [] s t)

/-- HELM_INSTRUCTION, for a helm that executes with no meridian due before the last cycle ends: after the cycles of Table 07-1, the program counter has moved on, minstret counts one more, and the result is written, x0 staying 0, every other register as before: LUI, the register-immediate and register-register operations, multiply and divide, JAL, JALR, taken and untaken branches, loads from and stores to DTCM (a store changes its own bytes and no others), atomic operations, and single-precision arithmetic with its accrued exceptions. ECALL of background enters the trap handler at mtvec, with mepc at the instruction and mcause 11; ECALL of a task ends the task, without entering mtvec. What RISC-V gives beyond the spec's words is the model's reading (log 70). Where the spec leaves a point open, what it says is the model's choice: log entry 70. -/
def Obligations.HelmsExecuteTheIntegerAndMemoryInstructions : Prop :=
  (∀ (h row : Nat) (rd imm : Nat) (s : State), s.runsFor h (1) = true → s.fetches h 4 (.lui rd imm) = true → ∃ t, exec (.helmInstruction h 0 0 row) s = .next t ∧ s.retired t h (1) ((s.bankOf h).pc + 4) = true ∧ s.wroteX t h rd imm = true ∧ s.keptX t h rd = true ∧ t.tcm = s.tcm) ∧
  (∀ (h row : Nat) (f3 rd rs1 imm : Nat) (alt : Bool) (s : State), s.runsFor h (1) = true → s.fetches h 4 (.opImm f3 rd rs1 imm alt) = true → ∃ t, exec (.helmInstruction h 0 0 row) s = .next t ∧ s.retired t h (1) ((s.bankOf h).pc + 4) = true ∧ s.wroteX t h rd (Rv.alu f3 ((s.bankOf h).reg rs1) imm alt) = true ∧ s.keptX t h rd = true ∧ t.tcm = s.tcm) ∧
  (∀ (h row : Nat) (f3 rd rs1 rs2 : Nat) (alt : Bool) (s : State), s.runsFor h (1) = true → s.fetches h 4 (.op f3 rd rs1 rs2 alt) = true → ∃ t, exec (.helmInstruction h 0 0 row) s = .next t ∧ s.retired t h (1) ((s.bankOf h).pc + 4) = true ∧ s.wroteX t h rd (Rv.alu f3 ((s.bankOf h).reg rs1) ((s.bankOf h).reg rs2) alt) = true ∧ s.keptX t h rd = true ∧ t.tcm = s.tcm) ∧
  (∀ (h row : Nat) (f3 rd rs1 rs2 : Nat) (s : State), (s.runsFor h (if f3 < 4 then 2 else 34) = true) → s.fetches h 4 (.mulDiv f3 rd rs1 rs2) = true → ∃ t, exec (.helmInstruction h 0 0 row) s = .next t ∧ s.retired t h (if f3 < 4 then 2 else 34) ((s.bankOf h).pc + 4) = true ∧ s.wroteX t h rd (Rv.mulDiv f3 ((s.bankOf h).reg rs1) ((s.bankOf h).reg rs2)) = true ∧ s.keptX t h rd = true ∧ t.tcm = s.tcm) ∧
  (∀ (h row : Nat) (rd off : Nat) (s : State), s.runsFor h (3) = true → s.fetches h 4 (.jal rd off) = true → ∃ t, exec (.helmInstruction h 0 0 row) s = .next t ∧ s.retired t h (3) (Rv.add (s.bankOf h).pc off) = true ∧ s.wroteX t h rd ((s.bankOf h).pc + 4) = true ∧ s.keptX t h rd = true ∧ t.tcm = s.tcm) ∧
  (∀ (h row : Nat) (rd rs1 imm : Nat) (s : State), s.runsFor h (3) = true → s.fetches h 4 (.jalr rd rs1 imm) = true → ∃ t, exec (.helmInstruction h 0 0 row) s = .next t ∧ s.retired t h (3) (Rv.add ((s.bankOf h).reg rs1) imm / 2 * 2) = true ∧ s.wroteX t h rd ((s.bankOf h).pc + 4) = true ∧ s.keptX t h rd = true ∧ t.tcm = s.tcm) ∧
  (∀ (h row : Nat) (f3 rs1 rs2 off : Nat) (s : State), s.runsFor h (3) = true → s.fetches h 4 (.branch f3 rs1 rs2 off) = true → Rv.taken f3 ((s.bankOf h).reg rs1) ((s.bankOf h).reg rs2) = true → ∃ t, exec (.helmInstruction h 0 0 row) s = .next t ∧ s.retired t h (3) (Rv.add (s.bankOf h).pc off) = true ∧ s.keptX t h 0 = true ∧ t.tcm = s.tcm) ∧
  (∀ (h row : Nat) (f3 rs1 rs2 off : Nat) (s : State), s.runsFor h (1) = true → s.fetches h 4 (.branch f3 rs1 rs2 off) = true → Rv.taken f3 ((s.bankOf h).reg rs1) ((s.bankOf h).reg rs2) = false → ∃ t, exec (.helmInstruction h 0 0 row) s = .next t ∧ s.retired t h (1) ((s.bankOf h).pc + 4) = true ∧ s.keptX t h 0 = true ∧ t.tcm = s.tcm) ∧
  (∀ (h row : Nat) (f3 rd rs1 imm a : Nat) (s : State), s.runsFor h (2) = true → s.fetches h 4 (.load f3 rd rs1 imm) = true → a = Rv.add ((s.bankOf h).reg rs1) imm → a % 2 ^ (f3 % 4) = 0 → s.inDtcm (s.helmTask h) a (2 ^ (f3 % 4)) = true → ∃ t, exec (.helmInstruction h 0 0 row) s = .next t ∧ s.retired t h (2) ((s.bankOf h).pc + 4) = true ∧ s.wroteX t h rd (let v := ofBytes (s.tcmRead h a (2 ^ (f3 % 4))); if f3 < 2 then Rv.sx v (8 * 2 ^ f3) else v) = true ∧ s.keptX t h rd = true ∧ t.tcm = s.tcm) ∧
  (∀ (h row : Nat) (f3 rs1 rs2 imm a : Nat) (s : State), s.runsFor h (1) = true → s.fetches h 4 (.store f3 rs1 rs2 imm) = true → a = Rv.add ((s.bankOf h).reg rs1) imm → a % 2 ^ f3 = 0 → s.inDtcm (s.helmTask h) a (2 ^ f3) = true → ∃ t, exec (.helmInstruction h 0 0 row) s = .next t ∧ s.retired t h (1) ((s.bankOf h).pc + 4) = true ∧ t.tcmRead h a (2 ^ f3) = toBytes ((s.bankOf h).reg rs2) (2 ^ f3) ∧ tcmKept (s.tcmKey h a) (2 ^ f3) s t ∧ s.keptX t h 0 = true) ∧
  (∀ (h row : Nat) (f5 rd rs1 rs2 : Nat) (s : State), s.runsFor h (4) = true → s.fetches h 4 (.amo f5 rd rs1 rs2) = true → (s.bankOf h).reg rs1 % 4 = 0 → s.inDtcm (s.helmTask h) ((s.bankOf h).reg rs1) 4 = true → ∃ t, exec (.helmInstruction h 0 0 row) s = .next t ∧ s.retired t h (4) ((s.bankOf h).pc + 4) = true ∧ s.wroteX t h rd (s.tcmWord h ((s.bankOf h).reg rs1)) = true ∧ t.tcmWord h ((s.bankOf h).reg rs1) = Rv.amoOp f5 (s.tcmWord h ((s.bankOf h).reg rs1)) ((s.bankOf h).reg rs2) % 2 ^ 32 ∧ tcmKept (s.tcmKey h ((s.bankOf h).reg rs1)) 4 s t ∧ s.keptX t h rd = true) ∧
  (∀ (h row : Nat) (f5 rd rs1 rs2 rm : Nat) (s : State), (s.runsFor h (if f5 < 3 then 3 else 14) = true) → s.fetches h 4 (.farith f5 rd rs1 rs2 rm) = true → ∃ t, exec (.helmInstruction h 0 0 row) s = .next t ∧ s.retired t h (if f5 < 3 then 3 else 14) ((s.bankOf h).pc + 4) = true ∧ (let r := Rv.farith f5 (roundMode (s.bankOf h).fcsr rm) ((s.bankOf h).freg rs1) ((s.bankOf h).freg rs2); let b := (if (s.helmTask h).isSome then (t.helm h).bank1 else (t.helm h).bank0); b.freg rd = r.v % 2 ^ 32 ∧ b.fcsr = (s.bankOf h).fcsr ||| r.fl ∧ b.x = (s.bankOf h).x) ∧ t.tcm = s.tcm) ∧
  (∀ (h row : Nat) (s : State), s.runsFor h 4 = true → s.fetches h 4 .ecall = true → (s.helm h).task = none → (s.helm h).handler = false → ∃ t, exec (.helmInstruction h 0 0 row) s = .next t ∧ (t.helm h).bank0.pc = (s.helm h).csr.mtvec / 4 * 4 ∧ (t.helm h).csr.mepc = (s.helm h).bank0.pc ∧ (t.helm h).csr.mcause = 11 ∧ (t.helm h).csr.mie = false ∧ (t.helm h).csr.mpie = (s.helm h).csr.mie ∧ (t.helm h).handler = true ∧ (t.helm h).at12 = s.helmEnds h 4 ∧ t.helmState h = s.helmState h ∧ t.tcm = s.tcm) ∧
  (∀ (h row : Nat) (s : State), s.runsFor h 4 = true → s.fetches h 4 .ecall = true → (s.helm h).task = none → (s.helm h).handler = true → ∃ t, exec (.helmInstruction h 0 0 row) s = .next t ∧ t.fld Fld.HLM_STATUS.FUNC_STATE h = Fn.error ∧ t.bit Fld.HLM_EVENT.ERROR h = true ∧ t.halted Halt.helm = true) ∧
  (∀ (h row k : Nat) (s : State), s.runsFor h 4 = true → s.fetches h 4 .ecall = true → (s.helm h).task = some k → k < 4096 → s.readyList = [] → s.helmState h = Fn.on → (s.helm h).frames = [] → (s.helm h).spill = none → ∃ t, exec (.helmInstruction h 0 0 row) s = .next t ∧ (t.taskOf k).live = false ∧ (t.taskOf k).trapped = true ∧ (t.taskOf k).due = some false ∧ (t.helm h).task = none ∧ (t.helm h).bank0 = (s.helm h).bank0 ∧ t.fld Fld.HLM_TRAP.TASK h = k ∧ t.fld Fld.HLM_TRAP.CAUSE h = 11 ∧ t.fld Fld.HLM_TRAP_PC.PC h = (s.helm h).bank1.pc % 2 ^ 32 ∧ t.bit Fld.HLM_EVENT.TASK_TRAP h = true ∧ t.bit Fld.TSK_EVENT.TRAP = true)

/-- GY.LIN of an inbound entry that the task or background may read, to an 8-byte aligned range of its DTCM: the payload goes there, its range alone changes, and rd takes the status word; of another entry rd takes BAD_ENTRY and memory is as it was. GY.LOUT by the task that is the trigger and shares the owner of an outbound entry, before the task's latest finish: the payload becomes the leg's working buffer for the tick and rd is 0; later rd is LATE and no leg changes; another entry gives BAD_ENTRY. GY.LSTAT gives the status word of a readable entry, else BAD_ENTRY. Where the spec leaves a point open, what it says is the model's choice: log entry 19. -/
def Obligations.TheGytrumInstructionsReadAndWriteLegs : Prop :=
  (∀ (h row : Nat) (rd rs1 rs2 : Nat) (s : State), s.runsFor h (3 + ((s.entryAt ((s.bankOf h).reg rs2)).payload + 7) / 8) = true → s.fetches h 4 (.lin rd rs1 rs2) = true → s.mayRead (s.helmTask h) (s.entryAt ((s.bankOf h).reg rs2)) = true → (s.bankOf h).reg rs1 % 8 = 0 → s.inDtcm (s.helmTask h) ((s.bankOf h).reg rs1) (s.entryAt ((s.bankOf h).reg rs2)).payload = true → ∃ t, exec (.gyLin h 0 row) s = .next t ∧ s.retired t h (3 + ((s.entryAt ((s.bankOf h).reg rs2)).payload + 7) / 8) ((s.bankOf h).pc + 4) = true ∧ t.tcmRead h ((s.bankOf h).reg rs1) (s.entryAt ((s.bankOf h).reg rs2)).payload = ((s.leg ((s.bankOf h).reg rs2)).inb ++ List.replicate (s.entryAt ((s.bankOf h).reg rs2)).payload 0).take (s.entryAt ((s.bankOf h).reg rs2)).payload ∧ tcmKept (s.tcmKey h ((s.bankOf h).reg rs1)) (s.entryAt ((s.bankOf h).reg rs2)).payload s t ∧ s.wroteX t h rd (s.legWord ((s.bankOf h).reg rs2)) = true ∧ s.keptX t h rd = true) ∧
  (∀ (h row : Nat) (rd rs1 rs2 : Nat) (s : State), s.runsFor h (3 + ((s.entryAt ((s.bankOf h).reg rs2)).moves + 7) / 8) = true → s.fetches h 4 (.lin rd rs1 rs2) = true → s.mayRead (s.helmTask h) (s.entryAt ((s.bankOf h).reg rs2)) = false → (s.bankOf h).reg rs1 % 8 = 0 → ∃ t, exec (.gyLin h 0 row) s = .next t ∧ s.retired t h (3 + ((s.entryAt ((s.bankOf h).reg rs2)).moves + 7) / 8) ((s.bankOf h).pc + 4) = true ∧ s.wroteX t h rd St.badEntry = true ∧ s.keptX t h rd = true ∧ t.tcm = s.tcm) ∧
  (∀ (h row : Nat) (rd rs1 rs2 k : Nat) (s : State), s.runsFor h (2 + ((s.entryAt ((s.bankOf h).reg rs2)).payload + 7) / 8) = true → s.fetches h 4 (.lout rd rs1 rs2) = true → (s.helm h).task = some k → k < 4096 → k ≠ 0 → (s.entryAt ((s.bankOf h).reg rs2)).valid = true → (s.entryAt ((s.bankOf h).reg rs2)).inbound = false → (s.entryAt ((s.bankOf h).reg rs2)).owner = (s.taskOf k).owner → (s.entryAt ((s.bankOf h).reg rs2)).trigger = k → (s.bankOf h).reg rs1 % 8 = 0 → s.inDtcm (s.helmTask h) ((s.bankOf h).reg rs1) (s.entryAt ((s.bankOf h).reg rs2)).payload = true → s.helmEnds h (2 + ((s.entryAt ((s.bankOf h).reg rs2)).payload + 7) / 8) ≤ s.latestAt (s.taskOf k) → (s.taskOf k).actTick = s.tick → ∃ t, exec (.gyLout h 0 row) s = .next t ∧ s.retired t h (2 + ((s.entryAt ((s.bankOf h).reg rs2)).payload + 7) / 8) ((s.bankOf h).pc + 4) = true ∧ (if s.tick % 2 = 0 then (t.leg ((s.bankOf h).reg rs2)).buf0 else (t.leg ((s.bankOf h).reg rs2)).buf1) = some (s.tick, s.tcmRead h ((s.bankOf h).reg rs1) (s.entryAt ((s.bankOf h).reg rs2)).payload) ∧ s.wroteX t h rd 0 = true ∧ s.keptX t h rd = true ∧ t.tcm = s.tcm) ∧
  (∀ (h row : Nat) (rd rs1 rs2 k : Nat) (s : State), s.runsFor h (2 + ((s.entryAt ((s.bankOf h).reg rs2)).payload + 7) / 8) = true → s.fetches h 4 (.lout rd rs1 rs2) = true → (s.helm h).task = some k → k < 4096 → k ≠ 0 → (s.entryAt ((s.bankOf h).reg rs2)).valid = true → (s.entryAt ((s.bankOf h).reg rs2)).inbound = false → (s.entryAt ((s.bankOf h).reg rs2)).owner = (s.taskOf k).owner → (s.entryAt ((s.bankOf h).reg rs2)).trigger = k → (s.bankOf h).reg rs1 % 8 = 0 → s.inDtcm (s.helmTask h) ((s.bankOf h).reg rs1) (s.entryAt ((s.bankOf h).reg rs2)).payload = true → s.latestAt (s.taskOf k) < s.helmEnds h (2 + ((s.entryAt ((s.bankOf h).reg rs2)).payload + 7) / 8) → ∃ t, exec (.gyLout h 0 row) s = .next t ∧ s.retired t h (2 + ((s.entryAt ((s.bankOf h).reg rs2)).payload + 7) / 8) ((s.bankOf h).pc + 4) = true ∧ t.chart = s.chart ∧ s.wroteX t h rd St.late = true ∧ s.keptX t h rd = true ∧ t.tcm = s.tcm) ∧
  (∀ (h row : Nat) (rd rs1 rs2 k : Nat) (s : State), s.runsFor h (2 + ((s.entryAt ((s.bankOf h).reg rs2)).moves + 7) / 8) = true → s.fetches h 4 (.lout rd rs1 rs2) = true → (s.helm h).task = some k → k < 4096 → k ≠ 0 → ((s.entryAt ((s.bankOf h).reg rs2)).valid = false ∨ (s.entryAt ((s.bankOf h).reg rs2)).inbound = true ∨ (s.entryAt ((s.bankOf h).reg rs2)).owner ≠ (s.taskOf k).owner ∨ (s.entryAt ((s.bankOf h).reg rs2)).trigger ≠ k) → (s.bankOf h).reg rs1 % 8 = 0 → s.inDtcm (s.helmTask h) ((s.bankOf h).reg rs1) (s.entryAt ((s.bankOf h).reg rs2)).moves = true → ∃ t, exec (.gyLout h 0 row) s = .next t ∧ s.retired t h (2 + ((s.entryAt ((s.bankOf h).reg rs2)).moves + 7) / 8) ((s.bankOf h).pc + 4) = true ∧ t.chart = s.chart ∧ s.wroteX t h rd St.badEntry = true ∧ s.keptX t h rd = true ∧ t.tcm = s.tcm) ∧
  (∀ (h row : Nat) (rd rs1 : Nat) (s : State), s.runsFor h (3) = true → s.fetches h 4 (.lstat rd rs1) = true → ∃ t, exec (.gyLstat h 0 row) s = .next t ∧ s.retired t h (3) ((s.bankOf h).pc + 4) = true ∧ s.wroteX t h rd (if s.mayRead (s.helmTask h) (s.entryAt ((s.bankOf h).reg rs1)) then s.legWord ((s.bankOf h).reg rs1) else St.badEntry) = true ∧ s.keptX t h rd = true ∧ t.tcm = s.tcm)

/-- GY.SIG of background to an armed task that is not dispatched and has a counter above 1: the counter goes down by one and rd is 0; a number above 4,095 gives BAD_ENTRY and changes no task. GY.SEMTRY takes a free semaphore for its helm and returns 1, or returns 0. GY.SEMTAKE takes a free semaphore, or waits. SEMAPHORE_TAKEN gives a free one to the waiting helm that the pointer names first. GY.SEMREL frees a semaphore that the helm holds and no other. GY.DONE ends the task on its helm, counts its run and records its cycles. GY.WFT makes background wait. GY.FCLMP limits fs1 to the range of |fs2|, a NaN giving +0 with NV. Where the spec leaves a point open, what it says is the model's choice: log entries 19 and 21. -/
def Obligations.TheGytrumInstructionsSignalSynchroniseAndClamp : Prop :=
  (∀ (h row : Nat) (rd rs1 : Nat) (s : State), s.runsFor h (2) = true → s.fetches h 4 (.sig rd rs1) = true → (s.helm h).task = none → ((s.bankOf h).reg rs1) < 4096 → (s.taskOf ((s.bankOf h).reg rs1)).armed = true → 1 < (s.taskOf ((s.bankOf h).reg rs1)).count → (s.taskOf ((s.bankOf h).reg rs1)).live = false → ∃ t, exec (.gySig h 0 row) s = .next t ∧ s.retired t h (2) ((s.bankOf h).pc + 4) = true ∧ (t.taskOf ((s.bankOf h).reg rs1)).count = (s.taskOf ((s.bankOf h).reg rs1)).count - 1 ∧ (t.helm h).bank0.reg rd = (if rd = 0 then 0 else St.success)) ∧
  (∀ (h row : Nat) (rd rs1 : Nat) (s : State), s.runsFor h (2) = true → s.fetches h 4 (.sig rd rs1) = true → (s.helm h).task = none → 4096 ≤ ((s.bankOf h).reg rs1) → ∃ t, exec (.gySig h 0 row) s = .next t ∧ s.retired t h (2) ((s.bankOf h).pc + 4) = true ∧ t.task = s.task ∧ s.wroteX t h rd St.badEntry = true ∧ s.keptX t h rd = true) ∧
  (∀ (h row : Nat) (rd rs1 : Nat) (s : State), s.runsFor h (3) = true → s.fetches h 4 (.semtry rd rs1) = true → ((s.bankOf h).reg rs1) < 64 → s.maySem (s.helmTask h) ((s.bankOf h).reg rs1) = true → s.bit Fld.TSK_SEM_STATE.HELD ((s.bankOf h).reg rs1) = false → ∃ t, exec (.gySemtry h 0 row) s = .next t ∧ s.retired t h (3) ((s.bankOf h).pc + 4) = true ∧ t.bit Fld.TSK_SEM_STATE.HELD ((s.bankOf h).reg rs1) = true ∧ t.fld Fld.TSK_SEM_STATE.HELM ((s.bankOf h).reg rs1) = h ∧ t.bit Fld.TSK_SEM_STATE.BY_TASK ((s.bankOf h).reg rs1) = (s.helmTask h).isSome ∧ s.wroteX t h rd 1 = true ∧ s.keptX t h rd = true) ∧
  (∀ (h row : Nat) (rd rs1 : Nat) (s : State), s.runsFor h (3) = true → s.fetches h 4 (.semtry rd rs1) = true → ((s.bankOf h).reg rs1) < 64 → s.maySem (s.helmTask h) ((s.bankOf h).reg rs1) = true → s.bit Fld.TSK_SEM_STATE.HELD ((s.bankOf h).reg rs1) = true → ∃ t, exec (.gySemtry h 0 row) s = .next t ∧ s.retired t h (3) ((s.bankOf h).pc + 4) = true ∧ t.task = s.task ∧ s.wroteX t h rd 0 = true ∧ s.keptX t h rd = true) ∧
  (∀ (h row : Nat) (rs1 : Nat) (s : State), s.runsFor h (3) = true → s.fetches h 4 (.semtake rs1) = true → ((s.bankOf h).reg rs1) < 64 → (s.helm h).task = none → s.bit Fld.TSK_SEM_STATE.HELD ((s.bankOf h).reg rs1) = false → ∃ t, exec (.gySemtake h 0 row) s = .next t ∧ s.retired t h (3) ((s.bankOf h).pc + 4) = true ∧ t.bit Fld.TSK_SEM_STATE.HELD ((s.bankOf h).reg rs1) = true ∧ t.fld Fld.TSK_SEM_STATE.HELM ((s.bankOf h).reg rs1) = h ∧ (t.helm h).wait = .none) ∧
  (∀ (h row : Nat) (rs1 : Nat) (s : State), s.runsFor h (3) = true → s.fetches h 4 (.semtake rs1) = true → ((s.bankOf h).reg rs1) < 64 → (s.helm h).task = none → s.bit Fld.TSK_SEM_STATE.HELD ((s.bankOf h).reg rs1) = true → ∃ t, exec (.gySemtake h 0 row) s = .next t ∧ s.retired t h (3) ((s.bankOf h).pc + 4) = true ∧ (t.helm h).wait = .sem ((s.bankOf h).reg rs1) ∧ t.task = s.task) ∧
  (∀ (h n : Nat) (s : State), h < 18 → n < 64 → (s.helm h).wait = .sem n → s.bit Fld.TSK_SEM_STATE.HELD n = false → (s.semWaiters n).head? = some h → ∃ t, exec (.semaphoreTaken h) s = .next t ∧ (t.helm h).wait = .none ∧ t.bit Fld.TSK_SEM_STATE.HELD n = true ∧ t.fld Fld.TSK_SEM_STATE.HELM n = h ∧ t.bit Fld.TSK_SEM_STATE.BY_TASK n = false ∧ t.task.semPtr = (h + 1) % 18) ∧
  (∀ (h row : Nat) (rs1 : Nat) (s : State), s.runsFor h (2) = true → s.fetches h 4 (.semrel rs1) = true → ((s.bankOf h).reg rs1) < 64 → s.maySem (s.helmTask h) ((s.bankOf h).reg rs1) = true → s.fld Fld.TSK_SEM_STATE.HELM ((s.bankOf h).reg rs1) = h → s.readyList = [] → ∃ t, exec (.gySemrel h 0 row) s = .next t ∧ s.retired t h (2) ((s.bankOf h).pc + 4) = true ∧ t.bit Fld.TSK_SEM_STATE.HELD ((s.bankOf h).reg rs1) = false) ∧
  (∀ (h row : Nat) (rs1 : Nat) (s : State), s.runsFor h (2) = true → s.fetches h 4 (.semrel rs1) = true → ((s.bankOf h).reg rs1) < 64 → s.maySem (s.helmTask h) ((s.bankOf h).reg rs1) = true → s.fld Fld.TSK_SEM_STATE.HELM ((s.bankOf h).reg rs1) ≠ h → ∃ t, exec (.gySemrel h 0 row) s = .next t ∧ s.retired t h (2) ((s.bankOf h).pc + 4) = true ∧ t.task = s.task ∧ t.fld Fld.TSK_SEM_STATE.HELD ((s.bankOf h).reg rs1) = s.fld Fld.TSK_SEM_STATE.HELD ((s.bankOf h).reg rs1)) ∧
  (∀ (h row k : Nat) (s : State), s.runsFor h 2 = true → s.fetches h 4 .done = true → (s.helm h).task = some k → k < 4096 → s.readyList = [] → s.helmState h = Fn.on → (s.helm h).frames = [] → (s.helm h).spill = none → ∃ t, exec (.gyDone h 0 row) s = .next t ∧ (t.taskOf k).live = false ∧ (t.taskOf k).trapped = false ∧ (t.taskOf k).endedTick = some (s.taskOf k).actTick ∧ (t.taskOf k).runCnt = ((s.taskOf k).runCnt + 1) % 65536 ∧ (t.helm h).task = none ∧ (t.helm h).bank0 = (s.helm h).bank0 ∧ t.fld Fld.HLM_STATUS.IN_TASK h = 0 ∧ (∀ n < 64, s.bit Fld.TSK_SEM_STATE.HELD n = true → s.bit Fld.TSK_SEM_STATE.BY_TASK n = true → s.fld Fld.TSK_SEM_STATE.TASK n = k → t.bit Fld.TSK_SEM_STATE.HELD n = false)) ∧
  (∀ (h row : Nat) (s : State), s.runsFor h (1) = true → s.fetches h 4 (.wft) = true → ∃ t, exec (.gyWft h 0 row) s = .next t ∧ s.retired t h (1) ((s.bankOf h).pc + 4) = true ∧ (t.helm h).wait = .wft ∧ s.keptX t h 0 = true ∧ t.tcm = s.tcm) ∧
  (∀ (h row : Nat) (rd rs1 rs2 : Nat) (s : State), s.runsFor h (1) = true → s.fetches h 4 (.fclmp rd rs1 rs2) = true → ∃ t, exec (.gyFclmp h 0 row) s = .next t ∧ s.retired t h (1) ((s.bankOf h).pc + 4) = true ∧ (let a := (s.bankOf h).freg rs1; let b := (s.bankOf h).freg rs2; let u := (if (s.helmTask h).isSome then (t.helm h).bank1 else (t.helm h).bank0); u.x = (s.bankOf h).x ∧ (if Rv.isNan a = true ∨ Rv.isNan b = true then u.freg rd = 0 ∧ u.fcsr = (s.bankOf h).fcsr ||| 16 else u.fcsr = (s.bankOf h).fcsr ∧ u.freg rd = (if Rv.flt (b % 2 ^ 31) a then b % 2 ^ 31 else if Rv.flt a (Rv.neg (b % 2 ^ 31)) then Rv.neg (b % 2 ^ 31) else a) % 2 ^ 32)) ∧ t.tcm = s.tcm)

/-- HLM_ENABLE of a helm that is OFF and in service starts ENABLING; of one that is DISABLING it is remembered. HELM_ENABLING_DONE, 64 helm cycles later, makes it ON. HLM_DISABLE of an idle helm that is ON makes it OFF. TCM_FABRIC_WRITE stores its bytes in the helm's memory and changes no other byte; into the ITCM of a helm that is not OFF it stores nothing and sets LOAD_REFUSED. HELM_INTERRUPT_TAKEN enters background's handler. TASK_DISPATCH, 24 ns after the dispatch, starts the task with the registers of R219, spilling the preempted task's bank into the next save frame. LATEST_FINISH of an armed task whose counter is not 0 marks it LATE. SEMAPHORE_OVERHOLD at its instant raises both events and frees nothing. Where the spec leaves a point open, what it says is the model's choice: log entries 20 and 21. -/
def Obligations.HelmsAreSwitchedLoadedAndDispatchedTo : Prop :=
  (∀ (h : Nat) (s : State), h < 18 → s.logicalOf h ≠ 30 → s.helmState h = Fn.off → s.helmSwapDue h = false → ∃ t, exec (.hlmEnable h) s = .next t ∧ t.fld Fld.HLM_STATUS.FUNC_STATE h = Fn.enabling ∧ t.bit Fld.HLM_CTRL.ENABLE h = true ∧ (t.helm h).bank0.pc = s.fld Fld.HLM_RESET_VEC.VECTOR h ∧ (t.helm h).enabAt = s.now12 ∧ t.tcm = s.tcm) ∧
  (∀ (h : Nat) (s : State), h < 18 → s.logicalOf h ≠ 30 → s.helmState h = Fn.disabling → ∃ t, exec (.hlmEnable h) s = .next t ∧ t.bit Fld.HLM_STATUS.PENDING_ENABLE h = true ∧ t.helms = s.helms ∧ keepsBut [(Fld.HLM_CTRL.ENABLE, h), (Fld.HLM_STATUS.PENDING_ENABLE, h)] s t) ∧
  (∀ (h : Nat) (s : State), h < 18 → s.helmState h = Fn.enabling → s.reaches (((s.helm h).enabAt + 64 * s.cyc) / 12) = true → s.readyList = [] → ∃ t, exec (.helmEnablingDone h) s = .next t ∧ t.fld Fld.HLM_STATUS.FUNC_STATE h = Fn.on ∧ t.bit Fld.HLM_EVENT.ENABLED h = true ∧ t.helm h = { s.helm h with at12 := (s.helm h).enabAt + 64 * s.cyc }) ∧
  (∀ (h : Nat) (s : State), h < 18 → s.logicalOf h ≠ 30 → s.helmState h = Fn.on → (s.helm h).task = none → s.bit Fld.HLM_STATUS.PENDING_ENABLE h = false → ∃ t, exec (.hlmDisable h) s = .next t ∧ t.fld Fld.HLM_STATUS.FUNC_STATE h = Fn.off ∧ t.bit Fld.HLM_CTRL.ENABLE h = false ∧ (t.helm h).task = none ∧ (t.helm h).frames = [] ∧ t.tcm = s.tcm) ∧
  (∀ (h off : Nat) (itcm : Bool) (bs : List Byte) (s : State), h < 18 → off + bs.length ≤ 65536 → (itcm = true → s.helmState h = Fn.off) → ∃ t, exec (.tcmFabricWrite h itcm off bs) s = .next t ∧ t.tcmRead h ((if itcm then 0 else 0x10000000) + off) bs.length = bs ∧ tcmKept (s.tcmKey h ((if itcm then 0 else 0x10000000) + off)) bs.length s t ∧ keepsBut [] s t) ∧
  (∀ (h off : Nat) (bs : List Byte) (s : State), h < 18 → off + bs.length ≤ 65536 → s.helmState h ≠ Fn.off → ∃ t, exec (.tcmFabricWrite h true off bs) s = .next t ∧ t.bit Fld.HLM_EVENT.LOAD_REFUSED h = true ∧ t.tcm = s.tcm ∧ keepsBut [(Fld.HLM_EVENT.LOAD_REFUSED, h)] s t) ∧
  (∀ (h at12 : Nat) (s : State), h < 18 → s.executes h = true → (s.helm h).task = none → (s.helm h).csr.mie = true → (s.helm h).csr.meie = true → s.meip h = true → (at12 = max (s.helm h).at12 (if (s.helm h).wait = .none then 0 else s.now12) + 4 * s.cyc) → s.reaches (at12 / 12) = true → ∃ t, exec (.helmInterruptTaken h) s = .next t ∧ (t.helm h).csr.mcause = 2 ^ 31 + 11 ∧ (t.helm h).csr.mepc = (s.helm h).bank0.pc ∧ (t.helm h).csr.mpie = true ∧ (t.helm h).csr.mie = false ∧ (t.helm h).wait = .none ∧ (t.helm h).at12 = at12 ∧ (t.helm h).bank0.x = (s.helm h).bank0.x ∧ ((s.helm h).csr.mtvec % 4 = 0 → (t.helm h).bank0.pc = (s.helm h).csr.mtvec) ∧ keepsBut [] s t) ∧
  (∀ (h k : Nat) (s : State), h < 18 → (s.helm h).task = some k → (s.helm h).entering = true → (s.helm h).spill = none → s.readyList = [] → s.reaches (((s.helm h).dispAt + 288) / 12) = true → ∃ t, exec (.taskDispatch h) s = .next t ∧ (t.helm h).entering = false ∧ (t.helm h).task = some k ∧ (t.helm h).bank1.pc = (s.taskOf k).entry ∧ tget 0 (t.helm h).bank1.x 2 = (s.taskOf k).stack ∧ tget 0 (t.helm h).bank1.x 10 = k ∧ tget 0 (t.helm h).bank1.x 11 = (s.taskOf k).actTick % 2 ^ 32 ∧ tget 0 (t.helm h).bank1.x 12 = (s.taskOf k).arg ∧ (t.helm h).bank1.f = [] ∧ (t.helm h).bank1.fcsr = 0 ∧ (t.helm h).bank0 = (s.helm h).bank0 ∧ (t.helm h).at12 = (s.helm h).dispAt + 288 ∧ t.tcm = s.tcm ∧ t.fld Fld.HLM_STATUS.IN_TASK h = 1) ∧
  (∀ (h k : Nat) (f : Frame) (s : State), h < 18 → (s.helm h).task = some k → (s.helm h).entering = true → (s.helm h).spill = some f → s.readyList = [] → s.reaches (((s.helm h).dispAt + 288) / 12) = true → ∃ t, exec (.taskDispatch h) s = .next t ∧ (t.helm h).frames = f :: (s.helm h).frames ∧ (t.helm h).spill = none ∧ t.tcmRead h (frameAddr (s.helm h).frames.length) 264 = (frameWords (s.helm h).bank1 f.act).flatMap (fun w => toBytes w 4) ∧ tcmKept (s.tcmKey h (frameAddr (s.helm h).frames.length)) 264 s t ∧ (t.helm h).bank1.pc = (s.taskOf k).entry) ∧
  (∀ (k : Nat) (s : State), k < 4096 → (s.taskOf k).armed = true → (s.taskOf k).markedTick ≠ some s.tick → (s.taskOf k).endedTick ≠ some s.tick → (s.taskOf k).count ≠ 0 → (s.taskOf k).live = false → s.reaches (s.latestAt (s.taskOf k) / 12) = true → ∃ t, exec (.latestFinish k) s = .next t ∧ t.taskOf k = { s.taskOf k with lateCnt := min 65535 ((s.taskOf k).lateCnt + 1), markedTick := some s.tick } ∧ t.bit Fld.TSK_EVENT.LATE = true ∧ t.helms = s.helms) ∧
  (∀ (n : Nat) (s : State), n < 64 → s.bit Fld.TSK_SEM_STATE.HELD n = true → s.fld Fld.TSK_SEM_CFG.HOLD_LIMIT n ≠ 0 → s.task.semOver.contains n = false → s.reaches ((tget 0 s.task.semAt n + s.fld Fld.TSK_SEM_CFG.HOLD_LIMIT n * 16 * s.cyc) / 12) = true → ∃ t, exec (.semaphoreOverhold n) s = .next t ∧ t.bit Fld.HLM_EVENT.OVERHOLD (s.fld Fld.TSK_SEM_STATE.HELM n) = true ∧ t.bit Fld.TSK_EVENT.OVERHOLD = true ∧ (tget 0 s.task.semAt n + s.fld Fld.TSK_SEM_CFG.HOLD_LIMIT n * 16 * s.cyc) / 12 ≤ t.chr.ns ∧ keepsBut [(Fld.HLM_EVENT.OVERHOLD, (s.fld Fld.TSK_SEM_STATE.HELM n)), (Fld.TSK_EVENT.OVERHOLD, 0)] s t)

/-- At the task of TSK_INDEX: WRITE of valid words to a task that is neither enabled nor running gives it the descriptor and sets DONE; otherwise the task table is as it was and REFUSED and CMD_REFUSED are set. ENABLE and DISABLE fall due at the next meridian. KICK takes one from the counter of an armed task, or counts as extra where the counter is 0. CLEAR_STATS zeroes the counts. Reads of TSK_DESC[0] and TSK_STATE[0] take snapshots. TASK_OP does the same for a task of the issuer and completes SUCCESS, WRITE only with the issuer as the staged OWNER; a task of another instance, or a number above 4,095, completes BAD_ENTRY and no task changes; READ_STATE writes the 16 bytes of the state record. Where the spec leaves a point open, what it says is the model's choice: log entry 20. -/
def Obligations.TasksAreWrittenEnabledAndKicked : Prop :=
  (∀ (s : State), s.descAccepted s.taskIndex s.stagedDesc = true → ∃ t, exec (.tskWrite) s = .next t ∧ t.taskOf s.taskIndex = { s.taskOf s.taskIndex with desc := s.stagedDesc } ∧ t.bit Fld.TSK_CMD_STATUS.DONE = true ∧ keepsBut [(Fld.TSK_CMD_STATUS.DONE, 0)] s t) ∧
  (∀ (s : State), s.descAccepted s.taskIndex s.stagedDesc = false → ∃ t, exec (.tskWrite) s = .next t ∧ t.task = s.task ∧ t.bit Fld.TSK_CMD_STATUS.REFUSED = true ∧ t.bit Fld.TSK_EVENT.CMD_REFUSED = true ∧ keepsBut [(Fld.TSK_CMD_STATUS.REFUSED, 0), (Fld.TSK_EVENT.CMD_REFUSED, 0)] s t) ∧
  (∀ (s : State), ∃ t, exec (.tskEnable) s = .next t ∧ t.taskOf s.taskIndex = { s.taskOf s.taskIndex with due := some true } ∧ t.bit Fld.TSK_CMD_STATUS.DONE = true ∧ keepsBut [(Fld.TSK_CMD_STATUS.DONE, 0)] s t) ∧
  (∀ (s : State), ∃ t, exec (.tskDisable) s = .next t ∧ t.taskOf s.taskIndex = { s.taskOf s.taskIndex with due := some false } ∧ t.bit Fld.TSK_CMD_STATUS.DONE = true ∧ keepsBut [(Fld.TSK_CMD_STATUS.DONE, 0)] s t) ∧
  (∀ (s : State), (s.taskOf s.taskIndex).armed = true → 1 < (s.taskOf s.taskIndex).count → s.readyList = [] → ∃ t, exec (.tskKick) s = .next t ∧ t.taskOf s.taskIndex = { s.taskOf s.taskIndex with count := (s.taskOf s.taskIndex).count - 1 } ∧ t.bit Fld.TSK_CMD_STATUS.DONE = true ∧ keepsBut [(Fld.TSK_CMD_STATUS.DONE, 0)] s t) ∧
  (∀ (s : State), (s.taskOf s.taskIndex).count = 0 → s.readyList = [] → ∃ t, exec (.tskKick) s = .next t ∧ t.taskOf s.taskIndex = { s.taskOf s.taskIndex with extraCnt := min 65535 ((s.taskOf s.taskIndex).extraCnt + 1) } ∧ t.bit Fld.TSK_EVENT.EXTRA = true ∧ keepsBut [(Fld.TSK_CMD_STATUS.DONE, 0), (Fld.TSK_EVENT.EXTRA, 0)] s t) ∧
  (∀ (s : State), ∃ t, exec (.tskClearStats) s = .next t ∧ t.taskOf s.taskIndex = { s.taskOf s.taskIndex with lateCnt := 0, runCnt := 0, maxCyc := 0, lastCyc := 0, skipCnt := 0, extraCnt := 0 } ∧ keepsBut [(Fld.TSK_CMD_STATUS.DONE, 0)] s t) ∧
  (∀ (s : State), ∃ t, exec (.tskDescSnapshot) s = .next t ∧ (∀ k < 8, t.fld Fld.TSK_DESC.DATA k = dword (s.taskOf s.taskIndex).desc k % 2 ^ 32) ∧ t.task = s.task ∧ keepsBut [(Fld.TSK_DESC.DATA, 0), (Fld.TSK_DESC.DATA, 1), (Fld.TSK_DESC.DATA, 2), (Fld.TSK_DESC.DATA, 3), (Fld.TSK_DESC.DATA, 4), (Fld.TSK_DESC.DATA, 5), (Fld.TSK_DESC.DATA, 6), (Fld.TSK_DESC.DATA, 7)] s t) ∧
  (∀ (s : State), ∃ t, exec (.tskStateSnapshot) s = .next t ∧ (∀ k < 4, t.fld Fld.TSK_STATE.DATA k = (s.taskOf s.taskIndex).stateWord k % 2 ^ 32) ∧ t.task = s.task ∧ keepsBut [(Fld.TSK_STATE.DATA, 0), (Fld.TSK_STATE.DATA, 1), (Fld.TSK_STATE.DATA, 2), (Fld.TSK_STATE.DATA, 3)] s t) ∧
  (∀ (tag : Nat) (s : State) (c : Cmd), s.startable tag 0x14 = some c → c.at 4 1 = 0 → (c.at 8 2) < 4096 → (s.taskOf (c.at 8 2)).owner = c.ins → (s.descAccepted (c.at 8 2) ((List.range 8).map fun k => c.at (16 + 4 * k) 4) = true) → bitsAt (c.at 36 4) 0 12 = c.ins → s.takesCompletion c = true → ∃ t, exec (.taskOpWrite tag) s = .next t ∧ t.cmd tag = none ∧ s.reports t c St.success = true ∧ t.taskOf (c.at 8 2) = { s.taskOf (c.at 8 2) with desc := ((List.range 8).map fun k => c.at (16 + 4 * k) 4) }) ∧
  (∀ (tag : Nat) (s : State) (c : Cmd), s.startable tag 0x14 = some c → c.at 4 1 = 0 → (c.at 8 2) < 4096 → (s.taskOf (c.at 8 2)).owner = c.ins → (s.descAccepted (c.at 8 2) ((List.range 8).map fun k => c.at (16 + 4 * k) 4) = false ∨ bitsAt (c.at 36 4) 0 12 ≠ c.ins) → s.takesCompletion c = true → ∃ t, exec (.taskOpWrite tag) s = .next t ∧ t.cmd tag = none ∧ s.reports t c St.badEntry = true ∧ t.task = s.task) ∧
  (∀ (tag : Nat) (s : State) (c : Cmd), s.startable tag 0x14 = some c → c.at 4 1 = 1 → (c.at 8 2) < 4096 → (s.taskOf (c.at 8 2)).owner = c.ins → s.takesCompletion c = true → ∃ t, exec (.taskOpEnable tag) s = .next t ∧ t.cmd tag = none ∧ s.reports t c St.success = true ∧ t.taskOf (c.at 8 2) = { s.taskOf (c.at 8 2) with due := some true }) ∧
  (∀ (tag : Nat) (s : State) (c : Cmd), s.startable tag 0x14 = some c → c.at 4 1 = 1 → (4096 ≤ (c.at 8 2) ∨ (s.taskOf (c.at 8 2)).owner ≠ c.ins) → s.takesCompletion c = true → ∃ t, exec (.taskOpEnable tag) s = .next t ∧ t.cmd tag = none ∧ s.reports t c St.badEntry = true ∧ t.task = s.task) ∧
  (∀ (tag : Nat) (s : State) (c : Cmd), s.startable tag 0x14 = some c → c.at 4 1 = 2 → (c.at 8 2) < 4096 → (s.taskOf (c.at 8 2)).owner = c.ins → s.takesCompletion c = true → ∃ t, exec (.taskOpDisable tag) s = .next t ∧ t.cmd tag = none ∧ s.reports t c St.success = true ∧ t.taskOf (c.at 8 2) = { s.taskOf (c.at 8 2) with due := some false }) ∧
  (∀ (tag : Nat) (s : State) (c : Cmd), s.startable tag 0x14 = some c → c.at 4 1 = 3 → (c.at 8 2) < 4096 → (s.taskOf (c.at 8 2)).owner = c.ins → (s.taskOf (c.at 8 2)).armed = true → 1 < (s.taskOf (c.at 8 2)).count → s.readyList = [] → s.takesCompletion c = true → ∃ t, exec (.taskOpKick tag) s = .next t ∧ t.cmd tag = none ∧ s.reports t c St.success = true ∧ (t.taskOf (c.at 8 2)).count = (s.taskOf (c.at 8 2)).count - 1) ∧
  (∀ (tag : Nat) (s : State) (c : Cmd), s.startable tag 0x14 = some c → c.at 4 1 = 4 → (c.at 8 2) < 4096 → (s.taskOf (c.at 8 2)).owner = c.ins → s.canIssue (s.insFn c.ins) = true → s.takesCompletion c = true → ∃ t, exec (.taskOpReadState tag) s = .next t ∧ t.cmd tag = none ∧ s.reports t c St.success = true ∧ (s.dropped c = true → s.bit Fld.INS_LOG_CFG.RUNNING c.ins = false → readBytes memDefault t.host (c.at 48 8) 16 = ((List.range 4).flatMap fun k => toBytes ((s.taskOf (c.at 8 2)).stateWord k) 4) ∧ hostKept (c.at 48 8) 16 s t) ∧ t.task = s.task)

/-- PI_FULL_AT_SLOT with no counted leg, at the start of slot N - 4: the header of the inbound page reads the tick, the counts and the meridian, and no other byte of host memory changes. PI_HALF_AT_SLOT raises the half cause once. PI_STAMP_COMPLETION with the page's stamp starts the region reads; with another the page is missed. PI_REGION_READ_COMPLETION takes the data, and a leg that it completes has its buffer. PI_READ_FAULT records the fault and counts the page once. DMA_PI_CFG_WRITE takes the fields, is refused while enabled, and refuses to enable a misaligned page set; DMA_PI_BASE_WRITE and DMA_ROUTE_CONFIG take their values, or are refused while enabled. Where the spec leaves a point open, what it says is the model's choice: log entry 32. -/
def Obligations.TheProcessImageIsWrittenAndRead : Prop :=
  (∀ (i : Nat) (p : PiIn) (s : State), s.piIn i s.tick = some p → s.piActive i = true → p.left = [] → p.written = 0 → p.fullDone = false → s.canIssue (s.insFn i) = true → s.bit Fld.INS_LOG_CFG.RUNNING i = false → s.reaches (s.chr.meridNs + 32 * (s.fld Fld.CHT_TICK_LEN.ACTIVE_N - 4)) = true → ∃ t, exec (.piFullAtSlot i) s = .next t ∧ readBytes memDefault t.host (s.inPage i s.tick) 24 = toBytes s.tick 8 ++ toBytes 0 2 ++ toBytes p.failed 2 ++ toBytes 0 4 ++ toBytes p.meridNs 8 ∧ hostKept (s.inPage i s.tick) 24 s t ∧ (t.piIn i s.tick).map (·.fullDone) = some true ∧ s.chr.meridNs + 32 * (s.fld Fld.CHT_TICK_LEN.ACTIVE_N - 4) ≤ t.chr.ns) ∧
  (∀ (i : Nat) (p : PiIn) (s : State), s.piIn i s.tick = some p → p.halfDone = false → s.piActive i = true → s.fld Fld.DMA_PI_CFG.HALF_SLOT i ≠ 0 → s.reaches (s.chr.meridNs + 32 * s.fld Fld.DMA_PI_CFG.HALF_SLOT i) = true → ∃ t, exec (.piHalfAtSlot i) s = .next t ∧ (t.piIn i s.tick).map (·.halfDone) = some true ∧ t.host = s.host ∧ s.chr.meridNs + 32 * s.fld Fld.DMA_PI_CFG.HALF_SLOT i ≤ t.chr.ns) ∧
  (∀ (i : Nat) (u : PiStream) (s : State), s.stream i = u → u.stamp = true → u.stampDue = false → u.closed = false → ofBytes (readBytes memDefault s.host (s.outPage i u.page) 8) = u.page → s.attached i = true → ∃ t, exec (.piStampCompletion i) s = .next t ∧ (t.stream i).stamp = false ∧ (t.stream i).missed = u.missed ∧ (t.stream i).reads.map (·.2) ++ (t.stream i).waiting = u.reads.map (·.2) ++ s.piExtents i u.page) ∧
  (∀ (i : Nat) (u : PiStream) (s : State), s.stream i = u → u.stamp = true → u.stampDue = false → u.closed = false → ofBytes (readBytes memDefault s.host (s.outPage i u.page) 8) ≠ u.page → ∃ t, exec (.piStampCompletion i) s = .next t ∧ (t.stream i).stamp = false ∧ (t.stream i).missed = true ∧ (t.stream i).page = u.page ∧ (t.stream i).supplied = u.supplied ∧ t.bit Fld.DMA_PI_STATUS.STAMP_MISS i = true) ∧
  (∀ (i k off len : Nat) (u : PiStream) (e : Nat × ChartEntry) (bs : List Byte) (s : State), s.stream i = u → u.reads[k]? = some (u.page, off, len) → u.closed = false → s.piLegs i u.page = [e] → piecesCover u.got (e.2.piOffset * 8) e.2.payload = none → piecesCover (u.got ++ [(off, readBytes memDefault s.host (s.outPage i u.page + off) len)]) (e.2.piOffset * 8) e.2.payload = some bs → ∃ t, exec (.piRegionReadCompletion i k) s = .next t ∧ (t.stream i).got = u.got ++ [(off, readBytes memDefault s.host (s.outPage i u.page + off) len)] ∧ (t.stream i).reads.take (u.reads.length - 1) = u.reads.eraseIdx k ∧ (if u.page % 2 = 0 then (t.leg e.1).buf0 else (t.leg e.1).buf1) = some (u.page, bs) ∧ t.host = s.host) ∧
  (∀ (i k how : Nat) (u : PiStream) (s : State), s.stream i = u → u.stamp = true → u.stampDue = false → u.closed = false → u.faulted = false → ∃ t, exec (.piReadFault i true k how) s = .next t ∧ (t.stream i).stamp = false ∧ (t.stream i).faulted = true ∧ (t.stream i).waiting = [] ∧ t.bit Fld.DMA_PI_STATUS.READ_FAULT i = true ∧ t.bit Fld.DMA_EVENT.PI_FAULT = true ∧ t.bit Fld.HIC_ERR_CAUSE.PI_FAULT i = true ∧ t.fld Fld.DMA_PI_FAULT_CNT.COUNT i = min (s.fld Fld.DMA_PI_FAULT_CNT.COUNT i + 1) (2 ^ Fld.DMA_PI_FAULT_CNT.COUNT.w - 1)) ∧
  (∀ (v : Nat) (s : State), s.bit Fld.DMA_PI_CFG.ENABLE s.piIndex = false → s.piActive s.piIndex = false → (bitAt v 0 = true → s.pageBase s.piIndex % (4096 * 2 ^ min 11 (bitsAt v 4 4)) = 0) → ∃ t, exec (.dmaPiCfgWrite v) s = .next t ∧ t.fld Fld.DMA_PI_CFG.HALF_SLOT s.piIndex = bitsAt v 8 15 ∧ t.fld Fld.DMA_PI_CFG.SIZE s.piIndex = bitsAt v 4 4 ∧ t.bit Fld.DMA_PI_CFG.ENABLE s.piIndex = bitAt v 0 ∧ keepsBut [(Fld.DMA_PI_CFG.HALF_SLOT, s.piIndex), (Fld.DMA_PI_CFG.SIZE, s.piIndex), (Fld.DMA_PI_CFG.ENABLE, s.piIndex)] s t) ∧
  (∀ (v : Nat) (s : State), (s.bit Fld.DMA_PI_CFG.ENABLE s.piIndex = true ∨ s.piActive s.piIndex = true) → bitsAt v 4 4 ≠ s.fld Fld.DMA_PI_CFG.SIZE s.piIndex → ∃ t, exec (.dmaPiCfgWrite v) s = .next t ∧ t.bit Fld.DMA_PI_STATUS.CFG_REFUSED s.piIndex = true ∧ keepsBut [(Fld.DMA_PI_STATUS.CFG_REFUSED, s.piIndex)] s t) ∧
  (∀ (v : Nat) (s : State), s.bit Fld.DMA_PI_CFG.ENABLE s.piIndex = false → s.piActive s.piIndex = false → bitAt v 0 = true → s.pageBase s.piIndex % (4096 * 2 ^ min 11 (bitsAt v 4 4)) ≠ 0 → ∃ t, exec (.dmaPiCfgWrite v) s = .next t ∧ t.bit Fld.DMA_PI_STATUS.CFG_REFUSED s.piIndex = true ∧ t.bit Fld.DMA_PI_CFG.ENABLE s.piIndex = false) ∧
  (∀ (v : Nat) (s : State), s.bit Fld.DMA_PI_CFG.ENABLE s.piIndex = false → s.piActive s.piIndex = false → ∃ t, exec (.dmaPiBaseWrite true v) s = .next t ∧ t.fld Fld.DMA_PI_BASE_HI.BASE_HI s.piIndex = v % 2 ^ 32 ∧ keepsBut [(Fld.DMA_PI_BASE_HI.BASE_HI, s.piIndex)] s t) ∧
  (∀ (hi : Bool) (v : Nat) (s : State), (s.bit Fld.DMA_PI_CFG.ENABLE s.piIndex = true ∨ s.piActive s.piIndex = true) → ∃ t, exec (.dmaPiBaseWrite hi v) s = .next t ∧ t.bit Fld.DMA_PI_STATUS.CFG_REFUSED s.piIndex = true ∧ keepsBut [(Fld.DMA_PI_STATUS.CFG_REFUSED, s.piIndex)] s t) ∧
  (∀ (r v : Nat) (s : State), s.fld Fld.DMA_ROUTE_INDEX.ROUTE = r → s.bit Fld.DMA_ROUTE_CFG.ENABLE r = false → ∃ t, exec (.dmaRouteConfig 0 v) s = .next t ∧ t.fld Fld.DMA_ROUTE_SRC.OWNER r = bitsAt v 20 12 ∧ t.fld Fld.DMA_ROUTE_SRC.OFFSET r = bitsAt v 0 20 ∧ keepsBut [(Fld.DMA_ROUTE_SRC.OWNER, r), (Fld.DMA_ROUTE_SRC.OFFSET, r)] s t) ∧
  (∀ (r v : Nat) (s : State), s.fld Fld.DMA_ROUTE_INDEX.ROUTE = r → s.bit Fld.DMA_ROUTE_CFG.ENABLE r = false → bitAt v 31 = true → routeValid (bitsAt v 0 13) (s.fld Fld.DMA_ROUTE_DST.BUF0 r) (s.fld Fld.DMA_ROUTE_DST.BUF1 r) = true → ∃ t, exec (.dmaRouteConfig 2 v) s = .next t ∧ t.fld Fld.DMA_ROUTE_CFG.LENGTH r = bitsAt v 0 13 ∧ t.fld Fld.DMA_ROUTE_CFG.HELM r = bitsAt v 16 4 ∧ t.bit Fld.DMA_ROUTE_CFG.ENABLE r = true ∧ keepsBut [(Fld.DMA_ROUTE_CFG.LENGTH, r), (Fld.DMA_ROUTE_CFG.HELM, r), (Fld.DMA_ROUTE_CFG.ENABLE, r)] s t) ∧
  (∀ (r v : Nat) (s : State), s.fld Fld.DMA_ROUTE_INDEX.ROUTE = r → s.bit Fld.DMA_ROUTE_CFG.ENABLE r = true → ∃ t, exec (.dmaRouteConfig 1 v) s = .next t ∧ t.bit Fld.DMA_PI_STATUS.CFG_REFUSED (s.fld Fld.DMA_ROUTE_SRC.OWNER r) = true ∧ keepsBut [(Fld.DMA_PI_STATUS.CFG_REFUSED, (s.fld Fld.DMA_ROUTE_SRC.OWNER r))] s t)

/-- DMA_CH_CONFIG takes the window base of a channel that is OFF and refuses otherwise. DMA_CH_ENABLE starts ENABLING unless the owner is OFF, DMA_CH_ENABLED makes it ON, DMA_CH_DISABLE of an idle one OFF. DMA_CH_START and the command DMA start an idle channel at its head; DMA to a channel that is not in service, not ON or busy completes BAD_ENTRY. DESCRIPTOR_FETCH_COMPLETE takes the descriptor and counts it; a bad one is written back with BAD_ENTRY and ends the chain. BURST_ISSUE sends the next burst of the channel served first, the write engine with its data. DMA_DATA_COMPLETE of the last burst to the bulk buffer stores the data there and, at the end of the chain, writes the descriptor back with SUCCESS. FLUSH_READ_COMPLETE does the same for a write descriptor, and the chain goes on to the next one. DMA_CH_RESUME reads NEXT of the last descriptor again. DMA_CH_ABORT between descriptors ends the chain, completing the command that started it with ABORTED. DMA_COMPLETION_TIMEOUT of a fetch halts the channel in ERROR. Where the spec leaves a point open, what it says is the model's choice: log entry 33. -/
def Obligations.ChannelsMoveDataAlongTheirChains : Prop :=
  (∀ (c v : Nat) (s : State), c < 68 → s.chanState c = Fn.off → ∃ t, exec (.dmaChConfig c 2 v) s = .next t ∧ t.fld Fld.DMA_CH_WIN_BASE.BASE c = v % 2 ^ 32 ∧ keepsBut [(Fld.DMA_CH_WIN_BASE.BASE, c)] s t) ∧
  (∀ (c reg v : Nat) (s : State), c < 68 → reg < 5 → s.chanState c ≠ Fn.off → ∃ t, exec (.dmaChConfig c reg v) s = .next t ∧ t.bit Fld.DMA_CH_EVENT.CFG_REFUSED c = true ∧ keepsBut [(Fld.DMA_CH_EVENT.CFG_REFUSED, c)] s t) ∧
  (∀ (c : Nat) (s : State), c < 68 → s.fld Fld.DMA_CH_STATUS.LOGICAL c ≠ 126 → s.chanState c = Fn.off → s.fld Fld.INS_STATUS.FUNC_STATE (s.chanOwner c) ≠ Fn.off → ∃ t, exec (.dmaChEnable c) s = .next t ∧ t.fld Fld.DMA_CH_STATUS.FUNC_STATE c = Fn.enabling ∧ t.bit Fld.DMA_CH_CTRL.ENABLE c = true ∧ keepsBut [(Fld.DMA_CH_CTRL.ENABLE, c), (Fld.DMA_CH_STATUS.FUNC_STATE, c)] s t) ∧
  (∀ (c : Nat) (s : State), c < 68 → s.fld Fld.DMA_CH_STATUS.LOGICAL c ≠ 126 → s.chanState c = Fn.off → s.fld Fld.INS_STATUS.FUNC_STATE (s.chanOwner c) = Fn.off → ∃ t, exec (.dmaChEnable c) s = .next t ∧ t.bit Fld.DMA_CH_CTRL.ENABLE c = false ∧ t.bit Fld.DMA_CH_EVENT.CFG_REFUSED c = true ∧ keepsBut [(Fld.DMA_CH_CTRL.ENABLE, c), (Fld.DMA_CH_EVENT.CFG_REFUSED, c)] s t) ∧
  (∀ (c : Nat) (s : State), c < 68 → s.chanState c = Fn.enabling → ∃ t, exec (.dmaChEnabled c) s = .next t ∧ t.fld Fld.DMA_CH_STATUS.FUNC_STATE c = Fn.on ∧ t.bit Fld.DMA_CH_EVENT.ENABLED c = true ∧ keepsBut [(Fld.DMA_CH_STATUS.FUNC_STATE, c), (Fld.DMA_CH_EVENT.ENABLED, c)] s t) ∧
  (∀ (c : Nat) (s : State), c < 68 → s.fld Fld.DMA_CH_STATUS.LOGICAL c ≠ 126 → s.chanState c = Fn.on → s.chanRuns c = false → s.bit Fld.DMA_CH_STATUS.PENDING_ENABLE c = false → ∃ t, exec (.dmaChDisable c) s = .next t ∧ t.fld Fld.DMA_CH_STATUS.FUNC_STATE c = Fn.off ∧ t.bit Fld.DMA_CH_CTRL.ENABLE c = false ∧ t.dma = s.dma) ∧
  (∀ (c : Nat) (s : State), c < 68 → s.chanState c = Fn.on → s.chanRuns c = false → ∃ t, exec (.dmaChStart c) s = .next t ∧ t.chanRuns c = true ∧ t.fld Fld.DMA_CH_COUNT.FETCHED c = 0 ∧ (t.chan c).fetching = some (s.chHead c) ∧ (t.chan c).cur = none ∧ t.host = s.host) ∧
  (∀ (c a : Nat) (s : State), c < 68 → s.chanState c = Fn.on → s.chanRuns c = false → (s.chan c).last = some a → ∃ t, exec (.dmaChResume c) s = .next t ∧ t.chanRuns c = true ∧ (t.chan c).fetching = some a ∧ (t.chan c).resuming = true ∧ (t.chan c).last = some a ∧ t.host = s.host) ∧
  (∀ (tag : Nat) (s : State) (c : Cmd) (n : Nat), s.startable tag 0x83 = some c → s.requestFree (s.insFn (s.chanOwner n)) = true → (s.chan n).npWait = false → s.chanNamed (c.at 4 1) = some n → s.chanState n = Fn.on → s.chanRuns n = false → ∃ t, exec (.dma tag) s = .next t ∧ t.stageOf tag = some .running ∧ t.chanRuns n = true ∧ t.chan n = { s.chan n with fetching := some (c.at 8 8 / 32 * 32), cur := none, bursts := [], last := none, tag := some tag, stopping := false, done := 0 } ∧ t.host = s.host) ∧
  (∀ (tag : Nat) (s : State) (c : Cmd) (n : Nat), s.startable tag 0x83 = some c → s.chanNamed (c.at 4 1) = some n → (s.chanState n ≠ Fn.on ∨ s.chanRuns n = true) → s.takesCompletion c = true → ∃ t, exec (.dma tag) s = .next t ∧ t.cmd tag = none ∧ s.reports t c St.badEntry = true ∧ t.dma = s.dma) ∧
  (∀ (c a : Nat) (d : Desc) (s : State), c < 68 → (s.chan c).fetching = some a → (s.chan c).npWait = false → (s.chan c).resuming = false → (d = { addr := a, words := (List.range 8).map fun k => ofBytes (readBytes memDefault s.host (a + 4 * k) 4), pieces := [(Desc.hostAddr { words := (List.range 8).map fun k => ofBytes (readBytes memDefault s.host (a + 4 * k) 4) }, Desc.len { words := (List.range 8).map fun k => ofBytes (readBytes memDefault s.host (a + 4 * k) 4) })] }) → d.frag = false → d.len ≠ 0 → s.descBad c d = false → ∃ t, exec (.descriptorFetchComplete c 0) s = .next t ∧ t.chan c = { s.chan c with fetching := none, cur := some d, bursts := [], waitFrom := s.chr.ns } ∧ t.fld Fld.DMA_CH_COUNT.FETCHED c = min (s.fld Fld.DMA_CH_COUNT.FETCHED c + 1) (2 ^ Fld.DMA_CH_COUNT.FETCHED.w - 1) ∧ t.host = s.host) ∧
  (∀ (c a : Nat) (d : Desc) (s : State), c < 68 → (s.chan c).fetching = some a → (s.chan c).npWait = false → (s.chan c).resuming = false → (s.chan c).tag = none → s.chanState c ≠ Fn.disabling → (d = { addr := a, words := (List.range 8).map fun k => ofBytes (readBytes memDefault s.host (a + 4 * k) 4) }) → d.frag = false → s.descBad c d = true → s.bit Fld.INS_LOG_CFG.RUNNING (s.chanOwner c) = false → ∃ t, exec (.descriptorFetchComplete c 0) s = .next t ∧ readBytes memDefault t.host (d.addr + 24) 8 = toBytes (d.len + 2 ^ 31) 4 ++ toBytes (St.badEntry + dword d.words 7 / 256 * 256) 4 ∧ hostKept (d.addr + 24) 8 s t ∧ t.chanRuns c = false ∧ t.bit Fld.DMA_CH_EVENT.BAD_DESC c = true ∧ t.fld Fld.DMA_CH_STATUS.LAST_STATUS c = St.badEntry ∧ (t.chan c).cur = none ∧ (t.chan c).last = some a) ∧
  (∀ (beats ce c n : Nat) (d : Desc) (s : State), s.nextChan false = some c → (s.chan c).cur = some d → s.requestFree (s.insFn (s.chanOwner c)) = true → n = d.burstLen beats (s.maxRead (s.insFn (s.chanOwner c))) → s.devOff (d.devAddr + d.issued) 0 = [] → ∃ t, exec (.burstIssue false beats ce) s = .next t ∧ (t.chan c).cur = some { d with issued := d.issued + n } ∧ (t.chan c).bursts = (s.chan c).bursts ++ [(d.issued, n)] ∧ t.dma.pointer = (c + 1) % 68 ∧ t.host = s.host ∧ t.tcm = s.tcm) ∧
  (∀ (beats c n a : Nat) (d : Desc) (s : State), s.nextChan true = some c → (s.chan c).cur = some d → n = d.burstLen beats 512 → pieceRange d.pieces d.issued n = [(a, n)] → s.devOff (d.devAddr + d.issued) n = [] → s.bit Fld.INS_LOG_CFG.RUNNING (s.chanOwner c) = false → ∃ t, exec (.burstIssue true beats 0) s = .next t ∧ readBytes memDefault t.host a n = s.devRead (d.devAddr + d.issued) n ∧ hostKept a n s t ∧ (t.chan c).cur = some { d with issued := d.issued + n } ∧ (t.chan c).bursts = (s.chan c).bursts ++ [(d.issued, n)]) ∧
  (∀ (c off n : Nat) (d : Desc) (s : State), c < 68 → (s.chan c).cur = some d → (s.chan c).bursts = [(off, n)] → (s.chan c).orphans = 0 → d.moved + n = d.total → d.short = false → d.op = 0 → d.nextValid = false → (s.chan c).tag = none → s.chanState c = Fn.on → 0x10000000 ≤ d.devAddr → (s.readPieces d.pieces off n).length = n → s.bit Fld.INS_LOG_CFG.RUNNING (s.chanOwner c) = false → ∃ t, exec (.dmaDataComplete c) s = .next t ∧ t.tcmRead 32 (d.devAddr + off - 0x10000000) n = s.readPieces d.pieces off n ∧ tcmKept (s.tcmKey 32 (d.devAddr + off - 0x10000000)) n s t ∧ readBytes memDefault t.host (d.addr + 24) 8 = toBytes (0 + 2 ^ 31) 4 ++ toBytes (St.success + dword d.words 7 / 256 * 256) 4 ∧ hostKept (d.addr + 24) 8 s t ∧ t.chanRuns c = false ∧ t.bit Fld.DMA_CH_EVENT.CHAIN_END c = true ∧ t.fld Fld.DMA_CH_STATUS.LAST_STATUS c = St.success ∧ (t.chan c).last = some d.addr ∧ (t.chan c).cur = none) ∧
  (∀ (c : Nat) (d : Desc) (s : State), c < 68 → (s.chan c).cur = some d → d.flush = true → (s.chan c).npWait = false → d.nextValid = true → (s.chan c).stopping = false → s.fld Fld.DMA_CH_COUNT.FETCHED c < s.fld Fld.DMA_CH_CHAIN_LIMIT.LIMIT c → s.bit Fld.INS_LOG_CFG.RUNNING (s.chanOwner c) = false → ∃ t, exec (.flushReadComplete c) s = .next t ∧ readBytes memDefault t.host (d.addr + 24) 8 = toBytes (0 + 2 ^ 31) 4 ++ toBytes (St.success + dword d.words 7 / 256 * 256) 4 ∧ hostKept (d.addr + 24) 8 s t ∧ (t.chan c).fetching = some d.next ∧ (t.chan c).cur = none ∧ (t.chan c).last = some d.addr ∧ t.fld Fld.DMA_CH_RESIDUE.RESIDUE c = 0) ∧
  (∀ (c tag : Nat) (k : Cmd) (s : State), c < 68 → s.chanRuns c = true → (s.chan c).cur = none → (s.chan c).tag = some tag → s.cmd tag = some k → k.stage = .running → s.takesCompletion k = true → s.chanState c = Fn.on → ∃ t, exec (.dmaChAbort c) s = .next t ∧ t.chanRuns c = false ∧ t.cmd tag = none ∧ s.reports t k St.aborted ((s.chan c).done % 2 ^ 25 + s.fld Fld.DMA_CH_STATUS.CHAIN_LIMIT c * 2 ^ 31) (s.fld Fld.DMA_CH_RESIDUE.RESIDUE c) = true ∧ t.bit Fld.DMA_CH_EVENT.ABORTED c = true ∧ (t.chan c).fetching = none) ∧
  (∀ (c how a : Nat) (s : State), c < 68 → (s.chan c).fetching = some a → (s.chan c).npWait = false → (s.chan c).tag = none → ∃ t, exec (.dmaCompletionTimeout c how) s = .next t ∧ t.fld Fld.DMA_CH_STATUS.FUNC_STATE c = Fn.error ∧ t.chanRuns c = false ∧ t.bit Fld.DMA_CH_EVENT.FAULT c = true ∧ t.bit Fld.DMA_EVENT.CH_FAULT = true ∧ t.bit Fld.HIC_ERR_CAUSE.CH_FAULT (s.chanOwner c) = true ∧ t.fld Fld.DMA_CH_CUR_LO.CUR_LO c = a % 2 ^ 32)

/-- For an instance other than I0: BIND_INSTANCE of one that is OFF takes function, slot, vectors and PASID, and one that is not OFF or a value out of range is BAD_ENTRY. SET_SHARES takes the selected shares in range and leaves the others; one out of range changes none. INSTANCE_CTRL: ENABLE of one that is OFF with a valid binding starts ENABLING, of one that is ON completes; DISABLE of one that is ON holds it and makes it DISABLING; HOLD and UNHOLD write HOLD; FAIL of one that is ON makes it ERROR, of another is BAD_ENTRY. QUIESCE holds the instance and waits, or completes when it is quiesced; QUIESCE_TIMEOUT ends the wait. LOGBOOK_START, SYNC and STOP run the logbook. READ_INSTANCE writes its 32 bytes. Where the spec leaves a point open, what it says is the model's choice: log entries 14, 15 and 34. -/
def Obligations.InstanceCommandsBindShareAndSwitch : Prop :=
  (∀ (tag : Nat) (s : State) (c : Cmd), s.startable tag 0x20 = some c → (c.at 4 2) ≠ 0 → (c.at 4 2) < 4096 → c.ins ≠ (c.at 4 2) → s.insState (c.at 4 2) = Fn.off → (c.at 8 2 ≤ (if c.at 6 1 = 0 then 4095 else 63)) → c.at 10 2 ≤ 2047 → c.at 12 2 ≤ 2048 → s.takesCompletion c = true → ∃ t, exec (.bindInstance tag) s = .next t ∧ t.cmd tag = none ∧ s.reports t c St.success = true ∧ t.fld Fld.INS_BIND.FUNCTION (c.at 4 2) = c.at 6 1 ∧ t.fld Fld.INS_BIND.SLOT (c.at 4 2) = c.at 8 2 ∧ t.fld Fld.INS_VEC.VEC_BASE (c.at 4 2) = c.at 10 2 ∧ t.fld Fld.INS_VEC.VEC_COUNT (c.at 4 2) = c.at 12 2 ∧ t.fld Fld.INS_PASID.PASID (c.at 4 2) = bitsAt (c.at 16 4) 0 20 ∧ t.bit Fld.INS_PASID.PASID_EN (c.at 4 2) = bitAt (c.at 16 4) 31) ∧
  (∀ (tag : Nat) (s : State) (c : Cmd), s.startable tag 0x20 = some c → (c.at 4 2) ≠ 0 → (c.at 4 2) < 4096 → (s.insState (c.at 4 2) ≠ Fn.off ∨ (if c.at 6 1 = 0 then 4095 else 63) < c.at 8 2 ∨ 2047 < c.at 10 2 ∨ 2048 < c.at 12 2) → s.takesCompletion c = true → ∃ t, exec (.bindInstance tag) s = .next t ∧ t.cmd tag = none ∧ s.reports t c St.badEntry = true ∧ t.fld Fld.INS_BIND.FUNCTION (c.at 4 2) = s.fld Fld.INS_BIND.FUNCTION (c.at 4 2) ∧ t.fld Fld.INS_BIND.SLOT (c.at 4 2) = s.fld Fld.INS_BIND.SLOT (c.at 4 2)) ∧
  (∀ (tag : Nat) (s : State) (c : Cmd), s.startable tag 0x21 = some c → (c.at 4 2) < 4096 → (c.ins ≠ (c.at 4 2) ∨ bitAt (c.at 6 1) 5 = false) → (∀ e ∈ (shareList c).zipIdx, bitAt (c.at 6 1) e.2 = true → e.1.2.2.1 ≤ e.1.2.1 ∧ e.1.2.1 ≤ e.1.2.2.2) → s.takesCompletion c = true → ∃ t, exec (.setShares tag) s = .next t ∧ t.cmd tag = none ∧ s.reports t c St.success = true ∧ (∀ e ∈ (shareList c).zipIdx, t.fld e.1.1 (c.at 4 2) = if bitAt (c.at 6 1) e.2 then e.1.2.1 else s.fld e.1.1 (c.at 4 2))) ∧
  (∀ (tag : Nat) (s : State) (c : Cmd), s.startable tag 0x21 = some c → (c.at 4 2) < 4096 → (∃ e ∈ (shareList c).zipIdx, bitAt (c.at 6 1) e.2 = true ∧ (e.1.2.1 < e.1.2.2.1 ∨ e.1.2.2.2 < e.1.2.1)) → s.takesCompletion c = true → ∃ t, exec (.setShares tag) s = .next t ∧ t.cmd tag = none ∧ s.reports t c St.badEntry = true ∧ (∀ e ∈ shareList c, t.fld e.1 (c.at 4 2) = s.fld e.1 (c.at 4 2))) ∧
  (∀ (tag : Nat) (s : State) (c : Cmd), s.startable tag 0x22 = some c → c.at 6 1 = 0 → (c.at 4 2) ≠ 0 → (c.at 4 2) < 4096 → s.insState (c.at 4 2) = Fn.off → s.bindingOk (c.at 4 2) = true → ∃ t, exec (.instanceCtrlEnable tag) s = .next t ∧ t.fld Fld.INS_STATUS.FUNC_STATE (c.at 4 2) = Fn.enabling ∧ t.bit Fld.INS_CTRL.ENABLE (c.at 4 2) = true ∧ t.bit Fld.INS_CTRL.HOLD (c.at 4 2) = false ∧ t.stageOf tag = some .running ∧ t.ins.live = s.ins.live.filter (· != (c.at 4 2)) ++ [(c.at 4 2)]) ∧
  (∀ (tag : Nat) (s : State) (c : Cmd), s.startable tag 0x22 = some c → c.at 6 1 = 0 → (c.at 4 2) ≠ 0 → (c.at 4 2) < 4096 → c.ins ≠ (c.at 4 2) → s.insState (c.at 4 2) = Fn.on → s.takesCompletion c = true → ∃ t, exec (.instanceCtrlEnable tag) s = .next t ∧ t.cmd tag = none ∧ s.reportsSome t c St.success = true ∧ t.fld Fld.INS_STATUS.FUNC_STATE (c.at 4 2) = Fn.on) ∧
  (∀ (tag : Nat) (s : State) (c : Cmd), s.startable tag 0x22 = some c → c.at 6 1 = 1 → (c.at 4 2) ≠ 0 → (c.at 4 2) < 4096 → c.ins ≠ (c.at 4 2) → s.insState (c.at 4 2) = Fn.on → s.sqsOf (c.at 4 2) = [] → s.takesCompletion c = true → ∃ t, exec (.instanceCtrlDisable tag) s = .next t ∧ t.cmd tag = none ∧ s.reportsSome t c St.success = true ∧ t.fld Fld.INS_STATUS.FUNC_STATE (c.at 4 2) = Fn.disabling ∧ t.bit Fld.INS_CTRL.ENABLE (c.at 4 2) = false ∧ t.bit Fld.INS_CTRL.HOLD (c.at 4 2) = true) ∧
  (∀ (tag : Nat) (s : State) (c : Cmd), s.startable tag 0x22 = some c → c.at 6 1 = 2 → (c.at 4 2) ≠ 0 → (c.at 4 2) < 4096 → c.ins ≠ (c.at 4 2) → s.takesCompletion c = true → ∃ t, exec (.instanceCtrlHold tag) s = .next t ∧ t.cmd tag = none ∧ s.reportsSome t c St.success = true ∧ t.bit Fld.INS_CTRL.HOLD (c.at 4 2) = true) ∧
  (∀ (tag : Nat) (s : State) (c : Cmd), s.startable tag 0x22 = some c → c.at 6 1 = 3 → (c.at 4 2) ≠ 0 → (c.at 4 2) < 4096 → c.ins ≠ (c.at 4 2) → s.takesCompletion c = true → ∃ t, exec (.instanceCtrlUnhold tag) s = .next t ∧ t.cmd tag = none ∧ s.reportsSome t c St.success = true ∧ t.bit Fld.INS_CTRL.HOLD (c.at 4 2) = false) ∧
  (∀ (tag : Nat) (s : State) (c : Cmd), s.startable tag 0x22 = some c → c.at 6 1 = 4 → (c.at 4 2) ≠ 0 → (c.at 4 2) < 4096 → c.ins ≠ (c.at 4 2) → s.insState (c.at 4 2) = Fn.on → s.takesCompletion c = true → ∃ t, exec (.instanceCtrlFail tag) s = .next t ∧ t.cmd tag = none ∧ s.reportsSome t c St.success = true ∧ t.fld Fld.INS_STATUS.FUNC_STATE (c.at 4 2) = Fn.error ∧ t.fld Fld.INS_STATUS.ERR_CAUSE (c.at 4 2) = 3 ∧ t.bit Fld.INS_CTRL.HOLD (c.at 4 2) = true ∧ t.bit Fld.INS_EVENT.ERROR = true) ∧
  (∀ (tag : Nat) (s : State) (c : Cmd), s.startable tag 0x22 = some c → c.at 6 1 = 4 → (c.at 4 2) ≠ 0 → (c.at 4 2) < 4096 → s.insState (c.at 4 2) ≠ Fn.on → s.takesCompletion c = true → ∃ t, exec (.instanceCtrlFail tag) s = .next t ∧ t.cmd tag = none ∧ s.reports t c St.badEntry = true ∧ t.fld Fld.INS_STATUS.FUNC_STATE (c.at 4 2) = s.insState (c.at 4 2)) ∧
  (∀ (tag : Nat) (s : State) (c : Cmd), s.startable tag 0x23 = some c → (c.at 4 2) ≠ 0 → (c.at 4 2) < 4096 → s.sqsOf (c.at 4 2) = [] → s.chansOf (c.at 4 2) = [] → s.bit Fld.INS_STATUS.HOLDING (c.at 4 2) = false → ∃ t, exec (.quiesce tag) s = .next t ∧ t.bit Fld.INS_CTRL.HOLD (c.at 4 2) = true ∧ t.stageOf tag = some .running) ∧
  (∀ (tag : Nat) (s : State) (c : Cmd), s.startable tag 0x23 = some c → (c.at 4 2) ≠ 0 → (c.at 4 2) < 4096 → c.ins ≠ (c.at 4 2) → s.sqsOf (c.at 4 2) = [] → s.chansOf (c.at 4 2) = [] → s.quiesced (c.at 4 2) = true → s.insState (c.at 4 2) = Fn.on → s.takesCompletion c = true → (s.q.cmds.any (fun e => e.2.stage == .running) = false) → ∃ t, exec (.quiesce tag) s = .next t ∧ t.bit Fld.INS_CTRL.HOLD (c.at 4 2) = true ∧ t.cmd tag = none ∧ s.reportsSome t c St.success = true) ∧
  (∀ (tag : Nat) (c : Cmd) (s : State), s.cmd tag = some c → c.opcode = 0x23 → c.stage = .running → c.at 8 4 ≠ 0 → s.reaches (c.progress + c.at 8 4 * 1000000) = true → s.takesCompletion c = true → ∃ t, exec (.quiesceTimeout tag) s = .next t ∧ t.cmd tag = none ∧ c.progress + c.at 8 4 * 1000000 ≤ t.chr.ns) ∧
  (∀ (tag : Nat) (s : State) (c : Cmd), s.startable tag 0x25 = some c → c.at 6 1 = 0 → (c.at 4 2) ≠ 0 → (c.at 4 2) < 4096 → c.ins ≠ (c.at 4 2) → s.bit Fld.INS_LOG_CFG.RUNNING (c.at 4 2) = false → c.at 8 8 % 4096 = 0 → 10 ≤ c.at 7 1 → c.at 7 1 ≤ 20 → (s.q.cmds.any (fun e => e.2.stage == .running) = false) → s.takesCompletion c = true → ∃ t, exec (.logbookStart tag) s = .next t ∧ t.cmd tag = none ∧ s.reports t c St.success = true ∧ t.bit Fld.INS_LOG_CFG.RUNNING (c.at 4 2) = true ∧ t.fld Fld.INS_LOG_CFG.SIZE_LOG (c.at 4 2) = c.at 7 1 ∧ t.fld Fld.INS_LOG_BASE_LO.BASE_LO (c.at 4 2) = c.at 8 8 / 4096 % 2 ^ 20 ∧ t.fld Fld.INS_LOG_BASE_HI.BASE_HI (c.at 4 2) = c.at 8 8 / 2 ^ 32 % 2 ^ 32 ∧ t.fld Fld.INS_LOG_CFG.UNLOGGED (c.at 4 2) = 0 ∧ t.logTail (c.at 4 2) = 0) ∧
  (∀ (tag : Nat) (s : State) (c : Cmd), s.startable tag 0x25 = some c → c.at 6 1 = 0 → (c.at 4 2) ≠ 0 → (c.at 4 2) < 4096 → (s.bit Fld.INS_LOG_CFG.RUNNING (c.at 4 2) = true ∨ c.at 8 8 % 4096 ≠ 0 ∨ c.at 7 1 < 10 ∨ 20 < c.at 7 1) → s.takesCompletion c = true → ∃ t, exec (.logbookStart tag) s = .next t ∧ t.cmd tag = none ∧ s.reports t c St.badEntry = true ∧ t.fld Fld.INS_LOG_CFG.SIZE_LOG (c.at 4 2) = s.fld Fld.INS_LOG_CFG.SIZE_LOG (c.at 4 2)) ∧
  (∀ (tag : Nat) (s : State) (c : Cmd), s.startable tag 0x25 = some c → c.at 6 1 = 1 → (c.at 4 2) ≠ 0 → (c.at 4 2) < 4096 → c.ins ≠ (c.at 4 2) → s.takesCompletion c = true → ∃ t, exec (.logbookSync tag) s = .next t ∧ t.cmd tag = none ∧ s.reports t c St.success (s.logTail (c.at 4 2)) (s.fld Fld.INS_LOG_CFG.UNLOGGED (c.at 4 2)) = true ∧ t.bit Fld.INS_LOG_CFG.RUNNING (c.at 4 2) = s.bit Fld.INS_LOG_CFG.RUNNING (c.at 4 2)) ∧
  (∀ (tag : Nat) (s : State) (c : Cmd), s.startable tag 0x25 = some c → c.at 6 1 = 2 → (c.at 4 2) ≠ 0 → (c.at 4 2) < 4096 → c.ins ≠ (c.at 4 2) → s.takesCompletion c = true → ∃ t, exec (.logbookStop tag) s = .next t ∧ t.cmd tag = none ∧ s.reports t c St.success (s.logTail (c.at 4 2)) (s.fld Fld.INS_LOG_CFG.UNLOGGED (c.at 4 2)) = true ∧ t.bit Fld.INS_LOG_CFG.RUNNING (c.at 4 2) = false) ∧
  (∀ (tag : Nat) (s : State) (c : Cmd), s.startable tag 0x26 = some c → (c.at 4 2) < 4096 → s.canIssue (s.insFn c.ins) = true → s.takesCompletion c = true → ∃ t, exec (.readInstance tag) s = .next t ∧ t.cmd tag = none ∧ s.reports t c St.success = true ∧ (s.dropped c = true → s.bit Fld.INS_LOG_CFG.RUNNING c.ins = false → readBytes memDefault t.host (c.at 8 8 + 4) 28 = [s.word 0x18010 (c.at 4 2), s.word 0x18018 (c.at 4 2), s.fld Fld.QM_INS_STATUS.TAGS_USED (c.at 4 2), s.legsOwned (c.at 4 2), (s.chansOf (c.at 4 2)).length, s.heldOf (c.at 4 2), s.logTail (c.at 4 2)].flatMap (fun w => toBytes w 4) ∧ hostKept (c.at 8 8) 32 s t))

/-- RESET_INSTANCE of one that is OFF completes SUCCESS; of one that is quiesced wipes it: OFF, HOLD still 1, no queues; of another completes NOT_QUIESCED. RESET_INSTANCE with FORCE without the critical form is AUTH_FAILED; otherwise it holds the instance and its wipe falls due at the next meridian. INS_ENABLE, INS_DISABLE, INS_HOLD_WRITE, INS_FAIL and INS_BIND_WRITE do to the instance of INS_INDEX what the commands do; I0 neither fails nor is disabled nor bound. INSTANCE_ENABLED makes it ON. INSTANCE_QUIESCED wipes one that is DISABLING. BUS_MASTER_DISABLE puts the instances of the function in ERROR. VF_FLR resets the function and its instances' wipes fall due. ABORT with no such command completes with RESULT 0; of a command that has not started it ends both. Where the spec leaves a point open, what it says is the model's choice: log entry 34. -/
def Obligations.InstancesAreResetWipedAndReached : Prop :=
  (∀ (tag : Nat) (s : State) (c : Cmd), s.startable tag 0x24 = some c → (c.at 4 2) ≠ 0 → (c.at 4 2) < 4096 → c.flag 3 = false → s.insState (c.at 4 2) = Fn.off → s.takesCompletion c = true → ∃ t, exec (.resetInstance tag) s = .next t ∧ t.cmd tag = none ∧ s.reports t c St.success = true ∧ t.fld Fld.INS_STATUS.FUNC_STATE (c.at 4 2) = Fn.off) ∧
  (∀ (tag : Nat) (s : State) (c : Cmd), s.startable tag 0x24 = some c → (c.at 4 2) ≠ 0 → (c.at 4 2) < 4096 → c.flag 3 = false → c.ins ≠ (c.at 4 2) → s.insState (c.at 4 2) ≠ Fn.off → s.quiesced (c.at 4 2) = false → s.takesCompletion c = true → ∃ t, exec (.resetInstance tag) s = .next t ∧ t.cmd tag = none ∧ s.reportsSome t c St.notQuiesced = true ∧ t.fld Fld.INS_STATUS.FUNC_STATE (c.at 4 2) = s.insState (c.at 4 2)) ∧
  (∀ (tag : Nat) (s : State) (c : Cmd), s.startable tag 0x24 = some c → (c.at 4 2) ≠ 0 → (c.at 4 2) < 4096 → c.flag 3 = false → c.ins ≠ (c.at 4 2) → s.insState (c.at 4 2) ≠ Fn.off → s.quiesced (c.at 4 2) = true → s.bit Fld.INS_STATUS.PENDING_ENABLE (c.at 4 2) = false → (s.q.cmds.any (fun e => e.2.stage == .running) = false) → s.takesCompletion c = true → ∃ t, exec (.resetInstance tag) s = .next t ∧ t.cmd tag = none ∧ s.reports t c St.success = true ∧ t.fld Fld.INS_STATUS.FUNC_STATE (c.at 4 2) = Fn.off ∧ t.bit Fld.INS_CTRL.HOLD (c.at 4 2) = true ∧ t.bit Fld.INS_EVENT.WIPED = true ∧ t.sqsOf (c.at 4 2) = [] ∧ t.cqsOf (c.at 4 2) = []) ∧
  (∀ (tag : Nat) (s : State) (c : Cmd), s.startable tag 0x24 = some c → c.flag 3 = true → c.flag 0 = false → s.takesCompletion c = true → ∃ t, exec (.resetInstanceForce tag) s = .next t ∧ t.cmd tag = none ∧ s.reports t c St.authFailed = true ∧ t.ins.wipeAt = s.ins.wipeAt) ∧
  (∀ (tag : Nat) (s : State) (c : Cmd), s.startable tag 0x24 = some c → (c.at 4 2) ≠ 0 → (c.at 4 2) < 4096 → c.ins ≠ (c.at 4 2) → c.flag 3 = true → c.flag 0 = true → s.insState (c.at 4 2) ≠ Fn.off → s.bit Fld.CHT_STATUS.RUNNING = true → (s.q.cmds.any (fun e => e.1 == tag && e.2.ins == (c.at 4 2)) = false) → ∃ t, exec (.resetInstanceForce tag) s = .next t ∧ t.bit Fld.INS_CTRL.HOLD (c.at 4 2) = true ∧ t.ins.wipeAt = s.ins.wipeAt.filter (· != (c.at 4 2)) ++ [(c.at 4 2)] ∧ t.stageOf tag = some .running) ∧
  (∀ (i : Nat) (s : State), i = s.fld Fld.INS_INDEX.INSTANCE → s.insState i = Fn.off → s.bindingOk i = true → ∃ t, exec (.insEnable) s = .next t ∧ t.fld Fld.INS_STATUS.FUNC_STATE i = Fn.enabling ∧ t.bit Fld.INS_CTRL.ENABLE i = true ∧ t.ins.live = s.ins.live.filter (· != i) ++ [i]) ∧
  (∀ (i : Nat) (s : State), i = s.fld Fld.INS_INDEX.INSTANCE → s.insState i = Fn.off → s.bindingOk i = false → ∃ t, exec (.insEnable) s = .next t ∧ t.fld Fld.INS_STATUS.FUNC_STATE i = Fn.off ∧ t.bit Fld.INS_CTRL.ENABLE i = false ∧ t.bit Fld.INS_EVENT.CFG_REFUSED = true ∧ t.ins = s.ins) ∧
  (∀ (i : Nat) (s : State), s.insState i = Fn.enabling → s.enableTags i = [] → ∃ t, exec (.instanceEnabled i) s = .next t ∧ t.fld Fld.INS_STATUS.FUNC_STATE i = Fn.on ∧ t.bit Fld.INS_EVENT.ENABLED = true ∧ keepsBut [(Fld.INS_STATUS.FUNC_STATE, i), (Fld.INS_EVENT.ENABLED, 0)] s t) ∧
  (∀ (i : Nat) (s : State), i = s.fld Fld.INS_INDEX.INSTANCE → i ≠ 0 → s.insState i = Fn.on → s.sqsOf i = [] → ∃ t, exec (.insDisable) s = .next t ∧ t.fld Fld.INS_STATUS.FUNC_STATE i = Fn.disabling ∧ t.bit Fld.INS_CTRL.HOLD i = true ∧ t.bit Fld.INS_CTRL.ENABLE i = false ∧ keepsBut [(Fld.INS_STATUS.FUNC_STATE, i), (Fld.INS_CTRL.HOLD, i), (Fld.INS_CTRL.ENABLE, i)] s t) ∧
  (∀ (s : State), s.fld Fld.INS_INDEX.INSTANCE = 0 → ∃ t, exec (.insDisable) s = .next t ∧ t.ins = s.ins ∧ keepsBut [] s t) ∧
  (∀ (v : Bool) (s : State), ∃ t, exec (.insHoldWrite v) s = .next t ∧ t.bit Fld.INS_CTRL.HOLD (s.fld Fld.INS_INDEX.INSTANCE) = v ∧ keepsBut [(Fld.INS_CTRL.HOLD, (s.fld Fld.INS_INDEX.INSTANCE))] s t) ∧
  (∀ (i : Nat) (s : State), i = s.fld Fld.INS_INDEX.INSTANCE → i ≠ 0 → s.insState i = Fn.on → ∃ t, exec (.insFail) s = .next t ∧ t.fld Fld.INS_STATUS.FUNC_STATE i = Fn.error ∧ t.fld Fld.INS_STATUS.ERR_CAUSE i = 3 ∧ t.bit Fld.INS_CTRL.HOLD i = true ∧ t.bit Fld.INS_EVENT.ERROR = true ∧ t.bit Fld.HIC_ERR_CAUSE.INS_ERROR i = true) ∧
  (∀ (s : State), s.fld Fld.INS_INDEX.INSTANCE = 0 → ∃ t, exec (.insFail) s = .next t ∧ t.ins = s.ins ∧ keepsBut [] s t) ∧
  (∀ (i v : Nat) (s : State), i = s.fld Fld.INS_INDEX.INSTANCE → i ≠ 0 → s.insState i = Fn.off → ∃ t, exec (.insBindWrite 0 v) s = .next t ∧ t.fld Fld.INS_BIND.FUNCTION i = bitsAt v 20 8 ∧ t.fld Fld.INS_BIND.SLOT i = bitsAt v 0 12 ∧ keepsBut [(Fld.INS_BIND.FUNCTION, i), (Fld.INS_BIND.SLOT, i)] s t) ∧
  (∀ (reg v : Nat) (s : State), reg < 3 → (s.insState (s.fld Fld.INS_INDEX.INSTANCE) ≠ Fn.off ∨ s.fld Fld.INS_INDEX.INSTANCE = 0) → ∃ t, exec (.insBindWrite reg v) s = .next t ∧ t.bit Fld.INS_EVENT.CFG_REFUSED = true ∧ keepsBut [(Fld.INS_EVENT.CFG_REFUSED, 0)] s t) ∧
  (∀ (i : Nat) (s : State), i < 4096 → s.quiesced i = true → s.insState i = Fn.disabling → s.bit Fld.INS_STATUS.PENDING_ENABLE i = false → (s.q.cmds.any (fun e => e.2.stage == .running) = false) → ∃ t, exec (.instanceQuiesced i) s = .next t ∧ t.fld Fld.INS_STATUS.FUNC_STATE i = Fn.off ∧ t.bit Fld.INS_CTRL.HOLD i = true ∧ t.bit Fld.INS_EVENT.WIPED = true ∧ t.sqsOf i = [] ∧ t.cqsOf i = []) ∧
  (∀ (i : Nat) (s : State), i < 4096 → s.quiesced i = false → ∃ t, exec (.instanceQuiesced i) s = .next t ∧ t.ins = s.ins ∧ t.q = s.q ∧ keepsBut [] s t) ∧
  (∀ (fn i : Nat) (s : State), fn < 256 → i ≠ 0 → i ∈ s.ins.live → s.insFn i = fn → s.insState i = Fn.on → ∃ t, exec (.busMasterDisable fn) s = .next t ∧ (t.fn fn).bme = false ∧ t.fld Fld.INS_STATUS.FUNC_STATE i = Fn.error ∧ t.fld Fld.INS_STATUS.ERR_CAUSE i = 1 ∧ t.bit Fld.INS_CTRL.HOLD i = true ∧ t.bit Fld.GBL_PCIE_EVENT.BME_CLEARED = true ∧ t.fld Fld.INS_STATUS.FUNC_STATE 0 = s.fld Fld.INS_STATUS.FUNC_STATE 0) ∧
  (∀ (fn i : Nat) (s : State), 1 ≤ fn → fn < 256 → (s.ins.live.filter (fun j => s.insFn j == fn && j != 0) = [i]) → s.bit Fld.CHT_STATUS.RUNNING = true → ∃ t, exec (.vfFlr fn) s = .next t ∧ i ∈ t.ins.wipeAt ∧ i ∈ t.ins.flrAt ∧ t.bit Fld.INS_CTRL.HOLD i = true ∧ t.fn fn = {} ∧ t.bit Fld.GBL_PCIE_EVENT.FLR_VF = true ∧ t.fld Fld.GBL_PCIE_STATUS.LAST_FLR_VF = fn) ∧
  (∀ (fn : Nat) (s : State), 1 ≤ fn → fn < 256 → (s.ins.live.filter (fun j => s.insFn j == fn && j != 0) = []) → ∃ t, exec (.vfFlr fn) s = .next t ∧ t.ins = s.ins ∧ t.fn fn = {} ∧ t.bit Fld.GBL_PCIE_EVENT.FLR_VF = true ∧ t.fld Fld.GBL_PCIE_STATUS.LAST_FLR_VF = fn) ∧
  (∀ (tag : Nat) (s : State) (c : Cmd), s.startable tag 0x07 = some c → c.at 4 1 = 0 → s.abortTarget tag c = none → (s.q.cmds.all (fun e => e.1 == tag) = true) → s.takesCompletion c = true → ∃ t, exec (.abort tag) s = .next t ∧ t.cmd tag = none ∧ s.reports t c St.success 0 = true ∧ t.q.cmds = s.q.cmds.filter (fun e => e.1 != tag)) ∧
  (∀ (tag : Nat) (s : State) (c : Cmd) (u : Nat) (x : Cmd), s.startable tag 0x07 = some c → c.at 4 1 = 0 → s.abortTarget tag c = some (u, x) → s.cmd u = some x → x.stage = .ready → x.opcode = 0x83 → s.cqOf c.ins (s.fld Fld.QM_SQ_CFG.CQ c.sq) = none → s.cqOf x.ins (s.fld Fld.QM_SQ_CFG.CQ x.sq) = none → ∃ t, exec (.abort tag) s = .next t ∧ t.cmd u = none ∧ t.cmd tag = none)

/-- POWER_STATE and PWR_STATE_CTRL: to S1 the next meridian enters; to S2 or S3 the entry begins, ENTRY_BUSY and TARGET showing it; to S3 with another instance not OFF the command completes NOT_QUIESCED. PWR_STATE_CTRL with TARGET 0, or S1_HOST_WRITE, in S1 returns to S0: at once with no meridian to come, else at the next one. ENTRY_IDLE_REACHED stops the ticks, puts every lane that is UP in LOW_POWER (but SYNC_UP) and disables every other enabled lane. ENTRY_IDLE_TIMEOUT at its instant ends the entry with no state changed. ENTRY_REVERSIONS_DONE goes on to S2, or waits for the host on the way to S3; PME_TURN_OFF and LINK_WAIT_TIMEOUT reach S3. WAKE_DECLARE of an armed GPIO in a low state starts the wake. WAKE_STEP_DONE goes to the next step, and after step 6 to S0; WAKE_STEP_TIMEOUT tries a step once more, then faults; WAKE_RETRY_WAIT carries it out again. FOGHORN_DETECT starts DETECT on a lane whose domain is on. PWR_PAD_RELEASE releases the named groups whose domain is good. Where the spec leaves a point open, what it says is the model's choice: log entries 38 and 39. -/
def Obligations.PowerStatesAreEnteredAndLeft : Prop :=
  (∀ (tag : Nat) (s : State) (c : Cmd), s.startable tag 0x40 = some c → c.at 4 1 = 1 → s.pwr.phase = .run → ∃ t, exec (.powerStateS1 tag) s = .next t ∧ t.pwr.next = some 1 ∧ t.stageOf tag = some .running ∧ t.pstate = s.pstate) ∧
  (∀ (tag : Nat) (s : State) (c : Cmd), s.startable tag 0x40 = some c → c.at 4 1 = 2 → s.pwr.phase = .run → ∃ t, exec (.powerStateS2 tag) s = .next t ∧ t.pwr.phase = .idle ∧ t.bit Fld.PWR_STATE.ENTRY_BUSY = true ∧ t.fld Fld.PWR_STATE.TARGET = 2 ∧ t.pwr.since = s.chr.ns ∧ t.pwr.tag = some tag ∧ t.stageOf tag = some .running) ∧
  (∀ (tag : Nat) (s : State) (c : Cmd), s.startable tag 0x40 = some c → c.at 4 1 = 3 → s.pwr.phase = .run → s.notQuiesced = false → ∃ t, exec (.powerStateS3 tag) s = .next t ∧ t.pwr.phase = .idle ∧ t.bit Fld.PWR_STATE.ENTRY_BUSY = true ∧ t.fld Fld.PWR_STATE.TARGET = 3 ∧ t.pwr.since = s.chr.ns ∧ t.pwr.tag = some tag ∧ t.stageOf tag = some .running) ∧
  (∀ (tag : Nat) (s : State) (c : Cmd), s.startable tag 0x40 = some c → c.at 4 1 = 3 → s.pwr.phase = .run → s.notQuiesced = true → s.takesCompletion c = true → ∃ t, exec (.powerStateS3 tag) s = .next t ∧ t.cmd tag = none ∧ s.reports t c St.notQuiesced s.pstateWord = true ∧ t.pwr = s.pwr) ∧
  (∀ (s : State), s.pwr.phase = .run → s.pstate = 1 → s.bit Fld.PWR_STATE.ENTRY_BUSY = false → s.pwr.next ≠ some 0 → s.bit Fld.CHT_STATUS.RUNNING = false → s.chr.runDue = false → ∃ t, exec (.pwrStateCtrlS0) s = .next t ∧ t.pstate = 0 ∧ t.fld Fld.PWR_WAKE_CAUSE.FROM = 1 ∧ t.fld Fld.PWR_WAKE_CAUSE.CAUSE = 8 ∧ t.bit Fld.PWR_EVENT.WAKE = true ∧ t.fld Fld.PWR_HISTORY.FROM = 1 ∧ t.fld Fld.PWR_HISTORY.TO = 0) ∧
  (∀ (s : State), s.pwr.phase = .run → ∃ t, exec (.pwrStateCtrlS1) s = .next t ∧ t.pwr = { s.pwr with next := some 1 } ∧ keepsBut [] s t) ∧
  (∀ (s : State), s.pwr.phase = .run → ∃ t, exec (.pwrStateCtrlS2) s = .next t ∧ t.pwr.phase = .idle ∧ t.bit Fld.PWR_STATE.ENTRY_BUSY = true ∧ t.fld Fld.PWR_STATE.TARGET = 2 ∧ t.pwr.since = s.chr.ns) ∧
  (∀ (s : State), s.pwr.phase = .run → s.notQuiesced = false → ∃ t, exec (.pwrStateCtrlS3) s = .next t ∧ t.pwr.phase = .idle ∧ t.bit Fld.PWR_STATE.ENTRY_BUSY = true ∧ t.fld Fld.PWR_STATE.TARGET = 3 ∧ t.pwr.since = s.chr.ns) ∧
  (∀ (s : State), s.pwr.phase = .run → s.notQuiesced = true → ∃ t, exec (.pwrStateCtrlS3) s = .next t ∧ t.pwr = s.pwr ∧ keepsBut [] s t) ∧
  (∀ (s : State), s.pstate = 1 → s.bit Fld.PWR_STATE.ENTRY_BUSY = false → s.pwr.next ≠ some 0 → s.bit Fld.CHT_STATUS.RUNNING = false → s.chr.runDue = false → ∃ t, exec (.s1HostWrite) s = .next t ∧ t.pstate = 0 ∧ t.fld Fld.PWR_WAKE_CAUSE.FROM = 1 ∧ t.fld Fld.PWR_WAKE_CAUSE.CAUSE = 7 ∧ t.bit Fld.PWR_EVENT.WAKE = true ∧ t.fld Fld.PWR_HISTORY.FROM = 1 ∧ t.fld Fld.PWR_HISTORY.TO = 0) ∧
  (∀ (s : State), s.pstate = 1 → s.bit Fld.PWR_STATE.ENTRY_BUSY = false → s.pwr.next ≠ some 0 → s.bit Fld.CHT_STATUS.RUNNING = true → ∃ t, exec (.s1HostWrite) s = .next t ∧ t.pwr = { s.pwr with next := some 0, nextCause := 7 } ∧ keepsBut [] s t) ∧
  (∀ (s : State), s.pwr.phase = .idle → s.pstate = 0 → s.q.fetching = [] → s.bit Fld.PWR_OP_STATUS.PENDING = false → (∀ e ∈ s.q.cmds, some e.1 = s.pwr.tag) → s.bit Fld.CHT_STATUS.RUNNING = false → ∃ t, exec (.entryIdleReached) s = .next t ∧ t.pwr.phase = .revert ∧ t.bit Fld.CHT_STATUS.RUNNING = false ∧ t.chr.runDue = false ∧ (∀ n < 19, n ≠ 16 → s.lstate n = Ls.up → t.lstate n = Ls.lowPower) ∧ (∀ n < 19, s.lstate n ≠ Ls.up → s.lstate n ≠ Ls.lowPower → s.fld Fld.LNK_STATUS.FUNC_STATE n ≠ Fn.off → t.lstate n = Ls.disabled)) ∧
  (∀ (s : State), s.pwr.phase = .idle → s.pwr.tag = none → s.reaches (s.pwr.since + max 1 (s.fld Fld.PWR_ENTRY_TIME.IDLE_MS) * 1000000) = true → ∃ t, exec (.entryIdleTimeout) s = .next t ∧ t.pwr.phase = .run ∧ t.bit Fld.PWR_STATE.ENTRY_BUSY = false ∧ t.fld Fld.PWR_STATE.TARGET = 0 ∧ t.bit Fld.PWR_EVENT.ENTRY_ABORTED = true ∧ t.fld Fld.PWR_HISTORY.FLAGS = 8 ∧ t.pstate = s.pstate ∧ t.q = s.q) ∧
  (∀ (s : State), s.pwr.phase = .revert → (∀ p < 16, s.cstate p ≠ Cs.transition) → s.fld Fld.PWR_STATE.TARGET = 2 → s.pwr.tag = none → s.pwr.latched = none → ((s.alm.busy.any fun w => w.kind == 4) = false) → ∃ t, exec (.entryReversionsDone) s = .next t ∧ t.pwr.phase = .asleep ∧ t.pstate = 2 ∧ t.bit Fld.PWR_STATE.ENTRY_BUSY = false ∧ t.bit Fld.PWR_EVENT.ENTERED = true ∧ t.fld Fld.PWR_DOM_STATUS.GOOD = s.fld Fld.PWR_DOM_STATUS.GOOD &&& 0xC1F ∧ t.bit Fld.PWR_RAIL.ON 3 = false) ∧
  (∀ (s : State), s.pwr.phase = .revert → (∀ p < 16, s.cstate p ≠ Cs.transition) → s.fld Fld.PWR_STATE.TARGET = 3 → s.pwr.tag = none → ∃ t, exec (.entryReversionsDone) s = .next t ∧ t.pwr.phase = .pme ∧ t.pwr.since = s.chr.ns ∧ t.fld Fld.CHT_STATUS.ACTIVE_BANK = 0 ∧ t.pstate = s.pstate) ∧
  (∀ (s : State), s.pwr.phase = .pme → s.fld Fld.PWR_STATE.TARGET = 3 → s.pwr.latched = none → ((s.alm.busy.any fun w => w.kind == 4) = false) → ∃ t, exec (.pmeTurnOff) s = .next t ∧ t.pwr.phase = .asleep ∧ t.pstate = 3 ∧ t.bit Fld.PWR_STATE.ENTRY_BUSY = false ∧ t.bit Fld.PWR_EVENT.ENTERED = true ∧ t.fld Fld.PWR_DOM_STATUS.GOOD = 1 ∧ t.bit Fld.GBL_PCIE_STATUS.LINK_UP = false ∧ t.bit Fld.PWR_RAIL.ON 0 = false) ∧
  (∀ (s : State), s.pwr.phase = .pme → s.fld Fld.PWR_STATE.TARGET = 3 → s.pwr.latched = none → ((s.alm.busy.any fun w => w.kind == 4) = false) → s.reaches (s.pwr.since + max 1 (s.fld Fld.PWR_ENTRY_TIME.LINK_WAIT_MS) * 1000000) = true → ∃ t, exec (.linkWaitTimeout) s = .next t ∧ t.pwr.phase = .asleep ∧ t.pstate = 3 ∧ t.bit Fld.PWR_STATE.ENTRY_BUSY = false ∧ t.bit Fld.PWR_EVENT.ENTERED = true ∧ t.bit Fld.GBL_PCIE_STATUS.LINK_UP = false) ∧
  (∀ (g : Nat) (s : State), s.pwr.phase = .asleep → s.wakeArmed 5 g = true → ∃ t, exec (.wakeDeclare 5 g) s = .next t ∧ t.pwr.phase = .wake 1 ∧ t.pwr.left = s.pstate ∧ t.fld Fld.PWR_WAKE_CAUSE.CAUSE = 5 ∧ t.fld Fld.PWR_WAKE_CAUSE.INDEX = g ∧ t.fld Fld.PWR_WAKE_CAUSE.FROM = s.pstate % 2 ^ Fld.PWR_WAKE_CAUSE.FROM.w ∧ t.bit Fld.PWR_WAKE_CAUSE.RETRIED = false) ∧
  (∀ (k : Nat) (z : Bool) (s : State), s.pwr.phase = .wake k → 1 ≤ k → k < 6 → s.pwr.left ≠ 2 → (s.pwr.vok = true ∨ k ≠ 2) → ∃ t, exec (.wakeStepDone z) s = .next t ∧ t.pwr.phase = .wake (k + 1) ∧ t.pwr.retried = false ∧ t.pwr.since = s.chr.ns) ∧
  (∀ (z : Bool) (s : State), s.pwr.phase = .wake 6 → s.reaches (s.pwr.since + 200000) = true → ∃ t, exec (.wakeStepDone z) s = .next t ∧ t.pwr.phase = .run ∧ t.pstate = 0 ∧ t.fld Fld.PWR_DOM_STATUS.GOOD = 0xFFF ∧ t.fld Fld.PWR_DOM_CTRL.ON = 0x7F) ∧
  (∀ (k : Nat) (s : State), s.pwr.phase = .wake k → 1 ≤ k → k < 6 → s.pwr.retried = false → (s.reaches (s.pwr.since + if k = 3 then 5000000 else 2000000) = true) → ∃ t, exec (.wakeStepTimeout) s = .next t ∧ t.pwr.phase = .retry k ∧ t.bit Fld.PWR_EVENT.WAKE_RETRY = true ∧ t.bit Fld.PWR_WAKE_CAUSE.RETRIED = true ∧ t.fld Fld.PWR_WAKE_CAUSE.RETRY_SUBJECT = k) ∧
  (∀ (k : Nat) (s : State), s.pwr.phase = .wake k → 1 ≤ k → k < 6 → s.pwr.retried = true → (s.reaches (s.pwr.since + if k = 3 then 5000000 else 2000000) = true) → ∃ t, exec (.wakeStepTimeout) s = .next t ∧ t.pwr.phase = .fault ∧ t.bit Fld.PWR_WAKE_CAUSE.FAULT = true ∧ t.fld Fld.PWR_WAKE_CAUSE.FAULT_SUBJECT = k ∧ t.fld Fld.PWR_HISTORY.FLAGS = 3) ∧
  (∀ (k : Nat) (s : State), s.pwr.phase = .retry k → s.reaches (s.pwr.since + 1000000) = true → ∃ t, exec (.wakeRetryWait) s = .next t ∧ t.pwr.phase = .wake k ∧ t.pwr.retried = true) ∧
  (∀ (n : Nat) (s : State), n < 19 → s.lstate n = Ls.lowPower → s.bit Fld.LNK_CTRL.FOGHORN_WAKE n = true → s.domGood (laneDomain n) = true → s.pwr.phase = .run → s.bit Fld.PWR_STATE.ENTRY_BUSY = false → ∃ t, exec (.foghornDetect n) s = .next t ∧ t.bit Fld.LNK_EVENT.FOGHORN_SEEN n = true ∧ t.lstate n = Ls.detect ∧ t.pwr = s.pwr) ∧
  (∀ (v : Nat) (s : State), ∃ t, exec (.pwrPadRelease v) s = .next t ∧ (∀ g < 7, bitAt (t.fld Fld.PWR_PAD_STATUS.LATCHED) g = (bitAt (s.fld Fld.PWR_PAD_STATUS.LATCHED) g && !(bitAt v g && s.domGood (padDomain g)))) ∧ keepsBut [(Fld.PWR_PAD_STATUS.LATCHED, 0)] s t)

/-- PWR_DOM_CTRL: a domain written 1 is on its way; one written 0 goes down if it may, else DOM_REFUSED is set and it stays. DOMAIN ON completes when the domain is good, and waits while it is coming; OFF completes SUCCESS or BAD_ENTRY by whether it may go off; AUTO_ON and AUTO_OFF write AUTO. DOMAIN_IDLE_OFF takes an AUTO domain down that has been idle for 1 ms since it was first seen so. OFF_DOMAIN_ACCESS to an off domain switches it on and waits. DOMAIN_GOOD makes a coming domain good; DOMAIN_GOOD_TIMEOUT takes it down with DOM_FAULT and drops what it stalled. PWR_OP_VSEL starts a voltage change, or is refused below the active point; PWR_OP_COMMIT pends FSEL, or is refused above the confirmed voltage; VOLTAGE_CONFIRM with two readings within 2 percent confirms; VOLTAGE_TIMEOUT restores. OPERATING_POINT completes at once where it already stands, starts a change to a higher point, and refuses a number above 2. Where the spec leaves a point open, what it says is the model's choice: log entries 39 and 40. -/
def Obligations.DomainsAndOperatingPointsAreSwitched : Prop :=
  (∀ (v : Nat) (s : State), ∃ t, exec (.pwrDomCtrl v) s = .next t ∧ (∀ d < 10, 3 ≤ d → bitAt v d = true → bitAt (t.fld Fld.PWR_DOM_CTRL.ON) (d - 3) = true) ∧ (∀ d < 10, 3 ≤ d → bitAt v d = false → bitAt (s.fld Fld.PWR_DOM_CTRL.ON) (d - 3) = true → s.mayTurnOff d = true → (bitAt (t.fld Fld.PWR_DOM_CTRL.ON) (d - 3) || t.domGood d) = false) ∧ (∀ d < 10, 3 ≤ d → bitAt v d = false → bitAt (s.fld Fld.PWR_DOM_CTRL.ON) (d - 3) = true → s.mayTurnOff d = false → (bitAt (t.fld Fld.PWR_DOM_CTRL.ON) (d - 3) && t.bit Fld.PWR_EVENT.DOM_REFUSED) = true) ∧ keepsBut [(Fld.PWR_DOM_CTRL.ON, 0), (Fld.PWR_DOM_STATUS.GOOD, 0), (Fld.PWR_EVENT.DOM_REFUSED, 0)] s t) ∧
  (∀ (tag : Nat) (s : State) (c : Cmd), s.startable tag 0x42 = some c → 3 ≤ (c.at 4 1) → (c.at 4 1) ≤ 9 → c.at 5 1 = 0 → s.domGood (c.at 4 1) = true → s.takesCompletion c = true → ∃ t, exec (.domainOn tag) s = .next t ∧ t.cmd tag = none ∧ s.reports t c St.success (s.word 0x20030 0) = true ∧ t.domGood (c.at 4 1) = true) ∧
  (∀ (tag : Nat) (s : State) (c : Cmd), s.startable tag 0x42 = some c → 3 ≤ (c.at 4 1) → (c.at 4 1) ≤ 9 → c.at 5 1 = 0 → s.domGood (c.at 4 1) = false → ∃ t, exec (.domainOn tag) s = .next t ∧ t.stageOf tag = some .running ∧ t.domComing (c.at 4 1) = true) ∧
  (∀ (tag : Nat) (s : State) (c : Cmd), s.startable tag 0x42 = some c → 3 ≤ (c.at 4 1) → (c.at 4 1) ≤ 9 → c.at 5 1 = 1 → s.mayTurnOff (c.at 4 1) = true → s.takesCompletion c = true → ∃ t, exec (.domainOff tag) s = .next t ∧ t.cmd tag = none ∧ s.reports t c St.success (t.word 0x20030 0) = true ∧ t.domGood (c.at 4 1) = false) ∧
  (∀ (tag : Nat) (s : State) (c : Cmd), s.startable tag 0x42 = some c → 3 ≤ (c.at 4 1) → (c.at 4 1) ≤ 9 → c.at 5 1 = 1 → s.mayTurnOff (c.at 4 1) = false → s.takesCompletion c = true → ∃ t, exec (.domainOff tag) s = .next t ∧ t.cmd tag = none ∧ s.reports t c St.badEntry (s.word 0x20030 0) = true ∧ t.domGood (c.at 4 1) = s.domGood (c.at 4 1) ∧ t.bit Fld.PWR_EVENT.DOM_REFUSED = true) ∧
  (∀ (tag : Nat) (s : State) (c : Cmd), s.startable tag 0x42 = some c → 3 ≤ (c.at 4 1) → (c.at 4 1) ≤ 9 → c.at 5 1 = 2 → s.takesCompletion c = true → ∃ t, exec (.domainAutoOn tag) s = .next t ∧ t.cmd tag = none ∧ s.reports t c St.success (s.word 0x20030 0) = true ∧ bitAt (t.fld Fld.PWR_DOM_AUTO.AUTO) ((c.at 4 1) - 3) = true) ∧
  (∀ (tag : Nat) (s : State) (c : Cmd), s.startable tag 0x42 = some c → 3 ≤ (c.at 4 1) → (c.at 4 1) ≤ 9 → c.at 5 1 = 3 → s.takesCompletion c = true → ∃ t, exec (.domainAutoOff tag) s = .next t ∧ t.cmd tag = none ∧ s.reports t c St.success (s.word 0x20030 0) = true ∧ bitAt (t.fld Fld.PWR_DOM_AUTO.AUTO) ((c.at 4 1) - 3) = false) ∧
  (∀ (d : Nat) (s : State), 3 ≤ d → d ≤ 9 → bitAt (s.fld Fld.PWR_DOM_AUTO.AUTO) (d - 3) = true → s.domGood d = true → s.mayTurnOff d = true → s.pwr.idleFrom.lookup d = none → ∃ t, exec (.domainIdleOff d) s = .next t ∧ t.domGood d = true ∧ t.pwr.idleFrom = (s.pwr.idleFrom.filter fun e => e.1 != d) ++ [(d, s.chr.ns)] ∧ keepsBut [] s t) ∧
  (∀ (d t0 : Nat) (s : State), 3 ≤ d → d ≤ 9 → bitAt (s.fld Fld.PWR_DOM_AUTO.AUTO) (d - 3) = true → s.domGood d = true → s.mayTurnOff d = true → s.pwr.idleFrom.lookup d = some t0 → s.reaches (t0 + 1000000) = true → ∃ t, exec (.domainIdleOff d) s = .next t ∧ t.domGood d = false ∧ bitAt (t.fld Fld.PWR_DOM_CTRL.ON) (d - 3) = false ∧ t0 + 1000000 ≤ t.chr.ns ∧ keepsBut [(Fld.PWR_DOM_CTRL.ON, 0), (Fld.PWR_DOM_STATUS.GOOD, 0)] s t) ∧
  (∀ (d off v : Nat) (write : Bool) (s : State), off % 4 = 0 → off < 0x240000 → helmDomain (off / 0x20000) = d → s.domGood d = false → s.pstate ≤ 1 → s.memOn 0 = true → (s.fn 0).dstate = 0 → (write = true → s.loading = false) → ∃ t, exec (.offDomainAccess true write off v) s = .next t ∧ t.domComing d = true ∧ t.pwr.stalled = s.pwr.stalled ++ [{ domain := d, tcm := true, write := write, off := off, value := v }] ∧ t.tcm = s.tcm) ∧
  (∀ (d : Nat) (s : State), 3 ≤ d → d ≤ 9 → s.domComing d = true → ((s.pwr.stalled.any fun a => a.domain == d) = false) → s.waiting 0x42 d = [] → (∀ n < 19, (s.lane n).waking = false) → ∃ t, exec (.domainGood d) s = .next t ∧ t.domGood d = true ∧ t.domComing d = false) ∧
  (∀ (d t0 : Nat) (b : Bool) (s : State), 3 ≤ d → d ≤ 9 → ((s.pwr.coming.find? fun e => e.1 == d) = some (d, t0, b)) → (s.reaches (t0 + if d = 3 ∨ d = 4 then 60000 else 40000) = true) → ∃ t, exec (.domainGoodTimeout d) s = .next t ∧ t.domGood d = false ∧ t.domComing d = false ∧ t.bit Fld.PWR_EVENT.DOM_FAULT = true ∧ t.pwr.stalled = s.pwr.stalled.filter fun a => a.domain != d) ∧
  (∀ (v : Nat) (s : State), s.fld Fld.PWR_OP_STATUS.ACTIVE ≤ min 2 (v % 4) → (s.bit Fld.PWR_OP_STATUS.PENDING = true → s.fsel ≤ min 2 (v % 4)) → ∃ t, exec (.pwrOpVsel v) s = .next t ∧ t.fld Fld.PWR_OP_VSEL.VSEL = v % 4 ∧ t.bit Fld.PWR_OP_STATUS.VBUSY = true ∧ t.pwr.opSince = s.chr.ns ∧ keepsBut [(Fld.PWR_OP_VSEL.VSEL, 0), (Fld.PWR_OP_STATUS.VBUSY, 0)] s t) ∧
  (∀ (v : Nat) (s : State), min 2 (v % 4) < s.fld Fld.PWR_OP_STATUS.ACTIVE → ∃ t, exec (.pwrOpVsel v) s = .next t ∧ t.bit Fld.PWR_OP_STATUS.VSEL_REFUSED = true ∧ t.pwr = s.pwr ∧ keepsBut [(Fld.PWR_OP_STATUS.VSEL_REFUSED, 0)] s t) ∧
  (∀ (s : State), s.bit Fld.PWR_OP_STATUS.PENDING = false → s.fsel ≤ s.fld Fld.PWR_OP_STATUS.VSEL_OK → ∃ t, exec (.pwrOpCommit) s = .next t ∧ t.bit Fld.PWR_OP_STATUS.PENDING = true ∧ t.pwr.opDue = s.chr.ns + 1000 ∧ keepsBut [(Fld.PWR_OP_STATUS.PENDING, 0)] s t) ∧
  (∀ (s : State), s.bit Fld.PWR_OP_STATUS.PENDING = false → s.fld Fld.PWR_OP_STATUS.VSEL_OK < s.fsel → ∃ t, exec (.pwrOpCommit) s = .next t ∧ t.bit Fld.PWR_OP_STATUS.COMMIT_REFUSED = true ∧ t.pwr = s.pwr ∧ keepsBut [(Fld.PWR_OP_STATUS.COMMIT_REFUSED, 0)] s t) ∧
  (∀ (v1 v2 : Nat) (s : State), s.pwr.phase = .run → s.bit Fld.PWR_OP_STATUS.VBUSY = true → s.pwr.opTag = none → s.pmbusIdle 16 = true → near (s.voutMv 16 v1) (coreLevel s.vsel) = true → near (s.voutMv 16 v2) (coreLevel s.vsel) = true → ∃ t, exec (.voltageConfirm 0 v1 v2) s = .next t ∧ t.fld Fld.PWR_OP_STATUS.VSEL_OK = s.vsel ∧ t.bit Fld.PWR_OP_STATUS.VBUSY = false ∧ t.pwr = s.pwr) ∧
  (∀ (s : State), s.bit Fld.PWR_OP_STATUS.VBUSY = true → s.pwr.opTag = none → s.reaches (s.pwr.opSince + 2000000) = true → ∃ t, exec (.voltageTimeout) s = .next t ∧ t.bit Fld.PWR_OP_STATUS.OP_FAULT = true ∧ t.bit Fld.PWR_EVENT.OP_FAULT = true ∧ t.bit Fld.PWR_OP_STATUS.VBUSY = false ∧ t.fld Fld.PWR_OP_VSEL.VSEL = s.fld Fld.PWR_OP_STATUS.VSEL_OK % 4 ∧ s.pwr.opSince + 2000000 ≤ t.chr.ns) ∧
  (∀ (tag : Nat) (s : State) (c : Cmd), s.startable tag 0x41 = some c → 2 < c.at 4 1 → s.takesCompletion c = true → ∃ t, exec (.operatingPoint tag) s = .next t ∧ t.cmd tag = none ∧ s.reports t c St.badEntry s.opWord = true ∧ t.pwr = s.pwr) ∧
  (∀ (tag : Nat) (s : State) (c : Cmd), s.startable tag 0x41 = some c → c.at 4 1 ≤ 2 → s.bit Fld.PWR_OP_STATUS.PENDING = false → s.pwr.opTag = none → c.at 4 1 = s.fld Fld.PWR_OP_STATUS.ACTIVE → c.at 4 1 = s.fld Fld.PWR_OP_STATUS.VSEL_OK → s.bit Fld.PWR_OP_STATUS.VBUSY = false → s.takesCompletion c = true → ∃ t, exec (.operatingPoint tag) s = .next t ∧ t.cmd tag = none ∧ s.reports t c St.success s.opWord = true ∧ t.pwr = s.pwr) ∧
  (∀ (tag : Nat) (s : State) (c : Cmd), s.startable tag 0x41 = some c → c.at 4 1 ≤ 2 → s.bit Fld.PWR_OP_STATUS.PENDING = false → s.pwr.opTag = none → s.fld Fld.PWR_OP_STATUS.ACTIVE < c.at 4 1 → s.fld Fld.PWR_OP_STATUS.VSEL_OK < c.at 4 1 → ∃ t, exec (.operatingPoint tag) s = .next t ∧ t.pwr.opTag = some tag ∧ t.stageOf tag = some .running ∧ t.bit Fld.PWR_OP_STATUS.VBUSY = true ∧ t.fld Fld.PWR_OP_VSEL.VSEL = c.at 4 1)

/-- PAIR_CTRL ENABLE and PAIR_ROLE ENABLE switch the pair function on and into ELECT; DISABLE leaves the pair and disables the MIRROR lane. PAIR_ROLE completes at once where it already stands, and refuses an ACTION above 2. CLAIM_SEND_TIMER sends a CLAIM with the identity; MCLAIM_RECEIVE takes the peer identity: in ELECT a PRIMARY leads to SYNCING and crossed CLAIMs leave the lower identity PRIMARY, the higher SYNCING with COLLIDED and equal ones in ELECT with ID_CLASH; a PRIMARY answers a CLAIM with PRIMARY, and a YIELD with a copy; one not consecutive or with a bad CRC changes nothing. ELECT_TIMEOUT makes a controller PRIMARY. A ROLE_IN edge in ELECT leads to SYNCING. ORPHAN_TIMEOUT and MIRROR_DOWN_TIMEOUT lead to ELECT. Where the spec leaves a point open, what it says is the model's choice: log entry 61. -/
def Obligations.ThePairElectsAPrimary : Prop :=
  (∀ (s : State), s.fld Fld.PAIR_STATUS.FUNC_STATE = Fn.off → ∃ t, exec (.pairCtrlEnable true) s = .next t ∧ t.fld Fld.PAIR_STATUS.FUNC_STATE = Fn.on ∧ t.roleState = Role.elect ∧ t.pair.electAt = s.chr.ns ∧ t.bit Fld.PAIR_CTRL.ENABLE = true) ∧
  (∀ (s : State), s.fld Fld.PAIR_STATUS.FUNC_STATE = Fn.on → s.bit Fld.PAIR_STATUS.PENDING_ENABLE = false → ∃ t, exec (.pairCtrlEnable false) s = .next t ∧ t.bit Fld.PAIR_CTRL.ENABLE = false ∧ t.roleState = Role.off ∧ t.bit Fld.LNK_CTRL.ENABLE 18 = false ∧ t.fld Fld.PAIR_STATUS.FUNC_STATE = (if s.fld Fld.LNK_STATUS.FUNC_STATE 18 = Fn.off then Fn.off else Fn.disabling)) ∧
  (∀ (tag : Nat) (s : State) (c : Cmd), s.startable tag 0x50 = some c → c.at 4 1 = 0 → s.fld Fld.PAIR_STATUS.FUNC_STATE = Fn.on → s.roleState ≠ Role.elect → s.takesCompletion c = true → ∃ t, exec (.pairRoleEnable tag) s = .next t ∧ t.cmd tag = none ∧ s.reports t c St.success (s.word 0x28008 0) (s.word 0x28020 0) = true ∧ t.pair = s.pair ∧ t.roleState = s.roleState) ∧
  (∀ (tag : Nat) (s : State) (c : Cmd), s.startable tag 0x50 = some c → c.at 4 1 = 0 → s.fld Fld.PAIR_STATUS.FUNC_STATE = Fn.off → ∃ t, exec (.pairRoleEnable tag) s = .next t ∧ t.fld Fld.PAIR_STATUS.FUNC_STATE = Fn.on ∧ t.roleState = Role.elect ∧ t.pair.electAt = s.chr.ns ∧ t.stageOf tag = some .running) ∧
  (∀ (tag : Nat) (s : State) (c : Cmd), s.startable tag 0x50 = some c → c.at 4 1 = 1 → s.fld Fld.PAIR_STATUS.FUNC_STATE = Fn.off → s.takesCompletion c = true → ∃ t, exec (.pairRoleDisable tag) s = .next t ∧ t.cmd tag = none ∧ s.reports t c St.success (s.word 0x28008 0) (s.word 0x28020 0) = true ∧ t.pair = s.pair ∧ t.roleState = s.roleState) ∧
  (∀ (tag : Nat) (s : State) (c : Cmd), s.startable tag 0x50 = some c → c.at 4 1 = 1 → s.fld Fld.PAIR_STATUS.FUNC_STATE = Fn.on → s.fld Fld.LNK_STATUS.FUNC_STATE 18 ≠ Fn.off → ∃ t, exec (.pairRoleDisable tag) s = .next t ∧ t.roleState = Role.off ∧ t.fld Fld.PAIR_STATUS.FUNC_STATE = Fn.disabling ∧ t.stageOf tag = some .running) ∧
  (∀ (tag : Nat) (s : State) (c : Cmd), s.startable tag 0x50 = some c → 2 < c.at 4 1 → s.takesCompletion c = true → ∃ t, exec (.pairRoleSwap tag) s = .next t ∧ t.cmd tag = none ∧ s.reports t c St.badEntry (s.word 0x28008 0) (s.word 0x28020 0) = true ∧ t.pair = s.pair ∧ t.roleState = s.roleState) ∧
  (∀ (s : State), s.roleState = Role.elect → s.reaches (s.pair.claimAt + 100000) = true → s.pair.peerClaimed = false → s.portUp 18 = true → ∃ t, exec (.claimSendTimer) s = .next t ∧ t.out = [.ordered 18 (mclaim s.pairId 0)] ∧ t.pair.claimed = true ∧ t.pair.claimAt = s.pair.claimAt + 100000 ∧ t.roleState = Role.elect) ∧
  (∀ (a b id kind : Nat) (s : State), claimFields a b = some (id, kind) → s.fld Fld.PAIR_STATUS.FUNC_STATE = Fn.on → s.portUp 18 = true → s.roleState = Role.elect → kind = 1 → ∃ t, exec (.mclaimReceive a b true) s = .next t ∧ t.fld Fld.PAIR_PEER_ID_LO.ID_LO = id % 2 ^ 32 ∧ t.fld Fld.PAIR_PEER_ID_HI.ID_HI = id / 2 ^ 32 % 2 ^ 32 ∧ t.roleState = Role.syncing) ∧
  (∀ (a b id kind : Nat) (s : State), claimFields a b = some (id, kind) → s.fld Fld.PAIR_STATUS.FUNC_STATE = Fn.on → s.portUp 18 = true → s.roleState = Role.elect → kind = 0 → s.pair.claimed = true → s.pairId < id → ∃ t, exec (.mclaimReceive a b true) s = .next t ∧ t.fld Fld.PAIR_PEER_ID_LO.ID_LO = id % 2 ^ 32 ∧ t.fld Fld.PAIR_PEER_ID_HI.ID_HI = id / 2 ^ 32 % 2 ^ 32 ∧ t.roleState = Role.primary ∧ t.fld Fld.PAIR_STATUS.LAST = St.success) ∧
  (∀ (a b id kind : Nat) (s : State), claimFields a b = some (id, kind) → s.fld Fld.PAIR_STATUS.FUNC_STATE = Fn.on → s.portUp 18 = true → s.roleState = Role.elect → kind = 0 → s.pair.claimed = true → id < s.pairId → ∃ t, exec (.mclaimReceive a b true) s = .next t ∧ t.fld Fld.PAIR_PEER_ID_LO.ID_LO = id % 2 ^ 32 ∧ t.fld Fld.PAIR_PEER_ID_HI.ID_HI = id / 2 ^ 32 % 2 ^ 32 ∧ t.roleState = Role.syncing ∧ t.bit Fld.PAIR_EVENT.COLLIDED = true ∧ t.fld Fld.PAIR_STATUS.LAST = St.collided) ∧
  (∀ (a b id kind : Nat) (s : State), claimFields a b = some (id, kind) → s.fld Fld.PAIR_STATUS.FUNC_STATE = Fn.on → s.portUp 18 = true → s.roleState = Role.elect → kind = 0 → id = s.pairId → ∃ t, exec (.mclaimReceive a b true) s = .next t ∧ t.fld Fld.PAIR_PEER_ID_LO.ID_LO = id % 2 ^ 32 ∧ t.fld Fld.PAIR_PEER_ID_HI.ID_HI = id / 2 ^ 32 % 2 ^ 32 ∧ t.roleState = Role.elect ∧ t.bit Fld.PAIR_EVENT.ID_CLASH = true) ∧
  (∀ (a b id kind : Nat) (s : State), claimFields a b = some (id, kind) → s.fld Fld.PAIR_STATUS.FUNC_STATE = Fn.on → s.portUp 18 = true → s.roleState = Role.primary → kind = 0 → ∃ t, exec (.mclaimReceive a b true) s = .next t ∧ t.fld Fld.PAIR_PEER_ID_LO.ID_LO = id % 2 ^ 32 ∧ t.fld Fld.PAIR_PEER_ID_HI.ID_HI = id / 2 ^ 32 % 2 ^ 32 ∧ t.out = [.ordered 18 (mclaim s.pairId 1)] ∧ t.pair = s.pair) ∧
  (∀ (a b id kind : Nat) (s : State), claimFields a b = some (id, kind) → s.fld Fld.PAIR_STATUS.FUNC_STATE = Fn.on → s.portUp 18 = true → s.roleState = Role.primary → kind = 3 → ∃ t, exec (.mclaimReceive a b true) s = .next t ∧ t.fld Fld.PAIR_PEER_ID_LO.ID_LO = id % 2 ^ 32 ∧ t.fld Fld.PAIR_PEER_ID_HI.ID_HI = id / 2 ^ 32 % 2 ^ 32 ∧ t.pair.copyNext = some 0 ∧ t.roleState = Role.primary) ∧
  (∀ (a b : Nat) (consecutive : Bool) (s : State), (consecutive = false ∨ claimFields a b = none) → ∃ t, exec (.mclaimReceive a b consecutive) s = .next t ∧ t.pair = s.pair ∧ keepsBut [] s t) ∧
  (∀ (s : State), s.roleState = Role.elect → s.pair.peerClaimed = false → s.bit Fld.PAIR_STATUS.ROLE_IN_ALIVE = false → s.reaches (s.pair.electAt + max 1 (s.fld Fld.PAIR_CFG.ELECT_MS) * 1000000) = true → ∃ t, exec (.electTimeout) s = .next t ∧ t.roleState = Role.primary ∧ t.fld Fld.PAIR_STATUS.LAST = St.success) ∧
  (∀ (e : Nat) (s : State), s.bit Fld.CHT_STATUS.RUNNING = false → s.roleState = Role.elect → ∃ t, exec (.roleInEdge e) s = .next t ∧ t.bit Fld.PAIR_STATUS.ROLE_IN_ALIVE = true ∧ t.roleState = Role.syncing) ∧
  (∀ (s : State), s.roleState = Role.mirrorLost → s.reaches (s.pair.aliveAt + max 1 (s.fld Fld.PAIR_CFG.ORPHAN_MS) * 1000000) = true → ∃ t, exec (.orphanTimeout) s = .next t ∧ t.roleState = Role.elect) ∧
  (∀ (d : Nat) (s : State), s.roleState = Role.syncing → s.pair.downAt = some d → s.reaches (d + 10000000) = true → ∃ t, exec (.mirrorDownTimeout) s = .next t ∧ t.roleState = Role.elect)

/-- MIRROR_FRAME_SEND sends the waiting records in one frame. MIRROR_FRAME_RECEIVE at a standby keeps the OUT record of an in-order frame, and a gap sends it to SYNCING with DESYNC. MBEACON_RECEIVE with STOP pauses a standby; one in sequence keeps it a standby at its tick, and announces a hand-over; a gap sends it to SYNCING. TAKEOVER_CHECK without the beacon of the tick arms the watchdog, or, with ROLE_IN alive, leads to MIRROR_LOST. TAKEOVER makes the standby PRIMARY. PAIR_ROLE SWAP, in neither PRIMARY nor STANDBY, completes NOT_QUIESCED; else it sends SWAP and waits. HANDOVER_TIMEOUT after 10 ms completes it TIMEOUT. Where the spec leaves a point open, what it says is the model's choice: log entries 61 and 62. -/
def Obligations.TheStandbyFollowsAndTakesOver : Prop :=
  (∀ (slot : Nat) (r : MirrorRec) (s : State), s.mirrors = true → s.portUp 18 = true → s.bit Fld.CHT_STATUS.RUNNING = true → 1 ≤ slot → slot < s.fld Fld.CHT_TICK_LEN.ACTIVE_N → s.reaches (s.chr.meridNs + 32 * slot) = true → s.pair.waiting = [r] → ∃ t, exec (.mirrorFrameSend slot) s = .next t ∧ t.pair.waiting = [] ∧ t.pair.frames = s.pair.frames + 1 ∧ t.pair.bytes = s.pair.bytes + r.bytes.length ∧ t.out = [.mirror (mirrorFrame s.tick s.pair.frames r.bytes)]) ∧
  (∀ (i : Nat) (bytes d : List Byte) (s : State), s.roleState = Role.standby → s.portUp 18 = true → mirrorFields bytes = some (s.pair.rxTick, s.pair.rxFrame, MirrorRec.bytes ⟨1, i, d⟩) → i < 2 ^ 14 → d.length < 2 ^ 11 → ∃ t, exec (.mirrorFrameReceive bytes) s = .next t ∧ t.pair.rxFrame = s.pair.rxFrame + 1 ∧ t.roleState = Role.standby ∧ (i, s.wholeTick s.pair.rxTick 16, d) ∈ t.pair.outRecs) ∧
  (∀ (tick frame : Nat) (bytes payload : List Byte) (s : State), s.roleState = Role.standby → s.portUp 18 = true → mirrorFields bytes = some (tick, frame, payload) → (¬(tick = s.pair.rxTick ∧ frame = s.pair.rxFrame)) → (¬(tick = (s.pair.rxTick + 1) % 65536 ∧ frame = 0)) → ∃ t, exec (.mirrorFrameReceive bytes) s = .next t ∧ t.roleState = Role.syncing ∧ t.bit Fld.PAIR_EVENT.DESYNC = true) ∧
  (∀ (bytes : List Byte) (s : State), mirrorFields bytes = none → ∃ t, exec (.mirrorFrameReceive bytes) s = .next t ∧ t.pair = s.pair ∧ keepsBut [] s t) ∧
  (∀ (word arrival : Nat) (s : State), s.roleState = Role.standby → s.pair.armed = false → s.portUp 18 = true → mbeaconGood word = true → s.reachesFine arrival = true → bitAt word 40 = true → ∃ t, exec (.mbeaconReceive word arrival) s = .next t ∧ t.roleState = Role.paused ∧ t.bit Fld.CHT_STATUS.RUNNING = false ∧ t.pair.beacon = some (bitsAt word 8 32)) ∧
  (∀ (word arrival : Nat) (s : State), s.roleState = Role.standby → s.pair.armed = false → s.portUp 18 = true → mbeaconGood word = true → s.reachesFine arrival = true → bitAt word 40 = false → ((s.pair.beacon.all fun b => bitsAt word 8 32 == (b + 1) % 2 ^ 32) = true) → bitsAt word 8 32 = s.tick % 2 ^ 32 → ∃ t, exec (.mbeaconReceive word arrival) s = .next t ∧ t.roleState = Role.standby ∧ t.tick = s.tick ∧ t.pair.beacon = some (bitsAt word 8 32) ∧ (bitAt word 41 = true → t.pair.handTick = some (s.tick + 1))) ∧
  (∀ (word arrival : Nat) (s : State), s.roleState = Role.standby → s.pair.armed = false → s.portUp 18 = true → mbeaconGood word = true → s.reachesFine arrival = true → bitAt word 40 = false → ((s.pair.beacon.any fun b => bitsAt word 8 32 != (b + 1) % 2 ^ 32) = true) → ∃ t, exec (.mbeaconReceive word arrival) s = .next t ∧ t.roleState = Role.syncing ∧ t.bit Fld.PAIR_EVENT.DESYNC = true) ∧
  (∀ (word arrival : Nat) (s : State), mbeaconGood word = false → ∃ t, exec (.mbeaconReceive word arrival) s = .next t ∧ t.pair = s.pair ∧ keepsBut [] s t) ∧
  (∀ (s : State), s.bit Fld.CHT_STATUS.RUNNING = true → s.roleState = Role.standby → s.reaches (s.chr.meridNs + 48) = true → s.pair.beacon ≠ some (s.tick % 2 ^ 32) → (∀ e ∈ s.pair.edgeAt, e + 32 < s.chr.meridNs) → ∃ t, exec (.takeoverCheck) s = .next t ∧ t.pair.armed = true ∧ t.roleState = Role.standby ∧ t.bit Fld.PAIR_STATUS.ROLE_IN_ALIVE = false) ∧
  (∀ (e : Nat) (s : State), s.bit Fld.CHT_STATUS.RUNNING = true → s.roleState = Role.standby → s.reaches (s.chr.meridNs + 48) = true → s.pair.beacon ≠ some (s.tick % 2 ^ 32) → s.pair.edgeAt = some e → s.chr.meridNs ≤ e + 32 → ∃ t, exec (.takeoverCheck) s = .next t ∧ t.pair.armed = false ∧ t.roleState = Role.mirrorLost ∧ t.bit Fld.PAIR_EVENT.MIRROR_LOST = true) ∧
  (∀ (s : State), s.pair.armed = true → s.roleState = Role.standby → s.reaches (s.chr.meridNs + 64) = true → ∃ t, exec (.takeover) s = .next t ∧ t.roleState = Role.primary ∧ t.bit Fld.CHT_CTRL.RUN = true ∧ t.bit Fld.PAIR_EVENT.TAKEOVER = true ∧ t.pair.takeover = some s.tick ∧ t.fld Fld.PAIR_TAKEOVER.TICK = s.tickLow 16 ∧ t.pair.armed = false) ∧
  (∀ (tag : Nat) (s : State) (c : Cmd), s.startable tag 0x50 = some c → c.at 4 1 = 2 → s.roleState ≠ Role.primary → s.roleState ≠ Role.standby → s.takesCompletion c = true → ∃ t, exec (.pairRoleSwap tag) s = .next t ∧ t.cmd tag = none ∧ s.reports t c St.notQuiesced (s.word 0x28008 0) (s.word 0x28020 0) = true ∧ t.pair = s.pair ∧ t.roleState = s.roleState) ∧
  (∀ (tag : Nat) (s : State) (c : Cmd), s.startable tag 0x50 = some c → c.at 4 1 = 2 → (s.roleState = Role.primary ∨ s.roleState = Role.standby) → ∃ t, exec (.pairRoleSwap tag) s = .next t ∧ t.stageOf tag = some .running ∧ t.pair.swapSent = true ∧ t.pair.swapAt = s.chr.ns ∧ (s.portUp 18 = true → .ordered 18 (mclaim s.pairId 2) ∈ t.out)) ∧
  (∀ (tag : Nat) (c : Cmd) (s : State), s.waiting 0x50 2 = [tag] → s.cmd tag = some c → s.takesCompletion c = true → s.reaches (s.pair.swapAt + 10000000) = true → ∃ t, exec (.handoverTimeout) s = .next t ∧ t.cmd tag = none ∧ s.reports t c St.timeout (t.word 0x28008 0) (t.word 0x28020 0) = true ∧ t.fld Fld.PAIR_STATUS.LAST = St.timeout ∧ t.pair.swapSent = false ∧ t.pair.handTick = none)

/-- KEY_WRITE, KEY_SELECT, KEY_REVOKE and SVN_ADVANCE start programming the bytes that their rules name, or complete BAD_ENTRY with the array unchanged. OTP_PROGRAM_DONE with the readback as programmed leaves the old bits and the new ones set and completes the command SUCCESS (KEY_SELECT and KEY_REVOKE with SEC_KEYS, and KEY_CHANGED; SVN_ADVANCE with SEC_SVN); with another readback the command completes BAD_ENTRY. Where the spec leaves a point open, what it says is the model's choice: log entries 48 and 60. -/
def Obligations.KeysAndSecurityVersionsAreProgrammed : Prop :=
  (∀ (tag : Nat) (s : State) (c : Cmd), s.startable tag 0x30 = some c → s.sec.otpOp = none → (2 < (c.at 4 1) ∨ 3 < (c.at 5 1) ∨ s.keyFlag (c.at 4 1) (c.at 5 1) = true ∨ s.lifeCycle = 3 ∨ s.lifeCycle = 4 ∨ ((c.at 4 1) = 2 ∧ s.lifeCycle = 2)) → s.takesCompletion c = true → ∃ t, exec (.keyWrite tag) s = .next t ∧ t.cmd tag = none ∧ s.reports t c St.badEntry = true ∧ t.otp = s.otp) ∧
  (∀ (tag : Nat) (s : State) (c : Cmd), s.startable tag 0x30 = some c → s.sec.otpOp = none → (c.at 4 1) ≤ 2 → (c.at 5 1) ≤ 3 → s.keyFlag (c.at 4 1) (c.at 5 1) = false → s.lifeCycle ≤ 2 → ((c.at 4 1) = 2 → s.lifeCycle ≤ 1) → s.canIssue (s.insFn c.ins) = true → ∃ t, exec (.keyWrite tag) s = .next t ∧ t.sec.otpOp = some { tag := some tag, addr := (keyPlace (c.at 4 1) (c.at 5 1)).1, bytes := readBytes memDefault s.host (c.at 8 8) (keyPlace (c.at 4 1) (c.at 5 1)).2, flag := 2 ^ keyBit (c.at 4 1) (c.at 5 1), revoke := (if (c.at 4 1) < 2 then 2 ^ keyBit (c.at 4 1) (c.at 5 1) else 0) } ∧ t.stageOf tag = some .running ∧ t.otp = s.otp) ∧
  (∀ (tag : Nat) (s : State) (c : Cmd), s.startable tag 0x31 = some c → s.sec.otpOp = none → (3 < (c.at 5 1) ∨ s.keyUsable 0 (c.at 5 1) = false ∨ s.lifeCycle = 0 ∨ (s.activeKey.any fun k => decide ((c.at 5 1) ≤ k)) = true) → s.takesCompletion c = true → ∃ t, exec (.keySelect tag) s = .next t ∧ t.cmd tag = none ∧ s.reports t c St.badEntry s.keysWord = true ∧ t.otp = s.otp) ∧
  (∀ (tag : Nat) (s : State) (c : Cmd), s.startable tag 0x31 = some c → s.sec.otpOp = none → (c.at 5 1) ≤ 3 → s.keyUsable 0 (c.at 5 1) = true → s.lifeCycle ≠ 0 → ((s.activeKey.any fun k => decide ((c.at 5 1) ≤ k)) = false) → ∃ t, exec (.keySelect tag) s = .next t ∧ t.sec.otpOp = some { tag := some tag, addr := 0x010, bytes := toBytes (2 ^ (9 + (c.at 5 1))) 4, flag := 0, revoke := 0 } ∧ t.stageOf tag = some .running ∧ t.otp = s.otp) ∧
  (∀ (tag : Nat) (s : State) (c : Cmd), s.startable tag 0x32 = some c → s.sec.otpOp = none → (1 < (c.at 4 1) ∨ 3 < (c.at 5 1) ∨ ((c.at 4 1) = 0 ∧ s.activeKey = some (c.at 5 1)) ∨ ((c.at 4 1) = 1 ∧ (List.range 4).filter (s.keyUsable 1) = [(c.at 5 1)])) → s.takesCompletion c = true → ∃ t, exec (.keyRevoke tag) s = .next t ∧ t.cmd tag = none ∧ s.reports t c St.badEntry s.keysWord = true ∧ t.otp = s.otp) ∧
  (∀ (tag : Nat) (s : State) (c : Cmd), s.startable tag 0x32 = some c → s.sec.otpOp = none → (c.at 4 1) ≤ 1 → (c.at 5 1) ≤ 3 → ((c.at 4 1) = 0 → s.activeKey ≠ some (c.at 5 1)) → ((c.at 4 1) = 1 → (List.range 4).filter (s.keyUsable 1) ≠ [(c.at 5 1)]) → ∃ t, exec (.keyRevoke tag) s = .next t ∧ t.sec.otpOp = some { tag := some tag, addr := 0x014, bytes := toBytes (2 ^ keyBit (c.at 4 1) (c.at 5 1)) 4, flag := 0, revoke := 0 } ∧ t.stageOf tag = some .running ∧ t.otp = s.otp) ∧
  (∀ (tag : Nat) (s : State) (c : Cmd), s.startable tag 0x33 = some c → s.sec.otpOp = none → (256 < c.at 8 2 ∨ s.fld Fld.SEC_SVN.LOADED < c.at 8 2) → s.takesCompletion c = true → ∃ t, exec (.svnAdvance tag) s = .next t ∧ t.cmd tag = none ∧ s.reports t c St.badEntry (s.word 0x2C018 0) = true ∧ t.otp = s.otp) ∧
  (∀ (tag : Nat) (s : State) (c : Cmd), s.startable tag 0x33 = some c → s.sec.otpOp = none → c.at 8 2 ≤ 256 → c.at 8 2 ≤ s.fld Fld.SEC_SVN.LOADED → ∃ t, exec (.svnAdvance tag) s = .next t ∧ t.sec.otpOp = some { tag := some tag, addr := 0x018, bytes := toBytes (2 ^ c.at 8 2 - 1) 32, flag := 0, revoke := 0 } ∧ t.stageOf tag = some .running ∧ t.otp = s.otp) ∧
  (∀ (tag : Nat) (o : KeeperOp) (c : Cmd) (s : State), s.sec.otpOp = some o → o.tag = some tag → s.cmd tag = some c → s.takesCompletion c = true → (c.opcode = 0x31 ∨ c.opcode = 0x32) → ∃ t, exec (.otpProgramDone o.bytes) s = .next t ∧ t.sec.otpOp = none ∧ t.otpRead o.addr o.bytes.length = List.zipWith (· ||| ·) (s.otpRead o.addr o.bytes.length) o.bytes ∧ t.bit Fld.SEC_EVENT.KEY_CHANGED = true ∧ t.cmd tag = none ∧ s.reports t c St.success t.keysWord = true) ∧
  (∀ (tag : Nat) (o : KeeperOp) (c : Cmd) (s : State), s.sec.otpOp = some o → o.tag = some tag → s.cmd tag = some c → s.takesCompletion c = true → c.opcode = 0x33 → ∃ t, exec (.otpProgramDone o.bytes) s = .next t ∧ t.sec.otpOp = none ∧ t.otpRead o.addr o.bytes.length = List.zipWith (· ||| ·) (s.otpRead o.addr o.bytes.length) o.bytes ∧ t.cmd tag = none ∧ s.reports t c St.success (t.word 0x2C018 0) = true) ∧
  (∀ (tag : Nat) (o : KeeperOp) (c : Cmd) (r : List Byte) (s : State), s.sec.otpOp = some o → o.tag = some tag → s.cmd tag = some c → s.takesCompletion c = true → r.length = o.bytes.length → List.zipWith (· ||| ·) (s.otpRead o.addr o.bytes.length) r ≠ List.zipWith (· ||| ·) (s.otpRead o.addr o.bytes.length) o.bytes → ∃ t, exec (.otpProgramDone r) s = .next t ∧ t.sec.otpOp = none ∧ t.cmd tag = none ∧ s.reportsSome t c St.badEntry = true)

/-- KEEPER_CHECK_DONE: of an instance in lockout the command completes AUTH_FAILED; with a TAG that does not match it completes AUTH_FAILED, recorded in SEC_FAIL; with a COUNTER not above the floor, or one more than 2^32 above it, COUNTER_STALE; one above the ceiling waits for a journal record; else the floor becomes COUNTER. JOURNAL_WRITE_DONE sets the ceiling 65,536 above COUNTER and the floor to COUNTER, or fails the command. LOCKOUT_EXPIRY ends a lockout. SEC_CRIT_EXTRA_ADD adds groups. COUNTER_READ completes with the floor. FLASH_WRITE starts, or completes BAD_ENTRY; IMAGE_VERIFY starts; FLASH_OPERATION_DONE leaves the data in the flash, or reports the verdict; FLASH_BUSY_TIMEOUT completes TIMEOUT after 5 s. IMAGE_ACTIVATE, with a slot that verifies, selects it and schedules a WARM reset 1 ms later. LIFE_CYCLE and ZEROIZE schedule what they apply 1 ms later. Where the spec leaves a point open, what it says is the model's choice: log entries 42, 47 and 48. -/
def Obligations.CriticalCommandsAreCheckedAndImagesReplaced : Prop :=
  (∀ (tag : Nat) (c : Cmd) (s : State), s.cmd tag = some c → c.stage = .keeper → s.keeperTurn tag = true → s.takesCompletion c = true → ((s.sec.locked.any fun e => e.1 == c.ins) = true) → ∃ t, exec (.keeperCheckDone tag) s = .next t ∧ t.cmd tag = none ∧ s.reports t c St.authFailed = true ∧ t.floor = s.floor) ∧
  (∀ (tag : Nat) (c : Cmd) (s : State), s.cmd tag = some c → c.stage = .keeper → s.keeperTurn tag = true → s.takesCompletion c = true → ((s.sec.locked.any fun e => e.1 == c.ins) = false) → s.tagMatches c = false → ∃ t, exec (.keeperCheckDone tag) s = .next t ∧ t.cmd tag = none ∧ s.reports t c St.authFailed = true ∧ t.floor = s.floor ∧ t.bit Fld.SEC_EVENT.AUTH_FAILED = true ∧ t.fld Fld.SEC_FAIL.STATUS = St.authFailed ∧ t.fld Fld.SEC_FAIL.OPCODE = c.opcode % 2 ^ Fld.SEC_FAIL.OPCODE.w ∧ t.fld Fld.SEC_FAIL.INSTANCE = c.ins % 2 ^ Fld.SEC_FAIL.INSTANCE.w) ∧
  (∀ (tag : Nat) (c : Cmd) (s : State), s.cmd tag = some c → c.stage = .keeper → s.keeperTurn tag = true → s.takesCompletion c = true → ((s.sec.locked.any fun e => e.1 == c.ins) = false) → s.tagMatches c = true → (s.bit Fld.SEC_STATUS.FLOOR_UNKNOWN = true ∨ c.counter ≤ s.floor ∨ s.floor + 2 ^ 32 < c.counter) → ∃ t, exec (.keeperCheckDone tag) s = .next t ∧ t.cmd tag = none ∧ s.reports t c St.counterStale = true ∧ t.floor = s.floor ∧ t.bit Fld.SEC_EVENT.COUNTER_STALE = true ∧ t.fld Fld.SEC_FAIL.STATUS = St.counterStale ∧ t.fld Fld.SEC_FAIL.OPCODE = c.opcode % 2 ^ Fld.SEC_FAIL.OPCODE.w ∧ t.fld Fld.SEC_FAIL.INSTANCE = c.ins % 2 ^ Fld.SEC_FAIL.INSTANCE.w) ∧
  (∀ (tag : Nat) (c : Cmd) (s : State), s.cmd tag = some c → c.stage = .keeper → s.keeperTurn tag = true → ((s.sec.locked.any fun e => e.1 == c.ins) = false) → s.tagMatches c = true → s.bit Fld.SEC_STATUS.FLOOR_UNKNOWN = false → s.floor < c.counter → c.counter ≤ s.floor + 2 ^ 32 → c.counter ≤ s.ceiling → s.check4 c = .ready → ∃ t, exec (.keeperCheckDone tag) s = .next t ∧ t.floor = c.counter ∧ t.stageOf tag = some .ready ∧ t.ceiling = s.ceiling) ∧
  (∀ (tag : Nat) (c : Cmd) (s : State), s.cmd tag = some c → c.stage = .keeper → s.keeperTurn tag = true → ((s.sec.locked.any fun e => e.1 == c.ins) = false) → s.tagMatches c = true → s.bit Fld.SEC_STATUS.FLOOR_UNKNOWN = false → s.floor < c.counter → c.counter ≤ s.floor + 2 ^ 32 → s.ceiling < c.counter → ∃ t, exec (.keeperCheckDone tag) s = .next t ∧ t.sec.journal = some { tag := some tag, flag := (c.counter + 65536) % 2 ^ 64 } ∧ t.bit Fld.SEC_STATUS.JOURNAL_BUSY = true ∧ t.floor = s.floor ∧ t.q = s.q) ∧
  (∀ (tag : Nat) (j : KeeperOp) (c : Cmd) (s : State), s.sec.journal = some j → j.tag = some tag → s.cmd tag = some c → ∃ t, exec (.journalWriteDone true) s = .next t ∧ t.sec.journal = none ∧ t.bit Fld.SEC_STATUS.JOURNAL_BUSY = false ∧ t.ceiling = j.flag % 2 ^ 64 ∧ t.floor = c.counter % 2 ^ 64) ∧
  (∀ (tag : Nat) (j : KeeperOp) (c : Cmd) (s : State), s.sec.journal = some j → j.tag = some tag → s.cmd tag = some c → s.takesCompletion c = true → ∃ t, exec (.journalWriteDone false) s = .next t ∧ t.sec.journal = none ∧ t.bit Fld.SEC_EVENT.JOURNAL_FAULT = true ∧ t.cmd tag = none ∧ s.reports t c St.counterStale = true ∧ t.ceiling = s.ceiling ∧ t.floor = s.floor) ∧
  (∀ (i e : Nat) (s : State), s.sec.locked.lookup i = some e → s.reaches e = true → ∃ t, exec (.lockoutExpiry i) s = .next t ∧ (t.sec.locked.any fun x => x.1 == i) = false ∧ e ≤ t.chr.ns) ∧
  (∀ (v : Nat) (s : State), ∃ t, exec (.secCritExtraAdd v) s = .next t ∧ t.fld Fld.SEC_CRIT_EXTRA.GROUPS = (s.fld Fld.SEC_CRIT_EXTRA.GROUPS ||| v % 64) % 2 ^ Fld.SEC_CRIT_EXTRA.GROUPS.w ∧ keepsBut [(Fld.SEC_CRIT_EXTRA.GROUPS, 0)] s t) ∧
  (∀ (tag : Nat) (s : State) (c : Cmd), s.startable tag 0x39 = some c → s.takesCompletion c = true → ∃ t, exec (.counterRead tag) s = .next t ∧ t.cmd tag = none ∧ s.reports t c St.success (s.floor % 2 ^ 32) (s.floor / 2 ^ 32 % 2 ^ 32) = true ∧ t.floor = s.floor) ∧
  (∀ (tag : Nat) (s : State) (c : Cmd), s.startable tag 0x34 = some c → s.sec.flashOp = none → (c.at 8 4 % 4096 ≠ 0 ∨ s.flashSize < c.at 8 4 + c.at 12 4 ∨ bytesMeet (c.at 8 4) (c.at 12 4) 0x2000 0x2000 = true ∨ bytesMeet (c.at 8 4) (c.at 12 4) s.almRange.1 s.almRange.2 = true) → s.takesCompletion c = true → ∃ t, exec (.flashWrite tag) s = .next t ∧ t.cmd tag = none ∧ s.reports t c St.badEntry = true ∧ t.flash = s.flash ∧ t.sec = s.sec) ∧
  (∀ (tag : Nat) (s : State) (c : Cmd), s.startable tag 0x34 = some c → s.sec.flashOp = none → c.at 8 4 % 4096 = 0 → c.at 8 4 + c.at 12 4 ≤ s.flashSize → bytesMeet (c.at 8 4) (c.at 12 4) 0x2000 0x2000 = false → bytesMeet (c.at 8 4) (c.at 12 4) s.almRange.1 s.almRange.2 = false → c.flag 1 = false → s.canIssue (s.insFn c.ins) = true → ∃ t, exec (.flashWrite tag) s = .next t ∧ t.sec.flashOp = some { tag := some tag, addr := c.at 8 4, bytes := readBytes memDefault s.host (c.at 16 8) (c.at 12 4), flag := s.chr.ns } ∧ t.stageOf tag = some .running ∧ t.flash = s.flash) ∧
  (∀ (tag : Nat) (s : State) (c : Cmd), s.startable tag 0x35 = some c → s.sec.flashOp = none → c.at 4 1 ≤ 1 → ∃ t, exec (.imageVerify tag) s = .next t ∧ t.sec.flashOp = some { tag := some tag, flag := s.chr.ns } ∧ t.stageOf tag = some .running) ∧
  (∀ (tag : Nat) (o : KeeperOp) (c : Cmd) (s : State), s.sec.flashOp = some o → o.tag = some tag → s.cmd tag = some c → s.takesCompletion c = true → c.opcode = 0x34 → ∃ t, exec (.flashOperationDone) s = .next t ∧ t.sec.flashOp = none ∧ t.flashRead o.addr o.bytes.length = o.bytes ∧ t.cmd tag = none ∧ s.reports t c St.success o.bytes.length = true) ∧
  (∀ (tag : Nat) (o : KeeperOp) (c : Cmd) (s : State), s.sec.flashOp = some o → o.tag = some tag → s.cmd tag = some c → s.takesCompletion c = true → c.opcode = 0x35 → ∃ t, exec (.flashOperationDone) s = .next t ∧ t.sec.flashOp = none ∧ t.flash = s.flash ∧ t.cmd tag = none ∧ s.reports t c (if (s.slotVerdict (c.at 4 1)).1 = 0 then St.success else St.badEntry) (s.slotVerdict (c.at 4 1)).1 (s.slotVersion (c.at 4 1)) = true) ∧
  (∀ (tag : Nat) (o : KeeperOp) (c : Cmd) (s : State), s.sec.flashOp = some o → o.tag = some tag → s.cmd tag = some c → s.takesCompletion c = true → s.reaches (o.flag + 5000000000) = true → ∃ t, exec (.flashBusyTimeout) s = .next t ∧ t.sec.flashOp = none ∧ t.cmd tag = none ∧ s.reports t c St.timeout = true ∧ o.flag + 5000000000 ≤ t.chr.ns) ∧
  (∀ (tag : Nat) (s : State) (c : Cmd), s.startable tag 0x36 = some c → s.sec.flashOp = none → c.at 4 1 ≤ 1 → s.takesCompletion c = true → ∃ t, exec (.imageActivate tag) s = .next t ∧ t.cmd tag = none ∧ s.reports t c (if (s.slotVerdict (c.at 4 1)).1 = 0 then St.success else St.badEntry) (s.slotVersion (c.at 4 1)) = true ∧ t.fld Fld.NVM_BOOT_SEL.SEL = (if (s.slotVerdict (c.at 4 1)).1 = 0 then c.at 4 1 + 1 else s.fld Fld.NVM_BOOT_SEL.SEL) ∧ t.boot.warmAt = (if (s.slotVerdict (c.at 4 1)).1 = 0 then some (s.chr.ns + 1000000) else s.boot.warmAt)) ∧
  (∀ (e : Nat) (s : State), s.boot.warmAt = some e → s.reaches e = true → ∃ t, exec (.imageActivateReset) s = .next t ∧ t.pwr.phase = .reset true ∧ t.boot.warmAt = none ∧ t.boot.warm = true ∧ t.fld Fld.NVM_RESET_CAUSE.KIND = Reset.warm ∧ t.q = {}) ∧
  (∀ (tag : Nat) (s : State) (c : Cmd), s.startable tag 0x37 = some c → s.mayMove (c.at 4 1) = false → s.takesCompletion c = true → ∃ t, exec (.lifeCycle tag) s = .next t ∧ t.cmd tag = none ∧ s.reports t c St.badEntry s.lifeCycle (c.at 4 1) = true ∧ t.sec = s.sec) ∧
  (∀ (tag : Nat) (s : State) (c : Cmd), s.startable tag 0x37 = some c → s.mayMove (c.at 4 1) = true → s.takesCompletion c = true → ∃ t, exec (.lifeCycle tag) s = .next t ∧ t.cmd tag = none ∧ s.reports t c St.success s.lifeCycle (c.at 4 1) = true ∧ t.sec = { s.sec with lifeAt := some (s.chr.ns + 1000000, c.at 4 1) } ∧ t.otp = s.otp) ∧
  (∀ (e g : Nat) (s : State), s.sec.lifeAt = some (e, g) → s.reaches e = true → s.sec.flashOp = none → 1 ≤ g → g ≤ 4 → ∃ t, exec (.lifeCycleApply) s = .next t ∧ bitAt (t.otpWord 0x008 4) (g - 1) = true ∧ t.pwr.phase = .reset false ∧ t.q = {} ∧ t.sec.lifeAt = none ∧ t.fld Fld.NVM_RESET_CAUSE.KIND = Reset.cold) ∧
  (∀ (tag : Nat) (s : State) (c : Cmd), s.startable tag 0x38 = some c → s.takesCompletion c = true → ∃ t, exec (.zeroize tag) s = .next t ∧ t.cmd tag = none ∧ s.reports t c St.success = true ∧ t.sec = { s.sec with zeroAt := some (s.chr.ns + 1000000) }) ∧
  (∀ (e : Nat) (s : State), s.sec.zeroAt = some e → s.reaches e = true → s.sec.flashOp = none → ∃ t, exec (.zeroizeApply) s = .next t ∧ t.pwr.phase = .reset false ∧ t.q = {} ∧ t.tcm = [] ∧ t.chart = {} ∧ t.sec.zeroAt = none ∧ t.fld Fld.NVM_RESET_CAUSE.KIND = Reset.cold)

/-- WEAR_WINDOW_START returns the window counts to 0. AGE_MEASURE records the age of a helm and the eye of a slice. SWAP_AT_QUIESCE: a pending channel that is OFF passes its logical number to the spare, a slice its lane, a helm that is OFF and a row go under way; with no spare left NO_SPARE is set. HELM_SWAP_DONE and ROW_REPAIR_DONE retire the unit: ALM_LAST names the swap, which awaits burning. ALM_SWAP completes BAD_ENTRY for a unit that serves nothing, NO_SLOTS with no spare, and otherwise marks the unit pending. Where the spec leaves a point open, what it says is the model's choice: log entries 50 and 51. -/
def Obligations.WornUnitsAreSwapped : Prop :=
  (∀ (kind unit row : Nat) (s : State), s.chron / windowNs ≠ s.alm.windowAt → ∃ t, exec (.wearWindowStart) s = .next t ∧ t.alm.windowAt = s.chron / windowNs ∧ (t.almRec kind unit row).window = 0 ∧ keepsBut [] s t) ∧
  (∀ (kind unit row : Nat) (s : State), s.chron / windowNs = s.alm.windowAt → s.reaches (s.whenChron ((s.chron / windowNs + 1) * windowNs)) = true → ∃ t, exec (.wearWindowStart) s = .next t ∧ t.alm.windowAt = s.alm.windowAt + 1 ∧ (t.almRec kind unit row).window = 0 ∧ keepsBut [] s t) ∧
  (∀ (unit value : Nat) (s : State), unit < 18 → ∃ t, exec (.ageMeasure 1 unit value) s = .next t ∧ (t.almRec 1 unit 0).age = min 65535 value) ∧
  (∀ (unit value : Nat) (s : State), unit < 21 → (∀ n ∈ s.laneOfSlice unit, s.lstate n ≠ Ls.up) → ∃ t, exec (.ageMeasure 3 unit value) s = .next t ∧ (t.almRec 3 unit 0).eyeLast = min 255 value ∧ (t.almRec 3 unit 0).eyeFirst = some ((s.almRec 3 unit 0).eyeFirst.getD (min 255 value))) ∧
  (∀ (unit n : Nat) (s : State), unitExists 2 unit 0 = true → (s.almRec 2 unit 0).pending = true → s.unitInUse 2 unit 0 = true → ((s.alm.busy.any fun w => almKey w.kind w.unit w.row == almKey 2 unit 0) = false) → s.spareFor 2 unit = some n → s.chanRuns unit = false → s.chanState unit = Fn.off → s.fld Fld.DMA_CH_STATUS.LOGICAL unit < 2 ^ Fld.DMA_CH_STATUS.LOGICAL.w → ∃ t, exec (.swapAtQuiesce 2 unit 0) s = .next t ∧ t.fld Fld.DMA_CH_STATUS.LOGICAL n = s.fld Fld.DMA_CH_STATUS.LOGICAL unit ∧ t.fld Fld.DMA_CH_STATUS.LOGICAL unit = 126 ∧ (t.almRec 2 unit 0).retired = true ∧ t.bit Fld.ALM_EVENT.SWAPPED = true) ∧
  (∀ (unit n : Nat) (s : State), unitExists 3 unit 0 = true → (s.almRec 3 unit 0).pending = true → s.unitInUse 3 unit 0 = true → ((s.alm.busy.any fun w => almKey w.kind w.unit w.row == almKey 3 unit 0) = false) → s.spareFor 3 unit = some n → (∀ k ∈ s.laneOfSlice unit, s.lstate k ≠ Ls.up) → ∃ t, exec (.swapAtQuiesce 3 unit 0) s = .next t ∧ (∀ k ∈ s.laneOfSlice unit, t.fld Fld.LNK_CDR_MAP.SLICE k = n % 2 ^ Fld.LNK_CDR_MAP.SLICE.w ∧ t.bit Fld.LNK_EVENT.CDR_SWAPPED k = true) ∧ (t.almRec 3 unit 0).retired = true ∧ t.bit Fld.ALM_EVENT.SWAPPED = true) ∧
  (∀ (unit n : Nat) (s : State), unitExists 1 unit 0 = true → (s.almRec 1 unit 0).pending = true → s.unitInUse 1 unit 0 = true → ((s.alm.busy.any fun w => almKey w.kind w.unit w.row == almKey 1 unit 0) = false) → s.spareFor 1 unit = some n → s.domGood (helmDomain n) = true → s.helmState unit = Fn.off → ∃ t, exec (.swapAtQuiesce 1 unit 0) s = .next t ∧ t.alm.busy = s.alm.busy ++ [{ kind := 1, unit := unit, row := 0, spare := n - 16, logical := (s.unitLogical 1 unit 0).getD 0, since := s.chr.ns }] ∧ t.bit Fld.ALM_STATUS.SWAP_BUSY = true) ∧
  (∀ (unit row n : Nat) (s : State), unitExists 4 unit row = true → (s.almRec 4 unit row).pending = true → s.unitInUse 4 unit row = true → ((s.alm.busy.any fun w => almKey w.kind w.unit w.row == almKey 4 unit row) = false) → s.spareFor 4 unit = some n → ∃ t, exec (.swapAtQuiesce 4 unit row) s = .next t ∧ t.alm.busy = s.alm.busy ++ [{ kind := 4, unit := unit, row := row, spare := n, logical := (s.unitLogical 4 unit row).getD 0, since := s.chr.ns }] ∧ t.bit Fld.ALM_STATUS.SWAP_BUSY = true) ∧
  (∀ (kind unit : Nat) (s : State), unitExists kind unit 0 = true → s.alm.units = [(almKey kind unit 0, { pending := true })] → s.unitInUse kind unit 0 = true → s.alm.busy = [] → s.spareFor kind unit = none → ∃ t, exec (.swapAtQuiesce kind unit 0) s = .next t ∧ t.bit Fld.ALM_EVENT.NO_SPARE = true ∧ (t.almRec kind unit 0).exhausted = true) ∧
  (∀ (h : Nat) (w : AlmSwap) (r : Bool) (s : State), ((s.alm.busy.find? fun w => w.kind == 1 && w.unit == h) = some w) → w.new < 18 → h < 18 → w.new ≠ h → ∃ t, exec (.helmSwapDone h r) s = .next t ∧ t.bit Fld.ALM_EVENT.SWAPPED = true ∧ t.fld Fld.ALM_LAST.DETAIL = w.detail false r % 2 ^ Fld.ALM_LAST.DETAIL.w ∧ (t.almRec w.kind w.unit w.row).retired = true ∧ (t.almRec w.kind w.unit w.row).pending = false ∧ t.alm.unburned = s.alm.unburned ++ [w] ∧ t.fld Fld.HLM_STATUS.LOGICAL w.new = w.logical % 2 ^ Fld.HLM_STATUS.LOGICAL.w ∧ t.fld Fld.HLM_STATUS.LOGICAL h = 30 ∧ t.tcmRead w.new 0 0x10000 = s.tcmRead h 0 0x10000) ∧
  (∀ (array row : Nat) (w : AlmSwap) (s : State), ((s.alm.busy.find? fun w => w.kind == 4 && w.unit == array && w.row == row) = some w) → ∃ t, exec (.rowRepairDone array row) s = .next t ∧ t.bit Fld.ALM_EVENT.SWAPPED = true ∧ t.fld Fld.ALM_LAST.DETAIL = w.detail false false % 2 ^ Fld.ALM_LAST.DETAIL.w ∧ (t.almRec w.kind w.unit w.row).retired = true ∧ (t.almRec w.kind w.unit w.row).pending = false ∧ t.alm.unburned = s.alm.unburned ++ [w] ∧ t.bit Fld.ALM_EVENT.ROW_REPAIRED = true) ∧
  (∀ (tag : Nat) (s : State) (c : Cmd), s.startable tag 0x58 = some c → (c.at 4 1 = 0 ∨ 3 < c.at 4 1 ∨ 1 < c.at 6 1 ∨ unitExists (c.at 4 1) (c.at 5 1) 0 = false ∨ s.unitInUse (c.at 4 1) (c.at 5 1) 0 = false) → s.takesCompletion c = true → ∃ t, exec (.almSwap tag) s = .next t ∧ t.cmd tag = none ∧ s.reports t c St.badEntry = true ∧ t.alm = s.alm) ∧
  (∀ (tag : Nat) (s : State) (c : Cmd), s.startable tag 0x58 = some c → 1 ≤ c.at 4 1 → c.at 4 1 ≤ 3 → c.at 6 1 ≤ 1 → unitExists (c.at 4 1) (c.at 5 1) 0 = true → s.unitInUse (c.at 4 1) (c.at 5 1) 0 = true → s.spareFor (c.at 4 1) (c.at 5 1) = none → ((s.alm.busy.any fun w => w.kind == c.at 4 1 && w.unit == c.at 5 1) = false) → s.takesCompletion c = true → ∃ t, exec (.almSwap tag) s = .next t ∧ t.cmd tag = none ∧ s.reports t c St.noSlots = true ∧ t.alm = s.alm) ∧
  (∀ (tag : Nat) (s : State) (c : Cmd), s.startable tag 0x58 = some c → 1 ≤ c.at 4 1 → c.at 4 1 ≤ 3 → c.at 6 1 ≤ 1 → unitExists (c.at 4 1) (c.at 5 1) 0 = true → s.unitInUse (c.at 4 1) (c.at 5 1) 0 = true → (s.spareFor (c.at 4 1) (c.at 5 1)).isSome = true → ∃ t, exec (.almSwap tag) s = .next t ∧ t.stageOf tag = some .running ∧ (t.almRec (c.at 4 1) (c.at 5 1) 0).pending = true ∧ t.alm.waiting = s.alm.waiting ++ [(almKey (c.at 4 1) (c.at 5 1) 0, tag)])

/-- REPAIR_BURN programs the oldest unburned swap into the next blank repair entry; with another readback OTP_FAULT is set and the swap stays unburned. ALM_BURN completes UNSUPPORTED in RETIRED, SUCCESS with nothing to burn, and else waits for its burns. ALM_READ writes ALM_UNIT, ALM_MON and the lifetime count to DATA. ALM_SAVE and the save timer start a record; RECORD_WRITE_DONE makes it the newest, with the next SEQ, and completes ALM_SAVE, or sets SAVE_FAULT and completes it TIMEOUT. Where the spec leaves a point open, what it says is the model's choice: log entries 51 and 52. -/
def Obligations.RepairsAreBurnedAndRecordsSaved : Prop :=
  (∀ (w : AlmSwap) (rest : List AlmSwap) (k : Nat) (ks : List Nat) (s : State), s.alm.unburned = w :: rest → s.bit Fld.ALM_CFG.AUTO_BURN = true → s.alm.burnTag = none → s.sec.otpOp = none → s.lifeCycle ≠ 4 → s.otpBlank = k :: ks → ∃ t, exec (.repairBurn w.entry) s = .next t ∧ t.otpRead (0x400 + 8 * k) 8 = w.entry ∧ t.alm.unburned = rest) ∧
  (∀ (w : AlmSwap) (rest : List AlmSwap) (k : Nat) (ks : List Nat) (b : List Byte) (s : State), s.alm.unburned = w :: rest → s.bit Fld.ALM_CFG.AUTO_BURN = true → s.alm.burnTag = none → s.sec.otpOp = none → s.lifeCycle ≠ 4 → s.otpBlank = k :: ks → b.length = 8 → b ≠ w.entry → ∃ t, exec (.repairBurn b) s = .next t ∧ t.bit Fld.ALM_EVENT.OTP_FAULT = true ∧ t.alm.unburned = s.alm.unburned) ∧
  (∀ (tag : Nat) (s : State) (c : Cmd), s.startable tag 0x59 = some c → s.alm.burnTag = none → s.lifeCycle = 4 → s.takesCompletion c = true → ∃ t, exec (.almBurn tag) s = .next t ∧ t.cmd tag = none ∧ s.reports t c St.unsupported 0 s.otpBlank.length = true ∧ t.alm = s.alm) ∧
  (∀ (tag : Nat) (s : State) (c : Cmd), s.startable tag 0x59 = some c → s.alm.burnTag = none → s.lifeCycle ≠ 4 → s.otpBlank ≠ [] → s.alm.unburned = [] → s.takesCompletion c = true → ∃ t, exec (.almBurn tag) s = .next t ∧ t.cmd tag = none ∧ s.reports t c St.success 0 s.otpBlank.length = true ∧ t.alm = s.alm) ∧
  (∀ (tag : Nat) (s : State) (c : Cmd), s.startable tag 0x59 = some c → s.alm.burnTag = none → s.lifeCycle ≠ 4 → s.otpBlank ≠ [] → s.alm.unburned ≠ [] → ∃ t, exec (.almBurn tag) s = .next t ∧ t.alm = { s.alm with burnTag := some tag, burnLeft := s.alm.unburned.length, burned := 0 } ∧ t.stageOf tag = some .running) ∧
  (∀ (tag : Nat) (s : State) (c : Cmd), s.startable tag 0x5A = some c → c.at 4 1 ≠ 4 → unitExists (c.at 4 1) (c.at 5 1) 0 = true → s.canIssue (s.insFn c.ins) = true → s.takesCompletion c = true → ∃ t, exec (.almRead tag) s = .next t ∧ t.cmd tag = none ∧ s.reports t c St.success = true ∧ (s.dropped c = true → s.bit Fld.INS_LOG_CFG.RUNNING c.ins = false → readBytes memDefault t.host (c.at 8 8) 16 = (toBytes (s.almUnitWord (c.at 4 1) (c.at 5 1) 0) 4 ++ toBytes (s.almMonWord (c.at 4 1) (c.at 5 1) 0) 4 ++ toBytes (s.almRec (c.at 4 1) (c.at 5 1) 0).life 8) ∧ hostKept (c.at 8 8) 16 s t) ∧ t.alm = s.alm) ∧
  (∀ (tag : Nat) (s : State) (c : Cmd), s.startable tag 0x5A = some c → c.at 4 1 ≠ 4 → unitExists (c.at 4 1) (c.at 5 1) 0 = false → s.takesCompletion c = true → ∃ t, exec (.almRead tag) s = .next t ∧ t.cmd tag = none ∧ s.reports t c St.badEntry = true ∧ t.alm = s.alm) ∧
  (∀ (tag : Nat) (s : State) (c : Cmd), s.startable tag 0x5B = some c → ∃ t, exec (.almSave tag) s = .next t ∧ t.stageOf tag = some .running ∧ t.alm.saving = some ((s.alm.saving.getD []) ++ [tag]) ∧ (s.alm.saving = none → t.bit Fld.ALM_STATUS.SAVING = true)) ∧
  (∀ (s : State), s.alm.saving = none → s.reaches ((s.alm.saveAt + 60000 * max 1 (s.fld Fld.ALM_CFG.SAVE_MIN)) * 1000000) = true → ∃ t, exec (.almanacSaveTimer) s = .next t ∧ t.alm.saving = some [] ∧ t.bit Fld.ALM_STATUS.SAVING = true ∧ t.out = [.nvm "RECORD" [s.fld Fld.ALM_SEQ.SEQ + 1]]) ∧
  (∀ (tag : Nat) (c : Cmd) (s : State), s.alm.saving = some [tag] → s.alm.saveDue = false → s.cmd tag = some c → s.takesCompletion c = true → s.bootDescriptor.isSome = true → ∃ t, exec (.recordWriteDone true) s = .next t ∧ t.fld Fld.ALM_SEQ.SEQ = (s.fld Fld.ALM_SEQ.SEQ + 1) % 2 ^ 32 ∧ t.bit Fld.ALM_STATUS.SAVING = false ∧ t.alm.saving = none ∧ t.alm.records = ({ area := s.almRange.1, seq := (s.fld Fld.ALM_SEQ.SEQ + 1) % 2 ^ 32, units := s.alm.units, unburned := s.alm.unburned.take 256, last := s.alm.last } :: s.alm.records).take 2 ∧ t.cmd tag = none ∧ s.reports t c St.success (t.fld Fld.ALM_SEQ.SEQ) = true) ∧
  (∀ (tag : Nat) (c : Cmd) (s : State), s.alm.saving = some [tag] → s.alm.saveDue = false → s.cmd tag = some c → s.takesCompletion c = true → ∃ t, exec (.recordWriteDone false) s = .next t ∧ t.bit Fld.ALM_EVENT.SAVE_FAULT = true ∧ t.fld Fld.ALM_SEQ.SEQ = s.fld Fld.ALM_SEQ.SEQ ∧ t.alm.records = s.alm.records ∧ t.cmd tag = none ∧ s.reports t c St.timeout (s.fld Fld.ALM_SEQ.SEQ) = true)

/-- POWER_ON_RESET and RESET_PIN return the machine to reset values (the flash and the OTP array keep their contents where nothing is being written; RESET_PIN keeps the scratch too), record their kind, and begin power-up and a COLD reset. PERST_ASSERT is a HOST reset that resets every function, a wake in S3, and a COLD reset in WAKE_FAULT. A WARM reset is ignored while STATE is LOADING. RESET_END begins power-up with the straps sampled after a COLD reset, and 50 us after its trigger ends a WARM reset and restarts the Keeper. Where the spec leaves a point open, what it says is the model's choice: log entry 41. -/
def Obligations.ResetsBeginAndEnd : Prop :=
  (∀ (v : Nat) (s : State), s.sec.flashOp = none → s.sec.otpOp = none → s.sec.journal = none → ∃ t, exec (.powerOnReset v) s = .next t ∧ t.pwr.phase = .wake 1 ∧ t.fld Fld.NVM_STATUS.STRAPS = v % 4 ∧ t.fld Fld.NVM_RESET_CAUSE.KIND = Reset.powerOn ∧ t.pwr.scratch = [] ∧ t.flash = s.flash ∧ t.otp = s.otp ∧ t.chr = {} ∧ t.chart = {} ∧ t.q = {} ∧ t.tcm = [] ∧ t.task = {} ∧ t.dma = {} ∧ t.conv = {}) ∧
  (∀ (s : State), s.sec.flashOp = none → s.sec.otpOp = none → s.sec.journal = none → ∃ t, exec (.resetPin) s = .next t ∧ t.pwr.phase = .reset false ∧ t.fld Fld.NVM_RESET_CAUSE.KIND = Reset.cold ∧ t.pwr.scratch = s.pwr.scratch ∧ t.flash = s.flash ∧ t.otp = s.otp ∧ t.chr = {} ∧ t.chart = {} ∧ t.q = {} ∧ t.tcm = [] ∧ t.task = {} ∧ t.dma = {} ∧ t.conv = {}) ∧
  (∀ (s : State), s.pwr.phase ≠ .fault → (¬(s.pwr.phase = .asleep ∧ s.pstate = 3)) → (¬(s.bit Fld.PWR_STATE.ENTRY_BUSY = true ∧ s.fld Fld.PWR_STATE.TARGET = 3)) → ∃ t, exec (.perstAssert) s = .next t ∧ t.boot.perst = true ∧ t.boot.cfgReady = false ∧ t.bit Fld.GBL_PCIE_STATUS.LINK_UP = false ∧ t.fld Fld.NVM_RESET_CAUSE.KIND = Reset.host ∧ t.bit Fld.NVM_CTRL.HOST_ATTACH = false ∧ (∀ e ∈ s.fns, t.fn e.1 = {}) ∧ t.bit Fld.GBL_PCIE_STATUS.VF_ENABLE = false ∧ t.fld Fld.GBL_PCIE_STATUS.NUM_VFS = 0) ∧
  (∀ (s : State), s.pwr.phase = .asleep → s.pstate = 3 → ∃ t, exec (.perstAssert) s = .next t ∧ t.boot.perst = true ∧ t.pwr.phase = .wake 1 ∧ t.fld Fld.PWR_WAKE_CAUSE.CAUSE = Wake.perst ∧ t.fld Fld.PWR_WAKE_CAUSE.FROM = 3) ∧
  (∀ (s : State), s.pwr.phase = .fault → ∃ t, exec (.perstAssert) s = .next t ∧ t.boot.perst = true ∧ t.pwr.phase = .reset false ∧ t.fld Fld.NVM_RESET_CAUSE.KIND = Reset.wakeFault ∧ t.q = {}) ∧
  (∀ (s : State), s.fld Fld.NVM_STATUS.STATE ≠ 1 → s.sec.flashOp = none → s.sec.otpOp = none → s.sec.journal = none → ∃ t, exec (.nvmWarmReset) s = .next t ∧ t.pwr.phase = .reset true ∧ t.pwr.since = s.chr.ns ∧ t.boot.warm = true ∧ t.boot.keeper = false ∧ t.fld Fld.NVM_RESET_CAUSE.KIND = Reset.warm ∧ t.fld Fld.NVM_STATUS.STATE = 0 ∧ t.flash = s.flash ∧ t.otp = s.otp ∧ t.pwr.scratch = s.pwr.scratch ∧ t.q = {} ∧ t.tcm = [] ∧ t.task = {} ∧ t.dma = {} ∧ t.conv = {}) ∧
  (∀ (s : State), s.fld Fld.NVM_STATUS.STATE = 1 → ∃ t, exec (.nvmWarmReset) s = .next t ∧ t.bit Fld.NVM_EVENT.WRITE_DURING_LOAD = true ∧ t.pwr = s.pwr ∧ t.boot = s.boot ∧ keepsBut [(Fld.NVM_EVENT.WRITE_DURING_LOAD, 0)] s t) ∧
  (∀ (v : Nat) (s : State), s.pwr.phase = .reset false → ∃ t, exec (.resetEnd v) s = .next t ∧ t.pwr.phase = .wake 1 ∧ t.pwr.since = s.chr.ns ∧ t.fld Fld.NVM_STATUS.STRAPS = v % 4) ∧
  (∀ (v : Nat) (s : State), s.pwr.phase = .reset true → s.reaches (s.pwr.since + 50000) = true → ∃ t, exec (.resetEnd v) s = .next t ∧ t.pwr.phase = .run ∧ t.boot.keeper = true ∧ t.pwr.since = s.pwr.since + 50000 ∧ t.pwr.since ≤ t.chr.ns ∧ t.fld Fld.NVM_STATUS.STRAPS = s.fld Fld.NVM_STATUS.STRAPS)

/-- KEEPER_BOOT with the strap of the host wait puts STATE at HOST_WAIT; otherwise, with a flash that answers with a size of 16 to 256 MiB, it takes the first candidate of the boot order not yet tried, STATE LOADING, or, with none, STATE is NO_IMAGE; a flash that does not answer is recorded as NO_FLASH. SLOT_VERIFIED marks the slot verified, or records why not and marks it tried. SECTION_APPLIED counts the section once it has been applied whole, a list of register writes going on after the wait it holds, and after the last one the image is loaded and its version recorded; a section that fails its check ends the slot. Where the spec leaves a point open, what it says is the model's choice: log entries 42 and 43. -/
def Obligations.TheKeeperBoots : Prop :=
  (∀ (answers : Bool) (n : Nat) (s : State), s.boot.keeper = true → s.pwr.phase = .run → s.boot.only = none → s.fld Fld.NVM_STATUS.STRAPS = 1 → ∃ t, exec (.keeperBoot answers n) s = .next t ∧ t.fld Fld.NVM_STATUS.STATE = 4 ∧ t.boot.keeper = false ∧ t.boot.slot = none) ∧
  (∀ (n : Nat) (s : State), s.boot.keeper = true → s.pwr.phase = .run → s.boot.only = none → s.fld Fld.NVM_STATUS.STRAPS ≠ 1 → 16 ≤ n → n ≤ 256 → ∃ t, exec (.keeperBoot true n) s = .next t ∧ t.fld Fld.NVM_FLASH.SIZE_MIB = n % 2 ^ Fld.NVM_FLASH.SIZE_MIB.w ∧ t.boot.slot = (t.bootOrder.find? fun x => t.candidate x && !t.boot.tried.contains x) ∧ t.fld Fld.NVM_STATUS.STATE = (if t.boot.slot.isSome then 1 else 3) ∧ t.boot.keeper = false ∧ t.boot.index = 0) ∧
  (∀ (n : Nat) (s : State), s.boot.keeper = true → s.pwr.phase = .run → s.boot.only = none → s.fld Fld.NVM_STATUS.STRAPS ≠ 1 → ∃ t, exec (.keeperBoot false n) s = .next t ∧ t.fld Fld.NVM_STATUS.STATE = 3 ∧ t.fld Fld.NVM_FAIL.REASON = Reason.noFlash ∧ t.fld Fld.NVM_FLASH.SIZE_MIB = 0 ∧ t.boot.slot = none) ∧
  (∀ (answers : Bool) (x : Nat) (s : State), s.boot.slot = some x → s.fld Fld.NVM_STATUS.STATE = 1 → s.boot.verified = false → s.boot.index = 0 → ∃ t, exec (.slotVerified answers) s = .next t ∧ (if (if answers then s.slotReason x else Reason.readTimeout) = 0 then t.boot.verified = true ∧ t.boot.slot = some x else t.fld Fld.NVM_FAIL.REASON = (if answers then s.slotReason x else Reason.readTimeout) % 2 ^ Fld.NVM_FAIL.REASON.w ∧ t.fld Fld.NVM_FAIL.SLOT = x % 2 ^ Fld.NVM_FAIL.SLOT.w ∧ t.bit Fld.NVM_EVENT.LOAD_FAILED = true ∧ t.boot.tried = s.boot.tried ++ [x])) ∧
  (∀ (answers : Bool) (x : Nat) (s : State), s.boot.slot = some x → s.fld Fld.NVM_STATUS.STATE = 1 → s.boot.verified = true → s.boot.rest = none → s.boot.index < s.slotSections x → ∃ t, exec (.sectionApplied answers) s = .next t ∧ (if (if answers then s.sectionReason x s.boot.index else Reason.readTimeout) = 0 then (s.sectionType x s.boot.index ∉ [1, 8] → t.boot.rest = none) ∧ (t.boot.rest = none → t.boot.index = s.boot.index + 1 ∧ t.fld Fld.NVM_STATUS.SECTIONS_DONE = (s.boot.index + 1) % 2 ^ Fld.NVM_STATUS.SECTIONS_DONE.w ∧ (s.boot.index + 1 = s.slotSections x → t.boot.runDone = true ∧ t.fld Fld.NVM_LOADED.VERSION = s.slotVersion x % 2 ^ Fld.NVM_LOADED.VERSION.w)) else t.fld Fld.NVM_FAIL.REASON = (if answers then s.sectionReason x s.boot.index else Reason.readTimeout) % 2 ^ Fld.NVM_FAIL.REASON.w ∧ t.bit Fld.NVM_EVENT.LOAD_FAILED = true ∧ t.boot.tried = s.boot.tried ++ [x])) ∧
  (∀ (answers : Bool) (x u : Nat) (bs : List Byte) (s : State), s.boot.slot = some x → s.boot.verified = true → s.boot.rest = some (u, bs) → s.reaches u = true → s.boot.index < s.slotSections x → ∃ t, exec (.sectionApplied answers) s = .next t ∧ (bs = [] → t.boot.rest = none) ∧ (t.boot.rest = none → t.boot.index = s.boot.index + 1 ∧ t.fld Fld.NVM_STATUS.SECTIONS_DONE = (s.boot.index + 1) % 2 ^ Fld.NVM_STATUS.SECTIONS_DONE.w ∧ (s.boot.index + 1 = s.slotSections x → t.boot.runDone = true ∧ t.fld Fld.NVM_LOADED.VERSION = s.slotVersion x % 2 ^ Fld.NVM_LOADED.VERSION.w)))

/-- HALT_PIN_LOW latches the cause PIN once the line has been low for 200 ns that another party drives, from 1 us after the own release. HALT_ASSERT sets and clears the cause SW, and the drive follows the causes. HALT_CLEAR clears the latched causes. NVM_HOST_ATTACH writes HOST_ATTACH, and a 1 sets ATTACHED. -/
def Obligations.TheHaltLineAndTheHostAttach : Prop :=
  (∀ (e : Nat) (s : State), s.halt.lowSince = some e → s.bit Fld.NVM_HALT_CFG.IN_EN = true → s.bit Fld.NVM_HALT_STATUS.DRIVING = false → s.pin 8 = false → s.reaches (max e (s.halt.releasedAt + 1000) + 200) = true → ∃ t, exec (.haltPinLow) s = .next t ∧ t.halted Halt.pin = true ∧ (s.halted Halt.pin = false → t.bit Fld.NVM_EVENT.HALT_IN = true) ∧ max e (s.halt.releasedAt + 1000) + 200 ≤ t.chr.ns) ∧
  (∀ (v : Bool) (s : State), ∃ t, exec (.haltAssert v) s = .next t ∧ t.bit Fld.NVM_CTRL.HALT_ASSERT = v ∧ t.halted Halt.sw = v ∧ (s.halted Halt.sw ≠ v → t.bit Fld.NVM_HALT_STATUS.DRIVING = t.haltDrives) ∧ keepsBut [(Fld.NVM_CTRL.HALT_ASSERT, 0), (Fld.NVM_HALT_STATUS.CAUSE, 0), (Fld.NVM_HALT_STATUS.DRIVING, 0), (Fld.NVM_HALT_STATUS.PIN, 0)] s t) ∧
  (∀ (s : State), ∃ t, exec (.haltClear) s = .next t ∧ t.halted Halt.helm = false ∧ t.halted Halt.wdt = false ∧ t.halted Halt.pin = false ∧ t.halted Halt.sw = s.halted Halt.sw ∧ keepsBut [(Fld.NVM_HALT_STATUS.CAUSE, 0), (Fld.NVM_HALT_STATUS.DRIVING, 0), (Fld.NVM_HALT_STATUS.PIN, 0)] s t) ∧
  (∀ (v : Bool) (s : State), ∃ t, exec (.nvmHostAttach v) s = .next t ∧ t.bit Fld.NVM_CTRL.HOST_ATTACH = v ∧ (v = true → t.bit Fld.NVM_EVENT.ATTACHED = true) ∧ keepsBut [(Fld.NVM_CTRL.HOST_ATTACH, 0), (Fld.NVM_EVENT.ATTACHED, 0)] s t)

/-- A write of 0x0000_6416 to NVM_WDT_KICK, the row or a register access of the host or of a helm, restarts the watchdog's count when no expiry is due; a write of any other value changes nothing. When PERIOD_MS is not 0 and that many milliseconds have passed since the last kick, the watchdog expires: WDT is latched, and the count starts again. With PERIOD_MS 0 it never does. -/
def Obligations.TheWatchdogExpiresUnlessKicked : Prop :=
  (∀ (s : State), (s.wdtAt.any (fun e => decide (e ≤ s.chr.ns)) = false) → ∃ t, exec (.wdtKick 0x6416) s = .next t ∧ t.halt = { s.halt with kickedAt := s.chr.ns } ∧ keepsBut [] s t) ∧
  (∀ (v : Nat) (s : State), v ≠ 0x6416 → ∃ t, exec (.wdtKick v) s = .next t ∧ t = { s with out := [] }) ∧
  (∀ (v : Nat) (s : State), v < 2 ^ 32 → s.pstate = 0 → (s.fn 0).mse = true → (s.fn 0).dstate = 0 → (s.wdtAt.any (fun e => decide (e ≤ s.chr.ns)) = false) → ∃ t, exec (.registerWrite 0 0 true 0x34034 v) s = .next t ∧ t.halt = { s.halt with kickedAt := if v = 0x6416 then s.chr.ns else s.halt.kickedAt } ∧ keepsBut [] s t) ∧
  (∀ (v : Nat) (s : State), v < 2 ^ 32 → s.pstate ≤ 1 → s.bit Fld.NVM_CTRL.HOST_ATTACH = false → (s.wdtAt.any (fun e => decide (e ≤ s.chr.ns)) = false) → ∃ t, exec (.registerWrite 1 0 true 0x34034 v) s = .next t ∧ t.halt = { s.halt with kickedAt := if v = 0x6416 then s.chr.ns else s.halt.kickedAt } ∧ keepsBut [] s t) ∧
  (∀ (s : State), s.fld Fld.NVM_WDT_CFG.PERIOD_MS ≠ 0 → s.reaches (s.halt.kickedAt + s.fld Fld.NVM_WDT_CFG.PERIOD_MS * 1000000) = true → ∃ t, exec (.wdtExpiry) s = .next t ∧ t.halted Halt.wdt = true ∧ t.bit Fld.NVM_EVENT.WDT_EXPIRED = true ∧ t.halt.kickedAt = t.chr.ns ∧ s.halt.kickedAt + s.fld Fld.NVM_WDT_CFG.PERIOD_MS * 1000000 ≤ t.chr.ns) ∧
  (∀ (s : State), s.fld Fld.NVM_WDT_CFG.PERIOD_MS = 0 → ∃ t, exec (.wdtExpiry) s = .next t ∧ t = { s with out := [] })

/-- PCIE_CONFIG_READY makes the configuration space ready. PCIE_LINK_STATE_CHANGE shows the link up with its speed and width, DEGRADED below 4 and 8, or down. VF_ENABLE_CLEAR resets every function but PF0; PF_FLR is a HOST reset of PF0. POISONED_WRITE and BAR_BAD_ACCESS are logged in AER, and a refused read is answered Unsupported Request. CONFIG_SPACE_WRITE writes NumVFs while VF Enable is 0, VF Enable, PASID Enable, MSI-X Enable, Bus Master Enable, Memory Space Enable and the AER words, in the bytes that are enabled; a read answers with the word, the identification of PF0 among them; neither is taken before configuration space is ready. Where the spec leaves a point open, what it says is the model's choice: log entry 44. -/
def Obligations.TheEndpointAnswersItsHost : Prop :=
  (∀ (s : State), ∃ t, exec (.pcieConfigReady) s = .next t ∧ t.boot = { s.boot with perst := false, cfgReady := true } ∧ keepsBut [] s t) ∧
  (∀ (speed width : Nat) (s : State), ∃ t, exec (.pcieLinkStateChange true speed width) s = .next t ∧ t.bit Fld.GBL_PCIE_STATUS.LINK_UP = true ∧ t.bit Fld.GBL_PCIE_STATUS.DL_ACTIVE = true ∧ t.fld Fld.GBL_PCIE_STATUS.SPEED = speed % 2 ^ Fld.GBL_PCIE_STATUS.SPEED.w ∧ t.fld Fld.GBL_PCIE_STATUS.WIDTH = width % 2 ^ Fld.GBL_PCIE_STATUS.WIDTH.w ∧ t.bit Fld.GBL_PCIE_EVENT.LINK_UP = true ∧ (speed < 4 ∨ width < 8 → t.bit Fld.GBL_PCIE_EVENT.DEGRADED = true) ∧ keepsBut [(Fld.GBL_PCIE_STATUS.LINK_UP, 0), (Fld.GBL_PCIE_STATUS.DL_ACTIVE, 0), (Fld.GBL_PCIE_STATUS.SPEED, 0), (Fld.GBL_PCIE_STATUS.WIDTH, 0), (Fld.GBL_PCIE_EVENT.LINK_UP, 0), (Fld.GBL_PCIE_EVENT.DEGRADED, 0)] s t) ∧
  (∀ (speed width : Nat) (s : State), ∃ t, exec (.pcieLinkStateChange false speed width) s = .next t ∧ t.bit Fld.GBL_PCIE_STATUS.LINK_UP = false ∧ t.bit Fld.GBL_PCIE_STATUS.DL_ACTIVE = false ∧ (s.bit Fld.GBL_PCIE_STATUS.LINK_UP = true → t.bit Fld.GBL_PCIE_EVENT.LINK_DOWN = true) ∧ keepsBut [(Fld.GBL_PCIE_STATUS.LINK_UP, 0), (Fld.GBL_PCIE_STATUS.DL_ACTIVE, 0), (Fld.GBL_PCIE_STATUS.SPEED, 0), (Fld.GBL_PCIE_STATUS.WIDTH, 0), (Fld.GBL_PCIE_EVENT.LINK_DOWN, 0)] s t) ∧
  (∀ (s : State), s.bit Fld.GBL_PCIE_STATUS.VF_ENABLE = true → ∃ t, exec (.vfEnableClear) s = .next t ∧ t.bit Fld.GBL_PCIE_STATUS.VF_ENABLE = false ∧ t.bit Fld.GBL_PCIE_EVENT.VF_ENABLE_CHANGED = true ∧ (∀ e ∈ s.fns, e.1 ≠ 0 → t.fn e.1 = {}) ∧ t.fn 0 = s.fn 0) ∧
  (∀ (s : State), s.bit Fld.GBL_PCIE_STATUS.VF_ENABLE = false → ∃ t, exec (.vfEnableClear) s = .next t ∧ t = { s with out := [] }) ∧
  (∀ (s : State), ∃ t, exec (.pfFlr) s = .next t ∧ t.fn 0 = {} ∧ t.bit Fld.GBL_PCIE_EVENT.FLR_PF = true ∧ t.bit Fld.GBL_PCIE_STATUS.VF_ENABLE = false ∧ t.fld Fld.GBL_PCIE_STATUS.NUM_VFS = 0 ∧ t.fld Fld.NVM_RESET_CAUSE.KIND = Reset.host ∧ t.bit Fld.NVM_CTRL.HOST_ATTACH = false) ∧
  (∀ (fn : Nat) (s : State), fn < 256 → ∃ t, exec (.poisonedWrite fn) s = .next t ∧ bitAt (t.fn fn).aerStatus Aer.poisoned = true ∧ t.bit Fld.GBL_PCIE_EVENT.POISONED = true ∧ t.bit Fld.GBL_PCIE_EVENT.AER_LOGGED = true ∧ keepsBut [(Fld.GBL_PCIE_EVENT.AER_LOGGED, 0), (Fld.GBL_PCIE_EVENT.POISONED, 0), (Fld.GBL_FAULT.PCIE_FATAL, 0), (Fld.GBL_FAULT.SW, 0), (Fld.GBL_FAULT.ZERO_FAULT, 0), (Fld.GBL_FAULT.NO_IMAGE, 0)] s t) ∧
  (∀ (fn : Nat) (r : Bool) (s : State), fn < 256 → ∃ t, exec (.barBadAccess fn r) s = .next t ∧ bitAt (t.fn fn).aerStatus Aer.unsupported = true ∧ t.bit Fld.GBL_PCIE_EVENT.AER_LOGGED = true ∧ (r = true → .pcie 1 0 ∈ t.out) ∧ keepsBut [(Fld.GBL_PCIE_EVENT.AER_LOGGED, 0), (Fld.GBL_PCIE_EVENT.POISONED, 0), (Fld.GBL_FAULT.PCIE_FATAL, 0), (Fld.GBL_FAULT.SW, 0), (Fld.GBL_FAULT.ZERO_FAULT, 0), (Fld.GBL_FAULT.NO_IMAGE, 0)] s t) ∧
  (∀ (fn v : Nat) (s : State), fn < 256 → s.functionThere fn = true → v < 2 ^ 32 → fn = 0 → s.bit Fld.GBL_PCIE_STATUS.VF_ENABLE = false → v ≤ 255 → ∃ t, exec (.configSpaceWrite fn 0x160 true 15 v) s = .next t ∧ t.fld Fld.GBL_PCIE_STATUS.NUM_VFS = v ∧ keepsBut [(Fld.GBL_PCIE_STATUS.NUM_VFS, 0)] s t) ∧
  (∀ (fn v : Nat) (s : State), fn < 256 → s.functionThere fn = true → v < 2 ^ 32 → fn = 0 → bitAt v 0 = true → ∃ t, exec (.configSpaceWrite fn 0x158 true 15 v) s = .next t ∧ t.bit Fld.GBL_PCIE_STATUS.VF_ENABLE = true ∧ (t.fn 0).vfMse = bitAt v 3 ∧ (t.fn 0).vfTag10 = bitAt v 5 ∧ keepsBut [(Fld.GBL_PCIE_STATUS.VF_ENABLE, 0)] s t) ∧
  (∀ (fn v : Nat) (s : State), fn < 256 → s.functionThere fn = true → v < 2 ^ 32 → fn = 0 → ∃ t, exec (.configSpaceWrite fn 0x194 true 15 v) s = .next t ∧ t.fn 0 = { s.fn 0 with pasidEn := bitAt v 16 } ∧ keepsBut [] s t) ∧
  (∀ (fn v : Nat) (s : State), fn < 256 → s.functionThere fn = true → v < 2 ^ 32 → bitAt v 31 = true → ∃ t, exec (.configSpaceWrite fn 0x50 true 15 v) s = .next t ∧ (t.fn fn).msixEn = true ∧ (t.fn fn).msixMask = bitAt v 30 ∧ keepsBut [] s t) ∧
  (∀ (fn v : Nat) (s : State), fn < 256 → s.functionThere fn = true → v < 2 ^ 32 → bitAt v 2 = true → ∃ t, exec (.configSpaceWrite fn 0x04 true 15 v) s = .next t ∧ t.fn fn = { s.fn fn with mse := bitAt v 1, bme := true } ∧ keepsBut [] s t) ∧
  (∀ (fn v : Nat) (s : State), fn < 256 → s.functionThere fn = true → v < 2 ^ 32 → bitAt v 2 = false → ∃ t, exec (.configSpaceWrite fn 0x04 true 15 v) s = .next t ∧ (t.fn fn).bme = false ∧ (t.fn fn).mse = bitAt v 1 ∧ t.bit Fld.GBL_PCIE_EVENT.BME_CLEARED = true) ∧
  (∀ (fn v : Nat) (s : State), fn < 256 → s.functionThere fn = true → v < 2 ^ 32 → ∃ t, exec (.configSpaceWrite fn 0x104 true 15 v) s = .next t ∧ t.fn fn = { s.fn fn with aerStatus := (s.fn fn).aerStatus - ((s.fn fn).aerStatus &&& v) } ∧ keepsBut [] s t) ∧
  (∀ (fn v : Nat) (s : State), fn < 256 → s.functionThere fn = true → v < 2 ^ 32 → ∃ t, exec (.configSpaceWrite fn 0x108 true 15 v) s = .next t ∧ t.fn fn = { s.fn fn with aerMask := v } ∧ keepsBut [] s t) ∧
  (∀ (fn v : Nat) (s : State), fn < 256 → s.functionThere fn = true → v < 2 ^ 32 → ∃ t, exec (.configSpaceWrite fn 0x10C true 15 v) s = .next t ∧ t.fn fn = { s.fn fn with aerSeverity := v } ∧ keepsBut [] s t) ∧
  (∀ (fn v : Nat) (s : State), fn < 256 → s.functionThere fn = true → v < 2 ^ 32 → ∃ t, exec (.configSpaceWrite fn 0x110 true 15 v) s = .next t ∧ t.fn fn = { s.fn fn with corStatus := (s.fn fn).corStatus - ((s.fn fn).corStatus &&& v) } ∧ keepsBut [] s t) ∧
  (∀ (fn v : Nat) (s : State), fn < 256 → s.functionThere fn = true → v < 2 ^ 32 → (s.fn fn).aerMask < 2 ^ 32 → ∃ t, exec (.configSpaceWrite fn 0x108 true 1 v) s = .next t ∧ (t.fn fn).aerMask = (s.fn fn).aerMask / 256 * 256 + v % 256 ∧ keepsBut [] s t) ∧
  (∀ (fn off be v : Nat) (s : State), fn < 256 → off < 0x1000 → off % 4 = 0 → s.functionThere fn = true → ∃ t, exec (.configSpaceWrite fn off false be v) s = .next t ∧ t = { s with out := [.pcie 0 (s.cfgWord fn off)] }) ∧
  (∀ (be v : Nat) (s : State), s.functionThere 0 = true → ∃ t, exec (.configSpaceWrite 0 0x00 false be v) s = .next t ∧ t = { s with out := [.pcie 0 0x64161F6E] }) ∧
  (∀ (be v : Nat) (s : State), s.functionThere 0 = true → ∃ t, exec (.configSpaceWrite 0 0x08 false be v) s = .next t ∧ t = { s with out := [.pcie 0 0x0C8000B0] }) ∧
  (∀ (fn off be v : Nat) (w : Bool) (s : State), s.boot.cfgReady = false → ∃ t, exec (.configSpaceWrite fn off w be v) s = .next t ∧ t = { s with out := [] })

/-- REGISTER_WRITE: a host write of a register of the ALM_ block gives an RW field the written bits, clears the bits of a W1C field that are written 1, and leaves every other field; while the boot runs it is ignored and sets WRITE_DURING_LOAD. A read answers with the register's word and changes nothing where the register has no RC field and no snapshot. A helm's write while HOST_ATTACH is 1 is ignored and sets SUPERVISOR_WRITE. An access with Memory Space Enable 0 is an Unsupported Request. VIEW_ERR_CAUSE_WRITE clears the bits of the bound instance's HIC_ERR_CAUSE that are written 1. Where the spec leaves a point open, what it says is the model's choice: log entries 10, 45 and 53. -/
def Obligations.RegistersAreReadAndWritten : Prop :=
  (∀ (f : Field) (v : Nat) (s : State), f ∈ fieldTable → 0x30000 ≤ f.off → f.off < 0x34000 → f.count ≤ 1 → f.sel = .none → s.pstate = 0 → (s.fn 0).mse = true → (s.fn 0).dstate = 0 → s.loading = false → ∃ t, exec (.registerWrite 0 0 true f.off v) s = .next t ∧ t.fld f 0 = (if f.acc = .rw then bitsAt v f.lo f.w else if f.acc = .w1c then (s.fld f 0 - (s.fld f 0 &&& bitsAt v f.lo f.w)) % 2 ^ f.w else s.fld f 0)) ∧
  (∀ (f : Field) (v : Nat) (s : State), f ∈ fieldTable → 0x30000 ≤ f.off → f.off < 0x34000 → f.count ≤ 1 → f.sel = .none → s.pstate ≤ 1 → ∃ t, exec (.registerWrite 2 0 true f.off v) s = .next t ∧ t.fld f 0 = (if f.acc = .rw then bitsAt v f.lo f.w else if f.acc = .w1c then (s.fld f 0 - (s.fld f 0 &&& bitsAt v f.lo f.w)) % 2 ^ f.w else s.fld f 0)) ∧
  (∀ (f : Field) (v : Nat) (s : State), f ∈ fieldTable → 0x30000 ≤ f.off → f.off < 0x34000 → f.count ≤ 1 → f.sel = .none → s.pstate = 0 → (s.fn 0).mse = true → (s.fn 0).dstate = 0 → s.loading = true → ∃ t, exec (.registerWrite 0 0 true f.off v) s = .next t ∧ t.bit Fld.NVM_EVENT.WRITE_DURING_LOAD = true ∧ t.alm = s.alm ∧ keepsBut [(Fld.NVM_EVENT.WRITE_DURING_LOAD, 0)] s t) ∧
  (∀ (off v r n : Nat) (s : State), s.pstate = 0 → (s.fn 0).mse = true → (s.fn 0).dstate = 0 → off % 4 = 0 → (off < 0x21000 ∨ 0x22000 ≤ off) → off < 0x40000 → s.regAt off = some (r, n) → r ∉ [0x02008, 0x06018, 0x0E010, 0x0E040, 0x1800C, 0x1E204, 0x24120] → (∀ f ∈ fieldsAt r, f.acc ≠ .rc) → (∀ d ∈ offsetDomain off, s.domGood d = true) → ∃ t, exec (.registerWrite 0 0 false off v) s = .next t ∧ t = { s with out := [.pcie 0 (s.registerWord r n)] }) ∧
  (∀ (off v : Nat) (s : State), off % 4 = 0 → off < 0x100000 → s.pstate ≤ 1 → s.bit Fld.NVM_CTRL.HOST_ATTACH = true → ∃ t, exec (.registerWrite 1 0 true off v) s = .next t ∧ t.bit Fld.NVM_EVENT.SUPERVISOR_WRITE = true ∧ t.out = [] ∧ keepsBut [(Fld.NVM_EVENT.SUPERVISOR_WRITE, 0)] s t) ∧
  (∀ (off v : Nat) (s : State), off % 4 = 0 → off < 0x100000 → s.pstate ≤ 1 → (s.fn 0).mse = false → ∃ t, exec (.registerWrite 0 0 false off v) s = .next t ∧ .pcie 1 0 ∈ t.out ∧ bitAt (t.fn 0).aerStatus Aer.unsupported = true ∧ keepsBut [(Fld.GBL_PCIE_EVENT.AER_LOGGED, 0), (Fld.GBL_PCIE_EVENT.POISONED, 0), (Fld.GBL_FAULT.PCIE_FATAL, 0), (Fld.GBL_FAULT.SW, 0), (Fld.GBL_FAULT.ZERO_FAULT, 0), (Fld.GBL_FAULT.NO_IMAGE, 0)] s t) ∧
  (∀ (slot v i : Nat) (s : State), s.pstate = 0 → (s.fn 0).mse = true → (s.fn 0).dstate = 0 → s.loading = false → s.viewOf 0 slot = some i → ∃ t, exec (.viewErrCauseWrite 0 slot v) s = .next t ∧ (∀ f ∈ fieldsAt 0x1C010, f.acc = .w1c → t.fld f i = (s.fld f i - (s.fld f i &&& bitsAt (v % 64) f.lo f.w)) % 2 ^ f.w))

/-- LATCH_POINT, 128 ns before the meridian that is due, latches an accepted COMMIT and takes the halt causes into account. MERIDIAN opens the next tick: the tick number counts up (from 0 at the first), the next meridian falls due at the length of the tick, the halt state is as latched, and the marker of the tick leaves on every root port that is UP; with RUN 0 the executor stops and no tick begins. HANDOVER_WHILE_STOPPED hands a COMMIT over 1 us after its acceptance: of the chart, of the chronometer, of the operating point. Where the spec leaves a point open, what it says is the model's choice: log entries 11 and 12. -/
def Obligations.TheMeridianOpensATick : Prop :=
  (∀ (s : State), (s.bit Fld.CHT_STATUS.RUNNING = true ∨ s.chr.runDue = true) → s.reaches (s.chr.dueNs - 128) = true → s.standby = false → ∃ t, exec (.latchPoint) s = .next t ∧ t.halt = { s.halt with next := s.fld Fld.NVM_HALT_STATUS.CAUSE != 0 } ∧ (s.bit Fld.CHT_STATUS.PENDING = true → s.chart.dueNs + 128 < s.chr.dueNs + 1000 → t.chart.latched = true) ∧ s.chr.dueNs - 128 ≤ t.chr.ns ∧ t.tick = s.tick) ∧
  (∀ (s : State), (s.bit Fld.CHT_STATUS.RUNNING = true ∨ s.chr.runDue = true) → s.chr.ns ≤ s.chr.dueNs → s.bit Fld.CHT_CTRL.RUN = true → s.standby = false → s.pair.handTick = none → s.pwr.next = none → ∃ t, exec (.meridian) s = .next t ∧ t.tick = (if s.chr.started then s.tick + 1 else 0) ∧ t.bit Fld.CHT_STATUS.RUNNING = true ∧ t.chr.runDue = false ∧ t.chr.meridNs = s.chr.dueNs ∧ t.chr.dueNs = t.chr.meridNs + 32 * t.chr.tickSlots ∧ t.bit Fld.NVM_HALT_STATUS.ACTIVE = s.halt.next ∧ (∀ p < 16, s.portUp p = true → (t.out.any fun o => match o with | .marker q codes _ => q == p && ((List.range 4).any fun st => (List.range 4).any fun e => codes == (OSet.meridian t.tick 0 st e).codes (s.endGen p)) | _ => false) = true)) ∧
  (∀ (s : State), s.bit Fld.CHT_STATUS.RUNNING = true → s.chr.ns ≤ s.chr.dueNs → s.bit Fld.CHT_CTRL.RUN = false → s.standby = false → s.pwr.next = none → ∃ t, exec (.meridian) s = .next t ∧ t.tick = s.tick ∧ t.bit Fld.CHT_STATUS.RUNNING = false ∧ t.chr.runDue = false ∧ s.chr.dueNs ≤ t.chr.ns) ∧
  (∀ (s : State), s.bit Fld.CHT_STATUS.RUNNING = false → s.bit Fld.CHT_STATUS.PENDING = true → s.reaches s.chart.dueNs = true → ∃ t, exec (.handoverWhileStopped 0) s = .next t ∧ t.bit Fld.CHT_STATUS.PENDING = false ∧ t.bank t.activeIdx = s.bank s.shadowIdx ∧ t.fld Fld.CHT_COMMIT_SEQ.SEQ = (s.fld Fld.CHT_COMMIT_SEQ.SEQ + 1) % 65536 ∧ t.fld Fld.CHT_TICK_LEN.ACTIVE_N = s.fld Fld.CHT_TICK_LEN.N ∧ t.bit Fld.CHT_EVENT.COMMITTED = true) ∧
  (∀ (s : State), s.bit Fld.CHT_STATUS.RUNNING = false → s.bit Fld.CHR_COMMIT.PENDING = true → s.chr.domainStep = none → s.reaches s.chr.stepDueNs = true → ∃ t, exec (.handoverWhileStopped 1) s = .next t ∧ t.bit Fld.CHR_COMMIT.PENDING = false ∧ t.fld Fld.CHR_STEP_LO.STEP_LO = 0 ∧ t.fld Fld.CHR_STEP_HI.STEP_HI = 0 ∧ t.chr.stepSum = s.chr.stepSum + s.stepAmount) ∧
  (∀ (s : State), s.bit Fld.CHT_STATUS.RUNNING = false → s.bit Fld.PWR_OP_STATUS.PENDING = true → s.pwr.opTag = none → s.reaches s.pwr.opDue = true → ∃ t, exec (.handoverWhileStopped 2) s = .next t ∧ t.bit Fld.PWR_OP_STATUS.PENDING = false ∧ t.fld Fld.PWR_OP_STATUS.ACTIVE = s.fsel % 2 ^ Fld.PWR_OP_STATUS.ACTIVE.w)

/-- LEG_ENCODE_START fixes what a leg carries two slots before its first: the payload its source supplied, cut or filled to PAYLOAD, or, with none, what its hold policy gives, counted in CHT_HELD_CNT with CHT_EVENT.HELD. OUTBOUND_LEG_START sends the fixed payload on the entry's port at its slot. INBOUND_LEG_RECEIVE of a good frame of the leg stores its payload with SUCCESS; one with a bad CRC leaves the payload and counts a short one. INBOUND_LEG_TIMEOUT leaves the payload, with TIMEOUT, and counts a miss. STRAY_FRAME counts a stray frame. Where the spec leaves a point open, what it says is the model's choice: log entries 23, 24 and 63. -/
def Obligations.LegsAreSentAndReceived : Prop :=
  (∀ (i : Nat) (b : List Byte) (s : State), s.outLeg i = true → (∀ f ∈ (s.leg i).fixed, f.1 ≠ s.tick) → s.reaches (s.chr.meridNs + 32 * ((s.entry i).start - 2)) = true → s.bit Fld.NVM_HALT_STATUS.ACTIVE = false → s.pair.takeover ≠ some s.tick → s.supply i = some b → ∃ t, exec (.legEncodeStart i) s = .next t ∧ (t.leg i).fixed = some (s.tick, .data (fitTo (s.entry i).payload b)) ∧ keepsBut [] s t) ∧
  (∀ (i : Nat) (s : State), s.outLeg i = true → (∀ f ∈ (s.leg i).fixed, f.1 ≠ s.tick) → s.reaches (s.chr.meridNs + 32 * ((s.entry i).start - 2)) = true → s.bit Fld.NVM_HALT_STATUS.ACTIVE = false → s.pair.takeover ≠ some s.tick → s.supply i = none → ∃ t, exec (.legEncodeStart i) s = .next t ∧ (t.leg i).fixed = some (s.tick, s.heldSending i) ∧ t.bit Fld.CHT_EVENT.HELD = true ∧ t.fld Fld.CHT_HELD_CNT.COUNT (s.entry i).port = min (s.fld Fld.CHT_HELD_CNT.COUNT (s.entry i).port + 1) (2 ^ Fld.CHT_HELD_CNT.COUNT.w - 1) ∧ keepsBut [(Fld.CHT_EVENT.HELD, 0), (Fld.CHT_HELD_CNT.COUNT, (s.entry i).port)] s t) ∧
  (∀ (i : Nat) (b : List Byte) (s : State), s.outLeg i = true → (s.leg i).fixed = some (s.tick, .data b) → (s.leg i).sentTick ≠ some s.tick → s.pair.takeover ≠ some s.tick → s.portUp (s.entry i).port = true → s.reaches (s.chr.meridNs + 32 * (s.entry i).start) = true → ∃ t, exec (.outboundLegStart i false) s = .next t ∧ t.out = [.leg (s.entry i).port i (padded (s.endGen (s.entry i).port) (legFrame (s.entry i).node (s.entry i).pipe false s.tick false false false false false b)) (s.skew (s.entry i).port)] ∧ (t.leg i).lastSent = some b ∧ (t.leg i).sentTick = some s.tick ∧ s.chr.meridNs + 32 * (s.entry i).start ≤ t.chr.ns ∧ keepsBut [] s t) ∧
  (∀ (i : Nat) (e : ChartEntry) (d k : Nat) (pos : Int) (frame : List Byte) (h : Header) (at_ : Nat) (s : State), s.inLeg false i = some e → (s.node e.node).state ≠ .quarantine → e.dup = false → e.trigger = 0 → s.portUp e.port = true → Header.ofBytes frame = h → s.gridPos e.port pos = 32 * 65536 * (k : Int) → e.start ≤ k → k < e.start + e.len → k + frameSlots (s.endGen e.port) h.length ≤ e.start + e.len → frameSlots (s.pathGen e.node) h.length ≤ e.len → frameGood frame = true → h.addr = e.node → h.pipe = e.pipe → h.inbound = true → h.packet = false → h.low = s.tick % 256 → h.length = e.payload → (s.node e.node).hub = false → s.eventNs false e.port e.start (e.start + e.len) d = some at_ → s.reaches at_ = true → ∃ t, exec (.inboundLegReceive false i false d pos frame) s = .next t ∧ (t.leg i).status = St.success ∧ (t.leg i).inb = framePayload frame ∧ (t.leg i).goodTick = some s.tick ∧ (t.leg i).doneTick = some s.tick ∧ (t.leg i).endTick = some s.tick ∧ (t.leg i).stale = h.flag 3 ∧ (t.leg i).nodeFault = h.flag 4 ∧ at_ ≤ t.chr.ns) ∧
  (∀ (i : Nat) (e : ChartEntry) (d k : Nat) (pos : Int) (frame : List Byte) (h : Header) (at_ : Nat) (s : State), s.inLeg false i = some e → (s.node e.node).state ≠ .quarantine → e.dup = false → e.trigger = 0 → s.portUp e.port = true → Header.ofBytes frame = h → s.gridPos e.port pos = 32 * 65536 * (k : Int) → e.start ≤ k → k < e.start + e.len → k + frameSlots (s.endGen e.port) h.length ≤ e.start + e.len → frameSlots (s.pathGen e.node) h.length ≤ e.len → headerGood frame = true → frameGood frame = false → s.eventNs false e.port e.start (e.start + e.len) d = some at_ → s.reaches at_ = true → ∃ t, exec (.inboundLegReceive false i false d pos frame) s = .next t ∧ (t.leg i).status = St.short ∧ (t.leg i).inb = (s.leg i).inb ∧ (t.leg i).endTick = some s.tick ∧ t.bit Fld.CHT_EVENT.SHORT = true ∧ t.fld Fld.CHT_SHORT_CNT.COUNT e.port = min (s.fld Fld.CHT_SHORT_CNT.COUNT e.port + 1) (2 ^ Fld.CHT_SHORT_CNT.COUNT.w - 1)) ∧
  (∀ (i : Nat) (e : ChartEntry) (d : Nat) (at_ : Nat) (s : State), s.inLeg false i = some e → (s.node e.node).state ≠ .quarantine → e.dup = false → e.trigger = 0 → s.eventNs false e.port e.start (e.start + e.len) d = some at_ → s.reaches at_ = true → ∃ t, exec (.inboundLegTimeout false i false d) s = .next t ∧ (t.leg i).status = St.timeout ∧ (t.leg i).inb = (s.leg i).inb ∧ (t.leg i).endTick = some s.tick ∧ t.bit Fld.CHT_EVENT.MISS = true ∧ t.fld Fld.CHT_MISS_CNT.COUNT e.port = min (s.fld Fld.CHT_MISS_CNT.COUNT e.port + 1) (2 ^ Fld.CHT_MISS_CNT.COUNT.w - 1)) ∧
  (∀ (p slot : Nat) (pos : Int) (frame : List Byte) (s : State), p < 16 → s.portUp p = true → boundaryOf (s.endGen p) (pos - s.rangeShift p) = some slot → (Header.ofBytes frame).packet = false → s.inRange p slot = false → ∃ t, exec (.strayFrame p pos frame) s = .next t ∧ t.fld Fld.CHT_STRAY_CNT.COUNT p = min (s.fld Fld.CHT_STRAY_CNT.COUNT p + 1) (2 ^ Fld.CHT_STRAY_CNT.COUNT.w - 1) ∧ t.bit Fld.CHT_EVENT.STRAY = true ∧ t.chart = s.chart)
end

