-- ==== Sys2Proof/Laws/Within.lean ====
section
/-! SUPPORT. What a program can change: `p.Within m` says that every effect `p` can have is on a part of the machine whose bit is set in
`m`. A part is a block of registers (Table 18-12) or a unit of the state. A program within `m` leaves every part outside `m` as it was. -/

namespace Sys2Proof.Machine

/-- The number of the register block that a row of the register tables belongs to. -/
def blockOf (row : Nat) : Nat :=
  if row < 279 then
    (if row < 122 then (if row < 44 then 0 else if row < 90 then 1 else 2)
     else if row < 182 then (if row < 160 then 3 else 4) else if row < 211 then 5 else 6)
  else if row < 467 then
    (if row < 378 then (if row < 334 then 7 else 8) else if row < 430 then (if row < 403 then 9 else 10) else 11)
  else if row < 634 then
    (if row < 524 then 12 else if row < 554 then 13 else if row < 594 then 14 else 15)
  else if row < 687 then (if row < 672 then 16 else 17) else 18

/-- The part that an effect is on. -/
def Eff.part (e : Eff) : Nat :=
  match e with
  | .fld f _ _ => blockOf f.row
  | .host _ _ => 20 | .tcm _ _ => 21 | .out _ => 22 | .takeFree => 23
  | .q _ => 24 | .ins _ => 25 | .icu _ => 26 | .chr _ => 27 | .fix _ _ => 28 | .chart _ => 29 | .tree _ => 30 | .conv _ => 31
  | .dev _ _ => 32 | .fn _ _ => 33 | .cpw _ => 34 | .lane _ _ => 35 | .helm _ _ => 36 | .task _ => 37 | .halt _ => 38 | .dma _ => 39
  | .pwr _ => 40 | .pair _ => 41 | .boot _ => 42 | .sec _ => 43 | .alm _ => 44 | .flash _ _ => 45 | .otp _ _ => 46
  | .keepRegs _ => 19 | .keepTcm _ => 21

/-- Whether every effect a program can have is on a part in `m`. -/
def Prog.Within (m : Nat) : Prog → Prop
  | .skip => True
  | .eff e => m.testBit e.part = true
  | .seq p q => p.Within m ∧ q.Within m
  | .read k => ∀ s, (k s).Within m

variable {m : Nat}

theorem within_skip : Prog.skip.Within m := trivial
theorem within_eff {e : Eff} (h : m.testBit e.part = true) : (Prog.eff e).Within m := h
theorem within_seq {p q : Prog} (hp : p.Within m) (hq : q.Within m) : (Prog.seq p q).Within m := ⟨hp, hq⟩
theorem within_read {k : State → Prog} (h : ∀ s, (k s).Within m) : (Prog.read k).Within m := h
theorem within_nil : (seqs []).Within m := trivial
theorem within_cons {p : Prog} {l : List Prog} (hp : p.Within m) (hl : (seqs l).Within m) : (seqs (p :: l)).Within m := ⟨hp, hl⟩
theorem within_whenP {c : Bool} {p : Prog} (h : p.Within m) : (whenP c p).Within m := by
  unfold whenP; split
  · exact h
  · trivial
theorem within_forP {α : Type} {l : List α} {f : α → Prog} (h : ∀ x, (f x).Within m) : (forP l f).Within m := by
  unfold forP
  induction l with
  | nil => trivial
  | cons x t ih => exact ⟨h x, ih⟩
theorem within_forP_mem {α : Type} {l : List α} {f : α → Prog} (h : ∀ x ∈ l, (f x).Within m) : (forP l f).Within m := by
  unfold forP
  induction l with
  | nil => trivial
  | cons x t ih => exact ⟨h x (by simp), ih fun y hy => h y (by simp [hy])⟩
theorem within_ite {c : Prop} {_ : Decidable c} {p q : Prog} (hp : p.Within m) (hq : q.Within m) : (if c then p else q).Within m := by
  split
  · exact hp
  · exact hq
theorem within_putN {f : Field} {n v : Nat} (h : m.testBit (blockOf f.row) = true) : (putN f n v).Within m := h
theorem within_put {f : Field} {v : Nat} (h : m.testBit (blockOf f.row) = true) : (put f v).Within m := h
theorem within_raise {f : Field} {n : Nat} (h : m.testBit (blockOf f.row) = true) : (raise f n).Within m := h
theorem within_clear {f : Field} {n : Nat} (h : m.testBit (blockOf f.row) = true) : (clear f n).Within m := h
theorem within_countUp {f : Field} {n k : Nat} (h : m.testBit (blockOf f.row) = true) : (countUp f n k).Within m := fun _ => h
theorem within_countDown {f : Field} {n k : Nat} (h : m.testBit (blockOf f.row) = true) : (countDown f n k).Within m := fun _ => h
theorem within_emit {o : Output} (h : m.testBit 22 = true) : (emit o).Within m := h
theorem within_withFree {w : Nat} {k : Nat → Prog} (h : m.testBit 23 = true) (hk : ∀ v, (k v).Within m) : (withFree w k).Within m :=
  fun _ => ⟨h, hk _⟩

/-- A smaller set of parts within a larger one. -/
theorem sub {m a b : Nat} (h : m &&& a = a) (hb : a &&& b = b) : m &&& b = b := by
  rw [← hb, ← Nat.and_assoc, h]
/-- A part of a set within a larger one. -/
theorem tb {m a k : Nat} (h : m &&& a = a) (ha : a.testBit k = true) : m.testBit k = true := by
  have := congrArg (fun x => x.testBit k) h
  simp only [Nat.testBit_and, ha, Bool.and_true] at this
  exact this

/-- Every row belongs to one of the nineteen blocks. -/
theorem blockOf_lt (r : Nat) : blockOf r < 19 := by
  unfold blockOf; repeat' split
  all_goals omega
/-- A set that holds every register block holds a row's. -/
theorem tbAny {m r : Nat} (h : m &&& 0x7FFFF = 0x7FFFF) : m.testBit (blockOf r) = true := by
  have hr := blockOf_lt r
  refine tb h ?_
  revert hr
  generalize blockOf r = k
  intro hk
  interval_cases k <;> decide

theorem fieldsOf_block : ∀ e ∈ [(Sel.sq, 7), (Sel.cq, 7), (Sel.qmIns, 7), (Sel.ins, 8), (Sel.hicIns, 10), (Sel.hicVec, 10), (Sel.pi, 6),
    (Sel.route, 6)], ∀ f ∈ fieldsOf e.1, blockOf f.row = e.2 := by decide +kernel
/-- The fields of a selector's contexts are in one block. -/
theorem tbSel {m : Nat} {sel : Sel} {f : Field} (b : Nat) (hb : m.testBit b = true) (hf : f ∈ fieldsOf sel)
    (he : (sel, b) ∈ [(Sel.sq, 7), (Sel.cq, 7), (Sel.qmIns, 7), (Sel.ins, 8), (Sel.hicIns, 10), (Sel.hicVec, 10), (Sel.pi, 6),
      (Sel.route, 6)]) : m.testBit (blockOf f.row) = true := by
  rw [fieldsOf_block _ he f hf]; exact hb

/-- Every effect is on one of the 47 parts. -/
theorem part_lt (e : Eff) : e.part < 47 := by
  cases e <;> simp only [Eff.part] <;> first | omega | (rename_i f _ _; have := blockOf_lt f.row; omega)
/-- Every program is within the set of all parts. -/
theorem within_all {m : Nat} (h : m &&& 0x7FFFFFFFFFFF = 0x7FFFFFFFFFFF) (p : Prog) : p.Within m := by
  induction p with
  | skip => trivial
  | eff e =>
    have he := part_lt e
    refine tb h ?_
    revert he
    generalize e.part = k
    intro hk
    interval_cases k <;> decide
  | seq p q hp hq => exact ⟨hp, hq⟩
  | read k ih => exact ih

/-- A meaning that is the outcome of a program within `m`. -/
def Meaning (m : Nat) (s : State) (o : Out) : Prop := ∃ p : Prog, p.Within m ∧ o = finish p s

theorem within_finish {s : State} {p : Prog} (h : p.Within m) : Meaning m s (finish p s) := ⟨p, h, rfl⟩

end Sys2Proof.Machine
end

