-- ==== Sys2Proof/Laws/Ops.lean ====
section
/-! SUPPORT. What each program of Machine/Ops.lean can change, as a set of parts (Laws/Within.lean); for a command, of its meaning. -/

set_option linter.all false
set_option maxRecDepth 20000

namespace Sys2Proof.Machine

theorem resetFields_within {m : Nat} (fs : List Field) (n : Nat) (h : ∀ f ∈ fs, m.testBit (blockOf f.row) = true) :
    (resetFields fs n).Within m := within_forP_mem fun f hf => within_putN (h f hf)

theorem putFlag_within {pm : Nat} (hpm : pm &&& 0x0 = 0x0) (f : Field) (b : Nat) (v : Bool) (hyp_f : pm.testBit (blockOf f.row) = true) :
    (putFlag f b v).Within pm := by
  unfold putFlag
  repeat' (first | (with_reducible (first | assumption | exact within_skip | exact within_nil | apply within_cons | apply within_whenP | apply within_ite | apply within_read | apply within_put))
                   | (with_reducible intro _) | ((with_reducible refine sub hpm ?_); decide) | ((with_reducible refine tb hpm ?_); first | decide | (exact rfl) | (dsimp only [Eff.part]; decide)) | ((with_reducible refine tbAny ?_); refine sub hpm ?_; decide) | split | (exact tbSel 7 (tb hpm (by decide)) ‹_› (by decide)) | (exact tbSel 8 (tb hpm (by decide)) ‹_› (by decide)) | (dsimp only))

theorem modQ_within {pm : Nat} (hpm : pm &&& 0x1000000 = 0x1000000) (f : QueueUnit → QueueUnit) :
    (modQ f).Within pm := by
  unfold modQ
  repeat' (first | (with_reducible (first | assumption | exact within_skip | exact within_nil | apply within_cons | apply within_eff))
                   | (with_reducible intro _) | ((with_reducible refine sub hpm ?_); decide) | ((with_reducible refine tb hpm ?_); first | decide | (exact rfl) | (dsimp only [Eff.part]; decide)) | ((with_reducible refine tbAny ?_); refine sub hpm ?_; decide) | split | (exact tbSel 7 (tb hpm (by decide)) ‹_› (by decide)) | (exact tbSel 8 (tb hpm (by decide)) ‹_› (by decide)) | (dsimp only))

theorem modIns_within {pm : Nat} (hpm : pm &&& 0x2000000 = 0x2000000) (f : InsUnit → InsUnit) :
    (modIns f).Within pm := by
  unfold modIns
  repeat' (first | (with_reducible (first | assumption | exact within_skip | exact within_nil | apply within_cons | apply within_eff))
                   | (with_reducible intro _) | ((with_reducible refine sub hpm ?_); decide) | ((with_reducible refine tb hpm ?_); first | decide | (exact rfl) | (dsimp only [Eff.part]; decide)) | ((with_reducible refine tbAny ?_); refine sub hpm ?_; decide) | split | (exact tbSel 7 (tb hpm (by decide)) ‹_› (by decide)) | (exact tbSel 8 (tb hpm (by decide)) ‹_› (by decide)) | (dsimp only))

theorem modIcu_within {pm : Nat} (hpm : pm &&& 0x4000000 = 0x4000000) (f : IcuUnit → IcuUnit) :
    (modIcu f).Within pm := by
  unfold modIcu
  repeat' (first | (with_reducible (first | assumption | exact within_skip | exact within_nil | apply within_cons | apply within_eff))
                   | (with_reducible intro _) | ((with_reducible refine sub hpm ?_); decide) | ((with_reducible refine tb hpm ?_); first | decide | (exact rfl) | (dsimp only [Eff.part]; decide)) | ((with_reducible refine tbAny ?_); refine sub hpm ?_; decide) | split | (exact tbSel 7 (tb hpm (by decide)) ‹_› (by decide)) | (exact tbSel 8 (tb hpm (by decide)) ‹_› (by decide)) | (dsimp only))

theorem modChr_within {pm : Nat} (hpm : pm &&& 0x8000000 = 0x8000000) (f : ChronUnit → ChronUnit) :
    (modChr f).Within pm := by
  unfold modChr
  repeat' (first | (with_reducible (first | assumption | exact within_skip | exact within_nil | apply within_cons | apply within_eff))
                   | (with_reducible intro _) | ((with_reducible refine sub hpm ?_); decide) | ((with_reducible refine tb hpm ?_); first | decide | (exact rfl) | (dsimp only [Eff.part]; decide)) | ((with_reducible refine tbAny ?_); refine sub hpm ?_; decide) | split | (exact tbSel 7 (tb hpm (by decide)) ‹_› (by decide)) | (exact tbSel 8 (tb hpm (by decide)) ‹_› (by decide)) | (dsimp only))

theorem modChart_within {pm : Nat} (hpm : pm &&& 0x20000000 = 0x20000000) (f : ChartUnit → ChartUnit) :
    (modChart f).Within pm := by
  unfold modChart
  repeat' (first | (with_reducible (first | assumption | exact within_skip | exact within_nil | apply within_cons | apply within_eff))
                   | (with_reducible intro _) | ((with_reducible refine sub hpm ?_); decide) | ((with_reducible refine tb hpm ?_); first | decide | (exact rfl) | (dsimp only [Eff.part]; decide)) | ((with_reducible refine tbAny ?_); refine sub hpm ?_; decide) | split | (exact tbSel 7 (tb hpm (by decide)) ‹_› (by decide)) | (exact tbSel 8 (tb hpm (by decide)) ‹_› (by decide)) | (dsimp only))

theorem modTree_within {pm : Nat} (hpm : pm &&& 0x40000000 = 0x40000000) (f : TreeUnit → TreeUnit) :
    (modTree f).Within pm := by
  unfold modTree
  repeat' (first | (with_reducible (first | assumption | exact within_skip | exact within_nil | apply within_cons | apply within_eff))
                   | (with_reducible intro _) | ((with_reducible refine sub hpm ?_); decide) | ((with_reducible refine tb hpm ?_); first | decide | (exact rfl) | (dsimp only [Eff.part]; decide)) | ((with_reducible refine tbAny ?_); refine sub hpm ?_; decide) | split | (exact tbSel 7 (tb hpm (by decide)) ‹_› (by decide)) | (exact tbSel 8 (tb hpm (by decide)) ‹_› (by decide)) | (dsimp only))

theorem modConv_within {pm : Nat} (hpm : pm &&& 0x80000000 = 0x80000000) (f : ConvUnit → ConvUnit) :
    (modConv f).Within pm := by
  unfold modConv
  repeat' (first | (with_reducible (first | assumption | exact within_skip | exact within_nil | apply within_cons | apply within_eff))
                   | (with_reducible intro _) | ((with_reducible refine sub hpm ?_); decide) | ((with_reducible refine tb hpm ?_); first | decide | (exact rfl) | (dsimp only [Eff.part]; decide)) | ((with_reducible refine tbAny ?_); refine sub hpm ?_; decide) | split | (exact tbSel 7 (tb hpm (by decide)) ‹_› (by decide)) | (exact tbSel 8 (tb hpm (by decide)) ‹_› (by decide)) | (dsimp only))

theorem modFn_within {pm : Nat} (hpm : pm &&& 0x200000000 = 0x200000000) (k : Nat) (f : FnCfg → FnCfg) :
    (modFn k f).Within pm := by
  unfold modFn
  repeat' (first | (with_reducible (first | assumption | exact within_skip | exact within_nil | apply within_cons | apply within_read | apply within_eff))
                   | (with_reducible intro _) | ((with_reducible refine sub hpm ?_); decide) | ((with_reducible refine tb hpm ?_); first | decide | (exact rfl) | (dsimp only [Eff.part]; decide)) | ((with_reducible refine tbAny ?_); refine sub hpm ?_; decide) | split | (exact tbSel 7 (tb hpm (by decide)) ‹_› (by decide)) | (exact tbSel 8 (tb hpm (by decide)) ‹_› (by decide)) | (dsimp only))

theorem modCpw_within {pm : Nat} (hpm : pm &&& 0x400000000 = 0x400000000) (f : CpwUnit → CpwUnit) :
    (modCpw f).Within pm := by
  unfold modCpw
  repeat' (first | (with_reducible (first | assumption | exact within_skip | exact within_nil | apply within_cons | apply within_eff))
                   | (with_reducible intro _) | ((with_reducible refine sub hpm ?_); decide) | ((with_reducible refine tb hpm ?_); first | decide | (exact rfl) | (dsimp only [Eff.part]; decide)) | ((with_reducible refine tbAny ?_); refine sub hpm ?_; decide) | split | (exact tbSel 7 (tb hpm (by decide)) ‹_› (by decide)) | (exact tbSel 8 (tb hpm (by decide)) ‹_› (by decide)) | (dsimp only))

theorem modPwc_within {pm : Nat} (hpm : pm &&& 0x400000000 = 0x400000000) (p : Nat) (f : PwcPort → PwcPort) :
    (modPwc p f).Within pm := by
  unfold modPwc
  repeat' (first | (with_reducible (first | assumption | exact within_skip | exact within_nil | apply within_cons | apply modCpw_within))
                   | (with_reducible intro _) | ((with_reducible refine sub hpm ?_); decide) | ((with_reducible refine tb hpm ?_); first | decide | (exact rfl) | (dsimp only [Eff.part]; decide)) | ((with_reducible refine tbAny ?_); refine sub hpm ?_; decide) | split | (exact tbSel 7 (tb hpm (by decide)) ‹_› (by decide)) | (exact tbSel 8 (tb hpm (by decide)) ‹_› (by decide)) | (dsimp only))

theorem modLane_within {pm : Nat} (hpm : pm &&& 0x800000000 = 0x800000000) (n : Nat) (f : LaneRec → LaneRec) :
    (modLane n f).Within pm := by
  unfold modLane
  repeat' (first | (with_reducible (first | assumption | exact within_skip | exact within_nil | apply within_cons | apply within_read | apply within_eff))
                   | (with_reducible intro _) | ((with_reducible refine sub hpm ?_); decide) | ((with_reducible refine tb hpm ?_); first | decide | (exact rfl) | (dsimp only [Eff.part]; decide)) | ((with_reducible refine tbAny ?_); refine sub hpm ?_; decide) | split | (exact tbSel 7 (tb hpm (by decide)) ‹_› (by decide)) | (exact tbSel 8 (tb hpm (by decide)) ‹_› (by decide)) | (dsimp only))

theorem modHelm_within {pm : Nat} (hpm : pm &&& 0x1000000000 = 0x1000000000) (h : Nat) (f : HelmUnit → HelmUnit) :
    (modHelm h f).Within pm := by
  unfold modHelm
  repeat' (first | (with_reducible (first | assumption | exact within_skip | exact within_nil | apply within_cons | apply within_read | apply within_eff))
                   | (with_reducible intro _) | ((with_reducible refine sub hpm ?_); decide) | ((with_reducible refine tb hpm ?_); first | decide | (exact rfl) | (dsimp only [Eff.part]; decide)) | ((with_reducible refine tbAny ?_); refine sub hpm ?_; decide) | split | (exact tbSel 7 (tb hpm (by decide)) ‹_› (by decide)) | (exact tbSel 8 (tb hpm (by decide)) ‹_› (by decide)) | (dsimp only))

theorem modTask_within {pm : Nat} (hpm : pm &&& 0x2000000000 = 0x2000000000) (f : TaskUnit → TaskUnit) :
    (modTask f).Within pm := by
  unfold modTask
  repeat' (first | (with_reducible (first | assumption | exact within_skip | exact within_nil | apply within_cons | apply within_eff))
                   | (with_reducible intro _) | ((with_reducible refine sub hpm ?_); decide) | ((with_reducible refine tb hpm ?_); first | decide | (exact rfl) | (dsimp only [Eff.part]; decide)) | ((with_reducible refine tbAny ?_); refine sub hpm ?_; decide) | split | (exact tbSel 7 (tb hpm (by decide)) ‹_› (by decide)) | (exact tbSel 8 (tb hpm (by decide)) ‹_› (by decide)) | (dsimp only))

theorem modTaskOf_within {pm : Nat} (hpm : pm &&& 0x2000000000 = 0x2000000000) (t : Nat) (f : TaskRec → TaskRec) :
    (modTaskOf t f).Within pm := by
  unfold modTaskOf
  repeat' (first | (with_reducible (first | assumption | exact within_skip | exact within_nil | apply within_cons | apply modTask_within))
                   | (with_reducible intro _) | ((with_reducible refine sub hpm ?_); decide) | ((with_reducible refine tb hpm ?_); first | decide | (exact rfl) | (dsimp only [Eff.part]; decide)) | ((with_reducible refine tbAny ?_); refine sub hpm ?_; decide) | split | (exact tbSel 7 (tb hpm (by decide)) ‹_› (by decide)) | (exact tbSel 8 (tb hpm (by decide)) ‹_› (by decide)) | (dsimp only))

theorem modHalt_within {pm : Nat} (hpm : pm &&& 0x4000000000 = 0x4000000000) (f : HaltUnit → HaltUnit) :
    (modHalt f).Within pm := by
  unfold modHalt
  repeat' (first | (with_reducible (first | assumption | exact within_skip | exact within_nil | apply within_cons | apply within_eff))
                   | (with_reducible intro _) | ((with_reducible refine sub hpm ?_); decide) | ((with_reducible refine tb hpm ?_); first | decide | (exact rfl) | (dsimp only [Eff.part]; decide)) | ((with_reducible refine tbAny ?_); refine sub hpm ?_; decide) | split | (exact tbSel 7 (tb hpm (by decide)) ‹_› (by decide)) | (exact tbSel 8 (tb hpm (by decide)) ‹_› (by decide)) | (dsimp only))

theorem modDma_within {pm : Nat} (hpm : pm &&& 0x8000000000 = 0x8000000000) (f : DmaUnit → DmaUnit) :
    (modDma f).Within pm := by
  unfold modDma
  repeat' (first | (with_reducible (first | assumption | exact within_skip | exact within_nil | apply within_cons | apply within_eff))
                   | (with_reducible intro _) | ((with_reducible refine sub hpm ?_); decide) | ((with_reducible refine tb hpm ?_); first | decide | (exact rfl) | (dsimp only [Eff.part]; decide)) | ((with_reducible refine tbAny ?_); refine sub hpm ?_; decide) | split | (exact tbSel 7 (tb hpm (by decide)) ‹_› (by decide)) | (exact tbSel 8 (tb hpm (by decide)) ‹_› (by decide)) | (dsimp only))

theorem modStream_within {pm : Nat} (hpm : pm &&& 0x8000000000 = 0x8000000000) (i : Nat) (f : PiStream → PiStream) :
    (modStream i f).Within pm := by
  unfold modStream
  repeat' (first | (with_reducible (first | assumption | exact within_skip | exact within_nil | apply within_cons | apply modDma_within))
                   | (with_reducible intro _) | ((with_reducible refine sub hpm ?_); decide) | ((with_reducible refine tb hpm ?_); first | decide | (exact rfl) | (dsimp only [Eff.part]; decide)) | ((with_reducible refine tbAny ?_); refine sub hpm ?_; decide) | split | (exact tbSel 7 (tb hpm (by decide)) ‹_› (by decide)) | (exact tbSel 8 (tb hpm (by decide)) ‹_› (by decide)) | (dsimp only))

theorem modChan_within {pm : Nat} (hpm : pm &&& 0x8000000000 = 0x8000000000) (c : Nat) (f : Channel → Channel) :
    (modChan c f).Within pm := by
  unfold modChan
  repeat' (first | (with_reducible (first | assumption | exact within_skip | exact within_nil | apply within_cons | apply modDma_within))
                   | (with_reducible intro _) | ((with_reducible refine sub hpm ?_); decide) | ((with_reducible refine tb hpm ?_); first | decide | (exact rfl) | (dsimp only [Eff.part]; decide)) | ((with_reducible refine tbAny ?_); refine sub hpm ?_; decide) | split | (exact tbSel 7 (tb hpm (by decide)) ‹_› (by decide)) | (exact tbSel 8 (tb hpm (by decide)) ‹_› (by decide)) | (dsimp only))

theorem modPwr_within {pm : Nat} (hpm : pm &&& 0x10000000000 = 0x10000000000) (f : PwrUnit → PwrUnit) :
    (modPwr f).Within pm := by
  unfold modPwr
  repeat' (first | (with_reducible (first | assumption | exact within_skip | exact within_nil | apply within_cons | apply within_eff))
                   | (with_reducible intro _) | ((with_reducible refine sub hpm ?_); decide) | ((with_reducible refine tb hpm ?_); first | decide | (exact rfl) | (dsimp only [Eff.part]; decide)) | ((with_reducible refine tbAny ?_); refine sub hpm ?_; decide) | split | (exact tbSel 7 (tb hpm (by decide)) ‹_› (by decide)) | (exact tbSel 8 (tb hpm (by decide)) ‹_› (by decide)) | (dsimp only))

theorem modPair_within {pm : Nat} (hpm : pm &&& 0x20000000000 = 0x20000000000) (f : PairUnit → PairUnit) :
    (modPair f).Within pm := by
  unfold modPair
  repeat' (first | (with_reducible (first | assumption | exact within_skip | exact within_nil | apply within_cons | apply within_eff))
                   | (with_reducible intro _) | ((with_reducible refine sub hpm ?_); decide) | ((with_reducible refine tb hpm ?_); first | decide | (exact rfl) | (dsimp only [Eff.part]; decide)) | ((with_reducible refine tbAny ?_); refine sub hpm ?_; decide) | split | (exact tbSel 7 (tb hpm (by decide)) ‹_› (by decide)) | (exact tbSel 8 (tb hpm (by decide)) ‹_› (by decide)) | (dsimp only))

theorem modBoot_within {pm : Nat} (hpm : pm &&& 0x40000000000 = 0x40000000000) (f : BootUnit → BootUnit) :
    (modBoot f).Within pm := by
  unfold modBoot
  repeat' (first | (with_reducible (first | assumption | exact within_skip | exact within_nil | apply within_cons | apply within_eff))
                   | (with_reducible intro _) | ((with_reducible refine sub hpm ?_); decide) | ((with_reducible refine tb hpm ?_); first | decide | (exact rfl) | (dsimp only [Eff.part]; decide)) | ((with_reducible refine tbAny ?_); refine sub hpm ?_; decide) | split | (exact tbSel 7 (tb hpm (by decide)) ‹_› (by decide)) | (exact tbSel 8 (tb hpm (by decide)) ‹_› (by decide)) | (dsimp only))

theorem modSec_within {pm : Nat} (hpm : pm &&& 0x80000000000 = 0x80000000000) (f : SecUnit → SecUnit) :
    (modSec f).Within pm := by
  unfold modSec
  repeat' (first | (with_reducible (first | assumption | exact within_skip | exact within_nil | apply within_cons | apply within_eff))
                   | (with_reducible intro _) | ((with_reducible refine sub hpm ?_); decide) | ((with_reducible refine tb hpm ?_); first | decide | (exact rfl) | (dsimp only [Eff.part]; decide)) | ((with_reducible refine tbAny ?_); refine sub hpm ?_; decide) | split | (exact tbSel 7 (tb hpm (by decide)) ‹_› (by decide)) | (exact tbSel 8 (tb hpm (by decide)) ‹_› (by decide)) | (dsimp only))

theorem modAlm_within {pm : Nat} (hpm : pm &&& 0x100000000000 = 0x100000000000) (f : AlmUnit → AlmUnit) :
    (modAlm f).Within pm := by
  unfold modAlm
  repeat' (first | (with_reducible (first | assumption | exact within_skip | exact within_nil | apply within_cons | apply within_eff))
                   | (with_reducible intro _) | ((with_reducible refine sub hpm ?_); decide) | ((with_reducible refine tb hpm ?_); first | decide | (exact rfl) | (dsimp only [Eff.part]; decide)) | ((with_reducible refine tbAny ?_); refine sub hpm ?_; decide) | split | (exact tbSel 7 (tb hpm (by decide)) ‹_› (by decide)) | (exact tbSel 8 (tb hpm (by decide)) ‹_› (by decide)) | (dsimp only))

theorem mirrorNote_within {pm : Nat} (hpm : pm &&& 0x20000000000 = 0x20000000000) (rtype index : Nat) (data : List Byte) :
    (mirrorNote rtype index data).Within pm := by
  unfold mirrorNote
  repeat' (first | (with_reducible (first | assumption | exact within_skip | exact within_nil | apply within_cons | apply within_whenP | apply within_read | apply modPair_within))
                   | (with_reducible intro _) | ((with_reducible refine sub hpm ?_); decide) | ((with_reducible refine tb hpm ?_); first | decide | (exact rfl) | (dsimp only [Eff.part]; decide)) | ((with_reducible refine tbAny ?_); refine sub hpm ?_; decide) | split | (exact tbSel 7 (tb hpm (by decide)) ‹_› (by decide)) | (exact tbSel 8 (tb hpm (by decide)) ‹_› (by decide)) | (dsimp only))

theorem putNode_within {pm : Nat} (hpm : pm &&& 0x20040000000 = 0x20040000000) (a : Nat) (v : NodeEntry) :
    (putNode a v).Within pm := by
  unfold putNode
  repeat' (first | (with_reducible (first | assumption | exact within_skip | exact within_nil | apply within_cons | apply within_whenP | apply within_read | apply mirrorNote_within | apply modTree_within))
                   | (with_reducible intro _) | ((with_reducible refine sub hpm ?_); decide) | ((with_reducible refine tb hpm ?_); first | decide | (exact rfl) | (dsimp only [Eff.part]; decide)) | ((with_reducible refine tbAny ?_); refine sub hpm ?_; decide) | split | (exact tbSel 7 (tb hpm (by decide)) ‹_› (by decide)) | (exact tbSel 8 (tb hpm (by decide)) ‹_› (by decide)) | (dsimp only))

theorem modRec_within {pm : Nat} (hpm : pm &&& 0x40000000 = 0x40000000) (a : Nat) (f : NodeRec → NodeRec) :
    (modRec a f).Within pm := by
  unfold modRec
  repeat' (first | (with_reducible (first | assumption | exact within_skip | exact within_nil | apply within_cons | apply modTree_within))
                   | (with_reducible intro _) | ((with_reducible refine sub hpm ?_); decide) | ((with_reducible refine tb hpm ?_); first | decide | (exact rfl) | (dsimp only [Eff.part]; decide)) | ((with_reducible refine tbAny ?_); refine sub hpm ?_; decide) | split | (exact tbSel 7 (tb hpm (by decide)) ‹_› (by decide)) | (exact tbSel 8 (tb hpm (by decide)) ‹_› (by decide)) | (dsimp only))

theorem putBearing_within {pm : Nat} (hpm : pm &&& 0x20040000000 = 0x20040000000) (a : Nat) (v : Bearing) :
    (putBearing a v).Within pm := by
  unfold putBearing
  repeat' (first | (with_reducible (first | assumption | exact within_skip | exact within_nil | apply within_cons | apply within_whenP | apply within_read | apply mirrorNote_within | apply modTree_within))
                   | (with_reducible intro _) | ((with_reducible refine sub hpm ?_); decide) | ((with_reducible refine tb hpm ?_); first | decide | (exact rfl) | (dsimp only [Eff.part]; decide)) | ((with_reducible refine tbAny ?_); refine sub hpm ?_; decide) | split | (exact tbSel 7 (tb hpm (by decide)) ‹_› (by decide)) | (exact tbSel 8 (tb hpm (by decide)) ‹_› (by decide)) | (dsimp only))

theorem modTreeOf_within {pm : Nat} (hpm : pm &&& 0x40000000 = 0x40000000) (p : Nat) (f : EnumTree → EnumTree) :
    (modTreeOf p f).Within pm := by
  unfold modTreeOf
  repeat' (first | (with_reducible (first | assumption | exact within_skip | exact within_nil | apply within_cons | apply modTree_within))
                   | (with_reducible intro _) | ((with_reducible refine sub hpm ?_); decide) | ((with_reducible refine tb hpm ?_); first | decide | (exact rfl) | (dsimp only [Eff.part]; decide)) | ((with_reducible refine tbAny ?_); refine sub hpm ?_; decide) | split | (exact tbSel 7 (tb hpm (by decide)) ‹_› (by decide)) | (exact tbSel 8 (tb hpm (by decide)) ‹_› (by decide)) | (dsimp only))

theorem modLeg_within {pm : Nat} (hpm : pm &&& 0x20000000 = 0x20000000) (i : Nat) (f : LegRec → LegRec) :
    (modLeg i f).Within pm := by
  unfold modLeg
  repeat' (first | (with_reducible (first | assumption | exact within_skip | exact within_nil | apply within_cons | apply modChart_within))
                   | (with_reducible intro _) | ((with_reducible refine sub hpm ?_); decide) | ((with_reducible refine tb hpm ?_); first | decide | (exact rfl) | (dsimp only [Eff.part]; decide)) | ((with_reducible refine tbAny ?_); refine sub hpm ?_; decide) | split | (exact tbSel 7 (tb hpm (by decide)) ‹_› (by decide)) | (exact tbSel 8 (tb hpm (by decide)) ‹_› (by decide)) | (dsimp only))

theorem modConvOf_within {pm : Nat} (hpm : pm &&& 0x80000000 = 0x80000000) (c : Nat) (f : Conv → Conv) :
    (modConvOf c f).Within pm := by
  unfold modConvOf
  repeat' (first | (with_reducible (first | assumption | exact within_skip | exact within_nil | apply within_cons | apply within_ite | apply modConv_within))
                   | (with_reducible intro _) | ((with_reducible refine sub hpm ?_); decide) | ((with_reducible refine tb hpm ?_); first | decide | (exact rfl) | (dsimp only [Eff.part]; decide)) | ((with_reducible refine tbAny ?_); refine sub hpm ?_; decide) | split | (exact tbSel 7 (tb hpm (by decide)) ‹_› (by decide)) | (exact tbSel 8 (tb hpm (by decide)) ‹_› (by decide)) | (dsimp only))

theorem modPipe_within {pm : Nat} (hpm : pm &&& 0x80000000 = 0x80000000) (node pipe : Nat) (f : PipeCtx → PipeCtx) :
    (modPipe node pipe f).Within pm := by
  unfold modPipe
  repeat' (first | (with_reducible (first | assumption | exact within_skip | exact within_nil | apply within_cons | apply modConv_within))
                   | (with_reducible intro _) | ((with_reducible refine sub hpm ?_); decide) | ((with_reducible refine tb hpm ?_); first | decide | (exact rfl) | (dsimp only [Eff.part]; decide)) | ((with_reducible refine tbAny ?_); refine sub hpm ?_; decide) | split | (exact tbSel 7 (tb hpm (by decide)) ‹_› (by decide)) | (exact tbSel 8 (tb hpm (by decide)) ‹_› (by decide)) | (dsimp only))

theorem modDev_within {pm : Nat} (hpm : pm &&& 0x100000000 = 0x100000000) (d : Nat) (f : NodeDev → NodeDev) :
    (modDev d f).Within pm := by
  unfold modDev
  repeat' (first | (with_reducible (first | assumption | exact within_skip | exact within_nil | apply within_cons | apply within_read | apply within_eff))
                   | (with_reducible intro _) | ((with_reducible refine sub hpm ?_); decide) | ((with_reducible refine tb hpm ?_); first | decide | (exact rfl) | (dsimp only [Eff.part]; decide)) | ((with_reducible refine tbAny ?_); refine sub hpm ?_; decide) | split | (exact tbSel 7 (tb hpm (by decide)) ‹_› (by decide)) | (exact tbSel 8 (tb hpm (by decide)) ‹_› (by decide)) | (dsimp only))

theorem modFix_within {pm : Nat} (hpm : pm &&& 0x10000000 = 0x10000000) (l : Nat) (f : LinkFix → LinkFix) :
    (modFix l f).Within pm := by
  unfold modFix
  repeat' (first | (with_reducible (first | assumption | exact within_skip | exact within_nil | apply within_cons | apply within_read | apply within_eff))
                   | (with_reducible intro _) | ((with_reducible refine sub hpm ?_); decide) | ((with_reducible refine tb hpm ?_); first | decide | (exact rfl) | (dsimp only [Eff.part]; decide)) | ((with_reducible refine tbAny ?_); refine sub hpm ?_; decide) | split | (exact tbSel 7 (tb hpm (by decide)) ‹_› (by decide)) | (exact tbSel 8 (tb hpm (by decide)) ‹_› (by decide)) | (dsimp only))

theorem modCmd_within {pm : Nat} (hpm : pm &&& 0x1000000 = 0x1000000) (tag : Nat) (f : Cmd → Cmd) :
    (modCmd tag f).Within pm := by
  unfold modCmd
  repeat' (first | (with_reducible (first | assumption | exact within_skip | exact within_nil | apply within_cons | apply within_ite | apply modQ_within))
                   | (with_reducible intro _) | ((with_reducible refine sub hpm ?_); decide) | ((with_reducible refine tb hpm ?_); first | decide | (exact rfl) | (dsimp only [Eff.part]; decide)) | ((with_reducible refine tbAny ?_); refine sub hpm ?_; decide) | split | (exact tbSel 7 (tb hpm (by decide)) ‹_› (by decide)) | (exact tbSel 8 (tb hpm (by decide)) ‹_› (by decide)) | (dsimp only))

end Sys2Proof.Machine
end

