-- ==== Sys2Proof/Laws/Events.lean ====
section
/-! SUPPORT. What each program of Machine/Events.lean can change, as a set of parts (Laws/Within.lean); for a command, of its meaning. -/

set_option linter.all false
set_option maxRecDepth 20000

namespace Sys2Proof.Machine

theorem putBit_within {pm : Nat} (hpm : pm &&& 0x0 = 0x0) (f : Field) (b : Nat) (v : Bool) (hyp_f : pm.testBit (blockOf f.row) = true) :
    (putBit f b v).Within pm := by
  unfold putBit
  repeat' (first | (with_reducible (first | assumption | exact within_skip | exact within_nil | apply within_cons | apply within_ite | apply within_read | apply within_putN))
                   | (with_reducible intro _) | ((with_reducible refine sub hpm ?_); decide) | ((with_reducible refine tb hpm ?_); first | decide | (exact rfl) | (dsimp only [Eff.part]; decide)) | ((with_reducible refine tbAny ?_); refine sub hpm ?_; decide) | split | (exact tbSel 7 (tb hpm (by decide)) ‹_› (by decide)) | (exact tbSel 8 (tb hpm (by decide)) ‹_› (by decide)) | (dsimp only))

theorem sendMsix_within {pm : Nat} (hpm : pm &&& 0x400400 = 0x400400) (k : Nat) :
    (sendMsix k).Within pm := by
  unfold sendMsix
  repeat' (first | (with_reducible (first | assumption | exact within_skip | exact within_nil | apply within_cons | apply within_read | apply within_countUp | apply within_emit))
                   | (with_reducible intro _) | ((with_reducible refine sub hpm ?_); decide) | ((with_reducible refine tb hpm ?_); first | decide | (exact rfl) | (dsimp only [Eff.part]; decide)) | ((with_reducible refine tbAny ?_); refine sub hpm ?_; decide) | split | (exact tbSel 7 (tb hpm (by decide)) ‹_› (by decide)) | (exact tbSel 8 (tb hpm (by decide)) ‹_› (by decide)) | (dsimp only))

theorem vectorStops_within {pm : Nat} (hpm : pm &&& 0x4000400 = 0x4000400) (k : Nat) :
    (vectorStops k).Within pm := by
  unfold vectorStops
  repeat' (first | (with_reducible (first | assumption | exact within_skip | exact within_nil | apply within_cons | apply within_clear | apply modIcu_within))
                   | (with_reducible intro _) | ((with_reducible refine sub hpm ?_); decide) | ((with_reducible refine tb hpm ?_); first | decide | (exact rfl) | (dsimp only [Eff.part]; decide)) | ((with_reducible refine tbAny ?_); refine sub hpm ?_; decide) | split | (exact tbSel 7 (tb hpm (by decide)) ‹_› (by decide)) | (exact tbSel 8 (tb hpm (by decide)) ‹_› (by decide)) | (dsimp only))

theorem fireVector_within {pm : Nat} (hpm : pm &&& 0x4400400 = 0x4400400) (k : Nat) :
    (fireVector k).Within pm := by
  unfold fireVector
  repeat' (first | (with_reducible (first | assumption | exact within_skip | exact within_nil | apply within_cons | apply within_ite | apply within_read | apply within_raise | apply sendMsix_within | apply vectorStops_within))
                   | (with_reducible intro _) | ((with_reducible refine sub hpm ?_); decide) | ((with_reducible refine tb hpm ?_); first | decide | (exact rfl) | (dsimp only [Eff.part]; decide)) | ((with_reducible refine tbAny ?_); refine sub hpm ?_; decide) | split | (exact tbSel 7 (tb hpm (by decide)) ‹_› (by decide)) | (exact tbSel 8 (tb hpm (by decide)) ‹_› (by decide)) | (dsimp only))

theorem hostCause_within {pm : Nat} (hpm : pm &&& 0x4400400 = 0x4400400) (fn vec : Nat) :
    (hostCause fn vec).Within pm := by
  unfold hostCause
  repeat' (first | (with_reducible (first | assumption | exact within_skip | exact within_nil | apply within_cons | apply within_whenP | apply within_ite | apply within_read | apply within_raise | apply within_countUp | apply fireVector_within | apply modIcu_within))
                   | (with_reducible intro _) | ((with_reducible refine sub hpm ?_); decide) | ((with_reducible refine tb hpm ?_); first | decide | (exact rfl) | (dsimp only [Eff.part]; decide)) | ((with_reducible refine tbAny ?_); refine sub hpm ?_; decide) | split | (exact tbSel 7 (tb hpm (by decide)) ‹_› (by decide)) | (exact tbSel 8 (tb hpm (by decide)) ‹_› (by decide)) | (dsimp only))

theorem errCause_within {pm : Nat} (hpm : pm &&& 0x4400400 = 0x4400400) (f : Field) (i : Nat) (hyp_f : pm.testBit (blockOf f.row) = true) :
    (errCause f i).Within pm := by
  unfold errCause
  repeat' (first | (with_reducible (first | assumption | exact within_skip | exact within_nil | apply within_cons | apply within_whenP | apply within_read | apply within_raise | apply hostCause_within))
                   | (with_reducible intro _) | ((with_reducible refine sub hpm ?_); decide) | ((with_reducible refine tb hpm ?_); first | decide | (exact rfl) | (dsimp only [Eff.part]; decide)) | ((with_reducible refine tbAny ?_); refine sub hpm ?_; decide) | split | (exact tbSel 7 (tb hpm (by decide)) ‹_› (by decide)) | (exact tbSel 8 (tb hpm (by decide)) ‹_› (by decide)) | (dsimp only))

theorem setPending_within {pm : Nat} (hpm : pm &&& 0x4400600 = 0x4400600) (src : Nat) :
    (setPending src).Within pm := by
  unfold setPending
  repeat' (first | (with_reducible (first | assumption | exact within_skip | exact within_nil | apply within_cons | apply within_whenP | apply within_read | apply hostCause_within | apply putBit_within))
                   | (with_reducible intro _) | ((with_reducible refine sub hpm ?_); decide) | ((with_reducible refine tb hpm ?_); first | decide | (exact rfl) | (dsimp only [Eff.part]; decide)) | ((with_reducible refine tbAny ?_); refine sub hpm ?_; decide) | split | (exact tbSel 7 (tb hpm (by decide)) ‹_› (by decide)) | (exact tbSel 8 (tb hpm (by decide)) ‹_› (by decide)) | (dsimp only))

theorem icuEdge_within {pm : Nat} (hpm : pm &&& 0x4400600 = 0x4400600) (src : Nat) :
    (icuEdge src).Within pm := by
  unfold icuEdge
  repeat' (first | (with_reducible (first | assumption | exact within_skip | exact within_nil | apply within_cons | apply within_ite | apply within_read | apply within_countUp | apply modIcu_within | apply setPending_within))
                   | (with_reducible intro _) | ((with_reducible refine sub hpm ?_); decide) | ((with_reducible refine tb hpm ?_); first | decide | (exact rfl) | (dsimp only [Eff.part]; decide)) | ((with_reducible refine tbAny ?_); refine sub hpm ?_; decide) | split | (exact tbSel 7 (tb hpm (by decide)) ‹_› (by decide)) | (exact tbSel 8 (tb hpm (by decide)) ‹_› (by decide)) | (dsimp only))

theorem icuSample_within {pm : Nat} (hpm : pm &&& 0x4400600 = 0x4400600) (src : Nat) :
    (icuSample src).Within pm := by
  unfold icuSample
  repeat' (first | (with_reducible (first | assumption | exact within_skip | exact within_nil | apply within_cons | apply within_whenP | apply within_ite | apply within_read | apply within_put | apply putBit_within | apply setPending_within))
                   | (with_reducible intro _) | ((with_reducible refine sub hpm ?_); decide) | ((with_reducible refine tb hpm ?_); first | decide | (exact rfl) | (dsimp only [Eff.part]; decide)) | ((with_reducible refine tbAny ?_); refine sub hpm ?_; decide) | split | (exact tbSel 7 (tb hpm (by decide)) ‹_› (by decide)) | (exact tbSel 8 (tb hpm (by decide)) ‹_› (by decide)) | (dsimp only))

theorem legPulse_within {pm : Nat} (hpm : pm &&& 0x4400600 = 0x4400600) (i : Nat) :
    (legPulse i).Within pm := by
  unfold legPulse
  repeat' (first | (with_reducible (first | assumption | exact within_skip | exact within_nil | apply within_cons | apply within_forP | apply within_read | apply icuEdge_within))
                   | (with_reducible intro _) | ((with_reducible refine sub hpm ?_); decide) | ((with_reducible refine tb hpm ?_); first | decide | (exact rfl) | (dsimp only [Eff.part]; decide)) | ((with_reducible refine tbAny ?_); refine sub hpm ?_; decide) | split | (exact tbSel 7 (tb hpm (by decide)) ‹_› (by decide)) | (exact tbSel 8 (tb hpm (by decide)) ‹_› (by decide)) | (dsimp only))

theorem refreshFault_within {pm : Nat} (hpm : pm &&& 0x40000440000 = 0x40000440000)  :
    (refreshFault).Within pm := by
  unfold refreshFault
  repeat' (first | (with_reducible (first | assumption | exact within_skip | exact within_nil | apply within_cons | apply within_whenP | apply within_ite | apply within_read | apply within_put | apply within_emit | apply modBoot_within))
                   | (with_reducible intro _) | ((with_reducible refine sub hpm ?_); decide) | ((with_reducible refine tb hpm ?_); first | decide | (exact rfl) | (dsimp only [Eff.part]; decide)) | ((with_reducible refine tbAny ?_); refine sub hpm ?_; decide) | split | (exact tbSel 7 (tb hpm (by decide)) ‹_› (by decide)) | (exact tbSel 8 (tb hpm (by decide)) ‹_› (by decide)) | (dsimp only))

theorem aerLog_within {pm : Nat} (hpm : pm &&& 0x40200440000 = 0x40200440000) (fn err : Nat) :
    (aerLog fn err).Within pm := by
  unfold aerLog
  repeat' (first | (with_reducible (first | assumption | exact within_skip | exact within_nil | apply within_cons | apply within_whenP | apply within_ite | apply within_read | apply within_raise | apply within_emit | apply modFn_within | apply refreshFault_within))
                   | (with_reducible intro _) | ((with_reducible refine sub hpm ?_); decide) | ((with_reducible refine tb hpm ?_); first | decide | (exact rfl) | (dsimp only [Eff.part]; decide)) | ((with_reducible refine tbAny ?_); refine sub hpm ?_; decide) | split | (exact tbSel 7 (tb hpm (by decide)) ‹_› (by decide)) | (exact tbSel 8 (tb hpm (by decide)) ‹_› (by decide)) | (dsimp only))

theorem requestFailed_within {pm : Nat} (hpm : pm &&& 0x40200440000 = 0x40200440000) (fn how : Nat) :
    (requestFailed fn how).Within pm := by
  unfold requestFailed
  repeat' (first | (with_reducible (first | assumption | exact within_skip | exact within_nil | apply within_cons | apply within_whenP | apply within_ite | apply aerLog_within))
                   | (with_reducible intro _) | ((with_reducible refine sub hpm ?_); decide) | ((with_reducible refine tb hpm ?_); first | decide | (exact rfl) | (dsimp only [Eff.part]; decide)) | ((with_reducible refine tbAny ?_); refine sub hpm ?_; decide) | split | (exact tbSel 7 (tb hpm (by decide)) ‹_› (by decide)) | (exact tbSel 8 (tb hpm (by decide)) ‹_› (by decide)) | (dsimp only))

theorem barRequest_within {pm : Nat} (hpm : pm &&& 0x40200440000 = 0x40200440000) (fn : Nat) (p : Prog) (hyp_p : p.Within pm) :
    (barRequest fn p).Within pm := by
  unfold barRequest
  repeat' (first | (with_reducible (first | assumption | exact within_skip | exact within_nil | apply within_cons | apply within_ite | apply within_read | apply within_emit | apply aerLog_within))
                   | (with_reducible intro _) | ((with_reducible refine sub hpm ?_); decide) | ((with_reducible refine tb hpm ?_); first | decide | (exact rfl) | (dsimp only [Eff.part]; decide)) | ((with_reducible refine tbAny ?_); refine sub hpm ?_; decide) | split | (exact tbSel 7 (tb hpm (by decide)) ‹_› (by decide)) | (exact tbSel 8 (tb hpm (by decide)) ‹_› (by decide)) | (dsimp only))

theorem domainUp_within {pm : Nat} (hpm : pm &&& 0x7fffffffffff = 0x7fffffffffff) (d : Nat) (access : Bool) :
    (domainUp d access).Within pm := by
  unfold domainUp
  repeat' (first | (with_reducible (first | assumption | exact within_skip | exact within_nil | apply within_cons | apply within_whenP | apply within_read | apply access_within | apply modPwr_within | apply putFlag_within))
                   | (with_reducible intro _) | ((with_reducible refine sub hpm ?_); decide) | ((with_reducible refine tb hpm ?_); first | decide | (exact rfl) | (dsimp only [Eff.part]; decide)) | ((with_reducible refine tbAny ?_); refine sub hpm ?_; decide) | split | (exact tbSel 7 (tb hpm (by decide)) ‹_› (by decide)) | (exact tbSel 8 (tb hpm (by decide)) ‹_› (by decide)) | (dsimp only))

theorem history_within {m : Nat} (hm : m &&& 0x1000 = 0x1000) (left reached cause flags : Nat) :
    (history left reached cause flags).Within m := by
  have h : ∀ f ∈ [Fld.PWR_HISTORY.FROM, Fld.PWR_HISTORY.TO, Fld.PWR_HISTORY.CAUSE, Fld.PWR_HISTORY.FLAGS,
      Fld.PWR_HISTORY.TIME], blockOf f.row = 12 := by decide
  have h12 : m.testBit 12 = true := tb hm (by decide)
  refine within_read fun s => within_cons (within_forP fun k => within_forP_mem fun f hf => within_putN (by rw [h f hf]; exact h12)) ?_
  exact within_cons h12 (within_cons h12 (within_cons h12 (within_cons h12 (within_cons h12 within_nil))))

theorem leaveS1_within {pm : Nat} (hpm : pm &&& 0x1000 = 0x1000) (cause : Nat) :
    (leaveS1 cause).Within pm := by
  unfold leaveS1
  repeat' (first | (with_reducible (first | assumption | exact within_skip | exact within_nil | apply within_cons | apply within_put | apply within_raise | apply within_clear | apply history_within))
                   | (with_reducible intro _) | ((with_reducible refine sub hpm ?_); decide) | ((with_reducible refine tb hpm ?_); first | decide | (exact rfl) | (dsimp only [Eff.part]; decide)) | ((with_reducible refine tbAny ?_); refine sub hpm ?_; decide) | split | (exact tbSel 7 (tb hpm (by decide)) ‹_› (by decide)) | (exact tbSel 8 (tb hpm (by decide)) ‹_› (by decide)) | (dsimp only))

theorem returnS1_within {pm : Nat} (hpm : pm &&& 0x10000001000 = 0x10000001000) (cause : Nat) :
    (returnS1 cause).Within pm := by
  unfold returnS1
  repeat' (first | (with_reducible (first | assumption | exact within_skip | exact within_nil | apply within_cons | apply within_whenP | apply within_ite | apply within_read | apply leaveS1_within | apply modPwr_within))
                   | (with_reducible intro _) | ((with_reducible refine sub hpm ?_); decide) | ((with_reducible refine tb hpm ?_); first | decide | (exact rfl) | (dsimp only [Eff.part]; decide)) | ((with_reducible refine tbAny ?_); refine sub hpm ?_; decide) | split | (exact tbSel 7 (tb hpm (by decide)) ‹_› (by decide)) | (exact tbSel 8 (tb hpm (by decide)) ‹_› (by decide)) | (dsimp only))

theorem hostWrite_within {pm : Nat} (hpm : pm &&& 0x50200445000 = 0x50200445000) (fn : Nat) (wakes always : Bool) (p : Prog) (hyp_p : p.Within pm) :
    (hostWrite fn wakes always p).Within pm := by
  unfold hostWrite
  repeat' (first | (with_reducible (first | assumption | exact within_skip | exact within_nil | apply within_cons | apply within_whenP | apply within_ite | apply within_read | apply within_raise | apply barRequest_within | apply returnS1_within))
                   | (with_reducible intro _) | ((with_reducible refine sub hpm ?_); decide) | ((with_reducible refine tb hpm ?_); first | decide | (exact rfl) | (dsimp only [Eff.part]; decide)) | ((with_reducible refine tbAny ?_); refine sub hpm ?_; decide) | split | (exact tbSel 7 (tb hpm (by decide)) ‹_› (by decide)) | (exact tbSel 8 (tb hpm (by decide)) ‹_› (by decide)) | (dsimp only))

theorem hostPut_within {pm : Nat} (hpm : pm &&& 0x100000 = 0x100000) (addr : Nat) (bs : List Byte) :
    (hostPut addr bs).Within pm := by
  unfold hostPut
  repeat' (first | (with_reducible (first | assumption | exact within_skip | exact within_nil | apply within_cons | apply within_eff))
                   | (with_reducible intro _) | ((with_reducible refine sub hpm ?_); decide) | ((with_reducible refine tb hpm ?_); first | decide | (exact rfl) | (dsimp only [Eff.part]; decide)) | ((with_reducible refine tbAny ?_); refine sub hpm ?_; decide) | split | (exact tbSel 7 (tb hpm (by decide)) ‹_› (by decide)) | (exact tbSel 8 (tb hpm (by decide)) ‹_› (by decide)) | (dsimp only))

theorem usePasid_within {pm : Nat} (hpm : pm &&& 0x40000 = 0x40000) (pasid : Bool) :
    (usePasid pasid).Within pm := by
  unfold usePasid
  repeat' (first | (with_reducible (first | assumption | exact within_skip | exact within_nil | apply within_cons | apply within_whenP | apply within_read | apply within_raise))
                   | (with_reducible intro _) | ((with_reducible refine sub hpm ?_); decide) | ((with_reducible refine tb hpm ?_); first | decide | (exact rfl) | (dsimp only [Eff.part]; decide)) | ((with_reducible refine tbAny ?_); refine sub hpm ?_; decide) | split | (exact tbSel 7 (tb hpm (by decide)) ‹_› (by decide)) | (exact tbSel 8 (tb hpm (by decide)) ‹_› (by decide)) | (dsimp only))

theorem hostWriteAs_within {pm : Nat} (hpm : pm &&& 0x540000 = 0x540000) (fn : Nat) (pasid : Option Nat) (addr : Nat) (bs : List Byte) :
    (hostWriteAs fn pasid addr bs).Within pm := by
  unfold hostWriteAs
  repeat' (first | (with_reducible (first | assumption | exact within_skip | exact within_nil | apply within_cons | apply within_forP | apply within_read | apply within_emit | apply hostPut_within | apply usePasid_within))
                   | (with_reducible intro _) | ((with_reducible refine sub hpm ?_); decide) | ((with_reducible refine tb hpm ?_); first | decide | (exact rfl) | (dsimp only [Eff.part]; decide)) | ((with_reducible refine tbAny ?_); refine sub hpm ?_; decide) | split | (exact tbSel 7 (tb hpm (by decide)) ‹_› (by decide)) | (exact tbSel 8 (tb hpm (by decide)) ‹_› (by decide)) | (dsimp only))

theorem hostRead_within {pm : Nat} (hpm : pm &&& 0x440000 = 0x440000) (fn : Nat) (pasid : Option Nat) (addr len : Nat) :
    (hostRead fn pasid addr len).Within pm := by
  unfold hostRead
  repeat' (first | (with_reducible (first | assumption | exact within_skip | exact within_nil | apply within_cons | apply within_forP | apply within_ite | apply within_read | apply within_emit | apply usePasid_within))
                   | (with_reducible intro _) | ((with_reducible refine sub hpm ?_); decide) | ((with_reducible refine tb hpm ?_); first | decide | (exact rfl) | (dsimp only [Eff.part]; decide)) | ((with_reducible refine tbAny ?_); refine sub hpm ?_; decide) | split | (exact tbSel 7 (tb hpm (by decide)) ‹_› (by decide)) | (exact tbSel 8 (tb hpm (by decide)) ‹_› (by decide)) | (dsimp only))

theorem npStall_within {pm : Nat} (hpm : pm &&& 0x40 = 0x40)  :
    (npStall).Within pm := by
  unfold npStall
  repeat' (first | (with_reducible (first | assumption | exact within_skip | exact within_nil | apply within_cons | apply within_raise | apply within_countUp))
                   | (with_reducible intro _) | ((with_reducible refine sub hpm ?_); decide) | ((with_reducible refine tb hpm ?_); first | decide | (exact rfl) | (dsimp only [Eff.part]; decide)) | ((with_reducible refine tbAny ?_); refine sub hpm ?_; decide) | split | (exact tbSel 7 (tb hpm (by decide)) ‹_› (by decide)) | (exact tbSel 8 (tb hpm (by decide)) ‹_› (by decide)) | (dsimp only))

theorem chanIssue_within {pm : Nat} (hpm : pm &&& 0x8000440000 = 0x8000440000) (c : Nat) :
    (chanIssue c).Within pm := by
  unfold chanIssue
  repeat' (first | (with_reducible (first | assumption | exact within_skip | exact within_nil | apply within_cons | apply within_whenP | apply within_read | apply hostRead_within | apply modChan_within))
                   | (with_reducible intro _) | ((with_reducible refine sub hpm ?_); decide) | ((with_reducible refine tb hpm ?_); first | decide | (exact rfl) | (dsimp only [Eff.part]; decide)) | ((with_reducible refine tbAny ?_); refine sub hpm ?_; decide) | split | (exact tbSel 7 (tb hpm (by decide)) ‹_› (by decide)) | (exact tbSel 8 (tb hpm (by decide)) ‹_› (by decide)) | (dsimp only))

theorem refreshDma_within {pm : Nat} (hpm : pm &&& 0x8000440040 = 0x8000440040)  :
    (refreshDma).Within pm := by
  unfold refreshDma
  repeat' (first | (with_reducible (first | assumption | exact within_skip | exact within_nil | apply within_cons | apply within_forP | apply within_read | apply within_put | apply chanIssue_within))
                   | (with_reducible intro _) | ((with_reducible refine sub hpm ?_); decide) | ((with_reducible refine tb hpm ?_); first | decide | (exact rfl) | (dsimp only [Eff.part]; decide)) | ((with_reducible refine tbAny ?_); refine sub hpm ?_; decide) | split | (exact tbSel 7 (tb hpm (by decide)) ‹_› (by decide)) | (exact tbSel 8 (tb hpm (by decide)) ‹_› (by decide)) | (dsimp only))

theorem chanAsk_within {pm : Nat} (hpm : pm &&& 0x8000440040 = 0x8000440040) (c : Nat) :
    (chanAsk c).Within pm := by
  unfold chanAsk
  repeat' (first | (with_reducible (first | assumption | exact within_skip | exact within_nil | apply within_cons | apply within_whenP | apply within_read | apply modChan_within | apply npStall_within | apply refreshDma_within))
                   | (with_reducible intro _) | ((with_reducible refine sub hpm ?_); decide) | ((with_reducible refine tb hpm ?_); first | decide | (exact rfl) | (dsimp only [Eff.part]; decide)) | ((with_reducible refine tbAny ?_); refine sub hpm ?_; decide) | split | (exact tbSel 7 (tb hpm (by decide)) ‹_› (by decide)) | (exact tbSel 8 (tb hpm (by decide)) ‹_› (by decide)) | (dsimp only))

theorem logPage_within {pm : Nat} (hpm : pm &&& 0x6540500 = 0x6540500) (i path : Nat) (pasid : Bool) (page : Nat) :
    (logPage i path pasid page).Within pm := by
  unfold logPage
  repeat' (first | (with_reducible (first | assumption | exact within_skip | exact within_nil | apply within_cons | apply within_ite | apply within_read | apply within_raise | apply within_countUp | apply errCause_within | apply hostWriteAs_within | apply modIns_within))
                   | (with_reducible intro _) | ((with_reducible refine sub hpm ?_); decide) | ((with_reducible refine tb hpm ?_); first | decide | (exact rfl) | (dsimp only [Eff.part]; decide)) | ((with_reducible refine tbAny ?_); refine sub hpm ?_; decide) | split | (exact tbSel 7 (tb hpm (by decide)) ‹_› (by decide)) | (exact tbSel 8 (tb hpm (by decide)) ‹_› (by decide)) | (dsimp only))

theorem insWrite_within {pm : Nat} (hpm : pm &&& 0x6540500 = 0x6540500) (i path : Nat) (pasid : Option Nat) (addr : Nat) (bs : List Byte) :
    (insWrite i path pasid addr bs).Within pm := by
  unfold insWrite
  repeat' (first | (with_reducible (first | assumption | exact within_skip | exact within_nil | apply within_cons | apply within_forP | apply within_ite | apply within_read | apply within_countUp | apply hostWriteAs_within | apply logPage_within))
                   | (with_reducible intro _) | ((with_reducible refine sub hpm ?_); decide) | ((with_reducible refine tb hpm ?_); first | decide | (exact rfl) | (dsimp only [Eff.part]; decide)) | ((with_reducible refine tbAny ?_); refine sub hpm ?_; decide) | split | (exact tbSel 7 (tb hpm (by decide)) ‹_› (by decide)) | (exact tbSel 8 (tb hpm (by decide)) ‹_› (by decide)) | (dsimp only))

theorem refreshCq_within {pm : Nat} (hpm : pm &&& 0x80 = 0x80) (c : Nat) :
    (refreshCq c).Within pm := by
  unfold refreshCq
  repeat' (first | (with_reducible (first | assumption | exact within_skip | exact within_nil | apply within_cons | apply within_whenP | apply within_ite | apply within_read | apply within_putN | apply within_put | apply within_raise))
                   | (with_reducible intro _) | ((with_reducible refine sub hpm ?_); decide) | ((with_reducible refine tb hpm ?_); first | decide | (exact rfl) | (dsimp only [Eff.part]; decide)) | ((with_reducible refine tbAny ?_); refine sub hpm ?_; decide) | split | (exact tbSel 7 (tb hpm (by decide)) ‹_› (by decide)) | (exact tbSel 8 (tb hpm (by decide)) ‹_› (by decide)) | (dsimp only))

theorem insError_within {pm : Nat} (hpm : pm &&& 0x4400500 = 0x4400500) (i cause : Nat) :
    (insError i cause).Within pm := by
  unfold insError
  repeat' (first | (with_reducible (first | assumption | exact within_skip | exact within_nil | apply within_cons | apply within_whenP | apply within_read | apply within_putN | apply within_raise | apply errCause_within))
                   | (with_reducible intro _) | ((with_reducible refine sub hpm ?_); decide) | ((with_reducible refine tb hpm ?_); first | decide | (exact rfl) | (dsimp only [Eff.part]; decide)) | ((with_reducible refine tbAny ?_); refine sub hpm ?_; decide) | split | (exact tbSel 7 (tb hpm (by decide)) ‹_› (by decide)) | (exact tbSel 8 (tb hpm (by decide)) ‹_› (by decide)) | (dsimp only))

theorem cqError_within {pm : Nat} (hpm : pm &&& 0x4400580 = 0x4400580) (c kind idx : Nat) :
    (cqError c kind idx).Within pm := by
  unfold cqError
  repeat' (first | (with_reducible (first | assumption | exact within_skip | exact within_nil | apply within_cons | apply within_whenP | apply within_read | apply within_putN | apply within_raise | apply errCause_within | apply insError_within))
                   | (with_reducible intro _) | ((with_reducible refine sub hpm ?_); decide) | ((with_reducible refine tb hpm ?_); first | decide | (exact rfl) | (dsimp only [Eff.part]; decide)) | ((with_reducible refine tbAny ?_); refine sub hpm ?_; decide) | split | (exact tbSel 7 (tb hpm (by decide)) ‹_› (by decide)) | (exact tbSel 8 (tb hpm (by decide)) ‹_› (by decide)) | (dsimp only))

theorem sqError_within {pm : Nat} (hpm : pm &&& 0x4400480 = 0x4400480) (q kind idx : Nat) :
    (sqError q kind idx).Within pm := by
  unfold sqError
  repeat' (first | (with_reducible (first | assumption | exact within_skip | exact within_nil | apply within_cons | apply within_whenP | apply within_read | apply within_putN | apply within_raise | apply errCause_within))
                   | (with_reducible intro _) | ((with_reducible refine sub hpm ?_); decide) | ((with_reducible refine tb hpm ?_); first | decide | (exact rfl) | (dsimp only [Eff.part]; decide)) | ((with_reducible refine tbAny ?_); refine sub hpm ?_; decide) | split | (exact tbSel 7 (tb hpm (by decide)) ‹_› (by decide)) | (exact tbSel 8 (tb hpm (by decide)) ‹_› (by decide)) | (dsimp only))

theorem holdEntry_within {pm : Nat} (hpm : pm &&& 0x1000080 = 0x1000080) (c : Nat) (e : CqEntry) :
    (holdEntry c e).Within pm := by
  unfold holdEntry
  repeat' (first | (with_reducible (first | assumption | exact within_skip | exact within_nil | apply within_cons | apply modQ_within | apply refreshCq_within))
                   | (with_reducible intro _) | ((with_reducible refine sub hpm ?_); decide) | ((with_reducible refine tb hpm ?_); first | decide | (exact rfl) | (dsimp only [Eff.part]; decide)) | ((with_reducible refine tbAny ?_); refine sub hpm ?_; decide) | split | (exact tbSel 7 (tb hpm (by decide)) ‹_› (by decide)) | (exact tbSel 8 (tb hpm (by decide)) ‹_› (by decide)) | (dsimp only))

theorem postEntry_within {pm : Nat} (hpm : pm &&& 0x7540580 = 0x7540580) (c : Nat) (e : CqEntry) :
    (postEntry c e).Within pm := by
  unfold postEntry
  repeat' (first | (with_reducible (first | assumption | exact within_skip | exact within_nil | apply within_cons | apply within_whenP | apply within_ite | apply within_read | apply within_putN | apply cqError_within | apply holdEntry_within | apply hostCause_within | apply insWrite_within | apply refreshCq_within))
                   | (with_reducible intro _) | ((with_reducible refine sub hpm ?_); decide) | ((with_reducible refine tb hpm ?_); first | decide | (exact rfl) | (dsimp only [Eff.part]; decide)) | ((with_reducible refine tbAny ?_); refine sub hpm ?_; decide) | split | (exact tbSel 7 (tb hpm (by decide)) ‹_› (by decide)) | (exact tbSel 8 (tb hpm (by decide)) ‹_› (by decide)) | (dsimp only))

theorem loseEvent_within {pm : Nat} (hpm : pm &&& 0x1000080 = 0x1000080) (i : Nat) :
    (loseEvent i).Within pm := by
  unfold loseEvent
  repeat' (first | (with_reducible (first | assumption | exact within_skip | exact within_nil | apply within_cons | apply within_raise | apply modQ_within))
                   | (with_reducible intro _) | ((with_reducible refine sub hpm ?_); decide) | ((with_reducible refine tb hpm ?_); first | decide | (exact rfl) | (dsimp only [Eff.part]; decide)) | ((with_reducible refine tbAny ?_); refine sub hpm ?_; decide) | split | (exact tbSel 7 (tb hpm (by decide)) ‹_› (by decide)) | (exact tbSel 8 (tb hpm (by decide)) ‹_› (by decide)) | (dsimp only))

theorem postEvent_within {pm : Nat} (hpm : pm &&& 0x7540580 = 0x7540580) (i code detail : Nat) (status : Nat) :
    (postEvent i code detail status).Within pm := by
  unfold postEvent
  repeat' (first | (with_reducible (first | assumption | exact within_skip | exact within_nil | apply within_cons | apply within_ite | apply within_read | apply holdEntry_within | apply loseEvent_within | apply postEntry_within))
                   | (with_reducible intro _) | ((with_reducible refine sub hpm ?_); decide) | ((with_reducible refine tb hpm ?_); first | decide | (exact rfl) | (dsimp only [Eff.part]; decide)) | ((with_reducible refine tbAny ?_); refine sub hpm ?_; decide) | split | (exact tbSel 7 (tb hpm (by decide)) ‹_› (by decide)) | (exact tbSel 8 (tb hpm (by decide)) ‹_› (by decide)) | (dsimp only))

theorem postOverflow_within {pm : Nat} (hpm : pm &&& 0x7540580 = 0x7540580) (i : Nat) :
    (postOverflow i).Within pm := by
  unfold postOverflow
  repeat' (first | (with_reducible (first | assumption | exact within_skip | exact within_nil | apply within_cons | apply within_whenP | apply within_read | apply modQ_within | apply postEntry_within))
                   | (with_reducible intro _) | ((with_reducible refine sub hpm ?_); decide) | ((with_reducible refine tb hpm ?_); first | decide | (exact rfl) | (dsimp only [Eff.part]; decide)) | ((with_reducible refine tbAny ?_); refine sub hpm ?_; decide) | split | (exact tbSel 7 (tb hpm (by decide)) ‹_› (by decide)) | (exact tbSel 8 (tb hpm (by decide)) ‹_› (by decide)) | (dsimp only))

theorem freeTag_within {pm : Nat} (hpm : pm &&& 0x1000080 = 0x1000080) (tag : Nat) :
    (freeTag tag).Within pm := by
  unfold freeTag
  repeat' (first | (with_reducible (first | assumption | exact within_skip | exact within_nil | apply within_cons | apply within_ite | apply within_read | apply within_putN | apply within_countDown | apply modQ_within))
                   | (with_reducible intro _) | ((with_reducible refine sub hpm ?_); decide) | ((with_reducible refine tb hpm ?_); first | decide | (exact rfl) | (dsimp only [Eff.part]; decide)) | ((with_reducible refine tbAny ?_); refine sub hpm ?_; decide) | split | (exact tbSel 7 (tb hpm (by decide)) ‹_› (by decide)) | (exact tbSel 8 (tb hpm (by decide)) ‹_› (by decide)) | (dsimp only))

theorem deliver_within {pm : Nat} (hpm : pm &&& 0x7540580 = 0x7540580) (tag : Nat) (e : CqEntry) :
    (deliver tag e).Within pm := by
  unfold deliver
  repeat' (first | (with_reducible (first | assumption | exact within_skip | exact within_nil | apply within_cons | apply within_ite | apply within_read | apply within_countUp | apply freeTag_within | apply holdEntry_within | apply modCmd_within | apply postEntry_within | apply refreshCq_within))
                   | (with_reducible intro _) | ((with_reducible refine sub hpm ?_); decide) | ((with_reducible refine tb hpm ?_); first | decide | (exact rfl) | (dsimp only [Eff.part]; decide)) | ((with_reducible refine tbAny ?_); refine sub hpm ?_; decide) | split | (exact tbSel 7 (tb hpm (by decide)) ‹_› (by decide)) | (exact tbSel 8 (tb hpm (by decide)) ‹_› (by decide)) | (dsimp only))

theorem completeOne_within {pm : Nat} (hpm : pm &&& 0x7540580 = 0x7540580) (tag status result aux : Nat) :
    (completeOne tag status result aux).Within pm := by
  unfold completeOne
  repeat' (first | (with_reducible (first | assumption | exact within_skip | exact within_nil | apply within_cons | apply within_ite | apply within_read | apply deliver_within | apply freeTag_within))
                   | (with_reducible intro _) | ((with_reducible refine sub hpm ?_); decide) | ((with_reducible refine tb hpm ?_); first | decide | (exact rfl) | (dsimp only [Eff.part]; decide)) | ((with_reducible refine tbAny ?_); refine sub hpm ?_; decide) | split | (exact tbSel 7 (tb hpm (by decide)) ‹_› (by decide)) | (exact tbSel 8 (tb hpm (by decide)) ‹_› (by decide)) | (dsimp only))

theorem wakeIdle_within {pm : Nat} (hpm : pm &&& 0x7540580 = 0x7540580)  :
    (wakeIdle).Within pm := by
  unfold wakeIdle
  repeat' (first | (with_reducible (first | assumption | exact within_skip | exact within_nil | apply within_cons | apply within_whenP | apply within_forP | apply within_read | apply completeOne_within))
                   | (with_reducible intro _) | ((with_reducible refine sub hpm ?_); decide) | ((with_reducible refine tb hpm ?_); first | decide | (exact rfl) | (dsimp only [Eff.part]; decide)) | ((with_reducible refine tbAny ?_); refine sub hpm ?_; decide) | split | (exact tbSel 7 (tb hpm (by decide)) ‹_› (by decide)) | (exact tbSel 8 (tb hpm (by decide)) ‹_› (by decide)) | (dsimp only))

theorem complete_within {pm : Nat} (hpm : pm &&& 0x7540580 = 0x7540580) (tag status : Nat) (result : Nat) (aux : Nat) :
    (complete tag status result aux).Within pm := by
  unfold complete
  repeat' (first | (with_reducible (first | assumption | exact within_skip | exact within_nil | apply within_cons | apply within_seq | apply completeOne_within | apply wakeIdle_within))
                   | (with_reducible intro _) | ((with_reducible refine sub hpm ?_); decide) | ((with_reducible refine tb hpm ?_); first | decide | (exact rfl) | (dsimp only [Eff.part]; decide)) | ((with_reducible refine tbAny ?_); refine sub hpm ?_; decide) | split | (exact tbSel 7 (tb hpm (by decide)) ‹_› (by decide)) | (exact tbSel 8 (tb hpm (by decide)) ‹_› (by decide)) | (dsimp only))

theorem deliverBlocked_within {pm : Nat} (hpm : pm &&& 0x7540580 = 0x7540580)  :
    (deliverBlocked).Within pm := by
  unfold deliverBlocked
  repeat' (first | (with_reducible (first | assumption | exact within_skip | exact within_nil | apply within_cons | apply within_forP | apply within_read | apply deliver_within))
                   | (with_reducible intro _) | ((with_reducible refine sub hpm ?_); decide) | ((with_reducible refine tb hpm ?_); first | decide | (exact rfl) | (dsimp only [Eff.part]; decide)) | ((with_reducible refine tbAny ?_); refine sub hpm ?_; decide) | split | (exact tbSel 7 (tb hpm (by decide)) ‹_› (by decide)) | (exact tbSel 8 (tb hpm (by decide)) ‹_› (by decide)) | (dsimp only))

theorem drainCq_within {pm : Nat} (hpm : pm &&& 0x7540580 = 0x7540580) (c : Nat) :
    (drainCq c).Within pm := by
  unfold drainCq
  repeat' (first | (with_reducible (first | assumption | exact within_skip | exact within_nil | apply within_cons | apply within_whenP | apply within_forP | apply within_read | apply deliverBlocked_within | apply modQ_within | apply postEntry_within | apply postOverflow_within | apply refreshCq_within | apply wakeIdle_within))
                   | (with_reducible intro _) | ((with_reducible refine sub hpm ?_); decide) | ((with_reducible refine tb hpm ?_); first | decide | (exact rfl) | (dsimp only [Eff.part]; decide)) | ((with_reducible refine tbAny ?_); refine sub hpm ?_; decide) | split | (exact tbSel 7 (tb hpm (by decide)) ‹_› (by decide)) | (exact tbSel 8 (tb hpm (by decide)) ‹_› (by decide)) | (dsimp only))

end Sys2Proof.Machine
end

