-- ==== Sys2Proof/Laws/Halt.lean ====
section
/-! SUPPORT. What each program of Machine/Halt.lean can change, as a set of parts (Laws/Within.lean); for a command, of its meaning. -/

set_option linter.all false
set_option maxRecDepth 20000

namespace Sys2Proof.Machine

theorem refreshHalt_within {pm : Nat} (hpm : pm &&& 0x4000404000 = 0x4000404000)  :
    (refreshHalt).Within pm := by
  unfold refreshHalt
  repeat' (first | (with_reducible (first | assumption | exact within_skip | exact within_nil | apply within_cons | apply within_whenP | apply within_ite | apply within_read | apply within_putN | apply within_put | apply within_emit | apply modHalt_within))
                   | (with_reducible intro _) | ((with_reducible refine sub hpm ?_); decide) | ((with_reducible refine tb hpm ?_); first | decide | (exact rfl) | (dsimp only [Eff.part]; decide)) | ((with_reducible refine tbAny ?_); refine sub hpm ?_; decide) | split | (exact tbSel 7 (tb hpm (by decide)) ‹_› (by decide)) | (exact tbSel 8 (tb hpm (by decide)) ‹_› (by decide)) | (dsimp only))

theorem haltCause_within {pm : Nat} (hpm : pm &&& 0x4000404000 = 0x4000404000) (b : Nat) (v : Bool) :
    (haltCause b v).Within pm := by
  unfold haltCause
  repeat' (first | (with_reducible (first | assumption | exact within_skip | exact within_nil | apply within_cons | apply within_whenP | apply within_ite | apply within_read | apply within_put | apply refreshHalt_within))
                   | (with_reducible intro _) | ((with_reducible refine sub hpm ?_); decide) | ((with_reducible refine tb hpm ?_); first | decide | (exact rfl) | (dsimp only [Eff.part]; decide)) | ((with_reducible refine tbAny ?_); refine sub hpm ?_; decide) | split | (exact tbSel 7 (tb hpm (by decide)) ‹_› (by decide)) | (exact tbSel 8 (tb hpm (by decide)) ‹_› (by decide)) | (dsimp only))

end Sys2Proof.Machine
end

