-- ==== Sys2Proof/Laws/Interrupts.lean ====
section
/-! SUPPORT. What each program of Machine/Interrupts.lean can change, as a set of parts (Laws/Within.lean); for a command, of its meaning. -/

set_option linter.all false
set_option maxRecDepth 20000

namespace Sys2Proof.Machine

theorem advanceTo_within {pm : Nat} (hpm : pm &&& 0x8000000 = 0x8000000) (ns : Nat) :
    (advanceTo ns).Within pm := by
  unfold advanceTo
  repeat' (first | (with_reducible (first | assumption | exact within_skip | exact within_nil | apply within_cons | apply within_whenP | apply within_read | apply modChr_within))
                   | (with_reducible intro _) | ((with_reducible refine sub hpm ?_); decide) | ((with_reducible refine tb hpm ?_); first | decide | (exact rfl) | (dsimp only [Eff.part]; decide)) | ((with_reducible refine tbAny ?_); refine sub hpm ?_; decide) | split | (exact tbSel 7 (tb hpm (by decide)) ‹_› (by decide)) | (exact tbSel 8 (tb hpm (by decide)) ‹_› (by decide)) | (dsimp only))

theorem advanceFine_within {pm : Nat} (hpm : pm &&& 0x8000000 = 0x8000000) (t : Nat) :
    (advanceFine t).Within pm := by
  unfold advanceFine
  repeat' (first | (with_reducible (first | assumption | exact within_skip | exact within_nil | apply within_cons | apply within_whenP | apply within_read | apply modChr_within))
                   | (with_reducible intro _) | ((with_reducible refine sub hpm ?_); decide) | ((with_reducible refine tb hpm ?_); first | decide | (exact rfl) | (dsimp only [Eff.part]; decide)) | ((with_reducible refine tbAny ?_); refine sub hpm ?_; decide) | split | (exact tbSel 7 (tb hpm (by decide)) ‹_› (by decide)) | (exact tbSel 8 (tb hpm (by decide)) ‹_› (by decide)) | (dsimp only))

theorem atNs_within {pm : Nat} (hpm : pm &&& 0x8000000 = 0x8000000) (ns : Nat) (p : Prog) (hyp_p : p.Within pm) :
    (atNs ns p).Within pm := by
  unfold atNs
  repeat' (first | (with_reducible (first | assumption | exact within_skip | exact within_nil | apply within_cons | apply within_whenP | apply within_read | apply advanceTo_within))
                   | (with_reducible intro _) | ((with_reducible refine sub hpm ?_); decide) | ((with_reducible refine tb hpm ?_); first | decide | (exact rfl) | (dsimp only [Eff.part]; decide)) | ((with_reducible refine tbAny ?_); refine sub hpm ?_; decide) | split | (exact tbSel 7 (tb hpm (by decide)) ‹_› (by decide)) | (exact tbSel 8 (tb hpm (by decide)) ‹_› (by decide)) | (dsimp only))

theorem claimBy_within {pm : Nat} (hpm : pm &&& 0x4000200 = 0x4000200) (t : Nat) :
    (claimBy t).Within pm := by
  unfold claimBy
  repeat' (first | (with_reducible (first | assumption | exact within_skip | exact within_nil | apply within_cons | apply within_whenP | apply within_read | apply within_putN | apply within_raise | apply within_clear | apply within_countUp | apply modIcu_within | apply putBit_within))
                   | (with_reducible intro _) | ((with_reducible refine sub hpm ?_); decide) | ((with_reducible refine tb hpm ?_); first | decide | (exact rfl) | (dsimp only [Eff.part]; decide)) | ((with_reducible refine tbAny ?_); refine sub hpm ?_; decide) | split | (exact tbSel 7 (tb hpm (by decide)) ‹_› (by decide)) | (exact tbSel 8 (tb hpm (by decide)) ‹_› (by decide)) | (dsimp only))

theorem execIcuClaim_within {pm : Nat} (hpm : pm &&& 0x4000200 = 0x4000200) (t : Nat) (s : State) :
    Meaning pm s (execIcuClaim t s) := by
  unfold execIcuClaim
  apply within_finish
  repeat' (first | (with_reducible (first | assumption | exact within_skip | exact within_nil | apply within_cons | apply within_whenP | apply claimBy_within))
                   | (with_reducible intro _) | ((with_reducible refine sub hpm ?_); decide) | ((with_reducible refine tb hpm ?_); first | decide | (exact rfl) | (dsimp only [Eff.part]; decide)) | ((with_reducible refine tbAny ?_); refine sub hpm ?_; decide) | split | (exact tbSel 7 (tb hpm (by decide)) ‹_› (by decide)) | (exact tbSel 8 (tb hpm (by decide)) ‹_› (by decide)) | (dsimp only))

theorem completeBy_within {pm : Nat} (hpm : pm &&& 0x200 = 0x200) (t src : Nat) (noCause : Bool) :
    (completeBy t src noCause).Within pm := by
  unfold completeBy
  repeat' (first | (with_reducible (first | assumption | exact within_skip | exact within_nil | apply within_cons | apply within_whenP | apply within_ite | apply within_read | apply within_put | apply within_raise | apply within_countUp | apply putBit_within))
                   | (with_reducible intro _) | ((with_reducible refine sub hpm ?_); decide) | ((with_reducible refine tb hpm ?_); first | decide | (exact rfl) | (dsimp only [Eff.part]; decide)) | ((with_reducible refine tbAny ?_); refine sub hpm ?_; decide) | split | (exact tbSel 7 (tb hpm (by decide)) ‹_› (by decide)) | (exact tbSel 8 (tb hpm (by decide)) ‹_› (by decide)) | (dsimp only))

theorem execIcuComplete_within {pm : Nat} (hpm : pm &&& 0x200 = 0x200) (t src : Nat) (noCause : Bool) (s : State) :
    Meaning pm s (execIcuComplete t src noCause s) := by
  unfold execIcuComplete
  apply within_finish
  repeat' (first | (with_reducible (first | assumption | exact within_skip | exact within_nil | apply within_cons | apply within_whenP | apply completeBy_within))
                   | (with_reducible intro _) | ((with_reducible refine sub hpm ?_); decide) | ((with_reducible refine tb hpm ?_); first | decide | (exact rfl) | (dsimp only [Eff.part]; decide)) | ((with_reducible refine tbAny ?_); refine sub hpm ?_; decide) | split | (exact tbSel 7 (tb hpm (by decide)) ‹_› (by decide)) | (exact tbSel 8 (tb hpm (by decide)) ‹_› (by decide)) | (dsimp only))

theorem srcCfgWrite_within {pm : Nat} (hpm : pm &&& 0x4000200 = 0x4000200) (src v : Nat) :
    (srcCfgWrite src v).Within pm := by
  unfold srcCfgWrite
  repeat' (first | (with_reducible (first | assumption | exact within_skip | exact within_nil | apply within_cons | apply within_whenP | apply within_ite | apply within_read | apply within_putN | apply within_raise | apply modIcu_within | apply putBit_within))
                   | (with_reducible intro _) | ((with_reducible refine sub hpm ?_); decide) | ((with_reducible refine tb hpm ?_); first | decide | (exact rfl) | (dsimp only [Eff.part]; decide)) | ((with_reducible refine tbAny ?_); refine sub hpm ?_; decide) | split | (exact tbSel 7 (tb hpm (by decide)) ‹_› (by decide)) | (exact tbSel 8 (tb hpm (by decide)) ‹_› (by decide)) | (dsimp only))

theorem execIcuSrcCfgWrite_within {pm : Nat} (hpm : pm &&& 0x4000200 = 0x4000200) (src v : Nat) (s : State) :
    Meaning pm s (execIcuSrcCfgWrite src v s) := by
  unfold execIcuSrcCfgWrite
  apply within_finish
  repeat' (first | (with_reducible (first | assumption | exact within_skip | exact within_nil | apply within_cons | apply within_whenP | apply srcCfgWrite_within))
                   | (with_reducible intro _) | ((with_reducible refine sub hpm ?_); decide) | ((with_reducible refine tb hpm ?_); first | decide | (exact rfl) | (dsimp only [Eff.part]; decide)) | ((with_reducible refine tbAny ?_); refine sub hpm ?_; decide) | split | (exact tbSel 7 (tb hpm (by decide)) ‹_› (by decide)) | (exact tbSel 8 (tb hpm (by decide)) ‹_› (by decide)) | (dsimp only))

theorem execIcuMaskWrite_within {pm : Nat} (hpm : pm &&& 0x200 = 0x200) (w v : Nat) (s : State) :
    Meaning pm s (execIcuMaskWrite w v s) := by
  unfold execIcuMaskWrite
  apply within_finish
  repeat' (first | (with_reducible (first | assumption | exact within_skip | exact within_nil | apply within_cons | apply within_whenP | apply within_putN))
                   | (with_reducible intro _) | ((with_reducible refine sub hpm ?_); decide) | ((with_reducible refine tb hpm ?_); first | decide | (exact rfl) | (dsimp only [Eff.part]; decide)) | ((with_reducible refine tbAny ?_); refine sub hpm ?_; decide) | split | (exact tbSel 7 (tb hpm (by decide)) ‹_› (by decide)) | (exact tbSel 8 (tb hpm (by decide)) ‹_› (by decide)) | (dsimp only))

theorem timerPulse_within {pm : Nat} (hpm : pm &&& 0x4400600 = 0x4400600) (t : Nat) :
    (timerPulse t).Within pm := by
  unfold timerPulse
  repeat' (first | (with_reducible (first | assumption | exact within_skip | exact within_nil | apply within_cons | apply within_clear | apply icuEdge_within | apply modIcu_within))
                   | (with_reducible intro _) | ((with_reducible refine sub hpm ?_); decide) | ((with_reducible refine tb hpm ?_); first | decide | (exact rfl) | (dsimp only [Eff.part]; decide)) | ((with_reducible refine tbAny ?_); refine sub hpm ?_; decide) | split | (exact tbSel 7 (tb hpm (by decide)) ‹_› (by decide)) | (exact tbSel 8 (tb hpm (by decide)) ‹_› (by decide)) | (dsimp only))

theorem timerArm_within {pm : Nat} (hpm : pm &&& 0x4400600 = 0x4400600) (t lo : Nat) :
    (timerArm t lo).Within pm := by
  unfold timerArm
  repeat' (first | (with_reducible (first | assumption | exact within_skip | exact within_nil | apply within_cons | apply within_whenP | apply within_read | apply within_putN | apply within_raise | apply modIcu_within | apply timerPulse_within))
                   | (with_reducible intro _) | ((with_reducible refine sub hpm ?_); decide) | ((with_reducible refine tb hpm ?_); first | decide | (exact rfl) | (dsimp only [Eff.part]; decide)) | ((with_reducible refine tbAny ?_); refine sub hpm ?_; decide) | split | (exact tbSel 7 (tb hpm (by decide)) ‹_› (by decide)) | (exact tbSel 8 (tb hpm (by decide)) ‹_› (by decide)) | (dsimp only))

theorem execIcuTimerArm_within {pm : Nat} (hpm : pm &&& 0x4400600 = 0x4400600) (t lo : Nat) (s : State) :
    Meaning pm s (execIcuTimerArm t lo s) := by
  unfold execIcuTimerArm
  apply within_finish
  repeat' (first | (with_reducible (first | assumption | exact within_skip | exact within_nil | apply within_cons | apply within_whenP | apply timerArm_within))
                   | (with_reducible intro _) | ((with_reducible refine sub hpm ?_); decide) | ((with_reducible refine tb hpm ?_); first | decide | (exact rfl) | (dsimp only [Eff.part]; decide)) | ((with_reducible refine tbAny ?_); refine sub hpm ?_; decide) | split | (exact tbSel 7 (tb hpm (by decide)) ‹_› (by decide)) | (exact tbSel 8 (tb hpm (by decide)) ‹_› (by decide)) | (dsimp only))

theorem execIcuTimerFire_within {pm : Nat} (hpm : pm &&& 0xc400600 = 0xc400600) (t : Nat) (s : State) :
    Meaning pm s (execIcuTimerFire t s) := by
  unfold execIcuTimerFire
  apply within_finish
  repeat' (first | (with_reducible (first | assumption | exact within_skip | exact within_nil | apply within_cons | apply within_whenP | apply within_read | apply advanceTo_within | apply timerPulse_within))
                   | (with_reducible intro _) | ((with_reducible refine sub hpm ?_); decide) | ((with_reducible refine tb hpm ?_); first | decide | (exact rfl) | (dsimp only [Eff.part]; decide)) | ((with_reducible refine tbAny ?_); refine sub hpm ?_; decide) | split | (exact tbSel 7 (tb hpm (by decide)) ‹_› (by decide)) | (exact tbSel 8 (tb hpm (by decide)) ‹_› (by decide)) | (dsimp only))

theorem timersPassed_within {pm : Nat} (hpm : pm &&& 0x4400600 = 0x4400600)  :
    (timersPassed).Within pm := by
  unfold timersPassed
  repeat' (first | (with_reducible (first | assumption | exact within_skip | exact within_nil | apply within_cons | apply within_whenP | apply within_forP | apply within_read | apply timerPulse_within))
                   | (with_reducible intro _) | ((with_reducible refine sub hpm ?_); decide) | ((with_reducible refine tb hpm ?_); first | decide | (exact rfl) | (dsimp only [Eff.part]; decide)) | ((with_reducible refine tbAny ?_); refine sub hpm ?_; decide) | split | (exact tbSel 7 (tb hpm (by decide)) ‹_› (by decide)) | (exact tbSel 8 (tb hpm (by decide)) ‹_› (by decide)) | (dsimp only))

theorem softSet_within {pm : Nat} (hpm : pm &&& 0x4400600 = 0x4400600) (v : Nat) :
    (softSet v).Within pm := by
  unfold softSet
  repeat' (first | (with_reducible (first | assumption | exact within_skip | exact within_nil | apply within_cons | apply within_forP | apply icuEdge_within))
                   | (with_reducible intro _) | ((with_reducible refine sub hpm ?_); decide) | ((with_reducible refine tb hpm ?_); first | decide | (exact rfl) | (dsimp only [Eff.part]; decide)) | ((with_reducible refine tbAny ?_); refine sub hpm ?_; decide) | split | (exact tbSel 7 (tb hpm (by decide)) ‹_› (by decide)) | (exact tbSel 8 (tb hpm (by decide)) ‹_› (by decide)) | (dsimp only))

theorem execIcuSoftSet_within {pm : Nat} (hpm : pm &&& 0x4400600 = 0x4400600) (v : Nat) (s : State) :
    Meaning pm s (execIcuSoftSet v s) := by
  unfold execIcuSoftSet
  apply within_finish
  repeat' (first | (with_reducible (first | assumption | exact within_skip | exact within_nil | apply within_cons | apply softSet_within))
                   | (with_reducible intro _) | ((with_reducible refine sub hpm ?_); decide) | ((with_reducible refine tb hpm ?_); first | decide | (exact rfl) | (dsimp only [Eff.part]; decide)) | ((with_reducible refine tbAny ?_); refine sub hpm ?_; decide) | split | (exact tbSel 7 (tb hpm (by decide)) ‹_› (by decide)) | (exact tbSel 8 (tb hpm (by decide)) ‹_› (by decide)) | (dsimp only))

theorem execIcuLevelChange_within {pm : Nat} (hpm : pm &&& 0x4004404600 = 0x4004404600) (src : Nat) (level : Bool) (s : State) :
    Meaning pm s (execIcuLevelChange src level s) := by
  unfold execIcuLevelChange
  apply within_finish
  repeat' (first | (with_reducible (first | assumption | exact within_skip | exact within_nil | apply within_cons | apply within_whenP | apply within_ite | apply icuEdge_within | apply icuSample_within | apply modHalt_within | apply modIcu_within | apply refreshHalt_within))
                   | (with_reducible intro _) | ((with_reducible refine sub hpm ?_); decide) | ((with_reducible refine tb hpm ?_); first | decide | (exact rfl) | (dsimp only [Eff.part]; decide)) | ((with_reducible refine tbAny ?_); refine sub hpm ?_; decide) | split | (exact tbSel 7 (tb hpm (by decide)) ‹_› (by decide)) | (exact tbSel 8 (tb hpm (by decide)) ‹_› (by decide)) | (dsimp only))

theorem execIcuEdge_within {pm : Nat} (hpm : pm &&& 0x4400600 = 0x4400600) (src : Nat) (s : State) :
    Meaning pm s (execIcuEdge src s) := by
  unfold execIcuEdge
  apply within_finish
  repeat' (first | (with_reducible (first | assumption | exact within_skip | exact within_nil | apply within_cons | apply within_whenP | apply icuEdge_within))
                   | (with_reducible intro _) | ((with_reducible refine sub hpm ?_); decide) | ((with_reducible refine tb hpm ?_); first | decide | (exact rfl) | (dsimp only [Eff.part]; decide)) | ((with_reducible refine tbAny ?_); refine sub hpm ?_; decide) | split | (exact tbSel 7 (tb hpm (by decide)) ‹_› (by decide)) | (exact tbSel 8 (tb hpm (by decide)) ‹_› (by decide)) | (dsimp only))

theorem execHicVectorTimer_within {pm : Nat} (hpm : pm &&& 0xc400400 = 0xc400400) (fn vec : Nat) (s : State) :
    Meaning pm s (execHicVectorTimer fn vec s) := by
  unfold execHicVectorTimer
  apply within_finish
  repeat' (first | (with_reducible (first | assumption | exact within_skip | exact within_nil | apply within_cons | apply within_whenP | apply atNs_within | apply fireVector_within))
                   | (with_reducible intro _) | ((with_reducible refine sub hpm ?_); decide) | ((with_reducible refine tb hpm ?_); first | decide | (exact rfl) | (dsimp only [Eff.part]; decide)) | ((with_reducible refine tbAny ?_); refine sub hpm ?_; decide) | split | (exact tbSel 7 (tb hpm (by decide)) ‹_› (by decide)) | (exact tbSel 8 (tb hpm (by decide)) ‹_› (by decide)) | (dsimp only))

theorem hicFlush_within {pm : Nat} (hpm : pm &&& 0x4400400 = 0x4400400)  :
    (hicFlush).Within pm := by
  unfold hicFlush
  repeat' (first | (with_reducible (first | assumption | exact within_skip | exact within_nil | apply within_cons | apply within_whenP | apply within_read | apply fireVector_within))
                   | (with_reducible intro _) | ((with_reducible refine sub hpm ?_); decide) | ((with_reducible refine tb hpm ?_); first | decide | (exact rfl) | (dsimp only [Eff.part]; decide)) | ((with_reducible refine tbAny ?_); refine sub hpm ?_; decide) | split | (exact tbSel 7 (tb hpm (by decide)) ‹_› (by decide)) | (exact tbSel 8 (tb hpm (by decide)) ‹_› (by decide)) | (dsimp only))

theorem execHicFlush_within {pm : Nat} (hpm : pm &&& 0x4400400 = 0x4400400) (s : State) :
    Meaning pm s (execHicFlush s) := by
  unfold execHicFlush
  apply within_finish
  repeat' (first | (with_reducible (first | assumption | exact within_skip | exact within_nil | apply within_cons | apply hicFlush_within))
                   | (with_reducible intro _) | ((with_reducible refine sub hpm ?_); decide) | ((with_reducible refine tb hpm ?_); first | decide | (exact rfl) | (dsimp only [Eff.part]; decide)) | ((with_reducible refine tbAny ?_); refine sub hpm ?_; decide) | split | (exact tbSel 7 (tb hpm (by decide)) ‹_› (by decide)) | (exact tbSel 8 (tb hpm (by decide)) ‹_› (by decide)) | (dsimp only))

theorem sendOwed_within {pm : Nat} (hpm : pm &&& 0x400400 = 0x400400) (k : Nat) :
    (sendOwed k).Within pm := by
  unfold sendOwed
  repeat' (first | (with_reducible (first | assumption | exact within_skip | exact within_nil | apply within_cons | apply within_whenP | apply within_read | apply within_clear | apply sendMsix_within))
                   | (with_reducible intro _) | ((with_reducible refine sub hpm ?_); decide) | ((with_reducible refine tb hpm ?_); first | decide | (exact rfl) | (dsimp only [Eff.part]; decide)) | ((with_reducible refine tbAny ?_); refine sub hpm ?_; decide) | split | (exact tbSel 7 (tb hpm (by decide)) ‹_› (by decide)) | (exact tbSel 8 (tb hpm (by decide)) ‹_› (by decide)) | (dsimp only))

theorem execMsixUnmask_within {pm : Nat} (hpm : pm &&& 0x204400400 = 0x204400400) (fn vec : Nat) (whole : Bool) (s : State) :
    Meaning pm s (execMsixUnmask fn vec whole s) := by
  unfold execMsixUnmask
  apply within_finish
  repeat' (first | (with_reducible (first | assumption | exact within_skip | exact within_nil | apply within_cons | apply within_forP | apply within_ite | apply modFn_within | apply modIcu_within | apply sendOwed_within))
                   | (with_reducible intro _) | ((with_reducible refine sub hpm ?_); decide) | ((with_reducible refine tb hpm ?_); first | decide | (exact rfl) | (dsimp only [Eff.part]; decide)) | ((with_reducible refine tbAny ?_); refine sub hpm ?_; decide) | split | (exact tbSel 7 (tb hpm (by decide)) ‹_› (by decide)) | (exact tbSel 8 (tb hpm (by decide)) ‹_› (by decide)) | (dsimp only))

theorem vectorsHeld_within {pm : Nat} (hpm : pm &&& 0x4000400 = 0x4000400) (fn : Nat) :
    (vectorsHeld fn).Within pm := by
  unfold vectorsHeld
  repeat' (first | (with_reducible (first | assumption | exact within_skip | exact within_nil | apply within_cons | apply within_forP | apply within_read | apply vectorStops_within))
                   | (with_reducible intro _) | ((with_reducible refine sub hpm ?_); decide) | ((with_reducible refine tb hpm ?_); first | decide | (exact rfl) | (dsimp only [Eff.part]; decide)) | ((with_reducible refine tbAny ?_); refine sub hpm ?_; decide) | split | (exact tbSel 7 (tb hpm (by decide)) ‹_› (by decide)) | (exact tbSel 8 (tb hpm (by decide)) ‹_› (by decide)) | (dsimp only))

theorem coalWrite_within {pm : Nat} (hpm : pm &&& 0x4400400 = 0x4400400) (v : Nat) :
    (coalWrite v).Within pm := by
  unfold coalWrite
  repeat' (first | (with_reducible (first | assumption | exact within_skip | exact within_nil | apply within_cons | apply within_whenP | apply within_read | apply within_putN | apply fireVector_within))
                   | (with_reducible intro _) | ((with_reducible refine sub hpm ?_); decide) | ((with_reducible refine tb hpm ?_); first | decide | (exact rfl) | (dsimp only [Eff.part]; decide)) | ((with_reducible refine tbAny ?_); refine sub hpm ?_; decide) | split | (exact tbSel 7 (tb hpm (by decide)) ‹_› (by decide)) | (exact tbSel 8 (tb hpm (by decide)) ‹_› (by decide)) | (dsimp only))

theorem hicInsCfg_within {pm : Nat} (hpm : pm &&& 0x400 = 0x400) (err : Bool) (v : Nat) :
    (hicInsCfg err v).Within pm := by
  unfold hicInsCfg
  repeat' (first | (with_reducible (first | assumption | exact within_skip | exact within_nil | apply within_cons | apply within_whenP | apply within_ite | apply within_read | apply within_putN | apply within_raise))
                   | (with_reducible intro _) | ((with_reducible refine sub hpm ?_); decide) | ((with_reducible refine tb hpm ?_); first | decide | (exact rfl) | (dsimp only [Eff.part]; decide)) | ((with_reducible refine tbAny ?_); refine sub hpm ?_; decide) | split | (exact tbSel 7 (tb hpm (by decide)) ‹_› (by decide)) | (exact tbSel 8 (tb hpm (by decide)) ‹_› (by decide)) | (dsimp only))

theorem execHicInsCfgWrite_within {pm : Nat} (hpm : pm &&& 0x400 = 0x400) (err : Bool) (v : Nat) (s : State) :
    Meaning pm s (execHicInsCfgWrite err v s) := by
  unfold execHicInsCfgWrite
  apply within_finish
  repeat' (first | (with_reducible (first | assumption | exact within_skip | exact within_nil | apply within_cons | apply hicInsCfg_within))
                   | (with_reducible intro _) | ((with_reducible refine sub hpm ?_); decide) | ((with_reducible refine tb hpm ?_); first | decide | (exact rfl) | (dsimp only [Eff.part]; decide)) | ((with_reducible refine tbAny ?_); refine sub hpm ?_; decide) | split | (exact tbSel 7 (tb hpm (by decide)) ‹_› (by decide)) | (exact tbSel 8 (tb hpm (by decide)) ‹_› (by decide)) | (dsimp only))

end Sys2Proof.Machine
end

