-- ==== Sys2Proof/Laws/Queues.lean ====
section
/-! SUPPORT. What each program of Machine/Queues.lean can change, as a set of parts (Laws/Within.lean); for a command, of its meaning. -/

set_option linter.all false
set_option maxRecDepth 20000

namespace Sys2Proof.Machine

theorem readEntries_within {pm : Nat} (hpm : pm &&& 0x440000 = 0x440000) (n : Nat) (idxs : List Nat) :
    (readEntries n idxs).Within pm := by
  unfold readEntries
  repeat' (first | (with_reducible (first | assumption | exact within_skip | exact within_nil | apply within_cons | apply within_forP | apply within_read | apply hostRead_within))
                   | (with_reducible intro _) | ((with_reducible refine sub hpm ?_); decide) | ((with_reducible refine tb hpm ?_); first | decide | (exact rfl) | (dsimp only [Eff.part]; decide)) | ((with_reducible refine tbAny ?_); refine sub hpm ?_; decide) | split | (exact tbSel 7 (tb hpm (by decide)) ‹_› (by decide)) | (exact tbSel 8 (tb hpm (by decide)) ‹_› (by decide)) | (dsimp only))

theorem prefetch_within {pm : Nat} (hpm : pm &&& 0x1440000 = 0x1440000) (n : Nat) :
    (prefetch n).Within pm := by
  unfold prefetch
  repeat' (first | (with_reducible (first | assumption | exact within_skip | exact within_nil | apply within_cons | apply within_whenP | apply within_read | apply modQ_within | apply readEntries_within))
                   | (with_reducible intro _) | ((with_reducible refine sub hpm ?_); decide) | ((with_reducible refine tb hpm ?_); first | decide | (exact rfl) | (dsimp only [Eff.part]; decide)) | ((with_reducible refine tbAny ?_); refine sub hpm ?_; decide) | split | (exact tbSel 7 (tb hpm (by decide)) ‹_› (by decide)) | (exact tbSel 8 (tb hpm (by decide)) ‹_› (by decide)) | (dsimp only))

theorem sqDoorbell_within {pm : Nat} (hpm : pm &&& 0x5440480 = 0x5440480) (n v : Nat) :
    (sqDoorbell n v).Within pm := by
  unfold sqDoorbell
  repeat' (first | (with_reducible (first | assumption | exact within_skip | exact within_nil | apply within_cons | apply within_ite | apply within_read | apply within_putN | apply prefetch_within | apply sqError_within))
                   | (with_reducible intro _) | ((with_reducible refine sub hpm ?_); decide) | ((with_reducible refine tb hpm ?_); first | decide | (exact rfl) | (dsimp only [Eff.part]; decide)) | ((with_reducible refine tbAny ?_); refine sub hpm ?_; decide) | split | (exact tbSel 7 (tb hpm (by decide)) ‹_› (by decide)) | (exact tbSel 8 (tb hpm (by decide)) ‹_› (by decide)) | (dsimp only))

theorem execSqTailDoorbell_within {pm : Nat} (hpm : pm &&& 0x50205445480 = 0x50205445480) (fn slot q v : Nat) (s : State) :
    Meaning pm s (execSqTailDoorbell fn slot q v s) := by
  unfold execSqTailDoorbell
  apply within_finish
  repeat' (first | (with_reducible (first | assumption | exact within_skip | exact within_nil | apply within_cons | apply within_ite | apply within_raise | apply hostWrite_within | apply sqDoorbell_within))
                   | (with_reducible intro _) | ((with_reducible refine sub hpm ?_); decide) | ((with_reducible refine tb hpm ?_); first | decide | (exact rfl) | (dsimp only [Eff.part]; decide)) | ((with_reducible refine tbAny ?_); refine sub hpm ?_; decide) | split | (exact tbSel 7 (tb hpm (by decide)) ‹_› (by decide)) | (exact tbSel 8 (tb hpm (by decide)) ‹_› (by decide)) | (dsimp only))

theorem cqDoorbell_within {pm : Nat} (hpm : pm &&& 0x7540580 = 0x7540580) (c v : Nat) :
    (cqDoorbell c v).Within pm := by
  unfold cqDoorbell
  repeat' (first | (with_reducible (first | assumption | exact within_skip | exact within_nil | apply within_cons | apply within_ite | apply within_read | apply within_putN | apply cqError_within | apply drainCq_within))
                   | (with_reducible intro _) | ((with_reducible refine sub hpm ?_); decide) | ((with_reducible refine tb hpm ?_); first | decide | (exact rfl) | (dsimp only [Eff.part]; decide)) | ((with_reducible refine tbAny ?_); refine sub hpm ?_; decide) | split | (exact tbSel 7 (tb hpm (by decide)) ‹_› (by decide)) | (exact tbSel 8 (tb hpm (by decide)) ‹_› (by decide)) | (dsimp only))

theorem execCqHeadDoorbell_within {pm : Nat} (hpm : pm &&& 0x50207545580 = 0x50207545580) (fn slot q v : Nat) (s : State) :
    Meaning pm s (execCqHeadDoorbell fn slot q v s) := by
  unfold execCqHeadDoorbell
  apply within_finish
  repeat' (first | (with_reducible (first | assumption | exact within_skip | exact within_nil | apply within_cons | apply within_ite | apply within_raise | apply cqDoorbell_within | apply hostWrite_within))
                   | (with_reducible intro _) | ((with_reducible refine sub hpm ?_); decide) | ((with_reducible refine tb hpm ?_); first | decide | (exact rfl) | (dsimp only [Eff.part]; decide)) | ((with_reducible refine tbAny ?_); refine sub hpm ?_; decide) | split | (exact tbSel 7 (tb hpm (by decide)) ‹_› (by decide)) | (exact tbSel 8 (tb hpm (by decide)) ‹_› (by decide)) | (dsimp only))

theorem execSqFetch_within {pm : Nat} (hpm : pm &&& 0x80014400c0 = 0x80014400c0) (s : State) :
    Meaning pm s (execSqFetch s) := by
  unfold execSqFetch
  apply within_finish
  repeat' (first | (with_reducible (first | assumption | exact within_skip | exact within_nil | apply within_cons | apply within_whenP | apply within_forP | apply within_ite | apply within_putN | apply within_countUp | apply modQ_within | apply npStall_within | apply readEntries_within | apply refreshDma_within))
                   | (with_reducible intro _) | ((with_reducible refine sub hpm ?_); decide) | ((with_reducible refine tb hpm ?_); first | decide | (exact rfl) | (dsimp only [Eff.part]; decide)) | ((with_reducible refine tbAny ?_); refine sub hpm ?_; decide) | split | (exact tbSel 7 (tb hpm (by decide)) ‹_› (by decide)) | (exact tbSel 8 (tb hpm (by decide)) ‹_› (by decide)) | (dsimp only))

theorem orphanDone_within {pm : Nat} (hpm : pm &&& 0x8001440040 = 0x8001440040)  :
    (orphanDone).Within pm := by
  unfold orphanDone
  repeat' (first | (with_reducible (first | assumption | exact within_skip | exact within_nil | apply within_cons | apply modQ_within | apply refreshDma_within))
                   | (with_reducible intro _) | ((with_reducible refine sub hpm ?_); decide) | ((with_reducible refine tb hpm ?_); first | decide | (exact rfl) | (dsimp only [Eff.part]; decide)) | ((with_reducible refine tbAny ?_); refine sub hpm ?_; decide) | split | (exact tbSel 7 (tb hpm (by decide)) ‹_› (by decide)) | (exact tbSel 8 (tb hpm (by decide)) ‹_› (by decide)) | (dsimp only))

theorem execSqFetchFault_within {pm : Nat} (hpm : pm &&& 0x482054404c0 = 0x482054404c0) (sq how : Nat) (s : State) :
    Meaning pm s (execSqFetchFault sq how s) := by
  unfold execSqFetchFault
  apply within_finish
  repeat' (first | (with_reducible (first | assumption | exact within_skip | exact within_nil | apply within_cons | apply within_ite | apply modQ_within | apply orphanDone_within | apply refreshDma_within | apply requestFailed_within | apply sqError_within))
                   | (with_reducible intro _) | ((with_reducible refine sub hpm ?_); decide) | ((with_reducible refine tb hpm ?_); first | decide | (exact rfl) | (dsimp only [Eff.part]; decide)) | ((with_reducible refine tbAny ?_); refine sub hpm ?_; decide) | split | (exact tbSel 7 (tb hpm (by decide)) ‹_› (by decide)) | (exact tbSel 8 (tb hpm (by decide)) ‹_› (by decide)) | (dsimp only))

theorem takeEntry_within {pm : Nat} (hpm : pm &&& 0x7540580 = 0x7540580) (n : Nat) :
    (takeEntry n).Within pm := by
  unfold takeEntry
  repeat' (first | (with_reducible (first | assumption | exact within_skip | exact within_nil | apply within_cons | apply within_whenP | apply within_ite | apply within_read | apply within_putN | apply within_countUp | apply complete_within | apply modQ_within | apply readEntries_within))
                   | (with_reducible intro _) | ((with_reducible refine sub hpm ?_); decide) | ((with_reducible refine tb hpm ?_); first | decide | (exact rfl) | (dsimp only [Eff.part]; decide)) | ((with_reducible refine tbAny ?_); refine sub hpm ?_; decide) | split | (exact tbSel 7 (tb hpm (by decide)) ‹_› (by decide)) | (exact tbSel 8 (tb hpm (by decide)) ‹_› (by decide)) | (dsimp only))

theorem execSqEntryReadComplete_within {pm : Nat} (hpm : pm &&& 0x80075405c0 = 0x80075405c0) (sq : Nat) (s : State) :
    Meaning pm s (execSqEntryReadComplete sq s) := by
  unfold execSqEntryReadComplete
  apply within_finish
  repeat' (first | (with_reducible (first | assumption | exact within_skip | exact within_nil | apply within_cons | apply within_whenP | apply within_ite | apply modQ_within | apply orphanDone_within | apply refreshDma_within | apply takeEntry_within))
                   | (with_reducible intro _) | ((with_reducible refine sub hpm ?_); decide) | ((with_reducible refine tb hpm ?_); first | decide | (exact rfl) | (dsimp only [Eff.part]; decide)) | ((with_reducible refine tbAny ?_); refine sub hpm ?_; decide) | split | (exact tbSel 7 (tb hpm (by decide)) ‹_› (by decide)) | (exact tbSel 8 (tb hpm (by decide)) ‹_› (by decide)) | (dsimp only))

theorem withCmd_within {pm : Nat} (hpm : pm &&& 0x0 = 0x0) (tag op : Nat) (k : Cmd → Prog) (hyp_k : ∀ v0, (k v0).Within pm) :
    (withCmd tag op k).Within pm := by
  unfold withCmd
  repeat' (first | (with_reducible (first | assumption | exact within_skip | exact within_nil | apply within_cons | apply within_read | apply hyp_k))
                   | (with_reducible intro _) | ((with_reducible refine sub hpm ?_); decide) | ((with_reducible refine tb hpm ?_); first | decide | (exact rfl) | (dsimp only [Eff.part]; decide)) | ((with_reducible refine tbAny ?_); refine sub hpm ?_; decide) | split | (exact tbSel 7 (tb hpm (by decide)) ‹_› (by decide)) | (exact tbSel 8 (tb hpm (by decide)) ‹_› (by decide)) | (dsimp only))

theorem withAction_within {pm : Nat} (hpm : pm &&& 0x0 = 0x0) (tag op off action : Nat) (k : Cmd → Prog) (hyp_k : ∀ v0, (k v0).Within pm) :
    (withAction tag op off action k).Within pm := by
  unfold withAction
  repeat' (first | (with_reducible (first | assumption | exact within_skip | exact within_nil | apply within_cons | apply within_whenP | apply hyp_k | apply withCmd_within))
                   | (with_reducible intro _) | ((with_reducible refine sub hpm ?_); decide) | ((with_reducible refine tb hpm ?_); first | decide | (exact rfl) | (dsimp only [Eff.part]; decide)) | ((with_reducible refine tbAny ?_); refine sub hpm ?_; decide) | split | (exact tbSel 7 (tb hpm (by decide)) ‹_› (by decide)) | (exact tbSel 8 (tb hpm (by decide)) ‹_› (by decide)) | (dsimp only))

theorem running_within {pm : Nat} (hpm : pm &&& 0x1000000 = 0x1000000) (tag : Nat) (progress : Nat) :
    (running tag progress).Within pm := by
  unfold running
  repeat' (first | (with_reducible (first | assumption | exact within_skip | exact within_nil | apply within_cons | apply modCmd_within))
                   | (with_reducible intro _) | ((with_reducible refine sub hpm ?_); decide) | ((with_reducible refine tb hpm ?_); first | decide | (exact rfl) | (dsimp only [Eff.part]; decide)) | ((with_reducible refine tbAny ?_); refine sub hpm ?_; decide) | split | (exact tbSel 7 (tb hpm (by decide)) ‹_› (by decide)) | (exact tbSel 8 (tb hpm (by decide)) ‹_› (by decide)) | (dsimp only))

theorem completeWaiting_within {pm : Nat} (hpm : pm &&& 0x7540580 = 0x7540580) (op progress status result aux : Nat) :
    (completeWaiting op progress status result aux).Within pm := by
  unfold completeWaiting
  repeat' (first | (with_reducible (first | assumption | exact within_skip | exact within_nil | apply within_cons | apply within_forP | apply within_read | apply complete_within))
                   | (with_reducible intro _) | ((with_reducible refine sub hpm ?_); decide) | ((with_reducible refine tb hpm ?_); first | decide | (exact rfl) | (dsimp only [Eff.part]; decide)) | ((with_reducible refine tbAny ?_); refine sub hpm ?_; decide) | split | (exact tbSel 7 (tb hpm (by decide)) ‹_› (by decide)) | (exact tbSel 8 (tb hpm (by decide)) ‹_› (by decide)) | (dsimp only))

theorem sqEnabling_within {pm : Nat} (hpm : pm &&& 0x80 = 0x80) (n : Nat) :
    (sqEnabling n).Within pm := by
  unfold sqEnabling
  repeat' (first | (with_reducible (first | assumption | exact within_skip | exact within_nil | apply within_cons | apply within_putN | apply within_raise | apply within_clear))
                   | (with_reducible intro _) | ((with_reducible refine sub hpm ?_); decide) | ((with_reducible refine tb hpm ?_); first | decide | (exact rfl) | (dsimp only [Eff.part]; decide)) | ((with_reducible refine tbAny ?_); refine sub hpm ?_; decide) | split | (exact tbSel 7 (tb hpm (by decide)) ‹_› (by decide)) | (exact tbSel 8 (tb hpm (by decide)) ‹_› (by decide)) | (dsimp only))

theorem cqEnabling_within {pm : Nat} (hpm : pm &&& 0x80 = 0x80) (n : Nat) :
    (cqEnabling n).Within pm := by
  unfold cqEnabling
  repeat' (first | (with_reducible (first | assumption | exact within_skip | exact within_nil | apply within_cons | apply within_putN | apply within_raise | apply within_clear))
                   | (with_reducible intro _) | ((with_reducible refine sub hpm ?_); decide) | ((with_reducible refine tb hpm ?_); first | decide | (exact rfl) | (dsimp only [Eff.part]; decide)) | ((with_reducible refine tbAny ?_); refine sub hpm ?_; decide) | split | (exact tbSel 7 (tb hpm (by decide)) ‹_› (by decide)) | (exact tbSel 8 (tb hpm (by decide)) ‹_› (by decide)) | (dsimp only))

theorem takeSq_within {pm : Nat} (hpm : pm &&& 0x1000000 = 0x1000000) (n : Nat) :
    (takeSq n).Within pm := by
  unfold takeSq
  repeat' (first | (with_reducible (first | assumption | exact within_skip | exact within_nil | apply within_cons | apply within_ite | apply modQ_within))
                   | (with_reducible intro _) | ((with_reducible refine sub hpm ?_); decide) | ((with_reducible refine tb hpm ?_); first | decide | (exact rfl) | (dsimp only [Eff.part]; decide)) | ((with_reducible refine tbAny ?_); refine sub hpm ?_; decide) | split | (exact tbSel 7 (tb hpm (by decide)) ‹_› (by decide)) | (exact tbSel 8 (tb hpm (by decide)) ‹_› (by decide)) | (dsimp only))

theorem takeCq_within {pm : Nat} (hpm : pm &&& 0x1000000 = 0x1000000) (n : Nat) :
    (takeCq n).Within pm := by
  unfold takeCq
  repeat' (first | (with_reducible (first | assumption | exact within_skip | exact within_nil | apply within_cons | apply within_ite | apply modQ_within))
                   | (with_reducible intro _) | ((with_reducible refine sub hpm ?_); decide) | ((with_reducible refine tb hpm ?_); first | decide | (exact rfl) | (dsimp only [Eff.part]; decide)) | ((with_reducible refine tbAny ?_); refine sub hpm ?_; decide) | split | (exact tbSel 7 (tb hpm (by decide)) ‹_› (by decide)) | (exact tbSel 8 (tb hpm (by decide)) ‹_› (by decide)) | (dsimp only))

theorem sqEnableReg_within {pm : Nat} (hpm : pm &&& 0x1000080 = 0x1000080)  :
    (sqEnableReg).Within pm := by
  unfold sqEnableReg
  repeat' (first | (with_reducible (first | assumption | exact within_skip | exact within_nil | apply within_cons | apply within_ite | apply within_read | apply within_raise | apply sqEnabling_within | apply takeSq_within))
                   | (with_reducible intro _) | ((with_reducible refine sub hpm ?_); decide) | ((with_reducible refine tb hpm ?_); first | decide | (exact rfl) | (dsimp only [Eff.part]; decide)) | ((with_reducible refine tbAny ?_); refine sub hpm ?_; decide) | split | (exact tbSel 7 (tb hpm (by decide)) ‹_› (by decide)) | (exact tbSel 8 (tb hpm (by decide)) ‹_› (by decide)) | (dsimp only))

theorem execQmSqEnable_within {pm : Nat} (hpm : pm &&& 0x1000080 = 0x1000080) (s : State) :
    Meaning pm s (execQmSqEnable s) := by
  unfold execQmSqEnable
  apply within_finish
  repeat' (first | (with_reducible (first | assumption | exact within_skip | exact within_nil | apply within_cons | apply sqEnableReg_within))
                   | (with_reducible intro _) | ((with_reducible refine sub hpm ?_); decide) | ((with_reducible refine tb hpm ?_); first | decide | (exact rfl) | (dsimp only [Eff.part]; decide)) | ((with_reducible refine tbAny ?_); refine sub hpm ?_; decide) | split | (exact tbSel 7 (tb hpm (by decide)) ‹_› (by decide)) | (exact tbSel 8 (tb hpm (by decide)) ‹_› (by decide)) | (dsimp only))

theorem cqEnableReg_within {pm : Nat} (hpm : pm &&& 0x1000080 = 0x1000080)  :
    (cqEnableReg).Within pm := by
  unfold cqEnableReg
  repeat' (first | (with_reducible (first | assumption | exact within_skip | exact within_nil | apply within_cons | apply within_ite | apply within_read | apply within_raise | apply cqEnabling_within | apply takeCq_within))
                   | (with_reducible intro _) | ((with_reducible refine sub hpm ?_); decide) | ((with_reducible refine tb hpm ?_); first | decide | (exact rfl) | (dsimp only [Eff.part]; decide)) | ((with_reducible refine tbAny ?_); refine sub hpm ?_; decide) | split | (exact tbSel 7 (tb hpm (by decide)) ‹_› (by decide)) | (exact tbSel 8 (tb hpm (by decide)) ‹_› (by decide)) | (dsimp only))

theorem execQmCqEnable_within {pm : Nat} (hpm : pm &&& 0x1000080 = 0x1000080) (s : State) :
    Meaning pm s (execQmCqEnable s) := by
  unfold execQmCqEnable
  apply within_finish
  repeat' (first | (with_reducible (first | assumption | exact within_skip | exact within_nil | apply within_cons | apply cqEnableReg_within))
                   | (with_reducible intro _) | ((with_reducible refine sub hpm ?_); decide) | ((with_reducible refine tb hpm ?_); first | decide | (exact rfl) | (dsimp only [Eff.part]; decide)) | ((with_reducible refine tbAny ?_); refine sub hpm ?_; decide) | split | (exact tbSel 7 (tb hpm (by decide)) ‹_› (by decide)) | (exact tbSel 8 (tb hpm (by decide)) ‹_› (by decide)) | (dsimp only))

theorem sqDisable_within {pm : Nat} (hpm : pm &&& 0x1000080 = 0x1000080) (n : Nat) :
    (sqDisable n).Within pm := by
  unfold sqDisable
  repeat' (first | (with_reducible (first | assumption | exact within_skip | exact within_nil | apply within_cons | apply within_ite | apply within_read | apply within_putN | apply within_clear | apply modQ_within))
                   | (with_reducible intro _) | ((with_reducible refine sub hpm ?_); decide) | ((with_reducible refine tb hpm ?_); first | decide | (exact rfl) | (dsimp only [Eff.part]; decide)) | ((with_reducible refine tbAny ?_); refine sub hpm ?_; decide) | split | (exact tbSel 7 (tb hpm (by decide)) ‹_› (by decide)) | (exact tbSel 8 (tb hpm (by decide)) ‹_› (by decide)) | (dsimp only))

theorem execQmSqDisable_within {pm : Nat} (hpm : pm &&& 0x1000080 = 0x1000080) (s : State) :
    Meaning pm s (execQmSqDisable s) := by
  unfold execQmSqDisable
  apply within_finish
  repeat' (first | (with_reducible (first | assumption | exact within_skip | exact within_nil | apply within_cons | apply sqDisable_within))
                   | (with_reducible intro _) | ((with_reducible refine sub hpm ?_); decide) | ((with_reducible refine tb hpm ?_); first | decide | (exact rfl) | (dsimp only [Eff.part]; decide)) | ((with_reducible refine tbAny ?_); refine sub hpm ?_; decide) | split | (exact tbSel 7 (tb hpm (by decide)) ‹_› (by decide)) | (exact tbSel 8 (tb hpm (by decide)) ‹_› (by decide)) | (dsimp only))

theorem cqDiscard_within {pm : Nat} (hpm : pm &&& 0x7540580 = 0x7540580) (c : Nat) :
    (cqDiscard c).Within pm := by
  unfold cqDiscard
  repeat' (first | (with_reducible (first | assumption | exact within_skip | exact within_nil | apply within_cons | apply within_read | apply within_putN | apply within_countUp | apply deliverBlocked_within | apply modQ_within | apply refreshCq_within | apply wakeIdle_within))
                   | (with_reducible intro _) | ((with_reducible refine sub hpm ?_); decide) | ((with_reducible refine tb hpm ?_); first | decide | (exact rfl) | (dsimp only [Eff.part]; decide)) | ((with_reducible refine tbAny ?_); refine sub hpm ?_; decide) | split | (exact tbSel 7 (tb hpm (by decide)) ‹_› (by decide)) | (exact tbSel 8 (tb hpm (by decide)) ‹_› (by decide)) | (dsimp only))

theorem cqDisable_within {pm : Nat} (hpm : pm &&& 0x7540580 = 0x7540580) (c : Nat) :
    (cqDisable c).Within pm := by
  unfold cqDisable
  repeat' (first | (with_reducible (first | assumption | exact within_skip | exact within_nil | apply within_cons | apply within_ite | apply within_read | apply within_putN | apply within_raise | apply within_clear | apply cqDiscard_within | apply modQ_within))
                   | (with_reducible intro _) | ((with_reducible refine sub hpm ?_); decide) | ((with_reducible refine tb hpm ?_); first | decide | (exact rfl) | (dsimp only [Eff.part]; decide)) | ((with_reducible refine tbAny ?_); refine sub hpm ?_; decide) | split | (exact tbSel 7 (tb hpm (by decide)) ‹_› (by decide)) | (exact tbSel 8 (tb hpm (by decide)) ‹_› (by decide)) | (dsimp only))

theorem execQmCqDisable_within {pm : Nat} (hpm : pm &&& 0x7540580 = 0x7540580) (s : State) :
    Meaning pm s (execQmCqDisable s) := by
  unfold execQmCqDisable
  apply within_finish
  repeat' (first | (with_reducible (first | assumption | exact within_skip | exact within_nil | apply within_cons | apply cqDisable_within))
                   | (with_reducible intro _) | ((with_reducible refine sub hpm ?_); decide) | ((with_reducible refine tb hpm ?_); first | decide | (exact rfl) | (dsimp only [Eff.part]; decide)) | ((with_reducible refine tbAny ?_); refine sub hpm ?_; decide) | split | (exact tbSel 7 (tb hpm (by decide)) ‹_› (by decide)) | (exact tbSel 8 (tb hpm (by decide)) ‹_› (by decide)) | (dsimp only))

theorem execQueueEnabled_within {pm : Nat} (hpm : pm &&& 0x7540580 = 0x7540580) (isCq : Bool) (n : Nat) (s : State) :
    Meaning pm s (execQueueEnabled isCq n s) := by
  unfold execQueueEnabled
  apply within_finish
  repeat' (first | (with_reducible (first | assumption | exact within_skip | exact within_nil | apply within_cons | apply within_whenP | apply within_ite | apply within_putN | apply completeWaiting_within | apply postOverflow_within | apply refreshCq_within))
                   | (with_reducible intro _) | ((with_reducible refine sub hpm ?_); decide) | ((with_reducible refine tb hpm ?_); first | decide | (exact rfl) | (dsimp only [Eff.part]; decide)) | ((with_reducible refine tbAny ?_); refine sub hpm ?_; decide) | split | (exact tbSel 7 (tb hpm (by decide)) ‹_› (by decide)) | (exact tbSel 8 (tb hpm (by decide)) ‹_› (by decide)) | (dsimp only))

theorem sqOff_within {pm : Nat} (hpm : pm &&& 0x7540580 = 0x7540580) (n : Nat) :
    (sqOff n).Within pm := by
  unfold sqOff
  repeat' (first | (with_reducible (first | assumption | exact within_skip | exact within_nil | apply within_cons | apply within_whenP | apply within_ite | apply within_read | apply within_putN | apply within_raise | apply completeWaiting_within | apply modQ_within | apply sqEnabling_within | apply takeSq_within))
                   | (with_reducible intro _) | ((with_reducible refine sub hpm ?_); decide) | ((with_reducible refine tb hpm ?_); first | decide | (exact rfl) | (dsimp only [Eff.part]; decide)) | ((with_reducible refine tbAny ?_); refine sub hpm ?_; decide) | split | (exact tbSel 7 (tb hpm (by decide)) ‹_› (by decide)) | (exact tbSel 8 (tb hpm (by decide)) ‹_› (by decide)) | (dsimp only))

theorem cqOff_within {pm : Nat} (hpm : pm &&& 0x7540580 = 0x7540580) (n : Nat) :
    (cqOff n).Within pm := by
  unfold cqOff
  repeat' (first | (with_reducible (first | assumption | exact within_skip | exact within_nil | apply within_cons | apply within_whenP | apply within_ite | apply within_read | apply within_putN | apply within_raise | apply completeWaiting_within | apply cqEnabling_within | apply modQ_within | apply takeCq_within))
                   | (with_reducible intro _) | ((with_reducible refine sub hpm ?_); decide) | ((with_reducible refine tb hpm ?_); first | decide | (exact rfl) | (dsimp only [Eff.part]; decide)) | ((with_reducible refine tbAny ?_); refine sub hpm ?_; decide) | split | (exact tbSel 7 (tb hpm (by decide)) ‹_› (by decide)) | (exact tbSel 8 (tb hpm (by decide)) ‹_› (by decide)) | (dsimp only))

theorem execQueueDisabled_within {pm : Nat} (hpm : pm &&& 0x7540580 = 0x7540580) (isCq : Bool) (n : Nat) (s : State) :
    Meaning pm s (execQueueDisabled isCq n s) := by
  unfold execQueueDisabled
  apply within_finish
  repeat' (first | (with_reducible (first | assumption | exact within_skip | exact within_nil | apply within_cons | apply within_whenP | apply within_ite | apply cqOff_within | apply sqOff_within))
                   | (with_reducible intro _) | ((with_reducible refine sub hpm ?_); decide) | ((with_reducible refine tb hpm ?_); first | decide | (exact rfl) | (dsimp only [Eff.part]; decide)) | ((with_reducible refine tbAny ?_); refine sub hpm ?_; decide) | split | (exact tbSel 7 (tb hpm (by decide)) ‹_› (by decide)) | (exact tbSel 8 (tb hpm (by decide)) ‹_› (by decide)) | (dsimp only))

theorem dropFrags_within {pm : Nat} (hpm : pm &&& 0x1000000 = 0x1000000) (i : Nat) :
    (dropFrags i).Within pm := by
  unfold dropFrags
  repeat' (first | (with_reducible (first | assumption | exact within_skip | exact within_nil | apply within_cons | apply modQ_within))
                   | (with_reducible intro _) | ((with_reducible refine sub hpm ?_); decide) | ((with_reducible refine tb hpm ?_); first | decide | (exact rfl) | (dsimp only [Eff.part]; decide)) | ((with_reducible refine tbAny ?_); refine sub hpm ?_; decide) | split | (exact tbSel 7 (tb hpm (by decide)) ‹_› (by decide)) | (exact tbSel 8 (tb hpm (by decide)) ‹_› (by decide)) | (dsimp only))

theorem cacheInval_within {pm : Nat} (hpm : pm &&& 0x1000000 = 0x1000000) (all : Bool) (i : Nat) :
    (cacheInval all i).Within pm := by
  unfold cacheInval
  repeat' (first | (with_reducible (first | assumption | exact within_skip | exact within_nil | apply within_cons | apply within_ite | apply dropFrags_within | apply modQ_within))
                   | (with_reducible intro _) | ((with_reducible refine sub hpm ?_); decide) | ((with_reducible refine tb hpm ?_); first | decide | (exact rfl) | (dsimp only [Eff.part]; decide)) | ((with_reducible refine tbAny ?_); refine sub hpm ?_; decide) | split | (exact tbSel 7 (tb hpm (by decide)) ‹_› (by decide)) | (exact tbSel 8 (tb hpm (by decide)) ‹_› (by decide)) | (dsimp only))

theorem execQmCacheInval_within {pm : Nat} (hpm : pm &&& 0x1000000 = 0x1000000) (all : Bool) (i : Nat) (s : State) :
    Meaning pm s (execQmCacheInval all i s) := by
  unfold execQmCacheInval
  apply within_finish
  repeat' (first | (with_reducible (first | assumption | exact within_skip | exact within_nil | apply within_cons | apply cacheInval_within))
                   | (with_reducible intro _) | ((with_reducible refine sub hpm ?_); decide) | ((with_reducible refine tb hpm ?_); first | decide | (exact rfl) | (dsimp only [Eff.part]; decide)) | ((with_reducible refine tbAny ?_); refine sub hpm ?_; decide) | split | (exact tbSel 7 (tb hpm (by decide)) ‹_› (by decide)) | (exact tbSel 8 (tb hpm (by decide)) ‹_› (by decide)) | (dsimp only))

theorem execNop_within {pm : Nat} (hpm : pm &&& 0x7540580 = 0x7540580) (tag : Nat) (s : State) :
    Meaning pm s (execNop tag s) := by
  unfold execNop
  apply within_finish
  repeat' (first | (with_reducible (first | assumption | exact within_skip | exact within_nil | apply within_cons | apply complete_within | apply withCmd_within))
                   | (with_reducible intro _) | ((with_reducible refine sub hpm ?_); decide) | ((with_reducible refine tb hpm ?_); first | decide | (exact rfl) | (dsimp only [Eff.part]; decide)) | ((with_reducible refine tbAny ?_); refine sub hpm ?_; decide) | split | (exact tbSel 7 (tb hpm (by decide)) ‹_› (by decide)) | (exact tbSel 8 (tb hpm (by decide)) ‹_› (by decide)) | (dsimp only))

theorem execCreateSq_within {pm : Nat} (hpm : pm &&& 0x7540580 = 0x7540580) (tag : Nat) (s : State) :
    Meaning pm s (execCreateSq tag s) := by
  unfold execCreateSq
  apply within_finish
  repeat' (first | (with_reducible (first | assumption | exact within_skip | exact within_nil | apply within_cons | apply within_ite | apply within_read | apply within_putN | apply complete_within | apply running_within | apply sqEnabling_within | apply takeSq_within | apply withCmd_within))
                   | (with_reducible intro _) | ((with_reducible refine sub hpm ?_); decide) | ((with_reducible refine tb hpm ?_); first | decide | (exact rfl) | (dsimp only [Eff.part]; decide)) | ((with_reducible refine tbAny ?_); refine sub hpm ?_; decide) | split | (exact tbSel 7 (tb hpm (by decide)) ‹_› (by decide)) | (exact tbSel 8 (tb hpm (by decide)) ‹_› (by decide)) | (dsimp only))

theorem execDeleteSq_within {pm : Nat} (hpm : pm &&& 0x7540580 = 0x7540580) (tag : Nat) (s : State) :
    Meaning pm s (execDeleteSq tag s) := by
  unfold execDeleteSq
  apply within_finish
  repeat' (first | (with_reducible (first | assumption | exact within_skip | exact within_nil | apply within_cons | apply within_ite | apply within_read | apply complete_within | apply running_within | apply sqDisable_within | apply withCmd_within))
                   | (with_reducible intro _) | ((with_reducible refine sub hpm ?_); decide) | ((with_reducible refine tb hpm ?_); first | decide | (exact rfl) | (dsimp only [Eff.part]; decide)) | ((with_reducible refine tbAny ?_); refine sub hpm ?_; decide) | split | (exact tbSel 7 (tb hpm (by decide)) ‹_› (by decide)) | (exact tbSel 8 (tb hpm (by decide)) ‹_› (by decide)) | (dsimp only))

theorem execCreateCq_within {pm : Nat} (hpm : pm &&& 0x7540580 = 0x7540580) (tag : Nat) (s : State) :
    Meaning pm s (execCreateCq tag s) := by
  unfold execCreateCq
  apply within_finish
  repeat' (first | (with_reducible (first | assumption | exact within_skip | exact within_nil | apply within_cons | apply within_ite | apply within_read | apply within_putN | apply complete_within | apply cqEnabling_within | apply running_within | apply takeCq_within | apply withCmd_within))
                   | (with_reducible intro _) | ((with_reducible refine sub hpm ?_); decide) | ((with_reducible refine tb hpm ?_); first | decide | (exact rfl) | (dsimp only [Eff.part]; decide)) | ((with_reducible refine tbAny ?_); refine sub hpm ?_; decide) | split | (exact tbSel 7 (tb hpm (by decide)) ‹_› (by decide)) | (exact tbSel 8 (tb hpm (by decide)) ‹_› (by decide)) | (dsimp only))

theorem execDeleteCq_within {pm : Nat} (hpm : pm &&& 0x7540580 = 0x7540580) (tag : Nat) (s : State) :
    Meaning pm s (execDeleteCq tag s) := by
  unfold execDeleteCq
  apply within_finish
  repeat' (first | (with_reducible (first | assumption | exact within_skip | exact within_nil | apply within_cons | apply within_ite | apply within_read | apply complete_within | apply cqDisable_within | apply running_within | apply withCmd_within))
                   | (with_reducible intro _) | ((with_reducible refine sub hpm ?_); decide) | ((with_reducible refine tb hpm ?_); first | decide | (exact rfl) | (dsimp only [Eff.part]; decide)) | ((with_reducible refine tbAny ?_); refine sub hpm ?_; decide) | split | (exact tbSel 7 (tb hpm (by decide)) ‹_› (by decide)) | (exact tbSel 8 (tb hpm (by decide)) ‹_› (by decide)) | (dsimp only))

theorem execWaitIdle_within {pm : Nat} (hpm : pm &&& 0x7540580 = 0x7540580) (tag : Nat) (s : State) :
    Meaning pm s (execWaitIdle tag s) := by
  unfold execWaitIdle
  apply within_finish
  repeat' (first | (with_reducible (first | assumption | exact within_skip | exact within_nil | apply within_cons | apply within_ite | apply within_read | apply complete_within | apply running_within | apply withCmd_within))
                   | (with_reducible intro _) | ((with_reducible refine sub hpm ?_); decide) | ((with_reducible refine tb hpm ?_); first | decide | (exact rfl) | (dsimp only [Eff.part]; decide)) | ((with_reducible refine tbAny ?_); refine sub hpm ?_; decide) | split | (exact tbSel 7 (tb hpm (by decide)) ‹_› (by decide)) | (exact tbSel 8 (tb hpm (by decide)) ‹_› (by decide)) | (dsimp only))

theorem execWaitIdleTimeout_within {pm : Nat} (hpm : pm &&& 0xf540580 = 0xf540580) (tag : Nat) (s : State) :
    Meaning pm s (execWaitIdleTimeout tag s) := by
  unfold execWaitIdleTimeout
  apply within_finish
  repeat' (first | (with_reducible (first | assumption | exact within_skip | exact within_nil | apply within_cons | apply within_whenP | apply within_read | apply atNs_within | apply complete_within))
                   | (with_reducible intro _) | ((with_reducible refine sub hpm ?_); decide) | ((with_reducible refine tb hpm ?_); first | decide | (exact rfl) | (dsimp only [Eff.part]; decide)) | ((with_reducible refine tbAny ?_); refine sub hpm ?_; decide) | split | (exact tbSel 7 (tb hpm (by decide)) ‹_› (by decide)) | (exact tbSel 8 (tb hpm (by decide)) ‹_› (by decide)) | (dsimp only))

theorem execInvalidate_within {pm : Nat} (hpm : pm &&& 0x7540580 = 0x7540580) (tag : Nat) (s : State) :
    Meaning pm s (execInvalidate tag s) := by
  unfold execInvalidate
  apply within_finish
  repeat' (first | (with_reducible (first | assumption | exact within_skip | exact within_nil | apply within_cons | apply within_ite | apply complete_within | apply dropFrags_within | apply modQ_within | apply withCmd_within))
                   | (with_reducible intro _) | ((with_reducible refine sub hpm ?_); decide) | ((with_reducible refine tb hpm ?_); first | decide | (exact rfl) | (dsimp only [Eff.part]; decide)) | ((with_reducible refine tbAny ?_); refine sub hpm ?_; decide) | split | (exact tbSel 7 (tb hpm (by decide)) ‹_› (by decide)) | (exact tbSel 8 (tb hpm (by decide)) ‹_› (by decide)) | (dsimp only))

theorem writeData_within {pm : Nat} (hpm : pm &&& 0x7540580 = 0x7540580) (tag : Nat) (c : Cmd) (addr : Nat) (bs : List Byte) (result : Nat) (aux : Nat) :
    (writeData tag c addr bs result aux).Within pm := by
  unfold writeData
  repeat' (first | (with_reducible (first | assumption | exact within_skip | exact within_nil | apply within_cons | apply within_ite | apply within_read | apply complete_within | apply insWrite_within))
                   | (with_reducible intro _) | ((with_reducible refine sub hpm ?_); decide) | ((with_reducible refine tb hpm ?_); first | decide | (exact rfl) | (dsimp only [Eff.part]; decide)) | ((with_reducible refine tbAny ?_); refine sub hpm ?_; decide) | split | (exact tbSel 7 (tb hpm (by decide)) ‹_› (by decide)) | (exact tbSel 8 (tb hpm (by decide)) ‹_› (by decide)) | (dsimp only))

end Sys2Proof.Machine
end

