-- ==== Sys2Proof/Laws/Chart.lean ====
section
/-! SUPPORT. What each program of Machine/Chart.lean can change, as a set of parts (Laws/Within.lean); for a command, of its meaning. -/

set_option linter.all false
set_option maxRecDepth 20000

namespace Sys2Proof.Machine

theorem setBank_within {pm : Nat} (hpm : pm &&& 0x20000000 = 0x20000000) (b : Nat) (m : List (Nat × ChartEntry)) :
    (setBank b m).Within pm := by
  unfold setBank
  repeat' (first | (with_reducible (first | assumption | exact within_skip | exact within_nil | apply within_cons | apply within_ite | apply modChart_within))
                   | (with_reducible intro _) | ((with_reducible refine sub hpm ?_); decide) | ((with_reducible refine tb hpm ?_); first | decide | (exact rfl) | (dsimp only [Eff.part]; decide)) | ((with_reducible refine tbAny ?_); refine sub hpm ?_; decide) | split | (exact tbSel 7 (tb hpm (by decide)) ‹_› (by decide)) | (exact tbSel 8 (tb hpm (by decide)) ‹_› (by decide)) | (dsimp only))

theorem setSafes_within {pm : Nat} (hpm : pm &&& 0x20000000 = 0x20000000) (b : Nat) (m : List (Nat × List Byte)) :
    (setSafes b m).Within pm := by
  unfold setSafes
  repeat' (first | (with_reducible (first | assumption | exact within_skip | exact within_nil | apply within_cons | apply within_ite | apply modChart_within))
                   | (with_reducible intro _) | ((with_reducible refine sub hpm ?_); decide) | ((with_reducible refine tb hpm ?_); first | decide | (exact rfl) | (dsimp only [Eff.part]; decide)) | ((with_reducible refine tbAny ?_); refine sub hpm ?_; decide) | split | (exact tbSel 7 (tb hpm (by decide)) ‹_› (by decide)) | (exact tbSel 8 (tb hpm (by decide)) ‹_› (by decide)) | (dsimp only))

theorem putShadow_within {pm : Nat} (hpm : pm &&& 0x20020000000 = 0x20020000000) (i : Nat) (e : ChartEntry) :
    (putShadow i e).Within pm := by
  unfold putShadow
  repeat' (first | (with_reducible (first | assumption | exact within_skip | exact within_nil | apply within_cons | apply within_read | apply mirrorNote_within | apply setBank_within))
                   | (with_reducible intro _) | ((with_reducible refine sub hpm ?_); decide) | ((with_reducible refine tb hpm ?_); first | decide | (exact rfl) | (dsimp only [Eff.part]; decide)) | ((with_reducible refine tbAny ?_); refine sub hpm ?_; decide) | split | (exact tbSel 7 (tb hpm (by decide)) ‹_› (by decide)) | (exact tbSel 8 (tb hpm (by decide)) ‹_› (by decide)) | (dsimp only))

theorem putSafe_within {pm : Nat} (hpm : pm &&& 0x20020000000 = 0x20020000000) (i : Nat) (v : List Byte) :
    (putSafe i v).Within pm := by
  unfold putSafe
  repeat' (first | (with_reducible (first | assumption | exact within_skip | exact within_nil | apply within_cons | apply within_read | apply mirrorNote_within | apply setSafes_within))
                   | (with_reducible intro _) | ((with_reducible refine sub hpm ?_); decide) | ((with_reducible refine tb hpm ?_); first | decide | (exact rfl) | (dsimp only [Eff.part]; decide)) | ((with_reducible refine tbAny ?_); refine sub hpm ?_; decide) | split | (exact tbSel 7 (tb hpm (by decide)) ‹_› (by decide)) | (exact tbSel 8 (tb hpm (by decide)) ‹_› (by decide)) | (dsimp only))

theorem refreshShadow_within {pm : Nat} (hpm : pm &&& 0x8 = 0x8)  :
    (refreshShadow).Within pm := by
  unfold refreshShadow
  repeat' (first | (with_reducible (first | assumption | exact within_skip | exact within_nil | apply within_cons | apply within_ite | apply within_read | apply within_put))
                   | (with_reducible intro _) | ((with_reducible refine sub hpm ?_); decide) | ((with_reducible refine tb hpm ?_); first | decide | (exact rfl) | (dsimp only [Eff.part]; decide)) | ((with_reducible refine tbAny ?_); refine sub hpm ?_; decide) | split | (exact tbSel 7 (tb hpm (by decide)) ‹_› (by decide)) | (exact tbSel 8 (tb hpm (by decide)) ‹_› (by decide)) | (dsimp only))

theorem noteDiscard_within {pm : Nat} (hpm : pm &&& 0x20000000000 = 0x20000000000)  :
    (noteDiscard).Within pm := by
  unfold noteDiscard
  repeat' (first | (with_reducible (first | assumption | exact within_skip | exact within_nil | apply within_cons | apply within_whenP | apply within_forP | apply within_read | apply mirrorNote_within))
                   | (with_reducible intro _) | ((with_reducible refine sub hpm ?_); decide) | ((with_reducible refine tb hpm ?_); first | decide | (exact rfl) | (dsimp only [Eff.part]; decide)) | ((with_reducible refine tbAny ?_); refine sub hpm ?_; decide) | split | (exact tbSel 7 (tb hpm (by decide)) ‹_› (by decide)) | (exact tbSel 8 (tb hpm (by decide)) ‹_› (by decide)) | (dsimp only))

theorem startReplay_within {pm : Nat} (hpm : pm &&& 0x20000008 = 0x20000008)  :
    (startReplay).Within pm := by
  unfold startReplay
  repeat' (first | (with_reducible (first | assumption | exact within_skip | exact within_nil | apply within_cons | apply within_read | apply within_raise | apply modChart_within))
                   | (with_reducible intro _) | ((with_reducible refine sub hpm ?_); decide) | ((with_reducible refine tb hpm ?_); first | decide | (exact rfl) | (dsimp only [Eff.part]; decide)) | ((with_reducible refine tbAny ?_); refine sub hpm ?_; decide) | split | (exact tbSel 7 (tb hpm (by decide)) ‹_› (by decide)) | (exact tbSel 8 (tb hpm (by decide)) ‹_› (by decide)) | (dsimp only))

theorem discardEdits_within {pm : Nat} (hpm : pm &&& 0x20020000008 = 0x20020000008)  :
    (discardEdits).Within pm := by
  unfold discardEdits
  repeat' (first | (with_reducible (first | assumption | exact within_skip | exact within_nil | apply within_cons | apply within_forP | apply within_read | apply within_putN | apply within_put | apply noteDiscard_within | apply startReplay_within))
                   | (with_reducible intro _) | ((with_reducible refine sub hpm ?_); decide) | ((with_reducible refine tb hpm ?_); first | decide | (exact rfl) | (dsimp only [Eff.part]; decide)) | ((with_reducible refine tbAny ?_); refine sub hpm ?_; decide) | split | (exact tbSel 7 (tb hpm (by decide)) ‹_› (by decide)) | (exact tbSel 8 (tb hpm (by decide)) ‹_› (by decide)) | (dsimp only))

theorem replayDone_within {pm : Nat} (hpm : pm &&& 0x28000008 = 0x28000008)  :
    (replayDone).Within pm := by
  unfold replayDone
  repeat' (first | (with_reducible (first | assumption | exact within_skip | exact within_nil | apply within_cons | apply within_whenP | apply within_read | apply within_clear | apply advanceTo_within | apply refreshShadow_within | apply setBank_within | apply setSafes_within))
                   | (with_reducible intro _) | ((with_reducible refine sub hpm ?_); decide) | ((with_reducible refine tb hpm ?_); first | decide | (exact rfl) | (dsimp only [Eff.part]; decide)) | ((with_reducible refine tbAny ?_); refine sub hpm ?_; decide) | split | (exact tbSel 7 (tb hpm (by decide)) ‹_› (by decide)) | (exact tbSel 8 (tb hpm (by decide)) ‹_› (by decide)) | (dsimp only))

theorem execReplayDone_within {pm : Nat} (hpm : pm &&& 0x28000008 = 0x28000008) (s : State) :
    Meaning pm s (execReplayDone s) := by
  unfold execReplayDone
  apply within_finish
  repeat' (first | (with_reducible (first | assumption | exact within_skip | exact within_nil | apply within_cons | apply atNs_within | apply replayDone_within))
                   | (with_reducible intro _) | ((with_reducible refine sub hpm ?_); decide) | ((with_reducible refine tb hpm ?_); first | decide | (exact rfl) | (dsimp only [Eff.part]; decide)) | ((with_reducible refine tbAny ?_); refine sub hpm ?_; decide) | split | (exact tbSel 7 (tb hpm (by decide)) ‹_› (by decide)) | (exact tbSel 8 (tb hpm (by decide)) ‹_› (by decide)) | (dsimp only))

theorem relegate_within {pm : Nat} (hpm : pm &&& 0x20000000 = 0x20000000) (i : Nat) (old new : ChartEntry) :
    (relegate i old new).Within pm := by
  unfold relegate
  repeat' (first | (with_reducible (first | assumption | exact within_skip | exact within_nil | apply within_cons | apply within_ite | apply modLeg_within))
                   | (with_reducible intro _) | ((with_reducible refine sub hpm ?_); decide) | ((with_reducible refine tb hpm ?_); first | decide | (exact rfl) | (dsimp only [Eff.part]; decide)) | ((with_reducible refine tbAny ?_); refine sub hpm ?_; decide) | split | (exact tbSel 7 (tb hpm (by decide)) ‹_› (by decide)) | (exact tbSel 8 (tb hpm (by decide)) ‹_› (by decide)) | (dsimp only))

theorem completeBatch_within {pm : Nat} (hpm : pm &&& 0x2006f540588 = 0x2006f540588) (status : Nat) :
    (completeBatch status).Within pm := by
  unfold completeBatch
  repeat' (first | (with_reducible (first | assumption | exact within_skip | exact within_nil | apply within_cons | apply within_forP | apply within_ite | apply within_read | apply within_put | apply admitBatch_within | apply complete_within | apply modChart_within))
                   | (with_reducible intro _) | ((with_reducible refine sub hpm ?_); decide) | ((with_reducible refine tb hpm ?_); first | decide | (exact rfl) | (dsimp only [Eff.part]; decide)) | ((with_reducible refine tbAny ?_); refine sub hpm ?_; decide) | split | (exact tbSel 7 (tb hpm (by decide)) ‹_› (by decide)) | (exact tbSel 8 (tb hpm (by decide)) ‹_› (by decide)) | (dsimp only))

theorem chartHandover_within {pm : Nat} (hpm : pm &&& 0x2006f540588 = 0x2006f540588)  :
    (chartHandover).Within pm := by
  unfold chartHandover
  repeat' (first | (with_reducible (first | assumption | exact within_skip | exact within_nil | apply within_cons | apply within_whenP | apply within_forP | apply within_read | apply within_putN | apply within_put | apply within_raise | apply within_clear | apply complete_within | apply completeBatch_within | apply modChart_within | apply modChr_within | apply postEvent_within | apply relegate_within | apply startReplay_within))
                   | (with_reducible intro _) | ((with_reducible refine sub hpm ?_); decide) | ((with_reducible refine tb hpm ?_); first | decide | (exact rfl) | (dsimp only [Eff.part]; decide)) | ((with_reducible refine tbAny ?_); refine sub hpm ?_; decide) | split | (exact tbSel 7 (tb hpm (by decide)) ‹_› (by decide)) | (exact tbSel 8 (tb hpm (by decide)) ‹_› (by decide)) | (dsimp only))

theorem commitRefused_within {pm : Nat} (hpm : pm &&& 0x2006f540588 = 0x2006f540588)  :
    (commitRefused).Within pm := by
  unfold commitRefused
  repeat' (first | (with_reducible (first | assumption | exact within_skip | exact within_nil | apply within_cons | apply within_whenP | apply within_read | apply within_raise | apply within_clear | apply complete_within | apply completeBatch_within | apply discardEdits_within | apply modChart_within))
                   | (with_reducible intro _) | ((with_reducible refine sub hpm ?_); decide) | ((with_reducible refine tb hpm ?_); first | decide | (exact rfl) | (dsimp only [Eff.part]; decide)) | ((with_reducible refine tbAny ?_); refine sub hpm ?_; decide) | split | (exact tbSel 7 (tb hpm (by decide)) ‹_› (by decide)) | (exact tbSel 8 (tb hpm (by decide)) ‹_› (by decide)) | (dsimp only))

theorem chartCommit_within {pm : Nat} (hpm : pm &&& 0x2006f540588 = 0x2006f540588) (tag : Option Nat) :
    (chartCommit tag).Within pm := by
  unfold chartCommit
  repeat' (first | (with_reducible (first | assumption | exact within_skip | exact within_nil | apply within_cons | apply within_ite | apply within_read | apply within_raise | apply commitRefused_within | apply mirrorNote_within | apply modChart_within | apply replayDone_within))
                   | (with_reducible intro _) | ((with_reducible refine sub hpm ?_); decide) | ((with_reducible refine tb hpm ?_); first | decide | (exact rfl) | (dsimp only [Eff.part]; decide)) | ((with_reducible refine tbAny ?_); refine sub hpm ?_; decide) | split | (exact tbSel 7 (tb hpm (by decide)) ‹_› (by decide)) | (exact tbSel 8 (tb hpm (by decide)) ‹_› (by decide)) | (dsimp only))

theorem execChtCommit_within {pm : Nat} (hpm : pm &&& 0x2006f540588 = 0x2006f540588) (s : State) :
    Meaning pm s (execChtCommit s) := by
  unfold execChtCommit
  apply within_finish
  repeat' (first | (with_reducible (first | assumption | exact within_skip | exact within_nil | apply within_cons | apply chartCommit_within))
                   | (with_reducible intro _) | ((with_reducible refine sub hpm ?_); decide) | ((with_reducible refine tb hpm ?_); first | decide | (exact rfl) | (dsimp only [Eff.part]; decide)) | ((with_reducible refine tbAny ?_); refine sub hpm ?_; decide) | split | (exact tbSel 7 (tb hpm (by decide)) ‹_› (by decide)) | (exact tbSel 8 (tb hpm (by decide)) ‹_› (by decide)) | (dsimp only))

theorem writeEditOpen_within {pm : Nat} (hpm : pm &&& 0x20028000008 = 0x20028000008) (v : Bool) :
    (writeEditOpen v).Within pm := by
  unfold writeEditOpen
  repeat' (first | (with_reducible (first | assumption | exact within_skip | exact within_nil | apply within_cons | apply within_whenP | apply within_ite | apply within_read | apply within_raise | apply within_clear | apply discardEdits_within | apply replayDone_within))
                   | (with_reducible intro _) | ((with_reducible refine sub hpm ?_); decide) | ((with_reducible refine tb hpm ?_); first | decide | (exact rfl) | (dsimp only [Eff.part]; decide)) | ((with_reducible refine tbAny ?_); refine sub hpm ?_; decide) | split | (exact tbSel 7 (tb hpm (by decide)) ‹_› (by decide)) | (exact tbSel 8 (tb hpm (by decide)) ‹_› (by decide)) | (dsimp only))

theorem execChtEditOpen_within {pm : Nat} (hpm : pm &&& 0x20028000008 = 0x20028000008) (s : State) :
    Meaning pm s (execChtEditOpen s) := by
  unfold execChtEditOpen
  apply within_finish
  repeat' (first | (with_reducible (first | assumption | exact within_skip | exact within_nil | apply within_cons | apply writeEditOpen_within))
                   | (with_reducible intro _) | ((with_reducible refine sub hpm ?_); decide) | ((with_reducible refine tb hpm ?_); first | decide | (exact rfl) | (dsimp only [Eff.part]; decide)) | ((with_reducible refine tbAny ?_); refine sub hpm ?_; decide) | split | (exact tbSel 7 (tb hpm (by decide)) ‹_› (by decide)) | (exact tbSel 8 (tb hpm (by decide)) ‹_› (by decide)) | (dsimp only))

theorem execChtEditClose_within {pm : Nat} (hpm : pm &&& 0x20028000008 = 0x20028000008) (s : State) :
    Meaning pm s (execChtEditClose s) := by
  unfold execChtEditClose
  apply within_finish
  repeat' (first | (with_reducible (first | assumption | exact within_skip | exact within_nil | apply within_cons | apply writeEditOpen_within))
                   | (with_reducible intro _) | ((with_reducible refine sub hpm ?_); decide) | ((with_reducible refine tb hpm ?_); first | decide | (exact rfl) | (dsimp only [Eff.part]; decide)) | ((with_reducible refine tbAny ?_); refine sub hpm ?_; decide) | split | (exact tbSel 7 (tb hpm (by decide)) ‹_› (by decide)) | (exact tbSel 8 (tb hpm (by decide)) ‹_› (by decide)) | (dsimp only))

theorem shadowedWrite_within {pm : Nat} (hpm : pm &&& 0x28000008 = 0x28000008) (busy : Bool) (p : Prog) (hyp_p : p.Within pm) :
    (shadowedWrite busy p).Within pm := by
  unfold shadowedWrite
  repeat' (first | (with_reducible (first | assumption | exact within_skip | exact within_nil | apply within_cons | apply within_whenP | apply within_ite | apply within_read | apply within_raise | apply refreshShadow_within | apply replayDone_within))
                   | (with_reducible intro _) | ((with_reducible refine sub hpm ?_); decide) | ((with_reducible refine tb hpm ?_); first | decide | (exact rfl) | (dsimp only [Eff.part]; decide)) | ((with_reducible refine tbAny ?_); refine sub hpm ?_; decide) | split | (exact tbSel 7 (tb hpm (by decide)) ‹_› (by decide)) | (exact tbSel 8 (tb hpm (by decide)) ‹_› (by decide)) | (dsimp only))

theorem shadowTarget_within {pm : Nat} (hpm : pm &&& 0x20020000008 = 0x20020000008) (what idx word v : Nat) :
    (shadowTarget what idx word v).Within pm := by
  unfold shadowTarget
  repeat' (first | (with_reducible (first | assumption | exact within_skip | exact within_nil | apply within_cons | apply within_ite | apply within_read | apply within_putN | apply within_put | apply putShadow_within))
                   | (with_reducible intro _) | ((with_reducible refine sub hpm ?_); decide) | ((with_reducible refine tb hpm ?_); first | decide | (exact rfl) | (dsimp only [Eff.part]; decide)) | ((with_reducible refine tbAny ?_); refine sub hpm ?_; decide) | split | (exact tbSel 7 (tb hpm (by decide)) ‹_› (by decide)) | (exact tbSel 8 (tb hpm (by decide)) ‹_› (by decide)) | (dsimp only))

theorem shadowWrite_within {pm : Nat} (hpm : pm &&& 0x20028000008 = 0x20028000008) (what idx word v : Nat) :
    (shadowWrite what idx word v).Within pm := by
  unfold shadowWrite
  repeat' (first | (with_reducible (first | assumption | exact within_skip | exact within_nil | apply within_cons | apply within_ite | apply within_read | apply shadowTarget_within | apply shadowedWrite_within))
                   | (with_reducible intro _) | ((with_reducible refine sub hpm ?_); decide) | ((with_reducible refine tb hpm ?_); first | decide | (exact rfl) | (dsimp only [Eff.part]; decide)) | ((with_reducible refine tbAny ?_); refine sub hpm ?_; decide) | split | (exact tbSel 7 (tb hpm (by decide)) ‹_› (by decide)) | (exact tbSel 8 (tb hpm (by decide)) ‹_› (by decide)) | (dsimp only))

theorem execShadowWrite_within {pm : Nat} (hpm : pm &&& 0x20028000008 = 0x20028000008) (what idx word v : Nat) (s : State) :
    Meaning pm s (execShadowWrite what idx word v s) := by
  unfold execShadowWrite
  apply within_finish
  repeat' (first | (with_reducible (first | assumption | exact within_skip | exact within_nil | apply within_cons | apply shadowWrite_within))
                   | (with_reducible intro _) | ((with_reducible refine sub hpm ?_); decide) | ((with_reducible refine tb hpm ?_); first | decide | (exact rfl) | (dsimp only [Eff.part]; decide)) | ((with_reducible refine tbAny ?_); refine sub hpm ?_; decide) | split | (exact tbSel 7 (tb hpm (by decide)) ‹_› (by decide)) | (exact tbSel 8 (tb hpm (by decide)) ‹_› (by decide)) | (dsimp only))

theorem writeSafeWord_within {pm : Nat} (hpm : pm &&& 0x20020000000 = 0x20020000000) (i off v : Nat) :
    (writeSafeWord i off v).Within pm := by
  unfold writeSafeWord
  repeat' (first | (with_reducible (first | assumption | exact within_skip | exact within_nil | apply within_cons | apply within_read | apply putSafe_within))
                   | (with_reducible intro _) | ((with_reducible refine sub hpm ?_); decide) | ((with_reducible refine tb hpm ?_); first | decide | (exact rfl) | (dsimp only [Eff.part]; decide)) | ((with_reducible refine tbAny ?_); refine sub hpm ?_; decide) | split | (exact tbSel 7 (tb hpm (by decide)) ‹_› (by decide)) | (exact tbSel 8 (tb hpm (by decide)) ‹_› (by decide)) | (dsimp only))

theorem safeWrite_within {pm : Nat} (hpm : pm &&& 0x20028000008 = 0x20028000008) (off v : Nat) :
    (safeWrite off v).Within pm := by
  unfold safeWrite
  repeat' (first | (with_reducible (first | assumption | exact within_skip | exact within_nil | apply within_cons | apply within_whenP | apply within_read | apply shadowedWrite_within | apply writeSafeWord_within))
                   | (with_reducible intro _) | ((with_reducible refine sub hpm ?_); decide) | ((with_reducible refine tb hpm ?_); first | decide | (exact rfl) | (dsimp only [Eff.part]; decide)) | ((with_reducible refine tbAny ?_); refine sub hpm ?_; decide) | split | (exact tbSel 7 (tb hpm (by decide)) ‹_› (by decide)) | (exact tbSel 8 (tb hpm (by decide)) ‹_› (by decide)) | (dsimp only))

theorem execSafeValueWrite_within {pm : Nat} (hpm : pm &&& 0x20028000008 = 0x20028000008) (off v : Nat) (s : State) :
    Meaning pm s (execSafeValueWrite off v s) := by
  unfold execSafeValueWrite
  apply within_finish
  repeat' (first | (with_reducible (first | assumption | exact within_skip | exact within_nil | apply within_cons | apply safeWrite_within))
                   | (with_reducible intro _) | ((with_reducible refine sub hpm ?_); decide) | ((with_reducible refine tb hpm ?_); first | decide | (exact rfl) | (dsimp only [Eff.part]; decide)) | ((with_reducible refine tbAny ?_); refine sub hpm ?_; decide) | split | (exact tbSel 7 (tb hpm (by decide)) ‹_› (by decide)) | (exact tbSel 8 (tb hpm (by decide)) ‹_› (by decide)) | (dsimp only))

theorem planFirst_within {pm : Nat} (hpm : pm &&& 0x8000000 = 0x8000000)  :
    (planFirst).Within pm := by
  unfold planFirst
  repeat' (first | (with_reducible (first | assumption | exact within_skip | exact within_nil | apply within_cons | apply within_whenP | apply within_ite | apply within_read | apply modChr_within))
                   | (with_reducible intro _) | ((with_reducible refine sub hpm ?_); decide) | ((with_reducible refine tb hpm ?_); first | decide | (exact rfl) | (dsimp only [Eff.part]; decide)) | ((with_reducible refine tbAny ?_); refine sub hpm ?_; decide) | split | (exact tbSel 7 (tb hpm (by decide)) ‹_› (by decide)) | (exact tbSel 8 (tb hpm (by decide)) ‹_› (by decide)) | (dsimp only))

theorem startRun_within {pm : Nat} (hpm : pm &&& 0x8000000 = 0x8000000)  :
    (startRun).Within pm := by
  unfold startRun
  repeat' (first | (with_reducible (first | assumption | exact within_skip | exact within_nil | apply within_cons | apply within_whenP | apply within_ite | apply within_read | apply modChr_within | apply planFirst_within))
                   | (with_reducible intro _) | ((with_reducible refine sub hpm ?_); decide) | ((with_reducible refine tb hpm ?_); first | decide | (exact rfl) | (dsimp only [Eff.part]; decide)) | ((with_reducible refine tbAny ?_); refine sub hpm ?_; decide) | split | (exact tbSel 7 (tb hpm (by decide)) ‹_› (by decide)) | (exact tbSel 8 (tb hpm (by decide)) ‹_› (by decide)) | (dsimp only))

theorem wakeFixed_within {pm : Nat} (hpm : pm &&& 0x8000000 = 0x8000000)  :
    (wakeFixed).Within pm := by
  unfold wakeFixed
  repeat' (first | (with_reducible (first | assumption | exact within_skip | exact within_nil | apply within_cons | apply within_whenP | apply within_read | apply startRun_within))
                   | (with_reducible intro _) | ((with_reducible refine sub hpm ?_); decide) | ((with_reducible refine tb hpm ?_); first | decide | (exact rfl) | (dsimp only [Eff.part]; decide)) | ((with_reducible refine tbAny ?_); refine sub hpm ?_; decide) | split | (exact tbSel 7 (tb hpm (by decide)) ‹_› (by decide)) | (exact tbSel 8 (tb hpm (by decide)) ‹_› (by decide)) | (dsimp only))

theorem stopTicks_within {pm : Nat} (hpm : pm &&& 0x8000008 = 0x8000008)  :
    (stopTicks).Within pm := by
  unfold stopTicks
  repeat' (first | (with_reducible (first | assumption | exact within_skip | exact within_nil | apply within_cons | apply within_clear | apply modChr_within))
                   | (with_reducible intro _) | ((with_reducible refine sub hpm ?_); decide) | ((with_reducible refine tb hpm ?_); first | decide | (exact rfl) | (dsimp only [Eff.part]; decide)) | ((with_reducible refine tbAny ?_); refine sub hpm ?_; decide) | split | (exact tbSel 7 (tb hpm (by decide)) ‹_› (by decide)) | (exact tbSel 8 (tb hpm (by decide)) ‹_› (by decide)) | (dsimp only))

theorem writeRun_within {pm : Nat} (hpm : pm &&& 0x8000008 = 0x8000008) (run : Bool) :
    (writeRun run).Within pm := by
  unfold writeRun
  repeat' (first | (with_reducible (first | assumption | exact within_skip | exact within_nil | apply within_cons | apply within_whenP | apply within_ite | apply within_read | apply within_put | apply modChr_within | apply startRun_within))
                   | (with_reducible intro _) | ((with_reducible refine sub hpm ?_); decide) | ((with_reducible refine tb hpm ?_); first | decide | (exact rfl) | (dsimp only [Eff.part]; decide)) | ((with_reducible refine tbAny ?_); refine sub hpm ?_; decide) | split | (exact tbSel 7 (tb hpm (by decide)) ‹_› (by decide)) | (exact tbSel 8 (tb hpm (by decide)) ‹_› (by decide)) | (dsimp only))

theorem execChtRun_within {pm : Nat} (hpm : pm &&& 0x8000008 = 0x8000008) (run : Bool) (s : State) :
    Meaning pm s (execChtRun run s) := by
  unfold execChtRun
  apply within_finish
  repeat' (first | (with_reducible (first | assumption | exact within_skip | exact within_nil | apply within_cons | apply writeRun_within))
                   | (with_reducible intro _) | ((with_reducible refine sub hpm ?_); decide) | ((with_reducible refine tb hpm ?_); first | decide | (exact rfl) | (dsimp only [Eff.part]; decide)) | ((with_reducible refine tbAny ?_); refine sub hpm ?_; decide) | split | (exact tbSel 7 (tb hpm (by decide)) ‹_› (by decide)) | (exact tbSel 8 (tb hpm (by decide)) ‹_› (by decide)) | (dsimp only))

theorem placeLeg_within {pm : Nat} (hpm : pm &&& 0x20020000000 = 0x20020000000) (owner i st ph : Nat) (entry : ChartEntry) (safe : List Byte) :
    (placeLeg owner i st ph entry safe).Within pm := by
  unfold placeLeg
  repeat' (first | (with_reducible (first | assumption | exact within_skip | exact within_nil | apply within_cons | apply within_read | apply putSafe_within | apply putShadow_within))
                   | (with_reducible intro _) | ((with_reducible refine sub hpm ?_); decide) | ((with_reducible refine tb hpm ?_); first | decide | (exact rfl) | (dsimp only [Eff.part]; decide)) | ((with_reducible refine tbAny ?_); refine sub hpm ?_; decide) | split | (exact tbSel 7 (tb hpm (by decide)) ‹_› (by decide)) | (exact tbSel 8 (tb hpm (by decide)) ‹_› (by decide)) | (dsimp only))

theorem batchOne_within {pm : Nat} (hpm : pm &&& 0x2006f540588 = 0x2006f540588) (t : Nat) :
    (batchOne t).Within pm := by
  unfold batchOne
  repeat' (first | (with_reducible (first | assumption | exact within_skip | exact within_nil | apply within_cons | apply within_whenP | apply within_ite | apply within_read | apply admitBatch_within | apply complete_within | apply hostRead_within | apply modChart_within | apply modTreeOf_within | apply placeLeg_within | apply putShadow_within | apply running_within))
                   | (with_reducible intro _) | ((with_reducible refine sub hpm ?_); decide) | ((with_reducible refine tb hpm ?_); first | decide | (exact rfl) | (dsimp only [Eff.part]; decide)) | ((with_reducible refine tbAny ?_); refine sub hpm ?_; decide) | split | (exact tbSel 7 (tb hpm (by decide)) ‹_› (by decide)) | (exact tbSel 8 (tb hpm (by decide)) ‹_› (by decide)) | (dsimp only))

theorem admitWaits_within {pm : Nat} (hpm : pm &&& 0x20000008 = 0x20000008) (t : Nat) :
    (admitWaits t).Within pm := by
  unfold admitWaits
  repeat' (first | (with_reducible (first | assumption | exact within_skip | exact within_nil | apply within_cons | apply within_read | apply within_put | apply modChart_within))
                   | (with_reducible intro _) | ((with_reducible refine sub hpm ?_); decide) | ((with_reducible refine tb hpm ?_); first | decide | (exact rfl) | (dsimp only [Eff.part]; decide)) | ((with_reducible refine tbAny ?_); refine sub hpm ?_; decide) | split | (exact tbSel 7 (tb hpm (by decide)) ‹_› (by decide)) | (exact tbSel 8 (tb hpm (by decide)) ‹_› (by decide)) | (dsimp only))

theorem admitRequest_within {pm : Nat} (hpm : pm &&& 0x27540588 = 0x27540588) (tag : Nat) (c : Cmd) :
    (admitRequest tag c).Within pm := by
  unfold admitRequest
  repeat' (first | (with_reducible (first | assumption | exact within_skip | exact within_nil | apply within_cons | apply within_ite | apply within_read | apply admitWaits_within | apply complete_within | apply running_within))
                   | (with_reducible intro _) | ((with_reducible refine sub hpm ?_); decide) | ((with_reducible refine tb hpm ?_); first | decide | (exact rfl) | (dsimp only [Eff.part]; decide)) | ((with_reducible refine tbAny ?_); refine sub hpm ?_; decide) | split | (exact tbSel 7 (tb hpm (by decide)) ‹_› (by decide)) | (exact tbSel 8 (tb hpm (by decide)) ‹_› (by decide)) | (dsimp only))

theorem admitBatch_within {pm : Nat} (hpm : pm &&& 0x2006f540588 = 0x2006f540588)  :
    (admitBatch).Within pm := by
  unfold admitBatch
  repeat' (first | (with_reducible (first | assumption | exact within_skip | exact within_nil | apply within_cons | apply within_whenP | apply within_forP | apply within_read | apply within_put | apply admitRequest_within | apply batchOne_within | apply chartCommit_within | apply modChart_within | apply refreshShadow_within | apply replayDone_within))
                   | (with_reducible intro _) | ((with_reducible refine sub hpm ?_); decide) | ((with_reducible refine tb hpm ?_); first | decide | (exact rfl) | (dsimp only [Eff.part]; decide)) | ((with_reducible refine tbAny ?_); refine sub hpm ?_; decide) | split | (exact tbSel 7 (tb hpm (by decide)) ‹_› (by decide)) | (exact tbSel 8 (tb hpm (by decide)) ‹_› (by decide)) | (dsimp only))

theorem execAdmitBatch_within {pm : Nat} (hpm : pm &&& 0x2006f540588 = 0x2006f540588) (s : State) :
    Meaning pm s (execAdmitBatch s) := by
  unfold execAdmitBatch
  apply within_finish
  repeat' (first | (with_reducible (first | assumption | exact within_skip | exact within_nil | apply within_cons | apply admitBatch_within))
                   | (with_reducible intro _) | ((with_reducible refine sub hpm ?_); decide) | ((with_reducible refine tb hpm ?_); first | decide | (exact rfl) | (dsimp only [Eff.part]; decide)) | ((with_reducible refine tbAny ?_); refine sub hpm ?_; decide) | split | (exact tbSel 7 (tb hpm (by decide)) ‹_› (by decide)) | (exact tbSel 8 (tb hpm (by decide)) ‹_› (by decide)) | (dsimp only))

theorem execAdmitLeg_within {pm : Nat} (hpm : pm &&& 0x27540588 = 0x27540588) (tag : Nat) (s : State) :
    Meaning pm s (execAdmitLeg tag s) := by
  unfold execAdmitLeg
  apply within_finish
  repeat' (first | (with_reducible (first | assumption | exact within_skip | exact within_nil | apply within_cons | apply admitRequest_within | apply withCmd_within))
                   | (with_reducible intro _) | ((with_reducible refine sub hpm ?_); decide) | ((with_reducible refine tb hpm ?_); first | decide | (exact rfl) | (dsimp only [Eff.part]; decide)) | ((with_reducible refine tbAny ?_); refine sub hpm ?_; decide) | split | (exact tbSel 7 (tb hpm (by decide)) ‹_› (by decide)) | (exact tbSel 8 (tb hpm (by decide)) ‹_› (by decide)) | (dsimp only))

theorem execRelease_within {pm : Nat} (hpm : pm &&& 0x27540588 = 0x27540588) (tag : Nat) (s : State) :
    Meaning pm s (execRelease tag s) := by
  unfold execRelease
  apply within_finish
  repeat' (first | (with_reducible (first | assumption | exact within_skip | exact within_nil | apply within_cons | apply admitRequest_within | apply withCmd_within))
                   | (with_reducible intro _) | ((with_reducible refine sub hpm ?_); decide) | ((with_reducible refine tb hpm ?_); first | decide | (exact rfl) | (dsimp only [Eff.part]; decide)) | ((with_reducible refine tbAny ?_); refine sub hpm ?_; decide) | split | (exact tbSel 7 (tb hpm (by decide)) ‹_› (by decide)) | (exact tbSel 8 (tb hpm (by decide)) ‹_› (by decide)) | (dsimp only))

theorem chartEdit_within {pm : Nat} (hpm : pm &&& 0x2f540588 = 0x2f540588) (tag action : Nat) (k : Cmd → Prog) (hyp_k : ∀ v0, (k v0).Within pm) :
    (chartEdit tag action k).Within pm := by
  unfold chartEdit
  repeat' (first | (with_reducible (first | assumption | exact within_skip | exact within_nil | apply within_cons | apply within_ite | apply within_read | apply hyp_k | apply complete_within | apply replayDone_within | apply withAction_within))
                   | (with_reducible intro _) | ((with_reducible refine sub hpm ?_); decide) | ((with_reducible refine tb hpm ?_); first | decide | (exact rfl) | (dsimp only [Eff.part]; decide)) | ((with_reducible refine tbAny ?_); refine sub hpm ?_; decide) | split | (exact tbSel 7 (tb hpm (by decide)) ‹_› (by decide)) | (exact tbSel 8 (tb hpm (by decide)) ‹_› (by decide)) | (dsimp only))

theorem chartEditWrite_within {pm : Nat} (hpm : pm &&& 0x7540588 = 0x7540588) (tag : Nat) (p : Prog) (hyp_p : p.Within pm) :
    (chartEditWrite tag p).Within pm := by
  unfold chartEditWrite
  repeat' (first | (with_reducible (first | assumption | exact within_skip | exact within_nil | apply within_cons | apply within_ite | apply within_read | apply within_raise | apply complete_within | apply refreshShadow_within))
                   | (with_reducible intro _) | ((with_reducible refine sub hpm ?_); decide) | ((with_reducible refine tb hpm ?_); first | decide | (exact rfl) | (dsimp only [Eff.part]; decide)) | ((with_reducible refine tbAny ?_); refine sub hpm ?_; decide) | split | (exact tbSel 7 (tb hpm (by decide)) ‹_› (by decide)) | (exact tbSel 8 (tb hpm (by decide)) ‹_› (by decide)) | (dsimp only))

theorem execChartEditOpen_within {pm : Nat} (hpm : pm &&& 0x2002f540588 = 0x2002f540588) (tag : Nat) (s : State) :
    Meaning pm s (execChartEditOpen tag s) := by
  unfold execChartEditOpen
  apply within_finish
  repeat' (first | (with_reducible (first | assumption | exact within_skip | exact within_nil | apply within_cons | apply chartEdit_within | apply complete_within | apply writeEditOpen_within))
                   | (with_reducible intro _) | ((with_reducible refine sub hpm ?_); decide) | ((with_reducible refine tb hpm ?_); first | decide | (exact rfl) | (dsimp only [Eff.part]; decide)) | ((with_reducible refine tbAny ?_); refine sub hpm ?_; decide) | split | (exact tbSel 7 (tb hpm (by decide)) ‹_› (by decide)) | (exact tbSel 8 (tb hpm (by decide)) ‹_› (by decide)) | (dsimp only))

theorem execChartEditWriteEntry_within {pm : Nat} (hpm : pm &&& 0x2002f540588 = 0x2002f540588) (tag : Nat) (s : State) :
    Meaning pm s (execChartEditWriteEntry tag s) := by
  unfold execChartEditWriteEntry
  apply within_finish
  repeat' (first | (with_reducible (first | assumption | exact within_skip | exact within_nil | apply within_cons | apply within_ite | apply chartEdit_within | apply chartEditWrite_within | apply complete_within | apply putShadow_within))
                   | (with_reducible intro _) | ((with_reducible refine sub hpm ?_); decide) | ((with_reducible refine tb hpm ?_); first | decide | (exact rfl) | (dsimp only [Eff.part]; decide)) | ((with_reducible refine tbAny ?_); refine sub hpm ?_; decide) | split | (exact tbSel 7 (tb hpm (by decide)) ‹_› (by decide)) | (exact tbSel 8 (tb hpm (by decide)) ‹_› (by decide)) | (dsimp only))

theorem execChartEditWriteSafe_within {pm : Nat} (hpm : pm &&& 0x2002f540588 = 0x2002f540588) (tag : Nat) (s : State) :
    Meaning pm s (execChartEditWriteSafe tag s) := by
  unfold execChartEditWriteSafe
  apply within_finish
  repeat' (first | (with_reducible (first | assumption | exact within_skip | exact within_nil | apply within_cons | apply within_ite | apply within_read | apply chartEdit_within | apply chartEditWrite_within | apply complete_within | apply hostRead_within | apply putSafe_within))
                   | (with_reducible intro _) | ((with_reducible refine sub hpm ?_); decide) | ((with_reducible refine tb hpm ?_); first | decide | (exact rfl) | (dsimp only [Eff.part]; decide)) | ((with_reducible refine tbAny ?_); refine sub hpm ?_; decide) | split | (exact tbSel 7 (tb hpm (by decide)) ‹_› (by decide)) | (exact tbSel 8 (tb hpm (by decide)) ‹_› (by decide)) | (dsimp only))

theorem execChartEditDiscard_within {pm : Nat} (hpm : pm &&& 0x2002f540588 = 0x2002f540588) (tag : Nat) (s : State) :
    Meaning pm s (execChartEditDiscard tag s) := by
  unfold execChartEditDiscard
  apply within_finish
  repeat' (first | (with_reducible (first | assumption | exact within_skip | exact within_nil | apply within_cons | apply chartEdit_within | apply complete_within | apply writeEditOpen_within))
                   | (with_reducible intro _) | ((with_reducible refine sub hpm ?_); decide) | ((with_reducible refine tb hpm ?_); first | decide | (exact rfl) | (dsimp only [Eff.part]; decide)) | ((with_reducible refine tbAny ?_); refine sub hpm ?_; decide) | split | (exact tbSel 7 (tb hpm (by decide)) ‹_› (by decide)) | (exact tbSel 8 (tb hpm (by decide)) ‹_› (by decide)) | (dsimp only))

theorem execChartEditCommit_within {pm : Nat} (hpm : pm &&& 0x2006f540588 = 0x2006f540588) (tag : Nat) (s : State) :
    Meaning pm s (execChartEditCommit tag s) := by
  unfold execChartEditCommit
  apply within_finish
  repeat' (first | (with_reducible (first | assumption | exact within_skip | exact within_nil | apply within_cons | apply chartCommit_within | apply chartEdit_within | apply running_within))
                   | (with_reducible intro _) | ((with_reducible refine sub hpm ?_); decide) | ((with_reducible refine tb hpm ?_); first | decide | (exact rfl) | (dsimp only [Eff.part]; decide)) | ((with_reducible refine tbAny ?_); refine sub hpm ?_; decide) | split | (exact tbSel 7 (tb hpm (by decide)) ‹_› (by decide)) | (exact tbSel 8 (tb hpm (by decide)) ‹_› (by decide)) | (dsimp only))

theorem execChartEditSetN_within {pm : Nat} (hpm : pm &&& 0x2f540588 = 0x2f540588) (tag : Nat) (s : State) :
    Meaning pm s (execChartEditSetN tag s) := by
  unfold execChartEditSetN
  apply within_finish
  repeat' (first | (with_reducible (first | assumption | exact within_skip | exact within_nil | apply within_cons | apply within_ite | apply within_put | apply chartEdit_within | apply chartEditWrite_within | apply complete_within))
                   | (with_reducible intro _) | ((with_reducible refine sub hpm ?_); decide) | ((with_reducible refine tb hpm ?_); first | decide | (exact rfl) | (dsimp only [Eff.part]; decide)) | ((with_reducible refine tbAny ?_); refine sub hpm ?_; decide) | split | (exact tbSel 7 (tb hpm (by decide)) ‹_› (by decide)) | (exact tbSel 8 (tb hpm (by decide)) ‹_› (by decide)) | (dsimp only))

theorem execChartEditSetReserve_within {pm : Nat} (hpm : pm &&& 0x2f540588 = 0x2f540588) (tag : Nat) (s : State) :
    Meaning pm s (execChartEditSetReserve tag s) := by
  unfold execChartEditSetReserve
  apply within_finish
  repeat' (first | (with_reducible (first | assumption | exact within_skip | exact within_nil | apply within_cons | apply within_ite | apply within_putN | apply chartEdit_within | apply chartEditWrite_within | apply complete_within))
                   | (with_reducible intro _) | ((with_reducible refine sub hpm ?_); decide) | ((with_reducible refine tb hpm ?_); first | decide | (exact rfl) | (dsimp only [Eff.part]; decide)) | ((with_reducible refine tbAny ?_); refine sub hpm ?_; decide) | split | (exact tbSel 7 (tb hpm (by decide)) ‹_› (by decide)) | (exact tbSel 8 (tb hpm (by decide)) ‹_› (by decide)) | (dsimp only))

end Sys2Proof.Machine
end

