-- ==== Sys2Proof/Laws/Conversations.lean ====
section
/-! SUPPORT. What each program of Machine/Conversations.lean can change, as a set of parts (Laws/Within.lean); for a command, of its meaning. -/

set_option linter.all false
set_option maxRecDepth 20000

namespace Sys2Proof.Machine

theorem writePieces_within {pm : Nat} (hpm : pm &&& 0x6540500 = 0x6540500) (i : Nat) (pasid : Option Nat) (l : List (Nat × Nat)) (bs : List Byte) :
    (writePieces i pasid l bs).Within pm := by
  induction l generalizing bs with
  | nil => trivial
  | cons e t ih => exact within_seq (insWrite_within (sub hpm (by decide)) _ _ _ _ _) (ih _)

theorem askPieces_within {pm : Nat} (hpm : pm &&& 0x440000 = 0x440000) (i : Nat) (l : List (Nat × Nat)) :
    (askPieces i l).Within pm := by
  unfold askPieces
  repeat' (first | (with_reducible (first | assumption | exact within_skip | exact within_nil | apply within_cons | apply within_forP | apply within_read | apply hostRead_within))
                   | (with_reducible intro _) | ((with_reducible refine sub hpm ?_); decide) | ((with_reducible refine tb hpm ?_); first | decide | (exact rfl) | (dsimp only [Eff.part]; decide)) | ((with_reducible refine tbAny ?_); refine sub hpm ?_; decide) | split | (exact tbSel 7 (tb hpm (by decide)) ‹_› (by decide)) | (exact tbSel 8 (tb hpm (by decide)) ‹_› (by decide)) | (dsimp only))

theorem keepTable_within {pm : Nat} (hpm : pm &&& 0x1440000 = 0x1440000) (c : Cmd) (addr : Nat) (pieces : List (Nat × Nat)) :
    (keepTable c addr pieces).Within pm := by
  unfold keepTable
  repeat' (first | (with_reducible (first | assumption | exact within_skip | exact within_nil | apply within_cons | apply within_whenP | apply within_read | apply hostRead_within | apply modQ_within))
                   | (with_reducible intro _) | ((with_reducible refine sub hpm ?_); decide) | ((with_reducible refine tb hpm ?_); first | decide | (exact rfl) | (dsimp only [Eff.part]; decide)) | ((with_reducible refine tbAny ?_); refine sub hpm ?_; decide) | split | (exact tbSel 7 (tb hpm (by decide)) ‹_› (by decide)) | (exact tbSel 8 (tb hpm (by decide)) ‹_› (by decide)) | (dsimp only))

theorem convDone_within {pm : Nat} (hpm : pm &&& 0x87540580 = 0x87540580) (k status : Nat) :
    (convDone k status).Within pm := by
  unfold convDone
  repeat' (first | (with_reducible (first | assumption | exact within_skip | exact within_nil | apply within_cons | apply within_whenP | apply within_ite | apply within_read | apply complete_within | apply modConv_within | apply modPipe_within))
                   | (with_reducible intro _) | ((with_reducible refine sub hpm ?_); decide) | ((with_reducible refine tb hpm ?_); first | decide | (exact rfl) | (dsimp only [Eff.part]; decide)) | ((with_reducible refine tbAny ?_); refine sub hpm ?_; decide) | split | (exact tbSel 7 (tb hpm (by decide)) ‹_› (by decide)) | (exact tbSel 8 (tb hpm (by decide)) ‹_› (by decide)) | (dsimp only))

theorem endTransfers_within {pm : Nat} (hpm : pm &&& 0x87540580 = 0x87540580) (a status : Nat) (keep : Conv → Bool) :
    (endTransfers a status keep).Within pm := by
  unfold endTransfers
  repeat' (first | (with_reducible (first | assumption | exact within_skip | exact within_nil | apply within_cons | apply within_forP | apply within_read | apply convDone_within))
                   | (with_reducible intro _) | ((with_reducible refine sub hpm ?_); decide) | ((with_reducible refine tb hpm ?_); first | decide | (exact rfl) | (dsimp only [Eff.part]; decide)) | ((with_reducible refine tbAny ?_); refine sub hpm ?_; decide) | split | (exact tbSel 7 (tb hpm (by decide)) ‹_› (by decide)) | (exact tbSel 8 (tb hpm (by decide)) ‹_› (by decide)) | (dsimp only))

theorem abortConv_within {pm : Nat} (hpm : pm &&& 0x87540580 = 0x87540580) (k status : Nat) :
    (abortConv k status).Within pm := by
  unfold abortConv
  repeat' (first | (with_reducible (first | assumption | exact within_skip | exact within_nil | apply within_cons | apply within_ite | apply within_read | apply convDone_within | apply modConvOf_within))
                   | (with_reducible intro _) | ((with_reducible refine sub hpm ?_); decide) | ((with_reducible refine tb hpm ?_); first | decide | (exact rfl) | (dsimp only [Eff.part]; decide)) | ((with_reducible refine tbAny ?_); refine sub hpm ?_; decide) | split | (exact tbSel 7 (tb hpm (by decide)) ‹_› (by decide)) | (exact tbSel 8 (tb hpm (by decide)) ‹_› (by decide)) | (dsimp only))

theorem toAborting_within {pm : Nat} (hpm : pm &&& 0x80000000 = 0x80000000) (k : Nat) :
    (toAborting k).Within pm := by
  unfold toAborting
  repeat' (first | (with_reducible (first | assumption | exact within_skip | exact within_nil | apply within_cons | apply within_ite | apply modConvOf_within))
                   | (with_reducible intro _) | ((with_reducible refine sub hpm ?_); decide) | ((with_reducible refine tb hpm ?_); first | decide | (exact rfl) | (dsimp only [Eff.part]; decide)) | ((with_reducible refine tbAny ?_); refine sub hpm ?_; decide) | split | (exact tbSel 7 (tb hpm (by decide)) ‹_› (by decide)) | (exact tbSel 8 (tb hpm (by decide)) ‹_› (by decide)) | (dsimp only))

theorem resetPipe_within {pm : Nat} (hpm : pm &&& 0x80000000 = 0x80000000) (node pipe : Nat) :
    (resetPipe node pipe).Within pm := by
  unfold resetPipe
  repeat' (first | (with_reducible (first | assumption | exact within_skip | exact within_nil | apply within_cons | apply within_ite | apply modConv_within | apply modPipe_within))
                   | (with_reducible intro _) | ((with_reducible refine sub hpm ?_); decide) | ((with_reducible refine tb hpm ?_); first | decide | (exact rfl) | (dsimp only [Eff.part]; decide)) | ((with_reducible refine tbAny ?_); refine sub hpm ?_; decide) | split | (exact tbSel 7 (tb hpm (by decide)) ‹_› (by decide)) | (exact tbSel 8 (tb hpm (by decide)) ‹_› (by decide)) | (dsimp only))

theorem abortFirst_within {pm : Nat} (hpm : pm &&& 0x20080000000 = 0x20080000000) (c : Conv) :
    (abortFirst c).Within pm := by
  unfold abortFirst
  repeat' (first | (with_reducible (first | assumption | exact within_skip | exact within_nil | apply within_cons | apply modConv_within | apply modPair_within))
                   | (with_reducible intro _) | ((with_reducible refine sub hpm ?_); decide) | ((with_reducible refine tb hpm ?_); first | decide | (exact rfl) | (dsimp only [Eff.part]; decide)) | ((with_reducible refine tbAny ?_); refine sub hpm ?_; decide) | split | (exact tbSel 7 (tb hpm (by decide)) ‹_› (by decide)) | (exact tbSel 8 (tb hpm (by decide)) ‹_› (by decide)) | (dsimp only))

theorem convStart_within {pm : Nat} (hpm : pm &&& 0x20087540580 = 0x20087540580) (k : Nat) :
    (convStart k).Within pm := by
  unfold convStart
  repeat' (first | (with_reducible (first | assumption | exact within_skip | exact within_nil | apply within_cons | apply within_whenP | apply within_ite | apply within_read | apply abortFirst_within | apply convDone_within | apply modConvOf_within | apply modPipe_within))
                   | (with_reducible intro _) | ((with_reducible refine sub hpm ?_); decide) | ((with_reducible refine tb hpm ?_); first | decide | (exact rfl) | (dsimp only [Eff.part]; decide)) | ((with_reducible refine tbAny ?_); refine sub hpm ?_; decide) | split | (exact tbSel 7 (tb hpm (by decide)) ‹_› (by decide)) | (exact tbSel 8 (tb hpm (by decide)) ‹_› (by decide)) | (dsimp only))

theorem execConversationStart_within {pm : Nat} (hpm : pm &&& 0x20087540580 = 0x20087540580) (c : Nat) (s : State) :
    Meaning pm s (execConversationStart c s) := by
  unfold execConversationStart
  apply within_finish
  repeat' (first | (with_reducible (first | assumption | exact within_skip | exact within_nil | apply within_cons | apply convStart_within))
                   | (with_reducible intro _) | ((with_reducible refine sub hpm ?_); decide) | ((with_reducible refine tb hpm ?_); first | decide | (exact rfl) | (dsimp only [Eff.part]; decide)) | ((with_reducible refine tbAny ?_); refine sub hpm ?_; decide) | split | (exact tbSel 7 (tb hpm (by decide)) ‹_› (by decide)) | (exact tbSel 8 (tb hpm (by decide)) ‹_› (by decide)) | (dsimp only))

theorem occupy_within {pm : Nat} (hpm : pm &&& 0x800000000 = 0x800000000) (port slot n : Nat) :
    (occupy port slot n).Within pm := by
  unfold occupy
  repeat' (first | (with_reducible (first | assumption | exact within_skip | exact within_nil | apply within_cons | apply within_read | apply modLane_within))
                   | (with_reducible intro _) | ((with_reducible refine sub hpm ?_); decide) | ((with_reducible refine tb hpm ?_); first | decide | (exact rfl) | (dsimp only [Eff.part]; decide)) | ((with_reducible refine tbAny ?_); refine sub hpm ?_; decide) | split | (exact tbSel 7 (tb hpm (by decide)) ‹_› (by decide)) | (exact tbSel 8 (tb hpm (by decide)) ‹_› (by decide)) | (dsimp only))

theorem turnPast_within {pm : Nat} (hpm : pm &&& 0x80000000 = 0x80000000) (k : Nat) (c : Conv) (inbound : Bool) :
    (turnPast k c inbound).Within pm := by
  unfold turnPast
  repeat' (first | (with_reducible (first | assumption | exact within_skip | exact within_nil | apply within_cons | apply within_read | apply modConv_within))
                   | (with_reducible intro _) | ((with_reducible refine sub hpm ?_); decide) | ((with_reducible refine tb hpm ?_); first | decide | (exact rfl) | (dsimp only [Eff.part]; decide)) | ((with_reducible refine tbAny ?_); refine sub hpm ?_; decide) | split | (exact tbSel 7 (tb hpm (by decide)) ‹_› (by decide)) | (exact tbSel 8 (tb hpm (by decide)) ‹_› (by decide)) | (dsimp only))

theorem countSlots_within {pm : Nat} (hpm : pm &&& 0x2000000 = 0x2000000) (c : Conv) (port : Nat) (inbound : Bool) (n : Nat) :
    (countSlots c port inbound n).Within pm := by
  unfold countSlots
  repeat' (first | (with_reducible (first | assumption | exact within_skip | exact within_nil | apply within_cons | apply within_read | apply modIns_within))
                   | (with_reducible intro _) | ((with_reducible refine sub hpm ?_); decide) | ((with_reducible refine tb hpm ?_); first | decide | (exact rfl) | (dsimp only [Eff.part]; decide)) | ((with_reducible refine tbAny ?_); refine sub hpm ?_; decide) | split | (exact tbSel 7 (tb hpm (by decide)) ‹_› (by decide)) | (exact tbSel 8 (tb hpm (by decide)) ‹_› (by decide)) | (dsimp only))

theorem stampRequest_within {pm : Nat} (hpm : pm &&& 0x200c0000000 = 0x200c0000000) (k : Nat) (c : Conv) :
    (stampRequest k c).Within pm := by
  unfold stampRequest
  repeat' (first | (with_reducible (first | assumption | exact within_skip | exact within_nil | apply within_cons | apply within_whenP | apply within_ite | apply within_read | apply modConvOf_within | apply modRec_within | apply modTreeOf_within | apply putBearing_within))
                   | (with_reducible intro _) | ((with_reducible refine sub hpm ?_); decide) | ((with_reducible refine tb hpm ?_); first | decide | (exact rfl) | (dsimp only [Eff.part]; decide)) | ((with_reducible refine tbAny ?_); refine sub hpm ?_; decide) | split | (exact tbSel 7 (tb hpm (by decide)) ‹_› (by decide)) | (exact tbSel 8 (tb hpm (by decide)) ‹_› (by decide)) | (dsimp only))

theorem sendPacket_within {pm : Nat} (hpm : pm &&& 0x400000 = 0x400000) (port : Nat) (c : Conv) (type seq : Nat) (payload : List Byte) :
    (sendPacket port c type seq payload).Within pm := by
  unfold sendPacket
  repeat' (first | (with_reducible (first | assumption | exact within_skip | exact within_nil | apply within_cons | apply within_read | apply within_emit))
                   | (with_reducible intro _) | ((with_reducible refine sub hpm ?_); decide) | ((with_reducible refine tb hpm ?_); first | decide | (exact rfl) | (dsimp only [Eff.part]; decide)) | ((with_reducible refine tbAny ?_); refine sub hpm ?_; decide) | split | (exact tbSel 7 (tb hpm (by decide)) ‹_› (by decide)) | (exact tbSel 8 (tb hpm (by decide)) ‹_› (by decide)) | (dsimp only))

theorem sendData_within {pm : Nat} (hpm : pm &&& 0x200c0400000 = 0x200c0400000) (k : Nat) (c : Conv) (port : Nat) :
    (sendData k c port).Within pm := by
  unfold sendData
  repeat' (first | (with_reducible (first | assumption | exact within_skip | exact within_nil | apply within_cons | apply within_whenP | apply within_ite | apply within_seq | apply within_read | apply modConvOf_within | apply sendPacket_within | apply stampRequest_within))
                   | (with_reducible intro _) | ((with_reducible refine sub hpm ?_); decide) | ((with_reducible refine tb hpm ?_); first | decide | (exact rfl) | (dsimp only [Eff.part]; decide)) | ((with_reducible refine tbAny ?_); refine sub hpm ?_; decide) | split | (exact tbSel 7 (tb hpm (by decide)) ‹_› (by decide)) | (exact tbSel 8 (tb hpm (by decide)) ‹_› (by decide)) | (dsimp only))

theorem packetSend_within {pm : Nat} (hpm : pm &&& 0x208cf540580 = 0x208cf540580) (k slot : Nat) :
    (packetSend k slot).Within pm := by
  unfold packetSend
  repeat' (first | (with_reducible (first | assumption | exact within_skip | exact within_nil | apply within_cons | apply within_whenP | apply within_ite | apply within_read | apply abortConv_within | apply advanceTo_within | apply askPieces_within | apply convDone_within | apply countSlots_within | apply modConvOf_within | apply occupy_within | apply sendData_within | apply sendPacket_within | apply toAborting_within | apply turnPast_within))
                   | (with_reducible intro _) | ((with_reducible refine sub hpm ?_); decide) | ((with_reducible refine tb hpm ?_); first | decide | (exact rfl) | (dsimp only [Eff.part]; decide)) | ((with_reducible refine tbAny ?_); refine sub hpm ?_; decide) | split | (exact tbSel 7 (tb hpm (by decide)) ‹_› (by decide)) | (exact tbSel 8 (tb hpm (by decide)) ‹_› (by decide)) | (dsimp only))

theorem execPacketSend_within {pm : Nat} (hpm : pm &&& 0x208cf540580 = 0x208cf540580) (c slot : Nat) (s : State) :
    Meaning pm s (execPacketSend c slot s) := by
  unfold execPacketSend
  apply within_finish
  repeat' (first | (with_reducible (first | assumption | exact within_skip | exact within_nil | apply within_cons | apply packetSend_within))
                   | (with_reducible intro _) | ((with_reducible refine sub hpm ?_); decide) | ((with_reducible refine tb hpm ?_); first | decide | (exact rfl) | (dsimp only [Eff.part]; decide)) | ((with_reducible refine tbAny ?_); refine sub hpm ?_; decide) | split | (exact tbSel 7 (tb hpm (by decide)) ‹_› (by decide)) | (exact tbSel 8 (tb hpm (by decide)) ‹_› (by decide)) | (dsimp only))

theorem grantSend_within {pm : Nat} (hpm : pm &&& 0x88a400000 = 0x88a400000) (k slot r n : Nat) (room : Bool) :
    (grantSend k slot r n room).Within pm := by
  unfold grantSend
  repeat' (first | (with_reducible (first | assumption | exact within_skip | exact within_nil | apply within_cons | apply within_ite | apply within_read | apply advanceTo_within | apply countSlots_within | apply modConv_within | apply modConvOf_within | apply occupy_within | apply sendPacket_within | apply turnPast_within))
                   | (with_reducible intro _) | ((with_reducible refine sub hpm ?_); decide) | ((with_reducible refine tb hpm ?_); first | decide | (exact rfl) | (dsimp only [Eff.part]; decide)) | ((with_reducible refine tbAny ?_); refine sub hpm ?_; decide) | split | (exact tbSel 7 (tb hpm (by decide)) ‹_› (by decide)) | (exact tbSel 8 (tb hpm (by decide)) ‹_› (by decide)) | (dsimp only))

theorem execGrantSend_within {pm : Nat} (hpm : pm &&& 0x88a400000 = 0x88a400000) (c slot r n : Nat) (room : Bool) (s : State) :
    Meaning pm s (execGrantSend c slot r n room s) := by
  unfold execGrantSend
  apply within_finish
  repeat' (first | (with_reducible (first | assumption | exact within_skip | exact within_nil | apply within_cons | apply grantSend_within))
                   | (with_reducible intro _) | ((with_reducible refine sub hpm ?_); decide) | ((with_reducible refine tb hpm ?_); first | decide | (exact rfl) | (dsimp only [Eff.part]; decide)) | ((with_reducible refine tbAny ?_); refine sub hpm ?_; decide) | split | (exact tbSel 7 (tb hpm (by decide)) ‹_› (by decide)) | (exact tbSel 8 (tb hpm (by decide)) ‹_› (by decide)) | (dsimp only))

theorem retryPackets_within {pm : Nat} (hpm : pm &&& 0x87540580 = 0x87540580) (k i j : Nat) (then_ : Prog) (hyp_then_ : then_.Within pm) :
    (retryPackets k i j then_).Within pm := by
  unfold retryPackets
  repeat' (first | (with_reducible (first | assumption | exact within_skip | exact within_nil | apply within_cons | apply within_ite | apply within_read | apply convDone_within | apply modConvOf_within))
                   | (with_reducible intro _) | ((with_reducible refine sub hpm ?_); decide) | ((with_reducible refine tb hpm ?_); first | decide | (exact rfl) | (dsimp only [Eff.part]; decide)) | ((with_reducible refine tbAny ?_); refine sub hpm ?_; decide) | split | (exact tbSel 7 (tb hpm (by decide)) ‹_› (by decide)) | (exact tbSel 8 (tb hpm (by decide)) ‹_› (by decide)) | (dsimp only))

theorem retryAside_within {pm : Nat} (hpm : pm &&& 0x87540580 = 0x87540580) (k : Nat) :
    (retryAside k).Within pm := by
  unfold retryAside
  repeat' (first | (with_reducible (first | assumption | exact within_skip | exact within_nil | apply within_cons | apply within_whenP | apply within_ite | apply within_read | apply convDone_within | apply modConvOf_within | apply modPipe_within))
                   | (with_reducible intro _) | ((with_reducible refine sub hpm ?_); decide) | ((with_reducible refine tb hpm ?_); first | decide | (exact rfl) | (dsimp only [Eff.part]; decide)) | ((with_reducible refine tbAny ?_); refine sub hpm ?_; decide) | split | (exact tbSel 7 (tb hpm (by decide)) ‹_› (by decide)) | (exact tbSel 8 (tb hpm (by decide)) ‹_› (by decide)) | (dsimp only))

theorem unanswered_within {pm : Nat} (hpm : pm &&& 0x87540580 = 0x87540580) (k : Nat) (g : Grant) :
    (unanswered k g).Within pm := by
  unfold unanswered
  repeat' (first | (with_reducible (first | assumption | exact within_skip | exact within_nil | apply within_cons | apply within_whenP | apply within_ite | apply within_read | apply modConvOf_within | apply retryAside_within | apply retryPackets_within))
                   | (with_reducible intro _) | ((with_reducible refine sub hpm ?_); decide) | ((with_reducible refine tb hpm ?_); first | decide | (exact rfl) | (dsimp only [Eff.part]; decide)) | ((with_reducible refine tbAny ?_); refine sub hpm ?_; decide) | split | (exact tbSel 7 (tb hpm (by decide)) ‹_› (by decide)) | (exact tbSel 8 (tb hpm (by decide)) ‹_› (by decide)) | (dsimp only))

theorem modGrant_within {pm : Nat} (hpm : pm &&& 0x80000000 = 0x80000000) (port : Nat) (f : Grant → Grant) :
    (modGrant port f).Within pm := by
  unfold modGrant
  repeat' (first | (with_reducible (first | assumption | exact within_skip | exact within_nil | apply within_cons | apply modConv_within))
                   | (with_reducible intro _) | ((with_reducible refine sub hpm ?_); decide) | ((with_reducible refine tb hpm ?_); first | decide | (exact rfl) | (dsimp only [Eff.part]; decide)) | ((with_reducible refine tbAny ?_); refine sub hpm ?_; decide) | split | (exact tbSel 7 (tb hpm (by decide)) ‹_› (by decide)) | (exact tbSel 8 (tb hpm (by decide)) ‹_› (by decide)) | (dsimp only))

theorem execGrantUnanswered_within {pm : Nat} (hpm : pm &&& 0x200cf540584 = 0x200cf540584) (port : Nat) (s : State) :
    Meaning pm s (execGrantUnanswered port s) := by
  unfold execGrantUnanswered
  apply within_finish
  repeat' (first | (with_reducible (first | assumption | exact within_skip | exact within_nil | apply within_cons | apply within_whenP | apply atNs_within | apply missed_within | apply modGrant_within | apply unanswered_within))
                   | (with_reducible intro _) | ((with_reducible refine sub hpm ?_); decide) | ((with_reducible refine tb hpm ?_); first | decide | (exact rfl) | (dsimp only [Eff.part]; decide)) | ((with_reducible refine tbAny ?_); refine sub hpm ?_; decide) | split | (exact tbSel 7 (tb hpm (by decide)) ‹_› (by decide)) | (exact tbSel 8 (tb hpm (by decide)) ‹_› (by decide)) | (dsimp only))

theorem damaged_within {pm : Nat} (hpm : pm &&& 0xc7540580 = 0xc7540580) (port node : Nat) (g : Grant) :
    (damaged port node g).Within pm := by
  unfold damaged
  repeat' (first | (with_reducible (first | assumption | exact within_skip | exact within_nil | apply within_cons | apply modGrant_within | apply nodeError_within | apply unanswered_within))
                   | (with_reducible intro _) | ((with_reducible refine sub hpm ?_); decide) | ((with_reducible refine tb hpm ?_); first | decide | (exact rfl) | (dsimp only [Eff.part]; decide)) | ((with_reducible refine tbAny ?_); refine sub hpm ?_; decide) | split | (exact tbSel 7 (tb hpm (by decide)) ‹_› (by decide)) | (exact tbSel 8 (tb hpm (by decide)) ‹_› (by decide)) | (dsimp only))

theorem outsideGrant_within {pm : Nat} (hpm : pm &&& 0x40000000 = 0x40000000) (h : Header) (good : Bool) :
    (outsideGrant h good).Within pm := by
  unfold outsideGrant
  repeat' (first | (with_reducible (first | assumption | exact within_skip | exact within_nil | apply within_cons | apply within_whenP | apply nodeError_within))
                   | (with_reducible intro _) | ((with_reducible refine sub hpm ?_); decide) | ((with_reducible refine tb hpm ?_); first | decide | (exact rfl) | (dsimp only [Eff.part]; decide)) | ((with_reducible refine tbAny ?_); refine sub hpm ?_; decide) | split | (exact tbSel 7 (tb hpm (by decide)) ‹_› (by decide)) | (exact tbSel 8 (tb hpm (by decide)) ‹_› (by decide)) | (dsimp only))

theorem keepSeq_within {pm : Nat} (hpm : pm &&& 0x80000000 = 0x80000000) (k : Nat) :
    (keepSeq k).Within pm := by
  unfold keepSeq
  repeat' (first | (with_reducible (first | assumption | exact within_skip | exact within_nil | apply within_cons | apply within_ite | apply within_seq | apply within_read | apply modPipe_within))
                   | (with_reducible intro _) | ((with_reducible refine sub hpm ?_); decide) | ((with_reducible refine tb hpm ?_); first | decide | (exact rfl) | (dsimp only [Eff.part]; decide)) | ((with_reducible refine tbAny ?_); refine sub hpm ?_; decide) | split | (exact tbSel 7 (tb hpm (by decide)) ‹_› (by decide)) | (exact tbSel 8 (tb hpm (by decide)) ‹_› (by decide)) | (dsimp only))

theorem storeData_within {pm : Nat} (hpm : pm &&& 0xc7540580 = 0xc7540580) (k : Nat) (payload : List Byte) :
    (storeData k payload).Within pm := by
  unfold storeData
  repeat' (first | (with_reducible (first | assumption | exact within_skip | exact within_nil | apply within_cons | apply within_whenP | apply within_ite | apply within_read | apply abortConv_within | apply keepSeq_within | apply modConvOf_within | apply nodeError_within | apply writePieces_within))
                   | (with_reducible intro _) | ((with_reducible refine sub hpm ?_); decide) | ((with_reducible refine tb hpm ?_); first | decide | (exact rfl) | (dsimp only [Eff.part]; decide)) | ((with_reducible refine tbAny ?_); refine sub hpm ?_; decide) | split | (exact tbSel 7 (tb hpm (by decide)) ‹_› (by decide)) | (exact tbSel 8 (tb hpm (by decide)) ‹_› (by decide)) | (dsimp only))

theorem windowTo_within {pm : Nat} (hpm : pm &&& 0x87540580 = 0x87540580) (k i : Nat) (g : Grant) (wait : Bool) :
    (windowTo k i g wait).Within pm := by
  unfold windowTo
  repeat' (first | (with_reducible (first | assumption | exact within_skip | exact within_nil | apply within_cons | apply within_ite | apply within_read | apply convDone_within | apply keepSeq_within | apply modConvOf_within | apply retryPackets_within))
                   | (with_reducible intro _) | ((with_reducible refine sub hpm ?_); decide) | ((with_reducible refine tb hpm ?_); first | decide | (exact rfl) | (dsimp only [Eff.part]; decide)) | ((with_reducible refine tbAny ?_); refine sub hpm ?_; decide) | split | (exact tbSel 7 (tb hpm (by decide)) ‹_› (by decide)) | (exact tbSel 8 (tb hpm (by decide)) ‹_› (by decide)) | (dsimp only))

theorem waitAnswer_within {pm : Nat} (hpm : pm &&& 0x80000000 = 0x80000000) (k : Nat) :
    (waitAnswer k).Within pm := by
  unfold waitAnswer
  repeat' (first | (with_reducible (first | assumption | exact within_skip | exact within_nil | apply within_cons | apply within_read | apply modConvOf_within))
                   | (with_reducible intro _) | ((with_reducible refine sub hpm ?_); decide) | ((with_reducible refine tb hpm ?_); first | decide | (exact rfl) | (dsimp only [Eff.part]; decide)) | ((with_reducible refine tbAny ?_); refine sub hpm ?_; decide) | split | (exact tbSel 7 (tb hpm (by decide)) ‹_› (by decide)) | (exact tbSel 8 (tb hpm (by decide)) ‹_› (by decide)) | (dsimp only))

theorem stallAnswer_within {pm : Nat} (hpm : pm &&& 0x87540580 = 0x87540580) (k : Nat) :
    (stallAnswer k).Within pm := by
  unfold stallAnswer
  repeat' (first | (with_reducible (first | assumption | exact within_skip | exact within_nil | apply within_cons | apply within_whenP | apply within_read | apply convDone_within | apply modPipe_within))
                   | (with_reducible intro _) | ((with_reducible refine sub hpm ?_); decide) | ((with_reducible refine tb hpm ?_); first | decide | (exact rfl) | (dsimp only [Eff.part]; decide)) | ((with_reducible refine tbAny ?_); refine sub hpm ?_; decide) | split | (exact tbSel 7 (tb hpm (by decide)) ‹_› (by decide)) | (exact tbSel 8 (tb hpm (by decide)) ‹_› (by decide)) | (dsimp only))

theorem haltCleared_within {pm : Nat} (hpm : pm &&& 0x80000000 = 0x80000000) (c : Conv) :
    (haltCleared c).Within pm := by
  unfold haltCleared
  repeat' (first | (with_reducible (first | assumption | exact within_skip | exact within_nil | apply within_cons | apply within_whenP | apply modPipe_within | apply resetPipe_within))
                   | (with_reducible intro _) | ((with_reducible refine sub hpm ?_); decide) | ((with_reducible refine tb hpm ?_); first | decide | (exact rfl) | (dsimp only [Eff.part]; decide)) | ((with_reducible refine tbAny ?_); refine sub hpm ?_; decide) | split | (exact tbSel 7 (tb hpm (by decide)) ‹_› (by decide)) | (exact tbSel 8 (tb hpm (by decide)) ‹_› (by decide)) | (dsimp only))

theorem statusAnswer_within {pm : Nat} (hpm : pm &&& 0xc7540580 = 0xc7540580) (k status : Nat) :
    (statusAnswer k status).Within pm := by
  unfold statusAnswer
  repeat' (first | (with_reducible (first | assumption | exact within_skip | exact within_nil | apply within_cons | apply within_ite | apply within_read | apply convDone_within | apply haltCleared_within | apply nodeError_within))
                   | (with_reducible intro _) | ((with_reducible refine sub hpm ?_); decide) | ((with_reducible refine tb hpm ?_); first | decide | (exact rfl) | (dsimp only [Eff.part]; decide)) | ((with_reducible refine tbAny ?_); refine sub hpm ?_; decide) | split | (exact tbSel 7 (tb hpm (by decide)) ‹_› (by decide)) | (exact tbSel 8 (tb hpm (by decide)) ‹_› (by decide)) | (dsimp only))

theorem abortWaits_within {pm : Nat} (hpm : pm &&& 0x80000000 = 0x80000000) (k : Nat) :
    (abortWaits k).Within pm := by
  unfold abortWaits
  repeat' (first | (with_reducible (first | assumption | exact within_skip | exact within_nil | apply within_cons | apply within_read | apply modConvOf_within))
                   | (with_reducible intro _) | ((with_reducible refine sub hpm ?_); decide) | ((with_reducible refine tb hpm ?_); first | decide | (exact rfl) | (dsimp only [Eff.part]; decide)) | ((with_reducible refine tbAny ?_); refine sub hpm ?_; decide) | split | (exact tbSel 7 (tb hpm (by decide)) ‹_› (by decide)) | (exact tbSel 8 (tb hpm (by decide)) ‹_› (by decide)) | (dsimp only))

theorem handshake_within {pm : Nat} (hpm : pm &&& 0xc7540580 = 0xc7540580) (port k : Nat) (c : Conv) (g : Grant) (seq code status credit : Nat) :
    (handshake port k c g seq code status credit).Within pm := by
  unfold handshake
  repeat' (first | (with_reducible (first | assumption | exact within_skip | exact within_nil | apply within_cons | apply within_whenP | apply within_ite | apply within_seq | apply within_read | apply abortWaits_within | apply convDone_within | apply damaged_within | apply modConvOf_within | apply resetPipe_within | apply retryAside_within | apply stallAnswer_within | apply statusAnswer_within | apply waitAnswer_within | apply windowTo_within))
                   | (with_reducible intro _) | ((with_reducible refine sub hpm ?_); decide) | ((with_reducible refine tb hpm ?_); first | decide | (exact rfl) | (dsimp only [Eff.part]; decide)) | ((with_reducible refine tbAny ?_); refine sub hpm ?_; decide) | split | (exact tbSel 7 (tb hpm (by decide)) ‹_› (by decide)) | (exact tbSel 8 (tb hpm (by decide)) ‹_› (by decide)) | (dsimp only))

theorem dataArrives_within {pm : Nat} (hpm : pm &&& 0xc7540580 = 0xc7540580) (k : Nat) (c : Conv) (g : Grant) (seq : Nat) (payload : List Byte) (room : Bool) :
    (dataArrives k c g seq payload room).Within pm := by
  unfold dataArrives
  repeat' (first | (with_reducible (first | assumption | exact within_skip | exact within_nil | apply within_cons | apply within_whenP | apply within_ite | apply within_read | apply modConvOf_within | apply nodeError_within | apply retryPackets_within | apply storeData_within))
                   | (with_reducible intro _) | ((with_reducible refine sub hpm ?_); decide) | ((with_reducible refine tb hpm ?_); first | decide | (exact rfl) | (dsimp only [Eff.part]; decide)) | ((with_reducible refine tbAny ?_); refine sub hpm ?_; decide) | split | (exact tbSel 7 (tb hpm (by decide)) ‹_› (by decide)) | (exact tbSel 8 (tb hpm (by decide)) ‹_› (by decide)) | (dsimp only))

theorem packetArrives_within {pm : Nat} (hpm : pm &&& 0x200c7540584 = 0x200c7540584) (port : Nat) (pos : Int) (frame : List Byte) (room : Bool) :
    (packetArrives port pos frame room).Within pm := by
  unfold packetArrives
  repeat' (first | (with_reducible (first | assumption | exact within_skip | exact within_nil | apply within_cons | apply within_whenP | apply within_ite | apply within_seq | apply within_read | apply damaged_within | apply dataArrives_within | apply goodResponse_within | apply handshake_within | apply modConvOf_within | apply modGrant_within | apply nodeError_within | apply outsideGrant_within | apply retryPackets_within))
                   | (with_reducible intro _) | ((with_reducible refine sub hpm ?_); decide) | ((with_reducible refine tb hpm ?_); first | decide | (exact rfl) | (dsimp only [Eff.part]; decide)) | ((with_reducible refine tbAny ?_); refine sub hpm ?_; decide) | split | (exact tbSel 7 (tb hpm (by decide)) ‹_› (by decide)) | (exact tbSel 8 (tb hpm (by decide)) ‹_› (by decide)) | (dsimp only))

theorem execDataReceive_within {pm : Nat} (hpm : pm &&& 0x200c7540584 = 0x200c7540584) (port : Nat) (pos : Int) (frame : List Byte) (room : Bool) (s : State) :
    Meaning pm s (execDataReceive port pos frame room s) := by
  unfold execDataReceive
  apply within_finish
  repeat' (first | (with_reducible (first | assumption | exact within_skip | exact within_nil | apply within_cons | apply within_whenP | apply packetArrives_within))
                   | (with_reducible intro _) | ((with_reducible refine sub hpm ?_); decide) | ((with_reducible refine tb hpm ?_); first | decide | (exact rfl) | (dsimp only [Eff.part]; decide)) | ((with_reducible refine tbAny ?_); refine sub hpm ?_; decide) | split | (exact tbSel 7 (tb hpm (by decide)) ‹_› (by decide)) | (exact tbSel 8 (tb hpm (by decide)) ‹_› (by decide)) | (dsimp only))

theorem execHandshakeReceive_within {pm : Nat} (hpm : pm &&& 0x200c7540584 = 0x200c7540584) (port : Nat) (pos : Int) (frame : List Byte) (s : State) :
    Meaning pm s (execHandshakeReceive port pos frame s) := by
  unfold execHandshakeReceive
  apply within_finish
  repeat' (first | (with_reducible (first | assumption | exact within_skip | exact within_nil | apply within_cons | apply within_whenP | apply packetArrives_within))
                   | (with_reducible intro _) | ((with_reducible refine sub hpm ?_); decide) | ((with_reducible refine tb hpm ?_); first | decide | (exact rfl) | (dsimp only [Eff.part]; decide)) | ((with_reducible refine tbAny ?_); refine sub hpm ?_; decide) | split | (exact tbSel 7 (tb hpm (by decide)) ‹_› (by decide)) | (exact tbSel 8 (tb hpm (by decide)) ‹_› (by decide)) | (dsimp only))

theorem execHandshakeGrantTimer_within {pm : Nat} (hpm : pm &&& 0x88000000 = 0x88000000) (c : Nat) (s : State) :
    Meaning pm s (execHandshakeGrantTimer c s) := by
  unfold execHandshakeGrantTimer
  apply within_finish
  repeat' (first | (with_reducible (first | assumption | exact within_skip | exact within_nil | apply within_cons | apply within_whenP | apply atNs_within | apply modConvOf_within))
                   | (with_reducible intro _) | ((with_reducible refine sub hpm ?_); decide) | ((with_reducible refine tb hpm ?_); first | decide | (exact rfl) | (dsimp only [Eff.part]; decide)) | ((with_reducible refine tbAny ?_); refine sub hpm ?_; decide) | split | (exact tbSel 7 (tb hpm (by decide)) ‹_› (by decide)) | (exact tbSel 8 (tb hpm (by decide)) ‹_› (by decide)) | (dsimp only))

theorem execWaitBackoffEnd_within {pm : Nat} (hpm : pm &&& 0x88000000 = 0x88000000) (c : Nat) (s : State) :
    Meaning pm s (execWaitBackoffEnd c s) := by
  unfold execWaitBackoffEnd
  apply within_finish
  repeat' (first | (with_reducible (first | assumption | exact within_skip | exact within_nil | apply within_cons | apply within_whenP | apply within_read | apply atNs_within | apply modConvOf_within))
                   | (with_reducible intro _) | ((with_reducible refine sub hpm ?_); decide) | ((with_reducible refine tb hpm ?_); first | decide | (exact rfl) | (dsimp only [Eff.part]; decide)) | ((with_reducible refine tbAny ?_); refine sub hpm ?_; decide) | split | (exact tbSel 7 (tb hpm (by decide)) ‹_› (by decide)) | (exact tbSel 8 (tb hpm (by decide)) ‹_› (by decide)) | (dsimp only))

theorem execWaitTimeout_within {pm : Nat} (hpm : pm &&& 0x8f540580 = 0x8f540580) (c : Nat) (s : State) :
    Meaning pm s (execWaitTimeout c s) := by
  unfold execWaitTimeout
  apply within_finish
  repeat' (first | (with_reducible (first | assumption | exact within_skip | exact within_nil | apply within_cons | apply within_whenP | apply within_ite | apply atNs_within | apply convDone_within | apply modPipe_within))
                   | (with_reducible intro _) | ((with_reducible refine sub hpm ?_); decide) | ((with_reducible refine tb hpm ?_); first | decide | (exact rfl) | (dsimp only [Eff.part]; decide)) | ((with_reducible refine tbAny ?_); refine sub hpm ?_; decide) | split | (exact tbSel 7 (tb hpm (by decide)) ‹_› (by decide)) | (exact tbSel 8 (tb hpm (by decide)) ‹_› (by decide)) | (dsimp only))

theorem execTransferAbort_within {pm : Nat} (hpm : pm &&& 0x208cf540580 = 0x208cf540580) (c slot : Nat) (s : State) :
    Meaning pm s (execTransferAbort c slot s) := by
  unfold execTransferAbort
  apply within_finish
  repeat' (first | (with_reducible (first | assumption | exact within_skip | exact within_nil | apply within_cons | apply within_whenP | apply packetSend_within))
                   | (with_reducible intro _) | ((with_reducible refine sub hpm ?_); decide) | ((with_reducible refine tb hpm ?_); first | decide | (exact rfl) | (dsimp only [Eff.part]; decide)) | ((with_reducible refine tbAny ?_); refine sub hpm ?_; decide) | split | (exact tbSel 7 (tb hpm (by decide)) ‹_› (by decide)) | (exact tbSel 8 (tb hpm (by decide)) ‹_› (by decide)) | (dsimp only))

theorem execBackpressureRelease_within {pm : Nat} (hpm : pm &&& 0x80000000 = 0x80000000) (c : Nat) (s : State) :
    Meaning pm s (execBackpressureRelease c s) := by
  unfold execBackpressureRelease
  apply within_finish
  repeat' (first | (with_reducible (first | assumption | exact within_skip | exact within_nil | apply within_cons | apply within_whenP | apply modConvOf_within))
                   | (with_reducible intro _) | ((with_reducible refine sub hpm ?_); decide) | ((with_reducible refine tb hpm ?_); first | decide | (exact rfl) | (dsimp only [Eff.part]; decide)) | ((with_reducible refine tbAny ?_); refine sub hpm ?_; decide) | split | (exact tbSel 7 (tb hpm (by decide)) ‹_› (by decide)) | (exact tbSel 8 (tb hpm (by decide)) ‹_› (by decide)) | (dsimp only))

theorem queueConv_within {pm : Nat} (hpm : pm &&& 0x87540580 = 0x87540580) (tag : Nat) (c : Cmd) (addr len : Nat) (v : Conv) :
    (queueConv tag c addr len v).Within pm := by
  unfold queueConv
  repeat' (first | (with_reducible (first | assumption | exact within_skip | exact within_nil | apply within_cons | apply within_ite | apply within_read | apply complete_within | apply keepTable_within | apply modConv_within | apply running_within))
                   | (with_reducible intro _) | ((with_reducible refine sub hpm ?_); decide) | ((with_reducible refine tb hpm ?_); first | decide | (exact rfl) | (dsimp only [Eff.part]; decide)) | ((with_reducible refine tbAny ?_); refine sub hpm ?_; decide) | split | (exact tbSel 7 (tb hpm (by decide)) ‹_› (by decide)) | (exact tbSel 8 (tb hpm (by decide)) ‹_› (by decide)) | (dsimp only))

theorem execBulkOut_within {pm : Nat} (hpm : pm &&& 0x87540580 = 0x87540580) (tag : Nat) (s : State) :
    Meaning pm s (execBulkOut tag s) := by
  unfold execBulkOut
  apply within_finish
  repeat' (first | (with_reducible (first | assumption | exact within_skip | exact within_nil | apply within_cons | apply queueConv_within | apply withCmd_within))
                   | (with_reducible intro _) | ((with_reducible refine sub hpm ?_); decide) | ((with_reducible refine tb hpm ?_); first | decide | (exact rfl) | (dsimp only [Eff.part]; decide)) | ((with_reducible refine tbAny ?_); refine sub hpm ?_; decide) | split | (exact tbSel 7 (tb hpm (by decide)) ‹_› (by decide)) | (exact tbSel 8 (tb hpm (by decide)) ‹_› (by decide)) | (dsimp only))

theorem execBulkIn_within {pm : Nat} (hpm : pm &&& 0x87540580 = 0x87540580) (tag : Nat) (s : State) :
    Meaning pm s (execBulkIn tag s) := by
  unfold execBulkIn
  apply within_finish
  repeat' (first | (with_reducible (first | assumption | exact within_skip | exact within_nil | apply within_cons | apply queueConv_within | apply withCmd_within))
                   | (with_reducible intro _) | ((with_reducible refine sub hpm ?_); decide) | ((with_reducible refine tb hpm ?_); first | decide | (exact rfl) | (dsimp only [Eff.part]; decide)) | ((with_reducible refine tbAny ?_); refine sub hpm ?_; decide) | split | (exact tbSel 7 (tb hpm (by decide)) ‹_› (by decide)) | (exact tbSel 8 (tb hpm (by decide)) ‹_› (by decide)) | (dsimp only))

theorem execControl_within {pm : Nat} (hpm : pm &&& 0x87540580 = 0x87540580) (tag : Nat) (s : State) :
    Meaning pm s (execControl tag s) := by
  unfold execControl
  apply within_finish
  repeat' (first | (with_reducible (first | assumption | exact within_skip | exact within_nil | apply within_cons | apply queueConv_within | apply withCmd_within))
                   | (with_reducible intro _) | ((with_reducible refine sub hpm ?_); decide) | ((with_reducible refine tb hpm ?_); first | decide | (exact rfl) | (dsimp only [Eff.part]; decide)) | ((with_reducible refine tbAny ?_); refine sub hpm ?_; decide) | split | (exact tbSel 7 (tb hpm (by decide)) ‹_› (by decide)) | (exact tbSel 8 (tb hpm (by decide)) ‹_› (by decide)) | (dsimp only))

theorem execBulkDataReadFault_within {pm : Nat} (hpm : pm &&& 0xa7540588 = 0xa7540588) (tag : Nat) (s : State) :
    Meaning pm s (execBulkDataReadFault tag s) := by
  unfold execBulkDataReadFault
  apply within_finish
  repeat' (first | (with_reducible (first | assumption | exact within_skip | exact within_nil | apply within_cons | apply within_ite | apply within_read | apply within_put | apply abortConv_within | apply complete_within | apply modChart_within))
                   | (with_reducible intro _) | ((with_reducible refine sub hpm ?_); decide) | ((with_reducible refine tb hpm ?_); first | decide | (exact rfl) | (dsimp only [Eff.part]; decide)) | ((with_reducible refine tbAny ?_); refine sub hpm ?_; decide) | split | (exact tbSel 7 (tb hpm (by decide)) ‹_› (by decide)) | (exact tbSel 8 (tb hpm (by decide)) ‹_› (by decide)) | (dsimp only))

end Sys2Proof.Machine
end

