-- ==== Sys2Proof/Laws/Instances.lean ====
section
/-! SUPPORT. What each program of Machine/Instances.lean can change, as a set of parts (Laws/Within.lean); for a command, of its meaning. -/

set_option linter.all false
set_option maxRecDepth 20000

namespace Sys2Proof.Machine

theorem refreshIns_within {pm : Nat} (hpm : pm &&& 0x100 = 0x100) (i : Nat) :
    (refreshIns i).Within pm := by
  unfold refreshIns
  repeat' (first | (with_reducible (first | assumption | exact within_skip | exact within_nil | apply within_cons | apply within_ite | apply within_read | apply within_putN | apply refreshChans_within))
                   | (with_reducible intro _) | ((with_reducible refine sub hpm ?_); decide) | ((with_reducible refine tb hpm ?_); first | decide | (exact rfl) | (dsimp only [Eff.part]; decide)) | ((with_reducible refine tbAny ?_); refine sub hpm ?_; decide) | split | (exact tbSel 7 (tb hpm (by decide)) ‹_› (by decide)) | (exact tbSel 8 (tb hpm (by decide)) ‹_› (by decide)) | (dsimp only))

theorem completeIns_within {pm : Nat} (hpm : pm &&& 0x7540580 = 0x7540580) (tag status i : Nat) :
    (completeIns tag status i).Within pm := by
  unfold completeIns
  repeat' (first | (with_reducible (first | assumption | exact within_skip | exact within_nil | apply within_cons | apply within_read | apply complete_within | apply refreshIns_within))
                   | (with_reducible intro _) | ((with_reducible refine sub hpm ?_); decide) | ((with_reducible refine tb hpm ?_); first | decide | (exact rfl) | (dsimp only [Eff.part]; decide)) | ((with_reducible refine tbAny ?_); refine sub hpm ?_; decide) | split | (exact tbSel 7 (tb hpm (by decide)) ‹_› (by decide)) | (exact tbSel 8 (tb hpm (by decide)) ‹_› (by decide)) | (dsimp only))

theorem insEnabling_within {pm : Nat} (hpm : pm &&& 0x2000100 = 0x2000100) (i : Nat) (refused : Prog) (hyp_refused : refused.Within pm) :
    (insEnabling i refused).Within pm := by
  unfold insEnabling
  repeat' (first | (with_reducible (first | assumption | exact within_skip | exact within_nil | apply within_cons | apply within_ite | apply within_read | apply within_putN | apply within_raise | apply within_clear | apply modIns_within))
                   | (with_reducible intro _) | ((with_reducible refine sub hpm ?_); decide) | ((with_reducible refine tb hpm ?_); first | decide | (exact rfl) | (dsimp only [Eff.part]; decide)) | ((with_reducible refine tbAny ?_); refine sub hpm ?_; decide) | split | (exact tbSel 7 (tb hpm (by decide)) ‹_› (by decide)) | (exact tbSel 8 (tb hpm (by decide)) ‹_› (by decide)) | (dsimp only))

theorem insOff_within {pm : Nat} (hpm : pm &&& 0x7540580 = 0x7540580) (i : Nat) :
    (insOff i).Within pm := by
  unfold insOff
  repeat' (first | (with_reducible (first | assumption | exact within_skip | exact within_nil | apply within_cons | apply within_whenP | apply within_forP | apply within_read | apply within_putN | apply within_clear | apply complete_within | apply insEnabling_within | apply modIns_within | apply refreshIns_within))
                   | (with_reducible intro _) | ((with_reducible refine sub hpm ?_); decide) | ((with_reducible refine tb hpm ?_); first | decide | (exact rfl) | (dsimp only [Eff.part]; decide)) | ((with_reducible refine tbAny ?_); refine sub hpm ?_; decide) | split | (exact tbSel 7 (tb hpm (by decide)) ‹_› (by decide)) | (exact tbSel 8 (tb hpm (by decide)) ‹_› (by decide)) | (dsimp only))

theorem insEnable_within {pm : Nat} (hpm : pm &&& 0x2000100 = 0x2000100) (i : Nat) (refused done : Prog) (hyp_refused : refused.Within pm) (hyp_done : done.Within pm) :
    (insEnable i refused done).Within pm := by
  unfold insEnable
  repeat' (first | (with_reducible (first | assumption | exact within_skip | exact within_nil | apply within_cons | apply within_ite | apply within_read | apply within_raise | apply insEnabling_within | apply refreshIns_within))
                   | (with_reducible intro _) | ((with_reducible refine sub hpm ?_); decide) | ((with_reducible refine tb hpm ?_); first | decide | (exact rfl) | (dsimp only [Eff.part]; decide)) | ((with_reducible refine tbAny ?_); refine sub hpm ?_; decide) | split | (exact tbSel 7 (tb hpm (by decide)) ‹_› (by decide)) | (exact tbSel 8 (tb hpm (by decide)) ‹_› (by decide)) | (dsimp only))

theorem execInsEnable_within {pm : Nat} (hpm : pm &&& 0x2000100 = 0x2000100) (s : State) :
    Meaning pm s (execInsEnable s) := by
  unfold execInsEnable
  apply within_finish
  repeat' (first | (with_reducible (first | assumption | exact within_skip | exact within_nil | apply within_cons | apply insEnable_within))
                   | (with_reducible intro _) | ((with_reducible refine sub hpm ?_); decide) | ((with_reducible refine tb hpm ?_); first | decide | (exact rfl) | (dsimp only [Eff.part]; decide)) | ((with_reducible refine tbAny ?_); refine sub hpm ?_; decide) | split | (exact tbSel 7 (tb hpm (by decide)) ‹_› (by decide)) | (exact tbSel 8 (tb hpm (by decide)) ‹_› (by decide)) | (dsimp only))

theorem execInstanceEnabled_within {pm : Nat} (hpm : pm &&& 0x7540580 = 0x7540580) (i : Nat) (s : State) :
    Meaning pm s (execInstanceEnabled i s) := by
  unfold execInstanceEnabled
  apply within_finish
  repeat' (first | (with_reducible (first | assumption | exact within_skip | exact within_nil | apply within_cons | apply within_whenP | apply within_forP | apply within_putN | apply within_raise | apply completeIns_within))
                   | (with_reducible intro _) | ((with_reducible refine sub hpm ?_); decide) | ((with_reducible refine tb hpm ?_); first | decide | (exact rfl) | (dsimp only [Eff.part]; decide)) | ((with_reducible refine tbAny ?_); refine sub hpm ?_; decide) | split | (exact tbSel 7 (tb hpm (by decide)) ‹_› (by decide)) | (exact tbSel 8 (tb hpm (by decide)) ‹_› (by decide)) | (dsimp only))

theorem insDisable_within {pm : Nat} (hpm : pm &&& 0x7540580 = 0x7540580) (i : Nat) :
    (insDisable i).Within pm := by
  unfold insDisable
  repeat' (first | (with_reducible (first | assumption | exact within_skip | exact within_nil | apply within_cons | apply within_whenP | apply within_forP | apply within_ite | apply within_read | apply within_putN | apply within_raise | apply within_clear | apply complete_within | apply insOff_within | apply sqDisable_within))
                   | (with_reducible intro _) | ((with_reducible refine sub hpm ?_); decide) | ((with_reducible refine tb hpm ?_); first | decide | (exact rfl) | (dsimp only [Eff.part]; decide)) | ((with_reducible refine tbAny ?_); refine sub hpm ?_; decide) | split | (exact tbSel 7 (tb hpm (by decide)) ‹_› (by decide)) | (exact tbSel 8 (tb hpm (by decide)) ‹_› (by decide)) | (dsimp only))

theorem execInsDisable_within {pm : Nat} (hpm : pm &&& 0x7540580 = 0x7540580) (s : State) :
    Meaning pm s (execInsDisable s) := by
  unfold execInsDisable
  apply within_finish
  repeat' (first | (with_reducible (first | assumption | exact within_skip | exact within_nil | apply within_cons | apply insDisable_within))
                   | (with_reducible intro _) | ((with_reducible refine sub hpm ?_); decide) | ((with_reducible refine tb hpm ?_); first | decide | (exact rfl) | (dsimp only [Eff.part]; decide)) | ((with_reducible refine tbAny ?_); refine sub hpm ?_; decide) | split | (exact tbSel 7 (tb hpm (by decide)) ‹_› (by decide)) | (exact tbSel 8 (tb hpm (by decide)) ‹_› (by decide)) | (dsimp only))

theorem insHold_within {pm : Nat} (hpm : pm &&& 0x100 = 0x100) (i : Nat) (v : Bool) :
    (insHold i v).Within pm := by
  unfold insHold
  repeat' (first | (with_reducible (first | assumption | exact within_skip | exact within_nil | apply within_cons | apply within_ite | apply within_putN))
                   | (with_reducible intro _) | ((with_reducible refine sub hpm ?_); decide) | ((with_reducible refine tb hpm ?_); first | decide | (exact rfl) | (dsimp only [Eff.part]; decide)) | ((with_reducible refine tbAny ?_); refine sub hpm ?_; decide) | split | (exact tbSel 7 (tb hpm (by decide)) ‹_› (by decide)) | (exact tbSel 8 (tb hpm (by decide)) ‹_› (by decide)) | (dsimp only))

theorem execInsHoldWrite_within {pm : Nat} (hpm : pm &&& 0x100 = 0x100) (v : Bool) (s : State) :
    Meaning pm s (execInsHoldWrite v s) := by
  unfold execInsHoldWrite
  apply within_finish
  repeat' (first | (with_reducible (first | assumption | exact within_skip | exact within_nil | apply within_cons | apply insHold_within))
                   | (with_reducible intro _) | ((with_reducible refine sub hpm ?_); decide) | ((with_reducible refine tb hpm ?_); first | decide | (exact rfl) | (dsimp only [Eff.part]; decide)) | ((with_reducible refine tbAny ?_); refine sub hpm ?_; decide) | split | (exact tbSel 7 (tb hpm (by decide)) ‹_› (by decide)) | (exact tbSel 8 (tb hpm (by decide)) ‹_› (by decide)) | (dsimp only))

theorem execInsFail_within {pm : Nat} (hpm : pm &&& 0x4400500 = 0x4400500) (s : State) :
    Meaning pm s (execInsFail s) := by
  unfold execInsFail
  apply within_finish
  repeat' (first | (with_reducible (first | assumption | exact within_skip | exact within_nil | apply within_cons | apply insError_within))
                   | (with_reducible intro _) | ((with_reducible refine sub hpm ?_); decide) | ((with_reducible refine tb hpm ?_); first | decide | (exact rfl) | (dsimp only [Eff.part]; decide)) | ((with_reducible refine tbAny ?_); refine sub hpm ?_; decide) | split | (exact tbSel 7 (tb hpm (by decide)) ‹_› (by decide)) | (exact tbSel 8 (tb hpm (by decide)) ‹_› (by decide)) | (dsimp only))

theorem holdEffect_within {pm : Nat} (hpm : pm &&& 0x100 = 0x100)  :
    (holdEffect).Within pm := by
  unfold holdEffect
  repeat' (first | (with_reducible (first | assumption | exact within_skip | exact within_nil | apply within_cons | apply within_forP | apply within_read | apply within_putN))
                   | (with_reducible intro _) | ((with_reducible refine sub hpm ?_); decide) | ((with_reducible refine tb hpm ?_); first | decide | (exact rfl) | (dsimp only [Eff.part]; decide)) | ((with_reducible refine tbAny ?_); refine sub hpm ?_; decide) | split | (exact tbSel 7 (tb hpm (by decide)) ‹_› (by decide)) | (exact tbSel 8 (tb hpm (by decide)) ‹_› (by decide)) | (dsimp only))

theorem taskWipe_within {pm : Nat} (hpm : pm &&& 0x1070077545b0 = 0x1070077545b0) (t : Nat) :
    (taskWipe t).Within pm := by
  unfold taskWipe
  repeat' (first | (with_reducible (first | assumption | exact within_skip | exact within_nil | apply within_cons | apply within_ite | apply within_read | apply modHelm_within | apply modTaskOf_within | apply refreshHelm_within | apply taskEnd_within | apply taskGone_within))
                   | (with_reducible intro _) | ((with_reducible refine sub hpm ?_); decide) | ((with_reducible refine tb hpm ?_); first | decide | (exact rfl) | (dsimp only [Eff.part]; decide)) | ((with_reducible refine tbAny ?_); refine sub hpm ?_; decide) | split | (exact tbSel 7 (tb hpm (by decide)) ‹_› (by decide)) | (exact tbSel 8 (tb hpm (by decide)) ‹_› (by decide)) | (dsimp only))

theorem wipeQueues_within {pm : Nat} (hpm : pm &&& 0x87540580 = 0x87540580) (i : Nat) :
    (wipeQueues i).Within pm := by
  unfold wipeQueues
  repeat' (first | (with_reducible (first | assumption | exact within_skip | exact within_nil | apply within_cons | apply within_whenP | apply within_forP | apply within_read | apply within_putN | apply within_put | apply deliverBlocked_within | apply dropFrags_within | apply freeTag_within | apply modConv_within | apply modPipe_within | apply modQ_within | apply resetFields_within | apply wakeIdle_within))
                   | (with_reducible intro _) | ((with_reducible refine sub hpm ?_); decide) | ((with_reducible refine tb hpm ?_); first | decide | (exact rfl) | (dsimp only [Eff.part]; decide)) | ((with_reducible refine tbAny ?_); refine sub hpm ?_; decide) | split | (exact tbSel 7 (tb hpm (by decide)) ‹_› (by decide)) | (exact tbSel 8 (tb hpm (by decide)) ‹_› (by decide)) | (dsimp only))

theorem wipePi_within {pm : Nat} (hpm : pm &&& 0x8000000140 = 0x8000000140) (i : Nat) :
    (wipePi i).Within pm := by
  unfold wipePi
  repeat' (first | (with_reducible (first | assumption | exact within_skip | exact within_nil | apply within_cons | apply within_read | apply within_clear | apply modStream_within))
                   | (with_reducible intro _) | ((with_reducible refine sub hpm ?_); decide) | ((with_reducible refine tb hpm ?_); first | decide | (exact rfl) | (dsimp only [Eff.part]; decide)) | ((with_reducible refine tbAny ?_); refine sub hpm ?_; decide) | split | (exact tbSel 7 (tb hpm (by decide)) ‹_› (by decide)) | (exact tbSel 8 (tb hpm (by decide)) ‹_› (by decide)) | (dsimp only))

theorem wipeVectors_within {m : Nat} (hm : m &&& 0x4000400 = 0x4000400) (i : Nat) : (wipeVectors i).Within m := by
  have h : ∀ f ∈ [Fld.HIC_ERR_CAUSE.LOG_LOST, Fld.HIC_ERR_CAUSE.INS_ERROR, Fld.HIC_ERR_CAUSE.CQ_ERROR, Fld.HIC_ERR_CAUSE.SQ_ERROR,
      Fld.HIC_ERR_CAUSE.PI_FAULT, Fld.HIC_ERR_CAUSE.CH_FAULT], blockOf f.row = 10 := by decide
  refine within_read fun s => within_cons (within_forP fun v => vectorStops_within (sub hm (by decide)) _) (within_cons ?_ within_nil)
  exact within_forP_mem fun f hf => within_clear (by rw [h f hf]; exact tb hm (by decide))

theorem wipeLog_within {pm : Nat} (hpm : pm &&& 0x2000100 = 0x2000100) (i : Nat) :
    (wipeLog i).Within pm := by
  unfold wipeLog
  repeat' (first | (with_reducible (first | assumption | exact within_skip | exact within_nil | apply within_cons | apply within_clear | apply modIns_within))
                   | (with_reducible intro _) | ((with_reducible refine sub hpm ?_); decide) | ((with_reducible refine tb hpm ?_); first | decide | (exact rfl) | (dsimp only [Eff.part]; decide)) | ((with_reducible refine tbAny ?_); refine sub hpm ?_; decide) | split | (exact tbSel 7 (tb hpm (by decide)) ‹_› (by decide)) | (exact tbSel 8 (tb hpm (by decide)) ‹_› (by decide)) | (dsimp only))

theorem insWipe_within {pm : Nat} (hpm : pm &&& 0x10f0877545f0 = 0x10f0877545f0) (i : Nat) :
    (insWipe i).Within pm := by
  unfold insWipe
  repeat' (first | (with_reducible (first | assumption | exact within_skip | exact within_nil | apply within_cons | apply within_forP | apply within_ite | apply within_read | apply within_raise | apply within_clear | apply chForce_within | apply complete_within | apply completeIns_within | apply refreshTasks_within | apply taskWipe_within | apply wipeLog_within | apply wipePi_within | apply wipeQueues_within | apply wipeVectors_within))
                   | (with_reducible intro _) | ((with_reducible refine sub hpm ?_); decide) | ((with_reducible refine tb hpm ?_); first | decide | (exact rfl) | (dsimp only [Eff.part]; decide)) | ((with_reducible refine tbAny ?_); refine sub hpm ?_; decide) | split | (exact tbSel 7 (tb hpm (by decide)) ‹_› (by decide)) | (exact tbSel 8 (tb hpm (by decide)) ‹_› (by decide)) | (dsimp only))

theorem insWipeOff_within {pm : Nat} (hpm : pm &&& 0x10f0877545f0 = 0x10f0877545f0) (i : Nat) :
    (insWipeOff i).Within pm := by
  unfold insWipeOff
  repeat' (first | (with_reducible (first | assumption | exact within_skip | exact within_nil | apply within_cons | apply within_raise | apply within_clear | apply insOff_within | apply insWipe_within))
                   | (with_reducible intro _) | ((with_reducible refine sub hpm ?_); decide) | ((with_reducible refine tb hpm ?_); first | decide | (exact rfl) | (dsimp only [Eff.part]; decide)) | ((with_reducible refine tbAny ?_); refine sub hpm ?_; decide) | split | (exact tbSel 7 (tb hpm (by decide)) ‹_› (by decide)) | (exact tbSel 8 (tb hpm (by decide)) ‹_› (by decide)) | (dsimp only))

theorem insQuiesced_within {pm : Nat} (hpm : pm &&& 0x10f0877545f0 = 0x10f0877545f0) (i : Nat) :
    (insQuiesced i).Within pm := by
  unfold insQuiesced
  repeat' (first | (with_reducible (first | assumption | exact within_skip | exact within_nil | apply within_cons | apply within_whenP | apply within_forP | apply within_read | apply within_raise | apply completeIns_within | apply insOff_within | apply insWipe_within | apply refreshIns_within))
                   | (with_reducible intro _) | ((with_reducible refine sub hpm ?_); decide) | ((with_reducible refine tb hpm ?_); first | decide | (exact rfl) | (dsimp only [Eff.part]; decide)) | ((with_reducible refine tbAny ?_); refine sub hpm ?_; decide) | split | (exact tbSel 7 (tb hpm (by decide)) ‹_› (by decide)) | (exact tbSel 8 (tb hpm (by decide)) ‹_› (by decide)) | (dsimp only))

theorem execInstanceQuiesced_within {pm : Nat} (hpm : pm &&& 0x10f0877545f0 = 0x10f0877545f0) (i : Nat) (s : State) :
    Meaning pm s (execInstanceQuiesced i s) := by
  unfold execInstanceQuiesced
  apply within_finish
  repeat' (first | (with_reducible (first | assumption | exact within_skip | exact within_nil | apply within_cons | apply within_whenP | apply insQuiesced_within))
                   | (with_reducible intro _) | ((with_reducible refine sub hpm ?_); decide) | ((with_reducible refine tb hpm ?_); first | decide | (exact rfl) | (dsimp only [Eff.part]; decide)) | ((with_reducible refine tbAny ?_); refine sub hpm ?_; decide) | split | (exact tbSel 7 (tb hpm (by decide)) ‹_› (by decide)) | (exact tbSel 8 (tb hpm (by decide)) ‹_› (by decide)) | (dsimp only))

theorem forceStart_within {pm : Nat} (hpm : pm &&& 0x80875405c0 = 0x80875405c0) (i : Nat) (flr : Bool) :
    (forceStart i flr).Within pm := by
  unfold forceStart
  repeat' (first | (with_reducible (first | assumption | exact within_skip | exact within_nil | apply within_cons | apply within_forP | apply within_ite | apply within_read | apply within_raise | apply abortConv_within | apply chForce_within | apply freeTag_within | apply modConvOf_within | apply modIns_within | apply modQ_within))
                   | (with_reducible intro _) | ((with_reducible refine sub hpm ?_); decide) | ((with_reducible refine tb hpm ?_); first | decide | (exact rfl) | (dsimp only [Eff.part]; decide)) | ((with_reducible refine tbAny ?_); refine sub hpm ?_; decide) | split | (exact tbSel 7 (tb hpm (by decide)) ‹_› (by decide)) | (exact tbSel 8 (tb hpm (by decide)) ‹_› (by decide)) | (dsimp only))

theorem forceWipes_within {pm : Nat} (hpm : pm &&& 0x10f0877545f0 = 0x10f0877545f0)  :
    (forceWipes).Within pm := by
  unfold forceWipes
  repeat' (first | (with_reducible (first | assumption | exact within_skip | exact within_nil | apply within_cons | apply within_whenP | apply within_forP | apply within_read | apply within_raise | apply within_clear | apply complete_within | apply insOff_within | apply insWipe_within | apply modIns_within))
                   | (with_reducible intro _) | ((with_reducible refine sub hpm ?_); decide) | ((with_reducible refine tb hpm ?_); first | decide | (exact rfl) | (dsimp only [Eff.part]; decide)) | ((with_reducible refine tbAny ?_); refine sub hpm ?_; decide) | split | (exact tbSel 7 (tb hpm (by decide)) ‹_› (by decide)) | (exact tbSel 8 (tb hpm (by decide)) ‹_› (by decide)) | (dsimp only))

theorem forceIns_within {pm : Nat} (hpm : pm &&& 0x10f0877545f0 = 0x10f0877545f0) (i : Nat) (flr : Bool) :
    (forceIns i flr).Within pm := by
  unfold forceIns
  repeat' (first | (with_reducible (first | assumption | exact within_skip | exact within_nil | apply within_cons | apply within_whenP | apply within_read | apply forceStart_within | apply forceWipes_within | apply holdEffect_within))
                   | (with_reducible intro _) | ((with_reducible refine sub hpm ?_); decide) | ((with_reducible refine tb hpm ?_); first | decide | (exact rfl) | (dsimp only [Eff.part]; decide)) | ((with_reducible refine tbAny ?_); refine sub hpm ?_; decide) | split | (exact tbSel 7 (tb hpm (by decide)) ‹_› (by decide)) | (exact tbSel 8 (tb hpm (by decide)) ‹_› (by decide)) | (dsimp only))

theorem insCmd_within {pm : Nat} (hpm : pm &&& 0x7540580 = 0x7540580) (tag op : Nat) (i0 : Bool) (k : Cmd → Nat → Prog) (hyp_k : ∀ v0 v1, (k v0 v1).Within pm) :
    (insCmd tag op i0 k).Within pm := by
  unfold insCmd
  repeat' (first | (with_reducible (first | assumption | exact within_skip | exact within_nil | apply within_cons | apply within_ite | apply hyp_k | apply complete_within | apply withCmd_within))
                   | (with_reducible intro _) | ((with_reducible refine sub hpm ?_); decide) | ((with_reducible refine tb hpm ?_); first | decide | (exact rfl) | (dsimp only [Eff.part]; decide)) | ((with_reducible refine tbAny ?_); refine sub hpm ?_; decide) | split | (exact tbSel 7 (tb hpm (by decide)) ‹_› (by decide)) | (exact tbSel 8 (tb hpm (by decide)) ‹_› (by decide)) | (dsimp only))

theorem execBindInstance_within {pm : Nat} (hpm : pm &&& 0x7540580 = 0x7540580) (tag : Nat) (s : State) :
    Meaning pm s (execBindInstance tag s) := by
  unfold execBindInstance
  apply within_finish
  repeat' (first | (with_reducible (first | assumption | exact within_skip | exact within_nil | apply within_cons | apply within_ite | apply within_read | apply within_putN | apply complete_within | apply insCmd_within))
                   | (with_reducible intro _) | ((with_reducible refine sub hpm ?_); decide) | ((with_reducible refine tb hpm ?_); first | decide | (exact rfl) | (dsimp only [Eff.part]; decide)) | ((with_reducible refine tbAny ?_); refine sub hpm ?_; decide) | split | (exact tbSel 7 (tb hpm (by decide)) ‹_› (by decide)) | (exact tbSel 8 (tb hpm (by decide)) ‹_› (by decide)) | (dsimp only))

theorem execSetShares_within {m : Nat} (hm : m &&& 0x7540580 = 0x7540580) (tag : Nat) (s : State) :
    Meaning m s (execSetShares tag s) := by
  have h : ∀ c : Cmd, ∀ e ∈ shareList c, blockOf e.1.row = 8 := by
    intro c e he
    simp only [shareList, List.mem_cons, List.not_mem_nil, or_false] at he
    rcases he with rfl | rfl | rfl | rfl | rfl | rfl <;> dsimp only <;> decide
  apply within_finish
  refine insCmd_within (sub hm (by decide)) _ _ _ _ fun c i => ?_
  apply within_ite
  · refine within_cons (within_forP_mem fun e he => within_putN ?_) (within_cons (within_read fun t => within_putN (tb hm (by decide)))
      (within_cons (refreshIns_within (sub hm (by decide)) _) (within_cons (complete_within (sub hm (by decide)) _ _ _ _) within_nil)))
    simp only [List.mem_map, List.mem_filter] at he
    obtain ⟨p, ⟨hp, _⟩, rfl⟩ := he
    rw [h c p.1 (List.fst_mem_of_mem_zipIdx hp)]
    exact tb hm (by decide)
  · exact complete_within (sub hm (by decide)) _ _ _ _

theorem insCtrl_within {pm : Nat} (hpm : pm &&& 0x7540580 = 0x7540580) (tag action : Nat) (k : Nat → Prog) (hyp_k : ∀ v0, (k v0).Within pm) :
    (insCtrl tag action k).Within pm := by
  unfold insCtrl
  repeat' (first | (with_reducible (first | assumption | exact within_skip | exact within_nil | apply within_cons | apply within_ite | apply hyp_k | apply complete_within | apply withAction_within))
                   | (with_reducible intro _) | ((with_reducible refine sub hpm ?_); decide) | ((with_reducible refine tb hpm ?_); first | decide | (exact rfl) | (dsimp only [Eff.part]; decide)) | ((with_reducible refine tbAny ?_); refine sub hpm ?_; decide) | split | (exact tbSel 7 (tb hpm (by decide)) ‹_› (by decide)) | (exact tbSel 8 (tb hpm (by decide)) ‹_› (by decide)) | (dsimp only))

theorem execInstanceCtrlEnable_within {pm : Nat} (hpm : pm &&& 0x7540580 = 0x7540580) (tag : Nat) (s : State) :
    Meaning pm s (execInstanceCtrlEnable tag s) := by
  unfold execInstanceCtrlEnable
  apply within_finish
  repeat' (first | (with_reducible (first | assumption | exact within_skip | exact within_nil | apply within_cons | apply complete_within | apply completeIns_within | apply insCtrl_within | apply insEnable_within | apply running_within))
                   | (with_reducible intro _) | ((with_reducible refine sub hpm ?_); decide) | ((with_reducible refine tb hpm ?_); first | decide | (exact rfl) | (dsimp only [Eff.part]; decide)) | ((with_reducible refine tbAny ?_); refine sub hpm ?_; decide) | split | (exact tbSel 7 (tb hpm (by decide)) ‹_› (by decide)) | (exact tbSel 8 (tb hpm (by decide)) ‹_› (by decide)) | (dsimp only))

theorem execInstanceCtrlDisable_within {pm : Nat} (hpm : pm &&& 0x7540580 = 0x7540580) (tag : Nat) (s : State) :
    Meaning pm s (execInstanceCtrlDisable tag s) := by
  unfold execInstanceCtrlDisable
  apply within_finish
  repeat' (first | (with_reducible (first | assumption | exact within_skip | exact within_nil | apply within_cons | apply completeIns_within | apply insCtrl_within | apply insDisable_within))
                   | (with_reducible intro _) | ((with_reducible refine sub hpm ?_); decide) | ((with_reducible refine tb hpm ?_); first | decide | (exact rfl) | (dsimp only [Eff.part]; decide)) | ((with_reducible refine tbAny ?_); refine sub hpm ?_; decide) | split | (exact tbSel 7 (tb hpm (by decide)) ‹_› (by decide)) | (exact tbSel 8 (tb hpm (by decide)) ‹_› (by decide)) | (dsimp only))

theorem execInstanceCtrlHold_within {pm : Nat} (hpm : pm &&& 0x7540580 = 0x7540580) (tag : Nat) (s : State) :
    Meaning pm s (execInstanceCtrlHold tag s) := by
  unfold execInstanceCtrlHold
  apply within_finish
  repeat' (first | (with_reducible (first | assumption | exact within_skip | exact within_nil | apply within_cons | apply completeIns_within | apply insCtrl_within | apply insHold_within))
                   | (with_reducible intro _) | ((with_reducible refine sub hpm ?_); decide) | ((with_reducible refine tb hpm ?_); first | decide | (exact rfl) | (dsimp only [Eff.part]; decide)) | ((with_reducible refine tbAny ?_); refine sub hpm ?_; decide) | split | (exact tbSel 7 (tb hpm (by decide)) ‹_› (by decide)) | (exact tbSel 8 (tb hpm (by decide)) ‹_› (by decide)) | (dsimp only))

theorem execInstanceCtrlUnhold_within {pm : Nat} (hpm : pm &&& 0x7540580 = 0x7540580) (tag : Nat) (s : State) :
    Meaning pm s (execInstanceCtrlUnhold tag s) := by
  unfold execInstanceCtrlUnhold
  apply within_finish
  repeat' (first | (with_reducible (first | assumption | exact within_skip | exact within_nil | apply within_cons | apply completeIns_within | apply insCtrl_within | apply insHold_within))
                   | (with_reducible intro _) | ((with_reducible refine sub hpm ?_); decide) | ((with_reducible refine tb hpm ?_); first | decide | (exact rfl) | (dsimp only [Eff.part]; decide)) | ((with_reducible refine tbAny ?_); refine sub hpm ?_; decide) | split | (exact tbSel 7 (tb hpm (by decide)) ‹_› (by decide)) | (exact tbSel 8 (tb hpm (by decide)) ‹_› (by decide)) | (dsimp only))

theorem execInstanceCtrlFail_within {pm : Nat} (hpm : pm &&& 0x7540580 = 0x7540580) (tag : Nat) (s : State) :
    Meaning pm s (execInstanceCtrlFail tag s) := by
  unfold execInstanceCtrlFail
  apply within_finish
  repeat' (first | (with_reducible (first | assumption | exact within_skip | exact within_nil | apply within_cons | apply within_ite | apply within_read | apply complete_within | apply completeIns_within | apply insCtrl_within | apply insError_within))
                   | (with_reducible intro _) | ((with_reducible refine sub hpm ?_); decide) | ((with_reducible refine tb hpm ?_); first | decide | (exact rfl) | (dsimp only [Eff.part]; decide)) | ((with_reducible refine tbAny ?_); refine sub hpm ?_; decide) | split | (exact tbSel 7 (tb hpm (by decide)) ‹_› (by decide)) | (exact tbSel 8 (tb hpm (by decide)) ‹_› (by decide)) | (dsimp only))

theorem execQuiesce_within {pm : Nat} (hpm : pm &&& 0x10f0877545f0 = 0x10f0877545f0) (tag : Nat) (s : State) :
    Meaning pm s (execQuiesce tag s) := by
  unfold execQuiesce
  apply within_finish
  repeat' (first | (with_reducible (first | assumption | exact within_skip | exact within_nil | apply within_cons | apply within_forP | apply within_read | apply chAbort_within | apply insCmd_within | apply insHold_within | apply insQuiesced_within | apply running_within | apply sqDisable_within))
                   | (with_reducible intro _) | ((with_reducible refine sub hpm ?_); decide) | ((with_reducible refine tb hpm ?_); first | decide | (exact rfl) | (dsimp only [Eff.part]; decide)) | ((with_reducible refine tbAny ?_); refine sub hpm ?_; decide) | split | (exact tbSel 7 (tb hpm (by decide)) ‹_› (by decide)) | (exact tbSel 8 (tb hpm (by decide)) ‹_› (by decide)) | (dsimp only))

theorem execQuiesceTimeout_within {pm : Nat} (hpm : pm &&& 0xf540580 = 0xf540580) (tag : Nat) (s : State) :
    Meaning pm s (execQuiesceTimeout tag s) := by
  unfold execQuiesceTimeout
  apply within_finish
  repeat' (first | (with_reducible (first | assumption | exact within_skip | exact within_nil | apply within_cons | apply within_whenP | apply atNs_within | apply completeIns_within))
                   | (with_reducible intro _) | ((with_reducible refine sub hpm ?_); decide) | ((with_reducible refine tb hpm ?_); first | decide | (exact rfl) | (dsimp only [Eff.part]; decide)) | ((with_reducible refine tbAny ?_); refine sub hpm ?_; decide) | split | (exact tbSel 7 (tb hpm (by decide)) ‹_› (by decide)) | (exact tbSel 8 (tb hpm (by decide)) ‹_› (by decide)) | (dsimp only))

theorem execResetInstance_within {pm : Nat} (hpm : pm &&& 0x10f0877545f0 = 0x10f0877545f0) (tag : Nat) (s : State) :
    Meaning pm s (execResetInstance tag s) := by
  unfold execResetInstance
  apply within_finish
  repeat' (first | (with_reducible (first | assumption | exact within_skip | exact within_nil | apply within_cons | apply within_whenP | apply within_ite | apply within_read | apply complete_within | apply completeIns_within | apply insCmd_within | apply insWipeOff_within))
                   | (with_reducible intro _) | ((with_reducible refine sub hpm ?_); decide) | ((with_reducible refine tb hpm ?_); first | decide | (exact rfl) | (dsimp only [Eff.part]; decide)) | ((with_reducible refine tbAny ?_); refine sub hpm ?_; decide) | split | (exact tbSel 7 (tb hpm (by decide)) ‹_› (by decide)) | (exact tbSel 8 (tb hpm (by decide)) ‹_› (by decide)) | (dsimp only))

theorem execResetInstanceForce_within {pm : Nat} (hpm : pm &&& 0x10f0877545f0 = 0x10f0877545f0) (tag : Nat) (s : State) :
    Meaning pm s (execResetInstanceForce tag s) := by
  unfold execResetInstanceForce
  apply within_finish
  repeat' (first | (with_reducible (first | assumption | exact within_skip | exact within_nil | apply within_cons | apply within_whenP | apply within_ite | apply within_read | apply complete_within | apply forceIns_within | apply running_within | apply withCmd_within))
                   | (with_reducible intro _) | ((with_reducible refine sub hpm ?_); decide) | ((with_reducible refine tb hpm ?_); first | decide | (exact rfl) | (dsimp only [Eff.part]; decide)) | ((with_reducible refine tbAny ?_); refine sub hpm ?_; decide) | split | (exact tbSel 7 (tb hpm (by decide)) ‹_› (by decide)) | (exact tbSel 8 (tb hpm (by decide)) ‹_› (by decide)) | (dsimp only))

theorem logbook_within {pm : Nat} (hpm : pm &&& 0x7540580 = 0x7540580) (tag action : Nat) (k : Cmd → Nat → Prog) (hyp_k : ∀ v0 v1, (k v0 v1).Within pm) :
    (logbook tag action k).Within pm := by
  unfold logbook
  repeat' (first | (with_reducible (first | assumption | exact within_skip | exact within_nil | apply within_cons | apply within_ite | apply hyp_k | apply complete_within | apply withAction_within))
                   | (with_reducible intro _) | ((with_reducible refine sub hpm ?_); decide) | ((with_reducible refine tb hpm ?_); first | decide | (exact rfl) | (dsimp only [Eff.part]; decide)) | ((with_reducible refine tbAny ?_); refine sub hpm ?_; decide) | split | (exact tbSel 7 (tb hpm (by decide)) ‹_› (by decide)) | (exact tbSel 8 (tb hpm (by decide)) ‹_› (by decide)) | (dsimp only))

theorem logDone_within {pm : Nat} (hpm : pm &&& 0x7540580 = 0x7540580) (tag i : Nat) :
    (logDone tag i).Within pm := by
  unfold logDone
  repeat' (first | (with_reducible (first | assumption | exact within_skip | exact within_nil | apply within_cons | apply within_read | apply complete_within))
                   | (with_reducible intro _) | ((with_reducible refine sub hpm ?_); decide) | ((with_reducible refine tb hpm ?_); first | decide | (exact rfl) | (dsimp only [Eff.part]; decide)) | ((with_reducible refine tbAny ?_); refine sub hpm ?_; decide) | split | (exact tbSel 7 (tb hpm (by decide)) ‹_› (by decide)) | (exact tbSel 8 (tb hpm (by decide)) ‹_› (by decide)) | (dsimp only))

theorem execLogbookStart_within {pm : Nat} (hpm : pm &&& 0x7540580 = 0x7540580) (tag : Nat) (s : State) :
    Meaning pm s (execLogbookStart tag s) := by
  unfold execLogbookStart
  apply within_finish
  repeat' (first | (with_reducible (first | assumption | exact within_skip | exact within_nil | apply within_cons | apply within_ite | apply within_read | apply within_putN | apply within_raise | apply within_clear | apply complete_within | apply logDone_within | apply logbook_within | apply modIns_within))
                   | (with_reducible intro _) | ((with_reducible refine sub hpm ?_); decide) | ((with_reducible refine tb hpm ?_); first | decide | (exact rfl) | (dsimp only [Eff.part]; decide)) | ((with_reducible refine tbAny ?_); refine sub hpm ?_; decide) | split | (exact tbSel 7 (tb hpm (by decide)) ‹_› (by decide)) | (exact tbSel 8 (tb hpm (by decide)) ‹_› (by decide)) | (dsimp only))

theorem execLogbookSync_within {pm : Nat} (hpm : pm &&& 0x7540580 = 0x7540580) (tag : Nat) (s : State) :
    Meaning pm s (execLogbookSync tag s) := by
  unfold execLogbookSync
  apply within_finish
  repeat' (first | (with_reducible (first | assumption | exact within_skip | exact within_nil | apply within_cons | apply logDone_within | apply logbook_within | apply modIns_within))
                   | (with_reducible intro _) | ((with_reducible refine sub hpm ?_); decide) | ((with_reducible refine tb hpm ?_); first | decide | (exact rfl) | (dsimp only [Eff.part]; decide)) | ((with_reducible refine tbAny ?_); refine sub hpm ?_; decide) | split | (exact tbSel 7 (tb hpm (by decide)) ‹_› (by decide)) | (exact tbSel 8 (tb hpm (by decide)) ‹_› (by decide)) | (dsimp only))

theorem execLogbookStop_within {pm : Nat} (hpm : pm &&& 0x7540580 = 0x7540580) (tag : Nat) (s : State) :
    Meaning pm s (execLogbookStop tag s) := by
  unfold execLogbookStop
  apply within_finish
  repeat' (first | (with_reducible (first | assumption | exact within_skip | exact within_nil | apply within_cons | apply within_clear | apply logDone_within | apply logbook_within))
                   | (with_reducible intro _) | ((with_reducible refine sub hpm ?_); decide) | ((with_reducible refine tb hpm ?_); first | decide | (exact rfl) | (dsimp only [Eff.part]; decide)) | ((with_reducible refine tbAny ?_); refine sub hpm ?_; decide) | split | (exact tbSel 7 (tb hpm (by decide)) ‹_› (by decide)) | (exact tbSel 8 (tb hpm (by decide)) ‹_› (by decide)) | (dsimp only))

theorem execReadInstance_within {pm : Nat} (hpm : pm &&& 0x7540580 = 0x7540580) (tag : Nat) (s : State) :
    Meaning pm s (execReadInstance tag s) := by
  unfold execReadInstance
  apply within_finish
  repeat' (first | (with_reducible (first | assumption | exact within_skip | exact within_nil | apply within_cons | apply within_read | apply insCmd_within | apply refreshIns_within | apply writeData_within))
                   | (with_reducible intro _) | ((with_reducible refine sub hpm ?_); decide) | ((with_reducible refine tb hpm ?_); first | decide | (exact rfl) | (dsimp only [Eff.part]; decide)) | ((with_reducible refine tbAny ?_); refine sub hpm ?_; decide) | split | (exact tbSel 7 (tb hpm (by decide)) ‹_› (by decide)) | (exact tbSel 8 (tb hpm (by decide)) ‹_› (by decide)) | (dsimp only))

theorem insBindWrite_within {pm : Nat} (hpm : pm &&& 0x100 = 0x100) (reg v : Nat) :
    (insBindWrite reg v).Within pm := by
  unfold insBindWrite
  repeat' (first | (with_reducible (first | assumption | exact within_skip | exact within_nil | apply within_cons | apply within_ite | apply within_read | apply within_putN | apply within_raise))
                   | (with_reducible intro _) | ((with_reducible refine sub hpm ?_); decide) | ((with_reducible refine tb hpm ?_); first | decide | (exact rfl) | (dsimp only [Eff.part]; decide)) | ((with_reducible refine tbAny ?_); refine sub hpm ?_; decide) | split | (exact tbSel 7 (tb hpm (by decide)) ‹_› (by decide)) | (exact tbSel 8 (tb hpm (by decide)) ‹_› (by decide)) | (dsimp only))

theorem execInsBindWrite_within {pm : Nat} (hpm : pm &&& 0x100 = 0x100) (reg v : Nat) (s : State) :
    Meaning pm s (execInsBindWrite reg v s) := by
  unfold execInsBindWrite
  apply within_finish
  repeat' (first | (with_reducible (first | assumption | exact within_skip | exact within_nil | apply within_cons | apply within_whenP | apply insBindWrite_within))
                   | (with_reducible intro _) | ((with_reducible refine sub hpm ?_); decide) | ((with_reducible refine tb hpm ?_); first | decide | (exact rfl) | (dsimp only [Eff.part]; decide)) | ((with_reducible refine tbAny ?_); refine sub hpm ?_; decide) | split | (exact tbSel 7 (tb hpm (by decide)) ‹_› (by decide)) | (exact tbSel 8 (tb hpm (by decide)) ‹_› (by decide)) | (dsimp only))

theorem busMasterOff_within {pm : Nat} (hpm : pm &&& 0x204400500 = 0x204400500) (fn : Nat) :
    (busMasterOff fn).Within pm := by
  unfold busMasterOff
  repeat' (first | (with_reducible (first | assumption | exact within_skip | exact within_nil | apply within_cons | apply within_forP | apply within_read | apply insError_within | apply modFn_within | apply vectorsHeld_within))
                   | (with_reducible intro _) | ((with_reducible refine sub hpm ?_); decide) | ((with_reducible refine tb hpm ?_); first | decide | (exact rfl) | (dsimp only [Eff.part]; decide)) | ((with_reducible refine tbAny ?_); refine sub hpm ?_; decide) | split | (exact tbSel 7 (tb hpm (by decide)) ‹_› (by decide)) | (exact tbSel 8 (tb hpm (by decide)) ‹_› (by decide)) | (dsimp only))

theorem execBusMasterDisable_within {pm : Nat} (hpm : pm &&& 0x204440500 = 0x204440500) (fn : Nat) (s : State) :
    Meaning pm s (execBusMasterDisable fn s) := by
  unfold execBusMasterDisable
  apply within_finish
  repeat' (first | (with_reducible (first | assumption | exact within_skip | exact within_nil | apply within_cons | apply within_whenP | apply within_raise | apply busMasterOff_within))
                   | (with_reducible intro _) | ((with_reducible refine sub hpm ?_); decide) | ((with_reducible refine tb hpm ?_); first | decide | (exact rfl) | (dsimp only [Eff.part]; decide)) | ((with_reducible refine tbAny ?_); refine sub hpm ?_; decide) | split | (exact tbSel 7 (tb hpm (by decide)) ‹_› (by decide)) | (exact tbSel 8 (tb hpm (by decide)) ‹_› (by decide)) | (dsimp only))

theorem flrInstances_within {pm : Nat} (hpm : pm &&& 0x10f0877545f0 = 0x10f0877545f0) (fn : Nat) :
    (flrInstances fn).Within pm := by
  unfold flrInstances
  repeat' (first | (with_reducible (first | assumption | exact within_skip | exact within_nil | apply within_cons | apply within_forP | apply within_read | apply forceIns_within))
                   | (with_reducible intro _) | ((with_reducible refine sub hpm ?_); decide) | ((with_reducible refine tb hpm ?_); first | decide | (exact rfl) | (dsimp only [Eff.part]; decide)) | ((with_reducible refine tbAny ?_); refine sub hpm ?_; decide) | split | (exact tbSel 7 (tb hpm (by decide)) ‹_› (by decide)) | (exact tbSel 8 (tb hpm (by decide)) ‹_› (by decide)) | (dsimp only))

theorem vfFlr_within {pm : Nat} (hpm : pm &&& 0x10f2877545f0 = 0x10f2877545f0) (fn : Nat) :
    (vfFlr fn).Within pm := by
  unfold vfFlr
  repeat' (first | (with_reducible (first | assumption | exact within_skip | exact within_nil | apply within_cons | apply within_whenP | apply within_put | apply within_raise | apply flrInstances_within | apply modFn_within | apply modIcu_within | apply vectorsHeld_within))
                   | (with_reducible intro _) | ((with_reducible refine sub hpm ?_); decide) | ((with_reducible refine tb hpm ?_); first | decide | (exact rfl) | (dsimp only [Eff.part]; decide)) | ((with_reducible refine tbAny ?_); refine sub hpm ?_; decide) | split | (exact tbSel 7 (tb hpm (by decide)) ‹_› (by decide)) | (exact tbSel 8 (tb hpm (by decide)) ‹_› (by decide)) | (dsimp only))

theorem execVfFlr_within {pm : Nat} (hpm : pm &&& 0x10f2877545f0 = 0x10f2877545f0) (fn : Nat) (s : State) :
    Meaning pm s (execVfFlr fn s) := by
  unfold execVfFlr
  apply within_finish
  repeat' (first | (with_reducible (first | assumption | exact within_skip | exact within_nil | apply within_cons | apply vfFlr_within))
                   | (with_reducible intro _) | ((with_reducible refine sub hpm ?_); decide) | ((with_reducible refine tb hpm ?_); first | decide | (exact rfl) | (dsimp only [Eff.part]; decide)) | ((with_reducible refine tbAny ?_); refine sub hpm ?_; decide) | split | (exact tbSel 7 (tb hpm (by decide)) ‹_› (by decide)) | (exact tbSel 8 (tb hpm (by decide)) ‹_› (by decide)) | (dsimp only))

theorem abortTarget_within {pm : Nat} (hpm : pm &&& 0x80875405c0 = 0x80875405c0) (t : Nat) (e : Cmd) (found : Nat → Prog) (hyp_found : ∀ v0, (found v0).Within pm) :
    (abortTarget t e found).Within pm := by
  unfold abortTarget
  repeat' (first | (with_reducible (first | assumption | exact within_skip | exact within_nil | apply within_cons | apply within_ite | apply within_read | apply hyp_found | apply abortConv_within | apply chAbort_within | apply complete_within))
                   | (with_reducible intro _) | ((with_reducible refine sub hpm ?_); decide) | ((with_reducible refine tb hpm ?_); first | decide | (exact rfl) | (dsimp only [Eff.part]; decide)) | ((with_reducible refine tbAny ?_); refine sub hpm ?_; decide) | split | (exact tbSel 7 (tb hpm (by decide)) ‹_› (by decide)) | (exact tbSel 8 (tb hpm (by decide)) ‹_› (by decide)) | (dsimp only))

theorem execAbort_within {pm : Nat} (hpm : pm &&& 0x80875405c0 = 0x80875405c0) (tag : Nat) (s : State) :
    Meaning pm s (execAbort tag s) := by
  unfold execAbort
  apply within_finish
  repeat' (first | (with_reducible (first | assumption | exact within_skip | exact within_nil | apply within_cons | apply within_ite | apply within_read | apply abortTarget_within | apply chAbort_within | apply complete_within | apply withCmd_within))
                   | (with_reducible intro _) | ((with_reducible refine sub hpm ?_); decide) | ((with_reducible refine tb hpm ?_); first | decide | (exact rfl) | (dsimp only [Eff.part]; decide)) | ((with_reducible refine tbAny ?_); refine sub hpm ?_; decide) | split | (exact tbSel 7 (tb hpm (by decide)) ‹_› (by decide)) | (exact tbSel 8 (tb hpm (by decide)) ‹_› (by decide)) | (dsimp only))

end Sys2Proof.Machine
end

