-- ==== Sys2Proof/Laws/CablePower.lean ====
section
/-! SUPPORT. What each program of Machine/CablePower.lean can change, as a set of parts (Laws/Within.lean); for a command, of its meaning. -/

set_option linter.all false
set_option maxRecDepth 20000

namespace Sys2Proof.Machine

theorem refreshBudget_within {pm : Nat} (hpm : pm &&& 0x800 = 0x800)  :
    (refreshBudget).Within pm := by
  unfold refreshBudget
  repeat' (first | (with_reducible (first | assumption | exact within_skip | exact within_nil | apply within_cons | apply within_read | apply within_put))
                   | (with_reducible intro _) | ((with_reducible refine sub hpm ?_); decide) | ((with_reducible refine tb hpm ?_); first | decide | (exact rfl) | (dsimp only [Eff.part]; decide)) | ((with_reducible refine tbAny ?_); refine sub hpm ?_; decide) | split | (exact tbSel 7 (tb hpm (by decide)) ‹_› (by decide)) | (exact tbSel 8 (tb hpm (by decide)) ‹_› (by decide)) | (dsimp only))

theorem portEvent_within {pm : Nat} (hpm : pm &&& 0x800 = 0x800) (f : Field) (p : Nat) (hyp_f : pm.testBit (blockOf f.row) = true) :
    (portEvent f p).Within pm := by
  unfold portEvent
  repeat' (first | (with_reducible (first | assumption | exact within_skip | exact within_nil | apply within_cons | apply within_whenP | apply within_read | apply within_put | apply within_raise))
                   | (with_reducible intro _) | ((with_reducible refine sub hpm ?_); decide) | ((with_reducible refine tb hpm ?_); first | decide | (exact rfl) | (dsimp only [Eff.part]; decide)) | ((with_reducible refine tbAny ?_); refine sub hpm ?_; decide) | split | (exact tbSel 7 (tb hpm (by decide)) ‹_› (by decide)) | (exact tbSel 8 (tb hpm (by decide)) ‹_› (by decide)) | (dsimp only))

theorem powerChanged_within {pm : Nat} (hpm : pm &&& 0x7540580 = 0x7540580) (p kind : Nat) :
    (powerChanged p kind).Within pm := by
  unfold powerChanged
  repeat' (first | (with_reducible (first | assumption | exact within_skip | exact within_nil | apply within_cons | apply postEvent_within))
                   | (with_reducible intro _) | ((with_reducible refine sub hpm ?_); decide) | ((with_reducible refine tb hpm ?_); first | decide | (exact rfl) | (dsimp only [Eff.part]; decide)) | ((with_reducible refine tbAny ?_); refine sub hpm ?_; decide) | split | (exact tbSel 7 (tb hpm (by decide)) ‹_› (by decide)) | (exact tbSel 8 (tb hpm (by decide)) ‹_› (by decide)) | (dsimp only))

theorem pmbusRead_within {pm : Nat} (hpm : pm &&& 0x400000 = 0x400000) (target code : Nat) :
    (pmbusRead target code).Within pm := by
  unfold pmbusRead
  repeat' (first | (with_reducible (first | assumption | exact within_skip | exact within_nil | apply within_cons | apply within_read | apply within_emit))
                   | (with_reducible intro _) | ((with_reducible refine sub hpm ?_); decide) | ((with_reducible refine tb hpm ?_); first | decide | (exact rfl) | (dsimp only [Eff.part]; decide)) | ((with_reducible refine tbAny ?_); refine sub hpm ?_; decide) | split | (exact tbSel 7 (tb hpm (by decide)) ‹_› (by decide)) | (exact tbSel 8 (tb hpm (by decide)) ‹_› (by decide)) | (dsimp only))

theorem pmbusNext_within {pm : Nat} (hpm : pm &&& 0x400400000 = 0x400400000)  :
    (pmbusNext).Within pm := by
  unfold pmbusNext
  repeat' (first | (with_reducible (first | assumption | exact within_skip | exact within_nil | apply within_cons | apply within_whenP | apply within_read | apply within_emit | apply modCpw_within))
                   | (with_reducible intro _) | ((with_reducible refine sub hpm ?_); decide) | ((with_reducible refine tb hpm ?_); first | decide | (exact rfl) | (dsimp only [Eff.part]; decide)) | ((with_reducible refine tbAny ?_); refine sub hpm ?_; decide) | split | (exact tbSel 7 (tb hpm (by decide)) ‹_› (by decide)) | (exact tbSel 8 (tb hpm (by decide)) ‹_› (by decide)) | (dsimp only))

theorem pmbusStart_within {pm : Nat} (hpm : pm &&& 0x400400000 = 0x400400000) (target : Nat) (l : List (Nat × Nat)) :
    (pmbusStart target l).Within pm := by
  unfold pmbusStart
  repeat' (first | (with_reducible (first | assumption | exact within_skip | exact within_nil | apply within_cons | apply modCpw_within | apply pmbusNext_within))
                   | (with_reducible intro _) | ((with_reducible refine sub hpm ?_); decide) | ((with_reducible refine tb hpm ?_); first | decide | (exact rfl) | (dsimp only [Eff.part]; decide)) | ((with_reducible refine tbAny ?_); refine sub hpm ?_; decide) | split | (exact tbSel 7 (tb hpm (by decide)) ‹_› (by decide)) | (exact tbSel 8 (tb hpm (by decide)) ‹_› (by decide)) | (dsimp only))

theorem modEnd_within {pm : Nat} (hpm : pm &&& 0x500000000 = 0x500000000) (e : Nat) (f : PwcEnd → PwcEnd) :
    (modEnd e f).Within pm := by
  unfold modEnd
  repeat' (first | (with_reducible (first | assumption | exact within_skip | exact within_nil | apply within_cons | apply within_ite | apply modDev_within | apply modPwc_within))
                   | (with_reducible intro _) | ((with_reducible refine sub hpm ?_); decide) | ((with_reducible refine tb hpm ?_); first | decide | (exact rfl) | (dsimp only [Eff.part]; decide)) | ((with_reducible refine tbAny ?_); refine sub hpm ?_; decide) | split | (exact tbSel 7 (tb hpm (by decide)) ‹_› (by decide)) | (exact tbSel 8 (tb hpm (by decide)) ‹_› (by decide)) | (dsimp only))

theorem sendFirst_within {pm : Nat} (hpm : pm &&& 0x500400000 = 0x500400000) (e : Nat) :
    (sendFirst e).Within pm := by
  unfold sendFirst
  repeat' (first | (with_reducible (first | assumption | exact within_skip | exact within_nil | apply within_cons | apply within_read | apply within_emit | apply modEnd_within))
                   | (with_reducible intro _) | ((with_reducible refine sub hpm ?_); decide) | ((with_reducible refine tb hpm ?_); first | decide | (exact rfl) | (dsimp only [Eff.part]; decide)) | ((with_reducible refine tbAny ?_); refine sub hpm ?_; decide) | split | (exact tbSel 7 (tb hpm (by decide)) ‹_› (by decide)) | (exact tbSel 8 (tb hpm (by decide)) ‹_› (by decide)) | (dsimp only))

theorem sendMessage_within {pm : Nat} (hpm : pm &&& 0x500400000 = 0x500400000) (e type word : Nat) :
    (sendMessage e type word).Within pm := by
  unfold sendMessage
  repeat' (first | (with_reducible (first | assumption | exact within_skip | exact within_nil | apply within_cons | apply within_whenP | apply within_read | apply modEnd_within | apply sendFirst_within))
                   | (with_reducible intro _) | ((with_reducible refine sub hpm ?_); decide) | ((with_reducible refine tb hpm ?_); first | decide | (exact rfl) | (dsimp only [Eff.part]; decide)) | ((with_reducible refine tbAny ?_); refine sub hpm ?_; decide) | split | (exact tbSel 7 (tb hpm (by decide)) ‹_› (by decide)) | (exact tbSel 8 (tb hpm (by decide)) ‹_› (by decide)) | (dsimp only))

theorem takeMessage_within {pm : Nat} (hpm : pm &&& 0x500400000 = 0x500400000) (e : Nat) (levels : List Bool) (types : List Nat) (heard : Prog) (k : Nat → Nat → Prog) (hyp_heard : heard.Within pm) (hyp_k : ∀ v0 v1, (k v0 v1).Within pm) :
    (takeMessage e levels types heard k).Within pm := by
  unfold takeMessage
  repeat' (first | (with_reducible (first | assumption | exact within_skip | exact within_nil | apply within_cons | apply within_whenP | apply within_read | apply within_emit | apply hyp_k | apply modEnd_within | apply sendFirst_within))
                   | (with_reducible intro _) | ((with_reducible refine sub hpm ?_); decide) | ((with_reducible refine tb hpm ?_); first | decide | (exact rfl) | (dsimp only [Eff.part]; decide)) | ((with_reducible refine tbAny ?_); refine sub hpm ?_; decide) | split | (exact tbSel 7 (tb hpm (by decide)) ‹_› (by decide)) | (exact tbSel 8 (tb hpm (by decide)) ‹_› (by decide)) | (dsimp only))

theorem takeAck_within {pm : Nat} (hpm : pm &&& 0x508400000 = 0x508400000) (e begin : Nat) (levels : List Bool) (k : PwcMessage → Prog) (hyp_k : ∀ v0, (k v0).Within pm) :
    (takeAck e begin levels k).Within pm := by
  unfold takeAck
  repeat' (first | (with_reducible (first | assumption | exact within_skip | exact within_nil | apply within_cons | apply within_whenP | apply within_read | apply hyp_k | apply atNs_within | apply modEnd_within | apply sendFirst_within))
                   | (with_reducible intro _) | ((with_reducible refine sub hpm ?_); decide) | ((with_reducible refine tb hpm ?_); first | decide | (exact rfl) | (dsimp only [Eff.part]; decide)) | ((with_reducible refine tbAny ?_); refine sub hpm ?_; decide) | split | (exact tbSel 7 (tb hpm (by decide)) ‹_› (by decide)) | (exact tbSel 8 (tb hpm (by decide)) ‹_› (by decide)) | (dsimp only))

theorem sinkHeard_within {pm : Nat} (hpm : pm &&& 0x400000800 = 0x400000800) (p : Nat) :
    (sinkHeard p).Within pm := by
  unfold sinkHeard
  repeat' (first | (with_reducible (first | assumption | exact within_skip | exact within_nil | apply within_cons | apply within_read | apply within_putN | apply modPwc_within))
                   | (with_reducible intro _) | ((with_reducible refine sub hpm ?_); decide) | ((with_reducible refine tb hpm ?_); first | decide | (exact rfl) | (dsimp only [Eff.part]; decide)) | ((with_reducible refine tbAny ?_); refine sub hpm ?_; decide) | split | (exact tbSel 7 (tb hpm (by decide)) ‹_› (by decide)) | (exact tbSel 8 (tb hpm (by decide)) ‹_› (by decide)) | (dsimp only))

theorem sourceTakes_within {pm : Nat} (hpm : pm &&& 0x500400800 = 0x500400800) (p : Nat) (levels : List Bool) (types : List Nat) (k : Nat → Nat → Prog) (hyp_k : ∀ v0 v1, (k v0 v1).Within pm) :
    (sourceTakes p levels types k).Within pm := by
  unfold sourceTakes
  repeat' (first | (with_reducible (first | assumption | exact within_skip | exact within_nil | apply within_cons | apply within_whenP | apply within_read | apply within_raise | apply hyp_k | apply sinkHeard_within | apply takeMessage_within))
                   | (with_reducible intro _) | ((with_reducible refine sub hpm ?_); decide) | ((with_reducible refine tb hpm ?_); first | decide | (exact rfl) | (dsimp only [Eff.part]; decide)) | ((with_reducible refine tbAny ?_); refine sub hpm ?_; decide) | split | (exact tbSel 7 (tb hpm (by decide)) ‹_› (by decide)) | (exact tbSel 8 (tb hpm (by decide)) ‹_› (by decide)) | (dsimp only))

theorem sendReject_within {pm : Nat} (hpm : pm &&& 0x500400800 = 0x500400800) (p status : Nat) :
    (sendReject p status).Within pm := by
  unfold sendReject
  repeat' (first | (with_reducible (first | assumption | exact within_skip | exact within_nil | apply within_cons | apply within_putN | apply sendMessage_within))
                   | (with_reducible intro _) | ((with_reducible refine sub hpm ?_); decide) | ((with_reducible refine tb hpm ?_); first | decide | (exact rfl) | (dsimp only [Eff.part]; decide)) | ((with_reducible refine tbAny ?_); refine sub hpm ?_; decide) | split | (exact tbSel 7 (tb hpm (by decide)) ‹_› (by decide)) | (exact tbSel 8 (tb hpm (by decide)) ‹_› (by decide)) | (dsimp only))

theorem sendCollided_within {pm : Nat} (hpm : pm &&& 0x500400800 = 0x500400800) (p : Nat) :
    (sendCollided p).Within pm := by
  unfold sendCollided
  repeat' (first | (with_reducible (first | assumption | exact within_skip | exact within_nil | apply within_cons | apply portEvent_within | apply sendReject_within))
                   | (with_reducible intro _) | ((with_reducible refine sub hpm ?_); decide) | ((with_reducible refine tb hpm ?_); first | decide | (exact rfl) | (dsimp only [Eff.part]; decide)) | ((with_reducible refine tbAny ?_); refine sub hpm ?_; decide) | split | (exact tbSel 7 (tb hpm (by decide)) ‹_› (by decide)) | (exact tbSel 8 (tb hpm (by decide)) ‹_› (by decide)) | (dsimp only))

theorem portCmdDone_within {pm : Nat} (hpm : pm &&& 0x7540580 = 0x7540580) (action p status : Nat) :
    (portCmdDone action p status).Within pm := by
  unfold portCmdDone
  repeat' (first | (with_reducible (first | assumption | exact within_skip | exact within_nil | apply within_cons | apply within_read | apply completeWaiting_within))
                   | (with_reducible intro _) | ((with_reducible refine sub hpm ?_); decide) | ((with_reducible refine tb hpm ?_); first | decide | (exact rfl) | (dsimp only [Eff.part]; decide)) | ((with_reducible refine tbAny ?_); refine sub hpm ?_; decide) | split | (exact tbSel 7 (tb hpm (by decide)) ‹_› (by decide)) | (exact tbSel 8 (tb hpm (by decide)) ‹_› (by decide)) | (dsimp only))

theorem setCstate_within {pm : Nat} (hpm : pm &&& 0x800 = 0x800) (p v : Nat) :
    (setCstate p v).Within pm := by
  unfold setCstate
  repeat' (first | (with_reducible (first | assumption | exact within_skip | exact within_nil | apply within_cons | apply within_whenP | apply within_putN | apply within_clear))
                   | (with_reducible intro _) | ((with_reducible refine sub hpm ?_); decide) | ((with_reducible refine tb hpm ?_); first | decide | (exact rfl) | (dsimp only [Eff.part]; decide)) | ((with_reducible refine tbAny ?_); refine sub hpm ?_; decide) | split | (exact tbSel 7 (tb hpm (by decide)) ‹_› (by decide)) | (exact tbSel 8 (tb hpm (by decide)) ‹_› (by decide)) | (dsimp only))

theorem setPen_within {pm : Nat} (hpm : pm &&& 0x400800 = 0x400800) (p : Nat) (v : Bool) :
    (setPen p v).Within pm := by
  unfold setPen
  repeat' (first | (with_reducible (first | assumption | exact within_skip | exact within_nil | apply within_cons | apply within_whenP | apply within_ite | apply within_read | apply within_putN | apply within_emit))
                   | (with_reducible intro _) | ((with_reducible refine sub hpm ?_); decide) | ((with_reducible refine tb hpm ?_); first | decide | (exact rfl) | (dsimp only [Eff.part]; decide)) | ((with_reducible refine tbAny ?_); refine sub hpm ?_; decide) | split | (exact tbSel 7 (tb hpm (by decide)) ‹_› (by decide)) | (exact tbSel 8 (tb hpm (by decide)) ‹_› (by decide)) | (dsimp only))

theorem endReduce_within {pm : Nat} (hpm : pm &&& 0x407540580 = 0x407540580) (p : Nat) :
    (endReduce p).Within pm := by
  unfold endReduce
  repeat' (first | (with_reducible (first | assumption | exact within_skip | exact within_nil | apply within_cons | apply within_whenP | apply within_read | apply modPwc_within | apply portCmdDone_within))
                   | (with_reducible intro _) | ((with_reducible refine sub hpm ?_); decide) | ((with_reducible refine tb hpm ?_); first | decide | (exact rfl) | (dsimp only [Eff.part]; decide)) | ((with_reducible refine tbAny ?_); refine sub hpm ?_; decide) | split | (exact tbSel 7 (tb hpm (by decide)) ‹_› (by decide)) | (exact tbSel 8 (tb hpm (by decide)) ‹_› (by decide)) | (dsimp only))

theorem contractEnds_within {pm : Nat} (hpm : pm &&& 0x407540d80 = 0x407540d80) (p : Nat) :
    (contractEnds p).Within pm := by
  unfold contractEnds
  repeat' (first | (with_reducible (first | assumption | exact within_skip | exact within_nil | apply within_cons | apply within_putN | apply within_clear | apply endReduce_within | apply modPwc_within))
                   | (with_reducible intro _) | ((with_reducible refine sub hpm ?_); decide) | ((with_reducible refine tb hpm ?_); first | decide | (exact rfl) | (dsimp only [Eff.part]; decide)) | ((with_reducible refine tbAny ?_); refine sub hpm ?_; decide) | split | (exact tbSel 7 (tb hpm (by decide)) ‹_› (by decide)) | (exact tbSel 8 (tb hpm (by decide)) ‹_› (by decide)) | (dsimp only))

theorem portFault_within {pm : Nat} (hpm : pm &&& 0x407540d80 = 0x407540d80) (p : Nat) :
    (portFault p).Within pm := by
  unfold portFault
  repeat' (first | (with_reducible (first | assumption | exact within_skip | exact within_nil | apply within_cons | apply within_read | apply contractEnds_within | apply modPwc_within | apply pmbusStart_within | apply portEvent_within | apply powerChanged_within | apply refreshBudget_within | apply setCstate_within | apply setPen_within))
                   | (with_reducible intro _) | ((with_reducible refine sub hpm ?_); decide) | ((with_reducible refine tb hpm ?_); first | decide | (exact rfl) | (dsimp only [Eff.part]; decide)) | ((with_reducible refine tbAny ?_); refine sub hpm ?_; decide) | split | (exact tbSel 7 (tb hpm (by decide)) ‹_› (by decide)) | (exact tbSel 8 (tb hpm (by decide)) ‹_› (by decide)) | (dsimp only))

theorem sinkLost_within {pm : Nat} (hpm : pm &&& 0x204c7540d84 = 0x204c7540d84) (p : Nat) :
    (sinkLost p).Within pm := by
  unfold sinkLost
  repeat' (first | (with_reducible (first | assumption | exact within_skip | exact within_nil | apply within_cons | apply within_read | apply contractEnds_within | apply modPwc_within | apply pmbusStart_within | apply portEvent_within | apply powerChanged_within | apply refreshBudget_within | apply setCstate_within | apply setPen_within | apply subtreeGone_within))
                   | (with_reducible intro _) | ((with_reducible refine sub hpm ?_); decide) | ((with_reducible refine tb hpm ?_); first | decide | (exact rfl) | (dsimp only [Eff.part]; decide)) | ((with_reducible refine tbAny ?_); refine sub hpm ?_; decide) | split | (exact tbSel 7 (tb hpm (by decide)) ‹_› (by decide)) | (exact tbSel 8 (tb hpm (by decide)) ‹_› (by decide)) | (dsimp only))

theorem enterTransition_within {pm : Nat} (hpm : pm &&& 0x400400800 = 0x400400800) (p word : Nat) (reverting expired : Bool) :
    (enterTransition p word reverting expired).Within pm := by
  unfold enterTransition
  repeat' (first | (with_reducible (first | assumption | exact within_skip | exact within_nil | apply within_cons | apply within_read | apply modPwc_within | apply pmbusStart_within | apply setCstate_within))
                   | (with_reducible intro _) | ((with_reducible refine sub hpm ?_); decide) | ((with_reducible refine tb hpm ?_); first | decide | (exact rfl) | (dsimp only [Eff.part]; decide)) | ((with_reducible refine tbAny ?_); refine sub hpm ?_; decide) | split | (exact tbSel 7 (tb hpm (by decide)) ‹_› (by decide)) | (exact tbSel 8 (tb hpm (by decide)) ‹_› (by decide)) | (dsimp only))

theorem revert_within {pm : Nat} (hpm : pm &&& 0x400400800 = 0x400400800) (p : Nat) (expired : Bool) :
    (revert p expired).Within pm := by
  unfold revert
  repeat' (first | (with_reducible (first | assumption | exact within_skip | exact within_nil | apply within_cons | apply enterTransition_within))
                   | (with_reducible intro _) | ((with_reducible refine sub hpm ?_); decide) | ((with_reducible refine tb hpm ?_); first | decide | (exact rfl) | (dsimp only [Eff.part]; decide)) | ((with_reducible refine tbAny ?_); refine sub hpm ?_; decide) | split | (exact tbSel 7 (tb hpm (by decide)) ‹_› (by decide)) | (exact tbSel 8 (tb hpm (by decide)) ‹_› (by decide)) | (dsimp only))

theorem reachDefault_within {pm : Nat} (hpm : pm &&& 0x7540d80 = 0x7540d80) (p : Nat) (post : Bool) :
    (reachDefault p post).Within pm := by
  unfold reachDefault
  repeat' (first | (with_reducible (first | assumption | exact within_skip | exact within_nil | apply within_cons | apply within_whenP | apply within_putN | apply portEvent_within | apply powerChanged_within | apply refreshBudget_within | apply setCstate_within))
                   | (with_reducible intro _) | ((with_reducible refine sub hpm ?_); decide) | ((with_reducible refine tb hpm ?_); first | decide | (exact rfl) | (dsimp only [Eff.part]; decide)) | ((with_reducible refine tbAny ?_); refine sub hpm ?_; decide) | split | (exact tbSel 7 (tb hpm (by decide)) ‹_› (by decide)) | (exact tbSel 8 (tb hpm (by decide)) ‹_› (by decide)) | (dsimp only))

theorem finishTransition_within {pm : Nat} (hpm : pm &&& 0x507540d80 = 0x507540d80) (p : Nat) :
    (finishTransition p).Within pm := by
  unfold finishTransition
  repeat' (first | (with_reducible (first | assumption | exact within_skip | exact within_nil | apply within_cons | apply within_whenP | apply within_ite | apply within_read | apply within_putN | apply modPwc_within | apply portEvent_within | apply powerChanged_within | apply reachDefault_within | apply refreshBudget_within | apply revert_within | apply sendMessage_within | apply setCstate_within))
                   | (with_reducible intro _) | ((with_reducible refine sub hpm ?_); decide) | ((with_reducible refine tb hpm ?_); first | decide | (exact rfl) | (dsimp only [Eff.part]; decide)) | ((with_reducible refine tbAny ?_); refine sub hpm ?_; decide) | split | (exact tbSel 7 (tb hpm (by decide)) ‹_› (by decide)) | (exact tbSel 8 (tb hpm (by decide)) ‹_› (by decide)) | (dsimp only))

theorem laneLostCable_within {pm : Nat} (hpm : pm &&& 0x205c7540d84 = 0x205c7540d84) (p : Nat) :
    (laneLostCable p).Within pm := by
  unfold laneLostCable
  repeat' (first | (with_reducible (first | assumption | exact within_skip | exact within_nil | apply within_cons | apply within_whenP | apply within_ite | apply within_read | apply sendMessage_within | apply sinkLost_within))
                   | (with_reducible intro _) | ((with_reducible refine sub hpm ?_); decide) | ((with_reducible refine tb hpm ?_); first | decide | (exact rfl) | (dsimp only [Eff.part]; decide)) | ((with_reducible refine tbAny ?_); refine sub hpm ?_; decide) | split | (exact tbSel 7 (tb hpm (by decide)) ‹_› (by decide)) | (exact tbSel 8 (tb hpm (by decide)) ‹_› (by decide)) | (dsimp only))

theorem answerRequest_within {pm : Nat} (hpm : pm &&& 0x500400800 = 0x500400800) (p word : Nat) (free : Bool) (accepted : Prog) (hyp_accepted : accepted.Within pm) :
    (answerRequest p word free accepted).Within pm := by
  unfold answerRequest
  repeat' (first | (with_reducible (first | assumption | exact within_skip | exact within_nil | apply within_cons | apply within_whenP | apply within_ite | apply within_read | apply within_raise | apply sendCollided_within | apply sendMessage_within | apply sendReject_within))
                   | (with_reducible intro _) | ((with_reducible refine sub hpm ?_); decide) | ((with_reducible refine tb hpm ?_); first | decide | (exact rfl) | (dsimp only [Eff.part]; decide)) | ((with_reducible refine tbAny ?_); refine sub hpm ?_; decide) | split | (exact tbSel 7 (tb hpm (by decide)) ‹_› (by decide)) | (exact tbSel 8 (tb hpm (by decide)) ‹_› (by decide)) | (dsimp only))

theorem execPwcGetCaps_within {pm : Nat} (hpm : pm &&& 0x500400800 = 0x500400800) (p : Nat) (levels : List Bool) (s : State) :
    Meaning pm s (execPwcGetCaps p levels s) := by
  unfold execPwcGetCaps
  apply within_finish
  repeat' (first | (with_reducible (first | assumption | exact within_skip | exact within_nil | apply within_cons | apply within_read | apply sendMessage_within | apply sourceTakes_within))
                   | (with_reducible intro _) | ((with_reducible refine sub hpm ?_); decide) | ((with_reducible refine tb hpm ?_); first | decide | (exact rfl) | (dsimp only [Eff.part]; decide)) | ((with_reducible refine tbAny ?_); refine sub hpm ?_; decide) | split | (exact tbSel 7 (tb hpm (by decide)) ‹_› (by decide)) | (exact tbSel 8 (tb hpm (by decide)) ‹_› (by decide)) | (dsimp only))

theorem execPwcRequest_within {pm : Nat} (hpm : pm &&& 0x500400800 = 0x500400800) (p : Nat) (levels : List Bool) (s : State) :
    Meaning pm s (execPwcRequest p levels s) := by
  unfold execPwcRequest
  apply within_finish
  repeat' (first | (with_reducible (first | assumption | exact within_skip | exact within_nil | apply within_cons | apply within_read | apply answerRequest_within | apply modPwc_within | apply sourceTakes_within))
                   | (with_reducible intro _) | ((with_reducible refine sub hpm ?_); decide) | ((with_reducible refine tb hpm ?_); first | decide | (exact rfl) | (dsimp only [Eff.part]; decide)) | ((with_reducible refine tbAny ?_); refine sub hpm ?_; decide) | split | (exact tbSel 7 (tb hpm (by decide)) ‹_› (by decide)) | (exact tbSel 8 (tb hpm (by decide)) ‹_› (by decide)) | (dsimp only))

theorem execPwcAckReceive_within {pm : Nat} (hpm : pm &&& 0x508400800 = 0x508400800) (e begin : Nat) (levels : List Bool) (s : State) :
    Meaning pm s (execPwcAckReceive e begin levels s) := by
  unfold execPwcAckReceive
  apply within_finish
  repeat' (first | (with_reducible (first | assumption | exact within_skip | exact within_nil | apply within_cons | apply within_whenP | apply within_read | apply within_raise | apply enterTransition_within | apply sinkHeard_within | apply takeAck_within))
                   | (with_reducible intro _) | ((with_reducible refine sub hpm ?_); decide) | ((with_reducible refine tb hpm ?_); first | decide | (exact rfl) | (dsimp only [Eff.part]; decide)) | ((with_reducible refine tbAny ?_); refine sub hpm ?_; decide) | split | (exact tbSel 7 (tb hpm (by decide)) ‹_› (by decide)) | (exact tbSel 8 (tb hpm (by decide)) ‹_› (by decide)) | (dsimp only))

theorem execPwcAckTimeout_within {pm : Nat} (hpm : pm &&& 0x508400000 = 0x508400000) (e : Nat) (s : State) :
    Meaning pm s (execPwcAckTimeout e s) := by
  unfold execPwcAckTimeout
  apply within_finish
  repeat' (first | (with_reducible (first | assumption | exact within_skip | exact within_nil | apply within_cons | apply within_whenP | apply within_ite | apply atNs_within | apply modEnd_within | apply sendFirst_within))
                   | (with_reducible intro _) | ((with_reducible refine sub hpm ?_); decide) | ((with_reducible refine tb hpm ?_); first | decide | (exact rfl) | (dsimp only [Eff.part]; decide)) | ((with_reducible refine tbAny ?_); refine sub hpm ?_; decide) | split | (exact tbSel 7 (tb hpm (by decide)) ‹_› (by decide)) | (exact tbSel 8 (tb hpm (by decide)) ‹_› (by decide)) | (dsimp only))

theorem execPwcKeepAlive_within {pm : Nat} (hpm : pm &&& 0x500400800 = 0x500400800) (p : Nat) (levels : List Bool) (s : State) :
    Meaning pm s (execPwcKeepAlive p levels s) := by
  unfold execPwcKeepAlive
  apply within_finish
  repeat' (first | (with_reducible (first | assumption | exact within_skip | exact within_nil | apply within_cons | apply sourceTakes_within))
                   | (with_reducible intro _) | ((with_reducible refine sub hpm ?_); decide) | ((with_reducible refine tb hpm ?_); first | decide | (exact rfl) | (dsimp only [Eff.part]; decide)) | ((with_reducible refine tbAny ?_); refine sub hpm ?_; decide) | split | (exact tbSel 7 (tb hpm (by decide)) ‹_› (by decide)) | (exact tbSel 8 (tb hpm (by decide)) ‹_› (by decide)) | (dsimp only))

theorem execPwcBeat_within {pm : Nat} (hpm : pm &&& 0x507540d80 = 0x507540d80) (p tenths : Nat) (s : State) :
    Meaning pm s (execPwcBeat p tenths s) := by
  unfold execPwcBeat
  apply within_finish
  repeat' (first | (with_reducible (first | assumption | exact within_skip | exact within_nil | apply within_cons | apply within_whenP | apply within_read | apply finishTransition_within | apply sinkHeard_within))
                   | (with_reducible intro _) | ((with_reducible refine sub hpm ?_); decide) | ((with_reducible refine tb hpm ?_); first | decide | (exact rfl) | (dsimp only [Eff.part]; decide)) | ((with_reducible refine tbAny ?_); refine sub hpm ?_; decide) | split | (exact tbSel 7 (tb hpm (by decide)) ‹_› (by decide)) | (exact tbSel 8 (tb hpm (by decide)) ‹_› (by decide)) | (dsimp only))

theorem execPwcSwapReq_within {pm : Nat} (hpm : pm &&& 0x507540d80 = 0x507540d80) (p : Nat) (levels : List Bool) (s : State) :
    Meaning pm s (execPwcSwapReq p levels s) := by
  unfold execPwcSwapReq
  apply within_finish
  repeat' (first | (with_reducible (first | assumption | exact within_skip | exact within_nil | apply within_cons | apply within_ite | apply within_read | apply within_putN | apply within_clear | apply answerRequest_within | apply modPwc_within | apply portEvent_within | apply powerChanged_within | apply refreshBudget_within | apply sendCollided_within | apply sendMessage_within | apply sendReject_within | apply setCstate_within | apply setPen_within | apply sourceTakes_within))
                   | (with_reducible intro _) | ((with_reducible refine sub hpm ?_); decide) | ((with_reducible refine tb hpm ?_); first | decide | (exact rfl) | (dsimp only [Eff.part]; decide)) | ((with_reducible refine tbAny ?_); refine sub hpm ?_; decide) | split | (exact tbSel 7 (tb hpm (by decide)) ‹_› (by decide)) | (exact tbSel 8 (tb hpm (by decide)) ‹_› (by decide)) | (dsimp only))

theorem execPwcLocalReady_within {pm : Nat} (hpm : pm &&& 0x500400800 = 0x500400800) (p : Nat) (levels : List Bool) (s : State) :
    Meaning pm s (execPwcLocalReady p levels s) := by
  unfold execPwcLocalReady
  apply within_finish
  repeat' (first | (with_reducible (first | assumption | exact within_skip | exact within_nil | apply within_cons | apply within_whenP | apply within_read | apply pmbusStart_within | apply setPen_within | apply sourceTakes_within))
                   | (with_reducible intro _) | ((with_reducible refine sub hpm ?_); decide) | ((with_reducible refine tb hpm ?_); first | decide | (exact rfl) | (dsimp only [Eff.part]; decide)) | ((with_reducible refine tbAny ?_); refine sub hpm ?_; decide) | split | (exact tbSel 7 (tb hpm (by decide)) ‹_› (by decide)) | (exact tbSel 8 (tb hpm (by decide)) ‹_› (by decide)) | (dsimp only))

theorem execPwcReduceAnswer_within {pm : Nat} (hpm : pm &&& 0x507540d80 = 0x507540d80) (p : Nat) (levels : List Bool) (s : State) :
    Meaning pm s (execPwcReduceAnswer p levels s) := by
  unfold execPwcReduceAnswer
  apply within_finish
  repeat' (first | (with_reducible (first | assumption | exact within_skip | exact within_nil | apply within_cons | apply within_ite | apply within_read | apply within_putN | apply endReduce_within | apply modPwc_within | apply pmbusStart_within | apply portCmdDone_within | apply portEvent_within | apply powerChanged_within | apply refreshBudget_within | apply revert_within | apply sourceTakes_within))
                   | (with_reducible intro _) | ((with_reducible refine sub hpm ?_); decide) | ((with_reducible refine tb hpm ?_); first | decide | (exact rfl) | (dsimp only [Eff.part]; decide)) | ((with_reducible refine tbAny ?_); refine sub hpm ?_; decide) | split | (exact tbSel 7 (tb hpm (by decide)) ‹_› (by decide)) | (exact tbSel 8 (tb hpm (by decide)) ‹_› (by decide)) | (dsimp only))

theorem execPwcFastSwapLow_within {pm : Nat} (hpm : pm &&& 0x407540d80 = 0x407540d80) (p tenths : Nat) (s : State) :
    Meaning pm s (execPwcFastSwapLow p tenths s) := by
  unfold execPwcFastSwapLow
  apply within_finish
  repeat' (first | (with_reducible (first | assumption | exact within_skip | exact within_nil | apply within_cons | apply within_whenP | apply within_ite | apply within_putN | apply within_clear | apply modPwc_within | apply portEvent_within | apply postEvent_within | apply refreshBudget_within | apply setCstate_within | apply setPen_within))
                   | (with_reducible intro _) | ((with_reducible refine sub hpm ?_); decide) | ((with_reducible refine tb hpm ?_); first | decide | (exact rfl) | (dsimp only [Eff.part]; decide)) | ((with_reducible refine tbAny ?_); refine sub hpm ?_; decide) | split | (exact tbSel 7 (tb hpm (by decide)) ‹_› (by decide)) | (exact tbSel 8 (tb hpm (by decide)) ‹_› (by decide)) | (dsimp only))

theorem execPwcStuck_within {pm : Nat} (hpm : pm &&& 0x800 = 0x800) (p : Nat) (s : State) :
    Meaning pm s (execPwcStuck p s) := by
  unfold execPwcStuck
  apply within_finish
  repeat' (first | (with_reducible (first | assumption | exact within_skip | exact within_nil | apply within_cons | apply within_whenP | apply portEvent_within))
                   | (with_reducible intro _) | ((with_reducible refine sub hpm ?_); decide) | ((with_reducible refine tb hpm ?_); first | decide | (exact rfl) | (dsimp only [Eff.part]; decide)) | ((with_reducible refine tbAny ?_); refine sub hpm ?_; decide) | split | (exact tbSel 7 (tb hpm (by decide)) ‹_› (by decide)) | (exact tbSel 8 (tb hpm (by decide)) ‹_› (by decide)) | (dsimp only))

theorem execVoutPoll_within {pm : Nat} (hpm : pm &&& 0x408400800 = 0x408400800) (p vout iout : Nat) (s : State) :
    Meaning pm s (execVoutPoll p vout iout s) := by
  unfold execVoutPoll
  apply within_finish
  repeat' (first | (with_reducible (first | assumption | exact within_skip | exact within_nil | apply within_cons | apply within_whenP | apply within_ite | apply within_read | apply within_putN | apply atNs_within | apply modPwc_within | apply pmbusRead_within | apply pmbusStart_within))
                   | (with_reducible intro _) | ((with_reducible refine sub hpm ?_); decide) | ((with_reducible refine tb hpm ?_); first | decide | (exact rfl) | (dsimp only [Eff.part]; decide)) | ((with_reducible refine tbAny ?_); refine sub hpm ?_; decide) | split | (exact tbSel 7 (tb hpm (by decide)) ‹_› (by decide)) | (exact tbSel 8 (tb hpm (by decide)) ‹_› (by decide)) | (dsimp only))

theorem execTransitionTimeout_within {pm : Nat} (hpm : pm &&& 0x40f540d80 = 0x40f540d80) (p : Nat) (s : State) :
    Meaning pm s (execTransitionTimeout p s) := by
  unfold execTransitionTimeout
  apply within_finish
  repeat' (first | (with_reducible (first | assumption | exact within_skip | exact within_nil | apply within_cons | apply within_whenP | apply atNs_within | apply portFault_within))
                   | (with_reducible intro _) | ((with_reducible refine sub hpm ?_); decide) | ((with_reducible refine tb hpm ?_); first | decide | (exact rfl) | (dsimp only [Eff.part]; decide)) | ((with_reducible refine tbAny ?_); refine sub hpm ?_; decide) | split | (exact tbSel 7 (tb hpm (by decide)) ‹_› (by decide)) | (exact tbSel 8 (tb hpm (by decide)) ‹_› (by decide)) | (dsimp only))

theorem execContractExpiry_within {pm : Nat} (hpm : pm &&& 0x40f540d80 = 0x40f540d80) (p : Nat) (s : State) :
    Meaning pm s (execContractExpiry p s) := by
  unfold execContractExpiry
  apply within_finish
  repeat' (first | (with_reducible (first | assumption | exact within_skip | exact within_nil | apply within_cons | apply within_whenP | apply within_ite | apply within_putN | apply within_clear | apply atNs_within | apply endReduce_within | apply pmbusStart_within | apply portEvent_within | apply powerChanged_within | apply refreshBudget_within | apply revert_within))
                   | (with_reducible intro _) | ((with_reducible refine sub hpm ?_); decide) | ((with_reducible refine tb hpm ?_); first | decide | (exact rfl) | (dsimp only [Eff.part]; decide)) | ((with_reducible refine tbAny ?_); refine sub hpm ?_; decide) | split | (exact tbSel 7 (tb hpm (by decide)) ‹_› (by decide)) | (exact tbSel 8 (tb hpm (by decide)) ‹_› (by decide)) | (dsimp only))

theorem execReduceTimeout_within {pm : Nat} (hpm : pm &&& 0x40f540d80 = 0x40f540d80) (p : Nat) (s : State) :
    Meaning pm s (execReduceTimeout p s) := by
  unfold execReduceTimeout
  apply within_finish
  repeat' (first | (with_reducible (first | assumption | exact within_skip | exact within_nil | apply within_cons | apply within_whenP | apply atNs_within | apply endReduce_within | apply revert_within))
                   | (with_reducible intro _) | ((with_reducible refine sub hpm ?_); decide) | ((with_reducible refine tb hpm ?_); first | decide | (exact rfl) | (dsimp only [Eff.part]; decide)) | ((with_reducible refine tbAny ?_); refine sub hpm ?_; decide) | split | (exact tbSel 7 (tb hpm (by decide)) ‹_› (by decide)) | (exact tbSel 8 (tb hpm (by decide)) ‹_› (by decide)) | (dsimp only))

theorem execSwappingTimeout_within {pm : Nat} (hpm : pm &&& 0x408000800 = 0x408000800) (p : Nat) (s : State) :
    Meaning pm s (execSwappingTimeout p s) := by
  unfold execSwappingTimeout
  apply within_finish
  repeat' (first | (with_reducible (first | assumption | exact within_skip | exact within_nil | apply within_cons | apply within_whenP | apply atNs_within | apply modPwc_within | apply setCstate_within))
                   | (with_reducible intro _) | ((with_reducible refine sub hpm ?_); decide) | ((with_reducible refine tb hpm ?_); first | decide | (exact rfl) | (dsimp only [Eff.part]; decide)) | ((with_reducible refine tbAny ?_); refine sub hpm ?_; decide) | split | (exact tbSel 7 (tb hpm (by decide)) ‹_› (by decide)) | (exact tbSel 8 (tb hpm (by decide)) ‹_› (by decide)) | (dsimp only))

theorem execPfaultAssert_within {pm : Nat} (hpm : pm &&& 0x407540d80 = 0x407540d80) (low : Bool) (words : List Nat) (s : State) :
    Meaning pm s (execPfaultAssert low words s) := by
  unfold execPfaultAssert
  apply within_finish
  repeat' (first | (with_reducible (first | assumption | exact within_skip | exact within_nil | apply within_cons | apply within_whenP | apply within_forP | apply within_ite | apply within_read | apply within_putN | apply pmbusRead_within | apply portFault_within))
                   | (with_reducible intro _) | ((with_reducible refine sub hpm ?_); decide) | ((with_reducible refine tb hpm ?_); first | decide | (exact rfl) | (dsimp only [Eff.part]; decide)) | ((with_reducible refine tbAny ?_); refine sub hpm ?_; decide) | split | (exact tbSel 7 (tb hpm (by decide)) ‹_› (by decide)) | (exact tbSel 8 (tb hpm (by decide)) ‹_› (by decide)) | (dsimp only))

theorem execPwcSilence_within {pm : Nat} (hpm : pm &&& 0x204cf540d84 = 0x204cf540d84) (p : Nat) (s : State) :
    Meaning pm s (execPwcSilence p s) := by
  unfold execPwcSilence
  apply within_finish
  repeat' (first | (with_reducible (first | assumption | exact within_skip | exact within_nil | apply within_cons | apply within_whenP | apply atNs_within | apply sinkLost_within))
                   | (with_reducible intro _) | ((with_reducible refine sub hpm ?_); decide) | ((with_reducible refine tb hpm ?_); first | decide | (exact rfl) | (dsimp only [Eff.part]; decide)) | ((with_reducible refine tbAny ?_); refine sub hpm ?_; decide) | split | (exact tbSel 7 (tb hpm (by decide)) ‹_› (by decide)) | (exact tbSel 8 (tb hpm (by decide)) ‹_› (by decide)) | (dsimp only))

theorem execPingTimeout_within {pm : Nat} (hpm : pm &&& 0x204cf540d84 = 0x204cf540d84) (p : Nat) (s : State) :
    Meaning pm s (execPingTimeout p s) := by
  unfold execPingTimeout
  apply within_finish
  repeat' (first | (with_reducible (first | assumption | exact within_skip | exact within_nil | apply within_cons | apply within_whenP | apply atNs_within | apply sinkLost_within))
                   | (with_reducible intro _) | ((with_reducible refine sub hpm ?_); decide) | ((with_reducible refine tb hpm ?_); first | decide | (exact rfl) | (dsimp only [Eff.part]; decide)) | ((with_reducible refine tbAny ?_); refine sub hpm ?_; decide) | split | (exact tbSel 7 (tb hpm (by decide)) ‹_› (by decide)) | (exact tbSel 8 (tb hpm (by decide)) ‹_› (by decide)) | (dsimp only))

theorem execRearmExpiry_within {pm : Nat} (hpm : pm &&& 0x408400000 = 0x408400000) (p : Nat) (s : State) :
    Meaning pm s (execRearmExpiry p s) := by
  unfold execRearmExpiry
  apply within_finish
  repeat' (first | (with_reducible (first | assumption | exact within_skip | exact within_nil | apply within_cons | apply within_whenP | apply within_ite | apply atNs_within | apply pmbusStart_within))
                   | (with_reducible intro _) | ((with_reducible refine sub hpm ?_); decide) | ((with_reducible refine tb hpm ?_); first | decide | (exact rfl) | (dsimp only [Eff.part]; decide)) | ((with_reducible refine tbAny ?_); refine sub hpm ?_; decide) | split | (exact tbSel 7 (tb hpm (by decide)) ‹_› (by decide)) | (exact tbSel 8 (tb hpm (by decide)) ‹_› (by decide)) | (dsimp only))

theorem stageWritten_within {pm : Nat} (hpm : pm &&& 0x507540d80 = 0x507540d80) (p : Nat) :
    (stageWritten p).Within pm := by
  unfold stageWritten
  repeat' (first | (with_reducible (first | assumption | exact within_skip | exact within_nil | apply within_cons | apply within_whenP | apply within_ite | apply within_read | apply within_putN | apply within_raise | apply finishTransition_within | apply modPwc_within | apply powerChanged_within | apply reachDefault_within | apply refreshBudget_within | apply setCstate_within | apply setPen_within))
                   | (with_reducible intro _) | ((with_reducible refine sub hpm ?_); decide) | ((with_reducible refine tb hpm ?_); first | decide | (exact rfl) | (dsimp only [Eff.part]; decide)) | ((with_reducible refine tbAny ?_); refine sub hpm ?_; decide) | split | (exact tbSel 7 (tb hpm (by decide)) ‹_› (by decide)) | (exact tbSel 8 (tb hpm (by decide)) ‹_› (by decide)) | (dsimp only))

theorem stageFails_within {pm : Nat} (hpm : pm &&& 0x407540d80 = 0x407540d80) (p : Nat) :
    (stageFails p).Within pm := by
  unfold stageFails
  repeat' (first | (with_reducible (first | assumption | exact within_skip | exact within_nil | apply within_cons | apply within_whenP | apply within_ite | apply within_read | apply within_putN | apply within_raise | apply pmbusStart_within | apply portCmdDone_within | apply portEvent_within | apply portFault_within | apply refreshBudget_within | apply setPen_within))
                   | (with_reducible intro _) | ((with_reducible refine sub hpm ?_); decide) | ((with_reducible refine tb hpm ?_); first | decide | (exact rfl) | (dsimp only [Eff.part]; decide)) | ((with_reducible refine tbAny ?_); refine sub hpm ?_; decide) | split | (exact tbSel 7 (tb hpm (by decide)) ‹_› (by decide)) | (exact tbSel 8 (tb hpm (by decide)) ‹_› (by decide)) | (dsimp only))

theorem cpwEnabling_within {pm : Nat} (hpm : pm &&& 0x400400800 = 0x400400800) (p : Nat) :
    (cpwEnabling p).Within pm := by
  unfold cpwEnabling
  repeat' (first | (with_reducible (first | assumption | exact within_skip | exact within_nil | apply within_cons | apply within_read | apply within_putN | apply within_raise | apply within_clear | apply pmbusStart_within))
                   | (with_reducible intro _) | ((with_reducible refine sub hpm ?_); decide) | ((with_reducible refine tb hpm ?_); first | decide | (exact rfl) | (dsimp only [Eff.part]; decide)) | ((with_reducible refine tbAny ?_); refine sub hpm ?_; decide) | split | (exact tbSel 7 (tb hpm (by decide)) ‹_› (by decide)) | (exact tbSel 8 (tb hpm (by decide)) ‹_› (by decide)) | (dsimp only))

theorem cpwEnable_within {pm : Nat} (hpm : pm &&& 0x400400800 = 0x400400800) (p : Nat) :
    (cpwEnable p).Within pm := by
  unfold cpwEnable
  repeat' (first | (with_reducible (first | assumption | exact within_skip | exact within_nil | apply within_cons | apply within_whenP | apply within_ite | apply within_read | apply within_raise | apply cpwEnabling_within))
                   | (with_reducible intro _) | ((with_reducible refine sub hpm ?_); decide) | ((with_reducible refine tb hpm ?_); first | decide | (exact rfl) | (dsimp only [Eff.part]; decide)) | ((with_reducible refine tbAny ?_); refine sub hpm ?_; decide) | split | (exact tbSel 7 (tb hpm (by decide)) ‹_› (by decide)) | (exact tbSel 8 (tb hpm (by decide)) ‹_› (by decide)) | (dsimp only))

theorem discharge_within {pm : Nat} (hpm : pm &&& 0x400400800 = 0x400400800) (p : Nat) :
    (discharge p).Within pm := by
  unfold discharge
  repeat' (first | (with_reducible (first | assumption | exact within_skip | exact within_nil | apply within_cons | apply within_read | apply within_putN | apply modPwc_within | apply pmbusStart_within | apply refreshBudget_within))
                   | (with_reducible intro _) | ((with_reducible refine sub hpm ?_); decide) | ((with_reducible refine tb hpm ?_); first | decide | (exact rfl) | (dsimp only [Eff.part]; decide)) | ((with_reducible refine tbAny ?_); refine sub hpm ?_; decide) | split | (exact tbSel 7 (tb hpm (by decide)) ‹_› (by decide)) | (exact tbSel 8 (tb hpm (by decide)) ‹_› (by decide)) | (dsimp only))

theorem cpwDisable_within {pm : Nat} (hpm : pm &&& 0x407540d80 = 0x407540d80) (p : Nat) :
    (cpwDisable p).Within pm := by
  unfold cpwDisable
  repeat' (first | (with_reducible (first | assumption | exact within_skip | exact within_nil | apply within_cons | apply within_whenP | apply within_read | apply within_clear | apply contractEnds_within | apply discharge_within | apply setCstate_within | apply setPen_within))
                   | (with_reducible intro _) | ((with_reducible refine sub hpm ?_); decide) | ((with_reducible refine tb hpm ?_); first | decide | (exact rfl) | (dsimp only [Eff.part]; decide)) | ((with_reducible refine tbAny ?_); refine sub hpm ?_; decide) | split | (exact tbSel 7 (tb hpm (by decide)) ‹_› (by decide)) | (exact tbSel 8 (tb hpm (by decide)) ‹_› (by decide)) | (dsimp only))

theorem cpwForceDefault_within {pm : Nat} (hpm : pm &&& 0x407540d80 = 0x407540d80) (p : Nat) :
    (cpwForceDefault p).Within pm := by
  unfold cpwForceDefault
  repeat' (first | (with_reducible (first | assumption | exact within_skip | exact within_nil | apply within_cons | apply within_whenP | apply within_ite | apply within_read | apply endReduce_within | apply modPwc_within | apply revert_within))
                   | (with_reducible intro _) | ((with_reducible refine sub hpm ?_); decide) | ((with_reducible refine tb hpm ?_); first | decide | (exact rfl) | (dsimp only [Eff.part]; decide)) | ((with_reducible refine tbAny ?_); refine sub hpm ?_; decide) | split | (exact tbSel 7 (tb hpm (by decide)) ‹_› (by decide)) | (exact tbSel 8 (tb hpm (by decide)) ‹_› (by decide)) | (dsimp only))

theorem execCpwEnable_within {pm : Nat} (hpm : pm &&& 0x400400800 = 0x400400800) (p : Nat) (s : State) :
    Meaning pm s (execCpwEnable p s) := by
  unfold execCpwEnable
  apply within_finish
  repeat' (first | (with_reducible (first | assumption | exact within_skip | exact within_nil | apply within_cons | apply within_whenP | apply cpwEnable_within))
                   | (with_reducible intro _) | ((with_reducible refine sub hpm ?_); decide) | ((with_reducible refine tb hpm ?_); first | decide | (exact rfl) | (dsimp only [Eff.part]; decide)) | ((with_reducible refine tbAny ?_); refine sub hpm ?_; decide) | split | (exact tbSel 7 (tb hpm (by decide)) ‹_› (by decide)) | (exact tbSel 8 (tb hpm (by decide)) ‹_› (by decide)) | (dsimp only))

theorem execCpwDisable_within {pm : Nat} (hpm : pm &&& 0x407540d80 = 0x407540d80) (p : Nat) (s : State) :
    Meaning pm s (execCpwDisable p s) := by
  unfold execCpwDisable
  apply within_finish
  repeat' (first | (with_reducible (first | assumption | exact within_skip | exact within_nil | apply within_cons | apply within_whenP | apply cpwDisable_within))
                   | (with_reducible intro _) | ((with_reducible refine sub hpm ?_); decide) | ((with_reducible refine tb hpm ?_); first | decide | (exact rfl) | (dsimp only [Eff.part]; decide)) | ((with_reducible refine tbAny ?_); refine sub hpm ?_; decide) | split | (exact tbSel 7 (tb hpm (by decide)) ‹_› (by decide)) | (exact tbSel 8 (tb hpm (by decide)) ‹_› (by decide)) | (dsimp only))

theorem execCpwEnabled_within {pm : Nat} (hpm : pm &&& 0x7540d80 = 0x7540d80) (p : Nat) (s : State) :
    Meaning pm s (execCpwEnabled p s) := by
  unfold execCpwEnabled
  apply within_finish
  repeat' (first | (with_reducible (first | assumption | exact within_skip | exact within_nil | apply within_cons | apply within_whenP | apply within_putN | apply portCmdDone_within | apply refreshBudget_within | apply setCstate_within | apply setPen_within))
                   | (with_reducible intro _) | ((with_reducible refine sub hpm ?_); decide) | ((with_reducible refine tb hpm ?_); first | decide | (exact rfl) | (dsimp only [Eff.part]; decide)) | ((with_reducible refine tbAny ?_); refine sub hpm ?_; decide) | split | (exact tbSel 7 (tb hpm (by decide)) ‹_› (by decide)) | (exact tbSel 8 (tb hpm (by decide)) ‹_› (by decide)) | (dsimp only))

theorem execCpwDischarged_within {pm : Nat} (hpm : pm &&& 0x40f540d80 = 0x40f540d80) (p : Nat) (s : State) :
    Meaning pm s (execCpwDischarged p s) := by
  unfold execCpwDischarged
  apply within_finish
  repeat' (first | (with_reducible (first | assumption | exact within_skip | exact within_nil | apply within_cons | apply within_whenP | apply within_putN | apply atNs_within | apply cpwEnabling_within | apply portCmdDone_within))
                   | (with_reducible intro _) | ((with_reducible refine sub hpm ?_); decide) | ((with_reducible refine tb hpm ?_); first | decide | (exact rfl) | (dsimp only [Eff.part]; decide)) | ((with_reducible refine tbAny ?_); refine sub hpm ?_; decide) | split | (exact tbSel 7 (tb hpm (by decide)) ‹_› (by decide)) | (exact tbSel 8 (tb hpm (by decide)) ‹_› (by decide)) | (dsimp only))

theorem execCpwForceDefault_within {pm : Nat} (hpm : pm &&& 0x407540d80 = 0x407540d80) (p : Nat) (s : State) :
    Meaning pm s (execCpwForceDefault p s) := by
  unfold execCpwForceDefault
  apply within_finish
  repeat' (first | (with_reducible (first | assumption | exact within_skip | exact within_nil | apply within_cons | apply within_whenP | apply cpwForceDefault_within))
                   | (with_reducible intro _) | ((with_reducible refine sub hpm ?_); decide) | ((with_reducible refine tb hpm ?_); first | decide | (exact rfl) | (dsimp only [Eff.part]; decide)) | ((with_reducible refine tbAny ?_); refine sub hpm ?_; decide) | split | (exact tbSel 7 (tb hpm (by decide)) ‹_› (by decide)) | (exact tbSel 8 (tb hpm (by decide)) ‹_› (by decide)) | (dsimp only))

theorem portCmdNow_within {pm : Nat} (hpm : pm &&& 0x7540580 = 0x7540580) (tag p status : Nat) :
    (portCmdNow tag p status).Within pm := by
  unfold portCmdNow
  repeat' (first | (with_reducible (first | assumption | exact within_skip | exact within_nil | apply within_cons | apply within_read | apply complete_within))
                   | (with_reducible intro _) | ((with_reducible refine sub hpm ?_); decide) | ((with_reducible refine tb hpm ?_); first | decide | (exact rfl) | (dsimp only [Eff.part]; decide)) | ((with_reducible refine tbAny ?_); refine sub hpm ?_; decide) | split | (exact tbSel 7 (tb hpm (by decide)) ‹_› (by decide)) | (exact tbSel 8 (tb hpm (by decide)) ‹_› (by decide)) | (dsimp only))

theorem execPowerPortEnable_within {pm : Nat} (hpm : pm &&& 0x407540d80 = 0x407540d80) (tag : Nat) (s : State) :
    Meaning pm s (execPowerPortEnable tag s) := by
  unfold execPowerPortEnable
  apply within_finish
  repeat' (first | (with_reducible (first | assumption | exact within_skip | exact within_nil | apply within_cons | apply within_ite | apply within_read | apply cpwEnable_within | apply portCmdNow_within | apply running_within | apply withAction_within))
                   | (with_reducible intro _) | ((with_reducible refine sub hpm ?_); decide) | ((with_reducible refine tb hpm ?_); first | decide | (exact rfl) | (dsimp only [Eff.part]; decide)) | ((with_reducible refine tbAny ?_); refine sub hpm ?_; decide) | split | (exact tbSel 7 (tb hpm (by decide)) ‹_› (by decide)) | (exact tbSel 8 (tb hpm (by decide)) ‹_› (by decide)) | (dsimp only))

theorem execPowerPortDisable_within {pm : Nat} (hpm : pm &&& 0x407540d80 = 0x407540d80) (tag : Nat) (s : State) :
    Meaning pm s (execPowerPortDisable tag s) := by
  unfold execPowerPortDisable
  apply within_finish
  repeat' (first | (with_reducible (first | assumption | exact within_skip | exact within_nil | apply within_cons | apply within_ite | apply within_read | apply cpwDisable_within | apply portCmdNow_within | apply running_within | apply withAction_within))
                   | (with_reducible intro _) | ((with_reducible refine sub hpm ?_); decide) | ((with_reducible refine tb hpm ?_); first | decide | (exact rfl) | (dsimp only [Eff.part]; decide)) | ((with_reducible refine tbAny ?_); refine sub hpm ?_; decide) | split | (exact tbSel 7 (tb hpm (by decide)) ‹_› (by decide)) | (exact tbSel 8 (tb hpm (by decide)) ‹_› (by decide)) | (dsimp only))

theorem execPowerPortForceDefault_within {pm : Nat} (hpm : pm &&& 0x407540d80 = 0x407540d80) (tag : Nat) (s : State) :
    Meaning pm s (execPowerPortForceDefault tag s) := by
  unfold execPowerPortForceDefault
  apply within_finish
  repeat' (first | (with_reducible (first | assumption | exact within_skip | exact within_nil | apply within_cons | apply cpwForceDefault_within | apply portCmdNow_within | apply withAction_within))
                   | (with_reducible intro _) | ((with_reducible refine sub hpm ?_); decide) | ((with_reducible refine tb hpm ?_); first | decide | (exact rfl) | (dsimp only [Eff.part]; decide)) | ((with_reducible refine tbAny ?_); refine sub hpm ?_; decide) | split | (exact tbSel 7 (tb hpm (by decide)) ‹_› (by decide)) | (exact tbSel 8 (tb hpm (by decide)) ‹_› (by decide)) | (dsimp only))

theorem execPowerPortReduce_within {pm : Nat} (hpm : pm &&& 0x507540580 = 0x507540580) (tag : Nat) (s : State) :
    Meaning pm s (execPowerPortReduce tag s) := by
  unfold execPowerPortReduce
  apply within_finish
  repeat' (first | (with_reducible (first | assumption | exact within_skip | exact within_nil | apply within_cons | apply within_ite | apply within_read | apply modPwc_within | apply portCmdNow_within | apply running_within | apply sendMessage_within | apply withAction_within))
                   | (with_reducible intro _) | ((with_reducible refine sub hpm ?_); decide) | ((with_reducible refine tb hpm ?_); first | decide | (exact rfl) | (dsimp only [Eff.part]; decide)) | ((with_reducible refine tbAny ?_); refine sub hpm ?_; decide) | split | (exact tbSel 7 (tb hpm (by decide)) ‹_› (by decide)) | (exact tbSel 8 (tb hpm (by decide)) ‹_› (by decide)) | (dsimp only))

theorem execPowerPortSetLimit_within {pm : Nat} (hpm : pm &&& 0x7540d80 = 0x7540d80) (tag : Nat) (s : State) :
    Meaning pm s (execPowerPortSetLimit tag s) := by
  unfold execPowerPortSetLimit
  apply within_finish
  repeat' (first | (with_reducible (first | assumption | exact within_skip | exact within_nil | apply within_cons | apply within_putN | apply portCmdNow_within | apply withAction_within))
                   | (with_reducible intro _) | ((with_reducible refine sub hpm ?_); decide) | ((with_reducible refine tb hpm ?_); first | decide | (exact rfl) | (dsimp only [Eff.part]; decide)) | ((with_reducible refine tbAny ?_); refine sub hpm ?_; decide) | split | (exact tbSel 7 (tb hpm (by decide)) ‹_› (by decide)) | (exact tbSel 8 (tb hpm (by decide)) ‹_› (by decide)) | (dsimp only))

theorem execPowerBudget_within {pm : Nat} (hpm : pm &&& 0x7540d80 = 0x7540d80) (tag : Nat) (s : State) :
    Meaning pm s (execPowerBudget tag s) := by
  unfold execPowerBudget
  apply within_finish
  repeat' (first | (with_reducible (first | assumption | exact within_skip | exact within_nil | apply within_cons | apply within_read | apply within_put | apply complete_within | apply withCmd_within))
                   | (with_reducible intro _) | ((with_reducible refine sub hpm ?_); decide) | ((with_reducible refine tb hpm ?_); first | decide | (exact rfl) | (dsimp only [Eff.part]; decide)) | ((with_reducible refine tbAny ?_); refine sub hpm ?_; decide) | split | (exact tbSel 7 (tb hpm (by decide)) ‹_› (by decide)) | (exact tbSel 8 (tb hpm (by decide)) ‹_› (by decide)) | (dsimp only))

theorem execPowerRead_within {pm : Nat} (hpm : pm &&& 0x7540d80 = 0x7540d80) (tag : Nat) (s : State) :
    Meaning pm s (execPowerRead tag s) := by
  unfold execPowerRead
  apply within_finish
  repeat' (first | (with_reducible (first | assumption | exact within_skip | exact within_nil | apply within_cons | apply within_whenP | apply within_read | apply within_putN | apply withCmd_within | apply writeData_within))
                   | (with_reducible intro _) | ((with_reducible refine sub hpm ?_); decide) | ((with_reducible refine tb hpm ?_); first | decide | (exact rfl) | (dsimp only [Eff.part]; decide)) | ((with_reducible refine tbAny ?_); refine sub hpm ?_; decide) | split | (exact tbSel 7 (tb hpm (by decide)) ‹_› (by decide)) | (exact tbSel 8 (tb hpm (by decide)) ‹_› (by decide)) | (dsimp only))

theorem sinkTakes_within {pm : Nat} (hpm : pm &&& 0x500400000 = 0x500400000) (d : Nat) (levels : List Bool) (type : Nat) (k : Nat → Prog) (hyp_k : ∀ v0, (k v0).Within pm) :
    (sinkTakes d levels type k).Within pm := by
  unfold sinkTakes
  repeat' (first | (with_reducible (first | assumption | exact within_skip | exact within_nil | apply within_cons | apply within_whenP | apply within_read | apply hyp_k | apply takeMessage_within))
                   | (with_reducible intro _) | ((with_reducible refine sub hpm ?_); decide) | ((with_reducible refine tb hpm ?_); first | decide | (exact rfl) | (dsimp only [Eff.part]; decide)) | ((with_reducible refine tbAny ?_); refine sub hpm ?_; decide) | split | (exact tbSel 7 (tb hpm (by decide)) ‹_› (by decide)) | (exact tbSel 8 (tb hpm (by decide)) ‹_› (by decide)) | (dsimp only))

theorem execPwcCaps_within {pm : Nat} (hpm : pm &&& 0x500400000 = 0x500400000) (d : Nat) (levels : List Bool) (ask : Nat) (s : State) :
    Meaning pm s (execPwcCaps d levels ask s) := by
  unfold execPwcCaps
  apply within_finish
  repeat' (first | (with_reducible (first | assumption | exact within_skip | exact within_nil | apply within_cons | apply within_whenP | apply within_ite | apply within_read | apply modDev_within | apply sendMessage_within | apply sinkTakes_within))
                   | (with_reducible intro _) | ((with_reducible refine sub hpm ?_); decide) | ((with_reducible refine tb hpm ?_); first | decide | (exact rfl) | (dsimp only [Eff.part]; decide)) | ((with_reducible refine tbAny ?_); refine sub hpm ?_; decide) | split | (exact tbSel 7 (tb hpm (by decide)) ‹_› (by decide)) | (exact tbSel 8 (tb hpm (by decide)) ‹_› (by decide)) | (dsimp only))

theorem execPwcAccept_within {pm : Nat} (hpm : pm &&& 0x500400000 = 0x500400000) (d : Nat) (levels : List Bool) (s : State) :
    Meaning pm s (execPwcAccept d levels s) := by
  unfold execPwcAccept
  apply within_finish
  repeat' (first | (with_reducible (first | assumption | exact within_skip | exact within_nil | apply within_cons | apply within_whenP | apply within_ite | apply within_read | apply modDev_within | apply sendMessage_within | apply sinkTakes_within))
                   | (with_reducible intro _) | ((with_reducible refine sub hpm ?_); decide) | ((with_reducible refine tb hpm ?_); first | decide | (exact rfl) | (dsimp only [Eff.part]; decide)) | ((with_reducible refine tbAny ?_); refine sub hpm ?_; decide) | split | (exact tbSel 7 (tb hpm (by decide)) ‹_› (by decide)) | (exact tbSel 8 (tb hpm (by decide)) ‹_› (by decide)) | (dsimp only))

theorem execPwcPsReady_within {pm : Nat} (hpm : pm &&& 0x500400000 = 0x500400000) (d : Nat) (levels : List Bool) (arm : Nat) (s : State) :
    Meaning pm s (execPwcPsReady d levels arm s) := by
  unfold execPwcPsReady
  apply within_finish
  repeat' (first | (with_reducible (first | assumption | exact within_skip | exact within_nil | apply within_cons | apply within_whenP | apply within_ite | apply within_read | apply modDev_within | apply sendMessage_within | apply sinkTakes_within))
                   | (with_reducible intro _) | ((with_reducible refine sub hpm ?_); decide) | ((with_reducible refine tb hpm ?_); first | decide | (exact rfl) | (dsimp only [Eff.part]; decide)) | ((with_reducible refine tbAny ?_); refine sub hpm ?_; decide) | split | (exact tbSel 7 (tb hpm (by decide)) ‹_› (by decide)) | (exact tbSel 8 (tb hpm (by decide)) ‹_› (by decide)) | (dsimp only))

theorem execPwcReduce_within {pm : Nat} (hpm : pm &&& 0x500400000 = 0x500400000) (d : Nat) (levels : List Bool) (s : State) :
    Meaning pm s (execPwcReduce d levels s) := by
  unfold execPwcReduce
  apply within_finish
  repeat' (first | (with_reducible (first | assumption | exact within_skip | exact within_nil | apply within_cons | apply modDev_within | apply sendMessage_within | apply sinkTakes_within))
                   | (with_reducible intro _) | ((with_reducible refine sub hpm ?_); decide) | ((with_reducible refine tb hpm ?_); first | decide | (exact rfl) | (dsimp only [Eff.part]; decide)) | ((with_reducible refine tbAny ?_); refine sub hpm ?_; decide) | split | (exact tbSel 7 (tb hpm (by decide)) ‹_› (by decide)) | (exact tbSel 8 (tb hpm (by decide)) ‹_› (by decide)) | (dsimp only))

theorem execPwcPing_within {pm : Nat} (hpm : pm &&& 0x500400000 = 0x500400000) (d : Nat) (levels : List Bool) (s : State) :
    Meaning pm s (execPwcPing d levels s) := by
  unfold execPwcPing
  apply within_finish
  repeat' (first | (with_reducible (first | assumption | exact within_skip | exact within_nil | apply within_cons | apply sinkTakes_within))
                   | (with_reducible intro _) | ((with_reducible refine sub hpm ?_); decide) | ((with_reducible refine tb hpm ?_); first | decide | (exact rfl) | (dsimp only [Eff.part]; decide)) | ((with_reducible refine tbAny ?_); refine sub hpm ?_; decide) | split | (exact tbSel 7 (tb hpm (by decide)) ‹_› (by decide)) | (exact tbSel 8 (tb hpm (by decide)) ‹_› (by decide)) | (dsimp only))

theorem execPwcReject_within {pm : Nat} (hpm : pm &&& 0x500400000 = 0x500400000) (d : Nat) (levels : List Bool) (s : State) :
    Meaning pm s (execPwcReject d levels s) := by
  unfold execPwcReject
  apply within_finish
  repeat' (first | (with_reducible (first | assumption | exact within_skip | exact within_nil | apply within_cons | apply within_ite | apply within_read | apply modDev_within | apply sinkTakes_within))
                   | (with_reducible intro _) | ((with_reducible refine sub hpm ?_); decide) | ((with_reducible refine tb hpm ?_); first | decide | (exact rfl) | (dsimp only [Eff.part]; decide)) | ((with_reducible refine tbAny ?_); refine sub hpm ?_; decide) | split | (exact tbSel 7 (tb hpm (by decide)) ‹_› (by decide)) | (exact tbSel 8 (tb hpm (by decide)) ‹_› (by decide)) | (dsimp only))

theorem execSinkSupplyFail_within {pm : Nat} (hpm : pm &&& 0x100400000 = 0x100400000) (d : Nat) (s : State) :
    Meaning pm s (execSinkSupplyFail d s) := by
  unfold execSinkSupplyFail
  apply within_finish
  repeat' (first | (with_reducible (first | assumption | exact within_skip | exact within_nil | apply within_cons | apply within_whenP | apply within_emit | apply modDev_within))
                   | (with_reducible intro _) | ((with_reducible refine sub hpm ?_); decide) | ((with_reducible refine tb hpm ?_); first | decide | (exact rfl) | (dsimp only [Eff.part]; decide)) | ((with_reducible refine tbAny ?_); refine sub hpm ?_; decide) | split | (exact tbSel 7 (tb hpm (by decide)) ‹_› (by decide)) | (exact tbSel 8 (tb hpm (by decide)) ‹_› (by decide)) | (dsimp only))

theorem execSinkVbusChange_within {pm : Nat} (hpm : pm &&& 0x100000000 = 0x100000000) (d : Nat) (present : Bool) (s : State) :
    Meaning pm s (execSinkVbusChange d present s) := by
  unfold execSinkVbusChange
  apply within_finish
  repeat' (first | (with_reducible (first | assumption | exact within_skip | exact within_nil | apply within_cons | apply within_ite | apply modDev_within))
                   | (with_reducible intro _) | ((with_reducible refine sub hpm ?_); decide) | ((with_reducible refine tb hpm ?_); first | decide | (exact rfl) | (dsimp only [Eff.part]; decide)) | ((with_reducible refine tbAny ?_); refine sub hpm ?_; decide) | split | (exact tbSel 7 (tb hpm (by decide)) ‹_› (by decide)) | (exact tbSel 8 (tb hpm (by decide)) ‹_› (by decide)) | (dsimp only))

theorem execSinkKeepAliveTimer_within {pm : Nat} (hpm : pm &&& 0x508400000 = 0x508400000) (d : Nat) (s : State) :
    Meaning pm s (execSinkKeepAliveTimer d s) := by
  unfold execSinkKeepAliveTimer
  apply within_finish
  repeat' (first | (with_reducible (first | assumption | exact within_skip | exact within_nil | apply within_cons | apply within_whenP | apply within_read | apply atNs_within | apply modDev_within | apply sendMessage_within))
                   | (with_reducible intro _) | ((with_reducible refine sub hpm ?_); decide) | ((with_reducible refine tb hpm ?_); first | decide | (exact rfl) | (dsimp only [Eff.part]; decide)) | ((with_reducible refine tbAny ?_); refine sub hpm ?_; decide) | split | (exact tbSel 7 (tb hpm (by decide)) ‹_› (by decide)) | (exact tbSel 8 (tb hpm (by decide)) ‹_› (by decide)) | (dsimp only))

theorem execSinkBeatTimer_within {pm : Nat} (hpm : pm &&& 0x108400000 = 0x108400000) (d : Nat) (s : State) :
    Meaning pm s (execSinkBeatTimer d s) := by
  unfold execSinkBeatTimer
  apply within_finish
  repeat' (first | (with_reducible (first | assumption | exact within_skip | exact within_nil | apply within_cons | apply within_whenP | apply within_read | apply within_emit | apply atNs_within | apply modDev_within))
                   | (with_reducible intro _) | ((with_reducible refine sub hpm ?_); decide) | ((with_reducible refine tb hpm ?_); first | decide | (exact rfl) | (dsimp only [Eff.part]; decide)) | ((with_reducible refine tbAny ?_); refine sub hpm ?_; decide) | split | (exact tbSel 7 (tb hpm (by decide)) ‹_› (by decide)) | (exact tbSel 8 (tb hpm (by decide)) ‹_› (by decide)) | (dsimp only))

end Sys2Proof.Machine
end

