-- ==== Sys2Proof/Laws/Reset.lean ====
section
/-! SUPPORT. What each program of Machine/Reset.lean can change, as a set of parts (Laws/Within.lean); for a command, of its meaning. -/

set_option linter.all false
set_option maxRecDepth 20000

namespace Sys2Proof.Machine

theorem fieldsIn_block : ∀ e ∈ [((0x4000, 0x6000), 1), ((0x24100, 0x24140), 11), ((0xC000, 0xE000), 4), ((0x28000, 0x28040), 13),
    ((0x28040, 0x2C000), 13), ((0x1C000, 0x1E000), 10)],
    ∀ f ∈ fieldsIn e.1.1 e.1.2, blockOf f.row = e.2 := by decide +kernel
/-- The fields of a range of offsets are in one block. -/
theorem tbIn {m lo hi : Nat} {f : Field} (b : Nat) (hb : m.testBit b = true) (hf : f ∈ fieldsIn lo hi)
    (he : ((lo, hi), b) ∈ [((0x4000, 0x6000), 1), ((0x24100, 0x24140), 11), ((0xC000, 0xE000), 4), ((0x28000, 0x28040), 13),
    ((0x28040, 0x2C000), 13), ((0x1C000, 0x1E000), 10)]) : m.testBit (blockOf f.row) = true := by
  rw [fieldsIn_block _ he f hf]; exact hb

theorem resetLane_within {pm : Nat} (hpm : pm &&& 0x810000002 = 0x810000002) (n : Nat) :
    (resetLane n).Within pm := by
  unfold resetLane
  repeat' (first | (with_reducible (first | assumption | exact within_skip | exact within_nil | apply within_cons | apply within_eff | apply resetFields_within))
                   | (with_reducible intro _) | ((with_reducible refine sub hpm ?_); decide) | ((with_reducible refine tb hpm ?_); first | decide | (exact rfl) | (dsimp only [Eff.part]; decide)) | ((with_reducible refine tbAny ?_); refine sub hpm ?_; decide) | split | (exact tbIn 1 (tb hpm (by decide)) ‹_› (by decide)) | (exact tbIn 1 (tb hpm (by decide)) (List.mem_of_mem_filter ‹_›) (by decide)) | (exact tbIn 11 (tb hpm (by decide)) ‹_› (by decide)) | (exact tbIn 11 (tb hpm (by decide)) (List.mem_of_mem_filter ‹_›) (by decide)) | (exact tbIn 4 (tb hpm (by decide)) ‹_› (by decide)) | (exact tbIn 4 (tb hpm (by decide)) (List.mem_of_mem_filter ‹_›) (by decide)) | (exact tbIn 13 (tb hpm (by decide)) ‹_› (by decide)) | (exact tbIn 13 (tb hpm (by decide)) (List.mem_of_mem_filter ‹_›) (by decide)) | (exact tbIn 10 (tb hpm (by decide)) ‹_› (by decide)) | (exact tbIn 10 (tb hpm (by decide)) (List.mem_of_mem_filter ‹_›) (by decide)) | (exact tbSel 10 (tb hpm (by decide)) ‹_› (by decide)) | (exact tbSel 7 (tb hpm (by decide)) ‹_› (by decide)) | (exact tbSel 8 (tb hpm (by decide)) ‹_› (by decide)) | (dsimp only))

theorem resetPort_within {pm : Nat} (hpm : pm &&& 0xc10400802 = 0xc10400802) (p : Nat) :
    (resetPort p).Within pm := by
  unfold resetPort
  repeat' (first | (with_reducible (first | assumption | exact within_skip | exact within_nil | apply within_cons | apply modPwc_within | apply pmbusStart_within | apply resetFields_within | apply resetLane_within))
                   | (with_reducible intro _) | ((with_reducible refine sub hpm ?_); decide) | ((with_reducible refine tb hpm ?_); first | decide | (exact rfl) | (dsimp only [Eff.part]; decide)) | ((with_reducible refine tbAny ?_); refine sub hpm ?_; decide) | split | (exact tbIn 1 (tb hpm (by decide)) ‹_› (by decide)) | (exact tbIn 1 (tb hpm (by decide)) (List.mem_of_mem_filter ‹_›) (by decide)) | (exact tbIn 11 (tb hpm (by decide)) ‹_› (by decide)) | (exact tbIn 11 (tb hpm (by decide)) (List.mem_of_mem_filter ‹_›) (by decide)) | (exact tbIn 4 (tb hpm (by decide)) ‹_› (by decide)) | (exact tbIn 4 (tb hpm (by decide)) (List.mem_of_mem_filter ‹_›) (by decide)) | (exact tbIn 13 (tb hpm (by decide)) ‹_› (by decide)) | (exact tbIn 13 (tb hpm (by decide)) (List.mem_of_mem_filter ‹_›) (by decide)) | (exact tbIn 10 (tb hpm (by decide)) ‹_› (by decide)) | (exact tbIn 10 (tb hpm (by decide)) (List.mem_of_mem_filter ‹_›) (by decide)) | (exact tbSel 10 (tb hpm (by decide)) ‹_› (by decide)) | (exact tbSel 7 (tb hpm (by decide)) ‹_› (by decide)) | (exact tbSel 8 (tb hpm (by decide)) ‹_› (by decide)) | (dsimp only))

theorem resetHelm_within {pm : Nat} (hpm : pm &&& 0x1000a00010 = 0x1000a00010) (h : Nat) (zero : Bool) :
    (resetHelm h zero).Within pm := by
  unfold resetHelm
  repeat' (first | (with_reducible (first | assumption | exact within_skip | exact within_nil | apply within_cons | apply within_ite | apply within_read | apply within_eff | apply resetFields_within))
                   | (with_reducible intro _) | ((with_reducible refine sub hpm ?_); decide) | ((with_reducible refine tb hpm ?_); first | decide | (exact rfl) | (dsimp only [Eff.part]; decide)) | ((with_reducible refine tbAny ?_); refine sub hpm ?_; decide) | split | (exact tbIn 1 (tb hpm (by decide)) ‹_› (by decide)) | (exact tbIn 1 (tb hpm (by decide)) (List.mem_of_mem_filter ‹_›) (by decide)) | (exact tbIn 11 (tb hpm (by decide)) ‹_› (by decide)) | (exact tbIn 11 (tb hpm (by decide)) (List.mem_of_mem_filter ‹_›) (by decide)) | (exact tbIn 4 (tb hpm (by decide)) ‹_› (by decide)) | (exact tbIn 4 (tb hpm (by decide)) (List.mem_of_mem_filter ‹_›) (by decide)) | (exact tbIn 13 (tb hpm (by decide)) ‹_› (by decide)) | (exact tbIn 13 (tb hpm (by decide)) (List.mem_of_mem_filter ‹_›) (by decide)) | (exact tbIn 10 (tb hpm (by decide)) ‹_› (by decide)) | (exact tbIn 10 (tb hpm (by decide)) (List.mem_of_mem_filter ‹_›) (by decide)) | (exact tbSel 10 (tb hpm (by decide)) ‹_› (by decide)) | (exact tbSel 7 (tb hpm (by decide)) ‹_› (by decide)) | (exact tbSel 8 (tb hpm (by decide)) ‹_› (by decide)) | (dsimp only))

theorem loadPairId_within {pm : Nat} (hpm : pm &&& 0x2000 = 0x2000)  :
    (loadPairId).Within pm := by
  unfold loadPairId
  repeat' (first | (with_reducible (first | assumption | exact within_skip | exact within_nil | apply within_cons | apply within_read | apply within_put))
                   | (with_reducible intro _) | ((with_reducible refine sub hpm ?_); decide) | ((with_reducible refine tb hpm ?_); first | decide | (exact rfl) | (dsimp only [Eff.part]; decide)) | ((with_reducible refine tbAny ?_); refine sub hpm ?_; decide) | split | (exact tbIn 1 (tb hpm (by decide)) ‹_› (by decide)) | (exact tbIn 1 (tb hpm (by decide)) (List.mem_of_mem_filter ‹_›) (by decide)) | (exact tbIn 11 (tb hpm (by decide)) ‹_› (by decide)) | (exact tbIn 11 (tb hpm (by decide)) (List.mem_of_mem_filter ‹_›) (by decide)) | (exact tbIn 4 (tb hpm (by decide)) ‹_› (by decide)) | (exact tbIn 4 (tb hpm (by decide)) (List.mem_of_mem_filter ‹_›) (by decide)) | (exact tbIn 13 (tb hpm (by decide)) ‹_› (by decide)) | (exact tbIn 13 (tb hpm (by decide)) (List.mem_of_mem_filter ‹_›) (by decide)) | (exact tbIn 10 (tb hpm (by decide)) ‹_› (by decide)) | (exact tbIn 10 (tb hpm (by decide)) (List.mem_of_mem_filter ‹_›) (by decide)) | (exact tbSel 10 (tb hpm (by decide)) ‹_› (by decide)) | (exact tbSel 7 (tb hpm (by decide)) ‹_› (by decide)) | (exact tbSel 8 (tb hpm (by decide)) ‹_› (by decide)) | (dsimp only))

theorem resetAux_within {pm : Nat} (hpm : pm &&& 0x20810402002 = 0x20810402002)  :
    (resetAux).Within pm := by
  unfold resetAux
  repeat' (first | (with_reducible (first | assumption | exact within_skip | exact within_nil | apply within_cons | apply within_forP | apply loadPairId_within | apply modPair_within | apply resetFields_within | apply resetLane_within | apply roleOutLow_within))
                   | (with_reducible intro _) | ((with_reducible refine sub hpm ?_); decide) | ((with_reducible refine tb hpm ?_); first | decide | (exact rfl) | (dsimp only [Eff.part]; decide)) | ((with_reducible refine tbAny ?_); refine sub hpm ?_; decide) | split | (exact tbIn 1 (tb hpm (by decide)) ‹_› (by decide)) | (exact tbIn 1 (tb hpm (by decide)) (List.mem_of_mem_filter ‹_›) (by decide)) | (exact tbIn 11 (tb hpm (by decide)) ‹_› (by decide)) | (exact tbIn 11 (tb hpm (by decide)) (List.mem_of_mem_filter ‹_›) (by decide)) | (exact tbIn 4 (tb hpm (by decide)) ‹_› (by decide)) | (exact tbIn 4 (tb hpm (by decide)) (List.mem_of_mem_filter ‹_›) (by decide)) | (exact tbIn 13 (tb hpm (by decide)) ‹_› (by decide)) | (exact tbIn 13 (tb hpm (by decide)) (List.mem_of_mem_filter ‹_›) (by decide)) | (exact tbIn 10 (tb hpm (by decide)) ‹_› (by decide)) | (exact tbIn 10 (tb hpm (by decide)) (List.mem_of_mem_filter ‹_›) (by decide)) | (exact tbSel 10 (tb hpm (by decide)) ‹_› (by decide)) | (exact tbSel 7 (tb hpm (by decide)) ‹_› (by decide)) | (exact tbSel 8 (tb hpm (by decide)) ‹_› (by decide)) | (dsimp only))

theorem resetDomain_within {pm : Nat} (hpm : pm &&& 0x21c10e02812 = 0x21c10e02812) (d : Nat) :
    (resetDomain d).Within pm := by
  unfold resetDomain
  repeat' (first | (with_reducible (first | assumption | exact within_skip | exact within_nil | apply within_cons | apply within_whenP | apply within_forP | apply within_ite | apply refreshBudget_within | apply resetAux_within | apply resetHelm_within | apply resetPort_within))
                   | (with_reducible intro _) | ((with_reducible refine sub hpm ?_); decide) | ((with_reducible refine tb hpm ?_); first | decide | (exact rfl) | (dsimp only [Eff.part]; decide)) | ((with_reducible refine tbAny ?_); refine sub hpm ?_; decide) | split | (exact tbIn 1 (tb hpm (by decide)) ‹_› (by decide)) | (exact tbIn 1 (tb hpm (by decide)) (List.mem_of_mem_filter ‹_›) (by decide)) | (exact tbIn 11 (tb hpm (by decide)) ‹_› (by decide)) | (exact tbIn 11 (tb hpm (by decide)) (List.mem_of_mem_filter ‹_›) (by decide)) | (exact tbIn 4 (tb hpm (by decide)) ‹_› (by decide)) | (exact tbIn 4 (tb hpm (by decide)) (List.mem_of_mem_filter ‹_›) (by decide)) | (exact tbIn 13 (tb hpm (by decide)) ‹_› (by decide)) | (exact tbIn 13 (tb hpm (by decide)) (List.mem_of_mem_filter ‹_›) (by decide)) | (exact tbIn 10 (tb hpm (by decide)) ‹_› (by decide)) | (exact tbIn 10 (tb hpm (by decide)) (List.mem_of_mem_filter ‹_›) (by decide)) | (exact tbSel 10 (tb hpm (by decide)) ‹_› (by decide)) | (exact tbSel 7 (tb hpm (by decide)) ‹_› (by decide)) | (exact tbSel 8 (tb hpm (by decide)) ‹_› (by decide)) | (dsimp only))

theorem pensLow_within {pm : Nat} (hpm : pm &&& 0x400800 = 0x400800)  :
    (pensLow).Within pm := by
  unfold pensLow
  repeat' (first | (with_reducible (first | assumption | exact within_skip | exact within_nil | apply within_cons | apply within_forP | apply setPen_within))
                   | (with_reducible intro _) | ((with_reducible refine sub hpm ?_); decide) | ((with_reducible refine tb hpm ?_); first | decide | (exact rfl) | (dsimp only [Eff.part]; decide)) | ((with_reducible refine tbAny ?_); refine sub hpm ?_; decide) | split | (exact tbIn 1 (tb hpm (by decide)) ‹_› (by decide)) | (exact tbIn 1 (tb hpm (by decide)) (List.mem_of_mem_filter ‹_›) (by decide)) | (exact tbIn 11 (tb hpm (by decide)) ‹_› (by decide)) | (exact tbIn 11 (tb hpm (by decide)) (List.mem_of_mem_filter ‹_›) (by decide)) | (exact tbIn 4 (tb hpm (by decide)) ‹_› (by decide)) | (exact tbIn 4 (tb hpm (by decide)) (List.mem_of_mem_filter ‹_›) (by decide)) | (exact tbIn 13 (tb hpm (by decide)) ‹_› (by decide)) | (exact tbIn 13 (tb hpm (by decide)) (List.mem_of_mem_filter ‹_›) (by decide)) | (exact tbIn 10 (tb hpm (by decide)) ‹_› (by decide)) | (exact tbIn 10 (tb hpm (by decide)) (List.mem_of_mem_filter ‹_›) (by decide)) | (exact tbSel 10 (tb hpm (by decide)) ‹_› (by decide)) | (exact tbSel 7 (tb hpm (by decide)) ‹_› (by decide)) | (exact tbSel 8 (tb hpm (by decide)) ‹_› (by decide)) | (dsimp only))

theorem coreReset_within {pm : Nat} (hpm : pm &&& 0x12beff6fffff = 0x12beff6fffff) (warm : Bool) :
    (coreReset warm).Within pm := by
  unfold coreReset
  repeat' (first | (with_reducible (first | assumption | exact within_skip | exact within_nil | apply within_cons | apply within_whenP | apply within_forP | apply within_ite | apply within_read | apply within_eff | apply loadPairId_within | apply meridOutLow_within | apply modAlm_within | apply modChart_within | apply modChr_within | apply modConv_within | apply modCpw_within | apply modDma_within | apply modIcu_within | apply modIns_within | apply modPair_within | apply modQ_within | apply modTask_within | apply modTree_within | apply pensLow_within | apply refreshTree_within | apply roleOutLow_within))
                   | (with_reducible intro _) | ((with_reducible refine sub hpm ?_); decide) | ((with_reducible refine tb hpm ?_); first | decide | (exact rfl) | (dsimp only [Eff.part]; decide)) | ((with_reducible refine tbAny ?_); refine sub hpm ?_; decide) | split | (exact tbIn 1 (tb hpm (by decide)) ‹_› (by decide)) | (exact tbIn 1 (tb hpm (by decide)) (List.mem_of_mem_filter ‹_›) (by decide)) | (exact tbIn 11 (tb hpm (by decide)) ‹_› (by decide)) | (exact tbIn 11 (tb hpm (by decide)) (List.mem_of_mem_filter ‹_›) (by decide)) | (exact tbIn 4 (tb hpm (by decide)) ‹_› (by decide)) | (exact tbIn 4 (tb hpm (by decide)) (List.mem_of_mem_filter ‹_›) (by decide)) | (exact tbIn 13 (tb hpm (by decide)) ‹_› (by decide)) | (exact tbIn 13 (tb hpm (by decide)) (List.mem_of_mem_filter ‹_›) (by decide)) | (exact tbIn 10 (tb hpm (by decide)) ‹_› (by decide)) | (exact tbIn 10 (tb hpm (by decide)) (List.mem_of_mem_filter ‹_›) (by decide)) | (exact tbSel 10 (tb hpm (by decide)) ‹_› (by decide)) | (exact tbSel 7 (tb hpm (by decide)) ‹_› (by decide)) | (exact tbSel 8 (tb hpm (by decide)) ‹_› (by decide)) | (dsimp only))

theorem fullReset_within {pm : Nat} (hpm : pm &&& 0x5ffeff7fffff = 0x5ffeff7fffff) (scratch : Bool) :
    (fullReset scratch).Within pm := by
  unfold fullReset
  repeat' (first | (with_reducible (first | assumption | exact within_skip | exact within_nil | apply within_cons | apply within_ite | apply within_read | apply within_put | apply within_eff | apply coreReset_within | apply lifeSeen_within | apply loadPairId_within | apply modBoot_within | apply modChart_within | apply modChr_within | apply modHalt_within | apply modPwr_within | apply modSec_within | apply modTree_within | apply refreshFault_within | apply refreshOtp_within | apply refreshTree_within))
                   | (with_reducible intro _) | ((with_reducible refine sub hpm ?_); decide) | ((with_reducible refine tb hpm ?_); first | decide | (exact rfl) | (dsimp only [Eff.part]; decide)) | ((with_reducible refine tbAny ?_); refine sub hpm ?_; decide) | split | (exact tbIn 1 (tb hpm (by decide)) ‹_› (by decide)) | (exact tbIn 1 (tb hpm (by decide)) (List.mem_of_mem_filter ‹_›) (by decide)) | (exact tbIn 11 (tb hpm (by decide)) ‹_› (by decide)) | (exact tbIn 11 (tb hpm (by decide)) (List.mem_of_mem_filter ‹_›) (by decide)) | (exact tbIn 4 (tb hpm (by decide)) ‹_› (by decide)) | (exact tbIn 4 (tb hpm (by decide)) (List.mem_of_mem_filter ‹_›) (by decide)) | (exact tbIn 13 (tb hpm (by decide)) ‹_› (by decide)) | (exact tbIn 13 (tb hpm (by decide)) (List.mem_of_mem_filter ‹_›) (by decide)) | (exact tbIn 10 (tb hpm (by decide)) ‹_› (by decide)) | (exact tbIn 10 (tb hpm (by decide)) (List.mem_of_mem_filter ‹_›) (by decide)) | (exact tbSel 10 (tb hpm (by decide)) ‹_› (by decide)) | (exact tbSel 7 (tb hpm (by decide)) ‹_› (by decide)) | (exact tbSel 8 (tb hpm (by decide)) ‹_› (by decide)) | (dsimp only))

theorem hostReset_within {pm : Nat} (hpm : pm &&& 0x10f0877fffff = 0x10f0877fffff)  :
    (hostReset).Within pm := by
  unfold hostReset
  repeat' (first | (with_reducible (first | assumption | exact within_skip | exact within_nil | apply within_cons | apply within_forP | apply within_read | apply within_clear | apply within_eff | apply forceIns_within | apply modDma_within | apply resetFields_within | apply wipeLog_within | apply wipePi_within | apply wipeQueues_within | apply wipeVectors_within))
                   | (with_reducible intro _) | ((with_reducible refine sub hpm ?_); decide) | ((with_reducible refine tb hpm ?_); first | decide | (exact rfl) | (dsimp only [Eff.part]; decide)) | ((with_reducible refine tbAny ?_); refine sub hpm ?_; decide) | split | (exact tbIn 1 (tb hpm (by decide)) ‹_› (by decide)) | (exact tbIn 1 (tb hpm (by decide)) (List.mem_of_mem_filter ‹_›) (by decide)) | (exact tbIn 11 (tb hpm (by decide)) ‹_› (by decide)) | (exact tbIn 11 (tb hpm (by decide)) (List.mem_of_mem_filter ‹_›) (by decide)) | (exact tbIn 4 (tb hpm (by decide)) ‹_› (by decide)) | (exact tbIn 4 (tb hpm (by decide)) (List.mem_of_mem_filter ‹_›) (by decide)) | (exact tbIn 13 (tb hpm (by decide)) ‹_› (by decide)) | (exact tbIn 13 (tb hpm (by decide)) (List.mem_of_mem_filter ‹_›) (by decide)) | (exact tbIn 10 (tb hpm (by decide)) ‹_› (by decide)) | (exact tbIn 10 (tb hpm (by decide)) (List.mem_of_mem_filter ‹_›) (by decide)) | (exact tbSel 10 (tb hpm (by decide)) ‹_› (by decide)) | (exact tbSel 7 (tb hpm (by decide)) ‹_› (by decide)) | (exact tbSel 8 (tb hpm (by decide)) ‹_› (by decide)) | (dsimp only))

theorem saveRecord_within {pm : Nat} (hpm : pm &&& 0x100000410000 = 0x100000410000) (tag : Option Nat) :
    (saveRecord tag).Within pm := by
  unfold saveRecord
  repeat' (first | (with_reducible (first | assumption | exact within_skip | exact within_nil | apply within_cons | apply within_whenP | apply within_read | apply within_raise | apply within_emit | apply modAlm_within))
                   | (with_reducible intro _) | ((with_reducible refine sub hpm ?_); decide) | ((with_reducible refine tb hpm ?_); first | decide | (exact rfl) | (dsimp only [Eff.part]; decide)) | ((with_reducible refine tbAny ?_); refine sub hpm ?_; decide) | split | (exact tbIn 1 (tb hpm (by decide)) ‹_› (by decide)) | (exact tbIn 1 (tb hpm (by decide)) (List.mem_of_mem_filter ‹_›) (by decide)) | (exact tbIn 11 (tb hpm (by decide)) ‹_› (by decide)) | (exact tbIn 11 (tb hpm (by decide)) (List.mem_of_mem_filter ‹_›) (by decide)) | (exact tbIn 4 (tb hpm (by decide)) ‹_› (by decide)) | (exact tbIn 4 (tb hpm (by decide)) (List.mem_of_mem_filter ‹_›) (by decide)) | (exact tbIn 13 (tb hpm (by decide)) ‹_› (by decide)) | (exact tbIn 13 (tb hpm (by decide)) (List.mem_of_mem_filter ‹_›) (by decide)) | (exact tbIn 10 (tb hpm (by decide)) ‹_› (by decide)) | (exact tbIn 10 (tb hpm (by decide)) (List.mem_of_mem_filter ‹_›) (by decide)) | (exact tbSel 10 (tb hpm (by decide)) ‹_› (by decide)) | (exact tbSel 7 (tb hpm (by decide)) ‹_› (by decide)) | (exact tbSel 8 (tb hpm (by decide)) ‹_› (by decide)) | (dsimp only))

end Sys2Proof.Machine
end

