-- ==== Sys2Proof/Laws/Almanac.lean ====
section
/-! SUPPORT. What each program of Machine/Almanac.lean can change, as a set of parts (Laws/Within.lean); for a command, of its meaning. -/

set_option linter.all false
set_option maxRecDepth 20000

namespace Sys2Proof.Machine

theorem execWearWindowStart_within {pm : Nat} (hpm : pm &&& 0x100008000000 = 0x100008000000) (s : State) :
    Meaning pm s (execWearWindowStart s) := by
  unfold execWearWindowStart
  apply within_finish
  repeat' (first | (with_reducible (first | assumption | exact within_skip | exact within_nil | apply within_cons | apply within_ite | apply atNs_within | apply windowStart_within))
                   | (with_reducible intro _) | ((with_reducible refine sub hpm ?_); decide) | ((with_reducible refine tb hpm ?_); first | decide | (exact rfl) | (dsimp only [Eff.part]; decide)) | ((with_reducible refine tbAny ?_); refine sub hpm ?_; decide) | split | (exact tbSel 7 (tb hpm (by decide)) ‹_› (by decide)) | (exact tbSel 8 (tb hpm (by decide)) ‹_› (by decide)) | (dsimp only))

theorem hourly_within {pm : Nat} (hpm : pm &&& 0x100008000000 = 0x100008000000) (kind unit : Nat) (p : Prog) (hyp_p : p.Within pm) :
    (hourly kind unit p).Within pm := by
  unfold hourly
  repeat' (first | (with_reducible (first | assumption | exact within_skip | exact within_nil | apply within_cons | apply within_read | apply atNs_within | apply modAlm_within))
                   | (with_reducible intro _) | ((with_reducible refine sub hpm ?_); decide) | ((with_reducible refine tb hpm ?_); first | decide | (exact rfl) | (dsimp only [Eff.part]; decide)) | ((with_reducible refine tbAny ?_); refine sub hpm ?_; decide) | split | (exact tbSel 7 (tb hpm (by decide)) ‹_› (by decide)) | (exact tbSel 8 (tb hpm (by decide)) ‹_› (by decide)) | (dsimp only))

theorem execAgeMeasure_within {pm : Nat} (hpm : pm &&& 0x10000f550580 = 0x10000f550580) (kind unit value : Nat) (s : State) :
    Meaning pm s (execAgeMeasure kind unit value s) := by
  unfold execAgeMeasure
  apply within_finish
  repeat' (first | (with_reducible (first | assumption | exact within_skip | exact within_nil | apply within_cons | apply within_whenP | apply within_ite | apply hourly_within | apply modAlmRec_within | apply monitor_within))
                   | (with_reducible intro _) | ((with_reducible refine sub hpm ?_); decide) | ((with_reducible refine tb hpm ?_); first | decide | (exact rfl) | (dsimp only [Eff.part]; decide)) | ((with_reducible refine tbAny ?_); refine sub hpm ?_; decide) | split | (exact tbSel 7 (tb hpm (by decide)) ‹_› (by decide)) | (exact tbSel 8 (tb hpm (by decide)) ‹_› (by decide)) | (dsimp only))

theorem saveSoon_within {pm : Nat} (hpm : pm &&& 0x100000410000 = 0x100000410000)  :
    (saveSoon).Within pm := by
  unfold saveSoon
  repeat' (first | (with_reducible (first | assumption | exact within_skip | exact within_nil | apply within_cons | apply within_ite | apply within_read | apply modAlm_within | apply saveRecord_within))
                   | (with_reducible intro _) | ((with_reducible refine sub hpm ?_); decide) | ((with_reducible refine tb hpm ?_); first | decide | (exact rfl) | (dsimp only [Eff.part]; decide)) | ((with_reducible refine tbAny ?_); refine sub hpm ?_; decide) | split | (exact tbSel 7 (tb hpm (by decide)) ‹_› (by decide)) | (exact tbSel 8 (tb hpm (by decide)) ‹_› (by decide)) | (dsimp only))

theorem swapped_within {pm : Nat} (hpm : pm &&& 0x100007550580 = 0x100007550580) (w : AlmSwap) (reload : Bool) (owner : Nat) :
    (swapped w reload owner).Within pm := by
  unfold swapped
  repeat' (first | (with_reducible (first | assumption | exact within_skip | exact within_nil | apply within_cons | apply within_whenP | apply within_forP | apply within_read | apply within_put | apply within_raise | apply checkSpares_within | apply complete_within | apply modAlm_within | apply modAlmRec_within | apply postEvent_within | apply refreshAlm_within | apply saveSoon_within))
                   | (with_reducible intro _) | ((with_reducible refine sub hpm ?_); decide) | ((with_reducible refine tb hpm ?_); first | decide | (exact rfl) | (dsimp only [Eff.part]; decide)) | ((with_reducible refine tbAny ?_); refine sub hpm ?_; decide) | split | (exact tbSel 7 (tb hpm (by decide)) ‹_› (by decide)) | (exact tbSel 8 (tb hpm (by decide)) ‹_› (by decide)) | (dsimp only))

theorem swapBegin_within {pm : Nat} (hpm : pm &&& 0x100000010000 = 0x100000010000) (w : AlmSwap) :
    (swapBegin w).Within pm := by
  unfold swapBegin
  repeat' (first | (with_reducible (first | assumption | exact within_skip | exact within_nil | apply within_cons | apply modAlm_within | apply refreshAlm_within))
                   | (with_reducible intro _) | ((with_reducible refine sub hpm ?_); decide) | ((with_reducible refine tb hpm ?_); first | decide | (exact rfl) | (dsimp only [Eff.part]; decide)) | ((with_reducible refine tbAny ?_); refine sub hpm ?_; decide) | split | (exact tbSel 7 (tb hpm (by decide)) ‹_› (by decide)) | (exact tbSel 8 (tb hpm (by decide)) ‹_› (by decide)) | (dsimp only))

theorem channelTakes_within {m : Nat} (hm : m &&& 0x40 = 0x40) (old new : Nat) : (channelTakes old new).Within m := by
  have h : ∀ f ∈ (fieldsIn 0x11004 0x11040).filter (·.acc == .rw), blockOf f.row = 6 := by decide +kernel
  have h6 : m.testBit 6 = true := tb hm (by decide)
  refine within_read fun s => within_cons (within_forP_mem fun f hf => within_putN (by rw [h f hf]; exact h6)) ?_
  exact within_cons h6 (within_cons h6 (within_cons h6 (within_cons h6 (within_cons h6 (within_cons h6 within_nil)))))

theorem sliceTakes_within {pm : Nat} (hpm : pm &&& 0x12091f552582 = 0x12091f552582) (lane new : Nat) :
    (sliceTakes lane new).Within pm := by
  unfold sliceTakes
  repeat' (first | (with_reducible (first | assumption | exact within_skip | exact within_nil | apply within_cons | apply within_whenP | apply within_read | apply within_putN | apply within_raise | apply enterRetrain_within | apply modLane_within | apply swapped_within))
                   | (with_reducible intro _) | ((with_reducible refine sub hpm ?_); decide) | ((with_reducible refine tb hpm ?_); first | decide | (exact rfl) | (dsimp only [Eff.part]; decide)) | ((with_reducible refine tbAny ?_); refine sub hpm ?_; decide) | split | (exact tbSel 7 (tb hpm (by decide)) ‹_› (by decide)) | (exact tbSel 8 (tb hpm (by decide)) ‹_› (by decide)) | (dsimp only))

theorem swapNow_within {pm : Nat} (hpm : pm &&& 0x7fffffffffff = 0x7fffffffffff) (kind unit row spare : Nat) :
    (swapNow kind unit row spare).Within pm := by
  unfold swapNow
  repeat' (first | (with_reducible (first | assumption | exact within_skip | exact within_nil | apply within_cons | apply within_whenP | apply within_ite | apply within_read | apply chAbort_within | apply channelTakes_within | apply domainUp_within | apply hlmDisable_within | apply modAlmRec_within | apply sliceTakes_within | apply swapBegin_within | apply swapped_within))
                   | (with_reducible intro _) | ((with_reducible refine sub hpm ?_); decide) | ((with_reducible refine tb hpm ?_); first | decide | (exact rfl) | (dsimp only [Eff.part]; decide)) | ((with_reducible refine tbAny ?_); refine sub hpm ?_; decide) | split | (exact tbSel 7 (tb hpm (by decide)) ‹_› (by decide)) | (exact tbSel 8 (tb hpm (by decide)) ‹_› (by decide)) | (dsimp only))

theorem execSwapAtQuiesce_within {pm : Nat} (hpm : pm &&& 0x7fffffffffff = 0x7fffffffffff) (kind unit row : Nat) (s : State) :
    Meaning pm s (execSwapAtQuiesce kind unit row s) := by
  unfold execSwapAtQuiesce
  apply within_finish
  repeat' (first | (with_reducible (first | assumption | exact within_skip | exact within_nil | apply within_cons | apply within_whenP | apply checkSpares_within | apply swapNow_within))
                   | (with_reducible intro _) | ((with_reducible refine sub hpm ?_); decide) | ((with_reducible refine tb hpm ?_); first | decide | (exact rfl) | (dsimp only [Eff.part]; decide)) | ((with_reducible refine tbAny ?_); refine sub hpm ?_; decide) | split | (exact tbSel 7 (tb hpm (by decide)) ‹_› (by decide)) | (exact tbSel 8 (tb hpm (by decide)) ‹_› (by decide)) | (dsimp only))

theorem execHelmSwapDone_within {pm : Nat} (hpm : pm &&& 0x101007750590 = 0x101007750590) (h : Nat) (reload : Bool) (s : State) :
    Meaning pm s (execHelmSwapDone h reload s) := by
  unfold execHelmSwapDone
  apply within_finish
  repeat' (first | (with_reducible (first | assumption | exact within_skip | exact within_nil | apply within_cons | apply within_whenP | apply within_read | apply within_putN | apply within_raise | apply within_clear | apply helmEnabling_within | apply swapped_within | apply tcmPut_within))
                   | (with_reducible intro _) | ((with_reducible refine sub hpm ?_); decide) | ((with_reducible refine tb hpm ?_); first | decide | (exact rfl) | (dsimp only [Eff.part]; decide)) | ((with_reducible refine tbAny ?_); refine sub hpm ?_; decide) | split | (exact tbSel 7 (tb hpm (by decide)) ‹_› (by decide)) | (exact tbSel 8 (tb hpm (by decide)) ‹_› (by decide)) | (dsimp only))

theorem execRowRepairDone_within {pm : Nat} (hpm : pm &&& 0x100007550580 = 0x100007550580) (array row : Nat) (s : State) :
    Meaning pm s (execRowRepairDone array row s) := by
  unfold execRowRepairDone
  apply within_finish
  repeat' (first | (with_reducible (first | assumption | exact within_skip | exact within_nil | apply within_cons | apply swapped_within))
                   | (with_reducible intro _) | ((with_reducible refine sub hpm ?_); decide) | ((with_reducible refine tb hpm ?_); first | decide | (exact rfl) | (dsimp only [Eff.part]; decide)) | ((with_reducible refine tbAny ?_); refine sub hpm ?_; decide) | split | (exact tbSel 7 (tb hpm (by decide)) ‹_› (by decide)) | (exact tbSel 8 (tb hpm (by decide)) ‹_› (by decide)) | (dsimp only))

theorem burnEnd_within {pm : Nat} (hpm : pm &&& 0x100007540580 = 0x100007540580) (status : Nat) :
    (burnEnd status).Within pm := by
  unfold burnEnd
  repeat' (first | (with_reducible (first | assumption | exact within_skip | exact within_nil | apply within_cons | apply within_read | apply complete_within | apply modAlm_within))
                   | (with_reducible intro _) | ((with_reducible refine sub hpm ?_); decide) | ((with_reducible refine tb hpm ?_); first | decide | (exact rfl) | (dsimp only [Eff.part]; decide)) | ((with_reducible refine tbAny ?_); refine sub hpm ?_; decide) | split | (exact tbSel 7 (tb hpm (by decide)) ‹_› (by decide)) | (exact tbSel 8 (tb hpm (by decide)) ‹_› (by decide)) | (dsimp only))

theorem execRepairBurn_within {pm : Nat} (hpm : pm &&& 0x500007550580 = 0x500007550580) (readback : List Byte) (s : State) :
    Meaning pm s (execRepairBurn readback s) := by
  unfold execRepairBurn
  apply within_finish
  repeat' (first | (with_reducible (first | assumption | exact within_skip | exact within_nil | apply within_cons | apply within_whenP | apply within_ite | apply within_read | apply within_put | apply within_raise | apply within_eff | apply burnEnd_within | apply modAlm_within | apply refreshAlm_within))
                   | (with_reducible intro _) | ((with_reducible refine sub hpm ?_); decide) | ((with_reducible refine tb hpm ?_); first | decide | (exact rfl) | (dsimp only [Eff.part]; decide)) | ((with_reducible refine tbAny ?_); refine sub hpm ?_; decide) | split | (exact tbSel 7 (tb hpm (by decide)) ‹_› (by decide)) | (exact tbSel 8 (tb hpm (by decide)) ‹_› (by decide)) | (dsimp only))

theorem execAlmBurn_within {pm : Nat} (hpm : pm &&& 0x100007540580 = 0x100007540580) (tag : Nat) (s : State) :
    Meaning pm s (execAlmBurn tag s) := by
  unfold execAlmBurn
  apply within_finish
  repeat' (first | (with_reducible (first | assumption | exact within_skip | exact within_nil | apply within_cons | apply within_whenP | apply within_ite | apply complete_within | apply modAlm_within | apply running_within | apply withCmd_within))
                   | (with_reducible intro _) | ((with_reducible refine sub hpm ?_); decide) | ((with_reducible refine tb hpm ?_); first | decide | (exact rfl) | (dsimp only [Eff.part]; decide)) | ((with_reducible refine tbAny ?_); refine sub hpm ?_; decide) | split | (exact tbSel 7 (tb hpm (by decide)) ‹_› (by decide)) | (exact tbSel 8 (tb hpm (by decide)) ‹_› (by decide)) | (dsimp only))

theorem applyRepair_within {pm : Nat} (hpm : pm &&& 0x100000000052 = 0x100000000052) (w : AlmSwap) :
    (applyRepair w).Within pm := by
  unfold applyRepair
  repeat' (first | (with_reducible (first | assumption | exact within_skip | exact within_nil | apply within_cons | apply within_whenP | apply within_ite | apply within_read | apply within_putN | apply modAlmRec_within))
                   | (with_reducible intro _) | ((with_reducible refine sub hpm ?_); decide) | ((with_reducible refine tb hpm ?_); first | decide | (exact rfl) | (dsimp only [Eff.part]; decide)) | ((with_reducible refine tbAny ?_); refine sub hpm ?_; decide) | split | (exact tbSel 7 (tb hpm (by decide)) ‹_› (by decide)) | (exact tbSel 8 (tb hpm (by decide)) ‹_› (by decide)) | (dsimp only))

theorem bootRepairs_within {pm : Nat} (hpm : pm &&& 0x100000010052 = 0x100000010052) (answers : Bool) :
    (bootRepairs answers).Within pm := by
  unfold bootRepairs
  repeat' (first | (with_reducible (first | assumption | exact within_skip | exact within_nil | apply within_cons | apply within_forP | apply within_ite | apply within_seq | apply within_read | apply within_put | apply applyRepair_within | apply modAlm_within | apply refreshAlm_within))
                   | (with_reducible intro _) | ((with_reducible refine sub hpm ?_); decide) | ((with_reducible refine tb hpm ?_); first | decide | (exact rfl) | (dsimp only [Eff.part]; decide)) | ((with_reducible refine tbAny ?_); refine sub hpm ?_; decide) | split | (exact tbSel 7 (tb hpm (by decide)) ‹_› (by decide)) | (exact tbSel 8 (tb hpm (by decide)) ‹_› (by decide)) | (dsimp only))

theorem execAlmanacSaveTimer_within {pm : Nat} (hpm : pm &&& 0x100008410000 = 0x100008410000) (s : State) :
    Meaning pm s (execAlmanacSaveTimer s) := by
  unfold execAlmanacSaveTimer
  apply within_finish
  repeat' (first | (with_reducible (first | assumption | exact within_skip | exact within_nil | apply within_cons | apply atNs_within | apply saveRecord_within))
                   | (with_reducible intro _) | ((with_reducible refine sub hpm ?_); decide) | ((with_reducible refine tb hpm ?_); first | decide | (exact rfl) | (dsimp only [Eff.part]; decide)) | ((with_reducible refine tbAny ?_); refine sub hpm ?_; decide) | split | (exact tbSel 7 (tb hpm (by decide)) ‹_› (by decide)) | (exact tbSel 8 (tb hpm (by decide)) ‹_› (by decide)) | (dsimp only))

theorem recordEnd_within {pm : Nat} (hpm : pm &&& 0x100007550580 = 0x100007550580) (status : Nat) :
    (recordEnd status).Within pm := by
  unfold recordEnd
  repeat' (first | (with_reducible (first | assumption | exact within_skip | exact within_nil | apply within_cons | apply within_whenP | apply within_forP | apply within_read | apply within_clear | apply complete_within | apply modAlm_within | apply saveRecord_within))
                   | (with_reducible intro _) | ((with_reducible refine sub hpm ?_); decide) | ((with_reducible refine tb hpm ?_); first | decide | (exact rfl) | (dsimp only [Eff.part]; decide)) | ((with_reducible refine tbAny ?_); refine sub hpm ?_; decide) | split | (exact tbSel 7 (tb hpm (by decide)) ‹_› (by decide)) | (exact tbSel 8 (tb hpm (by decide)) ‹_› (by decide)) | (dsimp only))

theorem execRecordWriteDone_within {pm : Nat} (hpm : pm &&& 0x100007550580 = 0x100007550580) (ok : Bool) (s : State) :
    Meaning pm s (execRecordWriteDone ok s) := by
  unfold execRecordWriteDone
  apply within_finish
  repeat' (first | (with_reducible (first | assumption | exact within_skip | exact within_nil | apply within_cons | apply within_whenP | apply within_ite | apply within_put | apply within_raise | apply within_clear | apply modAlm_within | apply recordEnd_within))
                   | (with_reducible intro _) | ((with_reducible refine sub hpm ?_); decide) | ((with_reducible refine tb hpm ?_); first | decide | (exact rfl) | (dsimp only [Eff.part]; decide)) | ((with_reducible refine tbAny ?_); refine sub hpm ?_; decide) | split | (exact tbSel 7 (tb hpm (by decide)) ‹_› (by decide)) | (exact tbSel 8 (tb hpm (by decide)) ‹_› (by decide)) | (dsimp only))

theorem execFlashBusyTimeout_within {pm : Nat} (hpm : pm &&& 0x38000fd50580 = 0x38000fd50580) (s : State) :
    Meaning pm s (execFlashBusyTimeout s) := by
  unfold execFlashBusyTimeout
  apply within_finish
  repeat' (first | (with_reducible (first | assumption | exact within_skip | exact within_nil | apply within_cons | apply within_whenP | apply within_raise | apply atNs_within | apply complete_within | apply cutFlash_within | apply modSec_within | apply recordEnd_within))
                   | (with_reducible intro _) | ((with_reducible refine sub hpm ?_); decide) | ((with_reducible refine tb hpm ?_); first | decide | (exact rfl) | (dsimp only [Eff.part]; decide)) | ((with_reducible refine tbAny ?_); refine sub hpm ?_; decide) | split | (exact tbSel 7 (tb hpm (by decide)) ‹_› (by decide)) | (exact tbSel 8 (tb hpm (by decide)) ‹_› (by decide)) | (dsimp only))

theorem execAlmSwap_within {pm : Nat} (hpm : pm &&& 0x100007550580 = 0x100007550580) (tag : Nat) (s : State) :
    Meaning pm s (execAlmSwap tag s) := by
  unfold execAlmSwap
  apply within_finish
  repeat' (first | (with_reducible (first | assumption | exact within_skip | exact within_nil | apply within_cons | apply within_ite | apply complete_within | apply markPending_within | apply modAlm_within | apply running_within | apply withCmd_within))
                   | (with_reducible intro _) | ((with_reducible refine sub hpm ?_); decide) | ((with_reducible refine tb hpm ?_); first | decide | (exact rfl) | (dsimp only [Eff.part]; decide)) | ((with_reducible refine tbAny ?_); refine sub hpm ?_; decide) | split | (exact tbSel 7 (tb hpm (by decide)) ‹_› (by decide)) | (exact tbSel 8 (tb hpm (by decide)) ‹_› (by decide)) | (dsimp only))

theorem execAlmRead_within {pm : Nat} (hpm : pm &&& 0x7540580 = 0x7540580) (tag : Nat) (s : State) :
    Meaning pm s (execAlmRead tag s) := by
  unfold execAlmRead
  apply within_finish
  repeat' (first | (with_reducible (first | assumption | exact within_skip | exact within_nil | apply within_cons | apply within_ite | apply complete_within | apply withCmd_within | apply writeData_within))
                   | (with_reducible intro _) | ((with_reducible refine sub hpm ?_); decide) | ((with_reducible refine tb hpm ?_); first | decide | (exact rfl) | (dsimp only [Eff.part]; decide)) | ((with_reducible refine tbAny ?_); refine sub hpm ?_; decide) | split | (exact tbSel 7 (tb hpm (by decide)) ‹_› (by decide)) | (exact tbSel 8 (tb hpm (by decide)) ‹_› (by decide)) | (dsimp only))

theorem execAlmSave_within {pm : Nat} (hpm : pm &&& 0x100001410000 = 0x100001410000) (tag : Nat) (s : State) :
    Meaning pm s (execAlmSave tag s) := by
  unfold execAlmSave
  apply within_finish
  repeat' (first | (with_reducible (first | assumption | exact within_skip | exact within_nil | apply within_cons | apply running_within | apply saveRecord_within | apply withCmd_within))
                   | (with_reducible intro _) | ((with_reducible refine sub hpm ?_); decide) | ((with_reducible refine tb hpm ?_); first | decide | (exact rfl) | (dsimp only [Eff.part]; decide)) | ((with_reducible refine tbAny ?_); refine sub hpm ?_; decide) | split | (exact tbSel 7 (tb hpm (by decide)) ‹_› (by decide)) | (exact tbSel 8 (tb hpm (by decide)) ‹_› (by decide)) | (dsimp only))

end Sys2Proof.Machine
end

