-- ==== Sys2Proof/Laws/Pcie.lean ====
section
/-! SUPPORT. What each program of Machine/Pcie.lean can change, as a set of parts (Laws/Within.lean); for a command, of its meaning. -/

set_option linter.all false
set_option maxRecDepth 20000

namespace Sys2Proof.Machine

theorem execPcieConfigReady_within {pm : Nat} (hpm : pm &&& 0x40000000000 = 0x40000000000) (s : State) :
    Meaning pm s (execPcieConfigReady s) := by
  unfold execPcieConfigReady
  apply within_finish
  repeat' (first | (with_reducible (first | assumption | exact within_skip | exact within_nil | apply within_cons | apply modBoot_within))
                   | (with_reducible intro _) | ((with_reducible refine sub hpm ?_); decide) | ((with_reducible refine tb hpm ?_); first | decide | (exact rfl) | (dsimp only [Eff.part]; decide)) | ((with_reducible refine tbAny ?_); refine sub hpm ?_; decide) | split | (exact tbSel 7 (tb hpm (by decide)) ‹_› (by decide)) | (exact tbSel 8 (tb hpm (by decide)) ‹_› (by decide)) | (dsimp only))

theorem execPcieLinkStateChange_within {pm : Nat} (hpm : pm &&& 0x40000 = 0x40000) (up : Bool) (speed width : Nat) (s : State) :
    Meaning pm s (execPcieLinkStateChange up speed width s) := by
  unfold execPcieLinkStateChange
  apply within_finish
  repeat' (first | (with_reducible (first | assumption | exact within_skip | exact within_nil | apply within_cons | apply within_whenP | apply within_ite | apply within_put | apply within_raise | apply linkGone_within))
                   | (with_reducible intro _) | ((with_reducible refine sub hpm ?_); decide) | ((with_reducible refine tb hpm ?_); first | decide | (exact rfl) | (dsimp only [Eff.part]; decide)) | ((with_reducible refine tbAny ?_); refine sub hpm ?_; decide) | split | (exact tbSel 7 (tb hpm (by decide)) ‹_› (by decide)) | (exact tbSel 8 (tb hpm (by decide)) ‹_› (by decide)) | (dsimp only))

theorem vfEnableClear_within {pm : Nat} (hpm : pm &&& 0x10f2877545f0 = 0x10f2877545f0)  :
    (vfEnableClear).Within pm := by
  unfold vfEnableClear
  repeat' (first | (with_reducible (first | assumption | exact within_skip | exact within_nil | apply within_cons | apply within_whenP | apply within_forP | apply within_read | apply within_raise | apply within_clear | apply flrInstances_within | apply functionsReset_within))
                   | (with_reducible intro _) | ((with_reducible refine sub hpm ?_); decide) | ((with_reducible refine tb hpm ?_); first | decide | (exact rfl) | (dsimp only [Eff.part]; decide)) | ((with_reducible refine tbAny ?_); refine sub hpm ?_; decide) | split | (exact tbSel 7 (tb hpm (by decide)) ‹_› (by decide)) | (exact tbSel 8 (tb hpm (by decide)) ‹_› (by decide)) | (dsimp only))

theorem execVfEnableClear_within {pm : Nat} (hpm : pm &&& 0x10f2877545f0 = 0x10f2877545f0) (s : State) :
    Meaning pm s (execVfEnableClear s) := by
  unfold execVfEnableClear
  apply within_finish
  repeat' (first | (with_reducible (first | assumption | exact within_skip | exact within_nil | apply within_cons | apply vfEnableClear_within))
                   | (with_reducible intro _) | ((with_reducible refine sub hpm ?_); decide) | ((with_reducible refine tb hpm ?_); first | decide | (exact rfl) | (dsimp only [Eff.part]; decide)) | ((with_reducible refine tbAny ?_); refine sub hpm ?_; decide) | split | (exact tbSel 7 (tb hpm (by decide)) ‹_› (by decide)) | (exact tbSel 8 (tb hpm (by decide)) ‹_› (by decide)) | (dsimp only))

theorem pfFlr_within {pm : Nat} (hpm : pm &&& 0x10f2877fffff = 0x10f2877fffff)  :
    (pfFlr).Within pm := by
  unfold pfFlr
  repeat' (first | (with_reducible (first | assumption | exact within_skip | exact within_nil | apply within_cons | apply within_put | apply within_raise | apply functionsReset_within | apply hostReset_within | apply vfsOff_within))
                   | (with_reducible intro _) | ((with_reducible refine sub hpm ?_); decide) | ((with_reducible refine tb hpm ?_); first | decide | (exact rfl) | (dsimp only [Eff.part]; decide)) | ((with_reducible refine tbAny ?_); refine sub hpm ?_; decide) | split | (exact tbSel 7 (tb hpm (by decide)) ‹_› (by decide)) | (exact tbSel 8 (tb hpm (by decide)) ‹_› (by decide)) | (dsimp only))

theorem execPfFlr_within {pm : Nat} (hpm : pm &&& 0x10f2877fffff = 0x10f2877fffff) (s : State) :
    Meaning pm s (execPfFlr s) := by
  unfold execPfFlr
  apply within_finish
  repeat' (first | (with_reducible (first | assumption | exact within_skip | exact within_nil | apply within_cons | apply pfFlr_within))
                   | (with_reducible intro _) | ((with_reducible refine sub hpm ?_); decide) | ((with_reducible refine tb hpm ?_); first | decide | (exact rfl) | (dsimp only [Eff.part]; decide)) | ((with_reducible refine tbAny ?_); refine sub hpm ?_; decide) | split | (exact tbSel 7 (tb hpm (by decide)) ‹_› (by decide)) | (exact tbSel 8 (tb hpm (by decide)) ‹_› (by decide)) | (dsimp only))

theorem sendAllOwed_within {pm : Nat} (hpm : pm &&& 0x400400 = 0x400400) (fn : Nat) :
    (sendAllOwed fn).Within pm := by
  unfold sendAllOwed
  repeat' (first | (with_reducible (first | assumption | exact within_skip | exact within_nil | apply within_cons | apply within_forP | apply within_read | apply sendOwed_within))
                   | (with_reducible intro _) | ((with_reducible refine sub hpm ?_); decide) | ((with_reducible refine tb hpm ?_); first | decide | (exact rfl) | (dsimp only [Eff.part]; decide)) | ((with_reducible refine tbAny ?_); refine sub hpm ?_; decide) | split | (exact tbSel 7 (tb hpm (by decide)) ‹_› (by decide)) | (exact tbSel 8 (tb hpm (by decide)) ‹_› (by decide)) | (dsimp only))

theorem commandWrite_within {pm : Nat} (hpm : pm &&& 0x204440500 = 0x204440500) (fn v : Nat) :
    (commandWrite fn v).Within pm := by
  unfold commandWrite
  repeat' (first | (with_reducible (first | assumption | exact within_skip | exact within_nil | apply within_cons | apply within_ite | apply within_raise | apply busMasterOff_within | apply modFn_within))
                   | (with_reducible intro _) | ((with_reducible refine sub hpm ?_); decide) | ((with_reducible refine tb hpm ?_); first | decide | (exact rfl) | (dsimp only [Eff.part]; decide)) | ((with_reducible refine tbAny ?_); refine sub hpm ?_; decide) | split | (exact tbSel 7 (tb hpm (by decide)) ‹_› (by decide)) | (exact tbSel 8 (tb hpm (by decide)) ‹_› (by decide)) | (dsimp only))

theorem msixControl_within {pm : Nat} (hpm : pm &&& 0x204400400 = 0x204400400) (fn v : Nat) :
    (msixControl fn v).Within pm := by
  unfold msixControl
  repeat' (first | (with_reducible (first | assumption | exact within_skip | exact within_nil | apply within_cons | apply within_whenP | apply modFn_within | apply sendAllOwed_within | apply vectorsHeld_within))
                   | (with_reducible intro _) | ((with_reducible refine sub hpm ?_); decide) | ((with_reducible refine tb hpm ?_); first | decide | (exact rfl) | (dsimp only [Eff.part]; decide)) | ((with_reducible refine tbAny ?_); refine sub hpm ?_; decide) | split | (exact tbSel 7 (tb hpm (by decide)) ‹_› (by decide)) | (exact tbSel 8 (tb hpm (by decide)) ‹_› (by decide)) | (dsimp only))

theorem configWrite_within {pm : Nat} (hpm : pm &&& 0x10f2877fffff = 0x10f2877fffff) (fn off be v : Nat) :
    (configWrite fn off be v).Within pm := by
  unfold configWrite
  repeat' (first | (with_reducible (first | assumption | exact within_skip | exact within_nil | apply within_cons | apply within_whenP | apply within_ite | apply within_read | apply within_put | apply within_raise | apply commandWrite_within | apply modFn_within | apply msixControl_within | apply pfFlr_within | apply sendAllOwed_within | apply vfEnableClear_within | apply vfFlr_within))
                   | (with_reducible intro _) | ((with_reducible refine sub hpm ?_); decide) | ((with_reducible refine tb hpm ?_); first | decide | (exact rfl) | (dsimp only [Eff.part]; decide)) | ((with_reducible refine tbAny ?_); refine sub hpm ?_; decide) | split | (exact tbSel 7 (tb hpm (by decide)) ‹_› (by decide)) | (exact tbSel 8 (tb hpm (by decide)) ‹_› (by decide)) | (dsimp only))

theorem execConfigSpaceWrite_within {pm : Nat} (hpm : pm &&& 0x10f2877fffff = 0x10f2877fffff) (fn off : Nat) (write : Bool) (be v : Nat) (s : State) :
    Meaning pm s (execConfigSpaceWrite fn off write be v s) := by
  unfold execConfigSpaceWrite
  apply within_finish
  repeat' (first | (with_reducible (first | assumption | exact within_skip | exact within_nil | apply within_cons | apply within_whenP | apply within_ite | apply within_emit | apply configWrite_within))
                   | (with_reducible intro _) | ((with_reducible refine sub hpm ?_); decide) | ((with_reducible refine tb hpm ?_); first | decide | (exact rfl) | (dsimp only [Eff.part]; decide)) | ((with_reducible refine tbAny ?_); refine sub hpm ?_; decide) | split | (exact tbSel 7 (tb hpm (by decide)) ‹_› (by decide)) | (exact tbSel 8 (tb hpm (by decide)) ‹_› (by decide)) | (dsimp only))

theorem execPoisonedWrite_within {pm : Nat} (hpm : pm &&& 0x40200440000 = 0x40200440000) (fn : Nat) (s : State) :
    Meaning pm s (execPoisonedWrite fn s) := by
  unfold execPoisonedWrite
  apply within_finish
  repeat' (first | (with_reducible (first | assumption | exact within_skip | exact within_nil | apply within_cons | apply within_whenP | apply aerLog_within))
                   | (with_reducible intro _) | ((with_reducible refine sub hpm ?_); decide) | ((with_reducible refine tb hpm ?_); first | decide | (exact rfl) | (dsimp only [Eff.part]; decide)) | ((with_reducible refine tbAny ?_); refine sub hpm ?_; decide) | split | (exact tbSel 7 (tb hpm (by decide)) ‹_› (by decide)) | (exact tbSel 8 (tb hpm (by decide)) ‹_› (by decide)) | (dsimp only))

theorem execBarBadAccess_within {pm : Nat} (hpm : pm &&& 0x40200440000 = 0x40200440000) (fn : Nat) (read : Bool) (s : State) :
    Meaning pm s (execBarBadAccess fn read s) := by
  unfold execBarBadAccess
  apply within_finish
  repeat' (first | (with_reducible (first | assumption | exact within_skip | exact within_nil | apply within_cons | apply within_whenP | apply within_emit | apply aerLog_within))
                   | (with_reducible intro _) | ((with_reducible refine sub hpm ?_); decide) | ((with_reducible refine tb hpm ?_); first | decide | (exact rfl) | (dsimp only [Eff.part]; decide)) | ((with_reducible refine tbAny ?_); refine sub hpm ?_; decide) | split | (exact tbSel 7 (tb hpm (by decide)) ‹_› (by decide)) | (exact tbSel 8 (tb hpm (by decide)) ‹_› (by decide)) | (dsimp only))

theorem errCause_fields : ∀ f ∈ fieldTable.filter (fun f => f.off == 0x1C010 && f.acc == .w1c), blockOf f.row = 10 := by decide +kernel
theorem viewErrCause_within {pm : Nat} (hpm : pm &&& 0x400 = 0x400) (fn slot v : Nat) :
    (viewErrCause fn slot v).Within pm := by
  unfold viewErrCause
  refine within_read fun s => ?_
  split
  · exact within_skip
  · refine within_read fun t => within_forP_mem fun f hf => within_putN ?_
    rw [errCause_fields f hf]; exact tb hpm (by decide)

theorem execViewErrCauseWrite_within {pm : Nat} (hpm : pm &&& 0x50200445400 = 0x50200445400) (fn slot v : Nat) (s : State) :
    Meaning pm s (execViewErrCauseWrite fn slot v s) := by
  unfold execViewErrCauseWrite
  apply within_finish
  repeat' (first | (with_reducible (first | assumption | exact within_skip | exact within_nil | apply within_cons | apply hostWrite_within | apply viewErrCause_within))
                   | (with_reducible intro _) | ((with_reducible refine sub hpm ?_); decide) | ((with_reducible refine tb hpm ?_); first | decide | (exact rfl) | (dsimp only [Eff.part]; decide)) | ((with_reducible refine tbAny ?_); refine sub hpm ?_; decide) | split | (exact tbSel 7 (tb hpm (by decide)) ‹_› (by decide)) | (exact tbSel 8 (tb hpm (by decide)) ‹_› (by decide)) | (dsimp only))

end Sys2Proof.Machine
end

