-- ==== Sys2Proof/Laws/Registers.lean ====
section
/-! SUPPORT. What each program of Machine/Registers.lean can change, as a set of parts (Laws/Within.lean); for a command, of its meaning. -/

set_option linter.all false
set_option maxRecDepth 20000

namespace Sys2Proof.Machine

theorem writeField_within {pm : Nat} (hpm : pm &&& 0x0 = 0x0) (f : Field) (n v : Nat) (hyp_f : pm.testBit (blockOf f.row) = true) :
    (writeField f n v).Within pm := by
  unfold writeField
  repeat' (first | (with_reducible (first | assumption | exact within_skip | exact within_nil | apply within_cons | apply within_read | apply within_putN))
                   | (with_reducible intro _) | ((with_reducible refine sub hpm ?_); decide) | ((with_reducible refine tb hpm ?_); first | decide | (exact rfl) | (dsimp only [Eff.part]; decide)) | ((with_reducible refine tbAny ?_); refine sub hpm ?_; decide) | split | (exact tbSel 7 (tb hpm (by decide)) ‹_› (by decide)) | (exact tbSel 8 (tb hpm (by decide)) ‹_› (by decide)) | (dsimp only))

theorem plainWrite_within {pm : Nat} (hpm : pm &&& 0x7ffff = 0x7ffff) (base n v : Nat) :
    (plainWrite base n v).Within pm := by
  unfold plainWrite
  repeat' (first | (with_reducible (first | assumption | exact within_skip | exact within_nil | apply within_cons | apply within_forP | apply writeField_within))
                   | (with_reducible intro _) | ((with_reducible refine sub hpm ?_); decide) | ((with_reducible refine tb hpm ?_); first | decide | (exact rfl) | (dsimp only [Eff.part]; decide)) | ((with_reducible refine tbAny ?_); refine sub hpm ?_; decide) | split | (exact tbSel 7 (tb hpm (by decide)) ‹_› (by decide)) | (exact tbSel 8 (tb hpm (by decide)) ‹_› (by decide)) | (dsimp only))

theorem lockedWrite_within {pm : Nat} (hpm : pm &&& 0x7ffff = 0x7ffff) (locked : Bool) (busy : Field) (base n v : Nat) (hyp_busy : pm.testBit (blockOf busy.row) = true) :
    (lockedWrite locked busy base n v).Within pm := by
  unfold lockedWrite
  repeat' (first | (with_reducible (first | assumption | exact within_skip | exact within_nil | apply within_cons | apply within_whenP | apply within_forP | apply within_ite | apply within_read | apply within_raise | apply writeField_within))
                   | (with_reducible intro _) | ((with_reducible refine sub hpm ?_); decide) | ((with_reducible refine tb hpm ?_); first | decide | (exact rfl) | (dsimp only [Eff.part]; decide)) | ((with_reducible refine tbAny ?_); refine sub hpm ?_; decide) | split | (exact tbSel 7 (tb hpm (by decide)) ‹_› (by decide)) | (exact tbSel 8 (tb hpm (by decide)) ‹_› (by decide)) | (dsimp only))

theorem referenceGone_within {pm : Nat} (hpm : pm &&& 0x8000001 = 0x8000001)  :
    (referenceGone).Within pm := by
  unfold referenceGone
  repeat' (first | (with_reducible (first | assumption | exact within_skip | exact within_nil | apply within_cons | apply within_whenP | apply within_read | apply within_clear | apply modChr_within))
                   | (with_reducible intro _) | ((with_reducible refine sub hpm ?_); decide) | ((with_reducible refine tb hpm ?_); first | decide | (exact rfl) | (dsimp only [Eff.part]; decide)) | ((with_reducible refine tbAny ?_); refine sub hpm ?_; decide) | split | (exact tbSel 7 (tb hpm (by decide)) ‹_› (by decide)) | (exact tbSel 8 (tb hpm (by decide)) ‹_› (by decide)) | (dsimp only))

theorem chrCtrlWrite_within {pm : Nat} (hpm : pm &&& 0x847ffff = 0x847ffff) (v : Nat) :
    (chrCtrlWrite v).Within pm := by
  unfold chrCtrlWrite
  repeat' (first | (with_reducible (first | assumption | exact within_skip | exact within_nil | apply within_cons | apply within_whenP | apply within_ite | apply within_read | apply meridOutLow_within | apply modChr_within | apply plainWrite_within | apply planFirst_within | apply referenceGone_within))
                   | (with_reducible intro _) | ((with_reducible refine sub hpm ?_); decide) | ((with_reducible refine tb hpm ?_); first | decide | (exact rfl) | (dsimp only [Eff.part]; decide)) | ((with_reducible refine tbAny ?_); refine sub hpm ?_; decide) | split | (exact tbSel 7 (tb hpm (by decide)) ‹_› (by decide)) | (exact tbSel 8 (tb hpm (by decide)) ‹_› (by decide)) | (dsimp only))

theorem syncCfgWrite_within {pm : Nat} (hpm : pm &&& 0x1c47ffff = 0x1c47ffff) (v : Nat) :
    (syncCfgWrite v).Within pm := by
  unfold syncCfgWrite
  repeat' (first | (with_reducible (first | assumption | exact within_skip | exact within_nil | apply within_cons | apply within_whenP | apply within_read | apply plainWrite_within | apply referenceGone_within | apply roleChanged_within))
                   | (with_reducible intro _) | ((with_reducible refine sub hpm ?_); decide) | ((with_reducible refine tb hpm ?_); first | decide | (exact rfl) | (dsimp only [Eff.part]; decide)) | ((with_reducible refine tbAny ?_); refine sub hpm ?_; decide) | split | (exact tbSel 7 (tb hpm (by decide)) ‹_› (by decide)) | (exact tbSel 8 (tb hpm (by decide)) ‹_› (by decide)) | (dsimp only))

theorem chrWrite_within {pm : Nat} (hpm : pm &&& 0x1c47ffff = 0x1c47ffff) (base n v : Nat) :
    (chrWrite base n v).Within pm := by
  unfold chrWrite
  repeat' (first | (with_reducible (first | assumption | exact within_skip | exact within_nil | apply within_cons | apply within_whenP | apply within_read | apply chrCommitReg_within | apply chrCtrlWrite_within | apply lockedWrite_within | apply plainWrite_within | apply rateTrim_within | apply syncCfgWrite_within))
                   | (with_reducible intro _) | ((with_reducible refine sub hpm ?_); decide) | ((with_reducible refine tb hpm ?_); first | decide | (exact rfl) | (dsimp only [Eff.part]; decide)) | ((with_reducible refine tbAny ?_); refine sub hpm ?_; decide) | split | (exact tbSel 7 (tb hpm (by decide)) ‹_› (by decide)) | (exact tbSel 8 (tb hpm (by decide)) ‹_› (by decide)) | (dsimp only))

theorem lnkWrite_within {pm : Nat} (hpm : pm &&& 0x1209dfd7ffff = 0x1209dfd7ffff) (base n v : Nat) :
    (lnkWrite base n v).Within pm := by
  unfold lnkWrite
  repeat' (first | (with_reducible (first | assumption | exact within_skip | exact within_nil | apply within_cons | apply within_whenP | apply within_ite | apply within_seq | apply within_read | apply within_putN | apply enterRetrain_within | apply fullRetrain_within | apply goLowPower_within | apply laneDisable_within | apply laneEnable_within | apply lnkSlip_within | apply lnkWakeRemote_within | apply plainWrite_within))
                   | (with_reducible intro _) | ((with_reducible refine sub hpm ?_); decide) | ((with_reducible refine tb hpm ?_); first | decide | (exact rfl) | (dsimp only [Eff.part]; decide)) | ((with_reducible refine tbAny ?_); refine sub hpm ?_; decide) | split | (exact tbSel 7 (tb hpm (by decide)) ‹_› (by decide)) | (exact tbSel 8 (tb hpm (by decide)) ‹_› (by decide)) | (dsimp only))

theorem treWrite_within {pm : Nat} (hpm : pm &&& 0x2004807ffff = 0x2004807ffff) (base n v : Nat) :
    (treWrite base n v).Within pm := by
  unfold treWrite
  repeat' (first | (with_reducible (first | assumption | exact within_skip | exact within_nil | apply within_cons | apply within_whenP | apply within_raise | apply within_clear | apply modTree_within | apply plainWrite_within | apply treCommand_within | apply treEnumRetry_within))
                   | (with_reducible intro _) | ((with_reducible refine sub hpm ?_); decide) | ((with_reducible refine tb hpm ?_); first | decide | (exact rfl) | (dsimp only [Eff.part]; decide)) | ((with_reducible refine tbAny ?_); refine sub hpm ?_; decide) | split | (exact tbSel 7 (tb hpm (by decide)) ‹_› (by decide)) | (exact tbSel 8 (tb hpm (by decide)) ‹_› (by decide)) | (dsimp only))

theorem chtWrite_within {pm : Nat} (hpm : pm &&& 0x2006f57ffff = 0x2006f57ffff) (base n v : Nat) :
    (chtWrite base n v).Within pm := by
  unfold chtWrite
  repeat' (first | (with_reducible (first | assumption | exact within_skip | exact within_nil | apply within_cons | apply within_whenP | apply within_put | apply chartCommit_within | apply plainWrite_within | apply shadowWrite_within | apply writeEditOpen_within | apply writeRun_within))
                   | (with_reducible intro _) | ((with_reducible refine sub hpm ?_); decide) | ((with_reducible refine tb hpm ?_); first | decide | (exact rfl) | (dsimp only [Eff.part]; decide)) | ((with_reducible refine tbAny ?_); refine sub hpm ?_; decide) | split | (exact tbSel 7 (tb hpm (by decide)) ‹_› (by decide)) | (exact tbSel 8 (tb hpm (by decide)) ‹_› (by decide)) | (dsimp only))

theorem tskRegWrite_within {pm : Nat} (hpm : pm &&& 0x1300007ffff = 0x1300007ffff) (base n v : Nat) :
    (tskRegWrite base n v).Within pm := by
  unfold tskRegWrite
  repeat' (first | (with_reducible (first | assumption | exact within_skip | exact within_nil | apply within_cons | apply within_whenP | apply within_read | apply dispatchAll_within | apply modPwr_within | apply modTask_within | apply plainWrite_within | apply taskClear_within | apply taskDue_within | apply taskEvent_within | apply tskDone_within | apply tskRefused_within | apply tskWrite_within))
                   | (with_reducible intro _) | ((with_reducible refine sub hpm ?_); decide) | ((with_reducible refine tb hpm ?_); first | decide | (exact rfl) | (dsimp only [Eff.part]; decide)) | ((with_reducible refine tbAny ?_); refine sub hpm ?_; decide) | split | (exact tbSel 7 (tb hpm (by decide)) ‹_› (by decide)) | (exact tbSel 8 (tb hpm (by decide)) ‹_› (by decide)) | (dsimp only))

theorem dmaWrite_within {pm : Nat} (hpm : pm &&& 0x800757ffff = 0x800757ffff) (base n v : Nat) :
    (dmaWrite base n v).Within pm := by
  unfold dmaWrite
  repeat' (first | (with_reducible (first | assumption | exact within_skip | exact within_nil | apply within_cons | apply within_whenP | apply within_ite | apply chAbort_within | apply chConfig_within | apply chDisable_within | apply chEnable_within | apply chResume_within | apply chStartReg_within | apply piBaseWrite_within | apply piCfgWrite_within | apply plainWrite_within | apply routeWrite_within))
                   | (with_reducible intro _) | ((with_reducible refine sub hpm ?_); decide) | ((with_reducible refine tb hpm ?_); first | decide | (exact rfl) | (dsimp only [Eff.part]; decide)) | ((with_reducible refine tbAny ?_); refine sub hpm ?_; decide) | split | (exact tbSel 7 (tb hpm (by decide)) ‹_› (by decide)) | (exact tbSel 8 (tb hpm (by decide)) ‹_› (by decide)) | (dsimp only))

theorem queueWrite_within {pm : Nat} (hpm : pm &&& 0x7ffff = 0x7ffff) (off : Bool) (base n v : Nat) :
    (queueWrite off base n v).Within pm := by
  unfold queueWrite
  repeat' (first | (with_reducible (first | assumption | exact within_skip | exact within_nil | apply within_cons | apply within_ite | apply within_raise | apply plainWrite_within))
                   | (with_reducible intro _) | ((with_reducible refine sub hpm ?_); decide) | ((with_reducible refine tb hpm ?_); first | decide | (exact rfl) | (dsimp only [Eff.part]; decide)) | ((with_reducible refine tbAny ?_); refine sub hpm ?_; decide) | split | (exact tbSel 7 (tb hpm (by decide)) ‹_› (by decide)) | (exact tbSel 8 (tb hpm (by decide)) ‹_› (by decide)) | (dsimp only))

theorem queueField_within {pm : Nat} (hpm : pm &&& 0x80 = 0x80) (off : Bool) (f : Field) (n v : Nat) (hyp_f : pm.testBit (blockOf f.row) = true) :
    (queueField off f n v).Within pm := by
  unfold queueField
  repeat' (first | (with_reducible (first | assumption | exact within_skip | exact within_nil | apply within_cons | apply within_whenP | apply within_ite | apply within_read | apply within_putN | apply within_raise))
                   | (with_reducible intro _) | ((with_reducible refine sub hpm ?_); decide) | ((with_reducible refine tb hpm ?_); first | decide | (exact rfl) | (dsimp only [Eff.part]; decide)) | ((with_reducible refine tbAny ?_); refine sub hpm ?_; decide) | split | (exact tbSel 7 (tb hpm (by decide)) ‹_› (by decide)) | (exact tbSel 8 (tb hpm (by decide)) ‹_› (by decide)) | (dsimp only))

theorem qmWrite_within {pm : Nat} (hpm : pm &&& 0x757ffff = 0x757ffff) (base n v : Nat) :
    (qmWrite base n v).Within pm := by
  unfold qmWrite
  repeat' (first | (with_reducible (first | assumption | exact within_skip | exact within_nil | apply within_cons | apply within_ite | apply within_read | apply within_putN | apply within_raise | apply cacheInval_within | apply cqDisable_within | apply cqEnableReg_within | apply plainWrite_within | apply queueField_within | apply queueWrite_within | apply sqDisable_within | apply sqEnableReg_within | apply takeCq_within | apply takeSq_within))
                   | (with_reducible intro _) | ((with_reducible refine sub hpm ?_); decide) | ((with_reducible refine tb hpm ?_); first | decide | (exact rfl) | (dsimp only [Eff.part]; decide)) | ((with_reducible refine tbAny ?_); refine sub hpm ?_; decide) | split | (exact tbSel 7 (tb hpm (by decide)) ‹_› (by decide)) | (exact tbSel 8 (tb hpm (by decide)) ‹_› (by decide)) | (dsimp only))

theorem insRegWrite_within {pm : Nat} (hpm : pm &&& 0x757ffff = 0x757ffff) (base n v : Nat) :
    (insRegWrite base n v).Within pm := by
  unfold insRegWrite
  repeat' (first | (with_reducible (first | assumption | exact within_skip | exact within_nil | apply within_cons | apply within_whenP | apply within_ite | apply within_read | apply insBindWrite_within | apply insDisable_within | apply insEnable_within | apply insError_within | apply insHold_within | apply plainWrite_within))
                   | (with_reducible intro _) | ((with_reducible refine sub hpm ?_); decide) | ((with_reducible refine tb hpm ?_); first | decide | (exact rfl) | (dsimp only [Eff.part]; decide)) | ((with_reducible refine tbAny ?_); refine sub hpm ?_; decide) | split | (exact tbSel 7 (tb hpm (by decide)) ‹_› (by decide)) | (exact tbSel 8 (tb hpm (by decide)) ‹_› (by decide)) | (dsimp only))

theorem hicWrite_within {pm : Nat} (hpm : pm &&& 0x447ffff = 0x447ffff) (base n v : Nat) :
    (hicWrite base n v).Within pm := by
  unfold hicWrite
  repeat' (first | (with_reducible (first | assumption | exact within_skip | exact within_nil | apply within_cons | apply within_whenP | apply coalWrite_within | apply hicFlush_within | apply hicInsCfg_within | apply plainWrite_within))
                   | (with_reducible intro _) | ((with_reducible refine sub hpm ?_); decide) | ((with_reducible refine tb hpm ?_); first | decide | (exact rfl) | (dsimp only [Eff.part]; decide)) | ((with_reducible refine tbAny ?_); refine sub hpm ?_; decide) | split | (exact tbSel 7 (tb hpm (by decide)) ‹_› (by decide)) | (exact tbSel 8 (tb hpm (by decide)) ‹_› (by decide)) | (dsimp only))

theorem icuWrite_within {pm : Nat} (hpm : pm &&& 0x447ffff = 0x447ffff) (base n v : Nat) :
    (icuWrite base n v).Within pm := by
  unfold icuWrite
  repeat' (first | (with_reducible (first | assumption | exact within_skip | exact within_nil | apply within_cons | apply plainWrite_within | apply softSet_within | apply srcCfgWrite_within | apply timerArm_within))
                   | (with_reducible intro _) | ((with_reducible refine sub hpm ?_); decide) | ((with_reducible refine tb hpm ?_); first | decide | (exact rfl) | (dsimp only [Eff.part]; decide)) | ((with_reducible refine tbAny ?_); refine sub hpm ?_; decide) | split | (exact tbSel 7 (tb hpm (by decide)) ‹_› (by decide)) | (exact tbSel 8 (tb hpm (by decide)) ‹_› (by decide)) | (dsimp only))

theorem pwrWrite_within {pm : Nat} (hpm : pm &&& 0x7fffffffffff = 0x7fffffffffff) (base n v : Nat) :
    (pwrWrite base n v).Within pm := by
  unfold pwrWrite
  repeat' (first | (with_reducible (first | assumption | exact within_skip | exact within_nil | apply within_cons | apply within_whenP | apply within_read | apply domCtrl_within | apply lockedWrite_within | apply opCommit_within | apply padRelease_within | apply plainWrite_within | apply stateCtrl_within | apply vselWrite_within))
                   | (with_reducible intro _) | ((with_reducible refine sub hpm ?_); decide) | ((with_reducible refine tb hpm ?_); first | decide | (exact rfl) | (dsimp only [Eff.part]; decide)) | ((with_reducible refine tbAny ?_); refine sub hpm ?_; decide) | split | (exact tbSel 7 (tb hpm (by decide)) ‹_› (by decide)) | (exact tbSel 8 (tb hpm (by decide)) ‹_› (by decide)) | (dsimp only))

theorem cpwWrite_within {pm : Nat} (hpm : pm &&& 0x40757ffff = 0x40757ffff) (base n v : Nat) :
    (cpwWrite base n v).Within pm := by
  unfold cpwWrite
  repeat' (first | (with_reducible (first | assumption | exact within_skip | exact within_nil | apply within_cons | apply within_whenP | apply within_ite | apply cpwDisable_within | apply cpwEnable_within | apply cpwForceDefault_within | apply plainWrite_within))
                   | (with_reducible intro _) | ((with_reducible refine sub hpm ?_); decide) | ((with_reducible refine tb hpm ?_); first | decide | (exact rfl) | (dsimp only [Eff.part]; decide)) | ((with_reducible refine tbAny ?_); refine sub hpm ?_; decide) | split | (exact tbSel 7 (tb hpm (by decide)) ‹_› (by decide)) | (exact tbSel 8 (tb hpm (by decide)) ‹_› (by decide)) | (dsimp only))

theorem pairWrite_within {pm : Nat} (hpm : pm &&& 0x1209dfd7ffff = 0x1209dfd7ffff) (base n v : Nat) :
    (pairWrite base n v).Within pm := by
  unfold pairWrite
  repeat' (first | (with_reducible (first | assumption | exact within_skip | exact within_nil | apply within_cons | apply within_whenP | apply within_read | apply pairCtrl_within | apply plainWrite_within))
                   | (with_reducible intro _) | ((with_reducible refine sub hpm ?_); decide) | ((with_reducible refine tb hpm ?_); first | decide | (exact rfl) | (dsimp only [Eff.part]; decide)) | ((with_reducible refine tbAny ?_); refine sub hpm ?_; decide) | split | (exact tbSel 7 (tb hpm (by decide)) ‹_› (by decide)) | (exact tbSel 8 (tb hpm (by decide)) ‹_› (by decide)) | (dsimp only))

theorem nvmWrite_within {pm : Nat} (hpm : pm &&& 0x7ffeffefffff = 0x7ffeffefffff) (base n v : Nat) :
    (nvmWrite base n v).Within pm := by
  unfold nvmWrite
  repeat' (first | (with_reducible (first | assumption | exact within_skip | exact within_nil | apply within_cons | apply within_whenP | apply within_read | apply haltAssert_within | apply haltClear_within | apply hostAttach_within | apply modHalt_within | apply plainWrite_within | apply refreshHalt_within | apply warmWrite_within | apply wdtKick_within))
                   | (with_reducible intro _) | ((with_reducible refine sub hpm ?_); decide) | ((with_reducible refine tb hpm ?_); first | decide | (exact rfl) | (dsimp only [Eff.part]; decide)) | ((with_reducible refine tbAny ?_); refine sub hpm ?_; decide) | split | (exact tbSel 7 (tb hpm (by decide)) ‹_› (by decide)) | (exact tbSel 8 (tb hpm (by decide)) ‹_› (by decide)) | (dsimp only))

theorem hlmWrite_within {pm : Nat} (hpm : pm &&& 0x300007ffff = 0x300007ffff) (base n v : Nat) :
    (hlmWrite base n v).Within pm := by
  unfold hlmWrite
  repeat' (first | (with_reducible (first | assumption | exact within_skip | exact within_nil | apply within_cons | apply within_ite | apply hlmDisable_within | apply hlmEnable_within | apply plainWrite_within))
                   | (with_reducible intro _) | ((with_reducible refine sub hpm ?_); decide) | ((with_reducible refine tb hpm ?_); first | decide | (exact rfl) | (dsimp only [Eff.part]; decide)) | ((with_reducible refine tbAny ?_); refine sub hpm ?_; decide) | split | (exact tbSel 7 (tb hpm (by decide)) ‹_› (by decide)) | (exact tbSel 8 (tb hpm (by decide)) ‹_› (by decide)) | (dsimp only))

theorem registerWrite_within {pm : Nat} (hpm : pm &&& 0x7fffffffffff = 0x7fffffffffff) (base n v : Nat) :
    (registerWrite base n v).Within pm := by
  unfold registerWrite
  repeat' (first | (with_reducible (first | assumption | exact within_skip | exact within_nil | apply within_cons | apply within_ite | apply chrWrite_within | apply chtWrite_within | apply cpwWrite_within | apply critExtraAdd_within | apply dmaWrite_within | apply hicWrite_within | apply hlmWrite_within | apply icuWrite_within | apply insRegWrite_within | apply lnkWrite_within | apply nvmWrite_within | apply pairWrite_within | apply plainWrite_within | apply pwrWrite_within | apply qmWrite_within | apply refreshFault_within | apply treWrite_within | apply tskRegWrite_within))
                   | (with_reducible intro _) | ((with_reducible refine sub hpm ?_); decide) | ((with_reducible refine tb hpm ?_); first | decide | (exact rfl) | (dsimp only [Eff.part]; decide)) | ((with_reducible refine tbAny ?_); refine sub hpm ?_; decide) | split | (exact tbSel 7 (tb hpm (by decide)) ‹_› (by decide)) | (exact tbSel 8 (tb hpm (by decide)) ‹_› (by decide)) | (dsimp only))

theorem apertureWrite_within {pm : Nat} (hpm : pm &&& 0x20068000008 = 0x20068000008) (off v : Nat) :
    (apertureWrite off v).Within pm := by
  unfold apertureWrite
  repeat' (first | (with_reducible (first | assumption | exact within_skip | exact within_nil | apply within_cons | apply within_whenP | apply within_ite | apply asymWrite_within | apply safeWrite_within | apply shadowWrite_within))
                   | (with_reducible intro _) | ((with_reducible refine sub hpm ?_); decide) | ((with_reducible refine tb hpm ?_); first | decide | (exact rfl) | (dsimp only [Eff.part]; decide)) | ((with_reducible refine tbAny ?_); refine sub hpm ?_; decide) | split | (exact tbSel 7 (tb hpm (by decide)) ‹_› (by decide)) | (exact tbSel 8 (tb hpm (by decide)) ‹_› (by decide)) | (dsimp only))

theorem regWrite_within {pm : Nat} (hpm : pm &&& 0x7fffffffffff = 0x7fffffffffff) (off v : Nat) :
    (regWrite off v).Within pm := by
  unfold regWrite
  repeat' (first | (with_reducible (first | assumption | exact within_skip | exact within_nil | apply within_cons | apply within_ite | apply within_read | apply apertureWrite_within | apply modPwr_within | apply registerWrite_within))
                   | (with_reducible intro _) | ((with_reducible refine sub hpm ?_); decide) | ((with_reducible refine tb hpm ?_); first | decide | (exact rfl) | (dsimp only [Eff.part]; decide)) | ((with_reducible refine tbAny ?_); refine sub hpm ?_; decide) | split | (exact tbSel 7 (tb hpm (by decide)) ‹_› (by decide)) | (exact tbSel 8 (tb hpm (by decide)) ‹_› (by decide)) | (dsimp only))

theorem beforeRead_within {pm : Nat} (hpm : pm &&& 0x2800092d = 0x2800092d) (base n : Nat) :
    (beforeRead base n).Within pm := by
  unfold beforeRead
  repeat' (first | (with_reducible (first | assumption | exact within_skip | exact within_nil | apply within_cons | apply within_whenP | apply within_read | apply within_putN | apply descSnapshot_within | apply refreshIns_within | apply replayDone_within | apply stateSnapshot_within | apply timeSnapshot_within | apply treSnapshot_within))
                   | (with_reducible intro _) | ((with_reducible refine sub hpm ?_); decide) | ((with_reducible refine tb hpm ?_); first | decide | (exact rfl) | (dsimp only [Eff.part]; decide)) | ((with_reducible refine tbAny ?_); refine sub hpm ?_; decide) | split | (exact tbSel 7 (tb hpm (by decide)) ‹_› (by decide)) | (exact tbSel 8 (tb hpm (by decide)) ‹_› (by decide)) | (dsimp only))

theorem regRead_within {pm : Nat} (hpm : pm &&& 0x2807ffff = 0x2807ffff) (off : Nat) (k : Nat → Prog) (hyp_k : ∀ v0, (k v0).Within pm) :
    (regRead off k).Within pm := by
  unfold regRead
  repeat' (first | (with_reducible (first | assumption | exact within_skip | exact within_nil | apply within_cons | apply within_whenP | apply within_forP | apply within_ite | apply within_read | apply within_clear | apply hyp_k | apply beforeRead_within | apply replayDone_within))
                   | (with_reducible intro _) | ((with_reducible refine sub hpm ?_); decide) | ((with_reducible refine tb hpm ?_); first | decide | (exact rfl) | (dsimp only [Eff.part]; decide)) | ((with_reducible refine tbAny ?_); refine sub hpm ?_; decide) | split | (exact tbSel 7 (tb hpm (by decide)) ‹_› (by decide)) | (exact tbSel 8 (tb hpm (by decide)) ‹_› (by decide)) | (dsimp only))

theorem tcmAccess_within {pm : Nat} (hpm : pm &&& 0x1000600010 = 0x1000600010) (write : Bool) (off v : Nat) :
    (tcmAccess write off v).Within pm := by
  unfold tcmAccess
  repeat' (first | (with_reducible (first | assumption | exact within_skip | exact within_nil | apply within_cons | apply within_ite | apply within_read | apply within_emit | apply tcmFabricWrite_within))
                   | (with_reducible intro _) | ((with_reducible refine sub hpm ?_); decide) | ((with_reducible refine tb hpm ?_); first | decide | (exact rfl) | (dsimp only [Eff.part]; decide)) | ((with_reducible refine tbAny ?_); refine sub hpm ?_; decide) | split | (exact tbSel 7 (tb hpm (by decide)) ‹_› (by decide)) | (exact tbSel 8 (tb hpm (by decide)) ‹_› (by decide)) | (dsimp only))

theorem accessNow_within {pm : Nat} (hpm : pm &&& 0x7fffffffffff = 0x7fffffffffff) (tcm write : Bool) (off v : Nat) :
    (accessNow tcm write off v).Within pm := by
  unfold accessNow
  repeat' (first | (with_reducible (first | assumption | exact within_skip | exact within_nil | apply within_cons | apply within_ite | apply within_emit | apply regRead_within | apply regWrite_within | apply tcmAccess_within))
                   | (with_reducible intro _) | ((with_reducible refine sub hpm ?_); decide) | ((with_reducible refine tb hpm ?_); first | decide | (exact rfl) | (dsimp only [Eff.part]; decide)) | ((with_reducible refine tbAny ?_); refine sub hpm ?_; decide) | split | (exact tbSel 7 (tb hpm (by decide)) ‹_› (by decide)) | (exact tbSel 8 (tb hpm (by decide)) ‹_› (by decide)) | (dsimp only))

theorem access_within {pm : Nat} (hpm : pm &&& 0x7fffffffffff = 0x7fffffffffff) (tcm write : Bool) (off v : Nat) :
    (access tcm write off v).Within pm := by
  unfold access
  repeat' (first | (with_reducible (first | assumption | exact within_skip | exact within_nil | apply within_cons | apply within_ite | apply within_read | apply accessNow_within | apply domainUp_within | apply modPwr_within))
                   | (with_reducible intro _) | ((with_reducible refine sub hpm ?_); decide) | ((with_reducible refine tb hpm ?_); first | decide | (exact rfl) | (dsimp only [Eff.part]; decide)) | ((with_reducible refine tbAny ?_); refine sub hpm ?_; decide) | split | (exact tbSel 7 (tb hpm (by decide)) ‹_› (by decide)) | (exact tbSel 8 (tb hpm (by decide)) ‹_› (by decide)) | (dsimp only))

theorem msixWrite_within {pm : Nat} (hpm : pm &&& 0x4400400 = 0x4400400) (fn off v : Nat) :
    (msixWrite fn off v).Within pm := by
  unfold msixWrite
  repeat' (first | (with_reducible (first | assumption | exact within_skip | exact within_nil | apply within_cons | apply within_whenP | apply modIcu_within | apply sendOwed_within))
                   | (with_reducible intro _) | ((with_reducible refine sub hpm ?_); decide) | ((with_reducible refine tb hpm ?_); first | decide | (exact rfl) | (dsimp only [Eff.part]; decide)) | ((with_reducible refine tbAny ?_); refine sub hpm ?_; decide) | split | (exact tbSel 7 (tb hpm (by decide)) ‹_› (by decide)) | (exact tbSel 8 (tb hpm (by decide)) ‹_› (by decide)) | (dsimp only))

theorem functionWrite_within {pm : Nat} (hpm : pm &&& 0x4400400 = 0x4400400) (fn off v : Nat) :
    (functionWrite fn off v).Within pm := by
  unfold functionWrite
  repeat' (first | (with_reducible (first | assumption | exact within_skip | exact within_nil | apply within_cons | apply within_whenP | apply msixWrite_within | apply viewErrCause_within))
                   | (with_reducible intro _) | ((with_reducible refine sub hpm ?_); decide) | ((with_reducible refine tb hpm ?_); first | decide | (exact rfl) | (dsimp only [Eff.part]; decide)) | ((with_reducible refine tbAny ?_); refine sub hpm ?_; decide) | split | (exact tbSel 7 (tb hpm (by decide)) ‹_› (by decide)) | (exact tbSel 8 (tb hpm (by decide)) ‹_› (by decide)) | (dsimp only))

theorem beforeView_within {pm : Nat} (hpm : pm &&& 0x100 = 0x100) (fn off : Nat) :
    (beforeView fn off).Within pm := by
  unfold beforeView
  repeat' (first | (with_reducible (first | assumption | exact within_skip | exact within_nil | apply within_cons | apply within_read | apply refreshIns_within))
                   | (with_reducible intro _) | ((with_reducible refine sub hpm ?_); decide) | ((with_reducible refine tb hpm ?_); first | decide | (exact rfl) | (dsimp only [Eff.part]; decide)) | ((with_reducible refine tbAny ?_); refine sub hpm ?_; decide) | split | (exact tbSel 7 (tb hpm (by decide)) ‹_› (by decide)) | (exact tbSel 8 (tb hpm (by decide)) ‹_› (by decide)) | (dsimp only))

theorem execRegisterWrite_within {pm : Nat} (hpm : pm &&& 0x7fffffffffff = 0x7fffffffffff) (origin space : Nat) (write : Bool) (off v : Nat) (s : State) :
    Meaning pm s (execRegisterWrite origin space write off v s) := by
  unfold execRegisterWrite
  apply within_finish
  repeat' (first | (with_reducible (first | assumption | exact within_skip | exact within_nil | apply within_cons | apply within_whenP | apply within_ite | apply within_read | apply within_raise | apply within_emit | apply access_within | apply barRequest_within | apply beforeView_within | apply functionWrite_within | apply hostWrite_within))
                   | (with_reducible intro _) | ((with_reducible refine sub hpm ?_); decide) | ((with_reducible refine tb hpm ?_); first | decide | (exact rfl) | (dsimp only [Eff.part]; decide)) | ((with_reducible refine tbAny ?_); refine sub hpm ?_; decide) | split | (exact tbSel 7 (tb hpm (by decide)) ‹_› (by decide)) | (exact tbSel 8 (tb hpm (by decide)) ‹_› (by decide)) | (dsimp only))

end Sys2Proof.Machine
end

