-- ==== Sys2Proof/Laws/Boot.lean ====
section
/-! SUPPORT. What each program of Machine/Boot.lean can change, as a set of parts (Laws/Within.lean); for a command, of its meaning. -/

set_option linter.all false
set_option maxRecDepth 20000

namespace Sys2Proof.Machine

theorem bootFailure_within {pm : Nat} (hpm : pm &&& 0x4000 = 0x4000) (slot section_ reason : Nat) :
    (bootFailure slot section_ reason).Within pm := by
  unfold bootFailure
  repeat' (first | (with_reducible (first | assumption | exact within_skip | exact within_nil | apply within_cons | apply within_put))
                   | (with_reducible intro _) | ((with_reducible refine sub hpm ?_); decide) | ((with_reducible refine tb hpm ?_); first | decide | (exact rfl) | (dsimp only [Eff.part]; decide)) | ((with_reducible refine tbAny ?_); refine sub hpm ?_; decide) | split | (exact tbSel 7 (tb hpm (by decide)) ‹_› (by decide)) | (exact tbSel 8 (tb hpm (by decide)) ‹_› (by decide)) | (dsimp only))

theorem noImage_within {pm : Nat} (hpm : pm &&& 0x40000444000 = 0x40000444000)  :
    (noImage).Within pm := by
  unfold noImage
  repeat' (first | (with_reducible (first | assumption | exact within_skip | exact within_nil | apply within_cons | apply within_put | apply modBoot_within | apply refreshFault_within))
                   | (with_reducible intro _) | ((with_reducible refine sub hpm ?_); decide) | ((with_reducible refine tb hpm ?_); first | decide | (exact rfl) | (dsimp only [Eff.part]; decide)) | ((with_reducible refine tbAny ?_); refine sub hpm ?_; decide) | split | (exact tbSel 7 (tb hpm (by decide)) ‹_› (by decide)) | (exact tbSel 8 (tb hpm (by decide)) ‹_› (by decide)) | (dsimp only))

theorem nextSlot_within {pm : Nat} (hpm : pm &&& 0x40000444000 = 0x40000444000)  :
    (nextSlot).Within pm := by
  unfold nextSlot
  repeat' (first | (with_reducible (first | assumption | exact within_skip | exact within_nil | apply within_cons | apply within_read | apply within_clear | apply modBoot_within | apply noImage_within))
                   | (with_reducible intro _) | ((with_reducible refine sub hpm ?_); decide) | ((with_reducible refine tb hpm ?_); first | decide | (exact rfl) | (dsimp only [Eff.part]; decide)) | ((with_reducible refine tbAny ?_); refine sub hpm ?_; decide) | split | (exact tbSel 7 (tb hpm (by decide)) ‹_› (by decide)) | (exact tbSel 8 (tb hpm (by decide)) ‹_› (by decide)) | (dsimp only))

theorem slotFailed_within {pm : Nat} (hpm : pm &&& 0x7ffeffefffff = 0x7ffeffefffff) (slot section_ reason : Nat) :
    (slotFailed slot section_ reason).Within pm := by
  unfold slotFailed
  repeat' (first | (with_reducible (first | assumption | exact within_skip | exact within_nil | apply within_cons | apply within_forP | apply within_ite | apply within_read | apply within_raise | apply bootFailure_within | apply discharge_within | apply modBoot_within | apply nextSlot_within | apply warmReset_within))
                   | (with_reducible intro _) | ((with_reducible refine sub hpm ?_); decide) | ((with_reducible refine tb hpm ?_); first | decide | (exact rfl) | (dsimp only [Eff.part]; decide)) | ((with_reducible refine tbAny ?_); refine sub hpm ?_; decide) | split | (exact tbSel 7 (tb hpm (by decide)) ‹_› (by decide)) | (exact tbSel 8 (tb hpm (by decide)) ‹_› (by decide)) | (dsimp only))

theorem noCandidate_within {pm : Nat} (hpm : pm &&& 0x4000 = 0x4000) (answers : Bool) (sizeMib : Nat) :
    (noCandidate answers sizeMib).Within pm := by
  unfold noCandidate
  repeat' (first | (with_reducible (first | assumption | exact within_skip | exact within_nil | apply within_cons | apply within_ite | apply within_read | apply within_raise | apply bootFailure_within))
                   | (with_reducible intro _) | ((with_reducible refine sub hpm ?_); decide) | ((with_reducible refine tb hpm ?_); first | decide | (exact rfl) | (dsimp only [Eff.part]; decide)) | ((with_reducible refine tbAny ?_); refine sub hpm ?_; decide) | split | (exact tbSel 7 (tb hpm (by decide)) ‹_› (by decide)) | (exact tbSel 8 (tb hpm (by decide)) ‹_› (by decide)) | (dsimp only))

theorem lifeSeen_within {pm : Nat} (hpm : pm &&& 0x480007548580 = 0x480007548580)  :
    (lifeSeen).Within pm := by
  unfold lifeSeen
  repeat' (first | (with_reducible (first | assumption | exact within_skip | exact within_nil | apply within_cons | apply within_whenP | apply within_read | apply within_raise | apply destroyKeys_within | apply modSec_within | apply postEvent_within | apply refreshOtp_within))
                   | (with_reducible intro _) | ((with_reducible refine sub hpm ?_); decide) | ((with_reducible refine tb hpm ?_); first | decide | (exact rfl) | (dsimp only [Eff.part]; decide)) | ((with_reducible refine tbAny ?_); refine sub hpm ?_; decide) | split | (exact tbSel 7 (tb hpm (by decide)) ‹_› (by decide)) | (exact tbSel 8 (tb hpm (by decide)) ‹_› (by decide)) | (dsimp only))

theorem execKeeperBoot_within {pm : Nat} (hpm : pm &&& 0x5c400755c5d2 = 0x5c400755c5d2) (answers : Bool) (sizeMib : Nat) (s : State) :
    Meaning pm s (execKeeperBoot answers sizeMib s) := by
  unfold execKeeperBoot
  apply within_finish
  repeat' (first | (with_reducible (first | assumption | exact within_skip | exact within_nil | apply within_cons | apply within_whenP | apply within_ite | apply within_read | apply within_put | apply within_clear | apply bootRepairs_within | apply haltCause_within | apply lifeSeen_within | apply modBoot_within | apply nextSlot_within | apply noCandidate_within | apply noImage_within | apply readJournal_within | apply refreshFault_within))
                   | (with_reducible intro _) | ((with_reducible refine sub hpm ?_); decide) | ((with_reducible refine tb hpm ?_); first | decide | (exact rfl) | (dsimp only [Eff.part]; decide)) | ((with_reducible refine tbAny ?_); refine sub hpm ?_; decide) | split | (exact tbSel 7 (tb hpm (by decide)) ‹_› (by decide)) | (exact tbSel 8 (tb hpm (by decide)) ‹_› (by decide)) | (dsimp only))

theorem resume_within {pm : Nat} (hpm : pm &&& 0x20004008 = 0x20004008)  :
    (resume).Within pm := by
  unfold resume
  repeat' (first | (with_reducible (first | assumption | exact within_skip | exact within_nil | apply within_cons | apply within_forP | apply within_read | apply within_putN | apply within_put | apply within_raise | apply refreshShadow_within | apply setBank_within))
                   | (with_reducible intro _) | ((with_reducible refine sub hpm ?_); decide) | ((with_reducible refine tb hpm ?_); first | decide | (exact rfl) | (dsimp only [Eff.part]; decide)) | ((with_reducible refine tbAny ?_); refine sub hpm ?_; decide) | split | (exact tbSel 7 (tb hpm (by decide)) ‹_› (by decide)) | (exact tbSel 8 (tb hpm (by decide)) ‹_› (by decide)) | (dsimp only))

theorem execSlotVerified_within {pm : Nat} (hpm : pm &&& 0x7ffeffefffff = 0x7ffeffefffff) (answers : Bool) (s : State) :
    Meaning pm s (execSlotVerified answers s) := by
  unfold execSlotVerified
  apply within_finish
  repeat' (first | (with_reducible (first | assumption | exact within_skip | exact within_nil | apply within_cons | apply within_whenP | apply within_ite | apply within_read | apply modBoot_within | apply resume_within | apply slotFailed_within))
                   | (with_reducible intro _) | ((with_reducible refine sub hpm ?_); decide) | ((with_reducible refine tb hpm ?_); first | decide | (exact rfl) | (dsimp only [Eff.part]; decide)) | ((with_reducible refine tbAny ?_); refine sub hpm ?_; decide) | split | (exact tbSel 7 (tb hpm (by decide)) ‹_› (by decide)) | (exact tbSel 8 (tb hpm (by decide)) ‹_› (by decide)) | (dsimp only))

theorem writeList_within {pm : Nat} (hpm : pm &&& 0x7fffffffffff = 0x7fffffffffff) (n : Nat) (bs : List Byte) :
    (writeList n bs).Within pm := by
  induction n generalizing bs with
  | zero => trivial
  | succ n ih =>
    unfold writeList
    refine within_ite within_skip (within_ite (within_read fun s => within_cons (advanceTo_within (sub hpm (by decide)) _) (within_cons (within_read fun u => within_ite ?_ (ih _)) within_nil))
      (within_cons (access_within (sub hpm (by decide)) _ _ _ _) (within_cons (ih _) within_nil)))
    exact within_eff (tb hpm (by dsimp only [Eff.part]; decide))

theorem applySection_within {pm : Nat} (hpm : pm &&& 0x7fffffffffff = 0x7fffffffffff) (type dest first : Nat) (bs : List Byte) :
    (applySection type dest first bs).Within pm := by
  unfold applySection
  repeat' (first | (with_reducible (first | assumption | apply writeList_within | exact within_skip | exact within_nil | apply within_cons | apply within_whenP | apply within_forP | apply within_read | apply within_putN | apply devWrite_within | apply modPipe_within | apply putNode_within | apply putSafe_within | apply putShadow_within | apply refreshShadow_within | apply refreshTree_within | apply taskDue_within | apply taskWrite_within))
                   | (with_reducible intro _) | ((with_reducible refine sub hpm ?_); decide) | ((with_reducible refine tb hpm ?_); first | decide | (exact rfl) | (dsimp only [Eff.part]; decide)) | ((with_reducible refine tbAny ?_); refine sub hpm ?_; decide) | split | (exact tbSel 7 (tb hpm (by decide)) ‹_› (by decide)) | (exact tbSel 8 (tb hpm (by decide)) ‹_› (by decide)) | (dsimp only))

theorem imageLoaded_within {pm : Nat} (hpm : pm &&& 0x4000000c000 = 0x4000000c000) (slot : Nat) :
    (imageLoaded slot).Within pm := by
  unfold imageLoaded
  repeat' (first | (with_reducible (first | assumption | exact within_skip | exact within_nil | apply within_cons | apply within_read | apply within_put | apply modBoot_within))
                   | (with_reducible intro _) | ((with_reducible refine sub hpm ?_); decide) | ((with_reducible refine tb hpm ?_); first | decide | (exact rfl) | (dsimp only [Eff.part]; decide)) | ((with_reducible refine tbAny ?_); refine sub hpm ?_; decide) | split | (exact tbSel 7 (tb hpm (by decide)) ‹_› (by decide)) | (exact tbSel 8 (tb hpm (by decide)) ‹_› (by decide)) | (dsimp only))

theorem sectionDone_within {pm : Nat} (hpm : pm &&& 0x4000000c000 = 0x4000000c000) (slot i : Nat) :
    (sectionDone slot i).Within pm := by
  unfold sectionDone
  repeat' (first | (with_reducible (first | assumption | exact within_skip | exact within_nil | apply within_cons | apply within_whenP | apply within_read | apply within_put | apply imageLoaded_within | apply modBoot_within))
                   | (with_reducible intro _) | ((with_reducible refine sub hpm ?_); decide) | ((with_reducible refine tb hpm ?_); first | decide | (exact rfl) | (dsimp only [Eff.part]; decide)) | ((with_reducible refine tbAny ?_); refine sub hpm ?_; decide) | split | (exact tbSel 7 (tb hpm (by decide)) ‹_› (by decide)) | (exact tbSel 8 (tb hpm (by decide)) ‹_› (by decide)) | (dsimp only))

theorem execSectionApplied_within {pm : Nat} (hpm : pm &&& 0x7fffffffffff = 0x7fffffffffff) (answers : Bool) (s : State) :
    Meaning pm s (execSectionApplied answers s) := by
  unfold execSectionApplied
  apply within_finish
  repeat' (first | (with_reducible (first | assumption | exact within_skip | exact within_nil | apply within_cons | apply within_whenP | apply within_ite | apply within_read | apply applySection_within | apply atNs_within | apply modBoot_within | apply sectionDone_within | apply slotFailed_within | apply writeList_within))
                   | (with_reducible intro _) | ((with_reducible refine sub hpm ?_); decide) | ((with_reducible refine tb hpm ?_); first | decide | (exact rfl) | (dsimp only [Eff.part]; decide)) | ((with_reducible refine tbAny ?_); refine sub hpm ?_; decide) | split | (exact tbSel 7 (tb hpm (by decide)) ‹_› (by decide)) | (exact tbSel 8 (tb hpm (by decide)) ‹_› (by decide)) | (dsimp only))

theorem bootMeridian_within {pm : Nat} (hpm : pm &&& 0x4000404000 = 0x4000404000)  :
    (bootMeridian).Within pm := by
  unfold bootMeridian
  repeat' (first | (with_reducible (first | assumption | exact within_skip | exact within_nil | apply within_cons | apply within_whenP | apply within_read | apply within_put | apply within_raise | apply haltCause_within))
                   | (with_reducible intro _) | ((with_reducible refine sub hpm ?_); decide) | ((with_reducible refine tb hpm ?_); first | decide | (exact rfl) | (dsimp only [Eff.part]; decide)) | ((with_reducible refine tbAny ?_); refine sub hpm ?_; decide) | split | (exact tbSel 7 (tb hpm (by decide)) ‹_› (by decide)) | (exact tbSel 8 (tb hpm (by decide)) ‹_› (by decide)) | (dsimp only))

theorem execOffDomainAccess_within {pm : Nat} (hpm : pm &&& 0x7fffffffffff = 0x7fffffffffff) (tcm write : Bool) (off v : Nat) (s : State) :
    Meaning pm s (execOffDomainAccess tcm write off v s) := by
  unfold execOffDomainAccess
  apply within_finish
  repeat' (first | (with_reducible (first | assumption | exact within_skip | exact within_nil | apply within_cons | apply within_whenP | apply within_ite | apply access_within | apply barRequest_within | apply hostWrite_within))
                   | (with_reducible intro _) | ((with_reducible refine sub hpm ?_); decide) | ((with_reducible refine tb hpm ?_); first | decide | (exact rfl) | (dsimp only [Eff.part]; decide)) | ((with_reducible refine tbAny ?_); refine sub hpm ?_; decide) | split | (exact tbSel 7 (tb hpm (by decide)) ‹_› (by decide)) | (exact tbSel 8 (tb hpm (by decide)) ‹_› (by decide)) | (dsimp only))

theorem execDomainGood_within {pm : Nat} (hpm : pm &&& 0x7fffffffffff = 0x7fffffffffff) (d : Nat) (s : State) :
    Meaning pm s (execDomainGood d s) := by
  unfold execDomainGood
  apply within_finish
  repeat' (first | (with_reducible (first | assumption | exact within_skip | exact within_nil | apply within_cons | apply within_whenP | apply within_forP | apply within_raise | apply accessNow_within | apply domainDone_within | apply enterDetect_within | apply modPwr_within | apply putFlag_within | apply resetDomain_within))
                   | (with_reducible intro _) | ((with_reducible refine sub hpm ?_); decide) | ((with_reducible refine tb hpm ?_); first | decide | (exact rfl) | (dsimp only [Eff.part]; decide)) | ((with_reducible refine tbAny ?_); refine sub hpm ?_; decide) | split | (exact tbSel 7 (tb hpm (by decide)) ‹_› (by decide)) | (exact tbSel 8 (tb hpm (by decide)) ‹_› (by decide)) | (dsimp only))

theorem execDomainGoodTimeout_within {pm : Nat} (hpm : pm &&& 0x10008401000 = 0x10008401000) (d : Nat) (s : State) :
    Meaning pm s (execDomainGoodTimeout d s) := by
  unfold execDomainGoodTimeout
  apply within_finish
  repeat' (first | (with_reducible (first | assumption | exact within_skip | exact within_nil | apply within_cons | apply within_forP | apply within_ite | apply within_raise | apply within_emit | apply atNs_within | apply domainDown_within | apply modPwr_within))
                   | (with_reducible intro _) | ((with_reducible refine sub hpm ?_); decide) | ((with_reducible refine tb hpm ?_); first | decide | (exact rfl) | (dsimp only [Eff.part]; decide)) | ((with_reducible refine tbAny ?_); refine sub hpm ?_; decide) | split | (exact tbSel 7 (tb hpm (by decide)) ‹_› (by decide)) | (exact tbSel 8 (tb hpm (by decide)) ‹_› (by decide)) | (dsimp only))

end Sys2Proof.Machine
end

