-- ==== Sys2Proof/Laws/Sparse.lean ====
section
/-! SUPPORT. Sparse data: a read after a write, and the canonical form, which every operation keeps. -/

namespace Sys2Proof.Machine.Sparse

variable {α : Type} (d : Nat → α)

theorem get_of_lt {m : List (Nat × α)} {k : Nat} (h : ∀ e ∈ m, k < e.1) : get d m k = d k := by
  induction m with
  | nil => rfl
  | cons e t ih =>
    obtain ⟨j, v⟩ := e
    have := h (j, v) (by simp)
    simp only [get]
    rw [if_neg (by simp at this; omega)]
    exact ih fun e he => h e (by simp [he])

/-- Without its key's entries a list reads as unlisted. -/
theorem get_erase_same (m : List (Nat × α)) (k : Nat) : get d (erase m k) k = d k := by
  induction m with
  | nil => rfl
  | cons e t ih =>
    obtain ⟨j, v⟩ := e
    by_cases hj : j = k
    · subst hj; simpa [erase] using ih
    · simp only [erase] at ih ⊢
      rw [List.filter_cons_of_pos (by simp [hj])]
      simpa [get, hj] using ih

theorem get_erase_ne (m : List (Nat × α)) {k j : Nat} (h : j ≠ k) : get d (erase m k) j = get d m j := by
  induction m with
  | nil => rfl
  | cons e t ih =>
    obtain ⟨i, v⟩ := e
    simp only [erase] at ih ⊢
    by_cases hi : i = k
    · subst hi
      rw [List.filter_cons_of_neg (by simp)]
      rw [ih]; simp [get, Ne.symm h]
    · rw [List.filter_cons_of_pos (by simp [hi])]
      simp only [get, ih]

theorem get_ins_same (m : List (Nat × α)) (k : Nat) (v : α) : get d (ins m k v) k = v := by
  induction m with
  | nil => simp [ins, get]
  | cons e t ih =>
    obtain ⟨j, w⟩ := e
    simp only [ins]
    split
    · rename_i h; simp only [get]; rw [if_neg (by omega)]; exact ih
    · split <;> simp [get]

theorem get_ins_ne (m : List (Nat × α)) {k j : Nat} (v : α) (h : j ≠ k) : get d (ins m k v) j = get d m j := by
  induction m with
  | nil => simp [ins, get, Ne.symm h]
  | cons e t ih =>
    obtain ⟨i, w⟩ := e
    simp only [ins]
    split
    · simp only [get, ih]
    · split
      · rename_i hi; subst hi; simp [get, Ne.symm h]
      · simp [get, Ne.symm h]

variable [DecidableEq α]

/-- A read after a write of the same key gives what was written. -/
@[simp] theorem get_set_same (m : List (Nat × α)) (k : Nat) (v : α) : get d (set d m k v) k = v := by
  simp only [set]; split
  · rename_i h; rw [get_erase_same, h]
  · exact get_ins_same d m k v

/-- A write leaves every other key as it was. -/
theorem get_set_ne (m : List (Nat × α)) {k j : Nat} (v : α) (h : j ≠ k) : get d (set d m k v) j = get d m j := by
  simp only [set]; split
  · exact get_erase_ne d m h
  · exact get_ins_ne d m v h

theorem get_set (m : List (Nat × α)) (k j : Nat) (v : α) : get d (set d m k v) j = if j = k then v else get d m j := by
  split
  · rename_i h; subst h; simp
  · rename_i h; exact get_set_ne d m v h

variable {d}

theorem canonical_nil : Canonical d ([] : List (Nat × α)) := ⟨List.Pairwise.nil, by simp⟩

theorem canonical_filter {m : List (Nat × α)} (p : Nat × α → Bool) (h : Canonical d m) : Canonical d (m.filter p) :=
  ⟨h.1.filter p, fun e he => h.2 e (List.mem_of_mem_filter he)⟩

theorem mem_ins {m : List (Nat × α)} {k : Nat} {v : α} {e : Nat × α} (he : e ∈ ins m k v) : e = (k, v) ∨ e ∈ m := by
  induction m with
  | nil => left; simpa [ins] using he
  | cons x t ih =>
    obtain ⟨j, w⟩ := x
    simp only [ins] at he
    split at he
    · rcases List.mem_cons.1 he with rfl | h
      · right; simp
      · rcases ih h with h | h
        · exact Or.inl h
        · right; simp [h]
    · split at he
      · rcases List.mem_cons.1 he with h | h
        · exact Or.inl h
        · right; simp [h]
      · rcases List.mem_cons.1 he with h | h
        · exact Or.inl h
        · exact Or.inr h

theorem pairwise_ins {m : List (Nat × α)} (k : Nat) (v : α) (h : m.Pairwise fun a b => a.1 < b.1) :
    (ins m k v).Pairwise fun a b => a.1 < b.1 := by
  induction m with
  | nil => simp [ins]
  | cons x t ih =>
    obtain ⟨j, w⟩ := x
    have hx := List.pairwise_cons.1 h
    simp only [ins]
    split
    · rename_i hj
      refine List.pairwise_cons.2 ⟨fun e he => ?_, ih hx.2⟩
      rcases mem_ins he with rfl | he
      · exact hj
      · exact hx.1 e he
    · split
      · rename_i hj; subst hj
        exact List.pairwise_cons.2 ⟨hx.1, hx.2⟩
      · refine List.pairwise_cons.2 ⟨fun e he => ?_, h⟩
        rcases List.mem_cons.1 he with rfl | he
        · simp; omega
        · have := hx.1 e he; simp at this ⊢; omega

/-- A write keeps the canonical form. -/
theorem canonical_set {m : List (Nat × α)} (k : Nat) (v : α) (h : Canonical d m) : Canonical d (set d m k v) := by
  simp only [set]; split
  · exact canonical_filter _ h
  · rename_i hv
    refine ⟨pairwise_ins k v h.1, fun e he => ?_⟩
    rcases mem_ins he with rfl | he
    · exact hv
    · exact h.2 e he

theorem canonical_iff (m : List (Nat × α)) : canonical d m = true ↔ Canonical d m := by
  simp [canonical, Canonical, List.all_eq_true]

end Sys2Proof.Machine.Sparse
end

