-- ==== Sys2Proof/Laws/Memory.lean ====
section
/-! SUPPORT. Bytes in memory: what a write of bytes leaves, and that it keeps the canonical form; OTP programming only sets bits. -/

namespace Sys2Proof.Machine

variable {d : Nat → Byte}

/-- Bytes outside the written range read as before. -/
theorem get_writeBytes_outside (m : List Host.Cell) (a : Nat) (bs : List Byte) (k : Nat) (h : k < a ∨ a + bs.length ≤ k) :
    Sparse.get d (writeBytes d m a bs) k = Sparse.get d m k := by
  induction bs generalizing m a with
  | nil => rfl
  | cons b t ih =>
    simp only [writeBytes]
    rw [ih _ _ (by simp at h; omega)]
    exact Sparse.get_set_ne _ _ _ (by simp at h; omega)

/-- A byte inside the written range reads as the one written there. -/
theorem get_writeBytes_inside (m : List Host.Cell) (a : Nat) (bs : List Byte) (i : Nat) (h : i < bs.length) :
    Sparse.get d (writeBytes d m a bs) (a + i) = bs[i] := by
  induction bs generalizing m a i with
  | nil => simp at h
  | cons b t ih =>
    simp only [writeBytes]
    cases i with
    | zero => rw [get_writeBytes_outside _ _ _ _ (by omega)]; simp
    | succ i =>
      have := ih (Sparse.set d m a b) (a + 1) i (by simpa using h)
      rw [show a + (i + 1) = a + 1 + i by omega]
      simpa using this

theorem canonical_writeBytes (m : List Host.Cell) (a : Nat) (bs : List Byte) (h : Sparse.Canonical d m) :
    Sparse.Canonical d (writeBytes d m a bs) := by
  induction bs generalizing m a with
  | nil => exact h
  | cons b t ih => exact ih _ _ (Sparse.canonical_set _ _ h)

theorem canonical_otpProgram (m : List Host.Cell) (a : Nat) (bs : List Byte) (h : Sparse.Canonical memDefault m) :
    Sparse.Canonical memDefault (otpProgram m a bs) := by
  induction bs generalizing m a with
  | nil => exact h
  | cons b t ih => exact ih _ _ (Sparse.canonical_set _ _ h)

/-- Programming one byte keeps every bit of every byte. -/
theorem otp_set_keeps (m : List Host.Cell) (a k : Nat) (b : Byte) :
    Sparse.get memDefault m k &&& Sparse.get memDefault (Sparse.set memDefault m a (Sparse.get memDefault m a ||| b)) k =
      Sparse.get memDefault m k := by
  rw [Sparse.get_set]
  split
  · rename_i h; subst h
    ext i hi
    simp only [BitVec.getElem_and, BitVec.getElem_or]
    cases (Sparse.get memDefault m k)[i] <;> simp
  · exact BitVec.and_self

/-- Programming keeps every bit that is 1 (R481). -/
theorem otpProgram_keeps (m : List Host.Cell) (a : Nat) (bs : List Byte) (k : Nat) :
    Sparse.get memDefault m k &&& Sparse.get memDefault (otpProgram m a bs) k = Sparse.get memDefault m k := by
  induction bs generalizing m a with
  | nil => simp [otpProgram]
  | cons b t ih =>
    simp only [otpProgram]
    have h1 := otp_set_keeps m a k b
    have h2 := ih (Sparse.set memDefault m a (Sparse.get memDefault m a ||| b)) (a + 1)
    generalize Sparse.get memDefault m k = x at *
    generalize Sparse.get memDefault (Sparse.set memDefault m a (Sparse.get memDefault m a ||| b)) k = y at *
    generalize Sparse.get memDefault (otpProgram (Sparse.set memDefault m a (Sparse.get memDefault m a ||| b)) (a + 1) t) k = z at *
    rw [← h1, BitVec.and_assoc, h2]

end Sys2Proof.Machine
end

