-- ==== Sys2Proof/Laws/State.lean ====
section
/-! SUPPORT. What each primitive effect does to each field of the state: the one it writes, and every other one, which it leaves. Each
conjunct is a simplification rule, so that no proof unfolds `Eff.apply`. -/

namespace Sys2Proof.Machine

@[simp] theorem apply_fld (s : State) (f : Field) (n v : Nat) :
    ((Eff.fld f n v).apply s).pending = s.pending ∧
    ((Eff.fld f n v).apply s).regs = Sparse.set resetOf s.regs (f.key n) (v % 2 ^ f.w) ∧
    ((Eff.fld f n v).apply s).host = s.host ∧
    ((Eff.fld f n v).apply s).tcm = s.tcm ∧
    ((Eff.fld f n v).apply s).free = s.free ∧
    ((Eff.fld f n v).apply s).out = s.out ∧
    ((Eff.fld f n v).apply s).q = s.q ∧
    ((Eff.fld f n v).apply s).ins = s.ins ∧
    ((Eff.fld f n v).apply s).icu = s.icu ∧
    ((Eff.fld f n v).apply s).chr = s.chr ∧
    ((Eff.fld f n v).apply s).fixes = s.fixes ∧
    ((Eff.fld f n v).apply s).chart = s.chart ∧
    ((Eff.fld f n v).apply s).tree = s.tree ∧
    ((Eff.fld f n v).apply s).conv = s.conv ∧
    ((Eff.fld f n v).apply s).devs = s.devs ∧
    ((Eff.fld f n v).apply s).fns = s.fns ∧
    ((Eff.fld f n v).apply s).cpw = s.cpw ∧
    ((Eff.fld f n v).apply s).lanes = s.lanes ∧
    ((Eff.fld f n v).apply s).helms = s.helms ∧
    ((Eff.fld f n v).apply s).task = s.task ∧
    ((Eff.fld f n v).apply s).halt = s.halt ∧
    ((Eff.fld f n v).apply s).dma = s.dma ∧
    ((Eff.fld f n v).apply s).pwr = s.pwr ∧
    ((Eff.fld f n v).apply s).pair = s.pair ∧
    ((Eff.fld f n v).apply s).boot = s.boot ∧
    ((Eff.fld f n v).apply s).sec = s.sec ∧
    ((Eff.fld f n v).apply s).alm = s.alm ∧
    ((Eff.fld f n v).apply s).flash = s.flash ∧
    ((Eff.fld f n v).apply s).otp = s.otp :=
  ⟨rfl, rfl, rfl, rfl, rfl, rfl, rfl, rfl, rfl, rfl, rfl, rfl, rfl, rfl, rfl, rfl, rfl, rfl, rfl, rfl, rfl, rfl, rfl, rfl, rfl, rfl, rfl, rfl, rfl⟩

@[simp] theorem apply_host (s : State) (a : Nat) (bs : List Byte) :
    ((Eff.host a bs).apply s).pending = s.pending ∧
    ((Eff.host a bs).apply s).regs = s.regs ∧
    ((Eff.host a bs).apply s).host = writeBytes memDefault s.host a bs ∧
    ((Eff.host a bs).apply s).tcm = s.tcm ∧
    ((Eff.host a bs).apply s).free = s.free ∧
    ((Eff.host a bs).apply s).out = s.out ∧
    ((Eff.host a bs).apply s).q = s.q ∧
    ((Eff.host a bs).apply s).ins = s.ins ∧
    ((Eff.host a bs).apply s).icu = s.icu ∧
    ((Eff.host a bs).apply s).chr = s.chr ∧
    ((Eff.host a bs).apply s).fixes = s.fixes ∧
    ((Eff.host a bs).apply s).chart = s.chart ∧
    ((Eff.host a bs).apply s).tree = s.tree ∧
    ((Eff.host a bs).apply s).conv = s.conv ∧
    ((Eff.host a bs).apply s).devs = s.devs ∧
    ((Eff.host a bs).apply s).fns = s.fns ∧
    ((Eff.host a bs).apply s).cpw = s.cpw ∧
    ((Eff.host a bs).apply s).lanes = s.lanes ∧
    ((Eff.host a bs).apply s).helms = s.helms ∧
    ((Eff.host a bs).apply s).task = s.task ∧
    ((Eff.host a bs).apply s).halt = s.halt ∧
    ((Eff.host a bs).apply s).dma = s.dma ∧
    ((Eff.host a bs).apply s).pwr = s.pwr ∧
    ((Eff.host a bs).apply s).pair = s.pair ∧
    ((Eff.host a bs).apply s).boot = s.boot ∧
    ((Eff.host a bs).apply s).sec = s.sec ∧
    ((Eff.host a bs).apply s).alm = s.alm ∧
    ((Eff.host a bs).apply s).flash = s.flash ∧
    ((Eff.host a bs).apply s).otp = s.otp :=
  ⟨rfl, rfl, rfl, rfl, rfl, rfl, rfl, rfl, rfl, rfl, rfl, rfl, rfl, rfl, rfl, rfl, rfl, rfl, rfl, rfl, rfl, rfl, rfl, rfl, rfl, rfl, rfl, rfl, rfl⟩

@[simp] theorem apply_tcm (s : State) (a : Nat) (bs : List Byte) :
    ((Eff.tcm a bs).apply s).pending = s.pending ∧
    ((Eff.tcm a bs).apply s).regs = s.regs ∧
    ((Eff.tcm a bs).apply s).host = s.host ∧
    ((Eff.tcm a bs).apply s).tcm = writeBytes tcmDefault s.tcm a bs ∧
    ((Eff.tcm a bs).apply s).free = s.free ∧
    ((Eff.tcm a bs).apply s).out = s.out ∧
    ((Eff.tcm a bs).apply s).q = s.q ∧
    ((Eff.tcm a bs).apply s).ins = s.ins ∧
    ((Eff.tcm a bs).apply s).icu = s.icu ∧
    ((Eff.tcm a bs).apply s).chr = s.chr ∧
    ((Eff.tcm a bs).apply s).fixes = s.fixes ∧
    ((Eff.tcm a bs).apply s).chart = s.chart ∧
    ((Eff.tcm a bs).apply s).tree = s.tree ∧
    ((Eff.tcm a bs).apply s).conv = s.conv ∧
    ((Eff.tcm a bs).apply s).devs = s.devs ∧
    ((Eff.tcm a bs).apply s).fns = s.fns ∧
    ((Eff.tcm a bs).apply s).cpw = s.cpw ∧
    ((Eff.tcm a bs).apply s).lanes = s.lanes ∧
    ((Eff.tcm a bs).apply s).helms = s.helms ∧
    ((Eff.tcm a bs).apply s).task = s.task ∧
    ((Eff.tcm a bs).apply s).halt = s.halt ∧
    ((Eff.tcm a bs).apply s).dma = s.dma ∧
    ((Eff.tcm a bs).apply s).pwr = s.pwr ∧
    ((Eff.tcm a bs).apply s).pair = s.pair ∧
    ((Eff.tcm a bs).apply s).boot = s.boot ∧
    ((Eff.tcm a bs).apply s).sec = s.sec ∧
    ((Eff.tcm a bs).apply s).alm = s.alm ∧
    ((Eff.tcm a bs).apply s).flash = s.flash ∧
    ((Eff.tcm a bs).apply s).otp = s.otp :=
  ⟨rfl, rfl, rfl, rfl, rfl, rfl, rfl, rfl, rfl, rfl, rfl, rfl, rfl, rfl, rfl, rfl, rfl, rfl, rfl, rfl, rfl, rfl, rfl, rfl, rfl, rfl, rfl, rfl, rfl⟩

@[simp] theorem apply_out (s : State) (o : Output) :
    ((Eff.out o).apply s).pending = s.pending ∧
    ((Eff.out o).apply s).regs = s.regs ∧
    ((Eff.out o).apply s).host = s.host ∧
    ((Eff.out o).apply s).tcm = s.tcm ∧
    ((Eff.out o).apply s).free = s.free ∧
    ((Eff.out o).apply s).out = s.out ++ [o] ∧
    ((Eff.out o).apply s).q = s.q ∧
    ((Eff.out o).apply s).ins = s.ins ∧
    ((Eff.out o).apply s).icu = s.icu ∧
    ((Eff.out o).apply s).chr = s.chr ∧
    ((Eff.out o).apply s).fixes = s.fixes ∧
    ((Eff.out o).apply s).chart = s.chart ∧
    ((Eff.out o).apply s).tree = s.tree ∧
    ((Eff.out o).apply s).conv = s.conv ∧
    ((Eff.out o).apply s).devs = s.devs ∧
    ((Eff.out o).apply s).fns = s.fns ∧
    ((Eff.out o).apply s).cpw = s.cpw ∧
    ((Eff.out o).apply s).lanes = s.lanes ∧
    ((Eff.out o).apply s).helms = s.helms ∧
    ((Eff.out o).apply s).task = s.task ∧
    ((Eff.out o).apply s).halt = s.halt ∧
    ((Eff.out o).apply s).dma = s.dma ∧
    ((Eff.out o).apply s).pwr = s.pwr ∧
    ((Eff.out o).apply s).pair = s.pair ∧
    ((Eff.out o).apply s).boot = s.boot ∧
    ((Eff.out o).apply s).sec = s.sec ∧
    ((Eff.out o).apply s).alm = s.alm ∧
    ((Eff.out o).apply s).flash = s.flash ∧
    ((Eff.out o).apply s).otp = s.otp :=
  ⟨rfl, rfl, rfl, rfl, rfl, rfl, rfl, rfl, rfl, rfl, rfl, rfl, rfl, rfl, rfl, rfl, rfl, rfl, rfl, rfl, rfl, rfl, rfl, rfl, rfl, rfl, rfl, rfl, rfl⟩

@[simp] theorem apply_takeFree (s : State)  :
    ((Eff.takeFree).apply s).pending = s.pending ∧
    ((Eff.takeFree).apply s).regs = s.regs ∧
    ((Eff.takeFree).apply s).host = s.host ∧
    ((Eff.takeFree).apply s).tcm = s.tcm ∧
    ((Eff.takeFree).apply s).free = s.free + 1 ∧
    ((Eff.takeFree).apply s).out = s.out ∧
    ((Eff.takeFree).apply s).q = s.q ∧
    ((Eff.takeFree).apply s).ins = s.ins ∧
    ((Eff.takeFree).apply s).icu = s.icu ∧
    ((Eff.takeFree).apply s).chr = s.chr ∧
    ((Eff.takeFree).apply s).fixes = s.fixes ∧
    ((Eff.takeFree).apply s).chart = s.chart ∧
    ((Eff.takeFree).apply s).tree = s.tree ∧
    ((Eff.takeFree).apply s).conv = s.conv ∧
    ((Eff.takeFree).apply s).devs = s.devs ∧
    ((Eff.takeFree).apply s).fns = s.fns ∧
    ((Eff.takeFree).apply s).cpw = s.cpw ∧
    ((Eff.takeFree).apply s).lanes = s.lanes ∧
    ((Eff.takeFree).apply s).helms = s.helms ∧
    ((Eff.takeFree).apply s).task = s.task ∧
    ((Eff.takeFree).apply s).halt = s.halt ∧
    ((Eff.takeFree).apply s).dma = s.dma ∧
    ((Eff.takeFree).apply s).pwr = s.pwr ∧
    ((Eff.takeFree).apply s).pair = s.pair ∧
    ((Eff.takeFree).apply s).boot = s.boot ∧
    ((Eff.takeFree).apply s).sec = s.sec ∧
    ((Eff.takeFree).apply s).alm = s.alm ∧
    ((Eff.takeFree).apply s).flash = s.flash ∧
    ((Eff.takeFree).apply s).otp = s.otp :=
  ⟨rfl, rfl, rfl, rfl, rfl, rfl, rfl, rfl, rfl, rfl, rfl, rfl, rfl, rfl, rfl, rfl, rfl, rfl, rfl, rfl, rfl, rfl, rfl, rfl, rfl, rfl, rfl, rfl, rfl⟩

@[simp] theorem apply_q (s : State) (f : QueueUnit → QueueUnit) :
    ((Eff.q f).apply s).pending = s.pending ∧
    ((Eff.q f).apply s).regs = s.regs ∧
    ((Eff.q f).apply s).host = s.host ∧
    ((Eff.q f).apply s).tcm = s.tcm ∧
    ((Eff.q f).apply s).free = s.free ∧
    ((Eff.q f).apply s).out = s.out ∧
    ((Eff.q f).apply s).q = f s.q ∧
    ((Eff.q f).apply s).ins = s.ins ∧
    ((Eff.q f).apply s).icu = s.icu ∧
    ((Eff.q f).apply s).chr = s.chr ∧
    ((Eff.q f).apply s).fixes = s.fixes ∧
    ((Eff.q f).apply s).chart = s.chart ∧
    ((Eff.q f).apply s).tree = s.tree ∧
    ((Eff.q f).apply s).conv = s.conv ∧
    ((Eff.q f).apply s).devs = s.devs ∧
    ((Eff.q f).apply s).fns = s.fns ∧
    ((Eff.q f).apply s).cpw = s.cpw ∧
    ((Eff.q f).apply s).lanes = s.lanes ∧
    ((Eff.q f).apply s).helms = s.helms ∧
    ((Eff.q f).apply s).task = s.task ∧
    ((Eff.q f).apply s).halt = s.halt ∧
    ((Eff.q f).apply s).dma = s.dma ∧
    ((Eff.q f).apply s).pwr = s.pwr ∧
    ((Eff.q f).apply s).pair = s.pair ∧
    ((Eff.q f).apply s).boot = s.boot ∧
    ((Eff.q f).apply s).sec = s.sec ∧
    ((Eff.q f).apply s).alm = s.alm ∧
    ((Eff.q f).apply s).flash = s.flash ∧
    ((Eff.q f).apply s).otp = s.otp :=
  ⟨rfl, rfl, rfl, rfl, rfl, rfl, rfl, rfl, rfl, rfl, rfl, rfl, rfl, rfl, rfl, rfl, rfl, rfl, rfl, rfl, rfl, rfl, rfl, rfl, rfl, rfl, rfl, rfl, rfl⟩

@[simp] theorem apply_ins (s : State) (f : InsUnit → InsUnit) :
    ((Eff.ins f).apply s).pending = s.pending ∧
    ((Eff.ins f).apply s).regs = s.regs ∧
    ((Eff.ins f).apply s).host = s.host ∧
    ((Eff.ins f).apply s).tcm = s.tcm ∧
    ((Eff.ins f).apply s).free = s.free ∧
    ((Eff.ins f).apply s).out = s.out ∧
    ((Eff.ins f).apply s).q = s.q ∧
    ((Eff.ins f).apply s).ins = f s.ins ∧
    ((Eff.ins f).apply s).icu = s.icu ∧
    ((Eff.ins f).apply s).chr = s.chr ∧
    ((Eff.ins f).apply s).fixes = s.fixes ∧
    ((Eff.ins f).apply s).chart = s.chart ∧
    ((Eff.ins f).apply s).tree = s.tree ∧
    ((Eff.ins f).apply s).conv = s.conv ∧
    ((Eff.ins f).apply s).devs = s.devs ∧
    ((Eff.ins f).apply s).fns = s.fns ∧
    ((Eff.ins f).apply s).cpw = s.cpw ∧
    ((Eff.ins f).apply s).lanes = s.lanes ∧
    ((Eff.ins f).apply s).helms = s.helms ∧
    ((Eff.ins f).apply s).task = s.task ∧
    ((Eff.ins f).apply s).halt = s.halt ∧
    ((Eff.ins f).apply s).dma = s.dma ∧
    ((Eff.ins f).apply s).pwr = s.pwr ∧
    ((Eff.ins f).apply s).pair = s.pair ∧
    ((Eff.ins f).apply s).boot = s.boot ∧
    ((Eff.ins f).apply s).sec = s.sec ∧
    ((Eff.ins f).apply s).alm = s.alm ∧
    ((Eff.ins f).apply s).flash = s.flash ∧
    ((Eff.ins f).apply s).otp = s.otp :=
  ⟨rfl, rfl, rfl, rfl, rfl, rfl, rfl, rfl, rfl, rfl, rfl, rfl, rfl, rfl, rfl, rfl, rfl, rfl, rfl, rfl, rfl, rfl, rfl, rfl, rfl, rfl, rfl, rfl, rfl⟩

@[simp] theorem apply_icu (s : State) (f : IcuUnit → IcuUnit) :
    ((Eff.icu f).apply s).pending = s.pending ∧
    ((Eff.icu f).apply s).regs = s.regs ∧
    ((Eff.icu f).apply s).host = s.host ∧
    ((Eff.icu f).apply s).tcm = s.tcm ∧
    ((Eff.icu f).apply s).free = s.free ∧
    ((Eff.icu f).apply s).out = s.out ∧
    ((Eff.icu f).apply s).q = s.q ∧
    ((Eff.icu f).apply s).ins = s.ins ∧
    ((Eff.icu f).apply s).icu = f s.icu ∧
    ((Eff.icu f).apply s).chr = s.chr ∧
    ((Eff.icu f).apply s).fixes = s.fixes ∧
    ((Eff.icu f).apply s).chart = s.chart ∧
    ((Eff.icu f).apply s).tree = s.tree ∧
    ((Eff.icu f).apply s).conv = s.conv ∧
    ((Eff.icu f).apply s).devs = s.devs ∧
    ((Eff.icu f).apply s).fns = s.fns ∧
    ((Eff.icu f).apply s).cpw = s.cpw ∧
    ((Eff.icu f).apply s).lanes = s.lanes ∧
    ((Eff.icu f).apply s).helms = s.helms ∧
    ((Eff.icu f).apply s).task = s.task ∧
    ((Eff.icu f).apply s).halt = s.halt ∧
    ((Eff.icu f).apply s).dma = s.dma ∧
    ((Eff.icu f).apply s).pwr = s.pwr ∧
    ((Eff.icu f).apply s).pair = s.pair ∧
    ((Eff.icu f).apply s).boot = s.boot ∧
    ((Eff.icu f).apply s).sec = s.sec ∧
    ((Eff.icu f).apply s).alm = s.alm ∧
    ((Eff.icu f).apply s).flash = s.flash ∧
    ((Eff.icu f).apply s).otp = s.otp :=
  ⟨rfl, rfl, rfl, rfl, rfl, rfl, rfl, rfl, rfl, rfl, rfl, rfl, rfl, rfl, rfl, rfl, rfl, rfl, rfl, rfl, rfl, rfl, rfl, rfl, rfl, rfl, rfl, rfl, rfl⟩

@[simp] theorem apply_chr (s : State) (f : ChronUnit → ChronUnit) :
    ((Eff.chr f).apply s).pending = s.pending ∧
    ((Eff.chr f).apply s).regs = s.regs ∧
    ((Eff.chr f).apply s).host = s.host ∧
    ((Eff.chr f).apply s).tcm = s.tcm ∧
    ((Eff.chr f).apply s).free = s.free ∧
    ((Eff.chr f).apply s).out = s.out ∧
    ((Eff.chr f).apply s).q = s.q ∧
    ((Eff.chr f).apply s).ins = s.ins ∧
    ((Eff.chr f).apply s).icu = s.icu ∧
    ((Eff.chr f).apply s).chr = f s.chr ∧
    ((Eff.chr f).apply s).fixes = s.fixes ∧
    ((Eff.chr f).apply s).chart = s.chart ∧
    ((Eff.chr f).apply s).tree = s.tree ∧
    ((Eff.chr f).apply s).conv = s.conv ∧
    ((Eff.chr f).apply s).devs = s.devs ∧
    ((Eff.chr f).apply s).fns = s.fns ∧
    ((Eff.chr f).apply s).cpw = s.cpw ∧
    ((Eff.chr f).apply s).lanes = s.lanes ∧
    ((Eff.chr f).apply s).helms = s.helms ∧
    ((Eff.chr f).apply s).task = s.task ∧
    ((Eff.chr f).apply s).halt = s.halt ∧
    ((Eff.chr f).apply s).dma = s.dma ∧
    ((Eff.chr f).apply s).pwr = s.pwr ∧
    ((Eff.chr f).apply s).pair = s.pair ∧
    ((Eff.chr f).apply s).boot = s.boot ∧
    ((Eff.chr f).apply s).sec = s.sec ∧
    ((Eff.chr f).apply s).alm = s.alm ∧
    ((Eff.chr f).apply s).flash = s.flash ∧
    ((Eff.chr f).apply s).otp = s.otp :=
  ⟨rfl, rfl, rfl, rfl, rfl, rfl, rfl, rfl, rfl, rfl, rfl, rfl, rfl, rfl, rfl, rfl, rfl, rfl, rfl, rfl, rfl, rfl, rfl, rfl, rfl, rfl, rfl, rfl, rfl⟩

@[simp] theorem apply_chart (s : State) (f : ChartUnit → ChartUnit) :
    ((Eff.chart f).apply s).pending = s.pending ∧
    ((Eff.chart f).apply s).regs = s.regs ∧
    ((Eff.chart f).apply s).host = s.host ∧
    ((Eff.chart f).apply s).tcm = s.tcm ∧
    ((Eff.chart f).apply s).free = s.free ∧
    ((Eff.chart f).apply s).out = s.out ∧
    ((Eff.chart f).apply s).q = s.q ∧
    ((Eff.chart f).apply s).ins = s.ins ∧
    ((Eff.chart f).apply s).icu = s.icu ∧
    ((Eff.chart f).apply s).chr = s.chr ∧
    ((Eff.chart f).apply s).fixes = s.fixes ∧
    ((Eff.chart f).apply s).chart = f s.chart ∧
    ((Eff.chart f).apply s).tree = s.tree ∧
    ((Eff.chart f).apply s).conv = s.conv ∧
    ((Eff.chart f).apply s).devs = s.devs ∧
    ((Eff.chart f).apply s).fns = s.fns ∧
    ((Eff.chart f).apply s).cpw = s.cpw ∧
    ((Eff.chart f).apply s).lanes = s.lanes ∧
    ((Eff.chart f).apply s).helms = s.helms ∧
    ((Eff.chart f).apply s).task = s.task ∧
    ((Eff.chart f).apply s).halt = s.halt ∧
    ((Eff.chart f).apply s).dma = s.dma ∧
    ((Eff.chart f).apply s).pwr = s.pwr ∧
    ((Eff.chart f).apply s).pair = s.pair ∧
    ((Eff.chart f).apply s).boot = s.boot ∧
    ((Eff.chart f).apply s).sec = s.sec ∧
    ((Eff.chart f).apply s).alm = s.alm ∧
    ((Eff.chart f).apply s).flash = s.flash ∧
    ((Eff.chart f).apply s).otp = s.otp :=
  ⟨rfl, rfl, rfl, rfl, rfl, rfl, rfl, rfl, rfl, rfl, rfl, rfl, rfl, rfl, rfl, rfl, rfl, rfl, rfl, rfl, rfl, rfl, rfl, rfl, rfl, rfl, rfl, rfl, rfl⟩

@[simp] theorem apply_tree (s : State) (f : TreeUnit → TreeUnit) :
    ((Eff.tree f).apply s).pending = s.pending ∧
    ((Eff.tree f).apply s).regs = s.regs ∧
    ((Eff.tree f).apply s).host = s.host ∧
    ((Eff.tree f).apply s).tcm = s.tcm ∧
    ((Eff.tree f).apply s).free = s.free ∧
    ((Eff.tree f).apply s).out = s.out ∧
    ((Eff.tree f).apply s).q = s.q ∧
    ((Eff.tree f).apply s).ins = s.ins ∧
    ((Eff.tree f).apply s).icu = s.icu ∧
    ((Eff.tree f).apply s).chr = s.chr ∧
    ((Eff.tree f).apply s).fixes = s.fixes ∧
    ((Eff.tree f).apply s).chart = s.chart ∧
    ((Eff.tree f).apply s).tree = f s.tree ∧
    ((Eff.tree f).apply s).conv = s.conv ∧
    ((Eff.tree f).apply s).devs = s.devs ∧
    ((Eff.tree f).apply s).fns = s.fns ∧
    ((Eff.tree f).apply s).cpw = s.cpw ∧
    ((Eff.tree f).apply s).lanes = s.lanes ∧
    ((Eff.tree f).apply s).helms = s.helms ∧
    ((Eff.tree f).apply s).task = s.task ∧
    ((Eff.tree f).apply s).halt = s.halt ∧
    ((Eff.tree f).apply s).dma = s.dma ∧
    ((Eff.tree f).apply s).pwr = s.pwr ∧
    ((Eff.tree f).apply s).pair = s.pair ∧
    ((Eff.tree f).apply s).boot = s.boot ∧
    ((Eff.tree f).apply s).sec = s.sec ∧
    ((Eff.tree f).apply s).alm = s.alm ∧
    ((Eff.tree f).apply s).flash = s.flash ∧
    ((Eff.tree f).apply s).otp = s.otp :=
  ⟨rfl, rfl, rfl, rfl, rfl, rfl, rfl, rfl, rfl, rfl, rfl, rfl, rfl, rfl, rfl, rfl, rfl, rfl, rfl, rfl, rfl, rfl, rfl, rfl, rfl, rfl, rfl, rfl, rfl⟩

@[simp] theorem apply_conv (s : State) (f : ConvUnit → ConvUnit) :
    ((Eff.conv f).apply s).pending = s.pending ∧
    ((Eff.conv f).apply s).regs = s.regs ∧
    ((Eff.conv f).apply s).host = s.host ∧
    ((Eff.conv f).apply s).tcm = s.tcm ∧
    ((Eff.conv f).apply s).free = s.free ∧
    ((Eff.conv f).apply s).out = s.out ∧
    ((Eff.conv f).apply s).q = s.q ∧
    ((Eff.conv f).apply s).ins = s.ins ∧
    ((Eff.conv f).apply s).icu = s.icu ∧
    ((Eff.conv f).apply s).chr = s.chr ∧
    ((Eff.conv f).apply s).fixes = s.fixes ∧
    ((Eff.conv f).apply s).chart = s.chart ∧
    ((Eff.conv f).apply s).tree = s.tree ∧
    ((Eff.conv f).apply s).conv = f s.conv ∧
    ((Eff.conv f).apply s).devs = s.devs ∧
    ((Eff.conv f).apply s).fns = s.fns ∧
    ((Eff.conv f).apply s).cpw = s.cpw ∧
    ((Eff.conv f).apply s).lanes = s.lanes ∧
    ((Eff.conv f).apply s).helms = s.helms ∧
    ((Eff.conv f).apply s).task = s.task ∧
    ((Eff.conv f).apply s).halt = s.halt ∧
    ((Eff.conv f).apply s).dma = s.dma ∧
    ((Eff.conv f).apply s).pwr = s.pwr ∧
    ((Eff.conv f).apply s).pair = s.pair ∧
    ((Eff.conv f).apply s).boot = s.boot ∧
    ((Eff.conv f).apply s).sec = s.sec ∧
    ((Eff.conv f).apply s).alm = s.alm ∧
    ((Eff.conv f).apply s).flash = s.flash ∧
    ((Eff.conv f).apply s).otp = s.otp :=
  ⟨rfl, rfl, rfl, rfl, rfl, rfl, rfl, rfl, rfl, rfl, rfl, rfl, rfl, rfl, rfl, rfl, rfl, rfl, rfl, rfl, rfl, rfl, rfl, rfl, rfl, rfl, rfl, rfl, rfl⟩

@[simp] theorem apply_cpw (s : State) (f : CpwUnit → CpwUnit) :
    ((Eff.cpw f).apply s).pending = s.pending ∧
    ((Eff.cpw f).apply s).regs = s.regs ∧
    ((Eff.cpw f).apply s).host = s.host ∧
    ((Eff.cpw f).apply s).tcm = s.tcm ∧
    ((Eff.cpw f).apply s).free = s.free ∧
    ((Eff.cpw f).apply s).out = s.out ∧
    ((Eff.cpw f).apply s).q = s.q ∧
    ((Eff.cpw f).apply s).ins = s.ins ∧
    ((Eff.cpw f).apply s).icu = s.icu ∧
    ((Eff.cpw f).apply s).chr = s.chr ∧
    ((Eff.cpw f).apply s).fixes = s.fixes ∧
    ((Eff.cpw f).apply s).chart = s.chart ∧
    ((Eff.cpw f).apply s).tree = s.tree ∧
    ((Eff.cpw f).apply s).conv = s.conv ∧
    ((Eff.cpw f).apply s).devs = s.devs ∧
    ((Eff.cpw f).apply s).fns = s.fns ∧
    ((Eff.cpw f).apply s).cpw = f s.cpw ∧
    ((Eff.cpw f).apply s).lanes = s.lanes ∧
    ((Eff.cpw f).apply s).helms = s.helms ∧
    ((Eff.cpw f).apply s).task = s.task ∧
    ((Eff.cpw f).apply s).halt = s.halt ∧
    ((Eff.cpw f).apply s).dma = s.dma ∧
    ((Eff.cpw f).apply s).pwr = s.pwr ∧
    ((Eff.cpw f).apply s).pair = s.pair ∧
    ((Eff.cpw f).apply s).boot = s.boot ∧
    ((Eff.cpw f).apply s).sec = s.sec ∧
    ((Eff.cpw f).apply s).alm = s.alm ∧
    ((Eff.cpw f).apply s).flash = s.flash ∧
    ((Eff.cpw f).apply s).otp = s.otp :=
  ⟨rfl, rfl, rfl, rfl, rfl, rfl, rfl, rfl, rfl, rfl, rfl, rfl, rfl, rfl, rfl, rfl, rfl, rfl, rfl, rfl, rfl, rfl, rfl, rfl, rfl, rfl, rfl, rfl, rfl⟩

@[simp] theorem apply_task (s : State) (f : TaskUnit → TaskUnit) :
    ((Eff.task f).apply s).pending = s.pending ∧
    ((Eff.task f).apply s).regs = s.regs ∧
    ((Eff.task f).apply s).host = s.host ∧
    ((Eff.task f).apply s).tcm = s.tcm ∧
    ((Eff.task f).apply s).free = s.free ∧
    ((Eff.task f).apply s).out = s.out ∧
    ((Eff.task f).apply s).q = s.q ∧
    ((Eff.task f).apply s).ins = s.ins ∧
    ((Eff.task f).apply s).icu = s.icu ∧
    ((Eff.task f).apply s).chr = s.chr ∧
    ((Eff.task f).apply s).fixes = s.fixes ∧
    ((Eff.task f).apply s).chart = s.chart ∧
    ((Eff.task f).apply s).tree = s.tree ∧
    ((Eff.task f).apply s).conv = s.conv ∧
    ((Eff.task f).apply s).devs = s.devs ∧
    ((Eff.task f).apply s).fns = s.fns ∧
    ((Eff.task f).apply s).cpw = s.cpw ∧
    ((Eff.task f).apply s).lanes = s.lanes ∧
    ((Eff.task f).apply s).helms = s.helms ∧
    ((Eff.task f).apply s).task = f s.task ∧
    ((Eff.task f).apply s).halt = s.halt ∧
    ((Eff.task f).apply s).dma = s.dma ∧
    ((Eff.task f).apply s).pwr = s.pwr ∧
    ((Eff.task f).apply s).pair = s.pair ∧
    ((Eff.task f).apply s).boot = s.boot ∧
    ((Eff.task f).apply s).sec = s.sec ∧
    ((Eff.task f).apply s).alm = s.alm ∧
    ((Eff.task f).apply s).flash = s.flash ∧
    ((Eff.task f).apply s).otp = s.otp :=
  ⟨rfl, rfl, rfl, rfl, rfl, rfl, rfl, rfl, rfl, rfl, rfl, rfl, rfl, rfl, rfl, rfl, rfl, rfl, rfl, rfl, rfl, rfl, rfl, rfl, rfl, rfl, rfl, rfl, rfl⟩

@[simp] theorem apply_halt (s : State) (f : HaltUnit → HaltUnit) :
    ((Eff.halt f).apply s).pending = s.pending ∧
    ((Eff.halt f).apply s).regs = s.regs ∧
    ((Eff.halt f).apply s).host = s.host ∧
    ((Eff.halt f).apply s).tcm = s.tcm ∧
    ((Eff.halt f).apply s).free = s.free ∧
    ((Eff.halt f).apply s).out = s.out ∧
    ((Eff.halt f).apply s).q = s.q ∧
    ((Eff.halt f).apply s).ins = s.ins ∧
    ((Eff.halt f).apply s).icu = s.icu ∧
    ((Eff.halt f).apply s).chr = s.chr ∧
    ((Eff.halt f).apply s).fixes = s.fixes ∧
    ((Eff.halt f).apply s).chart = s.chart ∧
    ((Eff.halt f).apply s).tree = s.tree ∧
    ((Eff.halt f).apply s).conv = s.conv ∧
    ((Eff.halt f).apply s).devs = s.devs ∧
    ((Eff.halt f).apply s).fns = s.fns ∧
    ((Eff.halt f).apply s).cpw = s.cpw ∧
    ((Eff.halt f).apply s).lanes = s.lanes ∧
    ((Eff.halt f).apply s).helms = s.helms ∧
    ((Eff.halt f).apply s).task = s.task ∧
    ((Eff.halt f).apply s).halt = f s.halt ∧
    ((Eff.halt f).apply s).dma = s.dma ∧
    ((Eff.halt f).apply s).pwr = s.pwr ∧
    ((Eff.halt f).apply s).pair = s.pair ∧
    ((Eff.halt f).apply s).boot = s.boot ∧
    ((Eff.halt f).apply s).sec = s.sec ∧
    ((Eff.halt f).apply s).alm = s.alm ∧
    ((Eff.halt f).apply s).flash = s.flash ∧
    ((Eff.halt f).apply s).otp = s.otp :=
  ⟨rfl, rfl, rfl, rfl, rfl, rfl, rfl, rfl, rfl, rfl, rfl, rfl, rfl, rfl, rfl, rfl, rfl, rfl, rfl, rfl, rfl, rfl, rfl, rfl, rfl, rfl, rfl, rfl, rfl⟩

@[simp] theorem apply_dma (s : State) (f : DmaUnit → DmaUnit) :
    ((Eff.dma f).apply s).pending = s.pending ∧
    ((Eff.dma f).apply s).regs = s.regs ∧
    ((Eff.dma f).apply s).host = s.host ∧
    ((Eff.dma f).apply s).tcm = s.tcm ∧
    ((Eff.dma f).apply s).free = s.free ∧
    ((Eff.dma f).apply s).out = s.out ∧
    ((Eff.dma f).apply s).q = s.q ∧
    ((Eff.dma f).apply s).ins = s.ins ∧
    ((Eff.dma f).apply s).icu = s.icu ∧
    ((Eff.dma f).apply s).chr = s.chr ∧
    ((Eff.dma f).apply s).fixes = s.fixes ∧
    ((Eff.dma f).apply s).chart = s.chart ∧
    ((Eff.dma f).apply s).tree = s.tree ∧
    ((Eff.dma f).apply s).conv = s.conv ∧
    ((Eff.dma f).apply s).devs = s.devs ∧
    ((Eff.dma f).apply s).fns = s.fns ∧
    ((Eff.dma f).apply s).cpw = s.cpw ∧
    ((Eff.dma f).apply s).lanes = s.lanes ∧
    ((Eff.dma f).apply s).helms = s.helms ∧
    ((Eff.dma f).apply s).task = s.task ∧
    ((Eff.dma f).apply s).halt = s.halt ∧
    ((Eff.dma f).apply s).dma = f s.dma ∧
    ((Eff.dma f).apply s).pwr = s.pwr ∧
    ((Eff.dma f).apply s).pair = s.pair ∧
    ((Eff.dma f).apply s).boot = s.boot ∧
    ((Eff.dma f).apply s).sec = s.sec ∧
    ((Eff.dma f).apply s).alm = s.alm ∧
    ((Eff.dma f).apply s).flash = s.flash ∧
    ((Eff.dma f).apply s).otp = s.otp :=
  ⟨rfl, rfl, rfl, rfl, rfl, rfl, rfl, rfl, rfl, rfl, rfl, rfl, rfl, rfl, rfl, rfl, rfl, rfl, rfl, rfl, rfl, rfl, rfl, rfl, rfl, rfl, rfl, rfl, rfl⟩

@[simp] theorem apply_pwr (s : State) (f : PwrUnit → PwrUnit) :
    ((Eff.pwr f).apply s).pending = s.pending ∧
    ((Eff.pwr f).apply s).regs = s.regs ∧
    ((Eff.pwr f).apply s).host = s.host ∧
    ((Eff.pwr f).apply s).tcm = s.tcm ∧
    ((Eff.pwr f).apply s).free = s.free ∧
    ((Eff.pwr f).apply s).out = s.out ∧
    ((Eff.pwr f).apply s).q = s.q ∧
    ((Eff.pwr f).apply s).ins = s.ins ∧
    ((Eff.pwr f).apply s).icu = s.icu ∧
    ((Eff.pwr f).apply s).chr = s.chr ∧
    ((Eff.pwr f).apply s).fixes = s.fixes ∧
    ((Eff.pwr f).apply s).chart = s.chart ∧
    ((Eff.pwr f).apply s).tree = s.tree ∧
    ((Eff.pwr f).apply s).conv = s.conv ∧
    ((Eff.pwr f).apply s).devs = s.devs ∧
    ((Eff.pwr f).apply s).fns = s.fns ∧
    ((Eff.pwr f).apply s).cpw = s.cpw ∧
    ((Eff.pwr f).apply s).lanes = s.lanes ∧
    ((Eff.pwr f).apply s).helms = s.helms ∧
    ((Eff.pwr f).apply s).task = s.task ∧
    ((Eff.pwr f).apply s).halt = s.halt ∧
    ((Eff.pwr f).apply s).dma = s.dma ∧
    ((Eff.pwr f).apply s).pwr = f s.pwr ∧
    ((Eff.pwr f).apply s).pair = s.pair ∧
    ((Eff.pwr f).apply s).boot = s.boot ∧
    ((Eff.pwr f).apply s).sec = s.sec ∧
    ((Eff.pwr f).apply s).alm = s.alm ∧
    ((Eff.pwr f).apply s).flash = s.flash ∧
    ((Eff.pwr f).apply s).otp = s.otp :=
  ⟨rfl, rfl, rfl, rfl, rfl, rfl, rfl, rfl, rfl, rfl, rfl, rfl, rfl, rfl, rfl, rfl, rfl, rfl, rfl, rfl, rfl, rfl, rfl, rfl, rfl, rfl, rfl, rfl, rfl⟩

@[simp] theorem apply_pair (s : State) (f : PairUnit → PairUnit) :
    ((Eff.pair f).apply s).pending = s.pending ∧
    ((Eff.pair f).apply s).regs = s.regs ∧
    ((Eff.pair f).apply s).host = s.host ∧
    ((Eff.pair f).apply s).tcm = s.tcm ∧
    ((Eff.pair f).apply s).free = s.free ∧
    ((Eff.pair f).apply s).out = s.out ∧
    ((Eff.pair f).apply s).q = s.q ∧
    ((Eff.pair f).apply s).ins = s.ins ∧
    ((Eff.pair f).apply s).icu = s.icu ∧
    ((Eff.pair f).apply s).chr = s.chr ∧
    ((Eff.pair f).apply s).fixes = s.fixes ∧
    ((Eff.pair f).apply s).chart = s.chart ∧
    ((Eff.pair f).apply s).tree = s.tree ∧
    ((Eff.pair f).apply s).conv = s.conv ∧
    ((Eff.pair f).apply s).devs = s.devs ∧
    ((Eff.pair f).apply s).fns = s.fns ∧
    ((Eff.pair f).apply s).cpw = s.cpw ∧
    ((Eff.pair f).apply s).lanes = s.lanes ∧
    ((Eff.pair f).apply s).helms = s.helms ∧
    ((Eff.pair f).apply s).task = s.task ∧
    ((Eff.pair f).apply s).halt = s.halt ∧
    ((Eff.pair f).apply s).dma = s.dma ∧
    ((Eff.pair f).apply s).pwr = s.pwr ∧
    ((Eff.pair f).apply s).pair = f s.pair ∧
    ((Eff.pair f).apply s).boot = s.boot ∧
    ((Eff.pair f).apply s).sec = s.sec ∧
    ((Eff.pair f).apply s).alm = s.alm ∧
    ((Eff.pair f).apply s).flash = s.flash ∧
    ((Eff.pair f).apply s).otp = s.otp :=
  ⟨rfl, rfl, rfl, rfl, rfl, rfl, rfl, rfl, rfl, rfl, rfl, rfl, rfl, rfl, rfl, rfl, rfl, rfl, rfl, rfl, rfl, rfl, rfl, rfl, rfl, rfl, rfl, rfl, rfl⟩

@[simp] theorem apply_boot (s : State) (f : BootUnit → BootUnit) :
    ((Eff.boot f).apply s).pending = s.pending ∧
    ((Eff.boot f).apply s).regs = s.regs ∧
    ((Eff.boot f).apply s).host = s.host ∧
    ((Eff.boot f).apply s).tcm = s.tcm ∧
    ((Eff.boot f).apply s).free = s.free ∧
    ((Eff.boot f).apply s).out = s.out ∧
    ((Eff.boot f).apply s).q = s.q ∧
    ((Eff.boot f).apply s).ins = s.ins ∧
    ((Eff.boot f).apply s).icu = s.icu ∧
    ((Eff.boot f).apply s).chr = s.chr ∧
    ((Eff.boot f).apply s).fixes = s.fixes ∧
    ((Eff.boot f).apply s).chart = s.chart ∧
    ((Eff.boot f).apply s).tree = s.tree ∧
    ((Eff.boot f).apply s).conv = s.conv ∧
    ((Eff.boot f).apply s).devs = s.devs ∧
    ((Eff.boot f).apply s).fns = s.fns ∧
    ((Eff.boot f).apply s).cpw = s.cpw ∧
    ((Eff.boot f).apply s).lanes = s.lanes ∧
    ((Eff.boot f).apply s).helms = s.helms ∧
    ((Eff.boot f).apply s).task = s.task ∧
    ((Eff.boot f).apply s).halt = s.halt ∧
    ((Eff.boot f).apply s).dma = s.dma ∧
    ((Eff.boot f).apply s).pwr = s.pwr ∧
    ((Eff.boot f).apply s).pair = s.pair ∧
    ((Eff.boot f).apply s).boot = f s.boot ∧
    ((Eff.boot f).apply s).sec = s.sec ∧
    ((Eff.boot f).apply s).alm = s.alm ∧
    ((Eff.boot f).apply s).flash = s.flash ∧
    ((Eff.boot f).apply s).otp = s.otp :=
  ⟨rfl, rfl, rfl, rfl, rfl, rfl, rfl, rfl, rfl, rfl, rfl, rfl, rfl, rfl, rfl, rfl, rfl, rfl, rfl, rfl, rfl, rfl, rfl, rfl, rfl, rfl, rfl, rfl, rfl⟩

@[simp] theorem apply_sec (s : State) (f : SecUnit → SecUnit) :
    ((Eff.sec f).apply s).pending = s.pending ∧
    ((Eff.sec f).apply s).regs = s.regs ∧
    ((Eff.sec f).apply s).host = s.host ∧
    ((Eff.sec f).apply s).tcm = s.tcm ∧
    ((Eff.sec f).apply s).free = s.free ∧
    ((Eff.sec f).apply s).out = s.out ∧
    ((Eff.sec f).apply s).q = s.q ∧
    ((Eff.sec f).apply s).ins = s.ins ∧
    ((Eff.sec f).apply s).icu = s.icu ∧
    ((Eff.sec f).apply s).chr = s.chr ∧
    ((Eff.sec f).apply s).fixes = s.fixes ∧
    ((Eff.sec f).apply s).chart = s.chart ∧
    ((Eff.sec f).apply s).tree = s.tree ∧
    ((Eff.sec f).apply s).conv = s.conv ∧
    ((Eff.sec f).apply s).devs = s.devs ∧
    ((Eff.sec f).apply s).fns = s.fns ∧
    ((Eff.sec f).apply s).cpw = s.cpw ∧
    ((Eff.sec f).apply s).lanes = s.lanes ∧
    ((Eff.sec f).apply s).helms = s.helms ∧
    ((Eff.sec f).apply s).task = s.task ∧
    ((Eff.sec f).apply s).halt = s.halt ∧
    ((Eff.sec f).apply s).dma = s.dma ∧
    ((Eff.sec f).apply s).pwr = s.pwr ∧
    ((Eff.sec f).apply s).pair = s.pair ∧
    ((Eff.sec f).apply s).boot = s.boot ∧
    ((Eff.sec f).apply s).sec = f s.sec ∧
    ((Eff.sec f).apply s).alm = s.alm ∧
    ((Eff.sec f).apply s).flash = s.flash ∧
    ((Eff.sec f).apply s).otp = s.otp :=
  ⟨rfl, rfl, rfl, rfl, rfl, rfl, rfl, rfl, rfl, rfl, rfl, rfl, rfl, rfl, rfl, rfl, rfl, rfl, rfl, rfl, rfl, rfl, rfl, rfl, rfl, rfl, rfl, rfl, rfl⟩

@[simp] theorem apply_alm (s : State) (f : AlmUnit → AlmUnit) :
    ((Eff.alm f).apply s).pending = s.pending ∧
    ((Eff.alm f).apply s).regs = s.regs ∧
    ((Eff.alm f).apply s).host = s.host ∧
    ((Eff.alm f).apply s).tcm = s.tcm ∧
    ((Eff.alm f).apply s).free = s.free ∧
    ((Eff.alm f).apply s).out = s.out ∧
    ((Eff.alm f).apply s).q = s.q ∧
    ((Eff.alm f).apply s).ins = s.ins ∧
    ((Eff.alm f).apply s).icu = s.icu ∧
    ((Eff.alm f).apply s).chr = s.chr ∧
    ((Eff.alm f).apply s).fixes = s.fixes ∧
    ((Eff.alm f).apply s).chart = s.chart ∧
    ((Eff.alm f).apply s).tree = s.tree ∧
    ((Eff.alm f).apply s).conv = s.conv ∧
    ((Eff.alm f).apply s).devs = s.devs ∧
    ((Eff.alm f).apply s).fns = s.fns ∧
    ((Eff.alm f).apply s).cpw = s.cpw ∧
    ((Eff.alm f).apply s).lanes = s.lanes ∧
    ((Eff.alm f).apply s).helms = s.helms ∧
    ((Eff.alm f).apply s).task = s.task ∧
    ((Eff.alm f).apply s).halt = s.halt ∧
    ((Eff.alm f).apply s).dma = s.dma ∧
    ((Eff.alm f).apply s).pwr = s.pwr ∧
    ((Eff.alm f).apply s).pair = s.pair ∧
    ((Eff.alm f).apply s).boot = s.boot ∧
    ((Eff.alm f).apply s).sec = s.sec ∧
    ((Eff.alm f).apply s).alm = f s.alm ∧
    ((Eff.alm f).apply s).flash = s.flash ∧
    ((Eff.alm f).apply s).otp = s.otp :=
  ⟨rfl, rfl, rfl, rfl, rfl, rfl, rfl, rfl, rfl, rfl, rfl, rfl, rfl, rfl, rfl, rfl, rfl, rfl, rfl, rfl, rfl, rfl, rfl, rfl, rfl, rfl, rfl, rfl, rfl⟩

@[simp] theorem apply_fix (s : State) (k : Nat) (v : LinkFix) :
    ((Eff.fix k v).apply s).pending = s.pending ∧
    ((Eff.fix k v).apply s).regs = s.regs ∧
    ((Eff.fix k v).apply s).host = s.host ∧
    ((Eff.fix k v).apply s).tcm = s.tcm ∧
    ((Eff.fix k v).apply s).free = s.free ∧
    ((Eff.fix k v).apply s).out = s.out ∧
    ((Eff.fix k v).apply s).q = s.q ∧
    ((Eff.fix k v).apply s).ins = s.ins ∧
    ((Eff.fix k v).apply s).icu = s.icu ∧
    ((Eff.fix k v).apply s).chr = s.chr ∧
    ((Eff.fix k v).apply s).fixes = Sparse.set (fun _ => {}) s.fixes k v ∧
    ((Eff.fix k v).apply s).chart = s.chart ∧
    ((Eff.fix k v).apply s).tree = s.tree ∧
    ((Eff.fix k v).apply s).conv = s.conv ∧
    ((Eff.fix k v).apply s).devs = s.devs ∧
    ((Eff.fix k v).apply s).fns = s.fns ∧
    ((Eff.fix k v).apply s).cpw = s.cpw ∧
    ((Eff.fix k v).apply s).lanes = s.lanes ∧
    ((Eff.fix k v).apply s).helms = s.helms ∧
    ((Eff.fix k v).apply s).task = s.task ∧
    ((Eff.fix k v).apply s).halt = s.halt ∧
    ((Eff.fix k v).apply s).dma = s.dma ∧
    ((Eff.fix k v).apply s).pwr = s.pwr ∧
    ((Eff.fix k v).apply s).pair = s.pair ∧
    ((Eff.fix k v).apply s).boot = s.boot ∧
    ((Eff.fix k v).apply s).sec = s.sec ∧
    ((Eff.fix k v).apply s).alm = s.alm ∧
    ((Eff.fix k v).apply s).flash = s.flash ∧
    ((Eff.fix k v).apply s).otp = s.otp :=
  ⟨rfl, rfl, rfl, rfl, rfl, rfl, rfl, rfl, rfl, rfl, rfl, rfl, rfl, rfl, rfl, rfl, rfl, rfl, rfl, rfl, rfl, rfl, rfl, rfl, rfl, rfl, rfl, rfl, rfl⟩

@[simp] theorem apply_dev (s : State) (k : Nat) (v : NodeDev) :
    ((Eff.dev k v).apply s).pending = s.pending ∧
    ((Eff.dev k v).apply s).regs = s.regs ∧
    ((Eff.dev k v).apply s).host = s.host ∧
    ((Eff.dev k v).apply s).tcm = s.tcm ∧
    ((Eff.dev k v).apply s).free = s.free ∧
    ((Eff.dev k v).apply s).out = s.out ∧
    ((Eff.dev k v).apply s).q = s.q ∧
    ((Eff.dev k v).apply s).ins = s.ins ∧
    ((Eff.dev k v).apply s).icu = s.icu ∧
    ((Eff.dev k v).apply s).chr = s.chr ∧
    ((Eff.dev k v).apply s).fixes = s.fixes ∧
    ((Eff.dev k v).apply s).chart = s.chart ∧
    ((Eff.dev k v).apply s).tree = s.tree ∧
    ((Eff.dev k v).apply s).conv = s.conv ∧
    ((Eff.dev k v).apply s).devs = Sparse.set (fun _ => {}) s.devs k v ∧
    ((Eff.dev k v).apply s).fns = s.fns ∧
    ((Eff.dev k v).apply s).cpw = s.cpw ∧
    ((Eff.dev k v).apply s).lanes = s.lanes ∧
    ((Eff.dev k v).apply s).helms = s.helms ∧
    ((Eff.dev k v).apply s).task = s.task ∧
    ((Eff.dev k v).apply s).halt = s.halt ∧
    ((Eff.dev k v).apply s).dma = s.dma ∧
    ((Eff.dev k v).apply s).pwr = s.pwr ∧
    ((Eff.dev k v).apply s).pair = s.pair ∧
    ((Eff.dev k v).apply s).boot = s.boot ∧
    ((Eff.dev k v).apply s).sec = s.sec ∧
    ((Eff.dev k v).apply s).alm = s.alm ∧
    ((Eff.dev k v).apply s).flash = s.flash ∧
    ((Eff.dev k v).apply s).otp = s.otp :=
  ⟨rfl, rfl, rfl, rfl, rfl, rfl, rfl, rfl, rfl, rfl, rfl, rfl, rfl, rfl, rfl, rfl, rfl, rfl, rfl, rfl, rfl, rfl, rfl, rfl, rfl, rfl, rfl, rfl, rfl⟩

@[simp] theorem apply_fn (s : State) (k : Nat) (v : FnCfg) :
    ((Eff.fn k v).apply s).pending = s.pending ∧
    ((Eff.fn k v).apply s).regs = s.regs ∧
    ((Eff.fn k v).apply s).host = s.host ∧
    ((Eff.fn k v).apply s).tcm = s.tcm ∧
    ((Eff.fn k v).apply s).free = s.free ∧
    ((Eff.fn k v).apply s).out = s.out ∧
    ((Eff.fn k v).apply s).q = s.q ∧
    ((Eff.fn k v).apply s).ins = s.ins ∧
    ((Eff.fn k v).apply s).icu = s.icu ∧
    ((Eff.fn k v).apply s).chr = s.chr ∧
    ((Eff.fn k v).apply s).fixes = s.fixes ∧
    ((Eff.fn k v).apply s).chart = s.chart ∧
    ((Eff.fn k v).apply s).tree = s.tree ∧
    ((Eff.fn k v).apply s).conv = s.conv ∧
    ((Eff.fn k v).apply s).devs = s.devs ∧
    ((Eff.fn k v).apply s).fns = Sparse.set (fun _ => {}) s.fns k v ∧
    ((Eff.fn k v).apply s).cpw = s.cpw ∧
    ((Eff.fn k v).apply s).lanes = s.lanes ∧
    ((Eff.fn k v).apply s).helms = s.helms ∧
    ((Eff.fn k v).apply s).task = s.task ∧
    ((Eff.fn k v).apply s).halt = s.halt ∧
    ((Eff.fn k v).apply s).dma = s.dma ∧
    ((Eff.fn k v).apply s).pwr = s.pwr ∧
    ((Eff.fn k v).apply s).pair = s.pair ∧
    ((Eff.fn k v).apply s).boot = s.boot ∧
    ((Eff.fn k v).apply s).sec = s.sec ∧
    ((Eff.fn k v).apply s).alm = s.alm ∧
    ((Eff.fn k v).apply s).flash = s.flash ∧
    ((Eff.fn k v).apply s).otp = s.otp :=
  ⟨rfl, rfl, rfl, rfl, rfl, rfl, rfl, rfl, rfl, rfl, rfl, rfl, rfl, rfl, rfl, rfl, rfl, rfl, rfl, rfl, rfl, rfl, rfl, rfl, rfl, rfl, rfl, rfl, rfl⟩

@[simp] theorem apply_lane (s : State) (k : Nat) (v : LaneRec) :
    ((Eff.lane k v).apply s).pending = s.pending ∧
    ((Eff.lane k v).apply s).regs = s.regs ∧
    ((Eff.lane k v).apply s).host = s.host ∧
    ((Eff.lane k v).apply s).tcm = s.tcm ∧
    ((Eff.lane k v).apply s).free = s.free ∧
    ((Eff.lane k v).apply s).out = s.out ∧
    ((Eff.lane k v).apply s).q = s.q ∧
    ((Eff.lane k v).apply s).ins = s.ins ∧
    ((Eff.lane k v).apply s).icu = s.icu ∧
    ((Eff.lane k v).apply s).chr = s.chr ∧
    ((Eff.lane k v).apply s).fixes = s.fixes ∧
    ((Eff.lane k v).apply s).chart = s.chart ∧
    ((Eff.lane k v).apply s).tree = s.tree ∧
    ((Eff.lane k v).apply s).conv = s.conv ∧
    ((Eff.lane k v).apply s).devs = s.devs ∧
    ((Eff.lane k v).apply s).fns = s.fns ∧
    ((Eff.lane k v).apply s).cpw = s.cpw ∧
    ((Eff.lane k v).apply s).lanes = Sparse.set (fun _ => {}) s.lanes k v ∧
    ((Eff.lane k v).apply s).helms = s.helms ∧
    ((Eff.lane k v).apply s).task = s.task ∧
    ((Eff.lane k v).apply s).halt = s.halt ∧
    ((Eff.lane k v).apply s).dma = s.dma ∧
    ((Eff.lane k v).apply s).pwr = s.pwr ∧
    ((Eff.lane k v).apply s).pair = s.pair ∧
    ((Eff.lane k v).apply s).boot = s.boot ∧
    ((Eff.lane k v).apply s).sec = s.sec ∧
    ((Eff.lane k v).apply s).alm = s.alm ∧
    ((Eff.lane k v).apply s).flash = s.flash ∧
    ((Eff.lane k v).apply s).otp = s.otp :=
  ⟨rfl, rfl, rfl, rfl, rfl, rfl, rfl, rfl, rfl, rfl, rfl, rfl, rfl, rfl, rfl, rfl, rfl, rfl, rfl, rfl, rfl, rfl, rfl, rfl, rfl, rfl, rfl, rfl, rfl⟩

@[simp] theorem apply_helm (s : State) (k : Nat) (v : HelmUnit) :
    ((Eff.helm k v).apply s).pending = s.pending ∧
    ((Eff.helm k v).apply s).regs = s.regs ∧
    ((Eff.helm k v).apply s).host = s.host ∧
    ((Eff.helm k v).apply s).tcm = s.tcm ∧
    ((Eff.helm k v).apply s).free = s.free ∧
    ((Eff.helm k v).apply s).out = s.out ∧
    ((Eff.helm k v).apply s).q = s.q ∧
    ((Eff.helm k v).apply s).ins = s.ins ∧
    ((Eff.helm k v).apply s).icu = s.icu ∧
    ((Eff.helm k v).apply s).chr = s.chr ∧
    ((Eff.helm k v).apply s).fixes = s.fixes ∧
    ((Eff.helm k v).apply s).chart = s.chart ∧
    ((Eff.helm k v).apply s).tree = s.tree ∧
    ((Eff.helm k v).apply s).conv = s.conv ∧
    ((Eff.helm k v).apply s).devs = s.devs ∧
    ((Eff.helm k v).apply s).fns = s.fns ∧
    ((Eff.helm k v).apply s).cpw = s.cpw ∧
    ((Eff.helm k v).apply s).lanes = s.lanes ∧
    ((Eff.helm k v).apply s).helms = Sparse.set (fun _ => {}) s.helms k v ∧
    ((Eff.helm k v).apply s).task = s.task ∧
    ((Eff.helm k v).apply s).halt = s.halt ∧
    ((Eff.helm k v).apply s).dma = s.dma ∧
    ((Eff.helm k v).apply s).pwr = s.pwr ∧
    ((Eff.helm k v).apply s).pair = s.pair ∧
    ((Eff.helm k v).apply s).boot = s.boot ∧
    ((Eff.helm k v).apply s).sec = s.sec ∧
    ((Eff.helm k v).apply s).alm = s.alm ∧
    ((Eff.helm k v).apply s).flash = s.flash ∧
    ((Eff.helm k v).apply s).otp = s.otp :=
  ⟨rfl, rfl, rfl, rfl, rfl, rfl, rfl, rfl, rfl, rfl, rfl, rfl, rfl, rfl, rfl, rfl, rfl, rfl, rfl, rfl, rfl, rfl, rfl, rfl, rfl, rfl, rfl, rfl, rfl⟩

@[simp] theorem apply_flash (s : State) (a : Nat) (bs : List Byte) :
    ((Eff.flash a bs).apply s).pending = s.pending ∧
    ((Eff.flash a bs).apply s).regs = s.regs ∧
    ((Eff.flash a bs).apply s).host = s.host ∧
    ((Eff.flash a bs).apply s).tcm = s.tcm ∧
    ((Eff.flash a bs).apply s).free = s.free ∧
    ((Eff.flash a bs).apply s).out = s.out ∧
    ((Eff.flash a bs).apply s).q = s.q ∧
    ((Eff.flash a bs).apply s).ins = s.ins ∧
    ((Eff.flash a bs).apply s).icu = s.icu ∧
    ((Eff.flash a bs).apply s).chr = s.chr ∧
    ((Eff.flash a bs).apply s).fixes = s.fixes ∧
    ((Eff.flash a bs).apply s).chart = s.chart ∧
    ((Eff.flash a bs).apply s).tree = s.tree ∧
    ((Eff.flash a bs).apply s).conv = s.conv ∧
    ((Eff.flash a bs).apply s).devs = s.devs ∧
    ((Eff.flash a bs).apply s).fns = s.fns ∧
    ((Eff.flash a bs).apply s).cpw = s.cpw ∧
    ((Eff.flash a bs).apply s).lanes = s.lanes ∧
    ((Eff.flash a bs).apply s).helms = s.helms ∧
    ((Eff.flash a bs).apply s).task = s.task ∧
    ((Eff.flash a bs).apply s).halt = s.halt ∧
    ((Eff.flash a bs).apply s).dma = s.dma ∧
    ((Eff.flash a bs).apply s).pwr = s.pwr ∧
    ((Eff.flash a bs).apply s).pair = s.pair ∧
    ((Eff.flash a bs).apply s).boot = s.boot ∧
    ((Eff.flash a bs).apply s).sec = s.sec ∧
    ((Eff.flash a bs).apply s).alm = s.alm ∧
    ((Eff.flash a bs).apply s).flash = writeBytes flashDefault s.flash a bs ∧
    ((Eff.flash a bs).apply s).otp = s.otp :=
  ⟨rfl, rfl, rfl, rfl, rfl, rfl, rfl, rfl, rfl, rfl, rfl, rfl, rfl, rfl, rfl, rfl, rfl, rfl, rfl, rfl, rfl, rfl, rfl, rfl, rfl, rfl, rfl, rfl, rfl⟩

@[simp] theorem apply_otp (s : State) (a : Nat) (bs : List Byte) :
    ((Eff.otp a bs).apply s).pending = s.pending ∧
    ((Eff.otp a bs).apply s).regs = s.regs ∧
    ((Eff.otp a bs).apply s).host = s.host ∧
    ((Eff.otp a bs).apply s).tcm = s.tcm ∧
    ((Eff.otp a bs).apply s).free = s.free ∧
    ((Eff.otp a bs).apply s).out = s.out ∧
    ((Eff.otp a bs).apply s).q = s.q ∧
    ((Eff.otp a bs).apply s).ins = s.ins ∧
    ((Eff.otp a bs).apply s).icu = s.icu ∧
    ((Eff.otp a bs).apply s).chr = s.chr ∧
    ((Eff.otp a bs).apply s).fixes = s.fixes ∧
    ((Eff.otp a bs).apply s).chart = s.chart ∧
    ((Eff.otp a bs).apply s).tree = s.tree ∧
    ((Eff.otp a bs).apply s).conv = s.conv ∧
    ((Eff.otp a bs).apply s).devs = s.devs ∧
    ((Eff.otp a bs).apply s).fns = s.fns ∧
    ((Eff.otp a bs).apply s).cpw = s.cpw ∧
    ((Eff.otp a bs).apply s).lanes = s.lanes ∧
    ((Eff.otp a bs).apply s).helms = s.helms ∧
    ((Eff.otp a bs).apply s).task = s.task ∧
    ((Eff.otp a bs).apply s).halt = s.halt ∧
    ((Eff.otp a bs).apply s).dma = s.dma ∧
    ((Eff.otp a bs).apply s).pwr = s.pwr ∧
    ((Eff.otp a bs).apply s).pair = s.pair ∧
    ((Eff.otp a bs).apply s).boot = s.boot ∧
    ((Eff.otp a bs).apply s).sec = s.sec ∧
    ((Eff.otp a bs).apply s).alm = s.alm ∧
    ((Eff.otp a bs).apply s).flash = s.flash ∧
    ((Eff.otp a bs).apply s).otp = otpProgram s.otp a bs :=
  ⟨rfl, rfl, rfl, rfl, rfl, rfl, rfl, rfl, rfl, rfl, rfl, rfl, rfl, rfl, rfl, rfl, rfl, rfl, rfl, rfl, rfl, rfl, rfl, rfl, rfl, rfl, rfl, rfl, rfl⟩

@[simp] theorem apply_keepRegs (s : State) (p : Nat → Bool) :
    ((Eff.keepRegs p).apply s).pending = s.pending ∧
    ((Eff.keepRegs p).apply s).regs = s.regs.filter (fun e => p e.1) ∧
    ((Eff.keepRegs p).apply s).host = s.host ∧
    ((Eff.keepRegs p).apply s).tcm = s.tcm ∧
    ((Eff.keepRegs p).apply s).free = s.free ∧
    ((Eff.keepRegs p).apply s).out = s.out ∧
    ((Eff.keepRegs p).apply s).q = s.q ∧
    ((Eff.keepRegs p).apply s).ins = s.ins ∧
    ((Eff.keepRegs p).apply s).icu = s.icu ∧
    ((Eff.keepRegs p).apply s).chr = s.chr ∧
    ((Eff.keepRegs p).apply s).fixes = s.fixes ∧
    ((Eff.keepRegs p).apply s).chart = s.chart ∧
    ((Eff.keepRegs p).apply s).tree = s.tree ∧
    ((Eff.keepRegs p).apply s).conv = s.conv ∧
    ((Eff.keepRegs p).apply s).devs = s.devs ∧
    ((Eff.keepRegs p).apply s).fns = s.fns ∧
    ((Eff.keepRegs p).apply s).cpw = s.cpw ∧
    ((Eff.keepRegs p).apply s).lanes = s.lanes ∧
    ((Eff.keepRegs p).apply s).helms = s.helms ∧
    ((Eff.keepRegs p).apply s).task = s.task ∧
    ((Eff.keepRegs p).apply s).halt = s.halt ∧
    ((Eff.keepRegs p).apply s).dma = s.dma ∧
    ((Eff.keepRegs p).apply s).pwr = s.pwr ∧
    ((Eff.keepRegs p).apply s).pair = s.pair ∧
    ((Eff.keepRegs p).apply s).boot = s.boot ∧
    ((Eff.keepRegs p).apply s).sec = s.sec ∧
    ((Eff.keepRegs p).apply s).alm = s.alm ∧
    ((Eff.keepRegs p).apply s).flash = s.flash ∧
    ((Eff.keepRegs p).apply s).otp = s.otp :=
  ⟨rfl, rfl, rfl, rfl, rfl, rfl, rfl, rfl, rfl, rfl, rfl, rfl, rfl, rfl, rfl, rfl, rfl, rfl, rfl, rfl, rfl, rfl, rfl, rfl, rfl, rfl, rfl, rfl, rfl⟩

@[simp] theorem apply_keepTcm (s : State) (p : Nat → Bool) :
    ((Eff.keepTcm p).apply s).pending = s.pending ∧
    ((Eff.keepTcm p).apply s).regs = s.regs ∧
    ((Eff.keepTcm p).apply s).host = s.host ∧
    ((Eff.keepTcm p).apply s).tcm = s.tcm.filter (fun e => p e.1) ∧
    ((Eff.keepTcm p).apply s).free = s.free ∧
    ((Eff.keepTcm p).apply s).out = s.out ∧
    ((Eff.keepTcm p).apply s).q = s.q ∧
    ((Eff.keepTcm p).apply s).ins = s.ins ∧
    ((Eff.keepTcm p).apply s).icu = s.icu ∧
    ((Eff.keepTcm p).apply s).chr = s.chr ∧
    ((Eff.keepTcm p).apply s).fixes = s.fixes ∧
    ((Eff.keepTcm p).apply s).chart = s.chart ∧
    ((Eff.keepTcm p).apply s).tree = s.tree ∧
    ((Eff.keepTcm p).apply s).conv = s.conv ∧
    ((Eff.keepTcm p).apply s).devs = s.devs ∧
    ((Eff.keepTcm p).apply s).fns = s.fns ∧
    ((Eff.keepTcm p).apply s).cpw = s.cpw ∧
    ((Eff.keepTcm p).apply s).lanes = s.lanes ∧
    ((Eff.keepTcm p).apply s).helms = s.helms ∧
    ((Eff.keepTcm p).apply s).task = s.task ∧
    ((Eff.keepTcm p).apply s).halt = s.halt ∧
    ((Eff.keepTcm p).apply s).dma = s.dma ∧
    ((Eff.keepTcm p).apply s).pwr = s.pwr ∧
    ((Eff.keepTcm p).apply s).pair = s.pair ∧
    ((Eff.keepTcm p).apply s).boot = s.boot ∧
    ((Eff.keepTcm p).apply s).sec = s.sec ∧
    ((Eff.keepTcm p).apply s).alm = s.alm ∧
    ((Eff.keepTcm p).apply s).flash = s.flash ∧
    ((Eff.keepTcm p).apply s).otp = s.otp :=
  ⟨rfl, rfl, rfl, rfl, rfl, rfl, rfl, rfl, rfl, rfl, rfl, rfl, rfl, rfl, rfl, rfl, rfl, rfl, rfl, rfl, rfl, rfl, rfl, rfl, rfl, rfl, rfl, rfl, rfl⟩

end Sys2Proof.Machine
end

