-- ==== Sys2Proof/Laws/Run.lean ====
section
/-! SUPPORT. Running a program: one rule per way of building one, and what a register field reads after a write. -/

namespace Sys2Proof.Machine

@[simp] theorem run_skip (s : State) : Prog.skip.run s = s := rfl
@[simp] theorem run_eff (e : Eff) (s : State) : (Prog.eff e).run s = e.apply s := rfl
@[simp] theorem run_seq (p q : Prog) (s : State) : (Prog.seq p q).run s = q.run (p.run s) := rfl
@[simp] theorem run_read (k : State → Prog) (s : State) : (Prog.read k).run s = (k s).run s := rfl
@[simp] theorem run_nil (s : State) : (seqs []).run s = s := rfl
@[simp] theorem run_cons (p : Prog) (l : List Prog) (s : State) : (seqs (p :: l)).run s = (seqs l).run (p.run s) := rfl
@[simp] theorem run_whenP (c : Bool) (p : Prog) (s : State) : (whenP c p).run s = if c then p.run s else s := by
  unfold whenP; split <;> rfl
@[simp] theorem run_forP_nil {α : Type} (f : α → Prog) (s : State) : (forP [] f).run s = s := rfl
@[simp] theorem run_forP_cons {α : Type} (x : α) (l : List α) (f : α → Prog) (s : State) :
    (forP (x :: l) f).run s = (forP l f).run ((f x).run s) := rfl
@[simp] theorem run_putN (f : Field) (n v : Nat) (s : State) : (putN f n v).run s = (Eff.fld f n v).apply s := rfl
@[simp] theorem run_put (f : Field) (v : Nat) (s : State) : (put f v).run s = (Eff.fld f 0 v).apply s := rfl
@[simp] theorem run_raise (f : Field) (n : Nat) (s : State) : (raise f n).run s = (Eff.fld f n 1).apply s := rfl
@[simp] theorem run_clear (f : Field) (n : Nat) (s : State) : (clear f n).run s = (Eff.fld f n 0).apply s := rfl
@[simp] theorem run_countUp (f : Field) (n k : Nat) (s : State) :
    (countUp f n k).run s = (Eff.fld f n (min (s.fld f n + k) (2 ^ f.w - 1))).apply s := rfl
@[simp] theorem run_countDown (f : Field) (n k : Nat) (s : State) :
    (countDown f n k).run s = (Eff.fld f n (s.fld f n - k)).apply s := rfl
@[simp] theorem run_emit (o : Output) (s : State) : (emit o).run s = (Eff.out o).apply s := rfl
theorem run_ite {c : Prop} [Decidable c] (p q : Prog) (s : State) : (if c then p else q).run s = if c then p.run s else q.run s := by
  split <;> rfl
theorem finish_eq (p : Prog) (s : State) : finish p s = .next (p.run { s with out := [] }) := rfl

/-- A program on a list followed by one on another is the program on both. -/
theorem run_forP_append {α : Type} (l r : List α) (f : α → Prog) (s : State) :
    (forP (l ++ r) f).run s = (forP r f).run ((forP l f).run s) := by
  induction l generalizing s with
  | nil => rfl
  | cons x t ih => exact ih _

/-- What every program of a list keeps, the program for the list keeps. -/
theorem run_forP_keeps {α : Type} (P : State → State → Prop) (hr : ∀ s, P s s) (ht : ∀ a b c, P a b → P b c → P a c) (l : List α)
    (f : α → Prog) (h : ∀ x ∈ l, ∀ s, P s ((f x).run s)) (s : State) : P s ((forP l f).run s) := by
  induction l generalizing s with
  | nil => exact hr s
  | cons x t ih =>
    exact ht _ _ _ (h x (by simp) s) (ih (fun y hy => h y (by simp [hy])) _)

/-! ### Register fields -/

/-- Fields of different rows are held at different keys. -/
theorem key_ne {f g : Field} (h : f.row ≠ g.row) (n k : Nat) : f.key n ≠ g.key k := by
  simp only [Field.key, keySpan]
  omega

/-- Elements of a field within the span are held at different keys. -/
theorem key_ne_of_ne (f : Field) {n k : Nat} (hn : n < keySpan) (hk : k < keySpan) (h : n ≠ k) : f.key n ≠ f.key k := by
  simp only [Field.key, keySpan] at *
  omega

/-- A field reads what was written to it, cut to its width. -/
@[simp] theorem fld_fld_same (f : Field) (n v : Nat) (s : State) : ((Eff.fld f n v).apply s).fld f n = v % 2 ^ f.w := by
  simp only [State.fld, apply_fld, Sparse.get_set_same]

/-- Writing a field leaves the fields of other rows. -/
theorem fld_fld_ne {f g : Field} (h : g.row ≠ f.row) (n k v : Nat) (s : State) :
    ((Eff.fld f n v).apply s).fld g k = s.fld g k := by
  simp only [State.fld, apply_fld]
  exact Sparse.get_set_ne _ _ _ (key_ne h k n)

/-- Writing an element of a field leaves the others. -/
theorem fld_fld_elem (f : Field) {n k : Nat} (hn : n < keySpan) (hk : k < keySpan) (h : k ≠ n) (v : Nat) (s : State) :
    ((Eff.fld f n v).apply s).fld f k = s.fld f k := by
  simp only [State.fld, apply_fld]
  exact Sparse.get_set_ne _ _ _ (key_ne_of_ne f hk hn h)

/-- A field depends on the registers alone. -/
theorem fld_congr {s t : State} (h : s.regs = t.regs) (f : Field) (n : Nat) : s.fld f n = t.fld f n := by
  simp only [State.fld, h]

@[simp] theorem fld_out (s : State) (o : List Output) (f : Field) (n : Nat) : ({ s with out := o } : State).fld f n = s.fld f n := rfl
@[simp] theorem bit_out (s : State) (o : List Output) (f : Field) (n : Nat) : ({ s with out := o } : State).bit f n = s.bit f n := rfl
@[simp] theorem fld_pending (s : State) (l : List Instr) (f : Field) (n : Nat) :
    ({ s with pending := l } : State).fld f n = s.fld f n := rfl

end Sys2Proof.Machine
end

