-- ==== Sys2Proof/Laws/Frames.lean ====
section
/-! SUPPORT. A program within a set of parts leaves the others as they were; every program keeps the canonical form, the bits of the OTP array
and the queue. -/

namespace Sys2Proof.Machine

/-- The number of a part in the sets of Laws/Within.lean. -/
def Part.num (p : Part) : Nat :=
  match p with
  | .chrRegs => 0 | .lnkRegs => 1 | .treRegs => 2 | .chtRegs => 3 | .hlmRegs => 4 | .tskRegs => 5
  | .dmaRegs => 6 | .qmRegs => 7 | .insRegs => 8 | .icuRegs => 9 | .hicRegs => 10 | .cpwRegs => 11
  | .pwrRegs => 12 | .pairRegs => 13 | .nvmRegs => 14 | .secRegs => 15 | .almRegs => 16 | .idRegs => 17
  | .gblRegs => 18 | .allRegs => 19 | .hostMemory => 20 | .helmMemory => 21 | .outputs => 22 | .freeCount => 23
  | .queues => 24 | .instances => 25 | .interrupts => 26 | .chronometer => 27 | .fixes => 28 | .chart => 29
  | .tree => 30 | .conversations => 31 | .devices => 32 | .functions => 33 | .cablePower => 34 | .lanes => 35
  | .helms => 36 | .tasks => 37 | .haltLine => 38 | .dma => 39 | .power => 40 | .pair => 41
  | .boot => 42 | .security => 43 | .almanac => 44 | .flash => 45 | .otp => 46

/-- A footprint as a set of Laws/Within.lean. -/
def mask (l : List Part) : Nat := l.foldr (fun p m => m ||| 2 ^ p.num) 0

theorem rowPart_num_small : ∀ r < 687, (rowPart r).num = blockOf r := by decide +kernel

theorem rowPart_num (r : Nat) : (rowPart r).num = blockOf r := by
  by_cases h : r < 687
  · exact rowPart_num_small r h
  · have h1 : rowPart r = .gblRegs := by
      unfold rowPart
      simp only [show ¬ r ≤ 43 by omega, show ¬ r ≤ 89 by omega, show ¬ r ≤ 121 by omega, show ¬ r ≤ 159 by omega, show ¬ r ≤ 181 by omega,
        show ¬ r ≤ 210 by omega, show ¬ r ≤ 278 by omega, show ¬ r ≤ 333 by omega, show ¬ r ≤ 377 by omega, show ¬ r ≤ 402 by omega,
        show ¬ r ≤ 429 by omega, show ¬ r ≤ 466 by omega, show ¬ r ≤ 523 by omega, show ¬ r ≤ 553 by omega, show ¬ r ≤ 593 by omega,
        show ¬ r ≤ 633 by omega, show ¬ r ≤ 671 by omega, show ¬ r ≤ 686 by omega, if_false]
    have h2 : blockOf r = 18 := by
      unfold blockOf
      simp only [show ¬ r < 279 by omega, show ¬ r < 467 by omega, show ¬ r < 634 by omega, show ¬ r < 687 by omega, if_false]
    rw [h1, h2]; rfl

theorem sameRegs_of_eq {b : Part} {s t : State} (h : s.regs = t.regs) : sameRegs b s t := fun k _ => by rw [h]

theorem Part.same_refl (p : Part) (s : State) : p.same s s := by
  cases p <;> first | trivial | rfl | exact fun _ _ => rfl

theorem Part.same_trans (p : Part) {a b c : State} (h : p.same a b) (g : p.same b c) : p.same a c := by
  cases p <;> first | trivial | exact Eq.trans h g | exact fun k hk => (h k hk).trans (g k hk)

/-- A field written in another block leaves a block's registers. -/
theorem sameRegs_fld {b : Part} {f : Field} (h : b.num ≠ blockOf f.row) (n v : Nat) (s : State) :
    sameRegs b s ((Eff.fld f n v).apply s) := by
  intro k hk
  simp only [apply_fld]
  refine (Sparse.get_set_ne _ _ _ fun e => h ?_).symm
  rw [← hk, rowPart_num, e]
  congr 1
  simp only [Field.key, keySpan]; omega

/-- An effect on another part leaves a part as it was. -/
theorem apply_same (p : Part) (e : Eff) (s : State) (h : p.num ≠ e.part) (h19 : e.part ≠ 19) : p.same s (e.apply s) := by
  cases e with
  | fld f n v => cases p <;> first | trivial | rfl | exact sameRegs_fld h n v s
  | keepRegs q => exact absurd rfl h19
  | _ => cases p <;> first | trivial | rfl | exact absurd rfl h | exact sameRegs_of_eq (by simp)

/-- A program within a set leaves every part outside it as it was. -/
theorem run_same {m : Nat} (h19 : m.testBit 19 = false) (p : Part) (hp : m.testBit p.num = false) (q : Prog) (hq : q.Within m) (s : State) :
    p.same s (q.run s) := by
  induction q generalizing s with
  | skip => exact p.same_refl s
  | eff e =>
    have hb : m.testBit e.part = true := hq
    refine apply_same p e s (fun h => ?_) (fun h => ?_)
    · rw [← h, hp] at hb; exact absurd hb (by decide)
    · rw [h, h19] at hb; exact absurd hb (by decide)
  | seq a b ha hb => exact p.same_trans (ha hq.1 s) (hb hq.2 _)
  | read k ih => exact ih s (hq s) s

/-- As `run_same`, for a unit, which the registers' effects do not touch. -/
theorem run_same_unit {m : Nat} (p : Part) (hu : 20 ≤ p.num) (hp : m.testBit p.num = false) (q : Prog) (hq : q.Within m) (s : State) :
    p.same s (q.run s) := by
  induction q generalizing s with
  | skip => exact p.same_refl s
  | eff e =>
    by_cases h : e.part = 19
    · cases e <;> simp only [Eff.part] at h <;> first | (rename_i f _ _; have := blockOf_lt f.row; omega) | skip
      all_goals first | contradiction | (cases p <;> first | rfl | trivial)
    · have hb : m.testBit e.part = true := hq
      refine apply_same p e s (fun h => ?_) h
      rw [← h, hp] at hb; exact absurd hb (by decide)
  | seq a b ha hb => exact p.same_trans (ha hq.1 s) (hb hq.2 _)
  | read k ih => exact ih s (hq s) s

/-- No effect reaches the queue. -/
theorem run_pending (q : Prog) (s : State) : (q.run s).pending = s.pending := by
  induction q generalizing s with
  | skip => rfl
  | eff e => cases e <;> rfl
  | seq a b ha hb => exact (hb _).trans (ha s)
  | read k ih => exact ih s s

/-- Every effect keeps the canonical form. -/
theorem canonical_apply (e : Eff) (s : State) (h : Canonical s) : Canonical (e.apply s) := by
  obtain ⟨h1, h2, h3, h4, h5, h6, h7, h8, h9, h10⟩ := h
  cases e <;> refine ⟨?_, ?_, ?_, ?_, ?_, ?_, ?_, ?_, ?_, ?_⟩ <;>
    first | assumption | exact Sparse.canonical_set _ _ ‹_› | exact canonical_writeBytes _ _ _ ‹_› | exact canonical_otpProgram _ _ _ ‹_› |
      exact Sparse.canonical_filter _ ‹_›

/-- Every effect keeps the bits of the OTP array that are 1. -/
theorem otp_apply (e : Eff) (s : State) : OtpKept s (e.apply s) := by
  intro a
  cases e with
  | otp b bs => exact otpProgram_keeps _ _ _ _
  | _ => exact BitVec.and_self

end Sys2Proof.Machine
end

