-- ==== Sys2Proof/Laws/Completion.lean ====
section
/-! SUPPORT. What the statements are proved with: what a program within a set of parts leaves of fields, bits and units, what moving the
chronometer does, what a write of one bit does, and that completing a command frees its tag. -/

namespace Sys2Proof.Machine

/-! ### Fields and units kept by a program -/

theorem sameRegs_of_same {p : Part} (h : p.num < 19) {s t : State} (e : p.same s t) : sameRegs p s t := by
  cases p <;> first | exact e | exact absurd h (by decide)

/-- A field of a block outside a program's parts reads as before. -/
theorem run_fld {m : Nat} {q : Prog} (hq : q.Within m) (h19 : m.testBit 19 = false) (f : Field) (n : Nat)
    (hf : m.testBit (blockOf f.row) = false) (s : State) : (q.run s).fld f n = s.fld f n := by
  have hk : f.key n / keySpan = f.row := by simp only [Field.key, keySpan]; omega
  have h := run_same h19 (rowPart f.row) (by rw [rowPart_num]; exact hf) q hq s
  exact (sameRegs_of_same (by rw [rowPart_num]; exact blockOf_lt _) h (f.key n) (by rw [hk])).symm

/-- The queue manager's unit is kept by a program that does not reach it. -/
theorem run_q {m : Nat} {p : Prog} (hp : p.Within m) (h : m.testBit 24 = false) (s : State) : (p.run s).q = s.q :=
  (run_same_unit .queues (by decide) h p hp s).symm

/-! ### The chronometer -/

/-- The chronometer comes to an instant it can reach. -/
theorem advanceTo_run {s : State} {ns : Nat} (h : s.reaches ns = true) : (advanceTo ns).run s = s.movedTo ns := by
  unfold advanceTo State.movedTo
  simp only [run_read, run_whenP]
  by_cases hlt : s.chr.ns < ns
  · have hn : decide (ns ≤ s.chr.ns) = false := decide_eq_false (by omega)
    unfold State.reaches at h
    rw [hn, Bool.false_or] at h
    rw [decide_eq_true hlt, Bool.true_and, h]
    simp only [if_true, hlt]
    rfl
  · rw [decide_eq_false hlt, Bool.false_and, if_neg hlt]
    rfl

theorem movedTo_ns {s : State} {ns : Nat} : ns ≤ (s.movedTo ns).chr.ns := by
  unfold State.movedTo; split
  · exact Nat.le_refl _
  · omega

/-- What happens at an instant that can be reached happens in the state moved there. -/
theorem atNs_run {s : State} {ns : Nat} (p : Prog) (h : s.reaches ns = true) : (atNs ns p).run s = p.run (s.movedTo ns) := by
  simp only [atNs, run_cons, run_nil, run_read, run_whenP, advanceTo_run h, decide_eq_true_eq, movedTo_ns, if_true]

@[simp] theorem movedTo_fld (s : State) (ns : Nat) (f : Field) (n : Nat) : (s.movedTo ns).fld f n = s.fld f n := by
  unfold State.movedTo; split <;> rfl

@[simp] theorem movedTo_q (s : State) (ns : Nat) : (s.movedTo ns).q = s.q := by
  unfold State.movedTo; split <;> rfl

/-! ### Bits -/

theorem bitAt_eq (v i : Nat) : bitAt v i = v.testBit i := by
  rw [Nat.testBit_eq_decide_div_mod_eq]
  rfl

/-- Taking a bit that is 1 out of a number leaves it 0. -/
theorem testBit_sub {w i : Nat} (h : bitAt w i = true) : (w - 2 ^ i).testBit i = false := by
  have hd : (w - 2 ^ i) / 2 ^ i = w / 2 ^ i - 1 := by
    have := Nat.sub_mul_div w (2 ^ i) 1
    simpa using this
  rw [Nat.testBit_eq_decide_div_mod_eq, hd]
  simp only [bitAt, beq_iff_eq] at h
  simp only [decide_eq_false_iff_not]
  omega

/-- A bit reads what was written to it. -/
theorem putBit_same (f : Field) (hf : f.w = 32) (b : Nat) (v : Bool) (s : State) : ((putBit f b v).run s).bitOf f b = v := by
  have hb : b % 32 < 32 := Nat.mod_lt _ (by decide)
  simp only [putBit, run_read, run_putN, State.bitOf, fld_fld_same, hf, bitAt_eq, Nat.testBit_mod_two_pow, hb, decide_true, Bool.true_and]
  cases v with
  | true => simp [Nat.testBit_or, Nat.testBit_two_pow_self]
  | false =>
    simp only [Bool.false_eq_true, if_false]
    split
    · rename_i h
      exact testBit_sub (by rw [bitAt_eq]; exact h)
    · rename_i h; simpa using h

/-! ### Completing a command -/

/-- A tag that is free stays free while a program does not reach the queue manager's unit. -/
theorem cmd_run {m : Nat} {p : Prog} (hp : p.Within m) (h : m.testBit 24 = false) (s : State) (tag : Nat) : (p.run s).cmd tag = s.cmd tag := by
  simp only [State.cmd, run_q hp h]

theorem lookup_map_keep {α : Type} (l : List (Nat × α)) (f : Nat × α → Nat × α) (hf : ∀ e, (f e).1 = e.1) (k : Nat) (h : l.lookup k = none) :
    (l.map f).lookup k = none := by
  rw [List.lookup_eq_none_iff] at h ⊢
  intro e he
  obtain ⟨x, hx, rfl⟩ := List.mem_map.mp he
  rw [hf]
  exact h x hx

theorem lookup_filter_keep {α : Type} (l : List (Nat × α)) (q : Nat × α → Bool) (k : Nat) (h : l.lookup k = none) :
    (l.filter q).lookup k = none := by
  rw [List.lookup_eq_none_iff] at h ⊢
  exact fun e he => h e (List.mem_filter.mp he).1

theorem lookup_filter_out {α : Type} (l : List (Nat × α)) (k : Nat) : (l.filter fun e => e.1 != k).lookup k = none := by
  rw [List.lookup_eq_none_iff]
  intro e he
  have := (List.mem_filter.mp he).2
  simp only [bne_iff_ne, ne_eq] at this ⊢
  exact fun h => this h.symm

/-- What frees no tag anew keeps a free tag free: `p` leaves the tag free in every state where it is free. -/
def Frees (tag : Nat) (p : Prog) : Prop := ∀ s : State, s.cmd tag = none → (p.run s).cmd tag = none

theorem frees_within {m : Nat} {p : Prog} (hp : p.Within m) (h : m.testBit 24 = false) (tag : Nat) : Frees tag p := fun s hs => by
  rw [cmd_run hp h]; exact hs
theorem frees_skip (tag : Nat) : Frees tag .skip := fun _ h => h
theorem frees_seq {tag : Nat} {p q : Prog} (hp : Frees tag p) (hq : Frees tag q) : Frees tag (.seq p q) := fun s h => hq _ (hp s h)
theorem frees_nil (tag : Nat) : Frees tag (seqs []) := fun _ h => h
theorem frees_cons {tag : Nat} {p : Prog} {l : List Prog} (hp : Frees tag p) (hl : Frees tag (seqs l)) : Frees tag (seqs (p :: l)) :=
  fun s h => hl _ (hp s h)
theorem frees_read {tag : Nat} {k : State → Prog} (h : ∀ s, Frees tag (k s)) : Frees tag (.read k) := fun s hs => h s s hs
theorem frees_whenP {tag : Nat} {c : Bool} {p : Prog} (h : Frees tag p) : Frees tag (whenP c p) := by
  unfold whenP; split
  · exact h
  · exact frees_skip tag
theorem frees_ite {tag : Nat} {c : Prop} [Decidable c] {p q : Prog} (hp : Frees tag p) (hq : Frees tag q) : Frees tag (if c then p else q) := by
  split
  · exact hp
  · exact hq
theorem frees_forP {tag : Nat} {α : Type} {l : List α} {f : α → Prog} (h : ∀ x, Frees tag (f x)) : Frees tag (forP l f) := by
  unfold forP
  induction l with
  | nil => exact frees_nil tag
  | cons x t ih => exact frees_cons (h x) ih

theorem frees_modQ (tag : Nat) {f : QueueUnit → QueueUnit} (h : ∀ u, (f u).cmds = u.cmds) : Frees tag (modQ f) := fun s hs => by
  have : ((modQ f).run s).cmd tag = s.cmd tag := by
    show (f s.q).cmds.lookup tag = s.q.cmds.lookup tag
    rw [h]
  rw [this]; exact hs

theorem frees_modCmd (tag t : Nat) (f : Cmd → Cmd) : Frees tag (modCmd t f) := fun s h =>
  lookup_map_keep s.q.cmds _ (fun e => by split <;> rfl) tag h

theorem frees_freeTag (tag t : Nat) : Frees tag (freeTag t) := by
  refine frees_read fun s => ?_
  cases s.cmd t with
  | none => exact frees_skip tag
  | some c =>
    refine frees_cons (fun s h => lookup_filter_keep _ _ _ h) ?_
    refine frees_within (m := 2 ^ 7) ?_ (by decide) tag
    exact within_cons (within_countDown (by decide)) (within_cons (within_countDown (by decide)) (within_cons (within_countDown (by decide))
      (within_cons (within_read fun _ => within_cons (within_putN (by decide)) (within_cons (within_putN (by decide)) within_nil)) within_nil)))

theorem frees_refreshCq (tag c : Nat) : Frees tag (refreshCq c) := frees_within (refreshCq_within (pm := 0x80) (by decide) c) (by decide) tag

theorem frees_holdEntry (tag c : Nat) (e : CqEntry) : Frees tag (holdEntry c e) :=
  frees_cons (frees_modQ tag fun _ => rfl) (frees_cons (frees_refreshCq tag c) (frees_nil tag))

theorem frees_postEntry (tag c : Nat) (e : CqEntry) : Frees tag (postEntry c e) := by
  refine frees_read fun s => ?_
  dsimp only
  split
  · exact frees_cons (frees_within (cqError_within (pm := 0x6540580) (by decide) _ _ _) (by decide) tag)
      (frees_cons (frees_holdEntry tag c e) (frees_nil tag))
  · refine frees_cons (frees_within (insWrite_within (pm := 0x6540580) (by decide) _ _ _ _ _) (by decide) tag) ?_
    refine frees_cons (frees_within (m := 0x80) (within_putN (by decide)) (by decide) tag) ?_
    refine frees_cons (frees_refreshCq tag c) (frees_cons (frees_whenP ?_) (frees_nil tag))
    exact frees_within (hostCause_within (pm := 0x6540580) (by decide) _ _) (by decide) tag

theorem frees_deliver (tag t : Nat) (e : CqEntry) : Frees tag (deliver t e) := by
  refine frees_read fun s => ?_
  cases s.cmd t with
  | none => exact frees_skip tag
  | some c =>
    dsimp only
    cases s.cqOf c.ins (s.fld Fld.QM_SQ_CFG.CQ c.sq) with
    | none => exact frees_freeTag tag t
    | some q =>
      dsimp only
      refine frees_ite ?_ (frees_ite ?_ (frees_ite ?_ ?_))
      · exact frees_cons (frees_within (m := 0x80) (within_countUp (by decide)) (by decide) tag) (frees_cons (frees_freeTag tag t) (frees_nil tag))
      · exact frees_cons (frees_postEntry tag q e) (frees_cons (frees_freeTag tag t) (frees_cons (frees_refreshCq tag q) (frees_nil tag)))
      · exact frees_cons (frees_holdEntry tag q e) (frees_cons (frees_freeTag tag t) (frees_cons (frees_refreshCq tag q) (frees_nil tag)))
      · exact frees_cons (frees_modCmd tag t _) (frees_cons (frees_refreshCq tag q) (frees_nil tag))

theorem frees_completeOne (tag t status result aux : Nat) : Frees tag (completeOne t status result aux) := by
  refine frees_read fun s => ?_
  cases s.cmd t with
  | none => exact frees_skip tag
  | some c => exact frees_ite (frees_freeTag tag t) (frees_deliver tag t _)

theorem frees_wakeIdle (tag : Nat) : Frees tag wakeIdle :=
  frees_read fun _ => frees_forP fun _ => frees_read fun _ => frees_whenP (frees_completeOne tag _ _ _ _)

theorem frees_complete (tag t status result aux : Nat) : Frees tag (complete t status result aux) :=
  frees_seq (frees_completeOne tag t status result aux) (frees_wakeIdle tag)

/-- Freeing a command's tag frees it. -/
theorem freeTag_frees (tag : Nat) (s : State) : ((freeTag tag).run s).cmd tag = none := by
  unfold freeTag
  simp only [run_read]
  cases h : s.cmd tag with
  | none => exact h
  | some c =>
    dsimp only
    rw [run_cons]
    refine frees_within (m := 2 ^ 7) ?_ (by decide) tag _ ?_
    · exact within_cons (within_countDown (by decide)) (within_cons (within_countDown (by decide)) (within_cons (within_countDown (by decide))
        (within_cons (within_read fun _ => within_cons (within_putN (by decide)) (within_cons (within_putN (by decide)) within_nil)) within_nil)))
    · exact lookup_filter_out s.q.cmds tag

/-- A completion that can leave frees the tag: the command is gone from the queue manager (R298, R301). -/
theorem complete_frees (tag status result aux : Nat) (s : State) (c : Cmd) (hc : s.cmd tag = some c) (ht : s.takesCompletion c = true) :
    ((complete tag status result aux).run s).cmd tag = none := by
  refine frees_wakeIdle tag _ ?_
  unfold completeOne
  simp only [run_read, hc]
  by_cases hf : c.forced = true
  · rw [if_pos hf]; exact freeTag_frees tag s
  · rw [if_neg hf]
    unfold State.takesCompletion at ht
    unfold deliver
    simp only [run_read, hc]
    cases hq : s.cqOf c.ins (s.fld Fld.QM_SQ_CFG.CQ c.sq) with
    | none => exact freeTag_frees tag s
    | some q =>
      simp only [hq, hf, Bool.false_or, Bool.or_eq_true, or_assoc] at ht
      dsimp only
      split
      · exact freeTag_frees tag _
      · split
        · exact frees_refreshCq tag q _ (freeTag_frees tag _)
        · split
          · exact frees_refreshCq tag q _ (freeTag_frees tag _)
          · rename_i h1 h2 h3
            rcases ht with h | h | h
            · exact absurd h h1
            · exact absurd h h2
            · exact absurd h h3

/-! ### What a completion reports -/

theorem host_fld (f : Field) (n v : Nat) (s : State) : ((Eff.fld f n v).apply s).host = s.host := rfl

/-- Host memory is kept by a program that does not reach it. -/
theorem run_host {m : Nat} {p : Prog} (hp : p.Within m) (h : m.testBit 20 = false) (s : State) : (p.run s).host = s.host :=
  (run_same_unit .hostMemory (by decide) h p hp s).symm

/-- Reading the bytes just written. -/
theorem readBytes_writeBytes {d : Nat → Byte} (m : List Host.Cell) (a : Nat) (bs : List Byte) :
    readBytes d (writeBytes d m a bs) a bs.length = bs := by
  apply List.ext_getElem
  · simp [readBytes]
  · intro i h1 h2
    simp only [readBytes, List.getElem_map, List.getElem_range]
    exact get_writeBytes_inside m a bs i h2

theorem CqEntry.bytes_length (e : CqEntry) (p : Bool) : (e.bytes p).length = 16 := by
  simp [CqEntry.bytes, toBytes]

theorem logPage_off {i path page : Nat} {pasid : Bool} {s : State} (h : s.bit Fld.INS_LOG_CFG.RUNNING i = false) :
    (logPage i path pasid page).run s = s := by
  simp only [logPage, run_read, h]
  rfl

theorem logPages_off {i path : Nat} {pasid : Bool} (l : List Nat) {s : State} (h : s.bit Fld.INS_LOG_CFG.RUNNING i = false) :
    (forP l (logPage i path pasid)).run s = s := by
  induction l with
  | nil => rfl
  | cons x t ih => rw [run_forP_cons, logPage_off h]; exact ih

/-- A posted write stores its bytes. -/
theorem hostWriteAs_host {fn addr : Nat} {pasid : Option Nat} {bs : List Byte} {s : State} :
    ((hostWriteAs fn pasid addr bs).run s).host = writeBytes memDefault s.host addr bs := by
  have hu : ((usePasid pasid.isSome).run s).host = s.host := run_host (usePasid_within (pm := 0x40000) (by decide) _) (by decide) s
  simp only [hostWriteAs, run_cons, run_nil, run_read]
  show writeBytes memDefault ((forP _ _).run _).host addr bs = _
  rw [run_host (m := 0x400000) (within_forP fun e => within_emit (by decide)) (by decide), hu]

/-- A write for an instance whose pages are not logged stores its bytes. -/
theorem insWrite_host {i path addr : Nat} {pasid : Option Nat} {bs : List Byte} {s : State} (h : s.bit Fld.INS_LOG_CFG.RUNNING i = false) :
    ((insWrite i path pasid addr bs).run s).host = writeBytes memDefault s.host addr bs := by
  simp only [insWrite, run_cons, run_nil, run_read, h, Bool.false_and, Bool.false_eq_true, if_false]
  rw [logPages_off _ h]
  exact hostWriteAs_host

/-- What an entry posted to an open ring leaves in host memory. -/
theorem postEntry_host {q : Nat} {e : CqEntry} {s : State} (hi : s.canIssue (s.insFn (s.fld Fld.QM_CQ_CFG.OWNER q)) = true)
    (hl : s.bit Fld.INS_LOG_CFG.RUNNING (s.fld Fld.QM_CQ_CFG.OWNER q) = false) :
    ((postEntry q e).run s).host = writeBytes memDefault s.host (s.cqBase q + 16 * (s.fld Fld.QM_CQ_INDICES.TAIL q % s.cqSize q))
      (e.bytes (s.fld Fld.QM_CQ_INDICES.TAIL q / s.cqSize q % 2 == 0)) := by
  unfold postEntry
  simp only [run_read, hi, Bool.not_true, Bool.false_eq_true, if_false]
  rw [run_cons, run_cons, run_cons]
  rw [run_host (m := 0x4400400) _ (by decide), run_host (refreshCq_within (pm := 0x80) (by decide) _) (by decide),
    run_host (m := 0x80) (within_putN (by decide)) (by decide), insWrite_host hl]
  exact within_cons (within_whenP (hostCause_within (by decide) _ _)) within_nil

/-- An entry posted to an open ring leaves the queue manager's unit. -/
theorem postEntry_q {q : Nat} {e : CqEntry} {s : State} (hi : s.canIssue (s.insFn (s.fld Fld.QM_CQ_CFG.OWNER q)) = true) :
    ((postEntry q e).run s).q = s.q := by
  unfold postEntry
  simp only [run_read, hi, Bool.not_true, Bool.false_eq_true, if_false]
  refine run_q (m := 0x6540580) ?_ (by decide) s
  exact within_cons (insWrite_within (by decide) _ _ _ _ _) (within_cons (within_putN (by decide))
    (within_cons (refreshCq_within (by decide) _) (within_cons (within_whenP (hostCause_within (by decide) _ _)) within_nil)))

/-- Whether a WAIT_IDLE waits. -/
def State.idleWaits (s : State) : Bool := s.q.cmds.any fun e => e.2.opcode == 0x05 && e.2.stage == .running

theorem wakeIdle_none {s : State} (h : s.idleWaits = false) : wakeIdle.run s = s := by
  have : (s.q.cmds.filter fun e => e.2.opcode == 0x05 && e.2.stage == .running) = [] := by
    rw [List.filter_eq_nil_iff]
    intro e he
    have := List.any_eq_false.mp h e he
    simpa using this
  simp only [wakeIdle, run_read, this]
  rfl

theorem freeTag_idleWaits {s : State} (tag : Nat) (h : s.idleWaits = false) : ((freeTag tag).run s).idleWaits = false := by
  unfold freeTag
  simp only [run_read]
  cases hc : s.cmd tag with
  | none => exact h
  | some c =>
    dsimp only
    rw [run_cons]
    unfold State.idleWaits
    rw [run_q (m := 2 ^ 7) _ (by decide)]
    · unfold State.idleWaits at h
      rw [List.any_eq_false] at h ⊢
      exact fun e he => h e (List.mem_filter.mp he).1
    · exact within_cons (within_countDown (by decide)) (within_cons (within_countDown (by decide)) (within_cons (within_countDown (by decide))
        (within_cons (within_read fun _ => within_cons (within_putN (by decide)) (within_cons (within_putN (by decide)) within_nil)) within_nil)))

/-- Completing a command reports it. -/
theorem complete_reports (tag status result aux : Nat) (s : State) (c : Cmd) (hc : s.cmd tag = some c) :
    s.reports ((complete tag status result aux).run s) c status result aux = true := by
  unfold State.reports
  cases hq : s.cqOf c.ins (s.fld Fld.QM_SQ_CFG.CQ c.sq) with
  | none => rfl
  | some q =>
    dsimp only
    by_cases hs : s.straight c q = true
    · rw [hs, Bool.not_true, Bool.false_or, decide_eq_true_eq]
      unfold State.straight at hs
      simp only [Bool.and_eq_true, Bool.not_eq_true'] at hs
      obtain ⟨⟨⟨⟨⟨hf, hd⟩, ho⟩, hi⟩, hl⟩, hw⟩ := hs
      have hq' : ∀ e : CqEntry, (deliver tag e).run s = (seqs [postEntry q e, freeTag tag, refreshCq q]).run s := fun e => by
        simp only [deliver, run_read, hc, hq, hd, ho, Bool.false_eq_true, if_false, if_true]
      have hrun : ∀ e : CqEntry, ((seqs [postEntry q e, freeTag tag, refreshCq q]).run s).host = ((postEntry q e).run s).host := fun e => by
        rw [run_cons, run_cons, run_cons, run_nil, run_host (refreshCq_within (pm := 0x80) (by decide) _) (by decide),
          run_host (freeTag_within (pm := 0x1000080) (by decide) _) (by decide)]
      have hidle : ∀ e : CqEntry, State.idleWaits ((seqs [postEntry q e, freeTag tag, refreshCq q]).run s) = false := fun e => by
        rw [run_cons, run_cons, run_cons, run_nil]
        unfold State.idleWaits
        rw [run_q (refreshCq_within (pm := 0x80) (by decide) _) (by decide)]
        refine freeTag_idleWaits tag ?_
        unfold State.idleWaits
        rw [postEntry_q hi]
        exact hw
      unfold complete completeOne
      simp only [run_seq, run_read, hc, hf, Bool.false_eq_true, if_false]
      rw [hq', wakeIdle_none (hidle _), hrun, postEntry_host hi hl]
      exact (congrArg _ (CqEntry.bytes_length _ _).symm).trans (readBytes_writeBytes _ _ _)
    · simp only [Bool.not_eq_true] at hs
      rw [hs]; rfl

/-- What a program leaves of the queue manager: its unit, its registers and those of the instance table, and the functions. -/
structure QueueKept (s t : State) : Prop where
  q : t.q = s.q
  fns : t.fns = s.fns
  qm : ∀ (f : Field) (n : Nat), blockOf f.row = 7 → t.fld f n = s.fld f n
  ins : ∀ (f : Field) (n : Nat), blockOf f.row = 8 → t.fld f n = s.fld f n

theorem queueKept_within {m : Nat} {p : Prog} (hp : p.Within m) (h7 : m.testBit 7 = false) (h8 : m.testBit 8 = false)
    (h19 : m.testBit 19 = false) (h24 : m.testBit 24 = false) (h33 : m.testBit 33 = false) (s : State) : QueueKept s (p.run s) where
  q := run_q hp h24 s
  fns := (run_same_unit .functions (by decide) h33 p hp s).symm
  qm := fun f n h => run_fld hp h19 f n (by rw [h]; exact h7) s
  ins := fun f n h => run_fld hp h19 f n (by rw [h]; exact h8) s

theorem QueueKept.cqOf {s t : State} (h : QueueKept s t) (i q : Nat) : t.cqOf i q = s.cqOf i q := by
  simp only [State.cqOf, h.q, h.qm _ _ (show blockOf Fld.QM_CQ_CFG.OWNER.row = 7 by decide),
    h.qm _ _ (show blockOf Fld.QM_CQ_CFG.Q.row = 7 by decide), h.qm _ _ (show blockOf Fld.QM_CQ_STATUS.FUNC_STATE.row = 7 by decide)]

theorem QueueKept.cqSize {s t : State} (h : QueueKept s t) (q : Nat) : t.cqSize q = s.cqSize q := by
  simp only [State.cqSize, h.qm _ _ (show blockOf Fld.QM_CQ_CFG.SIZE_LOG.row = 7 by decide)]

theorem QueueKept.cqOpen {s t : State} (h : QueueKept s t) (q : Nat) : t.cqOpen q = s.cqOpen q := by
  simp only [State.cqOpen, State.cqCount, State.heldFor, h.cqSize, h.q, h.qm _ _ (show blockOf Fld.QM_CQ_STATUS.FUNC_STATE.row = 7 by decide),
    h.qm _ _ (show blockOf Fld.QM_CQ_INDICES.TAIL.row = 7 by decide), h.qm _ _ (show blockOf Fld.QM_CQ_INDICES.HEAD.row = 7 by decide)]

theorem QueueKept.takesCompletion {s t : State} (h : QueueKept s t) (c : Cmd) : t.takesCompletion c = s.takesCompletion c := by
  simp only [State.takesCompletion, h.cqOf, h.cqOpen, State.holdRoom, State.heldFor, State.heldOf, State.holdMax, h.q,
    h.qm _ _ (show blockOf Fld.QM_SQ_CFG.CQ.row = 7 by decide), h.qm _ _ (show blockOf Fld.QM_CQ_CFG.OWNER.row = 7 by decide),
    h.ins _ _ (show blockOf Fld.INS_SHARE_HOLD.HOLD_MAX.row = 8 by decide)]
  rfl

theorem QueueKept.straight {s t : State} (h : QueueKept s t) (c : Cmd) (q : Nat) : t.straight c q = s.straight c q := by
  simp only [State.straight, h.q, h.cqOpen, State.canIssue, State.fn, h.fns, State.insFn, State.bit,
    h.qm _ _ (show blockOf Fld.QM_CQ_CFG.OWNER.row = 7 by decide), h.ins _ _ (show blockOf Fld.INS_BIND.FUNCTION.row = 8 by decide),
    h.ins _ _ (show blockOf Fld.INS_LOG_CFG.RUNNING.row = 8 by decide)]

/-- What leaves the queue manager leaves what a completion reports. -/
theorem QueueKept.reports {s t : State} (h : QueueKept s t) (u : State) (c : Cmd) (status result aux : Nat) :
    t.reports u c status result aux = s.reports u c status result aux := by
  simp only [State.reports, h.cqOf, h.straight, h.cqSize, State.cqBase,
    h.qm _ _ (show blockOf Fld.QM_SQ_CFG.CQ.row = 7 by decide), h.qm _ _ (show blockOf Fld.QM_SQ_CFG.Q.row = 7 by decide),
    h.qm _ _ (show blockOf Fld.QM_CQ_INDICES.TAIL.row = 7 by decide), h.qm _ _ (show blockOf Fld.QM_CQ_BASE_HI.BASE_HI.row = 7 by decide),
    h.qm _ _ (show blockOf Fld.QM_CQ_BASE_LO.BASE_LO.row = 7 by decide)]
  rfl

/-- A command that `withCmd` carries out: what it does is what its continuation does. -/
theorem withCmd_run {tag op : Nat} {k : Cmd → Prog} {s : State} {c : Cmd} (h : s.startable tag op = some c) :
    (withCmd tag op k).run s = (k c).run s := by
  simp only [withCmd, run_read, h]

theorem startable_cmd {s : State} {tag op : Nat} {c : Cmd} (h : s.startable tag op = some c) : s.cmd tag = some c := by
  unfold State.startable at h
  cases hc : s.cmd tag with
  | none => rw [hc] at h; exact absurd h (by simp)
  | some d =>
    rw [hc] at h
    dsimp only at h
    split at h
    · rw [← Option.some.inj h]
    · exact absurd h (by simp)

end Sys2Proof.Machine
end

