-- ==== Sys2Proof/Laws/Devices.lean ====
section
/-! SUPPORT. What each program of Machine/Devices.lean can change, as a set of parts (Laws/Within.lean); for a command, of its meaning. -/

set_option linter.all false
set_option maxRecDepth 20000

namespace Sys2Proof.Machine

theorem sendUp_within {pm : Nat} (hpm : pm &&& 0x100400000 = 0x100400000) (d : Nat) (launch : Int) (frame : List Byte) :
    (sendUp d launch frame).Within pm := by
  unfold sendUp
  repeat' (first | (with_reducible (first | assumption | exact within_skip | exact within_nil | apply within_cons | apply within_forP | apply within_read | apply within_emit | apply modDev_within))
                   | (with_reducible intro _) | ((with_reducible refine sub hpm ?_); decide) | ((with_reducible refine tb hpm ?_); first | decide | (exact rfl) | (dsimp only [Eff.part]; decide)) | ((with_reducible refine tbAny ?_); refine sub hpm ?_; decide) | split | (exact tbSel 7 (tb hpm (by decide)) ‹_› (by decide)) | (exact tbSel 8 (tb hpm (by decide)) ‹_› (by decide)) | (dsimp only))

theorem sendNodeLeg_within {pm : Nat} (hpm : pm &&& 0x100400000 = 0x100400000) (d : Nat) (n : NodeDev) (l : NodeLeg) (x : Nat × List Byte) :
    (sendNodeLeg d n l x).Within pm := by
  unfold sendNodeLeg
  repeat' (first | (with_reducible (first | assumption | exact within_skip | exact within_nil | apply within_cons | apply within_whenP | apply sendUp_within))
                   | (with_reducible intro _) | ((with_reducible refine sub hpm ?_); decide) | ((with_reducible refine tb hpm ?_); first | decide | (exact rfl) | (dsimp only [Eff.part]; decide)) | ((with_reducible refine tbAny ?_); refine sub hpm ?_; decide) | split | (exact tbSel 7 (tb hpm (by decide)) ‹_› (by decide)) | (exact tbSel 8 (tb hpm (by decide)) ‹_› (by decide)) | (dsimp only))

theorem execNodeMarkerReceive_within {pm : Nat} (hpm : pm &&& 0x100400000 = 0x100400000) (d word arrival : Nat) (samples : List (Nat × List Byte)) (s : State) :
    Meaning pm s (execNodeMarkerReceive d word arrival samples s) := by
  unfold execNodeMarkerReceive
  apply within_finish
  repeat' (first | (with_reducible (first | assumption | exact within_skip | exact within_nil | apply within_cons | apply within_whenP | apply within_forP | apply within_read | apply modDev_within | apply sendNodeLeg_within))
                   | (with_reducible intro _) | ((with_reducible refine sub hpm ?_); decide) | ((with_reducible refine tb hpm ?_); first | decide | (exact rfl) | (dsimp only [Eff.part]; decide)) | ((with_reducible refine tbAny ?_); refine sub hpm ?_; decide) | split | (exact tbSel 7 (tb hpm (by decide)) ‹_› (by decide)) | (exact tbSel 8 (tb hpm (by decide)) ‹_› (by decide)) | (dsimp only))

theorem nodeTakes_within {pm : Nat} (hpm : pm &&& 0x100000000 = 0x100000000) (d : Nat) (frame : List Byte) (k : Header → Prog) (hyp_k : ∀ v0, (k v0).Within pm) :
    (nodeTakes d frame k).Within pm := by
  unfold nodeTakes
  repeat' (first | (with_reducible (first | assumption | exact within_skip | exact within_nil | apply within_cons | apply within_whenP | apply within_ite | apply within_read | apply hyp_k | apply modDev_within))
                   | (with_reducible intro _) | ((with_reducible refine sub hpm ?_); decide) | ((with_reducible refine tb hpm ?_); first | decide | (exact rfl) | (dsimp only [Eff.part]; decide)) | ((with_reducible refine tbAny ?_); refine sub hpm ?_; decide) | split | (exact tbSel 7 (tb hpm (by decide)) ‹_› (by decide)) | (exact tbSel 8 (tb hpm (by decide)) ‹_› (by decide)) | (dsimp only))

theorem execNodeLegReceive_within {pm : Nat} (hpm : pm &&& 0x100000000 = 0x100000000) (d : Nat) (frame : List Byte) (s : State) :
    Meaning pm s (execNodeLegReceive d frame s) := by
  unfold execNodeLegReceive
  apply within_finish
  repeat' (first | (with_reducible (first | assumption | exact within_skip | exact within_nil | apply within_cons | apply within_whenP | apply within_read | apply modDev_within | apply nodeTakes_within))
                   | (with_reducible intro _) | ((with_reducible refine sub hpm ?_); decide) | ((with_reducible refine tb hpm ?_); first | decide | (exact rfl) | (dsimp only [Eff.part]; decide)) | ((with_reducible refine tbAny ?_); refine sub hpm ?_; decide) | split | (exact tbSel 7 (tb hpm (by decide)) ‹_› (by decide)) | (exact tbSel 8 (tb hpm (by decide)) ‹_› (by decide)) | (dsimp only))

theorem owesNak_within {pm : Nat} (hpm : pm &&& 0x100000000 = 0x100000000) (d pipe : Nat) :
    (owesNak d pipe).Within pm := by
  unfold owesNak
  repeat' (first | (with_reducible (first | assumption | exact within_skip | exact within_nil | apply within_cons | apply modDev_within))
                   | (with_reducible intro _) | ((with_reducible refine sub hpm ?_); decide) | ((with_reducible refine tb hpm ?_); first | decide | (exact rfl) | (dsimp only [Eff.part]; decide)) | ((with_reducible refine tbAny ?_); refine sub hpm ?_; decide) | split | (exact tbSel 7 (tb hpm (by decide)) ‹_› (by decide)) | (exact tbSel 8 (tb hpm (by decide)) ‹_› (by decide)) | (dsimp only))

theorem nodeData_within {pm : Nat} (hpm : pm &&& 0x100000000 = 0x100000000) (d pipe seq : Nat) (payload : List Byte) :
    (nodeData d pipe seq payload).Within pm := by
  unfold nodeData
  repeat' (first | (with_reducible (first | assumption | exact within_skip | exact within_nil | apply within_cons | apply within_whenP | apply within_ite | apply within_read | apply modDev_within | apply owesNak_within))
                   | (with_reducible intro _) | ((with_reducible refine sub hpm ?_); decide) | ((with_reducible refine tb hpm ?_); first | decide | (exact rfl) | (dsimp only [Eff.part]; decide)) | ((with_reducible refine tbAny ?_); refine sub hpm ?_; decide) | split | (exact tbSel 7 (tb hpm (by decide)) ‹_› (by decide)) | (exact tbSel 8 (tb hpm (by decide)) ‹_› (by decide)) | (dsimp only))

theorem execNodeDataReceive_within {pm : Nat} (hpm : pm &&& 0x100000000 = 0x100000000) (d : Nat) (frame : List Byte) (s : State) :
    Meaning pm s (execNodeDataReceive d frame s) := by
  unfold execNodeDataReceive
  apply within_finish
  repeat' (first | (with_reducible (first | assumption | exact within_skip | exact within_nil | apply within_cons | apply within_whenP | apply within_seq | apply nodeData_within | apply nodeTakes_within))
                   | (with_reducible intro _) | ((with_reducible refine sub hpm ?_); decide) | ((with_reducible refine tb hpm ?_); first | decide | (exact rfl) | (dsimp only [Eff.part]; decide)) | ((with_reducible refine tbAny ?_); refine sub hpm ?_; decide) | split | (exact tbSel 7 (tb hpm (by decide)) ‹_› (by decide)) | (exact tbSel 8 (tb hpm (by decide)) ‹_› (by decide)) | (dsimp only))

theorem execNodeSetupReceive_within {pm : Nat} (hpm : pm &&& 0x100000000 = 0x100000000) (d : Nat) (frame : List Byte) (s : State) :
    Meaning pm s (execNodeSetupReceive d frame s) := by
  unfold execNodeSetupReceive
  apply within_finish
  repeat' (first | (with_reducible (first | assumption | exact within_skip | exact within_nil | apply within_cons | apply within_whenP | apply within_ite | apply modDev_within | apply nodeTakes_within | apply owesNak_within | apply request_within))
                   | (with_reducible intro _) | ((with_reducible refine sub hpm ?_); decide) | ((with_reducible refine tb hpm ?_); first | decide | (exact rfl) | (dsimp only [Eff.part]; decide)) | ((with_reducible refine tbAny ?_); refine sub hpm ?_; decide) | split | (exact tbSel 7 (tb hpm (by decide)) ‹_› (by decide)) | (exact tbSel 8 (tb hpm (by decide)) ‹_› (by decide)) | (dsimp only))

theorem execNodeAbortReceive_within {pm : Nat} (hpm : pm &&& 0x100000000 = 0x100000000) (d : Nat) (frame : List Byte) (s : State) :
    Meaning pm s (execNodeAbortReceive d frame s) := by
  unfold execNodeAbortReceive
  apply within_finish
  repeat' (first | (with_reducible (first | assumption | exact within_skip | exact within_nil | apply within_cons | apply within_whenP | apply modDev_within | apply nodeTakes_within))
                   | (with_reducible intro _) | ((with_reducible refine sub hpm ?_); decide) | ((with_reducible refine tb hpm ?_); first | decide | (exact rfl) | (dsimp only [Eff.part]; decide)) | ((with_reducible refine tbAny ?_); refine sub hpm ?_; decide) | split | (exact tbSel 7 (tb hpm (by decide)) ‹_› (by decide)) | (exact tbSel 8 (tb hpm (by decide)) ‹_› (by decide)) | (dsimp only))

theorem execNodeHandshakeReceive_within {pm : Nat} (hpm : pm &&& 0x100000000 = 0x100000000) (d : Nat) (frame : List Byte) (s : State) :
    Meaning pm s (execNodeHandshakeReceive d frame s) := by
  unfold execNodeHandshakeReceive
  apply within_finish
  repeat' (first | (with_reducible (first | assumption | exact within_skip | exact within_nil | apply within_cons | apply within_whenP | apply within_ite | apply within_seq | apply modDev_within | apply nodeTakes_within))
                   | (with_reducible intro _) | ((with_reducible refine sub hpm ?_); decide) | ((with_reducible refine tb hpm ?_); first | decide | (exact rfl) | (dsimp only [Eff.part]; decide)) | ((with_reducible refine tbAny ?_); refine sub hpm ?_; decide) | split | (exact tbSel 7 (tb hpm (by decide)) ‹_› (by decide)) | (exact tbSel 8 (tb hpm (by decide)) ‹_› (by decide)) | (dsimp only))

theorem nodeHandshake_within {pm : Nat} (hpm : pm &&& 0x100400000 = 0x100400000) (d : Nat) (h : Header) (launch : Int) (gen slots credit : Nat) (wait : Bool) :
    (nodeHandshake d h launch gen slots credit wait).Within pm := by
  unfold nodeHandshake
  repeat' (first | (with_reducible (first | assumption | exact within_skip | exact within_nil | apply within_cons | apply within_whenP | apply within_ite | apply within_read | apply modDev_within | apply sendUp_within))
                   | (with_reducible intro _) | ((with_reducible refine sub hpm ?_); decide) | ((with_reducible refine tb hpm ?_); first | decide | (exact rfl) | (dsimp only [Eff.part]; decide)) | ((with_reducible refine tbAny ?_); refine sub hpm ?_; decide) | split | (exact tbSel 7 (tb hpm (by decide)) ‹_› (by decide)) | (exact tbSel 8 (tb hpm (by decide)) ‹_› (by decide)) | (dsimp only))

theorem nodeDataGrant_within {pm : Nat} (hpm : pm &&& 0x100400000 = 0x100400000) (d : Nat) (h : Header) (launch : Int) (gen slots : Nat) (wait : Bool) (fresh : List (List Byte)) :
    (nodeDataGrant d h launch gen slots wait fresh).Within pm := by
  unfold nodeDataGrant
  repeat' (first | (with_reducible (first | assumption | exact within_skip | exact within_nil | apply within_cons | apply within_whenP | apply within_forP | apply within_ite | apply within_seq | apply within_read | apply modDev_within | apply sendUp_within))
                   | (with_reducible intro _) | ((with_reducible refine sub hpm ?_); decide) | ((with_reducible refine tb hpm ?_); first | decide | (exact rfl) | (dsimp only [Eff.part]; decide)) | ((with_reducible refine tbAny ?_); refine sub hpm ?_; decide) | split | (exact tbSel 7 (tb hpm (by decide)) ‹_› (by decide)) | (exact tbSel 8 (tb hpm (by decide)) ‹_› (by decide)) | (dsimp only))

theorem execNodeGrantReceive_within {pm : Nat} (hpm : pm &&& 0x100400000 = 0x100400000) (d : Nat) (frame : List Byte) (ended credit : Nat) (wait : Bool) (fresh : List (List Byte)) (s : State) :
    Meaning pm s (execNodeGrantReceive d frame ended credit wait fresh s) := by
  unfold execNodeGrantReceive
  apply within_finish
  repeat' (first | (with_reducible (first | assumption | exact within_skip | exact within_nil | apply within_cons | apply within_whenP | apply within_ite | apply within_read | apply nodeDataGrant_within | apply nodeHandshake_within | apply nodeTakes_within))
                   | (with_reducible intro _) | ((with_reducible refine sub hpm ?_); decide) | ((with_reducible refine tb hpm ?_); first | decide | (exact rfl) | (dsimp only [Eff.part]; decide)) | ((with_reducible refine tbAny ?_); refine sub hpm ?_; decide) | split | (exact tbSel 7 (tb hpm (by decide)) ‹_› (by decide)) | (exact tbSel 8 (tb hpm (by decide)) ‹_› (by decide)) | (dsimp only))

theorem execNodePipeHalt_within {pm : Nat} (hpm : pm &&& 0x100000000 = 0x100000000) (d pipe : Nat) (s : State) :
    Meaning pm s (execNodePipeHalt d pipe s) := by
  unfold execNodePipeHalt
  apply within_finish
  repeat' (first | (with_reducible (first | assumption | exact within_skip | exact within_nil | apply within_cons | apply within_whenP | apply modDev_within))
                   | (with_reducible intro _) | ((with_reducible refine sub hpm ?_); decide) | ((with_reducible refine tb hpm ?_); first | decide | (exact rfl) | (dsimp only [Eff.part]; decide)) | ((with_reducible refine tbAny ?_); refine sub hpm ?_; decide) | split | (exact tbSel 7 (tb hpm (by decide)) ‹_› (by decide)) | (exact tbSel 8 (tb hpm (by decide)) ‹_› (by decide)) | (dsimp only))

theorem request_within {pm : Nat} (hpm : pm &&& 0x100000000 = 0x100000000) (d code : Nat) (stage : NodeDev → DataStage) (ok : NodeDev → Bool) (f : NodeDev → NodeDev) :
    (request d code stage ok f).Within pm := by
  unfold request
  repeat' (first | (with_reducible (first | assumption | exact within_skip | exact within_nil | apply within_cons | apply within_whenP | apply within_ite | apply within_read | apply modDev_within))
                   | (with_reducible intro _) | ((with_reducible refine sub hpm ?_); decide) | ((with_reducible refine tb hpm ?_); first | decide | (exact rfl) | (dsimp only [Eff.part]; decide)) | ((with_reducible refine tbAny ?_); refine sub hpm ?_; decide) | split | (exact tbSel 7 (tb hpm (by decide)) ‹_› (by decide)) | (exact tbSel 8 (tb hpm (by decide)) ‹_› (by decide)) | (dsimp only))

theorem execReqGetDescriptor_within {pm : Nat} (hpm : pm &&& 0x100000000 = 0x100000000) (d : Nat) (desc : List Byte) (pipes : List (List Byte)) (s : State) :
    Meaning pm s (execReqGetDescriptor d desc pipes s) := by
  unfold execReqGetDescriptor
  apply within_finish
  repeat' (first | (with_reducible (first | assumption | exact within_skip | exact within_nil | apply within_cons | apply within_ite | apply modDev_within | apply request_within))
                   | (with_reducible intro _) | ((with_reducible refine sub hpm ?_); decide) | ((with_reducible refine tb hpm ?_); first | decide | (exact rfl) | (dsimp only [Eff.part]; decide)) | ((with_reducible refine tbAny ?_); refine sub hpm ?_; decide) | split | (exact tbSel 7 (tb hpm (by decide)) ‹_› (by decide)) | (exact tbSel 8 (tb hpm (by decide)) ‹_› (by decide)) | (dsimp only))

theorem execReqGetStatus_within {pm : Nat} (hpm : pm &&& 0x100000000 = 0x100000000) (d : Nat) (s : State) :
    Meaning pm s (execReqGetStatus d s) := by
  unfold execReqGetStatus
  apply within_finish
  repeat' (first | (with_reducible (first | assumption | exact within_skip | exact within_nil | apply within_cons | apply within_ite | apply request_within))
                   | (with_reducible intro _) | ((with_reducible refine sub hpm ?_); decide) | ((with_reducible refine tb hpm ?_); first | decide | (exact rfl) | (dsimp only [Eff.part]; decide)) | ((with_reducible refine tbAny ?_); refine sub hpm ?_; decide) | split | (exact tbSel 7 (tb hpm (by decide)) ‹_› (by decide)) | (exact tbSel 8 (tb hpm (by decide)) ‹_› (by decide)) | (dsimp only))

theorem execReqClearHalt_within {pm : Nat} (hpm : pm &&& 0x100000000 = 0x100000000) (d : Nat) (s : State) :
    Meaning pm s (execReqClearHalt d s) := by
  unfold execReqClearHalt
  apply within_finish
  repeat' (first | (with_reducible (first | assumption | exact within_skip | exact within_nil | apply within_cons | apply within_ite | apply request_within))
                   | (with_reducible intro _) | ((with_reducible refine sub hpm ?_); decide) | ((with_reducible refine tb hpm ?_); first | decide | (exact rfl) | (dsimp only [Eff.part]; decide)) | ((with_reducible refine tbAny ?_); refine sub hpm ?_; decide) | split | (exact tbSel 7 (tb hpm (by decide)) ‹_› (by decide)) | (exact tbSel 8 (tb hpm (by decide)) ‹_› (by decide)) | (dsimp only))

theorem execReqSetAddress_within {pm : Nat} (hpm : pm &&& 0x100000000 = 0x100000000) (d : Nat) (s : State) :
    Meaning pm s (execReqSetAddress d s) := by
  unfold execReqSetAddress
  apply within_finish
  repeat' (first | (with_reducible (first | assumption | exact within_skip | exact within_nil | apply within_cons | apply request_within))
                   | (with_reducible intro _) | ((with_reducible refine sub hpm ?_); decide) | ((with_reducible refine tb hpm ?_); first | decide | (exact rfl) | (dsimp only [Eff.part]; decide)) | ((with_reducible refine tbAny ?_); refine sub hpm ?_; decide) | split | (exact tbSel 7 (tb hpm (by decide)) ‹_› (by decide)) | (exact tbSel 8 (tb hpm (by decide)) ‹_› (by decide)) | (dsimp only))

theorem execReqSetConfig_within {pm : Nat} (hpm : pm &&& 0x100000000 = 0x100000000) (d : Nat) (s : State) :
    Meaning pm s (execReqSetConfig d s) := by
  unfold execReqSetConfig
  apply within_finish
  repeat' (first | (with_reducible (first | assumption | exact within_skip | exact within_nil | apply within_cons | apply within_ite | apply request_within))
                   | (with_reducible intro _) | ((with_reducible refine sub hpm ?_); decide) | ((with_reducible refine tb hpm ?_); first | decide | (exact rfl) | (dsimp only [Eff.part]; decide)) | ((with_reducible refine tbAny ?_); refine sub hpm ?_; decide) | split | (exact tbSel 7 (tb hpm (by decide)) ‹_› (by decide)) | (exact tbSel 8 (tb hpm (by decide)) ‹_› (by decide)) | (dsimp only))

theorem execReqSetBearing_within {pm : Nat} (hpm : pm &&& 0x100000000 = 0x100000000) (d : Nat) (s : State) :
    Meaning pm s (execReqSetBearing d s) := by
  unfold execReqSetBearing
  apply within_finish
  repeat' (first | (with_reducible (first | assumption | exact within_skip | exact within_nil | apply within_cons | apply request_within))
                   | (with_reducible intro _) | ((with_reducible refine sub hpm ?_); decide) | ((with_reducible refine tb hpm ?_); first | decide | (exact rfl) | (dsimp only [Eff.part]; decide)) | ((with_reducible refine tbAny ?_); refine sub hpm ?_; decide) | split | (exact tbSel 7 (tb hpm (by decide)) ‹_› (by decide)) | (exact tbSel 8 (tb hpm (by decide)) ‹_› (by decide)) | (dsimp only))

theorem execReqSetRoute_within {pm : Nat} (hpm : pm &&& 0x100000000 = 0x100000000) (d : Nat) (s : State) :
    Meaning pm s (execReqSetRoute d s) := by
  unfold execReqSetRoute
  apply within_finish
  repeat' (first | (with_reducible (first | assumption | exact within_skip | exact within_nil | apply within_cons | apply request_within))
                   | (with_reducible intro _) | ((with_reducible refine sub hpm ?_); decide) | ((with_reducible refine tb hpm ?_); first | decide | (exact rfl) | (dsimp only [Eff.part]; decide)) | ((with_reducible refine tbAny ?_); refine sub hpm ?_; decide) | split | (exact tbSel 7 (tb hpm (by decide)) ‹_› (by decide)) | (exact tbSel 8 (tb hpm (by decide)) ‹_› (by decide)) | (dsimp only))

theorem hubRetrain_within {pm : Nat} (hpm : pm &&& 0x1209df552586 = 0x1209df552586) (d p : Nat) :
    (hubRetrain d p).Within pm := by
  unfold hubRetrain
  repeat' (first | (with_reducible (first | assumption | exact within_skip | exact within_nil | apply within_cons | apply within_whenP | apply within_read | apply fullRetrain_within))
                   | (with_reducible intro _) | ((with_reducible refine sub hpm ?_); decide) | ((with_reducible refine tb hpm ?_); first | decide | (exact rfl) | (dsimp only [Eff.part]; decide)) | ((with_reducible refine tbAny ?_); refine sub hpm ?_; decide) | split | (exact tbSel 7 (tb hpm (by decide)) ‹_› (by decide)) | (exact tbSel 8 (tb hpm (by decide)) ‹_› (by decide)) | (dsimp only))

theorem execReqSetPortGate_within {pm : Nat} (hpm : pm &&& 0x1209df552586 = 0x1209df552586) (d : Nat) (s : State) :
    Meaning pm s (execReqSetPortGate d s) := by
  unfold execReqSetPortGate
  apply within_finish
  repeat' (first | (with_reducible (first | assumption | exact within_skip | exact within_nil | apply within_cons | apply within_whenP | apply within_read | apply hubRetrain_within | apply request_within))
                   | (with_reducible intro _) | ((with_reducible refine sub hpm ?_); decide) | ((with_reducible refine tb hpm ?_); first | decide | (exact rfl) | (dsimp only [Eff.part]; decide)) | ((with_reducible refine tbAny ?_); refine sub hpm ?_; decide) | split | (exact tbSel 7 (tb hpm (by decide)) ‹_› (by decide)) | (exact tbSel 8 (tb hpm (by decide)) ‹_› (by decide)) | (dsimp only))

theorem execReqClearPortChange_within {pm : Nat} (hpm : pm &&& 0x100000000 = 0x100000000) (d : Nat) (s : State) :
    Meaning pm s (execReqClearPortChange d s) := by
  unfold execReqClearPortChange
  apply within_finish
  repeat' (first | (with_reducible (first | assumption | exact within_skip | exact within_nil | apply within_cons | apply within_clear | apply request_within))
                   | (with_reducible intro _) | ((with_reducible refine sub hpm ?_); decide) | ((with_reducible refine tb hpm ?_); first | decide | (exact rfl) | (dsimp only [Eff.part]; decide)) | ((with_reducible refine tbAny ?_); refine sub hpm ?_; decide) | split | (exact tbSel 7 (tb hpm (by decide)) ‹_› (by decide)) | (exact tbSel 8 (tb hpm (by decide)) ‹_› (by decide)) | (dsimp only))

theorem execReqReadTiming_within {pm : Nat} (hpm : pm &&& 0x100000000 = 0x100000000) (d : Nat) (s : State) :
    Meaning pm s (execReqReadTiming d s) := by
  unfold execReqReadTiming
  apply within_finish
  repeat' (first | (with_reducible (first | assumption | exact within_skip | exact within_nil | apply within_cons | apply request_within))
                   | (with_reducible intro _) | ((with_reducible refine sub hpm ?_); decide) | ((with_reducible refine tb hpm ?_); first | decide | (exact rfl) | (dsimp only [Eff.part]; decide)) | ((with_reducible refine tbAny ?_); refine sub hpm ?_; decide) | split | (exact tbSel 7 (tb hpm (by decide)) ‹_› (by decide)) | (exact tbSel 8 (tb hpm (by decide)) ‹_› (by decide)) | (dsimp only))

theorem hubMarker_within {pm : Nat} (hpm : pm &&& 0x400000 = 0x400000) (d p : Nat) (n : NodeDev) (gen word arrival residence : Nat) :
    (hubMarker d p n gen word arrival residence).Within pm := by
  unfold hubMarker
  repeat' (first | (with_reducible (first | assumption | exact within_skip | exact within_nil | apply within_cons | apply within_ite | apply within_read | apply within_emit))
                   | (with_reducible intro _) | ((with_reducible refine sub hpm ?_); decide) | ((with_reducible refine tb hpm ?_); first | decide | (exact rfl) | (dsimp only [Eff.part]; decide)) | ((with_reducible refine tbAny ?_); refine sub hpm ?_; decide) | split | (exact tbSel 7 (tb hpm (by decide)) ‹_› (by decide)) | (exact tbSel 8 (tb hpm (by decide)) ‹_› (by decide)) | (dsimp only))

theorem execHubMarkerForward_within {pm : Nat} (hpm : pm &&& 0x100400000 = 0x100400000) (d up word arrival : Nat) (residences : List (Nat × Nat)) (s : State) :
    Meaning pm s (execHubMarkerForward d up word arrival residences s) := by
  unfold execHubMarkerForward
  apply within_finish
  repeat' (first | (with_reducible (first | assumption | exact within_skip | exact within_nil | apply within_cons | apply within_whenP | apply within_forP | apply hubMarker_within | apply modDev_within))
                   | (with_reducible intro _) | ((with_reducible refine sub hpm ?_); decide) | ((with_reducible refine tb hpm ?_); first | decide | (exact rfl) | (dsimp only [Eff.part]; decide)) | ((with_reducible refine tbAny ?_); refine sub hpm ?_; decide) | split | (exact tbSel 7 (tb hpm (by decide)) ‹_› (by decide)) | (exact tbSel 8 (tb hpm (by decide)) ‹_› (by decide)) | (dsimp only))

theorem hubSends_within {pm : Nat} (hpm : pm &&& 0x400000 = 0x400000) (d : Nat) (at_ : Int) (frame : List Byte) (p : Nat) :
    (hubSends d at_ frame p).Within pm := by
  unfold hubSends
  repeat' (first | (with_reducible (first | assumption | exact within_skip | exact within_nil | apply within_cons | apply within_read | apply within_emit))
                   | (with_reducible intro _) | ((with_reducible refine sub hpm ?_); decide) | ((with_reducible refine tb hpm ?_); first | decide | (exact rfl) | (dsimp only [Eff.part]; decide)) | ((with_reducible refine tbAny ?_); refine sub hpm ?_; decide) | split | (exact tbSel 7 (tb hpm (by decide)) ‹_› (by decide)) | (exact tbSel 8 (tb hpm (by decide)) ‹_› (by decide)) | (dsimp only))

theorem execHubDownstreamForward_within {pm : Nat} (hpm : pm &&& 0x100400000 = 0x100400000) (d up arrival residence : Nat) (frame : List Byte) (s : State) :
    Meaning pm s (execHubDownstreamForward d up arrival residence frame s) := by
  unfold execHubDownstreamForward
  apply within_finish
  repeat' (first | (with_reducible (first | assumption | exact within_skip | exact within_nil | apply within_cons | apply within_whenP | apply within_forP | apply within_ite | apply hubSends_within | apply modDev_within))
                   | (with_reducible intro _) | ((with_reducible refine sub hpm ?_); decide) | ((with_reducible refine tb hpm ?_); first | decide | (exact rfl) | (dsimp only [Eff.part]; decide)) | ((with_reducible refine tbAny ?_); refine sub hpm ?_; decide) | split | (exact tbSel 7 (tb hpm (by decide)) ‹_› (by decide)) | (exact tbSel 8 (tb hpm (by decide)) ‹_› (by decide)) | (dsimp only))

theorem execHubUpstreamForward_within {pm : Nat} (hpm : pm &&& 0x100400000 = 0x100400000) (d p start : Nat) (frame : List Byte) (ties : List Nat) (s : State) :
    Meaning pm s (execHubUpstreamForward d p start frame ties s) := by
  unfold execHubUpstreamForward
  apply within_finish
  repeat' (first | (with_reducible (first | assumption | exact within_skip | exact within_nil | apply within_cons | apply within_whenP | apply within_forP | apply within_ite | apply within_emit | apply modDev_within))
                   | (with_reducible intro _) | ((with_reducible refine sub hpm ?_); decide) | ((with_reducible refine tb hpm ?_); first | decide | (exact rfl) | (dsimp only [Eff.part]; decide)) | ((with_reducible refine tbAny ?_); refine sub hpm ?_; decide) | split | (exact tbSel 7 (tb hpm (by decide)) ‹_› (by decide)) | (exact tbSel 8 (tb hpm (by decide)) ‹_› (by decide)) | (dsimp only))

theorem execHubPortUp_within {pm : Nat} (hpm : pm &&& 0x1209df552586 = 0x1209df552586) (d p : Nat) (good : Bool) (t1 t4 turn ns frac resUp : Nat) (s : State) :
    Meaning pm s (execHubPortUp d p good t1 t4 turn ns frac resUp s) := by
  unfold execHubPortUp
  apply within_finish
  repeat' (first | (with_reducible (first | assumption | exact within_skip | exact within_nil | apply within_cons | apply within_whenP | apply within_ite | apply hubRetrain_within | apply modDev_within))
                   | (with_reducible intro _) | ((with_reducible refine sub hpm ?_); decide) | ((with_reducible refine tb hpm ?_); first | decide | (exact rfl) | (dsimp only [Eff.part]; decide)) | ((with_reducible refine tbAny ?_); refine sub hpm ?_; decide) | split | (exact tbSel 7 (tb hpm (by decide)) ‹_› (by decide)) | (exact tbSel 8 (tb hpm (by decide)) ‹_› (by decide)) | (dsimp only))

theorem execHubLinkFix_within {pm : Nat} (hpm : pm &&& 0x100000000 = 0x100000000) (d p : Nat) (good : Bool) (t1 t4 turn ns frac : Nat) (s : State) :
    Meaning pm s (execHubLinkFix d p good t1 t4 turn ns frac s) := by
  unfold execHubLinkFix
  apply within_finish
  repeat' (first | (with_reducible (first | assumption | exact within_skip | exact within_nil | apply within_cons | apply within_whenP | apply within_ite | apply modDev_within))
                   | (with_reducible intro _) | ((with_reducible refine sub hpm ?_); decide) | ((with_reducible refine tb hpm ?_); first | decide | (exact rfl) | (dsimp only [Eff.part]; decide)) | ((with_reducible refine tbAny ?_); refine sub hpm ?_; decide) | split | (exact tbSel 7 (tb hpm (by decide)) ‹_› (by decide)) | (exact tbSel 8 (tb hpm (by decide)) ‹_› (by decide)) | (dsimp only))

theorem execHubOvertemp_within {pm : Nat} (hpm : pm &&& 0x100000000 = 0x100000000) (d : Nat) (s : State) :
    Meaning pm s (execHubOvertemp d s) := by
  unfold execHubOvertemp
  apply within_finish
  repeat' (first | (with_reducible (first | assumption | exact within_skip | exact within_nil | apply within_cons | apply modDev_within))
                   | (with_reducible intro _) | ((with_reducible refine sub hpm ?_); decide) | ((with_reducible refine tb hpm ?_); first | decide | (exact rfl) | (dsimp only [Eff.part]; decide)) | ((with_reducible refine tbAny ?_); refine sub hpm ?_; decide) | split | (exact tbSel 7 (tb hpm (by decide)) ‹_› (by decide)) | (exact tbSel 8 (tb hpm (by decide)) ‹_› (by decide)) | (dsimp only))

end Sys2Proof.Machine
end

