-- ==== Sys2Proof/Laws/Tick.lean ====
section
/-! SUPPORT. What each program of Machine/Tick.lean can change, as a set of parts (Laws/Within.lean); for a command, of its meaning. -/

set_option linter.all false
set_option maxRecDepth 20000

namespace Sys2Proof.Machine

theorem latchPoint_within {pm : Nat} (hpm : pm &&& 0x13c9ff5525c6 = 0x13c9ff5525c6)  :
    (latchPoint).Within pm := by
  unfold latchPoint
  repeat' (first | (with_reducible (first | assumption | exact within_skip | exact within_nil | apply within_cons | apply within_whenP | apply within_read | apply configLate_within | apply modChart_within | apply modChr_within | apply modHalt_within | apply opLatch_within | apply piLatch_within))
                   | (with_reducible intro _) | ((with_reducible refine sub hpm ?_); decide) | ((with_reducible refine tb hpm ?_); first | decide | (exact rfl) | (dsimp only [Eff.part]; decide)) | ((with_reducible refine tbAny ?_); refine sub hpm ?_; decide) | split | (exact tbSel 7 (tb hpm (by decide)) ‹_› (by decide)) | (exact tbSel 8 (tb hpm (by decide)) ‹_› (by decide)) | (dsimp only))

theorem execLatchPoint_within {pm : Nat} (hpm : pm &&& 0x13c9ff5525c6 = 0x13c9ff5525c6) (s : State) :
    Meaning pm s (execLatchPoint s) := by
  unfold execLatchPoint
  apply within_finish
  repeat' (first | (with_reducible (first | assumption | exact within_skip | exact within_nil | apply within_cons | apply within_whenP | apply atNs_within | apply latchPoint_within))
                   | (with_reducible intro _) | ((with_reducible refine sub hpm ?_); decide) | ((with_reducible refine tb hpm ?_); first | decide | (exact rfl) | (dsimp only [Eff.part]; decide)) | ((with_reducible refine tbAny ?_); refine sub hpm ?_; decide) | split | (exact tbSel 7 (tb hpm (by decide)) ‹_› (by decide)) | (exact tbSel 8 (tb hpm (by decide)) ‹_› (by decide)) | (dsimp only))

theorem withBearings_within {pm : Nat} (hpm : pm &&& 0x80000000 = 0x80000000) (p : Prog) (hyp_p : p.Within pm) :
    (withBearings p).Within pm := by
  unfold withBearings
  repeat' (first | (with_reducible (first | assumption | exact within_skip | exact within_nil | apply within_cons | apply within_whenP | apply within_read | apply stepBearings_within))
                   | (with_reducible intro _) | ((with_reducible refine sub hpm ?_); decide) | ((with_reducible refine tb hpm ?_); first | decide | (exact rfl) | (dsimp only [Eff.part]; decide)) | ((with_reducible refine tbAny ?_); refine sub hpm ?_; decide) | split | (exact tbSel 7 (tb hpm (by decide)) ‹_› (by decide)) | (exact tbSel 8 (tb hpm (by decide)) ‹_› (by decide)) | (dsimp only))

theorem stoppedSteps_within {pm : Nat} (hpm : pm &&& 0x9c400601 = 0x9c400601)  :
    (stoppedSteps).Within pm := by
  unfold stoppedSteps
  repeat' (first | (with_reducible (first | assumption | exact within_skip | exact within_nil | apply within_cons | apply within_whenP | apply within_ite | apply within_read | apply atNs_within | apply chrHandover_within | apply domainStep_within | apply planFirst_within | apply withBearings_within))
                   | (with_reducible intro _) | ((with_reducible refine sub hpm ?_); decide) | ((with_reducible refine tb hpm ?_); first | decide | (exact rfl) | (dsimp only [Eff.part]; decide)) | ((with_reducible refine tbAny ?_); refine sub hpm ?_; decide) | split | (exact tbSel 7 (tb hpm (by decide)) ‹_› (by decide)) | (exact tbSel 8 (tb hpm (by decide)) ‹_› (by decide)) | (dsimp only))

theorem execHandoverWhileStopped_within {pm : Nat} (hpm : pm &&& 0x314ff541789 = 0x314ff541789) (block : Nat) (s : State) :
    Meaning pm s (execHandoverWhileStopped block s) := by
  unfold execHandoverWhileStopped
  apply within_finish
  repeat' (first | (with_reducible (first | assumption | exact within_skip | exact within_nil | apply within_cons | apply within_whenP | apply within_ite | apply atNs_within | apply chartHandover_within | apply opHandover_within | apply planFirst_within | apply stoppedSteps_within))
                   | (with_reducible intro _) | ((with_reducible refine sub hpm ?_); decide) | ((with_reducible refine tb hpm ?_); first | decide | (exact rfl) | (dsimp only [Eff.part]; decide)) | ((with_reducible refine tbAny ?_); refine sub hpm ?_; decide) | split | (exact tbSel 7 (tb hpm (by decide)) ‹_› (by decide)) | (exact tbSel 8 (tb hpm (by decide)) ‹_› (by decide)) | (dsimp only))

theorem handovers_within {pm : Nat} (hpm : pm &&& 0x3147f541789 = 0x3147f541789) (tick : Nat) (opens : Bool) :
    (handovers tick opens).Within pm := by
  unfold handovers
  repeat' (first | (with_reducible (first | assumption | exact within_skip | exact within_nil | apply within_cons | apply within_whenP | apply within_ite | apply within_read | apply chartHandover_within | apply chrHandover_within | apply domainStep_within | apply opHandover_within | apply standbyCommit_within))
                   | (with_reducible intro _) | ((with_reducible refine sub hpm ?_); decide) | ((with_reducible refine tb hpm ?_); first | decide | (exact rfl) | (dsimp only [Eff.part]; decide)) | ((with_reducible refine tbAny ?_); refine sub hpm ?_; decide) | split | (exact tbSel 7 (tb hpm (by decide)) ‹_› (by decide)) | (exact tbSel 8 (tb hpm (by decide)) ‹_› (by decide)) | (dsimp only))

theorem meridianChanges_within {pm : Nat} (hpm : pm &&& 0x13f0df7555f5 = 0x13f0df7555f5)  :
    (meridianChanges).Within pm := by
  unfold meridianChanges
  repeat' (first | (with_reducible (first | assumption | exact within_skip | exact within_nil | apply within_cons | apply appearances_within | apply forceWipes_within | apply holdEffect_within | apply hubsAdmitted_within | apply powerMeridian_within | apply quarantines_within | apply removals_within | apply sscStop_within))
                   | (with_reducible intro _) | ((with_reducible refine sub hpm ?_); decide) | ((with_reducible refine tb hpm ?_); first | decide | (exact rfl) | (dsimp only [Eff.part]; decide)) | ((with_reducible refine tbAny ?_); refine sub hpm ?_; decide) | split | (exact tbSel 7 (tb hpm (by decide)) ‹_› (by decide)) | (exact tbSel 8 (tb hpm (by decide)) ‹_› (by decide)) | (dsimp only))

theorem tickLength_within {pm : Nat} (hpm : pm &&& 0x8000000 = 0x8000000)  :
    (tickLength).Within pm := by
  unfold tickLength
  repeat' (first | (with_reducible (first | assumption | exact within_skip | exact within_nil | apply within_cons | apply within_ite | apply within_read | apply modChr_within))
                   | (with_reducible intro _) | ((with_reducible refine sub hpm ?_); decide) | ((with_reducible refine tb hpm ?_); first | decide | (exact rfl) | (dsimp only [Eff.part]; decide)) | ((with_reducible refine tbAny ?_); refine sub hpm ?_; decide) | split | (exact tbSel 7 (tb hpm (by decide)) ‹_› (by decide)) | (exact tbSel 8 (tb hpm (by decide)) ‹_› (by decide)) | (dsimp only))

theorem resend_within {pm : Nat} (hpm : pm &&& 0x80000000 = 0x80000000) (oldN tick : Nat) :
    (resend oldN tick).Within pm := by
  unfold resend
  repeat' (first | (with_reducible (first | assumption | exact within_skip | exact within_nil | apply within_cons | apply within_whenP | apply within_ite | apply within_read | apply resendBearings_within | apply stepBearings_within))
                   | (with_reducible intro _) | ((with_reducible refine sub hpm ?_); decide) | ((with_reducible refine tb hpm ?_); first | decide | (exact rfl) | (dsimp only [Eff.part]; decide)) | ((with_reducible refine tbAny ?_); refine sub hpm ?_; decide) | split | (exact tbSel 7 (tb hpm (by decide)) ‹_› (by decide)) | (exact tbSel 8 (tb hpm (by decide)) ‹_› (by decide)) | (dsimp only))

theorem absentCompletions_within {pm : Nat} (hpm : pm &&& 0x3020000130 = 0x3020000130) (tick : Nat) :
    (absentCompletions tick).Within pm := by
  unfold absentCompletions
  repeat' (first | (with_reducible (first | assumption | exact within_skip | exact within_nil | apply within_cons | apply within_forP | apply within_read | apply dispatchAll_within | apply modLeg_within | apply taskCount_within))
                   | (with_reducible intro _) | ((with_reducible refine sub hpm ?_); decide) | ((with_reducible refine tb hpm ?_); first | decide | (exact rfl) | (dsimp only [Eff.part]; decide)) | ((with_reducible refine tbAny ?_); refine sub hpm ?_; decide) | split | (exact tbSel 7 (tb hpm (by decide)) ‹_› (by decide)) | (exact tbSel 8 (tb hpm (by decide)) ‹_› (by decide)) | (dsimp only))

theorem meridOut_within {pm : Nat} (hpm : pm &&& 0x8400000 = 0x8400000)  :
    (meridOut).Within pm := by
  unfold meridOut
  repeat' (first | (with_reducible (first | assumption | exact within_skip | exact within_nil | apply within_cons | apply within_whenP | apply within_read | apply meridPulse_within))
                   | (with_reducible intro _) | ((with_reducible refine sub hpm ?_); decide) | ((with_reducible refine tb hpm ?_); first | decide | (exact rfl) | (dsimp only [Eff.part]; decide)) | ((with_reducible refine tbAny ?_); refine sub hpm ?_; decide) | split | (exact tbSel 7 (tb hpm (by decide)) ‹_› (by decide)) | (exact tbSel 8 (tb hpm (by decide)) ‹_› (by decide)) | (dsimp only))

theorem haltMeridian_within {pm : Nat} (hpm : pm &&& 0x4000 = 0x4000)  :
    (haltMeridian).Within pm := by
  unfold haltMeridian
  repeat' (first | (with_reducible (first | assumption | exact within_skip | exact within_nil | apply within_cons | apply within_ite | apply within_read | apply within_put))
                   | (with_reducible intro _) | ((with_reducible refine sub hpm ?_); decide) | ((with_reducible refine tb hpm ?_); first | decide | (exact rfl) | (dsimp only [Eff.part]; decide)) | ((with_reducible refine tbAny ?_); refine sub hpm ?_; decide) | split | (exact tbSel 7 (tb hpm (by decide)) ‹_› (by decide)) | (exact tbSel 8 (tb hpm (by decide)) ‹_› (by decide)) | (dsimp only))

theorem markers_within {pm : Nat} (hpm : pm &&& 0x800400000 = 0x800400000)  :
    (markers).Within pm := by
  unfold markers
  repeat' (first | (with_reducible (first | assumption | exact within_skip | exact within_nil | apply within_cons | apply within_whenP | apply within_forP | apply within_read | apply sendMarker_within))
                   | (with_reducible intro _) | ((with_reducible refine sub hpm ?_); decide) | ((with_reducible refine tb hpm ?_); first | decide | (exact rfl) | (dsimp only [Eff.part]; decide)) | ((with_reducible refine tbAny ?_); refine sub hpm ?_; decide) | split | (exact tbSel 7 (tb hpm (by decide)) ‹_› (by decide)) | (exact tbSel 8 (tb hpm (by decide)) ‹_› (by decide)) | (dsimp only))

theorem tickEnds_within {pm : Nat} (hpm : pm &&& 0x28000000 = 0x28000000)  :
    (tickEnds).Within pm := by
  unfold tickEnds
  repeat' (first | (with_reducible (first | assumption | exact within_skip | exact within_nil | apply within_cons | apply within_ite | apply within_read | apply modChart_within | apply modChr_within))
                   | (with_reducible intro _) | ((with_reducible refine sub hpm ?_); decide) | ((with_reducible refine tb hpm ?_); first | decide | (exact rfl) | (dsimp only [Eff.part]; decide)) | ((with_reducible refine tbAny ?_); refine sub hpm ?_; decide) | split | (exact tbSel 7 (tb hpm (by decide)) ‹_› (by decide)) | (exact tbSel 8 (tb hpm (by decide)) ‹_› (by decide)) | (dsimp only))

theorem openTick_within {pm : Nat} (hpm : pm &&& 0x13fcfff577fd = 0x13fcfff577fd) (tick : Nat) :
    (openTick tick).Within pm := by
  unfold openTick
  repeat' (first | (with_reducible (first | assumption | exact within_skip | exact within_nil | apply within_cons | apply within_read | apply within_raise | apply absentCompletions_within | apply afterTakeover_within | apply bootMeridian_within | apply haltMeridian_within | apply handovers_within | apply icuEdge_within | apply markers_within | apply meridOut_within | apply meridianChanges_within | apply modChr_within | apply modIns_within | apply pairBeacon_within | apply pairHandover_within | apply piMeridian_within | apply resend_within | apply skewsEnd_within | apply tasksBefore_within | apply tasksReload_within | apply tickEnds_within | apply tickLength_within))
                   | (with_reducible intro _) | ((with_reducible refine sub hpm ?_); decide) | ((with_reducible refine tb hpm ?_); first | decide | (exact rfl) | (dsimp only [Eff.part]; decide)) | ((with_reducible refine tbAny ?_); refine sub hpm ?_; decide) | split | (exact tbSel 7 (tb hpm (by decide)) ‹_› (by decide)) | (exact tbSel 8 (tb hpm (by decide)) ‹_› (by decide)) | (dsimp only))

theorem lastMeridian_within {pm : Nat} (hpm : pm &&& 0x13f4ff7557fd = 0x13f4ff7557fd)  :
    (lastMeridian).Within pm := by
  unfold lastMeridian
  repeat' (first | (with_reducible (first | assumption | exact within_skip | exact within_nil | apply within_cons | apply within_read | apply handovers_within | apply meridianChanges_within | apply tickEnds_within | apply withBearings_within))
                   | (with_reducible intro _) | ((with_reducible refine sub hpm ?_); decide) | ((with_reducible refine tb hpm ?_); first | decide | (exact rfl) | (dsimp only [Eff.part]; decide)) | ((with_reducible refine tbAny ?_); refine sub hpm ?_; decide) | split | (exact tbSel 7 (tb hpm (by decide)) ‹_› (by decide)) | (exact tbSel 8 (tb hpm (by decide)) ‹_› (by decide)) | (dsimp only))

theorem stopTick_within {pm : Nat} (hpm : pm &&& 0x13f4ff7557fd = 0x13f4ff7557fd)  :
    (stopTick).Within pm := by
  unfold stopTick
  repeat' (first | (with_reducible (first | assumption | exact within_skip | exact within_nil | apply within_cons | apply lastMeridian_within | apply stopBeacon_within | apply stopTicks_within))
                   | (with_reducible intro _) | ((with_reducible refine sub hpm ?_); decide) | ((with_reducible refine tb hpm ?_); first | decide | (exact rfl) | (dsimp only [Eff.part]; decide)) | ((with_reducible refine tbAny ?_); refine sub hpm ?_; decide) | split | (exact tbSel 7 (tb hpm (by decide)) ‹_› (by decide)) | (exact tbSel 8 (tb hpm (by decide)) ‹_› (by decide)) | (dsimp only))

theorem execEntryIdleReached_within {pm : Nat} (hpm : pm &&& 0x13fdff757fff = 0x13fdff757fff) (s : State) :
    Meaning pm s (execEntryIdleReached s) := by
  unfold execEntryIdleReached
  apply within_finish
  repeat' (first | (with_reducible (first | assumption | exact within_skip | exact within_nil | apply within_cons | apply within_whenP | apply within_ite | apply atNs_within | apply entryStops_within | apply lastMeridian_within))
                   | (with_reducible intro _) | ((with_reducible refine sub hpm ?_); decide) | ((with_reducible refine tb hpm ?_); first | decide | (exact rfl) | (dsimp only [Eff.part]; decide)) | ((with_reducible refine tbAny ?_); refine sub hpm ?_; decide) | split | (exact tbSel 7 (tb hpm (by decide)) ‹_› (by decide)) | (exact tbSel 8 (tb hpm (by decide)) ‹_› (by decide)) | (dsimp only))

theorem execMeridian_within {pm : Nat} (hpm : pm &&& 0x13fcfff577fd = 0x13fcfff577fd) (s : State) :
    Meaning pm s (execMeridian s) := by
  unfold execMeridian
  apply within_finish
  repeat' (first | (with_reducible (first | assumption | exact within_skip | exact within_nil | apply within_cons | apply within_whenP | apply within_ite | apply within_read | apply advanceTo_within | apply helmLoads_within | apply openTick_within | apply stopTick_within))
                   | (with_reducible intro _) | ((with_reducible refine sub hpm ?_); decide) | ((with_reducible refine tb hpm ?_); first | decide | (exact rfl) | (dsimp only [Eff.part]; decide)) | ((with_reducible refine tbAny ?_); refine sub hpm ?_; decide) | split | (exact tbSel 7 (tb hpm (by decide)) ‹_› (by decide)) | (exact tbSel 8 (tb hpm (by decide)) ‹_› (by decide)) | (dsimp only))

theorem heldTick_within {pm : Nat} (hpm : pm &&& 0x8 = 0x8) (p : Nat) :
    (heldTick p).Within pm := by
  unfold heldTick
  repeat' (first | (with_reducible (first | assumption | exact within_skip | exact within_nil | apply within_cons | apply within_countUp))
                   | (with_reducible intro _) | ((with_reducible refine sub hpm ?_); decide) | ((with_reducible refine tb hpm ?_); first | decide | (exact rfl) | (dsimp only [Eff.part]; decide)) | ((with_reducible refine tbAny ?_); refine sub hpm ?_; decide) | split | (exact tbSel 7 (tb hpm (by decide)) ‹_› (by decide)) | (exact tbSel 8 (tb hpm (by decide)) ‹_› (by decide)) | (dsimp only))

theorem encodeLeg_within {pm : Nat} (hpm : pm &&& 0x20020000008 = 0x20020000008) (i : Nat) :
    (encodeLeg i).Within pm := by
  unfold encodeLeg
  repeat' (first | (with_reducible (first | assumption | exact within_skip | exact within_nil | apply within_cons | apply within_whenP | apply within_read | apply within_raise | apply heldTick_within | apply mirrorNote_within | apply modLeg_within))
                   | (with_reducible intro _) | ((with_reducible refine sub hpm ?_); decide) | ((with_reducible refine tb hpm ?_); first | decide | (exact rfl) | (dsimp only [Eff.part]; decide)) | ((with_reducible refine tbAny ?_); refine sub hpm ?_; decide) | split | (exact tbSel 7 (tb hpm (by decide)) ‹_› (by decide)) | (exact tbSel 8 (tb hpm (by decide)) ‹_› (by decide)) | (dsimp only))

theorem execLegEncodeStart_within {pm : Nat} (hpm : pm &&& 0x20028000008 = 0x20028000008) (i : Nat) (s : State) :
    Meaning pm s (execLegEncodeStart i s) := by
  unfold execLegEncodeStart
  apply within_finish
  repeat' (first | (with_reducible (first | assumption | exact within_skip | exact within_nil | apply within_cons | apply within_whenP | apply atNs_within | apply encodeLeg_within))
                   | (with_reducible intro _) | ((with_reducible refine sub hpm ?_); decide) | ((with_reducible refine tb hpm ?_); first | decide | (exact rfl) | (dsimp only [Eff.part]; decide)) | ((with_reducible refine tbAny ?_); refine sub hpm ?_; decide) | split | (exact tbSel 7 (tb hpm (by decide)) ‹_› (by decide)) | (exact tbSel 8 (tb hpm (by decide)) ‹_› (by decide)) | (dsimp only))

theorem sendLeg_within {pm : Nat} (hpm : pm &&& 0x820400008 = 0x820400008) (i : Nat) (second : Bool) (slot : Nat) :
    (sendLeg i second slot).Within pm := by
  unfold sendLeg
  repeat' (first | (with_reducible (first | assumption | exact within_skip | exact within_nil | apply within_cons | apply within_whenP | apply within_ite | apply within_read | apply within_emit | apply heldTick_within | apply modLane_within | apply modLeg_within))
                   | (with_reducible intro _) | ((with_reducible refine sub hpm ?_); decide) | ((with_reducible refine tb hpm ?_); first | decide | (exact rfl) | (dsimp only [Eff.part]; decide)) | ((with_reducible refine tbAny ?_); refine sub hpm ?_; decide) | split | (exact tbSel 7 (tb hpm (by decide)) ‹_› (by decide)) | (exact tbSel 8 (tb hpm (by decide)) ‹_› (by decide)) | (dsimp only))

theorem execOutboundLegStart_within {pm : Nat} (hpm : pm &&& 0x20828400008 = 0x20828400008) (i : Nat) (second : Bool) (s : State) :
    Meaning pm s (execOutboundLegStart i second s) := by
  unfold execOutboundLegStart
  apply within_finish
  repeat' (first | (with_reducible (first | assumption | exact within_skip | exact within_nil | apply within_cons | apply within_whenP | apply within_ite | apply atNs_within | apply encodeLeg_within | apply sendLeg_within))
                   | (with_reducible intro _) | ((with_reducible refine sub hpm ?_); decide) | ((with_reducible refine tb hpm ?_); first | decide | (exact rfl) | (dsimp only [Eff.part]; decide)) | ((with_reducible refine tbAny ?_); refine sub hpm ?_; decide) | split | (exact tbSel 7 (tb hpm (by decide)) ‹_› (by decide)) | (exact tbSel 8 (tb hpm (by decide)) ‹_› (by decide)) | (dsimp only))

theorem legEvent_within {pm : Nat} (hpm : pm &&& 0xb026540770 = 0xb026540770) (i : Nat) (e : ChartEntry) (tick status : Nat) (store : Option (List Byte)) (stale fault dup : Bool) :
    (legEvent i e tick status store stale fault dup).Within pm := by
  unfold legEvent
  repeat' (first | (with_reducible (first | assumption | exact within_skip | exact within_nil | apply within_cons | apply within_whenP | apply within_ite | apply within_read | apply legPulse_within | apply modLeg_within | apply piInbound_within | apply taskEvent_within))
                   | (with_reducible intro _) | ((with_reducible refine sub hpm ?_); decide) | ((with_reducible refine tb hpm ?_); first | decide | (exact rfl) | (dsimp only [Eff.part]; decide)) | ((with_reducible refine tbAny ?_); refine sub hpm ?_; decide) | split | (exact tbSel 7 (tb hpm (by decide)) ‹_› (by decide)) | (exact tbSel 8 (tb hpm (by decide)) ‹_› (by decide)) | (dsimp only))

theorem copyCount_within {pm : Nat} (hpm : pm &&& 0x2004000000c = 0x2004000000c) (how : Nat) (e : ChartEntry) :
    (copyCount how e).Within pm := by
  unfold copyCount
  repeat' (first | (with_reducible (first | assumption | exact within_skip | exact within_nil | apply within_cons | apply within_whenP | apply within_ite | apply within_read | apply within_raise | apply within_countUp | apply missed_within))
                   | (with_reducible intro _) | ((with_reducible refine sub hpm ?_); decide) | ((with_reducible refine tb hpm ?_); first | decide | (exact rfl) | (dsimp only [Eff.part]; decide)) | ((with_reducible refine tbAny ?_); refine sub hpm ?_; decide) | split | (exact tbSel 7 (tb hpm (by decide)) ‹_› (by decide)) | (exact tbSel 8 (tb hpm (by decide)) ‹_› (by decide)) | (dsimp only))

theorem copyBad_within {pm : Nat} (hpm : pm &&& 0x2b06654077c = 0x2b06654077c) (i : Nat) (e : ChartEntry) (tick : Nat) (second : Bool) (how : Nat) :
    (copyBad i e tick second how).Within pm := by
  unfold copyBad
  repeat' (first | (with_reducible (first | assumption | exact within_skip | exact within_nil | apply within_cons | apply within_ite | apply within_read | apply copyCount_within | apply legEvent_within | apply modLeg_within))
                   | (with_reducible intro _) | ((with_reducible refine sub hpm ?_); decide) | ((with_reducible refine tb hpm ?_); first | decide | (exact rfl) | (dsimp only [Eff.part]; decide)) | ((with_reducible refine tbAny ?_); refine sub hpm ?_; decide) | split | (exact tbSel 7 (tb hpm (by decide)) ‹_› (by decide)) | (exact tbSel 8 (tb hpm (by decide)) ‹_› (by decide)) | (dsimp only))

theorem copyEvent_within {pm : Nat} (hpm : pm &&& 0xb02e540770 = 0xb02e540770) (prev : Bool) (i : Nat) (e : ChartEntry) (second : Bool) (t : Nat) (p : Nat → Prog) (hyp_p : ∀ v0, (p v0).Within pm) :
    (copyEvent prev i e second t p).Within pm := by
  unfold copyEvent
  repeat' (first | (with_reducible (first | assumption | exact within_skip | exact within_nil | apply within_cons | apply within_whenP | apply within_ite | apply within_read | apply hyp_p | apply atNs_within | apply legEvent_within))
                   | (with_reducible intro _) | ((with_reducible refine sub hpm ?_); decide) | ((with_reducible refine tb hpm ?_); first | decide | (exact rfl) | (dsimp only [Eff.part]; decide)) | ((with_reducible refine tbAny ?_); refine sub hpm ?_; decide) | split | (exact tbSel 7 (tb hpm (by decide)) ‹_› (by decide)) | (exact tbSel 8 (tb hpm (by decide)) ‹_› (by decide)) | (dsimp only))

theorem execInboundLegReceive_within {pm : Nat} (hpm : pm &&& 0x2b0ef540ffc = 0x2b0ef540ffc) (prev : Bool) (i : Nat) (second : Bool) (t : Nat) (pos : Int) (frame : List Byte) (s : State) :
    Meaning pm s (execInboundLegReceive prev i second t pos frame s) := by
  unfold execInboundLegReceive
  apply within_finish
  repeat' (first | (with_reducible (first | assumption | exact within_skip | exact within_nil | apply within_cons | apply within_whenP | apply within_ite | apply copyBad_within | apply copyEvent_within | apply goodResponse_within | apply hubStatus_within | apply legEvent_within | apply nodeError_within))
                   | (with_reducible intro _) | ((with_reducible refine sub hpm ?_); decide) | ((with_reducible refine tb hpm ?_); first | decide | (exact rfl) | (dsimp only [Eff.part]; decide)) | ((with_reducible refine tbAny ?_); refine sub hpm ?_; decide) | split | (exact tbSel 7 (tb hpm (by decide)) ‹_› (by decide)) | (exact tbSel 8 (tb hpm (by decide)) ‹_› (by decide)) | (dsimp only))

theorem execInboundLegTimeout_within {pm : Nat} (hpm : pm &&& 0x2b06e54077c = 0x2b06e54077c) (prev : Bool) (i : Nat) (second : Bool) (t : Nat) (s : State) :
    Meaning pm s (execInboundLegTimeout prev i second t s) := by
  unfold execInboundLegTimeout
  apply within_finish
  repeat' (first | (with_reducible (first | assumption | exact within_skip | exact within_nil | apply within_cons | apply copyBad_within | apply copyEvent_within))
                   | (with_reducible intro _) | ((with_reducible refine sub hpm ?_); decide) | ((with_reducible refine tb hpm ?_); first | decide | (exact rfl) | (dsimp only [Eff.part]; decide)) | ((with_reducible refine tbAny ?_); refine sub hpm ?_; decide) | split | (exact tbSel 7 (tb hpm (by decide)) ‹_› (by decide)) | (exact tbSel 8 (tb hpm (by decide)) ‹_› (by decide)) | (dsimp only))

theorem execStrayFrame_within {pm : Nat} (hpm : pm &&& 0x2004000000c = 0x2004000000c) (p : Nat) (pos : Int) (frame : List Byte) (s : State) :
    Meaning pm s (execStrayFrame p pos frame s) := by
  unfold execStrayFrame
  apply within_finish
  repeat' (first | (with_reducible (first | assumption | exact within_skip | exact within_nil | apply within_cons | apply within_whenP | apply within_raise | apply within_countUp | apply goodResponse_within | apply nodeError_within))
                   | (with_reducible intro _) | ((with_reducible refine sub hpm ?_); decide) | ((with_reducible refine tb hpm ?_); first | decide | (exact rfl) | (dsimp only [Eff.part]; decide)) | ((with_reducible refine tbAny ?_); refine sub hpm ?_; decide) | split | (exact tbSel 7 (tb hpm (by decide)) ‹_› (by decide)) | (exact tbSel 8 (tb hpm (by decide)) ‹_› (by decide)) | (dsimp only))

end Sys2Proof.Machine
end

