-- ==== Sys2Proof/Laws/Footprints.lean ====
section
/-! SUPPORT. The meaning of every command is the outcome of a program within its footprint. -/

set_option linter.all false

namespace Sys2Proof.Machine

/-- Every command is a program within its footprint. -/
theorem exec_meaning (i : Instr) (s : State) : Meaning (mask (footprint i)) s (exec i s) := by
  cases i with
  | meridian => exact execMeridian_within (by dsimp only [footprint]; decide) s
  | latchPoint => exact execLatchPoint_within (by dsimp only [footprint]; decide) s
  | handoverWhileStopped block => exact execHandoverWhileStopped_within (by dsimp only [footprint]; decide) block s
  | meridOutPpsPulse => exact execMeridOutPpsPulse_within (by dsimp only [footprint]; decide) s
  | outboundLegStart i second => exact execOutboundLegStart_within (by dsimp only [footprint]; decide) i second s
  | legEncodeStart i => exact execLegEncodeStart_within (by dsimp only [footprint]; decide) i s
  | inboundLegReceive prev i second t pos frame => exact execInboundLegReceive_within (by dsimp only [footprint]; decide) prev i second t pos frame s
  | inboundLegTimeout prev i second t => exact execInboundLegTimeout_within (by dsimp only [footprint]; decide) prev i second t s
  | strayFrame p pos frame => exact execStrayFrame_within (by dsimp only [footprint]; decide) p pos frame s
  | piFullAtSlot i => exact execPiFullAtSlot_within (by dsimp only [footprint]; decide) i s
  | piHalfAtSlot i => exact execPiHalfAtSlot_within (by dsimp only [footprint]; decide) i s
  | piStampCompletion i => exact execPiStampCompletion_within (by dsimp only [footprint]; decide) i s
  | piRegionReadCompletion i k => exact execPiRegionReadCompletion_within (by dsimp only [footprint]; decide) i k s
  | piReadFault i stamp k how => exact execPiReadFault_within (by dsimp only [footprint]; decide) i stamp k how s
  | taskDispatch h => exact execTaskDispatch_within (by dsimp only [footprint]; decide) h s
  | latestFinish t => exact execLatestFinish_within (by dsimp only [footprint]; decide) t s
  | helmInstruction h more ecc row => exact execHelmInstruction_within (by dsimp only [footprint]; decide) h more ecc row s
  | helmInterruptTaken h => exact execHelmInterruptTaken_within (by dsimp only [footprint]; decide) h s
  | gyLin h ecc row => exact execGyLin_within (by dsimp only [footprint]; decide) h ecc row s
  | gyLout h ecc row => exact execGyLout_within (by dsimp only [footprint]; decide) h ecc row s
  | gyLstat h ecc row => exact execGyLstat_within (by dsimp only [footprint]; decide) h ecc row s
  | gySig h ecc row => exact execGySig_within (by dsimp only [footprint]; decide) h ecc row s
  | gySemtry h ecc row => exact execGySemtry_within (by dsimp only [footprint]; decide) h ecc row s
  | gySemtake h ecc row => exact execGySemtake_within (by dsimp only [footprint]; decide) h ecc row s
  | semaphoreTaken h => exact execSemaphoreTaken_within (by dsimp only [footprint]; decide) h s
  | gySemrel h ecc row => exact execGySemrel_within (by dsimp only [footprint]; decide) h ecc row s
  | gyDone h ecc row => exact execGyDone_within (by dsimp only [footprint]; decide) h ecc row s
  | gyWft h ecc row => exact execGyWft_within (by dsimp only [footprint]; decide) h ecc row s
  | gyFclmp h ecc row => exact execGyFclmp_within (by dsimp only [footprint]; decide) h ecc row s
  | semaphoreOverhold n => exact execSemaphoreOverhold_within (by dsimp only [footprint]; decide) n s
  | hlmEnable h => exact execHlmEnable_within (by dsimp only [footprint]; decide) h s
  | hlmDisable h => exact execHlmDisable_within (by dsimp only [footprint]; decide) h s
  | helmEnablingDone h => exact execHelmEnablingDone_within (by dsimp only [footprint]; decide) h s
  | tcmFabricWrite h itcm off bs => exact execTcmFabricWrite_within (by dsimp only [footprint]; decide) h itcm off bs s
  | tskWrite => exact execTskWrite_within (by dsimp only [footprint]; decide) s
  | tskEnable => exact execTskEnable_within (by dsimp only [footprint]; decide) s
  | tskDisable => exact execTskDisable_within (by dsimp only [footprint]; decide) s
  | tskKick => exact execTskKick_within (by dsimp only [footprint]; decide) s
  | tskClearStats => exact execTskClearStats_within (by dsimp only [footprint]; decide) s
  | tskDescSnapshot => exact execTskDescSnapshot_within (by dsimp only [footprint]; decide) s
  | tskStateSnapshot => exact execTskStateSnapshot_within (by dsimp only [footprint]; decide) s
  | chrTimeSnapshot => exact execChrTimeSnapshot_within (by dsimp only [footprint]; decide) s
  | chrRateTrimWrite v => exact execChrRateTrimWrite_within (by dsimp only [footprint]; decide) v s
  | chrCommit => exact execChrCommit_within (by dsimp only [footprint]; decide) s
  | timeInEdge t8 => exact execTimeInEdge_within (by dsimp only [footprint]; decide) t8 s
  | ppsMissed => exact execPpsMissed_within (by dsimp only [footprint]; decide) s
  | syncFrameSend => exact execSyncFrameSend_within (by dsimp only [footprint]; decide) s
  | syncFrameReceive a b c arrival consecutive => exact execSyncFrameReceive_within (by dsimp only [footprint]; decide) a b c arrival consecutive s
  | syncPeriodMissed => exact execSyncPeriodMissed_within (by dsimp only [footprint]; decide) s
  | holdoverSecond => exact execHoldoverSecond_within (by dsimp only [footprint]; decide) s
  | lfixReqSend lane t1 => exact execLfixReqSend_within (by dsimp only [footprint]; decide) lane t1 s
  | lfixReqReceive n word t2 t3 => exact execLfixReqReceive_within (by dsimp only [footprint]; decide) n word t2 t3 s
  | lfixRespReceive lane a b t4 => exact execLfixRespReceive_within (by dsimp only [footprint]; decide) lane a b t4 s
  | linkFixFail lane => exact execLinkFixFail_within (by dsimp only [footprint]; decide) lane s
  | hubTimingPoll hub => exact execHubTimingPoll_within (by dsimp only [footprint]; decide) hub s
  | bearingStale a => exact execBearingStale_within (by dsimp only [footprint]; decide) a s
  | nodeMarkerReceive d word arrival samples => exact execNodeMarkerReceive_within (by dsimp only [footprint]; decide) d word arrival samples s
  | hubMarkerForward d up word arrival residences => exact execHubMarkerForward_within (by dsimp only [footprint]; decide) d up word arrival residences s
  | hubDownstreamForward d up arrival residence frame => exact execHubDownstreamForward_within (by dsimp only [footprint]; decide) d up arrival residence frame s
  | hubUpstreamForward d p start frame ties => exact execHubUpstreamForward_within (by dsimp only [footprint]; decide) d p start frame ties s
  | hubPortUp d p good t1 t4 turn ns frac resUp => exact execHubPortUp_within (by dsimp only [footprint]; decide) d p good t1 t4 turn ns frac resUp s
  | lnkEnable n => exact execLnkEnable_within (by dsimp only [footprint]; decide) n s
  | lnkDisable n => exact execLnkDisable_within (by dsimp only [footprint]; decide) n s
  | laneDisabled n => exact execLaneDisabled_within (by dsimp only [footprint]; decide) n s
  | laneLock n offset commas run => exact execLaneLock_within (by dsimp only [footprint]; decide) n offset commas run s
  | laneLockLoss n => exact execLaneLockLoss_within (by dsimp only [footprint]; decide) n s
  | trainReceive n word => exact execTrainReceive_within (by dsimp only [footprint]; decide) n word s
  | capsReceive n word => exact execCapsReceive_within (by dsimp only [footprint]; decide) n word s
  | legacyDetect n => exact execLegacyDetect_within (by dsimp only [footprint]; decide) n s
  | genGoReceive n word => exact execGenGoReceive_within (by dsimp only [footprint]; decide) n word s
  | genSwitchIdleEnd n => exact execGenSwitchIdleEnd_within (by dsimp only [footprint]; decide) n s
  | eqReqReceive n word => exact execEqReqReceive_within (by dsimp only [footprint]; decide) n word s
  | eqSweepDone n eyes => exact execEqSweepDone_within (by dsimp only [footprint]; decide) n eyes s
  | trainingTimeout n => exact execTrainingTimeout_within (by dsimp only [footprint]; decide) n s
  | attemptIdleEnd n => exact execAttemptIdleEnd_within (by dsimp only [footprint]; decide) n s
  | codeError n code rd => exact execCodeError_within (by dsimp only [footprint]; decide) n code rd s
  | typeError n block => exact execTypeError_within (by dsimp only [footprint]; decide) n block s
  | frameError n inside pos => exact execFrameError_within (by dsimp only [footprint]; decide) n inside pos s
  | retrainReceive n word => exact execRetrainReceive_within (by dsimp only [footprint]; decide) n word s
  | lnkRetrain n => exact execLnkRetrain_within (by dsimp only [footprint]; decide) n s
  | lnkFullRetrain n => exact execLnkFullRetrain_within (by dsimp only [footprint]; decide) n s
  | laneLost n => exact execLaneLost_within (by dsimp only [footprint]; decide) n s
  | linkOffReceive n word => exact execLinkOffReceive_within (by dsimp only [footprint]; decide) n word s
  | lnkLowPower n => exact execLnkLowPower_within (by dsimp only [footprint]; decide) n s
  | lnkWakeRemote n => exact execLnkWakeRemote_within (by dsimp only [footprint]; decide) n s
  | foghornBurst n => exact execFoghornBurst_within (by dsimp only [footprint]; decide) n s
  | foghornDetect n => exact execFoghornDetect_within (by dsimp only [footprint]; decide) n s
  | lnkSlip n => exact execLnkSlip_within (by dsimp only [footprint]; decide) n s
  | enumStart p => exact execEnumStart_within (by dsimp only [footprint]; decide) p s
  | enumRequestDone p gen legacy => exact execEnumRequestDone_within (by dsimp only [footprint]; decide) p gen legacy s
  | enumStepTimeout p => exact execEnumStepTimeout_within (by dsimp only [footprint]; decide) p s
  | treNodeWrite => exact execTreNodeWrite_within (by dsimp only [footprint]; decide) s
  | treNodeForget => exact execTreNodeForget_within (by dsimp only [footprint]; decide) s
  | treNodeQuarantine => exact execTreNodeQuarantine_within (by dsimp only [footprint]; decide) s
  | treNodeRelease => exact execTreNodeRelease_within (by dsimp only [footprint]; decide) s
  | treNodeDataSnapshot => exact execTreNodeDataSnapshot_within (by dsimp only [footprint]; decide) s
  | treEnumRetry mask => exact execTreEnumRetry_within (by dsimp only [footprint]; decide) mask s
  | reqGetDescriptor d desc pipes => exact execReqGetDescriptor_within (by dsimp only [footprint]; decide) d desc pipes s
  | reqGetStatus d => exact execReqGetStatus_within (by dsimp only [footprint]; decide) d s
  | reqClearHalt d => exact execReqClearHalt_within (by dsimp only [footprint]; decide) d s
  | reqSetAddress d => exact execReqSetAddress_within (by dsimp only [footprint]; decide) d s
  | reqSetConfig d => exact execReqSetConfig_within (by dsimp only [footprint]; decide) d s
  | reqSetBearing d => exact execReqSetBearing_within (by dsimp only [footprint]; decide) d s
  | reqSetRoute d => exact execReqSetRoute_within (by dsimp only [footprint]; decide) d s
  | reqSetPortGate d => exact execReqSetPortGate_within (by dsimp only [footprint]; decide) d s
  | reqClearPortChange d => exact execReqClearPortChange_within (by dsimp only [footprint]; decide) d s
  | reqReadTiming d => exact execReqReadTiming_within (by dsimp only [footprint]; decide) d s
  | chtEditOpen => exact execChtEditOpen_within (by dsimp only [footprint]; decide) s
  | chtEditClose => exact execChtEditClose_within (by dsimp only [footprint]; decide) s
  | shadowWrite what idx word v => exact execShadowWrite_within (by dsimp only [footprint]; decide) what idx word v s
  | safeValueWrite off v => exact execSafeValueWrite_within (by dsimp only [footprint]; decide) off v s
  | chtCommit => exact execChtCommit_within (by dsimp only [footprint]; decide) s
  | replayDone => exact execReplayDone_within (by dsimp only [footprint]; decide) s
  | chtRun run => exact execChtRun_within (by dsimp only [footprint]; decide) run s
  | admitBatch => exact execAdmitBatch_within (by dsimp only [footprint]; decide) s
  | packetSend c slot => exact execPacketSend_within (by dsimp only [footprint]; decide) c slot s
  | grantSend c slot r n room => exact execGrantSend_within (by dsimp only [footprint]; decide) c slot r n room s
  | conversationStart c => exact execConversationStart_within (by dsimp only [footprint]; decide) c s
  | dataReceive port pos frame room => exact execDataReceive_within (by dsimp only [footprint]; decide) port pos frame room s
  | handshakeReceive port pos frame => exact execHandshakeReceive_within (by dsimp only [footprint]; decide) port pos frame s
  | grantUnanswered port => exact execGrantUnanswered_within (by dsimp only [footprint]; decide) port s
  | handshakeGrantTimer c => exact execHandshakeGrantTimer_within (by dsimp only [footprint]; decide) c s
  | waitBackoffEnd c => exact execWaitBackoffEnd_within (by dsimp only [footprint]; decide) c s
  | waitTimeout c => exact execWaitTimeout_within (by dsimp only [footprint]; decide) c s
  | transferAbort c slot => exact execTransferAbort_within (by dsimp only [footprint]; decide) c slot s
  | backpressureRelease c => exact execBackpressureRelease_within (by dsimp only [footprint]; decide) c s
  | nodeGrantReceive d frame ended credit wait fresh => exact execNodeGrantReceive_within (by dsimp only [footprint]; decide) d frame ended credit wait fresh s
  | nodeDataReceive d frame => exact execNodeDataReceive_within (by dsimp only [footprint]; decide) d frame s
  | nodeSetupReceive d frame => exact execNodeSetupReceive_within (by dsimp only [footprint]; decide) d frame s
  | nodeAbortReceive d frame => exact execNodeAbortReceive_within (by dsimp only [footprint]; decide) d frame s
  | nodeHandshakeReceive d frame => exact execNodeHandshakeReceive_within (by dsimp only [footprint]; decide) d frame s
  | dmaPiCfgWrite v => exact execDmaPiCfgWrite_within (by dsimp only [footprint]; decide) v s
  | dmaPiBaseWrite hi v => exact execDmaPiBaseWrite_within (by dsimp only [footprint]; decide) hi v s
  | dmaRouteConfig reg v => exact execDmaRouteConfig_within (by dsimp only [footprint]; decide) reg v s
  | dmaChConfig c reg v => exact execDmaChConfig_within (by dsimp only [footprint]; decide) c reg v s
  | dmaChEnable c => exact execDmaChEnable_within (by dsimp only [footprint]; decide) c s
  | dmaChDisable c => exact execDmaChDisable_within (by dsimp only [footprint]; decide) c s
  | dmaChEnabled c => exact execDmaChEnabled_within (by dsimp only [footprint]; decide) c s
  | dmaChStart c => exact execDmaChStart_within (by dsimp only [footprint]; decide) c s
  | dmaChResume c => exact execDmaChResume_within (by dsimp only [footprint]; decide) c s
  | dmaChAbort c => exact execDmaChAbort_within (by dsimp only [footprint]; decide) c s
  | descriptorFetchComplete c parity => exact execDescriptorFetchComplete_within (by dsimp only [footprint]; decide) c parity s
  | burstIssue wr beats ce => exact execBurstIssue_within (by dsimp only [footprint]; decide) wr beats ce s
  | dmaDataComplete c => exact execDmaDataComplete_within (by dsimp only [footprint]; decide) c s
  | flushReadComplete c => exact execFlushReadComplete_within (by dsimp only [footprint]; decide) c s
  | dmaCompletionTimeout c how => exact execDmaCompletionTimeout_within (by dsimp only [footprint]; decide) c how s
  | sqTailDoorbell fn slot q v => exact execSqTailDoorbell_within (by dsimp only [footprint]; decide) fn slot q v s
  | cqHeadDoorbell fn slot q v => exact execCqHeadDoorbell_within (by dsimp only [footprint]; decide) fn slot q v s
  | sqFetch => exact execSqFetch_within (by dsimp only [footprint]; decide) s
  | sqEntryReadComplete sq => exact execSqEntryReadComplete_within (by dsimp only [footprint]; decide) sq s
  | sqFetchFault sq how => exact execSqFetchFault_within (by dsimp only [footprint]; decide) sq how s
  | keeperCheckDone tag => exact execKeeperCheckDone_within (by dsimp only [footprint]; decide) tag s
  | qmSqEnable => exact execQmSqEnable_within (by dsimp only [footprint]; decide) s
  | qmSqDisable => exact execQmSqDisable_within (by dsimp only [footprint]; decide) s
  | qmCqEnable => exact execQmCqEnable_within (by dsimp only [footprint]; decide) s
  | qmCqDisable => exact execQmCqDisable_within (by dsimp only [footprint]; decide) s
  | queueEnabled isCq n => exact execQueueEnabled_within (by dsimp only [footprint]; decide) isCq n s
  | queueDisabled isCq n => exact execQueueDisabled_within (by dsimp only [footprint]; decide) isCq n s
  | qmCacheInval all i => exact execQmCacheInval_within (by dsimp only [footprint]; decide) all i s
  | nop tag => exact execNop_within (by dsimp only [footprint]; decide) tag s
  | createSq tag => exact execCreateSq_within (by dsimp only [footprint]; decide) tag s
  | deleteSq tag => exact execDeleteSq_within (by dsimp only [footprint]; decide) tag s
  | createCq tag => exact execCreateCq_within (by dsimp only [footprint]; decide) tag s
  | deleteCq tag => exact execDeleteCq_within (by dsimp only [footprint]; decide) tag s
  | waitIdle tag => exact execWaitIdle_within (by dsimp only [footprint]; decide) tag s
  | waitIdleTimeout tag => exact execWaitIdleTimeout_within (by dsimp only [footprint]; decide) tag s
  | invalidate tag => exact execInvalidate_within (by dsimp only [footprint]; decide) tag s
  | abort tag => exact execAbort_within (by dsimp only [footprint]; decide) tag s
  | admitLeg tag => exact execAdmitLeg_within (by dsimp only [footprint]; decide) tag s
  | release tag => exact execRelease_within (by dsimp only [footprint]; decide) tag s
  | chartEditOpen tag => exact execChartEditOpen_within (by dsimp only [footprint]; decide) tag s
  | chartEditWriteEntry tag => exact execChartEditWriteEntry_within (by dsimp only [footprint]; decide) tag s
  | chartEditWriteSafe tag => exact execChartEditWriteSafe_within (by dsimp only [footprint]; decide) tag s
  | chartEditDiscard tag => exact execChartEditDiscard_within (by dsimp only [footprint]; decide) tag s
  | chartEditCommit tag => exact execChartEditCommit_within (by dsimp only [footprint]; decide) tag s
  | chartEditSetN tag => exact execChartEditSetN_within (by dsimp only [footprint]; decide) tag s
  | chartEditSetReserve tag => exact execChartEditSetReserve_within (by dsimp only [footprint]; decide) tag s
  | nodeOpWrite tag => exact execNodeOpWrite_within (by dsimp only [footprint]; decide) tag s
  | nodeOpForget tag => exact execNodeOpForget_within (by dsimp only [footprint]; decide) tag s
  | nodeOpQuarantine tag => exact execNodeOpQuarantine_within (by dsimp only [footprint]; decide) tag s
  | nodeOpRelease tag => exact execNodeOpRelease_within (by dsimp only [footprint]; decide) tag s
  | nodeOpRead tag => exact execNodeOpRead_within (by dsimp only [footprint]; decide) tag s
  | nodeOpEnumRetry tag => exact execNodeOpEnumRetry_within (by dsimp only [footprint]; decide) tag s
  | taskOpWrite tag => exact execTaskOpWrite_within (by dsimp only [footprint]; decide) tag s
  | taskOpEnable tag => exact execTaskOpEnable_within (by dsimp only [footprint]; decide) tag s
  | taskOpDisable tag => exact execTaskOpDisable_within (by dsimp only [footprint]; decide) tag s
  | taskOpKick tag => exact execTaskOpKick_within (by dsimp only [footprint]; decide) tag s
  | taskOpReadState tag => exact execTaskOpReadState_within (by dsimp only [footprint]; decide) tag s
  | bulkOut tag => exact execBulkOut_within (by dsimp only [footprint]; decide) tag s
  | bulkIn tag => exact execBulkIn_within (by dsimp only [footprint]; decide) tag s
  | control tag => exact execControl_within (by dsimp only [footprint]; decide) tag s
  | dma tag => exact execDma_within (by dsimp only [footprint]; decide) tag s
  | bindInstance tag => exact execBindInstance_within (by dsimp only [footprint]; decide) tag s
  | setShares tag => exact execSetShares_within (by dsimp only [footprint]; decide) tag s
  | instanceCtrlEnable tag => exact execInstanceCtrlEnable_within (by dsimp only [footprint]; decide) tag s
  | instanceCtrlDisable tag => exact execInstanceCtrlDisable_within (by dsimp only [footprint]; decide) tag s
  | instanceCtrlHold tag => exact execInstanceCtrlHold_within (by dsimp only [footprint]; decide) tag s
  | instanceCtrlUnhold tag => exact execInstanceCtrlUnhold_within (by dsimp only [footprint]; decide) tag s
  | instanceCtrlFail tag => exact execInstanceCtrlFail_within (by dsimp only [footprint]; decide) tag s
  | quiesce tag => exact execQuiesce_within (by dsimp only [footprint]; decide) tag s
  | quiesceTimeout tag => exact execQuiesceTimeout_within (by dsimp only [footprint]; decide) tag s
  | resetInstance tag => exact execResetInstance_within (by dsimp only [footprint]; decide) tag s
  | resetInstanceForce tag => exact execResetInstanceForce_within (by dsimp only [footprint]; decide) tag s
  | logbookStart tag => exact execLogbookStart_within (by dsimp only [footprint]; decide) tag s
  | logbookSync tag => exact execLogbookSync_within (by dsimp only [footprint]; decide) tag s
  | logbookStop tag => exact execLogbookStop_within (by dsimp only [footprint]; decide) tag s
  | readInstance tag => exact execReadInstance_within (by dsimp only [footprint]; decide) tag s
  | insEnable => exact execInsEnable_within (by dsimp only [footprint]; decide) s
  | insDisable => exact execInsDisable_within (by dsimp only [footprint]; decide) s
  | insHoldWrite v => exact execInsHoldWrite_within (by dsimp only [footprint]; decide) v s
  | insFail => exact execInsFail_within (by dsimp only [footprint]; decide) s
  | insBindWrite reg v => exact execInsBindWrite_within (by dsimp only [footprint]; decide) reg v s
  | instanceEnabled i => exact execInstanceEnabled_within (by dsimp only [footprint]; decide) i s
  | instanceQuiesced i => exact execInstanceQuiesced_within (by dsimp only [footprint]; decide) i s
  | busMasterDisable fn => exact execBusMasterDisable_within (by dsimp only [footprint]; decide) fn s
  | vfFlr fn => exact execVfFlr_within (by dsimp only [footprint]; decide) fn s
  | icuClaim t => exact execIcuClaim_within (by dsimp only [footprint]; decide) t s
  | icuComplete t src noCause => exact execIcuComplete_within (by dsimp only [footprint]; decide) t src noCause s
  | icuSrcCfgWrite src v => exact execIcuSrcCfgWrite_within (by dsimp only [footprint]; decide) src v s
  | icuMaskWrite w v => exact execIcuMaskWrite_within (by dsimp only [footprint]; decide) w v s
  | icuTimerArm t lo => exact execIcuTimerArm_within (by dsimp only [footprint]; decide) t lo s
  | icuTimerFire t => exact execIcuTimerFire_within (by dsimp only [footprint]; decide) t s
  | icuSoftSet v => exact execIcuSoftSet_within (by dsimp only [footprint]; decide) v s
  | icuLevelChange src level => exact execIcuLevelChange_within (by dsimp only [footprint]; decide) src level s
  | icuEdge src => exact execIcuEdge_within (by dsimp only [footprint]; decide) src s
  | hicVectorTimer fn vec => exact execHicVectorTimer_within (by dsimp only [footprint]; decide) fn vec s
  | hicFlush => exact execHicFlush_within (by dsimp only [footprint]; decide) s
  | msixUnmask fn vec whole => exact execMsixUnmask_within (by dsimp only [footprint]; decide) fn vec whole s
  | hicInsCfgWrite err v => exact execHicInsCfgWrite_within (by dsimp only [footprint]; decide) err v s
  | pwcGetCaps p levels => exact execPwcGetCaps_within (by dsimp only [footprint]; decide) p levels s
  | pwcRequest p levels => exact execPwcRequest_within (by dsimp only [footprint]; decide) p levels s
  | pwcAckReceive e begin levels => exact execPwcAckReceive_within (by dsimp only [footprint]; decide) e begin levels s
  | pwcAckTimeout e => exact execPwcAckTimeout_within (by dsimp only [footprint]; decide) e s
  | pwcKeepAlive p levels => exact execPwcKeepAlive_within (by dsimp only [footprint]; decide) p levels s
  | pwcBeat p tenths => exact execPwcBeat_within (by dsimp only [footprint]; decide) p tenths s
  | pwcSwapReq p levels => exact execPwcSwapReq_within (by dsimp only [footprint]; decide) p levels s
  | pwcLocalReady p levels => exact execPwcLocalReady_within (by dsimp only [footprint]; decide) p levels s
  | pwcReduceAnswer p levels => exact execPwcReduceAnswer_within (by dsimp only [footprint]; decide) p levels s
  | pwcCaps d levels ask => exact execPwcCaps_within (by dsimp only [footprint]; decide) d levels ask s
  | pwcAccept d levels => exact execPwcAccept_within (by dsimp only [footprint]; decide) d levels s
  | pwcPsReady d levels arm => exact execPwcPsReady_within (by dsimp only [footprint]; decide) d levels arm s
  | pwcReduce d levels => exact execPwcReduce_within (by dsimp only [footprint]; decide) d levels s
  | pwcPing d levels => exact execPwcPing_within (by dsimp only [footprint]; decide) d levels s
  | pwcFastSwapLow p tenths => exact execPwcFastSwapLow_within (by dsimp only [footprint]; decide) p tenths s
  | pwcStuck p => exact execPwcStuck_within (by dsimp only [footprint]; decide) p s
  | voutPoll p vout iout => exact execVoutPoll_within (by dsimp only [footprint]; decide) p vout iout s
  | transitionTimeout p => exact execTransitionTimeout_within (by dsimp only [footprint]; decide) p s
  | contractExpiry p => exact execContractExpiry_within (by dsimp only [footprint]; decide) p s
  | reduceTimeout p => exact execReduceTimeout_within (by dsimp only [footprint]; decide) p s
  | swappingTimeout p => exact execSwappingTimeout_within (by dsimp only [footprint]; decide) p s
  | pfaultAssert low words => exact execPfaultAssert_within (by dsimp only [footprint]; decide) low words s
  | pwcSilence p => exact execPwcSilence_within (by dsimp only [footprint]; decide) p s
  | pingTimeout p => exact execPingTimeout_within (by dsimp only [footprint]; decide) p s
  | rearmExpiry p => exact execRearmExpiry_within (by dsimp only [footprint]; decide) p s
  | pmbusTimeout target => exact execPmbusTimeout_within (by dsimp only [footprint]; decide) target s
  | cpwEnable p => exact execCpwEnable_within (by dsimp only [footprint]; decide) p s
  | cpwDisable p => exact execCpwDisable_within (by dsimp only [footprint]; decide) p s
  | cpwEnabled p => exact execCpwEnabled_within (by dsimp only [footprint]; decide) p s
  | cpwDischarged p => exact execCpwDischarged_within (by dsimp only [footprint]; decide) p s
  | cpwForceDefault p => exact execCpwForceDefault_within (by dsimp only [footprint]; decide) p s
  | powerPortEnable tag => exact execPowerPortEnable_within (by dsimp only [footprint]; decide) tag s
  | powerPortDisable tag => exact execPowerPortDisable_within (by dsimp only [footprint]; decide) tag s
  | powerPortForceDefault tag => exact execPowerPortForceDefault_within (by dsimp only [footprint]; decide) tag s
  | powerPortReduce tag => exact execPowerPortReduce_within (by dsimp only [footprint]; decide) tag s
  | powerPortSetLimit tag => exact execPowerPortSetLimit_within (by dsimp only [footprint]; decide) tag s
  | powerBudget tag => exact execPowerBudget_within (by dsimp only [footprint]; decide) tag s
  | powerRead tag => exact execPowerRead_within (by dsimp only [footprint]; decide) tag s
  | powerStateS1 tag => exact execPowerStateS1_within (by dsimp only [footprint]; decide) tag s
  | powerStateS2 tag => exact execPowerStateS2_within (by dsimp only [footprint]; decide) tag s
  | powerStateS3 tag => exact execPowerStateS3_within (by dsimp only [footprint]; decide) tag s
  | pwrStateCtrlS0 => exact execPwrStateCtrlS0_within (by dsimp only [footprint]; decide) s
  | pwrStateCtrlS1 => exact execPwrStateCtrlS1_within (by dsimp only [footprint]; decide) s
  | pwrStateCtrlS2 => exact execPwrStateCtrlS2_within (by dsimp only [footprint]; decide) s
  | pwrStateCtrlS3 => exact execPwrStateCtrlS3_within (by dsimp only [footprint]; decide) s
  | entryIdleReached => exact execEntryIdleReached_within (by dsimp only [footprint]; decide) s
  | entryIdleTimeout => exact execEntryIdleTimeout_within (by dsimp only [footprint]; decide) s
  | entryReversionsDone => exact execEntryReversionsDone_within (by dsimp only [footprint]; decide) s
  | pmeTurnOff => exact execPmeTurnOff_within (by dsimp only [footprint]; decide) s
  | linkWaitTimeout => exact execLinkWaitTimeout_within (by dsimp only [footprint]; decide) s
  | s1HostWrite => exact execS1HostWrite_within (by dsimp only [footprint]; decide) s
  | wakeDeclare cause index => exact execWakeDeclare_within (by dsimp only [footprint]; decide) cause index s
  | wakeStepDone zeroOk => exact execWakeStepDone_within (by dsimp only [footprint]; decide) zeroOk s
  | wakeStepTimeout => exact execWakeStepTimeout_within (by dsimp only [footprint]; decide) s
  | wakeRetryWait => exact execWakeRetryWait_within (by dsimp only [footprint]; decide) s
  | pwrPadRelease v => exact execPwrPadRelease_within (by dsimp only [footprint]; decide) v s
  | pwrDomCtrl v => exact execPwrDomCtrl_within (by dsimp only [footprint]; decide) v s
  | domainIdleOff d => exact execDomainIdleOff_within (by dsimp only [footprint]; decide) d s
  | offDomainAccess tcm write off v => exact execOffDomainAccess_within (by dsimp only [footprint]; decide) tcm write off v s
  | domainGood d => exact execDomainGood_within (by dsimp only [footprint]; decide) d s
  | domainGoodTimeout d => exact execDomainGoodTimeout_within (by dsimp only [footprint]; decide) d s
  | pwrOpVsel v => exact execPwrOpVsel_within (by dsimp only [footprint]; decide) v s
  | pwrOpCommit => exact execPwrOpCommit_within (by dsimp only [footprint]; decide) s
  | voltageConfirm rail v1 v2 => exact execVoltageConfirm_within (by dsimp only [footprint]; decide) rail v1 v2 s
  | voltageTimeout => exact execVoltageTimeout_within (by dsimp only [footprint]; decide) s
  | operatingPoint tag => exact execOperatingPoint_within (by dsimp only [footprint]; decide) tag s
  | domainOn tag => exact execDomainOn_within (by dsimp only [footprint]; decide) tag s
  | domainOff tag => exact execDomainOff_within (by dsimp only [footprint]; decide) tag s
  | domainAutoOn tag => exact execDomainAutoOn_within (by dsimp only [footprint]; decide) tag s
  | domainAutoOff tag => exact execDomainAutoOff_within (by dsimp only [footprint]; decide) tag s
  | pairCtrlEnable v => exact execPairCtrlEnable_within (by dsimp only [footprint]; decide) v s
  | pairRoleEnable tag => exact execPairRoleEnable_within (by dsimp only [footprint]; decide) tag s
  | pairRoleDisable tag => exact execPairRoleDisable_within (by dsimp only [footprint]; decide) tag s
  | pairRoleSwap tag => exact execPairRoleSwap_within (by dsimp only [footprint]; decide) tag s
  | mbeaconReceive word arrival => exact execMbeaconReceive_within (by dsimp only [footprint]; decide) word arrival s
  | mclaimReceive a b consecutive => exact execMclaimReceive_within (by dsimp only [footprint]; decide) a b consecutive s
  | claimSendTimer => exact execClaimSendTimer_within (by dsimp only [footprint]; decide) s
  | electTimeout => exact execElectTimeout_within (by dsimp only [footprint]; decide) s
  | mirrorFrameSend slot => exact execMirrorFrameSend_within (by dsimp only [footprint]; decide) slot s
  | mirrorFrameReceive bytes => exact execMirrorFrameReceive_within (by dsimp only [footprint]; decide) bytes s
  | roleInEdge t => exact execRoleInEdge_within (by dsimp only [footprint]; decide) t s
  | takeoverCheck => exact execTakeoverCheck_within (by dsimp only [footprint]; decide) s
  | takeover => exact execTakeover_within (by dsimp only [footprint]; decide) s
  | orphanTimeout => exact execOrphanTimeout_within (by dsimp only [footprint]; decide) s
  | mirrorDownTimeout => exact execMirrorDownTimeout_within (by dsimp only [footprint]; decide) s
  | handoverTimeout => exact execHandoverTimeout_within (by dsimp only [footprint]; decide) s
  | powerOnReset straps => exact execPowerOnReset_within (by dsimp only [footprint]; decide) straps s
  | resetPin => exact execResetPin_within (by dsimp only [footprint]; decide) s
  | perstAssert => exact execPerstAssert_within (by dsimp only [footprint]; decide) s
  | nvmWarmReset => exact execNvmWarmReset_within (by dsimp only [footprint]; decide) s
  | resetEnd straps => exact execResetEnd_within (by dsimp only [footprint]; decide) straps s
  | keeperBoot answers sizeMib => exact execKeeperBoot_within (by dsimp only [footprint]; decide) answers sizeMib s
  | slotVerified answers => exact execSlotVerified_within (by dsimp only [footprint]; decide) answers s
  | sectionApplied answers => exact execSectionApplied_within (by dsimp only [footprint]; decide) answers s
  | haltPinLow => exact execHaltPinLow_within (by dsimp only [footprint]; decide) s
  | haltAssert v => exact execHaltAssert_within (by dsimp only [footprint]; decide) v s
  | haltClear => exact execHaltClear_within (by dsimp only [footprint]; decide) s
  | nvmHostAttach v => exact execNvmHostAttach_within (by dsimp only [footprint]; decide) v s
  | wdtKick v => exact execWdtKick_within (by dsimp only [footprint]; decide) v s
  | wdtExpiry => exact execWdtExpiry_within (by dsimp only [footprint]; decide) s
  | pcieConfigReady => exact execPcieConfigReady_within (by dsimp only [footprint]; decide) s
  | keyWrite tag => exact execKeyWrite_within (by dsimp only [footprint]; decide) tag s
  | keySelect tag => exact execKeySelect_within (by dsimp only [footprint]; decide) tag s
  | keyRevoke tag => exact execKeyRevoke_within (by dsimp only [footprint]; decide) tag s
  | svnAdvance tag => exact execSvnAdvance_within (by dsimp only [footprint]; decide) tag s
  | flashWrite tag => exact execFlashWrite_within (by dsimp only [footprint]; decide) tag s
  | imageVerify tag => exact execImageVerify_within (by dsimp only [footprint]; decide) tag s
  | imageActivate tag => exact execImageActivate_within (by dsimp only [footprint]; decide) tag s
  | imageActivateReset => exact execImageActivateReset_within (by dsimp only [footprint]; decide) s
  | lifeCycle tag => exact execLifeCycle_within (by dsimp only [footprint]; decide) tag s
  | lifeCycleApply => exact execLifeCycleApply_within (by dsimp only [footprint]; decide) s
  | zeroize tag => exact execZeroize_within (by dsimp only [footprint]; decide) tag s
  | zeroizeApply => exact execZeroizeApply_within (by dsimp only [footprint]; decide) s
  | counterRead tag => exact execCounterRead_within (by dsimp only [footprint]; decide) tag s
  | journalWriteDone ok => exact execJournalWriteDone_within (by dsimp only [footprint]; decide) ok s
  | lockoutExpiry i => exact execLockoutExpiry_within (by dsimp only [footprint]; decide) i s
  | secCritExtraAdd v => exact execSecCritExtraAdd_within (by dsimp only [footprint]; decide) v s
  | wearWindowStart => exact execWearWindowStart_within (by dsimp only [footprint]; decide) s
  | ageMeasure kind unit value => exact execAgeMeasure_within (by dsimp only [footprint]; decide) kind unit value s
  | swapAtQuiesce kind unit row => exact execSwapAtQuiesce_within (by dsimp only [footprint]; decide) kind unit row s
  | helmSwapDone h reload => exact execHelmSwapDone_within (by dsimp only [footprint]; decide) h reload s
  | rowRepairDone array row => exact execRowRepairDone_within (by dsimp only [footprint]; decide) array row s
  | repairBurn readback => exact execRepairBurn_within (by dsimp only [footprint]; decide) readback s
  | almanacSaveTimer => exact execAlmanacSaveTimer_within (by dsimp only [footprint]; decide) s
  | recordWriteDone ok => exact execRecordWriteDone_within (by dsimp only [footprint]; decide) ok s
  | almSwap tag => exact execAlmSwap_within (by dsimp only [footprint]; decide) tag s
  | almBurn tag => exact execAlmBurn_within (by dsimp only [footprint]; decide) tag s
  | almRead tag => exact execAlmRead_within (by dsimp only [footprint]; decide) tag s
  | almSave tag => exact execAlmSave_within (by dsimp only [footprint]; decide) tag s
  | pfFlr => exact execPfFlr_within (by dsimp only [footprint]; decide) s
  | vfEnableClear => exact execVfEnableClear_within (by dsimp only [footprint]; decide) s
  | poisonedWrite fn => exact execPoisonedWrite_within (by dsimp only [footprint]; decide) fn s
  | barBadAccess fn read => exact execBarBadAccess_within (by dsimp only [footprint]; decide) fn read s
  | viewErrCauseWrite fn slot v => exact execViewErrCauseWrite_within (by dsimp only [footprint]; decide) fn slot v s
  | bearingAsymWrite a v => exact execBearingAsymWrite_within (by dsimp only [footprint]; decide) a v s
  | registerWrite origin space write off v => exact execRegisterWrite_within (by dsimp only [footprint]; decide) origin space write off v s
  | nodeLegReceive d frame => exact execNodeLegReceive_within (by dsimp only [footprint]; decide) d frame s
  | hubLinkFix d p good t1 t4 turn ns frac => exact execHubLinkFix_within (by dsimp only [footprint]; decide) d p good t1 t4 turn ns frac s
  | auxLinkFix lane t1 => exact execAuxLinkFix_within (by dsimp only [footprint]; decide) lane t1 s
  | sinkSupplyFail d => exact execSinkSupplyFail_within (by dsimp only [footprint]; decide) d s
  | sinkVbusChange d present => exact execSinkVbusChange_within (by dsimp only [footprint]; decide) d present s
  | sinkKeepAliveTimer d => exact execSinkKeepAliveTimer_within (by dsimp only [footprint]; decide) d s
  | sinkBeatTimer d => exact execSinkBeatTimer_within (by dsimp only [footprint]; decide) d s
  | pwcReject d levels => exact execPwcReject_within (by dsimp only [footprint]; decide) d levels s
  | nodePipeHalt d pipe => exact execNodePipeHalt_within (by dsimp only [footprint]; decide) d pipe s
  | hubOvertemp d => exact execHubOvertemp_within (by dsimp only [footprint]; decide) d s
  | pmbusTransactionDone target ack value => exact execPmbusTransactionDone_within (by dsimp only [footprint]; decide) target ack value s
  | flashOperationDone => exact execFlashOperationDone_within (by dsimp only [footprint]; decide) s
  | flashBusyTimeout => exact execFlashBusyTimeout_within (by dsimp only [footprint]; decide) s
  | otpProgramDone readback => exact execOtpProgramDone_within (by dsimp only [footprint]; decide) readback s
  | bulkDataReadFault tag => exact execBulkDataReadFault_within (by dsimp only [footprint]; decide) tag s
  | laneSignalChange n signal => exact execLaneSignalChange_within (by dsimp only [footprint]; decide) n signal s
  | pcieLinkStateChange up speed width => exact execPcieLinkStateChange_within (by dsimp only [footprint]; decide) up speed width s
  | configSpaceWrite fn off write be v => exact execConfigSpaceWrite_within (by dsimp only [footprint]; decide) fn off write be v s

end Sys2Proof.Machine
end

