-- ==== Sys2Proof/Laws/MemoryForm.lean ====
section
/-! SUPPORT. The canonical form of a memory, as the test `Memory.wf` says it: every memory operation keeps it, and the memories after reset
have it. -/

namespace Sys2Proof.Machine

theorem memory_wf_iff (m : List Host.Cell) : Memory.wf m = true ↔ Sparse.Canonical memDefault m := Sparse.canonical_iff m

/-- A write of bytes keeps the form. -/
theorem memory_wf_writeBytes (m : List Host.Cell) (a : Nat) (bs : List Byte) (h : Memory.wf m = true) :
    Memory.wf (writeBytes memDefault m a bs) = true :=
  (memory_wf_iff _).2 (canonical_writeBytes m a bs ((memory_wf_iff _).1 h))

/-- Programming OTP bytes keeps the form. -/
theorem memory_wf_otpProgram (m : List Host.Cell) (a : Nat) (bs : List Byte) (h : Memory.wf m = true) :
    Memory.wf (otpProgram m a bs) = true :=
  (memory_wf_iff _).2 (canonical_otpProgram m a bs ((memory_wf_iff _).1 h))

/-- Forgetting bytes keeps the form. -/
theorem memory_wf_filter (m : List Host.Cell) (p : Host.Cell → Bool) (h : Memory.wf m = true) : Memory.wf (m.filter p) = true :=
  (memory_wf_iff _).2 (Sparse.canonical_filter p ((memory_wf_iff _).1 h))

/-- Host memory and the OTP array after reset have the form. -/
theorem memory_wf_reset : Memory.wf State.reset.host = true ∧ Memory.wf State.reset.otp = true := by decide

end Sys2Proof.Machine
end

