-- ==== Sys2Proof/Tests/Slice0.lean ====
section
/-! SUPPORT. Tests: ill-formed commands that the check refuses, the premises of the statements met by concrete states, and single commands on small
states with results worked out from the rules. -/

namespace Sys2Proof.Machine

set_option linter.unusedVariables false
set_option Elab.async false

/-- The machine after reset with some register fields set. -/
def st (l : List (Field × Nat × Nat)) : State := (forP l fun e => putN e.1 e.2.1 e.2.2).run State.reset


/-- The payload of a block of a claim pair. -/
def claimWord (id kind i : Nat) : Nat := match (mclaim id kind).getD i (.k 0) with
  | .block _ w => w
  | _ => 0

/-- The bytes of an SQ entry: (offset, length, value) over zeros. -/
def entry (n : Nat) (l : List (Nat × Nat × Nat)) : List Byte :=
  l.foldl (fun bs e => bs.take e.1 ++ toBytes e.2.2 e.2.1 ++ bs.drop (e.1 + e.2.1)) (List.replicate n 0)

/-- A fetched command of SQ 0 of I0 with an opcode and fields. -/
def cmdOf (op : Nat) (l : List (Nat × Nat × Nat)) : Cmd :=
  { sq := 0, ins := 0, head := 1, bytes := entry 64 ((0, 1, op) :: (2, 2, 0x1234) :: l), stage := .ready }

/-- A state in which the command 7 has been fetched, with an open CQ 0 of I0 at 0x10000. -/
def qst (c : Cmd) (l : List (Field × Nat × Nat)) : State :=
  { st ([(Fld.QM_CQ_STATUS.FUNC_STATE, 0, 2), (Fld.QM_SQ_STATUS.FUNC_STATE, 0, 2), (Fld.INS_STATUS.FUNC_STATE, 0, 2),
      (Fld.QM_CQ_BASE_LO.BASE_LO, 0, 16), (Fld.QM_TAGS.USED, 0, 1), (Fld.QM_INS_STATUS.TAGS_USED, 0, 1),
      (Fld.QM_SQ_STATUS.OUTSTANDING, 0, 1)] ++ l) with
    q := { sqTaken := [0], cqTaken := [0], cmds := [(7, c)], nextTag := 8 }, fns := [(0, { bme := true })] }

/-- The body of a critical entry of opcode COUNTER_READ whose COUNTER is n. -/
def kBody (n : Nat) : List Byte := entry 72 [(0, 1, 0x39), (64, 8, n)]

/-- That entry with the TAG that the key 07 00 00 ... gives it, waiting for the Keeper. -/
def kCmd (n : Nat) : Cmd :=
  { cmdOf 0x39 [] with
    bytes := kBody n ++ (hmac256 (7 :: List.replicate 31 0) (kBody n)).take 16, stage := .keeper }

/-- A state in which it waits, command key 0 being active, with a floor and a ceiling. -/
def kState (n floor ceiling : Nat) : State :=
  { st [(Fld.SEC_COUNTER_LO.FLOOR_LO, 0, floor), (Fld.SEC_CEILING_LO.CEIL_LO, 0, ceiling), (Fld.QM_CQ_STATUS.FUNC_STATE, 0, 2)] with
    q := { sqTaken := [0], cqTaken := [0], cmds := [(7, kCmd n)], nextTag := 8 }, fns := [(0, { bme := true })]
    otp := [(0x10, 1), (0x11, 2), (0x140, 7)] }

/-- Its TAG matches wherever key 0 is that key and is active. -/
theorem kTag (s : State) (h : s.activeKey = some 0) (hk : s.keyBytes 0 0 = 7 :: List.replicate 31 0) : s.tagMatches (kCmd 5) = true := by
  have hl : (kBody 5).length = 72 := by decide +kernel
  simp [State.tagMatches, h, hk, kCmd, hl]

/-- A flash with a good descriptor, a slot A at 0x10000 and two sections in its header. -/
def flashA : List Host.Cell :=
  let d := entry 60 [(0, 4, 0x44425349), (4, 4, 0x10000), (8, 4, 0x10000)]
  writeBytes flashDefault (writeBytes flashDefault [] 0 (d ++ toBytes (crc32c d) 4)) 0x10000
    (entry 16 [(0, 4, 0x46475349), (4, 2, 0x100), (6, 2, 2)])

/-- That flash with an empty section 1 of type 7. -/
def flashB : List Host.Cell := writeBytes flashDefault flashA 0x10140 (entry 16 [(0, 1, 7)] ++ sha256 [] ++ List.replicate 16 0)

/-- The premises of StepRunsTheFrontCommand can be met. -/
theorem test_premises_step_runs_the_front_command :
    (∃ (c : Instr) (s : State) (rest : List Instr), (s.pending = c :: rest)) :=
  ⟨.nop 0, { pending := [.nop 0] }, [], rfl⟩

/-- The premises of AnEmptyQueueLetsASlotPass can be met. -/
theorem test_premises_an_empty_queue_lets_a_slot_pass :
    (∃ (s : State), (s.pending = [])) :=
  ⟨State.reset, by decide +kernel⟩

/-- The premises of EveryStepKeepsTheCanonicalForm can be met. -/
theorem test_premises_every_step_keeps_the_canonical_form :
    (∃ (s t : State), (Canonical s) ∧ (step s = .next t)) :=
  ⟨{ pending := [.nop 0] }, { pending := [] }, ⟨⟨Sparse.canonical_nil, Sparse.canonical_nil, Sparse.canonical_nil, Sparse.canonical_nil, Sparse.canonical_nil, Sparse.canonical_nil, Sparse.canonical_nil, Sparse.canonical_nil, Sparse.canonical_nil, Sparse.canonical_nil⟩, rfl⟩⟩

/-- The premises of NoStepClearsAnOtpBit can be met. -/
theorem test_premises_no_step_clears_an_otp_bit :
    (∃ (s t : State), (step s = .next t)) :=
  ⟨{ pending := [.nop 0] }, { pending := [] }, rfl⟩

/-- The premises of EveryCommandChangesOnlyItsFootprint can be met. -/
theorem test_premises_every_command_changes_only_its_footprint :
    (∃ (c : Instr) (s t : State) (p : Part), (exec c s = .next t) ∧ (p ∉ footprint c)) :=
  ⟨.nop 0, {}, {}, .chart, ⟨rfl, by decide⟩⟩

/-- The premises of AnOffsetWithNoRegisterReadsZero can be met. -/
theorem test_premises_an_offset_with_no_register_reads_zero :
    (∃ (off v : Nat) (s : State), (s.pstate = 0) ∧ ((s.fn 0).mse = true) ∧ ((s.fn 0).dstate = 0) ∧ (off % 4 = 0) ∧ (off < 0x40000) ∧ (off < 0x21000 ∨ 0x22000 ≤ off) ∧ (s.regAt off = none) ∧ (∀ d ∈ offsetDomain off, s.domGood d = true)) ∧
    (∃ (off v : Nat) (s : State), (s.pstate = 0) ∧ ((s.fn 0).mse = true) ∧ ((s.fn 0).dstate = 0) ∧ (off % 4 = 0) ∧ (off < 0x40000) ∧ (off < 0x21000 ∨ 0x22000 ≤ off) ∧ (s.regAt off = none) ∧ (∀ d ∈ offsetDomain off, s.domGood d = true) ∧ (s.loading = false)) ∧
    (∃ (off v : Nat) (s : State), (s.pstate ≤ 1) ∧ (off % 4 = 0) ∧ (off < 0x40000) ∧ (off < 0x21000 ∨ 0x22000 ≤ off) ∧ (s.regAt off = none) ∧ (∀ d ∈ offsetDomain off, s.domGood d = true)) ∧
    (∃ (off v : Nat) (s : State), (s.pstate ≤ 1) ∧ (s.bit Fld.NVM_CTRL.HOST_ATTACH = false) ∧ (off % 4 = 0) ∧ (off < 0x40000) ∧ (off < 0x21000 ∨ 0x22000 ≤ off) ∧ (s.regAt off = none) ∧ (∀ d ∈ offsetDomain off, s.domGood d = true)) ∧
    (∃ (off v : Nat) (s : State), (s.pstate = 0) ∧ ((s.fn 0).mse = true) ∧ ((s.fn 0).dstate = 0) ∧ (off % 4 = 0) ∧ (0xE0400 ≤ off) ∧ (off < 0xF0000)) ∧
    (∃ (off v : Nat) (s : State), (s.pstate = 0) ∧ ((s.fn 0).mse = true) ∧ ((s.fn 0).dstate = 0) ∧ (off % 4 = 0) ∧ (0xE0400 ≤ off) ∧ (off < 0xF0000) ∧ (s.loading = false)) :=
  ⟨⟨0x0FFC, 5, { st [(Fld.NVM_STATUS.STATE, 0, 2)] with fns := [(0, { mse := true })] }, by decide +kernel⟩,
   ⟨0x0FFC, 5, { st [(Fld.NVM_STATUS.STATE, 0, 2)] with fns := [(0, { mse := true })] }, by decide +kernel⟩,
   ⟨0x2FFFC, 5, { st [(Fld.NVM_STATUS.STATE, 0, 2)] with fns := [(0, { mse := true })] }, by decide +kernel⟩,
   ⟨0x2FFFC, 5, { st [(Fld.NVM_STATUS.STATE, 0, 2)] with fns := [(0, { mse := true })] }, by decide +kernel⟩,
   ⟨0xE0400, 5, { st [(Fld.NVM_STATUS.STATE, 0, 2)] with fns := [(0, { mse := true })] }, by decide +kernel⟩,
   ⟨0xEFFFC, 5, { st [(Fld.NVM_STATUS.STATE, 0, 2)] with fns := [(0, { mse := true })] }, by decide +kernel⟩⟩

/-- The premises of TheScratchKeepsItsContents can be met. -/
theorem test_premises_the_scratch_keeps_its_contents :
    (∃ (off v k : Nat) (s : State), (s.pstate = 0) ∧ ((s.fn 0).mse = true) ∧ ((s.fn 0).dstate = 0) ∧ (off % 4 = 0) ∧ (0x21000 ≤ off) ∧ (off < 0x22000) ∧ (s.loading = false) ∧ (k ≠ (off - 0x21000) / 4)) ∧
    (∃ (off v : Nat) (s : State), (s.pstate = 0) ∧ ((s.fn 0).mse = true) ∧ ((s.fn 0).dstate = 0) ∧ (off % 4 = 0) ∧ (0x21000 ≤ off) ∧ (off < 0x22000)) ∧
    (∃ (e : Nat) (s : State), (s.sec.zeroAt = some e) ∧ (s.reaches e = true) ∧ (s.sec.flashOp = none)) ∧
    (∃ (e g : Nat) (s : State), (s.sec.lifeAt = some (e, g)) ∧ (s.reaches e = true) ∧ (s.sec.flashOp = none)) :=
  ⟨⟨0x21008, 5, 0, { st [(Fld.NVM_STATUS.STATE, 0, 2)] with fns := [(0, { mse := true })] }, by decide +kernel⟩,
   ⟨0x21008, 5, { st [(Fld.NVM_STATUS.STATE, 0, 2)] with fns := [(0, { mse := true })] }, by decide +kernel⟩,
   ⟨5, { State.reset with sec := { zeroAt := some 5 }, pwr := { scratch := [(3, 4)] } }, by decide +kernel⟩,
   ⟨5, 2, { State.reset with sec := { lifeAt := some (5, 2) }, pwr := { scratch := [(3, 4)] } }, by decide +kernel⟩⟩

/-- The premises of ClaimAndCompleteOfATarget can be met. -/
theorem test_premises_claim_and_complete_of_a_target :
    (∃ (k src : Nat) (s : State), (k ≤ 18) ∧ (s.icuBest (s.icuEligibleList k) = some src)) ∧
    (∃ (k : Nat) (s : State), (k ≤ 18) ∧ (s.icuBest (s.icuEligibleList k) = none)) ∧
    (∃ (k src : Nat) (noCause : Bool) (s : State), (k ≤ 18) ∧ (src < 1024) ∧ (s.icuInService src = true) ∧ (s.fld Fld.ICU_SRC_CFG.TARGET src = k)) ∧
    (∃ (k src : Nat) (noCause : Bool) (s : State), (k ≤ 18) ∧ (src < 1024) ∧ (s.icuInService src = false ∨ s.fld Fld.ICU_SRC_CFG.TARGET src ≠ k)) :=
  ⟨⟨3, 170, st [(Fld.ICU_PEND.PEND, 5, 2 ^ 10), (Fld.ICU_MASK.MASK, 5, 0), (Fld.ICU_SRC_CFG.PRIO, 170, 4), (Fld.ICU_SRC_CFG.TARGET, 170, 3)], by decide +kernel⟩,
   ⟨18, State.reset, by decide +kernel⟩,
   ⟨3, 200, true, st [(Fld.ICU_INSERV.INSERV, 6, 2 ^ 8), (Fld.ICU_SRC_CFG.TARGET, 200, 3)], by decide +kernel⟩,
   ⟨0, 1023, false, State.reset, by decide +kernel⟩⟩

/-- The premises of SourcesOfTheIcuAreSetMaskedAndTimed can be met. -/
theorem test_premises_sources_of_the_icu_are_set_masked_and_timed :
    (∃ (w v : Nat) (s : State), (w < 32)) ∧
    (∃ (src v : Nat) (s : State), (src < 1024) ∧ (s.icuMasked src = true) ∧ (s.icuInService src = false)) ∧
    (∃ (src v : Nat) (s : State), (src < 1024) ∧ (s.icuMasked src = false ∨ s.icuInService src = true) ∧ (bitsAt v 4 5 ≠ s.fld Fld.ICU_SRC_CFG.TARGET src)) ∧
    (∃ (k lo : Nat) (s : State), (k ≤ 18) ∧ (s.chron < s.fld Fld.ICU_TIMER_HI.CMP_HI k * 2 ^ 32 + lo % 2 ^ 32) ∧ (s.bit Fld.ICU_REQ.ARMED k = false ∨ s.chron < tget 0 s.icu.armed k)) ∧
    (∃ (k : Nat) (s : State), (k ≤ 18) ∧ (s.bit Fld.ICU_REQ.ARMED k = true) ∧ (tget 0 s.icu.armed k ≤ s.chron) ∧ (s.fld Fld.ICU_SRC_CFG.COAL_LOG (130 + k) = 0)) ∧
    (∃ (src : Nat) (s : State), (icuSource src = true) ∧ (s.icuEdgeSensed src = true) ∧ (src < 1024) ∧ (s.fld Fld.ICU_SRC_CFG.COAL_LOG src = 0) ∧ (s.icuPending src = false)) ∧
    (∃ (src : Nat) (s : State), (icuSource src = true) ∧ (s.icuEdgeSensed src = true) ∧ (s.fld Fld.ICU_SRC_CFG.COAL_LOG src = 0) ∧ (s.icuPending src = true)) ∧
    (∃ (src : Nat) (s : State), (icuSource src = true) ∧ (s.icuEdgeSensed src = true) ∧ (tget 0 s.icu.coal src + 1 < 2 ^ s.fld Fld.ICU_SRC_CFG.COAL_LOG src)) ∧
    (∃ (b : Nat) (s : State), (b < 32) ∧ (s.fld Fld.ICU_SRC_CFG.COAL_LOG (160 + b) = 0)) ∧
    (∃ (src : Nat) (level : Bool) (s : State), (200 ≤ src) ∧ (src ≤ 207) ∧ (s.fld Fld.ICU_SRC_CFG.SENSE src < 2) ∧ (s.icuInService src = false)) :=
  ⟨⟨31, 0xFFFF0000, State.reset, by decide +kernel⟩,
   ⟨300, 0xB0004235, State.reset, by decide +kernel⟩,
   ⟨170, 0x85, st [(Fld.ICU_MASK.MASK, 5, 0)], by decide +kernel⟩,
   ⟨0, 77, State.reset, by decide +kernel⟩,
   ⟨18, st [(Fld.ICU_REQ.ARMED, 18, 1)], by decide +kernel⟩,
   ⟨300, State.reset, by decide +kernel⟩,
   ⟨160, st [(Fld.ICU_PEND.PEND, 5, 1)], by decide +kernel⟩,
   ⟨160, st [(Fld.ICU_SRC_CFG.COAL_LOG, 160, 2)], by decide +kernel⟩,
   ⟨31, State.reset, by decide +kernel⟩,
   ⟨207, true, State.reset, by decide +kernel⟩⟩

/-- The premises of HostVectorsFireAndUnmask can be met. -/
theorem test_premises_host_vectors_fire_and_unmask :
    (∃ (fn vec : Nat) (s : State), (vec < 2048) ∧ (s.bit Fld.HIC_VEC_STATUS.TIMER_RUN (vecKey fn vec) = true) ∧ (s.reaches (tget 0 s.icu.vecAt (vecKey fn vec) + 256 * s.coalTime (vecKey fn vec)) = true) ∧ ((s.msixRow (vecKey fn vec)).masked = false) ∧ ((s.fn fn).msixMask = false) ∧ ((s.fn fn).dstate = 0)) ∧
    (∃ (s : State), (s.fld Fld.HIC_VEC_STATUS.EVENTS s.vecIndex ≠ 0) ∧ ((s.msixRow s.vecIndex).masked = true)) ∧
    (∃ (fn vec : Nat) (s : State), (vec < 2048) ∧ (s.bit Fld.HIC_VEC_STATUS.MSG_PENDING (vecKey fn vec) = true) ∧ ((s.fn fn).msixMask = false) ∧ ((s.fn fn).dstate = 0)) ∧
    (∃ (v : Nat) (s : State), (s.fld Fld.INS_STATUS.FUNC_STATE (s.fld Fld.HIC_INS_INDEX.INSTANCE) = Fn.off) ∧ (s.vecInRange (s.fld Fld.HIC_INS_INDEX.INSTANCE) (bitsAt v 0 11) = true) ∧ (s.vecInRange (s.fld Fld.HIC_INS_INDEX.INSTANCE) (bitsAt v 16 11) = true)) ∧
    (∃ (err : Bool) (v : Nat) (s : State), (s.fld Fld.INS_STATUS.FUNC_STATE (s.fld Fld.HIC_INS_INDEX.INSTANCE) = Fn.off) ∧ (s.vecInRange (s.fld Fld.HIC_INS_INDEX.INSTANCE) (bitsAt v 0 11) = false)) :=
  ⟨⟨0, 5, { st [(Fld.HIC_VEC_STATUS.TIMER_RUN, 5, 1), (Fld.HIC_VEC_STATUS.EVENTS, 5, 3)] with icu := { msix := [(5, { addr := 0x1000, data := 9, masked := false })] } }, by decide +kernel⟩,
   ⟨st [(Fld.HIC_VEC_STATUS.EVENTS, 0, 3)], by decide +kernel⟩,
   ⟨1, 2, { st [(Fld.HIC_VEC_STATUS.MSG_PENDING, 2050, 1)] with icu := { msix := [(2050, { addr := 0x2000, data := 1 })] } }, by decide +kernel⟩,
   ⟨0x00010801, st [(Fld.HIC_INS_INDEX.INSTANCE, 0, 4), (Fld.INS_VEC.VEC_COUNT, 4, 2)], by decide +kernel⟩,
   ⟨true, 9, st [(Fld.HIC_INS_INDEX.INSTANCE, 0, 4)], by decide +kernel⟩⟩

/-- The premises of DoorbellsAndFetchingMoveTheQueues can be met. -/
theorem test_premises_doorbells_and_fetching_move_the_queues :
    (∃ (fn slot q v i n : Nat) (s : State), (s.memOn fn = true) ∧ ((s.fn fn).dstate = 0) ∧ (s.pstate ≠ 1) ∧ (s.loading = false) ∧ (s.pageOwner fn slot = some i) ∧ (s.sqOf i q = some n) ∧ (s.fld Fld.QM_SQ_STATUS.FUNC_STATE n = Fn.on) ∧ (v % 65536 < 2 * s.sqSize n) ∧ (s.sqCount n ≤ (v % 65536 + 2 * s.sqSize n - s.fld Fld.QM_SQ_INDICES.HEAD n) % (2 * s.sqSize n)) ∧ ((v % 65536 + 2 * s.sqSize n - s.fld Fld.QM_SQ_INDICES.HEAD n) % (2 * s.sqSize n) ≤ s.sqSize n)) ∧
    (∃ (fn slot q v i n : Nat) (s : State), (s.memOn fn = true) ∧ ((s.fn fn).dstate = 0) ∧ (s.pstate ≠ 1) ∧ (s.loading = false) ∧ (s.pageOwner fn slot = some i) ∧ (s.sqOf i q = some n) ∧ (s.fld Fld.QM_SQ_STATUS.FUNC_STATE n = Fn.on) ∧ (2 * s.sqSize n ≤ v % 65536)) ∧
    (∃ (fn slot q v i n : Nat) (s : State), (s.memOn fn = true) ∧ ((s.fn fn).dstate = 0) ∧ (s.pstate ≠ 1) ∧ (s.loading = false) ∧ (s.pageOwner fn slot = some i) ∧ (s.cqOf i q = some n) ∧ (s.fld Fld.QM_CQ_STATUS.FUNC_STATE n = Fn.on ∨ s.fld Fld.QM_CQ_STATUS.FUNC_STATE n = Fn.disabling) ∧ (v % 65536 < 2 * s.cqSize n) ∧ ((v % 65536 + 2 * s.cqSize n - s.fld Fld.QM_CQ_INDICES.HEAD n) % (2 * s.cqSize n) ≤ s.cqCount n)) ∧
    (∃ (fn slot q v i n : Nat) (s : State), (s.memOn fn = true) ∧ ((s.fn fn).dstate = 0) ∧ (s.pstate ≠ 1) ∧ (s.loading = false) ∧ (s.pageOwner fn slot = some i) ∧ (s.cqOf i q = some n) ∧ (s.fld Fld.QM_CQ_STATUS.FUNC_STATE n = Fn.on ∨ s.fld Fld.QM_CQ_STATUS.FUNC_STATE n = Fn.disabling) ∧ (2 * s.cqSize n ≤ v % 65536)) ∧
    (∃ (fn slot q v : Nat) (s : State), (s.memOn fn = true) ∧ ((s.fn fn).dstate = 0) ∧ (s.pstate ≠ 1) ∧ (s.loading = false) ∧ (s.pageOwner fn slot = none)) ∧
    (∃ (n : Nat) (s : State), (s.sqFirst ((s.q.sqTaken.filter s.sqReady).filter fun m => s.sqBound m == 0) = some n) ∧ (s.requestFree (s.insFn (s.fld Fld.QM_SQ_CFG.OWNER n)) = true)) ∧
    (∃ (n : Nat) (s : State), (s.q.sqTaken.filter s.sqReady = [n]) ∧ (s.sqBound n = 2) ∧ (s.fld Fld.QM_SQ_STATUS.PAUSE n = 0)) ∧
    (∃ (n : Nat) (c : Cmd) (s : State), (s.q.fetching.contains n = true) ∧ (s.fld Fld.QM_SQ_STATUS.FUNC_STATE n = Fn.on) ∧ (s.sqCount n ≠ 0) ∧ (bitAt (ofBytes ((s.sqEntry n (s.fld Fld.QM_SQ_INDICES.HEAD n)).take 2)) 8 = false) ∧ (c = { sq := n, ins := s.fld Fld.QM_SQ_CFG.OWNER n, head := (s.fld Fld.QM_SQ_INDICES.HEAD n + 1) % (2 * s.sqSize n), bytes := s.sqEntry n (s.fld Fld.QM_SQ_INDICES.HEAD n), stage := .ready }) ∧ (s.checkEntry c = .ready)) ∧
    (∃ (n k : Nat) (s : State), (s.q.fetching.contains n = true) ∧ (s.fld Fld.QM_SQ_STATUS.FUNC_STATE n = Fn.on) ∧ (s.sqCount n ≠ 0) ∧ (bitAt (ofBytes ((s.sqEntry n (s.fld Fld.QM_SQ_INDICES.HEAD n)).take 2)) 8 = false) ∧ (s.checkEntry { sq := n, ins := s.fld Fld.QM_SQ_CFG.OWNER n, head := (s.fld Fld.QM_SQ_INDICES.HEAD n + 1) % (2 * s.sqSize n), bytes := s.sqEntry n (s.fld Fld.QM_SQ_INDICES.HEAD n), stage := .ready } = .fail k)) ∧
    (∃ (n how : Nat) (s : State), (s.q.fetching.contains n = true) ∧ (s.fld Fld.QM_SQ_STATUS.FUNC_STATE n ≠ Fn.error)) :=
  ⟨⟨0, 0, 0, 5, 0, 0, { st [(Fld.NVM_STATUS.STATE, 0, 2), (Fld.INS_STATUS.FUNC_STATE, 0, 2), (Fld.QM_SQ_STATUS.FUNC_STATE, 0, 2), (Fld.QM_CQ_STATUS.FUNC_STATE, 0, 2)] with q := { sqTaken := [0], cqTaken := [0] }, fns := [(0, { mse := true, bme := true })] }, by decide +kernel⟩,
   ⟨0, 0, 0, 32, 0, 0, { st [(Fld.NVM_STATUS.STATE, 0, 2), (Fld.INS_STATUS.FUNC_STATE, 0, 2), (Fld.QM_SQ_STATUS.FUNC_STATE, 0, 2), (Fld.QM_CQ_STATUS.FUNC_STATE, 0, 2)] with q := { sqTaken := [0], cqTaken := [0] }, fns := [(0, { mse := true, bme := true })] }, by decide +kernel⟩,
   ⟨0, 0, 0, 3, 0, 0, { st [(Fld.NVM_STATUS.STATE, 0, 2), (Fld.INS_STATUS.FUNC_STATE, 0, 2), (Fld.QM_SQ_STATUS.FUNC_STATE, 0, 2), (Fld.QM_CQ_STATUS.FUNC_STATE, 0, 2), (Fld.QM_CQ_INDICES.TAIL, 0, 3)] with q := { sqTaken := [0], cqTaken := [0] }, fns := [(0, { mse := true, bme := true })] }, by decide +kernel⟩,
   ⟨0, 0, 0, 40, 0, 0, { st [(Fld.NVM_STATUS.STATE, 0, 2), (Fld.INS_STATUS.FUNC_STATE, 0, 2), (Fld.QM_SQ_STATUS.FUNC_STATE, 0, 2), (Fld.QM_CQ_STATUS.FUNC_STATE, 0, 2)] with q := { sqTaken := [0], cqTaken := [0] }, fns := [(0, { mse := true, bme := true })] }, by decide +kernel⟩,
   ⟨0, 3, 0, 5, { st [(Fld.NVM_STATUS.STATE, 0, 2), (Fld.INS_STATUS.FUNC_STATE, 0, 2), (Fld.QM_SQ_STATUS.FUNC_STATE, 0, 2), (Fld.QM_CQ_STATUS.FUNC_STATE, 0, 2)] with q := { sqTaken := [0], cqTaken := [0] }, fns := [(0, { mse := true, bme := true })] }, by decide +kernel⟩,
   ⟨0, { st [(Fld.NVM_STATUS.STATE, 0, 2), (Fld.INS_STATUS.FUNC_STATE, 0, 2), (Fld.QM_SQ_STATUS.FUNC_STATE, 0, 2), (Fld.QM_CQ_STATUS.FUNC_STATE, 0, 2), (Fld.QM_SQ_INDICES.TAIL, 0, 1), (Fld.QM_CTRL.FETCH_EN, 0, 1), (Fld.INS_SHARE_TAG.TAG_SHARE, 0, 5)] with q := { sqTaken := [0], cqTaken := [0] }, fns := [(0, { mse := true, bme := true })] }, by decide +kernel⟩,
   ⟨0, { st [(Fld.NVM_STATUS.STATE, 0, 2), (Fld.INS_STATUS.FUNC_STATE, 0, 2), (Fld.QM_SQ_STATUS.FUNC_STATE, 0, 2), (Fld.QM_CQ_STATUS.FUNC_STATE, 0, 2), (Fld.QM_SQ_INDICES.TAIL, 0, 1), (Fld.QM_CTRL.FETCH_EN, 0, 1), (Fld.INS_SHARE_TAG.TAG_SHARE, 0, 0)] with q := { sqTaken := [0], cqTaken := [0] }, fns := [(0, { mse := true, bme := true })] }, by decide +kernel⟩,
   ⟨0, { sq := 0, ins := 0, head := 1, bytes := List.replicate 64 0, stage := .ready }, { st [(Fld.NVM_STATUS.STATE, 0, 2), (Fld.INS_STATUS.FUNC_STATE, 0, 2), (Fld.QM_SQ_STATUS.FUNC_STATE, 0, 2), (Fld.QM_CQ_STATUS.FUNC_STATE, 0, 2), (Fld.QM_SQ_INDICES.TAIL, 0, 1)] with q := { sqTaken := [0], cqTaken := [0], fetching := [0] }, fns := [(0, { mse := true, bme := true })] }, by decide +kernel⟩,
   ⟨0, 0x13, { { st [(Fld.NVM_STATUS.STATE, 0, 2), (Fld.INS_STATUS.FUNC_STATE, 0, 2), (Fld.QM_SQ_STATUS.FUNC_STATE, 0, 2), (Fld.QM_CQ_STATUS.FUNC_STATE, 0, 2), (Fld.QM_SQ_INDICES.TAIL, 0, 1), (Fld.QM_SQ_BASE_LO.BASE_LO, 0, 16)] with q := { sqTaken := [0], cqTaken := [0], fetching := [0] }, fns := [(0, { mse := true, bme := true })] } with host := [(0x10000, 0xFF)] }, by decide +kernel⟩,
   ⟨0, 1, { st [(Fld.NVM_STATUS.STATE, 0, 2), (Fld.INS_STATUS.FUNC_STATE, 0, 2), (Fld.QM_SQ_STATUS.FUNC_STATE, 0, 2), (Fld.QM_CQ_STATUS.FUNC_STATE, 0, 2)] with q := { sqTaken := [0], cqTaken := [0], fetching := [0] }, fns := [(0, { mse := true, bme := true })] }, by decide +kernel⟩⟩

/-- The premises of QueuesAreEnabledAndDisabled can be met. -/
theorem test_premises_queues_are_enabled_and_disabled :
    (∃ (n : Nat) (s : State), (n = s.fld Fld.QM_SQ_INDEX.SQ) ∧ (s.fld Fld.QM_SQ_STATUS.FUNC_STATE n = Fn.off) ∧ (s.sqRefused n = false)) ∧
    (∃ (n : Nat) (s : State), (n = s.fld Fld.QM_SQ_INDEX.SQ) ∧ (s.fld Fld.QM_SQ_STATUS.FUNC_STATE n = Fn.off) ∧ (s.sqRefused n = true)) ∧
    (∃ (n : Nat) (s : State), (n = s.fld Fld.QM_SQ_INDEX.SQ) ∧ (s.fld Fld.QM_SQ_STATUS.FUNC_STATE n = Fn.on)) ∧
    (∃ (n : Nat) (s : State), (n = s.fld Fld.QM_CQ_INDEX.CQ) ∧ (s.fld Fld.QM_CQ_STATUS.FUNC_STATE n = Fn.off) ∧ (s.cqRefused n = false)) ∧
    (∃ (n : Nat) (s : State), (n = s.fld Fld.QM_CQ_INDEX.CQ) ∧ (s.fld Fld.QM_CQ_STATUS.FUNC_STATE n = Fn.on) ∧ (s.cqBound n = false)) ∧
    (∃ (n : Nat) (s : State), (n = s.fld Fld.QM_CQ_INDEX.CQ) ∧ (s.fld Fld.QM_CQ_STATUS.FUNC_STATE n = Fn.on) ∧ (s.cqBound n = true)) ∧
    (∃ (n : Nat) (s : State), (s.fld Fld.QM_SQ_STATUS.FUNC_STATE n = Fn.enabling)) ∧
    (∃ (n : Nat) (s : State), (s.fld Fld.QM_CQ_STATUS.FUNC_STATE n = Fn.enabling) ∧ (s.waiting 0x03 n = []) ∧ (s.fld Fld.QM_CQ_CFG.Q n ≠ 0)) ∧
    (∃ (n : Nat) (s : State), (s.fld Fld.QM_SQ_STATUS.FUNC_STATE n = Fn.disabling) ∧ (∀ e ∈ s.q.cmds, e.2.sq ≠ n) ∧ (s.bit Fld.QM_SQ_STATUS.PENDING_ENABLE n = false)) ∧
    (∃ (n : Nat) (s : State), (s.fld Fld.QM_CQ_STATUS.FUNC_STATE n = Fn.disabling) ∧ (s.heldFor n = 0) ∧ (s.cqBound n = false) ∧ (s.bit Fld.QM_CQ_STATUS.PENDING_ENABLE n = false)) :=
  ⟨⟨3, { st [(Fld.QM_SQ_INDEX.SQ, 0, 3), (Fld.QM_SQ_CFG.Q, 3, 1), (Fld.QM_CQ_STATUS.FUNC_STATE, 0, 2), (Fld.INS_STATUS.FUNC_STATE, 0, 2)] with q := { cqTaken := [0] } }, by decide +kernel⟩,
   ⟨0, st [(Fld.INS_STATUS.FUNC_STATE, 0, 0)], by decide +kernel⟩,
   ⟨0, { st [(Fld.NVM_STATUS.STATE, 0, 2), (Fld.INS_STATUS.FUNC_STATE, 0, 2), (Fld.QM_SQ_STATUS.FUNC_STATE, 0, 2), (Fld.QM_CQ_STATUS.FUNC_STATE, 0, 2)] with q := { sqTaken := [0], cqTaken := [0] }, fns := [(0, { mse := true, bme := true })] }, by decide +kernel⟩,
   ⟨3, st [(Fld.QM_CQ_INDEX.CQ, 0, 3), (Fld.INS_STATUS.FUNC_STATE, 0, 2), (Fld.INS_VEC.VEC_COUNT, 0, 1)], by decide +kernel⟩,
   ⟨0, { { st [(Fld.NVM_STATUS.STATE, 0, 2), (Fld.INS_STATUS.FUNC_STATE, 0, 2), (Fld.QM_SQ_STATUS.FUNC_STATE, 0, 2), (Fld.QM_CQ_STATUS.FUNC_STATE, 0, 2)] with q := { sqTaken := [0], cqTaken := [0] }, fns := [(0, { mse := true, bme := true })] } with q := { cqTaken := [0] } }, by decide +kernel⟩,
   ⟨0, { st [(Fld.NVM_STATUS.STATE, 0, 2), (Fld.INS_STATUS.FUNC_STATE, 0, 2), (Fld.QM_SQ_STATUS.FUNC_STATE, 0, 2), (Fld.QM_CQ_STATUS.FUNC_STATE, 0, 2)] with q := { sqTaken := [0], cqTaken := [0] }, fns := [(0, { mse := true, bme := true })] }, by decide +kernel⟩,
   ⟨2, st [(Fld.QM_SQ_STATUS.FUNC_STATE, 2, 1), (Fld.QM_SQ_INDICES.HEAD, 2, 9)], by decide +kernel⟩,
   ⟨2, st [(Fld.QM_CQ_STATUS.FUNC_STATE, 2, 1), (Fld.QM_CQ_CFG.Q, 2, 7)], by decide +kernel⟩,
   ⟨0, { st [(Fld.NVM_STATUS.STATE, 0, 2), (Fld.INS_STATUS.FUNC_STATE, 0, 2), (Fld.QM_SQ_STATUS.FUNC_STATE, 0, 2), (Fld.QM_CQ_STATUS.FUNC_STATE, 0, 2), (Fld.QM_SQ_STATUS.FUNC_STATE, 0, 3)] with q := { sqTaken := [0], cqTaken := [0] }, fns := [(0, { mse := true, bme := true })] }, by decide +kernel⟩,
   ⟨0, { st [(Fld.NVM_STATUS.STATE, 0, 2), (Fld.INS_STATUS.FUNC_STATE, 0, 2), (Fld.QM_SQ_STATUS.FUNC_STATE, 0, 2), (Fld.QM_CQ_STATUS.FUNC_STATE, 0, 2), (Fld.QM_CQ_STATUS.FUNC_STATE, 0, 3)] with q := { cqTaken := [0] }, fns := [(0, { mse := true, bme := true })] }, by decide +kernel⟩⟩

/-- The premises of QueueManagementCommands can be met. -/
theorem test_premises_queue_management_commands :
    (∃ (tag : Nat) (s : State) (c : Cmd), (s.startable tag 0x00 = some c) ∧ (s.takesCompletion c = true)) ∧
    (∃ (tag : Nat) (s : State) (c : Cmd) (d n : Nat), (s.startable tag 0x01 = some c) ∧ (c.at 4 1 ≠ 0) ∧ (4 ≤ bitsAt (c.at 6 1) 0 4) ∧ (c.at 8 8 % 4096 = 0) ∧ (s.cqOf c.ins (c.at 5 1) = some d) ∧ (s.fld Fld.QM_CQ_STATUS.FUNC_STATE d = Fn.on) ∧ (s.sqOf c.ins (c.at 4 1) = none) ∧ (freeContext s.q.sqTaken = some n)) ∧
    (∃ (tag : Nat) (s : State) (c : Cmd) (n : Nat), (s.startable tag 0x02 = some c) ∧ (c.at 4 1 ≠ 0) ∧ (s.sqOf c.ins (c.at 4 1) = some n) ∧ (s.fld Fld.QM_SQ_STATUS.FUNC_STATE n = Fn.on)) ∧
    (∃ (tag : Nat) (s : State) (c : Cmd) (n : Nat), (s.startable tag 0x03 = some c) ∧ (c.at 4 1 ≠ 0) ∧ (4 ≤ bitsAt (c.at 6 1) 0 4) ∧ (c.at 8 8 % 4096 = 0) ∧ (s.vecInRange c.ins (c.at 16 2) = true) ∧ (c.at 16 2 ≤ 2047) ∧ (s.cqOf c.ins (c.at 4 1) = none) ∧ (freeContext s.q.cqTaken = some n)) ∧
    (∃ (tag : Nat) (s : State) (c : Cmd) (n : Nat), (s.startable tag 0x04 = some c) ∧ (c.at 4 1 ≠ 0) ∧ (s.cqOf c.ins (c.at 4 1) = some n) ∧ (s.cqBound n = false) ∧ (s.fld Fld.QM_CQ_STATUS.FUNC_STATE n = Fn.on)) ∧
    (∃ (tag : Nat) (s : State) (c : Cmd), (s.startable tag 0x05 = some c) ∧ (s.outstanding (c.at 4 2) tag = 0) ∧ (s.heldOf (c.at 4 2) = 0) ∧ (s.takesCompletion c = true)) ∧
    (∃ (tag : Nat) (s : State) (c : Cmd), (s.startable tag 0x05 = some c) ∧ (s.outstanding (c.at 4 2) tag ≠ 0 ∨ s.heldOf (c.at 4 2) ≠ 0)) ∧
    (∃ (tag : Nat) (c : Cmd) (s : State), (s.cmd tag = some c) ∧ (c.opcode = 0x05) ∧ (c.stage = .running) ∧ (c.at 8 4 ≠ 0) ∧ (s.takesCompletion c = true) ∧ (s.reaches (c.progress + c.at 8 4 * 1000000) = true)) ∧
    (∃ (tag : Nat) (s : State) (c : Cmd), (s.startable tag 0x06 = some c) ∧ (c.at 4 1 ≠ 0) ∧ (s.takesCompletion c = true)) ∧
    (∃ (tag : Nat) (s : State) (c : Cmd), (s.startable tag 0x06 = some c) ∧ (c.at 4 1 = 0) ∧ (s.takesCompletion c = true)) :=
  ⟨⟨7, qst (cmdOf 0 []) [], cmdOf 0 [], by decide +kernel⟩,
   ⟨7, qst (cmdOf 1 [(4, 1, 3), (6, 1, 5), (8, 8, 0x123456000)]) [], cmdOf 1 [(4, 1, 3), (6, 1, 5), (8, 8, 0x123456000)], 0, 1, by decide +kernel⟩,
   ⟨7, (let s := qst (cmdOf 2 [(4, 1, 3)]) [(Fld.QM_SQ_STATUS.FUNC_STATE, 1, 2), (Fld.QM_SQ_CFG.Q, 1, 3)]; { s with q := { s.q with sqTaken := [0, 1] } }), cmdOf 2 [(4, 1, 3)], 1, by decide +kernel⟩,
   ⟨7, qst (cmdOf 3 [(4, 1, 3), (6, 1, 5), (8, 8, 0x123456000), (16, 2, 1)]) [(Fld.INS_VEC.VEC_COUNT, 0, 2)], cmdOf 3 [(4, 1, 3), (6, 1, 5), (8, 8, 0x123456000), (16, 2, 1)], 1, by decide +kernel⟩,
   ⟨7, (let s := qst (cmdOf 4 [(4, 1, 3)]) [(Fld.QM_CQ_STATUS.FUNC_STATE, 1, 2), (Fld.QM_CQ_CFG.Q, 1, 3)]; { s with q := { s.q with cqTaken := [0, 1] } }), cmdOf 4 [(4, 1, 3)], 1, by decide +kernel⟩,
   ⟨7, qst (cmdOf 5 []) [], cmdOf 5 [], by decide +kernel⟩,
   ⟨7, (let s := qst (cmdOf 5 []) []; { s with q := { s.q with cmds := s.q.cmds ++ [(3, { cmdOf 0x80 [] with stage := .running })] } }), cmdOf 5 [], by decide +kernel⟩,
   ⟨7, { cmdOf 5 [(8, 4, 100)] with stage := .running }, qst { cmdOf 5 [(8, 4, 100)] with stage := .running } [], by decide +kernel⟩,
   ⟨7, qst (cmdOf 6 [(4, 1, 1)]) [], cmdOf 6 [(4, 1, 1)], by decide +kernel⟩,
   ⟨7, qst (cmdOf 6 [(8, 8, 0x100)]) [], cmdOf 6 [(8, 8, 0x100)], by decide +kernel⟩⟩

/-- The premises of TheShadowIsEditedAndCommitted can be met. -/
theorem test_premises_the_shadow_is_edited_and_committed :
    (∃ (s : State), (s.bit Fld.CHT_STATUS.PENDING = false) ∧ (s.bit Fld.CHT_STATUS.REPLAYING = false) ∧ (s.bit Fld.CHT_STATUS.SHADOW_VALID = true)) ∧
    (∃ (s : State), (s.bit Fld.CHT_STATUS.PENDING = false) ∧ (s.bit Fld.CHT_STATUS.REPLAYING = false) ∧ (s.bit Fld.CHT_STATUS.SHADOW_VALID = false)) ∧
    (∃ (s : State), (s.bit Fld.CHT_STATUS.PENDING = false) ∧ (s.bit Fld.CHT_STATUS.REPLAYING = false)) ∧
    (∃ (s : State), (s.bit Fld.CHT_STATUS.PENDING = true) ∧ (s.bit Fld.CHT_STATUS.REPLAYING = false) ∧ (s.bit Fld.CHT_CTRL.EDIT_OPEN = false)) ∧
    (∃ (s : State), (s.bit Fld.CHT_STATUS.PENDING = false) ∧ (s.bit Fld.CHT_STATUS.REPLAYING = false) ∧ (s.bit Fld.CHT_CTRL.EDIT_OPEN = true)) ∧
    (∃ (s : State), (s.bit Fld.CHT_STATUS.REPLAYING = true) ∧ (s.reaches s.chart.replayEnd = true)) ∧
    (∃ (s : State), (s.bit Fld.CHT_STATUS.RUNNING = false) ∧ (s.chr.runDue = false) ∧ (s.standby = false) ∧ (s.bit Fld.CHR_CTRL.MERID_ALIGN = false) ∧ (s.chr.wakeFix = false ∨ s.linksFixed = true)) ∧
    (∃ (s : State), (s.standby = false)) ∧
    (∃ (idx word v : Nat) (s : State), (s.bit Fld.CHT_CTRL.EDIT_OPEN = true) ∧ (s.bit Fld.CHT_STATUS.PENDING = false) ∧ (s.bit Fld.CHT_STATUS.REPLAYING = false) ∧ (idx < 16384) ∧ (word < 4)) ∧
    (∃ (idx word v : Nat) (s : State), (s.bit Fld.CHT_CTRL.EDIT_OPEN = true) ∧ (s.bit Fld.CHT_STATUS.PENDING = false) ∧ (s.bit Fld.CHT_STATUS.REPLAYING = false)) ∧
    (∃ (idx word v : Nat) (s : State), (s.bit Fld.CHT_CTRL.EDIT_OPEN = true) ∧ (s.bit Fld.CHT_STATUS.PENDING = false) ∧ (s.bit Fld.CHT_STATUS.REPLAYING = false) ∧ (idx < 16)) ∧
    (∃ (idx word v : Nat) (s : State), (s.bit Fld.CHT_CTRL.EDIT_OPEN = false) ∧ (s.bit Fld.CHT_STATUS.PENDING = false) ∧ (s.bit Fld.CHT_STATUS.REPLAYING = false)) ∧
    (∃ (off v i : Nat) (s : State), (s.bit Fld.CHT_CTRL.EDIT_OPEN = true) ∧ (s.bit Fld.CHT_STATUS.PENDING = false) ∧ (s.bit Fld.CHT_STATUS.REPLAYING = false) ∧ (i = s.fld Fld.GBL_WIN_SAFE.ENTRY) ∧ (s.bit Fld.GBL_WIN_SAFE.BANK = false) ∧ (off % 4 = 0) ∧ (off + 4 ≤ 1024) ∧ (off < (s.shadowEntry i).payload)) :=
  ⟨⟨st [(Fld.CHT_STATUS.SHADOW_VALID, 0, 1)], by decide +kernel⟩,
   ⟨st [(Fld.CHT_STATUS.SHADOW_VALID, 0, 0)], by decide +kernel⟩,
   ⟨State.reset, by decide +kernel⟩,
   ⟨st [(Fld.CHT_STATUS.PENDING, 0, 1)], by decide +kernel⟩,
   ⟨st [(Fld.CHT_CTRL.EDIT_OPEN, 0, 1), (Fld.CHT_TICK_LEN.N, 0, 100)], by decide +kernel⟩,
   ⟨{ st [(Fld.CHT_STATUS.REPLAYING, 0, 1)] with chart := { bankA := [(3, { valid := true })] } }, by decide +kernel⟩,
   ⟨State.reset, by decide +kernel⟩,
   ⟨State.reset, by decide +kernel⟩,
   ⟨5, 1, 0x80001001, st [(Fld.CHT_CTRL.EDIT_OPEN, 0, 1)], by decide +kernel⟩,
   ⟨0, 0, 63, st [(Fld.CHT_CTRL.EDIT_OPEN, 0, 1)], by decide +kernel⟩,
   ⟨15, 0, 30, st [(Fld.CHT_CTRL.EDIT_OPEN, 0, 1)], by decide +kernel⟩,
   ⟨5, 1, 9, State.reset, by decide +kernel⟩,
   ⟨4, 0x11223344, 0, { st [(Fld.CHT_CTRL.EDIT_OPEN, 0, 1)] with chart := { bankB := [(0, { payload := 7 })] } }, by decide +kernel⟩⟩

/-- The premises of ChartEditAndAdmissionCommands can be met. -/
theorem test_premises_chart_edit_and_admission_commands :
    (∃ (tag : Nat) (s : State) (c : Cmd), (s.startable tag 0x12 = some c) ∧ (c.at 4 1 = 0) ∧ (s.bit Fld.CHT_STATUS.PENDING = false) ∧ (s.bit Fld.CHT_STATUS.REPLAYING = false) ∧ (s.takesCompletion c = true)) ∧
    (∃ (tag : Nat) (s : State) (c : Cmd), (s.startable tag 0x12 = some c) ∧ (c.at 4 1 = 3) ∧ (s.bit Fld.CHT_CTRL.EDIT_OPEN = true) ∧ (s.bit Fld.CHT_STATUS.PENDING = false) ∧ (s.bit Fld.CHT_STATUS.REPLAYING = false) ∧ (s.takesCompletion c = true)) ∧
    (∃ (tag : Nat) (s : State) (c : Cmd), (s.startable tag 0x12 = some c) ∧ (c.at 4 1 = 1) ∧ (c.at 8 2 < 16384) ∧ (s.bit Fld.CHT_CTRL.EDIT_OPEN = true) ∧ (s.bit Fld.CHT_STATUS.PENDING = false) ∧ (s.bit Fld.CHT_STATUS.REPLAYING = false) ∧ (s.takesCompletion c = true)) ∧
    (∃ (tag : Nat) (s : State) (c : Cmd), (s.startable tag 0x12 = some c) ∧ (c.at 4 1 = 1) ∧ (c.at 8 2 < 16384) ∧ (s.bit Fld.CHT_CTRL.EDIT_OPEN = false) ∧ (s.bit Fld.CHT_STATUS.PENDING = false) ∧ (s.bit Fld.CHT_STATUS.REPLAYING = false) ∧ (s.takesCompletion c = true)) ∧
    (∃ (tag : Nat) (s : State) (c : Cmd), (s.startable tag 0x12 = some c) ∧ (c.at 4 1 = 2) ∧ (c.at 8 2 < 16384) ∧ (s.canIssue (s.insFn c.ins) = true) ∧ (s.bit Fld.CHT_CTRL.EDIT_OPEN = true) ∧ (s.bit Fld.CHT_STATUS.PENDING = false) ∧ (s.bit Fld.CHT_STATUS.REPLAYING = false) ∧ (s.takesCompletion c = true)) ∧
    (∃ (tag : Nat) (s : State) (c : Cmd), (s.startable tag 0x12 = some c) ∧ (c.at 4 1 = 5) ∧ (c.at 12 2 < 2 ^ 15) ∧ (s.bit Fld.CHT_CTRL.EDIT_OPEN = true) ∧ (s.bit Fld.CHT_STATUS.PENDING = false) ∧ (s.bit Fld.CHT_STATUS.REPLAYING = false) ∧ (s.takesCompletion c = true)) ∧
    (∃ (tag : Nat) (s : State) (c : Cmd), (s.startable tag 0x12 = some c) ∧ (c.at 4 1 = 6) ∧ (c.at 5 1 < 16) ∧ (c.at 6 1 < 128) ∧ (s.bit Fld.CHT_CTRL.EDIT_OPEN = true) ∧ (s.bit Fld.CHT_STATUS.PENDING = false) ∧ (s.bit Fld.CHT_STATUS.REPLAYING = false) ∧ (s.takesCompletion c = true)) ∧
    (∃ (tag : Nat) (s : State) (c : Cmd), (s.startable tag 0x12 = some c) ∧ (c.at 4 1 = 4) ∧ (s.bit Fld.CHT_STATUS.SHADOW_VALID = true) ∧ (s.bit Fld.CHT_STATUS.PENDING = false) ∧ (s.bit Fld.CHT_STATUS.REPLAYING = false)) ∧
    (∃ (tag : Nat) (s : State) (c : Cmd), (s.startable tag 0x12 = some c) ∧ (c.at 4 1 = 4) ∧ (s.bit Fld.CHT_STATUS.SHADOW_VALID = false) ∧ (s.chart.admitBatch = []) ∧ (s.bit Fld.CHT_STATUS.PENDING = false) ∧ (s.bit Fld.CHT_STATUS.REPLAYING = false) ∧ (s.takesCompletion c = true)) ∧
    (∃ (tag : Nat) (s : State) (c : Cmd), (s.startable tag 0x12 = some c) ∧ (c.at 4 1 = 5) ∧ (s.bit Fld.CHT_STATUS.PENDING = true) ∧ (s.bit Fld.CHT_STATUS.REPLAYING = false) ∧ (s.takesCompletion c = true)) ∧
    (∃ (tag : Nat) (s : State) (c : Cmd), (s.startable tag 0x10 = some c) ∧ (c.at 40 8 = 0 ∨ s.canIssue (s.insFn c.ins) = true)) ∧
    (∃ (tag : Nat) (s : State) (c : Cmd), (s.startable tag 0x10 = some c) ∧ (c.at 40 8 ≠ 0) ∧ (s.canIssue (s.insFn c.ins) = false) ∧ (s.takesCompletion c = true)) ∧
    (∃ (tag : Nat) (s : State) (c : Cmd), (s.startable tag 0x11 = some c)) ∧
    (∃ (tag : Nat) (c : Cmd) (s : State), (s.bit Fld.CHT_CTRL.ADMIT_EN = true) ∧ (s.bit Fld.CHT_CTRL.EDIT_OPEN = false) ∧ (s.bit Fld.CHT_STATUS.PENDING = false) ∧ (s.bit Fld.CHT_STATUS.REPLAYING = false) ∧ (s.chart.admitWait = [tag]) ∧ (s.chart.admitBatch = []) ∧ (tag < 2 ^ 40) ∧ (s.cmd tag = some c) ∧ (c.opcode = 0x11) ∧ ((s.shadowEntry (c.at 8 2)).valid = true) ∧ ((s.shadowEntry (c.at 8 2)).owner = c.ins)) :=
  ⟨⟨7, qst (cmdOf 0x12 [(4, 1, 0)]) [], cmdOf 0x12 [(4, 1, 0)], by decide +kernel⟩,
   ⟨7, qst (cmdOf 0x12 [(4, 1, 3)]) [(Fld.CHT_CTRL.EDIT_OPEN, 0, 1)], cmdOf 0x12 [(4, 1, 3)], by decide +kernel⟩,
   ⟨7, qst (cmdOf 0x12 [(4, 1, 1), (8, 2, 9), (16, 4, 0x00020003), (20, 4, 0x80001001)]) [(Fld.CHT_CTRL.EDIT_OPEN, 0, 1)], cmdOf 0x12 [(4, 1, 1), (8, 2, 9), (16, 4, 0x00020003), (20, 4, 0x80001001)], by decide +kernel⟩,
   ⟨7, qst (cmdOf 0x12 [(4, 1, 1)]) [], cmdOf 0x12 [(4, 1, 1)], by decide +kernel⟩,
   ⟨7, { qst (cmdOf 0x12 [(4, 1, 2), (8, 2, 1)]) [(Fld.CHT_CTRL.EDIT_OPEN, 0, 1)] with chart := { bankB := [(1, { payload := 2 })] }, host := [(1, 9)] }, cmdOf 0x12 [(4, 1, 2), (8, 2, 1)], by decide +kernel⟩,
   ⟨7, qst (cmdOf 0x12 [(4, 1, 5), (12, 2, 1000)]) [(Fld.CHT_CTRL.EDIT_OPEN, 0, 1)], cmdOf 0x12 [(4, 1, 5), (12, 2, 1000)], by decide +kernel⟩,
   ⟨7, qst (cmdOf 0x12 [(4, 1, 6), (5, 1, 3), (6, 1, 40)]) [(Fld.CHT_CTRL.EDIT_OPEN, 0, 1)], cmdOf 0x12 [(4, 1, 6), (5, 1, 3), (6, 1, 40)], by decide +kernel⟩,
   ⟨7, qst (cmdOf 0x12 [(4, 1, 4)]) [(Fld.CHT_STATUS.SHADOW_VALID, 0, 1)], cmdOf 0x12 [(4, 1, 4)], by decide +kernel⟩,
   ⟨7, qst (cmdOf 0x12 [(4, 1, 4)]) [(Fld.CHT_STATUS.SHADOW_VALID, 0, 0)], cmdOf 0x12 [(4, 1, 4)], by decide +kernel⟩,
   ⟨7, qst (cmdOf 0x12 [(4, 1, 5)]) [(Fld.CHT_STATUS.PENDING, 0, 1)], cmdOf 0x12 [(4, 1, 5)], by decide +kernel⟩,
   ⟨7, qst (cmdOf 0x10 [(40, 8, 64)]) [], cmdOf 0x10 [(40, 8, 64)], by decide +kernel⟩,
   ⟨7, { qst (cmdOf 0x10 [(40, 8, 64)]) [] with fns := [] }, cmdOf 0x10 [(40, 8, 64)], by decide +kernel⟩,
   ⟨7, qst (cmdOf 0x11 [(8, 2, 1)]) [], cmdOf 0x11 [(8, 2, 1)], by decide +kernel⟩,
   ⟨7, cmdOf 0x11 [(8, 2, 1)], { qst (cmdOf 0x11 [(8, 2, 1)]) [(Fld.CHT_CTRL.ADMIT_EN, 0, 1)] with chart := { admitWait := [7], bankB := [(1, { valid := true, start := 5, len := 2 })] } }, by decide +kernel⟩⟩

/-- The premises of TheChronometerRegisters can be met. -/
theorem test_premises_the_chronometer_registers :
    (∃ (v : Nat) (s : State), ((s.bit Fld.CHR_CTRL.SERVO_EN && s.reference) = false)) ∧
    (∃ (v : Nat) (s : State), (s.bit Fld.CHR_CTRL.SERVO_EN = true) ∧ (s.reference = true)) ∧
    (∃ (s : State), (s.bit Fld.CHR_COMMIT.PENDING = false)) ∧
    (∃ (a v : Nat) (s : State), (a < 4096)) :=
  ⟨⟨0x80000000, State.reset, by decide +kernel⟩,
   ⟨5, st [(Fld.CHR_CTRL.SERVO_EN, 0, 1), (Fld.CHR_SYNC_CFG.ROLE, 0, 2)], by decide +kernel⟩,
   ⟨State.reset, by decide +kernel⟩,
   ⟨7, 0xFFFF, State.reset, by decide +kernel⟩⟩

/-- The premises of TheReferenceLocksAndIsLost can be met. -/
theorem test_premises_the_reference_locks_and_is_lost :
    (∃ (t8 : Nat) (s : State), (s.ppsOn = true) ∧ (s.role ≠ 2) ∧ (s.bit Fld.CHR_STATUS.SSC_ACTIVE = false) ∧ (s.reachesFine (65536 * s.whenChron (t8 / 256) + t8 % 256 * 256) = true) ∧ (s.fld Fld.CHR_STATUS.TIME_STATE = 2) ∧ (max 1 (s.fld Fld.CHR_PPS_CFG.WINDOW) * 256 < (ppsError t8 (signedOf (s.fld Fld.CHR_PPS_OFFSET.OFFSET) 32)).natAbs)) ∧
    (∃ (t8 : Nat) (s : State), (s.ppsOn = false) ∧ (s.reachesFine (65536 * s.whenChron (t8 / 256) + t8 % 256 * 256) = true)) ∧
    (∃ (t8 : Nat) (s : State), (s.ppsOn = true) ∧ (s.role ≠ 2) ∧ (s.bit Fld.CHR_STATUS.SSC_ACTIVE = false) ∧ (s.reachesFine (65536 * s.whenChron (t8 / 256) + t8 % 256 * 256) = true) ∧ (s.fld Fld.CHR_STATUS.TIME_STATE = 1) ∧ (7 ≤ s.chr.goodRun) ∧ (s.chr.stepTick ≠ some s.chr.tick) ∧ ((ppsError t8 (signedOf (s.fld Fld.CHR_PPS_OFFSET.OFFSET) 32)).natAbs < 25600)) ∧
    (∃ (s : State), (s.ppsOn = true) ∧ (s.role ≠ 2) ∧ (s.fld Fld.CHR_STATUS.TIME_STATE = 2) ∧ (s.chr.missRun = 0)) ∧
    (∃ (s : State), (s.ppsOn = true) ∧ (s.role ≠ 2) ∧ (s.fld Fld.CHR_STATUS.TIME_STATE = 2) ∧ (1 ≤ s.chr.missRun)) ∧
    (∃ (s : State), (s.role = 2) ∧ (s.chr.syncSeen = true) ∧ (s.fld Fld.CHR_STATUS.TIME_STATE = 1 ∨ s.fld Fld.CHR_STATUS.TIME_STATE = 2) ∧ (1 ≤ s.chr.missRun)) ∧
    (∃ (s : State), (s.fld Fld.CHR_STATUS.TIME_STATE = 3) ∧ (s.reaches (s.chr.holdAt + 1000000000) = true)) :=
  ⟨⟨1280000, st [(Fld.CHR_CTRL.PPS_EN, 0, 1), (Fld.CHR_STATUS.TIME_STATE, 0, 2)], by decide +kernel⟩,
   ⟨1280000, State.reset, by decide +kernel⟩,
   ⟨256, { st [(Fld.CHR_CTRL.PPS_EN, 0, 1), (Fld.CHR_STATUS.TIME_STATE, 0, 1)] with chr := { goodRun := 7 } }, by decide +kernel⟩,
   ⟨st [(Fld.CHR_CTRL.PPS_EN, 0, 1), (Fld.CHR_STATUS.TIME_STATE, 0, 2)], by decide +kernel⟩,
   ⟨{ st [(Fld.CHR_CTRL.PPS_EN, 0, 1), (Fld.CHR_STATUS.TIME_STATE, 0, 2)] with chr := { missRun := 1 } }, by decide +kernel⟩,
   ⟨{ st [(Fld.CHR_SYNC_CFG.ROLE, 0, 2), (Fld.CHR_STATUS.TIME_STATE, 0, 1)] with chr := { missRun := 1, syncSeen := true } }, by decide +kernel⟩,
   ⟨st [(Fld.CHR_STATUS.TIME_STATE, 0, 3), (Fld.CHR_HOLDOVER_CFG.PPB, 0, 9), (Fld.CHR_HOLDOVER_CFG.LIMIT_NS, 0, 9)], by decide +kernel⟩⟩

/-- The premises of TheTimeDomainAndItsOutputs can be met. -/
theorem test_premises_the_time_domain_and_its_outputs :
    (∃ (s : State), (s.role = 1) ∧ (s.portUp 17 = true) ∧ (s.bit Fld.CHR_SYNC_STATUS.DEPTH_LIMIT = false) ∧ (s.bit Fld.CHR_STATUS.SSC_ACTIVE = false) ∧ (s.reaches (s.whenChron ((s.chron / 65536 + 1) * 65536)) = true)) ∧
    (∃ (a b c arr : Nat) (s : State), (s.role = 2) ∧ (s.portUp 16 = true) ∧ (s.bit Fld.CHR_STATUS.SSC_ACTIVE = false) ∧ (syncGood a b c true = true) ∧ (s.reachesFine arr = true)) ∧
    (∃ (s : State), (s.bit Fld.CHR_CTRL.MERID_OUT_EN = true) ∧ (s.bit Fld.CHR_MERID_OUT_CFG.PPS_MODE = true) ∧ (s.reaches (s.whenChron ((s.chron / 1000000000 + 1) * 1000000000)) = true)) ∧
    (∃ (lane t1 at0 : Nat) (s : State), (lane < 16) ∧ (65536 * (s.fixOf lane).due ≤ max t1 s.fine) ∧ (at0 = max t1 s.fine) ∧ (s.portUp lane = true) ∧ ((s.fixOf lane).outstanding = none) ∧ (s.laneClear lane at0 (65536 * setsTime (s.endGen lane) (.lfixReq 0) 1) = true) ∧ (s.reachesFine at0 = true)) ∧
    (∃ (lane t1 at0 : Nat) (s : State), ((lane = 16 ∨ lane = 17) ∧ s.role ≠ 0 ∧ s.bit Fld.CHR_STATUS.SSC_ACTIVE = false ∨ lane = 18 ∧ s.standby = true) ∧ (at0 = s.afterSync lane (max t1 s.fine) (65536 * setsTime (s.endGen lane) (.lfixReq 0) 1)) ∧ (s.portUp lane = true) ∧ ((s.fixOf lane).outstanding = none) ∧ (s.laneClear lane at0 (65536 * setsTime (s.endGen lane) (.lfixReq 0) 1) = true) ∧ (s.reachesFine at0 = true)) ∧
    (∃ (n word t2 t3 at0 : Nat) (s : State), (word % 256 = 0x61) ∧ (s.endUp n = true) ∧ ((16 ≤ n ∧ n < 19) ∨ (32 ≤ n ∧ n % 16 = 0)) ∧ (n = 18 ∨ 19 ≤ n ∨ s.role ≠ 0) ∧ (at0 = s.afterSync n (afterBusy (s.endBusy n) (max t2 (max t3 (65536 * (s.lane n).txUntil))) (65536 * respTime (s.endGen n))) (65536 * respTime (s.endGen n))) ∧ (at0 - t2 ≤ s.turnLimit * 65536) ∧ (s.reachesFine t2 = true)) ∧
    (∃ (lane a b q turn loc t4 t1 : Nat) (s : State), ((s.fixOf lane).outstanding = some (q, t1)) ∧ (respFields (s.endGen lane) a b = some (q, turn, loc)) ∧ (s.portUp lane = true) ∧ (t4 < t1 + (s.turnLimit + 4096) * 65536) ∧ (s.reachesFine t4 = true) ∧ ((s.fixOf lane).filtered = none)) ∧
    (∃ (lane q t1 : Nat) (s : State), ((s.fixOf lane).outstanding = some (q, t1)) ∧ (s.reachesFine (t1 + (s.turnLimit + 4096) * 65536) = true)) ∧
    (∃ (hub : Nat) (s : State), ((s.node hub).state.running = true) ∧ ((s.node hub).hub = true) ∧ (s.standby = false) ∧ ((s.nrec hub).poll = none) ∧ (s.convOf s.conv.next = none) ∧ (s.reaches (s.nrec hub).pollDue = true)) ∧
    (∃ (hub a k : Nat) (data : List Byte) (s : State), ((s.node hub).state.running = true) ∧ ((s.node hub).hub = true) ∧ (s.standby = false) ∧ ((s.nrec hub).poll = some k) ∧ (s.conv.answers.lookup k = some (St.success, data)) ∧ (data.length = 16) ∧ (s.nodeBelow hub 1 = some a) ∧ (bitAt (ofBytes ((data.drop 12).take 1)) 0 = true)) ∧
    (∃ (a : Nat) (s : State), ((s.bearing a).state = .fixed) ∧ (s.standby = false) ∧ (s.reaches ((s.bearing a).since + (s.ageBound a + 1) * 1000000) = true)) :=
  ⟨⟨st [(Fld.CHR_SYNC_CFG.ROLE, 0, 1), (Fld.LNK_STATUS.STATE, 17, 7)], by decide +kernel⟩,
   ⟨(syncWords 0 1023 0 0 9).1, (syncWords 0 1023 0 0 9).2.1, ((syncWords 0 1023 0 0 9).2.2 + syncCrc (syncWords 0 1023 0 0 9).1 (syncWords 0 1023 0 0 9).2.1 (syncWords 0 1023 0 0 9).2.2 * 2 ^ 40), 200000, st [(Fld.CHR_SYNC_CFG.ROLE, 0, 2), (Fld.LNK_STATUS.STATE, 16, 7)], by decide +kernel⟩,
   ⟨st [(Fld.CHR_CTRL.MERID_OUT_EN, 0, 1), (Fld.CHR_MERID_OUT_CFG.PPS_MODE, 0, 1)], by decide +kernel⟩,
   ⟨2, 700, 700, st [(Fld.LNK_STATUS.STATE, 2, 7)], by decide +kernel⟩,
   ⟨16, 700, 700, st [(Fld.LNK_STATUS.STATE, 16, 7), (Fld.CHR_SYNC_CFG.ROLE, 0, 2)], by decide +kernel⟩,
   ⟨32, 0x0761, 100, 900, 900, { State.reset with lanes := [(32, { st := 7 })] }, by decide +kernel⟩,
   ⟨17, 0x0562, 0x0563, 5, 0, 0, 900000, 100, { st [(Fld.LNK_STATUS.STATE, 17, 7), (Fld.LNK_STATUS.GEN, 17, 3)] with fixes := [(17, { outstanding := some (5, 100) })] }, by decide +kernel⟩,
   ⟨3, 5, 100, { State.reset with fixes := [(3, { outstanding := some (5, 100) })] }, by decide +kernel⟩,
   ⟨1, { State.reset with tree := { nodes := [(1, { hub := true, state := .active })] } }, by decide +kernel⟩,
   ⟨1, 2, 4, [5, 1, 0, 0, 0, 0, 7, 0, 0, 0, 0, 0, 1, 0, 0, 0], { State.reset with tree := { nodes := [(1, { hub := true, state := .active }), (2, { tier := 1, route := 1, state := .active })], recs := [(1, { poll := some 4 })] }, conv := { answers := [(4, (St.success, [5, 1, 0, 0, 0, 0, 7, 0, 0, 0, 0, 0, 1, 0, 0, 0]))] } }, by decide +kernel⟩,
   ⟨4, { State.reset with tree := { bearings := [(4, { state := .fixed })] } }, by decide +kernel⟩⟩

/-- The premises of ConversationsMoveByPacketsAndAnswers can be met. -/
theorem test_premises_conversations_move_by_packets_and_answers :
    (∃ (k : Nat) (c : Conv) (s : State), (s.convOf k = some c) ∧ (c.state = .queued) ∧ (s.mute = false) ∧ ((c.tag.isSome && c.control && controllerOnly ((s.convIns c).getD 0) c.setup) = false) ∧ (((s.pipeCtx c.node c.pipe).halted && c.pipe != 0) = false) ∧ ((s.node c.node).state = .active) ∧ (s.convBlocked k c = false) ∧ (s.pair.freshPipes.contains (c.node * 32 + c.pipe) = false)) ∧
    (∃ (k : Nat) (c : Conv) (s : State), (s.convOf k = some c) ∧ (c.state = .queued) ∧ (s.mute = false) ∧ ((c.tag.isSome && c.control && controllerOnly ((s.convIns c).getD 0) c.setup) = false) ∧ ((s.pipeCtx c.node c.pipe).halted = true) ∧ (c.pipe ≠ 0)) ∧
    (∃ (k slot : Nat) (c : Conv) (s : State), (s.convOf k = some c) ∧ (c.state = .active) ∧ (c.abortAsked = false) ∧ (c.owesWait = false) ∧ (c.closing = false) ∧ (c.wantsPacket = true) ∧ (s.mute = false) ∧ (s.portUp (s.convPort c) = true) ∧ (s.slotsFree (s.convPort c) false slot (s.nextPacketSlots c) = true) ∧ (s.slotAhead (s.convPort c) slot = true) ∧ (s.mayPick k c false = true) ∧ (s.convPressed c = false) ∧ (c.tag = none) ∧ (c.stamp = 0)) ∧
    (∃ (k slot : Nat) (c : Conv) (s : State), (s.convOf k = some c) ∧ (c.state = .active) ∧ (c.abortAsked = false) ∧ (c.owesWait = false) ∧ (c.closing = false) ∧ (c.wantsPacket = true) ∧ (s.mute = false) ∧ (s.portUp (s.convPort c) = true) ∧ (s.slotsFree (s.convPort c) false slot (s.nextPacketSlots c) = true) ∧ (s.slotAhead (s.convPort c) slot = true) ∧ (s.mayPick k c false = true) ∧ (s.convPressed c = false) ∧ (c.tag ≠ none) ∧ (c.stamp = 0) ∧ (s.canIssue (s.insFn ((s.convIns c).getD 0)) = true)) ∧
    (∃ (k slot : Nat) (c : Conv) (s : State), (s.convOf k = some c) ∧ (c.state = .aborting) ∧ (c.abortSent = false) ∧ (s.mute = false) ∧ (s.portUp (s.convPort c) = true) ∧ (s.slotsFree (s.convPort c) false slot (s.nextPacketSlots c) = true) ∧ (s.slotAhead (s.convPort c) slot = true) ∧ (s.mayPick k c false = true)) ∧
    (∃ (k slot r n : Nat) (c : Conv) (s : State), (s.convOf k = some c) ∧ (c.wantsGrant = true) ∧ (s.mute = false) ∧ (0 < n) ∧ (n ≤ 511) ∧ (s.portUp (s.convPort c) = true) ∧ (s.grantRuns (s.convPort c) slot = false) ∧ (s.slotsFree (s.convPort c) false slot (frameSlots (s.convGen c) 4) = true) ∧ (s.slotAhead (s.convPort c) slot = true) ∧ (s.slotsFree (s.convPort c) true r (n + s.grantExtra c) = true) ∧ (s.mayPick k c true = true) ∧ (0 ≤ s.grantStart c r) ∧ (s.grantStart c r < 2 ^ 15) ∧ (512 * 65536 ≤ s.grantLaunch c (s.grantStart c r) - s.grantEnds c slot (frameSlots (s.convGen c) 4)) ∧ (c.wantsData = true) ∧ (c.control = false) ∧ (c.state = .active) ∧ (s.convPressed c = false)) ∧
    (∃ (k : Nat) (c : Conv) (s : State), (s.convOf k = some c) ∧ (c.state = .backoff) ∧ (c.pressed = true) ∧ (s.convPressed c = false)) ∧
    (∃ (k : Nat) (c : Conv) (s : State), (s.convOf k = some c) ∧ (c.state = .backoff) ∧ (c.pressed = false) ∧ (s.reaches c.backNs = true) ∧ (c.backTick ≤ s.tick)) ∧
    (∃ (k t0 : Nat) (c : Conv) (s : State), (s.convOf k = some c) ∧ (c.sentAt.lookup c.base = some t0) ∧ (c.state = .active) ∧ (c.base < c.sent) ∧ (s.reaches (t0 + 8000) = true)) ∧
    (∃ (port slot : Nat) (pos : Int) (frame : List Byte) (g : Grant) (c : Conv) (s : State), (s.portUp port = true) ∧ (s.grantFor port pos = some (g, slot)) ∧ (s.convOf g.conv = some c) ∧ (frameGood frame = true) ∧ ((Header.ofBytes frame).packet = true) ∧ ((Header.ofBytes frame).addr = c.node) ∧ ((Header.ofBytes frame).pipe = c.pipe) ∧ ((Header.ofBytes frame).inbound = true) ∧ ((Header.ofBytes frame).type = Pt.data) ∧ ((if g.extra = 0 then 32 * 65536 * (slot : Int) else pos) + 32 * 65536 * frameSlots (max 1 (s.fld Fld.LNK_STATUS.GEN port)) (Header.ofBytes frame).length ≤ 32 * 65536 * ((g.start + g.slots : Nat) : Int)) ∧ (g.forData = true) ∧ ((Header.ofBytes frame).length ≤ 1024) ∧ (c.wantsData = true) ∧ (c.owesWait = false) ∧ (c.state ≠ .aborting) ∧ (g.spoiled = false) ∧ (((Header.ofBytes frame).seq + 65536 - (c.inSeq0 + c.inCount) % 65536) % 65536 = 0) ∧ (s.convPressed c = false) ∧ (c.tag = none)) ∧
    (∃ (port slot tag a : Nat) (pos : Int) (frame : List Byte) (g : Grant) (c : Conv) (s : State), (s.portUp port = true) ∧ (s.grantFor port pos = some (g, slot)) ∧ (s.convOf g.conv = some c) ∧ (frameGood frame = true) ∧ ((Header.ofBytes frame).packet = true) ∧ ((Header.ofBytes frame).addr = c.node) ∧ ((Header.ofBytes frame).pipe = c.pipe) ∧ ((Header.ofBytes frame).inbound = true) ∧ ((Header.ofBytes frame).type = Pt.data) ∧ ((if g.extra = 0 then 32 * 65536 * (slot : Int) else pos) + 32 * 65536 * frameSlots (max 1 (s.fld Fld.LNK_STATUS.GEN port)) (Header.ofBytes frame).length ≤ 32 * 65536 * ((g.start + g.slots : Nat) : Int)) ∧ (g.forData = true) ∧ ((Header.ofBytes frame).length ≤ 1024) ∧ (c.wantsData = true) ∧ (c.owesWait = false) ∧ (c.state ≠ .aborting) ∧ (g.spoiled = false) ∧ (((Header.ofBytes frame).seq + 65536 - (c.inSeq0 + c.inCount) % 65536) % 65536 = 0) ∧ (s.convPressed c = false) ∧ (c.tag = some tag) ∧ (c.pieces = [(a, c.length)]) ∧ (c.stored = 0) ∧ (0 < (Header.ofBytes frame).length) ∧ ((Header.ofBytes frame).length ≤ c.length) ∧ (s.canIssue (s.insFn ((s.convIns c).getD 0)) = true) ∧ (s.bit Fld.INS_LOG_CFG.RUNNING ((s.convIns c).getD 0) = false)) ∧
    (∃ (port slot : Nat) (pos : Int) (frame : List Byte) (g : Grant) (c : Conv) (s : State), (s.portUp port = true) ∧ (s.grantFor port pos = some (g, slot)) ∧ (s.convOf g.conv = some c) ∧ (frameGood frame = true) ∧ ((Header.ofBytes frame).packet = true) ∧ ((Header.ofBytes frame).addr = c.node) ∧ ((Header.ofBytes frame).pipe = c.pipe) ∧ ((Header.ofBytes frame).inbound = true) ∧ ((Header.ofBytes frame).type = Pt.handshake) ∧ ((if g.extra = 0 then 32 * 65536 * (slot : Int) else pos) + 32 * 65536 * frameSlots (max 1 (s.fld Fld.LNK_STATUS.GEN port)) (Header.ofBytes frame).length ≤ 32 * 65536 * ((g.start + g.slots : Nat) : Int)) ∧ ((Header.ofBytes frame).length = 4) ∧ (bitsAt (ofBytes (framePayload frame)) 0 8 = 0x04) ∧ (c.state ≠ .aborting)) ∧
    (∃ (port slot d : Nat) (pos : Int) (frame : List Byte) (g : Grant) (c : Conv) (s : State), (s.portUp port = true) ∧ (s.grantFor port pos = some (g, slot)) ∧ (s.convOf g.conv = some c) ∧ (frameGood frame = true) ∧ ((Header.ofBytes frame).packet = true) ∧ ((Header.ofBytes frame).addr = c.node) ∧ ((Header.ofBytes frame).pipe = c.pipe) ∧ ((Header.ofBytes frame).inbound = true) ∧ ((Header.ofBytes frame).type = Pt.handshake) ∧ ((if g.extra = 0 then 32 * 65536 * (slot : Int) else pos) + 32 * 65536 * frameSlots (max 1 (s.fld Fld.LNK_STATUS.GEN port)) (Header.ofBytes frame).length ≤ 32 * 65536 * ((g.start + g.slots : Nat) : Int)) ∧ ((Header.ofBytes frame).length = 4) ∧ (bitsAt (ofBytes (framePayload frame)) 0 8 = 0x01) ∧ (c.state = .active) ∧ (c.stage = .data) ∧ (g.forData = false) ∧ (c.control = false) ∧ (c.inbound = false) ∧ (d = ((Header.ofBytes frame).seq + 65536 - (c.seq0 + c.base) % 65536) % 65536) ∧ (d ≤ c.sent - c.base) ∧ (g.sent ≤ c.base + d) ∧ (c.outPackets ≤ c.base + d)) ∧
    (∃ (port : Nat) (g : Grant) (c : Conv) (s : State), (s.conv.grants.lookup port = some g) ∧ (g.begun = false) ∧ (g.closed = false) ∧ (s.reaches (g.merid + 32 * (g.next + max 1 g.extra)) = true) ∧ (s.convOf g.conv = some c) ∧ (c.state ≠ .aborting) ∧ (g.forData = true) ∧ (c.used (inKey c.inCount) < c.limit)) ∧
    (∃ (port : Nat) (g : Grant) (c : Conv) (s : State), (s.conv.grants.lookup port = some g) ∧ (g.begun = false) ∧ (g.closed = false) ∧ (s.reaches (g.merid + 32 * (g.next + max 1 g.extra)) = true) ∧ (s.convOf g.conv = some c) ∧ (c.state ≠ .aborting) ∧ (g.forData = true) ∧ (c.limit ≤ c.used (inKey c.inCount))) ∧
    (∃ (k t0 : Nat) (c : Conv) (s : State), (s.convOf k = some c) ∧ (c.waitFrom = some t0) ∧ (c.state ≠ .aborting) ∧ (s.reaches (t0 + 1000000000) = true)) ∧
    (∃ (k t0 : Nat) (c : Conv) (s : State), (s.convOf k = some c) ∧ (c.waitFrom = some t0) ∧ (c.state = .aborting) ∧ (s.reaches (t0 + 1000000000) = true)) :=
  ⟨⟨5, { node := 1, pipe := 2, state := .queued }, { st [(Fld.LNK_STATUS.STATE, 0, 7), (Fld.CHT_STATUS.RUNNING, 0, 1)] with chr := { dueNs := 1000000 }, conv := { convs := [(5, { node := 1, pipe := 2, state := .queued })] }, tree := { nodes := [(1, { state := .active })] } }, by decide +kernel⟩,
   ⟨5, { node := 1, pipe := 2, state := .queued }, { State.reset with conv := { convs := [(5, { node := 1, pipe := 2, state := .queued })], pipes := [(34, { halted := true })] } }, by decide +kernel⟩,
   ⟨5, 100, { node := 1, pipe := 2, state := .active, bytes := [1, 2], length := 2 }, { st [(Fld.LNK_STATUS.STATE, 0, 7), (Fld.CHT_STATUS.RUNNING, 0, 1)] with chr := { dueNs := 1000000 }, conv := { convs := [(5, { node := 1, pipe := 2, state := .active, bytes := [1, 2], length := 2 })] }, tree := { nodes := [(1, { state := .active })] } }, by decide +kernel⟩,
   ⟨5, 100, { node := 1, pipe := 2, state := .active, tag := some 7, pieces := [(0x5000, 2)], length := 2 }, { st [(Fld.LNK_STATUS.STATE, 0, 7), (Fld.CHT_STATUS.RUNNING, 0, 1)] with chr := { dueNs := 1000000 }, conv := { convs := [(5, { node := 1, pipe := 2, state := .active, tag := some 7, pieces := [(0x5000, 2)], length := 2 })] }, tree := { nodes := [(1, { state := .active })] }, fns := [(0, { bme := true })] }, by decide +kernel⟩,
   ⟨5, 100, { node := 1, pipe := 2, state := .aborting }, { st [(Fld.LNK_STATUS.STATE, 0, 7), (Fld.CHT_STATUS.RUNNING, 0, 1)] with chr := { dueNs := 1000000 }, conv := { convs := [(5, { node := 1, pipe := 2, state := .aborting })] }, tree := { nodes := [(1, { state := .active })] } }, by decide +kernel⟩,
   ⟨5, 100, 200, 40, { node := 1, pipe := 2, state := .active, inbound := true, length := 100 }, { st [(Fld.LNK_STATUS.STATE, 0, 7), (Fld.CHT_STATUS.RUNNING, 0, 1)] with chr := { dueNs := 1000000 }, conv := { convs := [(5, { node := 1, pipe := 2, state := .active, inbound := true, length := 100 })] }, tree := { nodes := [(1, { state := .active })] } }, by decide +kernel⟩,
   ⟨5, { node := 1, pipe := 2, state := .backoff, pressed := true }, { st [(Fld.LNK_STATUS.STATE, 0, 7), (Fld.CHT_STATUS.RUNNING, 0, 1)] with chr := { dueNs := 1000000 }, conv := { convs := [(5, { node := 1, pipe := 2, state := .backoff, pressed := true })] }, tree := { nodes := [(1, { state := .active })] } }, by decide +kernel⟩,
   ⟨5, { node := 1, pipe := 2, state := .backoff, backNs := 900 }, { st [(Fld.LNK_STATUS.STATE, 0, 7), (Fld.CHT_STATUS.RUNNING, 0, 1)] with chr := { dueNs := 1000000 }, conv := { convs := [(5, { node := 1, pipe := 2, state := .backoff, backNs := 900 })] }, tree := { nodes := [(1, { state := .active })] } }, by decide +kernel⟩,
   ⟨5, 7, { node := 1, pipe := 2, state := .active, sent := 1, sentAt := [(0, 7)] }, { st [(Fld.LNK_STATUS.STATE, 0, 7), (Fld.CHT_STATUS.RUNNING, 0, 1)] with chr := { dueNs := 1000000 }, conv := { convs := [(5, { node := 1, pipe := 2, state := .active, sent := 1, sentAt := [(0, 7)] })] }, tree := { nodes := [(1, { state := .active })] } }, by decide +kernel⟩,
   ⟨0, 210, 440401920, (packetFrame 1 2 true 0 0 [1, 2, 3]), { conv := 5, node := 1, start := 200, slots := 60, next := 210, closed := false, forData := true }, { node := 1, pipe := 2, state := .active, inbound := true, length := 2 }, { st [(Fld.LNK_STATUS.STATE, 0, 7)] with conv := { convs := [(5, { node := 1, pipe := 2, state := .active, inbound := true, length := 2 })], grants := [(0, { conv := 5, node := 1, start := 200, slots := 60, next := 210, closed := false, forData := true })] }, tree := { nodes := [(1, { state := .active })] } }, by decide +kernel⟩,
   ⟨0, 210, 7, 0x5000, 440401920, (packetFrame 1 2 true 0 0 [1, 2, 3]), { conv := 5, node := 1, start := 200, slots := 60, next := 210, closed := false, forData := true }, { node := 1, pipe := 2, state := .active, inbound := true, length := 3, tag := some 7, pieces := [(0x5000, 3)] }, { st [(Fld.LNK_STATUS.STATE, 0, 7)] with conv := { convs := [(5, { node := 1, pipe := 2, state := .active, inbound := true, length := 3, tag := some 7, pieces := [(0x5000, 3)] })], grants := [(0, { conv := 5, node := 1, start := 200, slots := 60, next := 210, closed := false, forData := true })] }, tree := { nodes := [(1, { state := .active })] }, fns := [(0, { bme := true })] }, by decide +kernel⟩,
   ⟨0, 210, 440401920, (packetFrame 1 2 true 2 0 (handshakeBytes 4 0 0)), { conv := 5, node := 1, start := 200, slots := 60, next := 210, closed := false, sent := 1 }, { node := 1, pipe := 2, state := .active }, { st [(Fld.LNK_STATUS.STATE, 0, 7)] with conv := { convs := [(5, { node := 1, pipe := 2, state := .active, bytes := [] })], grants := [(0, { conv := 5, node := 1, start := 200, slots := 60, next := 210, closed := false, sent := 1 })] }, tree := { nodes := [(1, { state := .active })] } }, by decide +kernel⟩,
   ⟨0, 210, 1, 440401920, (packetFrame 1 2 true 2 1 (handshakeBytes 1 0 4)), { conv := 5, node := 1, start := 200, slots := 60, next := 210, closed := false, sent := 1 }, { node := 1, pipe := 2, state := .active, sent := 1 }, { st [(Fld.LNK_STATUS.STATE, 0, 7)] with conv := { convs := [(5, { node := 1, pipe := 2, state := .active, sent := 1 })], grants := [(0, { conv := 5, node := 1, start := 200, slots := 60, next := 210, closed := false, sent := 1 })] }, tree := { nodes := [(1, { state := .active })] } }, by decide +kernel⟩,
   ⟨0, { conv := 5, node := 1, start := 200, slots := 60, next := 210, closed := false, forData := true }, { node := 1, pipe := 2, state := .active, inbound := true }, { st [(Fld.LNK_STATUS.STATE, 0, 7)] with conv := { convs := [(5, { node := 1, pipe := 2, state := .active, inbound := true })], grants := [(0, { conv := 5, node := 1, start := 200, slots := 60, next := 210, closed := false, forData := true })] }, tree := { nodes := [(1, { state := .active })] } }, by decide +kernel⟩,
   ⟨0, { conv := 5, node := 1, start := 200, slots := 60, next := 210, closed := false, forData := true }, { node := 1, pipe := 2, state := .active, inbound := true, limit := 0 }, { st [(Fld.LNK_STATUS.STATE, 0, 7)] with conv := { convs := [(5, { node := 1, pipe := 2, state := .active, inbound := true, limit := 0 })], grants := [(0, { conv := 5, node := 1, start := 200, slots := 60, next := 210, closed := false, forData := true })] }, tree := { nodes := [(1, { state := .active })] } }, by decide +kernel⟩,
   ⟨5, 9, { node := 1, pipe := 2, state := .backoff, waitFrom := some 9 }, { st [(Fld.LNK_STATUS.STATE, 0, 7), (Fld.CHT_STATUS.RUNNING, 0, 1)] with chr := { dueNs := 2000000000 }, conv := { convs := [(5, { node := 1, pipe := 2, state := .backoff, waitFrom := some 9 })] }, tree := { nodes := [(1, { state := .active })] } }, by decide +kernel⟩,
   ⟨5, 9, { node := 1, pipe := 2, state := .aborting, waitFrom := some 9, endStatus := 4 }, { st [(Fld.LNK_STATUS.STATE, 0, 7), (Fld.CHT_STATUS.RUNNING, 0, 1)] with chr := { dueNs := 2000000000 }, conv := { convs := [(5, { node := 1, pipe := 2, state := .aborting, waitFrom := some 9, endStatus := 4 })] }, tree := { nodes := [(1, { state := .active })] } }, by decide +kernel⟩⟩

/-- The premises of TransferCommandsQueueConversations can be met. -/
theorem test_premises_transfer_commands_queue_conversations :
    (∃ (tag : Nat) (s : State) (c : Cmd), (s.startable tag 0x80 = some c) ∧ (s.standby = false) ∧ (c.flag 1 = false)) ∧
    (∃ (tag : Nat) (s : State) (c : Cmd), (s.startable tag 0x81 = some c) ∧ (s.standby = false) ∧ (c.flag 1 = false)) ∧
    (∃ (tag : Nat) (s : State) (c : Cmd), (s.startable tag 0x82 = some c) ∧ (s.standby = false) ∧ (c.flag 1 = false)) ∧
    (∃ (tag : Nat) (s : State) (c : Cmd), (s.startable tag 0x81 = some c) ∧ (s.standby = true) ∧ (s.takesCompletion c = true)) ∧
    (∃ (tag : Nat) (c : Cmd) (s : State), (s.convOfTag tag = none) ∧ (s.cmd tag = some c) ∧ (c.opcode = 0x80) ∧ (c.stage = .ready) ∧ (s.takesCompletion c = true)) ∧
    (∃ (tag k : Nat) (c : Conv) (s : State), (s.convOfTag tag = some k) ∧ (s.convOf k = some c) ∧ (c.state = .active) ∧ (c.abortAsked = false)) :=
  ⟨⟨7, qst (cmdOf 0x80 [(4, 2, 3), (6, 1, 2), (8, 3, 100), (16, 8, 0x9000)]) [], cmdOf 0x80 [(4, 2, 3), (6, 1, 2), (8, 3, 100), (16, 8, 0x9000)], by decide +kernel⟩,
   ⟨7, qst (cmdOf 0x81 [(4, 2, 3), (6, 1, 2), (7, 1, 0x12)]) [], cmdOf 0x81 [(4, 2, 3), (6, 1, 2), (7, 1, 0x12)], by decide +kernel⟩,
   ⟨7, qst (cmdOf 0x82 [(4, 2, 3), (8, 1, 0x80), (14, 2, 64), (24, 8, 0x9000)]) [], cmdOf 0x82 [(4, 2, 3), (8, 1, 0x80), (14, 2, 64), (24, 8, 0x9000)], by decide +kernel⟩,
   ⟨7, qst (cmdOf 0x81 []) [(Fld.PAIR_STATUS.ROLE, 0, 3)], cmdOf 0x81 [], by decide +kernel⟩,
   ⟨7, cmdOf 0x80 [], qst (cmdOf 0x80 []) [], by decide +kernel⟩,
   ⟨7, 5, { node := 1, pipe := 2, state := .active, tag := some 7 }, { st [(Fld.LNK_STATUS.STATE, 0, 7), (Fld.CHT_STATUS.RUNNING, 0, 1)] with chr := { dueNs := 1000000 }, conv := { convs := [(5, { node := 1, pipe := 2, state := .active, tag := some 7 })] }, tree := { nodes := [(1, { state := .active })] } }, by decide +kernel⟩⟩

/-- The premises of MessagesOfTheSinkAreAnswered can be met. -/
theorem test_premises_messages_of_the_sink_are_answered :
    (∃ (p id word : Nat) (levels : List Bool) (s : State), (p < 16) ∧ (s.cpwFn p = Fn.on) ∧ (pwcRead true levels = some (2, id, word)) ∧ ((s.pwc p).line.lastRx ≠ some id)) ∧
    (∃ (p id word : Nat) (levels : List Bool) (s : State), (p < 16) ∧ (s.cpwFn p = Fn.on) ∧ (pwcRead true levels = some (3, id, word)) ∧ ((s.pwc p).line.lastRx ≠ some id) ∧ (s.cstate p = Cs.default ∨ s.cstate p = Cs.contract) ∧ (s.requestCheck p word true = none)) ∧
    (∃ (p id word k : Nat) (levels : List Bool) (s : State), (p < 16) ∧ (s.cpwFn p = Fn.on) ∧ (pwcRead true levels = some (3, id, word)) ∧ ((s.pwc p).line.lastRx ≠ some id) ∧ (s.cstate p = Cs.default ∨ s.cstate p = Cs.contract) ∧ (s.requestCheck p word true = some k)) ∧
    (∃ (p begin w : Nat) (levels : List Bool) (m : PwcMessage) (rest : List PwcMessage) (s : State), (p < 16) ∧ ((s.pwc p).line.outq = m :: rest) ∧ (pwcRead true levels = some (0, m.id, w)) ∧ (begin ≤ 40000) ∧ (m.type = 4) ∧ (s.cstate p = Cs.default ∨ s.cstate p = Cs.contract) ∧ (s.reaches ((s.pwc p).line.sentEnd + begin + 56000) = true)) ∧
    (∃ (e : Nat) (m : PwcMessage) (rest : List PwcMessage) (s : State), ((s.pwcEnd e).outq = m :: rest) ∧ (m.again < 2) ∧ (s.reaches ((s.pwcEnd e).sentEnd + 40000) = true)) ∧
    (∃ (e : Nat) (m : PwcMessage) (rest : List PwcMessage) (s : State), ((s.pwcEnd e).outq = m :: rest) ∧ (2 ≤ m.again) ∧ (m.type ≠ 11) ∧ (s.reaches ((s.pwcEnd e).sentEnd + 40000) = true)) ∧
    (∃ (p id word : Nat) (levels : List Bool) (s : State), (p < 16) ∧ (s.cpwFn p = Fn.on) ∧ (pwcRead true levels = some (7, id, word))) ∧
    (∃ (p tenths : Nat) (s : State), (p < 16) ∧ (s.cpwFn p = Fn.on) ∧ (8 ≤ tenths) ∧ (tenths ≤ 14) ∧ (s.cstate p = Cs.transition) ∧ ((s.pwc p).readyDue = true) ∧ ((s.pwc p).reverting = false) ∧ ((s.pwc p).forceDue = false)) ∧
    (∃ (p id word : Nat) (levels : List Bool) (s : State), (p < 16) ∧ (s.cpwFn p = Fn.on) ∧ (pwcRead true levels = some (8, id, word)) ∧ ((s.pwc p).line.lastRx ≠ some id) ∧ (word % 256 = 1) ∧ ((s.pwc p).reduce = none) ∧ (s.cstate p = Cs.contract) ∧ (s.requestCheck p (word / 256) true = none)) ∧
    (∃ (p id word : Nat) (levels : List Bool) (s : State), (p < 16) ∧ (s.cpwFn p = Fn.on) ∧ (pwcRead true levels = some (8, id, word)) ∧ ((s.pwc p).line.lastRx ≠ some id) ∧ (word % 256 = 0) ∧ ((s.pwc p).reduce = none) ∧ (s.cstate p = Cs.local)) ∧
    (∃ (p id word : Nat) (levels : List Bool) (s : State), (p < 16) ∧ (s.cpwFn p = Fn.on) ∧ (pwcRead true levels = some (9, id, word)) ∧ ((s.pwc p).line.lastRx ≠ some id) ∧ (s.cstate p = Cs.swapping) ∧ (s.bit Fld.CPW_PORT_STATUS.PEN p = true)) ∧
    (∃ (p id word w : Nat) (levels : List Bool) (s : State), (p < 16) ∧ (s.cpwFn p = Fn.on) ∧ (pwcRead true levels = some (4, id, word)) ∧ ((s.pwc p).line.lastRx ≠ some id) ∧ ((s.pwc p).reduce = some w)) ∧
    (∃ (p id word w : Nat) (levels : List Bool) (s : State), (p < 16) ∧ (s.cpwFn p = Fn.on) ∧ (pwcRead true levels = some (5, id, word)) ∧ ((s.pwc p).line.lastRx ≠ some id) ∧ ((s.pwc p).reduce = some w)) ∧
    (∃ (p tenths : Nat) (s : State), (p < 16) ∧ (s.cpwFn p = Fn.on) ∧ (40 ≤ tenths) ∧ (s.cstate p = Cs.local)) ∧
    (∃ (p tenths : Nat) (s : State), (p < 16) ∧ (s.cpwFn p = Fn.on) ∧ (40 ≤ tenths) ∧ (s.cstate p ≠ Cs.local)) :=
  ⟨⟨3, 9, 0, (pwcWire true 2 9 []), { st [(Fld.CPW_PORT_STATUS.FUNC_STATE, 3, 2)] with cpw := { ports := [(3, { arm := 0 })] } }, by decide +kernel⟩,
   ⟨3, 9, 0xF0FA, (pwcWire true 3 9 (toBytes 0xF0FA 4)), { st [(Fld.CPW_PORT_STATUS.FUNC_STATE, 3, 2), (Fld.CPW_LIMIT.VMAX, 3, 2400), (Fld.CPW_LIMIT.IMAX, 3, 500), (Fld.CPW_BUDGET.LIMIT, 0, 9000)] with cpw := { ports := [(3, { arm := 0 })] } }, by decide +kernel⟩,
   ⟨3, 9, 0, 0x0C, (pwcWire true 3 9 (toBytes 0 4)), { st [(Fld.CPW_PORT_STATUS.FUNC_STATE, 3, 2)] with cpw := { ports := [(3, { arm := 0 })] } }, by decide +kernel⟩,
   ⟨3, 20000, 0, (pwcWire true 0 4 []), { type := 4, id := 4, word := 0xF0FA }, [], { st [(Fld.CPW_PORT_STATUS.FUNC_STATE, 3, 2)] with cpw := { ports := [(3, { line := { outq := [{ type := 4, id := 4, word := 0xF0FA }] } })] } }, by decide +kernel⟩,
   ⟨3, { type := 4, id := 4 }, [], { st [(Fld.CPW_PORT_STATUS.FUNC_STATE, 3, 2)] with cpw := { ports := [(3, { line := { outq := [{ type := 4, id := 4 }] } })] } }, by decide +kernel⟩,
   ⟨3, { type := 4, id := 4, again := 2 }, [], { st [(Fld.CPW_PORT_STATUS.FUNC_STATE, 3, 2)] with cpw := { ports := [(3, { line := { outq := [{ type := 4, id := 4, again := 2 }] } })] } }, by decide +kernel⟩,
   ⟨3, 9, 0, (pwcWire true 7 9 []), { st [(Fld.CPW_PORT_STATUS.FUNC_STATE, 3, 2)] with cpw := { ports := [(3, { arm := 0 })] } }, by decide +kernel⟩,
   ⟨3, 10, { st [(Fld.CPW_PORT_STATUS.FUNC_STATE, 3, 2), (Fld.CPW_PORT_STATUS.CSTATE, 3, 1)] with cpw := { ports := [(3, { readyDue := true, target := 0xF0FB })] } }, by decide +kernel⟩,
   ⟨3, 9, (1 + 256 * 0xF0FA), (pwcWire true 8 9 (toBytes (1 + 256 * 0xF0FA) 5)), { st [(Fld.CPW_PORT_STATUS.FUNC_STATE, 3, 2), (Fld.CPW_PORT_STATUS.CSTATE, 3, 2), (Fld.CPW_LIMIT.VMAX, 3, 2400), (Fld.CPW_LIMIT.IMAX, 3, 500), (Fld.CPW_BUDGET.LIMIT, 0, 9000)] with cpw := { ports := [(3, { arm := 0 })] } }, by decide +kernel⟩,
   ⟨3, 9, 0, (pwcWire true 8 9 (toBytes 0 5)), { st [(Fld.CPW_PORT_STATUS.FUNC_STATE, 3, 2), (Fld.CPW_PORT_STATUS.CSTATE, 3, 4)] with cpw := { ports := [(3, { arm := 0 })] } }, by decide +kernel⟩,
   ⟨3, 9, 0, (pwcWire true 9 9 []), { st [(Fld.CPW_PORT_STATUS.FUNC_STATE, 3, 2), (Fld.CPW_PORT_STATUS.CSTATE, 3, 3), (Fld.CPW_PORT_STATUS.PEN, 3, 1)] with cpw := { ports := [(3, { arm := 0 })] } }, by decide +kernel⟩,
   ⟨3, 9, 0, 0x500FA, (pwcWire true 4 9 (toBytes 0 4)), { st [(Fld.CPW_PORT_STATUS.FUNC_STATE, 3, 2), (Fld.CPW_PORT_STATUS.CSTATE, 3, 2)] with cpw := { ports := [(3, { reduce := some 0x500FA })] } }, by decide +kernel⟩,
   ⟨3, 9, 7, 0x500FA, (pwcWire true 5 9 (toBytes 7 1)), { st [(Fld.CPW_PORT_STATUS.FUNC_STATE, 3, 2), (Fld.CPW_PORT_STATUS.CSTATE, 3, 2)] with cpw := { ports := [(3, { reduce := some 0x500FA })] } }, by decide +kernel⟩,
   ⟨3, 40, { st [(Fld.CPW_PORT_STATUS.FUNC_STATE, 3, 2), (Fld.CPW_PORT_STATUS.CSTATE, 3, 4)] with cpw := { ports := [(3, { arm := 0 })] } }, by decide +kernel⟩,
   ⟨3, 40, { st [(Fld.CPW_PORT_STATUS.FUNC_STATE, 3, 2), (Fld.CPW_PORT_STATUS.CSTATE, 3, 2)] with cpw := { ports := [(3, { arm := 0 })] } }, by decide +kernel⟩⟩

/-- The premises of TimersAndFaultsOfACablePort can be met. -/
theorem test_premises_timers_and_faults_of_a_cable_port :
    (∃ (p vout iout : Nat) (s : State), (p < 16) ∧ (s.cpwFn p = Fn.on) ∧ (s.cstate p = Cs.transition) ∧ (s.pmbusIdle p = true) ∧ ((s.pwc p).inRange = 1) ∧ ((max (s.voutMv p vout) (20 * voltOf (s.pwc p).target) - min (s.voutMv p vout) (20 * voltOf (s.pwc p).target)) * 100 ≤ 3 * (20 * voltOf (s.pwc p).target)) ∧ (s.reaches (s.pwc p).pollAt = true)) ∧
    (∃ (p vout iout : Nat) (s : State), (p < 16) ∧ (s.cpwFn p = Fn.on) ∧ (s.cstate p ≠ Cs.transition)) ∧
    (∃ (p : Nat) (s : State), (p < 16) ∧ (s.cstate p = Cs.transition) ∧ (s.reaches ((s.pwc p).since + max 1 (s.fld Fld.CPW_CFG.TRANS_MS) * 1000000) = true)) ∧
    (∃ (p : Nat) (s : State), (p < 16) ∧ (s.cstate p = Cs.contract) ∧ (s.reaches ((s.pwc p).heard + 1500000000) = true)) ∧
    (∃ (p : Nat) (s : State), (p < 16) ∧ ((s.pwc p).reduce.isSome = true) ∧ (s.reaches ((s.pwc p).reduceAt + 10000000) = true)) ∧
    (∃ (p : Nat) (s : State), (p < 16) ∧ (s.cstate p = Cs.swapping) ∧ (s.bit Fld.CPW_PORT_STATUS.PEN p = true) ∧ (s.reaches ((s.pwc p).swapAt + 10000000) = true)) ∧
    (∃ (low : Bool) (words : List Nat) (p w : Nat) (s : State), (p < 16) ∧ (s.cstate p ≠ Cs.fault) ∧ ((p, w) ∈ (((List.range 16).filter fun q => s.laneOn q).filter fun q => s.cpwFn q == Fn.on).zip words)) ∧
    (∃ (p : Nat) (s : State), (p < 16) ∧ (s.cstate p = Cs.transition) ∧ ((s.pwc p).reverting = false) ∧ (s.bit Fld.CPW_PORT_STATUS.PFAULT p = true) ∧ (s.reaches ((s.pwc p).heard + 50000) = true)) ∧
    (∃ (p : Nat) (m : PwcMessage) (rest : List PwcMessage) (s : State), (p < 16) ∧ ((s.pwc p).line.outq = m :: rest) ∧ (m.type = 11) ∧ (2 ≤ m.again) ∧ (s.reaches ((s.pwc p).line.sentEnd + 40000) = true)) ∧
    (∃ (p : Nat) (s : State), (p < 16) ∧ (s.cpwFn p = Fn.on) ∧ (s.cstate p = Cs.fault) ∧ (s.bit Fld.CPW_PORT_STATUS.PEN p = false) ∧ (s.reaches (s.pwc p).waitEnd = true)) ∧
    (∃ (p : Nat) (s : State), (p < 16) ∧ (s.cstate p ≠ Cs.local)) ∧
    (∃ (target code v code2 v2 value : Nat) (rest : List (Nat × Nat)) (s : State), (s.cpw.bus = some (target, code, v)) ∧ (code ≠ 0x20) ∧ (s.pmbus target = (code2, v2) :: rest) ∧ ((([16, 17, 18, 19] ++ List.range 16).find? fun u => !(s.pmbus u).isEmpty) = some target)) ∧
    (∃ (p code v value : Nat) (s : State), (p < 16) ∧ (s.cpwFn p = Fn.on) ∧ (s.cpw.bus = some (p, code, v)) ∧ (s.pmbus p = []) ∧ (code ≠ 0x20) ∧ (code ≠ 0x01) ∧ (s.cstate p = Cs.swapping) ∧ (s.bit Fld.CPW_PORT_STATUS.PEN p = false)) ∧
    (∃ (p code v : Nat) (s : State), (p < 16) ∧ (s.cpwFn p = Fn.on) ∧ (s.cpw.bus = some (p, code, v))) :=
  ⟨⟨3, 2560, 0xD010, { st [(Fld.CPW_PORT_STATUS.FUNC_STATE, 3, 2), (Fld.CPW_PORT_STATUS.CSTATE, 3, 1)] with cpw := { ports := [(3, { inRange := 1, target := 0xF0FA })] } }, by decide +kernel⟩,
   ⟨3, 2560, 0xD010, { st [(Fld.CPW_PORT_STATUS.FUNC_STATE, 3, 2), (Fld.CPW_PORT_STATUS.CSTATE, 3, 2)] with cpw := { ports := [(3, { arm := 0 })] } }, by decide +kernel⟩,
   ⟨3, { st [(Fld.CPW_PORT_STATUS.FUNC_STATE, 3, 2), (Fld.CPW_PORT_STATUS.CSTATE, 3, 1)] with cpw := { ports := [(3, { arm := 0 })] } }, by decide +kernel⟩,
   ⟨3, { st [(Fld.CPW_PORT_STATUS.FUNC_STATE, 3, 2), (Fld.CPW_PORT_STATUS.CSTATE, 3, 2)] with cpw := { ports := [(3, { arm := 0 })] } }, by decide +kernel⟩,
   ⟨3, { st [(Fld.CPW_PORT_STATUS.FUNC_STATE, 3, 2), (Fld.CPW_PORT_STATUS.CSTATE, 3, 2)] with cpw := { ports := [(3, { reduce := some 5 })] } }, by decide +kernel⟩,
   ⟨3, { st [(Fld.CPW_PORT_STATUS.FUNC_STATE, 3, 2), (Fld.CPW_PORT_STATUS.CSTATE, 3, 3), (Fld.CPW_PORT_STATUS.PEN, 3, 1)] with cpw := { ports := [(3, { arm := 0 })] } }, by decide +kernel⟩,
   ⟨true, [0x8000], 3, 0x8000, { st [(Fld.CPW_PORT_STATUS.FUNC_STATE, 3, 2), (Fld.CPW_PORT_STATUS.CSTATE, 3, 2)] with cpw := { ports := [(3, { arm := 0 })] } }, by decide +kernel⟩,
   ⟨3, { st [(Fld.CPW_PORT_STATUS.FUNC_STATE, 3, 2), (Fld.CPW_PORT_STATUS.CSTATE, 3, 1), (Fld.CPW_PORT_STATUS.PFAULT, 3, 1)] with cpw := { ports := [(3, { arm := 0 })] } }, by decide +kernel⟩,
   ⟨3, { type := 11, id := 0, again := 2 }, [], { st [(Fld.CPW_PORT_STATUS.FUNC_STATE, 3, 2), (Fld.CPW_PORT_STATUS.CSTATE, 3, 2)] with cpw := { ports := [(3, { line := { outq := [{ type := 11, id := 0, again := 2 }] } })] } }, by decide +kernel⟩,
   ⟨3, { st [(Fld.CPW_PORT_STATUS.FUNC_STATE, 3, 2), (Fld.CPW_PORT_STATUS.CSTATE, 3, 6)] with cpw := { ports := [(3, { arm := 0 })] } }, by decide +kernel⟩,
   ⟨3, { st [(Fld.CPW_PORT_STATUS.FUNC_STATE, 3, 2)] with cpw := { ports := [(3, { arm := 0 })] } }, by decide +kernel⟩,
   ⟨3, 2, 0x1F, 0x47, 0xC0, 0, [], { st [(Fld.CPW_PORT_STATUS.FUNC_STATE, 3, 2)] with cpw := { ports := [(3, { arm := 0 })], bus := some (3, 2, 0x1F), pmbus := [(3, [(0x47, 0xC0)])] } }, by decide +kernel⟩,
   ⟨3, 0x21, 250, 0, { st [(Fld.CPW_PORT_STATUS.FUNC_STATE, 3, 2), (Fld.CPW_PORT_STATUS.CSTATE, 3, 3)] with cpw := { ports := [(3, { arm := 0xF0FA })], bus := some (3, 0x21, 250) } }, by decide +kernel⟩,
   ⟨3, 1, 0, { st [(Fld.CPW_PORT_STATUS.FUNC_STATE, 3, 2)] with cpw := { ports := [(3, { arm := 0 })], bus := some (3, 1, 0) } }, by decide +kernel⟩⟩

/-- The premises of CablePortsAreSwitchedAndCommanded can be met. -/
theorem test_premises_cable_ports_are_switched_and_commanded :
    (∃ (p : Nat) (s : State), (p < 16) ∧ (s.cpwFn p = Fn.off)) ∧
    (∃ (p : Nat) (s : State), (p < 16) ∧ (s.cpwFn p = Fn.on)) ∧
    (∃ (p : Nat) (s : State), (p < 16) ∧ (s.cpwFn p = Fn.enabling) ∧ (s.pmbusIdle p = true)) ∧
    (∃ (p : Nat) (s : State), (p < 16) ∧ (s.cpwFn p = Fn.disabling) ∧ (s.bit Fld.CPW_PORT_STATUS.PENDING_ENABLE p = false) ∧ (s.reaches (s.pwc p).waitEnd = true)) ∧
    (∃ (p : Nat) (s : State), (p < 16) ∧ (s.cpwFn p = Fn.on) ∧ (s.cstate p = Cs.contract)) ∧
    (∃ (tag : Nat) (s : State) (c : Cmd), (s.startable tag 0x48 = some c) ∧ (c.at 5 1 = 0) ∧ (s.cpwFn (c.at 4 1) = Fn.off) ∧ (c.at 4 1 < 16)) ∧
    (∃ (tag : Nat) (s : State) (c : Cmd), (s.startable tag 0x48 = some c) ∧ (c.at 5 1 = 0) ∧ (s.cpwFn (c.at 4 1) = Fn.on) ∧ (c.at 4 1 < 16) ∧ (s.takesCompletion c = true)) ∧
    (∃ (tag : Nat) (s : State) (c : Cmd), (s.startable tag 0x48 = some c) ∧ (c.at 5 1 = 1) ∧ (s.cpwFn (c.at 4 1) = Fn.on) ∧ ((s.pwc (c.at 4 1)).reduce = none) ∧ (c.at 4 1 < 16)) ∧
    (∃ (tag : Nat) (s : State) (c : Cmd), (s.startable tag 0x48 = some c) ∧ (c.at 5 1 = 2) ∧ (s.cpwFn (c.at 4 1) = Fn.on) ∧ (s.cstate (c.at 4 1) = Cs.contract) ∧ ((s.pwc (c.at 4 1)).reduce = none) ∧ (c.at 4 1 < 16) ∧ (s.takesCompletion c = true)) ∧
    (∃ (tag : Nat) (s : State) (c : Cmd), (s.startable tag 0x48 = some c) ∧ (c.at 5 1 = 3) ∧ (s.requestActive (c.at 4 1) = false) ∧ (s.cstate (c.at 4 1) = Cs.contract) ∧ (0 < currOf (c.at 8 4)) ∧ (currOf (c.at 8 4) < currOf (s.fld Fld.CPW_CONTRACT.CONTRACT (c.at 4 1))) ∧ ((s.pwc (c.at 4 1)).reduce = none) ∧ (c.at 4 1 < 16)) ∧
    (∃ (tag : Nat) (s : State) (c : Cmd), (s.startable tag 0x48 = some c) ∧ (c.at 5 1 = 4) ∧ (c.at 4 1 < 16) ∧ (s.takesCompletion c = true)) ∧
    (∃ (tag : Nat) (s : State) (c : Cmd), (s.startable tag 0x49 = some c) ∧ (s.takesCompletion c = true)) ∧
    (∃ (tag : Nat) (s : State) (c : Cmd), (s.startable tag 0x4A = some c) ∧ (s.canIssue (s.insFn c.ins) = true) ∧ (s.takesCompletion c = true)) :=
  ⟨⟨3, State.reset, by decide +kernel⟩,
   ⟨3, { st [(Fld.CPW_PORT_STATUS.FUNC_STATE, 3, 2), (Fld.CPW_PORT_STATUS.CSTATE, 3, 2)] with cpw := { ports := [(3, { arm := 0 })] } }, by decide +kernel⟩,
   ⟨3, st [(Fld.CPW_PORT_STATUS.FUNC_STATE, 3, 1)], by decide +kernel⟩,
   ⟨3, st [(Fld.CPW_PORT_STATUS.FUNC_STATE, 3, 3)], by decide +kernel⟩,
   ⟨3, { st [(Fld.CPW_PORT_STATUS.FUNC_STATE, 3, 2), (Fld.CPW_PORT_STATUS.CSTATE, 3, 2)] with cpw := { ports := [(3, { arm := 0 })] } }, by decide +kernel⟩,
   ⟨7, qst (cmdOf 0x48 [(4, 1, 3)]) [], cmdOf 0x48 [(4, 1, 3)], by decide +kernel⟩,
   ⟨7, qst (cmdOf 0x48 [(4, 1, 3)]) [(Fld.CPW_PORT_STATUS.FUNC_STATE, 3, 2)], cmdOf 0x48 [(4, 1, 3)], by decide +kernel⟩,
   ⟨7, qst (cmdOf 0x48 [(4, 1, 3), (5, 1, 1)]) [(Fld.CPW_PORT_STATUS.FUNC_STATE, 3, 2)], cmdOf 0x48 [(4, 1, 3), (5, 1, 1)], by decide +kernel⟩,
   ⟨7, qst (cmdOf 0x48 [(4, 1, 3), (5, 1, 2)]) [(Fld.CPW_PORT_STATUS.FUNC_STATE, 3, 2), (Fld.CPW_PORT_STATUS.CSTATE, 3, 2)], cmdOf 0x48 [(4, 1, 3), (5, 1, 2)], by decide +kernel⟩,
   ⟨7, qst (cmdOf 0x48 [(4, 1, 3), (5, 1, 3), (8, 4, 0x5000)]) [(Fld.CPW_PORT_STATUS.FUNC_STATE, 3, 2), (Fld.CPW_PORT_STATUS.CSTATE, 3, 2)], cmdOf 0x48 [(4, 1, 3), (5, 1, 3), (8, 4, 0x5000)], by decide +kernel⟩,
   ⟨7, qst (cmdOf 0x48 [(4, 1, 3), (5, 1, 4), (8, 4, 0xF0FA)]) [], cmdOf 0x48 [(4, 1, 3), (5, 1, 4), (8, 4, 0xF0FA)], by decide +kernel⟩,
   ⟨7, qst (cmdOf 0x49 [(8, 2, 1000)]) [], cmdOf 0x49 [(8, 2, 1000)], by decide +kernel⟩,
   ⟨7, qst (cmdOf 0x4A [(4, 1, 3), (8, 8, 0x8000)]) [], cmdOf 0x4A [(4, 1, 3), (8, 8, 0x8000)], by decide +kernel⟩⟩

/-- The premises of SinksKeepTheirSideOfAContract can be met. -/
theorem test_premises_sinks_keep_their_side_of_a_contract :
    (∃ (d id word ask : Nat) (levels : List Bool) (s : State), ((s.dev d).sink ≠ .unpowered) ∧ (pwcRead false levels = some (1, id, word)) ∧ ((s.dev d).sinkLine.lastRx ≠ some id) ∧ (ask ≠ 0) ∧ ((s.dev d).sink ≠ .local) ∧ (voltOf ask ≤ bitsAt word 0 12) ∧ (currOf ask ≤ bitsAt word 12 10) ∧ ((s.dev d).sinkSince ≤ s.chr.ns)) ∧
    (∃ (d id word : Nat) (levels : List Bool) (s : State), ((s.dev d).sink ≠ .unpowered) ∧ (pwcRead false levels = some (4, id, word)) ∧ ((s.dev d).sinkLine.lastRx ≠ some id) ∧ ((s.dev d).sink = .default) ∧ ((s.dev d).sinkAsked ≠ 0)) ∧
    (∃ (d id word : Nat) (levels : List Bool) (s : State), ((s.dev d).sink ≠ .unpowered) ∧ (pwcRead false levels = some (6, id, word)) ∧ ((s.dev d).sinkLine.lastRx ≠ some id) ∧ ((s.dev d).sink = .transition)) ∧
    (∃ (d id word : Nat) (levels : List Bool) (s : State), ((s.dev d).sink ≠ .unpowered) ∧ (pwcRead false levels = some (10, id, word)) ∧ ((s.dev d).sinkLine.lastRx ≠ some id)) ∧
    (∃ (d id word : Nat) (levels : List Bool) (s : State), ((s.dev d).sink ≠ .unpowered) ∧ (pwcRead false levels = some (11, id, word))) ∧
    (∃ (d id word : Nat) (levels : List Bool) (s : State), ((s.dev d).sink ≠ .unpowered) ∧ (pwcRead false levels = some (5, id, word)) ∧ ((s.dev d).sinkLine.lastRx ≠ some id)) ∧
    (∃ (d : Nat) (s : State), ((s.dev d).sink = .local)) ∧
    (∃ (d : Nat) (s : State), ((s.dev d).sink = .unpowered)) ∧
    (∃ (d : Nat) (s : State), ((s.dev d).sink = .contract ∨ (s.dev d).sink = .local) ∧ (s.reaches (s.dev d).sinkAliveAt = true)) ∧
    (∃ (d : Nat) (s : State), ((s.dev d).sink = .transition) ∧ (s.reaches (s.dev d).sinkBeatAt = true)) :=
  ⟨⟨2, 1, 0x3FFFFF, 0xF0FA, (pwcWire false 1 1 (toBytes 0x3FFFFF 4)), { State.reset with devs := [(2, { sink := .default })] }, by decide +kernel⟩,
   ⟨2, 1, 5, (pwcWire false 4 1 (toBytes 5 4)), { State.reset with devs := [(2, { sink := .default, sinkAsked := 5 })] }, by decide +kernel⟩,
   ⟨2, 1, 5, (pwcWire false 6 1 (toBytes 5 4)), { State.reset with devs := [(2, { sink := .transition })] }, by decide +kernel⟩,
   ⟨2, 1, 5, (pwcWire false 10 1 (toBytes 5 4)), { State.reset with devs := [(2, { sink := .contract })] }, by decide +kernel⟩,
   ⟨2, 1, 0, (pwcWire false 11 1 (toBytes 0 0)), { State.reset with devs := [(2, { sink := .contract })] }, by decide +kernel⟩,
   ⟨2, 1, 12, (pwcWire false 5 1 (toBytes 12 1)), { State.reset with devs := [(2, { sink := .contract })] }, by decide +kernel⟩,
   ⟨2, { State.reset with devs := [(2, { sink := .local, sinkArm := 7 })] }, by decide +kernel⟩,
   ⟨2, State.reset, by decide +kernel⟩,
   ⟨2, { State.reset with devs := [(2, { sink := .contract, sinkAliveAt := 9 })] }, by decide +kernel⟩,
   ⟨2, { State.reset with devs := [(2, { sink := .transition, sinkBeatAt := 9 })] }, by decide +kernel⟩⟩

/-- The premises of LanesTrainStepByStep can be met. -/
theorem test_premises_lanes_train_step_by_step :
    (∃ (n off k run : Nat) (s : State), (s.trains n = true) ∧ (s.lstate n = Ls.detect) ∧ ((s.lane n).idle = false) ∧ (s.noSignal n = false) ∧ (s.lockHeld n = false) ∧ ((s.lane n).peerLocked = true) ∧ (n < 19 → s.bit Fld.LNK_CFG.SW_ALIGN n = false) ∧ ((if (s.lane n).gen = 3 then 64 else 4) ≤ run)) ∧
    (∃ (n word : Nat) (s : State), (s.trains n = true) ∧ (s.lstate n = Ls.detect) ∧ (word % 256 = 0x21) ∧ (bitAt word 8 = true) ∧ (s.lockHeld n = true) ∧ ((s.lane n).idle = false)) ∧
    (∃ (n word : Nat) (s : State), (s.trains n = true) ∧ (s.lstate n = Ls.confirm) ∧ (word % 256 = 0x21) ∧ (bitAt word 9 = true) ∧ (bitAt word 10 = false) ∧ ((s.lane n).idle = false) ∧ (15 ≤ (s.lane n).readyRun) ∧ ((s.lane n).eqFail = false) ∧ ((s.lane n).entered + setsTime (s.lane n).gen (.train true true true true) 16 ≤ s.chr.ns)) ∧
    (∃ (n word : Nat) (s : State), (s.trains n = true) ∧ (s.lstate n = Ls.caps) ∧ (word % 256 = 0x22) ∧ (partner (s.laneKind n) (bitsAt word 8 4) = false)) ∧
    (∃ (n word : Nat) (s : State), (s.trains n = true) ∧ (s.lstate n = Ls.caps) ∧ (word % 256 = 0x22) ∧ (bitAt word 17 = true) ∧ (partner (s.laneKind n) (bitsAt word 8 4) = true) ∧ ((s.lane n).caps = some (word % 2 ^ 64 - 2 ^ 17)) ∧ ((s.lane n).capsRun = 3) ∧ (min (s.ownGen n) (max 1 (bitsAt word 12 2)) = (s.lane n).gen ∨ auxLane n = true) ∧ (n < 19 → s.bit Fld.LNK_CFG.EQ_FIXED n = false)) ∧
    (∃ (n word : Nat) (s : State), (s.trains n = true) ∧ (s.lstate n = Ls.caps) ∧ (word % 256 = 0x22) ∧ (bitAt word 17 = true) ∧ (partner (s.laneKind n) (bitsAt word 8 4) = true) ∧ ((s.lane n).caps = some (word % 2 ^ 64 - 2 ^ 17)) ∧ ((s.lane n).capsRun = 3) ∧ (min (s.ownGen n) (max 1 (bitsAt word 12 2)) ≠ (s.lane n).gen) ∧ (auxLane n = false)) ∧
    (∃ (n : Nat) (s : State), (s.trains n = true) ∧ (isU n = true) ∧ (s.lstate n = Ls.caps) ∧ ((s.lane n).trainSeen = true) ∧ ((s.lane n).caps = none) ∧ (partner (s.laneKind n) 4 = true) ∧ (s.reaches ((s.lane n).entered + 2000000) = true)) ∧
    (∃ (n t0 : Nat) (s : State), (s.trains n = true) ∧ (s.lstate n = Ls.genSwitch) ∧ ((s.lane n).goAt = some t0) ∧ (s.reaches (t0 + 2000) = true)) ∧
    (∃ (n word : Nat) (s : State), (s.trains n = true) ∧ (isU n = false) ∧ (auxLane n = false) ∧ (s.lstate n = Ls.caps) ∧ (word % 256 = 0x23) ∧ (bitsAt word 16 4 ≠ 0)) ∧
    (∃ (n : Nat) (eyes : List Nat) (s : State), (s.trains n = true) ∧ (s.lstate n = Ls.eq) ∧ (s.reaches ((s.lane n).entered + if (s.lane n).gen = 1 then 960000 else 12500000) = true)) ∧
    (∃ (n word : Nat) (s : State), (s.trains n = true) ∧ (s.lstate n = Ls.eq ∨ s.lstate n = Ls.confirm) ∧ (word % 256 = 0x24) ∧ (bitAt word 13 = false) ∧ ((s.lane n).gen ≠ 1)) ∧
    (∃ (n : Nat) (s : State), (s.trains n = true) ∧ (s.lstate n = Ls.caps) ∧ ((s.lane n).idle = false) ∧ ((isU n && (s.lane n).trainSeen && (s.lane n).caps == none) = false) ∧ (n < 19 → s.fld Fld.LNK_CFG.MAX_ATTEMPTS n = 0) ∧ (s.reaches ((s.lane n).entered + 2000000) = true)) ∧
    (∃ (n : Nat) (s : State), (isEnd n = true) ∧ ((s.lane n).idle = true) ∧ (s.reaches ((s.lane n).entered + 10000000) = true)) :=
  ⟨⟨3, 5, 300, 4, { st [(Fld.LNK_STATUS.STATE, 3, 1)] with lanes := [(3, { gen := 2, peerLocked := true })] }, by decide +kernel⟩,
   ⟨3, 0x0121, { st [(Fld.LNK_STATUS.STATE, 3, 1),  (Fld.LNK_ALIGN.LOCKED, 3, 1)] with lanes := [(3, { gen := 2 })] }, by decide +kernel⟩,
   ⟨3, 0x0321, { st [(Fld.LNK_STATUS.STATE, 3, 6)] with lanes := [(3, { gen := 2, readyRun := 15 })] , chr := { ns := 5000 } }, by decide +kernel⟩,
   ⟨3, 0x2122, { st [(Fld.LNK_STATUS.STATE, 3, 2)] with lanes := [(3, { gen := 2 })] }, by decide +kernel⟩,
   ⟨3, 0x22222, { st [(Fld.LNK_STATUS.STATE, 3, 2), (Fld.LNK_CFG.MAX_GEN, 3, 3)] with lanes := [(3, { gen := 2, caps := some 0x2222, capsRun := 3 })] }, by decide +kernel⟩,
   ⟨3, 0x23222, { st [(Fld.LNK_STATUS.STATE, 3, 2), (Fld.LNK_CFG.MAX_GEN, 3, 3)] with lanes := [(3, { gen := 2, caps := some 0x3222, capsRun := 3 })] }, by decide +kernel⟩,
   ⟨3, { st [(Fld.LNK_STATUS.STATE, 3, 2)] with lanes := [(3, { gen := 2, trainSeen := true })] }, by decide +kernel⟩,
   ⟨3, 7, { st [(Fld.LNK_STATUS.STATE, 3, 3)] with lanes := [(3, { gen := 2, target := 3, goAt := some 7 })] }, by decide +kernel⟩,
   ⟨96, 0xF0323, { State.reset with lanes := [(96, { st := 2 })] }, by decide +kernel⟩,
   ⟨3, [20, 23, 23], { st [(Fld.LNK_STATUS.STATE, 3, 5)] with lanes := [(3, { gen := 2 })] }, by decide +kernel⟩,
   ⟨3, 0x1424, { st [(Fld.LNK_STATUS.STATE, 3, 5)] with lanes := [(3, { gen := 2 })] }, by decide +kernel⟩,
   ⟨3, { st [(Fld.LNK_STATUS.STATE, 3, 2), (Fld.LNK_CFG.MAX_ATTEMPTS, 3, 0)] with lanes := [(3, { gen := 2 })] }, by decide +kernel⟩,
   ⟨3, { st [(Fld.LNK_STATUS.STATE, 3, 1)] with lanes := [(3, { gen := 2, idle := true })] }, by decide +kernel⟩⟩

/-- The premises of LanesAreSwitchedRetrainedAndLost can be met. -/
theorem test_premises_lanes_are_switched_retrained_and_lost :
    (∃ (n : Nat) (s : State), (n < 19) ∧ (s.fld Fld.LNK_STATUS.FUNC_STATE n = Fn.off)) ∧
    (∃ (n : Nat) (s : State), (n < 19) ∧ (s.lstate n = Ls.up) ∧ (s.fld Fld.LNK_STATUS.FUNC_STATE n = Fn.on) ∧ ((s.lane n).idle = false)) ∧
    (∃ (n : Nat) (s : State), (n < 19) ∧ (s.fld Fld.LNK_STATUS.FUNC_STATE n = Fn.disabling) ∧ (s.bit Fld.LNK_STATUS.PENDING_ENABLE n = false) ∧ (n = 18 → s.fld Fld.PAIR_STATUS.FUNC_STATE ≠ Fn.disabling)) ∧
    (∃ (n : Nat) (s : State), (isEnd n = true) ∧ (s.lstate n = Ls.up)) ∧
    (∃ (n : Nat) (s : State), (n < 19) ∧ (s.lstate n = Ls.up)) ∧
    (∃ (n word : Nat) (s : State), (isEnd n = true) ∧ (s.lstate n = Ls.up) ∧ (word % 256 = 0x2E) ∧ (bitAt word 8 = false)) ∧
    (∃ (n word : Nat) (s : State), (isEnd n = true) ∧ (s.lstate n = Ls.up) ∧ (word % 256 = 0x2E) ∧ (bitAt word 8 = true)) ∧
    (∃ (n : Nat) (s : State), (n < 19) ∧ (s.lstate n = Ls.up)) ∧
    (∃ (n code : Nat) (rd : Bool) (s : State), (n < 19) ∧ (s.lstate n = Ls.up) ∧ (validCode (s.lane n).gen code rd = false) ∧ (s.fld Fld.LNK_ERR_CFG.THRESH n = 1)) ∧
    (∃ (n block : Nat) (s : State), (n < 19) ∧ (knownType (block % 256) = false) ∧ ((n == 18 && mirrorType (block % 256)) = false)) ∧
    (∃ (n : Nat) (inside : Bool) (pos : Int) (s : State), (n < 19) ∧ (inside = true ∨ s.mayBegin n pos = false)) ∧
    (∃ (n t0 : Nat) (s : State), (isEnd n = true) ∧ (s.lstate n = Ls.up) ∧ ((s.lane n).lostAt = some t0) ∧ ((s.lane n).linkOff = false) ∧ (s.reaches (t0 + 10000) = true)) ∧
    (∃ (n word : Nat) (s : State), (isEnd n = true) ∧ (isU n = true) ∧ (s.lstate n = Ls.up) ∧ (word % 256 = 0x2F) ∧ (bitAt word 8 = false)) ∧
    (∃ (n word : Nat) (s : State), (isEnd n = true) ∧ (isU n = false) ∧ (s.lstate n = Ls.up) ∧ (word % 256 = 0x2F) ∧ (bitAt word 8 = true)) ∧
    (∃ (n : Nat) (s : State), (isEnd n = true) ∧ (s.laneOn n = true)) ∧
    (∃ (n : Nat) (s : State), (n < 19) ∧ (n ≠ 16) ∧ (s.lstate n = Ls.up)) ∧
    (∃ (n : Nat) (s : State), (n < 19) ∧ (s.lstate n = Ls.lowPower) ∧ ((s.lane n).bursts = 0)) ∧
    (∃ (n : Nat) (s : State), (isEnd n = true) ∧ (s.lstate n = Ls.lowPower) ∧ ((s.lane n).bursts ≠ 0) ∧ ((s.lane n).bursts < 200) ∧ (s.reaches ((s.lane n).began + (s.lane n).bursts * 1000000) = true)) ∧
    (∃ (n : Nat) (s : State), (isEnd n = true) ∧ (s.lstate n = Ls.lowPower) ∧ (200 ≤ (s.lane n).bursts) ∧ (s.reaches ((s.lane n).began + (s.lane n).bursts * 1000000) = true)) ∧
    (∃ (n : Nat) (s : State), (n < 19) ∧ (s.bit Fld.LNK_CFG.SW_ALIGN n = true)) :=
  ⟨⟨18, State.reset, by decide +kernel⟩,
   ⟨16, { st [(Fld.LNK_STATUS.STATE, 16, 7), (Fld.LNK_STATUS.FUNC_STATE, 16, 2)] with lanes := [(16, { gen := 2 })] }, by decide +kernel⟩,
   ⟨18, st [(Fld.LNK_STATUS.FUNC_STATE, 18, 3)], by decide +kernel⟩,
   ⟨3, { st [(Fld.LNK_STATUS.STATE, 3, 7)] with lanes := [(3, { gen := 2 })] }, by decide +kernel⟩,
   ⟨3, { st [(Fld.LNK_STATUS.STATE, 3, 7)] with lanes := [(3, { gen := 2 })] }, by decide +kernel⟩,
   ⟨3, 0x2E, { st [(Fld.LNK_STATUS.STATE, 3, 7)] with lanes := [(3, { gen := 2 })] }, by decide +kernel⟩,
   ⟨3, 0x12E, { st [(Fld.LNK_STATUS.STATE, 3, 7)] with lanes := [(3, { gen := 2 })] }, by decide +kernel⟩,
   ⟨3, { st [(Fld.LNK_STATUS.STATE, 3, 7)] with lanes := [(3, { gen := 2 })] }, by decide +kernel⟩,
   ⟨3, 0, false, { st [(Fld.LNK_STATUS.STATE, 3, 7), (Fld.LNK_ERR_CFG.THRESH, 3, 1)] with lanes := [(3, { gen := 2 })] }, by decide +kernel⟩,
   ⟨18, 0x99, State.reset, by decide +kernel⟩,
   ⟨0, false, 9, State.reset, by decide +kernel⟩,
   ⟨3, 5, { st [(Fld.LNK_STATUS.STATE, 3, 7)] with lanes := [(3, { gen := 2, lostAt := some 5 })] }, by decide +kernel⟩,
   ⟨3, 0x2F, { st [(Fld.LNK_STATUS.STATE, 3, 7)] with lanes := [(3, { gen := 2 })] }, by decide +kernel⟩,
   ⟨16, 0x12F, { st [(Fld.LNK_STATUS.STATE, 16, 7)] with lanes := [(16, { gen := 2 })] }, by decide +kernel⟩,
   ⟨3, { st [(Fld.LNK_STATUS.STATE, 3, 7)] with lanes := [(3, { gen := 2 })] }, by decide +kernel⟩,
   ⟨3, { st [(Fld.LNK_STATUS.STATE, 3, 7)] with lanes := [(3, { gen := 2 })] }, by decide +kernel⟩,
   ⟨3, { st [(Fld.LNK_STATUS.STATE, 3, 9)] with lanes := [(3, { gen := 2 })] }, by decide +kernel⟩,
   ⟨3, { st [(Fld.LNK_STATUS.STATE, 3, 9)] with lanes := [(3, { gen := 2, bursts := 199 })] }, by decide +kernel⟩,
   ⟨3, { st [(Fld.LNK_STATUS.STATE, 3, 9)] with lanes := [(3, { gen := 2, bursts := 200 })] }, by decide +kernel⟩,
   ⟨3, { st [(Fld.LNK_STATUS.STATE, 3, 1), (Fld.LNK_CFG.SW_ALIGN, 3, 1), (Fld.LNK_ALIGN.OFFSET, 3, 9)] with lanes := [(3, { gen := 2 })] }, by decide +kernel⟩⟩

/-- The premises of NodeTableCommandsActOrAreRefused can be met. -/
theorem test_premises_node_table_commands_act_or_are_refused :
    (∃ (a : Nat) (s : State), (a = s.fld Fld.TRE_NODE_INDEX.INDEX) ∧ (a ≠ 0) ∧ (a < 4095) ∧ ((s.node a).state = .free ∨ (s.node a).state = .absent) ∧ (tget 0 s.tree.staged 3 % 16 ≤ 1)) ∧
    (∃ (a : Nat) (s : State), (a = s.fld Fld.TRE_NODE_INDEX.INDEX) ∧ (a = 0 ∨ 4095 ≤ a ∨ ((s.node a).state ≠ .free ∧ (s.node a).state ≠ .absent) ∨ 1 < tget 0 s.tree.staged 3 % 16)) ∧
    (∃ (a : Nat) (s : State), (a = s.fld Fld.TRE_NODE_INDEX.INDEX) ∧ (a ≠ 0) ∧ (a < 4095) ∧ ((s.node a).state = .absent)) ∧
    (∃ (a : Nat) (s : State), (a = s.fld Fld.TRE_NODE_INDEX.INDEX) ∧ (a = 0 ∨ 4095 ≤ a ∨ (s.node a).state ≠ .absent)) ∧
    (∃ (a : Nat) (s : State), (a = s.fld Fld.TRE_NODE_INDEX.INDEX) ∧ (a ≠ 0) ∧ (a < 4095) ∧ ((s.node a).state = .active ∨ (s.node a).state = .suspect)) ∧
    (∃ (a : Nat) (s : State), (a = s.fld Fld.TRE_NODE_INDEX.INDEX) ∧ (a = 0 ∨ 4095 ≤ a ∨ ((s.node a).state ≠ .active ∧ (s.node a).state ≠ .suspect))) ∧
    (∃ (a : Nat) (s : State), (a = s.fld Fld.TRE_NODE_INDEX.INDEX) ∧ (a ≠ 0) ∧ (a < 4095) ∧ ((s.node a).state = .quarantine)) ∧
    (∃ (a : Nat) (s : State), (a = s.fld Fld.TRE_NODE_INDEX.INDEX) ∧ (a = 0 ∨ 4095 ≤ a ∨ (s.node a).state ≠ .quarantine)) :=
  ⟨⟨9, { st [(Fld.TRE_NODE_INDEX.INDEX, 0, 9), (Fld.TRE_NODE_STATUS.REFUSED, 0, 1)] with tree := { nodes := [], recs := [], staged := [(0, 0x123), (1, 0x64161F6E), (2, 77), (3, 0x05003081)] } }, by decide +kernel⟩,
   ⟨9, { st [(Fld.TRE_NODE_INDEX.INDEX, 0, 9), (Fld.TRE_NODE_STATUS.DONE, 0, 1)] with tree := { nodes := [(9, { state := .active })], recs := [], staged := [(0, 0x123), (1, 0x64161F6E), (2, 77), (3, 0x05003081)] } }, by decide +kernel⟩,
   ⟨4094, { st [(Fld.TRE_NODE_INDEX.INDEX, 0, 4094), (Fld.TRE_NODE_STATUS.REFUSED, 0, 1)] with tree := { nodes := [(4094, { state := .absent, template := true, serial := 6 })], recs := [], staged := [] } }, by decide +kernel⟩,
   ⟨9, { st [(Fld.TRE_NODE_INDEX.INDEX, 0, 9), (Fld.TRE_NODE_STATUS.DONE, 0, 1)] with tree := { nodes := [], recs := [], staged := [] } }, by decide +kernel⟩,
   ⟨1, { st [(Fld.TRE_NODE_INDEX.INDEX, 0, 1), (Fld.TRE_NODE_STATUS.REFUSED, 0, 1)] with tree := { nodes := [(1, { state := .suspect })], recs := [], staged := [] } }, by decide +kernel⟩,
   ⟨0, { st [(Fld.TRE_NODE_INDEX.INDEX, 0, 0), (Fld.TRE_NODE_STATUS.REFUSED, 0, 1)] with tree := { nodes := [], recs := [], staged := [] } }, by decide +kernel⟩,
   ⟨1, { st [(Fld.TRE_NODE_INDEX.INDEX, 0, 1), (Fld.TRE_NODE_STATUS.REFUSED, 0, 1)] with tree := { nodes := [(1, { state := .quarantine })], recs := [], staged := [] } }, by decide +kernel⟩,
   ⟨4095, { st [(Fld.TRE_NODE_INDEX.INDEX, 0, 4095), (Fld.TRE_NODE_STATUS.REFUSED, 0, 1)] with tree := { nodes := [], recs := [], staged := [] } }, by decide +kernel⟩⟩

/-- The premises of NodeOperationsActOrAreRefused can be met. -/
theorem test_premises_node_operations_act_or_are_refused :
    (∃ (tag : Nat) (s : State) (c : Cmd), (s.startable tag 0x13 = some c) ∧ (c.at 4 1 = 0) ∧ (c.at 8 2 ≠ 0) ∧ (c.at 8 2 < 4095) ∧ ((s.node (c.at 8 2)).state = .free ∨ (s.node (c.at 8 2)).state = .absent) ∧ (c.at 28 4 % 16 ≤ 1) ∧ (s.takesCompletion c = true)) ∧
    (∃ (tag : Nat) (s : State) (c : Cmd), (s.startable tag 0x13 = some c) ∧ (c.at 4 1 = 0) ∧ (c.at 8 2 = 0 ∨ 4095 ≤ c.at 8 2 ∨ ((s.node (c.at 8 2)).state ≠ .free ∧ (s.node (c.at 8 2)).state ≠ .absent) ∨ 1 < c.at 28 4 % 16) ∧ (s.takesCompletion c = true)) ∧
    (∃ (tag : Nat) (s : State) (c : Cmd), (s.startable tag 0x13 = some c) ∧ (c.at 4 1 = 1) ∧ (c.at 8 2 ≠ 0) ∧ (c.at 8 2 < 4095) ∧ ((s.node (c.at 8 2)).state = .absent) ∧ (s.takesCompletion c = true)) ∧
    (∃ (tag : Nat) (s : State) (c : Cmd), (s.startable tag 0x13 = some c) ∧ (c.at 4 1 = 1) ∧ (c.at 8 2 = 0 ∨ 4095 ≤ c.at 8 2 ∨ (s.node (c.at 8 2)).state ≠ .absent) ∧ (s.takesCompletion c = true)) ∧
    (∃ (tag : Nat) (s : State) (c : Cmd), (s.startable tag 0x13 = some c) ∧ (c.at 4 1 = 2) ∧ (c.at 8 2 ≠ 0) ∧ (c.at 8 2 < 4095) ∧ ((s.node (c.at 8 2)).state = .active ∨ (s.node (c.at 8 2)).state = .suspect) ∧ (s.takesCompletion c = true)) ∧
    (∃ (tag : Nat) (s : State) (c : Cmd), (s.startable tag 0x13 = some c) ∧ (c.at 4 1 = 2) ∧ (c.at 8 2 = 0 ∨ 4095 ≤ c.at 8 2 ∨ ((s.node (c.at 8 2)).state ≠ .active ∧ (s.node (c.at 8 2)).state ≠ .suspect)) ∧ (s.takesCompletion c = true)) ∧
    (∃ (tag : Nat) (s : State) (c : Cmd), (s.startable tag 0x13 = some c) ∧ (c.at 4 1 = 3) ∧ (c.at 8 2 ≠ 0) ∧ (c.at 8 2 < 4095) ∧ ((s.node (c.at 8 2)).state = .quarantine) ∧ (s.takesCompletion c = true)) ∧
    (∃ (tag : Nat) (s : State) (c : Cmd), (s.startable tag 0x13 = some c) ∧ (c.at 4 1 = 3) ∧ (c.at 8 2 = 0 ∨ 4095 ≤ c.at 8 2 ∨ (s.node (c.at 8 2)).state ≠ .quarantine) ∧ (s.takesCompletion c = true)) ∧
    (∃ (tag : Nat) (s : State) (c : Cmd), (s.startable tag 0x13 = some c) ∧ (c.at 4 1 = 4) ∧ (s.canIssue (s.insFn c.ins) = true) ∧ (s.takesCompletion c = true)) ∧
    (∃ (tag : Nat) (s : State) (c : Cmd), (s.startable tag 0x13 = some c) ∧ (c.at 4 1 = 5) ∧ (s.takesCompletion c = true)) :=
  ⟨⟨7, { qst (cmdOf 0x13 [(4, 1, 0), (8, 2, 9), (24, 4, 77), (28, 4, 1)]) [] with tree := { nodes := [] } }, cmdOf 0x13 [(4, 1, 0), (8, 2, 9), (24, 4, 77), (28, 4, 1)], by decide +kernel⟩,
   ⟨7, { qst (cmdOf 0x13 [(4, 1, 0), (8, 2, 9), (28, 4, 2)]) [] with tree := { nodes := [] } }, cmdOf 0x13 [(4, 1, 0), (8, 2, 9), (28, 4, 2)], by decide +kernel⟩,
   ⟨7, { qst (cmdOf 0x13 [(4, 1, 1), (8, 2, 9)]) [] with tree := { nodes := [(9, { state := .absent, template := true })] } }, cmdOf 0x13 [(4, 1, 1), (8, 2, 9)], by decide +kernel⟩,
   ⟨7, { qst (cmdOf 0x13 [(4, 1, 1), (8, 2, 9)]) [] with tree := { nodes := [] } }, cmdOf 0x13 [(4, 1, 1), (8, 2, 9)], by decide +kernel⟩,
   ⟨7, { qst (cmdOf 0x13 [(4, 1, 2), (8, 2, 9)]) [] with tree := { nodes := [(9, { state := .active })] } }, cmdOf 0x13 [(4, 1, 2), (8, 2, 9)], by decide +kernel⟩,
   ⟨7, { qst (cmdOf 0x13 [(4, 1, 2), (8, 2, 9)]) [] with tree := { nodes := [] } }, cmdOf 0x13 [(4, 1, 2), (8, 2, 9)], by decide +kernel⟩,
   ⟨7, { qst (cmdOf 0x13 [(4, 1, 3), (8, 2, 9)]) [] with tree := { nodes := [(9, { state := .quarantine })] } }, cmdOf 0x13 [(4, 1, 3), (8, 2, 9)], by decide +kernel⟩,
   ⟨7, { qst (cmdOf 0x13 [(4, 1, 3), (8, 2, 9)]) [] with tree := { nodes := [] } }, cmdOf 0x13 [(4, 1, 3), (8, 2, 9)], by decide +kernel⟩,
   ⟨7, { qst (cmdOf 0x13 [(4, 1, 4), (8, 2, 9), (40, 8, 0x8000)]) [] with tree := { nodes := [(9, { state := .active, serial := 5 })] } }, cmdOf 0x13 [(4, 1, 4), (8, 2, 9), (40, 8, 0x8000)], by decide +kernel⟩,
   ⟨7, { qst (cmdOf 0x13 [(4, 1, 5), (8, 2, 8)]) [] with tree := { trees := [(3, { failed := [{ port := 3 }] })] } }, cmdOf 0x13 [(4, 1, 5), (8, 2, 8)], by decide +kernel⟩⟩

/-- The premises of EnumerationsAskStepByStep can be met. -/
theorem test_premises_enumerations_ask_step_by_step :
    (∃ (p : Nat) (l : Location) (rest : List Location) (s : State), (p < 16) ∧ ((s.treeOf p).job = none) ∧ ((s.treeOf p).queue = l :: rest) ∧ (s.enumerates l = true) ∧ (s.portUp p = true) ∧ (s.presentAt l = none) ∧ (l.tier = 0)) ∧
    (∃ (p : Nat) (l : Location) (rest : List Location) (s : State), (p < 16) ∧ ((s.treeOf p).job = none) ∧ ((s.treeOf p).queue = l :: rest) ∧ (s.enumerates l = true) ∧ (s.portUp p = true) ∧ (s.presentAt l = none) ∧ (l.tier ≠ 0) ∧ ((s.node l.parent).state = .active)) ∧
    (∃ (p k gen : Nat) (data : List Byte) (legacy : Bool) (j : EnumJob) (s : State), ((s.treeOf p).job = some j) ∧ (j.asking = true) ∧ (s.enumerates j.loc = true) ∧ (j.conv = some k) ∧ (s.conv.answers.lookup k = some (St.timeout, data)) ∧ (j.retries < s.fld Fld.TRE_CFG.ENUM_RETRIES)) ∧
    (∃ (p k status gen : Nat) (data : List Byte) (legacy : Bool) (j : EnumJob) (s : State), ((s.treeOf p).job = some j) ∧ (j.asking = true) ∧ (s.enumerates j.loc = true) ∧ (j.conv = some k) ∧ (s.conv.answers.lookup k = some (status, data)) ∧ (status ≠ St.success) ∧ (status ≠ St.short) ∧ (status = St.timeout → s.fld Fld.TRE_CFG.ENUM_RETRIES ≤ j.retries) ∧ (j.addr = 0) ∧ (p < 16)) ∧
    (∃ (p k gen a : Nat) (data : List Byte) (legacy : Bool) (j : EnumJob) (s : State), ((s.treeOf p).job = some j) ∧ (j.asking = true) ∧ (s.enumerates j.loc = true) ∧ (j.conv = some k) ∧ (s.conv.answers.lookup k = some (St.success, data)) ∧ (j.step = 2) ∧ (j.loc.tier = 0) ∧ (ofBytes (data.take 1) = 64) ∧ (ofBytes ((data.drop 2).take 2) = 0x0100) ∧ (s.chooseAddr j.loc (ofBytes ((data.drop 4).take 2)) (ofBytes ((data.drop 6).take 2)) (ofBytes ((data.drop 8).take 4)) = some (a, 3)) ∧ (1 ≤ a) ∧ (a < 4095)) ∧
    (∃ (p k gen : Nat) (data : List Byte) (legacy : Bool) (j : EnumJob) (s : State), ((s.treeOf p).job = some j) ∧ (j.asking = true) ∧ (s.enumerates j.loc = true) ∧ (j.conv = some k) ∧ (s.conv.answers.lookup k = some (St.success, data)) ∧ (j.step = 5) ∧ (j.loc.tier = 0) ∧ (1 ≤ j.addr) ∧ (j.addr < 4095)) ∧
    (∃ (p k gen : Nat) (data : List Byte) (legacy : Bool) (j : EnumJob) (s : State), ((s.treeOf p).job = some j) ∧ (j.asking = true) ∧ (s.enumerates j.loc = true) ∧ (j.conv = some k) ∧ (s.conv.answers.lookup k = some (St.success, data)) ∧ (j.step = 10) ∧ (s.tick < j.applyTick) ∧ (1 ≤ j.addr) ∧ (j.addr < 4095)) ∧
    (∃ (p k t0 : Nat) (c : Conv) (j : EnumJob) (s : State), ((s.treeOf p).job = some j) ∧ (j.asking = true) ∧ (s.enumerates j.loc = true) ∧ (j.conv = some k) ∧ (s.convOf k = some c) ∧ (c.setupAt = some t0) ∧ (j.retries < s.fld Fld.TRE_CFG.ENUM_RETRIES) ∧ (s.reaches (t0 + max 1 (s.fld Fld.TRE_CFG.ENUM_STEP_US) * 1000) = true)) :=
  ⟨⟨3, { port := 3 }, [], { st [(Fld.TRE_CTRL.ENUM_EN, 0, 1), (Fld.LNK_STATUS.STATE, 3, 7)] with tree := { trees := [(3, { queue := [{ port := 3 }] })] } }, by decide +kernel⟩,
   ⟨3, { port := 3, route := 5, tier := 1, parent := 6, hubPort := 5 }, [], { st [(Fld.TRE_CTRL.ENUM_EN, 0, 1), (Fld.LNK_STATUS.STATE, 3, 7)] with tree := { trees := [(3, { queue := [{ port := 3, route := 5, tier := 1, parent := 6, hubPort := 5 }] })], nodes := [(6, { state := .active, hub := true, port := 3 })] } }, by decide +kernel⟩,
   ⟨3, 8, 0, [], false, { loc := { port := 3 }, step := 2, conv := some 8 }, { st [(Fld.TRE_CTRL.ENUM_EN, 0, 1), (Fld.LNK_STATUS.STATE, 3, 7), (Fld.TRE_CFG.ENUM_RETRIES, 0, 3)] with tree := { trees := [(3, { job := some { loc := { port := 3 }, step := 2, conv := some 8 } })] }, conv := { answers := [(8, (St.timeout, []))] } }, by decide +kernel⟩,
   ⟨3, 8, St.stalled, 0, [], false, { loc := { port := 3 }, step := 2, conv := some 8 }, { st [(Fld.TRE_CTRL.ENUM_EN, 0, 1), (Fld.LNK_STATUS.STATE, 3, 7)] with tree := { trees := [(3, { job := some { loc := { port := 3 }, step := 2, conv := some 8 } })] }, conv := { answers := [(8, (St.stalled, []))] } }, by decide +kernel⟩,
   ⟨3, 8, 0, 1, (([64, 0, 0, 1, 0x6E, 0x1F, 5, 0, 9, 0, 0, 0] : List Byte) ++ List.replicate 52 0), false, { loc := { port := 3 }, step := 2, conv := some 8 }, { st [(Fld.TRE_CTRL.ENUM_EN, 0, 1), (Fld.LNK_STATUS.STATE, 3, 7)] with tree := { trees := [(3, { job := some { loc := { port := 3 }, step := 2, conv := some 8 } })] }, conv := { answers := [(8, (St.success, (([64, 0, 0, 1, 0x6E, 0x1F, 5, 0, 9, 0, 0, 0] : List Byte) ++ List.replicate 52 0)))] } }, by decide +kernel⟩,
   ⟨3, 8, 0, [], false, { loc := { port := 3 }, step := 5, addr := 4, conv := some 8 }, { st [(Fld.TRE_CTRL.ENUM_EN, 0, 1), (Fld.LNK_STATUS.STATE, 3, 7)] with tree := { trees := [(3, { job := some { loc := { port := 3 }, step := 5, addr := 4, conv := some 8 } })], nodes := [(4, { state := .enumerating, port := 3 })] }, conv := { answers := [(8, (St.success, []))] } }, by decide +kernel⟩,
   ⟨3, 8, 0, [], false, { loc := { port := 3 }, step := 10, addr := 4, applyTick := 5, conv := some 8 }, { st [(Fld.TRE_CTRL.ENUM_EN, 0, 1), (Fld.LNK_STATUS.STATE, 3, 7)] with tree := { trees := [(3, { job := some { loc := { port := 3 }, step := 10, addr := 4, applyTick := 5, conv := some 8 } })], nodes := [(4, { state := .addressed, port := 3 })] }, conv := { answers := [(8, (St.success, []))] } }, by decide +kernel⟩,
   ⟨3, 8, 100, { setupAt := some 100 }, { loc := { port := 3 }, step := 2, conv := some 8 }, { { st [(Fld.TRE_CTRL.ENUM_EN, 0, 1), (Fld.LNK_STATUS.STATE, 3, 7), (Fld.TRE_CFG.ENUM_RETRIES, 0, 3)] with tree := { trees := [(3, { job := some { loc := { port := 3 }, step := 2, conv := some 8 } })] } } with conv := { convs := [(8, { setupAt := some 100 })] } }, by decide +kernel⟩⟩

/-- The premises of HubsForwardAndWatchTheirPorts can be met. -/
theorem test_premises_hubs_forward_and_watch_their_ports :
    (∃ (d up word arrival : Nat) (res : List (Nat × Nat)) (h : HubState) (s : State), ((s.dev d).hub = some h) ∧ (up ≤ 1) ∧ ((s.lane (32 + 32 * d + 16 * up)).st = 7) ∧ (h.active = none ∨ h.active = some up ∨ h.markerAt + 256 < arrival / 65536)) ∧
    (∃ (d up word arrival a : Nat) (res : List (Nat × Nat)) (h : HubState) (s : State), ((s.dev d).hub = some h) ∧ (h.active = some a) ∧ (a ≠ min up 1) ∧ (arrival / 65536 ≤ h.markerAt + 256)) ∧
    (∃ (d up arrival residence : Nat) (frame : List Byte) (h : HubState) (s : State), ((s.dev d).config ≠ none ∨ (s.dev d).configNext ≠ none) ∧ ((s.dev d).hub = some h) ∧ ((s.lane (32 + 32 * d + 16 * min up 1)).st = 7) ∧ (headerGood frame = true) ∧ ((Header.ofBytes frame).addr = 4095) ∧ ((s.dev d).addr ≠ 4095) ∧ (h.active.getD 0 = min up 1)) ∧
    (∃ (d up addr p arrival residence : Nat) (frame : List Byte) (h : HubState) (s : State), ((s.dev d).config ≠ none ∨ (s.dev d).configNext ≠ none) ∧ ((s.dev d).hub = some h) ∧ ((s.lane (32 + 32 * d + 16 * min up 1)).st = 7) ∧ (headerGood frame = true) ∧ ((Header.ofBytes frame).addr = addr) ∧ (addr ≠ (s.dev d).addr) ∧ (addr ≠ 0) ∧ (addr ≠ 4095) ∧ (h.active.getD 0 = min up 1) ∧ (tget 0 h.routes addr = p) ∧ (p ≠ 0) ∧ ((h.port p).state = .addressed) ∧ (s.legacyPort d p = false)) ∧
    (∃ (d up addr p arrival residence : Nat) (frame : List Byte) (h : HubState) (s : State), ((s.dev d).config ≠ none ∨ (s.dev d).configNext ≠ none) ∧ ((s.dev d).hub = some h) ∧ ((s.lane (32 + 32 * d + 16 * min up 1)).st = 7) ∧ (headerGood frame = true) ∧ ((Header.ofBytes frame).addr = addr) ∧ (addr ≠ (s.dev d).addr) ∧ (addr ≠ 0) ∧ (addr ≠ 4095) ∧ (h.active.getD 0 = min up 1) ∧ (tget 0 h.routes addr = p) ∧ (p ≠ 0) ∧ ((h.port p).state = .addressed) ∧ (s.legacyPort d p = true) ∧ (((arrival + residence : Nat) : Int) = (s.dev d).localMerid + 2048 * 65536) ∧ ((Header.ofBytes frame).length + 12 ≤ frame.length)) ∧
    (∃ (d up addr arrival residence : Nat) (frame : List Byte) (h : HubState) (s : State), ((s.dev d).config ≠ none ∨ (s.dev d).configNext ≠ none) ∧ ((s.dev d).hub = some h) ∧ ((s.lane (32 + 32 * d + 16 * min up 1)).st = 7) ∧ (headerGood frame = true) ∧ ((Header.ofBytes frame).addr = addr) ∧ (addr ≠ (s.dev d).addr) ∧ (addr ≠ 0) ∧ (addr ≠ 4095) ∧ (h.active.getD 0 = min up 1) ∧ (tget 0 h.routes addr = 0) ∧ (bitAt h.flags 1 = false)) ∧
    (∃ (d p start : Nat) (frame : List Byte) (h : HubState) (s : State), ((s.dev d).hub = some h) ∧ (h.dual = false) ∧ ((s.lane (32 + 32 * d)).st = 7) ∧ ((h.port p).state ≠ .down) ∧ (((s.dev d).busy.all fun e => decide (65536 * e.2 ≤ start + (h.port p).resUp)) = true)) ∧
    (∃ (d p start : Nat) (frame : List Byte) (h : HubState) (s : State), ((s.dev d).hub = some h) ∧ (h.dual = true) ∧ ((s.lane (32 + 32 * d)).st = 7) ∧ ((s.lane (32 + 32 * d + 16)).st = 7) ∧ ((h.port p).state ≠ .down) ∧ (((s.dev d).busy.all fun e => decide (65536 * e.2 ≤ start + (h.port p).resUp)) = true)) ∧
    (∃ (d p start : Nat) (frame : List Byte) (ties : List Nat) (e : Nat × Nat) (h : HubState) (s : State), ((s.dev d).hub = some h) ∧ (s.upstreamUp d = true) ∧ ((h.port p).state ≠ .down) ∧ (e ∈ (s.dev d).busy) ∧ (65536 * e.1 ≤ start + (h.port p).resUp) ∧ (start + (h.port p).resUp < 65536 * e.2) ∧ (bitAt h.flags 0 = false)) ∧
    (∃ (d p q start : Nat) (frame : List Byte) (h : HubState) (s : State), ((s.dev d).hub = some h) ∧ (s.upstreamUp d = true) ∧ ((h.port p).state ≠ .down) ∧ ((h.port q).state ≠ .down) ∧ (q < p) ∧ (bitAt h.flags 0 = true)) ∧
    (∃ (d p t1 t4 turn ns frac resUp : Nat) (h : HubState) (s : State), (1 ≤ p) ∧ (p ≤ 15) ∧ ((s.dev d).hub = some h) ∧ ((h.port p).state = .down) ∧ (s.upstreamUp d = true) ∧ (s.lstate (portEnd d p) = 7)) ∧
    (∃ (d p t1 t4 turn ns frac resUp : Nat) (h : HubState) (s : State), (1 ≤ p) ∧ (p ≤ 15) ∧ ((s.dev d).hub = some h) ∧ ((h.port p).state = .down) ∧ ((h.port p).firstFails = 2) ∧ (s.upstreamUp d = true) ∧ (s.lstate (portEnd d p) = 7)) ∧
    (∃ (d p t1 t4 turn ns frac : Nat) (h : HubState) (s : State), ((s.dev d).hub = some h) ∧ ((h.port p).state ≠ .down)) ∧
    (∃ (d p t1 t4 turn ns frac : Nat) (h : HubState) (s : State), ((s.dev d).hub = some h) ∧ ((h.port p).state ≠ .down)) ∧
    (∃ (d : Nat) (h : HubState) (s : State), ((s.dev d).hub = some h) ∧ (bitAt h.flags 2 = false)) ∧
    (∃ (d : Nat) (h : HubState) (s : State), ((s.dev d).hub = some h) ∧ (bitAt h.flags 2 = true)) :=
  ⟨⟨2, 1, 0x30700, 297 * 65536, [(1, 5), (2, 600000), (3, 7)], { ports := [(1, { state := .addressed }), (2, { state := .unaddressed })], active := some 0, markerAt := 40 }, { State.reset with devs := [(2, { hub := some { ports := [(1, { state := .addressed }), (2, { state := .unaddressed })], active := some 0, markerAt := 40 } })], lanes := [(97, { st := 7, legacy := true }), (98, { st := 7, gen := 3 }), (112, { st := 7 })] }, by decide +kernel⟩,
   ⟨2, 1, 0x700, 296 * 65536, 0, [(1, 5)], { active := some 0, markerAt := 40 }, { State.reset with devs := [(2, { hub := some { active := some 0, markerAt := 40 } })], lanes := [(96, { st := 7 }), (112, { st := 7 })] }, by decide +kernel⟩,
   ⟨2, 0, 1000, 20, packetFrame 4095 0 false 3 0 [1, 2, 3, 4], { ports := [(1, { state := .addressed }), (2, { state := .unaddressed }), (15, { state := .unaddressed, gate := true })] }, { State.reset with devs := [(2, { addr := 6, configNext := some {}, hub := some { ports := [(1, { state := .addressed }), (2, { state := .unaddressed }), (15, { state := .unaddressed, gate := true })] } })], lanes := [(96, { st := 7 })] }, by decide +kernel⟩,
   ⟨2, 0, 9, 15, 1000, 20, packetFrame 9 0 false 3 0 [1, 2, 3, 4], { ports := [(15, { state := .addressed })], routes := [(9, 15)] }, { State.reset with devs := [(2, { addr := 6, config := some {}, hub := some { ports := [(15, { state := .addressed })], routes := [(9, 15)] } })], lanes := [(96, { st := 7 })] }, by decide +kernel⟩,
   ⟨2, 0, 9, 15, 2048 * 65536, 20, packetFrame 9 0 false 3 0 [1, 2, 3, 4], { ports := [(15, { state := .addressed })], routes := [(9, 15)] }, { State.reset with devs := [(2, { addr := 6, config := some {}, localMerid := 20, hub := some { ports := [(15, { state := .addressed })], routes := [(9, 15)] } })], lanes := [(96, { st := 7 }), (111, { st := 7, legacy := true })] }, by decide +kernel⟩,
   ⟨2, 0, 9, 1000, 20, packetFrame 9 0 false 3 0 [1, 2, 3, 4], { seq := 255 }, { State.reset with devs := [(2, { addr := 6, config := some {}, hub := some { seq := 255 } })], lanes := [(96, { st := 7 })] }, by decide +kernel⟩,
   ⟨2, 3, 50 * 65536, legFrame 9 1 true 0 false false false false false [1], { ports := [(3, { state := .addressed, resUp := 65536 })] }, { State.reset with devs := [(2, { busy := [(10, 51)], hub := some { ports := [(3, { state := .addressed, resUp := 65536 })] } })], lanes := [(96, { st := 7 })] }, by decide +kernel⟩,
   ⟨2, 3, 50 * 65536, [1, 2], { ports := [(3, { state := .addressed })], dual := true }, { State.reset with devs := [(2, { hub := some { ports := [(3, { state := .addressed })], dual := true } })], lanes := [(96, { st := 7 }), (112, { st := 7 })] }, by decide +kernel⟩,
   ⟨2, 3, 50 * 65536, legFrame 9 1 true 0 false false false false false [1], [], (50, 51), { ports := [(3, { state := .addressed })], seq := 255 }, { State.reset with devs := [(2, { busy := [(50, 51)], hub := some { ports := [(3, { state := .addressed })], seq := 255 } })], lanes := [(96, { st := 7 })] }, by decide +kernel⟩,
   ⟨2, 3, 1, 49, [1, 2], { ports := [(1, { state := .addressed }), (3, { state := .unaddressed })], flags := 1 }, { State.reset with devs := [(2, { hub := some { ports := [(1, { state := .addressed }), (3, { state := .unaddressed })], flags := 1 } })], lanes := [(96, { st := 7 })] }, by decide +kernel⟩,
   ⟨2, 15, 100, 9000, 5, 6, 7, 70, {}, { State.reset with devs := [(2, { hub := some {} })], lanes := [(96, { st := 7 }), (111, { st := 7 })] }, by decide +kernel⟩,
   ⟨2, 1, 100, 9000, 5, 6, 7, 70, { ports := [(1, { firstFails := 2 })] }, { State.reset with devs := [(2, { hub := some { ports := [(1, { firstFails := 2 })] } })], lanes := [(96, { st := 7 }), (97, { st := 7 })] }, by decide +kernel⟩,
   ⟨2, 1, 100, 5, 6, 7, 8, { ports := [(1, { state := .addressed })] }, { State.reset with devs := [(2, { hub := some { ports := [(1, { state := .addressed })] } })], lanes := [(96, { st := 7 })] }, by decide +kernel⟩,
   ⟨2, 1, 100, 90000, 6, 7, 8, { ports := [(1, { state := .addressed })] }, { State.reset with devs := [(2, { hub := some { ports := [(1, { state := .addressed })] } })], lanes := [(96, { st := 7 })] }, by decide +kernel⟩,
   ⟨2, { change := 6, seq := 4 }, { State.reset with devs := [(2, { hub := some { change := 6, seq := 4 } })], lanes := [(96, { st := 7 })] }, by decide +kernel⟩,
   ⟨2, { flags := 4 }, { State.reset with devs := [(2, { hub := some { flags := 4 } })], lanes := [(96, { st := 7 })] }, by decide +kernel⟩⟩

/-- The premises of NodesActOnWhatTheyReceive can be met. -/
theorem test_premises_nodes_act_on_what_they_receive :
    (∃ (d word arrival : Nat) (b : NodeBearing) (s : State), (s.upstreamUp d = true) ∧ ((s.dev d).bearingNext = some b) ∧ (b.applyTick % 2 ^ tickBits (s.upGen d) = (markerOf (s.upGen d) word).1) ∧ (b.refTick % 2 ^ tickBits (s.upGen d) = (markerOf (s.upGen d) word).1) ∧ ((s.dev d).configNext = none) ∧ ((s.dev d).config = none)) ∧
    (∃ (d word arrival e : Nat) (s : State), (s.upstreamUp d = true) ∧ ((s.dev d).bearingNext = none) ∧ ((s.dev d).configNext = none) ∧ ((s.dev d).config = none) ∧ ((markerOf (s.upGen d) word).2.2 = some e) ∧ (e ≠ (s.dev d).epoch) ∧ (((s.dev d).bearing.all fun b => b.applyTick % 2 ^ tickBits (s.upGen d) != (markerOf (s.upGen d) word).1) = true)) ∧
    (∃ (d word arrival : Nat) (c : NodeConfig) (s : State), (s.upstreamUp d = true) ∧ ((s.dev d).configNext = some c) ∧ (c.applyTick % 2 ^ tickBits (s.upGen d) = (markerOf (s.upGen d) word).1) ∧ (c.legs = [])) ∧
    (∃ (d word arrival : Nat) (x : Nat × List Byte) (l : NodeLeg) (c : NodeConfig) (s : State), ((s.lane (32 + 32 * d)).st = 7) ∧ ((s.dev d).configNext = none) ∧ ((s.dev d).hub = none) ∧ ((s.dev d).bearingNext = none) ∧ ((s.dev d).bearing = none) ∧ ((s.dev d).config = some c) ∧ (c.legs = [l]) ∧ (l.dup = false)) ∧
    (∃ (d word arrival : Nat) (x : Nat × List Byte) (l : NodeLeg) (b : NodeBearing) (c : NodeConfig) (s : State), ((s.lane (32 + 32 * d)).st = 7) ∧ ((s.dev d).configNext = none) ∧ ((s.dev d).hub = none) ∧ ((s.dev d).bearingNext = none) ∧ ((s.dev d).bearing = some b) ∧ ((s.dev d).config = some c) ∧ (c.legs = [l]) ∧ (l.dup = true) ∧ ((markerOf (s.upGen d) word).1 % 2 ^ l.k = l.phase)) ∧
    (∃ (d word arrival : Nat) (x : Nat × List Byte) (h : HubState) (l : NodeLeg) (c : NodeConfig) (s : State), ((s.lane (32 + 32 * d)).st = 7) ∧ ((s.dev d).configNext = none) ∧ ((s.dev d).hub = some h) ∧ (h.dual = false) ∧ ((s.dev d).bearingNext = none) ∧ ((s.dev d).bearing = none) ∧ ((s.dev d).config = some c) ∧ (c.legs = [l]) ∧ (l.dup = false) ∧ (l.pipe = 0) ∧ (l.payload = 8) ∧ ((markerOf (s.upGen d) word).1 % 2 ^ l.k = l.phase)) ∧
    (∃ (d tk : Nat) (frame : List Byte) (h : Header) (s : State), (s.upstreamUp d = true) ∧ (frameGood frame = true) ∧ (Header.ofBytes frame = h) ∧ (h.inbound = false) ∧ (h.packet = false) ∧ ((s.dev d).addr ≠ 0) ∧ (h.addr = (s.dev d).addr) ∧ ((s.dev d).marker = some tk) ∧ (h.low = tk % 256)) ∧
    (∃ (d tk : Nat) (frame : List Byte) (h : Header) (s : State), (frameGood frame = true) ∧ (Header.ofBytes frame = h) ∧ ((s.dev d).marker = some tk) ∧ (h.addr ≠ (s.dev d).addr ∨ h.low ≠ tk % 256)) ∧
    (∃ (d : Nat) (frame : List Byte) (s : State), (s.upstreamUp d = true) ∧ (frameGood frame = false) ∧ (headerGood frame = false ∨ (s.dev d).takes (Header.ofBytes frame).addr = true)) ∧
    (∃ (d : Nat) (frame : List Byte) (h : Header) (s : State), (s.upstreamUp d = true) ∧ (frameGood frame = true) ∧ (Header.ofBytes frame = h) ∧ (h.inbound = false) ∧ ((s.dev d).takes h.addr = true) ∧ (h.packet = true) ∧ (h.type = 0) ∧ (((s.dev d).pipe h.pipe).state = .idle ∨ ((s.dev d).pipe h.pipe).state = .active) ∧ (h.seq = ((s.dev d).pipe h.pipe).expect)) ∧
    (∃ (d k : Nat) (frame : List Byte) (h : Header) (s : State), (s.upstreamUp d = true) ∧ (frameGood frame = true) ∧ (Header.ofBytes frame = h) ∧ (h.inbound = false) ∧ ((s.dev d).takes h.addr = true) ∧ (h.packet = true) ∧ (h.type = 0) ∧ (((s.dev d).pipe h.pipe).state = .idle ∨ ((s.dev d).pipe h.pipe).state = .active) ∧ (1 ≤ k) ∧ (k < 65520) ∧ (h.seq = (((s.dev d).pipe h.pipe).expect + k) % 65536)) ∧
    (∃ (d k : Nat) (frame : List Byte) (h : Header) (s : State), (frameGood frame = true) ∧ (Header.ofBytes frame = h) ∧ (1 ≤ k) ∧ (k ≤ 16) ∧ (((s.dev d).pipe h.pipe).expect < 65536) ∧ (h.seq = (((s.dev d).pipe h.pipe).expect + 65536 - k) % 65536)) ∧
    (∃ (d : Nat) (frame : List Byte) (h : Header) (s : State), (s.upstreamUp d = true) ∧ (frameGood frame = true) ∧ (Header.ofBytes frame = h) ∧ (h.inbound = false) ∧ ((s.dev d).takes h.addr = true) ∧ (h.packet = true) ∧ (h.type = 1) ∧ (h.pipe = 0) ∧ (h.length = 16)) ∧
    (∃ (d : Nat) (frame : List Byte) (h : Header) (s : State), (s.upstreamUp d = true) ∧ (frameGood frame = true) ∧ (Header.ofBytes frame = h) ∧ (h.inbound = false) ∧ ((s.dev d).takes h.addr = true) ∧ (h.packet = true) ∧ (h.type = 1) ∧ (h.pipe = 0) ∧ (h.length ≠ 16)) ∧
    (∃ (d : Nat) (frame : List Byte) (h : Header) (s : State), (s.upstreamUp d = true) ∧ (frameGood frame = true) ∧ (Header.ofBytes frame = h) ∧ (h.inbound = false) ∧ ((s.dev d).takes h.addr = true) ∧ (h.packet = true) ∧ (h.type = 2) ∧ (h.length = 4) ∧ (bitsAt (ofBytes (framePayload frame)) 0 8 = 6)) ∧
    (∃ (d : Nat) (frame : List Byte) (h : Header) (s : State), (s.upstreamUp d = true) ∧ (frameGood frame = true) ∧ (Header.ofBytes frame = h) ∧ (h.inbound = false) ∧ ((s.dev d).takes h.addr = true) ∧ (h.packet = true) ∧ (h.type = 2) ∧ (h.length = 4) ∧ (bitsAt (ofBytes (framePayload frame)) 0 8 = 1) ∧ ((h.seq + 65536 - ((s.dev d).pipe h.pipe).toSend) % 65536 ≤ ((s.dev d).pipe h.pipe).ready.length)) ∧
    (∃ (d : Nat) (frame : List Byte) (h : Header) (s : State), (s.upstreamUp d = true) ∧ (frameGood frame = true) ∧ (Header.ofBytes frame = h) ∧ (h.inbound = false) ∧ ((s.dev d).takes h.addr = true) ∧ (h.packet = true) ∧ (h.type = 2) ∧ (bitsAt (ofBytes (framePayload frame)) 0 8 ≠ 1) ∧ (bitsAt (ofBytes (framePayload frame)) 0 8 ≠ 3) ∧ (bitsAt (ofBytes (framePayload frame)) 0 8 ≠ 6)) ∧
    (∃ (d ended credit tk g : Nat) (wait : Bool) (frame : List Byte) (h : Header) (s : State), (s.upstreamUp d = true) ∧ (frameGood frame = true) ∧ (Header.ofBytes frame = h) ∧ (h.inbound = false) ∧ ((s.dev d).takes h.addr = true) ∧ (h.packet = true) ∧ (h.type = 3) ∧ (h.length = 4) ∧ ((s.lane (32 + 32 * d)).st = 7) ∧ ((s.dev d).hub = none) ∧ (h.pipe ≠ 0) ∧ ((s.dev d).pipeInbound h.pipe = false) ∧ ((ended : Int) + 512 * 65536 ≤ (s.dev d).launch (bitsAt (ofBytes (framePayload frame)) 8 15)) ∧ ((s.dev d).marker = some tk) ∧ (tk % 256 = bitsAt (ofBytes (framePayload frame)) 0 8) ∧ (g = (match (s.dev d).config with | some c => max 1 c.pathGen | none => s.upGen d)) ∧ (frameSlots g 4 ≤ bitsAt (ofBytes (framePayload frame)) 23 9)) ∧
    (∃ (d ended credit tk g : Nat) (b : List Byte) (frame : List Byte) (h : Header) (s : State), (s.upstreamUp d = true) ∧ (frameGood frame = true) ∧ (Header.ofBytes frame = h) ∧ (h.inbound = false) ∧ ((s.dev d).takes h.addr = true) ∧ (h.packet = true) ∧ (h.type = 3) ∧ (h.length = 4) ∧ ((s.lane (32 + 32 * d)).st = 7) ∧ ((s.dev d).hub = none) ∧ (h.pipe ≠ 0) ∧ ((s.dev d).pipeInbound h.pipe = true) ∧ (((s.dev d).pipe h.pipe).state = .idle ∨ ((s.dev d).pipe h.pipe).state = .active) ∧ (((s.dev d).pipe h.pipe).oweAck = false) ∧ (((s.dev d).pipe h.pipe).ready = [b]) ∧ (((s.dev d).pipe h.pipe).toSend = h.seq) ∧ ((ended : Int) + 512 * 65536 ≤ (s.dev d).launch (bitsAt (ofBytes (framePayload frame)) 8 15)) ∧ ((s.dev d).marker = some tk) ∧ (tk % 256 = bitsAt (ofBytes (framePayload frame)) 0 8) ∧ (g = (match (s.dev d).config with | some c => max 1 c.pathGen | none => s.upGen d)) ∧ (frameSlots g b.length ≤ bitsAt (ofBytes (framePayload frame)) 23 9)) ∧
    (∃ (d ended credit tk g : Nat) (wait : Bool) (frame : List Byte) (h : Header) (s : State), (s.upstreamUp d = true) ∧ (frameGood frame = true) ∧ (Header.ofBytes frame = h) ∧ (h.inbound = false) ∧ ((s.dev d).takes h.addr = true) ∧ (h.packet = true) ∧ (h.type = 3) ∧ (h.length = 4) ∧ ((s.lane (32 + 32 * d)).st = 7) ∧ ((s.dev d).hub = none) ∧ (h.pipe ≠ 0) ∧ ((s.dev d).pipeInbound h.pipe = true) ∧ (((s.dev d).pipe h.pipe).state = .idle ∨ ((s.dev d).pipe h.pipe).state = .active) ∧ (((s.dev d).pipe h.pipe).oweAck = false) ∧ (((s.dev d).pipe h.pipe).ready = []) ∧ (((s.dev d).pipe h.pipe).toSend = h.seq) ∧ ((ended : Int) + 512 * 65536 ≤ (s.dev d).launch (bitsAt (ofBytes (framePayload frame)) 8 15)) ∧ ((s.dev d).marker = some tk) ∧ (tk % 256 = bitsAt (ofBytes (framePayload frame)) 0 8) ∧ (g = (match (s.dev d).config with | some c => max 1 c.pathGen | none => s.upGen d)) ∧ (frameSlots g 4 ≤ bitsAt (ofBytes (framePayload frame)) 23 9)) ∧
    (∃ (d ended credit : Nat) (wait : Bool) (fresh : List (List Byte)) (frame : List Byte) (h : Header) (s : State), (frameGood frame = true) ∧ (Header.ofBytes frame = h) ∧ ((s.dev d).takes h.addr = false ∨ (s.dev d).launch (bitsAt (ofBytes (framePayload frame)) 8 15) < (ended : Int) + 512 * 65536 ∨ (s.dev d).marker = none)) ∧
    (∃ (d pipe : Nat) (s : State), (1 ≤ pipe) ∧ (pipe < 32) ∧ (((s.dev d).pipe pipe).state = .idle ∨ ((s.dev d).pipe pipe).state = .active)) :=
  ⟨⟨2, 0x1074D, 90000, { applyTick := 0x107, refTick := 7, refNs := 44, refFrac := 5, delayDn := 9 }, { State.reset with devs := [(2, { bearingNext := some { applyTick := 0x107, refTick := 7, refNs := 44, refFrac := 5, delayDn := 9 } })], lanes := [(96, { st := 7 })] }, by decide +kernel⟩,
   ⟨2, 2 ^ 58 + 0x74D, 90000, 1, { State.reset with devs := [(2, { timeValid := true, bearing := some { applyTick := 6 } })], lanes := [(96, { st := 7, gen := 2 })] }, by decide +kernel⟩,
   ⟨2, 0x74D, 90000, { applyTick := 0x107, pipeEn := 32 }, { State.reset with devs := [(2, { configNext := some { applyTick := 0x107, pipeEn := 32 }, request := [1], pipes := [(5, { expect := 7 }), (6, { state := .active, ready := [[1]] })] })], lanes := [(96, { st := 7 })] }, by decide +kernel⟩,
   ⟨2, 0x104D, 90000, (2, [1, 2, 3]), { pipe := 5, k := 1, payload := 2, start := 3 }, { legs := [{ pipe := 5, k := 1, payload := 2, start := 3 }] }, { State.reset with devs := [(2, { addr := 9, config := some { legs := [{ pipe := 5, k := 1, payload := 2, start := 3 }] } })], lanes := [(96, { st := 7 })] }, by decide +kernel⟩,
   ⟨2, 0x1104D, 9000000, (1, [1, 2, 3]), { pipe := 5, k := 1, payload := 2, start := 3, dup := true, dupOffset := 4 }, { delayDn := 77, advanceUp := 88 }, { legs := [{ pipe := 5, k := 1, payload := 2, start := 3, dup := true, dupOffset := 4 }] }, { State.reset with devs := [(2, { addr := 9, bearing := some { delayDn := 77, advanceUp := 88 }, config := some { legs := [{ pipe := 5, k := 1, payload := 2, start := 3, dup := true, dupOffset := 4 }] } })], lanes := [(96, { st := 7 })] }, by decide +kernel⟩,
   ⟨2, 0x104D, 90000, (2, [1, 2, 3]), { change := 8, seq := 4, ports := [(3, { state := .addressed })] }, { payload := 8 }, { legs := [{ payload := 8 }] }, { State.reset with devs := [(2, { addr := 9, hub := some { change := 8, seq := 4, ports := [(3, { state := .addressed })] }, config := some { legs := [{ payload := 8 }] } })], lanes := [(96, { st := 7 })] }, by decide +kernel⟩,
   ⟨2, 0x1FF, legFrame 9 31 false 255 false false false false false [4], Header.ofBytes (legFrame 9 31 false 255 false false false false false [4]), { State.reset with devs := [(2, { addr := 9, marker := some 0x1FF })], lanes := [(96, { st := 7 })] }, by decide +kernel⟩,
   ⟨2, 0x1FF, legFrame 9 31 false 254 false false false false false [4], Header.ofBytes (legFrame 9 31 false 254 false false false false false [4]), { State.reset with devs := [(2, { addr := 9, marker := some 0x1FF })], lanes := [(96, { st := 7 })] }, by decide +kernel⟩,
   ⟨2, (legFrame 9 31 false 254 false false false false false [4]).set 8 5, { State.reset with devs := [(2, { addr := 9, marker := some 0xFE })], lanes := [(96, { st := 7 })] }, by decide +kernel⟩,
   ⟨2, packetFrame 9 5 false 0 65535 [4], Header.ofBytes (packetFrame 9 5 false 0 65535 [4]), { State.reset with devs := [(2, { addr := 9, pipes := [(5, { expect := 65535 })] })], lanes := [(96, { st := 7 })] }, by decide +kernel⟩,
   ⟨2, 1, packetFrame 9 5 false 0 0 [4], Header.ofBytes (packetFrame 9 5 false 0 0 [4]), { State.reset with devs := [(2, { addr := 9, pipes := [(5, { expect := 65535 })] })], lanes := [(96, { st := 7 })] }, by decide +kernel⟩,
   ⟨2, 16, packetFrame 9 5 false 0 65520 [4], Header.ofBytes (packetFrame 9 5 false 0 65520 [4]), { State.reset with devs := [(2, { addr := 9, pipes := [(5, {})] })], lanes := [(96, { st := 7 })] }, by decide +kernel⟩,
   ⟨2, packetFrame 4095 0 false 1 0 (setupBytes 0 0x10 9 0 0), Header.ofBytes (packetFrame 4095 0 false 1 0 (setupBytes 0 0x10 9 0 0)), { State.reset with devs := [(2, { refused := true })], lanes := [(96, { st := 7 })] }, by decide +kernel⟩,
   ⟨2, packetFrame 9 0 false 1 0 [1], Header.ofBytes (packetFrame 9 0 false 1 0 [1]), { State.reset with devs := [(2, { addr := 9 })], lanes := [(96, { st := 7 })] }, by decide +kernel⟩,
   ⟨2, packetFrame 9 5 false 2 0 [6, 0, 0, 0], Header.ofBytes (packetFrame 9 5 false 2 0 [6, 0, 0, 0]), { State.reset with devs := [(2, { addr := 9, pipes := [(5, { expect := 65535, state := .active, ready := [[1]] })] })], lanes := [(96, { st := 7 })] }, by decide +kernel⟩,
   ⟨2, packetFrame 9 5 false 2 1 [1, 0, 3, 0], Header.ofBytes (packetFrame 9 5 false 2 1 [1, 0, 3, 0]), { State.reset with devs := [(2, { addr := 9, pipes := [(5, { toSend := 65535, ready := [[1], [2], [3]], state := .active })] })], lanes := [(96, { st := 7 })] }, by decide +kernel⟩,
   ⟨2, packetFrame 9 5 false 2 1 [2, 0, 3, 0], Header.ofBytes (packetFrame 9 5 false 2 1 [2, 0, 3, 0]), { State.reset with devs := [(2, { addr := 9 })], lanes := [(96, { st := 7 })] }, by decide +kernel⟩,
   ⟨2, 0, 99, 7, 1, false, packetFrame 9 5 false 3 0 (toBytes (7 + 16 * 256 + 10 * 2 ^ 23) 4), Header.ofBytes (packetFrame 9 5 false 3 0 (toBytes (7 + 16 * 256 + 10 * 2 ^ 23) 4)), { State.reset with devs := [(2, { addr := 9, marker := some 7, pipes := [(5, { expect := 3 })] })], lanes := [(96, { st := 7 })] }, by decide +kernel⟩,
   ⟨2, 0, 99, 7, 1, [8, 9], packetFrame 9 5 false 3 0 (toBytes (7 + 16 * 256 + 10 * 2 ^ 23) 4), Header.ofBytes (packetFrame 9 5 false 3 0 (toBytes (7 + 16 * 256 + 10 * 2 ^ 23) 4)), { State.reset with devs := [(2, { addr := 9, marker := some 7, pipeDesc := [[5, 4]], pipes := [(5, { ready := [[8, 9]] })] })], lanes := [(96, { st := 7 })] }, by decide +kernel⟩,
   ⟨2, 0, 99, 7, 1, false, packetFrame 9 5 false 3 0 (toBytes (7 + 16 * 256 + 10 * 2 ^ 23) 4), Header.ofBytes (packetFrame 9 5 false 3 0 (toBytes (7 + 16 * 256 + 10 * 2 ^ 23) 4)), { State.reset with devs := [(2, { addr := 9, marker := some 7, pipeDesc := [[5, 4]], pipes := [(5, {})] })], lanes := [(96, { st := 7 })] }, by decide +kernel⟩,
   ⟨2, 1, 99, false, [], packetFrame 9 5 false 3 0 (toBytes (7 + 16 * 256 + 10 * 2 ^ 23) 4), Header.ofBytes (packetFrame 9 5 false 3 0 (toBytes (7 + 16 * 256 + 10 * 2 ^ 23) 4)), { State.reset with devs := [(2, { addr := 9, marker := some 7 })], lanes := [(96, { st := 7 })] }, by decide +kernel⟩,
   ⟨2, 31, { State.reset with devs := [(2, { pipes := [(31, { state := .active })] })], lanes := [(96, { st := 7 })] }, by decide +kernel⟩⟩

/-- The premises of NodesCarryOutStandardRequests can be met. -/
theorem test_premises_nodes_carry_out_standard_requests :
    (∃ (d : Nat) (desc : List Byte) (pipes : List (List Byte)) (s : State), ((s.dev d).request ≠ []) ∧ (bitsAt ((s.dev d).req 0 1) 5 2 = 0) ∧ ((s.dev d).req 1 1 = 0x01) ∧ ((s.dev d).finished = false) ∧ ((s.dev d).refused = false) ∧ (bitAt ((s.dev d).req 0 1) 7 = true) ∧ ((s.dev d).req 2 2 = 1 ∨ (s.dev d).req 2 2 = 2) ∧ ((s.dev d).req 4 2 = 0) ∧ ((s.dev d).req 6 2 = if (s.dev d).req 2 2 = 1 then 64 else 16 * pipes.length)) ∧
    (∃ (d : Nat) (s : State), ((s.dev d).request ≠ []) ∧ (bitsAt ((s.dev d).req 0 1) 5 2 = 0) ∧ ((s.dev d).req 1 1 = 0x02) ∧ ((s.dev d).finished = false) ∧ ((s.dev d).refused = false) ∧ (bitAt ((s.dev d).req 0 1) 7 = true) ∧ ((s.dev d).req 6 2 = 8) ∧ ((s.dev d).req 2 2 = 0) ∧ ((s.dev d).req 4 2 = 0) ∧ (bitAt ((s.dev d).req 0 1) 7 = true ∨ (s.dev d).req 6 2 = 0 ∨ (s.dev d).data.length = (s.dev d).req 6 2)) ∧
    (∃ (d : Nat) (s : State), ((s.dev d).request ≠ []) ∧ (bitsAt ((s.dev d).req 0 1) 5 2 = 0) ∧ ((s.dev d).req 1 1 = 0x03) ∧ ((s.dev d).finished = false) ∧ ((s.dev d).refused = false) ∧ ((s.dev d).req 6 2 = 0) ∧ ((s.dev d).req 2 2 = 0) ∧ (1 ≤ (s.dev d).req 4 2) ∧ ((s.dev d).req 4 2 ≤ 31) ∧ (bitAt ((s.dev d).req 0 1) 7 = true ∨ (s.dev d).req 6 2 = 0 ∨ (s.dev d).data.length = (s.dev d).req 6 2)) ∧
    (∃ (d : Nat) (s : State), ((s.dev d).request ≠ []) ∧ (bitsAt ((s.dev d).req 0 1) 5 2 = 0) ∧ ((s.dev d).req 1 1 = 0x04) ∧ ((s.dev d).finished = false) ∧ ((s.dev d).refused = false) ∧ ((s.dev d).req 6 2 = 0) ∧ (1 ≤ (s.dev d).req 2 2) ∧ ((s.dev d).req 2 2 ≤ 4094) ∧ ((s.dev d).req 4 2 = 0) ∧ (bitAt ((s.dev d).req 0 1) 7 = true ∨ (s.dev d).req 6 2 = 0 ∨ (s.dev d).data.length = (s.dev d).req 6 2)) ∧
    (∃ (d : Nat) (s : State), ((s.dev d).request ≠ []) ∧ (bitsAt ((s.dev d).req 0 1) 5 2 = 0) ∧ ((s.dev d).req 1 1 = 0x04) ∧ ((s.dev d).finished = false) ∧ ((s.dev d).refused = false) ∧ ((s.dev d).req 2 2 = 0 ∨ 4094 < (s.dev d).req 2 2)) ∧
    (∃ (d : Nat) (s : State), ((s.dev d).request ≠ []) ∧ (bitsAt ((s.dev d).req 0 1) 5 2 = 0) ∧ ((s.dev d).req 1 1 = 0x05) ∧ ((s.dev d).finished = false) ∧ ((s.dev d).refused = false) ∧ ((s.dev d).req 2 2 = 0) ∧ ((s.dev d).req 4 2 = 0) ∧ (bitAt ((s.dev d).req 0 1) 7 = false) ∧ ((s.dev d).req 6 2 = 16 + 8 * ofBytes (((s.dev d).data.drop 9).take 1)) ∧ (bitAt ((s.dev d).req 0 1) 7 = true ∨ (s.dev d).req 6 2 = 0 ∨ (s.dev d).data.length = (s.dev d).req 6 2)) ∧
    (∃ (d : Nat) (s : State), ((s.dev d).request ≠ []) ∧ (bitsAt ((s.dev d).req 0 1) 5 2 = 0) ∧ ((s.dev d).req 1 1 = 0x06) ∧ ((s.dev d).finished = false) ∧ ((s.dev d).refused = false) ∧ ((s.dev d).req 2 2 = 0) ∧ ((s.dev d).req 4 2 = 0) ∧ ((s.dev d).req 6 2 = 40) ∧ (bitAt ((s.dev d).req 0 1) 7 = false) ∧ (bitAt ((s.dev d).req 0 1) 7 = true ∨ (s.dev d).req 6 2 = 0 ∨ (s.dev d).data.length = (s.dev d).req 6 2)) ∧
    (∃ (d : Nat) (h : HubState) (s : State), ((s.dev d).request ≠ []) ∧ (bitsAt ((s.dev d).req 0 1) 5 2 = 0) ∧ ((s.dev d).req 1 1 = 0x10) ∧ ((s.dev d).finished = false) ∧ ((s.dev d).refused = false) ∧ ((s.dev d).req 6 2 = 0) ∧ (1 ≤ (s.dev d).req 2 2) ∧ ((s.dev d).req 2 2 ≤ 4094) ∧ ((s.dev d).req 4 2 ≤ 15) ∧ ((s.dev d).hub = some h) ∧ (bitAt ((s.dev d).req 0 1) 7 = true ∨ (s.dev d).req 6 2 = 0 ∨ (s.dev d).data.length = (s.dev d).req 6 2)) ∧
    (∃ (d : Nat) (h : HubState) (s : State), ((s.dev d).request ≠ []) ∧ (bitsAt ((s.dev d).req 0 1) 5 2 = 0) ∧ ((s.dev d).req 1 1 = 0x11) ∧ ((s.dev d).finished = false) ∧ ((s.dev d).refused = false) ∧ ((s.dev d).req 6 2 = 0) ∧ (1 ≤ (s.dev d).req 2 2) ∧ ((s.dev d).req 2 2 ≤ 15) ∧ ((s.dev d).req 4 2 = 1) ∧ ((s.dev d).hub = some h) ∧ ((h.port ((s.dev d).req 2 2)).state = .unaddressed) ∧ ((s.dev d).req 8 1 ≠ h.seq) ∧ (bitAt ((s.dev d).req 0 1) 7 = true ∨ (s.dev d).req 6 2 = 0 ∨ (s.dev d).data.length = (s.dev d).req 6 2)) ∧
    (∃ (d : Nat) (h : HubState) (s : State), ((s.dev d).request ≠ []) ∧ (bitsAt ((s.dev d).req 0 1) 5 2 = 0) ∧ ((s.dev d).req 1 1 = 0x11) ∧ ((s.dev d).finished = false) ∧ ((s.dev d).refused = false) ∧ ((s.dev d).req 6 2 = 0) ∧ (1 ≤ (s.dev d).req 2 2) ∧ ((s.dev d).req 2 2 ≤ 15) ∧ ((s.dev d).req 4 2 = 2) ∧ ((s.dev d).hub = some h) ∧ ((h.port ((s.dev d).req 2 2)).state = .unaddressed) ∧ (bitAt ((s.dev d).req 0 1) 7 = true ∨ (s.dev d).req 6 2 = 0 ∨ (s.dev d).data.length = (s.dev d).req 6 2)) ∧
    (∃ (d : Nat) (h : HubState) (s : State), ((s.dev d).request ≠ []) ∧ (bitsAt ((s.dev d).req 0 1) 5 2 = 0) ∧ ((s.dev d).req 1 1 = 0x11) ∧ ((s.dev d).finished = false) ∧ ((s.dev d).refused = false) ∧ ((s.dev d).req 6 2 = 0) ∧ (1 ≤ (s.dev d).req 2 2) ∧ ((s.dev d).req 2 2 ≤ 15) ∧ ((s.dev d).req 4 2 = 0) ∧ ((s.dev d).hub = some h) ∧ ((h.port ((s.dev d).req 2 2)).state = .addressed) ∧ (s.lstate (portEnd d ((s.dev d).req 2 2)) = 7) ∧ (bitAt ((s.dev d).req 0 1) 7 = true ∨ (s.dev d).req 6 2 = 0 ∨ (s.dev d).data.length = (s.dev d).req 6 2)) ∧
    (∃ (d : Nat) (h : HubState) (s : State), ((s.dev d).request ≠ []) ∧ (bitsAt ((s.dev d).req 0 1) 5 2 = 0) ∧ ((s.dev d).req 1 1 = 0x12) ∧ ((s.dev d).finished = false) ∧ ((s.dev d).refused = false) ∧ ((s.dev d).req 6 2 = 0) ∧ ((s.dev d).req 4 2 = 0) ∧ ((s.dev d).hub = some h) ∧ ((s.dev d).req 8 1 = h.seq) ∧ (bitAt ((s.dev d).req 0 1) 7 = true ∨ (s.dev d).req 6 2 = 0 ∨ (s.dev d).data.length = (s.dev d).req 6 2)) ∧
    (∃ (d : Nat) (h : HubState) (s : State), ((s.dev d).request ≠ []) ∧ (bitsAt ((s.dev d).req 0 1) 5 2 = 0) ∧ ((s.dev d).req 1 1 = 0x13) ∧ ((s.dev d).finished = false) ∧ ((s.dev d).refused = false) ∧ (bitAt ((s.dev d).req 0 1) 7 = true) ∧ ((s.dev d).req 2 2 = 0) ∧ (1 ≤ (s.dev d).req 4 2) ∧ ((s.dev d).req 4 2 ≤ 15) ∧ ((s.dev d).req 6 2 = 16) ∧ ((s.dev d).hub = some h) ∧ (bitAt ((s.dev d).req 0 1) 7 = true ∨ (s.dev d).req 6 2 = 0 ∨ (s.dev d).data.length = (s.dev d).req 6 2)) :=
  ⟨⟨2, [64, 0, 0, 1, 5], [[1], [2]], { State.reset with devs := [(2, { request := setupBytes 0x80 1 1 0 64 })], lanes := [(96, { st := 7 })] }, by decide +kernel⟩,
   ⟨2, { State.reset with devs := [(2, { request := setupBytes 0x80 2 0 0 8, pipes := [(5, { state := .halted })], config := some {} })], lanes := [(96, { st := 7 })] }, by decide +kernel⟩,
   ⟨2, { State.reset with devs := [(2, { request := setupBytes 0 3 0 5 0, pipes := [(5, { state := .halted, expect := 6 })] })], lanes := [(96, { st := 7 })] }, by decide +kernel⟩,
   ⟨2, { State.reset with devs := [(2, { request := setupBytes 0 4 4094 0 0 })], lanes := [(96, { st := 7 })] }, by decide +kernel⟩,
   ⟨2, { State.reset with devs := [(2, { request := setupBytes 0 4 4095 0 0 })], lanes := [(96, { st := 7 })] }, by decide +kernel⟩,
   ⟨2, { State.reset with devs := [(2, { request := setupBytes 0 5 0 0 24, pipes := [(0, { taken := [toBytes 77 8 ++ [2, 1, 0, 0, 3, 0, 0, 0], [0x85, 4, 1, 0x10, 0, 1, 8, 0]] })] })], lanes := [(96, { st := 7 })] }, by decide +kernel⟩,
   ⟨2, { State.reset with devs := [(2, { request := setupBytes 0 6 0 0 40, pipes := [(0, { taken := [(List.range 40).map (BitVec.ofNat 8)] })] })], lanes := [(96, { st := 7 })] }, by decide +kernel⟩,
   ⟨2, {}, { State.reset with devs := [(2, { request := setupBytes 0 0x10 9 15 0, hub := some {} })], lanes := [(96, { st := 7 })] }, by decide +kernel⟩,
   ⟨2, { ports := [(3, { state := .unaddressed })], change := 8, seq := 4 }, { State.reset with devs := [(2, { request := setupBytes 0 0x11 3 1 0 5, hub := some { ports := [(3, { state := .unaddressed })], change := 8, seq := 4 } })], lanes := [(96, { st := 7 })] }, by decide +kernel⟩,
   ⟨2, { ports := [(3, { state := .unaddressed, gate := true })] }, { State.reset with devs := [(2, { request := setupBytes 0 0x11 3 2 0, hub := some { ports := [(3, { state := .unaddressed, gate := true })] } })], lanes := [(96, { st := 7 })] }, by decide +kernel⟩,
   ⟨2, { ports := [(3, { state := .addressed })], routes := [(8, 3), (9, 4)] }, { State.reset with devs := [(2, { request := setupBytes 0 0x11 3 0 0, hub := some { ports := [(3, { state := .addressed })], routes := [(8, 3), (9, 4)] } })], lanes := [(96, { st := 7 }), (99, { st := 7 })] }, by decide +kernel⟩,
   ⟨2, { change := 9, seq := 4, flags := 7 }, { State.reset with devs := [(2, { request := setupBytes 0 0x12 8 0 0 4, hub := some { change := 9, seq := 4, flags := 7 } })], lanes := [(96, { st := 7 })] }, by decide +kernel⟩,
   ⟨2, { ports := [(3, { state := .addressed, valid := true, resUp := 7 })] }, { State.reset with devs := [(2, { request := setupBytes 0x80 0x13 0 3 16, hub := some { ports := [(3, { state := .addressed, valid := true, resUp := 7 })] } })], lanes := [(96, { st := 7 })] }, by decide +kernel⟩⟩

/-- The premises of HelmsExecuteTheIntegerAndMemoryInstructions can be met. -/
theorem test_premises_helms_execute_the_integer_and_memory_instructions :
    (∃ (h row : Nat) (rd imm : Nat) (s : State), (s.runsFor h (1) = true) ∧ (s.fetches h 4 (.lui rd imm) = true)) ∧
    (∃ (h row : Nat) (f3 rd rs1 imm : Nat) (alt : Bool) (s : State), (s.runsFor h (1) = true) ∧ (s.fetches h 4 (.opImm f3 rd rs1 imm alt) = true)) ∧
    (∃ (h row : Nat) (f3 rd rs1 rs2 : Nat) (alt : Bool) (s : State), (s.runsFor h (1) = true) ∧ (s.fetches h 4 (.op f3 rd rs1 rs2 alt) = true)) ∧
    (∃ (h row : Nat) (f3 rd rs1 rs2 : Nat) (s : State), (s.runsFor h (if f3 < 4 then 2 else 34) = true) ∧ (s.fetches h 4 (.mulDiv f3 rd rs1 rs2) = true)) ∧
    (∃ (h row : Nat) (rd off : Nat) (s : State), (s.runsFor h (3) = true) ∧ (s.fetches h 4 (.jal rd off) = true)) ∧
    (∃ (h row : Nat) (rd rs1 imm : Nat) (s : State), (s.runsFor h (3) = true) ∧ (s.fetches h 4 (.jalr rd rs1 imm) = true)) ∧
    (∃ (h row : Nat) (f3 rs1 rs2 off : Nat) (s : State), (s.runsFor h (3) = true) ∧ (s.fetches h 4 (.branch f3 rs1 rs2 off) = true) ∧ (Rv.taken f3 ((s.bankOf h).reg rs1) ((s.bankOf h).reg rs2) = true)) ∧
    (∃ (h row : Nat) (f3 rs1 rs2 off : Nat) (s : State), (s.runsFor h (1) = true) ∧ (s.fetches h 4 (.branch f3 rs1 rs2 off) = true) ∧ (Rv.taken f3 ((s.bankOf h).reg rs1) ((s.bankOf h).reg rs2) = false)) ∧
    (∃ (h row : Nat) (f3 rd rs1 imm a : Nat) (s : State), (s.runsFor h (2) = true) ∧ (s.fetches h 4 (.load f3 rd rs1 imm) = true) ∧ (a = Rv.add ((s.bankOf h).reg rs1) imm) ∧ (a % 2 ^ (f3 % 4) = 0) ∧ (s.inDtcm (s.helmTask h) a (2 ^ (f3 % 4)) = true)) ∧
    (∃ (h row : Nat) (f3 rs1 rs2 imm a : Nat) (s : State), (s.runsFor h (1) = true) ∧ (s.fetches h 4 (.store f3 rs1 rs2 imm) = true) ∧ (a = Rv.add ((s.bankOf h).reg rs1) imm) ∧ (a % 2 ^ f3 = 0) ∧ (s.inDtcm (s.helmTask h) a (2 ^ f3) = true)) ∧
    (∃ (h row : Nat) (f5 rd rs1 rs2 : Nat) (s : State), (s.runsFor h (4) = true) ∧ (s.fetches h 4 (.amo f5 rd rs1 rs2) = true) ∧ ((s.bankOf h).reg rs1 % 4 = 0) ∧ (s.inDtcm (s.helmTask h) ((s.bankOf h).reg rs1) 4 = true)) ∧
    (∃ (h row : Nat) (f5 rd rs1 rs2 rm : Nat) (s : State), (s.runsFor h (if f5 < 3 then 3 else 14) = true) ∧ (s.fetches h 4 (.farith f5 rd rs1 rs2 rm) = true)) ∧
    (∃ (h row : Nat) (s : State), (s.runsFor h 4 = true) ∧ (s.fetches h 4 .ecall = true) ∧ ((s.helm h).task = none) ∧ ((s.helm h).handler = false)) ∧
    (∃ (h row : Nat) (s : State), (s.runsFor h 4 = true) ∧ (s.fetches h 4 .ecall = true) ∧ ((s.helm h).task = none) ∧ ((s.helm h).handler = true)) ∧
    (∃ (h row k : Nat) (s : State), (s.runsFor h 4 = true) ∧ (s.fetches h 4 .ecall = true) ∧ ((s.helm h).task = some k) ∧ (k < 4096) ∧ (s.readyList = []) ∧ (s.helmState h = Fn.on) ∧ ((s.helm h).frames = []) ∧ ((s.helm h).spill = none)) :=
  ⟨⟨3, 0, 5, 0x12345000, { st [(Fld.HLM_STATUS.FUNC_STATE, 3, 2), (Fld.HLM_STATUS.LOGICAL, 3, 3)] with helms := [(3, { bank0 := { pc := 0x100, x := [] } })], tcm := [(3 * 2 ^ 32 + 0x100, 0xB7), (3 * 2 ^ 32 + 0x101, 0x52), (3 * 2 ^ 32 + 0x102, 0x34), (3 * 2 ^ 32 + 0x103, 0x12)] }, by decide +kernel⟩,
   ⟨3, 0, 0, 5, 6, 0xFFFFFFFF, false, { st [(Fld.HLM_STATUS.FUNC_STATE, 3, 2), (Fld.HLM_STATUS.LOGICAL, 3, 3)] with helms := [(3, { bank0 := { pc := 0x100, x := [(6, 3)] } })], tcm := [(3 * 2 ^ 32 + 0x100, 0x93), (3 * 2 ^ 32 + 0x101, 0x02), (3 * 2 ^ 32 + 0x102, 0xF3), (3 * 2 ^ 32 + 0x103, 0xFF)] }, by decide +kernel⟩,
   ⟨3, 0, 0, 5, 6, 7, true, { st [(Fld.HLM_STATUS.FUNC_STATE, 3, 2), (Fld.HLM_STATUS.LOGICAL, 3, 3)] with helms := [(3, { bank0 := { pc := 0x100, x := [(6, 3), (7, 4)] } })], tcm := [(3 * 2 ^ 32 + 0x100, 0xB3), (3 * 2 ^ 32 + 0x101, 0x02), (3 * 2 ^ 32 + 0x102, 0x73), (3 * 2 ^ 32 + 0x103, 0x40)] }, by decide +kernel⟩,
   ⟨3, 0, 5, 5, 6, 7, { st [(Fld.HLM_STATUS.FUNC_STATE, 3, 2), (Fld.HLM_STATUS.LOGICAL, 3, 3)] with helms := [(3, { bank0 := { pc := 0x100, x := [(6, 3)] } })], tcm := [(3 * 2 ^ 32 + 0x100, 0xB3), (3 * 2 ^ 32 + 0x101, 0x52), (3 * 2 ^ 32 + 0x102, 0x73), (3 * 2 ^ 32 + 0x103, 0x02)] }, by decide +kernel⟩,
   ⟨3, 0, 1, 8, { st [(Fld.HLM_STATUS.FUNC_STATE, 3, 2), (Fld.HLM_STATUS.LOGICAL, 3, 3)] with helms := [(3, { bank0 := { pc := 0x100, x := [] } })], tcm := [(3 * 2 ^ 32 + 0x100, 0xEF), (3 * 2 ^ 32 + 0x102, 0x80)] }, by decide +kernel⟩,
   ⟨3, 0, 1, 6, 0, { st [(Fld.HLM_STATUS.FUNC_STATE, 3, 2), (Fld.HLM_STATUS.LOGICAL, 3, 3)] with helms := [(3, { bank0 := { pc := 0x100, x := [(6, 0x205)] } })], tcm := [(3 * 2 ^ 32 + 0x100, 0xE7), (3 * 2 ^ 32 + 0x102, 0x03)] }, by decide +kernel⟩,
   ⟨3, 0, 0, 6, 6, 8, { st [(Fld.HLM_STATUS.FUNC_STATE, 3, 2), (Fld.HLM_STATUS.LOGICAL, 3, 3)] with helms := [(3, { bank0 := { pc := 0x100, x := [] } })], tcm := [(3 * 2 ^ 32 + 0x100, 0x63), (3 * 2 ^ 32 + 0x101, 0x04), (3 * 2 ^ 32 + 0x102, 0x63)] }, by decide +kernel⟩,
   ⟨3, 0, 1, 6, 6, 8, { st [(Fld.HLM_STATUS.FUNC_STATE, 3, 2), (Fld.HLM_STATUS.LOGICAL, 3, 3)] with helms := [(3, { bank0 := { pc := 0x100, x := [] } })], tcm := [(3 * 2 ^ 32 + 0x100, 0x63), (3 * 2 ^ 32 + 0x101, 0x14), (3 * 2 ^ 32 + 0x102, 0x63)] }, by decide +kernel⟩,
   ⟨3, 0, 0, 5, 6, 1, 0x10000005, { st [(Fld.HLM_STATUS.FUNC_STATE, 3, 2), (Fld.HLM_STATUS.LOGICAL, 3, 3)] with helms := [(3, { bank0 := { pc := 0x100, x := [(6, 0x10000004)] } })], tcm := [(3 * 2 ^ 32 + 0x100, 0x83), (3 * 2 ^ 32 + 0x101, 0x02), (3 * 2 ^ 32 + 0x102, 0x13), (3 * 2 ^ 32 + 0x10000005, 0x80)] }, by decide +kernel⟩,
   ⟨3, 0, 1, 6, 7, 2, 0x1000FBFE, { st [(Fld.HLM_STATUS.FUNC_STATE, 3, 2), (Fld.HLM_STATUS.LOGICAL, 3, 3)] with helms := [(3, { bank0 := { pc := 0x100, x := [(6, 0x1000FBFC), (7, 0x12345678)] } })], tcm := [(3 * 2 ^ 32 + 0x100, 0x23), (3 * 2 ^ 32 + 0x101, 0x11), (3 * 2 ^ 32 + 0x102, 0x73)] }, by decide +kernel⟩,
   ⟨3, 0, 0, 5, 6, 7, { st [(Fld.HLM_STATUS.FUNC_STATE, 3, 2), (Fld.HLM_STATUS.LOGICAL, 3, 3)] with helms := [(3, { bank0 := { pc := 0x100, x := [(6, 0x10000000), (7, 0xFFFFFFFF)] } })], tcm := [(3 * 2 ^ 32 + 0x100, 0xAF), (3 * 2 ^ 32 + 0x101, 0x22), (3 * 2 ^ 32 + 0x102, 0x73), (3 * 2 ^ 32 + 0x10000000, 3)] }, by decide +kernel⟩,
   ⟨3, 0, 0, 5, 6, 7, 0, { st [(Fld.HLM_STATUS.FUNC_STATE, 3, 2), (Fld.HLM_STATUS.LOGICAL, 3, 3)] with helms := [(3, { bank0 := { pc := 0x100, x := [] } })], tcm := [(3 * 2 ^ 32 + 0x100, 0xD3), (3 * 2 ^ 32 + 0x101, 0x02), (3 * 2 ^ 32 + 0x102, 0x73)] }, by decide +kernel⟩,
   ⟨3, 0, { st [(Fld.HLM_STATUS.FUNC_STATE, 3, 2), (Fld.HLM_STATUS.LOGICAL, 3, 3)] with helms := [(3, { bank0 := { pc := 0x100, x := [] }, csr := { mtvec := 0x300, mie := true } })], tcm := [(3 * 2 ^ 32 + 0x100, 0x73)] }, by decide +kernel⟩,
   ⟨3, 0, { st [(Fld.HLM_STATUS.FUNC_STATE, 3, 2), (Fld.HLM_STATUS.LOGICAL, 3, 3)] with helms := [(3, { bank0 := { pc := 0x100, x := [] }, handler := true })], tcm := [(3 * 2 ^ 32 + 0x100, 0x73)] }, by decide +kernel⟩,
   ⟨3, 0, 5, { st [(Fld.HLM_STATUS.FUNC_STATE, 3, 2), (Fld.HLM_STATUS.LOGICAL, 3, 3)] with helms := [(3, { bank1 := { pc := 0x100, x := [] }, task := some 5 })], tcm := [(3 * 2 ^ 32 + 0x100, 0x73)], task := { tasks := [(5, { desc := [0x100, 0x1000F000, 7, 0x00400000, 100, 0x00010000, 0x00000000], enabled := true, live := true, lastHelm := some 3 })] } }, by decide +kernel⟩⟩

/-- The premises of TheGytrumInstructionsReadAndWriteLegs can be met. -/
theorem test_premises_the_gytrum_instructions_read_and_write_legs :
    (∃ (h row : Nat) (rd rs1 rs2 : Nat) (s : State), (s.runsFor h (3 + ((s.entryAt ((s.bankOf h).reg rs2)).payload + 7) / 8) = true) ∧ (s.fetches h 4 (.lin rd rs1 rs2) = true) ∧ (s.mayRead (s.helmTask h) (s.entryAt ((s.bankOf h).reg rs2)) = true) ∧ ((s.bankOf h).reg rs1 % 8 = 0) ∧ (s.inDtcm (s.helmTask h) ((s.bankOf h).reg rs1) (s.entryAt ((s.bankOf h).reg rs2)).payload = true)) ∧
    (∃ (h row : Nat) (rd rs1 rs2 : Nat) (s : State), (s.runsFor h (3 + ((s.entryAt ((s.bankOf h).reg rs2)).moves + 7) / 8) = true) ∧ (s.fetches h 4 (.lin rd rs1 rs2) = true) ∧ (s.mayRead (s.helmTask h) (s.entryAt ((s.bankOf h).reg rs2)) = false) ∧ ((s.bankOf h).reg rs1 % 8 = 0)) ∧
    (∃ (h row : Nat) (rd rs1 rs2 k : Nat) (s : State), (s.runsFor h (2 + ((s.entryAt ((s.bankOf h).reg rs2)).payload + 7) / 8) = true) ∧ (s.fetches h 4 (.lout rd rs1 rs2) = true) ∧ ((s.helm h).task = some k) ∧ (k < 4096) ∧ (k ≠ 0) ∧ ((s.entryAt ((s.bankOf h).reg rs2)).valid = true) ∧ ((s.entryAt ((s.bankOf h).reg rs2)).inbound = false) ∧ ((s.entryAt ((s.bankOf h).reg rs2)).owner = (s.taskOf k).owner) ∧ ((s.entryAt ((s.bankOf h).reg rs2)).trigger = k) ∧ ((s.bankOf h).reg rs1 % 8 = 0) ∧ (s.inDtcm (s.helmTask h) ((s.bankOf h).reg rs1) (s.entryAt ((s.bankOf h).reg rs2)).payload = true) ∧ (s.helmEnds h (2 + ((s.entryAt ((s.bankOf h).reg rs2)).payload + 7) / 8) ≤ s.latestAt (s.taskOf k)) ∧ ((s.taskOf k).actTick = s.tick)) ∧
    (∃ (h row : Nat) (rd rs1 rs2 k : Nat) (s : State), (s.runsFor h (2 + ((s.entryAt ((s.bankOf h).reg rs2)).payload + 7) / 8) = true) ∧ (s.fetches h 4 (.lout rd rs1 rs2) = true) ∧ ((s.helm h).task = some k) ∧ (k < 4096) ∧ (k ≠ 0) ∧ ((s.entryAt ((s.bankOf h).reg rs2)).valid = true) ∧ ((s.entryAt ((s.bankOf h).reg rs2)).inbound = false) ∧ ((s.entryAt ((s.bankOf h).reg rs2)).owner = (s.taskOf k).owner) ∧ ((s.entryAt ((s.bankOf h).reg rs2)).trigger = k) ∧ ((s.bankOf h).reg rs1 % 8 = 0) ∧ (s.inDtcm (s.helmTask h) ((s.bankOf h).reg rs1) (s.entryAt ((s.bankOf h).reg rs2)).payload = true) ∧ (s.latestAt (s.taskOf k) < s.helmEnds h (2 + ((s.entryAt ((s.bankOf h).reg rs2)).payload + 7) / 8))) ∧
    (∃ (h row : Nat) (rd rs1 rs2 k : Nat) (s : State), (s.runsFor h (2 + ((s.entryAt ((s.bankOf h).reg rs2)).moves + 7) / 8) = true) ∧ (s.fetches h 4 (.lout rd rs1 rs2) = true) ∧ ((s.helm h).task = some k) ∧ (k < 4096) ∧ (k ≠ 0) ∧ ((s.entryAt ((s.bankOf h).reg rs2)).valid = false ∨ (s.entryAt ((s.bankOf h).reg rs2)).inbound = true ∨ (s.entryAt ((s.bankOf h).reg rs2)).owner ≠ (s.taskOf k).owner ∨ (s.entryAt ((s.bankOf h).reg rs2)).trigger ≠ k) ∧ ((s.bankOf h).reg rs1 % 8 = 0) ∧ (s.inDtcm (s.helmTask h) ((s.bankOf h).reg rs1) (s.entryAt ((s.bankOf h).reg rs2)).moves = true)) ∧
    (∃ (h row : Nat) (rd rs1 : Nat) (s : State), (s.runsFor h (3) = true) ∧ (s.fetches h 4 (.lstat rd rs1) = true)) :=
  ⟨⟨3, 0, 5, 6, 7, { st [(Fld.HLM_STATUS.FUNC_STATE, 3, 2), (Fld.HLM_STATUS.LOGICAL, 3, 3)] with helms := [(3, { bank0 := { pc := 0x100, x := [(6, 0x10000008), (7, 9)] } })], tcm := [(3 * 2 ^ 32 + 0x100, 0x8B), (3 * 2 ^ 32 + 0x101, 0x02), (3 * 2 ^ 32 + 0x102, 0x73)], chart := { bankA := [(9, { valid := true, inbound := true, payload := 3 })], legs := [(9, { inb := [1, 2], doneTick := some 0 })] } }, by decide +kernel⟩,
   ⟨3, 0, 5, 6, 7, { st [(Fld.HLM_STATUS.FUNC_STATE, 3, 2), (Fld.HLM_STATUS.LOGICAL, 3, 3)] with helms := [(3, { bank0 := { pc := 0x100, x := [(6, 0x10000008), (7, 16384)] } })], tcm := [(3 * 2 ^ 32 + 0x100, 0x8B), (3 * 2 ^ 32 + 0x101, 0x02), (3 * 2 ^ 32 + 0x102, 0x73)] }, by decide +kernel⟩,
   ⟨3, 0, 5, 6, 7, 5, { st [(Fld.HLM_STATUS.FUNC_STATE, 3, 2), (Fld.HLM_STATUS.LOGICAL, 3, 3)] with helms := [(3, { bank1 := { pc := 0x100, x := [(6, 0x10000008), (7, 9)] }, task := some 5 })], tcm := [(3 * 2 ^ 32 + 0x100, 0x8B), (3 * 2 ^ 32 + 0x101, 0x12), (3 * 2 ^ 32 + 0x102, 0x73), (3 * 2 ^ 32 + 0x10000008, 8)], task := { tasks := [(5, { desc := [0x100, 0x1000F000, 7, 0x00400000, 100, 0x00010000, 0x00000000], enabled := true, live := true, lastHelm := some 3 })] }, chart := { bankA := [(9, { valid := true, payload := 3, trigger := 5 })] } }, by decide +kernel⟩,
   ⟨3, 0, 5, 6, 7, 5, { st [(Fld.HLM_STATUS.FUNC_STATE, 3, 2), (Fld.HLM_STATUS.LOGICAL, 3, 3)] with helms := [(3, { bank1 := { pc := 0x100, x := [(6, 0x10000008), (7, 9)] }, task := some 5, at12 := 40000 })], tcm := [(3 * 2 ^ 32 + 0x100, 0x8B), (3 * 2 ^ 32 + 0x101, 0x12), (3 * 2 ^ 32 + 0x102, 0x73)], task := { tasks := [(5, { desc := [0x100, 0x1000F000, 7, 0x00400000, 100, 0x00010000, 0x00000000], enabled := true, live := true, lastHelm := some 3 })] }, chart := { bankA := [(9, { valid := true, payload := 3, trigger := 5 })] } }, by decide +kernel⟩,
   ⟨3, 0, 5, 6, 7, 5, { st [(Fld.HLM_STATUS.FUNC_STATE, 3, 2), (Fld.HLM_STATUS.LOGICAL, 3, 3)] with helms := [(3, { bank1 := { pc := 0x100, x := [(6, 0x10000008), (7, 9)] }, task := some 5 })], tcm := [(3 * 2 ^ 32 + 0x100, 0x8B), (3 * 2 ^ 32 + 0x101, 0x12), (3 * 2 ^ 32 + 0x102, 0x73)], task := { tasks := [(5, { desc := [0x100, 0x1000F000, 7, 0x00400000, 100, 0x00010000, 0x00000000], enabled := true, live := true, lastHelm := some 3 })] }, chart := { bankA := [(9, { valid := true, payload := 3, trigger := 6 })] } }, by decide +kernel⟩,
   ⟨3, 0, 5, 7, { st [(Fld.HLM_STATUS.FUNC_STATE, 3, 2), (Fld.HLM_STATUS.LOGICAL, 3, 3)] with helms := [(3, { bank0 := { pc := 0x100, x := [(7, 9)] } })], tcm := [(3 * 2 ^ 32 + 0x100, 0x8B), (3 * 2 ^ 32 + 0x101, 0xA2), (3 * 2 ^ 32 + 0x102, 0x03)], chart := { bankA := [(9, { valid := true, inbound := true })], legs := [(9, { doneTick := some 0, status := 1 })] } }, by decide +kernel⟩⟩

/-- The premises of TheGytrumInstructionsSignalSynchroniseAndClamp can be met. -/
theorem test_premises_the_gytrum_instructions_signal_synchronise_and_clamp :
    (∃ (h row : Nat) (rd rs1 : Nat) (s : State), (s.runsFor h (2) = true) ∧ (s.fetches h 4 (.sig rd rs1) = true) ∧ ((s.helm h).task = none) ∧ (((s.bankOf h).reg rs1) < 4096) ∧ ((s.taskOf ((s.bankOf h).reg rs1)).armed = true) ∧ (1 < (s.taskOf ((s.bankOf h).reg rs1)).count) ∧ ((s.taskOf ((s.bankOf h).reg rs1)).live = false)) ∧
    (∃ (h row : Nat) (rd rs1 : Nat) (s : State), (s.runsFor h (2) = true) ∧ (s.fetches h 4 (.sig rd rs1) = true) ∧ ((s.helm h).task = none) ∧ (4096 ≤ ((s.bankOf h).reg rs1))) ∧
    (∃ (h row : Nat) (rd rs1 : Nat) (s : State), (s.runsFor h (3) = true) ∧ (s.fetches h 4 (.semtry rd rs1) = true) ∧ (((s.bankOf h).reg rs1) < 64) ∧ (s.maySem (s.helmTask h) ((s.bankOf h).reg rs1) = true) ∧ (s.bit Fld.TSK_SEM_STATE.HELD ((s.bankOf h).reg rs1) = false)) ∧
    (∃ (h row : Nat) (rd rs1 : Nat) (s : State), (s.runsFor h (3) = true) ∧ (s.fetches h 4 (.semtry rd rs1) = true) ∧ (((s.bankOf h).reg rs1) < 64) ∧ (s.maySem (s.helmTask h) ((s.bankOf h).reg rs1) = true) ∧ (s.bit Fld.TSK_SEM_STATE.HELD ((s.bankOf h).reg rs1) = true)) ∧
    (∃ (h row : Nat) (rs1 : Nat) (s : State), (s.runsFor h (3) = true) ∧ (s.fetches h 4 (.semtake rs1) = true) ∧ (((s.bankOf h).reg rs1) < 64) ∧ ((s.helm h).task = none) ∧ (s.bit Fld.TSK_SEM_STATE.HELD ((s.bankOf h).reg rs1) = false)) ∧
    (∃ (h row : Nat) (rs1 : Nat) (s : State), (s.runsFor h (3) = true) ∧ (s.fetches h 4 (.semtake rs1) = true) ∧ (((s.bankOf h).reg rs1) < 64) ∧ ((s.helm h).task = none) ∧ (s.bit Fld.TSK_SEM_STATE.HELD ((s.bankOf h).reg rs1) = true)) ∧
    (∃ (h n : Nat) (s : State), (h < 18) ∧ (n < 64) ∧ ((s.helm h).wait = .sem n) ∧ (s.bit Fld.TSK_SEM_STATE.HELD n = false) ∧ ((s.semWaiters n).head? = some h)) ∧
    (∃ (h row : Nat) (rs1 : Nat) (s : State), (s.runsFor h (2) = true) ∧ (s.fetches h 4 (.semrel rs1) = true) ∧ (((s.bankOf h).reg rs1) < 64) ∧ (s.maySem (s.helmTask h) ((s.bankOf h).reg rs1) = true) ∧ (s.fld Fld.TSK_SEM_STATE.HELM ((s.bankOf h).reg rs1) = h) ∧ (s.readyList = [])) ∧
    (∃ (h row : Nat) (rs1 : Nat) (s : State), (s.runsFor h (2) = true) ∧ (s.fetches h 4 (.semrel rs1) = true) ∧ (((s.bankOf h).reg rs1) < 64) ∧ (s.maySem (s.helmTask h) ((s.bankOf h).reg rs1) = true) ∧ (s.fld Fld.TSK_SEM_STATE.HELM ((s.bankOf h).reg rs1) ≠ h)) ∧
    (∃ (h row k : Nat) (s : State), (s.runsFor h 2 = true) ∧ (s.fetches h 4 .done = true) ∧ ((s.helm h).task = some k) ∧ (k < 4096) ∧ (s.readyList = []) ∧ (s.helmState h = Fn.on) ∧ ((s.helm h).frames = []) ∧ ((s.helm h).spill = none)) ∧
    (∃ (h row : Nat) (s : State), (s.runsFor h (1) = true) ∧ (s.fetches h 4 (.wft) = true)) ∧
    (∃ (h row : Nat) (rd rs1 rs2 : Nat) (s : State), (s.runsFor h (1) = true) ∧ (s.fetches h 4 (.fclmp rd rs1 rs2) = true)) :=
  ⟨⟨3, 0, 5, 7, { st [(Fld.HLM_STATUS.FUNC_STATE, 3, 2), (Fld.HLM_STATUS.LOGICAL, 3, 3)] with helms := [(3, { bank0 := { pc := 0x100, x := [(7, 9)] } })], tcm := [(3 * 2 ^ 32 + 0x100, 0x8B), (3 * 2 ^ 32 + 0x101, 0xB2), (3 * 2 ^ 32 + 0x102, 0x03)], task := { tasks := [(9, { armed := true, count := 2 })] } }, by decide +kernel⟩,
   ⟨3, 0, 5, 7, { st [(Fld.HLM_STATUS.FUNC_STATE, 3, 2), (Fld.HLM_STATUS.LOGICAL, 3, 3)] with helms := [(3, { bank0 := { pc := 0x100, x := [(7, 4096)] } })], tcm := [(3 * 2 ^ 32 + 0x100, 0x8B), (3 * 2 ^ 32 + 0x101, 0xB2), (3 * 2 ^ 32 + 0x102, 0x03)] }, by decide +kernel⟩,
   ⟨3, 0, 5, 7, { st [(Fld.HLM_STATUS.FUNC_STATE, 3, 2), (Fld.HLM_STATUS.LOGICAL, 3, 3)] with helms := [(3, { bank0 := { pc := 0x100, x := [(7, 63)] } })], tcm := [(3 * 2 ^ 32 + 0x100, 0x8B), (3 * 2 ^ 32 + 0x101, 0xC2), (3 * 2 ^ 32 + 0x102, 0x03)] }, by decide +kernel⟩,
   ⟨3, 0, 5, 7, { st [(Fld.HLM_STATUS.FUNC_STATE, 3, 2), (Fld.HLM_STATUS.LOGICAL, 3, 3), (Fld.TSK_SEM_STATE.HELD, 63, 1)] with helms := [(3, { bank0 := { pc := 0x100, x := [(7, 63)] } })], tcm := [(3 * 2 ^ 32 + 0x100, 0x8B), (3 * 2 ^ 32 + 0x101, 0xC2), (3 * 2 ^ 32 + 0x102, 0x03)] }, by decide +kernel⟩,
   ⟨3, 0, 7, { st [(Fld.HLM_STATUS.FUNC_STATE, 3, 2), (Fld.HLM_STATUS.LOGICAL, 3, 3)] with helms := [(3, { bank0 := { pc := 0x100, x := [(7, 63)] } })], tcm := [(3 * 2 ^ 32 + 0x100, 0x0B), (3 * 2 ^ 32 + 0x101, 0xC0), (3 * 2 ^ 32 + 0x102, 0x03), (3 * 2 ^ 32 + 0x103, 0x02)] }, by decide +kernel⟩,
   ⟨3, 0, 7, { st [(Fld.HLM_STATUS.FUNC_STATE, 3, 2), (Fld.HLM_STATUS.LOGICAL, 3, 3), (Fld.TSK_SEM_STATE.HELD, 63, 1)] with helms := [(3, { bank0 := { pc := 0x100, x := [(7, 63)] } })], tcm := [(3 * 2 ^ 32 + 0x100, 0x0B), (3 * 2 ^ 32 + 0x101, 0xC0), (3 * 2 ^ 32 + 0x102, 0x03), (3 * 2 ^ 32 + 0x103, 0x02)] }, by decide +kernel⟩,
   ⟨3, 63, { st [(Fld.HLM_STATUS.FUNC_STATE, 3, 2), (Fld.HLM_STATUS.LOGICAL, 3, 3)] with helms := [(3, { bank0 := { pc := 0x100, x := [] }, wait := .sem 63 })], tcm := [(3 * 2 ^ 32 + 0x100, 0x13)] }, by decide +kernel⟩,
   ⟨3, 0, 7, { st [(Fld.HLM_STATUS.FUNC_STATE, 3, 2), (Fld.HLM_STATUS.LOGICAL, 3, 3), (Fld.TSK_SEM_STATE.HELD, 63, 1), (Fld.TSK_SEM_STATE.HELM, 63, 3)] with helms := [(3, { bank0 := { pc := 0x100, x := [(7, 63)] } })], tcm := [(3 * 2 ^ 32 + 0x100, 0x0B), (3 * 2 ^ 32 + 0x101, 0xC0), (3 * 2 ^ 32 + 0x102, 0x03), (3 * 2 ^ 32 + 0x103, 0x04)] }, by decide +kernel⟩,
   ⟨3, 0, 7, { st [(Fld.HLM_STATUS.FUNC_STATE, 3, 2), (Fld.HLM_STATUS.LOGICAL, 3, 3), (Fld.TSK_SEM_STATE.HELD, 63, 1), (Fld.TSK_SEM_STATE.HELM, 63, 4)] with helms := [(3, { bank0 := { pc := 0x100, x := [(7, 63)] } })], tcm := [(3 * 2 ^ 32 + 0x100, 0x0B), (3 * 2 ^ 32 + 0x101, 0xC0), (3 * 2 ^ 32 + 0x102, 0x03), (3 * 2 ^ 32 + 0x103, 0x04)] }, by decide +kernel⟩,
   ⟨3, 0, 5, { st [(Fld.HLM_STATUS.FUNC_STATE, 3, 2), (Fld.HLM_STATUS.LOGICAL, 3, 3), (Fld.TSK_SEM_STATE.HELD, 63, 1), (Fld.TSK_SEM_STATE.BY_TASK, 63, 1), (Fld.TSK_SEM_STATE.TASK, 63, 5)] with helms := [(3, { bank1 := { pc := 0x100, x := [] }, task := some 5 })], tcm := [(3 * 2 ^ 32 + 0x100, 0x0B), (3 * 2 ^ 32 + 0x101, 0x50)], task := { tasks := [(5, { desc := [0x100, 0x1000F000, 7, 0x00400000, 100, 0x00010000, 0x00000000], enabled := true, live := true, lastHelm := some 3 })] } }, by decide +kernel⟩,
   ⟨3, 0, { st [(Fld.HLM_STATUS.FUNC_STATE, 3, 2), (Fld.HLM_STATUS.LOGICAL, 3, 3)] with helms := [(3, { bank0 := { pc := 0x100, x := [] } })], tcm := [(3 * 2 ^ 32 + 0x100, 0x0B), (3 * 2 ^ 32 + 0x101, 0x50), (3 * 2 ^ 32 + 0x103, 0x02)] }, by decide +kernel⟩,
   ⟨3, 0, 5, 6, 7, { st [(Fld.HLM_STATUS.FUNC_STATE, 3, 2), (Fld.HLM_STATUS.LOGICAL, 3, 3)] with helms := [(3, { bank0 := { pc := 0x100, x := [] } })], tcm := [(3 * 2 ^ 32 + 0x100, 0xAB), (3 * 2 ^ 32 + 0x101, 0x02), (3 * 2 ^ 32 + 0x102, 0x73)] }, by decide +kernel⟩⟩

/-- The premises of HelmsAreSwitchedLoadedAndDispatchedTo can be met. -/
theorem test_premises_helms_are_switched_loaded_and_dispatched_to :
    (∃ (h : Nat) (s : State), (h < 18) ∧ (s.logicalOf h ≠ 30) ∧ (s.helmState h = Fn.off) ∧ (s.helmSwapDue h = false)) ∧
    (∃ (h : Nat) (s : State), (h < 18) ∧ (s.logicalOf h ≠ 30) ∧ (s.helmState h = Fn.disabling)) ∧
    (∃ (h : Nat) (s : State), (h < 18) ∧ (s.helmState h = Fn.enabling) ∧ (s.reaches (((s.helm h).enabAt + 64 * s.cyc) / 12) = true) ∧ (s.readyList = [])) ∧
    (∃ (h : Nat) (s : State), (h < 18) ∧ (s.logicalOf h ≠ 30) ∧ (s.helmState h = Fn.on) ∧ ((s.helm h).task = none) ∧ (s.bit Fld.HLM_STATUS.PENDING_ENABLE h = false)) ∧
    (∃ (h off : Nat) (itcm : Bool) (bs : List Byte) (s : State), (h < 18) ∧ (off + bs.length ≤ 65536) ∧ (itcm = true → s.helmState h = Fn.off)) ∧
    (∃ (h off : Nat) (bs : List Byte) (s : State), (h < 18) ∧ (off + bs.length ≤ 65536) ∧ (s.helmState h ≠ Fn.off)) ∧
    (∃ (h at12 : Nat) (s : State), (h < 18) ∧ (s.executes h = true) ∧ ((s.helm h).task = none) ∧ ((s.helm h).csr.mie = true) ∧ ((s.helm h).csr.meie = true) ∧ (s.meip h = true) ∧ (at12 = max (s.helm h).at12 (if (s.helm h).wait = .none then 0 else s.now12) + 4 * s.cyc) ∧ (s.reaches (at12 / 12) = true)) ∧
    (∃ (h k : Nat) (s : State), (h < 18) ∧ ((s.helm h).task = some k) ∧ ((s.helm h).entering = true) ∧ ((s.helm h).spill = none) ∧ (s.readyList = []) ∧ (s.reaches (((s.helm h).dispAt + 288) / 12) = true)) ∧
    (∃ (h k : Nat) (f : Frame) (s : State), (h < 18) ∧ ((s.helm h).task = some k) ∧ ((s.helm h).entering = true) ∧ ((s.helm h).spill = some f) ∧ (s.readyList = []) ∧ (s.reaches (((s.helm h).dispAt + 288) / 12) = true)) ∧
    (∃ (k : Nat) (s : State), (k < 4096) ∧ ((s.taskOf k).armed = true) ∧ ((s.taskOf k).markedTick ≠ some s.tick) ∧ ((s.taskOf k).endedTick ≠ some s.tick) ∧ ((s.taskOf k).count ≠ 0) ∧ ((s.taskOf k).live = false) ∧ (s.reaches (s.latestAt (s.taskOf k) / 12) = true)) ∧
    (∃ (n : Nat) (s : State), (n < 64) ∧ (s.bit Fld.TSK_SEM_STATE.HELD n = true) ∧ (s.fld Fld.TSK_SEM_CFG.HOLD_LIMIT n ≠ 0) ∧ (s.task.semOver.contains n = false) ∧ (s.reaches ((tget 0 s.task.semAt n + s.fld Fld.TSK_SEM_CFG.HOLD_LIMIT n * 16 * s.cyc) / 12) = true)) :=
  ⟨⟨3, { st [(Fld.HLM_RESET_VEC.VECTOR, 3, 64)] with helms := [(3, {  })] }, by decide +kernel⟩,
   ⟨17, st [(Fld.HLM_STATUS.FUNC_STATE, 17, 3)], by decide +kernel⟩,
   ⟨3, { st [(Fld.HLM_STATUS.FUNC_STATE, 3, 1), (Fld.HLM_STATUS.LOGICAL, 3, 3)] with helms := [(3, { enabAt := 120 })] }, by decide +kernel⟩,
   ⟨3, { st [(Fld.HLM_STATUS.FUNC_STATE, 3, 2), (Fld.HLM_STATUS.LOGICAL, 3, 3), (Fld.HLM_CTRL.ENABLE, 3, 1)] with helms := [(3, {  })] }, by decide +kernel⟩,
   ⟨3, 65534, true, [7, 8], { st [] with helms := [(3, {  })] }, by decide +kernel⟩,
   ⟨3, 0, [7, 8], { st [(Fld.HLM_STATUS.FUNC_STATE, 3, 2), (Fld.HLM_STATUS.LOGICAL, 3, 3)] with helms := [(3, {  })] }, by decide +kernel⟩,
   ⟨3, 48, { st [(Fld.HLM_STATUS.FUNC_STATE, 3, 2), (Fld.HLM_STATUS.LOGICAL, 3, 3), (Fld.ICU_PEND.PEND, 5, 2 ^ 10), (Fld.ICU_MASK.MASK, 5, 0), (Fld.ICU_SRC_CFG.PRIO, 170, 4), (Fld.ICU_SRC_CFG.TARGET, 170, 3)] with helms := [(3, { csr := { mie := true, meie := true, mtvec := 0x300 } })] }, by decide +kernel⟩,
   ⟨3, 5, { st [(Fld.HLM_STATUS.FUNC_STATE, 3, 2), (Fld.HLM_STATUS.LOGICAL, 3, 3)] with helms := [(3, { task := some 5, entering := true, dispAt := 12 })], task := { tasks := [(5, { desc := [0x100, 0x1000F000, 7, 0x00400000, 100, 0x00010000, 0], actTick := 77, live := true })] } }, by decide +kernel⟩,
   ⟨3, 5, { task := 6, act := 9 }, { st [(Fld.HLM_STATUS.FUNC_STATE, 3, 2), (Fld.HLM_STATUS.LOGICAL, 3, 3)] with helms := [(3, { task := some 5, entering := true, dispAt := 12, spill := some { task := 6, act := 9 }, bank1 := { pc := 0x104, x := [(1, 3)] } })], task := { tasks := [(5, { desc := [0x100, 0x1000F000, 7, 0x00400000, 100, 0x00010000, 0], live := true })] } }, by decide +kernel⟩,
   ⟨5, { st [] with helms := [(3, {  })], task := { tasks := [(5, { desc := [0x100, 0x1000F000, 7, 0x00400000, 100, 0x00010000, 0], armed := true, count := 2 })] } }, by decide +kernel⟩,
   ⟨63, st [(Fld.TSK_SEM_STATE.HELD, 63, 1), (Fld.TSK_SEM_CFG.HOLD_LIMIT, 63, 1)], by decide +kernel⟩⟩

/-- The premises of TasksAreWrittenEnabledAndKicked can be met. -/
theorem test_premises_tasks_are_written_enabled_and_kicked :
    (∃ (s : State), (s.descAccepted s.taskIndex s.stagedDesc = true)) ∧
    (∃ (s : State), (s.descAccepted s.taskIndex s.stagedDesc = false)) ∧
    (∃ (s : State), ((s.taskOf s.taskIndex).armed = true) ∧ (1 < (s.taskOf s.taskIndex).count) ∧ (s.readyList = [])) ∧
    (∃ (s : State), ((s.taskOf s.taskIndex).count = 0) ∧ (s.readyList = [])) ∧
    (∃ (tag : Nat) (s : State) (c : Cmd), (s.startable tag 0x14 = some c) ∧ (c.at 4 1 = 0) ∧ ((c.at 8 2) < 4096) ∧ ((s.taskOf (c.at 8 2)).owner = c.ins) ∧ (s.descAccepted (c.at 8 2) ((List.range 8).map fun k => c.at (16 + 4 * k) 4) = true) ∧ (bitsAt (c.at 36 4) 0 12 = c.ins) ∧ (s.takesCompletion c = true)) ∧
    (∃ (tag : Nat) (s : State) (c : Cmd), (s.startable tag 0x14 = some c) ∧ (c.at 4 1 = 0) ∧ ((c.at 8 2) < 4096) ∧ ((s.taskOf (c.at 8 2)).owner = c.ins) ∧ (s.descAccepted (c.at 8 2) ((List.range 8).map fun k => c.at (16 + 4 * k) 4) = false ∨ bitsAt (c.at 36 4) 0 12 ≠ c.ins) ∧ (s.takesCompletion c = true)) ∧
    (∃ (tag : Nat) (s : State) (c : Cmd), (s.startable tag 0x14 = some c) ∧ (c.at 4 1 = 1) ∧ ((c.at 8 2) < 4096) ∧ ((s.taskOf (c.at 8 2)).owner = c.ins) ∧ (s.takesCompletion c = true)) ∧
    (∃ (tag : Nat) (s : State) (c : Cmd), (s.startable tag 0x14 = some c) ∧ (c.at 4 1 = 1) ∧ (4096 ≤ (c.at 8 2) ∨ (s.taskOf (c.at 8 2)).owner ≠ c.ins) ∧ (s.takesCompletion c = true)) ∧
    (∃ (tag : Nat) (s : State) (c : Cmd), (s.startable tag 0x14 = some c) ∧ (c.at 4 1 = 2) ∧ ((c.at 8 2) < 4096) ∧ ((s.taskOf (c.at 8 2)).owner = c.ins) ∧ (s.takesCompletion c = true)) ∧
    (∃ (tag : Nat) (s : State) (c : Cmd), (s.startable tag 0x14 = some c) ∧ (c.at 4 1 = 3) ∧ ((c.at 8 2) < 4096) ∧ ((s.taskOf (c.at 8 2)).owner = c.ins) ∧ ((s.taskOf (c.at 8 2)).armed = true) ∧ (1 < (s.taskOf (c.at 8 2)).count) ∧ (s.readyList = []) ∧ (s.takesCompletion c = true)) ∧
    (∃ (tag : Nat) (s : State) (c : Cmd), (s.startable tag 0x14 = some c) ∧ (c.at 4 1 = 4) ∧ ((c.at 8 2) < 4096) ∧ ((s.taskOf (c.at 8 2)).owner = c.ins) ∧ (s.canIssue (s.insFn c.ins) = true) ∧ (s.takesCompletion c = true)) :=
  ⟨⟨{ st [(Fld.TSK_INDEX.INDEX, 0, 5)] with task := { tasks := [(5, {  })], staged := [(0, 0x100), (3, 0x00400000), (4, 100), (5, 0x00010000)] } }, by decide +kernel⟩,
   ⟨{ st [(Fld.TSK_INDEX.INDEX, 0, 5)] with task := { tasks := [(5, { live := true })], staged := [(0, 0x100), (3, 0x00400000), (4, 100), (5, 0x00010000)] } }, by decide +kernel⟩,
   ⟨{ st [(Fld.TSK_INDEX.INDEX, 0, 5)] with task := { tasks := [(5, { armed := true, count := 2 })], staged := [] } }, by decide +kernel⟩,
   ⟨{ st [(Fld.TSK_INDEX.INDEX, 0, 5)] with task := { tasks := [(5, { armed := true, extraCnt := 65535 })], staged := [] } }, by decide +kernel⟩,
   ⟨7, { qst (cmdOf 0x14 [(4, 1, 0), (8, 2, 5), (16, 4, 0x100), (28, 4, 0x00400000), (32, 4, 100), (36, 4, 0x00010000)]) [] with task := { tasks := [(5, {  })] } }, cmdOf 0x14 [(4, 1, 0), (8, 2, 5), (16, 4, 0x100), (28, 4, 0x00400000), (32, 4, 100), (36, 4, 0x00010000)], by decide +kernel⟩,
   ⟨7, { qst (cmdOf 0x14 [(4, 1, 0), (8, 2, 5), (16, 4, 0x100), (28, 4, 0x00400000), (32, 4, 100), (36, 4, 0x00010001)]) [] with task := { tasks := [(5, {  })] } }, cmdOf 0x14 [(4, 1, 0), (8, 2, 5), (16, 4, 0x100), (28, 4, 0x00400000), (32, 4, 100), (36, 4, 0x00010001)], by decide +kernel⟩,
   ⟨7, { qst (cmdOf 0x14 [(4, 1, 1), (8, 2, 5)]) [] with task := { tasks := [(5, {  })] } }, cmdOf 0x14 [(4, 1, 1), (8, 2, 5)], by decide +kernel⟩,
   ⟨7, { qst (cmdOf 0x14 [(4, 1, 1), (8, 2, 5)]) [] with task := { tasks := [(5, { desc := [0, 0, 0, 0, 0, 9] })] } }, cmdOf 0x14 [(4, 1, 1), (8, 2, 5)], by decide +kernel⟩,
   ⟨7, { qst (cmdOf 0x14 [(4, 1, 2), (8, 2, 5)]) [] with task := { tasks := [(5, {  })] } }, cmdOf 0x14 [(4, 1, 2), (8, 2, 5)], by decide +kernel⟩,
   ⟨7, { qst (cmdOf 0x14 [(4, 1, 3), (8, 2, 5)]) [] with task := { tasks := [(5, { armed := true, count := 2 })] } }, cmdOf 0x14 [(4, 1, 3), (8, 2, 5)], by decide +kernel⟩,
   ⟨7, { qst (cmdOf 0x14 [(4, 1, 4), (8, 2, 5), (48, 8, 0x8000)]) [] with task := { tasks := [(5, { runCnt := 3 })] } }, cmdOf 0x14 [(4, 1, 4), (8, 2, 5), (48, 8, 0x8000)], by decide +kernel⟩⟩

/-- The premises of TheProcessImageIsWrittenAndRead can be met. -/
theorem test_premises_the_process_image_is_written_and_read :
    (∃ (i : Nat) (p : PiIn) (s : State), (s.piIn i s.tick = some p) ∧ (s.piActive i = true) ∧ (p.left = []) ∧ (p.written = 0) ∧ (p.fullDone = false) ∧ (s.canIssue (s.insFn i) = true) ∧ (s.bit Fld.INS_LOG_CFG.RUNNING i = false) ∧ (s.reaches (s.chr.meridNs + 32 * (s.fld Fld.CHT_TICK_LEN.ACTIVE_N - 4)) = true)) ∧
    (∃ (i : Nat) (p : PiIn) (s : State), (s.piIn i s.tick = some p) ∧ (p.halfDone = false) ∧ (s.piActive i = true) ∧ (s.fld Fld.DMA_PI_CFG.HALF_SLOT i ≠ 0) ∧ (s.reaches (s.chr.meridNs + 32 * s.fld Fld.DMA_PI_CFG.HALF_SLOT i) = true)) ∧
    (∃ (i : Nat) (u : PiStream) (s : State), (s.stream i = u) ∧ (u.stamp = true) ∧ (u.stampDue = false) ∧ (u.closed = false) ∧ (ofBytes (readBytes memDefault s.host (s.outPage i u.page) 8) = u.page) ∧ (s.attached i = true)) ∧
    (∃ (i : Nat) (u : PiStream) (s : State), (s.stream i = u) ∧ (u.stamp = true) ∧ (u.stampDue = false) ∧ (u.closed = false) ∧ (ofBytes (readBytes memDefault s.host (s.outPage i u.page) 8) ≠ u.page)) ∧
    (∃ (i k off len : Nat) (u : PiStream) (e : Nat × ChartEntry) (bs : List Byte) (s : State), (s.stream i = u) ∧ (u.reads[k]? = some (u.page, off, len)) ∧ (u.closed = false) ∧ (s.piLegs i u.page = [e]) ∧ (piecesCover u.got (e.2.piOffset * 8) e.2.payload = none) ∧ (piecesCover (u.got ++ [(off, readBytes memDefault s.host (s.outPage i u.page + off) len)]) (e.2.piOffset * 8) e.2.payload = some bs)) ∧
    (∃ (i k how : Nat) (u : PiStream) (s : State), (s.stream i = u) ∧ (u.stamp = true) ∧ (u.stampDue = false) ∧ (u.closed = false) ∧ (u.faulted = false)) ∧
    (∃ (v : Nat) (s : State), (s.bit Fld.DMA_PI_CFG.ENABLE s.piIndex = false) ∧ (s.piActive s.piIndex = false) ∧ (bitAt v 0 = true → s.pageBase s.piIndex % (4096 * 2 ^ min 11 (bitsAt v 4 4)) = 0)) ∧
    (∃ (v : Nat) (s : State), (s.bit Fld.DMA_PI_CFG.ENABLE s.piIndex = true ∨ s.piActive s.piIndex = true) ∧ (bitsAt v 4 4 ≠ s.fld Fld.DMA_PI_CFG.SIZE s.piIndex)) ∧
    (∃ (v : Nat) (s : State), (s.bit Fld.DMA_PI_CFG.ENABLE s.piIndex = false) ∧ (s.piActive s.piIndex = false) ∧ (bitAt v 0 = true) ∧ (s.pageBase s.piIndex % (4096 * 2 ^ min 11 (bitsAt v 4 4)) ≠ 0)) ∧
    (∃ (v : Nat) (s : State), (s.bit Fld.DMA_PI_CFG.ENABLE s.piIndex = false) ∧ (s.piActive s.piIndex = false)) ∧
    (∃ (hi : Bool) (v : Nat) (s : State), (s.bit Fld.DMA_PI_CFG.ENABLE s.piIndex = true ∨ s.piActive s.piIndex = true)) ∧
    (∃ (r v : Nat) (s : State), (s.fld Fld.DMA_ROUTE_INDEX.ROUTE = r) ∧ (s.bit Fld.DMA_ROUTE_CFG.ENABLE r = false)) ∧
    (∃ (r v : Nat) (s : State), (s.fld Fld.DMA_ROUTE_INDEX.ROUTE = r) ∧ (s.bit Fld.DMA_ROUTE_CFG.ENABLE r = false) ∧ (bitAt v 31 = true) ∧ (routeValid (bitsAt v 0 13) (s.fld Fld.DMA_ROUTE_DST.BUF0 r) (s.fld Fld.DMA_ROUTE_DST.BUF1 r) = true)) ∧
    (∃ (r v : Nat) (s : State), (s.fld Fld.DMA_ROUTE_INDEX.ROUTE = r) ∧ (s.bit Fld.DMA_ROUTE_CFG.ENABLE r = true)) :=
  ⟨⟨0, { meridNs := 77 }, { st [(Fld.INS_STATUS.FUNC_STATE, 0, 2), (Fld.DMA_PI_BASE_LO.BASE_LO, 0, 64), (Fld.DMA_PI_STATUS.ACTIVE, 0, 1)] with dma := { streams := [(0, { inb := [{ meridNs := 77 }] })] }, fns := [(0, { bme := true })] }, by decide +kernel⟩,
   ⟨0, {}, { st [(Fld.INS_STATUS.FUNC_STATE, 0, 2), (Fld.DMA_PI_BASE_LO.BASE_LO, 0, 64), (Fld.DMA_PI_STATUS.ACTIVE, 0, 1), (Fld.DMA_PI_CFG.HALF_SLOT, 0, 9)] with dma := { streams := [(0, { inb := [{}] })] }, fns := [(0, { bme := true })] }, by decide +kernel⟩,
   ⟨0, { page := 5, stamp := true, closed := false }, { st [(Fld.INS_STATUS.FUNC_STATE, 0, 2), (Fld.DMA_PI_BASE_LO.BASE_LO, 0, 64), (Fld.DMA_PI_STATUS.ACTIVE, 0, 1), (Fld.GBL_PCIE_STATUS.DL_ACTIVE, 0, 1)] with dma := { streams := [(0, { page := 5, stamp := true, closed := false })] }, fns := [(0, { bme := true })], host := [(0x43000, 5)], chart := { bankA := [(9, { valid := true, payload := 600, piOffset := 16 })] } }, by decide +kernel⟩,
   ⟨0, { page := 5, stamp := true, closed := false }, { st [(Fld.INS_STATUS.FUNC_STATE, 0, 2), (Fld.DMA_PI_BASE_LO.BASE_LO, 0, 64), (Fld.DMA_PI_STATUS.ACTIVE, 0, 1)] with dma := { streams := [(0, { page := 5, stamp := true, closed := false })] }, fns := [(0, { bme := true })] }, by decide +kernel⟩,
   ⟨0, 0, 128, 3, { page := 5, reads := [(5, 128, 3)], closed := false }, (9, { valid := true, payload := 3, piOffset := 16 }), [1, 2, 3], { st [(Fld.INS_STATUS.FUNC_STATE, 0, 2), (Fld.DMA_PI_BASE_LO.BASE_LO, 0, 64), (Fld.DMA_PI_STATUS.ACTIVE, 0, 1)] with dma := { streams := [(0, { page := 5, reads := [(5, 128, 3)], closed := false })] }, fns := [(0, { bme := true })], host := [(0x43080, 1), (0x43081, 2), (0x43082, 3)], chart := { bankA := [(9, { valid := true, payload := 3, piOffset := 16 })] } }, by decide +kernel⟩,
   ⟨0, 0, 1, { page := 5, stamp := true, closed := false }, { st [(Fld.INS_STATUS.FUNC_STATE, 0, 2), (Fld.DMA_PI_BASE_LO.BASE_LO, 0, 64), (Fld.DMA_PI_STATUS.ACTIVE, 0, 1)] with dma := { streams := [(0, { page := 5, stamp := true, closed := false })] }, fns := [(0, { bme := true })] }, by decide +kernel⟩,
   ⟨0x1921, { st [(Fld.INS_STATUS.FUNC_STATE, 0, 2), (Fld.DMA_PI_BASE_LO.BASE_LO, 0, 64)] with dma := { streams := [(0, {  })] }, fns := [(0, { bme := true })] }, by decide +kernel⟩,
   ⟨0x10, { st [(Fld.INS_STATUS.FUNC_STATE, 0, 2), (Fld.DMA_PI_BASE_LO.BASE_LO, 0, 64), (Fld.DMA_PI_STATUS.ACTIVE, 0, 1)] with dma := { streams := [(0, {  })] }, fns := [(0, { bme := true })] }, by decide +kernel⟩,
   ⟨0x71, { st [(Fld.INS_STATUS.FUNC_STATE, 0, 2), (Fld.DMA_PI_BASE_LO.BASE_LO, 0, 64)] with dma := { streams := [(0, {  })] }, fns := [(0, { bme := true })] }, by decide +kernel⟩,
   ⟨2 ^ 32 + 5, { st [(Fld.INS_STATUS.FUNC_STATE, 0, 2), (Fld.DMA_PI_BASE_LO.BASE_LO, 0, 64)] with dma := { streams := [(0, {  })] }, fns := [(0, { bme := true })] }, by decide +kernel⟩,
   ⟨false, 5, { st [(Fld.INS_STATUS.FUNC_STATE, 0, 2), (Fld.DMA_PI_BASE_LO.BASE_LO, 0, 64), (Fld.DMA_PI_STATUS.ACTIVE, 0, 1)] with dma := { streams := [(0, {  })] }, fns := [(0, { bme := true })] }, by decide +kernel⟩,
   ⟨63, 0x12345678, st [(Fld.DMA_ROUTE_INDEX.ROUTE, 0, 63)], by decide +kernel⟩,
   ⟨63, 0x80030010, st [(Fld.DMA_ROUTE_INDEX.ROUTE, 0, 63), (Fld.DMA_ROUTE_DST.BUF1, 63, 16)], by decide +kernel⟩,
   ⟨63, 5, st [(Fld.DMA_ROUTE_INDEX.ROUTE, 0, 63), (Fld.DMA_ROUTE_CFG.ENABLE, 63, 1)], by decide +kernel⟩⟩

/-- The premises of ChannelsMoveDataAlongTheirChains can be met. -/
theorem test_premises_channels_move_data_along_their_chains :
    (∃ (c v : Nat) (s : State), (c < 68) ∧ (s.chanState c = Fn.off)) ∧
    (∃ (c reg v : Nat) (s : State), (c < 68) ∧ (reg < 5) ∧ (s.chanState c ≠ Fn.off)) ∧
    (∃ (c : Nat) (s : State), (c < 68) ∧ (s.fld Fld.DMA_CH_STATUS.LOGICAL c ≠ 126) ∧ (s.chanState c = Fn.off) ∧ (s.fld Fld.INS_STATUS.FUNC_STATE (s.chanOwner c) ≠ Fn.off)) ∧
    (∃ (c : Nat) (s : State), (c < 68) ∧ (s.fld Fld.DMA_CH_STATUS.LOGICAL c ≠ 126) ∧ (s.chanState c = Fn.off) ∧ (s.fld Fld.INS_STATUS.FUNC_STATE (s.chanOwner c) = Fn.off)) ∧
    (∃ (c : Nat) (s : State), (c < 68) ∧ (s.chanState c = Fn.enabling)) ∧
    (∃ (c : Nat) (s : State), (c < 68) ∧ (s.fld Fld.DMA_CH_STATUS.LOGICAL c ≠ 126) ∧ (s.chanState c = Fn.on) ∧ (s.chanRuns c = false) ∧ (s.bit Fld.DMA_CH_STATUS.PENDING_ENABLE c = false)) ∧
    (∃ (c : Nat) (s : State), (c < 68) ∧ (s.chanState c = Fn.on) ∧ (s.chanRuns c = false)) ∧
    (∃ (c a : Nat) (s : State), (c < 68) ∧ (s.chanState c = Fn.on) ∧ (s.chanRuns c = false) ∧ ((s.chan c).last = some a)) ∧
    (∃ (tag : Nat) (s : State) (c : Cmd) (n : Nat), (s.startable tag 0x83 = some c) ∧ (s.requestFree (s.insFn (s.chanOwner n)) = true) ∧ ((s.chan n).npWait = false) ∧ (s.chanNamed (c.at 4 1) = some n) ∧ (s.chanState n = Fn.on) ∧ (s.chanRuns n = false)) ∧
    (∃ (tag : Nat) (s : State) (c : Cmd) (n : Nat), (s.startable tag 0x83 = some c) ∧ (s.chanNamed (c.at 4 1) = some n) ∧ (s.chanState n ≠ Fn.on ∨ s.chanRuns n = true) ∧ (s.takesCompletion c = true)) ∧
    (∃ (c a : Nat) (d : Desc) (s : State), (c < 68) ∧ ((s.chan c).fetching = some a) ∧ ((s.chan c).npWait = false) ∧ ((s.chan c).resuming = false) ∧ (d = { addr := a, words := (List.range 8).map fun k => ofBytes (readBytes memDefault s.host (a + 4 * k) 4), pieces := [(Desc.hostAddr { words := (List.range 8).map fun k => ofBytes (readBytes memDefault s.host (a + 4 * k) 4) }, Desc.len { words := (List.range 8).map fun k => ofBytes (readBytes memDefault s.host (a + 4 * k) 4) })] }) ∧ (d.frag = false) ∧ (d.len ≠ 0) ∧ (s.descBad c d = false)) ∧
    (∃ (c a : Nat) (d : Desc) (s : State), (c < 68) ∧ ((s.chan c).fetching = some a) ∧ ((s.chan c).npWait = false) ∧ ((s.chan c).resuming = false) ∧ ((s.chan c).tag = none) ∧ (s.chanState c ≠ Fn.disabling) ∧ (d = { addr := a, words := (List.range 8).map fun k => ofBytes (readBytes memDefault s.host (a + 4 * k) 4) }) ∧ (d.frag = false) ∧ (s.descBad c d = true) ∧ (s.bit Fld.INS_LOG_CFG.RUNNING (s.chanOwner c) = false)) ∧
    (∃ (beats ce c n : Nat) (d : Desc) (s : State), (s.nextChan false = some c) ∧ ((s.chan c).cur = some d) ∧ (s.requestFree (s.insFn (s.chanOwner c)) = true) ∧ (n = d.burstLen beats (s.maxRead (s.insFn (s.chanOwner c)))) ∧ (s.devOff (d.devAddr + d.issued) 0 = [])) ∧
    (∃ (beats c n a : Nat) (d : Desc) (s : State), (s.nextChan true = some c) ∧ ((s.chan c).cur = some d) ∧ (n = d.burstLen beats 512) ∧ (pieceRange d.pieces d.issued n = [(a, n)]) ∧ (s.devOff (d.devAddr + d.issued) n = []) ∧ (s.bit Fld.INS_LOG_CFG.RUNNING (s.chanOwner c) = false)) ∧
    (∃ (c off n : Nat) (d : Desc) (s : State), (c < 68) ∧ ((s.chan c).cur = some d) ∧ ((s.chan c).bursts = [(off, n)]) ∧ ((s.chan c).orphans = 0) ∧ (d.moved + n = d.total) ∧ (d.short = false) ∧ (d.op = 0) ∧ (d.nextValid = false) ∧ ((s.chan c).tag = none) ∧ (s.chanState c = Fn.on) ∧ (0x10000000 ≤ d.devAddr) ∧ ((s.readPieces d.pieces off n).length = n) ∧ (s.bit Fld.INS_LOG_CFG.RUNNING (s.chanOwner c) = false)) ∧
    (∃ (c : Nat) (d : Desc) (s : State), (c < 68) ∧ ((s.chan c).cur = some d) ∧ (d.flush = true) ∧ ((s.chan c).npWait = false) ∧ (d.nextValid = true) ∧ ((s.chan c).stopping = false) ∧ (s.fld Fld.DMA_CH_COUNT.FETCHED c < s.fld Fld.DMA_CH_CHAIN_LIMIT.LIMIT c) ∧ (s.bit Fld.INS_LOG_CFG.RUNNING (s.chanOwner c) = false)) ∧
    (∃ (c tag : Nat) (k : Cmd) (s : State), (c < 68) ∧ (s.chanRuns c = true) ∧ ((s.chan c).cur = none) ∧ ((s.chan c).tag = some tag) ∧ (s.cmd tag = some k) ∧ (k.stage = .running) ∧ (s.takesCompletion k = true) ∧ (s.chanState c = Fn.on)) ∧
    (∃ (c how a : Nat) (s : State), (c < 68) ∧ ((s.chan c).fetching = some a) ∧ ((s.chan c).npWait = false) ∧ ((s.chan c).tag = none)) :=
  ⟨⟨67, 2 ^ 32 + 64, State.reset, by decide +kernel⟩,
   ⟨3, 4, 7, { st [(Fld.INS_STATUS.FUNC_STATE, 0, 2), (Fld.DMA_CH_STATUS.FUNC_STATE, 3, 2)] with dma := { channels := [(3, {  })] } }, by decide +kernel⟩,
   ⟨3, { st [(Fld.INS_STATUS.FUNC_STATE, 0, 2), (Fld.DMA_CH_STATUS.FUNC_STATE, 3, 0)] with dma := { channels := [(3, {  })] } }, by decide +kernel⟩,
   ⟨3, st [(Fld.INS_STATUS.FUNC_STATE, 0, 0)], by decide +kernel⟩,
   ⟨3, { st [(Fld.INS_STATUS.FUNC_STATE, 0, 2), (Fld.DMA_CH_STATUS.FUNC_STATE, 3, 1)] with dma := { channels := [(3, {  })] } }, by decide +kernel⟩,
   ⟨3, { st [(Fld.INS_STATUS.FUNC_STATE, 0, 2), (Fld.DMA_CH_STATUS.FUNC_STATE, 3, 2)] with dma := { channels := [(3, {  })] } }, by decide +kernel⟩,
   ⟨3, { st [(Fld.INS_STATUS.FUNC_STATE, 0, 2), (Fld.DMA_CH_STATUS.FUNC_STATE, 3, 2), (Fld.DMA_CH_HEAD_LO.HEAD_LO, 3, 5)] with dma := { channels := [(3, {  })] } }, by decide +kernel⟩,
   ⟨3, 96, { st [(Fld.INS_STATUS.FUNC_STATE, 0, 2), (Fld.DMA_CH_STATUS.FUNC_STATE, 3, 2)] with dma := { channels := [(3, { last := some 96 })] } }, by decide +kernel⟩,
   ⟨7, qst (cmdOf 0x83 [(4, 1, 3), (8, 8, 0x123)]) [(Fld.DMA_CH_STATUS.FUNC_STATE, 3, 2)], cmdOf 0x83 [(4, 1, 3), (8, 8, 0x123)], 3, by decide +kernel⟩,
   ⟨7, qst (cmdOf 0x83 [(4, 1, 3), (8, 8, 0x123)]) [(Fld.DMA_CH_STATUS.FUNC_STATE, 3, 2), (Fld.DMA_CH_STATUS.RUNNING, 3, 1)], cmdOf 0x83 [(4, 1, 3), (8, 8, 0x123)], 3, by decide +kernel⟩,
   ⟨3, 64, { addr := 64, words := [16, 0x10000000, 0x8000, 0, 0, 0, 0, 0], pieces := [(0x8000, 16)] }, { st [(Fld.INS_STATUS.FUNC_STATE, 0, 2), (Fld.DMA_CH_STATUS.FUNC_STATE, 3, 2), (Fld.DMA_CH_STATUS.RUNNING, 3, 1), (Fld.DMA_CH_WIN_LIMIT.LIMIT, 3, 0x20000000)] with dma := { channels := [(3, { fetching := some 64 })] }, host := [(64, 16), (71, 0x10), (73, 0x80)] }, by decide +kernel⟩,
   ⟨3, 64, { addr := 64, words := [16, 0x10000000, 0x8000, 0, 0, 0, 0, 0x700] }, { st [(Fld.INS_STATUS.FUNC_STATE, 0, 2), (Fld.DMA_CH_STATUS.FUNC_STATE, 3, 2), (Fld.DMA_CH_STATUS.RUNNING, 3, 1), (Fld.DMA_CH_WIN_LIMIT.LIMIT, 3, 0)] with dma := { channels := [(3, { fetching := some 64 })] }, host := [(64, 16), (71, 0x10), (73, 0x80), (93, 7)] }, by decide +kernel⟩,
   ⟨8, 0, 3, 512, { addr := 64, words := [1024, 0x10000000, 0x8000], pieces := [(0x8000, 1024)] }, { st [(Fld.INS_STATUS.FUNC_STATE, 0, 2), (Fld.DMA_CH_STATUS.FUNC_STATE, 3, 2), (Fld.DMA_CH_STATUS.RUNNING, 3, 1)] with dma := { channels := [(3, { cur := some { addr := 64, words := [1024, 0x10000000, 0x8000], pieces := [(0x8000, 1024)] } })] } }, by decide +kernel⟩,
   ⟨8, 3, 3, 0x8000, { addr := 64, words := [0x1000003, 0x10000000, 0x8000], pieces := [(0x8000, 3)] }, { st [(Fld.INS_STATUS.FUNC_STATE, 0, 2), (Fld.DMA_CH_STATUS.FUNC_STATE, 3, 2), (Fld.DMA_CH_STATUS.RUNNING, 3, 1)] with dma := { channels := [(3, { cur := some { addr := 64, words := [0x1000003, 0x10000000, 0x8000], pieces := [(0x8000, 3)] } })] }, tcm := [(32 * 2 ^ 32, 7), (32 * 2 ^ 32 + 2, 8)] }, by decide +kernel⟩,
   ⟨3, 0, 3, { addr := 64, words := [3, 0x10000000, 0x8000], pieces := [(0x8000, 3)], issued := 3 }, { st [(Fld.INS_STATUS.FUNC_STATE, 0, 2), (Fld.DMA_CH_STATUS.FUNC_STATE, 3, 2), (Fld.DMA_CH_STATUS.RUNNING, 3, 1)] with dma := { channels := [(3, { cur := some { addr := 64, words := [3, 0x10000000, 0x8000], pieces := [(0x8000, 3)], issued := 3 }, bursts := [(0, 3)] })] }, host := [(0x8000, 7), (0x8002, 9)] }, by decide +kernel⟩,
   ⟨3, { addr := 64, words := [0x11000003, 0x10000000, 0x8000, 0, 96], flush := true }, { st [(Fld.INS_STATUS.FUNC_STATE, 0, 2), (Fld.DMA_CH_STATUS.FUNC_STATE, 3, 2), (Fld.DMA_CH_STATUS.RUNNING, 3, 1), (Fld.DMA_CH_CHAIN_LIMIT.LIMIT, 3, 2), (Fld.DMA_CH_COUNT.FETCHED, 3, 1)] with dma := { channels := [(3, { cur := some { addr := 64, words := [0x11000003, 0x10000000, 0x8000, 0, 96], flush := true } })] } }, by decide +kernel⟩,
   ⟨3, 7, { cmdOf 0x83 [(4, 1, 3)] with stage := .running }, { qst { cmdOf 0x83 [(4, 1, 3)] with stage := .running } [(Fld.DMA_CH_STATUS.FUNC_STATE, 3, 2), (Fld.DMA_CH_STATUS.RUNNING, 3, 1), (Fld.DMA_CH_COUNT.FETCHED, 3, 5)] with dma := { channels := [(3, { fetching := some 64, tag := some 7, done := 5 })] } }, by decide +kernel⟩,
   ⟨3, 1, 64, { st [(Fld.INS_STATUS.FUNC_STATE, 0, 2), (Fld.DMA_CH_STATUS.FUNC_STATE, 3, 2), (Fld.DMA_CH_STATUS.RUNNING, 3, 1)] with dma := { channels := [(3, { fetching := some 64 })] } }, by decide +kernel⟩⟩

/-- The premises of InstanceCommandsBindShareAndSwitch can be met. -/
theorem test_premises_instance_commands_bind_share_and_switch :
    (∃ (tag : Nat) (s : State) (c : Cmd), (s.startable tag 0x20 = some c) ∧ ((c.at 4 2) ≠ 0) ∧ ((c.at 4 2) < 4096) ∧ (c.ins ≠ (c.at 4 2)) ∧ (s.insState (c.at 4 2) = Fn.off) ∧ (c.at 8 2 ≤ (if c.at 6 1 = 0 then 4095 else 63)) ∧ (c.at 10 2 ≤ 2047) ∧ (c.at 12 2 ≤ 2048) ∧ (s.takesCompletion c = true)) ∧
    (∃ (tag : Nat) (s : State) (c : Cmd), (s.startable tag 0x20 = some c) ∧ ((c.at 4 2) ≠ 0) ∧ ((c.at 4 2) < 4096) ∧ (s.insState (c.at 4 2) ≠ Fn.off ∨ (if c.at 6 1 = 0 then 4095 else 63) < c.at 8 2 ∨ 2047 < c.at 10 2 ∨ 2048 < c.at 12 2) ∧ (s.takesCompletion c = true)) ∧
    (∃ (tag : Nat) (s : State) (c : Cmd), (s.startable tag 0x21 = some c) ∧ ((c.at 4 2) < 4096) ∧ (c.ins ≠ (c.at 4 2) ∨ bitAt (c.at 6 1) 5 = false) ∧ (∀ e ∈ (shareList c).zipIdx, bitAt (c.at 6 1) e.2 = true → e.1.2.2.1 ≤ e.1.2.1 ∧ e.1.2.1 ≤ e.1.2.2.2) ∧ (s.takesCompletion c = true)) ∧
    (∃ (tag : Nat) (s : State) (c : Cmd), (s.startable tag 0x21 = some c) ∧ ((c.at 4 2) < 4096) ∧ (∃ e ∈ (shareList c).zipIdx, bitAt (c.at 6 1) e.2 = true ∧ (e.1.2.1 < e.1.2.2.1 ∨ e.1.2.2.2 < e.1.2.1)) ∧ (s.takesCompletion c = true)) ∧
    (∃ (tag : Nat) (s : State) (c : Cmd), (s.startable tag 0x22 = some c) ∧ (c.at 6 1 = 0) ∧ ((c.at 4 2) ≠ 0) ∧ ((c.at 4 2) < 4096) ∧ (s.insState (c.at 4 2) = Fn.off) ∧ (s.bindingOk (c.at 4 2) = true)) ∧
    (∃ (tag : Nat) (s : State) (c : Cmd), (s.startable tag 0x22 = some c) ∧ (c.at 6 1 = 0) ∧ ((c.at 4 2) ≠ 0) ∧ ((c.at 4 2) < 4096) ∧ (c.ins ≠ (c.at 4 2)) ∧ (s.insState (c.at 4 2) = Fn.on) ∧ (s.takesCompletion c = true)) ∧
    (∃ (tag : Nat) (s : State) (c : Cmd), (s.startable tag 0x22 = some c) ∧ (c.at 6 1 = 1) ∧ ((c.at 4 2) ≠ 0) ∧ ((c.at 4 2) < 4096) ∧ (c.ins ≠ (c.at 4 2)) ∧ (s.insState (c.at 4 2) = Fn.on) ∧ (s.sqsOf (c.at 4 2) = []) ∧ (s.takesCompletion c = true)) ∧
    (∃ (tag : Nat) (s : State) (c : Cmd), (s.startable tag 0x22 = some c) ∧ (c.at 6 1 = 2) ∧ ((c.at 4 2) ≠ 0) ∧ ((c.at 4 2) < 4096) ∧ (c.ins ≠ (c.at 4 2)) ∧ (s.takesCompletion c = true)) ∧
    (∃ (tag : Nat) (s : State) (c : Cmd), (s.startable tag 0x22 = some c) ∧ (c.at 6 1 = 3) ∧ ((c.at 4 2) ≠ 0) ∧ ((c.at 4 2) < 4096) ∧ (c.ins ≠ (c.at 4 2)) ∧ (s.takesCompletion c = true)) ∧
    (∃ (tag : Nat) (s : State) (c : Cmd), (s.startable tag 0x22 = some c) ∧ (c.at 6 1 = 4) ∧ ((c.at 4 2) ≠ 0) ∧ ((c.at 4 2) < 4096) ∧ (c.ins ≠ (c.at 4 2)) ∧ (s.insState (c.at 4 2) = Fn.on) ∧ (s.takesCompletion c = true)) ∧
    (∃ (tag : Nat) (s : State) (c : Cmd), (s.startable tag 0x22 = some c) ∧ (c.at 6 1 = 4) ∧ ((c.at 4 2) ≠ 0) ∧ ((c.at 4 2) < 4096) ∧ (s.insState (c.at 4 2) ≠ Fn.on) ∧ (s.takesCompletion c = true)) ∧
    (∃ (tag : Nat) (s : State) (c : Cmd), (s.startable tag 0x23 = some c) ∧ ((c.at 4 2) ≠ 0) ∧ ((c.at 4 2) < 4096) ∧ (s.sqsOf (c.at 4 2) = []) ∧ (s.chansOf (c.at 4 2) = []) ∧ (s.bit Fld.INS_STATUS.HOLDING (c.at 4 2) = false)) ∧
    (∃ (tag : Nat) (s : State) (c : Cmd), (s.startable tag 0x23 = some c) ∧ ((c.at 4 2) ≠ 0) ∧ ((c.at 4 2) < 4096) ∧ (c.ins ≠ (c.at 4 2)) ∧ (s.sqsOf (c.at 4 2) = []) ∧ (s.chansOf (c.at 4 2) = []) ∧ (s.quiesced (c.at 4 2) = true) ∧ (s.insState (c.at 4 2) = Fn.on) ∧ (s.takesCompletion c = true) ∧ (s.q.cmds.any (fun e => e.2.stage == .running) = false)) ∧
    (∃ (tag : Nat) (c : Cmd) (s : State), (s.cmd tag = some c) ∧ (c.opcode = 0x23) ∧ (c.stage = .running) ∧ (c.at 8 4 ≠ 0) ∧ (s.reaches (c.progress + c.at 8 4 * 1000000) = true) ∧ (s.takesCompletion c = true)) ∧
    (∃ (tag : Nat) (s : State) (c : Cmd), (s.startable tag 0x25 = some c) ∧ (c.at 6 1 = 0) ∧ ((c.at 4 2) ≠ 0) ∧ ((c.at 4 2) < 4096) ∧ (c.ins ≠ (c.at 4 2)) ∧ (s.bit Fld.INS_LOG_CFG.RUNNING (c.at 4 2) = false) ∧ (c.at 8 8 % 4096 = 0) ∧ (10 ≤ c.at 7 1) ∧ (c.at 7 1 ≤ 20) ∧ (s.q.cmds.any (fun e => e.2.stage == .running) = false) ∧ (s.takesCompletion c = true)) ∧
    (∃ (tag : Nat) (s : State) (c : Cmd), (s.startable tag 0x25 = some c) ∧ (c.at 6 1 = 0) ∧ ((c.at 4 2) ≠ 0) ∧ ((c.at 4 2) < 4096) ∧ (s.bit Fld.INS_LOG_CFG.RUNNING (c.at 4 2) = true ∨ c.at 8 8 % 4096 ≠ 0 ∨ c.at 7 1 < 10 ∨ 20 < c.at 7 1) ∧ (s.takesCompletion c = true)) ∧
    (∃ (tag : Nat) (s : State) (c : Cmd), (s.startable tag 0x25 = some c) ∧ (c.at 6 1 = 1) ∧ ((c.at 4 2) ≠ 0) ∧ ((c.at 4 2) < 4096) ∧ (c.ins ≠ (c.at 4 2)) ∧ (s.takesCompletion c = true)) ∧
    (∃ (tag : Nat) (s : State) (c : Cmd), (s.startable tag 0x25 = some c) ∧ (c.at 6 1 = 2) ∧ ((c.at 4 2) ≠ 0) ∧ ((c.at 4 2) < 4096) ∧ (c.ins ≠ (c.at 4 2)) ∧ (s.takesCompletion c = true)) ∧
    (∃ (tag : Nat) (s : State) (c : Cmd), (s.startable tag 0x26 = some c) ∧ ((c.at 4 2) < 4096) ∧ (s.canIssue (s.insFn c.ins) = true) ∧ (s.takesCompletion c = true)) :=
  ⟨⟨7, qst (cmdOf 0x20 [(4, 2, 5), (6, 1, 255), (8, 2, 63), (10, 2, 2047), (12, 2, 2048), (16, 4, 0x80054321)]) [], cmdOf 0x20 [(4, 2, 5), (6, 1, 255), (8, 2, 63), (10, 2, 2047), (12, 2, 2048), (16, 4, 0x80054321)], by decide +kernel⟩,
   ⟨7, qst (cmdOf 0x20 [(4, 2, 5), (6, 1, 1), (8, 2, 64)]) [], cmdOf 0x20 [(4, 2, 5), (6, 1, 1), (8, 2, 64)], by decide +kernel⟩,
   ⟨7, qst (cmdOf 0x21 [(4, 2, 5), (6, 1, 0x2F), (8, 4, 65536), (12, 2, 16384), (14, 1, 64), (15, 1, 0), (16, 2, 5), (18, 2, 32)]) [], cmdOf 0x21 [(4, 2, 5), (6, 1, 0x2F), (8, 4, 65536), (12, 2, 16384), (14, 1, 64), (15, 1, 0), (16, 2, 5), (18, 2, 32)], by decide +kernel⟩,
   ⟨7, qst (cmdOf 0x21 [(4, 2, 5), (6, 1, 0x30), (15, 1, 0), (18, 2, 31)]) [], cmdOf 0x21 [(4, 2, 5), (6, 1, 0x30), (15, 1, 0), (18, 2, 31)], by decide +kernel⟩,
   ⟨7, qst (cmdOf 0x22 [(4, 2, 5)]) [(Fld.INS_BIND.SLOT, 5, 9)], cmdOf 0x22 [(4, 2, 5)], by decide +kernel⟩,
   ⟨7, qst (cmdOf 0x22 [(4, 2, 5)]) [(Fld.INS_STATUS.FUNC_STATE, 5, 2)], cmdOf 0x22 [(4, 2, 5)], by decide +kernel⟩,
   ⟨7, qst (cmdOf 0x22 [(4, 2, 5), (6, 1, 1)]) [(Fld.INS_STATUS.FUNC_STATE, 5, 2)], cmdOf 0x22 [(4, 2, 5), (6, 1, 1)], by decide +kernel⟩,
   ⟨7, qst (cmdOf 0x22 [(4, 2, 5), (6, 1, 2)]) [(Fld.INS_STATUS.FUNC_STATE, 5, 2)], cmdOf 0x22 [(4, 2, 5), (6, 1, 2)], by decide +kernel⟩,
   ⟨7, qst (cmdOf 0x22 [(4, 2, 5), (6, 1, 3)]) [(Fld.INS_STATUS.FUNC_STATE, 5, 2), (Fld.INS_CTRL.HOLD, 5, 1)], cmdOf 0x22 [(4, 2, 5), (6, 1, 3)], by decide +kernel⟩,
   ⟨7, qst (cmdOf 0x22 [(4, 2, 5), (6, 1, 4)]) [(Fld.INS_STATUS.FUNC_STATE, 5, 2)], cmdOf 0x22 [(4, 2, 5), (6, 1, 4)], by decide +kernel⟩,
   ⟨7, qst (cmdOf 0x22 [(4, 2, 5), (6, 1, 4)]) [(Fld.INS_STATUS.FUNC_STATE, 5, 4)], cmdOf 0x22 [(4, 2, 5), (6, 1, 4)], by decide +kernel⟩,
   ⟨7, qst (cmdOf 0x23 [(4, 2, 5)]) [(Fld.INS_STATUS.FUNC_STATE, 5, 2)], cmdOf 0x23 [(4, 2, 5)], by decide +kernel⟩,
   ⟨7, qst (cmdOf 0x23 [(4, 2, 5)]) [(Fld.INS_STATUS.FUNC_STATE, 5, 2), (Fld.INS_STATUS.HOLDING, 5, 1)], cmdOf 0x23 [(4, 2, 5)], by decide +kernel⟩,
   ⟨7, { cmdOf 0x23 [(4, 2, 5), (8, 4, 1)] with stage := .running }, qst { cmdOf 0x23 [(4, 2, 5), (8, 4, 1)] with stage := .running } [], by decide +kernel⟩,
   ⟨7, qst (cmdOf 0x25 [(4, 2, 5), (7, 1, 20), (8, 8, 0x123456000)]) [(Fld.INS_STATUS.FUNC_STATE, 5, 2)], cmdOf 0x25 [(4, 2, 5), (7, 1, 20), (8, 8, 0x123456000)], by decide +kernel⟩,
   ⟨7, qst (cmdOf 0x25 [(4, 2, 5), (7, 1, 9)]) [(Fld.INS_STATUS.FUNC_STATE, 5, 2)], cmdOf 0x25 [(4, 2, 5), (7, 1, 9)], by decide +kernel⟩,
   ⟨7, qst (cmdOf 0x25 [(4, 2, 5), (6, 1, 1)]) [(Fld.INS_STATUS.FUNC_STATE, 5, 2), (Fld.INS_LOG_CFG.UNLOGGED, 5, 6)], cmdOf 0x25 [(4, 2, 5), (6, 1, 1)], by decide +kernel⟩,
   ⟨7, qst (cmdOf 0x25 [(4, 2, 5), (6, 1, 2)]) [(Fld.INS_STATUS.FUNC_STATE, 5, 2), (Fld.INS_LOG_CFG.RUNNING, 5, 1)], cmdOf 0x25 [(4, 2, 5), (6, 1, 2)], by decide +kernel⟩,
   ⟨7, qst (cmdOf 0x26 [(4, 2, 5), (8, 8, 0x8000)]) [(Fld.INS_STATUS.FUNC_STATE, 5, 2)], cmdOf 0x26 [(4, 2, 5), (8, 8, 0x8000)], by decide +kernel⟩⟩

/-- The premises of InstancesAreResetWipedAndReached can be met. -/
theorem test_premises_instances_are_reset_wiped_and_reached :
    (∃ (tag : Nat) (s : State) (c : Cmd), (s.startable tag 0x24 = some c) ∧ ((c.at 4 2) ≠ 0) ∧ ((c.at 4 2) < 4096) ∧ (c.flag 3 = false) ∧ (s.insState (c.at 4 2) = Fn.off) ∧ (s.takesCompletion c = true)) ∧
    (∃ (tag : Nat) (s : State) (c : Cmd), (s.startable tag 0x24 = some c) ∧ ((c.at 4 2) ≠ 0) ∧ ((c.at 4 2) < 4096) ∧ (c.flag 3 = false) ∧ (c.ins ≠ (c.at 4 2)) ∧ (s.insState (c.at 4 2) ≠ Fn.off) ∧ (s.quiesced (c.at 4 2) = false) ∧ (s.takesCompletion c = true)) ∧
    (∃ (tag : Nat) (s : State) (c : Cmd), (s.startable tag 0x24 = some c) ∧ ((c.at 4 2) ≠ 0) ∧ ((c.at 4 2) < 4096) ∧ (c.flag 3 = false) ∧ (c.ins ≠ (c.at 4 2)) ∧ (s.insState (c.at 4 2) ≠ Fn.off) ∧ (s.quiesced (c.at 4 2) = true) ∧ (s.bit Fld.INS_STATUS.PENDING_ENABLE (c.at 4 2) = false) ∧ (s.q.cmds.any (fun e => e.2.stage == .running) = false) ∧ (s.takesCompletion c = true)) ∧
    (∃ (tag : Nat) (s : State) (c : Cmd), (s.startable tag 0x24 = some c) ∧ (c.flag 3 = true) ∧ (c.flag 0 = false) ∧ (s.takesCompletion c = true)) ∧
    (∃ (tag : Nat) (s : State) (c : Cmd), (s.startable tag 0x24 = some c) ∧ ((c.at 4 2) ≠ 0) ∧ ((c.at 4 2) < 4096) ∧ (c.ins ≠ (c.at 4 2)) ∧ (c.flag 3 = true) ∧ (c.flag 0 = true) ∧ (s.insState (c.at 4 2) ≠ Fn.off) ∧ (s.bit Fld.CHT_STATUS.RUNNING = true) ∧ (s.q.cmds.any (fun e => e.1 == tag && e.2.ins == (c.at 4 2)) = false)) ∧
    (∃ (i : Nat) (s : State), (i = s.fld Fld.INS_INDEX.INSTANCE) ∧ (s.insState i = Fn.off) ∧ (s.bindingOk i = true)) ∧
    (∃ (i : Nat) (s : State), (i = s.fld Fld.INS_INDEX.INSTANCE) ∧ (s.insState i = Fn.off) ∧ (s.bindingOk i = false)) ∧
    (∃ (i : Nat) (s : State), (s.insState i = Fn.enabling) ∧ (s.enableTags i = [])) ∧
    (∃ (i : Nat) (s : State), (i = s.fld Fld.INS_INDEX.INSTANCE) ∧ (i ≠ 0) ∧ (s.insState i = Fn.on) ∧ (s.sqsOf i = [])) ∧
    (∃ (s : State), (s.fld Fld.INS_INDEX.INSTANCE = 0)) ∧
    (∃ (i : Nat) (s : State), (i = s.fld Fld.INS_INDEX.INSTANCE) ∧ (i ≠ 0) ∧ (s.insState i = Fn.on)) ∧
    (∃ (s : State), (s.fld Fld.INS_INDEX.INSTANCE = 0)) ∧
    (∃ (i v : Nat) (s : State), (i = s.fld Fld.INS_INDEX.INSTANCE) ∧ (i ≠ 0) ∧ (s.insState i = Fn.off)) ∧
    (∃ (reg v : Nat) (s : State), (reg < 3) ∧ (s.insState (s.fld Fld.INS_INDEX.INSTANCE) ≠ Fn.off ∨ s.fld Fld.INS_INDEX.INSTANCE = 0)) ∧
    (∃ (i : Nat) (s : State), (i < 4096) ∧ (s.quiesced i = true) ∧ (s.insState i = Fn.disabling) ∧ (s.bit Fld.INS_STATUS.PENDING_ENABLE i = false) ∧ (s.q.cmds.any (fun e => e.2.stage == .running) = false)) ∧
    (∃ (i : Nat) (s : State), (i < 4096) ∧ (s.quiesced i = false)) ∧
    (∃ (fn i : Nat) (s : State), (fn < 256) ∧ (i ≠ 0) ∧ (i ∈ s.ins.live) ∧ (s.insFn i = fn) ∧ (s.insState i = Fn.on)) ∧
    (∃ (fn i : Nat) (s : State), (1 ≤ fn) ∧ (fn < 256) ∧ (s.ins.live.filter (fun j => s.insFn j == fn && j != 0) = [i]) ∧ (s.bit Fld.CHT_STATUS.RUNNING = true)) ∧
    (∃ (fn : Nat) (s : State), (1 ≤ fn) ∧ (fn < 256) ∧ (s.ins.live.filter (fun j => s.insFn j == fn && j != 0) = [])) ∧
    (∃ (tag : Nat) (s : State) (c : Cmd), (s.startable tag 0x07 = some c) ∧ (c.at 4 1 = 0) ∧ (s.abortTarget tag c = none) ∧ (s.q.cmds.all (fun e => e.1 == tag) = true) ∧ (s.takesCompletion c = true)) ∧
    (∃ (tag : Nat) (s : State) (c : Cmd) (u : Nat) (x : Cmd), (s.startable tag 0x07 = some c) ∧ (c.at 4 1 = 0) ∧ (s.abortTarget tag c = some (u, x)) ∧ (s.cmd u = some x) ∧ (x.stage = .ready) ∧ (x.opcode = 0x83) ∧ (s.cqOf c.ins (s.fld Fld.QM_SQ_CFG.CQ c.sq) = none) ∧ (s.cqOf x.ins (s.fld Fld.QM_SQ_CFG.CQ x.sq) = none)) :=
  ⟨⟨7, qst (cmdOf 0x24 [(4, 2, 5)]) [], cmdOf 0x24 [(4, 2, 5)], by decide +kernel⟩,
   ⟨7, qst (cmdOf 0x24 [(4, 2, 5)]) [(Fld.INS_STATUS.FUNC_STATE, 5, 2)], cmdOf 0x24 [(4, 2, 5)], by decide +kernel⟩,
   ⟨7, qst (cmdOf 0x24 [(4, 2, 5)]) [(Fld.INS_STATUS.FUNC_STATE, 5, 2), (Fld.INS_STATUS.HOLDING, 5, 1)], cmdOf 0x24 [(4, 2, 5)], by decide +kernel⟩,
   ⟨7, qst (cmdOf 0x24 [(4, 2, 5), (1, 1, 8)]) [], cmdOf 0x24 [(4, 2, 5), (1, 1, 8)], by decide +kernel⟩,
   ⟨7, qst (cmdOf 0x24 [(4, 2, 5), (1, 1, 9)]) [(Fld.INS_STATUS.FUNC_STATE, 5, 2), (Fld.CHT_STATUS.RUNNING, 0, 1)], cmdOf 0x24 [(4, 2, 5), (1, 1, 9)], by decide +kernel⟩,
   ⟨5, st [(Fld.INS_INDEX.INSTANCE, 0, 5), (Fld.INS_BIND.SLOT, 5, 9)], by decide +kernel⟩,
   ⟨5, st [(Fld.INS_INDEX.INSTANCE, 0, 5)], by decide +kernel⟩,
   ⟨5, st [(Fld.INS_INDEX.INSTANCE, 0, 5), (Fld.INS_STATUS.FUNC_STATE, 5, 1)], by decide +kernel⟩,
   ⟨5, st [(Fld.INS_INDEX.INSTANCE, 0, 5), (Fld.INS_STATUS.FUNC_STATE, 5, 2)], by decide +kernel⟩,
   ⟨State.reset, by decide +kernel⟩,
   ⟨5, st [(Fld.INS_INDEX.INSTANCE, 0, 5), (Fld.INS_STATUS.FUNC_STATE, 5, 2)], by decide +kernel⟩,
   ⟨State.reset, by decide +kernel⟩,
   ⟨5, 0x0FF00FFF, st [(Fld.INS_INDEX.INSTANCE, 0, 5)], by decide +kernel⟩,
   ⟨2, 7, st [(Fld.INS_INDEX.INSTANCE, 0, 5), (Fld.INS_STATUS.FUNC_STATE, 5, 2)], by decide +kernel⟩,
   ⟨5, st [(Fld.INS_INDEX.INSTANCE, 0, 5), (Fld.INS_STATUS.FUNC_STATE, 5, 3), (Fld.INS_STATUS.HOLDING, 5, 1)], by decide +kernel⟩,
   ⟨5, st [(Fld.INS_INDEX.INSTANCE, 0, 5), (Fld.INS_STATUS.FUNC_STATE, 5, 3)], by decide +kernel⟩,
   ⟨7, 5, { st [(Fld.INS_INDEX.INSTANCE, 0, 5), (Fld.INS_STATUS.FUNC_STATE, 5, 2), (Fld.INS_BIND.FUNCTION, 5, 7)] with ins := { live := [0, 5] } }, by decide +kernel⟩,
   ⟨7, 5, { st [(Fld.INS_INDEX.INSTANCE, 0, 5), (Fld.INS_STATUS.FUNC_STATE, 5, 2), (Fld.INS_BIND.FUNCTION, 5, 7), (Fld.CHT_STATUS.RUNNING, 0, 1)] with ins := { live := [0, 5] } }, by decide +kernel⟩,
   ⟨255, State.reset, by decide +kernel⟩,
   ⟨7, qst (cmdOf 7 [(5, 1, 3)]) [], cmdOf 7 [(5, 1, 3)], by decide +kernel⟩,
   ⟨7, (let s := qst (cmdOf 7 [(6, 2, 0x55)]) [(Fld.QM_SQ_CFG.CQ, 0, 9)]; { s with q := { s.q with cmds := s.q.cmds ++ [(9, cmdOf 0x83 [(2, 2, 0x55)])] } }), cmdOf 7 [(6, 2, 0x55)], 9, cmdOf 0x83 [(2, 2, 0x55)], by decide +kernel⟩⟩

/-- The premises of PowerStatesAreEnteredAndLeft can be met. -/
theorem test_premises_power_states_are_entered_and_left :
    (∃ (tag : Nat) (s : State) (c : Cmd), (s.startable tag 0x40 = some c) ∧ (c.at 4 1 = 1) ∧ (s.pwr.phase = .run)) ∧
    (∃ (tag : Nat) (s : State) (c : Cmd), (s.startable tag 0x40 = some c) ∧ (c.at 4 1 = 2) ∧ (s.pwr.phase = .run)) ∧
    (∃ (tag : Nat) (s : State) (c : Cmd), (s.startable tag 0x40 = some c) ∧ (c.at 4 1 = 3) ∧ (s.pwr.phase = .run) ∧ (s.notQuiesced = false)) ∧
    (∃ (tag : Nat) (s : State) (c : Cmd), (s.startable tag 0x40 = some c) ∧ (c.at 4 1 = 3) ∧ (s.pwr.phase = .run) ∧ (s.notQuiesced = true) ∧ (s.takesCompletion c = true)) ∧
    (∃ (s : State), (s.pwr.phase = .run) ∧ (s.pstate = 1) ∧ (s.bit Fld.PWR_STATE.ENTRY_BUSY = false) ∧ (s.pwr.next ≠ some 0) ∧ (s.bit Fld.CHT_STATUS.RUNNING = false) ∧ (s.chr.runDue = false)) ∧
    (∃ (s : State), (s.pwr.phase = .run)) ∧
    (∃ (s : State), (s.pwr.phase = .run)) ∧
    (∃ (s : State), (s.pwr.phase = .run) ∧ (s.notQuiesced = false)) ∧
    (∃ (s : State), (s.pwr.phase = .run) ∧ (s.notQuiesced = true)) ∧
    (∃ (s : State), (s.pstate = 1) ∧ (s.bit Fld.PWR_STATE.ENTRY_BUSY = false) ∧ (s.pwr.next ≠ some 0) ∧ (s.bit Fld.CHT_STATUS.RUNNING = false) ∧ (s.chr.runDue = false)) ∧
    (∃ (s : State), (s.pstate = 1) ∧ (s.bit Fld.PWR_STATE.ENTRY_BUSY = false) ∧ (s.pwr.next ≠ some 0) ∧ (s.bit Fld.CHT_STATUS.RUNNING = true)) ∧
    (∃ (s : State), (s.pwr.phase = .idle) ∧ (s.pstate = 0) ∧ (s.q.fetching = []) ∧ (s.bit Fld.PWR_OP_STATUS.PENDING = false) ∧ (∀ e ∈ s.q.cmds, some e.1 = s.pwr.tag) ∧ (s.bit Fld.CHT_STATUS.RUNNING = false)) ∧
    (∃ (s : State), (s.pwr.phase = .idle) ∧ (s.pwr.tag = none) ∧ (s.reaches (s.pwr.since + max 1 (s.fld Fld.PWR_ENTRY_TIME.IDLE_MS) * 1000000) = true)) ∧
    (∃ (s : State), (s.pwr.phase = .revert) ∧ (∀ p < 16, s.cstate p ≠ Cs.transition) ∧ (s.fld Fld.PWR_STATE.TARGET = 2) ∧ (s.pwr.tag = none) ∧ (s.pwr.latched = none) ∧ ((s.alm.busy.any fun w => w.kind == 4) = false)) ∧
    (∃ (s : State), (s.pwr.phase = .revert) ∧ (∀ p < 16, s.cstate p ≠ Cs.transition) ∧ (s.fld Fld.PWR_STATE.TARGET = 3) ∧ (s.pwr.tag = none)) ∧
    (∃ (s : State), (s.pwr.phase = .pme) ∧ (s.fld Fld.PWR_STATE.TARGET = 3) ∧ (s.pwr.latched = none) ∧ ((s.alm.busy.any fun w => w.kind == 4) = false)) ∧
    (∃ (s : State), (s.pwr.phase = .pme) ∧ (s.fld Fld.PWR_STATE.TARGET = 3) ∧ (s.pwr.latched = none) ∧ ((s.alm.busy.any fun w => w.kind == 4) = false) ∧ (s.reaches (s.pwr.since + max 1 (s.fld Fld.PWR_ENTRY_TIME.LINK_WAIT_MS) * 1000000) = true)) ∧
    (∃ (g : Nat) (s : State), (s.pwr.phase = .asleep) ∧ (s.wakeArmed 5 g = true)) ∧
    (∃ (k : Nat) (z : Bool) (s : State), (s.pwr.phase = .wake k) ∧ (1 ≤ k) ∧ (k < 6) ∧ (s.pwr.left ≠ 2) ∧ (s.pwr.vok = true ∨ k ≠ 2)) ∧
    (∃ (z : Bool) (s : State), (s.pwr.phase = .wake 6) ∧ (s.reaches (s.pwr.since + 200000) = true)) ∧
    (∃ (k : Nat) (s : State), (s.pwr.phase = .wake k) ∧ (1 ≤ k) ∧ (k < 6) ∧ (s.pwr.retried = false) ∧ (s.reaches (s.pwr.since + if k = 3 then 5000000 else 2000000) = true)) ∧
    (∃ (k : Nat) (s : State), (s.pwr.phase = .wake k) ∧ (1 ≤ k) ∧ (k < 6) ∧ (s.pwr.retried = true) ∧ (s.reaches (s.pwr.since + if k = 3 then 5000000 else 2000000) = true)) ∧
    (∃ (k : Nat) (s : State), (s.pwr.phase = .retry k) ∧ (s.reaches (s.pwr.since + 1000000) = true)) ∧
    (∃ (n : Nat) (s : State), (n < 19) ∧ (s.lstate n = Ls.lowPower) ∧ (s.bit Fld.LNK_CTRL.FOGHORN_WAKE n = true) ∧ (s.domGood (laneDomain n) = true) ∧ (s.pwr.phase = .run) ∧ (s.bit Fld.PWR_STATE.ENTRY_BUSY = false)) :=
  ⟨⟨7, { qst (cmdOf 0x40 [(4, 1, 1)]) [] with pwr := { phase := .run, left := 0, powerUp := false } }, cmdOf 0x40 [(4, 1, 1)], by decide +kernel⟩,
   ⟨7, { qst (cmdOf 0x40 [(4, 1, 2)]) [] with pwr := { phase := .run, left := 0, powerUp := false } }, cmdOf 0x40 [(4, 1, 2)], by decide +kernel⟩,
   ⟨7, { qst (cmdOf 0x40 [(4, 1, 3)]) [] with pwr := { phase := .run, left := 0, powerUp := false } }, cmdOf 0x40 [(4, 1, 3)], by decide +kernel⟩,
   ⟨7, { { qst (cmdOf 0x40 [(4, 1, 3)]) [] with pwr := { phase := .run, left := 0, powerUp := false } } with ins := { live := [0, 5] } }, cmdOf 0x40 [(4, 1, 3)], by decide +kernel⟩,
   ⟨{ st [(Fld.PWR_STATE.CUR, 0, 1)] with pwr := { phase := .run, left := 0, powerUp := false } }, by decide +kernel⟩,
   ⟨{ st [] with pwr := { phase := .run, left := 0, powerUp := false } }, by decide +kernel⟩,
   ⟨{ st [] with pwr := { phase := .run, left := 0, powerUp := false } }, by decide +kernel⟩,
   ⟨{ st [] with pwr := { phase := .run, left := 0, powerUp := false } }, by decide +kernel⟩,
   ⟨{ st [] with pwr := { phase := .run, left := 0, powerUp := false }, ins := { live := [0, 5] } }, by decide +kernel⟩,
   ⟨{ st [(Fld.PWR_STATE.CUR, 0, 1)] with pwr := { phase := .run, left := 0, powerUp := false } }, by decide +kernel⟩,
   ⟨{ st [(Fld.PWR_STATE.CUR, 0, 1), (Fld.CHT_STATUS.RUNNING, 0, 1)] with pwr := { phase := .run, left := 0, powerUp := false } }, by decide +kernel⟩,
   ⟨{ st [(Fld.PWR_STATE.TARGET, 0, 2), (Fld.LNK_STATUS.STATE, 3, 7), (Fld.LNK_STATUS.FUNC_STATE, 3, 2), (Fld.LNK_STATUS.STATE, 4, 1), (Fld.LNK_STATUS.FUNC_STATE, 4, 1)] with pwr := { phase := .idle, left := 0, powerUp := false } }, by decide +kernel⟩,
   ⟨{ st [(Fld.PWR_STATE.TARGET, 0, 2), (Fld.PWR_STATE.ENTRY_BUSY, 0, 1)] with pwr := { phase := .idle, left := 0, powerUp := false } }, by decide +kernel⟩,
   ⟨{ st [(Fld.PWR_STATE.TARGET, 0, 2)] with pwr := { phase := .revert, left := 0, powerUp := false } }, by decide +kernel⟩,
   ⟨{ st [(Fld.PWR_STATE.TARGET, 0, 3), (Fld.CHT_STATUS.ACTIVE_BANK, 0, 1)] with pwr := { phase := .revert, left := 0, powerUp := false } }, by decide +kernel⟩,
   ⟨{ st [(Fld.PWR_STATE.TARGET, 0, 3)] with pwr := { phase := .pme, left := 0, powerUp := false } }, by decide +kernel⟩,
   ⟨{ st [(Fld.PWR_STATE.TARGET, 0, 3)] with pwr := { phase := .pme, left := 0, powerUp := false } }, by decide +kernel⟩,
   ⟨7, { st [(Fld.PWR_STATE.CUR, 0, 2), (Fld.PWR_WAKE_SRC.GPIO_EN, 0, 0x80)] with pwr := { phase := .asleep, left := 0, powerUp := false } }, by decide +kernel⟩,
   ⟨1, true, { st [] with pwr := { phase := .wake 1 } }, by decide +kernel⟩,
   ⟨true, { st [(Fld.PWR_STATE.CUR, 0, 2)] with pwr := { phase := .wake 6, left := 2, powerUp := false } }, by decide +kernel⟩,
   ⟨3, { st [] with pwr := { phase := .wake 3 } }, by decide +kernel⟩,
   ⟨5, { st [] with pwr := { phase := .wake 5, retried := true } }, by decide +kernel⟩,
   ⟨3, { st [] with pwr := { phase := .retry 3 } }, by decide +kernel⟩,
   ⟨3, { st [(Fld.LNK_STATUS.STATE, 3, 9), (Fld.LNK_CTRL.FOGHORN_WAKE, 3, 1)] with pwr := { phase := .run, left := 0, powerUp := false } }, by decide +kernel⟩⟩

/-- The premises of DomainsAndOperatingPointsAreSwitched can be met. -/
theorem test_premises_domains_and_operating_points_are_switched :
    (∃ (tag : Nat) (s : State) (c : Cmd), (s.startable tag 0x42 = some c) ∧ (3 ≤ (c.at 4 1)) ∧ ((c.at 4 1) ≤ 9) ∧ (c.at 5 1 = 0) ∧ (s.domGood (c.at 4 1) = true) ∧ (s.takesCompletion c = true)) ∧
    (∃ (tag : Nat) (s : State) (c : Cmd), (s.startable tag 0x42 = some c) ∧ (3 ≤ (c.at 4 1)) ∧ ((c.at 4 1) ≤ 9) ∧ (c.at 5 1 = 0) ∧ (s.domGood (c.at 4 1) = false)) ∧
    (∃ (tag : Nat) (s : State) (c : Cmd), (s.startable tag 0x42 = some c) ∧ (3 ≤ (c.at 4 1)) ∧ ((c.at 4 1) ≤ 9) ∧ (c.at 5 1 = 1) ∧ (s.mayTurnOff (c.at 4 1) = true) ∧ (s.takesCompletion c = true)) ∧
    (∃ (tag : Nat) (s : State) (c : Cmd), (s.startable tag 0x42 = some c) ∧ (3 ≤ (c.at 4 1)) ∧ ((c.at 4 1) ≤ 9) ∧ (c.at 5 1 = 1) ∧ (s.mayTurnOff (c.at 4 1) = false) ∧ (s.takesCompletion c = true)) ∧
    (∃ (tag : Nat) (s : State) (c : Cmd), (s.startable tag 0x42 = some c) ∧ (3 ≤ (c.at 4 1)) ∧ ((c.at 4 1) ≤ 9) ∧ (c.at 5 1 = 2) ∧ (s.takesCompletion c = true)) ∧
    (∃ (tag : Nat) (s : State) (c : Cmd), (s.startable tag 0x42 = some c) ∧ (3 ≤ (c.at 4 1)) ∧ ((c.at 4 1) ≤ 9) ∧ (c.at 5 1 = 3) ∧ (s.takesCompletion c = true)) ∧
    (∃ (d : Nat) (s : State), (3 ≤ d) ∧ (d ≤ 9) ∧ (bitAt (s.fld Fld.PWR_DOM_AUTO.AUTO) (d - 3) = true) ∧ (s.domGood d = true) ∧ (s.mayTurnOff d = true) ∧ (s.pwr.idleFrom.lookup d = none)) ∧
    (∃ (d t0 : Nat) (s : State), (3 ≤ d) ∧ (d ≤ 9) ∧ (bitAt (s.fld Fld.PWR_DOM_AUTO.AUTO) (d - 3) = true) ∧ (s.domGood d = true) ∧ (s.mayTurnOff d = true) ∧ (s.pwr.idleFrom.lookup d = some t0) ∧ (s.reaches (t0 + 1000000) = true)) ∧
    (∃ (d off v : Nat) (write : Bool) (s : State), (off % 4 = 0) ∧ (off < 0x240000) ∧ (helmDomain (off / 0x20000) = d) ∧ (s.domGood d = false) ∧ (s.pstate ≤ 1) ∧ (s.memOn 0 = true) ∧ ((s.fn 0).dstate = 0) ∧ (write = true → s.loading = false)) ∧
    (∃ (d : Nat) (s : State), (3 ≤ d) ∧ (d ≤ 9) ∧ (s.domComing d = true) ∧ ((s.pwr.stalled.any fun a => a.domain == d) = false) ∧ (s.waiting 0x42 d = []) ∧ (∀ n < 19, (s.lane n).waking = false)) ∧
    (∃ (d t0 : Nat) (b : Bool) (s : State), (3 ≤ d) ∧ (d ≤ 9) ∧ ((s.pwr.coming.find? fun e => e.1 == d) = some (d, t0, b)) ∧ (s.reaches (t0 + if d = 3 ∨ d = 4 then 60000 else 40000) = true)) ∧
    (∃ (v : Nat) (s : State), (s.fld Fld.PWR_OP_STATUS.ACTIVE ≤ min 2 (v % 4)) ∧ (s.bit Fld.PWR_OP_STATUS.PENDING = true → s.fsel ≤ min 2 (v % 4))) ∧
    (∃ (v : Nat) (s : State), (min 2 (v % 4) < s.fld Fld.PWR_OP_STATUS.ACTIVE)) ∧
    (∃ (s : State), (s.bit Fld.PWR_OP_STATUS.PENDING = false) ∧ (s.fsel ≤ s.fld Fld.PWR_OP_STATUS.VSEL_OK)) ∧
    (∃ (s : State), (s.bit Fld.PWR_OP_STATUS.PENDING = false) ∧ (s.fld Fld.PWR_OP_STATUS.VSEL_OK < s.fsel)) ∧
    (∃ (v1 v2 : Nat) (s : State), (s.pwr.phase = .run) ∧ (s.bit Fld.PWR_OP_STATUS.VBUSY = true) ∧ (s.pwr.opTag = none) ∧ (s.pmbusIdle 16 = true) ∧ (near (s.voutMv 16 v1) (coreLevel s.vsel) = true) ∧ (near (s.voutMv 16 v2) (coreLevel s.vsel) = true)) ∧
    (∃ (s : State), (s.bit Fld.PWR_OP_STATUS.VBUSY = true) ∧ (s.pwr.opTag = none) ∧ (s.reaches (s.pwr.opSince + 2000000) = true)) ∧
    (∃ (tag : Nat) (s : State) (c : Cmd), (s.startable tag 0x41 = some c) ∧ (2 < c.at 4 1) ∧ (s.takesCompletion c = true)) ∧
    (∃ (tag : Nat) (s : State) (c : Cmd), (s.startable tag 0x41 = some c) ∧ (c.at 4 1 ≤ 2) ∧ (s.bit Fld.PWR_OP_STATUS.PENDING = false) ∧ (s.pwr.opTag = none) ∧ (c.at 4 1 = s.fld Fld.PWR_OP_STATUS.ACTIVE) ∧ (c.at 4 1 = s.fld Fld.PWR_OP_STATUS.VSEL_OK) ∧ (s.bit Fld.PWR_OP_STATUS.VBUSY = false) ∧ (s.takesCompletion c = true)) ∧
    (∃ (tag : Nat) (s : State) (c : Cmd), (s.startable tag 0x41 = some c) ∧ (c.at 4 1 ≤ 2) ∧ (s.bit Fld.PWR_OP_STATUS.PENDING = false) ∧ (s.pwr.opTag = none) ∧ (s.fld Fld.PWR_OP_STATUS.ACTIVE < c.at 4 1) ∧ (s.fld Fld.PWR_OP_STATUS.VSEL_OK < c.at 4 1)) :=
  ⟨⟨7, { qst (cmdOf 0x42 [(4, 1, 4), (5, 1, 0)]) [] with pwr := { phase := .run, left := 0, powerUp := false } }, cmdOf 0x42 [(4, 1, 4), (5, 1, 0)], by decide +kernel⟩,
   ⟨7, { qst (cmdOf 0x42 [(4, 1, 4), (5, 1, 0)]) [(Fld.PWR_DOM_STATUS.GOOD, 0, 0xFEF)] with pwr := { phase := .run, left := 0, powerUp := false } }, cmdOf 0x42 [(4, 1, 4), (5, 1, 0)], by decide +kernel⟩,
   ⟨7, { qst (cmdOf 0x42 [(4, 1, 4), (5, 1, 1)]) [] with pwr := { phase := .run, left := 0, powerUp := false } }, cmdOf 0x42 [(4, 1, 4), (5, 1, 1)], by decide +kernel⟩,
   ⟨7, { qst (cmdOf 0x42 [(4, 1, 4), (5, 1, 1)]) [(Fld.HLM_STATUS.FUNC_STATE, 9, 2)] with pwr := { phase := .run, left := 0, powerUp := false } }, cmdOf 0x42 [(4, 1, 4), (5, 1, 1)], by decide +kernel⟩,
   ⟨7, { qst (cmdOf 0x42 [(4, 1, 4), (5, 1, 2)]) [] with pwr := { phase := .run, left := 0, powerUp := false } }, cmdOf 0x42 [(4, 1, 4), (5, 1, 2)], by decide +kernel⟩,
   ⟨7, { qst (cmdOf 0x42 [(4, 1, 4), (5, 1, 3)]) [(Fld.PWR_DOM_AUTO.AUTO, 0, 0x7F)] with pwr := { phase := .run, left := 0, powerUp := false } }, cmdOf 0x42 [(4, 1, 4), (5, 1, 3)], by decide +kernel⟩,
   ⟨9, { st [(Fld.PWR_DOM_AUTO.AUTO, 0, 0x40)] with pwr := { phase := .run, left := 0, powerUp := false } }, by decide +kernel⟩,
   ⟨9, 5, { st [(Fld.PWR_DOM_AUTO.AUTO, 0, 0x40)] with pwr := { phase := .run, left := 0, powerUp := false, idleFrom := [(9, 5)] } }, by decide +kernel⟩,
   ⟨4, 0x23FFFC, 5, true, { st [(Fld.PWR_DOM_STATUS.GOOD, 0, 0xFEF), (Fld.NVM_STATUS.STATE, 0, 2)] with fns := [(0, { mse := true })], pwr := { phase := .run, left := 0, powerUp := false } }, by decide +kernel⟩,
   ⟨4, { st [(Fld.PWR_DOM_STATUS.GOOD, 0, 0xFEF)] with pwr := { phase := .run, left := 0, powerUp := false, coming := [(4, 5, false)] } }, by decide +kernel⟩,
   ⟨4, 5, false, { st [] with pwr := { phase := .run, left := 0, powerUp := false, coming := [(4, 5, false)], stalled := [{ domain := 4, tcm := true, write := true, off := 0, value := 1 }] } }, by decide +kernel⟩,
   ⟨7, { st [(Fld.PWR_OP_STATUS.ACTIVE, 0, 1)] with pwr := { phase := .run, left := 0, powerUp := false } }, by decide +kernel⟩,
   ⟨4, { st [(Fld.PWR_OP_STATUS.ACTIVE, 0, 1)] with pwr := { phase := .run, left := 0, powerUp := false } }, by decide +kernel⟩,
   ⟨{ st [(Fld.PWR_OP_STATUS.VSEL_OK, 0, 1), (Fld.PWR_OP_FSEL.FSEL, 0, 1)] with pwr := { phase := .run, left := 0, powerUp := false } }, by decide +kernel⟩,
   ⟨{ st [(Fld.PWR_OP_STATUS.VSEL_OK, 0, 1), (Fld.PWR_OP_FSEL.FSEL, 0, 2)] with pwr := { phase := .run, left := 0, powerUp := false } }, by decide +kernel⟩,
   ⟨State.reset.voutWord 16 836, State.reset.voutWord 16 804, { st [(Fld.PWR_OP_STATUS.VBUSY, 0, 1), (Fld.PWR_OP_VSEL.VSEL, 0, 1)] with pwr := { phase := .run, left := 0, powerUp := false } }, by decide +kernel⟩,
   ⟨{ st [(Fld.PWR_OP_STATUS.VBUSY, 0, 1), (Fld.PWR_OP_VSEL.VSEL, 0, 1)] with pwr := { phase := .run, left := 0, powerUp := false } }, by decide +kernel⟩,
   ⟨7, { qst (cmdOf 0x41 [(4, 1, 3)]) [] with pwr := { phase := .run, left := 0, powerUp := false } }, cmdOf 0x41 [(4, 1, 3)], by decide +kernel⟩,
   ⟨7, { qst (cmdOf 0x41 [(4, 1, 2)]) [(Fld.PWR_OP_STATUS.ACTIVE, 0, 2), (Fld.PWR_OP_STATUS.VSEL_OK, 0, 2)] with pwr := { phase := .run, left := 0, powerUp := false } }, cmdOf 0x41 [(4, 1, 2)], by decide +kernel⟩,
   ⟨7, { qst (cmdOf 0x41 [(4, 1, 2)]) [(Fld.PWR_OP_STATUS.ACTIVE, 0, 1), (Fld.PWR_OP_STATUS.VSEL_OK, 0, 1)] with pwr := { phase := .run, left := 0, powerUp := false } }, cmdOf 0x41 [(4, 1, 2)], by decide +kernel⟩⟩

/-- The premises of ThePairElectsAPrimary can be met. -/
theorem test_premises_the_pair_elects_a_primary :
    (∃ (s : State), (s.fld Fld.PAIR_STATUS.FUNC_STATE = Fn.off)) ∧
    (∃ (s : State), (s.fld Fld.PAIR_STATUS.FUNC_STATE = Fn.on) ∧ (s.bit Fld.PAIR_STATUS.PENDING_ENABLE = false)) ∧
    (∃ (tag : Nat) (s : State) (c : Cmd), (s.startable tag 0x50 = some c) ∧ (c.at 4 1 = 0) ∧ (s.fld Fld.PAIR_STATUS.FUNC_STATE = Fn.on) ∧ (s.roleState ≠ Role.elect) ∧ (s.takesCompletion c = true)) ∧
    (∃ (tag : Nat) (s : State) (c : Cmd), (s.startable tag 0x50 = some c) ∧ (c.at 4 1 = 0) ∧ (s.fld Fld.PAIR_STATUS.FUNC_STATE = Fn.off)) ∧
    (∃ (tag : Nat) (s : State) (c : Cmd), (s.startable tag 0x50 = some c) ∧ (c.at 4 1 = 1) ∧ (s.fld Fld.PAIR_STATUS.FUNC_STATE = Fn.off) ∧ (s.takesCompletion c = true)) ∧
    (∃ (tag : Nat) (s : State) (c : Cmd), (s.startable tag 0x50 = some c) ∧ (c.at 4 1 = 1) ∧ (s.fld Fld.PAIR_STATUS.FUNC_STATE = Fn.on) ∧ (s.fld Fld.LNK_STATUS.FUNC_STATE 18 ≠ Fn.off)) ∧
    (∃ (tag : Nat) (s : State) (c : Cmd), (s.startable tag 0x50 = some c) ∧ (2 < c.at 4 1) ∧ (s.takesCompletion c = true)) ∧
    (∃ (s : State), (s.roleState = Role.elect) ∧ (s.reaches (s.pair.claimAt + 100000) = true) ∧ (s.pair.peerClaimed = false) ∧ (s.portUp 18 = true)) ∧
    (∃ (a b id kind : Nat) (s : State), (claimFields a b = some (id, kind)) ∧ (s.fld Fld.PAIR_STATUS.FUNC_STATE = Fn.on) ∧ (s.portUp 18 = true) ∧ (s.roleState = Role.elect) ∧ (kind = 1)) ∧
    (∃ (a b id kind : Nat) (s : State), (claimFields a b = some (id, kind)) ∧ (s.fld Fld.PAIR_STATUS.FUNC_STATE = Fn.on) ∧ (s.portUp 18 = true) ∧ (s.roleState = Role.elect) ∧ (kind = 0) ∧ (s.pair.claimed = true) ∧ (s.pairId < id)) ∧
    (∃ (a b id kind : Nat) (s : State), (claimFields a b = some (id, kind)) ∧ (s.fld Fld.PAIR_STATUS.FUNC_STATE = Fn.on) ∧ (s.portUp 18 = true) ∧ (s.roleState = Role.elect) ∧ (kind = 0) ∧ (s.pair.claimed = true) ∧ (id < s.pairId)) ∧
    (∃ (a b id kind : Nat) (s : State), (claimFields a b = some (id, kind)) ∧ (s.fld Fld.PAIR_STATUS.FUNC_STATE = Fn.on) ∧ (s.portUp 18 = true) ∧ (s.roleState = Role.elect) ∧ (kind = 0) ∧ (id = s.pairId)) ∧
    (∃ (a b id kind : Nat) (s : State), (claimFields a b = some (id, kind)) ∧ (s.fld Fld.PAIR_STATUS.FUNC_STATE = Fn.on) ∧ (s.portUp 18 = true) ∧ (s.roleState = Role.primary) ∧ (kind = 0)) ∧
    (∃ (a b id kind : Nat) (s : State), (claimFields a b = some (id, kind)) ∧ (s.fld Fld.PAIR_STATUS.FUNC_STATE = Fn.on) ∧ (s.portUp 18 = true) ∧ (s.roleState = Role.primary) ∧ (kind = 3)) ∧
    (∃ (a b : Nat) (consecutive : Bool) (s : State), (consecutive = false ∨ claimFields a b = none)) ∧
    (∃ (s : State), (s.roleState = Role.elect) ∧ (s.pair.peerClaimed = false) ∧ (s.bit Fld.PAIR_STATUS.ROLE_IN_ALIVE = false) ∧ (s.reaches (s.pair.electAt + max 1 (s.fld Fld.PAIR_CFG.ELECT_MS) * 1000000) = true)) ∧
    (∃ (e : Nat) (s : State), (s.bit Fld.CHT_STATUS.RUNNING = false) ∧ (s.roleState = Role.elect)) ∧
    (∃ (s : State), (s.roleState = Role.mirrorLost) ∧ (s.reaches (s.pair.aliveAt + max 1 (s.fld Fld.PAIR_CFG.ORPHAN_MS) * 1000000) = true)) ∧
    (∃ (d : Nat) (s : State), (s.roleState = Role.syncing) ∧ (s.pair.downAt = some d) ∧ (s.reaches (d + 10000000) = true)) :=
  ⟨⟨st [], by decide +kernel⟩,
   ⟨st [(Fld.PAIR_STATUS.FUNC_STATE, 0, 2), (Fld.PAIR_STATUS.ROLE, 0, 2), (Fld.LNK_STATUS.STATE, 18, 7), (Fld.LNK_STATUS.FUNC_STATE, 18, 2)], by decide +kernel⟩,
   ⟨7, qst (cmdOf 0x50 [(4, 1, 0)]) [(Fld.PAIR_STATUS.FUNC_STATE, 0, 2), (Fld.PAIR_STATUS.ROLE, 0, 2)], cmdOf 0x50 [(4, 1, 0)], by decide +kernel⟩,
   ⟨7, qst (cmdOf 0x50 [(4, 1, 0)]) [], cmdOf 0x50 [(4, 1, 0)], by decide +kernel⟩,
   ⟨7, qst (cmdOf 0x50 [(4, 1, 1)]) [], cmdOf 0x50 [(4, 1, 1)], by decide +kernel⟩,
   ⟨7, qst (cmdOf 0x50 [(4, 1, 1)]) [(Fld.PAIR_STATUS.FUNC_STATE, 0, 2), (Fld.PAIR_STATUS.ROLE, 0, 3), (Fld.LNK_STATUS.STATE, 18, 7), (Fld.LNK_STATUS.FUNC_STATE, 18, 2)], cmdOf 0x50 [(4, 1, 1)], by decide +kernel⟩,
   ⟨7, qst (cmdOf 0x50 [(4, 1, 3)]) [], cmdOf 0x50 [(4, 1, 3)], by decide +kernel⟩,
   ⟨st [(Fld.PAIR_STATUS.FUNC_STATE, 0, 2), (Fld.PAIR_STATUS.ROLE, 0, 1), (Fld.LNK_STATUS.STATE, 18, 7), (Fld.LNK_STATUS.FUNC_STATE, 18, 2)], by decide +kernel⟩,
   ⟨claimWord 4886718345 1 0, claimWord 4886718345 1 1, 4886718345, 1, st [(Fld.PAIR_STATUS.FUNC_STATE, 0, 2), (Fld.LNK_STATUS.STATE, 18, 7), (Fld.LNK_STATUS.FUNC_STATE, 18, 2), (Fld.PAIR_STATUS.ROLE, 0, 1)], by decide +kernel⟩,
   ⟨claimWord 9 0 0, claimWord 9 0 1, 9, 0, { st [(Fld.PAIR_STATUS.FUNC_STATE, 0, 2), (Fld.LNK_STATUS.STATE, 18, 7), (Fld.LNK_STATUS.FUNC_STATE, 18, 2), (Fld.PAIR_STATUS.ROLE, 0, 1)] with pair := { claimed := true } }, by decide +kernel⟩,
   ⟨claimWord 9 0 0, claimWord 9 0 1, 9, 0, { st [(Fld.PAIR_STATUS.FUNC_STATE, 0, 2), (Fld.LNK_STATUS.STATE, 18, 7), (Fld.LNK_STATUS.FUNC_STATE, 18, 2), (Fld.PAIR_STATUS.ROLE, 0, 1), (Fld.PAIR_ID_LO.ID_LO, 0, 10)] with pair := { claimed := true } }, by decide +kernel⟩,
   ⟨claimWord 10 0 0, claimWord 10 0 1, 10, 0, st [(Fld.PAIR_STATUS.FUNC_STATE, 0, 2), (Fld.LNK_STATUS.STATE, 18, 7), (Fld.LNK_STATUS.FUNC_STATE, 18, 2), (Fld.PAIR_STATUS.ROLE, 0, 1), (Fld.PAIR_ID_LO.ID_LO, 0, 10)], by decide +kernel⟩,
   ⟨claimWord 9 0 0, claimWord 9 0 1, 9, 0, st [(Fld.PAIR_STATUS.FUNC_STATE, 0, 2), (Fld.LNK_STATUS.STATE, 18, 7), (Fld.LNK_STATUS.FUNC_STATE, 18, 2), (Fld.PAIR_STATUS.ROLE, 0, 2)], by decide +kernel⟩,
   ⟨claimWord 9 3 0, claimWord 9 3 1, 9, 3, st [(Fld.PAIR_STATUS.FUNC_STATE, 0, 2), (Fld.LNK_STATUS.STATE, 18, 7), (Fld.LNK_STATUS.FUNC_STATE, 18, 2), (Fld.PAIR_STATUS.ROLE, 0, 2)], by decide +kernel⟩,
   ⟨claimWord 9 0 0 + 256, claimWord 9 0 1, true, st [(Fld.PAIR_STATUS.FUNC_STATE, 0, 2), (Fld.PAIR_STATUS.ROLE, 0, 1), (Fld.LNK_STATUS.STATE, 18, 7), (Fld.LNK_STATUS.FUNC_STATE, 18, 2)], by decide +kernel⟩,
   ⟨st [(Fld.PAIR_STATUS.FUNC_STATE, 0, 2), (Fld.PAIR_STATUS.ROLE, 0, 1)], by decide +kernel⟩,
   ⟨100, st [(Fld.PAIR_STATUS.FUNC_STATE, 0, 2), (Fld.PAIR_STATUS.ROLE, 0, 1)], by decide +kernel⟩,
   ⟨st [(Fld.PAIR_STATUS.FUNC_STATE, 0, 2), (Fld.PAIR_STATUS.ROLE, 0, 5)], by decide +kernel⟩,
   ⟨5, { st [(Fld.PAIR_STATUS.FUNC_STATE, 0, 2), (Fld.PAIR_STATUS.ROLE, 0, 3)] with pair := { downAt := some 5 } }, by decide +kernel⟩⟩

/-- The premises of TheStandbyFollowsAndTakesOver can be met. -/
theorem test_premises_the_standby_follows_and_takes_over :
    (∃ (slot : Nat) (r : MirrorRec) (s : State), (s.mirrors = true) ∧ (s.portUp 18 = true) ∧ (s.bit Fld.CHT_STATUS.RUNNING = true) ∧ (1 ≤ slot) ∧ (slot < s.fld Fld.CHT_TICK_LEN.ACTIVE_N) ∧ (s.reaches (s.chr.meridNs + 32 * slot) = true) ∧ (s.pair.waiting = [r])) ∧
    (∃ (i : Nat) (bytes d : List Byte) (s : State), (s.roleState = Role.standby) ∧ (s.portUp 18 = true) ∧ (mirrorFields bytes = some (s.pair.rxTick, s.pair.rxFrame, MirrorRec.bytes ⟨1, i, d⟩)) ∧ (i < 2 ^ 14) ∧ (d.length < 2 ^ 11)) ∧
    (∃ (tick frame : Nat) (bytes payload : List Byte) (s : State), (s.roleState = Role.standby) ∧ (s.portUp 18 = true) ∧ (mirrorFields bytes = some (tick, frame, payload)) ∧ (¬(tick = s.pair.rxTick ∧ frame = s.pair.rxFrame)) ∧ (¬(tick = (s.pair.rxTick + 1) % 65536 ∧ frame = 0))) ∧
    (∃ (bytes : List Byte) (s : State), (mirrorFields bytes = none)) ∧
    (∃ (word arrival : Nat) (s : State), (s.roleState = Role.standby) ∧ (s.pair.armed = false) ∧ (s.portUp 18 = true) ∧ (mbeaconGood word = true) ∧ (s.reachesFine arrival = true) ∧ (bitAt word 40 = true)) ∧
    (∃ (word arrival : Nat) (s : State), (s.roleState = Role.standby) ∧ (s.pair.armed = false) ∧ (s.portUp 18 = true) ∧ (mbeaconGood word = true) ∧ (s.reachesFine arrival = true) ∧ (bitAt word 40 = false) ∧ ((s.pair.beacon.all fun b => bitsAt word 8 32 == (b + 1) % 2 ^ 32) = true) ∧ (bitsAt word 8 32 = s.tick % 2 ^ 32)) ∧
    (∃ (word arrival : Nat) (s : State), (s.roleState = Role.standby) ∧ (s.pair.armed = false) ∧ (s.portUp 18 = true) ∧ (mbeaconGood word = true) ∧ (s.reachesFine arrival = true) ∧ (bitAt word 40 = false) ∧ ((s.pair.beacon.any fun b => bitsAt word 8 32 != (b + 1) % 2 ^ 32) = true)) ∧
    (∃ (word arrival : Nat) (s : State), (mbeaconGood word = false)) ∧
    (∃ (s : State), (s.bit Fld.CHT_STATUS.RUNNING = true) ∧ (s.roleState = Role.standby) ∧ (s.reaches (s.chr.meridNs + 48) = true) ∧ (s.pair.beacon ≠ some (s.tick % 2 ^ 32)) ∧ (∀ e ∈ s.pair.edgeAt, e + 32 < s.chr.meridNs)) ∧
    (∃ (e : Nat) (s : State), (s.bit Fld.CHT_STATUS.RUNNING = true) ∧ (s.roleState = Role.standby) ∧ (s.reaches (s.chr.meridNs + 48) = true) ∧ (s.pair.beacon ≠ some (s.tick % 2 ^ 32)) ∧ (s.pair.edgeAt = some e) ∧ (s.chr.meridNs ≤ e + 32)) ∧
    (∃ (s : State), (s.pair.armed = true) ∧ (s.roleState = Role.standby) ∧ (s.reaches (s.chr.meridNs + 64) = true)) ∧
    (∃ (tag : Nat) (s : State) (c : Cmd), (s.startable tag 0x50 = some c) ∧ (c.at 4 1 = 2) ∧ (s.roleState ≠ Role.primary) ∧ (s.roleState ≠ Role.standby) ∧ (s.takesCompletion c = true)) ∧
    (∃ (tag : Nat) (s : State) (c : Cmd), (s.startable tag 0x50 = some c) ∧ (c.at 4 1 = 2) ∧ (s.roleState = Role.primary ∨ s.roleState = Role.standby)) ∧
    (∃ (tag : Nat) (c : Cmd) (s : State), (s.waiting 0x50 2 = [tag]) ∧ (s.cmd tag = some c) ∧ (s.takesCompletion c = true) ∧ (s.reaches (s.pair.swapAt + 10000000) = true)) :=
  ⟨⟨3, ⟨5, 0, [1, 0]⟩, { st [(Fld.PAIR_STATUS.FUNC_STATE, 0, 2), (Fld.PAIR_STATUS.ROLE, 0, 2), (Fld.LNK_STATUS.STATE, 18, 7), (Fld.LNK_STATUS.FUNC_STATE, 18, 2), (Fld.CHT_STATUS.RUNNING, 0, 1)] with chr := { tick := 7, meridNs := 1000, ns := 1000, dueNs := 1001000, started := true }, pair := { waiting := [⟨5, 0, [1, 0]⟩] } }, by decide +kernel⟩,
   ⟨12, mirrorFrame 7 1 (MirrorRec.bytes ⟨1, 12, [1, 2, 3, 4, 5]⟩), [1, 2, 3, 4, 5], { st [(Fld.PAIR_STATUS.FUNC_STATE, 0, 2), (Fld.PAIR_STATUS.ROLE, 0, 4), (Fld.LNK_STATUS.STATE, 18, 7), (Fld.LNK_STATUS.FUNC_STATE, 18, 2), (Fld.CHT_STATUS.RUNNING, 0, 1)] with chr := { tick := 7, meridNs := 1000, ns := 1000, dueNs := 1001000, started := true }, pair := { rxTick := 7, rxFrame := 1 } }, by decide +kernel⟩,
   ⟨9, 0, mirrorFrame 9 0 [], [], { st [(Fld.PAIR_STATUS.FUNC_STATE, 0, 2), (Fld.PAIR_STATUS.ROLE, 0, 4), (Fld.LNK_STATUS.STATE, 18, 7), (Fld.LNK_STATUS.FUNC_STATE, 18, 2), (Fld.CHT_STATUS.RUNNING, 0, 1)] with chr := { tick := 7, meridNs := 1000, ns := 1000, dueNs := 1001000, started := true }, pair := { rxTick := 7, rxFrame := 1 } }, by decide +kernel⟩,
   ⟨(mirrorFrame 7 1 [1, 2, 3, 4]).set 9 7, { st [(Fld.PAIR_STATUS.FUNC_STATE, 0, 2), (Fld.PAIR_STATUS.ROLE, 0, 4), (Fld.LNK_STATUS.STATE, 18, 7), (Fld.LNK_STATUS.FUNC_STATE, 18, 2), (Fld.CHT_STATUS.RUNNING, 0, 1)] with chr := { tick := 7, meridNs := 1000, ns := 1000, dueNs := 1001000, started := true }, pair := { rxTick := 7, rxFrame := 1 } }, by decide +kernel⟩,
   ⟨mbeacon 7 true false false, 65536000, { st [(Fld.PAIR_STATUS.FUNC_STATE, 0, 2), (Fld.PAIR_STATUS.ROLE, 0, 4), (Fld.LNK_STATUS.STATE, 18, 7), (Fld.LNK_STATUS.FUNC_STATE, 18, 2), (Fld.CHT_STATUS.RUNNING, 0, 1)] with chr := { tick := 7, meridNs := 1000, ns := 1000, dueNs := 1001000, started := true } }, by decide +kernel⟩,
   ⟨mbeacon 7 false true false, 65536000, { st [(Fld.PAIR_STATUS.FUNC_STATE, 0, 2), (Fld.PAIR_STATUS.ROLE, 0, 4), (Fld.LNK_STATUS.STATE, 18, 7), (Fld.LNK_STATUS.FUNC_STATE, 18, 2), (Fld.CHT_STATUS.RUNNING, 0, 1)] with chr := { tick := 7, meridNs := 1000, ns := 1000, dueNs := 1001000, started := true }, pair := { beacon := some 6 } }, by decide +kernel⟩,
   ⟨mbeacon 7 false false false, 65536000, { st [(Fld.PAIR_STATUS.FUNC_STATE, 0, 2), (Fld.PAIR_STATUS.ROLE, 0, 4), (Fld.LNK_STATUS.STATE, 18, 7), (Fld.LNK_STATUS.FUNC_STATE, 18, 2), (Fld.CHT_STATUS.RUNNING, 0, 1)] with chr := { tick := 7, meridNs := 1000, ns := 1000, dueNs := 1001000, started := true }, pair := { beacon := some 5 } }, by decide +kernel⟩,
   ⟨mbeacon 7 false false false + 2 ^ 41, 65536000, { st [(Fld.PAIR_STATUS.FUNC_STATE, 0, 2), (Fld.PAIR_STATUS.ROLE, 0, 4), (Fld.LNK_STATUS.STATE, 18, 7), (Fld.LNK_STATUS.FUNC_STATE, 18, 2), (Fld.CHT_STATUS.RUNNING, 0, 1)] with chr := { tick := 7, meridNs := 1000, ns := 1000, dueNs := 1001000, started := true } }, by decide +kernel⟩,
   ⟨{ st [(Fld.PAIR_STATUS.FUNC_STATE, 0, 2), (Fld.PAIR_STATUS.ROLE, 0, 4), (Fld.LNK_STATUS.STATE, 18, 7), (Fld.LNK_STATUS.FUNC_STATE, 18, 2), (Fld.CHT_STATUS.RUNNING, 0, 1)] with chr := { tick := 7, meridNs := 1000, ns := 1000, dueNs := 1001000, started := true }, pair := { beacon := some 6 } }, by decide +kernel⟩,
   ⟨1010, { st [(Fld.PAIR_STATUS.FUNC_STATE, 0, 2), (Fld.PAIR_STATUS.ROLE, 0, 4), (Fld.LNK_STATUS.STATE, 18, 7), (Fld.LNK_STATUS.FUNC_STATE, 18, 2), (Fld.CHT_STATUS.RUNNING, 0, 1)] with chr := { tick := 7, meridNs := 1000, ns := 1000, dueNs := 1001000, started := true }, pair := { beacon := some 6, edgeAt := some 1010 } }, by decide +kernel⟩,
   ⟨{ st [(Fld.PAIR_STATUS.FUNC_STATE, 0, 2), (Fld.PAIR_STATUS.ROLE, 0, 4), (Fld.LNK_STATUS.STATE, 18, 7), (Fld.LNK_STATUS.FUNC_STATE, 18, 2), (Fld.CHT_STATUS.RUNNING, 0, 1)] with chr := { tick := 7, meridNs := 1000, ns := 1000, dueNs := 1001000, started := true }, pair := { armed := true } }, by decide +kernel⟩,
   ⟨7, qst (cmdOf 0x50 [(4, 1, 2)]) [(Fld.PAIR_STATUS.FUNC_STATE, 0, 2), (Fld.PAIR_STATUS.ROLE, 0, 1)], cmdOf 0x50 [(4, 1, 2)], by decide +kernel⟩,
   ⟨7, qst (cmdOf 0x50 [(4, 1, 2)]) [(Fld.PAIR_STATUS.FUNC_STATE, 0, 2), (Fld.PAIR_STATUS.ROLE, 0, 4), (Fld.LNK_STATUS.STATE, 18, 7), (Fld.LNK_STATUS.FUNC_STATE, 18, 2), (Fld.CHT_STATUS.RUNNING, 0, 1)], cmdOf 0x50 [(4, 1, 2)], by decide +kernel⟩,
   ⟨7, { cmdOf 0x50 [(4, 1, 2)] with stage := .running, progress := 2 }, qst { cmdOf 0x50 [(4, 1, 2)] with stage := .running, progress := 2 } [(Fld.PAIR_STATUS.FUNC_STATE, 0, 2), (Fld.PAIR_STATUS.ROLE, 0, 4), (Fld.LNK_STATUS.STATE, 18, 7), (Fld.LNK_STATUS.FUNC_STATE, 18, 2)], by decide +kernel⟩⟩

/-- The premises of KeysAndSecurityVersionsAreProgrammed can be met. -/
theorem test_premises_keys_and_security_versions_are_programmed :
    (∃ (tag : Nat) (s : State) (c : Cmd), (s.startable tag 0x30 = some c) ∧ (s.sec.otpOp = none) ∧ (2 < (c.at 4 1) ∨ 3 < (c.at 5 1) ∨ s.keyFlag (c.at 4 1) (c.at 5 1) = true ∨ s.lifeCycle = 3 ∨ s.lifeCycle = 4 ∨ ((c.at 4 1) = 2 ∧ s.lifeCycle = 2)) ∧ (s.takesCompletion c = true)) ∧
    (∃ (tag : Nat) (s : State) (c : Cmd), (s.startable tag 0x30 = some c) ∧ (s.sec.otpOp = none) ∧ ((c.at 4 1) ≤ 2) ∧ ((c.at 5 1) ≤ 3) ∧ (s.keyFlag (c.at 4 1) (c.at 5 1) = false) ∧ (s.lifeCycle ≤ 2) ∧ ((c.at 4 1) = 2 → s.lifeCycle ≤ 1) ∧ (s.canIssue (s.insFn c.ins) = true)) ∧
    (∃ (tag : Nat) (s : State) (c : Cmd), (s.startable tag 0x31 = some c) ∧ (s.sec.otpOp = none) ∧ (3 < (c.at 5 1) ∨ s.keyUsable 0 (c.at 5 1) = false ∨ s.lifeCycle = 0 ∨ (s.activeKey.any fun k => decide ((c.at 5 1) ≤ k)) = true) ∧ (s.takesCompletion c = true)) ∧
    (∃ (tag : Nat) (s : State) (c : Cmd), (s.startable tag 0x31 = some c) ∧ (s.sec.otpOp = none) ∧ ((c.at 5 1) ≤ 3) ∧ (s.keyUsable 0 (c.at 5 1) = true) ∧ (s.lifeCycle ≠ 0) ∧ ((s.activeKey.any fun k => decide ((c.at 5 1) ≤ k)) = false)) ∧
    (∃ (tag : Nat) (s : State) (c : Cmd), (s.startable tag 0x32 = some c) ∧ (s.sec.otpOp = none) ∧ (1 < (c.at 4 1) ∨ 3 < (c.at 5 1) ∨ ((c.at 4 1) = 0 ∧ s.activeKey = some (c.at 5 1)) ∨ ((c.at 4 1) = 1 ∧ (List.range 4).filter (s.keyUsable 1) = [(c.at 5 1)])) ∧ (s.takesCompletion c = true)) ∧
    (∃ (tag : Nat) (s : State) (c : Cmd), (s.startable tag 0x32 = some c) ∧ (s.sec.otpOp = none) ∧ ((c.at 4 1) ≤ 1) ∧ ((c.at 5 1) ≤ 3) ∧ ((c.at 4 1) = 0 → s.activeKey ≠ some (c.at 5 1)) ∧ ((c.at 4 1) = 1 → (List.range 4).filter (s.keyUsable 1) ≠ [(c.at 5 1)])) ∧
    (∃ (tag : Nat) (s : State) (c : Cmd), (s.startable tag 0x33 = some c) ∧ (s.sec.otpOp = none) ∧ (256 < c.at 8 2 ∨ s.fld Fld.SEC_SVN.LOADED < c.at 8 2) ∧ (s.takesCompletion c = true)) ∧
    (∃ (tag : Nat) (s : State) (c : Cmd), (s.startable tag 0x33 = some c) ∧ (s.sec.otpOp = none) ∧ (c.at 8 2 ≤ 256) ∧ (c.at 8 2 ≤ s.fld Fld.SEC_SVN.LOADED)) ∧
    (∃ (tag : Nat) (o : KeeperOp) (c : Cmd) (s : State), (s.sec.otpOp = some o) ∧ (o.tag = some tag) ∧ (s.cmd tag = some c) ∧ (s.takesCompletion c = true) ∧ (c.opcode = 0x31 ∨ c.opcode = 0x32)) ∧
    (∃ (tag : Nat) (o : KeeperOp) (c : Cmd) (s : State), (s.sec.otpOp = some o) ∧ (o.tag = some tag) ∧ (s.cmd tag = some c) ∧ (s.takesCompletion c = true) ∧ (c.opcode = 0x33)) ∧
    (∃ (tag : Nat) (o : KeeperOp) (c : Cmd) (r : List Byte) (s : State), (s.sec.otpOp = some o) ∧ (o.tag = some tag) ∧ (s.cmd tag = some c) ∧ (s.takesCompletion c = true) ∧ (r.length = o.bytes.length) ∧ (List.zipWith (· ||| ·) (s.otpRead o.addr o.bytes.length) r ≠ List.zipWith (· ||| ·) (s.otpRead o.addr o.bytes.length) o.bytes)) :=
  ⟨⟨7, { qst (cmdOf 0x30 [(4, 1, 2)]) [] with otp := [(0x8, 3)] }, cmdOf 0x30 [(4, 1, 2)], by decide +kernel⟩,
   ⟨7, { qst (cmdOf 0x30 [(4, 1, 2), (8, 4, 0x1000)]) [] with otp := [(0x8, 1)] }, cmdOf 0x30 [(4, 1, 2), (8, 4, 0x1000)], by decide +kernel⟩,
   ⟨7, { qst (cmdOf 0x31 [(5, 1, 1)]) [] with otp := [(0x8, 1), (0x10, 2), (0x11, 4), (0x160, 7)] }, cmdOf 0x31 [(5, 1, 1)], by decide +kernel⟩,
   ⟨7, { qst (cmdOf 0x31 [(5, 1, 1)]) [] with otp := [(0x8, 1), (0x10, 2), (0x160, 7)] }, cmdOf 0x31 [(5, 1, 1)], by decide +kernel⟩,
   ⟨7, { qst (cmdOf 0x32 [(5, 1, 1)]) [] with otp := [(0x8, 1), (0x10, 2), (0x11, 4), (0x160, 7)] }, cmdOf 0x32 [(5, 1, 1)], by decide +kernel⟩,
   ⟨7, { qst (cmdOf 0x32 [(5, 1, 2)]) [] with otp := [(0x8, 1), (0x10, 2), (0x11, 4), (0x160, 7)] }, cmdOf 0x32 [(5, 1, 2)], by decide +kernel⟩,
   ⟨7, qst (cmdOf 0x33 [(8, 2, 5)]) [(Fld.SEC_SVN.LOADED, 0, 4)], cmdOf 0x33 [(8, 2, 5)], by decide +kernel⟩,
   ⟨7, qst (cmdOf 0x33 [(8, 2, 4)]) [(Fld.SEC_SVN.LOADED, 0, 4)], cmdOf 0x33 [(8, 2, 4)], by decide +kernel⟩,
   ⟨7, { tag := some 7, addr := 0x014, bytes := toBytes 4 4 }, cmdOf 0x32 [(5, 1, 2)], { qst (cmdOf 0x32 [(5, 1, 2)]) [] with sec := { otpOp := some { tag := some 7, addr := 0x014, bytes := toBytes 4 4 } }, otp := [(0x8, 1), (0x10, 2), (0x11, 4), (0x160, 7)] }, by decide +kernel⟩,
   ⟨7, { tag := some 7, addr := 0x018, bytes := toBytes 15 32 }, cmdOf 0x33 [(8, 2, 4)], { qst (cmdOf 0x33 [(8, 2, 4)]) [] with sec := { otpOp := some { tag := some 7, addr := 0x018, bytes := toBytes 15 32 } } }, by decide +kernel⟩,
   ⟨7, { tag := some 7, addr := 0x014, bytes := toBytes 4 4 }, cmdOf 0x32 [(5, 1, 2)], [0, 0, 0, 0], { qst (cmdOf 0x32 [(5, 1, 2)]) [] with sec := { otpOp := some { tag := some 7, addr := 0x014, bytes := toBytes 4 4 } }, otp := [(0x8, 1), (0x10, 2), (0x11, 4), (0x160, 7)] }, by decide +kernel⟩⟩

/-- The premises of CriticalCommandsAreCheckedAndImagesReplaced can be met. -/
theorem test_premises_critical_commands_are_checked_and_images_replaced :
    (∃ (tag : Nat) (c : Cmd) (s : State), (s.cmd tag = some c) ∧ (c.stage = .keeper) ∧ (s.keeperTurn tag = true) ∧ (s.takesCompletion c = true) ∧ ((s.sec.locked.any fun e => e.1 == c.ins) = true)) ∧
    (∃ (tag : Nat) (c : Cmd) (s : State), (s.cmd tag = some c) ∧ (c.stage = .keeper) ∧ (s.keeperTurn tag = true) ∧ (s.takesCompletion c = true) ∧ ((s.sec.locked.any fun e => e.1 == c.ins) = false) ∧ (s.tagMatches c = false)) ∧
    (∃ (tag : Nat) (c : Cmd) (s : State), (s.cmd tag = some c) ∧ (c.stage = .keeper) ∧ (s.keeperTurn tag = true) ∧ (s.takesCompletion c = true) ∧ ((s.sec.locked.any fun e => e.1 == c.ins) = false) ∧ (s.tagMatches c = true) ∧ (s.bit Fld.SEC_STATUS.FLOOR_UNKNOWN = true ∨ c.counter ≤ s.floor ∨ s.floor + 2 ^ 32 < c.counter)) ∧
    (∃ (tag : Nat) (c : Cmd) (s : State), (s.cmd tag = some c) ∧ (c.stage = .keeper) ∧ (s.keeperTurn tag = true) ∧ ((s.sec.locked.any fun e => e.1 == c.ins) = false) ∧ (s.tagMatches c = true) ∧ (s.bit Fld.SEC_STATUS.FLOOR_UNKNOWN = false) ∧ (s.floor < c.counter) ∧ (c.counter ≤ s.floor + 2 ^ 32) ∧ (c.counter ≤ s.ceiling) ∧ (s.check4 c = .ready)) ∧
    (∃ (tag : Nat) (c : Cmd) (s : State), (s.cmd tag = some c) ∧ (c.stage = .keeper) ∧ (s.keeperTurn tag = true) ∧ ((s.sec.locked.any fun e => e.1 == c.ins) = false) ∧ (s.tagMatches c = true) ∧ (s.bit Fld.SEC_STATUS.FLOOR_UNKNOWN = false) ∧ (s.floor < c.counter) ∧ (c.counter ≤ s.floor + 2 ^ 32) ∧ (s.ceiling < c.counter)) ∧
    (∃ (tag : Nat) (j : KeeperOp) (c : Cmd) (s : State), (s.sec.journal = some j) ∧ (j.tag = some tag) ∧ (s.cmd tag = some c)) ∧
    (∃ (tag : Nat) (j : KeeperOp) (c : Cmd) (s : State), (s.sec.journal = some j) ∧ (j.tag = some tag) ∧ (s.cmd tag = some c) ∧ (s.takesCompletion c = true)) ∧
    (∃ (i e : Nat) (s : State), (s.sec.locked.lookup i = some e) ∧ (s.reaches e = true)) ∧
    (∃ (tag : Nat) (s : State) (c : Cmd), (s.startable tag 0x39 = some c) ∧ (s.takesCompletion c = true)) ∧
    (∃ (tag : Nat) (s : State) (c : Cmd), (s.startable tag 0x34 = some c) ∧ (s.sec.flashOp = none) ∧ (c.at 8 4 % 4096 ≠ 0 ∨ s.flashSize < c.at 8 4 + c.at 12 4 ∨ bytesMeet (c.at 8 4) (c.at 12 4) 0x2000 0x2000 = true ∨ bytesMeet (c.at 8 4) (c.at 12 4) s.almRange.1 s.almRange.2 = true) ∧ (s.takesCompletion c = true)) ∧
    (∃ (tag : Nat) (s : State) (c : Cmd), (s.startable tag 0x34 = some c) ∧ (s.sec.flashOp = none) ∧ (c.at 8 4 % 4096 = 0) ∧ (c.at 8 4 + c.at 12 4 ≤ s.flashSize) ∧ (bytesMeet (c.at 8 4) (c.at 12 4) 0x2000 0x2000 = false) ∧ (bytesMeet (c.at 8 4) (c.at 12 4) s.almRange.1 s.almRange.2 = false) ∧ (c.flag 1 = false) ∧ (s.canIssue (s.insFn c.ins) = true)) ∧
    (∃ (tag : Nat) (s : State) (c : Cmd), (s.startable tag 0x35 = some c) ∧ (s.sec.flashOp = none) ∧ (c.at 4 1 ≤ 1)) ∧
    (∃ (tag : Nat) (o : KeeperOp) (c : Cmd) (s : State), (s.sec.flashOp = some o) ∧ (o.tag = some tag) ∧ (s.cmd tag = some c) ∧ (s.takesCompletion c = true) ∧ (c.opcode = 0x34)) ∧
    (∃ (tag : Nat) (o : KeeperOp) (c : Cmd) (s : State), (s.sec.flashOp = some o) ∧ (o.tag = some tag) ∧ (s.cmd tag = some c) ∧ (s.takesCompletion c = true) ∧ (c.opcode = 0x35)) ∧
    (∃ (tag : Nat) (o : KeeperOp) (c : Cmd) (s : State), (s.sec.flashOp = some o) ∧ (o.tag = some tag) ∧ (s.cmd tag = some c) ∧ (s.takesCompletion c = true) ∧ (s.reaches (o.flag + 5000000000) = true)) ∧
    (∃ (tag : Nat) (s : State) (c : Cmd), (s.startable tag 0x36 = some c) ∧ (s.sec.flashOp = none) ∧ (c.at 4 1 ≤ 1) ∧ (s.takesCompletion c = true)) ∧
    (∃ (e : Nat) (s : State), (s.boot.warmAt = some e) ∧ (s.reaches e = true)) ∧
    (∃ (tag : Nat) (s : State) (c : Cmd), (s.startable tag 0x37 = some c) ∧ (s.mayMove (c.at 4 1) = false) ∧ (s.takesCompletion c = true)) ∧
    (∃ (tag : Nat) (s : State) (c : Cmd), (s.startable tag 0x37 = some c) ∧ (s.mayMove (c.at 4 1) = true) ∧ (s.takesCompletion c = true)) ∧
    (∃ (e g : Nat) (s : State), (s.sec.lifeAt = some (e, g)) ∧ (s.reaches e = true) ∧ (s.sec.flashOp = none) ∧ (1 ≤ g) ∧ (g ≤ 4)) ∧
    (∃ (tag : Nat) (s : State) (c : Cmd), (s.startable tag 0x38 = some c) ∧ (s.takesCompletion c = true)) ∧
    (∃ (e : Nat) (s : State), (s.sec.zeroAt = some e) ∧ (s.reaches e = true) ∧ (s.sec.flashOp = none)) :=
  ⟨⟨7, { cmdOf 0x37 [] with stage := .keeper }, { qst { cmdOf 0x37 [] with stage := .keeper } [] with sec := { locked := [(0, 5)] } }, by decide +kernel⟩,
   ⟨7, { cmdOf 0x37 [] with stage := .keeper }, qst { cmdOf 0x37 [] with stage := .keeper } [], by decide +kernel⟩,
   ⟨7, kCmd 5, kState 5 5 9, ⟨rfl, rfl, by decide +kernel, by decide +kernel, by decide +kernel, kTag _ (by decide +kernel) (by decide +kernel), by decide +kernel⟩⟩,
   ⟨7, kCmd 5, kState 5 4 9, ⟨rfl, rfl, by decide +kernel, by decide +kernel, kTag _ (by decide +kernel) (by decide +kernel), by decide +kernel, by decide +kernel, by decide +kernel, by decide +kernel, by decide +kernel⟩⟩,
   ⟨7, kCmd 5, kState 5 3 4, ⟨rfl, rfl, by decide +kernel, by decide +kernel, kTag _ (by decide +kernel) (by decide +kernel), by decide +kernel, by decide +kernel, by decide +kernel, by decide +kernel⟩⟩,
   ⟨7, { tag := some 7, flag := 65541 }, { cmdOf 0x37 [] with stage := .keeper }, { qst { cmdOf 0x37 [] with stage := .keeper } [] with sec := { journal := some { tag := some 7, flag := 65541 } } }, by decide +kernel⟩,
   ⟨7, { tag := some 7 }, { cmdOf 0x37 [] with stage := .keeper }, { qst { cmdOf 0x37 [] with stage := .keeper } [] with sec := { journal := some { tag := some 7 } } }, by decide +kernel⟩,
   ⟨3, 50, { State.reset with sec := { locked := [(3, 50)] } }, by decide +kernel⟩,
   ⟨7, qst (cmdOf 0x39 []) [(Fld.SEC_COUNTER_HI.FLOOR_HI, 0, 3), (Fld.SEC_COUNTER_LO.FLOOR_LO, 0, 4)], cmdOf 0x39 [], by decide +kernel⟩,
   ⟨7, qst (cmdOf 0x34 [(8, 4, 0x2000), (12, 4, 16)]) [(Fld.NVM_FLASH.SIZE_MIB, 0, 16)], cmdOf 0x34 [(8, 4, 0x2000), (12, 4, 16)], by decide +kernel⟩,
   ⟨7, qst (cmdOf 0x34 [(8, 4, 0x10000), (12, 4, 16)]) [(Fld.NVM_FLASH.SIZE_MIB, 0, 16)], cmdOf 0x34 [(8, 4, 0x10000), (12, 4, 16)], by decide +kernel⟩,
   ⟨7, qst (cmdOf 0x35 [(4, 1, 1)]) [], cmdOf 0x35 [(4, 1, 1)], by decide +kernel⟩,
   ⟨7, { tag := some 7, addr := 0x10000, bytes := [1, 2, 3] }, cmdOf 0x34 [], { qst (cmdOf 0x34 []) [] with sec := { flashOp := some { tag := some 7, addr := 0x10000, bytes := [1, 2, 3] } } }, by decide +kernel⟩,
   ⟨7, { tag := some 7 }, cmdOf 0x35 [], { qst (cmdOf 0x35 []) [] with sec := { flashOp := some { tag := some 7 } } }, by decide +kernel⟩,
   ⟨7, { tag := some 7 }, cmdOf 0x35 [], { qst (cmdOf 0x35 []) [] with sec := { flashOp := some { tag := some 7 } } }, by decide +kernel⟩,
   ⟨7, qst (cmdOf 0x36 [(4, 1, 1)]) [], cmdOf 0x36 [(4, 1, 1)], by decide +kernel⟩,
   ⟨5, { State.reset with boot := { warmAt := some 5 } }, by decide +kernel⟩,
   ⟨7, qst (cmdOf 0x37 [(4, 1, 2)]) [], cmdOf 0x37 [(4, 1, 2)], by decide +kernel⟩,
   ⟨7, qst (cmdOf 0x37 [(4, 1, 4)]) [], cmdOf 0x37 [(4, 1, 4)], by decide +kernel⟩,
   ⟨5, 2, { State.reset with sec := { lifeAt := some (5, 2) } }, by decide +kernel⟩,
   ⟨7, qst (cmdOf 0x38 []) [], cmdOf 0x38 [], by decide +kernel⟩,
   ⟨5, { State.reset with sec := { zeroAt := some 5 }, tcm := [(4, 1)] }, by decide +kernel⟩⟩

/-- The premises of WornUnitsAreSwapped can be met. -/
theorem test_premises_worn_units_are_swapped :
    (∃ (kind unit row : Nat) (s : State), (s.chron / windowNs ≠ s.alm.windowAt)) ∧
    (∃ (kind unit row : Nat) (s : State), (s.chron / windowNs = s.alm.windowAt) ∧ (s.reaches (s.whenChron ((s.chron / windowNs + 1) * windowNs)) = true)) ∧
    (∃ (unit value : Nat) (s : State), (unit < 18)) ∧
    (∃ (unit value : Nat) (s : State), (unit < 21) ∧ (∀ n ∈ s.laneOfSlice unit, s.lstate n ≠ Ls.up)) ∧
    (∃ (unit n : Nat) (s : State), (unitExists 2 unit 0 = true) ∧ ((s.almRec 2 unit 0).pending = true) ∧ (s.unitInUse 2 unit 0 = true) ∧ ((s.alm.busy.any fun w => almKey w.kind w.unit w.row == almKey 2 unit 0) = false) ∧ (s.spareFor 2 unit = some n) ∧ (s.chanRuns unit = false) ∧ (s.chanState unit = Fn.off) ∧ (s.fld Fld.DMA_CH_STATUS.LOGICAL unit < 2 ^ Fld.DMA_CH_STATUS.LOGICAL.w)) ∧
    (∃ (unit n : Nat) (s : State), (unitExists 3 unit 0 = true) ∧ ((s.almRec 3 unit 0).pending = true) ∧ (s.unitInUse 3 unit 0 = true) ∧ ((s.alm.busy.any fun w => almKey w.kind w.unit w.row == almKey 3 unit 0) = false) ∧ (s.spareFor 3 unit = some n) ∧ (∀ k ∈ s.laneOfSlice unit, s.lstate k ≠ Ls.up)) ∧
    (∃ (unit n : Nat) (s : State), (unitExists 1 unit 0 = true) ∧ ((s.almRec 1 unit 0).pending = true) ∧ (s.unitInUse 1 unit 0 = true) ∧ ((s.alm.busy.any fun w => almKey w.kind w.unit w.row == almKey 1 unit 0) = false) ∧ (s.spareFor 1 unit = some n) ∧ (s.domGood (helmDomain n) = true) ∧ (s.helmState unit = Fn.off)) ∧
    (∃ (unit row n : Nat) (s : State), (unitExists 4 unit row = true) ∧ ((s.almRec 4 unit row).pending = true) ∧ (s.unitInUse 4 unit row = true) ∧ ((s.alm.busy.any fun w => almKey w.kind w.unit w.row == almKey 4 unit row) = false) ∧ (s.spareFor 4 unit = some n)) ∧
    (∃ (kind unit : Nat) (s : State), (unitExists kind unit 0 = true) ∧ (s.alm.units = [(almKey kind unit 0, { pending := true })]) ∧ (s.unitInUse kind unit 0 = true) ∧ (s.alm.busy = []) ∧ (s.spareFor kind unit = none)) ∧
    (∃ (h : Nat) (w : AlmSwap) (r : Bool) (s : State), ((s.alm.busy.find? fun w => w.kind == 1 && w.unit == h) = some w) ∧ (w.new < 18) ∧ (h < 18) ∧ (w.new ≠ h)) ∧
    (∃ (array row : Nat) (w : AlmSwap) (s : State), ((s.alm.busy.find? fun w => w.kind == 4 && w.unit == array && w.row == row) = some w)) ∧
    (∃ (tag : Nat) (s : State) (c : Cmd), (s.startable tag 0x58 = some c) ∧ (c.at 4 1 = 0 ∨ 3 < c.at 4 1 ∨ 1 < c.at 6 1 ∨ unitExists (c.at 4 1) (c.at 5 1) 0 = false ∨ s.unitInUse (c.at 4 1) (c.at 5 1) 0 = false) ∧ (s.takesCompletion c = true)) ∧
    (∃ (tag : Nat) (s : State) (c : Cmd), (s.startable tag 0x58 = some c) ∧ (1 ≤ c.at 4 1) ∧ (c.at 4 1 ≤ 3) ∧ (c.at 6 1 ≤ 1) ∧ (unitExists (c.at 4 1) (c.at 5 1) 0 = true) ∧ (s.unitInUse (c.at 4 1) (c.at 5 1) 0 = true) ∧ (s.spareFor (c.at 4 1) (c.at 5 1) = none) ∧ ((s.alm.busy.any fun w => w.kind == c.at 4 1 && w.unit == c.at 5 1) = false) ∧ (s.takesCompletion c = true)) ∧
    (∃ (tag : Nat) (s : State) (c : Cmd), (s.startable tag 0x58 = some c) ∧ (1 ≤ c.at 4 1) ∧ (c.at 4 1 ≤ 3) ∧ (c.at 6 1 ≤ 1) ∧ (unitExists (c.at 4 1) (c.at 5 1) 0 = true) ∧ (s.unitInUse (c.at 4 1) (c.at 5 1) 0 = true) ∧ ((s.spareFor (c.at 4 1) (c.at 5 1)).isSome = true)) :=
  ⟨⟨4, 3, 9, { st [] with alm := { windowAt := 9, units := [(262921, { window := 5, life := 6 })] } }, by decide +kernel⟩,
   ⟨4, 3, 9, { st [] with alm := { units := [(262921, { window := 5, life := 6 })] } }, by decide +kernel⟩,
   ⟨3, 70000, { st [] with alm := {  } }, by decide +kernel⟩,
   ⟨5, 90, { st [] with alm := {  } }, by decide +kernel⟩,
   ⟨5, 64, { st [] with alm := { units := [(132352, { pending := true })] } }, by decide +kernel⟩,
   ⟨5, 19, { st [] with alm := { units := [(197888, { pending := true })] } }, by decide +kernel⟩,
   ⟨5, 16, { st [] with alm := { units := [(66816, { pending := true })] } }, by decide +kernel⟩,
   ⟨5, 9, 0, { st [] with alm := { units := [(263433, { pending := true })] } }, by decide +kernel⟩,
   ⟨3, 5, { st [(Fld.LNK_CDR_MAP.SLICE, 17, 19), (Fld.LNK_CDR_MAP.SLICE, 18, 20)] with alm := { units := [(197888, { pending := true })] } }, by decide +kernel⟩,
   ⟨3, { kind := 1, unit := 3, spare := 0, logical := 3 }, false, { st [] with alm := { busy := [{ kind := 1, unit := 3, spare := 0, logical := 3 }] }, tcm := [(3 * 2 ^ 32 + 8, 5)] }, by decide +kernel⟩,
   ⟨3, 9, { kind := 4, unit := 3, row := 9, spare := 1 }, { st [] with alm := { busy := [{ kind := 4, unit := 3, row := 9, spare := 1 }] } }, by decide +kernel⟩,
   ⟨7, qst (cmdOf 0x58 [(4, 1, 1), (5, 1, 17)]) [], cmdOf 0x58 [(4, 1, 1), (5, 1, 17)], by decide +kernel⟩,
   ⟨7, qst (cmdOf 0x58 [(4, 1, 3), (5, 1, 4)]) [(Fld.LNK_CDR_MAP.SLICE, 17, 19), (Fld.LNK_CDR_MAP.SLICE, 18, 20)], cmdOf 0x58 [(4, 1, 3), (5, 1, 4)], by decide +kernel⟩,
   ⟨7, qst (cmdOf 0x58 [(4, 1, 3), (5, 1, 4)]) [], cmdOf 0x58 [(4, 1, 3), (5, 1, 4)], by decide +kernel⟩⟩

/-- The premises of RepairsAreBurnedAndRecordsSaved can be met. -/
theorem test_premises_repairs_are_burned_and_records_saved :
    (∃ (w : AlmSwap) (rest : List AlmSwap) (k : Nat) (ks : List Nat) (s : State), (s.alm.unburned = w :: rest) ∧ (s.bit Fld.ALM_CFG.AUTO_BURN = true) ∧ (s.alm.burnTag = none) ∧ (s.sec.otpOp = none) ∧ (s.lifeCycle ≠ 4) ∧ (s.otpBlank = k :: ks)) ∧
    (∃ (w : AlmSwap) (rest : List AlmSwap) (k : Nat) (ks : List Nat) (b : List Byte) (s : State), (s.alm.unburned = w :: rest) ∧ (s.bit Fld.ALM_CFG.AUTO_BURN = true) ∧ (s.alm.burnTag = none) ∧ (s.sec.otpOp = none) ∧ (s.lifeCycle ≠ 4) ∧ (s.otpBlank = k :: ks) ∧ (b.length = 8) ∧ (b ≠ w.entry)) ∧
    (∃ (tag : Nat) (s : State) (c : Cmd), (s.startable tag 0x59 = some c) ∧ (s.alm.burnTag = none) ∧ (s.lifeCycle = 4) ∧ (s.takesCompletion c = true)) ∧
    (∃ (tag : Nat) (s : State) (c : Cmd), (s.startable tag 0x59 = some c) ∧ (s.alm.burnTag = none) ∧ (s.lifeCycle ≠ 4) ∧ (s.otpBlank ≠ []) ∧ (s.alm.unburned = []) ∧ (s.takesCompletion c = true)) ∧
    (∃ (tag : Nat) (s : State) (c : Cmd), (s.startable tag 0x59 = some c) ∧ (s.alm.burnTag = none) ∧ (s.lifeCycle ≠ 4) ∧ (s.otpBlank ≠ []) ∧ (s.alm.unburned ≠ [])) ∧
    (∃ (tag : Nat) (s : State) (c : Cmd), (s.startable tag 0x5A = some c) ∧ (c.at 4 1 ≠ 4) ∧ (unitExists (c.at 4 1) (c.at 5 1) 0 = true) ∧ (s.canIssue (s.insFn c.ins) = true) ∧ (s.takesCompletion c = true)) ∧
    (∃ (tag : Nat) (s : State) (c : Cmd), (s.startable tag 0x5A = some c) ∧ (c.at 4 1 ≠ 4) ∧ (unitExists (c.at 4 1) (c.at 5 1) 0 = false) ∧ (s.takesCompletion c = true)) ∧
    (∃ (tag : Nat) (s : State) (c : Cmd), (s.startable tag 0x5B = some c)) ∧
    (∃ (s : State), (s.alm.saving = none) ∧ (s.reaches ((s.alm.saveAt + 60000 * max 1 (s.fld Fld.ALM_CFG.SAVE_MIN)) * 1000000) = true)) ∧
    (∃ (tag : Nat) (c : Cmd) (s : State), (s.alm.saving = some [tag]) ∧ (s.alm.saveDue = false) ∧ (s.cmd tag = some c) ∧ (s.takesCompletion c = true) ∧ (s.bootDescriptor.isSome = true)) ∧
    (∃ (tag : Nat) (c : Cmd) (s : State), (s.alm.saving = some [tag]) ∧ (s.alm.saveDue = false) ∧ (s.cmd tag = some c) ∧ (s.takesCompletion c = true)) :=
  ⟨⟨{ kind := 4, unit := 3, row := 9, spare := 1 }, [], 0, (List.range 383).map (· + 1), { st [(Fld.ALM_CFG.AUTO_BURN, 0, 1)] with alm := { unburned := [{ kind := 4, unit := 3, row := 9, spare := 1 }] } }, by decide +kernel⟩,
   ⟨{ kind := 4, unit := 3, row := 9, spare := 1 }, [], 0, (List.range 383).map (· + 1), [1, 2, 3, 4, 5, 6, 7, 8], { st [(Fld.ALM_CFG.AUTO_BURN, 0, 1)] with alm := { unburned := [{ kind := 4, unit := 3, row := 9, spare := 1 }] } }, by decide +kernel⟩,
   ⟨7, { qst (cmdOf 0x59 []) [] with otp := [(8, 8)] }, cmdOf 0x59 [], by decide +kernel⟩,
   ⟨7, qst (cmdOf 0x59 []) [], cmdOf 0x59 [], by decide +kernel⟩,
   ⟨7, { qst (cmdOf 0x59 []) [] with alm := { unburned := [{ kind := 4, unit := 3, row := 9, spare := 1 }] } }, cmdOf 0x59 [], by decide +kernel⟩,
   ⟨7, qst (cmdOf 0x5A [(4, 1, 1), (5, 1, 4), (8, 4, 0x3000)]) [], cmdOf 0x5A [(4, 1, 1), (5, 1, 4), (8, 4, 0x3000)], by decide +kernel⟩,
   ⟨7, qst (cmdOf 0x5A [(4, 1, 1), (5, 1, 18)]) [], cmdOf 0x5A [(4, 1, 1), (5, 1, 18)], by decide +kernel⟩,
   ⟨7, qst (cmdOf 0x5B []) [], cmdOf 0x5B [], by decide +kernel⟩,
   ⟨{ st [] with alm := {  } }, by decide +kernel⟩,
   ⟨7, cmdOf 0x5B [], { qst (cmdOf 0x5B []) [] with flash := flashA, alm := { saving := some [7] } }, by decide +kernel⟩,
   ⟨7, cmdOf 0x5B [], { qst (cmdOf 0x5B []) [] with alm := { saving := some [7] } }, by decide +kernel⟩⟩

/-- The premises of ResetsBeginAndEnd can be met. -/
theorem test_premises_resets_begin_and_end :
    (∃ (v : Nat) (s : State), (s.sec.flashOp = none) ∧ (s.sec.otpOp = none) ∧ (s.sec.journal = none)) ∧
    (∃ (s : State), (s.sec.flashOp = none) ∧ (s.sec.otpOp = none) ∧ (s.sec.journal = none)) ∧
    (∃ (s : State), (s.pwr.phase ≠ .fault) ∧ (¬(s.pwr.phase = .asleep ∧ s.pstate = 3)) ∧ (¬(s.bit Fld.PWR_STATE.ENTRY_BUSY = true ∧ s.fld Fld.PWR_STATE.TARGET = 3))) ∧
    (∃ (s : State), (s.pwr.phase = .asleep) ∧ (s.pstate = 3)) ∧
    (∃ (s : State), (s.pwr.phase = .fault)) ∧
    (∃ (s : State), (s.fld Fld.NVM_STATUS.STATE ≠ 1) ∧ (s.sec.flashOp = none) ∧ (s.sec.otpOp = none) ∧ (s.sec.journal = none)) ∧
    (∃ (s : State), (s.fld Fld.NVM_STATUS.STATE = 1)) ∧
    (∃ (v : Nat) (s : State), (s.pwr.phase = .reset false)) ∧
    (∃ (v : Nat) (s : State), (s.pwr.phase = .reset true) ∧ (s.reaches (s.pwr.since + 50000) = true)) :=
  ⟨⟨6, { st [(Fld.CHT_STATUS.RUNNING, 0, 1)] with pwr := { phase := .run, left := 0, powerUp := false, scratch := [(3, 4)] } }, by decide +kernel⟩,
   ⟨{ st [(Fld.CHT_STATUS.RUNNING, 0, 1)] with pwr := { phase := .run, left := 0, powerUp := false, scratch := [(3, 4)] } }, by decide +kernel⟩,
   ⟨{ st [(Fld.GBL_PCIE_STATUS.LINK_UP, 0, 1)] with boot := { cfgReady := true }, pwr := { phase := .run, left := 0, powerUp := false }, fns := [(0, { bme := true }), (3, { bme := true })] }, by decide +kernel⟩,
   ⟨{ st [(Fld.PWR_STATE.CUR, 0, 3)] with pwr := { phase := .asleep, left := 0, powerUp := false } }, by decide +kernel⟩,
   ⟨{ st [] with pwr := { phase := .fault } }, by decide +kernel⟩,
   ⟨{ st [(Fld.NVM_STATUS.STATE, 0, 2)] with pwr := { phase := .run, left := 0, powerUp := false, scratch := [(3, 4)] } }, by decide +kernel⟩,
   ⟨{ st [(Fld.NVM_STATUS.STATE, 0, 1)] with pwr := { phase := .run, left := 0, powerUp := false } }, by decide +kernel⟩,
   ⟨7, { st [] with pwr := { phase := .reset false } }, by decide +kernel⟩,
   ⟨7, { st [] with pwr := { phase := .reset true } }, by decide +kernel⟩⟩

/-- The premises of TheKeeperBoots can be met. -/
theorem test_premises_the_keeper_boots :
    (∃ (answers : Bool) (n : Nat) (s : State), (s.boot.keeper = true) ∧ (s.pwr.phase = .run) ∧ (s.boot.only = none) ∧ (s.fld Fld.NVM_STATUS.STRAPS = 1)) ∧
    (∃ (n : Nat) (s : State), (s.boot.keeper = true) ∧ (s.pwr.phase = .run) ∧ (s.boot.only = none) ∧ (s.fld Fld.NVM_STATUS.STRAPS ≠ 1) ∧ (16 ≤ n) ∧ (n ≤ 256)) ∧
    (∃ (n : Nat) (s : State), (s.boot.keeper = true) ∧ (s.pwr.phase = .run) ∧ (s.boot.only = none) ∧ (s.fld Fld.NVM_STATUS.STRAPS ≠ 1)) ∧
    (∃ (answers : Bool) (x : Nat) (s : State), (s.boot.slot = some x) ∧ (s.fld Fld.NVM_STATUS.STATE = 1) ∧ (s.boot.verified = false) ∧ (s.boot.index = 0)) ∧
    (∃ (answers : Bool) (x : Nat) (s : State), (s.boot.slot = some x) ∧ (s.fld Fld.NVM_STATUS.STATE = 1) ∧ (s.boot.verified = true) ∧ (s.boot.rest = none) ∧ (s.boot.index < s.slotSections x)) ∧
    (∃ (answers : Bool) (x u : Nat) (bs : List Byte) (s : State), (s.boot.slot = some x) ∧ (s.boot.verified = true) ∧ (s.boot.rest = some (u, bs)) ∧ (s.reaches u = true) ∧ (s.boot.index < s.slotSections x)) :=
  ⟨⟨true, 32, { st [(Fld.NVM_STATUS.STRAPS, 0, 1)] with boot := { keeper := true }, pwr := { phase := .run, left := 0, powerUp := false } }, by decide +kernel⟩,
   ⟨32, { st [] with boot := { keeper := true }, pwr := { phase := .run, left := 0, powerUp := false }, flash := flashA }, by decide +kernel⟩,
   ⟨32, { st [] with boot := { keeper := true }, pwr := { phase := .run, left := 0, powerUp := false }, flash := flashA }, by decide +kernel⟩,
   ⟨true, 0, { st [(Fld.NVM_STATUS.STATE, 0, 1)] with boot := { slot := some 0 }, pwr := { phase := .run, left := 0, powerUp := false }, flash := flashA }, by decide +kernel⟩,
   ⟨true, 0, { st [(Fld.NVM_STATUS.STATE, 0, 1)] with boot := { slot := some 0, verified := true, index := 1 }, pwr := { phase := .run, left := 0, powerUp := false }, flash := flashB }, by decide +kernel⟩,
   ⟨true, 0, 5, [], { st [(Fld.NVM_STATUS.STATE, 0, 1)] with boot := { slot := some 0, verified := true, index := 1, rest := some (5, []) }, pwr := { phase := .run, left := 0, powerUp := false }, flash := flashB }, by decide +kernel⟩⟩

/-- The premises of TheHaltLineAndTheHostAttach can be met. -/
theorem test_premises_the_halt_line_and_the_host_attach :
    (∃ (e : Nat) (s : State), (s.halt.lowSince = some e) ∧ (s.bit Fld.NVM_HALT_CFG.IN_EN = true) ∧ (s.bit Fld.NVM_HALT_STATUS.DRIVING = false) ∧ (s.pin 8 = false) ∧ (s.reaches (max e (s.halt.releasedAt + 1000) + 200) = true)) :=
  ⟨50, { st [(Fld.NVM_HALT_CFG.IN_EN, 0, 1), (Fld.NVM_HALT_STATUS.DRIVING, 0, 0)] with halt := { lowSince := some 50 }, icu := { pins := [(8, false)] } }, by decide +kernel⟩

/-- The premises of TheWatchdogExpiresUnlessKicked can be met. -/
theorem test_premises_the_watchdog_expires_unless_kicked :
    (∃ (s : State), (s.wdtAt.any (fun e => decide (e ≤ s.chr.ns)) = false)) ∧
    (∃ (v : Nat) (s : State), (v ≠ 0x6416)) ∧
    (∃ (v : Nat) (s : State), (v < 2 ^ 32) ∧ (s.pstate = 0) ∧ ((s.fn 0).mse = true) ∧ ((s.fn 0).dstate = 0) ∧ (s.wdtAt.any (fun e => decide (e ≤ s.chr.ns)) = false)) ∧
    (∃ (v : Nat) (s : State), (v < 2 ^ 32) ∧ (s.pstate ≤ 1) ∧ (s.bit Fld.NVM_CTRL.HOST_ATTACH = false) ∧ (s.wdtAt.any (fun e => decide (e ≤ s.chr.ns)) = false)) ∧
    (∃ (s : State), (s.fld Fld.NVM_WDT_CFG.PERIOD_MS ≠ 0) ∧ (s.reaches (s.halt.kickedAt + s.fld Fld.NVM_WDT_CFG.PERIOD_MS * 1000000) = true)) ∧
    (∃ (s : State), (s.fld Fld.NVM_WDT_CFG.PERIOD_MS = 0)) :=
  ⟨⟨st [], by decide +kernel⟩,
   ⟨0x6417, st [], by decide +kernel⟩,
   ⟨0x6416, { st [] with fns := [(0, { mse := true })] }, by decide +kernel⟩,
   ⟨0x6416, st [], by decide +kernel⟩,
   ⟨st [(Fld.NVM_WDT_CFG.PERIOD_MS, 0, 5)], by decide +kernel⟩,
   ⟨st [], by decide +kernel⟩⟩

/-- The premises of TheEndpointAnswersItsHost can be met. -/
theorem test_premises_the_endpoint_answers_its_host :
    (∃ (s : State), (s.bit Fld.GBL_PCIE_STATUS.VF_ENABLE = true)) ∧
    (∃ (s : State), (s.bit Fld.GBL_PCIE_STATUS.VF_ENABLE = false)) ∧
    (∃ (fn : Nat) (s : State), (fn < 256)) ∧
    (∃ (fn : Nat) (r : Bool) (s : State), (fn < 256)) ∧
    (∃ (fn v : Nat) (s : State), (fn < 256) ∧ (s.functionThere fn = true) ∧ (v < 2 ^ 32) ∧ (fn = 0) ∧ (s.bit Fld.GBL_PCIE_STATUS.VF_ENABLE = false) ∧ (v ≤ 255)) ∧
    (∃ (fn v : Nat) (s : State), (fn < 256) ∧ (s.functionThere fn = true) ∧ (v < 2 ^ 32) ∧ (fn = 0) ∧ (bitAt v 0 = true)) ∧
    (∃ (fn v : Nat) (s : State), (fn < 256) ∧ (s.functionThere fn = true) ∧ (v < 2 ^ 32) ∧ (fn = 0)) ∧
    (∃ (fn v : Nat) (s : State), (fn < 256) ∧ (s.functionThere fn = true) ∧ (v < 2 ^ 32) ∧ (bitAt v 31 = true)) ∧
    (∃ (fn v : Nat) (s : State), (fn < 256) ∧ (s.functionThere fn = true) ∧ (v < 2 ^ 32) ∧ (bitAt v 2 = true)) ∧
    (∃ (fn v : Nat) (s : State), (fn < 256) ∧ (s.functionThere fn = true) ∧ (v < 2 ^ 32) ∧ (bitAt v 2 = false)) ∧
    (∃ (fn v : Nat) (s : State), (fn < 256) ∧ (s.functionThere fn = true) ∧ (v < 2 ^ 32)) ∧
    (∃ (fn v : Nat) (s : State), (fn < 256) ∧ (s.functionThere fn = true) ∧ (v < 2 ^ 32)) ∧
    (∃ (fn v : Nat) (s : State), (fn < 256) ∧ (s.functionThere fn = true) ∧ (v < 2 ^ 32)) ∧
    (∃ (fn v : Nat) (s : State), (fn < 256) ∧ (s.functionThere fn = true) ∧ (v < 2 ^ 32)) ∧
    (∃ (fn v : Nat) (s : State), (fn < 256) ∧ (s.functionThere fn = true) ∧ (v < 2 ^ 32) ∧ ((s.fn fn).aerMask < 2 ^ 32)) ∧
    (∃ (fn off be v : Nat) (s : State), (fn < 256) ∧ (off < 0x1000) ∧ (off % 4 = 0) ∧ (s.functionThere fn = true)) ∧
    (∃ (be v : Nat) (s : State), (s.functionThere 0 = true)) ∧
    (∃ (be v : Nat) (s : State), (s.functionThere 0 = true)) ∧
    (∃ (fn off be v : Nat) (w : Bool) (s : State), (s.boot.cfgReady = false)) :=
  ⟨⟨{ st [(Fld.GBL_PCIE_STATUS.VF_ENABLE, 0, 1)] with fns := [(0, { mse := true }), (4, { mse := true })] }, by decide +kernel⟩,
   ⟨st [], by decide +kernel⟩,
   ⟨4, st [], by decide +kernel⟩,
   ⟨4, true, st [], by decide +kernel⟩,
   ⟨0, 12, { st [] with boot := { cfgReady := true } }, by decide +kernel⟩,
   ⟨0, 9, { st [] with boot := { cfgReady := true } }, by decide +kernel⟩,
   ⟨0, 0x10000, { st [] with boot := { cfgReady := true } }, by decide +kernel⟩,
   ⟨0, 0xC0000000, { st [] with boot := { cfgReady := true } }, by decide +kernel⟩,
   ⟨0, 6, { st [] with boot := { cfgReady := true } }, by decide +kernel⟩,
   ⟨0, 2, { st [] with boot := { cfgReady := true } }, by decide +kernel⟩,
   ⟨0, 1, { st [] with boot := { cfgReady := true } }, by decide +kernel⟩,
   ⟨0, 1, { st [] with boot := { cfgReady := true } }, by decide +kernel⟩,
   ⟨0, 1, { st [] with boot := { cfgReady := true } }, by decide +kernel⟩,
   ⟨0, 1, { st [] with boot := { cfgReady := true } }, by decide +kernel⟩,
   ⟨0, 0x305, { st [] with boot := { cfgReady := true }, fns := [(0, { aerMask := 0x777 })] }, by decide +kernel⟩,
   ⟨3, 0x78, 15, 1, { st [(Fld.GBL_PCIE_STATUS.VF_ENABLE, 0, 1), (Fld.GBL_PCIE_STATUS.NUM_VFS, 0, 255)] with boot := { cfgReady := true } }, by decide +kernel⟩,
   ⟨15, 7, { st [(Fld.GBL_PCIE_STATUS.VF_ENABLE, 0, 1), (Fld.GBL_PCIE_STATUS.NUM_VFS, 0, 255)] with boot := { cfgReady := true } }, by decide +kernel⟩,
   ⟨15, 7, { st [(Fld.GBL_PCIE_STATUS.VF_ENABLE, 0, 1), (Fld.GBL_PCIE_STATUS.NUM_VFS, 0, 255)] with boot := { cfgReady := true } }, by decide +kernel⟩,
   ⟨0, 4, 15, 1, true, st [], by decide +kernel⟩⟩

/-- The premises of RegistersAreReadAndWritten can be met. -/
theorem test_premises_registers_are_read_and_written :
    (∃ (f : Field) (v : Nat) (s : State), (f ∈ fieldTable) ∧ (0x30000 ≤ f.off) ∧ (f.off < 0x34000) ∧ (f.count ≤ 1) ∧ (f.sel = .none) ∧ (s.pstate = 0) ∧ ((s.fn 0).mse = true) ∧ ((s.fn 0).dstate = 0) ∧ (s.loading = false)) ∧
    (∃ (f : Field) (v : Nat) (s : State), (f ∈ fieldTable) ∧ (0x30000 ≤ f.off) ∧ (f.off < 0x34000) ∧ (f.count ≤ 1) ∧ (f.sel = .none) ∧ (s.pstate ≤ 1)) ∧
    (∃ (f : Field) (v : Nat) (s : State), (f ∈ fieldTable) ∧ (0x30000 ≤ f.off) ∧ (f.off < 0x34000) ∧ (f.count ≤ 1) ∧ (f.sel = .none) ∧ (s.pstate = 0) ∧ ((s.fn 0).mse = true) ∧ ((s.fn 0).dstate = 0) ∧ (s.loading = true)) ∧
    (∃ (off v r n : Nat) (s : State), (s.pstate = 0) ∧ ((s.fn 0).mse = true) ∧ ((s.fn 0).dstate = 0) ∧ (off % 4 = 0) ∧ (off < 0x21000 ∨ 0x22000 ≤ off) ∧ (off < 0x40000) ∧ (s.regAt off = some (r, n)) ∧ (r ∉ [0x02008, 0x06018, 0x0E010, 0x0E040, 0x1800C, 0x1E204, 0x24120]) ∧ (∀ f ∈ fieldsAt r, f.acc ≠ .rc) ∧ (∀ d ∈ offsetDomain off, s.domGood d = true)) ∧
    (∃ (off v : Nat) (s : State), (off % 4 = 0) ∧ (off < 0x100000) ∧ (s.pstate ≤ 1) ∧ (s.bit Fld.NVM_CTRL.HOST_ATTACH = true)) ∧
    (∃ (off v : Nat) (s : State), (off % 4 = 0) ∧ (off < 0x100000) ∧ (s.pstate ≤ 1) ∧ ((s.fn 0).mse = false)) ∧
    (∃ (slot v i : Nat) (s : State), (s.pstate = 0) ∧ ((s.fn 0).mse = true) ∧ ((s.fn 0).dstate = 0) ∧ (s.loading = false) ∧ (s.viewOf 0 slot = some i)) :=
  ⟨⟨Fld.ALM_CFG.SAVE_MIN, 9, { st [(Fld.NVM_STATUS.STATE, 0, 2)] with fns := [(0, { mse := true })] }, by decide +kernel⟩,
   ⟨Fld.ALM_EVENT.SWAPPED, 0xFF, st [(Fld.ALM_EVENT.SWAPPED, 0, 1)], by decide +kernel⟩,
   ⟨Fld.ALM_CFG.SAVE_MIN, 9, { st [(Fld.NVM_STATUS.STATE, 0, 1)] with fns := [(0, { mse := true })] }, by decide +kernel⟩,
   ⟨0x34008, 0, 0x34008, 0, { st [] with fns := [(0, { mse := true })] }, by decide +kernel⟩,
   ⟨0x8000, 1, st [(Fld.NVM_CTRL.HOST_ATTACH, 0, 1)], by decide +kernel⟩,
   ⟨0x8000, 1, st [], by decide +kernel⟩,
   ⟨0, 0x3F, 0, { st [(Fld.NVM_STATUS.STATE, 0, 2), (Fld.INS_STATUS.FUNC_STATE, 0, 2), (Fld.HIC_ERR_CAUSE.LOG_LOST, 0, 1)] with fns := [(0, { mse := true })], ins := { live := [0] } }, by decide +kernel⟩⟩

/-- The premises of TheMeridianOpensATick can be met. -/
theorem test_premises_the_meridian_opens_a_tick :
    (∃ (s : State), (s.bit Fld.CHT_STATUS.RUNNING = true ∨ s.chr.runDue = true) ∧ (s.reaches (s.chr.dueNs - 128) = true) ∧ (s.standby = false)) ∧
    (∃ (s : State), (s.bit Fld.CHT_STATUS.RUNNING = true ∨ s.chr.runDue = true) ∧ (s.chr.ns ≤ s.chr.dueNs) ∧ (s.bit Fld.CHT_CTRL.RUN = true) ∧ (s.standby = false) ∧ (s.pair.handTick = none) ∧ (s.pwr.next = none)) ∧
    (∃ (s : State), (s.bit Fld.CHT_STATUS.RUNNING = true) ∧ (s.chr.ns ≤ s.chr.dueNs) ∧ (s.bit Fld.CHT_CTRL.RUN = false) ∧ (s.standby = false) ∧ (s.pwr.next = none)) ∧
    (∃ (s : State), (s.bit Fld.CHT_STATUS.RUNNING = false) ∧ (s.bit Fld.CHT_STATUS.PENDING = true) ∧ (s.reaches s.chart.dueNs = true)) ∧
    (∃ (s : State), (s.bit Fld.CHT_STATUS.RUNNING = false) ∧ (s.bit Fld.CHR_COMMIT.PENDING = true) ∧ (s.chr.domainStep = none) ∧ (s.reaches s.chr.stepDueNs = true)) ∧
    (∃ (s : State), (s.bit Fld.CHT_STATUS.RUNNING = false) ∧ (s.bit Fld.PWR_OP_STATUS.PENDING = true) ∧ (s.pwr.opTag = none) ∧ (s.reaches s.pwr.opDue = true)) :=
  ⟨⟨{ st [(Fld.CHT_STATUS.RUNNING, 0, 1), (Fld.CHT_CTRL.RUN, 0, 1), (Fld.CHT_STATUS.PENDING, 0, 1)] with chr := { tick := 6, meridNs := 1000000, ns := 1000000, dueNs := 2000000, started := true }, chart := { dueNs := 1500000 } }, by decide +kernel⟩,
   ⟨{ st [(Fld.CHT_STATUS.RUNNING, 0, 1), (Fld.CHT_CTRL.RUN, 0, 1), (Fld.LNK_STATUS.STATE, 3, 7)] with chr := { tick := 6, meridNs := 1000000, ns := 1000000, dueNs := 2000000, started := true }, halt := { next := true } }, by decide +kernel⟩,
   ⟨{ st [(Fld.CHT_STATUS.RUNNING, 0, 1)] with chr := { tick := 6, meridNs := 1000000, ns := 1000000, dueNs := 2000000, started := true } }, by decide +kernel⟩,
   ⟨{ st [(Fld.CHT_STATUS.PENDING, 0, 1)] with chart := { dueNs := 1000, bankB := [(4, { valid := true, len := 4, payload := 4, start := 10 })] } }, by decide +kernel⟩,
   ⟨{ st [(Fld.CHR_COMMIT.PENDING, 0, 1), (Fld.CHR_STEP_LO.STEP_LO, 0, 64)] with chr := { stepDueNs := 1000 } }, by decide +kernel⟩,
   ⟨{ st [(Fld.PWR_OP_STATUS.PENDING, 0, 1), (Fld.PWR_OP_FSEL.FSEL, 0, 1)] with pwr := { opDue := 1000 } }, by decide +kernel⟩⟩

/-- The premises of LegsAreSentAndReceived can be met. -/
theorem test_premises_legs_are_sent_and_received :
    (∃ (i : Nat) (b : List Byte) (s : State), (s.outLeg i = true) ∧ (∀ f ∈ (s.leg i).fixed, f.1 ≠ s.tick) ∧ (s.reaches (s.chr.meridNs + 32 * ((s.entry i).start - 2)) = true) ∧ (s.bit Fld.NVM_HALT_STATUS.ACTIVE = false) ∧ (s.pair.takeover ≠ some s.tick) ∧ (s.supply i = some b)) ∧
    (∃ (i : Nat) (s : State), (s.outLeg i = true) ∧ (∀ f ∈ (s.leg i).fixed, f.1 ≠ s.tick) ∧ (s.reaches (s.chr.meridNs + 32 * ((s.entry i).start - 2)) = true) ∧ (s.bit Fld.NVM_HALT_STATUS.ACTIVE = false) ∧ (s.pair.takeover ≠ some s.tick) ∧ (s.supply i = none)) ∧
    (∃ (i : Nat) (b : List Byte) (s : State), (s.outLeg i = true) ∧ ((s.leg i).fixed = some (s.tick, .data b)) ∧ ((s.leg i).sentTick ≠ some s.tick) ∧ (s.pair.takeover ≠ some s.tick) ∧ (s.portUp (s.entry i).port = true) ∧ (s.reaches (s.chr.meridNs + 32 * (s.entry i).start) = true)) ∧
    (∃ (i : Nat) (e : ChartEntry) (d k : Nat) (pos : Int) (frame : List Byte) (h : Header) (at_ : Nat) (s : State), (s.inLeg false i = some e) ∧ ((s.node e.node).state ≠ .quarantine) ∧ (e.dup = false) ∧ (e.trigger = 0) ∧ (s.portUp e.port = true) ∧ (Header.ofBytes frame = h) ∧ (s.gridPos e.port pos = 32 * 65536 * (k : Int)) ∧ (e.start ≤ k) ∧ (k < e.start + e.len) ∧ (k + frameSlots (s.endGen e.port) h.length ≤ e.start + e.len) ∧ (frameSlots (s.pathGen e.node) h.length ≤ e.len) ∧ (frameGood frame = true) ∧ (h.addr = e.node) ∧ (h.pipe = e.pipe) ∧ (h.inbound = true) ∧ (h.packet = false) ∧ (h.low = s.tick % 256) ∧ (h.length = e.payload) ∧ ((s.node e.node).hub = false) ∧ (s.eventNs false e.port e.start (e.start + e.len) d = some at_) ∧ (s.reaches at_ = true)) ∧
    (∃ (i : Nat) (e : ChartEntry) (d k : Nat) (pos : Int) (frame : List Byte) (h : Header) (at_ : Nat) (s : State), (s.inLeg false i = some e) ∧ ((s.node e.node).state ≠ .quarantine) ∧ (e.dup = false) ∧ (e.trigger = 0) ∧ (s.portUp e.port = true) ∧ (Header.ofBytes frame = h) ∧ (s.gridPos e.port pos = 32 * 65536 * (k : Int)) ∧ (e.start ≤ k) ∧ (k < e.start + e.len) ∧ (k + frameSlots (s.endGen e.port) h.length ≤ e.start + e.len) ∧ (frameSlots (s.pathGen e.node) h.length ≤ e.len) ∧ (headerGood frame = true) ∧ (frameGood frame = false) ∧ (s.eventNs false e.port e.start (e.start + e.len) d = some at_) ∧ (s.reaches at_ = true)) ∧
    (∃ (i : Nat) (e : ChartEntry) (d : Nat) (at_ : Nat) (s : State), (s.inLeg false i = some e) ∧ ((s.node e.node).state ≠ .quarantine) ∧ (e.dup = false) ∧ (e.trigger = 0) ∧ (s.eventNs false e.port e.start (e.start + e.len) d = some at_) ∧ (s.reaches at_ = true)) ∧
    (∃ (p slot : Nat) (pos : Int) (frame : List Byte) (s : State), (p < 16) ∧ (s.portUp p = true) ∧ (boundaryOf (s.endGen p) (pos - s.rangeShift p) = some slot) ∧ ((Header.ofBytes frame).packet = false) ∧ (s.inRange p slot = false)) :=
  ⟨⟨9, [1, 2, 3], { st [(Fld.CHT_STATUS.RUNNING, 0, 1), (Fld.CHT_CTRL.RUN, 0, 1), (Fld.LNK_STATUS.STATE, 3, 7), (Fld.LNK_STATUS.GEN, 3, 3)] with chr := { tick := 6, meridNs := 1000000, ns := 1000000, dueNs := 2000000, started := true }, chart := { bankA := [(9, { valid := true, node := 5, port := 3, start := 20, len := 4, payload := 4, trigger := 1 })], legs := [(9, { buf0 := some (6, [1, 2, 3]) })] }, tree := { nodes := [(5, { state := .active, port := 3 })] } }, by decide +kernel⟩,
   ⟨9, { st [(Fld.CHT_STATUS.RUNNING, 0, 1), (Fld.CHT_CTRL.RUN, 0, 1), (Fld.LNK_STATUS.STATE, 3, 7), (Fld.LNK_STATUS.GEN, 3, 3)] with chr := { tick := 6, meridNs := 1000000, ns := 1000000, dueNs := 2000000, started := true }, chart := { bankA := [(9, { valid := true, node := 5, port := 3, start := 20, len := 4, payload := 4, trigger := 1 })] }, tree := { nodes := [(5, { state := .active, port := 3 })] } }, by decide +kernel⟩,
   ⟨9, [1, 2, 3, 4], { st [(Fld.CHT_STATUS.RUNNING, 0, 1), (Fld.CHT_CTRL.RUN, 0, 1), (Fld.LNK_STATUS.STATE, 3, 7), (Fld.LNK_STATUS.GEN, 3, 3)] with chr := { tick := 6, meridNs := 1000000, ns := 1000000, dueNs := 2000000, started := true }, chart := { bankA := [(9, { valid := true, node := 5, port := 3, start := 20, len := 4, payload := 4, trigger := 1 })], legs := [(9, { fixed := some (6, .data [1, 2, 3, 4]) })] }, tree := { nodes := [(5, { state := .active, port := 3 })] } }, by decide +kernel⟩,
   ⟨9, { valid := true, node := 5, port := 3, start := 20, len := 4, payload := 4, inbound := true, pipe := 2 }, 700, 21, 32 * 65536 * 21 + 5, legFrame 5 2 true 6 false false false false true [1, 2, 3, 4], Header.ofBytes (legFrame 5 2 true 6 false false false false true [1, 2, 3, 4]), 1000700, { st [(Fld.CHT_STATUS.RUNNING, 0, 1), (Fld.CHT_CTRL.RUN, 0, 1), (Fld.LNK_STATUS.STATE, 3, 7), (Fld.LNK_STATUS.GEN, 3, 3)] with chr := { tick := 6, meridNs := 1000000, ns := 1000000, dueNs := 2000000, started := true }, chart := { bankA := [(9, { valid := true, node := 5, port := 3, start := 20, len := 4, payload := 4, inbound := true, pipe := 2 })] }, tree := { nodes := [(5, { state := .active, port := 3 })] } }, by decide +kernel⟩,
   ⟨9, { valid := true, node := 5, port := 3, start := 20, len := 4, payload := 4, inbound := true, pipe := 2 }, 700, 21, 32 * 65536 * 21 + 5, (legFrame 5 2 true 6 false false false false true [1, 2, 3, 4]).set 9 7, Header.ofBytes ((legFrame 5 2 true 6 false false false false true [1, 2, 3, 4]).set 9 7), 1000700, { st [(Fld.CHT_STATUS.RUNNING, 0, 1), (Fld.CHT_CTRL.RUN, 0, 1), (Fld.LNK_STATUS.STATE, 3, 7), (Fld.LNK_STATUS.GEN, 3, 3)] with chr := { tick := 6, meridNs := 1000000, ns := 1000000, dueNs := 2000000, started := true }, chart := { bankA := [(9, { valid := true, node := 5, port := 3, start := 20, len := 4, payload := 4, inbound := true, pipe := 2 })] }, tree := { nodes := [(5, { state := .active, port := 3 })] } }, by decide +kernel⟩,
   ⟨9, { valid := true, node := 5, port := 3, start := 20, len := 4, payload := 4, inbound := true, pipe := 2 }, 780, 1000780, { st [(Fld.CHT_STATUS.RUNNING, 0, 1), (Fld.CHT_CTRL.RUN, 0, 1), (Fld.LNK_STATUS.STATE, 3, 7), (Fld.LNK_STATUS.GEN, 3, 3)] with chr := { tick := 6, meridNs := 1000000, ns := 1000000, dueNs := 2000000, started := true }, chart := { bankA := [(9, { valid := true, node := 5, port := 3, start := 20, len := 4, payload := 4, inbound := true, pipe := 2 })] }, tree := { nodes := [(5, { state := .active, port := 3 })] } }, by decide +kernel⟩,
   ⟨3, 50, 32 * 65536 * 50 - 7, legFrame 5 2 true 6 false false false false true [1, 2, 3, 4], { st [(Fld.CHT_STATUS.RUNNING, 0, 1), (Fld.CHT_CTRL.RUN, 0, 1), (Fld.LNK_STATUS.STATE, 3, 7), (Fld.LNK_STATUS.GEN, 3, 3)] with chr := { tick := 6, meridNs := 1000000, ns := 1000000, dueNs := 2000000, started := true }, chart := { bankA := [(9, { valid := true, node := 5, port := 3, start := 20, len := 4, payload := 4, inbound := true })] }, tree := { nodes := [(5, { state := .active, port := 3 })] } }, by decide +kernel⟩⟩

/-! ### Ill-formed commands are refused, one for each check -/

theorem test_ill_formed_port : (Instr.strayFrame 16 0 []).wf = false ∧ (Instr.strayFrame 0 0 []).wf = true := by decide

theorem test_ill_formed_lane : (Instr.lfixReqReceive 19 0 0 0).wf = false ∧ (Instr.lfixReqReceive 0 0 0 0).wf = true := by decide

theorem test_ill_formed_aux_lane : (Instr.auxLinkFix 15 0).wf = false ∧ (Instr.auxLinkFix 16 0).wf = true := by decide

theorem test_ill_formed_helm : (Instr.taskDispatch 18).wf = false ∧ (Instr.taskDispatch 0).wf = true := by decide

theorem test_ill_formed_inst : (Instr.piFullAtSlot 4096).wf = false ∧ (Instr.piFullAtSlot 0).wf = true := by decide

theorem test_ill_formed_chart_index : (Instr.outboundLegStart 16384 false).wf = false ∧ (Instr.outboundLegStart 0 false).wf = true := by decide

theorem test_ill_formed_channel : (Instr.dmaChConfig 68 0 0).wf = false ∧ (Instr.dmaChConfig 0 0 0).wf = true := by decide

theorem test_ill_formed_source : (Instr.icuComplete 0 1024 false).wf = false ∧ (Instr.icuComplete 0 0 false).wf = true := by decide

theorem test_ill_formed_target : (Instr.icuClaim 19).wf = false ∧ (Instr.icuClaim 0).wf = true := by decide

theorem test_ill_formed_five : (Instr.nodeGrantReceive 0 [] 0 32 false []).wf = false ∧ (Instr.nodeGrantReceive 0 [] 0 0 false []).wf = true := by decide

theorem test_ill_formed_word : (Instr.chrRateTrimWrite 4294967296).wf = false ∧ (Instr.chrRateTrimWrite 0).wf = true := by decide

theorem test_ill_formed_fn : (Instr.sqTailDoorbell 256 0 0 0).wf = false ∧ (Instr.sqTailDoorbell 0 0 0 0).wf = true := by decide

theorem test_ill_formed_vec : (Instr.hicVectorTimer 0 2048).wf = false ∧ (Instr.hicVectorTimer 0 0).wf = true := by decide

theorem test_ill_formed_byte : (Instr.laneLock 0 256 0 0).wf = false ∧ (Instr.laneLock 0 0 0 0).wf = true := by decide

theorem test_ill_formed_half : (Instr.helmInstruction 0 65536 0 0).wf = false ∧ (Instr.helmInstruction 0 0 0 0).wf = true := by decide

theorem test_ill_formed_queue : (Instr.sqEntryReadComplete 65536).wf = false ∧ (Instr.sqEntryReadComplete 0).wf = true := by decide

theorem test_ill_formed_node : (Instr.hubTimingPoll 4096).wf = false ∧ (Instr.hubTimingPoll 0).wf = true := by decide

theorem test_ill_formed_slot : (Instr.packetSend 0 32768).wf = false ∧ (Instr.packetSend 0 0).wf = true := by decide

theorem test_ill_formed_dword : (Instr.syncFrameReceive 18446744073709551616 0 0 0 false).wf = false ∧ (Instr.syncFrameReceive 0 0 0 0 false).wf = true := by decide

theorem test_ill_formed_two : (Instr.enumRequestDone 0 4 false).wf = false ∧ (Instr.enumRequestDone 0 0 false).wf = true := by decide

theorem test_ill_formed_three : (Instr.pcieLinkStateChange false 8 0).wf = false ∧ (Instr.pcieLinkStateChange false 0 0).wf = true := by decide

theorem test_ill_formed_how : (Instr.handoverWhileStopped 3).wf = false ∧ (Instr.handoverWhileStopped 0).wf = true := by decide

theorem test_ill_formed_four : (Instr.hubUpstreamForward 0 16 0 [] []).wf = false ∧ (Instr.hubUpstreamForward 0 0 0 [] []).wf = true := by decide

theorem test_ill_formed_sem : (Instr.semaphoreOverhold 64).wf = false ∧ (Instr.semaphoreOverhold 0).wf = true := by decide

theorem test_ill_formed_task : (Instr.latestFinish 4096).wf = false ∧ (Instr.latestFinish 0).wf = true := by decide

theorem test_ill_formed_domain : (Instr.domainIdleOff 2).wf = false ∧ (Instr.domainIdleOff 3).wf = true := by decide

theorem test_ill_formed_aligned : (Instr.safeValueWrite 2 0).wf = false ∧ (Instr.safeValueWrite 0 0).wf = true := by decide

theorem test_ill_formed_contract : (Instr.pwcCaps 0 [] 4194304).wf = false ∧ (Instr.pwcCaps 0 [] 0).wf = true := by decide

theorem test_ill_formed_space : (Instr.registerWrite 0 257 false 0 0).wf = false ∧ (Instr.registerWrite 0 0 false 0 0).wf = true := by decide

theorem test_ill_formed_ecc : (Instr.helmInstruction 0 0 5 0).wf = false ∧ (Instr.helmInstruction 0 0 0 0).wf = true := by decide

theorem test_ill_formed_kind5 : (Instr.ageMeasure 0 0 0).wf = false ∧ (Instr.ageMeasure 1 0 0).wf = true := by decide

theorem test_ill_formed_reg5 : (Instr.dmaChConfig 0 5 0).wf = false ∧ (Instr.dmaChConfig 0 0 0).wf = true := by decide

theorem test_ill_formed_doorbell : (Instr.sqTailDoorbell 0 0 512 0).wf = false ∧ (Instr.sqTailDoorbell 0 0 0 0).wf = true := by decide

theorem test_ill_formed_pm_target : (Instr.pmbusTimeout 32).wf = false ∧ (Instr.pmbusTimeout 0).wf = true := by decide

/-! ### Single commands, with results from the rules and worked examples -/

/-- GY.LIN a0, a1, a2 encodes as 0x00C5_850B (file 07). -/
theorem test_gy_lin_word : Rv.decode32 0x00C5850B = some (.lin 10 11 12) := by decide +kernel

/-- The Z1 bearing of Table 02-5: DELAY_DN 0x001B_80C5, ADVANCE_UP 0x0071_E72B. -/
theorem test_z1_bearing :
    let s : State := {
      tree := { nodes := [(3, { state := .active, hub := true }), (5, { state := .active, tier := 1, route := 3 })]
                bearings := [(3, { delayDn := 1194197, advanceUp := 1194197, state := .fixed })] }
      fixes := [(37, { filtered := some 1216479, resUp := 5662310 })] }
    (s.computeBearing 5).delayDn = 0x001B80C5 ∧ (s.computeBearing 5).advanceUp = 0x0071E72B := by decide +kernel

/-- The request of the camera hub on P12: contract word 0x000F_A4B0 is VOLT 1,200 and CURR 250, and charges 600 (file 12). -/
theorem test_contract_word : voltOf 0x000FA4B0 = 1200 ∧ currOf 0x000FA4B0 = 250 ∧ chargeOf 0x000FA4B0 = 600 := by decide

/-- Feeder 101's pipe context 3,234 shows at 0xF9440 with BASE 1, and its node-table entry at 0xC0650 (file 18). -/
theorem test_feeder_101 :
    let s : State := { st [(Fld.GBL_WIN_PIPE.BASE, 0, 1)] with conv := { pipes := [(3234, { valid := true, credit := 3, size := 64 })] }, tree := { nodes := [(101, { state := .active, port := 9 })] } }
    s.apertureWord 0xF9444 = 3 * 65536 + 64 ∧ s.apertureWord 0xC0650 = (s.node 101).word 0 := by decide +kernel

/-- Reset: VENDOR 0x1F6E and DEVICE 0x6416 in ID_DEVICE (Table 18-9). -/
theorem test_id_device : State.reset.word 0x00000 0 = 0x64161F6E := by decide +kernel

/-- The table gives no row bits, so no word spells a command. -/
theorem test_no_words (w : Nat) : Sys2Proof.decodeTableWord 32 w = none := rfl

end Sys2Proof.Machine
end

/-! SUPPORT. The proofs of the statements of the scope (file 00), with the lemmas on the operations they speak of: accesses to BAR0
(Machine/Registers.lean) and the messages that the MSI-X masks withhold (Machine/Interrupts.lean, Machine/Pcie.lean). -/

namespace Sys2Proof.Machine

/-! ### Accesses to the offsets of BAR0 that hold no register (R6) -/

/-- An offset of BAR0 that holds no register: in no register table and outside the AON scratch, or in the hole between the safe-value
and the pipe aperture (Table 18-7). -/
def Unmapped (off : Nat) : Prop :=
  (registerAt off = none ∧ off < 0x40000 ∧ (off < 0x21000 ∨ 0x22000 ≤ off)) ∨ (0xE0400 ≤ off ∧ off < 0xF0000)

/-- Whether an offset holds a register does not depend on the state: the index registers only choose the context. -/
theorem regAt_eq_none_iff (s : State) (off : Nat) : s.regAt off = none ↔ registerAt off = none := by
  simp only [State.regAt, Option.map_eq_none_iff]

theorem offsetDomain_of_registerAt_eq_none {off : Nat} (h : registerAt off = none) : offsetDomain off = none := by
  simp only [offsetDomain, h, Option.isNone_none, if_true]

/-- The registers of the switchable domains end below the apertures. -/
theorem offsetDomain_of_aperture {off : Nat} (h : 0x40000 ≤ off) : offsetDomain off = none := by
  unfold offsetDomain
  split
  · rfl
  · rw [if_neg (by omega), if_neg (by omega), if_neg (by omega), if_neg (by omega)]

theorem Unmapped.offsetDomain_eq_none {off : Nat} (h : Unmapped off) : offsetDomain off = none := by
  rcases h with ⟨hreg, -, -⟩ | ⟨hlo, -⟩
  · exact offsetDomain_of_registerAt_eq_none hreg
  · exact offsetDomain_of_aperture (by omega)

theorem Unmapped.lt {off : Nat} (h : Unmapped off) : off < 0x100000 := by
  rcases h with ⟨-, hlt, -⟩ | ⟨-, hlt⟩ <;> omega

/-- An access to a place of BAR0 in no switchable domain is done at once (R417). -/
theorem run_access_of_no_domain {off : Nat} (h : offsetDomain off = none) (write : Bool) (v : Nat) (s : State) :
    (access false write off v).run s = (accessNow false write off v).run s := by
  simp [access, h]

theorem run_regWrite_unmapped {off : Nat} (h : Unmapped off) (v : Nat) (s : State) : (regWrite off v).run s = s := by
  rcases h with ⟨hreg, hlt, hscratch⟩ | ⟨hlo, hhi⟩
  · have hnone := (regAt_eq_none_iff s off).mpr hreg
    rw [regWrite, if_neg (by omega), if_neg (by omega)]
    simp only [run_read, hnone, run_skip]
  · rw [regWrite, if_pos (by omega), apertureWrite, if_neg (by omega), if_neg (by omega), if_neg (by omega), run_skip]

theorem apertureWord_of_hole {off : Nat} (hlo : 0xE0400 ≤ off) (hhi : off < 0xF0000) (s : State) : s.apertureWord off = 0 := by
  rw [State.apertureWord, if_neg (by omega), if_neg (by omega), if_neg (by omega), if_neg (by omega), if_neg (by omega),
    if_pos hhi]

theorem run_regRead_unmapped {off : Nat} (h : Unmapped off) (k : Nat → Prog) (s : State) : (regRead off k).run s = (k 0).run s := by
  rcases h with ⟨hreg, hlt, hscratch⟩ | ⟨hlo, hhi⟩
  · have hnone := (regAt_eq_none_iff s off).mpr hreg
    rw [regRead, run_read, if_neg (by omega), if_neg (by omega)]
    simp only [hnone]
  · have hreplay : ¬ off < 0xC0000 ∧ ¬ off < 0xE0400 := by omega
    rw [regRead, run_read, if_pos (by omega)]
    simp [hreplay, apertureWord_of_hole hlo hhi]

theorem run_access_write_unmapped {off : Nat} (h : Unmapped off) (v : Nat) (s : State) : (access false true off v).run s = s := by
  rw [run_access_of_no_domain h.offsetDomain_eq_none]
  exact run_regWrite_unmapped h v s

theorem run_access_read_unmapped {off : Nat} (h : Unmapped off) (v : Nat) (s : State) :
    (access false false off v).run s = { s with out := s.out ++ [.pcie 0 0] } := by
  rw [run_access_of_no_domain h.offsetDomain_eq_none]
  exact run_regRead_unmapped h (fun x => emit (.pcie 0 x)) s

/-! ### The host's requests -/

/-- Memory Space Enable of PF0 is its own. -/
theorem memOn_pf0 {s : State} (hmse : (s.fn 0).mse = true) : s.memOn 0 = true := hmse

/-- A request to a function with Memory Space Enable 1 that is in D0 reaches its place (R522). -/
theorem run_barRequest_of_memOn {fn : Nat} {s : State} (hmem : s.memOn fn = true) (hd0 : (s.fn fn).dstate = 0) (p : Prog) :
    (barRequest fn p).run s = p.run s := by
  simp [barRequest, hmem, hd0]

/-- Outside S1 there is nothing to return from (R406). -/
theorem run_returnS1_of_awake {s : State} (h : s.pstate = 0) (cause : Nat) : (returnS1 cause).run s = s := by
  simp [returnS1, h]

/-- A posted write of the host is applied in S0 once the boot has ended (R406, R460). -/
theorem run_hostWrite_of_ready {fn : Nat} {s : State} (hmem : s.memOn fn = true) (hd0 : (s.fn fn).dstate = 0) (hs0 : s.pstate = 0)
    (hload : s.loading = false) (wakes always : Bool) (p : Prog) : (hostWrite fn wakes always p).run s = p.run s := by
  simp [hostWrite, run_barRequest_of_memOn hmem hd0, run_returnS1_of_awake hs0, hload]

/-! ### REGISTER_WRITE of an aligned word of BAR0, by who asks and whether it is a read -/

theorem exec_registerWrite_host_read {off : Nat} (hal : off % 4 = 0) (hlt : off < 0x100000) (v : Nat) {s : State} (hs : s.pstate ≤ 1) :
    exec (.registerWrite 0 0 false off v) s = .next ((barRequest 0 (access false false off v)).run { s with out := [] }) := by
  simp [exec, execRegisterWrite, finish_eq, hal, hlt, hs]

theorem exec_registerWrite_host_write {off : Nat} (hal : off % 4 = 0) (hlt : off < 0x100000) (v : Nat) {s : State} (hs : s.pstate ≤ 1) :
    exec (.registerWrite 0 0 true off v) s =
      .next ((hostWrite 0 true (bootBlocks off) (access false true off v)).run { s with out := [] }) := by
  simp [exec, execRegisterWrite, finish_eq, hal, hlt, hs]

theorem exec_registerWrite_helm_read {off : Nat} (hal : off % 4 = 0) (hlt : off < 0x100000) (v : Nat) {s : State} (hs : s.pstate ≤ 1) :
    exec (.registerWrite 1 0 false off v) s = .next ((access false false off v).run { s with out := [] }) := by
  simp [exec, execRegisterWrite, finish_eq, hal, hlt, hs]

/-- With no host attached a helm's write is applied (R468). -/
theorem exec_registerWrite_helm_write {off : Nat} (hal : off % 4 = 0) (hlt : off < 0x100000) (v : Nat) {s : State} (hs : s.pstate ≤ 1)
    (hatt : s.bit Fld.NVM_CTRL.HOST_ATTACH = false) :
    exec (.registerWrite 1 0 true off v) s = .next ((access false true off v).run { s with out := [] }) := by
  simp [exec, execRegisterWrite, finish_eq, hal, hlt, hs, hatt]

/-! ### An offset that holds no register -/

theorem exec_host_read_unmapped {off : Nat} (h : Unmapped off) (hal : off % 4 = 0) (v : Nat) {s : State} (hs : s.pstate = 0)
    (hmse : (s.fn 0).mse = true) (hd0 : (s.fn 0).dstate = 0) :
    exec (.registerWrite 0 0 false off v) s = .next { s with out := [.pcie 0 0] } := by
  rw [exec_registerWrite_host_read hal h.lt v (by omega), run_barRequest_of_memOn (memOn_pf0 (s := { s with out := [] }) hmse) hd0,
    run_access_read_unmapped h]
  rfl

theorem exec_host_write_unmapped {off : Nat} (h : Unmapped off) (hal : off % 4 = 0) (v : Nat) {s : State} (hs : s.pstate = 0)
    (hmse : (s.fn 0).mse = true) (hd0 : (s.fn 0).dstate = 0) (hload : s.loading = false) :
    exec (.registerWrite 0 0 true off v) s = .next { s with out := [] } := by
  rw [exec_registerWrite_host_write hal h.lt v (by omega),
    run_hostWrite_of_ready (memOn_pf0 (s := { s with out := [] }) hmse) hd0 hs hload, run_access_write_unmapped h]

theorem exec_helm_read_unmapped {off : Nat} (h : Unmapped off) (hal : off % 4 = 0) (v : Nat) {s : State} (hs : s.pstate ≤ 1) :
    exec (.registerWrite 1 0 false off v) s = .next { s with out := [.pcie 0 0] } := by
  rw [exec_registerWrite_helm_read hal h.lt v hs, run_access_read_unmapped h]
  rfl

theorem exec_helm_write_unmapped {off : Nat} (h : Unmapped off) (hal : off % 4 = 0) (v : Nat) {s : State} (hs : s.pstate ≤ 1)
    (hatt : s.bit Fld.NVM_CTRL.HOST_ATTACH = false) :
    exec (.registerWrite 1 0 true off v) s = .next { s with out := [] } := by
  rw [exec_registerWrite_helm_write hal h.lt v hs hatt, run_access_write_unmapped h]

theorem unmapped_of_regAt {off : Nat} {s : State} (hlt : off < 0x40000) (hscratch : off < 0x21000 ∨ 0x22000 ≤ off)
    (hreg : s.regAt off = none) : Unmapped off :=
  .inl ⟨(regAt_eq_none_iff s off).mp hreg, hlt, hscratch⟩

theorem unmapped_of_hole {off : Nat} (hlo : 0xE0400 ≤ off) (hhi : off < 0xF0000) : Unmapped off := .inr ⟨hlo, hhi⟩

/-- Settles O9: such an offset is `Unmapped`, reaches no switchable domain, and its access answers 0 or does nothing. -/
theorem anOffsetWithNoRegisterReadsZero : Obligations.AnOffsetWithNoRegisterReadsZero := by
  unfold Obligations.AnOffsetWithNoRegisterReadsZero
  refine ⟨?hostRead, ?hostWrite, ?helmRead, ?helmWrite, ?holeRead, ?holeWrite⟩
  case hostRead =>
    intro off v s hs hmse hd0 hal hlt hscratch hreg _
    exact ⟨_, exec_host_read_unmapped (unmapped_of_regAt hlt hscratch hreg) hal v hs hmse hd0, rfl⟩
  case hostWrite =>
    intro off v s hs hmse hd0 hal hlt hscratch hreg _ hload
    exact ⟨_, exec_host_write_unmapped (unmapped_of_regAt hlt hscratch hreg) hal v hs hmse hd0 hload, rfl⟩
  case helmRead =>
    intro off v s hs hal hlt hscratch hreg _
    exact ⟨_, exec_helm_read_unmapped (unmapped_of_regAt hlt hscratch hreg) hal v hs, rfl⟩
  case helmWrite =>
    intro off v s hs hatt hal hlt hscratch hreg _
    exact ⟨_, exec_helm_write_unmapped (unmapped_of_regAt hlt hscratch hreg) hal v hs hatt, rfl⟩
  case holeRead =>
    intro off v s hs hmse hd0 hal hlo hhi
    exact ⟨_, exec_host_read_unmapped (unmapped_of_hole hlo hhi) hal v hs hmse hd0, rfl⟩
  case holeWrite =>
    intro off v s hs hmse hd0 hal hlo hhi hload
    exact ⟨_, exec_host_write_unmapped (unmapped_of_hole hlo hhi) hal v hs hmse hd0 hload, rfl⟩

/-! ### The messages that the vectors of a function owe (R365) -/

/-- Whether nothing withholds the messages of a vector: neither its own mask, the function's mask, nor D3hot (R365, R522). -/
def State.vecOpen (s : State) (k : Nat) : Bool :=
  !(s.msixRow k).masked && !(s.fn (k / 2048)).msixMask && (s.fn (k / 2048)).dstate == 0

/-- The messages of a vector depend on the MSI-X tables and on the functions alone. -/
theorem vecOpen_congr {s t : State} (hicu : t.icu = s.icu) (hfns : t.fns = s.fns) (k : Nat) : t.vecOpen k = s.vecOpen k := by
  simp only [State.vecOpen, State.msixRow, State.fn, hicu, hfns]

/-- Clearing an element of a field sets no element of it. -/
theorem bit_clear_of_bit_eq_false {f : Field} {k : Nat} {s : State} (h : s.bit f k = false) (j : Nat) :
    ((Eff.fld f j 0).apply s).bit f k = false := by
  simp only [State.bit, State.fld, apply_fld, Sparse.get_set] at h ⊢
  split
  · simp
  · exact h

/-- Sending a message counts it, and writes no other field. -/
theorem bit_sendMsix {f : Field} (hf : f.row ≠ Fld.HIC_MSG_CNT.COUNT.row) (k n : Nat) (s : State) :
    ((sendMsix k).run s).bit f n = s.bit f n := by
  simp only [State.bit, sendMsix, run_read, run_cons, run_nil, run_emit, run_countUp, fld_fld_ne hf]
  rfl

theorem run_sendOwed (k : Nat) (s : State) :
    (sendOwed k).run s = if s.bit Fld.HIC_VEC_STATUS.MSG_PENDING k && s.vecOpen k
      then (sendMsix k).run ((Eff.fld Fld.HIC_VEC_STATUS.MSG_PENDING k 0).apply s) else s := by
  simp only [sendOwed, run_read, run_whenP, State.vecOpen, Bool.and_assoc, run_cons, run_nil, run_clear]

theorem sendOwed_icu (k : Nat) (s : State) : ((sendOwed k).run s).icu = s.icu := by
  rw [run_sendOwed]; split <;> rfl

theorem sendOwed_fns (k : Nat) (s : State) : ((sendOwed k).run s).fns = s.fns := by
  rw [run_sendOwed]; split <;> rfl

/-- A vector whose messages are open owes none after it has sent. -/
theorem sendOwed_sends {k : Nat} {s : State} (hopen : s.vecOpen k = true) :
    ((sendOwed k).run s).bit Fld.HIC_VEC_STATUS.MSG_PENDING k = false := by
  rw [run_sendOwed]
  cases hpend : s.bit Fld.HIC_VEC_STATUS.MSG_PENDING k with
  | false => simp [hpend]
  | true =>
    simp only [hopen, Bool.and_self, if_true]
    rw [bit_sendMsix (by decide), State.bit, fld_fld_same]
    rfl

/-- What a vector does not owe, no vector's sending makes it owe. -/
theorem sendOwed_keeps_sent {k : Nat} {s : State} (h : s.bit Fld.HIC_VEC_STATUS.MSG_PENDING k = false) (j : Nat) :
    ((sendOwed j).run s).bit Fld.HIC_VEC_STATUS.MSG_PENDING k = false := by
  rw [run_sendOwed]
  split
  · rw [bit_sendMsix (by decide)]
    exact bit_clear_of_bit_eq_false h j
  · exact h

/-- That a vector which owes no message in one state owes none in another. -/
def StaysSent (k : Nat) (s t : State) : Prop :=
  s.bit Fld.HIC_VEC_STATUS.MSG_PENDING k = false → t.bit Fld.HIC_VEC_STATUS.MSG_PENDING k = false

/-- What a vector does not owe, the sending of a list of vectors does not make it owe. -/
theorem forP_sendOwed_staysSent (l : List Nat) (g : Nat → Nat) (k : Nat) (s : State) :
    StaysSent k s ((forP l fun x => sendOwed (g x)).run s) :=
  run_forP_keeps (StaysSent k) (fun _ h => h) (fun _ _ _ hab hbc h => hbc (hab h)) l _ (fun x _ _ h => sendOwed_keeps_sent h (g x)) s

/-- When the owed messages of a list of vectors go out, an open vector of the list owes none afterwards. -/
theorem forP_sendOwed_sends {l : List Nat} {g : Nat → Nat} {v : Nat} (hv : v ∈ l) {s : State} (hopen : s.vecOpen (g v) = true) :
    ((forP l fun x => sendOwed (g x)).run s).bit Fld.HIC_VEC_STATUS.MSG_PENDING (g v) = false := by
  induction l generalizing s with
  | nil => cases hv
  | cons x rest ih =>
    rw [run_forP_cons]
    cases hv with
    | head => exact forP_sendOwed_staysSent rest g _ _ (sendOwed_sends hopen)
    | tail _ hrest => exact ih hrest (by rwa [vecOpen_congr (sendOwed_icu _ _) (sendOwed_fns _ _)])

/-! ### A write of the MSI-X control word -/

/-- A word written with all four bytes enabled replaces the old one. -/
theorem write_all_bytes {old v : Nat} (hold : old < 2 ^ 32) (hv : v < 2 ^ 32) :
    (old - (old &&& byteMask 15)) ||| (v &&& byteMask 15) = v := by
  have hmask : byteMask 15 = 2 ^ 32 - 1 := by decide
  rw [hmask, Nat.and_two_pow_sub_one_eq_mod, Nat.and_two_pow_sub_one_eq_mod, Nat.mod_eq_of_lt hold, Nat.mod_eq_of_lt hv, Nat.sub_self,
    Nat.zero_or]

theorem exec_msix_control_write {fn v : Nat} {s : State} (hfn : fn < 256) (hthere : s.functionThere fn = true) (hv : v < 2 ^ 32) :
    exec (.configSpaceWrite fn 0x50 true 15 v) s = .next ((msixControl fn v).run { s with out := [] }) := by
  have hmod : v % 2 ^ 32 = v := Nat.mod_eq_of_lt hv
  have hold := Nat.mod_lt (({ s with out := [] } : State).cfgWord fn 0x50) (show 2 ^ 32 > 0 by decide)
  have henabled : bitAt 15 3 = true := by decide
  simp only [exec, execConfigSpaceWrite, finish_eq, run_whenP, hfn, hthere, decide_true, Bool.and_true, Bool.true_and, if_true, hmod,
    configWrite, run_read, write_all_bytes hold hv, henabled]
  rfl

/-- Lifting the Function Mask sends what an unmasked vector of the function owes: its Pending bit clears (R365). -/
theorem msix_control_write_sends {fn vec v : Nat} {s : State} (hfn : fn < 256) (hthere : s.functionThere fn = true) (hv : v < 2 ^ 32)
    (henable : bitAt v 31 = true) (hmask : bitAt v 30 = false) (hvec : vec < 2048)
    (hpend : s.bit Fld.HIC_VEC_STATUS.MSG_PENDING (vecKey fn vec) = true) (hrow : (s.msixRow (vecKey fn vec)).masked = false)
    (hd0 : (s.fn fn).dstate = 0) :
    ∃ t, exec (.configSpaceWrite fn 0x50 true 15 v) s = .next t ∧ t.bit Fld.HIC_VEC_STATUS.MSG_PENDING (vecKey fn vec) = false := by
  refine ⟨_, exec_msix_control_write hfn hthere hv, ?_⟩
  have hkey : vecKey fn vec / 2048 = fn := by unfold vecKey; omega
  simp only [msixControl, run_cons, run_nil, run_whenP, henable, hmask, Bool.not_true, Bool.not_false, Bool.and_self, if_true,
    Bool.false_eq_true, if_false, sendAllOwed, run_read]
  apply forP_sendOwed_sends (g := vecKey fn)
  · exact List.mem_filter.mpr ⟨List.mem_range.mpr hvec, hpend⟩
  · simpa [State.vecOpen, hkey, modFn, State.fn] using ⟨hrow, hd0⟩

/-- PF0 is ready with MSI-X Enable and Function Mask 1; its vector 0 is unmasked and owes a message. -/
def owedUnderFunctionMask : State :=
  { regs := [(Fld.HIC_VEC_STATUS.MSG_PENDING.key 0, 1)]
    icu := { msix := [(0, { masked := false })] }
    fns := [(0, { msixEn := true, msixMask := true, bme := true })]
    boot := { cfgReady := true } }

/-- Refutes O57: its clause on MSI-X Enable says that no field changes, but a write that also lifts the Function Mask sends the messages
owed under it (R365), and the Pending bit of vector 0 goes from 1 to 0. -/
theorem not_theEndpointAnswersItsHost : ¬ Obligations.TheEndpointAnswersItsHost := by
  unfold Obligations.TheEndpointAnswersItsHost
  rintro ⟨-, -, -, -, -, -, -, -, -, -, -, hmsix, -⟩
  have hthere : owedUnderFunctionMask.functionThere 0 = true := by decide
  have hpend : owedUnderFunctionMask.bit Fld.HIC_VEC_STATUS.MSG_PENDING (vecKey 0 0) = true := by decide
  obtain ⟨t, ht, -, -, hkept⟩ := hmsix 0 0x80000000 owedUnderFunctionMask (by decide) hthere (by decide) (by decide)
  obtain ⟨t', ht', hsent⟩ := msix_control_write_sends (vec := 0) (by decide) hthere (v := 0x80000000) (by decide) (by decide) (by decide)
    (by decide) hpend (by decide) (by decide)
  obtain rfl : t = t' := Host.Outcome.next.inj (ht.symm.trans ht')
  have hsame := hkept Fld.HIC_VEC_STATUS.MSG_PENDING (vecKey 0 0) (by simp)
  rw [State.bit, hsame, ← State.bit, hpend] at hsent
  cases hsent

end Sys2Proof.Machine

/-! SUPPORT. The proofs of the statements of the controller and its tick (file 01): the hand-over of a chart while stopped (Machine/Chart.lean,
Machine/Tick.lean) and the timeout of an inbound leg (Machine/Tick.lean). -/

namespace Sys2Proof.Machine

/-- An instant that the chronometer can reach does not depend on the outputs. -/
theorem reaches_out {s : State} {ns : Nat} (h : s.reaches ns = true) (o : List Output) : ({ s with out := o } : State).reaches ns = true := h

/-! ### The hand-over of a chart while stopped (R11, R158) -/

/-- The peaks that a hand-over shows leave the tick length. -/
theorem activeN_putPeaks (l : List Nat) (out inb : Nat → Nat) (s : State) :
    ((forP l fun p => seqs [putN Fld.CHT_PEAK.OUT_PEAK p (out p), putN Fld.CHT_PEAK.IN_PEAK p (inb p)]).run s).fld
      Fld.CHT_TICK_LEN.ACTIVE_N = s.fld Fld.CHT_TICK_LEN.ACTIVE_N := by
  refine run_forP_keeps (fun a b => b.fld Fld.CHT_TICK_LEN.ACTIVE_N = a.fld Fld.CHT_TICK_LEN.ACTIVE_N) (fun _ => rfl)
    (fun _ _ _ hab hbc => hbc.trans hab) l _ (fun p _ u => ?_) s
  rw [run_cons, run_cons, run_nil, run_putN, run_putN, fld_fld_ne (by decide), fld_fld_ne (by decide)]

/-- A hand-over puts the shadow's N in force, cut to the 15 bits of ACTIVE_N; nothing that follows in it writes ACTIVE_N. -/
theorem chartHandover_activeN (s : State) :
    (chartHandover.run s).fld Fld.CHT_TICK_LEN.ACTIVE_N = s.fld Fld.CHT_TICK_LEN.N % 2 ^ 15 := by
  rw [chartHandover, run_read]
  simp only [run_cons, run_nil]
  rw [run_fld (modChart_within (pm := 0x20000000) (by decide) _) (by decide) _ _ (by decide)]
  refine (run_fld (m := 0x7540580) (within_read fun t => within_cons (postEvent_within (by decide) _ _ _ _) (within_cons ?waiting within_nil))
    (by decide) _ _ (by decide) _).trans ?_
  case waiting =>
    split
    · exact complete_within (by decide) _ _ _ _
    · exact within_skip
  rw [activeN_putPeaks, run_put, fld_fld_ne (by decide), run_raise, fld_fld_ne (by decide), startReplay, run_read, run_cons, run_cons, run_nil,
    run_fld (modChart_within (pm := 0x20000000) (by decide) _) (by decide) _ _ (by decide), run_raise, fld_fld_ne (by decide),
    run_fld (within_whenP (modChr_within (pm := 0x8000000) (by decide) _)) (by decide) _ _ (by decide), run_put, fld_fld_same]
  rfl

theorem exec_handoverWhileStopped (block : Nat) (s : State) : exec (.handoverWhileStopped block) s = execHandoverWhileStopped block s := rfl

/-- The tick length that a hand-over while stopped leaves in force. -/
theorem handoverWhileStopped_activeN {s : State} (hrun : s.bit Fld.CHT_STATUS.RUNNING = false) (hpend : s.bit Fld.CHT_STATUS.PENDING = true)
    (hdue : s.reaches s.chart.dueNs = true) :
    ∃ t, exec (.handoverWhileStopped 0) s = .next t ∧ t.fld Fld.CHT_TICK_LEN.ACTIVE_N = s.fld Fld.CHT_TICK_LEN.N % 2 ^ 15 := by
  refine ⟨_, by rw [exec_handoverWhileStopped, execHandoverWhileStopped, finish_eq], ?_⟩
  simp only [hrun, hpend, Bool.not_false, run_whenP, if_true]
  rw [atNs_run _ (reaches_out hdue []), run_cons, run_cons, run_nil,
    run_fld (planFirst_within (pm := 0x8000000) (by decide)) (by decide) _ _ (by decide), chartHandover_activeN, movedTo_fld, fld_out]

/-- A stopped machine whose accepted COMMIT is due, and whose register N holds a number that its 15 bits cannot. -/
def wideTickLength : State := { regs := [(Fld.CHT_STATUS.PENDING.key 0, 1), (Fld.CHT_TICK_LEN.N.key 0, 2 ^ 15)] }

/-- Refutes O59: its clause on the hand-over of the chart says that ACTIVE_N takes the value of N, but no premise holds the register N within
its 15 bits (R138, Table 05-19), and ACTIVE_N takes N cut to them: with 2^15 in N it becomes 0. -/
theorem not_theMeridianOpensATick : ¬ Obligations.TheMeridianOpensATick := by
  unfold Obligations.TheMeridianOpensATick
  rintro ⟨-, -, -, hhand, -⟩
  have hrun : wideTickLength.bit Fld.CHT_STATUS.RUNNING = false := by decide
  have hpend : wideTickLength.bit Fld.CHT_STATUS.PENDING = true := by decide
  have hdue : wideTickLength.reaches wideTickLength.chart.dueNs = true := by decide
  have hwide : wideTickLength.fld Fld.CHT_TICK_LEN.N = 2 ^ 15 := by decide
  obtain ⟨t, ht, -, -, -, hn, -⟩ := hhand wideTickLength hrun hpend hdue
  obtain ⟨t', ht', hn'⟩ := handoverWhileStopped_activeN hrun hpend hdue
  obtain rfl : t = t' := Host.Outcome.next.inj (ht.symm.trans ht')
  rw [hn, hwide] at hn'
  exact absurd hn' (by decide)

/-! ### The timeout of an inbound leg (R168) -/

/-- The chart's unit is kept by a program that does not reach it. -/
theorem run_chart {m : Nat} {p : Prog} (hp : p.Within m) (h : m.testBit 29 = false) (s : State) : (p.run s).chart = s.chart :=
  (run_same_unit .chart (by decide) h p hp s).symm

theorem leg_modLeg_same (i : Nat) (f : LegRec → LegRec) (s : State) : ((modLeg i f).run s).leg i = f (s.leg i) := by
  simp only [modLeg, modChart, run_eff, State.leg, apply_chart, tget, tset, Sparse.get_set_same]

theorem leg_congr {s t : State} (h : t.chart = s.chart) (i : Nat) : t.leg i = s.leg i := by rw [State.leg, h, State.leg]

/-- An entry depends on the chart's unit and on ACTIVE_BANK alone. -/
theorem entry_congr {s t : State} (hchart : t.chart = s.chart)
    (hbank : t.fld Fld.CHT_STATUS.ACTIVE_BANK = s.fld Fld.CHT_STATUS.ACTIVE_BANK) (i : Nat) : t.entry i = s.entry i := by
  rw [State.entry, State.entry, State.bank, State.bank, State.activeIdx, State.activeIdx, hchart, hbank]

/-- The pulses of a leg's sources leave the chart's unit. -/
theorem legPulse_chart (i : Nat) (s : State) : ((legPulse i).run s).chart = s.chart := by
  rw [legPulse, run_read]
  exact run_forP_keeps (fun a b => b.chart = a.chart) (fun _ => rfl) (fun _ _ _ hab hbc => hbc.trans hab) _ _
    (fun src _ u => run_chart (icuEdge_within (pm := 0x4400600) (by decide) src) (by decide) u) s

/-- The completion event of a leg with no task shows its status, while its entry is the one in force. -/
theorem legEvent_status {i : Nat} {e : ChartEntry} {s : State} (hentry : s.entry i = e) (htrigger : e.trigger = 0) (tick status : Nat)
    (store : Option (List Byte)) (stale fault dup : Bool) :
    (((legEvent i e tick status store stale fault dup).run s).leg i).status = status := by
  have hsame : (s.entry i == e) = true := beq_iff_eq.mpr hentry
  simp only [legEvent, run_read, run_cons, run_nil, run_whenP, htrigger, bne_self_eq_false, Bool.false_eq_true, if_false, hsame, if_true]
  rw [leg_congr (legPulse_chart i _),
    leg_congr (run_chart (piInbound_within (pm := 0x8006540540) (by decide) _ _ _ _ _) (by decide) _), leg_modLeg_same]

/-- Counting the end of a leg as bad leaves ACTIVE_BANK. -/
theorem copyCount_bad_activeBank (e : ChartEntry) (s : State) :
    ((copyCount 1 e).run s).fld Fld.CHT_STATUS.ACTIVE_BANK = s.fld Fld.CHT_STATUS.ACTIVE_BANK := by
  simp only [copyCount, run_read, run_cons, run_nil, Nat.one_ne_zero, if_false, if_true, run_countUp, run_raise]
  rw [run_fld (within_whenP (missed_within (pm := 0x20040000004) (by decide) _)) (by decide) _ _ (by decide),
    fld_fld_ne (by decide), fld_fld_ne (by decide)]

/-- A leg whose record keeps a bad copy of the tick ends SHORT when a later range of it stays empty: the worse of both counts. -/
theorem copyBad_empty_after_bad {i : Nat} {e : ChartEntry} {s : State} {tick : Nat} (hentry : s.entry i = e) (hdup : e.dup = false)
    (htrigger : e.trigger = 0) (hkept : (s.leg i).copyTick = some (tick, 1)) :
    (((copyBad i e tick false 0).run s).leg i).status = St.short := by
  have hchart := run_chart (copyCount_within (pm := 0x2004000000c) (by decide) 1 e) (by decide) s
  have hentry' : ((copyCount 1 e).run s).entry i = e := (entry_congr hchart (copyCount_bad_activeBank e s) i).trans hentry
  simp only [copyBad, run_read, hdup, hkept, Bool.false_eq_true, false_and, if_false, if_true, run_cons, run_nil]
  exact legEvent_status hentry' htrigger _ _ _ _ _ _

theorem movedTo_chart (s : State) (ns : Nat) : (s.movedTo ns).chart = s.chart := by
  unfold State.movedTo; split <;> rfl

theorem movedTo_tree (s : State) (ns : Nat) : (s.movedTo ns).tree = s.tree := by
  unfold State.movedTo; split <;> rfl

/-- A node-table entry depends on the tree's unit alone. -/
theorem node_congr {s t : State} (h : t.tree = s.tree) (a : Nat) : t.node a = s.node a := by
  simp only [State.node, h]

/-- The inbound leg that a row names in the tick in progress is the entry in force. -/
theorem entry_of_inLeg {s : State} {i : Nat} {e : ChartEntry} (h : s.inLeg false i = some e) : s.entry i = e := by
  simp only [State.inLeg, Bool.false_eq_true, if_false] at h
  split at h
  · exact Option.some.inj h
  · cases h

/-- The event of the only copy of a leg of a node not in quarantine happens in the state moved to its instant. -/
theorem run_copyEvent {i : Nat} {e : ChartEntry} {d at_ : Nat} {s : State} (hquar : (s.node e.node).state ≠ .quarantine)
    (hevent : s.eventNs false e.port e.start (e.start + e.len) d = some at_) (hreach : s.reaches at_ = true) (p : Nat → Prog) :
    (copyEvent false i e false d p).run s = (p s.tick).run (s.movedTo at_) := by
  have hnode : ((s.movedTo at_).node e.node).state ≠ .quarantine := by rwa [node_congr (movedTo_tree s at_)]
  simp only [copyEvent, run_read, ChartEntry.range, Bool.false_eq_true, if_false, hevent, run_whenP, Bool.not_false, Bool.true_or, if_true,
    atNs_run _ hreach, beq_iff_eq, hnode]

theorem exec_inboundLegTimeout (prev : Bool) (i : Nat) (second : Bool) (d : Nat) (s : State) :
    exec (.inboundLegTimeout prev i second d) s = execInboundLegTimeout prev i second d s := rfl

/-- A leg whose record keeps a bad copy of the tick in progress ends SHORT, not TIMEOUT, when its range stays empty. -/
theorem inboundLegTimeout_after_bad {i : Nat} {e : ChartEntry} {d at_ : Nat} {s : State} (hleg : s.inLeg false i = some e)
    (hquar : (s.node e.node).state ≠ .quarantine) (hdup : e.dup = false) (htrigger : e.trigger = 0)
    (hevent : s.eventNs false e.port e.start (e.start + e.len) d = some at_) (hreach : s.reaches at_ = true)
    (hkept : (s.leg i).copyTick = some (s.tick, 1)) :
    ∃ t, exec (.inboundLegTimeout false i false d) s = .next t ∧ (t.leg i).status = St.short := by
  have hchart := movedTo_chart { s with out := [] } at_
  refine ⟨_, by rw [exec_inboundLegTimeout, execInboundLegTimeout, finish_eq, hleg], ?_⟩
  show (((copyEvent false i e false d fun tick => copyBad i e tick false 0).run { s with out := [] }).leg i).status = St.short
  rw [run_copyEvent (s := { s with out := [] }) hquar hevent (reaches_out hreach [])]
  refine copyBad_empty_after_bad ?_ hdup htrigger ?_
  · rw [entry_congr hchart (movedTo_fld _ _ _ _)]
    exact entry_of_inLeg hleg
  · rw [leg_congr hchart]
    exact hkept

/-- Tick 6 in progress with an inbound leg of one copy, whose record holds a bad copy of the tick. -/
def keptBadCopy : State :=
  { regs := [(Fld.CHT_STATUS.RUNNING.key 0, 1)]
    chr := { tick := 6, meridNs := 1000000, ns := 1000000, dueNs := 2000000, started := true }
    chart := {
      bankA := [(9, { valid := true, node := 5, port := 3, start := 20, len := 4, payload := 4, inbound := true, pipe := 2 })]
      legs := [(9, { copyTick := some (6, 1) })] }
    tree := { nodes := [(5, { state := .active, port := 3 })] } }

/-- Refutes O60: its clause on INBOUND_LEG_TIMEOUT has no premise on the leg's record, and a bad copy of the tick that the record keeps counts
even for a leg without DUP (R168): the leg ends SHORT, not TIMEOUT. -/
theorem not_legsAreSentAndReceived : ¬ Obligations.LegsAreSentAndReceived := by
  unfold Obligations.LegsAreSentAndReceived
  rintro ⟨-, -, -, -, -, htimeout, -⟩
  have hleg : keptBadCopy.inLeg false 9 = some (keptBadCopy.entry 9) := by decide
  have hquar : (keptBadCopy.node (keptBadCopy.entry 9).node).state ≠ .quarantine := by decide
  have hdup : (keptBadCopy.entry 9).dup = false := by decide
  have htrigger : (keptBadCopy.entry 9).trigger = 0 := by decide
  have hevent : keptBadCopy.eventNs false (keptBadCopy.entry 9).port (keptBadCopy.entry 9).start
      ((keptBadCopy.entry 9).start + (keptBadCopy.entry 9).len) 780 = some 1000780 := by decide
  have hreach : keptBadCopy.reaches 1000780 = true := by decide
  obtain ⟨t, ht, hstatus, -⟩ := htimeout 9 _ 780 1000780 keptBadCopy hleg hquar hdup htrigger hevent hreach
  obtain ⟨t', ht', hstatus'⟩ := inboundLegTimeout_after_bad hleg hquar hdup htrigger hevent hreach (by decide)
  obtain rfl : t = t' := Host.Outcome.next.inj (ht.symm.trans ht')
  exact absurd (hstatus.symm.trans hstatus') (by decide)

end Sys2Proof.Machine

/-! SUPPORT. What the statements of the chronometer (file 02) and of the nodes are proved with: the frame of register fields, what an effect on a unit
leaves, and the state that a move of the chronometer gives. -/

namespace Sys2Proof.Machine

/-! ### The state in which a command starts -/

/-- The state with no output, in which the program of a command runs. -/
def State.quiet (s : State) : State := { s with out := [] }

theorem finish_quiet (p : Prog) (s : State) : finish p s = .next (p.run s.quiet) := rfl

@[simp] theorem quiet_fld (s : State) (f : Field) (n : Nat) : s.quiet.fld f n = s.fld f n := rfl
@[simp] theorem quiet_bit (s : State) (f : Field) (n : Nat) : s.quiet.bit f n = s.bit f n := rfl
@[simp] theorem quiet_chr (s : State) : s.quiet.chr = s.chr := rfl
/-! ### The frame of register fields -/

/-- Discarding the outputs before a command keeps every field. -/
theorem keepsBut_quiet (l : List (Field × Nat)) (s : State) : keepsBut l s s.quiet := fun _ _ _ => rfl

theorem keepsBut.trans {l : List (Field × Nat)} {a b c : State} (hab : keepsBut l a b) (hbc : keepsBut l b c) : keepsBut l a c :=
  fun f n h => (hbc f n h).trans (hab f n h)

theorem keepsBut_of_regs {l : List (Field × Nat)} {s t : State} (h : t.regs = s.regs) : keepsBut l s t := fun f n _ => fld_congr h f n

/-- Writing a listed field keeps the others. -/
theorem keepsBut_fld {l : List (Field × Nat)} {f : Field} {n : Nat} (h : (f, n) ∈ l) (v : Nat) (s : State) :
    keepsBut l s ((Eff.fld f n v).apply s) := by
  intro g k hg
  simp only [State.fld, apply_fld]
  exact Sparse.get_set_ne _ _ _ (hg (f, n) h)

/-- Writing a listed field after a program that keeps the others. -/
theorem keepsBut.fld {l : List (Field × Nat)} {s t : State} (h : keepsBut l s t) {f : Field} {n : Nat} (hf : (f, n) ∈ l) (v : Nat) :
    keepsBut l s ((Eff.fld f n v).apply t) := h.trans (keepsBut_fld hf v t)

/-- Changing the chronometer's unit after a program that keeps fields. -/
theorem keepsBut.chr {l : List (Field × Nat)} {s t : State} (h : keepsBut l s t) (f : ChronUnit → ChronUnit) :
    keepsBut l s ((Eff.chr f).apply t) := h

/-- Changing the chart's unit after a program that keeps fields. -/
theorem keepsBut.chart {l : List (Field × Nat)} {s t : State} (h : keepsBut l s t) (f : ChartUnit → ChartUnit) :
    keepsBut l s ((Eff.chart f).apply t) := h

/-- A program within parts of which none is a block of registers keeps every field. -/
theorem keepsBut_run {m : Nat} {p : Prog} (hp : p.Within m) (hm : m &&& 0xFFFFF = 0) (l : List (Field × Nat)) (s : State) :
    keepsBut l s (p.run s) := by
  have hlow (k : Nat) (hk : k < 20) : m.testBit k = false := by
    have hbit : (0xFFFFF : Nat).testBit k = true := (Nat.testBit_two_pow_sub_one 20 k).trans (decide_eq_true hk)
    have hnone := congrArg (fun x => x.testBit k) hm
    rwa [Nat.testBit_and, hbit, Bool.and_true, Nat.zero_testBit] at hnone
  intro f n _
  exact run_fld hp (hlow 19 (by decide)) f n (hlow _ (Nat.lt_trans (blockOf_lt f.row) (by decide))) s

/-! ### What an effect on a unit leaves of the registers -/

@[simp] theorem fld_chr (f : ChronUnit → ChronUnit) (s : State) (g : Field) (n : Nat) : ((Eff.chr f).apply s).fld g n = s.fld g n := rfl
@[simp] theorem fld_chart (f : ChartUnit → ChartUnit) (s : State) (g : Field) (n : Nat) : ((Eff.chart f).apply s).fld g n = s.fld g n := rfl
/-! ### Units kept by a program that does not reach them -/

theorem run_chr {m : Nat} {p : Prog} (hp : p.Within m) (h : m.testBit 27 = false) (s : State) : (p.run s).chr = s.chr :=
  (run_same_unit .chronometer (by decide) h p hp s).symm

theorem run_fixes {m : Nat} {p : Prog} (hp : p.Within m) (h : m.testBit 28 = false) (s : State) : (p.run s).fixes = s.fixes :=
  (run_same_unit .fixes (by decide) h p hp s).symm

theorem run_tree {m : Nat} {p : Prog} (hp : p.Within m) (h : m.testBit 30 = false) (s : State) : (p.run s).tree = s.tree :=
  (run_same_unit .tree (by decide) h p hp s).symm

theorem run_free {m : Nat} {p : Prog} (hp : p.Within m) (h : m.testBit 23 = false) (s : State) : (p.run s).free = s.free :=
  (run_same_unit .freeCount (by decide) h p hp s).symm

@[simp] theorem postEvent_chr (i code detail status : Nat) (s : State) : ((postEvent i code detail status).run s).chr = s.chr :=
  run_chr (postEvent_within (pm := 0x7540580) (by decide) _ _ _ _) (by decide) s

/-- Posting an event leaves the fields of the chronometer's and the chart's registers. -/
theorem postEvent_fld {f : Field} (hf : (0x7540580 : Nat).testBit (blockOf f.row) = false) (i code detail status n : Nat) (s : State) :
    ((postEvent i code detail status).run s).fld f n = s.fld f n :=
  run_fld (postEvent_within (pm := 0x7540580) (by decide) _ _ _ _) (by decide) f n hf s

/-! ### A move of the chronometer -/

/-- The state with the chronometer at an instant and a fraction. -/
def State.atInstant (s : State) (ns frac : Nat) : State := { s with chr := { s.chr with ns := ns, frac := frac } }

/-- What happens at an instant in 2^-16 ns that can be reached happens with the chronometer moved, and nothing else changed. -/
theorem atFine_run {s : State} {t : Nat} (h : s.reachesFine t = true) (p : Prog) :
    ∃ ns frac, (atFine t p).run s = p.run (s.atInstant ns frac) := by
  simp only [atFine, run_cons, run_nil, advanceFine, run_read, run_whenP, modChr, run_eff]
  simp only [State.reachesFine, State.fine, Bool.or_eq_true, decide_eq_true_eq, Bool.not_eq_true'] at h
  split
  next hmove =>
    refine ⟨t / 65536, t % 65536, ?_⟩
    have hreached : t ≤ ((Eff.chr fun c => { c with ns := t / 65536, frac := t % 65536 }).apply s).fine := by
      simp only [State.fine, apply_chr]; omega
    rw [decide_eq_true hreached, if_pos rfl]
    rfl
  next hstay =>
    refine ⟨s.chr.ns, s.chr.frac, ?_⟩
    have hreached : t ≤ s.fine := by
      simp only [State.fine]
      rcases h with (hpast | hfree) | hdue
      · exact of_decide_eq_true hpast
      all_goals
        by_contra hlt
        refine hstay ?_
        simp only [Bool.and_eq_true, Bool.or_eq_true, decide_eq_true_eq, beq_iff_eq, Bool.not_eq_true']
      · exact ⟨by omega, .inl hfree⟩
      · exact ⟨by omega, .inr hdue⟩
    rw [decide_eq_true hreached, if_pos rfl]
    rfl

/-- Moving the chronometer forward sets its instant, and nothing but its unit changes. -/
theorem movedTo_atInstant (s : State) (ns : Nat) : ∃ frac, s.movedTo ns = s.atInstant (max s.chr.ns ns) frac := by
  unfold State.movedTo
  split
  next hlt => exact ⟨0, by rw [Nat.max_eq_right (Nat.le_of_lt hlt)]; rfl⟩
  next hge => exact ⟨s.chr.frac, by rw [Nat.max_eq_left (Nat.le_of_not_lt hge)]; rfl⟩

/-! ### What a command answers -/

theorem finish_next {p : Prog} {s : State} {P : State → Prop} (h : P (p.run s.quiet)) : ∃ t, finish p s = .next t ∧ P t := ⟨_, rfl, h⟩

/-- A command at an instant in 2^-16 ns that can be reached answers what its program does there. -/
theorem atFine_next {p : Prog} {s : State} {at_ : Nat} {P : State → Prop} (h : s.reachesFine at_ = true)
    (hp : ∀ ns frac, P (p.run (s.quiet.atInstant ns frac))) : ∃ t, finish (atFine at_ p) s = .next t ∧ P t := by
  obtain ⟨ns, frac, hrun⟩ := atFine_run (s := s.quiet) h p
  exact finish_next (by rw [hrun]; exact hp ns frac)

/-- A command at an instant in ns that can be reached answers what its program does there. -/
theorem atNs_next {p : Prog} {s : State} {at_ : Nat} {P : State → Prop} (h : s.reaches at_ = true)
    (hp : ∀ frac, P (p.run (s.quiet.atInstant (max s.chr.ns at_) frac))) : ∃ t, finish (atNs at_ p) s = .next t ∧ P t := by
  obtain ⟨frac, hmoved⟩ := movedTo_atInstant s.quiet at_
  exact finish_next (by rw [atNs_run (s := s.quiet) p h, hmoved]; exact hp frac)

/-- A command whose condition holds answers what its program does. -/
theorem whenP_next {c : Bool} {p : Prog} {s : State} {P : State → Prop} (hc : c = true) (h : ∃ t, finish p s = .next t ∧ P t) :
    ∃ t, finish (whenP c p) s = .next t ∧ P t := by
  rw [hc]; exact h

end Sys2Proof.Machine

/-! SUPPORT. The proof of the statement of the chronometer's registers (file 02; Machine/Chronometer.lean, Machine/Ops.lean). -/

namespace Sys2Proof.Machine

/-- A signed value that 32 bits hold reads back as it was written. -/
theorem signedOf_encodeSigned_32 {v : Int} (hlo : -2147483648 ≤ v) (hhi : v < 2147483648) :
    signedOf (encodeSigned v 32 % 2 ^ 32) 32 = v := by
  simp only [signedOf, encodeSigned, Nat.reducePow, Int.reducePow, Nat.reduceSub]
  split_ifs <;> omega

/-- A trim reads back clamped to 100 ppm (R23). -/
theorem setTrim_trim (v : Int) (s : State) : signedOf (((setTrim v).run s).fld Fld.CHR_RATE_TRIM.TRIM) 32 = clampTrim v := by
  have hclamp : -429497 ≤ clampTrim v ∧ clampTrim v ≤ 429497 := by unfold clampTrim; omega
  simp only [setTrim, run_cons, run_nil, run_put, modChr, run_eff, fld_chr, fld_fld_same]
  exact signedOf_encodeSigned_32 (by omega) (by omega)

theorem setTrim_keeps (v : Int) (s : State) : keepsBut [(Fld.CHR_RATE_TRIM.TRIM, 0)] s ((setTrim v).run s) := by
  simp only [setTrim, run_cons, run_nil, run_put, modChr, run_eff]
  exact (keepsBut_fld (by simp) _ s).chr _

theorem run_rateTrim (v : Nat) (s : State) : (rateTrim v).run s =
    if s.bit Fld.CHR_CTRL.SERVO_EN && s.reference then s else (setTrim (signedOf v 32)).run s := by
  simp only [rateTrim, run_read, run_whenP]
  cases s.bit Fld.CHR_CTRL.SERVO_EN && s.reference <;> rfl

theorem mirrorNote_tree (rtype index : Nat) (data : List Byte) (s : State) : ((mirrorNote rtype index data).run s).tree = s.tree :=
  run_tree (mirrorNote_within (pm := 0x20000000000) (by decide) rtype index data) (by decide) s

/-- Writing a bearing changes that bearing of the tree logic, and nothing else of it. -/
theorem putBearing_tree (a : Nat) (b : Bearing) (s : State) :
    ((putBearing a b).run s).tree = { s.tree with bearings := tset {} s.tree.bearings a b } := by
  simp only [putBearing, run_read, run_cons, run_nil, run_whenP]
  split
  · exact mirrorNote_tree _ _ _ _
  · rfl

theorem bearing_putBearing_same (a : Nat) (b : Bearing) (s : State) : ((putBearing a b).run s).bearing a = b := by
  simp only [State.bearing, putBearing_tree, tget, tset, Sparse.get_set_same]

theorem timeSnapshot_keeps (s : State) : keepsBut [(Fld.CHR_TIME_LO.NS_LO, 0), (Fld.CHR_TIME_HI.NS_HI, 0), (Fld.CHR_TIME_FRAC.FRAC, 0),
    (Fld.CHR_TICK_LO.TICK_LO, 0), (Fld.CHR_TICK_HI.TICK_HI, 0)] s (timeSnapshot.run s) := by
  simp only [timeSnapshot, run_read, run_cons, run_nil, run_put]
  exact ((((keepsBut_fld (by simp) _ s).fld (by simp) _).fld (by simp) _).fld (by simp) _).fld (by simp) _

/-- Settles O19: each register command is a few writes of fields, or one write to the bearing table. -/
theorem theChronometerRegisters : Obligations.TheChronometerRegisters := by
  unfold Obligations.TheChronometerRegisters
  refine ⟨?snapshot, ?trim, ?owned, ?commit, ?asym⟩
  case snapshot =>
    intro s
    refine ⟨timeSnapshot.run s.quiet, rfl, ?_, ?_, ?_, ?_, ?_,
      run_chr (timeSnapshot_within (pm := 0x1) (by decide)) (by decide) _, timeSnapshot_keeps s.quiet⟩
    all_goals
      simp (disch := decide) only [timeSnapshot, run_read, run_cons, run_nil, run_put, fld_fld_same, fld_fld_ne]
      rfl
  case trim =>
    intro v s hfree
    have hrun := (run_rateTrim v s.quiet).trans (if_neg (by exact ne_true_of_eq_false hfree))
    refine ⟨(rateTrim v).run s.quiet, rfl, ?_, ?_⟩ <;> rw [hrun]
    · exact setTrim_trim _ _
    · exact setTrim_keeps _ s.quiet
  case owned =>
    intro v s hservo href
    have hrun := (run_rateTrim v s.quiet).trans (if_pos (Bool.and_eq_true_iff.mpr ⟨hservo, href⟩))
    refine ⟨(rateTrim v).run s.quiet, rfl, ?_, ?_⟩ <;> rw [hrun]
    · rfl
    · exact keepsBut_quiet _ s
  case commit =>
    intro s hidle
    refine ⟨chrCommitReg.run s.quiet, rfl, ?_⟩
    simp only [chrCommitReg, run_read, run_whenP, quiet_bit, hidle, Bool.not_false, if_true, run_cons, run_nil, run_raise, modChr, run_eff]
    refine ⟨?_, rfl, ((keepsBut_quiet _ s).fld (by simp) 1).chr _⟩
    simp only [State.bit, fld_chr, fld_fld_same]
    rfl
  case asym =>
    intro a v s ha
    refine ⟨(asymWrite a v).run s.quiet, rfl, ?_,
      keepsBut_run (asymWrite_within (pm := 0x20040000000) (by decide) a v) (by decide) [] s.quiet⟩
    simp only [asymWrite, run_read, run_whenP, ha, decide_true, if_true]
    exact bearing_putBearing_same _ _ _
end Sys2Proof.Machine

/-! SUPPORT. The proof of the statement of the references and of their loss (file 02; Machine/Chronometer.lean). -/

namespace Sys2Proof.Machine

/-! ### What the role in a time domain and the servo's ratio depend on -/

@[simp] theorem quiet_role (s : State) : s.quiet.role = s.role := rfl
@[simp] theorem role_chr (f : ChronUnit → ChronUnit) (s : State) : ((Eff.chr f).apply s).role = s.role := rfl
/-- The held ratio depends on the lock, the trims, the instant, the role and SERVO_EN (R54). -/
theorem heldTrim_congr {s t : State} (hlock : t.chr.lockAt = s.chr.lockAt) (htrims : t.chr.trims = s.chr.trims)
    (hns : t.chr.ns = s.chr.ns) (hrole : t.role = s.role) (hservo : t.bit Fld.CHR_CTRL.SERVO_EN = s.bit Fld.CHR_CTRL.SERVO_EN)
    (free : Nat) : t.heldTrim free = s.heldTrim free := by
  simp only [State.heldTrim, hlock, htrims, hns, hrole, hservo]

/-- Writing another field leaves the role. -/
theorem role_fld {f : Field} (hrole : f.row ≠ Fld.CHR_SYNC_CFG.ROLE.row) (hpair : f.row ≠ Fld.PAIR_STATUS.ROLE.row) (n v : Nat)
    (s : State) : ((Eff.fld f n v).apply s).role = s.role := by
  simp [State.role, State.standby, fld_fld_ne (Ne.symm hrole), fld_fld_ne (Ne.symm hpair)]

/-! ### Acquiring, locking and disciplining (R51) -/

/-- What the discipline to a reference leaves of what the chronometer keeps of its domain: all but the misses, of which it may clear those that count. -/
def ChronUnit.DomainKept (c d : ChronUnit) : Prop :=
  d.syncSeen = c.syncSeen ∧ d.upRootId = c.upRootId ∧ d.rootEpoch = c.rootEpoch ∧ d.domainStep = c.domainStep ∧
    (c.missRun = 0 → d.missRun = 0)

theorem ChronUnit.DomainKept.trans {a b c : ChronUnit} (hab : a.DomainKept b) (hbc : b.DomainKept c) : a.DomainKept c := by
  obtain ⟨h1, h2, h3, h4, h5⟩ := hab
  obtain ⟨g1, g2, g3, g4, g5⟩ := hbc
  exact ⟨g1.trans h1, g2.trans h2, g3.trans h3, g4.trans h4, fun h => g5 (h5 h)⟩

theorem domainKept_of_chr_eq {s t : State} (h : t.chr = s.chr) : s.chr.DomainKept t.chr := by
  rw [h]; exact ⟨rfl, rfl, rfl, rfl, id⟩

theorem acquire_domainKept (s : State) : s.chr.DomainKept (acquire.run s).chr := by
  simp only [acquire, run_read, run_whenP]
  split
  · exact ⟨rfl, rfl, rfl, rfl, fun _ => rfl⟩
  · exact domainKept_of_chr_eq rfl

/-- Acquiring writes TIME_STATE and no other field. -/
theorem acquire_fld {f : Field} (hf : f.row ≠ Fld.CHR_STATUS.TIME_STATE.row) (n : Nat) (s : State) :
    (acquire.run s).fld f n = s.fld f n := by
  simp only [acquire, run_read, run_whenP]
  split
  · simp only [run_cons, run_nil, modChr, run_eff, run_put, fld_fld_ne hf, fld_chr]
  · rfl

/-- In ACQUIRING there is nothing to acquire. -/
theorem run_acquire_of_acquiring {s : State} (h : s.fld Fld.CHR_STATUS.TIME_STATE = 1) : acquire.run s = s := by
  simp [acquire, h]

theorem timeLocked_chr (s : State) :
    (timeLocked.run s).chr = { s.chr with drReason := 0, degradedPosted := false, lockAt := some s.chr.ns } := by
  simp only [timeLocked, run_read, run_cons, run_nil, run_whenP, apply_ite State.chr, postEvent_chr, ite_self, modChr, run_eff, apply_chr,
    run_put, run_clear, apply_fld]

/-- Locking writes TIME_STATE, EST_NS and DEGRADED; what it posts is in no register of the chronometer. -/
theorem timeLocked_fld {f : Field} (hf : blockOf f.row = 0) (n : Nat) (s : State) :
    (timeLocked.run s).fld f n = ((Eff.fld Fld.CHR_STATUS.DEGRADED 0 0).apply ((Eff.fld Fld.CHR_HOLDOVER.EST_NS 0 0).apply
      ((Eff.fld Fld.CHR_STATUS.TIME_STATE 0 2).apply s))).fld f n := by
  have hpost (code detail : Nat) (u : State) : ((postEvent 0 code detail).run u).fld f n = u.fld f n :=
    postEvent_fld (by rw [hf]; decide) _ _ _ _ _ _
  simp only [timeLocked, run_read, run_cons, run_nil, run_whenP, apply_ite (State.fld · f n), hpost, ite_self, modChr, run_eff, fld_chr,
    run_put, run_clear]

/-- The last of the good samples that locking takes locks (R51). -/
theorem run_sample_locks {s : State} {n : Nat} (hstate : s.fld Fld.CHR_STATUS.TIME_STATE = 1) (hrun : n ≤ s.chr.goodRun + 1) :
    (sample true n).run s = timeLocked.run ((Eff.chr fun c => { c with goodRun := 0 }).apply s) := by
  simp [sample, hstate, hrun, modChr]

theorem sample_domainKept (good : Bool) (n : Nat) (s : State) : s.chr.DomainKept ((sample good n).run s).chr := by
  simp only [sample, run_read, run_whenP]
  split
  · split
    · exact ⟨rfl, rfl, rfl, rfl, id⟩
    · split
      · rw [run_cons, run_cons, run_nil, timeLocked_chr]
        exact ⟨rfl, rfl, rfl, rfl, id⟩
      · exact ⟨rfl, rfl, rfl, rfl, id⟩
  · exact domainKept_of_chr_eq rfl

/-- A sample writes no field of the chronometer but those that locking writes. -/
theorem sample_fld {f : Field} (hf : blockOf f.row = 0) (hstate : f.row ≠ Fld.CHR_STATUS.TIME_STATE.row)
    (hest : f.row ≠ Fld.CHR_HOLDOVER.EST_NS.row) (hdegraded : f.row ≠ Fld.CHR_STATUS.DEGRADED.row) (good : Bool) (k n : Nat) (s : State) :
    ((sample good k).run s).fld f n = s.fld f n := by
  simp only [sample, run_read, run_whenP]
  split
  · split
    · rfl
    · split
      · rw [run_cons, run_cons, run_nil, timeLocked_fld hf, fld_fld_ne hdegraded, fld_fld_ne hest, fld_fld_ne hstate]
        rfl
      · rfl
  · rfl

/-- The servo does nothing or sets the trim (R23). -/
theorem run_servo (offset : Int) (large : Bool) (s : State) :
    (servo offset large).run s = s ∨ ∃ v, (servo offset large).run s = (setTrim v).run s := by
  simp only [servo, run_read, run_whenP]
  split
  · split
    · exact .inr ⟨_, rfl⟩
    · exact .inr ⟨_, rfl⟩
  · exact .inl rfl

theorem servo_domainKept (offset : Int) (large : Bool) (s : State) : s.chr.DomainKept ((servo offset large).run s).chr := by
  obtain h | ⟨v, h⟩ := run_servo offset large s
  · rw [h]; exact domainKept_of_chr_eq rfl
  · rw [h]; exact ⟨rfl, rfl, rfl, rfl, id⟩

theorem servo_fld {f : Field} (hf : f.row ≠ Fld.CHR_RATE_TRIM.TRIM.row) (offset : Int) (large : Bool) (n : Nat) (s : State) :
    ((servo offset large).run s).fld f n = s.fld f n := by
  obtain h | ⟨v, h⟩ := run_servo offset large s
  · rw [h]
  · rw [h]
    simp only [setTrim, run_cons, run_nil, run_put, modChr, run_eff, fld_chr, fld_fld_ne hf]

/-! ### Losing the reference (R54) -/

/-- On entry to DEAD_RECKONING the ratio is held and a free value taken. -/
theorem deadReckon_chr {s : State} (h : s.fld Fld.CHR_STATUS.TIME_STATE = 1 ∨ s.fld Fld.CHR_STATUS.TIME_STATE = 2) (reason : Nat) :
    ((deadReckon reason).run s).chr = { s.chr with
      heldRatio := s.heldTrim (Config.freeValue s.free % 2 ^ 64), drReason := reason, missRun := 0, goodRun := 0, holdAt := s.chr.ns } := by
  simp only [deadReckon, run_read, run_whenP, Bool.or_eq_true, beq_iff_eq, if_pos h, withFree, run_seq, run_eff, run_cons, run_nil,
    postEvent_chr, apply_ite State.chr, run_raise, run_put, run_clear, modChr, apply_chr, apply_fld, apply_takeFree, ite_self]

theorem deadReckon_free {s : State} (h : s.fld Fld.CHR_STATUS.TIME_STATE = 1 ∨ s.fld Fld.CHR_STATUS.TIME_STATE = 2) (reason : Nat) :
    ((deadReckon reason).run s).free = s.free + 1 := by
  have hpost (code detail : Nat) (u : State) : ((postEvent 0 code detail).run u).free = u.free :=
    run_free (postEvent_within (pm := 0x7540580) (by decide) _ _ _ _) (by decide) u
  simp only [deadReckon, run_read, run_whenP, Bool.or_eq_true, beq_iff_eq, if_pos h, withFree, run_seq, run_eff, run_cons, run_nil, hpost,
    apply_ite State.free, run_raise, run_put, run_clear, modChr, apply_chr, apply_fld, apply_takeFree, ite_self]

/-- What DEAD_RECKONING shows in the chronometer's registers: its state, no lock to SYNC_UP, and SYNC_LOST where the domain was lost. -/
theorem deadReckon_fld {s : State} (h : s.fld Fld.CHR_STATUS.TIME_STATE = 1 ∨ s.fld Fld.CHR_STATUS.TIME_STATE = 2) (reason : Nat)
    {f : Field} (hf : blockOf f.row = 0) (n : Nat) :
    ((deadReckon reason).run s).fld f n = ((whenP (reason == 2) (raise Fld.CHR_STATUS.SYNC_LOST)).run
      ((Eff.fld Fld.CHR_SYNC_STATUS.UP_LOCKED 0 0).apply ((Eff.fld Fld.CHR_STATUS.TIME_STATE 0 3).apply s))).fld f n := by
  have hpost (code detail : Nat) (u : State) : ((postEvent 0 code detail).run u).fld f n = u.fld f n :=
    postEvent_fld (by rw [hf]; decide) _ _ _ _ _ _
  simp only [deadReckon, run_read, run_whenP, Bool.or_eq_true, beq_iff_eq, if_pos h, withFree, run_seq, run_eff, run_cons, run_nil, hpost,
    apply_ite (State.fld · f n), run_raise, run_put, run_clear, modChr]
  split
  · exact fld_congr (by simp only [apply_fld, apply_chr, apply_takeFree]) _ _
  · exact fld_congr (by simp only [apply_fld, apply_chr, apply_takeFree]) _ _

theorem deadReckon_timeState {s : State} (h : s.fld Fld.CHR_STATUS.TIME_STATE = 1 ∨ s.fld Fld.CHR_STATUS.TIME_STATE = 2) (reason : Nat) :
    ((deadReckon reason).run s).fld Fld.CHR_STATUS.TIME_STATE = 3 := by
  rw [deadReckon_fld h reason (by decide), run_whenP, apply_ite (State.fld · _ _), run_raise, fld_fld_ne (by decide),
    fld_fld_ne (by decide), fld_fld_same, ite_self]
  rfl

/-! ### TIME_IN (R50) -/

theorem standby_congr {s t : State} (h : t.regs = s.regs) : t.standby = s.standby := by
  simp only [State.standby, fld_congr h]

theorem role_congr {s t : State} (h : t.regs = s.regs) : t.role = s.role := by
  unfold State.role; rw [fld_congr h, standby_congr h]

theorem ppsOn_congr {s t : State} (h : t.regs = s.regs) : t.ppsOn = s.ppsOn := by
  simp only [State.ppsOn, State.bit, fld_congr h, standby_congr h]

/-- The state in which TIME_IN_EDGE looks at an edge: its instant is reached and it is timestamped. -/
def State.atEdge (s : State) (ns frac t8 : Nat) : State := (Eff.chr fun c => { c with timeInAt := some t8 }).apply (s.quiet.atInstant ns frac)

theorem atEdge_eq (s : State) (ns frac t8 : Nat) :
    (Eff.chr fun c => { c with timeInAt := some t8 }).apply (s.quiet.atInstant ns frac) = s.atEdge ns frac t8 := rfl

theorem atEdge_regs (s : State) (ns frac t8 : Nat) : (s.atEdge ns frac t8).regs = s.regs := rfl

/-- An edge is looked at while disciplining to a PPS with no spread spectrum (R50). -/
theorem atEdge_used {s : State} (hon : s.ppsOn = true) (hrole : s.role ≠ 2) (hssc : s.bit Fld.CHR_STATUS.SSC_ACTIVE = false)
    (ns frac t8 : Nat) : (!(s.atEdge ns frac t8).ppsOn || (s.atEdge ns frac t8).role == 2 ||
      (s.atEdge ns frac t8).bit Fld.CHR_STATUS.SSC_ACTIVE) = false := by
  have hregs := atEdge_regs s ns frac t8
  rw [ppsOn_congr hregs, role_congr hregs, State.bit, fld_congr hregs, ← State.bit, hon, hssc]
  simpa using hrole

theorem timeInEdge_outlier {t8 : Nat} {s : State} (hon : s.ppsOn = true) (hrole : s.role ≠ 2)
    (hssc : s.bit Fld.CHR_STATUS.SSC_ACTIVE = false) (hreach : s.reachesFine (65536 * s.whenChron (t8 / 256) + t8 % 256 * 256) = true)
    (hlocked : s.fld Fld.CHR_STATUS.TIME_STATE = 2) (hfar : max 1 (s.fld Fld.CHR_PPS_CFG.WINDOW) * 256 <
      (ppsError t8 (signedOf (s.fld Fld.CHR_PPS_OFFSET.OFFSET) 32)).natAbs) :
    ∃ t, exec (.timeInEdge t8) s = .next t ∧ t.bit Fld.CHR_STATUS.PPS_OUTLIER = true ∧ t.chr.timeInAt = some t8 ∧
      keepsBut [(Fld.CHR_STATUS.PPS_OUTLIER, 0)] s t := by
  refine atFine_next hreach fun ns frac => ?_
  have hregs := atEdge_regs s ns frac t8
  simp only [run_cons, run_nil, modChr, run_eff, run_read, atEdge_eq, atEdge_used hon hrole hssc, fld_congr hregs, hlocked, gt_iff_lt, hfar, and_self,
    if_true, Bool.false_eq_true, if_false, run_raise]
  exact ⟨by rw [State.bit, fld_fld_same]; rfl, rfl, keepsBut_fld (by simp) _ (s.atEdge ns frac t8)⟩

/-- With PPS disciplining off an edge is timestamped, and nothing else changes. -/
theorem timeInEdge_off {t8 : Nat} {s : State} (hoff : s.ppsOn = false)
    (hreach : s.reachesFine (65536 * s.whenChron (t8 / 256) + t8 % 256 * 256) = true) :
    ∃ t, exec (.timeInEdge t8) s = .next t ∧ t.chr.timeInAt = some t8 ∧ keepsBut [] s t := by
  refine atFine_next hreach fun ns frac => ?_
  have hoff' : (s.atEdge ns frac t8).ppsOn = false := (ppsOn_congr (atEdge_regs s ns frac t8)).trans hoff
  simp only [run_cons, run_nil, modChr, run_eff, run_read, atEdge_eq, hoff', Bool.not_false, Bool.true_or, if_true, run_skip]
  exact ⟨rfl, keepsBut_of_regs rfl⟩

/-- The state in which the samples of a used edge are judged: its error is shown and no edge is missing. -/
def State.atError (u : State) (e : Int) : State :=
  (Eff.fld Fld.CHR_PPS_ERROR.ERROR 0 (encodeSigned (saturateSigned e 32) 32)).apply ((Eff.chr fun c => { c with missRun := 0 }).apply u)

theorem atError_eq (u : State) (e : Int) : (Eff.fld Fld.CHR_PPS_ERROR.ERROR 0 (encodeSigned (saturateSigned e 32) 32)).apply
    ((Eff.chr fun c => { c with missRun := 0 }).apply u) = u.atError e := rfl

theorem encodeSigned_lt (v : Int) (w : Nat) : encodeSigned v w < 2 ^ w := by
  have hpos : (0 : Int) < 2 ^ w := by positivity
  have hlt := Int.emod_lt_of_pos v hpos
  have hnonneg := Int.emod_nonneg v hpos.ne'
  unfold encodeSigned
  zify
  rw [Int.toNat_of_nonneg hnonneg]
  exact_mod_cast hlt

/-- The eighth good edge in a row locks. -/
theorem timeInEdge_locks {t8 : Nat} {s : State} (hon : s.ppsOn = true) (hrole : s.role ≠ 2)
    (hssc : s.bit Fld.CHR_STATUS.SSC_ACTIVE = false) (hreach : s.reachesFine (65536 * s.whenChron (t8 / 256) + t8 % 256 * 256) = true)
    (hstate : s.fld Fld.CHR_STATUS.TIME_STATE = 1) (hrun : 7 ≤ s.chr.goodRun) (hstep : s.chr.stepTick ≠ some s.chr.tick)
    (hgood : (ppsError t8 (signedOf (s.fld Fld.CHR_PPS_OFFSET.OFFSET) 32)).natAbs < 25600) :
    ∃ t, exec (.timeInEdge t8) s = .next t ∧ t.fld Fld.CHR_STATUS.TIME_STATE = 2 ∧ t.fld Fld.CHR_HOLDOVER.EST_NS = 0 ∧
      t.bit Fld.CHR_STATUS.DEGRADED = false ∧ t.fld Fld.CHR_PPS_ERROR.ERROR =
        encodeSigned (saturateSigned (ppsError t8 (signedOf (s.fld Fld.CHR_PPS_OFFSET.OFFSET) 32)) 32) 32 ∧ t.chr.missRun = 0 := by
  refine atFine_next hreach fun ns frac => ?_
  have hregs := atEdge_regs s ns frac t8
  have hstep' : ((s.atEdge ns frac t8).chr.stepTick != some (s.atEdge ns frac t8).tick) = true := bne_iff_ne.mpr hstep
  generalize he : ppsError t8 (signedOf (s.fld Fld.CHR_PPS_OFFSET.OFFSET) 32) = e at hgood ⊢
  obtain ⟨v, hv⟩ : ∃ v, v = (s.atEdge ns frac t8).atError e := ⟨_, rfl⟩
  have hstate' : v.fld Fld.CHR_STATUS.TIME_STATE = 1 := by
    rw [hv, State.atError, fld_fld_ne (by decide), fld_chr, fld_congr hregs, hstate]
  have hrun' : 8 ≤ v.chr.goodRun + 1 := by rw [hv]; exact Nat.succ_le_succ hrun
  have hmiss : v.chr.missRun = 0 := by rw [hv]; rfl
  have herror : v.fld Fld.CHR_PPS_ERROR.ERROR = encodeSigned (saturateSigned e 32) 32 := by
    rw [hv, State.atError, fld_fld_same]
    exact Nat.mod_eq_of_lt (encodeSigned_lt _ 32)
  simp only [run_cons, run_nil, modChr, run_eff, run_read, run_whenP, run_put, atEdge_eq, atEdge_used hon hrole hssc, fld_congr hregs, hstate, he,
    Nat.reduceEqDiff, false_and, Bool.false_eq_true, if_false, hstep', if_true, atError_eq, ← hv, run_acquire_of_acquiring hstate',
    decide_eq_true hgood, Nat.reduceMul, run_sample_locks hstate' hrun']
  generalize hw : (Eff.chr fun c => { c with goodRun := 0 }).apply v = w
  obtain ⟨-, -, -, -, hmissKept⟩ := (sample_domainKept true 8 v).trans (servo_domainKept (e * 256) (decide (e.natAbs ≥ 25600)) _)
  have hkept := hmissKept hmiss
  rw [run_sample_locks hstate' hrun', hw] at hkept
  refine ⟨?_, ?_, ?_, ?_, hkept⟩
  · rw [servo_fld (by decide), timeLocked_fld (by decide), fld_fld_ne (by decide), fld_fld_ne (by decide), fld_fld_same]; rfl
  · rw [servo_fld (by decide), timeLocked_fld (by decide), fld_fld_ne (by decide), fld_fld_same]; rfl
  · rw [State.bit, servo_fld (by decide), timeLocked_fld (by decide), fld_fld_same]; rfl
  · rw [servo_fld (by decide), timeLocked_fld (by decide), fld_fld_ne (by decide), fld_fld_ne (by decide), fld_fld_ne (by decide), ← hw,
      fld_chr, herror]

/-! ### Missing edges and sync frames (R54) -/

/-- PPS_MISSED counts while a PPS disciplines the chronometer. -/
theorem ppsMissed_next {s : State} {P : State → Prop} (hon : s.ppsOn = true) (hrole : s.role ≠ 2)
    (hstate : s.fld Fld.CHR_STATUS.TIME_STATE = 2)
    (h : ∀ u, u = (Eff.chr fun c => { c with missRun := c.missRun + 1, goodRun := 0 }).apply
        ((Eff.fld Fld.CHR_STATUS.PPS_MISSED 0 1).apply s.quiet) →
      P (if 2 ≤ s.chr.missRun + 1 then (deadReckon 1).run u else u)) :
    ∃ t, exec .ppsMissed s = .next t ∧ P t := by
  have hused : (s.ppsOn && s.role != 2 && (s.fld Fld.CHR_STATUS.TIME_STATE == 1 || s.fld Fld.CHR_STATUS.TIME_STATE == 2)) = true := by
    simp [hon, hrole, hstate]
  refine whenP_next hused (finish_next ?_)
  simp only [run_cons, run_nil, run_raise, modChr, run_eff, run_read, run_whenP, apply_chr, apply_fld, quiet_chr, ge_iff_le,
    decide_eq_true_eq]
  exact h _ rfl

theorem ppsMissed_first {s : State} (hon : s.ppsOn = true) (hrole : s.role ≠ 2) (hstate : s.fld Fld.CHR_STATUS.TIME_STATE = 2)
    (hmiss : s.chr.missRun = 0) : ∃ t, exec .ppsMissed s = .next t ∧ t.fld Fld.CHR_STATUS.TIME_STATE = 2 ∧
      t.bit Fld.CHR_STATUS.PPS_MISSED = true ∧ t.chr = { s.chr with missRun := 1, goodRun := 0 } ∧
      keepsBut [(Fld.CHR_STATUS.PPS_MISSED, 0)] s t := by
  refine ppsMissed_next hon hrole hstate fun u hu => ?_
  rw [if_neg (by omega)]
  refine ⟨?_, ?_, ?_, ?_⟩
  · rw [hu, fld_chr, fld_fld_ne (by decide), quiet_fld, hstate]
  · rw [hu, State.bit, fld_chr, fld_fld_same]; rfl
  · simp only [hu, apply_chr, apply_fld, quiet_chr, hmiss]
  · rw [hu]; exact (keepsBut_fld (by simp) _ s.quiet).chr _

theorem ppsMissed_second {s : State} (hon : s.ppsOn = true) (hrole : s.role ≠ 2) (hstate : s.fld Fld.CHR_STATUS.TIME_STATE = 2)
    (hmiss : 1 ≤ s.chr.missRun) : ∃ t, exec .ppsMissed s = .next t ∧ t.fld Fld.CHR_STATUS.TIME_STATE = 3 ∧
      t.chr.heldRatio = s.heldTrim (Config.freeValue s.free % 2 ^ 64) ∧ t.free = s.free + 1 ∧ t.chr.drReason = 1 ∧
      t.chr.holdAt = s.chr.ns := by
  refine ppsMissed_next hon hrole hstate fun u hu => ?_
  have hstate' : u.fld Fld.CHR_STATUS.TIME_STATE = 1 ∨ u.fld Fld.CHR_STATUS.TIME_STATE = 2 := by
    rw [hu, fld_chr, fld_fld_ne (by decide), quiet_fld]; exact .inr hstate
  have hfree : u.free = s.free := by rw [hu]; rfl
  have hheld (k : Nat) : u.heldTrim k = s.heldTrim k := by
    refine heldTrim_congr (by rw [hu]; rfl) (by rw [hu]; rfl) (by rw [hu]; rfl) ?_ ?_ k
    · rw [hu, role_chr, role_fld (by decide) (by decide), quiet_role]
    · rw [hu, State.bit, fld_chr, fld_fld_ne (by decide)]; rfl
  rw [if_pos (by omega)]
  refine ⟨deadReckon_timeState hstate' 1, ?_, ?_, ?_, ?_⟩
  · rw [deadReckon_chr hstate', hheld, hfree]
  · rw [deadReckon_free hstate', hfree]
  · rw [deadReckon_chr hstate']
  · rw [deadReckon_chr hstate', hu]; rfl

theorem syncPeriodMissed_second {s : State} (hrole : s.role = 2) (hseen : s.chr.syncSeen = true)
    (hstate : s.fld Fld.CHR_STATUS.TIME_STATE = 1 ∨ s.fld Fld.CHR_STATUS.TIME_STATE = 2) (hmiss : 1 ≤ s.chr.missRun) :
    ∃ t, exec .syncPeriodMissed s = .next t ∧ t.fld Fld.CHR_STATUS.TIME_STATE = 3 ∧ t.bit Fld.CHR_STATUS.SYNC_LOST = true ∧
      t.bit Fld.CHR_SYNC_STATUS.UP_LOCKED = false ∧ t.chr.drReason = 2 := by
  have hused : (s.role == 2 && s.chr.syncSeen && (s.fld Fld.CHR_STATUS.TIME_STATE == 1 || s.fld Fld.CHR_STATUS.TIME_STATE == 2)) = true := by
    simpa [hrole, hseen] using hstate
  refine whenP_next hused (finish_next ?_)
  obtain ⟨u, hu⟩ : ∃ u, u = (Eff.chr fun c => { c with missRun := c.missRun + 1, goodRun := 0 }).apply s.quiet := ⟨_, rfl⟩
  have hstate' : u.fld Fld.CHR_STATUS.TIME_STATE = 1 ∨ u.fld Fld.CHR_STATUS.TIME_STATE = 2 := by rw [hu]; exact hstate
  have htwo : 2 ≤ u.chr.missRun := by rw [hu]; exact Nat.succ_le_succ hmiss
  simp only [run_cons, run_nil, modChr, run_eff, run_read, run_whenP, ← hu, ge_iff_le, htwo, decide_true, if_true]
  refine ⟨deadReckon_timeState hstate' 2, ?_, ?_, by rw [deadReckon_chr hstate']⟩
  · rw [State.bit, deadReckon_fld hstate' 2 (by decide), run_whenP, if_pos (beq_self_eq_true 2), run_raise, fld_fld_same]; rfl
  · rw [State.bit, deadReckon_fld hstate' 2 (by decide), run_whenP, if_pos (beq_self_eq_true 2), run_raise, fld_fld_ne (by decide), fld_fld_same]; rfl

/-! ### Holdover (R55) -/

theorem holdoverSecond_adds {s : State} (hstate : s.fld Fld.CHR_STATUS.TIME_STATE = 3) (hreach : s.reaches (s.chr.holdAt + 1000000000) = true) :
    ∃ t, exec .holdoverSecond s = .next t ∧
      t.fld Fld.CHR_HOLDOVER.EST_NS = min (s.fld Fld.CHR_HOLDOVER.EST_NS + s.fld Fld.CHR_HOLDOVER_CFG.PPB) (2 ^ 32 - 1) ∧
      (s.fld Fld.CHR_HOLDOVER_CFG.LIMIT_NS ≤ t.fld Fld.CHR_HOLDOVER.EST_NS → t.bit Fld.CHR_STATUS.DEGRADED = true) ∧
      t.fld Fld.CHR_STATUS.TIME_STATE = 3 ∧ t.chr.holdAt = s.chr.holdAt + 1000000000 := by
  refine whenP_next (beq_iff_eq.mpr hstate) (atNs_next hreach fun frac => ?_)
  obtain ⟨w, hw⟩ : ∃ w, w = (Eff.fld Fld.CHR_HOLDOVER.EST_NS 0 (min (s.fld Fld.CHR_HOLDOVER.EST_NS + s.fld Fld.CHR_HOLDOVER_CFG.PPB)
    (2 ^ 32 - 1))).apply ((Eff.chr fun c => { c with holdAt := s.chr.holdAt + 1000000000 }).apply
      (s.quiet.atInstant (max s.chr.ns (s.chr.holdAt + 1000000000)) frac)) := ⟨_, rfl⟩
  have hkeep {f : Field} (hf : f.row ≠ Fld.CHR_HOLDOVER.EST_NS.row) : w.fld f = s.fld f := by
    rw [hw, fld_fld_ne hf]; rfl
  have hest : w.fld Fld.CHR_HOLDOVER.EST_NS = min (s.fld Fld.CHR_HOLDOVER.EST_NS + s.fld Fld.CHR_HOLDOVER_CFG.PPB) (2 ^ 32 - 1) := by
    rw [hw, fld_fld_same]
    exact Nat.mod_eq_of_lt (by show _ < 2 ^ 32; omega)
  have hhold : w.chr.holdAt = s.chr.holdAt + 1000000000 := by rw [hw]; rfl
  have hshown : (countUp Fld.CHR_HOLDOVER.EST_NS 0 (s.fld Fld.CHR_HOLDOVER_CFG.PPB)).run
      ((Eff.chr fun c => { c with holdAt := s.chr.holdAt + 1000000000 }).apply
        (s.quiet.atInstant (max s.chr.ns (s.chr.holdAt + 1000000000)) frac)) = w := by rw [hw]; rfl
  simp only [run_cons, run_nil, modChr, run_eff, hshown, run_read, run_whenP]
  split
  next hlimit =>
    have hpost {f : Field} (hf : blockOf f.row = 0) (u : State) :
        ((postEvent 0 Ev.timeDegraded (timeDetail true 3 0)).run u).fld f = u.fld f := postEvent_fld (by rw [hf]; decide) _ _ _ _ _ _
    refine ⟨?_, fun _ => ?_, ?_, ?_⟩
    · rw [hpost (by decide), fld_chr, run_raise, fld_fld_ne (by decide), hest]
    · rw [State.bit, hpost (by decide), fld_chr, run_raise, fld_fld_same]; rfl
    · rw [hpost (by decide), fld_chr, run_raise, fld_fld_ne (by decide), hkeep (by decide), hstate]
    · rw [postEvent_chr]; exact hhold
  next hbelow =>
    refine ⟨hest, fun hlimit => ?_, by rw [hkeep (by decide), hstate], hhold⟩
    rw [← hkeep (by decide)] at hlimit
    simpa [hlimit] using hbelow

/-- Settles O20: what an edge, a missing edge or frame, and a second of holdover do, one lemma each. -/
theorem theReferenceLocksAndIsLost : Obligations.TheReferenceLocksAndIsLost := by
  unfold Obligations.TheReferenceLocksAndIsLost
  exact ⟨fun _ _ => timeInEdge_outlier, fun _ _ => timeInEdge_off, fun _ _ => timeInEdge_locks, fun _ => ppsMissed_first,
    fun _ => ppsMissed_second, fun _ => syncPeriodMissed_second, fun _ => holdoverSecond_adds⟩

end Sys2Proof.Machine

/-! SUPPORT. The proof of the statement of the chart's shadow (file 05; Machine/Chart.lean). -/

namespace Sys2Proof.Machine

theorem mirrorNote_chart (rtype index : Nat) (data : List Byte) (s : State) : ((mirrorNote rtype index data).run s).chart = s.chart :=
  run_chart (mirrorNote_within (pm := 0x20000000000) (by decide) rtype index data) (by decide) s

theorem mirrorNote_keeps (l : List (Field × Nat)) (rtype index : Nat) (data : List Byte) (s : State) :
    keepsBut l s ((mirrorNote rtype index data).run s) :=
  keepsBut_run (mirrorNote_within (pm := 0x20000000000) (by decide) rtype index data) (by decide) l s

/-- Writing elements of a field leaves the fields of other rows. -/
theorem forP_putN_fld {f g : Field} (h : g.row ≠ f.row) (l : List Nat) (v : Nat → Nat) (n : Nat) (s : State) :
    ((forP l fun p => putN f p (v p)).run s).fld g n = s.fld g n :=
  run_forP_keeps (fun a b => b.fld g n = a.fld g n) (fun _ => rfl) (fun _ _ _ hab hbc => hbc.trans hab) l _
    (fun p _ u => by rw [run_putN]; exact fld_fld_ne h _ _ _ _) s

/-! ### Banks -/

theorem bank_congr {s t : State} (h : t.chart = s.chart) (b : Nat) : t.bank b = s.bank b := by simp only [State.bank, h]
theorem safes_congr {s t : State} (h : t.chart = s.chart) (b : Nat) : t.safes b = s.safes b := by simp only [State.safes, h]

theorem activeIdx_congr {s t : State} (h : t.fld Fld.CHT_STATUS.ACTIVE_BANK = s.fld Fld.CHT_STATUS.ACTIVE_BANK) :
    t.activeIdx = s.activeIdx := h

theorem shadowIdx_congr {s t : State} (h : t.fld Fld.CHT_STATUS.ACTIVE_BANK = s.fld Fld.CHT_STATUS.ACTIVE_BANK) :
    t.shadowIdx = s.shadowIdx := by rw [State.shadowIdx, State.shadowIdx, activeIdx_congr h]

/-- Of the active bank and the shadow one is bank A. -/
theorem shadowIdx_eq_zero_iff (s : State) : s.shadowIdx = 0 ↔ s.activeIdx ≠ 0 := by unfold State.shadowIdx; omega

theorem bank_setBank_shadow (m : List (Nat × ChartEntry)) (s : State) : ((setBank s.shadowIdx m).run s).bank s.shadowIdx = m := by
  by_cases h : s.shadowIdx = 0 <;> simp [setBank, modChart, State.bank, h]

theorem bank_setBank_active (m : List (Nat × ChartEntry)) (s : State) :
    ((setBank s.shadowIdx m).run s).bank s.activeIdx = s.bank s.activeIdx := by
  have hother := shadowIdx_eq_zero_iff s
  by_cases h : s.shadowIdx = 0 <;> simp_all [setBank, modChart, State.bank]

theorem safes_setSafes_shadow (m : List (Nat × List Byte)) (s : State) : ((setSafes s.shadowIdx m).run s).safes s.shadowIdx = m := by
  by_cases h : s.shadowIdx = 0 <;> simp [setSafes, modChart, State.safes, h]

theorem bank_setSafes (b c : Nat) (m : List (Nat × List Byte)) (s : State) : ((setSafes b m).run s).bank c = s.bank c := by
  by_cases h : b = 0 <;> simp [setSafes, modChart, State.bank, h]

theorem setBank_fld (b : Nat) (m : List (Nat × ChartEntry)) (f : Field) (n : Nat) (s : State) :
    ((setBank b m).run s).fld f n = s.fld f n := rfl
theorem setSafes_fld (b : Nat) (m : List (Nat × List Byte)) (f : Field) (n : Nat) (s : State) :
    ((setSafes b m).run s).fld f n = s.fld f n := rfl

theorem bank_fld (f : Field) (n v b : Nat) (s : State) : ((Eff.fld f n v).apply s).bank b = s.bank b := by
  simp only [State.bank, apply_fld]
theorem safes_fld (f : Field) (n v b : Nat) (s : State) : ((Eff.fld f n v).apply s).safes b = s.safes b := by
  simp only [State.safes, apply_fld]

/-! ### The check of the shadow (R155) -/

/-- Whether a leg fits its node depends on the tree alone. -/
theorem legFits_congr {s t : State} (h : t.tree = s.tree) (e : ChartEntry) : t.legFits e = s.legFits e :=
  calc t.legFits e = State.legFits { s with tree := t.tree } e := rfl
    _ = s.legFits e := by rw [h]

/-- The slowest generation of a path depends on the tree alone. -/
theorem slowest_congr {s t : State} (h : t.tree = s.tree) : t.slowest = s.slowest :=
  calc t.slowest = State.slowest { s with tree := t.tree } := rfl
    _ = s.slowest := by rw [h]

/-- The check of an entry depends on the tree and on the reserves alone. -/
theorem entryReason_congr {s t : State} (htree : t.tree = s.tree)
    (hreserve : ∀ p, t.fld Fld.CHT_RESERVE.PERCENT p = s.fld Fld.CHT_RESERVE.PERCENT p) (legs : List (Nat × ChartEntry)) (n i : Nat)
    (e : ChartEntry) : t.entryReason legs n i e = s.entryReason legs n i e := by
  unfold State.entryReason State.reserveFails State.reserveLimit
  rw [hreserve, legFits_congr htree, node_congr htree]

/-- The check of a chart depends on the tree and on the reserves alone. -/
theorem checkChart_congr {s t : State} (htree : t.tree = s.tree)
    (hreserve : ∀ p, t.fld Fld.CHT_RESERVE.PERCENT p = s.fld Fld.CHT_RESERVE.PERCENT p) (bank : List (Nat × ChartEntry)) (n : Nat) :
    t.checkChart bank n = s.checkChart bank n := by
  unfold State.checkChart
  simp only [entryReason_congr htree hreserve, slowest_congr htree]

theorem refreshShadow_chart (s : State) : (refreshShadow.run s).chart = s.chart :=
  run_chart (refreshShadow_within (pm := 0x8) (by decide)) (by decide) s

theorem refreshShadow_tree (s : State) : (refreshShadow.run s).tree = s.tree :=
  run_tree (refreshShadow_within (pm := 0x8) (by decide)) (by decide) s

/-- Showing the check writes no field but those that show it. -/
theorem refreshShadow_fld {f : Field} (hvalid : f.row ≠ Fld.CHT_STATUS.SHADOW_VALID.row) (hreason : f.row ≠ Fld.CHT_CHECK.REASON.row)
    (hindex : f.row ≠ Fld.CHT_CHECK.INDEX.row) (hcount : f.row ≠ Fld.CHT_COUNT.SHADOW.row) (hbytes : f.row ≠ Fld.CHT_LEG_BUF.BYTES.row)
    (n : Nat) (s : State) : (refreshShadow.run s).fld f n = s.fld f n := by
  simp only [refreshShadow, run_read, run_cons, run_nil, run_put, fld_fld_ne hvalid, fld_fld_ne hreason, fld_fld_ne hindex, fld_fld_ne hcount,
    fld_fld_ne hbytes]

/-- After the check SHADOW_VALID says what the check of the shadow then in place says. -/
theorem refreshShadow_valid (s : State) : (refreshShadow.run s).bit Fld.CHT_STATUS.SHADOW_VALID =
    decide (((refreshShadow.run s).checkChart ((refreshShadow.run s).bank (refreshShadow.run s).shadowIdx)
      ((refreshShadow.run s).fld Fld.CHT_TICK_LEN.N)).1 = 0) := by
  have hkeep {f : Field} (hvalid : f.row ≠ Fld.CHT_STATUS.SHADOW_VALID.row) (hreason : f.row ≠ Fld.CHT_CHECK.REASON.row)
    (hindex : f.row ≠ Fld.CHT_CHECK.INDEX.row) (hcount : f.row ≠ Fld.CHT_COUNT.SHADOW.row) (hbytes : f.row ≠ Fld.CHT_LEG_BUF.BYTES.row) (n : Nat) :=
    refreshShadow_fld hvalid hreason hindex hcount hbytes n s
  have hshown : (refreshShadow.run s).fld Fld.CHT_STATUS.SHADOW_VALID =
      (if (s.checkChart (s.bank s.shadowIdx) (s.fld Fld.CHT_TICK_LEN.N)).1 = 0 then 1 else 0) % 2 ^ Fld.CHT_STATUS.SHADOW_VALID.w := by
    simp (disch := decide) only [refreshShadow, run_read, run_cons, run_nil, run_put, fld_fld_ne, fld_fld_same]
  rw [checkChart_congr (refreshShadow_tree s) (fun p => refreshShadow_fld (by decide) (by decide) (by decide) (by decide) (by decide) p s),
    bank_congr (refreshShadow_chart s), shadowIdx_congr (refreshShadow_fld (by decide) (by decide) (by decide) (by decide) (by decide) 0 s),
    refreshShadow_fld (by decide) (by decide) (by decide) (by decide) (by decide) 0 s, State.bit, hshown]
  split
  next h => rw [decide_eq_true h]; rfl
  next h => rw [decide_eq_false h]; rfl

/-! ### Writes to the shadowed set (R153 to R157) -/

theorem run_replayDone_idle {s : State} (h : s.bit Fld.CHT_STATUS.REPLAYING = false) : replayDone.run s = s := by
  simp [replayDone, h]

theorem run_shadowedWrite_open {s : State} (hopen : s.bit Fld.CHT_CTRL.EDIT_OPEN = true) (hpend : s.bit Fld.CHT_STATUS.PENDING = false)
    (hreplay : s.bit Fld.CHT_STATUS.REPLAYING = false) (busy : Bool) (p : Prog) :
    (shadowedWrite busy p).run s = refreshShadow.run (p.run s) := by
  simp [shadowedWrite, run_replayDone_idle hreplay, hopen, hpend]

theorem run_shadowedWrite_closed {s : State} (hopen : s.bit Fld.CHT_CTRL.EDIT_OPEN = false) (hpend : s.bit Fld.CHT_STATUS.PENDING = false)
    (hreplay : s.bit Fld.CHT_STATUS.REPLAYING = false) (busy : Bool) (p : Prog) :
    (shadowedWrite busy p).run s = (Eff.fld Fld.CHT_STATUS.EDIT_CLOSED 0 1).apply s := by
  simp [shadowedWrite, run_replayDone_idle hreplay, hopen, hpend]

/-- With the edit open, no COMMIT pending and no replay, SHADOW_WRITE writes its target and checks the shadow. -/
theorem shadowWrite_next {s : State} (hopen : s.bit Fld.CHT_CTRL.EDIT_OPEN = true) (hpend : s.bit Fld.CHT_STATUS.PENDING = false)
    (hreplay : s.bit Fld.CHT_STATUS.REPLAYING = false) (what idx word v : Nat) {P : State → Prop}
    (h : P (refreshShadow.run ((shadowTarget what idx word v).run s.quiet))) : ∃ t, exec (.shadowWrite what idx word v) s = .next t ∧ P t := by
  refine finish_next ?_
  rw [shadowWrite, run_read, run_shadowedWrite_open (s := s.quiet) hopen hpend hreplay]
  exact h

theorem putShadow_run (i : Nat) (e : ChartEntry) (s : State) : (putShadow i e).run s =
    (mirrorNote 3 i e.bytes).run ((setBank s.shadowIdx (tset {} (s.bank s.shadowIdx) i e)).run s) := rfl

theorem putShadow_fld (i : Nat) (e : ChartEntry) (f : Field) (n : Nat) (s : State) : ((putShadow i e).run s).fld f n = s.fld f n := by
  rw [putShadow_run, mirrorNote_keeps [] _ _ _ _ f n (by simp), setBank_fld]

theorem putShadow_bank (i : Nat) (e : ChartEntry) (b : Nat) (s : State) : ((putShadow i e).run s).bank b =
    ((setBank s.shadowIdx (tset {} (s.bank s.shadowIdx) i e)).run s).bank b := by
  rw [putShadow_run]; exact bank_congr (mirrorNote_chart _ _ _ _) b

theorem putSafe_run (i : Nat) (v : List Byte) (s : State) : (putSafe i v).run s =
    (mirrorNote 4 i v).run ((setSafes s.shadowIdx (tset [] (s.safes s.shadowIdx) i v)).run s) := rfl

theorem putSafe_fld (i : Nat) (v : List Byte) (f : Field) (n : Nat) (s : State) : ((putSafe i v).run s).fld f n = s.fld f n := by
  rw [putSafe_run, mirrorNote_keeps [] _ _ _ _ f n (by simp), setSafes_fld]

theorem putSafe_shadow (i : Nat) (v : List Byte) (s : State) :
    ((putSafe i v).run s).safes s.shadowIdx = tset [] (s.safes s.shadowIdx) i v := by
  rw [putSafe_run, safes_congr (mirrorNote_chart _ _ _ _), safes_setSafes_shadow]

/-- The banks in which the check of the shadow finds the active one and the shadow. -/
theorem refreshShadow_activeIdx (s : State) : (refreshShadow.run s).activeIdx = s.activeIdx :=
  activeIdx_congr (refreshShadow_fld (by decide) (by decide) (by decide) (by decide) (by decide) 0 s)

theorem refreshShadow_shadowIdx (s : State) : (refreshShadow.run s).shadowIdx = s.shadowIdx :=
  shadowIdx_congr (refreshShadow_fld (by decide) (by decide) (by decide) (by decide) (by decide) 0 s)

theorem shadowWrite_entry {idx word v : Nat} {s : State} (hopen : s.bit Fld.CHT_CTRL.EDIT_OPEN = true)
    (hpend : s.bit Fld.CHT_STATUS.PENDING = false) (hreplay : s.bit Fld.CHT_STATUS.REPLAYING = false) (hidx : idx < 16384) (hword : word < 4) :
    ∃ t, exec (.shadowWrite 0 idx word v) s = .next t ∧ t.shadowEntry idx = (s.shadowEntry idx).setWord word (v % 2 ^ 32) ∧
      t.bank t.activeIdx = s.bank s.activeIdx ∧
      t.bit Fld.CHT_STATUS.SHADOW_VALID = decide ((t.checkChart (t.bank t.shadowIdx) (t.fld Fld.CHT_TICK_LEN.N)).1 = 0) := by
  refine shadowWrite_next hopen hpend hreplay 0 idx word v ⟨?_, ?_, refreshShadow_valid _⟩
  all_goals
    simp only [shadowTarget, if_true, Nat.mod_eq_of_lt hidx, Nat.mod_eq_of_lt hword, run_read]
  · rw [State.shadowEntry, refreshShadow_shadowIdx, bank_congr (refreshShadow_chart _), shadowIdx_congr (putShadow_fld _ _ _ _ _),
      putShadow_bank, bank_setBank_shadow]
    exact Sparse.get_set_same _ _ _ _
  · rw [refreshShadow_activeIdx, bank_congr (refreshShadow_chart _), activeIdx_congr (putShadow_fld _ _ _ _ _), putShadow_bank,
      bank_setBank_active]
    rfl

theorem shadowWrite_n {idx word v : Nat} {s : State} (hopen : s.bit Fld.CHT_CTRL.EDIT_OPEN = true)
    (hpend : s.bit Fld.CHT_STATUS.PENDING = false) (hreplay : s.bit Fld.CHT_STATUS.REPLAYING = false) :
    ∃ t, exec (.shadowWrite 1 idx word v) s = .next t ∧ t.fld Fld.CHT_TICK_LEN.N = v % 2 ^ 15 ∧
      t.fld Fld.CHT_TICK_LEN.ACTIVE_N = s.fld Fld.CHT_TICK_LEN.ACTIVE_N ∧
      t.bit Fld.CHT_STATUS.SHADOW_VALID = decide ((t.checkChart (t.bank t.shadowIdx) (t.fld Fld.CHT_TICK_LEN.N)).1 = 0) := by
  refine shadowWrite_next hopen hpend hreplay 1 idx word v ⟨?_, ?_, refreshShadow_valid _⟩
  all_goals
    rw [refreshShadow_fld (by decide) (by decide) (by decide) (by decide) (by decide), shadowTarget, if_neg (by decide), if_pos rfl, run_put]
  · exact fld_fld_same _ _ _ _
  · exact fld_fld_ne (by decide) _ _ _ _

theorem shadowWrite_reserve {idx word v : Nat} {s : State} (hopen : s.bit Fld.CHT_CTRL.EDIT_OPEN = true)
    (hpend : s.bit Fld.CHT_STATUS.PENDING = false) (hreplay : s.bit Fld.CHT_STATUS.REPLAYING = false) (hidx : idx < 16) :
    ∃ t, exec (.shadowWrite 2 idx word v) s = .next t ∧ t.fld Fld.CHT_RESERVE.PERCENT idx = v % 2 ^ 7 := by
  refine shadowWrite_next hopen hpend hreplay 2 idx word v ?_
  rw [refreshShadow_fld (by decide) (by decide) (by decide) (by decide) (by decide), shadowTarget, if_neg (by decide), if_neg (by decide),
    Nat.mod_eq_of_lt hidx, run_putN]
  exact fld_fld_same _ _ _ _

theorem shadowWrite_closed {idx word v : Nat} {s : State} (hopen : s.bit Fld.CHT_CTRL.EDIT_OPEN = false)
    (hpend : s.bit Fld.CHT_STATUS.PENDING = false) (hreplay : s.bit Fld.CHT_STATUS.REPLAYING = false) :
    ∃ t, exec (.shadowWrite 0 idx word v) s = .next t ∧ t.bit Fld.CHT_STATUS.EDIT_CLOSED = true ∧ t.chart = s.chart ∧
      keepsBut [(Fld.CHT_STATUS.EDIT_CLOSED, 0)] s t := by
  refine finish_next ?_
  rw [shadowWrite, run_read, run_shadowedWrite_closed (s := s.quiet) hopen hpend hreplay]
  exact ⟨by rw [State.bit, fld_fld_same]; rfl, rfl, keepsBut_fld (by simp) _ s.quiet⟩

/-! ### Safe values (R526) -/

/-- The bytes of a value of which four have been replaced. -/
theorem spliced_getElem? (old new : List Byte) (off len k : Nat) (hlen : old.length = len) (hnew : new.length = 4) (hk : k < len) (hoff : off < len) :
    ((old.take off ++ new ++ old.drop (off + 4)).take len)[k]? = if off ≤ k ∧ k < off + 4 then new[k - off]? else old[k]? := by
  have htake : (old.take off).length = off := by simp [hlen]; omega
  rw [List.getElem?_take_of_lt hk, List.append_assoc, List.getElem?_append, htake, List.getElem?_append, hnew]
  split
  next h => rw [if_neg (by omega), List.getElem?_take_of_lt h]
  next h =>
    split
    next h4 => rw [if_pos (by omega)]
    next h4 => rw [if_neg (by omega), List.getElem?_drop]; congr 1; omega

theorem safeValue_length (m : List (Nat × List Byte)) (i len : Nat) : (safeValue m i len).length = len := by
  simp [safeValue]

/-- A safe value written with all its bytes reads back. -/
theorem safeValue_tset {m : List (Nat × List Byte)} {i len : Nat} {v : List Byte} (h : v.length = len) :
    safeValue (tset [] m i v) i len = v := by
  simp only [safeValue, tget, tset, Sparse.get_set_same]
  rw [List.take_left' h]

theorem safeValueWrite_bytes {off v i : Nat} {s : State} (hopen : s.bit Fld.CHT_CTRL.EDIT_OPEN = true)
    (hpend : s.bit Fld.CHT_STATUS.PENDING = false) (hreplay : s.bit Fld.CHT_STATUS.REPLAYING = false) (hi : i = s.fld Fld.GBL_WIN_SAFE.ENTRY)
    (hbank : s.bit Fld.GBL_WIN_SAFE.BANK = false) (halign : off % 4 = 0) (hrange : off + 4 ≤ 1024) (hoff : off < (s.shadowEntry i).payload) :
    ∃ t, exec (.safeValueWrite off v) s = .next t ∧ ∀ k < (s.shadowEntry i).payload,
      (safeValue (t.safes t.shadowIdx) i (s.shadowEntry i).payload)[k]? = (if off ≤ k ∧ k < off + 4 then some (byteOf v (k - off))
        else (safeValue (s.safes s.shadowIdx) i (s.shadowEntry i).payload)[k]?) := by
  refine finish_next fun k hk => ?_
  have hacts : (!s.quiet.bit Fld.GBL_WIN_SAFE.BANK && decide (off + 4 ≤ 1024) && off % 4 == 0) = true := by
    simp [hbank, hrange, halign]
  have hentry : s.quiet.fld Fld.GBL_WIN_SAFE.ENTRY = i := hi.symm
  have hshadowed : s.quiet.shadowEntry i = s.shadowEntry i := rfl
  simp only [safeWrite, run_read, run_whenP, hacts, if_true, hentry, run_shadowedWrite_open (s := s.quiet) hopen hpend hreplay, writeSafeWord,
    hshadowed, decide_eq_true hoff]
  rw [safes_congr (refreshShadow_chart _), refreshShadow_shadowIdx, shadowIdx_congr (putSafe_fld _ _ _ _ _), putSafe_shadow,
    safeValue_tset (by simp [safeValue_length, toBytes]; omega),
    spliced_getElem? _ (toBytes v 4) off _ k (safeValue_length _ _ _) (by simp [toBytes]) hk hoff]
  split
  next hin =>
    rw [toBytes, List.getElem?_map, List.getElem?_range (by omega)]; rfl
  next => rfl

/-! ### The replay (R158) -/

/-- The end of a replay under way: both banks are the active one, and the shadow is checked. -/
theorem run_replayDone {s : State} (h : s.bit Fld.CHT_STATUS.REPLAYING = true) : replayDone.run s =
    refreshShadow.run ((Eff.fld Fld.CHT_STATUS.REPLAYING 0 0).apply ((setSafes s.shadowIdx (s.safes s.activeIdx)).run
      ((setBank s.shadowIdx (s.bank s.activeIdx)).run ((advanceTo s.chart.replayEnd).run s)))) := by
  simp only [replayDone, run_read, run_whenP, h, if_true, run_cons, run_nil, run_clear]

theorem replayDone_copies {s : State} (hreplay : s.bit Fld.CHT_STATUS.REPLAYING = true) (hreach : s.reaches s.chart.replayEnd = true) :
    ∃ t, exec .replayDone s = .next t ∧ t.bit Fld.CHT_STATUS.REPLAYING = false ∧ t.bank t.shadowIdx = s.bank s.activeIdx ∧
      t.safes t.shadowIdx = s.safes s.activeIdx ∧ t.bank t.activeIdx = s.bank s.activeIdx := by
  refine atNs_next hreach fun frac => ?_
  generalize hu : s.quiet.atInstant (max s.chr.ns s.chart.replayEnd) frac = u
  have hbank (b : Nat) : u.bank b = s.bank b := by rw [← hu]; rfl
  have hsafes (b : Nat) : u.safes b = s.safes b := by rw [← hu]; rfl
  have hactive : u.activeIdx = s.activeIdx := by rw [← hu]; rfl
  have hreplay' : u.bit Fld.CHT_STATUS.REPLAYING = true := by rw [← hu]; exact hreplay
  obtain ⟨w, hw⟩ : ∃ w, w = (advanceTo u.chart.replayEnd).run u := ⟨_, rfl⟩
  have hwithin : (advanceTo u.chart.replayEnd).Within 0x8000000 := advanceTo_within (by decide) _
  have hchart : w.chart = u.chart := by rw [hw]; exact run_chart hwithin (by decide) u
  have hfld (f : Field) (n : Nat) : w.fld f n = u.fld f n := by rw [hw]; exact keepsBut_run hwithin (by decide) [] u f n (by simp)
  have hwactive : w.activeIdx = u.activeIdx := activeIdx_congr (hfld _ _)
  have hwshadow : w.shadowIdx = u.shadowIdx := shadowIdx_congr (hfld _ _)
  obtain ⟨y, hy⟩ : ∃ y, y = (Eff.fld Fld.CHT_STATUS.REPLAYING 0 0).apply ((setSafes w.shadowIdx (s.safes s.activeIdx)).run
      ((setBank w.shadowIdx (s.bank s.activeIdx)).run w)) := ⟨_, rfl⟩
  have hrun : replayDone.run u = refreshShadow.run y := by
    rw [run_replayDone hreplay', ← hw, hy, hbank, hsafes, hactive, hwshadow]
  have hkept {f : Field} (hf : f.row ≠ Fld.CHT_STATUS.REPLAYING.row) (n : Nat) : y.fld f n = w.fld f n := by
    rw [hy, fld_fld_ne hf, setSafes_fld, setBank_fld]
  have hyactive : y.activeIdx = w.activeIdx := activeIdx_congr (hkept (by decide) 0)
  have hyshadow : y.shadowIdx = w.shadowIdx := shadowIdx_congr (hkept (by decide) 0)
  rw [hrun, refreshShadow_shadowIdx, refreshShadow_activeIdx, bank_congr (refreshShadow_chart y), bank_congr (refreshShadow_chart y),
    safes_congr (refreshShadow_chart y), hyactive, hyshadow]
  refine ⟨?_, ?_, ?_, ?_⟩
  · rw [State.bit, refreshShadow_fld (by decide) (by decide) (by decide) (by decide) (by decide), hy, fld_fld_same]; rfl
  · rw [hy, bank_fld, bank_setSafes, bank_setBank_shadow]
  · rw [hy, safes_fld]
    exact safes_setSafes_shadow _ ((setBank w.shadowIdx _).run w)
  · rw [hy, bank_fld, bank_setSafes, bank_setBank_active, bank_congr hchart, hbank, hwactive, hactive]

/-! ### Opening and closing the edit (R154, R157) -/

theorem chtEditOpen_opens {s : State} (hpend : s.bit Fld.CHT_STATUS.PENDING = false) (hreplay : s.bit Fld.CHT_STATUS.REPLAYING = false) :
    ∃ t, exec .chtEditOpen s = .next t ∧ t.bit Fld.CHT_CTRL.EDIT_OPEN = true ∧ t.chart = s.chart ∧
      keepsBut [(Fld.CHT_CTRL.EDIT_OPEN, 0)] s t := by
  refine finish_next ?_
  have hrun : (writeEditOpen true).run s.quiet = (Eff.fld Fld.CHT_CTRL.EDIT_OPEN 0 1).apply s.quiet := by
    simp [writeEditOpen, run_replayDone_idle (s := s.quiet) hreplay, hpend]
  rw [hrun]
  exact ⟨by rw [State.bit, fld_fld_same]; rfl, rfl, keepsBut_fld (by simp) _ s.quiet⟩

theorem chtEditOpen_busy {s : State} (hpend : s.bit Fld.CHT_STATUS.PENDING = true) (hreplay : s.bit Fld.CHT_STATUS.REPLAYING = false)
    (hopen : s.bit Fld.CHT_CTRL.EDIT_OPEN = false) : ∃ t, exec .chtEditOpen s = .next t ∧ t.bit Fld.CHT_STATUS.SHADOW_BUSY = true ∧
      keepsBut [(Fld.CHT_STATUS.SHADOW_BUSY, 0)] s t := by
  refine finish_next ?_
  have hrun : (writeEditOpen true).run s.quiet = (Eff.fld Fld.CHT_STATUS.SHADOW_BUSY 0 1).apply s.quiet := by
    simp [writeEditOpen, run_replayDone_idle (s := s.quiet) hreplay, hpend, hopen]
  rw [hrun]
  exact ⟨by rw [State.bit, fld_fld_same]; rfl, keepsBut_fld (by simp) _ s.quiet⟩

/-- What a discard leaves of the fields but N and the reserves: REPLAYING is raised. -/
theorem discardEdits_run (s : State) : discardEdits.run s = (forP (List.range 16) fun p => putN Fld.CHT_RESERVE.PERCENT p
      (tget 85 s.chart.reserveActive p)).run ((Eff.fld Fld.CHT_TICK_LEN.N 0 (s.fld Fld.CHT_TICK_LEN.ACTIVE_N)).apply
        (startReplay.run (noteDiscard.run s))) := rfl

theorem noteDiscard_chart (s : State) : (noteDiscard.run s).chart = s.chart :=
  run_chart (noteDiscard_within (pm := 0x20000000000) (by decide)) (by decide) s

theorem noteDiscard_chr (s : State) : (noteDiscard.run s).chr = s.chr :=
  run_chr (noteDiscard_within (pm := 0x20000000000) (by decide)) (by decide) s

theorem noteDiscard_fld (f : Field) (n : Nat) (s : State) : (noteDiscard.run s).fld f n = s.fld f n :=
  keepsBut_run (noteDiscard_within (pm := 0x20000000000) (by decide)) (by decide) [] s f n (by simp)

theorem changedEntries_congr {s t : State} (h : t.chart = s.chart) : t.changedEntries = s.changedEntries := by
  unfold State.changedEntries; rw [h]

theorem discardEdits_chart (s : State) : (discardEdits.run s).chart = { s.chart with replayEnd := s.chr.ns + s.changedEntries } := by
  have hchanged := changedEntries_congr (noteDiscard_chart s)
  rw [discardEdits_run, run_chart (m := 0x8) (within_forP fun _ => within_putN (by decide)) (by decide)]
  simp only [startReplay, run_read, run_cons, run_nil, run_raise, modChart, run_eff, apply_fld, apply_chart, noteDiscard_chart, noteDiscard_chr,
    hchanged]

theorem discardEdits_fld {f : Field} (hreplay : f.row ≠ Fld.CHT_STATUS.REPLAYING.row) (hn : f.row ≠ Fld.CHT_TICK_LEN.N.row)
    (hreserve : f.row ≠ Fld.CHT_RESERVE.PERCENT.row) (n : Nat) (s : State) : (discardEdits.run s).fld f n = s.fld f n := by
  rw [discardEdits_run, forP_putN_fld hreserve, fld_fld_ne hn]
  simp only [startReplay, run_read, run_cons, run_nil, run_raise, modChart, run_eff, fld_chart, fld_fld_ne hreplay, noteDiscard_fld]

theorem chtEditClose_discards {s : State} (hpend : s.bit Fld.CHT_STATUS.PENDING = false) (hreplay : s.bit Fld.CHT_STATUS.REPLAYING = false)
    (hopen : s.bit Fld.CHT_CTRL.EDIT_OPEN = true) : ∃ t, exec .chtEditClose s = .next t ∧ t.bit Fld.CHT_CTRL.EDIT_OPEN = false ∧
      t.bit Fld.CHT_STATUS.REPLAYING = true ∧ t.fld Fld.CHT_TICK_LEN.N = s.fld Fld.CHT_TICK_LEN.ACTIVE_N % 2 ^ 15 ∧
      t.chart = { s.chart with replayEnd := s.chr.ns + s.changedEntries } := by
  refine finish_next ?_
  obtain ⟨u, hu⟩ : ∃ u, u = (Eff.fld Fld.CHT_CTRL.EDIT_OPEN 0 0).apply s.quiet := ⟨_, rfl⟩
  have hrun : (writeEditOpen false).run s.quiet = discardEdits.run u := by
    simp [writeEditOpen, run_replayDone_idle (s := s.quiet) hreplay, hpend, hopen, hu]
  have hchart : u.chart = s.chart := by simp only [hu, apply_fld, State.quiet]
  have hchr : u.chr = s.chr := by simp only [hu, apply_fld, quiet_chr]
  rw [hrun]
  refine ⟨?_, ?_, ?_, ?_⟩
  · rw [State.bit, discardEdits_fld (by decide) (by decide) (by decide), hu, fld_fld_same]; rfl
  · rw [State.bit, discardEdits_run, forP_putN_fld (by decide), fld_fld_ne (by decide), startReplay, run_read, run_cons, run_raise, run_cons,
      run_nil, modChart, run_eff, fld_chart, fld_fld_same]; rfl
  · rw [discardEdits_run, forP_putN_fld (by decide), fld_fld_same, hu, fld_fld_ne (by decide), quiet_fld]; rfl
  · rw [discardEdits_chart, changedEntries_congr hchart, hchart, hchr]

/-! ### COMMIT (R156) -/

theorem chtCommit_accepted {s : State} (hpend : s.bit Fld.CHT_STATUS.PENDING = false) (hreplay : s.bit Fld.CHT_STATUS.REPLAYING = false)
    (hvalid : s.bit Fld.CHT_STATUS.SHADOW_VALID = true) : ∃ t, exec .chtCommit s = .next t ∧ t.bit Fld.CHT_STATUS.PENDING = true ∧
      t.chart.commitTag = none ∧ t.chart.dueNs = s.chr.ns + 1000 ∧ keepsBut [(Fld.CHT_STATUS.PENDING, 0)] s t := by
  refine finish_next ?_
  simp only [chartCommit, run_cons, run_nil, run_replayDone_idle (s := s.quiet) hreplay, run_read, quiet_bit, hpend, hvalid, if_true,
    Bool.false_eq_true, if_false, run_raise, modChart, run_eff]
  refine ⟨?_, ?_, ?_, ?_⟩
  · rw [State.bit, mirrorNote_keeps [] _ _ _ _ _ _ (by simp), fld_chart, fld_fld_same]; rfl
  · rw [mirrorNote_chart]; rfl
  · rw [mirrorNote_chart]; rfl
  · exact ((keepsBut_fld (by simp) _ s.quiet).chart _).trans (mirrorNote_keeps _ _ _ _ _)

/-- Completing a command leaves the fields of the chart. -/
theorem complete_fld {f : Field} (hf : blockOf f.row = 3) (tag status result aux n : Nat) (s : State) :
    ((complete tag status result aux).run s).fld f n = s.fld f n :=
  run_fld (complete_within (pm := 0x7540580) (by decide) _ _ _ _) (by decide) f n (by rw [hf]; decide) s

/-- Completing a batch leaves the fields of the chart but BUSY of CHT_ADMIT. -/
theorem completeBatch_fld {f : Field} (hf : blockOf f.row = 3) (hbusy : f.row ≠ Fld.CHT_ADMIT.BUSY.row) (status n : Nat) (s : State) :
    ((completeBatch status).run s).fld f n = s.fld f n := by
  simp only [completeBatch, run_read, run_cons, run_nil, modChart, run_eff, run_put]
  refine (run_forP_keeps (fun a b => b.fld f n = a.fld f n) (fun _ => rfl) (fun _ _ _ hab hbc => hbc.trans hab) _ _ (fun tag _ u => ?_) _).trans
    (fld_fld_ne hbusy _ _ _ _)
  split
  · rfl
  · split
    · rfl
    · split <;> exact complete_fld hf _ _ _ _ _ _

/-- A refusal leaves the fields that it does not write, neither itself nor by completing the batch and discarding its edits. -/
theorem commitRefused_fld {f : Field} (hf : blockOf f.row = 3) (hbusy : f.row ≠ Fld.CHT_ADMIT.BUSY.row)
    (hreplay : f.row ≠ Fld.CHT_STATUS.REPLAYING.row) (hn : f.row ≠ Fld.CHT_TICK_LEN.N.row) (hreserve : f.row ≠ Fld.CHT_RESERVE.PERCENT.row)
    (n : Nat) (s : State) : (commitRefused.run s).fld f n = ((Eff.fld Fld.CHT_EVENT.REFUSED 0 1).apply
      ((Eff.fld Fld.CHT_STATUS.COMMIT_REFUSED 0 1).apply ((Eff.fld Fld.CHT_STATUS.PENDING 0 0).apply s))).fld f n := by
  have hbatch (c : Bool) (u : State) : ((whenP c (seqs [completeBatch St.badEntry, discardEdits])).run u).fld f n = u.fld f n := by
    rw [run_whenP]
    split
    · rw [run_cons, run_cons, run_nil, discardEdits_fld hreplay hn hreserve, completeBatch_fld hf hbusy]
    · rfl
  simp only [commitRefused, run_read, run_cons (whenP _ _), run_nil, hbatch, run_cons, run_clear, run_raise, modChart, run_eff]
  split
  · rw [complete_fld hf, fld_chart]
  · rw [run_skip, fld_chart]

theorem chtCommit_refused {s : State} (hpend : s.bit Fld.CHT_STATUS.PENDING = false) (hreplay : s.bit Fld.CHT_STATUS.REPLAYING = false)
    (hinvalid : s.bit Fld.CHT_STATUS.SHADOW_VALID = false) : ∃ t, exec .chtCommit s = .next t ∧ t.bit Fld.CHT_STATUS.PENDING = false ∧
      t.bit Fld.CHT_STATUS.COMMIT_REFUSED = true ∧ t.bit Fld.CHT_EVENT.REFUSED = true ∧
      t.fld Fld.CHT_CTRL.EDIT_OPEN = s.fld Fld.CHT_CTRL.EDIT_OPEN ∧
      t.fld Fld.CHT_STATUS.ACTIVE_BANK = s.fld Fld.CHT_STATUS.ACTIVE_BANK := by
  refine finish_next ?_
  simp only [chartCommit, run_cons, run_nil, run_replayDone_idle (s := s.quiet) hreplay, run_read, quiet_bit, hpend, hinvalid,
    Bool.false_eq_true, if_false, modChart, run_eff]
  have hkept {f : Field} (hf : blockOf f.row = 3) (hbusy : f.row ≠ Fld.CHT_ADMIT.BUSY.row) (hreplay : f.row ≠ Fld.CHT_STATUS.REPLAYING.row)
      (hn : f.row ≠ Fld.CHT_TICK_LEN.N.row) (hreserve : f.row ≠ Fld.CHT_RESERVE.PERCENT.row) (u : State) :=
    commitRefused_fld hf hbusy hreplay hn hreserve 0 u
  refine ⟨?_, ?_, ?_, ?_, ?_⟩
  · rw [State.bit, hkept (by decide) (by decide) (by decide) (by decide) (by decide), fld_fld_ne (by decide), fld_fld_ne (by decide),
      fld_fld_same]; rfl
  · rw [State.bit, hkept (by decide) (by decide) (by decide) (by decide) (by decide), fld_fld_ne (by decide), fld_fld_same]; rfl
  · rw [State.bit, hkept (by decide) (by decide) (by decide) (by decide) (by decide), fld_fld_same]; rfl
  · rw [hkept (by decide) (by decide) (by decide) (by decide) (by decide), fld_fld_ne (by decide), fld_fld_ne (by decide),
      fld_fld_ne (by decide)]; rfl
  · rw [hkept (by decide) (by decide) (by decide) (by decide) (by decide), fld_fld_ne (by decide), fld_fld_ne (by decide),
      fld_fld_ne (by decide)]; rfl

/-! ### RUN (R26) -/

theorem le_nextMultiple (v : Nat) : v ≤ nextMultiple v 32 := by unfold nextMultiple; omega

/-- The state in which a start is planned. -/
def State.starting (s : State) : State := (Eff.chr fun c => { c with
  runDue := true, wakeFix := false, startDue := false, runAt := c.ns + (if c.frac = 0 then 0 else 1) }).apply s

/-- A start of a chart that may start plans its first meridian. -/
theorem run_startRun {s : State} (hrunning : s.bit Fld.CHT_STATUS.RUNNING = false) (hdue : s.chr.runDue = false)
    (hfixed : s.chr.wakeFix = false ∨ s.linksFixed = true) : startRun.run s = planFirst.run s.starting := by
  have hnow : (s.chr.wakeFix && !s.linksFixed) = false := by rcases hfixed with h | h <;> simp [h]
  simp only [startRun, run_read, run_whenP, hrunning, hdue, Bool.not_false, Bool.and_self, if_true, hnow, Bool.false_eq_true, if_false, run_cons,
    run_nil, modChr, run_eff, State.starting]

/-- Off the grid the first meridian is planned at least 2,048 ns after the write of RUN, and nothing else changes. -/
theorem planFirst_late {s : State} (hdue : s.chr.runDue = true) (hfree : s.bit Fld.CHR_CTRL.MERID_ALIGN = false) :
    ∃ d, s.chr.runAt + 2048 ≤ d ∧ planFirst.run s = (Eff.chr fun c => { c with dueNs := d }).apply s := by
  simp only [planFirst, run_read, run_whenP, hdue, if_true, modChr, run_eff, hfree, Bool.false_eq_true, if_false]
  refine ⟨_, ?_, rfl⟩
  have hnext := le_nextMultiple
  split
  all_goals
    refine le_trans ?_ (Nat.add_le_add_left (Nat.sub_le_sub_right (hnext _) _) _)
    omega

/-- Whether the links are fixed depends on their records, their states and their attempts. -/
theorem linksFixed_congr {s t : State} (hfixes : t.fixes = s.fixes) (hstate : ∀ p, t.fld Fld.LNK_STATUS.STATE p = s.fld Fld.LNK_STATUS.STATE p)
    (htries : ∀ p, t.fld Fld.LNK_STATUS.ATTEMPTS p = s.fld Fld.LNK_STATUS.ATTEMPTS p) : t.linksFixed = s.linksFixed := by
  simp only [State.linksFixed, State.fixOf, hfixes, hstate, htries]

/-- The state in which RUN has been written. -/
def State.runWritten (s : State) (v : Nat) : State := (Eff.fld Fld.CHT_CTRL.RUN 0 v).apply s.quiet

theorem runWritten_chr (s : State) (v : Nat) : (s.runWritten v).chr = s.chr := rfl

theorem runWritten_bit (s : State) (v : Nat) : (s.runWritten v).bit Fld.CHT_CTRL.RUN = decide (v % 2 = 1) := by
  rw [State.bit, State.runWritten, fld_fld_same]
  rcases Nat.mod_two_eq_zero_or_one v with h | h <;> simp [h, Fld.CHT_CTRL.RUN]

theorem runWritten_keeps (s : State) (v : Nat) : keepsBut [(Fld.CHT_CTRL.RUN, 0)] s (s.runWritten v) := keepsBut_fld (by simp) _ s.quiet

theorem runWritten_fld {f : Field} (hf : f.row ≠ Fld.CHT_CTRL.RUN.row) (v n : Nat) (s : State) : (s.runWritten v).fld f n = s.fld f n :=
  fld_fld_ne hf _ _ _ s.quiet

theorem runWritten_standby (s : State) (v : Nat) : (s.runWritten v).standby = s.standby := by
  simp only [State.standby, runWritten_fld (f := Fld.PAIR_STATUS.ROLE) (by decide)]

theorem runWritten_linksFixed (s : State) (v : Nat) : (s.runWritten v).linksFixed = s.linksFixed :=
  linksFixed_congr rfl (fun p => runWritten_fld (by decide) v p s) (fun p => runWritten_fld (by decide) v p s)

theorem chtRun_starts {s : State} (hrunning : s.bit Fld.CHT_STATUS.RUNNING = false) (hdue : s.chr.runDue = false)
    (hactive : s.standby = false) (hfree : s.bit Fld.CHR_CTRL.MERID_ALIGN = false) (hfixed : s.chr.wakeFix = false ∨ s.linksFixed = true) :
    ∃ t, exec (.chtRun true) s = .next t ∧ t.bit Fld.CHT_CTRL.RUN = true ∧ t.chr.runDue = true ∧ s.chr.ns + 2048 ≤ t.chr.dueNs ∧
      t.chr.ns = s.chr.ns ∧ keepsBut [(Fld.CHT_CTRL.RUN, 0)] s t := by
  refine finish_next ?_
  obtain ⟨u, hu⟩ : ∃ u, u = s.runWritten 1 := ⟨_, rfl⟩
  have hchr : u.chr = s.chr := by rw [hu, runWritten_chr]
  have hfixed' : u.chr.wakeFix = false ∨ u.linksFixed = true := by
    rwa [hchr, hu, runWritten_linksFixed]
  have hrun : (writeRun true).run s.quiet = planFirst.run u.starting := by
    rw [← run_startRun (by rw [hu, State.bit, runWritten_fld (by decide)]; exact hrunning) (by rw [hchr, hdue]) hfixed']
    have hactive' : (s.runWritten 1).standby = false := (runWritten_standby s 1).trans hactive
    simp only [writeRun, run_cons, run_nil, if_true, run_put, run_read, run_whenP]
    rw [← State.runWritten, hactive', hu]
    rfl
  obtain ⟨d, hd, hplan⟩ := planFirst_late (s := u.starting) rfl
    (by rw [State.starting, State.bit, fld_chr, hu, runWritten_fld (by decide)]; exact hfree)
  have hns : s.chr.ns ≤ u.starting.chr.runAt := by rw [← hchr]; exact Nat.le_add_right _ _
  rw [hrun, hplan]
  refine ⟨?_, rfl, le_trans (Nat.add_le_add_right hns _) hd, ?_, ?_⟩
  · rw [State.bit, fld_chr, State.starting, fld_chr, hu, ← State.bit, runWritten_bit]; rfl
  · show u.chr.ns = s.chr.ns; rw [hchr]
  · rw [hu]; exact (runWritten_keeps s 1).trans (keepsBut_of_regs rfl)

theorem chtRun_stops {s : State} (hactive : s.standby = false) : ∃ t, exec (.chtRun false) s = .next t ∧ t.bit Fld.CHT_CTRL.RUN = false ∧
    t.chr.runDue = false ∧ keepsBut [(Fld.CHT_CTRL.RUN, 0)] s t := by
  refine finish_next ?_
  have hactive' : (s.runWritten 0).standby = false := (runWritten_standby s 0).trans hactive
  have hrun : (writeRun false).run s.quiet = (Eff.chr fun c => { c with runDue := false, startDue := false }).apply (s.runWritten 0) := by
    simp only [writeRun, run_cons, run_nil, Bool.false_eq_true, if_false, run_put, run_read, run_whenP]
    rw [← State.runWritten, hactive']
    rfl
  rw [hrun]
  refine ⟨?_, rfl, (runWritten_keeps s 0).chr _⟩
  rw [State.bit, fld_chr, ← State.bit, runWritten_bit]; rfl

/-- Settles O17: what a COMMIT, an edit, the end of a replay, RUN, and each write to the shadowed set do, one lemma each. -/
theorem theShadowIsEditedAndCommitted : Obligations.TheShadowIsEditedAndCommitted := by
  unfold Obligations.TheShadowIsEditedAndCommitted
  exact ⟨fun _ => chtCommit_accepted, fun _ => chtCommit_refused, fun _ => chtEditOpen_opens, fun _ => chtEditOpen_busy,
    fun _ => chtEditClose_discards, fun _ => replayDone_copies, fun _ => chtRun_starts, fun _ => chtRun_stops, fun _ _ _ _ => shadowWrite_entry,
    fun _ _ _ _ => shadowWrite_n, fun _ _ _ _ => shadowWrite_reserve, fun _ _ _ _ => shadowWrite_closed,
    fun _ _ _ _ => safeValueWrite_bytes⟩

end Sys2Proof.Machine

/-! SUPPORT. The refutation of the statement of what a node does with what it receives (Machine/Nodes.lean). -/

namespace Sys2Proof.Machine

/-- A device with its upstream link UP acts on a good outbound frame addressed to it (R187). -/
theorem run_nodeTakes {d : Nat} {frame : List Byte} {s : State} (hup : s.upstreamUp d = true) (hgood : frameGood frame = true)
    (hmine : (s.dev d).takes (Header.ofBytes frame).addr = true) (hout : (Header.ofBytes frame).inbound = false) (k : Header → Prog) :
    (nodeTakes d frame k).run s = (k (Header.ofBytes frame)).run s := by
  simp [nodeTakes, hup, hgood, hmine, hout]

/-- A good DATA packet addressed to a device is looked at by its class (R190). -/
theorem nodeDataReceive_eq {d : Nat} {frame : List Byte} {s : State} (hup : s.upstreamUp d = true) (hgood : frameGood frame = true)
    (hmine : (s.dev d).takes (Header.ofBytes frame).addr = true) (hout : (Header.ofBytes frame).inbound = false)
    (hpacket : (Header.ofBytes frame).packet = true) (htype : (Header.ofBytes frame).type = Pt.data) : exec (.nodeDataReceive d frame) s =
      .next ((nodeData d (Header.ofBytes frame).pipe (Header.ofBytes frame).seq (framePayload frame)).run s.quiet) := by
  refine congrArg Host.Outcome.next ?_
  rw [← State.quiet, run_nodeTakes (s := s.quiet) hup hgood hmine hout]
  simp [hpacket, htype]

/-- A DATA packet whose distance to the expected one is computed as 0 is taken. -/
theorem run_nodeData_taken {d pipe seq : Nat} {s : State} (payload : List Byte)
    (hstate : ((s.dev d).pipe pipe).state = .idle ∨ ((s.dev d).pipe pipe).state = .active)
    (hdist : (seq + 65536 - ((s.dev d).pipe pipe).expect) % 65536 = 0) :
    (nodeData d pipe seq payload).run s = (modDev d fun n => n.onPipe pipe fun p =>
      { p with expect := (p.expect + 1) % 65536, taken := p.taken ++ [payload], state := .active }).run s := by
  have hopen : (((s.dev d).pipe pipe).state != .halted && ((s.dev d).pipe pipe).state != .disabled) = true := by
    rcases hstate with h | h <;> rw [h] <;> rfl
  simp only [nodeData, run_read, run_whenP, hopen, if_true, hdist]

/-- An empty DATA packet with SEQ 1 to a node without an address. -/
def dataOne : List Byte := packetFrame 4095 0 false Pt.data 1 []

theorem dataOne_good : frameGood dataOne = true := by decide +kernel

/-- A node without an address whose upstream link is UP and whose pipe 0 expects 131,072, which no SEQ of 16 bits reaches. -/
def expectingBeyond : State := { lanes := [(32, { st := 7 })], devs := [(0, { pipes := [(0, { expect := 131072 })] })] }

/-- Refutes O34: the clause of a packet ahead does not bound the counter of the packet expected. With 131,072 expected, SEQ 1 is one ahead modulo 65,536,
but the model's distance, a subtraction cut at 0, is 0: the packet is taken and no NAK is owed. -/
theorem not_nodesActOnWhatTheyReceive : ¬ Obligations.NodesActOnWhatTheyReceive := by
  unfold Obligations.NodesActOnWhatTheyReceive
  rintro ⟨-, -, -, -, -, -, -, -, -, -, hahead, -⟩
  have hup : expectingBeyond.upstreamUp 0 = true := by decide +kernel
  have hout : (Header.ofBytes dataOne).inbound = false := by decide +kernel
  have hmine : (expectingBeyond.dev 0).takes (Header.ofBytes dataOne).addr = true := by decide +kernel
  have hpacket : (Header.ofBytes dataOne).packet = true := by decide +kernel
  have htype : (Header.ofBytes dataOne).type = Pt.data := by decide +kernel
  have hidle : ((expectingBeyond.dev 0).pipe (Header.ofBytes dataOne).pipe).state = .idle := by decide +kernel
  obtain ⟨t, ht, howes, -⟩ := hahead 0 1 dataOne (Header.ofBytes dataOne) expectingBeyond hup dataOne_good rfl hout hmine hpacket htype
    (.inl hidle) (by decide) (by decide) (by decide +kernel)
  obtain rfl := Host.Outcome.next.inj (ht.symm.trans (nodeDataReceive_eq hup dataOne_good hmine hout hpacket htype))
  rw [run_nodeData_taken (s := expectingBeyond.quiet) _ (.inl hidle) (by decide +kernel)] at howes
  exact absurd (congrArg NodePipe.oweNak howes) (by decide +kernel)

end Sys2Proof.Machine

/-! SUPPORT. The proof of the statement of the standard requests that a node carries out (Machine/Nodes.lean). -/

namespace Sys2Proof.Machine

/-! ### A device changed -/

theorem run_modDev (d : Nat) (f : NodeDev → NodeDev) (s : State) : (modDev d f).run s = (Eff.dev d (f (s.dev d))).apply s := rfl

theorem dev_dev_same (d : Nat) (v : NodeDev) (s : State) : ((Eff.dev d v).apply s).dev d = v := by
  simp only [State.dev, apply_dev, tget, Sparse.get_set_same]

@[simp] theorem quiet_dev (s : State) (d : Nat) : s.quiet.dev d = s.dev d := rfl

/-- A pipe of a device changed reads so. -/
theorem pipe_onPipe_same (n : NodeDev) (k : Nat) (f : NodePipe → NodePipe) : (n.onPipe k f).pipe k = f (n.pipe k) := by
  simp only [NodeDev.onPipe, NodeDev.setPipe, NodeDev.pipe, tget, tset, Sparse.get_set_same]

theorem onHub_of_some {n : NodeDev} {h : HubState} (hhub : n.hub = some h) (f : HubState → HubState) :
    n.onHub f = { n with hub := some (f h) } := by
  simp only [NodeDev.onHub, hhub, Option.getD_some]

theorem port_setPort_same (h : HubState) (p : Nat) (v : HubPort) : (h.setPort p v).port p = v := by
  simp only [HubState.setPort, HubState.port, tget, tset, Sparse.get_set_same]

/-! ### Requests (R203) -/

/-- A device whose request has been carried out. -/
def NodeDev.done (n : NodeDev) : NodeDev := { n with finished := true }

@[simp] theorem done_finished (n : NodeDev) : n.done.finished = true := rfl
@[simp] theorem done_pipe (n : NodeDev) (k : Nat) : n.done.pipe k = n.pipe k := rfl
@[simp] theorem done_answer (n : NodeDev) : n.done.answer = n.answer := rfl

/-- The request that a device holds, unfinished and not refused, is a standard one of a code. -/
def NodeDev.HoldsRequest (n : NodeDev) (code : Nat) : Prop :=
  n.request ≠ [] ∧ bitsAt (n.req 0 1) 5 2 = 0 ∧ n.req 1 1 = code ∧ n.finished = false ∧ n.refused = false

/-- The data of a request is complete: it has none outbound, or all of it has come. -/
def NodeDev.DataComplete (n : NodeDev) : Prop := bitAt (n.req 0 1) 7 = true ∨ n.req 6 2 = 0 ∨ n.data.length = n.req 6 2

section
variable {d code : Nat} {stage : NodeDev → DataStage} {ok : NodeDev → Bool} {f : NodeDev → NodeDev} {s : State}

theorem request_looksAt (hheld : (s.dev d).HoldsRequest code) :
    (!(s.dev d).request.isEmpty && bitsAt ((s.dev d).req 0 1) 5 2 == 0 && (s.dev d).req 1 1 == code && !(s.dev d).finished &&
      !(s.dev d).refused) = true := by
  obtain ⟨hreq, hstd, hcode, hfin, href⟩ := hheld
  simp [hreq, hstd, hcode, hfin, href]

/-- A request whose fields lie within its table is carried out once its data is complete. -/
theorem run_request (hheld : (s.dev d).HoldsRequest code) (hstage : (s.dev d).stageOk (stage (s.dev d)) = true) (hok : ok (s.dev d) = true)
    (hdata : (s.dev d).DataComplete) :
    (request d code stage ok f).run s = (Eff.dev d (f (s.dev d)).done).apply s := by
  have hcomplete : (!(!bitAt ((s.dev d).req 0 1) 7 && (s.dev d).req 6 2 != 0) || (s.dev d).data.length == (s.dev d).req 6 2) = true := by
    rcases hdata with h | h | h <;> simp [h]
  simp only [request, run_read, run_whenP, request_looksAt hheld, if_true, hstage, hok, Bool.and_self, Bool.not_true, Bool.false_eq_true, if_false,
    hcomplete, run_modDev, NodeDev.done]

/-- A request with fields outside its table is refused. -/
theorem run_request_refused (hheld : (s.dev d).HoldsRequest code) (hbad : ((s.dev d).stageOk (stage (s.dev d)) && ok (s.dev d)) = false) :
    (request d code stage ok f).run s = (Eff.dev d { s.dev d with refused := true }).apply s := by
  simp only [request, run_read, run_whenP, request_looksAt hheld, if_true, hbad, Bool.not_false, run_modDev]

/-- The command of a request that is carried out changes the device that holds it. -/
theorem request_next (hheld : (s.dev d).HoldsRequest code) (hstage : (s.dev d).stageOk (stage (s.dev d)) = true) (hok : ok (s.dev d) = true)
    (hdata : (s.dev d).DataComplete) {P : State → Prop}
    (h : ∀ t, t.dev d = (f (s.dev d)).done → keepsBut [] s t → P t) :
    ∃ t, finish (request d code stage ok f) s = .next t ∧ P t := by
  refine finish_next (h _ ?_ (keepsBut_of_regs ?_))
  · rw [run_request (s := s.quiet) hheld hstage hok hdata, dev_dev_same]; rfl
  · rw [run_request (s := s.quiet) hheld hstage hok hdata]; rfl

end

/-! ### The requests of every node -/

/-- What a device answers is cut to the LENGTH of its request. -/
theorem respond_answer (n : NodeDev) (bs : List Byte) : (n.respond bs).answer = bs.take (n.req 6 2) := rfl

/-- A device that gives the descriptors it is made with. -/
def NodeDev.described (n : NodeDev) (desc : List Byte) (pipes : List (List Byte)) : NodeDev := { n with desc := desc, pipeDesc := pipes }

@[simp] theorem described_req (n : NodeDev) (desc : List Byte) (pipes : List (List Byte)) (off len : Nat) :
    (n.described desc pipes).req off len = n.req off len := rfl

theorem described_pipeDesc (n : NodeDev) (desc : List Byte) (pipes : List (List Byte)) : (n.described desc pipes).pipeDesc = pipes := rfl

/-- GET_DESCRIPTOR of a device that has its descriptors (R113, R114). -/
def descriptorRequest (d : Nat) : Prog :=
  request d 0x01 (fun n => .inward (if n.req 2 2 = 1 then 64 else 16 * n.pipeDesc.length))
    (fun n => (n.req 2 2 == 1 || n.req 2 2 == 2) && n.req 4 2 == 0) (fun n => n.respond (if n.req 2 2 = 1 then n.desc else n.pipeDesc.flatten))

theorem reqGetDescriptor_eq (d : Nat) (desc : List Byte) (pipes : List (List Byte)) (s : State) : exec (.reqGetDescriptor d desc pipes) s =
    .next ((descriptorRequest d).run ((Eff.dev d ((s.dev d).described desc pipes)).apply s.quiet)) := rfl

theorem reqGetDescriptor_answers {d : Nat} {desc : List Byte} {pipes : List (List Byte)} {s : State} (hheld : (s.dev d).HoldsRequest 0x01)
    (hdir : bitAt ((s.dev d).req 0 1) 7 = true) (hvalue : (s.dev d).req 2 2 = 1 ∨ (s.dev d).req 2 2 = 2) (hindex : (s.dev d).req 4 2 = 0)
    (hlen : (s.dev d).req 6 2 = if (s.dev d).req 2 2 = 1 then 64 else 16 * pipes.length) :
    ∃ t, exec (.reqGetDescriptor d desc pipes) s = .next t ∧
      (t.dev d).answer = (if (s.dev d).req 2 2 = 1 then desc else pipes.flatten).take ((s.dev d).req 6 2) ∧ (t.dev d).finished = true ∧
      (t.dev d).refused = false ∧ keepsBut [] s t := by
  obtain ⟨u, hu⟩ : ∃ u, u = (Eff.dev d ((s.dev d).described desc pipes)).apply s.quiet := ⟨_, rfl⟩
  have hdev : u.dev d = (s.dev d).described desc pipes := by rw [hu, dev_dev_same]
  have hregs : u.regs = s.regs := by rw [hu]; rfl
  have hstage : (u.dev d).stageOk (.inward (if (u.dev d).req 2 2 = 1 then 64 else 16 * (u.dev d).pipeDesc.length)) = true := by
    simp only [NodeDev.stageOk, hdev, described_req, described_pipeDesc, hdir, Bool.true_and, beq_iff_eq]; exact hlen
  have hok : ((u.dev d).req 2 2 == 1 || (u.dev d).req 2 2 == 2) && (u.dev d).req 4 2 == 0 := by
    rw [hdev]; simpa [hindex] using hvalue
  refine ⟨_, reqGetDescriptor_eq d desc pipes s, ?_⟩
  rw [← hu, descriptorRequest, run_request (by rw [hdev]; exact hheld) hstage hok (by rw [hdev]; exact .inl hdir)]
  refine ⟨?_, ?_, ?_, keepsBut_of_regs hregs⟩
  all_goals rw [dev_dev_same, hdev]
  · rfl
  · rfl
  · obtain ⟨-, -, -, -, href⟩ := hheld
    exact href

theorem reqGetStatus_answers {d : Nat} {s : State} (hheld : (s.dev d).HoldsRequest 0x02) (hdir : bitAt ((s.dev d).req 0 1) 7 = true)
    (hlen : (s.dev d).req 6 2 = 8) (hvalue : (s.dev d).req 2 2 = 0) (hindex : (s.dev d).req 4 2 = 0) (hdata : (s.dev d).DataComplete) :
    ∃ t, exec (.reqGetStatus d) s = .next t ∧ (t.dev d).finished = true ∧
      (t.dev d).answer = (toBytes (((List.range 32).filter fun k => ((s.dev d).pipe k).state == .halted).map (2 ^ ·)).sum 4 ++
        toBytes ((if (s.dev d).config.isSome then 1 else 0) + (if (s.dev d).bearing.isSome then 2 else 0)) 1 ++ toBytes 0 3).take
          ((s.dev d).req 6 2) ∧ keepsBut [] s t :=
  request_next hheld (by simp [NodeDev.stageOk, hdir, hlen]) (by simp [hvalue, hindex]) hdata fun t hdev hkept =>
    ⟨by rw [hdev, done_finished], by rw [hdev, done_answer, respond_answer, List.sum_eq_foldl], hkept⟩

theorem reqClearHalt_resets {d : Nat} {s : State} (hheld : (s.dev d).HoldsRequest 0x03) (hlen : (s.dev d).req 6 2 = 0)
    (hvalue : (s.dev d).req 2 2 = 0) (hlow : 1 ≤ (s.dev d).req 4 2) (hhigh : (s.dev d).req 4 2 ≤ 31) (hdata : (s.dev d).DataComplete) :
    ∃ t, exec (.reqClearHalt d) s = .next t ∧ (t.dev d).finished = true ∧
      (t.dev d).pipe ((s.dev d).req 4 2) = { ((s.dev d).pipe ((s.dev d).req 4 2)).fresh with
        state := (if ((s.dev d).pipe ((s.dev d).req 4 2)).state = .halted then .idle else ((s.dev d).pipe ((s.dev d).req 4 2)).state) } ∧
      keepsBut [] s t :=
  request_next hheld (by simp [NodeDev.stageOk, hlen]) (by simp [hvalue, hlow, hhigh]) hdata fun t hdev hkept =>
    ⟨by rw [hdev, done_finished], by rw [hdev, done_pipe]; exact pipe_onPipe_same _ _ _, hkept⟩

theorem reqSetAddress_keeps {d : Nat} {s : State} (hheld : (s.dev d).HoldsRequest 0x04) (hlen : (s.dev d).req 6 2 = 0)
    (hlow : 1 ≤ (s.dev d).req 2 2) (hhigh : (s.dev d).req 2 2 ≤ 4094) (hindex : (s.dev d).req 4 2 = 0) (hdata : (s.dev d).DataComplete) :
    ∃ t, exec (.reqSetAddress d) s = .next t ∧ t.dev d = { s.dev d with pendingAddr := (s.dev d).req 2 2, finished := true } ∧ keepsBut [] s t :=
  request_next hheld (by simp [NodeDev.stageOk, hlen]) (by simp [hlow, hhigh, hindex]) hdata fun t hdev hkept => ⟨hdev, hkept⟩

theorem reqSetAddress_refused {d : Nat} {s : State} (hheld : (s.dev d).HoldsRequest 0x04)
    (hout : (s.dev d).req 2 2 = 0 ∨ 4094 < (s.dev d).req 2 2) :
    ∃ t, exec (.reqSetAddress d) s = .next t ∧ t.dev d = { s.dev d with refused := true } ∧ keepsBut [] s t := by
  refine finish_next ?_
  have hbad : (decide (1 ≤ (s.dev d).req 2 2) && decide ((s.dev d).req 2 2 ≤ 4094) && (s.dev d).req 4 2 == 0) = false := by
    rcases hout with h | h <;> simp [h]
  rw [run_request_refused (s := s.quiet) hheld (Bool.and_eq_false_iff.mpr (.inr hbad)), dev_dev_same]
  exact ⟨rfl, keepsBut_of_regs rfl⟩

theorem reqSetConfig_awaits {d : Nat} {s : State} (hheld : (s.dev d).HoldsRequest 0x05) (hvalue : (s.dev d).req 2 2 = 0)
    (hindex : (s.dev d).req 4 2 = 0) (hdir : bitAt ((s.dev d).req 0 1) 7 = false)
    (hlen : (s.dev d).req 6 2 = 16 + 8 * ofBytes (((s.dev d).data.drop 9).take 1)) (hdata : (s.dev d).DataComplete) :
    ∃ t, exec (.reqSetConfig d) s = .next t ∧ t.dev d = { s.dev d with finished := true, configNext := some {
        applyTick := ofBytes ((s.dev d).data.take 8), pathGen := ofBytes (((s.dev d).data.drop 8).take 1) % 4
        pipeEn := ofBytes (((s.dev d).data.drop 12).take 4)
        legs := configLegsOf (s.dev d).data (min 64 (ofBytes (((s.dev d).data.drop 9).take 1))) } } ∧ keepsBut [] s t := by
  have hall : (s.dev d).data.length = (s.dev d).req 6 2 := by
    rcases hdata with h | h | h
    · rw [hdir] at h; cases h
    · omega
    · exact h
  exact request_next hheld (by simp [NodeDev.stageOk, hdir, hall, hlen]) (by simp [hvalue, hindex]) hdata fun t hdev hkept => ⟨hdev, hkept⟩

theorem reqSetBearing_awaits {d : Nat} {s : State} (hheld : (s.dev d).HoldsRequest 0x06) (hvalue : (s.dev d).req 2 2 = 0)
    (hindex : (s.dev d).req 4 2 = 0) (hlen : (s.dev d).req 6 2 = 40) (hdir : bitAt ((s.dev d).req 0 1) 7 = false)
    (hdata : (s.dev d).DataComplete) :
    ∃ t, exec (.reqSetBearing d) s = .next t ∧ t.dev d = { s.dev d with finished := true, bearingNext := some {
        delayDn := ofBytes ((s.dev d).data.take 4), advanceUp := ofBytes (((s.dev d).data.drop 4).take 4)
        refTick := ofBytes (((s.dev d).data.drop 8).take 8), refNs := ofBytes (((s.dev d).data.drop 16).take 8)
        refFrac := ofBytes (((s.dev d).data.drop 24).take 2), applyTick := ofBytes (((s.dev d).data.drop 32).take 8) } } ∧ keepsBut [] s t :=
  request_next hheld (by simp [NodeDev.stageOk, hdir, hlen]) (by simp [hvalue, hindex]) hdata fun t hdev hkept => ⟨hdev, hkept⟩

/-! ### The requests of a hub -/

theorem reqSetRoute_routes {d : Nat} {h : HubState} {s : State} (hheld : (s.dev d).HoldsRequest 0x10) (hlen : (s.dev d).req 6 2 = 0)
    (hlow : 1 ≤ (s.dev d).req 2 2) (hhigh : (s.dev d).req 2 2 ≤ 4094) (hport : (s.dev d).req 4 2 ≤ 15) (hhub : (s.dev d).hub = some h)
    (hdata : (s.dev d).DataComplete) : ∃ t, exec (.reqSetRoute d) s = .next t ∧
      t.dev d = { s.dev d with finished := true, hub := some { h with routes := tset 0 h.routes ((s.dev d).req 2 2) ((s.dev d).req 4 2) } } ∧
      keepsBut [] s t :=
  request_next hheld (by simp [NodeDev.stageOk, hlen]) (by simp [hlow, hhigh, hport]) hdata fun t hdev hkept =>
    ⟨by rw [hdev, onHub_of_some hhub]; rfl, hkept⟩

theorem reqClearPortChange_clears {d : Nat} {h : HubState} {s : State} (hheld : (s.dev d).HoldsRequest 0x12) (hlen : (s.dev d).req 6 2 = 0)
    (hindex : (s.dev d).req 4 2 = 0) (hhub : (s.dev d).hub = some h) (hseq : (s.dev d).req 8 1 = h.seq) (hdata : (s.dev d).DataComplete) :
    ∃ t, exec (.reqClearPortChange d) s = .next t ∧ t.dev d = { s.dev d with finished := true, hub := some { h with
        change := h.change - (h.change &&& (s.dev d).req 2 2), flags := h.flags / 8 * 8 } } ∧ keepsBut [] s t :=
  request_next hheld (by simp [NodeDev.stageOk, hlen]) (by simp [hindex]) hdata fun t hdev hkept =>
    ⟨by rw [hdev, onHub_of_some hhub, HubState.clear, if_pos hseq]; rfl, hkept⟩

theorem reqReadTiming_answers {d : Nat} {h : HubState} {s : State} (hheld : (s.dev d).HoldsRequest 0x13)
    (hdir : bitAt ((s.dev d).req 0 1) 7 = true) (hvalue : (s.dev d).req 2 2 = 0) (hlow : 1 ≤ (s.dev d).req 4 2) (hhigh : (s.dev d).req 4 2 ≤ 15)
    (hlen : (s.dev d).req 6 2 = 16) (hhub : (s.dev d).hub = some h) (hdata : (s.dev d).DataComplete) :
    ∃ t, exec (.reqReadTiming d) s = .next t ∧ (t.dev d).finished = true ∧
      (t.dev d).answer = ((h.port ((s.dev d).req 4 2)).record s.chr.ns).take 16 ∧ keepsBut [] s t :=
  request_next hheld (by simp [NodeDev.stageOk, hdir, hlen]) (by simp [hvalue, hlow, hhigh, hlen]; omega) hdata fun t hdev hkept =>
    ⟨by rw [hdev, done_finished], by rw [hdev, done_answer, respond_answer, hlen, hhub]; simp, hkept⟩

/-! ### SET_PORT_GATE (R102, R110) -/

/-- The state of a device's port is that of its hub part. -/
theorem hubOf_of_some {d : Nat} {h : HubState} {s : State} (hhub : (s.dev d).hub = some h) : s.hubOf d = h := by
  simp only [State.hubOf, hhub, Option.getD_some]

/-- SET_PORT_GATE of a hub that carries it out: the gate is set, and a port that it takes DOWN sends a full RETRAIN. -/
theorem reqSetPortGate_next {d : Nat} {h : HubState} {s : State} (hheld : (s.dev d).HoldsRequest 0x11) (hlen : (s.dev d).req 6 2 = 0)
    (hlow : 1 ≤ (s.dev d).req 2 2) (hhigh : (s.dev d).req 2 2 ≤ 15) (haction : (s.dev d).req 4 2 ≤ 2) (hhub : (s.dev d).hub = some h)
    (hdata : (s.dev d).DataComplete) {P : State → Prop}
    (hP : ∀ u, u.regs = s.regs → u.lanes = s.lanes → u.out = [] →
      u.dev d = { s.dev d with finished := true, hub := some (h.gate ((s.dev d).req 2 2) ((s.dev d).req 4 2) ((s.dev d).req 8 1)) } →
      P (if (h.port ((s.dev d).req 2 2)).state = .addressed ∧
          ((h.gate ((s.dev d).req 2 2) ((s.dev d).req 4 2) ((s.dev d).req 8 1)).port ((s.dev d).req 2 2)).state = .down
        then (hubRetrain d ((s.dev d).req 2 2)).run u else u)) :
    ∃ t, exec (.reqSetPortGate d) s = .next t ∧ P t := by
  refine finish_next ?_
  obtain ⟨u, hu⟩ : ∃ u, u = (Eff.dev d ((s.dev d).onHub fun h =>
    h.gate ((s.dev d).req 2 2) ((s.dev d).req 4 2) ((s.dev d).req 8 1)).done).apply s.quiet := ⟨_, rfl⟩
  have hdev : u.dev d = { s.dev d with finished := true, hub := some (h.gate ((s.dev d).req 2 2) ((s.dev d).req 4 2) ((s.dev d).req 8 1)) } := by
    rw [hu, dev_dev_same, onHub_of_some hhub]; rfl
  have hrun := run_request (s := s.quiet) (stage := fun _ => .none) (ok := fun n => 1 ≤ n.req 2 2 && n.req 2 2 ≤ 15 && n.req 4 2 ≤ 2)
    (f := fun n => n.onHub fun h => h.gate (n.req 2 2) (n.req 4 2) (n.req 8 1)) hheld (by simpa [NodeDev.stageOk] using hlen)
    (by simp [hlow, hhigh, haction]) hdata
  have hhub' : u.hubOf d = h.gate ((s.dev d).req 2 2) ((s.dev d).req 4 2) ((s.dev d).req 8 1) := hubOf_of_some (by rw [hdev])
  rw [run_cons, hrun, quiet_dev, ← hu, run_cons, run_nil, run_read, run_whenP, hhub', hubOf_of_some hhub]
  simpa only [Bool.and_eq_true, beq_iff_eq] using hP u (by rw [hu]; rfl) (by rw [hu]; rfl) (by rw [hu]; rfl) hdev

theorem gate_open {h : HubState} {p seq : Nat} (hstate : (h.port p).state = .unaddressed) (hseq : seq ≠ h.seq) :
    h.gate p 1 seq = h.setPort p { h.port p with gate := true } := by
  have hother : seq ≠ (h.setPort p { h.port p with gate := true }).seq := hseq
  rw [HubState.gate, if_pos rfl, if_pos hstate, HubState.clear, if_neg hother]

theorem gate_address {h : HubState} {p : Nat} (hstate : (h.port p).state = .unaddressed) (seq : Nat) :
    h.gate p 2 seq = h.setPort p { h.port p with state := .addressed, gate := false } := by
  rw [HubState.gate, if_neg (by decide), if_pos rfl, if_pos hstate]

theorem gate_close {h : HubState} {p : Nat} (hstate : (h.port p).state = .addressed) (seq : Nat) : h.gate p 0 seq = h.down p := by
  rw [HubState.gate, if_neg (by decide), if_neg (by decide), if_pos hstate]

theorem reqSetPortGate_opens {d : Nat} {h : HubState} {s : State} (hheld : (s.dev d).HoldsRequest 0x11) (hlen : (s.dev d).req 6 2 = 0)
    (hlow : 1 ≤ (s.dev d).req 2 2) (hhigh : (s.dev d).req 2 2 ≤ 15) (haction : (s.dev d).req 4 2 = 1) (hhub : (s.dev d).hub = some h)
    (hstate : (h.port ((s.dev d).req 2 2)).state = .unaddressed) (hseq : (s.dev d).req 8 1 ≠ h.seq) (hdata : (s.dev d).DataComplete) :
    ∃ t, exec (.reqSetPortGate d) s = .next t ∧
      ((t.dev d).hub.map fun x => x.port ((s.dev d).req 2 2)) = some { h.port ((s.dev d).req 2 2) with gate := true } ∧
      ((t.dev d).hub.map (·.change)) = some h.change ∧ t.out = [] ∧ keepsBut [] s t := by
  refine reqSetPortGate_next hheld hlen hlow hhigh (by omega) hhub hdata fun u hregs _ hout hdev => ?_
  rw [haction, gate_open hstate hseq] at hdev ⊢
  rw [if_neg (by rw [hstate]; simp), hdev]
  exact ⟨congrArg some (port_setPort_same _ _ _), rfl, hout, keepsBut_of_regs hregs⟩

theorem reqSetPortGate_addresses {d : Nat} {h : HubState} {s : State} (hheld : (s.dev d).HoldsRequest 0x11) (hlen : (s.dev d).req 6 2 = 0)
    (hlow : 1 ≤ (s.dev d).req 2 2) (hhigh : (s.dev d).req 2 2 ≤ 15) (haction : (s.dev d).req 4 2 = 2) (hhub : (s.dev d).hub = some h)
    (hstate : (h.port ((s.dev d).req 2 2)).state = .unaddressed) (hdata : (s.dev d).DataComplete) :
    ∃ t, exec (.reqSetPortGate d) s = .next t ∧ ((t.dev d).hub.map fun x => x.port ((s.dev d).req 2 2)) =
      some { h.port ((s.dev d).req 2 2) with state := .addressed, gate := false } ∧ t.out = [] ∧ keepsBut [] s t := by
  refine reqSetPortGate_next hheld hlen hlow hhigh (by omega) hhub hdata fun u hregs _ hout hdev => ?_
  rw [haction, gate_address hstate] at hdev ⊢
  rw [if_neg (by rw [hstate]; simp), hdev]
  exact ⟨congrArg some (port_setPort_same _ _ _), hout, keepsBut_of_regs hregs⟩

/-! ### The RETRAIN of a port that closes (R89, R102) -/

/-- A port that is taken DOWN is DOWN. -/
theorem down_port (h : HubState) (p : Nat) : ((h.down p).port p).state = .down := by
  unfold HubState.down
  split
  next hdown => exact hdown
  next => rw [HubState.changed]; exact congrArg HubPort.state (port_setPort_same _ _ _)

theorem down_routes {h : HubState} {p : Nat} (hstate : (h.port p).state = .addressed) :
    (h.down p).routes = h.routes.filter fun e => e.2 != p := by
  rw [HubState.down, if_neg (by rw [hstate]; simp)]; rfl

/-- What training at a device's end keeps while its device `d` keeps what it is: the registers, the device, and the output so far. -/
def State.TrainingKept (d : Nat) (s t : State) : Prop := t.regs = s.regs ∧ t.dev d = s.dev d ∧ s.out <+: t.out

theorem trainingKept_refl (d : Nat) (s : State) : State.TrainingKept d s s := ⟨rfl, rfl, List.prefix_refl _⟩

theorem State.TrainingKept.trans {d : Nat} {a b c : State} (hab : State.TrainingKept d a b) (hbc : State.TrainingKept d b c) :
    State.TrainingKept d a c := by
  obtain ⟨hregs, hdev, hout⟩ := hab
  obtain ⟨hregs', hdev', hout'⟩ := hbc
  exact ⟨hregs'.trans hregs, hdev'.trans hdev, hout.trans hout'⟩

theorem modLane_trainingKept (d n : Nat) (f : LaneRec → LaneRec) (s : State) : State.TrainingKept d s ((modLane n f).run s) :=
  ⟨rfl, rfl, List.prefix_refl _⟩

theorem emit_trainingKept (d : Nat) (o : Output) (s : State) : State.TrainingKept d s ((emit o).run s) := ⟨rfl, rfl, List.prefix_append _ _⟩

theorem sendTrain_trainingKept (d n : Nat) (ready eqActive : Bool) (s : State) :
    State.TrainingKept d s ((sendTrain n ready eqActive).run s) := by
  simp only [sendTrain, sendSets, run_read, run_whenP]
  split
  · exact emit_trainingKept d _ s
  · exact trainingKept_refl d s

/-- A hub's downstream port whose link leaves UP is DOWN already: nothing of the hub changes. -/
theorem leftUp_trainingKept {d p : Nat} {h : HubState} {s : State} (hlow : 1 ≤ p) (hhigh : p ≤ 15) (hhub : (s.dev d).hub = some h)
    (hdown : (h.port p).state = .down) : State.TrainingKept d s ((leftUp (portEnd d p)).run s) := by
  have hport : portOf (portEnd d p) = p := by unfold portOf portEnd; omega
  have hdev : devOf (portEnd d p) = d := by unfold devOf portEnd; omega
  have hend : 32 ≤ portEnd d p := by unfold portEnd; omega
  have hisPort : hubDown (portEnd d p) = true := by
    simp only [hubDown, hend, hport, decide_true, Bool.true_and, Bool.and_eq_true, bne_iff_ne]; omega
  have hbeyond : ¬ portEnd d p < 19 := by unfold portEnd; omega
  simp only [leftUp, run_read, hbeyond, if_false, hisPort, if_true, hport, hdev, run_modDev]
  refine ⟨rfl, ?_, List.prefix_refl _⟩
  rw [dev_dev_same, onHub_of_some hhub, HubState.down, if_pos hdown, ← hhub]

theorem putLane_beyond {n : Nat} (hn : ¬ n < 19) (f : Field) (v : Nat) (s : State) : (putLane f n v).run s = s := by
  simp only [putLane, run_whenP, decide_eq_false hn, Bool.false_eq_true, if_false]

theorem enterLane_trainingKept {d p : Nat} {h : HubState} {s : State} (hlow : 1 ≤ p) (hhigh : p ≤ 15) (hhub : (s.dev d).hub = some h)
    (hdown : (h.port p).state = .down) (st : Nat) : State.TrainingKept d s ((enterLane (portEnd d p) st).run s) := by
  have hbeyond : ¬ portEnd d p < 19 := by unfold portEnd; omega
  have hroot : ¬ portEnd d p < 16 := by unfold portEnd; omega
  have hmirror : (portEnd d p == 18) = false := by simp only [portEnd, beq_eq_false_iff_ne]; omega
  simp only [enterLane, run_read, run_cons, run_nil, putLane_beyond hbeyond, run_whenP, hmirror, decide_eq_false hroot,
    Bool.false_and, Bool.false_eq_true, if_false]
  have hentered (f : LaneRec → LaneRec) := modLane_trainingKept d (portEnd d p) f s
  split
  · refine (hentered _).trans (leftUp_trainingKept hlow hhigh ?_ hdown)
    exact hhub
  · exact hentered _

/-- A hub's port that enters DETECT changes no register and nothing of the hub, and sends after what was sent. -/
theorem enterDetect_trainingKept {d p : Nat} {h : HubState} {s : State} (hlow : 1 ≤ p) (hhigh : p ≤ 15) (hhub : (s.dev d).hub = some h)
    (hdown : (h.port p).state = .down) : State.TrainingKept d s ((enterDetect (portEnd d p)).run s) := by
  have hbeyond : ¬ portEnd d p < 19 := by unfold portEnd; omega
  simp only [enterDetect, run_read, run_cons, run_nil, putLane_beyond hbeyond, setLock, if_neg hbeyond]
  exact (((enterLane_trainingKept hlow hhigh hhub hdown _).trans (modLane_trainingKept d _ _ _)).trans (modLane_trainingKept d _ _ _)).trans
    (sendTrain_trainingKept d _ _ _ _)

/-- RETRAIN has the same codes at a generation not yet known and at G1. -/
theorem retrain_codes (full : Bool) (g : Nat) : OSet.codes g (.retrain full) = OSet.codes (max 1 g) (.retrain full) := by
  rcases Nat.eq_zero_or_pos g with rfl | h
  · rfl
  · rw [Nat.max_eq_right h]

theorem fullRetrain_sends {d p : Nat} {h : HubState} {s : State} (hlow : 1 ≤ p) (hhigh : p ≤ 15) (hhub : (s.dev d).hub = some h)
    (hdown : (h.port p).state = .down) (hout : s.out = []) : ((fullRetrain (portEnd d p)).run s).regs = s.regs ∧
      ((fullRetrain (portEnd d p)).run s).dev d = s.dev d ∧ ((fullRetrain (portEnd d p)).run s).out.head? =
        some (.ordered (portEnd d p) ((List.replicate 8 (OSet.retrain true)).flatMap (OSet.codes (s.endGen (portEnd d p))))) := by
  have hroot : ¬ portEnd d p < 16 := by unfold portEnd; omega
  have hbeyond : ¬ portEnd d p < 19 := by unfold portEnd; omega
  have hcodes : OSet.codes (s.lane (portEnd d p)).gen (.retrain true) = OSet.codes (s.endGen (portEnd d p)) (.retrain true) := by
    rw [State.endGen, if_neg hbeyond, ← retrain_codes]
  obtain ⟨o, ho⟩ : ∃ o, o = Output.ordered (portEnd d p) ((List.replicate 8 (OSet.retrain true)).flatMap (OSet.codes (s.endGen (portEnd d p)))) :=
    ⟨_, rfl⟩
  have hsent : (sendSets (portEnd d p) (List.replicate 8 (.retrain true))).run s = (Eff.out o).apply s := by
    rw [sendSets, run_read, run_emit, ho]
    simp only [List.flatMap_replicate, hcodes]
  have hrun : (fullRetrain (portEnd d p)).run s = (enterDetect (portEnd d p)).run ((Eff.out o).apply s) := by
    simp only [fullRetrain, run_cons, run_nil, hsent, treeLoses, run_read, run_whenP, decide_eq_false hroot, Bool.false_and, Bool.false_eq_true,
      if_false]
  obtain ⟨hregs, hdev, hprefix⟩ := enterDetect_trainingKept (s := (Eff.out o).apply s) hlow hhigh hhub hdown
  rw [hrun, ← ho]
  refine ⟨hregs, hdev, ?_⟩
  obtain ⟨rest, hrest⟩ := hprefix
  rw [← hrest]
  show ((s.out ++ [o]) ++ rest).head? = some o
  rw [hout]
  rfl

theorem reqSetPortGate_closes {d : Nat} {h : HubState} {s : State} (hheld : (s.dev d).HoldsRequest 0x11) (hlen : (s.dev d).req 6 2 = 0)
    (hlow : 1 ≤ (s.dev d).req 2 2) (hhigh : (s.dev d).req 2 2 ≤ 15) (haction : (s.dev d).req 4 2 = 0) (hhub : (s.dev d).hub = some h)
    (hstate : (h.port ((s.dev d).req 2 2)).state = .addressed) (hup : s.lstate (portEnd d ((s.dev d).req 2 2)) = 7)
    (hdata : (s.dev d).DataComplete) :
    ∃ t, exec (.reqSetPortGate d) s = .next t ∧ ((t.dev d).hub.map fun x => ((x.port ((s.dev d).req 2 2)).state, x.routes)) =
        some (.down, h.routes.filter fun e => e.2 != (s.dev d).req 2 2) ∧
      t.out.head? = some (.ordered (portEnd d ((s.dev d).req 2 2)) ((List.replicate 8 (OSet.retrain true)).flatMap
        (OSet.codes (s.endGen (portEnd d ((s.dev d).req 2 2)))))) ∧ keepsBut [] s t := by
  refine reqSetPortGate_next hheld hlen hlow hhigh (by omega) hhub hdata fun u hregs hlanes hout hdev => ?_
  have hbeyond : ¬ portEnd d ((s.dev d).req 2 2) < 19 := by unfold portEnd; omega
  have hlane (n : Nat) : u.lane n = s.lane n := by simp only [State.lane, hlanes]
  have hup' : u.lstate (portEnd d ((s.dev d).req 2 2)) = Ls.up := by
    rw [← show Ls.up = 7 from rfl, State.lstate, if_neg hbeyond] at hup
    rw [State.lstate, if_neg hbeyond, hlane, hup]
  have hgen : u.endGen (portEnd d ((s.dev d).req 2 2)) = s.endGen (portEnd d ((s.dev d).req 2 2)) := by
    rw [State.endGen, State.endGen, if_neg hbeyond, if_neg hbeyond, hlane]
  rw [haction, gate_close hstate] at hdev ⊢
  rw [if_pos ⟨hstate, down_port _ _⟩, hubRetrain, run_read, run_whenP, hup', if_pos (beq_self_eq_true _)]
  obtain ⟨hregs', hdev', hsent⟩ := fullRetrain_sends hlow hhigh (by rw [hdev]) (down_port h _) hout
  rw [hdev', hdev, hsent, hgen]
  refine ⟨?_, rfl, keepsBut_of_regs (hregs'.trans hregs)⟩
  rw [Option.map_some, down_port, down_routes hstate]

/-- Settles O35: what each standard request that a node holds does, one lemma each; all but the refusal go through `run_request`. -/
theorem nodesCarryOutStandardRequests : Obligations.NodesCarryOutStandardRequests := by
  unfold Obligations.NodesCarryOutStandardRequests
  exact ⟨fun d desc pipes s hreq hstd hcode hfin href => reqGetDescriptor_answers ⟨hreq, hstd, hcode, hfin, href⟩,
    fun d s hreq hstd hcode hfin href => reqGetStatus_answers ⟨hreq, hstd, hcode, hfin, href⟩,
    fun d s hreq hstd hcode hfin href => reqClearHalt_resets ⟨hreq, hstd, hcode, hfin, href⟩,
    fun d s hreq hstd hcode hfin href => reqSetAddress_keeps ⟨hreq, hstd, hcode, hfin, href⟩,
    fun d s hreq hstd hcode hfin href => reqSetAddress_refused ⟨hreq, hstd, hcode, hfin, href⟩,
    fun d s hreq hstd hcode hfin href => reqSetConfig_awaits ⟨hreq, hstd, hcode, hfin, href⟩,
    fun d s hreq hstd hcode hfin href => reqSetBearing_awaits ⟨hreq, hstd, hcode, hfin, href⟩,
    fun d h s hreq hstd hcode hfin href => reqSetRoute_routes ⟨hreq, hstd, hcode, hfin, href⟩,
    fun d h s hreq hstd hcode hfin href => reqSetPortGate_opens ⟨hreq, hstd, hcode, hfin, href⟩,
    fun d h s hreq hstd hcode hfin href => reqSetPortGate_addresses ⟨hreq, hstd, hcode, hfin, href⟩,
    fun d h s hreq hstd hcode hfin href => reqSetPortGate_closes ⟨hreq, hstd, hcode, hfin, href⟩,
    fun d h s hreq hstd hcode hfin href => reqClearPortChange_clears ⟨hreq, hstd, hcode, hfin, href⟩,
    fun d h s hreq hstd hcode hfin href => reqReadTiming_answers ⟨hreq, hstd, hcode, hfin, href⟩⟩

end Sys2Proof.Machine

/-! SUPPORT. The proof of the statement of sync frames, of the PPS output and of the fixes of links (file 02; Machine/Chronometer.lean). -/

namespace Sys2Proof.Machine

/-! ### Sync frames and the PPS output (R46, R47, R53) -/

theorem le_whenChron (s : State) (v : Nat) : s.chr.ns ≤ s.whenChron v := Nat.le_add_right _ _

theorem syncFrameSend_root {s : State} (hroot : s.role = 1) (hup : s.portUp 17 = true) (hdepth : s.bit Fld.CHR_SYNC_STATUS.DEPTH_LIMIT = false)
    (hssc : s.bit Fld.CHR_STATUS.SSC_ACTIVE = false) (hreach : s.reaches (s.whenChron ((s.chron / 65536 + 1) * 65536)) = true) :
    ∃ t, exec .syncFrameSend s = .next t ∧
      t.out = [.ordered 17 (syncFrame ((s.chron / 65536 + 1) * 65536) 0 s.timeCode (s.fld Fld.CHR_STATUS.EPOCH) s.deviceId)] ∧
      t.chr.ns = s.whenChron ((s.chron / 65536 + 1) * 65536) ∧ keepsBut [] s t := by
  have hsends : (s.sendsSync && s.portUp 17) = true := by simp [State.sendsSync, hroot, hup, hdepth, hssc]
  refine whenP_next hsends (atNs_next hreach fun frac => ?_)
  rw [Nat.max_eq_right (le_whenChron s _), if_pos hroot]
  exact ⟨rfl, rfl, keepsBut_of_regs rfl⟩

theorem meridOutPpsPulse_rises {s : State} (hen : s.bit Fld.CHR_CTRL.MERID_OUT_EN = true) (hpps : s.bit Fld.CHR_MERID_OUT_CFG.PPS_MODE = true)
    (hreach : s.reaches (s.whenChron ((s.chron / 1000000000 + 1) * 1000000000)) = true) :
    ∃ t, exec .meridOutPpsPulse s = .next t ∧ t.out = [.pulse "MERID_OUT" (32 * max 1 (s.fld Fld.CHR_MERID_OUT_CFG.WIDTH))] ∧
      t.chr.ns = s.whenChron ((s.chron / 1000000000 + 1) * 1000000000) ∧
      t.chr.meridOutUntil = t.chr.ns + 32 * max 1 (s.fld Fld.CHR_MERID_OUT_CFG.WIDTH) ∧ keepsBut [] s t := by
  refine whenP_next (by rw [hen, hpps]; rfl) (atNs_next hreach fun frac => ?_)
  rw [Nat.max_eq_right (le_whenChron s _)]
  exact ⟨rfl, rfl, rfl, keepsBut_of_regs rfl⟩

/-! ### Link fixes (R33, R34, R42, R46) -/

theorem fixOf_fix_same (l : Nat) (v : LinkFix) (s : State) : ((Eff.fix l v).apply s).fixOf l = v := by
  simp only [State.fixOf, apply_fix, tget, Sparse.get_set_same]

theorem fixOf_modFix_same (l : Nat) (f : LinkFix → LinkFix) (s : State) : ((modFix l f).run s).fixOf l = f (s.fixOf l) := fixOf_fix_same l _ s

/-- The first round of a link enters the filter (R42). -/
theorem filter_first {f : LinkFix} (h : f.filtered = none) (round now : Nat) :
    f.filter round now = ({ f with filtered := some round, discarded := none, lastGood := now }, true) := by
  simp only [LinkFix.filter, h]

/-- A fix record is kept by a program that reaches none. -/
theorem run_fixOf {m : Nat} {p : Prog} (hp : p.Within m) (h : m.testBit 28 = false) (l : Nat) (s : State) : (p.run s).fixOf l = s.fixOf l := by
  unfold State.fixOf; rw [run_fixes hp h]

/-- What a fix that starts on a lane at an instant does, by what a state says of the lane. -/
def fixBegins (lane at0 : Nat) (s : State) : Prog := seqs [
  modFix lane fun f => { f with
    outstanding := some (f.seq, at0), seq := (f.seq + 1) % 256
    due := at0 / 65536 + periodMs (s.fld Fld.CHR_FIX_CFG.REFRESH_MS) * 1000000 },
  modLane lane fun l => { l with txUntil := setsEnd at0 (s.endGen lane) 1 (.lfixReq 0) },
  emit (.ordered lane ((OSet.lfixReq (s.fixOf lane).seq).codes (s.endGen lane)))]

section
variable {lane t1 at0 : Nat} {s : State}

/-- A fix starts on a lane that is UP, free and without one outstanding. -/
theorem run_fixStart (hat : at0 = s.afterSync lane (max t1 s.fine) (65536 * setsTime (s.endGen lane) (.lfixReq 0) 1))
    (hup : s.portUp lane = true) (hidle : (s.fixOf lane).outstanding = none)
    (hclear : s.laneClear lane at0 (65536 * setsTime (s.endGen lane) (.lfixReq 0) 1) = true) :
    (fixStart lane t1).run s = (atFine at0 (fixBegins lane at0 s)).run s := by
  subst hat
  have hstart : (s.portUp lane && (s.fixOf lane).outstanding == none && s.laneClear lane
      (s.afterSync lane (max t1 s.fine) (65536 * setsTime (s.endGen lane) (.lfixReq 0) 1)) (65536 * setsTime (s.endGen lane) (.lfixReq 0) 1)) = true := by
    rw [hup, hidle, hclear]; rfl
  simp only [fixStart, run_read, run_whenP, hstart, if_true, fixBegins]

theorem fixStart_sends (hat : at0 = s.afterSync lane (max t1 s.fine) (65536 * setsTime (s.endGen lane) (.lfixReq 0) 1))
    (hup : s.portUp lane = true) (hidle : (s.fixOf lane).outstanding = none)
    (hclear : s.laneClear lane at0 (65536 * setsTime (s.endGen lane) (.lfixReq 0) 1) = true) (hreach : s.reachesFine at0 = true) :
    ∃ t, finish (fixStart lane t1) s = .next t ∧ t.out = [.ordered lane ((OSet.lfixReq (s.fixOf lane).seq).codes (s.endGen lane))] ∧
      (t.fixOf lane).outstanding = some ((s.fixOf lane).seq, at0) ∧ (t.fixOf lane).seq = ((s.fixOf lane).seq + 1) % 256 ∧
      (t.fixOf lane).due = at0 / 65536 + periodMs (s.fld Fld.CHR_FIX_CFG.REFRESH_MS) * 1000000 ∧ keepsBut [] s t := by
  obtain ⟨ns, frac, hrun⟩ := atFine_run (s := s.quiet) hreach (fixBegins lane at0 s.quiet)
  obtain ⟨t, ht⟩ : ∃ t, t = (fixBegins lane at0 s.quiet).run (s.quiet.atInstant ns frac) := ⟨_, rfl⟩
  have hfix : t.fixOf lane = { s.fixOf lane with
      outstanding := some ((s.fixOf lane).seq, at0), seq := ((s.fixOf lane).seq + 1) % 256
      due := at0 / 65536 + periodMs (s.fld Fld.CHR_FIX_CFG.REFRESH_MS) * 1000000 } := by
    rw [ht, fixBegins, run_cons, run_fixOf (m := 0x800400000)
      (within_cons (modLane_within (by decide) _ _) (within_cons (within_emit (by decide)) within_nil)) (by decide)]
    exact fixOf_modFix_same lane _ (s.quiet.atInstant ns frac)
  refine ⟨t, ?_, by rw [ht]; rfl, by rw [hfix], by rw [hfix], by rw [hfix], keepsBut_of_regs (by rw [ht]; rfl)⟩
  rw [finish_quiet, run_fixStart (s := s.quiet) hat hup hidle hclear, hrun, ht]

/-- LFIX_REQ_SEND fixes the link of a root port that is due. -/
theorem lfixReqSend_sends (hlane : lane < 16) (hdue : 65536 * (s.fixOf lane).due ≤ max t1 s.fine)
    (hat : at0 = max t1 s.fine) (hup : s.portUp lane = true) (hidle : (s.fixOf lane).outstanding = none)
    (hclear : s.laneClear lane at0 (65536 * setsTime (s.endGen lane) (.lfixReq 0) 1) = true) (hreach : s.reachesFine at0 = true) :
    ∃ t, exec (.lfixReqSend lane t1) s = .next t ∧ t.out = [.ordered lane ((OSet.lfixReq (s.fixOf lane).seq).codes (s.endGen lane))] ∧
      (t.fixOf lane).outstanding = some ((s.fixOf lane).seq, at0) ∧ (t.fixOf lane).seq = ((s.fixOf lane).seq + 1) % 256 ∧
      (t.fixOf lane).due = at0 / 65536 + periodMs (s.fld Fld.CHR_FIX_CFG.REFRESH_MS) * 1000000 ∧ keepsBut [] s t := by
  have hroot : at0 = s.afterSync lane (max t1 s.fine) (65536 * setsTime (s.endGen lane) (.lfixReq 0) 1) := by
    rw [State.afterSync, if_pos (.inl (by omega)), hat]
  exact whenP_next (by simp [hlane, hdue]) (fixStart_sends hroot hup hidle hclear hreach)

/-- AUX_LINK_FIX fixes an auxiliary lane where the controller takes part. -/
theorem auxLinkFix_sends
    (hrole : (lane = 16 ∨ lane = 17) ∧ s.role ≠ 0 ∧ s.bit Fld.CHR_STATUS.SSC_ACTIVE = false ∨ lane = 18 ∧ s.standby = true)
    (hat : at0 = s.afterSync lane (max t1 s.fine) (65536 * setsTime (s.endGen lane) (.lfixReq 0) 1))
    (hup : s.portUp lane = true) (hidle : (s.fixOf lane).outstanding = none)
    (hclear : s.laneClear lane at0 (65536 * setsTime (s.endGen lane) (.lfixReq 0) 1) = true) (hreach : s.reachesFine at0 = true) :
    ∃ t, exec (.auxLinkFix lane t1) s = .next t ∧ t.out = [.ordered lane ((OSet.lfixReq (s.fixOf lane).seq).codes (s.endGen lane))] ∧
      (t.fixOf lane).outstanding = some ((s.fixOf lane).seq, at0) ∧ (t.fixOf lane).seq = ((s.fixOf lane).seq + 1) % 256 ∧
      (t.fixOf lane).due = at0 / 65536 + periodMs (s.fld Fld.CHR_FIX_CFG.REFRESH_MS) * 1000000 ∧ keepsBut [] s t := by
  refine whenP_next ?_ (fixStart_sends hat hup hidle hclear hreach)
  rcases hrole with ⟨rfl | rfl, hrole, hssc⟩ | ⟨rfl, hstandby⟩
  · simp [hrole, hssc]
  · simp [hrole, hssc]
  · simp [hstandby]

end

theorem lfixReqReceive_answers {n word t2 t3 at0 : Nat} {s : State} (hword : word % 256 = 0x61) (hup : s.endUp n = true)
    (hend : (16 ≤ n ∧ n < 19) ∨ (32 ≤ n ∧ n % 16 = 0)) (hrole : n = 18 ∨ 19 ≤ n ∨ s.role ≠ 0)
    (hat : at0 = s.afterSync n (afterBusy (s.endBusy n) (max t2 (max t3 (65536 * (s.lane n).txUntil))) (65536 * respTime (s.endGen n)))
      (65536 * respTime (s.endGen n))) (hlimit : at0 - t2 ≤ s.turnLimit * 65536) (hreach : s.reachesFine t2 = true) :
    ∃ t, exec (.lfixReqReceive n word t2 t3) s = .next t ∧ t.out = [.ordered n (lfixResp (s.endGen n) (bitsAt word 8 8)
      (turnCount (at0 - t2) (s.endGen n)) (s.localTime n t2 / 65536) (s.localTime n t2))] ∧ keepsBut [] s t := by
  have hasks : (word % 256 == 0x61 && s.endUp n && (decide (16 ≤ n) && decide (n < 19) || decide (32 ≤ n) && n % 16 == 0) &&
      (n == 18 || decide (19 ≤ n) || s.role != 0)) = true := by
    simp only [Bool.and_eq_true, Bool.or_eq_true, beq_iff_eq, decide_eq_true_eq, bne_iff_ne]
    exact ⟨⟨⟨hword, hup⟩, hend⟩, by rcases hrole with h | h | h <;> simp [h]⟩
  refine whenP_next hasks (atFine_next hreach fun ns frac => ?_)
  obtain ⟨u, hu⟩ : ∃ u, u = s.quiet.atInstant ns frac := ⟨_, rfl⟩
  have hgen : u.endGen n = s.endGen n := by rw [hu]; rfl
  have hafter (t dur : Nat) : u.afterSync n t dur = s.afterSync n t dur := by rw [hu]; rfl
  have hbusy : u.endBusy n = s.endBusy n := by rw [hu]; rfl
  have hlane : u.lane n = s.lane n := by rw [hu]; rfl
  have hturn : u.turnLimit = s.turnLimit := by rw [hu]; rfl
  have hlocal : u.localTime n t2 = s.localTime n t2 := by rw [hu]; rfl
  simp only [run_read, run_whenP, ← hu, hgen, hafter, hbusy, hlane, hturn, hlocal, ← hat, decide_eq_true hlimit, if_true, run_cons, run_nil, run_emit]
  exact ⟨by rw [hu]; rfl, keepsBut_of_regs (by rw [hu]; rfl)⟩

/-! ### The answers to fixes (R33, R34, R42) -/

section
variable {lane : Nat} {s : State}

theorem linkFixFail_counts {q t1 : Nat} (hout : (s.fixOf lane).outstanding = some (q, t1))
    (hreach : s.reachesFine (t1 + (s.turnLimit + 4096) * 65536) = true) :
    ∃ t, exec (.linkFixFail lane) s = .next t ∧ (t.fixOf lane).outstanding = none ∧ (t.fixOf lane).fails = min 255 ((s.fixOf lane).fails + 1) ∧
      (t.fixOf lane).filtered = (s.fixOf lane).filtered := by
  have hexec : exec (.linkFixFail lane) s = execLinkFixFail lane s := rfl
  rw [hexec]
  simp only [execLinkFixFail, hout]
  refine atFine_next hreach fun ns frac => ?_
  rw [run_cons, run_cons, run_nil]
  obtain ⟨u, hu⟩ : ∃ u, u = (modFix lane fun f => { f with outstanding := none, fails := min 255 (f.fails + 1) }).run (s.quiet.atInstant ns frac) :=
    ⟨_, rfl⟩
  have hfix : u.fixOf lane = { s.fixOf lane with outstanding := none, fails := min 255 ((s.fixOf lane).fails + 1) } := by
    rw [hu]; exact fixOf_modFix_same lane _ (s.quiet.atInstant ns frac)
  rw [← hu, run_fixOf (m := 0x20040000004) (within_whenP ?_) (by decide), hfix]
  · exact ⟨rfl, rfl, rfl⟩
  · split
    · exact within_whenP (within_cons (putBearing_within (by decide) _ _) (within_cons (missed_within (by decide) _) within_nil))
    · exact within_skip

theorem lfixRespReceive_ends {a b q turn loc t4 t1 : Nat} (hout : (s.fixOf lane).outstanding = some (q, t1))
    (hfields : respFields (s.endGen lane) a b = some (q, turn, loc)) (hup : s.portUp lane = true)
    (htime : t4 < t1 + (s.turnLimit + 4096) * 65536) (hreach : s.reachesFine t4 = true) (hfirst : (s.fixOf lane).filtered = none) :
    ∃ t, exec (.lfixRespReceive lane a b t4) s = .next t ∧ (t.fixOf lane).outstanding = none ∧ (t.fixOf lane).fails = 0 ∧
      (t.fixOf lane).filtered = some (((t4 : Int) - t1 - turnTime turn (s.endGen lane)).toNat) := by
  have hexec : exec (.lfixRespReceive lane a b t4) s = execLfixRespReceive lane a b t4 s := rfl
  rw [hexec]
  simp only [execLfixRespReceive, hout, hfields]
  refine whenP_next (by rw [hup]; simpa using htime) (atFine_next hreach fun ns frac => ?_)
  obtain ⟨u, hu⟩ : ∃ u, u = s.quiet.atInstant ns frac := ⟨_, rfl⟩
  have hgen : u.endGen lane = s.endGen lane := by rw [hu]; rfl
  rw [← hu, run_read, hgen, run_cons, run_cons, run_cons, run_nil]
  rw [run_fixOf (wakeFixed_within (pm := 0x8000000) (by decide)) (by decide), run_fixOf (m := 0x200c7542584) (within_whenP ?_) (by decide)]
  · rw [fixOf_modFix_same, filter_first hfirst]
    exact ⟨rfl, rfl, rfl⟩
  · split
    · split
      · exact refreshSkew_within (by decide) _
      · exact within_cons (goodResponse_within (by decide) _) (within_cons (putBearing_within (by decide) _ _)
          (within_cons (bearingsBelow_within (by decide) _ _ _ _ _) within_nil))
    · exact within_skip

end

/-! ### The polls of hubs (R42) -/

theorem nrec_modRec_same (a : Nat) (f : NodeRec → NodeRec) (s : State) : ((modRec a f).run s).nrec a = f (s.nrec a) := by
  simp only [modRec, modTree, run_eff, State.nrec, apply_tree, tget, tset, Sparse.get_set_same]

/-- A conversation that is queued with a number not in use is found by it. -/
theorem lookup_append_new {l : List (Nat × Conv)} {k : Nat} (h : l.lookup k = none) (v : Conv) : (l ++ [(k, v)]).lookup k = some v := by
  rw [List.lookup_append, h]; simp

section
variable {hub : Nat} {s : State}

theorem hubTimingPoll_asks (hrun : (s.node hub).state.running = true) (hhub : (s.node hub).hub = true) (hactive : s.standby = false)
    (hpoll : (s.nrec hub).poll = none) (hnew : s.convOf s.conv.next = none) (hreach : s.reaches (s.nrec hub).pollDue = true) :
    ∃ t, exec (.hubTimingPoll hub) s = .next t ∧ (t.nrec hub).poll = some s.conv.next ∧
      (t.nrec hub).pollDue = max s.chr.ns (s.nrec hub).pollDue + periodMs (s.fld Fld.CHR_FIX_CFG.REPORT_MS) * 1000000 ∧
      (t.convOf s.conv.next).map (fun c => (c.node, c.setup)) = some (hub, setupBytes 0x80 0x13 0 1 240) ∧ keepsBut [] s t := by
  have hexec : exec (.hubTimingPoll hub) s = execHubTimingPoll hub s := rfl
  rw [hexec]
  simp only [execHubTimingPoll, hpoll]
  refine whenP_next (by rw [hrun, hhub, hactive]; rfl) (atNs_next hreach fun frac => ?_)
  rw [run_cons, run_cons, run_nil, run_read, nrec_modRec_same]
  refine ⟨rfl, rfl, ?_, keepsBut_of_regs rfl⟩
  refine congrArg (Option.map _) (lookup_append_new hnew _)

end

/-! ### The records of a hub's answer (R42, R43) -/

theorem putBearing_recs (a : Nat) (v : Bearing) (s : State) : ((putBearing a v).run s).tree.recs = s.tree.recs := by
  rw [putBearing_tree]

theorem postEvent_tree (i code detail status : Nat) (s : State) : ((postEvent i code detail status).run s).tree = s.tree :=
  run_tree (postEvent_within (pm := 0x7540580) (by decide) _ _ _ _) (by decide) s

/-- Bringing a bearing up to date keeps the tree logic's records. -/
theorem bearingUpdate_recs (a : Nat) (first contributes : Bool) (s : State) :
    ((bearingUpdate a first contributes).run s).tree.recs = s.tree.recs := by
  simp only [bearingUpdate, run_read]
  split
  · rw [run_whenP]
    split
    · exact putBearing_recs _ _ _
    · rfl
  · split
    · rfl
    · have hsent (c : Bool) (u : State) : ((whenP c (sendBearing a)).run u).tree.recs = u.tree.recs :=
        congrArg TreeUnit.recs (run_tree (within_whenP (sendBearing_within (pm := 0x80000000) (by decide) a)) (by decide) u)
      rw [run_cons, run_cons, run_nil, run_read, hsent]
      split
      · split
        · rw [run_cons, run_cons, run_nil, postEvent_tree, putBearing_recs]
        · exact putBearing_recs _ _ _
      · split
        · rw [run_cons, run_cons, run_nil, postEvent_tree, putBearing_recs]
        · exact putBearing_recs _ _ _

theorem bearingsBelow_recs (port hubs route tier : Nat) (contributes : Bool) (s : State) :
    ((bearingsBelow port hubs route tier contributes).run s).tree.recs = s.tree.recs := by
  have hkeeps {α : Type} (l : List α) (f : α → Prog) (h : ∀ x u, ((f x).run u).tree.recs = u.tree.recs) (u : State) :
      ((forP l f).run u).tree.recs = u.tree.recs :=
    run_forP_keeps (fun a b => b.tree.recs = a.tree.recs) (fun _ => rfl) (fun _ _ _ hab hbc => hbc.trans hab) l f (fun x _ u => h x u) u
  rw [bearingsBelow, run_read]
  refine hkeeps _ _ (fun t u => ?_) s
  rw [run_whenP]
  split
  · exact hkeeps _ _ (fun a u => bearingUpdate_recs a false contributes u) u
  · rfl

theorem nodeBelow_congr {s t : State} (h : t.tree.nodes = s.tree.nodes) (hub port : Nat) : t.nodeBelow hub port = s.nodeBelow hub port := by
  simp only [State.nodeBelow, State.node, h]

/-- A valid record of the link below a hub's port is that link's fix. -/
theorem takeTiming_run {hub port a : Nat} {rec : List Byte} {s : State} (hbelow : s.nodeBelow hub port = some a)
    (hvalid : bitAt (ofBytes ((rec.drop 12).take 1)) 0 = true) :
    (takeTiming hub port rec).run s = (modFix (32 + a) fun f => { f with
      filtered := some (ofBytes ((rec.drop 0).take 4)), theta := signedOf (ofBytes ((rec.drop 4).take 2)) 16 * 16
      resUp := ofBytes ((rec.drop 6).take 4), lastGood := s.chr.ns - ofBytes ((rec.drop 10).take 2) * 1000000 }).run s := by
  simp only [takeTiming, run_read, hbelow, run_whenP, hvalid, if_true]

/-- A record of the link below a hub's port is taken, and the bearings below are brought up to date. -/
theorem takeRecord_takes {hub port a : Nat} {rec : List Byte} {s : State} (hbelow : s.nodeBelow hub port = some a)
    (hvalid : bitAt (ofBytes ((rec.drop 12).take 1)) 0 = true) :
    (((takeRecord hub port rec).run s).fixOf (32 + a)).filtered = some (ofBytes (rec.take 4)) ∧
      (((takeRecord hub port rec).run s).fixOf (32 + a)).resUp = ofBytes ((rec.drop 6).take 4) ∧
      ((takeRecord hub port rec).run s).tree.recs = s.tree.recs := by
  have htree : ((takeTiming hub port rec).run s).tree = s.tree := run_tree (takeTiming_within (pm := 0x10000000) (by decide) _ _ _) (by decide) s
  have hbelow' : ((takeTiming hub port rec).run s).nodeBelow hub port = some a :=
    (nodeBelow_congr (congrArg TreeUnit.nodes htree) hub port).trans hbelow
  simp only [takeRecord, run_read, run_cons, run_nil, hbelow']
  rw [run_fixOf (bearingsBelow_within (pm := 0x200c7540580) (by decide) _ _ _ _ _) (by decide), bearingsBelow_recs, htree,
    takeTiming_run hbelow hvalid, fixOf_modFix_same]
  exact ⟨rfl, rfl, rfl⟩

theorem hubTimingPoll_takes {hub a k : Nat} {data : List Byte} {s : State} (hrun : (s.node hub).state.running = true)
    (hhub : (s.node hub).hub = true) (hactive : s.standby = false) (hpoll : (s.nrec hub).poll = some k)
    (hanswer : s.conv.answers.lookup k = some (St.success, data)) (hlen : data.length = 16) (hbelow : s.nodeBelow hub 1 = some a)
    (hvalid : bitAt (ofBytes ((data.drop 12).take 1)) 0 = true) : ∃ t, exec (.hubTimingPoll hub) s = .next t ∧
      (t.fixOf (32 + a)).filtered = some (ofBytes (data.take 4)) ∧ (t.fixOf (32 + a)).resUp = ofBytes ((data.drop 6).take 4) ∧
      (t.nrec hub).poll = none := by
  have hexec : exec (.hubTimingPoll hub) s = execHubTimingPoll hub s := rfl
  rw [hexec]
  simp only [execHubTimingPoll, hpoll, hanswer]
  refine whenP_next (by rw [hrun, hhub, hactive]; rfl) (finish_next ?_)
  have htaken : (St.success == St.success || St.success == St.short) = true := rfl
  obtain ⟨u, hu⟩ : ∃ u, u = (modRec hub fun r => { r with poll := none }).run ((dropRequest (some k)).run s.quiet) := ⟨_, rfl⟩
  have hbelow' : u.nodeBelow hub 1 = some a := by rw [nodeBelow_congr (s := s) (by rw [hu]; rfl), hbelow]
  have hpoll' : (u.nrec hub).poll = none := by rw [hu, nrec_modRec_same]
  have hrecord : (data.drop (16 * 0)).take 16 = data := by rw [Nat.mul_zero, List.drop_zero, List.take_of_length_le (Nat.le_of_eq hlen)]
  rw [run_cons, run_cons, run_cons, run_nil, ← hu, run_whenP, if_pos htaken, hlen, show List.range (16 / 16) = [0] from rfl, run_forP_cons,
    run_forP_nil, hrecord]
  obtain ⟨hfiltered, hres, hrecs⟩ := takeRecord_takes hbelow' hvalid
  exact ⟨hfiltered, hres, by rw [State.nrec, hrecs]; exact hpoll'⟩

/-! ### The age of a bearing (R43) -/

theorem ageBound_le (s : State) (a : Nat) : s.ageBound a ≤ 4000 := by unfold State.ageBound periodMs; omega

theorem bearingStale_stale {a : Nat} {s : State} (hfixed : (s.bearing a).state = .fixed) (hactive : s.standby = false)
    (hreach : s.reaches ((s.bearing a).since + (s.ageBound a + 1) * 1000000) = true) :
    ∃ t, exec (.bearingStale a) s = .next t ∧ (t.bearing a).state = .stale ∧ (t.bearing a).staleReason = 4 ∧
      (t.bearing a).delayDn = (s.bearing a).delayDn := by
  refine whenP_next (by rw [hfixed, hactive]; rfl) (finish_next ?_)
  obtain ⟨frac, hmoved⟩ := movedTo_atInstant s.quiet ((s.bearing a).since + (s.ageBound a + 1) * 1000000)
  obtain ⟨u, hu⟩ : ∃ u, u = (advanceTo ((s.bearing a).since + (s.ageBound a + 1) * 1000000)).run s.quiet := ⟨_, rfl⟩
  have hu' : u = s.quiet.atInstant (max s.chr.ns ((s.bearing a).since + (s.ageBound a + 1) * 1000000)) frac := by
    rw [hu, advanceTo_run (s := s.quiet) hreach, hmoved]; rfl
  have hns : (s.bearing a).since + (s.ageBound a + 1) * 1000000 ≤ u.chr.ns := by rw [hu']; exact Nat.le_max_right _ _
  have hbound : u.ageBound a = s.ageBound a := by rw [hu']; rfl
  have hold : u.age (s.bearing a) > u.ageBound a := by
    have hle := ageBound_le s a
    rw [hbound, State.age]
    omega
  rw [run_cons, run_cons, run_nil, ← hu, run_read, run_whenP, if_pos (decide_eq_true hold), run_cons, run_cons, run_nil, State.bearing,
    postEvent_tree, ← State.bearing, bearing_putBearing_same]
  exact ⟨rfl, rfl, rfl⟩

/-! ### Sync frames received (R47, R48, R51) -/

/-- The state in which a valid sync frame has been shown: its root, its depth and that the follower is locked to it. -/
def State.frameShown (s : State) (b c : Nat) : State :=
  (Eff.fld Fld.CHR_SYNC_STATUS.UP_LOCKED 0 1).apply
    ((Eff.fld Fld.CHR_SYNC_STATUS.DEPTH_LIMIT 0 (if bitsAt b 16 10 = 1023 then 1 else 0)).apply
      ((Eff.fld Fld.CHR_SYNC_STATUS.DEPTH 0 (min 1023 (bitsAt b 16 10 + 1))).apply
        ((Eff.chr fun u => { u with
          missRun := 0, rootEpoch := bitsAt b 28 2, upState := bitsAt b 26 2, upRootId := bitsAt b 32 32 + bitsAt c 8 32 * 2 ^ 32
          syncSeen := true }).apply s)))

/-- What disciplining the chronometer to a domain keeps: what it knows of the domain, and the fields that discipline does not write. -/
def State.DomainShown (s t : State) : Prop :=
  s.chr.DomainKept t.chr ∧
    ∀ f ∈ [Fld.CHR_SYNC_STATUS.DEPTH, Fld.CHR_SYNC_STATUS.DEPTH_LIMIT, Fld.CHR_SYNC_STATUS.UP_LOCKED], t.fld f = s.fld f

theorem domainShown_refl (s : State) : s.DomainShown s := ⟨domainKept_of_chr_eq rfl, fun _ _ => rfl⟩

theorem State.DomainShown.trans {a b c : State} (hab : a.DomainShown b) (hbc : b.DomainShown c) : a.DomainShown c :=
  ⟨hab.1.trans hbc.1, fun f hf => (hbc.2 f hf).trans (hab.2 f hf)⟩

/-- The fields of a domain that are shown are in the chronometer's block, and none of those that discipline writes. -/
theorem shown_rows : ∀ f ∈ [Fld.CHR_SYNC_STATUS.DEPTH, Fld.CHR_SYNC_STATUS.DEPTH_LIMIT, Fld.CHR_SYNC_STATUS.UP_LOCKED],
    blockOf f.row = 0 ∧ f.row ≠ Fld.CHR_STATUS.TIME_STATE.row ∧ f.row ≠ Fld.CHR_HOLDOVER.EST_NS.row ∧
      f.row ≠ Fld.CHR_STATUS.DEGRADED.row ∧ f.row ≠ Fld.CHR_RATE_TRIM.TRIM.row ∧ f.row ≠ Fld.CHR_SYNC_STATUS.OFFSET.row := by decide

theorem acquire_domainShown (s : State) : s.DomainShown (acquire.run s) := by
  refine ⟨acquire_domainKept s, fun f hf => ?_⟩
  obtain ⟨-, hstate, -⟩ := shown_rows f hf
  exact acquire_fld hstate 0 s

theorem sample_domainShown (good : Bool) (n : Nat) (s : State) : s.DomainShown ((sample good n).run s) := by
  refine ⟨sample_domainKept good n s, fun f hf => ?_⟩
  obtain ⟨hblock, hstate, hest, hdegraded, -, -⟩ := shown_rows f hf
  exact sample_fld hblock hstate hest hdegraded good n 0 s

theorem servo_domainShown (offset : Int) (large : Bool) (s : State) : s.DomainShown ((servo offset large).run s) := by
  refine ⟨servo_domainKept offset large s, fun f hf => ?_⟩
  obtain ⟨-, -, -, -, htrim, -⟩ := shown_rows f hf
  exact servo_fld htrim offset large 0 s

theorem offset_domainShown (v : Nat) (s : State) : s.DomainShown ((Eff.fld Fld.CHR_SYNC_STATUS.OFFSET 0 v).apply s) := by
  refine ⟨domainKept_of_chr_eq (by simp only [apply_fld]), fun f hf => ?_⟩
  obtain ⟨-, -, -, -, -, hoffset⟩ := shown_rows f hf
  exact fld_fld_ne hoffset _ _ _ _

/-- Showing the offset and disciplining to it. -/
theorem discipline_domainShown (v : Nat) (used good large : Bool) (n : Nat) (offset : Int) (s : State) :
    s.DomainShown ((seqs [put Fld.CHR_SYNC_STATUS.OFFSET v, whenP used (seqs [acquire, sample good n, servo offset large])]).run s) := by
  have hlater (w : State) : w.DomainShown ((whenP used (seqs [acquire, sample good n, servo offset large])).run w) := by
    rw [run_whenP]
    split
    · have hacquired := acquire_domainShown w
      have hsampled := sample_domainShown good n (acquire.run w)
      exact (hacquired.trans hsampled).trans (servo_domainShown offset large _)
    · exact domainShown_refl w
  exact (offset_domainShown v s).trans (hlater _)

/-- What a follower shows and keeps of a valid frame. -/
def State.ShowsFrame (t : State) (b c : Nat) : Prop :=
  t.fld Fld.CHR_SYNC_STATUS.DEPTH = min 1023 (bitsAt b 16 10 + 1) ∧ t.bit Fld.CHR_SYNC_STATUS.DEPTH_LIMIT = decide (bitsAt b 16 10 = 1023) ∧
    t.bit Fld.CHR_SYNC_STATUS.UP_LOCKED = true ∧ t.chr.syncSeen = true ∧ t.chr.upRootId = bitsAt b 32 32 + bitsAt c 8 32 * 2 ^ 32 ∧
    t.chr.rootEpoch = bitsAt b 28 2 ∧ t.chr.missRun = 0

theorem frameShown_shows (s : State) (b c : Nat) : (s.frameShown b c).ShowsFrame b c := by
  refine ⟨?_, ?_, ?_, rfl, rfl, rfl, rfl⟩
  · rw [State.frameShown, fld_fld_ne (by decide), fld_fld_ne (by decide), fld_fld_same]
    exact Nat.mod_eq_of_lt (by show _ < 2 ^ 10; omega)
  · rw [State.bit, State.frameShown, fld_fld_ne (by decide), fld_fld_same]
    split
    next h => rw [decide_eq_true h]; rfl
    next h => rw [decide_eq_false h]; rfl
  · rw [State.bit, State.frameShown, fld_fld_same]; rfl

/-- What keeps what is shown of a domain goes on showing the frame. -/
theorem State.ShowsFrame.kept {s t : State} {b c : Nat} (h : s.ShowsFrame b c) (hst : s.DomainShown t) : t.ShowsFrame b c := by
  obtain ⟨hdepth, hlimit, hlocked, hseen, hroot, hepoch, hmiss⟩ := h
  obtain ⟨⟨hseen', hroot', hepoch', -, hmiss'⟩, hfld⟩ := hst
  refine ⟨(hfld _ (by simp)).trans hdepth, ?_, ?_, hseen'.trans hseen, hroot'.trans hroot, hepoch'.trans hepoch, hmiss' hmiss⟩
  · rw [State.bit, hfld _ (by simp)]; exact hlimit
  · rw [State.bit, hfld _ (by simp)]; exact hlocked

/-- A follower's first frame waits to step the chronometer, and the domain is acquired. -/
theorem stepWaits_shows {s : State} {b c : Nat} (h : s.ShowsFrame b c) (amount : Int) :
    (acquire.run ((Eff.chr fun u => { u with domainStep := some amount, domainLatched := false, domainDueNs := u.ns + 1000 }).apply s)).ShowsFrame b c ∧
      (acquire.run ((Eff.chr fun u => { u with
        domainStep := some amount, domainLatched := false, domainDueNs := u.ns + 1000 }).apply s)).chr.domainStep.isSome = true := by
  obtain ⟨w, hw⟩ : ∃ w, w = (Eff.chr fun u => { u with domainStep := some amount, domainLatched := false, domainDueNs := u.ns + 1000 }).apply s :=
    ⟨_, rfl⟩
  have hwaits : w.chr.domainStep = some amount := by rw [hw]; rfl
  have hshows : w.ShowsFrame b c := by rw [hw]; exact h
  have hkept := acquire_domainShown w
  obtain ⟨⟨-, -, -, hstep, -⟩, -⟩ := id hkept
  rw [← hw]
  exact ⟨hshows.kept hkept, by rw [hstep, hwaits]; rfl⟩

theorem syncFrameReceive_shows {a b c arr : Nat} {s : State} (hrole : s.role = 2) (hup : s.portUp 16 = true)
    (hssc : s.bit Fld.CHR_STATUS.SSC_ACTIVE = false) (hgood : syncGood a b c true = true) (hreach : s.reachesFine arr = true) :
    ∃ t, exec (.syncFrameReceive a b c arr true) s = .next t ∧ t.ShowsFrame b c ∧
      (s.chr.syncSeen = false → t.chr.domainStep.isSome = true) := by
  refine whenP_next (by rw [hrole, hup, hssc, hgood]; rfl) (atFine_next hreach fun ns frac => ?_)
  obtain ⟨u, hu⟩ : ∃ u, u = s.quiet.atInstant ns frac := ⟨_, rfl⟩
  have hseen : u.chr.syncSeen = s.chr.syncSeen := by rw [hu]; rfl
  obtain ⟨v, hv⟩ : ∃ v, v = u.frameShown b c := ⟨_, rfl⟩
  have hshows : v.ShowsFrame b c := by rw [hv]; exact frameShown_shows u b c
  simp only [← hu, run_read, run_cons, run_nil, modChr, run_eff, run_put, run_raise]
  rw [← State.frameShown, ← hv, hseen]
  cases hfirst : s.chr.syncSeen with
  | false =>
    rw [Bool.not_false, if_pos rfl]
    simp only [run_cons, run_nil, run_eff]
    exact (stepWaits_shows hshows _).imp_right fun h _ => h
  | true =>
    rw [Bool.not_true, if_neg Bool.false_ne_true]
    exact ⟨hshows.kept (discipline_domainShown _ _ _ _ _ _ v), fun h => by cases h⟩

/-- Settles O21: what each sync frame, pulse, link fix and poll does, one lemma each. -/
theorem theTimeDomainAndItsOutputs : Obligations.TheTimeDomainAndItsOutputs := by
  unfold Obligations.TheTimeDomainAndItsOutputs
  refine ⟨fun _ => syncFrameSend_root, fun a b c arr s hrole hup hssc hgood hreach => ?_, fun _ => meridOutPpsPulse_rises,
    fun _ _ _ _ => lfixReqSend_sends, fun _ _ _ _ => auxLinkFix_sends, fun _ _ _ _ _ _ => lfixReqReceive_answers,
    fun _ _ _ _ _ _ _ _ _ => lfixRespReceive_ends, fun _ _ _ _ => linkFixFail_counts, fun _ _ => hubTimingPoll_asks,
    fun _ _ _ _ _ => hubTimingPoll_takes, fun _ _ => bearingStale_stale⟩
  obtain ⟨t, ht, ⟨hdepth, hlimit, hlocked, hseen, hroot, hepoch, hmiss⟩, hstep⟩ := syncFrameReceive_shows hrole hup hssc hgood hreach
  exact ⟨t, ht, hdepth, hlimit, hlocked, hseen, hroot, hepoch, hmiss, hstep⟩

end Sys2Proof.Machine

/-! SUPPORT. What the statements of the lanes (file 03) are proved with: the order of what a command sends, what a program outside the lanes
keeps of them, and what entering a training state does (Machine/Lanes.lean). -/

namespace Sys2Proof.Machine

/-! ### What a command sends -/

/-- A program sends after what was sent. -/
theorem out_prefix (p : Prog) (s : State) : s.out <+: (p.run s).out := by
  induction p generalizing s with
  | skip => exact List.prefix_refl _
  | eff e =>
    cases e with
    | out o => exact List.prefix_append _ _
    | _ => exact List.prefix_refl _
  | seq p q hp hq => exact (hp s).trans (hq _)
  | read k ih => exact ih s s

/-- The outputs are kept by a program that does not send. -/
theorem run_out {m : Nat} {p : Prog} (hp : p.Within m) (h : m.testBit 22 = false) (s : State) : (p.run s).out = s.out :=
  (run_same_unit .outputs (by decide) h p hp s).symm

/-- The devices are kept by a program that does not reach them. -/
theorem run_devs {m : Nat} {p : Prog} (hp : p.Within m) (h : m.testBit 32 = false) (s : State) : (p.run s).devs = s.devs :=
  (run_same_unit .devices (by decide) h p hp s).symm

/-- The records of ends are kept by a program that does not reach them. -/
theorem run_lane {m : Nat} {p : Prog} (hp : p.Within m) (h : m.testBit 35 = false) (n : Nat) (s : State) : (p.run s).lane n = s.lane n := by
  rw [State.lane, ← run_same_unit .lanes (by decide) h p hp s, State.lane]

@[simp] theorem run_sendSets (n : Nat) (l : List OSet) (s : State) : (sendSets n l).run s =
    (Eff.out (.ordered n (l.flatMap (OSet.codes (s.lane n).gen)))).apply s := rfl

/-- What an end sends before anything else stands first, whatever follows. -/
theorem sendSets_head {s : State} (hout : s.out = []) (n : Nat) (l : List OSet) (rest : Prog) :
    (rest.run ((sendSets n l).run s)).out.head? = some (.ordered n (l.flatMap (OSet.codes (s.lane n).gen))) := by
  obtain ⟨later, hlater⟩ := out_prefix rest ((sendSets n l).run s)
  rw [← hlater, run_sendSets, (apply_out _ _).2.2.2.2.2.1, hout]
  rfl

/-- Commands of which one does what the other does in the state in which they start answer alike. -/
theorem finish_congr {p q : Prog} {s : State} (h : p.run s.quiet = q.run s.quiet) : finish p s = finish q s := by
  rw [finish_quiet, finish_quiet, h]

/-! ### What lies outside the lanes -/

/-- That a later state has the registers of the lanes, the records of all ends and the link fixes of an earlier one. -/
structure State.LinkKept (s t : State) : Prop where
  fld : ∀ (f : Field) (n : Nat), blockOf f.row = 1 → t.fld f n = s.fld f n
  lanes : t.lanes = s.lanes
  fixes : t.fixes = s.fixes

namespace State.LinkKept

variable {s t u : State}

theorem refl (s : State) : s.LinkKept s := ⟨fun _ _ _ => rfl, rfl, rfl⟩

theorem trans (hst : s.LinkKept t) (htu : t.LinkKept u) : s.LinkKept u :=
  ⟨fun f n h => (htu.fld f n h).trans (hst.fld f n h), htu.lanes.trans hst.lanes, htu.fixes.trans hst.fixes⟩

theorem lane (h : s.LinkKept t) (n : Nat) : t.lane n = s.lane n := by rw [State.lane, h.lanes, State.lane]

theorem fixOf (h : s.LinkKept t) (n : Nat) : t.fixOf n = s.fixOf n := by rw [State.fixOf, h.fixes, State.fixOf]

theorem lstate (h : s.LinkKept t) (n : Nat) : t.lstate n = s.lstate n := by
  rw [State.lstate, State.lstate, h.lane, h.fld _ _ (by decide)]

theorem lockHeld (h : s.LinkKept t) (n : Nat) : t.lockHeld n = s.lockHeld n := by
  rw [State.lockHeld, State.lockHeld, h.lane, State.bit, State.bit, h.fld _ _ (by decide)]

theorem bit (h : s.LinkKept t) {f : Field} (hf : blockOf f.row = 1) (n : Nat) : t.bit f n = s.bit f n := by
  rw [State.bit, State.bit, h.fld f n hf]

/-- A program within parts that hold neither the lanes' registers nor their records nor the link fixes. -/
theorem of_within {m : Nat} {p : Prog} (hp : p.Within m) (hregs : m.testBit 1 = false) (hall : m.testBit 19 = false)
    (hfixes : m.testBit 28 = false) (hlanes : m.testBit 35 = false) (s : State) : s.LinkKept (p.run s) :=
  ⟨fun f n h => run_fld hp hall f n (by rw [h]; exact hregs) s, (run_same_unit .lanes (by decide) hlanes p hp s).symm, run_fixes hp hfixes s⟩

end State.LinkKept

theorem sendTrain_kept (n : Nat) (ready eqActive : Bool) (s : State) : s.LinkKept ((sendTrain n ready eqActive).run s) :=
  .of_within (sendTrain_within (pm := 0x400000) (by decide) n ready eqActive) (by decide) (by decide) (by decide) (by decide) s

/-! ### Fields and records of an end -/

@[simp] theorem fld_lane (k : Nat) (v : LaneRec) (s : State) (f : Field) (n : Nat) : ((Eff.lane k v).apply s).fld f n = s.fld f n := rfl
@[simp] theorem fld_sent (o : Output) (s : State) (f : Field) (n : Nat) : ((Eff.out o).apply s).fld f n = s.fld f n := rfl
@[simp] theorem lane_fld (f : Field) (n v : Nat) (s : State) (k : Nat) : ((Eff.fld f n v).apply s).lane k = s.lane k := rfl
@[simp] theorem lane_sent (o : Output) (s : State) (k : Nat) : ((Eff.out o).apply s).lane k = s.lane k := rfl
@[simp] theorem fixOf_fld (f : Field) (n v : Nat) (s : State) (l : Nat) : ((Eff.fld f n v).apply s).fixOf l = s.fixOf l := rfl
@[simp] theorem fixOf_lane (k : Nat) (v : LaneRec) (s : State) (l : Nat) : ((Eff.lane k v).apply s).fixOf l = s.fixOf l := rfl
@[simp] theorem quiet_lane (s : State) (n : Nat) : s.quiet.lane n = s.lane n := rfl

/-- The record of an end reads what was written to it. -/
@[simp] theorem lane_lane_same (n : Nat) (v : LaneRec) (s : State) : ((Eff.lane n v).apply s).lane n = v := by
  simp only [State.lane, apply_lane, tget, Sparse.get_set_same]

/-- Writing the record of an end leaves the others. -/
theorem lane_lane_ne {n k : Nat} (h : k ≠ n) (v : LaneRec) (s : State) : ((Eff.lane n v).apply s).lane k = s.lane k := by
  simp only [State.lane, apply_lane, tget]
  exact Sparse.get_set_ne _ _ _ h

@[simp] theorem run_modLane (n : Nat) (f : LaneRec → LaneRec) (s : State) : (modLane n f).run s = (Eff.lane n (f (s.lane n))).apply s := rfl

@[simp] theorem quiet_lstate (s : State) (n : Nat) : s.quiet.lstate n = s.lstate n := rfl
@[simp] theorem quiet_lockHeld (s : State) (n : Nat) : s.quiet.lockHeld n = s.lockHeld n := rfl

theorem laneEvent_eq_putLane (f : Field) (n : Nat) : laneEvent f n = putLane f n 1 := rfl

/-- A lane of the controller has its registers. -/
theorem putLane_lane {n : Nat} (hn : n < 19) (f : Field) (v : Nat) (s : State) : (putLane f n v).run s = (Eff.fld f n v).apply s := by
  simp only [putLane, run_whenP, decide_eq_true hn, if_true, run_putN]

theorem setLock_lane {n : Nat} (hn : n < 19) (v : Bool) (s : State) :
    (setLock n v).run s = (Eff.fld Fld.LNK_ALIGN.LOCKED n (bit1 v)).apply s := by
  rw [setLock, if_pos hn, run_putN]

theorem setLock_beyond {n : Nat} (hn : ¬ n < 19) (v : Bool) (s : State) :
    (setLock n v).run s = (Eff.lane n { s.lane n with locked := v }).apply s := by
  rw [setLock, if_neg hn, run_modLane]

theorem lstate_lane {n : Nat} (hn : n < 19) (s : State) : s.lstate n = s.fld Fld.LNK_STATUS.STATE n := if_pos hn
theorem lstate_beyond {n : Nat} (hn : ¬ n < 19) (s : State) : s.lstate n = (s.lane n).st := if_neg hn
theorem lockHeld_lane {n : Nat} (hn : n < 19) (s : State) : s.lockHeld n = s.bit Fld.LNK_ALIGN.LOCKED n := if_pos hn
theorem lockHeld_beyond {n : Nat} (hn : ¬ n < 19) (s : State) : s.lockHeld n = (s.lane n).locked := if_neg hn

/-- Changing the record of an end, but for its state, leaves the end in its state. -/
theorem modLane_lstate {n : Nat} {f : LaneRec → LaneRec} (s : State) (hf : ∀ l, (f l).st = l.st := by exact fun _ => rfl) :
    ((modLane n f).run s).lstate n = s.lstate n := by
  simp only [State.lstate, run_modLane, fld_lane, lane_lane_same, hf]

/-- Changing the record of an end, but for its lock, leaves its lock. -/
theorem modLane_lockHeld {n : Nat} {f : LaneRec → LaneRec} (s : State) (hf : ∀ l, (f l).locked = l.locked := by exact fun _ => rfl) :
    ((modLane n f).run s).lockHeld n = s.lockHeld n := by
  simp only [State.lockHeld, State.bit, run_modLane, fld_lane, lane_lane_same, hf]

/-- An end whose lock is set holds it or not, in the state in which it was. -/
theorem setLock_lockHeld (n : Nat) (v : Bool) (s : State) : ((setLock n v).run s).lockHeld n = v := by
  by_cases hn : n < 19
  · rw [setLock_lane hn, lockHeld_lane hn, State.bit, fld_fld_same]; cases v <;> rfl
  · rw [setLock_beyond hn, lockHeld_beyond hn, lane_lane_same]

theorem setLock_lstate (n : Nat) (v : Bool) (s : State) : ((setLock n v).run s).lstate n = s.lstate n := by
  by_cases hn : n < 19
  · rw [setLock_lane hn, lstate_lane hn, lstate_lane hn, fld_fld_ne (by decide)]
  · rw [setLock_beyond hn, lstate_beyond hn, lstate_beyond hn, lane_lane_same]

theorem setLock_record (n : Nat) (v : Bool) (s : State) :
    ((setLock n v).run s).lane n = { s.lane n with locked := if n < 19 then (s.lane n).locked else v } := by
  by_cases hn : n < 19
  · rw [setLock_lane hn, lane_fld, if_pos hn]
  · rw [setLock_beyond hn, lane_lane_same, if_neg hn]

theorem setLock_fld {f : Field} (hf : f.row ≠ Fld.LNK_ALIGN.LOCKED.row) (n k : Nat) (v : Bool) (s : State) :
    ((setLock n v).run s).fld f k = s.fld f k := by
  by_cases hn : n < 19
  · rw [setLock_lane hn, fld_fld_ne hf]
  · rw [setLock_beyond hn, fld_lane]

theorem setLock_out (n : Nat) (v : Bool) (s : State) : ((setLock n v).run s).out = s.out :=
  run_out (setLock_within (pm := 0x800000002) (by decide) n v) (by decide) s

/-! ### Training -/

/-- A lane of the controller trains whatever else is up (R76). -/
theorem trains_lane {n : Nat} (hn : n < 19) (s : State) : s.trains n = true := by
  have hport : hubDown n = false := by rw [hubDown, decide_eq_false (by omega : ¬ 32 ≤ n)]; rfl
  rw [State.trains, isEnd, decide_eq_true hn, hport]
  rfl

/-- Whether an end trains does not depend on the end itself: a hub's downstream port hangs on the upstream ports. -/
theorem trains_congr {n : Nat} {s t : State} (h : ∀ k, k ≠ n → (t.lane k).st = (s.lane k).st) : t.trains n = s.trains n := by
  unfold State.trains
  cases hport : hubDown n with
  | false => rfl
  | true =>
    simp only [hubDown, portOf, Bool.and_eq_true, decide_eq_true_eq, bne_iff_ne] at hport
    simp only [State.upstreamUp, devOf]
    rw [h _ (by omega), h _ (by omega)]

/-- The TRAIN that an end sends shows its lock. -/
theorem sendTrain_out {n : Nat} {s : State} (htrains : s.trains n = true) (ready eqActive : Bool) : ((sendTrain n ready eqActive).run s).out =
    s.out ++ [.ordered n ((OSet.train (s.lockHeld n) ready ((s.lane n).eqFail && ready) eqActive).codes (s.lane n).gen)] := by
  rw [sendTrain, run_read, run_whenP, if_pos htrains, run_sendSets, List.flatMap_singleton]
  rfl

/-! ### Entering a training state -/

/-- What the record of an end becomes when it enters a training state. -/
def LaneRec.entering (l : LaneRec) (n st ns : Nat) : LaneRec :=
  { l with st := if n < 19 then l.st else st
           entered := ns, idle := false, peerLocked := false, trainSeen := false, readyRun := 0, goAt := none }

/-- The state in which an end shows and keeps that it has entered a training state. -/
def State.entering (s : State) (n st : Nat) : State :=
  (seqs [putLane Fld.LNK_STATUS.STATE n st, putLane Fld.LNK_STATUS.FUNC_STATE n (laneFn st), modLane n fun l => l.entering n st s.chr.ns]).run s

theorem leftUp_fld {f : Field} (hf : blockOf f.row = 1) (n k : Nat) (s : State) : ((leftUp n).run s).fld f k = s.fld f k :=
  run_fld (leftUp_within (pm := 0x910000000) (by decide) n) (by decide) f k (by rw [hf]; decide) s

/-- The record of an end that leaves UP is not among those that this returns to DETECT. -/
theorem leftUp_lane (n : Nat) (s : State) : ((leftUp n).run s).lane n = s.lane n := by
  simp only [leftUp, run_read, run_ite, run_whenP, run_cons, run_nil]
  split
  next => rfl
  next =>
    split
    next => rfl
    next hend =>
      split
      next =>
        refine run_forP_keeps (fun a b => b.lane n = a.lane n) (fun _ => rfl) (fun _ _ _ hab hbc => hbc.trans hab) _ _ (fun e he u => ?_) _
        have hport : hubDown e.1 = true := (Bool.and_eq_true_iff.mp (List.mem_filter.mp he).2).1
        rw [run_modLane, lane_lane_ne fun h => hend (by rw [h]; exact hport)]
      next => rfl

/-- A fix in flight is discarded when a lane of the controller leaves UP (R34, R91). -/
theorem leftUp_fixOf {n : Nat} (hn : n < 19) (s : State) : (((leftUp n).run s).fixOf n).outstanding = none := by
  simp only [leftUp, run_read, if_pos hn, fixOf_modFix_same]

/-- Entering a state that is not UP, an end in UP leaves it; all else that happens lies outside the lanes. -/
theorem enterLane_kept (n st : Nat) (s : State) :
    (if s.lstate n = Ls.up ∧ st ≠ Ls.up then (leftUp n).run (s.entering n st) else s.entering n st).LinkKept ((enterLane n st).run s) := by
  have hrest (u : State) := State.LinkKept.of_within (m := 0x20008002000) (p := seqs [whenP (n < 16 && st != Ls.up) (putFlag Fld.PAIR_PORTS.READY n false),
      whenP (n == 18) (modPair fun u => { u with downAt := if st = Ls.up then none else some (u.downAt.getD s.chr.ns) }),
      whenP (n < 16) wakeFixed])
    (within_cons (within_whenP (putFlag_within (by decide) _ _ _ (by decide))) (within_cons (within_whenP (modPair_within (by decide) _))
      (within_cons (within_whenP (wakeFixed_within (by decide))) within_nil))) (by decide) (by decide) (by decide) (by decide) u
  have hleft : (if s.lstate n = Ls.up ∧ st ≠ Ls.up then (leftUp n).run (s.entering n st) else s.entering n st) =
      (whenP (s.lstate n == Ls.up && st != Ls.up) (leftUp n)).run (s.entering n st) := by
    simp only [run_whenP, Bool.and_eq_true, beq_iff_eq, bne_iff_ne]
  rw [hleft]
  exact hrest _

theorem entering_lane (n st : Nat) (s : State) : (s.entering n st).lane n = (s.lane n).entering n st s.chr.ns := by
  by_cases hn : n < 19 <;> simp [State.entering, hn, putLane_lane, putLane_beyond]

theorem entering_fld {f : Field} (hstate : f.row ≠ Fld.LNK_STATUS.STATE.row) (hfn : f.row ≠ Fld.LNK_STATUS.FUNC_STATE.row) (n st k : Nat) (s : State) :
    (s.entering n st).fld f k = s.fld f k := by
  by_cases hn : n < 19 <;> simp [State.entering, hn, putLane_lane, putLane_beyond, fld_fld_ne hstate, fld_fld_ne hfn]

theorem enterLane_lane (n st : Nat) (s : State) : ((enterLane n st).run s).lane n = (s.lane n).entering n st s.chr.ns := by
  rw [(enterLane_kept n st s).lane]
  split
  · rw [leftUp_lane, entering_lane]
  · exact entering_lane n st s

/-- A field of the lanes reads after entering a state what it reads where the end shows that state. -/
theorem enterLane_fld_entering {f : Field} (hf : blockOf f.row = 1) (n st k : Nat) (s : State) :
    ((enterLane n st).run s).fld f k = (s.entering n st).fld f k := by
  rw [(enterLane_kept n st s).fld _ _ hf]
  split
  · exact leftUp_fld hf _ _ _
  · rfl

/-- Entering a state changes no field of the lanes but STATE and FUNC_STATE. -/
theorem enterLane_fld {f : Field} (hf : blockOf f.row = 1) (hstate : f.row ≠ Fld.LNK_STATUS.STATE.row)
    (hfn : f.row ≠ Fld.LNK_STATUS.FUNC_STATE.row) (n st k : Nat) (s : State) : ((enterLane n st).run s).fld f k = s.fld f k := by
  rw [enterLane_fld_entering hf, entering_fld hstate hfn]

theorem enterLane_state {n : Nat} (hn : n < 19) (st : Nat) (s : State) : ((enterLane n st).run s).fld Fld.LNK_STATUS.STATE n = st % 2 ^ 4 := by
  rw [enterLane_fld_entering (by decide)]
  simp only [State.entering, run_cons, run_nil, run_modLane, putLane_lane hn, fld_lane]
  rw [fld_fld_ne (by decide), fld_fld_same]
  rfl

theorem enterLane_fn {n : Nat} (hn : n < 19) (st : Nat) (s : State) :
    ((enterLane n st).run s).fld Fld.LNK_STATUS.FUNC_STATE n = laneFn st % 2 ^ 4 := by
  rw [enterLane_fld_entering (by decide)]
  simp only [State.entering, run_cons, run_nil, run_modLane, putLane_lane hn, fld_lane, fld_fld_same]
  rfl

/-- An end that enters a training state is in it. -/
theorem enterLane_lstate (n : Nat) {st : Nat} (hst : st < 16) (s : State) : ((enterLane n st).run s).lstate n = st := by
  by_cases hn : n < 19
  · rw [lstate_lane hn, enterLane_state hn]; exact Nat.mod_eq_of_lt hst
  · rw [lstate_beyond hn, enterLane_lane, LaneRec.entering, if_neg hn]

theorem enterLane_lockHeld (n st : Nat) (s : State) : ((enterLane n st).run s).lockHeld n = s.lockHeld n := by
  by_cases hn : n < 19
  · rw [lockHeld_lane hn, lockHeld_lane hn, State.bit, State.bit, enterLane_fld (by decide) (by decide) (by decide)]
  · rw [lockHeld_beyond hn, lockHeld_beyond hn, enterLane_lane, LaneRec.entering]

theorem enterLane_out (n st : Nat) (s : State) : ((enterLane n st).run s).out = s.out :=
  run_out (enterLane_within (pm := 0x20918002002) (by decide) n st) (by decide) s

/-- A lane of the controller that leaves UP has no fix in flight. -/
theorem enterLane_fixOf {n st : Nat} {s : State} (hn : n < 19) (hup : s.lstate n = Ls.up) (hst : st ≠ Ls.up) :
    (((enterLane n st).run s).fixOf n).outstanding = none := by
  rw [(enterLane_kept n st s).fixOf, if_pos ⟨hup, hst⟩, leftUp_fixOf hn]

/-! ### DETECT -/

/-- What the record of an end becomes when it starts DETECT (R74, R84). -/
def LaneRec.detecting (l : LaneRec) (n ns : Nat) : LaneRec :=
  { l with caps := none, capsRun := 0, peerAck := false, eqFail := false, peerEqFail := false, legacy := false
           gen := if auxLane n then 3 else 1, target := if auxLane n then 3 else 1
           began := ns, linkOff := false, fromRetrain := false, swapped := false, bursts := 0, waking := false, codeErrs := [], lockErrs := [] }

/-- The state in which an end that starts DETECT sends its first TRAIN. -/
def State.detecting (s : State) (n : Nat) : State :=
  (seqs [enterLane n Ls.detect, putLane Fld.LNK_STATUS.GEN n 0, setLock n false, putLane Fld.LNK_STATUS.LEGACY n 0,
    putLane Fld.LNK_EQ_RESULT.FALLBACKS n 0, modLane n fun l => l.detecting n s.chr.ns]).run s

theorem run_enterDetect (n : Nat) (s : State) : (enterDetect n).run s = (sendTrain n false false).run (s.detecting n) := rfl

theorem enterDetect_kept (n : Nat) (s : State) : (s.detecting n).LinkKept ((enterDetect n).run s) := sendTrain_kept n false false _

theorem detecting_lane (n : Nat) (s : State) : (s.detecting n).lane n =
    { ((s.lane n).entering n Ls.detect s.chr.ns).detecting n s.chr.ns with locked := if n < 19 then (s.lane n).locked else false } := by
  by_cases hn : n < 19
  · simp only [State.detecting, run_cons, run_nil, run_modLane, lane_lane_same, putLane_lane hn, setLock_lane hn, lane_fld, enterLane_lane, if_pos hn]
    rfl
  · simp only [State.detecting, run_cons, run_nil, run_modLane, lane_lane_same, putLane_beyond hn, setLock_beyond hn, enterLane_lane, if_neg hn]
    rfl

theorem detecting_lstate (n : Nat) (s : State) : (s.detecting n).lstate n = Ls.detect := by
  by_cases hn : n < 19
  · simp (disch := decide) only [lstate_lane hn, State.detecting, run_cons, run_nil, run_modLane, putLane_lane hn, setLock_lane hn, fld_lane,
      fld_fld_ne, enterLane_state hn]
    rfl
  · rw [lstate_beyond hn, detecting_lane, if_neg hn, LaneRec.entering, if_neg hn]; rfl

/-- Starting DETECT writes six fields of a lane. -/
theorem detecting_fld {f : Field} (hf : blockOf f.row = 1) (hrow : f.row ∉ [Fld.LNK_STATUS.STATE.row, Fld.LNK_STATUS.FUNC_STATE.row, Fld.LNK_STATUS.GEN.row,
    Fld.LNK_ALIGN.LOCKED.row, Fld.LNK_STATUS.LEGACY.row, Fld.LNK_EQ_RESULT.FALLBACKS.row]) (n k : Nat) (s : State) :
    (s.detecting n).fld f k = s.fld f k := by
  simp only [List.mem_cons, List.not_mem_nil, or_false, not_or] at hrow
  obtain ⟨hstate, hfn, hgen, hlock, hlegacy, hsteps⟩ := hrow
  by_cases hn : n < 19
  · simp only [State.detecting, run_cons, run_nil, run_modLane, putLane_lane hn, setLock_lane hn, fld_lane, fld_fld_ne hgen, fld_fld_ne hlock,
      fld_fld_ne hlegacy, fld_fld_ne hsteps, enterLane_fld hf hstate hfn]
  · simp only [State.detecting, run_cons, run_nil, run_modLane, putLane_beyond hn, setLock_beyond hn, fld_lane, enterLane_fld hf hstate hfn]

theorem detecting_fn {n : Nat} (hn : n < 19) (s : State) : (s.detecting n).fld Fld.LNK_STATUS.FUNC_STATE n = Fn.enabling := by
  simp (disch := decide) only [State.detecting, run_cons, run_nil, run_modLane, putLane_lane hn, setLock_lane hn, fld_lane, fld_fld_ne, enterLane_fn hn]
  rfl

theorem detecting_lockHeld (n : Nat) (s : State) : (s.detecting n).lockHeld n = false := by
  by_cases hn : n < 19
  · simp (disch := decide) only [lockHeld_lane hn, State.bit, State.detecting, run_cons, run_nil, run_modLane, putLane_lane hn, setLock_lane hn,
      fld_lane, fld_fld_ne, fld_fld_same]
    rfl
  · rw [lockHeld_beyond hn, detecting_lane, if_neg hn]

theorem detecting_fixOf {n : Nat} {s : State} (hn : n < 19) (hup : s.lstate n = Ls.up) : ((s.detecting n).fixOf n).outstanding = none := by
  simp only [State.detecting, run_cons, run_nil, run_modLane, putLane_lane hn, setLock_lane hn, fixOf_lane, fixOf_fld]
  exact enterLane_fixOf hn hup (by decide)

theorem detecting_out {n : Nat} (hn : n < 19) (s : State) : (s.detecting n).out = s.out := by
  simp only [State.detecting, run_cons, run_nil, run_modLane, putLane_lane hn, setLock_lane hn, apply_lane, apply_fld, enterLane_out]

/-- What an end that starts DETECT is like (R74): in DETECT without lock, and no longer idle after a failed attempt or in a retrain. -/
structure State.InDetect (n : Nat) (t : State) : Prop where
  lstate : t.lstate n = Ls.detect
  lockHeld : t.lockHeld n = false
  idle : (t.lane n).idle = false
  fromRetrain : (t.lane n).fromRetrain = false

theorem enterDetect_inDetect (n : Nat) (s : State) : ((enterDetect n).run s).InDetect n where
  lstate := by rw [(enterDetect_kept n s).lstate, detecting_lstate]
  lockHeld := by rw [(enterDetect_kept n s).lockHeld, detecting_lockHeld]
  idle := by rw [(enterDetect_kept n s).lane, detecting_lane]; rfl
  fromRetrain := by rw [(enterDetect_kept n s).lane, detecting_lane]; rfl

theorem State.InDetect.kept {n : Nat} {s t : State} (h : s.InDetect n) (hst : s.LinkKept t) : t.InDetect n where
  lstate := by rw [hst.lstate, h.lstate]
  lockHeld := by rw [hst.lockHeld, h.lockHeld]
  idle := by rw [hst.lane, h.idle]
  fromRetrain := by rw [hst.lane, h.fromRetrain]

/-! ### Losing a lane, retraining and sleeping (R89, R90, R93) -/

/-- A lane that is lost starts DETECT; what the tree, cable-power and time logic are told lies outside the lanes. -/
theorem laneLost_kept (n reason : Nat) (s : State) :
    ((enterDetect n).run ((laneEvent Fld.LNK_EVENT.LANE_LOST n).run s)).LinkKept ((laneLost n reason).run s) :=
  .of_within (m := 0x205cff40d85 ||| 0xfd40581) (p := seqs [
      whenP (n < 16) (seqs [modTreeOf n fun t => { t with retrained := t.retrained.filter (· != rootLoc n) }, subtreeGone n 0 0 reason, laneLostCable n]),
      whenP (n == 16 && s.role == 2) (deadReckon 2)])
    (within_cons (within_whenP (within_cons (modTreeOf_within (by decide) _ _) (within_cons (subtreeGone_within (by decide) _ _ _ _)
      (within_cons (laneLostCable_within (by decide) _) within_nil)))) (within_cons (within_whenP (deadReckon_within (by decide) _)) within_nil))
    (by decide) (by decide) (by decide) (by decide) _

theorem laneLost_inDetect (n reason : Nat) (s : State) : ((laneLost n reason).run s).InDetect n :=
  (enterDetect_inDetect n _).kept (laneLost_kept n reason s)

/-- A lane of the controller that is lost shows it. -/
theorem laneLost_event {n : Nat} (hn : n < 19) (reason : Nat) (s : State) : ((laneLost n reason).run s).bit Fld.LNK_EVENT.LANE_LOST n = true := by
  rw [State.bit, (laneLost_kept n reason s).fld _ _ (by decide), (enterDetect_kept n _).fld _ _ (by decide), detecting_fld (by decide) (by decide),
    laneEvent_eq_putLane, putLane_lane hn, fld_fld_same]
  rfl

/-- A lane of the controller that is lost while UP has no fix in flight. -/
theorem laneLost_fixOf {n : Nat} {s : State} (hn : n < 19) (hup : s.lstate n = Ls.up) (reason : Nat) :
    (((laneLost n reason).run s).fixOf n).outstanding = none := by
  rw [(laneLost_kept n reason s).fixOf, (enterDetect_kept n _).fixOf, detecting_fixOf hn]
  rw [laneEvent_eq_putLane, putLane_lane hn, lstate_lane hn, fld_fld_ne (by decide), ← lstate_lane hn, hup]

theorem fullRetrain_inDetect (n : Nat) (s : State) : ((fullRetrain n).run s).InDetect n := enterDetect_inDetect n _

theorem fullRetrain_head {n : Nat} {s : State} (hout : s.out = []) : ((fullRetrain n).run s).out.head? =
    some (.ordered n ((List.replicate 8 (OSet.retrain true)).flatMap (OSet.codes (s.lane n).gen))) := sendSets_head hout n _ _

/-- The state of an end that has entered RETRAIN, before its first TRAIN. -/
def State.retraining (s : State) (n : Nat) : State :=
  (modLane n fun l => { l with fromRetrain := true, eqFail := false, peerEqFail := false }).run
    ((enterLane n Ls.retrain).run ((sendSets n (List.replicate 8 (.retrain false))).run s))

theorem enterRetrain_kept (n : Nat) (s : State) : (s.retraining n).LinkKept ((enterRetrain n).run s) := sendTrain_kept n false false _

theorem enterRetrain_head {n : Nat} {s : State} (hout : s.out = []) : ((enterRetrain n).run s).out.head? =
    some (.ordered n ((List.replicate 8 (OSet.retrain false)).flatMap (OSet.codes (s.lane n).gen))) := sendSets_head hout n _ _

theorem enterRetrain_lane (n : Nat) (s : State) : ((enterRetrain n).run s).lane n =
    { (s.lane n).entering n Ls.retrain s.chr.ns with fromRetrain := true, eqFail := false, peerEqFail := false } := by
  rw [(enterRetrain_kept n s).lane, State.retraining, run_modLane, lane_lane_same, enterLane_lane]
  rfl

theorem enterRetrain_fld {f : Field} (hf : blockOf f.row = 1) (n k : Nat) (s : State) :
    ((enterRetrain n).run s).fld f k = ((enterLane n Ls.retrain).run ((sendSets n (List.replicate 8 (.retrain false))).run s)).fld f k := by
  rw [(enterRetrain_kept n s).fld _ _ hf]; rfl

theorem enterRetrain_lstate (n : Nat) (s : State) : ((enterRetrain n).run s).lstate n = Ls.retrain := by
  by_cases hn : n < 19
  · rw [lstate_lane hn, enterRetrain_fld (by decide), enterLane_state hn]; rfl
  · rw [lstate_beyond hn, enterRetrain_lane, LaneRec.entering, if_neg hn]

theorem enterRetrain_lockHeld (n : Nat) (s : State) : ((enterRetrain n).run s).lockHeld n = s.lockHeld n := by
  by_cases hn : n < 19
  · rw [lockHeld_lane hn, lockHeld_lane hn, State.bit, State.bit, enterRetrain_fld (by decide), enterLane_fld (by decide) (by decide) (by decide)]; rfl
  · rw [lockHeld_beyond hn, lockHeld_beyond hn, enterRetrain_lane, LaneRec.entering]

theorem enterRetrain_fixOf {n : Nat} {s : State} (hn : n < 19) (hup : s.lstate n = Ls.up) :
    (((enterRetrain n).run s).fixOf n).outstanding = none := by
  rw [(enterRetrain_kept n s).fixOf, State.retraining, run_modLane, fixOf_lane]
  exact enterLane_fixOf hn hup (by decide)

/-- LOW_POWER (R93): the end is in it, without lock and with no bursts sent. -/
theorem enterLowPower_asleep (n : Nat) (s : State) : ((enterLowPower n).run s).lstate n = Ls.lowPower ∧ ((enterLowPower n).run s).lockHeld n = false := by
  by_cases hn : n < 19
  · simp (disch := decide) only [lstate_lane hn, lockHeld_lane hn, State.bit, enterLowPower, run_cons, run_nil, run_modLane, putLane_lane hn, setLock_lane hn,
      fld_lane, fld_fld_ne, fld_fld_same, enterLane_state hn]
    exact ⟨rfl, rfl⟩
  · simp only [lstate_beyond hn, lockHeld_beyond hn, enterLowPower, run_cons, run_nil, run_modLane, putLane_beyond hn, setLock_beyond hn,
      lane_lane_same, enterLane_lane, LaneRec.entering, if_neg hn, true_and]

end Sys2Proof.Machine

/-! SUPPORT. The proof of the statement of the training of both ends of a link (file 03; Machine/Lanes.lean). -/

namespace Sys2Proof.Machine

/-! ### What entering a state leaves of other ends -/

theorem setLock_other {n k : Nat} (h : k ≠ n) (v : Bool) (s : State) : ((setLock n v).run s).lane k = s.lane k := by
  by_cases hn : n < 19
  · rw [setLock_lane hn, lane_fld]
  · rw [setLock_beyond hn, lane_lane_ne h]

theorem entering_other {n k : Nat} (h : k ≠ n) (st : Nat) (s : State) : (s.entering n st).lane k = s.lane k := by
  by_cases hn : n < 19
  · simp only [State.entering, run_cons, run_nil, run_modLane, putLane_lane hn, lane_lane_ne h, lane_fld]
  · simp only [State.entering, run_cons, run_nil, run_modLane, putLane_beyond hn, lane_lane_ne h]

/-- An end that is not UP enters a state without touching other ends. -/
theorem enterLane_other {n k : Nat} {s : State} (h : k ≠ n) (hup : s.lstate n ≠ Ls.up) (st : Nat) : ((enterLane n st).run s).lane k = s.lane k := by
  rw [(enterLane_kept n st s).lane, if_neg (fun hleft => hup hleft.1), entering_other h]

/-- A device's end that is not UP enters a state without a register. -/
theorem enterLane_regs {n : Nat} {s : State} (hn : ¬ n < 19) (hup : s.lstate n ≠ Ls.up) (st : Nat) : ((enterLane n st).run s).regs = s.regs := by
  have hroot : ¬ n < 16 := by omega
  have hmirror : (n == 18) = false := beq_eq_false_iff_ne.mpr (by omega)
  simp only [enterLane, run_read, run_cons, run_nil, putLane_beyond hn, run_whenP, hmirror, decide_eq_false hroot, beq_eq_false_iff_ne.mpr hup,
    Bool.false_and, Bool.false_eq_true, if_false]
  rfl

/-! ### Lock (R77) -/

/-- Own lock and the peer's LOCKED take an end in DETECT to CAPS, where it sends its own. -/
theorem run_lockAdvance_detect {n : Nat} {s : State} (hstate : s.lstate n = Ls.detect) (hlock : s.lockHeld n = true)
    (hpeer : (s.lane n).peerLocked = true) (hidle : (s.lane n).idle = false) :
    (lockAdvance n).run s = (sendSets n [s.ownCaps n false]).run ((enterLane n Ls.caps).run s) := by
  simp only [lockAdvance, run_read, hlock, hpeer, hidle, hstate, if_true]
  rfl

/-- An end's CAPS depend on what it is and on its own MAX_GEN. -/
theorem ownCaps_congr {n : Nat} {s t : State} (hdevs : t.devs = s.devs) (hcfg : t.fld Fld.LNK_CFG.MAX_GEN n = s.fld Fld.LNK_CFG.MAX_GEN n)
    (hlane : (t.lane n).maxGen = (s.lane n).maxGen) (ack : Bool) : t.ownCaps n ack = s.ownCaps n ack := by
  unfold State.ownCaps State.ownGen State.laneKind State.dev
  rw [hdevs, hcfg, hlane]

/-- What an end in hardware search shows and keeps of a window in which it finds lock. -/
def windowFound (n off k : Nat) : Prog :=
  seqs [putLane Fld.LNK_ALIGN.COMMAS n (min 255 k), putLane Fld.LNK_ALIGN.OFFSET n off, setLock n true, modLane n fun l => { l with lockErrs := [] }]

theorem windowFound_within (n off k : Nat) : (windowFound n off k).Within 0x800000002 :=
  within_cons (putLane_within (by decide) _ _ _ (by decide)) (within_cons (putLane_within (by decide) _ _ _ (by decide))
    (within_cons (setLock_within (by decide) _ _) (within_cons (modLane_within (by decide) _ _) within_nil)))

/-- The state in which an end has found lock in a window, before it says so. -/
def State.windowLocked (s : State) (n off k : Nat) : State := (windowFound n off k).run s

theorem windowLocked_lane (n off k : Nat) (s : State) : (s.windowLocked n off k).lane n =
    { s.lane n with locked := if n < 19 then (s.lane n).locked else true, lockErrs := [] } := by
  by_cases hn : n < 19
  · simp only [State.windowLocked, windowFound, run_cons, run_nil, run_modLane, lane_lane_same, setLock_record, putLane_lane hn, lane_fld]
  · simp only [State.windowLocked, windowFound, run_cons, run_nil, run_modLane, lane_lane_same, setLock_record, putLane_beyond hn]

theorem windowLocked_other {n j : Nat} (h : j ≠ n) (off k : Nat) (s : State) : (s.windowLocked n off k).lane j = s.lane j := by
  by_cases hn : n < 19
  · simp only [State.windowLocked, windowFound, run_cons, run_nil, run_modLane, lane_lane_ne h, setLock_other h, putLane_lane hn, lane_fld]
  · simp only [State.windowLocked, windowFound, run_cons, run_nil, run_modLane, lane_lane_ne h, setLock_other h, putLane_beyond hn]

theorem windowLocked_fld {f : Field} (hcommas : f.row ≠ Fld.LNK_ALIGN.COMMAS.row) (hoff : f.row ≠ Fld.LNK_ALIGN.OFFSET.row)
    (hlock : f.row ≠ Fld.LNK_ALIGN.LOCKED.row) (n off k j : Nat) (s : State) : (s.windowLocked n off k).fld f j = s.fld f j := by
  by_cases hn : n < 19
  · simp only [State.windowLocked, windowFound, run_cons, run_nil, run_modLane, fld_lane,
      setLock_fld hlock, putLane_lane hn, fld_fld_ne hcommas, fld_fld_ne hoff]
  · simp only [State.windowLocked, windowFound, run_cons, run_nil, run_modLane, fld_lane, setLock_fld hlock, putLane_beyond hn]

theorem windowLocked_lockHeld (n off k : Nat) (s : State) : (s.windowLocked n off k).lockHeld n = true := by
  simp only [State.windowLocked, windowFound, run_cons, run_nil]
  exact (modLane_lockHeld _).trans (setLock_lockHeld n true _)

theorem windowLocked_lstate (n off k : Nat) (s : State) : (s.windowLocked n off k).lstate n = s.lstate n := by
  by_cases hn : n < 19
  · rw [lstate_lane hn, lstate_lane hn, windowLocked_fld (by decide) (by decide) (by decide)]
  · rw [lstate_beyond hn, lstate_beyond hn, windowLocked_lane]

theorem windowLocked_commas {n : Nat} (hn : n < 19) (off k : Nat) (s : State) : (s.windowLocked n off k).fld Fld.LNK_ALIGN.COMMAS n = min 255 k := by
  simp (disch := decide) only [State.windowLocked, windowFound, run_cons, run_nil, run_modLane, fld_lane,
    setLock_fld, putLane_lane hn, fld_fld_ne, fld_fld_same]
  exact Nat.mod_eq_of_lt (by show min 255 k < 256; omega)

theorem windowLocked_out (n off k : Nat) (s : State) : (s.windowLocked n off k).out = s.out :=
  run_out (windowFound_within n off k) (by decide) s

theorem windowLocked_devs (n off k : Nat) (s : State) : (s.windowLocked n off k).devs = s.devs :=
  run_devs (windowFound_within n off k) (by decide) s

/-- A window in which an end in DETECT finds lock. -/
theorem run_lockWindow_detect {n off k run : Nat} {s : State} (htrains : s.trains n = true) (hstate : s.lstate n = Ls.detect)
    (hidle : (s.lane n).idle = false) (hsignal : s.noSignal n = false) (hlock : s.lockHeld n = false)
    (hsoft : n < 19 → s.bit Fld.LNK_CFG.SW_ALIGN n = false) (hrun : (if (s.lane n).gen = 3 then 64 else 4) ≤ run) :
    (lockWindow n off k run).run s = (lockAdvance n).run ((sendTrain n false false).run (s.windowLocked n off k)) := by
  have hhard : (decide (n < 19) && s.bit Fld.LNK_CFG.SW_ALIGN n) = false := by
    by_cases hn : n < 19
    · rw [hsoft hn, Bool.and_false]
    · rw [decide_eq_false hn, Bool.false_and]
  simp only [lockWindow, run_read, hhard, htrains, hsignal, hstate, hidle, hlock, decide_eq_true hrun]
  rfl

theorem laneLock_locks {n off k run : Nat} {s : State} (htrains : s.trains n = true) (hstate : s.lstate n = Ls.detect)
    (hidle : (s.lane n).idle = false) (hsignal : s.noSignal n = false) (hlock : s.lockHeld n = false) (hpeer : (s.lane n).peerLocked = true)
    (hsoft : n < 19 → s.bit Fld.LNK_CFG.SW_ALIGN n = false) (hrun : (if (s.lane n).gen = 3 then 64 else 4) ≤ run) :
    ∃ t, exec (.laneLock n off k run) s = .next t ∧ t.lstate n = Ls.caps ∧ t.lockHeld n = true ∧
      (n < 19 → t.fld Fld.LNK_ALIGN.COMMAS n = min 255 k) ∧
      t.out = [.ordered n ((OSet.train true false false false).codes (s.lane n).gen), .ordered n ((s.ownCaps n false).codes (s.lane n).gen)] := by
  obtain ⟨v, hv⟩ : ∃ v, v = s.quiet.windowLocked n off k := ⟨_, rfl⟩
  obtain ⟨w, hw⟩ : ∃ w, w = (sendTrain n false false).run v := ⟨_, rfl⟩
  have hkept : v.LinkKept w := by rw [hw]; exact sendTrain_kept n false false v
  have hvLane : v.lane n = { s.lane n with locked := if n < 19 then (s.lane n).locked else true, lockErrs := [] } := by
    rw [hv, windowLocked_lane]; rfl
  have hvLock : v.lockHeld n = true := by rw [hv, windowLocked_lockHeld]
  have hwLock : w.lockHeld n = true := (hkept.lockHeld n).trans hvLock
  have hwLane : w.lane n = _ := (hkept.lane n).trans hvLane
  have hwState : w.lstate n = Ls.detect := by rw [hkept.lstate, hv, windowLocked_lstate, quiet_lstate, hstate]
  have hwOut : w.out = [.ordered n ((OSet.train true false false false).codes (s.lane n).gen)] := by
    have hvTrains : v.trains n = true := by
      rw [hv, trains_congr (s := s.quiet) fun j hj => by rw [windowLocked_other hj]]
      exact htrains
    rw [hw, sendTrain_out hvTrains, hvLock, hvLane, Bool.and_false, hv, windowLocked_out]
    rfl
  refine finish_next ?_
  rw [run_lockWindow_detect (s := s.quiet) htrains hstate hidle hsignal hlock hsoft hrun, ← hv, ← hw,
    run_lockAdvance_detect hwState hwLock (by rw [hwLane]; exact hpeer) (by rw [hwLane]; exact hidle)]
  refine ⟨enterLane_lstate n (by decide) w, (enterLane_lockHeld n _ w).trans hwLock, fun hn => ?_, ?_⟩
  · rw [run_sendSets, fld_sent, enterLane_fld (by decide) (by decide) (by decide), hkept.fld _ _ (by decide), hv, windowLocked_commas hn]
  · have hcaps : w.ownCaps n false = s.ownCaps n false := by
      refine ownCaps_congr ?_ ?_ (by rw [hwLane]) false
      · rw [hw, run_devs (m := 0x400000) (sendTrain_within (by decide) _ _ _) (by decide), hv, windowLocked_devs]; rfl
      · rw [hkept.fld _ _ (by decide), hv, windowLocked_fld (by decide) (by decide) (by decide), quiet_fld]
    rw [run_sendSets, List.flatMap_singleton, enterLane_lane, hwLane, hcaps]
    show ((enterLane n Ls.caps).run w).out ++ _ = _
    rw [enterLane_out, hwOut]
    rfl

theorem trainReceive_locked {n word : Nat} {s : State} (htrains : s.trains n = true) (hstate : s.lstate n = Ls.detect) (hword : word % 256 = 0x21)
    (hpeer : bitAt word 8 = true) (hlock : s.lockHeld n = true) (hidle : (s.lane n).idle = false) :
    ∃ t, exec (.trainReceive n word) s = .next t ∧ t.lstate n = Ls.caps := by
  refine whenP_next (by rw [htrains, hword, hidle]; rfl) (finish_next ?_)
  rw [hstate, if_neg (by decide), if_pos (.inl rfl), run_cons, run_cons, run_nil, hpeer]
  obtain ⟨u, hu⟩ : ∃ u, u = (modLane n fun l => { l with peerLocked := true, trainSeen := true }).run s.quiet := ⟨_, rfl⟩
  have huLane : u.lane n = { s.lane n with peerLocked := true, trainSeen := true } := by rw [hu, run_modLane, lane_lane_same]; rfl
  have huState : u.lstate n = Ls.detect := by rw [hu, modLane_lstate, quiet_lstate, hstate]
  have huLock : u.lockHeld n = true := by rw [hu, modLane_lockHeld, quiet_lockHeld, hlock]
  rw [← hu, run_lockAdvance_detect huState huLock (by rw [huLane]) (by rw [huLane]; exact hidle)]
  exact enterLane_lstate n (by decide) u

/-! ### Reaching UP (R82, R85) -/

/-- What an end that comes up is like: in UP; a lane of the controller is ON and shows it, with the generation in use and no failed attempts. -/
structure State.ShowsUp (n gen : Nat) (t : State) : Prop where
  lstate : t.lstate n = Ls.up
  fn : n < 19 → t.fld Fld.LNK_STATUS.FUNC_STATE n = Fn.on
  event : n < 19 → t.bit Fld.LNK_EVENT.LINK_UP n = true
  attempts : n < 19 → t.fld Fld.LNK_STATUS.ATTEMPTS n = 0
  gen : n < 19 → t.fld Fld.LNK_STATUS.GEN n = gen % 4

namespace State.ShowsUp

variable {n gen : Nat} {s t : State}

theorem kept (h : s.ShowsUp n gen) (hst : s.LinkKept t) : t.ShowsUp n gen where
  lstate := (hst.lstate n).trans h.lstate
  fn hn := (hst.fld _ n (by decide)).trans (h.fn hn)
  event hn := (hst.bit (by decide) n).trans (h.event hn)
  attempts hn := (hst.fld _ n (by decide)).trans (h.attempts hn)
  gen hn := (hst.fld _ n (by decide)).trans (h.gen hn)

/-- Writing another field of a lane. -/
theorem putLane (h : s.ShowsUp n gen) {f : Field} (hf : f.row ∉ [Fld.LNK_STATUS.STATE.row, Fld.LNK_STATUS.FUNC_STATE.row, Fld.LNK_EVENT.LINK_UP.row,
    Fld.LNK_STATUS.ATTEMPTS.row, Fld.LNK_STATUS.GEN.row]) (v : Nat) : ((putLane f n v).run s).ShowsUp n gen := by
  simp only [List.mem_cons, List.not_mem_nil, or_false, not_or] at hf
  obtain ⟨hstate, hfn, hevent, hattempts, hgen⟩ := hf
  by_cases hn : n < 19
  · rw [putLane_lane hn]
    refine ⟨?_, fun _ => ?_, fun _ => ?_, fun _ => ?_, fun _ => ?_⟩
    · rw [lstate_lane hn, fld_fld_ne (Ne.symm hstate), ← lstate_lane hn, h.lstate]
    · rw [fld_fld_ne (Ne.symm hfn), h.fn hn]
    · rw [State.bit, fld_fld_ne (Ne.symm hevent)]; exact h.event hn
    · rw [fld_fld_ne (Ne.symm hattempts), h.attempts hn]
    · rw [fld_fld_ne (Ne.symm hgen), h.gen hn]
  · rw [putLane_beyond hn]; exact h

/-- Changing the end's record, but for its state. -/
theorem modLane (h : s.ShowsUp n gen) {f : LaneRec → LaneRec} (hf : ∀ l, (f l).st = l.st := by exact fun _ => rfl) :
    ((modLane n f).run s).ShowsUp n gen :=
  ⟨(modLane_lstate s hf).trans h.lstate, h.fn, h.event, h.attempts, h.gen⟩

/-- Making the fix of the link due. -/
theorem fixDue (h : s.ShowsUp n gen) (c : Bool) : ((whenP c (modFix n fun f => { f with due := 0 })).run s).ShowsUp n gen := by
  rw [run_whenP]
  split
  · exact ⟨h.lstate, h.fn, h.event, h.attempts, h.gen⟩
  · exact h

end State.ShowsUp

theorem enterUp_showsUp (n gen : Nat) (s : State) : ((seqs [enterLane n Ls.up, putLane Fld.LNK_STATUS.GEN n gen, putLane Fld.LNK_STATUS.ATTEMPTS n 0,
    laneEvent Fld.LNK_EVENT.LINK_UP n]).run s).ShowsUp n gen := by
  rw [run_cons, run_cons, run_cons, run_cons, run_nil, laneEvent_eq_putLane]
  by_cases hn : n < 19
  · rw [putLane_lane hn, putLane_lane hn, putLane_lane hn]
    refine ⟨?_, fun _ => ?_, fun _ => ?_, fun _ => ?_, fun _ => ?_⟩
    · rw [lstate_lane hn, fld_fld_ne (by decide), fld_fld_ne (by decide), fld_fld_ne (by decide), enterLane_state hn]; rfl
    · rw [fld_fld_ne (by decide), fld_fld_ne (by decide), fld_fld_ne (by decide), enterLane_fn hn]; rfl
    · rw [State.bit, fld_fld_same]; rfl
    · rw [fld_fld_ne (by decide), fld_fld_same]; rfl
    · rw [fld_fld_ne (by decide), fld_fld_ne (by decide), fld_fld_same]; rfl
  · rw [putLane_beyond hn, putLane_beyond hn, putLane_beyond hn]
    exact ⟨enterLane_lstate n (by decide) s, fun h => absurd h hn, fun h => absurd h hn, fun h => absurd h hn, fun h => absurd h hn⟩

theorem linkUp_showsUp (n : Nat) (s : State) : ((linkUp n).run s).ShowsUp n (s.lane n).gen := by
  have hfixed (c : Bool) := (enterUp_showsUp n (s.lane n).gen s).fixDue c
  have hsends (u : State) : u.LinkKept ((seqs [
      whenP (32 ≤ n && !hubDown n && (s.dev (devOf n)).isHub && !s.upstreamUp (devOf n))
        (forP ((List.range 15).map (33 + 32 * devOf n + ·)) fun k => sendTrain k false false),
      whenP (n == 18 && s.roleState == Role.syncing) (sendClaim 3)]).run u) :=
    .of_within (m := 0x400000) (within_cons (within_whenP (within_forP fun _ => sendTrain_within (by decide) _ _ _))
      (within_cons (within_whenP (sendClaim_within (by decide) _)) within_nil)) (by decide) (by decide) (by decide) (by decide) u
  refine .kept (.modLane ?_) (hsends _)
  rw [run_ite]
  split
  · exact (hfixed _).putLane (f := Fld.LNK_EVENT.RETRAINED) (by decide) 1
  · exact ((hfixed _).putLane (f := Fld.LNK_TRAIN_TIME.US) (by decide) _).kept (.of_within (m := 0x40000000)
      (within_cons (within_whenP (modTreeOf_within (by decide) _ _)) within_nil) (by decide) (by decide) (by decide) (by decide) _)

theorem trainReceive_ready {n word : Nat} {s : State} (htrains : s.trains n = true) (hstate : s.lstate n = Ls.confirm) (hword : word % 256 = 0x21)
    (hready : bitAt word 9 = true) (hpeer : bitAt word 10 = false) (hidle : (s.lane n).idle = false) (hrun : 15 ≤ (s.lane n).readyRun)
    (hown : (s.lane n).eqFail = false) (hsent : (s.lane n).entered + setsTime (s.lane n).gen (.train true true true true) 16 ≤ s.chr.ns) :
    ∃ t, exec (.trainReceive n word) s = .next t ∧ t.lstate n = Ls.up ∧ (n < 19 → t.fld Fld.LNK_STATUS.FUNC_STATE n = Fn.on ∧
      t.bit Fld.LNK_EVENT.LINK_UP n = true ∧ t.fld Fld.LNK_STATUS.ATTEMPTS n = 0 ∧ t.fld Fld.LNK_STATUS.GEN n = (s.lane n).gen % 4) := by
  refine whenP_next (by rw [htrains, hword, hidle]; rfl) (finish_next ?_)
  rw [if_pos hstate, if_pos hready, run_cons, run_cons, run_nil, hpeer]
  obtain ⟨u, hu⟩ : ∃ u, u = (modLane n fun l => { l with readyRun := l.readyRun + 1, peerEqFail := false }).run s.quiet := ⟨_, rfl⟩
  have huLane : u.lane n = { s.lane n with readyRun := (s.lane n).readyRun + 1, peerEqFail := false } := by
    rw [hu, run_modLane, lane_lane_same]; rfl
  have huNs : u.chr.ns = s.chr.ns := by rw [hu]; rfl
  have hdone : (confirmDone n).run u = (linkUp n).run u := by
    simp only [confirmDone, run_read, huLane, hown]
    rfl
  rw [← hu, run_read, run_whenP, huLane, huNs, decide_eq_true (show 16 ≤ (s.lane n).readyRun + 1 by omega), decide_eq_true hsent,
    Bool.and_self, if_pos rfl, hdone]
  have hshows := linkUp_showsUp n u
  rw [huLane] at hshows
  exact ⟨hshows.lstate, fun hn => ⟨hshows.fn hn, hshows.event hn, hshows.attempts hn, hshows.gen hn⟩⟩

/-! ### CAPS (R78, R80) -/

/-- The state in which an end shows what a CAPS set says of its peer. -/
def State.peerShown (s : State) (n word : Nat) : State :=
  (seqs [putLane Fld.LNK_STATUS.PEER_KIND n (bitsAt word 8 4), putLane Fld.LNK_STATUS.PEER_MAX_GEN n (bitsAt word 12 2),
    putLane Fld.LNK_STATUS.PEER_FIX n (bitsAt word 14 1), putLane Fld.LNK_STATUS.PEER_EQ n (bitsAt word 16 1)]).run s

theorem peerShown_lane (n word k : Nat) (s : State) : (s.peerShown n word).lane k = s.lane k := by
  by_cases hn : n < 19
  · simp only [State.peerShown, run_cons, run_nil, putLane_lane hn, lane_fld]
  · simp only [State.peerShown, run_cons, run_nil, putLane_beyond hn]

theorem peerShown_fld {f : Field} (hf : f.row ∉ [Fld.LNK_STATUS.PEER_KIND.row, Fld.LNK_STATUS.PEER_MAX_GEN.row, Fld.LNK_STATUS.PEER_FIX.row,
    Fld.LNK_STATUS.PEER_EQ.row]) (n word k : Nat) (s : State) : (s.peerShown n word).fld f k = s.fld f k := by
  simp only [List.mem_cons, List.not_mem_nil, or_false, not_or] at hf
  obtain ⟨hkind, hgen, hfix, heq⟩ := hf
  by_cases hn : n < 19
  · simp only [State.peerShown, run_cons, run_nil, putLane_lane hn, fld_fld_ne hkind, fld_fld_ne hgen, fld_fld_ne hfix, fld_fld_ne heq]
  · simp only [State.peerShown, run_cons, run_nil, putLane_beyond hn]

theorem peerShown_kind {n : Nat} (hn : n < 19) (word : Nat) (s : State) :
    (s.peerShown n word).fld Fld.LNK_STATUS.PEER_KIND n = bitsAt word 8 4 := by
  simp (disch := decide) only [State.peerShown, run_cons, run_nil, putLane_lane hn, fld_fld_ne, fld_fld_same]
  exact Nat.mod_mod _ _

theorem capsReceive_miswired {n word : Nat} {s : State} (htrains : s.trains n = true) (hstate : s.lstate n = Ls.caps) (hword : word % 256 = 0x22)
    (hkind : partner (s.laneKind n) (bitsAt word 8 4) = false) : ∃ t, exec (.capsReceive n word) s = .next t ∧ t.lstate n = Ls.error ∧
      (n < 19 → t.bit Fld.LNK_EVENT.MISWIRED n = true ∧ t.fld Fld.LNK_STATUS.PEER_KIND n = bitsAt word 8 4) := by
  refine whenP_next (by rw [htrains, hword, hstate]; rfl) (finish_next ?_)
  rw [hkind, Bool.not_false, if_pos rfl]
  obtain ⟨u, hu⟩ : ∃ u, u = (putLane Fld.LNK_EVENT.MISWIRED n 1).run (s.quiet.peerShown n word) := ⟨_, rfl⟩
  have hfld {f : Field} (hf : blockOf f.row = 1) (hstate : f.row ≠ Fld.LNK_STATUS.STATE.row) (hfn : f.row ≠ Fld.LNK_STATUS.FUNC_STATE.row) :
      ((enterLane n Ls.error).run u).fld f n = u.fld f n := enterLane_fld hf hstate hfn n _ n u
  suffices h : ((enterLane n Ls.error).run u).lstate n = Ls.error ∧ (n < 19 → ((enterLane n Ls.error).run u).bit Fld.LNK_EVENT.MISWIRED n = true ∧
      ((enterLane n Ls.error).run u).fld Fld.LNK_STATUS.PEER_KIND n = bitsAt word 8 4) by rw [hu] at h; exact h
  refine ⟨enterLane_lstate n (by decide) u, fun hn => ⟨?_, ?_⟩⟩
  · rw [State.bit, hfld (by decide) (by decide) (by decide), hu, putLane_lane hn, fld_fld_same]; rfl
  · rw [hfld (by decide) (by decide) (by decide), hu, putLane_lane hn, fld_fld_ne (by decide), peerShown_kind hn]

/-- The state in which an end has noted the fourth CAPS alike of its peer, acknowledged. -/
def State.capsNoted (s : State) (n word : Nat) : State :=
  (modLane n fun l => { l with caps := some (word % 2 ^ 64 - 2 ^ 17), capsRun := 4, peerAck := l.peerAck || true }).run (s.peerShown n word)

theorem capsNoted_lane (n word : Nat) (s : State) : (s.capsNoted n word).lane n =
    { s.lane n with caps := some (word % 2 ^ 64 - 2 ^ 17), capsRun := 4, peerAck := true } := by
  rw [State.capsNoted, run_modLane, lane_lane_same, peerShown_lane, Bool.or_true]

theorem capsNoted_cfg {f : Field} (hf : f ∈ [Fld.LNK_CFG.MAX_GEN, Fld.LNK_CFG.EQ_FIXED]) (n word k : Nat) (s : State) :
    (s.capsNoted n word).fld f k = s.fld f k := by
  rw [State.capsNoted, run_modLane, fld_lane, peerShown_fld]
  revert f
  decide

/-- The fourth CAPS alike of a compatible peer, acknowledged: this end acknowledges too, and the exchange is complete. -/
theorem capsReceive_agreed {n word : Nat} {s : State} {P : State → Prop} (htrains : s.trains n = true) (hstate : s.lstate n = Ls.caps)
    (hword : word % 256 = 0x22) (hack : bitAt word 17 = true) (hkind : partner (s.laneKind n) (bitsAt word 8 4) = true)
    (hcaps : (s.lane n).caps = some (word % 2 ^ 64 - 2 ^ 17)) (hrun : (s.lane n).capsRun = 3)
    (hP : ∀ u : State, (u.lane n).gen = (s.lane n).gen → u.ownGen n = s.ownGen n →
      u.bit Fld.LNK_CFG.EQ_FIXED n = s.bit Fld.LNK_CFG.EQ_FIXED n → P ((capsDone n (bitsAt word 12 2)).run u)) :
    ∃ t, exec (.capsReceive n word) s = .next t ∧ P t := by
  refine whenP_next (by rw [htrains, hword, hstate]; rfl) (finish_next ?_)
  rw [hkind, Bool.not_true, if_neg Bool.false_ne_true, hack, if_pos rfl, if_pos hcaps, hrun]
  rw [run_cons, run_cons, run_cons, run_cons, run_cons, run_nil, run_cons, run_cons, run_cons, run_nil, run_read]
  obtain ⟨u, hu⟩ : ∃ u, u = (sendSets n [s.ownCaps n true]).run (s.quiet.capsNoted n word) := ⟨_, rfl⟩
  have huLane : u.lane n = { s.lane n with caps := some (word % 2 ^ 64 - 2 ^ 17), capsRun := 4, peerAck := true } := by
    rw [hu, run_sendSets, lane_sent, capsNoted_lane]; rfl
  have huCfg {f : Field} (hf : f ∈ [Fld.LNK_CFG.MAX_GEN, Fld.LNK_CFG.EQ_FIXED]) : u.fld f n = s.fld f n := by
    rw [hu, run_sendSets, fld_sent, capsNoted_cfg hf, quiet_fld]
  have hdone : (whenP (u.lane n).peerAck (capsDone n (bitsAt word 12 2))).run u = (capsDone n (bitsAt word 12 2)).run u := by
    rw [huLane]; rfl
  suffices h : P ((whenP (u.lane n).peerAck (capsDone n (bitsAt word 12 2))).run u) by rw [hu] at h; exact h
  rw [hdone]
  refine hP u (by rw [huLane]) ?_ (by rw [State.bit, State.bit, huCfg (by simp)])
  simp only [State.ownGen, huCfg (f := Fld.LNK_CFG.MAX_GEN) (by simp), huLane]

/-- EQ (R81): without EQ_FIXED an end sweeps; with it a lane goes on to CONFIRM with the settings of LNK_EQ_CFG. -/
theorem enterEq_kept (n : Nat) (s : State) : ∃ (st : Nat) (u : State), (st = Ls.eq ∨ st = Ls.confirm) ∧
    ((n < 19 → s.bit Fld.LNK_CFG.EQ_FIXED n = false) → st = Ls.eq) ∧ u.lane n = s.lane n ∧
    (∀ f : Field, f.row ≠ Fld.LNK_EQ_RESULT.TX_DEEMPH.row → f.row ≠ Fld.LNK_EQ_RESULT.RX_CTLE.row → u.fld f n = s.fld f n) ∧
    ((enterLane n st).run u).LinkKept ((enterEq n).run s) := by
  simp only [enterEq, run_read, run_ite]
  split
  next hfixed =>
    obtain ⟨hn, hbit⟩ := hfixed
    refine ⟨Ls.confirm, _, .inr rfl, fun h => absurd (h hn) (by rw [hbit]; decide), ?_, fun f htx hrx => ?_, sendTrain_kept n true false _⟩
    · rfl
    · rw [run_putN, run_putN, fld_fld_ne hrx, fld_fld_ne htx]
  next => exact ⟨Ls.eq, s, .inl rfl, fun _ => rfl, rfl, fun _ _ _ => rfl, sendTrain_kept n false true _⟩

theorem capsReceive_sweeps {n word : Nat} {s : State} (htrains : s.trains n = true) (hstate : s.lstate n = Ls.caps)
    (hword : word % 256 = 0x22) (hack : bitAt word 17 = true) (hkind : partner (s.laneKind n) (bitsAt word 8 4) = true)
    (hcaps : (s.lane n).caps = some (word % 2 ^ 64 - 2 ^ 17)) (hrun : (s.lane n).capsRun = 3)
    (hgen : min (s.ownGen n) (max 1 (bitsAt word 12 2)) = (s.lane n).gen ∨ auxLane n = true)
    (hfixed : n < 19 → s.bit Fld.LNK_CFG.EQ_FIXED n = false) :
    ∃ t, exec (.capsReceive n word) s = .next t ∧ t.lstate n = Ls.eq ∧ (t.lane n).target = (s.lane n).gen := by
  refine capsReceive_agreed htrains hstate hword hack hkind hcaps hrun fun u huGen huOwn huFixed => ?_
  obtain ⟨v, hv⟩ : ∃ v, v = (modLane n fun l => { l with target := l.gen }).run u := ⟨_, rfl⟩
  have hdone : (capsDone n (bitsAt word 12 2)).run u = (enterEq n).run v := by
    simp only [capsDone, run_read, huOwn, huGen]
    rw [if_pos hgen, hv]
    rfl
  have hvFixed : n < 19 → v.bit Fld.LNK_CFG.EQ_FIXED n = false := fun hn => by rw [hv]; exact huFixed.trans (hfixed hn)
  obtain ⟨st, w, -, hsweeps, hlane, -, hkept⟩ := enterEq_kept n v
  obtain rfl := hsweeps hvFixed
  rw [hdone]
  refine ⟨by rw [hkept.lstate, enterLane_lstate n (by decide)], ?_⟩
  rw [hkept.lane, enterLane_lane, hlane, hv, run_modLane, lane_lane_same]
  exact huGen

/-! ### GEN_SWITCH (R80) -/

/-- An end that enters GEN_SWITCH is in it, with its target. -/
theorem enterGenSwitch_targets (n target : Nat) (both : Bool) (s : State) : ((enterGenSwitch n target both).run s).lstate n = Ls.genSwitch ∧
    (((enterGenSwitch n target both).run s).lane n).target = target := by
  simp only [enterGenSwitch, run_read]
  rw [run_cons, run_cons, run_cons, run_cons, run_nil]
  constructor
  · rw [modLane_lstate, setLock_lstate, enterLane_lstate n (by decide)]
  · rw [run_modLane, lane_lane_same]

theorem capsReceive_switches {n word : Nat} {s : State} (htrains : s.trains n = true) (hstate : s.lstate n = Ls.caps)
    (hword : word % 256 = 0x22) (hack : bitAt word 17 = true) (hkind : partner (s.laneKind n) (bitsAt word 8 4) = true)
    (hcaps : (s.lane n).caps = some (word % 2 ^ 64 - 2 ^ 17)) (hrun : (s.lane n).capsRun = 3)
    (hgen : min (s.ownGen n) (max 1 (bitsAt word 12 2)) ≠ (s.lane n).gen) (haux : auxLane n = false) :
    ∃ t, exec (.capsReceive n word) s = .next t ∧ t.lstate n = Ls.genSwitch ∧ (t.lane n).target = min (s.ownGen n) (max 1 (bitsAt word 12 2)) := by
  refine capsReceive_agreed htrains hstate hword hack hkind hcaps hrun fun u huGen huOwn _ => ?_
  have hdone : (capsDone n (bitsAt word 12 2)).run u = (enterGenSwitch n (min (s.ownGen n) (max 1 (bitsAt word 12 2))) false).run u := by
    simp only [capsDone, run_read, huOwn, huGen]
    rw [if_neg (by simp only [hgen, haux, Bool.false_eq_true, or_self, not_false_eq_true])]
  rw [hdone]
  exact enterGenSwitch_targets n _ false u

theorem legacyDetect_shows {n : Nat} {s : State} (htrains : s.trains n = true) (hleads : isU n = true) (hstate : s.lstate n = Ls.caps)
    (hseen : (s.lane n).trainSeen = true) (hnone : (s.lane n).caps = none) (hkind : partner (s.laneKind n) 4 = true)
    (hreach : s.reaches ((s.lane n).entered + 2000000) = true) : ∃ t, exec (.legacyDetect n) s = .next t ∧ (t.lane n).legacy = true ∧
      (n < 19 → t.bit Fld.LNK_STATUS.LEGACY n = true ∧ t.fld Fld.LNK_STATUS.PEER_KIND n = 4) ∧ (t.lstate n = Ls.eq ∨ t.lstate n = Ls.confirm) := by
  refine whenP_next (by rw [htrains, hleads, hstate, hseen, hnone]; rfl) (atNs_next hreach fun frac => ?_)
  rw [hkind, Bool.not_true, if_neg Bool.false_ne_true, run_cons, run_cons, run_cons, run_cons, run_cons, run_cons, run_cons, run_nil, run_modLane]
  obtain ⟨v, hv⟩ : ∃ v, v = (putLane Fld.LNK_STATUS.PEER_EQ n 0).run ((putLane Fld.LNK_STATUS.PEER_FIX n 1).run
    ((putLane Fld.LNK_STATUS.PEER_MAX_GEN n 1).run ((putLane Fld.LNK_STATUS.PEER_KIND n 4).run ((putLane Fld.LNK_STATUS.LEGACY n 1).run
      (s.quiet.atInstant (max s.chr.ns ((s.lane n).entered + 2000000)) frac))))) := ⟨_, rfl⟩
  rw [← hv]
  obtain ⟨st, w, hst, -, hlane, hfld, hkept⟩ := enterEq_kept n ((Eff.lane n { v.lane n with legacy := true }).apply v)
  have hlnk {f : Field} (hf : blockOf f.row = 1) (htx : f.row ≠ Fld.LNK_EQ_RESULT.TX_DEEMPH.row) (hrx : f.row ≠ Fld.LNK_EQ_RESULT.RX_CTLE.row)
      (hstate : f.row ≠ Fld.LNK_STATUS.STATE.row) (hfn : f.row ≠ Fld.LNK_STATUS.FUNC_STATE.row) :
      ((enterEq n).run ((Eff.lane n { v.lane n with legacy := true }).apply v)).fld f n = v.fld f n := by
    rw [hkept.fld _ _ hf, enterLane_fld hf hstate hfn, hfld f htx hrx, fld_lane]
  refine ⟨?_, fun hn => ?_, ?_⟩
  · rw [hkept.lane, enterLane_lane, hlane, lane_lane_same]; rfl
  · simp only [putLane_lane hn] at hv
    constructor
    · rw [State.bit, hlnk (by decide) (by decide) (by decide) (by decide) (by decide), hv, fld_fld_ne (by decide), fld_fld_ne (by decide),
        fld_fld_ne (by decide), fld_fld_ne (by decide), fld_fld_same]
      rfl
    · rw [hlnk (by decide) (by decide) (by decide) (by decide) (by decide), hv, fld_fld_ne (by decide), fld_fld_ne (by decide),
        fld_fld_ne (by decide), fld_fld_same]
      rfl
  · rw [hkept.lstate, enterLane_lstate n (by rcases hst with rfl | rfl <;> decide)]
    exact hst

theorem genSwitchIdleEnd_aligns {n t0 : Nat} {s : State} (htrains : s.trains n = true) (hstate : s.lstate n = Ls.genSwitch)
    (hgo : (s.lane n).goAt = some t0) (hreach : s.reaches (t0 + 2000) = true) : ∃ t, exec (.genSwitchIdleEnd n) s = .next t ∧
      t.lstate n = Ls.align ∧ (t.lane n).gen = (s.lane n).target ∧
      t.out = [.ordered n ((OSet.train (s.lockHeld n) false false false).codes (s.lane n).target)] := by
  have hend : isEnd n = true := by
    rw [State.trains, Bool.and_eq_true] at htrains; exact htrains.1
  refine whenP_next (by rw [hend, hstate]; rfl) ?_
  simp only [hgo]
  refine atNs_next hreach fun frac => ?_
  rw [run_cons, run_cons, run_cons, run_nil]
  obtain ⟨u, hu⟩ : ∃ u, u = s.quiet.atInstant (max s.chr.ns (t0 + 2000)) frac := ⟨_, rfl⟩
  obtain ⟨v, hv⟩ : ∃ v, v = (modLane n fun l => { l with gen := l.target }).run ((enterLane n Ls.align).run u) := ⟨_, rfl⟩
  rw [← hu, ← hv]
  have huState : u.lstate n = s.lstate n := by rw [hu]; rfl
  have huLane (k : Nat) : u.lane k = s.lane k := by rw [hu]; rfl
  have hvLane : v.lane n = { (s.lane n).entering n Ls.align u.chr.ns with gen := (s.lane n).target } := by
    rw [hv, run_modLane, lane_lane_same, enterLane_lane, huLane]; rfl
  have hvTrains : v.trains n = true := by
    rw [trains_congr (s := s) fun k hk => ?_, htrains]
    rw [hv, run_modLane, lane_lane_ne hk, enterLane_other hk (by rw [huState, hstate]; decide), huLane]
  have hvLock : v.lockHeld n = s.lockHeld n := by rw [hv, modLane_lockHeld, enterLane_lockHeld, hu]; rfl
  have hkept := sendTrain_kept n false false v
  refine ⟨?_, by rw [hkept.lane, hvLane], ?_⟩
  · rw [hkept.lstate, hv, modLane_lstate, enterLane_lstate n (by decide)]
  · have hvOut : v.out = [] := by
      rw [hv]; show ((enterLane n Ls.align).run u).out = []; rw [enterLane_out, hu]; rfl
    rw [sendTrain_out hvTrains, hvOut, hvLock, hvLane, Bool.and_false]
    rfl

/-- A follower on a tree link is a device's end. -/
theorem beyond_of_follower {n : Nat} (hfollows : isU n = false) (haux : auxLane n = false) : ¬ n < 19 := by
  intro hn
  rw [isU, if_pos (by omega), bne_eq_false_iff_eq] at hfollows
  rw [hfollows] at haux
  exact absurd haux (by decide)

theorem genGoReceive_targets {n word : Nat} {s : State} (htrains : s.trains n = true) (hfollows : isU n = false) (haux : auxLane n = false)
    (hstate : s.lstate n = Ls.caps) (hword : word % 256 = 0x23) (hcount : bitsAt word 16 4 ≠ 0) : ∃ t, exec (.genGoReceive n word) s = .next t ∧
      t.lstate n = Ls.genSwitch ∧ (t.lane n).target = max 1 (bitsAt word 8 2) ∧ (t.lane n).goAt = some (s.chr.ns + 1000) ∧ keepsBut [] s t := by
  have hn := beyond_of_follower hfollows haux
  refine whenP_next (by rw [htrains, hword, hfollows, haux, hstate]; rfl) (finish_next ?_)
  rw [hstate, run_cons, run_cons, run_nil, run_whenP, if_pos (by decide), run_modLane]
  obtain ⟨hswitch, -⟩ := enterGenSwitch_targets n (max 1 (bitsAt word 8 2)) false s.quiet
  have hregs : ((enterGenSwitch n (max 1 (bitsAt word 8 2)) false).run s.quiet).regs = s.regs := by
    simp only [enterGenSwitch, run_read, hfollows]
    rw [run_cons, run_cons, run_cons, run_cons, run_nil, setLock_beyond hn, run_whenP, Bool.false_and, if_neg Bool.false_ne_true]
    exact enterLane_regs hn (by rw [if_neg Bool.false_ne_true, quiet_lstate, hstate]; decide) _
  refine ⟨?_, by rw [lane_lane_same], by rw [lane_lane_same, if_neg hcount], keepsBut_of_regs hregs⟩
  rw [lstate_beyond hn, lane_lane_same, ← lstate_beyond hn, hswitch]

/-! ### EQ (R81, R82) -/

/-- Moving the chronometer leaves the lanes. -/
theorem movedTo_kept (s : State) (ns : Nat) : s.LinkKept (s.movedTo ns) := by
  unfold State.movedTo
  split
  · exact ⟨fun _ _ _ => rfl, rfl, rfl⟩
  · exact .refl s

theorem reaches_mono {s : State} {a b : Nat} (hab : a ≤ b) (h : s.reaches b = true) : s.reaches a = true := by
  simp only [State.reaches, Bool.or_eq_true, decide_eq_true_eq] at h ⊢
  rcases h with (hpast | hfree) | hdue
  · exact .inl (.inl (by omega))
  · exact .inl (.inr hfree)
  · exact .inr (by omega)

/-- An instant that can be reached can still be reached once the chronometer has moved and a program has run that reaches neither the
chronometer nor CHT_STATUS. -/
theorem reaches_movedTo_run {m : Nat} {p : Prog} (hp : p.Within m) (hregs : m.testBit 3 = false) (hall : m.testBit 19 = false)
    (hchr : m.testBit 27 = false) {s : State} {a b : Nat} (h : s.reaches b = true) : (p.run (s.movedTo a)).reaches b = true := by
  have hkeep : (p.run (s.movedTo a)).reaches b = (s.movedTo a).reaches b := by
    simp only [State.reaches, State.bit, run_chr hp hchr, run_fld hp hall Fld.CHT_STATUS.RUNNING 0 hregs]
  have hle : s.chr.ns ≤ (s.movedTo a).chr.ns := by
    unfold State.movedTo
    split
    next hlt => exact Nat.le_of_lt hlt
    next => exact Nat.le_refl _
  have hrun : (s.movedTo a).chr.runDue = s.chr.runDue ∧ (s.movedTo a).chr.dueNs = s.chr.dueNs := by unfold State.movedTo; split <;> exact ⟨rfl, rfl⟩
  rw [hkeep]
  simp only [State.reaches, State.bit, movedTo_fld, hrun.1, hrun.2, Bool.or_eq_true, decide_eq_true_eq] at h ⊢
  exact h.imp_left fun hnow => hnow.imp_left fun hpast => Nat.le_trans hpast hle

/-- What the sweep of a receiver shows and asks for: the setting with the widest opening. -/
def sweepShown (n deemph place eye gen : Nat) : Prog :=
  seqs [putLane Fld.LNK_EQ_RESULT.EYE n eye, putLane Fld.LNK_EQ_RESULT.RX_CTLE n (place % 16),
    if gen = 1 then putLane Fld.LNK_EQ_RESULT.TX_DEEMPH n deemph else forP (List.range 10) fun _ => sendSets n [.eqReq (place / 16) false]]

/-- What the sweep of a receiver leaves: the setting is shown, and a sweep that failed is remembered. -/
def sweepTaken (n deemph place eye gen : Nat) : Prog :=
  seqs [sweepShown n deemph place eye gen, modLane n fun l => { l with eqFail := decide (eye < eyeLimit l.gen) }]

theorem sweepShown_within (n deemph place eye gen : Nat) {m : Nat} (hm : m &&& 0x400002 = 0x400002) :
    (sweepShown n deemph place eye gen).Within m :=
  have hregs : m.testBit 1 = true := tb hm (by decide)
  within_cons (putLane_within (Nat.and_zero m) _ _ _ hregs) (within_cons (putLane_within (Nat.and_zero m) _ _ _ hregs)
    (within_cons (within_ite (putLane_within (Nat.and_zero m) _ _ _ hregs) (within_forP fun _ => sendSets_within (sub hm (by decide)) _ _)) within_nil))

theorem sweepTaken_within (n deemph place eye gen : Nat) : (sweepTaken n deemph place eye gen).Within 0x800400002 :=
  within_cons (sweepShown_within n deemph place eye gen (by decide)) (within_cons (modLane_within (by decide) _ _) within_nil)

theorem sweepTaken_eqFail (n deemph place eye gen : Nat) (s : State) :
    (((sweepTaken n deemph place eye gen).run s).lane n).eqFail = decide (eye < eyeLimit (s.lane n).gen) := by
  rw [sweepTaken, run_cons, run_cons, run_nil, run_modLane, lane_lane_same,
    run_lane (sweepShown_within n deemph place eye gen (m := 0x400002) (by decide)) (by decide)]

theorem sweepTaken_shows {n : Nat} (hn : n < 19) (deemph place eye gen : Nat) (s : State) :
    ((sweepTaken n deemph place eye gen).run s).fld Fld.LNK_EQ_RESULT.EYE n = eye % 2 ^ Fld.LNK_EQ_RESULT.EYE.w ∧
      ((sweepTaken n deemph place eye gen).run s).fld Fld.LNK_EQ_RESULT.RX_CTLE n = place % 16 := by
  have hrest {f : Field} (hf : f.row ≠ Fld.LNK_EQ_RESULT.TX_DEEMPH.row) (hblock : blockOf f.row = 1) (u : State) :
      ((if gen = 1 then putLane Fld.LNK_EQ_RESULT.TX_DEEMPH n deemph
        else forP (List.range 10) fun _ => sendSets n [.eqReq (place / 16) false]).run u).fld f n = u.fld f n := by
    rw [run_ite]
    split
    · rw [putLane_lane hn, fld_fld_ne hf]
    · exact run_fld (m := 0x400000) (within_forP fun _ => sendSets_within (by decide) _ _) (by decide) f n (by rw [hblock]; decide) u
  rw [sweepTaken, run_cons, run_cons, run_nil, run_modLane, fld_lane, fld_lane, sweepShown, run_cons, run_cons, run_cons, run_nil,
    hrest (by decide) (by decide), hrest (by decide) (by decide), putLane_lane hn, putLane_lane hn]
  refine ⟨by rw [fld_fld_ne (by decide), fld_fld_same], ?_⟩
  rw [fld_fld_same]
  exact Nat.mod_mod _ _

/-- EQ_SWEEP_DONE, once its schedule can end: the sweep is taken at its own instant, and CONFIRM follows at the end. -/
theorem eqSweepDone_next {n : Nat} {eyes : List Nat} {s : State} {P : State → Prop} {place eye : Nat}
    (hbest : (place, eye) = widest (eyes.take (if (s.lane n).gen = 1 then 16 else 208)))
    (htrains : s.trains n = true) (hstate : s.lstate n = Ls.eq)
    (hreach : s.reaches ((s.lane n).entered + if (s.lane n).gen = 1 then 960000 else 12500000) = true)
    (hP : ∀ u v : State, u.lane n = s.lane n → ((sweepTaken n (min 12 (s.fld Fld.LNK_EQ_CFG.TX_DEEMPH n)) place eye (s.lane n).gen).run u).LinkKept v →
      P ((enterConfirm n).run v)) : ∃ t, exec (.eqSweepDone n eyes) s = .next t ∧ P t := by
  refine whenP_next (by rw [htrains, hstate]; rfl) (finish_next ?_)
  rw [← hbest]
  obtain ⟨at_, hat⟩ : ∃ a, a = if (s.lane n).gen = 1 then (s.lane n).entered + (if (s.lane n).gen = 1 then 960000 else 12500000)
    else (s.lane n).entered + 12480000 := ⟨_, rfl⟩
  have hfirst : s.quiet.reaches at_ = true := reaches_mono (by rw [hat]; split <;> omega) hreach
  have hsecond := reaches_movedTo_run (sweepTaken_within n (min 12 (s.fld Fld.LNK_EQ_CFG.TX_DEEMPH n)) place eye (s.lane n).gen) (by decide) (by decide)
    (by decide) (s := s.quiet) (a := at_) hreach
  rw [← hat, run_cons, run_cons, run_nil, atNs_run (s := s.quiet) _ hfirst]
  suffices h : P ((atNs ((s.lane n).entered + if (s.lane n).gen = 1 then 960000 else 12500000) (enterConfirm n)).run
    ((sweepTaken n (min 12 (s.fld Fld.LNK_EQ_CFG.TX_DEEMPH n)) place eye (s.lane n).gen).run (s.quiet.movedTo at_))) from h
  rw [atNs_run _ hsecond]
  exact hP (s.quiet.movedTo at_) _ ((movedTo_kept s.quiet at_).lane n) (movedTo_kept _ _)

theorem eqSweepDone_confirms {n : Nat} {eyes : List Nat} {s : State} (htrains : s.trains n = true) (hstate : s.lstate n = Ls.eq)
    (hreach : s.reaches ((s.lane n).entered + if (s.lane n).gen = 1 then 960000 else 12500000) = true) :
    ∃ t, exec (.eqSweepDone n eyes) s = .next t ∧ t.lstate n = Ls.confirm ∧
      (t.lane n).eqFail = decide ((widest (eyes.take (if (s.lane n).gen = 1 then 16 else 208))).2 < eyeLimit (s.lane n).gen) ∧
      (n < 19 → t.fld Fld.LNK_EQ_RESULT.EYE n = (widest (eyes.take (if (s.lane n).gen = 1 then 16 else 208))).2 % 2 ^ Fld.LNK_EQ_RESULT.EYE.w ∧
        t.fld Fld.LNK_EQ_RESULT.RX_CTLE n = (widest (eyes.take (if (s.lane n).gen = 1 then 16 else 208))).1 % 16) := by
  obtain ⟨⟨place, eye⟩, hbest⟩ : ∃ b, b = widest (eyes.take (if (s.lane n).gen = 1 then 16 else 208)) := ⟨_, rfl⟩
  rw [← hbest]
  refine eqSweepDone_next hbest htrains hstate hreach fun u v hu hv => ?_
  have hconfirm : ((enterLane n Ls.confirm).run v).LinkKept ((enterConfirm n).run v) := sendTrain_kept n true false _
  refine ⟨by rw [hconfirm.lstate, enterLane_lstate n (by decide)], ?_, fun hn => ?_⟩
  · rw [hconfirm.lane, enterLane_lane, LaneRec.entering, hv.lane, sweepTaken_eqFail, hu]
  · obtain ⟨heye, hctle⟩ := sweepTaken_shows hn (min 12 (s.fld Fld.LNK_EQ_CFG.TX_DEEMPH n)) place eye (s.lane n).gen u
    rw [hconfirm.fld _ _ (by decide), hconfirm.fld _ _ (by decide), enterLane_fld (by decide) (by decide) (by decide),
      enterLane_fld (by decide) (by decide) (by decide), hv.fld _ _ (by decide), hv.fld _ _ (by decide)]
    exact ⟨heye, hctle⟩

theorem eqReqReceive_applies {n word : Nat} {s : State} (htrains : s.trains n = true) (hstate : s.lstate n = Ls.eq ∨ s.lstate n = Ls.confirm)
    (hword : word % 256 = 0x24) (hrequest : bitAt word 13 = false) (hgen : (s.lane n).gen ≠ 1) : ∃ t, exec (.eqReqReceive n word) s = .next t ∧
      (n < 19 → t.fld Fld.LNK_EQ_RESULT.TX_DEEMPH n = min 12 (bitsAt word 8 5)) ∧
      t.out = [.ordered n ((OSet.eqReq (min 12 (bitsAt word 8 5)) true).codes (s.lane n).gen)] ∧ keepsBut [(Fld.LNK_EQ_RESULT.TX_DEEMPH, n)] s t := by
  have hwhen : (s.lstate n == Ls.eq || s.lstate n == Ls.confirm) = true := by
    rw [Bool.or_eq_true, beq_iff_eq, beq_iff_eq]; exact hstate
  refine whenP_next (by rw [htrains, hword, hwhen, bne_iff_ne.mpr hgen, hrequest]; rfl) (finish_next ?_)
  rw [run_cons, run_cons, run_nil, run_sendSets, List.flatMap_singleton]
  by_cases hn : n < 19
  · rw [putLane_lane hn]
    refine ⟨fun _ => ?_, rfl, (keepsBut_quiet _ s).fld (List.mem_singleton_self _) _⟩
    rw [fld_sent, fld_fld_same]
    exact Nat.mod_eq_of_lt (by show min 12 _ < 32; omega)
  · rw [putLane_beyond hn]
    exact ⟨fun h => absurd h hn, rfl, keepsBut_of_regs rfl⟩

/-! ### Attempts that fail (R74, R85) -/

/-- A failed attempt without a limit: the end idles in DETECT, and a lane of the controller shows and counts the attempt. -/
theorem attemptFailed_idles {n : Nat} {s : State} (hlimit : n < 19 → s.fld Fld.LNK_CFG.MAX_ATTEMPTS n = 0) :
    ((attemptFailed n).run s).lstate n = Ls.detect ∧ (((attemptFailed n).run s).lane n).idle = true ∧
      (n < 19 → ((attemptFailed n).run s).bit Fld.LNK_EVENT.ATTEMPT_FAILED n = true ∧
        ((attemptFailed n).run s).fld Fld.LNK_STATUS.ATTEMPTS n = min 15 (s.fld Fld.LNK_STATUS.ATTEMPTS n + 1)) := by
  obtain ⟨u, hu⟩ : ∃ u, u = (setLock n false).run ((putLane Fld.LNK_STATUS.GEN n 0).run ((putLane Fld.LNK_STATUS.ATTEMPTS n
    (min 15 (s.fld Fld.LNK_STATUS.ATTEMPTS n + 1))).run ((putLane Fld.LNK_EVENT.ATTEMPT_FAILED n 1).run s))) := ⟨_, rfl⟩
  have hrun : (attemptFailed n).run s = (modLane n fun l => { l with idle := true }).run ((enterLane n Ls.detect).run u) := by
    have hnone : ¬ (n < 19 ∧ s.fld Fld.LNK_CFG.MAX_ATTEMPTS n ≠ 0 ∧
        s.fld Fld.LNK_CFG.MAX_ATTEMPTS n ≤ min 15 (s.fld Fld.LNK_STATUS.ATTEMPTS n + 1)) := fun h => h.2.1 (hlimit h.1)
    simp only [attemptFailed, run_read]
    rw [if_neg hnone, hu]
    rfl
  rw [hrun]
  refine ⟨by rw [modLane_lstate, enterLane_lstate n (by decide)], by rw [run_modLane, lane_lane_same], fun hn => ?_⟩
  rw [putLane_lane hn, putLane_lane hn, putLane_lane hn] at hu
  rw [run_modLane, State.bit, fld_lane, fld_lane, enterLane_fld (by decide) (by decide) (by decide), enterLane_fld (by decide) (by decide) (by decide), hu,
    setLock_fld (by decide), setLock_fld (by decide)]
  constructor
  · rw [fld_fld_ne (by decide), fld_fld_ne (by decide), fld_fld_same]; rfl
  · rw [fld_fld_ne (by decide), fld_fld_same]
    exact Nat.mod_eq_of_lt (by show min 15 _ < 16; omega)

theorem trainingTimeout_fails {n : Nat} {s : State} (htrains : s.trains n = true) (hstate : s.lstate n = Ls.caps) (hidle : (s.lane n).idle = false)
    (hlegacy : (isU n && (s.lane n).trainSeen && (s.lane n).caps == none) = false) (hlimit : n < 19 → s.fld Fld.LNK_CFG.MAX_ATTEMPTS n = 0)
    (hreach : s.reaches ((s.lane n).entered + 2000000) = true) : ∃ t, exec (.trainingTimeout n) s = .next t ∧ t.lstate n = Ls.detect ∧
      (t.lane n).idle = true ∧ (n < 19 → t.bit Fld.LNK_EVENT.ATTEMPT_FAILED n = true ∧
        t.fld Fld.LNK_STATUS.ATTEMPTS n = min 15 (s.fld Fld.LNK_STATUS.ATTEMPTS n + 1)) := by
  refine whenP_next (by rw [htrains, hidle]; rfl) ?_
  rw [hstate, if_neg (by decide), if_pos rfl]
  exact whenP_next (by rw [hlegacy]; rfl) (atNs_next hreach fun _ => attemptFailed_idles (s := s.quiet.atInstant _ _) hlimit)

theorem attemptIdleEnd_detects {n : Nat} {s : State} (hend : isEnd n = true) (hidle : (s.lane n).idle = true)
    (hreach : s.reaches ((s.lane n).entered + 10000000) = true) : ∃ t, exec (.attemptIdleEnd n) s = .next t ∧ t.lstate n = Ls.detect ∧
      (t.lane n).idle = false ∧ t.lockHeld n = false := by
  refine whenP_next (by rw [hend, hidle]; rfl) (atNs_next hreach fun _ => ?_)
  have hdetect := enterDetect_inDetect n (s.quiet.atInstant (max s.chr.ns ((s.lane n).entered + 10000000)) ‹_›)
  exact ⟨hdetect.lstate, hdetect.idle, hdetect.lockHeld⟩

/-- Settles O28: what each set received, each timer and each sweep does to an end that trains, one lemma for each command and case. -/
theorem lanesTrainStepByStep : Obligations.LanesTrainStepByStep := by
  unfold Obligations.LanesTrainStepByStep
  exact ⟨fun _ _ _ _ _ => laneLock_locks, fun _ _ _ => trainReceive_locked, fun _ _ _ => trainReceive_ready, fun _ _ _ => capsReceive_miswired,
    fun _ _ _ => capsReceive_sweeps, fun _ _ _ => capsReceive_switches, fun _ _ => legacyDetect_shows, fun _ _ _ => genSwitchIdleEnd_aligns,
    fun _ _ _ => genGoReceive_targets, fun _ _ _ => eqSweepDone_confirms, fun _ _ _ => eqReqReceive_applies, fun _ _ => trainingTimeout_fails,
    fun _ _ => attemptIdleEnd_detects⟩

end Sys2Proof.Machine

/-! SUPPORT. The proof of the statement of lanes that are switched, retrained, put to sleep and lost (file 03; Machine/Lanes.lean). -/

namespace Sys2Proof.Machine

/-! ### Counting -/

/-- Counting up a lane's counter, which stays within its width. -/
theorem countUp_counts {f : Field} {n : Nat} {s : State} : ((countUp f n).run s.quiet).fld f n = min (s.fld f n + 1) (2 ^ f.w - 1) := by
  rw [run_countUp, fld_fld_same, quiet_fld]
  exact Nat.mod_eq_of_lt (by have := Nat.two_pow_pos f.w; omega)

theorem countUp_next {f : Field} {n : Nat} {s : State} : ∃ t, finish (countUp f n) s = .next t ∧ t.fld f n = min (s.fld f n + 1) (2 ^ f.w - 1) ∧
    keepsBut [(f, n)] s t :=
  finish_next ⟨countUp_counts, (keepsBut_quiet _ s).fld (List.mem_singleton_self _) _⟩

/-! ### Switching a lane (R87) -/

theorem lnkEnable_starts {n : Nat} {s : State} (hn : n < 19) (hoff : s.fld Fld.LNK_STATUS.FUNC_STATE n = Fn.off) :
    ∃ t, exec (.lnkEnable n) s = .next t ∧ t.lstate n = Ls.detect ∧ t.fld Fld.LNK_STATUS.FUNC_STATE n = Fn.enabling ∧
      t.bit Fld.LNK_CTRL.ENABLE n = true ∧
      t.out = [.ordered n ((OSet.train false false false false).codes (if auxLane n then 3 else 1))] := by
  refine whenP_next (decide_eq_true hn) (finish_next ?_)
  simp only [laneEnable, run_read, quiet_fld, hoff, if_true, run_cons, run_nil, run_raise]
  obtain ⟨u, hu⟩ : ∃ u, u = (Eff.fld Fld.LNK_CTRL.ENABLE n 1).apply s.quiet := ⟨_, rfl⟩
  rw [← hu]
  have hkept := enterDetect_kept n u
  refine ⟨(enterDetect_inDetect n u).lstate, ?_, ?_, ?_⟩
  · rw [hkept.fld _ _ (by decide), detecting_fn hn]
  · rw [hkept.bit (by decide), State.bit, detecting_fld (by decide) (by decide), hu, fld_fld_same]; rfl
  · rw [run_enterDetect, sendTrain_out (trains_lane hn _), detecting_out hn, detecting_lockHeld, detecting_lane, Bool.and_false, hu]
    rfl

/-- What an end that is switched off while UP does after its LINK_OFF: the tree and the time logic lose it, and it is DISABLING in DISABLED. -/
def laneGoesQuiet (n role : Nat) : Prog :=
  seqs [seqs [treeLoses n 0, whenP (n == 16 && role == 2) (deadReckon 2)], enterLane n Ls.disabled,
    putN Fld.LNK_STATUS.FUNC_STATE n Fn.disabling, putN Fld.LNK_STATUS.GEN n 0, clear Fld.LNK_ALIGN.LOCKED n,
    modLane n fun l => { l with bursts := 0, waking := false }]

theorem laneGoesQuiet_disabled {n : Nat} {s : State} (hn : n < 19) (hup : s.lstate n = Ls.up) (role : Nat) :
    ((laneGoesQuiet n role).run s).lstate n = Ls.disabled ∧ ((laneGoesQuiet n role).run s).fld Fld.LNK_STATUS.FUNC_STATE n = Fn.disabling ∧
      ((laneGoesQuiet n role).run s).bit Fld.LNK_CTRL.ENABLE n = s.bit Fld.LNK_CTRL.ENABLE n ∧
      (((laneGoesQuiet n role).run s).fixOf n).outstanding = none := by
  obtain ⟨u, hu⟩ : ∃ u, u = (seqs [treeLoses n 0, whenP (n == 16 && role == 2) (deadReckon 2)]).run s := ⟨_, rfl⟩
  have hkept : s.LinkKept u := by
    rw [hu]
    exact .of_within (m := 0x200c0000004 ||| 0xfd40581) (within_cons (treeLoses_within (by decide) _ _)
      (within_cons (within_whenP (deadReckon_within (by decide) _)) within_nil)) (by decide) (by decide) (by decide) (by decide) s
  rw [laneGoesQuiet, run_cons, ← hu]
  simp (disch := decide) only [run_cons, run_nil, run_putN, run_clear, run_modLane, lstate_lane hn, State.bit, fld_lane, fixOf_lane, fixOf_fld,
    fld_fld_ne, fld_fld_same, enterLane_state hn, enterLane_fld, hkept.fld, true_and]
  exact ⟨rfl, rfl, enterLane_fixOf hn ((hkept.lstate n).trans hup) (by decide)⟩

theorem lnkDisable_switchesOff {n : Nat} {s : State} (hn : n < 19) (hup : s.lstate n = Ls.up) (hon : s.fld Fld.LNK_STATUS.FUNC_STATE n = Fn.on)
    (hidle : (s.lane n).idle = false) :
    ∃ t, exec (.lnkDisable n) s = .next t ∧ t.lstate n = Ls.disabled ∧ t.fld Fld.LNK_STATUS.FUNC_STATE n = Fn.disabling ∧
      t.bit Fld.LNK_CTRL.ENABLE n = false ∧ (t.fixOf n).outstanding = none ∧
      t.out.head? = some (.ordered n ((List.replicate 8 (OSet.linkOff false)).flatMap (OSet.codes (s.lane n).gen))) := by
  refine whenP_next (decide_eq_true hn) (finish_next ?_)
  obtain ⟨u, hu⟩ : ∃ u, u = (Eff.fld Fld.LNK_STATUS.PENDING_ENABLE n 0).apply ((Eff.fld Fld.LNK_CTRL.ENABLE n 0).apply s.quiet) := ⟨_, rfl⟩
  have huState : u.lstate n = Ls.up := by rw [hu, lstate_lane hn, fld_fld_ne (by decide), fld_fld_ne (by decide), ← lstate_lane hn, quiet_lstate, hup]
  have huEnable : u.bit Fld.LNK_CTRL.ENABLE n = false := by rw [hu, State.bit, fld_fld_ne (by decide), fld_fld_same]; rfl
  have hrun : (laneDisable n).run s.quiet = (laneGoesQuiet n s.role).run ((sendSets n (List.replicate 8 (.linkOff false))).run u) := by
    simp only [laneDisable, run_read, quiet_lstate, quiet_fld, quiet_lane, hup, hon, hidle, hu]
    rfl
  obtain ⟨hstate, hfn, henable, hfix⟩ := laneGoesQuiet_disabled (s := (sendSets n (List.replicate 8 (.linkOff false))).run u) hn huState s.role
  rw [hrun]
  exact ⟨hstate, hfn, henable.trans huEnable, hfix, by rw [sendSets_head (by rw [hu]; rfl), hu]; rfl⟩

theorem laneDisabled_off {n : Nat} {s : State} (hn : n < 19) (hdisabling : s.fld Fld.LNK_STATUS.FUNC_STATE n = Fn.disabling)
    (hpending : s.bit Fld.LNK_STATUS.PENDING_ENABLE n = false) (hpair : n = 18 → s.fld Fld.PAIR_STATUS.FUNC_STATE ≠ Fn.disabling) :
    ∃ t, exec (.laneDisabled n) s = .next t ∧ t.fld Fld.LNK_STATUS.FUNC_STATE n = Fn.off := by
  refine whenP_next (by rw [decide_eq_true hn, hdisabling]; rfl) (finish_next ?_)
  obtain ⟨u, hu⟩ : ∃ u, u = (Eff.fld Fld.LNK_STATUS.FUNC_STATE n Fn.off).apply s.quiet := ⟨_, rfl⟩
  have hpair' : (whenP (n == 18) pairDisabled).run u = u := by
    rw [run_whenP]
    split
    next hmirror =>
      have hne : (u.fld Fld.PAIR_STATUS.FUNC_STATE == Fn.disabling) = false := by
        rw [hu, fld_fld_ne (by decide), quiet_fld]; exact beq_eq_false_iff_ne.mpr (hpair (eq_of_beq hmirror))
      rw [pairDisabled, run_read, hne]; rfl
    next => rfl
  rw [hpending, if_neg Bool.false_ne_true, run_cons, run_putN, run_cons, run_nil, ← hu, hpair', hu, fld_fld_same]
  rfl

/-! ### Retraining (R77, R89) -/

/-- Losing lock in UP sends an end to RETRAIN. -/
theorem run_lockLost_up {n : Nat} {s : State} (hup : s.lstate n = Ls.up) : (lockLost n).run s =
    (enterRetrain n).run ((modLane n fun l => { l with lockErrs := [] }).run ((setLock n false).run s)) := by
  simp only [lockLost, run_read, run_cons, run_nil, if_pos hup]

theorem laneLockLoss_retrains {n : Nat} {s : State} (hend : isEnd n = true) (hup : s.lstate n = Ls.up) :
    ∃ t, exec (.laneLockLoss n) s = .next t ∧ t.lstate n = Ls.retrain ∧ t.lockHeld n = false ∧
      t.out.head? = some (.ordered n ((List.replicate 8 (OSet.retrain false)).flatMap (OSet.codes (s.lane n).gen))) ∧
      (n < 19 → (t.fixOf n).outstanding = none) := by
  refine whenP_next hend (finish_next ?_)
  rw [run_lockLost_up (by rw [quiet_lstate, hup])]
  obtain ⟨u, hu⟩ : ∃ u, u = (modLane n fun l => { l with lockErrs := [] }).run ((setLock n false).run s.quiet) := ⟨_, rfl⟩
  have huOut : u.out = [] := by rw [hu]; exact setLock_out n false s.quiet
  have huGen : (u.lane n).gen = (s.lane n).gen := by rw [hu, run_modLane, lane_lane_same, setLock_record]; rfl
  rw [← hu]
  refine ⟨enterRetrain_lstate n u, ?_, by rw [enterRetrain_head huOut, huGen], fun hn => enterRetrain_fixOf hn ?_⟩
  · rw [enterRetrain_lockHeld, hu]
    exact (modLane_lockHeld _).trans (setLock_lockHeld n false _)
  · rw [hu]
    exact (modLane_lstate _).trans ((setLock_lstate n false _).trans hup)

theorem lnkRetrain_retrains {n : Nat} {s : State} (hn : n < 19) (hup : s.lstate n = Ls.up) : ∃ t, exec (.lnkRetrain n) s = .next t ∧
    t.lstate n = Ls.retrain ∧ t.out.head? = some (.ordered n ((List.replicate 8 (OSet.retrain false)).flatMap (OSet.codes (s.lane n).gen))) :=
  whenP_next (by rw [decide_eq_true hn, hup]; rfl) (finish_next ⟨enterRetrain_lstate n _, enterRetrain_head rfl⟩)

theorem lnkFullRetrain_detects {n : Nat} {s : State} (hn : n < 19) (hup : s.lstate n = Ls.up) : ∃ t, exec (.lnkFullRetrain n) s = .next t ∧
    t.lstate n = Ls.detect ∧ t.out.head? = some (.ordered n ((List.replicate 8 (OSet.retrain true)).flatMap (OSet.codes (s.lane n).gen))) :=
  whenP_next (by rw [decide_eq_true hn, hup]; rfl) (finish_next ⟨(fullRetrain_inDetect n _).lstate, fullRetrain_head rfl⟩)

/-- RETRAIN received by an end in UP does what its KIND says. -/
theorem retrainReceive_next {n word : Nat} {s : State} {P : State → Prop} (hend : isEnd n = true) (hup : s.lstate n = Ls.up)
    (hword : word % 256 = 0x2E) (hP : P ((if bitAt word 8 then fullRetrain n else enterRetrain n).run s.quiet)) :
    ∃ t, exec (.retrainReceive n word) s = .next t ∧ P t := by
  refine whenP_next (by rw [hend, hword]; rfl) (finish_next ?_)
  rw [if_pos hup]
  exact hP

theorem retrainReceive_fast {n word : Nat} {s : State} (hend : isEnd n = true) (hup : s.lstate n = Ls.up) (hword : word % 256 = 0x2E)
    (hfast : bitAt word 8 = false) : ∃ t, exec (.retrainReceive n word) s = .next t ∧ t.lstate n = Ls.retrain ∧ (t.lane n).fromRetrain = true := by
  refine retrainReceive_next hend hup hword ?_
  rw [hfast, if_neg Bool.false_ne_true]
  exact ⟨enterRetrain_lstate n _, by rw [enterRetrain_lane]⟩

theorem retrainReceive_full {n word : Nat} {s : State} (hend : isEnd n = true) (hup : s.lstate n = Ls.up) (hword : word % 256 = 0x2E)
    (hfull : bitAt word 8 = true) : ∃ t, exec (.retrainReceive n word) s = .next t ∧ t.lstate n = Ls.detect ∧ (t.lane n).fromRetrain = false := by
  refine retrainReceive_next hend hup hword ?_
  rw [hfull, if_pos rfl]
  exact ⟨(fullRetrain_inDetect n _).lstate, (fullRetrain_inDetect n _).fromRetrain⟩

/-! ### Errors (R67, R73, R77, R88) -/

/-- What code errors that cost an end its lock leave, while it is not UP: its state, the errors that count against its threshold, and
all its fields but LOCKED and OFFSET. -/
def State.ErrorsKept (n : Nat) (s t : State) : Prop :=
  t.lstate n = s.lstate n ∧ (t.lane n).codeErrs = (s.lane n).codeErrs ∧ t.fld Fld.LNK_ERR_CNT.CODE_ERR n = s.fld Fld.LNK_ERR_CNT.CODE_ERR n

theorem State.ErrorsKept.trans {n : Nat} {a b c : State} (hab : a.ErrorsKept n b) (hbc : b.ErrorsKept n c) : a.ErrorsKept n c := by
  obtain ⟨hstate, herrs, hcount⟩ := hab
  obtain ⟨hstate', herrs', hcount'⟩ := hbc
  exact ⟨hstate'.trans hstate, herrs'.trans herrs, hcount'.trans hcount⟩

theorem State.LinkKept.errorsKept {s t : State} (h : s.LinkKept t) (n : Nat) : s.ErrorsKept n t :=
  ⟨h.lstate n, by rw [h.lane], h.fld _ _ (by decide)⟩

theorem lockErrs_errorsKept (n : Nat) (l : List Nat) (s : State) : s.ErrorsKept n ((modLane n fun v => { v with lockErrs := l }).run s) :=
  ⟨modLane_lstate s, by rw [run_modLane, lane_lane_same], rfl⟩

theorem setLock_errorsKept (n : Nat) (v : Bool) (s : State) : s.ErrorsKept n ((setLock n v).run s) :=
  ⟨setLock_lstate n v s, by rw [setLock_record], setLock_fld (by decide) n n v s⟩

theorem lockLost_errorsKept {n : Nat} {s : State} (hup : s.lstate n ≠ Ls.up) : s.ErrorsKept n ((lockLost n).run s) := by
  simp only [lockLost, run_read, run_cons, run_nil, if_neg hup, run_whenP]
  have hlost := (setLock_errorsKept n false s).trans (lockErrs_errorsKept n [] _)
  split
  · exact hlost.trans ((sendTrain_kept n _ _ _).errorsKept n)
  · exact hlost

theorem offset_errorsKept (n v : Nat) (s : State) : s.ErrorsKept n ((putLane Fld.LNK_ALIGN.OFFSET n v).run s) := by
  by_cases hn : n < 19
  · rw [putLane_lane hn]
    exact ⟨by rw [lstate_lane hn, lstate_lane hn, fld_fld_ne (by decide)], rfl, fld_fld_ne (by decide) _ _ _ _⟩
  · rw [putLane_beyond hn]
    exact ⟨rfl, rfl, rfl⟩

theorem State.ErrorsKept.whenP {n : Nat} {p : Prog} {s : State} (h : s.ErrorsKept n (p.run s)) (c : Bool) : s.ErrorsKept n ((whenP c p).run s) := by
  rw [run_whenP]
  split
  · exact h
  · exact ⟨rfl, rfl, rfl⟩

theorem State.ErrorsKept.ite {n : Nat} {p q : Prog} {s : State} {c : Prop} [Decidable c] (hp : s.ErrorsKept n (p.run s))
    (hq : s.ErrorsKept n (q.run s)) : s.ErrorsKept n ((if c then p else q).run s) := by
  rw [run_ite]
  split
  · exact hp
  · exact hq

theorem lockError_errorsKept {n : Nat} {s : State} (hup : s.lstate n ≠ Ls.up) : s.ErrorsKept n ((lockError n).run s) := by
  refine .whenP (.ite ?_ (lockErrs_errorsKept n _ s)) _
  have hslip (v : Nat) (c : Bool) : s.ErrorsKept n ((whenP c (putLane Fld.LNK_ALIGN.OFFSET n v)).run s) := (offset_errorsKept n v s).whenP c
  exact (hslip _ _).trans (lockLost_errorsKept (by rw [(hslip _ _).1]; exact hup))

/-- The error counted that reaches the threshold clears the errors of the window and starts RETRAIN. -/
theorem countedError_retrains {n : Nat} (l : List Nat) (s : State) {t : State}
    (ht : t = (enterRetrain n).run ((modLane n fun v => { v with codeErrs := [] }).run ((modLane n fun v => { v with codeErrs := l }).run
      ((countUp Fld.LNK_ERR_CNT.CODE_ERR n).run s.quiet)))) : t.lstate n = Ls.retrain ∧ (t.lane n).codeErrs = [] ∧
      t.fld Fld.LNK_ERR_CNT.CODE_ERR n = min (s.fld Fld.LNK_ERR_CNT.CODE_ERR n + 1) (2 ^ Fld.LNK_ERR_CNT.CODE_ERR.w - 1) := by
  rw [ht]
  refine ⟨enterRetrain_lstate n _, by rw [enterRetrain_lane, run_modLane, lane_lane_same]; rfl, ?_⟩
  rw [enterRetrain_fld (by decide), enterLane_fld (by decide) (by decide) (by decide), run_sendSets, fld_sent, run_modLane, fld_lane,
    run_modLane, fld_lane, countUp_counts]

theorem codeError_retrains {n code : Nat} {rd : Bool} {s : State} (hn : n < 19) (hup : s.lstate n = Ls.up)
    (hcode : validCode (s.lane n).gen code rd = false) (hthresh : s.fld Fld.LNK_ERR_CFG.THRESH n = 1) :
    ∃ t, exec (.codeError n code rd) s = .next t ∧ t.lstate n = Ls.retrain ∧
      t.fld Fld.LNK_ERR_CNT.CODE_ERR n = min (s.fld Fld.LNK_ERR_CNT.CODE_ERR n + 1) (2 ^ Fld.LNK_ERR_CNT.CODE_ERR.w - 1) ∧ (t.lane n).codeErrs = [] := by
  refine whenP_next (by rw [isEnd, decide_eq_true hn, hcode]; rfl) (finish_next ?_)
  have hreached (a : Nat) (l : List Nat) : (1 != 0 && decide ((List.take 1 (a :: l)).length ≥ 1) && Ls.up == Ls.up) = true := rfl
  simp only [run_cons, run_nil, run_whenP, decide_eq_true hn, hthresh, hup, hreached, if_true]
  obtain ⟨hstate, herrs, hcount⟩ := countedError_retrains _ s rfl
  obtain ⟨hstate', herrs', hcount'⟩ := lockError_errorsKept (by rw [hstate]; decide)
  exact ⟨hstate'.trans hstate, hcount'.trans hcount, herrs'.trans herrs⟩

theorem typeError_counts {n block : Nat} {s : State} (hn : n < 19) (hknown : knownType (block % 256) = false)
    (hmirror : (n == 18 && mirrorType (block % 256)) = false) : ∃ t, exec (.typeError n block) s = .next t ∧
      t.fld Fld.LNK_ERR_CNT.TYPE_ERR n = min (s.fld Fld.LNK_ERR_CNT.TYPE_ERR n + 1) (2 ^ Fld.LNK_ERR_CNT.TYPE_ERR.w - 1) ∧
      keepsBut [(Fld.LNK_ERR_CNT.TYPE_ERR, n)] s t :=
  whenP_next (by rw [decide_eq_true hn, hknown, hmirror]; rfl) countUp_next

theorem frameError_counts {n : Nat} {inside : Bool} {pos : Int} {s : State} (hn : n < 19) (hwhere : inside = true ∨ s.mayBegin n pos = false) :
    ∃ t, exec (.frameError n inside pos) s = .next t ∧
      t.fld Fld.LNK_ERR_CNT.FRAME_ERR n = min (s.fld Fld.LNK_ERR_CNT.FRAME_ERR n + 1) (2 ^ Fld.LNK_ERR_CNT.FRAME_ERR.w - 1) ∧
      keepsBut [(Fld.LNK_ERR_CNT.FRAME_ERR, n)] s t := by
  refine whenP_next ?_ countUp_next
  rcases hwhere with hinside | hmay
  · rw [decide_eq_true hn, hinside]; rfl
  · rw [decide_eq_true hn, hmay, Bool.not_false, Bool.or_true]; rfl

/-! ### Losing a lane (R90, R93) -/

theorem laneLost_detects {n t0 : Nat} {s : State} (hend : isEnd n = true) (hup : s.lstate n = Ls.up) (hlost : (s.lane n).lostAt = some t0)
    (hannounced : (s.lane n).linkOff = false) (hreach : s.reaches (t0 + 10000) = true) : ∃ t, exec (.laneLost n) s = .next t ∧
      t.lstate n = Ls.detect ∧ (n < 19 → t.bit Fld.LNK_EVENT.LANE_LOST n = true ∧ (t.fixOf n).outstanding = none) := by
  refine whenP_next hend ?_
  have hdue : (lossDue n).run s.quiet = (atNs (t0 + 10000) (laneLost n 0)).run s.quiet := by
    simp only [lossDue, run_read, quiet_lane, quiet_lstate, hlost, hup, hannounced]
    rfl
  rw [finish_congr hdue]
  exact atNs_next hreach fun _ => ⟨(laneLost_inDetect n 0 _).lstate,
    fun hn => ⟨laneLost_event hn 0 _, laneLost_fixOf (s := s.quiet.atInstant _ _) hn hup 0⟩⟩

/-- LINK_OFF received by an end in UP. -/
theorem linkOffReceive_next {n word : Nat} {s : State} {P : State → Prop} (hend : isEnd n = true) (hup : s.lstate n = Ls.up)
    (hword : word % 256 = 0x2F) (hP : P ((if isU n then (if bitAt word 8 then modLane n fun l => { l with linkOff := true } else laneLost n 3)
      else if bitAt word 8 then seqs [enterLowPower n, whenP (n == 16 && s.role == 2) (deadReckon 2)]
      else modLane n fun l => { l with linkOff := true }).run s.quiet)) :
    ∃ t, exec (.linkOffReceive n word) s = .next t ∧ P t :=
  whenP_next (by rw [hend, hword, hup]; rfl) (finish_next hP)

theorem linkOffReceive_disable {n word : Nat} {s : State} (hend : isEnd n = true) (hleads : isU n = true) (hup : s.lstate n = Ls.up)
    (hword : word % 256 = 0x2F) (hdisable : bitAt word 8 = false) : ∃ t, exec (.linkOffReceive n word) s = .next t ∧ t.lstate n = Ls.detect ∧
      (n < 19 → t.bit Fld.LNK_EVENT.LANE_LOST n = true) := by
  refine linkOffReceive_next hend hup hword ?_
  rw [if_pos hleads, hdisable, if_neg Bool.false_ne_true]
  exact ⟨(laneLost_inDetect n 3 _).lstate, fun hn => laneLost_event hn 3 _⟩

theorem linkOffReceive_lowPower {n word : Nat} {s : State} (hend : isEnd n = true) (hfollows : isU n = false) (hup : s.lstate n = Ls.up)
    (hword : word % 256 = 0x2F) (hlow : bitAt word 8 = true) : ∃ t, exec (.linkOffReceive n word) s = .next t ∧ t.lstate n = Ls.lowPower ∧
      t.lockHeld n = false := by
  refine linkOffReceive_next hend hup hword ?_
  rw [hfollows, if_neg Bool.false_ne_true, hlow, if_pos rfl, run_cons, run_cons, run_nil]
  obtain ⟨hstate, hlock⟩ := enterLowPower_asleep n s.quiet
  have hkept := State.LinkKept.of_within (within_whenP (c := n == 16 && s.role == 2) (deadReckon_within (pm := 0xfd40581) (by decide) 2))
    (by decide) (by decide) (by decide) (by decide) ((enterLowPower n).run s.quiet)
  exact ⟨(hkept.lstate n).trans hstate, (hkept.lockHeld n).trans hlock⟩

theorem laneSignalChange_lost {n : Nat} {s : State} (hend : isEnd n = true) (hon : s.laneOn n = true) :
    ∃ t, exec (.laneSignalChange n false) s = .next t ∧ t.noSignal n = true ∧ t.lockHeld n = false ∧
      (t.lane n).lostAt = some ((s.lane n).lostAt.getD s.chr.ns) ∧ keepsBut [(Fld.LNK_STATUS.LOS, n), (Fld.LNK_ALIGN.LOCKED, n)] s t := by
  refine whenP_next (by rw [hend, hon]; rfl) (finish_next ?_)
  rw [run_cons, run_cons, run_nil, if_neg Bool.false_ne_true, if_neg Bool.false_ne_true, run_cons, run_cons, run_nil]
  by_cases hn : n < 19
  · rw [putLane_lane hn, setLock_lane hn, run_modLane]
    refine ⟨?_, ?_, by rw [lane_lane_same]; rfl, ((keepsBut_quiet _ s).fld (by simp) 1).fld (by simp) (bit1 false)⟩
    · rw [State.noSignal, if_pos hn, State.bit, fld_lane, fld_fld_ne (by decide), fld_fld_same]; rfl
    · rw [lockHeld_lane hn, State.bit, fld_lane, fld_fld_same]; rfl
  · rw [putLane_beyond hn, setLock_beyond hn, run_modLane]
    refine ⟨?_, ?_, by rw [lane_lane_same, lane_lane_same]; rfl, keepsBut_of_regs rfl⟩
    · rw [State.noSignal, if_neg hn, lane_lane_same]; rfl
    · rw [lockHeld_beyond hn, lane_lane_same, lane_lane_same]

/-! ### Low power and the foghorn (R93, R94) -/

theorem lnkLowPower_sleeps {n : Nat} {s : State} (hn : n < 19) (hlead : n ≠ 16) (hup : s.lstate n = Ls.up) : ∃ t, exec (.lnkLowPower n) s = .next t ∧
    t.lstate n = Ls.lowPower ∧ t.out.head? = some (.ordered n ((List.replicate 8 (OSet.linkOff true)).flatMap (OSet.codes (s.lane n).gen))) := by
  have hleads : isU n = true := by rw [isU, if_pos (by omega)]; exact bne_iff_ne.mpr hlead
  have hrun : (goLowPower n).run s.quiet = (enterLowPower n).run ((sendSets n (List.replicate 8 (.linkOff true))).run s.quiet) := by
    simp only [goLowPower, run_read, run_whenP, decide_eq_true hn, hleads, quiet_lstate, hup]
    rfl
  refine finish_next ?_
  rw [hrun]
  exact ⟨(enterLowPower_asleep n _).1, sendSets_head rfl n _ _⟩

/-- A burst is sent and counted; it changes no register. -/
theorem burst_sends {n : Nat} {s u : State} (hregs : u.regs = s.regs) (hlane : u.lane n = s.lane n) (hout : u.out = []) :
    (((burst n).run u).lane n).bursts = (s.lane n).bursts + 1 ∧ ((burst n).run u).out = [.foghorn n] ∧ keepsBut [] s ((burst n).run u) := by
  refine ⟨?_, ?_, keepsBut_of_regs hregs⟩
  · rw [burst, run_cons, run_cons, run_nil, run_modLane, lane_lane_same, run_emit, lane_sent, hlane]
  · show u.out ++ [.foghorn n] = _
    rw [hout]; rfl

theorem lnkWakeRemote_sends {n : Nat} {s : State} (hn : n < 19) (hlow : s.lstate n = Ls.lowPower) (hnone : (s.lane n).bursts = 0) :
    ∃ t, exec (.lnkWakeRemote n) s = .next t ∧ (t.lane n).bursts = 1 ∧ t.out = [.foghorn n] ∧ keepsBut [] s t := by
  have hrun : (lnkWakeRemote n).run s.quiet = (modLane n fun l => { l with began := s.chr.ns }).run ((burst n).run s.quiet) := by
    simp only [lnkWakeRemote, run_read, run_whenP, decide_eq_true hn, quiet_lstate, quiet_lane, hlow, hnone]
    rfl
  obtain ⟨hcount, hout, hkeeps⟩ := burst_sends (n := n) (s := s) (u := s.quiet) rfl rfl rfl
  refine finish_next ?_
  rw [hrun]
  exact ⟨by rw [run_modLane, lane_lane_same, hcount, hnone], hout, hkeeps⟩

/-- FOGHORN_BURST of a waking end, when it is due. -/
theorem foghornBurst_next {n : Nat} {s : State} {P : State → Prop} (hend : isEnd n = true) (hlow : s.lstate n = Ls.lowPower)
    (hwaking : (s.lane n).bursts ≠ 0) (hreach : s.reaches ((s.lane n).began + (s.lane n).bursts * 1000000) = true)
    (hP : ∀ u : State, u.regs = s.regs → u.lane n = s.lane n → u.out = [] →
      P ((if (s.lane n).bursts ≥ 200 then modLane n fun l => { l with bursts := 0 } else burst n).run u)) :
    ∃ t, exec (.foghornBurst n) s = .next t ∧ P t := by
  refine whenP_next (by rw [hend, hlow]; rfl) ?_
  rw [if_neg hwaking]
  exact atNs_next hreach fun _ => hP _ rfl rfl rfl

theorem foghornBurst_sends {n : Nat} {s : State} (hend : isEnd n = true) (hlow : s.lstate n = Ls.lowPower) (hwaking : (s.lane n).bursts ≠ 0)
    (hmore : (s.lane n).bursts < 200) (hreach : s.reaches ((s.lane n).began + (s.lane n).bursts * 1000000) = true) :
    ∃ t, exec (.foghornBurst n) s = .next t ∧ (t.lane n).bursts = (s.lane n).bursts + 1 ∧ t.out = [.foghorn n] ∧ keepsBut [] s t := by
  refine foghornBurst_next hend hlow hwaking hreach fun u hregs hlane hout => ?_
  rw [if_neg (by omega)]
  exact burst_sends hregs hlane hout

theorem foghornBurst_givesUp {n : Nat} {s : State} (hend : isEnd n = true) (hlow : s.lstate n = Ls.lowPower) (hall : 200 ≤ (s.lane n).bursts)
    (hreach : s.reaches ((s.lane n).began + (s.lane n).bursts * 1000000) = true) :
    ∃ t, exec (.foghornBurst n) s = .next t ∧ (t.lane n).bursts = 0 ∧ t.out = [] ∧ keepsBut [] s t := by
  refine foghornBurst_next hend hlow (by omega) hreach fun u hregs _ hout => ?_
  rw [if_pos hall, run_modLane]
  exact ⟨by rw [lane_lane_same], hout, keepsBut_of_regs hregs⟩

theorem lnkSlip_moves {n : Nat} {s : State} (hn : n < 19) (hsoft : s.bit Fld.LNK_CFG.SW_ALIGN n = true) : ∃ t, exec (.lnkSlip n) s = .next t ∧
    t.fld Fld.LNK_ALIGN.OFFSET n = (s.fld Fld.LNK_ALIGN.OFFSET n + 1) % (if (s.lane n).gen = 3 then 66 else 10) ∧
    keepsBut [(Fld.LNK_ALIGN.OFFSET, n)] s t := by
  have hspan : 0 < (if (s.lane n).gen = 3 then 66 else 10) ∧ (if (s.lane n).gen = 3 then 66 else 10) ≤ 2 ^ 7 := by split <;> decide
  have hrun : (lnkSlip n).run s.quiet = (Eff.fld Fld.LNK_ALIGN.OFFSET n
      ((s.fld Fld.LNK_ALIGN.OFFSET n + 1) % (if (s.lane n).gen = 3 then 66 else 10))).apply s.quiet := by
    simp only [lnkSlip, run_read, run_whenP, decide_eq_true hn, quiet_bit, hsoft, quiet_fld, quiet_lane]
    rfl
  refine finish_next ?_
  rw [hrun]
  exact ⟨(fld_fld_same _ _ _ _).trans (Nat.mod_eq_of_lt (Nat.lt_of_lt_of_le (Nat.mod_lt _ hspan.1) hspan.2)),
    (keepsBut_quiet _ s).fld (List.mem_singleton_self _) _⟩

/-- Settles O29: what switching, retraining, losing and waking a lane does, one lemma for each command and case. -/
theorem lanesAreSwitchedRetrainedAndLost : Obligations.LanesAreSwitchedRetrainedAndLost := by
  unfold Obligations.LanesAreSwitchedRetrainedAndLost
  exact ⟨fun _ _ => lnkEnable_starts, fun _ _ => lnkDisable_switchesOff, fun _ _ => laneDisabled_off, fun _ _ => laneLockLoss_retrains,
    fun _ _ => lnkRetrain_retrains, fun _ _ _ => retrainReceive_fast, fun _ _ _ => retrainReceive_full, fun _ _ => lnkFullRetrain_detects,
    fun _ _ _ _ => codeError_retrains, fun _ _ _ => typeError_counts, fun _ _ _ _ => frameError_counts, fun _ _ _ => laneLost_detects,
    fun _ _ _ => linkOffReceive_disable, fun _ _ _ => linkOffReceive_lowPower, fun _ _ => laneSignalChange_lost, fun _ _ => lnkLowPower_sleeps,
    fun _ _ => lnkWakeRemote_sends, fun _ _ => foghornBurst_sends, fun _ _ => foghornBurst_givesUp, fun _ _ => lnkSlip_moves⟩

end Sys2Proof.Machine

/-! SUPPORT. What the statements of the tree logic (file 04; Machine/Tree.lean) are proved with: what a change of the node table, of a record and of a
tree leaves, and what a command on a node-table entry does (R134). -/

namespace Sys2Proof.Machine

/-! ### The node table -/

@[simp] theorem quiet_tree (s : State) : s.quiet.tree = s.tree := rfl
@[simp] theorem quiet_node (s : State) (a : Nat) : s.quiet.node a = s.node a := rfl
@[simp] theorem tree_fld (f : Field) (n v : Nat) (s : State) : ((Eff.fld f n v).apply s).tree = s.tree := rfl

/-- Writing an entry of the table changes that entry of the tree logic, and nothing else of it. -/
theorem putNode_tree {a : Nat} (hlow : a ≠ 0) (hhigh : a < 4095) (v : NodeEntry) (s : State) :
    ((putNode a v).run s).tree = { s.tree with nodes := tset {} s.tree.nodes a v } := by
  have hin : (a != 0 && decide (a < 4095)) = true := by simp [hlow, hhigh]
  simp only [putNode, run_read, run_whenP, hin, if_true, run_cons, run_nil]
  split
  · exact mirrorNote_tree _ _ _ _
  · rfl

theorem refreshTree_tree (s : State) : (refreshTree.run s).tree = s.tree :=
  run_tree (refreshTree_within (pm := 0x4) (by decide)) (by decide) s

/-- Changing an entry of the table changes that entry of the tree logic, and nothing else of it. -/
theorem modNode_tree {a : Nat} (hlow : a ≠ 0) (hhigh : a < 4095) (f : NodeEntry → NodeEntry) (s : State) :
    ((modNode a f).run s).tree = { s.tree with nodes := tset {} s.tree.nodes a (f (s.node a)) } := by
  rw [modNode, run_read, run_cons, run_cons, run_nil, refreshTree_tree, putNode_tree hlow hhigh]

theorem node_modNode_same {a : Nat} (hlow : a ≠ 0) (hhigh : a < 4095) (f : NodeEntry → NodeEntry) (s : State) :
    ((modNode a f).run s).node a = f (s.node a) := by
  rw [State.node, if_neg hlow, modNode_tree hlow hhigh, tget, tset, Sparse.get_set_same]

/-- Changing an entry touches the counts of TRE_COUNT and no other field. -/
theorem modNode_keeps (a : Nat) (f : NodeEntry → NodeEntry) {l : List (Field × Nat)} (habsent : (Fld.TRE_COUNT.ABSENT, 0) ∈ l)
    (hpresent : (Fld.TRE_COUNT.PRESENT, 0) ∈ l) (s : State) : keepsBut l s ((modNode a f).run s) := by
  have hput := keepsBut_run (putNode_within (pm := 0x20040000000) (by decide) a (f (s.node a))) (by decide) l s
  simp only [modNode, run_read, run_cons, run_nil, refreshTree, run_put]
  exact (hput.fld habsent _).fld hpresent _

/-! ### A command on an entry (R134) -/

section
variable {a : Nat} {words : Nat → Nat} {onDone onRefused : Prog} {s : State}

theorem run_nodeCommand_outside (h : a = 0 ∨ a ≥ 4095) (action : Nat) :
    (nodeCommand action a words onDone onRefused).run s = onRefused.run s := by
  simp only [nodeCommand, run_read, if_pos h]

theorem run_nodeCommand_inside (hlow : a ≠ 0) (hhigh : a < 4095) (action : Nat) : (nodeCommand action a words onDone onRefused).run s =
    (if action = 0 then
      if ((s.node a).state == .free || (s.node a).state == .absent) && (words 3 % 16 == 0 || words 3 % 16 == 1) then
        onDone.run ((modNode a fun _ => .ofWords (words 0) (words 1) (words 2) (words 3)).run s)
      else onRefused.run s
    else if action = 1 then
      if (s.node a).state = .absent then onDone.run ((modNode a fun e => { e with state := .free, template := false }).run s)
      else onRefused.run s
    else if action = 2 then
      if (s.node a).state = .active ∨ (s.node a).state = .suspect then
        onDone.run ((modRec a fun r => { r with quarantine := some (r.quarantine.getD 1) }).run s)
      else onRefused.run s
    else if (s.node a).state = .quarantine then onDone.run ((modRec a fun r => { r with release := true }).run s)
    else onRefused.run s) := by
  have hin : ¬ (a = 0 ∨ a ≥ 4095) := by omega
  simp only [nodeCommand, run_read, if_neg hin, run_ite]
  rfl

theorem run_nodeCommand_write (hlow : a ≠ 0) (hhigh : a < 4095) (hstate : (s.node a).state = .free ∨ (s.node a).state = .absent)
    (hword : words 3 % 16 ≤ 1) : (nodeCommand 0 a words onDone onRefused).run s =
      onDone.run ((modNode a fun _ => .ofWords (words 0) (words 1) (words 2) (words 3)).run s) := by
  have hidle : words 3 % 16 = 0 ∨ words 3 % 16 = 1 := by omega
  rw [run_nodeCommand_inside hlow hhigh, if_pos rfl, if_pos (by simpa using ⟨hstate, hidle⟩)]

theorem run_nodeCommand_write_refused
    (h : a = 0 ∨ 4095 ≤ a ∨ ((s.node a).state ≠ .free ∧ (s.node a).state ≠ .absent) ∨ 1 < words 3 % 16) :
    (nodeCommand 0 a words onDone onRefused).run s = onRefused.run s := by
  by_cases hout : a = 0 ∨ a ≥ 4095
  · exact run_nodeCommand_outside hout 0
  · have hbusy : ¬ (((s.node a).state = .free ∨ (s.node a).state = .absent) ∧ (words 3 % 16 = 0 ∨ words 3 % 16 = 1)) := by
      rintro ⟨hstate, hword⟩
      rcases h with h | h | ⟨hfree, habsent⟩ | h
      · omega
      · omega
      · exact hstate.elim hfree habsent
      · omega
    rw [run_nodeCommand_inside (by omega) (by omega), if_pos rfl, if_neg (by simpa using hbusy)]

theorem run_nodeCommand_forget (hlow : a ≠ 0) (hhigh : a < 4095) (hstate : (s.node a).state = .absent) :
    (nodeCommand 1 a words onDone onRefused).run s = onDone.run ((modNode a fun e => { e with state := .free, template := false }).run s) := by
  rw [run_nodeCommand_inside hlow hhigh, if_neg (by decide), if_pos rfl, if_pos hstate]

theorem run_nodeCommand_quarantine (hlow : a ≠ 0) (hhigh : a < 4095) (hstate : (s.node a).state = .active ∨ (s.node a).state = .suspect) :
    (nodeCommand 2 a words onDone onRefused).run s =
      onDone.run ((modRec a fun r => { r with quarantine := some (r.quarantine.getD 1) }).run s) := by
  rw [run_nodeCommand_inside hlow hhigh, if_neg (by decide), if_neg (by decide), if_pos rfl, if_pos hstate]

theorem run_nodeCommand_release (hlow : a ≠ 0) (hhigh : a < 4095) (hstate : (s.node a).state = .quarantine) :
    (nodeCommand 3 a words onDone onRefused).run s = onDone.run ((modRec a fun r => { r with release := true }).run s) := by
  rw [run_nodeCommand_inside hlow hhigh, if_neg (by decide), if_neg (by decide), if_neg (by decide), if_pos hstate]

/-- The states of an entry that FORGET (1), QUARANTINE (2) and RELEASE (3) ask for (R132, R134). -/
def NodeState.takes (n : NodeState) (action : Nat) : Prop :=
  if action = 1 then n = .absent else if action = 2 then n = .active ∨ n = .suspect else n = .quarantine

theorem run_nodeCommand_refused {action : Nat} (haction : action ≠ 0) (h : a = 0 ∨ 4095 ≤ a ∨ ¬ (s.node a).state.takes action) :
    (nodeCommand action a words onDone onRefused).run s = onRefused.run s := by
  by_cases hout : a = 0 ∨ a ≥ 4095
  · exact run_nodeCommand_outside hout action
  · have hstate : ¬ (s.node a).state.takes action := (h.resolve_left (by omega)).resolve_left (by omega)
    rw [run_nodeCommand_inside (by omega) (by omega), if_neg haction]
    unfold NodeState.takes at hstate
    split_ifs at hstate ⊢ <;> rfl

end

end Sys2Proof.Machine

/-! SUPPORT. The proof of the statement of the commands of TRE_NODE_CMD (file 04; Machine/Tree.lean). -/

namespace Sys2Proof.Machine

/-- What a command of TRE_NODE_CMD leaves of the node table's status: DONE and REFUSED show how it ended. -/
def State.NodeStatus (t : State) (done : Bool) : Prop :=
  t.bit Fld.TRE_NODE_STATUS.DONE = done ∧ t.bit Fld.TRE_NODE_STATUS.REFUSED = !done

theorem run_treDone (s : State) : (seqs [raise Fld.TRE_NODE_STATUS.DONE, clear Fld.TRE_NODE_STATUS.REFUSED]).run s =
    (Eff.fld Fld.TRE_NODE_STATUS.REFUSED 0 0).apply ((Eff.fld Fld.TRE_NODE_STATUS.DONE 0 1).apply s) := rfl

theorem run_treRefused (s : State) : (seqs [raise Fld.TRE_NODE_STATUS.REFUSED, clear Fld.TRE_NODE_STATUS.DONE]).run s =
    (Eff.fld Fld.TRE_NODE_STATUS.DONE 0 0).apply ((Eff.fld Fld.TRE_NODE_STATUS.REFUSED 0 1).apply s) := rfl

theorem treDone_shows (s : State) : ((seqs [raise Fld.TRE_NODE_STATUS.DONE, clear Fld.TRE_NODE_STATUS.REFUSED]).run s).NodeStatus true := by
  constructor
  all_goals simp (disch := decide) only [run_treDone, State.bit, fld_fld_same, fld_fld_ne]; rfl

theorem treRefused_shows (s : State) : ((seqs [raise Fld.TRE_NODE_STATUS.REFUSED, clear Fld.TRE_NODE_STATUS.DONE]).run s).NodeStatus false := by
  constructor
  all_goals simp (disch := decide) only [run_treRefused, State.bit, fld_fld_same, fld_fld_ne]; rfl

/-- A command that the entry takes shows DONE after what it does. -/
theorem treCommand_done {action : Nat} {s u : State} {l : List (Field × Nat)}
    (hrun : ∀ onDone onRefused : Prog, (nodeCommand action (s.fld Fld.TRE_NODE_INDEX.INDEX) (fun k => tget 0 s.tree.staged k) onDone onRefused).run
      s.quiet = onDone.run u)
    (hu : keepsBut l s u) (hdone : (Fld.TRE_NODE_STATUS.DONE, 0) ∈ l) (hrefused : (Fld.TRE_NODE_STATUS.REFUSED, 0) ∈ l) :
    ∃ t, finish (treCommand action) s = .next t ∧ t.tree = u.tree ∧ t.NodeStatus true ∧ keepsBut l s t := by
  refine finish_next (P := fun t => t.tree = u.tree ∧ t.NodeStatus true ∧ keepsBut l s t) ?_
  rw [treCommand, run_read]
  simp only [quiet_fld, quiet_tree, hrun]
  refine ⟨?_, treDone_shows u, ?_⟩
  · rw [run_treDone, tree_fld, tree_fld]
  · rw [run_treDone]
    exact (hu.fld hdone _).fld hrefused _

/-- A command that the entry does not take shows REFUSED and does nothing else. -/
theorem treCommand_refused {action : Nat} {s : State}
    (hrun : ∀ onDone onRefused : Prog, (nodeCommand action (s.fld Fld.TRE_NODE_INDEX.INDEX) (fun k => tget 0 s.tree.staged k) onDone onRefused).run
      s.quiet = onRefused.run s.quiet) :
    ∃ t, finish (treCommand action) s = .next t ∧ t.bit Fld.TRE_NODE_STATUS.REFUSED = true ∧ t.bit Fld.TRE_NODE_STATUS.DONE = false ∧
      t.tree = s.tree ∧ keepsBut [(Fld.TRE_NODE_STATUS.DONE, 0), (Fld.TRE_NODE_STATUS.REFUSED, 0)] s t := by
  refine finish_next (P := fun t => t.bit Fld.TRE_NODE_STATUS.REFUSED = true ∧ t.bit Fld.TRE_NODE_STATUS.DONE = false ∧ t.tree = s.tree ∧
    keepsBut [(Fld.TRE_NODE_STATUS.DONE, 0), (Fld.TRE_NODE_STATUS.REFUSED, 0)] s t) ?_
  rw [treCommand, run_read]
  simp only [quiet_fld, quiet_tree, hrun]
  obtain ⟨hdone, hrefused⟩ := treRefused_shows s.quiet
  refine ⟨hrefused, hdone, ?_, ?_⟩
  · rw [run_treRefused, tree_fld, tree_fld, quiet_tree]
  · rw [run_treRefused]
    exact ((keepsBut_quiet _ s).fld (by simp) _).fld (by simp) _

/-- A word of an entry has 32 bits (Table 04-12). -/
theorem NodeEntry.word_lt (e : NodeEntry) (k : Nat) : e.word k < 2 ^ 32 := by
  have hcode : e.state.code ≤ 6 := by cases e.state <;> decide
  have hflag (x : Bool) : (if x then 1 else 0) ≤ 1 := by cases x <;> decide
  have hlegacy := hflag e.legacy
  have htemplate := hflag e.template
  have hhub := hflag e.hub
  unfold NodeEntry.word
  dsimp only
  split_ifs <;> omega

/-- The snapshot takes the four words, or 0 at entry 4,095 (R137). -/
theorem treSnapshot_words (s : State) {k : Nat} (hk : k < 4) : (treSnapshot.run s).fld Fld.TRE_NODE_DATA.DATA k =
    if s.fld Fld.TRE_NODE_INDEX.INDEX = 4095 then 0 else (s.node (s.fld Fld.TRE_NODE_INDEX.INDEX)).word k := by
  have hfits (e : NodeEntry) (i : Nat) : (if s.fld Fld.TRE_NODE_INDEX.INDEX = 4095 then 0 else e.word i) % 2 ^ Fld.TRE_NODE_DATA.DATA.w =
      if s.fld Fld.TRE_NODE_INDEX.INDEX = 4095 then 0 else e.word i := by
    refine Nat.mod_eq_of_lt ?_
    have hword := e.word_lt i
    split_ifs
    · decide
    · exact hword
  have hrange : List.range 4 = [0, 1, 2, 3] := rfl
  rw [treSnapshot, run_read, hrange]
  simp only [run_forP_cons, run_forP_nil, run_putN]
  interval_cases k
  all_goals
    simp (disch := decide) only [fld_fld_same, fld_fld_elem]
    exact hfits _ _

theorem treSnapshot_keeps (s : State) : keepsBut [(Fld.TRE_NODE_DATA.DATA, 0), (Fld.TRE_NODE_DATA.DATA, 1), (Fld.TRE_NODE_DATA.DATA, 2),
    (Fld.TRE_NODE_DATA.DATA, 3)] s (treSnapshot.run s) := by
  have hrange : List.range 4 = [0, 1, 2, 3] := rfl
  rw [treSnapshot, run_read, hrange]
  simp only [run_forP_cons, run_forP_nil, run_putN]
  exact (((keepsBut_fld (by simp) _ s).fld (by simp) _).fld (by simp) _).fld (by simp) _

/-- Settles O30: each command by what `nodeCommand` does with the entry, taken or refused, and the snapshot by its four writes. -/
theorem nodeTableCommandsActOrAreRefused : Obligations.NodeTableCommandsActOrAreRefused := by
  unfold Obligations.NodeTableCommandsActOrAreRefused
  refine ⟨?write, ?writeRefused, ?forget, ?forgetRefused, ?quarantine, ?quarantineRefused, ?release, ?releaseRefused, ?snapshot⟩
  case write =>
    rintro _ s rfl hlow hhigh hstate hword
    obtain ⟨t, ht, htree, ⟨hdone, hrefused⟩, hkeeps⟩ := treCommand_done (l := [(Fld.TRE_NODE_STATUS.DONE, 0), (Fld.TRE_NODE_STATUS.REFUSED, 0),
      (Fld.TRE_COUNT.ABSENT, 0), (Fld.TRE_COUNT.PRESENT, 0)]) (s := s) (fun _ _ => run_nodeCommand_write hlow hhigh hstate hword)
      (modNode_keeps _ _ (by simp) (by simp) s.quiet) (by simp) (by simp)
    exact ⟨t, ht, (node_congr htree _).trans (node_modNode_same hlow hhigh _ _), hdone, hrefused, hkeeps⟩
  case writeRefused =>
    rintro _ s rfl h
    exact treCommand_refused fun _ _ => run_nodeCommand_write_refused h
  case forget =>
    rintro _ s rfl hlow hhigh hstate
    obtain ⟨t, ht, htree, ⟨hdone, hrefused⟩, hkeeps⟩ := treCommand_done (l := [(Fld.TRE_NODE_STATUS.DONE, 0), (Fld.TRE_NODE_STATUS.REFUSED, 0),
      (Fld.TRE_COUNT.ABSENT, 0), (Fld.TRE_COUNT.PRESENT, 0)]) (s := s) (fun _ _ => run_nodeCommand_forget hlow hhigh hstate)
      (modNode_keeps _ _ (by simp) (by simp) s.quiet) (by simp) (by simp)
    exact ⟨t, ht, (node_congr htree _).trans (node_modNode_same hlow hhigh _ _), hdone, hrefused, hkeeps⟩
  case forgetRefused =>
    rintro _ s rfl h
    exact treCommand_refused fun _ _ => run_nodeCommand_refused (by decide) h
  case quarantine =>
    rintro _ s rfl hlow hhigh hstate
    obtain ⟨t, ht, htree, ⟨hdone, hrefused⟩, hkeeps⟩ := treCommand_done (l := [(Fld.TRE_NODE_STATUS.DONE, 0), (Fld.TRE_NODE_STATUS.REFUSED, 0)])
      (s := s) (fun _ _ => run_nodeCommand_quarantine hlow hhigh hstate) (keepsBut_of_regs rfl) (by simp) (by simp)
    refine ⟨t, ht, (congrArg TreeUnit.nodes htree).trans rfl, ?_, hdone, hrefused, hkeeps⟩
    rw [State.nrec, htree]
    exact congrArg NodeRec.quarantine (nrec_modRec_same _ _ s.quiet)
  case quarantineRefused =>
    rintro _ s rfl h
    exact treCommand_refused fun _ _ => run_nodeCommand_refused (by decide) (by simpa [NodeState.takes] using h)
  case release =>
    rintro _ s rfl hlow hhigh hstate
    obtain ⟨t, ht, htree, ⟨hdone, hrefused⟩, hkeeps⟩ := treCommand_done (l := [(Fld.TRE_NODE_STATUS.DONE, 0), (Fld.TRE_NODE_STATUS.REFUSED, 0)])
      (s := s) (fun _ _ => run_nodeCommand_release hlow hhigh hstate) (keepsBut_of_regs rfl) (by simp) (by simp)
    refine ⟨t, ht, (congrArg TreeUnit.nodes htree).trans rfl, ?_, hdone, hrefused, hkeeps⟩
    rw [State.nrec, htree]
    exact congrArg NodeRec.release (nrec_modRec_same _ _ s.quiet)
  case releaseRefused =>
    rintro _ s rfl h
    exact treCommand_refused fun _ _ => run_nodeCommand_refused (by decide) h
  case snapshot =>
    exact fun s => ⟨treSnapshot.run s.quiet, rfl, fun k hk => treSnapshot_words s.quiet hk, treSnapshot_keeps s.quiet⟩

end Sys2Proof.Machine

/-! SUPPORT. What the statements of commands that return data are proved with: a completion that follows a write of the command's data (R292, R306),
and what a completion that is dropped leaves of host memory (R304, R336). -/

namespace Sys2Proof.Machine

/-! ### What a completion depends on -/

/-- What a program leaves of all that a completion depends on: the queue manager, the functions, and of the table of instances the binding, whether pages
are logged and the bound on held entries. -/
structure State.CompletionKept (s t : State) : Prop where
  q : t.q = s.q
  fns : t.fns = s.fns
  qm : ∀ (f : Field) (n : Nat), blockOf f.row = 7 → t.fld f n = s.fld f n
  ins : ∀ f ∈ [Fld.INS_BIND.FUNCTION, Fld.INS_LOG_CFG.RUNNING, Fld.INS_SHARE_HOLD.HOLD_MAX], ∀ n, t.fld f n = s.fld f n

theorem QueueKept.completionKept {s t : State} (h : QueueKept s t) : s.CompletionKept t where
  q := h.q
  fns := h.fns
  qm := h.qm
  ins := by
    have hblock : ∀ f ∈ [Fld.INS_BIND.FUNCTION, Fld.INS_LOG_CFG.RUNNING, Fld.INS_SHARE_HOLD.HOLD_MAX], blockOf f.row = 8 := by decide
    exact fun f hf n => h.ins f n (hblock f hf)

namespace State.CompletionKept
variable {s t : State}

theorem refl (s : State) : s.CompletionKept s := ⟨rfl, rfl, fun _ _ _ => rfl, fun _ _ _ => rfl⟩

theorem cmd (h : s.CompletionKept t) (tag : Nat) : t.cmd tag = s.cmd tag := by rw [State.cmd, h.q, State.cmd]

theorem insFn (h : s.CompletionKept t) (i : Nat) : t.insFn i = s.insFn i := h.ins Fld.INS_BIND.FUNCTION (by simp) i

theorem holdMax (h : s.CompletionKept t) (i : Nat) : t.holdMax i = s.holdMax i := by
  rw [State.holdMax, h.ins Fld.INS_SHARE_HOLD.HOLD_MAX (by simp), State.holdMax]

theorem cqOf (h : s.CompletionKept t) (i q : Nat) : t.cqOf i q = s.cqOf i q := by
  simp only [State.cqOf, h.q, h.qm Fld.QM_CQ_CFG.OWNER _ (by decide), h.qm Fld.QM_CQ_CFG.Q _ (by decide),
    h.qm Fld.QM_CQ_STATUS.FUNC_STATE _ (by decide)]

theorem cqSize (h : s.CompletionKept t) (q : Nat) : t.cqSize q = s.cqSize q := by
  rw [State.cqSize, h.qm Fld.QM_CQ_CFG.SIZE_LOG _ (by decide), State.cqSize]

theorem cqBase (h : s.CompletionKept t) (q : Nat) : t.cqBase q = s.cqBase q := by
  rw [State.cqBase, h.qm Fld.QM_CQ_BASE_HI.BASE_HI _ (by decide), h.qm Fld.QM_CQ_BASE_LO.BASE_LO _ (by decide), State.cqBase]

theorem cqOpen (h : s.CompletionKept t) (q : Nat) : t.cqOpen q = s.cqOpen q := by
  simp only [State.cqOpen, State.cqCount, State.heldFor, h.cqSize, h.q, h.qm Fld.QM_CQ_STATUS.FUNC_STATE _ (by decide),
    h.qm Fld.QM_CQ_INDICES.TAIL _ (by decide), h.qm Fld.QM_CQ_INDICES.HEAD _ (by decide)]

theorem takesCompletion (h : s.CompletionKept t) (c : Cmd) : t.takesCompletion c = s.takesCompletion c := by
  simp only [State.takesCompletion, State.holdRoom, State.heldFor, State.heldOf, h.holdMax, h.cqOf, h.cqOpen, h.q,
    h.qm Fld.QM_SQ_CFG.CQ _ (by decide), h.qm Fld.QM_CQ_CFG.OWNER _ (by decide)] <;> rfl

theorem straight (h : s.CompletionKept t) (c : Cmd) (q : Nat) : t.straight c q = s.straight c q := by
  simp only [State.straight, State.canIssue, State.fn, State.bit, h.insFn, h.cqOpen, h.q, h.fns, h.qm Fld.QM_CQ_CFG.OWNER _ (by decide),
    h.ins Fld.INS_LOG_CFG.RUNNING (by simp)]

theorem reports (h : s.CompletionKept t) (u : State) (c : Cmd) (status result aux : Nat) :
    t.reports u c status result aux = s.reports u c status result aux := by
  simp only [State.reports, h.cqOf, h.cqBase, h.cqSize, h.straight, h.qm Fld.QM_SQ_CFG.CQ _ (by decide), h.qm Fld.QM_SQ_CFG.Q _ (by decide),
    h.qm Fld.QM_CQ_INDICES.TAIL _ (by decide)]

/-- A command that is completed after a program that leaves what its completion depends on is gone, and reported as it was to be. -/
theorem completes (h : s.CompletionKept t) {tag : Nat} {c : Cmd} (hcmd : s.cmd tag = some c) (htakes : s.takesCompletion c = true) (status : Nat) :
    ((complete tag status).run t).cmd tag = none ∧ s.reports ((complete tag status).run t) c status = true := by
  have hcmd' : t.cmd tag = some c := (h.cmd tag).trans hcmd
  exact ⟨complete_frees tag status 0 0 t c hcmd' ((h.takesCompletion c).trans htakes),
    (h.reports _ c status 0 0).symm.trans (complete_reports tag status 0 0 t c hcmd')⟩

end State.CompletionKept

theorem complete_tree (tag status : Nat) (s : State) : ((complete tag status).run s).tree = s.tree :=
  run_tree (complete_within (pm := 0x7540580) (by decide) _ _ _ _) (by decide) s

/-! ### A write for one of the instances (R340, R341) -/

/-- The fields of the table of instances that logging a page writes. -/
def loggingRows : List Nat := [Fld.INS_LOG_CFG.LOST.row, Fld.INS_LOG_CFG.UNLOGGED.row, Fld.INS_EVENT.LOG_LOST.row]

theorem hostWriteAs_insFld {f : Field} (hf : blockOf f.row = 8) (fn addr : Nat) (pasid : Option Nat) (bs : List Byte) (n : Nat) (s : State) :
    ((hostWriteAs fn pasid addr bs).run s).fld f n = s.fld f n :=
  run_fld (hostWriteAs_within (pm := 0x540000) (by decide) _ _ _ _) (by decide) f n (by rw [hf]; decide) s

section
variable {f : Field} (hf : blockOf f.row = 8) (hrow : f.row ∉ loggingRows)
include hf hrow

theorem logPage_insFld (i path page : Nat) (pasid : Bool) (n : Nat) (s : State) : ((logPage i path pasid page).run s).fld f n = s.fld f n := by
  simp only [loggingRows, List.mem_cons, List.not_mem_nil, or_false, not_or] at hrow
  obtain ⟨hlost, hunlogged, hevent⟩ := hrow
  have hcause (u : State) : ((errCause Fld.HIC_ERR_CAUSE.LOG_LOST i).run u).fld f n = u.fld f n :=
    run_fld (errCause_within (pm := 0x4400400) (by decide) _ _ (by decide)) (by decide) f n (by rw [hf]; decide) u
  have hunit (g : InsUnit → InsUnit) (u : State) : ((modIns g).run u).fld f n = u.fld f n := rfl
  rw [logPage, run_read]
  simp only [run_ite, run_skip, run_cons, run_nil, run_raise, run_countUp]
  split_ifs
  · rfl
  · rfl
  · rfl
  · rw [fld_fld_ne hunlogged, hcause, fld_fld_ne hevent, fld_fld_ne hlost]
  all_goals rw [hunit, hostWriteAs_insFld hf]

/-- A write for one of the instances leaves their table but for what logging its pages shows. -/
theorem insWrite_insFld (i path addr : Nat) (pasid : Option Nat) (bs : List Byte) (n : Nat) (s : State) :
    ((insWrite i path pasid addr bs).run s).fld f n = s.fld f n := by
  have hpages (l : List Nat) (b : Bool) (u : State) : ((forP l (logPage i path b)).run u).fld f n = u.fld f n :=
    run_forP_keeps (fun a b => b.fld f n = a.fld f n) (fun _ => rfl) (fun _ _ _ hab hbc => hbc.trans hab) l _
      (fun page _ u => logPage_insFld hf hrow i path page b n u) u
  have hunlogged : f.row ≠ Fld.INS_LOG_CFG.UNLOGGED.row := fun h => hrow (by simp [loggingRows, h])
  rw [insWrite, run_read, run_cons, run_cons, run_nil, hostWriteAs_insFld hf, run_ite]
  split_ifs
  · rw [run_countUp, fld_fld_ne hunlogged]
  · exact hpages _ _ s

end

/-- A write for one of the instances leaves what completions depend on. -/
theorem insWrite_completionKept (i path addr : Nat) (pasid : Option Nat) (bs : List Byte) (s : State) :
    s.CompletionKept ((insWrite i path pasid addr bs).run s) where
  q := run_q (insWrite_within (pm := 0x6540500) (by decide) _ _ _ _ _) (by decide) s
  fns := (run_same_unit .functions (by decide) (by decide) _ (insWrite_within (pm := 0x6540500) (by decide) _ _ _ _ _) s).symm
  qm := fun f n h => run_fld (insWrite_within (pm := 0x6540500) (by decide) _ _ _ _ _) (by decide) f n (by rw [h]; decide) s
  ins := by
    have hother : ∀ f ∈ [Fld.INS_BIND.FUNCTION, Fld.INS_LOG_CFG.RUNNING, Fld.INS_SHARE_HOLD.HOLD_MAX],
        blockOf f.row = 8 ∧ f.row ∉ loggingRows := by decide
    exact fun f h n => insWrite_insFld (hother f h).1 (hother f h).2 _ _ _ _ _ n s

theorem insWrite_tree (i path addr : Nat) (pasid : Option Nat) (bs : List Byte) (s : State) :
    ((insWrite i path pasid addr bs).run s).tree = s.tree :=
  run_tree (insWrite_within (pm := 0x6540500) (by decide) _ _ _ _ _) (by decide) s

/-! ### A completion that is dropped (R304, R336) -/

theorem freeTag_host (tag : Nat) (s : State) : ((freeTag tag).run s).host = s.host :=
  run_host (freeTag_within (pm := 0x1000080) (by decide) _) (by decide) s

/-- A completion that is dropped only frees its tag. -/
theorem complete_dropped {tag : Nat} {s : State} {c : Cmd} (hcmd : s.cmd tag = some c) (hdropped : s.dropped c = true) (status : Nat) :
    (complete tag status).run s = (freeTag tag).run s := by
  simp only [State.dropped, Bool.and_eq_true, Bool.or_eq_true, Bool.not_eq_true', Option.isNone_iff_eq_none] at hdropped
  obtain ⟨hgone, hidle⟩ := hdropped
  have hone : (completeOne tag status 0 0).run s = (freeTag tag).run s := by
    simp only [completeOne, run_read, hcmd]
    rcases hgone with hforced | hnone
    · rw [if_pos hforced]
    · rw [run_ite]
      split
      · rfl
      · simp only [deliver, run_read, hcmd, hnone]
  rw [complete, run_seq, hone, wakeIdle_none (freeTag_idleWaits tag hidle)]

/-- Whether a completion is dropped depends on what completions depend on. -/
theorem State.CompletionKept.dropped {s t : State} (h : s.CompletionKept t) (c : Cmd) : t.dropped c = s.dropped c := by
  simp only [State.dropped, h.cqOf, h.q, h.qm Fld.QM_SQ_CFG.CQ _ (by decide)]

/-! ### Commands that return data (R292, R306) -/

section
variable {tag addr : Nat} {c : Cmd} {bs : List Byte} {s : State}

theorem run_writeData (hissue : s.canIssue (s.insFn c.ins) = true) :
    (writeData tag c addr bs).run s = (complete tag St.success).run ((insWrite c.ins 0 (s.queuePasid c.ins) addr bs).run s) := by
  rw [writeData, run_read, hissue, Bool.not_true]
  rfl

/-- A command that returns data is gone, and reported a success. -/
theorem writeData_completes (hcmd : s.cmd tag = some c) (hissue : s.canIssue (s.insFn c.ins) = true) (htakes : s.takesCompletion c = true) :
    ((writeData tag c addr bs).run s).cmd tag = none ∧ s.reports ((writeData tag c addr bs).run s) c St.success = true := by
  rw [run_writeData hissue]
  exact (insWrite_completionKept _ _ _ _ _ _).completes hcmd htakes St.success

/-- Where the completion is dropped and no page is logged, the data is all that host memory takes. -/
theorem writeData_host (hcmd : s.cmd tag = some c) (hissue : s.canIssue (s.insFn c.ins) = true) (hdropped : s.dropped c = true)
    (hlog : s.bit Fld.INS_LOG_CFG.RUNNING c.ins = false) :
    ((writeData tag c addr bs).run s).host = writeBytes memDefault s.host addr bs := by
  have hkept := insWrite_completionKept c.ins 0 addr (s.queuePasid c.ins) bs s
  rw [run_writeData hissue, complete_dropped ((hkept.cmd tag).trans hcmd) ((hkept.dropped c).trans hdropped), freeTag_host, insWrite_host hlog]

theorem writeData_tree (hissue : s.canIssue (s.insFn c.ins) = true) : ((writeData tag c addr bs).run s).tree = s.tree := by
  rw [run_writeData hissue, complete_tree, insWrite_tree]

end

/-- Memory outside the bytes written reads as before. -/
theorem hostKept_of_writeBytes {addr : Nat} {bs : List Byte} {s t : State} (h : t.host = writeBytes memDefault s.host addr bs) :
    hostKept addr bs.length s t := fun a ha => by
  rw [h]; exact get_writeBytes_outside _ _ _ _ ha

end Sys2Proof.Machine

/-! SUPPORT. What queueing failed locations again does (R120), and the proof of the statement of NODE_OP (file 04; Machine/Tree.lean). -/

namespace Sys2Proof.Machine

/-! ### Failed locations queued again (R120) -/

/-- A tree with its failed locations queued again. -/
def EnumTree.requeued (t : EnumTree) : EnumTree := { t with queue := t.queue ++ t.failed, failed := [] }

/-- One port's failed locations are queued again. -/
def requeue (p : Nat) : Prog := seqs [modTreeOf p EnumTree.requeued, refreshFailed p]

theorem enumRetry_eq (mask : Nat) : enumRetry mask = forP ((List.range 16).filter (bitAt mask)) requeue := rfl

theorem refreshFailed_tree (p : Nat) (s : State) : ((refreshFailed p).run s).tree = s.tree :=
  run_tree (refreshFailed_within (pm := 0x4) (by decide) p) (by decide) s

theorem treeOf_congr {s t : State} (h : t.tree = s.tree) (p : Nat) : t.treeOf p = s.treeOf p := by rw [State.treeOf, h, State.treeOf]

@[simp] theorem treeOf_modTreeOf_same (p : Nat) (f : EnumTree → EnumTree) (s : State) : ((modTreeOf p f).run s).treeOf p = f (s.treeOf p) := by
  simp only [modTreeOf, modTree, run_eff, State.treeOf, apply_tree, tget, tset, Sparse.get_set_same]

theorem treeOf_modTreeOf_ne {p k : Nat} (h : k ≠ p) (f : EnumTree → EnumTree) (s : State) : ((modTreeOf p f).run s).treeOf k = s.treeOf k := by
  simp only [modTreeOf, modTree, run_eff, State.treeOf, apply_tree, tget, tset]
  exact Sparse.get_set_ne _ _ _ h

theorem requeue_treeOf (p k : Nat) (s : State) : ((requeue p).run s).treeOf k = if k = p then (s.treeOf k).requeued else s.treeOf k := by
  rw [requeue, run_cons, run_cons, run_nil, treeOf_congr (refreshFailed_tree _ _)]
  split
  next h => rw [h, treeOf_modTreeOf_same]
  next h => exact treeOf_modTreeOf_ne h _ _

theorem forP_requeue_treeOf {l : List Nat} (hl : l.Nodup) (k : Nat) (s : State) :
    ((forP l requeue).run s).treeOf k = if k ∈ l then (s.treeOf k).requeued else s.treeOf k := by
  induction l generalizing s with
  | nil => rw [if_neg (List.not_mem_nil), run_forP_nil]
  | cons p rest ih =>
    obtain ⟨hp, hrest⟩ := List.nodup_cons.mp hl
    rw [run_forP_cons, ih hrest, requeue_treeOf]
    by_cases hk : k = p
    · subst hk
      rw [if_neg hp, if_pos rfl, if_pos (List.mem_cons_self)]
    · simp only [List.mem_cons, hk, false_or, if_false]

/-- The trees of the ports of the mask have their failed locations queued again; the others are as they were. -/
theorem enumRetry_treeOf (mask : Nat) {p : Nat} (hp : p < 16) (s : State) :
    ((enumRetry mask).run s).treeOf p = if bitAt mask p = true then (s.treeOf p).requeued else s.treeOf p := by
  have hmem : p ∈ (List.range 16).filter (bitAt mask) ↔ bitAt mask p = true := by simp [hp]
  rw [enumRetry_eq, forP_requeue_treeOf (List.nodup_range.filter _)]
  simp only [hmem]

/-! ### NODE_OP (R134, R306) -/

theorem withAction_run {tag op off action : Nat} {k : Cmd → Prog} {s : State} {c : Cmd} (h : s.startable tag op = some c)
    (haction : c.at off 1 = action) : (withAction tag op off action k).run s = (k c).run s := by
  rw [withAction, withCmd_run h, run_whenP, haction, if_pos (beq_self_eq_true _)]

section
variable {tag action : Nat} {s u : State} {c : Cmd} (hstart : s.startable tag 0x13 = some c) (haction : c.at 4 1 = action)
  (htakes : s.takesCompletion c = true)
include hstart haction htakes

/-- A NODE_OP whose command on the entry goes on from a state completes there. -/
theorem nodeOp_next {status : Nat} (hrun : (nodeCommand action (c.at 8 2) (fun k => c.at (16 + 4 * k) 4) (complete tag St.success)
      (complete tag St.badEntry)).run s.quiet = (complete tag status).run u) (hkept : s.quiet.CompletionKept u) :
    ∃ t, finish (nodeOp tag action) s = .next t ∧ t.cmd tag = none ∧ s.reports t c status = true ∧ t.tree = u.tree := by
  refine finish_next (P := fun t => t.cmd tag = none ∧ s.reports t c status = true ∧ t.tree = u.tree) ?_
  rw [nodeOp, withAction_run (s := s.quiet) hstart haction, hrun]
  obtain ⟨hgone, hreports⟩ := hkept.completes (startable_cmd hstart) htakes status
  exact ⟨hgone, hreports, complete_tree _ _ _⟩

/-- A NODE_OP that the entry does not take completes BAD_ENTRY. -/
theorem nodeOp_refused (hrun : ∀ onDone onRefused : Prog, (nodeCommand action (c.at 8 2) (fun k => c.at (16 + 4 * k) 4) onDone onRefused).run
      s.quiet = onRefused.run s.quiet) :
    ∃ t, finish (nodeOp tag action) s = .next t ∧ t.cmd tag = none ∧ s.reports t c St.badEntry = true ∧ t.tree = s.tree :=
  nodeOp_next (u := s.quiet) hstart haction htakes (hrun _ _) (.refl s.quiet)

end

theorem modNode_completionKept (a : Nat) (f : NodeEntry → NodeEntry) (s : State) : s.CompletionKept ((modNode a f).run s) :=
  (queueKept_within (modNode_within (pm := 0x20040000004) (by decide) a f) (by decide) (by decide) (by decide) (by decide) (by decide)
    s).completionKept

theorem modRec_completionKept (a : Nat) (f : NodeRec → NodeRec) (s : State) : s.CompletionKept ((modRec a f).run s) :=
  (queueKept_within (modRec_within (pm := 0x40000000) (by decide) a f) (by decide) (by decide) (by decide) (by decide) (by decide)
    s).completionKept

/-- The bytes that READ returns: the four words of an entry, or 0 at entry 4,095 (R133). -/
def State.entryBytes (s : State) (a : Nat) : List Byte := (List.range 4).flatMap fun k => toBytes (if a = 4095 then 0 else (s.node a).word k) 4

theorem entryBytes_length (s : State) (a : Nat) : (s.entryBytes a).length = 16 := by simp [State.entryBytes, List.range, List.range.loop, toBytes]

/-- READ writes the 16 bytes of the entry and completes (R133, R306). -/
theorem nodeOpRead_returns {tag : Nat} {s : State} {c : Cmd} (hstart : s.startable tag 0x13 = some c) (haction : c.at 4 1 = 4)
    (hissue : s.canIssue (s.insFn c.ins) = true) (htakes : s.takesCompletion c = true) : ∃ t, exec (.nodeOpRead tag) s = .next t ∧
      t.cmd tag = none ∧ s.reports t c St.success = true ∧ (s.dropped c = true → s.bit Fld.INS_LOG_CFG.RUNNING c.ins = false →
        readBytes memDefault t.host (c.at 40 8) 16 = s.entryBytes (c.at 8 2) ∧ hostKept (c.at 40 8) 16 s t) ∧ t.tree = s.tree := by
  have hcmd : s.quiet.cmd tag = some c := startable_cmd hstart
  have hexec : exec (.nodeOpRead tag) s = .next ((writeData tag c (c.at 40 8) (s.entryBytes (c.at 8 2))).run s.quiet) :=
    congrArg Host.Outcome.next (withAction_run (s := s.quiet) hstart haction)
  obtain ⟨hgone, hreports⟩ := writeData_completes (addr := c.at 40 8) (bs := s.entryBytes (c.at 8 2)) hcmd hissue htakes
  refine ⟨_, hexec, hgone, hreports, fun hdropped hlog => ?_, writeData_tree hissue⟩
  have hhost := writeData_host (addr := c.at 40 8) (bs := s.entryBytes (c.at 8 2)) hcmd hissue hdropped hlog
  rw [← entryBytes_length s (c.at 8 2)]
  refine ⟨?_, hostKept_of_writeBytes (s := s.quiet) hhost⟩
  rw [hhost]
  exact readBytes_writeBytes _ _ _

/-- ENUM_RETRY queues the failed locations of the mask again and completes (R120). -/
theorem nodeOpEnumRetry_requeues {tag : Nat} {s : State} {c : Cmd} (hstart : s.startable tag 0x13 = some c) (haction : c.at 4 1 = 5)
    (htakes : s.takesCompletion c = true) : ∃ t, exec (.nodeOpEnumRetry tag) s = .next t ∧ t.cmd tag = none ∧ s.reports t c St.success = true ∧
      ∀ p < 16, bitAt (c.at 8 2) p = true → (t.treeOf p).queue = (s.treeOf p).queue ++ (s.treeOf p).failed ∧ (t.treeOf p).failed = [] := by
  have hexec : exec (.nodeOpEnumRetry tag) s = execNodeOpEnumRetry tag s := rfl
  have hkept : s.quiet.CompletionKept ((enumRetry (c.at 8 2)).run s.quiet) :=
    (queueKept_within (enumRetry_within (pm := 0x40000004) (by decide) _) (by decide) (by decide) (by decide) (by decide) (by decide)
      s.quiet).completionKept
  rw [hexec, execNodeOpEnumRetry]
  refine finish_next (P := fun t => _ ∧ _ ∧ ∀ p < 16, _ → _ ∧ _) ?_
  rw [withAction_run (s := s.quiet) hstart haction, run_cons, run_cons, run_nil]
  obtain ⟨hgone, hreports⟩ := hkept.completes (startable_cmd hstart) htakes St.success
  refine ⟨hgone, hreports, fun p hp hbit => ?_⟩
  rw [treeOf_congr (complete_tree _ _ _), enumRetry_treeOf _ hp, if_pos hbit]
  exact ⟨rfl, rfl⟩

/-- Settles O31: WRITE to RELEASE by what `nodeCommand` does with the entry before the completion, READ by `writeData`, ENUM_RETRY by `enumRetry`. -/
theorem nodeOperationsActOrAreRefused : Obligations.NodeOperationsActOrAreRefused := by
  unfold Obligations.NodeOperationsActOrAreRefused
  refine ⟨?write, ?writeRefused, ?forget, ?forgetRefused, ?quarantine, ?quarantineRefused, ?release, ?releaseRefused,
    fun _ _ _ => nodeOpRead_returns, fun _ _ _ => nodeOpEnumRetry_requeues⟩
  case write =>
    intro tag s c hstart haction hlow hhigh hstate hword htakes
    obtain ⟨t, ht, hgone, hreports, htree⟩ := nodeOp_next hstart haction htakes (run_nodeCommand_write (s := s.quiet) hlow hhigh hstate hword)
      (modNode_completionKept _ _ _)
    exact ⟨t, ht, hgone, hreports, (node_congr htree _).trans (node_modNode_same hlow hhigh _ _)⟩
  case writeRefused =>
    intro tag s c hstart haction h htakes
    exact nodeOp_refused hstart haction htakes fun _ _ => run_nodeCommand_write_refused h
  case forget =>
    intro tag s c hstart haction hlow hhigh hstate htakes
    obtain ⟨t, ht, hgone, hreports, htree⟩ := nodeOp_next hstart haction htakes (run_nodeCommand_forget (s := s.quiet) hlow hhigh hstate)
      (modNode_completionKept _ _ _)
    exact ⟨t, ht, hgone, hreports, (node_congr htree _).trans (node_modNode_same hlow hhigh _ _)⟩
  case forgetRefused =>
    intro tag s c hstart haction h htakes
    exact nodeOp_refused hstart haction htakes fun _ _ => run_nodeCommand_refused (by decide) h
  case quarantine =>
    intro tag s c hstart haction hlow hhigh hstate htakes
    obtain ⟨t, ht, hgone, hreports, htree⟩ := nodeOp_next hstart haction htakes (run_nodeCommand_quarantine (s := s.quiet) hlow hhigh hstate)
      (modRec_completionKept _ _ _)
    refine ⟨t, ht, hgone, hreports, ?_⟩
    rw [State.nrec, htree]
    exact congrArg NodeRec.quarantine (nrec_modRec_same _ _ s.quiet)
  case quarantineRefused =>
    intro tag s c hstart haction h htakes
    exact nodeOp_refused hstart haction htakes fun _ _ => run_nodeCommand_refused (by decide) (by simpa [NodeState.takes] using h)
  case release =>
    intro tag s c hstart haction hlow hhigh hstate htakes
    obtain ⟨t, ht, hgone, hreports, htree⟩ := nodeOp_next hstart haction htakes (run_nodeCommand_release (s := s.quiet) hlow hhigh hstate)
      (modRec_completionKept _ _ _)
    refine ⟨t, ht, hgone, hreports, ?_⟩
    rw [State.nrec, htree]
    exact congrArg NodeRec.release (nrec_modRec_same _ _ s.quiet)
  case releaseRefused =>
    intro tag s c hstart haction h htakes
    exact nodeOp_refused hstart haction htakes fun _ _ => run_nodeCommand_refused (by decide) h

end Sys2Proof.Machine

/-! SUPPORT. The proof of the statement of what a hub forwards and watches (file 04; Machine/Devices.lean). -/

namespace Sys2Proof.Machine

/-! ### What a hub sends -/

/-- A state after outputs are sent. -/
def State.withSent (s : State) (l : List Output) : State := { s with out := s.out ++ l }

theorem withSent_withSent (s : State) (l m : List Output) : (s.withSent l).withSent m = s.withSent (l ++ m) :=
  congrArg (fun o => ({ s with out := o } : State)) (List.append_assoc _ _ _)

theorem withSent_nil (s : State) : s.withSent [] = s := congrArg (fun o => ({ s with out := o } : State)) (List.append_nil _)

/-- Programs that each send one output, which does not depend on what was sent before, send them in order. -/
theorem run_forP_sends {α : Type} {f : α → Prog} {g : State → α → Output} (hf : ∀ x s, (f x).run s = s.withSent [g s x])
    (hg : ∀ s l x, g (s.withSent l) x = g s x) (l : List α) (s : State) : (forP l f).run s = s.withSent (l.map (g s)) := by
  induction l generalizing s with
  | nil => rw [List.map_nil, withSent_nil, run_forP_nil]
  | cons x rest ih =>
    rw [run_forP_cons, hf, ih, withSent_withSent, List.map_cons, List.singleton_append, funext (hg s _)]

/-- The marker that a hub's downstream port carries for one that arrives (R36, R105, R150). -/
def State.markerSent (s : State) (d : Nat) (n : NodeDev) (gen word arrival residence p : Nat) : Output :=
  .hubMarker d p ((OSet.meridian (markerOf gen word).1 (if s.legacyPort d p then 0 else corrUnits (s.endGen (portEnd d p))
    ((markerOf gen word).2.1 + residence)) (if gen = 1 then 0 else bitsAt word 56 2) ((markerOf gen word).2.2.getD 0)).codes (s.endGen (portEnd d p)))
    (if s.legacyPort d p then n.localMerid + 2048 * 65536 else arrival + residence)

theorem run_hubMarker (d p : Nat) (n : NodeDev) (gen word arrival residence : Nat) (s : State) :
    (hubMarker d p n gen word arrival residence).run s = s.withSent [s.markerSent d n gen word arrival residence p] := rfl

/-- The frame that a hub sends on a downstream port (R104, R150). -/
def State.frameSent (s : State) (d : Nat) (at_ : Int) (frame : List Byte) (p : Nat) : Output :=
  .hubFrame d p (s.hubStart d p at_ frame) (padded (s.endGen (portEnd d p)) frame)

theorem run_hubSends (d : Nat) (at_ : Int) (frame : List Byte) (p : Nat) (s : State) :
    (hubSends d at_ frame p).run s = s.withSent [s.frameSent d at_ frame p] := rfl

theorem frameSlots_pos (gen len : Nat) : 0 < frameSlots gen len := by
  have hbytes : 0 < slotBytes gen := by unfold slotBytes; split_ifs <;> decide
  exact Nat.div_pos (by omega) hbytes

theorem meridianTime_pos (gen : Nat) : 0 < setsTime gen (.meridian 0 0 0 0) 1 := by
  unfold setsTime OSet.codes
  split_ifs <;> simp

/-- On a port that does not lead to a legacy node a frame begins when it comes (R104). -/
theorem hubStart_plain {d p : Nat} {s : State} (h : s.legacyPort d p = false) (start : Int) (frame : List Byte) :
    s.hubStart d p start frame = start := by
  have hplain : ¬ s.legacyPort d p = true := by rw [h]; decide
  exact if_neg fun hheld => hplain hheld.1

/-- On a legacy port a frame that comes when the marker is due is held until after it (R150). -/
theorem hubStart_held {d p : Nat} {s : State} (h : s.legacyPort d p = true) (frame : List Byte) :
    s.hubStart d p ((s.dev d).localMerid + 2048 * 65536) frame =
      (s.dev d).localMerid + 2048 * 65536 + 65536 * setsTime (s.endGen (portEnd d p)) (.meridian 0 0 0 0) 1 := by
  have hmarker := meridianTime_pos (s.endGen (portEnd d p))
  have hframe := frameSlots_pos (s.endGen (portEnd d p)) (frame.length - 12)
  exact if_pos ⟨h, by omega, by omega⟩

/-! ### What a hub keeps -/

section
variable {d : Nat} {h : HubState} {s : State}

theorem run_modHub (hhub : (s.dev d).hub = some h) (f : HubState → HubState) :
    (modDev d fun n => n.onHub f).run s = (Eff.dev d { s.dev d with hub := some (f h) }).apply s := by
  rw [run_modDev, onHub_of_some hhub]

/-- A FLAGS bit that was 0 is set, with CHANGE bit 0, and SEQ counts on (R110). -/
theorem flag_new {b v : Nat} (hb : bitAt h.flags b = false) (hv : 2 ^ b = v) :
    h.flag b = { h with flags := h.flags ||| v, change := h.change ||| 1, seq := (h.seq + 1) % 256 } := by
  rw [HubState.flag, hb, ← hv]; rfl

theorem flag_again {b : Nat} (hb : bitAt h.flags b = true) : h.flag b = h := by
  rw [HubState.flag, hb]; rfl

/-- A change of a hub's part is all that a command does: it sends nothing and touches no register. -/
theorem modHub_next (hhub : (s.dev d).hub = some h) (f : HubState → HubState) :
    ∃ t, finish (modDev d fun n => n.onHub f) s = .next t ∧ t.dev d = { s.dev d with hub := some (f h) } ∧ t.out = [] ∧ keepsBut [] s t := by
  refine finish_next (P := fun t => t.dev d = { s.dev d with hub := some (f h) } ∧ t.out = [] ∧ keepsBut [] s t) ?_
  rw [run_modHub (s := s.quiet) hhub]
  exact ⟨dev_dev_same _ _ _, rfl, keepsBut_of_regs rfl⟩

/-- Setting a FLAGS bit that is set already changes nothing. -/
theorem flag_again_dev {b : Nat} (hhub : (s.dev d).hub = some h) (hb : bitAt h.flags b = true) :
    { s.dev d with hub := some (h.flag b) } = s.dev d := by
  rw [flag_again hb, ← hhub]

end

/-! ### Markers (R105, R150, R425) -/

/-- A hub whose active upstream port is the one on which a marker has come. -/
def HubState.marked (h : HubState) (up ns : Nat) : HubState := { h with active := some up, markerAt := ns, dual := h.dual || up == 1 }

section
variable {d up word arrival : Nat} {res : List (Nat × Nat)} {h : HubState} {s : State}

theorem hubMarkerForward_forwards (hhub : (s.dev d).hub = some h) (hup : up ≤ 1) (hlane : (s.lane (32 + 32 * d + 16 * up)).st = 7)
    (hactive : h.active = none ∨ h.active = some up ∨ h.markerAt + 256 < arrival / 65536) :
    ∃ t, exec (.hubMarkerForward d up word arrival res) s = .next t ∧ t.dev d = { s.dev d with hub := some (h.marked up (arrival / 65536)) } ∧
      t.out = h.upPorts.map (fun p => s.markerSent d ((s.dev d).mark (s.endGen (32 + 32 * d + 16 * up)) word arrival)
        (s.endGen (32 + 32 * d + 16 * up)) word arrival (tget 0 res p) p) ∧ keepsBut [] s t := by
  have hexec : exec (.hubMarkerForward d up word arrival res) s = execHubMarkerForward d up word arrival res s := rfl
  have hnow : ((s.lane (32 + 32 * d + 16 * up)).st == 7 && (h.active == none || h.active == some up ||
      decide (h.markerAt + 256 < arrival / 65536))) = true := by simpa [hlane, or_assoc] using hactive
  rw [hexec]
  simp only [execHubMarkerForward, hubOf_of_some hhub, Nat.min_eq_left hup]
  refine whenP_next hnow (finish_next (P := fun t => _ ∧ _ ∧ _) ?_)
  rw [run_cons, run_cons, run_nil, run_modHub (s := s.quiet) hhub,
    run_forP_sends (fun p u => run_hubMarker d p _ _ word arrival (tget 0 res p) u) (fun _ _ _ => rfl)]
  exact ⟨dev_dev_same _ _ _, rfl, keepsBut_of_regs rfl⟩

theorem hubMarkerForward_discards {a : Nat} (hhub : (s.dev d).hub = some h) (hactive : h.active = some a) (hother : a ≠ min up 1)
    (hsoon : arrival / 65536 ≤ h.markerAt + 256) :
    ∃ t, exec (.hubMarkerForward d up word arrival res) s = .next t ∧ t.devs = s.devs ∧ t.out = [] ∧ keepsBut [] s t := by
  have hexec : exec (.hubMarkerForward d up word arrival res) s = execHubMarkerForward d up word arrival res s := rfl
  have hnot : ((s.lane (32 + 32 * d + 16 * min up 1)).st == 7 && (h.active == none || h.active == some (min up 1) ||
      decide (h.markerAt + 256 < arrival / 65536))) = false := by simp [hactive, hother, hsoon]
  rw [hexec]
  simp only [execHubMarkerForward, hubOf_of_some hhub, hnot]
  exact ⟨s.quiet, rfl, rfl, rfl, keepsBut_quiet _ s⟩

end

/-! ### Downstream frames (R104, R107, R425) -/

/-- What a hub forwards of the bytes that come: the frame that its header describes. -/
def forwardedPart (frame : List Byte) : List Byte := frame.take ((Header.ofBytes frame).length + 12)

/-- The ports that a frame to 4,095 goes to. -/
def HubState.openPorts (h : HubState) : List Nat := h.upPorts.filter fun p => (h.port p).state == .addressed || (h.port p).gate

theorem openPorts_eq (h : HubState) : h.openPorts = ((List.range 15).map (· + 1)).filter fun p =>
    (h.port p).state == .addressed || ((h.port p).state == .unaddressed && (h.port p).gate) := by
  rw [HubState.openPorts, HubState.upPorts, List.filter_filter]
  refine List.filter_congr fun p _ => ?_
  cases (h.port p).state <;> simp

section
variable {d up addr arrival residence : Nat} {frame : List Byte} {h : HubState} {s : State}

/-- A hub with its configuration forwards a frame of its active upstream port by the address (Table 04-2). -/
theorem hubDownstreamForward_eq (hconfig : (s.dev d).config ≠ none ∨ (s.dev d).configNext ≠ none) (hhub : (s.dev d).hub = some h)
    (hlane : (s.lane (32 + 32 * d + 16 * min up 1)).st = 7) (hgood : headerGood frame = true) (haddr : (Header.ofBytes frame).addr = addr)
    (hown : addr ≠ (s.dev d).addr) (hzero : addr ≠ 0) (hactive : h.active.getD 0 = min up 1) :
    exec (.hubDownstreamForward d up arrival residence frame) s = finish (
      if addr = 4095 then forP h.openPorts (hubSends d (arrival + residence : Nat) (forwardedPart frame))
      else if tget 0 h.routes addr ≠ 0 ∧ (h.port (tget 0 h.routes addr)).state = .addressed then
        hubSends d (arrival + residence : Nat) (forwardedPart frame) (tget 0 h.routes addr)
      else modDev d fun n => n.onHub fun h => h.flag 1) s := by
  have hexec : exec (.hubDownstreamForward d up arrival residence frame) s = execHubDownstreamForward d up arrival residence frame s := rfl
  have hsome : ((s.dev d).config.isSome || (s.dev d).configNext.isSome) = true := by
    simpa [Option.isSome_iff_ne_none] using hconfig
  have hnow : ((s.lane (32 + 32 * d + 16 * min up 1)).st == 7 && ((s.dev d).config.isSome || (s.dev d).configNext.isSome) && headerGood frame &&
      addr != (s.dev d).addr && addr != 0 && h.active.getD 0 == min up 1) = true := by
    rw [hsome, hgood]; simp [hlane, hown, hzero, hactive]
  rw [hexec]
  simp only [execHubDownstreamForward, hubOf_of_some hhub, haddr, hnow]
  rfl

theorem hubDownstreamForward_all (hconfig : (s.dev d).config ≠ none ∨ (s.dev d).configNext ≠ none) (hhub : (s.dev d).hub = some h)
    (hlane : (s.lane (32 + 32 * d + 16 * min up 1)).st = 7) (hgood : headerGood frame = true) (haddr : (Header.ofBytes frame).addr = 4095)
    (hown : (s.dev d).addr ≠ 4095) (hactive : h.active.getD 0 = min up 1) :
    ∃ t, exec (.hubDownstreamForward d up arrival residence frame) s = .next t ∧ t.devs = s.devs ∧
      t.out = h.openPorts.map (s.frameSent d ((arrival + residence : Nat) : Int) (forwardedPart frame)) ∧ keepsBut [] s t := by
  rw [hubDownstreamForward_eq hconfig hhub hlane hgood haddr hown.symm (by decide) hactive, if_pos rfl]
  refine finish_next (P := fun t => _ ∧ _ ∧ _) ?_
  rw [run_forP_sends (fun p u => run_hubSends d _ _ p u) (fun _ _ _ => rfl)]
  exact ⟨rfl, rfl, keepsBut_of_regs rfl⟩

theorem hubDownstreamForward_routed {p : Nat} (hconfig : (s.dev d).config ≠ none ∨ (s.dev d).configNext ≠ none) (hhub : (s.dev d).hub = some h)
    (hlane : (s.lane (32 + 32 * d + 16 * min up 1)).st = 7) (hgood : headerGood frame = true) (haddr : (Header.ofBytes frame).addr = addr)
    (hown : addr ≠ (s.dev d).addr) (hzero : addr ≠ 0) (hall : addr ≠ 4095) (hactive : h.active.getD 0 = min up 1)
    (hroute : tget 0 h.routes addr = p) (hport : p ≠ 0) (hstate : (h.port p).state = .addressed) :
    ∃ t, exec (.hubDownstreamForward d up arrival residence frame) s = .next t ∧ t.devs = s.devs ∧
      t.out = [s.frameSent d ((arrival + residence : Nat) : Int) (forwardedPart frame) p] ∧ keepsBut [] s t := by
  subst hroute
  rw [hubDownstreamForward_eq hconfig hhub hlane hgood haddr hown hzero hactive, if_neg hall, if_pos ⟨hport, hstate⟩]
  exact ⟨_, rfl, rfl, rfl, keepsBut_of_regs rfl⟩

theorem hubDownstreamForward_misses (hconfig : (s.dev d).config ≠ none ∨ (s.dev d).configNext ≠ none) (hhub : (s.dev d).hub = some h)
    (hlane : (s.lane (32 + 32 * d + 16 * min up 1)).st = 7) (hgood : headerGood frame = true) (haddr : (Header.ofBytes frame).addr = addr)
    (hown : addr ≠ (s.dev d).addr) (hzero : addr ≠ 0) (hall : addr ≠ 4095) (hactive : h.active.getD 0 = min up 1)
    (hroute : tget 0 h.routes addr = 0) : ∃ t, exec (.hubDownstreamForward d up arrival residence frame) s = .next t ∧
      t.dev d = { s.dev d with hub := some (h.flag 1) } ∧ t.out = [] ∧ keepsBut [] s t := by
  rw [hubDownstreamForward_eq hconfig hhub hlane hgood haddr hown hzero hactive, if_neg hall, if_neg fun hsent => hsent.1 hroute]
  exact modHub_next hhub _

end

/-! ### Upstream frames (R36, R106, R425) -/

section
variable {d p start : Nat} {frame : List Byte} {ties : List Nat} {h : HubState} {s : State}

/-- Whether a frame that leaves upstream at an instant overlaps one that the upstream lane carries (R106). -/
def State.meetsAt (s : State) (d leaves slots : Nat) : Bool :=
  (s.dev d).busy.any fun e => decide (65536 * e.1 < leaves + 32 * 65536 * slots) && decide (leaves < 65536 * e.2)

/-- A frame of a port that is not DOWN is forwarded on every upstream port that is UP, or discarded with COLLISION. -/
theorem hubUpstreamForward_eq (hhub : (s.dev d).hub = some h) (hup : s.upstreamUp d = true) (hport : (h.port p).state ≠ .down) :
    exec (.hubUpstreamForward d p start frame ties) s = finish (
      if s.meetsAt d (start + (h.port p).resUp) (frameSlots (s.upGen d) (frame.length - 12)) ||
          ties.any fun q => decide (q < p) && (h.port q).state != .down then modDev d fun n => n.onHub fun h => h.flag 0
      else seqs [
        forP (s.upPorts d) fun q => emit (.hubFrame d q (start + (h.port p).resUp : Nat) (padded (s.endGen (32 + 32 * d + q)) frame)),
        modDev d fun n => n.occupied s.chr.ns (start + (h.port p).resUp : Nat) (frameSlots (s.upGen d) (frame.length - 12))]) s := by
  have hexec : exec (.hubUpstreamForward d p start frame ties) s = execHubUpstreamForward d p start frame ties s := rfl
  have hnow : (s.upstreamUp d && (h.port p).state != .down) = true := by simp [hup, hport]
  rw [hexec]
  simp only [execHubUpstreamForward, hubOf_of_some hhub, hnow]
  rfl

/-- A frame that meets no other goes out on each upstream port that is UP. -/
theorem hubUpstreamForward_forwards (hhub : (s.dev d).hub = some h) (hup : s.upstreamUp d = true) (hport : (h.port p).state ≠ .down)
    (hfree : ((s.dev d).busy.all fun e => decide (65536 * e.2 ≤ start + (h.port p).resUp)) = true) :
    ∃ t, exec (.hubUpstreamForward d p start frame []) s = .next t ∧ (t.dev d).hub = some h ∧ t.out = (s.upPorts d).map (fun q =>
      .hubFrame d q (start + (h.port p).resUp : Nat) (padded (s.endGen (32 + 32 * d + q)) frame)) ∧ keepsBut [] s t := by
  have hclear : s.meetsAt d (start + (h.port p).resUp) (frameSlots (s.upGen d) (frame.length - 12)) = false := by
    rw [State.meetsAt, List.any_eq_false]
    intro e he
    have hended := of_decide_eq_true (List.all_eq_true.mp hfree e he)
    simp only [Bool.and_eq_true, decide_eq_true_eq, not_and, Nat.not_lt]
    exact fun _ => hended
  rw [hubUpstreamForward_eq hhub hup hport, hclear, List.any_nil, Bool.or_false, if_neg Bool.false_ne_true]
  refine finish_next (P := fun t => _ ∧ _ ∧ _) ?_
  rw [run_cons, run_cons, run_nil, run_forP_sends (g := fun _ q => .hubFrame d q (start + (h.port p).resUp : Nat)
    (padded (s.endGen (32 + 32 * d + q)) frame)) (fun _ _ => rfl) (fun _ _ _ => rfl), run_modDev]
  refine ⟨?_, rfl, keepsBut_of_regs rfl⟩
  rw [dev_dev_same]
  exact hhub

theorem upPorts_single (hhub : (s.dev d).hub = some h) (hdual : h.dual = false) (hlane : (s.lane (32 + 32 * d)).st = 7) : s.upPorts d = [0] := by
  rw [State.upPorts, hubOf_of_some hhub, hdual, if_neg Bool.false_ne_true, if_pos hlane]

theorem upPorts_dual (hhub : (s.dev d).hub = some h) (hdual : h.dual = true) (hlane : (s.lane (32 + 32 * d)).st = 7)
    (hlaneB : (s.lane (32 + 32 * d + 16)).st = 7) : s.upPorts d = [0, 16] := by
  rw [State.upPorts, hubOf_of_some hhub, hdual, if_pos rfl]
  simp [hlane, hlaneB]

theorem upstreamUp_of_lane (hlane : (s.lane (32 + 32 * d)).st = 7) : s.upstreamUp d = true := by simp [State.upstreamUp, hlane]

/-- A frame that would overlap another is discarded (R106). -/
theorem hubUpstreamForward_meets {e : Nat × Nat} (hhub : (s.dev d).hub = some h) (hup : s.upstreamUp d = true) (hport : (h.port p).state ≠ .down)
    (he : e ∈ (s.dev d).busy) (hfrom : 65536 * e.1 ≤ start + (h.port p).resUp) (hto : start + (h.port p).resUp < 65536 * e.2) :
    ∃ t, exec (.hubUpstreamForward d p start frame ties) s = .next t ∧ t.dev d = { s.dev d with hub := some (h.flag 0) } ∧ t.out = [] ∧
      keepsBut [] s t := by
  have hlong := frameSlots_pos (s.upGen d) (frame.length - 12)
  have hmeets : s.meetsAt d (start + (h.port p).resUp) (frameSlots (s.upGen d) (frame.length - 12)) = true := by
    rw [State.meetsAt, List.any_eq_true]
    exact ⟨e, he, Bool.and_eq_true_iff.mpr ⟨decide_eq_true (by omega), decide_eq_true hto⟩⟩
  rw [hubUpstreamForward_eq hhub hup hport, hmeets, Bool.true_or, if_pos rfl]
  exact modHub_next hhub _

/-- Of frames that begin together the lowest port's goes first (R106). -/
theorem hubUpstreamForward_loses {q : Nat} (hhub : (s.dev d).hub = some h) (hup : s.upstreamUp d = true) (hport : (h.port p).state ≠ .down)
    (hother : (h.port q).state ≠ .down) (hlower : q < p) : ∃ t, exec (.hubUpstreamForward d p start frame [q]) s = .next t ∧
      t.dev d = { s.dev d with hub := some (h.flag 0) } ∧ t.out = [] ∧ keepsBut [] s t := by
  have hloses : ([q].any fun q => decide (q < p) && (h.port q).state != .down) = true := by simp [hlower, hother]
  rw [hubUpstreamForward_eq hhub hup hport, hloses, Bool.or_true, if_pos rfl]
  exact modHub_next hhub _

end

/-! ### The links of downstream ports (R36, R42, R108, R149) -/

section
variable {d p t1 t4 turn ns frac resUp : Nat} {h : HubState} {s : State}

theorem hubPortUp_eq (good : Bool) (hlow : 1 ≤ p) (hhigh : p ≤ 15) (hhub : (s.dev d).hub = some h) (hdown : (h.port p).state = .down)
    (hup : s.upstreamUp d = true) (hlink : s.lstate (portEnd d p) = 7) :
    exec (.hubPortUp d p good t1 t4 turn ns frac resUp) s = finish (
      if good then modDev d fun n => n.onHub fun h => (h.setPort p { s.portFixed d p t1 t4 turn ns frac with
        state := .unaddressed, gate := false, resUp := max (65536 * resBound (s.endGen (portEnd d p)) (s.upGen d)) resUp }).changed p
      else seqs [
        modDev d fun n => n.onHub fun x => x.setPort p { h.port p with firstFails := ((h.port p).firstFails + 1) % 3 },
        whenP ((h.port p).firstFails + 1 == 3) (hubRetrain d p)]) s := by
  have hexec : exec (.hubPortUp d p good t1 t4 turn ns frac resUp) s = execHubPortUp d p good t1 t4 turn ns frac resUp s := rfl
  have hnow : (decide (1 ≤ p) && decide (p ≤ 15) && (h.port p).state == .down && s.upstreamUp d && s.lstate (portEnd d p) == Ls.up) = true := by
    simp [hlow, hhigh, hdown, hup, hlink, Ls.up]
  rw [hexec]
  simp only [execHubPortUp, hubOf_of_some hhub, hnow]
  rfl

theorem hubPortUp_good (hlow : 1 ≤ p) (hhigh : p ≤ 15) (hhub : (s.dev d).hub = some h) (hdown : (h.port p).state = .down)
    (hup : s.upstreamUp d = true) (hlink : s.lstate (portEnd d p) = 7) :
    ∃ t, exec (.hubPortUp d p true t1 t4 turn ns frac resUp) s = .next t ∧
      ((t.dev d).hub.map fun x => ((x.port p).state, (x.port p).gate, (x.port p).valid, (x.port p).resUp, x.change, x.seq)) =
        some (.unaddressed, false, true, max (65536 * resBound (s.endGen (portEnd d p)) (s.upGen d)) resUp, h.change ||| 2 ^ p, (h.seq + 1) % 256) ∧
      keepsBut [] s t := by
  rw [hubPortUp_eq true hlow hhigh hhub hdown hup hlink, if_pos rfl]
  obtain ⟨t, ht, hdev, -, hkeeps⟩ := modHub_next hhub fun h => (h.setPort p { s.portFixed d p t1 t4 turn ns frac with
    state := .unaddressed, gate := false, resUp := max (65536 * resBound (s.endGen (portEnd d p)) (s.upGen d)) resUp }).changed p
  refine ⟨t, ht, ?_, hkeeps⟩
  have hset := port_setPort_same h p { s.portFixed d p t1 t4 turn ns frac with
    state := .unaddressed, gate := false, resUp := max (65536 * resBound (s.endGen (portEnd d p)) (s.upGen d)) resUp }
  rw [hdev]
  exact congrArg (fun v : HubPort => some (v.state, v.gate, v.valid, v.resUp, h.change ||| 2 ^ p, (h.seq + 1) % 256)) hset

/-- The third failed first fix in a row retrains the link (R108). -/
theorem hubPortUp_third (hlow : 1 ≤ p) (hhigh : p ≤ 15) (hhub : (s.dev d).hub = some h) (hdown : (h.port p).state = .down)
    (hfails : (h.port p).firstFails = 2) (hup : s.upstreamUp d = true) (hlink : s.lstate (portEnd d p) = 7) :
    ∃ t, exec (.hubPortUp d p false t1 t4 turn ns frac resUp) s = .next t ∧
      ((t.dev d).hub.map fun x => x.port p) = some { h.port p with firstFails := 0 } ∧
      t.out.head? = some (.ordered (portEnd d p) ((List.replicate 8 (OSet.retrain true)).flatMap (OSet.codes (s.endGen (portEnd d p))))) ∧
      keepsBut [] s t := by
  obtain ⟨u, hu⟩ : ∃ u, u = (Eff.dev d { s.dev d with hub := some (h.setPort p { h.port p with firstFails := 0 }) }).apply s.quiet := ⟨_, rfl⟩
  have hdev : u.dev d = { s.dev d with hub := some (h.setPort p { h.port p with firstFails := 0 }) } := by rw [hu, dev_dev_same]
  have hset := port_setPort_same h p { h.port p with firstFails := 0 }
  have hlinkUp : (u.lstate (portEnd d p) == Ls.up) = true := by rw [hu]; exact beq_iff_eq.mpr hlink
  obtain ⟨hregs, hkept, hsent⟩ := fullRetrain_sends (s := u) hlow hhigh (by rw [hdev]) (by rw [hset]; exact hdown) (by rw [hu]; rfl)
  rw [hubPortUp_eq false hlow hhigh hhub hdown hup hlink, if_neg Bool.false_ne_true, hfails]
  refine finish_next (P := fun t => _ ∧ _ ∧ _) ?_
  rw [run_cons, run_cons, run_nil, run_modHub (s := s.quiet) hhub]
  simp only [quiet_dev, Nat.reduceAdd, Nat.reduceMod, ← hu, run_whenP, beq_self_eq_true, if_true, hubRetrain, run_read, hlinkUp]
  refine ⟨?_, ?_, keepsBut_of_regs (hregs.trans (by rw [hu]; rfl))⟩
  · rw [hkept, hdev]
    exact congrArg some hset
  · rw [hsent, hu]; rfl

theorem hubLinkFix_eq (good : Bool) (hhub : (s.dev d).hub = some h) (hactive : (h.port p).state ≠ .down) :
    exec (.hubLinkFix d p good t1 t4 turn ns frac) s = finish (modDev d fun n => n.onHub fun x => x.setPort p
      (if good then s.portFixed d p t1 t4 turn ns frac else { h.port p with fix := { (h.port p).fix with fails := (h.port p).fix.fails + 1 } })) s := by
  have hexec : exec (.hubLinkFix d p good t1 t4 turn ns frac) s = execHubLinkFix d p good t1 t4 turn ns frac s := rfl
  have hnow : ((h.port p).state != .down) = true := by simp [hactive]
  rw [hexec]
  simp only [execHubLinkFix, hubOf_of_some hhub, hnow]
  rfl

theorem hubLinkFix_fails (hhub : (s.dev d).hub = some h) (hactive : (h.port p).state ≠ .down) :
    ∃ t, exec (.hubLinkFix d p false t1 t4 turn ns frac) s = .next t ∧ ((t.dev d).hub.map fun x => x.port p) =
      some { h.port p with fix := { (h.port p).fix with fails := (h.port p).fix.fails + 1 } } ∧ keepsBut [] s t := by
  rw [hubLinkFix_eq false hhub hactive]
  obtain ⟨t, ht, hdev, -, hkeeps⟩ := modHub_next hhub fun x => x.setPort p
    { h.port p with fix := { (h.port p).fix with fails := (h.port p).fix.fails + 1 } }
  refine ⟨t, ht, ?_, hkeeps⟩
  rw [hdev]
  exact congrArg some (port_setPort_same _ _ _)

/-- A good fix is the port's record (R36, R42). -/
theorem hubLinkFix_good (hhub : (s.dev d).hub = some h) (hactive : (h.port p).state ≠ .down) :
    ∃ t, exec (.hubLinkFix d p true t1 t4 turn ns frac) s = .next t ∧
      ((t.dev d).hub.map fun x => x.port p) = some (s.portFixed d p t1 t4 turn ns frac) ∧ keepsBut [] s t := by
  rw [hubLinkFix_eq true hhub hactive]
  obtain ⟨t, ht, hdev, -, hkeeps⟩ := modHub_next hhub fun x => x.setPort p (s.portFixed d p t1 t4 turn ns frac)
  refine ⟨t, ht, ?_, hkeeps⟩
  rw [hdev]
  exact congrArg some (port_setPort_same _ _ _)

end

/-- Settles O33: a forwarding command by the ports it sends on, every other one by the change of the hub's part. -/
theorem hubsForwardAndWatchTheirPorts : Obligations.HubsForwardAndWatchTheirPorts := by
  unfold Obligations.HubsForwardAndWatchTheirPorts
  refine ⟨fun _ _ _ _ _ _ _ => hubMarkerForward_forwards, fun _ _ _ _ _ _ _ _ => hubMarkerForward_discards, ?all, ?routed, ?held, ?missed, ?single, ?dual,
    ?meets, ?loses, fun _ _ _ _ _ _ _ _ _ _ => hubPortUp_good, fun _ _ _ _ _ _ _ _ _ _ => hubPortUp_third,
    fun _ _ _ _ _ _ _ _ _ => hubLinkFix_fails, ?fixed, ?hot, ?stillHot⟩
  case all =>
    intro d up arrival residence frame h s hconfig hhub hlane hgood haddr hown hactive
    rw [← openPorts_eq]
    exact hubDownstreamForward_all hconfig hhub hlane hgood haddr hown hactive
  case routed =>
    intro d up addr p arrival residence frame h s hconfig hhub hlane hgood haddr hown hzero hall hactive hroute hport hstate hplain
    obtain ⟨t, ht, hdevs, hout, hkeeps⟩ := hubDownstreamForward_routed (arrival := arrival) (residence := residence) hconfig hhub hlane hgood haddr hown
      hzero hall hactive hroute hport hstate
    rw [State.frameSent, hubStart_plain hplain] at hout
    exact ⟨t, ht, hdevs, hout, hkeeps⟩
  case held =>
    intro d up addr p arrival residence frame h s hconfig hhub hlane hgood haddr hown hzero hall hactive hroute hport hstate hlegacy hdue _
    obtain ⟨t, ht, hdevs, hout, hkeeps⟩ := hubDownstreamForward_routed (arrival := arrival) (residence := residence) hconfig hhub hlane hgood haddr hown
      hzero hall hactive hroute hport hstate
    rw [State.frameSent, hdue, hubStart_held hlegacy] at hout
    exact ⟨t, ht, hdevs, hout, hkeeps⟩
  case missed =>
    intro d up addr arrival residence frame h s hconfig hhub hlane hgood haddr hown hzero hall hactive hroute hflag
    rw [← flag_new (v := 2) hflag rfl]
    exact hubDownstreamForward_misses hconfig hhub hlane hgood haddr hown hzero hall hactive hroute
  case single =>
    intro d p start frame h s hhub hdual hlane hport hfree
    have hsent := hubUpstreamForward_forwards (frame := frame) hhub (upstreamUp_of_lane hlane) hport hfree
    rwa [upPorts_single hhub hdual hlane] at hsent
  case dual =>
    intro d p start frame h s hhub hdual hlane hlaneB hport hfree
    have hsent := hubUpstreamForward_forwards (frame := frame) hhub (upstreamUp_of_lane hlane) hport hfree
    rwa [upPorts_dual hhub hdual hlane hlaneB] at hsent
  case meets =>
    intro d p start frame ties e h s hhub hup hport he hfrom hto hflag
    rw [← flag_new (v := 1) hflag rfl]
    exact hubUpstreamForward_meets hhub hup hport he hfrom hto
  case loses =>
    intro d p q start frame h s hhub hup hport hother hlower hflag
    rw [← flag_again_dev hhub hflag]
    exact hubUpstreamForward_loses hhub hup hport hother hlower
  case fixed =>
    intro d p t1 t4 turn ns frac h s hhub hactive
    obtain ⟨t, ht, hport, hkeeps⟩ := hubLinkFix_good (t1 := t1) (t4 := t4) (turn := turn) (ns := ns) (frac := frac) hhub hactive
    have hread {α : Type} (f : HubPort → α) : ((t.dev d).hub.map fun x => f (x.port p)) = some (f (s.portFixed d p t1 t4 turn ns frac)) := by
      rw [← Option.map_some, ← hport, Option.map_map]; rfl
    refine ⟨t, ht, ?_, hread fun v => v.fix.theta, hkeeps⟩
    rw [hread fun v => (v.valid, v.fix.fails, v.resUp, v.state), State.portFixed, hubOf_of_some hhub]
  case hot =>
    intro d h s hhub hflag
    obtain ⟨t, ht, hdev, -, hkeeps⟩ := modHub_next hhub fun h => h.flag 2
    exact ⟨t, ht, hdev.trans (by rw [flag_new (v := 4) hflag rfl]), hkeeps⟩
  case stillHot =>
    intro d h s hhub hflag
    obtain ⟨t, ht, hdev, -, hkeeps⟩ := modHub_next hhub fun h => h.flag 2
    exact ⟨t, ht, hdev.trans (flag_again_dev hhub hflag), hkeeps⟩

end Sys2Proof.Machine

/-! SUPPORT. What the steps of an enumeration do (file 04; Machine/Tree.lean). -/

namespace Sys2Proof.Machine

@[simp] theorem quiet_treeOf (s : State) (p : Nat) : s.quiet.treeOf p = s.treeOf p := rfl
@[simp] theorem treeOf_fld (f : Field) (n v : Nat) (s : State) (p : Nat) : ((Eff.fld f n v).apply s).treeOf p = s.treeOf p := rfl

/-! ### Asking the request of a step (Table 04-6) -/

/-- A job apart from the conversation of its request. -/
def EnumJob.unasked (j : EnumJob) : EnumJob := { j with conv := none }

/-- What asking a request leaves: all but the transfer engine and the conversation that the job of the port names. -/
structure State.Asked (p : Nat) (s t : State) : Prop where
  regs : t.regs = s.regs
  chr : t.chr = s.chr
  nodes : t.tree.nodes = s.tree.nodes
  queue : (t.treeOf p).queue = (s.treeOf p).queue
  failed : (t.treeOf p).failed = (s.treeOf p).failed
  job : (t.treeOf p).job.map EnumJob.unasked = (s.treeOf p).job.map EnumJob.unasked

/-- What is read of a job apart from its conversation is as before. -/
theorem State.Asked.read {p : Nat} {s t : State} (h : s.Asked p t) {α : Type} (f : EnumJob → α) (hf : ∀ j, f j.unasked = f j) :
    (t.treeOf p).job.map f = (s.treeOf p).job.map f := by
  have hunasked (o : Option EnumJob) : o.map f = (o.map EnumJob.unasked).map f := by
    rw [Option.map_map]
    exact congrArg (fun g => o.map g) (funext fun j => (hf j).symm)
  rw [hunasked, h.job, ← hunasked]

/-- A program that asks at most one request for the job of a port. -/
def Asks (p : Nat) (q : Prog) : Prop := ∀ s : State, s.Asked p (q.run s)

theorem asks_skip (p : Nat) : Asks p .skip := fun _ => ⟨rfl, rfl, rfl, rfl, rfl, rfl⟩

theorem asks_ite {p : Nat} {c : Prop} [Decidable c] {q r : Prog} (hq : Asks p q) (hr : Asks p r) : Asks p (if c then q else r) := by
  split
  · exact hq
  · exact hr

theorem run_jobRequest_treeOf (p node : Nat) (setup data : List Byte) (stamp : Nat) (s : State) :
    ((jobRequest p node setup data stamp).run s).treeOf p =
      { s.treeOf p with job := (s.treeOf p).job.map fun j => { j with conv := some s.conv.next } } := by
  rw [jobRequest, run_read, run_cons, run_cons, run_nil, treeOf_modTreeOf_same]
  rfl

theorem asks_jobRequest (p node : Nat) (setup data : List Byte) (stamp : Nat) : Asks p (jobRequest p node setup data stamp) := fun s => by
  have htree := run_jobRequest_treeOf p node setup data stamp s
  refine ⟨rfl, rfl, rfl, ?_, ?_, ?_⟩
  · rw [htree]
  · rw [htree]
  · rw [htree, Option.map_map]; rfl

/-- The step of a port's enumeration is shown, and asks at most one request. -/
theorem sendStep_asked {p : Nat} {j : EnumJob} {s : State} (hjob : (s.treeOf p).job = some j) :
    ((Eff.fld Fld.TRE_ENUM_STATE.STEP p j.step).apply s).Asked p ((sendStep p).run s) := by
  rw [sendStep, run_read]
  simp only [hjob]
  rw [run_cons, run_cons, run_nil, showStep, run_putN]
  refine asks_ite (asks_skip p) ?_ _
  iterate 9 refine asks_ite (asks_jobRequest p _ _ _ _) ?_
  exact asks_skip p

/-- A job that goes on to a step. -/
def EnumJob.goesTo (j : EnumJob) (step : Nat) : EnumJob :=
  { j with step := step, retries := if 9 ≤ step then j.repeats else 0, routeHub := 0, conv := none }

/-- The step to which an enumeration goes is the job's and is shown; the rest is what asking its request leaves. -/
theorem toStep_asked {p : Nat} {j : EnumJob} {s : State} (hjob : (s.treeOf p).job = some j) (step : Nat) :
    ((Eff.fld Fld.TRE_ENUM_STATE.STEP p step).apply ((modTreeOf p fun t => { t with job := t.job.map fun j => j.goesTo step }).run s)).Asked p
      ((toStep p step).run s) := by
  have hgoes : (((modTreeOf p fun t => { t with job := t.job.map fun j => j.goesTo step }).run s).treeOf p).job = some (j.goesTo step) := by
    rw [treeOf_modTreeOf_same, hjob]; rfl
  exact sendStep_asked hgoes

/-- An enumeration has gone to a step: it is the job's and is shown. -/
theorem toStep_shows {p : Nat} {j : EnumJob} {s : State} (hjob : (s.treeOf p).job = some j) (step : Nat) :
    ((toStep p step).run s).tree.nodes = s.tree.nodes ∧ (((toStep p step).run s).treeOf p).job.map (fun x => (x.step, x.addr)) = some (step, j.addr) ∧
      ((toStep p step).run s).fld Fld.TRE_ENUM_STATE.STEP p = step % 16 := by
  have hasked := toStep_asked hjob step
  refine ⟨hasked.nodes, ?_, ?_⟩
  · rw [hasked.read _ fun _ => rfl, treeOf_fld, treeOf_modTreeOf_same, hjob]; rfl
  · rw [fld_congr hasked.regs, fld_fld_same]; rfl

/-! ### What an enumeration depends on -/

theorem enumerates_congr {s t : State} (hnodes : t.tree.nodes = s.tree.nodes) (hen : t.bit Fld.TRE_CTRL.ENUM_EN = s.bit Fld.TRE_CTRL.ENUM_EN)
    (hstandby : t.standby = s.standby) (l : Location) : t.enumerates l = s.enumerates l := by
  simp only [State.enumerates, State.pathHubs, State.hubsAbove, State.hubAt, State.node, hnodes, hen, hstandby]

/-! ### ENUM_START (R115) -/

/-- An enumeration of the first queued location of a port has begun: it is the job's, at a step whose request is not asked yet. -/
def State.begun (p : Nat) (l : Location) (rest : List Location) (step : Nat) (s : State) : State :=
  (modTreeOf p fun t => { t with job := t.job.map fun j => j.goesTo step }).run ((Eff.fld Fld.TRE_ENUM_STATE.PARENT p l.parent).apply
    ((Eff.fld Fld.TRE_ENUM_STATE.HUB_PORT p l.hubPort).apply ((Eff.fld Fld.TRE_STATUS.ENUMERATING 0
      (s.fld Fld.TRE_STATUS.ENUMERATING ||| 2 ^ p)).apply ((modTreeOf p fun t => { t with queue := rest, job := some { loc := l } }).run s))))

section
variable {p : Nat} {l : Location} {rest : List Location} {s : State}

theorem enumStart_begun (hp : p < 16) (hjob : (s.treeOf p).job = none) (hqueue : (s.treeOf p).queue = l :: rest) (hgo : s.enumerates l = true)
    (hup : s.portUp p = true) (hfree : s.presentAt l = none)
    (hready : l.tier = 0 ∨ (s.node l.parent).state = .active ∨ (s.node l.parent).state = .suspect) :
    exec (.enumStart p) s = .next ((sendStep p).run (s.quiet.begun p l rest (if l.tier = 0 then 2 else 1))) := by
  have hexec : exec (.enumStart p) s = execEnumStart p s := rfl
  have hnow : (s.enumerates l && s.portUp p && decide (p < 16) && (s.presentAt l).isNone &&
      decide (l.tier = 0 ∨ (s.node l.parent).state = .active ∨ (s.node l.parent).state = .suspect)) = true := by
    simp [hgo, hup, hp, hfree, hready]
  rw [hexec]
  simp only [execEnumStart, hjob, hqueue, hnow]
  rfl

theorem begun_treeOf {step : Nat} (hstep : step < 9) :
    (s.begun p l rest step).treeOf p = { s.treeOf p with queue := rest, job := some { loc := l, step := step } } := by
  simp only [State.begun, treeOf_modTreeOf_same, treeOf_fld, Option.map_some, EnumJob.goesTo, if_neg (Nat.not_le.mpr hstep)]

theorem begun_fld (f : Field) (n step : Nat) : (s.begun p l rest step).fld f n = ((Eff.fld Fld.TRE_ENUM_STATE.PARENT p l.parent).apply
    ((Eff.fld Fld.TRE_ENUM_STATE.HUB_PORT p l.hubPort).apply ((Eff.fld Fld.TRE_STATUS.ENUMERATING 0
      (s.fld Fld.TRE_STATUS.ENUMERATING ||| 2 ^ p)).apply s))).fld f n := rfl

theorem begun_fld_other {f : Field} (hparent : f.row ≠ Fld.TRE_ENUM_STATE.PARENT.row) (hport : f.row ≠ Fld.TRE_ENUM_STATE.HUB_PORT.row)
    (hstatus : f.row ≠ Fld.TRE_STATUS.ENUMERATING.row) (n step : Nat) : (s.begun p l rest step).fld f n = s.fld f n := by
  rw [begun_fld, fld_fld_ne hparent, fld_fld_ne hport, fld_fld_ne hstatus]

theorem begun_enumerates (step : Nat) : (s.begun p l rest step).enumerates l = s.enumerates l := by
  refine enumerates_congr (s := s) (t := s.begun p l rest step) rfl ?_ ?_ l
  · rw [State.bit, begun_fld_other (by decide) (by decide) (by decide)]; rfl
  · rw [State.standby, begun_fld_other (by decide) (by decide) (by decide)]; rfl

/-- The request that an enumeration that has just begun asks: the descriptor on a root port, the gate of the hub port behind a hub (Table 04-6). -/
theorem sendStep_begun {step : Nat} {setup : List Byte} {node : Nat} (hgo : s.enumerates l = true)
    (hfirst : step = 2 ∧ node = 4095 ∧ setup = setupBytes 0x80 0x01 0x01 0 64 ∨
      step = 1 ∧ node = l.parent ∧ setup = setupBytes 0 0x11 l.hubPort 1 0 (s.nrec l.parent).hubSeq) :
    (sendStep p).run (s.begun p l rest step) = (jobRequest p node setup).run ((showStep p step).run (s.begun p l rest step)) := by
  have hjob : ((s.begun p l rest step).treeOf p).job = some { loc := l, step := step } := by
    rw [begun_treeOf (by omega)]
  have hgoes : ¬ ((!(s.begun p l rest step).enumerates l) = true) := by rw [begun_enumerates, hgo]; decide
  rw [sendStep, run_read, hjob]
  show (seqs _).run _ = _
  rw [run_cons, run_cons, run_nil]
  rw [if_neg hgoes]
  rcases hfirst with ⟨rfl, rfl, rfl⟩ | ⟨rfl, rfl, rfl⟩
  · rw [if_neg (show ¬ 2 = 1 by decide), if_pos rfl]
  · rw [if_pos rfl]; rfl

end

/-- What the first request of an enumeration that begins leaves. -/
theorem jobRequest_begun (p node : Nat) (l : Location) (rest : List Location) (setup : List Byte) {step : Nat} (hstep : step < 9) (s : State) :
    let t := (jobRequest p node setup).run ((showStep p step).run (s.begun p l rest step))
    (t.treeOf p).queue = rest ∧ (t.treeOf p).job = some { loc := l, step := step, conv := some s.conv.next } ∧
      t.fld Fld.TRE_ENUM_STATE.STEP p = step ∧ t.fld Fld.TRE_STATUS.ENUMERATING =
        (s.fld Fld.TRE_STATUS.ENUMERATING ||| 2 ^ p) % 2 ^ Fld.TRE_STATUS.ENUMERATING.w ∧
      t.fld Fld.TRE_ENUM_STATE.PARENT p = l.parent % 4096 ∧ t.fld Fld.TRE_ENUM_STATE.HUB_PORT p = l.hubPort % 16 ∧
      t.conv.convs = s.conv.convs ++ [(s.conv.next, {
        port := p, node := node, control := true, stage := .setup, setup := setup, keep := true, inSeq0 := 1
        inbound := bitAt (ofBytes (setup.take 1)) 7, length := ofBytes ((setup.drop 6).take 2) })] := by
  intro t
  have htree : t.treeOf p = { s.treeOf p with queue := rest, job := some { loc := l, step := step, conv := some s.conv.next } } := by
    rw [run_jobRequest_treeOf, showStep, run_putN, treeOf_fld, begun_treeOf hstep]; rfl
  have hfld (f : Field) (n : Nat) : t.fld f n = ((Eff.fld Fld.TRE_ENUM_STATE.STEP p step).apply (s.begun p l rest step)).fld f n := rfl
  have hshown : step % 2 ^ Fld.TRE_ENUM_STATE.STEP.w = step := Nat.mod_eq_of_lt (by show step < 16; omega)
  refine ⟨by rw [htree], by rw [htree], ?_, ?_, ?_, ?_, rfl⟩
  · rw [hfld, fld_fld_same, hshown]
  · rw [hfld, fld_fld_ne (by decide), begun_fld, fld_fld_ne (by decide), fld_fld_ne (by decide), fld_fld_same]
  · rw [hfld, fld_fld_ne (by decide), begun_fld, fld_fld_same]; rfl
  · rw [hfld, fld_fld_ne (by decide), begun_fld, fld_fld_ne (by decide), fld_fld_same]; rfl

/-- The entries depend on the node table alone. -/
theorem node_congr_nodes {s t : State} (h : t.tree.nodes = s.tree.nodes) (a : Nat) : t.node a = s.node a := by
  simp only [State.node, h]

/-! ### A request that has ended (R118, R120) -/

section
variable {p k gen status : Nat} {data : List Byte} {legacy : Bool} {j : EnumJob} {s : State}

/-- The program that the end of an enumeration's request runs. -/
theorem enumRequestDone_run (hjob : (s.treeOf p).job = some j) (hasking : j.asking = true) (hgo : s.enumerates j.loc = true)
    (hconv : j.conv = some k) (hanswer : s.conv.answers.lookup k = some (status, data)) :
    exec (.enumRequestDone p gen legacy) s = .next ((if status = St.success ∨ status = St.short then
        seqs [dropRequest j.conv, stepDone p j data gen legacy]
      else if status = St.timeout then retryStep p j else seqs [dropRequest j.conv, enumFail p status]).run s.quiet) := by
  have hexec : exec (.enumRequestDone p gen legacy) s = execEnumRequestDone p gen legacy s := rfl
  simp only [hexec, execEnumRequestDone, hjob, hconv, Option.bind_some, hanswer, hasking, hgo, finish_quiet, run_whenP, Bool.and_self, if_true]

theorem enumRequestDone_success (hjob : (s.treeOf p).job = some j) (hasking : j.asking = true) (hgo : s.enumerates j.loc = true)
    (hconv : j.conv = some k) (hanswer : s.conv.answers.lookup k = some (St.success, data)) :
    exec (.enumRequestDone p gen legacy) s = .next ((stepDone p j data gen legacy).run ((dropRequest j.conv).run s.quiet)) := by
  rw [enumRequestDone_run hjob hasking hgo hconv hanswer, if_pos (.inl rfl), run_cons, run_cons, run_nil]

theorem enumRequestDone_timeout (hjob : (s.treeOf p).job = some j) (hasking : j.asking = true) (hgo : s.enumerates j.loc = true)
    (hconv : j.conv = some k) (hanswer : s.conv.answers.lookup k = some (St.timeout, data)) :
    exec (.enumRequestDone p gen legacy) s = .next ((retryStep p j).run s.quiet) := by
  rw [enumRequestDone_run hjob hasking hgo hconv hanswer, if_neg (by decide), if_pos rfl]

/-- A failure that is not to be repeated fails the enumeration. -/
theorem enumRequestDone_fails (hjob : (s.treeOf p).job = some j) (hasking : j.asking = true) (hgo : s.enumerates j.loc = true)
    (hconv : j.conv = some k) (hanswer : s.conv.answers.lookup k = some (status, data)) (hsuccess : status ≠ St.success)
    (hshort : status ≠ St.short) (hretries : status = St.timeout → s.fld Fld.TRE_CFG.ENUM_RETRIES ≤ j.retries) :
    exec (.enumRequestDone p gen legacy) s = .next ((enumFail p status).run ((dropRequest j.conv).run s.quiet)) := by
  rw [enumRequestDone_run hjob hasking hgo hconv hanswer, if_neg (not_or_intro hsuccess hshort)]
  by_cases htimeout : status = St.timeout
  · rw [if_pos htimeout, retryStep, run_read, run_cons, run_cons, run_nil, quiet_fld, if_neg (Nat.not_lt.mpr (hretries htimeout)), htimeout]
  · rw [if_neg htimeout, run_cons, run_cons, run_nil]

/-- A step that is repeated within its retries: one retry more, the same step, and nothing else of the tree or the chronometer. -/
theorem retryStep_again (hretries : j.retries < s.fld Fld.TRE_CFG.ENUM_RETRIES) :
    let t := (retryStep p j).run s
    (t.treeOf p).job.map (·.retries) = some (j.retries + 1) ∧ (t.treeOf p).job.map (·.step) = some j.step ∧
      (t.treeOf p).failed = (s.treeOf p).failed ∧ t.chr = s.chr := by
  intro t
  let u : State := (modTreeOf p fun x => { x with job := some { j with retries := j.retries + 1, conv := none } }).run ((dropRequest j.conv).run s)
  have hrun : t = (sendStep p).run u := by
    show (retryStep p j).run s = _
    rw [retryStep, run_read, run_cons, if_pos hretries]; rfl
  have htree : u.treeOf p = { s.treeOf p with job := some { j with retries := j.retries + 1, conv := none } } := treeOf_modTreeOf_same _ _ _
  have hasked := sendStep_asked (p := p) (s := u) (by rw [htree])
  rw [hrun]
  refine ⟨?_, ?_, ?_, hasked.chr⟩
  · rw [hasked.read _ fun _ => rfl, treeOf_fld, htree]; rfl
  · rw [hasked.read _ fun _ => rfl, treeOf_fld, htree]; rfl
  · rw [hasked.failed, treeOf_fld, htree]

end

/-- ENUM_STEP_US after the SETUP of its request the step is repeated (R120). -/
theorem enumStepTimeout_again {p k t0 : Nat} {c : Conv} {j : EnumJob} {s : State} (hjob : (s.treeOf p).job = some j) (hasking : j.asking = true)
    (hgo : s.enumerates j.loc = true) (hconv : j.conv = some k) (hc : s.convOf k = some c) (hsent : c.setupAt = some t0)
    (hretries : j.retries < s.fld Fld.TRE_CFG.ENUM_RETRIES)
    (hreaches : s.reaches (t0 + max 1 (s.fld Fld.TRE_CFG.ENUM_STEP_US) * 1000) = true) :
    ∃ t, exec (.enumStepTimeout p) s = .next t ∧ (t.treeOf p).job.map (·.retries) = some (j.retries + 1) ∧
      t0 + max 1 (s.fld Fld.TRE_CFG.ENUM_STEP_US) * 1000 ≤ t.chr.ns := by
  have hexec : exec (.enumStepTimeout p) s = execEnumStepTimeout p s := rfl
  simp only [hexec, execEnumStepTimeout, hjob, hconv, Option.bind_some, hc, hsent]
  refine whenP_next (by rw [hasking, hgo]; rfl) (atNs_next hreaches fun frac => ?_)
  obtain ⟨hagain, -, -, hchr⟩ := retryStep_again (s := s.quiet.atInstant (max s.chr.ns (t0 + max 1 (s.fld Fld.TRE_CFG.ENUM_STEP_US) * 1000)) frac)
    (p := p) hretries
  refine ⟨hagain, ?_⟩
  rw [hchr]
  exact Nat.le_max_right _ _

/-! ### An enumeration that fails before it has an address (R120) -/

@[simp] theorem modTreeOf_fld (p : Nat) (f : EnumTree → EnumTree) (s : State) (g : Field) (n : Nat) :
    ((modTreeOf p f).run s).fld g n = s.fld g n := rfl

/-- The location of a job that ends is marked failed, with its status. -/
theorem markFailed_shows (p status : Nat) (j : EnumJob) (s : State) :
    let t := (markFailed p j status).run s
    (t.treeOf p).job = none ∧ (t.treeOf p).failed = (s.treeOf p).failed ++ [j.loc] ∧ t.fld Fld.TRE_ENUM_STATE.STEP p = 0 ∧
      t.fld Fld.TRE_ENUM_STATE.LAST_STATUS p = status % 2 ^ Fld.TRE_ENUM_STATE.LAST_STATUS.w ∧ t.bit Fld.TRE_EVENT.ENUM_FAILED = true ∧
      t.bit Fld.TRE_EVENT.ATTACH = s.bit Fld.TRE_EVENT.ATTACH ∧ t.tree.nodes = s.tree.nodes := by
  intro t
  have htree : t.treeOf p = { s.treeOf p with job := none, failed := (s.treeOf p).failed ++ [j.loc] } := by
    show ((markFailed p j status).run s).treeOf p = _
    simp only [markFailed, jobEnds, refreshFailed, run_cons, run_nil, run_read, run_putN, run_put, run_raise, treeOf_fld, treeOf_modTreeOf_same]
  have hrun : t = (markFailed p j status).run s := rfl
  simp only [markFailed, jobEnds, refreshFailed, run_cons, run_nil, run_read, run_putN, run_put, run_raise] at hrun
  refine ⟨by rw [htree], by rw [htree], ?_, ?_, ?_, ?_, rfl⟩
  · simp (disch := decide) only [hrun, fld_fld_ne, modTreeOf_fld, fld_fld_same, Nat.zero_mod]
  · simp (disch := decide) only [hrun, fld_fld_ne, fld_fld_same]
  · rw [State.bit, hrun, fld_fld_same]; rfl
  · simp (disch := decide) only [State.bit, hrun, fld_fld_ne, modTreeOf_fld]

/-- The ATTACH of a failure is posted: TRE_EVENT shows it, and the tree logic is as it was. -/
theorem postFailed_shows (j : EnumJob) (owner status : Nat) (s : State) :
    ((postFailed j owner status).run s).tree = s.tree ∧ ((postFailed j owner status).run s).bit Fld.TRE_EVENT.ATTACH = true := by
  let detail := treeDetail 1 3 (j.loc.hubPort % 16) j.loc.port j.loc.parent
  have hwithin := postOwnerAndI0_within (pm := 0x7540580) (by decide) owner Ev.attach detail status
  rw [postFailed, run_cons, run_cons, run_nil, run_raise]
  refine ⟨(run_tree hwithin (by decide) _).trans rfl, ?_⟩
  rw [State.bit, run_fld hwithin (by decide) _ _ (by decide), fld_fld_same]; rfl

/-- An enumeration with no address yet that fails: no job is left, and its location is marked failed. -/
theorem enumFail_unaddressed {p status : Nat} {j : EnumJob} {s : State} (hjob : (s.treeOf p).job = some j) (haddr : j.addr = 0) :
    let t := (enumFail p status).run s
    (t.treeOf p).job = none ∧ (t.treeOf p).failed = (s.treeOf p).failed ++ [j.loc] ∧ t.fld Fld.TRE_ENUM_STATE.STEP p = 0 ∧
      t.fld Fld.TRE_ENUM_STATE.LAST_STATUS p = status % 2 ^ Fld.TRE_ENUM_STATE.LAST_STATUS.w ∧ t.bit Fld.TRE_EVENT.ENUM_FAILED = true ∧
      t.bit Fld.TRE_EVENT.ATTACH = true ∧ t.tree.nodes = s.tree.nodes := by
  have hunchosen : (j.addr != 0) = false := by rw [haddr]; rfl
  let closed : State := (whenP (j.loc.tier != 0) (treeRequest p j.loc.parent (setupBytes 0 0x11 j.loc.hubPort 0 0))).run s
  have hclosed : closed.tree = s.tree := by
    show (Prog.run (whenP _ _) s).tree = _
    rw [run_whenP]; split <;> rfl
  have hrun : (enumFail p status).run s = (markFailed p j status).run ((postFailed j 0 status).run closed) := by
    rw [enumFail, run_read, hjob]
    show (Prog.run (if _ then _ else _) s) = _
    rw [if_pos (.inl haddr), if_pos haddr, hunchosen]; rfl
  obtain ⟨hposted, hattach⟩ := postFailed_shows j 0 status closed
  obtain ⟨hnone, hfailed, hstep, hlast, hevent, hkept, hnodes⟩ := markFailed_shows p status j ((postFailed j 0 status).run closed)
  rw [← hrun] at hnone hfailed hstep hlast hevent hkept hnodes
  refine ⟨hnone, ?_, hstep, hlast, hevent, hkept.trans hattach, ?_⟩
  · rw [hfailed, treeOf_congr hposted, treeOf_congr hclosed]
  · rw [hnodes, hposted, hclosed]

/-! ### A step that succeeds (Table 04-6) -/

/-- What of an entry the descriptor on a root port says (R113, R117). -/
theorem choose_root {p a gen : Nat} {desc : List Byte} {legacy : Bool} {j : EnumJob} {s : State} (hjob : (s.treeOf p).job = some j)
    (hroot : j.loc.tier = 0) (hlen : ofBytes (desc.take 1) = 64) (hversion : ofBytes ((desc.drop 2).take 2) = 0x0100)
    (haddr : s.chooseAddr j.loc (ofBytes ((desc.drop 4).take 2)) (ofBytes ((desc.drop 6).take 2)) (ofBytes ((desc.drop 8).take 4)) = some (a, 3))
    (hlow : a ≠ 0) (hhigh : a < 4095) :
    let t := (choose p desc gen legacy).run s
    (t.node a).state = .enumerating ∧ (t.node a).vendor = ofBytes ((desc.drop 4).take 2) ∧ (t.node a).product = ofBytes ((desc.drop 6).take 2) ∧
      (t.node a).serial = ofBytes ((desc.drop 8).take 4) ∧ (t.node a).port = p ∧ (t.node a).owner = 0 ∧
      (t.treeOf p).job.map (fun x => (x.step, x.addr)) = some (5, a) ∧ t.fld Fld.TRE_ENUM_STATE.STEP p = 5 := by
  have hgood : ¬ (ofBytes ((desc.drop 0).take 1) ≠ 64 ∨ ofBytes ((desc.drop 2).take 2) ≠ 0x0100) := by
    rw [List.drop_zero, hlen, hversion]; simp
  intro t
  obtain ⟨u, e, hrun, hjobU, hnodeU, he⟩ : ∃ (u : State) (e : NodeEntry), t = (toStep p 5).run u ∧
      (u.treeOf p).job = some { j with addr := a, prior := s.node a, rule := 3, desc := desc } ∧ u.node a = e ∧
      e.state = .enumerating ∧ e.vendor = ofBytes ((desc.drop 4).take 2) ∧ e.product = ofBytes ((desc.drop 6).take 2) ∧
        e.serial = ofBytes ((desc.drop 8).take 4) ∧ e.port = p ∧ e.owner = 0 := by
    show ∃ (u : State) (e : NodeEntry), (choose p desc gen legacy).run s = _ ∧ _
    rw [choose, run_read]
    simp only [hjob, if_neg hgood, haddr]
    rw [run_cons, run_cons, run_cons, run_cons, run_nil, if_pos hroot]
    refine ⟨_, _, rfl, ?_, (node_modNode_same hlow hhigh _ s), rfl, rfl, rfl, rfl, rfl, rfl⟩
    rw [treeOf_modTreeOf_same]
  obtain ⟨hnodes, hjobT, hstep⟩ := toStep_shows hjobU 5
  have hnode : t.node a = e := by rw [hrun, node_congr_nodes hnodes, hnodeU]
  obtain ⟨hstate, hvendor, hproduct, hserial, hport, howner⟩ := he
  rw [hnode, hrun]
  exact ⟨hstate, hvendor, hproduct, hserial, hport, howner, hjobT, hstep⟩

/-! ### The node is addressed (R118) -/

/-- What posting ATTACH for a node leaves: of the tree logic all but who received it, and no field of the enumeration's state. -/
theorem postAttach_tree (a reason status : Nat) (s : State) : ((postAttach a reason status).run s).tree =
    ((modRec a fun r => { r with attachTo := if (s.node a).owner = 0 then [0] else [0, (s.node a).owner] }).run s).tree := by
  have hwithin := postOwnerAndI0_within (pm := 0x7540580) (by decide) (s.node a).owner Ev.attach (treeDetail 1 reason 1 (s.node a).port a) status
  have hposted := run_tree hwithin (by decide) ((Eff.fld Fld.TRE_EVENT.ATTACH 0 1).apply s)
  rw [postAttach, run_read, run_cons, run_cons, run_cons, run_nil, run_raise]
  simp only [modRec, modTree, run_eff, apply_tree, hposted, tree_fld]

theorem postAttach_fld {f : Field} (hblock : (0x7540580 : Nat).testBit (blockOf f.row) = false) (hevent : f.row ≠ Fld.TRE_EVENT.ATTACH.row)
    (a reason status n : Nat) (s : State) : ((postAttach a reason status).run s).fld f n = s.fld f n := by
  have hwithin := postOwnerAndI0_within (pm := 0x7540580) (by decide) (s.node a).owner Ev.attach (treeDetail 1 reason 1 (s.node a).port a) status
  rw [postAttach, run_read, run_cons, run_cons, run_cons, run_nil, run_raise]
  refine (run_fld hwithin (by decide) f n hblock _).trans (fld_fld_ne hevent _ _ _ _)

/-- SET_ADDRESS of a node on a root port has been answered: its entry is ADDRESSED, and the enumeration goes on to step 7. -/
theorem stepDone_addressed {p gen : Nat} {data : List Byte} {legacy : Bool} {j : EnumJob} {s : State} (hjob : (s.treeOf p).job = some j)
    (hstep : j.step = 5) (hroot : j.loc.tier = 0) (hlow : j.addr ≠ 0) (hhigh : j.addr < 4095) :
    let t := (stepDone p j data gen legacy).run s
    t.node j.addr = { s.node j.addr with state := .addressed } ∧ (t.treeOf p).job.map (fun x => (x.step, x.addr)) = some (7, j.addr) := by
  intro t
  let addressed : State := (setNodeState j.addr .addressed).run s
  have haddressed : addressed.tree = { s.tree with nodes := tset {} s.tree.nodes j.addr { s.node j.addr with state := .addressed } } :=
    modNode_tree hlow hhigh _ s
  let u : State := (nodeAddressed j).run s
  have hu : u.tree.nodes = addressed.tree.nodes ∧ u.tree.trees = addressed.tree.trees := by
    have hrun : u = (whenP (!(s.node j.addr).hub) (postAttach j.addr j.reason St.success)).run addressed := rfl
    rw [hrun, run_whenP]
    split
    · rw [postAttach_tree]; exact ⟨rfl, rfl⟩
    · exact ⟨rfl, rfl⟩
  have hrun : t = (toStep p 7).run u := by
    show (stepDone p j data gen legacy).run s = _
    rw [stepDone, run_read, hstep]
    show (Prog.run (if _ then _ else _) s) = _
    rw [if_pos hroot]; rfl
  have hjobU : (u.treeOf p).job = some j := by rw [State.treeOf, hu.2, haddressed]; exact hjob
  obtain ⟨hnodes, hjobT, -⟩ := toStep_shows hjobU 7
  rw [hrun]
  refine ⟨?_, hjobT⟩
  rw [node_congr_nodes hnodes, node_congr_nodes hu.1]
  exact node_modNode_same hlow hhigh _ s

/-- SET_CONFIG has been answered before its apply tick: the enumeration waits for it, and nothing of the node's entry changes. -/
theorem stepDone_configured {p gen : Nat} {data : List Byte} {legacy : Bool} {j : EnumJob} {s : State}
    (hstep : j.step = 10) (hbefore : s.tick < j.applyTick) :
    let t := (stepDone p j data gen legacy).run s
    (t.treeOf p).job.map (·.step) = some 11 ∧ (t.nrec j.addr).appearAt = some j.applyTick ∧ t.fld Fld.TRE_ENUM_STATE.STEP p = 11 ∧
      t.node j.addr = s.node j.addr := by
  intro t
  let u : State := (modRec j.addr fun r => { r with appearAt := some j.applyTick, unlisted := (s.node j.addr).hub && j.status != 0 }).run
    ((showStep p 11).run ((modTreeOf p fun x => { x with job := some { j with step := 11, conv := none, repeats := 0 } }).run s))
  have hrun : t = (whenP (s.node j.addr).hub (postAttach j.addr j.reason j.status)).run u := by
    show (stepDone p j data gen legacy).run s = _
    rw [stepDone, run_read, hstep]
    show (Prog.run (if _ then _ else _) s) = _
    rw [if_neg (Nat.not_le.mpr hbefore)]; rfl
  have htree : u.treeOf p = { s.treeOf p with job := some { j with step := 11, conv := none, repeats := 0 } } :=
    treeOf_modTreeOf_same p (fun x => { x with job := some { j with step := 11, conv := none, repeats := 0 } }) s
  have hrec : (u.nrec j.addr).appearAt = some j.applyTick := congrArg NodeRec.appearAt (nrec_modRec_same _ _ _)
  have hshown : u.fld Fld.TRE_ENUM_STATE.STEP p = 11 := fld_fld_same _ _ _ _
  rw [hrun, run_whenP]
  split
  · refine ⟨?_, ?_, ?_, ?_⟩
    · rw [State.treeOf, postAttach_tree]
      exact congrArg (fun x : EnumTree => x.job.map (·.step)) htree
    · rw [State.nrec, postAttach_tree]
      exact (congrArg NodeRec.appearAt (nrec_modRec_same _ _ _)).trans hrec
    · rw [postAttach_fld (by decide) (by decide), hshown]
    · exact node_congr_nodes (congrArg TreeUnit.nodes (postAttach_tree _ _ _ u)) _
  · exact ⟨by rw [htree]; rfl, hrec, hshown, rfl⟩

/-! ### TRE_ENUM_RETRY (R120) -/

/-- Taking a bit that is 1 out of a number leaves the other bits. -/
theorem testBit_sub_ne {v q p : Nat} (hq : bitAt v q = true) (hp : p ≠ q) : (v - 2 ^ q).testBit p = v.testBit p := by
  have hodd : v / 2 ^ q % 2 = 1 := by simpa [bitAt] using hq
  have hlow : v % 2 ^ q < 2 ^ q := Nat.mod_lt _ (Nat.two_pow_pos q)
  have hv : v = 2 ^ (q + 1) * (v / 2 ^ q / 2) + (2 ^ q * 1 + v % 2 ^ q) := by
    have hdiv := Nat.div_add_mod v (2 ^ q)
    have hhalf : 2 ^ q * (v / 2 ^ q) = 2 ^ (q + 1) * (v / 2 ^ q / 2) + 2 ^ q := by
      conv_lhs => rw [← Nat.div_add_mod (v / 2 ^ q) 2, hodd]
      ring
    omega
  have hsub : v - 2 ^ q = 2 ^ (q + 1) * (v / 2 ^ q / 2) + v % 2 ^ q := by omega
  have hwide : 2 ^ q * 1 + v % 2 ^ q < 2 ^ (q + 1) := by rw [pow_succ]; omega
  rw [hsub]
  conv_rhs => rw [hv]
  rw [Nat.testBit_two_pow_mul_add _ (by omega), Nat.testBit_two_pow_mul_add _ hwide]
  split
  next hlt => rw [Nat.testBit_two_pow_mul_add _ hlow, if_pos (by omega)]
  next => rfl

/-- Queueing the failed locations of a port again takes its bit out of TRE_STATUS.ENUM_FAILED, and writes no other field. -/
theorem requeue_run_fld (q : Nat) (s : State) (f : Field) (n : Nat) : ((requeue q).run s).fld f n =
    ((Eff.fld Fld.TRE_STATUS.ENUM_FAILED 0 (if bitAt (s.fld Fld.TRE_STATUS.ENUM_FAILED) q then s.fld Fld.TRE_STATUS.ENUM_FAILED - 2 ^ q
      else s.fld Fld.TRE_STATUS.ENUM_FAILED)).apply s).fld f n := by
  simp only [requeue, refreshFailed, run_cons, run_nil, run_read, run_put, treeOf_modTreeOf_same, EnumTree.requeued, List.isEmpty_nil, if_true,
    modTreeOf_fld]
  rfl

theorem requeue_keeps (q : Nat) (s : State) : keepsBut [(Fld.TRE_STATUS.ENUM_FAILED, 0)] s ((requeue q).run s) := fun f n h => by
  rw [requeue_run_fld]; exact keepsBut_fld (by simp) _ s f n h

theorem requeue_failedBit {p q : Nat} (hp : p < 16) {s : State} (h : p = q ∨ bitAt (s.fld Fld.TRE_STATUS.ENUM_FAILED) p = false) :
    bitAt (((requeue q).run s).fld Fld.TRE_STATUS.ENUM_FAILED) p = false := by
  rw [requeue_run_fld, fld_fld_same, bitAt_eq]
  show Nat.testBit (_ % 2 ^ 16) p = false
  rw [Nat.testBit_mod_two_pow, decide_eq_true hp, Bool.true_and]
  by_cases hpq : p = q
  · subst hpq
    split
    next hset => exact testBit_sub hset
    next hclear => rw [← bitAt_eq]; exact Bool.not_eq_true _ ▸ hclear
  · have hclear := h.resolve_left hpq
    rw [bitAt_eq] at hclear
    split
    next hset => rw [testBit_sub_ne hset hpq, hclear]
    next => exact hclear

theorem forP_requeue_failedBit {p : Nat} (hp : p < 16) (l : List Nat) {s : State}
    (h : p ∈ l ∨ bitAt (s.fld Fld.TRE_STATUS.ENUM_FAILED) p = false) :
    bitAt (((forP l requeue).run s).fld Fld.TRE_STATUS.ENUM_FAILED) p = false := by
  induction l generalizing s with
  | nil => exact h.resolve_left (List.not_mem_nil)
  | cons q rest ih =>
    rw [run_forP_cons]
    refine ih ?_
    by_cases hrest : p ∈ rest
    · exact .inl hrest
    · refine .inr (requeue_failedBit hp (h.imp_left fun hmem => ?_))
      exact (List.mem_cons.mp hmem).resolve_right hrest

/-- TRE_ENUM_RETRY queues the failed locations of the ports of its mask again, and writes no field but TRE_STATUS.ENUM_FAILED. -/
theorem treEnumRetry_requeues (mask : Nat) (s : State) : ∃ t, exec (.treEnumRetry mask) s = .next t ∧
    (∀ p < 16, bitAt mask p = true → (t.treeOf p).queue = (s.treeOf p).queue ++ (s.treeOf p).failed ∧ (t.treeOf p).failed = [] ∧
      bitAt (t.fld Fld.TRE_STATUS.ENUM_FAILED) p = false) ∧
    ∀ p < 16, bitAt mask p = false → t.treeOf p = s.treeOf p ∧ keepsBut [(Fld.TRE_STATUS.ENUM_FAILED, 0)] s t := by
  refine ⟨(enumRetry mask).run s.quiet, rfl, fun p hp hmask => ?_, fun p hp hmask => ⟨?_, ?_⟩⟩
  · rw [enumRetry_treeOf mask hp, if_pos hmask]
    exact ⟨rfl, rfl, forP_requeue_failedBit hp _ (.inl (by simp [hp, hmask]))⟩
  · rw [enumRetry_treeOf mask hp, if_neg (by rw [hmask]; decide), quiet_treeOf]
  · exact run_forP_keeps (keepsBut [(Fld.TRE_STATUS.ENUM_FAILED, 0)]) (fun _ _ _ _ => rfl) (fun _ _ _ => keepsBut.trans) _ requeue
      (fun q _ => requeue_keeps q) s.quiet

end Sys2Proof.Machine

/-! SUPPORT. The proof of the statement of enumerations (file 04; Machine/Tree.lean). -/

namespace Sys2Proof.Machine

/-- Settles O32: what begins by `sendStep_begun`, what is repeated by `retryStep_again`, what fails by `enumFail_unaddressed`, and the steps that
succeed by `stepDone`. -/
theorem enumerationsAskStepByStep : Obligations.EnumerationsAskStepByStep := by
  unfold Obligations.EnumerationsAskStepByStep
  refine ⟨?rootPort, ?hub, ?again, ?fails, ?chosen, ?addressed, ?configured, fun _ _ _ _ _ _ => enumStepTimeout_again, treEnumRetry_requeues⟩
  case rootPort =>
    intro p l rest s hp hjob hqueue hgo hup hfree hroot
    have hexec := enumStart_begun hp hjob hqueue hgo hup hfree (.inl hroot)
    rw [if_pos hroot, sendStep_begun (s := s.quiet) hgo (.inl ⟨rfl, rfl, rfl⟩)] at hexec
    obtain ⟨hrest, hasked, hstep, henum, -, -, hconvs⟩ := jobRequest_begun p 4095 l rest (setupBytes 0x80 0x01 0x01 0 64) (step := 2)
      (by decide) s.quiet
    exact ⟨_, hexec, hrest, hasked, hstep, henum, hconvs⟩
  case hub =>
    intro p l rest s hp hjob hqueue hgo hup hfree hbehind hactive
    have hexec := enumStart_begun hp hjob hqueue hgo hup hfree (.inr (.inl hactive))
    rw [if_neg hbehind, sendStep_begun (s := s.quiet) hgo (.inr ⟨rfl, rfl, rfl⟩)] at hexec
    obtain ⟨-, hasked, hstep, -, hparent, hport, hconvs⟩ := jobRequest_begun p l.parent l rest
      (setupBytes 0 0x11 l.hubPort 1 0 (s.nrec l.parent).hubSeq) (step := 1) (by decide) s.quiet
    rw [show (setupBytes 0 0x11 l.hubPort 1 0 (s.nrec l.parent).hubSeq).take 1 = toBytes 0 1 from rfl,
      show ((setupBytes 0 0x11 l.hubPort 1 0 (s.nrec l.parent).hubSeq).drop 6).take 2 = toBytes 0 2 from rfl] at hconvs
    exact ⟨_, hexec, hasked, hstep, hparent, hport, hconvs⟩
  case again =>
    intro p k gen data legacy j s hjob hasking hgo hconv hanswer hretries
    obtain ⟨hagain, hstep, hfailed, -⟩ := retryStep_again (p := p) (s := s.quiet) hretries
    exact ⟨_, enumRequestDone_timeout hjob hasking hgo hconv hanswer, hagain, hstep, hfailed⟩
  case fails =>
    intro p k status gen data legacy j s hjob hasking hgo hconv hanswer hsuccess hshort hretries haddr _
    exact ⟨_, enumRequestDone_fails hjob hasking hgo hconv hanswer hsuccess hshort hretries,
      enumFail_unaddressed (s := (dropRequest j.conv).run s.quiet) hjob haddr⟩
  case chosen =>
    intro p k gen a data legacy j s hjob hasking hgo hconv hanswer hstep hroot hlen hversion haddr hlow hhigh
    have hchoose : (stepDone p j data gen legacy).run ((dropRequest j.conv).run s.quiet) =
        (choose p data gen legacy).run ((dropRequest j.conv).run s.quiet) := by rw [stepDone, run_read, hstep]; rfl
    refine ⟨_, (enumRequestDone_success hjob hasking hgo hconv hanswer).trans (congrArg Host.Outcome.next hchoose), ?_⟩
    exact choose_root (s := (dropRequest j.conv).run s.quiet) hjob hroot hlen hversion haddr (by omega) hhigh
  case addressed =>
    intro p k gen data legacy j s hjob hasking hgo hconv hanswer hstep hroot hlow hhigh
    exact ⟨_, enumRequestDone_success hjob hasking hgo hconv hanswer,
      stepDone_addressed (s := (dropRequest j.conv).run s.quiet) hjob hstep hroot (by omega) hhigh⟩
  case configured =>
    intro p k gen data legacy j s hjob hasking hgo hconv hanswer hstep hbefore hlow hhigh
    exact ⟨_, enumRequestDone_success hjob hasking hgo hconv hanswer,
      stepDone_configured (s := (dropRequest j.conv).run s.quiet) hstep hbefore⟩

end Sys2Proof.Machine

/-! SUPPORT. What the statements of the conversations (file 06; Machine/Conversations.lean) are proved with: the transfer engine's tables, the end
of a conversation, and what a conversation that is picked for slots of a port sends. -/

namespace Sys2Proof.Machine

/-! ### The transfer engine's tables -/

theorem run_conv {m : Nat} {p : Prog} (hp : p.Within m) (h : m.testBit 31 = false) (s : State) : (p.run s).conv = s.conv :=
  (run_same_unit .conversations (by decide) h p hp s).symm

theorem convOf_congr {s t : State} (h : t.conv = s.conv) (k : Nat) : t.convOf k = s.convOf k := by rw [State.convOf, h, State.convOf]

theorem pipeCtx_congr {s t : State} (h : t.conv = s.conv) (node pipe : Nat) : t.pipeCtx node pipe = s.pipeCtx node pipe := by
  rw [State.pipeCtx, h, State.pipeCtx]

/-- Changing the entries of a key changes what is found at it. -/
theorem lookup_map_at {α : Type} (l : List (Nat × α)) (k : Nat) (f : α → α) :
    (l.map fun e => if e.1 = k then (e.1, f e.2) else e).lookup k = (l.lookup k).map f := by
  induction l with
  | nil => rfl
  | cons e rest ih =>
    obtain ⟨j, v⟩ := e
    by_cases hj : j = k
    · simp [hj]
    · have hne : (k == j) = false := beq_false_of_ne (Ne.symm hj)
      simp only [List.map_cons, hj, if_false, List.lookup_cons, hne, ih]

@[simp] theorem convOf_modConvOf (k : Nat) (f : Conv → Conv) (s : State) : ((modConvOf k f).run s).convOf k = (s.convOf k).map f :=
  lookup_map_at s.conv.convs k f

theorem convOf_modConvOf_of_some {k : Nat} {c : Conv} {s : State} (h : s.convOf k = some c) (f : Conv → Conv) :
    ((modConvOf k f).run s).convOf k = some (f c) := by rw [convOf_modConvOf, h, Option.map_some]

@[simp] theorem convOf_modPipe (k node pipe : Nat) (f : PipeCtx → PipeCtx) (s : State) : ((modPipe node pipe f).run s).convOf k = s.convOf k := rfl

@[simp] theorem convOf_modGrant (k port : Nat) (f : Grant → Grant) (s : State) : ((modGrant port f).run s).convOf k = s.convOf k := rfl

@[simp] theorem pipeCtx_modConvOf (k node pipe : Nat) (f : Conv → Conv) (s : State) :
    ((modConvOf k f).run s).pipeCtx node pipe = s.pipeCtx node pipe := rfl

@[simp] theorem pipeCtx_modPipe_same (node pipe : Nat) (f : PipeCtx → PipeCtx) (s : State) :
    ((modPipe node pipe f).run s).pipeCtx node pipe = f (s.pipeCtx node pipe) := by
  simp only [modPipe, modConv, run_eff, State.pipeCtx, apply_conv, tget, tset, Sparse.get_set_same]

theorem cmd_modCmd_same (tag : Nat) (f : Cmd → Cmd) (s : State) : ((modCmd tag f).run s).cmd tag = (s.cmd tag).map f :=
  lookup_map_at s.q.cmds tag f

/-- Changing nothing of a conversation leaves the state. -/
theorem run_modConvOf_id (k : Nat) (s : State) : (modConvOf k fun c => c).run s = s := by
  have hsame : (s.conv.convs.map fun e => if e.1 = k then (e.1, e.2) else e) = s.conv.convs := by simp
  exact congrArg (fun l => ({ s with conv := { s.conv with convs := l } } : State)) hsame

/-! ### The end of a conversation (R208) -/

theorem complete_conv (tag status result aux : Nat) (s : State) : ((complete tag status result aux).run s).conv = s.conv :=
  run_conv (complete_within (pm := 0x7540580) (by decide) _ _ _ _) (by decide) s

/-- A conversation that ends is gone, and its pipe keeps the status. -/
theorem convDone_ends {k : Nat} {c : Conv} {s : State} (h : s.convOf k = some c) (status : Nat) :
    ((convDone k status).run s).convOf k = none ∧
      ((convDone k status).run s).pipeCtx c.node c.pipe = { s.pipeCtx c.node c.pipe with lastStatus := status } := by
  obtain ⟨u, hu⟩ : ∃ u, u = (modPipe c.node c.pipe fun p => { p with lastStatus := status }).run ((modConv fun u => { u with
    convs := u.convs.filter fun e => e.1 != k }).run s) := ⟨_, rfl⟩
  have hgone : u.convOf k = none := by rw [hu, convOf_modPipe]; exact lookup_filter_out s.conv.convs k
  have hpipe : u.pipeCtx c.node c.pipe = { s.pipeCtx c.node c.pipe with lastStatus := status } := by rw [hu, pipeCtx_modPipe_same]; rfl
  rw [convDone, run_read]
  simp only [h]
  rw [run_cons, run_cons, run_cons, run_nil, ← hu]
  cases c.tag with
  | some tag =>
    rw [convOf_congr (complete_conv _ _ _ _ _), pipeCtx_congr (complete_conv _ _ _ _ _)]
    exact ⟨hgone, hpipe⟩
  | none =>
    dsimp only
    rw [run_whenP]
    split <;> exact ⟨hgone, hpipe⟩

/-! ### Slots taken for a conversation (R177, R188) -/

/-- The state after the engine has picked a conversation for slots of a port: the instant moved, the slots counted, the lane taken and the pointer
moved. -/
def State.picked (s : State) (port until_ ns frac : Nat) (ins : InsUnit) (pointers : List (Nat × Nat)) : State :=
  { s.atInstant ns frac with
    ins := ins
    lanes := Sparse.set (fun _ => {}) s.lanes port { s.lane port with txUntil := until_ }
    conv := { s.conv with pointers := pointers } }

theorem picked_txUntil (s : State) (port until_ ns frac : Nat) (ins : InsUnit) (pointers : List (Nat × Nat)) :
    ((s.picked port until_ ns frac ins pointers).lane port).txUntil = until_ := by
  simp only [State.picked, State.lane, tget, Sparse.get_set_same]

theorem advanceTo_atInstant (at_ : Nat) (s : State) : ∃ ns frac, (advanceTo at_).run s = s.atInstant ns frac := by
  rw [advanceTo, run_read, run_whenP]
  split
  · exact ⟨at_, 0, rfl⟩
  · exact ⟨s.chr.ns, s.chr.frac, rfl⟩

theorem run_countSlots (c : Conv) (port n : Nat) (inbound : Bool) (s : State) :
    ∃ ins, (countSlots c port inbound n).run s = { s with ins := ins } := by
  rw [countSlots, run_read]
  cases s.convIns c with
  | none => exact ⟨s.ins, rfl⟩
  | some i => exact ⟨_, rfl⟩

theorem run_pick (k slot n m port : Nat) (c : Conv) (inbound : Bool) (s : State) : ∃ ns frac ins pointers,
    (seqs [advanceTo (s.chr.meridNs + 32 * slot), countSlots c port inbound n, occupy port slot m, turnPast k c inbound]).run s =
      s.picked port (s.chr.meridNs + 32 * (slot + m)) ns frac ins pointers := by
  obtain ⟨ns, frac, hmoved⟩ := advanceTo_atInstant (s.chr.meridNs + 32 * slot) s
  obtain ⟨ins, hcounted⟩ := run_countSlots c port n inbound (s.atInstant ns frac)
  rw [run_cons, run_cons, run_cons, run_cons, run_nil, hmoved, hcounted]
  exact ⟨ns, frac, ins, _, rfl⟩

/-! ### What leaves the port -/

/-- A packet that the controller sends for a conversation on a root port (R173, R174). -/
def State.packetSent (s : State) (port : Nat) (c : Conv) (type seq : Nat) (payload : List Byte) : Output :=
  .packet port (padded (max 1 (s.fld Fld.LNK_STATUS.GEN port)) (packetFrame c.node c.pipe false type seq payload))

theorem run_sendPacket (port : Nat) (c : Conv) (type seq : Nat) (payload : List Byte) (s : State) :
    (sendPacket port c type seq payload).run s = s.withSent [s.packetSent port c type seq payload] := rfl

theorem packetSent_congr {s t : State} {port : Nat} (h : t.fld Fld.LNK_STATUS.GEN port = s.fld Fld.LNK_STATUS.GEN port) (c : Conv) (type seq : Nat)
    (payload : List Byte) : t.packetSent port c type seq payload = s.packetSent port c type seq payload := by
  rw [State.packetSent, h, State.packetSent]

theorem packetBytes_congr {s t : State} (h : t.host = s.host) (c : Conv) (i : Nat) : t.packetBytes c i = s.packetBytes c i := by
  simp only [State.packetBytes, State.readPieces, h]

/-- Outbound data of a conversation whose SETUP takes no stamp: exactly its next packet leaves, and the window moves past it (R189, R192). -/
theorem sendData_sends {k port : Nat} {c : Conv} {s : State} (hstamp : c.stamp = 0) : ∃ f : Conv → Conv,
    (∀ x, (f x).sent = max x.sent (c.next + 1)) ∧ (sendData k c port).run s = (modConvOf k f).run (s.withSent
      [s.packetSent port c (if c.control && c.next == 0 then 1 else 0) ((c.seq0 + c.next) % 65536) (s.packetBytes c c.next)]) := by
  have hnostamp : (c.control && c.next == 0 && c.setupAt == none && c.stamp != 0) = false := by rw [hstamp, bne_self_eq_false, Bool.and_false]
  rw [sendData, run_cons, run_whenP, hnostamp, if_neg Bool.false_ne_true, run_cons, run_nil, run_read, run_cons, run_cons, run_nil]
  refine ⟨_, ?_, rfl⟩
  exact fun _ => rfl

end Sys2Proof.Machine
/-! SUPPORT. What conversations that start, send, ask and wait do (file 06; Machine/Conversations.lean). -/

namespace Sys2Proof.Machine

/-! ### CONVERSATION_START (R199, R208) -/

section
variable {k : Nat} {c : Conv} {s : State} (hconv : s.convOf k = some c) (hqueued : c.state = .queued) (hmute : s.mute = false)
  (hown : (c.tag.isSome && c.control && controllerOnly ((s.convIns c).getD 0) c.setup) = false)
include hconv hqueued hmute hown

/-- A conversation whose node is active, and which nothing holds back, starts. -/
theorem convStart_starts (hrun : ((s.pipeCtx c.node c.pipe).halted && c.pipe != 0) = false) (hnode : (s.node c.node).state = .active)
    (hclear : s.convBlocked k c = false) (hused : s.pair.freshPipes.contains (c.node * 32 + c.pipe) = false) :
    ∃ (f : Conv → Conv) (p : PipeCtx → PipeCtx), (∀ x, (f x).state = .active) ∧
      (convStart k).run s = (modConvOf k f).run ((whenP c.control (modPipe c.node 0 p)).run s) := by
  have hpresent : (NodeState.active == .absent || NodeState.active == .free) = false := rfl
  have hnormal : (NodeState.active == .quarantine) = false := rfl
  have hgoes : (!(NodeState.active == .active || NodeState.active == .suspect)) = false := rfl
  rw [convStart, run_read]
  simp only [hconv, hqueued, hmute, hown, hrun, hnode, hclear, hused, hpresent, hnormal, hgoes, ne_eq, not_true_eq_false, false_or, Bool.and_false,
    Bool.or_false, Bool.false_eq_true, if_false, run_cons, run_nil]
  refine ⟨_, _, ?_, rfl⟩
  exact fun _ => rfl

/-- A conversation on a halted pipe ends (R199). -/
theorem convStart_stalls (hhalted : (s.pipeCtx c.node c.pipe).halted = true) (hpipe : c.pipe ≠ 0) :
    (convStart k).run s = (convDone k St.stalled).run s := by
  have hstop : (true && c.pipe != 0) = true := by simpa using hpipe
  rw [convStart, run_read]
  simp only [hconv, hqueued, hmute, hown, hhalted, hstop, ne_eq, not_true_eq_false, false_or, Bool.false_eq_true, if_false, if_true]

end

/-! ### Requests for a command's buffer (R307, R319) -/

theorem hostRead_keeps (fn addr len : Nat) (pasid : Option Nat) (s : State) :
    keepsBut [(Fld.GBL_PCIE_EVENT.PASID_IGNORED, 0)] s ((hostRead fn pasid addr len).run s) := by
  have hprefix : keepsBut [(Fld.GBL_PCIE_EVENT.PASID_IGNORED, 0)] s ((usePasid pasid.isSome).run s) := by
    rw [usePasid, run_read, run_whenP]
    split
    · exact keepsBut_fld (by simp) _ _
    · exact fun _ _ _ => rfl
  rw [hostRead, run_cons, run_cons, run_nil]
  exact hprefix.trans (keepsBut_run (m := 0x400000)
    (within_read fun _ => within_ite (within_emit (by decide)) (within_forP fun _ => within_emit (by decide))) (by decide) _ _)

theorem askPieces_keeps (i : Nat) (l : List (Nat × Nat)) (s : State) :
    keepsBut [(Fld.GBL_PCIE_EVENT.PASID_IGNORED, 0)] s ((askPieces i l).run s) := by
  rw [askPieces, run_read]
  exact run_forP_keeps (keepsBut [(Fld.GBL_PCIE_EVENT.PASID_IGNORED, 0)]) (fun _ _ _ _ => rfl) (fun _ _ _ => keepsBut.trans) _ _
    (fun _ _ u => hostRead_keeps _ _ _ _ u) s

/-- Whether the next packet of a conversation is read from the buffer of its command. -/
def Conv.readsBuffer (c : Conv) : Bool := c.tag.isSome && !(c.control && c.next == 0) && (c.packetRange c.next).2 != 0

/-- The bytes of the next packet are asked for, where they are read from the buffer of a command. -/
def askNext (i : Nat) (c : Conv) : Prog :=
  whenP c.readsBuffer (askPieces i (pieceRange c.pieces (c.packetRange c.next).1 (c.packetRange c.next).2))

theorem askNext_within (i : Nat) (c : Conv) : (askNext i c).Within 0x440000 := within_whenP (askPieces_within (by decide) _ _)

theorem run_askNext_of_no_tag {c : Conv} (h : c.tag = none) (i : Nat) (s : State) : (askNext i c).run s = s := by
  rw [askNext, run_whenP, Conv.readsBuffer, h]; rfl

theorem askNext_keeps (i : Nat) (c : Conv) (s : State) : keepsBut [(Fld.GBL_PCIE_EVENT.PASID_IGNORED, 0)] s ((askNext i c).run s) := by
  rw [askNext, run_whenP]
  split
  · exact askPieces_keeps _ _ _
  · exact fun _ _ _ => rfl

/-! ### PACKET_SEND and TRANSFER_ABORT (R177, R195, R200) -/

/-- That the engine may pick a conversation for its next packet at a slot: it has one, in free slots still to come of a port that is up (R177,
R188). -/
structure State.MaySend (s : State) (k slot : Nat) (c : Conv) : Prop where
  conv : s.convOf k = some c
  wants : c.wantsPacket = true
  mute : s.mute = false
  up : s.portUp (s.convPort c) = true
  free : s.slotsFree (s.convPort c) false slot (s.nextPacketSlots c) = true
  ahead : s.slotAhead (s.convPort c) slot = true
  pick : s.mayPick k c false = true

theorem State.MaySend.quiet {s : State} {k slot : Nat} {c : Conv} (h : s.MaySend k slot c) : s.quiet.MaySend k slot c :=
  ⟨h.conv, h.wants, h.mute, h.up, h.free, h.ahead, h.pick⟩

/-- Nothing of what keeps a packet back does. -/
theorem State.MaySend.blocked {s : State} {k slot : Nat} {c : Conv} (h : s.MaySend k slot c) :
    (!c.wantsPacket || s.mute || !s.portUp (s.convPort c) || !s.slotsFree (s.convPort c) false slot (s.nextPacketSlots c) ||
      !s.slotAhead (s.convPort c) slot || !s.mayPick k c false) = false := by simp [h.wants, h.mute, h.up, h.free, h.ahead, h.pick]

/-- A packet's slots lie after the packet before it. -/
theorem State.MaySend.txUntil_le {s : State} {k slot : Nat} {c : Conv} (h : s.MaySend k slot c) :
    (s.lane (s.convPort c)).txUntil ≤ s.chr.meridNs + 32 * (slot + s.nextPacketSlots c) := by
  have hahead := h.ahead
  simp only [State.slotAhead, Bool.and_eq_true, decide_eq_true_eq] at hahead
  omega

section
variable {k slot : Nat} {c : Conv} {s : State}

theorem packetSend_data (h : s.MaySend k slot c) (hactive : c.state = .active) (habort : c.abortAsked = false) (howes : c.owesWait = false)
    (hclosing : c.closing = false) (hpressed : s.convPressed c = false)
    (hissue : c.tag ≠ none → s.canIssue (s.insFn ((s.convIns c).getD 0)) = true) : ∃ ns frac ins pointers,
      (packetSend k slot).run s = (sendData k c (s.convPort c)).run ((askNext ((s.convIns c).getD 0) c).run
        (s.picked (s.convPort c) (s.chr.meridNs + 32 * (slot + s.nextPacketSlots c)) ns frac ins pointers)) := by
  obtain ⟨ns, frac, ins, pointers, hpick⟩ := run_pick k slot (s.nextPacketSlots c) (s.nextPacketSlots c) (s.convPort c) c false s
  have hreads : (c.readsBuffer && !s.canIssue (s.insFn ((s.convIns c).getD 0))) = false := by
    by_cases htag : c.tag = none
    · rw [Conv.readsBuffer, htag]; rfl
    · rw [hissue htag, Bool.not_true, Bool.and_false]
  have hnot : ¬ (ConvState.active = .aborting) := by decide
  refine ⟨ns, frac, ins, pointers, ?_⟩
  rw [← hpick, packetSend, run_read]
  simp only [h.conv, h.blocked, hactive, habort, howes, hclosing, hpressed, beq_self_eq_true, Bool.not_false, Bool.and_false, Bool.true_and,
    Bool.false_eq_true, if_false, hnot, false_or]
  rw [if_neg (by simpa [Conv.readsBuffer] using hreads)]
  rfl

/-- A conversation that aborts sends its ABORT (R200). -/
theorem packetSend_abort (h : s.MaySend k slot c) (haborting : c.state = .aborting) : ∃ ns frac ins pointers,
      (packetSend k slot).run s = (modConvOf k fun x => { x with abortSent := true }).run ((sendPacket (s.convPort c) c 2 0
        (handshakeBytes 0x06 0 0)).run ((whenP c.abortAsked (toAborting k)).run
          (s.picked (s.convPort c) (s.chr.meridNs + 32 * (slot + s.nextPacketSlots c)) ns frac ins pointers))) := by
  obtain ⟨ns, frac, ins, pointers, hpick⟩ := run_pick k slot (s.nextPacketSlots c) (s.nextPacketSlots c) (s.convPort c) c false s
  have hnodata : (ConvState.aborting == .active) = false := rfl
  refine ⟨ns, frac, ins, pointers, ?_⟩
  rw [← hpick, packetSend, run_read]
  simp only [h.conv, h.blocked, haborting, hnodata, Bool.false_and, Bool.false_eq_true, if_false, true_or, if_true]
  rfl

end

/-! ### GRANT_SEND (R176, R178, R182) -/

/-- That the engine may grant a conversation `n` slots of a range from a slot, in a grant that leaves at another: the range and the grant lie in
free slots, the last grant of the port is over, and the grant comes early enough (R176, R178, R182, R188). -/
structure State.MayGrant (s : State) (k slot r n : Nat) (c : Conv) : Prop where
  conv : s.convOf k = some c
  wants : c.wantsGrant = true
  mute : s.mute = false
  pos : 0 < n
  few : n ≤ 511
  up : s.portUp (s.convPort c) = true
  ended : s.grantRuns (s.convPort c) slot = false
  free : s.slotsFree (s.convPort c) false slot (frameSlots (s.convGen c) 4) = true
  ahead : s.slotAhead (s.convPort c) slot = true
  range : s.slotsFree (s.convPort c) true r (n + s.grantExtra c) = true
  pick : s.mayPick k c true = true
  start : 0 ≤ s.grantStart c r
  fits : s.grantStart c r < 2 ^ 15
  early : 512 * 65536 ≤ s.grantLaunch c (s.grantStart c r) - s.grantEnds c slot (frameSlots (s.convGen c) 4)

theorem State.MayGrant.quiet {s : State} {k slot r n : Nat} {c : Conv} (h : s.MayGrant k slot r n c) : s.quiet.MayGrant k slot r n c :=
  ⟨h.conv, h.wants, h.mute, h.pos, h.few, h.up, h.ended, h.free, h.ahead, h.range, h.pick, h.start, h.fits, h.early⟩

/-- The record of a grant that asks for data (R178). -/
def State.dataGrant (s : State) (k r n : Nat) (c : Conv) : Grant :=
  { conv := k, node := c.node, merid := s.chr.meridNs, start := r, slots := n + s.grantExtra c, next := r, extra := s.grantExtra c, closed := false,
    forData := true, sent := c.sent }

/-- A bulk transfer that waits for data is granted its range: exactly the grant leaves, and the port remembers it. -/
theorem grantSend_data {k slot r n : Nat} {c : Conv} {s : State} (h : s.MayGrant k slot r n c) (hwants : c.wantsData = true)
    (hbulk : c.control = false) (hactive : c.state = .active) (hpressed : s.convPressed c = false) : ∃ ns frac ins pointers,
      (grantSend k slot r n true).run s = (modConv fun u => { u with grants := tset {} u.grants (s.convPort c) (s.dataGrant k r n c) }).run
        ((modConvOf k fun x => { x with askDue := false }).run ((sendPacket (s.convPort c) c 3 ((c.inSeq0 + c.inCount) % 65536)
          (toBytes (s.tickLow 8 + (s.grantStart c r).toNat * 2 ^ 8 + n * 2 ^ 23) 4)).run
            (s.picked (s.convPort c) (s.chr.meridNs + 32 * (slot + frameSlots (s.convGen c) 4)) ns frac ins pointers))) := by
  obtain ⟨ns, frac, ins, pointers, hpick⟩ := run_pick k slot (n + s.grantExtra c) (frameSlots (s.convGen c) 4) (s.convPort c) c true s
  have hnoabort : (ConvState.active == .aborting) = false := rfl
  refine ⟨ns, frac, ins, pointers, ?_⟩
  rw [← hpick, grantSend, run_read]
  simp only [h.conv, h.wants, h.mute, h.up, h.ended, h.free, h.ahead, h.range, h.pick, hactive, hwants, hbulk, hpressed, hnoabort, Nat.ne_of_gt h.pos,
    Nat.not_lt.mpr h.few, Int.not_lt.mpr h.start, Int.not_le.mpr h.fits, Int.not_lt.mpr h.early, beq_self_eq_true,
    decide_false, Bool.true_and, Bool.false_and, Bool.and_false, Bool.not_false, Bool.not_true, Bool.or_false, Bool.false_eq_true, if_false]
  rfl

end Sys2Proof.Machine

/-! SUPPORT. What retries do, and what a frame that arrives in the range of a grant does (file 06; Machine/Conversations.lean). -/

namespace Sys2Proof.Machine

/-! ### Retries (R197) -/

section
variable {k i j : Nat} {c : Conv} {s : State} (hconv : s.convOf k = some c)
include hconv

/-- No packet is sent again where the window has passed them all. -/
theorem retryPackets_of_le (h : j ≤ i) (p : Prog) : (retryPackets k i j p).run s = p.run s := by
  have hnone : List.range (j - i) = [] := by rw [Nat.sub_eq_zero_of_le h, List.range_zero]
  rw [retryPackets, run_read]
  simp only [hconv, hnone, List.map_nil, List.any_nil, Bool.false_eq_true, if_false, List.foldl_nil, List.length_nil, Nat.add_zero]
  rw [run_cons, run_cons, run_nil]
  exact congrArg p.run (run_modConvOf_id k s)

/-- A packet below its limit counts one retry. -/
theorem retryPackets_counts (h : c.used i < c.limit) (p : Prog) : ∃ f : Conv → Conv, (∀ x, (f x).retries = x.retries + 1) ∧
    (retryPackets k i (i + 1) p).run s = p.run ((modConvOf k f).run s) := by
  have hone : (List.range (i + 1 - i)).map (· + i) = [i] := by rw [Nat.add_sub_cancel_left]; simp
  have hbelow : ([i].any fun x => decide (c.used x ≥ c.limit)) = false := by simpa using h
  rw [retryPackets, run_read]
  simp only [hconv, hone, hbelow, Bool.false_eq_true, if_false]
  refine ⟨_, ?_, rfl⟩
  exact fun _ => rfl

/-- A packet at its limit ends the transfer. -/
theorem retryPackets_ends (h : c.limit ≤ c.used i) (p : Prog) : (retryPackets k i (i + 1) p).run s = (convDone k St.timeout).run s := by
  have hone : (List.range (i + 1 - i)).map (· + i) = [i] := by rw [Nat.add_sub_cancel_left]; simp
  have hlimit : ([i].any fun x => decide (c.used x ≥ c.limit)) = true := by simpa using h
  rw [retryPackets, run_read]
  simp only [hconv, hone, hlimit, if_true]

/-- A grant for data that goes unanswered counts a retry of the packet at its SEQ. -/
theorem unanswered_data {g : Grant} (hgoes : c.state ≠ .aborting) (hdata : g.forData = true) :
    (unanswered k g).run s = (retryPackets k (inKey c.inCount) (inKey c.inCount + 1) .skip).run s := by
  rw [unanswered, run_read]
  simp only [hconv, hgoes, hdata, if_false, if_true]

end

/-! ### What progress leaves of the conversations -/

theorem keepSeq_convOf (k j : Nat) (s : State) : ((keepSeq k).run s).convOf j = s.convOf j := by
  rw [keepSeq, run_read]
  cases s.convOf k <;> rfl

theorem goodResponse_conv (a : Nat) (s : State) : ((goodResponse a).run s).conv = s.conv :=
  run_conv (goodResponse_within (pm := 0x20040000004) (by decide) a) (by decide) s

theorem goodResponse_host (a : Nat) (s : State) : ((goodResponse a).run s).host = s.host :=
  run_host (goodResponse_within (pm := 0x20040000004) (by decide) a) (by decide) s

theorem goodResponse_queueKept (a : Nat) (s : State) : QueueKept s ((goodResponse a).run s) :=
  queueKept_within (goodResponse_within (pm := 0x20040000004) (by decide) a) (by decide) (by decide) (by decide) (by decide) (by decide) s

@[simp] theorem host_modConvOf (k : Nat) (f : Conv → Conv) (s : State) : ((modConvOf k f).run s).host = s.host := rfl

@[simp] theorem host_modGrant (port : Nat) (f : Grant → Grant) (s : State) : ((modGrant port f).run s).host = s.host := rfl

/-! ### Frames in the range of a grant (R206) -/

/-- A conversation whose node has answered something else than WAIT (R198). -/
def Conv.heard (c : Conv) : Conv := { c with waitFrom := none }

/-- A good packet of a conversation's node that begins in the accepting slots of a grant and ends within its range. -/
structure State.Answered (s : State) (port slot : Nat) (pos : Int) (frame : List Byte) (g : Grant) (c : Conv) : Prop where
  up : s.portUp port = true
  granted : s.grantFor port pos = some (g, slot)
  conv : s.convOf g.conv = some c
  good : frameGood frame = true
  packet : (Header.ofBytes frame).packet = true
  addr : (Header.ofBytes frame).addr = c.node
  pipe : (Header.ofBytes frame).pipe = c.pipe
  inbound : (Header.ofBytes frame).inbound = true
  ends : (if g.extra = 0 then 32 * 65536 * (slot : Int) else pos) + 32 * 65536 * frameSlots (max 1 (s.fld Fld.LNK_STATUS.GEN port))
    (Header.ofBytes frame).length ≤ 32 * 65536 * ((g.start + g.slots : Nat) : Int)

theorem State.Answered.quiet {s : State} {port slot : Nat} {pos : Int} {frame : List Byte} {g : Grant} {c : Conv}
    (h : s.Answered port slot pos frame g c) : s.quiet.Answered port slot pos frame g c :=
  ⟨h.up, h.granted, h.conv, h.good, h.packet, h.addr, h.pipe, h.inbound, h.ends⟩

theorem headerGood_of_frameGood {frame : List Byte} (h : frameGood frame = true) : headerGood frame = true := by
  simp only [frameGood, Bool.and_eq_true] at h
  exact h.1.1

theorem framePayload_length {frame : List Byte} (h : frameGood frame = true) : (framePayload frame).length = (Header.ofBytes frame).length := by
  simp only [frameGood, Bool.and_eq_true, decide_eq_true_eq] at h
  obtain ⟨⟨-, hlong⟩, -⟩ := h
  rw [framePayload, List.length_take, List.length_drop]
  omega

section
variable {port slot : Nat} {pos : Int} {frame : List Byte} {g : Grant} {c : Conv} {s : State} {room : Bool}
  (h : s.Answered port slot pos frame g c)
include h

/-- Data of a grant for data is a good response, and then arrives (R190). -/
theorem packetArrives_data (htype : (Header.ofBytes frame).type = Pt.data) (hdata : g.forData = true)
    (hlen : (Header.ofBytes frame).length ≤ 1024) : ∃ f, (packetArrives port pos frame room).run s =
      (dataArrives g.conv c g (Header.ofBytes frame).seq (framePayload frame) room).run
      ((modConvOf g.conv Conv.heard).run ((modGrant port f).run ((goodResponse c.node).run s))) := by
  rw [packetArrives, run_read]
  simp only [run_whenP, h.up, h.granted, h.conv, headerGood_of_frameGood h.good, h.good, h.packet, h.addr, h.pipe, h.inbound, htype, hdata,
    Int.not_lt.mpr h.ends, Nat.not_lt.mpr hlen, if_true, if_false, beq_self_eq_true, Bool.not_true, Bool.and_self, Bool.true_or,
    Bool.false_eq_true, and_false, or_false, run_cons, run_nil]
  exact ⟨_, rfl⟩

/-- A HANDSHAKE in a grant is a good response, ends what the grant accepts, and is then answered (R175). -/
theorem packetArrives_handshake (htype : (Header.ofBytes frame).type = Pt.handshake) (hlen : (Header.ofBytes frame).length = 4) :
    ∃ f status credit, (packetArrives port pos frame room).run s = (handshake port g.conv c g (Header.ofBytes frame).seq
      (bitsAt (ofBytes (framePayload frame)) 0 8) status credit).run ((modGrant port f).run ((goodResponse c.node).run s)) := by
  have hnodata : (Pt.handshake == Pt.data) = false := rfl
  have hother : Pt.handshake ≠ Pt.data := by decide
  rw [packetArrives, run_read]
  simp only [run_whenP, h.up, h.granted, h.conv, headerGood_of_frameGood h.good, h.good, h.packet, h.addr, h.pipe, h.inbound, htype, hlen, hnodata,
    hother, Int.not_lt.mpr (hlen ▸ h.ends), if_true, if_false, gt_iff_lt, beq_self_eq_true, Bool.not_true, Bool.and_self, Bool.or_true,
    Bool.false_eq_true, false_and, or_false, run_cons, run_nil]
  exact ⟨_, _, _, rfl⟩

end

/-! ### Data stored (R190, R193, R194) -/

section
variable {k : Nat} {c : Conv} {s : State}

/-- Data in order that there is room for is stored. -/
theorem dataArrives_stores {g : Grant} {seq : Nat} (hwants : c.wantsData = true) (howes : c.owesWait = false) (hgoes : c.state ≠ .aborting)
    (hclean : g.spoiled = false) (horder : (seq + 65536 - (c.inSeq0 + c.inCount) % 65536) % 65536 = 0) (hpressed : s.convPressed c = false)
    (payload : List Byte) : (dataArrives k c g seq payload true).run s = (storeData k payload).run s := by
  have hnoabort : (c.state == .aborting) = false := beq_false_of_ne hgoes
  rw [dataArrives, run_read]
  simp only [hwants, howes, hnoabort, hclean, horder, hpressed, Bool.not_true, Bool.not_false, Bool.or_self, Bool.and_self,
    Bool.false_eq_true, if_false, if_true]

/-- The bytes of a payload that a transfer still has room for. -/
def Conv.taken (c : Conv) (payload : List Byte) : Nat := min (c.length - c.stored) payload.length

theorem taken_eq_length {payload : List Byte} (hstored : c.stored = 0) (hfits : payload.length ≤ c.length) : c.taken payload = payload.length := by
  rw [Conv.taken, hstored, Nat.sub_zero, Nat.min_eq_right hfits]

/-- Where the bytes that fit go: the buffer of a command, or the tree logic's own list. -/
def State.storeBytes (s : State) (k : Nat) (c : Conv) (payload : List Byte) : Prog :=
  if c.tag.isSome then writePieces ((s.convIns c).getD 0) (s.queuePasid ((s.convIns c).getD 0)) (pieceRange c.pieces c.stored (c.taken payload))
    (payload.take (c.taken payload))
  else modConvOf k fun x => { x with bytes := x.bytes ++ payload.take (c.taken payload) }

/-- Storing a payload stores the bytes that fit and counts them; what follows changes neither the conversation nor host memory. -/
theorem storeData_stores (hconv : s.convOf k = some c) (hissue : c.tag ≠ none → s.canIssue (s.insFn ((s.convIns c).getD 0)) = true)
    (payload : List Byte) : ∃ f : Conv → Conv, (∀ x, (f x).stored = c.stored + c.taken payload ∧ (f x).bytes = x.bytes) ∧
      ((storeData k payload).run s).convOf k = (((s.storeBytes k c payload).run s).convOf k).map f ∧
      ((storeData k payload).run s).host = ((s.storeBytes k c payload).run s).host := by
  have hgoes : (c.tag.isSome && c.taken payload != 0 && !s.canIssue (s.insFn ((s.convIns c).getD 0))) = false := by
    by_cases htag : c.tag = none
    · rw [htag]; rfl
    · rw [hissue htag, Bool.not_true, Bool.and_false]
  have herror (b : Bool) (u : State) : ((whenP b (nodeError c.node)).run u).conv = u.conv ∧ ((whenP b (nodeError c.node)).run u).host = u.host :=
    ⟨run_conv (within_whenP (nodeError_within (pm := 0x40000000) (by decide) _)) (by decide) u,
      run_host (within_whenP (nodeError_within (pm := 0x40000000) (by decide) _)) (by decide) u⟩
  have hseq (u : State) : ((keepSeq k).run u).host = u.host := run_host (keepSeq_within (pm := 0x80000000) (by decide) k) (by decide) u
  rw [storeData, run_read]
  simp only [hconv]
  rw [← Conv.taken, if_neg (by rw [hgoes]; decide), ← State.storeBytes, run_cons, run_cons, run_cons, run_cons, run_nil,
    convOf_congr (herror _ _).1, keepSeq_convOf, convOf_modConvOf, (herror _ _).2, hseq]
  refine ⟨_, ?_, rfl, rfl⟩
  exact fun _ => ⟨rfl, rfl⟩

theorem storeBytes_own (htag : c.tag = none) (payload : List Byte) :
    s.storeBytes k c payload = modConvOf k fun x => { x with bytes := x.bytes ++ payload.take (c.taken payload) } := by
  rw [State.storeBytes, if_neg (by rw [htag]; decide)]

/-- A range that lies in the one piece of a buffer, from its start. -/
theorem pieceRange_single {a n len : Nat} (hpos : 0 < len) (hle : len ≤ n) : pieceRange [(a, n)] 0 len = [(a, len)] := by
  have hrest : pieceRange [] 0 (len - min len (n - 0)) = [] := rfl
  rw [pieceRange, if_neg (by omega), if_neg (by omega), hrest, Nat.sub_zero, Nat.min_eq_left hle, Nat.add_zero]

/-- The first bytes of a transfer, where all of them fit, go to the start of its command's buffer; the conversation is as it was, and where no
page is logged host memory takes no other byte. -/
theorem storeBytes_buffer {a : Nat} {payload : List Byte} (htag : c.tag ≠ none) (hpieces : c.pieces = [(a, c.length)]) (hstored : c.stored = 0)
    (hpos : 0 < payload.length) (hfits : payload.length ≤ c.length) (hlog : s.bit Fld.INS_LOG_CFG.RUNNING ((s.convIns c).getD 0) = false) :
    ((s.storeBytes k c payload).run s).conv = s.conv ∧ ((s.storeBytes k c payload).run s).host = writeBytes memDefault s.host a payload := by
  rw [State.storeBytes, if_pos (Option.isSome_iff_ne_none.mpr htag), taken_eq_length hstored hfits, hpieces, hstored, pieceRange_single hpos hfits,
    List.take_length]
  refine ⟨run_conv (writePieces_within (pm := 0x6540500) (by decide) _ _ _ _) (by decide) s, ?_⟩
  rw [writePieces, List.take_length, writePieces, run_seq, run_skip, insWrite_host hlog]

end

theorem queueKept_quiet (s : State) : QueueKept s s.quiet := ⟨rfl, rfl, fun _ _ _ => rfl, fun _ _ _ => rfl⟩

theorem QueueKept.trans {s t u : State} (hst : QueueKept s t) (htu : QueueKept t u) : QueueKept s u :=
  ⟨htu.q.trans hst.q, htu.fns.trans hst.fns, fun f n h => (htu.qm f n h).trans (hst.qm f n h), fun f n h => (htu.ins f n h).trans (hst.ins f n h)⟩

theorem QueueKept.convPressed {s t : State} (h : QueueKept s t) (c : Conv) : t.convPressed c = s.convPressed c := by
  have hcmd : t.cmd = s.cmd := by funext tag; rw [State.cmd, h.q, State.cmd]
  simp only [State.convPressed, hcmd, State.cqBarred, State.cqCount, State.heldFor, State.bit, h.cqOf, h.cqSize, h.q,
    h.qm Fld.QM_SQ_STATUS.PAUSE _ (by decide), h.qm Fld.QM_SQ_CFG.OWNER _ (by decide), h.qm Fld.QM_SQ_CFG.CQ _ (by decide),
    h.qm Fld.QM_CQ_INDICES.TAIL _ (by decide), h.qm Fld.QM_CQ_INDICES.HEAD _ (by decide), h.qm Fld.QM_CQ_STATUS.BACKPRESSURE _ (by decide)]

/-! ### Handshakes (R192, R195, R199) -/

section
variable {k : Nat} {c : Conv} {s : State}

/-- A STALL ends the transfer and halts its pipe, unless it is pipe 0. -/
theorem stallAnswer_ends (hconv : s.convOf k = some c) : ((stallAnswer k).run s).convOf k = none ∧
    (((stallAnswer k).run s).pipeCtx c.node c.pipe).lastStatus = St.stalled ∧
    (c.pipe ≠ 0 → (((stallAnswer k).run s).pipeCtx c.node c.pipe).halted = true) := by
  obtain ⟨u, hu⟩ : ∃ u, u = (whenP (c.pipe != 0) (modPipe c.node c.pipe fun p => { p with halted := true })).run s := ⟨_, rfl⟩
  have hconv' : u.convOf k = some c := by rw [hu, run_whenP]; split <;> exact hconv
  have hhalted (hpipe : c.pipe ≠ 0) : (u.pipeCtx c.node c.pipe).halted = true := by
    rw [hu, run_whenP, if_pos (bne_iff_ne.mpr hpipe), pipeCtx_modPipe_same]
  obtain ⟨hgone, hpipe⟩ := convDone_ends hconv' St.stalled
  rw [stallAnswer, run_read]
  simp only [hconv]
  rw [run_cons, run_cons, run_nil, ← hu, hpipe]
  exact ⟨hgone, rfl, hhalted⟩

theorem handshake_stall (hgoes : c.state ≠ .aborting) (port seq status credit : Nat) (g : Grant) :
    handshake port k c g seq 0x04 status credit = stallAnswer k := by
  rw [handshake, if_neg hgoes, if_pos rfl]

/-- A conversation whose node has acknowledged packets and advertised a credit (R191). -/
def Conv.credited (c : Conv) (credit : Nat) : Conv := { c.heard with credit := max 1 (min 16 credit) }

/-- An ACK in the window of an outbound data stage frees the packets before its SEQ. -/
theorem handshake_ack {g : Grant} {seq d : Nat} (hactive : c.state = .active) (hstage : c.stage = .data) (hask : g.forData = false)
    (hd : d = (seq + 65536 - (c.seq0 + c.base) % 65536) % 65536) (hwindow : d ≤ c.sent - c.base) (port status credit : Nat) :
    handshake port k c g seq 0x01 status credit = seqs [
      modConvOf k fun x => x.credited credit, windowTo k (c.base + d) g false] := by
  have hgoes : ¬ c.state = .aborting := by rw [hactive]; decide
  have hdata : ¬ c.stage = .status := by rw [hstage]; decide
  rw [handshake, if_neg hgoes, if_neg (by decide), if_neg (by decide), if_neg (by rw [hask]; decide), ← hd, if_neg (by simp [hwindow]),
    if_neg hdata, if_neg (by decide)]
  rfl

/-- Where every packet of a bulk-out transfer is acknowledged, and none is to be sent again, it ends with SUCCESS. -/
theorem windowTo_ends {g : Grant} {i : Nat} (hconv : s.convOf k = some c) (hbulk : c.control = false) (hout : c.inbound = false)
    (hsent : g.sent ≤ i) (hall : c.outPackets ≤ i) : ((windowTo k i g false).run s).convOf k = none ∧
      (((windowTo k i g false).run s).pipeCtx c.node c.pipe).lastStatus = St.success := by
  rw [windowTo]
  simp only [Bool.false_eq_true, if_false]
  rw [retryPackets_of_le hconv hsent, run_cons, run_cons, run_cons, run_nil, run_read]
  generalize hu : (keepSeq k).run _ = u
  obtain ⟨v, hv, hvbulk, hvout, hvall, hvnode, hvpipe⟩ : ∃ v, u.convOf k = some v ∧ v.control = false ∧ v.inbound = false ∧
      v.outPackets ≤ v.base ∧ v.node = c.node ∧ v.pipe = c.pipe := by
    rw [← hu, keepSeq_convOf, convOf_modConvOf, hconv]
    exact ⟨_, rfl, hbulk, hout, hall, rfl, rfl⟩
  simp only [hv, hvbulk, hvout, Bool.false_and, Bool.false_eq_true, if_false, Bool.not_false, Bool.true_and, ge_iff_le, hvall, decide_true, if_true]
  obtain ⟨hgone, hpipe⟩ := convDone_ends hv St.success
  rw [hvnode, hvpipe] at hpipe
  exact ⟨hgone, by rw [hpipe]⟩

end

end Sys2Proof.Machine

/-! SUPPORT. The proof of the statement of conversations (file 06; Machine/Conversations.lean). -/

namespace Sys2Proof.Machine

/-! ### Packets and grants sent (R177, R178, R200) -/

section
variable {k slot : Nat} {c : Conv} {s : State}

/-- PACKET_SEND of outbound data: the packet leaves after the requests for its bytes, of which there are none without a command. -/
theorem packetSend_sends (h : s.MaySend k slot c) (hactive : c.state = .active) (habort : c.abortAsked = false) (howes : c.owesWait = false)
    (hclosing : c.closing = false) (hpressed : s.convPressed c = false) (hstamp : c.stamp = 0)
    (hissue : c.tag ≠ none → s.canIssue (s.insFn ((s.convIns c).getD 0)) = true) : ∃ t asked, exec (.packetSend k slot) s = .next t ∧
      t.out = asked ++ [s.packetSent (s.convPort c) c (if c.control && c.next == 0 then 1 else 0) ((c.seq0 + c.next) % 65536)
        (s.packetBytes c c.next)] ∧
      (t.convOf k).map (·.sent) = some (max c.sent (c.next + 1)) ∧ keepsBut [(Fld.GBL_PCIE_EVENT.PASID_IGNORED, 0)] s t ∧
      (c.tag = none → asked = [] ∧ (s.lane (s.convPort c)).txUntil ≤ (t.lane (s.convPort c)).txUntil ∧ keepsBut [] s t) := by
  obtain ⟨ns, frac, ins, pointers, hrun⟩ := packetSend_data h.quiet hactive habort howes hclosing hpressed hissue
  obtain ⟨v, hv⟩ : ∃ v, v = s.quiet.picked (s.convPort c) (s.chr.meridNs + 32 * (slot + s.nextPacketSlots c)) ns frac ins pointers :=
    ⟨_, rfl⟩
  have huntil : (v.lane (s.convPort c)).txUntil = s.chr.meridNs + 32 * (slot + s.nextPacketSlots c) := by rw [hv, picked_txUntil]
  obtain ⟨u, hu⟩ : ∃ u, u = (askNext ((s.convIns c).getD 0) c).run v := ⟨_, rfl⟩
  have hkeeps : keepsBut [(Fld.GBL_PCIE_EVENT.PASID_IGNORED, 0)] s u := by
    rw [hu]; exact (keepsBut_of_regs (by rw [hv]; rfl)).trans (askNext_keeps _ _ _)
  have hconv : u.convOf k = some c := by
    rw [hu, convOf_congr (run_conv (askNext_within _ _) (by decide) _), hv]; exact h.conv
  have hhost : u.host = s.host := by rw [hu, run_host (askNext_within _ _) (by decide), hv]; rfl
  have hgen : u.fld Fld.LNK_STATUS.GEN (s.convPort c) = s.fld Fld.LNK_STATUS.GEN (s.convPort c) :=
    hkeeps _ _ fun e he => by rw [List.mem_singleton.mp he]; exact key_ne (by decide) _ _
  obtain ⟨f, hf, hsend⟩ := sendData_sends (k := k) (port := s.convPort c) (s := u) hstamp
  have hnext : exec (.packetSend k slot) s = .next ((sendData k c (s.convPort c)).run u) := by
    rw [hu, hv]; exact congrArg Host.Outcome.next hrun
  rw [hsend] at hnext
  refine ⟨_, u.out, hnext, ?_, ?_, hkeeps, fun htag => ?_⟩
  · rw [packetSent_congr hgen, packetBytes_congr hhost]; rfl
  · rw [convOf_modConvOf, show (u.withSent _).convOf k = some c from hconv, Option.map_some, Option.map_some, hf]
  · have hsame : u = v := by rw [hu, run_askNext_of_no_tag htag]
    rw [hsame]
    exact ⟨by rw [hv]; rfl, h.txUntil_le.trans_eq huntil.symm, keepsBut_of_regs (by rw [hv]; rfl)⟩

/-- TRANSFER_ABORT of a conversation that aborts sends exactly the ABORT. -/
theorem transferAbort_sends (h : s.MaySend k slot c) (haborting : c.state = .aborting) (hnew : c.abortSent = false) :
    ∃ t, exec (.transferAbort k slot) s = .next t ∧ t.out = [s.packetSent (s.convPort c) c 2 0 (handshakeBytes 0x06 0 0)] ∧
      (t.convOf k).map (·.abortSent) = some true ∧ keepsBut [] s t := by
  have hexec : exec (.transferAbort k slot) s = execTransferAbort k slot s := rfl
  have hnow : (c.abortAsked || c.state == .aborting && !c.abortSent) = true := by simp [haborting, hnew]
  obtain ⟨ns, frac, ins, pointers, hrun⟩ := packetSend_abort h.quiet haborting
  rw [hexec]
  simp only [execTransferAbort, h.conv]
  refine whenP_next hnow (finish_next ?_)
  rw [hrun, run_sendPacket, convOf_modConvOf]
  generalize hu : (whenP c.abortAsked (toAborting k)).run _ = u
  have hregs : u.regs = s.regs := by rw [← hu, run_whenP]; split <;> rfl
  have hout : u.out = [] := by rw [← hu, run_whenP]; split <;> rfl
  obtain ⟨x, hx⟩ : ∃ x, u.convOf k = some x := by
    rw [← hu, run_whenP]
    split
    · rw [toAborting, convOf_modConvOf]
      exact ⟨_, congrArg _ h.conv⟩
    · exact ⟨c, h.conv⟩
  rw [show (u.withSent _).convOf k = some x from hx, ← packetSent_congr (fld_congr hregs _ _)]
  exact ⟨congrArg (· ++ _) hout, rfl, keepsBut_of_regs hregs⟩

/-- GRANT_SEND for a bulk transfer that waits for data sends exactly the grant and remembers its range. -/
theorem grantSend_sends {r n : Nat} (h : s.MayGrant k slot r n c) (hwants : c.wantsData = true) (hbulk : c.control = false)
    (hactive : c.state = .active) (hpressed : s.convPressed c = false) : ∃ t, exec (.grantSend k slot r n true) s = .next t ∧
      t.out = [s.packetSent (s.convPort c) c 3 ((c.inSeq0 + c.inCount) % 65536)
        (toBytes (s.tickLow 8 + (s.grantStart c r).toNat * 2 ^ 8 + n * 2 ^ 23) 4)] ∧
      tget {} t.conv.grants (s.convPort c) = s.dataGrant k r n c ∧ keepsBut [] s t := by
  obtain ⟨ns, frac, ins, pointers, hrun⟩ := grantSend_data h.quiet hwants hbulk hactive hpressed
  have hexec : exec (.grantSend k slot r n true) s = .next ((grantSend k slot r n true).run s.quiet) := rfl
  rw [hexec, hrun]
  refine ⟨_, rfl, rfl, ?_, keepsBut_of_regs rfl⟩
  exact Sparse.get_set_same _ _ _ _

end

/-! ### Starts and timers (R195, R198, R208, R210) -/

section
variable {k : Nat} {c : Conv} {s : State} (hconv : s.convOf k = some c)
include hconv

theorem conversationStart_starts (hqueued : c.state = .queued) (hmute : s.mute = false)
    (hown : (c.tag.isSome && c.control && controllerOnly ((s.convIns c).getD 0) c.setup) = false)
    (hrun : ((s.pipeCtx c.node c.pipe).halted && c.pipe != 0) = false) (hnode : (s.node c.node).state = .active)
    (hclear : s.convBlocked k c = false) (hused : s.pair.freshPipes.contains (c.node * 32 + c.pipe) = false) :
    ∃ t, exec (.conversationStart k) s = .next t ∧ (t.convOf k).map (·.state) = some .active ∧ t.out = [] ∧ keepsBut [] s t := by
  obtain ⟨f, p, hf, hstart⟩ := convStart_starts (s := s.quiet) hconv hqueued hmute hown hrun hnode hclear hused
  obtain ⟨hconv', hout, hregs⟩ : ((whenP c.control (modPipe c.node 0 p)).run s.quiet).convOf k = some c ∧
      ((whenP c.control (modPipe c.node 0 p)).run s.quiet).out = [] ∧ ((whenP c.control (modPipe c.node 0 p)).run s.quiet).regs = s.regs := by
    rw [run_whenP]
    split <;> exact ⟨hconv, rfl, rfl⟩
  refine ⟨_, congrArg Host.Outcome.next hstart, ?_, hout, keepsBut_of_regs hregs⟩
  rw [convOf_modConvOf_of_some hconv', Option.map_some, hf]

theorem backpressureRelease_goesOn (hback : c.state = .backoff) (hheld : c.pressed = true) (hpressed : s.convPressed c = false) :
    ∃ t, exec (.backpressureRelease k) s = .next t ∧ (t.convOf k).map (·.state) = some .active ∧ keepsBut [] s t := by
  have hexec : exec (.backpressureRelease k) s = execBackpressureRelease k s := rfl
  have hnow : (c.state == .backoff && c.pressed && !s.convPressed c) = true := by simp [hback, hheld, hpressed]
  rw [hexec]
  simp only [execBackpressureRelease, hconv]
  refine whenP_next hnow (finish_next ?_)
  rw [convOf_modConvOf_of_some (s := s.quiet) hconv]
  exact ⟨rfl, keepsBut_of_regs rfl⟩

theorem waitBackoffEnd_goesOn (hback : c.state = .backoff) (hheld : c.pressed = false) (hreach : s.reaches c.backNs = true)
    (htick : c.backTick ≤ s.tick) :
    ∃ t, exec (.waitBackoffEnd k) s = .next t ∧ (t.convOf k).map (·.state) = some .active ∧ keepsBut [] s t := by
  have hexec : exec (.waitBackoffEnd k) s = execWaitBackoffEnd k s := rfl
  have hnow : (c.state == .backoff && !c.pressed) = true := by simp [hback, hheld]
  rw [hexec]
  simp only [execWaitBackoffEnd, hconv]
  refine whenP_next hnow (atNs_next hreach fun frac => ?_)
  have hnow' : decide (c.backTick ≤ (s.quiet.atInstant (max s.chr.ns c.backNs) frac).tick) = true := decide_eq_true htick
  rw [run_read, run_whenP, if_pos hnow', convOf_modConvOf_of_some (s := s.quiet.atInstant _ _) hconv]
  exact ⟨rfl, keepsBut_of_regs rfl⟩

theorem handshakeGrantTimer_asks {t0 : Nat} (hsent : c.sentAt.lookup c.base = some t0) (hactive : c.state = .active) (hopen : c.base < c.sent)
    (hreach : s.reaches (t0 + 8000) = true) : ∃ t, exec (.handshakeGrantTimer k) s = .next t ∧ (t.convOf k).map (·.askDue) = some true ∧
      t0 + 8000 ≤ t.chr.ns ∧ keepsBut [] s t := by
  have hexec : exec (.handshakeGrantTimer k) s = execHandshakeGrantTimer k s := rfl
  have hnow : (c.state == .active && decide (c.base < c.sent)) = true := by simp [hactive, hopen]
  rw [hexec]
  simp only [execHandshakeGrantTimer, hconv, hsent]
  refine whenP_next hnow (atNs_next hreach fun frac => ?_)
  rw [convOf_modConvOf_of_some (s := s.quiet.atInstant _ _) hconv]
  exact ⟨rfl, Nat.le_max_right _ _, keepsBut_of_regs rfl⟩

section
variable {t0 : Nat} (hwait : c.waitFrom = some t0) (hreach : s.reaches (t0 + 1000000000) = true)
include hwait hreach

/-- A transfer that was answered WAIT alone for 1,000 ms ends with TIMEOUT. -/
theorem waitTimeout_ends (hgoes : c.state ≠ .aborting) :
    ∃ t, exec (.waitTimeout k) s = .next t ∧ t.convOf k = none ∧ (t.pipeCtx c.node c.pipe).lastStatus = St.timeout := by
  have hexec : exec (.waitTimeout k) s = execWaitTimeout k s := rfl
  rw [hexec]
  simp only [execWaitTimeout, hconv, hwait, hgoes, if_false]
  refine atNs_next hreach fun frac => ?_
  obtain ⟨hgone, hpipe⟩ := convDone_ends (s := s.quiet.atInstant (max s.chr.ns (t0 + 1000000000)) frac) hconv St.timeout
  exact ⟨hgone, by rw [hpipe]⟩

/-- A transfer that aborts ends then as one whose retries have run out. -/
theorem waitTimeout_aborts (haborting : c.state = .aborting) :
    ∃ t, exec (.waitTimeout k) s = .next t ∧ t.convOf k = none ∧ (t.pipeCtx c.node c.pipe).lastStatus = c.endStatus := by
  have hexec : exec (.waitTimeout k) s = execWaitTimeout k s := rfl
  rw [hexec]
  simp only [execWaitTimeout, hconv, hwait, haborting, if_true]
  refine atNs_next hreach fun frac => ?_
  rw [run_cons, run_cons, run_nil]
  generalize hu : (whenP (c.pipe != 0) (modPipe c.node c.pipe fun p => { p with halted := true })).run _ = u
  have hconv' : u.convOf k = some c := by rw [← hu, run_whenP]; split <;> exact hconv
  obtain ⟨hgone, hpipe⟩ := convDone_ends hconv' c.endStatus
  exact ⟨hgone, by rw [hpipe]⟩

end
end

/-! ### Grants that go unanswered (R197) -/

theorem missed_conv (a : Nat) (s : State) : ((missed a).run s).conv = s.conv :=
  run_conv (missed_within (pm := 0x20040000004) (by decide) a) (by decide) s

section
variable {port : Nat} {g : Grant} {c : Conv} {s : State} (hgrant : s.conv.grants.lookup port = some g) (hnew : g.begun = false)
  (hopen : g.closed = false) (hreach : s.reaches (g.merid + 32 * (g.next + max 1 g.extra)) = true) (hconv : s.convOf g.conv = some c)
  (hgoes : c.state ≠ .aborting) (hdata : g.forData = true)
include hgrant hnew hopen hreach hconv hgoes hdata

/-- A grant for data whose accepting slots pass is closed, and the packet at its SEQ is to be sent again. -/
theorem grantUnanswered_retries {P : State → Prop} (h : ∀ u : State, u.convOf g.conv = some c → (tget {} u.conv.grants port).closed = true →
      P ((retryPackets g.conv (inKey c.inCount) (inKey c.inCount + 1) .skip).run u)) : ∃ t, exec (.grantUnanswered port) s = .next t ∧ P t := by
  have hexec : exec (.grantUnanswered port) s = execGrantUnanswered port s := rfl
  have hnow : (!g.begun && !g.closed) = true := by simp [hnew, hopen]
  rw [hexec]
  simp only [execGrantUnanswered, hgrant]
  refine whenP_next hnow (atNs_next hreach fun frac => ?_)
  rw [run_cons, run_cons, run_cons, run_nil]
  generalize hv : (modGrant port _).run _ = v
  have hconv' : ((missed g.node).run v).convOf g.conv = some c := by rw [convOf_congr (missed_conv _ _), ← hv]; exact hconv
  rw [unanswered_data hconv' hgoes hdata]
  refine h _ hconv' ?_
  rw [missed_conv, ← hv]
  exact congrArg Grant.closed (Sparse.get_set_same _ _ _ _)

end

/-! ### Frames received (R190, R199) -/

/-- DATA_RECEIVE and HANDSHAKE_RECEIVE each take the packet of their type. -/
theorem dataReceive_eq {port : Nat} {pos : Int} {frame : List Byte} {room : Bool} (htype : (Header.ofBytes frame).type = Pt.data) (s : State) :
    exec (.dataReceive port pos frame room) s = finish (packetArrives port pos frame room) s := by
  have hexec : exec (.dataReceive port pos frame room) s = execDataReceive port pos frame room s := rfl
  have hnow : (!headerGood frame || (Header.ofBytes frame).type != Pt.handshake) = true := by rw [htype]; exact Bool.or_true _
  rw [hexec, execDataReceive, hnow]
  rfl

theorem handshakeReceive_eq {port : Nat} {pos : Int} {frame : List Byte} (htype : (Header.ofBytes frame).type = Pt.handshake) (s : State) :
    exec (.handshakeReceive port pos frame) s = finish (packetArrives port pos frame true) s := by
  have hexec : exec (.handshakeReceive port pos frame) s = execHandshakeReceive port pos frame s := rfl
  have hnow : (!headerGood frame || (Header.ofBytes frame).type == Pt.handshake) = true := by rw [htype]; exact Bool.or_true _
  rw [hexec, execHandshakeReceive, hnow]
  rfl

section
variable {port slot : Nat} {pos : Int} {frame : List Byte} {g : Grant} {c : Conv} {s : State} (h : s.Answered port slot pos frame g c)
include h

/-- A HANDSHAKE is answered in a state in which the conversation is the same. -/
theorem handshakeReceive_answers {P : State → Prop} (htype : (Header.ofBytes frame).type = Pt.handshake)
    (hlen : (Header.ofBytes frame).length = 4) (hp : ∀ (u : State) (status credit : Nat), u.convOf g.conv = some c →
      P ((handshake port g.conv c g (Header.ofBytes frame).seq (bitsAt (ofBytes (framePayload frame)) 0 8) status credit).run u)) :
    ∃ t, exec (.handshakeReceive port pos frame) s = .next t ∧ P t := by
  obtain ⟨f, status, credit, hrun⟩ := packetArrives_handshake (room := true) h.quiet htype hlen
  rw [handshakeReceive_eq htype]
  refine finish_next ?_
  rw [hrun]
  refine hp _ status credit ?_
  rw [convOf_modGrant, convOf_congr (goodResponse_conv _ _)]
  exact h.conv

section
variable (htype : (Header.ofBytes frame).type = Pt.data) (hdata : g.forData = true) (hlen : (Header.ofBytes frame).length ≤ 1024)
  (hwants : c.wantsData = true) (howes : c.owesWait = false) (hgoes : c.state ≠ .aborting) (hclean : g.spoiled = false)
  (horder : ((Header.ofBytes frame).seq + 65536 - (c.inSeq0 + c.inCount) % 65536) % 65536 = 0) (hpressed : s.convPressed c = false)
include htype hdata hlen hwants howes hgoes hclean horder hpressed

/-- Data in order, of a grant for data and with room, is stored in a state that has host memory and what the queue manager keeps as the one in
which it arrives. -/
theorem dataReceive_stores {P : State → Prop} (hp : ∀ u : State, u.convOf g.conv = some c.heard → u.host = s.host → QueueKept s u →
      P ((storeData g.conv (framePayload frame)).run u)) :
    ∃ t, exec (.dataReceive port pos frame true) s = .next t ∧ P t := by
  obtain ⟨f, hrun⟩ := packetArrives_data (room := true) h.quiet htype hdata hlen
  have hgrant := queueKept_within (modGrant_within (pm := 0x80000000) (by decide) port f) (by decide) (by decide) (by decide) (by decide)
    (by decide) ((goodResponse c.node).run s.quiet)
  have hheard := queueKept_within (modConvOf_within (pm := 0x80000000) (by decide) g.conv Conv.heard) (by decide) (by decide) (by decide)
    (by decide) (by decide) ((modGrant port f).run ((goodResponse c.node).run s.quiet))
  have hkept := (((queueKept_quiet s).trans (goodResponse_queueKept c.node s.quiet)).trans hgrant).trans hheard
  rw [dataReceive_eq htype]
  refine finish_next ?_
  rw [hrun]
  generalize hu : (modConvOf g.conv Conv.heard).run _ = u at hkept ⊢
  have hfree : u.convPressed c = false := (hkept.convPressed c).trans hpressed
  have hconv : ((modGrant port f).run ((goodResponse c.node).run s.quiet)).convOf g.conv = some c := by
    rw [convOf_modGrant, convOf_congr (goodResponse_conv _ _)]; exact h.conv
  rw [dataArrives_stores hwants howes hgoes hclean horder hfree]
  refine hp u ?_ ?_ hkept
  · rw [← hu]; exact convOf_modConvOf_of_some hconv _
  · rw [← hu, host_modConvOf, host_modGrant, goodResponse_host]; rfl

/-- A request of the tree logic keeps the bytes that fit, and host memory takes none. -/
theorem dataReceive_keepsBytes (htag : c.tag = none) : ∃ t, exec (.dataReceive port pos frame true) s = .next t ∧
    (t.convOf g.conv).map (·.bytes) = some (c.bytes ++ (framePayload frame).take (min (c.length - c.stored) (framePayload frame).length)) ∧
    (t.convOf g.conv).map (·.stored) = some (c.stored + min (c.length - c.stored) (framePayload frame).length) ∧ t.host = s.host := by
  refine dataReceive_stores h htype hdata hlen hwants howes hgoes hclean horder hpressed fun u hu hhost _ => ?_
  obtain ⟨f, hf, hstores, hkept⟩ := storeData_stores hu (fun h => absurd htag h) (framePayload frame)
  rw [storeBytes_own (c := c.heard) htag] at hstores hkept
  rw [hstores, convOf_modConvOf_of_some hu, hkept, Option.map_some, Option.map_some, Option.map_some, (hf _).1, (hf _).2]
  exact ⟨rfl, rfl, hhost⟩

/-- The first data of a command, where all of it fits, fills its buffer from the start; where no page is logged, no other byte of host memory
changes. -/
theorem dataReceive_fillsBuffer {tag a : Nat} (htag : c.tag = some tag) (hpieces : c.pieces = [(a, c.length)]) (hstored : c.stored = 0)
    (hpos : 0 < (Header.ofBytes frame).length) (hfits : (Header.ofBytes frame).length ≤ c.length)
    (hissue : s.canIssue (s.insFn ((s.convIns c).getD 0)) = true) (hlog : s.bit Fld.INS_LOG_CFG.RUNNING ((s.convIns c).getD 0) = false) :
    ∃ t, exec (.dataReceive port pos frame true) s = .next t ∧
      readBytes memDefault t.host a (Header.ofBytes frame).length = framePayload frame ∧ hostKept a (Header.ofBytes frame).length s t ∧
      (t.convOf g.conv).map (·.stored) = some (Header.ofBytes frame).length := by
  refine dataReceive_stores h htype hdata hlen hwants howes hgoes hclean horder hpressed fun u hu hhost hkept => ?_
  rw [← framePayload_length h.good] at hpos hfits ⊢
  have hcommand : c.heard.tag ≠ none := by rw [show c.heard.tag = some tag from htag]; exact Option.some_ne_none tag
  have hins : u.convIns c.heard = s.convIns c := by simp only [State.convIns, State.cmd, hkept.q]; rfl
  have hissue' : u.canIssue (u.insFn ((u.convIns c.heard).getD 0)) = true := by
    rw [hins, hkept.completionKept.insFn, State.canIssue, State.fn, hkept.fns]; exact hissue
  have hlog' : u.bit Fld.INS_LOG_CFG.RUNNING ((u.convIns c.heard).getD 0) = false := by
    rw [hins, State.bit, hkept.ins _ _ (by decide)]; exact hlog
  obtain ⟨f, hf, hstores, hhost'⟩ := storeData_stores hu (fun _ => hissue') (framePayload frame)
  obtain ⟨hconv, hbytes⟩ := storeBytes_buffer (k := g.conv) (c := c.heard) hcommand hpieces hstored hpos hfits hlog'
  rw [hbytes, hhost] at hhost'
  rw [hstores, convOf_congr hconv, hu, Option.map_some, Option.map_some, (hf _).1, hhost', taken_eq_length (c := c.heard) hstored hfits,
    show c.heard.stored = 0 from hstored, Nat.zero_add]
  exact ⟨readBytes_writeBytes _ _ _, hostKept_of_writeBytes hhost', rfl⟩

end
end

/-! ### The statement -/

/-- Settles O22: what leaves the port by `packetSend_sends`, `transferAbort_sends` and `grantSend_sends`, what arrives in a grant by
`dataReceive_stores` and `handshakeReceive_answers`, and what ends by `convDone_ends`. -/
theorem conversationsMoveByPacketsAndAnswers : Obligations.ConversationsMoveByPacketsAndAnswers := by
  unfold Obligations.ConversationsMoveByPacketsAndAnswers
  refine ⟨?starts, ?stalls, ?packet, ?commandPacket, ?abort, ?grant, fun _ _ _ => backpressureRelease_goesOn, fun _ _ _ => waitBackoffEnd_goesOn,
    fun _ _ _ _ hconv => handshakeGrantTimer_asks hconv, ?stores, ?storesBuffer, ?stall, ?ack, ?retries, ?timeout,
    fun _ _ _ _ hconv hwait hgoes hreach => waitTimeout_ends hconv hwait hreach hgoes,
    fun _ _ _ _ hconv hwait haborting hreach => waitTimeout_aborts hconv hwait hreach haborting⟩
  case starts =>
    intro k c s hconv hqueued hmute hown hrun hnode hclear hused
    exact conversationStart_starts hconv hqueued hmute hown hrun hnode hclear hused
  case stalls =>
    intro k c s hconv hqueued hmute hown hhalted hpipe
    have hstall := convStart_stalls (s := s.quiet) hconv hqueued hmute hown hhalted hpipe
    obtain ⟨hgone, hstatus⟩ := convDone_ends (s := s.quiet) hconv St.stalled
    exact ⟨_, congrArg Host.Outcome.next hstall, hgone, by rw [hstatus]⟩
  case packet =>
    intro k slot c s hconv hactive habort howes hclosing hwants hmute hup hfree hahead hpick hpressed htag hstamp
    obtain ⟨t, asked, hexec, hout, hsent, -, hrest⟩ := packetSend_sends ⟨hconv, hwants, hmute, hup, hfree, hahead, hpick⟩ hactive habort
      howes hclosing hpressed hstamp fun h => absurd htag h
    obtain ⟨hasked, hlane, hkeeps⟩ := hrest htag
    rw [hasked, List.nil_append] at hout
    exact ⟨t, hexec, hout, hsent, hlane, hkeeps⟩
  case commandPacket =>
    intro k slot c s hconv hactive habort howes hclosing hwants hmute hup hfree hahead hpick hpressed htag hstamp hissue
    obtain ⟨t, asked, hexec, hout, hsent, hkeeps, -⟩ := packetSend_sends ⟨hconv, hwants, hmute, hup, hfree, hahead, hpick⟩ hactive habort
      howes hclosing hpressed hstamp fun _ => hissue
    exact ⟨t, hexec, by rw [hout]; exact List.getLast?_concat, hsent, hkeeps⟩
  case abort =>
    intro k slot c s hconv haborting hnew hmute hup hfree hahead hpick
    have hwants : c.wantsPacket = true := by simp [Conv.wantsPacket, haborting, hnew]
    exact transferAbort_sends ⟨hconv, hwants, hmute, hup, hfree, hahead, hpick⟩ haborting hnew
  case grant =>
    intro k slot r n c s hconv hwants hmute hpos hfew hup hended hfree hahead hrange hpick hstart hfits hearly
    exact grantSend_sends ⟨hconv, hwants, hmute, hpos, hfew, hup, hended, hfree, hahead, hrange, hpick, hstart, hfits, hearly⟩
  case stores =>
    intro port slot pos frame g c s hup hgranted hconv hgood hpacket haddr hpipe hin htype hends hdata hlen hwants howes hgoes hclean horder
    exact dataReceive_keepsBytes ⟨hup, hgranted, hconv, hgood, hpacket, haddr, hpipe, hin, hends⟩ htype hdata hlen hwants howes hgoes hclean
      horder
  case storesBuffer =>
    intro port slot tag a pos frame g c s hup hgranted hconv hgood hpacket haddr hpipe hin htype hends hdata hlen hwants howes hgoes hclean
      horder hpressed
    exact dataReceive_fillsBuffer ⟨hup, hgranted, hconv, hgood, hpacket, haddr, hpipe, hin, hends⟩ htype hdata hlen hwants howes hgoes hclean
      horder hpressed
  case stall =>
    intro port slot pos frame g c s hup hgranted hconv hgood hpacket haddr hpipe hin htype hends hlen hcode hgoes
    refine handshakeReceive_answers ⟨hup, hgranted, hconv, hgood, hpacket, haddr, hpipe, hin, hends⟩ htype hlen fun u status credit hu => ?_
    rw [hcode, handshake_stall hgoes]
    exact stallAnswer_ends hu
  case ack =>
    intro port slot d pos frame g c s hup hgranted hconv hgood hpacket haddr hpipe hin htype hends hlen hcode hactive hstage hask hbulk hout hd
      hwindow hsent hall
    refine handshakeReceive_answers ⟨hup, hgranted, hconv, hgood, hpacket, haddr, hpipe, hin, hends⟩ htype hlen fun u status credit hu => ?_
    rw [hcode, handshake_ack hactive hstage hask hd hwindow, run_cons, run_cons, run_nil]
    generalize hv : (modConvOf g.conv _).run u = v
    have hconv' : v.convOf g.conv = some (c.credited credit) := by rw [← hv]; exact convOf_modConvOf_of_some hu _
    exact windowTo_ends (c := c.credited credit) hconv' hbulk hout hsent hall
  case retries =>
    intro port g c s hgrant hnew hopen hreach hconv hgoes hdata hbelow
    refine grantUnanswered_retries hgrant hnew hopen hreach hconv hgoes hdata fun u hu hclosed => ?_
    obtain ⟨f, hf, hcounts⟩ := retryPackets_counts hu hbelow .skip
    rw [hcounts, run_skip, convOf_modConvOf, hu, Option.map_some, Option.map_some, hf]
    exact ⟨rfl, hclosed⟩
  case timeout =>
    intro port g c s hgrant hnew hopen hreach hconv hgoes hdata hlimit
    refine grantUnanswered_retries hgrant hnew hopen hreach hconv hgoes hdata fun u hu _ => ?_
    obtain ⟨hgone, hpipe⟩ := convDone_ends hu St.timeout
    rw [retryPackets_ends hu hlimit]
    exact ⟨hgone, by rw [hpipe]⟩

end Sys2Proof.Machine

/-! SUPPORT. The proof of the statement of the transfer commands (file 06; Machine/Conversations.lean). -/

namespace Sys2Proof.Machine

/-! ### Conversations queued (R194, R201, R208) -/

/-- The conversation that a transfer command without a fragment table describes, queued for its node (R194, R201). -/
def State.queuedConv (s : State) (tag : Nat) (c : Cmd) (addr len : Nat) (v : Conv) : Conv :=
  { v with
    tag := some tag, pieces := if len = 0 then [] else [(addr, len)], length := len, port := (s.node v.node).port
    limit := if bitAt (c.at 7 1) 4 then c.at 7 1 % 16 else 7 }

section
variable {tag : Nat} {s : State} {c : Cmd}

/-- A transfer command without a fragment table runs and queues its conversation, at a controller that is not a standby. -/
theorem queueConv_queues (hcmd : s.cmd tag = some c) (hactive : s.standby = false) (hplain : c.flag 1 = false) (addr len : Nat) (v : Conv) :
    ((queueConv tag c addr len v).run s).stageOf tag = some .running ∧
      ((queueConv tag c addr len v).run s).conv.convs = s.conv.convs ++ [(s.conv.next, s.queuedConv tag c addr len v)] := by
  have hpieces : s.pieces c addr len = some (if len = 0 then [] else [(addr, len)]) := by rw [State.pieces, hplain]; rfl
  have hnotable (l : List (Nat × Nat)) : (keepTable c addr l).run s = s := by rw [keepTable, run_read, hplain]; rfl
  rw [queueConv, run_read]
  simp only [hactive, hplain, hpieces, Bool.false_and, Bool.false_eq_true, if_false]
  rw [run_cons, run_cons, run_cons, run_nil, hnotable]
  refine ⟨?_, rfl⟩
  rw [State.stageOf, show (Prog.run (modConv _) _).cmd tag = ((running tag).run s).cmd tag from rfl, running, cmd_modCmd_same, hcmd]
  rfl

/-- At a standby it completes with UNSUPPORTED (R431). -/
theorem queueConv_standby (hstandby : s.standby = true) (addr len : Nat) (v : Conv) :
    (queueConv tag c addr len v).run s = (complete tag St.unsupported).run s := by
  rw [queueConv, run_read, hstandby]
  rfl

/-- A command that is carried out by queueing a conversation answers the state that has it. -/
theorem transfer_queues {op : Nat} (addr len : Cmd → Nat) (v : Cmd → Conv) (hstart : s.startable tag op = some c) (hactive : s.standby = false)
    (hplain : c.flag 1 = false) : ∃ t, finish (withCmd tag op fun c => queueConv tag c (addr c) (len c) (v c)) s = .next t ∧
      t.stageOf tag = some .running ∧ t.conv.convs = s.conv.convs ++ [(s.conv.next, s.queuedConv tag c (addr c) (len c) (v c))] := by
  refine finish_next (P := fun t => _ ∧ _) ?_
  rw [withCmd_run (s := s.quiet) hstart]
  exact queueConv_queues (s := s.quiet) (startable_cmd hstart) hactive hplain _ _ _

/-- A command that only completes is gone and reported, and the conversations are as they were. -/
theorem complete_shows (hcmd : s.cmd tag = some c) (htakes : s.takesCompletion c = true) (status : Nat) :
    ((complete tag status).run s.quiet).cmd tag = none ∧ s.reports ((complete tag status).run s.quiet) c status = true ∧
      ((complete tag status).run s.quiet).conv = s.conv := by
  obtain ⟨hgone, hreports⟩ := (State.CompletionKept.refl s.quiet).completes hcmd htakes status
  exact ⟨hgone, hreports, complete_conv _ _ _ _ _⟩

/-- An active conversation whose abort is asked for goes on to its next packet boundary, with the status to end with (R200). -/
theorem abortConv_asks {k : Nat} {v : Conv} (hconv : s.convOf k = some v) (hactive : v.state = .active) (hnew : v.abortAsked = false) (status : Nat) :
    (abortConv k status).run s = (modConvOf k fun x => { x with abortAsked := true, endStatus := status }).run s := by
  have hstarted : ConvState.active ≠ .queued := by decide
  have hgoes : ConvState.active ≠ .aborting := by decide
  rw [abortConv, run_read]
  simp only [hconv, hactive, hnew, hstarted, hgoes, Bool.false_eq_true, or_self, if_false]

end

/-! ### The statement -/

/-- Settles O23: a transfer command is `queueConv`, and a read that faults completes the command or asks for its conversation's abort. -/
theorem transferCommandsQueueConversations : Obligations.TransferCommandsQueueConversations := by
  unfold Obligations.TransferCommandsQueueConversations
  refine ⟨fun _ _ _ => transfer_queues (fun c => c.at 16 8) (fun c => c.at 8 3) fun c => { node := c.at 4 2, pipe := c.at 6 1 },
    fun _ _ _ => transfer_queues (fun c => c.at 16 8) (fun c => c.at 8 3) fun c => { node := c.at 4 2, pipe := c.at 6 1, inbound := true },
    fun _ _ _ => transfer_queues (fun c => c.at 24 8) (fun c => c.at 14 2) fun c =>
      { node := c.at 4 2, control := true, stage := .setup, setup := (c.bytes.drop 8).take 16, inbound := bitAt (c.at 8 1) 7 },
    ?standby, ?fault, ?abort⟩
  case standby =>
    intro tag s c hstart hstandby htakes
    have hexec : exec (.bulkIn tag) s = .next ((complete tag St.unsupported).run s.quiet) := by
      show execBulkIn tag s = _
      rw [execBulkIn, finish_quiet, withCmd_run (s := s.quiet) hstart, queueConv_standby (s := s.quiet) hstandby]
    exact ⟨_, hexec, complete_shows (startable_cmd hstart) htakes _⟩
  case fault =>
    intro tag c s hnone hcmd hop hready htakes
    have hexec : exec (.bulkDataReadFault tag) s = .next ((complete tag St.dmaReadFault).run s.quiet) := by
      show execBulkDataReadFault tag s = _
      simp only [execBulkDataReadFault, hnone, hcmd, hop, hready]
      rfl
    exact ⟨_, hexec, complete_shows hcmd htakes _⟩
  case abort =>
    intro tag k c s htag hconv hactive hnew
    have hexec : exec (.bulkDataReadFault tag) s = finish (abortConv k St.dmaReadFault) s := by
      show execBulkDataReadFault tag s = _
      simp only [execBulkDataReadFault, htag]
    rw [hexec]
    refine finish_next ?_
    rw [abortConv_asks (s := s.quiet) hconv hactive hnew, convOf_modConvOf_of_some (s := s.quiet) hconv]
    exact ⟨rfl, rfl, keepsBut_of_regs rfl⟩

end Sys2Proof.Machine

/-! SUPPORT. What the statements of the helms and their tasks (file 07) are proved with: a helm and a task slot changed, a move of the chronometer,
the tasks that wait for a helm, and the bytes of a helm's memory. -/

namespace Sys2Proof.Machine

/-! ### Units kept by a program that does not reach them -/

theorem run_helms {m : Nat} {p : Prog} (hp : p.Within m) (h : m.testBit 36 = false) (s : State) : (p.run s).helms = s.helms :=
  (run_same_unit .helms (by decide) h p hp s).symm

theorem run_task {m : Nat} {p : Prog} (hp : p.Within m) (h : m.testBit 37 = false) (s : State) : (p.run s).task = s.task :=
  (run_same_unit .tasks (by decide) h p hp s).symm

theorem run_tcm {m : Nat} {p : Prog} (hp : p.Within m) (h : m.testBit 21 = false) (s : State) : (p.run s).tcm = s.tcm :=
  (run_same_unit .helmMemory (by decide) h p hp s).symm

theorem helm_congr {s t : State} (h : t.helms = s.helms) (k : Nat) : t.helm k = s.helm k := by rw [State.helm, h, State.helm]

theorem taskOf_congr {s t : State} (h : t.task.tasks = s.task.tasks) (k : Nat) : t.taskOf k = s.taskOf k := by rw [State.taskOf, h, State.taskOf]


/-! ### A helm changed -/

@[simp] theorem helm_modHelm_same (h : Nat) (f : HelmUnit → HelmUnit) (s : State) : ((modHelm h f).run s).helm h = f (s.helm h) := by
  simp only [modHelm, run_read, run_eff, State.helm, apply_helm, tget, Sparse.get_set_same]

theorem helm_modHelm_ne {h k : Nat} (hk : k ≠ h) (f : HelmUnit → HelmUnit) (s : State) : ((modHelm h f).run s).helm k = s.helm k := by
  simp only [modHelm, run_read, run_eff, State.helm, apply_helm, tget]
  exact Sparse.get_set_ne _ _ _ hk

@[simp] theorem modHelm_regs (h : Nat) (f : HelmUnit → HelmUnit) (s : State) : ((modHelm h f).run s).regs = s.regs := rfl
@[simp] theorem modHelm_fld (h : Nat) (f : HelmUnit → HelmUnit) (s : State) (g : Field) (n : Nat) : ((modHelm h f).run s).fld g n = s.fld g n := rfl
@[simp] theorem modHelm_tcm (h : Nat) (f : HelmUnit → HelmUnit) (s : State) : ((modHelm h f).run s).tcm = s.tcm := rfl
@[simp] theorem modHelm_task (h : Nat) (f : HelmUnit → HelmUnit) (s : State) : ((modHelm h f).run s).task = s.task := rfl
@[simp] theorem modHelm_taskOf (h k : Nat) (f : HelmUnit → HelmUnit) (s : State) : ((modHelm h f).run s).taskOf k = s.taskOf k := rfl

@[simp] theorem taskOf_fld (f : Field) (n v k : Nat) (s : State) : ((Eff.fld f n v).apply s).taskOf k = s.taskOf k := rfl
@[simp] theorem helm_modTaskOf (k : Nat) (f : TaskRec → TaskRec) (h : Nat) (s : State) : ((modTaskOf k f).run s).helm h = s.helm h := rfl

/-! ### A task slot changed -/

@[simp] theorem taskOf_modTaskOf_same (k : Nat) (f : TaskRec → TaskRec) (s : State) : ((modTaskOf k f).run s).taskOf k = f (s.taskOf k) := by
  simp only [modTaskOf, modTask, run_eff, State.taskOf, apply_task, tget, tset, Sparse.get_set_same]

theorem taskOf_modTaskOf_ne {k j : Nat} (h : j ≠ k) (f : TaskRec → TaskRec) (s : State) : ((modTaskOf k f).run s).taskOf j = s.taskOf j := by
  simp only [modTaskOf, modTask, run_eff, State.taskOf, apply_task, tget, tset]
  exact Sparse.get_set_ne _ _ _ h

@[simp] theorem modTaskOf_fld (k : Nat) (f : TaskRec → TaskRec) (s : State) (g : Field) (n : Nat) :
    ((modTaskOf k f).run s).fld g n = s.fld g n := rfl

/-- What is kept of each task slot by a change of one of them. -/
theorem taskOf_modTaskOf_keeps {α : Type} (g : TaskRec → α) {f : TaskRec → TaskRec} (hf : ∀ r, g (f r) = g r) (k j : Nat) (s : State) :
    g (((modTaskOf k f).run s).taskOf j) = g (s.taskOf j) := by
  by_cases h : j = k
  · rw [h, taskOf_modTaskOf_same, hf]
  · rw [taskOf_modTaskOf_ne h]

/-! ### The ready tasks (R239) -/

theorem length_insertTask (s : State) (e : Nat × TaskRec) (l : List (Nat × TaskRec)) : (s.insertTask e l).length = l.length + 1 := by
  induction l with
  | nil => rfl
  | cons a rest ih =>
    rw [State.insertTask]
    split
    · rfl
    · rw [List.length_cons, ih, List.length_cons]

/-- Inserting tasks in the order of R239 loses none. -/
theorem length_foldl_insertTask (s : State) (m l : List (Nat × TaskRec)) :
    (m.foldl (fun l e => s.insertTask e l) l).length = l.length + m.length := by
  induction m generalizing l with
  | nil => rfl
  | cons e rest ih => rw [List.foldl_cons, ih, length_insertTask, List.length_cons]; omega

theorem readyList_eq_nil_iff (s : State) : s.readyList = [] ↔ ∀ e ∈ s.task.tasks, e.2.readyAt = none := by
  rw [← List.length_eq_zero_iff, State.readyList, List.length_map, length_foldl_insertTask, List.length_nil, Nat.zero_add, List.length_eq_zero_iff,
    List.filter_eq_nil_iff]
  exact forall₂_congr fun e _ => by rw [Option.not_isSome_iff_eq_none]

theorem readyList_congr_nil {s t : State} (h : t.task.tasks = s.task.tasks) : t.readyList = [] ↔ s.readyList = [] := by
  rw [readyList_eq_nil_iff, readyList_eq_nil_iff, h]

theorem readyList_quiet_nil {s : State} (h : s.readyList = []) : s.quiet.readyList = [] :=
  (readyList_congr_nil (s := s) (t := s.quiet) rfl).mpr h

/-- Where no task is ready, no task slot is. -/
theorem readyAt_of_readyList_nil {s : State} (h : s.readyList = []) (k : Nat) : (s.taskOf k).readyAt = none := by
  have hall := (readyList_eq_nil_iff s).mp h
  unfold State.taskOf tget
  generalize s.task.tasks = m at hall
  induction m with
  | nil => rfl
  | cons e rest ih =>
    rw [Sparse.get]
    split
    · exact hall e List.mem_cons_self
    · exact ih fun x hx => hall x (List.mem_cons_of_mem _ hx)

/-- A change of a task slot that makes no task ready leaves none ready. -/
theorem readyList_modTaskOf_nil {s : State} (h : s.readyList = []) {k : Nat} {f : TaskRec → TaskRec}
    (hf : ∀ r, (f r).readyAt = r.readyAt := by exact fun _ => rfl) : ((modTaskOf k f).run s).readyList = [] := by
  rw [readyList_eq_nil_iff]
  intro e he
  have he' : e ∈ tset {} s.task.tasks k (f (s.taskOf k)) := he
  unfold tset Sparse.set at he'
  split at he'
  · exact (readyList_eq_nil_iff s).mp h e (List.mem_of_mem_filter he')
  · rcases Sparse.mem_ins he' with rfl | hold
    · exact (hf _).trans (readyAt_of_readyList_nil h k)
    · exact (readyList_eq_nil_iff s).mp h e hold

/-- With no task ready, nothing is dispatched. -/
theorem run_dispatchAll_nil {s : State} (h : s.readyList = []) (at12 : Nat) : (dispatchAll at12).run s = s := by
  rw [dispatchAll, run_read, h, run_forP_nil]

/-! ### A move of the chronometer -/

@[simp] theorem movedTo_regs (s : State) (ns : Nat) : (s.movedTo ns).regs = s.regs := by unfold State.movedTo; split <;> rfl
@[simp] theorem movedTo_helm (s : State) (ns h : Nat) : (s.movedTo ns).helm h = s.helm h := by unfold State.movedTo; split <;> rfl
@[simp] theorem movedTo_task (s : State) (ns : Nat) : (s.movedTo ns).task = s.task := by unfold State.movedTo; split <;> rfl
@[simp] theorem movedTo_tcm (s : State) (ns : Nat) : (s.movedTo ns).tcm = s.tcm := by unfold State.movedTo; split <;> rfl
@[simp] theorem movedTo_tick (s : State) (ns : Nat) : (s.movedTo ns).chr.tick = s.chr.tick := by unfold State.movedTo; split <;> rfl
@[simp] theorem movedTo_meridNs (s : State) (ns : Nat) : (s.movedTo ns).chr.meridNs = s.chr.meridNs := by unfold State.movedTo; split <;> rfl

/-! ### The bytes of a helm's memory -/

theorem tcmKey_congr {s t : State} {h : Nat} (hgen : (t.helm h).tcmGen = (s.helm h).tcmGen) (a : Nat) : t.tcmKey h a = s.tcmKey h a := by
  rw [State.tcmKey, hgen, State.tcmKey]

theorem tcmRead_congr {s t : State} {h : Nat} (htcm : t.tcm = s.tcm) (hgen : (t.helm h).tcmGen = (s.helm h).tcmGen) (a len : Nat) :
    t.tcmRead h a len = s.tcmRead h a len := by
  rw [State.tcmRead, htcm, tcmKey_congr hgen, State.tcmRead]

@[simp] theorem tcmPut_helm (h a : Nat) (bs : List Byte) (s : State) (k : Nat) : ((tcmPut h a bs).run s).helm k = s.helm k := rfl


/-- Where bytes have just been written to the memory of a helm, they are read. -/
theorem tcmRead_of_written {s t : State} {h a : Nat} {bs : List Byte} (htcm : t.tcm = writeBytes tcmDefault s.tcm (s.tcmKey h a) bs)
    (hgen : (t.helm h).tcmGen = (s.helm h).tcmGen) : t.tcmRead h a bs.length = bs := by
  rw [State.tcmRead, htcm, tcmKey_congr hgen]
  exact readBytes_writeBytes _ _ _

/-- Bytes written to the memory of a helm change no other byte of any helm. -/
theorem tcmKept_of_written {s t : State} {h a : Nat} {bs : List Byte} (htcm : t.tcm = writeBytes tcmDefault s.tcm (s.tcmKey h a) bs) :
    tcmKept (s.tcmKey h a) bs.length s t := fun k hk => by
  rw [htcm]; exact get_writeBytes_outside _ _ _ _ hk

end Sys2Proof.Machine

/-! SUPPORT. The refutation of the statement of helms that are switched, loaded and dispatched to (file 07; Machine/Tasks.lean). -/

namespace Sys2Proof.Machine

/-- A fabric write to bytes that the helm stores in the cycle in progress leaves what the helm stored: the helm's store is applied last (R216). -/
theorem tcmFabricWrite_after_store {h off at12 : Nat} {bs : List Byte} {s : State} (hh : h < 18) (hfits : off + bs.length ≤ 65536)
    (hstored : (s.helm h).stored = some (0x10000000 + off, bs.length, at12)) (hcycle : s.now12 < at12) :
    ((tcmFabricWrite h false off bs).run s).tcmRead h (0x10000000 + off) bs.length = s.tcmRead h (0x10000000 + off) bs.length := by
  have hfit : (decide (h < 18) && decide (off + bs.length ≤ 65536)) = true := by simp [hh, hfits]
  have hlen : (s.tcmRead h (0x10000000 + off) bs.length).length = bs.length := by simp [State.tcmRead, readBytes]
  simp only [tcmFabricWrite, run_read, run_whenP, hfit, if_true, Bool.false_and, Bool.false_eq_true, if_false, run_cons, run_nil, hstored,
    decide_eq_true hcycle]
  have hread {t : State} (htcm : t.tcm = writeBytes tcmDefault ((tcmPut h (0x10000000 + off) bs).run s).tcm (s.tcmKey h (0x10000000 + off))
      (s.tcmRead h (0x10000000 + off) bs.length)) (hgen : (t.helm h).tcmGen = (s.helm h).tcmGen) :
      t.tcmRead h (0x10000000 + off) (s.tcmRead h (0x10000000 + off) bs.length).length = s.tcmRead h (0x10000000 + off) bs.length :=
    tcmRead_of_written (s := (tcmPut h (0x10000000 + off) bs).run s) htcm hgen
  rw [hlen] at hread
  exact hread rfl (by rw [helm_modHelm_same]; rfl)

/-- A helm whose last store, of the first byte of its DTCM, ends in the cycle in progress. -/
def storingHelm : State := { helms := [(0, { stored := some (0x10000000, 1, 1) })] }

/-- Refutes O39: its clause of TCM_FABRIC_WRITE says that the bytes written are read, whatever the helm itself stores in the same cycle; but what the
helm stores in that cycle is applied last (R216). A helm has just stored the first byte of its DTCM, which is 0: the write of 1 to that byte leaves
it 0. -/
theorem not_helmsAreSwitchedLoadedAndDispatchedTo : ¬ Obligations.HelmsAreSwitchedLoadedAndDispatchedTo := by
  unfold Obligations.HelmsAreSwitchedLoadedAndDispatchedTo
  rintro ⟨-, -, -, -, hwrite, -⟩
  obtain ⟨t, ht, hread, -⟩ := hwrite 0 0 false [1] storingHelm (by decide) (by decide) (by decide)
  obtain rfl : (tcmFabricWrite 0 false 0 [1]).run storingHelm.quiet = t := Host.Outcome.next.inj ht
  have hkept := tcmFabricWrite_after_store (s := storingHelm.quiet) (h := 0) (off := 0) (bs := [1]) (by decide) (by decide) rfl (by decide)
  have hzero : storingHelm.quiet.tcmRead 0 0x10000000 1 = [0] := by decide
  exact absurd (hread.symm.trans (hkept.trans hzero)) (by decide)

end Sys2Proof.Machine

/-! SUPPORT. The proof of the statement of the task commands (file 07; Machine/Tasks.lean). -/

namespace Sys2Proof.Machine

/-! ### Elements of a field written one after another -/

/-- Each element that a list of writes reaches reads what was written to it. -/
theorem forP_putN_range {f : Field} (v : Nat → Nat) {n : Nat} (hn : n ≤ keySpan) {k : Nat} (hk : k < n) (s : State) :
    ((forP (List.range n) fun i => putN f i (v i)).run s).fld f k = v k % 2 ^ f.w := by
  induction n with
  | zero => omega
  | succ n ih =>
    rw [List.range_succ, run_forP_append, run_forP_cons, run_forP_nil, run_putN]
    by_cases hlast : k = n
    · rw [hlast, fld_fld_same]
    · rw [fld_fld_elem f (by omega) (by omega) hlast]
      exact ih (by omega) (by omega)

/-- A list of writes to listed elements keeps the other fields. -/
theorem keepsBut_forP_putN {l : List (Field × Nat)} {f : Field} {m : List Nat} (h : ∀ n ∈ m, (f, n) ∈ l) (v : Nat → Nat) (s : State) :
    keepsBut l s ((forP m fun i => putN f i (v i)).run s) :=
  run_forP_keeps (keepsBut l) (fun _ _ _ _ => rfl) (fun _ _ _ => .trans) m _ (fun n hn u => by rw [run_putN]; exact keepsBut_fld (h n hn) _ u) s

/-! ### One event at a task's counter (R234) -/

section
variable {k at12 : Nat} {sig : Bool} {s : State}

/-- An event at a counter above 1 takes one from it. -/
theorem run_taskCount_counts (harmed : (s.taskOf k).armed = true) (hcount : 1 < (s.taskOf k).count) (hsig : (sig && (s.taskOf k).live) = false) :
    (taskCount k at12 sig).run s = (modTaskOf k fun r => { r with count := r.count - 1 }).run s := by
  have hcounts : ¬ ((!(s.taskOf k).armed || decide ((s.taskOf k).count = 0) || (sig && (s.taskOf k).live)) = true) := by
    simp only [harmed, hsig, Bool.not_true, Bool.false_or, Bool.or_false, decide_eq_true_eq]; omega
  have hmore : ((s.taskOf k).count == 1) = false := by rw [beq_eq_false_iff_ne]; omega
  simp only [taskCount, run_read]
  rw [if_neg (by simpa using hcounts), hmore]
  rfl

/-- An event at a counter of 0 counts as extra. -/
theorem run_taskCount_extra (hcount : (s.taskOf k).count = 0) : (taskCount k at12 sig).run s = (taskExtra k).run s := by
  simp only [taskCount, run_read]
  rw [if_pos (by simp [hcount])]

/-- With no task ready, the event at a counter above 1 is all that a kick does. -/
theorem run_taskEvent_counts (harmed : (s.taskOf k).armed = true) (hcount : 1 < (s.taskOf k).count) (hready : s.readyList = []) :
    (taskEvent k at12).run s = (modTaskOf k fun r => { r with count := r.count - 1 }).run s := by
  rw [taskEvent, run_cons, run_cons, run_nil, run_taskCount_counts harmed hcount (Bool.false_and _),
    run_dispatchAll_nil (readyList_modTaskOf_nil hready)]

/-- With no task ready, counting as extra is all that a kick at a counter of 0 does. -/
theorem run_taskEvent_extra (hcount : (s.taskOf k).count = 0) (hready : s.readyList = []) :
    (taskEvent k at12).run s = (taskExtra k).run s := by
  have hnone : ((taskExtra k).run s).readyList = [] :=
    (readyList_congr_nil (s := (modTaskOf k fun r => { r with extraCnt := sat16 r.extraCnt }).run s) (t := (taskExtra k).run s) rfl).mpr
      (readyList_modTaskOf_nil hready)
  rw [taskEvent, run_cons, run_cons, run_nil, run_taskCount_extra hcount, run_dispatchAll_nil hnone]

end

/-! ### TSK_CMD (R232, R234, R250) -/

/-- A change of the task that TSK_INDEX names, marked DONE. -/
theorem tskDone_next {f : TaskRec → TaskRec} {p : Prog} {s : State} {k : Nat} (hp : p.run s.quiet = (modTaskOf k f).run s.quiet) :
    ∃ t, finish (seqs [p, tskDone]) s = .next t ∧ t.taskOf k = f (s.taskOf k) ∧ t.bit Fld.TSK_CMD_STATUS.DONE = true ∧
      keepsBut [(Fld.TSK_CMD_STATUS.DONE, 0)] s t := by
  refine finish_next (P := fun t => _ ∧ _ ∧ keepsBut _ s t) ?_
  rw [run_cons, hp, tskDone, run_cons, run_raise, run_nil]
  refine ⟨taskOf_modTaskOf_same _ _ _, ?_, (keepsBut_quiet _ s).fld (by simp) 1⟩
  rw [State.bit, fld_fld_same]; rfl

theorem tskWrite_accepted {s : State} (haccepted : s.descAccepted s.taskIndex s.stagedDesc = true) :
    tskWrite.run s = (seqs [taskWrite s.taskIndex s.stagedDesc, tskDone]).run s := by
  rw [tskWrite, run_read, if_pos haccepted]

theorem tskWrite_refused {s : State} (hrefused : s.descAccepted s.taskIndex s.stagedDesc = false) : tskWrite.run s = tskRefused.run s := by
  rw [tskWrite, run_read, if_neg (ne_true_of_eq_false hrefused)]

theorem tskRefused_next (s : State) : ∃ t, finish tskRefused s = .next t ∧ t.task = s.task ∧ t.bit Fld.TSK_CMD_STATUS.REFUSED = true ∧
    t.bit Fld.TSK_EVENT.CMD_REFUSED = true ∧ keepsBut [(Fld.TSK_CMD_STATUS.REFUSED, 0), (Fld.TSK_EVENT.CMD_REFUSED, 0)] s t := by
  refine finish_next (P := fun t => _ ∧ _ ∧ _ ∧ keepsBut _ s t) ?_
  rw [tskRefused, run_cons, run_raise, run_cons, run_raise, run_nil]
  refine ⟨rfl, ?_, ?_, ((keepsBut_quiet _ s).fld (by simp) 1).fld (by simp) 1⟩
  · rw [State.bit, fld_fld_ne (by decide), fld_fld_same]; rfl
  · rw [State.bit, fld_fld_same]; rfl

theorem tskKick_extra {s : State} (hcount : (s.taskOf s.taskIndex).count = 0) (hready : s.readyList = []) : ∃ t, exec .tskKick s = .next t ∧
    t.taskOf s.taskIndex = { s.taskOf s.taskIndex with extraCnt := min 65535 ((s.taskOf s.taskIndex).extraCnt + 1) } ∧
    t.bit Fld.TSK_EVENT.EXTRA = true ∧ keepsBut [(Fld.TSK_CMD_STATUS.DONE, 0), (Fld.TSK_EVENT.EXTRA, 0)] s t := by
  refine finish_next (p := seqs [taskEvent s.taskIndex s.now12, tskDone]) (P := fun t => _ ∧ _ ∧ keepsBut _ s t) ?_
  rw [run_cons, run_taskEvent_extra (s := s.quiet) hcount (readyList_quiet_nil hready), taskExtra, tskDone]
  simp only [run_cons, run_nil, run_raise, taskOf_fld, taskOf_modTaskOf_same, State.bit]
  refine ⟨rfl, ?_, ((keepsBut_quiet _ s).fld (by simp) 1).fld (by simp) 1⟩
  rw [fld_fld_ne (by decide), fld_fld_same]; rfl

/-! ### TASK_OP (R232, R234, R306) -/

theorem complete_task (tag status : Nat) (s : State) : ((complete tag status).run s).task = s.task :=
  run_task (complete_within (pm := 0x7540580) (by decide) _ _ _ _) (by decide) s

theorem modTaskOf_completionKept (k : Nat) (f : TaskRec → TaskRec) (s : State) : s.CompletionKept ((modTaskOf k f).run s) :=
  (queueKept_within (modTaskOf_within (pm := 0x2000000000) (by decide) k f) (by decide) (by decide) (by decide) (by decide) (by decide)
    s).completionKept

theorem writeData_task {tag addr : Nat} {c : Cmd} {bs : List Byte} {s : State} (hissue : s.canIssue (s.insFn c.ins) = true) :
    ((writeData tag c addr bs).run s).task = s.task := by
  rw [run_writeData hissue, complete_task, run_task (insWrite_within (pm := 0x6540500) (by decide) _ _ _ _ _) (by decide)]

section
variable {tag action : Nat} {k : Cmd → Nat → Prog} {s : State} {c : Cmd} (hstart : s.startable tag 0x14 = some c)
include hstart

theorem run_taskOp (haction : c.at 4 1 = action) (hlow : c.at 8 2 < 4096) (howner : (s.taskOf (c.at 8 2)).owner = c.ins) :
    (taskOp tag action k).run s = (k c (c.at 8 2)).run s := by
  rw [taskOp, withAction_run hstart haction, run_read, if_neg (not_or.mpr ⟨Nat.not_le.mpr hlow, not_not.mpr howner⟩)]

theorem run_taskOp_refused (haction : c.at 4 1 = action) (h : 4096 ≤ c.at 8 2 ∨ (s.taskOf (c.at 8 2)).owner ≠ c.ins) :
    (taskOp tag action k).run s = (complete tag St.badEntry).run s := by
  rw [taskOp, withAction_run hstart haction, run_read, if_pos h]

variable {i : Instr} (hexec : exec i s = finish (taskOp tag action k) s) (htakes : s.takesCompletion c = true)
include hexec htakes

/-- A TASK_OP that goes on from a state with a completion is gone and reported, and the tasks are those of that state. -/
theorem taskOp_completes {u : State} {status : Nat} (hrun : (taskOp tag action k).run s.quiet = (complete tag status).run u)
    (hkept : s.quiet.CompletionKept u) :
    ∃ t, exec i s = .next t ∧ t.cmd tag = none ∧ s.reports t c status = true ∧ t.task = u.task := by
  obtain ⟨hgone, hreports⟩ := hkept.completes (startable_cmd hstart) htakes status
  exact ⟨_, hexec.trans (congrArg Host.Outcome.next hrun), hgone, hreports, complete_task _ _ _⟩

/-- A TASK_OP that changes a slot of the issuer and completes. -/
theorem taskOp_changes (f : TaskRec → TaskRec)
    (hrun : (taskOp tag action k).run s.quiet = (complete tag St.success).run ((modTaskOf (c.at 8 2) f).run s.quiet)) :
    ∃ t, exec i s = .next t ∧ t.cmd tag = none ∧ s.reports t c St.success = true ∧ t.taskOf (c.at 8 2) = f (s.taskOf (c.at 8 2)) := by
  obtain ⟨t, ht, hgone, hreports, htask⟩ := taskOp_completes hstart hexec htakes hrun (modTaskOf_completionKept _ _ _)
  exact ⟨t, ht, hgone, hreports, (taskOf_congr (congrArg TaskUnit.tasks htask) _).trans (taskOf_modTaskOf_same _ _ _)⟩

end

/-- The bytes that READ_STATE returns (Table 07-21). -/
def TaskRec.stateBytes (r : TaskRec) : List Byte := (List.range 4).flatMap fun k => toBytes (r.stateWord k) 4

theorem stateBytes_length (r : TaskRec) : r.stateBytes.length = 16 := by simp [TaskRec.stateBytes, List.range, List.range.loop, toBytes]

/-- READ_STATE writes the 16 bytes of the state record and completes (R306). -/
theorem taskOpReadState_returns {tag : Nat} {s : State} {c : Cmd} (hstart : s.startable tag 0x14 = some c) (haction : c.at 4 1 = 4)
    (hlow : c.at 8 2 < 4096) (howner : (s.taskOf (c.at 8 2)).owner = c.ins) (hissue : s.canIssue (s.insFn c.ins) = true)
    (htakes : s.takesCompletion c = true) :
    ∃ t, exec (.taskOpReadState tag) s = .next t ∧ t.cmd tag = none ∧ s.reports t c St.success = true ∧
      (s.dropped c = true → s.bit Fld.INS_LOG_CFG.RUNNING c.ins = false →
        readBytes memDefault t.host (c.at 48 8) 16 = (s.taskOf (c.at 8 2)).stateBytes ∧ hostKept (c.at 48 8) 16 s t) ∧ t.task = s.task := by
  have hcmd : s.quiet.cmd tag = some c := startable_cmd hstart
  have hexec : exec (.taskOpReadState tag) s = .next ((writeData tag c (c.at 48 8) (s.taskOf (c.at 8 2)).stateBytes).run s.quiet) :=
    congrArg Host.Outcome.next (run_taskOp (s := s.quiet) hstart haction hlow howner)
  obtain ⟨hgone, hreports⟩ := writeData_completes (addr := c.at 48 8) (bs := (s.taskOf (c.at 8 2)).stateBytes) hcmd hissue htakes
  refine ⟨_, hexec, hgone, hreports, fun hdropped hlog => ?_, writeData_task hissue⟩
  have hhost := writeData_host (addr := c.at 48 8) (bs := (s.taskOf (c.at 8 2)).stateBytes) hcmd hissue hdropped hlog
  rw [← stateBytes_length (s.taskOf (c.at 8 2))]
  refine ⟨?_, hostKept_of_writeBytes (s := s.quiet) hhost⟩
  rw [hhost]
  exact readBytes_writeBytes _ _ _

/-! ### The statement -/

/-- Settles O40: a TSK_CMD is a change of one slot, or a refusal; a TASK_OP of the issuer's task is such a change before its completion; the snapshots
are writes of the words, and READ_STATE is `writeData`. -/
theorem tasksAreWrittenEnabledAndKicked : Obligations.TasksAreWrittenEnabledAndKicked := by
  unfold Obligations.TasksAreWrittenEnabledAndKicked
  refine ⟨?write, ?refused, fun s => tskDone_next (p := taskDue s.taskIndex true) rfl, fun s => tskDone_next (p := taskDue s.taskIndex false) rfl,
    fun s harmed hcount hready => tskDone_next (run_taskEvent_counts (s := s.quiet) harmed hcount (readyList_quiet_nil hready)),
    fun _ => tskKick_extra, ?clear, ?desc, ?state, ?opWrite, ?opWriteRefused, ?opEnable, ?opOther, ?opDisable, ?opKick,
    fun _ _ _ => taskOpReadState_returns⟩
  case write =>
    intro s haccepted
    obtain ⟨t, ht, h⟩ := tskDone_next (s := s) (p := taskWrite s.taskIndex s.stagedDesc) rfl
    exact ⟨t, (congrArg Host.Outcome.next (tskWrite_accepted (s := s.quiet) haccepted)).trans ht, h⟩
  case refused =>
    intro s hrefused
    obtain ⟨t, ht, h⟩ := tskRefused_next s
    exact ⟨t, (congrArg Host.Outcome.next (tskWrite_refused (s := s.quiet) hrefused)).trans ht, h⟩
  case clear =>
    intro s
    obtain ⟨t, ht, hrec, -, hkeeps⟩ := tskDone_next (s := s) (p := taskClear s.taskIndex) rfl
    exact ⟨t, ht, hrec, hkeeps⟩
  case desc =>
    intro s
    exact ⟨_, rfl, fun k hk => forP_putN_range _ (by decide) hk s.quiet,
      run_task (descSnapshot_within (pm := 0x20) (by decide)) (by decide) s.quiet, keepsBut_forP_putN (by decide) _ s.quiet⟩
  case state =>
    intro s
    exact ⟨_, rfl, fun k hk => forP_putN_range _ (by decide) hk s.quiet,
      run_task (stateSnapshot_within (pm := 0x20) (by decide)) (by decide) s.quiet, keepsBut_forP_putN (by decide) _ s.quiet⟩
  case opWrite =>
    intro tag s c hstart haction hlow howner haccepted hstaged htakes
    refine taskOp_changes hstart rfl htakes (fun r => { r with desc := (List.range 8).map fun k => c.at (16 + 4 * k) 4 }) ?_
    have hgoes : (s.quiet.descAccepted (c.at 8 2) ((List.range 8).map fun k => c.at (16 + 4 * k) 4) &&
        bitsAt (dword ((List.range 8).map fun k => c.at (16 + 4 * k) 4) 5) 0 12 == c.ins) = true :=
      Bool.and_eq_true_iff.mpr ⟨haccepted, beq_iff_eq.mpr hstaged⟩
    rw [run_taskOp (s := s.quiet) hstart haction hlow howner, run_read]
    dsimp only
    rw [if_pos hgoes]
    rfl
  case opWriteRefused =>
    intro tag s c hstart haction hlow howner hrefused htakes
    refine taskOp_completes (u := s.quiet) hstart rfl htakes ?_ (.refl _)
    rw [run_taskOp (s := s.quiet) hstart haction hlow howner, run_read, if_neg]
    rw [Bool.and_eq_true, not_and_or, Bool.not_eq_true, beq_iff_eq]
    exact hrefused
  case opEnable =>
    intro tag s c hstart haction hlow howner htakes
    exact taskOp_changes hstart rfl htakes (fun r => { r with due := some true }) (run_taskOp (s := s.quiet) hstart haction hlow howner)
  case opOther =>
    intro tag s c hstart haction hother htakes
    exact taskOp_completes (u := s.quiet) hstart rfl htakes (run_taskOp_refused (s := s.quiet) hstart haction hother) (.refl _)
  case opDisable =>
    intro tag s c hstart haction hlow howner htakes
    exact taskOp_changes hstart rfl htakes (fun r => { r with due := some false }) (run_taskOp (s := s.quiet) hstart haction hlow howner)
  case opKick =>
    intro tag s c hstart haction hlow howner harmed hcount hready htakes
    have hcounts := run_taskEvent_counts (s := s.quiet) (at12 := s.quiet.now12) harmed hcount (readyList_quiet_nil hready)
    obtain ⟨t, ht, hgone, hreports, hrec⟩ := taskOp_changes hstart (i := .taskOpKick tag) rfl htakes (fun r => { r with count := r.count - 1 })
      (by rw [run_taskOp (s := s.quiet) hstart haction hlow howner, run_cons, run_cons, run_nil, run_read, hcounts])
    exact ⟨t, ht, hgone, hreports, congrArg TaskRec.count hrec⟩

end Sys2Proof.Machine

/-! SUPPORT. What the statements of a helm's instructions are proved with (file 07; Machine/HelmExec.lean): the bank in use, the state at the end of
the last cycle of an instruction, and what an instruction leaves that writes one register, stores, or writes a floating-point result. -/

namespace Sys2Proof.Machine

/-! ### The bank in use (R218) -/

/-- The bank that a task, or background, uses. -/
def HelmUnit.bank (u : HelmUnit) (running : Bool) : Bank := if running then u.bank1 else u.bank0

/-- A change of the bank in use. -/
def HelmUnit.mapBank (running : Bool) (f : Bank → Bank) (u : HelmUnit) : HelmUnit :=
  if running then { u with bank1 := f u.bank1 } else { u with bank0 := f u.bank0 }

/-- A bank after a write of register x`rd`; x0 discards. -/
def Bank.put (b : Bank) (rd v : Nat) : Bank := if rd = 0 then b else { b with x := tset 0 b.x rd (v % 2 ^ 32) }

section
variable (b : Bank) (rd v : Nat)

@[simp] theorem put_pc : (b.put rd v).pc = b.pc := by unfold Bank.put; split <;> rfl
@[simp] theorem put_f : (b.put rd v).f = b.f := by unfold Bank.put; split <;> rfl
@[simp] theorem put_fcsr : (b.put rd v).fcsr = b.fcsr := by unfold Bank.put; split <;> rfl

theorem reg_put_same : (b.put rd v).reg rd = if rd = 0 then 0 else v % 2 ^ 32 := by
  unfold Bank.reg Bank.put
  by_cases hrd : rd = 0
  · rw [if_pos hrd, if_pos hrd]
  · rw [if_neg hrd, if_neg hrd, if_neg hrd]
    exact Sparse.get_set_same (d := fun _ => 0) b.x rd _

theorem reg_put_ne {i : Nat} (h : i ≠ rd) : (b.put rd v).reg i = b.reg i := by
  unfold Bank.reg Bank.put
  by_cases hrd : rd = 0
  · rw [if_pos hrd]
  · rw [if_neg hrd]
    exact congrArg (fun v => if i = 0 then 0 else v) (Sparse.get_set_ne _ _ _ h)

end

section
variable (running : Bool) (f : Bank → Bank) (u : HelmUnit)

@[simp] theorem bank_mapBank : (u.mapBank running f).bank running = f (u.bank running) := by
  cases running <;> rfl
@[simp] theorem mapBank_at12 : (u.mapBank running f).at12 = u.at12 := by cases running <;> rfl
@[simp] theorem mapBank_csr : (u.mapBank running f).csr = u.csr := by cases running <;> rfl
@[simp] theorem mapBank_task : (u.mapBank running f).task = u.task := by cases running <;> rfl
@[simp] theorem mapBank_entering : (u.mapBank running f).entering = u.entering := by cases running <;> rfl
@[simp] theorem mapBank_wait : (u.mapBank running f).wait = u.wait := by cases running <;> rfl
@[simp] theorem mapBank_tcmGen : (u.mapBank running f).tcmGen = u.tcmGen := by cases running <;> rfl

end

theorem bankOf_eq (s : State) (h : Nat) : s.bankOf h = (s.helm h).bank (s.helmTask h).isSome := rfl

theorem run_modBank (h : Nat) (f : Bank → Bank) (s : State) :
    (modBank h f).run s = (modHelm h (HelmUnit.mapBank (s.helmTask h).isSome f)).run s := rfl

theorem run_putX (h rd v : Nat) (s : State) :
    ((putX h rd v).run s).helm h = (s.helm h).mapBank (s.helmTask h).isSome fun b => b.put rd v := by
  rw [putX, run_whenP]
  by_cases hrd : rd = 0
  · subst hrd
    simp only [bne_self_eq_false, Bool.false_eq_true, if_false, HelmUnit.mapBank, Bank.put, if_true, ite_self]
  · simp only [bne_iff_ne, ne_eq, hrd, not_false_eq_true, if_true, run_modBank, helm_modHelm_same, Bank.put, if_false]

/-! ### The end of the last cycle (R213) -/

/-- The state at the end of an instruction's last cycle: the clock of the helm has moved, and background waits no more. -/
def State.cyclesPass (s : State) (h cyc : Nat) : State :=
  (whenP (s.helm h).task.isNone (modHelm h fun u => { u with wait := .none })).run (s.movedTo (s.helmEnds h cyc / 12))

/-- The state in which an instruction's own effects happen: its cycles have passed, and it goes on at `pc`. -/
def State.afterCycles (s : State) (h cyc pc : Nat) : State := (seqs [helmTo h (s.helmEnds h cyc), retire h pc]).run (s.cyclesPass h cyc)

/-- A helm whose clock has moved to an instant. -/
def HelmUnit.clocked (at12 period : Nat) (u : HelmUnit) : HelmUnit :=
  { u with
    at12 := at12, cycles := u.cycles + (at12 - u.at12) / period
    csr := { u.csr with mcycle := (u.csr.mcycle + (at12 - u.at12) / period) % 2 ^ 64 } }

/-- A helm that has counted an instruction. -/
def HelmUnit.counted (u : HelmUnit) : HelmUnit :=
  { u with handler := u.handler && u.task.isSome, csr := { u.csr with minstret := (u.csr.minstret + 1) % 2 ^ 64 } }

theorem run_helmTo (h at12 : Nat) (s : State) : (helmTo h at12).run s = (modHelm h (HelmUnit.clocked at12 s.cyc)).run s := rfl

theorem run_retire (h pc : Nat) (s : State) : (retire h pc).run s = (modHelm h HelmUnit.counted).run
    ((modHelm h (HelmUnit.mapBank (s.helmTask h).isSome fun b => { b with pc := pc % 2 ^ 32 })).run s) := rfl

section
variable {s : State} {h cyc row : Nat} {op : Rv.Op} {want : Option Rv.Op → Bool}

theorem fetch_of_fetches {len : Nat} (hfetch : s.fetches h len op = true) : ∃ raw, s.fetch h false = .insn raw len op := by
  unfold State.fetches at hfetch
  split at hfetch
  next raw n o heq =>
    rw [Bool.and_eq_true, beq_iff_eq, beq_iff_eq] at hfetch
    exact ⟨raw, by rw [heq, hfetch.1, hfetch.2]⟩
  · exact absurd hfetch Bool.false_ne_true

theorem helmEcc_none (h row : Nat) : helmEcc h 0 row = .skip := rfl

/-- What a helm does whose next instruction is fetched and wanted, and runs. -/
theorem run_helmInstruction (hruns : s.runsFor h cyc = true) (hfetch : s.fetches h 4 op = true) (hwant : want (some op) = true)
    {jump : Option Nat} {p : Prog} (hplan : s.plan h 0 0 4 op = .run cyc jump p) :
    (helmInstruction h 0 0 row want).run s = p.run (s.afterCycles h cyc (jump.getD ((s.bankOf h).pc + 4))) := by
  simp only [State.runsFor, Bool.and_eq_true, decide_eq_true_eq] at hruns
  obtain ⟨⟨hlow, hexecutes⟩, hreaches⟩ := hruns
  obtain ⟨raw, hraw⟩ := fetch_of_fetches hfetch
  have hgoes : (decide (h < 18) && s.executes h) = true := by rw [hexecutes, decide_eq_true hlow]; rfl
  have hgood : ((0 : Nat) == 2) = false := rfl
  simp only [helmInstruction, run_read, run_whenP, hgoes, if_true, hgood, hraw, hwant, hplan]
  refine (atNs_run (ns := s.helmEnds h cyc / 12) _ hreaches).trans ?_
  simp only [State.afterCycles, State.cyclesPass, run_cons, run_nil, helmEcc_none, run_skip]
  rfl

/-- What a helm does whose next instruction is fetched and wanted, and traps. -/
theorem run_helmInstruction_trap (hruns : s.runsFor h 4 = true) (hfetch : s.fetches h 4 op = true) (hwant : want (some op) = true)
    {cause tval : Nat} (hplan : s.plan h 0 0 4 op = .trap 4 cause tval) : (helmInstruction h 0 0 row want).run s =
      (exception h cause tval (s.bankOf h).pc (s.bankOf h).pc (s.helmEnds h 4) false).run (s.cyclesPass h 4) := by
  simp only [State.runsFor, Bool.and_eq_true, decide_eq_true_eq] at hruns
  obtain ⟨⟨hlow, hexecutes⟩, hreaches⟩ := hruns
  obtain ⟨raw, hraw⟩ := fetch_of_fetches hfetch
  have hgoes : (decide (h < 18) && s.executes h) = true := by rw [hexecutes, decide_eq_true hlow]; rfl
  have hgood : ((0 : Nat) == 2) = false := rfl
  simp only [helmInstruction, run_read, run_whenP, hgoes, if_true, hgood, hraw, hwant, hplan, ite_self]
  refine (atNs_run (ns := s.helmEnds h 4 / 12) _ hreaches).trans ?_
  simp only [State.cyclesPass, run_cons, run_nil, helmEcc_none, run_skip]
  rfl

end

/-! ### What the passing of the cycles keeps -/

@[simp] theorem modHelm_chart (h : Nat) (f : HelmUnit → HelmUnit) (s : State) : ((modHelm h f).run s).chart = s.chart := rfl
@[simp] theorem modHelm_tick (h : Nat) (f : HelmUnit → HelmUnit) (s : State) : ((modHelm h f).run s).chr.tick = s.chr.tick := rfl
@[simp] theorem modHelm_meridNs (h : Nat) (f : HelmUnit → HelmUnit) (s : State) : ((modHelm h f).run s).chr.meridNs = s.chr.meridNs := rfl

section
variable (s : State) (h cyc pc : Nat)

theorem cyclesPass_cases : s.cyclesPass h cyc = s.movedTo (s.helmEnds h cyc / 12) ∨
    s.cyclesPass h cyc = (modHelm h fun u => { u with wait := .none }).run (s.movedTo (s.helmEnds h cyc / 12)) := by
  unfold State.cyclesPass
  rw [run_whenP]
  split
  · exact .inr rfl
  · exact .inl rfl

@[simp] theorem cyclesPass_regs : (s.cyclesPass h cyc).regs = s.regs := by
  rcases cyclesPass_cases s h cyc with heq | heq <;> rw [heq] <;> exact movedTo_regs _ _
@[simp] theorem cyclesPass_task : (s.cyclesPass h cyc).task = s.task := by
  rcases cyclesPass_cases s h cyc with heq | heq <;> rw [heq] <;> exact movedTo_task _ _
@[simp] theorem cyclesPass_tcm : (s.cyclesPass h cyc).tcm = s.tcm := by
  rcases cyclesPass_cases s h cyc with heq | heq <;> rw [heq] <;> exact movedTo_tcm _ _
@[simp] theorem cyclesPass_chart : (s.cyclesPass h cyc).chart = s.chart := by
  rcases cyclesPass_cases s h cyc with heq | heq <;> rw [heq] <;> exact movedTo_chart _ _
@[simp] theorem cyclesPass_tick : (s.cyclesPass h cyc).chr.tick = s.chr.tick := by
  rcases cyclesPass_cases s h cyc with heq | heq <;> rw [heq] <;> exact movedTo_tick _ _
@[simp] theorem cyclesPass_meridNs : (s.cyclesPass h cyc).chr.meridNs = s.chr.meridNs := by
  rcases cyclesPass_cases s h cyc with heq | heq <;> rw [heq] <;> exact movedTo_meridNs _ _

theorem helm_cyclesPass : (s.cyclesPass h cyc).helm h =
    { s.helm h with wait := if (s.helm h).task.isNone then .none else (s.helm h).wait } := by
  unfold State.cyclesPass
  rw [run_whenP]
  split
  · rw [helm_modHelm_same, movedTo_helm]
  · rw [movedTo_helm]

theorem helmTask_cyclesPass : (s.cyclesPass h cyc).helmTask h = s.helmTask h := by
  rw [State.helmTask, helm_cyclesPass, State.helmTask]

/-- The clock of the helm and the end of its instruction are changes of the helm alone. -/
theorem afterCycles_modHelm : s.afterCycles h cyc pc = (modHelm h HelmUnit.counted).run
    ((modHelm h (HelmUnit.mapBank (s.helmTask h).isSome fun b => { b with pc := pc % 2 ^ 32 })).run
      ((modHelm h (HelmUnit.clocked (s.helmEnds h cyc) (s.cyclesPass h cyc).cyc)).run (s.cyclesPass h cyc))) := by
  have hparty : ((modHelm h (HelmUnit.clocked (s.helmEnds h cyc) (s.cyclesPass h cyc).cyc)).run (s.cyclesPass h cyc)).helmTask h = s.helmTask h := by
    rw [← helmTask_cyclesPass s h cyc, State.helmTask, helm_modHelm_same]
    rfl
  rw [State.afterCycles, run_cons, run_cons, run_nil, run_retire, run_helmTo, hparty]

@[simp] theorem afterCycles_regs : (s.afterCycles h cyc pc).regs = s.regs := by
  rw [afterCycles_modHelm, modHelm_regs, modHelm_regs, modHelm_regs, cyclesPass_regs]
@[simp] theorem afterCycles_task : (s.afterCycles h cyc pc).task = s.task := by
  rw [afterCycles_modHelm, modHelm_task, modHelm_task, modHelm_task, cyclesPass_task]
@[simp] theorem afterCycles_tcm : (s.afterCycles h cyc pc).tcm = s.tcm := by
  rw [afterCycles_modHelm, modHelm_tcm, modHelm_tcm, modHelm_tcm, cyclesPass_tcm]
@[simp] theorem afterCycles_chart : (s.afterCycles h cyc pc).chart = s.chart := by
  rw [afterCycles_modHelm, modHelm_chart, modHelm_chart, modHelm_chart, cyclesPass_chart]
@[simp] theorem afterCycles_tick : (s.afterCycles h cyc pc).chr.tick = s.chr.tick := by
  rw [afterCycles_modHelm, modHelm_tick, modHelm_tick, modHelm_tick, cyclesPass_tick]
@[simp] theorem afterCycles_meridNs : (s.afterCycles h cyc pc).chr.meridNs = s.chr.meridNs := by
  rw [afterCycles_modHelm, modHelm_meridNs, modHelm_meridNs, modHelm_meridNs, cyclesPass_meridNs]

@[simp] theorem afterCycles_fld (f : Field) (n : Nat) : (s.afterCycles h cyc pc).fld f n = s.fld f n := fld_congr (afterCycles_regs ..) f n
@[simp] theorem afterCycles_bit (f : Field) (n : Nat) : (s.afterCycles h cyc pc).bit f n = s.bit f n := by
  rw [State.bit, afterCycles_fld, State.bit]
@[simp] theorem afterCycles_taskOf (k : Nat) : (s.afterCycles h cyc pc).taskOf k = s.taskOf k :=
  taskOf_congr (congrArg TaskUnit.tasks (afterCycles_task ..)) k

/-- The helm after the cycles of its instruction. -/
theorem helm_afterCycles : (s.afterCycles h cyc pc).helm h =
    ((((s.cyclesPass h cyc).helm h).clocked (s.helmEnds h cyc) (s.cyclesPass h cyc).cyc).mapBank (s.helmTask h).isSome
      fun b => { b with pc := pc % 2 ^ 32 }).counted := by
  rw [afterCycles_modHelm, helm_modHelm_same, helm_modHelm_same, helm_modHelm_same]

end

/-! ### What an instruction leaves of its bank (R213, R218) -/

/-- An instruction of a helm has ended in a state where the bank it ran in is `b`. -/
structure State.Shows (s t : State) (h cyc : Nat) (b : Bank) : Prop where
  bank : (t.helm h).bank (s.helmTask h).isSome = b
  ends : (t.helm h).at12 = s.helmEnds h cyc
  counts : (t.helm h).csr.minstret = ((s.helm h).csr.minstret + 1) % 2 ^ 64

/-- The bank in use, with a program counter. -/
def State.bankAt (s : State) (h pc : Nat) : Bank := { s.bankOf h with pc := pc % 2 ^ 32 }

section
variable {s t : State} {h cyc pc : Nat} {b : Bank}

theorem State.Shows.retired (hb : s.Shows t h cyc b) (hpc : b.pc = pc % 2 ^ 32) : s.retired t h cyc pc = true := by
  obtain ⟨hbank, hends, hcounts⟩ := hb
  have hbank' : (if (s.helmTask h).isSome then (t.helm h).bank1 else (t.helm h).bank0) = b := hbank
  simp only [State.retired, hbank', hpc, hends, hcounts, beq_self_eq_true, Bool.and_self]

theorem State.Shows.wroteX (hb : s.Shows t h cyc b) {rd v : Nat} (hreg : b.reg rd = if rd = 0 then 0 else v % 2 ^ 32) : s.wroteX t h rd v = true := by
  have hbank : (if (s.helmTask h).isSome then (t.helm h).bank1 else (t.helm h).bank0) = b := hb.bank
  rw [State.wroteX, hbank, hreg, beq_self_eq_true]

theorem State.Shows.keptX (hb : s.Shows t h cyc b) {rd : Nat} (hreg : ∀ i, i ≠ rd → b.reg i = (s.bankOf h).reg i) (hf : b.f = (s.bankOf h).f)
    (hfcsr : b.fcsr = (s.bankOf h).fcsr) : s.keptX t h rd = true := by
  have hbank : (if (s.helmTask h).isSome then (t.helm h).bank1 else (t.helm h).bank0) = b := hb.bank
  simp only [State.keptX, hbank, hf, hfcsr, beq_self_eq_true, Bool.and_true, List.all_eq_true, Bool.or_eq_true, beq_iff_eq]
  exact fun i _ => (eq_or_ne i rd).imp id (hreg i)

theorem State.Shows.of_quiet (hb : s.quiet.Shows t h cyc b) : s.Shows t h cyc b := ⟨hb.bank, hb.ends, hb.counts⟩

/-- A change of the helm that leaves its banks, clock and count. -/
theorem State.Shows.congr {t' : State} (hb : s.Shows t h cyc b) (hbank0 : (t'.helm h).bank0 = (t.helm h).bank0)
    (hbank1 : (t'.helm h).bank1 = (t.helm h).bank1) (hat12 : (t'.helm h).at12 = (t.helm h).at12) (hcsr : (t'.helm h).csr = (t.helm h).csr) :
    s.Shows t' h cyc b := by
  obtain ⟨hbank, hends, hcounts⟩ := hb
  refine ⟨?_, hat12.trans hends, (congrArg HelmCsr.minstret hcsr).trans hcounts⟩
  rw [← hbank, HelmUnit.bank, hbank0, hbank1, HelmUnit.bank]

/-- A helm that is the same shows the same. -/
theorem State.Shows.of_helm {t' : State} (hb : s.Shows t h cyc b) (hhelm : t'.helm h = t.helm h) : s.Shows t' h cyc b :=
  hb.congr (by rw [hhelm]) (by rw [hhelm]) (by rw [hhelm]) (by rw [hhelm])

/-- A change of the bank in use. -/
theorem State.Shows.modBank (hb : s.Shows t h cyc b) (hparty : t.helmTask h = s.helmTask h) (f : Bank → Bank) :
    s.Shows ((modBank h f).run t) h cyc (f b) := by
  obtain ⟨hbank, hends, hcounts⟩ := hb
  rw [run_modBank, hparty]
  exact ⟨by rw [helm_modHelm_same, bank_mapBank, hbank], by rw [helm_modHelm_same, mapBank_at12, hends],
    by rw [helm_modHelm_same, mapBank_csr, hcounts]⟩

theorem State.Shows.putX (hb : s.Shows t h cyc b) (hparty : t.helmTask h = s.helmTask h) (rd v : Nat) :
    s.Shows ((putX h rd v).run t) h cyc (b.put rd v) := by
  obtain ⟨hbank, hends, hcounts⟩ := hb
  exact ⟨by rw [run_putX, hparty, bank_mapBank, hbank], by rw [run_putX, mapBank_at12, hends], by rw [run_putX, mapBank_csr, hcounts]⟩

end

section
variable (s : State) (h cyc pc : Nat)

theorem helmTask_afterCycles : (s.afterCycles h cyc pc).helmTask h = s.helmTask h := by
  rw [State.helmTask, helm_afterCycles, ← helmTask_cyclesPass s h cyc]
  simp only [HelmUnit.counted, mapBank_entering, mapBank_task, HelmUnit.clocked, State.helmTask]

/-- After its cycles the instruction has ended, but for its own effects. -/
theorem shows_afterCycles : s.Shows (s.afterCycles h cyc pc) h cyc (s.bankAt h pc) := by
  rw [State.bankAt, bankOf_eq]
  refine ⟨?_, ?_, ?_⟩
  all_goals rw [helm_afterCycles, helm_cyclesPass]; cases (s.helmTask h).isSome <;> rfl

end

/-! ### An instruction that writes one register -/

/-- What an instruction leaves that does no more than write a value to register x`rd`. -/
structure State.WritesX (s t : State) (h cyc pc rd v : Nat) : Prop where
  retired : s.retired t h cyc pc = true
  wrote : s.wroteX t h rd v = true
  kept : s.keptX t h rd = true
  tcm : t.tcm = s.tcm
  task : t.task = s.task
  chart : t.chart = s.chart

section
variable {s t : State} {h cyc pc rd v : Nat}

theorem State.Shows.writes (hb : s.Shows t h cyc ((s.bankAt h pc).put rd v)) :
    s.retired t h cyc pc = true ∧ s.wroteX t h rd v = true ∧ s.keptX t h rd = true :=
  ⟨hb.retired (put_pc ..), hb.wroteX (reg_put_same ..), hb.keptX (fun _ hi => reg_put_ne _ _ _ hi) (put_f ..) (put_fcsr ..)⟩

theorem State.WritesX.of_quiet (hw : s.quiet.WritesX t h cyc pc rd v) : s.WritesX t h cyc pc rd v :=
  ⟨hw.retired, hw.wrote, hw.kept, hw.tcm, hw.task, hw.chart⟩

theorem writesX_afterCycles (s : State) (h cyc pc rd v : Nat) : s.WritesX ((putX h rd v).run (s.afterCycles h cyc pc)) h cyc pc rd v := by
  have hp : (putX h rd v).Within 0x1000000000 := putX_within (by decide) h rd v
  obtain ⟨hretired, hwrote, hkept⟩ := ((shows_afterCycles s h cyc pc).putX (helmTask_afterCycles ..) rd v).writes
  exact ⟨hretired, hwrote, hkept, (run_tcm hp (by decide) _).trans (afterCycles_tcm ..), (run_task hp (by decide) _).trans (afterCycles_task ..),
    (run_chart hp (by decide) _).trans (afterCycles_chart ..)⟩

variable {row : Nat} {op : Rv.Op} {want : Option Rv.Op → Bool} {i : Instr} {p : Prog} {jump : Option Nat}

/-- What holds after an instruction's effects holds after the row that executes it. -/
theorem instruction_next {P : State → Prop} (hexec : exec i s = finish (helmInstruction h 0 0 row want) s) (hruns : s.runsFor h cyc = true)
    (hfetch : s.fetches h 4 op = true) (hwant : want (some op) = true) (hplan : s.quiet.plan h 0 0 4 op = .run cyc jump p)
    (hP : P (p.run (s.quiet.afterCycles h cyc (jump.getD ((s.bankOf h).pc + 4))))) : ∃ t, exec i s = .next t ∧ P t :=
  ⟨_, hexec.trans (congrArg Host.Outcome.next (run_helmInstruction (s := s.quiet) hruns hfetch hwant hplan)), hP⟩

theorem writesX_next (hexec : exec i s = finish (helmInstruction h 0 0 row want) s) (hruns : s.runsFor h cyc = true)
    (hfetch : s.fetches h 4 op = true) (hwant : want (some op) = true) (hplan : s.quiet.plan h 0 0 4 op = .run cyc jump p)
    (hp : p.run (s.quiet.afterCycles h cyc (jump.getD ((s.bankOf h).pc + 4))) =
      (putX h rd v).run (s.quiet.afterCycles h cyc (jump.getD ((s.bankOf h).pc + 4)))) :
    ∃ t, exec i s = .next t ∧ s.WritesX t h cyc (jump.getD ((s.bankOf h).pc + 4)) rd v := by
  refine instruction_next hexec hruns hfetch hwant hplan ?_
  rw [hp]
  exact (writesX_afterCycles s.quiet h cyc (jump.getD ((s.bankOf h).pc + 4)) rd v).of_quiet

end

/-! ### Bytes of a number -/

theorem toBytes_length (v len : Nat) : (toBytes v len).length = len := by rw [toBytes, List.length_map, List.length_range]

theorem byteOf_succ (v k : Nat) : byteOf v (k + 1) = byteOf (v / 256) k := by
  rw [byteOf, byteOf, Nat.div_div_eq_div_mul, Nat.mul_succ, Nat.pow_add, Nat.mul_comm]

theorem toBytes_succ (v len : Nat) : toBytes v (len + 1) = byteOf v 0 :: toBytes (v / 256) len := by
  rw [toBytes, List.range_succ_eq_map, List.map_cons, List.map_map, toBytes]
  exact congrArg _ (List.map_congr_left fun k _ => byteOf_succ v k)

/-- The bytes of a number spell what fits in them. -/
theorem ofBytes_toBytes (v len : Nat) : ofBytes (toBytes v len) = v % 256 ^ len := by
  induction len generalizing v with
  | zero => rw [Nat.pow_zero, Nat.mod_one]; rfl
  | succ len ih =>
    rw [toBytes_succ, ofBytes, ih, Nat.pow_succ', Nat.mod_mul]
    simp [byteOf]

/-! ### The places of an access (R215, R231) -/

section
variable {s : State} {h a : Nat}

theorem planLoad_dtcm {len : Nat} (hdtcm : s.inDtcm (s.helmTask h) a len = true) (haligned : a % len = 0) (more : Nat) (k : Nat → Prog) :
    s.planLoad h more false a len k = .run 2 none (.read fun t => k (ofBytes (t.tcmRead h a len))) := by
  simp only [State.planLoad, haligned, State.place, hdtcm, ne_eq, not_true_eq_false, if_false, if_true, Bool.false_eq_true]

theorem planStore_dtcm {len : Nat} (hdtcm : s.inDtcm (s.helmTask h) a len = true) (haligned : a % len = 0) (more v : Nat) :
    s.planStore h more a len v = .run 1 none (helmPut h a (toBytes v len)) := by
  simp only [State.planStore, haligned, State.place, hdtcm, ne_eq, not_true_eq_false, if_false, if_true]

theorem planAtomic_dtcm (hdtcm : s.inDtcm (s.helmTask h) a 4 = true) (haligned : a % 4 = 0) (cycles mis fault : Nat) (p : Prog) :
    s.planAtomic h cycles a mis fault false p = .run cycles none p := by
  simp only [State.planAtomic, haligned, hdtcm, ne_eq, not_true_eq_false, if_false, Bool.not_true, Bool.or_false, Bool.false_eq_true]

end

/-! ### An instruction that writes one register -/

section
variable {s : State} {h row cyc : Nat} {op : Rv.Op} {i : Instr} {want : Option Rv.Op → Bool} {jump : Option Nat} {p : Prog}
  (hexec : exec i s = finish (helmInstruction h 0 0 row want) s) (hruns : s.runsFor h cyc = true) (hfetch : s.fetches h 4 op = true)
  (hwant : want (some op) = true) (hplan : s.quiet.plan h 0 0 4 op = .run cyc jump p)
include hexec hruns hfetch hwant hplan

/-- The statement of an instruction that writes a register, taken apart. -/
theorem writes_next {pc rd v : Nat} (hpc : jump.getD ((s.bankOf h).pc + 4) = pc)
    (hp : p.run (s.quiet.afterCycles h cyc pc) = (putX h rd v).run (s.quiet.afterCycles h cyc pc)) :
    ∃ t, exec i s = .next t ∧ s.retired t h cyc pc = true ∧ s.wroteX t h rd v = true ∧ s.keptX t h rd = true ∧ t.tcm = s.tcm := by
  subst hpc
  obtain ⟨t, ht, hw⟩ := writesX_next hexec hruns hfetch hwant hplan hp
  exact ⟨t, ht, hw.retired, hw.wrote, hw.kept, hw.tcm⟩

/-- A branch writes no register. -/
theorem skips_next {pc : Nat} (hpc : jump.getD ((s.bankOf h).pc + 4) = pc) (hp : p = .skip) :
    ∃ t, exec i s = .next t ∧ s.retired t h cyc pc = true ∧ s.keptX t h 0 = true ∧ t.tcm = s.tcm := by
  subst hp
  obtain ⟨t, ht, hretired, -, hkept, htcm⟩ := writes_next (rd := 0) (v := 0) hexec hruns hfetch hwant hplan hpc rfl
  exact ⟨t, ht, hretired, hkept, htcm⟩

end

/-! ### An instruction that stores -/

@[simp] theorem helm_helmPut (h a : Nat) (bs : List Byte) (s : State) :
    ((helmPut h a bs).run s).helm h = { s.helm h with stored := some (a, bs.length, (s.helm h).at12) } := by
  rw [helmPut, run_cons, run_cons, run_nil, helm_modHelm_same, tcmPut_helm]

@[simp] theorem helmPut_tcm (h a : Nat) (bs : List Byte) (s : State) :
    ((helmPut h a bs).run s).tcm = writeBytes tcmDefault s.tcm (s.tcmKey h a) bs := rfl

/-- What an instruction leaves that stores bytes at an address of its helm's memory and writes a value to register x`rd`. -/
structure State.StoresX (s t : State) (h cyc pc a : Nat) (bs : List Byte) (rd v : Nat) : Prop where
  retired : s.retired t h cyc pc = true
  read : t.tcmRead h a bs.length = bs
  tcm : tcmKept (s.tcmKey h a) bs.length s t
  wrote : s.wroteX t h rd v = true
  kept : s.keptX t h rd = true

section
variable {s : State} {h row cyc : Nat} {op : Rv.Op} {i : Instr} {want : Option Rv.Op → Bool} {p : Prog}

theorem tcmGen_afterCycles (s : State) (h cyc pc : Nat) : ((s.afterCycles h cyc pc).helm h).tcmGen = (s.helm h).tcmGen := by
  rw [helm_afterCycles, helm_cyclesPass]
  simp only [HelmUnit.counted, mapBank_tcmGen, HelmUnit.clocked]

theorem tcmRead_afterCycles (s : State) (h cyc pc a len : Nat) : (s.afterCycles h cyc pc).tcmRead h a len = s.tcmRead h a len :=
  tcmRead_congr (afterCycles_tcm ..) (tcmGen_afterCycles ..) a len

theorem State.StoresX.of_quiet {t : State} {pc a rd v : Nat} {bs : List Byte} (hs : s.quiet.StoresX t h cyc pc a bs rd v) :
    s.StoresX t h cyc pc a bs rd v := ⟨hs.retired, hs.read, hs.tcm, hs.wrote, hs.kept⟩

theorem storesX_of_run {u : State} {pc : Nat} (a rd v : Nat) (bs : List Byte) (hshows : s.Shows u h cyc (s.bankAt h pc))
    (hparty : u.helmTask h = s.helmTask h) (htcm : u.tcm = s.tcm) (hgen : (u.helm h).tcmGen = (s.helm h).tcmGen) :
    s.StoresX ((seqs [helmPut h a bs, putX h rd v]).run u) h cyc pc a bs rd v := by
  have hput : s.Shows ((helmPut h a bs).run u) h cyc (s.bankAt h pc) := by
    apply hshows.congr <;> rw [helm_helmPut]
  have hparty' : ((helmPut h a bs).run u).helmTask h = s.helmTask h := by
    rw [← hparty, State.helmTask, helm_helmPut, State.helmTask]
  have hwritten : ((putX h rd v).run ((helmPut h a bs).run u)).tcm = writeBytes tcmDefault s.tcm (s.tcmKey h a) bs := by
    rw [run_tcm (putX_within (pm := 0x1000000000) (by decide) h rd v) (by decide), helmPut_tcm, htcm, tcmKey_congr hgen]
  have hgen' : (((putX h rd v).run ((helmPut h a bs).run u)).helm h).tcmGen = (s.helm h).tcmGen := by
    rw [run_putX, mapBank_tcmGen, helm_helmPut, hgen]
  obtain ⟨hretired, hwrote, hkept⟩ := (hput.putX hparty' rd v).writes
  exact ⟨hretired, tcmRead_of_written hwritten hgen', tcmKept_of_written hwritten, hwrote, hkept⟩

theorem stores_next {a rd v : Nat} {bs : List Byte} (hexec : exec i s = finish (helmInstruction h 0 0 row want) s) (hruns : s.runsFor h cyc = true)
    (hfetch : s.fetches h 4 op = true) (hwant : want (some op) = true) (hplan : s.quiet.plan h 0 0 4 op = .run cyc none p)
    (hp : p.run (s.quiet.afterCycles h cyc ((s.bankOf h).pc + 4)) =
      (seqs [helmPut h a bs, putX h rd v]).run (s.quiet.afterCycles h cyc ((s.bankOf h).pc + 4))) :
    ∃ t, exec i s = .next t ∧ s.StoresX t h cyc ((s.bankOf h).pc + 4) a bs rd v := by
  refine instruction_next hexec hruns hfetch hwant hplan ?_
  rw [Option.getD_none, hp]
  exact (storesX_of_run a rd v bs (shows_afterCycles s.quiet ..) (helmTask_afterCycles ..) (afterCycles_tcm ..) (tcmGen_afterCycles ..)).of_quiet

end

/-! ### Floating-point results (R212) -/

/-- A bank after a floating-point result and its accrued exceptions. -/
def Bank.putF (b : Bank) (i : Nat) (r : Rv.FRes) : Bank := { b with f := tset 0 b.f i (r.v % 2 ^ 32), fcsr := b.fcsr ||| r.fl }

theorem freg_putF (b : Bank) (i : Nat) (r : Rv.FRes) : (b.putF i r).freg i = r.v % 2 ^ 32 := Sparse.get_set_same (d := fun _ => 0) b.f i _

theorem helmTask_modBank (h : Nat) (f : Bank → Bank) (s : State) : ((modBank h f).run s).helmTask h = s.helmTask h := by
  rw [State.helmTask, run_modBank, helm_modHelm_same, mapBank_entering, mapBank_task, State.helmTask]

section
variable {s : State} {h row cyc : Nat} {op : Rv.Op} {i : Instr} {want : Option Rv.Op → Bool}

theorem State.Shows.putFRes {t : State} {b : Bank} (hb : s.Shows t h cyc b) (hparty : t.helmTask h = s.helmTask h) (rd : Nat) (r : Rv.FRes) :
    s.Shows ((putFRes h rd r).run t) h cyc (b.putF rd r) :=
  (hb.modBank hparty fun b => { b with f := tset 0 b.f rd (r.v % 2 ^ 32) }).modBank ((helmTask_modBank ..).trans hparty) fun b =>
    { b with fcsr := b.fcsr ||| r.fl }

/-- What an instruction leaves that writes a floating-point result. -/
theorem putFRes_next {rd : Nat} {r : Rv.FRes} (hexec : exec i s = finish (helmInstruction h 0 0 row want) s) (hruns : s.runsFor h cyc = true)
    (hfetch : s.fetches h 4 op = true) (hwant : want (some op) = true) (hplan : s.quiet.plan h 0 0 4 op = .run cyc none (putFRes h rd r)) :
    ∃ t, exec i s = .next t ∧ s.retired t h cyc ((s.bankOf h).pc + 4) = true ∧
      (t.helm h).bank (s.helmTask h).isSome = (s.bankAt h ((s.bankOf h).pc + 4)).putF rd r ∧ t.tcm = s.tcm := by
  refine instruction_next hexec hruns hfetch hwant hplan ?_
  have hshows : s.Shows ((putFRes h rd r).run (s.quiet.afterCycles h cyc ((s.bankOf h).pc + 4))) h cyc
      ((s.bankAt h ((s.bankOf h).pc + 4)).putF rd r) :=
    ((shows_afterCycles s.quiet h cyc ((s.bankOf h).pc + 4)).putFRes (helmTask_afterCycles ..) rd r).of_quiet
  exact ⟨hshows.retired rfl, hshows.bank,
    (run_tcm (putFRes_within (pm := 0x1000000000) (by decide) h rd r) (by decide) _).trans (afterCycles_tcm ..)⟩

end

/-- A helm that executes, with a task, executes the task. -/
theorem helmTask_of_runsFor {s : State} {h cyc k : Nat} (hruns : s.runsFor h cyc = true) (htask : (s.helm h).task = some k) :
    s.helmTask h = some k := by
  simp only [State.runsFor, Bool.and_eq_true, State.executes, Bool.not_eq_true'] at hruns
  obtain ⟨⟨-, hentered, -⟩, -⟩ := hruns
  rw [State.helmTask, hentered, if_neg Bool.false_ne_true, htask]

end Sys2Proof.Machine

/-! SUPPORT. The register fields and units that the scheduler's operations leave: dispatch, the end of a task and its semaphores (file 07;
Machine/Tasks.lean). -/

namespace Sys2Proof.Machine

/-! ### Register fields that the scheduler shows -/

/-- The rows of the fields that show what a helm runs and how many tasks there are. -/
def statusRows : List Nat := [Fld.HLM_STATUS.IN_TASK.row, Fld.HLM_STATUS.TASK.row, Fld.HLM_STATUS.PRIO.row, Fld.HLM_STATUS.NOPREEMPT_HELD.row,
  Fld.HLM_STATUS.DEPTH.row, Fld.TSK_STATUS.ENABLED.row, Fld.TSK_STATUS.READY.row, Fld.INS_STATUS.TASK_RUN.row]

/-- The rows of the fields that the scheduler changes. -/
def schedRows : List Nat := statusRows ++ [Fld.TSK_SEM_STATE.HELD.row, Fld.TSK_SEM_STATE.BY_TASK.row, Fld.TSK_EVENT.SKIPPED.row]

/-- Whether every register field of a row that is not listed reads the same in two states. -/
def RowsKept (rows : List Nat) (s t : State) : Prop := ∀ (f : Field) (n : Nat), f.row ∉ rows → t.fld f n = s.fld f n

theorem RowsKept.refl (rows : List Nat) (s : State) : RowsKept rows s s := fun _ _ _ => rfl

section
variable {rows : List Nat} {s t u : State}

theorem RowsKept.trans (hst : RowsKept rows s t) (htu : RowsKept rows t u) : RowsKept rows s u :=
  fun f n hf => (htu f n hf).trans (hst f n hf)

theorem RowsKept.mono {rows' : List Nat} (h : RowsKept rows s t) (hsub : ∀ r ∈ rows, r ∈ rows') : RowsKept rows' s t :=
  fun f n hf => h f n fun hr => hf (hsub _ hr)

/-- A write of a field of a listed row. -/
theorem RowsKept.fld (h : RowsKept rows s t) {g : Field} (hg : g.row ∈ rows) (k v : Nat) : RowsKept rows s ((Eff.fld g k v).apply t) :=
  fun f n hf => by
    have hne : f.row ≠ g.row := fun heq => hf (by rw [heq]; exact hg)
    rw [fld_fld_ne hne]
    exact h f n hf

theorem RowsKept.modTask (h : RowsKept rows s t) (f : TaskUnit → TaskUnit) : RowsKept rows s ((modTask f).run t) := h

theorem RowsKept.modTaskOf (h : RowsKept rows s t) (k : Nat) (f : TaskRec → TaskRec) : RowsKept rows s ((modTaskOf k f).run t) := h

theorem RowsKept.modHelm (h : RowsKept rows s t) (k : Nat) (f : HelmUnit → HelmUnit) : RowsKept rows s ((modHelm k f).run t) := h

theorem RowsKept.bit (h : RowsKept rows s t) {f : Field} (hf : f.row ∉ rows) (n : Nat) : t.bit f n = s.bit f n := by
  rw [State.bit, h f n hf, State.bit]

end

section
variable (h k at12 : Nat) (s : State)

theorem refreshHelm_rows : RowsKept statusRows s ((refreshHelm h).run s) :=
  ((((RowsKept.refl _ s).fld (by decide) _ _).fld (by decide) _ _).fld (by decide) _ _ |>.fld (by decide) _ _).fld (by decide) _ _

theorem refreshTasks_rows : RowsKept statusRows s ((refreshTasks k).run s) :=
  (((RowsKept.refl _ s).fld (by decide) _ _).fld (by decide) _ _).fld (by decide) _ _

/-- HLM_STATUS shows whether the helm executes a task. -/
theorem refreshHelm_inTask : ((refreshHelm h).run s).fld Fld.HLM_STATUS.IN_TASK h =
    if (s.helm h).task.isSome && !(s.helm h).entering then 1 else 0 := by
  simp only [refreshHelm, run_read, run_cons, run_nil, run_putN]
  rw [fld_fld_ne (by decide), fld_fld_ne (by decide), fld_fld_ne (by decide), fld_fld_ne (by decide), fld_fld_same]
  split <;> rfl

theorem statusRows_sub : ∀ r ∈ statusRows, r ∈ schedRows := fun _ => List.mem_append_left _

/-- The scheduler's record of a semaphore freed at an instant. -/
def TaskUnit.semFreed (k at12 : Nat) (u : TaskUnit) : TaskUnit :=
  { u with semAt := tset 0 u.semAt k at12, semOver := u.semOver.filter (· != k) }

variable {k s} in
theorem run_semFree (hheld : s.bit Fld.TSK_SEM_STATE.HELD k = true) : (semFree k at12).run s = (refreshHelm (s.fld Fld.TSK_SEM_STATE.HELM k)).run
    ((modTask (TaskUnit.semFreed k at12)).run ((Eff.fld Fld.TSK_SEM_STATE.BY_TASK k 0).apply ((Eff.fld Fld.TSK_SEM_STATE.HELD k 0).apply s))) := by
  rw [semFree, run_read, run_whenP, if_pos hheld, run_cons, run_cons, run_cons, run_cons, run_nil, run_clear, run_clear]
  rfl

variable {k s} in
theorem run_semFree_free (hfree : s.bit Fld.TSK_SEM_STATE.HELD k = false) : (semFree k at12).run s = s := by
  rw [semFree, run_read, run_whenP, if_neg (ne_true_of_eq_false hfree)]

theorem semFree_rows : RowsKept schedRows s ((semFree k at12).run s) := by
  cases hheld : s.bit Fld.TSK_SEM_STATE.HELD k with
  | false => rw [run_semFree_free at12 hheld]; exact .refl _ _
  | true =>
    rw [run_semFree at12 hheld]
    exact ((((RowsKept.refl _ s).fld (by decide) _ _).fld (by decide) _ _).modTask _).trans ((refreshHelm_rows _ _).mono statusRows_sub)

theorem refreshHelm_task : ((refreshHelm h).run s).task = s.task :=
  run_task (refreshHelm_within (pm := 0x10) (by decide) h) (by decide) s

theorem refreshHelm_helm (j : Nat) : ((refreshHelm h).run s).helm j = s.helm j :=
  helm_congr (run_helms (refreshHelm_within (pm := 0x10) (by decide) h) (by decide) s) j

theorem semFree_tasks : ((semFree k at12).run s).task.tasks = s.task.tasks := by
  cases hheld : s.bit Fld.TSK_SEM_STATE.HELD k with
  | false => rw [run_semFree_free at12 hheld]
  | true => rw [run_semFree at12 hheld, refreshHelm_task]; rfl

/-- A semaphore that has been freed is held by nobody. -/
theorem semFree_held : ((semFree k at12).run s).bit Fld.TSK_SEM_STATE.HELD k = false := by
  cases hheld : s.bit Fld.TSK_SEM_STATE.HELD k with
  | false => rw [run_semFree_free at12 hheld, hheld]
  | true =>
    have hfreed : ((modTask (TaskUnit.semFreed k at12)).run ((Eff.fld Fld.TSK_SEM_STATE.BY_TASK k 0).apply
        ((Eff.fld Fld.TSK_SEM_STATE.HELD k 0).apply s))).fld Fld.TSK_SEM_STATE.HELD k = 0 :=
      ((fld_fld_ne (by decide) k k 0 _).trans (fld_fld_same _ k 0 s)).trans (Nat.zero_mod _)
    rw [run_semFree at12 hheld, (refreshHelm_rows _ _).bit (by decide), State.bit, hfreed]
    rfl

/-- Freeing a semaphore gives none to anybody. -/
theorem semFree_held_other {j : Nat} (hk : k < 64) (hj : j < 64) (hfree : s.bit Fld.TSK_SEM_STATE.HELD j = false) :
    ((semFree k at12).run s).bit Fld.TSK_SEM_STATE.HELD j = false := by
  cases hheld : s.bit Fld.TSK_SEM_STATE.HELD k with
  | false => rw [run_semFree_free at12 hheld, hfree]
  | true =>
    have hjk : j ≠ k := fun heq => Bool.false_ne_true (hfree.symm.trans (heq ▸ hheld))
    have hspan {n : Nat} (hn : n < 64) : n < keySpan := Nat.lt_of_lt_of_le hn (by decide)
    have hkept : ((modTask (TaskUnit.semFreed k at12)).run ((Eff.fld Fld.TSK_SEM_STATE.BY_TASK k 0).apply
        ((Eff.fld Fld.TSK_SEM_STATE.HELD k 0).apply s))).fld Fld.TSK_SEM_STATE.HELD j = s.fld Fld.TSK_SEM_STATE.HELD j :=
      (fld_fld_ne (by decide) k j 0 _).trans (fld_fld_elem _ (hspan hk) (hspan hj) hjk 0 s)
    rw [run_semFree at12 hheld, (refreshHelm_rows _ _).bit (by decide), State.bit, hkept]
    exact hfree

end

/-! ### The end of a task (R228, R240, R242) -/

/-- The task slot of a task that has ended. -/
def TaskRec.gone (trapped : Bool) (r : TaskRec) : TaskRec :=
  { r with live := false, preempted := false, trapped := trapped, endedTick := some r.actTick }

section
variable (h k at12 : Nat) (trapped : Bool) (s : State)

theorem semsFree_rows : RowsKept schedRows s ((semsFree h (some k) at12).run s) :=
  run_forP_keeps (RowsKept schedRows) (.refl _) (fun _ _ _ => .trans) _ _ (fun n _ u => semFree_rows n at12 u) s

theorem semsFree_tasks : ((semsFree h (some k) at12).run s).task.tasks = s.task.tasks :=
  run_forP_keeps (fun a b => b.task.tasks = a.task.tasks) (fun _ => rfl) (fun _ _ _ hab hbc => hbc.trans hab) _ _
    (fun n _ u => semFree_tasks n at12 u) s

/-- Semaphores freed one after another are all free. -/
theorem forP_semFree_held {l : List Nat} (hl : ∀ n ∈ l, n < 64) {j : Nat} (hj : j < 64)
    (hfree : j ∈ l ∨ s.bit Fld.TSK_SEM_STATE.HELD j = false) : ((forP l fun n => semFree n at12).run s).bit Fld.TSK_SEM_STATE.HELD j = false := by
  induction l generalizing s with
  | nil => exact hfree.resolve_left List.not_mem_nil
  | cons a rest ih =>
    rw [run_forP_cons]
    refine ih _ (fun n hn => hl n (List.mem_cons_of_mem _ hn)) ?_
    rcases hfree with hmem | hfree
    · rcases List.mem_cons.mp hmem with rfl | hrest
      · exact .inr (semFree_held _ _ _)
      · exact .inl hrest
    · exact .inr (semFree_held_other _ _ _ (hl a List.mem_cons_self) hj hfree)

/-- Every semaphore that a task holds is freed with it. -/
theorem semsFree_held {n : Nat} (hn : n < 64) (hheld : s.bit Fld.TSK_SEM_STATE.HELD n = true) (htask : s.bit Fld.TSK_SEM_STATE.BY_TASK n = true)
    (hholder : s.fld Fld.TSK_SEM_STATE.TASK n = k) : ((semsFree h (some k) at12).run s).bit Fld.TSK_SEM_STATE.HELD n = false := by
  rw [semsFree, run_read]
  refine forP_semFree_held at12 s (fun j hj => List.mem_range.mp (List.mem_of_mem_filter hj)) hn (.inl ?_)
  refine List.mem_filter.mpr ?_
  exact ⟨List.mem_range.mpr hn, by simp only [hheld, htask, hholder, beq_self_eq_true, Bool.and_self]⟩

theorem run_taskGone : (taskGone h k at12 trapped).run s =
    (refreshTasks (s.taskOf k).owner).run ((modTaskOf k (TaskRec.gone trapped)).run ((semsFree h (some k) at12).run s)) := rfl

theorem taskGone_rows : RowsKept schedRows s ((taskGone h k at12 trapped).run s) := by
  rw [run_taskGone]
  exact ((semsFree_rows h k at12 s).modTaskOf _ _).trans ((refreshTasks_rows _ _).mono statusRows_sub)

theorem taskGone_held {n : Nat} (hn : n < 64) (hheld : s.bit Fld.TSK_SEM_STATE.HELD n = true) (htask : s.bit Fld.TSK_SEM_STATE.BY_TASK n = true)
    (hholder : s.fld Fld.TSK_SEM_STATE.TASK n = k) : ((taskGone h k at12 trapped).run s).bit Fld.TSK_SEM_STATE.HELD n = false := by
  rw [run_taskGone, (refreshTasks_rows _ _).bit (by decide), State.bit, modTaskOf_fld]
  exact semsFree_held h k at12 s hn hheld htask hholder

theorem taskGone_helm (j : Nat) : ((taskGone h k at12 trapped).run s).helm j = s.helm j :=
  helm_congr (run_helms (taskGone_within (pm := 0x2000000130) (by decide) h k at12 trapped) (by decide) s) j

theorem refreshTasks_tasks (owner : Nat) : ((refreshTasks owner).run s).task = s.task :=
  run_task (refreshTasks_within (pm := 0x120) (by decide) owner) (by decide) s

theorem taskGone_taskOf : ((taskGone h k at12 trapped).run s).taskOf k = (s.taskOf k).gone trapped := by
  rw [run_taskGone, taskOf_congr (congrArg TaskUnit.tasks (refreshTasks_tasks _ _)), taskOf_modTaskOf_same, taskOf_congr (semsFree_tasks h k at12 s)]

theorem taskGone_readyList_nil {s : State} (hready : s.readyList = []) : ((taskGone h k at12 trapped).run s).readyList = [] := by
  rw [run_taskGone, readyList_congr_nil (congrArg TaskUnit.tasks (refreshTasks_tasks _ _))]
  exact readyList_modTaskOf_nil ((readyList_congr_nil (semsFree_tasks h k at12 s)).mpr hready)

end

/-- A helm whose task has left it. -/
def HelmUnit.left (at12 : Nat) (u : HelmUnit) : HelmUnit := { u with task := none, entering := false, at12 := max u.at12 at12 }

/-- A helm on which background resumes; reflex work is counted from `merid` on. -/
def HelmUnit.resumed (at12 merid : Nat) (u : HelmUnit) : HelmUnit :=
  { u with
    resv := none, busyFrom := none
    busy := u.busy + (match u.busyFrom with
      | some b => at12 - max b merid
      | none => 0) }

section
variable (h k at12 : Nat) (trapped : Bool) {s : State}

theorem run_spillNow_none (hspill : (s.helm h).spill = none) : (spillNow h).run s = s := by
  rw [spillNow, run_read]
  dsimp only
  rw [hspill]
  rfl

/-- Background resumes on a helm that runs nothing and has no task preempted. -/
theorem run_helmResume_background (hstate : s.helmState h = Fn.on) (htask : (s.helm h).task = none) (hframes : (s.helm h).frames = []) :
    (helmResume h at12 false).run s =
      (refreshHelm h).run ((helmTo h (at12 + 3 * s.cyc)).run ((modHelm h (HelmUnit.resumed at12 (s.chr.meridNs * 12))).run s)) := by
  have hgoes : ¬ ((s.helm h).task.isSome || s.helmState h != Fn.on) = true := by rw [htask, hstate]; decide
  rw [helmResume, run_read]
  dsimp only
  rw [if_neg hgoes, hframes]
  rfl

/-- What is left of a helm that runs nothing when background goes on. -/
structure State.Idles (s t : State) (h : Nat) : Prop where
  tasks : t.task = s.task
  task : (t.helm h).task = none
  bank0 : (t.helm h).bank0 = (s.helm h).bank0
  shown : t.fld Fld.HLM_STATUS.IN_TASK h = 0
  rows : RowsKept statusRows s t

theorem helmTo_rows (rows : List Nat) (at_ : Nat) (s : State) : RowsKept rows s ((helmTo h at_).run s) := by
  rw [run_helmTo]; exact (RowsKept.refl rows s).modHelm _ _

theorem helm_helmTo (at_ : Nat) (s : State) : ((helmTo h at_).run s).helm h = (s.helm h).clocked at_ s.cyc := by
  rw [run_helmTo, helm_modHelm_same]

theorem helmTo_task (at_ : Nat) (s : State) : ((helmTo h at_).run s).task = s.task := by rw [run_helmTo, modHelm_task]

theorem idles_run (hready : s.readyList = []) (hstate : s.helmState h = Fn.on) (htask : (s.helm h).task = none)
    (hframes : (s.helm h).frames = []) : s.Idles ((seqs [dispatchAll at12, helmResume h at12 false, refreshHelm h]).run s) h := by
  rw [run_cons, run_dispatchAll_nil hready, run_cons, run_helmResume_background h at12 hstate htask hframes, run_cons, run_nil]
  have hhelm : ((refreshHelm h).run ((refreshHelm h).run ((helmTo h (at12 + 3 * s.cyc)).run
      ((modHelm h (HelmUnit.resumed at12 (s.chr.meridNs * 12))).run s)))).helm h = ((s.helm h).resumed at12 (s.chr.meridNs * 12)).clocked
        (at12 + 3 * s.cyc) ((modHelm h (HelmUnit.resumed at12 (s.chr.meridNs * 12))).run s).cyc := by
    rw [refreshHelm_helm, refreshHelm_helm, helm_helmTo, helm_modHelm_same]
  refine ⟨?_, ?_, ?_, ?_, ?_⟩
  · rw [refreshHelm_task, refreshHelm_task, helmTo_task, modHelm_task]
  · rw [hhelm]; exact htask
  · rw [hhelm]; rfl
  · rw [refreshHelm_inTask, ← refreshHelm_helm, hhelm, if_neg]
    have hnone : (((s.helm h).resumed at12 (s.chr.meridNs * 12)).clocked (at12 + 3 * s.cyc)
      ((modHelm h (HelmUnit.resumed at12 (s.chr.meridNs * 12))).run s).cyc).task = none := htask
    rw [hnone]
    exact Bool.false_ne_true
  · exact ((((RowsKept.refl _ s).modHelm _ _).trans (helmTo_rows h _ _ _)).trans (refreshHelm_rows h _)).trans (refreshHelm_rows h _)

/-- What is left of the helm and its task when the task has ended and background goes on. -/
structure State.EndsTask (s t : State) (h k : Nat) (trapped : Bool) : Prop where
  slot : t.taskOf k = (s.taskOf k).gone trapped
  task : (t.helm h).task = none
  bank0 : (t.helm h).bank0 = (s.helm h).bank0
  shown : t.fld Fld.HLM_STATUS.IN_TASK h = 0
  freed : ∀ n < 64, s.bit Fld.TSK_SEM_STATE.HELD n = true → s.bit Fld.TSK_SEM_STATE.BY_TASK n = true →
    s.fld Fld.TSK_SEM_STATE.TASK n = k → t.bit Fld.TSK_SEM_STATE.HELD n = false
  rows : RowsKept schedRows s t

/-- With no task ready or preempted, the end of a task gives its helm back to background. -/
theorem endsTask_run (hready : s.readyList = []) (hstate : s.helmState h = Fn.on) (hframes : (s.helm h).frames = [])
    (hspill : (s.helm h).spill = none) : s.EndsTask ((taskEnd h k at12 trapped false).run s) h k trapped := by
  have hhelm : ((taskGone h k at12 trapped).run s).helm h = s.helm h := taskGone_helm ..
  have hrows : RowsKept schedRows s ((taskGone h k at12 trapped).run s) := taskGone_rows h k at12 trapped s
  have hslot : ((taskGone h k at12 trapped).run s).taskOf k = (s.taskOf k).gone trapped := taskGone_taskOf ..
  have hnil : ((taskGone h k at12 trapped).run s).readyList = [] := taskGone_readyList_nil h k at12 trapped hready
  have hfreed := fun n hn hheld htask hholder => taskGone_held h k at12 trapped s (n := n) hn hheld htask hholder
  have hnone : ((spillNow h).run ((taskGone h k at12 trapped).run s)) = (taskGone h k at12 trapped).run s :=
    run_spillNow_none h (by rw [hhelm, hspill])
  rw [taskEnd, run_cons, run_cons, hnone]
  generalize (taskGone h k at12 trapped).run s = u at *
  have hon : ((modHelm h (HelmUnit.left at12)).run u).helmState h = Fn.on := (hrows _ _ (by decide)).trans hstate
  have hleft : ((modHelm h (HelmUnit.left at12)).run u).helm h = (s.helm h).left at12 := by rw [helm_modHelm_same, hhelm]
  have hstays : ¬ ((modHelm h (HelmUnit.left at12)).run u).helmState h = Fn.disabling := by rw [hon]; decide
  obtain ⟨htasks, htask, hbank0, hshown, hstatus⟩ := idles_run h at12 (s := (modHelm h (HelmUnit.left at12)).run u)
    ((readyList_congr_nil (s := u) (congrArg TaskUnit.tasks (modHelm_task ..))).mpr hnil) hon (by rw [hleft]; rfl) (by rw [hleft]; exact hframes)
  have hrun : (seqs [modHelm h (HelmUnit.left at12), .read fun s => if s.helmState h = Fn.disabling then
      seqs [framesGone h at12, helmOff h at12, dispatchAll at12] else seqs [dispatchAll at12, helmResume h at12 false, refreshHelm h]]).run u =
        (seqs [dispatchAll at12, helmResume h at12 false, refreshHelm h]).run ((modHelm h (HelmUnit.left at12)).run u) := by
    rw [run_cons, run_cons, run_nil, run_read, if_neg hstays]
  refine hrun ▸ ⟨?_, htask, hbank0.trans (by rw [hleft]; rfl), hshown, fun n hn hheld hby hholder => ?_, ?_⟩
  · rw [taskOf_congr (congrArg TaskUnit.tasks htasks), modHelm_taskOf, hslot]
  · rw [hstatus.bit (by decide), State.bit, modHelm_fld]
    exact hfreed n hn hheld hby hholder
  · exact (hrows.modHelm _ _).trans (hstatus.mono statusRows_sub)

end

/-! ### What dispatch leaves (R236 to R241) -/

/-- What every dispatch leaves: the banks, clock and CSRs of the helms, the counters of the tasks, and the register fields of other rows. -/
structure State.Dispatches (s t : State) : Prop where
  bank0 : ∀ h, (t.helm h).bank0 = (s.helm h).bank0
  bank1 : ∀ h, (t.helm h).bank1 = (s.helm h).bank1
  at12 : ∀ h, (t.helm h).at12 = (s.helm h).at12
  csr : ∀ h, (t.helm h).csr = (s.helm h).csr
  count : ∀ k, (t.taskOf k).count = (s.taskOf k).count
  rows : RowsKept schedRows s t

section
variable {s t u : State}

theorem State.Dispatches.refl (s : State) : s.Dispatches s := ⟨fun _ => rfl, fun _ => rfl, fun _ => rfl, fun _ => rfl, fun _ => rfl, .refl _ _⟩

theorem State.Dispatches.trans (hst : s.Dispatches t) (htu : t.Dispatches u) : s.Dispatches u :=
  ⟨fun h => (htu.bank0 h).trans (hst.bank0 h), fun h => (htu.bank1 h).trans (hst.bank1 h), fun h => (htu.at12 h).trans (hst.at12 h),
    fun h => (htu.csr h).trans (hst.csr h), fun k => (htu.count k).trans (hst.count k), hst.rows.trans htu.rows⟩

/-- A change of register fields alone. -/
theorem State.Dispatches.of_units (hhelms : t.helms = s.helms) (htask : t.task.tasks = s.task.tasks) (hrows : RowsKept schedRows s t) :
    s.Dispatches t :=
  have hhelm := helm_congr hhelms
  ⟨fun h => by rw [hhelm], fun h => by rw [hhelm], fun h => by rw [hhelm], fun h => by rw [hhelm], fun k => by rw [taskOf_congr htask], hrows⟩

end

/-- A program that leaves what every dispatch leaves. -/
def Dispatching (p : Prog) : Prop := ∀ s : State, s.Dispatches (p.run s)

theorem dispatching_nil : Dispatching (seqs []) := State.Dispatches.refl

theorem dispatching_cons {p : Prog} {l : List Prog} (hp : Dispatching p) (hl : Dispatching (seqs l)) : Dispatching (seqs (p :: l)) :=
  fun s => (hp s).trans (hl _)

theorem dispatching_refreshHelm (h : Nat) : Dispatching (refreshHelm h) := fun s =>
  .of_units (run_helms (refreshHelm_within (pm := 0x10) (by decide) h) (by decide) s) (congrArg TaskUnit.tasks (refreshHelm_task h s))
    ((refreshHelm_rows h s).mono statusRows_sub)

theorem dispatching_refreshTasks (owner : Nat) : Dispatching (refreshTasks owner) := fun s =>
  .of_units (run_helms (refreshTasks_within (pm := 0x120) (by decide) owner) (by decide) s) (congrArg TaskUnit.tasks (refreshTasks_tasks s owner))
    ((refreshTasks_rows owner s).mono statusRows_sub)

theorem dispatching_raise {f : Field} (hf : f.row ∈ schedRows) (n : Nat) : Dispatching (raise f n) := fun s =>
  .of_units rfl rfl ((RowsKept.refl _ s).fld hf _ _)

theorem dispatching_modTask {f : TaskUnit → TaskUnit} (hf : ∀ u, (f u).tasks = u.tasks := by exact fun _ => rfl) :
    Dispatching (modTask f) := fun s =>
  .of_units rfl (hf _) ((RowsKept.refl _ s).modTask _)

theorem dispatching_modTaskOf {k : Nat} {f : TaskRec → TaskRec} (hf : ∀ r, (f r).count = r.count := by exact fun _ => rfl) :
    Dispatching (modTaskOf k f) := fun s =>
  ⟨fun _ => rfl, fun _ => rfl, fun _ => rfl, fun _ => rfl, fun j => taskOf_modTaskOf_keeps TaskRec.count hf k j s,
    (RowsKept.refl _ s).modTaskOf _ _⟩

theorem helm_modHelm_keeps {α : Type} (g : HelmUnit → α) {f : HelmUnit → HelmUnit} (hf : ∀ u, g (f u) = g u) (h j : Nat) (s : State) :
    g (((modHelm h f).run s).helm j) = g (s.helm j) := by
  by_cases hj : j = h
  · rw [hj, helm_modHelm_same, hf]
  · rw [helm_modHelm_ne hj]

theorem dispatching_modHelm {h : Nat} {f : HelmUnit → HelmUnit} (hbank0 : ∀ u, (f u).bank0 = u.bank0 := by exact fun _ => rfl)
    (hbank1 : ∀ u, (f u).bank1 = u.bank1 := by exact fun _ => rfl) (hat12 : ∀ u, (f u).at12 = u.at12 := by exact fun _ => rfl)
    (hcsr : ∀ u, (f u).csr = u.csr := by exact fun _ => rfl) : Dispatching (modHelm h f) := fun s =>
  ⟨(helm_modHelm_keeps _ hbank0 h · s), (helm_modHelm_keeps _ hbank1 h · s), (helm_modHelm_keeps _ hat12 h · s),
    (helm_modHelm_keeps _ hcsr h · s), fun _ => rfl, (RowsKept.refl _ s).modHelm _ _⟩

theorem dispatching_taskSkip (k : Nat) : Dispatching (taskSkip k) := fun s =>
  dispatching_cons dispatching_modTaskOf
    (dispatching_cons (dispatching_raise (by decide) _) (dispatching_cons (dispatching_refreshTasks _) dispatching_nil)) s

theorem dispatching_dispatchTo (k l at12 : Nat) : Dispatching (dispatchTo k l at12) := fun s => by
  rw [dispatchTo, run_read]
  split
  · exact .refl s
  · refine dispatching_cons dispatching_modTask (dispatching_cons ?preempted (dispatching_cons dispatching_modTaskOf
      (dispatching_cons dispatching_modHelm
        (dispatching_cons (dispatching_refreshHelm _) (dispatching_cons (dispatching_refreshTasks _) dispatching_nil))))) s
    case preempted =>
      split
      · exact dispatching_modTaskOf
      · exact State.Dispatches.refl

theorem dispatching_dispatchAll (at12 : Nat) : Dispatching (dispatchAll at12) := fun s => by
  rw [dispatchAll, run_read]
  refine run_forP_keeps State.Dispatches .refl (fun _ _ _ => .trans) _ _ (fun k _ u => ?_) s
  rw [run_read]
  split
  · exact .refl u
  · split
    · exact dispatching_taskSkip k u
    · exact dispatching_dispatchTo k _ at12 u

end Sys2Proof.Machine

/-! SUPPORT. The proof of the statement of the integer, memory and arithmetic instructions (file 07; Machine/HelmExec.lean). -/

namespace Sys2Proof.Machine

/-! ### ECALL (R228, R229) -/

section
variable {s : State} {h : Nat}

theorem helmTask_of_background (htask : (s.helm h).task = none) : s.helmTask h = none := by rw [State.helmTask, htask, ite_self]

/-- An exception of background outside the first instruction of its handler enters the handler. -/
theorem run_exception_background (htask : (s.helm h).task = none) (hhandler : (s.helm h).handler = false) (cause pc trapPc at12 : Nat) :
    (exception h cause 0 pc trapPc at12 false).run s =
      (trapEnter h cause 0 pc ((s.helm h).csr.mtvec / 4 * 4)).run ((helmTo h at12).run s) := by
  rw [exception, run_read, helmTask_of_background htask]
  dsimp only
  rw [hhandler, if_neg Bool.false_ne_true, ite_self]
  rfl

theorem run_exception_error (htask : (s.helm h).task = none) (hhandler : (s.helm h).handler = true) (cause pc trapPc at12 : Nat) :
    (exception h cause 0 pc trapPc at12 false).run s = (helmError h at12).run s := by
  rw [exception, run_read, helmTask_of_background htask]
  dsimp only
  rw [if_pos hhandler]

theorem run_exception_task {k : Nat} (htask : s.helmTask h = some k) (cause pc trapPc at12 : Nat) :
    (exception h cause 0 pc trapPc at12 false).run s = (taskTrap h k cause trapPc at12 false).run ((helmTo h at12).run s) := by
  rw [exception, run_read, htask]
  rfl

end

/-- What holds after an exception holds after the row whose instruction raises it. -/
theorem trap_next {P : State → Prop} {s : State} {h row : Nat} {op : Rv.Op} {i : Instr} {want : Option Rv.Op → Bool} {cause tval : Nat}
    (hexec : exec i s = finish (helmInstruction h 0 0 row want) s) (hruns : s.runsFor h 4 = true) (hfetch : s.fetches h 4 op = true)
    (hwant : want (some op) = true) (hplan : s.quiet.plan h 0 0 4 op = .trap 4 cause tval)
    (hP : P ((exception h cause tval (s.bankOf h).pc (s.bankOf h).pc (s.helmEnds h 4) false).run (s.quiet.cyclesPass h 4))) :
    ∃ t, exec i s = .next t ∧ P t :=
  ⟨_, hexec.trans (congrArg Host.Outcome.next (run_helmInstruction_trap (s := s.quiet) hruns hfetch hwant hplan)), hP⟩

theorem helm_trapEnter (h cause tval pc target : Nat) (s : State) : ((trapEnter h cause tval pc target).run s).helm h =
    { s.helm h with
      handler := true, wait := .none
      bank0 := { (s.helm h).bank0 with pc := target }
      csr := { (s.helm h).csr with mepc := pc, mcause := cause, mtval := tval, mpie := (s.helm h).csr.mie, mie := false } } := by
  rw [trapEnter, helm_modHelm_same]

/-! ### A helm in ERROR latches a halt cause (R229, Table 15-10) -/

theorem refreshHalt_rows (s : State) : RowsKept [Fld.NVM_HALT_STATUS.DRIVING.row, Fld.NVM_HALT_STATUS.PIN.row] s (refreshHalt.run s) := by
  rw [refreshHalt, run_read, run_cons, run_cons, run_nil, run_put, run_whenP]
  refine RowsKept.fld ?_ (by decide) _ _
  split
  · rw [run_cons, run_cons, run_cons, run_nil, run_putN, run_whenP]
    split
    all_goals exact (RowsKept.refl _ s).fld (by decide) _ _
  · exact .refl _ s

/-- A halt cause that has appeared is shown. -/
theorem haltCause_helm_halted (s : State) : ((haltCause Halt.helm true).run s).halted Halt.helm = true := by
  rw [haltCause, run_read, run_whenP]
  cases hhalted : s.halted Halt.helm with
  | true => exact hhalted
  | false =>
    rw [if_pos (by decide), run_cons, run_cons, run_nil, State.halted, refreshHalt_rows _ _ _ (by decide), run_put, fld_fld_same, if_pos rfl]
    simp only [State.halted, bitAt, Halt.helm, beq_eq_false_iff_ne] at hhalted ⊢
    rw [show Fld.NVM_HALT_STATUS.CAUSE.w = 5 from rfl, beq_iff_eq]
    omega

/-- A helm that enters ERROR shows it, and halts the machine. -/
theorem helmError_shows {s : State} {h : Nat} (htask : (s.helm h).task = none) (at12 : Nat) :
    ((helmError h at12).run s).fld Fld.HLM_STATUS.FUNC_STATE h = Fn.error ∧ ((helmError h at12).run s).bit Fld.HLM_EVENT.ERROR h = true ∧
      ((helmError h at12).run s).halted Halt.helm = true := by
  rw [helmError, run_read, htask]
  simp only [run_cons, run_nil, run_skip, run_putN, run_raise]
  generalize (framesGone h at12).run s = u
  have hkept {f : Field} (hrow : f.row ∉ schedRows) (hblock : blockOf f.row = 4) (n : Nat) (v : State) :
      ((dispatchAll at12).run ((unitFault Kind.helm h 0).run ((haltCause Halt.helm true).run v))).fld f n = v.fld f n := by
    rw [(dispatching_dispatchAll at12 _).rows f n hrow, run_fld (unitFault_within (pm := 0x100007550580) (by decide) _ _ _) (by decide) f n
      (by rw [hblock]; decide), run_fld (haltCause_within (pm := 0x4000404000) (by decide) _ _) (by decide) f n (by rw [hblock]; decide)]
  refine ⟨?_, ?_, ?_⟩
  · rw [hkept (by decide) (by decide), refreshHelm_rows _ _ _ _ (by decide), modHelm_fld, fld_fld_ne (by decide), fld_fld_same]
    rfl
  · rw [State.bit, hkept (by decide) (by decide), refreshHelm_rows _ _ _ _ (by decide), modHelm_fld, fld_fld_same]
    rfl
  · rw [State.halted, (dispatching_dispatchAll at12 _).rows _ _ (by decide),
      run_fld (unitFault_within (pm := 0x100007550580) (by decide) _ _ _) (by decide) _ _ (by decide)]
    exact haltCause_helm_halted _

/-! ### A trap ends a task (R228, R247) -/

/-- What a trap leaves of a task, with no other ready or preempted, and of its helm. -/
structure State.EndsTrapped (s t : State) (h k cause pc : Nat) : Prop where
  live : (t.taskOf k).live = false
  trapped : (t.taskOf k).trapped = true
  due : (t.taskOf k).due = some false
  task : (t.helm h).task = none
  bank0 : (t.helm h).bank0 = (s.helm h).bank0
  shownTask : t.fld Fld.HLM_TRAP.TASK h = k % 2 ^ 12
  shownCause : t.fld Fld.HLM_TRAP.CAUSE h = cause % 2 ^ 5
  shownPc : t.fld Fld.HLM_TRAP_PC.PC h = pc % 2 ^ 32
  helmEvent : t.bit Fld.HLM_EVENT.TASK_TRAP h = true
  taskEvent : t.bit Fld.TSK_EVENT.TRAP = true

theorem dropWrites_keeps (k : Nat) (s : State) : (∀ h, ((dropWrites k).run s).helm h = s.helm h) ∧ ((dropWrites k).run s).task = s.task ∧
    ∀ f n, ((dropWrites k).run s).fld f n = s.fld f n :=
  have hp : (dropWrites k).Within 0x20000000 := dropWrites_within (by decide) k
  ⟨helm_congr (run_helms hp (by decide) s), run_task hp (by decide) s, fun f n => keepsBut_run hp (by decide) [] s f n (by simp)⟩

/-- The register fields in which a helm shows the trap of a task. -/
def showTrap (h k cause pc : Nat) : Prog := seqs [
  putN Fld.HLM_TRAP.TASK h k, putN Fld.HLM_TRAP.CAUSE h cause, putN Fld.HLM_TRAP_PC.PC h pc,
  raise Fld.HLM_EVENT.TASK_TRAP h, raise Fld.TSK_EVENT.TRAP]

theorem showTrap_shows (h k cause pc : Nat) (s : State) :
    ((showTrap h k cause pc).run s).fld Fld.HLM_TRAP.TASK h = k % 2 ^ 12 ∧
      ((showTrap h k cause pc).run s).fld Fld.HLM_TRAP.CAUSE h = cause % 2 ^ 5 ∧
      ((showTrap h k cause pc).run s).fld Fld.HLM_TRAP_PC.PC h = pc % 2 ^ 32 ∧
      ((showTrap h k cause pc).run s).bit Fld.HLM_EVENT.TASK_TRAP h = true ∧
      ((showTrap h k cause pc).run s).bit Fld.TSK_EVENT.TRAP = true ∧ ((showTrap h k cause pc).run s).helmState h = s.helmState h := by
  simp only [showTrap, run_cons, run_nil, run_putN, run_raise, State.bit, State.helmState]
  refine ⟨?_, ?_, ?_, ?_, ?_, ?_⟩
  · rw [fld_fld_ne (by decide), fld_fld_ne (by decide), fld_fld_ne (by decide), fld_fld_ne (by decide), fld_fld_same]; rfl
  · rw [fld_fld_ne (by decide), fld_fld_ne (by decide), fld_fld_ne (by decide), fld_fld_same]; rfl
  · rw [fld_fld_ne (by decide), fld_fld_ne (by decide), fld_fld_same]; rfl
  · rw [fld_fld_ne (by decide), fld_fld_same]; rfl
  · rw [fld_fld_same]; rfl
  · rw [fld_fld_ne (by decide), fld_fld_ne (by decide), fld_fld_ne (by decide), fld_fld_ne (by decide), fld_fld_ne (by decide)]

theorem run_taskTrap (h k cause pc at12 : Nat) (s : State) : (taskTrap h k cause pc at12 false).run s =
    (refreshTasks (s.taskOf k).owner).run ((taskEnd h k at12 true false).run ((modTaskOf k fun r => { r with due := some false }).run
      ((postLate k 3).run ((showTrap h k cause pc).run ((dropWrites k).run s))))) := by
  rw [taskTrap, run_read]
  simp only [showTrap, run_cons, run_nil]

theorem endsTrapped_run {s : State} {h k : Nat} (cause pc at12 : Nat) (hready : s.readyList = []) (hstate : s.helmState h = Fn.on)
    (hframes : (s.helm h).frames = []) (hspill : (s.helm h).spill = none) :
    s.EndsTrapped ((taskTrap h k cause pc at12 false).run s) h k cause pc := by
  obtain ⟨hhelmDrop, htaskDrop, hfldDrop⟩ := dropWrites_keeps k s
  obtain ⟨htask, hcause, hpc, hhelmEvent, htaskEvent, hstays⟩ := showTrap_shows h k cause pc ((dropWrites k).run s)
  have hpost : (postLate k 3).Within 0x7540580 := postLate_within (by decide) k 3
  rw [run_taskTrap]
  generalize hshown : (showTrap h k cause pc).run ((dropWrites k).run s) = u at *
  have hhelm : ((postLate k 3).run u).helm h = s.helm h := by
    rw [helm_congr (run_helms hpost (by decide) u), ← hhelmDrop h, ← hshown]; rfl
  have htasks : ((postLate k 3).run u).task = s.task := by rw [run_task hpost (by decide) u, ← htaskDrop, ← hshown]; rfl
  have hfld (f : Field) (n : Nat) (hf : Nat.testBit 0x7540580 (blockOf f.row) = false) : ((postLate k 3).run u).fld f n = u.fld f n :=
    run_fld hpost (by decide) f n hf u
  generalize (postLate k 3).run u = v at *
  have hnil : ((modTaskOf k fun r => { r with due := some false }).run v).readyList = [] :=
    readyList_modTaskOf_nil ((readyList_congr_nil (congrArg TaskUnit.tasks htasks)).mpr hready)
  have hon : ((modTaskOf k fun r => { r with due := some false }).run v).helmState h = Fn.on :=
    ((hfld _ _ (by decide)).trans hstays).trans ((hfldDrop _ _).trans hstate)
  obtain ⟨hslot, hnone, hbank0, -, -, hrows⟩ := endsTask_run h k at12 true hnil hon (by rw [helm_modTaskOf, hhelm, hframes])
    (by rw [helm_modTaskOf, hhelm, hspill])
  generalize (taskEnd h k at12 true false).run ((modTaskOf k fun r => { r with due := some false }).run v) = w at *
  have hkept {f : Field} (hrow : f.row ∉ schedRows) (hblock : Nat.testBit 0x7540580 (blockOf f.row) = false) (n : Nat) :
      ((refreshTasks (s.taskOf k).owner).run w).fld f n = u.fld f n := by
    rw [refreshTasks_rows _ _ f n fun hf => hrow (statusRows_sub _ hf), hrows f n hrow, modTaskOf_fld, hfld f n hblock]
  have hslot' : ((refreshTasks (s.taskOf k).owner).run w).taskOf k = { s.taskOf k with due := some false }.gone true := by
    rw [taskOf_congr (congrArg TaskUnit.tasks (refreshTasks_tasks _ _)), hslot, taskOf_modTaskOf_same, taskOf_congr (congrArg TaskUnit.tasks htasks)]
  have hhelm' : ((refreshTasks (s.taskOf k).owner).run w).helm h = w.helm h :=
    helm_congr (run_helms (refreshTasks_within (pm := 0x120) (by decide) _) (by decide) w) h
  refine ⟨?_, ?_, ?_, ?_, ?_, (hkept (by decide) (by decide) h).trans htask, (hkept (by decide) (by decide) h).trans hcause,
    (hkept (by decide) (by decide) h).trans hpc, ?_, ?_⟩
  · rw [hslot']; rfl
  · rw [hslot']; rfl
  · rw [hslot']; rfl
  · rw [hhelm', hnone]
  · rw [hhelm', hbank0, helm_modTaskOf, hhelm]
  · rw [State.bit, hkept (by decide) (by decide)]; exact hhelmEvent
  · rw [State.bit, hkept (by decide) (by decide)]; exact htaskEvent

/-! ### The statement -/

section
variable {s : State} {h row : Nat} (hruns : s.runsFor h 4 = true) (hfetch : s.fetches h 4 .ecall = true)
include hruns hfetch

/-- ECALL of background enters its trap handler. -/
theorem ecall_enters (htask : (s.helm h).task = none) (hhandler : (s.helm h).handler = false) :
    ∃ t, exec (.helmInstruction h 0 0 row) s = .next t ∧ (t.helm h).bank0.pc = (s.helm h).csr.mtvec / 4 * 4 ∧
      (t.helm h).csr.mepc = (s.helm h).bank0.pc ∧ (t.helm h).csr.mcause = 11 ∧ (t.helm h).csr.mie = false ∧
      (t.helm h).csr.mpie = (s.helm h).csr.mie ∧ (t.helm h).handler = true ∧ (t.helm h).at12 = s.helmEnds h 4 ∧
      t.helmState h = s.helmState h ∧ t.tcm = s.tcm := by
  refine trap_next (i := .helmInstruction h 0 0 row) rfl hruns hfetch rfl rfl ?_
  have hwaits : (s.quiet.cyclesPass h 4).helm h = { s.helm h with wait := if (s.helm h).task.isNone then .none else (s.helm h).wait } :=
    helm_cyclesPass s.quiet h 4
  have hbank : s.bankOf h = (s.helm h).bank0 := by rw [State.bankOf, helmTask_of_background htask]; rfl
  have hregs : (s.quiet.cyclesPass h 4).regs = s.regs := cyclesPass_regs s.quiet h 4
  have htcm : (s.quiet.cyclesPass h 4).tcm = s.tcm := cyclesPass_tcm s.quiet h 4
  rw [run_exception_background (by rw [hwaits]; exact htask) (by rw [hwaits]; exact hhandler), hbank, hwaits]
  generalize s.quiet.cyclesPass h 4 = u at *
  rw [helm_trapEnter, helm_helmTo, hwaits]
  refine ⟨rfl, rfl, rfl, rfl, rfl, rfl, rfl, ?_, ?_⟩
  · rw [State.helmState, trapEnter, modHelm_fld, run_helmTo, modHelm_fld]
    exact fld_congr hregs _ _
  · rw [trapEnter, modHelm_tcm, run_helmTo, modHelm_tcm, htcm]

/-- ECALL in the first instruction of the handler puts the helm in ERROR. -/
theorem ecall_errs (htask : (s.helm h).task = none) (hhandler : (s.helm h).handler = true) :
    ∃ t, exec (.helmInstruction h 0 0 row) s = .next t ∧ t.fld Fld.HLM_STATUS.FUNC_STATE h = Fn.error ∧
      t.bit Fld.HLM_EVENT.ERROR h = true ∧ t.halted Halt.helm = true := by
  refine trap_next (i := .helmInstruction h 0 0 row) rfl hruns hfetch rfl rfl ?_
  have hwaits : (s.quiet.cyclesPass h 4).helm h = { s.helm h with wait := if (s.helm h).task.isNone then .none else (s.helm h).wait } :=
    helm_cyclesPass s.quiet h 4
  rw [run_exception_error (by rw [hwaits]; exact htask) (by rw [hwaits]; exact hhandler)]
  exact helmError_shows (by rw [hwaits]; exact htask) _

/-- ECALL of a task ends it. -/
theorem ecall_endsTask {k : Nat} (htask : (s.helm h).task = some k) (hready : s.readyList = []) (hstate : s.helmState h = Fn.on)
    (hframes : (s.helm h).frames = []) (hspill : (s.helm h).spill = none) :
    ∃ t, exec (.helmInstruction h 0 0 row) s = .next t ∧ s.EndsTrapped t h k 11 (s.helm h).bank1.pc := by
  refine trap_next (i := .helmInstruction h 0 0 row) rfl hruns hfetch rfl rfl ?_
  have hparty := helmTask_of_runsFor hruns htask
  have hbank : s.bankOf h = (s.helm h).bank1 := by rw [State.bankOf, hparty]; rfl
  have hwaits : (s.quiet.cyclesPass h 4).helm h = { s.helm h with wait := if (s.helm h).task.isNone then .none else (s.helm h).wait } :=
    helm_cyclesPass s.quiet h 4
  have hregs : (s.quiet.cyclesPass h 4).regs = s.regs := cyclesPass_regs s.quiet h 4
  have htasks : (s.quiet.cyclesPass h 4).task = s.task := cyclesPass_task s.quiet h 4
  rw [run_exception_task ((helmTask_cyclesPass s.quiet h 4).trans hparty), hbank]
  generalize s.quiet.cyclesPass h 4 = u at *
  have hnil : ((helmTo h (s.helmEnds h 4)).run u).readyList = [] :=
    (readyList_congr_nil (congrArg TaskUnit.tasks ((helmTo_task h _ u).trans htasks))).mpr hready
  have hon : ((helmTo h (s.helmEnds h 4)).run u).helmState h = Fn.on :=
    (helmTo_rows h [] _ u _ _ (by decide)).trans ((fld_congr hregs _ _).trans hstate)
  have hends := endsTrapped_run (h := h) (k := k) 11 (s.helm h).bank1.pc (s.helmEnds h 4) hnil hon (by rw [helm_helmTo, hwaits]; exact hframes)
    (by rw [helm_helmTo, hwaits]; exact hspill)
  exact { hends with bank0 := hends.bank0.trans (by rw [helm_helmTo, hwaits]; rfl) }

end

/-- Settles O36: an instruction that runs leaves what its plan does, in the state after its cycles (`run_helmInstruction`); most plans are one write
of a register, a store is a write of bytes, and ECALL an exception. -/
theorem helmsExecuteTheIntegerAndMemoryInstructions : Obligations.HelmsExecuteTheIntegerAndMemoryInstructions := by
  unfold Obligations.HelmsExecuteTheIntegerAndMemoryInstructions
  refine ⟨?lui, ?opImm, ?op, ?mulDiv, ?jal, ?jalr, ?taken, ?untaken, ?load, ?store, ?amo, ?farith,
    fun _ _ _ => ecall_enters, fun _ _ _ => ecall_errs, ?ecallTask⟩
  case lui =>
    intro h row rd imm s hruns hfetch
    exact writes_next (i := .helmInstruction h 0 0 row) rfl hruns hfetch rfl rfl rfl rfl
  case opImm =>
    intro h row f3 rd rs1 imm alt s hruns hfetch
    exact writes_next (i := .helmInstruction h 0 0 row) rfl hruns hfetch rfl rfl rfl rfl
  case op =>
    intro h row f3 rd rs1 rs2 alt s hruns hfetch
    exact writes_next (i := .helmInstruction h 0 0 row) rfl hruns hfetch rfl rfl rfl rfl
  case mulDiv =>
    intro h row f3 rd rs1 rs2 s hruns hfetch
    exact writes_next (i := .helmInstruction h 0 0 row) rfl hruns hfetch rfl rfl rfl rfl
  case jal =>
    intro h row rd off s hruns hfetch
    exact writes_next (i := .helmInstruction h 0 0 row) rfl hruns hfetch rfl rfl rfl rfl
  case jalr =>
    intro h row rd rs1 imm s hruns hfetch
    exact writes_next (i := .helmInstruction h 0 0 row) rfl hruns hfetch rfl rfl rfl rfl
  case taken =>
    intro h row f3 rs1 rs2 off s hruns hfetch htaken
    exact skips_next (i := .helmInstruction h 0 0 row) rfl hruns hfetch rfl (if_pos htaken) rfl rfl
  case untaken =>
    intro h row f3 rs1 rs2 off s hruns hfetch htaken
    exact skips_next (i := .helmInstruction h 0 0 row) rfl hruns hfetch rfl (if_neg (ne_true_of_eq_false htaken)) rfl rfl
  case load =>
    rintro h row f3 rd rs1 imm a s hruns hfetch rfl haligned hdtcm
    refine writes_next (i := .helmInstruction h 0 0 row) rfl hruns hfetch rfl (planLoad_dtcm (s := s.quiet) hdtcm haligned 0 fun v =>
      putX h rd (if f3 < 2 then Rv.sx v (8 * 2 ^ f3) else v)) rfl ?_
    rw [run_read, tcmRead_afterCycles]
    rfl
  case store =>
    rintro h row f3 rs1 rs2 imm a s hruns hfetch rfl haligned hdtcm
    obtain ⟨t, ht, hs⟩ := stores_next (rd := 0) (v := 0) (i := .helmInstruction h 0 0 row) rfl hruns hfetch rfl
      (planStore_dtcm (s := s.quiet) hdtcm haligned 0 _) rfl
    obtain ⟨hretired, hread, htcm, -, hkept⟩ := hs
    rw [toBytes_length] at hread htcm
    exact ⟨t, ht, hretired, hread, htcm, hkept⟩
  case amo =>
    intro h row f5 rd rs1 rs2 s hruns hfetch haligned hdtcm
    obtain ⟨t, ht, hs⟩ := stores_next (rd := rd) (v := s.tcmWord h ((s.bankOf h).reg rs1)) (a := (s.bankOf h).reg rs1)
      (bs := toBytes (Rv.amoOp f5 (s.tcmWord h ((s.bankOf h).reg rs1)) ((s.bankOf h).reg rs2)) 4)
      (i := .helmInstruction h 0 0 row) rfl hruns hfetch rfl
      (planAtomic_dtcm (s := s.quiet) hdtcm haligned 4 _ _ _) (by rw [run_read, State.tcmWord, tcmRead_afterCycles]; rfl)
    obtain ⟨hretired, hread, htcm, hwrote, hkept⟩ := hs
    rw [toBytes_length] at hread htcm
    exact ⟨t, ht, hretired, hwrote, by rw [State.tcmWord, hread, ofBytes_toBytes]; rfl, htcm, hkept⟩
  case farith =>
    intro h row f5 rd rs1 rs2 rm s hruns hfetch
    obtain ⟨t, ht, hretired, hbank, htcm⟩ := putFRes_next (i := .helmInstruction h 0 0 row) rfl hruns hfetch rfl rfl
    have hbank' : (if (s.helmTask h).isSome then (t.helm h).bank1 else (t.helm h).bank0) = _ := hbank
    refine ⟨t, ht, hretired, ?_, htcm⟩
    dsimp only
    rw [hbank']
    exact ⟨freg_putF .., rfl, rfl⟩
  case ecallTask =>
    intro h row k s hruns hfetch htask hlow hready hstate hframes hspill
    obtain ⟨t, ht, hends⟩ := ecall_endsTask (row := row) hruns hfetch htask hready hstate hframes hspill
    exact ⟨t, ht, hends.live, hends.trapped, hends.due, hends.task, hends.bank0, hends.shownTask.trans (Nat.mod_eq_of_lt hlow), hends.shownCause,
      hends.shownPc, hends.helmEvent, hends.taskEvent⟩

end Sys2Proof.Machine

/-! SUPPORT. The proof of the statement of GY.LIN, GY.LOUT and GY.LSTAT (file 07; Machine/HelmExec.lean). -/

namespace Sys2Proof.Machine

/-! ### What the legs and entries read as depends on -/

theorem legWord_congr {s t : State} (hchart : t.chart = s.chart) (htick : t.chr.tick = s.chr.tick) (i : Nat) : t.legWord i = s.legWord i := by
  rw [State.legWord, leg_congr hchart, State.tick, htick, State.legWord, State.tick]

theorem entryAt_afterCycles (s : State) (h cyc pc i : Nat) : (s.afterCycles h cyc pc).entryAt i = s.entryAt i := by
  rw [State.entryAt, entry_congr (afterCycles_chart ..) (afterCycles_fld ..), State.entryAt]

theorem mayRead_congr {s t : State} (htasks : t.task.tasks = s.task.tasks) (task : Option Nat) (e : ChartEntry) :
    t.mayRead task e = s.mayRead task e := by
  cases task with
  | none => rfl
  | some k => rw [State.mayRead, taskOf_congr htasks, State.mayRead]

theorem latestAt_congr {s t : State} (hmerid : t.chr.meridNs = s.chr.meridNs) (r : TaskRec) : t.latestAt r = s.latestAt r := by
  rw [State.latestAt, hmerid, State.latestAt]

theorem moves_of_valid {e : ChartEntry} (h : e.valid = true) : e.moves = e.payload := if_pos h

theorem valid_of_mayRead {s : State} {task : Option Nat} {e : ChartEntry} (h : s.mayRead task e = true) : e.valid = true :=
  (Bool.and_eq_true_iff.mp (Bool.and_eq_true_iff.mp h).1).1

/-! ### GY.LIN and GY.LSTAT (R221) -/

/-- The bytes that GY.LIN moves of an inbound leg. -/
def State.legBytes (s : State) (i len : Nat) : List Byte := ((s.leg i).inb ++ List.replicate len 0).take len

theorem legBytes_length (s : State) (i len : Nat) : (s.legBytes i len).length = len := by
  rw [State.legBytes, List.length_take, List.length_append, List.length_replicate]
  omega

section
variable {s : State} {h rd dst i : Nat}

theorem planLin_reads (hread : s.mayRead (s.helmTask h) (s.entryAt i) = true) (haligned : dst % 8 = 0)
    (hdtcm : s.inDtcm (s.helmTask h) dst (s.entryAt i).payload = true) : s.planLin h rd dst i =
      .run (3 + ((s.entryAt i).payload + 7) / 8) none
        (.read fun t => seqs [helmPut h dst (t.legBytes i (s.entryAt i).payload), putX h rd (t.legWord i)]) := by
  simp only [State.planLin, haligned, hread, hdtcm, moves_of_valid (valid_of_mayRead hread), ne_eq, not_true_eq_false, if_false, Bool.not_true,
    Bool.false_eq_true]
  rfl

theorem planLin_refused (hread : s.mayRead (s.helmTask h) (s.entryAt i) = false) (haligned : dst % 8 = 0) :
    s.planLin h rd dst i = .run (3 + ((s.entryAt i).moves + 7) / 8) none (putX h rd St.badEntry) := by
  simp only [State.planLin, haligned, hread, ne_eq, not_true_eq_false, if_false, Bool.not_false, if_true]

end

/-! ### GY.LOUT (R222, R244) -/

/-- Whether a task may write an outbound entry. -/
def ChartEntry.writtenBy (e : ChartEntry) (owner k : Nat) : Bool := e.valid && !e.inbound && e.owner == owner && e.trigger == k && k != 0

/-- The working buffer of a tick takes bytes. -/
def LegRec.fill (tick : Nat) (bs : List Byte) (l : LegRec) : LegRec :=
  if tick % 2 = 0 then { l with buf0 := some (tick, bs) } else { l with buf1 := some (tick, bs) }

/-- What GY.LOUT of an entry does at the end of its cycles. -/
def loutEffect (h rd src i : Nat) (e : ChartEntry) : Prog := .read fun s =>
  match s.helmTask h with
  | none => putX h rd St.badEntry
  | some t =>
    if !(e.writtenBy (s.taskOf t).owner t) then putX h rd St.badEntry
    else if (s.helm h).at12 > s.latestAt (s.taskOf t) ∨ (s.taskOf t).actTick ≠ s.tick then putX h rd St.late
    else seqs [modLeg i (LegRec.fill s.tick (s.tcmRead h src e.payload)), putX h rd St.success]

theorem planLout_eq {s : State} {h src i : Nat} (rd : Nat) (haligned : src % 8 = 0)
    (hdtcm : s.inDtcm (s.helmTask h) src (s.entryAt i).moves = true) : s.planLout h rd src i false =
      .run (2 + ((s.entryAt i).moves + 7) / 8) none (loutEffect h rd src i (s.entryAt i)) := by
  simp only [State.planLout, haligned, hdtcm, ne_eq, not_true_eq_false, if_false, Bool.not_true, Bool.or_false, Bool.false_eq_true]
  rfl

theorem planLout_valid {s : State} {h src i : Nat} (rd : Nat) (haligned : src % 8 = 0) (hvalid : (s.entryAt i).valid = true)
    (hdtcm : s.inDtcm (s.helmTask h) src (s.entryAt i).payload = true) : s.planLout h rd src i false =
      .run (2 + ((s.entryAt i).payload + 7) / 8) none (loutEffect h rd src i (s.entryAt i)) := by
  rw [← moves_of_valid hvalid] at hdtcm ⊢
  exact planLout_eq rd haligned hdtcm

section
variable {s : State} {h rd src i k : Nat} {e : ChartEntry} (hparty : s.helmTask h = some k)
include hparty

theorem run_loutEffect_refused (howner : e.writtenBy (s.taskOf k).owner k = false) :
    (loutEffect h rd src i e).run s = (putX h rd St.badEntry).run s := by
  rw [loutEffect, run_read, hparty]
  dsimp only
  rw [howner, if_pos (by rfl)]

theorem run_loutEffect_late (howner : e.writtenBy (s.taskOf k).owner k = true) (hlate : s.latestAt (s.taskOf k) < (s.helm h).at12) :
    (loutEffect h rd src i e).run s = (putX h rd St.late).run s := by
  rw [loutEffect, run_read, hparty]
  dsimp only
  rw [howner, if_neg (by decide), if_pos (.inl hlate)]

theorem run_loutEffect_fills (howner : e.writtenBy (s.taskOf k).owner k = true) (htime : (s.helm h).at12 ≤ s.latestAt (s.taskOf k))
    (hact : (s.taskOf k).actTick = s.tick) : (loutEffect h rd src i e).run s =
      (putX h rd St.success).run ((modLeg i (LegRec.fill s.tick (s.tcmRead h src e.payload))).run s) := by
  rw [loutEffect, run_read, hparty]
  dsimp only
  rw [howner, if_neg (by decide), if_neg (not_or.mpr ⟨Nat.not_lt.mpr htime, not_not.mpr hact⟩), run_cons, run_cons, run_nil]

end

theorem writtenBy_iff {e : ChartEntry} {owner k : Nat} (hk : k ≠ 0) :
    e.writtenBy owner k = true ↔ e.valid = true ∧ e.inbound = false ∧ e.owner = owner ∧ e.trigger = k := by
  simp only [ChartEntry.writtenBy, Bool.and_eq_true, Bool.not_eq_true', beq_iff_eq, bne_iff_ne, ne_eq, hk, not_false_eq_true, and_true, and_assoc]

section
variable {s : State} {h cyc pc rd src i k : Nat} {e : ChartEntry} (hparty : s.helmTask h = some k)
include hparty

/-- GY.LOUT of an entry that the task may not write does no more than return BAD_ENTRY. -/
theorem run_loutEffect_afterCycles_refused (howner : e.writtenBy (s.taskOf k).owner k = false) :
    (loutEffect h rd src i e).run (s.afterCycles h cyc pc) = (putX h rd St.badEntry).run (s.afterCycles h cyc pc) :=
  run_loutEffect_refused ((helmTask_afterCycles ..).trans hparty) (by rw [afterCycles_taskOf]; exact howner)

/-- GY.LOUT after the task's latest finish does no more than return LATE. -/
theorem run_loutEffect_afterCycles_late (howner : e.writtenBy (s.taskOf k).owner k = true) (hlate : s.latestAt (s.taskOf k) < s.helmEnds h cyc) :
    (loutEffect h rd src i e).run (s.afterCycles h cyc pc) = (putX h rd St.late).run (s.afterCycles h cyc pc) :=
  run_loutEffect_late ((helmTask_afterCycles ..).trans hparty) (by rw [afterCycles_taskOf]; exact howner)
    (by rw [afterCycles_taskOf, latestAt_congr (afterCycles_meridNs ..), (shows_afterCycles ..).ends]; exact hlate)

theorem run_loutEffect_afterCycles_fills (howner : e.writtenBy (s.taskOf k).owner k = true)
    (htime : s.helmEnds h cyc ≤ s.latestAt (s.taskOf k)) (hact : (s.taskOf k).actTick = s.tick) :
    (loutEffect h rd src i e).run (s.afterCycles h cyc pc) = (putX h rd St.success).run
      ((modLeg i (LegRec.fill s.tick (s.tcmRead h src e.payload))).run (s.afterCycles h cyc pc)) := by
  have htick : (s.afterCycles h cyc pc).tick = s.tick := afterCycles_tick ..
  rw [run_loutEffect_fills ((helmTask_afterCycles ..).trans hparty) (by rw [afterCycles_taskOf]; exact howner)
    (by rw [afterCycles_taskOf, latestAt_congr (afterCycles_meridNs ..), (shows_afterCycles ..).ends]; exact htime)
    (by rw [afterCycles_taskOf, htick]; exact hact), htick, tcmRead_afterCycles]

end

/-- The buffer that GY.LOUT has filled. -/
theorem fill_buffer (tick : Nat) (bs : List Byte) (l : LegRec) :
    (if tick % 2 = 0 then (l.fill tick bs).buf0 else (l.fill tick bs).buf1) = some (tick, bs) := by
  unfold LegRec.fill
  split <;> rfl

/-- What is left by a leg's buffer and a register written after the cycles of an instruction. -/
theorem filled_afterCycles (s : State) (h cyc pc i rd v tick : Nat) (bs : List Byte) {t : State}
    (ht : t = (putX h rd v).run ((modLeg i (LegRec.fill tick bs)).run (s.afterCycles h cyc pc))) :
    s.retired t h cyc pc = true ∧ (if tick % 2 = 0 then (t.leg i).buf0 else (t.leg i).buf1) = some (tick, bs) ∧ s.wroteX t h rd v = true ∧
      s.keptX t h rd = true ∧ t.tcm = s.tcm := by
  have hp : (putX h rd v).Within 0x1000000000 := putX_within (by decide) h rd v
  have hm : (modLeg i (LegRec.fill tick bs)).Within 0x20000000 := modLeg_within (by decide) i _
  have hhelm : ((modLeg i (LegRec.fill tick bs)).run (s.afterCycles h cyc pc)).helm h = (s.afterCycles h cyc pc).helm h :=
    helm_congr (run_helms hm (by decide) _) h
  have hparty : ((modLeg i (LegRec.fill tick bs)).run (s.afterCycles h cyc pc)).helmTask h = s.helmTask h := by
    rw [State.helmTask, hhelm]; exact helmTask_afterCycles ..
  obtain ⟨hretired, hwrote, hkept⟩ := (((shows_afterCycles s h cyc pc).of_helm hhelm).putX hparty rd v).writes
  subst ht
  refine ⟨hretired, ?_, hwrote, hkept, ?_⟩
  · rw [leg_congr (run_chart hp (by decide) _), leg_modLeg_same, fill_buffer]
  · rw [run_tcm hp (by decide), run_tcm hm (by decide), afterCycles_tcm]

/-! ### The statement -/

/-- Settles O37: the payload that GY.LIN stores and the word it returns are those of the leg, which the cycles leave; GY.LOUT fills the buffer of the
tick or writes one register. -/
theorem theGytrumInstructionsReadAndWriteLegs : Obligations.TheGytrumInstructionsReadAndWriteLegs := by
  unfold Obligations.TheGytrumInstructionsReadAndWriteLegs
  refine ⟨?reads, ?refused, ?fills, ?late, ?notWritten, ?status⟩
  case reads =>
    intro h row rd rs1 rs2 s hruns hfetch hread haligned hdtcm
    obtain ⟨t, ht, hs⟩ := stores_next (rd := rd) (v := s.legWord ((s.bankOf h).reg rs2)) (a := (s.bankOf h).reg rs1)
      (bs := s.legBytes ((s.bankOf h).reg rs2) (s.entryAt ((s.bankOf h).reg rs2)).payload) (i := .gyLin h 0 row) rfl hruns hfetch rfl
      (planLin_reads (s := s.quiet) hread haligned hdtcm)
      (by rw [run_read, legWord_congr (afterCycles_chart ..) (afterCycles_tick ..), State.legBytes, leg_congr (afterCycles_chart ..)]; rfl)
    obtain ⟨hretired, hbytes, htcm, hwrote, hkept⟩ := hs
    rw [legBytes_length] at hbytes htcm
    exact ⟨t, ht, hretired, hbytes, htcm, hwrote, hkept⟩
  case refused =>
    intro h row rd rs1 rs2 s hruns hfetch hread haligned
    exact writes_next (i := .gyLin h 0 row) rfl hruns hfetch rfl (planLin_refused (s := s.quiet) hread haligned) rfl rfl
  case fills =>
    intro h row rd rs1 rs2 k s hruns hfetch htask _ hk hvalid hinbound howner htrigger haligned hdtcm htime hact
    have hparty := helmTask_of_runsFor hruns htask
    refine instruction_next (i := .gyLout h 0 row) rfl hruns hfetch rfl (planLout_valid (s := s.quiet) rd haligned hvalid hdtcm) ?_
    exact filled_afterCycles s.quiet h _ _ _ rd St.success s.tick _ (run_loutEffect_afterCycles_fills (s := s.quiet) hparty
      ((writtenBy_iff hk).mpr ⟨hvalid, hinbound, howner, htrigger⟩) htime hact)
  case late =>
    intro h row rd rs1 rs2 k s hruns hfetch htask _ hk hvalid hinbound howner htrigger haligned hdtcm hlate
    have hparty := helmTask_of_runsFor hruns htask
    obtain ⟨t, ht, hw⟩ := writesX_next (i := .gyLout h 0 row) rfl hruns hfetch rfl
      (planLout_valid (s := s.quiet) rd haligned hvalid hdtcm) (run_loutEffect_afterCycles_late (s := s.quiet) hparty
      ((writtenBy_iff hk).mpr ⟨hvalid, hinbound, howner, htrigger⟩) hlate)
    exact ⟨t, ht, hw.retired, hw.chart, hw.wrote, hw.kept, hw.tcm⟩
  case notWritten =>
    intro h row rd rs1 rs2 k s hruns hfetch htask _ hk hnot haligned hdtcm
    have hparty := helmTask_of_runsFor hruns htask
    have hrefused : (s.entryAt ((s.bankOf h).reg rs2)).writtenBy (s.taskOf k).owner k = false := by
      rw [Bool.eq_false_iff, ne_eq, writtenBy_iff hk]
      rintro ⟨hvalid, hinbound, howner, htrigger⟩
      rcases hnot with hbad | hbad | hbad | hbad
      · exact Bool.false_ne_true (hbad.symm.trans hvalid)
      · exact Bool.false_ne_true (hinbound.symm.trans hbad)
      · exact hbad howner
      · exact hbad htrigger
    obtain ⟨t, ht, hw⟩ := writesX_next (i := .gyLout h 0 row) rfl hruns hfetch rfl (planLout_eq (s := s.quiet) rd haligned hdtcm)
      (run_loutEffect_afterCycles_refused (s := s.quiet) hparty hrefused)
    exact ⟨t, ht, hw.retired, hw.chart, hw.wrote, hw.kept, hw.tcm⟩
  case status =>
    intro h row rd rs1 s hruns hfetch
    refine writes_next (i := .gyLstat h 0 row) rfl hruns hfetch rfl rfl rfl ?_
    rw [run_read, helmTask_afterCycles, entryAt_afterCycles,
      mayRead_congr (congrArg TaskUnit.tasks (afterCycles_task ..)), legWord_congr (afterCycles_chart ..) (afterCycles_tick ..)]
    rfl

end Sys2Proof.Machine

/-! SUPPORT. The proof of the statement of GY.SIG, the semaphore instructions, GY.DONE, GY.WFT and GY.FCLMP (file 07; Machine/HelmExec.lean). -/

namespace Sys2Proof.Machine

/-! ### A semaphore taken (R242) -/

/-- What a helm leaves that takes a semaphore for its task or for background. -/
structure State.TakesSem (s t : State) (h n : Nat) (task : Option Nat) : Prop where
  held : t.bit Fld.TSK_SEM_STATE.HELD n = true
  helm : t.fld Fld.TSK_SEM_STATE.HELM n = h
  byTask : t.bit Fld.TSK_SEM_STATE.BY_TASK n = task.isSome
  semPtr : t.task.semPtr = (h + 1) % 18
  helms : ∀ j, t.helm j = s.helm j
  tcm : t.tcm = s.tcm

theorem takesSem_run {h : Nat} (hlow : h < 18) (task : Option Nat) (n at12 : Nat) (s : State) :
    s.TakesSem ((semTake h task n at12).run s) h n task := by
  have hp : (semTake h task n at12).Within 0x2000000030 := semTake_within (by decide) h task n at12
  refine ⟨?_, ?_, ?_, ?_, helm_congr (run_helms hp (by decide) s), run_tcm hp (by decide) s⟩
  all_goals simp only [semTake, run_cons, run_nil, run_raise, run_putN]
  · rw [(refreshHelm_rows _ _).bit (by decide), ((RowsKept.refl [] _).modTask _).bit (by decide), State.bit, fld_fld_ne (by decide),
      fld_fld_ne (by decide), fld_fld_ne (by decide), fld_fld_same]
    rfl
  · rw [refreshHelm_rows _ _ _ _ (by decide), (RowsKept.refl [] _).modTask _ _ _ (by decide), fld_fld_ne (by decide), fld_fld_same]
    exact Nat.mod_eq_of_lt (Nat.lt_trans hlow (by decide))
  · rw [(refreshHelm_rows _ _).bit (by decide), ((RowsKept.refl [] _).modTask _).bit (by decide), State.bit, fld_fld_ne (by decide),
      fld_fld_ne (by decide), fld_fld_same]
    cases task <;> rfl
  · rw [refreshHelm_task]
    rfl

section
variable {s : State} {h cyc pc n : Nat}

/-- The cycles of background's instruction leave it waiting for nothing. -/
theorem wait_afterCycles (htask : (s.helm h).task = none) : ((s.afterCycles h cyc pc).helm h).wait = .none := by
  have hwait : ((s.cyclesPass h cyc).helm h).wait = .none := by rw [helm_cyclesPass, htask]; rfl
  rw [helm_afterCycles]
  exact (mapBank_wait ..).trans hwait

/-- Background may use every semaphore. -/
theorem maySem_background (hlow : n < 64) : s.maySem none n = true := by rw [State.maySem, decide_eq_true hlow]; rfl

theorem planSem_allowed {p : Prog} (hmay : s.maySem (s.helmTask h) n = true) : s.planSem h cyc n p = .run cyc none p := if_pos hmay

end

/-! ### SEMAPHORE_TAKEN (R242) -/

/-- A helm that waits no more from an instant on. -/
def HelmUnit.woken (at12 : Nat) (u : HelmUnit) : HelmUnit := { u with wait := .none, at12 := max u.at12 at12 }

theorem semaphoreTaken_eq {s : State} {h n : Nat} (hlow : h < 18) (hwait : (s.helm h).wait = .sem n)
    (hfree : s.bit Fld.TSK_SEM_STATE.HELD n = false) (hfirst : (s.semWaiters n).head? = some h) :
    ∃ at12, exec (.semaphoreTaken h) s = .next ((semTake h none n at12).run ((modHelm h (HelmUnit.woken at12)).run s.quiet)) := by
  have hgoes : (h < 18 && !s.bit Fld.TSK_SEM_STATE.HELD n && (s.semWaiters n).head? == some h) = true := by
    rw [hfree, hfirst, decide_eq_true hlow, beq_self_eq_true]; rfl
  refine ⟨max (s.helm h).at12 (tget 0 s.task.semAt n), ?_⟩
  show execSemaphoreTaken h s = _
  rw [execSemaphoreTaken, hwait]
  dsimp only
  rw [hgoes]
  rfl

/-! ### GY.SIG (R223) -/

/-- What GY.SIG does at the end of its cycles. -/
def sigEffect (h rd k : Nat) : Prog := .read fun s =>
  let ok := decide (k < 4096) && (match s.helmTask h with
    | some me => (s.taskOf me).owner == (s.taskOf k).owner
    | none => true)
  if ok then seqs [putX h rd St.success, taskEvent k (s.helm h).at12 true] else putX h rd St.badEntry

theorem planSig_eq (h rd k : Nat) : planSig h rd k = .run 2 none (sigEffect h rd k) := rfl

section
variable {s : State} {h k rd : Nat}

theorem run_sigEffect_refused (hhigh : 4096 ≤ k) : (sigEffect h rd k).run s = (putX h rd St.badEntry).run s := by
  rw [sigEffect, run_read, decide_eq_false (Nat.not_lt.mpr hhigh), Bool.false_and]
  rfl

theorem run_sigEffect_background (hparty : s.helmTask h = none) (hlow : k < 4096) : (sigEffect h rd k).run s =
    (taskEvent k (s.helm h).at12 true).run ((putX h rd St.success).run s) := by
  rw [sigEffect, run_read, hparty, decide_eq_true hlow]
  rfl

/-- Dispatch leaves what an instruction has left of its bank. -/
theorem State.Shows.dispatches {t u : State} {cyc : Nat} {b : Bank} (hb : s.Shows t h cyc b) (hd : t.Dispatches u) : s.Shows u h cyc b :=
  hb.congr (hd.bank0 h) (hd.bank1 h) (hd.at12 h) (hd.csr h)

/-- GY.SIG to a counter above 1 takes one from it, whatever is dispatched with it. -/
theorem signal_counts (harmed : (s.taskOf k).armed = true) (hcount : 1 < (s.taskOf k).count) (hlive : (s.taskOf k).live = false) (at12 : Nat) :
    ((modTaskOf k fun r => { r with count := r.count - 1 }).run s).Dispatches ((taskEvent k at12 true).run s) := by
  rw [taskEvent, run_cons, run_cons, run_nil, run_taskCount_counts harmed hcount (by rw [hlive]; rfl)]
  exact dispatching_dispatchAll _ _

end

/-! ### GY.DONE (R224, R240) -/

/-- The task slot of a task that has counted a run of some cycles. -/
def TaskRec.ran (cycles : Nat) (r : TaskRec) : TaskRec :=
  { r with runCnt := (r.runCnt + 1) % 65536, lastCyc := cycles, maxCyc := max r.maxCyc cycles }

theorem run_doneStats (h k : Nat) (s : State) : (doneStats h k).run s = (modTaskOf k (TaskRec.ran (min 65535 (s.gyCyc h)))).run s := rfl

section
variable {s : State} {h cyc pc k : Nat}

/-- The cycles of a task's instruction leave background's bank and the preempted tasks. -/
theorem helm_afterCycles_task (hparty : s.helmTask h = some k) : ((s.afterCycles h cyc pc).helm h).bank0 = (s.helm h).bank0 ∧
    ((s.afterCycles h cyc pc).helm h).frames = (s.helm h).frames ∧ ((s.afterCycles h cyc pc).helm h).spill = (s.helm h).spill := by
  rw [helm_afterCycles, helm_cyclesPass, hparty]
  exact ⟨rfl, rfl, rfl⟩

theorem plan_done (hparty : s.helmTask h = some k) : s.plan h 0 0 4 .done =
    .run 2 none (seqs [doneStats h k, .read fun u => taskEnd h k (u.helm h).at12 false false]) := by
  show Plan.run 2 none (match s.helmTask h with
    | some t => seqs [doneStats h t, .read fun u => taskEnd h t (u.helm h).at12 false (0 == 4)]
    | none => .skip) = _
  rw [hparty]
  rfl

/-- GY.DONE ends the task whose run it has counted. -/
theorem done_endsTask (hparty : s.helmTask h = some k) (hready : s.readyList = []) (hstate : s.helmState h = Fn.on)
    (hframes : (s.helm h).frames = []) (hspill : (s.helm h).spill = none) : ∃ cycles,
      ((modTaskOf k (TaskRec.ran cycles)).run (s.afterCycles h cyc pc)).EndsTask
        ((seqs [doneStats h k, .read fun u => taskEnd h k (u.helm h).at12 false false]).run (s.afterCycles h cyc pc)) h k false := by
  obtain ⟨-, hframes', hspill'⟩ := helm_afterCycles_task (cyc := cyc) (pc := pc) hparty
  have htasks : (s.afterCycles h cyc pc).task = s.task := afterCycles_task ..
  have hon : (s.afterCycles h cyc pc).helmState h = Fn.on := (afterCycles_fld ..).trans hstate
  rw [hframes] at hframes'
  rw [hspill] at hspill'
  refine ⟨min 65535 ((s.afterCycles h cyc pc).gyCyc h), ?_⟩
  rw [run_cons, run_cons, run_nil, run_read, run_doneStats]
  generalize s.afterCycles h cyc pc = u at *
  exact endsTask_run h k _ false (readyList_modTaskOf_nil ((readyList_congr_nil (congrArg TaskUnit.tasks htasks)).mpr hready)) hon hframes' hspill'

end

/-! ### The semaphore instructions (R242) -/

theorem lt_of_runsFor {s : State} {h cyc : Nat} (hruns : s.runsFor h cyc = true) : h < 18 := by
  simp only [State.runsFor, Bool.and_eq_true, decide_eq_true_eq] at hruns
  obtain ⟨⟨hlow, -⟩, -⟩ := hruns
  exact hlow

/-- What GY.SEMTRY does at the end of its cycles. -/
def semtryEffect (h rd n : Nat) : Prog := .read fun t =>
  if t.bit Fld.TSK_SEM_STATE.HELD n then putX h rd 0 else seqs [putX h rd 1, semTake h (t.helmTask h) n (t.helm h).at12]

/-- What GY.SEMTAKE does at the end of its cycles. -/
def semtakeEffect (h n : Nat) : Prog := .read fun t =>
  if t.bit Fld.TSK_SEM_STATE.HELD n then modHelm h fun u => { u with wait := .sem n } else semTake h none n (t.helm h).at12

/-- What GY.SEMREL does at the end of its cycles. -/
def semrelEffect (h n : Nat) : Prog := .read fun t =>
  whenP (t.bit Fld.TSK_SEM_STATE.HELD n && t.fld Fld.TSK_SEM_STATE.HELM n == h)
    (seqs [semFree n (t.helm h).at12, dispatchAll (t.helm h).at12])

section
variable {s : State} {h cyc n rd rs1 : Nat} (hmay : s.maySem (s.helmTask h) ((s.bankOf h).reg rs1) = true)
include hmay

theorem plan_semtry : s.plan h 0 0 4 (.semtry rd rs1) = .run 3 none (semtryEffect h rd ((s.bankOf h).reg rs1)) := planSem_allowed hmay
theorem plan_semtake : s.plan h 0 0 4 (.semtake rs1) = .run 3 none (semtakeEffect h ((s.bankOf h).reg rs1)) := planSem_allowed hmay
theorem plan_semrel : s.plan h 0 0 4 (.semrel rs1) = .run 2 none (semrelEffect h ((s.bankOf h).reg rs1)) := planSem_allowed hmay

end

section
variable {s : State} {h n : Nat}

theorem run_semtryEffect_free (rd : Nat) (hfree : s.bit Fld.TSK_SEM_STATE.HELD n = false) :
    (semtryEffect h rd n).run s = (semTake h (s.helmTask h) n (s.helm h).at12).run ((putX h rd 1).run s) := by
  rw [semtryEffect, run_read, if_neg (ne_true_of_eq_false hfree), run_cons, run_cons, run_nil]

theorem run_semtryEffect_held (rd : Nat) (hheld : s.bit Fld.TSK_SEM_STATE.HELD n = true) : (semtryEffect h rd n).run s = (putX h rd 0).run s := by
  rw [semtryEffect, run_read, if_pos hheld]

theorem run_semtakeEffect_free (hfree : s.bit Fld.TSK_SEM_STATE.HELD n = false) :
    (semtakeEffect h n).run s = (semTake h none n (s.helm h).at12).run s := by
  rw [semtakeEffect, run_read, if_neg (ne_true_of_eq_false hfree)]

theorem run_semtakeEffect_held (hheld : s.bit Fld.TSK_SEM_STATE.HELD n = true) :
    (semtakeEffect h n).run s = (modHelm h fun u => { u with wait := .sem n }).run s := by
  rw [semtakeEffect, run_read, if_pos hheld]

/-- A semaphore that the helm does not hold is left. -/
theorem run_semrelEffect_other (hfree : (s.bit Fld.TSK_SEM_STATE.HELD n && s.fld Fld.TSK_SEM_STATE.HELM n == h) = false) :
    (semrelEffect h n).run s = s := by
  rw [semrelEffect, run_read, run_whenP, if_neg (ne_true_of_eq_false hfree)]

/-- A semaphore that the helm holds is freed, and with no task ready nothing is dispatched. -/
theorem run_semrelEffect_held (hheld : (s.bit Fld.TSK_SEM_STATE.HELD n && s.fld Fld.TSK_SEM_STATE.HELM n == h) = true) (hready : s.readyList = []) :
    (semrelEffect h n).run s = (semFree n (s.helm h).at12).run s := by
  rw [semrelEffect, run_read, run_whenP, if_pos hheld, run_cons, run_cons, run_nil,
    run_dispatchAll_nil ((readyList_congr_nil (semFree_tasks ..)).mpr hready)]

end

/-! ### What each instruction leaves after its cycles -/

section
variable (s : State) {h cyc pc rd n k : Nat} {t : State}

theorem sig_afterCycles (hparty : s.helmTask h = none) (hlow : k < 4096) (harmed : (s.taskOf k).armed = true) (hcount : 1 < (s.taskOf k).count)
    (hlive : (s.taskOf k).live = false) (ht : t = (sigEffect h rd k).run (s.afterCycles h cyc pc)) : s.retired t h cyc pc = true ∧
      (t.taskOf k).count = (s.taskOf k).count - 1 ∧ (t.helm h).bank0.reg rd = if rd = 0 then 0 else St.success := by
  have hshows := (shows_afterCycles s h cyc pc).putX (helmTask_afterCycles ..) rd St.success
  have hp : (putX h rd St.success).Within 0x1000000000 := putX_within (by decide) h rd _
  have hslot : ((putX h rd St.success).run (s.afterCycles h cyc pc)).taskOf k = s.taskOf k :=
    (taskOf_congr (congrArg TaskUnit.tasks (run_task hp (by decide) _)) k).trans (afterCycles_taskOf ..)
  rw [run_sigEffect_background ((helmTask_afterCycles ..).trans hparty) hlow] at ht
  generalize (putX h rd St.success).run (s.afterCycles h cyc pc) = v at *
  have hd := signal_counts (s := v) (by rw [hslot]; exact harmed) (by rw [hslot]; exact hcount) (by rw [hslot]; exact hlive)
    ((s.afterCycles h cyc pc).helm h).at12
  rw [← ht] at hd
  have hends := (hshows.of_helm (helm_modTaskOf k _ h v)).dispatches hd
  refine ⟨hends.retired (put_pc ..), ?_, ?_⟩
  · rw [hd.count, taskOf_modTaskOf_same, hslot]
  · have hbank := hends.bank
    rw [hparty] at hbank
    exact (congrArg (Bank.reg · rd) hbank).trans (reg_put_same ..)

theorem takes_afterCycles {v at12 : Nat} (hlow : h < 18) (task : Option Nat)
    (ht : t = (semTake h task n at12).run ((putX h rd v).run (s.afterCycles h cyc pc))) : s.retired t h cyc pc = true ∧
      s.wroteX t h rd v = true ∧ s.keptX t h rd = true ∧ ((putX h rd v).run (s.afterCycles h cyc pc)).TakesSem t h n task := by
  have hsem := takesSem_run hlow task n at12 ((putX h rd v).run (s.afterCycles h cyc pc))
  rw [← ht] at hsem
  obtain ⟨hretired, hwrote, hkept⟩ := (((shows_afterCycles s h cyc pc).putX (helmTask_afterCycles ..) rd v).of_helm (hsem.helms h)).writes
  exact ⟨hretired, hwrote, hkept, hsem⟩

theorem waits_afterCycles (w : HelmWait) (ht : t = (modHelm h fun u => { u with wait := w }).run (s.afterCycles h cyc pc)) :
    s.retired t h cyc pc = true ∧ (t.helm h).wait = w ∧ s.keptX t h 0 = true ∧ t.tcm = s.tcm ∧ t.task = s.task := by
  subst ht
  have hshows : s.Shows ((modHelm h fun u => { u with wait := w }).run (s.afterCycles h cyc pc)) h cyc (s.bankAt h pc) := by
    apply (shows_afterCycles s h cyc pc).congr <;> rw [helm_modHelm_same]
  refine ⟨hshows.retired rfl, ?_, hshows.keptX (fun _ _ => rfl) rfl rfl, ?_, ?_⟩
  · rw [helm_modHelm_same]
  · rw [modHelm_tcm, afterCycles_tcm]
  · rw [modHelm_task, afterCycles_task]

/-- GY.SEMREL of a helm that may hold the semaphore leaves it free. -/
theorem releases_afterCycles (hholder : s.fld Fld.TSK_SEM_STATE.HELM n = h) (hready : s.readyList = [])
    (ht : t = (semrelEffect h n).run (s.afterCycles h cyc pc)) : s.retired t h cyc pc = true ∧ t.bit Fld.TSK_SEM_STATE.HELD n = false := by
  have hshows := shows_afterCycles s h cyc pc
  have hnil : (s.afterCycles h cyc pc).readyList = [] := (readyList_congr_nil (congrArg TaskUnit.tasks (afterCycles_task ..))).mpr hready
  have hhelm : (s.afterCycles h cyc pc).fld Fld.TSK_SEM_STATE.HELM n = h := (afterCycles_fld ..).trans hholder
  generalize s.afterCycles h cyc pc = u at *
  cases hheld : u.bit Fld.TSK_SEM_STATE.HELD n with
  | false =>
    rw [run_semrelEffect_other (by rw [hheld, Bool.false_and])] at ht
    subst ht
    exact ⟨hshows.retired rfl, hheld⟩
  | true =>
    rw [run_semrelEffect_held (by rw [hheld, hhelm, beq_self_eq_true]; rfl) hnil] at ht
    subst ht
    have hkept := helm_congr (run_helms (semFree_within (pm := 0x2000000030) (by decide) n (u.helm h).at12) (by decide) u) h
    exact ⟨(hshows.of_helm hkept).retired rfl, semFree_held ..⟩

/-- GY.SEMREL of a semaphore that another helm holds leaves every semaphore. -/
theorem keeps_afterCycles (hother : s.fld Fld.TSK_SEM_STATE.HELM n ≠ h) (ht : t = (semrelEffect h n).run (s.afterCycles h cyc pc)) :
    s.retired t h cyc pc = true ∧ t.task = s.task ∧ t.fld Fld.TSK_SEM_STATE.HELD n = s.fld Fld.TSK_SEM_STATE.HELD n := by
  rw [run_semrelEffect_other (by rw [afterCycles_fld, beq_eq_false_iff_ne.mpr hother, Bool.and_false])] at ht
  subst ht
  exact ⟨(shows_afterCycles s h cyc pc).retired rfl, afterCycles_task .., afterCycles_fld ..⟩

/-- What GY.DONE leaves of the task and its helm. -/
theorem done_afterCycles (hparty : s.helmTask h = some k) (hready : s.readyList = []) (hstate : s.helmState h = Fn.on)
    (hframes : (s.helm h).frames = []) (hspill : (s.helm h).spill = none)
    (ht : t = (seqs [doneStats h k, .read fun u => taskEnd h k (u.helm h).at12 false false]).run (s.afterCycles h cyc pc)) :
    (t.taskOf k).live = false ∧ (t.taskOf k).trapped = false ∧ (t.taskOf k).endedTick = some (s.taskOf k).actTick ∧
      (t.taskOf k).runCnt = ((s.taskOf k).runCnt + 1) % 65536 ∧ (t.helm h).task = none ∧ (t.helm h).bank0 = (s.helm h).bank0 ∧
      t.fld Fld.HLM_STATUS.IN_TASK h = 0 ∧ (∀ n < 64, s.bit Fld.TSK_SEM_STATE.HELD n = true → s.bit Fld.TSK_SEM_STATE.BY_TASK n = true →
        s.fld Fld.TSK_SEM_STATE.TASK n = k → t.bit Fld.TSK_SEM_STATE.HELD n = false) := by
  obtain ⟨cycles, hends⟩ := done_endsTask (cyc := cyc) (pc := pc) hparty hready hstate hframes hspill
  rw [← ht] at hends
  obtain ⟨hbank0, -, -⟩ := helm_afterCycles_task (cyc := cyc) (pc := pc) hparty
  have hslot : t.taskOf k = ((s.taskOf k).ran cycles).gone false := by
    rw [hends.slot, taskOf_modTaskOf_same, afterCycles_taskOf]
  refine ⟨by rw [hslot]; rfl, by rw [hslot]; rfl, by rw [hslot]; rfl, by rw [hslot]; rfl, hends.task, ?_, hends.shown,
    fun n hn hheld hby hholder => hends.freed n hn ?_ ?_ ?_⟩
  · rw [hends.bank0, helm_modTaskOf, hbank0]
  · rw [State.bit, modTaskOf_fld, afterCycles_fld]; exact hheld
  · rw [State.bit, modTaskOf_fld, afterCycles_fld]; exact hby
  · rw [modTaskOf_fld, afterCycles_fld]; exact hholder

end

/-! ### GY.FCLMP (R225) -/

/-- The limits of GY.FCLMP, and the exceptions it accrues. -/
theorem fclmp_limits (a b fcsr : Nat) : if Rv.isNan a = true ∨ Rv.isNan b = true then
      (Rv.fclmp a b).v % 2 ^ 32 = 0 ∧ fcsr ||| (Rv.fclmp a b).fl = fcsr ||| 16
    else fcsr ||| (Rv.fclmp a b).fl = fcsr ∧ (Rv.fclmp a b).v % 2 ^ 32 =
      (if Rv.flt (b % 2 ^ 31) a then b % 2 ^ 31 else if Rv.flt a (Rv.neg (b % 2 ^ 31)) then Rv.neg (b % 2 ^ 31) else a) % 2 ^ 32 := by
  unfold Rv.fclmp
  simp only [Bool.or_eq_true]
  split
  · exact ⟨rfl, rfl⟩
  · split
    · exact ⟨Nat.or_zero _, rfl⟩
    · split
      all_goals exact ⟨Nat.or_zero _, rfl⟩

/-! ### The statement -/

/-- Settles O38: each instruction's own effects happen in the state after its cycles; a semaphore is taken and freed as `takesSem_run` and
`semFree_held` say, GY.DONE ends the task as `endsTask_run` says, and dispatch leaves banks and counters. -/
theorem theGytrumInstructionsSignalSynchroniseAndClamp : Obligations.TheGytrumInstructionsSignalSynchroniseAndClamp := by
  unfold Obligations.TheGytrumInstructionsSignalSynchroniseAndClamp
  refine ⟨?sig, ?sigRefused, ?tryFree, ?tryHeld, ?takeFree, ?takeHeld, ?taken, ?release, ?releaseOther, ?done, ?wft, ?fclmp⟩
  case sig =>
    intro h row rd rs1 s hruns hfetch htask hlow harmed hcount hlive
    exact instruction_next (i := .gySig h 0 row) rfl hruns hfetch rfl (planSig_eq ..)
      (sig_afterCycles s.quiet (helmTask_of_background htask) hlow harmed hcount hlive rfl)
  case sigRefused =>
    intro h row rd rs1 s hruns hfetch _ hhigh
    obtain ⟨t, ht, hw⟩ := writesX_next (i := .gySig h 0 row) rfl hruns hfetch rfl (planSig_eq ..) (run_sigEffect_refused hhigh)
    exact ⟨t, ht, hw.retired, hw.task, hw.wrote, hw.kept⟩
  case tryFree =>
    intro h row rd rs1 s hruns hfetch _ hmay hfree
    refine instruction_next (i := .gySemtry h 0 row) rfl hruns hfetch rfl (plan_semtry (s := s.quiet) hmay) ?_
    obtain ⟨hretired, hwrote, hkept, hsem⟩ := takes_afterCycles s.quiet (lt_of_runsFor hruns) _
      (run_semtryEffect_free rd ((afterCycles_bit s.quiet ..).trans hfree))
    exact ⟨hretired, hsem.held, hsem.helm, hsem.byTask.trans (congrArg Option.isSome (helmTask_afterCycles s.quiet ..)), hwrote, hkept⟩
  case tryHeld =>
    intro h row rd rs1 s hruns hfetch _ hmay hheld
    obtain ⟨t, ht, hw⟩ := writesX_next (i := .gySemtry h 0 row) rfl hruns hfetch rfl (plan_semtry (s := s.quiet) hmay)
      (run_semtryEffect_held rd ((afterCycles_bit s.quiet ..).trans hheld))
    exact ⟨t, ht, hw.retired, hw.task, hw.wrote, hw.kept⟩
  case takeFree =>
    intro h row rs1 s hruns hfetch hlow htask hfree
    have hmay : s.maySem (s.helmTask h) ((s.bankOf h).reg rs1) = true := by rw [helmTask_of_background htask]; exact maySem_background hlow
    refine instruction_next (i := .gySemtake h 0 row) rfl hruns hfetch rfl (plan_semtake (s := s.quiet) hmay) ?_
    obtain ⟨hretired, -, -, hsem⟩ := takes_afterCycles s.quiet (rd := 0) (v := 0) (lt_of_runsFor hruns) none
      (run_semtakeEffect_free ((afterCycles_bit s.quiet ..).trans hfree))
    exact ⟨hretired, hsem.held, hsem.helm, (congrArg HelmUnit.wait (hsem.helms h)).trans (wait_afterCycles (s := s.quiet) htask)⟩
  case takeHeld =>
    intro h row rs1 s hruns hfetch hlow htask hheld
    have hmay : s.maySem (s.helmTask h) ((s.bankOf h).reg rs1) = true := by rw [helmTask_of_background htask]; exact maySem_background hlow
    refine instruction_next (i := .gySemtake h 0 row) rfl hruns hfetch rfl (plan_semtake (s := s.quiet) hmay) ?_
    obtain ⟨hretired, hwait, -, -, htasks⟩ := waits_afterCycles s.quiet _ (run_semtakeEffect_held ((afterCycles_bit s.quiet ..).trans hheld))
    exact ⟨hretired, hwait, htasks⟩
  case taken =>
    intro h n s hlow _ hwait hfree hfirst
    obtain ⟨at12, heq⟩ := semaphoreTaken_eq hlow hwait hfree hfirst
    obtain ⟨hheld, hhelm, hby, hptr, hhelms, -⟩ := takesSem_run hlow none n at12 ((modHelm h (HelmUnit.woken at12)).run s.quiet)
    exact ⟨_, heq, by rw [hhelms, helm_modHelm_same]; rfl, hheld, hhelm, hby, hptr⟩
  case release =>
    intro h row rs1 s hruns hfetch _ hmay hholder hready
    exact instruction_next (i := .gySemrel h 0 row) rfl hruns hfetch rfl (plan_semrel (s := s.quiet) hmay)
      (releases_afterCycles s.quiet hholder (readyList_quiet_nil hready) rfl)
  case releaseOther =>
    intro h row rs1 s hruns hfetch _ hmay hother
    exact instruction_next (i := .gySemrel h 0 row) rfl hruns hfetch rfl (plan_semrel (s := s.quiet) hmay)
      (keeps_afterCycles s.quiet hother rfl)
  case done =>
    intro h row k s hruns hfetch htask _ hready hstate hframes hspill
    have hparty := helmTask_of_runsFor hruns htask
    exact instruction_next (i := .gyDone h 0 row) rfl hruns hfetch rfl (plan_done (s := s.quiet) hparty)
      (done_afterCycles s.quiet hparty (readyList_quiet_nil hready) hstate hframes hspill rfl)
  case wft =>
    intro h row s hruns hfetch
    refine instruction_next (i := .gyWft h 0 row) rfl hruns hfetch rfl rfl ?_
    obtain ⟨hretired, hwait, hkept, htcm, -⟩ := waits_afterCycles s.quiet .wft rfl
    exact ⟨hretired, hwait, hkept, htcm⟩
  case fclmp =>
    intro h row rd rs1 rs2 s hruns hfetch
    obtain ⟨t, ht, hretired, hbank, htcm⟩ := putFRes_next (i := .gyFclmp h 0 row) rfl hruns hfetch rfl rfl
    have hbank' : (if (s.helmTask h).isSome then (t.helm h).bank1 else (t.helm h).bank0) = _ := hbank
    refine ⟨t, ht, hretired, ?_, htcm⟩
    dsimp only
    rw [hbank', freg_putF]
    exact ⟨rfl, fclmp_limits ..⟩

end Sys2Proof.Machine

/-! SUPPORT. What the statement of the process image (file 08; Machine/Dma.lean) is proved with: bytes written next to each other, what a cause and an
error bit write, the streams, and what issuing reads leaves of them. -/

namespace Sys2Proof.Machine

/-! ### What a program or a command keeps -/

theorem run_dma {m : Nat} {p : Prog} (hp : p.Within m) (h : m.testBit 39 = false) (s : State) : (p.run s).dma = s.dma :=
  (run_same_unit .dma (by decide) h p hp s).symm

/-- A command whose footprint leaves out host memory keeps it. -/
theorem exec_host {i : Instr} {s t : State} (h : exec i s = .next t) (hi : (mask (footprint i)).testBit 20 = false) : t.host = s.host := by
  obtain ⟨p, hp, hrun⟩ := exec_meaning i s
  obtain rfl : t = p.run s.quiet := Host.Outcome.next.inj (h.symm.trans hrun)
  exact run_host hp hi s.quiet

/-! ### Bytes written next to each other -/

section
variable {d : Nat → Byte}

theorem readBytes_append (m : List Host.Cell) (a n k : Nat) : readBytes d m a (n + k) = readBytes d m a n ++ readBytes d m (a + n) k := by
  simp only [readBytes, List.range_add, List.map_append, List.map_map, Function.comp_def, Nat.add_assoc]

theorem readBytes_writeBytes_outside (m : List Host.Cell) {a len b : Nat} {bs : List Byte} (h : a + len ≤ b ∨ b + bs.length ≤ a) :
    readBytes d (writeBytes d m b bs) a len = readBytes d m a len :=
  List.map_congr_left fun i hi => get_writeBytes_outside _ _ _ _ (by have := List.mem_range.mp hi; omega)

/-- A range whose end was written before its beginning reads both. -/
theorem readBytes_writeBytes_two (m : List Host.Cell) (a : Nat) (l r : List Byte) :
    readBytes d (writeBytes d (writeBytes d m (a + l.length) r) a l) a (l.length + r.length) = l ++ r := by
  rw [readBytes_append, readBytes_writeBytes, readBytes_writeBytes_outside _ (.inr (Nat.le_refl _)), readBytes_writeBytes]

end

/-! ### A cause and an error bit (R361, R362, R364, R365) -/

/-- Whether a program writes no field but those of some rows, in any state. -/
def KeepsRows (rows : List Nat) (p : Prog) : Prop := ∀ s : State, RowsKept rows s (p.run s)

section
variable {rows : List Nat} {p q : Prog}

theorem keepsRows_skip : KeepsRows rows .skip := RowsKept.refl rows
theorem keepsRows_nil : KeepsRows rows (seqs []) := RowsKept.refl rows
theorem keepsRows_cons {l : List Prog} (hp : KeepsRows rows p) (hl : KeepsRows rows (seqs l)) : KeepsRows rows (seqs (p :: l)) :=
  fun s => (hp s).trans (hl _)
theorem keepsRows_read {k : State → Prog} (h : ∀ s, KeepsRows rows (k s)) : KeepsRows rows (.read k) := fun s => h s s
theorem keepsRows_ite {c : Prop} [Decidable c] (hp : KeepsRows rows p) (hq : KeepsRows rows q) : KeepsRows rows (if c then p else q) := by
  split
  · exact hp
  · exact hq
theorem keepsRows_whenP {c : Bool} (hp : KeepsRows rows p) : KeepsRows rows (whenP c p) := keepsRows_ite hp keepsRows_skip
theorem keepsRows_putN {f : Field} (hf : f.row ∈ rows) (n v : Nat) : KeepsRows rows (putN f n v) := fun s => (RowsKept.refl rows s).fld hf n v
theorem keepsRows_countUp {f : Field} (hf : f.row ∈ rows) (n k : Nat) : KeepsRows rows (countUp f n k) :=
  keepsRows_read fun _ => keepsRows_putN hf _ _
theorem keepsRows_of_regs (h : ∀ s : State, (p.run s).regs = s.regs) : KeepsRows rows p := fun s f n _ => fld_congr (h s) f n

end

/-- The rows of the fields that a host cause writes. -/
def causeRows : List Nat := [Fld.HIC_EVENT.DROPPED.row, Fld.HIC_VEC_STATUS.TIMER_RUN.row, Fld.HIC_VEC_STATUS.EVENTS.row,
  Fld.HIC_VEC_STATUS.MSG_PENDING.row, Fld.HIC_MSG_CNT.COUNT.row]

theorem keepsRows_fireVector (k : Nat) : KeepsRows causeRows (fireVector k) :=
  keepsRows_read fun _ => keepsRows_cons
    (keepsRows_cons (keepsRows_putN (by decide) _ _) (keepsRows_cons (keepsRows_putN (by decide) _ _)
      (keepsRows_cons (keepsRows_of_regs fun _ => rfl) keepsRows_nil)))
    (keepsRows_cons (keepsRows_ite (keepsRows_putN (by decide) _ _)
      (keepsRows_read fun _ => keepsRows_cons (keepsRows_of_regs fun _ => rfl) (keepsRows_cons (keepsRows_countUp (by decide) _ _) keepsRows_nil)))
      keepsRows_nil)

theorem keepsRows_hostCause (fn vec : Nat) : KeepsRows causeRows (hostCause fn vec) :=
  keepsRows_read fun _ => keepsRows_ite (keepsRows_putN (by decide) _ _) (keepsRows_ite keepsRows_skip
    (keepsRows_cons (keepsRows_whenP (keepsRows_cons (keepsRows_putN (by decide) _ _) (keepsRows_cons (keepsRows_of_regs fun _ => rfl) keepsRows_nil)))
      (keepsRows_cons (keepsRows_countUp (by decide) _ _)
        (keepsRows_cons (keepsRows_read fun _ => keepsRows_whenP (keepsRows_fireVector _)) keepsRows_nil))))

/-- An error cause sets its bit. -/
theorem errCause_sets {f : Field} (hw : f.w = 1) (hrow : f.row ∉ causeRows) (i : Nat) (s : State) : ((errCause f i).run s).bit f i = true := by
  rw [errCause, run_read, run_whenP]
  split
  · have hset : ((raise f i).run s).bit f i = true := by rw [State.bit, run_raise, fld_fld_same, hw]; rfl
    rw [run_cons, run_cons, run_nil, run_whenP]
    split
    · rw [(keepsRows_hostCause _ _ _).bit hrow, hset]
    · exact hset
  · rename_i hbit
    simpa using hbit

/-! ### A stream changed -/

theorem stream_congr {s t : State} (h : t.dma.streams = s.dma.streams) (i : Nat) : t.stream i = s.stream i := by rw [State.stream, h, State.stream]

@[simp] theorem stream_modStream_same (i : Nat) (f : PiStream → PiStream) (s : State) : ((modStream i f).run s).stream i = f (s.stream i) := by
  simp only [modStream, modDma, run_eff, State.stream, apply_dma, tget, tset, Sparse.get_set_same]

theorem stream_modStream_ne {i j : Nat} (h : j ≠ i) (f : PiStream → PiStream) (s : State) : ((modStream i f).run s).stream j = s.stream j := by
  simp only [modStream, modDma, run_eff, State.stream, apply_dma, tget, tset]
  exact Sparse.get_set_ne _ _ _ h

@[simp] theorem stream_fld (f : Field) (n v i : Nat) (s : State) : ((Eff.fld f n v).apply s).stream i = s.stream i := rfl
@[simp] theorem fld_modStream (i : Nat) (f : PiStream → PiStream) (s : State) (g : Field) (n : Nat) :
    ((modStream i f).run s).fld g n = s.fld g n := rfl

/-! ### Reads that go out (R257, R266) -/

/-- What issuing reads can make of a stream: its pieces and marks stay, the reads issued are the first that waited, and a STAMP read goes out only where
one is due. -/
structure PiStream.Issues (u v : PiStream) : Prop where
  page : v.page = u.page
  got : v.got = u.got
  missed : v.missed = u.missed
  faulted : v.faulted = u.faulted
  supplied : v.supplied = u.supplied
  issued : ∃ l, u.waiting = l ++ v.waiting ∧ v.reads = u.reads ++ l.map fun r => (u.page, r)
  stamp : u.stampDue = false → v.stampDue = false ∧ v.stamp = u.stamp

theorem PiStream.Issues.refl (u : PiStream) : u.Issues u := ⟨rfl, rfl, rfl, rfl, rfl, ⟨[], rfl, (List.append_nil _).symm⟩, fun h => ⟨h, rfl⟩⟩

theorem PiStream.Issues.trans {u v w : PiStream} (huv : u.Issues v) (hvw : v.Issues w) : u.Issues w where
  page := hvw.page.trans huv.page
  got := hvw.got.trans huv.got
  missed := hvw.missed.trans huv.missed
  faulted := hvw.faulted.trans huv.faulted
  supplied := hvw.supplied.trans huv.supplied
  issued := by
    obtain ⟨l, hl, hreads⟩ := huv.issued
    obtain ⟨l', hl', hreads'⟩ := hvw.issued
    exact ⟨l ++ l', by rw [hl, hl', List.append_assoc], by rw [hreads', hreads, huv.page, List.map_append, List.append_assoc]⟩
  stamp := fun h => by
    obtain ⟨hdue, hstamp⟩ := huv.stamp h
    obtain ⟨hdue', hstamp'⟩ := hvw.stamp hdue
    exact ⟨hdue', hstamp'.trans hstamp⟩

/-- The reads of a stream, those that went out before those that wait, keep their order. -/
theorem PiStream.Issues.order {u v : PiStream} (h : u.Issues v) : v.reads.map (·.2) ++ v.waiting = u.reads.map (·.2) ++ u.waiting := by
  obtain ⟨l, hl, hreads⟩ := h.issued
  rw [hreads, hl]
  simp [Function.comp_def]

/-- The rows of the fields that issuing reads writes. -/
def refillRows : List Nat := [Fld.DMA_STATUS.NP_USED.row, Fld.DMA_STATUS.STAGE_KIB.row, Fld.DMA_STALL_CNT.NP.row, Fld.DMA_EVENT.NP_STALL.row,
  Fld.GBL_PCIE_EVENT.PASID_IGNORED.row]

/-- Whether every stream of a state is, in a later one, what issuing reads can make of it, and no field has changed but those that issuing reads writes. -/
structure State.Refills (s t : State) : Prop where
  streams : ∀ i, (s.stream i).Issues (t.stream i)
  rows : RowsKept refillRows s t

section
variable {s t u : State}

theorem State.Refills.refl (s : State) : s.Refills s := ⟨fun _ => .refl _, .refl _ _⟩

theorem State.Refills.trans (hst : s.Refills t) (htu : t.Refills u) : s.Refills u :=
  ⟨fun i => (hst.streams i).trans (htu.streams i), hst.rows.trans htu.rows⟩

/-- A stream from which reads are issued. -/
theorem State.Refills.modStream {i : Nat} {f : PiStream → PiStream} (h : (s.stream i).Issues (f (s.stream i))) : s.Refills ((modStream i f).run s) where
  streams := fun j => by
    by_cases hj : j = i
    · rw [hj, stream_modStream_same]; exact h
    · rw [stream_modStream_ne hj]; exact .refl _
  rows := fun _ _ _ => rfl

end

/-- Whether a program only issues reads, in any state. -/
def Refilling (p : Prog) : Prop := ∀ s : State, s.Refills (p.run s)

section
variable {p q : Prog}

theorem refilling_skip : Refilling .skip := State.Refills.refl
theorem refilling_nil : Refilling (seqs []) := State.Refills.refl
theorem refilling_cons {l : List Prog} (hp : Refilling p) (hl : Refilling (seqs l)) : Refilling (seqs (p :: l)) := fun s => (hp s).trans (hl _)
theorem refilling_read {k : State → Prog} (h : ∀ s, Refilling (k s)) : Refilling (.read k) := fun s => h s s
theorem refilling_whenP {c : Bool} (hp : Refilling p) : Refilling (whenP c p) := by
  unfold whenP
  split
  · exact hp
  · exact refilling_skip
theorem refilling_forP {α : Type} (l : List α) {f : α → Prog} (h : ∀ x, Refilling (f x)) : Refilling (forP l f) := fun s =>
  run_forP_keeps _ State.Refills.refl (fun _ _ _ hab hbc => hab.trans hbc) l f (fun x _ => h x) s

/-- A program that keeps the streams, and writes fields that issuing reads writes. -/
theorem refilling_of_streams (h : ∀ s : State, (p.run s).dma.streams = s.dma.streams) (hrows : KeepsRows refillRows p) : Refilling p :=
  fun s => ⟨fun i => by rw [stream_congr (h s)]; exact .refl _, hrows s⟩

end

theorem keepsRows_usePasid (pasid : Bool) : KeepsRows refillRows (usePasid pasid) :=
  keepsRows_read fun _ => keepsRows_whenP (keepsRows_putN (by decide) _ _)

theorem keepsRows_forP_emit {α : Type} {rows : List Nat} (l : List α) (f : α → Output) : KeepsRows rows (forP l fun x => emit (f x)) :=
  run_forP_keeps _ (RowsKept.refl rows) (fun _ _ _ hab hbc => hab.trans hbc) l _ fun _ _ _ => RowsKept.refl rows _

theorem refilling_hostRead (fn addr len : Nat) (pasid : Option Nat) : Refilling (hostRead fn pasid addr len) :=
  refilling_of_streams (fun s => congrArg DmaUnit.streams (run_dma (hostRead_within (pm := 0x440000) (by decide) _ _ _ _) (by decide) s))
    (keepsRows_cons (keepsRows_usePasid _) (keepsRows_cons
      (keepsRows_read fun _ => keepsRows_ite (keepsRows_of_regs fun _ => rfl) (keepsRows_forP_emit _ _)) keepsRows_nil))

theorem refilling_npStall : Refilling npStall :=
  refilling_of_streams (fun _ => rfl)
    (keepsRows_cons (keepsRows_countUp (by decide) _ _) (keepsRows_cons (keepsRows_putN (by decide) _ _) keepsRows_nil))

theorem refilling_chanIssue (c : Nat) : Refilling (chanIssue c) := by
  refine refilling_read fun s => refilling_whenP (refilling_cons (refilling_of_streams (fun _ => rfl) (keepsRows_of_regs fun _ => rfl))
    (refilling_cons ?_ refilling_nil))
  split
  · exact refilling_hostRead _ _ _ _
  · exact refilling_whenP (refilling_hostRead _ _ _ _)
  · exact refilling_skip

theorem refilling_refreshDma : Refilling refreshDma :=
  refilling_cons (refilling_read fun _ => refilling_forP _ refilling_chanIssue) (refilling_cons
    (refilling_read fun _ => refilling_of_streams (fun _ => rfl)
      (keepsRows_cons (keepsRows_putN (by decide) _ _) (keepsRows_cons (keepsRows_putN (by decide) _ _) keepsRows_nil))) refilling_nil)

/-- One stream issues its STAMP read, which is due, or the first of the reads that wait. -/
theorem refilling_piOne : Refilling piOne := by
  intro s
  rw [piOne, run_read]
  split
  · exact .refl s
  · rename_i i _
    dsimp only
    rw [run_cons, run_cons, run_nil]
    refine (refilling_of_streams (p := modDma fun d => { d with piPointer := i + 1 }) (fun _ => rfl) (keepsRows_of_regs fun _ => rfl) s).trans ?_
    split
    next hdue =>
      rw [run_cons, run_cons, run_nil]
      refine (State.Refills.modStream ?_).trans (refilling_hostRead _ _ _ _ _)
      exact ⟨rfl, rfl, rfl, rfl, rfl, ⟨[], rfl, (List.append_nil _).symm⟩, fun h => absurd (h.symm.trans hdue) (by decide)⟩
    next =>
      split
      · exact .refl _
      · rename_i r rest hwaiting
        rw [run_cons, run_cons, run_nil]
        refine (State.Refills.modStream ?_).trans (refilling_hostRead _ _ _ _ _)
        exact ⟨rfl, rfl, rfl, rfl, rfl, ⟨[r], hwaiting, rfl⟩, fun h => ⟨h, rfl⟩⟩

/-- A stream that has to wait is marked, and counts once (R266). -/
theorem refilling_wait (i : Nat) (u : PiStream) : Refilling (whenP (u.readDue != u.npWait)
    (seqs [modStream i fun u => { u with npWait := u.readDue }, whenP u.readDue npStall])) :=
  refilling_whenP (refilling_cons
    (fun _ => .modStream ⟨rfl, rfl, rfl, rfl, rfl, ⟨[], rfl, (List.append_nil _).symm⟩, fun h => ⟨h, rfl⟩⟩)
    (refilling_cons (refilling_whenP refilling_npStall) refilling_nil))

theorem refilling_piRefill : Refilling piRefill :=
  refilling_cons (refilling_read fun _ => refilling_whenP (refilling_forP _ fun _ => refilling_piOne)) (refilling_cons
    (refilling_read fun _ => refilling_forP _ fun e => refilling_wait e.1 e.2) (refilling_cons refilling_refreshDma refilling_nil))

end Sys2Proof.Machine

/-! SUPPORT. The proof of the statement of the process image (file 08; Machine/Dma.lean). -/

namespace Sys2Proof.Machine

/-! ### The inbound page (R254 to R256) -/

section
variable {i tick : Nat} {p : PiIn} {s : State}

/-- A change of an inbound page is read back. -/
theorem piIn_modPiIn_same {f : PiIn → PiIn} (hf : ∀ p, (f p).tick = p.tick) (h : s.piIn i tick = some p) :
    ((modPiIn i tick f).run s).piIn i tick = some (f p) := by
  have htick : p.tick = tick := by simpa using List.find?_some h
  have hkeeps : (fun q : PiIn => (if q.tick = tick then f q else q).tick == tick) = fun q => q.tick == tick :=
    funext fun q => by split <;> simp [hf]
  rw [State.piIn] at h
  rw [State.piIn, modPiIn, stream_modStream_same, List.find?_map, Function.comp_def, hkeeps, h, Option.map_some, if_pos htick]

theorem piIn_congr {s t : State} (h : t.dma = s.dma) : t.piIn i tick = s.piIn i tick := by rw [State.piIn, State.stream, h, State.piIn, State.stream]

theorem piCause_dma (full : Bool) : ((piCause i full).run s).dma = s.dma := run_dma (piCause_within (pm := 0x4400400) (by decide) _ _) (by decide) s

theorem piCause_host (full : Bool) : ((piCause i full).run s).host = s.host := run_host (piCause_within (pm := 0x4400400) (by decide) _ _) (by decide) s

/-- The half cause is marked as raised. -/
theorem piHalf_raises (h : s.piIn i tick = some p) (hopen : p.halfDone = false) :
    (((piHalf i tick).run s).piIn i tick).map (·.halfDone) = some true := by
  simp only [piHalf, run_read, h, hopen, run_whenP, Bool.not_false, if_true, run_cons, run_nil]
  rw [piIn_congr (piCause_dma _), piIn_modPiIn_same (f := fun p => { p with halfDone := true }) (fun _ => rfl) h, Option.map_some]

end

/-! ### A write to a page (R254, R264) -/

theorem State.CompletionKept.canIssue {s t : State} (h : s.CompletionKept t) (i : Nat) : t.canIssue (t.insFn i) = s.canIssue (s.insFn i) := by
  rw [State.canIssue, State.fn, h.fns, h.insFn, State.canIssue, State.fn]

section
variable {i tick : Nat} {p : PiIn} {s : State} (hissue : s.canIssue (s.insFn i) = true)
include hissue

theorem run_piWrite (addr : Nat) (bs : List Byte) : (piWrite i addr bs).run s = (insWrite i 1 (s.piPasid i) addr bs).run s := by
  rw [piWrite, run_read, if_pos hissue]

theorem piWrite_host (hlog : s.bit Fld.INS_LOG_CFG.RUNNING i = false) (addr : Nat) (bs : List Byte) :
    ((piWrite i addr bs).run s).host = writeBytes memDefault s.host addr bs := by
  rw [run_piWrite hissue, insWrite_host hlog]

theorem piWrite_completionKept (addr : Nat) (bs : List Byte) : s.CompletionKept ((piWrite i addr bs).run s) := by
  rw [run_piWrite hissue]; exact insWrite_completionKept _ _ _ _ _ s

theorem piWrite_dma (addr : Nat) (bs : List Byte) : ((piWrite i addr bs).run s).dma = s.dma := by
  rw [run_piWrite hissue]; exact run_dma (insWrite_within (pm := 0x6540500) (by decide) _ _ _ _ _) (by decide) s

/-- Two writes to a page, one after the other. -/
theorem piWrite_two_host (hlog : s.bit Fld.INS_LOG_CFG.RUNNING i = false) (a b : Nat) (l r : List Byte) :
    ((piWrite i a l).run ((piWrite i b r).run s)).host = writeBytes memDefault (writeBytes memDefault s.host b r) a l := by
  have hkept := piWrite_completionKept hissue b r
  have hlog' : ((piWrite i b r).run s).bit Fld.INS_LOG_CFG.RUNNING i = false := by rw [State.bit, hkept.ins _ (by simp), ← State.bit, hlog]
  rw [piWrite_host ((hkept.canIssue i).trans hissue) hlog', piWrite_host hissue hlog]

end

/-! ### The header (R255) -/

/-- The part of a header after the tick: the counts and the meridian (Table 08-2). -/
def PiIn.counts (p : PiIn) : List Byte := toBytes p.written 2 ++ toBytes p.failed 2 ++ toBytes 0 4 ++ toBytes p.meridNs 8

theorem PiIn.counts_length (p : PiIn) : p.counts.length = 16 := by simp only [PiIn.counts, List.length_append, toBytes_length]

section
variable {i tick : Nat} {p : PiIn} {s : State} (hpage : s.piIn i tick = some p) (hopen : p.fullDone = false)
include hpage hopen

theorem run_piHeader : (piHeader i tick).run s = (piCause i true).run ((piWrite i (s.inPage i tick) (toBytes tick 8)).run
    ((piWrite i (s.inPage i tick + 8) p.counts).run ((modPiIn i tick fun p => { p with fullDone := true }).run s))) := by
  simp only [piHeader, run_read, hpage, hopen, run_whenP, Bool.not_false, if_true, run_cons, run_nil]
  rfl

variable (hissue : s.canIssue (s.insFn i) = true)
include hissue

theorem piHeader_marks : (((piHeader i tick).run s).piIn i tick).map (·.fullDone) = some true := by
  rw [run_piHeader hpage hopen]
  generalize hmark : (modPiIn i tick fun p => { p with fullDone := true }).run s = t
  have hissue' : t.canIssue (t.insFn i) = true := by rw [← hmark]; exact hissue
  have hmarked : t.piIn i tick = some { p with fullDone := true } := by rw [← hmark]; exact piIn_modPiIn_same (fun _ => rfl) hpage
  rw [piIn_congr (piCause_dma _), piIn_congr (piWrite_dma (((piWrite_completionKept hissue' _ _).canIssue i).trans hissue') _ _),
    piIn_congr (piWrite_dma hissue' _ _), hmarked, Option.map_some]

theorem piHeader_host (hlog : s.bit Fld.INS_LOG_CFG.RUNNING i = false) : ((piHeader i tick).run s).host =
    writeBytes memDefault (writeBytes memDefault s.host (s.inPage i tick + 8) p.counts) (s.inPage i tick) (toBytes tick 8) := by
  rw [run_piHeader hpage hopen, piCause_host]
  exact piWrite_two_host (s := (modPiIn i tick _).run s) hissue hlog _ _ _ _

/-- The header reads the tick and the counts, and no other byte of host memory changes. -/
theorem piHeader_reads (hlog : s.bit Fld.INS_LOG_CFG.RUNNING i = false) :
    readBytes memDefault ((piHeader i tick).run s).host (s.inPage i tick) 24 = toBytes tick 8 ++ p.counts ∧
      hostKept (s.inPage i tick) 24 s ((piHeader i tick).run s) := by
  have hhost := piHeader_host hpage hopen hissue hlog
  have htick := toBytes_length tick 8
  have hcounts := p.counts_length
  refine ⟨?_, fun a ha => ?_⟩
  · have hread := readBytes_writeBytes_two (d := memDefault) s.host (s.inPage i tick) (toBytes tick 8) p.counts
    rw [htick, hcounts] at hread
    rw [hhost]
    exact hread
  · rw [hhost, get_writeBytes_outside _ _ _ _ (by omega), get_writeBytes_outside _ _ _ _ (by omega)]

end

/-- PI_FULL_AT_SLOT of a tick with no counted leg writes the header and marks the page. -/
theorem piFullAtSlot_writes {i : Nat} {p : PiIn} {s : State} (hpage : s.piIn i s.tick = some p) (hactive : s.piActive i = true) (hleft : p.left = [])
    (hwritten : p.written = 0) (hopen : p.fullDone = false) (hissue : s.canIssue (s.insFn i) = true)
    (hlog : s.bit Fld.INS_LOG_CFG.RUNNING i = false)
    (hreach : s.reaches (s.chr.meridNs + 32 * (s.fld Fld.CHT_TICK_LEN.ACTIVE_N - 4)) = true) :
    ∃ t, exec (.piFullAtSlot i) s = .next t ∧
      readBytes memDefault t.host (s.inPage i s.tick) 24 = toBytes s.tick 8 ++ toBytes 0 2 ++ toBytes p.failed 2 ++ toBytes 0 4 ++ toBytes p.meridNs 8 ∧
      hostKept (s.inPage i s.tick) 24 s t ∧ (t.piIn i s.tick).map (·.fullDone) = some true ∧
      s.chr.meridNs + 32 * (s.fld Fld.CHT_TICK_LEN.ACTIVE_N - 4) ≤ t.chr.ns := by
  show ∃ t, execPiFullAtSlot i s = .next t ∧ _
  rw [execPiFullAtSlot, hpage]
  refine whenP_next (by simp [hactive, hleft, hwritten, hopen]) (atNs_next hreach fun frac => ?_)
  generalize hmoved : s.quiet.atInstant (max s.chr.ns (s.chr.meridNs + 32 * (s.fld Fld.CHT_TICK_LEN.ACTIVE_N - 4))) frac = u
  have hpage' : u.piIn i s.tick = some p := by rw [← hmoved]; exact hpage
  have hissue' : u.canIssue (u.insFn i) = true := by rw [← hmoved]; exact hissue
  have hlog' : u.bit Fld.INS_LOG_CFG.RUNNING i = false := by rw [← hmoved]; exact hlog
  have hinPage : u.inPage i s.tick = s.inPage i s.tick := by rw [← hmoved]; rfl
  have hhost : u.host = s.host := by rw [← hmoved]; rfl
  have hns : s.chr.meridNs + 32 * (s.fld Fld.CHT_TICK_LEN.ACTIVE_N - 4) ≤ u.chr.ns := by rw [← hmoved]; exact Nat.le_max_right _ _
  obtain ⟨hread, hkept⟩ := piHeader_reads hpage' hopen hissue' hlog'
  rw [hinPage] at hread hkept
  refine ⟨?_, fun a ha => (hkept a ha).trans (by rw [hhost]), piHeader_marks hpage' hopen hissue', ?_⟩
  · rw [hread, PiIn.counts, hwritten]; simp only [List.append_assoc]
  · rw [run_chr (piHeader_within (pm := 0x8006540540) (by decide) _ _) (by decide)]; exact hns

/-- PI_HALF_AT_SLOT raises the half cause of a tick once. -/
theorem piHalfAtSlot_raises {i : Nat} {p : PiIn} {s : State} (hpage : s.piIn i s.tick = some p) (hopen : p.halfDone = false)
    (hactive : s.piActive i = true) (hslot : s.fld Fld.DMA_PI_CFG.HALF_SLOT i ≠ 0)
    (hreach : s.reaches (s.chr.meridNs + 32 * s.fld Fld.DMA_PI_CFG.HALF_SLOT i) = true) :
    ∃ t, exec (.piHalfAtSlot i) s = .next t ∧ (t.piIn i s.tick).map (·.halfDone) = some true ∧ t.host = s.host ∧
      s.chr.meridNs + 32 * s.fld Fld.DMA_PI_CFG.HALF_SLOT i ≤ t.chr.ns := by
  show ∃ t, execPiHalfAtSlot i s = .next t ∧ _
  refine whenP_next (by simp [hactive, hslot]) (atNs_next hreach fun frac => ⟨piHalf_raises hpage hopen, ?_, ?_⟩)
  · exact run_host (piHalf_within (pm := 0x8004400400) (by decide) _ _) (by decide) _
  · rw [run_chr (piHalf_within (pm := 0x8004400400) (by decide) _ _) (by decide)]; exact Nat.le_max_right _ _

/-! ### The outbound read (R257, R258) -/

/-- PI_STAMP_COMPLETION with the page's stamp: what the page's reads cover is issued or waits. -/
theorem piStampCompletion_starts {i : Nat} {u : PiStream} {s : State} (hu : s.stream i = u) (hstamp : u.stamp = true) (hdue : u.stampDue = false)
    (hopen : u.closed = false) (hmatch : ofBytes (readBytes memDefault s.host (s.outPage i u.page) 8) = u.page) (hattached : s.attached i = true) :
    ∃ t, exec (.piStampCompletion i) s = .next t ∧ (t.stream i).stamp = false ∧ (t.stream i).missed = u.missed ∧
      (t.stream i).reads.map (·.2) ++ (t.stream i).waiting = u.reads.map (·.2) ++ s.piExtents i u.page := by
  show ∃ t, execPiStampCompletion i s = .next t ∧ _
  subst hu
  simp only [execPiStampCompletion, hmatch, hopen, hattached, Bool.not_true, Bool.false_eq_true, if_true, if_false]
  refine whenP_next hstamp (finish_next ?_)
  simp only [run_cons, run_nil]
  generalize hlegs : (forP _ _).run ((modStream i fun u => { u with stamp := false }).run s.quiet) = v
  have hv : v.stream i = { s.stream i with stamp := false } := by
    rw [← hlegs, State.stream, run_dma (m := 0x20000000) (within_forP fun _ => legTakes_within (by decide) _ _ _) (by decide)]
    exact stream_modStream_same _ _ _
  have hissues := (refilling_piRefill ((modStream i fun w => { w with waiting := s.piExtents i (s.stream i).page }).run v)).streams i
  rw [stream_modStream_same, hv] at hissues
  exact ⟨(hissues.stamp hdue).2, hissues.missed, hissues.order⟩

/-- PI_STAMP_COMPLETION with another stamp: the page is missed. -/
theorem piStampCompletion_misses {i : Nat} {u : PiStream} {s : State} (hu : s.stream i = u) (hstamp : u.stamp = true) (hdue : u.stampDue = false)
    (hopen : u.closed = false) (hother : ofBytes (readBytes memDefault s.host (s.outPage i u.page) 8) ≠ u.page) :
    ∃ t, exec (.piStampCompletion i) s = .next t ∧ (t.stream i).stamp = false ∧ (t.stream i).missed = true ∧ (t.stream i).page = u.page ∧
      (t.stream i).supplied = u.supplied ∧ t.bit Fld.DMA_PI_STATUS.STAMP_MISS i = true := by
  show ∃ t, execPiStampCompletion i s = .next t ∧ _
  subst hu
  simp only [execPiStampCompletion, hother, hopen, Bool.false_eq_true, if_false]
  refine whenP_next hstamp (finish_next ?_)
  simp only [run_cons, run_nil, run_raise]
  generalize hmissed : (Eff.fld Fld.DMA_PI_STATUS.STAMP_MISS i 1).apply _ = v
  have hv : v.stream i = { s.stream i with stamp := false, missed := true } := by
    rw [← hmissed, stream_fld, stream_modStream_same, stream_modStream_same]; rfl
  have hbit : v.bit Fld.DMA_PI_STATUS.STAMP_MISS i = true := by rw [← hmissed, State.bit, fld_fld_same]; rfl
  obtain ⟨hstreams, hrows⟩ := refilling_piRefill v
  have hissues := hstreams i
  rw [hv] at hissues
  exact ⟨(hissues.stamp hdue).2, hissues.missed, hissues.page, hissues.supplied, (hrows.bit (by decide) i).trans hbit⟩

/-! ### Region data (R258, R261) -/

/-- The bytes that a piece completes are the buffer of the one leg that its stream reads for. -/
theorem piDeliver_buffer {i tick : Nat} {old new : List (Nat × List Byte)} {e : Nat × ChartEntry} {bs : List Byte} {s : State}
    (hlegs : s.piLegs i tick = [e]) (hold : piecesCover old (e.2.piOffset * 8) e.2.payload = none)
    (hnew : piecesCover new (e.2.piOffset * 8) e.2.payload = some bs) :
    (if tick % 2 = 0 then (((piDeliver i tick old new).run s).leg e.1).buf0 else (((piDeliver i tick old new).run s).leg e.1).buf1) = some (tick, bs) := by
  simp only [piDeliver, run_read, run_cons, run_nil, hlegs, run_forP_cons, run_forP_nil, hnew, hold, Option.isNone_none, run_whenP, if_true]
  rw [leg_congr (run_chart (m := 0x1000200010) ?routes (by decide) _), legTakes, leg_modLeg_same]
  case routes =>
    refine within_forP fun r => ?_
    split
    · exact within_whenP (tcmFabricWrite_within (by decide) _ _ _ _)
    · exact within_skip
  split <;> rfl

theorem piDeliver_dma (i tick : Nat) (old new : List (Nat × List Byte)) (s : State) : ((piDeliver i tick old new).run s).dma = s.dma :=
  run_dma (piDeliver_within (pm := 0x1020200010) (by decide) _ _ _ _) (by decide) s

/-- PI_REGION_READ_COMPLETION takes the data, and the leg that it completes has its buffer. -/
theorem piRegionReadCompletion_takes {i k off len : Nat} {u : PiStream} {e : Nat × ChartEntry} {bs : List Byte} {s : State} (hu : s.stream i = u)
    (hread : u.reads[k]? = some (u.page, off, len)) (hopen : u.closed = false) (hlegs : s.piLegs i u.page = [e])
    (hold : piecesCover u.got (e.2.piOffset * 8) e.2.payload = none)
    (hnew : piecesCover (u.got ++ [(off, readBytes memDefault s.host (s.outPage i u.page + off) len)]) (e.2.piOffset * 8) e.2.payload = some bs) :
    ∃ t, exec (.piRegionReadCompletion i k) s = .next t ∧
      (t.stream i).got = u.got ++ [(off, readBytes memDefault s.host (s.outPage i u.page + off) len)] ∧
      (t.stream i).reads.take (u.reads.length - 1) = u.reads.eraseIdx k ∧
      (if u.page % 2 = 0 then (t.leg e.1).buf0 else (t.leg e.1).buf1) = some (u.page, bs) ∧ t.host = s.host := by
  suffices h : ∃ t, exec (.piRegionReadCompletion i k) s = .next t ∧
      (t.stream i).got = u.got ++ [(off, readBytes memDefault s.host (s.outPage i u.page + off) len)] ∧
      (t.stream i).reads.take (u.reads.length - 1) = u.reads.eraseIdx k ∧
      (if u.page % 2 = 0 then (t.leg e.1).buf0 else (t.leg e.1).buf1) = some (u.page, bs) by
    obtain ⟨t, ht, hgot, hreads, hbuffer⟩ := h
    exact ⟨t, ht, hgot, hreads, hbuffer, exec_host ht (by dsimp only [footprint]; decide)⟩
  show ∃ t, execPiRegionReadCompletion i k s = .next t ∧ _
  subst hu
  simp only [execPiRegionReadCompletion, hread, beq_self_eq_true, hopen, Bool.not_false, Bool.and_true]
  generalize readBytes memDefault s.host (s.outPage i (s.stream i).page + off) len = data at hnew ⊢
  refine finish_next ?_
  simp only [run_cons, run_nil, run_whenP, if_true]
  generalize htaken : (modStream i fun u => { u with got := u.got ++ [(off, data)] }).run
    ((modStream i fun u => { u with reads := u.reads.eraseIdx k }).run s.quiet) = v
  have hv : v.stream i = { s.stream i with got := (s.stream i).got ++ [(off, data)], reads := (s.stream i).reads.eraseIdx k } := by
    rw [← htaken, stream_modStream_same, stream_modStream_same]; rfl
  have hlegs' : v.piLegs i (s.stream i).page = [e] := by rw [← htaken]; exact hlegs
  have hissues := (refilling_piRefill ((piDeliver i (s.stream i).page (s.stream i).got ((s.stream i).got ++ [(off, data)])).run v)).streams i
  rw [stream_congr (congrArg DmaUnit.streams (piDeliver_dma _ _ _ _ _)), hv] at hissues
  refine ⟨hissues.got, ?_, ?_⟩
  · obtain ⟨l, -, hreads⟩ := hissues.issued
    rw [hreads, ← List.length_eraseIdx_of_lt (List.getElem?_eq_some_iff.mp hread).1, List.take_left']
    rfl
  · rw [leg_congr (run_chart (piRefill_within (pm := 0x8000440040) (by decide)) (by decide) _)]
    exact piDeliver_buffer hlegs' hold hnew

/-! ### Reads that fail (R264) -/

theorem piFaultCause_fld {f : Field} (hf : blockOf f.row = 6) (i n : Nat) (s : State) :
    ((errCause Fld.HIC_ERR_CAUSE.PI_FAULT i).run s).fld f n = s.fld f n :=
  run_fld (errCause_within (pm := 0x4400400) (by decide) _ _ (by decide)) (by decide) f n (by rw [hf]; decide) s

section
variable (i page : Nat) (s : State)

theorem piFault_stream : ((piFault i page).run s).stream i = { s.stream i with
    waiting := if page = (s.stream i).page then [] else (s.stream i).waiting
    faulted := (s.stream i).faulted || (page == (s.stream i).page && !(s.stream i).closed) } := by
  have hcause (v : State) : ((errCause Fld.HIC_ERR_CAUSE.PI_FAULT i).run v).stream i = v.stream i :=
    stream_congr (congrArg DmaUnit.streams (run_dma (errCause_within (pm := 0x4400400) (by decide) _ _ (by decide)) (by decide) v)) i
  simp only [piFault, run_read, run_cons, run_nil, run_raise, run_whenP, run_countUp, apply_ite (State.stream · i), stream_fld, ite_self, hcause,
    stream_modStream_same]

theorem piFault_shows : ((piFault i page).run s).bit Fld.DMA_PI_STATUS.READ_FAULT i = true ∧ ((piFault i page).run s).bit Fld.DMA_EVENT.PI_FAULT = true ∧
    ((piFault i page).run s).bit Fld.HIC_ERR_CAUSE.PI_FAULT i = true := by
  have hcount (b : Bool) (v : State) : RowsKept [Fld.DMA_PI_FAULT_CNT.COUNT.row] v ((whenP b (countUp Fld.DMA_PI_FAULT_CNT.COUNT i)).run v) :=
    keepsRows_whenP (keepsRows_countUp (by decide) _ _) v
  simp only [piFault, run_read, run_cons, run_nil, run_raise]
  refine ⟨?_, ?_, ?_⟩ <;> rw [(hcount _ _).bit (by decide)]
  · rw [State.bit, piFaultCause_fld (by decide), fld_fld_ne (by decide), fld_fld_same]; rfl
  · rw [State.bit, piFaultCause_fld (by decide), fld_fld_same]; rfl
  · exact errCause_sets rfl (by decide) _ _

/-- The first fault of a page counts. -/
theorem piFault_counts (hfirst : (s.stream i).faulted = false) : ((piFault i page).run s).fld Fld.DMA_PI_FAULT_CNT.COUNT i =
    min (s.fld Fld.DMA_PI_FAULT_CNT.COUNT i + 1) (2 ^ Fld.DMA_PI_FAULT_CNT.COUNT.w - 1) := by
  simp only [piFault, run_read, run_cons, run_nil, run_raise, hfirst, Bool.false_and, Bool.not_false, run_whenP, if_true, run_countUp, fld_fld_same]
  rw [piFaultCause_fld (by decide), fld_fld_ne (by decide), fld_fld_ne (by decide), fld_modStream]
  exact Nat.mod_eq_of_lt (by have := Nat.two_pow_pos Fld.DMA_PI_FAULT_CNT.COUNT.w; omega)

end

/-- PI_READ_FAULT of the STAMP read records the fault, and counts the page. -/
theorem piReadFault_records {i k how : Nat} {u : PiStream} {s : State} (hu : s.stream i = u) (hstamp : u.stamp = true) (hdue : u.stampDue = false)
    (hopen : u.closed = false) (hfirst : u.faulted = false) : ∃ t, exec (.piReadFault i true k how) s = .next t ∧ (t.stream i).stamp = false ∧
      (t.stream i).faulted = true ∧ (t.stream i).waiting = [] ∧ t.bit Fld.DMA_PI_STATUS.READ_FAULT i = true ∧ t.bit Fld.DMA_EVENT.PI_FAULT = true ∧
      t.bit Fld.HIC_ERR_CAUSE.PI_FAULT i = true ∧ t.fld Fld.DMA_PI_FAULT_CNT.COUNT i =
        min (s.fld Fld.DMA_PI_FAULT_CNT.COUNT i + 1) (2 ^ Fld.DMA_PI_FAULT_CNT.COUNT.w - 1) := by
  show ∃ t, execPiReadFault i true k how s = .next t ∧ _
  subst hu
  simp only [execPiReadFault, if_true]
  refine whenP_next hstamp (finish_next ?_)
  simp only [run_cons, run_nil]
  have hfailed := requestFailed_within (pm := 0x40200440000) (by decide) (s.insFn i) how
  generalize hended : (modStream i _).run ((requestFailed (s.insFn i) how).run s.quiet) = v
  have hv : v.stream i = { s.stream i with stamp := false } := by
    rw [← hended, stream_modStream_same, stream_congr (congrArg DmaUnit.streams (run_dma hfailed (by decide) _))]
    simp only [Bool.not_true, Bool.and_false]
    rfl
  have hcount : v.fld Fld.DMA_PI_FAULT_CNT.COUNT i = s.fld Fld.DMA_PI_FAULT_CNT.COUNT i := by
    rw [← hended, fld_modStream, run_fld hfailed (by decide) _ _ (by decide), quiet_fld]
  obtain ⟨hstreams, hrows⟩ := refilling_piRefill ((piFault i (s.stream i).page).run v)
  have hissues := hstreams i
  obtain ⟨hread, hevent, hcause⟩ := piFault_shows i (s.stream i).page v
  have hcounts := piFault_counts i (s.stream i).page v (by rw [hv]; exact hfirst)
  rw [piFault_stream, hv] at hissues
  refine ⟨(hissues.stamp hdue).2, ?_, ?_, (hrows.bit (by decide) i).trans hread, (hrows.bit (by decide) 0).trans hevent,
    (hrows.bit (by decide) i).trans hcause, by rw [hrows _ _ (by decide), hcounts, hcount]⟩
  · rw [hissues.faulted]; simp [hopen]
  · obtain ⟨l, hl, -⟩ := hissues.issued
    simp only [if_true] at hl
    exact (List.append_eq_nil_iff.mp hl.symm).2

/-! ### Configuration (R262, R263) -/

@[simp] theorem quiet_piIndex (s : State) : s.quiet.piIndex = s.piIndex := rfl

/-- A bit written to a one-bit field is read. -/
theorem bit_fld_bitsAt {f : Field} (hw : f.w = 1) (n v b : Nat) (s : State) : ((Eff.fld f n (bitsAt v b 1)).apply s).bit f n = bitAt v b := by
  rw [State.bit, fld_fld_same, hw, bitsAt, Nat.mod_mod, bitAt, pow_one]

theorem bit_fld_one {f : Field} (hw : f.w = 1) (n : Nat) (s : State) : ((Eff.fld f n 1).apply s).bit f n = true := by
  rw [State.bit, fld_fld_same, hw]; rfl

/-- Bits written to a field of their width are read. -/
theorem fld_fld_bitsAt (f : Field) (n v lo : Nat) (s : State) : ((Eff.fld f n (bitsAt v lo f.w)).apply s).fld f n = bitsAt v lo f.w := by
  rw [fld_fld_same, bitsAt, Nat.mod_mod]

/-- A refused write only raises CFG_REFUSED in one context. -/
theorem cfgRefused_next {p : Prog} {s : State} {i : Nat} (h : p.run s.quiet = (raise Fld.DMA_PI_STATUS.CFG_REFUSED i).run s.quiet) :
    ∃ t, finish p s = .next t ∧ t.bit Fld.DMA_PI_STATUS.CFG_REFUSED i = true ∧ keepsBut [(Fld.DMA_PI_STATUS.CFG_REFUSED, i)] s t :=
  finish_next (by rw [h]; exact ⟨bit_fld_one rfl _ _, keepsBut_fld (by simp) _ s.quiet⟩)

section
variable {v : Nat} {s : State}

section
variable (henable : s.bit Fld.DMA_PI_CFG.ENABLE s.piIndex = false) (hactive : s.piActive s.piIndex = false)
include henable hactive

/-- A write of DMA_PI_CFG while the process image is off takes the fields where the page set is aligned, or stays off. -/
theorem run_piCfgWrite_aligned (haligned : bitAt v 0 = true → s.pageBase s.piIndex % (4096 * 2 ^ min 11 (bitsAt v 4 4)) = 0) :
    (piCfgWrite v).run s = (seqs [putN Fld.DMA_PI_CFG.HALF_SLOT s.piIndex (bitsAt v 8 15), putN Fld.DMA_PI_CFG.SIZE s.piIndex (bitsAt v 4 4),
      putN Fld.DMA_PI_CFG.ENABLE s.piIndex (bitsAt v 0 1)]).run s := by
  have htaken : (bitAt v 0 && s.pageBase s.piIndex % (4096 * 2 ^ min 11 (bitsAt v 4 4)) != 0) = false := by simpa using haligned
  simp only [piCfgWrite, run_read, henable, hactive, Bool.or_false, Bool.false_and, Bool.false_eq_true, if_false, htaken]

theorem run_piCfgWrite_misaligned (hbit : bitAt v 0 = true) (hmisaligned : s.pageBase s.piIndex % (4096 * 2 ^ min 11 (bitsAt v 4 4)) ≠ 0) :
    (piCfgWrite v).run s = (seqs [putN Fld.DMA_PI_CFG.HALF_SLOT s.piIndex (bitsAt v 8 15), putN Fld.DMA_PI_CFG.SIZE s.piIndex (bitsAt v 4 4),
      clear Fld.DMA_PI_CFG.ENABLE s.piIndex, raise Fld.DMA_PI_STATUS.CFG_REFUSED s.piIndex]).run s := by
  have hrefused : (bitAt v 0 && s.pageBase s.piIndex % (4096 * 2 ^ min 11 (bitsAt v 4 4)) != 0) = true := by simp [hbit, hmisaligned]
  simp only [piCfgWrite, run_read, henable, hactive, Bool.or_false, Bool.false_and, Bool.false_eq_true, if_false, hrefused, if_true]
  rfl

theorem run_piBaseWrite_high : (piBaseWrite true v).run s = (putN Fld.DMA_PI_BASE_HI.BASE_HI s.piIndex v).run s := by
  simp only [piBaseWrite, run_read, henable, hactive, Bool.or_false, Bool.false_eq_true, if_false, if_true]

end

section
variable (hbusy : s.bit Fld.DMA_PI_CFG.ENABLE s.piIndex = true ∨ s.piActive s.piIndex = true)
include hbusy

theorem run_piBaseWrite_busy (hi : Bool) : (piBaseWrite hi v).run s = (raise Fld.DMA_PI_STATUS.CFG_REFUSED s.piIndex).run s := by
  rw [piBaseWrite, run_read, if_pos (Bool.or_eq_true_iff.mpr hbusy)]

theorem run_piCfgWrite_busy (hsize : bitsAt v 4 4 ≠ s.fld Fld.DMA_PI_CFG.SIZE s.piIndex) :
    (piCfgWrite v).run s = (raise Fld.DMA_PI_STATUS.CFG_REFUSED s.piIndex).run s := by
  rw [piCfgWrite, run_read, if_pos]
  simp only [Bool.and_eq_true, Bool.or_eq_true, Bool.not_eq_true', Bool.and_eq_false_iff, beq_eq_false_iff_ne]
  exact ⟨hbusy, .inr hsize⟩

end

theorem run_routeWrite_enabled {r : Nat} (hr : s.fld Fld.DMA_ROUTE_INDEX.ROUTE = r) (hon : s.bit Fld.DMA_ROUTE_CFG.ENABLE r = true) :
    (routeWrite 1 v).run s = (raise Fld.DMA_PI_STATUS.CFG_REFUSED (s.fld Fld.DMA_ROUTE_SRC.OWNER r)).run s := by
  subst hr
  simp [routeWrite, hon]

/-- A write of a valid configuration enables a route that is not. -/
theorem run_routeWrite_valid {r : Nat} (hr : s.fld Fld.DMA_ROUTE_INDEX.ROUTE = r) (hoff : s.bit Fld.DMA_ROUTE_CFG.ENABLE r = false)
    (hvalid : routeValid (bitsAt v 0 13) (s.fld Fld.DMA_ROUTE_DST.BUF0 r) (s.fld Fld.DMA_ROUTE_DST.BUF1 r) = true) :
    (routeWrite 2 v).run s = (seqs [putN Fld.DMA_ROUTE_CFG.LENGTH r (bitsAt v 0 13), putN Fld.DMA_ROUTE_CFG.HELM r (bitsAt v 16 4),
      putN Fld.DMA_ROUTE_CFG.ENABLE r (bitsAt v 31 1)]).run s := by
  subst hr
  have hlength := hvalid
  simp only [routeValid, Bool.and_eq_true, decide_eq_true_eq, beq_iff_eq] at hlength
  obtain ⟨⟨⟨⟨⟨⟨⟨hlow, hhigh⟩, hmul⟩, -⟩, -⟩, -⟩, -⟩, -⟩ := hlength
  simp [routeWrite, hoff, hvalid, hmul, Nat.not_lt.mpr hlow, Nat.not_lt.mpr hhigh]

end

/-! ### The statement -/

/-- Settles O41: the header is two writes next to each other, a completion of a read changes its stream and lets reads go out, which leaves what the
clauses speak of (`refilling_piRefill`), and a configuration write is a few writes of fields or one refusal. -/
theorem theProcessImageIsWrittenAndRead : Obligations.TheProcessImageIsWrittenAndRead := by
  unfold Obligations.TheProcessImageIsWrittenAndRead
  refine ⟨fun _ _ _ => piFullAtSlot_writes, fun _ _ _ => piHalfAtSlot_raises, fun _ _ _ => piStampCompletion_starts,
    fun _ _ _ => piStampCompletion_misses, fun _ _ _ _ _ _ _ _ => piRegionReadCompletion_takes, fun _ _ _ _ _ => piReadFault_records,
    ?config, ?configBusy, ?misaligned, ?base, ?baseBusy, ?routeSource, ?routeEnable, ?routeBusy⟩
  case config =>
    intro v s henable hactive haligned
    refine ⟨(piCfgWrite v).run s.quiet, rfl, ?_⟩
    rw [run_piCfgWrite_aligned (s := s.quiet) henable hactive haligned]
    simp only [run_cons, run_nil, run_putN]
    refine ⟨?_, ?_, bit_fld_bitsAt rfl _ _ _ _, (((keepsBut_quiet _ s).fld (by simp) _).fld (by simp) _).fld (by simp) _⟩
    · rw [fld_fld_ne (by decide), fld_fld_ne (by decide)]; exact fld_fld_bitsAt Fld.DMA_PI_CFG.HALF_SLOT _ _ _ _
    · rw [fld_fld_ne (by decide)]; exact fld_fld_bitsAt Fld.DMA_PI_CFG.SIZE _ _ _ _
  case configBusy =>
    intro v s hbusy hsize
    exact cfgRefused_next (run_piCfgWrite_busy (s := s.quiet) hbusy hsize)
  case misaligned =>
    intro v s henable hactive hbit hmisaligned
    refine ⟨(piCfgWrite v).run s.quiet, rfl, ?_⟩
    rw [run_piCfgWrite_misaligned (s := s.quiet) henable hactive hbit hmisaligned]
    simp only [run_cons, run_nil, run_raise, run_clear]
    refine ⟨bit_fld_one rfl _ _, ?_⟩
    rw [State.bit, fld_fld_ne (by decide)]
    exact congrArg (· == 1) (fld_fld_same Fld.DMA_PI_CFG.ENABLE _ 0 _)
  case base =>
    intro v s henable hactive
    refine ⟨(piBaseWrite true v).run s.quiet, rfl, ?_⟩
    rw [run_piBaseWrite_high (s := s.quiet) henable hactive]
    exact ⟨fld_fld_same _ _ _ _, keepsBut_fld (by simp) _ s.quiet⟩
  case baseBusy =>
    intro hi v s hbusy
    exact cfgRefused_next (run_piBaseWrite_busy (s := s.quiet) hbusy hi)
  case routeSource =>
    intro r v s hr hoff
    subst hr
    refine ⟨(routeWrite 0 v).run s.quiet, rfl, ?_⟩
    simp only [routeWrite, run_read, quiet_bit, quiet_fld, hoff]
    refine ⟨?_, fld_fld_bitsAt Fld.DMA_ROUTE_SRC.OFFSET _ _ _ _, ((keepsBut_quiet _ s).fld (by simp) _).fld (by simp) _⟩
    exact (fld_fld_ne (by decide) _ _ _ _).trans (fld_fld_bitsAt Fld.DMA_ROUTE_SRC.OWNER _ _ _ _)
  case routeEnable =>
    intro r v s hr hoff hbit hvalid
    refine ⟨(routeWrite 2 v).run s.quiet, rfl, ?_⟩
    rw [run_routeWrite_valid (s := s.quiet) hr hoff hvalid]
    simp only [run_cons, run_nil, run_putN]
    refine ⟨?_, ?_, (bit_fld_bitsAt rfl _ _ _ _).trans hbit, (((keepsBut_quiet _ s).fld (by simp) _).fld (by simp) _).fld (by simp) _⟩
    · rw [fld_fld_ne (by decide), fld_fld_ne (by decide)]; exact fld_fld_bitsAt Fld.DMA_ROUTE_CFG.LENGTH _ _ _ _
    · rw [fld_fld_ne (by decide)]; exact fld_fld_bitsAt Fld.DMA_ROUTE_CFG.HELM _ _ _ _
  case routeBusy =>
    intro r v s hr hon
    exact cfgRefused_next (p := routeWrite 1 v) (run_routeWrite_enabled (s := s.quiet) hr hon)

end Sys2Proof.Machine

/-! SUPPORT. The refutation of the statement of DMA channels (file 08; Machine/Dma.lean). -/

namespace Sys2Proof.Machine

/-- Command 7 is a DMA for channel 3, which is ON and idle. Channel 1 waits for a request for its descriptor fetch: PF0 has been allowed 10-bit tags since
it last asked. 447 of the 448 shared requests are reads of SQ entries. -/
def lastRequestAwaited : State :=
  { regs := [(Fld.DMA_CH_STATUS.FUNC_STATE.key 3, Fn.on)]
    q := { fetching := List.range 447, cmds := [(7, { sq := 0, ins := 0, head := 0, bytes := [0x83, 0, 0, 0, 3], stage := .ready })] }
    fns := [(0, { bme := true, tag10 := true })]
    dma := { channels := [(1, { fetching := some 0, npWait := true })] } }

/-- The channel that waits takes the request that is left, and the channel that the command starts waits for one (R266). -/
theorem exec_dma_lastRequestAwaited : ∃ t, exec (.dma 7) lastRequestAwaited = .next t ∧ (t.chan 3).npWait = true :=
  ⟨_, rfl, by decide +kernel⟩

/-- Refutes O42: its clause of the command DMA says that the channel started waits for no request where one is free before the command. But the requests
free are handed out from the rotating pointer, and a channel that has been waiting can take the last of them: in `lastRequestAwaited` channel 1 does, and
channel 3, which the command starts, waits. -/
theorem not_channelsMoveDataAlongTheirChains : ¬ Obligations.ChannelsMoveDataAlongTheirChains := by
  unfold Obligations.ChannelsMoveDataAlongTheirChains
  rintro ⟨-, -, -, -, -, -, -, -, hdma, -⟩
  have hfree : lastRequestAwaited.requestFree (lastRequestAwaited.insFn (lastRequestAwaited.chanOwner 3)) = true := by decide +kernel
  have hnamed : lastRequestAwaited.chanNamed 3 = some 3 := by decide +kernel
  obtain ⟨t, ht, -, -, hchan, -⟩ := hdma 7 lastRequestAwaited _ 3 rfl hfree (by decide) hnamed (by decide) (by decide)
  obtain ⟨t', ht', hwaits⟩ := exec_dma_lastRequestAwaited
  obtain rfl : t = t' := Host.Outcome.next.inj (ht.symm.trans ht')
  rw [hchan] at hwaits
  exact absurd hwaits (by decide)

end Sys2Proof.Machine

/-! SUPPORT. The refutation of the statement of doorbells and fetching (file 09; Machine/Queues.lean). -/

namespace Sys2Proof.Machine

/-- SQ 0 of I0 is ON and CACHED, and the queue path of I0 has its PASID enabled; the PASID Enable bit of PF0 is 0. -/
def cachedQueueWithPasid : State :=
  { regs := [(Fld.QM_SQ_CTRL.CACHED.key 0, 1), (Fld.QM_SQ_STATUS.FUNC_STATE.key 0, Fn.on), (Fld.INS_STATUS.FUNC_STATE.key 0, Fn.on),
      (Fld.INS_PASID.PASID_EN.key 0, 1), (Fld.NVM_STATUS.STATE.key 0, 2)]
    q := { sqTaken := [0] }
    fns := [(0, { mse := true })] }

/-- A tail doorbell of the queue reads the entry that it covers (R295), and the request goes without its PASID, which sets PASID_IGNORED (R518). -/
theorem exec_sqTailDoorbell_cachedQueueWithPasid :
    ∃ t, exec (.sqTailDoorbell 0 0 0 1) cachedQueueWithPasid = .next t ∧ t.fld Fld.GBL_PCIE_EVENT.PASID_IGNORED 0 = 1 :=
  ⟨_, rfl, by decide +kernel⟩

/-- Refutes O14: its first clause says that a tail doorbell writes no field but TAIL. But the doorbell of a CACHED queue also reads the entries that it
covers, and a read request that drops its PASID sets PASID_IGNORED: in `cachedQueueWithPasid` the doorbell to 1 does. -/
theorem not_doorbellsAndFetchingMoveTheQueues : ¬ Obligations.DoorbellsAndFetchingMoveTheQueues := by
  unfold Obligations.DoorbellsAndFetchingMoveTheQueues
  rintro ⟨htail, -⟩
  obtain ⟨t, ht, -, hkept⟩ := htail 0 0 0 1 0 0 cachedQueueWithPasid (by decide +kernel) (by decide +kernel) (by decide +kernel) (by decide +kernel)
    (by decide +kernel) (by decide +kernel) (by decide +kernel) (by decide +kernel) (by decide +kernel) (by decide +kernel)
  obtain ⟨t', ht', hignored⟩ := exec_sqTailDoorbell_cachedQueueWithPasid
  obtain rfl : t = t' := Host.Outcome.next.inj (ht.symm.trans ht')
  have hclear : cachedQueueWithPasid.fld Fld.GBL_PCIE_EVENT.PASID_IGNORED 0 = 0 := by decide +kernel
  rw [hkept Fld.GBL_PCIE_EVENT.PASID_IGNORED 0 (by decide), hclear] at hignored
  exact absurd hignored (by decide)

end Sys2Proof.Machine

/-! SUPPORT. The refutation of the statement of CHART_EDIT and of admission (file 05; Machine/Chart.lean). -/

namespace Sys2Proof.Machine

/-- A RELEASE of a chart index by I0, as its SQ 0 holds it. -/
def releaseOf (index : Nat) (stage : Stage) : Cmd :=
  { sq := 0, ins := 0, head := 0, bytes := [0x11, 0, 0, 0, 0, 0, 0, 0, byteOf index 0, byteOf index 1], stage := stage }

/-- The chart holds two legs of I0. Command 1 asks to release the first and waits for its batch; command 2, to release the second, has just been
fetched. -/
def releaseFetchedBehind : State :=
  { regs := [(Fld.CHT_CTRL.ADMIT_EN.key 0, 1), (Fld.CHT_TICK_LEN.N.key 0, 1000)]
    q := { cmds := [(1, releaseOf 0 .running), (2, releaseOf 1 .ready)] }
    chart := { bankB := [(0, { valid := true }), (1, { valid := true })], admitWait := [1] } }

/-- The batch holds every request fetched up to its start (R161): it takes both commands, and its COMMIT is not refused. -/
theorem exec_admitBatch_releaseFetchedBehind : ∃ t, exec .admitBatch releaseFetchedBehind = .next t ∧ t.chart.admitBatch = [1, 2] ∧
    t.bit Fld.CHT_STATUS.COMMIT_REFUSED = false :=
  ⟨_, rfl, by decide +kernel⟩

/-- Refutes O18: its clause of ADMIT_BATCH says that after a batch whose only waiting request is a RELEASE the batch holds that request alone, or the
COMMIT was refused. But a batch also takes the requests that have been fetched and do not wait yet: in `releaseFetchedBehind` it holds two. -/
theorem not_chartEditAndAdmissionCommands : ¬ Obligations.ChartEditAndAdmissionCommands := by
  unfold Obligations.ChartEditAndAdmissionCommands
  rintro ⟨-, -, -, -, -, -, -, -, -, -, -, -, -, hbatch⟩
  obtain ⟨t, ht, -, -, hend⟩ := hbatch 1 (releaseOf 0 .running) releaseFetchedBehind (by decide +kernel) (by decide +kernel) (by decide +kernel)
    (by decide +kernel) rfl rfl (by decide) (by decide +kernel) (by decide +kernel) (by decide +kernel) (by decide +kernel)
  obtain ⟨t', ht', hboth, haccepted⟩ := exec_admitBatch_releaseFetchedBehind
  obtain rfl : t = t' := Host.Outcome.next.inj (ht.symm.trans ht')
  rcases hend with ⟨-, -, -, hone⟩ | hrefused
  · exact absurd (hboth.symm.trans hone) (by decide)
  · exact Bool.false_ne_true (haccepted.symm.trans hrefused)

end Sys2Proof.Machine

/-! SUPPORT. The refutation of the statement of instances that are reset, wiped and reached (file 10; Machine/Instances.lean). -/

namespace Sys2Proof.Machine

/-- I5 is ON and its function cannot issue requests. Command 1 is a RESET_INSTANCE of I5 by I0; command 2 is a WAIT_IDLE of I5 for itself, which waits
although nothing of I5 is outstanding beside it. CQ context 0 is CQ 0 of I5. -/
def idleWaitBesideReset : State :=
  { regs := [(Fld.QM_CQ_CFG.OWNER.key 0, 5), (Fld.QM_CQ_STATUS.FUNC_STATE.key 0, Fn.on), (Fld.INS_STATUS.FUNC_STATE.key 5, Fn.on)]
    q := { cqTaken := [0]
           cmds := [(1, { sq := 0, ins := 0, head := 0, bytes := [0x24, 0, 0, 0, 5, 0], stage := .ready }),
             (2, { sq := 1, ins := 5, head := 0, bytes := [0x05, 0, 0, 0, 5, 0], stage := .running })] } }

/-- With command 1 the WAIT_IDLE completes too (R310); its entry cannot be written, so CQ 0 of I5 enters ERROR and takes I5 with it (R305, R331). -/
theorem exec_resetInstance_idleWaitBesideReset :
    ∃ t, exec (.resetInstance 1) idleWaitBesideReset = .next t ∧ t.fld Fld.INS_STATUS.FUNC_STATE 5 = Fn.error :=
  ⟨_, rfl, by decide +kernel⟩

/-- Refutes O44: its clause of a RESET_INSTANCE that completes NOT_QUIESCED says that the state of the instance stays. But the WAIT_IDLEs that complete
along with a command may put their own instance in ERROR: in `idleWaitBesideReset` that is the instance named. -/
theorem not_instancesAreResetWipedAndReached : ¬ Obligations.InstancesAreResetWipedAndReached := by
  unfold Obligations.InstancesAreResetWipedAndReached
  rintro ⟨-, hbusy, -⟩
  obtain ⟨t, ht, -, -, hstays⟩ := hbusy 1 idleWaitBesideReset _ rfl (by decide +kernel) (by decide +kernel) (by decide +kernel) (by decide +kernel)
    (by decide +kernel) (by decide +kernel) (by decide +kernel)
  obtain ⟨t', ht', herror⟩ := exec_resetInstance_idleWaitBesideReset
  obtain rfl : t = t' := Host.Outcome.next.inj (ht.symm.trans ht')
  have hon : idleWaitBesideReset.insState 5 = Fn.on := by decide +kernel
  exact absurd (herror.symm.trans (hstays.trans hon)) (by decide)

end Sys2Proof.Machine

/-! SUPPORT. What completing commands leaves of the queues (Machine/Events.lean), and what the programs that enable and disable a queue show
(Machine/Queues.lean). -/

namespace Sys2Proof.Machine

/-! ### What a completion leaves of the queues -/

/-- The fields of an SQ that no completion writes. -/
def sqKeptFields : List Field := [Fld.QM_SQ_STATUS.FUNC_STATE, Fld.QM_SQ_INDICES.TAIL, Fld.QM_SQ_INDICES.HEAD]

/-- What completions leave of the queues: the contexts taken, the fragment cache, the states and indices of the SQs, and every CQ that is OFF. -/
structure State.QueuesStay (s t : State) : Prop where
  sqTaken : t.q.sqTaken = s.q.sqTaken
  cqTaken : t.q.cqTaken = s.q.cqTaken
  fragCache : t.q.fragCache = s.q.fragCache
  sq : ∀ f ∈ sqKeptFields, ∀ n, t.fld f n = s.fld f n
  cqOff : ∀ n, s.fld Fld.QM_CQ_STATUS.FUNC_STATE n = Fn.off → t.fld Fld.QM_CQ_STATUS.FUNC_STATE n = Fn.off

theorem State.QueuesStay.trans {s t u : State} (hst : s.QueuesStay t) (htu : t.QueuesStay u) : s.QueuesStay u where
  sqTaken := htu.sqTaken.trans hst.sqTaken
  cqTaken := htu.cqTaken.trans hst.cqTaken
  fragCache := htu.fragCache.trans hst.fragCache
  sq := fun f hf n => (htu.sq f hf n).trans (hst.sq f hf n)
  cqOff := fun n h => htu.cqOff n (hst.cqOff n h)

theorem State.QueuesStay.of_eq {s t : State} (hq : t.q = s.q) (hsq : ∀ f ∈ sqKeptFields, ∀ n, t.fld f n = s.fld f n)
    (hcq : ∀ n, t.fld Fld.QM_CQ_STATUS.FUNC_STATE n = s.fld Fld.QM_CQ_STATUS.FUNC_STATE n) : s.QueuesStay t where
  sqTaken := by rw [hq]
  cqTaken := by rw [hq]
  fragCache := by rw [hq]
  sq := hsq
  cqOff := fun n h => (hcq n).trans h

theorem State.QueuesStay.refl (s : State) : s.QueuesStay s := .of_eq rfl (fun _ _ _ => rfl) fun _ => rfl

/-- Whether a program leaves the queues, in any state, as completions do. -/
def KeepsQueues (p : Prog) : Prop := ∀ s : State, s.QueuesStay (p.run s)

theorem keepsQueues_skip : KeepsQueues .skip := State.QueuesStay.refl
theorem keepsQueues_nil : KeepsQueues (seqs []) := State.QueuesStay.refl
theorem keepsQueues_read {k : State → Prog} (h : ∀ s, KeepsQueues (k s)) : KeepsQueues (.read k) := fun s => h s s

section
variable {p q : Prog} (hp : KeepsQueues p)
include hp

theorem keepsQueues_cons {l : List Prog} (hl : KeepsQueues (seqs l)) : KeepsQueues (seqs (p :: l)) := fun s => (hp s).trans (hl _)

theorem keepsQueues_ite {c : Prop} [Decidable c] (hq : KeepsQueues q) : KeepsQueues (if c then p else q) := by
  split
  · exact hp
  · exact hq

theorem keepsQueues_whenP {c : Bool} : KeepsQueues (whenP c p) := keepsQueues_ite hp keepsQueues_skip

end

theorem keepsQueues_forP {α : Type} {l : List α} {f : α → Prog} (h : ∀ x, KeepsQueues (f x)) : KeepsQueues (forP l f) := fun s =>
  run_forP_keeps State.QueuesStay .refl (fun _ _ _ hab hbc => hab.trans hbc) l f (fun x _ u => h x u) s

/-- A program that reaches neither the registers of the queue manager nor its unit. -/
theorem keepsQueues_within {m : Nat} {p : Prog} (hp : p.Within m) (hregs : m.testBit 7 = false) (hall : m.testBit 19 = false)
    (hunit : m.testBit 24 = false) : KeepsQueues p := fun s => by
  have hblock : ∀ f ∈ Fld.QM_CQ_STATUS.FUNC_STATE :: sqKeptFields, blockOf f.row = 7 := by decide
  have hfld : ∀ f ∈ Fld.QM_CQ_STATUS.FUNC_STATE :: sqKeptFields, ∀ n, (p.run s).fld f n = s.fld f n := fun f hf n =>
    run_fld hp hall f n (by rw [hblock f hf]; exact hregs) s
  exact .of_eq (run_q hp hunit s) (fun f hf => hfld f (.tail _ hf)) (hfld _ (.head _))

theorem keepsQueues_putN {f : Field} (hf : ∀ g ∈ Fld.QM_CQ_STATUS.FUNC_STATE :: sqKeptFields, g.row ≠ f.row) (n v : Nat) :
    KeepsQueues (putN f n v) := fun _ =>
  .of_eq rfl (fun g hg _ => fld_fld_ne (hf g (.tail _ hg)) _ _ _ _) fun _ => fld_fld_ne (hf _ (.head _)) _ _ _ _

theorem keepsQueues_countUp {f : Field} (hf : ∀ g ∈ Fld.QM_CQ_STATUS.FUNC_STATE :: sqKeptFields, g.row ≠ f.row) (n k : Nat) :
    KeepsQueues (countUp f n k) := keepsQueues_read fun _ => keepsQueues_putN hf _ _

theorem keepsQueues_countDown {f : Field} (hf : ∀ g ∈ Fld.QM_CQ_STATUS.FUNC_STATE :: sqKeptFields, g.row ≠ f.row) (n k : Nat) :
    KeepsQueues (countDown f n k) := keepsQueues_read fun _ => keepsQueues_putN hf _ _

/-- A change of the unit that keeps the contexts taken and the fragment cache. -/
theorem keepsQueues_modQ {f : QueueUnit → QueueUnit} (hsq : ∀ u, (f u).sqTaken = u.sqTaken := by exact fun _ => rfl)
    (hcq : ∀ u, (f u).cqTaken = u.cqTaken := by exact fun _ => rfl) (hfrag : ∀ u, (f u).fragCache = u.fragCache := by exact fun _ => rfl) :
    KeepsQueues (modQ f) := fun s => ⟨hsq s.q, hcq s.q, hfrag s.q, fun _ _ _ => rfl, fun _ h => h⟩

theorem keepsQueues_errCause {f : Field} (hf : blockOf f.row = 10) (i : Nat) : KeepsQueues (errCause f i) :=
  keepsQueues_within (errCause_within (pm := 0x4400400) (by decide) f i (by rw [hf]; decide)) (by decide) (by decide) (by decide)

theorem keepsQueues_insError (i cause : Nat) : KeepsQueues (insError i cause) :=
  keepsQueues_within (insError_within (pm := 0x4400500) (by decide) i cause) (by decide) (by decide) (by decide)

theorem keepsQueues_refreshCq (c : Nat) : KeepsQueues (refreshCq c) :=
  keepsQueues_read fun _ => keepsQueues_cons (keepsQueues_putN (by decide) _ _) (keepsQueues_cons (keepsQueues_putN (by decide) _ _)
    (keepsQueues_cons (keepsQueues_putN (by decide) _ _) (keepsQueues_cons (keepsQueues_whenP (keepsQueues_putN (by decide) _ _))
      (keepsQueues_cons (keepsQueues_putN (by decide) _ _) (keepsQueues_cons (keepsQueues_whenP (keepsQueues_putN (by decide) _ _))
        (keepsQueues_cons (keepsQueues_putN (by decide) _ _) keepsQueues_nil))))))

theorem keepsQueues_holdEntry (c : Nat) (e : CqEntry) : KeepsQueues (holdEntry c e) :=
  keepsQueues_cons keepsQueues_modQ (keepsQueues_cons (keepsQueues_refreshCq c) keepsQueues_nil)

theorem keepsQueues_freeTag (tag : Nat) : KeepsQueues (freeTag tag) :=
  keepsQueues_read fun s => by
    cases s.cmd tag with
    | none => exact keepsQueues_skip
    | some c =>
      exact keepsQueues_cons keepsQueues_modQ (keepsQueues_cons (keepsQueues_countDown (by decide) _ _)
        (keepsQueues_cons (keepsQueues_countDown (by decide) _ _) (keepsQueues_cons (keepsQueues_countDown (by decide) _ _)
          (keepsQueues_cons (keepsQueues_read fun _ => keepsQueues_cons (keepsQueues_putN (by decide) _ _)
            (keepsQueues_cons (keepsQueues_putN (by decide) _ _) keepsQueues_nil)) keepsQueues_nil))))

/-- A CQ that is not OFF changes its state: no CQ that is OFF does. -/
theorem putCqState_stay {c : Nat} {s : State} (hon : s.fld Fld.QM_CQ_STATUS.FUNC_STATE c ≠ Fn.off) (v : Nat) :
    s.QueuesStay ((putN Fld.QM_CQ_STATUS.FUNC_STATE c v).run s) where
  sqTaken := rfl
  cqTaken := rfl
  fragCache := rfl
  sq := by
    have hrow : ∀ f ∈ sqKeptFields, f.row ≠ Fld.QM_CQ_STATUS.FUNC_STATE.row := by decide
    exact fun f hf n => fld_fld_ne (hrow f hf) _ _ _ _
  cqOff := fun n hoff => by
    have hkey : Fld.QM_CQ_STATUS.FUNC_STATE.key n ≠ Fld.QM_CQ_STATUS.FUNC_STATE.key c := fun h => hon (by rw [← hoff, State.fld, State.fld, h])
    rw [← hoff]
    exact Sparse.get_set_ne _ _ _ hkey

theorem cqError_stay {c : Nat} {s : State} (hon : s.fld Fld.QM_CQ_STATUS.FUNC_STATE c ≠ Fn.off) (kind idx : Nat) :
    s.QueuesStay ((cqError c kind idx).run s) := by
  rw [cqError, run_read, run_whenP]
  split
  · rw [run_cons]
    refine (putCqState_stay hon Fn.error).trans ?_
    exact keepsQueues_cons (keepsQueues_putN (by decide) _ _) (keepsQueues_cons (keepsQueues_putN (by decide) _ _)
      (keepsQueues_cons (keepsQueues_putN (by decide) _ _) (keepsQueues_cons (keepsQueues_errCause (by decide) _)
        (keepsQueues_cons (keepsQueues_whenP (keepsQueues_insError _ _)) keepsQueues_nil)))) _
  · exact .refl s

theorem postEntry_stay {c : Nat} {s : State} (hon : s.fld Fld.QM_CQ_STATUS.FUNC_STATE c ≠ Fn.off) (e : CqEntry) :
    s.QueuesStay ((postEntry c e).run s) := by
  rw [postEntry, run_read, run_ite]
  split
  · exact (cqError_stay hon _ _).trans (keepsQueues_cons (keepsQueues_holdEntry c e) keepsQueues_nil _)
  · have hwrite (i addr : Nat) (pasid : Option Nat) (bs : List Byte) : KeepsQueues (insWrite i 0 pasid addr bs) :=
      keepsQueues_within (insWrite_within (pm := 0x6540500) (by decide) _ _ _ _ _) (by decide) (by decide) (by decide)
    have hcause (fn vec : Nat) : KeepsQueues (hostCause fn vec) :=
      keepsQueues_within (hostCause_within (pm := 0x4400400) (by decide) _ _) (by decide) (by decide) (by decide)
    exact keepsQueues_cons (hwrite _ _ _ _) (keepsQueues_cons (keepsQueues_putN (by decide) _ _)
      (keepsQueues_cons (keepsQueues_refreshCq c) (keepsQueues_cons (keepsQueues_whenP (hcause _ _)) keepsQueues_nil))) s

/-- The CQ found by its number is not OFF. -/
theorem state_ne_off_of_cqOf {s : State} {i q c : Nat} (h : s.cqOf i q = some c) : s.fld Fld.QM_CQ_STATUS.FUNC_STATE c ≠ Fn.off := by
  have hfound := List.find?_some h
  simp only [Bool.and_eq_true, bne_iff_ne] at hfound
  exact hfound.2

theorem keepsQueues_deliver (tag : Nat) (e : CqEntry) : KeepsQueues (deliver tag e) := fun s => by
  rw [deliver, run_read]
  cases s.cmd tag with
  | none => exact .refl s
  | some c =>
    dsimp only
    cases hq : s.cqOf c.ins (s.fld Fld.QM_SQ_CFG.CQ c.sq) with
    | none => exact keepsQueues_freeTag tag s
    | some q =>
      dsimp only
      have hends : KeepsQueues (seqs [freeTag tag, refreshCq q]) :=
        keepsQueues_cons (keepsQueues_freeTag tag) (keepsQueues_cons (keepsQueues_refreshCq q) keepsQueues_nil)
      split_ifs
      · exact keepsQueues_cons (keepsQueues_countUp (by decide) _ _) (keepsQueues_cons (keepsQueues_freeTag tag) keepsQueues_nil) s
      · rw [run_cons]
        exact (postEntry_stay (state_ne_off_of_cqOf hq) e).trans (hends _)
      · exact keepsQueues_cons (keepsQueues_holdEntry q e) hends s
      · exact keepsQueues_cons keepsQueues_modQ (keepsQueues_cons (keepsQueues_refreshCq q) keepsQueues_nil) s

theorem keepsQueues_completeOne (tag status result aux : Nat) : KeepsQueues (completeOne tag status result aux) :=
  keepsQueues_read fun s => by
    cases s.cmd tag with
    | none => exact keepsQueues_skip
    | some c => exact keepsQueues_ite (keepsQueues_freeTag tag) (keepsQueues_deliver tag _)

theorem keepsQueues_wakeIdle : KeepsQueues wakeIdle :=
  keepsQueues_read fun _ => keepsQueues_forP fun _ => keepsQueues_read fun _ => keepsQueues_whenP (keepsQueues_completeOne _ _ _ _)

/-- Completing a command leaves the queues. -/
theorem keepsQueues_complete (tag status result aux : Nat) : KeepsQueues (complete tag status result aux) := fun s =>
  (keepsQueues_completeOne tag status result aux s).trans (keepsQueues_wakeIdle _)

theorem keepsQueues_completeWaiting (op progress status result aux : Nat) : KeepsQueues (completeWaiting op progress status result aux) :=
  keepsQueues_read fun _ => keepsQueues_forP fun _ => keepsQueues_complete _ _ _ _

/-! ### Queues enabled and disabled (R303) -/

theorem keepsBut.q {l : List (Field × Nat)} {s t : State} (h : keepsBut l s t) (f : QueueUnit → QueueUnit) : keepsBut l s ((modQ f).run t) := h

/-- A bit cleared reads 0. -/
theorem bit_fld_zero (f : Field) (n : Nat) (s : State) : ((Eff.fld f n 0).apply s).bit f n = false := by
  rw [State.bit, fld_fld_same, Nat.zero_mod]; rfl

/-- A bit that another field's write leaves. -/
theorem bit_fld_ne {f g : Field} (h : g.row ≠ f.row) (n k v : Nat) (s : State) : ((Eff.fld f n v).apply s).bit g k = s.bit g k := by
  rw [State.bit, fld_fld_ne h, State.bit]

@[simp] theorem fld_modQ (f : QueueUnit → QueueUnit) (s : State) (g : Field) (n : Nat) : ((modQ f).run s).fld g n = s.fld g n := rfl

theorem mem_sqTaken_takeSq (n : Nat) (s : State) : n ∈ ((takeSq n).run s).q.sqTaken := by
  simp only [takeSq, modQ, run_eff, apply_q]
  split
  · rename_i hmem; simpa using hmem
  · simp

theorem mem_cqTaken_takeCq (n : Nat) (s : State) : n ∈ ((takeCq n).run s).q.cqTaken := by
  simp only [takeCq, modQ, run_eff, apply_q]
  split
  · rename_i hmem; simpa using hmem
  · simp

/-- An SQ that enters ENABLING. -/
theorem sqEnabling_shows (n : Nat) (s : State) : ((sqEnabling n).run s).fld Fld.QM_SQ_STATUS.FUNC_STATE n = Fn.enabling ∧
    ((sqEnabling n).run s).bit Fld.QM_SQ_CTRL.ENABLE n = true ∧
    keepsBut [(Fld.QM_SQ_CTRL.ENABLE, n), (Fld.QM_SQ_STATUS.FUNC_STATE, n), (Fld.QM_SQ_STATUS.ERR_KIND, n), (Fld.QM_SQ_STATUS.PENDING_ENABLE, n)]
      s ((sqEnabling n).run s) := by
  simp only [sqEnabling, run_cons, run_nil, run_raise, run_putN, run_clear]
  refine ⟨?_, ?_, ?_⟩
  · rw [fld_fld_ne (by decide), fld_fld_ne (by decide), fld_fld_same]; rfl
  · rw [bit_fld_ne (by decide), bit_fld_ne (by decide), bit_fld_ne (by decide), bit_fld_one rfl]
  · exact (((keepsBut_fld (by simp) _ s).fld (by simp) _).fld (by simp) _).fld (by simp) _

/-- A CQ that enters ENABLING. -/
theorem cqEnabling_shows (n : Nat) (s : State) : ((cqEnabling n).run s).fld Fld.QM_CQ_STATUS.FUNC_STATE n = Fn.enabling ∧
    ((cqEnabling n).run s).bit Fld.QM_CQ_CTRL.ENABLE n = true ∧ ((cqEnabling n).run s).fld Fld.QM_CQ_STATUS.DISCARDED n = 0 := by
  simp only [cqEnabling, run_cons, run_nil, run_raise, run_putN, run_clear]
  refine ⟨?_, ?_, ?_⟩
  · rw [fld_fld_ne (by decide), fld_fld_ne (by decide), fld_fld_ne (by decide), fld_fld_same]; rfl
  · rw [bit_fld_ne (by decide), bit_fld_ne (by decide), bit_fld_ne (by decide), bit_fld_ne (by decide), bit_fld_one rfl]
  · rw [fld_fld_same]; rfl

/-- An SQ that is ON starts DISABLING. -/
theorem sqDisable_shows {n : Nat} {s : State} (hon : s.fld Fld.QM_SQ_STATUS.FUNC_STATE n = Fn.on) :
    ((sqDisable n).run s).fld Fld.QM_SQ_STATUS.FUNC_STATE n = Fn.disabling ∧ ((sqDisable n).run s).bit Fld.QM_SQ_CTRL.ENABLE n = false ∧
    ((sqDisable n).run s).q = s.q ∧
    keepsBut [(Fld.QM_SQ_CTRL.ENABLE, n), (Fld.QM_SQ_STATUS.FUNC_STATE, n), (Fld.QM_SQ_STATUS.PENDING_ENABLE, n)] s ((sqDisable n).run s) := by
  have hoff : Fn.on ≠ Fn.off := by decide
  simp only [sqDisable, run_read, hon, if_neg hoff, run_cons, run_nil, run_putN, run_clear]
  refine ⟨?_, ?_, rfl, ?_⟩
  · rw [fld_fld_same]; rfl
  · rw [bit_fld_ne (by decide), bit_fld_ne (by decide), bit_fld_zero]
  · exact ((keepsBut_fld (by simp) _ s).fld (by simp) _).fld (by simp) _

/-- A CQ that is ON starts DISABLING, unless an SQ is bound to it. -/
theorem cqDisable_shows {n : Nat} {s : State} (hon : s.fld Fld.QM_CQ_STATUS.FUNC_STATE n = Fn.on) (hfree : s.cqBound n = false) :
    ((cqDisable n).run s).fld Fld.QM_CQ_STATUS.FUNC_STATE n = Fn.disabling ∧ ((cqDisable n).run s).bit Fld.QM_CQ_CTRL.ENABLE n = false ∧
    ((cqDisable n).run s).q = s.q ∧
    keepsBut [(Fld.QM_CQ_CTRL.ENABLE, n), (Fld.QM_CQ_STATUS.FUNC_STATE, n)] s ((cqDisable n).run s) := by
  have herror : Fn.on ≠ Fn.error := by decide
  have hoff : Fn.on ≠ Fn.off := by decide
  have hdisabling : Fn.on ≠ Fn.disabling := by decide
  simp only [cqDisable, run_read, hon, if_neg herror, if_neg hoff, if_neg hdisabling, hfree, Bool.false_eq_true, if_false, run_cons, run_nil,
    run_putN, run_clear]
  refine ⟨?_, ?_, rfl, ?_⟩
  · rw [fld_fld_same]; rfl
  · rw [bit_fld_ne (by decide), bit_fld_zero]
  · exact (keepsBut_fld (by simp) _ s).fld (by simp) _

end Sys2Proof.Machine

/-! SUPPORT. The proof of the statement of queues that are enabled and disabled (file 09; Machine/Queues.lean). -/

namespace Sys2Proof.Machine

/-! ### Written through their registers (R303) -/

section
variable {n : Nat} {s : State}

theorem qmSqEnable_enables (hn : n = s.fld Fld.QM_SQ_INDEX.SQ) (hoff : s.fld Fld.QM_SQ_STATUS.FUNC_STATE n = Fn.off) (hgood : s.sqRefused n = false) :
    ∃ t, exec .qmSqEnable s = .next t ∧ t.fld Fld.QM_SQ_STATUS.FUNC_STATE n = Fn.enabling ∧ t.bit Fld.QM_SQ_CTRL.ENABLE n = true ∧
      n ∈ t.q.sqTaken ∧ keepsBut [(Fld.QM_SQ_CTRL.ENABLE, n), (Fld.QM_SQ_STATUS.FUNC_STATE, n), (Fld.QM_SQ_STATUS.ERR_KIND, n),
        (Fld.QM_SQ_STATUS.PENDING_ENABLE, n)] s t := by
  subst hn
  have hrun : sqEnableReg.run s.quiet = (sqEnabling (s.fld Fld.QM_SQ_INDEX.SQ)).run ((takeSq (s.fld Fld.QM_SQ_INDEX.SQ)).run s.quiet) := by
    simp only [sqEnableReg, run_read, run_cons, run_nil, quiet_fld, hoff, if_true, show s.quiet.sqRefused _ = false from hgood,
      Bool.false_eq_true, if_false]
  obtain ⟨hstate, henable, hkept⟩ := sqEnabling_shows (s.fld Fld.QM_SQ_INDEX.SQ) ((takeSq (s.fld Fld.QM_SQ_INDEX.SQ)).run s.quiet)
  refine finish_next (p := sqEnableReg) ?_
  rw [hrun]
  exact ⟨hstate, henable, mem_sqTaken_takeSq _ s.quiet, hkept⟩

theorem qmSqEnable_refused (hn : n = s.fld Fld.QM_SQ_INDEX.SQ) (hoff : s.fld Fld.QM_SQ_STATUS.FUNC_STATE n = Fn.off) (hbad : s.sqRefused n = true) :
    ∃ t, exec .qmSqEnable s = .next t ∧ t.bit Fld.QM_EVENT.CFG_REFUSED = true ∧ keepsBut [(Fld.QM_EVENT.CFG_REFUSED, 0)] s t := by
  subst hn
  have hrun : sqEnableReg.run s.quiet = (raise Fld.QM_EVENT.CFG_REFUSED).run ((takeSq (s.fld Fld.QM_SQ_INDEX.SQ)).run s.quiet) := by
    simp only [sqEnableReg, run_read, run_cons, run_nil, quiet_fld, hoff, if_true, show s.quiet.sqRefused _ = true from hbad]
  refine finish_next (p := sqEnableReg) ?_
  rw [hrun]
  exact ⟨bit_fld_one rfl _ _, ((keepsBut_quiet _ s).q _).fld (by simp) _⟩

theorem qmCqEnable_enables (hn : n = s.fld Fld.QM_CQ_INDEX.CQ) (hoff : s.fld Fld.QM_CQ_STATUS.FUNC_STATE n = Fn.off) (hgood : s.cqRefused n = false) :
    ∃ t, exec .qmCqEnable s = .next t ∧ t.fld Fld.QM_CQ_STATUS.FUNC_STATE n = Fn.enabling ∧ t.bit Fld.QM_CQ_CTRL.ENABLE n = true ∧
      t.fld Fld.QM_CQ_STATUS.DISCARDED n = 0 ∧ n ∈ t.q.cqTaken := by
  subst hn
  have hrun : cqEnableReg.run s.quiet = (cqEnabling (s.fld Fld.QM_CQ_INDEX.CQ)).run ((takeCq (s.fld Fld.QM_CQ_INDEX.CQ)).run s.quiet) := by
    simp only [cqEnableReg, run_read, run_cons, run_nil, quiet_fld, hoff, if_true, show s.quiet.cqRefused _ = false from hgood,
      Bool.false_eq_true, if_false]
  obtain ⟨hstate, henable, hcount⟩ := cqEnabling_shows (s.fld Fld.QM_CQ_INDEX.CQ) ((takeCq (s.fld Fld.QM_CQ_INDEX.CQ)).run s.quiet)
  refine finish_next (p := cqEnableReg) ?_
  rw [hrun]
  exact ⟨hstate, henable, hcount, mem_cqTaken_takeCq _ s.quiet⟩

theorem run_cqDisable_bound (hon : s.fld Fld.QM_CQ_STATUS.FUNC_STATE n = Fn.on) (hbound : s.cqBound n = true) :
    (cqDisable n).run s = (raise Fld.QM_EVENT.CFG_REFUSED).run s := by
  have herror : Fn.on ≠ Fn.error := by decide
  have hoff : Fn.on ≠ Fn.off := by decide
  have hdisabling : Fn.on ≠ Fn.disabling := by decide
  simp only [cqDisable, run_read, hon, if_neg herror, if_neg hoff, if_neg hdisabling, hbound, if_true]

/-! ### Reaching ON and OFF (R285, R303) -/

theorem sqEnabled_on (henabling : s.fld Fld.QM_SQ_STATUS.FUNC_STATE n = Fn.enabling) : ∃ t, exec (.queueEnabled false n) s = .next t ∧
    t.fld Fld.QM_SQ_STATUS.FUNC_STATE n = Fn.on ∧ t.fld Fld.QM_SQ_INDICES.HEAD n = 0 ∧ t.fld Fld.QM_SQ_INDICES.TAIL n = 0 := by
  refine whenP_next (by rw [henabling]; rfl) (finish_next ?_)
  rw [run_cons, run_cons, run_cons, run_cons, run_nil]
  have hstay := keepsQueues_completeWaiting 0x01 n St.success n 0 ((putN Fld.QM_SQ_STATUS.FUNC_STATE n Fn.on).run
    ((putN Fld.QM_SQ_INDICES.TAIL n 0).run ((putN Fld.QM_SQ_INDICES.HEAD n 0).run s.quiet)))
  refine ⟨?_, ?_, ?_⟩
  · rw [hstay.sq _ (by simp [sqKeptFields]), run_putN, fld_fld_same]; rfl
  · rw [hstay.sq _ (by simp [sqKeptFields]), run_putN, fld_fld_ne (by decide), run_putN, fld_fld_ne (by decide), run_putN, fld_fld_same]; rfl
  · rw [hstay.sq _ (by simp [sqKeptFields]), run_putN, fld_fld_ne (by decide), run_putN, fld_fld_same]; rfl

/-- The rows of the fields that follow from the holding store. -/
def heldRows : List Nat := [Fld.QM_CQ_STATUS.HELD.row, Fld.QM_STATUS.HELD.row, Fld.QM_CQ_STATUS.FULL.row, Fld.QM_EVENT.BACKPRESSURE.row,
  Fld.QM_CQ_STATUS.BACKPRESSURE.row, Fld.QM_EVENT.HOLD_FULL.row, Fld.QM_INS_STATUS.IDLE.row]

theorem keepsRows_refreshCq (c : Nat) : KeepsRows heldRows (refreshCq c) :=
  keepsRows_read fun _ => keepsRows_cons (keepsRows_putN (by decide) _ _) (keepsRows_cons (keepsRows_putN (by decide) _ _)
    (keepsRows_cons (keepsRows_putN (by decide) _ _) (keepsRows_cons (keepsRows_whenP (keepsRows_putN (by decide) _ _))
      (keepsRows_cons (keepsRows_putN (by decide) _ _) (keepsRows_cons (keepsRows_whenP (keepsRows_putN (by decide) _ _))
        (keepsRows_cons (keepsRows_putN (by decide) _ _) keepsRows_nil))))))

theorem refreshCq_q (c : Nat) (s : State) : ((refreshCq c).run s).q = s.q := run_q (refreshCq_within (pm := 0x80) (by decide) c) (by decide) s

theorem cqEnabled_on (henabling : s.fld Fld.QM_CQ_STATUS.FUNC_STATE n = Fn.enabling) (hnone : s.waiting 0x03 n = [])
    (hq : s.fld Fld.QM_CQ_CFG.Q n ≠ 0) : ∃ t, exec (.queueEnabled true n) s = .next t ∧
    t.fld Fld.QM_CQ_STATUS.FUNC_STATE n = Fn.on ∧ t.fld Fld.QM_CQ_INDICES.HEAD n = 0 ∧ t.fld Fld.QM_CQ_INDICES.TAIL n = 0 := by
  refine whenP_next (by rw [henabling]; rfl) (finish_next ?_)
  have hwaiting (u : State) (hu : u.q = s.q) : (completeWaiting 0x03 n St.success n 0).run u = u := by
    have hlist : u.waiting 0x03 n = [] := by rw [State.waiting, hu]; exact hnone
    rw [completeWaiting, run_read, hlist]; rfl
  rw [run_cons, run_cons, run_cons, run_cons, run_cons, run_cons, run_nil, run_whenP, if_neg (by simpa using hq), hwaiting]
  case hu => exact refreshCq_q n _
  refine ⟨?_, ?_, ?_⟩
  · rw [keepsRows_refreshCq n _ _ _ (by decide), run_putN, fld_fld_same]; rfl
  · rw [keepsRows_refreshCq n _ _ _ (by decide), run_putN, fld_fld_ne (by decide), run_putN, fld_fld_ne (by decide), run_putN, fld_fld_same]; rfl
  · rw [keepsRows_refreshCq n _ _ _ (by decide), run_putN, fld_fld_ne (by decide), run_putN, fld_fld_same]; rfl

theorem sqDisabled_off (hdisabling : s.fld Fld.QM_SQ_STATUS.FUNC_STATE n = Fn.disabling) (hidle : ∀ e ∈ s.q.cmds, e.2.sq ≠ n)
    (hpending : s.bit Fld.QM_SQ_STATUS.PENDING_ENABLE n = false) : ∃ t, exec (.queueDisabled false n) s = .next t ∧
    t.fld Fld.QM_SQ_STATUS.FUNC_STATE n = Fn.off ∧ t.q.sqTaken = s.q.sqTaken.erase n := by
  have hnone : (s.q.cmds.any fun e => e.2.sq == n) = false := by
    rw [List.any_eq_false]
    exact fun e he => by simpa using hidle e he
  refine whenP_next (by rw [hdisabling, hnone]; rfl) (finish_next ?_)
  rw [sqOff, run_read, run_cons, run_cons, run_cons, run_cons, run_nil, run_whenP, quiet_bit, hpending, if_neg Bool.false_ne_true]
  have hstay := keepsQueues_completeWaiting 0x02 n St.success 0 0
  refine ⟨?_, ?_⟩
  · rw [(hstay _).sq _ (by simp [sqKeptFields]), fld_modQ, run_putN, fld_fld_same]; rfl
  · rw [(hstay _).sqTaken]; rfl

theorem cqDisabled_off (hdisabling : s.fld Fld.QM_CQ_STATUS.FUNC_STATE n = Fn.disabling) (hheld : s.heldFor n = 0) (hfree : s.cqBound n = false)
    (hpending : s.bit Fld.QM_CQ_STATUS.PENDING_ENABLE n = false) : ∃ t, exec (.queueDisabled true n) s = .next t ∧
    t.fld Fld.QM_CQ_STATUS.FUNC_STATE n = Fn.off ∧ t.q.cqTaken = s.q.cqTaken.erase n := by
  refine whenP_next (by rw [hdisabling, hheld, hfree]; rfl) (finish_next ?_)
  rw [cqOff, run_read, run_cons, run_cons, run_cons, run_cons, run_nil, run_whenP, quiet_bit, hpending, if_neg Bool.false_ne_true]
  have hstay := keepsQueues_completeWaiting 0x04 n St.success 0 0
  refine ⟨(hstay _).cqOff n ?_, ?_⟩
  · rw [fld_modQ, run_putN, fld_fld_same]; rfl
  · rw [(hstay _).cqTaken]; rfl

end

/-! ### The statement -/

/-- Settles O15: an enable or a disable is a few writes of one context's fields; a queue that reaches ON or OFF does so before the commands that wait
for it complete, and completing a command leaves the queues (`keepsQueues_complete`). -/
theorem queuesAreEnabledAndDisabled : Obligations.QueuesAreEnabledAndDisabled := by
  unfold Obligations.QueuesAreEnabledAndDisabled
  refine ⟨fun _ _ => qmSqEnable_enables, fun _ _ => qmSqEnable_refused, ?sqDisable, fun _ _ => qmCqEnable_enables, ?cqDisable, ?cqBound,
    fun _ _ => sqEnabled_on, fun _ _ => cqEnabled_on, fun _ _ => sqDisabled_off, fun _ _ => cqDisabled_off, ?cache⟩
  case sqDisable =>
    rintro n s rfl hon
    exact finish_next (sqDisable_shows (s := s.quiet) hon)
  case cqDisable =>
    rintro n s rfl hon hfree
    obtain ⟨hstate, henable, -, hkept⟩ := cqDisable_shows (s := s.quiet) hon hfree
    exact finish_next ⟨hstate, henable, hkept⟩
  case cqBound =>
    rintro n s rfl hon hbound
    refine finish_next ?_
    rw [run_cqDisable_bound (s := s.quiet) hon hbound]
    exact ⟨bit_fld_one rfl _ _, keepsBut_fld (by simp) _ s.quiet⟩
  case cache =>
    exact fun i s => finish_next (p := cacheInval true i) ⟨rfl, rfl, keepsBut_quiet _ s⟩

end Sys2Proof.Machine

/-! SUPPORT. The proof of the statement of the commands of the queue manager (file 09; Machine/Queues.lean). -/

namespace Sys2Proof.Machine

/-! ### The fields of an entry (R289) -/

/-- Bytes spell a number below their count of bits. -/
theorem ofBytes_lt (l : List Byte) : ofBytes l < 256 ^ l.length := by
  induction l with
  | nil => exact Nat.one_pos
  | cons b rest ih =>
    have hb := b.isLt
    rw [ofBytes, List.length_cons, Nat.pow_succ]
    omega

/-- A field of `len` bytes of an entry. -/
theorem Cmd.at_lt (c : Cmd) (off len : Nat) : c.at off len < 256 ^ len :=
  (ofBytes_lt _).trans_le (Nat.pow_le_pow_right (by decide) (List.length_take_le _ _))

theorem Cmd.at_byte (c : Cmd) (off : Nat) : c.at off 1 < 2 ^ 8 := c.at_lt off 1

/-- The base of a ring is held in two fields, without its low 12 bits. -/
theorem base_of_fields {base : Nat} (hlt : base < 2 ^ 64) (halign : base % 4096 = 0) :
    base / 2 ^ 32 % 2 ^ 32 * 2 ^ 32 + base / 4096 % 2 ^ 20 * 4096 = base := by omega

/-! ### Commands that go on (R303, R310) -/

theorem stageOf_running {tag progress : Nat} {c : Cmd} {s : State} (hcmd : s.cmd tag = some c) :
    ((running tag progress).run s).stageOf tag = some .running := by
  rw [State.stageOf, running, cmd_modCmd_same, hcmd]; rfl

/-- A fetched command whose program completes it in a state that reports and takes completions as before is gone, and reported. -/
theorem withCmd_completes {tag op status : Nat} {k : Cmd → Prog} {s u : State} {c : Cmd} (hstart : s.startable tag op = some c)
    (htakes : s.takesCompletion c = true) (hrun : (k c).run s.quiet = (complete tag status).run u) (hkept : s.quiet.CompletionKept u) :
    ∃ t, finish (withCmd tag op k) s = .next t ∧ t.cmd tag = none ∧ s.reports t c status = true := by
  refine finish_next (P := fun t => t.cmd tag = none ∧ s.reports t c status = true) ?_
  rw [withCmd_run (s := s.quiet) hstart, hrun]
  exact hkept.completes (s := s.quiet) (startable_cmd hstart) htakes status

/-! ### NOP -/

/-- A completion that goes straight into its ring writes the 16 bytes of its entry there, and nothing else of host memory. -/
theorem complete_hostKept {tag status q : Nat} {c : Cmd} {s : State} (hcmd : s.cmd tag = some c)
    (hq : s.cqOf c.ins (s.fld Fld.QM_SQ_CFG.CQ c.sq) = some q) (hstraight : s.straight c q = true) :
    hostKept (s.cqBase q + 16 * (s.fld Fld.QM_CQ_INDICES.TAIL q % s.cqSize q)) 16 s ((complete tag status).run s) := by
  simp only [State.straight, Bool.and_eq_true, Bool.not_eq_true'] at hstraight
  obtain ⟨⟨⟨⟨⟨hforced, hdiscards⟩, hopen⟩, hissue⟩, hlog⟩, hidle⟩ := hstraight
  have hone : ∃ e : CqEntry, (completeOne tag status 0 0).run s = (refreshCq q).run ((freeTag tag).run ((postEntry q e).run s)) := by
    simp only [completeOne, deliver, run_read, hcmd, hforced, hq, hdiscards, hopen, Bool.false_eq_true, if_false, if_true, run_cons, run_nil]
    exact ⟨_, rfl⟩
  obtain ⟨e, hone⟩ := hone
  have hwakes : State.idleWaits ((refreshCq q).run ((freeTag tag).run ((postEntry q e).run s))) = false := by
    rw [State.idleWaits, refreshCq_q]
    refine freeTag_idleWaits tag ?_
    rw [State.idleWaits, postEntry_q hissue]
    exact hidle
  have hwritten : ((complete tag status).run s).host = writeBytes memDefault s.host (s.cqBase q + 16 * (s.fld Fld.QM_CQ_INDICES.TAIL q % s.cqSize q))
      (e.bytes (s.fld Fld.QM_CQ_INDICES.TAIL q / s.cqSize q % 2 == 0)) := by
    rw [complete, run_seq, hone, wakeIdle_none hwakes, run_host (refreshCq_within (pm := 0x80) (by decide) _) (by decide), freeTag_host,
      postEntry_host hissue hlog]
  simpa only [CqEntry.bytes_length] using hostKept_of_writeBytes hwritten

theorem nop_completes {tag : Nat} {c : Cmd} {s : State} (hstart : s.startable tag 0x00 = some c) (htakes : s.takesCompletion c = true) :
    ∃ t, exec (.nop tag) s = .next t ∧ t.cmd tag = none ∧ s.reports t c St.success = true ∧
      ∀ q, s.cqOf c.ins (s.fld Fld.QM_SQ_CFG.CQ c.sq) = some q → s.straight c q = true →
        hostKept (s.cqBase q + 16 * (s.fld Fld.QM_CQ_INDICES.TAIL q % s.cqSize q)) 16 s t := by
  have hcmd := startable_cmd hstart
  refine finish_next (p := withCmd tag 0x00 fun _ => complete tag St.success) ?_
  rw [withCmd_run (s := s.quiet) hstart]
  exact ⟨complete_frees tag _ _ _ s.quiet c hcmd htakes, complete_reports tag _ _ _ s.quiet c hcmd,
    fun q hq hstraight => complete_hostKept (s := s.quiet) hcmd hq hstraight⟩

/-! ### Queues created (R303) -/

section
variable {tag n : Nat} {c : Cmd} {s : State}

/-- The fields that CREATE_SQ gives a context (Table 09-7). -/
def sqGiven (n : Nat) (c : Cmd) : Prog :=
  seqs [putN Fld.QM_SQ_CFG.OWNER n c.ins, putN Fld.QM_SQ_CFG.Q n (c.at 4 1), putN Fld.QM_SQ_CFG.CQ n (c.at 5 1),
    putN Fld.QM_SQ_CFG.SIZE_LOG n (bitsAt (c.at 6 1) 0 4), putN Fld.QM_SQ_CTRL.CACHED n (bitsAt (c.at 6 1) 4 1),
    putN Fld.QM_SQ_BASE_LO.BASE_LO n (c.at 8 8 / 4096), putN Fld.QM_SQ_BASE_HI.BASE_HI n (c.at 8 8 / 2 ^ 32)]

/-- The fields that CREATE_CQ gives a context (Table 09-7). -/
def cqGiven (n : Nat) (c : Cmd) : Prog :=
  seqs [putN Fld.QM_CQ_CFG.OWNER n c.ins, putN Fld.QM_CQ_CFG.Q n (c.at 4 1), putN Fld.QM_CQ_CFG.SIZE_LOG n (bitsAt (c.at 6 1) 0 4),
    putN Fld.QM_CQ_CTRL.VECTOR n (c.at 16 2), putN Fld.QM_CQ_CTRL.IRQ_EN n (c.at 18 1),
    putN Fld.QM_CQ_BASE_LO.BASE_LO n (c.at 8 8 / 4096), putN Fld.QM_CQ_BASE_HI.BASE_HI n (c.at 8 8 / 2 ^ 32)]

/-- What the context of an SQ shows of the CREATE_SQ that gave it. -/
structure State.ShowsSq (t : State) (n : Nat) (c : Cmd) : Prop where
  owner : t.fld Fld.QM_SQ_CFG.OWNER n = c.ins % 4096
  q : t.fld Fld.QM_SQ_CFG.Q n = c.at 4 1
  cq : t.fld Fld.QM_SQ_CFG.CQ n = c.at 5 1
  size : t.fld Fld.QM_SQ_CFG.SIZE_LOG n = bitsAt (c.at 6 1) 0 4
  base : t.sqBase n = c.at 8 8

/-- What the context of a CQ shows of the CREATE_CQ that gave it. -/
structure State.ShowsCq (t : State) (n : Nat) (c : Cmd) : Prop where
  owner : t.fld Fld.QM_CQ_CFG.OWNER n = c.ins % 4096
  q : t.fld Fld.QM_CQ_CFG.Q n = c.at 4 1
  size : t.fld Fld.QM_CQ_CFG.SIZE_LOG n = bitsAt (c.at 6 1) 0 4
  vector : t.fld Fld.QM_CQ_CTRL.VECTOR n = c.at 16 2
  base : t.cqBase n = c.at 8 8

theorem sqGiven_shows (halign : c.at 8 8 % 4096 = 0) (n : Nat) (s : State) : ((sqGiven n c).run s).ShowsSq n c := by
  simp only [sqGiven, run_cons, run_nil, run_putN]
  constructor
  · rw [fld_fld_ne (by decide), fld_fld_ne (by decide), fld_fld_ne (by decide), fld_fld_ne (by decide), fld_fld_ne (by decide),
      fld_fld_ne (by decide), fld_fld_same]; rfl
  · rw [fld_fld_ne (by decide), fld_fld_ne (by decide), fld_fld_ne (by decide), fld_fld_ne (by decide), fld_fld_ne (by decide), fld_fld_same]
    exact Nat.mod_eq_of_lt (c.at_byte 4)
  · rw [fld_fld_ne (by decide), fld_fld_ne (by decide), fld_fld_ne (by decide), fld_fld_ne (by decide), fld_fld_same]
    exact Nat.mod_eq_of_lt (c.at_byte 5)
  · rw [fld_fld_ne (by decide), fld_fld_ne (by decide), fld_fld_ne (by decide)]
    exact fld_fld_bitsAt Fld.QM_SQ_CFG.SIZE_LOG _ _ _ _
  · rw [State.sqBase, fld_fld_same, fld_fld_ne (by decide), fld_fld_same]
    exact base_of_fields (c.at_lt 8 8) halign

theorem cqGiven_shows (halign : c.at 8 8 % 4096 = 0) (hvector : c.at 16 2 ≤ 2047) (n : Nat) (s : State) :
    ((cqGiven n c).run s).ShowsCq n c := by
  simp only [cqGiven, run_cons, run_nil, run_putN]
  constructor
  · rw [fld_fld_ne (by decide), fld_fld_ne (by decide), fld_fld_ne (by decide), fld_fld_ne (by decide), fld_fld_ne (by decide),
      fld_fld_ne (by decide), fld_fld_same]; rfl
  · rw [fld_fld_ne (by decide), fld_fld_ne (by decide), fld_fld_ne (by decide), fld_fld_ne (by decide), fld_fld_ne (by decide), fld_fld_same]
    exact Nat.mod_eq_of_lt (c.at_byte 4)
  · rw [fld_fld_ne (by decide), fld_fld_ne (by decide), fld_fld_ne (by decide), fld_fld_ne (by decide)]
    exact fld_fld_bitsAt Fld.QM_CQ_CFG.SIZE_LOG _ _ _ _
  · rw [fld_fld_ne (by decide), fld_fld_ne (by decide), fld_fld_ne (by decide), fld_fld_same]
    exact Nat.mod_eq_of_lt (Nat.lt_succ_of_le hvector)
  · rw [State.cqBase, fld_fld_same, fld_fld_ne (by decide), fld_fld_same]
    exact base_of_fields (c.at_lt 8 8) halign

theorem sqEnabling_q (n : Nat) (s : State) : ((sqEnabling n).run s).q = s.q := rfl
theorem sqGiven_q (n : Nat) (c : Cmd) (s : State) : ((sqGiven n c).run s).q = s.q := rfl

theorem keepsRows_sqEnabling (n : Nat) : KeepsRows [Fld.QM_SQ_CTRL.ENABLE.row, Fld.QM_SQ_STATUS.FUNC_STATE.row, Fld.QM_SQ_STATUS.ERR_KIND.row,
    Fld.QM_SQ_STATUS.PENDING_ENABLE.row] (sqEnabling n) :=
  keepsRows_cons (keepsRows_putN (by decide) _ _) (keepsRows_cons (keepsRows_putN (by decide) _ _)
    (keepsRows_cons (keepsRows_putN (by decide) _ _) (keepsRows_cons (keepsRows_putN (by decide) _ _) keepsRows_nil)))

theorem cqEnabling_q (n : Nat) (s : State) : ((cqEnabling n).run s).q = s.q := rfl
theorem cqGiven_q (n : Nat) (c : Cmd) (s : State) : ((cqGiven n c).run s).q = s.q := rfl

theorem keepsRows_cqEnabling (n : Nat) : KeepsRows [Fld.QM_CQ_CTRL.ENABLE.row, Fld.QM_CQ_STATUS.FUNC_STATE.row, Fld.QM_CQ_STATUS.ERR_KIND.row,
    Fld.QM_CQ_STATUS.PENDING_ENABLE.row, Fld.QM_CQ_STATUS.DISCARDED.row] (cqEnabling n) :=
  keepsRows_cons (keepsRows_putN (by decide) _ _) (keepsRows_cons (keepsRows_putN (by decide) _ _)
    (keepsRows_cons (keepsRows_putN (by decide) _ _) (keepsRows_cons (keepsRows_putN (by decide) _ _)
      (keepsRows_cons (keepsRows_putN (by decide) _ _) keepsRows_nil))))

theorem State.ShowsSq.sqEnabling (h : s.ShowsSq n c) : ((sqEnabling n).run s).ShowsSq n c := by
  have hkept := keepsRows_sqEnabling n s
  exact ⟨(hkept _ n (by decide)).trans h.owner, (hkept _ n (by decide)).trans h.q, (hkept _ n (by decide)).trans h.cq,
    (hkept _ n (by decide)).trans h.size, by rw [State.sqBase, hkept _ n (by decide), hkept _ n (by decide)]; exact h.base⟩

theorem State.ShowsCq.cqEnabling (h : s.ShowsCq n c) : ((cqEnabling n).run s).ShowsCq n c := by
  have hkept := keepsRows_cqEnabling n s
  exact ⟨(hkept _ n (by decide)).trans h.owner, (hkept _ n (by decide)).trans h.q, (hkept _ n (by decide)).trans h.size,
    (hkept _ n (by decide)).trans h.vector, by rw [State.cqBase, hkept _ n (by decide), hkept _ n (by decide)]; exact h.base⟩

theorem createSq_enables {d : Nat} (hstart : s.startable tag 0x01 = some c) (hnumber : c.at 4 1 ≠ 0) (hsize : 4 ≤ bitsAt (c.at 6 1) 0 4)
    (halign : c.at 8 8 % 4096 = 0) (hcq : s.cqOf c.ins (c.at 5 1) = some d) (hon : s.fld Fld.QM_CQ_STATUS.FUNC_STATE d = Fn.on)
    (hnew : s.sqOf c.ins (c.at 4 1) = none) (hfree : freeContext s.q.sqTaken = some n) :
    ∃ t, exec (.createSq tag) s = .next t ∧ t.stageOf tag = some .running ∧ t.fld Fld.QM_SQ_STATUS.FUNC_STATE n = Fn.enabling ∧
      t.fld Fld.QM_SQ_CFG.OWNER n = c.ins % 4096 ∧ t.fld Fld.QM_SQ_CFG.Q n = c.at 4 1 ∧ t.fld Fld.QM_SQ_CFG.CQ n = c.at 5 1 ∧
      t.fld Fld.QM_SQ_CFG.SIZE_LOG n = bitsAt (c.at 6 1) 0 4 ∧ t.sqBase n = c.at 8 8 ∧ n ∈ t.q.sqTaken := by
  have hcq' : s.quiet.cqOf c.ins (c.at 5 1) = some d := hcq
  have hnew' : s.quiet.sqOf c.ins (c.at 4 1) = none := hnew
  have hfree' : freeContext s.quiet.q.sqTaken = some n := hfree
  refine ⟨(sqEnabling n).run ((sqGiven n c).run ((running tag n).run ((takeSq n).run s.quiet))), congrArg Host.Outcome.next ?_, ?_⟩
  · rw [← State.quiet, withCmd_run (s := s.quiet) hstart, run_read]
    simp only [hcq', hnew', hfree', hnumber, halign, hon, Nat.not_lt.mpr hsize, quiet_fld, beq_self_eq_true, Bool.not_true, Bool.false_eq_true,
      ne_eq, not_true_eq_false, Option.isSome_none, or_self, if_false]
    rfl
  · have hcmd : ((takeSq n).run s.quiet).cmd tag = some c := startable_cmd hstart
    have hshows := (sqGiven_shows halign n ((running tag n).run ((takeSq n).run s.quiet))).sqEnabling
    refine ⟨?_, (sqEnabling_shows n _).1, hshows.owner, hshows.q, hshows.cq, hshows.size, hshows.base, ?_⟩
    · rw [State.stageOf, State.cmd, sqEnabling_q, sqGiven_q]
      exact stageOf_running hcmd
    · rw [sqEnabling_q, sqGiven_q]
      exact mem_sqTaken_takeSq n s.quiet

theorem createCq_enables (hstart : s.startable tag 0x03 = some c) (hnumber : c.at 4 1 ≠ 0) (hsize : 4 ≤ bitsAt (c.at 6 1) 0 4)
    (halign : c.at 8 8 % 4096 = 0) (hrange : s.vecInRange c.ins (c.at 16 2) = true) (hvector : c.at 16 2 ≤ 2047)
    (hnew : s.cqOf c.ins (c.at 4 1) = none) (hfree : freeContext s.q.cqTaken = some n) :
    ∃ t, exec (.createCq tag) s = .next t ∧ t.stageOf tag = some .running ∧ t.fld Fld.QM_CQ_STATUS.FUNC_STATE n = Fn.enabling ∧
      t.fld Fld.QM_CQ_CFG.OWNER n = c.ins % 4096 ∧ t.fld Fld.QM_CQ_CFG.Q n = c.at 4 1 ∧
      t.fld Fld.QM_CQ_CFG.SIZE_LOG n = bitsAt (c.at 6 1) 0 4 ∧ t.fld Fld.QM_CQ_CTRL.VECTOR n = c.at 16 2 ∧ t.cqBase n = c.at 8 8 ∧
      n ∈ t.q.cqTaken := by
  have hrange' : s.quiet.vecInRange c.ins (c.at 16 2) = true := hrange
  have hnew' : s.quiet.cqOf c.ins (c.at 4 1) = none := hnew
  have hfree' : freeContext s.quiet.q.cqTaken = some n := hfree
  refine ⟨(cqEnabling n).run ((cqGiven n c).run ((running tag n).run ((takeCq n).run s.quiet))), congrArg Host.Outcome.next ?_, ?_⟩
  · rw [← State.quiet, withCmd_run (s := s.quiet) hstart, run_read]
    simp only [hrange', hnew', hfree', hnumber, halign, Nat.not_lt.mpr hsize, gt_iff_lt, Nat.not_lt.mpr hvector, Bool.not_true, Bool.false_eq_true,
      ne_eq, not_true_eq_false, Option.isSome_none, or_self, if_false]
    rfl
  · have hcmd : ((takeCq n).run s.quiet).cmd tag = some c := startable_cmd hstart
    have hshows := (cqGiven_shows halign hvector n ((running tag n).run ((takeCq n).run s.quiet))).cqEnabling
    refine ⟨?_, (cqEnabling_shows n _).1, hshows.owner, hshows.q, hshows.size, hshows.vector, hshows.base, ?_⟩
    · rw [State.stageOf, State.cmd, cqEnabling_q, cqGiven_q]
      exact stageOf_running hcmd
    · rw [cqEnabling_q, cqGiven_q]
      exact mem_cqTaken_takeCq n s.quiet

/-! ### Queues deleted (R303) -/

theorem deleteSq_disables (hstart : s.startable tag 0x02 = some c) (hnumber : c.at 4 1 ≠ 0) (hsq : s.sqOf c.ins (c.at 4 1) = some n)
    (hon : s.fld Fld.QM_SQ_STATUS.FUNC_STATE n = Fn.on) : ∃ t, exec (.deleteSq tag) s = .next t ∧ t.stageOf tag = some .running ∧
      t.fld Fld.QM_SQ_STATUS.FUNC_STATE n = Fn.disabling ∧ t.bit Fld.QM_SQ_CTRL.ENABLE n = false := by
  have hsq' : s.quiet.sqOf c.ins (c.at 4 1) = some n := hsq
  obtain ⟨hstate, henable, hq, -⟩ := sqDisable_shows (s := (running tag n).run s.quiet) hon
  refine ⟨(sqDisable n).run ((running tag n).run s.quiet), congrArg Host.Outcome.next ?_, ?_, hstate, henable⟩
  · rw [← State.quiet, withCmd_run (s := s.quiet) hstart, run_read, if_neg hnumber]
    simp only [hsq', run_cons, run_nil]
  · rw [State.stageOf, State.cmd, hq]
    exact stageOf_running (s := s.quiet) (startable_cmd hstart)

theorem deleteCq_disables (hstart : s.startable tag 0x04 = some c) (hnumber : c.at 4 1 ≠ 0) (hcq : s.cqOf c.ins (c.at 4 1) = some n)
    (hfree : s.cqBound n = false) (hon : s.fld Fld.QM_CQ_STATUS.FUNC_STATE n = Fn.on) : ∃ t, exec (.deleteCq tag) s = .next t ∧
      t.stageOf tag = some .running ∧ t.fld Fld.QM_CQ_STATUS.FUNC_STATE n = Fn.disabling ∧ t.bit Fld.QM_CQ_CTRL.ENABLE n = false := by
  have hcq' : s.quiet.cqOf c.ins (c.at 4 1) = some n := hcq
  have hfree' : s.quiet.cqBound n = false := hfree
  obtain ⟨hstate, henable, hq, -⟩ := cqDisable_shows (s := (running tag n).run s.quiet) hon hfree
  refine ⟨(cqDisable n).run ((running tag n).run s.quiet), congrArg Host.Outcome.next ?_, ?_, hstate, henable⟩
  · rw [← State.quiet, withCmd_run (s := s.quiet) hstart, run_read, if_neg hnumber]
    simp only [hcq', hfree', Bool.false_eq_true, if_false, run_cons, run_nil]
  · rw [State.stageOf, State.cmd, hq]
    exact stageOf_running (s := s.quiet) (startable_cmd hstart)

/-! ### WAIT_IDLE (R310) -/

theorem waitIdle_completes (hstart : s.startable tag 0x05 = some c) (halone : s.outstanding (c.at 4 2) tag = 0) (hheld : s.heldOf (c.at 4 2) = 0)
    (htakes : s.takesCompletion c = true) : ∃ t, exec (.waitIdle tag) s = .next t ∧ t.cmd tag = none ∧ s.reports t c St.success = true := by
  refine withCmd_completes hstart htakes ?_ (.refl s.quiet)
  rw [run_read, if_pos ⟨halone, hheld⟩]

theorem waitIdle_waits (hstart : s.startable tag 0x05 = some c) (hbusy : s.outstanding (c.at 4 2) tag ≠ 0 ∨ s.heldOf (c.at 4 2) ≠ 0) :
    ∃ t, exec (.waitIdle tag) s = .next t ∧ t.stageOf tag = some .running := by
  have hwaits : ¬(s.quiet.outstanding (c.at 4 2) tag = 0 ∧ s.quiet.heldOf (c.at 4 2) = 0) := not_and_or.mpr hbusy
  refine finish_next ?_
  rw [withCmd_run (s := s.quiet) hstart, run_read, if_neg hwaits]
  exact stageOf_running (startable_cmd hstart)

theorem waitIdleTimeout_completes (hcmd : s.cmd tag = some c) (hop : c.opcode = 0x05) (hstage : c.stage = .running) (hlimit : c.at 8 4 ≠ 0)
    (htakes : s.takesCompletion c = true) (hreach : s.reaches (c.progress + c.at 8 4 * 1000000) = true) :
    ∃ t, exec (.waitIdleTimeout tag) s = .next t ∧ t.cmd tag = none := by
  have hexec : exec (.waitIdleTimeout tag) s = finish (atNs (c.progress + c.at 8 4 * 1000000)
      (.read fun s => complete tag St.timeout (s.outstanding (c.at 4 2) tag))) s := by
    change execWaitIdleTimeout tag s = _
    simp only [execWaitIdleTimeout, hcmd, hop, hstage, beq_self_eq_true, bne_iff_ne.mpr hlimit, Bool.and_self, whenP, if_true]
  rw [hexec]
  exact atNs_next hreach fun _ => complete_frees tag _ _ _ _ c hcmd htakes

/-! ### INVALIDATE (R296) -/

/-- The fragment cache has no part in how a command is reported. -/
theorem reports_fragCache (k : QueueUnit → List (Nat × List Byte)) (s t : State) (c : Cmd) (status : Nat) :
    ((modQ fun u => { u with fragCache := k u }).run s).reports t c status = s.reports t c status := rfl

/-- The fragment tables that an INVALIDATE drops. -/
def dropNamed (c : Cmd) : Prog :=
  if c.at 4 1 = 0 then modQ fun u => { u with fragCache := u.fragCache.filter fun e => e.1 != fragKey c.ins (c.at 8 8) } else dropFrags c.ins

theorem invalidate_completes {keep : Nat × List Byte → Bool} (hstart : s.startable tag 0x06 = some c) (htakes : s.takesCompletion c = true)
    (hdrop : dropNamed c = modQ fun u => { u with fragCache := u.fragCache.filter keep }) :
    ∃ t, exec (.invalidate tag) s = .next t ∧ t.cmd tag = none ∧ s.reports t c St.success = true ∧ ∀ e ∈ t.q.fragCache, keep e = true := by
  have hcmd := startable_cmd hstart
  refine finish_next (p := withCmd tag 0x06 fun c => seqs [dropNamed c, complete tag St.success]) ?_
  rw [withCmd_run (s := s.quiet) hstart, run_cons, run_cons, run_nil, hdrop]
  have hreports := complete_reports tag St.success 0 0 ((modQ fun u => { u with fragCache := u.fragCache.filter keep }).run s.quiet) c hcmd
  rw [reports_fragCache] at hreports
  refine ⟨complete_frees tag _ _ _ _ c hcmd htakes, hreports, fun e he => ?_⟩
  rw [(keepsQueues_complete tag _ _ _ _).fragCache] at he
  exact (List.mem_filter.mp he).2

end

/-! ### The statement -/

/-- Settles O16: a command that ends at once is `complete` after writes that its completion does not depend on; a queue created or deleted is the
writes of `sqGiven` or `cqGiven` and a change of state, with the command running. -/
theorem queueManagementCommands : Obligations.QueueManagementCommands := by
  unfold Obligations.QueueManagementCommands
  refine ⟨fun _ _ _ => nop_completes, fun _ _ _ _ _ => createSq_enables, fun _ _ _ _ => deleteSq_disables, fun _ _ _ _ => createCq_enables,
    fun _ _ _ _ => deleteCq_disables, fun _ _ _ => waitIdle_completes, fun _ _ _ => waitIdle_waits, fun _ _ _ => waitIdleTimeout_completes,
    ?all, ?one⟩
  case all =>
    intro tag s c hstart hall htakes
    obtain ⟨t, ht, hgone, hreports, hdropped⟩ := invalidate_completes hstart htakes (if_neg hall)
    exact ⟨t, ht, hgone, hreports, fun e he => bne_iff_ne.mp (hdropped e he)⟩
  case one =>
    intro tag s c hstart hone htakes
    obtain ⟨t, ht, hgone, hreports, hdropped⟩ := invalidate_completes hstart htakes (if_pos hone)
    exact ⟨t, ht, hgone, hreports, fun e he => bne_iff_ne.mp (hdropped e he)⟩

end Sys2Proof.Machine
